-- ==== Sys2Proof/Word.lean ====
section
/-!
DEFINITION. The machine's words and the placing of fields in them. Registers are 32 bits wide (R20), bytes travel
and lie little-endian (R3).
-/

namespace Sys2Proof

/-- One register: 32 bits. -/
abbrev Word := BitVec 32

/-- One byte of the store, of the flash or of a packet. -/
abbrev Byte := BitVec 8

/-- The mask of the bits [hi:lo] of a word. -/
def fieldMask (hi lo : Nat) : Word := (BitVec.ofNat 32 (2 ^ (hi + 1 - lo) - 1)) <<< lo

/-- A value placed in the bits [hi:lo] of a word; what does not fit is dropped. -/
def placeField (hi lo v : Nat) : Word := (BitVec.ofNat 32 (v % 2 ^ (hi + 1 - lo))) <<< lo

/-- The bits [hi:lo] of a word as a number. -/
def getField (hi lo : Nat) (w : Word) : Nat := (w.toNat >>> lo) % 2 ^ (hi + 1 - lo)

/-- A word with the bits [hi:lo] replaced by `v`. -/
def putField (hi lo v : Nat) (w : Word) : Word := (w &&& ~~~fieldMask hi lo) ||| placeField hi lo v

end Sys2Proof
end

