-- ==== Sys2Proof/Syntax.lean ====
section
/-!
DEFINITION. The commands of the device: one constructor of `Instr` per row of spec/opcode_table.json. The table gives
its rows no operands; a command's operands here are what the spec lets the outside decide for it: who writes a register
and the data written, the bytes of a frame or packet, and what an analog part, the flash, the board or the link partner
does at that instant. A command that writes a register carries the whole data word; the bit and operation that name the
row are set in it by the command itself. A command named for an instant or a timeout asserts that its instant has come
(assumption 1).
-/

namespace Sys2Proof

/-- The reset kinds and their codes (R437). -/
inductive ResetKind where
  | por | pin | soft | watchdog | warm
deriving DecidableEq, Repr

/-- RESET_KIND of R57 and R437. -/
def ResetKind.code : ResetKind → Nat
  | .por => 0 | .pin => 1 | .soft => 2 | .watchdog => 3 | .warm => 4

/-- The requesters of the management fabric (R24). -/
inductive Requester where
  | mspi | mgq | dean | proctor
  | tutor (n : Fin 12)
deriving DecidableEq, Repr

/-- The requester code of DEV_MERR_INFO.REQ. -/
def Requester.code : Requester → Nat
  | .mspi => 0 | .mgq => 1 | .dean => 2 | .proctor => 3 | .tutor n => 4 + n.val

/-- How a flash operation ended: done, still busy past its limit (R72), or done with other content than written. -/
inductive FlashEnd where
  | done
  | busy
  | differs (content : List Byte)
deriving DecidableEq, Repr

/-- What array calibration measured of a path (R347), in each direction: the mean over tones of H_r / H_p with the delay slope removed, in
units of 2 ^ −30, the delay τ_p − τ_r in units of 2 ^ −22 samples of 983.04 MSps, and the despread SNR in 0.25 dB. -/
structure PathCal where
  txRe : Int
  txIm : Int
  txTau : Int
  rxRe : Int
  rxIm : Int
  rxTau : Int
  txSnr : Byte
  rxSnr : Byte
deriving DecidableEq, Repr

/-- What an instruction of a signal processor meets (R367, R371): nothing, a residue mismatch, a corrected or an uncorrectable
program word, or a corrected or an uncorrectable word of X, Y or Z. -/
inductive CoreUpset where
  | clean
  | residue
  | progCorrected
  | progUncorrectable
  | dataCorrected (mem : Fin 3)
  | dataUncorrectable (mem : Fin 3)
deriving DecidableEq, Repr

/-- What an access through the fabric meets beside the state: the error of the core-memory word that it reads (0 none, 1 corrected,
2 uncorrectable; R367), and whether the device key unseals for an attestation that it starts (R85). -/
structure BusEnv where
  memErr : Fin 3
  unseals : Bool
deriving DecidableEq, Repr

/-- The residue failures of one path of the downlink at the fetch of a carrier symbol (R235, R282). -/
structure DlMarks where
  path : Fin 64
  /-- A failure at stage 2 or 3 in the symbol; at stage 7 and at stage 9 now. -/
  residue : Bool
  cfrResidue : Bool
  pdResidue : Bool
deriving DecidableEq, Repr

/-- A 64-bit word of the store that has been hit since it was last written, by its index: with one wrong bit, or with two (R157). -/
structure StoreUpset where
  word : BitVec 24
  double : Bool
deriving DecidableEq, Repr
/-- The commands of spec/opcode_table.json, in its order. -/
inductive Instr where
  /-- R451: VDD_AON falls below 0.64 V for 1 µs or longer; all fields other than F return to reset, and 2 ms after VDD_AON rises above 0.70 V the start sequence begins at step 1. -/
  | powerOnReset (boardId : Fin 8) (flashMode : Fin 4) (detain : Nat) (refclk : Bool)
  /-- R438: RESET_N is held low; the device is held in reset and, on the rising edge, latches the straps and begins the start sequence. -/
  | pinReset (boardId : Fin 8) (flashMode : Fin 4) (detain : Nat) (refclk : Bool)
  /-- R452: VDD_IO stays below 1.45 V for 1 µs or longer, which acts as a PIN reset until VDD_IO has been above 1.55 V for 1 ms. -/
  | vddIoUndervoltage (boardId : Fin 8) (flashMode : Fin 4) (detain : Nat) (refclk : Bool)
  /-- R36: A write of SOFT with KEY 0xA7 starts a SOFT reset once the write has been answered. -/
  | devCtrlSoft (q : Requester) (data : Word)
  /-- R36: A write of WARM with KEY 0xA7 starts a WARM reset once the write has been answered; it is ignored before start step 13 and in Detention mode. -/
  | devCtrlWarm (q : Requester) (data : Word)
  /-- R447: A write of ERR_CLR clears DEV_MSPI_ERR, and the device then clears the bit. -/
  | devCtrlErrClr (q : Requester) (data : Word)
  /-- R439: BOOT_HEARTBEAT has not changed for 1 s after completion, so Proctor starts a SOFT reset of kind WATCHDOG. -/
  | watchdogExpiry
  /-- R60: DETAIN_N is held low for at least 10 µs, which forces Detention mode with cause FORCED_BY_PIN. -/
  | detainNAssert (starts : Nat)
  /-- R42: After the FL_RESET_N pulse and its wait, Proctor reads the flash ID, the SFDP density and both directory copies at start step 3. -/
  | startFlashProbe (fusesAgree : Bool) (flashId : Byte) (sfdp : Option Nat)
  /-- R62: The 1 ms spacing between flash ID tries at step 3 expires; the next try is made, and after the third failed try the attempt fails with cause 0x01. -/
  | flashIdRetry (flashId : Byte) (sfdp : Option Nat)
  /-- R59: Programming of a journal record ends, or the 3 ms poll expires; Proctor reads the record back and writes it once more, or reports the failure. -/
  | journalRecordReadback (read : Option (List Byte))
  /-- R15: The root synthesiser first locks; the fabric moves to CTL and FABRIC_ON_ROOT is set, then the start continues with the flash protocol switch. -/
  | rootLockReached (sfdpComplete : Bool)
  /-- R62: ROOT_LOCK is not reached within the 5 ms of step 6, so the attempt fails with cause 0x06. -/
  | rootLockStartTimeout
  /-- R62: At step 8 the 100 ms poll reads HK8 and HK9 until both are at or below +105 °C, or the 10 s limit fails the attempt with cause 0x0C. -/
  | startThermalPoll (t8 : Int) (t9 : Int) (limit : Bool)
  /-- R51: A section read and its digest check end at steps 9 to 11, and the next section or step follows. -/
  | startSectionLoad (failBanks : BitVec 64)
  /-- R62: CORE_TIMEOUT_MS expires without a first write to BOOT_HEARTBEAT, so the attempt fails with cause 0x09. -/
  | coreStartTimeout
  /-- R63: The link has not entered ACTIVE within LINK_TIMEOUT_MS, or completion has not come within LINK_TIMEOUT_MS + 10 s, so the attempt fails with cause 0x0A. -/
  | linkTimeout
  /-- R63: During the start, a 100 ms window passes without a change of BOOT_HEARTBEAT, so the attempt fails with cause 0x09. -/
  | heartbeatGap
  /-- R63: The link and the heartbeat have held together for 2 s; Proctor writes a COMPLETE record with COUNT 0 and sets COMPLETE. -/
  | startCompletion
  /-- R63: The Dean core writes BOOT_HEARTBEAT, which feeds the completion watch and the watchdog; a write from any other requester is DENIED. -/
  | bootHeartbeatWrite (q : Requester) (data : Word)
  /-- R69: A write of CLR_ATTEMPTS with KEY 0xB3 sets COUNT to 0 and writes a CLEAR record. -/
  | bootCtrlClrAttempts (q : Requester) (data : Word)
  /-- R64: A write of FORCE_EN with KEY 0xB3 makes the next attempt use FORCE_SLOT. -/
  | bootCtrlForceEn (q : Requester) (data : Word)
  /-- R71: A BOOT_FL_CTRL GO with OP ERASE starts erasing flash sectors. -/
  | lop7Erase (q : Requester) (data : Word)
  /-- R71: A BOOT_FL_CTRL GO with OP PROGRAM starts programming the flash from the buffer or the store, with read-back. -/
  | lop7Program (q : Requester) (data : Word)
  /-- R71: A BOOT_FL_CTRL GO with OP READ starts reading the flash into the buffer or the store. -/
  | lop7Read (q : Requester) (data : Word)
  /-- R71: One unit of LOP7 ends; the next unit starts, or LOP7 ends DONE or FAILED. -/
  | lop7UnitEnd (outcome : FlashEnd)
  /-- R73: A BOOT_VERIFY_CTRL GO starts a check of the named slot as a start would check it. -/
  | lop8Verify (q : Requester) (data : Word)
  /-- R73: One 64 KiB unit of LOP8 ends; LOP8 continues, or ends DONE or FAILED with the failing offset. -/
  | lop8UnitEnd
  /-- R82: A PROC_CMD APPLY_PROV authorises the provisioning token and programs the owner slot or policy fuses. -/
  | applyProv (q : Requester) (data : Word)
  /-- R84: A PROC_CMD ADVANCE_RB blows RB_THERMO bits up to the running image's ROLLBACK_INDEX. -/
  | advanceRb (q : Requester) (data : Word)
  /-- R89: A PROC_CMD DBG_CHALLENGE places 32 random bytes in PROC_DBG_CHAL and opens a challenge. -/
  | dbgChallenge (q : Requester) (data : Word)
  /-- R89: A PROC_CMD DBG_SUBMIT checks the debug token against the challenge and grants or refuses the unlock. -/
  | dbgSubmit (q : Requester) (data : Word)
  /-- R91: A PROC_CMD DBG_LOCK returns DBG_LEVEL to locked. -/
  | dbgLock (q : Requester) (data : Word)
  /-- R83: A Proctor command ends, with BUSY cleared and RESULT loaded, and a command waiting on LOP6 may start. -/
  | procCmdEnd (misread : Option Word)
  /-- R89: An open debug challenge lapses after 60 s. -/
  | challengeLapse
  /-- R87: A PROC_ATT_CTRL GO with KEY 0x6D copies the nonce and starts attestation. -/
  | lop6Attest (q : Requester) (data : Word) (unseals : Bool)
  /-- R87: One of the four attestation units ends, and the report is filled and signed at the last unit. -/
  | lop6UnitEnd
  /-- R19: A CLK_PHASE GO requests STEP root phase steps, and the device refuses the request if it would exceed ±1,024 steps while the link is ACTIVE. -/
  | clkPhaseGo (q : Requester) (data : Word)
  /-- R18: At each HK tick one root phase step is applied, and after the last step BUSY and GO clear. -/
  | clkPhaseStepTick
  /-- R16: No crystal oscillation is seen within 1 s of POR, so the AON clock runs from the RC oscillator and AON_RC is set. -/
  | aonOscTimeout
  /-- R39: A write to CLK_SYSOUT starts or stops an output, or stops it and restarts it at a new frequency, without runt pulses. -/
  | clkSysoutWrite (q : Requester) (data : Word)
  /-- R326: Root lock is lost; ROOT_UNLOCKED is set, every LO counts as not ready, and the link goes DOWN. -/
  | rootLockLoss
  /-- R326: The root synthesiser relocks, and each group LO that was LOCKED or RETUNE retunes to its channel. -/
  | rootRelock
  /-- R28: A 16-byte MSPI read frame is checked and performed, and the device returns STATUS, DATA and CRC, or RETRY. -/
  | mspiRead (cmd : Byte) (addr : BitVec 32) (crc : Byte) (late : Bool) (env : BusEnv)
  /-- R28: A 16-byte MSPI write frame is checked and performed, or posted for a store write, and the device returns STATUS and CRC. -/
  | mspiWrite (addr : BitVec 32) (data : Word) (crc : Byte) (late : Bool) (env : BusEnv)
  /-- R32: MSPI_CS_N rises before the request bytes are complete; the frame is discarded and counted in ABORT. -/
  | mspiFrameAbort (sent : List Byte) (late : Bool) (env : BusEnv)
  /-- R33: A read or write that was answered RETRY completes internally, and its result and status are held in the one-entry buffer. -/
  | mspiDeferredAccessEnd (env : BusEnv)
  /-- R35: A posted MSPI store write is performed from the four-entry buffer, and a failure loads DEV_MERR and raises an event. -/
  | postedStoreWrite
  /-- R9: A write to a register that has no row of its own updates its writable fields, and reserved codes are ignored. -/
  | registerWrite (q : Requester) (addr : BitVec 32) (data : Word) (env : BusEnv)
  /-- R107: The link has been in DOWN for 100 µs with ENABLE 1, root locked and the retry limit not reached, so it enters DETECT. -/
  | linkDownExit
  /-- R108: A 1 ms detection try tests TB terminations and QB clock activity, and moves the link to TRAIN when R108 is met. -/
  | detectionTry (term : BitVec 22) (clk0 : Bool) (clk1 : Bool) (stable0 : Bool) (stable1 : Bool)
  /-- R107: TRAIN_US has elapsed, so the link enters LOCK. -/
  | trainSettleEnd
  /-- R109: A QB lane completes bit lock, block lock, pattern check and deskew, or fails with ID_ERR. -/
  | laneLock (lane : Fin 22) (phase : BitVec 6) (block : Bool) (skew : Nat) (idOk : Bool)
  /-- R110: All trained QB lanes are locked, or 1 ms has passed since the first lock, so the device sets RX_LOCKED and centres the elastic buffers. -/
  | rxLockedSet
  /-- R110: A DESKEW block arrives, and after 8 with RX_LOCKED the partner counts as locked and LOCK may end. -/
  | deskewBlockRx (lane : Fin 22) (payload : BitVec 64)
  /-- R107: A DETECT, LOCK or ROLL_CALL timer expires; the link returns to DOWN with reason TIMEOUT and the retry count rises. -/
  | bringupTimeout
  /-- R147: The Roll call exchange concludes after 20 µs without a full CAP; widths and queues are agreed and SWITCH is sent. -/
  | rollCallConclude
  /-- R112: A SWITCH block arrives on lane 0 of a QB in use, and once SWITCH has been sent and received on every bundle in use the link enters ACTIVE. -/
  | switchBlockRx (lane : Fin 22) (payload : BitVec 64)
  /-- R115: The clock lane of a QB in use has been silent for 1 µs, so the link leaves ACTIVE. -/
  | clkLoss (bundle : Fin 2)
  /-- R115: 16 invalid sync headers arrive within 64 blocks on a lane in use, so the link leaves ACTIVE. -/
  | blockLockLoss (lane : Fin 22) (headers : Fin 65)
  /-- R101: Elastic-buffer wander exceeds ±64 UI, so the link leaves ACTIVE. -/
  | ebufSlip (bundle : Fin 2) (offset : Int)
  /-- R101: The elastic-buffer offset first passes ±48 UI after a centring, and event 0x27 is raised once. -/
  | ebufWander (bundle : Fin 2) (offset : Int)
  /-- R107: A write of ENABLE allows bring-up, or sends the link to DOWN at the next block boundary. -/
  | lnkCtrlEnable (q : Requester) (data : Word)
  /-- R113: A write of RESTART clears the retry count and EXHAUSTED, ends TEST and sends the link to DOWN. -/
  | lnkCtrlRestart (q : Requester) (data : Word)
  /-- R117: A write of LNK_TEST GO enters TEST with the chosen loopback and pattern. -/
  | lnkTestGo (q : Requester) (data : Word)
  /-- R117: DURATION_MS elapses, or in FE the QB0 clock has been silent for 1 ms, so TEST ends and the link goes to DOWN. -/
  | testEnd (silent : Bool) (errors : List Nat) (ui : Nat)
  /-- R118: Setting CHK_EN starts the PRBS checkers and clears their error and UI counts. -/
  | lnkTestChkEn (q : Requester) (data : Word)
  /-- R119: A LNK_MARGIN_CTRL GO starts the eye scan of the QB data lanes in use. -/
  | lop9MarginScan (q : Requester) (data : Word)
  /-- R119: The scan of one lane ends and its 64 counts are written to LNK_MARGIN_DEST. -/
  | lop9UnitEnd (counts : List (BitVec 16))
  /-- R199: A DLD packet is checked under R131 and stored, or dropped as early or late against the arrival window. -/
  | dldReceive (bundle : Fin 2) (afterControl : Bool) (cut : Bool) (bytes : List Byte)
  /-- R208: A SEC packet is checked, and its valid sections are held for their symbols. -/
  | secReceive (bundle : Fin 2) (afterControl : Bool) (cut : Bool) (bytes : List Byte)
  /-- R212: A WGT packet fills the dynamic-weight window of its grid slot. -/
  | wgtReceive (bundle : Fin 2) (afterControl : Bool) (cut : Bool) (bytes : List Byte)
  /-- R191: A TIM packet gives a time observation or names the SFN of the next ALIGN edge. -/
  | timReceive (bundle : Fin 2) (afterControl : Bool) (cut : Bool) (bytes : List Byte) (jitter : Fin 5)
  /-- R151: An MGQ packet is queued in QM and its entries are performed in order, and an MGA answers. -/
  | mgqReceive (bundle : Fin 2) (afterControl : Bool) (cut : Bool) (bytes : List Byte)
  /-- R151: An MGQ READ entry reads one address and returns its data and status. -/
  | mgqRead (env : BusEnv)
  /-- R151: An MGQ WRITE entry writes one address and returns its status. -/
  | mgqWrite (env : BusEnv)
  /-- R151: An MGQ MODIFY entry atomically reads, merges under MASK and writes one address. -/
  | mgqModify (env : BusEnv)
  /-- R140: The next MGQ, held for lack of QA credit or room, starts when a CRD or a QA release restores them. -/
  | mgqStartDeferred
  /-- R137: A CRD packet updates the partner's GRANT for outbound queues, or reports its CONS for inbound queues. -/
  | crdReceive (bundle : Fin 2) (afterControl : Bool) (cut : Bool) (bytes : List Byte)
  /-- R139: 10 µs after an inbound CONS report, the device adds the lost credits to ACCT and GRANT. -/
  | crdReconcile (queue : Fin 12)
  /-- R147: A CAP packet is judged, then stored and acknowledged, or taken as the acknowledgement of the device's own CAP. -/
  | capReceive (bundle : Fin 2) (afterControl : Bool) (cut : Bool) (bytes : List Byte)
  /-- R153: An LBK packet is held for echo, or dropped if one is already waiting. -/
  | lbkReceive (bundle : Fin 2) (afterControl : Bool) (cut : Bool) (bytes : List Byte)
  /-- R153: Within 10 µs the device sends the held LBK back with a new trailer. -/
  | lbkEcho
  /-- R138: The device sends a CRD within 2 µs of an unsent GRANT change, or at the 100 µs period. -/
  | crdSend (all : Bool)
  /-- R147: Every 10 µs in ROLL_CALL the device sends its full CAP or its acknowledgement. -/
  | capSend (ack : Bool)
  /-- R152: Within 2 µs of a raise routed to packets, the device sends an EVT carrying up to 32 unsent records. -/
  | evtSend
  /-- R152: 10 ms pass in ACTIVE without an EVT, so the device sends an EVT with LEN 0. -/
  | evtKeepalive
  /-- R140: An outbound packet that the partner's grant covers begins on the link, and CONS is advanced. -/
  | outboundPacketSend (queue : Fin 32) (bundle : Fin 2) (upsets : List StoreUpset)
  /-- R142: A write to QUE_FLUSH requests a flush of a queue, which discards its packets and returns their credits. -/
  | queFlush (q : Requester) (data : Word) (rx0 : Option (Fin 12)) (rx1 : Option (Fin 12))
  /-- R143: The duplicate pointers of a queue disagree, so the queue is reset. -/
  | queuePointerMismatch (queue : Fin 32) (rx0 : Option (Fin 12)) (rx1 : Option (Fin 12))
  /-- R447: A write of QUE_CTRL CNT_CLR clears every QUE counter and WM_CROSS. -/
  | queCntClr (q : Requester) (data : Word)
  /-- R163: The paced background scrubber reads one row of every powered bank and corrects it, and ends a pass at the last row. -/
  | scrubRowRead
  /-- R161: A write of CST_ECC_INJ arms a check-bit error for the next requester write to a word. -/
  | cstEccInjWrite (q : Requester) (data : Word)
  /-- R164: A CST_SCRUB_CTRL GO starts one scrub of every powered bank. -/
  | lop5Scrub (q : Requester) (data : Word)
  /-- R164: The LOP5 scrub ends DONE and the pass is counted. -/
  | lop5End
  /-- R172: A DMA channel CTRL GO in IDLE fetches the first descriptor and zeroes HOPCNT and PAD. -/
  | dmaGo (ch : Fin 32) (q : Requester) (data : Word)
  /-- R174: A descriptor fetch completes, and the descriptor is copied and checked. -/
  | descriptorFetch (ch : Fin 32)
  /-- R181: A channel wins a mover, or finds its request line asserted, and moves one burst, padding any underrun. -/
  | dmaBurst (ch : Fin 32) (errs : List (Fin 3))
  /-- R177: Every write of a descriptor has been performed; the device copies TAG, applies the flags and fetches NEXT or goes IDLE. -/
  | descriptorComplete (ch : Fin 32)
  /-- R182: Setting CTRL.PAUSE stops new reads, and the channel enters PAUSED after its burst; clearing it resumes. -/
  | dmaPause (ch : Fin 32) (q : Requester) (data : Word)
  /-- R183: Setting CTRL.ABORT drains the channel to IDLE and sets ABORTED. -/
  | dmaAbort (ch : Fin 32) (q : Requester) (data : Word)
  /-- R185: CTRL.RESUME in HALTED repeats the failing access, or takes the refused hop, and continues. -/
  | dmaResume (ch : Fin 32) (q : Requester) (data : Word)
  /-- R184: A channel access completes with an error status or an uncorrectable read, so the channel halts. -/
  | dmaBusError (ch : Fin 32) (ecc : Bool)
  /-- R184: 2,048 DP cycles pass without a response, so the channel halts with ERR TIMEOUT. -/
  | dmaResponseTimeout (ch : Fin 32) (write : Bool)
  /-- R192: A rising ALIGN edge is sampled and gives a frame-phase observation, with the SFN of a preceding LEN 0 TIM. -/
  | alignEdge (phase : Fin 16)
  /-- R193: No observation arrives for LOSS_MS in LOCKED, so the state enters HOLDOVER. -/
  | syncLossTimeout
  /-- R193: A write of ATM_CTRL.SET in FREE loads AIR_COUNT from ATM_SET, or decides a step. -/
  | atmSet (q : Requester) (data : Word)
  /-- R193: A write that changes ATM_SYNC_CTRL.SRC moves the synchronisation state. -/
  | atmSrcWrite (q : Requester) (data : Word)
  /-- R194: At the frame boundary after a decided step, the device loads AIR_COUNT, discards downlink traffic and mutes every path for 10 ms. -/
  | timeStepApply
  /-- R196: At the start of each frame with F mod 2^AO_DIV equal to 0, ALIGN_OUT carries an 8-tick pulse. -/
  | alignOutPulse
  /-- R202: At each grid symbol boundary the row in force sets each group's direction, lines, LO, QUIET and readiness. -/
  | timetableSymbol (adc : List (List (BitVec 28)))
  /-- R206: A write of ATM_TT_CTRL SWAP requests that the other Timetable bank come into force. -/
  | ttSwapRequest (q : Requester) (data : Word)
  /-- R206: At the start of the next period, or the next frame, the other bank comes into force, and its bad and shadowed rows are counted. -/
  | ttSwap
  /-- R229: At a carrier symbol's fetch instant the chain gathers held sections and DLDs, matches and admits them, and beamforms the symbol. -/
  | downlinkFetch (carrier : Fin 8) (upsets : List StoreUpset) (marks : List DlMarks)
  /-- R214: A BMB_UPD_CTRL GO starts the prefetch of an update list into the shadow buffer. -/
  | bmbUpdGo (q : Requester) (data : Word)
  /-- R214: The copy of the update list completes and STATE enters ARMED, or the update is abandoned on a store error. -/
  | bmbPrefetchEnd
  /-- R215: The first symbol at or after the target boundary is fetched with the shadow weights, and STATE enters WRITEBACK. -/
  | bmbUpdateBoundary
  /-- R214: The update records are written into the region and the tags, and STATE returns to IDLE. -/
  | bmbWritebackEnd
  /-- R217: A write of ATM_PEERk with VALID 1 records a peer, and a disagreeing serial or level raises a mismatch. -/
  | atmPeerWrite (index : Fin 4) (word : Fin 3) (q : Requester) (data : Word)
  /-- R217: At a frame boundary JOINT_OK takes its new value, and the joint features start or stop. -/
  | jointOkChange
  /-- R223: A write of DLC_CTRL COMMIT copies and checks the downlink carrier registers. -/
  | dlcCommit (q : Requester) (data : Word)
  /-- R224: At the first frame boundary at least T_EARLY after the commit, the valid copy comes into force. -/
  | dlcCommitInForce
  /-- R245: A write of DLC_CTRL IQ_SWAP requests a downlink I/Q bank swap. -/
  | dlcIqSwap (q : Requester) (data : Word)
  /-- R245: At the next grid symbol boundary all paths change their downlink I/Q bank. -/
  | dlcIqBankSwap
  /-- R447: A write of DLC_CTRL CNT_CLR clears every DLC counter and DLC_LOAD. -/
  | dlcCntClr (q : Requester) (data : Word)
  /-- R252: A write of ULC_CTRL COMMIT copies and checks the uplink carrier registers. -/
  | ulcCommit (q : Requester) (data : Word)
  /-- R252: The valid uplink copy comes into force at its frame boundary. -/
  | ulcCommitInForce
  /-- R255: A write of ULC_CTRL IQ_SWAP requests an uplink I/Q bank swap. -/
  | ulcIqSwap (q : Requester) (data : Word)
  /-- R255: At the next grid symbol boundary all paths change their uplink I/Q bank. -/
  | ulcIqBankSwap
  /-- R447: A write of ULC_CTRL CNT_CLR clears every ULC counter and ULC_LOAD. -/
  | ulcCntClr (q : Requester) (data : Word)
  /-- R262: A write of FIR_CTRL SWAP requests a channel-filter bank swap. -/
  | firSwapRequest (c : Fin 8) (q : Requester) (data : Word)
  /-- R262: At the next symbol, or at SWAP_AT, the other filter bank comes into force between two output samples. -/
  | firBankSwap (c : Fin 8)
  /-- R256: An RSSI window closes; ENERGY, LEVEL and SEQ are loaded and the HIGH and LOW states are evaluated. -/
  | rssiWindowClose (path : Fin 64)
  /-- R256: A write to RSSI_CFG discards the window in progress and starts a new one. -/
  | rssiCfgWrite (path : Fin 64) (q : Requester) (data : Word)
  /-- R265: At a carrier symbol's fetch instant the chain takes the held uplink sections and admits them against the budget. -/
  | uplinkFetch (carrier : Fin 8) (upsets : List StoreUpset)
  /-- R272: A symbol's combined or exported output is compressed and queued as ULD or SRS packets, or is counted as not produced. -/
  | uplinkPacketBuild (carrier : Fin 8) (paths : List (Fin 64)) (secs : List Nat)
  /-- R273: An uplink packet reaches the head of its queue more than MS ms late and is discarded. -/
  | packetAgeDiscard (queue : Fin 32)
  /-- R276: An engine's occasion begins, and its conditions are checked before it captures or is skipped. -/
  | prachOccasion (engine : Fin 4)
  /-- R277: The capture window of an occasion ends, and PRA packets are queued within 40 µs. -/
  | prachWindowEnd (engine : Fin 4) (residue : Bool)
  /-- R284: A LOAD_CTRL GO with OP WRITE copies a coefficient block from the store into the shadow bank. -/
  | pdLoadWrite (g : Fin 8) (q : Requester) (data : Word)
  /-- R284: A LOAD_CTRL GO with OP READ copies the active or shadow bank into the store. -/
  | pdLoadRead (g : Fin 8) (q : Requester) (data : Word)
  /-- R285: A load transfer ends, with LOADS counted or ERR set. -/
  | pdLoadEnd (g : Fin 8)
  /-- R286: A SWAP_CTRL GO requests a swap of the active and shadow banks of a class for listed paths. -/
  | pdSwapRequest (g : Fin 8) (q : Requester) (data : Word)
  /-- R286: At the grid symbol boundary, after any running WRITE transfer, the listed paths swap banks together. -/
  | pdBankSwap (g : Fin 8)
  /-- R288: MODE OFF stops further captures, and a capture in progress completes. -/
  | seqModeOff (g : Fin 8) (q : Requester) (data : Word)
  /-- R288: MODE AUTO captures the listed paths in turn, spaced by INTERVAL. -/
  | seqModeAuto (g : Fin 8) (q : Requester) (data : Word)
  /-- R288: MODE SINGLE captures the lowest listed path once, then returns MODE to OFF. -/
  | seqModeSingle (g : Fin 8) (q : Requester) (data : Word)
  /-- R288: The capture conditions are met on an HK tick, and a 16,384-sample capture window begins. -/
  | orxCaptureStart (g : Fin 8)
  /-- R289: A capture window ends; the info and energies are loaded, and the loop runs. -/
  | orxCaptureEnd (g : Fin 8) (orx : List (BitVec 24))
  /-- R288: INTERVAL elapses with the capture buffer still held, so SKIPS rises by 1. -/
  | intervalSkip (g : Fin 8)
  /-- R289: A read of LIN_PGg_PORT takes the next word of the capture record and may release the buffer. -/
  | capturePortRead (g : Fin 8) (q : Requester)
  /-- R292: A correlator run ends; the result is written to the store and DONE is counted. -/
  | correlatorEnd (g : Fin 8) (residue : Bool)
  /-- R295: A LIN_LOP2_CTRL GO starts a pre-distortion campaign over path and class pairs. -/
  | lop2PdCampaign (q : Requester) (data : Word)
  /-- R296: One campaign unit ends and writes its 16-byte record. -/
  | lop2UnitEnd (result : Fin 3) (iter : Byte) (before : BitVec 16) (after : BitVec 16)
  /-- R295: A write of LIN_LOP2_CTRL ABORT ends LOP2 ABORTED. -/
  | lop2Abort (q : Requester) (data : Word)
  /-- R299: A write of LIN_CTRL KSWAP requests a CFR kernel bank swap. -/
  | kernelSwapRequest (q : Requester) (data : Word)
  /-- R299: At the next grid symbol boundary the CFR kernel banks swap for all paths. -/
  | kernelBankSwap
  /-- R303: A write of CORR_CLR sets the loop correction to 0. -/
  | corrClr (path : Fin 64) (q : Requester) (data : Word)
  /-- R302: A source channel has delivered no new result for 4 ms, so COMP_g holds and STALE is set. -/
  | compStaleTimeout (g : Fin 8)
  /-- R447: A write of LIN_CTRL CNT_CLR clears every LIN counter other than COR_STATUS.DONE. -/
  | linCntClr (q : Requester) (data : Word)
  /-- R305: A write of SFD_CTRL COMMIT copies and checks the subband plan. -/
  | sfdCommit (q : Requester) (data : Word)
  /-- R305: The valid subband plan comes into force at its frame boundary. -/
  | sfdCommitInForce
  /-- R313: A SFD_LOAD_CTRL GO with OP WRITE copies a coefficient block into the free set. -/
  | sfdLoadWrite (q : Requester) (data : Word)
  /-- R313: A SFD_LOAD_CTRL GO with OP READ copies a class's set into the store. -/
  | sfdLoadRead (q : Requester) (data : Word)
  /-- R313: A canceller load copy ends; a WRITE enters PENDING, or ERR is set. -/
  | sfdLoadCopyEnd
  /-- R313: At the grid symbol boundary the class maps to its newly loaded set. -/
  | sfdLoadBoundary
  /-- R314: A write of SFD_CAP_CTRL GO arms one canceller capture. -/
  | sfdCapGo (q : Requester) (data : Word)
  /-- R314: At a qualifying grid symbol boundary the canceller capture begins. -/
  | sfdCaptureStart
  /-- R314: The capture record has been written to the store; CAPTURES is counted and DMA request line 8 is asserted. -/
  | sfdCaptureRecordEnd
  /-- R316: A SFD_LOP3_CTRL GO starts canceller training of the chosen classes. -/
  | lop3SfdTraining (q : Requester) (data : Word)
  /-- R316: The training of one class ends and writes its record. -/
  | lop3UnitEnd (result : Fin 3) (caps : Byte) (before : BitVec 16) (after : BitVec 16)
  /-- R316: A write of SFD_LOP3_CTRL ABORT ends LOP3 ABORTED. -/
  | lop3Abort (q : Requester) (data : Word)
  /-- R317: At the end of an SB symbol the PRE, POST and IN levels are loaded, and the input-limit and residual states are evaluated. -/
  | sbSymbolEnd (residue : List (Fin 64 × Nat)) (refFail : Option Nat)
  /-- R317: A write of 1 to DEMOTED ends demotion at the next grid symbol boundary. -/
  | demotedClear (g : Fin 8) (q : Requester) (data : Word)
  /-- R447: A write of SFD_CTRL CNT_CLR clears every SFD counter. -/
  | sfdCntClr (q : Requester) (data : Word)
  /-- R321: A write of BAND switches the group's ports at the next grid symbol boundary and sends both LOs to OFF. -/
  | bandWrite (g : Fin 8) (q : Requester) (data : Word)
  /-- R330: A LOx_CTRL GO requests a retune to CHAN, which is refused, started or abandons a retune in progress. -/
  | loRetuneGo (g : Fin 8) (x : Fin 2) (q : Requester) (data : Word)
  /-- R329: A retune from stored calibration reaches LOCKED within 1.6 µs. -/
  | loFastLock (g : Fin 8) (x : Fin 2)
  /-- R329: The stored-code retune has not locked within LOCK_TO, so the synthesiser enters VCOCAL. -/
  | loFastLockTimeout (g : Fin 8) (x : Fin 2)
  /-- R329: The VCO calibration ends, the record is written and the synthesiser enters LOCKED. -/
  | vcoCalEnd (g : Fin 8) (x : Fin 2) (codes : BitVec 48)
  /-- R329: The calibration has not locked within LOCK_TO of its end, so the synthesiser enters FAIL. -/
  | vcoCalLockTimeout (g : Fin 8) (x : Fin 2)
  /-- R330: A write of PWRDN stops the synthesiser in state OFF. -/
  | loPwrdn (g : Fin 8) (x : Fin 2) (q : Requester) (data : Word)
  /-- R332: A write of LOSEL SEL changes the LO in use at the next grid symbol boundary. -/
  | loselWrite (g : Fin 8) (q : Requester) (data : Word)
  /-- R333: A LOx_PHASE GO starts a fine phase step of STEP units. -/
  | loPhaseGo (g : Fin 8) (x : Fin 2) (q : Requester) (data : Word)
  /-- R333: Every 0.5 µs one piece of up to ±4,096 units is applied and POS advances, until the step is complete. -/
  | loPhasePiece (g : Fin 8) (x : Fin 2)
  /-- R341: A RFFE_CTRL GO starts running the list of entries. -/
  | rffeGo (g : Fin 8) (q : Requester) (data : Word)
  /-- R341: A timed entry reaches its ATIME, or starts late, and its sequence begins. -/
  | rffeEntryStart (g : Fin 8)
  /-- R341: An RFFE sequence ends, with DONE set, read data stored and parity checked. -/
  | rffeEntryEnd (g : Fin 8) (data : Word) (parity : Bool)
  /-- R341: A write of RFFE ABORT completes the sequence in progress and ends the list. -/
  | rffeAbort (g : Fin 8) (q : Requester) (data : Word)
  /-- R348: A CAL_ARR_CTRL GO starts LOP0, fixes the measured set and retunes LOC. -/
  | calArrGo (q : Requester) (data : Word)
  /-- R343: The VCO calibration of LOC ends, and LOC is LOCKED or FAILED. -/
  | locLockEnd (locked : Bool)
  /-- R349: A completed sequence's chip correlations are written to the store, and DMA request line 9 is asserted. -/
  | calSequenceEnd (offset : Nat) (data : List Byte)
  /-- R350: A forced calibration slot begins; traffic stops and probe sequences run. -/
  | calForcedSlot
  /-- R350: The last used forced slot ends, and traffic resumes. -/
  | calForcedSlotEnd
  /-- R348: The background sequences are not complete within 60 s, so LOP0 fails with ERR 0x07. -/
  | backgroundCalTimeout
  /-- R352: LOP0 ends, writes its result and may apply it to the point. -/
  | lop0End (paths : List PathCal)
  /-- R348: A write of CAL_ARR_CTRL ABORT ends LOP0 ABORTED. -/
  | calArrAbort (q : Requester) (data : Word)
  /-- R345: A CAL_LOAD_CTRL GO copies a point block from the store into the buffer. -/
  | calLoadGo (q : Requester) (data : Word)
  /-- R345: The point-block copy ends, or an error leaves the point unchanged. -/
  | calLoadCopyEnd
  /-- R345: At the next grid symbol boundary the buffer replaces the point whole. -/
  | calPointReplace
  /-- R353: A CAL_CONV_CTRL GO starts converter calibration of the chosen groups. -/
  | calConvGo (q : Requester) (data : Word)
  /-- R353: The calibration of one group ends, and after the last unit the I/Q banks swap. -/
  | lop1UnitEnd (conv : List Word) (iq : List Word)
  /-- R358: A CAL_SAVE_CTRL GO with KEY 0x5C starts saving a calibration copy to the flash. -/
  | calSaveGo (q : Requester) (data : Word)
  /-- R358: The save ends with its ERR, and a good copy becomes the loaded one. -/
  | calSaveEnd (outcome : FlashEnd)
  /-- R382: The HALT instruction stops the core in HALTED. -/
  | halt (core : Fin 13) (cycles : Nat) (upset : CoreUpset)
  /-- R384: The NOP instruction does nothing. -/
  | nop (core : Fin 13) (cycles : Nat) (upset : CoreUpset)
  /-- R384: The WAIT instruction waits until an interrupt is pending and enabled. -/
  | wait (core : Fin 13) (cycles : Nat) (upset : CoreUpset)
  /-- R380: The TRAP instruction traps with cause SOFTWARE and records its number. -/
  | trapSw (core : Fin 13) (cycles : Nat) (upset : CoreUpset)
  /-- R375: The ISYNC instruction empties the prefetch queue and the repeat cache. -/
  | isync (core : Fin 13) (cycles : Nat) (upset : CoreUpset)
  /-- R384: The BSET instruction sets the masked SR bits. -/
  | bset (core : Fin 13) (cycles : Nat) (upset : CoreUpset)
  /-- R384: The BCLR instruction clears the masked SR bits. -/
  | bclr (core : Fin 13) (cycles : Nat) (upset : CoreUpset)
  /-- R384: The DEBUG instruction acts for core debug, and is a NOP unless debug is unlocked. -/
  | debug (core : Fin 13) (cycles : Nat) (upset : CoreUpset)
  /-- R384: The BRA instruction branches to TARGET on its condition. -/
  | bra (core : Fin 13) (cycles : Nat) (upset : CoreUpset)
  /-- R384: The CALL instruction pushes PC and branches. -/
  | call (core : Fin 13) (cycles : Nat) (upset : CoreUpset)
  /-- R384: The RET instruction pops PC and returns. -/
  | ret (core : Fin 13) (cycles : Nat) (upset : CoreUpset)
  /-- R379: The RTI instruction pops PC and SR and returns from an interrupt. -/
  | rti (core : Fin 13) (cycles : Nat) (upset : CoreUpset)
  /-- R384: The BRA (An) instruction branches to the address in An. -/
  | braAn (core : Fin 13) (cycles : Nat) (upset : CoreUpset)
  /-- R376: The LOOP instruction with an immediate count runs its body COUNT times. -/
  | loopImm (core : Fin 13) (cycles : Nat) (upset : CoreUpset)
  /-- R376: The LOOP instruction with a register count runs its body. -/
  | loopReg (core : Fin 13) (cycles : Nat) (upset : CoreUpset)
  /-- R377: The RPT instruction with an immediate count repeats the next instruction. -/
  | rptImm (core : Fin 13) (cycles : Nat) (upset : CoreUpset)
  /-- R377: The RPT instruction with a register count repeats the next instruction. -/
  | rptReg (core : Fin 13) (cycles : Nat) (upset : CoreUpset)
  /-- R384: The move-immediate instruction loads an immediate into a register, in full or in its upper byte. -/
  | moveImmediate (core : Fin 13) (cycles : Nat) (upset : CoreUpset)
  /-- R368: The register-move instruction copies one register to another. -/
  | registerMove (core : Fin 13) (cycles : Nat) (upset : CoreUpset)
  /-- R385: The CLR instruction zeroes an accumulator. -/
  | clr (core : Fin 13) (cycles : Nat) (upset : CoreUpset)
  /-- R385: The MOVA instruction copies one accumulator to another. -/
  | mova (core : Fin 13) (cycles : Nat) (upset : CoreUpset)
  /-- R385: The ADD instruction adds one accumulator to another, with a residue check. -/
  | addAcc (core : Fin 13) (cycles : Nat) (upset : CoreUpset)
  /-- R385: The SUB instruction subtracts one accumulator from another, with a residue check. -/
  | subAcc (core : Fin 13) (cycles : Nat) (upset : CoreUpset)
  /-- R385: The NEG instruction negates an accumulator. -/
  | negAcc (core : Fin 13) (cycles : Nat) (upset : CoreUpset)
  /-- R385: The ABS instruction takes the magnitude of an accumulator. -/
  | absAcc (core : Fin 13) (cycles : Nat) (upset : CoreUpset)
  /-- R385: The CMP instruction sets the flags of a difference. -/
  | cmpAcc (core : Fin 13) (cycles : Nat) (upset : CoreUpset)
  /-- R370: The RND instruction rounds L into H, half to even. -/
  | rnd (core : Fin 13) (cycles : Nat) (upset : CoreUpset)
  /-- R385: The SATA instruction clamps an accumulator as SAT 1 does. -/
  | sata (core : Fin 13) (cycles : Nat) (upset : CoreUpset)
  /-- R385: The ASL instruction shifts an accumulator left, wrapping. -/
  | asl (core : Fin 13) (cycles : Nat) (upset : CoreUpset)
  /-- R385: The ASR instruction shifts an accumulator right, arithmetically. -/
  | asr (core : Fin 13) (cycles : Nat) (upset : CoreUpset)
  /-- R385: The ADDR instruction adds a register, aligned to H. -/
  | addr (core : Fin 13) (cycles : Nat) (upset : CoreUpset)
  /-- R385: The SUBR instruction subtracts a register, aligned to H. -/
  | subr (core : Fin 13) (cycles : Nat) (upset : CoreUpset)
  /-- R385: The AND instruction acts on H. -/
  | andAcc (core : Fin 13) (cycles : Nat) (upset : CoreUpset)
  /-- R385: The OR instruction acts on H. -/
  | orAcc (core : Fin 13) (cycles : Nat) (upset : CoreUpset)
  /-- R385: The XOR instruction acts on H. -/
  | xorAcc (core : Fin 13) (cycles : Nat) (upset : CoreUpset)
  /-- R385: The NORM instruction counts the redundant sign bits. -/
  | norm (core : Fin 13) (cycles : Nat) (upset : CoreUpset)
  /-- R373: The ADDA instruction adds On to An, modularly. -/
  | adda (core : Fin 13) (cycles : Nat) (upset : CoreUpset)
  /-- R373: The SUBA instruction subtracts On from An, modularly. -/
  | suba (core : Fin 13) (cycles : Nat) (upset : CoreUpset)
  /-- R373: The ADDI instruction adds an immediate to An, modularly. -/
  | addi (core : Fin 13) (cycles : Nat) (upset : CoreUpset)
  /-- R384: The class 0x8 or 0x9 instruction with OP 0b00 performs parallel memory loads only. -/
  | parallelLoads (core : Fin 13) (cycles : Nat) (upset : CoreUpset)
  /-- R370: The MAC instruction multiply-accumulates, with parallel loads. -/
  | mac (core : Fin 13) (cycles : Nat) (upset : CoreUpset)
  /-- R370: The MSU instruction multiply-subtracts, with parallel loads. -/
  | msu (core : Fin 13) (cycles : Nat) (upset : CoreUpset)
  /-- R370: The MPY instruction multiplies into the accumulator, with parallel loads. -/
  | mpy (core : Fin 13) (cycles : Nat) (upset : CoreUpset)
  /-- R372: The single-move instruction loads a register from X, Y or Z memory. -/
  | singleMoveLoad (core : Fin 13) (cycles : Nat) (upset : CoreUpset)
  /-- R372: The single-move instruction stores a register to X, Y or Z memory. -/
  | singleMoveStore (core : Fin 13) (cycles : Nat) (upset : CoreUpset)
  /-- R374: The system load instruction reads a 32-bit word through the system port into an accumulator, stalling the core. -/
  | systemLoad (core : Fin 13) (cycles : Nat) (upset : CoreUpset)
  /-- R374: The system store instruction writes an accumulator through the system port, stalling the core. -/
  | systemStore (core : Fin 13) (cycles : Nat) (upset : CoreUpset)
  /-- R374: A stalled system access completes, and the core continues, or traps on a status other than OK. -/
  | systemAccessComplete (core : Fin 13) (cycles : Nat) (env : BusEnv)
  /-- R374: A system access has no response within 2,048 DP cycles, so the core traps with SYS_TIMEOUT. -/
  | systemAccessTimeout (core : Fin 13)
  /-- R386: The MBXRD instruction pops the core's inbound mailbox into an accumulator. -/
  | mbxrd (core : Fin 13) (cycles : Nat) (upset : CoreUpset)
  /-- R386: The MBXWR instruction pushes an accumulator to the outbound mailbox. -/
  | mbxwr (core : Fin 13) (cycles : Nat) (upset : CoreUpset)
  /-- R387: The RING instruction adds IMM to the core's doorbell count. -/
  | ring (core : Fin 13) (cycles : Nat) (upset : CoreUpset)
  /-- R384: The CMAC instruction accumulates a complex product into an accumulator pair. -/
  | cmac (core : Fin 13) (cycles : Nat) (upset : CoreUpset)
  /-- R384: The CMSU instruction subtracts a complex product from an accumulator pair. -/
  | cmsu (core : Fin 13) (cycles : Nat) (upset : CoreUpset)
  /-- R384: The CMPY instruction writes a complex product into an accumulator pair. -/
  | cmpy (core : Fin 13) (cycles : Nat) (upset : CoreUpset)
  /-- R379: A pending, enabled interrupt of higher priority is taken at an instruction boundary. -/
  | interruptTaken (core : Fin 13)
  /-- R379: CORE_TIMER reaches 0, so source 7 pends and the timer reloads. -/
  | coreTimerExpiry (core : Fin 13)
  /-- R382: A write of CORE_CTRL.RST holds the core in RESET, or releases it at 0x0000. -/
  | coreRstWrite (core : Fin 13) (q : Requester) (data : Word)
  /-- R382: A write of HALT_REQ stops the core at the next boundary, after any RPT. -/
  | coreHaltReq (core : Fin 13) (q : Requester) (data : Word)
  /-- R382: A write of RESUME in HALTED empties the prefetch queue and the repeat cache and continues. -/
  | coreResume (core : Fin 13) (q : Requester) (data : Word)
  /-- R386: A write to MBX_IN or HOST_IN by a permitted requester pushes an entry, or sets OVF when full. -/
  | mbxInWrite (core : Fin 13) (q : Requester) (data : Word)
  /-- R386: A read of MBX_OUT or HOST_OUT pops an entry, or returns 0 and sets UNDER. -/
  | mbxOutRead (core : Fin 13) (q : Requester)
  /-- R387: A write of CORE_DOORBELL.ADD adds to COUNT, which drives the DMA request line. -/
  | doorbellAdd (core : Fin 13) (q : Requester) (data : Word)
  /-- R398: A conversion ends; RAW and RES are written, thermal thresholds are compared and the next conversion is chosen. -/
  | hkConversionEnd (raw : BitVec 24) (scaled : BitVec 24) (off : Bool)
  /-- R396: A triggered entry becomes due DELAY after its marker and aborts a continuous conversion, or waits. -/
  | triggeredEntryDue (entry : Fin 64)
  /-- R400: 10 ms pass without a result of a thermal channel, so a guard conversion becomes due. -/
  | guardConversionDue (ch : Fin 10)
  /-- R397: A write of HK_URG GO converts at once, or is dropped when a conversion is running. -/
  | hkUrgentRequest (q : Requester) (data : Word)
  /-- R394: A write to LEN or a list entry takes effect when the conversion in progress ends and restarts the walk. -/
  | hkListWrite (entry : Option (Fin 64)) (q : Requester) (data : Word)
  /-- R399: A read of HK_PORT takes the next FIFO word, or returns 0 when empty. -/
  | hkPortRead (q : Requester)
  /-- R402: A HK_SYSCAL_CTRL GO starts 16 conversions of an HKIN input for its zero or full-scale step. -/
  | lop4Syscal (q : Requester) (data : Word)
  /-- R405: The event unit takes one occurrence from the raise FIFO, records it and hands it to the routes. -/
  | eventRecord
  /-- R447: A write of EVT_CTRL CNT_CLR clears every event count and EVT_DROP. -/
  | evtCntClr (q : Requester) (data : Word)
  /-- R418: A PWR_REQ GO with target ACTIVE is checked and started, made pending or refused. -/
  | requestActive (q : Requester) (data : Word) (sources : Fin 8)
  /-- R418: A PWR_REQ GO with target NAP names groups to switch off. -/
  | requestNap (q : Requester) (data : Word) (sources : Fin 8)
  /-- R418: A PWR_REQ GO with target LIGHT SLEEP is checked and started. -/
  | requestLightSleep (q : Requester) (data : Word) (sources : Fin 8)
  /-- R418: A PWR_REQ GO with target DEEP SLEEP is checked and started. -/
  | requestDeepSleep (q : Requester) (data : Word) (sources : Fin 8)
  /-- R418: A PWR_REQ GO with target BELL WATCH is checked and started. -/
  | requestBellWatch (q : Requester) (data : Word) (sources : Fin 8)
  /-- R422: At the entry instant the sleep entry or group switch-off takes effect. -/
  | entryInstant (thermal : Bool)
  /-- R418: A power transition completes, and the pending request, if any, is taken. -/
  | transitionEnd
  /-- R423: A device wake stage's ready signal is present and the next stage begins. -/
  | wakeStageEnd
  /-- R423: A wake stage does not reach its ready signal within its timeout, and the stage's timeout action is taken. -/
  | wakeStageTimerExpiry
  /-- R424: A group wake stage completes and the next stage begins, or the group is released. -/
  | groupWakeStageEnd (g : Fin 8)
  /-- R424: A group wake stage times out and the group continues, or fails. -/
  | groupWakeTimeout (g : Fin 8)
  /-- R429: WAKE_N is low for at least 10 µs, which is a wake source. -/
  | wakeNAssert
  /-- R429: Clock activity on the QB0 clock lane for 10 µs wakes the device from DEEP SLEEP or BELL WATCH. -/
  | qb0ClockWake
  /-- R429: The AON timer reaches TICKS since entry, which is a wake source. -/
  | aonTimerExpiry
  /-- R429: MSPI_CS_N is low for at least 1 µs in DEEP SLEEP or BELL WATCH, which is a wake source. -/
  | mspiCsWake
  /-- R434: A Bell word is received and matched, which may be a ping or a wake command, or is counted as rejected. -/
  | bellWord (word : List Byte)
  /-- R430: A POWER LIGHT row issues its LIGHT SLEEP request, or its ACTIVE request, at the times R430 sets. -/
  | ttLightMark (row : BitVec 8) (wake : Bool) (sources : Fin 8)
  /-- R416: PMB_ALERT_N goes low; the master reads and clears the faults. -/
  | pmbAlert (statuses : List (BitVec 16))
  /-- R416: Power-good falls on a die with a group on, so both groups of the die are switched off. -/
  | powerGoodLoss (die : Fin 4)
  /-- R414: A write of PWR_VCORE TARGET_MV starts an AVSBus voltage write. -/
  | vcoreTargetWrite (q : Requester) (data : Word)
  /-- R414: An AVSBus or PMBus transaction is acknowledged, or its tries are exhausted as REG_NACK. -/
  | avsbusTransactionEnd (avs : Bool) (ack : Bool) (status : BitVec 16)
  /-- R414: A voltage or power-good is not reached within PG_TO ms, which fails as REG_TIMEOUT. -/
  | regulatorTimeout (die : Option (Fin 4)) (status : BitVec 16)
  /-- R415: A write of PWR_REG_CFG MARGIN sends OPERATION margin codes to the dies concerned. -/
  | marginWrite (q : Requester) (data : Word)
  /-- R431: A write of PWR_VETO HOLD takes effect only from Dean. -/
  | pwrVetoWrite (q : Requester) (data : Word)
  /-- R434: 1 ms after a matched ping with PING_IRQ 1 drove IRQ_N low, the pulse ends and IRQ_N is released. -/
  | pingIrqPulseEnd
  /-- R59: Proctor's erase of the other journal sector, begun at start completion, ends, and a record waiting for it may be written. -/
  | journalSectorEraseEnd
deriving DecidableEq, Repr

end Sys2Proof
end

