-- ==== Sys2Proof/Decode.lean ====
section
/-!
DEFINITION. The commands that a word spells by the bits of spec/opcode_table.json. No row of the table has bits: no word spells a
command.
-/

namespace Sys2Proof

/-- The command that `w`, of `nbits` bits, spells: none. -/
def decodeTableWord (_nbits _w : Nat) : Option Instr := none

end Sys2Proof
end

