-- ==== Sys2Proof/Machine/DspDecode.lean ====
section
/-!
DEFINITION. The instruction words of the signal processors (R383 to R385): one structured operation per word, none for a word
that is ILLEGAL on the core. A bit is reserved when no field of its class covers it.
-/

namespace Sys2Proof.Machine

/-- A parallel load of class 0x8, 0x9 or 0xE: enabled, destination K register, mode and address register. -/
structure ParLoad where
  en : Bool
  dst : Nat
  mode : Nat
  an : Nat
deriving DecidableEq, Repr

/-- MAC, MSU or MPY, and their complex forms. -/
inductive MulOp where
  | mac | msu | mpy
deriving DecidableEq, Repr

/-- A decoded instruction. Register operands are the 7-bit codes of R368. -/
inductive CoreOp where
  | halt | nop | wait | isync | debug
  | trap (n : Nat)
  | bset (mask : Nat)
  | bclr (mask : Nat)
  | bra (cond target : Nat)
  | call (cond target : Nat)
  | ret (cond : Nat)
  | rti (cond : Nat)
  | braAn (cond an : Nat)
  | loopImm (count last : Nat)
  | loopReg (reg last : Nat)
  | rptImm (count : Nat)
  | rptReg (reg : Nat)
  /-- Move immediate: PART 0 in full, 1 into the upper byte. -/
  | movi (reg part imm : Nat)
  | move (dst src : Nat)
  /-- Accumulator ALU: OP of R385, destination, source, SH. -/
  | alu (op d s sh : Nat)
  | adda (an on : Nat)
  | suba (an on : Nat)
  | addi (an imm : Nat)
  /-- Loads only: `ymem` is 1 for Y and 2 for Z. -/
  | loads (x y : ParLoad) (ymem : Nat)
  | mul (o : MulOp) (dual : Bool) (accA accB pair : Nat) (x y : ParLoad) (ymem : Nat)
  /-- Single moves: memory 0 X, 1 Y, 2 Z. -/
  | load (mem an mode reg disp : Nat)
  | store (mem an mode reg disp : Nat)
  | sysLoad (an mode acc disp : Nat)
  | sysStore (an mode acc disp : Nat)
  | mbxrd (acc : Nat)
  | mbxwr (acc : Nat)
  | ring (imm : Nat)
  | cmul (o : MulOp) (p conj : Bool) (x y z : ParLoad)
deriving DecidableEq, Repr

/-- The core has the register of code `r` (R368). -/
def coreHasReg (dean : Bool) (r : Nat) : Bool :=
  decide (r ≤ 0x17) ||
    (decide (0x20 ≤ r) && decide (r < 0x50) && (dean || decide (r % 16 < 8)))

/-- The core has address register `n`. -/
def coreHasA (dean : Bool) (n : Nat) : Bool := dean || decide (n < 8)

/-- A parallel load's fields from its bits: EN, D, MODE and R, from the top bit `hi`. -/
def parLoad (v hi dst base : Nat) : ParLoad :=
  ⟨v / 2 ^ hi % 2 == 1, dst + v / 2 ^ (hi - 1) % 2, v / 2 ^ (hi - 4) % 8, base + v / 2 ^ (hi - 6) % 4⟩

/-- A parallel load's MODE is not reserved. -/
def ParLoad.ok (l : ParLoad) : Bool := decide (l.mode < 7)

/-- OP 0b01 to 0b11 of the multiply classes. -/
def mulOp (n : Nat) : MulOp := if n = 1 then .mac else if n = 2 then .msu else .mpy

/-- `op` where `c` holds. -/
def legal (c : Bool) (op : CoreOp) : Option CoreOp := if c then some op else none

/-- Classes 0x0 to 0x2. -/
def decodeControl (dean : Bool) (v : Nat) : Option CoreOp :=
  let op := v / 2 ^ 24 % 16
  let imm := v % 2 ^ 16
  let cond := v / 2 ^ 20 % 16
  let an := v / 2 ^ 16 % 16
  let reg := v / 2 ^ 16 % 128
  match v / 2 ^ 28 with
  | 0 =>
    if v / 2 ^ 16 % 256 ≠ 0 then none
    else match op with
      | 0 => some .halt
      | 1 => some .nop
      | 2 => some .wait
      | 3 => some (.trap imm)
      | 4 => some .isync
      | 5 => some (.bset imm)
      | 6 => some (.bclr imm)
      | 7 => some .debug
      | _ => none
  | 1 =>
    if 8 < cond then none
    else match op with
      | 0 => some (.bra cond imm)
      | 1 => some (.call cond imm)
      | 2 => some (.ret cond)
      | 3 => some (.rti cond)
      | 4 => legal (coreHasA dean an) (.braAn cond an)
      | _ => none
  | _ =>
    match op with
    | 0 => some (.loopImm (v / 2 ^ 12 % 4096) (v % 4096))
    | 1 => legal (coreHasReg dean reg) (.loopReg reg (v % 4096))
    | 2 => some (.rptImm imm)
    | 3 => legal (coreHasReg dean reg) (.rptReg reg)
    | _ => none

/-- Classes 0x3 to 0x6. -/
def decodeMove (dean : Bool) (v : Nat) : Option CoreOp :=
  let r := v / 2 ^ 21 % 128
  match v / 2 ^ 28 with
  | 3 =>
    let part := v / 2 ^ 19 % 4
    legal (decide (part < 2) && v / 2 ^ 16 % 8 == 0 && coreHasReg dean r) (.movi r part (v % 2 ^ 16))
  | 4 =>
    let src := v / 2 ^ 14 % 128
    legal (v % 2 ^ 14 == 0 && coreHasReg dean r && coreHasReg dean src) (.move r src)
  | 5 =>
    let op := v / 2 ^ 23 % 32
    let sh := v / 2 ^ 14 % 32
    legal (v % 2 ^ 14 == 0 && decide (op ≤ 0x10) && (decide (op ≠ 0x0B ∧ op ≠ 0x0C) || decide (sh < 8)))
      (.alu op (v / 2 ^ 21 % 4) (v / 2 ^ 19 % 4) sh)
  | _ =>
    let an := v / 2 ^ 20 % 16
    let on := v / 2 ^ 16 % 16
    match v / 2 ^ 24 % 16 with
    | 0 => legal (coreHasA dean an && coreHasA dean on) (.adda an on)
    | 1 => legal (coreHasA dean an && coreHasA dean on) (.suba an on)
    | 2 => legal (coreHasA dean an) (.addi an (v % 2 ^ 16))
    | _ => none

/-- Classes 0x8 and 0x9. -/
def decodeMac (dean : Bool) (v : Nat) : Option CoreOp :=
  let z := v / 2 ^ 28 == 9
  let dual := v / 2 ^ 25 % 2 == 1
  let a := v / 2 ^ 23 % 4
  let b := v / 2 ^ 21 % 4
  let x := parLoad v 18 0 0
  let y := parLoad v 11 2 (if z then 8 else 4)
  let ymem := if z then 2 else 1
  if !(dean || !z) || v % 32 ≠ 0 || (dual && a == b) || !x.ok || !y.ok then none
  else if v / 2 ^ 26 % 4 = 0 then some (.loads x y ymem)
  else some (.mul (mulOp (v / 2 ^ 26 % 4)) dual a b (v / 2 ^ 19 % 4) x y ymem)

/-- Classes 0xA to 0xC. -/
def decodeSingle (dean : Bool) (v : Nat) : Option CoreOp :=
  let st := v / 2 ^ 27 % 2 == 1
  let mem := v / 2 ^ 25 % 4
  let an := v / 2 ^ 21 % 16
  let mode := v / 2 ^ 18 % 8
  let disp := v % 2 ^ 11
  let acc := v / 2 ^ 16 % 4
  match v / 2 ^ 28 with
  | 10 =>
    let reg := v / 2 ^ 11 % 128
    legal (decide (mem < 3) && (dean || decide (mem < 2)) && coreHasA dean an && coreHasReg dean reg &&
      (mode == 7 || disp == 0)) (if st then .store mem an mode reg disp else .load mem an mode reg disp)
  | 11 =>
    legal (mem == 0 && coreHasA dean an && mode != 6 && v / 2 ^ 11 % 32 == 0 && (mode != 7 || disp % 4 == 0))
      (if st then .sysStore an mode acc disp else .sysLoad an mode acc disp)
  | _ =>
    if v / 2 ^ 18 % 64 ≠ 0 ∨ v / 2 ^ 8 % 256 ≠ 0 then none
    else match v / 2 ^ 24 % 16 with
      | 0 => some (.mbxrd acc)
      | 1 => some (.mbxwr acc)
      | 2 => some (.ring (v % 256))
      | _ => none

/-- Class 0xE. -/
def decodeComplex (dean : Bool) (v : Nat) : Option CoreOp :=
  let x := parLoad v 23 0 0
  let y := parLoad v 16 2 4
  let z := parLoad v 9 0 8
  legal (v / 2 ^ 26 % 4 != 0 && v % 8 == 0 && x.ok && y.ok && z.ok && (dean || !z.en) && !(x.en && z.en && x.dst == z.dst))
    (.cmul (mulOp (v / 2 ^ 26 % 4)) (v / 2 ^ 25 % 2 == 1) (v / 2 ^ 24 % 2 == 1) x y z)

/-- The operation of a program word on a Tutor or on the Dean core; none is ILLEGAL (R383). -/
def decodeCore (dean : Bool) (w : Word) : Option CoreOp :=
  let v := w.toNat
  let c := v / 2 ^ 28
  if c ≤ 2 then decodeControl dean v
  else if c ≤ 6 then decodeMove dean v
  else if c = 8 ∨ c = 9 then decodeMac dean v
  else if c = 10 ∨ c = 11 ∨ c = 12 then decodeSingle dean v
  else if c = 14 then decodeComplex dean v
  else none

/-- Branch and loop instructions, which must not end a loop's body (R376). -/
def CoreOp.transfers : CoreOp → Bool
  | .bra _ _ | .call _ _ | .ret _ | .rti _ | .braAn _ _ | .loopImm _ _ | .loopReg _ _ | .rptImm _ | .rptReg _ => true
  | _ => false

/-- Instructions that keep a loop's body out of the repeat cache (R378): branches, CALL, ISYNC, and an inner LOOP. -/
def CoreOp.uncached : CoreOp → Bool
  | .bra _ _ | .call _ _ | .ret _ | .rti _ | .braAn _ _ | .loopImm _ _ | .loopReg _ _ | .isync => true
  | _ => false

end Sys2Proof.Machine
end

