-- ==== Sys2Proof/Config.lean ====
section
/-!
DEFINITION. The free values of the model: what the spec leaves open although the device goes on. Each is an opaque
constant applied to the counter `State.fresh`, which a step reads and advances (assumption 2); nothing constrains it.
-/

namespace Sys2Proof.Config

/-- The 32 random bytes of a debug challenge (R89). -/
opaque challenge : Nat → BitVec 256

/-- The device's RSA-4096 key pair, generated at Vergoja test (R85): the free bits of its modulus, and its private exponent. -/
opaque deviceModulus : BitVec 4096
opaque deviceExponent : BitVec 4096

/-- The key pair of the Vergoja device certification authority, which signs the certificate (R86). -/
opaque issuerModulus : BitVec 4096
opaque issuerExponent : BitVec 4096

/-- The salt of a signature that Proctor makes (R79), and that of the certificate's. -/
opaque salt : Nat → BitVec 512
opaque certSalt : BitVec 512

/-- What R86 leaves open of the certificate: its serial number, the issuer's Name (its length and its bytes), the twelve digits of
notBefore, and whether each extension is critical. -/
opaque certSerial : BitVec 159
opaque certIssuerLen : BitVec 8
opaque certIssuer : Nat → BitVec 8
opaque certFrom : Nat → Fin 10
opaque certCritical : Nat → Bool

/-- A 32-bit value that the spec leaves open. -/
opaque openWord : Nat → BitVec 32

/-- An edge of a front-end control line whose instant a true-time delay puts between two HK ticks falls on the later one (R335). -/
opaque edgeLate : Bool

/-- The taps of a half-band stage at its odd offsets ±(2 j + 1), in units of 2 ^ −30, and how many there are on a side (R240). Stages: 0 to 3
downlink interpolation (stage 4), 8 the one of stage 8, 16 that of uplink stage 3, 20 to 23 the channelisation, 32 to 40 PRACH, 48 to 53 the
canceller's references, 56 to 60 its estimate, 64 to 69 its monitor. -/
opaque halfBandTap : Nat → Nat → Int
opaque halfBandReach : Nat → Nat

/-- The taps of the 64-phase polyphase filter by phase, in units of 2 ^ −30, and half their number (R243, R259). -/
opaque delayTap : Nat → Nat → Int
opaque delayReach : Nat

/-- The spurs of an NCO by its phase word, in units of 2 ^ −20 (R241, R260). -/
opaque ncoError : Nat → Int × Int

/-- What the device's own precision adds before a rounding, by the arithmetic point and the exact number (R236, R263, R281, R291): 1 the iFFT,
2 the gain, 3 pre-distortion, 4 the FFT, 5 PRACH's, 6 crest-factor reduction, 7 a basis value, 8 a stage with half-bands. -/
opaque roundError : Nat → Int → Int

end Sys2Proof.Config
end

