-- ==== Sys2Proof/Machine/RegMap.lean ====
section
/-!
DEFINITION. The register map: every register of the field tables of spec/01 to spec/17, with the
position, access type (R7), reset value and keep class (R10) of each of its fields, at the addresses of
R20 and of the chapters' register sections. A bit that no field lists is reserved (R9).
`Reg.<NAME>` is a register's address and `Fld.<NAME>_<FIELD>` a field of it, both under the spec's names;
the parameters of an array register are its indices in the order in which its heading gives them.
The fields whose reset column reads "strap", "fuse" or "trim" stand here with 0 (assumption 3).
-/

namespace Sys2Proof.Machine

/-- The access types of R7. -/
inductive Access where
  | rw | ro | w1c | wo | rw1s
deriving DecidableEq, Repr

/-- The keep classes of R10. -/
inductive Keep where
  | n | w | s | p | f
deriving DecidableEq, Repr

/-- One field of a register: its position, and the columns Type, Reset and Keep of its field table. -/
structure FieldRow where
  hi : Nat
  lo : Nat
  access : Access
  /-- The Reset column. -/
  reset : Nat
  keep : Keep
  /-- The codes that are not reserved, as inclusive ranges; none listed means every code is valid (R9). -/
  codes : List (Nat × Nat) := []
  /-- The Reset column names the register's own first index (LIN_PGg_COMP_SRC.TSRC, SFD_CLASSc.PSET). -/
  resetIsIndex : Bool := false
deriving DecidableEq, Repr

/-- One register, or one array of registers: its first address and the (count, stride) of each index. -/
structure RegRow where
  base : Nat
  dims : List (Nat × Nat)
  fields : List FieldRow
deriving DecidableEq, Repr

/-- A field of one register: the register's address and the field's bits [hi:lo]. -/
structure Fld where
  addr : Nat
  hi : Nat
  lo : Nat
deriving DecidableEq, Repr

abbrev Reg.DEV_ID : Nat := 0
abbrev Fld.DEV_ID_PART : Fld := ⟨Reg.DEV_ID, 31, 16⟩
abbrev Fld.DEV_ID_STEP_LETTER : Fld := ⟨Reg.DEV_ID, 15, 8⟩
abbrev Fld.DEV_ID_STEP_NUM : Fld := ⟨Reg.DEV_ID, 7, 0⟩
abbrev Reg.DEV_CTRL : Nat := 4
abbrev Fld.DEV_CTRL_KEY : Fld := ⟨Reg.DEV_CTRL, 15, 8⟩
abbrev Fld.DEV_CTRL_ERR_CLR : Fld := ⟨Reg.DEV_CTRL, 2, 2⟩
abbrev Fld.DEV_CTRL_WARM : Fld := ⟨Reg.DEV_CTRL, 1, 1⟩
abbrev Fld.DEV_CTRL_SOFT : Fld := ⟨Reg.DEV_CTRL, 0, 0⟩
abbrev Reg.DEV_STRAPS : Nat := 8
abbrev Fld.DEV_STRAPS_FLASH_MODE : Fld := ⟨Reg.DEV_STRAPS, 4, 3⟩
abbrev Fld.DEV_STRAPS_BOARD_ID : Fld := ⟨Reg.DEV_STRAPS, 2, 0⟩
abbrev Reg.DEV_SCRATCH : Nat := 0xC
abbrev Fld.DEV_SCRATCH_VALUE : Fld := ⟨Reg.DEV_SCRATCH, 31, 0⟩
abbrev Reg.DEV_MSPI_ERR : Nat := 0x10
abbrev Fld.DEV_MSPI_ERR_ABORT : Fld := ⟨Reg.DEV_MSPI_ERR, 31, 16⟩
abbrev Fld.DEV_MSPI_ERR_CRC : Fld := ⟨Reg.DEV_MSPI_ERR, 15, 0⟩
abbrev Reg.DEV_MERR_ADDR : Nat := 0x14
abbrev Fld.DEV_MERR_ADDR_ADDR : Fld := ⟨Reg.DEV_MERR_ADDR, 31, 0⟩
abbrev Reg.DEV_MERR_INFO : Nat := 0x18
abbrev Fld.DEV_MERR_INFO_VALID : Fld := ⟨Reg.DEV_MERR_INFO, 31, 31⟩
abbrev Fld.DEV_MERR_INFO_POSTED : Fld := ⟨Reg.DEV_MERR_INFO, 13, 13⟩
abbrev Fld.DEV_MERR_INFO_WRITE : Fld := ⟨Reg.DEV_MERR_INFO, 12, 12⟩
abbrev Fld.DEV_MERR_INFO_REQ : Fld := ⟨Reg.DEV_MERR_INFO, 11, 8⟩
abbrev Fld.DEV_MERR_INFO_STATUS : Fld := ⟨Reg.DEV_MERR_INFO, 7, 0⟩
abbrev Reg.CLK_STATUS : Nat := 0x50000
abbrev Fld.CLK_STATUS_ROOT_UNLOCKED : Fld := ⟨Reg.CLK_STATUS, 8, 8⟩
abbrev Fld.CLK_STATUS_REF_SEL : Fld := ⟨Reg.CLK_STATUS, 5, 4⟩
abbrev Fld.CLK_STATUS_AON_RC : Fld := ⟨Reg.CLK_STATUS, 2, 2⟩
abbrev Fld.CLK_STATUS_FABRIC_ON_ROOT : Fld := ⟨Reg.CLK_STATUS, 1, 1⟩
abbrev Fld.CLK_STATUS_ROOT_LOCK : Fld := ⟨Reg.CLK_STATUS, 0, 0⟩
abbrev Reg.CLK_PHASE : Nat := 0x50004
abbrev Fld.CLK_PHASE_OVERRUN : Fld := ⟨Reg.CLK_PHASE, 19, 19⟩
abbrev Fld.CLK_PHASE_REFUSED : Fld := ⟨Reg.CLK_PHASE, 18, 18⟩
abbrev Fld.CLK_PHASE_BUSY : Fld := ⟨Reg.CLK_PHASE, 17, 17⟩
abbrev Fld.CLK_PHASE_GO : Fld := ⟨Reg.CLK_PHASE, 16, 16⟩
abbrev Fld.CLK_PHASE_STEP : Fld := ⟨Reg.CLK_PHASE, 15, 0⟩
abbrev Reg.CLK_PHASE_POS : Nat := 0x50008
abbrev Fld.CLK_PHASE_POS_POS : Fld := ⟨Reg.CLK_PHASE_POS, 31, 0⟩
abbrev Reg.CLK_SYSOUT : Nat := 0x5000C
abbrev Fld.CLK_SYSOUT_OUT1_SEL : Fld := ⟨Reg.CLK_SYSOUT, 5, 5⟩
abbrev Fld.CLK_SYSOUT_OUT0_SEL : Fld := ⟨Reg.CLK_SYSOUT, 4, 4⟩
abbrev Fld.CLK_SYSOUT_OUT1_EN : Fld := ⟨Reg.CLK_SYSOUT, 1, 1⟩
abbrev Fld.CLK_SYSOUT_OUT0_EN : Fld := ⟨Reg.CLK_SYSOUT, 0, 0⟩
abbrev Reg.BOOT_STATUS : Nat := 0x10000
abbrev Fld.BOOT_STATUS_STEP : Fld := ⟨Reg.BOOT_STATUS, 20, 16⟩
abbrev Fld.BOOT_STATUS_NO_CALREC : Fld := ⟨Reg.BOOT_STATUS, 10, 10⟩
abbrev Fld.BOOT_STATUS_FLASH_SLOW : Fld := ⟨Reg.BOOT_STATUS, 9, 9⟩
abbrev Fld.BOOT_STATUS_JOURNAL_FAIL : Fld := ⟨Reg.BOOT_STATUS, 8, 8⟩
abbrev Fld.BOOT_STATUS_DETAINED : Fld := ⟨Reg.BOOT_STATUS, 3, 3⟩
abbrev Fld.BOOT_STATUS_COMPLETE : Fld := ⟨Reg.BOOT_STATUS, 2, 2⟩
abbrev Fld.BOOT_STATUS_PREF_SLOT : Fld := ⟨Reg.BOOT_STATUS, 1, 1⟩
abbrev Fld.BOOT_STATUS_SLOT : Fld := ⟨Reg.BOOT_STATUS, 0, 0⟩
abbrev Reg.BOOT_CTRL : Nat := 0x10004
abbrev Fld.BOOT_CTRL_KEY : Fld := ⟨Reg.BOOT_CTRL, 15, 8⟩
abbrev Fld.BOOT_CTRL_FORCE_EN : Fld := ⟨Reg.BOOT_CTRL, 3, 3⟩
abbrev Fld.BOOT_CTRL_FORCE_SLOT : Fld := ⟨Reg.BOOT_CTRL, 2, 2⟩
abbrev Fld.BOOT_CTRL_CLR_ATTEMPTS : Fld := ⟨Reg.BOOT_CTRL, 1, 1⟩
abbrev Reg.BOOT_ATTEMPTS : Nat := 0x10008
abbrev Fld.BOOT_ATTEMPTS_LIMIT : Fld := ⟨Reg.BOOT_ATTEMPTS, 11, 8⟩
abbrev Fld.BOOT_ATTEMPTS_COUNT : Fld := ⟨Reg.BOOT_ATTEMPTS, 7, 0⟩
abbrev Reg.BOOT_DETAIN_CAUSE : Nat := 0x1000C
abbrev Fld.BOOT_DETAIN_CAUSE_INFERRED : Fld := ⟨Reg.BOOT_DETAIN_CAUSE, 8, 8⟩
abbrev Fld.BOOT_DETAIN_CAUSE_CAUSE : Fld := ⟨Reg.BOOT_DETAIN_CAUSE, 7, 0⟩
abbrev Reg.BOOT_HEARTBEAT : Nat := 0x10010
abbrev Fld.BOOT_HEARTBEAT_COUNT : Fld := ⟨Reg.BOOT_HEARTBEAT, 31, 0⟩
abbrev Reg.BOOT_IMAGE_VER : Nat := 0x10014
abbrev Fld.BOOT_IMAGE_VER_VERSION : Fld := ⟨Reg.BOOT_IMAGE_VER, 31, 0⟩
abbrev Reg.BOOT_FL_ADDR : Nat := 0x10020
abbrev Fld.BOOT_FL_ADDR_ADDR : Fld := ⟨Reg.BOOT_FL_ADDR, 31, 0⟩
abbrev Reg.BOOT_FL_LEN : Nat := 0x10024
abbrev Fld.BOOT_FL_LEN_LEN : Fld := ⟨Reg.BOOT_FL_LEN, 31, 0⟩
abbrev Reg.BOOT_FL_SRC : Nat := 0x10028
abbrev Fld.BOOT_FL_SRC_ADDR : Fld := ⟨Reg.BOOT_FL_SRC, 31, 0⟩
abbrev Reg.BOOT_FL_CTRL : Nat := 0x1002C
abbrev Fld.BOOT_FL_CTRL_KEY : Fld := ⟨Reg.BOOT_FL_CTRL, 15, 8⟩
abbrev Fld.BOOT_FL_CTRL_OVERRUN : Fld := ⟨Reg.BOOT_FL_CTRL, 4, 4⟩
abbrev Fld.BOOT_FL_CTRL_GO : Fld := ⟨Reg.BOOT_FL_CTRL, 3, 3⟩
abbrev Fld.BOOT_FL_CTRL_SRC : Fld := ⟨Reg.BOOT_FL_CTRL, 2, 2⟩
abbrev Fld.BOOT_FL_CTRL_OP : Fld := ⟨Reg.BOOT_FL_CTRL, 1, 0⟩
abbrev Reg.BOOT_VERIFY_CTRL : Nat := 0x10030
abbrev Fld.BOOT_VERIFY_CTRL_KEY : Fld := ⟨Reg.BOOT_VERIFY_CTRL, 15, 8⟩
abbrev Fld.BOOT_VERIFY_CTRL_SLOT : Fld := ⟨Reg.BOOT_VERIFY_CTRL, 1, 1⟩
abbrev Fld.BOOT_VERIFY_CTRL_GO : Fld := ⟨Reg.BOOT_VERIFY_CTRL, 0, 0⟩
abbrev Reg.BOOT_VERIFY_DETAIL : Nat := 0x10034
abbrev Fld.BOOT_VERIFY_DETAIL_OFFSET : Fld := ⟨Reg.BOOT_VERIFY_DETAIL, 31, 0⟩
abbrev Reg.BOOT_FBUF (i : Nat) : Nat := 0x11000 + 4 * i
abbrev Fld.BOOT_FBUF_DATA (i : Nat) : Fld := ⟨(Reg.BOOT_FBUF i), 31, 0⟩
abbrev Reg.PROC_STATUS : Nat := 0x20000
abbrev Fld.PROC_STATUS_RB_COUNT : Fld := ⟨Reg.PROC_STATUS, 23, 16⟩
abbrev Fld.PROC_STATUS_SLOT_STATE : Fld := ⟨Reg.PROC_STATUS, 15, 8⟩
abbrev Fld.PROC_STATUS_KEY_FAULT : Fld := ⟨Reg.PROC_STATUS, 3, 3⟩
abbrev Fld.PROC_STATUS_VENDOR_ROOT_OK : Fld := ⟨Reg.PROC_STATUS, 2, 2⟩
abbrev Fld.PROC_STATUS_DBG_LEVEL : Fld := ⟨Reg.PROC_STATUS, 1, 0⟩
abbrev Reg.PROC_CMD : Nat := 0x20004
abbrev Fld.PROC_CMD_KEY : Fld := ⟨Reg.PROC_CMD, 15, 8⟩
abbrev Fld.PROC_CMD_GO : Fld := ⟨Reg.PROC_CMD, 4, 4⟩
abbrev Fld.PROC_CMD_OP : Fld := ⟨Reg.PROC_CMD, 3, 0⟩
abbrev Reg.PROC_CMD_STATUS : Nat := 0x20008
abbrev Fld.PROC_CMD_STATUS_OVERRUN : Fld := ⟨Reg.PROC_CMD_STATUS, 17, 17⟩
abbrev Fld.PROC_CMD_STATUS_BUSY : Fld := ⟨Reg.PROC_CMD_STATUS, 16, 16⟩
abbrev Fld.PROC_CMD_STATUS_RESULT : Fld := ⟨Reg.PROC_CMD_STATUS, 7, 0⟩
abbrev Reg.PROC_DBG_STATUS : Nat := 0x2000C
abbrev Fld.PROC_DBG_STATUS_FAIL_COUNT : Fld := ⟨Reg.PROC_DBG_STATUS, 15, 8⟩
abbrev Fld.PROC_DBG_STATUS_LOCKOUT : Fld := ⟨Reg.PROC_DBG_STATUS, 1, 1⟩
abbrev Fld.PROC_DBG_STATUS_CHAL_VALID : Fld := ⟨Reg.PROC_DBG_STATUS, 0, 0⟩
abbrev Reg.PROC_ATT_CTRL : Nat := 0x20010
abbrev Fld.PROC_ATT_CTRL_KEY : Fld := ⟨Reg.PROC_ATT_CTRL, 15, 8⟩
abbrev Fld.PROC_ATT_CTRL_OVERRUN : Fld := ⟨Reg.PROC_ATT_CTRL, 1, 1⟩
abbrev Fld.PROC_ATT_CTRL_GO : Fld := ⟨Reg.PROC_ATT_CTRL, 0, 0⟩
abbrev Reg.LNK_CTRL : Nat := 0x80000
abbrev Fld.LNK_CTRL_RESTART : Fld := ⟨Reg.LNK_CTRL, 1, 1⟩
abbrev Fld.LNK_CTRL_ENABLE : Fld := ⟨Reg.LNK_CTRL, 0, 0⟩
abbrev Reg.LNK_STATUS : Nat := 0x80004
abbrev Fld.LNK_STATUS_QB1_W : Fld := ⟨Reg.LNK_STATUS, 31, 28⟩
abbrev Fld.LNK_STATUS_QB0_W : Fld := ⟨Reg.LNK_STATUS, 27, 24⟩
abbrev Fld.LNK_STATUS_TB1_W : Fld := ⟨Reg.LNK_STATUS, 23, 20⟩
abbrev Fld.LNK_STATUS_TB0_W : Fld := ⟨Reg.LNK_STATUS, 19, 16⟩
abbrev Fld.LNK_STATUS_PARTNER_LOCKED : Fld := ⟨Reg.LNK_STATUS, 9, 9⟩
abbrev Fld.LNK_STATUS_RX_LOCKED : Fld := ⟨Reg.LNK_STATUS, 8, 8⟩
abbrev Fld.LNK_STATUS_STATE : Fld := ⟨Reg.LNK_STATUS, 2, 0⟩
abbrev Reg.LNK_DOWN_INFO : Nat := 0x80008
abbrev Fld.LNK_DOWN_INFO_COUNT : Fld := ⟨Reg.LNK_DOWN_INFO, 31, 16⟩
abbrev Fld.LNK_DOWN_INFO_LANE : Fld := ⟨Reg.LNK_DOWN_INFO, 15, 8⟩
abbrev Fld.LNK_DOWN_INFO_REASON : Fld := ⟨Reg.LNK_DOWN_INFO, 3, 0⟩
abbrev Reg.LNK_TIMER_A : Nat := 0x80010
abbrev Fld.LNK_TIMER_A_LOCK_US : Fld := ⟨Reg.LNK_TIMER_A, 31, 16⟩
abbrev Fld.LNK_TIMER_A_DETECT_MS : Fld := ⟨Reg.LNK_TIMER_A, 15, 0⟩
abbrev Reg.LNK_TIMER_B : Nat := 0x80014
abbrev Fld.LNK_TIMER_B_ROLL_US : Fld := ⟨Reg.LNK_TIMER_B, 31, 16⟩
abbrev Fld.LNK_TIMER_B_TRAIN_US : Fld := ⟨Reg.LNK_TIMER_B, 9, 0⟩
abbrev Reg.LNK_RETRY : Nat := 0x80018
abbrev Fld.LNK_RETRY_EXHAUSTED : Fld := ⟨Reg.LNK_RETRY, 16, 16⟩
abbrev Fld.LNK_RETRY_COUNT : Fld := ⟨Reg.LNK_RETRY, 15, 8⟩
abbrev Fld.LNK_RETRY_LIMIT : Fld := ⟨Reg.LNK_RETRY, 7, 0⟩
abbrev Reg.LNK_WIDTH_MAX : Nat := 0x8001C
abbrev Fld.LNK_WIDTH_MAX_QB1 : Fld := ⟨Reg.LNK_WIDTH_MAX, 15, 12⟩
abbrev Fld.LNK_WIDTH_MAX_QB0 : Fld := ⟨Reg.LNK_WIDTH_MAX, 11, 8⟩
abbrev Fld.LNK_WIDTH_MAX_TB1 : Fld := ⟨Reg.LNK_WIDTH_MAX, 7, 4⟩
abbrev Fld.LNK_WIDTH_MAX_TB0 : Fld := ⟨Reg.LNK_WIDTH_MAX, 3, 0⟩
abbrev Reg.LNK_EBUF0 : Nat := 0x80020
abbrev Fld.LNK_EBUF0_MAX : Fld := ⟨Reg.LNK_EBUF0, 31, 24⟩
abbrev Fld.LNK_EBUF0_MIN : Fld := ⟨Reg.LNK_EBUF0, 23, 16⟩
abbrev Fld.LNK_EBUF0_FILL : Fld := ⟨Reg.LNK_EBUF0, 7, 0⟩
abbrev Reg.LNK_EBUF1 : Nat := 0x80024
abbrev Fld.LNK_EBUF1_MAX : Fld := ⟨Reg.LNK_EBUF1, 31, 24⟩
abbrev Fld.LNK_EBUF1_MIN : Fld := ⟨Reg.LNK_EBUF1, 23, 16⟩
abbrev Fld.LNK_EBUF1_FILL : Fld := ⟨Reg.LNK_EBUF1, 7, 0⟩
abbrev Reg.LNK_TEST : Nat := 0x80030
abbrev Fld.LNK_TEST_DURATION_MS : Fld := ⟨Reg.LNK_TEST, 31, 16⟩
abbrev Fld.LNK_TEST_PATTERN : Fld := ⟨Reg.LNK_TEST, 11, 10⟩
abbrev Fld.LNK_TEST_CHK_EN : Fld := ⟨Reg.LNK_TEST, 9, 9⟩
abbrev Fld.LNK_TEST_GEN_EN : Fld := ⟨Reg.LNK_TEST, 8, 8⟩
abbrev Fld.LNK_TEST_LOOP : Fld := ⟨Reg.LNK_TEST, 5, 4⟩
abbrev Fld.LNK_TEST_GO : Fld := ⟨Reg.LNK_TEST, 0, 0⟩
abbrev Reg.LNK_PRBS_UI_LO : Nat := 0x80038
abbrev Fld.LNK_PRBS_UI_LO_UI : Fld := ⟨Reg.LNK_PRBS_UI_LO, 31, 0⟩
abbrev Reg.LNK_PRBS_UI_HI : Nat := 0x8003C
abbrev Fld.LNK_PRBS_UI_HI_UI : Fld := ⟨Reg.LNK_PRBS_UI_HI, 31, 0⟩
abbrev Reg.LNK_MARGIN_CTRL : Nat := 0x80040
abbrev Fld.LNK_MARGIN_CTRL_DWELL : Fld := ⟨Reg.LNK_MARGIN_CTRL, 7, 4⟩
abbrev Fld.LNK_MARGIN_CTRL_OVERRUN : Fld := ⟨Reg.LNK_MARGIN_CTRL, 1, 1⟩
abbrev Fld.LNK_MARGIN_CTRL_GO : Fld := ⟨Reg.LNK_MARGIN_CTRL, 0, 0⟩
abbrev Reg.LNK_MARGIN_DEST : Nat := 0x80044
abbrev Fld.LNK_MARGIN_DEST_ADDR : Fld := ⟨Reg.LNK_MARGIN_DEST, 31, 0⟩
abbrev Reg.LNK_LANE_STATUSe (i : Nat) : Nat := 0x80100 + 4 * i
abbrev Fld.LNK_LANE_STATUSe_HDR_ERR (i : Nat) : Fld := ⟨(Reg.LNK_LANE_STATUSe i), 31, 16⟩
abbrev Fld.LNK_LANE_STATUSe_PHASE (i : Nat) : Fld := ⟨(Reg.LNK_LANE_STATUSe i), 15, 10⟩
abbrev Fld.LNK_LANE_STATUSe_SKEW (i : Nat) : Fld := ⟨(Reg.LNK_LANE_STATUSe i), 9, 5⟩
abbrev Fld.LNK_LANE_STATUSe_EQ_DEFAULT (i : Nat) : Fld := ⟨(Reg.LNK_LANE_STATUSe i), 4, 4⟩
abbrev Fld.LNK_LANE_STATUSe_ID_ERR (i : Nat) : Fld := ⟨(Reg.LNK_LANE_STATUSe i), 3, 3⟩
abbrev Fld.LNK_LANE_STATUSe_BLOCK_LOCK (i : Nat) : Fld := ⟨(Reg.LNK_LANE_STATUSe i), 2, 2⟩
abbrev Fld.LNK_LANE_STATUSe_BIT_LOCK (i : Nat) : Fld := ⟨(Reg.LNK_LANE_STATUSe i), 1, 1⟩
abbrev Fld.LNK_LANE_STATUSe_DETECTED (i : Nat) : Fld := ⟨(Reg.LNK_LANE_STATUSe i), 0, 0⟩
abbrev Reg.LNK_EQe (i : Nat) : Nat := 0x80200 + 4 * i
abbrev Fld.LNK_EQe_DFE (i : Nat) : Fld := ⟨(Reg.LNK_EQe i), 31, 28⟩
abbrev Fld.LNK_EQe_CTLE (i : Nat) : Fld := ⟨(Reg.LNK_EQe i), 27, 24⟩
abbrev Fld.LNK_EQe_POST (i : Nat) : Fld := ⟨(Reg.LNK_EQe i), 20, 16⟩
abbrev Fld.LNK_EQe_MAIN (i : Nat) : Fld := ⟨(Reg.LNK_EQe i), 13, 8⟩
abbrev Fld.LNK_EQe_PRE (i : Nat) : Fld := ⟨(Reg.LNK_EQe i), 3, 0⟩
abbrev Reg.LNK_PRBS_ERRe (i : Nat) : Nat := 0x80300 + 4 * i
abbrev Fld.LNK_PRBS_ERRe_ERR (i : Nat) : Fld := ⟨(Reg.LNK_PRBS_ERRe i), 31, 0⟩
abbrev Reg.QUE_CTRL : Nat := 0xA0000
abbrev Fld.QUE_CTRL_CNT_CLR : Fld := ⟨Reg.QUE_CTRL, 1, 1⟩
abbrev Fld.QUE_CTRL_PL2_ONLY : Fld := ⟨Reg.QUE_CTRL, 0, 0⟩
abbrev Reg.QUE_STATUS : Nat := 0xA0004
abbrev Fld.QUE_STATUS_MAX_LEN : Fld := ⟨Reg.QUE_STATUS, 31, 16⟩
abbrev Fld.QUE_STATUS_CAP_TRIMMED : Fld := ⟨Reg.QUE_STATUS, 3, 3⟩
abbrev Fld.QUE_STATUS_PEER_DETAINED : Fld := ⟨Reg.QUE_STATUS, 2, 2⟩
abbrev Fld.QUE_STATUS_LEVEL : Fld := ⟨Reg.QUE_STATUS, 1, 0⟩
abbrev Reg.QUE_FLUSH : Nat := 0xA0008
abbrev Fld.QUE_FLUSH_FLUSH : Fld := ⟨Reg.QUE_FLUSH, 31, 0⟩
abbrev Reg.QUE_RXERR0 : Nat := 0xA0010
abbrev Fld.QUE_RXERR0_FRAMING : Fld := ⟨Reg.QUE_RXERR0, 31, 16⟩
abbrev Fld.QUE_RXERR0_CRC : Fld := ⟨Reg.QUE_RXERR0, 15, 0⟩
abbrev Reg.QUE_RXERR1 : Nat := 0xA0014
abbrev Fld.QUE_RXERR1_FRAMING : Fld := ⟨Reg.QUE_RXERR1, 31, 16⟩
abbrev Fld.QUE_RXERR1_CRC : Fld := ⟨Reg.QUE_RXERR1, 15, 0⟩
abbrev Reg.QUE_MISC : Nat := 0xA0018
abbrev Fld.QUE_MISC_LBK_DROP : Fld := ⟨Reg.QUE_MISC, 31, 16⟩
abbrev Fld.QUE_MISC_MALFORMED : Fld := ⟨Reg.QUE_MISC, 15, 0⟩
abbrev Reg.QUE_PEER_CAP (i : Nat) : Nat := 0xA0100 + 4 * i
abbrev Fld.QUE_PEER_CAP_DATA (i : Nat) : Fld := ⟨(Reg.QUE_PEER_CAP i), 31, 0⟩
abbrev Reg.QUE_CFGn (i : Nat) : Nat := 0xA1000 + 0x20 * i
abbrev Fld.QUE_CFGn_UNLIMITED (i : Nat) : Fld := ⟨(Reg.QUE_CFGn i), 27, 27⟩
abbrev Fld.QUE_CFGn_USE (i : Nat) : Fld := ⟨(Reg.QUE_CFGn i), 26, 26⟩
abbrev Fld.QUE_CFGn_BUNDLE (i : Nat) : Fld := ⟨(Reg.QUE_CFGn i), 25, 24⟩
abbrev Fld.QUE_CFGn_CAP (i : Nat) : Fld := ⟨(Reg.QUE_CFGn i), 23, 0⟩
abbrev Reg.QUE_WMn (i : Nat) : Nat := 0xA1004 + 0x20 * i
abbrev Fld.QUE_WMn_STICKY (i : Nat) : Fld := ⟨(Reg.QUE_WMn i), 31, 31⟩
abbrev Fld.QUE_WMn_LEVEL (i : Nat) : Fld := ⟨(Reg.QUE_WMn i), 23, 0⟩
abbrev Reg.QUE_LEVELn (i : Nat) : Nat := 0xA1008 + 0x20 * i
abbrev Fld.QUE_LEVELn_LIVE (i : Nat) : Fld := ⟨(Reg.QUE_LEVELn i), 23, 0⟩
abbrev Reg.QUE_GRANTn (i : Nat) : Nat := 0xA100C + 0x20 * i
abbrev Fld.QUE_GRANTn_TOTAL (i : Nat) : Fld := ⟨(Reg.QUE_GRANTn i), 23, 0⟩
abbrev Reg.QUE_CONSn (i : Nat) : Nat := 0xA1010 + 0x20 * i
abbrev Fld.QUE_CONSn_TOTAL (i : Nat) : Fld := ⟨(Reg.QUE_CONSn i), 23, 0⟩
abbrev Reg.QUE_DROPAn (i : Nat) : Nat := 0xA1014 + 0x20 * i
abbrev Fld.QUE_DROPAn_NOCREDIT (i : Nat) : Fld := ⟨(Reg.QUE_DROPAn i), 31, 16⟩
abbrev Fld.QUE_DROPAn_DISCARD (i : Nat) : Fld := ⟨(Reg.QUE_DROPAn i), 15, 0⟩
abbrev Reg.QUE_DROPBn (i : Nat) : Nat := 0xA1018 + 0x20 * i
abbrev Fld.QUE_DROPBn_STALE (i : Nat) : Fld := ⟨(Reg.QUE_DROPBn i), 31, 16⟩
abbrev Fld.QUE_DROPBn_ZERO_LEN (i : Nat) : Fld := ⟨(Reg.QUE_DROPBn i), 15, 0⟩
abbrev Reg.QUE_COUNTn (i : Nat) : Nat := 0xA101C + 0x20 * i
abbrev Fld.QUE_COUNTn_WM_CROSS (i : Nat) : Fld := ⟨(Reg.QUE_COUNTn i), 31, 16⟩
abbrev Fld.QUE_COUNTn_SEQ_GAP (i : Nat) : Fld := ⟨(Reg.QUE_COUNTn i), 15, 0⟩
abbrev Reg.CST_STATUS : Nat := 0xC0000
abbrev Fld.CST_STATUS_SCRUB_RUN : Fld := ⟨Reg.CST_STATUS, 2, 2⟩
abbrev Fld.CST_STATUS_SELFTEST_FAIL : Fld := ⟨Reg.CST_STATUS, 1, 1⟩
abbrev Fld.CST_STATUS_READY : Fld := ⟨Reg.CST_STATUS, 0, 0⟩
abbrev Reg.CST_BANK_FAIL0 : Nat := 0xC0008
abbrev Fld.CST_BANK_FAIL0_BANKS : Fld := ⟨Reg.CST_BANK_FAIL0, 31, 0⟩
abbrev Reg.CST_BANK_FAIL1 : Nat := 0xC000C
abbrev Fld.CST_BANK_FAIL1_BANKS : Fld := ⟨Reg.CST_BANK_FAIL1, 31, 0⟩
abbrev Reg.CST_ECC_CORR : Nat := 0xC0010
abbrev Fld.CST_ECC_CORR_COUNT : Fld := ⟨Reg.CST_ECC_CORR, 31, 0⟩
abbrev Reg.CST_ECC_UNC : Nat := 0xC0014
abbrev Fld.CST_ECC_UNC_COUNT : Fld := ⟨Reg.CST_ECC_UNC, 15, 0⟩
abbrev Reg.CST_ECC_LAST : Nat := 0xC0018
abbrev Fld.CST_ECC_LAST_ADDR : Fld := ⟨Reg.CST_ECC_LAST, 31, 0⟩
abbrev Reg.CST_ECC_LAST_INFO : Nat := 0xC001C
abbrev Fld.CST_ECC_LAST_INFO_VALID : Fld := ⟨Reg.CST_ECC_LAST_INFO, 31, 31⟩
abbrev Fld.CST_ECC_LAST_INFO_REQ : Fld := ⟨Reg.CST_ECC_LAST_INFO, 3, 0⟩
abbrev Reg.CST_ECC_INJ : Nat := 0xC0020
abbrev Fld.CST_ECC_INJ_MODE : Fld := ⟨Reg.CST_ECC_INJ, 29, 28⟩
abbrev Fld.CST_ECC_INJ_WORD : Fld := ⟨Reg.CST_ECC_INJ, 26, 3⟩
abbrev Reg.CST_SCRUB_CTRL : Nat := 0xC0030
abbrev Fld.CST_SCRUB_CTRL_PERIOD : Fld := ⟨Reg.CST_SCRUB_CTRL, 31, 16⟩
abbrev Fld.CST_SCRUB_CTRL_OVERRUN : Fld := ⟨Reg.CST_SCRUB_CTRL, 1, 1⟩
abbrev Fld.CST_SCRUB_CTRL_GO : Fld := ⟨Reg.CST_SCRUB_CTRL, 0, 0⟩
abbrev Reg.CST_SCRUB_STATUS : Nat := 0xC0034
abbrev Fld.CST_SCRUB_STATUS_PASSES : Fld := ⟨Reg.CST_SCRUB_STATUS, 31, 16⟩
abbrev Fld.CST_SCRUB_STATUS_LAST_UNC : Fld := ⟨Reg.CST_SCRUB_STATUS, 15, 0⟩
abbrev Reg.CST_SCRUB_POS : Nat := 0xC0038
abbrev Fld.CST_SCRUB_POS_ROW : Fld := ⟨Reg.CST_SCRUB_POS, 15, 0⟩
abbrev Reg.CST_RET_MASK0 : Nat := 0xC0040
abbrev Fld.CST_RET_MASK0_BANKS : Fld := ⟨Reg.CST_RET_MASK0, 31, 0⟩
abbrev Reg.CST_RET_MASK1 : Nat := 0xC0044
abbrev Fld.CST_RET_MASK1_BANKS : Fld := ⟨Reg.CST_RET_MASK1, 31, 0⟩
abbrev Reg.CST_RETFAIL0 : Nat := 0xC0048
abbrev Fld.CST_RETFAIL0_BANKS : Fld := ⟨Reg.CST_RETFAIL0, 31, 0⟩
abbrev Reg.CST_RETFAIL1 : Nat := 0xC004C
abbrev Fld.CST_RETFAIL1_BANKS : Fld := ⟨Reg.CST_RETFAIL1, 31, 0⟩
abbrev Reg.CST_RETSIGk (i : Nat) : Nat := 0xC0100 + 4 * i
abbrev Fld.CST_RETSIGk_CRC (i : Nat) : Fld := ⟨(Reg.CST_RETSIGk i), 31, 0⟩
abbrev Reg.CST_REGIONn (i : Nat) (j : Nat) : Nat := 0xC1000 + 0x10 * i + 4 * j
abbrev Fld.CST_REGIONn_ENTRY (i : Nat) (j : Nat) : Fld := ⟨(Reg.CST_REGIONn i j), 31, 0⟩
abbrev Reg.DMA_ACTIVE : Nat := 0xB0000
abbrev Fld.DMA_ACTIVE_CH : Fld := ⟨Reg.DMA_ACTIVE, 31, 0⟩
abbrev Reg.DMA_HALTED : Nat := 0xB0004
abbrev Fld.DMA_HALTED_CH : Fld := ⟨Reg.DMA_HALTED, 31, 0⟩
abbrev Reg.DMA_CHn_CTRL (i : Nat) : Nat := 0xB1000 + 0x40 * i
abbrev Fld.DMA_CHn_CTRL_PRIO (i : Nat) : Fld := ⟨(Reg.DMA_CHn_CTRL i), 7, 6⟩
abbrev Fld.DMA_CHn_CTRL_OVERRUN (i : Nat) : Fld := ⟨(Reg.DMA_CHn_CTRL i), 4, 4⟩
abbrev Fld.DMA_CHn_CTRL_ABORT (i : Nat) : Fld := ⟨(Reg.DMA_CHn_CTRL i), 3, 3⟩
abbrev Fld.DMA_CHn_CTRL_RESUME (i : Nat) : Fld := ⟨(Reg.DMA_CHn_CTRL i), 2, 2⟩
abbrev Fld.DMA_CHn_CTRL_PAUSE (i : Nat) : Fld := ⟨(Reg.DMA_CHn_CTRL i), 1, 1⟩
abbrev Fld.DMA_CHn_CTRL_GO (i : Nat) : Fld := ⟨(Reg.DMA_CHn_CTRL i), 0, 0⟩
abbrev Reg.DMA_CHn_STATUS (i : Nat) : Nat := 0xB1004 + 0x40 * i
abbrev Fld.DMA_CHn_STATUS_ERR (i : Nat) : Fld := ⟨(Reg.DMA_CHn_STATUS i), 27, 24⟩
abbrev Fld.DMA_CHn_STATUS_ERR_DIR (i : Nat) : Fld := ⟨(Reg.DMA_CHn_STATUS i), 23, 23⟩
abbrev Fld.DMA_CHn_STATUS_ERR_FETCH (i : Nat) : Fld := ⟨(Reg.DMA_CHn_STATUS i), 22, 22⟩
abbrev Fld.DMA_CHn_STATUS_DONE (i : Nat) : Fld := ⟨(Reg.DMA_CHn_STATUS i), 7, 7⟩
abbrev Fld.DMA_CHn_STATUS_ABORTED (i : Nat) : Fld := ⟨(Reg.DMA_CHn_STATUS i), 6, 6⟩
abbrev Fld.DMA_CHn_STATUS_UNDERRUN (i : Nat) : Fld := ⟨(Reg.DMA_CHn_STATUS i), 5, 5⟩
abbrev Fld.DMA_CHn_STATUS_STATE (i : Nat) : Fld := ⟨(Reg.DMA_CHn_STATUS i), 2, 0⟩
abbrev Reg.DMA_CHn_DESC (i : Nat) : Nat := 0xB1008 + 0x40 * i
abbrev Fld.DMA_CHn_DESC_ADDR (i : Nat) : Fld := ⟨(Reg.DMA_CHn_DESC i), 31, 5⟩
abbrev Reg.DMA_CHn_SRC (i : Nat) : Nat := 0xB100C + 0x40 * i
abbrev Fld.DMA_CHn_SRC_ADDR (i : Nat) : Fld := ⟨(Reg.DMA_CHn_SRC i), 31, 0⟩
abbrev Reg.DMA_CHn_DST (i : Nat) : Nat := 0xB1010 + 0x40 * i
abbrev Fld.DMA_CHn_DST_ADDR (i : Nat) : Fld := ⟨(Reg.DMA_CHn_DST i), 31, 0⟩
abbrev Reg.DMA_CHn_REMAIN (i : Nat) : Nat := 0xB1014 + 0x40 * i
abbrev Fld.DMA_CHn_REMAIN_WORDS (i : Nat) : Fld := ⟨(Reg.DMA_CHn_REMAIN i), 23, 0⟩
abbrev Reg.DMA_CHn_HOPS (i : Nat) : Nat := 0xB1018 + 0x40 * i
abbrev Fld.DMA_CHn_HOPS_LIMIT (i : Nat) : Fld := ⟨(Reg.DMA_CHn_HOPS i), 15, 0⟩
abbrev Reg.DMA_CHn_HOPCNT (i : Nat) : Nat := 0xB101C + 0x40 * i
abbrev Fld.DMA_CHn_HOPCNT_COUNT (i : Nat) : Fld := ⟨(Reg.DMA_CHn_HOPCNT i), 16, 0⟩
abbrev Reg.DMA_CHn_ERRADDR (i : Nat) : Nat := 0xB1020 + 0x40 * i
abbrev Fld.DMA_CHn_ERRADDR_ADDR (i : Nat) : Fld := ⟨(Reg.DMA_CHn_ERRADDR i), 31, 0⟩
abbrev Reg.DMA_CHn_PAD (i : Nat) : Nat := 0xB1024 + 0x40 * i
abbrev Fld.DMA_CHn_PAD_WORDS (i : Nat) : Fld := ⟨(Reg.DMA_CHn_PAD i), 31, 0⟩
abbrev Reg.DMA_CHn_TAG (i : Nat) : Nat := 0xB1028 + 0x40 * i
abbrev Fld.DMA_CHn_TAG_TAG (i : Nat) : Fld := ⟨(Reg.DMA_CHn_TAG i), 31, 0⟩
abbrev Reg.ATM_CTRL : Nat := 0xD0000
abbrev Fld.ATM_CTRL_AO_DIV : Fld := ⟨Reg.ATM_CTRL, 11, 8⟩
abbrev Fld.ATM_CTRL_AO_EN : Fld := ⟨Reg.ATM_CTRL, 1, 1⟩
abbrev Fld.ATM_CTRL_SET : Fld := ⟨Reg.ATM_CTRL, 0, 0⟩
abbrev Reg.ATM_SYNC_CTRL : Nat := 0xD0004
abbrev Fld.ATM_SYNC_CTRL_LOSS_MS : Fld := ⟨Reg.ATM_SYNC_CTRL, 31, 16⟩
abbrev Fld.ATM_SYNC_CTRL_TOL : Fld := ⟨Reg.ATM_SYNC_CTRL, 11, 4⟩
abbrev Fld.ATM_SYNC_CTRL_SRC : Fld := ⟨Reg.ATM_SYNC_CTRL, 1, 0⟩
abbrev Reg.ATM_SYNC_STATUS : Nat := 0xD0008
abbrev Fld.ATM_SYNC_STATUS_STEPS : Fld := ⟨Reg.ATM_SYNC_STATUS, 31, 16⟩
abbrev Fld.ATM_SYNC_STATUS_OUTLIERS : Fld := ⟨Reg.ATM_SYNC_STATUS, 15, 8⟩
abbrev Fld.ATM_SYNC_STATUS_STEP_PENDING : Fld := ⟨Reg.ATM_SYNC_STATUS, 2, 2⟩
abbrev Fld.ATM_SYNC_STATUS_STATE : Fld := ⟨Reg.ATM_SYNC_STATUS, 1, 0⟩
abbrev Reg.ATM_SYNC_ERR : Nat := 0xD000C
abbrev Fld.ATM_SYNC_ERR_DELTA : Fld := ⟨Reg.ATM_SYNC_ERR, 31, 0⟩
abbrev Reg.ATM_COUNT_LO : Nat := 0xD0010
abbrev Fld.ATM_COUNT_LO_COUNT : Fld := ⟨Reg.ATM_COUNT_LO, 31, 0⟩
abbrev Reg.ATM_COUNT_HI : Nat := 0xD0014
abbrev Fld.ATM_COUNT_HI_COUNT : Fld := ⟨Reg.ATM_COUNT_HI, 31, 0⟩
abbrev Reg.ATM_SET_LO : Nat := 0xD0018
abbrev Fld.ATM_SET_LO_VALUE : Fld := ⟨Reg.ATM_SET_LO, 31, 0⟩
abbrev Reg.ATM_SET_HI : Nat := 0xD001C
abbrev Fld.ATM_SET_HI_VALUE : Fld := ⟨Reg.ATM_SET_HI, 31, 0⟩
abbrev Reg.ATM_NOW : Nat := 0xD0020
abbrev Fld.ATM_NOW_SYMBOL : Fld := ⟨Reg.ATM_NOW, 20, 17⟩
abbrev Fld.ATM_NOW_SLOT : Fld := ⟨Reg.ATM_NOW, 16, 10⟩
abbrev Fld.ATM_NOW_SFN : Fld := ⟨Reg.ATM_NOW, 9, 0⟩
abbrev Reg.ATM_ALIGN_PHASE : Nat := 0xD0024
abbrev Fld.ATM_ALIGN_PHASE_VALID : Fld := ⟨Reg.ATM_ALIGN_PHASE, 31, 31⟩
abbrev Fld.ATM_ALIGN_PHASE_PHASE : Fld := ⟨Reg.ATM_ALIGN_PHASE, 3, 0⟩
abbrev Reg.ATM_WINDOW : Nat := 0xD0028
abbrev Fld.ATM_WINDOW_T_EARLY : Fld := ⟨Reg.ATM_WINDOW, 31, 16⟩
abbrev Fld.ATM_WINDOW_T_LATE : Fld := ⟨Reg.ATM_WINDOW, 15, 0⟩
abbrev Reg.ATM_ARRq (i : Nat) : Nat := 0xD0040 + 4 * i
abbrev Fld.ATM_ARRq_LATE (i : Nat) : Fld := ⟨(Reg.ATM_ARRq i), 31, 16⟩
abbrev Fld.ATM_ARRq_EARLY (i : Nat) : Fld := ⟨(Reg.ATM_ARRq i), 15, 0⟩
abbrev Reg.ATM_SECT_DROP : Nat := 0xD0070
abbrev Fld.ATM_SECT_DROP_LATE : Fld := ⟨Reg.ATM_SECT_DROP, 31, 16⟩
abbrev Fld.ATM_SECT_DROP_INVALID : Fld := ⟨Reg.ATM_SECT_DROP, 15, 0⟩
abbrev Reg.ATM_TT_CTRL : Nat := 0xD0080
abbrev Fld.ATM_TT_CTRL_PERIOD : Fld := ⟨Reg.ATM_TT_CTRL, 15, 8⟩
abbrev Fld.ATM_TT_CTRL_SCS : Fld := ⟨Reg.ATM_TT_CTRL, 5, 4⟩
abbrev Fld.ATM_TT_CTRL_BANK : Fld := ⟨Reg.ATM_TT_CTRL, 1, 1⟩
abbrev Fld.ATM_TT_CTRL_SWAP : Fld := ⟨Reg.ATM_TT_CTRL, 0, 0⟩
abbrev Reg.ATM_TT_STATUS : Nat := 0xD0084
abbrev Fld.ATM_TT_STATUS_OVERLAPS : Fld := ⟨Reg.ATM_TT_STATUS, 15, 8⟩
abbrev Fld.ATM_TT_STATUS_BAD_ROWS : Fld := ⟨Reg.ATM_TT_STATUS, 7, 0⟩
abbrev Reg.ATM_ARRAY_STATUS : Nat := 0xD0090
abbrev Fld.ATM_ARRAY_STATUS_MISMATCH : Fld := ⟨Reg.ATM_ARRAY_STATUS, 11, 8⟩
abbrev Fld.ATM_ARRAY_STATUS_SELF : Fld := ⟨Reg.ATM_ARRAY_STATUS, 5, 4⟩
abbrev Fld.ATM_ARRAY_STATUS_MAP_PRESENT : Fld := ⟨Reg.ATM_ARRAY_STATUS, 1, 1⟩
abbrev Fld.ATM_ARRAY_STATUS_JOINT_OK : Fld := ⟨Reg.ATM_ARRAY_STATUS, 0, 0⟩
abbrev Reg.ATM_PEERk_W0 (i : Nat) : Nat := 0xD00A0 + 0x10 * i
abbrev Fld.ATM_PEERk_W0_SERIAL_LO (i : Nat) : Fld := ⟨(Reg.ATM_PEERk_W0 i), 31, 0⟩
abbrev Reg.ATM_PEERk_W1 (i : Nat) : Nat := 0xD00A4 + 0x10 * i
abbrev Fld.ATM_PEERk_W1_SERIAL_HI (i : Nat) : Fld := ⟨(Reg.ATM_PEERk_W1 i), 31, 0⟩
abbrev Reg.ATM_PEERk_W2 (i : Nat) : Nat := 0xD00A8 + 0x10 * i
abbrev Fld.ATM_PEERk_W2_VALID (i : Nat) : Fld := ⟨(Reg.ATM_PEERk_W2 i), 31, 31⟩
abbrev Fld.ATM_PEERk_W2_LEVEL (i : Nat) : Fld := ⟨(Reg.ATM_PEERk_W2 i), 15, 0⟩
abbrev Reg.ATM_TT_ROW (i : Nat) (j : Nat) : Nat := 0xD1000 + 0x1000 * i + 4 * j
abbrev Fld.ATM_TT_ROW_DATA (i : Nat) (j : Nat) : Fld := ⟨(Reg.ATM_TT_ROW i j), 31, 0⟩
abbrev Reg.BMB_CFG : Nat := 0xE0000
abbrev Fld.BMB_CFG_COUNT : Fld := ⟨Reg.BMB_CFG, 13, 0⟩
abbrev Reg.BMB_UPD_ADDR : Nat := 0xE0004
abbrev Fld.BMB_UPD_ADDR_ADDR : Fld := ⟨Reg.BMB_UPD_ADDR, 31, 0⟩
abbrev Reg.BMB_UPD_CTRL : Nat := 0xE0008
abbrev Fld.BMB_UPD_CTRL_COUNT : Fld := ⟨Reg.BMB_UPD_CTRL, 16, 8⟩
abbrev Fld.BMB_UPD_CTRL_OVERRUN : Fld := ⟨Reg.BMB_UPD_CTRL, 1, 1⟩
abbrev Fld.BMB_UPD_CTRL_GO : Fld := ⟨Reg.BMB_UPD_CTRL, 0, 0⟩
abbrev Reg.BMB_UPD_TARGET : Nat := 0xE000C
abbrev Fld.BMB_UPD_TARGET_SLOT : Fld := ⟨Reg.BMB_UPD_TARGET, 16, 10⟩
abbrev Fld.BMB_UPD_TARGET_SFN : Fld := ⟨Reg.BMB_UPD_TARGET, 9, 0⟩
abbrev Reg.BMB_UPD_STATUS : Nat := 0xE0010
abbrev Fld.BMB_UPD_STATUS_DONE : Fld := ⟨Reg.BMB_UPD_STATUS, 31, 16⟩
abbrev Fld.BMB_UPD_STATUS_ERR : Fld := ⟨Reg.BMB_UPD_STATUS, 4, 4⟩
abbrev Fld.BMB_UPD_STATUS_LATE : Fld := ⟨Reg.BMB_UPD_STATUS, 3, 3⟩
abbrev Fld.BMB_UPD_STATUS_STATE : Fld := ⟨Reg.BMB_UPD_STATUS, 2, 0⟩
abbrev Reg.BMB_TAGk (i : Nat) : Nat := 0xE8000 + 4 * i
abbrev Fld.BMB_TAGk_SFD_CLASS (i : Nat) : Fld := ⟨(Reg.BMB_TAGk i), 11, 8⟩
abbrev Fld.BMB_TAGk_PD_CLASS (i : Nat) : Fld := ⟨(Reg.BMB_TAGk i), 1, 0⟩
abbrev Reg.DLC_CTRL : Nat := 0x100000
abbrev Fld.DLC_CTRL_CNT_CLR : Fld := ⟨Reg.DLC_CTRL, 2, 2⟩
abbrev Fld.DLC_CTRL_IQ_SWAP : Fld := ⟨Reg.DLC_CTRL, 1, 1⟩
abbrev Fld.DLC_CTRL_COMMIT : Fld := ⟨Reg.DLC_CTRL, 0, 0⟩
abbrev Reg.DLC_STATUS : Nat := 0x100004
abbrev Fld.DLC_STATUS_CFG_ERR : Fld := ⟨Reg.DLC_STATUS, 11, 8⟩
abbrev Fld.DLC_STATUS_OVERRUN : Fld := ⟨Reg.DLC_STATUS, 4, 4⟩
abbrev Fld.DLC_STATUS_IQ_BANK : Fld := ⟨Reg.DLC_STATUS, 3, 3⟩
abbrev Fld.DLC_STATUS_COMMIT_PENDING : Fld := ⟨Reg.DLC_STATUS, 1, 1⟩
abbrev Fld.DLC_STATUS_CFG_VALID : Fld := ⟨Reg.DLC_STATUS, 0, 0⟩
abbrev Reg.DLC_LOAD : Nat := 0x100008
abbrev Fld.DLC_LOAD_PEAK : Fld := ⟨Reg.DLC_LOAD, 23, 0⟩
abbrev Reg.DLC_DROPA : Nat := 0x100010
abbrev Fld.DLC_DROPA_ECC : Fld := ⟨Reg.DLC_DROPA, 31, 16⟩
abbrev Fld.DLC_DROPA_CAPACITY : Fld := ⟨Reg.DLC_DROPA, 15, 0⟩
abbrev Reg.DLC_DROPB : Nat := 0x100014
abbrev Fld.DLC_DROPB_CONFIG : Fld := ⟨Reg.DLC_DROPB, 31, 16⟩
abbrev Fld.DLC_DROPB_RESIDUE : Fld := ⟨Reg.DLC_DROPB, 15, 0⟩
abbrev Reg.DLC_DLD_DISC : Nat := 0x100018
abbrev Fld.DLC_DLD_DISC_ORPHAN : Fld := ⟨Reg.DLC_DLD_DISC, 31, 16⟩
abbrev Fld.DLC_DLD_DISC_MISMATCH : Fld := ⟨Reg.DLC_DLD_DISC, 15, 0⟩
abbrev Reg.DLC_CARc_CFG0 (i : Nat) : Nat := 0x100100 + 0x10 * i
abbrev Fld.DLC_CARc_CFG0_EN (i : Nat) : Fld := ⟨(Reg.DLC_CARc_CFG0 i), 31, 31⟩
abbrev Fld.DLC_CARc_CFG0_PG_MASK (i : Nat) : Fld := ⟨(Reg.DLC_CARc_CFG0 i), 27, 20⟩
abbrev Fld.DLC_CARc_CFG0_SCS (i : Nat) : Fld := ⟨(Reg.DLC_CARc_CFG0 i), 19, 18⟩
abbrev Fld.DLC_CARc_CFG0_NSIZE (i : Nat) : Fld := ⟨(Reg.DLC_CARc_CFG0 i), 17, 16⟩
abbrev Fld.DLC_CARc_CFG0_LAYERS (i : Nat) : Fld := ⟨(Reg.DLC_CARc_CFG0 i), 14, 9⟩
abbrev Fld.DLC_CARc_CFG0_NPRB (i : Nat) : Fld := ⟨(Reg.DLC_CARc_CFG0 i), 8, 0⟩
abbrev Reg.DLC_CARc_CFG1 (i : Nat) : Nat := 0x100104 + 0x10 * i
abbrev Fld.DLC_CARc_CFG1_PHCOMP (i : Nat) : Fld := ⟨(Reg.DLC_CARc_CFG1 i), 8, 8⟩
abbrev Fld.DLC_CARc_CFG1_WIN (i : Nat) : Fld := ⟨(Reg.DLC_CARc_CFG1 i), 7, 0⟩
abbrev Reg.DLC_CARc_NCO (i : Nat) : Nat := 0x100108 + 0x10 * i
abbrev Fld.DLC_CARc_NCO_FREQ (i : Nat) : Fld := ⟨(Reg.DLC_CARc_NCO i), 31, 0⟩
abbrev Reg.DLC_CARc_GAIN (i : Nat) : Nat := 0x10010C + 0x10 * i
abbrev Fld.DLC_CARc_GAIN_ATTEN (i : Nat) : Fld := ⟨(Reg.DLC_CARc_GAIN i), 10, 0⟩
abbrev Reg.DLC_PATHp_DLY (i : Nat) : Nat := 0x101000 + 0x10 * i
abbrev Fld.DLC_PATHp_DLY_CLAMPED (i : Nat) : Fld := ⟨(Reg.DLC_PATHp_DLY i), 31, 31⟩
abbrev Fld.DLC_PATHp_DLY_DLY (i : Nat) : Fld := ⟨(Reg.DLC_PATHp_DLY i), 8, 0⟩
abbrev Reg.DLC_PATHp_SATA (i : Nat) : Nat := 0x101004 + 0x10 * i
abbrev Fld.DLC_PATHp_SATA_BEAM (i : Nat) : Fld := ⟨(Reg.DLC_PATHp_SATA i), 31, 16⟩
abbrev Fld.DLC_PATHp_SATA_TIME (i : Nat) : Fld := ⟨(Reg.DLC_PATHp_SATA i), 15, 0⟩
abbrev Reg.DLC_PATHp_SATB (i : Nat) : Nat := 0x101008 + 0x10 * i
abbrev Fld.DLC_PATHp_SATB_IQ (i : Nat) : Fld := ⟨(Reg.DLC_PATHp_SATB i), 31, 16⟩
abbrev Fld.DLC_PATHp_SATB_DAC (i : Nat) : Fld := ⟨(Reg.DLC_PATHp_SATB i), 15, 0⟩
abbrev Reg.DLC_IQp_TAP (i : Nat) (j : Nat) (k : Nat) : Nat := 0x120000 + 0x100 * i + 0x40 * j + 4 * k
abbrev Fld.DLC_IQp_TAP_TAPk (i : Nat) (j : Nat) (k : Nat) : Fld := ⟨(Reg.DLC_IQp_TAP i j k), 31, 0⟩
abbrev Reg.DLC_IQp_DC (i : Nat) (j : Nat) : Nat := 0x120020 + 0x100 * i + 0x40 * j
abbrev Fld.DLC_IQp_DC_DC (i : Nat) (j : Nat) : Fld := ⟨(Reg.DLC_IQp_DC i j), 31, 0⟩
abbrev Reg.ULC_CTRL : Nat := 0x140000
abbrev Fld.ULC_CTRL_CNT_CLR : Fld := ⟨Reg.ULC_CTRL, 2, 2⟩
abbrev Fld.ULC_CTRL_IQ_SWAP : Fld := ⟨Reg.ULC_CTRL, 1, 1⟩
abbrev Fld.ULC_CTRL_COMMIT : Fld := ⟨Reg.ULC_CTRL, 0, 0⟩
abbrev Reg.ULC_STATUS : Nat := 0x140004
abbrev Fld.ULC_STATUS_CFG_ERR : Fld := ⟨Reg.ULC_STATUS, 11, 8⟩
abbrev Fld.ULC_STATUS_OVERRUN : Fld := ⟨Reg.ULC_STATUS, 4, 4⟩
abbrev Fld.ULC_STATUS_IQ_BANK : Fld := ⟨Reg.ULC_STATUS, 3, 3⟩
abbrev Fld.ULC_STATUS_COMMIT_PENDING : Fld := ⟨Reg.ULC_STATUS, 1, 1⟩
abbrev Fld.ULC_STATUS_CFG_VALID : Fld := ⟨Reg.ULC_STATUS, 0, 0⟩
abbrev Reg.ULC_LOAD : Nat := 0x140008
abbrev Fld.ULC_LOAD_PEAK : Fld := ⟨Reg.ULC_LOAD, 23, 0⟩
abbrev Reg.ULC_AGE : Nat := 0x14000C
abbrev Fld.ULC_AGE_MS : Fld := ⟨Reg.ULC_AGE, 15, 0⟩
abbrev Reg.ULC_DROPA : Nat := 0x140010
abbrev Fld.ULC_DROPA_ECC : Fld := ⟨Reg.ULC_DROPA, 31, 16⟩
abbrev Fld.ULC_DROPA_CAPACITY : Fld := ⟨Reg.ULC_DROPA, 15, 0⟩
abbrev Reg.ULC_DROPB : Nat := 0x140014
abbrev Fld.ULC_DROPB_CONFIG : Fld := ⟨Reg.ULC_DROPB, 31, 16⟩
abbrev Fld.ULC_DROPB_RESIDUE : Fld := ⟨Reg.ULC_DROPB, 15, 0⟩
abbrev Reg.ULC_DROPC : Nat := 0x140018
abbrev Fld.ULC_DROPC_AGED : Fld := ⟨Reg.ULC_DROPC, 31, 16⟩
abbrev Fld.ULC_DROPC_REGION : Fld := ⟨Reg.ULC_DROPC, 15, 0⟩
abbrev Reg.ULC_DROPD : Nat := 0x14001C
abbrev Fld.ULC_DROPD_NOQUEUE : Fld := ⟨Reg.ULC_DROPD, 15, 0⟩
abbrev Reg.ULC_SATL : Nat := 0x140020
abbrev Fld.ULC_SATL_COMB : Fld := ⟨Reg.ULC_SATL, 15, 0⟩
abbrev Reg.ULC_CARc_CFG0 (i : Nat) : Nat := 0x140100 + 0x20 * i
abbrev Fld.ULC_CARc_CFG0_EN (i : Nat) : Fld := ⟨(Reg.ULC_CARc_CFG0 i), 31, 31⟩
abbrev Fld.ULC_CARc_CFG0_PG_MASK (i : Nat) : Fld := ⟨(Reg.ULC_CARc_CFG0 i), 27, 20⟩
abbrev Fld.ULC_CARc_CFG0_SCS (i : Nat) : Fld := ⟨(Reg.ULC_CARc_CFG0 i), 19, 18⟩
abbrev Fld.ULC_CARc_CFG0_NSIZE (i : Nat) : Fld := ⟨(Reg.ULC_CARc_CFG0 i), 17, 16⟩
abbrev Fld.ULC_CARc_CFG0_LAYERS (i : Nat) : Fld := ⟨(Reg.ULC_CARc_CFG0 i), 14, 9⟩
abbrev Fld.ULC_CARc_CFG0_NPRB (i : Nat) : Fld := ⟨(Reg.ULC_CARc_CFG0 i), 8, 0⟩
abbrev Reg.ULC_CARc_CFG1 (i : Nat) : Nat := 0x140104 + 0x20 * i
abbrev Fld.ULC_CARc_CFG1_FFTGAIN (i : Nat) : Fld := ⟨(Reg.ULC_CARc_CFG1 i), 14, 12⟩
abbrev Fld.ULC_CARc_CFG1_PHCOMP (i : Nat) : Fld := ⟨(Reg.ULC_CARc_CFG1 i), 9, 9⟩
abbrev Fld.ULC_CARc_CFG1_FFT_ADV (i : Nat) : Fld := ⟨(Reg.ULC_CARc_CFG1 i), 8, 0⟩
abbrev Reg.ULC_CARc_NCO (i : Nat) : Nat := 0x140108 + 0x20 * i
abbrev Fld.ULC_CARc_NCO_FREQ (i : Nat) : Fld := ⟨(Reg.ULC_CARc_NCO i), 31, 0⟩
abbrev Reg.ULC_CARc_FIR_CTRL (i : Nat) : Nat := 0x14010C + 0x20 * i
abbrev Fld.ULC_CARc_FIR_CTRL_SWAP (i : Nat) : Fld := ⟨(Reg.ULC_CARc_FIR_CTRL i), 3, 3⟩
abbrev Fld.ULC_CARc_FIR_CTRL_AT_EN (i : Nat) : Fld := ⟨(Reg.ULC_CARc_FIR_CTRL i), 2, 2⟩
abbrev Fld.ULC_CARc_FIR_CTRL_BANK (i : Nat) : Fld := ⟨(Reg.ULC_CARc_FIR_CTRL i), 1, 1⟩
abbrev Fld.ULC_CARc_FIR_CTRL_USER (i : Nat) : Fld := ⟨(Reg.ULC_CARc_FIR_CTRL i), 0, 0⟩
abbrev Reg.ULC_CARc_FIR_SWAP_AT (i : Nat) : Nat := 0x140110 + 0x20 * i
abbrev Fld.ULC_CARc_FIR_SWAP_AT_ATIME (i : Nat) : Fld := ⟨(Reg.ULC_CARc_FIR_SWAP_AT i), 31, 0⟩
abbrev Reg.ULC_PRAe_CFG0 (i : Nat) : Nat := 0x140200 + 0x20 * i
abbrev Fld.ULC_PRAe_CFG0_EN (i : Nat) : Fld := ⟨(Reg.ULC_PRAe_CFG0 i), 31, 31⟩
abbrev Fld.ULC_PRAe_CFG0_CARRIER (i : Nat) : Fld := ⟨(Reg.ULC_PRAe_CFG0 i), 30, 28⟩
abbrev Fld.ULC_PRAe_CFG0_SCS_RA (i : Nat) : Fld := ⟨(Reg.ULC_PRAe_CFG0 i), 27, 26⟩
abbrev Fld.ULC_PRAe_CFG0_NSIZE (i : Nat) : Fld := ⟨(Reg.ULC_PRAe_CFG0 i), 25, 25⟩
abbrev Fld.ULC_PRAe_CFG0_ACC (i : Nat) : Fld := ⟨(Reg.ULC_PRAe_CFG0 i), 24, 24⟩
abbrev Fld.ULC_PRAe_CFG0_NREP (i : Nat) : Fld := ⟨(Reg.ULC_PRAe_CFG0 i), 23, 20⟩
abbrev Fld.ULC_PRAe_CFG0_NBEAM (i : Nat) : Fld := ⟨(Reg.ULC_PRAe_CFG0 i), 19, 16⟩
abbrev Fld.ULC_PRAe_CFG0_G (i : Nat) : Fld := ⟨(Reg.ULC_PRAe_CFG0 i), 10, 8⟩
abbrev Reg.ULC_PRAe_CFG1 (i : Nat) : Nat := 0x140204 + 0x20 * i
abbrev Fld.ULC_PRAe_CFG1_PERIOD (i : Nat) : Fld := ⟨(Reg.ULC_PRAe_CFG1 i), 31, 24⟩
abbrev Fld.ULC_PRAe_CFG1_SLOT_OFF (i : Nat) : Fld := ⟨(Reg.ULC_PRAe_CFG1 i), 23, 16⟩
abbrev Fld.ULC_PRAe_CFG1_START (i : Nat) : Fld := ⟨(Reg.ULC_PRAe_CFG1 i), 15, 0⟩
abbrev Reg.ULC_PRAe_NCO (i : Nat) : Nat := 0x140208 + 0x20 * i
abbrev Fld.ULC_PRAe_NCO_FREQ (i : Nat) : Fld := ⟨(Reg.ULC_PRAe_NCO i), 31, 0⟩
abbrev Reg.ULC_PRAe_BEAMj (i : Nat) (j : Nat) : Nat := 0x14020C + 0x20 * i + 4 * j
abbrev Fld.ULC_PRAe_BEAMj_BEAM_HI (i : Nat) (j : Nat) : Fld := ⟨(Reg.ULC_PRAe_BEAMj i j), 28, 16⟩
abbrev Fld.ULC_PRAe_BEAMj_BEAM_LO (i : Nat) (j : Nat) : Fld := ⟨(Reg.ULC_PRAe_BEAMj i j), 12, 0⟩
abbrev Reg.ULC_PRAe_STATUS (i : Nat) : Nat := 0x14021C + 0x20 * i
abbrev Fld.ULC_PRAe_STATUS_OCC (i : Nat) : Fld := ⟨(Reg.ULC_PRAe_STATUS i), 31, 16⟩
abbrev Fld.ULC_PRAe_STATUS_SKIP (i : Nat) : Fld := ⟨(Reg.ULC_PRAe_STATUS i), 15, 8⟩
abbrev Fld.ULC_PRAe_STATUS_LAST_SKIP (i : Nat) : Fld := ⟨(Reg.ULC_PRAe_STATUS i), 3, 0⟩
abbrev Reg.ULC_PATHp_DLY (i : Nat) : Nat := 0x141000 + 0x20 * i
abbrev Fld.ULC_PATHp_DLY_CLAMPED (i : Nat) : Fld := ⟨(Reg.ULC_PATHp_DLY i), 31, 31⟩
abbrev Fld.ULC_PATHp_DLY_DLY (i : Nat) : Fld := ⟨(Reg.ULC_PATHp_DLY i), 8, 0⟩
abbrev Reg.ULC_PATHp_SAT (i : Nat) : Nat := 0x141004 + 0x20 * i
abbrev Fld.ULC_PATHp_SAT_ADC (i : Nat) : Fld := ⟨(Reg.ULC_PATHp_SAT i), 31, 16⟩
abbrev Fld.ULC_PATHp_SAT_FRONT (i : Nat) : Fld := ⟨(Reg.ULC_PATHp_SAT i), 15, 0⟩
abbrev Reg.ULC_PATHp_RSSI_CFG (i : Nat) : Nat := 0x141008 + 0x20 * i
abbrev Fld.ULC_PATHp_RSSI_CFG_GATE (i : Nat) : Fld := ⟨(Reg.ULC_PATHp_RSSI_CFG i), 6, 6⟩
abbrev Fld.ULC_PATHp_RSSI_CFG_EN (i : Nat) : Fld := ⟨(Reg.ULC_PATHp_RSSI_CFG i), 5, 5⟩
abbrev Fld.ULC_PATHp_RSSI_CFG_WIN_LOG2 (i : Nat) : Fld := ⟨(Reg.ULC_PATHp_RSSI_CFG i), 4, 0⟩
abbrev Reg.ULC_PATHp_RSSI_THR (i : Nat) : Nat := 0x14100C + 0x20 * i
abbrev Fld.ULC_PATHp_RSSI_THR_UPPER (i : Nat) : Fld := ⟨(Reg.ULC_PATHp_RSSI_THR i), 24, 16⟩
abbrev Fld.ULC_PATHp_RSSI_THR_LOWER (i : Nat) : Fld := ⟨(Reg.ULC_PATHp_RSSI_THR i), 12, 4⟩
abbrev Fld.ULC_PATHp_RSSI_THR_HYST (i : Nat) : Fld := ⟨(Reg.ULC_PATHp_RSSI_THR i), 3, 0⟩
abbrev Reg.ULC_PATHp_RSSI (i : Nat) : Nat := 0x141010 + 0x20 * i
abbrev Fld.ULC_PATHp_RSSI_SEQ (i : Nat) : Fld := ⟨(Reg.ULC_PATHp_RSSI i), 31, 28⟩
abbrev Fld.ULC_PATHp_RSSI_LOW (i : Nat) : Fld := ⟨(Reg.ULC_PATHp_RSSI i), 10, 10⟩
abbrev Fld.ULC_PATHp_RSSI_HIGH (i : Nat) : Fld := ⟨(Reg.ULC_PATHp_RSSI i), 9, 9⟩
abbrev Fld.ULC_PATHp_RSSI_LEVEL (i : Nat) : Fld := ⟨(Reg.ULC_PATHp_RSSI i), 8, 0⟩
abbrev Reg.ULC_PATHp_ENERGY_LO (i : Nat) : Nat := 0x141014 + 0x20 * i
abbrev Fld.ULC_PATHp_ENERGY_LO_E (i : Nat) : Fld := ⟨(Reg.ULC_PATHp_ENERGY_LO i), 31, 0⟩
abbrev Reg.ULC_PATHp_ENERGY_HI (i : Nat) : Nat := 0x141018 + 0x20 * i
abbrev Fld.ULC_PATHp_ENERGY_HI_E (i : Nat) : Fld := ⟨(Reg.ULC_PATHp_ENERGY_HI i), 31, 0⟩
abbrev Reg.ULC_IQp_TAP (i : Nat) (j : Nat) (k : Nat) : Nat := 0x160000 + 0x100 * i + 0x40 * j + 4 * k
abbrev Fld.ULC_IQp_TAP_TAPk (i : Nat) (j : Nat) (k : Nat) : Fld := ⟨(Reg.ULC_IQp_TAP i j k), 31, 0⟩
abbrev Reg.ULC_IQp_DC (i : Nat) (j : Nat) : Nat := 0x160020 + 0x100 * i + 0x40 * j
abbrev Fld.ULC_IQp_DC_DC (i : Nat) (j : Nat) : Fld := ⟨(Reg.ULC_IQp_DC i j), 31, 0⟩
abbrev Reg.ULC_CARc_FIRb (i : Nat) (j : Nat) (k : Nat) : Nat := 0x144000 + 0x200 * i + 0x100 * j + 4 * k
abbrev Fld.ULC_CARc_FIRb_H (i : Nat) (j : Nat) (k : Nat) : Fld := ⟨(Reg.ULC_CARc_FIRb i j k), 17, 0⟩
abbrev Reg.LIN_CTRL : Nat := 0x180000
abbrev Fld.LIN_CTRL_CNT_CLR : Fld := ⟨Reg.LIN_CTRL, 2, 2⟩
abbrev Fld.LIN_CTRL_KSWAP : Fld := ⟨Reg.LIN_CTRL, 1, 1⟩
abbrev Reg.LIN_STATUS : Nat := 0x180004
abbrev Fld.LIN_STATUS_KBANK : Fld := ⟨Reg.LIN_STATUS, 0, 0⟩
abbrev Reg.LIN_COMPb_W0 (i : Nat) : Nat := 0x180010 + 0x10 * i
abbrev Fld.LIN_COMPb_W0_KT2 (i : Nat) : Fld := ⟨(Reg.LIN_COMPb_W0 i), 31, 16⟩
abbrev Fld.LIN_COMPb_W0_KT1 (i : Nat) : Fld := ⟨(Reg.LIN_COMPb_W0 i), 15, 0⟩
abbrev Reg.LIN_COMPb_W1 (i : Nat) : Nat := 0x180014 + 0x10 * i
abbrev Fld.LIN_COMPb_W1_KV (i : Nat) : Fld := ⟨(Reg.LIN_COMPb_W1 i), 15, 0⟩
abbrev Reg.LIN_COMPb_W2 (i : Nat) : Nat := 0x180018 + 0x10 * i
abbrev Fld.LIN_COMPb_W2_V0 (i : Nat) : Fld := ⟨(Reg.LIN_COMPb_W2 i), 31, 16⟩
abbrev Fld.LIN_COMPb_W2_T0 (i : Nat) : Fld := ⟨(Reg.LIN_COMPb_W2 i), 15, 0⟩
abbrev Reg.LIN_LOP2_CTRL : Nat := 0x180040
abbrev Fld.LIN_LOP2_CTRL_ITER : Fld := ⟨Reg.LIN_LOP2_CTRL, 11, 8⟩
abbrev Fld.LIN_LOP2_CTRL_CLASSES : Fld := ⟨Reg.LIN_LOP2_CTRL, 7, 4⟩
abbrev Fld.LIN_LOP2_CTRL_ABORT : Fld := ⟨Reg.LIN_LOP2_CTRL, 2, 2⟩
abbrev Fld.LIN_LOP2_CTRL_OVERRUN : Fld := ⟨Reg.LIN_LOP2_CTRL, 1, 1⟩
abbrev Fld.LIN_LOP2_CTRL_GO : Fld := ⟨Reg.LIN_LOP2_CTRL, 0, 0⟩
abbrev Reg.LIN_LOP2_PATHS_LO : Nat := 0x180044
abbrev Fld.LIN_LOP2_PATHS_LO_PATHS : Fld := ⟨Reg.LIN_LOP2_PATHS_LO, 31, 0⟩
abbrev Reg.LIN_LOP2_PATHS_HI : Nat := 0x180048
abbrev Fld.LIN_LOP2_PATHS_HI_PATHS : Fld := ⟨Reg.LIN_LOP2_PATHS_HI, 31, 0⟩
abbrev Reg.LIN_LOP2_DEST : Nat := 0x18004C
abbrev Fld.LIN_LOP2_DEST_ADDR : Fld := ⟨Reg.LIN_LOP2_DEST, 31, 0⟩
abbrev Reg.LIN_KERNk (i : Nat) (j : Nat) (k : Nat) : Nat := 0x188000 + 0x1000 * i + 0x400 * j + 4 * k
abbrev Fld.LIN_KERNk_TAP (i : Nat) (j : Nat) (k : Nat) : Fld := ⟨(Reg.LIN_KERNk i j k), 31, 0⟩
abbrev Reg.LIN_PGg_SEQ_CTRL (i : Nat) : Nat := 0x190000 + 0x1000 * i
abbrev Fld.LIN_PGg_SEQ_CTRL_INTERVAL (i : Nat) : Fld := ⟨(Reg.LIN_PGg_SEQ_CTRL i), 31, 16⟩
abbrev Fld.LIN_PGg_SEQ_CTRL_PATHS (i : Nat) : Fld := ⟨(Reg.LIN_PGg_SEQ_CTRL i), 15, 8⟩
abbrev Fld.LIN_PGg_SEQ_CTRL_CLASS_MASK (i : Nat) : Fld := ⟨(Reg.LIN_PGg_SEQ_CTRL i), 7, 4⟩
abbrev Fld.LIN_PGg_SEQ_CTRL_DRAIN_EN (i : Nat) : Fld := ⟨(Reg.LIN_PGg_SEQ_CTRL i), 3, 3⟩
abbrev Fld.LIN_PGg_SEQ_CTRL_COR_EN (i : Nat) : Fld := ⟨(Reg.LIN_PGg_SEQ_CTRL i), 2, 2⟩
abbrev Fld.LIN_PGg_SEQ_CTRL_MODE (i : Nat) : Fld := ⟨(Reg.LIN_PGg_SEQ_CTRL i), 1, 0⟩
abbrev Reg.LIN_PGg_SEQ_CFG (i : Nat) : Nat := 0x190004 + 0x1000 * i
abbrev Fld.LIN_PGg_SEQ_CFG_SW_SETTLE (i : Nat) : Fld := ⟨(Reg.LIN_PGg_SEQ_CFG i), 31, 16⟩
abbrev Fld.LIN_PGg_SEQ_CFG_REF_SRC (i : Nat) : Fld := ⟨(Reg.LIN_PGg_SEQ_CFG i), 5, 4⟩
abbrev Reg.LIN_PGg_ORXMAP (i : Nat) : Nat := 0x190008 + 0x1000 * i
abbrev Fld.LIN_PGg_ORXMAP_SELi (i : Nat) : Fld := ⟨(Reg.LIN_PGg_ORXMAP i), 23, 0⟩
abbrev Reg.LIN_PGg_CAP_STATUS (i : Nat) : Nat := 0x190010 + 0x1000 * i
abbrev Fld.LIN_PGg_CAP_STATUS_CAPTURES (i : Nat) : Fld := ⟨(Reg.LIN_PGg_CAP_STATUS i), 31, 16⟩
abbrev Fld.LIN_PGg_CAP_STATUS_SKIPS (i : Nat) : Fld := ⟨(Reg.LIN_PGg_CAP_STATUS i), 15, 8⟩
abbrev Fld.LIN_PGg_CAP_STATUS_HELD (i : Nat) : Fld := ⟨(Reg.LIN_PGg_CAP_STATUS i), 1, 1⟩
abbrev Fld.LIN_PGg_CAP_STATUS_BUSY (i : Nat) : Fld := ⟨(Reg.LIN_PGg_CAP_STATUS i), 0, 0⟩
abbrev Reg.LIN_PGg_CAP_INFO (i : Nat) : Nat := 0x190014 + 0x1000 * i
abbrev Fld.LIN_PGg_CAP_INFO_CLIP (i : Nat) : Fld := ⟨(Reg.LIN_PGg_CAP_INFO i), 31, 16⟩
abbrev Fld.LIN_PGg_CAP_INFO_MIXED (i : Nat) : Fld := ⟨(Reg.LIN_PGg_CAP_INFO i), 12, 12⟩
abbrev Fld.LIN_PGg_CAP_INFO_CLASS (i : Nat) : Fld := ⟨(Reg.LIN_PGg_CAP_INFO i), 9, 8⟩
abbrev Fld.LIN_PGg_CAP_INFO_PATH (i : Nat) : Fld := ⟨(Reg.LIN_PGg_CAP_INFO i), 2, 0⟩
abbrev Reg.LIN_PGg_CAP_EORX_LO (i : Nat) : Nat := 0x190018 + 0x1000 * i
abbrev Fld.LIN_PGg_CAP_EORX_LO_E (i : Nat) : Fld := ⟨(Reg.LIN_PGg_CAP_EORX_LO i), 31, 0⟩
abbrev Reg.LIN_PGg_CAP_EORX_HI (i : Nat) : Nat := 0x19001C + 0x1000 * i
abbrev Fld.LIN_PGg_CAP_EORX_HI_E (i : Nat) : Fld := ⟨(Reg.LIN_PGg_CAP_EORX_HI i), 31, 0⟩
abbrev Reg.LIN_PGg_CAP_EX_LO (i : Nat) : Nat := 0x190020 + 0x1000 * i
abbrev Fld.LIN_PGg_CAP_EX_LO_E (i : Nat) : Fld := ⟨(Reg.LIN_PGg_CAP_EX_LO i), 31, 0⟩
abbrev Reg.LIN_PGg_CAP_EX_HI (i : Nat) : Nat := 0x190024 + 0x1000 * i
abbrev Fld.LIN_PGg_CAP_EX_HI_E (i : Nat) : Fld := ⟨(Reg.LIN_PGg_CAP_EX_HI i), 31, 0⟩
abbrev Reg.LIN_PGg_COR_CTRL (i : Nat) : Nat := 0x190030 + 0x1000 * i
abbrev Fld.LIN_PGg_COR_CTRL_BASIS_SRC (i : Nat) : Fld := ⟨(Reg.LIN_PGg_COR_CTRL i), 8, 8⟩
abbrev Fld.LIN_PGg_COR_CTRL_NBASIS (i : Nat) : Fld := ⟨(Reg.LIN_PGg_COR_CTRL i), 6, 0⟩
abbrev Reg.LIN_PGg_COR_DEST (i : Nat) : Nat := 0x190034 + 0x1000 * i
abbrev Fld.LIN_PGg_COR_DEST_ADDR (i : Nat) : Fld := ⟨(Reg.LIN_PGg_COR_DEST i), 31, 0⟩
abbrev Reg.LIN_PGg_COR_STATUS (i : Nat) : Nat := 0x190038 + 0x1000 * i
abbrev Fld.LIN_PGg_COR_STATUS_DONE (i : Nat) : Fld := ⟨(Reg.LIN_PGg_COR_STATUS i), 31, 16⟩
abbrev Fld.LIN_PGg_COR_STATUS_BUSY (i : Nat) : Fld := ⟨(Reg.LIN_PGg_COR_STATUS i), 4, 4⟩
abbrev Fld.LIN_PGg_COR_STATUS_ERR (i : Nat) : Fld := ⟨(Reg.LIN_PGg_COR_STATUS i), 3, 0⟩
abbrev Reg.LIN_PGg_LOAD_CTRL (i : Nat) : Nat := 0x190040 + 0x1000 * i
abbrev Fld.LIN_PGg_LOAD_CTRL_OVERRUN (i : Nat) : Fld := ⟨(Reg.LIN_PGg_LOAD_CTRL i), 10, 10⟩
abbrev Fld.LIN_PGg_LOAD_CTRL_GO (i : Nat) : Fld := ⟨(Reg.LIN_PGg_LOAD_CTRL i), 9, 9⟩
abbrev Fld.LIN_PGg_LOAD_CTRL_SEL (i : Nat) : Fld := ⟨(Reg.LIN_PGg_LOAD_CTRL i), 8, 8⟩
abbrev Fld.LIN_PGg_LOAD_CTRL_CLASS (i : Nat) : Fld := ⟨(Reg.LIN_PGg_LOAD_CTRL i), 5, 4⟩
abbrev Fld.LIN_PGg_LOAD_CTRL_OP (i : Nat) : Fld := ⟨(Reg.LIN_PGg_LOAD_CTRL i), 3, 3⟩
abbrev Fld.LIN_PGg_LOAD_CTRL_PATH (i : Nat) : Fld := ⟨(Reg.LIN_PGg_LOAD_CTRL i), 2, 0⟩
abbrev Reg.LIN_PGg_LOAD_ADDR (i : Nat) : Nat := 0x190044 + 0x1000 * i
abbrev Fld.LIN_PGg_LOAD_ADDR_ADDR (i : Nat) : Fld := ⟨(Reg.LIN_PGg_LOAD_ADDR i), 31, 0⟩
abbrev Reg.LIN_PGg_LOAD_STATUS (i : Nat) : Nat := 0x190048 + 0x1000 * i
abbrev Fld.LIN_PGg_LOAD_STATUS_LOADS (i : Nat) : Fld := ⟨(Reg.LIN_PGg_LOAD_STATUS i), 31, 16⟩
abbrev Fld.LIN_PGg_LOAD_STATUS_ERR (i : Nat) : Fld := ⟨(Reg.LIN_PGg_LOAD_STATUS i), 7, 4⟩
abbrev Fld.LIN_PGg_LOAD_STATUS_STATE (i : Nat) : Fld := ⟨(Reg.LIN_PGg_LOAD_STATUS i), 0, 0⟩
abbrev Reg.LIN_PGg_SWAP_CTRL (i : Nat) : Nat := 0x190050 + 0x1000 * i
abbrev Fld.LIN_PGg_SWAP_CTRL_OVERRUN (i : Nat) : Fld := ⟨(Reg.LIN_PGg_SWAP_CTRL i), 17, 17⟩
abbrev Fld.LIN_PGg_SWAP_CTRL_GO (i : Nat) : Fld := ⟨(Reg.LIN_PGg_SWAP_CTRL i), 16, 16⟩
abbrev Fld.LIN_PGg_SWAP_CTRL_CLASS (i : Nat) : Fld := ⟨(Reg.LIN_PGg_SWAP_CTRL i), 9, 8⟩
abbrev Fld.LIN_PGg_SWAP_CTRL_PATHS (i : Nat) : Fld := ⟨(Reg.LIN_PGg_SWAP_CTRL i), 7, 0⟩
abbrev Reg.LIN_PGg_PD_ACTIVE (i : Nat) : Nat := 0x190054 + 0x1000 * i
abbrev Fld.LIN_PGg_PD_ACTIVE_BANK (i : Nat) : Fld := ⟨(Reg.LIN_PGg_PD_ACTIVE i), 31, 0⟩
abbrev Reg.LIN_PGg_COMP_SRC (i : Nat) : Nat := 0x190060 + 0x1000 * i
abbrev Fld.LIN_PGg_COMP_SRC_VSRC (i : Nat) : Fld := ⟨(Reg.LIN_PGg_COMP_SRC i), 12, 8⟩
abbrev Fld.LIN_PGg_COMP_SRC_TSRC (i : Nat) : Fld := ⟨(Reg.LIN_PGg_COMP_SRC i), 4, 0⟩
abbrev Reg.LIN_PGg_COMP_STATUS (i : Nat) : Nat := 0x190064 + 0x1000 * i
abbrev Fld.LIN_PGg_COMP_STATUS_STALE (i : Nat) : Fld := ⟨(Reg.LIN_PGg_COMP_STATUS i), 31, 31⟩
abbrev Fld.LIN_PGg_COMP_STATUS_COMP (i : Nat) : Fld := ⟨(Reg.LIN_PGg_COMP_STATUS i), 15, 0⟩
abbrev Reg.LIN_PGg_PORT (i : Nat) : Nat := 0x190F00 + 0x1000 * i
abbrev Fld.LIN_PGg_PORT_DATA (i : Nat) : Fld := ⟨(Reg.LIN_PGg_PORT i), 31, 0⟩
abbrev Reg.LIN_PGg_BASISj (i : Nat) (j : Nat) : Nat := 0x190800 + 0x1000 * i + 4 * j
abbrev Fld.LIN_PGg_BASISj_K (i : Nat) (j : Nat) : Fld := ⟨(Reg.LIN_PGg_BASISj i j), 11, 9⟩
abbrev Fld.LIN_PGg_BASISj_D (i : Nat) (j : Nat) : Fld := ⟨(Reg.LIN_PGg_BASISj i j), 8, 4⟩
abbrev Fld.LIN_PGg_BASISj_M (i : Nat) (j : Nat) : Fld := ⟨(Reg.LIN_PGg_BASISj i j), 3, 0⟩
abbrev Reg.LIN_PATHp_PD_CFG (i : Nat) : Nat := 0x1A0000 + 0x40 * i
abbrev Fld.LIN_PATHp_PD_CFG_CFR_ITER (i : Nat) : Fld := ⟨(Reg.LIN_PATHp_PD_CFG i), 5, 5⟩
abbrev Fld.LIN_PATHp_PD_CFG_CFR_KSEL (i : Nat) : Fld := ⟨(Reg.LIN_PATHp_PD_CFG i), 4, 3⟩
abbrev Fld.LIN_PATHp_PD_CFG_CFR_EN (i : Nat) : Fld := ⟨(Reg.LIN_PATHp_PD_CFG i), 2, 2⟩
abbrev Fld.LIN_PATHp_PD_CFG_PD_EN (i : Nat) : Fld := ⟨(Reg.LIN_PATHp_PD_CFG i), 0, 0⟩
abbrev Reg.LIN_PATHp_CFR_CFG (i : Nat) : Nat := 0x1A0004 + 0x40 * i
abbrev Fld.LIN_PATHp_CFR_CFG_LEVEL (i : Nat) : Fld := ⟨(Reg.LIN_PATHp_CFR_CFG i), 24, 16⟩
abbrev Fld.LIN_PATHp_CFR_CFG_PAPR (i : Nat) : Fld := ⟨(Reg.LIN_PATHp_CFR_CFG i), 6, 0⟩
abbrev Reg.LIN_PATHp_TXP (i : Nat) : Nat := 0x1A0008 + 0x40 * i
abbrev Fld.LIN_PATHp_TXP_ATTA (i : Nat) : Fld := ⟨(Reg.LIN_PATHp_TXP i), 21, 16⟩
abbrev Fld.LIN_PATHp_TXP_DGAIN (i : Nat) : Fld := ⟨(Reg.LIN_PATHp_TXP i), 11, 0⟩
abbrev Reg.LIN_PATHp_LOOP_CFG (i : Nat) : Nat := 0x1A000C + 0x40 * i
abbrev Fld.LIN_PATHp_LOOP_CFG_LOOP_EN (i : Nat) : Fld := ⟨(Reg.LIN_PATHp_LOOP_CFG i), 31, 31⟩
abbrev Fld.LIN_PATHp_LOOP_CFG_CORR_CLR (i : Nat) : Fld := ⟨(Reg.LIN_PATHp_LOOP_CFG i), 30, 30⟩
abbrev Fld.LIN_PATHp_LOOP_CFG_MINLVL (i : Nat) : Fld := ⟨(Reg.LIN_PATHp_LOOP_CFG i), 29, 24⟩
abbrev Fld.LIN_PATHp_LOOP_CFG_KSHIFT (i : Nat) : Fld := ⟨(Reg.LIN_PATHp_LOOP_CFG i), 22, 20⟩
abbrev Fld.LIN_PATHp_LOOP_CFG_STEP_MAX (i : Nat) : Fld := ⟨(Reg.LIN_PATHp_LOOP_CFG i), 19, 12⟩
abbrev Fld.LIN_PATHp_LOOP_CFG_LIMIT (i : Nat) : Fld := ⟨(Reg.LIN_PATHp_LOOP_CFG i), 9, 0⟩
abbrev Reg.LIN_PATHp_LOOP_TGT (i : Nat) : Nat := 0x1A0010 + 0x40 * i
abbrev Fld.LIN_PATHp_LOOP_TGT_TARGET (i : Nat) : Fld := ⟨(Reg.LIN_PATHp_LOOP_TGT i), 15, 0⟩
abbrev Reg.LIN_PATHp_LOOP_STATUS (i : Nat) : Nat := 0x1A0014 + 0x40 * i
abbrev Fld.LIN_PATHp_LOOP_STATUS_MEAS (i : Nat) : Fld := ⟨(Reg.LIN_PATHp_LOOP_STATUS i), 31, 16⟩
abbrev Fld.LIN_PATHp_LOOP_STATUS_AT_LIMIT (i : Nat) : Fld := ⟨(Reg.LIN_PATHp_LOOP_STATUS i), 15, 15⟩
abbrev Fld.LIN_PATHp_LOOP_STATUS_CORR (i : Nat) : Fld := ⟨(Reg.LIN_PATHp_LOOP_STATUS i), 10, 0⟩
abbrev Reg.LIN_PATHp_GAIN_STATUS (i : Nat) : Nat := 0x1A0018 + 0x40 * i
abbrev Fld.LIN_PATHp_GAIN_STATUS_CLAMPED (i : Nat) : Fld := ⟨(Reg.LIN_PATHp_GAIN_STATUS i), 15, 15⟩
abbrev Fld.LIN_PATHp_GAIN_STATUS_GD (i : Nat) : Fld := ⟨(Reg.LIN_PATHp_GAIN_STATUS i), 11, 0⟩
abbrev Reg.LIN_PATHp_REFDLY (i : Nat) : Nat := 0x1A001C + 0x40 * i
abbrev Fld.LIN_PATHp_REFDLY_DLY (i : Nat) : Fld := ⟨(Reg.LIN_PATHp_REFDLY i), 11, 0⟩
abbrev Reg.LIN_PATHp_SAT (i : Nat) : Nat := 0x1A0020 + 0x40 * i
abbrev Fld.LIN_PATHp_SAT_PD (i : Nat) : Fld := ⟨(Reg.LIN_PATHp_SAT i), 31, 16⟩
abbrev Fld.LIN_PATHp_SAT_GAIN (i : Nat) : Fld := ⟨(Reg.LIN_PATHp_SAT i), 15, 0⟩
abbrev Reg.LIN_PATHp_CFR_COUNT (i : Nat) : Nat := 0x1A0024 + 0x40 * i
abbrev Fld.LIN_PATHp_CFR_COUNT_MISS (i : Nat) : Fld := ⟨(Reg.LIN_PATHp_CFR_COUNT i), 31, 16⟩
abbrev Fld.LIN_PATHp_CFR_COUNT_PEAKS (i : Nat) : Fld := ⟨(Reg.LIN_PATHp_CFR_COUNT i), 15, 0⟩
abbrev Reg.LIN_PATHp_LOOP_COUNT (i : Nat) : Nat := 0x1A0028 + 0x40 * i
abbrev Fld.LIN_PATHp_LOOP_COUNT_UPDATES (i : Nat) : Fld := ⟨(Reg.LIN_PATHp_LOOP_COUNT i), 31, 16⟩
abbrev Fld.LIN_PATHp_LOOP_COUNT_SKIPS (i : Nat) : Fld := ⟨(Reg.LIN_PATHp_LOOP_COUNT i), 15, 0⟩
abbrev Reg.SFD_CTRL : Nat := 0x1C0000
abbrev Fld.SFD_CTRL_CNT_CLR : Fld := ⟨Reg.SFD_CTRL, 2, 2⟩
abbrev Fld.SFD_CTRL_COMMIT : Fld := ⟨Reg.SFD_CTRL, 1, 1⟩
abbrev Fld.SFD_CTRL_EN : Fld := ⟨Reg.SFD_CTRL, 0, 0⟩
abbrev Reg.SFD_STATUS : Nat := 0x1C0004
abbrev Fld.SFD_STATUS_CFG_ERR : Fld := ⟨Reg.SFD_STATUS, 11, 8⟩
abbrev Fld.SFD_STATUS_OVERRUN : Fld := ⟨Reg.SFD_STATUS, 4, 4⟩
abbrev Fld.SFD_STATUS_COMMIT_PENDING : Fld := ⟨Reg.SFD_STATUS, 1, 1⟩
abbrev Fld.SFD_STATUS_CFG_VALID : Fld := ⟨Reg.SFD_STATUS, 0, 0⟩
abbrev Reg.SFD_CFG0 : Nat := 0x1C0010
abbrev Fld.SFD_CFG0_CARRIER : Fld := ⟨Reg.SFD_CFG0, 30, 28⟩
abbrev Fld.SFD_CFG0_RATE : Fld := ⟨Reg.SFD_CFG0, 25, 24⟩
abbrev Fld.SFD_CFG0_ARRAY : Fld := ⟨Reg.SFD_CFG0, 20, 20⟩
abbrev Fld.SFD_CFG0_REF_DLY : Fld := ⟨Reg.SFD_CFG0, 9, 0⟩
abbrev Reg.SFD_CFG1 : Nat := 0x1C0014
abbrev Fld.SFD_CFG1_UL_NUM : Fld := ⟨Reg.SFD_CFG1, 24, 16⟩
abbrev Fld.SFD_CFG1_UL_START : Fld := ⟨Reg.SFD_CFG1, 8, 0⟩
abbrev Reg.SFD_CFG2 : Nat := 0x1C0018
abbrev Fld.SFD_CFG2_GUARD_HI : Fld := ⟨Reg.SFD_CFG2, 13, 8⟩
abbrev Fld.SFD_CFG2_GUARD_LO : Fld := ⟨Reg.SFD_CFG2, 5, 0⟩
abbrev Reg.SFD_NCO : Nat := 0x1C001C
abbrev Fld.SFD_NCO_FREQ : Fld := ⟨Reg.SFD_NCO, 31, 0⟩
abbrev Reg.SFD_LOAD_CTRL : Nat := 0x1C0040
abbrev Fld.SFD_LOAD_CTRL_OVERRUN : Fld := ⟨Reg.SFD_LOAD_CTRL, 10, 10⟩
abbrev Fld.SFD_LOAD_CTRL_GO : Fld := ⟨Reg.SFD_LOAD_CTRL, 9, 9⟩
abbrev Fld.SFD_LOAD_CTRL_OP : Fld := ⟨Reg.SFD_LOAD_CTRL, 8, 8⟩
abbrev Fld.SFD_LOAD_CTRL_CLASS : Fld := ⟨Reg.SFD_LOAD_CTRL, 3, 0⟩
abbrev Reg.SFD_LOAD_ADDR : Nat := 0x1C0044
abbrev Fld.SFD_LOAD_ADDR_ADDR : Fld := ⟨Reg.SFD_LOAD_ADDR, 31, 0⟩
abbrev Reg.SFD_LOAD_STATUS : Nat := 0x1C0048
abbrev Fld.SFD_LOAD_STATUS_LOADS : Fld := ⟨Reg.SFD_LOAD_STATUS, 31, 16⟩
abbrev Fld.SFD_LOAD_STATUS_ERR : Fld := ⟨Reg.SFD_LOAD_STATUS, 7, 4⟩
abbrev Fld.SFD_LOAD_STATUS_STATE : Fld := ⟨Reg.SFD_LOAD_STATUS, 1, 0⟩
abbrev Reg.SFD_CLASSc (i : Nat) : Nat := 0x1C0080 + 4 * i
abbrev Fld.SFD_CLASSc_NREF (i : Nat) : Fld := ⟨(Reg.SFD_CLASSc i), 11, 8⟩
abbrev Fld.SFD_CLASSc_PSET (i : Nat) : Fld := ⟨(Reg.SFD_CLASSc i), 4, 0⟩
abbrev Reg.SFD_CAP_CTRL : Nat := 0x1C00C0
abbrev Fld.SFD_CAP_CTRL_OVERRUN : Fld := ⟨Reg.SFD_CAP_CTRL, 9, 9⟩
abbrev Fld.SFD_CAP_CTRL_GO : Fld := ⟨Reg.SFD_CAP_CTRL, 8, 8⟩
abbrev Fld.SFD_CAP_CTRL_CLASS_ANY : Fld := ⟨Reg.SFD_CAP_CTRL, 4, 4⟩
abbrev Fld.SFD_CAP_CTRL_CLASS : Fld := ⟨Reg.SFD_CAP_CTRL, 3, 0⟩
abbrev Reg.SFD_CAP_DEST : Nat := 0x1C00C4
abbrev Fld.SFD_CAP_DEST_ADDR : Fld := ⟨Reg.SFD_CAP_DEST, 31, 0⟩
abbrev Reg.SFD_CAP_STATUS : Nat := 0x1C00C8
abbrev Fld.SFD_CAP_STATUS_CAPTURES : Fld := ⟨Reg.SFD_CAP_STATUS, 31, 16⟩
abbrev Fld.SFD_CAP_STATUS_ERR : Fld := ⟨Reg.SFD_CAP_STATUS, 7, 4⟩
abbrev Fld.SFD_CAP_STATUS_BUSY : Fld := ⟨Reg.SFD_CAP_STATUS, 0, 0⟩
abbrev Reg.SFD_LOP3_CTRL : Nat := 0x1C0100
abbrev Fld.SFD_LOP3_CTRL_CLASSES : Fld := ⟨Reg.SFD_LOP3_CTRL, 31, 16⟩
abbrev Fld.SFD_LOP3_CTRL_ITER : Fld := ⟨Reg.SFD_LOP3_CTRL, 11, 8⟩
abbrev Fld.SFD_LOP3_CTRL_ABORT : Fld := ⟨Reg.SFD_LOP3_CTRL, 2, 2⟩
abbrev Fld.SFD_LOP3_CTRL_OVERRUN : Fld := ⟨Reg.SFD_LOP3_CTRL, 1, 1⟩
abbrev Fld.SFD_LOP3_CTRL_GO : Fld := ⟨Reg.SFD_LOP3_CTRL, 0, 0⟩
abbrev Reg.SFD_LOP3_DEST : Nat := 0x1C0104
abbrev Fld.SFD_LOP3_DEST_ADDR : Fld := ⟨Reg.SFD_LOP3_DEST, 31, 0⟩
abbrev Reg.SFD_PGg_LIMIT (i : Nat) : Nat := 0x1C0200 + 0x10 * i
abbrev Fld.SFD_PGg_LIMIT_ACTION (i : Nat) : Fld := ⟨(Reg.SFD_PGg_LIMIT i), 31, 31⟩
abbrev Fld.SFD_PGg_LIMIT_LIM_N (i : Nat) : Fld := ⟨(Reg.SFD_PGg_LIMIT i), 23, 16⟩
abbrev Fld.SFD_PGg_LIMIT_IN_MAX (i : Nat) : Fld := ⟨(Reg.SFD_PGg_LIMIT i), 8, 0⟩
abbrev Reg.SFD_PGg_RES (i : Nat) : Nat := 0x1C0204 + 0x10 * i
abbrev Fld.SFD_PGg_RES_RES_N (i : Nat) : Fld := ⟨(Reg.SFD_PGg_RES i), 23, 16⟩
abbrev Fld.SFD_PGg_RES_RES_MAX (i : Nat) : Fld := ⟨(Reg.SFD_PGg_RES i), 8, 0⟩
abbrev Reg.SFD_PGg_STATUS (i : Nat) : Nat := 0x1C0208 + 0x10 * i
abbrev Fld.SFD_PGg_STATUS_LIMITS (i : Nat) : Fld := ⟨(Reg.SFD_PGg_STATUS i), 31, 16⟩
abbrev Fld.SFD_PGg_STATUS_DEMOTED (i : Nat) : Fld := ⟨(Reg.SFD_PGg_STATUS i), 1, 1⟩
abbrev Fld.SFD_PGg_STATUS_RES_HIGH (i : Nat) : Fld := ⟨(Reg.SFD_PGg_STATUS i), 0, 0⟩
abbrev Reg.SFD_PATHp_MON (i : Nat) : Nat := 0x1C1000 + 8 * i
abbrev Fld.SFD_PATHp_MON_SEQ (i : Nat) : Fld := ⟨(Reg.SFD_PATHp_MON i), 31, 28⟩
abbrev Fld.SFD_PATHp_MON_POST (i : Nat) : Fld := ⟨(Reg.SFD_PATHp_MON i), 24, 16⟩
abbrev Fld.SFD_PATHp_MON_PRE (i : Nat) : Fld := ⟨(Reg.SFD_PATHp_MON i), 8, 0⟩
abbrev Reg.SFD_PATHp_COUNT (i : Nat) : Nat := 0x1C1004 + 8 * i
abbrev Fld.SFD_PATHp_COUNT_LIMIT (i : Nat) : Fld := ⟨(Reg.SFD_PATHp_COUNT i), 31, 16⟩
abbrev Fld.SFD_PATHp_COUNT_RESIDUE (i : Nat) : Fld := ⟨(Reg.SFD_PATHp_COUNT i), 15, 0⟩
abbrev Reg.RFE_PGg_CFG (i : Nat) : Nat := 0x200000 + 0x10000 * i
abbrev Fld.RFE_PGg_CFG_FITTED (i : Nat) : Fld := ⟨(Reg.RFE_PGg_CFG i), 8, 8⟩
abbrev Fld.RFE_PGg_CFG_BAND (i : Nat) : Fld := ⟨(Reg.RFE_PGg_CFG i), 0, 0⟩
abbrev Reg.RFE_PGg_LOSEL (i : Nat) : Nat := 0x200004 + 0x10000 * i
abbrev Fld.RFE_PGg_LOSEL_INUSE (i : Nat) : Fld := ⟨(Reg.RFE_PGg_LOSEL i), 1, 1⟩
abbrev Fld.RFE_PGg_LOSEL_SEL (i : Nat) : Fld := ⟨(Reg.RFE_PGg_LOSEL i), 0, 0⟩
abbrev Reg.RFE_PGg_LOx_CTRL (i : Nat) (j : Nat) : Nat := 0x200010 + 0x10000 * i + 0x10 * j
abbrev Fld.RFE_PGg_LOx_CTRL_PWRDN (i : Nat) (j : Nat) : Fld := ⟨(Reg.RFE_PGg_LOx_CTRL i j), 18, 18⟩
abbrev Fld.RFE_PGg_LOx_CTRL_OVERRUN (i : Nat) (j : Nat) : Fld := ⟨(Reg.RFE_PGg_LOx_CTRL i j), 17, 17⟩
abbrev Fld.RFE_PGg_LOx_CTRL_GO (i : Nat) (j : Nat) : Fld := ⟨(Reg.RFE_PGg_LOx_CTRL i j), 16, 16⟩
abbrev Fld.RFE_PGg_LOx_CTRL_CHAN (i : Nat) (j : Nat) : Fld := ⟨(Reg.RFE_PGg_LOx_CTRL i j), 9, 0⟩
abbrev Reg.RFE_PGg_LOx_STATUS (i : Nat) (j : Nat) : Nat := 0x200014 + 0x10000 * i + 0x10 * j
abbrev Fld.RFE_PGg_LOx_STATUS_CHAN (i : Nat) (j : Nat) : Fld := ⟨(Reg.RFE_PGg_LOx_STATUS i j), 25, 16⟩
abbrev Fld.RFE_PGg_LOx_STATUS_STATE (i : Nat) (j : Nat) : Fld := ⟨(Reg.RFE_PGg_LOx_STATUS i j), 2, 0⟩
abbrev Reg.RFE_PGg_LOx_PHASE (i : Nat) (j : Nat) : Nat := 0x200018 + 0x10000 * i + 0x10 * j
abbrev Fld.RFE_PGg_LOx_PHASE_OVERRUN (i : Nat) (j : Nat) : Fld := ⟨(Reg.RFE_PGg_LOx_PHASE i j), 18, 18⟩
abbrev Fld.RFE_PGg_LOx_PHASE_BUSY (i : Nat) (j : Nat) : Fld := ⟨(Reg.RFE_PGg_LOx_PHASE i j), 17, 17⟩
abbrev Fld.RFE_PGg_LOx_PHASE_GO (i : Nat) (j : Nat) : Fld := ⟨(Reg.RFE_PGg_LOx_PHASE i j), 16, 16⟩
abbrev Fld.RFE_PGg_LOx_PHASE_STEP (i : Nat) (j : Nat) : Fld := ⟨(Reg.RFE_PGg_LOx_PHASE i j), 15, 0⟩
abbrev Reg.RFE_PGg_LOx_PHPOS (i : Nat) (j : Nat) : Nat := 0x20001C + 0x10000 * i + 0x10 * j
abbrev Fld.RFE_PGg_LOx_PHPOS_POS (i : Nat) (j : Nat) : Fld := ⟨(Reg.RFE_PGg_LOx_PHPOS i j), 15, 0⟩
abbrev Reg.RFE_PGg_LONR (i : Nat) : Nat := 0x200030 + 0x10000 * i
abbrev Fld.RFE_PGg_LONR_TX (i : Nat) : Fld := ⟨(Reg.RFE_PGg_LONR i), 31, 16⟩
abbrev Fld.RFE_PGg_LONR_RX (i : Nat) : Fld := ⟨(Reg.RFE_PGg_LONR i), 15, 0⟩
abbrev Reg.RFE_PGg_LOCNT (i : Nat) : Nat := 0x200034 + 0x10000 * i
abbrev Fld.RFE_PGg_LOCNT_RECAL (i : Nat) : Fld := ⟨(Reg.RFE_PGg_LOCNT i), 31, 16⟩
abbrev Fld.RFE_PGg_LOCNT_FAIL (i : Nat) : Fld := ⟨(Reg.RFE_PGg_LOCNT i), 15, 0⟩
abbrev Reg.RFE_PGg_ORX (i : Nat) : Nat := 0x200040 + 0x10000 * i
abbrev Fld.RFE_PGg_ORX_OGAIN (i : Nat) : Fld := ⟨(Reg.RFE_PGg_ORX i), 2, 0⟩
abbrev Reg.RFE_PGg_FEC_CNT (i : Nat) : Nat := 0x200044 + 0x10000 * i
abbrev Fld.RFE_PGg_FEC_CNT_INTERLOCK (i : Nat) : Fld := ⟨(Reg.RFE_PGg_FEC_CNT i), 15, 0⟩
abbrev Reg.RFE_PGg_RFFE_CTRL (i : Nat) : Nat := 0x200080 + 0x10000 * i
abbrev Fld.RFE_PGg_RFFE_CTRL_COUNT (i : Nat) : Fld := ⟨(Reg.RFE_PGg_RFFE_CTRL i), 20, 16⟩
abbrev Fld.RFE_PGg_RFFE_CTRL_DIV (i : Nat) : Fld := ⟨(Reg.RFE_PGg_RFFE_CTRL i), 9, 8⟩
abbrev Fld.RFE_PGg_RFFE_CTRL_OVERRUN (i : Nat) : Fld := ⟨(Reg.RFE_PGg_RFFE_CTRL i), 4, 4⟩
abbrev Fld.RFE_PGg_RFFE_CTRL_ABORT (i : Nat) : Fld := ⟨(Reg.RFE_PGg_RFFE_CTRL i), 3, 3⟩
abbrev Fld.RFE_PGg_RFFE_CTRL_BUSY (i : Nat) : Fld := ⟨(Reg.RFE_PGg_RFFE_CTRL i), 2, 2⟩
abbrev Fld.RFE_PGg_RFFE_CTRL_GO (i : Nat) : Fld := ⟨(Reg.RFE_PGg_RFFE_CTRL i), 0, 0⟩
abbrev Reg.RFE_PGg_RFFE_ENTj_W0 (i : Nat) (j : Nat) : Nat := 0x200100 + 0x10000 * i + 0x10 * j
abbrev Fld.RFE_PGg_RFFE_ENTj_W0_TIMED (i : Nat) (j : Nat) : Fld := ⟨(Reg.RFE_PGg_RFFE_ENTj_W0 i j), 31, 31⟩
abbrev Fld.RFE_PGg_RFFE_ENTj_W0_OP (i : Nat) (j : Nat) : Fld := ⟨(Reg.RFE_PGg_RFFE_ENTj_W0 i j), 30, 30⟩
abbrev Fld.RFE_PGg_RFFE_ENTj_W0_BC (i : Nat) (j : Nat) : Fld := ⟨(Reg.RFE_PGg_RFFE_ENTj_W0 i j), 25, 24⟩
abbrev Fld.RFE_PGg_RFFE_ENTj_W0_SA (i : Nat) (j : Nat) : Fld := ⟨(Reg.RFE_PGg_RFFE_ENTj_W0 i j), 19, 16⟩
abbrev Fld.RFE_PGg_RFFE_ENTj_W0_ADDR (i : Nat) (j : Nat) : Fld := ⟨(Reg.RFE_PGg_RFFE_ENTj_W0 i j), 7, 0⟩
abbrev Reg.RFE_PGg_RFFE_ENTj_W1 (i : Nat) (j : Nat) : Nat := 0x200104 + 0x10000 * i + 0x10 * j
abbrev Fld.RFE_PGg_RFFE_ENTj_W1_DATA (i : Nat) (j : Nat) : Fld := ⟨(Reg.RFE_PGg_RFFE_ENTj_W1 i j), 31, 0⟩
abbrev Reg.RFE_PGg_RFFE_ENTj_W2 (i : Nat) (j : Nat) : Nat := 0x200108 + 0x10000 * i + 0x10 * j
abbrev Fld.RFE_PGg_RFFE_ENTj_W2_ATIME (i : Nat) (j : Nat) : Fld := ⟨(Reg.RFE_PGg_RFFE_ENTj_W2 i j), 31, 0⟩
abbrev Reg.RFE_PGg_RFFE_ENTj_W3 (i : Nat) (j : Nat) : Nat := 0x20010C + 0x10000 * i + 0x10 * j
abbrev Fld.RFE_PGg_RFFE_ENTj_W3_LATE (i : Nat) (j : Nat) : Fld := ⟨(Reg.RFE_PGg_RFFE_ENTj_W3 i j), 2, 2⟩
abbrev Fld.RFE_PGg_RFFE_ENTj_W3_PERR (i : Nat) (j : Nat) : Fld := ⟨(Reg.RFE_PGg_RFFE_ENTj_W3 i j), 1, 1⟩
abbrev Fld.RFE_PGg_RFFE_ENTj_W3_DONE (i : Nat) (j : Nat) : Fld := ⟨(Reg.RFE_PGg_RFFE_ENTj_W3 i j), 0, 0⟩
abbrev Reg.RFE_PGg_Pi_RX (i : Nat) (j : Nat) : Nat := 0x200400 + 0x10000 * i + 0x20 * j
abbrev Fld.RFE_PGg_Pi_RX_RGAIN (i : Nat) (j : Nat) : Fld := ⟨(Reg.RFE_PGg_Pi_RX i j), 3, 0⟩
abbrev Reg.RFE_PGg_Pi_QT0 (i : Nat) (j : Nat) : Nat := 0x200404 + 0x10000 * i + 0x20 * j
abbrev Fld.RFE_PGg_Pi_QT0_QEN (i : Nat) (j : Nat) : Fld := ⟨(Reg.RFE_PGg_Pi_QT0 i j), 31, 31⟩
abbrev Fld.RFE_PGg_Pi_QT0_BIAS (i : Nat) (j : Nat) : Fld := ⟨(Reg.RFE_PGg_Pi_QT0 i j), 27, 16⟩
abbrev Fld.RFE_PGg_Pi_QT0_DAC (i : Nat) (j : Nat) : Fld := ⟨(Reg.RFE_PGg_Pi_QT0 i j), 11, 0⟩
abbrev Reg.RFE_PGg_Pi_QT1 (i : Nat) (j : Nat) : Nat := 0x200408 + 0x10000 * i + 0x20 * j
abbrev Fld.RFE_PGg_Pi_QT1_DRV (i : Nat) (j : Nat) : Fld := ⟨(Reg.RFE_PGg_Pi_QT1 i j), 27, 16⟩
abbrev Fld.RFE_PGg_Pi_QT1_RXBIAS (i : Nat) (j : Nat) : Fld := ⟨(Reg.RFE_PGg_Pi_QT1 i j), 11, 0⟩
abbrev Reg.RFE_PGg_Pi_QT2 (i : Nat) (j : Nat) : Nat := 0x20040C + 0x10000 * i + 0x20 * j
abbrev Fld.RFE_PGg_Pi_QT2_TX_LEAD (i : Nat) (j : Nat) : Fld := ⟨(Reg.RFE_PGg_Pi_QT2 i j), 31, 24⟩
abbrev Fld.RFE_PGg_Pi_QT2_TX_LAG (i : Nat) (j : Nat) : Fld := ⟨(Reg.RFE_PGg_Pi_QT2 i j), 23, 16⟩
abbrev Fld.RFE_PGg_Pi_QT2_RX_LEAD (i : Nat) (j : Nat) : Fld := ⟨(Reg.RFE_PGg_Pi_QT2 i j), 15, 8⟩
abbrev Fld.RFE_PGg_Pi_QT2_RX_LAG (i : Nat) (j : Nat) : Fld := ⟨(Reg.RFE_PGg_Pi_QT2 i j), 7, 0⟩
abbrev Reg.RFE_PGg_Pi_QSTAT (i : Nat) (j : Nat) : Nat := 0x200410 + 0x10000 * i + 0x20 * j
abbrev Fld.RFE_PGg_Pi_QSTAT_TXQ (i : Nat) (j : Nat) : Fld := ⟨(Reg.RFE_PGg_Pi_QSTAT i j), 31, 16⟩
abbrev Fld.RFE_PGg_Pi_QSTAT_RXQ (i : Nat) (j : Nat) : Fld := ⟨(Reg.RFE_PGg_Pi_QSTAT i j), 15, 0⟩
abbrev Reg.SYT_ROOT_CFG : Nat := 0x290000
abbrev Fld.SYT_ROOT_CFG_N : Fld := ⟨Reg.SYT_ROOT_CFG, 7, 0⟩
abbrev Reg.SYT_CFG : Nat := 0x290010
abbrev Fld.SYT_CFG_DRIFT : Fld := ⟨Reg.SYT_CFG, 31, 24⟩
abbrev Fld.SYT_CFG_LOCK_TO : Fld := ⟨Reg.SYT_CFG, 7, 0⟩
abbrev Reg.SYT_STATUS : Nat := 0x290014
abbrev Fld.SYT_STATUS_ROOT_LOSS : Fld := ⟨Reg.SYT_STATUS, 15, 0⟩
abbrev Reg.SYT_CHAN (i : Nat) : Nat := 0x2A0000 + 4 * i
abbrev Fld.SYT_CHAN_DATA (i : Nat) : Fld := ⟨(Reg.SYT_CHAN i), 31, 0⟩
abbrev Reg.CAL_STATUS : Nat := 0x300000
abbrev Fld.CAL_STATUS_IDENT : Fld := ⟨Reg.CAL_STATUS, 23, 16⟩
abbrev Fld.CAL_STATUS_TRIM_BAD : Fld := ⟨Reg.CAL_STATUS, 9, 9⟩
abbrev Fld.CAL_STATUS_REC_LOADED : Fld := ⟨Reg.CAL_STATUS, 8, 8⟩
abbrev Fld.CAL_STATUS_REC_COPY : Fld := ⟨Reg.CAL_STATUS, 1, 0⟩
abbrev Reg.CAL_COUNT : Nat := 0x300004
abbrev Fld.CAL_COUNT_COUNT : Fld := ⟨Reg.CAL_COUNT, 31, 0⟩
abbrev Reg.CAL_LAST_ATIME_LO : Nat := 0x300008
abbrev Fld.CAL_LAST_ATIME_LO_ATIME : Fld := ⟨Reg.CAL_LAST_ATIME_LO, 31, 0⟩
abbrev Reg.CAL_LAST_ATIME_HI : Nat := 0x30000C
abbrev Fld.CAL_LAST_ATIME_HI_ATIME : Fld := ⟨Reg.CAL_LAST_ATIME_HI, 31, 0⟩
abbrev Reg.CAL_ARR_CTRL : Nat := 0x300020
abbrev Fld.CAL_ARR_CTRL_POINT : Fld := ⟨Reg.CAL_ARR_CTRL, 21, 16⟩
abbrev Fld.CAL_ARR_CTRL_APPLY : Fld := ⟨Reg.CAL_ARR_CTRL, 7, 7⟩
abbrev Fld.CAL_ARR_CTRL_DIR : Fld := ⟨Reg.CAL_ARR_CTRL, 6, 5⟩
abbrev Fld.CAL_ARR_CTRL_MODE : Fld := ⟨Reg.CAL_ARR_CTRL, 4, 4⟩
abbrev Fld.CAL_ARR_CTRL_ABORT : Fld := ⟨Reg.CAL_ARR_CTRL, 2, 2⟩
abbrev Fld.CAL_ARR_CTRL_OVERRUN : Fld := ⟨Reg.CAL_ARR_CTRL, 1, 1⟩
abbrev Fld.CAL_ARR_CTRL_GO : Fld := ⟨Reg.CAL_ARR_CTRL, 0, 0⟩
abbrev Reg.CAL_ARR_CFG : Nat := 0x300024
abbrev Fld.CAL_ARR_CFG_SPAN : Fld := ⟨Reg.CAL_ARR_CFG, 31, 24⟩
abbrev Fld.CAL_ARR_CFG_JOINT : Fld := ⟨Reg.CAL_ARR_CFG, 20, 20⟩
abbrev Fld.CAL_ARR_CFG_REP : Fld := ⟨Reg.CAL_ARR_CFG, 19, 16⟩
abbrev Fld.CAL_ARR_CFG_REF_PATH : Fld := ⟨Reg.CAL_ARR_CFG, 13, 8⟩
abbrev Fld.CAL_ARR_CFG_PG_MASK : Fld := ⟨Reg.CAL_ARR_CFG, 7, 0⟩
abbrev Reg.CAL_ARR_CHAN : Nat := 0x300028
abbrev Fld.CAL_ARR_CHAN_LEVEL : Fld := ⟨Reg.CAL_ARR_CHAN, 23, 16⟩
abbrev Fld.CAL_ARR_CHAN_CHAN : Fld := ⟨Reg.CAL_ARR_CHAN, 9, 0⟩
abbrev Reg.CAL_FORCE_AT : Nat := 0x30002C
abbrev Fld.CAL_FORCE_AT_SLOT : Fld := ⟨Reg.CAL_FORCE_AT, 16, 10⟩
abbrev Fld.CAL_FORCE_AT_SFN : Fld := ⟨Reg.CAL_FORCE_AT, 9, 0⟩
abbrev Reg.CAL_ARR_DEST : Nat := 0x300030
abbrev Fld.CAL_ARR_DEST_ADDR : Fld := ⟨Reg.CAL_ARR_DEST, 31, 0⟩
abbrev Reg.CAL_FORCE_STAT : Nat := 0x300034
abbrev Fld.CAL_FORCE_STAT_DL_DROP : Fld := ⟨Reg.CAL_FORCE_STAT, 31, 16⟩
abbrev Fld.CAL_FORCE_STAT_UL_DROP : Fld := ⟨Reg.CAL_FORCE_STAT, 15, 0⟩
abbrev Reg.CAL_LOAD_CTRL : Nat := 0x300040
abbrev Fld.CAL_LOAD_CTRL_LOADS : Fld := ⟨Reg.CAL_LOAD_CTRL, 31, 16⟩
abbrev Fld.CAL_LOAD_CTRL_ERR : Fld := ⟨Reg.CAL_LOAD_CTRL, 15, 12⟩
abbrev Fld.CAL_LOAD_CTRL_POINT : Fld := ⟨Reg.CAL_LOAD_CTRL, 9, 4⟩
abbrev Fld.CAL_LOAD_CTRL_OVERRUN : Fld := ⟨Reg.CAL_LOAD_CTRL, 1, 1⟩
abbrev Fld.CAL_LOAD_CTRL_GO : Fld := ⟨Reg.CAL_LOAD_CTRL, 0, 0⟩
abbrev Reg.CAL_LOAD_ADDR : Nat := 0x300044
abbrev Fld.CAL_LOAD_ADDR_ADDR : Fld := ⟨Reg.CAL_LOAD_ADDR, 31, 0⟩
abbrev Reg.CAL_CONV_CTRL : Nat := 0x300050
abbrev Fld.CAL_CONV_CTRL_PG_MASK : Fld := ⟨Reg.CAL_CONV_CTRL, 15, 8⟩
abbrev Fld.CAL_CONV_CTRL_OVERRUN : Fld := ⟨Reg.CAL_CONV_CTRL, 1, 1⟩
abbrev Fld.CAL_CONV_CTRL_GO : Fld := ⟨Reg.CAL_CONV_CTRL, 0, 0⟩
abbrev Reg.CAL_SAVE_CTRL : Nat := 0x300060
abbrev Fld.CAL_SAVE_CTRL_KEY : Fld := ⟨Reg.CAL_SAVE_CTRL, 15, 8⟩
abbrev Fld.CAL_SAVE_CTRL_OVERRUN : Fld := ⟨Reg.CAL_SAVE_CTRL, 1, 1⟩
abbrev Fld.CAL_SAVE_CTRL_GO : Fld := ⟨Reg.CAL_SAVE_CTRL, 0, 0⟩
abbrev Reg.CAL_SAVE_ADDR : Nat := 0x300064
abbrev Fld.CAL_SAVE_ADDR_ADDR : Fld := ⟨Reg.CAL_SAVE_ADDR, 31, 0⟩
abbrev Reg.CAL_SAVE_LEN : Nat := 0x300068
abbrev Fld.CAL_SAVE_LEN_LEN : Fld := ⟨Reg.CAL_SAVE_LEN, 31, 0⟩
abbrev Reg.CAL_SAVE_STATUS : Nat := 0x30006C
abbrev Fld.CAL_SAVE_STATUS_ERR : Fld := ⟨Reg.CAL_SAVE_STATUS, 7, 0⟩
abbrev Reg.CAL_PTk_HDR_W0 (i : Nat) : Nat := 0x310000 + 0x800 * i
abbrev Fld.CAL_PTk_HDR_W0_VALID (i : Nat) : Fld := ⟨(Reg.CAL_PTk_HDR_W0 i), 31, 31⟩
abbrev Fld.CAL_PTk_HDR_W0_BAND (i : Nat) : Fld := ⟨(Reg.CAL_PTk_HDR_W0 i), 16, 16⟩
abbrev Fld.CAL_PTk_HDR_W0_CHAN (i : Nat) : Fld := ⟨(Reg.CAL_PTk_HDR_W0 i), 9, 0⟩
abbrev Reg.CAL_PTk_HDR_W1 (i : Nat) : Nat := 0x310004 + 0x800 * i
abbrev Fld.CAL_PTk_HDR_W1_REF_PATH (i : Nat) : Fld := ⟨(Reg.CAL_PTk_HDR_W1 i), 13, 8⟩
abbrev Fld.CAL_PTk_HDR_W1_MEASURED (i : Nat) : Fld := ⟨(Reg.CAL_PTk_HDR_W1 i), 7, 0⟩
abbrev Reg.CAL_PTk_HDR_W2 (i : Nat) : Nat := 0x310008 + 0x800 * i
abbrev Fld.CAL_PTk_HDR_W2_ATIME (i : Nat) : Fld := ⟨(Reg.CAL_PTk_HDR_W2 i), 31, 0⟩
abbrev Reg.CAL_PTk_Pp_W0 (i : Nat) (j : Nat) : Nat := 0x310100 + 0x800 * i + 0x10 * j
abbrev Fld.CAL_PTk_Pp_W0_TXC (i : Nat) (j : Nat) : Fld := ⟨(Reg.CAL_PTk_Pp_W0 i j), 31, 0⟩
abbrev Reg.CAL_PTk_Pp_W1 (i : Nat) (j : Nat) : Nat := 0x310104 + 0x800 * i + 0x10 * j
abbrev Fld.CAL_PTk_Pp_W1_RXC (i : Nat) (j : Nat) : Fld := ⟨(Reg.CAL_PTk_Pp_W1 i j), 31, 0⟩
abbrev Reg.CAL_PTk_Pp_W2 (i : Nat) (j : Nat) : Nat := 0x310108 + 0x800 * i + 0x10 * j
abbrev Fld.CAL_PTk_Pp_W2_RXD (i : Nat) (j : Nat) : Fld := ⟨(Reg.CAL_PTk_Pp_W2 i j), 25, 16⟩
abbrev Fld.CAL_PTk_Pp_W2_TXD (i : Nat) (j : Nat) : Fld := ⟨(Reg.CAL_PTk_Pp_W2 i j), 9, 0⟩
abbrev Reg.CAL_CONV_Pp_W0 (i : Nat) : Nat := 0x340000 + 0x10 * i
abbrev Fld.CAL_CONV_Pp_W0_DACI (i : Nat) : Fld := ⟨(Reg.CAL_CONV_Pp_W0 i), 29, 0⟩
abbrev Reg.CAL_CONV_Pp_W1 (i : Nat) : Nat := 0x340004 + 0x10 * i
abbrev Fld.CAL_CONV_Pp_W1_DACQ (i : Nat) : Fld := ⟨(Reg.CAL_CONV_Pp_W1 i), 29, 0⟩
abbrev Reg.CAL_CONV_Pp_W2 (i : Nat) : Nat := 0x340008 + 0x10 * i
abbrev Fld.CAL_CONV_Pp_W2_ADCI (i : Nat) : Fld := ⟨(Reg.CAL_CONV_Pp_W2 i), 31, 0⟩
abbrev Reg.CAL_CONV_Pp_W3 (i : Nat) : Nat := 0x34000C + 0x10 * i
abbrev Fld.CAL_CONV_Pp_W3_ADCQ (i : Nat) : Fld := ⟨(Reg.CAL_CONV_Pp_W3 i), 31, 0⟩
abbrev Reg.CAL_CONV_LOs (i : Nat) : Nat := 0x340400 + 4 * i
abbrev Fld.CAL_CONV_LOs_CODE (i : Nat) : Fld := ⟨(Reg.CAL_CONV_LOs i), 2, 0⟩
abbrev Reg.CAL_CONV_ORXg (i : Nat) : Nat := 0x340440 + 4 * i
abbrev Fld.CAL_CONV_ORXg_CODE (i : Nat) : Fld := ⟨(Reg.CAL_CONV_ORXg i), 31, 0⟩
abbrev Reg.CAL_CONV_LOC : Nat := 0x340460
abbrev Fld.CAL_CONV_LOC_CODE : Fld := ⟨Reg.CAL_CONV_LOC, 2, 0⟩
abbrev Reg.RFE_CAL_STATUS : Nat := 0x280000
abbrev Fld.RFE_CAL_STATUS_CHAN : Fld := ⟨Reg.RFE_CAL_STATUS, 25, 16⟩
abbrev Fld.RFE_CAL_STATUS_BAND : Fld := ⟨Reg.RFE_CAL_STATUS, 4, 4⟩
abbrev Fld.RFE_CAL_STATUS_STATE : Fld := ⟨Reg.RFE_CAL_STATUS, 2, 0⟩
abbrev Reg.CORE_CTRL (c : Nat) : Nat := if c < 12 then 0x410000 + 0x40000 * c else 0x740000
abbrev Fld.CORE_CTRL_RESUME (c : Nat) : Fld := ⟨(Reg.CORE_CTRL c), 2, 2⟩
abbrev Fld.CORE_CTRL_HALT_REQ (c : Nat) : Fld := ⟨(Reg.CORE_CTRL c), 1, 1⟩
abbrev Fld.CORE_CTRL_RST (c : Nat) : Fld := ⟨(Reg.CORE_CTRL c), 0, 0⟩
abbrev Reg.CORE_STATUS (c : Nat) : Nat := if c < 12 then 0x410004 + 0x40000 * c else 0x740004
abbrev Fld.CORE_STATUS_PC (c : Nat) : Fld := ⟨(Reg.CORE_STATUS c), 31, 16⟩
abbrev Fld.CORE_STATUS_TL (c : Nat) : Fld := ⟨(Reg.CORE_STATUS c), 4, 4⟩
abbrev Fld.CORE_STATUS_STATE (c : Nat) : Fld := ⟨(Reg.CORE_STATUS c), 2, 0⟩
abbrev Reg.CORE_TRAP (c : Nat) : Nat := if c < 12 then 0x410008 + 0x40000 * c else 0x740008
abbrev Fld.CORE_TRAP_PC (c : Nat) : Fld := ⟨(Reg.CORE_TRAP c), 31, 16⟩
abbrev Fld.CORE_TRAP_INFO (c : Nat) : Fld := ⟨(Reg.CORE_TRAP c), 15, 8⟩
abbrev Fld.CORE_TRAP_CAUSE (c : Nat) : Fld := ⟨(Reg.CORE_TRAP c), 7, 0⟩
abbrev Reg.CORE_TRAP_ADDR (c : Nat) : Nat := if c < 12 then 0x41000C + 0x40000 * c else 0x74000C
abbrev Fld.CORE_TRAP_ADDR_ADDR (c : Nat) : Fld := ⟨(Reg.CORE_TRAP_ADDR c), 31, 0⟩
abbrev Reg.CORE_APSEL (c : Nat) : Nat := if c < 12 then 0x410010 + 0x40000 * c else 0x740010
abbrev Fld.CORE_APSEL_SEL (c : Nat) : Fld := ⟨(Reg.CORE_APSEL c), 0, 0⟩
abbrev Reg.CORE_IRQ (c : Nat) : Nat := if c < 12 then 0x410014 + 0x40000 * c else 0x740014
abbrev Fld.CORE_IRQ_PEND (c : Nat) : Fld := ⟨(Reg.CORE_IRQ c), 31, 16⟩
abbrev Fld.CORE_IRQ_EN (c : Nat) : Fld := ⟨(Reg.CORE_IRQ c), 15, 0⟩
abbrev Reg.CORE_TIMER (c : Nat) : Nat := if c < 12 then 0x410018 + 0x40000 * c else 0x740018
abbrev Fld.CORE_TIMER_PERIOD (c : Nat) : Fld := ⟨(Reg.CORE_TIMER c), 23, 0⟩
abbrev Reg.CORE_DOORBELL (c : Nat) : Nat := if c < 12 then 0x41001C + 0x40000 * c else 0x74001C
abbrev Fld.CORE_DOORBELL_OVF (c : Nat) : Fld := ⟨(Reg.CORE_DOORBELL c), 16, 16⟩
abbrev Fld.CORE_DOORBELL_ADD (c : Nat) : Fld := ⟨(Reg.CORE_DOORBELL c), 15, 8⟩
abbrev Fld.CORE_DOORBELL_COUNT (c : Nat) : Fld := ⟨(Reg.CORE_DOORBELL c), 7, 0⟩
abbrev Reg.CORE_COUNT (c : Nat) : Nat := if c < 12 then 0x410020 + 0x40000 * c else 0x740020
abbrev Fld.CORE_COUNT_ECC_CORR (c : Nat) : Fld := ⟨(Reg.CORE_COUNT c), 31, 16⟩
abbrev Fld.CORE_COUNT_RESIDUE (c : Nat) : Fld := ⟨(Reg.CORE_COUNT c), 15, 0⟩
abbrev Reg.CORE_CYCLES_LO (c : Nat) : Nat := if c < 12 then 0x410024 + 0x40000 * c else 0x740024
abbrev Fld.CORE_CYCLES_LO_CYCLES (c : Nat) : Fld := ⟨(Reg.CORE_CYCLES_LO c), 31, 0⟩
abbrev Reg.CORE_CYCLES_HI (c : Nat) : Nat := if c < 12 then 0x410028 + 0x40000 * c else 0x740028
abbrev Fld.CORE_CYCLES_HI_CYCLES (c : Nat) : Fld := ⟨(Reg.CORE_CYCLES_HI c), 31, 0⟩
abbrev Reg.MBX_IN (c : Nat) : Nat := if c < 12 then 0x410100 + 0x40000 * c else 0x740100
abbrev Fld.MBX_IN_DATA (c : Nat) : Fld := ⟨(Reg.MBX_IN c), 31, 0⟩
abbrev Reg.MBX_OUT (c : Nat) : Nat := if c < 12 then 0x410104 + 0x40000 * c else 0x740104
abbrev Fld.MBX_OUT_DATA (c : Nat) : Fld := ⟨(Reg.MBX_OUT c), 31, 0⟩
abbrev Reg.MBX_STATUS (c : Nat) : Nat := if c < 12 then 0x410108 + 0x40000 * c else 0x740108
abbrev Fld.MBX_STATUS_OUT_UNDER (c : Nat) : Fld := ⟨(Reg.MBX_STATUS c), 19, 19⟩
abbrev Fld.MBX_STATUS_OUT_OVF (c : Nat) : Fld := ⟨(Reg.MBX_STATUS c), 18, 18⟩
abbrev Fld.MBX_STATUS_IN_UNDER (c : Nat) : Fld := ⟨(Reg.MBX_STATUS c), 17, 17⟩
abbrev Fld.MBX_STATUS_IN_OVF (c : Nat) : Fld := ⟨(Reg.MBX_STATUS c), 16, 16⟩
abbrev Fld.MBX_STATUS_OUT_LEVEL (c : Nat) : Fld := ⟨(Reg.MBX_STATUS c), 15, 8⟩
abbrev Fld.MBX_STATUS_IN_LEVEL (c : Nat) : Fld := ⟨(Reg.MBX_STATUS c), 7, 0⟩
abbrev Reg.DEAN_MBX_PEND : Nat := 0x74010C
abbrev Fld.DEAN_MBX_PEND_FAULT : Fld := ⟨Reg.DEAN_MBX_PEND, 27, 16⟩
abbrev Fld.DEAN_MBX_PEND_OUT : Fld := ⟨Reg.DEAN_MBX_PEND, 11, 0⟩
abbrev Reg.HK_CTRL : Nat := 0x60000
abbrev Fld.HK_CTRL_AUXSEL : Fld := ⟨Reg.HK_CTRL, 10, 9⟩
abbrev Fld.HK_CTRL_PORT_EN : Fld := ⟨Reg.HK_CTRL, 8, 8⟩
abbrev Fld.HK_CTRL_LEN : Fld := ⟨Reg.HK_CTRL, 6, 0⟩
abbrev Reg.HK_STATUS : Nat := 0x60004
abbrev Fld.HK_STATUS_BUSY : Fld := ⟨Reg.HK_STATUS, 31, 31⟩
abbrev Fld.HK_STATUS_KIND : Fld := ⟨Reg.HK_STATUS, 30, 29⟩
abbrev Fld.HK_STATUS_CH : Fld := ⟨Reg.HK_STATUS, 20, 16⟩
abbrev Fld.HK_STATUS_ENTRY : Fld := ⟨Reg.HK_STATUS, 6, 0⟩
abbrev Reg.HK_URG : Nat := 0x60008
abbrev Fld.HK_URG_GO : Fld := ⟨Reg.HK_URG, 8, 8⟩
abbrev Fld.HK_URG_WIN : Fld := ⟨Reg.HK_URG, 7, 5⟩
abbrev Fld.HK_URG_CH : Fld := ⟨Reg.HK_URG, 4, 0⟩
abbrev Reg.HK_URG_DROP : Nat := 0x6000C
abbrev Fld.HK_URG_DROP_COUNT : Fld := ⟨Reg.HK_URG_DROP, 15, 0⟩
abbrev Reg.HK_COUNTS : Nat := 0x60010
abbrev Fld.HK_COUNTS_TRIG_LATE : Fld := ⟨Reg.HK_COUNTS, 31, 16⟩
abbrev Fld.HK_COUNTS_TRIG_MISS : Fld := ⟨Reg.HK_COUNTS, 15, 0⟩
abbrev Reg.HK_ABORT : Nat := 0x60014
abbrev Fld.HK_ABORT_PORT_DROP : Fld := ⟨Reg.HK_ABORT, 31, 16⟩
abbrev Fld.HK_ABORT_ABORTS : Fld := ⟨Reg.HK_ABORT, 15, 0⟩
abbrev Reg.HK_PORT : Nat := 0x60018
abbrev Fld.HK_PORT_DATA : Fld := ⟨Reg.HK_PORT, 31, 0⟩
abbrev Reg.HK_THERM_CFG : Nat := 0x60020
abbrev Fld.HK_THERM_CFG_HYST : Fld := ⟨Reg.HK_THERM_CFG, 23, 16⟩
abbrev Fld.HK_THERM_CFG_HOT : Fld := ⟨Reg.HK_THERM_CFG, 15, 8⟩
abbrev Fld.HK_THERM_CFG_WARN : Fld := ⟨Reg.HK_THERM_CFG, 7, 0⟩
abbrev Reg.HK_THERM_STATUS : Nat := 0x60024
abbrev Fld.HK_THERM_STATUS_TRIP : Fld := ⟨Reg.HK_THERM_STATUS, 31, 31⟩
abbrev Fld.HK_THERM_STATUS_HOT : Fld := ⟨Reg.HK_THERM_STATUS, 25, 16⟩
abbrev Fld.HK_THERM_STATUS_WARN : Fld := ⟨Reg.HK_THERM_STATUS, 9, 0⟩
abbrev Reg.HK_SYSCAL_CTRL : Nat := 0x60030
abbrev Fld.HK_SYSCAL_CTRL_OVERRUN : Fld := ⟨Reg.HK_SYSCAL_CTRL, 9, 9⟩
abbrev Fld.HK_SYSCAL_CTRL_GO : Fld := ⟨Reg.HK_SYSCAL_CTRL, 8, 8⟩
abbrev Fld.HK_SYSCAL_CTRL_STEP : Fld := ⟨Reg.HK_SYSCAL_CTRL, 7, 7⟩
abbrev Fld.HK_SYSCAL_CTRL_WIN : Fld := ⟨Reg.HK_SYSCAL_CTRL, 6, 4⟩
abbrev Fld.HK_SYSCAL_CTRL_IDX : Fld := ⟨Reg.HK_SYSCAL_CTRL, 3, 0⟩
abbrev Reg.HK_SYSCAL_FS : Nat := 0x60034
abbrev Fld.HK_SYSCAL_FS_FS : Fld := ⟨Reg.HK_SYSCAL_FS, 31, 0⟩
abbrev Reg.HK_SYSCAL_ZERO : Nat := 0x60038
abbrev Fld.HK_SYSCAL_ZERO_VALID : Fld := ⟨Reg.HK_SYSCAL_ZERO, 31, 31⟩
abbrev Fld.HK_SYSCAL_ZERO_IDX : Fld := ⟨Reg.HK_SYSCAL_ZERO, 27, 24⟩
abbrev Fld.HK_SYSCAL_ZERO_CODE : Fld := ⟨Reg.HK_SYSCAL_ZERO, 23, 0⟩
abbrev Reg.HK_SYSCAL_ACC : Nat := 0x6003C
abbrev Fld.HK_SYSCAL_ACC_MEAN : Fld := ⟨Reg.HK_SYSCAL_ACC, 23, 0⟩
abbrev Reg.HK_CALi_W0 (i : Nat) : Nat := 0x60040 + 8 * i
abbrev Fld.HK_CALi_W0_OFFSET (i : Nat) : Fld := ⟨(Reg.HK_CALi_W0 i), 23, 0⟩
abbrev Reg.HK_CALi_W1 (i : Nat) : Nat := 0x60044 + 8 * i
abbrev Fld.HK_CALi_W1_GAIN (i : Nat) : Fld := ⟨(Reg.HK_CALi_W1 i), 23, 0⟩
abbrev Reg.HK_LISTn (i : Nat) : Nat := 0x60100 + 4 * i
abbrev Fld.HK_LISTn_DELAY (i : Nat) : Fld := ⟨(Reg.HK_LISTn i), 31, 16⟩
abbrev Fld.HK_LISTn_MARK (i : Nat) : Fld := ⟨(Reg.HK_LISTn i), 15, 12⟩
abbrev Fld.HK_LISTn_TRIG (i : Nat) : Fld := ⟨(Reg.HK_LISTn i), 11, 11⟩
abbrev Fld.HK_LISTn_WIN (i : Nat) : Fld := ⟨(Reg.HK_LISTn i), 10, 8⟩
abbrev Fld.HK_LISTn_CH (i : Nat) : Fld := ⟨(Reg.HK_LISTn i), 4, 0⟩
abbrev Reg.HK_RESc (i : Nat) : Nat := 0x60200 + 4 * i
abbrev Fld.HK_RESc_SEQ (i : Nat) : Fld := ⟨(Reg.HK_RESc i), 31, 28⟩
abbrev Fld.HK_RESc_FLAG_OFF (i : Nat) : Fld := ⟨(Reg.HK_RESc i), 24, 24⟩
abbrev Fld.HK_RESc_VALUE (i : Nat) : Fld := ⟨(Reg.HK_RESc i), 23, 0⟩
abbrev Reg.HK_RAWc (i : Nat) : Nat := 0x60280 + 4 * i
abbrev Fld.HK_RAWc_SEQ (i : Nat) : Fld := ⟨(Reg.HK_RAWc i), 31, 28⟩
abbrev Fld.HK_RAWc_VALUE (i : Nat) : Fld := ⟨(Reg.HK_RAWc i), 23, 0⟩
abbrev Reg.HK_SCALEi (i : Nat) : Nat := 0x60400 + 4 * i
abbrev Fld.HK_SCALEi_WORD (i : Nat) : Fld := ⟨(Reg.HK_SCALEi i), 31, 0⟩
abbrev Reg.LOP_STATn (i : Nat) : Nat := 0x70000 + 4 * i
abbrev Fld.LOP_STATn_STATE (i : Nat) : Fld := ⟨(Reg.LOP_STATn i), 31, 29⟩
abbrev Fld.LOP_STATn_ERR (i : Nat) : Fld := ⟨(Reg.LOP_STATn i), 28, 24⟩
abbrev Fld.LOP_STATn_UNITS_DONE (i : Nat) : Fld := ⟨(Reg.LOP_STATn i), 23, 12⟩
abbrev Fld.LOP_STATn_UNITS_TOTAL (i : Nat) : Fld := ⟨(Reg.LOP_STATn i), 11, 0⟩
abbrev Reg.LOP_RESn (i : Nat) : Nat := 0x70040 + 4 * i
abbrev Fld.LOP_RESn_ADDR (i : Nat) : Fld := ⟨(Reg.LOP_RESn i), 31, 0⟩
abbrev Reg.EVT_CTRL : Nat := 0x30000
abbrev Fld.EVT_CTRL_CNT_CLR : Fld := ⟨Reg.EVT_CTRL, 2, 2⟩
abbrev Fld.EVT_CTRL_IRQ_EN : Fld := ⟨Reg.EVT_CTRL, 1, 1⟩
abbrev Reg.EVT_DROP : Nat := 0x30004
abbrev Fld.EVT_DROP_LOST : Fld := ⟨Reg.EVT_DROP, 31, 16⟩
abbrev Fld.EVT_DROP_NOLINK : Fld := ⟨Reg.EVT_DROP, 15, 0⟩
abbrev Reg.EVT_SUMMARY : Nat := 0x30008
abbrev Fld.EVT_SUMMARY_WORDS : Fld := ⟨Reg.EVT_SUMMARY, 7, 0⟩
abbrev Reg.EVT_STATk (i : Nat) : Nat := 0x30100 + 4 * i
abbrev Fld.EVT_STATk_STAT (i : Nat) : Fld := ⟨(Reg.EVT_STATk i), 31, 0⟩
abbrev Reg.EVT_ENk (i : Nat) : Nat := 0x30120 + 4 * i
abbrev Fld.EVT_ENk_EN (i : Nat) : Fld := ⟨(Reg.EVT_ENk i), 31, 0⟩
abbrev Reg.EVT_RT_PKTk (i : Nat) : Nat := 0x30140 + 4 * i
abbrev Fld.EVT_RT_PKTk_RT_PKT (i : Nat) : Fld := ⟨(Reg.EVT_RT_PKTk i), 31, 0⟩
abbrev Reg.EVT_RT_IRQk (i : Nat) : Nat := 0x30160 + 4 * i
abbrev Fld.EVT_RT_IRQk_RT_IRQ (i : Nat) : Fld := ⟨(Reg.EVT_RT_IRQk i), 31, 0⟩
abbrev Reg.EVT_RT_DEANk (i : Nat) : Nat := 0x30180 + 4 * i
abbrev Fld.EVT_RT_DEANk_RT_DEAN (i : Nat) : Fld := ⟨(Reg.EVT_RT_DEANk i), 31, 0⟩
abbrev Reg.EVT_CNTc (i : Nat) : Nat := 0x31000 + 4 * i
abbrev Fld.EVT_CNTc_COUNT (i : Nat) : Fld := ⟨(Reg.EVT_CNTc i), 15, 0⟩
abbrev Reg.EVT_INFOc (i : Nat) : Nat := 0x31400 + 4 * i
abbrev Fld.EVT_INFOc_INFO (i : Nat) : Fld := ⟨(Reg.EVT_INFOc i), 31, 0⟩
abbrev Reg.PWR_STATUS : Nat := 0x40000
abbrev Fld.PWR_STATUS_PG_ON : Fld := ⟨Reg.PWR_STATUS, 31, 24⟩
abbrev Fld.PWR_STATUS_STAGE : Fld := ⟨Reg.PWR_STATUS, 19, 16⟩
abbrev Fld.PWR_STATUS_PEND_VALID : Fld := ⟨Reg.PWR_STATUS, 15, 15⟩
abbrev Fld.PWR_STATUS_PEND_STATE : Fld := ⟨Reg.PWR_STATUS, 14, 12⟩
abbrev Fld.PWR_STATUS_PEND_REQ : Fld := ⟨Reg.PWR_STATUS, 11, 8⟩
abbrev Fld.PWR_STATUS_TARGET : Fld := ⟨Reg.PWR_STATUS, 6, 4⟩
abbrev Fld.PWR_STATUS_STATE : Fld := ⟨Reg.PWR_STATUS, 2, 0⟩
abbrev Reg.PWR_REQ : Nat := 0x40004
abbrev Fld.PWR_REQ_GO : Fld := ⟨Reg.PWR_REQ, 16, 16⟩
abbrev Fld.PWR_REQ_PG_OFF : Fld := ⟨Reg.PWR_REQ, 15, 8⟩
abbrev Fld.PWR_REQ_STATE : Fld := ⟨Reg.PWR_REQ, 2, 0⟩
abbrev Reg.PWR_REFUSE_LAST : Nat := 0x40008
abbrev Fld.PWR_REFUSE_LAST_PG_OFF : Fld := ⟨Reg.PWR_REFUSE_LAST, 23, 16⟩
abbrev Fld.PWR_REFUSE_LAST_REQUESTER : Fld := ⟨Reg.PWR_REFUSE_LAST, 15, 12⟩
abbrev Fld.PWR_REFUSE_LAST_STATE : Fld := ⟨Reg.PWR_REFUSE_LAST, 10, 8⟩
abbrev Fld.PWR_REFUSE_LAST_REFUSER : Fld := ⟨Reg.PWR_REFUSE_LAST, 7, 0⟩
abbrev Reg.PWR_REFUSE_CNTk (i : Nat) : Nat := 0x40010 + 4 * i
abbrev Fld.PWR_REFUSE_CNTk_HI (i : Nat) : Fld := ⟨(Reg.PWR_REFUSE_CNTk i), 31, 16⟩
abbrev Fld.PWR_REFUSE_CNTk_LO (i : Nat) : Fld := ⟨(Reg.PWR_REFUSE_CNTk i), 15, 0⟩
abbrev Reg.PWR_WAKE_INFO : Nat := 0x40030
abbrev Fld.PWR_WAKE_INFO_COUNT : Fld := ⟨Reg.PWR_WAKE_INFO, 31, 16⟩
abbrev Fld.PWR_WAKE_INFO_SOURCE : Fld := ⟨Reg.PWR_WAKE_INFO, 15, 12⟩
abbrev Fld.PWR_WAKE_INFO_FROM : Fld := ⟨Reg.PWR_WAKE_INFO, 10, 8⟩
abbrev Fld.PWR_WAKE_INFO_TO : Fld := ⟨Reg.PWR_WAKE_INFO, 6, 4⟩
abbrev Fld.PWR_WAKE_INFO_RESTORE : Fld := ⟨Reg.PWR_WAKE_INFO, 1, 0⟩
abbrev Reg.PWR_WAKE_CFG : Nat := 0x40034
abbrev Fld.PWR_WAKE_CFG_CS_TGT : Fld := ⟨Reg.PWR_WAKE_CFG, 7, 7⟩
abbrev Fld.PWR_WAKE_CFG_CS_EN : Fld := ⟨Reg.PWR_WAKE_CFG, 6, 6⟩
abbrev Fld.PWR_WAKE_CFG_TMR_TGT : Fld := ⟨Reg.PWR_WAKE_CFG, 5, 5⟩
abbrev Fld.PWR_WAKE_CFG_TMR_EN : Fld := ⟨Reg.PWR_WAKE_CFG, 4, 4⟩
abbrev Fld.PWR_WAKE_CFG_QB0_TGT : Fld := ⟨Reg.PWR_WAKE_CFG, 3, 3⟩
abbrev Fld.PWR_WAKE_CFG_QB0_EN : Fld := ⟨Reg.PWR_WAKE_CFG, 2, 2⟩
abbrev Fld.PWR_WAKE_CFG_WAKEN_TGT : Fld := ⟨Reg.PWR_WAKE_CFG, 1, 1⟩
abbrev Fld.PWR_WAKE_CFG_WAKEN_EN : Fld := ⟨Reg.PWR_WAKE_CFG, 0, 0⟩
abbrev Reg.PWR_AON_TMR : Nat := 0x40038
abbrev Fld.PWR_AON_TMR_TICKS : Fld := ⟨Reg.PWR_AON_TMR, 31, 0⟩
abbrev Reg.PWR_VCORE : Nat := 0x40040
abbrev Fld.PWR_VCORE_BUSY : Fld := ⟨Reg.PWR_VCORE, 31, 31⟩
abbrev Fld.PWR_VCORE_DEEP_MV : Fld := ⟨Reg.PWR_VCORE, 25, 16⟩
abbrev Fld.PWR_VCORE_TARGET_MV : Fld := ⟨Reg.PWR_VCORE, 9, 0⟩
abbrev Reg.PWR_REG_CFG : Nat := 0x40044
abbrev Fld.PWR_REG_CFG_PG_TO : Fld := ⟨Reg.PWR_REG_CFG, 31, 24⟩
abbrev Fld.PWR_REG_CFG_RETRY : Fld := ⟨Reg.PWR_REG_CFG, 23, 20⟩
abbrev Fld.PWR_REG_CFG_PG_SRC : Fld := ⟨Reg.PWR_REG_CFG, 19, 16⟩
abbrev Fld.PWR_REG_CFG_MARGIN : Fld := ⟨Reg.PWR_REG_CFG, 15, 8⟩
abbrev Fld.PWR_REG_CFG_DIE_OFF : Fld := ⟨Reg.PWR_REG_CFG, 7, 4⟩
abbrev Reg.PWR_CORE_RAILS : Nat := 0x40048
abbrev Fld.PWR_CORE_RAILS_RFH_EN : Fld := ⟨Reg.PWR_CORE_RAILS, 31, 31⟩
abbrev Fld.PWR_CORE_RAILS_RFH_ADDR : Fld := ⟨Reg.PWR_CORE_RAILS, 30, 24⟩
abbrev Fld.PWR_CORE_RAILS_SRAM_EN : Fld := ⟨Reg.PWR_CORE_RAILS, 23, 23⟩
abbrev Fld.PWR_CORE_RAILS_SRAM_ADDR : Fld := ⟨Reg.PWR_CORE_RAILS, 22, 16⟩
abbrev Fld.PWR_CORE_RAILS_LNK_EN : Fld := ⟨Reg.PWR_CORE_RAILS, 15, 15⟩
abbrev Fld.PWR_CORE_RAILS_LNK_ADDR : Fld := ⟨Reg.PWR_CORE_RAILS, 14, 8⟩
abbrev Fld.PWR_CORE_RAILS_CORE_EN : Fld := ⟨Reg.PWR_CORE_RAILS, 7, 7⟩
abbrev Fld.PWR_CORE_RAILS_CORE_ADDR : Fld := ⟨Reg.PWR_CORE_RAILS, 6, 0⟩
abbrev Reg.PWR_CORE_RAILS2 : Nat := 0x4004C
abbrev Fld.PWR_CORE_RAILS2_CONV_EN : Fld := ⟨Reg.PWR_CORE_RAILS2, 7, 7⟩
abbrev Fld.PWR_CORE_RAILS2_CONV_ADDR : Fld := ⟨Reg.PWR_CORE_RAILS2, 6, 0⟩
abbrev Reg.PWR_PG_STATUS : Nat := 0x40050
abbrev Fld.PWR_PG_STATUS_FAIL : Fld := ⟨Reg.PWR_PG_STATUS, 23, 16⟩
abbrev Fld.PWR_PG_STATUS_HOT_OFF : Fld := ⟨Reg.PWR_PG_STATUS, 15, 8⟩
abbrev Fld.PWR_PG_STATUS_REQ_OFF : Fld := ⟨Reg.PWR_PG_STATUS, 7, 0⟩
abbrev Reg.PWR_POLICY : Nat := 0x40054
abbrev Fld.PWR_POLICY_TT_EN : Fld := ⟨Reg.PWR_POLICY, 31, 31⟩
abbrev Fld.PWR_POLICY_LIGHT_MIN : Fld := ⟨Reg.PWR_POLICY, 23, 8⟩
abbrev Fld.PWR_POLICY_LIGHT_LEAD : Fld := ⟨Reg.PWR_POLICY, 7, 0⟩
abbrev Reg.PWR_VETO : Nat := 0x40058
abbrev Fld.PWR_VETO_HOLD : Fld := ⟨Reg.PWR_VETO, 0, 0⟩
abbrev Reg.PWR_BELL_CFG : Nat := 0x40060
abbrev Fld.PWR_BELL_CFG_PING_IRQ : Fld := ⟨Reg.PWR_BELL_CFG, 2, 2⟩
abbrev Fld.PWR_BELL_CFG_IN_DEEP : Fld := ⟨Reg.PWR_BELL_CFG, 1, 1⟩
abbrev Fld.PWR_BELL_CFG_EN : Fld := ⟨Reg.PWR_BELL_CFG, 0, 0⟩
abbrev Reg.PWR_BELL_ADDR : Nat := 0x40064
abbrev Fld.PWR_BELL_ADDR_GROUP : Fld := ⟨Reg.PWR_BELL_ADDR, 23, 16⟩
abbrev Fld.PWR_BELL_ADDR_ADDR : Fld := ⟨Reg.PWR_BELL_ADDR, 15, 0⟩
abbrev Reg.PWR_BELL_COUNT : Nat := 0x40068
abbrev Fld.PWR_BELL_COUNT_REJECT : Fld := ⟨Reg.PWR_BELL_COUNT, 31, 16⟩
abbrev Fld.PWR_BELL_COUNT_MATCH : Fld := ⟨Reg.PWR_BELL_COUNT, 15, 0⟩
abbrev Reg.PWR_BELL_LAST : Nat := 0x4006C
abbrev Fld.PWR_BELL_LAST_CMD : Fld := ⟨Reg.PWR_BELL_LAST, 31, 24⟩
abbrev Fld.PWR_BELL_LAST_GROUP : Fld := ⟨Reg.PWR_BELL_LAST, 23, 16⟩
abbrev Fld.PWR_BELL_LAST_ADDR : Fld := ⟨Reg.PWR_BELL_LAST, 15, 0⟩
abbrev Reg.DEV_RESET_INFO : Nat := 0x20
abbrev Fld.DEV_RESET_INFO_COUNT : Fld := ⟨Reg.DEV_RESET_INFO, 31, 16⟩
abbrev Fld.DEV_RESET_INFO_KIND : Fld := ⟨Reg.DEV_RESET_INFO, 2, 0⟩
abbrev Reg.PROC_ATT_NONCE (i : Nat) : Nat := 0x20100 + 4 * i
abbrev Fld.PROC_ATT_NONCE_DATA (i : Nat) : Fld := ⟨(Reg.PROC_ATT_NONCE i), 31, 0⟩
abbrev Reg.PROC_DBG_CHAL (i : Nat) : Nat := 0x20140 + 4 * i
abbrev Fld.PROC_DBG_CHAL_DATA (i : Nat) : Fld := ⟨(Reg.PROC_DBG_CHAL i), 31, 0⟩
abbrev Reg.PROC_FUSE (i : Nat) : Nat := 0x21000 + 4 * i
abbrev Fld.PROC_FUSE_DATA (i : Nat) : Fld := ⟨(Reg.PROC_FUSE i), 31, 0⟩
abbrev Reg.PROC_CERT (i : Nat) : Nat := 0x22000 + 4 * i
abbrev Fld.PROC_CERT_DATA (i : Nat) : Fld := ⟨(Reg.PROC_CERT i), 31, 0⟩
abbrev Reg.PROC_ATT_REPORT (i : Nat) : Nat := 0x23000 + 4 * i
abbrev Fld.PROC_ATT_REPORT_DATA (i : Nat) : Fld := ⟨(Reg.PROC_ATT_REPORT i), 31, 0⟩
abbrev Reg.PROC_TOKEN (i : Nat) : Nat := 0x23800 + 4 * i
abbrev Fld.PROC_TOKEN_DATA (i : Nat) : Fld := ⟨(Reg.PROC_TOKEN i), 31, 0⟩

/-- The registers of the block at 0. -/
def regsDev : List RegRow := [
  ⟨0, [], [⟨31, 16, .ro, 0x6464, .f, [], false⟩, ⟨15, 8, .ro, 0xB, .f, [], false⟩, ⟨7, 0, .ro, 1, .f, [], false⟩]⟩,
  ⟨4, [], [⟨15, 8, .wo, 0, .n, [], false⟩, ⟨2, 2, .rw1s, 0, .n, [], false⟩, ⟨1, 1, .rw1s, 0, .n, [], false⟩, ⟨0, 0, .rw1s, 0, .n, [], false⟩]⟩,
  ⟨8, [], [⟨4, 3, .ro, 0, .s, [], false⟩, ⟨2, 0, .ro, 0, .s, [], false⟩]⟩,
  ⟨0xC, [], [⟨31, 0, .rw, 0, .p, [], false⟩]⟩,
  ⟨0x10, [], [⟨31, 16, .ro, 0, .n, [], false⟩, ⟨15, 0, .ro, 0, .n, [], false⟩]⟩,
  ⟨0x14, [], [⟨31, 0, .ro, 0, .n, [], false⟩]⟩,
  ⟨0x18, [], [⟨31, 31, .w1c, 0, .n, [], false⟩, ⟨13, 13, .ro, 0, .n, [], false⟩, ⟨12, 12, .ro, 0, .n, [], false⟩, ⟨11, 8, .ro, 0, .n, [], false⟩, ⟨7, 0, .ro, 0, .n, [], false⟩]⟩,
  ⟨0x20, [], [⟨31, 16, .ro, 0, .p, [], false⟩, ⟨2, 0, .ro, 0, .p, [], false⟩]⟩]

/-- The registers of the block at 0x10000. -/
def regsBoot : List RegRow := [
  ⟨0x10000, [], [⟨20, 16, .ro, 0, .n, [], false⟩, ⟨10, 10, .ro, 0, .n, [], false⟩, ⟨9, 9, .ro, 0, .n, [], false⟩, ⟨8, 8, .w1c, 0, .n, [], false⟩, ⟨3, 3, .ro, 0, .n, [], false⟩, ⟨2, 2, .ro, 0, .n, [], false⟩, ⟨1, 1, .ro, 0, .n, [], false⟩, ⟨0, 0, .ro, 0, .n, [], false⟩]⟩,
  ⟨0x10004, [], [⟨15, 8, .wo, 0, .n, [], false⟩, ⟨3, 3, .rw1s, 0, .p, [], false⟩, ⟨2, 2, .rw, 0, .p, [], false⟩, ⟨1, 1, .rw1s, 0, .n, [], false⟩]⟩,
  ⟨0x10008, [], [⟨11, 8, .ro, 3, .p, [], false⟩, ⟨7, 0, .ro, 0, .p, [], false⟩]⟩,
  ⟨0x1000C, [], [⟨8, 8, .ro, 0, .n, [], false⟩, ⟨7, 0, .ro, 0, .n, [], false⟩]⟩,
  ⟨0x10010, [], [⟨31, 0, .rw, 0, .n, [], false⟩]⟩,
  ⟨0x10014, [], [⟨31, 0, .ro, 0, .n, [], false⟩]⟩,
  ⟨0x10020, [], [⟨31, 0, .rw, 0, .n, [], false⟩]⟩,
  ⟨0x10024, [], [⟨31, 0, .rw, 0, .n, [], false⟩]⟩,
  ⟨0x10028, [], [⟨31, 0, .rw, 0, .n, [], false⟩]⟩,
  ⟨0x1002C, [], [⟨15, 8, .wo, 0, .n, [], false⟩, ⟨4, 4, .w1c, 0, .n, [], false⟩, ⟨3, 3, .rw1s, 0, .n, [], false⟩, ⟨2, 2, .rw, 0, .n, [], false⟩, ⟨1, 0, .rw, 0, .n, [(0, 2)], false⟩]⟩,
  ⟨0x10030, [], [⟨15, 8, .wo, 0, .n, [], false⟩, ⟨1, 1, .rw, 0, .n, [], false⟩, ⟨0, 0, .rw1s, 0, .n, [], false⟩]⟩,
  ⟨0x10034, [], [⟨31, 0, .ro, 0, .n, [], false⟩]⟩,
  ⟨0x11000, [(1024, 4)], [⟨31, 0, .rw, 0, .n, [], false⟩]⟩]

/-- The registers of the block at 0x20000. -/
def regsProc : List RegRow := [
  ⟨0x20000, [], [⟨23, 16, .ro, 0, .f, [], false⟩, ⟨15, 8, .ro, 0, .f, [], false⟩, ⟨3, 3, .ro, 0, .n, [], false⟩, ⟨2, 2, .ro, 0, .f, [], false⟩, ⟨1, 0, .ro, 0, .n, [], false⟩]⟩,
  ⟨0x20004, [], [⟨15, 8, .wo, 0, .n, [], false⟩, ⟨4, 4, .rw1s, 0, .n, [], false⟩, ⟨3, 0, .rw, 0, .n, [(1, 5)], false⟩]⟩,
  ⟨0x20008, [], [⟨17, 17, .w1c, 0, .n, [], false⟩, ⟨16, 16, .ro, 0, .n, [], false⟩, ⟨7, 0, .ro, 0, .n, [], false⟩]⟩,
  ⟨0x2000C, [], [⟨15, 8, .ro, 0, .p, [], false⟩, ⟨1, 1, .ro, 0, .p, [], false⟩, ⟨0, 0, .ro, 0, .n, [], false⟩]⟩,
  ⟨0x20010, [], [⟨15, 8, .wo, 0, .n, [], false⟩, ⟨1, 1, .w1c, 0, .n, [], false⟩, ⟨0, 0, .rw1s, 0, .n, [], false⟩]⟩,
  ⟨0x20100, [(16, 4)], [⟨31, 0, .rw, 0, .n, [], false⟩]⟩,
  ⟨0x20140, [(8, 4)], [⟨31, 0, .ro, 0, .n, [], false⟩]⟩,
  ⟨0x21000, [(1024, 4)], [⟨31, 0, .ro, 0, .f, [], false⟩]⟩,
  ⟨0x22000, [(1024, 4)], [⟨31, 0, .ro, 0, .f, [], false⟩]⟩,
  ⟨0x23000, [(200, 4)], [⟨31, 0, .ro, 0, .n, [], false⟩]⟩,
  ⟨0x23800, [(512, 4)], [⟨31, 0, .rw, 0, .n, [], false⟩]⟩]

/-- The registers of the block at 0x30000. -/
def regsEvt : List RegRow := [
  ⟨0x30000, [], [⟨2, 2, .rw1s, 0, .n, [], false⟩, ⟨1, 1, .rw, 1, .w, [], false⟩]⟩,
  ⟨0x30004, [], [⟨31, 16, .ro, 0, .n, [], false⟩, ⟨15, 0, .ro, 0, .n, [], false⟩]⟩,
  ⟨0x30008, [], [⟨7, 0, .ro, 0, .n, [], false⟩]⟩,
  ⟨0x30100, [(8, 4)], [⟨31, 0, .w1c, 0, .n, [], false⟩]⟩,
  ⟨0x30120, [(8, 4)], [⟨31, 0, .rw, 0xFFFFFFFF, .w, [], false⟩]⟩,
  ⟨0x30140, [(8, 4)], [⟨31, 0, .rw, 0, .w, [], false⟩]⟩,
  ⟨0x30160, [(8, 4)], [⟨31, 0, .rw, 0, .w, [], false⟩]⟩,
  ⟨0x30180, [(8, 4)], [⟨31, 0, .rw, 0, .w, [], false⟩]⟩,
  ⟨0x31000, [(256, 4)], [⟨15, 0, .ro, 0, .n, [], false⟩]⟩,
  ⟨0x31400, [(256, 4)], [⟨31, 0, .ro, 0, .n, [], false⟩]⟩]

/-- The registers of the block at 0x40000. -/
def regsPwr : List RegRow := [
  ⟨0x40000, [], [⟨31, 24, .ro, 0, .n, [], false⟩, ⟨19, 16, .ro, 0, .n, [], false⟩, ⟨15, 15, .ro, 0, .n, [], false⟩, ⟨14, 12, .ro, 0, .n, [], false⟩, ⟨11, 8, .ro, 0, .n, [], false⟩, ⟨6, 4, .ro, 0, .n, [], false⟩, ⟨2, 0, .ro, 7, .n, [], false⟩]⟩,
  ⟨0x40004, [], [⟨16, 16, .rw1s, 0, .n, [], false⟩, ⟨15, 8, .rw, 0, .n, [], false⟩, ⟨2, 0, .rw, 0, .n, [(0, 4)], false⟩]⟩,
  ⟨0x40008, [], [⟨23, 16, .ro, 0, .n, [], false⟩, ⟨15, 12, .ro, 0, .n, [], false⟩, ⟨10, 8, .ro, 0, .n, [], false⟩, ⟨7, 0, .ro, 0, .n, [], false⟩]⟩,
  ⟨0x40010, [(6, 4)], [⟨31, 16, .ro, 0, .n, [], false⟩, ⟨15, 0, .ro, 0, .n, [], false⟩]⟩,
  ⟨0x40030, [], [⟨31, 16, .ro, 0, .p, [], false⟩, ⟨15, 12, .ro, 0, .p, [], false⟩, ⟨10, 8, .ro, 0, .p, [], false⟩, ⟨6, 4, .ro, 0, .p, [], false⟩, ⟨1, 0, .ro, 0, .p, [], false⟩]⟩,
  ⟨0x40034, [], [⟨7, 7, .rw, 0, .w, [], false⟩, ⟨6, 6, .rw, 1, .w, [], false⟩, ⟨5, 5, .rw, 0, .w, [], false⟩, ⟨4, 4, .rw, 0, .w, [], false⟩, ⟨3, 3, .rw, 0, .w, [], false⟩, ⟨2, 2, .rw, 0, .w, [], false⟩, ⟨1, 1, .rw, 0, .w, [], false⟩, ⟨0, 0, .rw, 1, .w, [], false⟩]⟩,
  ⟨0x40038, [], [⟨31, 0, .rw, 0, .w, [], false⟩]⟩,
  ⟨0x40040, [], [⟨31, 31, .ro, 0, .n, [], false⟩, ⟨25, 16, .rw, 0x26C, .w, [(620, 820)], false⟩, ⟨9, 0, .rw, 0x2F8, .w, [(620, 820)], false⟩]⟩,
  ⟨0x40044, [], [⟨31, 24, .rw, 5, .w, [], false⟩, ⟨23, 20, .rw, 3, .w, [], false⟩, ⟨19, 16, .rw, 0, .w, [], false⟩, ⟨15, 8, .rw, 0, .w, [], false⟩, ⟨7, 4, .rw, 0xF, .w, [], false⟩]⟩,
  ⟨0x40048, [], [⟨31, 31, .rw, 0, .w, [], false⟩, ⟨30, 24, .rw, 0, .w, [], false⟩, ⟨23, 23, .rw, 0, .w, [], false⟩, ⟨22, 16, .rw, 0, .w, [], false⟩, ⟨15, 15, .rw, 0, .w, [], false⟩, ⟨14, 8, .rw, 0, .w, [], false⟩, ⟨7, 7, .rw, 0, .w, [], false⟩, ⟨6, 0, .rw, 0, .w, [], false⟩]⟩,
  ⟨0x4004C, [], [⟨7, 7, .rw, 0, .w, [], false⟩, ⟨6, 0, .rw, 0, .w, [], false⟩]⟩,
  ⟨0x40050, [], [⟨23, 16, .w1c, 0, .n, [], false⟩, ⟨15, 8, .ro, 0, .n, [], false⟩, ⟨7, 0, .ro, 0, .n, [], false⟩]⟩,
  ⟨0x40054, [], [⟨31, 31, .rw, 0, .w, [], false⟩, ⟨23, 8, .rw, 0x1F4, .w, [], false⟩, ⟨7, 0, .rw, 0x46, .w, [(60, 255)], false⟩]⟩,
  ⟨0x40058, [], [⟨0, 0, .rw, 0, .n, [], false⟩]⟩,
  ⟨0x40060, [], [⟨2, 2, .rw, 0, .w, [], false⟩, ⟨1, 1, .rw, 0, .w, [], false⟩, ⟨0, 0, .rw, 1, .w, [], false⟩]⟩,
  ⟨0x40064, [], [⟨23, 16, .rw, 0, .p, [(0, 254)], false⟩, ⟨15, 0, .rw, 0, .p, [(0, 65534)], false⟩]⟩,
  ⟨0x40068, [], [⟨31, 16, .ro, 0, .p, [], false⟩, ⟨15, 0, .ro, 0, .p, [], false⟩]⟩,
  ⟨0x4006C, [], [⟨31, 24, .ro, 0, .p, [], false⟩, ⟨23, 16, .ro, 0, .p, [], false⟩, ⟨15, 0, .ro, 0, .p, [], false⟩]⟩]

/-- The registers of the block at 0x50000. -/
def regsClk : List RegRow := [
  ⟨0x50000, [], [⟨8, 8, .w1c, 0, .n, [], false⟩, ⟨5, 4, .ro, 0, .s, [], false⟩, ⟨2, 2, .ro, 0, .p, [], false⟩, ⟨1, 1, .ro, 0, .n, [], false⟩, ⟨0, 0, .ro, 0, .n, [], false⟩]⟩,
  ⟨0x50004, [], [⟨19, 19, .w1c, 0, .n, [], false⟩, ⟨18, 18, .w1c, 0, .n, [], false⟩, ⟨17, 17, .ro, 0, .n, [], false⟩, ⟨16, 16, .rw1s, 0, .n, [], false⟩, ⟨15, 0, .rw, 0, .w, [], false⟩]⟩,
  ⟨0x50008, [], [⟨31, 0, .ro, 0, .w, [], false⟩]⟩,
  ⟨0x5000C, [], [⟨5, 5, .rw, 0, .s, [], false⟩, ⟨4, 4, .rw, 0, .s, [], false⟩, ⟨1, 1, .rw, 0, .s, [], false⟩, ⟨0, 0, .rw, 0, .s, [], false⟩]⟩]

/-- The registers of the block at 0x60000. -/
def regsHk : List RegRow := [
  ⟨0x60000, [], [⟨10, 9, .rw, 0, .w, [], false⟩, ⟨8, 8, .rw, 0, .w, [], false⟩, ⟨6, 0, .rw, 0, .w, [(0, 64)], false⟩]⟩,
  ⟨0x60004, [], [⟨31, 31, .ro, 0, .n, [], false⟩, ⟨30, 29, .ro, 0, .n, [], false⟩, ⟨20, 16, .ro, 0, .n, [], false⟩, ⟨6, 0, .ro, 0, .n, [], false⟩]⟩,
  ⟨0x60008, [], [⟨8, 8, .rw1s, 0, .n, [], false⟩, ⟨7, 5, .rw, 5, .n, [(0, 5)], false⟩, ⟨4, 0, .rw, 0, .n, [], false⟩]⟩,
  ⟨0x6000C, [], [⟨15, 0, .ro, 0, .n, [], false⟩]⟩,
  ⟨0x60010, [], [⟨31, 16, .ro, 0, .n, [], false⟩, ⟨15, 0, .ro, 0, .n, [], false⟩]⟩,
  ⟨0x60014, [], [⟨31, 16, .ro, 0, .n, [], false⟩, ⟨15, 0, .ro, 0, .n, [], false⟩]⟩,
  ⟨0x60018, [], [⟨31, 0, .ro, 0, .n, [], false⟩]⟩,
  ⟨0x60020, [], [⟨23, 16, .rw, 5, .s, [], false⟩, ⟨15, 8, .rw, 0x6E, .s, [], false⟩, ⟨7, 0, .rw, 0x69, .s, [], false⟩]⟩,
  ⟨0x60024, [], [⟨31, 31, .ro, 0, .p, [], false⟩, ⟨25, 16, .ro, 0, .n, [], false⟩, ⟨9, 0, .ro, 0, .n, [], false⟩]⟩,
  ⟨0x60030, [], [⟨9, 9, .w1c, 0, .n, [], false⟩, ⟨8, 8, .rw1s, 0, .n, [], false⟩, ⟨7, 7, .rw, 0, .n, [], false⟩, ⟨6, 4, .rw, 3, .n, [(0, 5)], false⟩, ⟨3, 0, .rw, 0, .n, [], false⟩]⟩,
  ⟨0x60034, [], [⟨31, 0, .rw, 0, .n, [], false⟩]⟩,
  ⟨0x60038, [], [⟨31, 31, .ro, 0, .n, [], false⟩, ⟨27, 24, .ro, 0, .n, [], false⟩, ⟨23, 0, .ro, 0, .n, [], false⟩]⟩,
  ⟨0x6003C, [], [⟨23, 0, .ro, 0, .n, [], false⟩]⟩,
  ⟨0x60040, [(12, 8)], [⟨23, 0, .rw, 0, .w, [], false⟩]⟩,
  ⟨0x60044, [(12, 8)], [⟨23, 0, .rw, 0x400000, .w, [], false⟩]⟩,
  ⟨0x60100, [(64, 4)], [⟨31, 16, .rw, 0, .w, [], false⟩, ⟨15, 12, .rw, 0, .w, [], false⟩, ⟨11, 11, .rw, 0, .w, [], false⟩, ⟨10, 8, .rw, 3, .w, [(0, 5)], false⟩, ⟨4, 0, .rw, 0, .w, [], false⟩]⟩,
  ⟨0x60200, [(32, 4)], [⟨31, 28, .ro, 0, .n, [], false⟩, ⟨24, 24, .ro, 0, .n, [], false⟩, ⟨23, 0, .ro, 0, .n, [], false⟩]⟩,
  ⟨0x60280, [(32, 4)], [⟨31, 28, .ro, 0, .n, [], false⟩, ⟨23, 0, .ro, 0, .n, [], false⟩]⟩,
  ⟨0x60400, [(12, 4)], [⟨31, 0, .rw, 0, .s, [], false⟩]⟩]

/-- The registers of the block at 0x70000. -/
def regsLop : List RegRow := [
  ⟨0x70000, [(10, 4)], [⟨31, 29, .ro, 0, .n, [], false⟩, ⟨28, 24, .ro, 0, .n, [], false⟩, ⟨23, 12, .ro, 0, .n, [], false⟩, ⟨11, 0, .ro, 0, .n, [], false⟩]⟩,
  ⟨0x70040, [(10, 4)], [⟨31, 0, .ro, 0, .n, [], false⟩]⟩]

/-- The registers of the block at 0x80000. -/
def regsLnk : List RegRow := [
  ⟨0x80000, [], [⟨1, 1, .rw1s, 0, .n, [], false⟩, ⟨0, 0, .rw, 0, .w, [], false⟩]⟩,
  ⟨0x80004, [], [⟨31, 28, .ro, 0xF, .n, [], false⟩, ⟨27, 24, .ro, 0xF, .n, [], false⟩, ⟨23, 20, .ro, 0xF, .n, [], false⟩, ⟨19, 16, .ro, 0xF, .n, [], false⟩, ⟨9, 9, .ro, 0, .n, [], false⟩, ⟨8, 8, .ro, 0, .n, [], false⟩, ⟨2, 0, .ro, 0, .n, [], false⟩]⟩,
  ⟨0x80008, [], [⟨31, 16, .ro, 0, .n, [], false⟩, ⟨15, 8, .ro, 0xFF, .n, [], false⟩, ⟨3, 0, .ro, 0, .n, [], false⟩]⟩,
  ⟨0x80010, [], [⟨31, 16, .rw, 0x1388, .w, [], false⟩, ⟨15, 0, .rw, 0, .w, [], false⟩]⟩,
  ⟨0x80014, [], [⟨31, 16, .rw, 0x7D0, .w, [], false⟩, ⟨9, 0, .rw, 0x14, .w, [], false⟩]⟩,
  ⟨0x80018, [], [⟨16, 16, .ro, 0, .n, [], false⟩, ⟨15, 8, .ro, 0, .n, [], false⟩, ⟨7, 0, .rw, 0, .w, [], false⟩]⟩,
  ⟨0x8001C, [], [⟨15, 12, .rw, 0xF, .w, [(0, 4), (15, 15)], false⟩, ⟨11, 8, .rw, 0xF, .w, [(0, 4), (15, 15)], false⟩, ⟨7, 4, .rw, 0xF, .w, [(0, 4), (15, 15)], false⟩, ⟨3, 0, .rw, 0xF, .w, [(0, 4), (15, 15)], false⟩]⟩,
  ⟨0x80020, [], [⟨31, 24, .ro, 0, .n, [], false⟩, ⟨23, 16, .ro, 0, .n, [], false⟩, ⟨7, 0, .ro, 0, .n, [], false⟩]⟩,
  ⟨0x80024, [], [⟨31, 24, .ro, 0, .n, [], false⟩, ⟨23, 16, .ro, 0, .n, [], false⟩, ⟨7, 0, .ro, 0, .n, [], false⟩]⟩,
  ⟨0x80030, [], [⟨31, 16, .rw, 0, .n, [], false⟩, ⟨11, 10, .rw, 2, .n, [(0, 2)], false⟩, ⟨9, 9, .rw, 0, .n, [], false⟩, ⟨8, 8, .rw, 0, .n, [], false⟩, ⟨5, 4, .rw, 0, .n, [], false⟩, ⟨0, 0, .rw1s, 0, .n, [], false⟩]⟩,
  ⟨0x80038, [], [⟨31, 0, .ro, 0, .n, [], false⟩]⟩,
  ⟨0x8003C, [], [⟨31, 0, .ro, 0, .n, [], false⟩]⟩,
  ⟨0x80040, [], [⟨7, 4, .rw, 4, .n, [(0, 8)], false⟩, ⟨1, 1, .w1c, 0, .n, [], false⟩, ⟨0, 0, .rw1s, 0, .n, [], false⟩]⟩,
  ⟨0x80044, [], [⟨31, 0, .rw, 0, .n, [], false⟩]⟩,
  ⟨0x80100, [(44, 4)], [⟨31, 16, .ro, 0, .n, [], false⟩, ⟨15, 10, .ro, 0, .n, [], false⟩, ⟨9, 5, .ro, 0, .n, [], false⟩, ⟨4, 4, .ro, 0, .n, [], false⟩, ⟨3, 3, .ro, 0, .n, [], false⟩, ⟨2, 2, .ro, 0, .n, [], false⟩, ⟨1, 1, .ro, 0, .n, [], false⟩, ⟨0, 0, .ro, 0, .n, [], false⟩]⟩,
  ⟨0x80200, [(44, 4)], [⟨31, 28, .rw, 3, .w, [], false⟩, ⟨27, 24, .rw, 6, .w, [], false⟩, ⟨20, 16, .rw, 0xB, .w, [], false⟩, ⟨13, 8, .rw, 0x30, .w, [(16, 63)], false⟩, ⟨3, 0, .rw, 4, .w, [], false⟩]⟩,
  ⟨0x80300, [(44, 4)], [⟨31, 0, .ro, 0, .n, [], false⟩]⟩]

/-- The registers of the block at 0xA0000. -/
def regsQue : List RegRow := [
  ⟨0xA0000, [], [⟨1, 1, .rw1s, 0, .n, [], false⟩, ⟨0, 0, .rw, 0, .w, [], false⟩]⟩,
  ⟨0xA0004, [], [⟨31, 16, .ro, 0, .n, [], false⟩, ⟨3, 3, .ro, 0, .n, [], false⟩, ⟨2, 2, .ro, 0, .n, [], false⟩, ⟨1, 0, .ro, 0, .n, [], false⟩]⟩,
  ⟨0xA0008, [], [⟨31, 0, .rw1s, 0, .n, [], false⟩]⟩,
  ⟨0xA0010, [], [⟨31, 16, .ro, 0, .n, [], false⟩, ⟨15, 0, .ro, 0, .n, [], false⟩]⟩,
  ⟨0xA0014, [], [⟨31, 16, .ro, 0, .n, [], false⟩, ⟨15, 0, .ro, 0, .n, [], false⟩]⟩,
  ⟨0xA0018, [], [⟨31, 16, .ro, 0, .n, [], false⟩, ⟨15, 0, .ro, 0, .n, [], false⟩]⟩,
  ⟨0xA0100, [(40, 4)], [⟨31, 0, .ro, 0, .n, [], false⟩]⟩,
  ⟨0xA1000, [(32, 0x20)], [⟨27, 27, .ro, 0, .n, [], false⟩, ⟨26, 26, .rw, 0, .w, [], false⟩, ⟨25, 24, .rw, 0, .w, [(0, 2)], false⟩, ⟨23, 0, .rw, 0, .w, [], false⟩]⟩,
  ⟨0xA1004, [(32, 0x20)], [⟨31, 31, .w1c, 0, .n, [], false⟩, ⟨23, 0, .rw, 0, .w, [], false⟩]⟩,
  ⟨0xA1008, [(32, 0x20)], [⟨23, 0, .ro, 0, .n, [], false⟩]⟩,
  ⟨0xA100C, [(32, 0x20)], [⟨23, 0, .ro, 0, .n, [], false⟩]⟩,
  ⟨0xA1010, [(32, 0x20)], [⟨23, 0, .ro, 0, .n, [], false⟩]⟩,
  ⟨0xA1014, [(32, 0x20)], [⟨31, 16, .ro, 0, .n, [], false⟩, ⟨15, 0, .ro, 0, .n, [], false⟩]⟩,
  ⟨0xA1018, [(32, 0x20)], [⟨31, 16, .ro, 0, .n, [], false⟩, ⟨15, 0, .ro, 0, .n, [], false⟩]⟩,
  ⟨0xA101C, [(32, 0x20)], [⟨31, 16, .ro, 0, .n, [], false⟩, ⟨15, 0, .ro, 0, .n, [], false⟩]⟩]

/-- The registers of the block at 0xB0000. -/
def regsDma : List RegRow := [
  ⟨0xB0000, [], [⟨31, 0, .ro, 0, .n, [], false⟩]⟩,
  ⟨0xB0004, [], [⟨31, 0, .ro, 0, .n, [], false⟩]⟩,
  ⟨0xB1000, [(32, 0x40)], [⟨7, 6, .rw, 0, .w, [], false⟩, ⟨4, 4, .w1c, 0, .n, [], false⟩, ⟨3, 3, .rw1s, 0, .n, [], false⟩, ⟨2, 2, .rw1s, 0, .n, [], false⟩, ⟨1, 1, .rw, 0, .n, [], false⟩, ⟨0, 0, .rw1s, 0, .n, [], false⟩]⟩,
  ⟨0xB1004, [(32, 0x40)], [⟨27, 24, .ro, 0, .n, [], false⟩, ⟨23, 23, .ro, 0, .n, [], false⟩, ⟨22, 22, .ro, 0, .n, [], false⟩, ⟨7, 7, .w1c, 0, .n, [], false⟩, ⟨6, 6, .w1c, 0, .n, [], false⟩, ⟨5, 5, .w1c, 0, .n, [], false⟩, ⟨2, 0, .ro, 0, .n, [], false⟩]⟩,
  ⟨0xB1008, [(32, 0x40)], [⟨31, 5, .rw, 0, .n, [], false⟩]⟩,
  ⟨0xB100C, [(32, 0x40)], [⟨31, 0, .ro, 0, .n, [], false⟩]⟩,
  ⟨0xB1010, [(32, 0x40)], [⟨31, 0, .ro, 0, .n, [], false⟩]⟩,
  ⟨0xB1014, [(32, 0x40)], [⟨23, 0, .ro, 0, .n, [], false⟩]⟩,
  ⟨0xB1018, [(32, 0x40)], [⟨15, 0, .rw, 0x1000, .w, [], false⟩]⟩,
  ⟨0xB101C, [(32, 0x40)], [⟨16, 0, .ro, 0, .n, [], false⟩]⟩,
  ⟨0xB1020, [(32, 0x40)], [⟨31, 0, .ro, 0, .n, [], false⟩]⟩,
  ⟨0xB1024, [(32, 0x40)], [⟨31, 0, .ro, 0, .n, [], false⟩]⟩,
  ⟨0xB1028, [(32, 0x40)], [⟨31, 0, .ro, 0, .n, [], false⟩]⟩]

/-- The registers of the block at 0xC0000. -/
def regsCst : List RegRow := [
  ⟨0xC0000, [], [⟨2, 2, .ro, 0, .n, [], false⟩, ⟨1, 1, .ro, 0, .n, [], false⟩, ⟨0, 0, .ro, 0, .n, [], false⟩]⟩,
  ⟨0xC0008, [], [⟨31, 0, .ro, 0, .n, [], false⟩]⟩,
  ⟨0xC000C, [], [⟨31, 0, .ro, 0, .n, [], false⟩]⟩,
  ⟨0xC0010, [], [⟨31, 0, .ro, 0, .n, [], false⟩]⟩,
  ⟨0xC0014, [], [⟨15, 0, .ro, 0, .n, [], false⟩]⟩,
  ⟨0xC0018, [], [⟨31, 0, .ro, 0, .n, [], false⟩]⟩,
  ⟨0xC001C, [], [⟨31, 31, .w1c, 0, .n, [], false⟩, ⟨3, 0, .ro, 0, .n, [], false⟩]⟩,
  ⟨0xC0020, [], [⟨29, 28, .rw, 0, .n, [(0, 2)], false⟩, ⟨26, 3, .rw, 0, .n, [], false⟩]⟩,
  ⟨0xC0030, [], [⟨31, 16, .rw, 0x5A0, .s, [], false⟩, ⟨1, 1, .w1c, 0, .n, [], false⟩, ⟨0, 0, .rw1s, 0, .n, [], false⟩]⟩,
  ⟨0xC0034, [], [⟨31, 16, .ro, 0, .n, [], false⟩, ⟨15, 0, .ro, 0, .n, [], false⟩]⟩,
  ⟨0xC0038, [], [⟨15, 0, .ro, 0, .n, [], false⟩]⟩,
  ⟨0xC0040, [], [⟨31, 0, .rw, 3, .s, [], false⟩]⟩,
  ⟨0xC0044, [], [⟨31, 0, .rw, 0, .s, [], false⟩]⟩,
  ⟨0xC0048, [], [⟨31, 0, .w1c, 0, .n, [], false⟩]⟩,
  ⟨0xC004C, [], [⟨31, 0, .w1c, 0, .n, [], false⟩]⟩,
  ⟨0xC0100, [(64, 4)], [⟨31, 0, .ro, 0, .p, [], false⟩]⟩,
  ⟨0xC1000, [(64, 0x10), (4, 4)], [⟨31, 0, .ro, 0, .s, [], false⟩]⟩]

/-- The registers of the block at 0xD0000. -/
def regsAtm : List RegRow := [
  ⟨0xD0000, [], [⟨11, 8, .rw, 0, .w, [(0, 10)], false⟩, ⟨1, 1, .rw, 0, .w, [], false⟩, ⟨0, 0, .rw1s, 0, .n, [], false⟩]⟩,
  ⟨0xD0004, [], [⟨31, 16, .rw, 0x7D0, .w, [], false⟩, ⟨11, 4, .rw, 1, .w, [], false⟩, ⟨1, 0, .rw, 0, .w, [], false⟩]⟩,
  ⟨0xD0008, [], [⟨31, 16, .ro, 0, .n, [], false⟩, ⟨15, 8, .ro, 0, .n, [], false⟩, ⟨2, 2, .ro, 0, .n, [], false⟩, ⟨1, 0, .ro, 0, .n, [], false⟩]⟩,
  ⟨0xD000C, [], [⟨31, 0, .ro, 0, .n, [], false⟩]⟩,
  ⟨0xD0010, [], [⟨31, 0, .ro, 0, .w, [], false⟩]⟩,
  ⟨0xD0014, [], [⟨31, 0, .ro, 0, .w, [], false⟩]⟩,
  ⟨0xD0018, [], [⟨31, 0, .rw, 0, .n, [], false⟩]⟩,
  ⟨0xD001C, [], [⟨31, 0, .rw, 0, .n, [], false⟩]⟩,
  ⟨0xD0020, [], [⟨20, 17, .ro, 0, .n, [], false⟩, ⟨16, 10, .ro, 0, .n, [], false⟩, ⟨9, 0, .ro, 0, .n, [], false⟩]⟩,
  ⟨0xD0024, [], [⟨31, 31, .w1c, 0, .n, [], false⟩, ⟨3, 0, .ro, 0, .n, [], false⟩]⟩,
  ⟨0xD0028, [], [⟨31, 16, .rw, 0x3E8, .w, [], false⟩, ⟨15, 0, .rw, 0x50, .w, [], false⟩]⟩,
  ⟨0xD0040, [(10, 4)], [⟨31, 16, .ro, 0, .n, [], false⟩, ⟨15, 0, .ro, 0, .n, [], false⟩]⟩,
  ⟨0xD0070, [], [⟨31, 16, .ro, 0, .n, [], false⟩, ⟨15, 0, .ro, 0, .n, [], false⟩]⟩,
  ⟨0xD0080, [], [⟨15, 8, .rw, 0, .w, [], false⟩, ⟨5, 4, .rw, 1, .w, [], false⟩, ⟨1, 1, .ro, 0, .w, [], false⟩, ⟨0, 0, .rw1s, 0, .n, [], false⟩]⟩,
  ⟨0xD0084, [], [⟨15, 8, .ro, 0, .n, [], false⟩, ⟨7, 0, .ro, 0, .n, [], false⟩]⟩,
  ⟨0xD0090, [], [⟨11, 8, .w1c, 0, .n, [], false⟩, ⟨5, 4, .ro, 0, .n, [], false⟩, ⟨1, 1, .ro, 0, .n, [], false⟩, ⟨0, 0, .ro, 0, .n, [], false⟩]⟩,
  ⟨0xD00A0, [(4, 0x10)], [⟨31, 0, .rw, 0, .w, [], false⟩]⟩,
  ⟨0xD00A4, [(4, 0x10)], [⟨31, 0, .rw, 0, .w, [], false⟩]⟩,
  ⟨0xD00A8, [(4, 0x10)], [⟨31, 31, .rw, 0, .w, [], false⟩, ⟨15, 0, .rw, 0, .w, [], false⟩]⟩,
  ⟨0xD1000, [(2, 0x1000), (1024, 4)], [⟨31, 0, .rw, 0, .w, [], false⟩]⟩]

/-- The registers of the block at 0xE0000. -/
def regsBmb : List RegRow := [
  ⟨0xE0000, [], [⟨13, 0, .rw, 0, .w, [(0, 8192)], false⟩]⟩,
  ⟨0xE0004, [], [⟨31, 0, .rw, 0, .n, [], false⟩]⟩,
  ⟨0xE0008, [], [⟨16, 8, .rw, 0, .n, [(0, 256)], false⟩, ⟨1, 1, .w1c, 0, .n, [], false⟩, ⟨0, 0, .rw1s, 0, .n, [], false⟩]⟩,
  ⟨0xE000C, [], [⟨16, 10, .rw, 0, .n, [], false⟩, ⟨9, 0, .rw, 0, .n, [], false⟩]⟩,
  ⟨0xE0010, [], [⟨31, 16, .ro, 0, .n, [], false⟩, ⟨4, 4, .w1c, 0, .n, [], false⟩, ⟨3, 3, .w1c, 0, .n, [], false⟩, ⟨2, 0, .ro, 0, .n, [], false⟩]⟩,
  ⟨0xE8000, [(8192, 4)], [⟨11, 8, .rw, 0, .w, [], false⟩, ⟨1, 0, .rw, 0, .w, [], false⟩]⟩]

/-- The registers of the block at 0x100000. -/
def regsDlc : List RegRow := [
  ⟨0x100000, [], [⟨2, 2, .rw1s, 0, .n, [], false⟩, ⟨1, 1, .rw1s, 0, .n, [], false⟩, ⟨0, 0, .rw1s, 0, .n, [], false⟩]⟩,
  ⟨0x100004, [], [⟨11, 8, .ro, 0, .n, [], false⟩, ⟨4, 4, .w1c, 0, .n, [], false⟩, ⟨3, 3, .ro, 0, .w, [], false⟩, ⟨1, 1, .ro, 0, .n, [], false⟩, ⟨0, 0, .ro, 0, .w, [], false⟩]⟩,
  ⟨0x100008, [], [⟨23, 0, .ro, 0, .n, [], false⟩]⟩,
  ⟨0x100010, [], [⟨31, 16, .ro, 0, .n, [], false⟩, ⟨15, 0, .ro, 0, .n, [], false⟩]⟩,
  ⟨0x100014, [], [⟨31, 16, .ro, 0, .n, [], false⟩, ⟨15, 0, .ro, 0, .n, [], false⟩]⟩,
  ⟨0x100018, [], [⟨31, 16, .ro, 0, .n, [], false⟩, ⟨15, 0, .ro, 0, .n, [], false⟩]⟩,
  ⟨0x100100, [(8, 0x10)], [⟨31, 31, .rw, 0, .w, [], false⟩, ⟨27, 20, .rw, 0, .w, [], false⟩, ⟨19, 18, .rw, 0, .w, [], false⟩, ⟨17, 16, .rw, 0, .w, [], false⟩, ⟨14, 9, .rw, 0, .w, [(0, 32)], false⟩, ⟨8, 0, .rw, 0, .w, [(0, 273)], false⟩]⟩,
  ⟨0x100104, [(8, 0x10)], [⟨8, 8, .rw, 0, .w, [], false⟩, ⟨7, 0, .rw, 0, .w, [], false⟩]⟩,
  ⟨0x100108, [(8, 0x10)], [⟨31, 0, .rw, 0, .w, [], false⟩]⟩,
  ⟨0x10010C, [(8, 0x10)], [⟨10, 0, .rw, 0, .w, [(0, 2000)], false⟩]⟩,
  ⟨0x101000, [(64, 0x10)], [⟨31, 31, .ro, 0, .n, [], false⟩, ⟨8, 0, .rw, 0, .w, [(0, 503)], false⟩]⟩,
  ⟨0x101004, [(64, 0x10)], [⟨31, 16, .ro, 0, .n, [], false⟩, ⟨15, 0, .ro, 0, .n, [], false⟩]⟩,
  ⟨0x101008, [(64, 0x10)], [⟨31, 16, .ro, 0, .n, [], false⟩, ⟨15, 0, .ro, 0, .n, [], false⟩]⟩,
  ⟨0x120000, [(64, 0x100), (2, 0x40), (8, 4)], [⟨31, 0, .rw, 0, .w, [], false⟩]⟩,
  ⟨0x120020, [(64, 0x100), (2, 0x40)], [⟨31, 0, .rw, 0, .w, [], false⟩]⟩]

/-- The registers of the block at 0x140000. -/
def regsUlc : List RegRow := [
  ⟨0x140000, [], [⟨2, 2, .rw1s, 0, .n, [], false⟩, ⟨1, 1, .rw1s, 0, .n, [], false⟩, ⟨0, 0, .rw1s, 0, .n, [], false⟩]⟩,
  ⟨0x140004, [], [⟨11, 8, .ro, 0, .n, [], false⟩, ⟨4, 4, .w1c, 0, .n, [], false⟩, ⟨3, 3, .ro, 0, .w, [], false⟩, ⟨1, 1, .ro, 0, .n, [], false⟩, ⟨0, 0, .ro, 0, .w, [], false⟩]⟩,
  ⟨0x140008, [], [⟨23, 0, .ro, 0, .n, [], false⟩]⟩,
  ⟨0x14000C, [], [⟨15, 0, .rw, 0, .w, [], false⟩]⟩,
  ⟨0x140010, [], [⟨31, 16, .ro, 0, .n, [], false⟩, ⟨15, 0, .ro, 0, .n, [], false⟩]⟩,
  ⟨0x140014, [], [⟨31, 16, .ro, 0, .n, [], false⟩, ⟨15, 0, .ro, 0, .n, [], false⟩]⟩,
  ⟨0x140018, [], [⟨31, 16, .ro, 0, .n, [], false⟩, ⟨15, 0, .ro, 0, .n, [], false⟩]⟩,
  ⟨0x14001C, [], [⟨15, 0, .ro, 0, .n, [], false⟩]⟩,
  ⟨0x140020, [], [⟨15, 0, .ro, 0, .n, [], false⟩]⟩,
  ⟨0x140100, [(8, 0x20)], [⟨31, 31, .rw, 0, .w, [], false⟩, ⟨27, 20, .rw, 0, .w, [], false⟩, ⟨19, 18, .rw, 0, .w, [], false⟩, ⟨17, 16, .rw, 0, .w, [], false⟩, ⟨14, 9, .rw, 0, .w, [(0, 32)], false⟩, ⟨8, 0, .rw, 0, .w, [(0, 273)], false⟩]⟩,
  ⟨0x140104, [(8, 0x20)], [⟨14, 12, .rw, 2, .w, [], false⟩, ⟨9, 9, .rw, 0, .w, [], false⟩, ⟨8, 0, .rw, 0, .w, [], false⟩]⟩,
  ⟨0x140108, [(8, 0x20)], [⟨31, 0, .rw, 0, .w, [], false⟩]⟩,
  ⟨0x14010C, [(8, 0x20)], [⟨3, 3, .rw1s, 0, .n, [], false⟩, ⟨2, 2, .rw, 0, .n, [], false⟩, ⟨1, 1, .ro, 0, .w, [], false⟩, ⟨0, 0, .rw, 0, .w, [], false⟩]⟩,
  ⟨0x140110, [(8, 0x20)], [⟨31, 0, .rw, 0, .n, [], false⟩]⟩,
  ⟨0x140200, [(4, 0x20)], [⟨31, 31, .rw, 0, .w, [], false⟩, ⟨30, 28, .rw, 0, .w, [], false⟩, ⟨27, 26, .rw, 0, .w, [], false⟩, ⟨25, 25, .rw, 0, .w, [], false⟩, ⟨24, 24, .rw, 0, .w, [], false⟩, ⟨23, 20, .rw, 1, .w, [(0, 12)], false⟩, ⟨19, 16, .rw, 1, .w, [(0, 8)], false⟩, ⟨10, 8, .rw, 2, .w, [], false⟩]⟩,
  ⟨0x140204, [(4, 0x20)], [⟨31, 24, .rw, 0, .w, [], false⟩, ⟨23, 16, .rw, 0, .w, [], false⟩, ⟨15, 0, .rw, 0, .w, [], false⟩]⟩,
  ⟨0x140208, [(4, 0x20)], [⟨31, 0, .rw, 0, .w, [], false⟩]⟩,
  ⟨0x14020C, [(4, 0x20), (4, 4)], [⟨28, 16, .rw, 0, .w, [], false⟩, ⟨12, 0, .rw, 0, .w, [], false⟩]⟩,
  ⟨0x14021C, [(4, 0x20)], [⟨31, 16, .ro, 0, .n, [], false⟩, ⟨15, 8, .ro, 0, .n, [], false⟩, ⟨3, 0, .ro, 0, .n, [], false⟩]⟩,
  ⟨0x141000, [(64, 0x20)], [⟨31, 31, .ro, 0, .n, [], false⟩, ⟨8, 0, .rw, 0, .w, [(0, 503)], false⟩]⟩,
  ⟨0x141004, [(64, 0x20)], [⟨31, 16, .ro, 0, .n, [], false⟩, ⟨15, 0, .ro, 0, .n, [], false⟩]⟩,
  ⟨0x141008, [(64, 0x20)], [⟨6, 6, .rw, 0, .w, [], false⟩, ⟨5, 5, .rw, 0, .w, [], false⟩, ⟨4, 0, .rw, 0xC, .w, [(6, 20)], false⟩]⟩,
  ⟨0x14100C, [(64, 0x20)], [⟨24, 16, .rw, 0, .w, [], false⟩, ⟨12, 4, .rw, 0x1FF, .w, [], false⟩, ⟨3, 0, .rw, 4, .w, [], false⟩]⟩,
  ⟨0x141010, [(64, 0x20)], [⟨31, 28, .ro, 0, .n, [], false⟩, ⟨10, 10, .ro, 0, .n, [], false⟩, ⟨9, 9, .ro, 0, .n, [], false⟩, ⟨8, 0, .ro, 0x1FF, .n, [], false⟩]⟩] ++ [
  ⟨0x141014, [(64, 0x20)], [⟨31, 0, .ro, 0, .n, [], false⟩]⟩,
  ⟨0x141018, [(64, 0x20)], [⟨31, 0, .ro, 0, .n, [], false⟩]⟩,
  ⟨0x160000, [(64, 0x100), (2, 0x40), (8, 4)], [⟨31, 0, .rw, 0, .w, [], false⟩]⟩,
  ⟨0x160020, [(64, 0x100), (2, 0x40)], [⟨31, 0, .rw, 0, .w, [], false⟩]⟩,
  ⟨0x144000, [(8, 0x200), (2, 0x100), (48, 4)], [⟨17, 0, .rw, 0, .w, [], false⟩]⟩]

/-- The registers of the block at 0x180000. -/
def regsLin : List RegRow := [
  ⟨0x180000, [], [⟨2, 2, .rw1s, 0, .n, [], false⟩, ⟨1, 1, .rw1s, 0, .n, [], false⟩]⟩,
  ⟨0x180004, [], [⟨0, 0, .ro, 0, .n, [], false⟩]⟩,
  ⟨0x180010, [(2, 0x10)], [⟨31, 16, .rw, 0, .w, [], false⟩, ⟨15, 0, .rw, 0, .w, [], false⟩]⟩,
  ⟨0x180014, [(2, 0x10)], [⟨15, 0, .rw, 0, .w, [], false⟩]⟩,
  ⟨0x180018, [(2, 0x10)], [⟨31, 16, .rw, 0, .w, [], false⟩, ⟨15, 0, .rw, 0x190, .w, [], false⟩]⟩,
  ⟨0x180040, [], [⟨11, 8, .rw, 4, .n, [], false⟩, ⟨7, 4, .rw, 1, .n, [], false⟩, ⟨2, 2, .rw1s, 0, .n, [], false⟩, ⟨1, 1, .w1c, 0, .n, [], false⟩, ⟨0, 0, .rw1s, 0, .n, [], false⟩]⟩,
  ⟨0x180044, [], [⟨31, 0, .rw, 0, .n, [], false⟩]⟩,
  ⟨0x180048, [], [⟨31, 0, .rw, 0, .n, [], false⟩]⟩,
  ⟨0x18004C, [], [⟨31, 0, .rw, 0, .n, [], false⟩]⟩,
  ⟨0x188000, [(2, 0x1000), (4, 0x400), (255, 4)], [⟨31, 0, .rw, 0, .n, [], false⟩]⟩,
  ⟨0x190000, [(8, 0x1000)], [⟨31, 16, .rw, 0, .w, [], false⟩, ⟨15, 8, .rw, 0, .w, [], false⟩, ⟨7, 4, .rw, 0, .w, [], false⟩, ⟨3, 3, .rw, 0, .w, [], false⟩, ⟨2, 2, .rw, 0, .w, [], false⟩, ⟨1, 0, .rw, 0, .w, [(0, 2)], false⟩]⟩,
  ⟨0x190004, [(8, 0x1000)], [⟨31, 16, .rw, 0x80, .w, [], false⟩, ⟨5, 4, .rw, 2, .w, [(0, 2)], false⟩]⟩,
  ⟨0x190008, [(8, 0x1000)], [⟨23, 0, .rw, 0xFAC688, .w, [], false⟩]⟩,
  ⟨0x190010, [(8, 0x1000)], [⟨31, 16, .ro, 0, .n, [], false⟩, ⟨15, 8, .ro, 0, .n, [], false⟩, ⟨1, 1, .ro, 0, .n, [], false⟩, ⟨0, 0, .ro, 0, .n, [], false⟩]⟩,
  ⟨0x190014, [(8, 0x1000)], [⟨31, 16, .ro, 0, .n, [], false⟩, ⟨12, 12, .ro, 0, .n, [], false⟩, ⟨9, 8, .ro, 0, .n, [], false⟩, ⟨2, 0, .ro, 0, .n, [], false⟩]⟩,
  ⟨0x190018, [(8, 0x1000)], [⟨31, 0, .ro, 0, .n, [], false⟩]⟩,
  ⟨0x19001C, [(8, 0x1000)], [⟨31, 0, .ro, 0, .n, [], false⟩]⟩,
  ⟨0x190020, [(8, 0x1000)], [⟨31, 0, .ro, 0, .n, [], false⟩]⟩,
  ⟨0x190024, [(8, 0x1000)], [⟨31, 0, .ro, 0, .n, [], false⟩]⟩,
  ⟨0x190030, [(8, 0x1000)], [⟨8, 8, .rw, 1, .w, [], false⟩, ⟨6, 0, .rw, 0, .w, [(0, 96)], false⟩]⟩,
  ⟨0x190034, [(8, 0x1000)], [⟨31, 0, .rw, 0, .w, [], false⟩]⟩,
  ⟨0x190038, [(8, 0x1000)], [⟨31, 16, .ro, 0, .n, [], false⟩, ⟨4, 4, .ro, 0, .n, [], false⟩, ⟨3, 0, .ro, 0, .n, [], false⟩]⟩,
  ⟨0x190040, [(8, 0x1000)], [⟨10, 10, .w1c, 0, .n, [], false⟩, ⟨9, 9, .rw1s, 0, .n, [], false⟩, ⟨8, 8, .rw, 0, .n, [], false⟩, ⟨5, 4, .rw, 0, .n, [], false⟩, ⟨3, 3, .rw, 0, .n, [], false⟩, ⟨2, 0, .rw, 0, .n, [], false⟩]⟩,
  ⟨0x190044, [(8, 0x1000)], [⟨31, 0, .rw, 0, .n, [], false⟩]⟩] ++ [
  ⟨0x190048, [(8, 0x1000)], [⟨31, 16, .ro, 0, .n, [], false⟩, ⟨7, 4, .ro, 0, .n, [], false⟩, ⟨0, 0, .ro, 0, .n, [], false⟩]⟩,
  ⟨0x190050, [(8, 0x1000)], [⟨17, 17, .w1c, 0, .n, [], false⟩, ⟨16, 16, .rw1s, 0, .n, [], false⟩, ⟨9, 8, .rw, 0, .n, [], false⟩, ⟨7, 0, .rw, 0, .n, [], false⟩]⟩,
  ⟨0x190054, [(8, 0x1000)], [⟨31, 0, .ro, 0, .n, [], false⟩]⟩,
  ⟨0x190060, [(8, 0x1000)], [⟨12, 8, .rw, 0xA, .w, [], false⟩, ⟨4, 0, .rw, 0, .w, [], true⟩]⟩,
  ⟨0x190064, [(8, 0x1000)], [⟨31, 31, .ro, 0, .n, [], false⟩, ⟨15, 0, .ro, 0, .n, [], false⟩]⟩,
  ⟨0x190F00, [(8, 0x1000)], [⟨31, 0, .ro, 0, .n, [], false⟩]⟩,
  ⟨0x190800, [(8, 0x1000), (96, 4)], [⟨11, 9, .rw, 0, .w, [], false⟩, ⟨8, 4, .rw, 0, .w, [], false⟩, ⟨3, 0, .rw, 0, .w, [], false⟩]⟩,
  ⟨0x1A0000, [(64, 0x40)], [⟨5, 5, .rw, 0, .w, [], false⟩, ⟨4, 3, .rw, 0, .w, [], false⟩, ⟨2, 2, .rw, 0, .w, [], false⟩, ⟨0, 0, .rw, 0, .w, [], false⟩]⟩,
  ⟨0x1A0004, [(64, 0x40)], [⟨24, 16, .rw, 0x96, .w, [(0, 400)], false⟩, ⟨6, 0, .rw, 0x50, .w, [(70, 90)], false⟩]⟩,
  ⟨0x1A0008, [(64, 0x40)], [⟨21, 16, .rw, 0x3F, .w, [], false⟩, ⟨11, 0, .rw, 0, .w, [(0, 300), (2596, 4095)], false⟩]⟩,
  ⟨0x1A000C, [(64, 0x40)], [⟨31, 31, .rw, 0, .w, [], false⟩, ⟨30, 30, .rw1s, 0, .n, [], false⟩, ⟨29, 24, .rw, 0x28, .w, [], false⟩, ⟨22, 20, .rw, 2, .w, [], false⟩, ⟨19, 12, .rw, 0xA, .w, [], false⟩, ⟨9, 0, .rw, 0xFA, .w, [(0, 500)], false⟩]⟩,
  ⟨0x1A0010, [(64, 0x40)], [⟨15, 0, .rw, 0, .w, [], false⟩]⟩,
  ⟨0x1A0014, [(64, 0x40)], [⟨31, 16, .ro, 0, .n, [], false⟩, ⟨15, 15, .ro, 0, .n, [], false⟩, ⟨10, 0, .ro, 0, .w, [], false⟩]⟩,
  ⟨0x1A0018, [(64, 0x40)], [⟨15, 15, .ro, 0, .n, [], false⟩, ⟨11, 0, .ro, 0, .n, [], false⟩]⟩,
  ⟨0x1A001C, [(64, 0x40)], [⟨11, 0, .rw, 0, .w, [], false⟩]⟩,
  ⟨0x1A0020, [(64, 0x40)], [⟨31, 16, .ro, 0, .n, [], false⟩, ⟨15, 0, .ro, 0, .n, [], false⟩]⟩,
  ⟨0x1A0024, [(64, 0x40)], [⟨31, 16, .ro, 0, .n, [], false⟩, ⟨15, 0, .ro, 0, .n, [], false⟩]⟩,
  ⟨0x1A0028, [(64, 0x40)], [⟨31, 16, .ro, 0, .n, [], false⟩, ⟨15, 0, .ro, 0, .n, [], false⟩]⟩]

/-- The registers of the block at 0x1C0000. -/
def regsSfd : List RegRow := [
  ⟨0x1C0000, [], [⟨2, 2, .rw1s, 0, .n, [], false⟩, ⟨1, 1, .rw1s, 0, .n, [], false⟩, ⟨0, 0, .rw, 0, .w, [], false⟩]⟩,
  ⟨0x1C0004, [], [⟨11, 8, .ro, 0, .n, [], false⟩, ⟨4, 4, .w1c, 0, .n, [], false⟩, ⟨1, 1, .ro, 0, .n, [], false⟩, ⟨0, 0, .ro, 0, .w, [], false⟩]⟩,
  ⟨0x1C0010, [], [⟨30, 28, .rw, 0, .w, [], false⟩, ⟨25, 24, .rw, 0, .w, [], false⟩, ⟨20, 20, .rw, 0, .w, [], false⟩, ⟨9, 0, .rw, 0, .w, [], false⟩]⟩,
  ⟨0x1C0014, [], [⟨24, 16, .rw, 0, .w, [], false⟩, ⟨8, 0, .rw, 0, .w, [], false⟩]⟩,
  ⟨0x1C0018, [], [⟨13, 8, .rw, 0, .w, [], false⟩, ⟨5, 0, .rw, 0, .w, [], false⟩]⟩,
  ⟨0x1C001C, [], [⟨31, 0, .ro, 0, .w, [], false⟩]⟩,
  ⟨0x1C0040, [], [⟨10, 10, .w1c, 0, .n, [], false⟩, ⟨9, 9, .rw1s, 0, .n, [], false⟩, ⟨8, 8, .rw, 0, .n, [], false⟩, ⟨3, 0, .rw, 0, .n, [], false⟩]⟩,
  ⟨0x1C0044, [], [⟨31, 0, .rw, 0, .n, [], false⟩]⟩,
  ⟨0x1C0048, [], [⟨31, 16, .ro, 0, .n, [], false⟩, ⟨7, 4, .ro, 0, .n, [], false⟩, ⟨1, 0, .ro, 0, .n, [], false⟩]⟩,
  ⟨0x1C0080, [(16, 4)], [⟨11, 8, .ro, 8, .n, [], false⟩, ⟨4, 0, .ro, 0, .n, [], true⟩]⟩,
  ⟨0x1C00C0, [], [⟨9, 9, .w1c, 0, .n, [], false⟩, ⟨8, 8, .rw1s, 0, .n, [], false⟩, ⟨4, 4, .rw, 1, .n, [], false⟩, ⟨3, 0, .rw, 0, .n, [], false⟩]⟩,
  ⟨0x1C00C4, [], [⟨31, 0, .rw, 0, .n, [], false⟩]⟩,
  ⟨0x1C00C8, [], [⟨31, 16, .ro, 0, .n, [], false⟩, ⟨7, 4, .ro, 0, .n, [], false⟩, ⟨0, 0, .ro, 0, .n, [], false⟩]⟩,
  ⟨0x1C0100, [], [⟨31, 16, .rw, 1, .n, [], false⟩, ⟨11, 8, .rw, 4, .n, [], false⟩, ⟨2, 2, .rw1s, 0, .n, [], false⟩, ⟨1, 1, .w1c, 0, .n, [], false⟩, ⟨0, 0, .rw1s, 0, .n, [], false⟩]⟩,
  ⟨0x1C0104, [], [⟨31, 0, .rw, 0, .n, [], false⟩]⟩,
  ⟨0x1C0200, [(8, 0x10)], [⟨31, 31, .rw, 1, .w, [], false⟩, ⟨23, 16, .rw, 4, .w, [], false⟩, ⟨8, 0, .rw, 0xC, .w, [], false⟩]⟩,
  ⟨0x1C0204, [(8, 0x10)], [⟨23, 16, .rw, 0x10, .w, [], false⟩, ⟨8, 0, .rw, 0xF0, .w, [], false⟩]⟩,
  ⟨0x1C0208, [(8, 0x10)], [⟨31, 16, .ro, 0, .n, [], false⟩, ⟨1, 1, .w1c, 0, .n, [], false⟩, ⟨0, 0, .ro, 0, .n, [], false⟩]⟩,
  ⟨0x1C1000, [(64, 8)], [⟨31, 28, .ro, 0, .n, [], false⟩, ⟨24, 16, .ro, 0x1FF, .n, [], false⟩, ⟨8, 0, .ro, 0x1FF, .n, [], false⟩]⟩,
  ⟨0x1C1004, [(64, 8)], [⟨31, 16, .ro, 0, .n, [], false⟩, ⟨15, 0, .ro, 0, .n, [], false⟩]⟩]

/-- The registers of the block at 0x200000. -/
def regsRfe : List RegRow := [
  ⟨0x200000, [(8, 0x10000)], [⟨8, 8, .ro, 0, .s, [], false⟩, ⟨0, 0, .rw, 0, .w, [], false⟩]⟩,
  ⟨0x200004, [(8, 0x10000)], [⟨1, 1, .ro, 0, .n, [], false⟩, ⟨0, 0, .rw, 0, .w, [], false⟩]⟩,
  ⟨0x200010, [(8, 0x10000), (2, 0x10)], [⟨18, 18, .rw1s, 0, .n, [], false⟩, ⟨17, 17, .w1c, 0, .n, [], false⟩, ⟨16, 16, .rw1s, 0, .n, [], false⟩, ⟨9, 0, .rw, 0, .w, [], false⟩]⟩,
  ⟨0x200014, [(8, 0x10000), (2, 0x10)], [⟨25, 16, .ro, 0, .n, [], false⟩, ⟨2, 0, .ro, 0, .n, [], false⟩]⟩,
  ⟨0x200018, [(8, 0x10000), (2, 0x10)], [⟨18, 18, .w1c, 0, .n, [], false⟩, ⟨17, 17, .ro, 0, .n, [], false⟩, ⟨16, 16, .rw1s, 0, .n, [], false⟩, ⟨15, 0, .rw, 0, .n, [], false⟩]⟩,
  ⟨0x20001C, [(8, 0x10000), (2, 0x10)], [⟨15, 0, .ro, 0, .w, [], false⟩]⟩,
  ⟨0x200030, [(8, 0x10000)], [⟨31, 16, .ro, 0, .n, [], false⟩, ⟨15, 0, .ro, 0, .n, [], false⟩]⟩,
  ⟨0x200034, [(8, 0x10000)], [⟨31, 16, .ro, 0, .n, [], false⟩, ⟨15, 0, .ro, 0, .n, [], false⟩]⟩,
  ⟨0x200040, [(8, 0x10000)], [⟨2, 0, .rw, 0, .w, [], false⟩]⟩,
  ⟨0x200044, [(8, 0x10000)], [⟨15, 0, .ro, 0, .n, [], false⟩]⟩,
  ⟨0x200080, [(8, 0x10000)], [⟨20, 16, .rw, 0, .n, [(0, 16)], false⟩, ⟨9, 8, .rw, 0, .w, [], false⟩, ⟨4, 4, .w1c, 0, .n, [], false⟩, ⟨3, 3, .rw1s, 0, .n, [], false⟩, ⟨2, 2, .ro, 0, .n, [], false⟩, ⟨0, 0, .rw1s, 0, .n, [], false⟩]⟩,
  ⟨0x200100, [(8, 0x10000), (16, 0x10)], [⟨31, 31, .rw, 0, .n, [], false⟩, ⟨30, 30, .rw, 0, .n, [], false⟩, ⟨25, 24, .rw, 0, .n, [], false⟩, ⟨19, 16, .rw, 0, .n, [], false⟩, ⟨7, 0, .rw, 0, .n, [], false⟩]⟩,
  ⟨0x200104, [(8, 0x10000), (16, 0x10)], [⟨31, 0, .rw, 0, .n, [], false⟩]⟩,
  ⟨0x200108, [(8, 0x10000), (16, 0x10)], [⟨31, 0, .rw, 0, .n, [], false⟩]⟩,
  ⟨0x20010C, [(8, 0x10000), (16, 0x10)], [⟨2, 2, .ro, 0, .n, [], false⟩, ⟨1, 1, .ro, 0, .n, [], false⟩, ⟨0, 0, .ro, 0, .n, [], false⟩]⟩,
  ⟨0x200400, [(8, 0x10000), (8, 0x20)], [⟨3, 0, .rw, 0xF, .w, [], false⟩]⟩,
  ⟨0x200404, [(8, 0x10000), (8, 0x20)], [⟨31, 31, .rw, 0, .w, [], false⟩, ⟨27, 16, .rw, 0x4CD, .w, [(0, 2400)], false⟩, ⟨11, 0, .rw, 0xF6, .w, [(0, 2400)], false⟩]⟩,
  ⟨0x200408, [(8, 0x10000), (8, 0x20)], [⟨27, 16, .rw, 0x3E, .w, [(0, 2400)], false⟩, ⟨11, 0, .rw, 0x267, .w, [(0, 2400)], false⟩]⟩,
  ⟨0x20040C, [(8, 0x10000), (8, 0x20)], [⟨31, 24, .rw, 0x7B, .w, [], false⟩, ⟨23, 16, .rw, 0x3E, .w, [], false⟩, ⟨15, 8, .rw, 0x7B, .w, [], false⟩, ⟨7, 0, .rw, 0x3E, .w, [], false⟩]⟩,
  ⟨0x200410, [(8, 0x10000), (8, 0x20)], [⟨31, 16, .ro, 0, .n, [], false⟩, ⟨15, 0, .ro, 0, .n, [], false⟩]⟩]

/-- The registers of the block at 0x280000. -/
def regsRfeCal : List RegRow := [
  ⟨0x280000, [], [⟨25, 16, .ro, 0, .n, [], false⟩, ⟨4, 4, .ro, 0, .n, [], false⟩, ⟨2, 0, .ro, 0, .n, [], false⟩]⟩]

/-- The registers of the block at 0x290000. -/
def regsSyt : List RegRow := [
  ⟨0x290000, [], [⟨7, 0, .ro, 0x30, .s, [], false⟩]⟩,
  ⟨0x290010, [], [⟨31, 24, .rw, 0x28, .w, [], false⟩, ⟨7, 0, .rw, 0xA, .w, [], false⟩]⟩,
  ⟨0x290014, [], [⟨15, 0, .ro, 0, .n, [], false⟩]⟩,
  ⟨0x2A0000, [(65536, 4)], [⟨31, 0, .rw, 0, .w, [], false⟩]⟩]

/-- The registers of the block at 0x300000. -/
def regsCal : List RegRow := [
  ⟨0x300000, [], [⟨23, 16, .ro, 0xFF, .n, [], false⟩, ⟨9, 9, .ro, 0, .n, [], false⟩, ⟨8, 8, .ro, 0, .n, [], false⟩, ⟨1, 0, .ro, 0, .n, [], false⟩]⟩,
  ⟨0x300004, [], [⟨31, 0, .ro, 0, .p, [], false⟩]⟩,
  ⟨0x300008, [], [⟨31, 0, .ro, 0, .p, [], false⟩]⟩,
  ⟨0x30000C, [], [⟨31, 0, .ro, 0, .p, [], false⟩]⟩,
  ⟨0x300020, [], [⟨21, 16, .rw, 0, .n, [], false⟩, ⟨7, 7, .rw, 0, .n, [], false⟩, ⟨6, 5, .rw, 0, .n, [(0, 2)], false⟩, ⟨4, 4, .rw, 0, .n, [], false⟩, ⟨2, 2, .rw1s, 0, .n, [], false⟩, ⟨1, 1, .w1c, 0, .n, [], false⟩, ⟨0, 0, .rw1s, 0, .n, [], false⟩]⟩,
  ⟨0x300024, [], [⟨31, 24, .rw, 0x80, .w, [(1, 255)], false⟩, ⟨20, 20, .rw, 0, .w, [], false⟩, ⟨19, 16, .rw, 4, .w, [], false⟩, ⟨13, 8, .rw, 0, .w, [], false⟩, ⟨7, 0, .rw, 0xFF, .w, [], false⟩]⟩,
  ⟨0x300028, [], [⟨23, 16, .rw, 0x50, .w, [], false⟩, ⟨9, 0, .rw, 0, .w, [], false⟩]⟩,
  ⟨0x30002C, [], [⟨16, 10, .rw, 0, .n, [], false⟩, ⟨9, 0, .rw, 0, .n, [], false⟩]⟩,
  ⟨0x300030, [], [⟨31, 0, .rw, 0, .n, [], false⟩]⟩,
  ⟨0x300034, [], [⟨31, 16, .ro, 0, .n, [], false⟩, ⟨15, 0, .ro, 0, .n, [], false⟩]⟩,
  ⟨0x300040, [], [⟨31, 16, .ro, 0, .n, [], false⟩, ⟨15, 12, .ro, 0, .n, [], false⟩, ⟨9, 4, .rw, 0, .n, [], false⟩, ⟨1, 1, .w1c, 0, .n, [], false⟩, ⟨0, 0, .rw1s, 0, .n, [], false⟩]⟩,
  ⟨0x300044, [], [⟨31, 0, .rw, 0, .n, [], false⟩]⟩,
  ⟨0x300050, [], [⟨15, 8, .rw, 0, .n, [], false⟩, ⟨1, 1, .w1c, 0, .n, [], false⟩, ⟨0, 0, .rw1s, 0, .n, [], false⟩]⟩,
  ⟨0x300060, [], [⟨15, 8, .wo, 0, .n, [], false⟩, ⟨1, 1, .w1c, 0, .n, [], false⟩, ⟨0, 0, .rw1s, 0, .n, [], false⟩]⟩,
  ⟨0x300064, [], [⟨31, 0, .rw, 0, .n, [], false⟩]⟩,
  ⟨0x300068, [], [⟨31, 0, .rw, 0, .n, [], false⟩]⟩,
  ⟨0x30006C, [], [⟨7, 0, .ro, 0, .n, [], false⟩]⟩,
  ⟨0x310000, [(64, 0x800)], [⟨31, 31, .rw, 0, .w, [], false⟩, ⟨16, 16, .rw, 0, .w, [], false⟩, ⟨9, 0, .rw, 0, .w, [], false⟩]⟩,
  ⟨0x310004, [(64, 0x800)], [⟨13, 8, .rw, 0, .w, [], false⟩, ⟨7, 0, .rw, 0, .w, [], false⟩]⟩,
  ⟨0x310008, [(64, 0x800)], [⟨31, 0, .rw, 0, .w, [], false⟩]⟩,
  ⟨0x310100, [(64, 0x800), (64, 0x10)], [⟨31, 0, .rw, 0x4000, .w, [], false⟩]⟩,
  ⟨0x310104, [(64, 0x800), (64, 0x10)], [⟨31, 0, .rw, 0x4000, .w, [], false⟩]⟩,
  ⟨0x310108, [(64, 0x800), (64, 0x10)], [⟨25, 16, .rw, 0, .w, [], false⟩, ⟨9, 0, .rw, 0, .w, [], false⟩]⟩,
  ⟨0x340000, [(64, 0x10)], [⟨29, 0, .rw, 0, .w, [], false⟩]⟩] ++ [
  ⟨0x340004, [(64, 0x10)], [⟨29, 0, .rw, 0, .w, [], false⟩]⟩,
  ⟨0x340008, [(64, 0x10)], [⟨31, 0, .rw, 0, .w, [], false⟩]⟩,
  ⟨0x34000C, [(64, 0x10)], [⟨31, 0, .rw, 0, .w, [], false⟩]⟩,
  ⟨0x340400, [(16, 4)], [⟨2, 0, .rw, 0, .w, [], false⟩]⟩,
  ⟨0x340440, [(8, 4)], [⟨31, 0, .rw, 0, .w, [], false⟩]⟩,
  ⟨0x340460, [], [⟨2, 0, .rw, 0, .w, [], false⟩]⟩]

/-- The registers of the block at 0x400000. -/
def regsTutor : List RegRow := [
  ⟨0x410000, [(12, 0x40000)], [⟨2, 2, .rw1s, 0, .n, [], false⟩, ⟨1, 1, .rw1s, 0, .n, [], false⟩, ⟨0, 0, .rw, 1, .n, [], false⟩]⟩,
  ⟨0x410004, [(12, 0x40000)], [⟨31, 16, .ro, 0, .n, [], false⟩, ⟨4, 4, .ro, 0, .n, [], false⟩, ⟨2, 0, .ro, 0, .n, [], false⟩]⟩,
  ⟨0x410008, [(12, 0x40000)], [⟨31, 16, .ro, 0, .n, [], false⟩, ⟨15, 8, .ro, 0, .n, [], false⟩, ⟨7, 0, .ro, 0, .n, [], false⟩]⟩,
  ⟨0x41000C, [(12, 0x40000)], [⟨31, 0, .ro, 0, .n, [], false⟩]⟩,
  ⟨0x410010, [(12, 0x40000)], [⟨0, 0, .rw, 0, .w, [], false⟩]⟩,
  ⟨0x410014, [(12, 0x40000)], [⟨31, 16, .w1c, 0, .n, [], false⟩, ⟨15, 0, .rw, 0, .n, [], false⟩]⟩,
  ⟨0x410018, [(12, 0x40000)], [⟨23, 0, .rw, 0, .n, [], false⟩]⟩,
  ⟨0x41001C, [(12, 0x40000)], [⟨16, 16, .w1c, 0, .n, [], false⟩, ⟨15, 8, .wo, 0, .n, [], false⟩, ⟨7, 0, .ro, 0, .n, [], false⟩]⟩,
  ⟨0x410020, [(12, 0x40000)], [⟨31, 16, .ro, 0, .n, [], false⟩, ⟨15, 0, .ro, 0, .n, [], false⟩]⟩,
  ⟨0x410024, [(12, 0x40000)], [⟨31, 0, .ro, 0, .n, [], false⟩]⟩,
  ⟨0x410028, [(12, 0x40000)], [⟨31, 0, .ro, 0, .n, [], false⟩]⟩,
  ⟨0x410100, [(12, 0x40000)], [⟨31, 0, .rw, 0, .n, [], false⟩]⟩,
  ⟨0x410104, [(12, 0x40000)], [⟨31, 0, .rw, 0, .n, [], false⟩]⟩,
  ⟨0x410108, [(12, 0x40000)], [⟨19, 19, .w1c, 0, .n, [], false⟩, ⟨18, 18, .w1c, 0, .n, [], false⟩, ⟨17, 17, .w1c, 0, .n, [], false⟩, ⟨16, 16, .w1c, 0, .n, [], false⟩, ⟨15, 8, .ro, 0, .n, [], false⟩, ⟨7, 0, .ro, 0, .n, [], false⟩]⟩]

/-- The registers of the block at 0x700000. -/
def regsDean : List RegRow := [
  ⟨0x740000, [], [⟨2, 2, .rw1s, 0, .n, [], false⟩, ⟨1, 1, .rw1s, 0, .n, [], false⟩, ⟨0, 0, .rw, 1, .n, [], false⟩]⟩,
  ⟨0x740004, [], [⟨31, 16, .ro, 0, .n, [], false⟩, ⟨4, 4, .ro, 0, .n, [], false⟩, ⟨2, 0, .ro, 0, .n, [], false⟩]⟩,
  ⟨0x740008, [], [⟨31, 16, .ro, 0, .n, [], false⟩, ⟨15, 8, .ro, 0, .n, [], false⟩, ⟨7, 0, .ro, 0, .n, [], false⟩]⟩,
  ⟨0x74000C, [], [⟨31, 0, .ro, 0, .n, [], false⟩]⟩,
  ⟨0x740010, [], [⟨0, 0, .rw, 0, .w, [], false⟩]⟩,
  ⟨0x740014, [], [⟨31, 16, .w1c, 0, .n, [], false⟩, ⟨15, 0, .rw, 0, .n, [], false⟩]⟩,
  ⟨0x740018, [], [⟨23, 0, .rw, 0, .n, [], false⟩]⟩,
  ⟨0x74001C, [], [⟨16, 16, .w1c, 0, .n, [], false⟩, ⟨15, 8, .wo, 0, .n, [], false⟩, ⟨7, 0, .ro, 0, .n, [], false⟩]⟩,
  ⟨0x740020, [], [⟨31, 16, .ro, 0, .n, [], false⟩, ⟨15, 0, .ro, 0, .n, [], false⟩]⟩,
  ⟨0x740024, [], [⟨31, 0, .ro, 0, .n, [], false⟩]⟩,
  ⟨0x740028, [], [⟨31, 0, .ro, 0, .n, [], false⟩]⟩,
  ⟨0x740100, [], [⟨31, 0, .rw, 0, .n, [], false⟩]⟩,
  ⟨0x740104, [], [⟨31, 0, .rw, 0, .n, [], false⟩]⟩,
  ⟨0x740108, [], [⟨19, 19, .w1c, 0, .n, [], false⟩, ⟨18, 18, .w1c, 0, .n, [], false⟩, ⟨17, 17, .w1c, 0, .n, [], false⟩, ⟨16, 16, .w1c, 0, .n, [], false⟩, ⟨15, 8, .ro, 0, .n, [], false⟩, ⟨7, 0, .ro, 0, .n, [], false⟩]⟩,
  ⟨0x74010C, [], [⟨27, 16, .ro, 0, .n, [], false⟩, ⟨11, 0, .ro, 0, .n, [], false⟩]⟩]

/-- The rows of the block that holds address `a` under R20. -/
def blockRows (a : Nat) : List RegRow :=
  if a < 0x10000 then regsDev
  else if a < 0x20000 then regsBoot
  else if a < 0x30000 then regsProc
  else if a < 0x40000 then regsEvt
  else if a < 0x50000 then regsPwr
  else if a < 0x60000 then regsClk
  else if a < 0x70000 then regsHk
  else if a < 0x80000 then regsLop
  else if a < 0xA0000 then regsLnk
  else if a < 0xB0000 then regsQue
  else if a < 0xC0000 then regsDma
  else if a < 0xD0000 then regsCst
  else if a < 0xE0000 then regsAtm
  else if a < 0x100000 then regsBmb
  else if a < 0x140000 then regsDlc
  else if a < 0x180000 then regsUlc
  else if a < 0x1C0000 then regsLin
  else if a < 0x200000 then regsSfd
  else if a < 0x280000 then regsRfe
  else if a < 0x290000 then regsRfeCal
  else if a < 0x300000 then regsSyt
  else if a < 0x400000 then regsCal
  else if a < 0x700000 then regsTutor
  else if a < 0x900000 then regsDean
  else []

/-- Where offset `off` falls in an array with dimensions `ds`: its first index, or none outside the array. -/
def RegRow.locate : List (Nat × Nat) → Nat → Option Nat
  | [], off => if off = 0 then some 0 else none
  | (c, st) :: ds, off =>
    if off / st < c then (RegRow.locate ds (off % st)).map (fun _ => off / st) else none

/-- The first index of the register of `r` that stands at address `a`, none when `a` is no register of `r`. -/
def RegRow.indexAt (r : RegRow) (a : Nat) : Option Nat :=
  if r.base ≤ a then RegRow.locate r.dims (a - r.base) else none

/-- The row of the register at address `a` and its first index; none for an unused offset (R21). -/
def findRow : List RegRow → Nat → Option (RegRow × Nat)
  | [], _ => none
  | r :: rs, a =>
    match r.indexAt a with
    | some i => some (r, i)
    | none => findRow rs a

/-- The field table of the register at address `a`. -/
def rowAt (a : Nat) : Option (RegRow × Nat) := findRow (blockRows a) a

/-- The bits of a field as a mask. -/
def FieldRow.mask (f : FieldRow) : Word := fieldMask f.hi f.lo

/-- A field's contribution to its register's reset word. -/
def FieldRow.resetBits (f : FieldRow) (i : Nat) : Word :=
  placeField f.hi f.lo (if f.resetIsIndex then i else f.reset)

/-- The reset word of the register at address `a`: the Reset column of each field, 0 in reserved bits. -/
def resetWord (a : Nat) : Word :=
  match rowAt a with
  | some (r, i) => r.fields.foldl (fun w f => w ||| f.resetBits i) 0
  | none => 0

/-- The bits of the register at `a` whose keep class is in `ks`. -/
def keepMask (ks : List Keep) (a : Nat) : Word :=
  match rowAt a with
  | some (r, _) => r.fields.foldl (fun w f => if ks.contains f.keep then w ||| f.mask else w) 0
  | none => 0

/-- The bits of the register at `a` whose access type is in `ts`. -/
def accessMask (ts : List Access) (a : Nat) : Word :=
  match rowAt a with
  | some (r, _) => r.fields.foldl (fun w f => if ts.contains f.access then w ||| f.mask else w) 0
  | none => 0

/-- A code is valid in a field that lists none, or that lists a range around it (R9). -/
def FieldRow.valid (f : FieldRow) (v : Nat) : Bool :=
  f.codes.isEmpty || f.codes.any (fun r => decide (r.1 ≤ v) && decide (v ≤ r.2))

/-- What a write of `d` to a register that holds `w` does to one field (R7, R9): RW takes a valid code, W1C clears
where 1 is written, RW1S sets where 1 is written, RO and WO hold nothing written. -/
def FieldRow.write (f : FieldRow) (d w : Word) : Word :=
  match f.access with
  | .rw => if f.valid (getField f.hi f.lo d) then (w &&& ~~~f.mask) ||| (d &&& f.mask) else w
  | .w1c => w &&& ~~~(d &&& f.mask)
  | .rw1s => w ||| (d &&& f.mask)
  | .ro => w
  | .wo => w

/-- A write of `d` to the register at `a` that holds `w`, field by field (R7, R9); reserved bits ignore it. -/
def writeWord (a : Nat) (d w : Word) : Word :=
  match rowAt a with
  | some (r, _) => r.fields.foldl (fun w f => f.write d w) w
  | none => w

/-- What a read of the register at `a` that holds `w` returns: write-only fields read 0 (R7). -/
def readWord (a : Nat) (w : Word) : Word := w &&& ~~~accessMask [.wo] a

end Sys2Proof.Machine
end

