-- ==== Sys2Proof/Machine/Bits.lean ====
section
/-!
DEFINITION. The byte, sign and counter helpers of the model, and the check words of R29 and R125.
-/

namespace Sys2Proof.Machine

/-- Bytes as a little-endian number (R3). -/
def leNat : List Byte → Nat
  | [] => 0
  | b :: bs => b.toNat + 256 * leNat bs

/-- A number as `n` little-endian bytes (R3). -/
def leBytes : Nat → Nat → List Byte
  | 0, _ => []
  | n + 1, v => BitVec.ofNat 8 v :: leBytes n (v / 256)

/-- `n` bytes of a list from byte `k`, zero beyond its end. -/
def bytesAt (bs : List Byte) (k n : Nat) : List Byte :=
  let t := (bs.drop k).take n
  t ++ List.replicate (n - t.length) 0

/-- The little-endian field of `n` bytes at byte `k`. -/
def fieldAt (bs : List Byte) (k n : Nat) : Nat := leNat (bytesAt bs k n)

/-- A list of 32-bit words as bytes. -/
def wordsToBytes : List Word → List Byte
  | [] => []
  | w :: ws => leBytes 4 w.toNat ++ wordsToBytes ws

/-- Bytes as 32-bit words, the last one filled with zeros. -/
def bytesToWords : List Byte → List Word
  | [] => []
  | a :: b :: c :: d :: bs => BitVec.ofNat 32 (leNat [a, b, c, d]) :: bytesToWords bs
  | bs => [BitVec.ofNat 32 (leNat bs)]

/-- Two's complement of `n` bits: the value of the code `v`. -/
def sext (n v : Nat) : Int :=
  if v % 2 ^ n < 2 ^ (n - 1) then (v % 2 ^ n : Nat) else (v % 2 ^ n : Nat) - (2 ^ n : Nat)

/-- The `n`-bit two's complement code of an integer. -/
def toCode (n : Nat) (z : Int) : Nat := (z % (2 ^ n : Nat)).toNat

/-- An integer saturated to `n` bits of two's complement. -/
def satInt (n : Nat) (z : Int) : Int := max (-(2 ^ (n - 1) : Nat)) (min ((2 ^ (n - 1) : Nat) - 1) z)

/-- Round half to even of `z / 2 ^ k` (the rounding of R234 and R370). -/
def roundHalfEven (z : Int) (k : Nat) : Int :=
  let q := z / (2 ^ k : Nat)
  let r := z % (2 ^ k : Nat)
  if 2 * r < (2 ^ k : Nat) then q
  else if 2 * r > (2 ^ k : Nat) then q + 1
  else if q % 2 = 0 then q else q + 1

/-- Round half to even of `a / b` for a positive `b` (rnd of R256, R301, R308). -/
def rndDiv (a : Int) (b : Nat) : Int :=
  let q := a / (b : Int)
  let r := a % (b : Int)
  if 2 * r < b then q else if 2 * r > b then q + 1 else if q % 2 = 0 then q else q + 1

/-- A count that stops at the all-ones value of `w` bits (R446). -/
def satAdd (w : Nat) (a b : Nat) : Nat := min (2 ^ w - 1) (a + b)

/-- Serial arithmetic modulo 2 ^ `w` (R46): `a` is ahead of `b`. -/
def aheadOf (w a b : Nat) : Bool :=
  let d := (a + 2 ^ w - b % 2 ^ w) % 2 ^ w
  decide (1 ≤ d) && decide (d < 2 ^ (w - 1))

/-- Bit `i` of a number. -/
def bitOf (n i : Nat) : Bool := n / 2 ^ i % 2 = 1

/-- A number with bit `i` set to `b`. -/
def setBitOf (n i : Nat) (b : Bool) : Nat :=
  (n - (if bitOf n i then 2 ^ i else 0)) + (if b then 2 ^ i else 0)

/-- Bools as the number whose bit `i` is the `i`-th of them. -/
def bitsToNat : List Bool → Nat
  | [] => 0
  | b :: bs => (if b then 1 else 0) + 2 * bitsToNat bs

/-- `x` put behind every element that comes before it or with it in the order `le`. -/
def insertBy {α : Type} (le : α → α → Bool) (x : α) : List α → List α
  | [] => [x]
  | y :: ys => if le y x then y :: insertBy le x ys else x :: y :: ys

/-- A list in the order `le`, equal elements in their old order. -/
def sortBy {α : Type} (le : α → α → Bool) (xs : List α) : List α := xs.foldl (fun acc x => insertBy le x acc) []

/-- A Bool as a one-bit field. -/
def bit (b : Bool) : Nat := if b then 1 else 0

/-- One byte into the CRC-8 of R29: polynomial 0x07, most significant bit first. -/
def crc8Byte (c b : Nat) : Nat :=
  (List.range 8).foldl (fun c _ => if c ≥ 128 then (c * 2 % 256) ^^^ 7 else c * 2) (c ^^^ b)

/-- The CRC-8 of R29 over bytes in wire order, initial value 0x00. -/
def crc8 (bs : List Byte) : Nat := bs.foldl (fun c b => crc8Byte c b.toNat) 0

/-- One byte into the reflected CRC-32 of R125. -/
def crc32Byte (c b : Nat) : Nat :=
  (List.range 8).foldl (fun c _ => if c % 2 = 1 then (c / 2) ^^^ 0xEDB88320 else c / 2) (c ^^^ b)

/-- The CRC-32 of R125: IEEE 802.3 polynomial, reflected, initial value and final XOR all ones. -/
def crc32 (bs : List Byte) : Nat := (bs.foldl (fun c b => crc32Byte c b.toNat) 0xFFFFFFFF) ^^^ 0xFFFFFFFF

end Sys2Proof.Machine
end

