-- ==== Sys2Proof/Machine/SMap.lean ====
section
/-!
DEFINITION. Sparse maps in one canonical form: a list of (key, value) pairs with strictly rising keys and no entry
equal to what an unlisted key reads as. Every addressed piece of the state (registers, store, flash, fuses, core
memories, per-queue, per-channel and per-core records) is such a map, so that equal contents are equal data.
-/

namespace Sys2Proof.Machine

/-- A sparse map from addresses or indices to values. -/
abbrev SMap (α : Type) := List (Nat × α)

/-- The entry at key `k`, none when the map lists none. -/
def SMap.find {α : Type} : SMap α → Nat → Option α
  | [], _ => none
  | (k', v) :: m, k => if k' = k then some v else SMap.find m k

/-- What key `k` reads as: its entry, or the default `d` where the map lists none. -/
def SMap.get {α : Type} (d : α) (m : SMap α) (k : Nat) : α := (SMap.find m k).getD d

/-- The map without an entry at `k`. -/
def SMap.erase {α : Type} : SMap α → Nat → SMap α
  | [], _ => []
  | (k', v) :: m, k => if k' = k then SMap.erase m k else (k', v) :: SMap.erase m k

/-- An entry put in front of the first larger key. -/
def SMap.insert {α : Type} (k : Nat) (v : α) : SMap α → SMap α
  | [] => [(k, v)]
  | (k', v') :: m => if k < k' then (k, v) :: (k', v') :: m else (k', v') :: SMap.insert k v m

/-- A write of `v` at `k` that keeps the canonical form: the default value removes the entry. -/
def SMap.set {α : Type} [DecidableEq α] (d : α) (m : SMap α) (k : Nat) (v : α) : SMap α :=
  if v = d then SMap.erase m k else SMap.insert k v (SMap.erase m k)

/-- Keys rise strictly above `lo`, and no value is the default. -/
def SMap.wfFrom {α : Type} [DecidableEq α] (d : α) : Option Nat → SMap α → Bool
  | _, [] => true
  | lo, (k, v) :: m =>
    (match lo with
     | none => true
     | some l => decide (l < k)) && !decide (v = d) && SMap.wfFrom d (some k) m

/-- The canonical form over the default `d`. -/
def SMap.wf {α : Type} [DecidableEq α] (d : α) (m : SMap α) : Bool := SMap.wfFrom d none m

/-- Every listed value changed by `f`, which leaves the default as it is. -/
def SMap.mapVal {α : Type} [DecidableEq α] (d : α) (f : α → α) : SMap α → SMap α
  | [] => []
  | (k, v) :: m => if f v = d then SMap.mapVal d f m else (k, f v) :: SMap.mapVal d f m

/-- `n` consecutive entries from key `k`. -/
def SMap.getRange {α : Type} (d : α) (m : SMap α) (k : Nat) : Nat → List α
  | 0 => []
  | n + 1 => SMap.get d m k :: SMap.getRange d m (k + 1) n

/-- A list of values written at consecutive keys from `k`. -/
def SMap.setRange {α : Type} [DecidableEq α] (d : α) (m : SMap α) (k : Nat) : List α → SMap α
  | [] => m
  | v :: vs => SMap.setRange d (SMap.set d m k v) (k + 1) vs

end Sys2Proof.Machine
end

