-- ==== Sys2Proof/Machine/State.lean ====
section
/-!
DEFINITION. The whole state of the device as plain data. Every register of the spec's field tables stands in
`State.regs`, an unlisted register holding the reset word of its field table (RegMap); the records below hold the state
that the spec gives the device beside its registers: its memories, queues, engines and sequencers, timers in progress,
pins, and the queue of waiting commands.
-/

namespace Sys2Proof.Machine

/-- A region of the flash that the directory names (R44). -/
structure Partition where
  offset : Nat
  size : Nat
deriving DecidableEq, Repr

/-- The directory copy in use (R44, R46). -/
structure Directory where
  copy : Nat
  /-- The other copy is valid as well (R65). -/
  otherValid : Bool
  prefSlot : Nat
  seq : Nat
  slotA : Partition
  slotB : Partition
  calrec : Partition
  journal : Partition
deriving DecidableEq, Repr

/-- What Proctor does once a journal record has been written, or has failed twice (R59). -/
inductive AfterRecord where
  | goOn        -- nothing waits for the record
  | header      -- step 5 follows a BEGIN record (R62)
  | restart     -- the SOFT restart of R61 follows a FAIL record
  | detain      -- Detention mode follows (R480)
  | clearDone   -- CLR_ATTEMPTS clears (R69)
deriving DecidableEq, Repr

/-- A journal record that waits to be written (R57). -/
structure JournalReq where
  kind : Nat
  count : Nat
  cause : Nat
  step : Nat
  detail : Nat
  next : AfterRecord
  /-- The record written once more after a failed read-back, with unchanged content (R59); empty at first. -/
  again : List Byte
deriving DecidableEq, Repr

/-- A journal record being programmed: its bytes, its flash address and whether this is the second try (R59). -/
structure JournalWrite where
  bytes : List Byte
  addr : Nat
  second : Bool
  req : JournalReq
deriving DecidableEq, Repr

/-- The start journal cache in PD_AON (R58): the newest valid record, and the next free position. -/
structure JournalCache where
  valid : Bool
  jseq : Nat
  /-- Position of the next record, 0 to 2,047 over both sectors. -/
  pos : Nat
  cause : Nat
  /-- The last attempt was recorded or counted with its cause (R67). -/
  causeKnown : Bool
deriving DecidableEq, Repr

/-- The protocols in which the flash interface runs (R41, R42). -/
inductive FlashProtocol where
  | single1S     -- 1S-1S-1S
  | quad1S4S4S
  | octal8D      -- xSPI octal DDR, 8D-8D-8D
deriving DecidableEq, Repr

/-- The flash clocks (R41, R42). -/
inductive FlashClock where
  | bootclk8     -- BOOTCLK/8, before root lock
  | root60       -- 196.608 MHz
  | root120      -- 98.304 MHz
  | root384      -- 30.72 MHz
deriving DecidableEq, Repr

/-- The protocol and the clock in force at the flash. -/
structure FlashLink where
  protocol : FlashProtocol
  clock : FlashClock
deriving DecidableEq, Repr

/-- Before root lock (R42). -/
def FlashLink.boot : FlashLink := ⟨.single1S, .bootclk8⟩

/-- What waits for an MGA to have been sent: a reset (R36), or entry into TEST with the LOOP, PATTERN and DURATION_MS taken at the
GO (R117). -/
inductive AfterMga where
  | reset (k : ResetKind)
  | test (loop pattern ms : Nat)
deriving DecidableEq, Repr

/-- Proctor's start sequence and the structures it has read (R62). -/
structure BootState where
  /-- The reset that led to this start (RESET_KIND of R57). -/
  kind : ResetKind
  /-- Tries of step 3 made so far (R62). -/
  tries : Nat
  /-- Flash density in bytes read at step 3 (R42). -/
  density : Nat
  dir : Option Directory
  cache : JournalCache
  writing : Option JournalWrite
  waiting : List JournalReq
  /-- The erase of the other journal sector is in progress (R59). -/
  erasing : Bool
  /-- Slot of the current attempt has been chosen at step 4. -/
  header : List Byte
  /-- The sections of steps 9 and 10 still to load, by index in the header. -/
  sections : List Nat
  /-- Step 8 waits for the core die to cool (R62). -/
  hot : Bool
  /-- Step 9 waits for VDD_CORE (R414). -/
  vcoreWait : Bool
  /-- The store has been initialised and tested at step 9 (R165). -/
  storeReady : Bool
  /-- The selected board profile, 256 bytes; none before step 9 (R53). -/
  profile : List Byte
  /-- The kept profile of R66, held in PD_AON; none when empty. -/
  kept : List Byte
  /-- Image digest of the running slot (R80), its rollback index, owner slot and array level; empty and 0 before. -/
  runDigest : List Byte
  rollbackIndex : Nat
  ownerSlot : Nat
  arrayLevel : Nat
  noLink : Bool
  /-- Cores that received a program section (R388), by core number. -/
  loaded : List Nat
  /-- The first write of BOOT_HEARTBEAT since the release at step 13 has come (R62). -/
  heartbeat : Bool
  /-- A WARM reset waits for a power transition to end (R441). -/
  warmWaits : Bool
  /-- What was asked for in the MGQ being performed and waits until its MGA has been sent, in order (R36, R117). -/
  afterMga : List AfterMga
  /-- A reset asked for through MSPI waits until the write's STATUS has been returned (R36). -/
  afterMspi : Option ResetKind
  /-- The slot of the last attempt (R70), which a SOFT restart leaves known. -/
  lastSlot : Nat
  /-- What the flash runs in (R41 to R43). -/
  flashLink : FlashLink
deriving DecidableEq, Repr

/-- One flash operation of LOP7 (R71). -/
structure FlashOp where
  op : Nat
  src : Nat
  addr : Nat
  len : Nat
  store : Nat
  /-- Units done so far. -/
  done : Nat
deriving DecidableEq, Repr

/-- The long operations that use the flash (R70), oldest first: the first one runs. -/
inductive FlashUser where
  | lop7 (f : FlashOp)
  | lop8 (slot : Nat)
  | save (addr len : Nat)
deriving DecidableEq, Repr

/-- A Proctor command (R75), by its OP code. -/
structure ProcCmd where
  op : Nat
  /-- RESULT at the end (R92). -/
  result : Nat
  /-- The fuse bits it programs: word and bits to blow (R83, R84). -/
  fuses : List (Nat × Word)
  /-- The debug level it grants (R89). -/
  level : Nat
deriving DecidableEq, Repr

/-- Proctor's services (spec/03). -/
structure SecState where
  /-- The command that runs. -/
  running : Option ProcCmd
  /-- The OP of a command that waits for LOP6 (R75). -/
  waits : Option Nat
  /-- LOP6: the nonce copied at GO (R87), units done, and whether the device key unseals (R85). -/
  nonce : List Byte
  attUnits : Nat
  unseals : Bool
  /-- Vendor-level unlock leaves the device key unusable until POR (R91). -/
  keySpent : Bool
deriving DecidableEq, Repr

/-- What the one-entry MSPI buffer holds (R33, R34): a deferred access, and its result once it has completed. -/
structure MspiHeld where
  write : Bool
  addr : Nat
  data : Word
  done : Bool
  status : Nat
  result : Word
deriving DecidableEq, Repr

/-- The MSPI slave. -/
structure MspiState where
  held : Option MspiHeld
  /-- The four-entry buffer of posted store writes, oldest first (R34). -/
  posted : List (Nat × Word)
  /-- The bytes last driven on MISO in one frame; empty while MISO stays high-impedance (R28, R438). -/
  miso : List Byte
deriving DecidableEq, Repr

/-- An occurrence in the raise FIFO (R405). -/
structure EventRec where
  code : Nat
  info : Word
  air : Nat
deriving DecidableEq, Repr

/-- A two-part value's shadow for one requester (R444, R445): the low register's address and the requester key it
belongs to, the copied high part and whether the last access of the pair was a low read. -/
structure Shadow where
  high : Nat
  fresh : Bool
deriving DecidableEq, Repr

/-- Input and output pins. -/
structure Pins where
  /-- How many starts to come find DETAIN_N low, the next one first; 0 while the pin is high (R60). -/
  detain : Nat
  /-- REFCLK is present (R40). -/
  refclk : Bool
  /-- The levels at the BOARD_ID and FLASH_MODE balls (R37). -/
  boardId : Nat
  flashMode : Nat
  irqN : Bool
  /-- SYSCLK_OUT0 and SYSCLK_OUT1: 0 stopped low, 1 running at 122.88 MHz, 2 at 245.76 MHz (R39). -/
  sysclk0 : Nat
  sysclk1 : Nat
deriving DecidableEq, Repr

/-- The clock family's engine (R18, R19): steps of a phase request still to apply and the total since the link's last LOCK. -/
structure ClkState where
  phaseLeft : Int
  sinceLock : Int
deriving DecidableEq, Repr

/-- A packet that waits in a queue: header and payload without trailer, and whether its consumer (inbound) or the link
(outbound) has begun with it (R142). -/
structure StoredPkt where
  bytes : List Byte
  begun : Bool
  /-- The air time of the symbol or slot that its ATAG names, as resolved on arrival or when built (R198, R273). -/
  air : Nat := 0
  /-- Its place in the order of arrival over all queues (R224, R229). -/
  serial : Nat := 0
  /-- The 256-byte blocks of the store that hold it, in order; none for a packet in the queue memory of PD_LNK (R129, R155). -/
  blocks : List Nat := []
  /-- What waits for this MGA to have been sent (R36, R117). -/
  after : List AfterMga := []
deriving DecidableEq, Repr

/-- One queue beside its registers (R129 to R142). -/
structure QueueState where
  /-- The packets held, oldest first. -/
  pkts : List StoredPkt
  /-- Values of this session (R136): in use, bundle code of the transmitting end, no credit limit at the partner. -/
  use : Bool
  bundle : Nat
  unlimited : Bool
  /-- What the device sent for the queue in its CAP (R136): credits, USED, BUNDLE. -/
  sentCap : Nat
  sentUse : Bool
  sentBundle : Nat
  /-- Credits released between entry into ROLL_CALL and entry into ACTIVE (R135). -/
  released : Nat
  /-- The inbound GRANT has changed since it was last sent (R138). -/
  dirty : Bool
  /-- The partner's CONS reports that wait for their 10 µs, oldest first (R139). -/
  reports : List Nat
  /-- Expected SEQ per bundle, none before the sequence has started (R130). -/
  expect0 : Option Nat
  expect1 : Option Nat
  /-- Next SEQ sent per bundle, and whether the next packet carries SEQ_INIT (R130). -/
  tx0 : Nat
  tx1 : Nat
  init0 : Bool
  init1 : Bool
  /-- The QBs on which a packet of this queue was arriving when a flush was requested or the queue was reset: it is discarded at its
  end (R142, R143). -/
  doomed : List Nat
deriving DecidableEq, Repr

def QueueState.empty : QueueState :=
  ⟨[], false, 0, false, 0, false, 0, 0, false, [], none, none, 0, 0, true, true, []⟩

/-- A queued packet that is being sent on a TB (R126, R143, R144): its queue and header and payload, the DP cycles that its blocks
still take, and what waits for it. -/
structure Flight where
  tb : Nat
  queue : Nat
  bytes : List Byte
  left : Nat
  after : List AfterMga
deriving DecidableEq, Repr

/-- The MGQ being performed (R151): its payload, its SUB, the entries performed and their answers so far. -/
structure MgqState where
  payload : List Byte
  sub : Nat
  done : Nat
  answers : List Byte
  stopped : Bool
deriving DecidableEq, Repr

/-- Pholva Link: bring-up, Roll call, TEST and the service packets. -/
structure LinkState where
  /-- The TB bundles whose forwarded clock runs (R108). -/
  tbClock : List Nat
  /-- The equalisation words in force, by lane, taken at entry into TRAIN (R106). -/
  eq : SMap Word
  /-- The QB lanes locked in LOCK, by lane index e (R109). -/
  locked : List Nat
  /-- DESKEW blocks in a row with RX_LOCKED on lane 0 of QB0 and QB1 (R110). -/
  deskew0 : Nat
  deskew1 : Nat
  /-- The QBs whose wander event has been raised since the centring (R101). -/
  wandered : List Nat
  /-- The device's own CAP, its version, and the exchange (R147). -/
  cap : List Byte
  capVersion : Nat
  acked : Bool
  ackSent : Bool
  peer : Option (List Byte)
  peerVersion : Nat
  /-- The exchange has concluded and SWITCH has been sent (R112). -/
  switchSent : Bool
  /-- The QBs on whose lane 0 SWITCH has arrived. -/
  switchRx : List Nat
  /-- Agreed width codes of TB0, TB1, QB0 and QB1 (R111). -/
  widths : List Nat
  /-- LOOP, PATTERN and DURATION_MS taken at LNK_TEST.GO (R117). -/
  testLoop : Nat
  testPattern : Nat
  testMs : Nat
  /-- LOP9: the lanes still to scan (R119), and the destination taken at GO. -/
  scan : List Nat
  scanDest : Nat
  /-- Framing is lost on QB0, QB1 until the next control block (R127). -/
  lost0 : Bool
  lost1 : Bool
  /-- The LBK that waits for echo, with its receive bundle (R153). -/
  lbk : Option (Nat × List Byte)
  /-- The MGQ being performed (R151). -/
  mgq : Option MgqState
  /-- The EVT records not yet sent, with the event's count, oldest first (R152). -/
  records : List (EventRec × Nat)
  /-- The packet last begun on the link: its bytes with trailer and padding, by the TBs that carry it (R126). -/
  sent : List (Nat × List Byte)
  /-- LNK_WIDTH_MAX of TB0, TB1, QB0 and QB1 as this bring-up uses it. -/
  maxes : List Nat
  /-- Packets that are being sent, at most one per TB. -/
  flight : List Flight
  /-- The bank at which the next block of a region is taken, by KIND, counted from the region's first bank (R155). -/
  turn : SMap Nat
deriving DecidableEq, Repr

def LinkState.idle : LinkState :=
  ⟨[], [], [], 0, 0, [], [], 0, false, false, none, 0, false, [], [15, 15, 15, 15], 0, 0, 0, [], 0, false, false,
    none, none, [], [], [15, 15, 15, 15], [], []⟩

/-- A DMA channel beside its registers (R171 to R186). -/
structure DmaState where
  /-- The descriptor copied at the last fetch, 32 bytes (R172). -/
  desc : List Byte
  /-- The requester whose write set GO (R171). -/
  req : Requester
  /-- The address of a fetch in progress; none once the descriptor has been copied. -/
  fetch : Option Nat
  /-- A word that has been read and whose write has failed (R185). -/
  held : Option Word
  /-- Words still to move of a burst that has begun; 0 between bursts (R181, R182). -/
  burst : Nat
deriving DecidableEq, Repr

def DmaState.idle : DmaState := ⟨[], .mspi, none, none, 0⟩

/-- Air timing beside its registers (R187 to R206, R216). -/
structure AirState where
  /-- A TIM that waits for the next ALIGN edge: true with TIME (AT_ALIGN), false with an SFN (R191). -/
  tim : Option (Bool × Nat)
  /-- AIR_COUNT at the last accepted ALIGN edge (R192). -/
  edge : Option Int
  /-- The disagreeing observations in a row, newest first (R194). -/
  outliers : List Int
  /-- A decided step (R194). -/
  step : Option Int
  /-- LOCKED has been entered since the last reset (R195). -/
  everLocked : Bool
  /-- PERIOD and SCS in force, taken at the last swap (R206). -/
  period : Nat
  scs : Nat
  /-- The AIR_COUNT at which the mute of a time step ends (R194). -/
  muteEnd : Nat
  /-- HK ticks for which ALIGN_OUT stays high (R196). -/
  alignOut : Nat
  /-- The beam classes in force (R210). -/
  pdClass : Nat
  sfdClass : Nat
  /-- The ARRAY_MAP section loaded at the start, empty without a valid one (R216). -/
  map : List Byte
deriving DecidableEq, Repr

def AirState.idle : AirState := ⟨none, none, [], none, false, 0, 1, 0, 0, 0, 0, []⟩

/-- The beam-book update (R214): the shadow buffer, and the boundary at which it takes effect. -/
structure BmbState where
  shadow : List Byte
  boundary : Nat
deriving DecidableEq, Repr

/-- A downlink carrier symbol in the time domain: its start, N, prefix, WIN and I_c, whether phase compensation applies, FREQ, and z[0] to
z[N − 1] of each path, empty for a path of zeros (R236 to R239). -/
structure TxSymbol where
  carrier : Nat
  air : Nat
  n : Nat
  cp : Nat
  win : Nat
  step : Nat
  phcomp : Bool
  freq : Int
  paths : List (List Word)
  /-- Components that saturated in the iFFT, by path. -/
  sats : List Nat
deriving DecidableEq, Repr

/-- The phase of an NCO in the time before AIR_COUNT `until`: its phase there, and the FREQ it ran with (R241, R260). -/
structure NcoPast where
  upTo : Nat
  phase : Nat
  freq : Int
deriving DecidableEq, Repr

/-- An interval of AIR_COUNT of one path in which stage 9 is zero (R282), the canceller does not subtract (R310), or the mute gate holds
beside its whole symbols (R246). -/
structure Gap where
  path : Nat
  lo : Nat
  hi : Nat
deriving DecidableEq, Repr

/-- What the sample chains work on, by AIR_COUNT. A history lists its entries newest first, each with the AIR_COUNT from which it holds. -/
structure SampleState where
  /-- The carrier symbols formed (R237). -/
  syms : List TxSymbol
  /-- The ADC codes of each grid symbol, by path, I in the low half of a code pair (R254): the symbol's start and its samples. -/
  rx : List (Nat × List (List (BitVec 28)))
  /-- ATTEN by downlink carrier (R242). -/
  attens : SMap (List (Nat × Nat))
  /-- USER, and the 48 coefficients in force, by uplink carrier (R261, R262). -/
  users : SMap (List (Nat × Bool))
  taps : SMap (List (Nat × List Word))
  /-- The boundaries of the commits that changed a carrier: 0 to 7 downlink, 8 to 15 uplink (R224). -/
  flush : SMap (List Nat)
  /-- The NCOs before their last change of FREQ, by number. -/
  past : SMap (List NcoPast)
  /-- Where stage 9 is zero for a residue failure; where the canceller has stopped; where a path is muted. -/
  holes : List Gap
  stops : List Gap
  mutes : List Gap
deriving DecidableEq, Repr

def SampleState.idle : SampleState := ⟨[], [], [], [], [], [], [], [], [], []⟩

/-- The carriers of one direction (R223, R224, R252): a copy is 24 words, CFG0, CFG1 and NCO of C0 to C7. -/
structure CarrierState where
  /-- The copy in force; empty before the first one. -/
  inForce : List Word
  /-- The valid copy that waits for its boundary, and that boundary's air time. -/
  next : List Word
  boundary : Nat
  /-- The serial of the first packet accepted after the COMMIT write. -/
  before : Nat
  /-- Admitted units by 0.5 ms interval of air time (R233, R266). -/
  load : SMap Nat
  /-- One more than the air time of the last symbol of each carrier that was fetched. -/
  fetched : SMap Nat
  /-- Downlink: the last symbol of each carrier as stage 2 formed it, one list of complex words per path (R234). -/
  out : SMap (List (List Word))
deriving DecidableEq, Repr

def CarrierState.idle : CarrierState := ⟨[], [], 0, 0, [], [], []⟩

/-- A held section (R207, R208): one entry per symbol. -/
structure HeldSec where
  up : Bool
  carrier : Nat
  /-- The air time of its symbol. -/
  air : Nat
  id : Nat
  first : Nat
  count : Nat
  layer : Nat
  mant : Nat
  beam : Nat
  bsrc : Nat
  /-- The code of GAIN. -/
  gain : Nat
  /-- The serial of its SEC. -/
  serial : Nat
deriving DecidableEq, Repr

/-- An admitted uplink section with its effective weights per path, components in Q2.16 (R266 to R268). -/
structure UlSection where
  sec : HeldSec
  weights : List (Int × Int)
deriving DecidableEq, Repr

/-- A carrier symbol whose uplink sections have been fetched and whose packets are still to be built (R265, R272). -/
structure UlJob where
  carrier : Nat
  air : Nat
  /-- End of its air time, numerology and PRBs. -/
  stop : Nat
  scs : Nat
  nprb : Nat
  /-- CFG0, CFG1 and NCO of the carrier in the copy that governs the symbol (R252). -/
  words : List Word
  /-- Groups of PG_MASK, and of those the ones that receive in it (R253). -/
  groups : Nat
  rx : Nat
  secs : List UlSection
deriving DecidableEq, Repr

/-- A PRACH occasion whose capture window has begun or will begin (R275): its slot's air time, its window, the configuration taken at
its start, its carrier's numerology, and the groups of its PG_MASK. -/
structure PraRun where
  air : Nat
  scs : Nat
  start : Nat
  stop : Nat
  cfg : Word
  beams : List Nat
  groups : Nat
  /-- FREQ taken at the occasion (R275). -/
  freq : Int
deriving DecidableEq, Repr

/-- Uplink work in progress: symbols by age, and the engines' occasions. -/
structure UplinkState where
  jobs : List UlJob
  pra : SMap PraRun
  /-- FREQ of each engine as its last occasion took it (R274, R275). -/
  praFreq : SMap Int
deriving DecidableEq, Repr

def UplinkState.idle : UplinkState := ⟨[], [], []⟩

/-- Sections that are held, and the serial of the next accepted packet. -/
structure SectionState where
  held : List HeldSec
  serial : Nat
deriving DecidableEq, Repr

/-- One LO synthesiser, s = 2 g + l, beside its registers (R329 to R333). -/
structure Synth where
  /-- Bytes 0 to 5 of the entry and the 8-byte record copied at the retune. -/
  entry : List Byte
  record : List Byte
  /-- AIR_COUNT at the last entry into LOCKED. -/
  lockedAt : Nat
  /-- Phase units still to apply. -/
  phaseLeft : Int
  /-- AIR_COUNT of the last Timetable pre-tune. -/
  pretuned : Option Nat
deriving DecidableEq, Repr

def Synth.idle : Synth := ⟨[], [], 0, 0, none⟩

/-- What is in force for one path in a grid symbol. -/
structure PathSymbol where
  /-- Delays in force, in 1/64 sample (R243, R259). -/
  txDelay : Nat
  rxDelay : Nat
  /-- The words of the I/Q banks in force (R244, R255). -/
  txIq : List Word
  rxIq : List Word
  /-- G_d and ATTA in force (R300). -/
  gain : Int
  atta : Nat
  /-- The selection registers of the converters in force: DACI, DACQ, ADCI, ADCQ, the group's ORX word, LOA and LOB (R353). -/
  conv : List Word
  /-- RGAIN in force (R323). -/
  rgain : Nat
  /-- LIN_PATHp_PD_CFG and CFR_CFG, and the active coefficient bank of the class in force (R280, R283, R297). -/
  pdCfg : Word
  cfrCfg : Word
  lut : List Word
  /-- The peaks that each pass of crest-factor reduction cancelled in the 254 samples before the symbol, by sample index (R298). -/
  peaks1 : List Int
  peaks2 : List Int
deriving DecidableEq, Repr

/-- What one grid symbol was for the groups and paths: masks (R202, R254, R258, R334, R338), and what its samples meet. -/
structure SymbolLog where
  air : Nat
  /-- Groups that receive (U or SB as they act), that are SB, that are zeroed for an unready LO, that are off or not fitted. -/
  rx : Nat
  sb : Nat
  unready : Nat
  off : Nat
  /-- Paths whose receive side is QUIET. -/
  quiet : Nat
  /-- Groups over their receiver-input limit. -/
  limit : Nat
  /-- It lies in a forced calibration slot (R350). -/
  forced : Bool
  /-- Paths that the mute gate holds (R246). -/
  mute : Nat
  /-- f_LO of each group's LO in force, in units of 245.76 MHz / 2 ^ 37 (R239). -/
  los : List Nat
  /-- The kernels in force, 255 words each (R299). -/
  kernels : List (List Word)
  /-- The canceller subtracts; the coefficient set of the class in force as a block, empty while PD_SFD is off or no plan is in force; the
  plan (R306, R309, R311). -/
  sfdOn : Bool
  sfd : List Byte
  plan : List Word
  paths : List PathSymbol
deriving DecidableEq, Repr

/-- A running RFFE list: the entry, and whether its sequence has begun (R341). -/
structure RffeRun where
  entry : Nat
  count : Nat
  begun : Bool
deriving DecidableEq, Repr

/-- An edge of a front-end control line to come: AIR_COUNT, 4 × path + line, level (R335); a rise of FEC_TXON for a D or SB symbol
carries that symbol's air time, at which the LO must be ready for it (R334). -/
structure FecEdge where
  air : Nat
  line : Nat
  level : Bool
  guard : Option Nat
deriving DecidableEq, Repr

/-- A downlink section whose carrier symbol starts at `air`: a candidate for the lead section of that grid symbol, with the tags of
its beam (R210). -/
structure Lead where
  air : Nat
  carrier : Nat
  id : Nat
  tags : Option (Nat × Nat)
deriving DecidableEq, Repr

/-- The RF side beside its registers (spec/12) and the groups in the current grid symbol. -/
structure RfState where
  synths : SMap Synth
  /-- Groups whose ports are in H band (R321). -/
  band : Nat
  /-- Groups with a LOSEL write that waits for the boundary (R332). -/
  selWaits : Nat
  /-- The row in force per group in the current grid symbol, and the direction each group acts in (R202, R306). -/
  rows : List (Option Nat)
  dirs : List Nat
  /-- The current grid symbol's start and end. -/
  start : Nat
  stop : Nat
  /-- Groups muted and zeroed for an unready LO in it, and groups affected in the symbol before (R334). -/
  muted : Nat
  zeroed : Nat
  affected : Nat
  /-- The front-end control lines that are high, by 4 × path + line (0 FEC_TXON, 1 FEC_RXON, 2 FEC_LNABYP), and edges to
  come. -/
  fec : SMap Nat
  edges : List FecEdge
  /-- The levels last planned for each group's lines, bit 3 × group + line; those of the next grid symbol; whether a line's last high
  run followed DIR; each line's last planned fall; and the paths whose true-time delay puts their edges one tick later (R335, R336). -/
  levels : Nat
  ahead : Nat
  followed : Nat
  falls : SMap Nat
  late : Nat
  /-- Paths whose transmit and receive sides are QUIET (R338). -/
  txQuiet : Nat
  rxQuiet : Nat
  /-- Paths whose transmit bias, DAC and driver, and whose receive bias, are switched off for the current grid symbol (R339). -/
  txOff : Nat
  rxOff : Nat
  /-- Supplies that are off, by 4 × path + 0 transmit bias, 1 DAC, 2 driver, 3 receive bias, and their switchings to come, a level
  high for on (R339). -/
  supplies : SMap Nat
  supplyEdges : List FecEdge
  /-- Lead candidates of grid symbols to come (R210). -/
  leads : List Lead
  /-- Carrier symbols with admitted downlink sections, or with uplink sections: start, end, groups (R338). -/
  txSpans : List (Nat × Nat × Nat)
  rxSpans : List (Nat × Nat × Nat)
  /-- Recent grid symbols, newest first. -/
  log : List SymbolLog
  rffe : SMap RffeRun
deriving DecidableEq, Repr

def RfState.idle : RfState :=
  { synths := [], band := 0, selWaits := 0, rows := [], dirs := [], start := 0, stop := 0, muted := 0, zeroed := 0, affected := 0
    fec := [], edges := [], levels := 0, ahead := 0, followed := 0, falls := [], late := 0, txQuiet := 0, rxQuiet := 0, txOff := 0
    rxOff := 0, supplies := [], supplyEdges := [], leads := [], txSpans := [], rxSpans := [], log := [], rffe := [] }

/-- A transfer of a load engine (R284). -/
structure PdLoad where
  write : Bool
  path : Nat
  cls : Nat
  shadow : Bool
  addr : Nat
deriving DecidableEq, Repr

/-- A capture window in progress, or the capture whose record is held (R288, R289). -/
structure Capture where
  path : Nat
  cls : Nat
  refSrc : Nat
  bank : Nat
  mixed : Bool
  air : Nat
  refDly : Nat
  clip : Nat
  /-- OGAIN in force (R324). -/
  ogain : Nat
  /-- It was started in SINGLE mode. -/
  single : Bool
deriving DecidableEq, Repr

/-- A path group's observation side beside its registers (R284 to R293). -/
structure LinGroup where
  load : Option PdLoad
  /-- The swap that waits: class and local paths (R286). -/
  swap : Option (Nat × Nat)
  /-- The code driven on ORXSEL_g, and AIR_COUNT when the lines last changed, none since the power-up (R287). -/
  sel : Nat
  selAt : Option Nat
  /-- The local path captured last, and AIR_COUNT of the last capture start. -/
  last : Nat
  started : Option Nat
  window : Option Capture
  /-- Words of the completed record not yet read (R289); empty once the buffer is released. -/
  record : List Word
  /-- The samples in the capture buffer: ORX and reference (R288, R291). -/
  samples : List (Word × Word)
  /-- The correlator's run: its capture. -/
  run : Option Capture
  /-- COMP_g as last computed; it comes into force at the next boundary (R301). -/
  comp : Nat
deriving DecidableEq, Repr

def LinGroup.idle : LinGroup := ⟨none, none, 0, none, 7, none, none, [], [], none, 0⟩

/-- A long operation that works through units: the units still to do, the units done, and its result address. -/
structure UnitRun where
  units : List Nat
  done : Nat
  dest : Nat
deriving DecidableEq, Repr

/-- Pre-distortion beside its registers (spec/10). -/
structure LinState where
  /-- Coefficient banks by 8 × path + 2 × class + bank: entries as words I and Q in the order of R284; unlisted, the
  identity set. -/
  banks : SMap (List Word)
  groups : SMap LinGroup
  /-- LOP2: its units as 4 × path + class (R295). -/
  lop2 : Option UnitRun
deriving DecidableEq, Repr

def LinState.idle : LinState := ⟨[], [], none⟩

/-- A canceller load (R313): its class, whether it writes, and the set it has filled. -/
structure SfdLoad where
  write : Bool
  cls : Nat
  addr : Nat
  set : Option Nat
deriving DecidableEq, Repr

/-- A canceller capture window (R314). -/
structure SfdWindow where
  cls : Nat
  nref : Nat
  rate : Nat
  groups : Nat
  air : Nat
  dest : Nat
  mixed : Bool
deriving DecidableEq, Repr

/-- Full duplex beside its registers (spec/11). -/
structure SfdState where
  /-- The plan in force and the plan that waits, as SFD_CFG0 to 2; none when empty. -/
  plan : List Word
  next : List Word
  boundary : Nat
  /-- The coefficient sets by number, as coefficient blocks; an unlisted set holds what PD_SFD powers up with (R311). -/
  sets : SMap (List Byte)
  load : Option SfdLoad
  window : Option SfdWindow
  /-- DMA request line 8 (R314). -/
  line8 : Bool
  /-- EN and the demoted groups as they act since the last boundary. -/
  en : Bool
  demoted : Nat
  /-- SB symbols in a row over the input limit, and with a high residual, by group (R317, R318). -/
  limitRun : SMap Nat
  resRun : SMap Nat
  lop3 : Option UnitRun
deriving DecidableEq, Repr

def SfdState.idle : SfdState := ⟨[], [], 0, [], none, none, false, false, 0, [], [], none⟩

/-- LOP0, array calibration (R348 to R352). -/
structure Lop0 where
  groups : Nat
  dir : Nat
  forced : Bool
  joint : Bool
  chan : Nat
  point : Nat
  apply : Bool
  refPath : Nat
  rep : Nat
  dest : Nat
  /-- SPAN and LEVEL of the pilot (R346). -/
  span : Nat
  level : Nat
  /-- Chips and sequences completed, and chips in all. -/
  chips : Nat
  sequences : Nat
  total : Nat
deriving DecidableEq, Repr

/-- Probe chips that ran back to back from AIR_COUNT `air` on: the first one's number in the measurement, how many, and the number of the
first receive chip; the measured groups, the pilot, the chips of a sequence and the row of the Hadamard matrix that path P0 sends (R346,
R351). -/
structure ProbeRun where
  air : Nat
  first : Nat
  count : Nat
  rxFrom : Nat
  groups : Nat
  span : Nat
  level : Nat
  order : Nat
  row : Nat
deriving DecidableEq, Repr

/-- Calibration beside its registers (spec/13). -/
structure CalState where
  /-- Point registers written since the last grid symbol boundary, with the contents still in force, and the boundary at
  which the new ones are (R345). -/
  old : SMap Word
  boundary : Nat
  /-- The point load: point and store address, then its block once copied. -/
  load : Option (Nat × Nat)
  block : List Byte
  /-- LOP0 results that wait for the boundary: point and block (R352). -/
  applies : List (Nat × List Byte)
  lop0 : Option Lop0
  /-- The forced slots announced: air time, and 1 transmit or 2 receive (R350). -/
  slots : List (Nat × Nat)
  /-- Groups that the announced slots measure (R350). -/
  slotGroups : Nat
  /-- Probe chips of the symbols and slots still kept, newest first (R346). -/
  probes : List ProbeRun
  /-- DMA request line 9 (R349). -/
  line9 : Bool
  lop1 : Option UnitRun
deriving DecidableEq, Repr

def CalState.idle : CalState := ⟨[], 0, none, [], [], none, [], 0, [], false, none⟩

/-- An open LOOP (R376): first and last address of its body, remaining count, stack depth when it was opened, the words of the
current iteration, and whether they are the repeat cache's copy (R378). -/
structure LoopFrame where
  first : Nat
  last : Nat
  count : Nat
  depth : Nat
  body : List Word
  cached : Bool
deriving DecidableEq, Repr

/-- A system access that stalls a core (R374): direction, byte address, word stored, accumulator loaded, the address register
with its value afterwards, and the instruction's word. -/
structure SysAccess where
  write : Bool
  addr : Nat
  data : Word
  acc : Nat
  an : Nat
  next : Nat
  instr : Word
deriving DecidableEq, Repr

/-- A signal processor beside its core registers (spec/14). -/
structure CoreState where
  /-- Address of the next instruction; one past the last address after it. -/
  pc : Nat
  /-- The status register (R369). -/
  sr : Nat
  /-- K, SYSPAGE, A, O and M registers by their codes (R368), and ACC0 to ACC3 by number, as two's-complement codes. -/
  regs : SMap Nat
  acc : SMap Nat
  /-- The hardware stack, top first: PC, and SR where the entry holds it (R379). -/
  stack : List (Nat × Option Nat)
  /-- The open loops, innermost first. -/
  loops : List LoopFrame
  /-- RPT: repetitions of the instruction at `pc` still to run, and its word once fetched (R377). -/
  rpt : Option (Nat × Option Word)
  /-- The prefetch queue: the words at `pc` and after it. -/
  queue : List Word
  /-- The previous instruction moved to SR (R379). -/
  srMoved : Bool
  sys : Option SysAccess
  /-- Program memory, and X, Y and Z data memories, by word address. -/
  prog : SMap Word
  x : SMap Nat
  y : SMap Nat
  z : SMap Nat
  /-- Inbound and outbound mailbox, oldest first (R386). -/
  mbxIn : List Word
  mbxOut : List Word
deriving DecidableEq, Repr

/-- A core after core reset (R368, R369, R382); memories and mailboxes empty. -/
def CoreState.idle : CoreState := ⟨0, 0x1000, [], [], [], [], none, [], false, none, [], [], [], [], [], []⟩

/-- The conversion that runs (R391, R396): its kind as HK_STATUS.KIND codes it, channel, window, list entry, and whether it is
one of LOP4's. -/
structure HkRun where
  kind : Nat
  ch : Nat
  win : Nat
  entry : Nat
  lop4 : Bool
deriving DecidableEq, Repr

/-- LOP4 (R402): its input, step and window, and the raw codes of the conversions completed. -/
structure SysCal where
  idx : Nat
  full : Bool
  win : Nat
  codes : List Nat
deriving DecidableEq, Repr

/-- The housekeeping converter beside its registers (spec/15). -/
structure HkState where
  running : Option HkRun
  /-- The entry at which the continuous walk goes on, and whether it restarts at entry 0 (R394). -/
  walk : Nat
  restart : Bool
  /-- Armed triggered entries with the AIR_COUNT at which they become due, and the due ones that wait (R395, R396). -/
  armed : SMap Nat
  due : SMap Nat
  /-- Channels whose guard conversion is due (R400). -/
  guards : List Nat
  /-- The FIFO behind HK_PORT, oldest first (R399). -/
  fifo : List Word
  lop4 : Option SysCal
deriving DecidableEq, Repr

def HkState.idle : HkState := ⟨none, 0, false, [], [], [], [], none⟩

/-- A power request (R417): target state, requester code and the groups to be off. -/
structure PwrRequest where
  target : Nat
  requester : Nat
  off : Nat
deriving DecidableEq, Repr

/-- A regulator transaction that is not yet complete (R414, R415); `sent`: acknowledged, its voltage or power-good awaited. -/
inductive RegOp where
  /-- VDD_CORE to a voltage in mV. -/
  | avs (mv : Nat) (sent : Bool)
  /-- The rails of RFDk on. -/
  | dieOn (k : Nat) (sent : Bool)
  | dieOff (k : Nat)
  /-- A core rail: 0 VDD_SRAM, 1 VDD_CORE, 2 VDD_CONV, 3 VDD_LNK, 4 VDD_RFH. -/
  | rail (n : Nat) (on : Bool)
  /-- A margin code sent to a die whose rails are on. -/
  | margin (k code : Nat)
deriving DecidableEq, Repr

/-- The running transition (R418). -/
structure PwrTrans where
  req : PwrRequest
  /-- The state left, as PWR_STATUS.STATE read. -/
  left : Nat
  /-- STAGE: 6 entry, 1 to 5 the stages of R423; 0 when only its end is left. -/
  stage : Nat
  /-- The entry instant is still to come (R422). -/
  waits : Bool
  /-- The sleep state that it leaves. -/
  waking : Option Nat
  /-- It is an entry that a regulator fault has turned back (R420). -/
  aborted : Bool
  /-- REQ_OFF before it, and the groups it has switched off. -/
  wasOff : Nat
  offs : Nat
  /-- The AON tick in which it began (R429). -/
  tick : Nat
deriving DecidableEq, Repr

/-- Power states beside the PWR registers (spec/16). -/
structure PwrState where
  /-- The state in force, ACTIVE standing for NAP too; none before start step 13. -/
  base : Option Nat
  trans : Option PwrTrans
  /-- The single pending slot (R418). -/
  slot : Option PwrRequest
  /-- The groups on before a sleep. -/
  was : Nat
  /-- Groups that stay off until a request powers them (R416, R420). -/
  failed : Nat
  /-- Groups held off by a HOT bit, and those of them whose switch-off still waits for its entry instant (R400, R422). -/
  hot : Nat
  hotWaits : Nat
  /-- Dies whose rails are on, and core rails that are switched off (R413). -/
  dies : Nat
  railsOff : List Nat
  /-- The margin code that each die was last given, in bits [2k+1:2k] (R415). -/
  margins : Nat
  ops : List RegOp
  /-- TARGET_MV was written while BUSY was 1 (R414). -/
  again : Bool
  /-- Group wakes in progress, by group: the stage of R424. -/
  wakes : SMap Nat
  /-- The air time of a Timetable request's planned wake (R419, R430). -/
  plannedWake : Nat
  /-- The wake command that woke the device: CMD, GROUP, matched by group; and PWR_BELL_COUNT.REJECT at the entry (R434). -/
  bell : Option (Nat × Nat × Bool)
  rejects : Nat
  /-- A ping holds IRQ_N low (R434). -/
  ping : Bool
  /-- BOOT_STATUS and BOOT_IMAGE_VER in the snapshot (R426). -/
  bootStatus : Word
  imageVer : Word
  /-- DETAIL of a cold restore, 0 for any other start, and the banks whose failure led to it (R427, R169). -/
  cold : Nat
  retFail : List Nat
  /-- The thermal trip of R401 holds. -/
  tripped : Bool
  /-- Wake sources asserted, as last reported: bit 0 WAKE_N, bit 1 the QB0 clock lane, bit 2 MSPI_CS_N (R429). -/
  sources : Nat
deriving DecidableEq, Repr

def PwrState.idle : PwrState :=
  ⟨none, none, none, 0, 0, 0, 0, 0xF, [], 0, [], false, [], 0, none, 0, false, 0, 0, 0, [], false, 0⟩

/-- The device. -/
structure State where
  /-- Register words by address; an unlisted register holds its reset word (RegMap.resetWord). -/
  regs : SMap Word
  /-- The central store's bytes by address; an unlisted byte reads 0 (assumption 4). -/
  store : List Host.Cell
  /-- The attached flash's bytes by flash address; an unlisted byte reads 0xFF, erased. -/
  flash : List Host.Cell
  /-- The fuse array (R76); an unlisted word is unprogrammed. -/
  fuses : SMap Word
  /-- The indices of the power domains that are on, rising (spec/01, table of power domains). -/
  domains : List Nat
  /-- AIR_COUNT, 64 bits (R187). -/
  air : Nat
  /-- Ticks of the 32.768 kHz clock since the last POR, and HK ticks since the last of them. -/
  aonTicks : Nat
  hkSub : Nat
  pins : Pins
  boot : BootState
  flashOps : List FlashUser
  sec : SecState
  clk : ClkState
  mspi : MspiState
  /-- The raise FIFO of the event unit, oldest first, at most 64 (R405). -/
  raise : List EventRec
  /-- The shadows of the two-part values, by 16 × the pair's low address + requester key (R444). -/
  shadows : SMap Shadow
  /-- The store banks that are powered down (R22). -/
  banksOff : List Nat
  link : LinkState
  /-- The queues by number (R129); an unlisted queue is empty and out of use. -/
  queues : SMap QueueState
  /-- The stored bit errors by 64-bit word index of the store: 1 one check bit inverted, 2 two (R157, R161). -/
  ecc : SMap Nat
  /-- Uncorrectable words the background pass has found so far (R163). -/
  scrubUnc : Nat
  /-- The DMA channels by number. -/
  dma : SMap DmaState
  time : AirState
  bmb : BmbState
  dlc : CarrierState
  ulc : CarrierState
  ul : UplinkState
  smp : SampleState
  /-- Phases of the 32-bit NCO accumulators: 0 to 7 downlink carriers, 8 to 15 uplink carriers, 16 to 19 PRACH engines, 20 the canceller's
  subband (R241, R260, R274, R308). -/
  nco : SMap Nat
  sect : SectionState
  /-- The AIR_COUNT at which a path's RSSI window in progress began (R256). -/
  rssi : SMap Nat
  rf : RfState
  lin : LinState
  sfd : SfdState
  cal : CalState
  /-- Events that are raised once per frame: 65,536 × code + source, with the frame index plus 1 (R248, R251). -/
  seen : SMap Nat
  /-- The signal processors by number: T0 to T11, and 12 the Dean core. -/
  cores : SMap CoreState
  hk : HkState
  pwr : PwrState
  /-- The MODEL's counter of free values used (assumption 2); not the device's. -/
  fresh : Nat
  /-- The commands that wait, first in first out. -/
  pending : List Instr
deriving DecidableEq, Repr

/-- The device right after a power-on reset with DETAIN_N high, at start step 2. Every register holds the reset value of its field
table, but those that show the fuses and the start: BOOT_STATUS.STEP 2, PROC_STATUS.VENDOR_ROOT_OK 1 and PWR_BELL_ADDR.ADDR,
which is the low half of DEVICE_SERIAL. What the flash, the fuses and the straps hold is no reset value of the device: an
erased flash, a vendor root and trims of zeros with matching check words, serial 1, straps 0 (assumption 3). -/
def State.reset : State where
  regs := [(0x10000, 0x20000#32), (0x20000, 0x4#32), (0x40064, 0x1#32)]
  store := []
  flash := []
  fuses := [(16, 1972200246#32), (17, 1#32), (1023, 3721362808#32)]
  domains := [0, 1]
  air := 0
  aonTicks := 0
  hkSub := 0
  pins := { detain := 0, refclk := true, boardId := 0, flashMode := 0, irqN := true, sysclk0 := 0, sysclk1 := 0 }
  boot := {
    kind := .por, tries := 0, density := 0, dir := none, cache := ⟨false, 0, 0, 0, false⟩, writing := none, waiting := [],
    erasing := false, header := [], sections := [], hot := false, vcoreWait := false, storeReady := false, profile := [],
    kept := [], runDigest := [], rollbackIndex := 0, ownerSlot := 0xFF, arrayLevel := 0, noLink := false, loaded := [],
    heartbeat := false, warmWaits := false, afterMga := [], afterMspi := none, lastSlot := 0,
    flashLink := FlashLink.boot }
  flashOps := []
  sec := { running := none, waits := none, nonce := [], attUnits := 0, unseals := true, keySpent := false }
  clk := { phaseLeft := 0, sinceLock := 0 }
  mspi := { held := none, posted := [], miso := [] }
  raise := []
  shadows := []
  banksOff := []
  link := LinkState.idle
  queues := []
  ecc := []
  scrubUnc := 0
  dma := []
  time := AirState.idle
  bmb := { shadow := [], boundary := 0 }
  dlc := CarrierState.idle
  ulc := CarrierState.idle
  ul := UplinkState.idle
  smp := SampleState.idle
  nco := []
  sect := { held := [], serial := 0 }
  rssi := []
  rf := RfState.idle
  lin := LinState.idle
  sfd := SfdState.idle
  cal := CalState.idle
  seen := []
  cores := []
  hk := HkState.idle
  pwr := PwrState.idle
  fresh := 0
  pending := []

/-- Why a step stops with a fault: nothing in this device does. -/
inductive Fault where
  /-- Raised by no command: the spec gives the device no state in which it stops for good. Safe. -/
  | none
deriving DecidableEq, Repr

/-- Why a command is refused. -/
inductive Refusal where
  /-- An arm of `exec` whose meaning is not written. Safe. -/
  | notModelled (mnemonic : String)
deriving DecidableEq, Repr

end Sys2Proof.Machine
end

