-- ==== Sys2Proof/Machine/Ops.lean ====
section
/-!
DEFINITION. The named operations on the state that every block shares: reading and writing a register and its fields,
the store, the flash and the fuses byte by byte, power domains, raising events (R405) and long-operation status words
(R403, R404).
-/

namespace Sys2Proof.Machine

/-- A step that goes on. -/
abbrev Out := Host.Outcome State Fault Refusal

/-- The word that the register at `a` holds. -/
def State.rd (s : State) (a : Nat) : Word := SMap.get (resetWord a) s.regs a

/-- The device loads the register at `a` with `w`, whatever the access types of its fields. -/
def State.wr (s : State) (a : Nat) (w : Word) : State := { s with regs := SMap.set (resetWord a) s.regs a w }

/-- The value of a register field. -/
def State.fld (s : State) (f : Fld) : Nat := getField f.hi f.lo (s.rd f.addr)

/-- A field of a register reads as set. -/
def State.on (s : State) (f : Fld) : Bool := s.fld f ≠ 0

/-- The device loads a register field. -/
def State.setFld (s : State) (f : Fld) (v : Nat) : State := s.wr f.addr (putField f.hi f.lo v (s.rd f.addr))

/-- The width of a field in bits. -/
def Fld.width (f : Fld) : Nat := f.hi + 1 - f.lo

/-- A count field rises by `n` and stops at all ones (R446). -/
def State.count (s : State) (f : Fld) (n : Nat) : State := s.setFld f (satAdd f.width (s.fld f) n)

/-- A count field that wraps (R446). -/
def State.countWrap (s : State) (f : Fld) (n : Nat) : State := s.setFld f (s.fld f + n)

/-- The value of field `f` in written data. -/
def Fld.of (f : Fld) (d : Word) : Nat := getField f.hi f.lo d

/-- Written data with field `f` replaced. -/
def Fld.put (f : Fld) (v : Nat) (d : Word) : Word := putField f.hi f.lo v d

/-- A write of `d` by software to the register at `a`, field by field under R7 and R9, without further effect. -/
def State.plainWrite (s : State) (a : Nat) (d : Word) : State := s.wr a (writeWord a d (s.rd a))

/-- Every register of a list gets its reset word in the bits of `m`. -/
def State.clearFlds (s : State) (fs : List Fld) : State := fs.foldl (fun s f => s.setFld f 0) s

/-- The next free value of the model (assumption 2). -/
def State.useFresh (s : State) : State := { s with fresh := s.fresh + 1 }

/-- The state after `f` where `c` holds, else unchanged. -/
def State.iff (s : State) (c : Bool) (f : State → State) : State := if c then f s else s

/-- A pass of `f` over the numbers below `n`, in rising order. -/
def State.forEach (s : State) (n : Nat) (f : State → Nat → State) : State := (List.range n).foldl f s

/-! ### Power domains -/

/-- Domain `i` of the table of power domains is on. -/
def State.domOn (s : State) (i : Nat) : Bool := s.domains.contains i

/-- Switch domain `i` on; the list of domains keeps rising order. -/
def State.switchOn (s : State) (i : Nat) : State :=
  { s with domains := (List.range 17).filter (fun d => s.domains.contains d || d == i) }

/-- Switch domain `i` off. -/
def State.switchOff (s : State) (i : Nat) : State := { s with domains := s.domains.filter (· != i) }

def pdAon : Nat := 0
def pdCtl : Nat := 1
def pdSyn : Nat := 2
def pdLnk : Nat := 3
def pdCst : Nat := 4
def pdDpx : Nat := 5
def pdLin : Nat := 6
def pdSfd : Nat := 7
def pdDsp : Nat := 8
/-- PD_PGn. -/
def pdPg (n : Nat) : Nat := 9 + n

/-- The registers with an address from `lo` up to `hi`, bound `hi` excluded, return to their reset words. -/
def State.resetRange (s : State) (lo hi : Nat) : State :=
  { s with regs := s.regs.filter (fun p => decide (p.1 < lo) || decide (hi ≤ p.1)) }

/-! ### Store, flash, fuses -/

/-- First address of the store window (R20). -/
def storeBase : Nat := 0x10000000
/-- First address after the store window. -/
def storeEnd : Nat := 0x18000000

/-- A byte of the store by address. -/
def State.storeByte (s : State) (a : Nat) : Byte := SMap.get 0 s.store a

/-- `n` bytes of the store from address `a`. -/
def State.storeBytes (s : State) (a n : Nat) : List Byte := SMap.getRange 0 s.store a n

/-- Bytes written into the store from address `a`. -/
def State.putStore (s : State) (a : Nat) (bs : List Byte) : State := { s with store := SMap.setRange 0 s.store a bs }

/-- `n` bytes of the flash from flash address `a`; an erased byte reads 0xFF. -/
def State.flashBytes (s : State) (a n : Nat) : List Byte := SMap.getRange 0xFF#8 s.flash a n

/-- The flash holds `bs` from flash address `a`. -/
def State.putFlash (s : State) (a : Nat) (bs : List Byte) : State :=
  { s with flash := SMap.setRange 0xFF#8 s.flash a bs }

/-- The flash from `a` for `n` bytes is erased to 0xFF. -/
def State.eraseFlash (s : State) (a n : Nat) : State :=
  { s with flash := s.flash.filter (fun p => decide (p.1 < a) || decide (a + n ≤ p.1)) }

/-- Every byte of the flash from `a` for `n` bytes reads 0xFF. -/
def State.flashErased (s : State) (a n : Nat) : Bool :=
  !s.flash.any (fun p => decide (a ≤ p.1) && decide (p.1 < a + n) && p.2 != 0xFF#8)

/-- A fuse word (R76). -/
def State.fuse (s : State) (w : Nat) : Word := SMap.get 0 s.fuses w

/-- `n` fuse words from word `w` as bytes, each word little-endian (R76). -/
def State.fuseBytes (s : State) (w n : Nat) : List Byte := wordsToBytes (SMap.getRange 0 s.fuses w n)

/-- Fuse bits blow from 0 to 1 and stay (R83). -/
def State.blow (s : State) (w : Nat) (v : Word) : State := { s with fuses := SMap.set 0 s.fuses w (s.fuse w ||| v) }

/-- DEVICE_SERIAL (R76). -/
def State.serial (s : State) : Nat := leNat (s.fuseBytes 17 2)

/-! ### Events (R405) -/

/-- An occurrence of an event enters the raise FIFO with its INFO and the AIR_COUNT of the instant; with 64
occurrences in the FIFO it is lost and counted (R405). With PD_CTL off the event unit is off, and nothing is raised (R412). -/
def State.event (s : State) (code info : Nat) : State :=
  if !s.domOn pdCtl then s
  else if s.raise.length < 64 then
    { s with raise := s.raise ++ [⟨code, BitVec.ofNat 32 info, s.air⟩] }
  else s.count Fld.EVT_DROP_LOST 1

/-- Some code has both its STAT bit and its bit in the route register `rt` set (R406). -/
def State.statRouted (s : State) (rt : Nat → Nat) : Bool :=
  (List.range 8).any (fun k => (s.rd (Reg.EVT_STATk k) &&& s.rd (rt k)) != 0)

/-! ### Long operations (R403, R404) -/

/-- STATE codes of LOP_STATn. -/
def lopIdle : Nat := 0
def lopQueued : Nat := 1
def lopRunning : Nat := 2
def lopDone : Nat := 3
def lopFailed : Nat := 4
def lopAborted : Nat := 5

/-- STATE of long operation `n`. -/
def State.lopState (s : State) (n : Nat) : Nat := s.fld (Fld.LOP_STATn_STATE n)

/-- Long operation `n` is QUEUED or RUNNING. -/
def State.lopBusy (s : State) (n : Nat) : Bool := s.lopState n == lopQueued || s.lopState n == lopRunning

/-- UNITS_DONE and UNITS_TOTAL for `done` of `total` units, scaled above 4,095 (R404). -/
def State.lopUnits (s : State) (n done total : Nat) : State :=
  if total ≤ 4095 then
    (s.setFld (Fld.LOP_STATn_UNITS_DONE n) done).setFld (Fld.LOP_STATn_UNITS_TOTAL n) total
  else
    (s.setFld (Fld.LOP_STATn_UNITS_DONE n) (done * 4095 / total)).setFld (Fld.LOP_STATn_UNITS_TOTAL n) 4095

/-- An accepted GO sets QUEUED or RUNNING with ERR 0 and UNITS_DONE 0 (R403). -/
def State.lopStart (s : State) (n state total : Nat) : State :=
  ((s.wr (Reg.LOP_STATn n) 0).setFld (Fld.LOP_STATn_STATE n) state).lopUnits n 0 total

/-- A queued operation begins to run. -/
def State.lopRun (s : State) (n : Nat) : State := s.setFld (Fld.LOP_STATn_STATE n) lopRunning

/-- A long operation ends in `state` with error `err`: event 0x06 LOP_END (R404, R408). -/
def State.lopEnd (s : State) (n state err : Nat) : State :=
  ((s.setFld (Fld.LOP_STATn_STATE n) state).setFld (Fld.LOP_STATn_ERR n) err).event 0x06
    (n + 16 * state + 256 * err)

/-! ### Status codes and access (R20 to R23, R30, R74, R362, R477) -/

def stOk : Nat := 0x11
def stRetry : Nat := 0x22
def stCrcErr : Nat := 0x33
def stCmdErr : Nat := 0x44
def stAddrErr : Nat := 0x55
def stDomainOff : Nat := 0x66
def stDenied : Nat := 0x77
def stEccErr : Nat := 0x88
def stNotReady : Nat := 0x99

/-- The power domain of the block at `a` in the block address map of R20; none where nothing is mapped. -/
def domainOf (a : Nat) : Option Nat :=
  if a < 0x00040000 then some pdCtl
  else if a < 0x00050000 then some pdAon
  else if a < 0x00060000 then some pdSyn
  else if a < 0x00080000 then some pdCtl
  else if a < 0x000B0000 then some pdLnk
  else if a < 0x000D0000 then some pdCst
  else if a < 0x000E0000 then some pdCtl
  else if a < 0x00180000 then some pdDpx
  else if a < 0x001C0000 then some pdLin
  else if a < 0x00200000 then some pdSfd
  else if a < 0x00280000 then some (pdPg ((a - 0x00200000) / 0x10000))
  else if a < 0x00300000 then some pdSyn
  else if a < 0x00400000 then some pdCtl
  else if a < 0x00900000 then some pdDsp
  else if storeBase ≤ a ∧ a < storeEnd then some pdCst
  else none

/-- The address lies in the program memory of a Tutor or of the Dean core (core windows, R74). -/
def isProgMem (a : Nat) : Bool :=
  (decide (0x00400000 ≤ a) && decide (a < 0x00700000) && decide ((a - 0x00400000) % 0x40000 < 0x10000)) ||
  (decide (0x00700000 ≤ a) && decide (a < 0x00740000))

/-- R74 and R362: the access rules forbid requester `q` this access. -/
def State.forbidden (s : State) (q : Requester) (a : Nat) (write : Bool) : Bool :=
  match q with
  | .proctor => false
  | .tutor n =>
    !((decide (0x00400000 + 0x40000 * n.val ≤ a) && decide (a < 0x00440000 + 0x40000 * n.val)) ||
      (decide (storeBase ≤ a) && decide (a < storeEnd))) || (isProgMem a && write)
  | .dean =>
    (decide (0x00024000 ≤ a) && decide (a < 0x00030000)) ||
    (decide (0x00020000 ≤ a) && decide (a < 0x00024000) && write)
  | _ =>
    (decide (0x00024000 ≤ a) && decide (a < 0x00030000)) ||
    (isProgMem a && write && s.fld Fld.PROC_STATUS_DBG_LEVEL == 0) ||
    (a == Reg.BOOT_HEARTBEAT && write)

/-- The store bank of an address (R156): banks of 2 MiB. -/
def bankOf (a : Nat) : Nat := (a - storeBase) / 0x200000

/-- Bank `k` of the store is powered (R22, R167). -/
def State.bankPowered (s : State) (k : Nat) : Bool := !s.banksOff.contains k

/-- The status with which the fabric judges an access before it is performed, in the order of R477. -/
def State.judge (s : State) (q : Requester) (a : Nat) (write : Bool) : Nat :=
  match domainOf a with
  | none => stAddrErr
  | some d =>
    if a % 4 ≠ 0 then stAddrErr
    else if s.forbidden q a write then stDenied
    else if !s.domOn d then stDomainOff
    else if decide (storeBase ≤ a) && !s.bankPowered (bankOf a) then stDomainOff
    else stOk

/-- A failing access loads DEV_MERR_ADDR and DEV_MERR_INFO and sets VALID (R38, R35). -/
def State.merr (s : State) (q : Requester) (a : Nat) (write posted : Bool) (status : Nat) : State :=
  (s.wr Reg.DEV_MERR_ADDR (BitVec.ofNat 32 a)).wr Reg.DEV_MERR_INFO
    (placeField 31 31 1 ||| placeField 13 13 (bit posted) ||| placeField 12 12 (bit write) |||
      placeField 11 8 q.code ||| placeField 7 0 status)

end Sys2Proof.Machine
end

