-- ==== Sys2Proof/Machine/Dsp.lean ====
section
/-!
DEFINITION. The signal processors' state (spec/14): registers (R368), memories (R363, R364), stack, loops, prefetch queue and
repeat cache (R375 to R378), interrupt sources (R379), traps (R380, R381), reset and halt (R382), mailboxes and doorbells (R386, R387).
-/

namespace Sys2Proof.Machine

/-- Number of the Dean core. -/
def deanCore : Nat := 12

def isDean (c : Nat) : Bool := c == deanCore

def State.core (s : State) (c : Nat) : CoreState := SMap.get CoreState.idle s.cores c

def State.setCore (s : State) (c : Nat) (x : CoreState) : State :=
  { s with cores := SMap.set CoreState.idle s.cores c x }

/-- STATE codes of CORE_STATUS. -/
def coreReset : Nat := 0
def coreRun : Nat := 1
def coreWait : Nat := 2
def coreHalted : Nat := 3
def coreFault : Nat := 4

def State.coreState (s : State) (c : Nat) : Nat := s.fld (Fld.CORE_STATUS_STATE c)

def State.setCoreState (s : State) (c st : Nat) : State := s.setFld (Fld.CORE_STATUS_STATE c) st

/-- LIGHT SLEEP stops T0 to T11 (R409, R435). -/
def State.coreStopped (s : State) (c : Nat) : Bool := s.pwr.base == some 2 && !isDean c

/-! ### Memories (R363, R364) -/

/-- Words of program memory. -/
def progWords (c : Nat) : Nat := if isDean c then 65536 else 16384

/-- Words of each data memory. -/
def dataWords (c : Nat) : Nat := if isDean c then 131072 else 32768

/-- A data memory by number: 0 X, 1 Y, 2 Z. -/
def CoreState.mem (x : CoreState) (m : Nat) : SMap Nat := if m = 0 then x.x else if m = 1 then x.y else x.z

def CoreState.readData (x : CoreState) (m a : Nat) : Nat := SMap.get 0 (x.mem m) a

def CoreState.writeData (x : CoreState) (m a v : Nat) : CoreState :=
  let d := SMap.set 0 (x.mem m) a (v % 2 ^ 24)
  if m = 0 then { x with x := d } else if m = 1 then { x with y := d } else { x with z := d }

def CoreState.progWord (x : CoreState) (a : Nat) : Word := SMap.get 0 x.prog a

/-- PD_DSP powers up: every memory is zero, and every core is in RESET (R363). -/
def State.dspPowerUp (s : State) : State := { s with cores := [] }

/-! ### Registers (R368, R369) -/

/-- SR bits. -/
def srC : Nat := 0
def srV : Nat := 1
def srZ : Nat := 2
def srN : Nat := 3
def srCl : Nat := 4
def srIm : Nat := 5
def srSat : Nat := 6
def srIe : Nat := 7
def srTl : Nat := 13

def CoreState.flag (x : CoreState) (b : Nat) : Bool := bitOf x.sr b

def CoreState.setFlag (x : CoreState) (b : Nat) (v : Bool) : CoreState := { x with sr := setBitOf x.sr b v }

/-- ILVL, the level being served. -/
def CoreState.ilvl (x : CoreState) : Nat := x.sr / 256 % 32

def CoreState.setIlvl (x : CoreState) (k : Nat) : CoreState :=
  { x with sr := x.sr - 256 * x.ilvl + 256 * (k % 32) }

/-- A register held by its code: K, SYSPAGE, A, O and M. -/
def CoreState.r (x : CoreState) (code : Nat) : Nat := SMap.get 0 x.regs code

def CoreState.setR (x : CoreState) (code v : Nat) : CoreState := { x with regs := SMap.set 0 x.regs code v }

/-- An accumulator's 56-bit code. -/
def CoreState.accCode (x : CoreState) (k : Nat) : Nat := SMap.get 0 x.acc k

def CoreState.setAcc (x : CoreState) (k v : Nat) : CoreState := { x with acc := SMap.set 0 x.acc k (v % 2 ^ 56) }

/-- An accumulator's value. -/
def CoreState.accVal (x : CoreState) (k : Nat) : Int := sext 56 (x.accCode k)

/-- G is copies of H[23]. -/
def fits48 (code : Nat) : Bool :=
  let t := code / 2 ^ 47 % 2 ^ 9
  t == 0 || t == 511

/-- The clamped view of a 56-bit code (R370). -/
def clampedView (code : Nat) : Nat :=
  if fits48 code then code / 2 ^ 24 % 2 ^ 24 else if sext 56 code < 0 then 0x800000 else 0x7FFFFF

/-- A register as 24 bits, without the effect on CL. -/
def CoreState.peek (x : CoreState) (code : Nat) : Nat :=
  if code < 4 then x.r code
  else if code < 8 then clampedView (x.accCode (code - 4))
  else if code < 0x0C then toCode 24 (sext 8 (x.accCode (code - 8) / 2 ^ 48))
  else if code < 0x10 then x.accCode (code - 0x0C) / 2 ^ 24 % 2 ^ 24
  else if code < 0x14 then x.accCode (code - 0x10) % 2 ^ 24
  else if code = 0x14 then x.sr
  else if code = 0x15 then (x.loops.head?.map (·.count)).getD 0
  else if code = 0x16 then x.stack.length
  else x.r code

/-- A read of a register: a clamped view that clamps sets CL. -/
def CoreState.readReg (x : CoreState) (code : Nat) : CoreState × Nat :=
  (if 4 ≤ code ∧ code < 8 ∧ !fits48 (x.accCode (code - 4)) then x.setFlag srCl true else x, x.peek code)

/-- The code of G:H:L with H and L, G, replaced from bit `lo` for `n` bits. -/
def patch (code lo n v : Nat) : Nat :=
  code - (code / 2 ^ lo % 2 ^ n) * 2 ^ lo + (v % 2 ^ n) * 2 ^ lo

/-- A write of a 24-bit value to a register: a narrower one takes the low bits; SP ignores it. -/
def CoreState.writeReg (x : CoreState) (code v : Nat) : CoreState :=
  let v := v % 2 ^ 24
  if code < 4 then x.setR code v
  else if code < 8 then x.setAcc (code - 4) (toCode 56 (sext 24 v * 2 ^ 24))
  else if code < 0x0C then x.setAcc (code - 8) (patch (x.accCode (code - 8)) 48 8 v)
  else if code < 0x10 then x.setAcc (code - 0x0C) (patch (x.accCode (code - 0x0C)) 24 24 v)
  else if code < 0x14 then x.setAcc (code - 0x10) (patch (x.accCode (code - 0x10)) 0 24 v)
  else if code = 0x14 then { x with sr := v % 2 ^ 14, srMoved := true }
  else if code = 0x15 then
    { x with loops := match x.loops with
      | f :: fs => { f with count := v % 2 ^ 16 } :: fs
      | [] => [] }
  else if code = 0x16 then x
  else if code = 0x17 then x.setR 0x17 (v % 256)
  else x.setR code v

/-! ### Prefetch queue, loops and the stack -/

/-- The instruction at `pc` comes from the repeat cache (R378). -/
def CoreState.fromCache (x : CoreState) : Option Word :=
  match x.loops with
  | f :: _ =>
    if f.cached && f.depth == x.stack.length && decide (f.first ≤ x.pc) && decide (x.pc ≤ f.last) then f.body[x.pc - f.first]?
    else none
  | [] => none

/-- The queue fills to three words; nothing is read while the repeat cache serves (R375, R378). -/
def CoreState.fill (x : CoreState) (c : Nat) : CoreState :=
  if x.fromCache.isSome then { x with queue := [] }
  else
    let n := x.queue.length
    { x with queue := x.queue ++ (((List.range (3 - n)).map (x.pc + n + ·)).filter (· < progWords c)).map x.progWord }

/-- Execution goes on at `t` with an empty queue. -/
def CoreState.goTo (x : CoreState) (c t : Nat) : CoreState := { x with pc := t, queue := [], rpt := none }.fill c

/-- A loop's next iteration: on the Dean core a body of at most 64 words that may be cached is, once it is complete (R378). -/
def LoopFrame.again (f : LoopFrame) (dean : Bool) : LoopFrame :=
  let n := f.last + 1 - f.first
  let ok := dean && decide (n ≤ 64) && decide (f.body.length = n) &&
    f.body.all (fun w => match decodeCore dean w with
      | some op => !op.uncached
      | none => true)
  if f.cached then { f with count := f.count - 1 }
  else if ok then { f with count := f.count - 1, cached := true }
  else { f with count := f.count - 1, body := [] }

/-- What follows the instruction at `pc` at stack depth `depth`: at a body's end the next iteration, or the loop closes (R376). -/
def loopEnd (dean : Bool) (depth pc : Nat) : List LoopFrame → List LoopFrame × Nat
  | [] => ([], pc + 1)
  | f :: fs =>
    if f.depth = depth ∧ f.last = pc then
      if f.count ≤ 1 then loopEnd dean depth pc fs else (f.again dean :: fs, f.first)
    else (f :: fs, pc + 1)

/-- The loops that a branch or return to `t` leaves, at stack depth `depth`, close (R376). -/
def closeLoops (depth t : Nat) : List LoopFrame → List LoopFrame
  | [] => []
  | f :: fs =>
    if depth < f.depth ∨ (f.depth = depth ∧ (t < f.first ∨ f.last < t)) then closeLoops depth t fs else f :: fs

/-- The word executed at `pc` joins the copy of the innermost body. -/
def CoreState.record (x : CoreState) (w : Word) : CoreState :=
  match x.loops with
  | f :: fs =>
    if !f.cached && f.depth == x.stack.length && decide (f.first ≤ x.pc) && decide (x.pc ≤ f.last) then
      { x with loops := { f with body := f.body ++ [w] } :: fs }
    else x
  | [] => x

/-- The words up to address `a` that a count of 0 skips join the copy as well (R376, R377). -/
def CoreState.recordSkipped (x : CoreState) (a : Nat) : CoreState :=
  (List.range (a - x.pc)).foldl (fun y i =>
    { ({ y with pc := x.pc + 1 + i }.record (x.queue.getD (i + 1) (x.progWord (x.pc + 1 + i)))) with pc := x.pc }) x

/-- Execution passes the instruction at address `a` in sequence: the loops that end there, and the queue. -/
def CoreState.pass (x : CoreState) (c a : Nat) : CoreState :=
  let r := loopEnd (isDean c) x.stack.length a x.loops
  if r.2 = x.pc + 1 then { x with loops := r.1, pc := r.2, queue := x.queue.drop 1, rpt := none }.fill c
  else { x with loops := r.1 }.goTo c r.2

/-- The instruction `w` at `pc` is done: an RPT repeats it, or execution goes on (R377). -/
def CoreState.advance (x : CoreState) (c : Nat) (w : Word) : CoreState :=
  match x.rpt with
  | some (n, _) => if 1 < n then { x with rpt := some (n - 1, some w) } else (x.record w).pass c x.pc
  | none => (x.record w).pass c x.pc

/-- Entries of the hardware stack (R379). -/
def stackSize (c : Nat) : Nat := if isDean c then 32 else 16

/-! ### Interrupt sources (R379) -/

/-- A latched source pends: 3 and 7, and a Tutor's 4 to 6, while PD_DSP is on. -/
def State.corePend (s : State) (c k : Nat) : State :=
  if s.domOn pdDsp then s.wr (Reg.CORE_IRQ c) (s.rd (Reg.CORE_IRQ c) ||| BitVec.ofNat 32 (2 ^ (16 + k))) else s

/-- A status register is read: the source held until then no longer pends. -/
def State.coreUnpend (s : State) (c k : Nat) : State :=
  s.wr (Reg.CORE_IRQ c) (s.rd (Reg.CORE_IRQ c) &&& ~~~BitVec.ofNat 32 (2 ^ (16 + k)))

/-- Entries of each mailbox (R386). -/
def mbxSize (c : Nat) : Nat := if isDean c then 16 else 8

/-- The Tutors whose MBX_OUT is not empty, and those in FAULT, as masks (DEAN_MBX_PEND). -/
def State.tutorsOut (s : State) : Nat := bitsToNat ((List.range 12).map (fun n => (s.core n).mbxOut != []))
def State.tutorsFault (s : State) : Nat := bitsToNat ((List.range 12).map (fun n => s.coreState n == coreFault))

/-- PEND: bit k is set while source k is pending. -/
def State.corePending (s : State) (c : Nat) : Nat :=
  let held := s.fld (Fld.CORE_IRQ_PEND c)
  let own := [(s.core c).mbxIn != [], decide ((s.core c).mbxOut.length < mbxSize c), s.fld (Fld.CORE_DOORBELL_COUNT c) == 0,
    bitOf held 3]
  let mid := if isDean c then [s.statRouted Reg.EVT_RT_DEANk, s.tutorsOut != 0, s.tutorsFault != 0]
    else [bitOf held 4, bitOf held 5, bitOf held 6]
  bitsToNat (own ++ mid ++ [bitOf held 7])

/-- A pending source is enabled: WAIT ends. -/
def State.coreAwake (s : State) (c : Nat) : Bool := s.corePending c &&& s.fld (Fld.CORE_IRQ_EN c) != 0

/-- STATE as it reads: a WAIT whose condition holds has ended (R384). -/
def State.coreStateNow (s : State) (c : Nat) : Nat :=
  if s.coreState c = coreWait ∧ s.coreAwake c then coreRun else s.coreState c

/-! ### Reset, halt and traps -/

/-- The core's registers, stack and loops as core reset leaves them; memories and mailboxes stay (R382). -/
def CoreState.cleared (x : CoreState) : CoreState :=
  { CoreState.idle with prog := x.prog, x := x.x, y := x.y, z := x.z, mbxIn := x.mbxIn, mbxOut := x.mbxOut }

/-- RST holds the core in RESET. -/
def State.holdCore (s : State) (c : Nat) : State :=
  ((s.setCore c (s.core c).cleared).setCoreState c coreReset).wr (Reg.CORE_TRAP c) 0

/-- RST is released: the core runs from its reset vector, its cycle count from 0. -/
def State.releaseCore (s : State) (c : Nat) : State :=
  let s := (s.setCore c ((s.core c).cleared.goTo c 0)).setCoreState c coreRun
  ((s.wr (Reg.CORE_TRAP c) 0).wr (Reg.CORE_CYCLES_LO c) 0).wr (Reg.CORE_CYCLES_HI c) 0

/-- Start step 13: Proctor releases the Dean core and every Tutor core that received a program section (R388). -/
def State.startCores (s : State) : State :=
  if !s.domOn pdDsp then s
  else (s.boot.loaded.filter (· < 12) ++ [deanCore]).foldl (fun s c => (s.setFld (Fld.CORE_CTRL_RST c) 0).releaseCore c) s

/-- At a boundary with HALT_REQ set and no RPT running, the core halts. -/
def State.coreBoundary (s : State) (c : Nat) : State :=
  let x := s.core c
  if s.on (Fld.CORE_CTRL_HALT_REQ c) && (s.coreState c == coreRun || s.coreState c == coreWait) && x.rpt.isNone && x.sys.isNone
  then (s.setFld (Fld.CORE_CTRL_HALT_REQ c) 0).setCoreState c coreHalted
  else s

/-- Cycles in RUN (CORE_CYCLES), modulo 2 ^ 64 (R446). -/
def State.addCycles (s : State) (c n : Nat) : State :=
  let v := ((s.rd (Reg.CORE_CYCLES_LO c)).toNat + 2 ^ 32 * (s.rd (Reg.CORE_CYCLES_HI c)).toNat + n) % 2 ^ 64
  (s.wr (Reg.CORE_CYCLES_LO c) (BitVec.ofNat 32 v)).wr (Reg.CORE_CYCLES_HI c) (BitVec.ofNat 32 (v / 2 ^ 32))

/-- Trap causes (R380). -/
def trapIllegal : Nat := 0x01
def trapResidue : Nat := 0x02
def trapEccFetch : Nat := 0x03
def trapEccData : Nat := 0x04
def trapStack : Nat := 0x05
def trapLoop : Nat := 0x06
def trapSysErr : Nat := 0x07
def trapSysTimeout : Nat := 0x08
def trapFetchRange : Nat := 0x09
def trapSoftware : Nat := 0x0A

/-- The event of a trap: 0xD2, 0xD3 with the memory and word address of the error, or 0xD4 (R380, R390). -/
def State.trapEvent (s : State) (c cause pc mem addr : Nat) : State :=
  if cause = trapResidue then s.event 0xD2 (c + 65536 * (pc % 65536))
  else if cause = trapEccFetch then s.event 0xD3 (c + 65536 * (pc / 2 % 65536))
  else if cause = trapEccData then s.event 0xD3 (c + 16 * (mem + 1) + 65536 * (addr / 2 % 65536))
  else s.event 0xD4 (c + 256 * cause + 65536 * (pc % 65536))

/-- A trap of core `c` (R380, R381): a trap while TL is 1 is a FAULT. On a full stack nothing is pushed. -/
def State.coreTrap (s : State) (c cause info : Nat) (addr : Option Nat) (mem : Nat) : State :=
  let x := s.core c
  let s := if cause = trapResidue then s.count (Fld.CORE_COUNT_RESIDUE c) 1 else s
  if x.flag srTl then
    let s := (s.setCore c { x with sys := none, rpt := none }).setCoreState c coreFault
    s.event 0xD0 (c + 256 * s.fld (Fld.CORE_TRAP_CAUSE c) + 65536 * (x.pc % 65536))
  else
    let st := if x.stack.length < stackSize c then (x.pc, some x.sr) :: x.stack else x.stack
    let y : CoreState := { x with stack := st, sys := none, srMoved := false }
    let y := ((y.setFlag srTl true).setFlag srIe false).goTo c 4
    let s := s.wr (Reg.CORE_TRAP c) (BitVec.ofNat 32 (cause + 256 * (info % 256) + 65536 * (x.pc % 65536)))
    let s := match addr with
      | some a => s.wr (Reg.CORE_TRAP_ADDR c) (BitVec.ofNat 32 a)
      | none => s
    ((s.setCore c y).trapEvent c cause x.pc mem (addr.getD 0)).coreBoundary c

/-! ### Core registers -/

/-- A write to CORE_CTRL (R382). -/
def State.coreCtrlWrite (s : State) (c : Nat) (d : Word) : State :=
  let was := s.on (Fld.CORE_CTRL_RST c)
  let s := s.plainWrite (Reg.CORE_CTRL c) ((Fld.CORE_CTRL_RESUME c).put 0 d)
  let rst := s.on (Fld.CORE_CTRL_RST c)
  let s := if rst then s.holdCore c else if was then s.releaseCore c else s
  let s := if (Fld.CORE_CTRL_RESUME c).of d = 1 ∧ s.coreState c = coreHalted then
      let x := s.core c
      let y : CoreState := { x with loops := x.loops.map (fun f => { f with cached := false, body := [] }) }
      (s.setCore c (y.goTo c x.pc)).setCoreState c coreRun
    else s
  let s := if s.coreState c = coreHalted then s.setFld (Fld.CORE_CTRL_HALT_REQ c) 0 else s
  s.coreBoundary c

/-- CORE_TIMER_EXPIRY: the timer reaches 0; source 7 pends and the timer starts its next period. -/
def execCoreTimerExpiry (core : Fin 13) (s : State) : Out :=
  .next (if s.on (Fld.CORE_TIMER_PERIOD core.val) then s.corePend core.val 7 else s)

/-- A write to CORE_IRQ: W1C clears sources 3 and 7 only. -/
def State.coreIrqWrite (s : State) (c : Nat) (d : Word) : State :=
  s.plainWrite (Reg.CORE_IRQ c) (d &&& 0x0088FFFF#32)

/-! ### Mailboxes and doorbell (R386, R387) -/

/-- A push to the inbound (`out` false) or outbound mailbox. -/
def State.mbxPush (s : State) (c : Nat) (out : Bool) (w : Word) : State :=
  let x := s.core c
  if (if out then x.mbxOut else x.mbxIn).length < mbxSize c then
    s.setCore c (if out then { x with mbxOut := x.mbxOut ++ [w] } else { x with mbxIn := x.mbxIn ++ [w] })
  else (s.setFld (if out then Fld.MBX_STATUS_OUT_OVF c else Fld.MBX_STATUS_IN_OVF c) 1).event 0xD5 (c + 16 * bit out)

/-- A pop: the entry, or 0 with UNDER set. -/
def State.mbxPop (s : State) (c : Nat) (out : Bool) : State × Word :=
  let x := s.core c
  match (if out then x.mbxOut else x.mbxIn) with
  | w :: ws => (s.setCore c (if out then { x with mbxOut := ws } else { x with mbxIn := ws }), w)
  | [] => (s.setFld (if out then Fld.MBX_STATUS_OUT_UNDER c else Fld.MBX_STATUS_IN_UNDER c) 1, 0#32)

/-- Requester `q` writes to the inbound mailbox of core `c`; a requester that R386 does not name is ignored. -/
def State.mbxInWrite (s : State) (c : Nat) (q : Requester) (w : Word) : State :=
  match q with
  | .mspi | .mgq => s.mbxPush c false w
  | .dean => if isDean c then s else s.mbxPush c false w
  | _ => s

/-- Requester `q` reads the outbound mailbox of core `c`: a pop for the requesters that R386 names. -/
def State.mbxOutRead (s : State) (c : Nat) (q : Requester) : State × Word :=
  let pops := match q with
    | .mspi | .mgq => true
    | .tutor n => !isDean c && n.val != c
    | _ => !isDean c
  if pops then s.mbxPop c true else (s, ((s.core c).mbxOut.head?).getD 0)

/-- The doorbell's COUNT rises by `n`. -/
def State.doorbellAdd (s : State) (c n : Nat) : State :=
  let v := s.fld (Fld.CORE_DOORBELL_COUNT c) + n
  let s := if 255 < v then s.setFld (Fld.CORE_DOORBELL_OVF c) 1 else s
  s.setFld (Fld.CORE_DOORBELL_COUNT c) (min 255 v)

/-- A write to CORE_DOORBELL. -/
def State.doorbellWrite (s : State) (c : Nat) (d : Word) : State :=
  (s.plainWrite (Reg.CORE_DOORBELL c) d).doorbellAdd c ((Fld.CORE_DOORBELL_ADD c).of d)

end Sys2Proof.Machine
end

