-- ==== Sys2Proof/Machine/Crypto.lean ====
section
/-!
DEFINITION. The digests and signatures that Proctor checks: SHA-512 and RSASSA-PSS with the parameters of R79 and the
key encoding of R78. The spec names the two algorithms by their standards; their steps here are those of FIPS 180-4
and RFC 8017 (PRESUMED, assumption 6).
-/

namespace Sys2Proof.Machine

/-- The largest `x` of at most `n` more bits below `x` with `x ^ k ≤ v`: one bit is settled a step. -/
def rootBits (k v : Nat) : Nat → Nat → Nat
  | 0, x => x
  | n + 1, x => rootBits k v n (if (x + 2 ^ n) ^ k ≤ v then x + 2 ^ n else x)

/-- The first 64 bits of the fractional part of the `k`-th root of `p`, below 2 ^ 8: FIPS 180-4 takes its constants so. -/
def rootFraction (k p : Nat) : Nat := rootBits k (p * 2 ^ (64 * k)) 72 0 % 2 ^ 64

/-- The primes below `n`. -/
def primesBelow (n : Nat) : List Nat :=
  (List.range n).filter (fun p => decide (2 ≤ p) && (List.range p).all (fun d => decide (d < 2) || p % d != 0))

/-- The round constants: cube roots of the first eighty primes. -/
def shaRoundWords : List Nat := (primesBelow 410).map (rootFraction 3)

/-- The hash value before the first block: square roots of the first eight primes. -/
def shaStart : List Nat := (primesBelow 20).map (rootFraction 2)

/-- Rotation of a 64-bit word to the right. -/
def rotr64 (n x : Nat) : Nat := (x >>> n) ||| ((x <<< (64 - n)) % 2 ^ 64)

/-- The small sigma functions of the message schedule. -/
def shaSmall0 (x : Nat) : Nat := rotr64 1 x ^^^ rotr64 8 x ^^^ (x >>> 7)
def shaSmall1 (x : Nat) : Nat := rotr64 19 x ^^^ rotr64 61 x ^^^ (x >>> 6)

/-- The message schedule, newest word first: `n` further words from the sixteen latest. -/
def shaSchedule : Nat → List Nat → List Nat
  | 0, w => w
  | n + 1, w =>
    shaSchedule n
      (((shaSmall1 (w.getD 1 0) + w.getD 6 0 + shaSmall0 (w.getD 14 0) + w.getD 15 0) % 2 ^ 64) :: w)

/-- One round over the eight working variables. -/
def shaRound (v : List Nat) (kw : Nat × Nat) : List Nat :=
  let a := v.getD 0 0; let b := v.getD 1 0; let c := v.getD 2 0; let d := v.getD 3 0
  let e := v.getD 4 0; let f := v.getD 5 0; let g := v.getD 6 0; let h := v.getD 7 0
  let s1 := rotr64 14 e ^^^ rotr64 18 e ^^^ rotr64 41 e
  let ch := (e &&& f) ^^^ ((e ^^^ (2 ^ 64 - 1)) &&& g)
  let t1 := h + s1 + ch + kw.1 + kw.2
  let s0 := rotr64 28 a ^^^ rotr64 34 a ^^^ rotr64 39 a
  let mj := (a &&& b) ^^^ (a &&& c) ^^^ (b &&& c)
  [(t1 + s0 + mj) % 2 ^ 64, a, b, c, (d + t1) % 2 ^ 64, e, f, g]

/-- Bytes as a big-endian number. -/
def beNat (bs : List Byte) : Nat := bs.foldl (fun n b => n * 256 + b.toNat) 0

/-- A number as `n` big-endian bytes. -/
def beBytes (n v : Nat) : List Byte := (leBytes n v).reverse

/-- The big-endian 64-bit words of a block of `n` words. -/
def beWords : Nat → List Byte → List Nat
  | 0, _ => []
  | n + 1, bs => beNat (bytesAt bs 0 8) :: beWords n (bs.drop 8)

/-- One 128-byte block into the hash value. -/
def shaBlock (h : List Nat) (blk : List Byte) : List Nat :=
  let w := (shaSchedule 64 (beWords 16 blk).reverse).reverse
  let v := (shaRoundWords.zip w).foldl shaRound h
  (h.zip v).map (fun p => (p.1 + p.2) % 2 ^ 64)

/-- `n` blocks of 128 bytes. -/
def shaBlocks : Nat → List Nat → List Byte → List Nat
  | 0, h, _ => h
  | n + 1, h, bs => shaBlocks n (shaBlock h (bs.take 128)) (bs.drop 128)

/-- SHA-512: the 64 digest octets of a message. -/
def sha512 (m : List Byte) : List Byte :=
  let pad := m ++ [0x80#8] ++ List.replicate ((239 - m.length % 128) % 128) 0#8 ++ beBytes 16 (8 * m.length)
  (shaBlocks (pad.length / 128) shaStart pad).flatMap (beBytes 8)

/-- MGF1 with SHA-512: the first `n` octets of the mask of `seed`. -/
def mgf1 (seed : List Byte) (n : Nat) : List Byte :=
  ((List.range ((n + 63) / 64)).flatMap (fun c => sha512 (seed ++ beBytes 4 c))).take n

/-- Repeated squaring: `b ^ (2 ^ n) mod m`. -/
def sqrIter : Nat → Nat → Nat → Nat
  | 0, b, _ => b
  | n + 1, b, m => sqrIter n (b * b % m) m

/-- `s ^ 65537 mod m`, the public operation for the exponent R78 requires. -/
def rsaPublic (m s : Nat) : Nat := sqrIter 16 (s % m) m * s % m

/-- EMSA-PSS verification with emBits 4,095, a salt of 64 octets and trailer 0xBC (R79). -/
def pssVerify (mHash em : List Byte) : Bool :=
  let masked := em.take 447
  let h := (em.drop 447).take 64
  let db := (masked.zip (mgf1 h 447)).map (fun p => p.1 ^^^ p.2)
  let db := BitVec.ofNat 8 ((db.headD 0).toNat % 128) :: db.tail
  decide (em.length = 512) && decide (em.getD 511 0 = 0xBC#8) && decide ((masked.headD 0).toNat < 128) &&
    (db.take 382).all (fun b => b == 0#8) && decide (db.getD 382 0 = 1#8) &&
    decide (sha512 (List.replicate 8 0#8 ++ mHash ++ db.drop 383) = h)

/-- EMSA-PSS encoding of a message with a salt of 64 octets: emBits 4,095, trailer 0xBC (R79). -/
def pssEncode (salt msg : List Byte) : List Byte :=
  let h := sha512 (List.replicate 8 0#8 ++ sha512 msg ++ salt)
  let db := List.replicate 382 0#8 ++ 1#8 :: salt
  let masked := (db.zip (mgf1 h 447)).map (fun p => p.1 ^^^ p.2)
  (masked.headD 0 &&& 0x7F#8) :: masked.tail ++ h ++ [0xBC#8]

/-- `b ^ e mod m` for an exponent of `n` bits, from its most significant bit. -/
def powMod (b e m : Nat) : Nat → Nat
  | 0 => 1 % m
  | n + 1 =>
    let r := powMod b (e / 2) m n
    if e % 2 = 1 then r * r % m * b % m else r * r % m

/-- The signature of a message by the private key (modulus, exponent), as an integer (R79). -/
def rsaSign (modulus exponent : Nat) (salt msg : List Byte) : Nat :=
  powMod (beNat (pssEncode salt msg)) exponent modulus 4096

/-- The public key of R78 that 516 encoded bytes hold: modulus and exponent. -/
def keyModulus (key : List Byte) : Nat := fieldAt key 0 512
def keyExponent (key : List Byte) : Nat := fieldAt key 512 4

/-- A key that meets R78: exponent 65,537, modulus odd with bit 4,095 set. -/
def keyValid (key : List Byte) : Bool :=
  decide (keyExponent key = 65537) && decide (keyModulus key % 2 = 1) && decide (2 ^ 4095 ≤ keyModulus key)

/-- R79: the stored signature verifies over the message against the key; an invalid key verifies nothing. -/
def signatureVerifies (key sig msg : List Byte) : Bool :=
  let n := keyModulus key
  let s := fieldAt sig 0 512
  keyValid key && decide (s < n) && pssVerify (sha512 msg) (beBytes 512 (rsaPublic n s))

end Sys2Proof.Machine
end

