-- ==== Sys2Proof/Machine/StoreOps.lean ====
section
/-!
DEFINITION. Reads and writes of the central store with their SECDED code (R157 to R161), and the scrubbers (R163, R164).
-/

namespace Sys2Proof.Machine

/-! Requester codes of CST_ECC_LAST_INFO.REQ. -/

def reqLinkIn : Nat := 0
def reqLinkOut : Nat := 1
def reqDownlink : Nat := 2
def reqUplink : Nat := 3
def reqCapture : Nat := 4
def reqDma : Nat := 5
def reqFabric : Nat := 6
def reqScrub : Nat := 7
def reqRetention : Nat := 8

/-- The 64-bit word index of a store address (R162). -/
def wordIndex (a : Nat) : Nat := (a - storeBase) / 8

/-- The error a stored word holds. -/
def State.eccAt (s : State) (w : Nat) : Nat := SMap.get 0 s.ecc w

def State.setEcc (s : State) (w v : Nat) : State := { s with ecc := SMap.set 0 s.ecc w v }

/-- Stored words are hit: each holds an error from now on, in a bank that is powered. -/
def State.hits (s : State) (us : List StoreUpset) : State :=
  us.foldl (fun s u => s.iff (s.domOn pdCst && s.bankPowered (u.word.toNat / 0x40000)) (fun s =>
    s.setEcc u.word.toNat (if u.double then 2 else 1))) s

/-- A correctable word is read: corrected, counted, written back, event 0x40 (R158, R162). -/
def State.eccCorrected (s : State) (w req : Nat) : State :=
  ((s.setEcc w 0).count Fld.CST_ECC_CORR_COUNT 1).event 0x40 (w + 2 ^ 28 * req)

/-- An uncorrectable word is read: counted, CST_ECC_LAST loaded, event 0x41; the word stays as stored (R159). -/
def State.eccUncorrectable (s : State) (w req : Nat) : State :=
  (((s.count Fld.CST_ECC_UNC_COUNT 1).wr Reg.CST_ECC_LAST (BitVec.ofNat 32 (storeBase + 8 * w))).wr Reg.CST_ECC_LAST_INFO
    (placeField 31 31 1 ||| placeField 3 0 req)).event 0x41 (w + 2 ^ 28 * req)

/-- A read of the 64-bit word `w` by requester `req`: false when it is uncorrectable. -/
def State.checkWord (s : State) (w req : Nat) : State × Bool :=
  if s.eccAt w = 1 then (s.eccCorrected w req, true)
  else if s.eccAt w = 2 then (s.eccUncorrectable w req, false)
  else (s, true)

/-- Reads of `n` words from word `w`; false when one of them is uncorrectable. -/
def State.checkWords (s : State) (w req : Nat) : Nat → State × Bool
  | 0 => (s, true)
  | n + 1 =>
    let r := s.checkWord w req
    let r' := State.checkWords r.1 (w + 1) req n
    (r'.1, r.2 && r'.2)

/-- A read of `n` bytes of the store from `a`: the bytes, and whether every word was readable. -/
def State.storeRead (s : State) (a n req : Nat) : State × List Byte × Bool :=
  let w := wordIndex a
  let r := s.checkWords w req (if n = 0 then 0 else wordIndex (a + n - 1) + 1 - w)
  (r.1, s.storeBytes a n, r.2)

/-- The bytes of a write cut at the boundaries of 64-bit words; `fuel` is their number. -/
def splitWords : Nat → Nat → List Byte → List (Nat × List Byte)
  | 0, _, _ => []
  | fuel + 1, a, bs =>
    if bs = [] then [] else (a, bs.take (8 - a % 8)) :: splitWords fuel (a + (8 - a % 8)) (bs.drop (8 - a % 8))

/-- The injection of CST_ECC_INJ takes effect at a requester's write to its word (R161). -/
def State.injectEcc (s : State) (w : Nat) : State :=
  if s.fld Fld.CST_ECC_INJ_MODE ≠ 0 ∧ s.fld Fld.CST_ECC_INJ_WORD = w then
    (s.setEcc w (s.fld Fld.CST_ECC_INJ_MODE)).setFld Fld.CST_ECC_INJ_MODE 0
  else s

/-- A write of at most one 64-bit word's bytes at `a` (R159, R160, R161): a partial write first reads the word, and writes
nothing when it is uncorrectable. -/
def State.storeWriteWord (s : State) (a : Nat) (bs : List Byte) (req : Nat) : State × Bool :=
  let w := wordIndex a
  let r := if bs.length = 8 then (s, true) else s.checkWord w req
  if r.2 then ((((r.1.putStore a bs).setEcc w 0).injectEcc w), true) else (r.1, false)

/-- A requester's write of bytes into the store; false when a word refused it (R160). -/
def State.storeWrite (s : State) (a : Nat) (bs : List Byte) (req : Nat) : State × Bool :=
  (splitWords bs.length a bs).foldl (fun r c =>
    let r' := r.1.storeWriteWord c.1 c.2 req
    (r'.1, r.2 && r'.2)) (s, true)

/-- The store a write leaves, its outcome aside. -/
def State.storePut (s : State) (a : Nat) (bs : List Byte) (req : Nat) : State := (s.storeWrite a bs req).1

/-- Bank `k` is ECC-initialised: every word reads 0 without error (R165). -/
def State.eccInitBank (s : State) (k : Nat) : State :=
  { s with
    store := s.store.filter (fun p => decide (bankOf p.1 ≠ k))
    ecc := s.ecc.filter (fun p => decide (p.1 / 0x40000 ≠ k)) }

/-- Every word that holds an error and satisfies `c` is read by the scrubber; the uncorrectable ones are counted. -/
def State.scrubWords (s : State) (c : Nat → Bool) : State × Nat :=
  ((s.ecc.map (·.1)).filter c).foldl (fun r w =>
    let r' := r.1.checkWord w reqScrub
    (r'.1, if r'.2 then r.2 else r.2 + 1)) (s, 0)

/-- The end of a scrub pass (R163): LAST_UNC, PASSES and event 0x42. -/
def State.scrubPass (s : State) (unc lop5 : Nat) : State :=
  ((s.setFld Fld.CST_SCRUB_STATUS_LAST_UNC (min unc 0xFFFF)).count Fld.CST_SCRUB_STATUS_PASSES 1).event 0x42
    (min unc 0xFFFF + 65536 * lop5)

/-- SCRUB_ROW_READ: the background scrubber reads its row of every powered bank, and ends a pass at the last row (R163);
while LOP5 runs it keeps its position (R164). -/
def execScrubRowRead (s : State) : Out :=
  .next (if s.on Fld.CST_SCRUB_CTRL_PERIOD && s.domOn pdCst && s.on Fld.CST_STATUS_READY && s.lopState 5 != lopRunning then
    let row := s.fld Fld.CST_SCRUB_POS_ROW
    let r := s.scrubWords (fun w => w % 0x40000 / 4 == row && s.bankPowered (w / 0x40000))
    let s := { r.1 with scrubUnc := r.1.scrubUnc + r.2 }
    let s := s.setFld Fld.CST_SCRUB_POS_ROW (row + 1)
    if row = 65535 then { s.scrubPass s.scrubUnc 0 with scrubUnc := 0 } else s
  else s)

/-- A write to CST_SCRUB_CTRL (R164). -/
def State.scrubCtrlWrite (s : State) (d : Word) : State :=
  if Fld.CST_SCRUB_CTRL_GO.of d = 1 ∧ s.lopBusy 5 then s.setFld Fld.CST_SCRUB_CTRL_OVERRUN 1
  else
    let s := s.plainWrite Reg.CST_SCRUB_CTRL d
    if Fld.CST_SCRUB_CTRL_GO.of d = 1 then
      if s.domOn pdCst then
        (s.lopStart 5 lopRunning (64 - s.banksOff.length)).setFld Fld.CST_STATUS_SCRUB_RUN 1
      else ((s.lopStart 5 lopRunning 0).lopEnd 5 lopFailed 1).setFld Fld.CST_SCRUB_CTRL_GO 0
    else s

/-- LOP5_END: every row of every powered bank has been read; the pass is counted and LOP5 is DONE (R163, R164). -/
def execLop5End (s : State) : Out :=
  .next (if s.lopState 5 = lopRunning then
    let r := s.scrubWords (fun w => s.bankPowered (w / 0x40000))
    let total := r.1.fld (Fld.LOP_STATn_UNITS_TOTAL 5)
    let s := ((r.1.scrubPass r.2 1).lopUnits 5 total total).setFld Fld.CST_STATUS_SCRUB_RUN 0
    (s.setFld Fld.CST_SCRUB_CTRL_GO 0).lopEnd 5 lopDone 0
  else s)

/-- A write to CST_RET_MASK0: bits 0 and 1 read 1 and ignore writes (R167). -/
def State.retMask0Write (s : State) (d : Word) : State := s.wr Reg.CST_RET_MASK0 (d ||| 3)

/-- Bank `k` is retained in DEEP SLEEP (R167). -/
def State.retained (s : State) (k : Nat) : Bool :=
  if k < 32 then (s.rd Reg.CST_RET_MASK0).getLsbD k else (s.rd Reg.CST_RET_MASK1).getLsbD (k - 32)

/-- R167: the masks that the region table sets: every bank that a region with RETAIN 1 overlaps, and no other (assumption 107). -/
def State.setRetMasks (s : State) : State :=
  let keep := fun k => (List.range 64).any (fun n =>
    let w0 := (s.rd (Reg.CST_REGIONn n 0)).toNat
    let base := (s.rd (Reg.CST_REGIONn n 1)).toNat
    let size := (s.rd (Reg.CST_REGIONn n 2)).toNat
    size != 0 && bitOf w0 16 && decide (base < storeBase + 0x200000 * (k + 1)) && decide (storeBase + 0x200000 * k < base + size))
  let m := fun lo => BitVec.ofNat 32 (bitsToNat ((List.range 32).map (fun i => keep (lo + i))))
  (s.wr Reg.CST_RET_MASK0 (m 0 ||| 3)).wr Reg.CST_RET_MASK1 (m 32)

/-- The CRC-32 over bank `k`'s 2 MiB of data in address order (R168). -/
def State.bankCrc (s : State) (k : Nat) : Nat := crc32 (s.storeBytes (storeBase + 0x200000 * k) 0x200000)

/-- R168: the signatures of the retained banks, taken at DEEP SLEEP entry; each word is read and corrected first. -/
def State.takeSignatures (s : State) : State :=
  let r := (((s.ecc.map (·.1)).filter (fun w => s.retained (w / 0x40000))).foldl (fun s w => (s.checkWord w reqRetention).1) s)
  r.forEach 64 (fun s k => s.wr (Reg.CST_RETSIGk k) (if s.retained k then BitVec.ofNat 32 (s.bankCrc k) else 0))

/-- R169: the banks that fail the retention check at a wake, by an uncorrectable word or another CRC; every word that
holds an error is read by the check. -/
def State.retentionCheck (s : State) : State × List Nat :=
  ((List.range 64).filter s.retained).foldl (fun r k =>
    let r' := ((r.1.ecc.map (·.1)).filter (fun w => w / 0x40000 == k)).foldl (fun q w =>
      let c := q.1.checkWord w reqRetention
      (c.1, q.2 && c.2)) (r.1, true)
    if r'.2 && decide (BitVec.ofNat 32 (s.bankCrc k) = s.rd (Reg.CST_RETSIGk k)) then (r'.1, r.2)
    else (r'.1, r.2 ++ [k])) (s, [])

/-- R169 step 4: the RETFAIL bit of each failing bank and event 0xF6. -/
def State.reportRetFail (s : State) (banks : List Nat) : State :=
  banks.foldl (fun s k =>
    let s := if k < 32 then s.wr Reg.CST_RETFAIL0 (s.rd Reg.CST_RETFAIL0 ||| (1#32 <<< k))
      else s.wr Reg.CST_RETFAIL1 (s.rd Reg.CST_RETFAIL1 ||| (1#32 <<< (k - 32)))
    s.event 0xF6 k) s

end Sys2Proof.Machine
end

