-- ==== Sys2Proof/Machine/Reset.lean ====
section
/-!
DEFINITION. What the resets do to the state (R437, R440 to R443, R478), and what Proctor does with the fuses at each
power-up and start (R77, R354).
-/

namespace Sys2Proof.Machine

/-- The keep classes whose fields return to their reset value at a reset of kind `k` (R440). -/
def clearedBy : ResetKind → List Keep
  | .por => [.n, .w, .s, .p]
  | .pin => [.n, .w, .s]
  | .soft | .watchdog => [.n, .w]
  | .warm => [.n]

/-- The registers after a reset that clears, in the register at `a`, the classes `ks a`: each keeps its other fields. -/
def resetRegs (ks : Nat → List Keep) (m : SMap Word) : SMap Word :=
  m.foldr (fun p acc =>
    let c := keepMask (ks p.1) p.1
    SMap.set (resetWord p.1) acc p.1 ((p.2 &&& ~~~c) ||| (resetWord p.1 &&& c))) []

/-- Power domain `d` is switched on again: its N fields return to their reset values (R443). -/
def State.resetDomain (s : State) (d : Nat) : State :=
  { s with regs := resetRegs (fun a => if domainOf a = some d then [.n] else []) s.regs }

/-! ### What the PWR registers show (R409, R410) -/

/-- A mask of bits of `a` that `b` does not hold. -/
def without (a b : Nat) : Nat := a - (a &&& b)

/-- The fitted groups, and the groups whose domain is on. -/
def State.fitted (s : State) : Nat := bitsToNat ((List.range 8).map (fun g => s.on (Fld.RFE_PGg_CFG_FITTED g)))
def State.groupsOn (s : State) : Nat := bitsToNat ((List.range 8).map (fun g => s.domOn (pdPg g)))

/-- PWR_STATUS.STATE while no transition runs (R410): NAP in Detention mode, TRANSITION before start step 13, and NAP for
ACTIVE while a fitted group is off. -/
def State.powerCode (s : State) : Nat :=
  if s.on Fld.BOOT_STATUS_DETAINED then 1
  else match s.pwr.base with
    | none => 7
    | some 0 => if without s.fitted s.groupsOn = 0 then 0 else 1
    | some b => b

/-- PWR_STATUS and HOT_OFF show the power state. -/
def State.showPower (s : State) : State :=
  let st := if s.pwr.trans.isSome then 7 else s.powerCode
  let w := placeField 31 24 s.groupsOn ||| placeField 2 0 st |||
    (match s.pwr.trans with
     | some t => placeField 19 16 t.stage ||| placeField 6 4 t.req.target
     | none => placeField 19 16 (if s.pwr.wakes = [] then 0 else 4)) |||
    (match s.pwr.slot with
     | some r => placeField 15 15 1 ||| placeField 14 12 r.target ||| placeField 11 8 r.requester
     | none => 0)
  (s.wr Reg.PWR_STATUS w).setFld Fld.PWR_PG_STATUS_HOT_OFF (without s.pwr.hot s.groupsOn)

/-! ### Fuses (R76, R77, R354) -/

/-- The state of owner slot `n`: 0 EMPTY, 1 ACTIVE, 2 REVOKED, 3 FAULTY (R77). -/
def State.slotState (s : State) (n : Nat) : Nat :=
  if (s.fuse (49 + 32 * n)).getLsbD 0 then 2
  else if (s.fuseBytes (32 + 32 * n) 17).all (fun b => b == 0#8) then 0
  else if crc32 (s.fuseBytes (32 + 32 * n) 16) = (s.fuse (48 + 32 * n)).toNat then 1
  else 3

/-- The anti-rollback counter: the index of the highest blown bit of RB_THERMO plus one (R77). -/
def State.rbCount (s : State) : Nat :=
  let t := leNat (s.fuseBytes 160 2)
  if t = 0 then 0 else Nat.log2 t + 1

/-- VENDOR_ROOT_CHK matches (R77). -/
def State.vendorRootOk (s : State) : Bool := crc32 (s.fuseBytes 0 16) = (s.fuse 16).toNat

/-- PROC_STATUS shows what the fuses hold: at start step 2 and after each fuse Proctor programs (R77, R93). -/
def State.senseFuses (s : State) : State :=
  ((s.setFld Fld.PROC_STATUS_RB_COUNT s.rbCount).setFld Fld.PROC_STATUS_SLOT_STATE
    (s.slotState 0 + 4 * s.slotState 1 + 16 * s.slotState 2 + 64 * s.slotState 3)).setFld
    Fld.PROC_STATUS_VENDOR_ROOT_OK (bit s.vendorRootOk)

/-- TRIM_CHK matches words 256 to 1,022 (R354). -/
def State.trimOk (s : State) : Bool := crc32 (s.fuseBytes 256 767) = (s.fuse 1023).toNat

/-- The selection registers take the factory trims, or code 0 when TRIM_CHK does not match (R354): the trims are their
reset values; at a power-up of PD_CTL (`up`) a mismatch also sets TRIM_BAD and raises event 0xC8. -/
def State.loadTrims (s : State) (up : Bool) : State :=
  let ok := s.trimOk
  let t := fun (s : State) (w : Nat) => if ok then s.fuse w else 0#32
  let s := s.forEach 64 (fun s p =>
    ((((s.wr (Reg.CAL_CONV_Pp_W0 p) (t s (256 + 2 * p) &&& 0x3FFFFFFF#32)).wr
      (Reg.CAL_CONV_Pp_W1 p) (t s (257 + 2 * p) &&& 0x3FFFFFFF#32)).wr
      (Reg.CAL_CONV_Pp_W2 p) (t s (384 + 2 * p))).wr (Reg.CAL_CONV_Pp_W3 p) (t s (385 + 2 * p))))
  let s := s.forEach 8 (fun s g => s.wr (Reg.CAL_CONV_ORXg g) (t s (512 + g)))
  let s := s.forEach 16 (fun s k => s.wr (Reg.CAL_CONV_LOs k) (t s (520 + k) &&& 7#32))
  let s := s.wr Reg.CAL_CONV_LOC (t s 536 &&& 7#32)
  if up && !ok then (s.setFld Fld.CAL_STATUS_TRIM_BAD 1).event 0xC8 0 else s

/-- The reset value of PWR_BELL_ADDR.ADDR is DEVICE_SERIAL[15:0] (spec/16). -/
def State.loadBellAddr (s : State) : State := s.setFld Fld.PWR_BELL_ADDR_ADDR (s.serial % 65536)

/-! ### Undefined flash content after a reset (R442) -/

/-- `n` bytes that the spec leaves undefined, drawn from the free value `k`. -/
def openBytes (k n : Nat) : List Byte :=
  (List.range n).map (fun i => BitVec.ofNat 8 (Config.openWord (k * 0x10000 + i)).toNat)

/-- The 64 KiB sector around flash address `a` holds undefined content (R442). -/
def State.spoilSector (s : State) (a : Nat) : State :=
  (s.putFlash (a / 0x10000 * 0x10000) (openBytes s.fresh 0x10000)).useFresh

/-- Flash address of the journal sector that an erase clears while the next free position is `p`: the sector of `p` itself
when the one before it is full, else the one that does not hold `p` (R59). -/
def Directory.journalOther (d : Directory) (p : Nat) : Nat :=
  d.journal.offset + 0x10000 * (if p % 1024 = 0 then p % 2048 / 1024 else 1 - p % 2048 / 1024)

/-- The flash sectors that a journal write, a LOP7 or a calibration save was programming at the reset (R442). -/
def State.spoilFlash (s : State) : State :=
  let s := match s.boot.dir with
    | some d => if s.boot.erasing then s.spoilSector (d.journalOther s.boot.cache.pos) else s
    | none => s
  let s := match s.boot.writing with
    | some w => s.spoilSector w.addr
    | none => s
  match s.flashOps with
  | .lop7 f :: _ =>
    if f.op = 2 then s
    else s.spoilSector (f.addr + (if f.op = 0 then 0x10000 else 0x1000) * f.done)
  | .save a _ :: _ => s.spoilSector a
  | _ => s

/-! ### The reset itself -/

/-- The clock family after a reset: a WARM keeps it running, every other kind stops it with PD_SYN (R440). -/
def ClkState.idle : ClkState := ⟨0, 0⟩

/-- The MSPI slave after a reset; the frame that asked for the reset has been answered (R36). Posted writes and the held result are
dropped (assumption 98). -/
def MspiState.idle (m : MspiState) : MspiState := ⟨none, [], m.miso⟩

def SecState.idle (spent : Bool) : SecState := ⟨none, none, [], 0, true, spent⟩

def JournalCache.empty : JournalCache := ⟨false, 0, 0, 0, false⟩

/-- The start sequence at its origin: the journal cache, the directory and the kept profile outlast every reset but POR
(R58, R66; that a directory once read stays known is DEDUCED, assumption 8). -/
def BootState.restart (b : BootState) (k : ResetKind) : BootState :=
  let por : Bool := k == ResetKind.por
  { kind := k, tries := 0, density := if por then 0 else b.density, dir := if por then none else b.dir,
    cache := if por then JournalCache.empty else b.cache, writing := none, waiting := [], erasing := false,
    header := [], sections := [], hot := false, vcoreWait := false, storeReady := false, profile := [],
    kept := if por then [] else b.kept, runDigest := [], rollbackIndex := 0, ownerSlot := 0xFF, arrayLevel := 0,
    noLink := false, loaded := [], heartbeat := false, warmWaits := false,
    afterMga := [], afterMspi := none, lastSlot := if por then 0 else b.lastSlot, flashLink := FlashLink.boot }

/-- A core with its memories kept (R440, R443): the program words that satisfy `p`, the data words that satisfy `d`. -/
def CoreState.memories (x : CoreState) (p d : Bool) : CoreState :=
  { CoreState.idle with prog := if p then x.prog else [], x := if d then x.x else [], y := if d then x.y else [],
                        z := if d then x.z else [] }

/-- The store banks that lose their contents: every byte reads 0 again. -/
def State.dropBanks (s : State) (k : Nat → Bool) : State :=
  { s with store := s.store.filter (fun p => !k (bankOf p.1)), ecc := s.ecc.filter (fun p => !k (p.1 / 0x40000)) }

/-- Everything beside the registers after a reset other than WARM (R440): queues emptied, channels and engines idle, memories and
banks gone. The rails that the device has switched off stay as they are, but after a POR (R450). -/
def State.clearBlocks (s : State) (k : ResetKind) : State :=
  let por : Bool := k == ResetKind.por
  { s with
    banksOff := [], link := LinkState.idle, queues := [], ecc := [], scrubUnc := 0, dma := [], time := AirState.idle,
    bmb := ⟨[], 0⟩, dlc := CarrierState.idle, ulc := CarrierState.idle, ul := UplinkState.idle, smp := SampleState.idle, nco := [], sect := ⟨[], 0⟩, rssi := [], rf := RfState.idle,
    lin := LinState.idle, sfd := SfdState.idle, cal := CalState.idle, seen := [], cores := [], hk := HkState.idle
    pwr := if por then PwrState.idle
      else { PwrState.idle with dies := s.pwr.dies, railsOff := s.pwr.railsOff, margins := s.pwr.margins, sources := s.pwr.sources } }

/-- Everything beside the registers after a WARM (R440): queues, channels and long operations as at a SOFT reset; coefficient banks,
core memories, timing, synthesisers, carriers and plans in force, and the power state kept, LIGHT SLEEP left for ACTIVE (R441). -/
def State.warmBlocks (s : State) : State :=
  let f := fun (c : CarrierState) => { c with next := [], boundary := 0, before := 0, out := [] }
  { s with
    link := LinkState.idle, queues := [], scrubUnc := 0, dma := [], bmb := ⟨[], 0⟩, dlc := f s.dlc, ulc := f s.ulc,
    ul := { UplinkState.idle with praFreq := s.ul.praFreq }, smp := { s.smp with syms := [], holes := [], stops := [] }
    sect := { s.sect with held := [] }
    rf := { s.rf with rffe := [], synths := SMap.mapVal Synth.idle (fun y => { y with phaseLeft := 0 }) s.rf.synths }
    lin := { s.lin with lop2 := none, groups := SMap.mapVal LinGroup.idle (fun x =>
      { LinGroup.idle with sel := x.sel, selAt := x.selAt, last := x.last, comp := x.comp }) s.lin.groups }
    sfd := { s.sfd with next := [], boundary := 0, load := none, window := none, line8 := false, limitRun := [], resRun := [],
                        lop3 := none }
    cal := { s.cal with load := none, block := [], applies := [], lop0 := none, slots := [], line9 := false, lop1 := none }
    seen := []
    cores := SMap.mapVal CoreState.idle (fun x => x.memories true true) s.cores
    hk := HkState.idle
    pwr := { s.pwr with slot := none, base := if s.pwr.base = some 2 then some 0 else s.pwr.base, ping := false } }

/-- The fuse bits that a command was programming when a reset stopped it hold undefined content: each is blown or not
(R83). -/
def State.spoilFuses (s : State) : State :=
  match s.sec.running with
  | some c => c.fuses.foldl (fun s f => (s.blow f.1 (f.2 &&& Config.openWord s.fresh)).useFresh) s
  | none => s

/-- The straps are latched at POR and at each rising edge of RESET_N (R37). -/
def State.latchStraps (s : State) (k : ResetKind) : State :=
  if k = ResetKind.por ∨ k = ResetKind.pin then
    (s.setFld Fld.DEV_STRAPS_BOARD_ID s.pins.boardId).setFld Fld.DEV_STRAPS_FLASH_MODE s.pins.flashMode
  else s

/-- DEV_RESET_INFO after a reset of kind `k` (R437, spec/17): the kind, and the count of resets other than POR. -/
def State.resetInfo (s : State) (k : ResetKind) : State :=
  if k = ResetKind.por then s.wr Reg.DEV_RESET_INFO 0
  else (s.count Fld.DEV_RESET_INFO_COUNT 1).setFld Fld.DEV_RESET_INFO_KIND
    (match k with | .por => 0 | .pin => 1 | .soft => 2 | .watchdog => 3 | .warm => 4)

/-- The part of R440 that every reset other than WARM shares. -/
def State.coldReset (s : State) (k : ResetKind) : State :=
  let s := s.spoilFlash.spoilFuses
  let s := { s with
    regs := resetRegs (fun _ => clearedBy k) s.regs
    store := []
    domains := [pdAon, pdCtl]
    air := 0
    aonTicks := if k = ResetKind.por then 0 else s.aonTicks
    hkSub := if k = ResetKind.por then 0 else s.hkSub
    pins := { s.pins with irqN := true, sysclk0 := 0, sysclk1 := 0 }
    boot := s.boot.restart k
    flashOps := []
    sec := SecState.idle (s.sec.keySpent && k != ResetKind.por)
    clk := ClkState.idle
    mspi := s.mspi.idle
    raise := []
    shadows := [] }
  let s := ((s.clearBlocks k).resetInfo k).latchStraps k
  let s := if k = ResetKind.por then s.loadBellAddr else s
  (s.loadTrims (k == ResetKind.por)).senseFuses.showPower

/-- Fields that a read shows live, with the values they have before the reset, put back after it. -/
def State.keepFields (s old : State) (fs : List Fld) : State := fs.foldl (fun s f => s.setFld f (old.fld f)) s

/-- The live fields of hardware that kept running through a WARM read their live state at once (R478). -/
def liveFields : List Fld :=
  [Fld.CLK_STATUS_ROOT_LOCK, Fld.CLK_STATUS_FABRIC_ON_ROOT, Fld.HK_THERM_STATUS_HOT, Fld.HK_THERM_STATUS_WARN,
    Fld.CST_STATUS_READY, Fld.ATM_SYNC_STATUS_STATE, Fld.ATM_SYNC_STATUS_STEP_PENDING, Fld.ATM_TT_STATUS_OVERLAPS,
    Fld.ATM_TT_STATUS_BAD_ROWS, Fld.ATM_ARRAY_STATUS_SELF, Fld.ATM_ARRAY_STATUS_MAP_PRESENT, Fld.ATM_ARRAY_STATUS_JOINT_OK,
    Fld.LIN_STATUS_KBANK, Fld.CAL_STATUS_IDENT, Fld.CAL_STATUS_REC_LOADED, Fld.CAL_STATUS_REC_COPY, Fld.RFE_CAL_STATUS_CHAN,
    Fld.RFE_CAL_STATUS_BAND, Fld.PWR_PG_STATUS_REQ_OFF] ++
  (List.range 16).flatMap (fun c => [Fld.SFD_CLASSc_NREF c, Fld.SFD_CLASSc_PSET c]) ++
  (List.range 8).flatMap (fun g => [Fld.RFE_PGg_LOSEL_INUSE g, Fld.LIN_PGg_PD_ACTIVE_BANK g, Fld.LIN_PGg_COMP_STATUS_COMP g,
      Fld.LIN_PGg_COMP_STATUS_STALE g] ++
    (List.range 2).flatMap (fun x => [Fld.RFE_PGg_LOx_STATUS_STATE g x, Fld.RFE_PGg_LOx_STATUS_CHAN g x])) ++
  (List.range 64).flatMap (fun p => [Fld.DLC_PATHp_DLY_CLAMPED p, Fld.ULC_PATHp_DLY_CLAMPED p, Fld.LIN_PATHp_GAIN_STATUS_CLAMPED p,
    Fld.LIN_PATHp_GAIN_STATUS_GD p, Fld.LIN_PATHp_LOOP_STATUS_AT_LIMIT p, Fld.ULC_PATHp_RSSI_HIGH p,
    Fld.ULC_PATHp_RSSI_LOW p])

/-- The BOOT fields that Proctor sets to what they held before a WARM: BOOT_STATUS[10:0] but JOURNAL_FAIL, and
BOOT_IMAGE_VER (R441). -/
def warmBootFields : List Fld :=
  [Fld.BOOT_STATUS_NO_CALREC, Fld.BOOT_STATUS_FLASH_SLOW, Fld.BOOT_STATUS_DETAINED, Fld.BOOT_STATUS_COMPLETE,
    Fld.BOOT_STATUS_PREF_SLOT, Fld.BOOT_STATUS_SLOT, Fld.BOOT_IMAGE_VER_VERSION]

/-- A WARM reset (R440, R441, R442, R478): class N fields reset but the live ones, domains, store and AIR_COUNT kept,
the start resumed at step 13 with its completion watch begun again. -/
def State.warmReset (s : State) : State :=
  let old := s
  let s := s.spoilFlash.spoilFuses
  let s := { s with
    regs := resetRegs (fun _ => clearedBy .warm) s.regs
    boot := { s.boot with kind := .warm, writing := none, waiting := [], erasing := false, heartbeat := false,
                          warmWaits := false, afterMga := [], afterMspi := none }
    flashOps := []
    pins := { s.pins with irqN := true }
    sec := SecState.idle s.sec.keySpent
    mspi := s.mspi.idle
    raise := []
    shadows := [] }
  let s := s.warmBlocks.resetInfo .warm
  (((s.keepFields old liveFields).keepFields old warmBootFields).setFld Fld.BOOT_STATUS_STEP 13).senseFuses.showPower

end Sys2Proof.Machine
end

