-- ==== Sys2Proof/Machine/Journal.lean ====
section
/-!
DEFINITION. The flash structures of the start and what Proctor does with them: directory (R44 to R46), slot header
(R47, R48, R50), start journal (R57 to R59), failed attempts (R61, R480) and entry into Detention mode (R60, R66, R67).
-/

namespace Sys2Proof.Machine

/-! ### Directory (R44 to R46) -/

/-- The fields of a partition entry: PTYPE, OFFSET and SIZE of entry `i`. -/
def dirEntry (d : List Byte) (i : Nat) : Nat × Partition :=
  (fieldAt d (16 + 16 * i) 1, ⟨fieldAt d (20 + 16 * i) 4, fieldAt d (24 + 16 * i) 4⟩)

/-- Two partitions share no byte. -/
def Partition.apart (p q : Partition) : Bool := decide (p.offset + p.size ≤ q.offset) || decide (q.offset + q.size ≤ p.offset)

/-- The partitions of a type. -/
def dirOf (es : List (Nat × Partition)) (t : Nat) : List Partition := (es.filter (fun e => e.1 == t)).map (·.2)

/-- No two of the partitions overlap. -/
def allApart : List Partition → Bool
  | [] => true
  | p :: ps => ps.all p.apart && allApart ps

/-- R45: a directory copy of 4,096 bytes is valid for a flash of `density` bytes. Reserved fields are not read (R479). -/
def dirValid (d : List Byte) (density : Nat) : Bool :=
  let n := fieldAt d 6 1
  let es := (List.range n).map (dirEntry d)
  let ps := es.map (·.2)
  fieldAt d 0 4 == 0x52445846 && fieldAt d 4 2 == 1 && fieldAt d 4092 4 == crc32 (d.take 4092) &&
  decide (4 ≤ n) && decide (n ≤ 8) && decide (fieldAt d 7 1 ≤ 1) &&
  [1, 2, 3, 4].all (fun t => (dirOf es t).length == 1) && decide ((dirOf es 5).length ≤ 1) &&
  es.all (fun e => decide (1 ≤ e.1) && decide (e.1 ≤ 5)) &&
  ps.all (fun p => p.offset % 0x10000 == 0 && decide (0x20000 ≤ p.offset) && p.size % 0x10000 == 0 && p.size != 0 &&
    decide (p.offset + p.size ≤ density)) &&
  allApart ps && (dirOf es 4).all (fun p => p.size == 0x20000)

/-- The bytes of directory copy `i`. -/
def State.dirBytes (s : State) (i : Nat) : List Byte := s.flashBytes (0x10000 * i) 4096

/-- The directory that a valid copy `i` spells. -/
def dirParse (d : List Byte) (i : Nat) (other : Bool) : Directory :=
  let es := (List.range (fieldAt d 6 1)).map (dirEntry d)
  let p := fun t => (dirOf es t).headD ⟨0, 0⟩
  ⟨i, other, fieldAt d 7 1, fieldAt d 8 4, p 1, p 2, p 3, p 4⟩

/-- R46: the directory copy in use, none when neither copy is valid. -/
def State.chooseDir (s : State) (density : Nat) : Option Directory :=
  let d0 := s.dirBytes 0
  let d1 := s.dirBytes 1
  match dirValid d0 density, dirValid d1 density with
  | true, true =>
    if aheadOf 32 (fieldAt d1 8 4) (fieldAt d0 8 4) then some (dirParse d1 1 true) else some (dirParse d0 0 true)
  | true, false => some (dirParse d0 0 false)
  | false, true => some (dirParse d1 1 false)
  | false, false => none

/-- The partition of slot `i`. -/
def Directory.slot (d : Directory) (i : Nat) : Partition := if i = 0 then d.slotA else d.slotB

/-! ### Slot header (R47, R48, R50) -/

/-- Section entry `j` of a header: STYPE, REQUIRED, SOFFSET, SLENGTH, LOAD and DIGEST. -/
structure Section where
  stype : Nat
  required : Bool
  offset : Nat
  length : Nat
  load : Nat
  digest : List Byte
deriving DecidableEq, Repr

/-- Section entry `j` (R47). -/
def headerSection (h : List Byte) (j : Nat) : Section :=
  ⟨fieldAt h (1120 + 80 * j) 2, fieldAt h (1122 + 80 * j) 2 % 2 == 1, fieldAt h (1124 + 80 * j) 4,
    fieldAt h (1128 + 80 * j) 4, fieldAt h (1132 + 80 * j) 4, bytesAt h (1136 + 80 * j) 64⟩

/-- SECTION_COUNT. -/
def headerCount (h : List Byte) : Nat := fieldAt h 6 2

/-- All section entries. -/
def headerSections (h : List Byte) : List Section := (List.range (headerCount h)).map (headerSection h)

/-- The section types of R49 that this stepping knows. -/
def knownSection (t : Nat) : Bool := (decide (1 ≤ t) && decide (t ≤ 0x0B)) || (decide (0xF0 ≤ t) && decide (t ≤ 0xFF))

/-- The section loads into a window of 32-bit locations (R50). -/
def wordSection (t : Nat) : Bool := t == 3 || t == 4 || t == 7 || t == 8

/-- R50: what one section entry must meet in a slot of `len` bytes. -/
def sectionValid (len : Nat) (c : Section) : Bool :=
  c.offset % 64 == 0 && decide (4096 ≤ c.offset) && c.length != 0 && decide (c.offset + c.length ≤ len) &&
  (knownSection c.stype || !c.required) &&
  (c.stype != 1 || (c.length % 256 == 0 && decide (256 ≤ c.length) && decide (c.length ≤ 2048))) &&
  (c.stype != 5 || c.length % 8 == 0) &&
  (!wordSection c.stype || (c.length % 4 == 0 && c.load % 4 == 0))

/-- R50, R47: a slot header of 4,096 bytes is valid in a partition of `size` bytes. -/
def headerValid (h : List Byte) (size : Nat) : Bool :=
  let n := headerCount h
  let cs := headerSections h
  let one := fun t => (cs.filter (fun c => c.stype == t)).length == 1
  fieldAt h 0 4 == 0x4C535846 && fieldAt h 4 2 == 3 && decide (1 ≤ n) && decide (n ≤ 32) &&
  decide (fieldAt h 12 2 ≤ 64) && decide (fieldAt h 14 1 ≤ 3) && decide (fieldAt h 15 1 ≤ 7) &&
  decide (fieldAt h 18 1 ≤ 2) && decide (fieldAt h 20 4 ≤ 600000) && decide (fieldAt h 24 4 ≤ 10000) &&
  decide (fieldAt h 28 4 ≤ size) && one 1 && one 2 && one 3 && cs.all (sectionValid (fieldAt h 28 4))

/-- The bytes that the signature covers: 0 to 607 and 1,120 to 4,095 (R48). -/
def headerSigned (h : List Byte) : List Byte := h.take 608 ++ bytesAt h 1120 2976

/-- The owner key of a header, as R78 encodes it: bytes 64 to 579. -/
def headerKey (h : List Byte) : List Byte := bytesAt h 64 516

/-- R80: the first check a header fails, as its number 1 to 6; none when it passes all. -/
def State.headerCheck (s : State) (h : List Byte) (size : Nat) : Option Nat :=
  let n := fieldAt h 14 1
  if !headerValid h size then some 1
  else if s.slotState n ≠ 1 then some 2
  else if !keyValid (headerKey h) then some 3
  else if sha512 (headerKey h) ≠ s.fuseBytes (32 + 32 * n) 16 then some 4
  else if !signatureVerifies (headerKey h) (bytesAt h 608 512) (headerSigned h) then some 5
  else if fieldAt h 12 2 < s.rbCount then some 6
  else none

/-- The image digest of a slot: SHA-512 of the bytes its signature covers (R80). -/
def imageDigest (h : List Byte) : List Byte := sha512 (headerSigned h)

/-! ### Start journal (R57 to R59) -/

/-- Flash address of journal position `p`. -/
def Directory.journalAddr (d : Directory) (p : Nat) : Nat := d.journal.offset + 64 * p

/-- A journal record is valid: MAGIC and JCRC (R58). -/
def recordValid (r : List Byte) : Bool := fieldAt r 0 2 == 0x4A5A && fieldAt r 60 4 == crc32 (r.take 60)

/-- The record at journal position `p`. -/
def State.recordAt (s : State) (d : Directory) (p : Nat) : List Byte := s.flashBytes (d.journalAddr p) 64

/-- R58: of two positions, the one whose record is taken among those of the kinds `ks`: the JSEQ ahead, the higher address of
equal ones. -/
def State.newerRecord (s : State) (d : Directory) (ks : List Nat) (best : Option Nat) (p : Nat) : Option Nat :=
  let r := s.recordAt d p
  if !recordValid r || !ks.contains (fieldAt r 2 1) then best
  else match best with
    | none => some p
    | some q =>
      let jq := fieldAt (s.recordAt d q) 4 4
      if fieldAt r 4 4 = jq || aheadOf 32 (fieldAt r 4 4) jq then some p else some q

/-- The first erased position from `p` up to the end of its sector, else `p`'s sector end. -/
def State.freePosition (s : State) (d : Directory) (p : Nat) : Nat → Nat
  | 0 => p
  | n + 1 =>
    if p % 1024 = 0 ∧ n + 1 ≠ 1024 then p
    else if s.flashErased (d.journalAddr p) 64 then p
    else State.freePosition s d (p + 1) n

/-- The newest valid record of the kinds `ks`, by position. -/
def State.newestRecord (s : State) (d : Directory) (ks : List Nat) : Option Nat :=
  (List.range 2048).foldl (s.newerRecord d ks) none

/-- How the last attempt ended, as the journal tells it: the newest record of an attempt is its BEGIN, FAIL or COMPLETE, whatever
DETENTION, CLEAR or DIRECTORY records follow (R67). Cause, whether it is a FAIL record's, and the slot. -/
def State.lastAttempt (s : State) (d : Directory) : Nat × Bool × Nat :=
  match s.newestRecord d [1, 2, 3] with
  | some p =>
    let r := s.recordAt d p
    (fieldAt r 9 1, fieldAt r 2 1 == 2, fieldAt r 3 1 % 2)
  | none => (0, false, 0)

/-- R58: after a POR, Proctor scans the journal, takes the newest valid record and loads BOOT_ATTEMPTS from it, or
0 and 3 when no record is valid. -/
def State.scanJournal (s : State) (d : Directory) : State :=
  match s.newestRecord d (List.range 256) with
  | none =>
    let s := { s with boot := { s.boot with cache :=
      { JournalCache.empty with pos := s.freePosition d 0 1024 } } }
    (s.setFld Fld.BOOT_ATTEMPTS_COUNT 0).setFld Fld.BOOT_ATTEMPTS_LIMIT 3
  | some p =>
    let r := s.recordAt d p
    let last := s.lastAttempt d
    let s := { s with boot := { s.boot with
      cache := ⟨true, fieldAt r 4 4, s.freePosition d (p + 1) (1024 - (p + 1) % 1024), last.1, last.2.1⟩, lastSlot := last.2.2 } }
    (s.setFld Fld.BOOT_ATTEMPTS_COUNT (fieldAt r 8 1)).setFld Fld.BOOT_ATTEMPTS_LIMIT (fieldAt r 28 1 % 8)

/-- The 64 bytes of a record under R57. -/
def State.recordBytes (s : State) (r : JournalReq) : List Byte :=
  if r.again ≠ [] then r.again else
  let jseq := if s.boot.cache.valid then (s.boot.cache.jseq + 1) % 2 ^ 32 else 1
  let b := leBytes 2 0x4A5A ++ leBytes 1 r.kind ++ leBytes 1 (s.fld Fld.BOOT_STATUS_SLOT) ++ leBytes 4 jseq ++
    leBytes 1 r.count ++ leBytes 1 r.cause ++ leBytes 1 s.boot.kind.code ++ leBytes 1 r.step ++
    leBytes 4 (fieldAt s.boot.header 8 4) ++ leBytes 8 s.aonTicks ++ leBytes 4 r.detail ++
    leBytes 1 (s.fld Fld.BOOT_ATTEMPTS_LIMIT) ++ List.replicate 31 0#8
  b ++ leBytes 4 (crc32 b)

/-- The sector of position `p` is full: `p` has passed into the next one. The other sector must be erased (R59). -/
def State.positionReady (s : State) (d : Directory) (p : Nat) : Bool :=
  p % 1024 != 0 || (s.flashErased (d.journalAddr (p % 2048)) 0x10000 && !s.boot.erasing)

/-- The next waiting record begins to be programmed, when none is and its sector has room; a record that finds its sector
full and the other unerased starts that erase and waits for it (R59; without a scan since POR the first position is 0, assumption 101). -/
def State.journalKick (s : State) : State :=
  match s.boot.dir, s.boot.writing, s.boot.waiting with
  | some d, none, r :: rs =>
    let p := s.boot.cache.pos % 2048
    if s.positionReady d p then
      { s with boot := { s.boot with
        writing := some ⟨s.recordBytes r, d.journalAddr p, r.again != [], r⟩, waiting := rs } }
    else { s with boot := { s.boot with erasing := true } }
  | _, _, _ => s

/-- Proctor appends a record (R59). -/
def State.journalPut (s : State) (r : JournalReq) : State :=
  { s with boot := { s.boot with waiting := s.boot.waiting ++ [r] } }.journalKick

/-- The attempt has failed: a restart or Detention mode waits for its FAIL record (R61, R480). -/
def State.attemptFailed (s : State) : Bool :=
  let ends := fun (r : JournalReq) => r.next == .restart || r.next == .detain
  (match s.boot.writing with | some w => ends w.req | none => false) || s.boot.waiting.any ends

/-- The start sequence goes on: neither has the attempt failed nor does Detention mode hold. -/
def State.startRuns (s : State) : Bool := !s.attemptFailed && !s.on Fld.BOOT_STATUS_DETAINED

/-! ### Detention mode (R60, R66 to R68, R105, R114) -/

/-- The default equalisation word of R105. -/
def eqDefault : Word := 0x360B3004#32

/-- R104, R105: the word of a lane in a profile is usable: MAIN not reserved and the FFE sum at most 63. -/
def eqUsable (w : Word) : Bool :=
  decide (16 ≤ getField 13 8 w) && decide (getField 3 0 w + getField 13 8 w + getField 20 16 w ≤ 63)

/-- A lane's equalisation is loaded from a profile word; an unusable word gives the default, and without a profile the default is
used and EQ_DEFAULT keeps its value (R105). -/
def State.loadEq (s : State) (e : Nat) (w : Option Word) : State :=
  match w with
  | some w =>
    if eqUsable w then
      (s.wr (Reg.LNK_EQe e) (w &&& 0xFF1F3F0F#32)).setFld (Fld.LNK_LANE_STATUSe_EQ_DEFAULT e) 0
    else (s.wr (Reg.LNK_EQe e) eqDefault).setFld (Fld.LNK_LANE_STATUSe_EQ_DEFAULT e) 1
  | none => s.wr (Reg.LNK_EQe e) eqDefault

/-- The LINK_EQ word of lane `e` in a board profile (R52). -/
def profileEq (p : List Byte) (e : Nat) : Word := BitVec.ofNat 32 (fieldAt p (16 + 4 * e) 4)

/-- The width code of bundle `b` in a profile: TB0, TB1, QB0, QB1 (R52). -/
def profileWidth (p : List Byte) (b : Nat) : Nat := fieldAt p (2 + b / 2) 1 / 16 ^ (b % 2) % 16

/-- The kept profile of R66, usable only while its BOARD_ID equals the strap. -/
def State.keptProfile (s : State) : List Byte :=
  if fieldAt s.boot.kept 0 1 % 8 = s.fld Fld.DEV_STRAPS_BOARD_ID then s.boot.kept else []

/-- LNK_WIDTH_MAX holds the width codes of TB0, TB1, QB0 and QB1. -/
def State.setWidths (s : State) (w : Nat → Nat) : State :=
  (((s.setFld Fld.LNK_WIDTH_MAX_TB0 (w 0)).setFld Fld.LNK_WIDTH_MAX_TB1 (w 1)).setFld
    Fld.LNK_WIDTH_MAX_QB0 (w 2)).setFld Fld.LNK_WIDTH_MAX_QB1 (w 3)

/-- R66, R105, R114: the link of Detention mode, width 1 on every bundle the kept profile does not leave unused, and its
equalisation, the defaults without one. -/
def State.detentionLink (s : State) : State :=
  let p := s.keptProfile
  let s := s.forEach 44 (fun s e => s.loadEq e (if p = [] then none else some (profileEq p e)))
  s.setWidths (fun b => if p ≠ [] ∧ profileWidth p b = 15 then 15 else 4)

/-- The feedback divider of the root synthesiser for a REFCLK code (R13, R325). -/
def rootDivider (sel : Nat) : Nat := if sel = 1 then 96 else if sel = 2 then 24 else 48

/-- Proctor programs the root synthesiser for REFCLK code `sel` (R325). -/
def State.programRoot (s : State) (sel : Nat) : State :=
  ((s.switchOn pdSyn).setFld Fld.CLK_STATUS_REF_SEL sel).setFld Fld.SYT_ROOT_CFG_N (rootDivider sel)

/-- Entry into Detention mode (R66, R67): only PD_AON, PD_CTL, PD_SYN and PD_LNK on, all events routed to EVT packets
and IRQ_N (R406), the link prepared, event 0x05, and the DETENTION record where the directory is known. Before step 6 of
the current start Proctor programs the root synthesiser for CLK_STATUS.REF_SEL. BOOT_STATUS.SLOT names the last attempt's slot. -/
def State.enterDetention (s : State) (cause : Nat) (inferred : Bool) : State :=
  let s := { s with domains := [pdAon, pdCtl, pdSyn, pdLnk] }
  let s := if s.fld Fld.BOOT_STATUS_STEP < 6 then s.programRoot (s.fld Fld.CLK_STATUS_REF_SEL) else s
  let s := (s.setFld Fld.BOOT_STATUS_DETAINED 1).setFld Fld.BOOT_STATUS_COMPLETE 0
  let s := s.setFld Fld.BOOT_STATUS_SLOT s.boot.lastSlot
  let s := s.wr Reg.BOOT_IMAGE_VER 0
  let s := (s.setFld Fld.BOOT_DETAIN_CAUSE_CAUSE cause).setFld Fld.BOOT_DETAIN_CAUSE_INFERRED (bit inferred)
  let s := s.forEach 8 (fun s k => (s.wr (Reg.EVT_RT_PKTk k) 0xFFFFFFFF).wr (Reg.EVT_RT_IRQk k) 0xFFFFFFFF)
  let s := s.detentionLink.setFld Fld.LNK_CTRL_ENABLE 1
  let s := { s with boot := { s.boot with runDigest := [], rollbackIndex := 0, ownerSlot := 0xFF, arrayLevel := 0 } }
  let s := { s with pwr := { s.pwr with trans := none, slot := none, wakes := [] } }.showPower
  let s := s.event 0x05 (cause + 256 * bit inferred)
  if s.boot.dir.isSome then
    s.journalPut ⟨4, s.fld Fld.BOOT_ATTEMPTS_COUNT, cause, s.fld Fld.BOOT_STATUS_STEP, 0, .goOn, []⟩
  else s

/-- The cause with which a limit reached at step 4 enters Detention mode: that of the last attempt, or 0x09 inferred
when it ended without one (R67). -/
def State.detainAtLimit (s : State) : State :=
  if s.boot.cache.causeKnown then s.enterDetention s.boot.cache.cause false else s.enterDetention 0x09 true

/-- The restart of R61 and every other reset that begins a start: steps 1 and 2 of R62 follow it at once. Without REFCLK Proctor
does not run, and no step is reached (R40). DETAIN_N low ends the start in Detention mode at step 1 (R60); after a POR the journal is
read first (R67). -/
def State.beginStart (s : State) (k : ResetKind) : State :=
  let s := s.coldReset k
  if !s.pins.refclk then s
  else
  let low := s.pins.detain != 0
  let s := { s with pins := { s.pins with detain := s.pins.detain - 1 } }.setFld Fld.BOOT_STATUS_STEP 1
  if low then
    if k = ResetKind.por then
      (s.setFld Fld.BOOT_STATUS_DETAINED 1).setFld Fld.BOOT_DETAIN_CAUSE_CAUSE 0x0D
    else s.enterDetention 0x0D false
  else s.setFld Fld.BOOT_STATUS_STEP 2

/-- R61: an attempt fails after its BEGIN record: a FAIL record, then the SOFT restart once it is written. -/
def State.failAttempt (s : State) (cause detail : Nat) : State :=
  let s := { s with boot := { s.boot with cache := { s.boot.cache with cause := cause, causeKnown := true } } }
  s.journalPut ⟨2, s.fld Fld.BOOT_ATTEMPTS_COUNT, cause, s.fld Fld.BOOT_STATUS_STEP, detail, .restart, []⟩

/-- R480: an attempt fails at step 2 or 3. COUNT rises, the cause is kept, a FAIL record is written where the directory is
known, and at the limit Detention mode follows at once, else the restart of R61. -/
def State.failEarly (s : State) (cause detail : Nat) : State :=
  let s := s.count Fld.BOOT_ATTEMPTS_COUNT 1
  let s := { s with boot := { s.boot with cache := { s.boot.cache with cause := cause, causeKnown := true } } }
  let limit := decide (s.fld Fld.BOOT_ATTEMPTS_LIMIT ≤ s.fld Fld.BOOT_ATTEMPTS_COUNT)
  if s.boot.dir.isSome then
    s.journalPut ⟨2, s.fld Fld.BOOT_ATTEMPTS_COUNT, cause, s.fld Fld.BOOT_STATUS_STEP, detail,
      if limit then .detain else .restart, []⟩
  else if limit then s.enterDetention cause false
  else s.beginStart .soft

end Sys2Proof.Machine
end

