-- ==== Sys2Proof/Machine/Device.lean ====
section
/-!
DEFINITION. Resets by pins and by DEV_CTRL (R36, R37, R60, R437 to R441, R451, R452), the watchdog (R439), the BOOT
control registers (R63, R64, R69) and the clock family (R16 to R19, R39).
-/

namespace Sys2Proof.Machine

/-! ### Resets -/

/-- The balls that a reset latches or that hold a start back; `detain` starts find DETAIN_N low, this one included. -/
def State.setBalls (s : State) (boardId flashMode detain : Nat) (refclk : Bool) : State :=
  { s with pins := { s.pins with boardId := boardId, flashMode := flashMode, detain := detain, refclk := refclk } }

/-- POWER_ON_RESET: every field but those of class F returns to reset, and the start begins at step 1 (R451, R437). -/
def execPowerOnReset (boardId : Fin 8) (flashMode : Fin 4) (detain : Nat) (refclk : Bool) (s : State) : Out :=
  .next ((s.setBalls boardId.val flashMode.val detain refclk).beginStart .por)

/-- PIN_RESET: RESET_N low, then its rising edge (R438). -/
def execPinReset (boardId : Fin 8) (flashMode : Fin 4) (detain : Nat) (refclk : Bool) (s : State) : Out :=
  .next ((s.setBalls boardId.val flashMode.val detain refclk).beginStart .pin)

/-- VDD_IO_UNDERVOLTAGE: acts as a PIN reset (R452). -/
def execVddIoUndervoltage (boardId : Fin 8) (flashMode : Fin 4) (detain : Nat) (refclk : Bool) (s : State) : Out :=
  .next ((s.setBalls boardId.val flashMode.val detain refclk).beginStart .pin)

/-- R437, R441, R68: a WARM before step 13 or in Detention mode is ignored; one during a power transition waits for its end
and drops the pending request; otherwise step 13 follows it. -/
def State.warmRequest (s : State) : State :=
  if s.fld Fld.BOOT_STATUS_STEP < 13 || s.on Fld.BOOT_STATUS_DETAINED then s
  else if s.pwr.trans.isSome then
    { s with boot := { s.boot with warmWaits := true }, pwr := { s.pwr with slot := none } }.showPower
  else s.warmReset.startCores

/-- The reset that a write of DEV_CTRL asks for, none without KEY 0xA7 (DEV_CTRL, R36). -/
def devCtrlReset (d : Word) : Option ResetKind :=
  if Fld.DEV_CTRL_KEY.of d ≠ 0xA7 then none
  else if Fld.DEV_CTRL_SOFT.of d = 1 then some .soft
  else if Fld.DEV_CTRL_WARM.of d = 1 then some .warm
  else none

/-- A reset asked for through DEV_CTRL begins. -/
def State.softOrWarm (s : State) (k : ResetKind) : State := if k = .warm then s.warmRequest else s.beginStart k

/-- A write to DEV_CTRL. A reset asked for by an MGQ waits until the MGA has been sent, one asked for through MSPI until the
write's STATUS has been returned; Proctor's own write asks for none, and is recorded as DENIED (R36). -/
def State.devCtrlWrite (s : State) (q : Requester) (d : Word) : State :=
  let clr := fun (s : State) => if Fld.DEV_CTRL_ERR_CLR.of d = 1 then s.wr Reg.DEV_MSPI_ERR 0 else s
  match devCtrlReset d with
  | none => clr s
  | some k =>
    match q with
    | .proctor => s.merr q Reg.DEV_CTRL true false stDenied
    | .mgq => let s := clr s; { s with boot := { s.boot with afterMga := s.boot.afterMga ++ [.reset k] } }
    | .mspi => let s := clr s; { s with boot := { s.boot with afterMspi := some k } }
    | _ => (clr s).softOrWarm k

/-- The reset that an MSPI write asked for begins: its answer has been returned (R36). -/
def State.mspiReset (s : State) : State :=
  match s.boot.afterMspi with
  | some k => { s with boot := { s.boot with afterMspi := none } }.softOrWarm k
  | none => s

/-- The Dean core is HALTED under owner-level debug (R439). -/
def State.deanDebugHalted (s : State) : Bool :=
  s.fld (Fld.CORE_STATUS_STATE 12) == 3 && s.fld Fld.PROC_STATUS_DBG_LEVEL != 0

/-- WATCHDOG_EXPIRY: BOOT_HEARTBEAT has not changed for 1 s after completion in ACTIVE, NAP or LIGHT SLEEP (R439). -/
def execWatchdogExpiry (s : State) : Out :=
  .next (if s.on Fld.BOOT_STATUS_COMPLETE && s.fld Fld.BOOT_STATUS_STEP == 16 &&
      decide (s.fld Fld.PWR_STATUS_STATE ≤ 2) && !s.deanDebugHalted then
    s.beginStart .watchdog
  else s)

/-- DETAIN_N_ASSERT: DETAIN_N has been low for 10 µs, and goes on to be low at the next `starts` starts (R60). -/
def execDetainNAssert (starts : Nat) (s : State) : Out :=
  .next ({ s with pins := { s.pins with detain := starts + 1 } }.beginStart .soft)

/-! ### BOOT control registers -/

/-- A write to BOOT_HEARTBEAT; the first one since the release at step 13 ends that step (R62). -/
def State.heartbeatWrite (s : State) (d : Word) : State :=
  let s := s.wr Reg.BOOT_HEARTBEAT d
  if s.fld Fld.BOOT_STATUS_STEP = 13 ∧ !s.boot.heartbeat then
    { s with boot := { s.boot with heartbeat := true } }.setFld Fld.BOOT_STATUS_STEP
      (if s.boot.noLink || s.fld Fld.LNK_STATUS_STATE == 5 then 15 else 14)
  else s

/-- R69: CLR_ATTEMPTS sets COUNT to 0 and writes a CLEAR record; without a known journal it is done at once. -/
def State.clearAttempts (s : State) : State :=
  let s := s.setFld Fld.BOOT_ATTEMPTS_COUNT 0
  if s.on Fld.BOOT_CTRL_CLR_ATTEMPTS then s
  else if s.boot.dir.isSome then
    (s.setFld Fld.BOOT_CTRL_CLR_ATTEMPTS 1).journalPut ⟨5, 0, 0, s.fld Fld.BOOT_STATUS_STEP, 0, .clearDone, []⟩
  else s

/-- A write to BOOT_CTRL: CLR_ATTEMPTS and FORCE_EN need KEY 0xB3. -/
def State.bootCtrlWrite (s : State) (d : Word) : State :=
  let s := s.setFld Fld.BOOT_CTRL_FORCE_SLOT (Fld.BOOT_CTRL_FORCE_SLOT.of d)
  if Fld.BOOT_CTRL_KEY.of d = 0xB3 then
    let s := if Fld.BOOT_CTRL_FORCE_EN.of d = 1 then s.setFld Fld.BOOT_CTRL_FORCE_EN 1 else s
    if Fld.BOOT_CTRL_CLR_ATTEMPTS.of d = 1 then s.clearAttempts else s
  else s

/-! ### Clock family -/

/-- SYSCLK_OUT0 and 1 follow CLK_SYSOUT once ROOT_LOCK has been set (R39). -/
def State.driveSysout (s : State) : State :=
  let out := fun en sel => if s.on Fld.CLK_STATUS_FABRIC_ON_ROOT && s.on en then (if s.on sel then 2 else 1) else 0
  { s with pins := { s.pins with sysclk0 := out Fld.CLK_SYSOUT_OUT0_EN Fld.CLK_SYSOUT_OUT0_SEL,
                                 sysclk1 := out Fld.CLK_SYSOUT_OUT1_EN Fld.CLK_SYSOUT_OUT1_SEL } }

/-- A write to CLK_SYSOUT. -/
def State.sysoutWrite (s : State) (d : Word) : State := (s.plainWrite Reg.CLK_SYSOUT d).driveSysout

/-- A write to CLK_PHASE: with BUSY it is ignored whole; a GO is refused under R19, or starts |STEP| steps, one per HK tick
(R18). -/
def State.clkPhaseWrite (s : State) (d : Word) : State :=
  if s.on Fld.CLK_PHASE_BUSY then s.setFld Fld.CLK_PHASE_OVERRUN 1
  else
    let s := s.plainWrite Reg.CLK_PHASE (Fld.CLK_PHASE_GO.put 0 d)
    if Fld.CLK_PHASE_GO.of d = 1 then
      let n := sext 16 (s.fld Fld.CLK_PHASE_STEP)
      let total := s.clk.sinceLock + n
      if n = 0 then s
      else if s.fld Fld.LNK_STATUS_STATE = 5 ∧ (1024 < total ∨ total < -1024) then s.setFld Fld.CLK_PHASE_REFUSED 1
      else ({ s with clk := { s.clk with phaseLeft := n } }.setFld Fld.CLK_PHASE_BUSY 1).setFld Fld.CLK_PHASE_GO 1
    else s

/-- CLK_PHASE_STEP_TICK: one step of a running request (R18). -/
def execClkPhaseStepTick (s : State) : Out :=
  .next (if s.on Fld.CLK_PHASE_BUSY then
    let d : Int := if 0 < s.clk.phaseLeft then 1 else -1
    let left := s.clk.phaseLeft - d
    let s := { s with clk := { s.clk with phaseLeft := left, sinceLock := s.clk.sinceLock + d } }
    let s := s.wr Reg.CLK_PHASE_POS (BitVec.ofInt 32 ((s.rd Reg.CLK_PHASE_POS).toInt + d))
    if left = 0 then (s.setFld Fld.CLK_PHASE_BUSY 0).setFld Fld.CLK_PHASE_GO 0 else s
  else s)

/-- AON_OSC_TIMEOUT: no crystal oscillation within 1 s of POR (R16). -/
def execAonOscTimeout (s : State) : Out := .next (s.setFld Fld.CLK_STATUS_AON_RC 1)

end Sys2Proof.Machine
end

