-- ==== Sys2Proof/Machine/Link.lean ====
section
/-!
DEFINITION. Pholva Link: queues and credits (R129 to R144), the lane state machine (R107 to R115), Roll call (R145 to
R148), TEST and PRBS (R116 to R118) and the margin scan LOP9 (R119, R120).
-/

namespace Sys2Proof.Machine

/-! ### Queues -/

/-- Queue `n` beside its registers. -/
def State.queue (s : State) (n : Nat) : QueueState := SMap.get QueueState.empty s.queues n

def State.setQueue (s : State) (n : Nat) (q : QueueState) : State :=
  { s with queues := SMap.set QueueState.empty s.queues n q }

/-- Queues 0 to 11 are inbound (R129). -/
def queueInbound (n : Nat) : Bool := n < 12

/-- Header fields of a packet (R122, R123). -/
def pktType (p : List Byte) : Nat := fieldAt p 0 1
def pktLast (p : List Byte) : Bool := bitOf (fieldAt p 1 1) 0
def pktSeqInit (p : List Byte) : Bool := bitOf (fieldAt p 1 1) 1
def pktStream (p : List Byte) : Nat := fieldAt p 2 2
def pktQueue (p : List Byte) : Nat := fieldAt p 2 2 % 32
def pktSub (p : List Byte) : Nat := fieldAt p 2 2 / 32
def pktLen (p : List Byte) : Nat := fieldAt p 4 2
def pktSeq (p : List Byte) : Nat := fieldAt p 6 2
def pktSfn (p : List Byte) : Nat := fieldAt p 8 8 % 1024
def pktSlot (p : List Byte) : Nat := fieldAt p 8 8 / 2 ^ 10 % 128
def pktSymbol (p : List Byte) : Nat := fieldAt p 8 8 / 2 ^ 17 % 16
def pktCarrier (p : List Byte) : Nat := fieldAt p 8 8 / 2 ^ 21 % 8
def pktLayer (p : List Byte) : Nat := fieldAt p 8 8 / 2 ^ 24 % 64
def pktPayload (p : List Byte) : List Byte := bytesAt p 16 (pktLen p)

/-- A 16-byte header (R122) without SEQ and SEQ_INIT, which the packet takes when it is sent. -/
def mkHeader (type last queue sub len atag : Nat) : List Byte :=
  leBytes 1 type ++ leBytes 1 last ++ leBytes 2 (queue + 32 * sub) ++ leBytes 2 len ++ leBytes 2 0 ++ leBytes 8 atag

/-- An ATAG from its fields (R123). -/
def mkAtag (sfn slot symbol carrier layer sample : Nat) : Nat :=
  sfn % 1024 + 2 ^ 10 * (slot % 128) + 2 ^ 17 * (symbol % 16) + 2 ^ 21 * (carrier % 8) + 2 ^ 24 * (layer % 64) +
    2 ^ 48 * (sample % 65536)

/-- A packet with its trailer bitwise inverted, so that the partner drops it (R143, R159). -/
def onWireBad (p : List Byte) : List Byte :=
  let b := p ++ leBytes 4 (0xFFFFFFFF - crc32 p)
  b ++ List.replicate ((8 - b.length % 8) % 8) 0

/-- Credits of a queued packet with a payload of `len` bytes (R133). -/
def creditsOf (len : Nat) : Nat := (20 + len + 255) / 256

def StoredPkt.credits (p : StoredPkt) : Nat := creditsOf (pktLen p.bytes)

/-- Occupancy of a queue in credits (R141). -/
def QueueState.occupancy (q : QueueState) : Nat := (q.pkts.map StoredPkt.credits).sum

/-- QUE_LEVELn.LIVE shows the occupancy; an upward watermark crossing sets STICKY, counts and raises 0x25 (R141). -/
def State.relevel (s : State) (n : Nat) : State :=
  let old := s.fld (Fld.QUE_LEVELn_LIVE n)
  let new := (s.queue n).occupancy
  let level := s.fld (Fld.QUE_WMn_LEVEL n)
  let s := s.setFld (Fld.QUE_LEVELn_LIVE n) new
  if level ≠ 0 ∧ old < level ∧ level ≤ new then
    ((s.setFld (Fld.QUE_WMn_STICKY n) 1).count (Fld.QUE_COUNTn_WM_CROSS n) 1).event 0x25 (n + 256 * new)
  else s

/-- The link is ACTIVE (R107). -/
def lnkDown : Nat := 0
def lnkDetect : Nat := 1
def lnkTrain : Nat := 2
def lnkLock : Nat := 3
def lnkRollCall : Nat := 4
def lnkActive : Nat := 5
def lnkTest : Nat := 6

def State.linkState (s : State) : Nat := s.fld Fld.LNK_STATUS_STATE

def State.linkIs (s : State) (x : Nat) : Bool := s.linkState == x

/-- `c` credits return to the GRANT of inbound queue `n` (R135): in a session at once, between ROLL_CALL and ACTIVE when
ACTIVE is entered. -/
def State.grant (s : State) (n c : Nat) : State :=
  if c = 0 then s
  else if s.linkIs lnkActive then
    (s.countWrap (Fld.QUE_GRANTn_TOTAL n) c).setQueue n { s.queue n with dirty := true }
  else if s.linkIs lnkRollCall then s.setQueue n { s.queue n with released := (s.queue n).released + c }
  else s

/-- The region table entry of kind `kind`: its base and size, read from CST_REGIONn (R54, R166). -/
def State.regionOfKind (s : State) (kind : Nat) : Option (Nat × Nat) :=
  (List.range 64).findSome? (fun n =>
    let w0 := (s.rd (Reg.CST_REGIONn n 0)).toNat
    let size := (s.rd (Reg.CST_REGIONn n 2)).toNat
    if size ≠ 0 ∧ w0 / 256 % 256 = kind then some ((s.rd (Reg.CST_REGIONn n 1)).toNat, size) else none)

/-- The KIND of the region that stores queue `n`; 0 for the queue memory in PD_LNK (R129). -/
def queueKind (n : Nat) : Nat := if n < 10 then 1 else if 16 ≤ n ∧ n < 26 then 2 else 0

/-- The lowest free block from `a` on, below `stop`; among one more than the used blocks one is free. -/
def firstFree (used : List Nat) (a stop : Nat) : Nat → Option Nat
  | 0 => none
  | n + 1 => if stop ≤ a then none else if used.contains a then firstFree used (a + 256) stop n else some a

/-- A free block of the region, from its bank `turn` on in rotation over the banks that it spans, with the turn after it (R155). Within
a bank the lowest free block is taken (assumption 95). -/
def pickBlock (base size : Nat) (used : List Nat) (turn : Nat) : Option (Nat × Nat) :=
  let b0 := bankOf base
  let n := bankOf (base + size - 1) + 1 - b0
  (List.range n).findSome? (fun i =>
    let k := (turn + i) % n
    let lo := max base (storeBase + 0x200000 * (b0 + k))
    let hi := min (base + size) (storeBase + 0x200000 * (b0 + k + 1))
    (firstFree used lo hi (used.length + 1)).map (fun a => (a, (k + 1) % n)))

/-- `c` blocks of the region, with the turn after them. -/
def pickBlocks (base size : Nat) (used : List Nat) (turn : Nat) : Nat → List Nat × Nat
  | 0 => ([], turn)
  | c + 1 =>
    match pickBlock base size used turn with
    | some (a, t) => let r := pickBlocks base size (a :: used) t c; (a :: r.1, r.2)
    | none => ([], turn)

/-- The blocks that the packets of a region's queues hold. -/
def State.usedBlocks (s : State) (kind : Nat) : List Nat :=
  ((List.range 32).filter (fun n => queueKind n == kind)).flatMap (fun n => (s.queue n).pkts.flatMap (·.blocks))

/-- A packet with its trailer and padding, as it leaves (R125, R126). -/
def onWire (p : List Byte) : List Byte :=
  let b := p ++ leBytes 4 (crc32 p)
  b ++ List.replicate ((8 - b.length % 8) % 8) 0

/-- A packet of queue `n` is written into the blocks that it takes of its region, in whole 64-bit words (R129, R133, R155, R161). -/
def State.storePacket (s : State) (n : Nat) (p : List Byte) (req : Nat) : State × List Nat :=
  match (if s.domOn pdCst && queueKind n != 0 then s.regionOfKind (queueKind n) else none) with
  | some (base, size) =>
    let k := queueKind n
    let r := pickBlocks base size (s.usedBlocks k) (SMap.get 0 s.link.turn k) (creditsOf (pktLen p))
    let s := { s with link := { s.link with turn := SMap.set 0 s.link.turn k r.2 } }
    (r.1.zipIdx.foldl (fun s b => s.storePut b.1 (bytesAt (onWire p) (256 * b.2) (min 256 ((onWire p).length - 256 * b.2))) req) s, r.1)
  | none => (s, [])

/-- A packet as its store holds it: header as judged on arrival, payload as it reads now (R166). -/
def State.pktNow (s : State) (p : StoredPkt) : List Byte :=
  if p.blocks = [] then p.bytes
  else p.bytes.take 16 ++ bytesAt (p.blocks.flatMap (fun a => s.storeBytes a 256)) 16 (p.bytes.length - 16)

/-- The words of a packet that hold its bytes from `lo` up to `hi` are read for requester `req` (R158, R159): false when one of them is
uncorrectable. -/
def State.readPart (s : State) (p : StoredPkt) (lo hi req : Nat) : State × Bool :=
  (List.range ((hi + 7) / 8 - lo / 8)).foldl (fun r i =>
    let w := lo / 8 + i
    match p.blocks[w / 32]? with
    | some b => let r' := r.1.checkWord (wordIndex b + w % 32) req; (r'.1, r.2 && r'.2)
    | none => r) (s, true)

/-- A packet is read. -/
def State.readPacket (s : State) (p : StoredPkt) (req : Nat) : State × Bool := s.readPart p 0 (onWire p.bytes).length req

/-- A packet is stored at the end of queue `n`; `after` waits for it. -/
def State.putPacket (s : State) (n : Nat) (p : List Byte) (air serial req : Nat) (after : List AfterMga) : State :=
  let r := s.storePacket n p req
  (r.1.setQueue n { r.1.queue n with pkts := (r.1.queue n).pkts ++ [⟨p, false, air, serial, r.2, after⟩] }).relevel n

def State.enqueue (s : State) (n : Nat) (p : List Byte) : State := s.putPacket n p s.air 0 reqLinkIn []

/-- The packets of queue `n` that satisfy `c` are consumed: their store is released and their credits return (R135). -/
def State.consumeIf (s : State) (n : Nat) (c : StoredPkt → Bool) : State :=
  let q := s.queue n
  let freed := ((q.pkts.filter c).map StoredPkt.credits).sum
  let s := (s.setQueue n { q with pkts := q.pkts.filter (fun p => !c p) }).relevel n
  s.grant n freed

/-- The sections that the packets `gone` of queue `n` brought are dropped with them: QC holds SEC packets (R207, R208). -/
def State.dropSecs (s : State) (n : Nat) (gone : List StoredPkt) : State :=
  if n = 8 then
    { s with sect := { s.sect with held := s.sect.held.filter (fun h => !gone.any (fun p => p.serial == h.serial)) } }
  else s

/-- The packets of queue `n` that satisfy `c` are discarded and counted (R142 to R144); an inbound queue's credits return. -/
def State.discardIf (s : State) (n : Nat) (c : StoredPkt → Bool) : State :=
  let q := s.queue n
  let gone := q.pkts.filter c
  let s := ((s.setQueue n { q with pkts := q.pkts.filter (fun p => !c p) }).relevel n).dropSecs n gone
  let s := s.count (Fld.QUE_DROPAn_DISCARD n) gone.length
  if queueInbound n then s.grant n ((gone.map StoredPkt.credits).sum) else s

/-- QUE_FLUSH bit `n`. -/
def State.flushBit (s : State) (n : Nat) (b : Bool) : State :=
  s.wr Reg.QUE_FLUSH (BitVec.ofNat 32 (setBitOf (s.rd Reg.QUE_FLUSH).toNat n b))

/-! ### Session -/

/-- The width of a width code; 0 for an unused bundle (spec/04, LNK registers). -/
def widthOf (code : Nat) : Nat :=
  if code = 0 then 10 else if code = 1 then 8 else if code = 2 then 4 else if code = 3 then 2
  else if code = 4 then 1 else 0

/-- The width codes in falling order of width. -/
def widthCodes : List Nat := [0, 1, 2, 3, 4]

/-- LNK_WIDTH_MAX of bundle `b` (TB0, TB1, QB0, QB1) as a code, as this bring-up took it when it began. -/
def State.widthMax (s : State) (b : Nat) : Nat := s.link.maxes.getD b 15

/-- The largest width code, within `max`, whose lanes 0 to w − 1 satisfy `ok`; 0xF when there is none (R111). -/
def bestWidth (max : Nat) (ok : Nat → Bool) : Nat :=
  (widthCodes.find? (fun c => decide (widthOf c ≤ widthOf max) && (List.range (widthOf c)).all ok)).getD 15

/-- Locked width of QBk: lanes 0 to w − 1 and the clock lane locked, within LNK_WIDTH_MAX (R110). -/
def State.lockedWidth (s : State) (k : Nat) : Nat :=
  if s.link.locked.contains (22 + 11 * k + 10) then
    bestWidth (s.widthMax (2 + k)) (fun l => s.link.locked.contains (22 + 11 * k + l))
  else 15

/-- Transmit width of TBk: lanes 0 to w − 1 detected, within LNK_WIDTH_MAX (R111, R145). -/
def State.detectedWidth (s : State) (k : Nat) : Nat :=
  bestWidth (s.widthMax k) (fun l => s.on (Fld.LNK_LANE_STATUSe_DETECTED (11 * k + l)))

/-- QBk is in use in this session. -/
def State.qbInUse (s : State) (k : Nat) : Bool := s.link.widths.getD (2 + k) 15 != 15

/-- TBk is in use in this session. -/
def State.tbInUse (s : State) (k : Nat) : Bool := s.link.widths.getD k 15 != 15

/-- The bundle a queue runs on: code 0b10 lets either carry it, and a bundle not in use gives way to the other (R129). -/
def queueBundleOk (code k : Nat) (inUse : Nat → Bool) : Bool :=
  if code = 2 then inUse k
  else if inUse code then k == code else k == 1 - code

/-- Capacity of inbound queue `n` in credits (R135 step 1, R129): QM and QT hold 0x100. -/
def State.queueCap (s : State) (n : Nat) : Nat := if n < 10 then s.fld (Fld.QUE_CFGn_CAP n) else if n < 12 then 0x100 else 0

/-- The downlink region's credits and the sum of the capacities that share it (R135 step 2). -/
def State.downlinkCredits (s : State) : Nat := ((s.regionOfKind 1).map (fun r => r.2 / 256)).getD 0
def State.downlinkCaps (s : State) : Nat := ((List.range 10).map s.queueCap).sum

/-- The device is in Detention mode. -/
def State.detained (s : State) : Bool := s.on Fld.BOOT_STATUS_DETAINED

/-- The device marks queue `n` USED in its CAP (R145, spec/05 QUE_CFGn.USE; WGT and SRS need PL3, R148). -/
def State.marksUsed (s : State) (n : Nat) : Bool :=
  if s.detained then n == 10 || n == 11 || n == 26 || n == 27
  else if n < 10 then s.queueCap n != 0 else if n < 12 then true
  else if n < 16 then false else if n < 26 then s.on (Fld.QUE_CFGn_USE n) else n == 26 || n == 27

/-- The credits sent for inbound queue `n` (R135): its capacity, trimmed to the shared region, less its occupancy. -/
def State.initialGrant (s : State) (n : Nat) : Nat :=
  let sum := s.downlinkCaps
  let rc := s.downlinkCredits
  let cap := if n < 10 ∧ rc < sum then s.queueCap n * rc / sum else s.queueCap n
  cap - (s.queue n).occupancy

/-- The device's full CAP payload (R145). -/
def State.buildCap (s : State) : List Byte :=
  let w := fun a b => leBytes 1 (a + 16 * b)
  let head := leBytes 1 (if s.on Fld.QUE_CTRL_PL2_ONLY then 2 else 3) ++ leBytes 1 2 ++ leBytes 1 1 ++
    leBytes 1 (bit s.detained) ++ w (s.detectedWidth 0) (s.detectedWidth 1) ++ w (s.lockedWidth 0) (s.lockedWidth 1) ++
    leBytes 2 8160 ++ leBytes 8 s.serial ++ leBytes 4 (s.rd Reg.DEV_ID).toNat ++ leBytes 2 s.boot.arrayLevel ++
    leBytes 1 (s.fld Fld.DEV_STRAPS_BOARD_ID) ++ leBytes 1 0 ++ leBytes 4 (s.rd Reg.BOOT_IMAGE_VER).toNat ++ leBytes 4 0
  head ++ (List.range 32).flatMap (fun n =>
    if s.marksUsed n then
      if queueInbound n then leBytes 4 (s.initialGrant n % 2 ^ 24 + 2 ^ 26)
      else leBytes 4 (2 ^ 24 * s.fld (Fld.QUE_CFGn_BUNDLE n) + 2 ^ 26)
    else leBytes 4 0)

/-- Entry into ROLL_CALL (R110, R135, R147): HDR_ERR clears, the CAP is built and each queue keeps what it says. -/
def State.enterRollCall (s : State) : State :=
  let s := s.forEach 44 (fun s e => s.setFld (Fld.LNK_LANE_STATUSe_HDR_ERR e) 0)
  let s := s.setFld Fld.QUE_STATUS_CAP_TRIMMED (bit (decide (s.downlinkCredits < s.downlinkCaps)))
  let s := s.forEach 32 (fun s n => s.setQueue n { s.queue n with
    sentCap := s.initialGrant n, sentUse := s.marksUsed n, sentBundle := s.fld (Fld.QUE_CFGn_BUNDLE n),
    released := 0, use := false })
  let s := { s with link := { s.link with cap := s.buildCap, capVersion := 1, acked := false, ackSent := false,
                                          peer := none, switchSent := false, switchRx := [],
                                          widths := [15, 15, 15, 15], lost0 := false, lost1 := false } }
  s.setFld Fld.LNK_STATUS_STATE lnkRollCall

/-- R110: LOCK ends when RX_LOCKED is set, some QB has a locked width, and 8 DESKEW blocks in a row with RX_LOCKED have
come on lane 0 of every QB with a locked width. -/
def State.lockComplete (s : State) : State :=
  let has := fun k => s.lockedWidth k != 15
  let seen := (!has 0 || decide (8 ≤ s.link.deskew0)) && (!has 1 || decide (8 ≤ s.link.deskew1)) && (has 0 || has 1)
  let s := s.iff (s.linkIs lnkLock && seen) (fun s => s.setFld Fld.LNK_STATUS_PARTNER_LOCKED 1)
  if s.linkIs lnkLock && s.on Fld.LNK_STATUS_RX_LOCKED && seen then s.enterRollCall else s

/-- The link falls to DOWN with a reason and lane (R107, R113, R115): from a bring-up state it costs a retry when `counts`,
and at a non-zero LIMIT the link stays there. -/
def State.linkDown (s : State) (reason lane : Nat) (counts : Bool) : State :=
  let bringUp := decide (1 ≤ s.linkState) && decide (s.linkState ≤ 4)
  let s := ((s.setFld Fld.LNK_STATUS_STATE lnkDown).setFld Fld.LNK_DOWN_INFO_REASON reason).setFld
    Fld.LNK_DOWN_INFO_LANE lane
  let s := (s.setFld Fld.LNK_STATUS_RX_LOCKED 0).setFld Fld.LNK_STATUS_PARTNER_LOCKED 0
  let s := (((s.setFld Fld.LNK_STATUS_TB0_W 15).setFld Fld.LNK_STATUS_TB1_W 15).setFld
    Fld.LNK_STATUS_QB0_W 15).setFld Fld.LNK_STATUS_QB1_W 15
  let s := { s with link := { s.link with tbClock := [], locked := [], deskew0 := 0, deskew1 := 0,
                                          widths := [15, 15, 15, 15], switchSent := false, switchRx := [] } }
  if bringUp && counts then
    let s := s.count Fld.LNK_RETRY_COUNT 1
    let limit := s.fld Fld.LNK_RETRY_LIMIT
    if limit ≠ 0 ∧ limit ≤ s.fld Fld.LNK_RETRY_COUNT ∧ !s.on Fld.LNK_RETRY_EXHAUSTED then
      (s.setFld Fld.LNK_RETRY_EXHAUSTED 1).event 0x22 0
    else s
  else s

/-- TEST is entered (R117). In FE the TB forwarded clock runs (R116). -/
def State.startTest (s : State) (loop pattern ms : Nat) : State :=
  let s := { s with link := { s.link with testLoop := loop, testPattern := pattern, testMs := ms
                                          tbClock := if loop = 3 then [0, 1] else s.link.tbClock } }
  (s.setFld Fld.LNK_STATUS_STATE lnkTest).setFld Fld.LNK_TEST_GO 1

/-- What waited for an MGA is done, the link not being ACTIVE: a reset begins (R36), TEST is entered where ROOT_LOCK is 1 (R117). -/
def State.afterDown (s : State) (as : List AfterMga) : State :=
  as.foldl (fun s a => match a with
    | .reset k => s.softOrWarm k
    | .test l p m => if s.on Fld.CLK_STATUS_ROOT_LOCK && !s.linkIs lnkTest then s.startTest l p m else s) s

/-- R142: the flush of queue `n` takes effect; packets whose consumption or sending has begun stay, and the next outbound
packet on each bundle carries SEQ_INIT. -/
def State.flushQueue (s : State) (n : Nat) : State :=
  let s := s.discardIf n (fun p => !p.begun)
  let s := if queueInbound n then s else s.setQueue n { s.queue n with init0 := true, init1 := true }
  s.flushBit n false

/-- A packet that was arriving on QBk when its queue was flushed or reset has ended: where it was the last one, a flush that waited
for it takes effect (R142). -/
def State.endReception (s : State) (k : Nat) : State :=
  s.forEach 12 (fun s n =>
    if (s.queue n).doomed.contains k then
      let left := (s.queue n).doomed.filter (· != k)
      let s := s.setQueue n { s.queue n with doomed := left }
      if left = [] ∧ (s.rd Reg.QUE_FLUSH).getLsbD n then s.flushQueue n else s
    else s)

/-- R144: what leaving ACTIVE does to the queues and to the packets in flight. -/
def State.leaveSession (s : State) : State :=
  let s := (s.endReception 0).endReception 1
  let s := s.discardIf 10 (fun p => !p.begun)
  let s := s.link.flight.foldl (fun s f => s.count (Fld.QUE_DROPAn_DISCARD f.queue) 1) s
  let s := { s with link := { s.link with flight := [] } }
  let s := ((List.range 12).map (· + 16)).foldl (fun s n => s.discardIf n (fun _ => true)) s
  let s := s.count (Fld.QUE_DROPAn_DISCARD 26) s.link.records.length
  let s := s.forEach 32 (fun s n => s.setQueue n { s.queue n with use := false, dirty := false, reports := [],
                                                                  expect0 := none, expect1 := none })
  let s := { s with link := { s.link with records := [], lbk := none } }
  (s.setFld Fld.QUE_STATUS_MAX_LEN 0).setFld Fld.QUE_STATUS_LEVEL 0

/-- LOP9 ends ABORTED with ERR 0x03 when the link leaves ACTIVE during the scan (R120). -/
def State.abortScan (s : State) : State :=
  if s.lopBusy 9 then
    ({ s with link := { s.link with scan := [] } }.setFld Fld.LNK_MARGIN_CTRL_GO 0).lopEnd 9 lopAborted 3
  else s

/-- What waits for the MGAs that are being sent or still wait. -/
def State.mgaWaits (s : State) : List AfterMga := s.link.flight.flatMap (·.after) ++ (s.queue 27).pkts.flatMap (·.after)

/-- The link leaves ACTIVE (R115): counted, event 0x21, the queues left as R144 says, the scan aborted; what waited for an MGA that
is discarded is done. -/
def State.leaveActive (s : State) (reason lane : Nat) : State :=
  if s.linkIs lnkActive then
    let waits := s.mgaWaits
    let s := s.leaveSession.abortScan
    let s := (s.linkDown reason lane false).count Fld.LNK_DOWN_INFO_COUNT 1
    (s.event 0x21 (reason + 256 * lane)).afterDown waits
  else s

/-- What waited for an MGA is done, from whatever state of the link (R36, R117). -/
def State.afterMgas (s : State) (as : List AfterMga) : State :=
  as.foldl (fun s a => match a with
    | .reset k => s.softOrWarm k
    | .test l p m =>
      if s.on Fld.CLK_STATUS_ROOT_LOCK && !s.linkIs lnkTest then (s.leaveActive 6 0xFF).startTest l p m else s) s

/-- A flush of queue `n` that finds no packet of it arriving; MGAs that it discards hold nothing back any longer (R142). -/
def State.flushNow (s : State) (n : Nat) : State :=
  let waits := if n = 27 then (s.queue 27).pkts.flatMap (·.after) else []
  (s.flushQueue n).afterMgas waits

/-- R143: the duplicate pointers of queue `n` disagree, and the queue is reset; contents go, inbound credits return, no
watermark crossing is reported. A packet of it that is arriving on the QBs `rx` is discarded at its end; one that is being sent ends
with its trailer inverted. -/
def State.pointerFault (s : State) (n : Nat) (rx : List Nat) : State :=
  let q := s.queue n
  let occ := q.occupancy
  let flying := s.link.flight.filter (fun f => f.queue == n)
  let waits := flying.flatMap (·.after) ++ q.pkts.flatMap (·.after)
  let s := (s.setQueue n { q with pkts := [], init0 := true, init1 := true, doomed := rx }).dropSecs n q.pkts
  let s := { s with link := { s.link with
    sent := if flying = [] then s.link.sent else flying.map (fun f : Flight => (f.tb, onWireBad f.bytes))
    flight := s.link.flight.filter (fun f => f.queue != n) } }
  let s := s.setFld (Fld.QUE_LEVELn_LIVE n) 0
  let s := s.count (Fld.QUE_DROPAn_DISCARD n) q.pkts.length
  let s := if queueInbound n then s.grant n occ else s
  ((s.flushBit n false).event 0x26 n).afterMgas waits

/-- The link goes DOWN from whatever state but TEST it is in; from ACTIVE it leaves the session (R107, R115). -/
def State.dropLink (s : State) (reason lane : Nat) (counts : Bool) : State :=
  if s.linkIs lnkActive then s.leaveActive reason lane
  else if s.linkIs lnkDown || s.linkIs lnkTest then s
  else s.linkDown reason lane counts

/-- Queue `n` is in use when both CAPs mark it USED (R129); QW and QS need PL3 (R148). -/
def peerWord (p : List Byte) (n : Nat) : Nat := fieldAt p (32 + 4 * n) 4

/-- The agreed level: the lower PL_MAX (R146). -/
def State.agreedLevel (s : State) (p : List Byte) : Nat := min (fieldAt s.link.cap 0 1) (fieldAt p 0 1)

/-- The agreed MAX_LEN (R146, R148). -/
def State.agreedMaxLen (s : State) (p : List Byte) : Nat :=
  let m := min (fieldAt s.link.cap 6 2) (fieldAt p 6 2)
  if s.agreedLevel p = 2 then min m 4064 else m

/-- The narrower of two width codes; 0xF when either is unused, or a reserved code of the partner (assumption 96). -/
def widthMin (a b : Nat) : Nat := if 4 < a ∨ 4 < b then 15 else max a b

/-- R111: the width of a QB within the partner's transmit capability, and of a TB within the partner's usable width. -/
def State.agreedWidths (s : State) (p : List Byte) : List Nat :=
  let nib := fun byte k => fieldAt p byte 1 / 16 ^ k % 16
  let tb := fun k => widthMin (s.detectedWidth k) (nib 5 k)
  let qb := fun k => widthMin (s.lockedWidth k) (nib 4 k)
  [tb 0, tb 1, qb 0, qb 1]

/-- Entry into ACTIVE (R112, R134, R135): widths and agreed values shown, CONS and ACCT at 0, GRANT at the initial grant
with what was released since, sequences restarted, the retry count cleared, event 0x20. -/
def State.enterActive (s : State) : State :=
  let p := s.link.peer.getD []
  let s := s.setFld Fld.LNK_STATUS_STATE lnkActive
  let s := (((s.setFld Fld.LNK_STATUS_TB0_W (s.link.widths.getD 0 15)).setFld Fld.LNK_STATUS_TB1_W
    (s.link.widths.getD 1 15)).setFld Fld.LNK_STATUS_QB0_W (s.link.widths.getD 2 15)).setFld Fld.LNK_STATUS_QB1_W
    (s.link.widths.getD 3 15)
  let s := (s.setFld Fld.QUE_STATUS_MAX_LEN (s.agreedMaxLen p)).setFld Fld.QUE_STATUS_LEVEL (s.agreedLevel p)
  let level := s.agreedLevel p
  let s := s.forEach 32 (fun s n =>
    let q := s.queue n
    let w := peerWord p n
    let use := q.sentUse && bitOf w 26 && !((n == 9 || n == 25) && level == 2)
    let bun := if queueInbound n then w / 2 ^ 24 % 4 else q.sentBundle
    let one := if n == 8 || n == 10 || n == 11 || n == 26 || n == 27 then (if bun = 2 then 0 else bun) else bun
    let s := s.setQueue n { q with use := use, bundle := one, unlimited := !queueInbound n && bitOf w 27,
                                   dirty := decide (q.released ≠ 0), expect0 := none, expect1 := none,
                                   tx0 := 0, tx1 := 0, init0 := true, init1 := true, released := 0, reports := [] }
    let s := s.setFld (Fld.QUE_CONSn_TOTAL n) 0
    let g := if !use then 0 else if queueInbound n then q.sentCap + q.released else w % 2 ^ 24
    let s := s.setFld (Fld.QUE_GRANTn_TOTAL n) g
    if queueInbound n then s.setFld (Fld.QUE_CFGn_BUNDLE n) (w / 2 ^ 24 % 4)
    else s.setFld (Fld.QUE_CFGn_UNLIMITED n) (bit (bitOf w 27)))
  let s := (s.setFld Fld.LNK_RETRY_COUNT 0).event 0x20 0
  s.iff (s.fld Fld.BOOT_STATUS_STEP == 14) (fun s => s.setFld Fld.BOOT_STATUS_STEP 15)

/-- R112: ACTIVE is entered once SWITCH has been sent and has come on lane 0 of every QB in use. -/
def State.tryActive (s : State) : State :=
  let got := fun k => !s.qbInUse k || s.link.switchRx.contains k
  if s.linkIs lnkRollCall && s.link.switchSent && got 0 && got 1 then s.enterActive else s

/-! ### Commands of bring-up (R107 to R112) -/

/-- LINK_DOWN_EXIT: entry into DETECT; every lane field clears but HDR_ERR and EQ_DEFAULT, and the bring-up takes LNK_WIDTH_MAX
(R107; LIMIT acts through EXHAUSTED alone, assumption 105). -/
def execLinkDownExit (s : State) : Out :=
  .next (if s.linkIs lnkDown && s.on Fld.LNK_CTRL_ENABLE && s.on Fld.CLK_STATUS_ROOT_LOCK &&
      !s.on Fld.LNK_RETRY_EXHAUSTED && s.domOn pdLnk then
    let s := s.forEach 44 (fun s e => s.wr (Reg.LNK_LANE_STATUSe e) (s.rd (Reg.LNK_LANE_STATUSe e) &&& 0xFFFF0010#32))
    let s := { s with link := { s.link with
      maxes := (List.range 4).map (fun b => getField (4 * b + 3) (4 * b) (s.rd Reg.LNK_WIDTH_MAX)) } }
    s.setFld Fld.LNK_STATUS_STATE lnkDetect
  else s)

/-- DETECTION_TRY: terminations found on the TB lanes and activity on the QB clock lanes (R108). -/
def execDetectionTry (term : BitVec 22) (clk0 clk1 stable0 stable1 : Bool) (s : State) : Out :=
  .next (if s.linkIs lnkDetect then
    let s := s.forEach 22 (fun s e => s.setFld (Fld.LNK_LANE_STATUSe_DETECTED e) (bit (term.getLsbD e)))
    let s := (s.setFld (Fld.LNK_LANE_STATUSe_DETECTED 32) (bit clk0)).setFld (Fld.LNK_LANE_STATUSe_DETECTED 43) (bit clk1)
    let s := { s with link := { s.link with
      tbClock := (List.range 2).filter (fun k => s.link.tbClock.contains k || term.getLsbD (11 * k + 10)) } }
    let tb := fun k => decide (s.widthMax k ≠ 15) && term.getLsbD (11 * k + 10) && term.getLsbD (11 * k)
    let qb := (decide (s.widthMax 2 ≠ 15) && clk0 && stable0) || (decide (s.widthMax 3 ≠ 15) && clk1 && stable1)
    if (tb 0 || tb 1) && qb then
      let s := { s with link := { s.link with
        eq := (List.range 44).foldl (fun m e => SMap.set 0 m e (s.rd (Reg.LNK_EQe e))) s.link.eq, locked := [] } }
      s.setFld Fld.LNK_STATUS_STATE lnkTrain
    else s
  else s)

/-- TRAIN_SETTLE_END: TRAIN_US has elapsed (R107). -/
def execTrainSettleEnd (s : State) : Out :=
  .next (if s.linkIs lnkTrain then s.setFld Fld.LNK_STATUS_STATE lnkLock else s)

/-- LANE_LOCK: QB lane `lane` reaches bit lock, and with `block` block lock too, after which it passes its further steps, or fails
with ID_ERR or too much deskew (R109); lane 10 and 21 are the clock lanes. A lane above the bundle's maximum width is not trained.
Lanes still unlocked when RX_LOCKED is set stay unused (R110). -/
def execLaneLock (lane : Fin 22) (phase : BitVec 6) (block : Bool) (skew : Nat) (idOk : Bool) (s : State) : Out :=
  .next (if s.linkIs lnkLock && !s.on Fld.LNK_STATUS_RX_LOCKED then
    let e := 22 + lane.val
    let k := lane.val / 11
    let l := lane.val % 11
    if l = 10 then
      { s.setFld (Fld.LNK_LANE_STATUSe_BIT_LOCK e) 1 with link := { s.link with locked := s.link.locked ++ [e] } }
    else if widthOf (s.widthMax (2 + k)) ≤ l then s
    else
      let s := (s.setFld (Fld.LNK_LANE_STATUSe_BIT_LOCK e) 1).setFld (Fld.LNK_LANE_STATUSe_PHASE e) phase.toNat
      if !block then s else
      let s := s.setFld (Fld.LNK_LANE_STATUSe_BLOCK_LOCK e) 1
      if !idOk then s.setFld (Fld.LNK_LANE_STATUSe_ID_ERR e) 1
      else if 32 ≤ skew then s
      else { s.setFld (Fld.LNK_LANE_STATUSe_SKEW e) skew with link := { s.link with locked := s.link.locked ++ [e] } }
  else s)

/-- The elastic buffers are centred at the end of LOCK (R101, R110); the phase total of R19 counts from here. -/
def State.centreBuffers (s : State) : State :=
  let s := (s.wr Reg.LNK_EBUF0 0).wr Reg.LNK_EBUF1 0
  { s with link := { s.link with wandered := [] }, clk := { s.clk with sinceLock := 0 } }

/-- RX_LOCKED_SET: every lane in training has locked, or 1 ms has passed since the first one did (R110). -/
def execRxLockedSet (s : State) : Out :=
  .next (if s.linkIs lnkLock && !s.on Fld.LNK_STATUS_RX_LOCKED && s.link.locked != [] then
    ((s.setFld Fld.LNK_STATUS_RX_LOCKED 1).centreBuffers).lockComplete
  else s)

/-- `n` invalid sync headers or unknown control blocks on QB lane `lane`: header errors of a data lane in ROLL_CALL and ACTIVE (R99,
R115). -/
def State.headerError (s : State) (lane n : Nat) : State :=
  if (s.linkIs lnkRollCall || s.linkIs lnkActive) && decide (lane % 11 ≠ 10) then
    s.count (Fld.LNK_LANE_STATUSe_HDR_ERR (22 + lane)) n
  else s

/-- The block types of R99. -/
def knownBlock (payload : BitVec 64) : Bool := [0x1E, 0x4B, 0x55].contains (payload.toNat % 256)

/-- DESKEW_BLOCK_RX: the payload of a control block on QB lane `lane`; the DESKEW blocks of lane 0 of each QB count (R99, R102,
R110). -/
def execDeskewBlockRx (lane : Fin 22) (payload : BitVec 64) (s : State) : Out :=
  .next (if !knownBlock payload then s.headerError lane.val 1
  else if s.linkIs lnkLock && decide (payload.toNat % 256 = 0x4B ∧ lane.val % 11 = 0) then
    let rx := payload.getLsbD 16
    let n := fun c => if rx then c + 1 else 0
    let s := if lane.val = 0 then { s with link := { s.link with deskew0 := n s.link.deskew0 } }
      else { s with link := { s.link with deskew1 := n s.link.deskew1 } }
    s.lockComplete
  else s)

/-- BRINGUP_TIMEOUT: the timer of DETECT, LOCK or ROLL_CALL expires (R107); DETECT_MS 0 sets none. -/
def execBringupTimeout (s : State) : Out :=
  .next (if (s.linkIs lnkDetect && s.on Fld.LNK_TIMER_A_DETECT_MS) || s.linkIs lnkLock || s.linkIs lnkRollCall then
    s.dropLink 7 0xFF true
  else s)

/-- ROLL_CALL_CONCLUDE: 20 µs have passed without a full CAP (R147 step 4); widths and queues are agreed and SWITCH is
sent, or the exchange ends with no TB or no QB in use (R112). A width below LNK_WIDTH_MAX raises 0x23 (R111). -/
def execRollCallConclude (s : State) : Out :=
  .next (match s.link.peer with
  | some p =>
    if s.linkIs lnkRollCall && s.link.acked && s.link.ackSent && !s.link.switchSent then
      let w := s.agreedWidths p
      let s := { s with link := { s.link with widths := w } }
      let s := s.forEach 4 (fun s b => s.iff (decide (widthOf (w.getD b 15) < widthOf (s.widthMax b)))
        (fun s => s.event 0x23 0))
      if (s.tbInUse 0 || s.tbInUse 1) && (s.qbInUse 0 || s.qbInUse 1) then
        { s with link := { s.link with switchSent := true } }.tryActive
      else s.dropLink 7 0xFF true
    else s
  | none => s)

/-- SWITCH_BLOCK_RX: a control block on QB lane `lane`; a SWITCH on lane 0 counts in ROLL_CALL (R99, R112). -/
def execSwitchBlockRx (lane : Fin 22) (payload : BitVec 64) (s : State) : Out :=
  .next (if !knownBlock payload then s.headerError lane.val 1
  else if s.linkIs lnkRollCall && decide (payload.toNat % 256 = 0x55 ∧ lane.val % 11 = 0) then
    { s with link := { s.link with
      switchRx := (List.range 2).filter (fun k => s.link.switchRx.contains k || k == lane.val / 11) } }.tryActive
  else s)

/-! ### Leaving ACTIVE (R115) -/

/-- CLK_LOSS: the clock lane of a QB in use has been silent for 1 µs. -/
def execClkLoss (bundle : Fin 2) (s : State) : Out :=
  .next (if s.qbInUse bundle.val then s.leaveActive 2 (32 + 11 * bundle.val) else s)

/-- BLOCK_LOCK_LOSS: `headers` invalid sync headers within 64 blocks on QB lane `lane`; each counts as a header error, and 16 on a lane in
use take the link out of ACTIVE. -/
def execBlockLockLoss (lane : Fin 22) (headers : Fin 65) (s : State) : Out :=
  let s' := s.headerError lane.val headers.val
  .next (if s.linkIs lnkActive && decide (lane.val % 11 < widthOf (s.link.widths.getD (2 + lane.val / 11) 15)) &&
      decide (16 ≤ headers.val) then
    s'.leaveActive 3 (22 + lane.val)
  else s')

/-- LNK_EBUFk shows the live offset and its extremes since the centring (R101). -/
def State.recordFill (s : State) (k : Nat) (offset : Int) : State :=
  let a := Reg.LNK_EBUF0 + 4 * k
  let w := s.rd a
  let hi := max (sext 8 (getField 31 24 w)) offset
  let lo := min (sext 8 (getField 23 16 w)) offset
  s.wr a (placeField 31 24 (toCode 8 (satInt 8 hi)) ||| placeField 23 16 (toCode 8 (satInt 8 lo)) |||
    placeField 7 0 (toCode 8 (satInt 8 offset)))

/-- The elastic buffer of QBk, centred, stands at `offset`: event 0x27 once after a centring beyond ±48 UI; beyond ±64 UI the link
leaves ACTIVE (R101, R115). -/
def State.bufferOffset (s : State) (k : Nat) (offset : Int) : State :=
  if s.on Fld.LNK_STATUS_RX_LOCKED then
    let s := s.recordFill k offset
    let s := if (48 < offset ∨ offset < -48) ∧ k ∉ s.link.wandered then
        { s with link := { s.link with
          wandered := (List.range 2).filter (fun j => s.link.wandered.contains j || j == k) } }.event 0x27 0
      else s
    if (64 < offset ∨ offset < -64) ∧ s.qbInUse k then s.leaveActive 4 0xFF else s
  else s

/-- EBUF_SLIP: the offset has passed ±64 UI. -/
def execEbufSlip (bundle : Fin 2) (offset : Int) (s : State) : Out := .next (s.bufferOffset bundle.val offset)

/-- EBUF_WANDER: the offset has passed ±48 UI. -/
def execEbufWander (bundle : Fin 2) (offset : Int) (s : State) : Out := .next (s.bufferOffset bundle.val offset)

/-! ### Control, TEST and the margin scan -/

/-- TEST ends and the link goes to DOWN (R117). The checkers' counts hold. -/
def State.endTest (s : State) (reason : Nat) : State :=
  (s.linkDown reason 0xFF false).setFld Fld.LNK_TEST_GO 0

/-- A write to LNK_CTRL (R107, R113). -/
def State.lnkCtrlWrite (s : State) (d : Word) : State :=
  let s := s.setFld Fld.LNK_CTRL_ENABLE (Fld.LNK_CTRL_ENABLE.of d)
  let s := if Fld.LNK_CTRL_RESTART.of d = 1 then
      let s := if s.linkIs lnkTest then s.endTest 1 else s.dropLink 1 0xFF false
      (s.setFld Fld.LNK_RETRY_COUNT 0).setFld Fld.LNK_RETRY_EXHAUSTED 0
    else s
  if Fld.LNK_CTRL_ENABLE.of d = 0 then s.dropLink 1 0xFF false else s

/-- What drives the TB balls (R107, R112, R116, R118). -/
inductive TbSource where
  | electricalIdle
  | training
  | blocks
  | generator
  /-- TEST without loopback and without a generator: the drivers are on. -/
  | drivers
  /-- The QB data after the elastic buffer, in FE. -/
  | looped
deriving DecidableEq, Repr

def State.tbBalls (s : State) : TbSource :=
  if s.linkIs lnkTrain || s.linkIs lnkLock then .training
  else if s.linkIs lnkRollCall || s.linkIs lnkActive then .blocks
  else if s.linkIs lnkTest then
    if s.link.testLoop = 0 then (if s.on Fld.LNK_TEST_GEN_EN then .generator else .drivers)
    else if s.link.testLoop = 3 then .looped else .electricalIdle
  else .electricalIdle

/-- What the QB lanes receive: their balls, or in TEST the TB lanes' serial output at the samplers (NES) or their parallel data at the
elastic buffers' output (NEP) (R116). -/
inductive QbSource where
  | balls
  | tbSerial
  | tbParallel
deriving DecidableEq, Repr

def State.qbHears (s : State) : QbSource :=
  if s.linkIs lnkTest && s.link.testLoop == 1 then .tbSerial
  else if s.linkIs lnkTest && s.link.testLoop == 2 then .tbParallel else .balls

/-- The QB terminations are present (R107). -/
def State.qbTerminated (s : State) : Bool := !s.linkIs lnkDown

/-- A write to LNK_TEST by `q` (R117, R118): GEN_EN and CHK_EN act at once, setting CHK_EN from 0 clears the checkers' counts
(assumption 106), GO enters TEST when ROOT_LOCK is 1, from ACTIVE as R115 says; a GO in an MGQ waits until its MGA has been sent. -/
def State.lnkTestWrite (s : State) (q : Requester) (d : Word) : State :=
  let was := s.on Fld.LNK_TEST_CHK_EN
  let s := s.plainWrite Reg.LNK_TEST (Fld.LNK_TEST_GO.put 0 d)
  let s := if Fld.LNK_TEST_CHK_EN.of d = 1 ∧ !was then
      let s := s.forEach 44 (fun s e => s.wr (Reg.LNK_PRBS_ERRe e) 0)
      (s.wr Reg.LNK_PRBS_UI_LO 0).wr Reg.LNK_PRBS_UI_HI 0
    else s
  if Fld.LNK_TEST_GO.of d = 1 ∧ s.on Fld.CLK_STATUS_ROOT_LOCK ∧ !s.linkIs lnkTest then
    let loop := s.fld Fld.LNK_TEST_LOOP
    let pattern := s.fld Fld.LNK_TEST_PATTERN
    let ms := s.fld Fld.LNK_TEST_DURATION_MS
    if q = .mgq ∧ s.linkIs lnkActive then { s with boot := { s.boot with afterMga := s.boot.afterMga ++ [.test loop pattern ms] } }
    else (s.leaveActive 6 0xFF).startTest loop pattern ms
  else s

/-- The checkers of the QB data lanes count `ui` more UI and the bit errors `errors`, by e − 22 (R118). -/
def State.checkerCounts (s : State) (errors : List Nat) (ui : Nat) : State :=
  if s.linkIs lnkTest && s.on Fld.LNK_TEST_CHK_EN then
    let s := s.forEach 22 (fun s l => s.iff (decide (l % 11 ≠ 10)) (fun s =>
      s.count (Fld.LNK_PRBS_ERRe_ERR (22 + l)) (errors.getD l 0)))
    let n := ((s.rd Reg.LNK_PRBS_UI_LO).toNat + 2 ^ 32 * (s.rd Reg.LNK_PRBS_UI_HI).toNat + ui) % 2 ^ 64
    (s.wr Reg.LNK_PRBS_UI_LO (BitVec.ofNat 32 n)).wr Reg.LNK_PRBS_UI_HI (BitVec.ofNat 32 (n / 2 ^ 32))
  else s

/-- UI in one HK period (R94). -/
def uiPerHk : Nat := 192

/-- In an HK period of TEST the checkers count its UI; how many bits of them are wrong is free (R118). -/
def State.checkerTick (s : State) : State :=
  if s.linkIs lnkTest && s.on Fld.LNK_TEST_CHK_EN then
    (s.checkerCounts ((List.range 22).map (fun l =>
      (Config.openWord (s.fresh * 0x10000 + l)).toNat % (uiPerHk + 1))) uiPerHk).useFresh
  else s

/-- TEST_END: DURATION_MS has elapsed, or in FE the QB0 clock has been silent for 1 ms (R117). The operands are what the
checkers have counted beyond the HK periods that passed as idle steps: bit errors per QB data lane (by e − 22) and UI checked (R118). -/
def execTestEnd (silent : Bool) (errors : List Nat) (ui : Nat) (s : State) : Out :=
  .next (if s.linkIs lnkTest && ((silent && decide (s.link.testLoop = 3)) || (!silent && decide (s.link.testMs ≠ 0))) then
    (s.checkerCounts errors ui).endTest 6
  else s)

/-- The QB data lanes in use, by lane index (R119). -/
def State.scanLanes (s : State) : List Nat :=
  (List.range 2).flatMap (fun k => (List.range (widthOf (s.link.widths.getD (2 + k) 15))).map (fun l => 22 + 11 * k + l))

/-- A write to LNK_MARGIN_CTRL (R119, R120). -/
def State.lnkMarginWrite (s : State) (d : Word) : State :=
  if Fld.LNK_MARGIN_CTRL_GO.of d = 1 ∧ s.lopBusy 9 then s.setFld Fld.LNK_MARGIN_CTRL_OVERRUN 1
  else
    let s := s.plainWrite Reg.LNK_MARGIN_CTRL d
    if Fld.LNK_MARGIN_CTRL_GO.of d = 1 then
      let dest := s.fld Fld.LNK_MARGIN_DEST_ADDR
      let lanes := s.scanLanes
      let fail := fun s (e : Nat) => ((State.lopStart s 9 lopRunning lanes.length).lopEnd 9 lopFailed e).setFld Fld.LNK_MARGIN_CTRL_GO 0
      if !s.linkIs lnkActive then fail s 1
      else if dest < storeBase ∨ storeEnd < dest + 128 * lanes.length ∨ !s.domOn pdCst then fail s 2
      else
        { s with link := { s.link with scan := lanes, scanDest := dest } }.lopStart 9 lopRunning lanes.length
    else s

/-- LOP9_UNIT_END: the scan of one lane ends with its 64 counts, written in lane order (R119). -/
def execLop9UnitEnd (counts : List (BitVec 16)) (s : State) : Out :=
  .next (match s.link.scan with
  | _ :: rest =>
    if s.lopState 9 = lopRunning then
      let done := s.fld (Fld.LOP_STATn_UNITS_DONE 9)
      let total := s.fld (Fld.LOP_STATn_UNITS_TOTAL 9)
      let bytes := (List.range 64).flatMap (fun i => leBytes 2 (counts.getD i 0).toNat)
      let s := (s.storePut (s.link.scanDest + 128 * done) bytes reqLinkIn).lopUnits 9 (done + 1) total
      let s := { s with link := { s.link with scan := rest } }
      if rest = [] then (s.setFld Fld.LNK_MARGIN_CTRL_GO 0).lopEnd 9 lopDone 0 else s
    else s
  | [] => s)

/-- A write to LNK_EQe: the FFE fields keep their values when their sum would exceed 63 (R106). -/
def State.lnkEqWrite (s : State) (a : Nat) (d : Word) : State :=
  let w := writeWord a d (s.rd a)
  if getField 3 0 w + getField 13 8 w + getField 20 16 w ≤ 63 then s.wr a w
  else s.wr a ((w &&& 0xFF000000#32) ||| (s.rd a &&& 0x00FFFFFF#32))

/-- A write to LNK_MARGIN_DEST: bits [5:0] are written as 0. -/
def State.lnkDestWrite (s : State) (d : Word) : State := s.wr Reg.LNK_MARGIN_DEST (d &&& 0xFFFFFFC0#32)

end Sys2Proof.Machine
end

