-- ==== Sys2Proof/Machine/Packets.lean ====
section
/-!
DEFINITION. Packets of Pholva Link: framing and the receive checks (R127, R130, R131), credits (R137 to R139), Roll call's CAP
(R145 to R147), LBK (R153), EVT (R152), what the device sends (R126, R140), QUE_FLUSH and QUE_CTRL (R142, R447).
-/

namespace Sys2Proof.Machine

/-! ### The catalogue (R128) -/

def tyDld : Nat := 0x01
def tyUld : Nat := 0x02
def tySec : Nat := 0x03
def tyWgt : Nat := 0x04
def tyPra : Nat := 0x05
def tySrs : Nat := 0x06
def tyTim : Nat := 0x10
def tyMgq : Nat := 0x20
def tyMga : Nat := 0x21
def tyEvt : Nat := 0x30
def tyCrd : Nat := 0x40
def tyCap : Nat := 0x41
def tyLbk : Nat := 0x7F

/-- The packet types. -/
def catalogue : List Nat := [0x01, 0x02, 0x03, 0x04, 0x05, 0x06, 0x10, 0x20, 0x21, 0x30, 0x40, 0x41, 0x7F]

/-- Link-control types, which belong to no queue (R122). -/
def linkControl (t : Nat) : Bool := t == tyCrd || t == tyCap || t == tyLbk

/-- Data types that belong to a queue and that the partner sends (R128). -/
def dataType (t : Nat) : Bool := t == tyDld || t == tySec || t == tyWgt

/-- Queue `n` takes packets of type `t` from the partner (R129). -/
def takesType (n t : Nat) : Bool :=
  if t = tyDld then decide (n < 8) else if t = tySec then n == 8 else if t = tyWgt then n == 9
  else if t = tyMgq then n == 10 else if t = tyTim then n == 11 else false

/-- The types that the partner sends (R128). -/
def partnerTypes : List Nat := [0x01, 0x03, 0x04, 0x10, 0x20, 0x40, 0x41, 0x7F]

/-- LEN is in the type's range, LEN 0 of a queued data type included (R128, R131). -/
def lenOk (t len max : Nat) : Bool :=
  let r := fun lo hi => decide (lo ≤ len) && decide (len ≤ hi) && decide (len ≤ max)
  if dataType t then len == 0 || r 4 8160
  else if t = tyTim then (len == 0 || len == 16) && decide (len ≤ max)
  else if t = tyMgq then r 20 1028
  else if t = tyCrd then r 0 128
  else if t = tyLbk then r 4 1024
  else if t = tyCap then (len == 0 || len == 160) && decide (len ≤ max)
  else false

/-- The bytes that arrive for a command of type `t`: byte 0 is the type, unless it is one that only the device sends, or no type at all:
such a packet is judged as it stands. -/
def typed (t : Nat) (bytes : List Byte) : List Byte :=
  if partnerTypes.contains (fieldAt bytes 0 1) then BitVec.ofNat 8 t :: bytes.drop 1 else bytes

/-! ### Receive checks -/

/-- Framing on QBk is lost (R127). -/
def State.framingLost (s : State) (k : Nat) : Bool := if k = 0 then s.link.lost0 else s.link.lost1

def State.setFramingLost (s : State) (k : Nat) (b : Bool) : State :=
  { s with link := if k = 0 then { s.link with lost0 := b } else { s.link with lost1 := b } }

/-- A packet header breaks framing (R127). -/
def framingBad (p : List Byte) : Bool :=
  !catalogue.contains (pktType p) || decide (8160 < pktLen p) || pktLen p % 4 != 0

/-- QUE_RXERRk. -/
def rxErrFraming (k : Nat) : Fld := ⟨Reg.QUE_RXERR0 + 4 * k, 31, 16⟩
def rxErrCrc (k : Nat) : Fld := ⟨Reg.QUE_RXERR0 + 4 * k, 15, 0⟩

/-- Loss of framing: counted, event 0x2A with TYPE 0xFF (R127, R132). -/
def State.loseFraming (s : State) (k : Nat) (p : List Byte) : State :=
  ((s.setFramingLost k true).count (rxErrFraming k) 1).event 0x2A (0xFF + 256 * pktQueue p + 65536 * k)

/-- The trailer of a packet matches (R125). -/
def trailerOk (p : List Byte) : Bool := fieldAt p (16 + pktLen p) 4 == crc32 (bytesAt p 0 (16 + pktLen p))

/-- Step 2 of R131. In ROLL_CALL a CAP of any LEN goes on to R146, whose reason 0x04 judges it (assumption 97). -/
def State.wellFormedPkt (s : State) (k : Nat) (p : List Byte) : Bool :=
  let t := pktType p
  let n := pktQueue p
  let q := s.queue n
  if s.linkIs lnkRollCall then t == tyCap && pktStream p == 0xFFFF
  else if linkControl t then pktStream p == 0xFFFF && lenOk t (pktLen p) (s.fld Fld.QUE_STATUS_MAX_LEN)
  else
    q.use && takesType n t && queueBundleOk q.bundle k s.qbInUse && (t != tyDld || pktCarrier p == n) &&
      (t != tyWgt || s.fld Fld.QUE_STATUS_LEVEL == 3) && lenOk t (pktLen p) (s.fld Fld.QUE_STATUS_MAX_LEN)

/-- Available credit as a signed 24-bit number (R134). -/
def State.creditLeft (s : State) (n : Nat) : Int :=
  sext 24 (s.fld (Fld.QUE_GRANTn_TOTAL n) + 2 ^ 24 - s.fld (Fld.QUE_CONSn_TOTAL n))

/-- The expected SEQ of queue `n` on bundle `k`. -/
def QueueState.expect (q : QueueState) (k : Nat) : Option Nat := if k = 0 then q.expect0 else q.expect1

def QueueState.setExpect (q : QueueState) (k : Nat) (v : Nat) : QueueState :=
  if k = 0 then { q with expect0 := some v } else { q with expect1 := some v }

/-- Step 5 of R131 and R130: false where the packet is stale. -/
def State.checkSeq (s : State) (k : Nat) (p : List Byte) : State × Bool :=
  let n := pktQueue p
  let next := fun (s : State) => s.setQueue n ((s.queue n).setExpect k ((pktSeq p + 1) % 65536))
  match (s.queue n).expect k with
  | none => (next s, true)
  | some e =>
    let d := (pktSeq p + 65536 - e) % 65536
    if pktSeqInit p ∨ d = 0 then (next s, true)
    else if d < 32768 then
      (next ((s.count (Fld.QUE_COUNTn_SEQ_GAP n) d).event 0x29 (n + 256 * k + 65536 * d)), true)
    else (s, false)

/-- Steps 2 to 5 of R131 on a packet whose trailer matches: true where it is accepted. ACCT counts every packet that names an
inbound queue in use (R134), and one dropped at step 2, 3 or 5 returns its credits (R135). -/
def State.checkPkt (s : State) (k : Nat) (p : List Byte) : State × Bool :=
  let n := pktQueue p
  let queued := !linkControl (pktType p) && queueInbound n && (s.queue n).use
  let c := if queued then creditsOf (pktLen p) else 0
  let left := s.creditLeft n
  let s := if queued then s.countWrap (Fld.QUE_CONSn_TOTAL n) c else s
  if !s.wellFormedPkt k p then
    (((s.count Fld.QUE_MISC_MALFORMED 1).event 0x2A (pktType p + 256 * n + 65536 * k)).grant n c, false)
  else if !queued then (s, true)
  else if dataType (pktType p) && pktLen p == 0 then
    ((s.count (Fld.QUE_DROPBn_ZERO_LEN n) 1).grant n c, false)
  else if left < (c : Int) then ((s.count (Fld.QUE_DROPAn_NOCREDIT n) 1).event 0x24 n, false)
  else
    let r := s.checkSeq k p
    if r.2 then (r.1, true) else ((r.1.count (Fld.QUE_DROPBn_STALE n) 1).grant n c, false)

/-- A packet arrives on QBk: framing (R127), the trailer, then R131. `afterControl` says that a control block came before it,
`cut` that one came inside it. -/
def State.receive (s : State) (k : Nat) (afterControl cut : Bool) (p : List Byte) : State × Bool :=
  if !(s.linkIs lnkRollCall || s.linkIs lnkActive) then (s, false)
  else if s.framingLost k && !afterControl then (s, false)
  else
    let s := s.setFramingLost k false
    if framingBad p || cut then (s.loseFraming k p, false)
    else if !trailerOk p then ((s.count (rxErrCrc k) 1).event 0x28 k, false)
    else s.checkPkt k p

/-- An accepted packet that was arriving when its queue was flushed or reset is discarded (R142, R143). -/
def State.discardArrived (s : State) (p : List Byte) : State :=
  let n := pktQueue p
  (s.count (Fld.QUE_DROPAn_DISCARD n) 1).grant n (creditsOf (pktLen p))

/-- `f` on the state after the checks, where the packet is accepted. Where framing is lost no packet arrives. -/
def State.onAccept (s : State) (k : Nat) (afterControl cut : Bool) (p : List Byte) (f : State → State) : State :=
  let lost := s.framingLost k && !afterControl
  let doomed := !linkControl (pktType p) && (s.queue (pktQueue p)).doomed.contains k
  let r := s.receive k afterControl cut p
  let t := if r.2 then (if doomed then r.1.discardArrived p else f r.1) else r.1
  if lost then t else t.endReception k

/-! ### Sending (R126, R140) -/

/-- A packet with SEQ and SEQ_INIT in its header (R130). -/
def withSeq (p : List Byte) (seq : Nat) (init : Bool) : List Byte :=
  p.take 1 ++ leBytes 1 (fieldAt p 1 1 % 2 + 2 * bit init) ++ bytesAt p 2 4 ++ leBytes 2 seq ++ p.drop 8

/-- The packet that leaves is `p` on TBk. -/
def State.send (s : State) (k : Nat) (p : List Byte) : State :=
  { s with link := { s.link with sent := [(k, onWire p)] } }

/-- DP cycles that `n` blocks take on `w` lanes: a lane moves 4 blocks every 11 of them (R96). -/
def blockCycles (n w : Nat) : Nat := (11 * n + 4 * w - 1) / (4 * w)

/-- The packet being sent on TBk has gone: what waited for it is done (R36, R117). -/
def State.endFlight (s : State) (k : Nat) : State :=
  let f : List Flight := s.link.flight.filter (fun f => f.tb == k)
  { s with link := { s.link with flight := s.link.flight.filter (fun f => f.tb != k) } }.afterMgas (f.flatMap Flight.after)

/-- Another HK period of sending has passed. -/
def State.flightTick (s : State) : State :=
  let s := { s with link := { s.link with flight := s.link.flight.map (fun f : Flight => { f with left := f.left - 8 }) } }
  s.forEach 2 (fun s k => if s.link.flight.any (fun f => f.tb == k && f.left == 0) then s.endFlight k else s)

/-- The first packet `p` of queue `n` leaves on TBk, its header taking `seq` and `init`, read from its store: an uncorrectable word there
inverts its trailer (R158, R159). -/
def State.sendStored (s : State) (n k : Nat) (p : StoredPkt) (seq : Nat) (init : Bool) : State :=
  let b := (withSeq (s.pktNow p) seq init)
  let r := s.readPacket p reqLinkOut
  let s := r.1
  let w := if r.2 then onWire b else onWireBad b
  { s with link := { s.link with
    sent := [(k, w)]
    flight := s.link.flight ++ [⟨k, n, b, blockCycles (w.length / 8) (widthOf (s.link.widths.getD k 15)), p.after⟩] } }

/-- The TB that carries link-control packets: TB0 unless only TB1 is in use. -/
def State.controlTb (s : State) : Nat := if s.tbInUse 0 then 0 else 1

/-- A link-control header: STREAM 0xFFFF, ATAG 0 (R122, R123). -/
def controlHeader (t len seq : Nat) : List Byte :=
  leBytes 1 t ++ leBytes 1 0 ++ leBytes 2 0xFFFF ++ leBytes 2 len ++ leBytes 2 seq ++ leBytes 8 0

/-- Outbound queue `n` may send its first packet on TBk (R129, R134, R140). -/
def State.maySend (s : State) (n k : Nat) : Bool :=
  let q := s.queue n
  match q.pkts with
  | p :: _ =>
    s.linkIs lnkActive && decide (16 ≤ n) && decide (n < 28) && q.use && s.tbInUse k && queueBundleOk q.bundle k s.tbInUse &&
      (q.unlimited || decide ((p.credits : Int) ≤ s.creditLeft n))
  | [] => false

/-- The MGQ waiting in QM begins to be performed when QA has credit and room for the largest MGA (R140, R151). -/
def State.mgqKick (s : State) : State :=
  if s.link.mgq.isNone && s.linkIs lnkActive &&
      ((s.queue 27).unlimited || decide (3 ≤ s.creditLeft 27)) && decide ((s.queue 27).occupancy + 3 ≤ 256) then
    match (s.queue 10).pkts with
    | p :: ps =>
      { (s.setQueue 10 { s.queue 10 with pkts := { p with begun := true } :: ps }) with
        link := { s.link with mgq := some ⟨pktPayload p.bytes, pktSub p.bytes, 0, [], false⟩ } }
    | [] => s
  else s

/-- The MGA of the MGQ being performed is queued in QA and the MGQ is consumed; outside a session the MGA is discarded
(R144, R150, R151). The next MGQ follows. -/
def State.mgaSend (s : State) (m : MgqState) (result : Nat) : State :=
  let count := if result = 1 then 0 else m.done
  let payload := leBytes 2 (fieldAt m.payload 0 2) ++ leBytes 1 count ++ leBytes 1 result ++ m.answers
  let p := mkHeader tyMga 0 27 m.sub payload.length 0 ++ payload
  let waits := s.boot.afterMga
  let s := { s with link := { s.link with mgq := none }, boot := { s.boot with afterMga := [] } }
  let s := s.consumeIf 10 (fun p => p.begun)
  if s.linkIs lnkActive then (s.putPacket 27 p s.air 0 reqLinkOut waits).mgqKick
  else (s.count (Fld.QUE_DROPAn_DISCARD 27) 1).afterDown waits

/-- An MGQ payload of LEN `len` is malformed (R151). -/
def mgqMalformed (p : List Byte) (len : Nat) : Bool :=
  let count := fieldAt p 2 1
  count == 0 || decide (64 < count) || len != 4 + 16 * count ||
    (List.range count).any (fun i => let op := fieldAt p (4 + 16 * i) 1; op == 0 || decide (3 < op))

/-- A malformed MGQ at the front is answered at once with RESULT 0x01, nothing performed. -/
def State.mgqReject (s : State) : State :=
  match s.link.mgq with
  | some m => if m.done = 0 ∧ mgqMalformed m.payload m.payload.length then s.mgaSend m 1 else s
  | none => s

/-- MGQs start while the one at the front is malformed; `fuel` bounds them by the queue. -/
def State.mgqStart : Nat → State → State
  | 0, s => s.mgqKick
  | n + 1, s =>
    let s := s.mgqKick
    match s.link.mgq with
    | some m => if m.done = 0 ∧ mgqMalformed m.payload m.payload.length then State.mgqStart n s.mgqReject else s
    | none => s

/-- OUTBOUND_PACKET_SEND: the packet before it on the TB has gone; the first packet of an outbound queue begins, and its store is
released (R130, R134, R140). What waits for an MGA follows its last block (R36, R117). `upsets` are the store words hit before it. -/
def execOutboundPacketSend (queue : Fin 32) (bundle : Fin 2) (upsets : List StoreUpset) (s : State) : Out :=
  let n := queue.val
  let k := bundle.val
  let s := s.hits upsets
  let s := if s.maySend n k then s.endFlight k else s
  .next (if s.maySend n k then
    match (s.queue n).pkts with
    | p :: _ =>
      let q := s.queue n
      let seq := if k = 0 then q.tx0 else q.tx1
      let init := if k = 0 then q.init0 else q.init1
      let q' := if k = 0 then { q with tx0 := (seq + 1) % 65536, init0 := false }
        else { q with tx1 := (seq + 1) % 65536, init1 := false }
      let s := (s.setQueue n { q' with pkts := q.pkts.drop 1 }).relevel n
      let s := (s.countWrap (Fld.QUE_CONSn_TOTAL n) p.credits).sendStored n k p seq init
      if n = 27 then State.mgqStart 256 s else s
    | [] => s
  else s)

/-! ### Commands -/

/-- CRD_RECEIVE: each entry for a queue in use takes the partner's GRANT, or its CONS to be reconciled 10 µs later (R137, R139). -/
def execCrdReceive (bundle : Fin 2) (afterControl cut : Bool) (bytes : List Byte) (s : State) : Out :=
  let p := typed tyCrd bytes
  .next (s.onAccept bundle.val afterControl cut p (fun s =>
    let w := fun i => fieldAt (pktPayload p) (4 * i) 4
    let count := pktLen p / 4
    let s := (List.range 32).foldl (fun s n =>
      match ((List.range count).filter (fun i => w i / 2 ^ 24 % 32 == n)).getLast? with
      | some i =>
        if !(s.queue n).use then s
        else if queueInbound n then s.setQueue n { s.queue n with reports := (s.queue n).reports ++ [w i % 2 ^ 24] }
        else s.setFld (Fld.QUE_GRANTn_TOTAL n) (w i % 2 ^ 24)
      | none => s) s
    State.mgqStart 256 s))

/-- CRD_RECONCILE: 10 µs after a CONS report, credits lost in transit return (R139). -/
def execCrdReconcile (queue : Fin 12) (s : State) : Out :=
  let n := queue.val
  .next (match (s.queue n).reports with
  | r :: rs =>
    let s := s.setQueue n { s.queue n with reports := rs }
    let d := (r + 2 ^ 24 - s.fld (Fld.QUE_CONSn_TOTAL n)) % 2 ^ 24
    if 1 ≤ d ∧ d < 2 ^ 23 then (s.countWrap (Fld.QUE_CONSn_TOTAL n) d).grant n d else s
  | [] => s)

/-- R146: the first reason for which a peer's CAP is not acceptable. -/
def State.capReason (s : State) (p : List Byte) (len : Nat) : Option Nat :=
  let mine := s.link.cap
  if len ≠ 160 then some 4
  else if min (fieldAt mine 0 1) (fieldAt p 0 1) < max (fieldAt mine 1 1) (fieldAt p 1 1) then some 1
  else if fieldAt p 2 1 = 1 then some 2
  else if fieldAt p 6 2 < 1028 ∨ fieldAt p 6 2 % 4 ≠ 0 then some 3
  else if (List.range 32).any (fun n => bitOf (peerWord p n) 26 && peerWord p n / 2 ^ 24 % 4 == 3) then some 5
  else none

/-- CAP_RECEIVE: an acknowledgement of the device's own CAP, or a peer's CAP that is stored or rejected (R146, R147). -/
def execCapReceive (bundle : Fin 2) (afterControl cut : Bool) (bytes : List Byte) (s : State) : Out :=
  let p := typed tyCap bytes
  .next (s.onAccept bundle.val afterControl cut p (fun s =>
    if !s.linkIs lnkRollCall then s
    else if pktLen p = 0 then
      if pktSeq p = s.link.capVersion then { s with link := { s.link with acked := true } } else s
    else
      let b := pktPayload p
      match s.capReason b (pktLen p) with
      | some r => s.event 0x2B r
      | none =>
        let s := { s with link := { s.link with peer := some b, peerVersion := pktSeq p } }
        let s := (bytesToWords b).zipIdx.foldl (fun s w => s.wr (Reg.QUE_PEER_CAP w.2) w.1) s
        s.setFld Fld.QUE_STATUS_PEER_DETAINED (fieldAt b 3 1 % 2)))

/-- LBK_RECEIVE: one LBK may wait for its echo (R153). -/
def execLbkReceive (bundle : Fin 2) (afterControl cut : Bool) (bytes : List Byte) (s : State) : Out :=
  let p := typed tyLbk bytes
  .next (s.onAccept bundle.val afterControl cut p (fun s =>
    if s.link.lbk.isSome then s.count Fld.QUE_MISC_LBK_DROP 1
    else { s with link := { s.link with lbk := some (bundle.val, bytesAt p 0 (16 + pktLen p)) } }))

/-- LBK_ECHO: the waiting LBK leaves on the TB of its QB's number, or on the other (R153). -/
def execLbkEcho (s : State) : Out :=
  .next (match s.link.lbk with
  | some (k, p) =>
    let tb := if s.tbInUse k then k else 1 - k
    let s := s.endFlight tb
    if s.link.lbk.isSome then { s with link := { s.link with lbk := none } }.send tb p else s
  | none => s)

/-- MGQ_RECEIVE: an MGQ waits in QM and is performed in its turn (R151). -/
def execMgqReceive (bundle : Fin 2) (afterControl cut : Bool) (bytes : List Byte) (s : State) : Out :=
  let p := typed tyMgq bytes
  .next (s.onAccept bundle.val afterControl cut p (fun s => State.mgqStart 256 (s.enqueue 10 (bytesAt p 0 (16 + pktLen p)))))

/-- MGQ_START_DEFERRED: an MGQ held back for QA starts as soon as credit and room allow (R140). -/
def execMgqStartDeferred (s : State) : Out := .next (State.mgqStart 256 s)

/-- The CRD entry of queue `n`: GRANT of an inbound queue, CONS of an outbound one (R137). -/
def State.crdEntry (s : State) (n : Nat) : List Byte :=
  leBytes 3 (s.fld (if queueInbound n then Fld.QUE_GRANTn_TOTAL n else Fld.QUE_CONSn_TOTAL n)) ++ leBytes 1 n

/-- CRD_SEND: the changes not yet sent, or every queue in use (R138). -/
def execCrdSend (all : Bool) (s : State) : Out :=
  let s := if s.linkIs lnkActive then s.endFlight s.controlTb else s
  .next (if s.linkIs lnkActive then
    let qs := (List.range 32).filter (fun n => (s.queue n).use && (all || (s.queue n).dirty))
    let body := qs.flatMap s.crdEntry
    let s := qs.foldl (fun s n => s.setQueue n { s.queue n with dirty := false }) s
    s.send s.controlTb (controlHeader tyCrd body.length 0 ++ body)
  else s)

/-- A CAP leaves on every TB whose lane 0 was detected (R112, R147). -/
def State.sendCap (s : State) (p : List Byte) : State :=
  let tbs := (List.range 2).filter (fun k => s.on (Fld.LNK_LANE_STATUSe_DETECTED (11 * k)))
  { s with link := { s.link with sent := tbs.map (fun k => (k, onWire p)) } }

/-- CAP_SEND: the full CAP until it is acknowledged, or the acknowledgement of the stored peer CAP (R147). -/
def execCapSend (ack : Bool) (s : State) : Out :=
  .next (if s.linkIs lnkRollCall then
    if ack then
      if s.link.peer.isSome then
        { s with link := { s.link with ackSent := true } }.sendCap (controlHeader tyCap 0 s.link.peerVersion)
      else s
    else if s.link.acked then s
    else s.sendCap (controlHeader tyCap 160 s.link.capVersion ++ s.link.cap)
  else s)

/-- One EVT record (R152). -/
def evtRecord (r : EventRec × Nat) : List Byte :=
  leBytes 1 r.1.code ++ leBytes 1 0 ++ leBytes 2 r.2 ++ leBytes 4 r.1.info.toNat ++ leBytes 8 r.1.air

/-- EVT_SEND: up to 32 records, oldest first, are packed into an EVT (R152). -/
def execEvtSend (s : State) : Out :=
  .next (if s.linkIs lnkActive ∧ s.link.records ≠ [] then
    let rs := s.link.records.take 32
    let s := { s with link := { s.link with records := s.link.records.drop 32 } }
    s.enqueue 26 (mkHeader tyEvt 0 26 0 (16 * rs.length) 0 ++ rs.flatMap evtRecord)
  else s)

/-- EVT_KEEPALIVE: no EVT has left for 10 ms (R152). -/
def execEvtKeepalive (s : State) : Out :=
  .next (if s.linkIs lnkActive ∧ (s.queue 26).use ∧ (s.queue 26).occupancy + 1 ≤ 256 then
    s.enqueue 26 (mkHeader tyEvt 0 26 0 0 0)
  else s)

/-- QE's store has room for one more record (R140): its packets and the records not yet packed fit 256 credits. -/
def State.evtRoom (s : State) : Bool :=
  let n := s.link.records.length + 1
  let rest := if n % 32 = 0 then 0 else creditsOf (16 * (n % 32))
  decide ((s.queue 26).occupancy + 3 * (n / 32) + rest ≤ 256)

/-- An event routed to EVT packets joins the records to send; without room it is discarded and counted (R140, R405). -/
def State.addRecord (s : State) (r : EventRec) (n : Nat) : State :=
  if s.linkIs lnkActive then
    if s.evtRoom then { s with link := { s.link with records := s.link.records ++ [(r, n)] } }
    else s.count (Fld.QUE_DROPAn_DISCARD 26) 1
  else s

/-- The QBs on which a packet of queue `n` is arriving: `rx k` is the queue whose packet is arriving on QBk. -/
def arriving (rx : Nat → Option Nat) (n : Nat) : List Nat := (List.range 2).filter (fun k => rx k == some n)

/-- A write to QUE_FLUSH: bits of queues not in use clear at once, the others flush their queues, an inbound one once the packets that
are arriving for it have ended; a request merges with one that is pending (R142). -/
def State.queFlushWrite (s : State) (rx : Nat → Option Nat) (d : Word) : State :=
  s.forEach 32 (fun s n =>
    if d.getLsbD n && (s.queue n).use then
      let wait := (List.range 2).filter (fun k => (s.queue n).doomed.contains k || (arriving rx n).contains k)
      if wait = [] ∨ !queueInbound n then s.flushNow n
      else (s.setQueue n { s.queue n with doomed := wait }).flushBit n true
    else s)

/-- The queues whose packets are arriving on QB0 and QB1. -/
def rxOf (rx0 rx1 : Option (Fin 12)) (k : Nat) : Option Nat := (if k = 0 then rx0 else rx1).map (·.val)

/-- QUEUE_POINTER_MISMATCH (R143). -/
def execQueuePointerMismatch (queue : Fin 32) (rx0 rx1 : Option (Fin 12)) (s : State) : Out :=
  .next (s.pointerFault queue.val (arriving (rxOf rx0 rx1) queue.val))

/-- A write to QUE_CTRL: CNT_CLR clears every QUE counter and WM_CROSS (R447). -/
def State.queCtrlWrite (s : State) (d : Word) : State :=
  let s := s.setFld Fld.QUE_CTRL_PL2_ONLY (Fld.QUE_CTRL_PL2_ONLY.of d)
  if Fld.QUE_CTRL_CNT_CLR.of d = 1 then
    let s := ((s.wr Reg.QUE_RXERR0 0).wr Reg.QUE_RXERR1 0).wr Reg.QUE_MISC 0
    s.forEach 32 (fun s n => ((s.wr (Reg.QUE_DROPAn n) 0).wr (Reg.QUE_DROPBn n) 0).wr (Reg.QUE_COUNTn n) 0)
  else s

/-- A write to QUE_CFGn: USE and BUNDLE of outbound queues 16 to 25, CAP of inbound queues 0 to 9 (R136). -/
def State.queCfgWrite (s : State) (n : Nat) (d : Word) : State :=
  if n < 10 then s.setFld (Fld.QUE_CFGn_CAP n) ((Fld.QUE_CFGn_CAP n).of d)
  else if n < 16 then s
  else
    let s := if n < 26 then s.setFld (Fld.QUE_CFGn_USE n) ((Fld.QUE_CFGn_USE n).of d) else s
    if n < 28 ∧ (Fld.QUE_CFGn_BUNDLE n).of d ≠ 3 then s.setFld (Fld.QUE_CFGn_BUNDLE n) ((Fld.QUE_CFGn_BUNDLE n).of d) else s

/-- What a read of QUE_CFGn shows beside the stored fields: CAP of QM and QT, USE of inbound queues, QE and QA. -/
def State.queCfgRead (s : State) (n : Nat) : Word :=
  let w := s.rd (Reg.QUE_CFGn n)
  let use := if n < 10 then decide (s.fld (Fld.QUE_CFGn_CAP n) ≠ 0) else if n < 12 then true
    else if n < 16 then false else if n < 26 then s.on (Fld.QUE_CFGn_USE n) else decide (n < 28)
  let w := putField 26 26 (bit use) w
  if n = 10 ∨ n = 11 then putField 23 0 0x100 w else w

end Sys2Proof.Machine
end

