-- ==== Sys2Proof/Machine/Air.lean ====
section
/-!
DEFINITION. Air timing (R187 to R199), Timetable rows and swaps (R200 to R206), beam-book updates (R213 to R215) and the array
map (R216, R217). What a symbol's row does to the groups stands in Timetable.lean.
-/

namespace Sys2Proof.Machine

/-! ### Air time (R188) -/

/-- HK ticks in a frame. -/
def frameTicks : Nat := 1228800

/-- Ticks of an ordinary symbol of numerology `m`. -/
def symTicks (m : Nat) : Nat := 8768 / 2 ^ m

/-- Ticks from the frame start to symbol `k` of the frame: every 0.5 ms begins with a symbol 64 ticks longer. -/
def symOffset (m k : Nat) : Nat :=
  let n := 7 * 2 ^ m
  61440 * (k / n) + (if k % n = 0 then 0 else 64 + symTicks m * (k % n))

/-- The symbol of the frame that contains tick `t` of the frame. -/
def symAt (m t : Nat) : Nat :=
  let r := t % 61440
  7 * 2 ^ m * (t / 61440) + (if r < symTicks m + 64 then 0 else (r - 64) / symTicks m)

/-- Slots in a frame. -/
def slotsPerFrame (m : Nat) : Nat := 10 * 2 ^ m

/-- The frame index, and the symbol of the frame that runs at AIR_COUNT `a`. -/
def frameOf (a : Nat) : Nat := a / frameTicks
def symbolOf (m a : Nat) : Nat := symAt m (a % frameTicks)

/-- The air time at which symbol `k` of frame `f` starts. -/
def airOf (m f k : Nat) : Nat := f * frameTicks + symOffset m k

/-- The start of the symbol of numerology `m` that contains AIR_COUNT `a`. -/
def symStart (m a : Nat) : Nat := airOf m (frameOf a) (symbolOf m a)

/-- A HK tick count in µs, saturated to 16 bits (R219). -/
def ticksToUs (t : Int) : Nat := min 0xFFFF (t.toNat * 100 / 12288)

/-- The air time of SFN, slot and symbol that lies nearest to AIR_COUNT `now` (R198). -/
def resolveAir (m sfn slot sym now : Nat) : Int :=
  let p : Int := 1024 * frameTicks
  let off : Int := sfn * frameTicks + symOffset m (14 * slot + sym)
  let d := (off - now) % p
  now + (if p / 2 < d then d - p else d)

/-- ATM_WINDOW in HK ticks, truncated (R197). -/
def State.tEarly (s : State) : Nat := s.fld Fld.ATM_WINDOW_T_EARLY * 12288 / 100
def State.tLate (s : State) : Nat := s.fld Fld.ATM_WINDOW_T_LATE * 12288 / 100

/-- A write to ATM_WINDOW, ignored unless R197 holds. -/
def State.windowWrite (s : State) (d : Word) : State :=
  let e := Fld.ATM_WINDOW_T_EARLY.of d
  let l := Fld.ATM_WINDOW_T_LATE.of d
  if 20 ≤ l ∧ l ≤ 1000 ∧ l + 10 ≤ e ∧ e ≤ 10000 then s.wr Reg.ATM_WINDOW d else s

/-- R199, R195: the arrival check of a packet of queue `n` for a symbol at `a`; false where it is dropped, early or late, with
its credits returned. -/
def State.checkArrival (s : State) (n c : Nat) (a : Int) : State × Bool :=
  let now : Int := s.air
  if !s.time.everLocked then (((s.count (Fld.ATM_ARRq_LATE n) 1).event 0x53 n).grant n c, false)
  else if now < a - s.tEarly then
    (((s.count (Fld.ATM_ARRq_EARLY n) 1).event 0x54 (n + 65536 * ticksToUs (a - s.tEarly - now))).grant n c, false)
  else if a - s.tLate < now then
    (((s.count (Fld.ATM_ARRq_LATE n) 1).event 0x53 (n + 65536 * ticksToUs (now - (a - s.tLate)))).grant n c, false)
  else (s, true)

/-! ### Synchronisation (R190 to R194) -/

def syncUnsynced : Nat := 0
def syncAcquiring : Nat := 1
def syncLocked : Nat := 2
def syncHoldover : Nat := 3

def State.syncState (s : State) : Nat := s.fld Fld.ATM_SYNC_STATUS_STATE

/-- A new synchronisation state; entry into LOCKED or HOLDOVER from another state raises its event (R193). -/
def State.setSync (s : State) (st : Nat) : State :=
  let old := s.syncState
  let src := s.fld Fld.ATM_SYNC_CTRL_SRC
  let s := s.setFld Fld.ATM_SYNC_STATUS_STATE st
  if st = old then s
  else if st = syncLocked then { s with time := { s.time with everLocked := true } }.event 0x50 src
  else if st = syncHoldover then s.event 0x51 src
  else s

/-- AIR_COUNT is loaded with its value plus `d`, modulo 2 ^ 64; instants of the past and edges on their way, kept as AIR_COUNT values,
move along. -/
def State.loadAir (s : State) (d : Int) : State :=
  let move := fun a : Nat => ((a : Int) + d).toNat
  { s with
    air := ((s.air + d) % (2 ^ 64 : Nat)).toNat
    time := { s.time with edge := s.time.edge.map (· + d) }
    rf := { s.rf with
      synths := SMap.mapVal Synth.idle (fun y => { y with lockedAt := move y.lockedAt }) s.rf.synths
      edges := s.rf.edges.map (fun e => { e with air := move e.air })
      supplyEdges := s.rf.supplyEdges.map (fun e => { e with air := move e.air })
      falls := SMap.mapVal 0 move s.rf.falls
      log := s.rf.log.map (fun l => { l with air := move l.air }) }
    rssi := SMap.mapVal 0 move s.rssi
    dlc := { s.dlc with fetched := [] }
    ulc := { s.ulc with fetched := [] }
    smp := { s.smp with
      rx := s.smp.rx.map (fun r => (move r.1, r.2))
      attens := SMap.mapVal [] (fun h => h.map (fun x => (move x.1, x.2))) s.smp.attens
      users := SMap.mapVal [] (fun h => h.map (fun x => (move x.1, x.2))) s.smp.users
      taps := SMap.mapVal [] (fun h => h.map (fun x => (move x.1, x.2))) s.smp.taps
      flush := SMap.mapVal [] (fun h => h.map move) s.smp.flush
      holes := s.smp.holes.map (fun g => ⟨g.path, move g.lo, move g.hi⟩)
      stops := s.smp.stops.map (fun g => ⟨g.path, move g.lo, move g.hi⟩)
      mutes := s.smp.mutes.map (fun g => ⟨g.path, move g.lo, move g.hi⟩)
      past := SMap.mapVal [] (fun h => h.map (fun x => { x with upTo := move x.upTo })) s.smp.past }
    cal := { s.cal with probes := s.cal.probes.map (fun r => { r with air := move r.air }) }
    lin := { s.lin with groups := SMap.mapVal LinGroup.idle (fun g =>
      { g with selAt := g.selAt.map move, started := g.started.map move }) s.lin.groups } }

/-- LOP0 ends before its result: LOC is OFF; announced forced slots stay (R343, R348, R350). -/
def State.lop0Stop (s : State) (state err : Nat) : State :=
  let s : State := { s with cal := { s.cal with lop0 := none } }
  let s := (s.setFld Fld.RFE_CAL_STATUS_STATE 0).setFld Fld.CAL_ARR_CTRL_ABORT 0
  (s.setFld Fld.CAL_ARR_CTRL_GO 0).lopEnd 0 state err

/-- A decided step waits for the next frame boundary (R194); it ends a LOP0 whose measurement has not ended (R348). -/
def State.decideStep (s : State) (d : Int) : State :=
  let s := match s.cal.lop0 with
    | some c => if c.chips < c.total then s.lop0Stop lopAborted 6 else s
    | none => s
  { s with time := { s.time with step := some d, outliers := [] } }.setFld Fld.ATM_SYNC_STATUS_STEP_PENDING 1

/-- Two disagreeing observations lie within TOL of one another. -/
def State.withinTol (s : State) (a b : Int) : Bool := decide ((a - b).natAbs ≤ s.fld Fld.ATM_SYNC_CTRL_TOL)

/-- A disagreeing observation in LOCKED or HOLDOVER (R194). -/
def State.disagree (s : State) (d : Int) : State :=
  let s := s.count Fld.ATM_SYNC_STATUS_OUTLIERS 1
  let run := d :: s.time.outliers.take 2
  match run with
  | [a, b, c] =>
    if s.withinTol a b && s.withinTol b c && s.withinTol a c then s.decideStep d
    else { s with time := { s.time with outliers := run } }
  | _ => { s with time := { s.time with outliers := run } }

/-- An observation with error `d` (R193). -/
def State.observe (s : State) (d : Int) : State :=
  let s := s.wr Reg.ATM_SYNC_ERR (BitVec.ofInt 32 (satInt 32 d))
  let agrees := decide (d.natAbs ≤ s.fld Fld.ATM_SYNC_CTRL_TOL)
  let st := s.syncState
  if st = syncUnsynced then (s.loadAir d).setSync syncAcquiring
  else if st = syncAcquiring then (if agrees then s.setSync syncLocked else s.loadAir d)
  else if agrees then ({ s with time := { s.time with outliers := [] } }).setSync syncLocked
  else s.disagree d

/-- A TIM accepted for queue QT is used or ignored as SRC says, and is consumed at once (R190, R191). -/
def State.useTim (s : State) (p : List Byte) (jitter : Int) : State :=
  let src := s.fld Fld.ATM_SYNC_CTRL_SRC
  let time := fieldAt p 16 8
  let atAlign := bitOf (fieldAt p 24 4) 0
  if pktLen p = 0 then
    if src = 2 then { s with time := { s.time with tim := some (false, pktSfn p) } }
    else s.count Fld.ATM_SYNC_STATUS_OUTLIERS 1
  else if src = 1 ∧ !atAlign then s.observe ((time : Int) - (s.air + jitter))
  else if (src = 1 ∨ src = 3) ∧ atAlign then { s with time := { s.time with tim := some (true, time) } }
  else s.count Fld.ATM_SYNC_STATUS_OUTLIERS 1

/-- TIM_RECEIVE; `jitter` less 2 is the error in HK ticks of the device's timestamp (R191). -/
def execTimReceive (bundle : Fin 2) (afterControl cut : Bool) (bytes : List Byte) (jitter : Fin 5) (s : State) : Out :=
  let p := typed tyTim bytes
  .next (s.onAccept bundle.val afterControl cut p (fun s =>
    (s.useTim p ((jitter.val : Int) - 2)).grant 11 (creditsOf (pktLen p))))

/-- The error that an ALIGN edge alone at AIR_COUNT `a` shows (R192). -/
def phaseError (a : Nat) : Int :=
  let r := a % frameTicks
  if r < frameTicks / 2 then -(r : Int) else (frameTicks : Int) - r

/-- The error that an ALIGN edge at AIR_COUNT `a` shows under SRC `src`, with the TIM that waits for it; none where the edge is no
observation (R190 to R192). -/
def State.edgeError (s : State) (src a : Nat) : Option Int :=
  match src, s.time.tim with
  | 1, some (true, t) => some ((t : Int) - a)
  | 3, some (true, t) => some ((t : Int) - a)
  | 2, some (false, sfn) =>
    let f := (a + frameTicks / 2) / frameTicks
    some ((((f / 1024 * 1024 + sfn) * frameTicks : Nat) : Int) - a)
  | n, _ => if 2 ≤ n then some (phaseError a) else none

/-- ALIGN_EDGE: a rising edge, `phase` CONV periods after the last HK tick, taken at the next one (R192). -/
def execAlignEdge (phase : Fin 16) (s : State) : Out :=
  let a : Int := (s.air : Int) + 1
  .next (
    let early := match s.time.edge with
      | some e => decide (a - e < 1105920)
      | none => false
    if early then s.count Fld.ATM_SYNC_STATUS_OUTLIERS 1
    else
      let s := { s with time := { s.time with edge := some a } }
      let s := (s.setFld Fld.ATM_ALIGN_PHASE_PHASE phase.val).setFld Fld.ATM_ALIGN_PHASE_VALID 1
      match s.edgeError (s.fld Fld.ATM_SYNC_CTRL_SRC) (s.air + 1) with
      | some d => ({ s with time := { s.time with tim := none } }).observe d
      | none => s)

/-- SYNC_LOSS_TIMEOUT: no observation for LOSS_MS in LOCKED (R193). -/
def execSyncLossTimeout (s : State) : Out :=
  .next (if s.syncState = syncLocked ∧ s.on Fld.ATM_SYNC_CTRL_LOSS_MS then
    s.setSync syncHoldover
  else s)

/-- ATM_SET as a 64-bit value. -/
def State.atmSet (s : State) : Nat := (s.rd Reg.ATM_SET_LO).toNat + 2 ^ 32 * (s.rd Reg.ATM_SET_HI).toNat

/-- A write to ATM_CTRL: SET acts in FREE only, as a load in UNSYNCED and as a decided step in LOCKED (R193, R194). -/
def State.atmCtrlWrite (s : State) (d : Word) : State :=
  let s := s.plainWrite Reg.ATM_CTRL (Fld.ATM_CTRL_SET.put 0 d)
  if Fld.ATM_CTRL_SET.of d = 1 ∧ s.fld Fld.ATM_SYNC_CTRL_SRC = 0 then
    let delta := (s.atmSet : Int) - s.air
    if s.syncState = syncLocked ∨ s.syncState = syncHoldover then (s.setFld Fld.ATM_CTRL_SET 1).decideStep delta
    else (s.loadAir delta).setSync syncLocked
  else s

/-- A write to ATM_SYNC_CTRL; a change of SRC moves the state (R193). -/
def State.syncCtrlWrite (s : State) (d : Word) : State :=
  let old := s.fld Fld.ATM_SYNC_CTRL_SRC
  let s := s.plainWrite Reg.ATM_SYNC_CTRL d
  let new := s.fld Fld.ATM_SYNC_CTRL_SRC
  let st := s.syncState
  if new = old then s
  else if new = 0 then s.setSync (if st = syncLocked ∨ st = syncHoldover then syncLocked else syncUnsynced)
  else if st = syncLocked then s.setSync syncHoldover
  else s

/-- ALIGN_OUT_PULSE: the start of a frame that AO_DIV selects (R196). -/
def execAlignOutPulse (s : State) : Out :=
  .next (if s.on Fld.ATM_CTRL_AO_EN && frameOf s.air % 2 ^ s.fld Fld.ATM_CTRL_AO_DIV == 0 then
    { s with time := { s.time with alignOut := 8 } }
  else s)

/-! ### Timetable rows (R200 to R202, R206) -/

/-- One Timetable row (R201). -/
structure TtRow where
  start : Nat
  count : Nat
  mask : Nat
  dir : Nat
  lo : Nat
  pretune : Bool
  chan : Nat
  fecTx : Nat
  fecRx : Nat
  fecByp : Nat
  power : Nat
  noQuiet : Bool
  mark : Nat
  hkEn : Bool
  /-- A reserved bit is set or a reserved code held. -/
  reserved : Bool
deriving DecidableEq, Repr

/-- Row `r` of a bank. -/
def State.ttRow (s : State) (bank r : Nat) : TtRow :=
  let w := fun k => (s.rd (Reg.ATM_TT_ROW bank (4 * r + k))).toNat
  let b4 := w 1 % 256
  let b5 := w 1 / 256 % 256
  let h6 := w 1 / 65536
  let b8 := w 2 % 256
  let b9 := w 2 / 256 % 256
  let b10 := w 2 / 65536 % 256
  let b11 := w 2 / 2 ^ 24
  ⟨w 0 % 4096, w 0 / 65536 % 4096, b4, b5 % 4, b5 / 4 % 2, bitOf b5 3, h6 % 1024, b8 % 4, b8 / 4 % 4, b8 / 16 % 4,
    b9 % 16, bitOf b9 4, b10 % 16, bitOf b10 4,
    w 0 / 4096 % 16 != 0 || w 0 / 2 ^ 28 != 0 || b5 / 16 != 0 || h6 / 1024 != 0 || b8 / 64 != 0 || b9 / 32 != 0 ||
      b10 / 32 != 0 || b11 != 0 || w 3 != 0 || (decide (3 ≤ b9 % 16) && decide (b9 % 16 ≤ 7)) || b8 % 4 == 3 || b8 / 4 % 4 == 3 || b8 / 16 % 4 == 3⟩

/-- A row is valid in a period of `period` slots (R201). -/
def TtRow.valid (r : TtRow) (period : Nat) : Bool := !r.reserved && decide (r.start + r.count ≤ 14 * period)

/-- A row is used (R201). -/
def TtRow.used (r : TtRow) : Bool := r.count != 0 && r.mask != 0

/-- The rows of the bank in force. -/
def State.ttRows (s : State) (bank : Nat) : List TtRow := (List.range 256).map (s.ttRow bank)

/-- The row in force for group `g` in grid symbol `k` of the period, with its number (R202). -/
def State.rowFor (s : State) (g k : Nat) : Option (TtRow × Nat) :=
  (s.ttRows (s.fld Fld.ATM_TT_CTRL_BANK)).zipIdx.find? (fun r =>
    r.1.used && r.1.valid s.time.period && bitOf r.1.mask g && decide (r.1.start ≤ k) && decide (k < r.1.start + r.1.count))

/-- The grid symbol within the period at AIR_COUNT `a`, none while the Timetable is disabled (R200). -/
def State.gridSymbol (s : State) (a : Nat) : Option Nat :=
  if s.time.period = 0 then none
  else
    let perFrame := 14 * slotsPerFrame s.time.scs
    some ((frameOf a % 1024 * perFrame + symbolOf s.time.scs a) % (14 * s.time.period))

/-- The row in force for group `g` at AIR_COUNT `a`. -/
def State.rowAt (s : State) (g a : Nat) : Option TtRow := ((s.gridSymbol a).bind (s.rowFor g)).map (·.1)

/-- Two rows meet in a group and a symbol. -/
def TtRow.meets (r t : TtRow) : Bool :=
  (r.mask &&& t.mask) != 0 && decide (r.start < t.start + t.count) && decide (t.start < r.start + r.count)

/-- The rows shadowed in at least one symbol (R206). -/
def shadowed (period : Nat) : List TtRow → List TtRow → Nat
  | _, [] => 0
  | before, r :: rs =>
    let ok := r.used && r.valid period
    (if ok && before.any (fun t => t.meets r) then 1 else 0) + shadowed period (if ok then r :: before else before) rs

/-- R200: a PERIOD of `n` slots is accepted for numerology `m`. -/
def periodOk (m n : Nat) : Bool := n == 0 || (decide (n ≤ 20 * 2 ^ m) && (10240 * 2 ^ m) % n == 0)

/-- A write to ATM_TT_CTRL (R200, R206). -/
def State.ttCtrlWrite (s : State) (d : Word) : State :=
  let p := Fld.ATM_TT_CTRL_PERIOD.of d
  let s := s.setFld Fld.ATM_TT_CTRL_SCS (Fld.ATM_TT_CTRL_SCS.of d)
  let s := if periodOk (Fld.ATM_TT_CTRL_SCS.of d) p then s.setFld Fld.ATM_TT_CTRL_PERIOD p else s
  if Fld.ATM_TT_CTRL_SWAP.of d = 1 then s.setFld Fld.ATM_TT_CTRL_SWAP 1 else s

/-- TT_SWAP: the requested swap happens, and the new bank's bad and shadowed rows are counted (R206). -/
def execTtSwap (s : State) : Out :=
  .next (if s.on Fld.ATM_TT_CTRL_SWAP && !s.detained then
    let bank := 1 - s.fld Fld.ATM_TT_CTRL_BANK
    let period := s.fld Fld.ATM_TT_CTRL_PERIOD
    let rows := s.ttRows bank
    let s := (s.setFld Fld.ATM_TT_CTRL_BANK bank).setFld Fld.ATM_TT_CTRL_SWAP 0
    let s := { s with time := { s.time with period := period, scs := s.fld Fld.ATM_TT_CTRL_SCS } }
    (s.setFld Fld.ATM_TT_STATUS_BAD_ROWS (min 255 (rows.filter (fun r => !r.valid period)).length)).setFld
      Fld.ATM_TT_STATUS_OVERLAPS (min 255 (shadowed period [] rows))
  else s)

/-- The instant at which a requested swap happens: the start of the next period, or of the next frame with PERIOD 0 (R206). -/
def State.swapInstant (s : State) : Nat :=
  if s.time.period = 0 then (frameOf s.air + 1) * frameTicks
  else
    let n := slotsPerFrame s.time.scs
    let slot := frameOf s.air % 1024 * n + symbolOf s.time.scs s.air / 14
    let next := frameOf s.air / 1024 * 1024 * n + (slot / s.time.period + 1) * s.time.period
    airOf s.time.scs (next / n) (14 * (next % n))

/-- The state with the Timetable that is in force at AIR_COUNT `a`, a requested swap before then included. -/
def State.ttAt (s : State) (a : Nat) : State :=
  if s.on Fld.ATM_TT_CTRL_SWAP ∧ s.swapInstant ≤ a then
    { s.setFld Fld.ATM_TT_CTRL_BANK (1 - s.fld Fld.ATM_TT_CTRL_BANK) with
      time := { s.time with period := s.fld Fld.ATM_TT_CTRL_PERIOD, scs := s.fld Fld.ATM_TT_CTRL_SCS } }
  else s

/-- A write to a Timetable row, ignored in the bank in force (R206). -/
def State.ttRowWrite (s : State) (a : Nat) (d : Word) : State :=
  if a / 0x1000 % 16 = 1 + s.fld Fld.ATM_TT_CTRL_BANK then s else s.wr a d

/-- ATM_NOW (R188): the current SFN, grid slot and grid symbol. -/
def State.atmNow (s : State) : Word :=
  let k := symbolOf s.time.scs s.air
  placeField 20 17 (k % 14) ||| placeField 16 10 (k / 14) ||| placeField 9 0 (frameOf s.air % 1024)

/-! ### Beam book (R211 to R215) -/

/-- The beam-book region's base. -/
def State.beamBase (s : State) : Nat := ((s.regionOfKind 4).map (·.1)).getD storeBase

/-- Record `i` of a list of weight records. -/
def weightRecord (list : List Byte) (i : Nat) : List Byte := bytesAt list (260 * i) 260

/-- INDEX of a weight record (R211). -/
def recordIndex (r : List Byte) : Nat := fieldAt r 0 2 % 8192

/-- The last record with INDEX `k` in a list of records. -/
def findRecord (list : List Byte) (k : Nat) : Option (List Byte) :=
  ((List.range (list.length / 260)).map (weightRecord list)).reverse.find? (fun r => recordIndex r == k)

/-- The update is in force for a symbol at `a`: ARMED or WRITEBACK, and at or after its boundary (R214). -/
def State.shadowFor (s : State) (k a : Nat) : Option (List Byte) :=
  if 2 ≤ s.fld Fld.BMB_UPD_STATUS_STATE ∧ s.bmb.boundary ≤ a then findRecord s.bmb.shadow k else none

/-- The tags of beam `k` for a symbol at `a`: PD_CLASS and SFD_CLASS (R213, R214). -/
def State.beamTags (s : State) (k a : Nat) : Nat × Nat :=
  match s.shadowFor k a with
  | some r => (fieldAt r 2 1 % 4, fieldAt r 3 1 % 16)
  | none => (s.fld (Fld.BMB_TAGk_PD_CLASS k), s.fld (Fld.BMB_TAGk_SFD_CLASS k))

/-- An update ends: IDLE, counted, event 0x57 (R214, R215). -/
def State.updateEnd (s : State) (done : Bool) : State :=
  let s := (s.setFld Fld.BMB_UPD_STATUS_STATE 0).setFld Fld.BMB_UPD_CTRL_GO 0
  let s := if done then s.count Fld.BMB_UPD_STATUS_DONE 1 else s
  let s := { s with bmb := ⟨[], 0⟩ }
  s.event 0x57 (s.fld Fld.BMB_UPD_CTRL_COUNT + 65536 * s.fld Fld.BMB_UPD_STATUS_LATE + 131072 * s.fld Fld.BMB_UPD_STATUS_ERR)

/-- The first boundary with a given SFN and grid slot after AIR_COUNT `now` (R214). -/
def boundaryAfter (m sfn slot now : Nat) : Nat :=
  let p := 1024 * frameTicks
  let off := sfn * frameTicks + symOffset m (14 * slot)
  let d := (off + p - now % p) % p
  now + (if d = 0 then p else d)

/-- The first grid slot boundary at or after AIR_COUNT `a`. -/
def slotBoundaryFrom (m a : Nat) : Nat :=
  let k := symbolOf m a / 14
  let b := airOf m (frameOf a) (14 * k)
  if b = a then a else airOf m (frameOf a) (14 * (k + 1))

/-- A write to BMB_UPD_CTRL (R214, R215). -/
def State.updCtrlWrite (s : State) (d : Word) : State :=
  let go := Fld.BMB_UPD_CTRL_GO.of d == 1
  if go && s.fld Fld.BMB_UPD_STATUS_STATE != 0 then s.setFld Fld.BMB_UPD_CTRL_OVERRUN 1
  else
    let s := s.plainWrite Reg.BMB_UPD_CTRL (Fld.BMB_UPD_CTRL_GO.put 0 d)
    if go then
      if s.fld Fld.BMB_UPD_CTRL_COUNT = 0 then s.updateEnd true
      else
        let b := boundaryAfter s.time.scs (s.fld Fld.BMB_UPD_TARGET_SFN) (s.fld Fld.BMB_UPD_TARGET_SLOT) s.air
        { ((s.setFld Fld.BMB_UPD_CTRL_GO 1).setFld Fld.BMB_UPD_STATUS_STATE 1) with bmb := ⟨[], b⟩ }
    else s

/-- BMB_PREFETCH_END: the records are in the shadow buffer, or a store error abandons the update (R214, R215). -/
def execBmbPrefetchEnd (s : State) : Out :=
  .next (if s.fld Fld.BMB_UPD_STATUS_STATE = 1 ∧ s.time.everLocked then
    let a := s.fld Fld.BMB_UPD_ADDR_ADDR
    let n := 260 * s.fld Fld.BMB_UPD_CTRL_COUNT
    let r := if storeBase ≤ a ∧ a + n ≤ storeEnd ∧ s.domOn pdCst then s.storeRead a n reqDownlink else (s, [], false)
    let s := r.1
    if r.2.2 then
      let fetched := s.bmb.boundary - s.tLate
      let late := decide (fetched < s.air)
      let b := if late then slotBoundaryFrom s.time.scs (s.air + s.tLate) else s.bmb.boundary
      let s := if late then s.setFld Fld.BMB_UPD_STATUS_LATE 1 else s
      { (s.setFld Fld.BMB_UPD_STATUS_STATE 2) with bmb := ⟨r.2.1, b⟩ }
    else (s.setFld Fld.BMB_UPD_STATUS_ERR 1).updateEnd false
  else s)

/-- BMB_UPDATE_BOUNDARY: the first symbol at or after the boundary has been fetched (R214 step 6). -/
def execBmbUpdateBoundary (s : State) : Out :=
  .next (if s.fld Fld.BMB_UPD_STATUS_STATE = 2 ∧ s.time.everLocked then s.setFld Fld.BMB_UPD_STATUS_STATE 3 else s)

/-- BMB_WRITEBACK_END: the records stand in the region and in BMB_TAGk (R214). -/
def execBmbWritebackEnd (s : State) : Out :=
  .next (if s.fld Fld.BMB_UPD_STATUS_STATE = 3 ∧ s.time.everLocked then
    let list := s.bmb.shadow
    let s := (List.range (list.length / 260)).foldl (fun s i =>
      let r := weightRecord list i
      let k := recordIndex r
      let s := s.storePut (s.beamBase + 256 * k) (r.drop 4) reqDownlink
      (s.setFld (Fld.BMB_TAGk_PD_CLASS k) (fieldAt r 2 1 % 4)).setFld (Fld.BMB_TAGk_SFD_CLASS k) (fieldAt r 3 1 % 16)) s
    s.updateEnd true
  else s)

/-! ### Arrays (R216, R217) -/

/-- Entry `i` of an array map: serial, index, CAL_MASTER. -/
def mapEntry (m : List Byte) (i : Nat) : Nat × Nat × Bool :=
  (fieldAt m (16 + 16 * i) 8, fieldAt m (24 + 16 * i) 1 % 4, bitOf (fieldAt m (25 + 16 * i) 1) 0)

/-- The entries of an array map. -/
def mapEntries (m : List Byte) : List (Nat × Nat × Bool) := (List.range (fieldAt m 4 1)).map (mapEntry m)

/-- R216: an array map is valid for a device with this serial. -/
def mapOk (m : List Byte) (serial : Nat) : Bool :=
  let es := mapEntries m
  fieldAt m 0 4 == 0x4D415846 && decide (1 ≤ fieldAt m 4 1) && decide (fieldAt m 4 1 ≤ 4) &&
  (List.range 4).all (fun i => decide ((es.filter (fun e => e.2.1 == i)).length ≤ 1)) &&
  (es.filter (fun e => e.2.2)).length == 1 && es.any (fun e => e.1 == serial)

/-- A valid map sets MAP_PRESENT and SELF (R216). -/
def State.takeMap (s : State) (m : List Byte) : State :=
  if mapOk m s.serial then
    let self := (((mapEntries m).find? (fun e => e.1 == s.serial)).map (fun e => e.2.1)).getD 0
    ({ s with time := { s.time with map := m } }.setFld Fld.ATM_ARRAY_STATUS_MAP_PRESENT 1).setFld
      Fld.ATM_ARRAY_STATUS_SELF self
  else s

/-- This device leads the calibration across devices (R216). -/
def State.calMaster (s : State) : Bool := (mapEntries s.time.map).any (fun e => e.1 == s.serial && e.2.2)

/-- The serial written for array index `k`. -/
def State.peerSerial (s : State) (k : Nat) : Nat :=
  (s.rd (Reg.ATM_PEERk_W0 k)).toNat + 2 ^ 32 * (s.rd (Reg.ATM_PEERk_W1 k)).toNat

/-- ATM_PEERk agrees with a map entry and with the running image's ARRAY_LEVEL (R217). -/
def State.peerAgrees (s : State) (e : Nat × Nat × Bool) : Bool :=
  s.peerSerial e.2.1 == e.1 && s.fld (Fld.ATM_PEERk_W2_LEVEL e.2.1) == s.boot.arrayLevel

/-- R217: the value that JOINT_OK takes at the next frame boundary. -/
def State.jointOk (s : State) : Bool :=
  s.on Fld.ATM_ARRAY_STATUS_MAP_PRESENT && decide (2 ≤ fieldAt s.time.map 4 1) &&
  (mapEntries s.time.map).all (fun e => e.1 == s.serial || (s.on (Fld.ATM_PEERk_W2_VALID e.2.1) && s.peerAgrees e))

/-- A write to a word of ATM_PEERk: a write with VALID 1 that disagrees with the map sets MISMATCH and raises 0x5A (R217). -/
def State.peerWrite (s : State) (k w : Nat) (d : Word) : State :=
  let s := s.plainWrite (Reg.ATM_PEERk_W0 k + 4 * w) d
  match (mapEntries s.time.map).find? (fun e => e.2.1 == k) with
  | some e =>
    if w = 2 ∧ s.on (Fld.ATM_PEERk_W2_VALID k) ∧ !s.peerAgrees e then
      (s.setFld Fld.ATM_ARRAY_STATUS_MISMATCH (setBitOf (s.fld Fld.ATM_ARRAY_STATUS_MISMATCH) k true)).event 0x5A
        (k + 65536 * s.fld (Fld.ATM_PEERk_W2_LEVEL k))
    else s
  | none => s

/-- A joint LOP0 stops where JOINT_OK falls, with the error of R351. -/
def State.stopJoint (s : State) : State :=
  match s.cal.lop0 with
  | some c => if c.joint && !s.on Fld.ATM_ARRAY_STATUS_JOINT_OK then s.lop0Stop lopFailed 8 else s
  | none => s

/-- JOINT_OK_CHANGE: a frame boundary at which JOINT_OK takes its new value (R217). -/
def execJointOkChange (s : State) : Out := .next (s.setFld Fld.ATM_ARRAY_STATUS_JOINT_OK (bit s.jointOk)).stopJoint

end Sys2Proof.Machine
end

