-- ==== Sys2Proof/Machine/Boot.lean ====
section
/-!
DEFINITION. The start sequence up to step 8 (R42 to R46, R57 to R64, R480) and the outcomes of steps 13 to 15 (R62, R63,
R65). The steps that load sections stand in Start.lean.
-/

namespace Sys2Proof.Machine

/-! ### Steps 3 and 4 -/

/-- R64: the attempt decision of step 4; the BEGIN record of a cold restore carries its DETAIL (R427). -/
def State.decideAttempt (s : State) : State :=
  let s := s.setFld Fld.BOOT_STATUS_STEP 4
  if s.fld Fld.BOOT_ATTEMPTS_LIMIT ≤ s.fld Fld.BOOT_ATTEMPTS_COUNT then s.detainAtLimit
  else
    let s := s.count Fld.BOOT_ATTEMPTS_COUNT 1
    let n := s.fld Fld.BOOT_ATTEMPTS_COUNT
    let pref := s.fld Fld.BOOT_STATUS_PREF_SLOT
    let slot := if s.on Fld.BOOT_CTRL_FORCE_EN then s.fld Fld.BOOT_CTRL_FORCE_SLOT
      else if n % 2 = 1 then pref else 1 - pref
    let s := (s.setFld Fld.BOOT_CTRL_FORCE_EN 0).setFld Fld.BOOT_STATUS_SLOT slot
    let s := { s with boot := { s.boot with lastSlot := slot, cache := { s.boot.cache with cause := 0, causeKnown := false } } }
    s.journalPut ⟨1, n, 0, 4, s.pwr.cold, .header, []⟩

/-- The directory becomes known: its density, the copy in use and PREF_SLOT (R42, R46). -/
def State.takeDirectory (s : State) (sfdp : Option Nat) : State :=
  let density := sfdp.getD 0x2000000
  let s := { s with boot := { s.boot with density := density, dir := s.chooseDir density } }
  match s.boot.dir with
  | some d => s.setFld Fld.BOOT_STATUS_PREF_SLOT d.prefSlot
  | none => s

/-- After a POR the journal is scanned; after any other reset the journal cache stands (R58). -/
def State.scanAfterPor (s : State) : State :=
  match s.boot.dir with
  | some d => if s.boot.kind = .por then s.scanJournal d else s
  | none => s

/-- A flash ID byte that shows an answer (R62 step 3). -/
def idAnswers (id : Byte) : Bool := id != 0x00#8 && id != 0xFF#8

/-- DETAIN_N low at step 1 after a POR: Detention mode is not entered before directory and journal have been read (R67). -/
def State.forcedAfterPor (s : State) : Bool := s.fld Fld.BOOT_STATUS_STEP == 1 && s.detained && !s.domOn pdSyn

/-- The directory has been read as at step 3, or has not been found, with the cause that a failed step 3 would have. At step 3
the attempt is decided; a failure at step 2 is counted (R480); a start that DETAIN_N ends enters Detention mode (R67). -/
def State.directoryRead (s : State) (cause : Nat) : State :=
  if s.forcedAfterPor then s.scanAfterPor.enterDetention 0x0D false
  else if s.fld Fld.BOOT_STATUS_STEP = 2 then s.scanAfterPor.failEarly 0x03 0xFFFF0002
  else if s.boot.dir.isSome then s.scanAfterPor.decideAttempt else s.failEarly cause 0

/-- One try of step 3's reading, with the flash answering or not; the third silent one ends it without a directory (R62). -/
def State.flashStep (s : State) (id : Byte) (sfdp : Option Nat) : State :=
  if idAnswers id then (s.takeDirectory sfdp).directoryRead 0x02
  else
    let s := { s with boot := { s.boot with tries := s.boot.tries + 1, dir := none } }
    if 3 ≤ s.boot.tries then s.directoryRead 0x01 else s

/-- START_FLASH_PROBE: the fuses have been read twice, the flash ID, SFDP density and both directory copies once
(R42, R77, R62 steps 2 and 3). -/
def execStartFlashProbe (fusesAgree : Bool) (flashId : Byte) (sfdp : Option Nat) (s : State) : Out :=
  .next (if s.boot.tries ≠ 0 then s
  else if s.fld Fld.BOOT_STATUS_STEP = 2 ∧ s.startRuns then
    (if fusesAgree then s.setFld Fld.BOOT_STATUS_STEP 3 else s).flashStep flashId sfdp
  else if s.forcedAfterPor then s.flashStep flashId sfdp
  else s)

/-- FLASH_ID_RETRY: the flash ID is read again 1 ms later (R62 step 3). -/
def execFlashIdRetry (flashId : Byte) (sfdp : Option Nat) (s : State) : Out :=
  .next (if s.boot.tries ≠ 0 ∧ s.boot.tries < 3 ∧
      ((decide (s.fld Fld.BOOT_STATUS_STEP = 2 ∨ s.fld Fld.BOOT_STATUS_STEP = 3) && s.startRuns) || s.forcedAfterPor) then
    s.flashStep flashId sfdp
  else s)

/-! ### Step 5 and the journal -/

/-- The partition of the slot of the current attempt. -/
def State.slotPart (s : State) : Partition := (s.boot.dir.map (fun d => d.slot (s.fld Fld.BOOT_STATUS_SLOT))).getD ⟨0, 0⟩

/-- Step 5: the slot header is read and checked under R80; the limit in force becomes the header's (R58). Step 6 follows: the
root synthesiser is programmed for REFCLK_SEL (R325). -/
def State.headerStep (s : State) : State :=
  let p := s.slotPart
  let h := s.flashBytes p.offset 4096
  let s := { (s.setFld Fld.BOOT_STATUS_STEP 5) with boot := { s.boot with header := h } }
  match s.headerCheck h p.size with
  | some n => s.failAttempt (if n = 1 then 0x02 else if n = 6 then 0x04 else 0x03) 0
  | none =>
    let s := { s with boot := { s.boot with
      runDigest := imageDigest h, rollbackIndex := fieldAt h 12 2, ownerSlot := fieldAt h 14 1,
      arrayLevel := fieldAt h 16 2, noLink := bitOf (fieldAt h 19 1) 0 } }
    let s := s.setFld Fld.BOOT_ATTEMPTS_LIMIT (max 1 (fieldAt h 15 1))
    let s := s.wr Reg.BOOT_IMAGE_VER (BitVec.ofNat 32 (fieldAt h 8 4))
    (s.setFld Fld.BOOT_STATUS_STEP 6).programRoot (fieldAt h 18 1)

/-- What follows a record that has been written, or given up (R59). -/
def State.afterRecord (s : State) (r : JournalReq) : State :=
  match r.next with
  | .goOn => s.journalKick
  | .header => s.headerStep.journalKick
  | .restart => s.beginStart .soft
  | .detain => s.enterDetention r.cause false
  | .clearDone => (s.setFld Fld.BOOT_CTRL_CLR_ATTEMPTS 0).journalKick

/-- The position behind the record just programmed becomes the next free one. -/
def State.nextPosition (s : State) : State :=
  { s with boot := { s.boot with cache := { s.boot.cache with pos := (s.boot.cache.pos + 1) % 2048 }, writing := none } }

/-- JOURNAL_RECORD_READBACK: programming of a record ends and reads back as `read`, or is still busy at 3 ms, which leaves its
position undefined. A failed read-back is written once more at the next position; a second one sets JOURNAL_FAIL (R59). -/
def execJournalRecordReadback (read : Option (List Byte)) (s : State) : Out :=
  .next (match s.boot.writing with
  | none => s
  | some w =>
    let s := match read with
      | some bs => s.putFlash w.addr (bytesAt bs 0 64)
      | none => (s.putFlash w.addr (openBytes s.fresh 64)).useFresh
    let s := s.nextPosition
    if read = some w.bytes then
      { s with boot := { s.boot with cache := { s.boot.cache with valid := true, jseq := fieldAt w.bytes 4 4 } } }.afterRecord w.req
    else if w.second then
      ((s.setFld Fld.BOOT_STATUS_JOURNAL_FAIL 1).event 0x04 (fieldAt w.bytes 4 4)).afterRecord w.req
    else
      { s with boot := { s.boot with waiting := { w.req with again := w.bytes } :: s.boot.waiting } }.journalKick)

/-- JOURNAL_SECTOR_ERASE_END: the other journal sector reads 0xFF, and a record that waited for it is programmed (R59). -/
def execJournalSectorEraseEnd (s : State) : Out :=
  .next (match s.boot.dir with
  | some d =>
    if s.boot.erasing then
      { (s.eraseFlash (d.journalOther s.boot.cache.pos) 0x10000) with boot := { s.boot with erasing := false } }.journalKick
    else s
  | none => s)

/-! ### Steps 6 to 8 -/

/-- The protocol and clock that FLASH_MODE selects after root lock (R41). -/
def flashModeLink (mode : Nat) : FlashLink :=
  if mode = 0 then ⟨.octal8D, .root60⟩ else if mode = 1 then ⟨.octal8D, .root120⟩
  else if mode = 2 then ⟨.quad1S4S4S, .root120⟩ else ⟨.single1S, .root384⟩

/-- R43: the flash protocol switches; where the SFDP tables lack the selected protocol, 1S-1S-1S at ROOT/384 and FLASH_SLOW. -/
def State.switchFlash (s : State) (sfdpComplete : Bool) : State :=
  let l := flashModeLink (s.fld Fld.DEV_STRAPS_FLASH_MODE)
  let slow := l.protocol != .single1S && !sfdpComplete
  let s := { s with boot := { s.boot with flashLink := if slow then ⟨.single1S, .root384⟩ else l } }
  if slow then s.setFld Fld.BOOT_STATUS_FLASH_SLOW 1 else s

/-- ROOT_LOCK_REACHED: the fabric moves to CTL (R15), the flash protocol is switched (R43), and step 8 follows step 7.
In Detention mode no step follows (R66). -/
def execRootLockReached (sfdpComplete : Bool) (s : State) : Out :=
  .next (if s.domOn pdSyn && !s.on Fld.CLK_STATUS_FABRIC_ON_ROOT then
    let s := (((s.setFld Fld.CLK_STATUS_ROOT_LOCK 1).setFld Fld.CLK_STATUS_FABRIC_ON_ROOT 1).driveSysout).switchFlash sfdpComplete
    if s.fld Fld.BOOT_STATUS_STEP = 6 ∧ s.startRuns then s.setFld Fld.BOOT_STATUS_STEP 8 else s
  else s)

/-- ROOT_LOCK_START_TIMEOUT: no ROOT_LOCK within 5 ms of step 6 (R62); in Detention mode the link stays DOWN (R66). -/
def execRootLockStartTimeout (s : State) : Out :=
  .next (if s.fld Fld.BOOT_STATUS_STEP = 6 ∧ s.startRuns ∧ !s.on Fld.CLK_STATUS_ROOT_LOCK then s.failAttempt 0x06 0 else s)

/-- START_THERMAL_POLL: HK8 and HK9 are read at step 8, in sixteenths of a degree. Above +110 °C the step polls every 100 ms
until both are at most +105 °C, and fails at 10 s (R62). -/
def execStartThermalPoll (t8 t9 : Int) (limit : Bool) (s : State) : Out :=
  .next (if s.fld Fld.BOOT_STATUS_STEP = 8 ∧ s.startRuns then
    let level : Int := if s.boot.hot then 1680 else 1760
    if t8 ≤ level ∧ t9 ≤ level then { s with boot := { s.boot with hot := false } }.setFld Fld.BOOT_STATUS_STEP 9
    else if s.boot.hot ∧ limit then s.failAttempt 0x0C 0
    else { s with boot := { s.boot with hot := true } }
  else s)

/-! ### Steps 13 to 15 -/

/-- CORE_START_TIMEOUT: no write of BOOT_HEARTBEAT within CORE_TIMEOUT_MS of step 13 (R62). -/
def execCoreStartTimeout (s : State) : Out :=
  .next (if s.fld Fld.BOOT_STATUS_STEP = 13 ∧ !s.boot.heartbeat ∧ s.startRuns then s.failAttempt 0x09 0 else s)

/-- LINK_TIMEOUT: no entry into ACTIVE within LINK_TIMEOUT_MS, or no completion within 10 s more; waived by NO_LINK
(R47, R62, R63). -/
def execLinkTimeout (s : State) : Out :=
  .next (if (s.fld Fld.BOOT_STATUS_STEP = 14 ∨ s.fld Fld.BOOT_STATUS_STEP = 15) ∧ !s.boot.noLink ∧ s.startRuns then
    s.failAttempt 0x0A 0
  else s)

/-- HEARTBEAT_GAP: 100 ms without a change of BOOT_HEARTBEAT before completion (R63). -/
def execHeartbeatGap (s : State) : Out :=
  .next (if (s.fld Fld.BOOT_STATUS_STEP = 14 ∨ s.fld Fld.BOOT_STATUS_STEP = 15) ∧ s.startRuns then s.failAttempt 0x09 0 else s)

/-- The records that the journal's current sector holds. -/
def State.sectorRecords (s : State) : Nat :=
  let p := s.boot.cache.pos
  if p % 1024 = 0 then (if s.boot.cache.valid then 1024 else 0) else p % 1024

/-- R59: at a completion with 960 records or more the other sector is erased unless it reads 0xFF. The records of this completion are
not yet counted (assumption 22). -/
def State.tidyJournal (s : State) : State :=
  match s.boot.dir with
  | some d =>
    if 960 ≤ s.sectorRecords ∧ !s.flashErased (d.journalOther s.boot.cache.pos) 0x10000 then
      { s with boot := { s.boot with erasing := true } }
    else s
  | none => s

/-- The directory that follows `b` with slot `slot` preferred: DIR_SEQ one ahead, entries as they stand, reserved fields 0 (R65,
R479). -/
def nextDirectory (b : List Byte) (slot : Nat) : List Byte :=
  let n := fieldAt b 6 1
  let head := b.take 7 ++ leBytes 1 slot ++ leBytes 4 ((fieldAt b 8 4 + 1) % 2 ^ 32) ++ leBytes 4 0
  let entries := (List.range n).flatMap (fun i =>
    leBytes 4 (fieldAt b (16 + 16 * i) 1) ++ bytesAt b (20 + 16 * i) 8 ++ leBytes 4 0)
  let body := head ++ entries ++ List.replicate (4076 - 16 * n) 0#8
  body ++ leBytes 4 (crc32 body)

/-- R65: the directory copy not in use is rewritten with the completing slot preferred, and becomes the copy in use; a
DIRECTORY record and event 0x03 follow. -/
def State.rewriteDirectory (s : State) : State :=
  match s.boot.dir with
  | some d =>
    let slot := s.fld Fld.BOOT_STATUS_SLOT
    if slot = s.fld Fld.BOOT_STATUS_PREF_SLOT then s
    else
      let at' := 0x10000 * (1 - d.copy)
      let s := (s.eraseFlash at' 0x10000).putFlash at' (nextDirectory (s.dirBytes d.copy) slot)
      let s := { s with boot := { s.boot with dir := some { d with
        copy := 1 - d.copy, otherValid := true, prefSlot := slot, seq := (d.seq + 1) % 2 ^ 32 } } }
      let s := (s.setFld Fld.BOOT_STATUS_PREF_SLOT slot).journalPut
        ⟨6, 0, 0, 15, 0, .goOn, []⟩
      s.event 0x03 slot
  | none => s

/-- START_COMPLETION: the link and the heartbeat have held together for 2 s (R63, R65). -/
def execStartCompletion (s : State) : Out :=
  .next (if s.fld Fld.BOOT_STATUS_STEP = 15 ∧ (s.boot.noLink ∨ s.linkIs lnkActive) ∧ s.startRuns then
    let s := ((s.setFld Fld.BOOT_ATTEMPTS_COUNT 0).setFld Fld.BOOT_STATUS_COMPLETE 1).setFld Fld.BOOT_STATUS_STEP 16
    let s := s.journalPut ⟨3, 0, 0, 15, 0, .goOn, []⟩
    let s := s.event 0x02 (s.fld Fld.BOOT_STATUS_SLOT)
    s.rewriteDirectory.tidyJournal
  else s)

end Sys2Proof.Machine
end

