-- ==== Sys2Proof/Machine/Certificate.lean ====
section
/-!
DEFINITION. The device key and its certificate (R85, R86): a DER-encoded X.509 v3 certificate. What the rule leaves open of it is
free (assumption 63); the encoding is that of RFC 5280 (assumption 99).
-/

namespace Sys2Proof.Machine

/-! ### Keys -/

/-- A modulus of 4,096 bits, odd (R78). -/
def keyOf (free : BitVec 4096) : Nat := (free ||| 1#4096 ||| (1#4096 <<< 4095)).toNat

/-- The device key's signature, with salt `salt` (R79). -/
def deviceSign (salt msg : List Byte) : Nat := rsaSign (keyOf Config.deviceModulus) Config.deviceExponent.toNat salt msg

/-! ### DER -/

/-- The length octets of `n` contents octets, below 65,536. -/
def derLength (n : Nat) : List Byte :=
  if n < 128 then beBytes 1 n else if n < 256 then beBytes 1 0x81 ++ beBytes 1 n else beBytes 1 0x82 ++ beBytes 2 n

/-- An element with its tag. -/
def der (tag : Nat) (body : List Byte) : List Byte := beBytes 1 tag ++ derLength body.length ++ body

def derSeq (parts : List (List Byte)) : List Byte := der 0x30 parts.flatten

/-- A non-negative integer, in the fewest octets that keep its sign. -/
def derInt (n : Nat) : List Byte := der 0x02 (beBytes (Nat.log2 n / 8 + (if Nat.log2 n % 8 = 7 then 2 else 1)) n)

/-- One arc of an object identifier in base 128, below 2 ^ 28. -/
def derArc (n : Nat) : List Byte :=
  ([3, 2, 1].filter (fun k => decide (128 ^ k ≤ n))).flatMap (fun k => beBytes 1 (0x80 + n / 128 ^ k % 128)) ++ beBytes 1 (n % 128)

/-- An object identifier. -/
def derOid : List Nat → List Byte
  | a :: b :: arcs => der 0x06 (derArc (40 * a + b) ++ arcs.flatMap derArc)
  | _ => []

def derBits (body : List Byte) (unused : Nat) : List Byte := der 0x03 (beBytes 1 unused ++ body)

/-- Characters of text as octets. -/
def derText (cs : List Char) : List Byte := cs.map (fun c => BitVec.ofNat 8 c.toNat)

/-! ### The certificate (R86) -/

/-- An arc of the PKCS #1 identifiers, 1.2.840.113549.1.1. -/
def pkcsOid (k : Nat) : List Byte := derOid [1, 2, 840, 113549, 1, 1, k]

def sha512Alg : List Byte := derSeq [derOid [2, 16, 840, 1, 101, 3, 4, 2, 3], der 0x05 []]

/-- RSASSA-PSS with the parameters of R79: SHA-512, MGF1 with SHA-512, and a salt of 64 octets. -/
def pssAlg : List Byte :=
  derSeq [pkcsOid 10, derSeq [der 0xA0 sha512Alg, der 0xA1 (derSeq [pkcsOid 8, sha512Alg]), der 0xA2 (derInt 64)]]

/-- The subject: its serialNumber attribute is DEVICE_SERIAL as 16 upper-case hexadecimal digits. -/
def certSubject (serial : Nat) : List Byte :=
  let digits := (List.range 16).map (fun i => (Nat.digitChar (serial / 16 ^ (15 - i) % 16)).toUpper)
  derSeq [der 0x31 (derSeq [derOid [2, 5, 4, 5], der 0x13 (derText digits)])]

/-- The device public key, as rsaEncryption. -/
def certKey : List Byte :=
  derSeq [derSeq [pkcsOid 1, der 0x05 []], derBits (derSeq [derInt (keyOf Config.deviceModulus), derInt 65537]) 0]

/-- Extension `k`: its identifier and its value. -/
def certExtension (k : Nat) (oid value : List Byte) : List Byte :=
  derSeq [oid, if Config.certCritical k then der 0x01 [0xFF#8] else [], der 0x04 value]

/-- What the authority signs. -/
def certBody (serial : Nat) : List Byte :=
  let from' := derText ((List.range 12).map (fun i => Nat.digitChar (Config.certFrom i).val) ++ ['Z'])
  derSeq [
    der 0xA0 (derInt 2), derInt Config.certSerial.toNat, pssAlg,
    (List.range Config.certIssuerLen.toNat).map Config.certIssuer,
    derSeq [der 0x17 from', der 0x18 (derText "99991231235959Z".toList)],
    certSubject serial, certKey,
    der 0xA3 (derSeq [
      certExtension 0 (derOid [2, 5, 29, 15]) (derBits [0x80#8] 7),
      certExtension 1 (derOid [2, 5, 29, 19]) (derSeq [])])]

/-- The certificate of the device with this DEVICE_SERIAL. -/
def certificate (serial : Nat) : List Byte :=
  let body := certBody serial
  let sig := rsaSign (keyOf Config.issuerModulus) Config.issuerExponent.toNat (leBytes 64 Config.certSalt.toNat) body
  derSeq [body, pssAlg, derBits (beBytes 512 sig) 0]

end Sys2Proof.Machine
end

