-- ==== Sys2Proof/Machine/Proctor.lean ====
section
/-!
DEFINITION. Proctor's services (spec/03): provisioning and revocation (R81 to R83), the anti-rollback counter (R84), debug
unlock (R89 to R91), attestation LOP6 (R85, R87, R88), served one at a time (R75).
-/

namespace Sys2Proof.Machine

/-- `n` bytes of a register window from the register at `a`. -/
def State.regBytes (s : State) (a n : Nat) : List Byte :=
  ((List.range ((n + 3) / 4)).flatMap (fun i => leBytes 4 (s.rd (a + 4 * i)).toNat)).take n

/-- The device loads a register window with bytes. -/
def State.loadBytes (s : State) (a : Nat) (bs : List Byte) : State :=
  ((bytesToWords bs).zipIdx).foldl (fun s p => s.wr (a + 4 * p.2) p.1) s

/-- The token in PROC_TOKEN, 1,156 bytes (R81, R90). -/
def State.token (s : State) : List Byte := s.regBytes (Reg.PROC_TOKEN 0) 1156

/-- The digest of the key named by SIGNER, none when that key is not present (R77, R82): 0 to 3 an ACTIVE owner slot, 0xFF the
vendor root. -/
def State.signerDigest (s : State) (signer : Nat) : Option (List Byte) :=
  if signer = 0xFF then (if s.vendorRootOk then some (s.fuseBytes 0 16) else none)
  else if signer < 4 ∧ s.slotState signer = 1 then some (s.fuseBytes (32 + 32 * signer) 16)
  else none

/-- SHA-512 of the signer key in a token equals the digest of the key that SIGNER names (R82). -/
def State.signerMatches (s : State) (t : List Byte) : Bool := s.signerDigest (fieldAt t 6 1) == some (sha512 (bytesAt t 128 516))

/-- The signature of a token verifies over bytes 0 to 643 (R81, R90). -/
def tokenVerifies (t : List Byte) : Bool := signatureVerifies (bytesAt t 128 516) (bytesAt t 644 512) (t.take 644)

/-- Bytes `a` to `a + n - 1` of a token are 0. -/
def zeroBytes (t : List Byte) (a n : Nat) : Bool := (bytesAt t a n).all (fun b => b == 0#8)

/-- The number of ACTIVE owner slots other than `n`. -/
def State.otherActive (s : State) (n : Nat) : Nat := ((List.range 4).filter (fun m => m != n && s.slotState m == 1)).length

/-- The words and bits that APPLY_PROV programs (R83). -/
def provFuses (t : List Byte) : List (Nat × Word) :=
  let n := fieldAt t 5 1
  match fieldAt t 4 1 with
  | 1 =>
    let d := bytesAt t 16 64
    (bytesToWords d).zipIdx.map (fun p => (32 + 32 * n + p.2, p.1)) ++ [(48 + 32 * n, BitVec.ofNat 32 (crc32 d))]
  | 2 => [(49 + 32 * n, 1#32)]
  | _ => [(162, BitVec.ofNat 32 (fieldAt t 80 4 % 4))]

/-- APPLY_PROV: the RESULT that R82 and R92 give a token; fields that its OP does not use are not looked at (assumption 103). -/
def State.provResult (s : State) (t : List Byte) : Nat :=
  let op := fieldAt t 4 1
  let n := fieldAt t 5 1
  let signer := fieldAt t 6 1
  let serial := fieldAt t 8 8
  let anyActive := s.otherActive 4 != 0
  if fieldAt t 0 4 ≠ 0x56505846 ∨ op = 0 ∨ 3 < op ∨ !zeroBytes t 7 1 ∨ !zeroBytes t 84 44 then 0x01
  else if serial ≠ s.serial ∧ !(op == 1 && serial == 0) then 0x02
  else if !s.signerMatches t ∨ (op = 1 ∧ (signer == 0xFF) = anyActive) ∨ (op ≠ 1 ∧ signer = 0xFF) then 0x03
  else if !tokenVerifies t then 0x04
  else if op = 1 ∧ (3 < n ∨ s.slotState n ≠ 0) then 0x05
  else if op = 2 ∧ (3 < n ∨ !(s.slotState n == 1 || s.slotState n == 3)) then 0x05
  else if op = 2 ∧ s.otherActive n = 0 then 0x06
  else 0x00

/-- The bits of RB_THERMO, as a 64-bit number, that ADVANCE_RB blows to bring the counter to `idx` (R84). -/
def State.rbBits (s : State) (idx : Nat) : Nat := if s.rbCount < idx then (2 ^ idx - 2 ^ s.rbCount) % 2 ^ 64 else 0

/-- DBG_SUBMIT: the RESULT that R89 to R92 give a debug token. -/
def State.submitResult (s : State) (t : List Byte) : Nat :=
  let level := fieldAt t 4 1
  let signer := fieldAt t 5 1
  let off := (s.fuse 162).toNat
  if s.on Fld.PROC_DBG_STATUS_LOCKOUT then 0x09
  else if !s.on Fld.PROC_DBG_STATUS_CHAL_VALID then 0x08
  else if fieldAt t 0 4 ≠ 0x55445846 ∨ level = 0 ∨ 2 < level ∨ !zeroBytes t 6 2 ∨ !zeroBytes t 48 80 then 0x01
  else if fieldAt t 8 8 ≠ s.serial ∨ fieldAt t 8 8 = 0 then 0x02
  else if (level = 1 ∧ signer = 0xFF) ∨ (level = 2 ∧ signer ≠ 0xFF) ∨
      s.signerDigest signer ≠ some (sha512 (bytesAt t 128 516)) then 0x03
  else if !tokenVerifies t then 0x04
  else if bytesAt t 16 32 ≠ s.regBytes (Reg.PROC_DBG_CHAL 0) 32 then 0x08
  else if bitOf off (level - 1) then 0x0A
  else 0x00

/-- What a PROC_CMD operation will do: its RESULT, the fuse bits it programs and the debug level it grants. -/
def State.planCmd (s : State) (op : Nat) : ProcCmd :=
  let t := s.token
  match op with
  | 1 =>
    let r := s.provResult t
    ⟨1, r, if r = 0 then provFuses t else [], 0⟩
  | 2 =>
    if s.on Fld.BOOT_STATUS_COMPLETE then
      let b := s.rbBits s.boot.rollbackIndex
      ⟨2, 0, (if b % 2 ^ 32 = 0 then [] else [(160, BitVec.ofNat 32 b)]) ++
        (if b / 2 ^ 32 = 0 then [] else [(161, BitVec.ofNat 32 (b / 2 ^ 32))]), 0⟩
    else ⟨2, 7, [], 0⟩
  | 4 =>
    let r := s.submitResult t
    ⟨4, r, [], if r = 0 then fieldAt t 4 1 else 0⟩
  | op => ⟨op, 0, [], 0⟩

/-- A PROC_CMD operation begins to run; the token is taken as it stands then. -/
def State.runCmd (s : State) (op : Nat) : State :=
  { s with sec := { s.sec with running := some (s.planCmd op), waits := none } }

/-- A write to PROC_CMD (R75): GO needs KEY 0x6D; with a command BUSY it is ignored whole; a command that arrives while LOP6 is
RUNNING waits. A GO with the reserved OP 0 starts nothing. -/
def State.procCmdWrite (s : State) (d : Word) : State :=
  let go := decide (Fld.PROC_CMD_GO.of d = 1 ∧ Fld.PROC_CMD_KEY.of d = 0x6D)
  if go && s.on Fld.PROC_CMD_STATUS_BUSY then s.setFld Fld.PROC_CMD_STATUS_OVERRUN 1
  else
    let s := s.plainWrite Reg.PROC_CMD (Fld.PROC_CMD_GO.put 0 d)
    let op := s.fld Fld.PROC_CMD_OP
    if go && op != 0 then
      let s := (s.setFld Fld.PROC_CMD_GO 1).setFld Fld.PROC_CMD_STATUS_BUSY 1
      if s.lopState 6 = lopRunning then { s with sec := { s.sec with waits := some op } } else s.runCmd op
    else s

/-- The data of a PROC_CMD write that starts operation `op`. -/
def procCmdData (op : Nat) (d : Word) : Word := Fld.PROC_CMD_OP.put op (Fld.PROC_CMD_GO.put 1 (Fld.PROC_CMD_KEY.put 0x6D d))

/-! ### LOP6 -/

/-- LOP7 or LOP8 holds the flash (R75). -/
def State.flashHeld (s : State) : Bool := s.flashOps.any (fun u => match u with | .save _ _ => false | _ => true)

/-- LOP6 begins to run: refused with ERR 0x01 under vendor-level debug and with ERR 0x02 where the device key does not unseal
(R85, R87, R91; a key spent by a vendor unlock raises nothing, assumption 20). -/
def State.runLop6 (s : State) : State :=
  if s.fld Fld.PROC_STATUS_DBG_LEVEL = 2 then (s.setFld Fld.PROC_ATT_CTRL_GO 0).lopEnd 6 lopFailed 1
  else if s.sec.keySpent then (s.setFld Fld.PROC_ATT_CTRL_GO 0).lopEnd 6 lopFailed 2
  else if !s.sec.unseals then
    (((s.setFld Fld.PROC_STATUS_KEY_FAULT 1).event 0x0A 0).setFld Fld.PROC_ATT_CTRL_GO 0).lopEnd 6 lopFailed 2
  else
    { s with sec := { s.sec with attUnits := 0 } }.lopRun 6

/-- A QUEUED LOP6 runs once no command is BUSY and neither LOP7 nor LOP8 holds the flash (R75). -/
def State.kickLop6 (s : State) : State :=
  if s.lopState 6 = lopQueued ∧ !s.on Fld.PROC_CMD_STATUS_BUSY ∧ !s.flashHeld then s.runLop6 else s

/-- A write to PROC_ATT_CTRL (R87): an accepted GO takes the nonce, and the report reads 0 until its units fill it. -/
def State.attCtrlWrite (s : State) (d : Word) (unseals : Bool) : State :=
  let go := decide (Fld.PROC_ATT_CTRL_GO.of d = 1 ∧ Fld.PROC_ATT_CTRL_KEY.of d = 0x6D)
  if go && s.lopBusy 6 then s.setFld Fld.PROC_ATT_CTRL_OVERRUN 1
  else
    let s := s.plainWrite Reg.PROC_ATT_CTRL (Fld.PROC_ATT_CTRL_GO.put 0 d)
    if go then
      let s := { s with sec := { s.sec with nonce := s.regBytes (Reg.PROC_ATT_NONCE 0) 64, unseals := unseals } }
      let s := s.loadBytes (Reg.PROC_ATT_REPORT 0) (List.replicate 800 0#8)
      ((s.setFld Fld.PROC_ATT_CTRL_GO 1).lopStart 6 lopQueued 4).kickLop6
    else s

/-- The header of the slot that does not run, with its partition's size; none without a known directory. In Detention mode it is the
one that the last attempt did not use (assumption 104). -/
def State.otherHeader (s : State) : Option (List Byte × Nat) :=
  s.boot.dir.map (fun d =>
    let p := d.slot (1 - s.fld Fld.BOOT_STATUS_SLOT)
    (s.flashBytes p.offset 4096, p.size))

/-- ALT_DIGEST: none where the other slot's header fails check 1 of R80. -/
def State.altDigest (s : State) : Option (List Byte) :=
  match s.otherHeader with
  | some (h, size) => if headerValid h size then some (imageDigest h) else none
  | none => none

/-- Bytes of the report from byte `k` (a multiple of 4). -/
def State.report (s : State) (k : Nat) (bs : List Byte) : State := s.loadBytes (Reg.PROC_ATT_REPORT 0 + k) bs

/-- Unit 1 of LOP6: the fields that describe the running image, with the nonce (R88). -/
def State.reportRun (s : State) : State :=
  let det := s.on Fld.BOOT_STATUS_DETAINED
  let flags := s.fld Fld.BOOT_STATUS_SLOT + 4 * bit det + 8 * s.fld Fld.PROC_STATUS_DBG_LEVEL
  let s := s.report 0 (leBytes 4 0x54415846 ++ leBytes 2 1 ++ leBytes 2 800 ++ leBytes 8 s.serial ++ s.sec.nonce ++
    bytesAt (if det then [] else s.boot.runDigest) 0 64)
  s.report 208 (leBytes 4 (s.rd Reg.BOOT_IMAGE_VER).toNat ++ leBytes 2 (if det then 0 else s.boot.rollbackIndex) ++
    leBytes 1 flags ++ leBytes 1 s.rbCount ++ leBytes 1 (s.fld Fld.PROC_STATUS_SLOT_STATE) ++
    leBytes 1 (if det then 0xFF else s.boot.ownerSlot) ++ leBytes 2 (if det then 0 else s.boot.arrayLevel) ++
    leBytes 4 (s.fuse 162).toNat)

/-- Unit 2: the other slot's image digest and ALT_VALID. -/
def State.reportAlt (s : State) : State :=
  match s.altDigest with
  | some d =>
    let s := s.report 144 d
    s.wr (Reg.PROC_ATT_REPORT 53) (s.rd (Reg.PROC_ATT_REPORT 53) ||| (2#32 <<< 16))
  | none => s

/-- Unit 4: the device-key signature over bytes 0 to 287 under a fresh salt (R79, R88). -/
def State.reportSign (s : State) : State :=
  (s.report 288 (leBytes 512 (deviceSign (leBytes 64 (Config.salt s.fresh).toNat) (s.regBytes (Reg.PROC_ATT_REPORT 0) 288)))).useFresh

/-- LOP6_UNIT_END (R87, R88). -/
def execLop6UnitEnd (s : State) : Out :=
  .next (if s.lopState 6 = lopRunning then
    let n := s.sec.attUnits
    let s := match n with
      | 0 => s.reportRun
      | 1 => s.reportAlt
      | 2 => s.report 224 (sha512 (s.fuseBytes 0 256))
      | _ => s.reportSign
    let s := { s with sec := { s.sec with attUnits := n + 1 } }.lopUnits 6 (n + 1) 4
    if n + 1 < 4 then s
    else
      let s := (s.setFld Fld.PROC_ATT_CTRL_GO 0).lopEnd 6 lopDone 0
      match s.sec.waits with
      | some op => s.runCmd op
      | none => s
  else s)

/-! ### The end of a command -/

/-- PROC_CMD ends without LOP6 or another command waiting for it. -/
def State.closeChallenge (s : State) : State :=
  (s.setFld Fld.PROC_DBG_STATUS_CHAL_VALID 0).loadBytes (Reg.PROC_DBG_CHAL 0) (List.replicate 32 0#8)

/-- What a DBG_SUBMIT leaves: the level granted, or one refusal more and LOCKOUT at 8 (R91). -/
def State.submitEnd (s : State) (c : ProcCmd) : State :=
  let s := s.closeChallenge
  if c.result = 0 then
    { s with sec := { s.sec with keySpent := s.sec.keySpent || c.level == 2 } }.setFld Fld.PROC_STATUS_DBG_LEVEL c.level
  else
    let s := s.count Fld.PROC_DBG_STATUS_FAIL_COUNT 1
    if 8 ≤ s.fld Fld.PROC_DBG_STATUS_FAIL_COUNT then s.setFld Fld.PROC_DBG_STATUS_LOCKOUT 1 else s

/-- The fuse bits of a command blow; with `misread` only those bits of each word that it has (R83). -/
def State.programFuses (s : State) (c : ProcCmd) (misread : Option Word) : State :=
  (c.fuses.foldl (fun s f => s.blow f.1 (match misread with | some m => f.2 &&& m | none => f.2)) s).senseFuses

/-- Every word of a command's fuses reads back as programmed. -/
def State.readsBack (s : State) (c : ProcCmd) : Bool := c.fuses.all (fun f => s.fuse f.1 &&& f.2 == f.2)

/-- PROC_CMD_END: the running command ends with its RESULT; `misread` names the bits that did blow where the read-back of a
programmed word differs (R83). -/
def execProcCmdEnd (misread : Option Word) (s : State) : Out :=
  .next (match s.sec.running with
  | some c =>
    let s := s.programFuses c misread
    let result := if s.readsBack c then c.result else 0x0B
    let s := match c.op with
      | 3 => ((s.loadBytes (Reg.PROC_DBG_CHAL 0) (leBytes 32 (Config.challenge s.fresh).toNat)).useFresh).setFld
          Fld.PROC_DBG_STATUS_CHAL_VALID 1
      | 4 => s.submitEnd c
      | 5 => s.setFld Fld.PROC_STATUS_DBG_LEVEL 0
      | _ => s
    let s := { s with sec := { s.sec with running := none } }
    (((s.setFld Fld.PROC_CMD_GO 0).setFld Fld.PROC_CMD_STATUS_BUSY 0).setFld Fld.PROC_CMD_STATUS_RESULT result).kickLop6
  | none => s)

/-- CHALLENGE_LAPSE: 60 s after DBG_CHALLENGE (R89). -/
def execChallengeLapse (s : State) : Out :=
  .next (if s.on Fld.PROC_DBG_STATUS_CHAL_VALID then s.closeChallenge else s)

end Sys2Proof.Machine
end

