-- ==== Sys2Proof/Machine/Flash.lean ====
section
/-!
DEFINITION. The checks of an image's sections that need no loading (R49, R51 to R55, R388), and the long operations on the
flash: LOP7 and LOP8 (R70 to R73).
-/

namespace Sys2Proof.Machine

/-! ### Board profiles (R52, R53) -/

/-- The first profile, in section order, whose BOARD_ID equals the strap and whose VALID is 0xB5. -/
def selectProfile (bytes : List Byte) (board : Nat) : Option (List Byte) :=
  ((List.range (bytes.length / 256)).map (fun i => bytesAt bytes (256 * i) 256)).find? (fun p =>
    fieldAt p 0 1 % 8 == board && fieldAt p 1 1 == 0xB5)

/-- A width code of a profile is not reserved. -/
def widthCodeOk (c : Nat) : Bool := decide (c ≤ 4) || c == 15

/-- R53: the checks of a selected profile. -/
def profileOk (p : List Byte) : Bool :=
  (List.range 4).all (fun b => widthCodeOk (profileWidth p b)) &&
  !(profileWidth p 0 == 15 && profileWidth p 1 == 15) && !(profileWidth p 2 == 15 && profileWidth p 3 == 15) &&
  fieldAt p 5 1 != 0 && decide (620 ≤ fieldAt p 12 2) && decide (fieldAt p 12 2 ≤ 820)

/-! ### Region table (R54, R55) -/

/-- One entry of a region table. -/
structure Region where
  id : Nat
  kind : Nat
  retain : Bool
  base : Nat
  size : Nat
deriving DecidableEq, Repr

/-- The entries of a REGION_TABLE section. -/
def regionList (bytes : List Byte) : List Region :=
  (List.range (bytes.length / 16)).map (fun i =>
    let k := 16 * i
    ⟨fieldAt bytes k 1 % 64, fieldAt bytes (k + 1) 1, bitOf (fieldAt bytes (k + 2) 2) 0, fieldAt bytes (k + 4) 4,
      fieldAt bytes (k + 8) 4⟩)

/-- Two regions do not overlap. -/
def Region.apart (r q : Region) : Bool := decide (r.base + r.size ≤ q.base) || decide (q.base + q.size ≤ r.base)

/-- The regions pairwise differ in REGION_ID and do not overlap. -/
def regionsApart : List Region → Bool
  | [] => true
  | r :: rs => rs.all (fun q => r.apart q && r.id != q.id) && regionsApart rs

/-- R54, R55: a REGION_TABLE section is valid. -/
def regionsOk (bytes : List Byte) : Bool :=
  let rs := regionList bytes
  let one := fun k => (rs.filter (fun r => r.kind == k)).length == 1
  bytes.length % 16 == 0 && decide (1 ≤ rs.length) && decide (rs.length ≤ 64) &&
  rs.all (fun r => decide (1 ≤ r.kind) && decide (r.kind ≤ 7) && r.base % 0x10000 == 0 && r.size % 0x10000 == 0 &&
    r.size != 0 && decide (storeBase ≤ r.base) && decide (r.base + r.size ≤ storeEnd)) &&
  one 1 && one 2 && one 3 && one 4 && one 5 && regionsApart rs &&
  rs.all (fun r => r.kind != 5 || (r.base == 0x10000000 && r.size == 0x400000 && r.retain))

/-! ### LOAD ranges (R49, R51, R388) -/

/-- The range `[a, a + n)` lies within `[lo, hi)`. -/
def inside (a n lo hi : Nat) : Bool := decide (lo ≤ a) && decide (a + n ≤ hi)

/-- The LOAD range of a section lies in its permitted target. -/
def loadOk (c : Section) (rs : List Region) : Bool :=
  let store := inside c.load c.length storeBase storeEnd
  let kind := fun k => rs.any (fun r => r.kind == k && inside c.load c.length r.base (r.base + r.size))
  match c.stype with
  | 0x03 => inside c.load c.length 0x700000 0x740000 || inside c.load c.length 0x780000 0x800000 ||
      inside c.load c.length 0x800000 0x880000 || inside c.load c.length 0x880000 0x900000
  | 0x04 => (List.range 12).any (fun t =>
      inside c.load c.length (0x400000 + 0x40000 * t) (0x410000 + 0x40000 * t) ||
      inside c.load c.length (0x420000 + 0x40000 * t) (0x440000 + 0x40000 * t))
  | 0x06 => kind 4
  | 0x07 => inside c.load c.length 0x290000 0x300000
  | 0x08 => inside c.load c.length 0xD0000 0xE0000
  | 0x09 => store
  | 0x0A => kind 6
  | 0x0B => store
  | t => if 0xF0 ≤ t ∧ t ≤ 0xFF then store else true

/-! ### The users of the flash (R70) -/

/-- The unit of a LOP7 operation in bytes (R71). -/
def flashUnit (op : Nat) : Nat := if op = 0 then 0x10000 else 0x1000

/-- R70: an ERASE or PROGRAM of this range overlaps the slot that runs, or that was last attempted, or the journal. -/
def State.flashForbidden (s : State) (op a n : Nat) : Bool :=
  match s.boot.dir with
  | none => false
  | some d =>
    let p := d.slot (s.fld Fld.BOOT_STATUS_SLOT)
    op != 2 && (!Partition.apart ⟨a, n⟩ p || !Partition.apart ⟨a, n⟩ d.journal)

/-- The error with which LOP7 ends at once (R71, R72), none when it may run. While no density has been read since POR no address lies
within the flash (assumption 102). -/
def State.lop7Error (s : State) (f : FlashOp) : Option Nat :=
  let align := if f.op = 0 then 0x10000 else if f.op = 1 then 256 else 4
  if s.flashForbidden f.op f.addr f.len then some 1
  else if f.addr % align ≠ 0 ∨ f.len % align ≠ 0 ∨ s.boot.density < f.addr + f.len ∨
      (f.op ≠ 0 ∧ f.src = 0 ∧ 4096 < f.len) then some 2
  else if f.op ≠ 0 ∧ f.src = 1 ∧ (!s.domOn pdCst ∨ f.store < storeBase ∨ storeEnd < f.store + f.len) then some 5
  else none

/-- The header of slot `i` and its partition, none without a valid directory (R45, R46). -/
def State.verifySlot (s : State) (i : Nat) : Option (Partition × List Byte) :=
  (s.chooseDir s.boot.density).map (fun d => (d.slot i, s.flashBytes (d.slot i).offset 4096))

/-- UNITS_TOTAL of LOP8: units of 64 KiB of slot content, one where no valid header says how many (R73). -/
def State.verifyUnits (s : State) (i : Nat) : Nat :=
  match s.verifySlot i with
  | some (p, h) => if headerValid h p.size then (fieldAt h 28 4 + 0xFFFF) / 0x10000 else 1
  | none => 1

/-- The first user of the flash begins to run; a LOP7 that its checks turn away ends FAILED at its turn, and the next one follows
(R70, R72). LOP8 takes its units from the slot as it is then. -/
def State.runFlashN : Nat → State → State
  | 0, s => s
  | n + 1, s =>
    match s.flashOps with
    | .lop7 f :: rest =>
      if s.lopState 7 = lopQueued then
        match s.lop7Error f with
        | some e => State.runFlashN n { (s.setFld Fld.BOOT_FL_CTRL_GO 0).lopEnd 7 lopFailed e with flashOps := rest }
        | none => s.lopRun 7
      else s
    | .lop8 i :: _ => if s.lopState 8 = lopQueued then (s.lopRun 8).lopUnits 8 0 (s.verifyUnits i) else s
    | _ => s

def State.runFlash (s : State) : State := s.runFlashN (s.flashOps.length + 1)

/-- A flash operation ends: the next one runs, and LOP6 where it waited for the flash. -/
def State.flashDone (s : State) : State := { s with flashOps := s.flashOps.drop 1 }.runFlash.kickLop6

/-- LOP7 ends in `state` with error `err`. -/
def State.lop7End (s : State) (state err : Nat) : State := ((s.setFld Fld.BOOT_FL_CTRL_GO 0).lopEnd 7 state err).flashDone

/-- A write to BOOT_FL_CTRL (R70 to R72). -/
def State.flCtrlWrite (s : State) (d : Word) : State :=
  let go := decide (Fld.BOOT_FL_CTRL_GO.of d = 1 ∧ Fld.BOOT_FL_CTRL_KEY.of d = 0x5C)
  if go && s.lopBusy 7 then s.setFld Fld.BOOT_FL_CTRL_OVERRUN 1
  else
    let s := s.plainWrite Reg.BOOT_FL_CTRL (Fld.BOOT_FL_CTRL_GO.put 0 d)
    if go then
      let f : FlashOp := ⟨s.fld Fld.BOOT_FL_CTRL_OP, s.fld Fld.BOOT_FL_CTRL_SRC, (s.rd Reg.BOOT_FL_ADDR).toNat,
        (s.rd Reg.BOOT_FL_LEN).toNat, (s.rd Reg.BOOT_FL_SRC).toNat, 0⟩
      let n := (f.len + flashUnit f.op - 1) / flashUnit f.op
      let s := s.lopStart 7 lopQueued n
      if f.len = 0 then s.lopEnd 7 lopDone 0
      else { (s.setFld Fld.BOOT_FL_CTRL_GO 1) with flashOps := s.flashOps ++ [FlashUser.lop7 f] }.runFlash
    else s

/-- The data of a BOOT_FL_CTRL write that starts operation `op`. -/
def flCtrlData (op : Nat) (d : Word) : Word :=
  Fld.BOOT_FL_CTRL_OP.put op (Fld.BOOT_FL_CTRL_GO.put 1 (Fld.BOOT_FL_CTRL_KEY.put 0x5C d))

/-- The source bytes of a PROGRAM unit, none on a store error (R72). -/
def State.flashSource (s : State) (f : FlashOp) (k n : Nat) : State × Option (List Byte) :=
  if f.src = 0 then (s, some (s.regBytes (Reg.BOOT_FBUF 0 + k) n))
  else if !s.domOn pdCst then (s, none)
  else
    let r := s.storeRead (f.store + k) n reqFabric
    (r.1, if r.2.2 then some r.2.1 else none)

/-- The bytes of a READ unit reach their destination; false on a store error. -/
def State.flashSink (s : State) (f : FlashOp) (k : Nat) (bs : List Byte) : State × Bool :=
  if f.src = 0 then (s.loadBytes (Reg.BOOT_FBUF 0 + k) bs, true)
  else if !s.domOn pdCst then (s, false)
  else s.storeWrite (f.store + k) bs reqFabric

/-- The action of one LOP7 unit at flash address `a` (R71): the state, and the error that ends the operation. -/
def State.lop7Unit (s : State) (f : FlashOp) (k a n : Nat) (o : FlashEnd) : State × Option Nat :=
  match f.op, o with
  | 0, .busy => (s.spoilSector a, some 3)
  | 0, _ => (s.eraseFlash a n, none)
  | 1, .busy => ((s.putFlash a (openBytes s.fresh n)).useFresh, some 3)
  | 1, .done =>
    match s.flashSource f k n with
    | (s, some bs) => (s.putFlash a bs, none)
    | (s, none) => (s, some 5)
  | 1, .differs c =>
    match s.flashSource f k n with
    | (s, some bs) => (s.putFlash a (bytesAt c 0 n), if bytesAt c 0 n = bs then none else some 4)
    | (s, none) => (s, some 5)
  | _, _ =>
    let r := s.flashSink f k (s.flashBytes a n)
    (r.1, if r.2 then none else some 5)

/-- LOP7_UNIT_END (R71). -/
def execLop7UnitEnd (outcome : FlashEnd) (s : State) : Out :=
  .next (match s.flashOps with
  | .lop7 f :: _ =>
    if s.lopState 7 = lopRunning then
      let done := f.done
      let total := (f.len + flashUnit f.op - 1) / flashUnit f.op
      let k := flashUnit f.op * done
      let r := s.lop7Unit f k (f.addr + k) (min (flashUnit f.op) (f.len - k)) outcome
      match r.2 with
      | some e => r.1.lop7End lopFailed e
      | none =>
        let s := { r.1 with flashOps := FlashUser.lop7 { f with done := done + 1 } :: r.1.flashOps.drop 1 }
        let s := s.lopUnits 7 (done + 1) total
        if total ≤ done + 1 then s.lop7End lopDone 0 else s
    else s
  | _ => s)

/-! ### LOP8 (R73) -/

/-- LOP8 ends: ERR, and the offset of the structure that failed, 0 when it ends DONE. -/
def State.lop8End (s : State) (err offset : Nat) : State :=
  (((s.setFld Fld.BOOT_VERIFY_CTRL_GO 0).wr Reg.BOOT_VERIFY_DETAIL (BitVec.ofNat 32 offset)).lopEnd 8
    (if err = 0 then lopDone else lopFailed) err).flashDone

/-- A write to BOOT_VERIFY_CTRL: a GO while LOP8 is QUEUED or RUNNING is ignored. -/
def State.verifyCtrlWrite (s : State) (d : Word) : State :=
  let go := decide (Fld.BOOT_VERIFY_CTRL_GO.of d = 1 ∧ Fld.BOOT_VERIFY_CTRL_KEY.of d = 0x5C)
  let busy := s.lopBusy 8
  let s := s.setFld Fld.BOOT_VERIFY_CTRL_SLOT (Fld.BOOT_VERIFY_CTRL_SLOT.of d)
  if go && !busy then
    let slot := s.fld Fld.BOOT_VERIFY_CTRL_SLOT
    let s := (s.setFld Fld.BOOT_VERIFY_CTRL_GO 1).lopStart 8 lopQueued (s.verifyUnits slot)
    { s with flashOps := s.flashOps ++ [FlashUser.lop8 slot] }.runFlash
  else s

/-- The bytes of a section. -/
def State.sectionBytes (s : State) (p : Partition) (c : Section) : List Byte := s.flashBytes (p.offset + c.offset) c.length

/-- What LOP8 finds wrong in one section: ERR of R72. -/
def State.verifySection (s : State) (p : Partition) (rs : List Region) (c : Section) : Option Nat :=
  let bs := s.sectionBytes p c
  if !knownSection c.stype then none
  else if !loadOk c rs then some 8
  else if sha512 bs ≠ c.digest then some 0x0B
  else if c.stype = 1 ∧ !((selectProfile bs (s.fld Fld.DEV_STRAPS_BOARD_ID)).map profileOk).getD false then some 0x0C
  else if c.stype = 2 ∧ !regionsOk bs then some 0x0C
  else none

/-- The regions that the slot's own table declares. -/
def State.slotRegions (s : State) (p : Partition) (h : List Byte) : List Region :=
  match (headerSections h).find? (fun c => c.stype == 2) with
  | some c => regionList (s.sectionBytes p c)
  | none => []

/-- What LOP8 finds in its unit `k`: the header in unit 0, and each section in the unit that holds its last byte; ERR and the
offset of the failing structure (R73, R80). -/
def State.verifyUnit (s : State) (i k : Nat) : Option (Nat × Nat) :=
  match s.verifySlot i with
  | none => some (8, 0)
  | some (p, h) =>
    match (if k = 0 then s.headerCheck h p.size else none) with
    | some n => some (if n = 1 then 8 else if n = 6 then 0x0A else 9, 0)
    | none =>
      let rs := s.slotRegions p h
      ((headerSections h).filter (fun c => (c.offset + c.length - 1) / 0x10000 == k)).findSome? (fun c =>
        (s.verifySection p rs c).map (fun e => (e, c.offset)))

/-- LOP8_UNIT_END (R73). -/
def execLop8UnitEnd (s : State) : Out :=
  .next (match s.flashOps with
  | .lop8 slot :: _ =>
    if s.lopState 8 = lopRunning then
      let done := s.fld (Fld.LOP_STATn_UNITS_DONE 8)
      let total := s.fld (Fld.LOP_STATn_UNITS_TOTAL 8)
      match s.verifyUnit slot done with
      | some (e, o) => s.lop8End e o
      | none =>
        let s := s.lopUnits 8 (done + 1) total
        if total ≤ done + 1 then s.lop8End 0 0 else s
    else s
  | _ => s)

end Sys2Proof.Machine
end

