-- ==== Sys2Proof/Machine/Samples.lean ====
section
/-!
DEFINITION. The arithmetic of the sample chains, apart from the state: complex numbers, the trigonometric and exponential constants
(to 2 ^ −50, in units of 2 ^ −60), rounding and saturation (R221, R251), the half-band stages (R240), the fractional delay (R243), the
I/Q correction (R244, R255), crest-factor reduction (R297, R298), the pre-distortion model (R280) and the transforms (R236, R263).
A signal gives a complex number for each sample index, and at a rounding point the number of components that saturate there.
-/

namespace Sys2Proof.Machine

/-! ### Complex numbers -/

/-- I and Q; in a signal of the chain in units of 2 ^ −15 (R5). -/
abbrev Cpx : Type := Int × Int

/-- A complex word of R5 as its components. -/
def cpx (w : Word) : Cpx := (sext 16 w.toNat, sext 16 (w.toNat / 65536))

/-- Components of Q1.15 as a complex word. -/
def cpxWord (c : Cpx) : Word := BitVec.ofNat 32 (toCode 16 c.1 + 65536 * toCode 16 c.2)

def cAdd (a b : Cpx) : Cpx := (a.1 + b.1, a.2 + b.2)
def cMul (a b : Cpx) : Cpx := (a.1 * b.1 - a.2 * b.2, a.1 * b.2 + a.2 * b.1)
def cScale (k : Int) (a : Cpx) : Cpx := (k * a.1, k * a.2)
def cConj (a : Cpx) : Cpx := (a.1, -a.2)
def cSum (xs : List Cpx) : Cpx := ((xs.map (·.1)).sum, (xs.map (·.2)).sum)

/-- |a|², exact. -/
def cMag2 (a : Cpx) : Nat := (a.1 * a.1 + a.2 * a.2).toNat

/-- One sample: its value, and how many of its components saturated when it was formed. -/
abbrev Sample : Type := Cpx × Nat

/-- A sample of zero. -/
def silence : Sample := ((0, 0), 0)

/-- The saturations of a signal at the indices from `lo` up to `hi`. -/
def satCount (x : Int → Sample) (lo hi : Int) : Nat := ((List.range (hi - lo).toNat).map (fun (i : Nat) => (x (lo + (i : Int))).2)).sum

/-! ### Constants of the real numbers -/

/-- 1.0, π and, in units of 2 ^ −80, ln 10. -/
def one60 : Int := 2 ^ 60
def pi60 : Int := 3622009729038561421
def ln10at80 : Int := 2783654570780253816072539

/-- cos and sin of 2π × num / den, by their series. -/
def turn (num : Int) (den : Nat) : Cpx :=
  let m := num % (den : Int)
  let m := if (den : Int) < 2 * m then m - den else m
  let x := 2 * pi60 * m / (den : Int)
  let r := (List.range 40).foldl (fun (r : Int × Cpx) k =>
    let t := r.1
    let acc : Cpx := if k % 4 = 0 then (r.2.1 + t, r.2.2) else if k % 4 = 1 then (r.2.1, r.2.2 + t)
      else if k % 4 = 2 then (r.2.1 - t, r.2.2) else (r.2.1, r.2.2 - t)
    (t * x / ((k + 1 : Nat) * one60), acc)) (one60, (0, 0))
  r.2

/-- 10 ^ (m / 1,000) for gains and attenuations (R242, R297, R300): the series of the exponential at a sixteenth of the exponent, squared
four times. -/
def tenPow (m : Int) : Int :=
  if m = 0 then one60
  else
    let one : Int := 2 ^ 80
    let x := m * ln10at80 / 16000
    let e := ((List.range 30).foldl (fun (r : Int × Int) k => (r.1 * x / ((k + 1 : Nat) * one), r.2 + r.1)) (one, 0)).2
    ((List.range 4).foldl (fun (v : Int) _ => v * v / one) e) / 2 ^ 20

/-- 1 / √n. -/
def invRoot (n : Nat) : Int := Nat.sqrt (2 ^ 120 / n)

/-- |a| in units of 2 ^ −60, of components in units of 2 ^ −15. -/
def cAbs60 (a : Cpx) : Int := Nat.sqrt (cMag2 a * 2 ^ 90)

/-! ### Rounding (R221, R251) -/

/-- A number in units of 2 ^ −(15 + k), rounded half to even to Q1.15 and saturated, with the components that saturated. -/
def fit (k : Nat) (z : Cpx) : Sample :=
  let r : Cpx := (roundHalfEven z.1 k, roundHalfEven z.2 k)
  let t : Cpx := (satInt 16 r.1, satInt 16 r.2)
  (t, bit (decide (t.1 ≠ r.1)) + bit (decide (t.2 ≠ r.2)))

/-- What the device's own finite precision adds to a number before it is rounded by `k` bits at arithmetic point `st`, where the spec
gives only a least precision: less than a quarter of a code (assumption 40). -/
def looseInt (st k : Nat) (z : Int) : Int :=
  let b : Int := 2 ^ (k - 2) - 1
  z + max (-b) (min b (Config.roundError st z))

/-- `fit` at an arithmetic point of finite precision. -/
def fitLoose (st k : Nat) (z : Cpx) : Sample := fit k (looseInt st k z.1, looseInt st k z.2)

/-- A number in units of 2 ^ −(15 + k) held to the range of Q1.15 without rounding, with the components that saturated. -/
def clip (k : Nat) (z : Cpx) : Sample :=
  let hi : Int := 32767 * 2 ^ k
  let lo : Int := -(32768 * 2 ^ k)
  let t : Cpx := (max lo (min hi z.1), max lo (min hi z.2))
  (t, bit (decide (t.1 ≠ z.1)) + bit (decide (t.2 ≠ z.2)))

/-! ### Filters (R240, R243) -/

/-- The odd offsets at which the half-band stage `st` has taps. -/
def halfOffsets (st : Nat) : List Int :=
  (List.range (2 * Config.halfBandReach st)).map (fun (i : Nat) => 2 * (i : Int) + 1 - 2 * (Config.halfBandReach st : Int))

/-- The tap of half-band stage `st` at an odd offset `d`, in units of 2 ^ −30; at offset 0 it is 1/2, at other even ones 0. -/
def halfTap (st : Nat) (d : Int) : Int := Config.halfBandTap st (d.natAbs / 2)

/-- `n` half-band stages of interpolation by 2 with passband gain 1, the first at the lowest rate, with the filters from `st` on; in units
2 ^ −29 of those of `x` for each. -/
def interpX (st : Nat) (x : Int → Cpx) : Nat → Int → Cpx
  | 0 => x
  | k + 1 => fun n =>
    let y := interpX st x k
    if n % 2 = 0 then cScale (2 ^ 29) (y (n / 2))
    else cSum ((halfOffsets (st + k)).map (fun d => cScale (halfTap (st + k) d) (y ((n - d) / 2))))

/-- `n` half-band stages of decimation by 2, the first at the highest rate; in units 2 ^ −30 of those of `x` for each. -/
def decimX (st : Nat) (x : Int → Cpx) : Nat → Int → Cpx
  | 0 => x
  | k + 1 => fun m =>
    let y := decimX st x k
    cAdd (cScale (2 ^ 29) (y (2 * m))) (cSum ((halfOffsets (st + k)).map (fun d => cScale (halfTap (st + k) d) (y (2 * m - d)))))

/-- The cascade of a signal of Q1.15, rounded to it. -/
def interpUp (st : Nat) (x : Int → Cpx) (k : Nat) (n : Int) : Sample := fitLoose 8 (29 * k) (interpX st x k n)
def decimDown (st : Nat) (x : Int → Cpx) (k : Nat) (m : Int) : Sample := fitLoose 8 (30 * k) (decimX st x k m)

/-- A delay by d / 64 samples: the integer part by a delay line, the fraction by its phase of the polyphase filter (R243, R259). -/
def delayBy (d : Nat) (x : Int → Cpx) (n : Int) : Sample :=
  let i := n - (d / 64 : Nat)
  if d % 64 = 0 then (x i, 0)
  else fit 30 (cSum ((List.range (2 * Config.delayReach)).map (fun k =>
    cScale (Config.delayTap (d % 64) k) (x (i + Config.delayReach - k)))))

/-- e^(jφ) as an NCO forms it for the phase `w` / 2 ^ `bits`: its spurs lie at or below −100 dBc (R241, R260, R308). -/
def ncoTurn (bits w : Nat) : Cpx :=
  let t := turn w (2 ^ bits)
  let b : Int := 10 * 2 ^ 40
  let e := Config.ncoError w
  (t.1 + max (-b) (min b (e.1 * 2 ^ 40)), t.2 + max (-b) (min b (e.2 * 2 ^ 40)))

/-- y[n] = x[n] + Σ h_k × conj(x[n − k]) + d, for the nine words of a bank (R244, R255). -/
def iqCorrect (bank : List Word) (x : Int → Cpx) (n : Int) : Sample :=
  let taps := (List.range 8).map (fun (k : Nat) => cMul (cpx (bank.getD k 0)) (cConj (x (n - (k : Int)))))
  fit 15 (cAdd (cScale (2 ^ 15) (cAdd (x n) (cpx (bank.getD 8 0)))) (cSum taps))

/-! ### Transforms (R236, R263) -/

/-- Σ x e^(±j2π × bin × n / N) over bins and their values; `sgn` is the sign of the exponent. Units of 2 ^ −60 of those of x. -/
def dft (sgn : Int) (N : Nat) (xs : List (Int × Cpx)) (n : Int) : Cpx :=
  cSum (xs.map (fun x => cMul x.2 (turn (sgn * x.1 * n) N)))

/-- z[n] of a carrier symbol with `nprb` PRBs and the subcarriers `ys` (R236). -/
def ifft (N nprb : Nat) (ys : List Word) (n : Nat) : Sample :=
  let xs := ys.zipIdx.map (fun y => ((y.2 : Int) - 6 * nprb, cpx y.1))
  fitLoose 1 122 (cScale (invRoot N) (dft 1 N xs n))

/-- The saturations of the iFFT of a carrier symbol. -/
def ifftSats (N nprb : Nat) (ys : List Word) : Nat := ((List.range N).map (fun n => (ifft N nprb ys n).2)).sum

/-- The rising half of the window of W samples: (1 − cos(π (i + 0.5) / W)) / 2 (R238). -/
def risingHalf (W i : Nat) : Int := (one60 - (turn (2 * i + 1) (4 * W)).1) / 2

/-- 2 ^ G / √N × rot × Σ r[n] e^(−j2πkn/N), rounded: `rot` in units of 2 ^ −60 (R263, R275). -/
def fftBin (st G N : Nat) (r : Nat → Cpx) (bin : Int) (rot : Cpx) : Sample :=
  let xs := (List.range N).map (fun (n : Nat) => ((n : Int), r n))
  fitLoose st 180 (cScale (2 ^ G * invRoot N) (cMul rot (dft (-1) N xs bin)))

/-! ### Crest-factor reduction (R297, R298) -/

/-- A_th for PAPR in 0.1 dB and LEVEL in −0.1 dBFS. -/
def cfrThreshold (papr level : Nat) : Int := tenPow (5 * ((papr : Int) - level))

/-- v[n] is a peak over the threshold `A`: no sample within n − 4 to n + 3 has a larger magnitude. -/
def cfrPeak (A : Int) (v : Int → Cpx) (n : Int) : Bool :=
  decide (A * A < (cMag2 (v n) : Int) * 2 ^ 90) &&
    (List.range 8).all (fun i => decide (cMag2 (v (n - 4 + i)) ≤ cMag2 (v n)))

/-- The pulse of the peak `x` over the threshold `A`: (|x| − A) × x / |x|, in units of 2 ^ −75. -/
def cfrPulse (A : Int) (x : Cpx) : Cpx :=
  let m := cAbs60 x
  if m = 0 then (0, 0) else cScale (one60 - A * one60 / m) x

/-! ### Pre-distortion (R280, R281) -/

/-- I and Q of an 18-bit entry of a bank. -/
def lutEntry (bank : List Word) (t i : Nat) : Cpx :=
  (sext 18 (bank.getD (2 * (64 * t + i)) 0).toNat, sext 18 (bank.getD (2 * (64 * t + i) + 1) 0).toNat)

/-- LUT `t` of a bank at the envelope of `u`, in units of 2 ^ −76: clamped, and interpolated between its entries. -/
def lutAt (bank : List Word) (t : Nat) (u : Cpx) : Cpx :=
  let a := min (cAbs60 u) (one60 - 2 ^ 45)
  let q := 63 * a
  let i := (q / one60).toNat
  let f := q % one60
  cAdd (cScale (one60 - f) (lutEntry bank t i)) (cScale f (lutEntry bank t (i + 1)))

/-- y[n] of the pre-distortion model: main, lag and lead terms (R280). -/
def predistort (bank : List Word) (u : Int → Cpx) (n : Int) : Sample :=
  let main := (List.range 12).map (fun (m : Nat) => cMul (u (n - (m : Int))) (lutAt bank m (u (n - (m : Int)))))
  let lag := (List.range 4).map (fun (k : Nat) => cMul (u n) (lutAt bank (12 + k) (u (n - 1 - (k : Int)))))
  let lead := (List.range 4).map (fun (k : Nat) => cMul (u n) (lutAt bank (16 + k) (u (n + 1 + (k : Int)))))
  fitLoose 3 76 (cAdd (cSum main) (cAdd (cSum lag) (cSum lead)))

/-! ### Levels (R256, R303, R317) -/

/-- rnd(|x|² × 2²⁶) of a sample. -/
def energyOf (x : Cpx) : Nat := (rndDiv (x.1 * x.1 + x.2 * x.2) 16).toNat

/-- rnd(−40 × log₁₀(num / den)), clamped to 0 to 511: the least L with (num / den)^80 × 10^(2 L + 1) above 1. -/
def dbCode (num den : Nat) : Nat :=
  ((List.range 511).find? (fun l => decide (den ^ 80 < num ^ 80 * 10 ^ (2 * l + 1)))).getD 511

end Sys2Proof.Machine
end

