-- ==== Sys2Proof/Machine/Carrier.lean ====
section
/-!
DEFINITION. The carriers of both directions: copies and their check (R222, R223, R252), commits (R224), the I/Q banks (R245,
R255).
-/

namespace Sys2Proof.Machine

/-! ### Copies -/

/-- A carrier's fields as a copy holds them (R222). -/
structure Carrier where
  en : Bool
  pgMask : Nat
  /-- The numerology: SCS is 15 × 2^scs kHz. -/
  scs : Nat
  nsize : Nat
  layers : Nat
  nprb : Nat
  /-- WIN of a downlink carrier, FFT_ADV of an uplink one. -/
  win : Nat
  freq : Int
  phcomp : Bool
  /-- G of an uplink carrier's FFT (R263). -/
  fftGain : Nat
deriving DecidableEq, Repr

/-- I_c, for a combination that R222 lists. -/
def Carrier.step (c : Carrier) : Nat := 2 ^ (7 - c.scs - c.nsize)

/-- Samples of the cyclic prefix of a symbol, `long` for one that begins a half millisecond (R222, R237). -/
def Carrier.cp (c : Carrier) (long : Bool) : Nat := 9 * (512 * 2 ^ c.nsize) / 128 + (if long then 512 / 2 ^ (7 - c.scs - c.nsize) else 0)

/-- N, the transform size. -/
def Carrier.n (c : Carrier) : Nat := 512 * 2 ^ c.nsize

/-- Carrier `c` of a copy. -/
def carrierIn (copy : List Word) (up : Bool) (c : Nat) : Carrier :=
  let w := fun k => (copy.getD (3 * c + k) 0).toNat
  ⟨bitOf (w 0) 31, w 0 / 2 ^ 20 % 256, w 0 / 2 ^ 18 % 4, w 0 / 2 ^ 16 % 4, w 0 / 2 ^ 9 % 64, w 0 % 512,
    if up then w 1 % 512 else w 1 % 256, sext 32 (w 2),
    bitOf (w 1) (if up then 9 else 8), w 1 / 2 ^ 12 % 8⟩

def State.carriers (s : State) (up : Bool) : CarrierState := if up then s.ulc else s.dlc

def State.setCarriers (s : State) (up : Bool) (c : CarrierState) : State :=
  if up then { s with ulc := c } else { s with dlc := c }

/-- The copy that governs a carrier symbol at air time `a` (R224). -/
def State.copyAt (s : State) (up : Bool) (a : Int) : List Word :=
  let c := s.carriers up
  if c.next ≠ [] ∧ (c.boundary : Int) ≤ a then c.next else c.inForce

/-- Carrier `c` as it governs a symbol at air time `a`. -/
def State.carrierAt (s : State) (up : Bool) (c : Nat) (a : Int) : Carrier := carrierIn (s.copyAt up a) up c

/-- SCS and NSIZE give a combination that R222 lists. -/
def Carrier.listed (c : Carrier) : Bool := decide (3 ≤ c.scs + c.nsize) && decide (c.scs + c.nsize ≤ 6)

/-- The largest NPRB, ⌊0.8 N / 12⌋. -/
def Carrier.maxPrb (c : Carrier) : Nat := c.n / 15

/-- The carrier's NCO frequency in units of 1 Hz / 2 ^ 32. -/
def freqUnits (freq : Int) : Int := freq * 983040000

/-- 6 × NPRB × SCS in the same units. -/
def Carrier.halfBand (c : Carrier) : Int := 6 * c.nprb * (15000 * 2 ^ c.scs : Nat) * (2 ^ 32 : Nat)

/-- Two carriers meet: their PG_MASK values share a bit and their occupied bands overlap (R223). -/
def Carrier.meets (c d : Carrier) : Bool :=
  (c.pgMask &&& d.pgMask) != 0 &&
    decide (((freqUnits c.freq - freqUnits d.freq).natAbs : Int) < c.halfBand + d.halfBand)

/-- The enabled carriers of a copy, with their numbers. -/
def enabledIn (copy : List Word) (up : Bool) : List (Nat × Carrier) :=
  ((List.range 8).map (fun c => (c, carrierIn copy up c))).filter (fun c => c.2.en)

/-- R223 and R252: the first condition that fails, and the lowest carrier that fails it. -/
def copyError (copy : List Word) (up : Bool) : Option (Nat × Nat) :=
  let es := enabledIn copy up
  let first := fun (r : Nat) (bad : Nat × Carrier → Bool) => (es.find? bad).map (fun c => (r, c.1))
  [first 1 (fun c => !c.2.listed),
    first 2 (fun c => c.2.nprb == 0 || decide (c.2.maxPrb < c.2.nprb)),
    first 3 (fun c => decide (300000000 * (2 ^ 32 : Nat) < ((freqUnits c.2.freq).natAbs : Int) + c.2.halfBand)),
    first 4 (fun c => es.any (fun d => d.1 != c.1 && c.2.meets d.2)),
    first 5 (fun _ => decide (32 < (es.map (fun c => c.2.layers)).sum)),
    first 6 (fun c => decide (9 * c.2.n / 128 < c.2.win)),
    first 7 (fun c => c.2.pgMask == 0)].findSome? id

/-- The 24 carrier registers as a copy. -/
def State.carrierRegs (s : State) (up : Bool) : List Word :=
  (List.range 8).flatMap (fun c =>
    if up then [s.rd (Reg.ULC_CARc_CFG0 c), s.rd (Reg.ULC_CARc_CFG1 c), s.rd (Reg.ULC_CARc_NCO c)]
    else [s.rd (Reg.DLC_CARc_CFG0 c), s.rd (Reg.DLC_CARc_CFG1 c), s.rd (Reg.DLC_CARc_NCO c)])

/-! The fields of DLC_CTRL and DLC_STATUS, and those of ULC in their place (R252). -/

def fCommit (up : Bool) : Fld := if up then Fld.ULC_CTRL_COMMIT else Fld.DLC_CTRL_COMMIT
def fIqSwap (up : Bool) : Fld := if up then Fld.ULC_CTRL_IQ_SWAP else Fld.DLC_CTRL_IQ_SWAP
def fCfgErr (up : Bool) : Fld := if up then Fld.ULC_STATUS_CFG_ERR else Fld.DLC_STATUS_CFG_ERR
def fOverrun (up : Bool) : Fld := if up then Fld.ULC_STATUS_OVERRUN else Fld.DLC_STATUS_OVERRUN
def fIqBank (up : Bool) : Fld := if up then Fld.ULC_STATUS_IQ_BANK else Fld.DLC_STATUS_IQ_BANK
def fCommitPending (up : Bool) : Fld := if up then Fld.ULC_STATUS_COMMIT_PENDING else Fld.DLC_STATUS_COMMIT_PENDING
def fCfgValid (up : Bool) : Fld := if up then Fld.ULC_STATUS_CFG_VALID else Fld.DLC_STATUS_CFG_VALID
def fDropConfig (up : Bool) : Fld := if up then Fld.ULC_DROPB_CONFIG else Fld.DLC_DROPB_CONFIG

/-- The first frame boundary at least `d` ticks after AIR_COUNT `a`. -/
def frameBoundaryFrom (a d : Nat) : Nat := (a + d + frameTicks - 1) / frameTicks * frameTicks

/-- COMMIT: the carrier registers are copied and checked (R223, R224, R252). -/
def State.commit (s : State) (up : Bool) : State :=
  let copy := s.carrierRegs up
  match copyError copy up with
  | some (r, c) =>
    ((s.setFld (fCfgErr up) r).setFld (fCommit up) 0).event (if up then 0x69 else 0x64) (r + 16 * c)
  | none =>
    let s := ((s.setFld (fCfgErr up) 0).setFld (fCommitPending up) 1).setFld (fCommit up) 1
    s.setCarriers up { s.carriers up with
      next := copy, boundary := frameBoundaryFrom s.air s.tEarly, before := s.sect.serial }

/-- Every DLC counter and DLC_LOAD, or every ULC one, is cleared. -/
def State.clearChainCounters (s : State) (up : Bool) : State :=
  if up then
    let s := [Reg.ULC_LOAD, Reg.ULC_DROPA, Reg.ULC_DROPB, Reg.ULC_DROPC, Reg.ULC_DROPD, Reg.ULC_SATL].foldl (fun s a => s.wr a 0) s
    let s := s.forEach 64 (fun s p => s.wr (Reg.ULC_PATHp_SAT p) 0)
    s.forEach 4 (fun s e => (s.setFld (Fld.ULC_PRAe_STATUS_OCC e) 0).setFld (Fld.ULC_PRAe_STATUS_SKIP e) 0)
  else
    let s := [Reg.DLC_LOAD, Reg.DLC_DROPA, Reg.DLC_DROPB, Reg.DLC_DLD_DISC].foldl (fun s a => s.wr a 0) s
    s.forEach 64 (fun s p => (s.wr (Reg.DLC_PATHp_SATA p) 0).wr (Reg.DLC_PATHp_SATB p) 0)

/-- A write to DLC_CTRL or ULC_CTRL (R223, R224, R245, R252, R255). -/
def State.chainCtrlWrite (s : State) (up : Bool) (d : Word) : State :=
  let go := (fCommit up).of d == 1
  if go && s.on (fCommitPending up) then s.setFld (fOverrun up) 1
  else
    let s := if (if up then Fld.ULC_CTRL_CNT_CLR else Fld.DLC_CTRL_CNT_CLR).of d = 1 then s.clearChainCounters up else s
    let s := if (fIqSwap up).of d = 1 then s.setFld (fIqSwap up) 1 else s
    if go then s.commit up else s

/-- The requested swap of the I/Q banks at a grid symbol boundary (R245, R255). -/
def State.iqBankSwap (s : State) (up : Bool) : State :=
  if s.on (fIqSwap up) then (s.setFld (fIqBank up) (1 - s.fld (fIqBank up))).setFld (fIqSwap up) 0 else s

/-- A write to a word of DLC_IQp or ULC_IQp, ignored in the active bank (R245). -/
def State.iqWrite (s : State) (up : Bool) (a : Nat) (d : Word) : State :=
  if a / 0x40 % 2 = s.fld (fIqBank up) then s else s.plainWrite a d

end Sys2Proof.Machine
end

