-- ==== Sys2Proof/Machine/Chain.lean ====
section
/-!
DEFINITION. The sample chains of both directions as functions of the state (R220, R236 to R247, R250, R254 to R263, R274, R275, R279 to
R282, R297 to R300, R306 to R310, R317). A signal is read at a sample index of its own rate counted from AIR_COUNT 0: 8 × AIR_COUNT at
983.04 MSps, 16 × AIR_COUNT at 1,966.08 MSps. From stage 6 of the downlink on it is the index at the path's own balls, its true-time delay
included (R189, R279); the device's internal latency is compensated, so that no stage moves an index.
-/

namespace Sys2Proof.Machine

/-! ### Histories -/

/-- What a history holds at AIR_COUNT `t`; `d` where it has no entry. -/
def histAt {α : Type} (h : List (Nat × α)) (t : Int) (d : α) : α :=
  ((h.find? (fun x => decide ((x.1 : Int) ≤ t))).map (·.2)).getD d

/-- A new value from AIR_COUNT `a` on; `old` held before where the history is still empty. -/
def histPush {α : Type} (h : List (Nat × α)) (old : α) (a : Nat) (new : α) : List (Nat × α) :=
  (a, new) :: (if h.isEmpty then [(0, old)] else h.filter (fun x => decide (x.1 < a)))

/-- The logged grid symbol that holds AIR_COUNT `t`: the newest that does not start after it. -/
def State.symbolAt (s : State) (t : Int) : Option SymbolLog := s.rf.log.find? (fun l => decide ((l.air : Int) ≤ t))

/-- What is in force for path `p` at AIR_COUNT `t`; none while PD_DPX is off. -/
def State.pathAt (s : State) (p : Nat) (t : Int) : Option PathSymbol := (s.symbolAt t).bind (fun l => l.paths[p]?)

/-- The commits that changed carrier `k` (8 + c for an uplink one) around AIR_COUNT `t`: the last at or before it, the first after it. -/
def State.spanOf (s : State) (k : Nat) (t : Int) : Int × Int :=
  let bs := SMap.get [] s.smp.flush k
  (bs.foldl (fun (m : Int) b => if (b : Int) ≤ t then max m b else m) 0, bs.foldl (fun (m : Int) b => if t < b then min m b else m) (2 ^ 70))

/-! ### NCOs (R241, R260, R274, R308) -/

/-- FREQ with which NCO `k` runs now: 0 to 7 downlink carriers, 8 to 15 uplink ones, 16 to 19 PRACH engines, 20 the canceller. -/
def State.ncoFreq (s : State) (k : Nat) : Int :=
  if k < 8 then (carrierIn s.dlc.inForce false k).freq
  else if k < 16 then (carrierIn s.ulc.inForce true (k - 8)).freq
  else if k < 20 then SMap.get 0 s.ul.praFreq (k - 16)
  else sext 32 (s.rd Reg.SFD_NCO).toNat

/-- The phase of NCO `k` at sample index `n` of 983.04 MSps. -/
def State.ncoPhase (s : State) (k : Nat) (n : Int) : Nat :=
  match ((SMap.get [] s.smp.past k).filter (fun x => decide (n < 8 * (x.upTo : Int)))).getLast? with
  | some x => ((x.phase + x.freq * (n - 8 * x.upTo)) % 2 ^ 32).toNat
  | none => ((SMap.get 0 s.nco k + s.ncoFreq k * (n - 8 * s.air)) % 2 ^ 32).toNat

/-- NCO `k` is about to change its FREQ: what it did before is kept. -/
def State.keepNco (s : State) (k : Nat) : State :=
  let old := (SMap.get [] s.smp.past k).filter (fun x => decide (s.air ≤ x.upTo + 262144))
  { s with smp := { s.smp with past := SMap.set [] s.smp.past k (⟨s.air, SMap.get 0 s.nco k, s.ncoFreq k⟩ :: old) } }

/-! ### Downlink, stages 3 to 5 (R236 to R242) -/

/-- The index at the carrier rate of the first sample of a symbol. -/
def TxSymbol.first (y : TxSymbol) : Int := 8 * y.air / y.step

/-- f₀ (t_start + T_CP) of R239 in units of 2 ^ −39 turns, for a symbol at `air` whose prefix takes `cp` samples at I_c `step`; `lo` is f_LO
and `freq` the carrier's FREQ. -/
def compTurns (lo : Nat) (freq : Int) (air cp step : Nat) : Int := (lo + freq * 2 ^ 7) * (8 * (air % 122880) + cp * step : Nat)

/-- What a symbol adds to the carrier signal of path `p` at index `m`: prefix, z and extension under their window, phase compensated; in
units of 2 ^ −135. -/
def TxSymbol.term (y : TxSymbol) (p lo : Nat) (m : Int) : Cpx :=
  let z := y.paths.getD p []
  let j := m - y.first
  if z = [] ∨ j < 0 ∨ ((y.cp + y.n + y.win : Nat) : Int) ≤ j then (0, 0)
  else
    let i := j.toNat
    let v := cpx (z.getD ((i + y.n - y.cp) % y.n) 0)
    let w := if i < y.win then risingHalf y.win i
      else if y.cp + y.n ≤ i then one60 - risingHalf y.win (i - y.cp - y.n) else one60
    cMul (cScale w v) (if y.phcomp then turn (-(compTurns lo y.freq y.air y.cp y.step)) (2 ^ 39) else (one60, 0))

/-- The carrier's symbols between the commits that changed it. -/
def State.txSyms (s : State) (c : Nat) (span : Int × Int) : List TxSymbol :=
  s.smp.syms.filter (fun y => y.carrier == c && decide (span.1 ≤ y.air) && decide ((y.air : Int) < span.2))

/-- f_LO of path `p`'s group at AIR_COUNT `t`. -/
def State.loWordAt (s : State) (p : Nat) (t : Int) : Nat := ((s.symbolAt t).map (fun l => l.los.getD (p / 8) 0)).getD 0

/-- Stage 3 of carrier symbols `ys` for path `p`, at index `m` of the carrier rate: nothing passes a commit that changed the carrier. -/
def State.stage3 (s : State) (ys : List TxSymbol) (span : Int × Int) (step p : Nat) (m : Int) : Sample :=
  if m * step < 8 * span.1 ∨ 8 * span.2 ≤ m * step then silence
  else fit 120 (cSum (ys.map (fun y => y.term p (s.loWordAt p y.air) m)))

/-- Stage 4: carrier `c` for path `p` at 983.04 MSps (R240). -/
def State.stage4 (s : State) (c p : Nat) (n : Int) : Sample :=
  let span := s.spanOf c (n / 8)
  match s.txSyms c span with
  | [] => silence
  | y :: ys => interpUp 0 (fun m => (s.stage3 (y :: ys) span y.step p m).1) (Nat.log2 y.step) n

/-- Saturations of stages 3 and 4 of carrier `c` for path `p` from AIR_COUNT `a` up to `b`, in which no commit lies. -/
def State.stage4Sats (s : State) (c p a b : Nat) : Nat :=
  let span := s.spanOf c a
  match s.txSyms c span with
  | [] => 0
  | y :: ys =>
    let x := s.stage3 (y :: ys) span y.step p
    (((y :: ys).filter (fun t => decide (a ≤ t.air) && decide (t.air < b))).map (fun t => t.sats.getD p 0)).sum +
      satCount x (8 * a / y.step) (8 * b / y.step) + satCount (s.stage4 c p) (8 * a) (8 * b)

/-- ATTEN of carrier `c` at AIR_COUNT `t` (R242). -/
def State.attenAt (s : State) (c : Nat) (t : Int) : Nat := histAt (SMap.get [] s.smp.attens c) t (s.fld (Fld.DLC_CARc_GAIN_ATTEN c))

/-- The contribution of carrier `c` to path `p`: attenuated, at its NCO's frequency; in units of 2 ^ −135 (R241, R242). -/
def State.contribution (s : State) (c p : Nat) (n : Int) : Sample :=
  clip 120 (cMul (cScale (tenPow (-(s.attenAt c (n / 8) : Int))) (s.stage4 c p n).1) (ncoTurn 32 (s.ncoPhase c n)))

/-- Stage 5: the carrier sum of path `p`. -/
def State.stage5 (s : State) (p : Nat) (n : Int) : Sample :=
  let cs := (List.range 8).map (fun c => s.contribution c p n)
  let r := fit 120 (cSum (cs.map (·.1)))
  (r.1, r.2 + (cs.map (·.2)).sum)

/-! ### Probe chips (R346) -/

/-- The pilot at index `t` of its period, in units of 2 ^ −120: tones of 0.96 MHz out to ± `span`, RMS level −`level` × 0.25 dBFS. -/
def pilot (span level t : Nat) : Cpx :=
  let a : Int := Nat.sqrt ((tenPow (-25 * (level : Int))).toNat * 2 ^ 60 / (2 * span))
  let tones := (List.range span).flatMap (fun (i : Nat) => [(i + 1 : Int), -(i + 1 : Int)])
  cScale a (cSum (tones.map (fun m => turn (4 * span * m * t + 1024 * m * m) (4096 * span))))

/-- H[row][c] of a Sylvester matrix. -/
def hadamard (row c : Nat) : Int := if ((List.range 8).filter (fun i => bitOf (row &&& c) i)).length % 2 = 0 then 1 else -1

/-- Sample `k` of a chip: a prefix of 128 samples, then one period of the pilot. -/
def ProbeRun.sample (r : ProbeRun) (sign : Int) (k : Nat) : Cpx :=
  (fit 105 (cScale sign (pilot r.span r.level ((k + 896) % 1024)))).1

/-- The run of chips that sample `n` of 983.04 MSps lies in, and the number of its chip. -/
def State.chipAt (s : State) (n : Int) : Option (ProbeRun × Nat) :=
  (s.cal.probes.find? (fun r => decide (8 * (r.air : Int) ≤ n) && decide (n < 8 * ((r.air + 144 * r.count : Nat) : Int)))).map
    (fun r => (r, r.first + (n - 8 * (r.air : Int)).toNat / 1152))

/-- What path `p` sends of a transmit chip at sample `n`: the chip by its row of the matrix (R346, R351). -/
def State.probe (s : State) (p : Nat) (n : Int) : Option Cpx :=
  match s.chipAt n with
  | some (r, c) =>
    if c < r.rxFrom ∧ bitOf r.groups (p / 8) then
      some (r.sample (hadamard (r.row + p) (c % r.order)) ((n - 8 * (r.air : Int)).toNat % 1152))
    else none
  | none => none

/-- What the calibration transmitter sends at sample `n`: every receive chip as it is; of several devices only the CAL_MASTER (R346,
R351). -/
def State.calTx (s : State) (n : Int) : Cpx :=
  match s.chipAt n with
  | some (r, c) =>
    if r.rxFrom ≤ c ∧ (r.order = 64 ∨ s.calMaster) then r.sample 1 ((n - 8 * (r.air : Int)).toNat % 1152) else (0, 0)
  | none => (0, 0)

/-! ### Downlink, stages 6 to 11 (R243 to R247, R279 to R282, R297 to R300) -/

/-- Stage 6: the true-time delay. -/
def State.stage6 (s : State) (p : Nat) (n : Int) : Sample :=
  match s.pathAt p (n / 8) with
  | some x => delayBy x.txDelay (fun k => (s.stage5 p k).1) n
  | none => silence

/-- CFR_EN, CFR_KSEL, CFR_ITER and A_th in force. -/
def PathSymbol.cfrOn (x : PathSymbol) : Bool := bitOf x.pdCfg.toNat 2
def PathSymbol.cfrKernel (x : PathSymbol) : Nat := x.pdCfg.toNat / 8 % 4
def PathSymbol.cfrTwice (x : PathSymbol) : Bool := bitOf x.pdCfg.toNat 5
def PathSymbol.cfrLimit (x : PathSymbol) : Int := cfrThreshold (x.cfrCfg.toNat % 128) (x.cfrCfg.toNat / 65536 % 512)

/-- The threshold in force for path `p` at sample `n`, none with CFR_EN 0; `twice`: none with CFR_ITER 0 either. -/
def State.cfrAt (s : State) (p : Nat) (twice : Bool) (n : Int) : Option Int :=
  (s.pathAt p (n / 8)).bind (fun x => if x.cfrOn && (!twice || x.cfrTwice) then some x.cfrLimit else none)

/-- The peaks of `v` from index `lo` up to `hi` after those in `before`: the ones cancelled, in order, and how many were missed as a 17th
cancellation over some sample (R298). -/
def State.cfrScan (s : State) (p : Nat) (twice : Bool) (v : Int → Cpx) (before : List Int) (lo hi : Int) : List Int × Nat :=
  (List.range (hi - lo).toNat).foldl (fun r i =>
    let n := lo + i
    match s.cfrAt p twice n with
    | some A =>
      if cfrPeak A v n then
        if (r.1.filter (fun k => decide (n - 254 ≤ k))).length < 16 then (r.1 ++ [n], r.2) else (r.1, r.2 + 1)
      else r
    | none => r) (before, 0)

/-- The peaks that a pass cancels from index `lo` up to `hi`: counted on from the start of the grid symbol that holds `lo`. -/
def State.cfrPeaks (s : State) (p : Nat) (twice : Bool) (v : Int → Cpx) (lo hi : Int) : List Int :=
  let l := s.symbolAt (lo / 8)
  let before := ((l.bind (fun l => l.paths[p]?)).map (fun x => if twice then x.peaks2 else x.peaks1)).getD []
  let start := (l.map (fun l => 8 * (l.air : Int))).getD lo
  (s.cfrScan p twice v before start hi).1.filter (fun n => decide (lo ≤ n))

/-- One pass of crest-factor reduction of `v`. -/
def State.cfrPass (s : State) (p : Nat) (twice : Bool) (v : Int → Cpx) (k : Int) : Cpx :=
  match s.cfrAt p twice k with
  | none => v k
  | some _ =>
    let kernel := ((s.symbolAt (k / 8)).map (fun l => l.kernels.getD (((s.pathAt p (k / 8)).map PathSymbol.cfrKernel).getD 0) [])).getD []
    let pulses := (s.cfrPeaks p twice v (k - 127) (k + 128)).filterMap (fun n =>
      (s.cfrAt p twice n).map (fun A => cMul (cfrPulse A (v n)) (cpx (kernel.getD (k - n + 127).toNat 0))))
    (fitLoose 6 75 (cAdd (cScale (2 ^ 75) (v k)) (cScale (-1) (cSum pulses)))).1

/-- The first pass, and stage 7: the second pass runs on its output where CFR_ITER is 1. -/
def State.cfrOnce (s : State) (p : Nat) : Int → Cpx := s.cfrPass p false (fun n => (s.stage6 p n).1)
def State.stage7 (s : State) (p : Nat) (n : Int) : Cpx := (s.probe p n).getD (s.cfrPass p true (s.cfrOnce p) n)

/-- Stage 8: interpolation by 2; from here on at 1,966.08 MSps. -/
def State.stage8 (s : State) (p : Nat) (n : Int) : Cpx := (interpUp 8 (s.stage7 p) 1 n).1

/-- The gain output u (R280, R300). -/
def State.gainOut (s : State) (p : Nat) (n : Int) : Sample :=
  match s.pathAt p (n / 16) with
  | some x => if x.gain = 0 then (s.stage8 p n, 0) else fitLoose 2 60 (cScale (tenPow x.gain) (s.stage8 p n))
  | none => silence

/-- A gap of path `p` holds AIR_COUNT `t`. -/
def inGap (gs : List Gap) (p : Nat) (t : Int) : Bool := gs.any (fun g => g.path == p && decide ((g.lo : Int) ≤ t) && decide (t < g.hi))

/-- Stage 9: the pre-distortion output y; zero after a residue failure (R280 to R282). -/
def State.stage9 (s : State) (p : Nat) (n : Int) : Sample :=
  if inGap s.smp.holes p (n / 16) then silence
  else match s.pathAt p (n / 16) with
  | some x => if bitOf x.pdCfg.toNat 0 then predistort x.lut (fun k => (s.gainOut p k).1) n else ((s.gainOut p n).1, 0)
  | none => silence

/-- The mute gate holds path `p` at AIR_COUNT `t` (R246). -/
def State.gateAt (s : State) (p : Nat) (t : Int) : Bool :=
  ((s.symbolAt t).map (fun l => bitOf l.mute p)).getD true || inGap s.smp.mutes p t

/-- The stage-9 output after the mute gate, from which the canceller's references are formed (R307). -/
def State.gated (s : State) (p : Nat) (n : Int) : Cpx := if s.gateAt p (n / 16) then (0, 0) else (s.stage9 p n).1

/-- Stage 10: I/Q imbalance and LO leakage (R244). -/
def State.stage10 (s : State) (p : Nat) (n : Int) : Sample :=
  match s.pathAt p (n / 16) with
  | some x => iqCorrect x.txIq (fun k => (s.stage9 p k).1) n
  | none => silence

/-- A component stands at the largest or the smallest of the codes of `b` bits. -/
def atEnd (b : Nat) (c : Int) : Bool := c == 2 ^ (b - 1) - 1 || c == -2 ^ (b - 1)

/-- Stage 11: the 16-bit codes at path `p`'s DAC, and its saturations (R246, R247). -/
def State.dacCode (s : State) (p : Nat) (n : Int) : Sample :=
  let c := if s.gateAt p (n / 16) then (0, 0) else (s.stage10 p n).1
  (c, bit (atEnd 16 c.1) + bit (atEnd 16 c.2))

/-- No symbol carries anything for path `p`. -/
def State.txSilent (s : State) (p : Nat) : Bool :=
  s.smp.syms.all (fun y => y.paths.getD p [] == []) && s.cal.probes.all (fun r => !bitOf r.groups (p / 8))

/-- Nothing reaches path `p`'s DAC: no symbol, and no DC offset. -/
def State.dacSilent (s : State) (p : Nat) : Bool :=
  s.txSilent p && s.rf.log.all (fun l => ((l.paths[p]?).map (fun x => x.txIq.getD 8 0 == 0)).getD true)

/-! ### Uplink, stages 1 to 3 (R254, R255) -/

/-- Group `g`, or path `p` of it, delivers zero at stage 1 in a logged symbol (R254). -/
def SymbolLog.zero (l : SymbolLog) (p : Nat) : Bool :=
  bitOf l.unready (p / 8) || bitOf l.off (p / 8) || bitOf l.quiet p

/-- The I and Q codes of path `p`'s ADC at sample `n` of 1,966.08 MSps; 0 where none has been delivered. -/
def State.adcCode (s : State) (p : Nat) (n : Int) : Cpx :=
  match s.smp.rx.find? (fun r => decide (16 * (r.1 : Int) ≤ n)) with
  | some r =>
    let v := ((r.2.getD p []).getD (n - 16 * r.1).toNat 0).toNat
    (sext 14 v, sext 14 (v / 2 ^ 14))
  | none => (0, 0)

/-- Stage 1: a code c as 4 c / 32,768; the largest and the smallest code count as saturations. -/
def State.rx1 (s : State) (p : Nat) (n : Int) : Sample :=
  if ((s.symbolAt (n / 16)).map (fun l => l.zero p)).getD true then silence
  else
    let c := s.adcCode p n
    (cScale 4 c, bit (atEnd 14 c.1) + bit (atEnd 14 c.2))

/-- Stage 2: I/Q imbalance and DC. -/
def State.rx2 (s : State) (p : Nat) (n : Int) : Sample :=
  match s.pathAt p (n / 16) with
  | some x => iqCorrect x.rxIq (fun k => (s.rx1 p k).1) n
  | none => silence

/-- Stage 3: decimation by 2; its output is what RSSI measures (R256). -/
def State.rx3 (s : State) (p : Nat) (n : Int) : Sample := decimDown 16 (fun k => (s.rx2 p k).1) 1 n

/-! ### The canceller (R307 to R310) -/

/-- RATE, REF_DLY and NREF in force at AIR_COUNT `t`. -/
def State.sbRate (s : State) (t : Int) : Nat := ((s.symbolAt t).map (fun l => (l.plan.getD 0 0).toNat / 2 ^ 24 % 4)).getD 0
def State.refDelay (s : State) (t : Int) : Nat := ((s.symbolAt t).map (fun l => (l.plan.getD 0 0).toNat % 1024)).getD 0

/-- The coefficient block in force at AIR_COUNT `t`. -/
def State.sbSet (s : State) (t : Int) : List Byte := ((s.symbolAt t).map (fun l => l.sfd)).getD []

def refWeight (b : List Byte) (j p : Nat) : Cpx := cpx (BitVec.ofNat 32 (fieldAt b (64 + 256 * j + 4 * p) 4))
def tapWeight (b : List Byte) (p j t : Nat) : Cpx := cpx (BitVec.ofNat 32 (fieldAt b (2112 + 512 * p + 64 * j + 4 * t) 4))

/-- The weighted sum of reference `j` over the stage-9 outputs, shifted by −f_sb, at 1,966.08 MSps; in units of 2 ^ −90. -/
def State.refMix (s : State) (j : Nat) (n : Int) : Cpx :=
  let b := s.sbSet (n / 16)
  if b = [] then (0, 0)
  else
    let d : Int := s.refDelay (n / 16)
    let sum := cSum ((List.range 64).map (fun p => cMul (refWeight b j p) (s.gated p (n - d))))
    let w := 2 * s.ncoPhase 20 (n / 2) + (if n % 2 = 0 then 0 else toCode 33 (s.ncoFreq 20))
    cMul sum (cConj (ncoTurn 33 (w % 2 ^ 33)))

/-- Reference `j` at the subband rate of RATE `rate`. -/
def State.reference (s : State) (rate j : Nat) (m : Int) : Cpx := (fitLoose 8 (75 + 30 * (3 + rate)) (decimX 48 (s.refMix j) (3 + rate) m)).1

/-- The canceller's estimate for path `p` at the subband rate (R309). -/
def State.estimate (s : State) (rate p : Nat) (m : Int) : Cpx :=
  let b := s.sbSet (m * 2 ^ rate / 2)
  if b = [] then (0, 0)
  else (fit 13 (cSum ((List.range (fieldAt b 4 1 % 16)).flatMap (fun j =>
    (List.range 16).map (fun (t : Nat) => cMul (tapWeight b p j t) (s.reference rate j (m - (t : Int)))))))).1

/-- What stage 5 subtracts from path `p` at sample `n` with RATE `rate`: the estimate at 983.04 MSps, shifted by +f_sb; in units of
2 ^ −(75 + 29 (2 + rate)). -/
def State.leakage (s : State) (rate p : Nat) (n : Int) : Cpx :=
  cMul (interpX 56 (s.estimate rate p) (2 + rate) n) (ncoTurn 32 (s.ncoPhase 20 n))

/-- The canceller subtracts on path `p` at AIR_COUNT `t`: an SB symbol of its group, EN 1, no residue failure. -/
def State.subtracts (s : State) (p : Nat) (t : Int) : Bool :=
  match s.symbolAt t with
  | some l => bitOf l.sb (p / 8) && l.sfdOn && !inGap s.smp.stops p t
  | none => false

/-! ### Uplink, stages 5 and 6 (R258, R259) -/

def State.rx5 (s : State) (p : Nat) (n : Int) : Sample :=
  if s.subtracts p (n / 8) then
    let rate := s.sbRate (n / 8)
    let k := 60 + 29 * (2 + rate)
    fitLoose 8 k (cAdd (cScale (2 ^ k) (s.rx3 p n).1) (cScale (-1) (s.leakage rate p n)))
  else ((s.rx3 p n).1, 0)

def State.rx6 (s : State) (p : Nat) (n : Int) : Sample :=
  match s.pathAt p (n / 8) with
  | some x => delayBy x.rxDelay (fun k => (s.rx5 p k).1) n
  | none => silence

/-- Nothing reaches path `p`'s canceller: every delivered code is 0, and no DC offset is added to it. -/
def State.adcSilent (s : State) (p : Nat) : Bool :=
  s.smp.rx.all (fun r => (r.2.getD p []).all (· == 0)) &&
    s.rf.log.all (fun l => ((l.paths[p]?).map (fun x => x.rxIq.getD 8 0 == 0)).getD true)

/-- No path sends anything, so that every reference is zero. -/
def State.refSilent (s : State) : Bool := (List.range 64).all s.txSilent

/-- Nothing reaches the stages of path `p` after the canceller. -/
def State.rxSilent (s : State) (p : Nat) : Bool :=
  s.adcSilent p && (s.refSilent || s.rf.log.all (fun l => !bitOf l.sb (p / 8) || !l.sfdOn))

/-- Saturations at stage 1, and at stages 2 to 6, of path `p` from AIR_COUNT `a` up to `b` (R251). -/
def State.adcSats (s : State) (p a b : Nat) : Nat := if s.rxSilent p then 0 else satCount (s.rx1 p) (16 * a) (16 * b)
def State.frontSats (s : State) (p a b : Nat) : Nat :=
  if s.rxSilent p then 0
  else satCount (s.rx2 p) (16 * a) (16 * b) + satCount (s.rx3 p) (8 * a) (8 * b) + satCount (s.rx5 p) (8 * a) (8 * b) +
    satCount (s.rx6 p) (8 * a) (8 * b)

/-! ### Uplink, stages 7 and 8 (R260 to R263) -/

/-- NCO `k` moves its frequency to 0 Hz; nothing passes the carrier's changed commits when `span` is given (R224, R260, R262). Units of
2 ^ −75. -/
def State.mixDown (s : State) (k p : Nat) (span : Option (Int × Int)) (n : Int) : Cpx :=
  if (span.map (fun t => decide (n < 8 * t.1) || decide (8 * t.2 ≤ n))).getD false then (0, 0)
  else cMul (s.rx6 p n).1 (cConj (ncoTurn 32 (s.ncoPhase k n)))

/-- The programmable channel filter: 96 symmetric taps, decimating by 2 (R261); in units 2 ^ −17 of those of `x`. -/
def fir96 (h : List Word) (x : Int → Cpx) (m : Int) : Cpx :=
  cSum ((List.range 96).map (fun (i : Nat) => cScale (sext 18 (h.getD (min i (95 - i)) 0).toNat) (x (2 * m + 48 - (i : Int)))))

/-- The coefficients in bank `b` of uplink carrier `c`. -/
def State.firBank (s : State) (c b : Nat) : List Word := (List.range 48).map (fun i => s.rd (Reg.ULC_CARc_FIRb c b i))

/-- The channel filter of uplink carrier `c` at AIR_COUNT `t`: the coefficients of the programmable one, or none for the fixed one. -/
def State.firAt (s : State) (c : Nat) (t : Int) : Option (List Word) :=
  if histAt (SMap.get [] s.smp.users c) t (s.on (Fld.ULC_CARc_FIR_CTRL_USER c)) then
    some (histAt (SMap.get [] s.smp.taps c) t (s.firBank c (s.fld (Fld.ULC_CARc_FIR_CTRL_BANK c))))
  else none

/-- Stage 7: uplink carrier `c` of path `p` at the carrier rate, index `m`. -/
def State.rx7 (s : State) (c p step : Nat) (m : Int) : Sample :=
  let t := m * step / 8
  let x := s.mixDown (8 + c) p (some (s.spanOf (8 + c) t))
  let k := Nat.log2 step
  match s.firAt c t with
  | some h => fitLoose 8 (60 + 30 * (k - 1) + 17) (fir96 h (decimX 20 x (k - 1)) m)
  | none => fitLoose 8 (60 + 30 * k) (decimX 20 x k m)

/-- Saturations of stage 7 of carrier `c` for path `p` from AIR_COUNT `a` up to `b`. -/
def State.rx7Sats (s : State) (c p step a b : Nat) : Nat := satCount (s.rx7 c p step) (8 * a / step) (8 * b / step)

/-- Stage 8: Y[k] of path `p` in the symbol of carrier `c`, as `car` describes it, that starts at `air` (R263). -/
def State.rx8 (s : State) (c p : Nat) (car : Carrier) (air : Nat) (k : Nat) : Sample :=
  let cp := car.cp (air % 61440 == 0)
  let first : Int := 8 * air / car.step + cp - car.win
  let bin := ((k : Int) - 6 * car.nprb) % (car.n : Int)
  let ramp := turn (bin * car.win) car.n
  let comp := if car.phcomp then turn (compTurns (s.loWordAt p air) car.freq air cp car.step) (2 ^ 39) else (one60, 0)
  let rot := cMul ramp comp
  fftBin 4 car.fftGain car.n (fun n => (s.rx7 c p car.step (first + n)).1) bin (rot.1 / one60, rot.2 / one60)

/-- Saturations of stage 8 in a symbol. -/
def State.rx8Sats (s : State) (c p : Nat) (car : Carrier) (air : Nat) : Nat :=
  ((List.range (12 * car.nprb)).map (fun k => (s.rx8 c p car air k).2)).sum

/-! ### PRACH (R274, R275) -/

/-- log₂ of an engine's decimation, from NSIZE and SCS_RA of its CFG0. -/
def praLevels (cfg : Word) : Nat := 9 - getField 25 25 cfg - getField 27 26 cfg

/-- Sequence index `i` of repetition `rep` of path `p`: the window of engine `e` that starts at `start`, decimated and transformed. -/
def State.praBin (s : State) (e p : Nat) (cfg : Word) (start rep i : Nat) : Sample :=
  let np := 128 * 2 ^ getField 25 25 cfg
  let x := fun (n : Int) => s.mixDown (16 + e) p none (8 * start + n)
  let k := praLevels cfg
  fftBin 5 (getField 10 8 cfg) np (fun n => (fitLoose 8 (60 + 30 * k) (decimX 32 x k (rep * np + n : Nat))).1) (((i : Int) - 69) % np)
    (one60, 0)

/-! ### The subband monitor and capture (R314, R317) -/

/-- A signal of path `p` at 983.04 MSps, shifted by −f_sb and decimated to the subband rate. -/
def State.subband (s : State) (rate : Nat) (x : Int → Cpx) (m : Int) : Cpx :=
  let k := 2 + rate
  (fitLoose 8 (60 + 30 * k) (decimX 64 (fun n => cMul (x n) (cConj (ncoTurn 32 (s.ncoPhase 20 n)))) k m)).1

/-- The canceller input of path `p`, and the same band after subtraction. -/
def State.cancelIn (s : State) (rate p : Nat) : Int → Cpx := s.subband rate (fun n => (s.rx3 p n).1)
def State.cancelOut (s : State) (rate p : Nat) : Int → Cpx := s.subband rate (fun n => (s.rx5 p n).1)

/-- rnd(−40 × log₁₀(mean |x|²)) over the indices from `lo` up to `hi`, clamped to 0 to 511. -/
def levelOf (x : Int → Cpx) (lo hi : Int) : Nat :=
  let n := (hi - lo).toNat
  dbCode ((List.range n).map (fun (i : Nat) => cMag2 (x (lo + (i : Int))))).sum (n * 2 ^ 30)

end Sys2Proof.Machine
end

