-- ==== Sys2Proof/Machine/Front.lean ====
section
/-!
DEFINITION. Settings and measurements of the chains outside the commits: the carriers' attenuation (R242), the uplink channel filter's
banks (R261, R262) and RSSI (R256, R257).
-/

namespace Sys2Proof.Machine

/-! ### Attenuation (R242) -/

/-- The start of the next symbol of carrier `c` in force, in the grid numerology where it is not enabled. -/
def State.nextSymbol (s : State) (up : Bool) (c : Nat) : Nat :=
  let car := carrierIn (s.carriers up).inForce up c
  let m := if car.en then car.scs else s.time.scs
  airOf m (frameOf s.air) (symbolOf m s.air + 1)

/-- A write to DLC_CARc_GAIN takes effect at the carrier's next symbol boundary. -/
def State.gainWrite (s : State) (c : Nat) (d : Word) : State :=
  let old := s.fld (Fld.DLC_CARc_GAIN_ATTEN c)
  let s := s.plainWrite (Reg.DLC_CARc_GAIN c) d
  let h := histPush (SMap.get [] s.smp.attens c) old (s.nextSymbol false c) (s.fld (Fld.DLC_CARc_GAIN_ATTEN c))
  { s with smp := { s.smp with attens := SMap.set [] s.smp.attens c h } }

/-! ### Uplink channel filter (R261, R262) -/

/-- A write to ULC_CARc_FIR_CTRL: a SWAP while SWAP is 1 sets OVERRUN and is ignored whole; USER acts from the next symbol on. -/
def State.firCtrlWrite (s : State) (c : Nat) (d : Word) : State :=
  if (Fld.ULC_CARc_FIR_CTRL_SWAP c).of d = 1 ∧ s.on (Fld.ULC_CARc_FIR_CTRL_SWAP c) then s.setFld Fld.ULC_STATUS_OVERRUN 1
  else
    let old := s.on (Fld.ULC_CARc_FIR_CTRL_USER c)
    let s := s.plainWrite (Reg.ULC_CARc_FIR_CTRL c) d
    let new := s.on (Fld.ULC_CARc_FIR_CTRL_USER c)
    if new = old then s
    else { s with smp := { s.smp with users := SMap.set [] s.smp.users c (histPush (SMap.get [] s.smp.users c) old (s.nextSymbol true c) new) } }

/-- SWAP_AT has come: AIR_COUNT[31:0] is not behind it in serial arithmetic (R262). -/
def State.firDue (s : State) (c : Nat) : Bool :=
  !s.on (Fld.ULC_CARc_FIR_CTRL_AT_EN c) || !aheadOf 32 (s.fld (Fld.ULC_CARc_FIR_SWAP_AT_ATIME c)) (s.air % 2 ^ 32)

/-- FIR_BANK_SWAP: the output sample at which the requested bank comes into force; the delay line is kept. -/
def execFirBankSwap (c : Fin 8) (s : State) : Out :=
  .next (if s.on (Fld.ULC_CARc_FIR_CTRL_SWAP c.val) ∧ s.firDue c.val then
    let b := s.fld (Fld.ULC_CARc_FIR_CTRL_BANK c.val)
    let h := histPush (SMap.get [] s.smp.taps c.val) (s.firBank c.val b) s.air (s.firBank c.val (1 - b))
    let s : State := { s with smp := { s.smp with taps := SMap.set [] s.smp.taps c.val h } }
    (s.setFld (Fld.ULC_CARc_FIR_CTRL_BANK c.val) (1 - b)).setFld (Fld.ULC_CARc_FIR_CTRL_SWAP c.val) 0
  else s)

/-- A write to a word of ULC_CARc_FIRb, ignored in the bank in force (R262). -/
def State.firWrite (s : State) (a : Nat) (d : Word) : State :=
  let c := (a - 0x144000) / 0x200
  if a / 0x100 % 2 = s.fld (Fld.ULC_CARc_FIR_CTRL_BANK c) then s else s.plainWrite a d

/-! ### RSSI (R256, R257) -/

/-- A window of path `p` begins. -/
def State.rssiStart (s : State) (p : Nat) : State := { s with rssi := SMap.set 0 s.rssi p s.air }

/-- The states HIGH and LOW at a window close (R257). -/
def State.rssiStates (s : State) (p : Nat) : State :=
  let level := s.fld (Fld.ULC_PATHp_RSSI_LEVEL p)
  let hyst := s.fld (Fld.ULC_PATHp_RSSI_THR_HYST p)
  let upper := s.fld (Fld.ULC_PATHp_RSSI_THR_UPPER p)
  let lower := s.fld (Fld.ULC_PATHp_RSSI_THR_LOWER p)
  let info := p + 65536 * level
  let s :=
    if s.on (Fld.ULC_PATHp_RSSI_HIGH p) then
      if upper + hyst < level then s.setFld (Fld.ULC_PATHp_RSSI_HIGH p) 0 else s
    else if level ≤ upper then (s.setFld (Fld.ULC_PATHp_RSSI_HIGH p) 1).event 0x6C info else s
  if s.on (Fld.ULC_PATHp_RSSI_LOW p) then
    if level + hyst < lower then s.setFld (Fld.ULC_PATHp_RSSI_LOW p) 0 else s
  else if lower ≤ level then (s.setFld (Fld.ULC_PATHp_RSSI_LOW p) 1).event 0x6D info else s

/-- Sample `n` of 983.04 MSps of path `p` is counted: its symbol is known, and with GATE 1 it is U or SB for the path's group. -/
def State.rssiCounts (s : State) (p : Nat) (n : Int) : Bool :=
  match s.symbolAt (n / 8) with
  | some l => !s.on (Fld.ULC_PATHp_RSSI_CFG_GATE p) || bitOf l.rx (p / 8)
  | none => false

/-- The samples that the window in progress of path `p` has counted so far, at most its 2^WIN_LOG2. -/
def State.rssiWindow (s : State) (p : Nat) : List Int :=
  let a := SMap.get 0 s.rssi p
  (((List.range (8 * (s.air - a))).map (fun (i : Nat) => 8 * (a : Int) + i)).filter (s.rssiCounts p)).take
    (2 ^ s.fld (Fld.ULC_PATHp_RSSI_CFG_WIN_LOG2 p))

/-- E of a window (R256). -/
def State.rssiEnergy (s : State) (p : Nat) (ns : List Int) : Nat := (ns.map (fun n => energyOf (s.rx3 p n).1)).sum % 2 ^ 48

/-- RSSI_WINDOW_CLOSE: the window of path `p` has counted its samples; the next begins with the sample after them (R256). -/
def execRssiWindowClose (path : Fin 64) (s : State) : Out :=
  let p := path.val
  let ns := s.rssiWindow p
  let w := s.fld (Fld.ULC_PATHp_RSSI_CFG_WIN_LOG2 p)
  .next (if s.on (Fld.ULC_PATHp_RSSI_CFG_EN p) ∧ s.time.everLocked ∧ s.domOn pdLin ∧ ns.length = 2 ^ w then
    let e := if s.rxSilent p then 0 else s.rssiEnergy p ns
    let s := (s.wr (Reg.ULC_PATHp_ENERGY_LO p) (BitVec.ofNat 32 e)).setFld (Fld.ULC_PATHp_ENERGY_HI_E p) (e / 2 ^ 32)
    let s := s.setFld (Fld.ULC_PATHp_RSSI_LEVEL p) (dbCode e (2 ^ (26 + w)))
    let s := (s.countWrap (Fld.ULC_PATHp_RSSI_SEQ p) 1).rssiStates p
    { s with rssi := SMap.set 0 s.rssi p (((ns.getLastD 0) + 1) / 8).toNat }
  else s)

/-- A write to ULC_PATHp_RSSI_CFG: the window in progress is discarded; EN 0 leaves both states (R256, R257). -/
def State.rssiCfgWrite (s : State) (p : Nat) (d : Word) : State :=
  let s := (s.plainWrite (Reg.ULC_PATHp_RSSI_CFG p) d).rssiStart p
  if s.on (Fld.ULC_PATHp_RSSI_CFG_EN p) then s
  else (s.setFld (Fld.ULC_PATHp_RSSI_HIGH p) 0).setFld (Fld.ULC_PATHp_RSSI_LOW p) 0

end Sys2Proof.Machine
end

