-- ==== Sys2Proof/Machine/Sections.lean ====
section
/-!
DEFINITION. SEC, DLD and WGT packets from their arrival to the fetch of their symbol (R198, R199, R207 to R212, R224, R232).
-/

namespace Sys2Proof.Machine

/-- Packet `p` of queue `n` is held for air time `air`. -/
def State.hold (s : State) (n : Nat) (p : List Byte) (air : Nat) : State :=
  let s := s.putPacket n (bytesAt p 0 (16 + pktLen p)) air s.sect.serial reqLinkIn []
  { s with sect := { s.sect with serial := s.sect.serial + 1 } }

/-- The air time that an ATAG names in numerology `m`; none where the numerology has no such slot or symbol (R198). -/
def State.atagAir (s : State) (m : Nat) (p : List Byte) : Option Int :=
  if slotsPerFrame m ≤ pktSlot p ∨ 13 < pktSymbol p then none
  else some (resolveAir m (pktSfn p) (pktSlot p) (pktSymbol p) s.air)

/-- The numerology and air time of a packet for carrier `c` (R189, R224): the carrier as it stands at that air time, in the
first direction of `ups` in which it is enabled; else the grid numerology. -/
def State.locate (s : State) (ups : List Bool) (c : Nat) (p : List Byte) : Nat × Option Int :=
  (ups.findSome? (fun up =>
    let cs := s.carriers up
    let new := carrierIn cs.next up c
    let old := carrierIn cs.inForce up c
    match (if new.en then s.atagAir new.scs p else none) with
    | some a =>
      if (cs.boundary : Int) ≤ a then some (new.scs, some a)
      else if old.en then some (old.scs, s.atagAir old.scs p) else none
    | none => if old.en then some (old.scs, s.atagAir old.scs p) else none)).getD
    (s.time.scs, s.atagAir s.time.scs p)

/-- A section is dropped under R208: counted `n` times, event 0x55. -/
def State.secInvalid (s : State) (reason carrier id n : Nat) : State :=
  (s.count Fld.ATM_SECT_DROP_INVALID n).event 0x55 (reason + 16 * carrier + 65536 * id)

/-- A DLD is discarded (R229). -/
def State.dldDiscard (s : State) (reason carrier sub : Nat) : State :=
  (s.count (if reason = 1 then Fld.DLC_DLD_DISC_ORPHAN else Fld.DLC_DLD_DISC_MISMATCH) 1).event 0x61
    (reason + 16 * carrier + 65536 * sub)

/-- A packet whose ATAG names no symbol, before or after the first lock (R195, R199). -/
def State.arrive (s : State) (n : Nat) (p : List Byte) (a : Option Int) (named : State → Nat → State)
    (unnamed : State → State) : State :=
  let c := creditsOf (pktLen p)
  match a with
  | some a =>
    let r := s.checkArrival n c a
    if r.2 then named r.1 a.toNat else r.1
  | none => if s.time.everLocked then unnamed (s.grant n c) else (s.checkArrival n c 0).1

/-- DLD_RECEIVE: a DLD is held for the fetch of its symbol (R199, R229). -/
def execDldReceive (bundle : Fin 2) (afterControl cut : Bool) (bytes : List Byte) (s : State) : Out :=
  let p := typed tyDld bytes
  .next (s.onAccept bundle.val afterControl cut p (fun s =>
    let n := pktQueue p
    s.arrive n p (s.locate [false] n p).2 (fun s a => s.hold n p a) (fun s => s.dldDiscard 1 n (pktSub p))))

/-! ### SEC (R207, R208) -/

/-- Mantissa codes that are not reserved (R207). -/
def mantCodes : List Nat := [0, 7, 8, 9, 10, 12, 14, 16]

/-- Section `i` of a SEC payload before its symbol is known. -/
def readSection (b : List Byte) (i carrier serial : Nat) (cfg : Carrier) : HeldSec :=
  let f := fun k n => fieldAt b (4 + 16 * i + k) n
  let first := f 2 2 % 512
  let num := f 4 2 % 512
  ⟨bitOf (f 0 2) 11, carrier, 0, f 0 2 % 2048, first, if num = 0 then cfg.nprb - first else num, f 6 1 % 32, f 7 1 % 32,
    f 8 2 % 8192, f 8 2 / 8192 % 4, f 10 2, serial⟩

/-- A reserved bit or code of section `i`. -/
def sectionReserved (b : List Byte) (i : Nat) : Bool :=
  let f := fun k n => fieldAt b (4 + 16 * i + k) n
  f 0 2 / 4096 != 0 || f 2 2 / 512 != 0 || f 4 2 / 512 != 0 || f 6 1 / 32 != 0 || f 7 1 / 32 != 0 || bitOf (f 8 2) 15 ||
    f 12 4 != 0 || !mantCodes.contains (f 7 1 % 32) || decide (1000 < (sext 16 (f 10 2)).natAbs)

/-- R208, reasons 2 and 3, for section `i` as read into `h`; LAYER is not used in antenna mode (R268). -/
def State.sectionReason (s : State) (b : List Byte) (i : Nat) (h : HeldSec) (cfg : Carrier) : Nat :=
  let nprb := if cfg.en then cfg.nprb else 0
  let ant := h.bsrc == 2
  if nprb ≤ h.first ∨ nprb < h.first + h.count ∨ (!ant ∧ (if cfg.en then cfg.layers else 0) ≤ h.layer) then 2
  else if sectionReserved b i || h.bsrc == 3 || (h.bsrc == 0 && decide (s.fld Fld.BMB_CFG_COUNT ≤ h.beam)) ||
      (h.bsrc == 1 && decide (1023 < h.beam)) ||
      (ant && (!h.up || s.fld Fld.QUE_STATUS_LEVEL == 2 || decide (256 ≤ h.beam))) then 3
  else 0

/-- R208, reasons 4 to 6, for `h` at its symbol. -/
def State.heldReason (s : State) (h : HeldSec) : Nat :=
  let same := s.sect.held.filter (fun t => t.up == h.up && t.air == h.air)
  let here := same.filter (fun t => t.carrier == h.carrier)
  if here.any (fun t => t.id == h.id) then 4
  else if h.bsrc != 2 && here.any (fun t => t.bsrc != 2 && t.layer == h.layer &&
      decide (t.first < h.first + h.count) && decide (h.first < t.first + t.count)) then 5
  else if 4096 ≤ same.length then 6
  else 0

/-- One symbol of a section is held or dropped. -/
def State.holdSection (s : State) (h : HeldSec) : State :=
  let r := s.heldReason h
  if r = 0 then { s with sect := { s.sect with held := s.sect.held ++ [h] } } else s.secInvalid r h.carrier h.id 1

/-- The sections of a SEC whose head is good, for the symbols at `airs`. -/
def State.holdSections (s : State) (b : List Byte) (carrier count serial : Nat) (airs : List Nat) : State :=
  (List.range count).foldl (fun s i =>
    let up := bitOf (fieldAt b (4 + 16 * i) 2) 11
    let cfg := s.carrierAt up carrier (airs.headD 0)
    let h := readSection b i carrier serial cfg
    let r := s.sectionReason b i h cfg
    if r = 0 then airs.foldl (fun s a => s.holdSection { h with air := a }) s else s.secInvalid r carrier h.id 1) s

/-- A SEC whose first symbol is at `a` in numerology `m` (R207, R208). A SEC without sections, or dropped whole, is consumed
at once. -/
def State.takeSec (s : State) (p : List Byte) (m a : Nat) : State :=
  let b := pktPayload p
  let len := pktLen p
  let nsym := max 1 (fieldAt b 0 1 % 16)
  let count := fieldAt b 2 2
  let c := creditsOf len
  if len ≠ 4 + 16 * count ∨ 13 < pktSymbol p + nsym - 1 ∨ fieldAt b 0 1 / 16 ≠ 0 ∨ fieldAt b 1 1 ≠ 0 then
    (s.secInvalid 1 (pktCarrier p) 0 (max 1 (min count ((len - 4) / 16)))).grant 8 c
  else if count = 0 then s.grant 8 c
  else
    let k := symbolOf m a
    let airs := (List.range nsym).map (fun j => airOf m (frameOf a) (k + j))
    let serial := s.sect.serial
    let s := s.hold 8 p (airs.getLastD a)
    s.holdSections b (pktCarrier p) count serial airs

/-- SEC_RECEIVE: a SEC's sections are checked and held (R199, R208). -/
def execSecReceive (bundle : Fin 2) (afterControl cut : Bool) (bytes : List Byte) (s : State) : Out :=
  let p := typed tySec bytes
  .next (s.onAccept bundle.val afterControl cut p (fun s =>
    let c := pktCarrier p
    let l := s.locate [false, true] c p
    let b := pktPayload p
    s.arrive 8 p l.2 (fun s a => s.takeSec p l.1 a) (fun s =>
      s.secInvalid 1 c 0 (max 1 (min (fieldAt b 2 2) ((pktLen p - 4) / 16))))))

/-! ### WGT (R212) -/

/-- A WGT breaks LEN or holds an INDEX above 1,023. -/
def wgtBad (b : List Byte) (len : Nat) : Bool :=
  let count := fieldAt b 0 1
  len != 4 + 260 * count || (List.range count).any (fun i => decide (1023 < recordIndex (weightRecord (b.drop 4) i)))

/-- WGT_RECEIVE: a WGT fills the dynamic-weight window of its grid slot. -/
def execWgtReceive (bundle : Fin 2) (afterControl cut : Bool) (bytes : List Byte) (s : State) : Out :=
  let p := typed tyWgt bytes
  .next (s.onAccept bundle.val afterControl cut p (fun s =>
    let m := s.time.scs
    let a := if slotsPerFrame m ≤ pktSlot p then none else some (resolveAir m (pktSfn p) (pktSlot p) 0 s.air)
    s.arrive 9 p a
      (fun s a =>
        if wgtBad (pktPayload p) (pktLen p) then (s.secInvalid 1 0 0 1).grant 9 (creditsOf (pktLen p)) else s.hold 9 p a)
      (fun s => s.secInvalid 1 0 0 1)))

/-- Record `i` of a WGT as its store holds it. -/
def State.wgtRecord (s : State) (p : StoredPkt) (i : Nat) : List Byte := weightRecord ((pktPayload (s.pktNow p)).drop 4) i

/-- The dynamic entry `k` of the grid slot that contains air time `a`: the last record with that INDEX, by its WGT and its place there. -/
def State.dynamicPlace (s : State) (k a : Nat) : Option (StoredPkt × Nat) :=
  let m := s.time.scs
  let slot := airOf m (frameOf a) (symbolOf m a / 14 * 14)
  ((s.queue 9).pkts.reverse.filter (fun p => p.air == slot)).findSome? (fun p =>
    ((List.range ((pktLen p.bytes - 4) / 260)).reverse.find? (fun i => recordIndex (s.wgtRecord p i) == k)).map (fun i => (p, i)))

def State.dynamicRecord (s : State) (k a : Nat) : Option (List Byte) := (s.dynamicPlace k a).map (fun x => s.wgtRecord x.1 x.2)

/-- The WGTs whose grid slot has ended by air time `a` return their credits (R212). -/
def State.endWgtSlots (s : State) (a : Nat) : State :=
  let m := s.time.scs
  s.consumeIf 9 (fun p => decide (slotBoundaryFrom m (p.air + 1) ≤ a))

/-! ### Release and discard -/

/-- The SECs whose last symbol is not after `a` and to which no held section refers are consumed (R232, R265). -/
def State.releaseSecs (s : State) (c a : Nat) : State :=
  s.consumeIf 8 (fun p => pktCarrier p.bytes == c && decide (p.air ≤ a) && !s.sect.held.any (fun h => h.serial == p.serial))

/-- The sections that satisfy `c` are held no longer. -/
def State.dropHeld (s : State) (c : HeldSec → Bool) : State :=
  { s with sect := { s.sect with held := s.sect.held.filter (fun h => !c h) } }

/-- R194: at a decided step, packets and sections held by their ATAG are discarded, and their credits return. -/
def State.dropScheduled (s : State) : State :=
  (List.range 10).foldl (fun s n => s.consumeIf n (fun _ => true)) (s.dropHeld (fun _ => true))

/-- TIME_STEP_APPLY: the frame boundary at which a decided step is applied (R194). -/
def execTimeStepApply (s : State) : Out :=
  .next (match s.time.step with
  | some d =>
    let s := (s.loadAir d).dropScheduled
    let mute := (List.range 64).map (fun p => Gap.mk p s.air (s.air + frameTicks))
    let s := { s with smp := { s.smp with syms := [], mutes := mute ++ s.smp.mutes } }
    let s := { s with time := { s.time with step := none, muteEnd := s.air + frameTicks } }
    let s := (s.count Fld.ATM_SYNC_STATUS_STEPS 1).setFld Fld.ATM_SYNC_STATUS_STEP_PENDING 0
    (s.setFld Fld.ATM_CTRL_SET 0).event 0x52 (toCode 32 d)
  | none => s)

/-- The state of a changed carrier before a commit's boundary goes no further: its filters are flushed there, and its NCO carries on from
its phase with another FREQ (R224, R241, R260, R262). -/
def State.flushCarrier (s : State) (up : Bool) (c : Nat) : State :=
  let k := if up then 8 + c else c
  let bs := (SMap.get [] s.smp.flush k).filter (fun b => decide (s.air ≤ b + 262144))
  let s := s.keepNco k
  { s with smp := { s.smp with flush := SMap.set [] s.smp.flush k ((s.carriers up).boundary :: bs) } }

/-- A commit comes into force (R224, R252): what was held at the COMMIT write for symbols at or after the boundary is discarded, uplink
sections without their SEC; changed carriers are flushed. -/
def State.copyInForce (s : State) (up : Bool) : State :=
  let cs := s.carriers up
  let changed := fun c => (cs.inForce.drop (3 * c)).take 3 != (cs.next.drop (3 * c)).take 3
  let s := s.forEach 8 (fun s c => s.iff (changed c) (fun s => s.flushCarrier up c))
  let s := s.setCarriers up { s.carriers up with inForce := cs.next, next := [] }
  let s := ((s.setFld (fCommitPending up) 0).setFld (fCommit up) 0).setFld (fCfgValid up) 1
  let hit := fun h : HeldSec => h.up == up && decide (cs.boundary ≤ h.air) && decide (h.serial < cs.before)
  let gone := s.sect.held.filter hit
  if up then
    let s := (s.count Fld.ULC_DROPB_CONFIG gone.length).dropHeld hit
    s.consumeIf 8 (fun p => gone.any (fun h => h.serial == p.serial) && !s.sect.held.any (fun h => h.serial == p.serial))
  else
    let old := fun p : StoredPkt => decide (cs.boundary ≤ p.air) && decide (p.serial < cs.before)
    let secs := ((s.queue 8).pkts.filter (fun p => gone.any (fun h => h.serial == p.serial))).length
    let s := (s.count Fld.DLC_DROPB_CONFIG secs).dropHeld hit
    let s := s.consumeIf 8 (fun p =>
      gone.any (fun h => h.serial == p.serial) && !s.sect.held.any (fun h => h.serial == p.serial))
    (List.range 8).foldl (fun s n =>
      let k := ((s.queue n).pkts.filter old).length
      (s.count Fld.DLC_DROPB_CONFIG k).consumeIf n old) s

end Sys2Proof.Machine
end

