-- ==== Sys2Proof/Machine/Rf.lean ====
section
/-!
DEFINITION. LO synthesisers and the channel table (R325 to R333), bands and LOs in use (R321, R332), the root synthesiser's lock
(R326) and the RFFE masters (R340, R341).
-/

namespace Sys2Proof.Machine

/-- An event that is raised once per source in each frame (R248, R251, R281, R298, R317, R336). -/
def State.eventOnce (s : State) (code source info : Nat) : State :=
  let k := 65536 * code + source
  if SMap.get 0 s.seen k = frameOf s.air + 1 then s
  else { s with seen := SMap.set 0 s.seen k (frameOf s.air + 1) }.event code info

/-- The converter calibration of group `g` runs: the group counts as off (R353). -/
def State.calibrating (s : State) (g : Nat) : Bool :=
  match s.cal.lop1 with
  | some u => u.units.head? == some g
  | none => false

/-- Group `g` is fitted, its domain is on, and no converter calibration takes it away. -/
def State.groupOn (s : State) (g : Nat) : Bool :=
  s.domOn (pdPg g) && s.on (Fld.RFE_PGg_CFG_FITTED g) && !s.calibrating g

/-! ### Channel table (R327, R328) -/

/-- `n` bytes of entry `c` of the channel table from byte `k`. -/
def State.chanBytes (s : State) (c k n : Nat) : List Byte :=
  (List.range n).map (fun i => BitVec.ofNat 8 (getField (8 * ((k + i) % 4) + 7) (8 * ((k + i) % 4))
    (s.rd (Reg.SYT_CHAN (64 * c + (k + i) / 4)))))

/-- A byte of entry `c` is written by the device. -/
def State.putChanByte (s : State) (c k : Nat) (b : Byte) : State :=
  s.setFld ⟨Reg.SYT_CHAN (64 * c + k / 4), 8 * (k % 4) + 7, 8 * (k % 4)⟩ b.toNat

/-- Bytes of entry `c` written by the device from byte `k`. -/
def State.putChanBytes (s : State) (c k : Nat) (bs : List Byte) : State :=
  bs.zipIdx.foldl (fun s b => s.putChanByte c (k + b.2) b.1) s

def entryN (e : List Byte) : Nat := fieldAt e 4 1
def entryK (e : List Byte) : Nat := fieldAt e 5 1 % 8
def entryBand (e : List Byte) : Nat := fieldAt e 5 1 / 8 % 2

/-- f_VCO of an entry in units of 1 Hz / 2 ^ 32. -/
def entryVco (e : List Byte) : Nat := 245760000 * (entryN e * 2 ^ 32 + fieldAt e 0 4)

/-- R327: an entry is usable. -/
def entryUsable (e : List Byte) : Bool :=
  let v := entryVco e
  let k := entryK e
  let within := fun lo hi => decide (lo * 2 ^ (k + 1) * 2 ^ 32 ≤ v) && decide (v ≤ hi * 2 ^ (k + 1) * 2 ^ 32)
  bitOf (fieldAt e 5 1) 7 && decide (56 ≤ entryN e) && decide (entryN e ≤ 124) &&
    decide (14000000000 * 2 ^ 32 ≤ v) && decide (v ≤ 30600000000 * 2 ^ 32) &&
    (if k = 0 then entryBand e == 1 && within 7000000000 15300000000
     else decide (k ≤ 4) && entryBand e == 0 && within 600000000 7200000000)

/-- f_LO of an entry in units of 1 Hz / 2 ^ 37, the same for every K. -/
def entryLo (e : List Byte) : Nat := entryVco e * 2 ^ (4 - entryK e)

/-- Channel `c`'s entry. -/
def State.chanEntry (s : State) (c : Nat) : List Byte := s.chanBytes c 0 6

/-! ### Synthesisers -/

def loOff : Nat := 0
def loRetune : Nat := 1
def loVcoCal : Nat := 2
def loLocked : Nat := 3
def loFail : Nat := 4

def State.synth (s : State) (g x : Nat) : Synth := SMap.get Synth.idle s.rf.synths (2 * g + x)

def State.setSynth (s : State) (g x : Nat) (y : Synth) : State :=
  { s with rf := { s.rf with synths := SMap.set Synth.idle s.rf.synths (2 * g + x) y } }

def State.loState (s : State) (g x : Nat) : Nat := s.fld (Fld.RFE_PGg_LOx_STATUS_STATE g x)

def State.loChan (s : State) (g x : Nat) : Nat := s.fld (Fld.RFE_PGg_LOx_STATUS_CHAN g x)

/-- The LO in use by group `g`. -/
def State.loInUse (s : State) (g : Nat) : Nat := s.fld (Fld.RFE_PGg_LOSEL_INUSE g)

/-- The LO in use of group `g` is ready (R334). -/
def State.loReady (s : State) (g : Nat) : Bool :=
  s.loState g (s.loInUse g) == loLocked && s.on Fld.CLK_STATUS_ROOT_LOCK

/-- INFO of events 0xA1 to 0xA3 (R342). -/
def loInfo (g x chan : Nat) : Nat := g + 16 * x + 65536 * chan

/-- The affected symbol's count and event (R334): `tx` muted, else zeroed. -/
def State.notReady (s : State) (g : Nat) (tx rx : Bool) : State :=
  let s := if tx then s.count (Fld.RFE_PGg_LONR_TX g) 1 else s
  let s := if rx then s.count (Fld.RFE_PGg_LONR_RX g) 1 else s
  if (tx || rx) && !bitOf s.rf.affected g && !bitOf s.rf.muted g && !bitOf s.rf.zeroed g then
    s.event 0xA4 (g + 16 * s.loInUse g + 256 * bit tx + 512 * bit rx)
  else s

/-- A front-end control line takes a level. -/
def State.driveFec (s : State) (line : Nat) (level : Bool) : State :=
  { s with rf := { s.rf with fec := SMap.set 0 s.rf.fec line (bit level) } }

/-- The AIR_COUNT of an edge of path `p` at instant `t`: on the HK tick after it where the path's true-time delay puts it between two
ticks (R335). -/
def State.edgeAt (s : State) (p : Nat) (t : Int) : Nat := t.toNat + bit (bitOf s.rf.late p)

/-- FEC_TXON of the eight paths of group `g` is low to the end of the symbol; it rises again for the next one where that has it
high (R334, R335). -/
def State.holdTxLow (s : State) (g : Nat) : State :=
  let next := bitOf s.rf.ahead (3 * g)
  let rise := fun p => FecEdge.mk (s.edgeAt p ((s.rf.stop : Int) - s.fld (Fld.RFE_PGg_Pi_QT2_TX_LEAD g (p % 8)))) (4 * p) true
    (some s.rf.stop)
  let s := { s with rf := { s.rf with
    edges := s.rf.edges.filter (fun e => !(e.line % 4 == 0 && e.line / 32 == g)) ++
      (if next then (List.range 8).map (fun i => rise (8 * g + i)) else [])
    levels := setBitOf s.rf.levels (3 * g) next } }
  (List.range 8).foldl (fun s i => s.driveFec (4 * (8 * g + i)) false) s

/-- Group `g` goes silent in the middle of a symbol: its FEC lines are low, it sends nothing and receives nothing to the symbol's end
(R353, R425). -/
def State.groupSilent (s : State) (g : Nat) : State :=
  let log := match s.rf.log with
    | l :: ls => (if s.air < s.rf.stop then { l with off := setBitOf l.off g true } else l) :: ls
    | [] => []
  { s with
    smp := { s.smp with mutes := (List.range 8).map (fun i => Gap.mk (8 * g + i) s.air s.rf.stop) ++ s.smp.mutes }
    rf := { s.rf with
      fec := s.rf.fec.filter (fun e => e.1 / 32 != g), edges := s.rf.edges.filter (fun e => e.line / 32 != g)
      levels := s.rf.levels - s.rf.levels / 8 ^ g % 8 * 8 ^ g, log := log } }

/-- R334 between boundaries: a group whose LO in use ceases to be ready is muted and zeroed to the end of the symbol. -/
def State.checkReady (s : State) (g : Nat) : State :=
  let d := s.rf.dirs.getD g 2
  if s.loReady g || !s.groupOn g then s
  else
    let tx := (d == 0 || d == 3) && !bitOf s.rf.muted g
    let rx := (d == 1 || d == 3) && !bitOf s.rf.zeroed g
    let s := s.notReady g tx rx
    let s := if tx then s.holdTxLow g else s
    let log := match s.rf.log with
      | l :: ls => (if rx then { l with unready := setBitOf l.unready g true } else l) :: ls
      | [] => []
    let gaps := if tx then (List.range 8).map (fun i => Gap.mk (8 * g + i) s.air s.rf.stop) else []
    { s with
      rf := { s.rf with
        muted := if tx then setBitOf s.rf.muted g true else s.rf.muted
        zeroed := if rx then setBitOf s.rf.zeroed g true else s.rf.zeroed
        log := log }
      smp := { s.smp with mutes := gaps ++ s.smp.mutes } }

/-- A synthesiser enters a state; entry into LOCKED is timed, and the LO in use is watched (R334). -/
def State.setLo (s : State) (g x st : Nat) : State :=
  let s := s.setFld (Fld.RFE_PGg_LOx_STATUS_STATE g x) st
  let s := if st = loLocked then s.setSynth g x { s.synth g x with lockedAt := s.air } else s
  s.checkReady g

/-- The phase steps not yet applied are cancelled (R333). -/
def State.cancelPhase (s : State) (g x : Nat) : State :=
  let s := s.setSynth g x { s.synth g x with phaseLeft := 0 }
  (s.setFld (Fld.RFE_PGg_LOx_PHASE_BUSY g x) 0).setFld (Fld.RFE_PGg_LOx_PHASE_GO g x) 0

/-- The temperature of group `g`, the latest result of HKg, in 1/16 °C. -/
def State.groupTemp (s : State) (g : Nat) : Int := sext 24 (s.fld (Fld.HK_RESc_VALUE g))

/-- A retune of synthesiser `x` of group `g` to channel `c` starts, or is refused (R329 steps 1 to 4). -/
def State.retune (s : State) (g x c : Nat) : State :=
  let e := s.chanEntry c
  if !entryUsable e then s.event 0xA3 (loInfo g x c + 256)
  else if entryBand e ≠ s.fld (Fld.RFE_PGg_CFG_BAND g) then s.event 0xA3 (loInfo g x c + 512)
  else
    let r := s.chanBytes c (32 + 8 * (2 * g + x)) 8
    let drift := s.fld Fld.SYT_CFG_DRIFT
    let stored := bitOf (fieldAt r 4 1) 7 &&
      (drift == 0 || decide ((s.groupTemp g - sext 16 (fieldAt r 6 2)).natAbs ≤ 16 * drift))
    let s := s.cancelPhase g x
    let s := s.setSynth g x { s.synth g x with entry := e, record := r }
    (s.setFld (Fld.RFE_PGg_LOx_STATUS_CHAN g x) c).setLo g x (if stored then loRetune else loVcoCal)

/-- R330: a request for the channel that a LOCKED synthesiser holds does nothing. -/
def State.requestRetune (s : State) (g x c : Nat) : State :=
  if s.loState g x = loLocked ∧ s.loChan g x = c then s else s.retune g x c

/-- A synthesiser stops in state OFF. -/
def State.stopLo (s : State) (g x : Nat) : State := (s.cancelPhase g x).setLo g x loOff

/-- A write to RFE_PGg_LOx_CTRL (R330). -/
def State.loCtrlWrite (s : State) (g x : Nat) (d : Word) : State :=
  let go := (Fld.RFE_PGg_LOx_CTRL_GO g x).of d == 1
  if go && (s.synth g x).pretuned == some s.air then s.setFld (Fld.RFE_PGg_LOx_CTRL_OVERRUN g x) 1
  else
    let s := s.plainWrite (Reg.RFE_PGg_LOx_CTRL g x)
      ((Fld.RFE_PGg_LOx_CTRL_PWRDN g x).put 0 ((Fld.RFE_PGg_LOx_CTRL_GO g x).put 0 d))
    let s := if (Fld.RFE_PGg_LOx_CTRL_PWRDN g x).of d = 1 then s.stopLo g x else s
    if go then s.requestRetune g x (s.fld (Fld.RFE_PGg_LOx_CTRL_CHAN g x)) else s

/-- LO_FAST_LOCK: the stored codes have locked (R329 step 3). -/
def execLoFastLock (g : Fin 8) (x : Fin 2) (s : State) : Out :=
  .next (if s.loState g x = loRetune then s.setLo g x loLocked else s)

/-- LO_FAST_LOCK_TIMEOUT: no lock within LOCK_TO (R329 step 4). -/
def execLoFastLockTimeout (g : Fin 8) (x : Fin 2) (s : State) : Out :=
  .next (if s.loState g x = loRetune then s.setLo g x loVcoCal else s)

/-- The stored-calibration record that a VCO calibration writes (R328, R329): the codes are the synthesiser's own. -/
def calRecord (codes : BitVec 48) (temp : Int) : List Byte :=
  let c := codes.toNat
  leBytes 1 c ++ leBytes 1 (c / 2 ^ 8) ++ leBytes 1 (c / 2 ^ 16 % 64) ++ leBytes 1 (c / 2 ^ 24 % 32) ++
    leBytes 1 (c / 2 ^ 32 % 16 + 128) ++ leBytes 1 0 ++ leBytes 2 (toCode 16 temp)

/-- VCO_CAL_END: the calibration has locked; the record is written (R329 step 4). `codes` are CORE and SUBBAND, CAP, KVCO, ICP
and LOOP, a byte each. -/
def execVcoCalEnd (g : Fin 8) (x : Fin 2) (codes : BitVec 48) (s : State) : Out :=
  .next (if s.loState g x = loVcoCal then
    let c := s.loChan g x
    let r := calRecord codes (s.groupTemp g)
    let s := s.putChanBytes c (32 + 8 * (2 * g.val + x.val)) r
    let s := s.setSynth g x { s.synth g x with record := r }
    ((s.count (Fld.RFE_PGg_LOCNT_RECAL g) 1).event 0xA2 (loInfo g x c)).setLo g x loLocked
  else s)

/-- VCO_CAL_LOCK_TIMEOUT: no lock within LOCK_TO of the calibration's end (R329 step 5). -/
def execVcoCalLockTimeout (g : Fin 8) (x : Fin 2) (s : State) : Out :=
  .next (if s.loState g x = loVcoCal then
    ((s.count (Fld.RFE_PGg_LOCNT_FAIL g) 1).event 0xA1 (loInfo g x (s.loChan g x))).setLo g x loFail
  else s)

/-! ### Bands and LOs in use -/

/-- A write to RFE_PGg_LOSEL, which takes effect at the next grid symbol boundary (R332). -/
def State.loselWrite (s : State) (g : Nat) (d : Word) : State :=
  let s := s.plainWrite (Reg.RFE_PGg_LOSEL g) d
  { s with rf := { s.rf with selWaits := setBitOf s.rf.selWaits g true } }

/-- R321 at a grid symbol boundary: a group's ports change band, and both its LOs are in state OFF. -/
def State.applyBand (s : State) (g : Nat) : State :=
  let b := s.fld (Fld.RFE_PGg_CFG_BAND g)
  if bit (bitOf s.rf.band g) = b then s
  else
    let s := { s with rf := { s.rf with band := setBitOf s.rf.band g (b == 1) } }
    (s.stopLo g 0).stopLo g 1

/-! ### Phase steps (R333) -/

/-- A write to RFE_PGg_LOx_PHASE. -/
def State.loPhaseWrite (s : State) (g x : Nat) (d : Word) : State :=
  let go := (Fld.RFE_PGg_LOx_PHASE_GO g x).of d == 1
  if go && s.on (Fld.RFE_PGg_LOx_PHASE_BUSY g x) then s.setFld (Fld.RFE_PGg_LOx_PHASE_OVERRUN g x) 1
  else
    let s := s.plainWrite (Reg.RFE_PGg_LOx_PHASE g x) ((Fld.RFE_PGg_LOx_PHASE_GO g x).put 0 d)
    let step := sext 16 (s.fld (Fld.RFE_PGg_LOx_PHASE_STEP g x))
    if go && step != 0 then
      ((s.setSynth g x { s.synth g x with phaseLeft := step }).setFld (Fld.RFE_PGg_LOx_PHASE_BUSY g x) 1).setFld
        (Fld.RFE_PGg_LOx_PHASE_GO g x) 1
    else s

/-- LO_PHASE_PIECE: one piece of at most 4,096 units is applied to a LOCKED synthesiser. -/
def execLoPhasePiece (g : Fin 8) (x : Fin 2) (s : State) : Out :=
  .next (if s.loState g x = loLocked ∧ (s.synth g x).phaseLeft ≠ 0 then
    let left := (s.synth g x).phaseLeft
    let piece := max (-4096) (min 4096 left)
    let s := s.setFld (Fld.RFE_PGg_LOx_PHPOS_POS g x) (toCode 16 (s.fld (Fld.RFE_PGg_LOx_PHPOS_POS g x) + piece))
    if left = piece then s.cancelPhase g x else s.setSynth g x { s.synth g x with phaseLeft := left - piece }
  else s)

/-! ### Root synthesiser (R326) -/

/-- ROOT_LOCK_LOSS: every LO counts as not ready, and the link goes DOWN. -/
def execRootLockLoss (s : State) : Out :=
  .next (if s.on Fld.CLK_STATUS_ROOT_LOCK then
    let s := (s.setFld Fld.CLK_STATUS_ROOT_LOCK 0).setFld Fld.CLK_STATUS_ROOT_UNLOCKED 1
    let s := (s.count Fld.SYT_STATUS_ROOT_LOSS 1).event 0xA0 0
    let s := if s.linkIs lnkTest then s.endTest 5 else s.dropLink 5 0xFF true
    s.forEach 8 State.checkReady
  else s)

/-- ROOT_RELOCK: the group LOs that were LOCKED or RETUNE retune to their current channel. -/
def execRootRelock (s : State) : Out :=
  .next (if s.domOn pdSyn && s.on Fld.CLK_STATUS_FABRIC_ON_ROOT && !s.on Fld.CLK_STATUS_ROOT_LOCK then
    (s.setFld Fld.CLK_STATUS_ROOT_LOCK 1).forEach 16 (fun s k =>
      let g := k / 2
      let x := k % 2
      s.iff (s.domOn (pdPg g) && (s.loState g x == loLocked || s.loState g x == loRetune)) (fun s => s.retune g x (s.loChan g x)))
  else s)

/-! ### RFFE masters (R341) -/

def State.rffe (s : State) (g : Nat) : Option RffeRun := SMap.find s.rf.rffe g

def State.setRffe (s : State) (g : Nat) (r : Option RffeRun) : State :=
  { s with rf := { s.rf with rffe := match r with
    | some r => SMap.insert g r (SMap.erase s.rf.rffe g)
    | none => SMap.erase s.rf.rffe g } }

/-- The list has ended: BUSY, GO and ABORT clear. -/
def State.rffeEnd (s : State) (g : Nat) : State :=
  (((s.setRffe g none).setFld (Fld.RFE_PGg_RFFE_CTRL_BUSY g) 0).setFld (Fld.RFE_PGg_RFFE_CTRL_GO g) 0).setFld
    (Fld.RFE_PGg_RFFE_CTRL_ABORT g) 0

/-- Entry `j` comes up: an immediate one begins at once; a timed one whose ATIME is past is late and begins at once; a timed one
ahead waits. -/
def State.rffeNext (s : State) (g j count : Nat) : State :=
  if count ≤ j ∨ s.on (Fld.RFE_PGg_RFFE_CTRL_ABORT g) then s.rffeEnd g
  else
    let timed := s.on (Fld.RFE_PGg_RFFE_ENTj_W0_TIMED g j)
    let at_ := s.fld (Fld.RFE_PGg_RFFE_ENTj_W2_ATIME g j)
    let now := s.air % 2 ^ 32
    if timed && aheadOf 32 at_ now then s.setRffe g (some ⟨j, count, false⟩)
    else
      let s := s.setRffe g (some ⟨j, count, true⟩)
      if timed && at_ != now then (s.setFld (Fld.RFE_PGg_RFFE_ENTj_W3_LATE g j) 1).event 0xA7 (g + 256 * j) else s

/-- A write to RFE_PGg_RFFE_CTRL. -/
def State.rffeCtrlWrite (s : State) (g : Nat) (d : Word) : State :=
  let busy := s.on (Fld.RFE_PGg_RFFE_CTRL_BUSY g)
  let go := (Fld.RFE_PGg_RFFE_CTRL_GO g).of d == 1
  if busy && go then s.setFld (Fld.RFE_PGg_RFFE_CTRL_OVERRUN g) 1
  else if busy then
    if (Fld.RFE_PGg_RFFE_CTRL_ABORT g).of d = 1 then
      let s := s.setFld (Fld.RFE_PGg_RFFE_CTRL_ABORT g) 1
      match s.rffe g with
      | some r => if r.begun then s else s.rffeEnd g
      | none => s
    else s
  else
    let s := s.plainWrite (Reg.RFE_PGg_RFFE_CTRL g)
      ((Fld.RFE_PGg_RFFE_CTRL_ABORT g).put 0 ((Fld.RFE_PGg_RFFE_CTRL_GO g).put 0 d))
    if go then
      let s := s.forEach 16 (fun s j => s.wr (Reg.RFE_PGg_RFFE_ENTj_W3 g j) 0)
      let s := (s.setFld (Fld.RFE_PGg_RFFE_CTRL_GO g) 1).setFld (Fld.RFE_PGg_RFFE_CTRL_BUSY g) 1
      s.rffeNext g 0 (s.fld (Fld.RFE_PGg_RFFE_CTRL_COUNT g))
    else s

/-- RFFE_ENTRY_START: the timed entry that waits begins once its ATIME is not ahead (R341). -/
def execRffeEntryStart (g : Fin 8) (s : State) : Out :=
  .next (match s.rffe g.val with
  | some r => if r.begun then s else s.rffeNext g.val r.entry r.count
  | none => s)

/-- RFFE_ENTRY_END: the sequence ends; a read stores `data` and its parity verdict (R341). -/
def execRffeEntryEnd (g : Fin 8) (data : Word) (parity : Bool) (s : State) : Out :=
  .next (match s.rffe g.val with
  | some r =>
    if r.begun then
      let j := r.entry
      let read := s.on (Fld.RFE_PGg_RFFE_ENTj_W0_OP g j)
      let n := s.fld (Fld.RFE_PGg_RFFE_ENTj_W0_BC g j) + 1
      let s := if read then s.wr (Reg.RFE_PGg_RFFE_ENTj_W1 g j) (BitVec.ofNat 32 (data.toNat % 2 ^ (8 * n))) else s
      let s := if read && parity then (s.setFld (Fld.RFE_PGg_RFFE_ENTj_W3_PERR g j) 1).event 0xA6 (g.val + 256 * j) else s
      (s.setFld (Fld.RFE_PGg_RFFE_ENTj_W3_DONE g j) 1).rffeNext g (j + 1) r.count
    else s
  | none => s)

/-- A write to a word of RFE_PGg_RFFE_ENTj, ignored while the list runs. -/
def State.rffeEntWrite (s : State) (g a : Nat) (d : Word) : State :=
  if s.on (Fld.RFE_PGg_RFFE_CTRL_BUSY g) then s else s.plainWrite a d

end Sys2Proof.Machine
end

