-- ==== Sys2Proof/Machine/Sfd.lean ====
section
/-!
DEFINITION. Subband full duplex (spec/11): the plan (R305, R306, R308), coefficient sets and their transfers (R311 to R313),
captures (R314, R315), the monitor and its limits (R317, R318), training LOP3 (R316); and the commits of the carriers, which can
remove the plan.
-/

namespace Sys2Proof.Machine

/-- `n` bytes at `a` lie in the store window, and PD_CST is on. -/
def State.storeRange (s : State) (a n : Nat) : Bool := decide (storeBase ≤ a) && decide (a + n ≤ storeEnd) && s.domOn pdCst

/-! ### Plan -/

/-- A subband plan's fields (R305). -/
structure Plan where
  carrier : Nat
  rate : Nat
  array : Bool
  ulStart : Nat
  ulNum : Nat
  guardLo : Nat
  guardHi : Nat
deriving DecidableEq, Repr

def planOf (ws : List Word) : Plan :=
  let w := fun k => (ws.getD k 0).toNat
  ⟨w 0 / 2 ^ 28 % 8, w 0 / 2 ^ 24 % 4, bitOf (w 0) 20, w 1 % 512, w 1 / 65536 % 512, w 2 % 64, w 2 / 256 % 64⟩

/-- B_lo and B_hi, the canceller band. -/
def Plan.lo (p : Plan) : Int := (p.ulStart : Int) - p.guardLo
def Plan.hi (p : Plan) : Int := (p.ulStart : Int) + p.ulNum + p.guardHi - 1

/-- R305, conditions 0x1 and 0x2, against two carrier configurations. -/
def Plan.reason12 (p : Plan) (dl ul : Carrier) : Nat :=
  if !dl.en || !ul.en || dl.scs != ul.scs || dl.nsize != ul.nsize || dl.nprb != ul.nprb || dl.freq != ul.freq ||
      dl.pgMask != ul.pgMask then 1
  else if p.ulNum = 0 ∨ p.lo < 0 ∨ (dl.nprb : Int) - 1 < p.hi then 2
  else 0

/-- R305: the first condition that fails; R_sb is 245.76 MSps / 2^RATE. -/
def Plan.reason (p : Plan) (dl ul : Carrier) : Nat :=
  let r := p.reason12 dl ul
  if r ≠ 0 then r
  else if 8 * (245760000 / 2 ^ p.rate : Nat) < 120 * (p.hi - p.lo + 1) * (15000 * 2 ^ dl.scs : Nat) then 3
  else 0

/-- R308: the NCO word of f_sb. -/
def Plan.nco (p : Plan) (c : Carrier) : Int :=
  let k := 12 * p.lo + (12 * p.hi + 11) - 12 * c.nprb
  rndDiv (c.freq * 1966080000 + k * (15000 * 2 ^ c.scs * 2 ^ 32 : Nat)) 1966080000

/-- A plan is in force. -/
def State.planOn (s : State) : Bool := s.sfd.plan != []

/-- COMMIT of SFD_CTRL (R305). -/
def State.sfdCommit (s : State) : State :=
  let ws := [s.rd Reg.SFD_CFG0, s.rd Reg.SFD_CFG1, s.rd Reg.SFD_CFG2]
  let p := planOf ws
  let b := frameBoundaryFrom s.air s.tEarly
  let r := p.reason (s.carrierAt false p.carrier b) (s.carrierAt true p.carrier b)
  let s := s.setFld Fld.SFD_STATUS_CFG_ERR r
  if r ≠ 0 then (s.setFld Fld.SFD_CTRL_COMMIT 0).event 0x97 r
  else { (s.setFld Fld.SFD_STATUS_COMMIT_PENDING 1).setFld Fld.SFD_CTRL_COMMIT 1 with
    sfd := { s.sfd with next := ws, boundary := b } }

/-- Every SFD counter is cleared (R447). -/
def State.clearSfdCounters (s : State) : State :=
  let s := (s.setFld Fld.SFD_LOAD_STATUS_LOADS 0).setFld Fld.SFD_CAP_STATUS_CAPTURES 0
  let s := s.forEach 8 (fun s g => s.setFld (Fld.SFD_PGg_STATUS_LIMITS g) 0)
  s.forEach 64 (fun s p => s.wr (Reg.SFD_PATHp_COUNT p) 0)

/-- A write to SFD_CTRL. -/
def State.sfdCtrlWrite (s : State) (d : Word) : State :=
  let go := Fld.SFD_CTRL_COMMIT.of d == 1
  if go && s.on Fld.SFD_STATUS_COMMIT_PENDING then s.setFld Fld.SFD_STATUS_OVERRUN 1
  else
    let s := s.setFld Fld.SFD_CTRL_EN (Fld.SFD_CTRL_EN.of d)
    let s := if Fld.SFD_CTRL_CNT_CLR.of d = 1 then s.clearSfdCounters else s
    if go then s.sfdCommit else s

/-- SFD_COMMIT_IN_FORCE: the plan comes into force at its boundary. -/
def execSfdCommitInForce (s : State) : Out :=
  .next (if s.sfd.next ≠ [] then
    let p := planOf s.sfd.next
    let word := p.nco (s.carrierAt false p.carrier s.sfd.boundary)
    let s := s.keepNco 20
    let s : State := { s with sfd := { s.sfd with plan := s.sfd.next, next := [] } }
    let s := (s.setFld Fld.SFD_STATUS_COMMIT_PENDING 0).setFld Fld.SFD_CTRL_COMMIT 0
    (s.setFld Fld.SFD_STATUS_CFG_VALID 1).wr Reg.SFD_NCO (BitVec.ofInt 32 word)
  else s)

/-- A carrier commit that breaks condition 0x1 or 0x2 removes the plan in force (R305): judged once the commits of both directions for
that boundary are in force. -/
def State.recheckPlan (s : State) (up : Bool) : State :=
  let p := planOf s.sfd.plan
  let other := s.carriers (!up)
  if s.planOn && !(other.next != [] && decide (other.boundary ≤ (s.carriers up).boundary)) && p.reason12 (carrierIn s.dlc.inForce false p.carrier) (carrierIn s.ulc.inForce true p.carrier) != 0 then
    ({ s with sfd := { s.sfd with plan := [] } }.setFld Fld.SFD_STATUS_CFG_VALID 0).event 0x97 1
  else s

/-- DLC_COMMIT_IN_FORCE: the frame boundary of a downlink commit. -/
def execDlcCommitInForce (s : State) : Out :=
  .next (if s.dlc.next ≠ [] then (s.copyInForce false).recheckPlan false else s)

/-- ULC_COMMIT_IN_FORCE: the frame boundary of an uplink commit. -/
def execUlcCommitInForce (s : State) : Out :=
  .next (if s.ulc.next ≠ [] then (s.copyInForce true).recheckPlan true else s)

/-! ### Directions (R203, R306, R350) -/

def dirD : Nat := 0
def dirU : Nat := 1
def dirF : Nat := 2
def dirSb : Nat := 3

/-- The direction of the row in force for group `g` at AIR_COUNT `a`; F where there is none (R200, R202). -/
def State.rowDir (s : State) (g a : Nat) : Nat := ((s.rowAt g a).map (fun r => r.dir)).getD dirF

/-- SB symbols run as such (R306). -/
def State.sbRuns (s : State) (g : Nat) : Bool :=
  s.planOn && s.domOn pdSfd && !((planOf s.sfd.plan).array && !s.on Fld.ATM_ARRAY_STATUS_JOINT_OK) && !bitOf s.sfd.demoted g

/-- The forced calibration slot that holds AIR_COUNT `a`: 1 transmit, 2 receive (R350). -/
def State.forcedSlot (s : State) (a : Nat) : Nat :=
  ((s.cal.slots.find? (fun t => decide (t.1 ≤ a) && decide (a < slotBoundaryFrom s.time.scs (t.1 + 1)))).map (·.2)).getD 0

/-- The direction in which group `g` acts at AIR_COUNT `a`. -/
def State.actsAs (s : State) (g a : Nat) : Nat :=
  match s.forcedSlot a with
  | 1 => dirD
  | 2 => dirU
  | _ =>
    let d := s.rowDir g a
    if d = dirSb ∧ !s.sbRuns g then dirD else d

/-! ### Coefficient sets (R311 to R313) -/

/-- Bytes of a coefficient block. -/
def sfdBlockLen : Nat := 34880

/-- The contents of every set at a power-up of PD_SFD. -/
def defaultSet : List Byte :=
  leBytes 4 0x43444653 ++ leBytes 1 8 ++ List.replicate 59 0#8 ++
    (List.range 8).flatMap (fun j => (List.range 64).flatMap (fun p => leBytes 4 (if p / 8 = j then 0x1000 else 0))) ++
    List.replicate 32768 0#8

def State.sfdSet (s : State) (k : Nat) : List Byte :=
  match SMap.find s.sfd.sets k with
  | some b => b
  | none => defaultSet

/-- The physical set of class `c`, and the free set. -/
def State.classSet (s : State) (c : Nat) : Nat := s.fld (Fld.SFD_CLASSc_PSET c)

def State.freeSet (s : State) : Nat :=
  ((List.range 17).find? (fun k => (List.range 16).all (fun c => s.classSet c != k))).getD 16

/-- NREF of a block. -/
def blockNref (b : List Byte) : Nat := fieldAt b 4 1 % 16

/-- A block's MAGIC and NREF hold and no reserved bit is set (R312, R313). -/
def sfdBlockOk (b : List Byte) : Bool :=
  fieldAt b 0 4 == 0x43444653 && decide (1 ≤ fieldAt b 4 1) && decide (fieldAt b 4 1 ≤ 8) &&
    (bytesAt b 5 59).all (fun x => x == 0#8)

/-- A block with the entries of references it does not use at 0. -/
def trimBlock (b : List Byte) : List Byte :=
  let n := blockNref b
  bytesAt b 0 64 ++ (List.range 8).flatMap (fun j => if j < n then bytesAt b (64 + 256 * j) 256 else List.replicate 256 0#8) ++
    (List.range 64).flatMap (fun p => (List.range 8).flatMap (fun j =>
      if j < n then bytesAt b (2112 + 512 * p + 64 * j) 64 else List.replicate 64 0#8))

/-- A transfer ends in error (R313). -/
def State.sfdLoadError (s : State) (err cls : Nat) : State :=
  let s := (s.setFld Fld.SFD_LOAD_STATUS_ERR err).setFld Fld.SFD_LOAD_STATUS_STATE 0
  ({ s with sfd := { s.sfd with load := none } }.setFld Fld.SFD_LOAD_CTRL_GO 0).event 0x94 (err + 256 * cls)

/-- A LOP3 unit's record is written, and LOP3 goes on or ends (R316). -/
def State.lop3Unit (s : State) (result caps before after : Nat) : State :=
  match s.sfd.lop3 with
  | some u =>
    match u.units with
    | c :: cs =>
      let rec_ := leBytes 1 c ++ leBytes 1 result ++ leBytes 1 caps ++ leBytes 1 0 ++ leBytes 2 before ++ leBytes 2 after ++
        leBytes 4 s.air ++ leBytes 4 0
      let s := s.storePut (u.dest + 16 * u.done) rec_ reqFabric
      let s := s.setFld (Fld.LOP_STATn_UNITS_DONE 3) (u.done + 1)
      if cs = [] then
        let s : State := { s with sfd := { s.sfd with lop3 := none } }
        ((s.setFld Fld.SFD_LOP3_CTRL_GO 0).setFld Fld.SFD_LOP3_CTRL_ABORT 0).lopEnd 3 lopDone 0
      else { s with sfd := { s.sfd with lop3 := some ⟨cs, u.done + 1, u.dest⟩ } }
    | [] => s
  | none => s

/-- A GO from another requester than the firmware's core ends the current unit DISTURBED; what the record says of the depths then
is open (R316). -/
def State.disturbLop3 (s : State) (q : Requester) : State :=
  if s.sfd.lop3.isSome && q != .dean then
    let w := (Config.openWord s.fresh).toNat
    s.useFresh.lop3Unit 4 (w % 16) (w / 256 % 4096) (w / 2 ^ 20)
  else s

/-- A write to SFD_LOAD_CTRL (R313). -/
def State.sfdLoadWrite (s : State) (q : Requester) (d : Word) : State :=
  let go := Fld.SFD_LOAD_CTRL_GO.of d == 1
  if go && s.on Fld.SFD_LOAD_CTRL_GO then s.setFld Fld.SFD_LOAD_CTRL_OVERRUN 1
  else
    let s := s.plainWrite Reg.SFD_LOAD_CTRL (Fld.SFD_LOAD_CTRL_GO.put 0 d)
    if go then
      let s := s.disturbLop3 q
      let c := s.fld Fld.SFD_LOAD_CTRL_CLASS
      let a := s.fld Fld.SFD_LOAD_ADDR_ADDR
      let s := s.setFld Fld.SFD_LOAD_CTRL_GO 1
      if s.storeRange a sfdBlockLen then
        { (s.setFld Fld.SFD_LOAD_STATUS_STATE 1) with
          sfd := { s.sfd with load := some ⟨!s.on Fld.SFD_LOAD_CTRL_OP, c, a, none⟩ } }
      else s.sfdLoadError 1 c
    else s

/-- A transfer ends without error: event 0x93. -/
def State.sfdLoadDone (s : State) (cls op set : Nat) : State :=
  let s := (s.setFld Fld.SFD_LOAD_STATUS_ERR 0).setFld Fld.SFD_LOAD_STATUS_STATE 0
  ({ s with sfd := { s.sfd with load := none } }.setFld Fld.SFD_LOAD_CTRL_GO 0).event 0x93 (cls + 256 * op + 1024 * set)

/-- SFD_LOAD_COPY_END: a WRITE fills the free set and enters PENDING; a READ has copied the class's set into the store. -/
def execSfdLoadCopyEnd (s : State) : Out :=
  .next (match s.sfd.load with
  | some l =>
    if l.set.isSome then s
    else if l.write then
      if !s.storeRange l.addr sfdBlockLen then s.sfdLoadError 1 l.cls
      else
        let r := s.storeRead l.addr sfdBlockLen reqCapture
        let s := r.1
        if !r.2.2 then s.sfdLoadError 2 l.cls
        else if !sfdBlockOk r.2.1 then s.sfdLoadError 3 l.cls
        else
          let k := s.freeSet
          let s : State := { s with sfd := { s.sfd with
            sets := SMap.insert k (trimBlock r.2.1) (SMap.erase s.sfd.sets k), load := some { l with set := some k } } }
          s.setFld Fld.SFD_LOAD_STATUS_STATE 2
    else if !s.storeRange l.addr sfdBlockLen then s.sfdLoadError 1 l.cls
    else
      let k := s.classSet l.cls
      (s.storePut l.addr (s.sfdSet k) reqCapture).sfdLoadDone l.cls 1 k
  | none => s)

/-- A capture window in progress mixes classes, sets or directions (R314). -/
def State.mixSfd (s : State) : State :=
  match s.sfd.window with
  | some w =>
    if s.air < w.air + 2048 * 2 ^ w.rate then { s with sfd := { s.sfd with window := some { w with mixed := true } } } else s
  | none => s

/-! ### Capture (R314, R315) -/

/-- A capture ends. -/
def State.sfdCapEnd (s : State) (err cls : Nat) (mixed : Bool) : State :=
  let s := (s.setFld Fld.SFD_CAP_STATUS_ERR err).setFld Fld.SFD_CAP_STATUS_BUSY 0
  ({ s with sfd := { s.sfd with window := none } }.setFld Fld.SFD_CAP_CTRL_GO 0).event 0x95
    (err + 256 * cls + 4096 * bit mixed)

def sfdRecordLen : Nat := 1179712

/-- A write to SFD_CAP_CTRL. -/
def State.sfdCapWrite (s : State) (q : Requester) (d : Word) : State :=
  let go := Fld.SFD_CAP_CTRL_GO.of d == 1
  if go && s.on Fld.SFD_CAP_CTRL_GO then s.setFld Fld.SFD_CAP_CTRL_OVERRUN 1
  else
    let s := s.plainWrite Reg.SFD_CAP_CTRL (Fld.SFD_CAP_CTRL_GO.put 0 d)
    if go then
      let s := (s.disturbLop3 q).setFld Fld.SFD_CAP_CTRL_GO 1
      if s.storeRange (s.fld Fld.SFD_CAP_DEST_ADDR) sfdRecordLen then s
      else s.sfdCapEnd 1 (s.fld Fld.SFD_CAP_CTRL_CLASS) false
    else s

/-- The groups of the full-duplex carrier. -/
def State.fdGroups (s : State) : Nat := (s.carrierAt false (planOf s.sfd.plan).carrier s.air).pgMask

/-- The current grid symbol is SB for every group of the full-duplex carrier, none demoted (R314). -/
def State.sbForAll (s : State) : Bool :=
  s.planOn && (List.range 8).all (fun g => !bitOf s.fdGroups g || (s.actsAs g s.air == dirSb && !s.on (Fld.SFD_PGg_STATUS_DEMOTED g)))

/-- SFD_CAPTURE_START: a grid symbol boundary at which the armed capture may begin. -/
def execSfdCaptureStart (s : State) : Out :=
  .next (if s.on Fld.SFD_CAP_CTRL_GO && s.sfd.window.isNone && s.sbForAll &&
      (s.on Fld.SFD_CAP_CTRL_CLASS_ANY || s.fld Fld.SFD_CAP_CTRL_CLASS == s.time.sfdClass) then
    let c := s.time.sfdClass
    { (s.setFld Fld.SFD_CAP_STATUS_BUSY 1) with
      sfd := { s.sfd with window := some ⟨c, s.fld (Fld.SFD_CLASSc_NREF c), (planOf s.sfd.plan).rate, s.fdGroups, s.air,
        s.fld Fld.SFD_CAP_DEST_ADDR, false⟩ } }
  else s)

/-- Sample `n` of stream `k` of a capture: the references, then the canceller input of each path (R314). -/
def State.sfdStream (s : State) (w : SfdWindow) (k n : Nat) : Word :=
  let m : Int := 2 * w.air / 2 ^ w.rate + n
  if k < 8 then (if s.refSilent then 0 else cpxWord (s.reference w.rate k m))
  else if s.adcSilent (k - 8) then 0 else cpxWord (s.cancelIn w.rate (k - 8) m)

/-- The capture record (R315) of the 72 streams of 4,096 samples that `stream` gives. -/
def sfdRecord (w : SfdWindow) (stream : Nat → Nat → Word) : List Byte :=
  leBytes 4 0x44465358 ++ leBytes 1 (w.cls + 16 * w.nref) ++ leBytes 1 (bit w.mixed + 2 * w.rate) ++ leBytes 1 w.groups ++
    leBytes 1 0 ++ leBytes 8 w.air ++ List.replicate 48 0#8 ++
    (List.range 72).flatMap (fun k =>
      let used := if k < 8 then decide (k < w.nref) else bitOf w.groups ((k - 8) / 8)
      (List.range 4096).flatMap (fun n => leBytes 4 (if used then (stream k n).toNat else 0)))

/-- SFD_CAPTURE_RECORD_END: the record is in the store (R314). -/
def execSfdCaptureRecordEnd (s : State) : Out :=
  .next (match s.sfd.window with
  | some w =>
    if !s.storeRange w.dest sfdRecordLen then s.sfdCapEnd 1 w.cls w.mixed
    else
    let r := s.storeWrite w.dest (sfdRecord w (s.sfdStream w)) reqCapture
    if r.2 then
      let s := (r.1.count Fld.SFD_CAP_STATUS_CAPTURES 1).sfdCapEnd 0 w.cls w.mixed
      { s with sfd := { s.sfd with line8 := true } }
    else r.1.sfdCapEnd 2 w.cls w.mixed
  | none => s)

/-! ### Training (R316) -/

/-- LOP3 ends before its last unit. -/
def State.lop3End (s : State) (state err : Nat) : State :=
  let s : State := { s with sfd := { s.sfd with lop3 := none } }
  ((s.setFld Fld.SFD_LOP3_CTRL_GO 0).setFld Fld.SFD_LOP3_CTRL_ABORT 0).lopEnd 3 state err

/-- A write to SFD_LOP3_CTRL. -/
def State.lop3Write (s : State) (d : Word) : State :=
  let go := Fld.SFD_LOP3_CTRL_GO.of d == 1
  if go && s.lopBusy 3 then s.setFld Fld.SFD_LOP3_CTRL_OVERRUN 1
  else
    let s := s.plainWrite Reg.SFD_LOP3_CTRL (Fld.SFD_LOP3_CTRL_ABORT.put 0 (Fld.SFD_LOP3_CTRL_GO.put 0 d))
    let s := if Fld.SFD_LOP3_CTRL_ABORT.of d = 1 ∧ s.lopBusy 3 then s.lop3End lopAborted 4 else s
    if go then
      let units := (List.range 16).filter (fun c => bitOf (s.fld Fld.SFD_LOP3_CTRL_CLASSES) c)
      let dest := s.fld Fld.SFD_LOP3_DEST_ADDR
      let s := (s.lopStart 3 lopRunning units.length).setFld Fld.SFD_LOP3_CTRL_GO 1
      if units = [] ∨ !s.planOn ∨ !s.on Fld.SFD_CTRL_EN then s.lop3End lopFailed 1
      else if !s.domOn pdDsp then s.lop3End lopFailed 2
      else if dest < storeBase ∨ storeEnd < dest + 16 * units.length then s.lop3End lopFailed 3
      else { s with sfd := { s.sfd with lop3 := some ⟨units, 0, dest⟩ } }
    else s

/-- How the training of one class ends (R316). -/
def trainResult : Fin 3 → Nat
  | 0 => 0 | 1 => 2 | _ => 3

/-- LOP3_UNIT_END: the firmware's result for the class: OK, NO_CAPTURE or DIVERGED, captures used and median depths. A unit that is solved
has used ITER captures, one without a capture fewer. -/
def execLop3UnitEnd (result : Fin 3) (caps : Byte) (before after : BitVec 16) (s : State) : Out :=
  let all := max 1 (s.fld Fld.SFD_LOP3_CTRL_ITER)
  .next (s.lop3Unit (trainResult result) (if result = 1 then min (all - 1) caps.toNat else all) before.toNat after.toNat)

/-! ### Monitor and limits (R310, R317, R318) -/

/-- What an SB symbol measures on one path: PRE, POST and IN in −0.25 dBFS codes, and whether its ADC saturated (R317, R318). -/
structure SbLevels where
  pre : Nat
  post : Nat
  input : Nat
  sat : Bool
deriving DecidableEq, Repr

/-- The levels of path `p` over the current grid symbol (R317). -/
def State.sbLevels (s : State) (p : Nat) : SbLevels :=
  let r := (planOf s.sfd.plan).rate
  let at' := fun (f : (Int → Cpx) → Int → Int → Nat) (x : Int → Cpx) => f x (2 * (s.rf.start : Int) / 2 ^ r) (2 * (s.rf.stop : Int) / 2 ^ r)
  let quiet := s.adcSilent p
  ⟨if quiet then 511 else at' levelOf (s.cancelIn r p), if quiet && s.refSilent then 511 else at' levelOf (s.cancelOut r p),
    if quiet then 511 else levelOf (fun n => (s.rx3 p n).1) (8 * s.rf.start) (8 * s.rf.stop),
    !quiet && satCount (s.rx1 p) (16 * s.rf.start) (16 * s.rf.stop) != 0⟩

/-- The path exceeds the receiver-input limit of its group. -/
def State.overLimit (s : State) (p : Nat) (l : SbLevels) : Bool :=
  decide (l.input < s.fld (Fld.SFD_PGg_LIMIT_IN_MAX (p / 8))) || l.sat

/-- R317 for one group: the limit, its counts and demotion. -/
def State.sbLimit (s : State) (g : Nat) (lv : Nat → SbLevels) : State :=
  let hits := ((List.range 8).map (fun i => 8 * g + i)).filter (fun p => s.overLimit p (lv p))
  match (hits : List Nat) with
  | [] => { s with sfd := { s.sfd with limitRun := SMap.erase s.sfd.limitRun g } }
  | p :: _ =>
    let s : State := { s with rf := { s.rf with log := match s.rf.log with
      | l :: ls => { l with limit := setBitOf l.limit g true } :: ls
      | [] => [] } }
    let s := s.count (Fld.SFD_PGg_STATUS_LIMITS g) 1
    let s := hits.foldl (fun s p => s.count (Fld.SFD_PATHp_COUNT_LIMIT p) 1) s
    let s := s.eventOnce 0x90 g (g + 256 * p + 65536 * (lv p).input)
    let n : Nat := SMap.get 0 s.sfd.limitRun g + 1
    let s : State := { s with sfd := { s.sfd with limitRun := SMap.set 0 s.sfd.limitRun g n } }
    if s.on (Fld.SFD_PGg_LIMIT_ACTION g) ∧ max 1 (s.fld (Fld.SFD_PGg_LIMIT_LIM_N g)) ≤ n ∧
        !s.on (Fld.SFD_PGg_STATUS_DEMOTED g) then
      ({ s with sfd := { s.sfd with limitRun := SMap.erase s.sfd.limitRun g } }.setFld (Fld.SFD_PGg_STATUS_DEMOTED g) 1).event
        0x92 g
    else s

/-- R318 for one group: the residual. -/
def State.sbResidual (s : State) (g : Nat) (lv : Nat → SbLevels) : State :=
  let ps := (List.range 8).map (fun i => 8 * g + i)
  let post := fun p => (lv p).post
  if ps.any (fun p => decide (post p < s.fld (Fld.SFD_PGg_RES_RES_MAX g))) then
    let n := SMap.get 0 s.sfd.resRun g + 1
    let s : State := { s with sfd := { s.sfd with resRun := SMap.set 0 s.sfd.resRun g n } }
    if max 1 (s.fld (Fld.SFD_PGg_RES_RES_N g)) ≤ n ∧ !s.on (Fld.SFD_PGg_STATUS_RES_HIGH g) then
      let worst := ps.foldl (fun w p => if post p < post w then p else w) (8 * g)
      (s.setFld (Fld.SFD_PGg_STATUS_RES_HIGH g) 1).event 0x91 (g + 256 * worst + 65536 * post worst)
    else s
  else
    { s with sfd := { s.sfd with resRun := SMap.erase s.sfd.resRun g } }.setFld (Fld.SFD_PGg_STATUS_RES_HIGH g) 0

/-- From `tick` HK ticks into the current grid symbol to its end nothing is subtracted on the paths `ps` (R310). -/
def State.stopCanceller (s : State) (ps : List Nat) (tick : Nat) : State :=
  let old := s.smp.stops.filter (fun g => decide (s.air ≤ g.hi + 262144))
  { s with smp := { s.smp with stops := ps.map (fun p => ⟨p, s.rf.start + tick, s.rf.stop⟩) ++ old } }

/-- SB_SYMBOL_END: the levels of the symbol's paths, and the residue failures of paths and of reference formation in it, each with the
HK tick of the symbol at which it came (R310, R317, R318). -/
def execSbSymbolEnd (residue : List (Fin 64 × Nat)) (refFail : Option Nat) (s : State) : Out :=
  .next (
    let s := residue.foldl (fun s r => s.stopCanceller [r.1.val] r.2) s
    let s := (refFail.map (s.stopCanceller (List.range 64))).getD s
    let lv := s.sbLevels
    let s := (List.range 8).foldl (fun s g =>
      if s.rf.dirs.getD g dirF = dirSb then
        let s := (List.range 8).foldl (fun s i =>
          let p := 8 * g + i
          let s := (s.setFld (Fld.SFD_PATHp_MON_PRE p) (lv p).pre).setFld (Fld.SFD_PATHp_MON_POST p) (lv p).post
          s.countWrap (Fld.SFD_PATHp_MON_SEQ p) 1) s
        (s.sbLimit g lv).sbResidual g lv
      else s) s
    let s := residue.foldl (fun s r => (s.count (Fld.SFD_PATHp_COUNT_RESIDUE r.1.val) 1).event 0x96 r.1.val) s
    if refFail.isSome then (s.forEach 64 (fun s p => s.count (Fld.SFD_PATHp_COUNT_RESIDUE p) 1)).event 0x96 0x3F else s)

end Sys2Proof.Machine
end

