-- ==== Sys2Proof/Machine/Cal.lean ====
section
/-!
DEFINITION. Array and converter calibration (spec/13): correction points (R344, R345), LOP0 (R346 to R352), LOP1 (R353), the
calibration records (R355 to R358) and the always-visible counters (R359).
-/

namespace Sys2Proof.Machine

/-! ### Correction points -/

/-- The next grid symbol boundary after AIR_COUNT `a`. -/
def State.nextBoundary (s : State) (a : Nat) : Nat := airOf s.time.scs (frameOf a) (symbolOf s.time.scs a + 1)

/-- A word of a point as in force at air time `a` (R345). -/
def State.pointWord (s : State) (r a : Nat) : Word :=
  if a < s.cal.boundary then (SMap.find s.cal.old r).getD (s.rd r) else s.rd r

/-- A management write to a point register takes effect at the next grid symbol boundary (R345). -/
def State.pointWrite (s : State) (r : Nat) (d : Word) : State :=
  let b := s.nextBoundary s.air
  let old := if s.cal.boundary = b then s.cal.old else []
  let old := if (SMap.find old r).isSome then old else SMap.insert r (s.rd r) old
  { s with cal := { s.cal with old := old, boundary := b } }.plainWrite r d

/-- The LO in use by group `g` at air time `a`: the row's, else the one in use now (R202, R332). -/
def State.loAt (s : State) (g a : Nat) : Nat :=
  match s.rowAt g a with
  | some r => bit r.lo
  | none => s.loInUse g

/-- The point that R344 selects for group `g` at air time `a`. The f_LO of the LO in use is that of the entry that it was tuned with. -/
def State.pointFor (s : State) (g a : Nat) : Option Nat :=
  let chan := s.loChan g (s.loAt g a)
  let hdr := fun k => (s.pointWord (Reg.CAL_PTk_HDR_W0 k) a).toNat
  let chanOf := fun k => hdr k % 1024
  let cands := (List.range 64).filter (fun k =>
    bitOf (hdr k) 31 && bit (bitOf (hdr k) 16) == s.fld (Fld.RFE_PGg_CFG_BAND g) &&
      bitOf (s.pointWord (Reg.CAL_PTk_HDR_W1 k) a).toNat g && entryUsable (s.chanEntry (chanOf k)))
  match cands.find? (fun k => chanOf k == chan) with
  | some k => some k
  | none =>
    let dist := fun k => ((entryLo (s.chanEntry (chanOf k)) : Int) - entryLo (s.synth g (s.loAt g a)).entry).natAbs
    cands.foldl (fun best k => match best with
      | some b => if dist k < dist b then some k else some b
      | none => some k) none

/-- A correction of Q2.14 as two signed codes. -/
def q214 (w : Nat) : Int × Int := (sext 16 w, sext 16 (w / 65536))

/-- a_p and b_p for path `p` at air time `a`, with the point that its group takes (R344). -/
def State.txCorr (s : State) (pt : Option Nat) (p a : Nat) : Int × Int :=
  match pt with
  | some k => q214 (s.pointWord (Reg.CAL_PTk_Pp_W0 k p) a).toNat
  | none => (16384, 0)

def State.rxCorr (s : State) (pt : Option Nat) (p a : Nat) : Int × Int :=
  match pt with
  | some k => q214 (s.pointWord (Reg.CAL_PTk_Pp_W1 k p) a).toNat
  | none => (16384, 0)

/-- The delay corrections of path `p`: downlink and uplink. -/
def State.delayCorr (s : State) (pt : Option Nat) (p a : Nat) : Int × Int :=
  match pt with
  | some k =>
    let w := (s.pointWord (Reg.CAL_PTk_Pp_W2 k p) a).toNat
    (sext 10 w, sext 10 (w / 65536))
  | none => (0, 0)

/-- The delays of path `p` in 1/64 sample, before the clamp: downlink and uplink (R243, R259). -/
def State.pathDelay (s : State) (p a : Nat) : Int × Int :=
  let c := s.delayCorr (s.pointFor (p / 8) a) p a
  ((s.fld (Fld.DLC_PATHp_DLY_DLY p) : Int) + c.1, (s.fld (Fld.ULC_PATHp_DLY_DLY p) : Int) + c.2)

/-- The clamp to 0 to 503. -/
def clampDelay (d : Int) : Nat := (max 0 (min 503 d)).toNat

/-- IDENT and CLAMPED at a grid symbol boundary (R243, R259, R344). -/
def State.refreshDelays (s : State) : State :=
  let s := s.setFld Fld.CAL_STATUS_IDENT (bitsToNat ((List.range 8).map (fun g => (s.pointFor g s.air).isNone)))
  (List.range 64).foldl (fun s p =>
    let d := s.pathDelay p s.air
    let out := fun z : Int => bit (decide (z < 0) || decide (503 < z))
    (s.setFld (Fld.DLC_PATHp_DLY_CLAMPED p) (out d.1)).setFld (Fld.ULC_PATHp_DLY_CLAMPED p) (out d.2)) s

/-- The registers of point `k` with their offsets in its block. -/
def pointRegs (k : Nat) : List (Nat × Nat) :=
  [(0, Reg.CAL_PTk_HDR_W0 k), (4, Reg.CAL_PTk_HDR_W1 k), (8, Reg.CAL_PTk_HDR_W2 k)] ++
    (List.range 64).flatMap (fun p => [(0x100 + 16 * p, Reg.CAL_PTk_Pp_W0 k p), (0x104 + 16 * p, Reg.CAL_PTk_Pp_W1 k p),
      (0x108 + 16 * p, Reg.CAL_PTk_Pp_W2 k p)])

/-- The bits of a point block's word at offset `o` that are not reserved. -/
def pointMask (o : Nat) : Nat :=
  if o < 0x100 then
    if o = 0 then 0x800103FF else if o = 4 then 0x3FFF else if o = 8 then 0xFFFFFFFF else 0
  else if o % 16 = 0 ∨ o % 16 = 4 then 0xFFFFFFFF
  else if o % 16 = 8 then 0x03FF03FF else 0

/-- A point block sets no reserved bit (R345). -/
def pointBlockOk (b : List Byte) : Bool :=
  (List.range 320).all (fun i => fieldAt b (4 * i) 4 &&& pointMask (4 * i) == fieldAt b (4 * i) 4)

/-- Point `k` is replaced whole. -/
def State.replacePoint (s : State) (k : Nat) (b : List Byte) : State :=
  let s := (pointRegs k).foldl (fun s r => s.wr r.2 (BitVec.ofNat 32 (fieldAt b r.1 4))) s
  let s : State := { s with cal := { s.cal with old := s.cal.old.filter (fun p => !((pointRegs k).any (fun r => r.2 == p.1))) } }
  (s.count Fld.CAL_LOAD_CTRL_LOADS 1).event 0xC3 k

/-- A point load ends in error. -/
def State.pointLoadError (s : State) (err k : Nat) : State :=
  let s : State := { s with cal := { s.cal with load := none, block := [] } }
  ((s.setFld Fld.CAL_LOAD_CTRL_ERR err).setFld Fld.CAL_LOAD_CTRL_GO 0).event 0xC4 (k + 256 * err)

/-- A write to CAL_LOAD_CTRL. -/
def State.calLoadWrite (s : State) (d : Word) : State :=
  let go := Fld.CAL_LOAD_CTRL_GO.of d == 1
  if go && s.on Fld.CAL_LOAD_CTRL_GO then s.setFld Fld.CAL_LOAD_CTRL_OVERRUN 1
  else
    let s := s.plainWrite Reg.CAL_LOAD_CTRL (Fld.CAL_LOAD_CTRL_GO.put 0 d)
    if go then
      let a := s.fld Fld.CAL_LOAD_ADDR_ADDR
      let k := s.fld Fld.CAL_LOAD_CTRL_POINT
      let s := s.setFld Fld.CAL_LOAD_CTRL_GO 1
      if s.storeRange a 1280 then { s with cal := { s.cal with load := some (k, a), block := [] } }
      else s.pointLoadError 1 k
    else s

/-- CAL_LOAD_COPY_END: the block is in the buffer, or the load ends in error. -/
def execCalLoadCopyEnd (s : State) : Out :=
  .next (match s.cal.load with
  | some (k, a) =>
    if s.cal.block ≠ [] then s
    else if !s.storeRange a 1280 then s.pointLoadError 1 k
    else
      let r := s.storeRead a 1280 reqFabric
      if !r.2.2 then r.1.pointLoadError 2 k
      else if !pointBlockOk r.2.1 then r.1.pointLoadError 3 k
      else { r.1 with cal := { r.1.cal with block := r.2.1 } }
  | none => s)

/-- CAL_POINT_REPLACE: the grid symbol boundary at which loaded points come into force. -/
def execCalPointReplace (s : State) : Out :=
  .next (
    let s := s.cal.applies.foldl (fun s a => s.replacePoint a.1 a.2) s
    let s : State := { s with cal := { s.cal with applies := [] } }
    match s.cal.load with
    | some (k, _) =>
      if s.cal.block = [] then s
      else
        let s := s.replacePoint k s.cal.block
        let s : State := { s with cal := { s.cal with load := none, block := [] } }
        (s.setFld Fld.CAL_LOAD_CTRL_ERR 0).setFld Fld.CAL_LOAD_CTRL_GO 0
    | none => s)

/-! ### LOP0 (R348 to R352) -/

/-- The groups of PG_MASK whose LO in use is LOCKED on channel `c`. -/
def State.measuredSet (s : State) (c : Nat) : Nat :=
  bitsToNat ((List.range 8).map (fun g => bitOf (s.fld Fld.CAL_ARR_CFG_PG_MASK) g && s.groupOn g &&
    s.loState g (s.loInUse g) == loLocked && s.loChan g (s.loInUse g) == c))

/-- Directions measured. -/
def dirCount (dir : Nat) : Nat := if dir = 0 then 2 else 1

/-- Chips of a sequence, joint or not (R346, R351). -/
def chipsOf (joint : Bool) : Nat := if joint then 256 else 64

/-- Whole sequences in a forced grid slot at air time `a` (R350); one of 256 chips takes 36,864 ticks (R351). -/
def slotSequences (m a : Nat) (joint : Bool) : Nat := (slotBoundaryFrom m (a + 1) - a) / (144 * chipsOf joint)

/-- The forced slots from the target at `a`: transmit, then receive (R350). -/
def forcedSlots (m dir a : Nat) : List (Nat × Nat) :=
  let b := slotBoundaryFrom m (a + 1)
  if dir = 0 then [(a, 1), (b, 2)] else if dir = 1 then [(a, 1)] else [(a, 2)]

/-- The error with which a LOP0 request fails at once, 0 for none (R348). -/
def State.lop0Error (s : State) (groups target : Nat) : Nat :=
  let e := s.chanEntry (s.fld Fld.CAL_ARR_CHAN_CHAN)
  let forced := s.on Fld.CAL_ARR_CTRL_MODE
  if groups = 0 ∨ !entryUsable e ∨ !bitOf groups (s.fld Fld.CAL_ARR_CFG_REF_PATH / 8) then 1
  else if !s.domOn pdDsp ∨ !s.domOn pdCst ∨ s.detained then 2
  else if !s.storeRange (s.fld Fld.CAL_ARR_DEST_ADDR) 1536 then 3
  else if forced ∧ (target < s.air + s.tEarly ∨ target < s.air + 122880) then 5
  else if s.on Fld.CAL_ARR_CFG_JOINT ∧ (!s.on Fld.ATM_ARRAY_STATUS_JOINT_OK ∨ !forced ∨ 2 ≤ s.time.scs) then 8
  else 0

/-- A write to CAL_ARR_CTRL (R348). -/
def State.calArrWrite (s : State) (d : Word) : State :=
  let go := Fld.CAL_ARR_CTRL_GO.of d == 1
  if go && s.lopBusy 0 then s.setFld Fld.CAL_ARR_CTRL_OVERRUN 1
  else
    let s := s.plainWrite Reg.CAL_ARR_CTRL (Fld.CAL_ARR_CTRL_ABORT.put 0 (Fld.CAL_ARR_CTRL_GO.put 0 d))
    let s := if Fld.CAL_ARR_CTRL_ABORT.of d = 1 ∧ s.lopBusy 0 then s.lop0Stop lopAborted 6 else s
    if go then
      let c := s.fld Fld.CAL_ARR_CHAN_CHAN
      let dir := s.fld Fld.CAL_ARR_CTRL_DIR
      let forced := s.on Fld.CAL_ARR_CTRL_MODE
      let joint := s.on Fld.CAL_ARR_CFG_JOINT
      let m := s.time.scs
      let target := boundaryAfter m (s.fld Fld.CAL_FORCE_AT_SFN) (s.fld Fld.CAL_FORCE_AT_SLOT) s.air
      let slots := forcedSlots m dir target
      let rep := max 1 (s.fld Fld.CAL_ARR_CFG_REP)
      let groups := s.measuredSet c
      let total := if forced then ((slots.map (fun t => slotSequences m t.1 joint)).sum) * chipsOf joint
        else 64 * rep * dirCount dir
      let dest := s.fld Fld.CAL_ARR_DEST_ADDR
      let s := (s.lopStart 0 lopRunning total).setFld Fld.CAL_ARR_CTRL_GO 1
      let err := s.lop0Error groups target
      if err ≠ 0 then s.lop0Stop lopFailed err
      else
        let s : State := { s with cal := { s.cal with
          lop0 := some ⟨groups, dir, forced, joint, c, s.fld Fld.CAL_ARR_CTRL_POINT, s.on Fld.CAL_ARR_CTRL_APPLY,
            s.fld Fld.CAL_ARR_CFG_REF_PATH, rep, dest, s.fld Fld.CAL_ARR_CFG_SPAN, s.fld Fld.CAL_ARR_CHAN_LEVEL, 0, 0, total⟩
          slots := if forced then slots else s.cal.slots
          slotGroups := if forced then groups else s.cal.slotGroups } }
        let s := (s.setFld Fld.RFE_CAL_STATUS_CHAN c).setFld Fld.RFE_CAL_STATUS_BAND (entryBand (s.chanEntry c))
        let s := s.setFld Fld.RFE_CAL_STATUS_STATE loVcoCal
        if forced then
          s.event 0xC0 (s.fld Fld.CAL_FORCE_AT_SFN + 1024 * s.fld Fld.CAL_FORCE_AT_SLOT + 2 ^ 17 * dir)
        else s
    else s

/-- LOC_LOCK_END: the VCO calibration of LOC ends (R343). -/
def execLocLockEnd (locked : Bool) (s : State) : Out :=
  .next (if s.fld Fld.RFE_CAL_STATUS_STATE = loVcoCal then
    s.setFld Fld.RFE_CAL_STATUS_STATE (if locked then loLocked else loFail)
  else s)

/-- The number of the first receive chip: transmit chips run first (R349, R350). -/
def Lop0.rxFrom (c : Lop0) : Nat := if c.dir = 0 then c.total / 2 else if c.dir = 1 then c.total else 0

/-- `n` chips run from AIR_COUNT `a` on, as many as are left; a LOC that is not LOCKED when the first is due ends LOP0 (R346, R348). -/
def State.runChips (s : State) (c : Lop0) (a n : Nat) : State :=
  if c.chips = 0 ∧ s.fld Fld.RFE_CAL_STATUS_STATE ≠ loLocked then s.lop0Stop lopFailed 4
  else
    let k := min c.total (c.chips + n)
    let run : ProbeRun := ⟨a, c.chips, k - c.chips, c.rxFrom, c.groups, c.span, c.level, chipsOf c.joint,
      if c.joint then 64 * s.fld Fld.ATM_ARRAY_STATUS_SELF else 0⟩
    { s with cal := { s.cal with lop0 := some { c with chips := k }, probes := run :: s.cal.probes } }.lopUnits 0 k c.total

/-- CAL_SEQUENCE_END: a completed sequence's chip correlations are written into the store, `offset` bytes after CAL_ARR_DEST, and
line 9 is asserted (R349). Where in the store they go, and their form, are the firmware's. -/
def execCalSequenceEnd (offset : Nat) (data : List Byte) (s : State) : Out :=
  .next (match s.cal.lop0 with
  | some c =>
    if (c.sequences + 1) * chipsOf c.joint ≤ c.chips then
      let a := c.dest + offset
      let s := if s.storeRange a data.length then s.storePut a data reqCapture else s
      { s with cal := { s.cal with lop0 := some { c with sequences := c.sequences + 1 }, line9 := true } }
    else s
  | none => s)

/-- CAL_FORCED_SLOT: an announced slot begins; its sequences run (R350). -/
def execCalForcedSlot (s : State) : Out :=
  .next (match s.cal.slots with
  | (a, _) :: _ =>
    match s.cal.lop0 with
    | some c => if c.forced then s.runChips c a (slotSequences s.time.scs a c.joint * chipsOf c.joint) else s
    | none => s
  | [] => s)

/-- CAL_FORCED_SLOT_END: an announced slot ends; after the last, event 0xC1, with bit 20 where LOP0 has ended otherwise than
DONE (R350, R360). -/
def execCalForcedSlotEnd (s : State) : Out :=
  .next (match s.cal.slots with
  | (a, _) :: rest =>
    let s : State := { s with cal := { s.cal with slots := rest } }
    if rest = [] then
      let st := s.lopState 0
      s.event 0xC1 (frameOf a % 1024 + 1024 * (symbolOf s.time.scs a / 14) +
        2 ^ 20 * bit (st == lopFailed || st == lopAborted))
    else s
  | [] => s)

/-- BACKGROUND_CAL_TIMEOUT: 60 s after GO the sequences are not complete (R348). -/
def execBackgroundCalTimeout (s : State) : Out :=
  .next (match s.cal.lop0 with
  | some c => if !c.forced ∧ c.chips < c.total then s.lop0Stop lopFailed 7 else s
  | none => s)

/-- A correction from its measured value in units of 2 ^ −30: Q2.14, I in the low half (R347). -/
def corrCode (re im : Int) : Word := BitVec.ofNat 32 (toCode 16 (rndDiv re (2 ^ 16)) + 65536 * toCode 16 (rndDiv im (2 ^ 16)))

/-- A delay correction in 1/64 sample from the measured delay (R347). -/
def delayCode (tau : Int) : Int := -rndDiv tau (2 ^ 16)

/-- A measurement is an outlier: the correction's magnitude outside 0.25 to 1.99, or its delay outside ±511 (R347). -/
def calOutlier (re im tau : Int) : Bool :=
  let m := re * re + im * im
  decide (16 * m < 2 ^ 60) || decide (39601 * 2 ^ 60 < 10000 * m) || decide (511 < (delayCode tau).natAbs)

/-- Path `p` is an outlier in transmit, or in receive; the reference path's correction is 1.0. -/
def Lop0.txOut (c : Lop0) (p : Nat) (m : PathCal) : Bool := p != c.refPath && calOutlier m.txRe m.txIm m.txTau
def Lop0.rxOut (c : Lop0) (p : Nat) (m : PathCal) : Bool := p != c.refPath && calOutlier m.rxRe m.rxIm m.rxTau

/-- A path's words for LOP0's point block: identity outside the measured set, the old point's values for a direction not measured
and for an outlier, unity for the reference path. -/
def State.lop0Words (s : State) (c : Lop0) (p : Nat) (m : PathCal) : List Word :=
  let old := fun k => s.pointWord (Reg.CAL_PTk_Pp_W0 c.point p + 4 * k) s.air
  if !bitOf c.groups (p / 8) then [0x4000#32, 0x4000#32, 0#32, 0#32]
  else
    let ref := p == c.refPath
    let tx := c.dir ≤ 1
    let rx := c.dir ≠ 1
    let txc := if tx && !c.txOut p m then (if ref then 0x4000#32 else corrCode m.txRe m.txIm) else old 0
    let rxc := if rx && !c.rxOut p m then (if ref then 0x4000#32 else corrCode m.rxRe m.rxIm) else old 1
    let txd := if tx && !c.txOut p m then (if ref then 0 else toCode 10 (delayCode m.txTau)) else (old 2).toNat % 1024
    let rxd := if rx && !c.rxOut p m then (if ref then 0 else toCode 10 (delayCode m.rxTau)) else (old 2).toNat / 65536 % 1024
    [txc, rxc, BitVec.ofNat 32 (txd + 65536 * rxd), 0#32]

/-- LOP0's result (R352). -/
def State.lop0Result (s : State) (c : Lop0) (m : Nat → PathCal) : List Byte :=
  let hdr := [BitVec.ofNat 32 (2 ^ 31 + 65536 * entryBand (s.chanEntry c.chan) + c.chan),
    BitVec.ofNat 32 (256 * c.refPath + c.groups), BitVec.ofNat 32 s.air, 0#32]
  wordsToBytes hdr ++ List.replicate 240 0#8 ++
    (List.range 64).flatMap (fun p => wordsToBytes (s.lop0Words c p (m p))) ++
    (List.range 64).flatMap (fun p =>
      [(m p).txSnr, (m p).rxSnr, BitVec.ofNat 8 (bit (c.txOut p (m p)) + 2 * bit (c.rxOut p (m p))), 0#8])

/-- A calibration operation that ended DONE is counted (R359). -/
def State.calDone (s : State) : State :=
  ((s.count Fld.CAL_COUNT_COUNT 1).wr Reg.CAL_LAST_ATIME_LO (BitVec.ofNat 32 s.air)).wr Reg.CAL_LAST_ATIME_HI
    (BitVec.ofNat 32 (s.air / 2 ^ 32 % 2 ^ 31))

/-- LOP0_END: the solve is done; `paths` are its findings per path (R348, R352). -/
def execLop0End (paths : List PathCal) (s : State) : Out :=
  let m := fun p => paths.getD p ⟨2 ^ 30, 0, 0, 2 ^ 30, 0, 0, 0, 0⟩
  .next (match s.cal.lop0 with
  | some c =>
    if c.total ≤ c.chips then
      let b := s.lop0Result c m
      let s := (List.range 64).foldl (fun s p =>
        let inSet := bitOf c.groups (p / 8)
        let s := if inSet && decide (c.dir ≤ 1) && c.txOut p (m p) then s.event 0xC9 p else s
        if inSet && decide (c.dir ≠ 1) && c.rxOut p (m p) then s.event 0xC9 (p + 256) else s) s
      let s := if s.storeRange c.dest 1536 then s.storePut c.dest b reqFabric else s
      let s := (s.lop0Stop lopDone 0).calDone
      let s := s.event 0xC2 (c.groups + 256 * c.dir + 1024 * c.point + 65536 * bit c.apply)
      if c.apply then { s with cal := { s.cal with applies := s.cal.applies ++ [(c.point, b.take 1280)] } } else s
    else s
  | none => s)

/-! ### LOP1 (R353) -/

/-- A write to CAL_CONV_CTRL. -/
def State.calConvWrite (s : State) (d : Word) : State :=
  let go := Fld.CAL_CONV_CTRL_GO.of d == 1
  if go && s.lopBusy 1 then s.setFld Fld.CAL_CONV_CTRL_OVERRUN 1
  else
    let s := s.plainWrite Reg.CAL_CONV_CTRL (Fld.CAL_CONV_CTRL_GO.put 0 d)
    if go then
      let units := (List.range 8).filter (fun g => bitOf (s.fld Fld.CAL_CONV_CTRL_PG_MASK) g && s.on (Fld.RFE_PGg_CFG_FITTED g))
      let s := (s.lopStart 1 lopRunning units.length).setFld Fld.CAL_CONV_CTRL_GO 1
      let fail := fun (e : Nat) => (s.setFld Fld.CAL_CONV_CTRL_GO 0).lopEnd 1 lopFailed e
      if units = [] then fail 1
      else if !s.domOn pdDsp ∨ s.detained then fail 2
      else
        let s : State := { s with cal := { s.cal with lop1 := some ⟨units, 0, 0⟩ } }
        units.head?.elim s (fun g => s.groupSilent g)
    else s

/-- The nine words of an I/Q bank. -/
def State.iqBankWords (s : State) (up : Bool) (p b : Nat) : List Word :=
  (List.range 9).map (fun k => s.rd ((if up then Reg.ULC_IQp_TAP p b 0 else Reg.DLC_IQp_TAP p b 0) + 4 * k))

def State.putIqBank (s : State) (up : Bool) (p b : Nat) (ws : List Word) : State :=
  (List.range 9).foldl (fun s k => s.wr ((if up then Reg.ULC_IQp_TAP p b 0 else Reg.DLC_IQp_TAP p b 0) + 4 * k) (ws.getD k 0)) s

/-- The last unit has ended: the active banks are copied on every path outside the calibrated groups, and both swaps are
requested. -/
def State.lop1Done (s : State) (groups : Nat) : State :=
  let s := (List.range 64).foldl (fun s p =>
    if bitOf groups (p / 8) then s
    else
      let db := s.fld (fIqBank false)
      let ub := s.fld (fIqBank true)
      (s.putIqBank false p (1 - db) (s.iqBankWords false p db)).putIqBank true p (1 - ub) (s.iqBankWords true p ub)) s
  let s := (s.setFld Fld.DLC_CTRL_IQ_SWAP 1).setFld Fld.ULC_CTRL_IQ_SWAP 1
  let s : State := { s with cal := { s.cal with lop1 := none } }
  (((s.setFld Fld.CAL_CONV_CTRL_GO 0).lopEnd 1 lopDone 0).calDone).event 0xC5 groups

/-- LOP1_UNIT_END: the calibration of one group ends. `conv` are the four selection words of its eight paths, then the ORX word and
the divider codes of LOA and LOB; `iq` the nine words of DLC_IQp of its eight paths, then those of ULC_IQp. -/
def execLop1UnitEnd (conv iq : List Word) (s : State) : Out :=
  .next (match s.cal.lop1 with
  | some u =>
    match u.units with
    | g :: rest =>
      let s := (List.range 8).foldl (fun s i =>
        let p := 8 * g + i
        let w := fun k => conv.getD (4 * i + k) 0
        let s := ((s.wr (Reg.CAL_CONV_Pp_W0 p) (w 0 &&& 0x3FFFFFFF#32)).wr (Reg.CAL_CONV_Pp_W1 p) (w 1 &&& 0x3FFFFFFF#32)).wr
          (Reg.CAL_CONV_Pp_W2 p) (w 2)
        let s := s.wr (Reg.CAL_CONV_Pp_W3 p) (w 3)
        let bank := fun o => (iq.drop (9 * (o + i))).take 9
        (s.putIqBank false p (1 - s.fld (fIqBank false)) (bank 0)).putIqBank true p (1 - s.fld (fIqBank true)) (bank 8)) s
      let s := s.wr (Reg.CAL_CONV_ORXg g) (conv.getD 32 0)
      let s := (s.wr (Reg.CAL_CONV_LOs (2 * g)) (conv.getD 33 0 &&& 7#32)).wr (Reg.CAL_CONV_LOs (2 * g + 1)) (conv.getD 34 0 &&& 7#32)
      let total := s.fld (Fld.LOP_STATn_UNITS_TOTAL 1)
      let s := s.lopUnits 1 (u.done + 1) total
      let groups := setBitOf u.dest g true
      if rest = [] then s.lop1Done groups
      else
        let s : State := { s with cal := { s.cal with lop1 := some ⟨rest, u.done + 1, groups⟩ } }
        rest.head?.elim s (fun h => s.groupSilent h)
    | [] => s
  | none => s)

/-! ### Calibration records (R355, R356, R358) -/

/-- H and the offsets of the halves of the CALREC partition (R355). -/
def Partition.half (p : Partition) : Nat := p.size / 2 / 0x10000 * 0x10000

/-- The records of a copy tile its bytes from `k` to `stop`; `fuel` bounds their number. -/
def recordsTile (b : List Byte) (stop : Nat) : Nat → Nat → Nat → Bool
  | _, 0, k => k == stop
  | 0, _ + 1, _ => false
  | fuel + 1, n + 1, k =>
    let rlen := fieldAt b (k + 4) 4
    decide (k + 8 + rlen ≤ stop) && rlen % 4 == 0 && recordsTile b stop fuel n (k + 8 + rlen)

/-- A copy passes its check word in a half of `h` bytes (R356). -/
def copyPasses (b : List Byte) (h : Nat) : Bool :=
  let len := fieldAt b 12 4
  fieldAt b 0 4 == 0x45435846 && len % 4 == 0 && decide (68 ≤ len) && decide (len ≤ h) &&
    recordsTile b (len - 4) 65536 (fieldAt b 6 2) 64 && crc32 (bytesAt b 0 (len - 4)) == fieldAt b (len - 4) 4

/-- The records of a copy from byte `k` on: TYPE, VER and content (R355); `n` of them. -/
def calRecords (b : List Byte) : Nat → Nat → List (Nat × Nat × List Byte)
  | 0, _ => []
  | n + 1, k =>
    let rlen := fieldAt b (k + 4) 4
    (fieldAt b k 2, fieldAt b (k + 2) 2, bytesAt b (k + 8) rlen) :: calRecords b n (k + 8 + rlen)

/-- Where the firmware writes the words of a record at start step 14 (R357): none of a type it does not know or of a VER above its own,
`ver`. It writes them by register commands of its own. -/
def State.recordRegs (s : State) (ver : Nat) (r : Nat × Nat × List Byte) : List Nat :=
  if ver < r.2.1 then []
  else match r.1 with
  | 1 => (List.range 281).map (fun i => Reg.CAL_CONV_Pp_W0 0 + 4 * i)
  | 2 => [false, true].flatMap (fun up => (List.range 64).flatMap (fun p => (List.range 9).map (fun k =>
      (if up then Reg.ULC_IQp_TAP p (s.fld (fIqBank up)) 0 else Reg.DLC_IQp_TAP p (s.fld (fIqBank up)) 0) + 4 * k)))
  | 3 => match (List.range 64).find? (fun k => !s.on (Fld.CAL_PTk_HDR_W0_VALID k)) with
    | some k => (List.range 320).map (fun i => Reg.CAL_PTk_HDR_W0 k + 4 * i)
    | none => []
  | 4 => (List.range 24).map (fun i => Reg.HK_CALi_W0 0 + 4 * i)
  | _ => []

/-- The bytes of half `k` of the CALREC partition. -/
def State.calHalf (s : State) (p : Partition) (k : Nat) : List Byte := s.flashBytes (p.offset + k * p.half) p.half

/-- A half holds a valid copy. -/
def State.copyValid (s : State) (p : Partition) (k : Nat) : Bool :=
  let b := s.calHalf p k
  copyPasses b p.half && fieldAt b 16 8 == s.serial

/-- SEQ of the copy in half `k`. -/
def State.copySeq (s : State) (p : Partition) (k : Nat) : Nat := fieldAt (s.flashBytes (p.offset + k * p.half + 8) 4) 0 4

/-- R356: the half whose copy is loaded. -/
def State.chooseCopy (s : State) (p : Partition) : Option Nat :=
  match s.copyValid p 0, s.copyValid p 1 with
  | true, true => some (if aheadOf 32 (s.copySeq p 1) (s.copySeq p 0) then 1 else 0)
  | true, false => some 0
  | false, true => some 1
  | false, false => none

/-- A half begins with the framing word (R56). -/
def State.halfFramed (s : State) (p : Partition) (k : Nat) : Bool :=
  p.half != 0 && fieldAt (s.flashBytes (p.offset + k * p.half) 4) 0 4 == 0x45435846

/-- R56: a half carries the framing word and no copy passes its check word. -/
def State.calrecBad (s : State) (p : Partition) : Bool :=
  (s.halfFramed p 0 || s.halfFramed p 1) && !copyPasses (s.calHalf p 0) p.half && !copyPasses (s.calHalf p 1) p.half

/-- R356: event 0xC7 for each framed half without a valid copy. -/
def State.reportCopies (s : State) (p : Partition) : State :=
  s.forEach 2 (fun s k => s.iff (s.halfFramed p k && !s.copyValid p k) (fun s =>
    s.event 0xC7 (k + 2 * bit (copyPasses (s.calHalf p k) p.half))))

/-- A copy is the loaded one. -/
def State.copyLoaded (s : State) (k : Nat) : State :=
  (s.setFld Fld.CAL_STATUS_REC_COPY (k + 1)).setFld Fld.CAL_STATUS_REC_LOADED 1

/-- A write to CAL_SAVE_CTRL (R358). -/
def State.calSaveWrite (s : State) (d : Word) : State :=
  let go := Fld.CAL_SAVE_CTRL_GO.of d == 1 && Fld.CAL_SAVE_CTRL_KEY.of d == 0x5C
  if go && s.on Fld.CAL_SAVE_CTRL_GO then s.setFld Fld.CAL_SAVE_CTRL_OVERRUN 1
  else
    let s := s.plainWrite Reg.CAL_SAVE_CTRL (Fld.CAL_SAVE_CTRL_GO.put 0 d)
    if go then
      let op := FlashUser.save (s.fld Fld.CAL_SAVE_ADDR_ADDR) (s.fld Fld.CAL_SAVE_LEN_LEN)
      { s.setFld Fld.CAL_SAVE_CTRL_GO 1 with flashOps := s.flashOps ++ [op] }.runFlash
    else s

/-- A save ends: ERR, event 0xC6, and the next flash operation. -/
def State.saveEnd (s : State) (err half : Nat) : State :=
  ((((s.setFld Fld.CAL_SAVE_CTRL_GO 0).setFld Fld.CAL_SAVE_STATUS_ERR err).event 0xC6 (err + 256 * half)).iff (err == 0)
    (fun s => s.copyLoaded half)).flashDone

/-- The copy to program: SEQ one ahead of the loaded copy's, and open where none is loaded; then CHECK (R358). -/
def sealCopy (b : List Byte) (seq : Nat) : List Byte :=
  let len := fieldAt b 12 4
  let b := bytesAt b 0 8 ++ leBytes 4 seq ++ b.drop 12
  if 4 ≤ len ∧ len ≤ b.length then b.take (len - 4) ++ leBytes 4 (crc32 (b.take (len - 4))) ++ b.drop len else b

/-- CAL_SAVE_END: the save at the front of the flash operations ends; `outcome` is what the flash did (R358). -/
def execCalSaveEnd (outcome : FlashEnd) (s : State) : Out :=
  .next (match s.flashOps with
  | .save a len :: _ =>
    let part := (s.boot.dir.map (fun d => d.calrec)).getD ⟨0, 0⟩
    let h := part.half
    let copy := s.fld Fld.CAL_STATUS_REC_COPY
    let half := if copy = 1 then 1 else 0
    if len = 0 ∨ h = 0 then s.saveEnd 1 half
    else if !s.storeRange a len then s.saveEnd 2 half
    else
      let r := s.storeRead a len reqFabric
      let s := r.1
      let seq := if copy = 0 then (Config.openWord s.fresh).toNat else (s.copySeq part (copy - 1) + 1) % 2 ^ 32
      let s := if copy = 0 then s.useFresh else s
      let b := sealCopy r.2.1 seq
      if !r.2.2 then s.saveEnd 2 half
      else if !copyPasses b h ∨ fieldAt b 16 8 ≠ s.serial ∨ h < len ∨ len < fieldAt b 12 4 then s.saveEnd 1 half
      else
        let base := part.offset + half * h
        match outcome with
        | .done => (((s.eraseFlash base h).putFlash base b)).saveEnd 0 half
        | .busy => ((s.putFlash base (openBytes s.fresh h)).useFresh).saveEnd 3 half
        | .differs content =>
          let c := bytesAt content 0 len
          let s := (s.eraseFlash base h).putFlash base c
          s.saveEnd (if c = b then 0 else 4) half
  | _ => s)

end Sys2Proof.Machine
end

