-- ==== Sys2Proof/Machine/DmaCtl.lean ====
section
/-!
DEFINITION. DMA channels: descriptors (R172 to R175), control (R182, R183, R185, R186), fetch, completion and halts (R177 to
R179, R184). The bursts, which access the whole address space, stand in DmaRun.lean.
-/

namespace Sys2Proof.Machine

def dmaIdle : Nat := 0
def dmaActive : Nat := 1
def dmaDraining : Nat := 2
def dmaPaused : Nat := 3
def dmaHalted : Nat := 4

def State.chan (s : State) (n : Nat) : DmaState := SMap.get DmaState.idle s.dma n

def State.setChan (s : State) (n : Nat) (c : DmaState) : State := { s with dma := SMap.set DmaState.idle s.dma n c }

/-- STATUS.STATE of a channel. -/
def State.dmaState (s : State) (n : Nat) : Nat := s.fld (Fld.DMA_CHn_STATUS_STATE n)

/-- One bit of a register. -/
def State.setBit (s : State) (a n : Nat) (b : Bool) : State := s.wr a (BitVec.ofNat 32 (setBitOf (s.rd a).toNat n b))

/-- The channel enters a state, shown in DMA_ACTIVE and DMA_HALTED. -/
def State.setDmaState (s : State) (n st : Nat) : State :=
  ((s.setFld (Fld.DMA_CHn_STATUS_STATE n) st).setBit Reg.DMA_ACTIVE n (st != dmaIdle)).setBit Reg.DMA_HALTED n (st == dmaHalted)

/-! ### Descriptors -/

def descSrc (d : List Byte) : Nat := fieldAt d 0 4
def descDst (d : List Byte) : Nat := fieldAt d 4 4
def descLen (d : List Byte) : Nat := fieldAt d 8 3
def descMode (d : List Byte) : Nat := fieldAt d 11 1 % 4
def descElem (d : List Byte) : Nat := 2 ^ (fieldAt d 11 1 / 4 % 4)
def descSrcFix (d : List Byte) : Bool := bitOf (fieldAt d 11 1) 4
def descDstFix (d : List Byte) : Bool := bitOf (fieldAt d 11 1) 5
def descA (d : List Byte) : Nat := fieldAt d 12 2
def descB (d : List Byte) : Nat := fieldAt d 14 2
def descStride (d : List Byte) : Nat := fieldAt d 16 4
def descEvt (d : List Byte) : Bool := bitOf (fieldAt d 20 1) 0
def descPreq (d : List Byte) : Bool := bitOf (fieldAt d 20 1) 1
def descPause (d : List Byte) : Bool := bitOf (fieldAt d 20 1) 2
def descHopClr (d : List Byte) : Bool := bitOf (fieldAt d 20 1) 3
def descLine (d : List Byte) : Nat := fieldAt d 21 1 % 64
def descBurst (d : List Byte) : Nat := 8 * 2 ^ (fieldAt d 22 1 % 16)
def descChain (d : List Byte) : Bool := bitOf (fieldAt d 24 4) 0
def descNext (d : List Byte) : Nat := fieldAt d 24 4 / 32 * 32
def descTag (d : List Byte) : Nat := fieldAt d 28 4

/-- R174: the first two cases, which every descriptor is checked against. -/
def descReservedOk (d : List Byte) : Bool :=
  fieldAt d 11 1 / 64 == 0 && fieldAt d 20 1 / 16 == 0 && fieldAt d 21 1 / 64 == 0 && fieldAt d 22 1 / 16 == 0 &&
  fieldAt d 23 1 == 0 && fieldAt d 24 4 / 2 % 16 == 0 && decide (fieldAt d 22 1 % 16 ≤ 5) &&
  (!descPreq d || decide (descLine d < 24))

/-- 0 is taken as 65,536 (R173). -/
def rowsOf (n : Nat) : Nat := if n = 0 then 65536 else n

/-- R174: a descriptor is valid. -/
def descOk (d : List Byte) : Bool :=
  let m := descMode d
  let ae := descA d * descElem d
  descReservedOk d && (descLen d == 0 ||
    (descSrc d % 4 == 0 && descDst d % 4 == 0 && (m == 0 || (!descSrcFix d && !descDstFix d)) &&
      (!(m == 1 || m == 2) || (descStride d % 4 == 0 && decide (2 ≤ descA d) && decide (descA d ≤ 64) &&
        descLen d % ae == 0)) &&
      (m != 3 || descLen d == rowsOf (descA d) * rowsOf (descB d) * descElem d)))

/-- R175: the source and destination address of word `w`. -/
def descWord (d : List Byte) (w : Nat) : Nat × Nat :=
  let src := descSrc d
  let dst := descDst d
  let e := descElem d
  let a := descA d
  let k := w % e
  let t := w / e
  match descMode d with
  | 0 => ((src + (if descSrcFix d then 0 else 4 * w)) % 2 ^ 32, (dst + (if descDstFix d then 0 else 4 * w)) % 2 ^ 32)
  | 1 => ((src + t % a * descStride d + 4 * (t / a * e + k)) % 2 ^ 32, (dst + 4 * w) % 2 ^ 32)
  | 2 => ((src + 4 * w) % 2 ^ 32, (dst + t % a * descStride d + 4 * (t / a * e + k)) % 2 ^ 32)
  | _ =>
    let r := rowsOf a
    ((src + 4 * ((t % r * rowsOf (descB d) + t / r) * e + k)) % 2 ^ 32, (dst + 4 * w) % 2 ^ 32)

/-- DMA_CHn_SRC, DST and REMAIN show the next word (R175). -/
def State.showDma (s : State) (n remain : Nat) : State :=
  let d := (s.chan n).desc
  let p := descWord d (descLen d - remain)
  ((s.setFld (Fld.DMA_CHn_REMAIN_WORDS n) remain).wr (Reg.DMA_CHn_SRC n) (BitVec.ofNat 32 p.1)).wr
    (Reg.DMA_CHn_DST n) (BitVec.ofNat 32 p.2)

/-! ### Halting and ending -/

def dmaErrAddr : Nat := 1
def dmaErrTimeout : Nat := 5
def dmaErrLoop : Nat := 6
def dmaErrDesc : Nat := 7

/-- The ERR code of an access that completes with `status` (R184). -/
def dmaErrOf (status : Nat) : Nat :=
  if status = stAddrErr then 1 else if status = stDomainOff then 2 else if status = stDenied then 3 else 4

/-- The channel enters IDLE: GO and ABORT clear; the registers keep their values (R183). -/
def State.dmaToIdle (s : State) (n : Nat) : State :=
  let s := ((s.setFld (Fld.DMA_CHn_CTRL_GO n) 0).setFld (Fld.DMA_CHn_CTRL_ABORT n) 0).setFld (Fld.DMA_CHn_CTRL_RESUME n) 0
  (s.setDmaState n dmaIdle).setChan n { s.chan n with fetch := none, held := none, burst := 0 }

/-- An aborted channel has nothing in progress any more (R183). -/
def State.dmaAborted (s : State) (n : Nat) : State := (s.dmaToIdle n).setFld (Fld.DMA_CHn_STATUS_ABORTED n) 1

/-- The channel halts: ERR, ERR_DIR, ERR_FETCH and event 0x45 (R184); one that an ABORT drains goes on to IDLE (R185). -/
def State.dmaHalt (s : State) (n err : Nat) (write fetch : Bool) : State :=
  let drains := s.dmaState n == dmaDraining
  let s := ((s.setFld (Fld.DMA_CHn_STATUS_ERR n) err).setFld (Fld.DMA_CHn_STATUS_ERR_DIR n) (bit write)).setFld
    (Fld.DMA_CHn_STATUS_ERR_FETCH n) (bit fetch)
  let s := (s.setDmaState n dmaHalted).event 0x45 (n + 256 * err + 4096 * bit write + 8192 * bit fetch)
  if drains then s.dmaAborted n else s

/-- A bus error: the failing address is loaded as well (R184). -/
def State.dmaBusError (s : State) (n err addr : Nat) (write fetch : Bool) : State :=
  (s.wr (Reg.DMA_CHn_ERRADDR n) (BitVec.ofNat 32 addr)).dmaHalt n err write fetch

/-- A channel pauses where CTRL.PAUSE is set and neither a fetch nor a burst is in progress (R182). -/
def State.dmaPauseIfSet (s : State) (n : Nat) : State :=
  if s.dmaState n = dmaActive ∧ s.on (Fld.DMA_CHn_CTRL_PAUSE n) ∧ (s.chan n).fetch = none ∧ (s.chan n).burst = 0 then
    s.setDmaState n dmaPaused
  else s

/-- A fetch or a burst has ended: an aborted channel is IDLE once nothing is in progress, and PAUSE takes effect (R182, R183). -/
def State.dmaSettle (s : State) (n : Nat) : State :=
  if s.dmaState n = dmaDraining ∧ (s.chan n).fetch = none ∧ (s.chan n).burst = 0 then s.dmaAborted n else s.dmaPauseIfSet n

/-- The channel is ACTIVE, or DRAINING what an ABORT found in progress. -/
def State.dmaRuns (s : State) (n : Nat) : Bool := s.dmaState n == dmaActive || s.dmaState n == dmaDraining

/-! ### Control -/

/-- A GO in IDLE (CTRL.GO, R179, R182). -/
def State.dmaStart (s : State) (n : Nat) (q : Requester) : State :=
  let s := ((s.setFld (Fld.DMA_CHn_CTRL_GO n) 1).wr (Reg.DMA_CHn_HOPCNT n) 0).wr (Reg.DMA_CHn_PAD n) 0
  let s := ((s.setFld (Fld.DMA_CHn_STATUS_ERR n) 0).setFld (Fld.DMA_CHn_STATUS_ERR_DIR n) 0).setFld
    (Fld.DMA_CHn_STATUS_ERR_FETCH n) 0
  (s.setChan n ⟨[], q, some (s.rd (Reg.DMA_CHn_DESC n)).toNat, none, 0⟩).setDmaState n dmaActive

/-- RESUME in HALTED: the failing access is repeated, a refused hop taken with the hop count at 0, a bad descriptor fetched again
(R185). With PAUSE set the channel is PAUSED next. -/
def State.dmaResume (s : State) (n : Nat) : State :=
  let err := s.fld (Fld.DMA_CHn_STATUS_ERR n)
  let c := s.chan n
  let s := s.setDmaState n dmaActive
  let s := if err = dmaErrLoop then (s.wr (Reg.DMA_CHn_HOPCNT n) 1).setChan n { c with fetch := some (descNext c.desc) }
    else if err = dmaErrDesc then s.setChan n { c with fetch := some (s.rd (Reg.DMA_CHn_DESC n)).toNat }
    else s
  if s.on (Fld.DMA_CHn_CTRL_PAUSE n) ∧ (s.chan n).fetch = none then s.setDmaState n dmaPaused else s

/-- ABORT: an ACTIVE channel drains a fetch or a burst in progress first; otherwise it is IDLE at once (R183, R185). -/
def State.dmaAbort (s : State) (n : Nat) : State :=
  if s.dmaState n = dmaActive ∧ ((s.chan n).fetch ≠ none ∨ (s.chan n).burst ≠ 0) then
    (s.setFld (Fld.DMA_CHn_CTRL_ABORT n) 1).setDmaState n dmaDraining
  else if s.dmaState n = dmaDraining then s
  else s.dmaAborted n

/-- A write to DMA_CHn_CTRL. -/
def State.dmaCtrlWrite (s : State) (n : Nat) (q : Requester) (d : Word) : State :=
  let go := (Fld.DMA_CHn_CTRL_GO n).of d == 1
  let st := s.dmaState n
  if go && st != dmaIdle then s.setFld (Fld.DMA_CHn_CTRL_OVERRUN n) 1
  else
    let d' := (Fld.DMA_CHn_CTRL_GO n).put 0 ((Fld.DMA_CHn_CTRL_ABORT n).put 0 ((Fld.DMA_CHn_CTRL_RESUME n).put 0 d))
    let s := s.plainWrite (Reg.DMA_CHn_CTRL n) d'
    if st = dmaIdle then (if go then s.dmaStart n q else s)
    else if (Fld.DMA_CHn_CTRL_ABORT n).of d = 1 then s.dmaAbort n
    else if st = dmaHalted then (if (Fld.DMA_CHn_CTRL_RESUME n).of d = 1 then s.dmaResume n else s)
    else if st = dmaPaused then (if s.on (Fld.DMA_CHn_CTRL_PAUSE n) then s else s.setDmaState n dmaActive)
    else s.dmaPauseIfSet n

/-- A write to DMA_CHn_DESC, ignored outside IDLE (R186). -/
def State.dmaDescWrite (s : State) (n : Nat) (d : Word) : State :=
  if s.dmaState n = dmaIdle then s.plainWrite (Reg.DMA_CHn_DESC n) d else s

/-! ### Fetch and completion -/

/-- DESCRIPTOR_FETCH: the channel copies a descriptor (R172, R174); an invalid one halts it with ERR DESC, a bad address or an
uncorrectable word with a bus error on the fetch at the descriptor's address (R184, assumption 108). -/
def execDescriptorFetch (ch : Fin 32) (s : State) : Out :=
  let n := ch.val
  .next (match (s.chan n).fetch with
  | some a =>
    if !s.dmaRuns n then s
    else
      let s := s.wr (Reg.DMA_CHn_DESC n) (BitVec.ofNat 32 (a / 32 * 32))
      let st := if storeBase ≤ a ∧ a < storeEnd then s.judge (s.chan n).req a false else stAddrErr
      if st ≠ stOk then s.dmaBusError n (dmaErrOf st) a false true
      else
        let r := s.storeRead a 32 reqDma
        let s := r.1
        if !r.2.2 then s.dmaBusError n (dmaErrOf stEccErr) a false true
        else if !descOk r.2.1 then (s.setChan n { s.chan n with fetch := none }).dmaHalt n dmaErrDesc false false
        else
          ((s.setChan n { s.chan n with desc := r.2.1, fetch := none, held := none, burst := 0 }).showDma n (descLen r.2.1)).dmaSettle n
  | none => s)

/-- A hop through NEXT, refused with ERR LOOP where it would pass the limit (R179). -/
def State.dmaHop (s : State) (n : Nat) : State :=
  let limit := if s.fld (Fld.DMA_CHn_HOPS_LIMIT n) = 0 then 65536 else s.fld (Fld.DMA_CHn_HOPS_LIMIT n)
  let hops := s.fld (Fld.DMA_CHn_HOPCNT_COUNT n) + 1
  if limit < hops then s.dmaHalt n dmaErrLoop false false
  else (s.setFld (Fld.DMA_CHn_HOPCNT_COUNT n) hops).setChan n { s.chan n with fetch := some (descNext (s.chan n).desc) }

/-- What completion does, in the order of R177. -/
def State.dmaComplete (s : State) (n : Nat) : State :=
  let d := (s.chan n).desc
  let s := s.wr (Reg.DMA_CHn_TAG n) (BitVec.ofNat 32 (descTag d))
  let s := if descEvt d then s.event 0x44 (n + 256 * (descTag d % 2 ^ 24)) else s
  let s := if descHopClr d then s.wr (Reg.DMA_CHn_HOPCNT n) 0 else s
  let s := if descPause d then s.setFld (Fld.DMA_CHn_CTRL_PAUSE n) 1 else s
  if descChain d then s.dmaHop n else (s.dmaToIdle n).setFld (Fld.DMA_CHn_STATUS_DONE n) 1

end Sys2Proof.Machine
end

