-- ==== Sys2Proof/Machine/DspExec.lean ====
section
/-!
DEFINITION. The instructions of the signal processors (R370 to R387). A command names the instruction that core `core` executes next:
it runs the word at the core's PC when that word is of the command's form. `cycles` are the cycles it took, and `upset` is what it
met in the core's memories and arithmetic.
-/

namespace Sys2Proof.Machine

/-- How execution goes on after an instruction. -/
inductive CoreFlow where
  | seq
  | jump (t : Nat)
  /-- A body or instruction up to address `a` is skipped (R376, R377). -/
  | skip (a : Nat)
  | repeatNext (n : Nat)
  | halt
  | wait
  | stall (a : SysAccess)
  | trap (cause info : Nat) (addr : Option Nat)
deriving DecidableEq, Repr

/-! ### Addresses (R372, R373) -/

/-- The update of An in a buffer of `m` words, linear with `m` = 0. -/
def modular (a m : Nat) (step : Int) : Nat :=
  if m = 0 then toCode 24 (a + step)
  else
    let b := if m ≤ 1 then 0 else Nat.log2 (m - 1) + 1
    let base := a - a % 2 ^ b
    base + ((((a - base : Nat) : Int) + step) % (m : Int)).toNat

/-- Bits [m − 1:0] of a number in reversed order. -/
def revBits (m v : Nat) : Nat := bitsToNat ((List.range m).map (fun i => bitOf v (m - 1 - i)))

/-- The bit-reversed step of An within a block of On words. -/
def bitRevStep (a on : Nat) : Nat :=
  if on < 2 then a
  else
    let m := Nat.log2 on
    let low := a % 2 ^ m
    a - low + revBits m ((revBits m low + 1) % 2 ^ m)

/-- The address that An gives in a mode, and An afterwards; (An)+ and (An)− step by `unit`. -/
def CoreState.address (x : CoreState) (an mode disp unit : Nat) : Nat × Nat :=
  let a := x.r (0x20 + an)
  let o := sext 24 (x.r (0x30 + an))
  let m := x.r (0x40 + an)
  match mode with
  | 0 => (a, a)
  | 1 => (a, modular a m unit)
  | 2 => (a, modular a m (-(unit : Int)))
  | 3 => (a, modular a m o)
  | 4 => (a, modular a m (-o))
  | 5 => (toCode 24 (a + o), a)
  | 6 => (a, bitRevStep a (x.r (0x30 + an)))
  | _ => (toCode 24 (a + sext 11 disp), a)

/-- The memories and word addresses that an instruction reads data from. -/
def CoreOp.reads (op : CoreOp) (c : Nat) (x : CoreState) : List (Nat × Nat) :=
  let par := fun (l : ParLoad) (m : Nat) => if l.en then [(m, (x.address l.an l.mode 0 1).1 % dataWords c)] else []
  match op with
  | .loads a b ym => par a 0 ++ par b ym
  | .mul _ _ _ _ _ a b ym => par a 0 ++ par b ym
  | .cmul _ _ _ a b z => par a 0 ++ par b 1 ++ par z 2
  | .load m an mode _ disp => [(m, (x.address an mode disp 1).1 % dataWords c)]
  | _ => []

/-- The instruction carries a residue check (R371). -/
def CoreOp.checked : CoreOp → Bool
  | .mul .. => true
  | .cmul .. => true
  | .alu op _ _ _ => op == 2 || op == 3
  | _ => false

/-! ### Running one instruction -/

/-- A corrected word of a core memory: counted, event 0xD1 (R367). Memory 0 is program, 1 to 3 are X to Z. -/
def State.coreCorrected (s : State) (c mem addr : Nat) : State :=
  (s.count (Fld.CORE_COUNT_ECC_CORR c) 1).event 0xD1 (c + 16 * mem + 65536 * (addr / 2 % 65536))

/-- The word that the core executes next: the repeated one, the repeat cache's, the queue's head, or from program memory. -/
def CoreState.next (x : CoreState) : Word :=
  match x.rpt with
  | some (_, some w) => w
  | _ =>
    match x.fromCache with
    | some w => w
    | none => (x.queue.head?).getD (x.progWord x.pc)

/-- The next instruction is fetched from program memory. -/
def CoreState.fetches (x : CoreState) : Bool :=
  (match x.rpt with
   | some (_, some _) => false
   | _ => true) && x.fromCache.isNone

/-- An instruction has had its effect; execution goes on as `f` says. -/
def State.coreGoOn (s : State) (c : Nat) (w : Word) (f : CoreFlow) : State :=
  let x := s.core c
  let s := match f with
    | .seq => s.setCore c (x.advance c w)
    | .jump t => let y := x.record w; s.setCore c ({ y with loops := closeLoops y.stack.length t y.loops }.goTo c t)
    | .skip a => s.setCore c (((x.record w).recordSkipped a).pass c a)
    | .repeatNext n => s.setCore c { (x.record w).pass c x.pc with rpt := some (n, none) }
    | .halt =>
      let y := x.advance c w
      (s.setCore c y).iff y.rpt.isNone (fun s => s.setCoreState c coreHalted)
    | .wait =>
      let s := s.setCore c (x.advance c w)
      if s.coreAwake c then s else s.setCoreState c coreWait
    | .stall a => s.setCore c { x with sys := some a }
    | .trap cause info addr => s.coreTrap c cause info addr 0
  s.coreBoundary c

/-- Core `c` executes its next instruction, when `eff` knows its form (R371, R376, R380, R383). -/
def State.coreInstr (s0 : State) (c cycles : Nat) (u : CoreUpset) (eff : CoreOp → State → Option (State × CoreFlow)) : State :=
  if !s0.domOn pdDsp || s0.coreStopped c || s0.coreStateNow c != coreRun || (s0.core c).sys.isSome then s0
  else
    let s := (s0.setCoreState c coreRun).addCycles c cycles
    let x := s.core c
    let fetch := x.fetches
    let trap := fun (s : State) cause addr mem => s.coreTrap c cause 0 addr mem
    if fetch && decide (progWords c ≤ x.pc) then trap s trapFetchRange none 0
    else if fetch && u == .progUncorrectable then trap s trapEccFetch none 0
    else
      let w := x.next
      let s := if fetch && u == .progCorrected then s.coreCorrected c 0 x.pc else s
      match decodeCore (isDean c) w with
      | none => trap s trapIllegal none 0
      | some op =>
        match eff op (s.setCore c { x with srMoved := false }) with
        | none => s0
        | some (t, f) =>
          let t := match f with
            | .trap _ _ _ => s
            | _ => t
          let atEnd := match x.loops with
            | l :: _ => l.depth == x.stack.length && l.last == x.pc
            | [] => false
          let hit := fun (m : Fin 3) => (op.reads c x).find? (fun r => r.1 == m.val)
          if atEnd && op.transfers then trap s trapLoop none 0
          else if u == .residue && op.checked then trap s trapResidue none 0
          else match u with
            | .dataUncorrectable m =>
              match hit m with
              | some r => trap s trapEccData (some r.2) r.1
              | none => t.coreGoOn c w f
            | .dataCorrected m =>
              match hit m with
              | some r => (t.coreCorrected c (r.1 + 1) r.2).coreGoOn c w f
              | none => t.coreGoOn c w f
            | _ => t.coreGoOn c w f

/-- An effect on the core alone. -/
def State.onCore (s : State) (c : Nat) (f : CoreState → CoreState) : State := s.setCore c (f (s.core c))

/-! ### Control, branch and loop (R376 to R380, R382, R384) -/

/-- HALT. -/
def execHalt (core : Fin 13) (cycles : Nat) (upset : CoreUpset) (s : State) : Out :=
  .next (s.coreInstr core.val cycles upset (fun op s => match op with
    | .halt => some (s, .halt)
    | _ => none))

/-- NOP. -/
def execNop (core : Fin 13) (cycles : Nat) (upset : CoreUpset) (s : State) : Out :=
  .next (s.coreInstr core.val cycles upset (fun op s => match op with
    | .nop => some (s, .seq)
    | _ => none))

/-- WAIT. -/
def execWait (core : Fin 13) (cycles : Nat) (upset : CoreUpset) (s : State) : Out :=
  .next (s.coreInstr core.val cycles upset (fun op s => match op with
    | .wait => some (s, .wait)
    | _ => none))

/-- TRAP. -/
def execTrapSw (core : Fin 13) (cycles : Nat) (upset : CoreUpset) (s : State) : Out :=
  .next (s.coreInstr core.val cycles upset (fun op s => match op with
    | .trap n => some (s, .trap trapSoftware n none)
    | _ => none))

/-- ISYNC empties the prefetch queue and the repeat cache. -/
def execIsync (core : Fin 13) (cycles : Nat) (upset : CoreUpset) (s : State) : Out :=
  .next (s.coreInstr core.val cycles upset (fun op s => match op with
    | .isync => some (s.onCore core.val (fun x =>
        { x with queue := [], loops := x.loops.map (fun f => { f with cached := false, body := [] }) }), .seq)
    | _ => none))

/-- The SR bits that exist. -/
def srMask (n : Nat) : Nat := n % 2 ^ 14

/-- BSET. -/
def execBset (core : Fin 13) (cycles : Nat) (upset : CoreUpset) (s : State) : Out :=
  .next (s.coreInstr core.val cycles upset (fun op s => match op with
    | .bset m => some (s.onCore core.val (fun x => { x with sr := x.sr ||| srMask m }), .seq)
    | _ => none))

/-- BCLR. -/
def execBclr (core : Fin 13) (cycles : Nat) (upset : CoreUpset) (s : State) : Out :=
  .next (s.coreInstr core.val cycles upset (fun op s => match op with
    | .bclr m => some (s.onCore core.val (fun x => { x with sr := x.sr - (x.sr &&& srMask m) }), .seq)
    | _ => none))

/-- DEBUG: a NOP; what it does for an unlocked core debug is the debug unit's. -/
def execDebug (core : Fin 13) (cycles : Nat) (upset : CoreUpset) (s : State) : Out :=
  .next (s.coreInstr core.val cycles upset (fun op s => match op with
    | .debug => some (s, .seq)
    | _ => none))

/-- A branch condition (R384). -/
def CoreState.holds (x : CoreState) (cond : Nat) : Bool :=
  let z := x.flag srZ
  let n := x.flag srN
  match cond with
  | 0 => true
  | 1 => z
  | 2 => !z
  | 3 => n
  | 4 => !n
  | 5 => !n && !z
  | 6 => n || z
  | 7 => x.flag srV
  | _ => x.flag srCl

/-- BRA. -/
def execBra (core : Fin 13) (cycles : Nat) (upset : CoreUpset) (s : State) : Out :=
  .next (s.coreInstr core.val cycles upset (fun op s => match op with
    | .bra cond t => some (s, if (s.core core.val).holds cond then .jump t else .seq)
    | _ => none))

/-- BRA (An): the address in An. -/
def execBraAn (core : Fin 13) (cycles : Nat) (upset : CoreUpset) (s : State) : Out :=
  .next (s.coreInstr core.val cycles upset (fun op s => match op with
    | .braAn cond an =>
      let x := s.core core.val
      some (s, if x.holds cond then .jump (x.r (0x20 + an)) else .seq)
    | _ => none))

/-- CALL pushes the address of the next instruction. -/
def execCall (core : Fin 13) (cycles : Nat) (upset : CoreUpset) (s : State) : Out :=
  .next (s.coreInstr core.val cycles upset (fun op s => match op with
    | .call cond t =>
      let x := s.core core.val
      if !x.holds cond then some (s, .seq)
      else if x.stack.length < stackSize core.val then
        some (s.setCore core.val { x with stack := (x.pc + 1, none) :: x.stack }, .jump t)
      else some (s, .trap trapStack 0 none)
    | _ => none))

/-- RET. -/
def execRet (core : Fin 13) (cycles : Nat) (upset : CoreUpset) (s : State) : Out :=
  .next (s.coreInstr core.val cycles upset (fun op s => match op with
    | .ret cond =>
      let x := s.core core.val
      if !x.holds cond then some (s, .seq)
      else match x.stack with
        | (t, _) :: st => some (s.setCore core.val { x with stack := st }, .jump t)
        | [] => some (s, .trap trapStack 0 none)
    | _ => none))

/-- RTI pops PC and SR; an entry that a CALL pushed holds no SR, and the SR it gives is open. -/
def execRti (core : Fin 13) (cycles : Nat) (upset : CoreUpset) (s : State) : Out :=
  .next (s.coreInstr core.val cycles upset (fun op s => match op with
    | .rti cond =>
      let x := s.core core.val
      if !x.holds cond then some (s, .seq)
      else match x.stack with
        | (t, some sr) :: st => some (s.setCore core.val { x with stack := st, sr := sr }, .jump t)
        | (t, none) :: st =>
          some (s.useFresh.setCore core.val { x with stack := st, sr := (Config.openWord s.fresh).toNat % 2 ^ 14 }, .jump t)
        | [] => some (s, .trap trapStack 0 none)
    | _ => none))

/-- A LOOP of `count` iterations whose body ends `last` instructions after its first (R376). -/
def State.openLoop (s : State) (c count last : Nat) : State × CoreFlow :=
  let x := s.core c
  let stop := x.pc + 1 + last
  if count = 0 then (s, .skip stop)
  else if x.loops.length < 4 then
    (s.setCore c { x with loops := ⟨x.pc + 1, stop, count, x.stack.length, [], false⟩ :: x.loops }, .seq)
  else (s, .trap trapLoop 0 none)

/-- LOOP with an immediate count. -/
def execLoopImm (core : Fin 13) (cycles : Nat) (upset : CoreUpset) (s : State) : Out :=
  .next (s.coreInstr core.val cycles upset (fun op s => match op with
    | .loopImm n last => some (s.openLoop core.val n last)
    | _ => none))

/-- The low 16 bits of a register. -/
def State.readCount (s : State) (c reg : Nat) : State × Nat :=
  let r := (s.core c).readReg reg
  (s.setCore c r.1, r.2 % 65536)

/-- LOOP with a register count. -/
def execLoopReg (core : Fin 13) (cycles : Nat) (upset : CoreUpset) (s : State) : Out :=
  .next (s.coreInstr core.val cycles upset (fun op s => match op with
    | .loopReg r last =>
      let n := s.readCount core.val r
      some (n.1.openLoop core.val n.2 last)
    | _ => none))

/-- RPT of `n`: 0 skips the next instruction (R377). -/
def State.rptFlow (s : State) (c n : Nat) : CoreFlow := if n = 0 then .skip ((s.core c).pc + 1) else .repeatNext n

/-- RPT with an immediate count. -/
def execRptImm (core : Fin 13) (cycles : Nat) (upset : CoreUpset) (s : State) : Out :=
  .next (s.coreInstr core.val cycles upset (fun op s => match op with
    | .rptImm n => some (s, s.rptFlow core.val n)
    | _ => none))

/-- RPT with a register count. -/
def execRptReg (core : Fin 13) (cycles : Nat) (upset : CoreUpset) (s : State) : Out :=
  .next (s.coreInstr core.val cycles upset (fun op s => match op with
    | .rptReg r =>
      let n := s.readCount core.val r
      some (n.1, n.1.rptFlow core.val n.2)
    | _ => none))

/-! ### Moves (R368, R372, R384) -/

/-- MOVI: the immediate sign-extended, or its low byte into bits [23:16]. -/
def execMoveImmediate (core : Fin 13) (cycles : Nat) (upset : CoreUpset) (s : State) : Out :=
  .next (s.coreInstr core.val cycles upset (fun op s => match op with
    | .movi r part imm => some (s.onCore core.val (fun x =>
        x.writeReg r (if part = 0 then toCode 24 (sext 16 imm) else patch (x.peek r) 16 8 imm)), .seq)
    | _ => none))

/-- MOVE between registers. -/
def execRegisterMove (core : Fin 13) (cycles : Nat) (upset : CoreUpset) (s : State) : Out :=
  .next (s.coreInstr core.val cycles upset (fun op s => match op with
    | .move d r => some (s.onCore core.val (fun x => (x.readReg r).1.writeReg d (x.readReg r).2), .seq)
    | _ => none))

/-- A single load; a load of the address register that its own mode updates leaves an open value there. -/
def State.singleLoad (s : State) (c mem an mode reg disp : Nat) : State :=
  let x := s.core c
  let a := x.address an mode disp 1
  let v := x.readData mem (a.1 % dataWords c)
  if a.2 ≠ x.r (0x20 + an) ∧ reg = 0x20 + an then
    s.useFresh.setCore c (x.setR reg ((Config.openWord s.fresh).toNat % 2 ^ 24))
  else s.setCore c ((x.setR (0x20 + an) a.2).writeReg reg v)

/-- SINGLE_MOVE_LOAD. -/
def execSingleMoveLoad (core : Fin 13) (cycles : Nat) (upset : CoreUpset) (s : State) : Out :=
  .next (s.coreInstr core.val cycles upset (fun op s => match op with
    | .load m an mode r disp => some (s.singleLoad core.val m an mode r disp, .seq)
    | _ => none))

/-- SINGLE_MOVE_STORE: the register as it stood before An's update. -/
def execSingleMoveStore (core : Fin 13) (cycles : Nat) (upset : CoreUpset) (s : State) : Out :=
  .next (s.coreInstr core.val cycles upset (fun op s => match op with
    | .store m an mode r disp => some (s.onCore core.val (fun x =>
        let a := x.address an mode disp 1
        let v := x.readReg r
        (v.1.writeData m (a.1 % dataWords core.val) v.2).setR (0x20 + an) a.2), .seq)
    | _ => none))

/-! ### Accumulator arithmetic (R369, R370, R385) -/

/-- The flags of a result. -/
def CoreState.setFlags (x : CoreState) (code : Nat) (carry : Bool) : CoreState :=
  (((x.setFlag srC carry).setFlag srV (!fits48 code)).setFlag srZ (code == 0)).setFlag srN (decide (sext 56 code < 0))

/-- A value clamped to ±1.0 of Q1.47 (SAT 1). -/
def clamp48 (z : Int) : Int := satInt 48 z

/-- A result as the accumulator takes it: clamped with SAT 1, which sets CL, else modulo 2 ^ 56. -/
def CoreState.result (x : CoreState) (z : Int) : CoreState × Nat :=
  if x.flag srSat && clamp48 z != z then (x.setFlag srCl true, toCode 56 (clamp48 z)) else (x, toCode 56 z)

/-- An ALU result into accumulator `d` with its flags; the spec states the carry of sums only, another one is open. -/
def State.aluDone (s : State) (c d : Nat) (z : Int) (carry : Option Bool) : State × CoreFlow :=
  let r := (s.core c).result z
  let s' := if carry.isNone then s.useFresh else s
  (s'.setCore c ((r.1.setAcc d r.2).setFlags r.2 (carry.getD ((Config.openWord s.fresh).toNat % 2 == 1))), .seq)

/-- The carry out of bit 55 of a sum. -/
def sumCarry (a b : Int) : Bool := decide (2 ^ 56 ≤ toCode 56 a + toCode 56 b)

/-- An open accumulator value, where no 56-bit result is stated. -/
def State.openAcc (s : State) : Int :=
  sext 56 ((Config.openWord s.fresh).toNat + 2 ^ 32 * (Config.openWord (s.fresh + 1)).toNat)

/-- The least accumulator value, whose magnitude and negation do not fit. -/
def accLeast : Int := -2 ^ 55

/-- −ACCS and |ACCS|: of the least value with SAT 0 the result is open. -/
def State.negDone (s : State) (c d : Nat) (z : Int) : State × CoreFlow :=
  if z = -accLeast ∧ !(s.core c).flag srSat then s.useFresh.useFresh.aluDone c d s.openAcc none else s.aluDone c d z none

/-- CLR. -/
def execClr (core : Fin 13) (cycles : Nat) (upset : CoreUpset) (s : State) : Out :=
  .next (s.coreInstr core.val cycles upset (fun op s => match op with
    | .alu 0x00 d _ _ => some (s.aluDone core.val d 0 none)
    | _ => none))

/-- MOVA. -/
def execMova (core : Fin 13) (cycles : Nat) (upset : CoreUpset) (s : State) : Out :=
  .next (s.coreInstr core.val cycles upset (fun op s => match op with
    | .alu 0x01 d r _ => some (s.aluDone core.val d ((s.core core.val).accVal r) none)
    | _ => none))

/-- ADD. -/
def execAddAcc (core : Fin 13) (cycles : Nat) (upset : CoreUpset) (s : State) : Out :=
  .next (s.coreInstr core.val cycles upset (fun op s => match op with
    | .alu 0x02 d r _ =>
      let a := (s.core core.val).accVal d
      let b := (s.core core.val).accVal r
      some (s.aluDone core.val d (a + b) (some (sumCarry a b)))
    | _ => none))

/-- SUB. -/
def execSubAcc (core : Fin 13) (cycles : Nat) (upset : CoreUpset) (s : State) : Out :=
  .next (s.coreInstr core.val cycles upset (fun op s => match op with
    | .alu 0x03 d r _ => some (s.aluDone core.val d ((s.core core.val).accVal d - (s.core core.val).accVal r) none)
    | _ => none))

/-- NEG. -/
def execNegAcc (core : Fin 13) (cycles : Nat) (upset : CoreUpset) (s : State) : Out :=
  .next (s.coreInstr core.val cycles upset (fun op s => match op with
    | .alu 0x04 d r _ => some (s.negDone core.val d (-(s.core core.val).accVal r))
    | _ => none))

/-- ABS. -/
def execAbsAcc (core : Fin 13) (cycles : Nat) (upset : CoreUpset) (s : State) : Out :=
  .next (s.coreInstr core.val cycles upset (fun op s => match op with
    | .alu 0x05 d r _ => some (s.negDone core.val d ((s.core core.val).accVal r).natAbs)
    | _ => none))

/-- CMP: the flags of the difference modulo 2 ^ 56; no accumulator changes. -/
def execCmpAcc (core : Fin 13) (cycles : Nat) (upset : CoreUpset) (s : State) : Out :=
  .next (s.coreInstr core.val cycles upset (fun op s => match op with
    | .alu 0x06 d r _ =>
      let x := s.core core.val
      some (s.useFresh.setCore core.val
        (x.setFlags (toCode 56 (x.accVal d - x.accVal r)) ((Config.openWord s.fresh).toNat % 2 == 1)), .seq)
    | _ => none))

/-- RND: H rounded by L, half to even, and L 0. -/
def execRnd (core : Fin 13) (cycles : Nat) (upset : CoreUpset) (s : State) : Out :=
  .next (s.coreInstr core.val cycles upset (fun op s => match op with
    | .alu 0x07 d _ _ => some (s.aluDone core.val d (roundHalfEven ((s.core core.val).accVal d) 24 * 2 ^ 24) none)
    | _ => none))

/-- SATA: the clamp of SAT 1, whatever SAT is. -/
def execSata (core : Fin 13) (cycles : Nat) (upset : CoreUpset) (s : State) : Out :=
  .next (s.coreInstr core.val cycles upset (fun op s => match op with
    | .alu 0x08 d _ _ =>
      let z := (s.core core.val).accVal d
      let s := if clamp48 z ≠ z then s.onCore core.val (fun x => x.setFlag srCl true) else s
      some (s.aluDone core.val d (clamp48 z) none)
    | _ => none))

/-- ASL wraps, whatever SAT is. -/
def execAsl (core : Fin 13) (cycles : Nat) (upset : CoreUpset) (s : State) : Out :=
  .next (s.coreInstr core.val cycles upset (fun op s => match op with
    | .alu 0x09 d r sh =>
      let x := s.core core.val
      let code := toCode 56 (x.accVal r * 2 ^ sh)
      some (s.useFresh.setCore core.val ((x.setAcc d code).setFlags code ((Config.openWord s.fresh).toNat % 2 == 1)), .seq)
    | _ => none))

/-- ASR truncates. -/
def execAsr (core : Fin 13) (cycles : Nat) (upset : CoreUpset) (s : State) : Out :=
  .next (s.coreInstr core.val cycles upset (fun op s => match op with
    | .alu 0x0A d r sh => some (s.aluDone core.val d ((s.core core.val).accVal r / 2 ^ sh) none)
    | _ => none))

/-- Register `code` aligned to H, for ADDR and SUBR; a clamped view that clamps sets CL. -/
def State.alignedReg (s : State) (c code : Nat) : State × Int :=
  let r := (s.core c).readReg code
  (s.setCore c r.1, sext 24 r.2 * 2 ^ 24)

/-- ADDR. -/
def execAddr (core : Fin 13) (cycles : Nat) (upset : CoreUpset) (s : State) : Out :=
  .next (s.coreInstr core.val cycles upset (fun op s => match op with
    | .alu 0x0B d _ sh =>
      let r := s.alignedReg core.val sh
      let a := (s.core core.val).accVal d
      some (r.1.aluDone core.val d (a + r.2) (some (sumCarry a r.2)))
    | _ => none))

/-- SUBR. -/
def execSubr (core : Fin 13) (cycles : Nat) (upset : CoreUpset) (s : State) : Out :=
  .next (s.coreInstr core.val cycles upset (fun op s => match op with
    | .alu 0x0C d _ sh =>
      let r := s.alignedReg core.val sh
      some (r.1.aluDone core.val d ((s.core core.val).accVal d - r.2) none)
    | _ => none))

/-- AND, OR and XOR: on H only. -/
def State.logicH (s : State) (c d r : Nat) (f : Nat → Nat → Nat) : State × CoreFlow :=
  let x := s.core c
  let h := fun k => x.accCode k / 2 ^ 24 % 2 ^ 24
  s.aluDone c d (sext 56 (patch (x.accCode d) 24 24 (f (h d) (h r)))) none

/-- AND. -/
def execAndAcc (core : Fin 13) (cycles : Nat) (upset : CoreUpset) (s : State) : Out :=
  .next (s.coreInstr core.val cycles upset (fun op s => match op with
    | .alu 0x0D d r _ => some (s.logicH core.val d r (· &&& ·))
    | _ => none))

/-- OR. -/
def execOrAcc (core : Fin 13) (cycles : Nat) (upset : CoreUpset) (s : State) : Out :=
  .next (s.coreInstr core.val cycles upset (fun op s => match op with
    | .alu 0x0E d r _ => some (s.logicH core.val d r (· ||| ·))
    | _ => none))

/-- XOR. -/
def execXorAcc (core : Fin 13) (cycles : Nat) (upset : CoreUpset) (s : State) : Out :=
  .next (s.coreInstr core.val cycles upset (fun op s => match op with
    | .alu 0x0F d r _ => some (s.logicH core.val d r (· ^^^ ·))
    | _ => none))

/-- The redundant sign bits of a 56-bit value, 0 to 55. -/
def signBits (z : Int) : Nat :=
  let m := if z < 0 then (-z - 1).toNat else z.toNat
  if m = 0 then 55 else 54 - Nat.log2 m

/-- NORM: the count in H. -/
def execNorm (core : Fin 13) (cycles : Nat) (upset : CoreUpset) (s : State) : Out :=
  .next (s.coreInstr core.val cycles upset (fun op s => match op with
    | .alu 0x10 d r _ => some (s.aluDone core.val d (signBits ((s.core core.val).accVal r) * 2 ^ 24) none)
    | _ => none))

/-! ### Address arithmetic (R373) -/

/-- An moves by a signed step in its buffer. -/
def State.moveA (s : State) (c an : Nat) (step : Int) : State × CoreFlow :=
  (s.onCore c (fun x => x.setR (0x20 + an) (modular (x.r (0x20 + an)) (x.r (0x40 + an)) step)), .seq)

/-- ADDA. -/
def execAdda (core : Fin 13) (cycles : Nat) (upset : CoreUpset) (s : State) : Out :=
  .next (s.coreInstr core.val cycles upset (fun op s => match op with
    | .adda an on => some (s.moveA core.val an (sext 24 ((s.core core.val).r (0x30 + on))))
    | _ => none))

/-- SUBA. -/
def execSuba (core : Fin 13) (cycles : Nat) (upset : CoreUpset) (s : State) : Out :=
  .next (s.coreInstr core.val cycles upset (fun op s => match op with
    | .suba an on => some (s.moveA core.val an (-sext 24 ((s.core core.val).r (0x30 + on))))
    | _ => none))

/-- ADDI. -/
def execAddi (core : Fin 13) (cycles : Nat) (upset : CoreUpset) (s : State) : Out :=
  .next (s.coreInstr core.val cycles upset (fun op s => match op with
    | .addi an imm => some (s.moveA core.val an (sext 16 imm))
    | _ => none))

/-! ### Multiplies with parallel loads (R370, R384) -/

/-- One parallel load from memory `m`. -/
def CoreState.parLoad (x : CoreState) (c : Nat) (l : ParLoad) (m : Nat) : CoreState :=
  if l.en then
    let a := x.address l.an l.mode 0 1
    (x.setR l.dst (x.readData m (a.1 % dataWords c))).setR (0x20 + l.an) a.2
  else x

/-- The product of two K registers, by their codes, as R370 aligns it. -/
def CoreState.product (x : CoreState) (i j : Nat) : Int :=
  sext 24 (x.r i) * sext 24 (x.r j) * (if x.flag srIm then 1 else 2)

/-- The K registers of both units by PAIR. -/
def pairs (p : Nat) : (Nat × Nat) × (Nat × Nat) :=
  match p with
  | 0 => ((0, 2), (1, 3))
  | 1 => ((0, 3), (1, 2))
  | 2 => ((0, 2), (0, 3))
  | _ => ((0, 2), (1, 2))

/-- What a unit makes of its destination and the product. -/
def MulOp.apply (o : MulOp) (a p : Int) : Int :=
  match o with
  | .mac => a + p
  | .msu => a - p
  | .mpy => p

/-- A multiply of one or both units; the loads see the K registers afterwards. One unit sets the flags of its result, with the carry
of a sum; the flags of two results are open. -/
def State.mulDone (s : State) (c : Nat) (o : MulOp) (dual : Bool) (a b pair : Nat) (lx ly : ParLoad) (ymem : Nat) :
    State × CoreFlow :=
  let x := s.core c
  let p1 := x.product (pairs pair).1.1 (pairs pair).1.2
  let p2 := x.product (pairs pair).2.1 (pairs pair).2.2
  let w := (Config.openWord s.fresh).toNat
  let r1 := x.result (o.apply (x.accVal a) p1)
  let y := r1.1.setAcc a r1.2
  let y := if dual then
      let r2 := y.result (o.apply (x.accVal b) p2)
      let y := r2.1.setAcc b r2.2
      { y with sr := y.sr - y.sr % 16 + w % 16 }
    else y.setFlags r1.2 (if o = .mac then sumCarry (x.accVal a) p1 else w % 2 == 1)
  let s := if dual || o != .mac then s.useFresh else s
  (s.setCore c ((y.parLoad c lx 0).parLoad c ly ymem), .seq)

/-- PARALLEL_LOADS. -/
def execParallelLoads (core : Fin 13) (cycles : Nat) (upset : CoreUpset) (s : State) : Out :=
  .next (s.coreInstr core.val cycles upset (fun op s => match op with
    | .loads x y ym => some (s.onCore core.val (fun k => (k.parLoad core.val x 0).parLoad core.val y ym), .seq)
    | _ => none))

/-- MAC. -/
def execMac (core : Fin 13) (cycles : Nat) (upset : CoreUpset) (s : State) : Out :=
  .next (s.coreInstr core.val cycles upset (fun op s => match op with
    | .mul .mac dual a b p x y ym => some (s.mulDone core.val .mac dual a b p x y ym)
    | _ => none))

/-- MSU. -/
def execMsu (core : Fin 13) (cycles : Nat) (upset : CoreUpset) (s : State) : Out :=
  .next (s.coreInstr core.val cycles upset (fun op s => match op with
    | .mul .msu dual a b p x y ym => some (s.mulDone core.val .msu dual a b p x y ym)
    | _ => none))

/-- MPY. -/
def execMpy (core : Fin 13) (cycles : Nat) (upset : CoreUpset) (s : State) : Out :=
  .next (s.coreInstr core.val cycles upset (fun op s => match op with
    | .mul .mpy dual a b p x y ym => some (s.mulDone core.val .mpy dual a b p x y ym)
    | _ => none))

/-- A complex multiply into a pair: x = K0 + jK1, y = K2 + jK3, conjugated with CONJ. The flags of the two results are open. -/
def State.cmulDone (s : State) (c : Nat) (o : MulOp) (p conj : Bool) (lx ly lz : ParLoad) : State × CoreFlow :=
  let x := s.core c
  let k := if p then 2 else 0
  let j : Int := if conj then -1 else 1
  let re := x.product 0 2 - j * x.product 1 3
  let im := j * x.product 0 3 + x.product 1 2
  let r1 := x.result (o.apply (x.accVal k) re)
  let y := r1.1.setAcc k r1.2
  let r2 := y.result (o.apply (x.accVal (k + 1)) im)
  let y := r2.1.setAcc (k + 1) r2.2
  let y : CoreState := { y with sr := y.sr - y.sr % 16 + (Config.openWord s.fresh).toNat % 16 }
  (s.useFresh.setCore c (((y.parLoad c lx 0).parLoad c ly 1).parLoad c lz 2), .seq)

/-- CMAC. -/
def execCmac (core : Fin 13) (cycles : Nat) (upset : CoreUpset) (s : State) : Out :=
  .next (s.coreInstr core.val cycles upset (fun op s => match op with
    | .cmul .mac p conj x y z => some (s.cmulDone core.val .mac p conj x y z)
    | _ => none))

/-- CMSU. -/
def execCmsu (core : Fin 13) (cycles : Nat) (upset : CoreUpset) (s : State) : Out :=
  .next (s.coreInstr core.val cycles upset (fun op s => match op with
    | .cmul .msu p conj x y z => some (s.cmulDone core.val .msu p conj x y z)
    | _ => none))

/-- CMPY. -/
def execCmpy (core : Fin 13) (cycles : Nat) (upset : CoreUpset) (s : State) : Out :=
  .next (s.coreInstr core.val cycles upset (fun op s => match op with
    | .cmul .mpy p conj x y z => some (s.cmulDone core.val .mpy p conj x y z)
    | _ => none))

/-! ### System accesses, mailboxes and doorbells (R374, R386, R387) -/

/-- A system access is issued, and the core stalls; an address that is not a multiple of 4 traps. -/
def State.sysIssue (s : State) (c an mode acc disp : Nat) (write : Bool) : State × CoreFlow :=
  let x := s.core c
  let a := x.address an mode disp 4
  let addr := x.r 0x17 * 2 ^ 24 + a.1
  if addr % 4 ≠ 0 then (s, .trap trapSysErr 0 (some addr))
  else (s, .stall ⟨write, addr, BitVec.ofNat 32 (x.accCode acc), acc, an, a.2, x.next⟩)

/-- SYSTEM_LOAD. -/
def execSystemLoad (core : Fin 13) (cycles : Nat) (upset : CoreUpset) (s : State) : Out :=
  .next (s.coreInstr core.val cycles upset (fun op s => match op with
    | .sysLoad an mode acc disp => some (s.sysIssue core.val an mode acc disp false)
    | _ => none))

/-- SYSTEM_STORE. -/
def execSystemStore (core : Fin 13) (cycles : Nat) (upset : CoreUpset) (s : State) : Out :=
  .next (s.coreInstr core.val cycles upset (fun op s => match op with
    | .sysStore an mode acc disp => some (s.sysIssue core.val an mode acc disp true)
    | _ => none))

/-- SYSTEM_ACCESS_TIMEOUT: no response within 2,048 cycles. -/
def execSystemAccessTimeout (core : Fin 13) (s : State) : Out :=
  .next (match (s.core core.val).sys with
  | some a => (s.addCycles core.val 2048).coreTrap core.val trapSysTimeout 0 (some a.addr) 0
  | none => s)

/-- MBXRD: the entry as a sign-extended integer, or 0. -/
def execMbxrd (core : Fin 13) (cycles : Nat) (upset : CoreUpset) (s : State) : Out :=
  .next (s.coreInstr core.val cycles upset (fun op s => match op with
    | .mbxrd k =>
      let r := s.mbxPop core.val false
      some (r.1.onCore core.val (fun x => x.setAcc k (toCode 56 (sext 32 r.2.toNat))), .seq)
    | _ => none))

/-- MBXWR. -/
def execMbxwr (core : Fin 13) (cycles : Nat) (upset : CoreUpset) (s : State) : Out :=
  .next (s.coreInstr core.val cycles upset (fun op s => match op with
    | .mbxwr k => some (s.mbxPush core.val true (BitVec.ofNat 32 ((s.core core.val).accCode k)), .seq)
    | _ => none))

/-- RING. -/
def execRing (core : Fin 13) (cycles : Nat) (upset : CoreUpset) (s : State) : Out :=
  .next (s.coreInstr core.val cycles upset (fun op s => match op with
    | .ring n => some (s.doorbellAdd core.val n, .seq)
    | _ => none))

/-! ### Interrupts (R379) -/

/-- INTERRUPT_TAKEN: the lowest pending and enabled source below ILVL, at a boundary. A WAIT whose condition holds ends. -/
def execInterruptTaken (core : Fin 13) (s : State) : Out :=
  .next (let c := core.val
    let x := s.core c
    let m := s.corePending c &&& s.fld (Fld.CORE_IRQ_EN c)
    if !s.domOn pdDsp || s.coreStopped c || s.coreStateNow c != coreRun || x.sys.isSome then s
    else
      let s := s.setCoreState c coreRun
      match (List.range 16).find? (fun k => bitOf m k && decide (k < x.ilvl)) with
      | some k =>
        if x.flag srIe && x.rpt.isNone && !x.srMoved then
          if x.stack.length < stackSize c then
            let y : CoreState := { x with stack := (x.pc, some x.sr) :: x.stack }
            (s.setCore c ((y.setIlvl k).goTo c (0x000C + 4 * k))).coreBoundary c
          else s.coreTrap c trapStack 0 none 0
        else s
      | none => s)

end Sys2Proof.Machine
end

