-- ==== Sys2Proof/Machine/Events.lean ====
section
/-!
DEFINITION. The event unit's recording side: the raise FIFO's head, the sticky bits and counts, and the routes (R405, R406,
R447).
-/

namespace Sys2Proof.Machine

/-- IRQ_N is low during a ping's pulse (R434), and while IRQ_EN is 1 and some code has both its STAT and its RT_IRQ bit (R406). -/
def State.settleIrq (s : State) : State :=
  { s with pins := { s.pins with
    irqN := !(s.pwr.ping || (s.domOn pdCtl && s.on Fld.EVT_CTRL_IRQ_EN && s.statRouted Reg.EVT_RT_IRQk)) } }

/-- Bit `c` of one of the event unit's arrays of eight words. -/
def State.codeBit (s : State) (word : Nat → Nat) (c : Nat) : Bool := bitOf (s.rd (word (c / 32))).toNat (c % 32)

/-- An occurrence whose EN bit is 1 is recorded: its STAT bit, its count and its INFO (R405). -/
def State.recordEvent (s : State) (r : EventRec) : State :=
  let a := Reg.EVT_STATk (r.code / 32)
  let s := s.wr a (BitVec.ofNat 32 (setBitOf (s.rd a).toNat (r.code % 32) true))
  (s.count (Fld.EVT_CNTc_COUNT r.code) 1).wr (Reg.EVT_INFOc r.code) r.info

/-- The packet route: the record joins the EVT records, or is discarded while the link is not ACTIVE or QE is not in use
(R406, R152). -/
def State.routePacket (s : State) (r : EventRec) : State :=
  if !s.codeBit Reg.EVT_RT_PKTk r.code then s
  else if s.linkIs lnkActive && (s.queue 26).use then s.addRecord r (s.fld (Fld.EVT_CNTc_COUNT r.code))
  else s.count Fld.EVT_DROP_NOLINK 1

/-- EVENT_RECORD: the unit takes the oldest occurrence from the raise FIFO (R405). -/
def execEventRecord (s : State) : Out :=
  .next (match s.raise with
  | [] => s
  | r :: rs =>
    let s := { s with raise := rs }
    if s.codeBit Reg.EVT_ENk r.code then ((s.recordEvent r).routePacket r).settleIrq else s)

/-- A write to EVT_CTRL: CNT_CLR clears every EVT_CNTc and EVT_DROP at once (R447). -/
def State.evtCtrlWrite (s : State) (d : Word) : State :=
  let s := s.plainWrite Reg.EVT_CTRL (Fld.EVT_CTRL_CNT_CLR.put 0 d)
  let s := if Fld.EVT_CTRL_CNT_CLR.of d = 1 then
      (s.resetRange (Reg.EVT_CNTc 0) (Reg.EVT_CNTc 256)).wr Reg.EVT_DROP 0
    else s
  s.settleIrq

/-- EVT_SUMMARY as read: bit k says that some STAT bit of word k is set. -/
def State.evtSummary (s : State) : Word :=
  BitVec.ofNat 32 (bitsToNat ((List.range 8).map (fun k => s.rd (Reg.EVT_STATk k) != 0)))

end Sys2Proof.Machine
end

