-- ==== Sys2Proof/Machine/Lin.lean ====
section
/-!
DEFINITION. Pre-distortion and transmit power control (spec/10): load engines and swaps (R283 to R286), the observation
sequencer, captures and correlator (R287 to R293), LOP2 (R295, R296), CFR kernels (R299) and transmit gain (R300 to R303).
-/

namespace Sys2Proof.Machine

def State.lg (s : State) (g : Nat) : LinGroup := SMap.get LinGroup.idle s.lin.groups g

def State.setLg (s : State) (g : Nat) (x : LinGroup) : State :=
  { s with lin := { s.lin with groups := SMap.set LinGroup.idle s.lin.groups g x } }

/-! ### Coefficient banks (R281, R283, R284) -/

/-- The identity set: M_0 at 1.0 in every entry, every other entry 0. -/
def identityBank : List Word := (List.range 64).flatMap (fun _ => [0x10000#32, 0#32]) ++ List.replicate 2432 0#32

def bankKey (p c b : Nat) : Nat := 8 * p + 2 * c + b

def State.pdBank (s : State) (p c b : Nat) : List Word := SMap.get identityBank s.lin.banks (bankKey p c b)

def State.setPdBank (s : State) (p c b : Nat) (ws : List Word) : State :=
  { s with lin := { s.lin with banks := SMap.set identityBank s.lin.banks (bankKey p c b) ws } }

/-- The active bank of local path `i` of group `g` and class `c`. -/
def State.activeBank (s : State) (g i c : Nat) : Nat := bit (bitOf (s.fld (Fld.LIN_PGg_PD_ACTIVE_BANK g)) (4 * i + c))

/-- PD_LIN powers up: the kernels' centre taps (R299); the banks and their pointers return to the identity set with the domain. -/
def State.linPowerUp (s : State) : State :=
  { s with lin := LinState.idle }.forEach 8 (fun s k => s.wr (Reg.LIN_KERNk (k / 4) (k % 4) 127) 0x7FFF#32)

/-! ### LOP2 (R295, R296) -/

/-- A unit's record is written, and LOP2 goes on or ends. -/
def State.lop2Unit (s : State) (result iter before after : Nat) : State :=
  match s.lin.lop2 with
  | some u =>
    match u.units with
    | k :: ks =>
      let rec_ := leBytes 1 (k / 4) ++ leBytes 1 (k % 4) ++ leBytes 1 result ++ leBytes 1 iter ++ leBytes 2 before ++
        leBytes 2 after ++ leBytes 4 s.air ++ leBytes 4 0
      let s := s.storePut (u.dest + 16 * u.done) rec_ reqFabric
      let s := s.setFld (Fld.LOP_STATn_UNITS_DONE 2) (u.done + 1)
      if ks = [] then
        let s : State := { s with lin := { s.lin with lop2 := none } }
        ((s.setFld Fld.LIN_LOP2_CTRL_GO 0).setFld Fld.LIN_LOP2_CTRL_ABORT 0).lopEnd 2 lopDone 0
      else { s with lin := { s.lin with lop2 := some ⟨ks, u.done + 1, u.dest⟩ } }
    | [] => s
  | none => s

/-- The registers of group `g`'s sequencer, correlator, load engine and swap (R295). -/
def firmwareRegs (g : Nat) : List Nat :=
  [Reg.LIN_PGg_SEQ_CTRL g, Reg.LIN_PGg_SEQ_CFG g, Reg.LIN_PGg_ORXMAP g, Reg.LIN_PGg_COR_CTRL g, Reg.LIN_PGg_COR_DEST g,
    Reg.LIN_PGg_LOAD_CTRL g, Reg.LIN_PGg_LOAD_ADDR g, Reg.LIN_PGg_SWAP_CTRL g]

/-- A write to one of them, at `a`, by another requester than the group's Tutor and Dean, which run the firmware, ends the group's current
unit DISTURBED; what the record says of its cycles and errors then is open. -/
def State.disturbLop2 (s : State) (g a : Nat) (q : Requester) : State :=
  let own := match q with
    | .dean => true
    | .tutor n => n.val == g
    | _ => false
  match s.lin.lop2 with
  | some u =>
    let owned := (firmwareRegs g).contains a || decide (Reg.LIN_PGg_BASISj g 0 ≤ a ∧ a < Reg.LIN_PGg_BASISj g 96)
    if !own && owned && (u.units.head?.map (· / 32)) == some g then
      let w := (Config.openWord s.fresh).toNat
      let v := (Config.openWord (s.fresh + 1)).toNat
      s.useFresh.useFresh.lop2Unit 4 (v % 256) (w % 65536) (w / 65536)
    else s
  | none => s

/-- LOP2 ends before its last unit. -/
def State.lop2End (s : State) (state err : Nat) : State :=
  let s : State := { s with lin := { s.lin with lop2 := none } }
  ((s.setFld Fld.LIN_LOP2_CTRL_GO 0).setFld Fld.LIN_LOP2_CTRL_ABORT 0).lopEnd 2 state err

/-- The paths of LIN_LOP2_PATHS. -/
def State.lop2Paths (s : State) : List Nat :=
  (List.range 64).filter (fun p => bitOf (s.fld Fld.LIN_LOP2_PATHS_LO_PATHS + 2 ^ 32 * s.fld Fld.LIN_LOP2_PATHS_HI_PATHS) p)

/-- A write to LIN_LOP2_CTRL. -/
def State.lop2Write (s : State) (d : Word) : State :=
  let go := Fld.LIN_LOP2_CTRL_GO.of d == 1
  if go && s.lopBusy 2 then s.setFld Fld.LIN_LOP2_CTRL_OVERRUN 1
  else
    let s := s.plainWrite Reg.LIN_LOP2_CTRL (Fld.LIN_LOP2_CTRL_ABORT.put 0 (Fld.LIN_LOP2_CTRL_GO.put 0 d))
    let s := if Fld.LIN_LOP2_CTRL_ABORT.of d = 1 ∧ s.lopBusy 2 then s.lop2End lopAborted 4 else s
    if go then
      let units := s.lop2Paths.flatMap (fun p =>
        ((List.range 4).filter (bitOf (s.fld Fld.LIN_LOP2_CTRL_CLASSES))).map (4 * p + ·))
      let dest := s.fld Fld.LIN_LOP2_DEST_ADDR
      let s := (s.lopStart 2 lopRunning units.length).setFld Fld.LIN_LOP2_CTRL_GO 1
      if !units.any (fun u => s.on (Fld.RFE_PGg_CFG_FITTED (u / 32))) then s.lop2End lopFailed 1
      else if !s.domOn pdDsp then s.lop2End lopFailed 2
      else if dest < storeBase ∨ storeEnd < dest + 16 * units.length then s.lop2End lopFailed 3
      else { s with lin := { s.lin with lop2 := some ⟨units, 0, dest⟩ } }
    else s

/-- How a LOP2 unit of a served group ends: OK, NO_CAPTURE or DIVERGED (R296). -/
def lop2Result : Fin 3 → Nat
  | 0 => 0 | 1 => 2 | _ => 3

/-- LOP2_UNIT_END: the firmware's result for the current pair; a group whose Tutor runs a user program is NOT_SERVED, with no cycle run.
A unit that ends OK has run ITER cycles, another at most as many. -/
def execLop2UnitEnd (result : Fin 3) (iter : Byte) (before after : BitVec 16) (s : State) : Out :=
  .next (match s.lin.lop2 with
  | some u =>
    let user := (u.units.head?.map (fun k => s.boot.loaded.contains (k / 32))) == some true
    let all := max 1 (s.fld Fld.LIN_LOP2_CTRL_ITER)
    let cycles := if user then 0 else if result = 0 then all else min all iter.toNat
    s.lop2Unit (if user then 1 else lop2Result result) cycles before.toNat after.toNat
  | none => s)

/-! ### Load engines (R284, R285) -/

def pdBlockLen : Nat := 10240

/-- A transfer of group `g`'s engine ends; an error raises 0x81. -/
def State.pdLoadStop (s : State) (g err : Nat) (path : Nat) : State :=
  let s := s.setLg g { s.lg g with load := none }
  let s := (s.setFld (Fld.LIN_PGg_LOAD_STATUS_ERR g) err).setFld (Fld.LIN_PGg_LOAD_STATUS_STATE g) 0
  let s := (s.setFld (Fld.LIN_PGg_LOAD_CTRL_GO g) 0).corePend g 6
  if err = 0 then s.count (Fld.LIN_PGg_LOAD_STATUS_LOADS g) 1 else s.event 0x81 (err + 16 * g + 256 * path)

/-- A swap of local path `i` and class `c` waits. -/
def LinGroup.swapWaits (x : LinGroup) (i c : Nat) : Bool :=
  match x.swap with
  | some (k, m) => k == c && bitOf m i
  | none => false

/-- A write to LIN_PGg_LOAD_CTRL. -/
def State.pdLoadWrite (s : State) (g : Nat) (d : Word) : State :=
  let go := (Fld.LIN_PGg_LOAD_CTRL_GO g).of d == 1
  if go && s.on (Fld.LIN_PGg_LOAD_STATUS_STATE g) then s.setFld (Fld.LIN_PGg_LOAD_CTRL_OVERRUN g) 1
  else
    let s := s.plainWrite (Reg.LIN_PGg_LOAD_CTRL g) ((Fld.LIN_PGg_LOAD_CTRL_GO g).put 0 d)
    if go then
      let i := s.fld (Fld.LIN_PGg_LOAD_CTRL_PATH g)
      let c := s.fld (Fld.LIN_PGg_LOAD_CTRL_CLASS g)
      let wr := !s.on (Fld.LIN_PGg_LOAD_CTRL_OP g)
      let a := s.fld (Fld.LIN_PGg_LOAD_ADDR_ADDR g)
      if !s.storeRange a pdBlockLen then s.pdLoadStop g 1 i
      else if wr && (s.lg g).swapWaits i c then s.pdLoadStop g 3 i
      else
        let s := s.setLg g { s.lg g with load := some ⟨wr, i, c, s.on (Fld.LIN_PGg_LOAD_CTRL_SEL g), a⟩ }
        (s.setFld (Fld.LIN_PGg_LOAD_STATUS_STATE g) 1).setFld (Fld.LIN_PGg_LOAD_CTRL_GO g) 1
    else s

/-- PD_LOAD_END: the transfer of group `g` ends. -/
def execPdLoadEnd (g : Fin 8) (s : State) : Out :=
  .next (match (s.lg g.val).load with
  | some l =>
    let g := g.val
    let p := 8 * g + l.path
    if !s.storeRange l.addr pdBlockLen then s.pdLoadStop g 1 l.path
    else if l.write then
      let r := s.storeRead l.addr pdBlockLen reqCapture
      let b := 1 - s.activeBank g l.path l.cls
      if r.2.2 then
        (r.1.setPdBank p l.cls b ((bytesToWords r.2.1).map (· &&& 0x3FFFF#32))).pdLoadStop g 0 l.path
      else (r.1.setPdBank p l.cls b identityBank).pdLoadStop g 2 l.path
    else
      let a := s.activeBank g l.path l.cls
      (s.storePut l.addr (wordsToBytes (s.pdBank p l.cls (if l.shadow then 1 - a else a))) reqCapture).pdLoadStop g 0 l.path
  | none => s)

/-! ### Swaps (R286) -/

/-- A write to LIN_PGg_SWAP_CTRL. -/
def State.swapCtrlWrite (s : State) (g : Nat) (d : Word) : State :=
  let go := (Fld.LIN_PGg_SWAP_CTRL_GO g).of d == 1
  if go && s.on (Fld.LIN_PGg_SWAP_CTRL_GO g) then s.setFld (Fld.LIN_PGg_SWAP_CTRL_OVERRUN g) 1
  else
    let s := s.plainWrite (Reg.LIN_PGg_SWAP_CTRL g) d
    if go then
      s.setLg g { s.lg g with swap := some (s.fld (Fld.LIN_PGg_SWAP_CTRL_CLASS g), s.fld (Fld.LIN_PGg_SWAP_CTRL_PATHS g)) }
    else s

/-- The capture window of group `g` saw a change of the captured path (R288). -/
def State.mixCapture (s : State) (g : Nat) (hit : Capture → Bool) : State :=
  match (s.lg g).window with
  | some w =>
    if hit w && decide (s.air < w.air + 1024) then s.setLg g { s.lg g with window := some { w with mixed := true } } else s
  | none => s

/-! ### Sequencer (R287, R288) -/

def seqOff : Nat := 0
def seqAuto : Nat := 1
def seqSingle : Nat := 2

def State.seqMode (s : State) (g : Nat) : Nat := s.fld (Fld.LIN_PGg_SEQ_CTRL_MODE g)

/-- The local path that the sequencer of group `g` captures next: in AUTO the next of PATHS in turn, in SINGLE the lowest. -/
def State.nextPath (s : State) (g : Nat) : Option Nat :=
  let m := s.fld (Fld.LIN_PGg_SEQ_CTRL_PATHS g)
  if s.seqMode g = seqAuto then
    ((List.range 8).map (fun k => ((s.lg g).last + 1 + k) % 8)).find? (bitOf m)
  else if s.seqMode g = seqSingle then (List.range 8).find? (bitOf m)
  else none

/-- The sequencer selects its next path: between captures, the lines take SELi (R287). -/
def State.selectPath (s : State) (g : Nat) : State :=
  match s.nextPath g, (s.lg g).window with
  | some i, none =>
    let code := s.fld (Fld.LIN_PGg_ORXMAP_SELi g) / 8 ^ i % 8
    if code = (s.lg g).sel then s else s.setLg g { s.lg g with sel := code, selAt := some s.air }
  | _, _ => s

/-- The capture buffer is released once its record and the correlator are done with it (R290). -/
def State.releaseCapture (s : State) (g : Nat) : State :=
  if (!s.on (Fld.LIN_PGg_SEQ_CTRL_DRAIN_EN g) || (s.lg g).record == []) &&
      (!s.on (Fld.LIN_PGg_SEQ_CTRL_COR_EN g) || (s.lg g).run.isNone) then
    (s.setLg g { s.lg g with record := [], samples := [] }).setFld (Fld.LIN_PGg_CAP_STATUS_HELD g) 0
  else s

/-- A write to LIN_PGg_SEQ_CTRL. -/
def State.seqCtrlWrite (s : State) (g : Nat) (d : Word) : State :=
  ((s.plainWrite (Reg.LIN_PGg_SEQ_CTRL g) d).releaseCapture g).selectPath g

/-- A write to the register at `a` in the page of group `g` (R294). -/
def State.linPageWrite (s : State) (g a : Nat) (q : Requester) (d : Word) : State :=
  let s := s.disturbLop2 g a q
  if a = Reg.LIN_PGg_SEQ_CTRL g then s.seqCtrlWrite g d
  else if a = Reg.LIN_PGg_LOAD_CTRL g then s.pdLoadWrite g d
  else if a = Reg.LIN_PGg_SWAP_CTRL g then s.swapCtrlWrite g d
  else if a = Reg.LIN_PGg_LOAD_ADDR g ∨ a = Reg.LIN_PGg_COR_DEST g then s.plainWrite a (d &&& ~~~0x3F#32)
  else s.plainWrite a d

/-! ### Captures (R288 to R290) -/

/-- The mute gate holds path `p` (R246). -/
def State.pathMuted (s : State) (p : Nat) : Bool :=
  decide (s.air < s.time.muteEnd) || !s.time.everLocked || bitOf s.rf.muted (p / 8) || !s.groupOn (p / 8) ||
    bitOf s.rf.txQuiet p

/-- INTERVAL of group `g` has passed since the last capture start. -/
def State.intervalPast (s : State) (g : Nat) : Bool :=
  match (s.lg g).started with
  | some a => decide ((a : Int) * 100 + s.fld (Fld.LIN_PGg_SEQ_CTRL_INTERVAL g) * 12288 ≤ (s.air : Int) * 100)
  | none => true

/-- Every grid symbol that a window of 1,024 ticks from `a` touches is D or SB for group `g`. -/
def State.txThroughout (s : State) (g a : Nat) : Bool :=
  let tx := fun a => s.actsAs g a == dirD || s.actsAs g a == dirSb
  tx a && (decide (a + 1024 ≤ s.nextBoundary a) || tx (s.nextBoundary a))

/-- The spacing of capture starts, which AUTO has (R288). -/
def State.spacingOk (s : State) (g : Nat) : Bool := s.seqMode g != seqAuto || s.intervalPast g

/-- The conditions of R288 for a capture of local path `i` of group `g` now. -/
def State.mayCapture (s : State) (g i : Nat) : Bool :=
  let m := s.fld (Fld.LIN_PGg_SEQ_CTRL_CLASS_MASK g)
  (s.lg g).window.isNone && !s.on (Fld.LIN_PGg_CAP_STATUS_HELD g) && s.spacingOk g &&
    (match (s.lg g).selAt with
     | some a => decide (a + s.fld (Fld.LIN_PGg_SEQ_CFG_SW_SETTLE g) ≤ s.air)
     | none => true) &&
    (m == 0 || bitOf m s.time.pdClass) && s.txThroughout g s.air && !s.pathMuted (8 * g + i) && s.domOn pdLin

/-- ORX_CAPTURE_START: the window of group `g`'s next path begins, if the conditions of R288 hold. -/
def execOrxCaptureStart (g : Fin 8) (s : State) : Out :=
  .next (let g := g.val
    let s := s.selectPath g
    match s.nextPath g with
    | some i =>
      if s.mayCapture g i then
        let c := s.time.pdClass
        let w : Capture := ⟨i, c, s.fld (Fld.LIN_PGg_SEQ_CFG_REF_SRC g), s.activeBank g i c, false, s.air,
          s.fld (Fld.LIN_PATHp_REFDLY_DLY (8 * g + i)), 0, s.fld (Fld.RFE_PGg_ORX_OGAIN g), s.seqMode g == seqSingle⟩
        (s.setLg g { s.lg g with window := some w, started := some s.air, last := i }).setFld
          (Fld.LIN_PGg_CAP_STATUS_BUSY g) 1
      else s
    | none => s)

/-- The ORX full scale of a capture, in dBm (R324). -/
def Capture.fullScale (w : Capture) : Int := -10 + 3 * w.ogain

/-- Samples of a capture. -/
def capLen : Nat := 16384

/-- The I and Q codes of ORX sample `v`. -/
def orxCode (v : BitVec 24) : Int × Int := (sext 12 v.toNat, sext 12 (v.toNat / 4096))

/-- rnd(|o|² × 2²⁶) of one ORX sample, exact (R288). -/
def orxEnergy (v : BitVec 24) : Nat := (16 * ((orxCode v).1 ^ 2 + (orxCode v).2 ^ 2)).toNat

/-- The clipped codes of one ORX sample. -/
def orxClip (v : BitVec 24) : Nat :=
  let c := fun (z : Int) => if z = 2047 ∨ z = -2048 then 1 else 0
  c (orxCode v).1 + c (orxCode v).2

/-- An ORX sample as the word of R5: each code c as 16 c. -/
def orxWord (v : BitVec 24) : Word :=
  BitVec.ofNat 32 (toCode 16 (16 * (orxCode v).1) + 65536 * toCode 16 (16 * (orxCode v).2))

/-- Sample `k` of a capture of path `p` from the signal `x`, delayed by REFDLY / 16 samples (R288). -/
def Capture.aligned (w : Capture) (x : Int → Cpx) (k : Nat) : Cpx := (delayBy (4 * w.refDly) x (16 * (w.air : Int) + k)).1

/-- The signal that REF_SRC names: x, u or y. -/
def State.refSignal (s : State) (p src : Nat) (n : Int) : Cpx :=
  if src = 0 then s.stage8 p n else if src = 1 then (s.gainOut p n).1 else (s.stage9 p n).1

/-- The reference samples of a capture of path `p`, and E_x over the stage-8 output (R288). -/
def State.captureRef (s : State) (p : Nat) (w : Capture) : List Word :=
  (List.range capLen).map (fun k => if s.txSilent p then 0 else cpxWord (w.aligned (s.refSignal p w.refSrc) k))
def State.captureEx (s : State) (p : Nat) (w : Capture) : Nat :=
  if s.txSilent p then 0 else ((List.range capLen).map (fun k => energyOf (w.aligned (s.stage8 p) k))).sum % 2 ^ 48

/-- The capture record as words (R289). -/
def captureRecord (w : Capture) (eorx ex : Nat) (orx : List (BitVec 24)) (ref : List Word) : List Word :=
  bytesToWords (leBytes 4 0x50414358 ++ leBytes 1 (w.path + 16 * w.cls + 64 * w.refSrc) ++
    leBytes 1 (bit w.mixed + 2 * w.bank) ++ leBytes 2 w.clip ++ leBytes 8 w.air ++ leBytes 8 eorx ++ leBytes 8 ex ++
    leBytes 2 w.refDly ++ List.replicate 30 0#8) ++
  (orx.zip ref).flatMap (fun p => [orxWord p.1, p.2])

/-- rnd(1,000 × log₁₀(a / b)): the largest m with 10 ^ (2 m − 1) ≤ (a / b) ^ 2,000 (R303). -/
def gainMeas (a b : Nat) : Int :=
  let pa := a ^ 2000
  let pb := b ^ 2000
  let le := fun (m : Int) =>
    let k := 2 * m - 1
    if 0 ≤ k then decide (10 ^ k.toNat * pb ≤ pa) else decide (pb ≤ pa * 10 ^ (-k).toNat)
  ((List.range 15).foldl (fun (acc : Nat) i => if le (acc + 2 ^ (14 - i) - 16384) then acc + 2 ^ (14 - i) else acc) 0 : Nat)
    - 16384

/-- AT_LIMIT follows CORR of path `p`; reaching the limit raises 0x86 (R303). -/
def State.corrLimit (s : State) (p : Nat) : State :=
  let corr := sext 11 (s.fld (Fld.LIN_PATHp_LOOP_STATUS_CORR p))
  let at_ := decide (corr.natAbs = s.fld (Fld.LIN_PATHp_LOOP_CFG_LIMIT p))
  let was := s.on (Fld.LIN_PATHp_LOOP_STATUS_AT_LIMIT p)
  let s := s.setFld (Fld.LIN_PATHp_LOOP_STATUS_AT_LIMIT p) (bit at_)
  if at_ && !was then s.event 0x86 (p + 65536 * toCode 11 corr) else s

/-- A number held within ± `m`. -/
def within (m : Nat) (z : Int) : Int := max (-(m : Int)) (min m z)

/-- The transmit power loop at the end of a capture of path `p` (R303). -/
def State.txLoop (s : State) (p : Nat) (w : Capture) (eorx ex : Nat) : State :=
  if !s.on (Fld.LIN_PATHp_LOOP_CFG_LOOP_EN p) then s
  else if !w.mixed && w.clip == 0 && decide (0 < eorx) &&
      decide (2 ^ 400 ≤ ex ^ 10 * 10 ^ s.fld (Fld.LIN_PATHp_LOOP_CFG_MINLVL p)) then
    let m := gainMeas eorx ex
    let target := sext 16 (s.fld (Fld.LIN_PATHp_LOOP_TGT_TARGET p))
    let step := within (s.fld (Fld.LIN_PATHp_LOOP_CFG_STEP_MAX p))
      (rndDiv (target - m) (2 ^ (1 + s.fld (Fld.LIN_PATHp_LOOP_CFG_KSHIFT p))))
    let corr := within (s.fld (Fld.LIN_PATHp_LOOP_CFG_LIMIT p)) (sext 11 (s.fld (Fld.LIN_PATHp_LOOP_STATUS_CORR p)) + step)
    let s := s.setFld (Fld.LIN_PATHp_LOOP_STATUS_MEAS p) (toCode 16 (satInt 16 m))
    let s := s.setFld (Fld.LIN_PATHp_LOOP_STATUS_CORR p) (toCode 11 corr)
    (s.corrLimit p).count (Fld.LIN_PATHp_LOOP_COUNT_UPDATES p) 1
  else s.count (Fld.LIN_PATHp_LOOP_COUNT_SKIPS p) 1

/-- ORX_CAPTURE_END: the window of group `g` ends. `orx` are the ORX codes, I in the low half. -/
def execOrxCaptureEnd (g : Fin 8) (orx : List (BitVec 24)) (s : State) : Out :=
  .next (let g := g.val
    match (s.lg g).window with
    | some w =>
      let orx := (List.range capLen).map (fun k => orx.getD k 0#24)
      let e := (orx.map orxEnergy).sum
      let w := { w with clip := (orx.map orxClip).sum }
      let p := 8 * g + w.path
      let ref := s.captureRef p w
      let ex := s.captureEx p w
      let s := (s.setFld (Fld.LIN_PGg_CAP_STATUS_BUSY g) 0).wr (Reg.LIN_PGg_CAP_INFO g)
        (BitVec.ofNat 32 (w.path + 256 * w.cls + 4096 * bit w.mixed + 65536 * w.clip))
      let s := (s.wr (Reg.LIN_PGg_CAP_EORX_LO g) (BitVec.ofNat 32 e)).wr (Reg.LIN_PGg_CAP_EORX_HI g) (BitVec.ofNat 32 (e / 2 ^ 32))
      let s := (s.wr (Reg.LIN_PGg_CAP_EX_LO g) (BitVec.ofNat 32 ex)).wr (Reg.LIN_PGg_CAP_EX_HI g)
        (BitVec.ofNat 32 (ex / 2 ^ 32))
      let s := (s.count (Fld.LIN_PGg_CAP_STATUS_CAPTURES g) 1).event 0x82
        (w.path + 16 * g + 256 * w.cls + 4096 * bit w.mixed + 65536 * w.clip)
      let s := (s.txLoop p w e ex).corePend g 4
      let s := if s.seqMode g = seqSingle ∧ w.single then s.setFld (Fld.LIN_PGg_SEQ_CTRL_MODE g) seqOff else s
      let drain := s.on (Fld.LIN_PGg_SEQ_CTRL_DRAIN_EN g)
      let cor := s.on (Fld.LIN_PGg_SEQ_CTRL_COR_EN g)
      let s := s.setLg g { s.lg g with
        window := none
        record := if drain || cor then captureRecord w e ex orx ref else []
        samples := if drain || cor then (orx.map orxWord).zip ref else []
        run := if cor then some w else (s.lg g).run }
      let s := if cor then s.setFld (Fld.LIN_PGg_COR_STATUS_BUSY g) 1 else s
      (s.setFld (Fld.LIN_PGg_CAP_STATUS_HELD g) (bit (drain || cor))).selectPath g
    | none => s)

/-- INTERVAL_SKIP: INTERVAL elapses in AUTO while the buffer is held. -/
def execIntervalSkip (g : Fin 8) (s : State) : Out :=
  .next (let g := g.val
    if s.seqMode g = seqAuto ∧ s.fld (Fld.LIN_PGg_SEQ_CTRL_INTERVAL g) ≠ 0 ∧ s.on (Fld.LIN_PGg_CAP_STATUS_HELD g) then
      s.count (Fld.LIN_PGg_CAP_STATUS_SKIPS g) 1
    else s)

/-- The words that LIN_PGg_PORT offers (R289). -/
def State.portWords (s : State) (g : Nat) : List Word := if s.on (Fld.LIN_PGg_SEQ_CTRL_DRAIN_EN g) then (s.lg g).record else []

/-- A read of LIN_PGg_PORT takes one word of the record; 0 when none is offered (R289, R290). -/
def State.capPortRead (s : State) (g : Nat) : State × Word :=
  match s.portWords g with
  | w :: ws => ((s.setLg g { s.lg g with record := ws }).releaseCapture g, w)
  | [] => (s, 0#32)

/-! ### Correlator (R291 to R293) -/

/-- The basis descriptors of group `g` break a range (R293). -/
def State.basisBad (s : State) (g n : Nat) : Bool :=
  (List.range n).any (fun j =>
    let d := sext 5 (s.fld (Fld.LIN_PGg_BASISj_D g j))
    decide (11 < s.fld (Fld.LIN_PGg_BASISj_M g j)) || decide (d < -4) || decide (11 < d))

/-- |s|^k of a sample, in units of 2 ^ −60. -/
def envelopePow (x : Cpx) (k : Nat) : Int := Nat.sqrt (cMag2 x ^ k * 2 ^ 240) / 2 ^ (15 * k + 60)

/-- φ_j[n] = s[n − M] × |s[n − D]|^K in units of 2 ^ −75, to at least 24 bits (R291). -/
def State.basis (s : State) (g j : Nat) (x : Int → Cpx) (n : Int) : Cpx :=
  let z := cScale (envelopePow (x (n - sext 5 (s.fld (Fld.LIN_PGg_BASISj_D g j)))) (s.fld (Fld.LIN_PGg_BASISj_K g j)))
    (x (n - s.fld (Fld.LIN_PGg_BASISj_M g j)))
  if z = (0, 0) then z else (looseInt 7 53 z.1, looseInt 7 53 z.2)

/-- The sums of a run of group `g` over the captured samples, in units of 2 ^ −150: G_ij for i ≤ j, then c_i, I and Q of each (R291). -/
def State.corSums (s : State) (g : Nat) : List Int :=
  let xs := (s.lg g).samples
  if xs.all (fun x => x == (0, 0)) then []
  else
    let orx := fun (n : Int) => cpx ((xs.getD n.toNat (0, 0)).1)
    let ref := fun (n : Int) => cpx ((xs.getD n.toNat (0, 0)).2)
    let src := s.on (Fld.LIN_PGg_COR_CTRL_BASIS_SRC g)
    let x := if src then orx else ref
    let t := if src then ref else orx
    let n := s.fld (Fld.LIN_PGg_COR_CTRL_NBASIS g)
    let total := fun (f : Int → Cpx) => cSum ((List.range 16369).map (fun (i : Nat) => f (11 + (i : Int))))
    let G := (List.range n).flatMap (fun i => ((List.range n).filter (i ≤ ·)).map (fun j =>
      total (fun k => cMul (cConj (s.basis g i x k)) (s.basis g j x k))))
    let c := (List.range n).map (fun i => cScale (2 ^ 60) (total (fun k => cMul (cConj (s.basis g i x k)) (t k))))
    (G ++ c).flatMap (fun z => [z.1, z.2])

/-- Component `x` / 2 ^ 150 as stored under exponent `e` (R292). -/
def scaled (e : Int) (x : Int) : Int :=
  if 0 ≤ e + 120 then roundHalfEven x (e + 120).toNat else x * (2 ^ (-(e + 120)).toNat : Nat)

/-- The smallest exponent for which every rounded component fits in 32 signed bits; the smallest code of the field when every
component is 0. -/
def minExp (xs : List Int) : Int :=
  let top := (xs.map Int.natAbs).foldl max 0
  if top = 0 then -32768
  else
    let e0 : Int := (Nat.log2 top : Int) - 152
    let fits := fun e => xs.all (fun x => satInt 32 (scaled e x) == scaled e x)
    (([e0, e0 + 1, e0 + 2].find? fits).getD (e0 + 3))

/-- The result of a run in the store (R292): `sums` are the components of G and c in order, in units of 2 ^ −150. -/
def corResult (w : Capture) (n : Nat) (sums : List Int) (residue : Bool) : List Byte :=
  let ng := n * (n + 1)
  let gs := (List.range ng).map (fun k => sums.getD k 0)
  let cs := (List.range (2 * n)).map (fun k => sums.getD (ng + k) 0)
  let comp := fun e (xs : List Int) => xs.flatMap (fun x => leBytes 4 (toCode 32 (scaled e x)))
  leBytes 4 0x52524F43 ++ leBytes 1 n ++ leBytes 1 w.path ++ leBytes 1 w.cls ++
    leBytes 1 (bit w.mixed + 2 * bit (w.clip != 0) + 4 * bit residue) ++ leBytes 2 (toCode 16 (minExp gs)) ++
    leBytes 2 (toCode 16 (minExp cs)) ++ leBytes 4 16369 ++ leBytes 8 w.air ++ leBytes 8 0 ++
    comp (minExp gs) gs ++ comp (minExp cs) cs

/-- CORRELATOR_END: the run of group `g` ends; `residue`: a residue check failed in it (R291 to R293). -/
def execCorrelatorEnd (g : Fin 8) (residue : Bool) (s : State) : Out :=
  .next (let g := g.val
    match (s.lg g).run with
    | some w =>
      let n := s.fld (Fld.LIN_PGg_COR_CTRL_NBASIS g)
      let dest := s.fld (Fld.LIN_PGg_COR_DEST_ADDR g)
      let r := if n = 0 ∨ !s.storeRange dest (32 + 8 * (n * (n + 1) / 2 + n)) then (s, 1)
        else if s.basisBad g n then (s, 2)
        else
          let x := s.storeWrite dest (corResult w n (s.corSums g) residue) reqCapture
          (x.1, if !x.2 then 3 else if residue then 4 else 0)
      let s := (r.1.setLg g { r.1.lg g with run := none }).corePend g 5
      let s := (s.setFld (Fld.LIN_PGg_COR_STATUS_BUSY g) 0).setFld (Fld.LIN_PGg_COR_STATUS_ERR g) r.2
      ((s.countWrap (Fld.LIN_PGg_COR_STATUS_DONE g) 1).event 0x83 (r.2 + 16 * g)).releaseCapture g
    | none => s)

/-! ### Kernels and counters (R299, R447) -/

/-- Every LIN counter but COR_STATUS.DONE is cleared. -/
def State.clearLinCounters (s : State) : State :=
  let s := s.forEach 8 (fun s g =>
    ((s.setFld (Fld.LIN_PGg_CAP_STATUS_CAPTURES g) 0).setFld (Fld.LIN_PGg_CAP_STATUS_SKIPS g) 0).setFld
      (Fld.LIN_PGg_LOAD_STATUS_LOADS g) 0)
  s.forEach 64 (fun s p =>
    ((s.wr (Reg.LIN_PATHp_SAT p) 0).wr (Reg.LIN_PATHp_CFR_COUNT p) 0).wr (Reg.LIN_PATHp_LOOP_COUNT p) 0)

/-- A write to LIN_CTRL. -/
def State.linCtrlWrite (s : State) (d : Word) : State :=
  let s := s.plainWrite Reg.LIN_CTRL (Fld.LIN_CTRL_CNT_CLR.put 0 d)
  if Fld.LIN_CTRL_CNT_CLR.of d = 1 then s.clearLinCounters else s

/-- A write to a kernel tap; one to the bank in force is ignored. -/
def State.kernWrite (s : State) (a : Nat) (d : Word) : State :=
  if (a - Reg.LIN_KERNk 0 0 0) / 0x1000 = s.fld Fld.LIN_STATUS_KBANK then s else s.plainWrite a d

/-! ### Transmit gain (R300 to R303) -/

/-- COMP_g from a temperature in 1/16 °C and a supply in mV (R301). -/
def State.compOf (s : State) (g : Nat) (t v : Int) : Int :=
  let b := bit (bitOf s.rf.band g)
  let dt := t - sext 16 (s.fld (Fld.LIN_COMPb_W2_T0 b))
  let dv := v - s.fld (Fld.LIN_COMPb_W2_V0 b)
  let c := sext 16 (s.fld (Fld.LIN_COMPb_W0_KT1 b)) * dt * 1024 + sext 16 (s.fld (Fld.LIN_COMPb_W0_KT2 b)) * dt * dt +
    sext 16 (s.fld (Fld.LIN_COMPb_W1_KV b)) * dv * 256
  within 500 (rndDiv (50 * c) (2 ^ 24))

/-- A new result of channel `c`: the groups that take it compute their compensation, which comes into force at the next boundary
(R300 to R302). -/
def State.compUpdate (s : State) (c : Nat) : State :=
  s.forEach 8 (fun s g =>
    let ts := s.fld (Fld.LIN_PGg_COMP_SRC_TSRC g)
    let vs := s.fld (Fld.LIN_PGg_COMP_SRC_VSRC g)
    if s.domOn pdLin && (ts == c || vs == c) then
      let val := fun ch => sext 24 (s.fld (Fld.HK_RESc_VALUE ch))
      (s.setLg g { s.lg g with comp := toCode 16 (s.compOf g (val ts) (val vs)) }).setFld (Fld.LIN_PGg_COMP_STATUS_STALE g) 0
    else s)

/-- COMP_STALE_TIMEOUT: a channel of group `g` has given no result for 4 ms (R302). -/
def execCompStaleTimeout (g : Fin 8) (s : State) : Out :=
  .next (if s.domOn pdLin && !s.on (Fld.LIN_PGg_COMP_STATUS_STALE g.val) then
    (s.setFld (Fld.LIN_PGg_COMP_STATUS_STALE g.val) 1).event 0x87 g.val
  else s)

/-- R300 at a grid symbol boundary: COMP and G_d of every path come into force. -/
def State.applyGains (s : State) : State :=
  let s := s.forEach 8 (fun s g => s.setFld (Fld.LIN_PGg_COMP_STATUS_COMP g) (s.lg g).comp)
  s.forEach 64 (fun s p =>
    let gd := sext 12 (s.fld (Fld.LIN_PATHp_TXP_DGAIN p)) + sext 16 (s.fld (Fld.LIN_PGg_COMP_STATUS_COMP (p / 8))) +
      sext 11 (s.fld (Fld.LIN_PATHp_LOOP_STATUS_CORR p))
    let c := max (-1500) (min 300 gd)
    s.wr (Reg.LIN_PATHp_GAIN_STATUS p) (BitVec.ofNat 32 (toCode 12 c + 32768 * bit (c != gd))))

/-- A write to LIN_PATHp_LOOP_CFG; AT_LIMIT is judged anew where CORR or LIMIT changes. -/
def State.loopCfgWrite (s : State) (p : Nat) (d : Word) : State :=
  let limit := s.fld (Fld.LIN_PATHp_LOOP_CFG_LIMIT p)
  let s := s.plainWrite (Reg.LIN_PATHp_LOOP_CFG p) ((Fld.LIN_PATHp_LOOP_CFG_CORR_CLR p).put 0 d)
  if (Fld.LIN_PATHp_LOOP_CFG_CORR_CLR p).of d = 1 then
    (s.setFld (Fld.LIN_PATHp_LOOP_STATUS_CORR p) 0).corrLimit p
  else if s.fld (Fld.LIN_PATHp_LOOP_CFG_LIMIT p) = limit then s
  else s.corrLimit p

/-! ### What is in force for the samples (R279) -/

/-- The words of the active I/Q bank of path `p` in a direction. -/
def State.iqBank (s : State) (up : Bool) (p : Nat) : List Word := s.iqBankWords up p (s.fld (fIqBank up))

/-- The converter selections of path `p`, its group's ORX word and divider codes (R353). -/
def State.convWords (s : State) (p : Nat) : List Word :=
  [s.rd (Reg.CAL_CONV_Pp_W0 p), s.rd (Reg.CAL_CONV_Pp_W1 p), s.rd (Reg.CAL_CONV_Pp_W2 p), s.rd (Reg.CAL_CONV_Pp_W3 p),
    s.rd (Reg.CAL_CONV_ORXg (p / 8)), s.rd (Reg.CAL_CONV_LOs (2 * (p / 8))), s.rd (Reg.CAL_CONV_LOs (2 * (p / 8) + 1))]

/-- What is in force for path `p` from the grid symbol at `a` on; the peaks are those of crest-factor reduction before it. -/
def State.pathSymbol (s : State) (p a : Nat) (peaks1 peaks2 : List Int) : PathSymbol :=
  let d := s.pathDelay p a
  let c := s.time.pdClass
  ⟨clampDelay d.1, clampDelay d.2, s.iqBank false p, s.iqBank true p, sext 12 (s.fld (Fld.LIN_PATHp_GAIN_STATUS_GD p)),
    s.fld (Fld.LIN_PATHp_TXP_ATTA p), s.convWords p, s.fld (Fld.RFE_PGg_Pi_RX_RGAIN (p / 8) (p % 8)), s.rd (Reg.LIN_PATHp_PD_CFG p), s.rd (Reg.LIN_PATHp_CFR_CFG p),
    s.pdBank p c (s.activeBank (p / 8) (p % 8) c), peaks1, peaks2⟩

/-- The receive full scale of path `p` at AIR_COUNT `t`, in dBm: FS₀ of the group's band and 2 dB for each step of RGAIN (R323). -/
def State.rxFullScale (s : State) (p : Nat) (t : Int) : Option Int :=
  (s.pathAt p t).map (fun x => (if bitOf s.rf.band (p / 8) then -20 else -22) + 2 * (x.rgain : Int))

/-- The four kernels of the bank in force. -/
def State.kernelBank (s : State) : List (List Word) :=
  (List.range 4).map (fun k => (List.range 255).map (fun i => s.rd (Reg.LIN_KERNk (s.fld Fld.LIN_STATUS_KBANK) k i)))

/-- The logged grid symbol with what is in force in it: the plan, the canceller's set, and each path's settings. -/
def State.withSettings (s : State) (l : SymbolLog) : SymbolLog :=
  let sfd := s.planOn && s.domOn pdSfd
  { l with
    kernels := if s.domOn pdLin then s.kernelBank else []
    sfdOn := sfd && s.sfd.en
    sfd := if sfd then s.sfdSet (s.classSet s.time.sfdClass) else []
    plan := s.sfd.plan
    paths := if s.domOn pdDpx then
        (List.range 64).map (fun p => let o := l.paths[p]?
          s.pathSymbol p l.air ((o.map (fun x => x.peaks1)).getD []) ((o.map (fun x => x.peaks2)).getD []))
      else [] }

/-- Banks that swap at a grid symbol boundary are in force from its symbol on: the newest entry of the log takes them where it is that
symbol's. -/
def State.retake (s : State) : State :=
  match s.rf.log with
  | l :: ls => if l.air = symStart s.time.scs s.air then { s with rf := { s.rf with log := s.withSettings l :: ls } } else s
  | [] => s

/-- KERNEL_BANK_SWAP: a grid symbol boundary with a kernel swap requested. -/
def execKernelBankSwap (s : State) : Out :=
  .next (if s.on Fld.LIN_CTRL_KSWAP then
    ((s.setFld Fld.LIN_STATUS_KBANK (1 - s.fld Fld.LIN_STATUS_KBANK)).setFld Fld.LIN_CTRL_KSWAP 0).retake
  else s)

/-- PD_BANK_SWAP: a grid symbol boundary at which the waiting swap of group `g` happens. A running WRITE to one of its paths
and its class moves the whole swap to a later boundary. -/
def execPdBankSwap (g : Fin 8) (s : State) : Out :=
  .next (let g := g.val
    match (s.lg g).swap with
    | some (c, m) =>
      let held := match (s.lg g).load with
        | some l => l.write && l.cls == c && bitOf m l.path
        | none => false
      if held then s
      else
        let s := s.setLg g { s.lg g with swap := none }
        let flip := bitsToNat ((List.range 32).map (fun k => k % 4 == c && bitOf m (k / 4)))
        let s := s.wr (Reg.LIN_PGg_PD_ACTIVE g) (s.rd (Reg.LIN_PGg_PD_ACTIVE g) ^^^ BitVec.ofNat 32 flip)
        let s := (s.mixCapture g (fun w => w.cls == c && bitOf m w.path)).retake
        (s.setFld (Fld.LIN_PGg_SWAP_CTRL_GO g) 0).event 0x80 (m + 256 * c + 4096 * g)
    | none => s)

/-- DLC_IQ_BANK_SWAP: the grid symbol boundary at which the downlink banks swap. -/
def execDlcIqBankSwap (s : State) : Out := .next (s.iqBankSwap false).retake

/-- ULC_IQ_BANK_SWAP: the grid symbol boundary at which the uplink banks swap. -/
def execUlcIqBankSwap (s : State) : Out := .next (s.iqBankSwap true).retake

/-- SFD_LOAD_BOUNDARY: the class maps to the set that the WRITE filled. -/
def execSfdLoadBoundary (s : State) : Out :=
  .next (match s.sfd.load with
  | some l =>
    match l.set with
    | some k =>
      let s := (s.setFld (Fld.SFD_CLASSc_PSET l.cls) k).setFld (Fld.SFD_CLASSc_NREF l.cls) (blockNref (s.sfdSet k))
      let s := if s.time.sfdClass = l.cls then s.mixSfd.retake else s
      (s.count Fld.SFD_LOAD_STATUS_LOADS 1).sfdLoadDone l.cls 0 k
    | none => s
  | none => s)

end Sys2Proof.Machine
end

