-- ==== Sys2Proof/Machine/Power.lean ====
section
/-!
DEFINITION. Power states (R409 to R422): the switch-off of groups and domains, requests and their checks, entries, group wakes
(R424), and the regulator masters (R413 to R416). The device wake stands in Wake.lean.
-/

namespace Sys2Proof.Machine

/-- A change of the power record, and what the registers then show. -/
def State.power (s : State) (f : PwrState → PwrState) : State := { s with pwr := f s.pwr }.showPower

/-- The groups of a mask, rising. -/
def groupsIn (mask : Nat) : List Nat := (List.range 8).filter (bitOf mask)

/-- The groups of die `k`. -/
def dieGroups (k : Nat) : Nat := 3 * 4 ^ k

/-! ### Regulators (R413 to R415) -/

/-- A VDD_CORE voltage is written: BUSY until it is acknowledged (R414). -/
def State.pushAvs (s : State) (mv : Nat) : State :=
  { s with pwr := { s.pwr with ops := s.pwr.ops ++ [RegOp.avs mv false] } }.setFld Fld.PWR_VCORE_BUSY 1

def State.pushOp (s : State) (o : RegOp) : State := { s with pwr := { s.pwr with ops := s.pwr.ops ++ [o] } }

def State.dropOp (s : State) (o : RegOp) : State := { s with pwr := { s.pwr with ops := s.pwr.ops.erase o } }

/-- Whether and at which address PWR_CORE_RAILS names core rail `n` (R413). -/
def State.railCfg (s : State) (n : Nat) : Bool × Nat :=
  let p := fun en ad => (s.on en, s.fld ad)
  if n = 0 then p Fld.PWR_CORE_RAILS_SRAM_EN Fld.PWR_CORE_RAILS_SRAM_ADDR
  else if n = 1 then p Fld.PWR_CORE_RAILS_CORE_EN Fld.PWR_CORE_RAILS_CORE_ADDR
  else if n = 2 then p Fld.PWR_CORE_RAILS2_CONV_EN Fld.PWR_CORE_RAILS2_CONV_ADDR
  else if n = 3 then p Fld.PWR_CORE_RAILS_LNK_EN Fld.PWR_CORE_RAILS_LNK_ADDR
  else p Fld.PWR_CORE_RAILS_RFH_EN Fld.PWR_CORE_RAILS_RFH_ADDR

/-- The PMBus address of die `k`'s regulator, from the board profile (R52). -/
def State.dieAddr (s : State) (k : Nat) : Nat := fieldAt s.boot.profile (6 + k) 1 % 128

/-- The margin code of die `k` (R415). -/
def State.marginOf (s : State) (k : Nat) : Nat := s.fld Fld.PWR_REG_CFG_MARGIN / 4 ^ k % 4

/-- Bus and address of a transaction, as event 0xF4 gives them: 0 AVSBus, 1 PMBus (R436). -/
def State.opAddr (s : State) : RegOp → Nat × Nat
  | .avs _ _ => (0, fieldAt s.boot.profile 10 1 % 16)
  | .dieOn k _ => (1, s.dieAddr k)
  | .dieOff k => (1, s.dieAddr k)
  | .rail n _ => (1, (s.railCfg n).2)
  | .margin k _ => (1, s.dieAddr k)

/-- The core rails that a sleep switches off: VDD_RFH in DEEP SLEEP, all five in BELL WATCH, where they are named (R413). -/
def State.sleepRails (s : State) (target : Nat) : List Nat :=
  (List.range 5).filter (fun n => (target == 4 || n == 4) && (s.railCfg n).1)

/-- VDD_CORE goes to DEEP_MV, unless BELL WATCH switches it off; the named rails go off (R413). -/
def State.railsDown (s : State) (target : Nat) : State :=
  let s := if target = 4 ∧ (s.railCfg 1).1 then s else s.pushAvs (s.fld Fld.PWR_VCORE_DEEP_MV)
  ((s.sleepRails target).filter (fun n => !s.pwr.railsOff.contains n)).foldl (fun s n => s.pushOp (.rail n false)) s

/-- Stage 1 of R423: the rails back on in the order of R435, VDD_CORE to TARGET_MV. -/
def State.railsUp (s : State) : State :=
  (((List.range 5).filter s.pwr.railsOff.contains).foldl (fun s n => s.pushOp (.rail n true)) s).pushAvs
    (s.fld Fld.PWR_VCORE_TARGET_MV)

/-! ### Groups off (R425) -/

/-- PD_PGg goes off: its FEC lines low, its synthesisers and its RFFE list gone, its N fields reset, its other RFE fields kept in the
shadow. -/
def State.groupOff (s : State) (g : Nat) : State :=
  let s := (s.switchOff (pdPg g)).groupSilent g
  let s := { s with
    rf := { s.rf with
      supplies := s.rf.supplies.filter (fun e => e.1 / 32 != g)
      supplyEdges := s.rf.supplyEdges.filter (fun e => e.line / 32 != g)
      synths := SMap.erase (SMap.erase s.rf.synths (2 * g)) (2 * g + 1), rffe := SMap.erase s.rf.rffe g }
    pwr := { s.pwr with wakes := SMap.erase s.pwr.wakes g } }
  s.resetDomain (pdPg g)

/-- The groups of a mask go off; a die without a group on goes off where DIE_OFF lets it (R425). -/
def State.groupsOff (s : State) (mask : Nat) : State :=
  let s := (groupsIn mask).foldl State.groupOff s
  let s := s.forEach 4 (fun s k =>
    s.iff ((mask &&& dieGroups k) != 0 && (s.groupsOn &&& dieGroups k) == 0 && bitOf (s.fld Fld.PWR_REG_CFG_DIE_OFF) k &&
      bitOf s.pwr.dies k && !s.pwr.ops.contains (.dieOff k)) (fun s => s.pushOp (.dieOff k)))
  s.showPower

/-- Group wakes begin for the groups of a mask that are off (R424): the rails of their dies first, where they are off. -/
def State.wakeGroups (s : State) (mask : Nat) : State :=
  let up := groupsIn (without mask s.groupsOn)
  let s := s.forEach 4 (fun s k =>
    s.iff (up.any (fun g => g / 2 == k) && (!bitOf s.pwr.dies k || s.pwr.ops.contains (.dieOff k)) &&
      !s.pwr.ops.contains (.dieOn k false) && !s.pwr.ops.contains (.dieOn k true)) (fun s => s.pushOp (.dieOn k false)))
  s.power (fun p => { p with
    wakes := up.foldl (fun m g => SMap.set 0 m g 1) p.wakes, failed := up.foldl (fun f g => setBitOf f g false) p.failed })

/-! ### Requests and checks (R417 to R421) -/

/-- A request is refused or aborted: counted, recorded, event 0xF1 (R421, R436). -/
def State.powerRefuse (s : State) (r : PwrRequest) (code : Nat) : State :=
  let k := (code - 1) / 2
  let s := s.count (if code % 2 = 1 then Fld.PWR_REFUSE_CNTk_LO k else Fld.PWR_REFUSE_CNTk_HI k) 1
  let s := s.wr Reg.PWR_REFUSE_LAST
    (placeField 23 16 r.off ||| placeField 15 12 r.requester ||| placeField 10 8 r.target ||| placeField 7 0 code)
  s.event 0xF1 (code + 256 * r.target + 4096 * r.requester + 65536 * r.off)

/-- The first grid symbol boundary at or after AIR_COUNT `a`. -/
def gridFrom (m a : Nat) : Nat := if symStart m a = a then a else airOf m (frameOf a) (symbolOf m a + 1)

/-- The entry instant of a request whose checks pass now (R422). -/
def State.entryInstant (s : State) : Nat :=
  if s.time.everLocked then gridFrom s.time.scs (s.air + s.tLate) else s.air

/-- A wake source that is enabled for the target is asserted (R419, R429). -/
def State.wakePending (s : State) (target : Nat) : Bool :=
  let a := fun i (en : Fld) => bitOf s.pwr.sources i && s.on en
  a 0 Fld.PWR_WAKE_CFG_WAKEN_EN || (decide (3 ≤ target) && (a 1 Fld.PWR_WAKE_CFG_QB0_EN || a 2 Fld.PWR_WAKE_CFG_CS_EN))

/-- The checks of R419 in code order: the first refuser. -/
def State.powerCheck (s : State) (r : PwrRequest) : Option Nat :=
  let sleep := decide (2 ≤ r.target)
  let deep := decide (3 ≤ r.target)
  let off := r.off &&& s.groupsOn
  let entry := s.entryInstant
  let linkData := s.sect.held.any (fun h => decide (entry ≤ h.air) && (r.requester != 3 || decide (h.air < s.pwr.plannedWake))) ||
    (List.range 10).any (fun n => (s.queue (16 + n)).pkts != [])
  let lop0 := match s.cal.lop0 with | some c => c.groups | none => 0
  let lop1 := match s.cal.lop1 with | some u => u.units.foldl (fun m g => setBitOf m g true) 0 | none => 0
  let cal := (deep && (s.lopBusy 0 || s.lopBusy 1)) || (r.target == 1 && (off &&& (lop0 ||| lop1)) != 0)
  let hold := s.time.everLocked && (List.range 8).any (fun g => (sleep || bitOf off g) &&
    (match s.rowAt g s.air with | some t => t.power == 1 | none => false))
  let checks : List (Nat × Bool) := [
    (0x01, sleep && linkData),
    (0x02, cal),
    (0x03, deep && s.rd Reg.DMA_ACTIVE != 0),
    (0x06, r.target != 0 && hold),
    (0x07, r.target != 0 && r.requester != 2 && s.on Fld.PWR_VETO_HOLD),
    (0x08, !sleep && (without (without s.fitted r.off) s.groupsOn &&& s.pwr.hot) != 0),
    (0x09, sleep && s.wakePending r.target),
    (0x0A, deep && (s.sec.running.isSome || s.sec.waits.isSome || s.lopBusy 6)),
    (0x0C, deep && [2, 3, 4, 5, 7, 8, 9].any s.lopBusy)]
  (checks.find? (·.2)).map (·.1)

/-- The groups that a request for ACTIVE or NAP powers begin to wake (R435). -/
def State.startUps (s : State) (r : PwrRequest) (t : PwrTrans) : State :=
  let up := without (without s.fitted r.off) s.groupsOn
  let s := s.setFld Fld.PWR_PG_STATUS_REQ_OFF r.off
  { s with pwr := { s.pwr with trans := some { t with stage := if up = 0 then 0 else 4, waits := false } } }.wakeGroups up

/-- The part of a transition to ACTIVE or NAP that runs in the ACTIVE state: groups to switch off wait for the entry instant, the
others wake. -/
def State.napPart (s : State) (r : PwrRequest) (t : PwrTrans) : State :=
  if (r.off &&& s.groupsOn) = 0 then s.startUps r t
  else s.power (fun p => { p with trans := some { t with stage := 6, waits := true } })

/-- A transition starts after its checks. A sleep entry raises 0xF0 at the checks (R435, R436); a wake from LIGHT SLEEP begins with
its group and logic work (R423). -/
def State.startTrans (s : State) (r : PwrRequest) : State :=
  let t : PwrTrans := ⟨r, s.powerCode, 0, false, none, false, s.fld Fld.PWR_PG_STATUS_REQ_OFF, 0, s.aonTicks⟩
  if 3 ≤ r.target then
    (s.event 0xF0 (r.target + 16 * s.powerCode + 128 + 256 * r.requester)).power
      (fun p => { p with trans := some { t with stage := 6, waits := true } })
  else if r.target = 2 then s.power (fun p => { p with trans := some { t with stage := 6, waits := true } })
  else if s.pwr.base = some 2 then s.power (fun p => { p with trans := some { t with stage := 4, waking := some 2 } })
  else s.napPart r t

/-- A wake from DEEP SLEEP or BELL WATCH starts without checks (R419); one to LIGHT SLEEP holds that request in the pending slot
(R429). -/
def State.startWake (s : State) (r : PwrRequest) (base : Nat) : State :=
  let t : PwrTrans := ⟨{ r with target := 0, off := 0 }, base, 1, false, some base, false, s.fld Fld.PWR_PG_STATUS_REQ_OFF, 0,
    s.aonTicks⟩
  let s := { s with pwr := { s.pwr with trans := some t, slot := if r.target = 2 then some r else none } }
  s.railsUp.showPower

/-- The request asks for the state in force (R418). -/
def State.inForce (s : State) (r : PwrRequest) : Bool :=
  match s.pwr.base with
  | some 0 => decide (r.target ≤ 1) && r.off == without s.fitted s.groupsOn
  | some b => r.target == b
  | none => false

/-- A request meets no running transition. -/
def State.takeRequest (s : State) (r : PwrRequest) : State :=
  if s.inForce r then s
  else match s.pwr.base with
    | some 3 => s.startWake r 3
    | some 4 => s.startWake r 4
    | _ => match s.powerCheck r with
      | some c => s.powerRefuse r c
      | none => s.startTrans r

/-- A request meets a running transition, or a start before step 13: the single pending slot (R418). -/
def State.pendRequest (s : State) (r : PwrRequest) : State :=
  let same := match s.pwr.trans with
    | some t => t.req.target == r.target && t.req.off == r.off
    | none => false
  if same then s
  else
    let s := match s.pwr.slot with
      | some old => s.powerRefuse old 0x0B
      | none => s
    s.power (fun p => { p with slot := some r })

/-- Wake source `q` asserts in the AON tick in which a source of a higher requester code began the wake that runs (R429). -/
def State.tieWins (s : State) (t : PwrTrans) (q : Nat) : Bool :=
  t.waking.isSome && !t.aborted && t.tick == s.aonTicks && decide (4 ≤ q ∧ q < t.req.requester ∧ t.req.requester ≤ 8)

/-- The request `r` of a lower code stands and the one that began the wake `t` enters the pending slot (R429, R418). -/
def State.winTie (s : State) (t : PwrTrans) (r : PwrRequest) : State :=
  let held := s.pwr.slot.filter (fun o => o.requester == t.req.requester)
  let slot := if held.isSome then none else s.pwr.slot
  let s := s.power (fun p => { p with trans := some { t with req := { r with target := 0, off := 0 } }, slot := slot })
  let s := s.iff (t.waking != some 2 && r.target == 2) (fun s => s.pendRequest r)
  (s.pendRequest (held.getD t.req)).showPower

/-- A power request (R417, R418, R410). NAP without groups is ACTIVE, groups not fitted are ignored, and only NAP uses PG_OFF. In
Detention mode, and after a thermal trip, none is taken. -/
def State.submit (s : State) (target requester off : Nat) : State :=
  let off := if target = 1 then off &&& s.fitted else 0
  let r : PwrRequest := ⟨if target = 1 ∧ off = 0 then 0 else target, requester, off⟩
  if s.detained || s.pwr.tripped then s
  else match s.pwr.trans with
    | some t => if s.tieWins t requester then s.winTie t r else s.pendRequest r
    | none => if s.pwr.base.isNone then s.pendRequest r else s.takeRequest r

/-- The requester code of a write of PWR_REQ (R417). -/
def requesterPower : Requester → Option Nat
  | .mgq => some 0 | .mspi => some 1 | .dean => some 2 | .proctor => none | .tutor _ => none

/-- A write to PWR_REQ: GO submits the request and clears (R417). -/
def State.pwrReqWrite (s : State) (q : Requester) (d : Word) : State :=
  let s := s.plainWrite Reg.PWR_REQ (Fld.PWR_REQ_GO.put 0 d)
  match requesterPower q with
  | some c =>
    if Fld.PWR_REQ_GO.of d = 1 then s.submit (s.fld Fld.PWR_REQ_STATE) c (s.fld Fld.PWR_REQ_PG_OFF) else s
  | none => s

/-- The asserted wake sources, as the command reports them (R429). -/
def State.setSources (s : State) (n : Nat) : State := { s with pwr := { s.pwr with sources := n } }

/-- PWR_VETO is written by Dean only (R431). -/
def State.pwrVetoWrite (s : State) (q : Requester) (d : Word) : State :=
  if q = .dean then s.plainWrite Reg.PWR_VETO d else s

/-! ### Entries (R422, R425, R426, R435) -/

/-- The blocks of PD_LNK, PD_CST, PD_DPX, PD_LIN, PD_SFD, PD_DSP and PD_PGn lose their state at a sleep entry (R443); the program
memories of the released cores are in the snapshot (R426). -/
def State.dropDatapath (s : State) (deep : Bool) : State :=
  { s with
    link := LinkState.idle, queues := [], scrubUnc := 0, dma := [], dlc := CarrierState.idle, ulc := CarrierState.idle, ul := UplinkState.idle
    smp := SampleState.idle, nco := []
    sect := { s.sect with held := [] }, rssi := [], rf := RfState.idle, lin := LinState.idle, sfd := SfdState.idle
    cores := if deep then
        (SMap.mapVal CoreState.idle (fun x => x.memories true false) s.cores).filter
          (fun p => p.1 == deanCore || s.boot.loaded.contains p.1 || s.coreState p.1 != coreReset)
      else [] }

/-- What PD_CTL and PD_SYN lose when they go off. The Timetable in force after a wake is the one that ATM_TT_CTRL holds. -/
def State.dropControl (s : State) : State :=
  { s with
    mspi := s.mspi.idle, raise := [], shadows := [], clk := ClkState.idle, bmb := ⟨[], 0⟩, cal := CalState.idle, seen := []
    hk := HkState.idle, sec := SecState.idle s.sec.keySpent, flashOps := []
    pins := { s.pins with sysclk0 := 0, sysclk1 := 0 }
    time := { AirState.idle with map := s.time.map, period := s.fld Fld.ATM_TT_CTRL_PERIOD, scs := s.fld Fld.ATM_TT_CTRL_SCS } }

/-- R426: the snapshot overwrites banks 0 and 1. Its layout is the device's own, so every byte of them is open. -/
def State.writeSnapshot (s : State) : State :=
  let s := s.dropBanks (fun k => decide (k < 2))
  { ((s.putStore storeBase (openBytes s.fresh 0x400000)).useFresh) with
    pwr := { s.pwr with bootStatus := s.rd Reg.BOOT_STATUS, imageVer := s.rd Reg.BOOT_IMAGE_VER } }

/-- The entry into DEEP SLEEP or BELL WATCH takes effect (R412, R413, R426, R435): groups off, link DOWN with reason POWER, snapshot
and signatures in DEEP SLEEP, domains and banks off, rails as R413 says. -/
def State.sleepEntry (s : State) (t : PwrTrans) : State :=
  let target := t.req.target
  let on := s.groupsOn
  let s := s.groupsOff on
  let s := if s.linkIs lnkTest then s.linkDown 8 0xFF false else s.dropLink 8 0xFF true
  let s := { s with pwr := { s.pwr with
    was := on &&& s.fitted, rejects := s.fld Fld.PWR_BELL_COUNT_REJECT, base := some target, bell := none
    trans := some { t with waits := false, stage := 0 } } }
  let s := if target = 3 then s.writeSnapshot.takeSignatures else s
  let off := (List.range 64).filter (fun k => target == 4 || !s.retained k)
  let s := s.dropBanks off.contains
  let s := { (s.dropDatapath (target == 3)) with domains := [pdAon, pdCtl, pdSyn], banksOff := off }
  (s.railsDown target).showPower

/-- ENTRY_INSTANT: the sleep entry or the switch-off of groups takes effect; `thermal`: that of the groups over HOT (R400). -/
def execEntryInstant (thermal : Bool) (s : State) : Out :=
  .next (if thermal then
    let old := s.powerCode
    let s := { s with pwr := { s.pwr with hotWaits := 0 } }.groupsOff (s.pwr.hotWaits &&& s.groupsOn)
    if s.pwr.trans.isNone && s.powerCode != old then
      s.event 0xF0 (s.powerCode + 16 * old + 256 * 9 + 65536 * s.groupsOn)
    else s
  else match s.pwr.trans with
  | some t =>
    if !t.waits then s
    else if 3 ≤ t.req.target then s.sleepEntry t
    else if t.req.target = 2 then
      s.power (fun p => { p with base := some 2, trans := some { t with waits := false, stage := 0 } })
    else
      let offs := t.req.off &&& s.groupsOn
      (s.groupsOff offs).startUps t.req { t with offs := offs }
  | none => s)

/-- R400: the groups of a mask are over HOT: they are held off, and those that are on go off at the entry instant. -/
def State.thermalOff (s : State) (mask : Nat) : State :=
  s.power (fun p => { p with hot := p.hot ||| mask, hotWaits := p.hotWaits ||| (mask &&& s.groupsOn) })

/-- R400: a HOT bit has cleared: the groups of a mask are powered again, those apart that a request, a failure, the start or a sleep
keeps off. -/
def State.thermalOn (s : State) (mask : Nat) : State :=
  let s := s.power (fun p => { p with hot := without p.hot mask, hotWaits := without p.hotWaits mask })
  if s.detained || s.pwr.tripped || (s.pwr.base != some 0 && s.pwr.base != some 2) then s
  else s.wakeGroups (without (without (mask &&& s.fitted) (s.fld Fld.PWR_PG_STATUS_REQ_OFF)) s.pwr.failed)

/-! ### Group wakes (R424) -/

/-- Start step 13 (R62, R388, R410): the cores are released and the device is ACTIVE; a cold restore ends here, its RETFAIL bits set
and its 0xF6 events raised (R427, R169). -/
def State.enterStep13 (s : State) : State :=
  let s := (s.setFld Fld.BOOT_STATUS_STEP 13).startCores
  let s := s.reportRetFail s.pwr.retFail
  let t := s.pwr.trans
  let s := s.power (fun p => { p with base := some 0, trans := none, cold := 0, retFail := [] })
  match t with
  | some t => s.event 0xF0 (s.powerCode + 16 * t.left + 256 * t.req.requester + 65536 * s.groupsOn)
  | none => s

/-- The last group wake of start step 12 has ended. -/
def State.afterWakes (s : State) : State :=
  if s.pwr.wakes = [] ∧ s.pwr.base = none ∧ s.fld Fld.BOOT_STATUS_STEP = 12 then s.enterStep13 else s

/-- Groups fail: they stay off until a request powers them, with their FAIL bits and event 0xF3 (R416, R420, R436). -/
def State.groupsFail (s : State) (mask k cause : Nat) : State :=
  let s := s.setFld Fld.PWR_PG_STATUS_FAIL (s.fld Fld.PWR_PG_STATUS_FAIL ||| mask)
  (s.power (fun p => { p with failed := p.failed ||| mask, wakes := p.wakes.filter (fun w => !bitOf mask w.1) })).event 0xF3
    (mask + 256 * k + 4096 * cause)

/-- R420: the regulator of die `k` fails in stage 1 of its groups' wakes: only they stay off, and a transition counts as aborted. -/
def State.dieFail (s : State) (k code : Nat) : State :=
  let mask := (groupsIn (dieGroups k)).foldl (fun m g => setBitOf m g (SMap.get 0 s.pwr.wakes g == 1)) 0
  if mask = 0 then s
  else
    let s := s.groupsFail mask k 1
    (match s.pwr.trans with
     | some t => s.powerRefuse t.req code
     | none => s).afterWakes

/-- Stage 1 of a group wake ends: PD_PGg is switched on, the LO in use is SEL (R332), and LOA and LOB retune to the channel in their CHAN fields. -/
def State.groupPowered (s : State) (g : Nat) : State :=
  let old := s.powerCode
  let s := (s.switchOn (pdPg g)).resetDomain (pdPg g)
  let s := { s with rf := { s.rf with band := setBitOf s.rf.band g (s.on (Fld.RFE_PGg_CFG_BAND g)) } }
  let s := s.setFld (Fld.RFE_PGg_LOSEL_INUSE g) (s.fld (Fld.RFE_PGg_LOSEL_SEL g))
  let s := s.power (fun p => { p with wakes := SMap.set 0 p.wakes g 2 })
  let s := (s.requestRetune g 0 (s.fld (Fld.RFE_PGg_LOx_CTRL_CHAN g 0))).requestRetune g 1 (s.fld (Fld.RFE_PGg_LOx_CTRL_CHAN g 1))
  if s.pwr.trans.isNone && decide (s.powerCode ≤ 1) && s.powerCode != old then
    s.event 0xF0 (s.powerCode + 16 * old + 256 * 9 + 65536 * s.groupsOn)
  else s

/-- GROUP_WAKE_STAGE_END: a stage's ready signal is present (R424): power-good and the switch settled; both LOs LOCKED or FAIL;
write-back done; settled, and the group is released. -/
def execGroupWakeStageEnd (g : Fin 8) (s : State) : Out :=
  let ended := fun x => s.loState g.val x == loLocked || s.loState g.val x == loFail
  .next (match SMap.get 0 s.pwr.wakes g.val with
  | 1 =>
    if s.pwr.ops.contains (.dieOn (g.val / 2) false) then s
    else (s.dropOp (.dieOn (g.val / 2) true)).groupPowered g.val
  | 2 => if ended 0 && ended 1 then s.power (fun p => { p with wakes := SMap.set 0 p.wakes g.val 3 }) else s
  | 3 => s.power (fun p => { p with wakes := SMap.set 0 p.wakes g.val 4 })
  | 4 => (s.power (fun p => { p with wakes := SMap.erase p.wakes g.val })).afterWakes
  | _ => s)

/-- INFO of event 0xF2: a group's stage (R436). -/
def groupStageInfo (g stage : Nat) : Nat := stage + 16 + 256 * g

/-- GROUP_WAKE_TIMEOUT: a stage does not end in time (R424): the die fails; the group goes on; the group is switched off and fails. -/
def execGroupWakeTimeout (g : Fin 8) (s : State) : Out :=
  .next (match SMap.get 0 s.pwr.wakes g.val with
  | 1 => ((s.dropOp (.dieOn (g.val / 2) true)).dropOp (.dieOn (g.val / 2) false)).dieFail (g.val / 2) 5
  | 2 => (s.event 0xF2 (groupStageInfo g.val 2)).power (fun p => { p with wakes := SMap.set 0 p.wakes g.val 3 })
  | 3 => (((s.event 0xF2 (groupStageInfo g.val 3)).groupsOff (2 ^ g.val)).groupsFail (2 ^ g.val) (g.val / 2) 3).afterWakes
  | 4 => (((s.event 0xF2 (groupStageInfo g.val 4)).groupsOff (2 ^ g.val)).groupsFail (2 ^ g.val) (g.val / 2) 3).afterWakes
  | _ => s)

/-- POWER_GOOD_LOSS: power-good falls on a die while one of its groups is on (R416). -/
def execPowerGoodLoss (die : Fin 4) (s : State) : Out :=
  let mask := s.groupsOn &&& dieGroups die.val
  .next (if mask = 0 then s
  else
    let s := (groupsIn mask).foldl State.groupOff s
    let s := { s with pwr := { s.pwr with dies := setBitOf s.pwr.dies die.val false } }
    (s.groupsFail mask die.val 2).afterWakes)

/-! ### Regulator results (R414, R415, R420) -/

/-- R420: an aborted entry into DEEP SLEEP or BELL WATCH: the device returns through the wake order to the state it left. -/
def State.abortSleep (s : State) (t : PwrTrans) (code : Nat) : State :=
  let s := s.powerRefuse t.req code
  let s := { s with pwr := { s.pwr with
    ops := [], trans := some { t with stage := 1, waking := s.pwr.base, aborted := true } } }
  s.railsUp.showPower

/-- R420: an aborted wake: what had been powered goes off again, and the device stays asleep. -/
def State.abortWake (s : State) (t : PwrTrans) (code : Nat) : State :=
  let s := s.powerRefuse t.req code
  let base := s.pwr.base.getD 3
  let s := { s with pwr := { s.pwr with ops := [], trans := none, slot := none } }
  (s.railsDown base).showPower

/-- R420: an aborted switch-off of groups: they are powered again. -/
def State.abortNap (s : State) (t : PwrTrans) (code : Nat) : State :=
  let s := (s.powerRefuse t.req code).setFld Fld.PWR_PG_STATUS_REQ_OFF t.wasOff
  let s := { s with pwr := { s.pwr with trans := some { t with aborted := true, stage := 4 } } }
  s.wakeGroups t.offs

/-- A transaction fails for good, as REG_NACK (0x04) or REG_TIMEOUT (0x05): event 0xF4, and what R420 says of the transition that it
belongs to; at start step 9 the attempt fails (R62). -/
def State.regFail (s : State) (o : RegOp) (code : Nat) (status : Nat) : State :=
  let a := s.opAddr o
  let s := s.dropOp o
  let s := if a.1 = 0 then s.setFld Fld.PWR_VCORE_BUSY 0 else s
  let s := s.event 0xF4 (a.1 + 256 * a.2 + (if code = 5 then 2 ^ 15 else 0) + 65536 * status)
  match o with
  | .dieOn k _ => s.dieFail k code
  | .margin _ _ => s
  | _ =>
    if a.1 = 0 ∧ s.fld Fld.BOOT_STATUS_STEP = 9 ∧ s.boot.vcoreWait then
      { s with boot := { s.boot with vcoreWait := false } }.failAttempt 0x0E 0
    else match s.pwr.trans with
      | none => s
      | some t =>
        if (t.waking == some 3 || t.waking == some 4) && !t.aborted then (if t.stage = 1 then s.abortWake t code else s)
        else if (s.pwr.base == some 3 || s.pwr.base == some 4) && !t.aborted then s.abortSleep t code
        else match o with
          | .dieOff _ => if t.req.target ≤ 1 ∧ !t.aborted then s.abortNap t code else s
          | _ => s

/-- Margin code `k` of `m`, in bits [2k+1:2k], becomes `code`. -/
def setDigit (m k code : Nat) : Nat := m - m / 4 ^ k % 4 * 4 ^ k + code % 4 * 4 ^ k

/-- A transaction is acknowledged, and a die that it switches on takes its margin code with it (R415): a written voltage is then read until it is within ±10 mV, a die's power-good awaited. -/
def State.regAck (s : State) (o : RegOp) : State :=
  match o with
  | .avs mv false =>
    let s := { s with pwr := { s.pwr with ops := s.pwr.ops.map (fun p => if p = o then .avs mv true else p) } }
    let s := s.setFld Fld.PWR_VCORE_BUSY 0
    if s.pwr.again then { s with pwr := { s.pwr with again := false } }.pushAvs (s.fld Fld.PWR_VCORE_TARGET_MV) else s
  | .avs _ true =>
    let s := s.dropOp o
    if s.fld Fld.BOOT_STATUS_STEP = 9 then { s with boot := { s.boot with vcoreWait := false } } else s
  | .dieOn k false =>
    { s with pwr := { s.pwr with dies := setBitOf s.pwr.dies k true
                                 margins := setDigit s.pwr.margins k (s.marginOf k)
                                 ops := s.pwr.ops.map (fun p => if p = o then .dieOn k true else p) } }
  | .dieOn _ true => s
  | .dieOff k => { s with pwr := { s.pwr with dies := setBitOf s.pwr.dies k false } }.dropOp o
  | .rail n on => { s with pwr := { s.pwr with
      railsOff := (List.range 5).filter (fun m => if m = n then !on else s.pwr.railsOff.contains m) } }.dropOp o
  | .margin k code => { s with pwr := { s.pwr with margins := setDigit s.pwr.margins k code } }.dropOp o

/-- The transaction that a bus performs next: the oldest one, a die whose power-good is awaited apart. -/
def State.busOp (s : State) (avs : Bool) : Option RegOp :=
  s.pwr.ops.find? (fun o => match o with
    | .avs _ _ => avs
    | .dieOn _ sent => !avs && !sent
    | _ => !avs)

/-- AVSBUS_TRANSACTION_END: the transaction of the AVSBus, or of the PMBus, is acknowledged, or every try was a NACK (R414, R415);
`status` is SlaveAck or STATUS_WORD. -/
def execAvsbusTransactionEnd (avs ack : Bool) (status : BitVec 16) (s : State) : Out :=
  .next (match s.busOp avs with
  | some o => if ack then (s.regAck o).showPower else (s.regFail o 4 status.toNat).showPower
  | none => s)

/-- REGULATOR_TIMEOUT: VDD_CORE's voltage, or a die's power-good, is not reached within PG_TO ms (R414, R415). -/
def execRegulatorTimeout (die : Option (Fin 4)) (status : BitVec 16) (s : State) : Out :=
  .next (match s.pwr.ops.find? (fun o => match o with
    | .avs _ sent => sent && die.isNone
    | .dieOn k sent => sent && (die.map (·.val)) == some k
    | _ => false) with
  | some o => (s.regFail o 5 status.toNat).showPower
  | none => s)

/-- A write to PWR_VCORE: a valid TARGET_MV starts one voltage write in ACTIVE, NAP or LIGHT SLEEP, or waits while BUSY (R414). -/
def State.vcoreWrite (s : State) (d : Word) : State :=
  let s := s.plainWrite Reg.PWR_VCORE d
  let mv := Fld.PWR_VCORE_TARGET_MV.of d
  if 620 ≤ mv ∧ mv ≤ 820 ∧ s.pwr.trans.isNone ∧ (s.pwr.base = some 0 ∨ s.pwr.base = some 2) then
    if s.on Fld.PWR_VCORE_BUSY then { s with pwr := { s.pwr with again := true } } else s.pushAvs mv
  else s

/-- A MARGIN field without the reserved code 0b11. -/
def marginOk (m : Nat) : Bool := (List.range 4).all (fun k => m / 4 ^ k % 4 != 3)

/-- A write to PWR_REG_CFG: a margin code that changes goes to its die where the rails are on (R415). -/
def State.regCfgWrite (s : State) (d : Word) : State :=
  let old := s
  let m := Fld.PWR_REG_CFG_MARGIN.of d
  let s := s.plainWrite Reg.PWR_REG_CFG (if marginOk m then d else Fld.PWR_REG_CFG_MARGIN.put (s.fld Fld.PWR_REG_CFG_MARGIN) d)
  s.forEach 4 (fun s k => s.iff (s.marginOf k != old.marginOf k && bitOf s.pwr.dies k) (fun s => s.pushOp (.margin k (s.marginOf k))))

/-- The enabled PMBus addresses: the dies' regulators, then the core rails that are named (R416). -/
def State.pmbAddrs (s : State) : List Nat :=
  (List.range 4).map s.dieAddr ++ ((List.range 5).filter (fun n => (s.railCfg n).1)).map (fun n => (s.railCfg n).2)

/-- PMB_ALERT: STATUS_WORD of every enabled address is read, and 0xF4 raised with it (R416). -/
def execPmbAlert (statuses : List (BitVec 16)) (s : State) : Out :=
  .next (s.pmbAddrs.zipIdx.foldl (fun s a =>
    s.event 0xF4 (1 + 256 * a.1 + 2 ^ 15 + 65536 * (statuses.getD a.2 0).toNat)) s)

/-! ### Wake sources and the Bell receiver (R429 to R434) -/

/-- A wake source asserts: it acts in the states `from` where its EN is set, with the target of its TGT; from LIGHT SLEEP always
ACTIVE (R429). -/
def State.wakeSource (s : State) (code : Nat) (states : List Nat) (en tgt : Fld) : State :=
  match s.pwr.base with
  | some b =>
    if states.contains b && s.on en then s.submit (if b ≠ 2 ∧ s.on tgt then 2 else 0) code 0 else s
  | none => s

/-- WAKE_N_ASSERT: WAKE_N low for 10 µs. -/
def execWakeNAssert (s : State) : Out :=
  .next ((s.setSources (setBitOf s.pwr.sources 0 true)).wakeSource 5 [2, 3, 4] Fld.PWR_WAKE_CFG_WAKEN_EN Fld.PWR_WAKE_CFG_WAKEN_TGT)

/-- QB0_CLOCK_WAKE: clock activity on the QB0 clock lane for 10 µs. -/
def execQb0ClockWake (s : State) : Out :=
  .next ((s.setSources (setBitOf s.pwr.sources 1 true)).wakeSource 6 [3, 4] Fld.PWR_WAKE_CFG_QB0_EN Fld.PWR_WAKE_CFG_QB0_TGT)

/-- AON_TIMER_EXPIRY: TICKS ticks of the AON clock since the state was entered; 0 never. -/
def execAonTimerExpiry (s : State) : Out :=
  .next (if s.rd Reg.PWR_AON_TMR = 0 then s
  else s.wakeSource 7 [2, 3, 4] Fld.PWR_WAKE_CFG_TMR_EN Fld.PWR_WAKE_CFG_TMR_TGT)

/-- MSPI_CS_WAKE: MSPI_CS_N low for 1 µs. -/
def execMspiCsWake (s : State) : Out :=
  .next ((s.setSources (setBitOf s.pwr.sources 2 true)).wakeSource 8 [3, 4] Fld.PWR_WAKE_CFG_CS_EN Fld.PWR_WAKE_CFG_CS_TGT)

/-- The Bell receiver listens: in BELL WATCH with EN, in DEEP SLEEP with IN_DEEP. -/
def State.bellListens (s : State) : Bool :=
  (s.pwr.base == some 4 && s.on Fld.PWR_BELL_CFG_EN) || (s.pwr.base == some 3 && s.on Fld.PWR_BELL_CFG_IN_DEEP)

/-- R434: the bytes ADDR to CRC of a word whose SYNC has been found match this device; whether by group. -/
def State.bellMatch (s : State) (w : List Byte) : Option Bool :=
  let addr := 256 * fieldAt w 0 1 + fieldAt w 1 1
  let group := fieldAt w 2 1
  let cmd := fieldAt w 3 1
  if fieldAt w 4 1 ≠ crc8 (bytesAt w 0 4) ∨ cmd = 0 ∨ 3 < cmd then none
  else if addr = s.fld Fld.PWR_BELL_ADDR_ADDR then some false
  else if addr = 0xFFFF ∧ (group = s.fld Fld.PWR_BELL_ADDR_GROUP ∨ group = 0xFF) then some true
  else none

/-- BELL_WORD: bytes 1 to 5 of a word whose SYNC has been found: a ping, a wake command, or a rejected word (R433, R434). -/
def execBellWord (word : List Byte) (s : State) : Out :=
  .next (if !s.bellListens then s
  else match s.bellMatch word with
  | none => s.count Fld.PWR_BELL_COUNT_REJECT 1
  | some byGroup =>
    let cmd := fieldAt word 3 1
    let group := fieldAt word 2 1
    let s := (s.count Fld.PWR_BELL_COUNT_MATCH 1).wr Reg.PWR_BELL_LAST
      (placeField 31 24 cmd ||| placeField 23 16 group ||| placeField 15 0 (256 * fieldAt word 0 1 + fieldAt word 1 1))
    if cmd = 1 then
      if s.on Fld.PWR_BELL_CFG_PING_IRQ then { s with pwr := { s.pwr with ping := true } }.settleIrq else s
    else
      { s with pwr := { s.pwr with bell := some (cmd, group, byGroup) } }.submit (if cmd = 2 then 2 else 0) 4 0)

/-- PING_IRQ_PULSE_END: 1 ms after the ping, IRQ_N is released (R434). -/
def execPingIrqPulseEnd (s : State) : Out :=
  .next ({ s with pwr := { s.pwr with ping := false } }.settleIrq)

/-! ### Timetable marks (R430) -/

/-- A row's span from AIR_COUNT `a` of its first symbol: the air time of the first symbol after it. -/
def State.rowEnd (s : State) (r : TtRow) (a : Nat) : Nat :=
  airOf s.time.scs (frameOf a) (symbolOf s.time.scs a + r.count)

/-- R430: row `r` of the bank in force issues LIGHT requests. -/
def State.lightRow (s : State) (r : TtRow) (a : Nat) : Bool :=
  s.on Fld.PWR_POLICY_TT_EN && r.used && r.valid s.time.period && r.power == 2 && without s.fitted r.mask == 0 &&
    decide (s.fld Fld.PWR_POLICY_LIGHT_MIN * 12288 ≤ (s.rowEnd r a - a) * 100)

/-- The air time of the symbol `n` symbols before the one that starts at AIR_COUNT `a`. -/
def symbolsBefore (m n a : Nat) : Nat :=
  let per := 14 * slotsPerFrame m
  let k := frameOf a * per + symbolOf m a - n
  airOf m (k / per) (k % per)

/-- TT_LIGHT_MARK: T_LATE + 1 µs before a POWER LIGHT row's first symbol its LIGHT SLEEP request is issued, and LIGHT_LEAD µs before
the first symbol after it (`wake`) its ACTIVE request (R430). -/
def execTtLightMark (row : BitVec 8) (wake : Bool) (sources : Fin 8) (s : State) : Out :=
  let s := s.setSources sources.val
  let r := s.ttRow (s.fld Fld.ATM_TT_CTRL_BANK) row.toNat
  let a := gridFrom s.time.scs (s.air + s.tLate)
  .next (if !s.time.everLocked then s
  else if wake then
    (let e := gridFrom s.time.scs (s.air + s.fld Fld.PWR_POLICY_LIGHT_LEAD * 12288 / 100)
     if s.lightRow r (symbolsBefore s.time.scs r.count e) then s.submit 0 3 0 else s)
  else if s.lightRow r a then
    { s with pwr := { s.pwr with plannedWake := s.rowEnd r a - s.fld Fld.PWR_POLICY_LIGHT_LEAD * 12288 / 100 } }.submit 2 3 0
  else s)

end Sys2Proof.Machine
end

