-- ==== Sys2Proof/Machine/Hk.lean ====
section
/-!
DEFINITION. The housekeeping converter: the scan list, triggers and urgent requests (R391 to R397), results and their scaling
(R393, R398, R399), thermal protection (R400, R401) and system calibration, LOP4 (R402).
-/

namespace Sys2Proof.Machine

/-! ### The next conversion (R394 to R396) -/

/-- A conversion starts. -/
def State.hkStart (s : State) (r : HkRun) : State :=
  { s with hk := { s.hk with running := some r } }.wr Reg.HK_STATUS
    (placeField 31 31 1 ||| placeField 30 29 r.kind ||| placeField 20 16 r.ch ||| placeField 6 0 r.entry)

/-- The converter is idle. -/
def State.hkIdle (s : State) : State := { s with hk := { s.hk with running := none } }.wr Reg.HK_STATUS 0

/-- Entry `n` of the scan list is in use and continuous. -/
def State.hkContinuous (s : State) (n : Nat) : Bool := decide (n < s.fld Fld.HK_CTRL_LEN) && !s.on (Fld.HK_LISTn_TRIG n)

/-- A due triggered entry starts; more than 64 ticks after its due time it starts late (R396, R408). -/
def State.hkTriggered (s : State) (e due : Nat) : State :=
  let s := { s with hk := { s.hk with due := SMap.erase s.hk.due e } }
  let s := if due + 64 < s.air then
      (s.count Fld.HK_COUNTS_TRIG_LATE 1).eventOnce 0xE4 0 (e + 65536 * min 0xFFFF (s.air - due))
    else s
  s.hkStart ⟨1, s.fld (Fld.HK_LISTn_CH e), s.fld (Fld.HK_LISTn_WIN e), e, false⟩

/-- The continuous walk goes on at its next entry, or stops with none in the list. -/
def State.hkWalk (s : State) : State :=
  let w := if s.hk.restart then 0 else s.hk.walk
  let s := { s with hk := { s.hk with restart := false } }
  match ((List.range 64).map (fun i => (w + i) % 64)).find? s.hkContinuous with
  | some e =>
    { s with hk := { s.hk with walk := (e + 1) % 64 } }.hkStart
      ⟨0, s.fld (Fld.HK_LISTn_CH e), s.fld (Fld.HK_LISTn_WIN e), e, false⟩
  | none => s.hkIdle

/-- The next conversion, while none runs (R396): a due triggered entry, a conversion of LOP4 (R402), a due guard conversion (R400),
the next continuous entry. -/
def State.hkChoose (s : State) : State :=
  if s.hk.running.isSome then s
  else match s.hk.due with
    | (e, d) :: _ => s.hkTriggered e d
    | [] => match s.hk.lop4 with
      | some c => s.hkStart ⟨3, 20 + c.idx, c.win, 0, true⟩
      | none => match s.hk.guards with
        | c :: cs => { s with hk := { s.hk with guards := cs } }.hkStart ⟨3, c, 5, 0, false⟩
        | [] => s.hkWalk

/-- A continuous conversion is aborted at once by a due triggered entry or by LOP4 (R396). -/
def State.hkAbort (s : State) : State :=
  match s.hk.running with
  | some r => if r.kind = 0 then (s.count Fld.HK_ABORT_ABORTS 1).hkIdle else s
  | none => s

/-- Timetable marker `mark` fires at AIR_COUNT `air`: the entries that it arms (R395, R205). -/
def State.hkMark (s : State) (mark air : Nat) : State :=
  (List.range 64).foldl (fun s n =>
    if n < s.fld Fld.HK_CTRL_LEN ∧ s.on (Fld.HK_LISTn_TRIG n) ∧ s.fld (Fld.HK_LISTn_MARK n) = mark then
      let s := s.iff ((SMap.find s.hk.armed n).isSome || (SMap.find s.hk.due n).isSome)
        (fun s => s.count Fld.HK_COUNTS_TRIG_MISS 1)
      let at' := air + s.fld (Fld.HK_LISTn_DELAY n)
      { s with hk := { s.hk with armed := SMap.insert n at' (SMap.erase s.hk.armed n), due := SMap.erase s.hk.due n } }
    else s) s

/-- TRIGGERED_ENTRY_DUE: an armed entry becomes due (R396). -/
def execTriggeredEntryDue (entry : Fin 64) (s : State) : Out :=
  .next (match SMap.find s.hk.armed entry.val with
  | some d =>
    let s := { s with hk := { s.hk with
      armed := SMap.erase s.hk.armed entry.val, due := SMap.insert entry.val d (SMap.erase s.hk.due entry.val) } }
    s.hkAbort.hkChoose
  | none => s)

/-- GUARD_CONVERSION_DUE: 10 ms without a result of a thermal channel (R400). -/
def execGuardConversionDue (ch : Fin 10) (s : State) : Out :=
  .next (if s.domOn pdCtl && (decide (8 ≤ ch.val) || s.domOn (pdPg ch.val)) then
    { s with hk := { s.hk with guards := (List.range 10).filter (fun c => s.hk.guards.contains c || c == ch.val) } }.hkChoose
  else s)

/-- A write to HK_URG: with GO 1 the conversion is taken at once or dropped, and GO clears (R397). -/
def State.hkUrgWrite (s : State) (d : Word) : State :=
  let s := s.plainWrite Reg.HK_URG (Fld.HK_URG_GO.put 0 d)
  if Fld.HK_URG_GO.of d = 1 then
    if s.hk.running.isSome then s.count Fld.HK_URG_DROP_COUNT 1
    else s.hkStart ⟨2, s.fld Fld.HK_URG_CH, s.fld Fld.HK_URG_WIN, 0, false⟩
  else s

/-- A write to HK_CTRL or to a list entry: it takes effect when the conversion in progress ends, and the walk restarts (R394). -/
def State.hkListWrite (s : State) (a : Nat) (d : Word) : State :=
  let s := s.plainWrite a d
  { s with hk := { s.hk with restart := true } }.hkChoose

/-! ### Results (R392, R393, R398, R399) -/

/-- The scaled value of HKIN input `i` for raw code `r` (R393), exactly. -/
def State.hkScale (s : State) (i r : Nat) : Int :=
  let w := s.rd (Reg.HK_SCALEi i)
  let mult := sext 16 (getField 15 0 w)
  let u := ((r : Int) - sext 24 (s.fld (Fld.HK_CALi_W0_OFFSET i))) * s.fld (Fld.HK_CALi_W1_GAIN i) * 1200000
  satInt 24 (rndDiv ((u - 5000 * (getField 31 24 w : Int) * (2 ^ 46 : Nat)) * mult) (2 ^ (62 + getField 19 16 w)))

/-- A result goes to the port's FIFO (R399). -/
def State.hkPush (s : State) (c v : Nat) : State :=
  if !s.on Fld.HK_CTRL_PORT_EN then s
  else if s.hk.fifo.length < 32 then
    { s with hk := { s.hk with fifo := s.hk.fifo ++ [placeField 28 24 c ||| placeField 23 0 v] } }
  else (s.count Fld.HK_ABORT_PORT_DROP 1).eventOnce 0xE5 0 0

/-- HK_RAWc and HK_RESc take a result (R398). -/
def State.hkResult (s : State) (c raw v : Nat) (off : Bool) : State :=
  let seq := (s.fld (Fld.HK_RESc_SEQ c) + 1) % 16
  let s := s.wr (Reg.HK_RAWc c) (placeField 31 28 seq ||| placeField 23 0 raw)
  let s := s.wr (Reg.HK_RESc c) (placeField 31 28 seq ||| placeField 24 24 (bit off) ||| placeField 23 0 v)
  (s.hkPush c v).compUpdate c

/-- A read of HK_PORT takes the next word, 0 when it is empty (R399). -/
def State.hkPortPop (s : State) : State × Word :=
  match s.hk.fifo with
  | w :: ws => ({ s with hk := { s.hk with fifo := ws } }, w)
  | [] => (s, 0)

/-! ### Thermal protection (R400, R401) -/

/-- The groups that channel `c` protects. -/
def thermalGroups (c : Nat) : Nat := if c < 8 then 2 ^ c else 0xFF

/-- The groups that the set HOT bits hold. -/
def State.hotGroups (s : State) : Nat :=
  (List.range 10).foldl (fun m c => if bitOf (s.fld Fld.HK_THERM_STATUS_HOT) c then m ||| thermalGroups c else m) 0

/-- INFO of the thermal events (R408). -/
def thermInfo (c v : Nat) : Nat := c + 256 * v

/-- One level of R400: its bit is set at the threshold with `up`, and cleared below the threshold less HYST with `down`. -/
def State.thermalLevel (s : State) (f : Fld) (c : Nat) (v thr : Int) (up down : State → State) : State :=
  let on := bitOf (s.fld f) c
  if thr ≤ v then (if on then s else up (s.setFld f (setBitOf (s.fld f) c true)))
  else if on && decide (v < thr - 16 * s.fld Fld.HK_THERM_CFG_HYST) then down (s.setFld f (setBitOf (s.fld f) c false))
  else s

/-- R401: activity stops as at a SOFT reset, and every domain but PD_AON, PD_CTL and PD_SYN is held off. -/
def State.thermalTrip (s : State) : State :=
  let s := ((List.range 8).foldl State.groupOff s).spoilFlash.spoilFuses
  let old := s
  let s := s.clearBlocks .soft
  let stops := fun a => (decide (0x20000 ≤ a) && decide (a < 0x30000)) || (decide (0x70000 ≤ a) && !(decide (0xD0000 ≤ a) && decide (a < 0xE0000)))
  let s := { s with
    regs := resetRegs (fun a => if stops a then [.n] else []) s.regs
    domains := [pdAon, pdCtl, pdSyn], time := old.time, hk := { old.hk with lop4 := none }
    pwr := { old.pwr with trans := none, slot := none, wakes := [], ops := [], hotWaits := 0, tripped := true }
    flashOps := [], sec := SecState.idle s.sec.keySpent
    boot := { s.boot with writing := none, waiting := [], erasing := false, sections := [], vcoreWait := false, hot := false } }
  (((s.setFld Fld.HK_SYSCAL_CTRL_GO 0).setFld Fld.HK_THERM_STATUS_TRIP 1).setFld Fld.PWR_VCORE_BUSY 0).showPower

/-- A result of HK0 to HK9 is compared with the thresholds (R400, R401). -/
def State.thermal (s : State) (c code : Nat) : State :=
  let v := sext 24 code
  let info := thermInfo c code
  let s := s.thermalLevel Fld.HK_THERM_STATUS_WARN c v (16 * sext 8 (s.fld Fld.HK_THERM_CFG_WARN))
    (fun s => s.event 0xE0 info) (fun s => s)
  let s := s.thermalLevel Fld.HK_THERM_STATUS_HOT c v (16 * sext 8 (s.fld Fld.HK_THERM_CFG_HOT))
    (fun s => (s.thermalOff (thermalGroups c)).event 0xE1 info)
    (fun s => (s.thermalOn (without (thermalGroups c) s.hotGroups)).event 0xE2 info)
  if 2000 ≤ v ∧ !s.pwr.tripped then s.thermalTrip.event 0xE3 info else s

/-- A write to HK_THERM_CFG: ignored when WARN would exceed HOT, or HOT +115 °C (R400). -/
def State.thermCfgWrite (s : State) (d : Word) : State :=
  let w := sext 8 (Fld.HK_THERM_CFG_WARN.of d)
  let h := sext 8 (Fld.HK_THERM_CFG_HOT.of d)
  if w ≤ h ∧ h ≤ 115 then s.plainWrite Reg.HK_THERM_CFG d else s

/-! ### System calibration (R402) -/

/-- A quotient whose rounding the spec does not state: exact where it is whole, else its floor or the number above it. -/
def State.openQuotient (s : State) (a b : Nat) : State × Nat :=
  if a % b = 0 then (s, a / b) else (s.useFresh, a / b + (Config.openWord s.fresh).toNat % 2)

/-- LOP4 ends. -/
def State.lop4End (s : State) (state err : Nat) : State :=
  ({ s with hk := { s.hk with lop4 := none } }.setFld Fld.HK_SYSCAL_CTRL_GO 0).lopEnd 4 state err

/-- The full-scale step's gain and offset, or its error. -/
def State.lop4Gain (s : State) (c : SysCal) (rf : Nat) : State :=
  let rz := s.fld Fld.HK_SYSCAL_ZERO_CODE
  let f := s.fld Fld.HK_SYSCAL_FS_FS
  let d := rf - rz
  if d < 2 ^ 22 then s.lop4End lopFailed 3
  else if f * 2 ^ 25 < 1200000 * d ∨ 3 * 1200000 * d < f * 2 ^ 25 then s.lop4End lopFailed 4
  else
    let r := s.openQuotient (f * 2 ^ 46) (1200000 * d)
    ((r.1.setFld (Fld.HK_CALi_W0_OFFSET c.idx) rz).setFld (Fld.HK_CALi_W1_GAIN c.idx) r.2).lop4End lopDone 0

/-- One of LOP4's conversions has ended with raw code `raw`. -/
def State.lop4Step (s : State) (raw : Nat) : State :=
  match s.hk.lop4 with
  | none => s
  | some c =>
    let codes := c.codes ++ [raw]
    let s := ({ s with hk := { s.hk with lop4 := some { c with codes := codes } } }.lopUnits 4 codes.length 16)
    let r := s.openQuotient codes.sum codes.length
    let s := r.1.setFld Fld.HK_SYSCAL_ACC_MEAN r.2
    if codes.length < 16 then s
    else if c.full then s.lop4Gain c r.2
    else (s.wr Reg.HK_SYSCAL_ZERO (placeField 31 31 1 ||| placeField 27 24 c.idx ||| placeField 23 0 r.2)).lop4End lopDone 0

/-- A write to HK_SYSCAL_CTRL. -/
def State.syscalWrite (s : State) (d : Word) : State :=
  let go := Fld.HK_SYSCAL_CTRL_GO.of d == 1
  if go && s.lopBusy 4 then s.setFld Fld.HK_SYSCAL_CTRL_OVERRUN 1
  else
    let s := s.plainWrite Reg.HK_SYSCAL_CTRL (Fld.HK_SYSCAL_CTRL_GO.put 0 d)
    if !go then s
    else
      let i := s.fld Fld.HK_SYSCAL_CTRL_IDX
      let w := s.fld Fld.HK_SYSCAL_CTRL_WIN
      let full := s.on Fld.HK_SYSCAL_CTRL_STEP
      let s := ((s.setFld Fld.HK_SYSCAL_CTRL_GO 1).lopStart 4 lopRunning 16)
      let s := s.setFld Fld.HK_SYSCAL_ACC_MEAN 0
      if 11 < i ∨ 6 ≤ Fld.HK_SYSCAL_CTRL_WIN.of d then s.lop4End lopFailed 1
      else if full ∧ !(s.on Fld.HK_SYSCAL_ZERO_VALID && s.fld Fld.HK_SYSCAL_ZERO_IDX == i) then s.lop4End lopFailed 2
      else { s with hk := { s.hk with lop4 := some ⟨i, full, w, []⟩ } }.hkAbort.hkChoose

/-! ### The end of a conversion -/

/-- The sensor of channel `c` lies in a domain that is switched off: HKg's in PD_PGg, no board input's, and for the other channels, whose
domains the spec does not name, as `off` says (R392). -/
def State.hkOff (s : State) (c : Nat) (off : Bool) : Bool := if c < 8 then !s.domOn (pdPg c) else decide (c < 20) && off

/-- HK_CONVERSION_END: raw code `raw`, and for a temperature or rail channel the scaled value that the factory trims give; `off`: the
sensor of a channel from HK8 to HK19 lies in a domain that is switched off (R392, R398, R400, R402). -/
def execHkConversionEnd (raw scaled : BitVec 24) (off : Bool) (s : State) : Out :=
  .next (match s.hk.running with
  | none => s
  | some r =>
    let off := s.hkOff r.ch off
    let v := if off then 0x800000
      else if 20 ≤ r.ch then toCode 24 (s.hkScale (r.ch - 20) raw.toNat) else scaled.toNat
    let s := s.hkIdle.hkResult r.ch raw.toNat v off
    let s := if r.ch < 10 ∧ !off then s.thermal r.ch v else s
    let s := if r.lop4 then s.lop4Step raw.toNat else s
    s.hkChoose)

end Sys2Proof.Machine
end

