-- ==== Sys2Proof/Machine/Bus.lean ====
section
/-!
DEFINITION. Accesses to the whole address space (R20 to R26): registers with the effect that each of them gives a read or a
write, the store, and the core windows (R362 to R366). The management fabric's requesters and the DMA channels share them.
-/

namespace Sys2Proof.Machine

/-- Who performs an access: its rights, its key for the shadows of R444, its requester code at the store, what its read of a core
memory meets (0 nothing, 1 a corrected word, 2 an uncorrectable one), and whether the device key unseals for an attestation that
it starts (R85). -/
structure Accessor where
  q : Requester
  key : Nat
  port : Nat
  err : Nat
  unseals : Bool
deriving DecidableEq, Repr

/-- A requester of the management fabric (R24). -/
def fabricAccess (q : Requester) (env : BusEnv) : Accessor := ⟨q, q.code, reqFabric, env.memErr.val, env.unseals⟩

/-- An access that meets no error: those of Proctor, and writes to the store. -/
def proctorEnv : BusEnv := ⟨0, true⟩

/-- DMA channel `n` with the rights of the requester that started it (R171). -/
def dmaAccess (q : Requester) (n err : Nat) : Accessor := ⟨q, 16 + n, reqDma, err, true⟩

/-! ### Two-part values (R444, R445) -/

/-- The low register of the two-part value that the register at `a` belongs to, and whether `a` is its high half. -/
def pairOf (a : Nat) : Option (Nat × Bool) :=
  let in' := fun low => if a = low then some (low, false) else if a = low + 4 then some (low, true) else none
  if a = Reg.ATM_COUNT_LO ∨ a = Reg.ATM_COUNT_HI then in' Reg.ATM_COUNT_LO
  else if a = Reg.LNK_PRBS_UI_LO ∨ a = Reg.LNK_PRBS_UI_HI then in' Reg.LNK_PRBS_UI_LO
  else if a = Reg.CAL_LAST_ATIME_LO ∨ a = Reg.CAL_LAST_ATIME_HI then in' Reg.CAL_LAST_ATIME_LO
  else if 0x141000 ≤ a ∧ a < 0x141800 then in' (Reg.ULC_PATHp_ENERGY_LO ((a - 0x141000) / 0x20))
  else if 0x190000 ≤ a ∧ a < 0x198000 then
    let g := (a - 0x190000) / 0x1000
    (in' (Reg.LIN_PGg_CAP_EORX_LO g)).orElse (fun _ => in' (Reg.LIN_PGg_CAP_EX_LO g))
  else if 0x410000 ≤ a ∧ a < 0x700000 then in' (Reg.CORE_CYCLES_LO ((a - 0x400000) / 0x40000))
  else if 0x740000 ≤ a ∧ a < 0x780000 then in' (Reg.CORE_CYCLES_LO 12)
  else none

/-- The two halves of a two-part value as they stand. -/
def State.pairLive (s : State) (low : Nat) : Nat × Nat :=
  if low = Reg.ATM_COUNT_LO then (s.air % 2 ^ 32, s.air / 2 ^ 32) else ((s.rd low).toNat, (s.rd (low + 4)).toNat)

/-- A requester's shadow of a two-part value, by 64 × the pair's word address + key. -/
def State.shadow (s : State) (low key : Nat) : Shadow := SMap.get ⟨0, false⟩ s.shadows (16 * low + key)

def State.setShadow (s : State) (low key : Nat) (h : Shadow) : State :=
  { s with shadows := SMap.set ⟨0, false⟩ s.shadows (16 * low + key) h }

/-- A read of one half: the low half copies the rest into the shadow, the high half returns the shadow with STALE in bit 31. -/
def State.pairRead (s : State) (low : Nat) (high : Bool) (key : Nat) : State × Word :=
  if high then
    let h := s.shadow low key
    (s.setShadow low key { h with fresh := false }, placeField 31 31 (bit !h.fresh) ||| placeField 30 0 h.high)
  else
    let v := s.pairLive low
    (s.setShadow low key ⟨v.2 % 2 ^ 31, true⟩, BitVec.ofNat 32 v.1)

/-- A write to either half: the next read of the high half is STALE. -/
def State.pairWritten (s : State) (a key : Nat) : State :=
  match pairOf a with
  | some p => s.setShadow p.1 key { s.shadow p.1 key with fresh := false }
  | none => s

/-! ### Core windows (core windows of spec/01, R364, R365) -/

/-- What stands at an address. -/
inductive Target where
  | store
  /-- Program word `w` of core `c`. -/
  | prog (c w : Nat)
  /-- Word `w` of data memory `m` of core `c`: 0 X, 1 Y, 2 Z. -/
  | data (c m w : Nat)
  /-- A register of core `c`, by its offset. -/
  | core (c o : Nat)
  /-- The register of LIN that a mirror page shows (R294). -/
  | mirror (a : Nat)
  | reg
deriving DecidableEq, Repr

/-- The target of an access to address `a`. -/
def State.target (s : State) (a : Nat) : Target :=
  if 0x00400000 ≤ a ∧ a < 0x00700000 then
    let c := (a - 0x00400000) / 0x40000
    let o := a % 0x40000
    if o < 0x10000 then .prog c (o / 4)
    else if o < 0x18000 then .core c (o - 0x10000)
    else if o < 0x19000 ∧ c < 8 then .mirror (0x190000 + 0x1000 * c + (o - 0x18000))
    else if o < 0x20000 then .core c (o - 0x10000)
    else .data c (s.fld (Fld.CORE_APSEL_SEL c)) ((o - 0x20000) / 4)
  else if 0x00700000 ≤ a ∧ a < 0x00900000 then
    let o := a - 0x00700000
    if o < 0x40000 then .prog 12 (o / 4)
    else if o < 0x80000 then .core 12 (o - 0x40000)
    else .data 12 (o / 0x80000 - 1) (o % 0x80000 / 4)
  else if storeBase ≤ a ∧ a < storeEnd then .store
  else .reg

/-- A 24-bit data word in its 32-bit location (R364). -/
def dataOut (v : Nat) : Word := BitVec.ofInt 32 (sext 24 v)

/-! ### Reads -/

/-- A read of core `c`'s register at offset `o` (spec/14). -/
def State.coreRegRead (s : State) (x : Accessor) (c o : Nat) : State × Word :=
  let a := Reg.CORE_CTRL c + o
  let y := s.core c
  if o = 0x004 then
    (s, placeField 31 16 y.pc ||| placeField 4 4 (bit (y.flag srTl)) ||| placeField 2 0 (s.coreStateNow c))
  else if o = 0x014 then (s, placeField 31 16 (s.corePending c) ||| placeField 15 0 (s.fld (Fld.CORE_IRQ_EN c)))
  else if o = 0x024 ∨ o = 0x028 then s.pairRead (Reg.CORE_CYCLES_LO c) (o == 0x028) x.key
  else if o = 0x100 then (s, (y.mbxIn.head?).getD 0)
  else if o = 0x104 then s.mbxOutRead c x.q
  else if o = 0x108 then
    (s, (s.rd a &&& 0xFFFF0000#32) ||| placeField 15 8 y.mbxOut.length ||| placeField 7 0 y.mbxIn.length)
  else if o = 0x10C ∧ isDean c then (s, placeField 27 16 s.tutorsFault ||| placeField 11 0 s.tutorsOut)
  else (s, readWord a (s.rd a))

/-- LOP_RESn: where the results of long operation `n` stand; 0 for an operation that has none (R404). -/
def State.lopRes (s : State) (n : Nat) : Word :=
  match n with
  | 0 => s.rd Reg.CAL_ARR_DEST
  | 2 => s.rd Reg.LIN_LOP2_DEST
  | 3 => s.rd Reg.SFD_LOP3_DEST
  | 4 => if s.lopBusy 4 then 0x6003C#32 else 0#32
  | 6 => 0x23000#32
  | 9 => s.rd Reg.LNK_MARGIN_DEST
  | _ => 0#32

/-- A read of the register at `a`, outside the core windows. -/
def State.regRead (s : State) (x : Accessor) (a : Nat) : State × Word :=
  match pairOf a with
  | some p => s.pairRead p.1 p.2 x.key
  | none =>
    let plain := (s, readWord a (s.rd a))
    if 0x190000 ≤ a ∧ a < 0x198000 then
      let g := (a - 0x190000) / 0x1000
      let o := a % 0x1000
      if o = 0x010 then (s.coreUnpend g 4, plain.2)
      else if o = 0x038 then (s.coreUnpend g 5, plain.2)
      else if o = 0x048 then (s.coreUnpend g 6, plain.2)
      else if o = 0xF00 then s.capPortRead g
      else plain
    else if a = Reg.HK_PORT then s.hkPortPop
    else if a = Reg.ATM_NOW then (s, s.atmNow)
    else if Reg.LOP_RESn 0 ≤ a ∧ a ≤ Reg.LOP_RESn 9 then (s, s.lopRes ((a - Reg.LOP_RESn 0) / 4))
    else if a = Reg.EVT_SUMMARY then (s, s.evtSummary)
    else if 0xA1000 ≤ a ∧ a < 0xA1400 ∧ a % 0x20 = 0 then (s, s.queCfgRead ((a - 0xA1000) / 0x20))
    else if 0x21000 ≤ a ∧ a < 0x22000 then (s, s.fuse ((a - 0x21000) / 4))
    else if 0x22000 ≤ a ∧ a < 0x23000 then (s, BitVec.ofNat 32 (fieldAt (certificate s.serial) (a - 0x22000) 4))
    else plain

/-- A read of a core memory word that has met `err` (R367). -/
def State.coreMemRead (s : State) (c mem w err : Nat) (v : Word) : State × Nat × Word :=
  if err = 2 then (s.event 0xD3 (c + 16 * mem + 65536 * (w / 2 % 65536)), stEccErr, 0)
  else (if err = 1 then s.coreCorrected c mem w else s, stOk, v)

/-- A read at `a` that the fabric has let pass: the state after it, its status, and its data, 0 unless OK. -/
def State.readAt (s : State) (x : Accessor) (a : Nat) : State × Nat × Word :=
  match s.target a with
  | .store =>
    let r := s.storeRead a 4 x.port
    if r.2.2 then (r.1, stOk, BitVec.ofNat 32 (leNat r.2.1)) else (r.1, stEccErr, 0)
  | .prog c w => s.coreMemRead c 0 w x.err ((s.core c).progWord w)
  | .data c m w => s.coreMemRead c (m + 1) w x.err (dataOut ((s.core c).readData m w))
  | .core c o => let r := s.coreRegRead x c o; (r.1, stOk, r.2)
  | .mirror b => if s.domOn pdLin then (let r := s.regRead x b; (r.1, stOk, r.2)) else (s, stDomainOff, 0)
  | .reg => let r := s.regRead x a; (r.1, stOk, r.2)

/-! ### Writes -/

/-- A write to core `c`'s register at offset `o`. -/
def State.coreRegWrite (s : State) (x : Accessor) (c o : Nat) (d : Word) : State :=
  let a := Reg.CORE_CTRL c + o
  if o = 0x000 then s.coreCtrlWrite c d
  else if o = 0x010 ∧ isDean c then s
  else if o = 0x014 then s.coreIrqWrite c d
  else if o = 0x01C then s.doorbellWrite c d
  else if o = 0x100 then s.mbxInWrite c x.q d
  else if o = 0x104 then s
  else s.plainWrite a d

/-- Writes to DEV, BOOT and PROC. -/
def State.bootBlockWrite (s : State) (x : Accessor) (a : Nat) (d : Word) : State :=
  if a = Reg.DEV_CTRL then s.devCtrlWrite x.q d
  else if a = Reg.BOOT_CTRL then s.bootCtrlWrite d
  else if a = Reg.BOOT_HEARTBEAT then s.heartbeatWrite d
  else if a = Reg.BOOT_FL_CTRL then s.flCtrlWrite d
  else if a = Reg.BOOT_VERIFY_CTRL then s.verifyCtrlWrite d
  else if a = Reg.PROC_CMD then s.procCmdWrite d
  else if a = Reg.PROC_ATT_CTRL then s.attCtrlWrite d x.unseals
  else s.plainWrite a d

/-- Writes to EVT, PWR, CLK and HK. -/
def State.controlBlockWrite (s : State) (x : Accessor) (a : Nat) (d : Word) : State :=
  if a = Reg.EVT_CTRL then s.evtCtrlWrite d
  else if Reg.EVT_STATk 0 ≤ a ∧ a < Reg.EVT_RT_DEANk 0 then (s.plainWrite a d).settleIrq
  else if a = Reg.PWR_REQ then s.pwrReqWrite x.q d
  else if a = Reg.PWR_VETO then s.pwrVetoWrite x.q d
  else if a = Reg.PWR_VCORE then s.vcoreWrite d
  else if a = Reg.PWR_REG_CFG then s.regCfgWrite d
  else if a = Reg.CLK_PHASE then s.clkPhaseWrite d
  else if a = Reg.CLK_SYSOUT then s.sysoutWrite d
  else if a = Reg.HK_URG then s.hkUrgWrite d
  else if a = Reg.HK_CTRL then s.hkListWrite a d
  else if Reg.HK_LISTn 0 ≤ a ∧ a < Reg.HK_LISTn 64 then s.hkListWrite a d
  else if a = Reg.HK_THERM_CFG then s.thermCfgWrite d
  else if a = Reg.HK_SYSCAL_CTRL then s.syscalWrite d
  else s.plainWrite a d

/-- Writes to LNK, QUE, DMA and CST. -/
def State.linkBlockWrite (s : State) (x : Accessor) (a : Nat) (d : Word) : State :=
  if a = Reg.LNK_CTRL then s.lnkCtrlWrite d
  else if a = Reg.LNK_TEST then s.lnkTestWrite x.q d
  else if a = Reg.LNK_MARGIN_CTRL then s.lnkMarginWrite d
  else if a = Reg.LNK_MARGIN_DEST then s.lnkDestWrite d
  else if Reg.LNK_EQe 0 ≤ a ∧ a < Reg.LNK_EQe 44 then s.lnkEqWrite a d
  else if a = Reg.QUE_CTRL then s.queCtrlWrite d
  else if a = Reg.QUE_FLUSH then s.queFlushWrite (fun _ => none) d
  else if 0xA1000 ≤ a ∧ a < 0xA1400 ∧ a % 0x20 = 0 then s.queCfgWrite ((a - 0xA1000) / 0x20) d
  else if 0xB1000 ≤ a ∧ a < 0xB1800 ∧ a % 0x40 = 0 then s.dmaCtrlWrite ((a - 0xB1000) / 0x40) x.q d
  else if 0xB1000 ≤ a ∧ a < 0xB1800 ∧ a % 0x40 = 8 then s.dmaDescWrite ((a - 0xB1000) / 0x40) d
  else if a = Reg.CST_SCRUB_CTRL then s.scrubCtrlWrite d
  else if a = Reg.CST_RET_MASK0 then s.retMask0Write d
  else s.plainWrite a d

/-- Writes to ATM and BMB. -/
def State.airBlockWrite (s : State) (a : Nat) (d : Word) : State :=
  if a = Reg.ATM_CTRL then s.atmCtrlWrite d
  else if a = Reg.ATM_SYNC_CTRL then s.syncCtrlWrite d
  else if a = Reg.ATM_WINDOW then s.windowWrite d
  else if a = Reg.ATM_TT_CTRL then s.ttCtrlWrite d
  else if 0xD00A0 ≤ a ∧ a < 0xD00E0 ∧ a % 0x10 ≠ 0xC then s.peerWrite ((a - 0xD00A0) / 0x10) (a % 0x10 / 4) d
  else if 0xD1000 ≤ a ∧ a < 0xD3000 then s.ttRowWrite a d
  else if a = Reg.BMB_UPD_ADDR then s.plainWrite a (d &&& ~~~3#32)
  else if a = Reg.BMB_UPD_CTRL then s.updCtrlWrite d
  else s.plainWrite a d

/-- Writes to DLC and ULC. -/
def State.chainBlockWrite (s : State) (a : Nat) (d : Word) : State :=
  if a = Reg.DLC_CTRL then s.chainCtrlWrite false d
  else if a = Reg.ULC_CTRL then s.chainCtrlWrite true d
  else if 0x100100 ≤ a ∧ a < 0x100180 ∧ a % 0x10 = 0xC then s.gainWrite ((a - 0x100100) / 0x10) d
  else if 0x120000 ≤ a ∧ a < 0x124000 then s.iqWrite false a d
  else if 0x160000 ≤ a ∧ a < 0x164000 then s.iqWrite true a d
  else if 0x140100 ≤ a ∧ a < 0x140200 ∧ a % 0x20 = 0xC then s.firCtrlWrite ((a - 0x140100) / 0x20) d
  else if 0x144000 ≤ a ∧ a < 0x145000 then s.firWrite a d
  else if 0x141000 ≤ a ∧ a < 0x141800 ∧ a % 0x20 = 8 then s.rssiCfgWrite ((a - 0x141000) / 0x20) d
  else s.plainWrite a d

/-- Writes to LIN and SFD. -/
def State.linBlockWrite (s : State) (x : Accessor) (a : Nat) (d : Word) : State :=
  if a = Reg.LIN_CTRL then s.linCtrlWrite d
  else if a = Reg.LIN_LOP2_CTRL then s.lop2Write d
  else if a = Reg.LIN_LOP2_DEST then s.plainWrite a (d &&& ~~~0xF#32)
  else if 0x188000 ≤ a ∧ a < 0x18A000 then s.kernWrite a d
  else if 0x190000 ≤ a ∧ a < 0x198000 then s.linPageWrite ((a - 0x190000) / 0x1000) a x.q d
  else if 0x1A0000 ≤ a ∧ a < 0x1A1000 ∧ a % 0x40 = 0xC then s.loopCfgWrite ((a - 0x1A0000) / 0x40) d
  else if a = Reg.SFD_CTRL then s.sfdCtrlWrite d
  else if a = Reg.SFD_LOAD_CTRL then s.sfdLoadWrite x.q d
  else if a = Reg.SFD_LOAD_ADDR ∨ a = Reg.SFD_CAP_DEST then s.plainWrite a (d &&& ~~~0x3F#32)
  else if a = Reg.SFD_CAP_CTRL then s.sfdCapWrite x.q d
  else if a = Reg.SFD_LOP3_CTRL then s.lop3Write d
  else if a = Reg.SFD_LOP3_DEST then s.plainWrite a (d &&& ~~~0xF#32)
  else s.plainWrite a d

/-- Writes to RFE, RFE_CAL, SYT and CAL. -/
def State.rfBlockWrite (s : State) (a : Nat) (d : Word) : State :=
  if a < 0x280000 then
    let g := (a - 0x200000) / 0x10000
    let o := a % 0x10000
    if o = 0x04 then s.loselWrite g d
    else if o = 0x10 ∨ o = 0x20 then s.loCtrlWrite g ((o - 0x10) / 0x10) d
    else if o = 0x18 ∨ o = 0x28 then s.loPhaseWrite g ((o - 0x18) / 0x10) d
    else if o = 0x80 then s.rffeCtrlWrite g d
    else if 0x100 ≤ o ∧ o < 0x400 then s.rffeEntWrite g a d
    else s.plainWrite a d
  else if a = Reg.CAL_ARR_CTRL then s.calArrWrite d
  else if a = Reg.CAL_ARR_DEST ∨ a = Reg.CAL_LOAD_ADDR then s.plainWrite a (d &&& ~~~0x3F#32)
  else if a = Reg.CAL_LOAD_CTRL then s.calLoadWrite d
  else if a = Reg.CAL_CONV_CTRL then s.calConvWrite d
  else if a = Reg.CAL_SAVE_CTRL then s.calSaveWrite d
  else if 0x310000 ≤ a ∧ a < 0x330000 then s.pointWrite a d
  else s.plainWrite a d

/-- A write of `d` to the register at `a`, outside the core windows. -/
def State.regWrite (s : State) (x : Accessor) (a : Nat) (d : Word) : State :=
  let s := s.pairWritten a x.key
  if a < 0x30000 then s.bootBlockWrite x a d
  else if a < 0x80000 then s.controlBlockWrite x a d
  else if a < 0xD0000 then s.linkBlockWrite x a d
  else if a < 0x100000 then s.airBlockWrite a d
  else if a < 0x180000 then s.chainBlockWrite a d
  else if a < 0x200000 then s.linBlockWrite x a d
  else s.rfBlockWrite a d

/-- A write at `a` that the fabric has let pass: the state after it and its status. Proctor's REG_INIT starts no reset (R36). -/
def State.writeAt (s : State) (x : Accessor) (a : Nat) (d : Word) : State × Nat :=
  match s.target a with
  | .store =>
    let r := s.storeWrite a (leBytes 4 d.toNat) x.port
    (r.1, if r.2 then stOk else stEccErr)
  | .prog c w => let y := s.core c; (s.setCore c { y with prog := SMap.set 0 y.prog w d }, stOk)
  | .data c m w => (s.setCore c ((s.core c).writeData m w (d.toNat % 2 ^ 24)), stOk)
  | .core c o => ((s.pairWritten a x.key).coreRegWrite x c o d, stOk)
  | .mirror b => if s.domOn pdLin then (s.regWrite x b d, stOk) else (s, stDomainOff)
  | .reg =>
    if a = Reg.DEV_CTRL ∧ x.q = .proctor ∧ (devCtrlReset d).isSome then (s, stDenied)
    else (s.regWrite x a d, stOk)

/-! ### Management accesses -/

/-- A read by a requester of the fabric: judged under R477, performed, and recorded when it fails (R38). -/
def State.busRead (s : State) (q : Requester) (env : BusEnv) (a : Nat) : State × Nat × Word :=
  let st := s.judge q a false
  if st ≠ stOk then (s.merr q a false false st, st, 0)
  else
    let r := s.readAt (fabricAccess q env) a
    if r.2.1 = stOk then r else (r.1.merr q a false false r.2.1, r.2.1, 0)

/-- A write by a requester of the fabric; `posted` marks a posted store write (R35). -/
def State.busWrite (s : State) (q : Requester) (env : BusEnv) (posted : Bool) (a : Nat) (d : Word) : State × Nat :=
  let st := s.judge q a true
  if st ≠ stOk then (s.merr q a true posted st, st)
  else
    let r := s.writeAt (fabricAccess q env) a d
    if r.2 = stOk then r else (r.1.merr q a true posted r.2, r.2)

end Sys2Proof.Machine
end

