-- ==== Sys2Proof/Machine/CoreSys.lean ====
section
/-!
DEFINITION. The end of a signal processor's system access (R374).
-/

namespace Sys2Proof.Machine

/-- The requester that a core's system port is (R24, R361). -/
def coreRequester (core : Fin 13) : Requester := if h : core.val < 12 then .tutor ⟨core.val, h⟩ else .dean

/-- A stalled access has been answered OK: the accumulator of a load and An are written, and the core continues. -/
def State.sysDone (s : State) (c : Nat) (a : SysAccess) (data : Word) : State :=
  let x := s.core c
  let x : CoreState := { x with sys := none, regs := SMap.set 0 x.regs (0x20 + a.an) (a.next % 2 ^ 24) }
  let x := if a.write then x else x.setAcc a.acc (toCode 56 (sext 32 data.toNat))
  (s.setCore c (x.advance c a.instr)).coreBoundary c

/-- The access reaches its target as the core's requester: its status, and the data of a read. -/
def State.sysPerform (s : State) (core : Fin 13) (env : BusEnv) (a : SysAccess) : State × Nat × Word :=
  if a.write then
    let r := s.busWrite (coreRequester core) env false a.addr a.data
    (r.1, r.2, 0)
  else s.busRead (coreRequester core) env a.addr

/-- SYSTEM_ACCESS_COMPLETE: the stalled access is performed; a status other than OK traps. An access that resets its own core has no
further effect on it. -/
def execSystemAccessComplete (core : Fin 13) (cycles : Nat) (env : BusEnv) (s : State) : Out :=
  .next (match (s.core core.val).sys with
  | none => s
  | some a =>
    let r := (s.addCycles core.val cycles).sysPerform core env a
    if (r.1.core core.val).sys ≠ some a then r.1
    else if r.2.1 = stOk then r.1.sysDone core.val a r.2.2
    else r.1.coreTrap core.val trapSysErr r.2.1 (some a.addr) 0)

end Sys2Proof.Machine
end

