-- ==== Sys2Proof/Machine/DmaRun.lean ====
section
/-!
DEFINITION. DMA bursts, their request lines, and the end of a descriptor (R171, R175, R177, R178, R180 to R185).
-/

namespace Sys2Proof.Machine

/-! ### Request lines (R180) -/

/-- Request line `l` is asserted. -/
def State.lineOn (s : State) (l : Nat) : Bool :=
  if l < 8 then s.portWords l != []
  else if l = 8 then s.sfd.line8
  else if l = 9 then s.cal.line9
  else if l < 23 then s.on (Fld.CORE_DOORBELL_COUNT (l - 10))
  else if l = 23 then s.hk.fifo != []
  else false

/-- A request on line `l` is taken: lines 8 and 9 fall, a doorbell counts down (R314, R349, R387). -/
def State.takeLine (s : State) (l : Nat) : State :=
  if l = 8 then { s with sfd := { s.sfd with line8 := false } }
  else if l = 9 then { s with cal := { s.cal with line9 := false } }
  else if 10 ≤ l ∧ l < 23 then
    let f := Fld.CORE_DOORBELL_COUNT (l - 10)
    s.setFld f (s.fld f - 1)
  else s

/-! ### Accesses of a channel (R171) -/

/-- The address of a capture or peripheral port, as the owning chapters name them. -/
def isPort (a : Nat) : Bool :=
  a == Reg.HK_PORT || (List.range 8).any (fun g => a == Reg.LIN_PGg_PORT g)

/-- A channel reaches the store window, the core windows and the ports. -/
def dmaReach (a : Nat) : Bool :=
  (decide (storeBase ≤ a) && decide (a < storeEnd)) || (decide (0x00400000 ≤ a) && decide (a < 0x00900000)) || isPort a

/-- The status with which an access of channel `n` would complete; `err` is what a read of a core memory meets. -/
def State.dmaStatus (s : State) (n a : Nat) (write : Bool) (err : Nat) : Nat :=
  if !dmaReach a then stAddrErr
  else
    let st := s.judge (s.chan n).req a write
    if st ≠ stOk then st
    else match s.target a with
      | .store => if s.eccAt (wordIndex a) = 2 then stEccErr else stOk
      | .prog _ _ => if err = 2 ∧ !write then stEccErr else stOk
      | .data _ _ _ => if err = 2 ∧ !write then stEccErr else stOk
      | .mirror _ => if s.domOn pdLin then stOk else stDomainOff
      | _ => stOk

/-- The port at `a` has run dry. -/
def State.portDry (s : State) (a : Nat) : Bool :=
  if a = Reg.HK_PORT then s.hk.fifo == []
  else (List.range 8).any (fun g => a == Reg.LIN_PGg_PORT g && s.portWords g == [])

/-- Two words may go as one full 64-bit word of the store (R160, R176): both sides move in order, and the destination is aligned. -/
def pairAllowed (d : List Byte) (w k : Nat) : Bool :=
  let dst := (descWord d w).2
  descMode d == 0 && !descSrcFix d && !descDstFix d && decide (2 ≤ k) && dst % 8 == 0 && decide (storeBase ≤ dst) &&
    decide (dst < storeEnd)

/-- The progress of a burst: the state, the words moved, those of them padded, and whether an access would fail. -/
structure BurstRun where
  s : State
  moved : Nat
  padded : Nat
  failing : Bool

/-- Word `w` of channel `n` moves; `err` is what its read meets. A word that has been read and whose write would fail is held (R185). -/
def BurstRun.word (b : BurstRun) (n w : Nat) (preq : Bool) (err : Nat) : BurstRun :=
  let c := b.s.chan n
  let a := descWord c.desc w
  let x := dmaAccess c.req n err
  let write := fun (s : State) (v : Word) (pad : Nat) =>
    if s.dmaStatus n a.2 true 0 = stOk then
      (⟨((s.setChan n { s.chan n with held := none }).writeAt x a.2 v).1, b.moved + 1, b.padded + pad, false⟩ : BurstRun)
    else ⟨s.setChan n { s.chan n with held := some v }, b.moved, b.padded + pad, true⟩
  match c.held with
  | some v => write b.s v 0
  | none =>
    if b.s.dmaStatus n a.1 false err ≠ stOk then { b with failing := true }
    else
      let dry := preq && b.s.portDry a.1
      let r := b.s.readAt x a.1
      write r.1 r.2.2 (bit dry)

/-- Words `w` and `w + 1` move as one 64-bit word of the store. -/
def BurstRun.pair (b : BurstRun) (n w : Nat) (e0 e1 : Nat) : BurstRun :=
  let c := b.s.chan n
  let a := descWord c.desc w
  let r0 := b.s.readAt (dmaAccess c.req n e0) a.1
  let r1 := r0.1.readAt (dmaAccess c.req n e1) (descWord c.desc (w + 1)).1
  ⟨(r1.1.storeWrite a.2 (leBytes 4 r0.2.2.toNat ++ leBytes 4 r1.2.2.toNat) reqDma).1, b.moved + 2, b.padded, false⟩

/-- Up to `k` words from word `w` move, until an access would fail; `errs` are what their reads meet. -/
def BurstRun.run (n : Nat) (preq : Bool) : Nat → Nat → Nat → List (Fin 3) → BurstRun → BurstRun
  | 0, _, _, _, b => b
  | fuel + 1, w, k, errs, b =>
    if k = 0 ∨ b.failing then b
    else
      let d := (b.s.chan n).desc
      let e := fun i => ((errs[i]?).map (·.val)).getD 0
      if pairAllowed d w k && (b.s.chan n).held.isNone &&
          b.s.dmaStatus n (descWord d w).1 false (e 0) == stOk && b.s.dmaStatus n (descWord d (w + 1)).1 false (e 1) == stOk &&
          b.s.judge (b.s.chan n).req (descWord d w).2 true == stOk then
        BurstRun.run n preq fuel (w + 2) (k - 2) (errs.drop 2) (b.pair n w (e 0) (e 1))
      else BurstRun.run n preq fuel (w + 1) (k - 1) (errs.drop 1) (b.word n w preq (e 0))

/-- The burst that channel `n` is in, or begins: paced by a line, only where it finds the line asserted, and it takes the request
(R176, R181); none where it is not about to move a word. -/
def State.inBurst (s : State) (n : Nat) : Option State :=
  let c := s.chan n
  let remain := s.fld (Fld.DMA_CHn_REMAIN_WORDS n)
  if !s.dmaRuns n || c.fetch.isSome || remain == 0 then none
  else if c.burst ≠ 0 then some s
  else if s.dmaState n = dmaDraining then none
  else if descPreq c.desc then
    if s.lineOn (descLine c.desc) then
      some ((s.takeLine (descLine c.desc)).setChan n { c with burst := min remain (descBurst c.desc) })
    else none
  else some (s.setChan n { c with burst := min remain 64 })

/-- DMA_BURST: a channel moves one burst, as far as its accesses succeed, and pads a port that runs dry in a paced burst with zero
words (R176, R181). `errs`: what its reads of core memories meet, word by word. -/
def execDmaBurst (ch : Fin 32) (errs : List (Fin 3)) (s : State) : Out :=
  let n := ch.val
  let d := (s.chan n).desc
  let remain := s.fld (Fld.DMA_CHn_REMAIN_WORDS n)
  .next (match s.inBurst n with
  | none => s
  | some s =>
    let k := (s.chan n).burst
    let b := BurstRun.run n (descPreq d) k (descLen d - remain) k errs ⟨s, 0, 0, false⟩
    let s := b.s.showDma n (remain - b.moved)
    let s := s.setChan n { s.chan n with burst := k - b.moved }
    let s := if b.padded = 0 then s
      else ((s.count (Fld.DMA_CHn_PAD_WORDS n) b.padded).setFld (Fld.DMA_CHn_STATUS_UNDERRUN n) 1).event 0x46
        (n + 65536 * b.padded)
    s.dmaSettle n)

/-- DESCRIPTOR_COMPLETE: every word has moved (R177); a descriptor of LEN 0 with PREQ_EN first waits for a request on its line, and takes
it (R178). -/
def execDescriptorComplete (ch : Fin 32) (s : State) : Out :=
  let n := ch.val
  let d := (s.chan n).desc
  .next (if s.dmaState n ≠ dmaActive ∨ (s.chan n).fetch.isSome ∨ s.fld (Fld.DMA_CHn_REMAIN_WORDS n) ≠ 0 ∨ d = [] then s
  else if descLen d = 0 ∧ descPreq d then
    (if s.lineOn (descLine d) then (s.takeLine (descLine d)).dmaComplete n else s)
  else s.dmaComplete n)

/-- The next access of a burst fails: what it is to be, the word held for a write that has failed, and whether it is a write. -/
def State.nextAccess (s : State) (n : Nat) : (Nat × Nat) × Option Word :=
  let c := s.chan n
  (descWord c.desc (descLen c.desc - s.fld (Fld.DMA_CHn_REMAIN_WORDS n)), c.held)

/-- DMA_BUS_ERROR: the channel's next access completes with an error status or an uncorrectable read, and the channel halts (R184);
`ecc`: the core-memory word that it reads is uncorrectable. -/
def execDmaBusError (ch : Fin 32) (ecc : Bool) (s : State) : Out :=
  let n := ch.val
  let err := if ecc then 2 else 0
  .next (match s.inBurst n with
  | none => s
  | some t =>
    let a := (t.nextAccess n).1
    let x := fun e => dmaAccess (t.chan n).req n e
    match (t.nextAccess n).2 with
    | some v =>
      let st := t.dmaStatus n a.2 true 0
      if st = stOk then s
      else (if st = stEccErr then (t.writeAt (x 0) a.2 v).1 else t).dmaBusError n (dmaErrOf st) a.2 true false
    | none =>
      let st := t.dmaStatus n a.1 false err
      if st = stOk then s
      else (if st = stEccErr then (t.readAt (x err) a.1).1 else t).dmaBusError n (dmaErrOf st) a.1 false false)

/-- DMA_RESPONSE_TIMEOUT: 2,048 DP cycles without a response to the channel's access, a fetch, a read, or the write of a word that has
been read, which is held (R184, R185). -/
def execDmaResponseTimeout (ch : Fin 32) (write : Bool) (s : State) : Out :=
  let n := ch.val
  .next (match (s.chan n).fetch with
  | some a => if s.dmaRuns n then s.dmaBusError n dmaErrTimeout a false true else s
  | none =>
    match s.inBurst n with
    | none => s
    | some s =>
      let a := (s.nextAccess n).1
      match (s.nextAccess n).2 with
      | some _ => s.dmaBusError n dmaErrTimeout a.2 true false
      | none =>
        if write && decide (s.dmaStatus n a.1 false 0 = stOk) then
          let r := s.readAt (dmaAccess (s.chan n).req n 0) a.1
          (r.1.setChan n { r.1.chan n with held := some r.2.2 }).dmaBusError n dmaErrTimeout a.2 true false
        else s.dmaBusError n dmaErrTimeout a.1 false false)

end Sys2Proof.Machine
end

