-- ==== Sys2Proof/Machine/Counts.lean ====
section
/-!
DEFINITION. What the sample chains count of a grid symbol that has ended, and what they keep of the symbols (R221, R247, R248, R251, R254,
R281, R298).
-/

namespace Sys2Proof.Machine

/-! ### Counters -/

/-- A path's saturations at a downlink stage are counted, and the first in a frame raises 0x62 (R221, R248). -/
def State.dlSat (s : State) (f : Fld) (p stage n : Nat) : State :=
  if n = 0 then s else (s.count f n).eventOnce 0x62 (p + 64 * stage) (p + 256 * stage)

/-- A path's saturations at stage 1 of the uplink, or at its stages 2 to 8 (R251). -/
def State.adcSat (s : State) (p n : Nat) : State :=
  if n = 0 then s else (s.count (Fld.ULC_PATHp_SAT_ADC p) n).eventOnce 0x6A (p + 64) (p + 256)
def State.frontSat (s : State) (p n : Nat) : State :=
  if n = 0 then s else (s.count (Fld.ULC_PATHp_SAT_FRONT p) n).eventOnce 0x6A (p + 128) (p + 512)

/-- Saturations of u, and of y, on path `p` (R281). -/
def State.linSat (s : State) (p gain pd : Nat) : State :=
  let s := s.iff (gain != 0) (fun s => (s.count (Fld.LIN_PATHp_SAT_GAIN p) gain).eventOnce 0x88 p p)
  s.iff (pd != 0) (fun s => (s.count (Fld.LIN_PATHp_SAT_PD p) pd).eventOnce 0x88 (p + 256) (p + 256))

/-- Peaks cancelled and missed on path `p` (R298). -/
def State.cfrCount (s : State) (p peaks miss : Nat) : State :=
  let s := s.iff (peaks != 0) (fun s => s.count (Fld.LIN_PATHp_CFR_COUNT_PEAKS p) peaks)
  s.iff (miss != 0) (fun s => (s.count (Fld.LIN_PATHp_CFR_COUNT_MISS p) miss).eventOnce 0x85 p p)

/-! ### A grid symbol that has ended -/

/-- Saturations of path `p` at stages 3 to 5 of the downlink from AIR_COUNT `a` up to `b`: those of each carrier that feeds it (R221). -/
def State.timeSats (s : State) (p a b : Nat) : Nat :=
  ((List.range 8).map (fun c => s.stage4Sats c p a b)).sum + satCount (s.stage5 p) (8 * a) (8 * b)

/-- The peaks that one pass of path `p` cancelled from AIR_COUNT `a` up to `b`, a grid symbol, and how many it missed. -/
def State.passCounts (s : State) (p : Nat) (twice : Bool) (v : Int → Cpx) (a b : Nat) : Nat × Nat :=
  let before := ((s.pathAt p a).map (fun x => if twice then x.peaks2 else x.peaks1)).getD []
  let r := s.cfrScan p twice v before (8 * a) (8 * b)
  (r.1.length - before.length, r.2)

/-- The downlink stages of path `p` in the grid symbol from `a` to `b`. -/
def State.countDown (s : State) (a b p : Nat) : State :=
  if s.dacSilent p then s
  else
    let one := s.passCounts p false (fun n => (s.stage6 p n).1) a b
    let two := s.passCounts p true (s.cfrOnce p) a b
    let gain := satCount (s.gainOut p) (16 * a) (16 * b)
    let pd := satCount (s.stage9 p) (16 * a) (16 * b)
    let iq := satCount (s.stage10 p) (16 * a) (16 * b)
    let dac := satCount (s.dacCode p) (16 * a) (16 * b)
    let s := s.dlSat (Fld.DLC_PATHp_SATA_TIME p) p 3 (s.timeSats p a b)
    let s := s.iff (s.domOn pdLin) (fun s => (s.cfrCount p (one.1 + two.1) (one.2 + two.2)).linSat p gain pd)
    (s.dlSat (Fld.DLC_PATHp_SATB_IQ p) p 4 iq).dlSat (Fld.DLC_PATHp_SATB_DAC p) p 5 dac

/-- The uplink stages 1 to 7 of path `p` in the grid symbol from `a` to `b`. -/
def State.countUp (s : State) (a b p : Nat) : State :=
  if s.rxSilent p then s
  else
    let car := (List.range 8).map (fun c => let x := carrierIn s.ulc.inForce true c
      if x.en && bitOf x.pgMask (p / 8) then s.rx7Sats c p x.step a b else 0)
    let front := s.frontSats p a b + car.sum
    (s.adcSat p (s.adcSats p a b)).frontSat p front

/-- What the stages counted in the grid symbol from `a` to `b`, which has ended. -/
def State.countSymbol (s : State) (a b : Nat) : State :=
  if !s.domOn pdDpx then s else (s.forEach 64 (fun s p => s.countDown a b p)).forEach 64 (fun s p => s.countUp a b p)

/-! ### What is kept -/

/-- The oldest AIR_COUNT whose samples are still wanted at `a`: 262,144 ticks back, and the start of a gated RSSI window. -/
def State.horizon (s : State) (a : Nat) : Nat :=
  (List.range 64).foldl (fun m p =>
    if s.on (Fld.ULC_PATHp_RSSI_CFG_EN p) && s.on (Fld.ULC_PATHp_RSSI_CFG_GATE p) then min m (SMap.get 0 s.rssi p) else m) (a - 262144)

/-- The log and the samples older than that go. -/
def State.pruneSamples (s : State) (a : Nat) : State :=
  let h := s.horizon a
  let keep := fun (x : Nat) => decide (h ≤ x + 16384)
  { s with
    rf := { s.rf with log := s.rf.log.filter (fun l => keep l.air) }
    smp := { s.smp with
      syms := s.smp.syms.filter (fun y => keep y.air)
      rx := s.smp.rx.filter (fun r => keep r.1)
      holes := s.smp.holes.filter (fun g => keep g.hi)
      stops := s.smp.stops.filter (fun g => keep g.hi)
      mutes := s.smp.mutes.filter (fun g => keep g.hi) }
    cal := { s.cal with probes := s.cal.probes.filter (fun r => keep (r.air + 144 * r.count)) } }

/-- The ADC codes of the grid symbol that starts at `a`. -/
def State.takeCodes (s : State) (a : Nat) (adc : List (List (BitVec 28))) : State :=
  { s with smp := { s.smp with rx := (a, adc) :: s.smp.rx } }

/-- f_LO of the LO in use by group `g`, in units of 245.76 MHz / 2 ^ 37. -/
def State.loWord (s : State) (g : Nat) : Nat :=
  let e := (s.synth g (s.loInUse g)).entry
  (entryN e * 2 ^ 32 + fieldAt e 0 4) * 2 ^ (4 - entryK e)

/-- The peaks of path `p` in the 254 samples before the grid symbol that starts at `a`, by pass. -/
def State.peakSeeds (s : State) (p a : Nat) : List Int × List Int :=
  if s.txSilent p then ([], [])
  else (s.cfrPeaks p false (fun n => (s.stage6 p n).1) (8 * a - 254) (8 * a), s.cfrPeaks p true (s.cfrOnce p) (8 * a - 254) (8 * a))

/-- The newest grid symbol takes what is in force in it, and the peaks before it. -/
def State.takePaths (s : State) : State :=
  let s := s.retake
  match s.rf.log with
  | l :: ls =>
    let ps := l.paths.zipIdx.map (fun x => let k := s.peakSeeds x.2 l.air
      { x.1 with peaks1 := k.1, peaks2 := k.2 })
    { s with rf := { s.rf with log := { l with paths := ps } :: ls } }
  | [] => s

end Sys2Proof.Machine
end

