-- ==== Sys2Proof/Machine/Prach.lean ====
section
/-!
DEFINITION. The occasions of the PRACH engines (R274 to R276). Their packets stand in Uplink.lean.
-/

namespace Sys2Proof.Machine

/-- Engine `e`'s uplink carrier in the configuration in force. -/
def State.praCarrier (s : State) (e : Nat) : Carrier := carrierIn s.ulc.inForce true (s.fld (Fld.ULC_PRAe_CFG0_CARRIER e))

/-- Repetitions, and HK ticks of one (R274). -/
def praReps (cfg : Word) : Nat := max 1 (getField 23 20 cfg)
def praRepTicks (cfg : Word) : Nat := 8192 / 2 ^ getField 27 26 cfg

/-- Beams of an occasion. -/
def praBeams (cfg : Word) : Nat := max 1 (getField 19 16 cfg)

/-- The beam-book indices below NBEAM. -/
def State.praBeamList (s : State) (e : Nat) : List Nat :=
  (List.range (praBeams (s.rd (Reg.ULC_PRAe_CFG0 e)))).map (fun i =>
    if i % 2 = 0 then s.fld (Fld.ULC_PRAe_BEAMj_BEAM_LO e (i / 2)) else s.fld (Fld.ULC_PRAe_BEAMj_BEAM_HI e (i / 2)))

/-- The air time of the slot of engine `e`'s carrier that contains AIR_COUNT `a`. -/
def State.praSlot (s : State) (e a : Nat) : Nat :=
  let m := (s.praCarrier e).scs
  airOf m (frameOf a) (symbolOf m a / 14 * 14)

/-- An occasion of engine `e` begins in the slot that contains AIR_COUNT `a` (R275). -/
def State.praMatches (s : State) (e a : Nat) : Bool :=
  let m := (s.praCarrier e).scs
  let period := s.fld (Fld.ULC_PRAe_CFG1_PERIOD e)
  s.on (Fld.ULC_PRAe_CFG0_EN e) && period != 0 &&
    (frameOf a * slotsPerFrame m + symbolOf m a / 14) % period == s.fld (Fld.ULC_PRAe_CFG1_SLOT_OFF e)

/-- The first condition of R276 that fails at AIR_COUNT `a`, 0 for none. -/
def State.praReason (s : State) (e a : Nat) : Nat :=
  let c := s.praCarrier e
  let f := freqUnits (sext 32 (s.rd (Reg.ULC_PRAe_NCO e)).toNat)
  let half : Int := 70 * (15000 * 2 ^ s.fld (Fld.ULC_PRAe_CFG0_SCS_RA e) * 2 ^ 32 : Nat)
  let busy := match SMap.find s.ul.pra e with
    | some r => decide (a < r.stop)
    | none => false
  if !c.en then 1
  else if c.halfBand < ((f - freqUnits c.freq).natAbs : Int) + half then 2
  else if busy then 3
  else if (s.praBeamList e).any (fun k => decide (s.fld Fld.BMB_CFG_COUNT ≤ k)) then 4
  else 0

/-- The occasion of engine `e` in the slot that starts at `a`. -/
def State.praRun (s : State) (e a : Nat) : PraRun :=
  let cfg := s.rd (Reg.ULC_PRAe_CFG0 e)
  let start := a + s.fld (Fld.ULC_PRAe_CFG1_START e)
  ⟨a, (s.praCarrier e).scs, start, start + praReps cfg * praRepTicks cfg, cfg, s.praBeamList e, (s.praCarrier e).pgMask,
    sext 32 (s.rd (Reg.ULC_PRAe_NCO e)).toNat⟩

/-- The chain runs: from the first entry into LOCKED, with PD_DPX on (R195). -/
def State.chainRuns (s : State) : Bool := s.time.everLocked && s.domOn pdDpx

/-- PRACH_OCCASION: an occasion of an engine begins, or is skipped (R275, R276). -/
def execPrachOccasion (engine : Fin 4) (s : State) : Out :=
  let e := engine.val
  .next (
    let a := s.praSlot e s.air
    if !s.chainRuns || !s.praMatches e s.air then s
    else
      let r := s.praReason e a
      if r = 0 then
        let x := s.praRun e a
        let s := s.iff (SMap.get 0 s.ul.praFreq e != x.freq) (fun s => s.keepNco (16 + e))
        { s with ul := { s.ul with
          pra := SMap.insert e x (SMap.erase s.ul.pra e), praFreq := SMap.set 0 s.ul.praFreq e x.freq } }
      else
        ((s.count (Fld.ULC_PRAe_STATUS_SKIP e) 1).setFld (Fld.ULC_PRAe_STATUS_LAST_SKIP e) r).event 0x6F (e + 16 * r))

/-- A capture window of an engine whose carrier receives on group `g` touches the interval from `a` to `b` (R338). -/
def State.praTouches (s : State) (g a b : Nat) : Bool :=
  (List.range 4).any (fun e =>
    let held := match SMap.find s.ul.pra e with
      | some r => bitOf r.groups g && decide (r.start < b) && decide (a < r.stop)
      | none => false
    let slot := s.praSlot e (b - 1)
    let r := s.praRun e slot
    held || (s.praMatches e (b - 1) && s.praReason e slot == 0 && decide (a ≤ slot) && bitOf r.groups g &&
      decide (r.start < b) && decide (a < r.stop)))

end Sys2Proof.Machine
end

