-- ==== Sys2Proof/Machine/Timetable.lean ====
section
/-!
DEFINITION. A grid symbol boundary (R195, R200 to R205, R210): directions, LOs and pre-tunes (R321, R332), readiness (R334), front-end
control lines (R335 to R337), QUIET (R338, R339, R411) and probe chips (R349).
-/

namespace Sys2Proof.Machine

/-! ### Groups and their symbols -/

/-- Group `g` follows the Timetable: on, and not in a group wake (R424). -/
def State.ttOn (s : State) (g : Nat) : Bool := s.groupOn g && !(SMap.find s.pwr.wakes g).isSome

/-- A group transmits, or receives, in a direction. -/
def dirTx (d : Nat) : Bool := d == dirD || d == dirSb
def dirRx (d : Nat) : Bool := d == dirU || d == dirSb

/-- The paths of group `g`. -/
def pathsOf (g : Nat) : List Nat := (List.range 8).map (fun i => 8 * g + i)

/-- The largest TX_LEAD of group `g`'s paths. -/
def State.maxTxLead (s : State) (g : Nat) : Nat :=
  (List.range 8).foldl (fun m i => max m (s.fld (Fld.RFE_PGg_Pi_QT2_TX_LEAD g i))) 0

/-- R334 at the first instant of a transmit symbol that starts at `a`: the LO that serves it has been LOCKED since then. -/
def State.txReady (s : State) (g a : Nat) : Bool :=
  let x := (s.ttAt a).loAt g a
  s.loState g x == loLocked && s.on Fld.CLK_STATUS_ROOT_LOCK && decide ((s.synth g x).lockedAt + s.maxTxLead g ≤ a)

/-! ### Probe chips (R349) -/

/-- A symbol that starts at `a` lets chips run: F for every measured group, no line forced, and the LO in use holds CHAN. -/
def State.chipSymbol (s : State) (c : Lop0) (a : Nat) : Bool :=
  s.forcedSlot a == 0 && (List.range 8).all (fun g => !bitOf c.groups g ||
    (s.ttOn g && s.loChan g (s.loAt g a) == c.chan &&
      (match s.rowAt g a with
       | some r => r.dir == dirF && r.fecTx == 0 && r.fecRx == 0 && r.fecByp == 0
       | none => true)))

/-- The chips of a background LOP0 that run in the symbol from `a` to `b` after `done` chips: all, and transmit ones of them. -/
def State.chipPlan (s : State) (done a b : Nat) : Nat × Nat :=
  match s.cal.lop0 with
  | some c =>
    if !c.forced && s.chipSymbol c a then
      let n := min (c.total - done) ((b - a - 128) / 144)
      (n, min n (c.rxFrom - done))
    else (0, 0)
  | none => (0, 0)

/-- Chips completed so far. -/
def State.chipsDone (s : State) : Nat := (s.cal.lop0.map (fun c => c.chips)).getD 0

/-- The groups that the array calibration measures. -/
def State.calGroups (s : State) : Nat := (s.cal.lop0.map (fun c => c.groups)).getD 0

/-! ### Line levels (R201, R203, R337) -/

/-- A line's level from its code and the level that follows DIR. -/
def lineLevel (code : Nat) (follow : Bool) : Bool := if code = 0 then follow else code == 2

/-- The levels of group `g`'s three lines in the symbol that starts at `a`, and which of FEC_TXON and FEC_RXON follow DIR; `cal` is the
direction in which probe chips make it act. -/
def State.lineLevels (s : State) (g a : Nat) (cal : Option Nat) : List Bool × List Bool :=
  let follow := fun d => ([dirTx d, dirRx d, false], [true, true])
  if !s.ttOn g then ([false, false, false], [true, true])
  else match cal with
  | some d => follow d
  | none =>
    if s.forcedSlot a ≠ 0 then follow (s.actsAs g a)
    else match s.rowAt g a with
    | some r =>
      let d := s.actsAs g a
      ([lineLevel r.fecTx (dirTx d), lineLevel r.fecRx (dirRx d), lineLevel r.fecByp false], [r.fecTx == 0, r.fecRx == 0])
    | none => ([false, false, false], [true, true])

/-! ### Edges (R335, R336) -/

/-- LEAD and LAG of line `l` of path `p`. -/
def State.leadLag (s : State) (p l : Nat) : Nat × Nat :=
  let g := p / 8
  let i := p % 8
  if l = 0 then (s.fld (Fld.RFE_PGg_Pi_QT2_TX_LEAD g i), s.fld (Fld.RFE_PGg_Pi_QT2_TX_LAG g i))
  else (s.fld (Fld.RFE_PGg_Pi_QT2_RX_LEAD g i), s.fld (Fld.RFE_PGg_Pi_QT2_RX_LAG g i))

/-- Line `l` of path `p` falls for a run that ends at `t`. -/
def State.planFall (s : State) (p l t : Nat) : State :=
  let key := 4 * p + l
  let e := s.edgeAt p (t + (s.leadLag p l).2 : Nat)
  { s with rf := { s.rf with
    edges := s.rf.edges.filter (fun x => !(x.line == key && x.level && decide (e ≤ x.air))) ++ [⟨e, key, false, none⟩]
    falls := SMap.set 0 s.rf.falls key e } }

/-- Line `l` of path `p` rises for a run that starts at `t`; `lock`: the interlock of R336 applies. -/
def State.planRise (s : State) (p l t : Nat) (lock : Bool) (guard : Option Nat) : State :=
  let key := 4 * p + l
  let e := s.edgeAt p ((t : Int) - (s.leadLag p l).1)
  let other := (SMap.find s.rf.falls (4 * p + (1 - l))).filter (fun f => lock && decide (e < f + 8))
  let at' := (other.map (· + 8)).getD e
  let s : State := { s with rf := { s.rf with
    edges := s.rf.edges.filter (fun x => !(x.line == key && !x.level && decide (at' ≤ x.air))) ++ [⟨at', key, true, guard⟩] } }
  if other.isSome then (s.count (Fld.RFE_PGg_FEC_CNT_INTERLOCK (p / 8)) 1).eventOnce 0xA5 (p / 8) p else s

/-- The lines of group `g` change to `lv` at instant `t`, falls before rises. -/
def State.planLines (s : State) (g t : Nat) (lv fl : List Bool) (sb : Bool) (guard : Option Nat) : State :=
  let old := fun l => bitOf s.rf.levels (3 * g + l)
  let new := fun l => lv.getD l false
  let s := (List.range 3).foldl (fun s l => s.iff (old l && !new l) (fun s =>
    let s := (pathsOf g).foldl (fun s p => s.planFall p l t) s
    { s with rf := { s.rf with levels := setBitOf s.rf.levels (3 * g + l) false } })) s
  (List.range 3).foldl (fun s l => s.iff (!old l && new l) (fun s =>
    let follow := fl.getD l false
    let lock := !sb && decide (l < 2) && follow && bitOf s.rf.followed (2 * g + (1 - l))
    let s := (pathsOf g).foldl (fun s p => s.planRise p l t lock (if l = 0 then guard else none)) s
    { s with rf := { s.rf with
      levels := setBitOf s.rf.levels (3 * g + l) true
      followed := if l < 2 then setBitOf s.rf.followed (2 * g + l) follow else s.rf.followed } })) s

/-- An edge is driven. A rise of FEC_TXON for a symbol whose LO is not ready does not happen (R334), nor any rise of a group that is
off (R337). -/
def State.driveEdge (s : State) (e : FecEdge) : State :=
  let g := e.line / 32
  let held := match e.guard with
    | some a => !s.txReady g a
    | none => false
  if e.level && !s.groupOn g then s
  else if held then { s with rf := { s.rf with levels := setBitOf s.rf.levels (3 * g) false } }
  else s.driveFec e.line e.level

/-- The edges whose instant has come are driven, in their order. -/
def State.runEdges (s : State) : State :=
  let due := sortBy (fun a b => decide (a.air ≤ b.air)) (s.rf.edges.filter (fun e => decide (e.air ≤ s.air)))
  due.foldl State.driveEdge { s with rf := { s.rf with edges := s.rf.edges.filter (fun e => decide (s.air < e.air)) } }

/-- The supplies whose instant has come are switched, in their order (R339). -/
def State.runSupplies (s : State) : State :=
  let due := sortBy (fun a b => decide (a.air ≤ b.air)) (s.rf.supplyEdges.filter (fun e => decide (e.air ≤ s.air)))
  { s with rf := { s.rf with
    supplyEdges := s.rf.supplyEdges.filter (fun e => decide (s.air < e.air))
    supplies := due.foldl (fun m e => SMap.set 0 m e.line (bit (!e.level))) s.rf.supplies } }

/-! ### QUIET (R338, R339, R411) -/

/-- A list of spans has one that meets the interval from `a` to `b` and includes group `g`. -/
def spanHits (spans : List (Nat × Nat × Nat)) (g a b : Nat) : Bool :=
  spans.any (fun t => bitOf t.2.2 g && decide (t.1 < b) && decide (a < t.2.1))

/-- NO_QUIET of the row in force. -/
def State.noQuiet (s : State) (g a : Nat) : Bool := ((s.rowAt g a).map (fun r => r.noQuiet)).getD false

/-- Array calibration uses the symbol for group `g`. -/
def State.calUses (s : State) (g a b : Nat) : Bool :=
  s.forcedSlot a != 0 || (bitOf s.calGroups g && (s.chipPlan s.chipsDone a b).1 != 0)

/-- LIGHT SLEEP is in force (R411). -/
def State.light (s : State) : Bool := s.pwr.base == some 2

/-- The transmit side of the paths of group `g` with QEN 1 is QUIET in the symbol from `a` to `b`. -/
def State.txQuietSym (s : State) (g a b : Nat) : Bool :=
  !s.noQuiet g a && !s.calUses g a b && (!dirTx (s.actsAs g a) || !spanHits s.rf.txSpans g a b)

/-- The receive side of path `p` is QUIET in the symbol from `a` to `b`, RSSI and QEN apart. -/
def State.rxQuietSym (s : State) (g a b : Nat) : Bool :=
  !s.noQuiet g a && !s.calUses g a b &&
    (!dirRx (s.actsAs g a) || !(spanHits s.rf.rxSpans g a b || s.praTouches g a b))

def State.qen (s : State) (p : Nat) : Bool := s.on (Fld.RFE_PGg_Pi_QT0_QEN (p / 8) (p % 8))

/-- The start of the first of the next `n` grid symbols from `a` on in which group `g` transmits, as decided so far. -/
def State.nextTx (s : State) (g a : Nat) : Nat → Option Nat
  | 0 => none
  | n + 1 =>
    let b := s.nextBoundary a
    if (s.ttAt a).txQuietSym g a b then State.nextTx s g b n else some a

/-- The receive side of group `g` is QUIET in the symbol from `a` to `b` for a path whose ULC_PATHp_RSSI_CFG.EN is `rssi`. -/
def State.rxQuietPath (s : State) (g a b : Nat) (rssi : Bool) : Bool :=
  s.rxQuietSym g a b && (!dirRx (s.actsAs g a) || !rssi || s.noQuiet g a)

/-- The start of the first of the next `n` grid symbols from `a` on in which group `g` receives, as decided so far. -/
def State.nextRx (s : State) (g a : Nat) (rssi : Bool) : Nat → Option Nat
  | 0 => none
  | n + 1 =>
    let b := s.nextBoundary a
    if (s.ttAt a).rxQuietPath g a b rssi then State.nextRx s g b rssi n else some a

/-- Lead of supply `k` of path `p`: transmit bias, DAC, driver, receive bias (R339). -/
def State.supplyLead (s : State) (p k : Nat) : Nat :=
  s.fld (match k with
    | 0 => Fld.RFE_PGg_Pi_QT0_BIAS (p / 8) (p % 8)
    | 1 => Fld.RFE_PGg_Pi_QT0_DAC (p / 8) (p % 8)
    | 2 => Fld.RFE_PGg_Pi_QT1_DRV (p / 8) (p % 8)
    | _ => Fld.RFE_PGg_Pi_QT1_RXBIAS (p / 8) (p % 8))

/-- Supply `k` of path `p` is switched off at `t`, the end of the last active symbol with the lag. -/
def State.supplyDown (s : State) (p k t : Nat) : State :=
  { s with rf := { s.rf with supplyEdges := s.rf.supplyEdges ++ [⟨s.edgeAt p t, 4 * p + k, false, none⟩] } }

/-- Supply `k` of path `p` is switched on for the active symbol that starts at `t`, where that comes before `b`. -/
def State.supplyUp (s : State) (p k b t : Nat) : State :=
  let e := s.edgeAt p ((t : Int) - s.supplyLead p k)
  if b ≤ e then s
  else { s with rf := { s.rf with
    supplyEdges := s.rf.supplyEdges.filter (fun x => !(x.line == 4 * p + k && decide (e ≤ x.air))) ++ [⟨e, 4 * p + k, true, none⟩] } }

/-- The supplies `ks` of path `p` over the symbol from `a` to `b`: `was` and `off` say whether they rest in the symbol before and in this
one, `next` is the next active symbol as far as it is decided. -/
def State.planSupplies (s : State) (p : Nat) (ks : List Nat) (a b lag : Nat) (was off : Bool) (next : Option Nat) : State :=
  let s := if off && !was then ks.foldl (fun s k => s.supplyDown p k (a + lag)) s else s
  if off then (match next with
    | some t => ks.foldl (fun s k => s.supplyUp p k b t) s
    | none => s)
  else if was then ks.foldl (fun s k => s.supplyUp p k b a) s else s

/-- QUIET in the symbol from `a` to `b`: the decisions, their counts, and the supplies that are off in it. A transmit run that would
leave less than BIAS + TX_LAG ticks off keeps its supplies (R339). -/
def State.setQuiet (s : State) (a b : Nat) : State :=
  let on := (List.range 8).map s.ttOn
  let txg := (List.range 8).map (fun g => s.txQuietSym g a b)
  let rxg := fun rssi => (List.range 8).map (fun g => s.rxQuietPath g a b rssi)
  let rxgs := (rxg false, rxg true)
  let next := (List.range 8).map (fun g => s.nextTx g b 4)
  let rxNext := ((List.range 8).map (fun g => s.nextRx g b false 4), (List.range 8).map (fun g => s.nextRx g b true 4))
  let ps := List.range 64
  let is := fun (l : List Bool) p => l.getD (p / 8) false
  let tx := bitsToNat (ps.map (fun p => is on p && (s.light || (s.qen p && is txg p))))
  let rssi := fun p => s.on (Fld.ULC_PATHp_RSSI_CFG_EN p)
  let rx := bitsToNat (ps.map (fun p => is on p && (s.light || (s.qen p && is (if rssi p then rxgs.2 else rxgs.1) p))))
  let room := fun p =>
    let bias := s.fld (Fld.RFE_PGg_Pi_QT0_BIAS (p / 8) (p % 8))
    let lag := (s.leadLag p 0).2
    match next.getD (p / 8) none with
    | some t => s.light || decide (2 * (bias + lag) ≤ t - a)
    | none => true
  let off := bitsToNat (ps.map (fun p => bitOf tx p && (if bitOf s.rf.txQuiet p then bitOf s.rf.txOff p else room p)))
  let nextOf := fun (l : List (Option Nat)) p => if s.light then none else l.getD (p / 8) none
  let s := ps.foldl (fun s p => s.iff (is on p) (fun s =>
    let s := s.planSupplies p [0, 1, 2] a b (s.leadLag p 0).2 (bitOf s.rf.txOff p) (bitOf off p) (nextOf next p)
    s.planSupplies p [3] a b (s.leadLag p 1).2 (bitOf s.rf.rxOff p) (bitOf rx p)
      (nextOf (if rssi p then rxNext.2 else rxNext.1) p))) s
  let s : State := { s with rf := { s.rf with txQuiet := tx, rxQuiet := rx, txOff := off, rxOff := rx } }
  s.forEach 64 (fun s p =>
    let s := s.iff (bitOf tx p) (fun s => s.count (Fld.RFE_PGg_Pi_QSTAT_TXQ (p / 8) (p % 8)) 1)
    s.iff (bitOf rx p) (fun s => s.count (Fld.RFE_PGg_Pi_QSTAT_RXQ (p / 8) (p % 8)) 1))

/-! ### The boundary -/

/-- A row starts for group `g` in symbol `k` of the period: at its START, and wherever it comes into force after another row or none. -/
def State.rowStarts (s : State) (g k : Nat) (r : TtRow × Nat) : Bool := r.1.start == k || s.rf.rows.getD g none != some r.2

/-- R321, R332 and R204 for group `g` at the boundary `a`: the band, then the LO in use, then the pre-tune. -/
def State.boundaryLo (s : State) (g k : Nat) : State :=
  if !s.ttOn g then s
  else
    let s := s.applyBand g
    let s := match s.rowFor g k with
      | some r =>
        if s.rowStarts g k r then
          let s := s.setFld (Fld.RFE_PGg_LOSEL_INUSE g) (bit r.1.lo)
          s.iff r.1.pretune (fun s =>
            let x := 1 - bit r.1.lo
            let s := s.setSynth g x { s.synth g x with pretuned := some s.air }
            s.requestRetune g x r.1.chan)
        else s.iff (bitOf s.rf.selWaits g) (fun s => s.setFld (Fld.RFE_PGg_LOSEL_INUSE g) (s.fld (Fld.RFE_PGg_LOSEL_SEL g)))
      | none => s.iff (bitOf s.rf.selWaits g) (fun s => s.setFld (Fld.RFE_PGg_LOSEL_INUSE g) (s.fld (Fld.RFE_PGg_LOSEL_SEL g)))
    { s with rf := { s.rf with selWaits := setBitOf s.rf.selWaits g false } }

/-- Groups outside the Timetable's symbols: with PERIOD 0 only a waiting band or SEL is taken. -/
def State.boundaryLoIdle (s : State) (g : Nat) : State :=
  if !s.ttOn g then s
  else
    let s := s.applyBand g
    let s := s.iff (bitOf s.rf.selWaits g) (fun s => s.setFld (Fld.RFE_PGg_LOSEL_INUSE g) (s.fld (Fld.RFE_PGg_LOSEL_SEL g)))
    { s with rf := { s.rf with selWaits := setBitOf s.rf.selWaits g false } }

/-- The markers of the rows that start in symbol `k`, each row once (R205). -/
def State.fireMarks (s : State) (k a : Nat) : State :=
  let rows := ((List.range 8).filterMap (fun g => (s.rowFor g k).filter (s.rowStarts g k))).map (fun r => (r.2, r.1.hkEn, r.1.mark))
  rows.eraseDups.foldl (fun s r => s.iff r.2.1 (fun s => s.hkMark r.2.2 a)) s

/-- Rows in force, LOs, pre-tunes and markers of the symbol that starts at `a`. -/
def State.takeRows (s : State) (a : Nat) : State :=
  match s.gridSymbol a with
  | some k =>
    let s := s.fireMarks k a
    let rows := (List.range 8).map (fun g => (s.rowFor g k).map (·.2))
    let s := s.forEach 8 (fun s g => s.boundaryLo g k)
    { s with rf := { s.rf with rows := rows } }
  | none =>
    let s := s.forEach 8 State.boundaryLoIdle
    { s with rf := { s.rf with rows := List.replicate 8 none } }

/-- R210: the lead section of the grid symbol that starts at `a` gives the classes. -/
def State.takeClasses (s : State) (a : Nat) : State :=
  let before := fun (x y : Lead) => decide (x.carrier < y.carrier) || (x.carrier == y.carrier && decide (x.id < y.id))
  let lead := (s.rf.leads.filter (fun l => l.air == a)).foldl (fun best l => match best with
    | some b => if before l b then some l else some b
    | none => some l) none
  let s : State := { s with rf := { s.rf with leads := s.rf.leads.filter (fun l => decide (a < l.air)) } }
  match lead.bind (fun l => l.tags) with
  | some (pd, sf) =>
    let s := s.iff (s.time.pdClass != pd) (fun s => s.forEach 8 (fun s g => s.mixCapture g (fun _ => true)))
    let s := s.iff (s.time.sfdClass != sf) State.mixSfd
    { s with time := { s.time with pdClass := pd, sfdClass := sf } }
  | none => s

/-- R334 at the boundary `a`: the groups muted and zeroed for the symbol. -/
def State.takeReadiness (s : State) (a : Nat) : State :=
  let s : State := { s with rf := { s.rf with affected := s.rf.muted ||| s.rf.zeroed, muted := 0, zeroed := 0 } }
  s.forEach 8 (fun s g =>
    let d := s.rf.dirs.getD g dirF
    let tx := s.ttOn g && dirTx d && !s.txReady g a
    let rx := s.ttOn g && dirRx d && !s.loReady g
    let s := s.notReady g tx rx
    { s with rf := { s.rf with muted := setBitOf s.rf.muted g tx, zeroed := setBitOf s.rf.zeroed g rx } })

/-- The lines of the symbol from `a` to `b` where they differ from what was planned, the change between its transmit and receive chips,
and those of the symbol after it. -/
def State.takeLines (s : State) (a b : Nat) : State :=
  let chips := s.chipPlan s.chipsDone a b
  let turn := a + 64 + 144 * chips.2
  let v := s.ttAt b
  let after := v.chipPlan (s.chipsDone + chips.1) b (v.nextBoundary b)
  let calDir := fun (g : Nat) (n : Nat × Nat) => if n.1 ≠ 0 ∧ bitOf s.calGroups g then some (if n.2 ≠ 0 then dirD else dirU) else none
  let s := s.forEach 8 (fun s g =>
    let l := s.lineLevels g a (calDir g chips)
    let lv := (l.1.getD 0 false && !bitOf s.rf.muted g) :: l.1.drop 1
    let guard := fun (d t : Nat) => if dirTx d then some t else none
    let s := s.planLines g a lv l.2 (s.rf.dirs.getD g dirF == dirSb) none
    let s := if bitOf s.calGroups g ∧ chips.2 ≠ 0 ∧ chips.2 < chips.1 then
        s.planLines g turn [false, true, false] [true, true] false none
      else s
    let d := v.actsAs g b
    let n := v.lineLevels g b (calDir g after)
    let s := s.planLines g b n.1 n.2 (d == dirSb) (guard d b)
    { s with rf := { s.rf with ahead := (List.range 3).foldl (fun m i => setBitOf m (3 * g + i) (n.1.getD i false)) s.rf.ahead } })
  s

/-- What the groups and paths do in the symbol that starts at `a`, for its samples and the packets built from it (R246, R254, R258). -/
def State.logSymbol (s : State) (a : Nat) : State :=
  let gs := List.range 8
  let mask := fun (f : Nat → Bool) => bitsToNat (gs.map f)
  let forced := s.forcedSlot a != 0
  let spare := fun g => forced && !bitOf s.cal.slotGroups g
  let mute := bitsToNat ((List.range 64).map (fun p => s.pathMuted p || !s.domOn pdLin || spare (p / 8)))
  let l : SymbolLog := ⟨a, mask (fun g => dirRx (s.rf.dirs.getD g dirF)), mask (fun g => s.rf.dirs.getD g dirF == dirSb), s.rf.zeroed,
    mask (fun g => !s.groupOn g || spare g), s.rf.rxQuiet, 0, forced, mute, gs.map s.loWord, [], false, [], [], []⟩
  { s with rf := { s.rf with log := l :: s.rf.log } }

/-- Spans that have ended go. -/
def State.pruneSpans (s : State) (a : Nat) : State :=
  { s with rf := { s.rf with
    txSpans := s.rf.txSpans.filter (fun t => decide (a < t.2.1)), rxSpans := s.rf.rxSpans.filter (fun t => decide (a < t.2.1)) } }

/-- What comes into force at a grid symbol boundary beside the Timetable: delays, gains, the canceller's EN and demotions (R243, R259,
R300, R306, R309). -/
def State.takeSettings (s : State) : State :=
  let late := bitsToNat ((List.range 64).map (fun p => clampDelay (s.pathDelay p s.air).1 != 0 && Config.edgeLate))
  let s : State := { s with
    rf := { s.rf with late := late }
    sfd := { s.sfd with en := s.on Fld.SFD_CTRL_EN,
                        demoted := bitsToNat ((List.range 8).map (fun g => s.on (Fld.SFD_PGg_STATUS_DEMOTED g))) } }
  s.refreshDelays.iff (s.domOn pdLin) State.applyGains

/-- The directions in which the groups act in the symbol that starts at `a`. -/
def State.takeDirs (s : State) (a : Nat) : State :=
  { s with rf := { s.rf with dirs := (List.range 8).map (fun g => if s.ttOn g then s.actsAs g a else dirF) } }

/-- The chips of the symbol run. -/
def State.takeChips (s : State) (a b : Nat) : State :=
  match s.cal.lop0 with
  | some c =>
    let n := (s.chipPlan c.chips a b).1
    if n = 0 then s else s.runChips c (a + 64) n
  | none => s

/-- The grid symbol before the one that starts at `a` has ended: what its stages counted is added. -/
def State.endSymbol (s : State) (a : Nat) : State :=
  match s.rf.log.tail.head? with
  | some l => s.countSymbol l.air (min a (s.nextBoundary l.air))
  | none => s

/-- TIMETABLE_SYMBOL: the grid symbol that contains AIR_COUNT begins. `adc` are the codes that the paths' ADCs give in it, sample by
sample, I in the low half of a pair; a path whose list ends gives codes of 0 from there on. -/
def execTimetableSymbol (adc : List (List (BitVec 28))) (s : State) : Out :=
  let a := symStart s.time.scs s.air
  let b := s.nextBoundary s.air
  .next (if !s.time.everLocked || !s.domOn pdCtl || s.detained then s
  else
    let s := (s.runEdges.runSupplies.endWgtSlots a).pruneSpans a
    let s := ({ s with rf := { s.rf with start := a, stop := b } }.takeSettings.takeRows a).takeDirs a
    let s := (s.takeClasses a).takeReadiness a
    let s := (s.setQuiet a b).takeLines a b
    let s := ((s.takeChips a b).logSymbol a).iff (s.sfd.window.isSome && !s.sbForAll) State.mixSfd
    let s := (((s.takeCodes a adc).takePaths).endSymbol a).pruneSamples a
    s.forEach 13 (fun s c => s.corePend c 3))

end Sys2Proof.Machine
end

