-- ==== Sys2Proof/Machine/Downlink.lean ====
section
/-!
DEFINITION. The fetch of a downlink carrier symbol (R199, R229 to R235): matching and admission of its sections, the beamformer, and
what the later stages report of it. Effective weights and decompression serve the uplink as well.
-/

namespace Sys2Proof.Machine

/-! ### Numbers -/

/-- |P| × 10^(G / 1000) / 2^k exceeds `n` + 1/2, or equals it with `n` odd: rounding half to even then gives more than `n`. -/
def gainAbove (G : Int) (k : Nat) (P : Nat) (n : Nat) : Bool :=
  let half := ((2 * n + 1) * 2 ^ (k - 1)) ^ 1000
  let lhs := if G < 0 then P ^ 1000 else P ^ 1000 * 10 ^ G.toNat
  let rhs := if G < 0 then half * 10 ^ (-G).toNat else half
  decide (rhs < lhs) || (lhs == rhs && n % 2 == 1)

/-- |P| × 10^(G / 1000) / 2^k rounded half to even, at most 2^18 − 1: bit by bit from the top. -/
def gainRound (G : Int) (k : Nat) (P : Nat) : Nat :=
  if P = 0 then 0
  else (List.range 18).foldl (fun r i => let t := r + 2 ^ (17 - i); if gainAbove G k P (t - 1) then t else r) 0

/-- One component of an effective weight in Q2.16: the exact product P (29 fractional bits) times the section gain, rounded and
saturated (R234). -/
def weightPart (G P : Int) : Int :=
  if G = 0 then satInt 18 (roundHalfEven P 13)
  else
    let m : Int := gainRound G 13 P.natAbs
    satInt 18 (if P < 0 then -m else m)

/-- w′ = g × a × w (R234, R267): gain code, correction in Q2.14, weight in Q1.15. -/
def effWeight (G : Int) (a w : Int × Int) : Int × Int :=
  (weightPart G (a.1 * w.1 - a.2 * w.2), weightPart G (a.1 * w.2 + a.2 * w.1))

/-- A sum of Q1.15 × Q2.16 products rounded to Q1.15, and whether it saturated (R221, R234). -/
def roundSum (z : Int) : Int × Bool :=
  let r := roundHalfEven z 16
  (satInt 16 r, decide (satInt 16 r ≠ r))

/-- The sum over the terms of x × w′, rounded: the word, and its saturations. -/
def combine (terms : List ((Int × Int) × (Int × Int))) : Word × Nat :=
  let re := roundSum (terms.map (fun t => t.1.1 * t.2.1 - t.1.2 * t.2.2)).sum
  let im := roundSum (terms.map (fun t => t.1.1 * t.2.2 + t.1.2 * t.2.1)).sum
  (cpxWord (re.1, im.1), bit re.2 + bit im.2)

/-- The 64 weights in a weight record's or beam-book entry's weight bytes. -/
def weightsOf (b : List Byte) : List (Int × Int) := (List.range 64).map (fun p => cpx (BitVec.ofNat 32 (fieldAt b (4 * p) 4)))

/-! ### PRB blocks (R227, R228) -/

/-- Bytes of a PRB block. -/
def blockBytes (mant : Nat) : Nat := if mant = 0 then 48 else 3 * mant + 1

/-- The 12 subcarriers of a block. -/
def decompress (mant : Nat) (b : List Byte) : List (Int × Int) :=
  if mant = 0 then (List.range 12).map (fun i => cpx (BitVec.ofNat 32 (fieldAt b (4 * i) 4)))
  else
    let e := fieldAt b 0 1 % 16
    let bits := leNat (bytesAt b 1 (3 * mant))
    let part := fun j => satInt 16 (sext mant (bits / 2 ^ (j * mant)) * (2 ^ e : Nat))
    (List.range 12).map (fun i => (part (2 * i), part (2 * i + 1)))

/-! ### Matching (R229, R230) -/

/-- FIRST_PRB and NPRB of a DLD payload, and its blocks. -/
def dldFirst (b : List Byte) : Nat := fieldAt b 0 2 % 512
def dldCount (b : List Byte) : Nat := fieldAt b 2 2 % 512

/-- The head of a DLD sets a reserved bit. -/
def dldReserved (b : List Byte) : Bool := fieldAt b 0 2 / 512 != 0 || fieldAt b 2 2 / 512 != 0

/-- A section with the blocks supplied so far, by PRB, and whether one of its DLDs held an uncorrectable word. -/
structure Gather where
  sec : HeldSec
  prbs : List (Nat × List Byte)
  bad : Bool
deriving DecidableEq, Repr

/-- The reason of R229 for which a DLD that serves `g` is discarded, 0 for none. -/
def dldReason (g : Gather) (p : List Byte) : Nat :=
  let b := pktPayload p
  let first := dldFirst b
  let n := dldCount b
  if pktLayer p ≠ g.sec.layer then 2
  else if n ≠ 0 ∧ (first < g.sec.first ∨ g.sec.first + g.sec.count < first + n ∨
      g.prbs.any (fun x => decide (first ≤ x.1) && decide (x.1 < first + n))) then 3
  else if n = 0 ∨ dldReserved b ∨ pktLen p ≠ 4 + 4 * ((n * blockBytes g.sec.mant + 3) / 4) then 4
  else 0

/-- The blocks of a DLD by PRB. -/
def dldBlocks (mant : Nat) (p : List Byte) : List (Nat × List Byte) :=
  let b := pktPayload p
  (List.range (dldCount b)).map (fun i => (dldFirst b + i, bytesAt b (4 + blockBytes mant * i) (blockBytes mant)))

/-- One DLD is matched against the gathered sections (R229). One with an uncorrectable word is not used, and drops the section that it
serves (R231). -/
def State.matchDld (s : State) (c : Nat) (gs : List Gather) (p : List Byte) (bad : Bool) : State × List Gather :=
  let id := pktSub p
  match gs.find? (fun g => g.sec.id == id) with
  | none => (s.dldDiscard 1 c id, gs)
  | some g =>
    let put := fun g' : Gather => gs.map (fun x => if x.sec.id = id then g' else x)
    if bad then (s, put { g with bad := true })
    else
      let r := dldReason g p
      if r ≠ 0 then (s.dldDiscard r c id, gs)
      else (s, put { g with prbs := g.prbs ++ dldBlocks g.sec.mant p })

/-- The matched DLDs supply every PRB of the section (R230). -/
def Gather.complete (g : Gather) : Bool := g.prbs.length == g.sec.count

/-! ### Admission (R231, R233) -/

/-- Units of a 0.5 ms interval. -/
def unitBudget : Nat := 9600000

/-- DLC_LOAD.PEAK or ULC_LOAD.PEAK, the drop counters and the drop event of a direction. -/
def fPeak (up : Bool) : Fld := if up then Fld.ULC_LOAD_PEAK else Fld.DLC_LOAD_PEAK
def fDropEcc (up : Bool) : Fld := if up then Fld.ULC_DROPA_ECC else Fld.DLC_DROPA_ECC
def fDropCap (up : Bool) : Fld := if up then Fld.ULC_DROPA_CAPACITY else Fld.DLC_DROPA_CAPACITY

/-- A section is dropped for reason `r`: 1 incomplete, 2 store error, 3 capacity (R230, R231, R233, R265, R266). -/
def State.dropSection (s : State) (up : Bool) (r : Nat) (h : HeldSec) : State :=
  (s.count (if r = 1 then Fld.ATM_SECT_DROP_LATE else if r = 2 then fDropEcc up else fDropCap up) 1).event
    (if up then 0x68 else 0x60) (r + 16 * h.carrier + 65536 * h.id)

/-- A section takes `n` units of its interval's budget: false where it would exceed it (R233, R266). Intervals that have ended go. -/
def State.takeUnits (s : State) (up : Bool) (air n : Nat) : State × Bool :=
  let k := air / 61440
  let cs := s.carriers up
  let t := SMap.get 0 cs.load k + n
  if unitBudget < t then (s, false)
  else
    let s := s.setCarriers up { cs with load := SMap.set 0 (cs.load.filter (fun x => decide (k ≤ x.1 + 1))) k t }
    (s.setFld (fPeak up) (max (s.fld (fPeak up)) t), true)

/-- The weights of section `h`'s beam at its symbol, none where a store error or a missing dynamic entry drops it, and which
(R212, R214, R231). -/
def State.sectionWeights (s : State) (h : HeldSec) (req : Nat) : State × Except Nat (List (Int × Int)) :=
  if h.bsrc = 2 then (s, .ok (List.replicate 64 (32768, 0)))
  else if h.bsrc = 1 then
    match s.dynamicPlace h.beam h.air with
    | some (p, i) =>
      let r := s.readPart p (20 + 260 * i) (280 + 260 * i) req
      (r.1, if r.2 then .ok (weightsOf ((s.wgtRecord p i).drop 4)) else .error 2)
    | none => ((s.count Fld.ATM_SECT_DROP_INVALID 1).event 0x58 (h.beam + 65536 * h.carrier), .error 0)
  else match s.shadowFor h.beam h.air with
  | some r => (s, .ok (weightsOf (r.drop 4)))
  | none =>
    let r := s.storeRead (s.beamBase + 256 * h.beam) 256 req
    (r.1, if r.2.2 then .ok (weightsOf r.2.1) else .error 2)

/-- An admitted section: its samples by PRB and its effective weights by path. -/
structure Admitted where
  sec : HeldSec
  prbs : List (Nat × List (Int × Int))
  weights : List (Int × Int)
deriving DecidableEq, Repr

/-- The downlink corrections a_p, or the uplink corrections b_p, at air time `a` (R344). -/
def State.corrections (s : State) (up : Bool) (a : Nat) : List (Int × Int) :=
  let pts := (List.range 8).map (fun g => s.pointFor g a)
  (List.range 64).map (fun p =>
    let pt := pts.getD (p / 8) none
    if up then s.rxCorr pt p a else s.txCorr pt p a)

/-- The effective weights of a section. -/
def effWeights (gain : Nat) (corr w : List (Int × Int)) : List (Int × Int) :=
  (List.range 64).map (fun p => effWeight (sext 16 gain) (corr.getD p (16384, 0)) (w.getD p (0, 0)))

/-- A downlink section of the symbol is dropped or admitted. -/
def State.admitDl (s : State) (g : Gather) (badSec : Bool) (corr : List (Int × Int)) : State × Option Admitted :=
  if g.bad || badSec then (s.dropSection false 2 g.sec, none)
  else if !g.complete then (s.dropSection false 1 g.sec, none)
  else
    let r := s.sectionWeights g.sec reqDownlink
    match r.2 with
    | .error e => (r.1.iff (e == 2) (fun s => s.dropSection false 2 g.sec), none)
    | .ok w =>
      let t := r.1.takeUnits false g.sec.air (12 * g.sec.count)
      if t.2 then
        (t.1, some ⟨g.sec, g.prbs.map (fun x => (x.1, decompress g.sec.mant x.2)), effWeights g.sec.gain corr w⟩)
      else (t.1.dropSection false 3 g.sec, none)

/-! ### Beamforming (R225, R234, R306) -/

/-- The plan that governs a symbol at air time `a`; empty for none (R305). -/
def State.planAt (s : State) (a : Nat) : List Word :=
  if s.sfd.next ≠ [] ∧ s.sfd.boundary ≤ a then s.sfd.next else s.sfd.plan

/-- The canceller band carries zero for group `g`'s paths in the symbol of carrier `c` at `a`: first PRB and end (R306). -/
def State.zeroBand (s : State) (c g a : Nat) : Option (Nat × Nat) :=
  let p := planOf (s.planAt a)
  if s.planAt a ≠ [] ∧ p.carrier = c ∧ (s.ttAt a).rowDir g a = dirSb then some (p.lo.toNat, (p.hi + 1).toNat) else none

/-- The groups that contribute to a downlink carrier symbol (R225). -/
def State.dlGroups (s : State) (car : Carrier) (a : Nat) : List Bool :=
  let v := s.ttAt a
  (List.range 8).map (fun g => car.en && bitOf car.pgMask g && dirTx (v.actsAs g a))

/-- y_p[k] and its saturations. -/
def beamOut (ads : List Admitted) (p k : Nat) : Word × Nat :=
  combine (ads.filterMap (fun a =>
    (a.prbs.find? (fun x => x.1 == k / 12)).map (fun x => (x.2.getD (k % 12) (0, 0), a.weights.getD p (0, 0)))))

/-- A PRB lies in a band. -/
def inBand (b : Option (Nat × Nat)) (prb : Nat) : Bool :=
  match b with
  | some (lo, hi) => decide (lo ≤ prb) && decide (prb < hi)
  | none => false

/-- The output of stage 2 for path `p`, one word per subcarrier, and its saturations. -/
def pathOut (ads : List Admitted) (nprb : Nat) (on : Bool) (band : Option (Nat × Nat)) (p : Nat) : List Word × Nat :=
  let ys := (List.range (12 * nprb)).map (fun k => if on && !inBand band (k / 12) then beamOut ads p k else (0, 0))
  (ys.map (·.1), (ys.map (·.2)).sum)

/-- A residue failure of the downlink (R235, R282). -/
def State.dlResidue (s : State) (code info : Nat) : State := (s.count Fld.DLC_DROPB_RESIDUE 1).event code info

/-- A residue failure of stage 7 or 9 on path `p` now: stage 9 is zero to the next symbol-aligned sample (R282). -/
def State.linResidue (s : State) (p stage : Nat) : State :=
  { s with smp := { s.smp with holes := ⟨p, s.air, s.nextBoundary s.air⟩ :: s.smp.holes } }.dlResidue 0x84 (p + 256 * stage)

/-- The residue failures of one path. -/
def State.dlMark (s : State) (c : Nat) (m : DlMarks) : State :=
  let p := m.path.val
  let s := s.iff m.residue (fun s => s.dlResidue 0x65 (p + 64 * c))
  if !s.domOn pdLin then s
  else (s.iff m.cfrResidue (fun s => s.linResidue p 0)).iff m.pdResidue (fun s => s.linResidue p 1)

/-! ### The fetch -/

/-- The symbol of carrier `c` whose fetch instant has come: its carrier and air time (R199). -/
def State.fetchSymbol (s : State) (up : Bool) (c : Nat) : Carrier × Nat :=
  let t := s.air + s.tLate
  let car := s.carrierAt up c t
  (car, symStart (if car.en then car.scs else s.time.scs) t)

/-- The sections held for the symbol of carrier `c` at `a`, in rising SECTION_ID. -/
def State.heldFor (s : State) (up : Bool) (c a : Nat) : List HeldSec :=
  sortBy (fun x y => decide (x.id ≤ y.id)) (s.sect.held.filter (fun h => h.up == up && h.carrier == c && h.air == a))

/-- The end of the symbol that starts at `a` in numerology `m`. -/
def symStop (m a : Nat) : Nat := airOf m (frameOf a) (symbolOf m a + 1)

/-- Packets are read from the store: the serials of those with an uncorrectable word (R158, R159). -/
def State.readAll (s : State) (req : Nat) (ps : List StoredPkt) : State × List Nat :=
  ps.foldl (fun r p =>
    let r' := r.1.readPacket p req
    (r'.1, if r'.2 then r.2 else p.serial :: r.2)) (s, [])

/-- The SECs of the sections `hs`. -/
def State.secsOf (s : State) (hs : List HeldSec) : List StoredPkt :=
  (s.queue 8).pkts.filter (fun p => hs.any (fun h => h.serial == p.serial))

/-- The candidate that section `h` is for its grid symbol's lead (R210). -/
def State.leadOf (s : State) (h : HeldSec) : Lead :=
  ⟨h.air, h.carrier, h.id,
    if h.bsrc = 0 then some (s.beamTags h.beam h.air)
    else if h.bsrc = 1 then (s.dynamicRecord h.beam h.air).map (fun r => (fieldAt r 2 1 % 4, fieldAt r 3 1 % 16))
    else none⟩

/-- The symbol's sections and DLDs are consumed (R232). -/
def State.consumeSymbol (s : State) (up : Bool) (c a : Nat) : State :=
  let s := if up then s else s.consumeIf c (fun p => p.air == a)
  (s.dropHeld (fun h => h.up == up && h.carrier == c && h.air == a)).releaseSecs c a

/-- The DLDs of the symbol are matched in the order of arrival (R229). -/
def State.matchAll (s : State) (c : Nat) (hs : List HeldSec) (dlds : List StoredPkt) (bad : List Nat) : State × List Gather :=
  dlds.foldl (fun r d => r.1.matchDld c r.2 (s.pktNow d) (bad.contains d.serial)) (s, hs.map (fun h => ⟨h, [], false⟩))

/-- The sections of the symbol are admitted in rising SECTION_ID (R233). -/
def State.admitAll (s : State) (gs : List Gather) (bad : HeldSec → Bool) (corr : List (Int × Int)) : State × List Admitted :=
  gs.foldl (fun r g =>
    let t := r.1.admitDl g (bad g.sec) corr
    (t.1, r.2 ++ t.2.toList)) (s, [])

/-- The symbol of carrier `c` at `a` in the time domain, from the output of stage 2 by path (R236 to R239); none where it carries nothing. -/
def txSymbol (c a : Nat) (car : Carrier) (ys : List (List Word)) : List TxSymbol :=
  let zero := fun (y : List Word) => y.all (· == 0)
  let z := fun (y : List Word) =>
    if zero y then [] else (List.range car.n).map (fun n => cpxWord (ifft car.n car.nprb y n).1)
  if ys.all zero then []
  else [⟨c, a, car.n, car.cp (a % 61440 == 0), car.win, car.step, car.phcomp, car.freq, ys.map z,
    ys.map (fun y => if zero y then 0 else ifftSats car.n car.nprb y)⟩]

/-- The beamformer's output of the symbol is formed, its saturations are counted, and stage 3 takes it (R234 to R239). -/
def State.beamform (s : State) (c a : Nat) (car : Carrier) (ads : List Admitted) (marks : List DlMarks) : State :=
  let on := s.dlGroups car a
  let bands := (List.range 8).map (fun g => s.zeroBand c g a)
  let outs := (List.range 64).map (fun p => pathOut ads car.nprb (on.getD (p / 8) false) (bands.getD (p / 8) none) p)
  let s := outs.zipIdx.foldl (fun s o => s.dlSat (Fld.DLC_PATHp_SATA_BEAM o.2) o.2 2 o.1.2) s
  let clean := fun p => !marks.any (fun m => m.residue && m.path.val == p)
  let ys := outs.zipIdx.map (fun o => if clean o.2 then o.1.1 else o.1.1.map (fun _ => 0))
  let s : State := { s with
    dlc := { s.dlc with out := SMap.set [] s.dlc.out c ys }
    smp := { s.smp with syms := txSymbol c a car ys ++ s.smp.syms }
    rf := { s.rf with txSpans := if ads = [] then s.rf.txSpans
      else s.rf.txSpans ++ [(a, symStop car.scs a, bitsToNat on)] } }
  marks.foldl (fun s m => s.dlMark c m) s

/-- The symbol of carrier `c` at `a` has been fetched. -/
def State.setFetched (s : State) (up : Bool) (c a : Nat) : State :=
  let cs := s.carriers up
  s.setCarriers up { cs with fetched := SMap.set 0 cs.fetched c (a + 1) }

/-- Carrier symbols of one instant are fetched in increasing carrier order (R233, R266): `one` fetches the symbol of carrier `c`, after those
below it that start with it and have sections held or packets waiting. A symbol is fetched once. -/
def State.inOrder (s : State) (up : Bool) (c : Nat) (one : State → Nat → State) : State :=
  let a := (s.fetchSymbol up c).2
  let new := fun (s : State) k => (s.fetchSymbol up k).2 == a && SMap.get 0 (s.carriers up).fetched k != a + 1
  let waits := fun (s : State) k => s.heldFor up k a != [] || (!up && (s.queue k).pkts.any (fun p => p.air == a))
  let s := (List.range c).foldl (fun s k => s.iff (new s k && waits s k) (fun s => (one s k).setFetched up k a)) s
  s.iff (new s c) (fun s => (one s c).setFetched up c a)

/-- The fetch of the symbol of carrier `c` whose instant has come. In LIGHT SLEEP nothing is formed, and every section is incomplete
(R411); in a forced calibration slot every section is dropped (R350). -/
def State.fetchDl (s : State) (c : Nat) (marks : List DlMarks) : State :=
  let t := s.fetchSymbol false c
  let a := t.2
  let hs := s.heldFor false c a
  let dlds := (s.queue c).pkts.filter (fun p => p.air == a)
  let s : State := { s with rf := { s.rf with leads := s.rf.leads ++ hs.map s.leadOf } }
  if s.forcedSlot a ≠ 0 then (s.count Fld.CAL_FORCE_STAT_DL_DROP hs.length).consumeSymbol false c a
  else if s.light then (hs.foldl (fun s h => s.dropSection false 1 h) s).consumeSymbol false c a
  else
    let secs := s.readAll reqDownlink (s.secsOf hs)
    let pkts := secs.1.readAll reqDownlink dlds
    let m := pkts.1.matchAll c hs dlds pkts.2
    let r := m.1.admitAll m.2 (fun h => secs.2.contains h.serial) (m.1.corrections false a)
    (r.1.beamform c a t.1 r.2 marks).consumeSymbol false c a

/-- DOWNLINK_FETCH: the fetch instant of a symbol of the carrier. `upsets` are the store words hit before it, `marks` the residue failures
by path. -/
def execDownlinkFetch (carrier : Fin 8) (upsets : List StoreUpset) (marks : List DlMarks) (s : State) : Out :=
  .next (let s := s.hits upsets
  if !s.chainRuns || !s.domOn pdCst then s
  else s.inOrder false carrier.val (fun s k => s.fetchDl k (if k = carrier.val then marks else [])))

end Sys2Proof.Machine
end

