-- ==== Sys2Proof/Machine/Mgq.lean ====
section
/-!
DEFINITION. The entries of an MGQ (R150, R151): each command performs the next entry of the MGQ that runs.
-/

namespace Sys2Proof.Machine

/-- OP of entry `i` of an MGQ payload. -/
def mgqOp (p : List Byte) (i : Nat) : Nat := fieldAt p (4 + 16 * i) 1

def mgqAddr (p : List Byte) (i : Nat) : Nat := fieldAt p (8 + 16 * i) 4
def mgqData (p : List Byte) (i : Nat) : Word := BitVec.ofNat 32 (fieldAt p (12 + 16 * i) 4)
def mgqMask (p : List Byte) (i : Nat) : Word := BitVec.ofNat 32 (fieldAt p (16 + 16 * i) 4)

/-- The MGQ that runs, where the OP of its next entry is `op`. -/
def State.mgqNext (s : State) (op : Nat) : Option MgqState :=
  s.link.mgq.filter (fun m => mgqOp m.payload m.done == op && decide (m.done < fieldAt m.payload 2 1))

/-- An entry has completed with a status and data: it is answered, and the MGA is sent after the last one, or at once under STOP_ON_ERR;
the next MGQ then begins. -/
def State.mgqAnswer (s : State) (m : MgqState) (status : Nat) (data : Word) : State :=
  let m : MgqState := { m with
    done := m.done + 1, answers := m.answers ++ leBytes 4 status ++ leBytes 4 data.toNat
    stopped := status != stOk && bitOf (fieldAt m.payload 3 1) 0 }
  if s.link.mgq.isNone then s
  else
    let s : State := { s with link := { s.link with mgq := some m } }
    if m.stopped then State.mgqStart 256 (s.mgaSend m 2)
    else if fieldAt m.payload 2 1 ≤ m.done then State.mgqStart 256 (s.mgaSend m 0)
    else s

/-- MGQ_READ. -/
def execMgqRead (env : BusEnv) (s : State) : Out :=
  .next (match s.mgqNext 1 with
  | some m =>
    let r := s.busRead .mgq env (mgqAddr m.payload m.done)
    r.1.mgqAnswer m r.2.1 r.2.2
  | none => s)

/-- MGQ_WRITE. -/
def execMgqWrite (env : BusEnv) (s : State) : Out :=
  .next (match s.mgqNext 2 with
  | some m =>
    let r := s.busWrite .mgq env false (mgqAddr m.payload m.done) (mgqData m.payload m.done)
    r.1.mgqAnswer m r.2 0
  | none => s)

/-- One MODIFY access: judged as a write, then read, merged under MASK and written (R151). -/
def State.busModify (s : State) (q : Requester) (env : BusEnv) (a : Nat) (d mask : Word) : State × Nat × Word :=
  let st := s.judge q a true
  if st ≠ stOk then (s.merr q a true false st, st, 0)
  else
    let r := s.busRead q env a
    if r.2.1 ≠ stOk then r
    else
      let w := r.1.busWrite q env false a ((r.2.2 &&& ~~~mask) ||| (d &&& mask))
      (w.1, w.2, r.2.2)

/-- MGQ_MODIFY. -/
def execMgqModify (env : BusEnv) (s : State) : Out :=
  .next (match s.mgqNext 3 with
  | some m =>
    let r := s.busModify .mgq env (mgqAddr m.payload m.done) (mgqData m.payload m.done) (mgqMask m.payload m.done)
    r.1.mgqAnswer m r.2.1 r.2.2
  | none => s)

end Sys2Proof.Machine
end

