-- ==== Sys2Proof/Machine/Mspi.lean ====
section
/-!
DEFINITION. The MSPI slave (R27 to R35).
-/

namespace Sys2Proof.Machine

/-- The 16 bytes on MISO in a read frame (R28). -/
def readAnswer (status : Nat) (data : Word) : List Byte :=
  let body := leBytes 1 status ++ leBytes 4 data.toNat
  List.replicate 10 0xFF#8 ++ body ++ leBytes 1 (crc8 body)

/-- The 16 bytes on MISO in a write frame (R28). -/
def writeAnswer (status : Nat) : List Byte :=
  let body := leBytes 1 status
  List.replicate 14 0xFF#8 ++ body ++ leBytes 1 (crc8 body)

def State.setMiso (s : State) (bs : List Byte) : State := { s with mspi := { s.mspi with miso := bs } }

def State.setHeld (s : State) (h : Option MspiHeld) : State := { s with mspi := { s.mspi with held := h } }

/-- Proctor has opened the management fabric: start step 2 is over, or Detention mode has been entered (R30). -/
def State.fabricOpen (s : State) : Bool := decide (3 ≤ s.fld Fld.BOOT_STATUS_STEP) || s.detained

/-- The MSPI slave answers: PD_CTL is on, and REFCLK is there for the management fabric (R40, R412). -/
def State.mspiUp (s : State) : Bool := s.domOn pdCtl && s.pins.refclk

/-- A write at `a` through MSPI is posted (R34). -/
def storePosts (a : Nat) : Bool := decide (storeBase ≤ a) && decide (a < storeEnd) && a % 4 == 0

/-- The four-entry buffer of posted writes has room (R34). -/
def State.postRoom (s : State) : Bool := decide (s.mspi.posted.length < 4)

/-- A store write enters the buffer of posted writes; with the buffer full it is not performed (R34). -/
def State.post (s : State) (a : Nat) (d : Word) : State :=
  if s.postRoom then { s with mspi := { s.mspi with posted := s.mspi.posted ++ [(a, d)] } } else s

/-- The oldest posted store write is performed; a failure raises event 0x07 (R35). -/
def State.performPosted (s : State) : State :=
  match s.mspi.posted with
  | (a, d) :: ws =>
    let r := State.busWrite { s with mspi := { s.mspi with posted := ws } } .mspi proctorEnv true a d
    if r.2 = stOk then r.1 else r.1.event 0x07 r.2
  | [] => s

/-- Every posted write is performed before the next access (R25, R34). -/
def State.drainPosted (s : State) : State := s.mspi.posted.foldl (fun s _ => s.performPosted) s

/-- A held access that has not completed is performed, and its status held (R33, R34). -/
def State.finishHeld (s : State) (env : BusEnv) : State :=
  match s.mspi.held with
  | some h =>
    if h.done then s
    else
      let s := s.drainPosted
      if h.write then
        let r := s.busWrite .mspi env false h.addr h.data
        r.1.setHeld (some { h with done := true, status := r.2 })
      else
        let r := s.busRead .mspi env h.addr
        r.1.setHeld (some { h with done := true, status := r.2.1, result := r.2.2 })
  | none => s

/-- A frame other than the one that the buffer waits for empties it; the access that it holds still takes effect (R33, R34). -/
def State.emptyHeld (s : State) (env : BusEnv) : State := (s.finishHeld env).setHeld none

/-- The buffer holds this access. -/
def MspiHeld.isFor (h : MspiHeld) (write : Bool) (a : Nat) (d : Word) : Bool := h.write == write && h.addr == a && h.data == d

/-- The status with which a frame is answered before its access is considered: CRC, CMD, then the fabric (R28, R30). -/
def State.frameStatus (s : State) (request : List Byte) (crc : Byte) (cmdOk : Bool) : Nat :=
  if crc8 request ≠ crc.toNat then stCrcErr
  else if !cmdOk then stCmdErr
  else if !s.fabricOpen then stNotReady
  else stOk

/-- The end of a frame: a reset that an MSPI write asked for begins once its status has been returned, or can no longer be (R36,
assumption 98). -/
def State.frameEnd (s : State) : State := if s.mspi.held.isNone then s.mspiReset else s

/-- CMD and ADDR of a frame as wire bytes. -/
def frameHead (cmd : Byte) (a : Nat) : List Byte := cmd :: leBytes 4 a

/-- A read frame that passes its checks: the held result, RETRY while it has not completed, or a read; `late`: the read has not
completed by the end of the last wait byte. -/
def State.mspiReadAt (s : State) (a : Nat) (late : Bool) (env : BusEnv) : State :=
  match s.mspi.held.filter (fun h => h.isFor false a 0) with
  | some h =>
    if h.done then (s.setHeld none).setMiso (readAnswer h.status (if h.status = stOk then h.result else 0))
    else s.setMiso (readAnswer stRetry 0)
  | none =>
    let s := s.emptyHeld env
    if late then (s.setHeld (some ⟨false, a, 0, false, 0, 0⟩)).setMiso (readAnswer stRetry 0)
    else
      let r := s.drainPosted.busRead .mspi env a
      r.1.setMiso (readAnswer r.2.1 r.2.2)

/-- A 16-byte frame in the read layout (R28, R33). -/
def State.readFrame (s : State) (cmd : Byte) (a : Nat) (crc : Byte) (late : Bool) (env : BusEnv) : State :=
  if !s.mspiUp then s.setMiso []
  else
    let st := s.frameStatus (frameHead cmd a) crc (cmd == 0x5A#8)
    if st = stOk then (s.mspiReadAt a late env).frameEnd
    else (if st = stCrcErr then s.count Fld.DEV_MSPI_ERR_CRC 1 else s).setMiso (readAnswer st 0)

/-- MSPI_READ: a 16-byte frame in the read layout, with any CMD but 0xA5 (R28, R33). MISO stays high-impedance while PD_CTL is
off, and without REFCLK (R412, R40). -/
def execMspiRead (cmd : Byte) (addr : BitVec 32) (crc : Byte) (late : Bool) (env : BusEnv) (s : State) : Out :=
  .next (if cmd = 0xA5#8 then s else s.readFrame cmd addr.toNat crc late env)

/-- A write frame that passes its checks: the held status, a posted store write, or a write (R34). -/
def State.mspiWriteAt (s : State) (a : Nat) (d : Word) (late : Bool) (env : BusEnv) : State :=
  match s.mspi.held.filter (fun h => h.isFor true a d) with
  | some h =>
    if h.done then (s.setHeld none).setMiso (writeAnswer h.status) else s.setMiso (writeAnswer stRetry)
  | none =>
    let s := s.emptyHeld env
    if storePosts a then (s.post a d).setMiso (writeAnswer (if s.postRoom then stOk else stRetry))
    else if late then (s.setHeld (some ⟨true, a, d, false, 0, 0⟩)).setMiso (writeAnswer stRetry)
    else
      let r := s.drainPosted.busWrite .mspi env false a d
      r.1.setMiso (writeAnswer r.2)

/-- A 16-byte write frame (R28, R34). -/
def State.writeFrame (s : State) (a : Nat) (d : Word) (crc : Byte) (late : Bool) (env : BusEnv) : State :=
  if !s.mspiUp then s.setMiso []
  else
    let st := s.frameStatus (frameHead 0xA5#8 a ++ leBytes 4 d.toNat) crc true
    if st = stOk then (s.mspiWriteAt a d late env).frameEnd
    else (if st = stCrcErr then s.count Fld.DEV_MSPI_ERR_CRC 1 else s).setMiso (writeAnswer st)

/-- MSPI_WRITE: a 16-byte write frame (R28, R34). A reset that it asks for begins after its answer (R36). -/
def execMspiWrite (addr : BitVec 32) (data : Word) (crc : Byte) (late : Bool) (env : BusEnv) (s : State) : Out :=
  .next (s.writeFrame addr.toNat data crc late env)

/-- The bytes of a frame cut short show on MISO only as far as they were clocked. -/
def State.cutMiso (s : State) (n : Nat) : State := s.setMiso (s.mspi.miso.take n)

/-- MSPI_FRAME_ABORT: MSPI_CS_N rises after the bytes `sent`. Before the request bytes are complete, 10 of a write frame and 6 of any
other, nothing is performed; later the access is performed as if the frame had run to its end (R32). -/
def execMspiFrameAbort (sent : List Byte) (late : Bool) (env : BusEnv) (s : State) : Out :=
  .next (let cmd := sent.headD 0
    let a := fieldAt sent 1 4
    if !s.mspiUp then s.setMiso []
    else if sent.length < (if cmd = 0xA5#8 then 10 else 6) then
      (s.count Fld.DEV_MSPI_ERR_ABORT 1).setMiso (List.replicate sent.length 0xFF#8)
    else if cmd = 0xA5#8 then
      (s.writeFrame a (BitVec.ofNat 32 (fieldAt sent 5 4)) (sent.getD 9 0) late env).cutMiso sent.length
    else (s.readFrame cmd a (sent.getD 5 0) late env).cutMiso sent.length)

/-- MSPI_DEFERRED_ACCESS_END: the access that was answered RETRY completes (R33, R34). -/
def execMspiDeferredAccessEnd (env : BusEnv) (s : State) : Out := .next (s.finishHeld env)

/-- POSTED_STORE_WRITE (R35). -/
def execPostedStoreWrite (s : State) : Out := .next s.performPosted

end Sys2Proof.Machine
end

