-- ==== Sys2Proof/Machine/RegisterCommands.lean ====
section
/-!
DEFINITION. The commands that are one access of one register: the register's effect, under the fabric's judgement (R477) and,
through MSPI, in the order of its accesses (R25, R30, R33, R34).
-/

namespace Sys2Proof.Machine

/-- An access through MSPI whose frame is right: NOT_READY performs nothing; else the buffer is emptied and the posted writes
performed first, and a reset that an emptied write asked for begins after it (R25, R30, R33, R34, assumption 98). -/
def State.mspiTurn (s : State) (env : BusEnv) (f : State → State) : State :=
  if s.mspiUp && s.fabricOpen then
    let s := s.emptyHeld env
    let t := f s.drainPosted
    if s.boot.afterMspi.isSome then t.mspiReset else t
  else s

/-- An access by `q` in its turn. -/
def State.turn (s : State) (q : Requester) (env : BusEnv) (f : State → State) : State :=
  if q = .mspi then s.mspiTurn env f else f s

/-- A register access by requester `q`: judged under R477, then its effect `f`; a failing access is recorded (R38). -/
def State.judged (s : State) (q : Requester) (a : Nat) (write : Bool) (f : State → State) : State :=
  if s.judge q a write = stOk then f s else s.merr q a write false (s.judge q a write)

/-- A register write by requester `q` with the effect `f`. -/
def State.access (s : State) (q : Requester) (a : Nat) (f : State → State) : State :=
  s.turn q proctorEnv (fun s => s.judged q a true f)

/-- A register read by requester `q` with the effect `f`. -/
def State.accessRead (s : State) (q : Requester) (a : Nat) (f : State → State) : State :=
  s.turn q proctorEnv (fun s => s.judged q a false f)

/-- The write has been answered: a reset that it asked for through MSPI begins (R36). -/
def State.answered (s : State) (q : Requester) : State := if q = .mspi then s.mspiReset else s

/-- REGISTER_WRITE: a write of `data` at any address of the map, with the effect of its target (R7, R9, R20 to R23); a store
write through MSPI is posted (R34). -/
def execRegisterWrite (q : Requester) (addr : BitVec 32) (data : Word) (env : BusEnv) (s : State) : Out :=
  .next (s.turn q env (fun s =>
    if q = .mspi ∧ storePosts addr.toNat then s.post addr.toNat data
    else (s.busWrite q env false addr.toNat data).1.answered q))

/-! ### Device -/

/-- DEV_CTRL_SOFT: a write of DEV_CTRL with KEY 0xA7 and SOFT 1. -/
def execDevCtrlSoft (q : Requester) (data : Word) (s : State) : Out :=
  .next (s.access q Reg.DEV_CTRL (fun s =>
    (s.devCtrlWrite q (Fld.DEV_CTRL_KEY.put 0xA7 (Fld.DEV_CTRL_SOFT.put 1 data))).answered q))

/-- DEV_CTRL_WARM: a write of DEV_CTRL with KEY 0xA7 and WARM 1. -/
def execDevCtrlWarm (q : Requester) (data : Word) (s : State) : Out :=
  .next (s.access q Reg.DEV_CTRL (fun s =>
    (s.devCtrlWrite q (Fld.DEV_CTRL_KEY.put 0xA7 (Fld.DEV_CTRL_SOFT.put 0 (Fld.DEV_CTRL_WARM.put 1 data)))).answered q))

/-- DEV_CTRL_ERR_CLR: a write of DEV_CTRL with ERR_CLR 1 that asks for no reset. -/
def execDevCtrlErrClr (q : Requester) (data : Word) (s : State) : Out :=
  .next (s.access q Reg.DEV_CTRL (fun s =>
    (s.devCtrlWrite q (Fld.DEV_CTRL_SOFT.put 0 (Fld.DEV_CTRL_WARM.put 0 (Fld.DEV_CTRL_ERR_CLR.put 1 data)))).answered q))

/-- BOOT_HEARTBEAT_WRITE; only the Dean core and Proctor may (R74). -/
def execBootHeartbeatWrite (q : Requester) (data : Word) (s : State) : Out :=
  .next (s.access q Reg.BOOT_HEARTBEAT (fun s => s.heartbeatWrite data))

/-- BOOT_CTRL_CLR_ATTEMPTS: a write of BOOT_CTRL with KEY 0xB3 and CLR_ATTEMPTS 1. -/
def execBootCtrlClrAttempts (q : Requester) (data : Word) (s : State) : Out :=
  .next (s.access q Reg.BOOT_CTRL (fun s =>
    s.bootCtrlWrite (Fld.BOOT_CTRL_KEY.put 0xB3 (Fld.BOOT_CTRL_CLR_ATTEMPTS.put 1 data))))

/-- BOOT_CTRL_FORCE_EN: a write of BOOT_CTRL with KEY 0xB3 and FORCE_EN 1. -/
def execBootCtrlForceEn (q : Requester) (data : Word) (s : State) : Out :=
  .next (s.access q Reg.BOOT_CTRL (fun s =>
    s.bootCtrlWrite (Fld.BOOT_CTRL_KEY.put 0xB3 (Fld.BOOT_CTRL_FORCE_EN.put 1 data))))

/-- CLK_SYSOUT_WRITE (R39). -/
def execClkSysoutWrite (q : Requester) (data : Word) (s : State) : Out :=
  .next (s.access q Reg.CLK_SYSOUT (fun s => s.sysoutWrite data))

/-- CLK_PHASE_GO: a write of CLK_PHASE with GO 1. -/
def execClkPhaseGo (q : Requester) (data : Word) (s : State) : Out :=
  .next (s.access q Reg.CLK_PHASE (fun s => s.clkPhaseWrite (Fld.CLK_PHASE_GO.put 1 data)))

/-! ### Link -/

/-- LNK_CTRL_ENABLE: a write of LNK_CTRL without RESTART. -/
def execLnkCtrlEnable (q : Requester) (data : Word) (s : State) : Out :=
  .next (s.access q Reg.LNK_CTRL (fun s => s.lnkCtrlWrite (Fld.LNK_CTRL_RESTART.put 0 data)))

/-- LNK_CTRL_RESTART: a write of LNK_CTRL with RESTART 1. -/
def execLnkCtrlRestart (q : Requester) (data : Word) (s : State) : Out :=
  .next (s.access q Reg.LNK_CTRL (fun s => s.lnkCtrlWrite (Fld.LNK_CTRL_RESTART.put 1 data)))

/-- LNK_TEST_GO: a write of LNK_TEST with GO 1. -/
def execLnkTestGo (q : Requester) (data : Word) (s : State) : Out :=
  .next (s.access q Reg.LNK_TEST (fun s => s.lnkTestWrite q (Fld.LNK_TEST_GO.put 1 data)))

/-- LNK_TEST_CHK_EN: a write of LNK_TEST that sets CHK_EN and not GO. -/
def execLnkTestChkEn (q : Requester) (data : Word) (s : State) : Out :=
  .next (s.access q Reg.LNK_TEST (fun s => s.lnkTestWrite q (Fld.LNK_TEST_GO.put 0 (Fld.LNK_TEST_CHK_EN.put 1 data))))

/-- LOP9_MARGIN_SCAN: a write of LNK_MARGIN_CTRL with GO 1. -/
def execLop9MarginScan (q : Requester) (data : Word) (s : State) : Out :=
  .next (s.access q Reg.LNK_MARGIN_CTRL (fun s => s.lnkMarginWrite (Fld.LNK_MARGIN_CTRL_GO.put 1 data)))

/-! ### Packets -/

/-- QUE_FLUSH. -/
def execQueFlush (q : Requester) (data : Word) (rx0 rx1 : Option (Fin 12)) (s : State) : Out :=
  .next (s.access q Reg.QUE_FLUSH (fun s => s.queFlushWrite (rxOf rx0 rx1) data))

/-- QUE_CNT_CLR: a write of QUE_CTRL with CNT_CLR 1. -/
def execQueCntClr (q : Requester) (data : Word) (s : State) : Out :=
  .next (s.access q Reg.QUE_CTRL (fun s => s.queCtrlWrite (Fld.QUE_CTRL_CNT_CLR.put 1 data)))

/-! ### StoreOps -/

/-- CST_ECC_INJ_WRITE: a write of CST_ECC_INJ (R161). -/
def execCstEccInjWrite (q : Requester) (data : Word) (s : State) : Out :=
  .next (s.access q Reg.CST_ECC_INJ (fun s => s.plainWrite Reg.CST_ECC_INJ data))

/-- LOP5_SCRUB: a write of CST_SCRUB_CTRL with GO 1. -/
def execLop5Scrub (q : Requester) (data : Word) (s : State) : Out :=
  .next (s.access q Reg.CST_SCRUB_CTRL (fun s => s.scrubCtrlWrite (Fld.CST_SCRUB_CTRL_GO.put 1 data)))

/-! ### DmaCtl -/

/-- DMA_GO: a write of DMA_CHn_CTRL with GO 1. -/
def execDmaGo (ch : Fin 32) (q : Requester) (data : Word) (s : State) : Out :=
  .next (s.access q (Reg.DMA_CHn_CTRL ch.val) (fun s =>
    s.dmaCtrlWrite ch.val q ((Fld.DMA_CHn_CTRL_GO ch.val).put 1 data)))

/-- DMA_PAUSE: a write of DMA_CHn_CTRL with PAUSE 1 and not GO. -/
def execDmaPause (ch : Fin 32) (q : Requester) (data : Word) (s : State) : Out :=
  .next (s.access q (Reg.DMA_CHn_CTRL ch.val) (fun s =>
    s.dmaCtrlWrite ch.val q ((Fld.DMA_CHn_CTRL_GO ch.val).put 0 ((Fld.DMA_CHn_CTRL_PAUSE ch.val).put 1 data))))

/-- DMA_ABORT: a write of DMA_CHn_CTRL with ABORT 1 and not GO. -/
def execDmaAbort (ch : Fin 32) (q : Requester) (data : Word) (s : State) : Out :=
  .next (s.access q (Reg.DMA_CHn_CTRL ch.val) (fun s =>
    s.dmaCtrlWrite ch.val q ((Fld.DMA_CHn_CTRL_GO ch.val).put 0 ((Fld.DMA_CHn_CTRL_ABORT ch.val).put 1 data))))

/-- DMA_RESUME: a write of DMA_CHn_CTRL with RESUME 1 and neither GO nor ABORT. -/
def execDmaResume (ch : Fin 32) (q : Requester) (data : Word) (s : State) : Out :=
  .next (s.access q (Reg.DMA_CHn_CTRL ch.val) (fun s =>
    s.dmaCtrlWrite ch.val q ((Fld.DMA_CHn_CTRL_GO ch.val).put 0 ((Fld.DMA_CHn_CTRL_ABORT ch.val).put 0
      ((Fld.DMA_CHn_CTRL_RESUME ch.val).put 1 data)))))

/-! ### Flash -/

/-- LOP7_ERASE. -/
def execLop7Erase (q : Requester) (data : Word) (s : State) : Out :=
  .next (s.access q Reg.BOOT_FL_CTRL (fun s => s.flCtrlWrite (flCtrlData 0 data)))

/-- LOP7_PROGRAM. -/
def execLop7Program (q : Requester) (data : Word) (s : State) : Out :=
  .next (s.access q Reg.BOOT_FL_CTRL (fun s => s.flCtrlWrite (flCtrlData 1 data)))

/-- LOP7_READ. -/
def execLop7Read (q : Requester) (data : Word) (s : State) : Out :=
  .next (s.access q Reg.BOOT_FL_CTRL (fun s => s.flCtrlWrite (flCtrlData 2 data)))

/-- LOP8_VERIFY: a write of BOOT_VERIFY_CTRL with KEY 0x5C and GO 1. -/
def execLop8Verify (q : Requester) (data : Word) (s : State) : Out :=
  .next (s.access q Reg.BOOT_VERIFY_CTRL (fun s =>
    s.verifyCtrlWrite (Fld.BOOT_VERIFY_CTRL_KEY.put 0x5C (Fld.BOOT_VERIFY_CTRL_GO.put 1 data))))

/-! ### Proctor -/

/-- APPLY_PROV. -/
def execApplyProv (q : Requester) (data : Word) (s : State) : Out :=
  .next (s.access q Reg.PROC_CMD (fun s => s.procCmdWrite (procCmdData 1 data)))

/-- ADVANCE_RB. -/
def execAdvanceRb (q : Requester) (data : Word) (s : State) : Out :=
  .next (s.access q Reg.PROC_CMD (fun s => s.procCmdWrite (procCmdData 2 data)))

/-- DBG_CHALLENGE. -/
def execDbgChallenge (q : Requester) (data : Word) (s : State) : Out :=
  .next (s.access q Reg.PROC_CMD (fun s => s.procCmdWrite (procCmdData 3 data)))

/-- DBG_SUBMIT. -/
def execDbgSubmit (q : Requester) (data : Word) (s : State) : Out :=
  .next (s.access q Reg.PROC_CMD (fun s => s.procCmdWrite (procCmdData 4 data)))

/-- DBG_LOCK. -/
def execDbgLock (q : Requester) (data : Word) (s : State) : Out :=
  .next (s.access q Reg.PROC_CMD (fun s => s.procCmdWrite (procCmdData 5 data)))

/-- LOP6_ATTEST: a write of PROC_ATT_CTRL with KEY 0x6D and GO 1. -/
def execLop6Attest (q : Requester) (data : Word) (unseals : Bool) (s : State) : Out :=
  .next (s.access q Reg.PROC_ATT_CTRL (fun s =>
    s.attCtrlWrite (Fld.PROC_ATT_CTRL_KEY.put 0x6D (Fld.PROC_ATT_CTRL_GO.put 1 data)) unseals))

/-! ### Air -/

/-- ATM_SET: a write of ATM_CTRL with SET 1. -/
def execAtmSet (q : Requester) (data : Word) (s : State) : Out :=
  .next (s.access q Reg.ATM_CTRL (fun s => s.atmCtrlWrite (Fld.ATM_CTRL_SET.put 1 data)))

/-- ATM_SRC_WRITE: a write of ATM_SYNC_CTRL. -/
def execAtmSrcWrite (q : Requester) (data : Word) (s : State) : Out :=
  .next (s.access q Reg.ATM_SYNC_CTRL (fun s => s.syncCtrlWrite data))

/-- TT_SWAP_REQUEST: a write of ATM_TT_CTRL with SWAP 1. -/
def execTtSwapRequest (q : Requester) (data : Word) (s : State) : Out :=
  .next (s.access q Reg.ATM_TT_CTRL (fun s => s.ttCtrlWrite (Fld.ATM_TT_CTRL_SWAP.put 1 data)))

/-- BMB_UPD_GO: a write of BMB_UPD_CTRL with GO 1. -/
def execBmbUpdGo (q : Requester) (data : Word) (s : State) : Out :=
  .next (s.access q Reg.BMB_UPD_CTRL (fun s => s.updCtrlWrite (Fld.BMB_UPD_CTRL_GO.put 1 data)))

/-- ATM_PEER_WRITE (R217). -/
def execAtmPeerWrite (index : Fin 4) (word : Fin 3) (q : Requester) (data : Word) (s : State) : Out :=
  .next (s.access q (Reg.ATM_PEERk_W0 index.val + 4 * word.val) (fun s => s.peerWrite index.val word.val data))

/-! ### Carrier -/

/-- DLC_COMMIT: a write of DLC_CTRL with COMMIT 1. -/
def execDlcCommit (q : Requester) (data : Word) (s : State) : Out :=
  .next (s.access q Reg.DLC_CTRL (fun s => s.chainCtrlWrite false (Fld.DLC_CTRL_COMMIT.put 1 data)))

/-- ULC_COMMIT: a write of ULC_CTRL with COMMIT 1. -/
def execUlcCommit (q : Requester) (data : Word) (s : State) : Out :=
  .next (s.access q Reg.ULC_CTRL (fun s => s.chainCtrlWrite true (Fld.ULC_CTRL_COMMIT.put 1 data)))

/-- DLC_IQ_SWAP: a write of DLC_CTRL with IQ_SWAP 1. -/
def execDlcIqSwap (q : Requester) (data : Word) (s : State) : Out :=
  .next (s.access q Reg.DLC_CTRL (fun s => s.chainCtrlWrite false (Fld.DLC_CTRL_IQ_SWAP.put 1 data)))

/-- ULC_IQ_SWAP: a write of ULC_CTRL with IQ_SWAP 1. -/
def execUlcIqSwap (q : Requester) (data : Word) (s : State) : Out :=
  .next (s.access q Reg.ULC_CTRL (fun s => s.chainCtrlWrite true (Fld.ULC_CTRL_IQ_SWAP.put 1 data)))

/-- DLC_CNT_CLR: a write of DLC_CTRL with CNT_CLR 1. -/
def execDlcCntClr (q : Requester) (data : Word) (s : State) : Out :=
  .next (s.access q Reg.DLC_CTRL (fun s => s.chainCtrlWrite false (Fld.DLC_CTRL_CNT_CLR.put 1 data)))

/-- ULC_CNT_CLR: a write of ULC_CTRL with CNT_CLR 1. -/
def execUlcCntClr (q : Requester) (data : Word) (s : State) : Out :=
  .next (s.access q Reg.ULC_CTRL (fun s => s.chainCtrlWrite true (Fld.ULC_CTRL_CNT_CLR.put 1 data)))

/-- FIR_SWAP_REQUEST: a write of ULC_CARc_FIR_CTRL with SWAP 1. -/
def execFirSwapRequest (c : Fin 8) (q : Requester) (data : Word) (s : State) : Out :=
  .next (s.access q (Reg.ULC_CARc_FIR_CTRL c.val) (fun s =>
    s.firCtrlWrite c.val ((Fld.ULC_CARc_FIR_CTRL_SWAP c.val).put 1 data)))

/-- RSSI_CFG_WRITE. -/
def execRssiCfgWrite (path : Fin 64) (q : Requester) (data : Word) (s : State) : Out :=
  .next (s.access q (Reg.ULC_PATHp_RSSI_CFG path.val) (fun s => s.rssiCfgWrite path.val data))

/-! ### Lin -/

/-- A write of SEQ_CTRL with a mode. -/
def State.seqModeWrite (s : State) (g : Nat) (q : Requester) (data : Word) (mode : Nat) : State :=
  s.access q (Reg.LIN_PGg_SEQ_CTRL g) (fun s => s.linPageWrite g (Reg.LIN_PGg_SEQ_CTRL g) q
    ((Fld.LIN_PGg_SEQ_CTRL_MODE g).put mode data))

/-- SEQ_MODE_OFF: a write of SEQ_CTRL with MODE OFF; a capture in progress completes. -/
def execSeqModeOff (g : Fin 8) (q : Requester) (data : Word) (s : State) : Out :=
  .next (s.seqModeWrite g.val q data seqOff)

/-- SEQ_MODE_AUTO: a write of SEQ_CTRL with MODE AUTO. -/
def execSeqModeAuto (g : Fin 8) (q : Requester) (data : Word) (s : State) : Out :=
  .next (s.seqModeWrite g.val q data seqAuto)

/-- SEQ_MODE_SINGLE: a write of SEQ_CTRL with MODE SINGLE. -/
def execSeqModeSingle (g : Fin 8) (q : Requester) (data : Word) (s : State) : Out :=
  .next (s.seqModeWrite g.val q data seqSingle)

/-- CAPTURE_PORT_READ: requester `q` reads LIN_PGg_PORT. -/
def execCapturePortRead (g : Fin 8) (q : Requester) (s : State) : Out :=
  .next (s.accessRead q (Reg.LIN_PGg_PORT g.val) (fun s => (s.capPortRead g.val).1))

/-- LOP2_PD_CAMPAIGN: a write of LIN_LOP2_CTRL with GO 1. -/
def execLop2PdCampaign (q : Requester) (data : Word) (s : State) : Out :=
  .next (s.access q Reg.LIN_LOP2_CTRL (fun s => s.lop2Write (Fld.LIN_LOP2_CTRL_GO.put 1 data)))

/-- LOP2_ABORT: a write of LIN_LOP2_CTRL with ABORT 1 and GO 0. -/
def execLop2Abort (q : Requester) (data : Word) (s : State) : Out :=
  .next (s.access q Reg.LIN_LOP2_CTRL (fun s =>
    s.lop2Write (Fld.LIN_LOP2_CTRL_ABORT.put 1 (Fld.LIN_LOP2_CTRL_GO.put 0 data))))

/-- PD_LOAD_WRITE: a write of LOAD_CTRL with GO 1 and OP WRITE. -/
def execPdLoadWrite (g : Fin 8) (q : Requester) (data : Word) (s : State) : Out :=
  .next (s.access q (Reg.LIN_PGg_LOAD_CTRL g.val) (fun s => s.linPageWrite g.val (Reg.LIN_PGg_LOAD_CTRL g.val) q
    ((Fld.LIN_PGg_LOAD_CTRL_OP g.val).put 0 ((Fld.LIN_PGg_LOAD_CTRL_GO g.val).put 1 data))))

/-- PD_LOAD_READ: a write of LOAD_CTRL with GO 1 and OP READ. -/
def execPdLoadRead (g : Fin 8) (q : Requester) (data : Word) (s : State) : Out :=
  .next (s.access q (Reg.LIN_PGg_LOAD_CTRL g.val) (fun s => s.linPageWrite g.val (Reg.LIN_PGg_LOAD_CTRL g.val) q
    ((Fld.LIN_PGg_LOAD_CTRL_OP g.val).put 1 ((Fld.LIN_PGg_LOAD_CTRL_GO g.val).put 1 data))))

/-- PD_SWAP_REQUEST: a write of SWAP_CTRL with GO 1. -/
def execPdSwapRequest (g : Fin 8) (q : Requester) (data : Word) (s : State) : Out :=
  .next (s.access q (Reg.LIN_PGg_SWAP_CTRL g.val) (fun s => s.linPageWrite g.val (Reg.LIN_PGg_SWAP_CTRL g.val) q
    ((Fld.LIN_PGg_SWAP_CTRL_GO g.val).put 1 data)))

/-- KERNEL_SWAP_REQUEST: a write of LIN_CTRL with KSWAP 1. -/
def execKernelSwapRequest (q : Requester) (data : Word) (s : State) : Out :=
  .next (s.access q Reg.LIN_CTRL (fun s => s.linCtrlWrite (Fld.LIN_CTRL_KSWAP.put 1 data)))

/-- LIN_CNT_CLR: a write of LIN_CTRL with CNT_CLR 1. -/
def execLinCntClr (q : Requester) (data : Word) (s : State) : Out :=
  .next (s.access q Reg.LIN_CTRL (fun s => s.linCtrlWrite (Fld.LIN_CTRL_CNT_CLR.put 1 data)))

/-- CORR_CLR: a write of LOOP_CFG with CORR_CLR 1. -/
def execCorrClr (path : Fin 64) (q : Requester) (data : Word) (s : State) : Out :=
  .next (s.access q (Reg.LIN_PATHp_LOOP_CFG path.val) (fun s =>
    s.loopCfgWrite path.val ((Fld.LIN_PATHp_LOOP_CFG_CORR_CLR path.val).put 1 data)))

/-! ### Sfd -/

/-- SFD_COMMIT: a write of SFD_CTRL with COMMIT 1. -/
def execSfdCommit (q : Requester) (data : Word) (s : State) : Out :=
  .next (s.access q Reg.SFD_CTRL (fun s => s.sfdCtrlWrite (Fld.SFD_CTRL_COMMIT.put 1 data)))

/-- SFD_CNT_CLR: a write of SFD_CTRL with CNT_CLR 1. -/
def execSfdCntClr (q : Requester) (data : Word) (s : State) : Out :=
  .next (s.access q Reg.SFD_CTRL (fun s => s.sfdCtrlWrite (Fld.SFD_CTRL_CNT_CLR.put 1 data)))

/-- SFD_LOAD_WRITE: a write of SFD_LOAD_CTRL with GO 1 and OP WRITE. -/
def execSfdLoadWrite (q : Requester) (data : Word) (s : State) : Out :=
  .next (s.access q Reg.SFD_LOAD_CTRL (fun s =>
    s.sfdLoadWrite q (Fld.SFD_LOAD_CTRL_OP.put 0 (Fld.SFD_LOAD_CTRL_GO.put 1 data))))

/-- SFD_LOAD_READ: a write of SFD_LOAD_CTRL with GO 1 and OP READ. -/
def execSfdLoadRead (q : Requester) (data : Word) (s : State) : Out :=
  .next (s.access q Reg.SFD_LOAD_CTRL (fun s =>
    s.sfdLoadWrite q (Fld.SFD_LOAD_CTRL_OP.put 1 (Fld.SFD_LOAD_CTRL_GO.put 1 data))))

/-- SFD_CAP_GO: a write of SFD_CAP_CTRL with GO 1. -/
def execSfdCapGo (q : Requester) (data : Word) (s : State) : Out :=
  .next (s.access q Reg.SFD_CAP_CTRL (fun s => s.sfdCapWrite q (Fld.SFD_CAP_CTRL_GO.put 1 data)))

/-- LOP3_SFD_TRAINING: a write of SFD_LOP3_CTRL with GO 1. -/
def execLop3SfdTraining (q : Requester) (data : Word) (s : State) : Out :=
  .next (s.access q Reg.SFD_LOP3_CTRL (fun s => s.lop3Write (Fld.SFD_LOP3_CTRL_GO.put 1 data)))

/-- LOP3_ABORT: a write of SFD_LOP3_CTRL with ABORT 1 and GO 0. -/
def execLop3Abort (q : Requester) (data : Word) (s : State) : Out :=
  .next (s.access q Reg.SFD_LOP3_CTRL (fun s =>
    s.lop3Write (Fld.SFD_LOP3_CTRL_ABORT.put 1 (Fld.SFD_LOP3_CTRL_GO.put 0 data))))

/-- DEMOTED_CLEAR: a write of SFD_PGg_STATUS with DEMOTED 1; SB resumes at the next boundary. -/
def execDemotedClear (g : Fin 8) (q : Requester) (data : Word) (s : State) : Out :=
  .next (s.access q (Reg.SFD_PGg_STATUS g.val) (fun s =>
    s.plainWrite (Reg.SFD_PGg_STATUS g.val) ((Fld.SFD_PGg_STATUS_DEMOTED g.val).put 1 data)))

/-! ### Rf -/

/-- LO_RETUNE_GO: a write of LOx_CTRL with GO 1. -/
def execLoRetuneGo (g : Fin 8) (x : Fin 2) (q : Requester) (data : Word) (s : State) : Out :=
  .next (s.access q (Reg.RFE_PGg_LOx_CTRL g.val x.val) (fun s =>
    s.loCtrlWrite g.val x.val ((Fld.RFE_PGg_LOx_CTRL_GO g.val x.val).put 1 data)))

/-- LO_PWRDN: a write of LOx_CTRL with PWRDN 1 and GO 0. -/
def execLoPwrdn (g : Fin 8) (x : Fin 2) (q : Requester) (data : Word) (s : State) : Out :=
  .next (s.access q (Reg.RFE_PGg_LOx_CTRL g.val x.val) (fun s =>
    s.loCtrlWrite g.val x.val ((Fld.RFE_PGg_LOx_CTRL_PWRDN g.val x.val).put 1
      ((Fld.RFE_PGg_LOx_CTRL_GO g.val x.val).put 0 data))))

/-- BAND_WRITE: a write of RFE_PGg_CFG; the ports follow at the next grid symbol boundary (R321). -/
def execBandWrite (g : Fin 8) (q : Requester) (data : Word) (s : State) : Out :=
  .next (s.access q (Reg.RFE_PGg_CFG g.val) (fun s => s.plainWrite (Reg.RFE_PGg_CFG g.val) data))

/-- LOSEL_WRITE. -/
def execLoselWrite (g : Fin 8) (q : Requester) (data : Word) (s : State) : Out :=
  .next (s.access q (Reg.RFE_PGg_LOSEL g.val) (fun s => s.loselWrite g.val data))

/-- LO_PHASE_GO: a write of LOx_PHASE with GO 1. -/
def execLoPhaseGo (g : Fin 8) (x : Fin 2) (q : Requester) (data : Word) (s : State) : Out :=
  .next (s.access q (Reg.RFE_PGg_LOx_PHASE g.val x.val) (fun s =>
    s.loPhaseWrite g.val x.val ((Fld.RFE_PGg_LOx_PHASE_GO g.val x.val).put 1 data)))

/-- RFFE_GO: a write of RFFE_CTRL with GO 1. -/
def execRffeGo (g : Fin 8) (q : Requester) (data : Word) (s : State) : Out :=
  .next (s.access q (Reg.RFE_PGg_RFFE_CTRL g.val) (fun s =>
    s.rffeCtrlWrite g.val ((Fld.RFE_PGg_RFFE_CTRL_GO g.val).put 1 data)))

/-- RFFE_ABORT: a write of RFFE_CTRL with ABORT 1 and GO 0. -/
def execRffeAbort (g : Fin 8) (q : Requester) (data : Word) (s : State) : Out :=
  .next (s.access q (Reg.RFE_PGg_RFFE_CTRL g.val) (fun s =>
    s.rffeCtrlWrite g.val ((Fld.RFE_PGg_RFFE_CTRL_ABORT g.val).put 1 ((Fld.RFE_PGg_RFFE_CTRL_GO g.val).put 0 data))))

/-! ### Cal -/

/-- CAL_LOAD_GO: a write of CAL_LOAD_CTRL with GO 1. -/
def execCalLoadGo (q : Requester) (data : Word) (s : State) : Out :=
  .next (s.access q Reg.CAL_LOAD_CTRL (fun s => s.calLoadWrite (Fld.CAL_LOAD_CTRL_GO.put 1 data)))

/-- CAL_ARR_GO: a write of CAL_ARR_CTRL with GO 1. -/
def execCalArrGo (q : Requester) (data : Word) (s : State) : Out :=
  .next (s.access q Reg.CAL_ARR_CTRL (fun s => s.calArrWrite (Fld.CAL_ARR_CTRL_GO.put 1 data)))

/-- CAL_ARR_ABORT: a write of CAL_ARR_CTRL with ABORT 1 and GO 0. -/
def execCalArrAbort (q : Requester) (data : Word) (s : State) : Out :=
  .next (s.access q Reg.CAL_ARR_CTRL (fun s =>
    s.calArrWrite (Fld.CAL_ARR_CTRL_ABORT.put 1 (Fld.CAL_ARR_CTRL_GO.put 0 data))))

/-- CAL_CONV_GO: a write of CAL_CONV_CTRL with GO 1. -/
def execCalConvGo (q : Requester) (data : Word) (s : State) : Out :=
  .next (s.access q Reg.CAL_CONV_CTRL (fun s => s.calConvWrite (Fld.CAL_CONV_CTRL_GO.put 1 data)))

/-- CAL_SAVE_GO: a write of CAL_SAVE_CTRL with KEY 0x5C and GO 1. -/
def execCalSaveGo (q : Requester) (data : Word) (s : State) : Out :=
  .next (s.access q Reg.CAL_SAVE_CTRL (fun s =>
    s.calSaveWrite (Fld.CAL_SAVE_CTRL_KEY.put 0x5C (Fld.CAL_SAVE_CTRL_GO.put 1 data))))

/-! ### Dsp -/

/-- CORE_RST_WRITE: a write of CORE_CTRL without HALT_REQ and RESUME. -/
def execCoreRstWrite (core : Fin 13) (q : Requester) (data : Word) (s : State) : Out :=
  .next (s.access q (Reg.CORE_CTRL core.val) (fun s => s.coreCtrlWrite core.val (data &&& 1#32)))

/-- CORE_HALT_REQ: a write of CORE_CTRL with HALT_REQ 1. -/
def execCoreHaltReq (core : Fin 13) (q : Requester) (data : Word) (s : State) : Out :=
  .next (s.access q (Reg.CORE_CTRL core.val) (fun s =>
    s.coreCtrlWrite core.val ((Fld.CORE_CTRL_HALT_REQ core.val).put 1 data)))

/-- CORE_RESUME: a write of CORE_CTRL with RESUME 1. -/
def execCoreResume (core : Fin 13) (q : Requester) (data : Word) (s : State) : Out :=
  .next (s.access q (Reg.CORE_CTRL core.val) (fun s =>
    s.coreCtrlWrite core.val ((Fld.CORE_CTRL_RESUME core.val).put 1 data)))

/-- MBX_IN_WRITE: requester `q` writes MBX_IN, or HOST_IN of the Dean core. -/
def execMbxInWrite (core : Fin 13) (q : Requester) (data : Word) (s : State) : Out :=
  .next (s.access q (Reg.MBX_IN core.val) (fun s => s.mbxInWrite core.val q data))

/-- MBX_OUT_READ: requester `q` reads MBX_OUT, or HOST_OUT of the Dean core. -/
def execMbxOutRead (core : Fin 13) (q : Requester) (s : State) : Out :=
  .next (s.accessRead q (Reg.MBX_OUT core.val) (fun s => (s.mbxOutRead core.val q).1))

/-- DOORBELL_ADD: a write of CORE_DOORBELL. -/
def execDoorbellAdd (core : Fin 13) (q : Requester) (data : Word) (s : State) : Out :=
  .next (s.access q (Reg.CORE_DOORBELL core.val) (fun s => s.doorbellWrite core.val data))

/-! ### Hk -/

/-- HK_PORT_READ. -/
def execHkPortRead (q : Requester) (s : State) : Out :=
  .next (s.accessRead q Reg.HK_PORT (fun s => s.hkPortPop.1))

/-- HK_URGENT_REQUEST: a write of HK_URG with GO 1. -/
def execHkUrgentRequest (q : Requester) (data : Word) (s : State) : Out :=
  .next (s.access q Reg.HK_URG (fun s => s.hkUrgWrite (Fld.HK_URG_GO.put 1 data)))

/-- HK_LIST_WRITE: a write of LEN (none) or of list entry `entry`. -/
def execHkListWrite (entry : Option (Fin 64)) (q : Requester) (data : Word) (s : State) : Out :=
  let a := match entry with | some n => Reg.HK_LISTn n.val | none => Reg.HK_CTRL
  .next (s.access q a (fun s => s.hkListWrite a data))

/-- LOP4_SYSCAL: a write of HK_SYSCAL_CTRL with GO 1. -/
def execLop4Syscal (q : Requester) (data : Word) (s : State) : Out :=
  .next (s.access q Reg.HK_SYSCAL_CTRL (fun s => s.syscalWrite (Fld.HK_SYSCAL_CTRL_GO.put 1 data)))

/-! ### Events -/

/-- EVT_CNT_CLR: a write of EVT_CTRL with CNT_CLR 1. -/
def execEvtCntClr (q : Requester) (data : Word) (s : State) : Out :=
  .next (s.access q Reg.EVT_CTRL (fun s => s.evtCtrlWrite (Fld.EVT_CTRL_CNT_CLR.put 1 data)))

/-! ### Power -/

/-- A write of PWR_REQ with GO 1 and target `st`; `sources` are the wake sources asserted at that instant. -/
def State.requestWrite (s : State) (st : Nat) (q : Requester) (data : Word) (sources : Fin 8) : State :=
  s.access q Reg.PWR_REQ (fun s => (s.setSources sources.val).pwrReqWrite q (Fld.PWR_REQ_STATE.put st (Fld.PWR_REQ_GO.put 1 data)))

/-- REQUEST_ACTIVE. -/
def execRequestActive (q : Requester) (data : Word) (sources : Fin 8) (s : State) : Out := .next (s.requestWrite 0 q data sources)

/-- REQUEST_NAP: PG_OFF names the groups to be off. -/
def execRequestNap (q : Requester) (data : Word) (sources : Fin 8) (s : State) : Out := .next (s.requestWrite 1 q data sources)

/-- REQUEST_LIGHT_SLEEP. -/
def execRequestLightSleep (q : Requester) (data : Word) (sources : Fin 8) (s : State) : Out :=
  .next (s.requestWrite 2 q data sources)

/-- REQUEST_DEEP_SLEEP. -/
def execRequestDeepSleep (q : Requester) (data : Word) (sources : Fin 8) (s : State) : Out :=
  .next (s.requestWrite 3 q data sources)

/-- REQUEST_BELL_WATCH. -/
def execRequestBellWatch (q : Requester) (data : Word) (sources : Fin 8) (s : State) : Out :=
  .next (s.requestWrite 4 q data sources)

/-- PWR_VETO_WRITE. -/
def execPwrVetoWrite (q : Requester) (data : Word) (s : State) : Out :=
  .next (s.access q Reg.PWR_VETO (fun s => s.pwrVetoWrite q data))

/-- VCORE_TARGET_WRITE. -/
def execVcoreTargetWrite (q : Requester) (data : Word) (s : State) : Out :=
  .next (s.access q Reg.PWR_VCORE (fun s => s.vcoreWrite data))

/-- MARGIN_WRITE: a write of PWR_REG_CFG. -/
def execMarginWrite (q : Requester) (data : Word) (s : State) : Out :=
  .next (s.access q Reg.PWR_REG_CFG (fun s => s.regCfgWrite data))

end Sys2Proof.Machine
end

