-- ==== Sys2Proof/Machine/Start.lean ====
section
/-!
DEFINITION. Start steps 9 to 12 (R51, R53, R56, R62, R165 to R167, R388): the board profile, the store's self-test, the sections
that Proctor loads through the fabric, the calibration partition, and the group wakes before step 13.
-/

namespace Sys2Proof.Machine

/-- Words written at rising addresses by Proctor; false when one completes with a status other than OK (R51). -/
def State.proctorWords (s : State) (a : Nat) : List Word → State × Bool
  | [] => (s, true)
  | w :: ws =>
    let r := s.busWrite .proctor proctorEnv false a w
    if r.2 = stOk then State.proctorWords r.1 (a + 4) ws else (r.1, false)

/-- The pairs of a REG_INIT section, written in order (R49). -/
def State.proctorPairs (s : State) : List Word → State × Bool
  | a :: d :: ws =>
    let r := s.busWrite .proctor proctorEnv false a.toNat d
    if r.2 = stOk then State.proctorPairs r.1 ws else (r.1, false)
  | _ => (s, true)

/-- The region table comes into force: CST_REGIONn, all 0 for an ID that the table does not define, and the retention masks (R166,
R167). -/
def State.applyRegions (s : State) (bs : List Byte) : State :=
  let s := s.forEach 64 (fun s n => s.forEach 4 (fun s k => s.wr (Reg.CST_REGIONn n k) 0))
  let s := (List.range (bs.length / 16)).foldl (fun s i =>
    let n := fieldAt bs (16 * i) 1 % 64
    (List.range 4).foldl (fun s k => s.wr (Reg.CST_REGIONn n k) (BitVec.ofNat 32 (fieldAt bs (16 * i + 4 * k) 4))) s) s
  s.setRetMasks

/-- The regions in force, from CST_REGIONn. -/
def State.regionsNow (s : State) : List Region :=
  regionList ((List.range 64).flatMap (fun n =>
    if s.rd (Reg.CST_REGIONn n 2) = 0 then []
    else (List.range 4).flatMap (fun k => leBytes 4 (s.rd (Reg.CST_REGIONn n k)).toNat)))

/-- The core of a TUTOR_PROGRAM section that loads program memory (R388). -/
def programCore (c : Section) : Option Nat :=
  let o := c.load - 0x400000
  if c.stype = 4 ∧ o % 0x40000 < 0x10000 then some (o / 0x40000) else none

/-- The content of a section whose digest matches is put in force; an error is the cause of the failed attempt (R49, R51). -/
def State.installSection (s : State) (c : Section) (bs : List Byte) : State × Option Nat :=
  let done := fun (r : State × Bool) => (r.1, if r.2 then none else some 8)
  match c.stype with
  | 0x02 => if regionsOk bs then (s.applyRegions bs, none) else (s, some 2)
  | 0x03 => done (s.proctorWords c.load (bytesToWords bs))
  | 0x04 =>
    let r := s.proctorWords c.load (bytesToWords bs)
    let b := r.1.boot
    let loaded := (List.range 12).filter (fun n => b.loaded.contains n || programCore c == some n)
    done ({ r.1 with boot := { b with loaded := loaded } }, r.2)
  | 0x05 => done (s.proctorPairs (bytesToWords bs))
  | 0x07 => done (s.proctorWords c.load (bytesToWords bs))
  | 0x08 => done (s.proctorWords c.load (bytesToWords bs))
  | _ => done (s.storeWrite c.load bs reqFabric)

/-- One section of step 10: its LOAD range, its digest, its content; the cause of a failure (R51). An unknown STYPE is skipped. -/
def State.loadSection (s : State) (c : Section) : State × Option Nat :=
  let bs := s.sectionBytes s.slotPart c
  if !knownSection c.stype then (s, none)
  else if !loadOk c s.regionsNow then (s, some 2)
  else if sha512 bs ≠ c.digest then (s, some 8)
  else s.installSection c bs

/-! ### Step 9 -/

/-- The index of the BOARD_PROFILES section in the slot header. -/
def profileIndex (h : List Byte) : Nat := (headerSections h).findIdx (fun c => c.stype == 1)

/-- Step 9 begins: BOARD_PROFILES is read and checked, the profile selected, and VDD_CORE set to its VCORE_START_MV (R51, R53,
R414). -/
def State.profileStep (s : State) : State :=
  let j := profileIndex s.boot.header
  let c := headerSection s.boot.header j
  let bs := s.sectionBytes s.slotPart c
  if sha512 bs ≠ c.digest then s.failAttempt 0x08 j
  else match selectProfile bs (s.fld Fld.DEV_STRAPS_BOARD_ID) with
  | none => s.failAttempt 0x05 j
  | some p =>
    if !profileOk p then s.failAttempt 0x02 j
    else
      let s := { s with boot := { s.boot with profile := p, vcoreWait := true } }
      (s.setFld Fld.PWR_VCORE_TARGET_MV (fieldAt p 12 2)).pushAvs (fieldAt p 12 2)

/-- The domains that step 9 and wake stage 3 switch on. -/
def dataDomains : List Nat := [pdLnk, pdCst, pdDpx, pdLin, pdSfd, pdDsp]

/-- Domains are switched on, their N fields at reset values (R443); PD_LIN comes up with its identity sets and kernels (R283, R299). -/
def State.powerDomains (s : State) (ds : List Nat) : State :=
  ds.foldl (fun s d =>
    let s := (s.switchOn d).resetDomain d
    if d = pdLin then s.linPowerUp else s) s

/-- Every bank of the store is ECC-initialised (R165). -/
def State.eccInitAll (s : State) : State := { s with store := [], ecc := [], banksOff := [] }

/-- The profile selected at step 9 is applied at step 10, and kept (R52, R66, R105, R321, R393). -/
def State.applyProfile (s : State) : State :=
  let p := s.boot.profile
  let s := { s with boot := { s.boot with kept := p } }
  let s := (s.forEach 44 (fun s e => s.loadEq e (some (profileEq p e)))).setWidths (profileWidth p)
  let s := s.forEach 8 (fun s g =>
    (s.setFld (Fld.RFE_PGg_CFG_BAND g) (fieldAt p 4 1 / 2 ^ g % 2)).setFld (Fld.RFE_PGg_CFG_FITTED g) (fieldAt p 5 1 / 2 ^ g % 2))
  s.forEach 12 (fun s i =>
    let w := BitVec.ofNat 32 (fieldAt p (192 + 4 * i) 4)
    s.wr (Reg.HK_SCALEi i) (if 3 < getField 22 20 w then 0 else w))

/-- The store test of step 9 ends: a bank that failed fails the attempt, its lowest number in DETAIL (R165); else step 10 begins:
the profile is applied, and REGION_TABLE comes first (R51). -/
def State.storeStep (s : State) (failBanks : BitVec 64) : State :=
  let s := (s.powerDomains dataDomains).eccInitAll.dspPowerUp
  if failBanks ≠ 0 then
    let s := (s.wr Reg.CST_BANK_FAIL0 (failBanks.truncate 32)).wr Reg.CST_BANK_FAIL1 ((failBanks >>> 32).truncate 32)
    (s.setFld Fld.CST_STATUS_SELFTEST_FAIL 1).failAttempt 0x07 (((List.range 64).find? failBanks.getLsbD).getD 0)
  else
    let idx := List.range (headerCount s.boot.header)
    let ty := fun j => (headerSection s.boot.header j).stype
    let order := idx.filter (fun j => ty j == 2) ++ idx.filter (fun j => ty j != 1 && ty j != 2)
    let s := (s.setFld Fld.CST_STATUS_READY 1).setFld Fld.BOOT_STATUS_STEP 10
    ({ s with boot := { s.boot with storeReady := true, sections := order } }).applyProfile

/-! ### Steps 10 to 12 -/

/-- Step 12: every fitted group that no HOT bit holds off wakes; without one, step 13 follows (R62, R423). -/
def State.groupStep (s : State) : State :=
  ((s.setFld Fld.BOOT_STATUS_STEP 12).wakeGroups (without s.fitted s.pwr.hot)).afterWakes

/-- The ARRAY_MAP section, as it stands in the store after its load (R51, R216). -/
def State.imageMap (s : State) : List Byte :=
  match (headerSections s.boot.header).find? (fun c => c.stype == 0x0B) with
  | some c => s.storeBytes c.load c.length
  | none => []

/-- Step 10 loads its next section; after the last one step 11 follows. -/
def State.sectionStep (s : State) : State :=
  match s.boot.sections with
  | j :: js =>
    let r := s.loadSection (headerSection s.boot.header j)
    match r.2 with
    | some cause => r.1.failAttempt cause j
    | none =>
      let s : State := { r.1 with boot := { r.1.boot with sections := js } }
      if js = [] then (s.takeMap s.imageMap).setFld Fld.BOOT_STATUS_STEP 11 else s
  | [] => s.setFld Fld.BOOT_STATUS_STEP 11

/-- Step 11: the calibration halves are judged (R56, R356). -/
def State.calrecStep (s : State) : State :=
  let p := (s.boot.dir.map (·.calrec)).getD ⟨0, 0⟩
  let s := s.reportCopies p
  if s.calrecBad p then s.failAttempt 0x0B 0
  else
    (match s.chooseCopy p with
     | some k => s.copyLoaded k
     | none => s.setFld Fld.BOOT_STATUS_NO_CALREC 1).groupStep

/-- START_SECTION_LOAD: what steps 9 to 11 read has been read and checked (R51); `failBanks`: the banks that the self-test of step 9
finds bad (R165). -/
def execStartSectionLoad (failBanks : BitVec 64) (s : State) : Out :=
  let step := s.fld Fld.BOOT_STATUS_STEP
  .next (if !s.startRuns then s
  else if step = 9 then
    if s.boot.profile = [] then s.profileStep
    else if s.boot.vcoreWait then s
    else s.storeStep failBanks
  else if step = 10 then s.sectionStep
  else if step = 11 then s.calrecStep
  else s)

/-! ### Reload after DEEP SLEEP (R426) -/

/-- The sections that a wake reloads: those of the types of R426 whose LOAD range touches a bank that was not retained. -/
def State.reloadList (s : State) : List Section :=
  (headerSections s.boot.header).filter (fun c =>
    ([0x06, 0x09, 0x0A, 0x0B].contains c.stype || (decide (0xF0 ≤ c.stype) && decide (c.stype ≤ 0xFF))) &&
    (List.range 64).any (fun k => !s.retained k && decide (bankOf c.load ≤ k) && decide (k ≤ bankOf (c.load + c.length - 1))))

/-- Step 3 of R426: the reload of those sections; false at a digest mismatch. -/
def State.reloadSections (s : State) : State × Bool :=
  s.reloadList.foldl (fun r c =>
    let bs := r.1.sectionBytes r.1.slotPart c
    if r.2 && decide (sha512 bs = c.digest) then ((r.1.storeWrite c.load bs reqFabric).1, true) else (r.1, false)) (s, true)

end Sys2Proof.Machine
end

