-- ==== Sys2Proof/Machine/Uplink.lean ====
section
/-!
DEFINITION. Uplink sections from their fetch to their packets (R253, R254, R264 to R273, R306), and the PRA packets of the PRACH
engines (R275 to R277).
-/

namespace Sys2Proof.Machine

/-! ### Fetch (R265, R266) -/

/-- The groups that an antenna-mode section exports, as a mask: those of BEAM[7:0], 0 for all, within PG_MASK (R268). -/
def exportGroups (beam pgMask : Nat) : Nat := (if beam % 256 = 0 then 255 else beam % 256) &&& pgMask

/-- The paths of a mask of groups. -/
def pathsIn (mask : Nat) : List Nat := (List.range 64).filter (fun p => bitOf mask (p / 8))

/-- Units of an uplink section in one symbol (R266). -/
def ulUnits (h : HeldSec) (pgMask : Nat) : Nat :=
  if h.bsrc = 2 then 12 * h.count * (pathsIn (exportGroups h.beam pgMask)).length else 12 * h.count

/-- An uplink section is dropped or admitted. -/
def State.admitUl (s : State) (h : HeldSec) (pgMask : Nat) (bad : Bool) (corr : List (Int × Int)) : State × Option UlSection :=
  if bad then (s.dropSection true 2 h, none)
  else
    let r := s.sectionWeights h reqUplink
    match r.2 with
    | .error e => (r.1.iff (e == 2) (fun s => s.dropSection true 2 h), none)
    | .ok w =>
      let t := r.1.takeUnits true h.air (ulUnits h pgMask)
      if t.2 then (t.1, some ⟨h, effWeights h.gain corr w⟩) else (t.1.dropSection true 3 h, none)

/-- The uplink sections of the symbol are admitted in rising SECTION_ID. -/
def State.admitUls (s : State) (hs : List HeldSec) (pgMask : Nat) (bad : HeldSec → Bool) (corr : List (Int × Int)) :
    State × List UlSection :=
  hs.foldl (fun r h =>
    let t := r.1.admitUl h pgMask (bad h) corr
    (t.1, r.2 ++ t.2.toList)) (s, [])

/-- The groups that act in direction class `f` at air time `a`, as a mask. -/
def State.groupsActing (s : State) (f : Nat → Bool) (a : Nat) : Nat :=
  let v := s.ttAt a
  bitsToNat ((List.range 8).map (fun g => f (v.actsAs g a)))

/-- The fetch of the uplink symbol of carrier `c` whose instant has come. In LIGHT SLEEP its sections produce nothing (R411), as in a
forced calibration slot (R350). -/
def State.fetchUl (s : State) (c : Nat) : State :=
  let t := s.fetchSymbol true c
  let a := t.2
  let hs := s.heldFor true c a
  if hs = [] then s.releaseSecs c a
  else if s.forcedSlot a ≠ 0 then (s.count Fld.CAL_FORCE_STAT_UL_DROP hs.length).consumeSymbol true c a
  else if s.light then s.consumeSymbol true c a
  else
    let words := ((s.copyAt true a).drop (3 * c)).take 3
    let secs := s.readAll reqUplink (s.secsOf hs)
    let r := secs.1.admitUls hs t.1.pgMask (fun h => secs.2.contains h.serial) (secs.1.corrections true a)
    let s := r.1
    let rx := s.groupsActing dirRx a &&& t.1.pgMask
    let stop := symStop t.1.scs a
    let job : UlJob := ⟨c, a, stop, t.1.scs, t.1.nprb, words, t.1.pgMask, rx, r.2⟩
    let s : State := { s with
      ul := { s.ul with jobs := s.ul.jobs ++ [job] }
      rf := { s.rf with rxSpans := s.rf.rxSpans ++ [(a, stop, rx)] } }
    s.consumeSymbol true c a

/-- UPLINK_FETCH: the fetch instant of an uplink symbol of the carrier. `upsets` are the store words hit before it. -/
def execUplinkFetch (carrier : Fin 8) (upsets : List StoreUpset) (s : State) : Out :=
  .next (let s := s.hits upsets
  if !s.chainRuns || !s.domOn pdCst then s else s.inOrder true carrier.val State.fetchUl)

/-! ### What the receive side was (R253, R254, R258) -/

/-- The logged grid symbols that meet the interval from `a` to `b`. -/
def State.logsIn (s : State) (a b : Nat) : List SymbolLog :=
  s.rf.log.filter (fun l => decide (l.air < b) && decide (a < s.nextBoundary l.air))

/-- Path `p` delivers zero throughout the logged symbols, and in some of them. -/
def zeroAll (ls : List SymbolLog) (p : Nat) : Bool := ls != [] && ls.all (fun l => l.zero p)
def zeroSome (ls : List SymbolLog) (p : Nat) : Bool := ls.any (fun l => l.zero p)

/-- FLAGS of R270 beside SAT and RESIDUE: LO_NOT_READY and FD_LIMIT. -/
def logFlags (ls : List SymbolLog) : Nat :=
  bit (ls.any (fun l => l.unready != 0)) + 8 * bit (ls.any (fun l => l.limit != 0))

/-- ZERO_PG: the groups that are not in `rx`, and those with a path that is zero in a logged symbol. -/
def zeroPg (rx : Nat) (ls : List SymbolLog) : Nat :=
  bitsToNat ((List.range 8).map (fun g => !bitOf rx g || (pathsOf g).any (zeroSome ls)))

/-- Saturations at stages 9 and 10 (R251). -/
def State.combSat (s : State) (n : Nat) : State :=
  if n = 0 then s else (s.count Fld.ULC_SATL_COMB n).eventOnce 0x6A 255 (0x3F + 256 * 3)

/-- A residue failure of the uplink (R264). -/
def State.ulResidue (s : State) (path carrier : Nat) : State :=
  (s.count Fld.ULC_DROPB_RESIDUE 1).event 0x6B (path + 64 * carrier)

/-- The uplink carrier of a job. -/
def UlJob.car (j : UlJob) : Carrier := carrierIn j.words true 0

/-- The sample that reaches stage 9 from path `p`: subcarrier `k` of job `j` (R263). -/
def State.jobSample (s : State) (j : UlJob) (p k : Nat) : Word :=
  if s.rxSilent p then 0 else cpxWord (s.rx8 j.carrier p j.car j.air k).1

/-- Saturations of path `p` in the symbol of job `j`: at stage 8, and in all at stages 1 to 8 (R251). -/
def State.jobSats8 (s : State) (j : UlJob) (p : Nat) : Nat := if s.rxSilent p then 0 else s.rx8Sats j.carrier p j.car j.air
def State.jobSats (s : State) (j : UlJob) (p : Nat) : Nat :=
  if s.rxSilent p then 0
  else s.adcSats p j.air j.stop + s.frontSats p j.air j.stop + s.rx7Sats j.carrier p j.car.step j.air j.stop + s.jobSats8 j p

/-! ### Compression (R269) -/

/-- The exponent of a block: the least for which every component fits `m` bits. -/
def blockExp (m : Nat) (vs : List Int) : Nat :=
  ((List.range 16).find? (fun e => vs.all (fun v => satInt m (roundHalfEven v e) == roundHalfEven v e))).getD 15

/-- A PRB of 12 subcarriers as a block. -/
def compress (m : Nat) (ys : List Word) : List Byte :=
  if m = 0 then wordsToBytes ((List.range 12).map (fun i => ys.getD i 0))
  else
    let vs := (List.range 12).flatMap (fun i => [(cpx (ys.getD i 0)).1, (cpx (ys.getD i 0)).2])
    let e := blockExp m vs
    leBytes 1 e ++ leBytes (3 * m) ((vs.zipIdx.map (fun v => toCode m (roundHalfEven v.1 e) * 2 ^ (v.2 * m))).sum)

/-! ### Packets (R270 to R272) -/

/-- A packet of an uplink chain before it is queued. -/
structure UlPacket where
  queue : Nat
  bytes : List Byte
  air : Nat
deriving DecidableEq, Repr

/-- The credits of the uplink region, and those that its packets occupy. -/
def State.uplinkCredits (s : State) : Nat := ((s.regionOfKind 2).map (fun r => r.2 / 256)).getD 0
def State.uplinkOccupancy (s : State) : Nat := ((List.range 10).map (fun i => (s.queue (16 + i)).occupancy)).sum

/-- A packet is queued, or counted as not produced (R272). -/
def State.produce (s : State) (p : UlPacket) : State :=
  if !s.linkIs lnkActive || !(s.queue p.queue).use then s.count Fld.ULC_DROPD_NOQUEUE 1
  else if s.uplinkCredits < s.uplinkOccupancy + creditsOf (pktLen p.bytes) then
    (s.count Fld.ULC_DROPC_REGION 1).event 0x6E p.queue
  else s.putPacket p.queue p.bytes p.air 0 reqUplink []

/-- LAST on the last packet of each queue (R271). -/
def markLast (ps : List UlPacket) : List UlPacket :=
  ps.zipIdx.map (fun x =>
    if (ps.drop (x.2 + 1)).any (fun y => y.queue == x.1.queue) then x.1
    else { x.1 with bytes := x.1.bytes.take 1 ++ leBytes 1 1 ++ x.1.bytes.drop 2 })

/-- PRBs per packet (R271). -/
def State.prbsPerPacket (s : State) (mant : Nat) : Nat := (s.fld Fld.QUE_STATUS_MAX_LEN - 8) / blockBytes mant

/-- The packets of one stream of blocks: `type`, queue, SUB, LAYER, FLAGS and ZERO_PG, PRBs from `first` in steps of `per`. -/
def streamPackets (type queue sub layer flags zpg scs carrier air first per : Nat) (blocks : List (List Byte)) : List UlPacket :=
  let n := if per = 0 then blocks.length else per
  let sym := symbolOf scs air
  let atag := mkAtag (frameOf air) (sym / 14) (sym % 14) carrier layer 0
  (List.range ((blocks.length + n - 1) / n)).map (fun j =>
    let bs := (blocks.drop (j * n)).take n
    let body := bs.flatten
    let pad := List.replicate ((4 - body.length % 4) % 4) (0 : Byte)
    ⟨queue, mkHeader type 0 queue sub (8 + body.length + pad.length) atag ++ leBytes 2 (first + j * n) ++ leBytes 2 bs.length ++
      leBytes 1 flags ++ leBytes 1 zpg ++ leBytes 2 0 ++ body ++ pad, air⟩)

/-- The blocks of a section's stream `y`, given by subcarrier of the carrier; PRBs outside the band of an SB symbol are zero (R306). -/
def sectionBlocks (band : Option (Nat × Nat)) (h : HeldSec) (y : Nat → Word) : List (List Byte) :=
  (List.range h.count).map (fun i =>
    let prb := h.first + i
    let ok := match band with
      | some (lo, n) => decide (lo ≤ prb) && decide (prb < lo + n)
      | none => true
    compress h.mant ((List.range 12).map (fun k => if ok then y (12 * prb + k) else 0)))

/-- The streams of an admitted section with their LAYER, each with its saturations: the combination over all paths (R267), or one per
exported port (R268). `x` gives the samples by path and subcarrier. -/
def sectionStreams (j : UlJob) (u : UlSection) (x : Nat → Nat → Word) (off : Bool) : List (Nat × (Nat → Word × Nat)) :=
  let term := fun p k => (cpx (x p k), u.weights.getD p (0, 0))
  if u.sec.bsrc = 2 then
    (pathsIn (exportGroups u.sec.beam j.groups)).map (fun p => (p, fun k => if off then (0, 0) else combine [term p k]))
  else [(u.sec.layer, fun k => if off then (0, 0) else combine ((List.range 64).map (fun p => term p k)))]

/-- The saturations of a section's streams. -/
def streamSats (h : HeldSec) (st : List (Nat × (Nat → Word × Nat))) : Nat :=
  (st.map (fun t => ((List.range (12 * h.count)).map (fun i => (t.2 (12 * h.first + i)).2)).sum)).sum

/-- The packets of a section, in port and PRB order. -/
def State.sectionPackets (s : State) (j : UlJob) (band : Option (Nat × Nat)) (u : UlSection) (st : List (Nat × (Nat → Word × Nat)))
    (flags : Nat → Nat) (zpg : Nat) : List UlPacket :=
  let ant := u.sec.bsrc == 2
  st.flatMap (fun t =>
    streamPackets (if ant then tySrs else tyUld) (if ant then 25 else 16 + j.carrier) u.sec.id t.1 (flags t.1) zpg j.scs j.carrier
      j.air u.sec.first (s.prbsPerPacket u.sec.mant) (sectionBlocks band u.sec (fun k => (t.2 k).1)))

/-- What was in force as the symbol of job `j` began: the groups that received, and those in an SB symbol, both within PG_MASK, and the
plan (R253, R306). -/
def State.jobSymbol (s : State) (j : UlJob) : Nat × Nat × List Word :=
  match s.rf.log.find? (fun l => decide (l.air ≤ j.air) && decide (j.air < s.nextBoundary l.air)) with
  | some l => (l.rx &&& j.groups, l.sb &&& j.groups, l.plan)
  | none => (j.rx, 0, [])

/-- The packets of a carrier symbol are built (R253, R254, R264, R267 to R272); `paths` have a residue failure at stage 7 or 8, `secs` at
stage 9. In an SB symbol only the full-duplex carrier's sections produce packets (R306). -/
def State.buildJob (s : State) (j : UlJob) (paths : List (Fin 64)) (secs : List Nat) : State :=
  let ls := s.logsIn j.air j.stop
  let v := s.jobSymbol j
  let plan := planOf v.2.2
  if v.2.1 ≠ 0 ∧ !(v.2.2 != [] && plan.carrier == j.carrier) then s
  else
    let band := if v.2.1 ≠ 0 then some (plan.ulStart, plan.ulNum) else none
    let dead := fun p => !bitOf v.1 (p / 8) || zeroAll ls p || paths.any (fun q => q.val == p)
    let y := s
    let x := fun p k => if dead p then 0 else y.jobSample j p k
    let zpg := zeroPg v.1 ls
    let bad := secs.filter (fun i => j.secs.any (fun u => u.sec.id == i))
    let residue := paths != [] || bad != []
    let s := bad.foldl (fun s _ => s.ulResidue 0x3F j.carrier) s
    let s := s.forEach 64 (fun s p => if dead p then s else s.frontSat p (y.jobSats8 j p))
    let work := j.secs.map (fun u =>
      let st := sectionStreams j u x (bad.contains u.sec.id)
      let n := streamSats u.sec st
      let flags := fun layer =>
        let hit := if u.sec.bsrc = 2 then y.jobSats j layer != 0 else (List.range 64).any (fun p => !dead p && y.jobSats j p != 0)
        logFlags ls + 2 * bit (n != 0 || hit) + 4 * bit residue
      (n, s.sectionPackets j band u st flags zpg))
    let s := work.foldl (fun s w => s.combSat w.1) s
    (markLast (work.flatMap (·.2))).foldl State.produce s

/-- UPLINK_PACKET_BUILD: the oldest symbol of the carrier that waits is combined or exported, compressed and queued. `paths` and `secs` are
the paths and the sections in which a residue check failed; a path's failure is counted whether or not a symbol waits (R264). -/
def execUplinkPacketBuild (carrier : Fin 8) (paths : List (Fin 64)) (secs : List Nat) (s : State) : Out :=
  let c := carrier.val
  .next (if !s.chainRuns || !s.domOn pdCst then s
  else
    let s := paths.foldl (fun s p => s.ulResidue p.val c) s
    match s.ul.jobs.find? (fun j => j.carrier == c) with
    | some j =>
      let s : State := { s with ul := { s.ul with jobs := s.ul.jobs.erase j } }
      if s.light then s else s.buildJob j paths secs
    | none => s)

/-- PACKET_AGE_DISCARD: the packet at the head of an uplink queue is past its age limit (R273). -/
def execPacketAgeDiscard (queue : Fin 32) (s : State) : Out :=
  let n := queue.val
  .next (match (s.queue n).pkts with
  | p :: ps =>
    if 16 ≤ n ∧ n < 26 ∧ s.fld Fld.ULC_AGE_MS ≠ 0 ∧ p.air + 122880 * s.fld Fld.ULC_AGE_MS < s.air then
      ((s.setQueue n { s.queue n with pkts := ps }).relevel n).count Fld.ULC_DROPC_AGED 1
    else s
  | [] => s)

/-! ### PRACH (R275 to R277) -/

/-- ⌈log₂ n⌉. -/
def log2Ceil (n : Nat) : Nat := ((List.range 8).find? (fun k => decide (n ≤ 2 ^ k))).getD 8

/-- The weights of beam-book entry `k` at air time `a`; with an uncorrectable word, what the engine uses is free: 64 words. -/
def State.praWeights (s : State) (k a : Nat) : State × List (Int × Int) :=
  match s.shadowFor k a with
  | some r => (s, weightsOf (r.drop 4))
  | none =>
    let r := s.storeRead (s.beamBase + 256 * k) 256 reqUplink
    if r.2.2 then (r.1, weightsOf r.2.1)
    else ({ r.1 with fresh := r.1.fresh + 64 },
      (List.range 64).map (fun i => cpx (Config.openWord (r.1.fresh + i))))

/-- One result of a beam: 139 words and their saturations; `x` gives the samples by repetition, path and index. -/
def praBeam (w : List (Int × Int)) (x : Nat → Nat → Word) : List (Word × Nat) :=
  (List.range 139).map (fun i => combine ((List.range 64).map (fun p => (cpx (x p i), w.getD p (0, 0)))))

/-- ACC: the repetitions of a beam summed and divided by 2^⌈log₂ NREP⌉. -/
def praSum (reps : List (List (Word × Nat))) : List (Word × Nat) :=
  let k := log2Ceil reps.length
  (List.range 139).map (fun i =>
    let cs := reps.map (fun r => cpx ((r.getD i (0, 0)).1))
    (cpxWord (roundHalfEven ((cs.map (·.1)).sum) k, roundHalfEven ((cs.map (·.2)).sum) k),
      (reps.map (fun r => (r.getD i (0, 0)).2)).sum))

/-- A PRA packet (R277). -/
def praPacket (e : Nat) (r : PraRun) (rep layer summed flags zpg : Nat) (zs : List Word) : UlPacket :=
  let atag := mkAtag (frameOf r.air) (symbolOf r.scs r.air / 14) rep (getField 30 28 r.cfg) layer 0
  ⟨24, mkHeader tyPra 0 24 e 564 atag ++ leBytes 2 139 ++ leBytes 1 summed ++ leBytes 1 0 ++ leBytes 1 flags ++ leBytes 1 zpg ++
    leBytes 2 0 ++ wordsToBytes zs, r.air⟩

/-- The packets of an occasion whose window has ended; with `bad` a residue check failed in it, and its output is zero. -/
def State.praBuild (s : State) (e : Nat) (r : PraRun) (bad : Bool) : State :=
  let carrier := getField 30 28 r.cfg
  let ls := s.logsIn r.start r.stop
  let rx := bitsToNat ((List.range 8).map (fun g => bitOf r.groups g && ls.all (fun l => bitOf l.rx g)))
  let some' := bitsToNat ((List.range 8).map (fun g => bitOf r.groups g && (ls == [] || ls.any (fun l => bitOf l.rx g))))
  let forced := ls.any (fun l => l.forced)
  let dead := fun p => forced || bad || !bitOf some' (p / 8) || zeroAll ls p
  let y := s
  let x := fun rep p i => if dead p || y.rxSilent p then (0 : Word) else cpxWord (y.praBin e p r.cfg r.start rep i).1
  let zpg := if forced then 255 else zeroPg rx ls
  let s := s.iff bad (fun s => s.ulResidue 0x3F carrier)
  let corr := s.corrections true r.air
  let bs := r.beams.foldl (fun (t : State × List (List (Int × Int))) k =>
    let w := t.1.praWeights k r.air
    (w.1, t.2 ++ [(List.range 64).map (fun p => effWeight 0 (corr.getD p (16384, 0)) (w.2.getD p (0, 0)))])) (s, [])
  let s := bs.1
  let reps := praReps r.cfg
  let acc := getField 24 24 r.cfg == 1
  let out := bs.2.map (fun w => (List.range reps).map (fun rep => praBeam w (x rep)))
  let out := if acc then out.map (fun b => [praSum b]) else out
  let sats := (out.map (fun b => (b.map (fun ys => (ys.map (·.2)).sum)).sum)).sum
  let s := s.combSat sats
  let sat := sats != 0 || (List.range 64).any (fun p => !dead p && y.adcSats p r.start r.stop + y.frontSats p r.start r.stop != 0)
  let flags := logFlags ls + 2 * bit sat + 4 * bit bad
  let n := if acc then 1 else reps
  let ps := (List.range n).flatMap (fun rep => out.zipIdx.map (fun b =>
    praPacket e r rep b.2 (if acc then reps else 1) flags zpg ((b.1.getD rep []).map (·.1))))
  ((markLast ps).foldl State.produce s).count (Fld.ULC_PRAe_STATUS_OCC e) 1

/-- PRACH_WINDOW_END: the capture window of an engine's occasion ends; `residue`: a residue check failed in it (R275, R277). In LIGHT SLEEP
nothing is produced (R411). -/
def execPrachWindowEnd (engine : Fin 4) (residue : Bool) (s : State) : Out :=
  let e := engine.val
  .next (match SMap.find s.ul.pra e with
  | some r =>
    let s : State := { s with ul := { s.ul with pra := SMap.erase s.ul.pra e } }
    if !s.chainRuns || !s.domOn pdCst || s.light then s else s.praBuild e r residue
  | none => s)

end Sys2Proof.Machine
end

