-- ==== Sys2Proof/Machine/Wake.lean ====
section
/-!
DEFINITION. The device wake (R423, R426 to R429, R435), cold restores (R427), and the end of a transition (R418).
-/

namespace Sys2Proof.Machine

/-! ### Cold restore (R427) -/

/-- The keep classes that a cold restore clears in the register at `a`: W and S fields take their reset values, DEV_STRAPS keeps its
latched value, the N fields of the PWR block are kept. -/
def coldClasses (a : Nat) : List Keep :=
  if a = Reg.DEV_STRAPS then [.n] else if domainOf a = some pdAon then [.w, .s] else [.n, .w, .s]

/-- A cold restore begins: a start from step 2 with RESET_KIND SOFT and `detail` in its BEGIN record, and event 0xF5 (R427). The
requests, rails and failing banks outlast it in PD_AON. -/
def State.coldRestore (s : State) (detail : Nat) : State :=
  let old := s.pwr
  let s := s.setFld Fld.PWR_WAKE_INFO_RESTORE (detail + 1)
  let s : State := { s with
    regs := resetRegs coldClasses s.regs
    store := []
    domains := [pdAon, pdCtl]
    air := 0
    pins := { s.pins with sysclk0 := 0, sysclk1 := 0 }
    boot := s.boot.restart .soft
    flashOps := []
    sec := SecState.idle s.sec.keySpent
    clk := ClkState.idle
    mspi := s.mspi.idle
    shadows := [] }
  let s := s.clearBlocks .soft
  let trans : Option PwrTrans := old.trans.map (fun t => { t with stage := 0 })
  let s : State := { s with pwr := { s.pwr with trans := trans, slot := old.slot, cold := detail, retFail := old.retFail,
                                                bell := old.bell, rejects := old.rejects, plannedWake := old.plannedWake } }
  let s := s.setFld Fld.BOOT_STATUS_STEP 2
  ((s.loadTrims true).senseFuses.settleIrq.showPower).event 0xF5 detail

/-! ### Wake stages (R423) -/

/-- The wake events of the Bell receiver, once the event unit runs (R434, R436). -/
def State.bellEvents (s : State) : State :=
  let s := match s.pwr.bell with
    | some (cmd, group, byGroup) => s.event 0xF7 (cmd + 256 * group + 65536 * bit byGroup)
    | none => s
  let now := s.fld Fld.PWR_BELL_COUNT_REJECT
  let s := if now ≠ s.pwr.rejects then s.event 0xF8 (now - s.pwr.rejects) else s
  { s with pwr := { s.pwr with bell := none } }

/-- PWR_WAKE_INFO at a wake from DEEP SLEEP or BELL WATCH: source, state left and target; one to LIGHT SLEEP has that request in the
pending slot (R428, R429). -/
def State.wakeInfo (s : State) (t : PwrTrans) (base : Nat) : State :=
  let light := match s.pwr.slot with
    | some r => r.target == 2 && r.requester == t.req.requester
    | none => false
  ((((s.count Fld.PWR_WAKE_INFO_COUNT 1).setFld Fld.PWR_WAKE_INFO_SOURCE t.req.requester).setFld Fld.PWR_WAKE_INFO_FROM base).setFld
    Fld.PWR_WAKE_INFO_TO (if light then 2 else 0)).setFld Fld.PWR_WAKE_INFO_RESTORE 0

/-- The transition goes on in stage `n`. -/
def State.toStage (s : State) (t : PwrTrans) (n : Nat) : State :=
  s.power (fun p => { p with trans := some { t with stage := n } })

/-- Stage 1 has ended: the rails are on. A wake from BELL WATCH is a cold restore (R435); after DEEP SLEEP PD_CTL and PD_SYN come on
and the root synthesiser is programmed. -/
def State.wakeOscillator (s : State) (t : PwrTrans) (base : Nat) : State :=
  let s := if t.aborted then s else s.wakeInfo t base
  if base = 4 then (s.coldRestore 1).bellEvents
  else if t.aborted then s.toStage t 2
  else
    let s := { (s.powerDomains [pdCtl, pdSyn]) with air := 0 }
    let s := if s.trimOk then s else (s.setFld Fld.CAL_STATUS_TRIM_BAD 1).event 0xC8 0
    State.toStage (s.programRoot (s.fld Fld.CLK_STATUS_REF_SEL)).senseFuses.settleIrq.bellEvents t 2

/-- Stage 2 has ended: the fabric runs on CTL, and the other domains come on (R423, R435). -/
def State.wakeMemory (s : State) (t : PwrTrans) : State :=
  let s := ((s.setFld Fld.CLK_STATUS_ROOT_LOCK 1).setFld Fld.CLK_STATUS_FABRIC_ON_ROOT 1).driveSysout
  State.toStage { (s.powerDomains dataDomains) with banksOff := [] } t 3

/-- Stage 3 (R169, R426): the banks are checked, the snapshot written back and the sections of banks that were not retained reloaded;
a failed snapshot bank or a digest mismatch leads to a cold restore. -/
def State.wakeRestore (s : State) (t : PwrTrans) : State :=
  let r := s.retentionCheck
  let s := r.1.dropBanks r.2.contains
  if r.2.contains 0 || r.2.contains 1 then State.coldRestore { s with pwr := { s.pwr with retFail := r.2 } } 2
  else
    let s := (s.wr Reg.BOOT_STATUS s.pwr.bootStatus).wr Reg.BOOT_IMAGE_VER s.pwr.imageVer
    let s := ((s.setFld Fld.CST_STATUS_READY 1).setFld Fld.PWR_WAKE_INFO_RESTORE (if t.aborted then s.fld Fld.PWR_WAKE_INFO_RESTORE else 1))
    let s := s.reportRetFail r.2
    let l := s.reloadSections
    if l.2 then ((l.1.takeMap l.1.imageMap).toStage t 4).wakeGroups (without s.pwr.was s.pwr.hot) else l.1.coldRestore 2

/-- Stage 5 has ended: the cores are released, and the device is in the state that the wake leads to, or that an aborted entry
left. A wake from LIGHT SLEEP goes on with the groups of its request (R418). -/
def State.wakeDone (s : State) (t : PwrTrans) (base : Nat) : State :=
  if base = 2 then
    let s := s.power (fun p => { p with base := some 0 })
    let t : PwrTrans := { t with stage := 0, waking := none }
    if t.req.target = 1 then s.napPart t.req t else s.toStage t 0
  else
    let s := s.startCores
    s.power (fun p => { p with
      base := some (if t.aborted ∧ t.left = 2 then 2 else 0), trans := some { t with stage := 0, waking := none } })

/-- No transaction of stage 1 is outstanding. -/
def PwrState.quiet (p : PwrState) : Bool := p.ops.all (fun o => match o with | .margin _ _ => true | _ => false)

/-- WAKE_STAGE_END: the ready signal of a device wake stage is present (R423). -/
def execWakeStageEnd (s : State) : Out :=
  .next (match s.pwr.trans with
  | some t =>
    match t.waking with
    | some base =>
      match t.stage with
      | 1 => if s.pwr.quiet then s.wakeOscillator t base else s
      | 2 => s.wakeMemory t
      | 3 => s.wakeRestore t
      | 4 => if s.pwr.wakes = [] ∧ s.pwr.quiet then s.toStage t 5 else s
      | 5 => s.wakeDone t base
      | _ => s
    | none => s
  | none => s)

/-- WAKE_STAGE_TIMER_EXPIRY: stage 2, 3 or 5 does not end in time: event 0xF2, then a SOFT reset, a cold restore, a SOFT reset (R423);
the timeouts of stages 1 and 4 are those of their transactions and groups. -/
def execWakeStageTimerExpiry (s : State) : Out :=
  .next (match s.pwr.trans with
  | some t =>
    if t.waking.isNone then s
    else if t.stage = 2 ∨ t.stage = 5 then (s.event 0xF2 t.stage).beginStart .soft
    else if t.stage = 3 then (s.event 0xF2 3).coldRestore 2
    else s
  | none => s)

/-! ### The end of a transition (R418) -/

/-- The transition has done all that it waits for. -/
def State.transDone (s : State) (t : PwrTrans) : Bool :=
  !t.waits && s.pwr.wakes == [] && s.pwr.quiet && s.pwr.base.isSome &&
    (t.stage == 0 || (t.stage == 4 && t.waking.isNone))

/-- The state that the transition leads to stands: PD_CTL and PD_SYN go off for a sleep (R412); else 0xF0 where STATE has changed
(R436). -/
def State.settleTrans (s : State) (t : PwrTrans) : State :=
  let s := { s with pwr := { s.pwr with trans := none } }
  if s.pwr.base = some 3 ∨ s.pwr.base = some 4 then State.showPower (State.settleIrq { s.dropControl with domains := [pdAon] })
  else
    let s := s.showPower
    if s.powerCode ≠ t.left then
      s.event 0xF0 (s.powerCode + 16 * t.left + 256 * t.req.requester + 65536 * s.groupsOn)
    else s

/-- A WARM that waited is performed, and drops the pending request (R441); else the pending request is taken (R418). -/
def State.afterTrans (s : State) : State :=
  if s.boot.warmWaits then
    let s := { s with boot := { s.boot with warmWaits := false }, pwr := { s.pwr with slot := none } }
    if s.domOn pdCtl then s.warmReset.startCores else s.showPower
  else match s.pwr.slot with
    | some r => ({ s with pwr := { s.pwr with slot := none } }.showPower).takeRequest r
    | none => s

/-- TRANSITION_END: a transition completes, and the pending request is taken; one that a start kept waiting is taken after step 13. -/
def execTransitionEnd (s : State) : Out :=
  .next (match s.pwr.trans with
  | some t => if s.transDone t then (s.settleTrans t).afterTrans else s
  | none => if s.pwr.base.isSome then s.afterTrans else s)

end Sys2Proof.Machine
end

