-- ==== Sys2Proof/Machine/Dispatch.lean ====
section
/-!
DEFINITION. The dispatch of a command to its meaning: one arm per constructor of `Instr`.
-/

namespace Sys2Proof.Machine

/-- The effect of a command on everything but the queue. -/
def exec (i : Instr) (s : State) : Host.Outcome State Fault Refusal :=
  match i with
  | .powerOnReset boardId flashMode detain refclk => Sys2Proof.Machine.execPowerOnReset boardId flashMode detain refclk s
  | .pinReset boardId flashMode detain refclk => Sys2Proof.Machine.execPinReset boardId flashMode detain refclk s
  | .vddIoUndervoltage boardId flashMode detain refclk => Sys2Proof.Machine.execVddIoUndervoltage boardId flashMode detain refclk s
  | .devCtrlSoft q data => Sys2Proof.Machine.execDevCtrlSoft q data s
  | .devCtrlWarm q data => Sys2Proof.Machine.execDevCtrlWarm q data s
  | .devCtrlErrClr q data => Sys2Proof.Machine.execDevCtrlErrClr q data s
  | .watchdogExpiry => Sys2Proof.Machine.execWatchdogExpiry s
  | .detainNAssert starts => Sys2Proof.Machine.execDetainNAssert starts s
  | .startFlashProbe fusesAgree flashId sfdp => Sys2Proof.Machine.execStartFlashProbe fusesAgree flashId sfdp s
  | .flashIdRetry flashId sfdp => Sys2Proof.Machine.execFlashIdRetry flashId sfdp s
  | .journalRecordReadback read => Sys2Proof.Machine.execJournalRecordReadback read s
  | .rootLockReached sfdpComplete => Sys2Proof.Machine.execRootLockReached sfdpComplete s
  | .rootLockStartTimeout => Sys2Proof.Machine.execRootLockStartTimeout s
  | .startThermalPoll t8 t9 limit => Sys2Proof.Machine.execStartThermalPoll t8 t9 limit s
  | .startSectionLoad failBanks => Sys2Proof.Machine.execStartSectionLoad failBanks s
  | .coreStartTimeout => Sys2Proof.Machine.execCoreStartTimeout s
  | .linkTimeout => Sys2Proof.Machine.execLinkTimeout s
  | .heartbeatGap => Sys2Proof.Machine.execHeartbeatGap s
  | .startCompletion => Sys2Proof.Machine.execStartCompletion s
  | .bootHeartbeatWrite q data => Sys2Proof.Machine.execBootHeartbeatWrite q data s
  | .bootCtrlClrAttempts q data => Sys2Proof.Machine.execBootCtrlClrAttempts q data s
  | .bootCtrlForceEn q data => Sys2Proof.Machine.execBootCtrlForceEn q data s
  | .lop7Erase q data => Sys2Proof.Machine.execLop7Erase q data s
  | .lop7Program q data => Sys2Proof.Machine.execLop7Program q data s
  | .lop7Read q data => Sys2Proof.Machine.execLop7Read q data s
  | .lop7UnitEnd outcome => Sys2Proof.Machine.execLop7UnitEnd outcome s
  | .lop8Verify q data => Sys2Proof.Machine.execLop8Verify q data s
  | .lop8UnitEnd => Sys2Proof.Machine.execLop8UnitEnd s
  | .applyProv q data => Sys2Proof.Machine.execApplyProv q data s
  | .advanceRb q data => Sys2Proof.Machine.execAdvanceRb q data s
  | .dbgChallenge q data => Sys2Proof.Machine.execDbgChallenge q data s
  | .dbgSubmit q data => Sys2Proof.Machine.execDbgSubmit q data s
  | .dbgLock q data => Sys2Proof.Machine.execDbgLock q data s
  | .procCmdEnd misread => Sys2Proof.Machine.execProcCmdEnd misread s
  | .challengeLapse => Sys2Proof.Machine.execChallengeLapse s
  | .lop6Attest q data unseals => Sys2Proof.Machine.execLop6Attest q data unseals s
  | .lop6UnitEnd => Sys2Proof.Machine.execLop6UnitEnd s
  | .clkPhaseGo q data => Sys2Proof.Machine.execClkPhaseGo q data s
  | .clkPhaseStepTick => Sys2Proof.Machine.execClkPhaseStepTick s
  | .aonOscTimeout => Sys2Proof.Machine.execAonOscTimeout s
  | .clkSysoutWrite q data => Sys2Proof.Machine.execClkSysoutWrite q data s
  | .rootLockLoss => Sys2Proof.Machine.execRootLockLoss s
  | .rootRelock => Sys2Proof.Machine.execRootRelock s
  | .mspiRead cmd addr crc late env => Sys2Proof.Machine.execMspiRead cmd addr crc late env s
  | .mspiWrite addr data crc late env => Sys2Proof.Machine.execMspiWrite addr data crc late env s
  | .mspiFrameAbort sent late env => Sys2Proof.Machine.execMspiFrameAbort sent late env s
  | .mspiDeferredAccessEnd env => Sys2Proof.Machine.execMspiDeferredAccessEnd env s
  | .postedStoreWrite => Sys2Proof.Machine.execPostedStoreWrite s
  | .registerWrite q addr data env => Sys2Proof.Machine.execRegisterWrite q addr data env s
  | .linkDownExit => Sys2Proof.Machine.execLinkDownExit s
  | .detectionTry term clk0 clk1 stable0 stable1 => Sys2Proof.Machine.execDetectionTry term clk0 clk1 stable0 stable1 s
  | .trainSettleEnd => Sys2Proof.Machine.execTrainSettleEnd s
  | .laneLock lane phase block skew idOk => Sys2Proof.Machine.execLaneLock lane phase block skew idOk s
  | .rxLockedSet => Sys2Proof.Machine.execRxLockedSet s
  | .deskewBlockRx lane payload => Sys2Proof.Machine.execDeskewBlockRx lane payload s
  | .bringupTimeout => Sys2Proof.Machine.execBringupTimeout s
  | .rollCallConclude => Sys2Proof.Machine.execRollCallConclude s
  | .switchBlockRx lane payload => Sys2Proof.Machine.execSwitchBlockRx lane payload s
  | .clkLoss bundle => Sys2Proof.Machine.execClkLoss bundle s
  | .blockLockLoss lane headers => Sys2Proof.Machine.execBlockLockLoss lane headers s
  | .ebufSlip bundle offset => Sys2Proof.Machine.execEbufSlip bundle offset s
  | .ebufWander bundle offset => Sys2Proof.Machine.execEbufWander bundle offset s
  | .lnkCtrlEnable q data => Sys2Proof.Machine.execLnkCtrlEnable q data s
  | .lnkCtrlRestart q data => Sys2Proof.Machine.execLnkCtrlRestart q data s
  | .lnkTestGo q data => Sys2Proof.Machine.execLnkTestGo q data s
  | .testEnd silent errors ui => Sys2Proof.Machine.execTestEnd silent errors ui s
  | .lnkTestChkEn q data => Sys2Proof.Machine.execLnkTestChkEn q data s
  | .lop9MarginScan q data => Sys2Proof.Machine.execLop9MarginScan q data s
  | .lop9UnitEnd counts => Sys2Proof.Machine.execLop9UnitEnd counts s
  | .dldReceive bundle afterControl cut bytes => Sys2Proof.Machine.execDldReceive bundle afterControl cut bytes s
  | .secReceive bundle afterControl cut bytes => Sys2Proof.Machine.execSecReceive bundle afterControl cut bytes s
  | .wgtReceive bundle afterControl cut bytes => Sys2Proof.Machine.execWgtReceive bundle afterControl cut bytes s
  | .timReceive bundle afterControl cut bytes jitter => Sys2Proof.Machine.execTimReceive bundle afterControl cut bytes jitter s
  | .mgqReceive bundle afterControl cut bytes => Sys2Proof.Machine.execMgqReceive bundle afterControl cut bytes s
  | .mgqRead env => Sys2Proof.Machine.execMgqRead env s
  | .mgqWrite env => Sys2Proof.Machine.execMgqWrite env s
  | .mgqModify env => Sys2Proof.Machine.execMgqModify env s
  | .mgqStartDeferred => Sys2Proof.Machine.execMgqStartDeferred s
  | .crdReceive bundle afterControl cut bytes => Sys2Proof.Machine.execCrdReceive bundle afterControl cut bytes s
  | .crdReconcile queue => Sys2Proof.Machine.execCrdReconcile queue s
  | .capReceive bundle afterControl cut bytes => Sys2Proof.Machine.execCapReceive bundle afterControl cut bytes s
  | .lbkReceive bundle afterControl cut bytes => Sys2Proof.Machine.execLbkReceive bundle afterControl cut bytes s
  | .lbkEcho => Sys2Proof.Machine.execLbkEcho s
  | .crdSend all => Sys2Proof.Machine.execCrdSend all s
  | .capSend ack => Sys2Proof.Machine.execCapSend ack s
  | .evtSend => Sys2Proof.Machine.execEvtSend s
  | .evtKeepalive => Sys2Proof.Machine.execEvtKeepalive s
  | .outboundPacketSend queue bundle upsets => Sys2Proof.Machine.execOutboundPacketSend queue bundle upsets s
  | .queFlush q data rx0 rx1 => Sys2Proof.Machine.execQueFlush q data rx0 rx1 s
  | .queuePointerMismatch queue rx0 rx1 => Sys2Proof.Machine.execQueuePointerMismatch queue rx0 rx1 s
  | .queCntClr q data => Sys2Proof.Machine.execQueCntClr q data s
  | .scrubRowRead => Sys2Proof.Machine.execScrubRowRead s
  | .cstEccInjWrite q data => Sys2Proof.Machine.execCstEccInjWrite q data s
  | .lop5Scrub q data => Sys2Proof.Machine.execLop5Scrub q data s
  | .lop5End => Sys2Proof.Machine.execLop5End s
  | .dmaGo ch q data => Sys2Proof.Machine.execDmaGo ch q data s
  | .descriptorFetch ch => Sys2Proof.Machine.execDescriptorFetch ch s
  | .dmaBurst ch errs => Sys2Proof.Machine.execDmaBurst ch errs s
  | .descriptorComplete ch => Sys2Proof.Machine.execDescriptorComplete ch s
  | .dmaPause ch q data => Sys2Proof.Machine.execDmaPause ch q data s
  | .dmaAbort ch q data => Sys2Proof.Machine.execDmaAbort ch q data s
  | .dmaResume ch q data => Sys2Proof.Machine.execDmaResume ch q data s
  | .dmaBusError ch ecc => Sys2Proof.Machine.execDmaBusError ch ecc s
  | .dmaResponseTimeout ch write => Sys2Proof.Machine.execDmaResponseTimeout ch write s
  | .alignEdge phase => Sys2Proof.Machine.execAlignEdge phase s
  | .syncLossTimeout => Sys2Proof.Machine.execSyncLossTimeout s
  | .atmSet q data => Sys2Proof.Machine.execAtmSet q data s
  | .atmSrcWrite q data => Sys2Proof.Machine.execAtmSrcWrite q data s
  | .timeStepApply => Sys2Proof.Machine.execTimeStepApply s
  | .alignOutPulse => Sys2Proof.Machine.execAlignOutPulse s
  | .timetableSymbol adc => Sys2Proof.Machine.execTimetableSymbol adc s
  | .ttSwapRequest q data => Sys2Proof.Machine.execTtSwapRequest q data s
  | .ttSwap => Sys2Proof.Machine.execTtSwap s
  | .downlinkFetch carrier upsets marks => Sys2Proof.Machine.execDownlinkFetch carrier upsets marks s
  | .bmbUpdGo q data => Sys2Proof.Machine.execBmbUpdGo q data s
  | .bmbPrefetchEnd => Sys2Proof.Machine.execBmbPrefetchEnd s
  | .bmbUpdateBoundary => Sys2Proof.Machine.execBmbUpdateBoundary s
  | .bmbWritebackEnd => Sys2Proof.Machine.execBmbWritebackEnd s
  | .atmPeerWrite index word q data => Sys2Proof.Machine.execAtmPeerWrite index word q data s
  | .jointOkChange => Sys2Proof.Machine.execJointOkChange s
  | .dlcCommit q data => Sys2Proof.Machine.execDlcCommit q data s
  | .dlcCommitInForce => Sys2Proof.Machine.execDlcCommitInForce s
  | .dlcIqSwap q data => Sys2Proof.Machine.execDlcIqSwap q data s
  | .dlcIqBankSwap => Sys2Proof.Machine.execDlcIqBankSwap s
  | .dlcCntClr q data => Sys2Proof.Machine.execDlcCntClr q data s
  | .ulcCommit q data => Sys2Proof.Machine.execUlcCommit q data s
  | .ulcCommitInForce => Sys2Proof.Machine.execUlcCommitInForce s
  | .ulcIqSwap q data => Sys2Proof.Machine.execUlcIqSwap q data s
  | .ulcIqBankSwap => Sys2Proof.Machine.execUlcIqBankSwap s
  | .ulcCntClr q data => Sys2Proof.Machine.execUlcCntClr q data s
  | .firSwapRequest c q data => Sys2Proof.Machine.execFirSwapRequest c q data s
  | .firBankSwap c => Sys2Proof.Machine.execFirBankSwap c s
  | .rssiWindowClose path => Sys2Proof.Machine.execRssiWindowClose path s
  | .rssiCfgWrite path q data => Sys2Proof.Machine.execRssiCfgWrite path q data s
  | .uplinkFetch carrier upsets => Sys2Proof.Machine.execUplinkFetch carrier upsets s
  | .uplinkPacketBuild carrier paths secs => Sys2Proof.Machine.execUplinkPacketBuild carrier paths secs s
  | .packetAgeDiscard queue => Sys2Proof.Machine.execPacketAgeDiscard queue s
  | .prachOccasion engine => Sys2Proof.Machine.execPrachOccasion engine s
  | .prachWindowEnd engine residue => Sys2Proof.Machine.execPrachWindowEnd engine residue s
  | .pdLoadWrite g q data => Sys2Proof.Machine.execPdLoadWrite g q data s
  | .pdLoadRead g q data => Sys2Proof.Machine.execPdLoadRead g q data s
  | .pdLoadEnd g => Sys2Proof.Machine.execPdLoadEnd g s
  | .pdSwapRequest g q data => Sys2Proof.Machine.execPdSwapRequest g q data s
  | .pdBankSwap g => Sys2Proof.Machine.execPdBankSwap g s
  | .seqModeOff g q data => Sys2Proof.Machine.execSeqModeOff g q data s
  | .seqModeAuto g q data => Sys2Proof.Machine.execSeqModeAuto g q data s
  | .seqModeSingle g q data => Sys2Proof.Machine.execSeqModeSingle g q data s
  | .orxCaptureStart g => Sys2Proof.Machine.execOrxCaptureStart g s
  | .orxCaptureEnd g orx => Sys2Proof.Machine.execOrxCaptureEnd g orx s
  | .intervalSkip g => Sys2Proof.Machine.execIntervalSkip g s
  | .capturePortRead g q => Sys2Proof.Machine.execCapturePortRead g q s
  | .correlatorEnd g residue => Sys2Proof.Machine.execCorrelatorEnd g residue s
  | .lop2PdCampaign q data => Sys2Proof.Machine.execLop2PdCampaign q data s
  | .lop2UnitEnd result iter before after => Sys2Proof.Machine.execLop2UnitEnd result iter before after s
  | .lop2Abort q data => Sys2Proof.Machine.execLop2Abort q data s
  | .kernelSwapRequest q data => Sys2Proof.Machine.execKernelSwapRequest q data s
  | .kernelBankSwap => Sys2Proof.Machine.execKernelBankSwap s
  | .corrClr path q data => Sys2Proof.Machine.execCorrClr path q data s
  | .compStaleTimeout g => Sys2Proof.Machine.execCompStaleTimeout g s
  | .linCntClr q data => Sys2Proof.Machine.execLinCntClr q data s
  | .sfdCommit q data => Sys2Proof.Machine.execSfdCommit q data s
  | .sfdCommitInForce => Sys2Proof.Machine.execSfdCommitInForce s
  | .sfdLoadWrite q data => Sys2Proof.Machine.execSfdLoadWrite q data s
  | .sfdLoadRead q data => Sys2Proof.Machine.execSfdLoadRead q data s
  | .sfdLoadCopyEnd => Sys2Proof.Machine.execSfdLoadCopyEnd s
  | .sfdLoadBoundary => Sys2Proof.Machine.execSfdLoadBoundary s
  | .sfdCapGo q data => Sys2Proof.Machine.execSfdCapGo q data s
  | .sfdCaptureStart => Sys2Proof.Machine.execSfdCaptureStart s
  | .sfdCaptureRecordEnd => Sys2Proof.Machine.execSfdCaptureRecordEnd s
  | .lop3SfdTraining q data => Sys2Proof.Machine.execLop3SfdTraining q data s
  | .lop3UnitEnd result caps before after => Sys2Proof.Machine.execLop3UnitEnd result caps before after s
  | .lop3Abort q data => Sys2Proof.Machine.execLop3Abort q data s
  | .sbSymbolEnd residue refFail => Sys2Proof.Machine.execSbSymbolEnd residue refFail s
  | .demotedClear g q data => Sys2Proof.Machine.execDemotedClear g q data s
  | .sfdCntClr q data => Sys2Proof.Machine.execSfdCntClr q data s
  | .bandWrite g q data => Sys2Proof.Machine.execBandWrite g q data s
  | .loRetuneGo g x q data => Sys2Proof.Machine.execLoRetuneGo g x q data s
  | .loFastLock g x => Sys2Proof.Machine.execLoFastLock g x s
  | .loFastLockTimeout g x => Sys2Proof.Machine.execLoFastLockTimeout g x s
  | .vcoCalEnd g x codes => Sys2Proof.Machine.execVcoCalEnd g x codes s
  | .vcoCalLockTimeout g x => Sys2Proof.Machine.execVcoCalLockTimeout g x s
  | .loPwrdn g x q data => Sys2Proof.Machine.execLoPwrdn g x q data s
  | .loselWrite g q data => Sys2Proof.Machine.execLoselWrite g q data s
  | .loPhaseGo g x q data => Sys2Proof.Machine.execLoPhaseGo g x q data s
  | .loPhasePiece g x => Sys2Proof.Machine.execLoPhasePiece g x s
  | .rffeGo g q data => Sys2Proof.Machine.execRffeGo g q data s
  | .rffeEntryStart g => Sys2Proof.Machine.execRffeEntryStart g s
  | .rffeEntryEnd g data parity => Sys2Proof.Machine.execRffeEntryEnd g data parity s
  | .rffeAbort g q data => Sys2Proof.Machine.execRffeAbort g q data s
  | .calArrGo q data => Sys2Proof.Machine.execCalArrGo q data s
  | .locLockEnd locked => Sys2Proof.Machine.execLocLockEnd locked s
  | .calSequenceEnd offset data => Sys2Proof.Machine.execCalSequenceEnd offset data s
  | .calForcedSlot => Sys2Proof.Machine.execCalForcedSlot s
  | .calForcedSlotEnd => Sys2Proof.Machine.execCalForcedSlotEnd s
  | .backgroundCalTimeout => Sys2Proof.Machine.execBackgroundCalTimeout s
  | .lop0End paths => Sys2Proof.Machine.execLop0End paths s
  | .calArrAbort q data => Sys2Proof.Machine.execCalArrAbort q data s
  | .calLoadGo q data => Sys2Proof.Machine.execCalLoadGo q data s
  | .calLoadCopyEnd => Sys2Proof.Machine.execCalLoadCopyEnd s
  | .calPointReplace => Sys2Proof.Machine.execCalPointReplace s
  | .calConvGo q data => Sys2Proof.Machine.execCalConvGo q data s
  | .lop1UnitEnd conv iq => Sys2Proof.Machine.execLop1UnitEnd conv iq s
  | .calSaveGo q data => Sys2Proof.Machine.execCalSaveGo q data s
  | .calSaveEnd outcome => Sys2Proof.Machine.execCalSaveEnd outcome s
  | .halt core cycles upset => Sys2Proof.Machine.execHalt core cycles upset s
  | .nop core cycles upset => Sys2Proof.Machine.execNop core cycles upset s
  | .wait core cycles upset => Sys2Proof.Machine.execWait core cycles upset s
  | .trapSw core cycles upset => Sys2Proof.Machine.execTrapSw core cycles upset s
  | .isync core cycles upset => Sys2Proof.Machine.execIsync core cycles upset s
  | .bset core cycles upset => Sys2Proof.Machine.execBset core cycles upset s
  | .bclr core cycles upset => Sys2Proof.Machine.execBclr core cycles upset s
  | .debug core cycles upset => Sys2Proof.Machine.execDebug core cycles upset s
  | .bra core cycles upset => Sys2Proof.Machine.execBra core cycles upset s
  | .call core cycles upset => Sys2Proof.Machine.execCall core cycles upset s
  | .ret core cycles upset => Sys2Proof.Machine.execRet core cycles upset s
  | .rti core cycles upset => Sys2Proof.Machine.execRti core cycles upset s
  | .braAn core cycles upset => Sys2Proof.Machine.execBraAn core cycles upset s
  | .loopImm core cycles upset => Sys2Proof.Machine.execLoopImm core cycles upset s
  | .loopReg core cycles upset => Sys2Proof.Machine.execLoopReg core cycles upset s
  | .rptImm core cycles upset => Sys2Proof.Machine.execRptImm core cycles upset s
  | .rptReg core cycles upset => Sys2Proof.Machine.execRptReg core cycles upset s
  | .moveImmediate core cycles upset => Sys2Proof.Machine.execMoveImmediate core cycles upset s
  | .registerMove core cycles upset => Sys2Proof.Machine.execRegisterMove core cycles upset s
  | .clr core cycles upset => Sys2Proof.Machine.execClr core cycles upset s
  | .mova core cycles upset => Sys2Proof.Machine.execMova core cycles upset s
  | .addAcc core cycles upset => Sys2Proof.Machine.execAddAcc core cycles upset s
  | .subAcc core cycles upset => Sys2Proof.Machine.execSubAcc core cycles upset s
  | .negAcc core cycles upset => Sys2Proof.Machine.execNegAcc core cycles upset s
  | .absAcc core cycles upset => Sys2Proof.Machine.execAbsAcc core cycles upset s
  | .cmpAcc core cycles upset => Sys2Proof.Machine.execCmpAcc core cycles upset s
  | .rnd core cycles upset => Sys2Proof.Machine.execRnd core cycles upset s
  | .sata core cycles upset => Sys2Proof.Machine.execSata core cycles upset s
  | .asl core cycles upset => Sys2Proof.Machine.execAsl core cycles upset s
  | .asr core cycles upset => Sys2Proof.Machine.execAsr core cycles upset s
  | .addr core cycles upset => Sys2Proof.Machine.execAddr core cycles upset s
  | .subr core cycles upset => Sys2Proof.Machine.execSubr core cycles upset s
  | .andAcc core cycles upset => Sys2Proof.Machine.execAndAcc core cycles upset s
  | .orAcc core cycles upset => Sys2Proof.Machine.execOrAcc core cycles upset s
  | .xorAcc core cycles upset => Sys2Proof.Machine.execXorAcc core cycles upset s
  | .norm core cycles upset => Sys2Proof.Machine.execNorm core cycles upset s
  | .adda core cycles upset => Sys2Proof.Machine.execAdda core cycles upset s
  | .suba core cycles upset => Sys2Proof.Machine.execSuba core cycles upset s
  | .addi core cycles upset => Sys2Proof.Machine.execAddi core cycles upset s
  | .parallelLoads core cycles upset => Sys2Proof.Machine.execParallelLoads core cycles upset s
  | .mac core cycles upset => Sys2Proof.Machine.execMac core cycles upset s
  | .msu core cycles upset => Sys2Proof.Machine.execMsu core cycles upset s
  | .mpy core cycles upset => Sys2Proof.Machine.execMpy core cycles upset s
  | .singleMoveLoad core cycles upset => Sys2Proof.Machine.execSingleMoveLoad core cycles upset s
  | .singleMoveStore core cycles upset => Sys2Proof.Machine.execSingleMoveStore core cycles upset s
  | .systemLoad core cycles upset => Sys2Proof.Machine.execSystemLoad core cycles upset s
  | .systemStore core cycles upset => Sys2Proof.Machine.execSystemStore core cycles upset s
  | .systemAccessComplete core cycles env => Sys2Proof.Machine.execSystemAccessComplete core cycles env s
  | .systemAccessTimeout core => Sys2Proof.Machine.execSystemAccessTimeout core s
  | .mbxrd core cycles upset => Sys2Proof.Machine.execMbxrd core cycles upset s
  | .mbxwr core cycles upset => Sys2Proof.Machine.execMbxwr core cycles upset s
  | .ring core cycles upset => Sys2Proof.Machine.execRing core cycles upset s
  | .cmac core cycles upset => Sys2Proof.Machine.execCmac core cycles upset s
  | .cmsu core cycles upset => Sys2Proof.Machine.execCmsu core cycles upset s
  | .cmpy core cycles upset => Sys2Proof.Machine.execCmpy core cycles upset s
  | .interruptTaken core => Sys2Proof.Machine.execInterruptTaken core s
  | .coreTimerExpiry core => Sys2Proof.Machine.execCoreTimerExpiry core s
  | .coreRstWrite core q data => Sys2Proof.Machine.execCoreRstWrite core q data s
  | .coreHaltReq core q data => Sys2Proof.Machine.execCoreHaltReq core q data s
  | .coreResume core q data => Sys2Proof.Machine.execCoreResume core q data s
  | .mbxInWrite core q data => Sys2Proof.Machine.execMbxInWrite core q data s
  | .mbxOutRead core q => Sys2Proof.Machine.execMbxOutRead core q s
  | .doorbellAdd core q data => Sys2Proof.Machine.execDoorbellAdd core q data s
  | .hkConversionEnd raw scaled off => Sys2Proof.Machine.execHkConversionEnd raw scaled off s
  | .triggeredEntryDue entry => Sys2Proof.Machine.execTriggeredEntryDue entry s
  | .guardConversionDue ch => Sys2Proof.Machine.execGuardConversionDue ch s
  | .hkUrgentRequest q data => Sys2Proof.Machine.execHkUrgentRequest q data s
  | .hkListWrite entry q data => Sys2Proof.Machine.execHkListWrite entry q data s
  | .hkPortRead q => Sys2Proof.Machine.execHkPortRead q s
  | .lop4Syscal q data => Sys2Proof.Machine.execLop4Syscal q data s
  | .eventRecord => Sys2Proof.Machine.execEventRecord s
  | .evtCntClr q data => Sys2Proof.Machine.execEvtCntClr q data s
  | .requestActive q data sources => Sys2Proof.Machine.execRequestActive q data sources s
  | .requestNap q data sources => Sys2Proof.Machine.execRequestNap q data sources s
  | .requestLightSleep q data sources => Sys2Proof.Machine.execRequestLightSleep q data sources s
  | .requestDeepSleep q data sources => Sys2Proof.Machine.execRequestDeepSleep q data sources s
  | .requestBellWatch q data sources => Sys2Proof.Machine.execRequestBellWatch q data sources s
  | .entryInstant thermal => Sys2Proof.Machine.execEntryInstant thermal s
  | .transitionEnd => Sys2Proof.Machine.execTransitionEnd s
  | .wakeStageEnd => Sys2Proof.Machine.execWakeStageEnd s
  | .wakeStageTimerExpiry => Sys2Proof.Machine.execWakeStageTimerExpiry s
  | .groupWakeStageEnd g => Sys2Proof.Machine.execGroupWakeStageEnd g s
  | .groupWakeTimeout g => Sys2Proof.Machine.execGroupWakeTimeout g s
  | .wakeNAssert => Sys2Proof.Machine.execWakeNAssert s
  | .qb0ClockWake => Sys2Proof.Machine.execQb0ClockWake s
  | .aonTimerExpiry => Sys2Proof.Machine.execAonTimerExpiry s
  | .mspiCsWake => Sys2Proof.Machine.execMspiCsWake s
  | .bellWord word => Sys2Proof.Machine.execBellWord word s
  | .ttLightMark row wake sources => Sys2Proof.Machine.execTtLightMark row wake sources s
  | .pmbAlert statuses => Sys2Proof.Machine.execPmbAlert statuses s
  | .powerGoodLoss die => Sys2Proof.Machine.execPowerGoodLoss die s
  | .vcoreTargetWrite q data => Sys2Proof.Machine.execVcoreTargetWrite q data s
  | .avsbusTransactionEnd avs ack status => Sys2Proof.Machine.execAvsbusTransactionEnd avs ack status s
  | .regulatorTimeout die status => Sys2Proof.Machine.execRegulatorTimeout die status s
  | .marginWrite q data => Sys2Proof.Machine.execMarginWrite q data s
  | .pwrVetoWrite q data => Sys2Proof.Machine.execPwrVetoWrite q data s
  | .pingIrqPulseEnd => Sys2Proof.Machine.execPingIrqPulseEnd s
  | .journalSectorEraseEnd => Sys2Proof.Machine.execJournalSectorEraseEnd s

end Sys2Proof.Machine
end

