-- ==== Sys2Proof/Machine/Tick.lean ====
section
/-!
DEFINITION. What one period of the HK clock does by itself: it is what a step does when no command waits (assumption 5).
-/

namespace Sys2Proof.Machine

/-- HK periods in one tick of the 32.768 kHz clock. -/
def hkPerAon : Nat := 3750

/-- The AON clock counts on through every state (R16). -/
def State.aonTick (s : State) : State :=
  if s.hkSub + 1 < hkPerAon then { s with hkSub := s.hkSub + 1 } else { s with hkSub := 0, aonTicks := s.aonTicks + 1 }

/-- The HK clock runs: from the first root lock on, while PD_CTL is on (R14, R15, R187). -/
def State.hkRuns (s : State) : Bool := s.domOn pdCtl && s.on Fld.CLK_STATUS_FABRIC_ON_ROOT

/-- AIR_COUNT rises by 1 (R187), and ALIGN_OUT stays high for its 8 ticks (R196). -/
def State.airTick (s : State) : State :=
  { s with air := (s.air + 1) % 2 ^ 64, time := { s.time with alignOut := s.time.alignOut - 1 } }

/-- The accumulator `k` takes the eight samples of 983.04 MSps that an HK period holds, each adding the word `freq`. -/
def State.ncoAdd (s : State) (k : Nat) (freq : Int) : State :=
  { s with nco := SMap.set 0 s.nco k ((SMap.get 0 s.nco k + toCode 32 (8 * freq)) % 2 ^ 32) }

/-- The NCOs of the carriers in force, of the PRACH engines and of the canceller's subband run on (R241, R260, R274, R308). -/
def State.ncoTick (s : State) : State :=
  let car := fun (s : State) (up : Bool) (k : Nat) => s.forEach 8 (fun s c =>
    let x := carrierIn (s.carriers up).inForce up c
    s.iff x.en (fun s => s.ncoAdd (k + c) x.freq))
  let s := s.iff (s.domOn pdDpx) (fun s => (car (car s false 0) true 8).forEach 4 (fun s e =>
    s.ncoAdd (16 + e) (s.ncoFreq (16 + e))))
  s.iff (s.planOn && s.domOn pdSfd) (fun s => s.ncoAdd 20 (s.ncoFreq 20))

/-- One HK period: the clocks count, the NCOs run, the front-end control edges of the new tick are driven (R335), the link
sends on (R141), and the test checkers count (R118). -/
def State.tick (s : State) : State :=
  let s := s.aonTick
  if s.hkRuns then s.airTick.ncoTick.runEdges.runSupplies.flightTick.checkerTick else s

end Sys2Proof.Machine
end

