-- ==== Sys2Proof/Machine/Step.lean ====
section
/-!
DEFINITION. One step of the device: the command at the front of the queue is taken and performed; with no command waiting, one HK
period passes (assumption 5).
-/

namespace Sys2Proof.Machine

/-- One step. -/
def step (s : State) : Host.Outcome State Fault Refusal :=
  match s.pending with
  | [] => .next s.tick
  | c :: rest => exec c { s with pending := rest }

/-- The state with the command that a word spells in front of the queue; the table gives no command bits, so none is spelled. -/
def State.withFetchWord (s : State) (nbits w : Nat) : State :=
  match decodeTableWord nbits w with
  | some c => { s with pending := c :: s.pending }
  | none => s

end Sys2Proof.Machine
end

