-- ==== Sys2Proof/Safety.lean ====
section
/-!
DEFINITION. What counts as a safe run of the device, and the terms in which the statements speak of a command's next
state: the registers it leaves, the events it raises, the records it owes, a device that has restarted.
-/

namespace Sys2Proof.Machine

/-- The step goes on. -/
def goesOn (o : Host.Outcome State Fault Refusal) : Prop := ∃ t, o = .next t

/-- A run of `k` steps from `s` is safe. -/
def SafeRun (k : Nat) (s : State) : Prop := goesOn (Host.Core.run Sys2Proof.core k s)

/-- Every register but those of the list `as` holds in `t` what it held in `s`. -/
def State.regsBut (s t : State) (as : List Nat) : Prop := ∀ a, a ∉ as → t.rd a = s.rd a

/-- `t` differs from `s` in the registers of the list `as` alone. -/
def State.onlyRegs (s t : State) (as : List Nat) : Prop := t = { s with regs := t.regs } ∧ s.regsBut t as

/-- Store, flash and fuse array are in canonical form: addresses strictly rise, and no entry equals what an unlisted one reads as. -/
def State.memoriesCanonical (s : State) : Bool := SMap.wf 0 s.store && SMap.wf 0xFF#8 s.flash && SMap.wf 0 s.fuses

/-- The event unit takes one more occurrence: PD_CTL is on and the raise FIFO has room for `n` (R405). -/
def State.raiseRoom (s : State) (n : Nat) : Prop := s.domOn pdCtl = true ∧ s.raise.length + n ≤ 64

/-- An occurrence of an event at the AIR_COUNT of `s` (R405). -/
def State.occurrence (s : State) (code info : Nat) : EventRec := ⟨code, BitVec.ofNat 32 info, s.air⟩

/-- No earlier access stands before one by `q`: through MSPI, the slave answers, the fabric is open, and nothing is posted, held or
about to reset the device (R25, R30, R33 to R36, R40). -/
def State.inTurn (s : State) (q : Requester) : Prop :=
  q = .mspi → s.mspiUp = true ∧ s.fabricOpen = true ∧ s.mspi.held = none ∧ s.mspi.posted = [] ∧ s.boot.afterMspi = none

/-- An access by `q` at `a` is performed with its effect alone: nothing stands before it, and the fabric judges it OK (R477). -/
def State.passes (s : State) (q : Requester) (a : Nat) (write : Bool) : Prop := s.inTurn q ∧ s.judge q a write = stOk

/-- The registers in which storing or consuming packets of queue `n` shows (R135, R141, R405). -/
def queueRegs (n : Nat) : List Nat :=
  [Reg.QUE_LEVELn n, Reg.QUE_WMn n, Reg.QUE_COUNTn n, Reg.QUE_GRANTn n, Reg.EVT_DROP]

/-- The journal record `r` is being programmed or waits to be (R59). -/
def State.owesRecord (s : State) (r : JournalReq) : Prop := r ∈ s.boot.waiting ∨ ∃ w, s.boot.writing = some w ∧ w.req = r

/-- What a start attempt that has failed leaves: the cause kept, and a FAIL record owed that a SOFT restart follows
(R57, R61). -/
def State.attemptLost (s t : State) (cause : Nat) : Prop :=
  t = { s with boot := t.boot } ∧ t.boot.cache.cause = cause ∧ t.boot.cache.causeKnown = true ∧
  t.owesRecord ⟨2, s.fld Fld.BOOT_ATTEMPTS_COUNT, cause, s.fld Fld.BOOT_STATUS_STEP, 0, .restart, []⟩

/-- What every reset but WARM leaves of the blocks (R440): memories, queues, channels and long operations empty, AIR_COUNT
0, the link DOWN, only PD_AON and PD_CTL on. -/
def State.blocksEmpty (t : State) : Prop :=
  t.domains = [pdAon, pdCtl] ∧ t.store = [] ∧ t.ecc = [] ∧ t.air = 0 ∧ t.queues = [] ∧ t.dma = [] ∧ t.flashOps = [] ∧
  t.cores = [] ∧ t.lin = LinState.idle ∧ t.sfd = SfdState.idle ∧ t.rf = RfState.idle ∧ t.cal = CalState.idle ∧
  t.link = LinkState.idle ∧ t.dlc = CarrierState.idle ∧ t.ulc = CarrierState.idle ∧ t.ul = UplinkState.idle ∧
  t.hk = HkState.idle ∧ t.shadows = [] ∧ t.time = AirState.idle ∧ t.smp = SampleState.idle ∧ t.nco = [] ∧ t.mspi.held = none ∧
  t.mspi.posted = []

/-! ### A signal processor's instruction -/

/-- Core `c` executes the word `w` next: PD_DSP is on, the core runs, no access stalls it, no halt is asked for, and the word lies
in its program memory (R363, R379, R382). -/
def State.coreReady (s : State) (c : Nat) (w : Word) : Prop :=
  s.domOn pdDsp = true ∧ s.coreStopped c = false ∧ s.coreState c = coreRun ∧ (s.core c).sys = none ∧
  s.on (Fld.CORE_CTRL_HALT_REQ c) = false ∧ (s.core c).next = w ∧ ((s.core c).fetches = true → (s.core c).pc < progWords c)

/-- Core `c` is left as `y` after `n` cycles; beside it and its cycle count only the registers of `as` may differ, and how many free
values the model has used. -/
def State.coreRuns (s t : State) (c n : Nat) (y : CoreState) (as : List Nat) : Prop :=
  t.core c = y ∧ (∀ d, d ≠ c → t.core d = s.core d) ∧ t = { s with regs := t.regs, cores := t.cores, fresh := t.fresh } ∧
  (t.rd (Reg.CORE_CYCLES_LO c)).toNat + 2 ^ 32 * (t.rd (Reg.CORE_CYCLES_HI c)).toNat =
    ((s.rd (Reg.CORE_CYCLES_LO c)).toNat + 2 ^ 32 * (s.rd (Reg.CORE_CYCLES_HI c)).toNat + n) % 2 ^ 64 ∧
  s.regsBut t (Reg.CORE_CYCLES_LO c :: Reg.CORE_CYCLES_HI c :: as)

/-- The instruction at the PC ends the innermost loop's body (R376). -/
def CoreState.atBodyEnd (x : CoreState) : Bool :=
  match x.loops with
  | f :: _ => f.depth == x.stack.length && f.last == x.pc
  | [] => false

/-- A branch, call or return to `a` from the word `w`: the loops that it leaves close, and the queue is empty (R375, R376). -/
def CoreState.jumps (x : CoreState) (c : Nat) (w : Word) (a : Nat) : CoreState :=
  { x.record w with loops := closeLoops x.stack.length a (x.record w).loops }.goTo c a

/-- Core `c` has trapped (R380): PC and SR pushed, TL set and IE clear, CORE_TRAP loaded, execution at 0x0004, and the event raised. -/
def State.coreTraps (s t : State) (c n cause info : Nat) (e : EventRec) (as : List Nat) : Prop :=
  t.core c = { s.core c with
    stack := ((s.core c).pc, some (s.core c).sr) :: (s.core c).stack, srMoved := false, sys := none
    sr := setBitOf (setBitOf (s.core c).sr srTl true) srIe false }.goTo c 4 ∧
  (∀ d, d ≠ c → t.core d = s.core d) ∧ t.fld (Fld.CORE_TRAP_CAUSE c) = cause ∧ t.fld (Fld.CORE_TRAP_INFO c) = info ∧
  t.fld (Fld.CORE_TRAP_PC c) = (s.core c).pc % 65536 ∧ t.raise = s.raise ++ [e] ∧
  t = { s with regs := t.regs, cores := t.cores, raise := t.raise } ∧
  (t.rd (Reg.CORE_CYCLES_LO c)).toNat + 2 ^ 32 * (t.rd (Reg.CORE_CYCLES_HI c)).toNat =
    ((s.rd (Reg.CORE_CYCLES_LO c)).toNat + 2 ^ 32 * (s.rd (Reg.CORE_CYCLES_HI c)).toNat + n) % 2 ^ 64 ∧
  s.regsBut t (Reg.CORE_CYCLES_LO c :: Reg.CORE_CYCLES_HI c :: Reg.CORE_TRAP c :: as)

/-- A result `z` in accumulator `d`: modulo 2 ^ 56, or with SAT 1 clamped to ±1.0 of Q1.47, which sets CL; V, Z and N are the
result's, and C is `b` (R369, R370, R385). -/
def CoreState.takes (x : CoreState) (d : Nat) (z : Int) (b : Bool) : CoreState :=
  let v := if x.flag srSat then max (-2 ^ 47) (min (2 ^ 47 - 1) z) else z
  (((((x.setFlag srCl (x.flag srCl || decide (x.flag srSat = true ∧ v ≠ z))).setAcc d (toCode 56 v)).setFlag srC b).setFlag srV
    (decide (sext 56 (toCode 56 v) < -2 ^ 47 ∨ 2 ^ 47 ≤ sext 56 (toCode 56 v)))).setFlag srZ (toCode 56 v == 0)).setFlag srN
    (decide (sext 56 (toCode 56 v) < 0))

/-- The requester and the address of a command that is a write by software. -/
def writes : Instr → Option (Requester × Nat)
  | .devCtrlSoft q _ => some (q, Reg.DEV_CTRL)
  | .devCtrlWarm q _ => some (q, Reg.DEV_CTRL)
  | .devCtrlErrClr q _ => some (q, Reg.DEV_CTRL)
  | .bootHeartbeatWrite q _ => some (q, Reg.BOOT_HEARTBEAT)
  | .bootCtrlClrAttempts q _ => some (q, Reg.BOOT_CTRL)
  | .bootCtrlForceEn q _ => some (q, Reg.BOOT_CTRL)
  | .lop7Erase q _ => some (q, Reg.BOOT_FL_CTRL)
  | .lop7Program q _ => some (q, Reg.BOOT_FL_CTRL)
  | .lop7Read q _ => some (q, Reg.BOOT_FL_CTRL)
  | .lop8Verify q _ => some (q, Reg.BOOT_VERIFY_CTRL)
  | .applyProv q _ => some (q, Reg.PROC_CMD)
  | .advanceRb q _ => some (q, Reg.PROC_CMD)
  | .dbgChallenge q _ => some (q, Reg.PROC_CMD)
  | .dbgSubmit q _ => some (q, Reg.PROC_CMD)
  | .dbgLock q _ => some (q, Reg.PROC_CMD)
  | .lop6Attest q _ _ => some (q, Reg.PROC_ATT_CTRL)
  | .clkPhaseGo q _ => some (q, Reg.CLK_PHASE)
  | .clkSysoutWrite q _ => some (q, Reg.CLK_SYSOUT)
  | .lnkCtrlEnable q _ => some (q, Reg.LNK_CTRL)
  | .lnkCtrlRestart q _ => some (q, Reg.LNK_CTRL)
  | .lnkTestGo q _ => some (q, Reg.LNK_TEST)
  | .lnkTestChkEn q _ => some (q, Reg.LNK_TEST)
  | .lop9MarginScan q _ => some (q, Reg.LNK_MARGIN_CTRL)
  | .queFlush q _ _ _ => some (q, Reg.QUE_FLUSH)
  | .queCntClr q _ => some (q, Reg.QUE_CTRL)
  | .cstEccInjWrite q _ => some (q, Reg.CST_ECC_INJ)
  | .lop5Scrub q _ => some (q, Reg.CST_SCRUB_CTRL)
  | .dmaGo c q _ => some (q, Reg.DMA_CHn_CTRL c.val)
  | .dmaPause c q _ => some (q, Reg.DMA_CHn_CTRL c.val)
  | .dmaAbort c q _ => some (q, Reg.DMA_CHn_CTRL c.val)
  | .dmaResume c q _ => some (q, Reg.DMA_CHn_CTRL c.val)
  | .atmSet q _ => some (q, Reg.ATM_CTRL)
  | .atmSrcWrite q _ => some (q, Reg.ATM_SYNC_CTRL)
  | .ttSwapRequest q _ => some (q, Reg.ATM_TT_CTRL)
  | .bmbUpdGo q _ => some (q, Reg.BMB_UPD_CTRL)
  | .atmPeerWrite i w q _ => some (q, Reg.ATM_PEERk_W0 i.val + 4 * w.val)
  | .dlcCommit q _ => some (q, Reg.DLC_CTRL)
  | .dlcIqSwap q _ => some (q, Reg.DLC_CTRL)
  | .dlcCntClr q _ => some (q, Reg.DLC_CTRL)
  | .ulcCommit q _ => some (q, Reg.ULC_CTRL)
  | .ulcIqSwap q _ => some (q, Reg.ULC_CTRL)
  | .ulcCntClr q _ => some (q, Reg.ULC_CTRL)
  | .firSwapRequest c q _ => some (q, Reg.ULC_CARc_FIR_CTRL c.val)
  | .rssiCfgWrite p q _ => some (q, Reg.ULC_PATHp_RSSI_CFG p.val)
  | .pdLoadWrite g q _ => some (q, Reg.LIN_PGg_LOAD_CTRL g.val)
  | .pdLoadRead g q _ => some (q, Reg.LIN_PGg_LOAD_CTRL g.val)
  | .pdSwapRequest g q _ => some (q, Reg.LIN_PGg_SWAP_CTRL g.val)
  | .lop2PdCampaign q _ => some (q, Reg.LIN_LOP2_CTRL)
  | .lop2Abort q _ => some (q, Reg.LIN_LOP2_CTRL)
  | .kernelSwapRequest q _ => some (q, Reg.LIN_CTRL)
  | .corrClr p q _ => some (q, Reg.LIN_PATHp_LOOP_CFG p.val)
  | .linCntClr q _ => some (q, Reg.LIN_CTRL)
  | .sfdCommit q _ => some (q, Reg.SFD_CTRL)
  | .sfdLoadWrite q _ => some (q, Reg.SFD_LOAD_CTRL)
  | .sfdLoadRead q _ => some (q, Reg.SFD_LOAD_CTRL)
  | .sfdCapGo q _ => some (q, Reg.SFD_CAP_CTRL)
  | .lop3SfdTraining q _ => some (q, Reg.SFD_LOP3_CTRL)
  | .lop3Abort q _ => some (q, Reg.SFD_LOP3_CTRL)
  | .demotedClear g q _ => some (q, Reg.SFD_PGg_STATUS g.val)
  | .sfdCntClr q _ => some (q, Reg.SFD_CTRL)
  | .bandWrite g q _ => some (q, Reg.RFE_PGg_CFG g.val)
  | .loRetuneGo g x q _ => some (q, Reg.RFE_PGg_LOx_CTRL g.val x.val)
  | .loPwrdn g x q _ => some (q, Reg.RFE_PGg_LOx_CTRL g.val x.val)
  | .loselWrite g q _ => some (q, Reg.RFE_PGg_LOSEL g.val)
  | .loPhaseGo g x q _ => some (q, Reg.RFE_PGg_LOx_PHASE g.val x.val)
  | .rffeGo g q _ => some (q, Reg.RFE_PGg_RFFE_CTRL g.val)
  | .rffeAbort g q _ => some (q, Reg.RFE_PGg_RFFE_CTRL g.val)
  | .calArrGo q _ => some (q, Reg.CAL_ARR_CTRL)
  | .calArrAbort q _ => some (q, Reg.CAL_ARR_CTRL)
  | .calLoadGo q _ => some (q, Reg.CAL_LOAD_CTRL)
  | .calConvGo q _ => some (q, Reg.CAL_CONV_CTRL)
  | .calSaveGo q _ => some (q, Reg.CAL_SAVE_CTRL)
  | .coreRstWrite c q _ => some (q, Reg.CORE_CTRL c.val)
  | .coreHaltReq c q _ => some (q, Reg.CORE_CTRL c.val)
  | .coreResume c q _ => some (q, Reg.CORE_CTRL c.val)
  | .mbxInWrite c q _ => some (q, Reg.MBX_IN c.val)
  | .doorbellAdd c q _ => some (q, Reg.CORE_DOORBELL c.val)
  | .hkUrgentRequest q _ => some (q, Reg.HK_URG)
  | .lop4Syscal q _ => some (q, Reg.HK_SYSCAL_CTRL)
  | .evtCntClr q _ => some (q, Reg.EVT_CTRL)
  | .vcoreTargetWrite q _ => some (q, Reg.PWR_VCORE)
  | .marginWrite q _ => some (q, Reg.PWR_REG_CFG)
  | .pwrVetoWrite q _ => some (q, Reg.PWR_VETO)
  | .registerWrite q a _ _ => some (q, a.toNat)
  | _ => none

end Sys2Proof.Machine
end

