-- ==== Sys2Proof/Certificates/Slice0/Obligations.lean ====
section
/-!
DEFINITION. The statements about the device, for the provers. A statement about a command says that the command goes on, what the
state it leaves holds, and what it leaves as it was.
-/

open Sys2Proof Sys2Proof.Machine

/-- For every command c, queue rest and state s, a step of s with c in front of its queue is exec c on s with the rest of
the queue. Each of the 302 commands, with any operands and in any state, completes: exec answers a next state, never a
fault and never a refusal, so the step with it in front answers one too. (spec/95_what_each_step_holds.md) -/
def Obligations.StepTakesTheFrontCommand : Prop :=
  (∀ (c : Instr) (rest : List Instr) (s : State),
      Machine.step { s with pending := c :: rest } = exec c { s with pending := rest }) ∧
    (∀ (c : Instr) (s : State), ∃ t, exec c s = .next t) ∧
    (∀ (c : Instr) (rest : List Instr) (s : State), ∃ t, Machine.step { s with pending := c :: rest } = .next t)

/-- With DETAIN_N high and REFCLK present, a power-on reset, a PIN reset, a VDD_IO undervoltage, a SOFT reset asked for by
a requester that gets no MGA and a watchdog expiry each leave the blocks as R440 has them (store, queues, channels,
cores, banks, AIR_COUNT, link), the straps as R37 latches them (POR and PIN only), the reset kind in DEV_RESET_INFO
(R437), and the start at step 2 (step 1 has passed, R62) and not in Detention mode. Without REFCLK the start stays
before step 1 and the MSPI slave does not answer (R40). A SOFT or WARM that Proctor itself writes is DENIED (R36). Part
of R36, R40, R440, R437 and R62. (spec/17_resets_and_limits.md, spec/02_start_and_image.md) -/
def Obligations.AColdResetEmptiesTheBlocks : Prop :=
  ∀ (b : Fin 8) (f : Fin 4) (k : Nat) (q : Requester) (d : Word) (s : State),
    (∃ t, exec (.powerOnReset b f 0 true) s = .next t ∧ t.blocksEmpty ∧ t.fld Fld.BOOT_STATUS_STEP = 2 ∧
      t.on Fld.BOOT_STATUS_DETAINED = false ∧ t.boot.kind = .por ∧ t.rd Reg.DEV_RESET_INFO = 0 ∧ t.aonTicks = 0 ∧
      t.boot.dir = none ∧ t.fld Fld.DEV_STRAPS_BOARD_ID = b.val ∧ t.fld Fld.DEV_STRAPS_FLASH_MODE = f.val) ∧
    (∃ t, exec (.powerOnReset b f k false) s = .next t ∧ t.blocksEmpty ∧ t.fld Fld.BOOT_STATUS_STEP = 0 ∧ t.mspiUp = false) ∧
    (∃ t, exec (.pinReset b f 0 true) s = .next t ∧ t.blocksEmpty ∧ t.fld Fld.BOOT_STATUS_STEP = 2 ∧
      t.on Fld.BOOT_STATUS_DETAINED = false ∧ t.boot.kind = .pin ∧ t.fld Fld.DEV_RESET_INFO_KIND = 1 ∧
      t.fld Fld.DEV_RESET_INFO_COUNT = min 65535 (s.fld Fld.DEV_RESET_INFO_COUNT + 1) ∧ t.aonTicks = s.aonTicks ∧
      t.fld Fld.DEV_STRAPS_BOARD_ID = b.val ∧ t.fld Fld.DEV_STRAPS_FLASH_MODE = f.val ∧
      exec (.vddIoUndervoltage b f 0 true) s = .next t) ∧
    (s.pins.detain = 0 → s.pins.refclk = true → s.passes q Reg.DEV_CTRL true → q ≠ .mgq → q ≠ .proctor →
      ∃ t, exec (.devCtrlSoft q d) s = .next t ∧ t.blocksEmpty ∧ t.fld Fld.BOOT_STATUS_STEP = 2 ∧
        t.boot.kind = .soft ∧ t.fld Fld.DEV_RESET_INFO_KIND = 2 ∧
        t.fld Fld.BOOT_ATTEMPTS_COUNT = s.fld Fld.BOOT_ATTEMPTS_COUNT ∧
        t.fld Fld.DEV_STRAPS_BOARD_ID = s.fld Fld.DEV_STRAPS_BOARD_ID) ∧
    (s.pins.detain = 0 → s.pins.refclk = true → s.on Fld.BOOT_STATUS_COMPLETE = true → s.fld Fld.BOOT_STATUS_STEP = 16 →
      s.fld Fld.PWR_STATUS_STATE ≤ 2 → s.deanDebugHalted = false →
      ∃ t, exec .watchdogExpiry s = .next t ∧ t.blocksEmpty ∧ t.fld Fld.BOOT_STATUS_STEP = 2 ∧
        t.boot.kind = .watchdog ∧ t.fld Fld.DEV_RESET_INFO_KIND = 3 ∧
        t.fld Fld.DEV_STRAPS_BOARD_ID = s.fld Fld.DEV_STRAPS_BOARD_ID) ∧
    (∀ c : Instr, c = .devCtrlSoft .proctor d ∨ c = .devCtrlWarm .proctor d → s.passes .proctor Reg.DEV_CTRL true →
      ∃ t, exec c s = .next t ∧ t.fld Fld.DEV_MERR_INFO_STATUS = stDenied ∧ t.rd Reg.DEV_MERR_ADDR = BitVec.ofNat 32 Reg.DEV_CTRL ∧
        s.onlyRegs t [Reg.DEV_MERR_ADDR, Reg.DEV_MERR_INFO])

/-- After a POR and after a PIN reset with DETAIN_N high, every register holds its reset value in the fields of the keep
classes that R440 names for that kind and its old value in its other bits; apart from the registers that the reset or
the start itself loads: the boot, reset, strap, Proctor and power status, the calibration selection registers and their
status, and the bell address. With no fuse command and no flash work in progress the fuses and the flash stay as they
are. Part of R440. (spec/17_resets_and_limits.md) -/
def Obligations.AResetReturnsRegisterFieldsByKeepClass : Prop :=
  ∀ (b : Fin 8) (f : Fin 4) (s : State) (a : Nat),
    a ∉ [Reg.BOOT_STATUS, Reg.DEV_RESET_INFO, Reg.DEV_STRAPS, Reg.PROC_STATUS, Reg.PWR_STATUS, Reg.PWR_PG_STATUS, Reg.CAL_STATUS,
      Reg.PWR_BELL_ADDR] →
    (a < 0x340000 ∨ 0x340464 ≤ a) → s.sec.running = none → s.boot.writing = none → s.boot.erasing = false → s.flashOps = [] →
    (∃ t, exec (.powerOnReset b f 0 true) s = .next t ∧
      t.rd a = (s.rd a &&& ~~~keepMask [.n, .w, .s, .p] a) ||| (resetWord a &&& keepMask [.n, .w, .s, .p] a) ∧
      t.fuses = s.fuses ∧ t.flash = s.flash ∧ t.pending = s.pending) ∧
    (∃ t, exec (.pinReset b f 0 true) s = .next t ∧
      t.rd a = (s.rd a &&& ~~~keepMask [.n, .w, .s] a) ||| (resetWord a &&& keepMask [.n, .w, .s] a) ∧
      t.fuses = s.fuses ∧ t.flash = s.flash ∧ t.pending = s.pending)

/-- DETAIN_N held low for 10 microseconds forces Detention mode with cause FORCED_BY_PIN (0x0D): activity stops as at a
SOFT reset (the blocks empty, kind SOFT, only PD_AON, PD_CTL, PD_SYN and PD_LNK on, the link enabled),
BOOT_ATTEMPTS.COUNT stays, and the start stands at step 1. A start that finds DETAIN_N low, after a POR or a PIN reset,
ends in Detention mode at step 1 with the same cause. (R60) -/
def Obligations.DetainPinForcesDetention : Prop :=
  ∀ (b : Fin 8) (f : Fin 4) (n : Nat) (s : State),
    (s.pins.refclk = true → ∃ t, exec (.detainNAssert n) s = .next t ∧ t.on Fld.BOOT_STATUS_DETAINED = true ∧ t.fld Fld.BOOT_DETAIN_CAUSE_CAUSE = 0x0D ∧
      t.fld Fld.BOOT_STATUS_STEP = 1 ∧ t.fld Fld.BOOT_ATTEMPTS_COUNT = s.fld Fld.BOOT_ATTEMPTS_COUNT ∧ t.boot.kind = .soft ∧
      t.domains = [pdAon, pdCtl, pdSyn, pdLnk] ∧ t.store = [] ∧ t.queues = [] ∧ t.dma = [] ∧ t.cores = [] ∧ t.flashOps = [] ∧
      t.air = 0 ∧ t.on Fld.LNK_CTRL_ENABLE = true ∧ t.pins.detain = n) ∧
    (∃ t, exec (.powerOnReset b f (n + 1) true) s = .next t ∧ t.on Fld.BOOT_STATUS_DETAINED = true ∧
      t.fld Fld.BOOT_DETAIN_CAUSE_CAUSE = 0x0D ∧ t.fld Fld.BOOT_STATUS_STEP = 1) ∧
    (∃ t, exec (.pinReset b f (n + 1) true) s = .next t ∧ t.on Fld.BOOT_STATUS_DETAINED = true ∧
      t.fld Fld.BOOT_DETAIN_CAUSE_CAUSE = 0x0D ∧ t.fld Fld.BOOT_STATUS_STEP = 1 ∧
      t.fld Fld.BOOT_ATTEMPTS_COUNT = s.fld Fld.BOOT_ATTEMPTS_COUNT)

/-- A WARM reset asked for by another than Proctor after step 13, outside Detention mode and with no power transition
running, keeps the store, the domains, AIR_COUNT, the coefficient banks, the timing and the fuses, empties the queues
and DMA channels, takes the link DOWN, leaves BOOT_ATTEMPTS.COUNT, records its kind, and resumes the start at step 13.
A WARM before step 13 or in Detention mode changes nothing but the DEV_MSPI_ERR counts that its own ERR_CLR clears. An
MGQ that asks for a reset leaves it waiting until its MGA has been sent (R36). Part of R440 and R441. (spec/17_resets_and_limits.md, spec/01_device_organisation.md) -/
def Obligations.AWarmResetKeepsTheStoreAndTheDomains : Prop :=
  ∀ (q : Requester) (d : Word) (s : State), s.passes q Reg.DEV_CTRL true →
    (q ≠ .mgq → q ≠ .proctor → 13 ≤ s.fld Fld.BOOT_STATUS_STEP → s.on Fld.BOOT_STATUS_DETAINED = false → s.pwr.trans = none →
      s.sec.running = none →
      ∃ t, exec (.devCtrlWarm q d) s = .next t ∧ t.fld Fld.BOOT_STATUS_STEP = 13 ∧ t.store = s.store ∧ t.ecc = s.ecc ∧
        t.domains = s.domains ∧ t.air = s.air ∧ t.fuses = s.fuses ∧ t.time = s.time ∧ t.lin.banks = s.lin.banks ∧
        t.sfd.sets = s.sfd.sets ∧ t.queues = [] ∧ t.dma = [] ∧ t.raise = [] ∧ t.link = LinkState.idle ∧
        t.fld Fld.BOOT_ATTEMPTS_COUNT = s.fld Fld.BOOT_ATTEMPTS_COUNT ∧ t.fld Fld.DEV_RESET_INFO_KIND = 4 ∧
        t.boot.kind = .warm) ∧
    (q ≠ .mgq → q ≠ .proctor → (s.fld Fld.BOOT_STATUS_STEP < 13 ∨ s.on Fld.BOOT_STATUS_DETAINED = true) →
      ∃ t, exec (.devCtrlWarm q d) s = .next t ∧ s.onlyRegs t [Reg.DEV_MSPI_ERR]) ∧
    (∃ t, exec (.devCtrlErrClr q d) s = .next t ∧ t.rd Reg.DEV_MSPI_ERR = 0 ∧ s.onlyRegs t [Reg.DEV_MSPI_ERR]) ∧
    (q = .mgq → ∃ t, exec (.devCtrlSoft q d) s = .next t ∧ t.boot = { s.boot with afterMga := s.boot.afterMga ++ [.reset .soft] } ∧
      t = { s with regs := t.regs, boot := t.boot } ∧ s.regsBut t [Reg.DEV_MSPI_ERR])

/-- At step 2 of a start other than after a POR, with the fuses agreeing, a flash that answers and a valid directory copy,
and likewise when the flash answers a later try of step 3: below the limit COUNT rises by 1, the slot is the forced one
where FORCE_EN is set (which clears), else the preferred slot on odd and the other on even counts, FORCE_EN reads 0,
the start stands at step 4 and owes a BEGIN record. A flash that does not answer the first try leaves step 3 with one
try counted. Part of R42, R46, R62 and R64. (spec/02_start_and_image.md) -/
def Obligations.TheFlashProbeDecidesTheAttempt : Prop :=
  ∀ (id : Byte) (sfdp : Option Nat) (dir : Directory) (s : State),
    idAnswers id = true → s.chooseDir (sfdp.getD 0x2000000) = some dir → s.boot.kind ≠ .por → s.startRuns = true →
    s.fld Fld.BOOT_ATTEMPTS_COUNT < s.fld Fld.BOOT_ATTEMPTS_LIMIT → dir.prefSlot ≤ 1 →
    (∀ (c : Instr) (n slot : Nat), (c = .startFlashProbe true id sfdp ∧ s.fld Fld.BOOT_STATUS_STEP = 2 ∧ s.boot.tries = 0) ∨
        (c = .flashIdRetry id sfdp ∧ s.fld Fld.BOOT_STATUS_STEP = 3 ∧ 0 < s.boot.tries ∧ s.boot.tries < 3) →
      n = s.fld Fld.BOOT_ATTEMPTS_COUNT + 1 →
      slot = (if s.on Fld.BOOT_CTRL_FORCE_EN then s.fld Fld.BOOT_CTRL_FORCE_SLOT
        else if n % 2 = 1 then dir.prefSlot else 1 - dir.prefSlot) →
      ∃ t, exec c s = .next t ∧ t.boot.dir = some dir ∧ t.fld Fld.BOOT_STATUS_PREF_SLOT = dir.prefSlot ∧ t.fld Fld.BOOT_ATTEMPTS_COUNT = n ∧
        t.fld Fld.BOOT_STATUS_SLOT = slot ∧ t.on Fld.BOOT_CTRL_FORCE_EN = false ∧ t.fld Fld.BOOT_STATUS_STEP = 4 ∧
        t.owesRecord ⟨1, n, 0, 4, s.pwr.cold, .header, []⟩ ∧ t = { s with regs := t.regs, boot := t.boot } ∧
        s.regsBut t [Reg.BOOT_STATUS, Reg.BOOT_ATTEMPTS, Reg.BOOT_CTRL]) ∧
    (∀ bad : Byte, idAnswers bad = false → s.fld Fld.BOOT_STATUS_STEP = 2 → s.boot.tries = 0 →
      ∃ t, exec (.startFlashProbe true bad sfdp) s = .next t ∧ t.fld Fld.BOOT_STATUS_STEP = 3 ∧
        t.boot = { s.boot with tries := 1, dir := none } ∧ s.regsBut t [Reg.BOOT_STATUS])

/-- A record that reads back as written stands in the flash at its position, every other flash byte is as before, and the
journal cache holds its JSEQ and the next position. A second failed read-back sets JOURNAL_FAIL and raises event 0x04
with the record's JSEQ. The end of an erase of the other journal sector leaves every byte of that sector 0xFF and every
other flash byte as before. Part of R59. (spec/02_start_and_image.md) -/
def Obligations.JournalRecordsAreProgrammedAndReadBack : Prop :=
  ∀ (w : JournalWrite) (d : Directory) (s : State),
    (s.boot.writing = some w → w.bytes.length = 64 → w.req.next = .goOn →
      ∃ t, exec (.journalRecordReadback (some w.bytes)) s = .next t ∧ t.flashBytes w.addr 64 = w.bytes ∧
        (∀ a, a < w.addr ∨ w.addr + 64 ≤ a → SMap.get 0xFF#8 t.flash a = SMap.get 0xFF#8 s.flash a) ∧
        t.boot.cache = { s.boot.cache with pos := (s.boot.cache.pos + 1) % 2048, valid := true, jseq := fieldAt w.bytes 4 4 } ∧
        t = { s with flash := t.flash, boot := t.boot }) ∧
    (∀ r, s.boot.writing = some w → w.req.next = .goOn → w.second = true → r ≠ w.bytes → s.raiseRoom 1 →
      ∃ t, exec (.journalRecordReadback (some r)) s = .next t ∧ t.on Fld.BOOT_STATUS_JOURNAL_FAIL = true ∧
        t.raise = s.raise ++ [s.occurrence 0x04 (fieldAt w.bytes 4 4)] ∧ s.regsBut t [Reg.BOOT_STATUS]) ∧
    (s.boot.dir = some d → s.boot.erasing = true →
      ∃ t, exec .journalSectorEraseEnd s = .next t ∧ t.boot.erasing = false ∧
        (∀ a, d.journalOther s.boot.cache.pos ≤ a → a < d.journalOther s.boot.cache.pos + 0x10000 →
          SMap.get 0xFF#8 t.flash a = 0xFF#8) ∧
        (∀ a, a < d.journalOther s.boot.cache.pos ∨ d.journalOther s.boot.cache.pos + 0x10000 ≤ a →
          SMap.get 0xFF#8 t.flash a = SMap.get 0xFF#8 s.flash a) ∧
        t = { s with flash := t.flash, boot := t.boot })

/-- While the attempt runs, root lock reached moves the fabric to CTL, switches the flash to the protocol of FLASH_MODE
where its SFDP tables have it, and passes step 6 on to step 8; the thermal poll passes step 8 at +110 degrees or less
(+105 once hot) on both sensors; no root lock at step 6, no core start at step 13, no link and no heartbeat at steps 14
and 15, and a die still hot at its limit each fail the attempt with the cause that the start table gives. Part of R41,
R43, R62 and R63. (spec/02_start_and_image.md) -/
def Obligations.StartStepsWaitOrFailTheAttempt : Prop :=
  ∀ (x : Bool) (s : State), s.startRuns = true →
    (s.domOn pdSyn = true → s.on Fld.CLK_STATUS_FABRIC_ON_ROOT = false → s.fld Fld.BOOT_STATUS_STEP = 6 →
      ∃ t, exec (.rootLockReached x) s = .next t ∧ t.on Fld.CLK_STATUS_ROOT_LOCK = true ∧
        t.on Fld.CLK_STATUS_FABRIC_ON_ROOT = true ∧ t.fld Fld.BOOT_STATUS_STEP = 8 ∧
        (x = true → t.boot.flashLink = flashModeLink (s.fld Fld.DEV_STRAPS_FLASH_MODE)) ∧
        t = { s with regs := t.regs, pins := t.pins, boot := { s.boot with flashLink := t.boot.flashLink } } ∧
        s.regsBut t [Reg.CLK_STATUS, Reg.BOOT_STATUS]) ∧
    (s.fld Fld.BOOT_STATUS_STEP = 6 → s.on Fld.CLK_STATUS_ROOT_LOCK = false →
      ∃ t, exec .rootLockStartTimeout s = .next t ∧ s.attemptLost t 0x06) ∧
    (∀ t8 t9 : Int, s.fld Fld.BOOT_STATUS_STEP = 8 → t8 ≤ (if s.boot.hot then 1680 else 1760) →
      t9 ≤ (if s.boot.hot then 1680 else 1760) →
      ∃ t, exec (.startThermalPoll t8 t9 x) s = .next t ∧ t.fld Fld.BOOT_STATUS_STEP = 9 ∧
        t = { s with regs := t.regs, boot := { s.boot with hot := false } } ∧ s.regsBut t [Reg.BOOT_STATUS]) ∧
    (∀ t8 t9 : Int, s.fld Fld.BOOT_STATUS_STEP = 8 → s.boot.hot = true → 1680 < t8 ∨ 1680 < t9 →
      ∃ t, exec (.startThermalPoll t8 t9 true) s = .next t ∧ s.attemptLost t 0x0C) ∧
    (s.fld Fld.BOOT_STATUS_STEP = 13 → s.boot.heartbeat = false →
      ∃ t, exec .coreStartTimeout s = .next t ∧ s.attemptLost t 0x09) ∧
    (s.fld Fld.BOOT_STATUS_STEP = 14 ∨ s.fld Fld.BOOT_STATUS_STEP = 15 → s.boot.noLink = false →
      ∃ t, exec .linkTimeout s = .next t ∧ s.attemptLost t 0x0A) ∧
    (s.fld Fld.BOOT_STATUS_STEP = 14 ∨ s.fld Fld.BOOT_STATUS_STEP = 15 →
      ∃ t, exec .heartbeatGap s = .next t ∧ s.attemptLost t 0x09)

/-- At step 10 a section of an unknown type is skipped, and a section whose digest differs fails the attempt with cause
0x08 and its index as DETAIL, in each case with nothing loaded; at step 15 with the link ACTIVE or waived, completion
sets COMPLETE, clears COUNT, reaches step 16, raises event 0x02 and, when the slot is not the preferred one, makes it
so. Part of R49, R51, R63 and R65. (spec/02_start_and_image.md) -/
def Obligations.AStartCompletes : Prop :=
  ∀ (fb : BitVec 64) (j : Nat) (js : List Nat) (s : State),
    (s.startRuns = true → s.fld Fld.BOOT_STATUS_STEP = 10 →
      s.boot.sections = j :: js → js ≠ [] → knownSection (headerSection s.boot.header j).stype = false →
      exec (.startSectionLoad fb) s = .next { s with boot := { s.boot with sections := js } }) ∧
    (s.startRuns = true → s.fld Fld.BOOT_STATUS_STEP = 10 →
      s.boot.sections = j :: js → knownSection (headerSection s.boot.header j).stype = true →
      loadOk (headerSection s.boot.header j) s.regionsNow = true →
      sha512 (s.sectionBytes s.slotPart (headerSection s.boot.header j)) ≠ (headerSection s.boot.header j).digest →
      ∃ t, exec (.startSectionLoad fb) s = .next t ∧ t = { s with boot := t.boot } ∧
        t.owesRecord ⟨2, s.fld Fld.BOOT_ATTEMPTS_COUNT, 8, 10, j, .restart, []⟩) ∧
    (s.startRuns = true → s.fld Fld.BOOT_STATUS_STEP = 15 → s.boot.noLink = true ∨ s.fld Fld.LNK_STATUS_STATE = 5 → s.raiseRoom 2 →
      ∃ t, exec .startCompletion s = .next t ∧ t.on Fld.BOOT_STATUS_COMPLETE = true ∧ t.fld Fld.BOOT_ATTEMPTS_COUNT = 0 ∧
        t.fld Fld.BOOT_STATUS_STEP = 16 ∧ s.occurrence 0x02 (s.fld Fld.BOOT_STATUS_SLOT) ∈ t.raise ∧
        t.owesRecord ⟨3, 0, 0, 15, 0, .goOn, []⟩ ∧
        (s.boot.dir.isSome = true → t.fld Fld.BOOT_STATUS_PREF_SLOT = s.fld Fld.BOOT_STATUS_SLOT) ∧
        t.store = s.store ∧ t.queues = s.queues ∧ t.fuses = s.fuses ∧ t.domains = s.domains ∧
        s.regsBut t [Reg.BOOT_STATUS, Reg.BOOT_ATTEMPTS])

/-- A write of BOOT_HEARTBEAT loads it, and the first one at step 13 ends that step (step 15 with the link waived or
ACTIVE, else step 14). A write of BOOT_CTRL with FORCE_EN and its key sets FORCE_EN and FORCE_SLOT; one with
CLR_ATTEMPTS and its key sets COUNT to 0, and with the journal known and none owed owes a CLEAR record and reads
CLR_ATTEMPTS 1 until it is written. Part of R62, R64 and R69. (spec/02_start_and_image.md) -/
def Obligations.BootRegistersAndHeartbeat : Prop :=
  ∀ (q : Requester) (d : Word) (s : State),
    (s.passes q Reg.BOOT_HEARTBEAT true → s.fld Fld.BOOT_STATUS_STEP = 13 → s.boot.heartbeat = false →
      ∃ t, exec (.bootHeartbeatWrite q d) s = .next t ∧ t.rd Reg.BOOT_HEARTBEAT = d ∧
        t.fld Fld.BOOT_STATUS_STEP = (if s.boot.noLink = true ∨ s.fld Fld.LNK_STATUS_STATE = 5 then 15 else 14) ∧
        t = { s with regs := t.regs, boot := { s.boot with heartbeat := true } } ∧
        s.regsBut t [Reg.BOOT_HEARTBEAT, Reg.BOOT_STATUS]) ∧
    (s.passes q Reg.BOOT_HEARTBEAT true → s.fld Fld.BOOT_STATUS_STEP ≠ 13 →
      ∃ t, exec (.bootHeartbeatWrite q d) s = .next t ∧ t.rd Reg.BOOT_HEARTBEAT = d ∧ s.onlyRegs t [Reg.BOOT_HEARTBEAT]) ∧
    (s.passes q Reg.BOOT_CTRL true →
      ∃ t, exec (.bootCtrlForceEn q d) s = .next t ∧ t.on Fld.BOOT_CTRL_FORCE_EN = true ∧
        t.fld Fld.BOOT_CTRL_FORCE_SLOT = Fld.BOOT_CTRL_FORCE_SLOT.of d) ∧
    (s.passes q Reg.BOOT_CTRL true → s.on Fld.BOOT_CTRL_CLR_ATTEMPTS = false → s.boot.dir.isSome = true →
      ∃ t, exec (.bootCtrlClrAttempts q d) s = .next t ∧ t.fld Fld.BOOT_ATTEMPTS_COUNT = 0 ∧
        t.on Fld.BOOT_CTRL_CLR_ATTEMPTS = true ∧ t.owesRecord ⟨5, 0, 0, s.fld Fld.BOOT_STATUS_STEP, 0, .clearDone, []⟩ ∧
        t = { s with regs := t.regs, boot := t.boot } ∧ s.regsBut t [Reg.BOOT_CTRL, Reg.BOOT_ATTEMPTS]) ∧
    (s.passes q Reg.BOOT_CTRL true → s.boot.dir = none →
      ∃ t, exec (.bootCtrlClrAttempts q d) s = .next t ∧ t.fld Fld.BOOT_ATTEMPTS_COUNT = 0 ∧
        s.onlyRegs t [Reg.BOOT_CTRL, Reg.BOOT_ATTEMPTS])

/-- A phase request of n steps that R19 does not refuse sets BUSY with n steps left; R19 refuses one that would carry the
total beyond 1,024 steps while the link is ACTIVE; each HK tick takes one step, moves CLK_PHASE_POS by one and ends the
request with the last. CLK_SYSOUT takes what is written and drives the outputs. Without a crystal within 1 s AON_RC is
set. Part of R16, R18, R19 and R39. (spec/01_device_organisation.md) -/
def Obligations.ClockFamilyCommands : Prop :=
  ∀ (q : Requester) (d : Word) (s : State),
    (s.passes q Reg.CLK_PHASE true → s.on Fld.CLK_PHASE_BUSY = false → sext 16 (Fld.CLK_PHASE_STEP.of d) ≠ 0 →
      (s.fld Fld.LNK_STATUS_STATE ≠ 5 ∨ (s.clk.sinceLock + sext 16 (Fld.CLK_PHASE_STEP.of d)).natAbs ≤ 1024) →
      ∃ t, exec (.clkPhaseGo q d) s = .next t ∧ t.on Fld.CLK_PHASE_BUSY = true ∧
        t = { s with regs := t.regs, clk := { s.clk with phaseLeft := sext 16 (Fld.CLK_PHASE_STEP.of d) } } ∧
        s.regsBut t [Reg.CLK_PHASE]) ∧
    (s.passes q Reg.CLK_PHASE true → s.on Fld.CLK_PHASE_BUSY = false → s.fld Fld.LNK_STATUS_STATE = 5 →
      1024 < (s.clk.sinceLock + sext 16 (Fld.CLK_PHASE_STEP.of d)).natAbs → sext 16 (Fld.CLK_PHASE_STEP.of d) ≠ 0 →
      ∃ t, exec (.clkPhaseGo q d) s = .next t ∧ t.on Fld.CLK_PHASE_REFUSED = true ∧ t.on Fld.CLK_PHASE_BUSY = false ∧
        s.onlyRegs t [Reg.CLK_PHASE]) ∧
    (s.on Fld.CLK_PHASE_BUSY = true → s.clk.phaseLeft ≠ 0 →
      ∃ t, exec .clkPhaseStepTick s = .next t ∧
        t.clk = ⟨s.clk.phaseLeft - s.clk.phaseLeft.sign, s.clk.sinceLock + s.clk.phaseLeft.sign⟩ ∧
        t.rd Reg.CLK_PHASE_POS = s.rd Reg.CLK_PHASE_POS + BitVec.ofInt 32 s.clk.phaseLeft.sign ∧
        t.on Fld.CLK_PHASE_BUSY = decide (t.clk.phaseLeft ≠ 0) ∧ t = { s with regs := t.regs, clk := t.clk } ∧
        s.regsBut t [Reg.CLK_PHASE, Reg.CLK_PHASE_POS]) ∧
    (s.passes q Reg.CLK_SYSOUT true → s.on Fld.CLK_STATUS_FABRIC_ON_ROOT = true →
      ∃ t, exec (.clkSysoutWrite q d) s = .next t ∧
        t.pins = { s.pins with
          sysclk0 := if Fld.CLK_SYSOUT_OUT0_EN.of d = 0 then 0 else 1 + Fld.CLK_SYSOUT_OUT0_SEL.of d
          sysclk1 := if Fld.CLK_SYSOUT_OUT1_EN.of d = 0 then 0 else 1 + Fld.CLK_SYSOUT_OUT1_SEL.of d } ∧
        t = { s with regs := t.regs, pins := t.pins } ∧ s.regsBut t [Reg.CLK_SYSOUT]) ∧
    (∃ t, exec .aonOscTimeout s = .next t ∧ t.on Fld.CLK_STATUS_AON_RC = true ∧ s.onlyRegs t [Reg.CLK_STATUS])

/-- A GO of BOOT_FL_CTRL with its key, for ERASE, PROGRAM and READ alike, with LOP7 idle and parameters that R70 to R72
allow, takes address, length and source and runs LOP7 at once on a free flash; with LOP7 queued or running it sets
OVERRUN alone; with length 0 it ends DONE at once and raises LOP_END; on a free flash with a parameter error it ends
FAILED with that error; behind a calibration save it waits QUEUED. A GO of BOOT_VERIFY_CTRL likewise runs LOP8. Part of
R70 to R73 and R403. (spec/02_start_and_image.md, spec/15_housekeeping_events.md) -/
def Obligations.FlashOperationsAreAccepted : Prop :=
  ∀ (q : Requester) (d : Word) (s : State),
    (∀ (c : Instr) (op : Nat) (f : FlashOp),
      (c = .lop7Erase q d ∧ op = 0) ∨ (c = .lop7Program q d ∧ op = 1) ∨ (c = .lop7Read q d ∧ op = 2) →
      f = ⟨op, Fld.BOOT_FL_CTRL_SRC.of d, (s.rd Reg.BOOT_FL_ADDR).toNat, (s.rd Reg.BOOT_FL_LEN).toNat, (s.rd Reg.BOOT_FL_SRC).toNat, 0⟩ →
      s.passes q Reg.BOOT_FL_CTRL true →
      (s.lopBusy 7 = true → ∃ t, exec c s = .next t ∧ t.on Fld.BOOT_FL_CTRL_OVERRUN = true ∧ s.onlyRegs t [Reg.BOOT_FL_CTRL]) ∧
      (s.lopBusy 7 = false → f.len ≠ 0 → s.lop7Error f = none → s.flashOps = [] →
        ∃ t, exec c s = .next t ∧ t.lopState 7 = lopRunning ∧ t.fld (Fld.LOP_STATn_ERR 7) = 0 ∧
          t.fld (Fld.LOP_STATn_UNITS_DONE 7) = 0 ∧ t.on Fld.BOOT_FL_CTRL_GO = true ∧
          t = { s with regs := t.regs, flashOps := [.lop7 f] } ∧ s.regsBut t [Reg.BOOT_FL_CTRL, Reg.LOP_STATn 7]) ∧
      (s.lopBusy 7 = false → f.len = 0 → s.raiseRoom 1 →
        ∃ t, exec c s = .next t ∧ t.lopState 7 = lopDone ∧ t.fld (Fld.LOP_STATn_UNITS_TOTAL 7) = 0 ∧
          t.raise = s.raise ++ [s.occurrence 0x06 (7 + 16 * lopDone)] ∧
          t = { s with regs := t.regs, raise := t.raise } ∧ s.regsBut t [Reg.BOOT_FL_CTRL, Reg.LOP_STATn 7]) ∧
      (∀ e, s.lopBusy 7 = false → f.len ≠ 0 → s.lop7Error f = some e → s.flashOps = [] → s.raiseRoom 1 →
        ∃ t, exec c s = .next t ∧ t.lopState 7 = lopFailed ∧ t.fld (Fld.LOP_STATn_ERR 7) = e ∧
          t.raise = s.raise ++ [s.occurrence 0x06 (7 + 16 * lopFailed + 256 * e)] ∧
          t = { s with regs := t.regs, raise := t.raise } ∧ s.regsBut t [Reg.BOOT_FL_CTRL, Reg.LOP_STATn 7]) ∧
      (∀ a bs us, s.lopBusy 7 = false → f.len ≠ 0 → s.flashOps = .save a bs :: us →
        ∃ t, exec c s = .next t ∧ t.lopState 7 = lopQueued ∧ t.on Fld.BOOT_FL_CTRL_GO = true ∧
          t = { s with regs := t.regs, flashOps := s.flashOps ++ [.lop7 f] } ∧ s.regsBut t [Reg.BOOT_FL_CTRL, Reg.LOP_STATn 7])) ∧
    (s.passes q Reg.BOOT_VERIFY_CTRL true → s.lopBusy 8 = false → s.flashOps = [] →
      ∃ t, exec (.lop8Verify q d) s = .next t ∧ t.lopState 8 = lopRunning ∧ t.on Fld.BOOT_VERIFY_CTRL_GO = true ∧
        t = { s with regs := t.regs, flashOps := [.lop8 (Fld.BOOT_VERIFY_CTRL_SLOT.of d)] } ∧
        s.regsBut t [Reg.BOOT_VERIFY_CTRL, Reg.LOP_STATn 8])

/-- A finished unit of a running ERASE leaves every byte of its range 0xFF, one of PROGRAM from the buffer leaves the
buffer's bytes there, and one of READ copies the flash into the buffer; every flash byte outside the range stays, and
the store stays. After the last unit LOP7 is DONE, its entry leaves the flash queue and LOP_END is raised. A unit of
LOP8 that finds nothing wrong is counted; the one that finds an error ends LOP8 FAILED with that error and offset. Part
of R71 to R73 and R404. (spec/02_start_and_image.md) -/
def Obligations.FlashUnitsDoTheirWork : Prop :=
  ∀ (s : State), s.lopState 6 ≠ lopQueued →
    (∀ (f : FlashOp) (rest : List FlashUser) (k n : Nat), k = flashUnit f.op * f.done → n = min (flashUnit f.op) (f.len - k) →
      s.flashOps = .lop7 f :: rest → s.lopState 7 = lopRunning → f.op ≤ 1 → (f.op = 1 → f.src = 0) →
      ∃ t, exec (.lop7UnitEnd .done) s = .next t ∧ t.flashBytes (f.addr + k) n =
          (if f.op = 0 then List.replicate n 0xFF#8 else s.regBytes (Reg.BOOT_FBUF 0 + k) n) ∧
        (∀ a, a < f.addr + k ∨ f.addr + k + n ≤ a → SMap.get 0xFF#8 t.flash a = SMap.get 0xFF#8 s.flash a) ∧ t.store = s.store ∧
        t.fuses = s.fuses) ∧
    (∀ (f : FlashOp), s.flashOps = [.lop7 f] → s.lopState 7 = lopRunning → f.op = 2 → f.src = 0 → f.done = 0 → f.len % 4 = 0 → f.len ≠ 0 →
      f.len ≤ 4096 → s.raiseRoom 1 →
      ∃ t, exec (.lop7UnitEnd .done) s = .next t ∧ t.regBytes (Reg.BOOT_FBUF 0) f.len = s.flashBytes f.addr f.len ∧
        t.lopState 7 = lopDone ∧ t.on Fld.BOOT_FL_CTRL_GO = false ∧ t.flashOps = [] ∧
        t.raise = s.raise ++ [s.occurrence 0x06 (7 + 16 * lopDone)] ∧
        t = { s with regs := t.regs, raise := t.raise, flashOps := [] }) ∧
    (∀ (slot e o : Nat), s.flashOps = [.lop8 slot] → s.lopState 8 = lopRunning →
      s.verifyUnit slot (s.fld (Fld.LOP_STATn_UNITS_DONE 8)) = some (e, o) → s.raiseRoom 1 →
      ∃ t, exec .lop8UnitEnd s = .next t ∧ t.lopState 8 = lopFailed ∧ t.fld (Fld.LOP_STATn_ERR 8) = e % 32 ∧
        t.rd Reg.BOOT_VERIFY_DETAIL = BitVec.ofNat 32 o ∧ t.flashOps = [] ∧ t.flash = s.flash) ∧
    (∀ (slot : Nat), s.flashOps = [.lop8 slot] → s.lopState 8 = lopRunning →
      s.verifyUnit slot (s.fld (Fld.LOP_STATn_UNITS_DONE 8)) = none →
      s.fld (Fld.LOP_STATn_UNITS_DONE 8) + 1 < s.fld (Fld.LOP_STATn_UNITS_TOTAL 8) →
      ∃ t, exec .lop8UnitEnd s = .next t ∧
        t.fld (Fld.LOP_STATn_UNITS_DONE 8) = s.fld (Fld.LOP_STATn_UNITS_DONE 8) + 1 ∧ t.lopState 8 = lopRunning ∧
        s.onlyRegs t [Reg.LOP_STATn 8])

/-- A PROC_CMD write with GO and its key, for each of the five operations, sets GO and BUSY and runs the operation (its
result, fuse bits and debug level planned from the token as it stands), or lets it wait while LOP6 is RUNNING; while
another command is BUSY it sets OVERRUN alone. Part of R75. (spec/03_security.md) -/
def Obligations.ProctorServesOneCommandAtATime : Prop :=
  ∀ (q : Requester) (d : Word) (s : State) (c : Instr) (op : Nat),
    (c = .applyProv q d ∧ op = 1) ∨ (c = .advanceRb q d ∧ op = 2) ∨ (c = .dbgChallenge q d ∧ op = 3) ∨
      (c = .dbgSubmit q d ∧ op = 4) ∨ (c = .dbgLock q d ∧ op = 5) →
    s.passes q Reg.PROC_CMD true →
    (s.on Fld.PROC_CMD_STATUS_BUSY = true →
      ∃ t, exec c s = .next t ∧ t.on Fld.PROC_CMD_STATUS_OVERRUN = true ∧ s.onlyRegs t [Reg.PROC_CMD_STATUS]) ∧
    (s.on Fld.PROC_CMD_STATUS_BUSY = false → s.lopState 6 ≠ lopRunning →
      ∃ t, exec c s = .next t ∧ t.on Fld.PROC_CMD_GO = true ∧ t.on Fld.PROC_CMD_STATUS_BUSY = true ∧
        t = { s with regs := t.regs, sec := { s.sec with running := some (s.planCmd op), waits := none } } ∧
        s.regsBut t [Reg.PROC_CMD, Reg.PROC_CMD_STATUS]) ∧
    (s.on Fld.PROC_CMD_STATUS_BUSY = false → s.lopState 6 = lopRunning →
      ∃ t, exec c s = .next t ∧ t.on Fld.PROC_CMD_STATUS_BUSY = true ∧
        t = { s with regs := t.regs, sec := { s.sec with waits := some op } } ∧
        s.regsBut t [Reg.PROC_CMD, Reg.PROC_CMD_STATUS])

/-- The end of a running command clears BUSY and GO, gives its RESULT, and blows exactly its planned fuse bits, every other
fuse bit staying as it was; DBG_LOCK returns the debug level to 0, DBG_CHALLENGE sets CHAL_VALID with the 32 random
bytes (a free value), DBG_SUBMIT consumes the challenge and grants its level or counts the refusal, with LOCKOUT at 8.
A challenge that lapses reads 0 and is no longer valid. Part of R83, R84, R89 and R91. (spec/03_security.md) -/
def Obligations.ACommandEndBlowsItsFusesOnly : Prop :=
  ∀ (c : ProcCmd) (s : State), s.lopState 6 ≠ lopQueued →
    (s.sec.running = some c → c.result < 256 →
      ∃ t, exec (.procCmdEnd none) s = .next t ∧ t.on Fld.PROC_CMD_STATUS_BUSY = false ∧ t.on Fld.PROC_CMD_GO = false ∧
        t.fld Fld.PROC_CMD_STATUS_RESULT = c.result ∧ t.sec.running = none ∧
        (∀ w, t.fuse w = (c.fuses.filter (fun f => f.1 == w)).foldl (fun v f => v ||| f.2) (s.fuse w)) ∧
        (c.op = 3 → t.on Fld.PROC_DBG_STATUS_CHAL_VALID = true ∧
          t.regBytes (Reg.PROC_DBG_CHAL 0) 32 = leBytes 32 (Config.challenge s.fresh).toNat) ∧
        (c.op = 4 → t.on Fld.PROC_DBG_STATUS_CHAL_VALID = false) ∧
        (c.op = 4 → c.result = 0 → c.level < 4 → t.fld Fld.PROC_STATUS_DBG_LEVEL = c.level) ∧
        (c.op = 4 → c.result ≠ 0 →
          t.fld Fld.PROC_DBG_STATUS_FAIL_COUNT = min 255 (s.fld Fld.PROC_DBG_STATUS_FAIL_COUNT + 1) ∧
          (7 ≤ s.fld Fld.PROC_DBG_STATUS_FAIL_COUNT → t.on Fld.PROC_DBG_STATUS_LOCKOUT = true)) ∧
        (c.op = 5 → t.fld Fld.PROC_STATUS_DBG_LEVEL = 0) ∧
        t.store = s.store ∧ t.flash = s.flash ∧ t.queues = s.queues ∧ t.raise = s.raise) ∧
    (s.on Fld.PROC_DBG_STATUS_CHAL_VALID = true →
      ∃ t, exec .challengeLapse s = .next t ∧ t.on Fld.PROC_DBG_STATUS_CHAL_VALID = false ∧
        (∀ i < 8, t.rd (Reg.PROC_DBG_CHAL i) = 0) ∧ t = { s with regs := t.regs } ∧
        s.regsBut t (Reg.PROC_DBG_STATUS :: (List.range 8).map Reg.PROC_DBG_CHAL))

/-- A GO of PROC_ATT_CTRL with its key while LOP6 is idle, no command is BUSY, the flash is free and no vendor-level debug
is unlocked copies the nonce, clears the report and runs LOP6; a GO while it is queued or running sets OVERRUN alone.
Its third unit writes the fuse digest; its fourth writes the device-key signature over bytes 0 to 287 (the key and the
salt are free values) and ends it DONE with LOP_END. Part of R75, R87 and R88. (spec/03_security.md) -/
def Obligations.AttestationFillsItsReport : Prop :=
  ∀ (q : Requester) (d : Word) (u : Bool) (s : State),
    (s.passes q Reg.PROC_ATT_CTRL true → s.lopBusy 6 = true →
      ∃ t, exec (.lop6Attest q d u) s = .next t ∧ t.on Fld.PROC_ATT_CTRL_OVERRUN = true ∧ s.onlyRegs t [Reg.PROC_ATT_CTRL]) ∧
    (s.passes q Reg.PROC_ATT_CTRL true → s.lopBusy 6 = false → s.on Fld.PROC_CMD_STATUS_BUSY = false → s.flashOps = [] →
      s.fld Fld.PROC_STATUS_DBG_LEVEL ≠ 2 → s.sec.keySpent = false →
      ∃ t, exec (.lop6Attest q d true) s = .next t ∧ t.lopState 6 = lopRunning ∧ t.fld (Fld.LOP_STATn_UNITS_TOTAL 6) = 4 ∧
        t.on Fld.PROC_ATT_CTRL_GO = true ∧ (∀ i < 200, t.rd (Reg.PROC_ATT_REPORT i) = 0) ∧
        t = { s with regs := t.regs, sec := { s.sec with
          nonce := s.regBytes (Reg.PROC_ATT_NONCE 0) 64, attUnits := 0, unseals := true } } ∧
        s.regsBut t ([Reg.PROC_ATT_CTRL, Reg.LOP_STATn 6, Reg.LOP_RESn 6] ++ (List.range 200).map Reg.PROC_ATT_REPORT)) ∧
    (s.lopState 6 = lopRunning → s.sec.attUnits = 2 →
      ∃ t, exec .lop6UnitEnd s = .next t ∧ t.regBytes (Reg.PROC_ATT_REPORT 56) 64 = sha512 (s.fuseBytes 0 256) ∧
        t.fld (Fld.LOP_STATn_UNITS_DONE 6) = 3 ∧ t.lopState 6 = lopRunning ∧
        t = { s with regs := t.regs, sec := { s.sec with attUnits := 3 } } ∧
        s.regsBut t (Reg.LOP_STATn 6 :: (List.range 16).map (fun i => Reg.PROC_ATT_REPORT (56 + i)))) ∧
    (s.lopState 6 = lopRunning → s.sec.attUnits = 3 → s.sec.waits = none → s.raiseRoom 1 →
      ∃ t, exec .lop6UnitEnd s = .next t ∧ t.lopState 6 = lopDone ∧ t.on Fld.PROC_ATT_CTRL_GO = false ∧
        t.regBytes (Reg.PROC_ATT_REPORT 72) 512 = leBytes 512
          (deviceSign (leBytes 64 (Config.salt s.fresh).toNat) (s.regBytes (Reg.PROC_ATT_REPORT 0) 288)) ∧
        t.raise = s.raise ++ [s.occurrence 0x06 (6 + 16 * lopDone)])

/-- For every command that is a write by software, but a store write through MSPI, which is posted (R34), and every
requester that no earlier access of its own keeps waiting and whose access to that register the fabric judges with a
status other than OK (R477), the command changes DEV_MERR_ADDR and DEV_MERR_INFO alone: they hold the address, the
status, the requester, WRITE 1, POSTED 0 and VALID 1. Part of R38 and R477. (spec/01_device_organisation.md) -/
def Obligations.ARefusedWriteIsRecordedAndDoesNothing : Prop :=
  ∀ (c : Instr) (q : Requester) (a : Nat) (s : State), writes c = some (q, a) → s.inTurn q → (q = .mspi → storePosts a = false) →
    s.judge q a true ≠ stOk →
    ∃ t, exec c s = .next t ∧ t.rd Reg.DEV_MERR_ADDR = BitVec.ofNat 32 a ∧ t.on Fld.DEV_MERR_INFO_VALID = true ∧
      t.fld Fld.DEV_MERR_INFO_STATUS = s.judge q a true ∧ t.fld Fld.DEV_MERR_INFO_REQ = q.code % 16 ∧
      t.on Fld.DEV_MERR_INFO_WRITE = true ∧ t.on Fld.DEV_MERR_INFO_POSTED = false ∧
      s.onlyRegs t [Reg.DEV_MERR_ADDR, Reg.DEV_MERR_INFO]

/-- An access to an unmapped address, or to one that is not a multiple of 4, is judged ADDR_ERR whatever else holds; one
that is mapped, aligned and forbidden to its requester is judged DENIED whether or not its domain or bank is powered;
one that is mapped, aligned and allowed is judged DOMAIN_OFF where its domain or its store bank is off; and every other
one OK. (R477) -/
def Obligations.TheFabricJudgesInOrder : Prop :=
  ∀ (s : State) (q : Requester) (a : Nat) (w : Bool),
    (domainOf a = none ∨ a % 4 ≠ 0 → s.judge q a w = stAddrErr) ∧
    (∀ d, domainOf a = some d → a % 4 = 0 →
      (s.forbidden q a w = true → s.judge q a w = stDenied) ∧
      (s.forbidden q a w = false →
        (s.domOn d = false ∨ (storeBase ≤ a ∧ s.bankPowered (bankOf a) = false) → s.judge q a w = stDomainOff) ∧
        (s.domOn d = true → (a < storeBase ∨ s.bankPowered (bankOf a) = true) → s.judge q a w = stOk)))

/-- A frame whose CRC is wrong is answered CRC_ERR, counted and performs nothing; a read frame with another CMD is answered
CMD_ERR and performs nothing; before the fabric is open a frame is answered NOT_READY. A read of DEV_SCRATCH answers
its word with OK and changes only MISO; a write of it loads it; a late access is answered RETRY and held; the held
result answers the same read once. A frame cut short is counted in ABORT. Part of R28, R30, R32, R33 and R34. (spec/01_device_organisation.md) -/
def Obligations.MspiFramesAnswerAndPerform : Prop :=
  ∀ (cmd crc : Byte) (a : BitVec 32) (d : Word) (late : Bool) (env : BusEnv) (s : State), s.mspiUp = true → s.boot.afterMspi = none →
    (cmd ≠ 0xA5#8 → crc8 (frameHead cmd a.toNat) ≠ crc.toNat →
      ∃ t, exec (.mspiRead cmd a crc late env) s = .next t ∧ t.mspi = { s.mspi with miso := readAnswer stCrcErr 0 } ∧
        t.fld Fld.DEV_MSPI_ERR_CRC = min 65535 (s.fld Fld.DEV_MSPI_ERR_CRC + 1) ∧
        t = { s with regs := t.regs, mspi := t.mspi } ∧ s.regsBut t [Reg.DEV_MSPI_ERR]) ∧
    (cmd ≠ 0xA5#8 → cmd ≠ 0x5A#8 → crc8 (frameHead cmd a.toNat) = crc.toNat →
      exec (.mspiRead cmd a crc late env) s = .next (s.setMiso (readAnswer stCmdErr 0))) ∧
    (s.fabricOpen = false → crc8 (frameHead 0x5A#8 a.toNat) = crc.toNat →
      exec (.mspiRead 0x5A#8 a crc late env) s = .next (s.setMiso (readAnswer stNotReady 0))) ∧
    (s.fabricOpen = true → s.mspi.held = none → s.mspi.posted = [] → crc8 (frameHead 0x5A#8 Reg.DEV_SCRATCH) = crc.toNat →
      exec (.mspiRead 0x5A#8 (BitVec.ofNat 32 Reg.DEV_SCRATCH) crc false env) s =
        .next (s.setMiso (readAnswer stOk (s.rd Reg.DEV_SCRATCH)))) ∧
    (s.fabricOpen = true → s.mspi.held = none → crc8 (frameHead 0x5A#8 a.toNat) = crc.toNat →
      exec (.mspiRead 0x5A#8 a crc true env) s =
        .next { s with mspi := { s.mspi with held := some ⟨false, a.toNat, 0, false, 0, 0⟩, miso := readAnswer stRetry 0 } }) ∧
    (∀ r : Word, s.fabricOpen = true → s.mspi.held = some ⟨false, a.toNat, 0, true, stOk, r⟩ →
      crc8 (frameHead 0x5A#8 a.toNat) = crc.toNat →
      exec (.mspiRead 0x5A#8 a crc late env) s =
        .next { s with mspi := { s.mspi with held := none, miso := readAnswer stOk r } }) ∧
    (s.fabricOpen = true → s.mspi.held = none → s.mspi.posted = [] →
      crc8 (frameHead 0xA5#8 Reg.DEV_SCRATCH ++ leBytes 4 d.toNat) = crc.toNat →
      ∃ t, exec (.mspiWrite (BitVec.ofNat 32 Reg.DEV_SCRATCH) d crc false env) s = .next t ∧ t.rd Reg.DEV_SCRATCH = d ∧
        t.mspi = { s.mspi with miso := writeAnswer stOk } ∧ t = { s with regs := t.regs, mspi := t.mspi } ∧
        s.regsBut t [Reg.DEV_SCRATCH]) ∧
    (∀ sent : List Byte, sent.length < (if sent.head? = some 0xA5#8 then 10 else 6) →
      ∃ t, exec (.mspiFrameAbort sent late env) s = .next t ∧
        t.fld Fld.DEV_MSPI_ERR_ABORT = min 65535 (s.fld Fld.DEV_MSPI_ERR_ABORT + 1) ∧
        t.mspi.held = s.mspi.held ∧ t.mspi.posted = s.mspi.posted ∧ t = { s with regs := t.regs, mspi := t.mspi } ∧
        s.regsBut t [Reg.DEV_MSPI_ERR]) ∧
    (s.mspi.held = some ⟨false, Reg.DEV_SCRATCH, 0, false, 0, 0⟩ → s.mspi.posted = [] →
      exec (.mspiDeferredAccessEnd env) s =
        .next { s with mspi := { s.mspi with held := some ⟨false, Reg.DEV_SCRATCH, 0, true, stOk, s.rd Reg.DEV_SCRATCH⟩ } })

/-- With room in the four-entry buffer a write frame to an aligned store address enters it with OK and the store stays as
it is; with the buffer full it is answered RETRY and not performed. The oldest posted write, to a powered bank whose
word holds no error, puts its four bytes little-endian at its address and leaves every other byte; one to an unpowered
bank leaves the store, is recorded as posted and raises event 0x07. Part of R34 and R35. (spec/01_device_organisation.md, spec/06_store_and_dma.md) -/
def Obligations.PostedStoreWritesReachTheStore : Prop :=
  ∀ (a : BitVec 32) (d : Word) (crc : Byte) (env : BusEnv) (late : Bool) (ws : List (Nat × Word)) (s : State),
    s.mspiUp = true → s.boot.afterMspi = none → storeBase ≤ a.toNat → a.toNat < storeEnd → a.toNat % 4 = 0 →
    (s.fabricOpen = true → s.mspi.held = none → crc8 (frameHead 0xA5#8 a.toNat ++ leBytes 4 d.toNat) = crc.toNat →
      (s.mspi.posted.length < 4 →
        exec (.mspiWrite a d crc late env) s =
          .next { s with mspi := { s.mspi with posted := s.mspi.posted ++ [(a.toNat, d)], miso := writeAnswer stOk } }) ∧
      (4 ≤ s.mspi.posted.length → exec (.mspiWrite a d crc late env) s = .next (s.setMiso (writeAnswer stRetry)))) ∧
    (s.mspi.posted = (a.toNat, d) :: ws → s.domOn pdCst = true → s.bankPowered (bankOf a.toNat) = true →
      s.eccAt (wordIndex a.toNat) = 0 → s.fld Fld.CST_ECC_INJ_MODE = 0 →
      ∃ t, exec .postedStoreWrite s = .next t ∧ t.storeBytes a.toNat 4 = leBytes 4 d.toNat ∧
        (∀ b, b < a.toNat ∨ a.toNat + 4 ≤ b → t.storeByte b = s.storeByte b) ∧
        t = { s with store := t.store, mspi := { s.mspi with posted := ws } }) ∧
    (s.mspi.posted = (a.toNat, d) :: ws → s.domOn pdCst = true → s.bankPowered (bankOf a.toNat) = false → s.raiseRoom 1 →
      ∃ t, exec .postedStoreWrite s = .next t ∧ t.raise = s.raise ++ [s.occurrence 0x07 stDomainOff] ∧
        t.on Fld.DEV_MERR_INFO_POSTED = true ∧
        t = { s with regs := t.regs, raise := t.raise, mspi := { s.mspi with posted := ws } } ∧
        s.regsBut t [Reg.DEV_MERR_ADDR, Reg.DEV_MERR_INFO])

/-- A write that the fabric lets pass loads a plain read-write register, puts the four bytes little-endian into a store
word without error and leaves every other byte (through MSPI it is posted first), and loads a word of a core's program
memory and no other word of it. A write of DEV_CTRL by Proctor that asks for a reset is DENIED and starts none. Part of
R20, R34, R36 and the core windows of spec/01. (spec/01_device_organisation.md, spec/14_dsp_cluster.md) -/
def Obligations.WritesAtAnyAddressReachTheirTarget : Prop :=
  ∀ (q : Requester) (a : BitVec 32) (d : Word) (env : BusEnv) (s : State),
    (a.toNat ∈ [Reg.DEV_SCRATCH, Reg.BOOT_FL_ADDR, Reg.BOOT_FL_LEN, Reg.CAL_SAVE_LEN] → s.passes q a.toNat true →
      ∃ t, exec (.registerWrite q a d env) s = .next t ∧ t.rd a.toNat = writeWord a.toNat d (s.rd a.toNat) ∧
        s.onlyRegs t [a.toNat]) ∧
    (a.toNat = Reg.DEV_SCRATCH → writeWord a.toNat d (s.rd a.toNat) = d) ∧
    (storeBase ≤ a.toNat → q ≠ .mspi → s.passes q a.toNat true → s.eccAt (wordIndex a.toNat) = 0 → s.fld Fld.CST_ECC_INJ_MODE = 0 →
      ∃ t, exec (.registerWrite q a d env) s = .next t ∧ t.storeBytes a.toNat 4 = leBytes 4 d.toNat ∧
        (∀ b, b < a.toNat ∨ a.toNat + 4 ≤ b → t.storeByte b = s.storeByte b) ∧ t = { s with store := t.store }) ∧
    (storePosts a.toNat = true → s.inTurn .mspi →
      exec (.registerWrite .mspi a d env) s = .next { s with mspi := { s.mspi with posted := [(a.toNat, d)] } }) ∧
    (∀ (n w : Nat), n < 12 → w < 0x4000 → a.toNat = 0x400000 + 0x40000 * n + 4 * w → s.passes q a.toNat true →
      ∃ t, exec (.registerWrite q a d env) s = .next t ∧ (t.core n).progWord w = d ∧
        (∀ v, v ≠ w → (t.core n).progWord v = (s.core n).progWord v) ∧ (∀ m, m ≠ n → t.core m = s.core m) ∧
        t = { s with cores := t.cores }) ∧
    (a.toNat = Reg.DEV_CTRL → s.domOn pdCtl = true → (devCtrlReset d).isSome = true →
      exec (.registerWrite .proctor a d env) s = .next (s.merr .proctor Reg.DEV_CTRL true false stDenied))

/-- The next entry of the MGQ that runs, not its last one, addressed to DEV_SCRATCH: READ answers OK with its word and
changes nothing but the answers; WRITE loads it and answers OK; MODIFY loads it under MASK and answers OK with the word
read. Each counts the entry as performed. Part of R150 and R151. (spec/05_link_packets_queues.md, spec/01_device_organisation.md) -/
def Obligations.MgqEntriesAreAnswered : Prop :=
  ∀ (env : BusEnv) (m : MgqState) (s : State), s.link.mgq = some m → m.done + 1 < fieldAt m.payload 2 1 →
    mgqAddr m.payload m.done = Reg.DEV_SCRATCH → s.domOn pdCtl = true →
    (mgqOp m.payload m.done = 1 →
      exec (.mgqRead env) s = .next { s with link := { s.link with mgq := some { m with
        done := m.done + 1, answers := m.answers ++ leBytes 4 stOk ++ leBytes 4 (s.rd Reg.DEV_SCRATCH).toNat, stopped := false } } }) ∧
    (mgqOp m.payload m.done = 2 →
      ∃ t, exec (.mgqWrite env) s = .next t ∧ t.rd Reg.DEV_SCRATCH = mgqData m.payload m.done ∧
        t.link = { s.link with mgq := some { m with
          done := m.done + 1, answers := m.answers ++ leBytes 4 stOk ++ leBytes 4 0, stopped := false } } ∧
        t = { s with regs := t.regs, link := t.link } ∧ s.regsBut t [Reg.DEV_SCRATCH]) ∧
    (mgqOp m.payload m.done = 3 →
      ∃ t, exec (.mgqModify env) s = .next t ∧
        t.rd Reg.DEV_SCRATCH = (s.rd Reg.DEV_SCRATCH &&& ~~~mgqMask m.payload m.done) |||
          (mgqData m.payload m.done &&& mgqMask m.payload m.done) ∧
        t.link = { s.link with mgq := some { m with
          done := m.done + 1, answers := m.answers ++ leBytes 4 stOk ++ leBytes 4 (s.rd Reg.DEV_SCRATCH).toNat, stopped := false } } ∧
        t = { s with regs := t.regs, link := t.link } ∧ s.regsBut t [Reg.DEV_SCRATCH])

/-- An enabled link that is DOWN with ROOT_LOCK, retries left and PD_LNK on enters DETECT with every lane's fields cleared
but HDR_ERR and EQ_DEFAULT and takes LNK_WIDTH_MAX for this bring-up; a detection try shows the terminations found, and
with a TB and a QB clock found enters TRAIN with every lane's equalisation taken; TRAIN settles into LOCK; a lane that
passes its steps in LOCK is locked with its phase and skew shown; a bring-up timer that expires in LOCK or ROLL_CALL
falls to DOWN with reason 7 and costs a retry. Part of R106 to R110 and R113. (spec/04_link_lanes.md) -/
def Obligations.LinkBringUpReachesLock : Prop :=
  ∀ (s : State),
    (s.linkIs lnkDown = true → s.on Fld.LNK_CTRL_ENABLE = true → s.on Fld.CLK_STATUS_ROOT_LOCK = true →
      s.on Fld.LNK_RETRY_EXHAUSTED = false → s.domOn pdLnk = true →
      ∃ t, exec .linkDownExit s = .next t ∧ t.linkIs lnkDetect = true ∧
        (∀ e < 44, t.rd (Reg.LNK_LANE_STATUSe e) = s.rd (Reg.LNK_LANE_STATUSe e) &&& 0xFFFF0010#32) ∧
        (∀ b < 4, t.widthMax b = getField (4 * b + 3) (4 * b) (s.rd Reg.LNK_WIDTH_MAX)) ∧
        t = { s with regs := t.regs, link := { s.link with maxes := t.link.maxes } } ∧
        s.regsBut t (Reg.LNK_STATUS :: (List.range 44).map Reg.LNK_LANE_STATUSe)) ∧
    (∀ (term : BitVec 22) (c1 st1 : Bool), s.linkIs lnkDetect = true → term.getLsbD 0 = true → term.getLsbD 10 = true →
      s.widthMax 0 ≠ 15 → s.widthMax 2 ≠ 15 →
      ∃ t, exec (.detectionTry term true c1 true st1) s = .next t ∧ t.linkIs lnkTrain = true ∧ 0 ∈ t.link.tbClock ∧
        t.link.locked = [] ∧ (∀ e < 22, t.on (Fld.LNK_LANE_STATUSe_DETECTED e) = term.getLsbD e) ∧
        (∀ e < 44, SMap.get 0 t.link.eq e = s.rd (Reg.LNK_EQe e)) ∧ t = { s with regs := t.regs, link := t.link } ∧
        s.regsBut t (Reg.LNK_STATUS :: (List.range 44).map Reg.LNK_LANE_STATUSe)) ∧
    (s.linkIs lnkTrain = true →
      ∃ t, exec .trainSettleEnd s = .next t ∧ t.linkIs lnkLock = true ∧ s.onlyRegs t [Reg.LNK_STATUS]) ∧
    (∀ (lane : Fin 22) (phase : BitVec 6) (skew : Nat), s.linkIs lnkLock = true → s.on Fld.LNK_STATUS_RX_LOCKED = false →
      lane.val % 11 < widthOf (s.widthMax (2 + lane.val / 11)) → skew < 32 → lane.val % 11 ≠ 10 →
      ∃ t, exec (.laneLock lane phase true skew true) s = .next t ∧
        t.link = { s.link with locked := s.link.locked ++ [22 + lane.val] } ∧
        t.on (Fld.LNK_LANE_STATUSe_BIT_LOCK (22 + lane.val)) = true ∧
        t.on (Fld.LNK_LANE_STATUSe_BLOCK_LOCK (22 + lane.val)) = true ∧
        t.fld (Fld.LNK_LANE_STATUSe_PHASE (22 + lane.val)) = phase.toNat ∧
        t.fld (Fld.LNK_LANE_STATUSe_SKEW (22 + lane.val)) = skew ∧ t = { s with regs := t.regs, link := t.link } ∧
        s.regsBut t [Reg.LNK_LANE_STATUSe (22 + lane.val)]) ∧
    (s.linkIs lnkLock = true ∨ s.linkIs lnkRollCall = true → s.fld Fld.LNK_RETRY_LIMIT = 0 →
      ∃ t, exec .bringupTimeout s = .next t ∧ t.linkIs lnkDown = true ∧ t.fld Fld.LNK_DOWN_INFO_REASON = 7 ∧
        t.fld Fld.LNK_RETRY_COUNT = min 255 (s.fld Fld.LNK_RETRY_COUNT + 1) ∧ t.link.locked = [] ∧
        t = { s with regs := t.regs, link := t.link } ∧
        s.regsBut t [Reg.LNK_STATUS, Reg.LNK_DOWN_INFO, Reg.LNK_RETRY])

/-- RX_LOCKED centres the elastic buffers and restarts the phase total; the eighth DESKEW block in a row with RX_LOCKED on
the one QB with a locked width enters ROLL_CALL; an exchange that concludes with a TB and a QB in use takes the agreed
widths and sends SWITCH; SWITCH on lane 0 of every QB in use, once SWITCH has been sent, enters ACTIVE with the widths
shown, the retry count cleared, and event 0x20. Part of R101, R110 to R112. (spec/04_link_lanes.md, spec/05_link_packets_queues.md) -/
def Obligations.RollCallLeadsToActive : Prop :=
  ∀ (s : State),
    (s.linkIs lnkLock = true → s.on Fld.LNK_STATUS_RX_LOCKED = false → s.lockedWidth 0 ≠ 15 → s.link.deskew0 < 8 →
      ∃ t, exec .rxLockedSet s = .next t ∧ t.on Fld.LNK_STATUS_RX_LOCKED = true ∧ t.rd Reg.LNK_EBUF0 = 0 ∧
        t.rd Reg.LNK_EBUF1 = 0 ∧ t.linkIs lnkLock = true ∧
        t = { s with regs := t.regs, link := { s.link with wandered := [] }, clk := { s.clk with sinceLock := 0 } } ∧
        s.regsBut t [Reg.LNK_STATUS, Reg.LNK_EBUF0, Reg.LNK_EBUF1]) ∧
    (∀ payload : BitVec 64, payload.toNat % 256 = 0x4B → payload.getLsbD 16 = true → s.linkIs lnkLock = true →
      s.on Fld.LNK_STATUS_RX_LOCKED = true → s.link.deskew0 = 7 → s.lockedWidth 0 ≠ 15 → s.lockedWidth 1 = 15 →
      ∃ t, exec (.deskewBlockRx 0 payload) s = .next t ∧ t.linkIs lnkRollCall = true ∧
        t.on Fld.LNK_STATUS_PARTNER_LOCKED = true ∧ t.link.capVersion = 1 ∧ t.link.acked = false ∧ t.link.peer = none ∧
        (∀ n < 32, (t.queue n).sentCap = s.initialGrant n ∧ (t.queue n).sentUse = s.marksUsed n ∧ (t.queue n).use = false ∧
          (t.queue n).pkts = (s.queue n).pkts)) ∧
    (∀ p : List Byte, s.link.peer = some p → s.linkIs lnkRollCall = true → s.link.acked = true → s.link.ackSent = true →
      s.link.switchSent = false → s.link.switchRx = [] → (s.agreedWidths p).getD 0 15 ≠ 15 → (s.agreedWidths p).getD 2 15 ≠ 15 →
      s.raiseRoom 4 →
      ∃ t, exec .rollCallConclude s = .next t ∧ t.linkIs lnkRollCall = true ∧
        t.link = { s.link with widths := s.agreedWidths p, switchSent := true } ∧
        t = { s with raise := t.raise, link := t.link } ∧ s.raise <+: t.raise) ∧
    (∀ payload : BitVec 64, payload.toNat % 256 = 0x55 → s.linkIs lnkRollCall = true → s.link.switchSent = true →
      s.qbInUse 0 = true → s.qbInUse 1 = false → s.raiseRoom 1 →
      ∃ t, exec (.switchBlockRx 0 payload) s = .next t ∧ t.linkIs lnkActive = true ∧ t.fld Fld.LNK_RETRY_COUNT = 0 ∧
        t.raise = s.raise ++ [s.occurrence 0x20 0] ∧ t.fld Fld.LNK_STATUS_QB0_W = s.link.widths.getD 2 15 % 16 ∧
        (∀ n < 32, t.fld (Fld.QUE_CONSn_TOTAL n) = 0 ∧ (t.queue n).pkts = (s.queue n).pkts ∧ (t.queue n).tx0 = 0 ∧
          (t.queue n).init0 = true))

/-- From ACTIVE, the loss of the clock of a QB in use (reason 2), of block lock on a lane in use (reason 3), an offset
beyond 64 UI on a centred buffer of a QB in use (reason 4), and a write of LNK_CTRL with RESTART or with ENABLE 0
(reason 1) each take the link DOWN with that reason: the exit is counted, event 0x21 raised, no queue stays in use, the
outbound data and management queues are emptied, and memory, fuses, flash and domains stay. With no reset waiting for
an MGA and no margin scan running. Part of R113, R115 and R144. (spec/04_link_lanes.md, spec/05_link_packets_queues.md) -/
def Obligations.LeavingActiveEndsTheSession : Prop :=
  ∀ (c : Instr) (reason : Nat) (q : Requester) (d : Word) (k : Fin 2) (lane : Fin 22) (h : Fin 65) (off : Int) (s : State),
    s.linkIs lnkActive = true → s.mgaWaits = [] → s.lopBusy 9 = false → s.raiseRoom 32 →
    ((c = .clkLoss k ∧ s.qbInUse k.val = true ∧ reason = 2) ∨
     (c = .blockLockLoss lane h ∧ 16 ≤ h.val ∧ lane.val % 11 < widthOf (s.link.widths.getD (2 + lane.val / 11) 15) ∧ reason = 3) ∨
     ((c = .ebufSlip k off ∨ c = .ebufWander k off) ∧ s.on Fld.LNK_STATUS_RX_LOCKED = true ∧ s.qbInUse k.val = true ∧ 64 < off.natAbs ∧ reason = 4) ∨
     (c = .lnkCtrlRestart q d ∧ s.passes q Reg.LNK_CTRL true ∧ reason = 1) ∨
     (c = .lnkCtrlEnable q d ∧ s.passes q Reg.LNK_CTRL true ∧ Fld.LNK_CTRL_ENABLE.of d = 0 ∧ reason = 1)) →
    ∃ t, exec c s = .next t ∧ t.linkIs lnkDown = true ∧ t.fld Fld.LNK_DOWN_INFO_REASON = reason ∧
      t.fld Fld.LNK_DOWN_INFO_COUNT = min 65535 (s.fld Fld.LNK_DOWN_INFO_COUNT + 1) ∧ t.link.widths = [15, 15, 15, 15] ∧
      t.link.records = [] ∧ (∀ n < 32, (t.queue n).use = false) ∧ (∀ n, 16 ≤ n → n < 28 → (t.queue n).pkts = []) ∧
      (∃ r ∈ t.raise, r.code = 0x21) ∧ t.store = s.store ∧ t.flash = s.flash ∧ t.fuses = s.fuses ∧ t.domains = s.domains ∧
      t.dma = s.dma ∧ t.cores = s.cores

/-- Writing ENABLE 1 without RESTART sets ENABLE alone; wander beyond 48 UI of a centred buffer raises event 0x27 once
after a centring and records the extremes; a GO of LNK_TEST with ROOT_LOCK on a link that is DOWN enters TEST with
loop, pattern and duration taken; setting CHK_EN clears the checkers' counts; the end of a timed TEST takes the link
DOWN with reason 6, and adds what running checkers counted. Part of R101, R113, R117 and R118. (spec/04_link_lanes.md) -/
def Obligations.LinkTestAndWander : Prop :=
  ∀ (q : Requester) (d : Word) (s : State),
    (s.passes q Reg.LNK_CTRL true → Fld.LNK_CTRL_ENABLE.of d = 1 →
      ∃ t, exec (.lnkCtrlEnable q d) s = .next t ∧ t.on Fld.LNK_CTRL_ENABLE = true ∧ s.onlyRegs t [Reg.LNK_CTRL]) ∧
    (∀ (k : Fin 2) (off : Int), 48 < off.natAbs → off.natAbs ≤ 64 → s.on Fld.LNK_STATUS_RX_LOCKED = true → k.val ∉ s.link.wandered → s.raiseRoom 1 →
      ∃ t, exec (.ebufWander k off) s = .next t ∧ k.val ∈ t.link.wandered ∧ t.raise = s.raise ++ [s.occurrence 0x27 0] ∧
        sext 8 (getField 7 0 (t.rd (Reg.LNK_EBUF0 + 4 * k.val))) = off ∧
        t = { s with regs := t.regs, raise := t.raise, link := t.link } ∧ s.regsBut t [Reg.LNK_EBUF0 + 4 * k.val]) ∧
    (s.passes q Reg.LNK_TEST true → s.on Fld.CLK_STATUS_ROOT_LOCK = true → s.linkIs lnkDown = true →
      s.on Fld.LNK_TEST_CHK_EN = true →
      ∃ t, exec (.lnkTestGo q d) s = .next t ∧ t.linkIs lnkTest = true ∧ t.on Fld.LNK_TEST_GO = true ∧
        t.link = { s.link with
          testLoop := t.fld Fld.LNK_TEST_LOOP, testPattern := t.fld Fld.LNK_TEST_PATTERN
          testMs := Fld.LNK_TEST_DURATION_MS.of d
          tbClock := if t.fld Fld.LNK_TEST_LOOP = 3 then [0, 1] else s.link.tbClock } ∧
        t = { s with regs := t.regs, link := t.link } ∧ s.regsBut t [Reg.LNK_TEST, Reg.LNK_STATUS]) ∧
    (s.passes q Reg.LNK_TEST true → s.on Fld.LNK_TEST_CHK_EN = false →
      ∃ t, exec (.lnkTestChkEn q d) s = .next t ∧ t.on Fld.LNK_TEST_CHK_EN = true ∧
        (∀ e < 44, t.rd (Reg.LNK_PRBS_ERRe e) = 0) ∧ t.rd Reg.LNK_PRBS_UI_LO = 0 ∧ t.rd Reg.LNK_PRBS_UI_HI = 0 ∧
        s.onlyRegs t ([Reg.LNK_TEST, Reg.LNK_PRBS_UI_LO, Reg.LNK_PRBS_UI_HI] ++ (List.range 44).map Reg.LNK_PRBS_ERRe)) ∧
    (∀ (errors : List Nat) (ui : Nat), s.linkIs lnkTest = true → s.link.testMs ≠ 0 → s.on Fld.LNK_TEST_CHK_EN = true →
      ∃ t, exec (.testEnd false errors ui) s = .next t ∧ t.linkIs lnkDown = true ∧ t.fld Fld.LNK_DOWN_INFO_REASON = 6 ∧
        t.on Fld.LNK_TEST_GO = false ∧
        (∀ l < 22, l % 11 ≠ 10 → t.fld (Fld.LNK_PRBS_ERRe_ERR (22 + l)) =
          min (2 ^ 32 - 1) (s.fld (Fld.LNK_PRBS_ERRe_ERR (22 + l)) + errors.getD l 0)) ∧
        t = { s with regs := t.regs, link := t.link })

/-- A GO of LNK_MARGIN_CTRL on an ACTIVE link with its destination inside the store and PD_CST on runs LOP9 over the QB
data lanes in use, with its destination readable at LOP_RES9; a GO while it is busy sets OVERRUN alone; off an ACTIVE
link it ends FAILED with error 1. Each unit writes its lane's 64 counts, little-endian, at 128 bytes times its number,
and every other byte of the store stays; the last one ends the scan DONE. Part of R119 and R120. (spec/04_link_lanes.md, spec/15_housekeeping_events.md) -/
def Obligations.MarginScanFillsItsResults : Prop :=
  ∀ (q : Requester) (d : Word) (s : State),
    (s.passes q Reg.LNK_MARGIN_CTRL true →
      (s.lopBusy 9 = true →
        ∃ t, exec (.lop9MarginScan q d) s = .next t ∧ t.on Fld.LNK_MARGIN_CTRL_OVERRUN = true ∧ s.onlyRegs t [Reg.LNK_MARGIN_CTRL]) ∧
      (s.lopBusy 9 = false → s.linkIs lnkActive = true → storeBase ≤ s.fld Fld.LNK_MARGIN_DEST_ADDR →
        s.fld Fld.LNK_MARGIN_DEST_ADDR + 128 * s.scanLanes.length ≤ storeEnd → s.domOn pdCst = true →
        ∃ t, exec (.lop9MarginScan q d) s = .next t ∧ t.lopState 9 = lopRunning ∧
          t.lopRes 9 = s.rd Reg.LNK_MARGIN_DEST ∧
          t = { s with regs := t.regs, link := { s.link with scan := s.scanLanes, scanDest := s.fld Fld.LNK_MARGIN_DEST_ADDR } } ∧
          s.regsBut t [Reg.LNK_MARGIN_CTRL, Reg.LOP_STATn 9]) ∧
      (s.lopBusy 9 = false → s.linkIs lnkActive = false → s.raiseRoom 1 →
        ∃ t, exec (.lop9MarginScan q d) s = .next t ∧ t.lopState 9 = lopFailed ∧ t.fld (Fld.LOP_STATn_ERR 9) = 1 ∧
          t.raise = s.raise ++ [s.occurrence 0x06 (9 + 16 * lopFailed + 256)])) ∧
    (∀ (counts : List (BitVec 16)) (lane : Nat) (rest : List Nat),
      ∀ at', at' = s.link.scanDest + 128 * s.fld (Fld.LOP_STATn_UNITS_DONE 9) → s.link.scan = lane :: rest → s.lopState 9 = lopRunning →
      s.ecc = [] → s.fld Fld.CST_ECC_INJ_MODE = 0 → storeBase ≤ at' → at' % 8 = 0 →
      ∃ t, exec (.lop9UnitEnd counts) s = .next t ∧
        t.storeBytes at' 128 = (List.range 64).flatMap (fun i => leBytes 2 (counts.getD i 0).toNat) ∧
        (∀ b, b < at' ∨ at' + 128 ≤ b → t.storeByte b = s.storeByte b) ∧ t.link = { s.link with scan := rest } ∧
        (rest = [] → t.lopState 9 = lopDone ∧ t.on Fld.LNK_MARGIN_CTRL_GO = false) ∧
        (rest ≠ [] → t.lopState 9 = lopRunning ∧ t.raise = s.raise))

/-- On an ACTIVE link whose framing holds and where no flush waits for the packet that arrives, a well-framed packet of any
received type (DLD, SEC, WGT, TIM, MGQ, CRD, CAP, LBK) whose CRC-32 trailer does not match is counted in its QB's CRC
count, raises event 0x28, and changes no queue, credit, register or other state. Part of R125, R127 and R132. (spec/05_link_packets_queues.md) -/
def Obligations.ABadTrailerDropsThePacket : Prop :=
  ∀ (k : Fin 2) (bs : List Byte) (ph : Fin 5) (c : Instr) (ty : Nat) (s : State),
    (c = .dldReceive k false false bs ∧ ty = tyDld) ∨ (c = .secReceive k false false bs ∧ ty = tySec) ∨
      (c = .wgtReceive k false false bs ∧ ty = tyWgt) ∨ (c = .timReceive k false false bs ph ∧ ty = tyTim) ∨
      (c = .mgqReceive k false false bs ∧ ty = tyMgq) ∨ (c = .crdReceive k false false bs ∧ ty = tyCrd) ∨
      (c = .capReceive k false false bs ∧ ty = tyCap) ∨ (c = .lbkReceive k false false bs ∧ ty = tyLbk) →
    s.linkIs lnkActive = true → s.link.lost0 = false → s.link.lost1 = false → framingBad (typed ty bs) = false →
    trailerOk (typed ty bs) = false → s.raiseRoom 1 →
    (∀ n < 12, k.val ∉ (s.queue n).doomed) →
    ∃ t, exec c s = .next t ∧ t.fld (rxErrCrc k.val) = min 65535 (s.fld (rxErrCrc k.val) + 1) ∧
      t.raise = s.raise ++ [s.occurrence 0x28 k.val] ∧ t = { s with regs := t.regs, raise := t.raise } ∧
      s.regsBut t [Reg.QUE_RXERR0 + 4 * k.val]

/-- Of packets that pass the receive checks, with no flush waiting for their end: a CRD entry for an outbound queue in use
loads its GRANT, and one for an inbound queue in use waits to be reconciled, which returns the credits lost in transit
to GRANT and counts them in CONS; a CAP acknowledgement with the version sent is taken, and a peer CAP that R146
accepts is stored and shown; an LBK waits for its echo, and a second one is counted as dropped; a well-formed MGQ on an
idle queue with credit for its MGA is stored and begun. Part of R137, R139, R146, R147, R151 and R153. (spec/05_link_packets_queues.md) -/
def Obligations.LinkControlPacketsTakeEffect : Prop :=
  ∀ (k : Fin 2) (bs : List Byte) (s : State), (∀ n < 12, k.val ∉ (s.queue n).doomed) →
    (∀ p, p = typed tyCrd bs → ∀ u, u = (s.receive k.val false false p).1 → (s.receive k.val false false p).2 = true →
      pktLen p = 4 → ∀ w, w = fieldAt (pktPayload p) 0 4 → ∀ n, n = w / 2 ^ 24 % 32 → (u.queue n).use = true → (u.queue 10).pkts = [] → u.link.mgq = none →
      ∃ t, exec (.crdReceive k false false bs) s = .next t ∧
        (12 ≤ n → t.fld (Fld.QUE_GRANTn_TOTAL n) = w % 2 ^ 24 ∧ t.queues = u.queues) ∧
        (n < 12 → (t.queue n).reports = (u.queue n).reports ++ [w % 2 ^ 24] ∧ t.regs = u.regs)) ∧
    (∀ (n : Fin 12) (r : Nat) (rs : List Nat), (s.queue n.val).reports = r :: rs →
      ∀ d, d = (r + 2 ^ 24 - s.fld (Fld.QUE_CONSn_TOTAL n.val)) % 2 ^ 24 → 1 ≤ d → d < 2 ^ 23 → s.linkIs lnkActive = true →
      ∃ t, exec (.crdReconcile n) s = .next t ∧ (t.queue n.val).reports = rs ∧
        t.fld (Fld.QUE_CONSn_TOTAL n.val) = (s.fld (Fld.QUE_CONSn_TOTAL n.val) + d) % 2 ^ 24 ∧
        t.fld (Fld.QUE_GRANTn_TOTAL n.val) = (s.fld (Fld.QUE_GRANTn_TOTAL n.val) + d) % 2 ^ 24 ∧
        t = { s with regs := t.regs, queues := t.queues } ∧ (∀ m, m ≠ n.val → t.queue m = s.queue m) ∧
        s.regsBut t [Reg.QUE_CONSn n.val, Reg.QUE_GRANTn n.val]) ∧
    (∀ p, p = typed tyCap bs → ∀ u, u = (s.receive k.val false false p).1 → (s.receive k.val false false p).2 = true →
      s.linkIs lnkRollCall = true →
      (pktLen p = 0 → pktSeq p = u.link.capVersion →
        exec (.capReceive k false false bs) s = .next { u with link := { u.link with acked := true } }) ∧
      (pktLen p = 160 → u.capReason (pktPayload p) 160 = none →
        ∃ t, exec (.capReceive k false false bs) s = .next t ∧
          t.link = { u.link with peer := some (pktPayload p), peerVersion := pktSeq p } ∧
          (∀ i < 40, t.rd (Reg.QUE_PEER_CAP i) = BitVec.ofNat 32 (fieldAt (pktPayload p) (4 * i) 4)))) ∧
    (∀ p, p = typed tyLbk bs → ∀ u, u = (s.receive k.val false false p).1 → (s.receive k.val false false p).2 = true →
      (u.link.lbk = none → exec (.lbkReceive k false false bs) s =
        .next { u with link := { u.link with lbk := some (k.val, bytesAt p 0 (16 + pktLen p)) } }) ∧
      (u.link.lbk.isSome = true → ∃ t, exec (.lbkReceive k false false bs) s = .next t ∧
        t.fld Fld.QUE_MISC_LBK_DROP = min 65535 (u.fld Fld.QUE_MISC_LBK_DROP + 1) ∧ u.onlyRegs t [Reg.QUE_MISC])) ∧
    (∀ p, p = typed tyMgq bs → ∀ u, u = (s.receive k.val false false p).1 → (s.receive k.val false false p).2 = true →
      (u.queue 10).pkts = [] → u.link.mgq = none → u.linkIs lnkActive = true → (u.queue 27).unlimited = true →
      (u.queue 27).occupancy + 3 ≤ 256 → mgqMalformed (pktPayload p) (pktLen p) = false → p.length = 20 + pktLen p →
      ∃ t, exec (.mgqReceive k false false bs) s = .next t ∧
        t.link.mgq = some ⟨pktPayload p, pktSub p, 0, [], false⟩ ∧ (t.queue 10).pkts.length = 1 ∧
        (∀ m, m ≠ 10 → t.queue m = u.queue m))

/-- On a TB that is free, the first packet of an outbound queue that may send leaves on its TB with its SEQ and SEQ_INIT, a
matching trailer and padding, its credits are counted in CONS and the sequence moves on; a packet whose words read
uncorrectable leaves with its trailer inverted. CRD carries the changed totals of the queues in use and clears the
changes; CAP leaves on every detected TB until acknowledged and acknowledges the peer's; the waiting LBK is echoed;
event records are packed into one EVT; a keep-alive is an empty EVT; an MGQ held back starts once credit and room
allow. Part of R126, R130, R134, R137, R138, R140, R147, R152, R153 and R159. (spec/05_link_packets_queues.md) -/
def Obligations.OutboundPacketsLeave : Prop :=
  ∀ (s : State),
    (∀ (n : Fin 32) (k : Fin 2) (p : StoredPkt) (ps : List StoredPkt), s.maySend n.val k.val = true → n.val ≠ 27 →
      (s.queue n.val).pkts = p :: ps → s.fld (Fld.QUE_WMn_LEVEL n.val) = 0 → (∀ f ∈ s.link.flight, f.tb ≠ k.val) →
      ∀ seq, seq = (if k = 0 then (s.queue n.val).tx0 else (s.queue n.val).tx1) →
      ∀ b, b = withSeq (s.pktNow p) seq (if k = 0 then (s.queue n.val).init0 else (s.queue n.val).init1) →
      ((s.readPacket p reqLinkOut).2 = false →
        ∃ t, exec (.outboundPacketSend n k []) s = .next t ∧ (t.queue n.val).pkts = ps ∧ t.link.sent = [(k.val, onWireBad b)]) ∧
      (s.ecc = [] →
        ∃ t, exec (.outboundPacketSend n k []) s = .next t ∧ (t.queue n.val).pkts = ps ∧
          t.link = { s.link with
            sent := [(k.val, onWire b)]
            flight := s.link.flight ++ [⟨k.val, n.val, b,
              blockCycles ((onWire b).length / 8) (widthOf (s.link.widths.getD k.val 15)), p.after⟩] } ∧
          (if k = 0 then (t.queue n.val).tx0 else (t.queue n.val).tx1) = (seq + 1) % 65536 ∧
          t.fld (Fld.QUE_CONSn_TOTAL n.val) = (s.fld (Fld.QUE_CONSn_TOTAL n.val) + p.credits) % 2 ^ 24 ∧
          t = { s with regs := t.regs, queues := t.queues, link := t.link } ∧ (∀ m, m ≠ n.val → t.queue m = s.queue m) ∧
          s.regsBut t [Reg.QUE_LEVELn n.val, Reg.QUE_CONSn n.val])) ∧
    (s.linkIs lnkActive = true → (∀ f ∈ s.link.flight, f.tb ≠ s.controlTb) →
      ∀ qs, qs = (List.range 32).filter (fun n => (s.queue n).use && (s.queue n).dirty) → ∀ body, body = qs.flatMap s.crdEntry →
      ∃ t, exec (.crdSend false) s = .next t ∧
        t.link = { s.link with sent := [(s.controlTb, onWire (controlHeader tyCrd body.length 0 ++ body))] } ∧
        (∀ n < 32, t.queue n = if (s.queue n).use then { s.queue n with dirty := false } else s.queue n) ∧
        t = { s with queues := t.queues, link := t.link }) ∧
    (s.linkIs lnkRollCall = true → ∀ tbs, tbs = (List.range 2).filter (fun k => s.on (Fld.LNK_LANE_STATUSe_DETECTED (11 * k))) →
      (s.link.acked = false → exec (.capSend false) s = .next { s with link := { s.link with
        sent := tbs.map (fun k => (k, onWire (controlHeader tyCap 160 s.link.capVersion ++ s.link.cap))) } }) ∧
      (s.link.peer.isSome = true → exec (.capSend true) s = .next { s with link := { s.link with
        ackSent := true, sent := tbs.map (fun k => (k, onWire (controlHeader tyCap 0 s.link.peerVersion))) } })) ∧
    (∀ (k : Nat) (p : List Byte), s.link.lbk = some (k, p) → (∀ f ∈ s.link.flight, f.tb ≠ (if s.tbInUse k then k else 1 - k)) →
      exec .lbkEcho s = .next { s with link := { s.link with
        lbk := none, sent := [(if s.tbInUse k then k else 1 - k, onWire p)] } }) ∧
    (s.linkIs lnkActive = true → s.link.records ≠ [] → s.fld (Fld.QUE_WMn_LEVEL 26) = 0 →
      ∃ t, exec .evtSend s = .next t ∧ t.link = { s.link with records := s.link.records.drop 32 } ∧
        (t.queue 26).pkts = (s.queue 26).pkts ++ [⟨mkHeader tyEvt 0 26 0 (16 * (s.link.records.take 32).length) 0 ++
          (s.link.records.take 32).flatMap evtRecord, false, s.air, 0, [], []⟩] ∧ (∀ m, m ≠ 26 → t.queue m = s.queue m) ∧
        t = { s with regs := t.regs, queues := t.queues, link := t.link } ∧ s.regsBut t [Reg.QUE_LEVELn 26]) ∧
    (s.linkIs lnkActive = true → (s.queue 26).use = true → (s.queue 26).occupancy < 256 → s.fld (Fld.QUE_WMn_LEVEL 26) = 0 →
      ∃ t, exec .evtKeepalive s = .next t ∧
        (t.queue 26).pkts = (s.queue 26).pkts ++ [⟨mkHeader tyEvt 0 26 0 0 0, false, s.air, 0, [], []⟩] ∧
        t = { s with regs := t.regs, queues := t.queues } ∧ s.regsBut t [Reg.QUE_LEVELn 26]) ∧
    (∀ (p : StoredPkt) (ps : List StoredPkt), (s.queue 10).pkts = p :: ps → s.link.mgq = none → s.linkIs lnkActive = true →
      (s.queue 27).unlimited = true → (s.queue 27).occupancy + 3 ≤ 256 →
      mgqMalformed (pktPayload p.bytes) (pktPayload p.bytes).length = false →
      exec .mgqStartDeferred s = .next { s with
        queues := (s.setQueue 10 { s.queue 10 with pkts := { p with begun := true } :: ps }).queues
        link := { s.link with mgq := some ⟨pktPayload p.bytes, pktSub p.bytes, 0, [], false⟩ } })

/-- A flush drops the packets of each queue in use that is named, but those whose consumption or sending has begun, counts
them as discarded, and makes the next outbound packet carry SEQ_INIT; queues not named or not in use keep their
packets; a flush of an inbound queue whose packet is arriving waits for its end. A pointer mismatch empties its queue,
counts its packets and raises event 0x26, and ends a packet of it that is being sent with an inverted trailer. CNT_CLR
returns every QUE counter to 0 and leaves the queues. Part of R142, R143 and R447. (spec/05_link_packets_queues.md) -/
def Obligations.QueuesFlushAndReset : Prop :=
  ∀ (q : Requester) (d : Word) (s : State),
    (s.passes q Reg.QUE_FLUSH true → s.linkIs lnkActive = true → (∀ n < 32, s.fld (Fld.QUE_WMn_LEVEL n) = 0) →
      (∀ n < 32, (s.queue n).doomed = []) →
      ((s.queue 27).pkts.flatMap (·.after) = [] →
        ∃ t, exec (.queFlush q d none none) s = .next t ∧
          (∀ n < 32, d.getLsbD n = true → (s.queue n).use = true →
            (t.queue n).pkts = (s.queue n).pkts.filter (fun p => p.begun) ∧
            t.fld (Fld.QUE_DROPAn_DISCARD n) =
              min 65535 (s.fld (Fld.QUE_DROPAn_DISCARD n) + ((s.queue n).pkts.filter (fun p => !p.begun)).length) ∧
            (12 ≤ n → (t.queue n).init0 = true ∧ (t.queue n).init1 = true) ∧
            (n < 12 → t.fld (Fld.QUE_GRANTn_TOTAL n) = (s.fld (Fld.QUE_GRANTn_TOTAL n) +
              (((s.queue n).pkts.filter (fun p => !p.begun)).map StoredPkt.credits).sum) % 2 ^ 24)) ∧
          (∀ n < 32, d.getLsbD n = false ∨ (s.queue n).use = false → t.queue n = s.queue n) ∧
          (d.getLsbD 8 = false → t.sect = s.sect) ∧ t = { s with regs := t.regs, queues := t.queues, sect := t.sect }) ∧
      (∀ n : Fin 12, d = BitVec.twoPow 32 n.val → (s.queue n.val).use = true →
        ∃ t, exec (.queFlush q d (some n) none) s = .next t ∧ t.queue n.val = { s.queue n.val with doomed := [0] } ∧
          (t.rd Reg.QUE_FLUSH).getLsbD n.val = true ∧ (∀ m, m ≠ n.val → t.queue m = s.queue m) ∧
          t = { s with regs := t.regs, queues := t.queues } ∧ s.regsBut t [Reg.QUE_FLUSH])) ∧
    (∀ n : Fin 32, s.raiseRoom 1 → (s.queue n.val).pkts.flatMap (·.after) = [] →
      ((∀ f ∈ s.link.flight, f.queue ≠ n.val) →
        ∃ t, exec (.queuePointerMismatch n none none) s = .next t ∧ (t.queue n.val).pkts = [] ∧
          t.fld (Fld.QUE_LEVELn_LIVE n.val) = 0 ∧
          t.fld (Fld.QUE_DROPAn_DISCARD n.val) = min 65535 (s.fld (Fld.QUE_DROPAn_DISCARD n.val) + (s.queue n.val).pkts.length) ∧
          t.raise = s.raise ++ [s.occurrence 0x26 n.val] ∧ (∀ m, m ≠ n.val → t.queue m = s.queue m) ∧
          (n.val ≠ 8 → t.sect = s.sect) ∧
          t = { s with regs := t.regs, queues := t.queues, raise := t.raise, sect := t.sect } ∧
          s.regsBut t [Reg.QUE_LEVELn n.val, Reg.QUE_DROPAn n.val, Reg.QUE_GRANTn n.val, Reg.QUE_FLUSH]) ∧
      (∀ f : Flight, s.link.flight = [f] → f.queue = n.val → f.after = [] →
        ∃ t, exec (.queuePointerMismatch n none none) s = .next t ∧ (t.queue n.val).pkts = [] ∧
          t.link = { s.link with sent := [(f.tb, onWireBad f.bytes)], flight := [] })) ∧
    (s.passes q Reg.QUE_CTRL true →
      ∃ t, exec (.queCntClr q d) s = .next t ∧ t.rd Reg.QUE_RXERR0 = 0 ∧ t.rd Reg.QUE_RXERR1 = 0 ∧ t.rd Reg.QUE_MISC = 0 ∧
        (∀ n < 32, t.rd (Reg.QUE_DROPAn n) = 0 ∧ t.rd (Reg.QUE_DROPBn n) = 0 ∧ t.rd (Reg.QUE_COUNTn n) = 0) ∧
        t.fld Fld.QUE_CTRL_PL2_ONLY = Fld.QUE_CTRL_PL2_ONLY.of d ∧
        s.onlyRegs t ([Reg.QUE_CTRL, Reg.QUE_RXERR0, Reg.QUE_RXERR1, Reg.QUE_MISC] ++ (List.range 32).map Reg.QUE_DROPAn ++
          (List.range 32).map Reg.QUE_DROPBn ++ (List.range 32).map Reg.QUE_COUNTn))

/-- With the background scrubber on, the store ready and LOP5 not running, one row read moves POS on; a row that holds a
correctable word has it corrected, counted in CORR_COUNT and raised as event 0x40; the last row ends the pass: LAST_UNC
takes the count of uncorrectable words, PASSES rises and event 0x42 is raised. LOP5 runs once at a time over the
powered banks, fails at once without PD_CST, and at its end counts a pass, raises 0x42 and LOP_END and is DONE. A write
of CST_ECC_INJ loads it. Part of R161, R163, R164 and R403. (spec/06_store_and_dma.md, spec/15_housekeeping_events.md) -/
def Obligations.TheStoreIsScrubbed : Prop :=
  ∀ (q : Requester) (d : Word) (s : State),
    (s.on Fld.CST_SCRUB_CTRL_PERIOD = true → s.domOn pdCst = true → s.on Fld.CST_STATUS_READY = true →
      s.lopState 5 ≠ lopRunning →
      (s.fld Fld.CST_SCRUB_POS_ROW < 65535 → s.ecc = [] →
        ∃ t, exec .scrubRowRead s = .next t ∧ t.fld Fld.CST_SCRUB_POS_ROW = s.fld Fld.CST_SCRUB_POS_ROW + 1 ∧
          s.onlyRegs t [Reg.CST_SCRUB_POS]) ∧
      (∀ w, s.fld Fld.CST_SCRUB_POS_ROW < 65535 → s.ecc = [(w, 1)] → w < 0x1000000 →
        w % 0x40000 / 4 = s.fld Fld.CST_SCRUB_POS_ROW → s.bankPowered (w / 0x40000) = true → s.raiseRoom 1 →
        ∃ t, exec .scrubRowRead s = .next t ∧ t.ecc = [] ∧
          t.fld Fld.CST_ECC_CORR_COUNT = min (2 ^ 32 - 1) (s.fld Fld.CST_ECC_CORR_COUNT + 1) ∧
          t.raise = s.raise ++ [s.occurrence 0x40 (w + 2 ^ 28 * 7)] ∧
          t = { s with regs := t.regs, ecc := [], raise := t.raise } ∧ s.regsBut t [Reg.CST_SCRUB_POS, Reg.CST_ECC_CORR]) ∧
      (s.fld Fld.CST_SCRUB_POS_ROW = 65535 → s.ecc = [] → s.raiseRoom 1 →
        ∃ t, exec .scrubRowRead s = .next t ∧ t.fld Fld.CST_SCRUB_POS_ROW = 0 ∧
          t.fld Fld.CST_SCRUB_STATUS_LAST_UNC = min s.scrubUnc 0xFFFF ∧
          t.raise = s.raise ++ [s.occurrence 0x42 (min s.scrubUnc 0xFFFF)] ∧
          t = { s with regs := t.regs, raise := t.raise, scrubUnc := 0 } ∧
          s.regsBut t [Reg.CST_SCRUB_POS, Reg.CST_SCRUB_STATUS])) ∧
    (s.passes q Reg.CST_ECC_INJ true →
      ∃ t, exec (.cstEccInjWrite q d) s = .next t ∧
        t.rd Reg.CST_ECC_INJ = writeWord Reg.CST_ECC_INJ d (s.rd Reg.CST_ECC_INJ) ∧ s.onlyRegs t [Reg.CST_ECC_INJ]) ∧
    (s.passes q Reg.CST_SCRUB_CTRL true →
      (s.lopBusy 5 = true → ∃ t, exec (.lop5Scrub q d) s = .next t ∧ t.on Fld.CST_SCRUB_CTRL_OVERRUN = true ∧
        s.onlyRegs t [Reg.CST_SCRUB_CTRL]) ∧
      (s.lopBusy 5 = false → s.domOn pdCst = true → s.banksOff.length ≤ 64 →
        ∃ t, exec (.lop5Scrub q d) s = .next t ∧ t.lopState 5 = lopRunning ∧ t.fld (Fld.LOP_STATn_UNITS_DONE 5) = 0 ∧
          t.fld (Fld.LOP_STATn_UNITS_TOTAL 5) = 64 - s.banksOff.length ∧ t.fld (Fld.LOP_STATn_ERR 5) = 0 ∧
          t.on Fld.CST_STATUS_SCRUB_RUN = true ∧ t.on Fld.CST_SCRUB_CTRL_GO = true ∧
          s.onlyRegs t [Reg.CST_SCRUB_CTRL, Reg.CST_STATUS, Reg.LOP_STATn 5])) ∧
    (s.lopState 5 = lopRunning → s.ecc = [] → s.raiseRoom 2 →
      ∃ t, exec .lop5End s = .next t ∧ t.lopState 5 = lopDone ∧
        t.fld (Fld.LOP_STATn_UNITS_DONE 5) = s.fld (Fld.LOP_STATn_UNITS_TOTAL 5) ∧ t.on Fld.CST_STATUS_SCRUB_RUN = false ∧
        t.on Fld.CST_SCRUB_CTRL_GO = false ∧ t.fld Fld.CST_SCRUB_STATUS_LAST_UNC = 0 ∧
        t.raise = s.raise ++ [s.occurrence 0x42 65536, s.occurrence 0x06 (5 + 16 * lopDone)] ∧
        t = { s with regs := t.regs, raise := t.raise } ∧
        s.regsBut t [Reg.CST_SCRUB_CTRL, Reg.CST_SCRUB_STATUS, Reg.CST_STATUS, Reg.LOP_STATn 5])

/-- A GO in IDLE clears the error and the hop and pad counts, makes the channel ACTIVE for its requester and lets it fetch
at DMA_CHn_DESC; a GO otherwise sets OVERRUN alone. PAUSE on an ACTIVE channel that neither fetches nor is in a burst
pauses it; ABORT leaves one that does DRAINING, and ends every other in IDLE with ABORTED; RESUME of a HALTED channel
makes it ACTIVE to repeat what failed. No other channel changes. Part of R179, R182, R183 and R185. (spec/06_store_and_dma.md) -/
def Obligations.DmaChannelsObeyTheirControl : Prop :=
  ∀ (ch : Fin 32) (q : Requester) (d : Word) (n : Nat) (s : State), n = ch.val → s.passes q (Reg.DMA_CHn_CTRL n) true →
    (s.dmaState n ≠ dmaIdle → ∃ t, exec (.dmaGo ch q d) s = .next t ∧ t.on (Fld.DMA_CHn_CTRL_OVERRUN n) = true ∧
      s.onlyRegs t [Reg.DMA_CHn_CTRL n]) ∧
    (s.dmaState n = dmaIdle → ∃ t, exec (.dmaGo ch q d) s = .next t ∧ t.dmaState n = dmaActive ∧ t.on (Fld.DMA_CHn_CTRL_GO n) = true ∧
      t.fld (Fld.DMA_CHn_STATUS_ERR n) = 0 ∧ t.rd (Reg.DMA_CHn_HOPCNT n) = 0 ∧ t.rd (Reg.DMA_CHn_PAD n) = 0 ∧
      (t.rd Reg.DMA_ACTIVE).getLsbD n = true ∧ t.chan n = ⟨[], q, some (s.rd (Reg.DMA_CHn_DESC n)).toNat, none, 0⟩ ∧
      (∀ m, m ≠ n → t.chan m = s.chan m) ∧ t = { s with regs := t.regs, dma := t.dma } ∧
      s.regsBut t [Reg.DMA_CHn_CTRL n, Reg.DMA_CHn_STATUS n, Reg.DMA_CHn_HOPCNT n, Reg.DMA_CHn_PAD n, Reg.DMA_ACTIVE, Reg.DMA_HALTED]) ∧
    (s.dmaState n = dmaActive → (s.chan n).fetch = none → (s.chan n).burst = 0 → (Fld.DMA_CHn_CTRL_ABORT n).of d = 0 →
      ∃ t, exec (.dmaPause ch q d) s = .next t ∧ t.dmaState n = dmaPaused ∧ t.on (Fld.DMA_CHn_CTRL_PAUSE n) = true ∧
        s.onlyRegs t [Reg.DMA_CHn_CTRL n, Reg.DMA_CHn_STATUS n, Reg.DMA_ACTIVE, Reg.DMA_HALTED]) ∧
    (s.dmaState n = dmaActive → (s.chan n).fetch ≠ none ∨ (s.chan n).burst ≠ 0 →
      ∃ t, exec (.dmaAbort ch q d) s = .next t ∧ t.dmaState n = dmaDraining ∧ t.on (Fld.DMA_CHn_CTRL_ABORT n) = true ∧
        s.onlyRegs t [Reg.DMA_CHn_CTRL n, Reg.DMA_CHn_STATUS n, Reg.DMA_ACTIVE, Reg.DMA_HALTED]) ∧
    ((s.dmaState n = dmaActive ∧ (s.chan n).fetch = none ∧ (s.chan n).burst = 0) ∨ s.dmaState n = dmaPaused ∨
        s.dmaState n = dmaHalted →
      ∃ t, exec (.dmaAbort ch q d) s = .next t ∧ t.dmaState n = dmaIdle ∧
      t.on (Fld.DMA_CHn_STATUS_ABORTED n) = true ∧ t.on (Fld.DMA_CHn_CTRL_ABORT n) = false ∧
      (t.rd Reg.DMA_ACTIVE).getLsbD n = false ∧ t.chan n = { s.chan n with fetch := none, held := none, burst := 0 } ∧
      (∀ m, m ≠ n → t.chan m = s.chan m) ∧ t = { s with regs := t.regs, dma := t.dma } ∧
      s.regsBut t [Reg.DMA_CHn_CTRL n, Reg.DMA_CHn_STATUS n, Reg.DMA_ACTIVE, Reg.DMA_HALTED]) ∧
    (s.dmaState n = dmaHalted → s.fld (Fld.DMA_CHn_STATUS_ERR n) < dmaErrLoop → (Fld.DMA_CHn_CTRL_PAUSE n).of d = 0 →
      ∃ t, exec (.dmaResume ch q d) s = .next t ∧ t.dmaState n = dmaActive ∧ (t.rd Reg.DMA_HALTED).getLsbD n = false ∧
        s.onlyRegs t [Reg.DMA_CHn_CTRL n, Reg.DMA_CHn_STATUS n, Reg.DMA_ACTIVE, Reg.DMA_HALTED])

/-- The fetch of a valid descriptor copies its 32 bytes and shows its words to move; that of an invalid one halts the
channel with ERR DESC and event 0x45. A burst of at most 64 words of a linear descriptor between two error-free ranges
of the store copies them and leaves every other byte. Completion loads TAG, raises 0x44 where EVT is set, and without
CHAIN ends in IDLE with DONE; with CHAIN it fetches NEXT and counts the hop. A failing access halts the channel with
its code, its address and event 0x45; one that is not answered in time with TIMEOUT, where it was a write with the word
that was read held. Part of R172 to R179, R184 and R185. (spec/06_store_and_dma.md) -/
def Obligations.DmaDescriptorsRunToTheirEnd : Prop :=
  ∀ (ch : Fin 32) (n : Nat) (s : State), n = ch.val → s.dmaState n = dmaActive → s.raiseRoom 1 →
    (∀ (a : Nat) (b : List Byte), (s.chan n).fetch = some a → a % 32 = 0 → storeBase ≤ a → a < storeEnd → s.ecc = [] →
      s.judge (s.chan n).req a false = stOk → b = s.storeBytes a 32 →
      (descOk b = true → s.on (Fld.DMA_CHn_CTRL_PAUSE n) = false →
        ∃ t, exec (.descriptorFetch ch) s = .next t ∧ t.chan n = { s.chan n with desc := b, fetch := none, held := none, burst := 0 } ∧
          t.rd (Reg.DMA_CHn_DESC n) = BitVec.ofNat 32 a ∧ t.fld (Fld.DMA_CHn_REMAIN_WORDS n) = descLen b ∧
          t.rd (Reg.DMA_CHn_SRC n) = BitVec.ofNat 32 (descSrc b) ∧ t.rd (Reg.DMA_CHn_DST n) = BitVec.ofNat 32 (descDst b) ∧
          (∀ m, m ≠ n → t.chan m = s.chan m) ∧ t = { s with regs := t.regs, dma := t.dma } ∧
          s.regsBut t [Reg.DMA_CHn_DESC n, Reg.DMA_CHn_REMAIN n, Reg.DMA_CHn_SRC n, Reg.DMA_CHn_DST n]) ∧
      (descOk b = false →
        ∃ t, exec (.descriptorFetch ch) s = .next t ∧ t.dmaState n = dmaHalted ∧ t.fld (Fld.DMA_CHn_STATUS_ERR n) = dmaErrDesc ∧
          t.raise = s.raise ++ [s.occurrence 0x45 (n + 256 * dmaErrDesc)] ∧ t.store = s.store)) ∧
    (∀ (d : List Byte) (l : Nat), (s.chan n).desc = d → (s.chan n).fetch = none → (s.chan n).held = none → (s.chan n).burst = 0 → l = descLen d →
      s.fld (Fld.DMA_CHn_REMAIN_WORDS n) = l → 0 < l → l ≤ 64 → descOk d = true → descMode d = 0 →
      descSrcFix d = false → descDstFix d = false → descPreq d = false → s.on (Fld.DMA_CHn_CTRL_PAUSE n) = false →
      storeBase ≤ descSrc d → descSrc d + 4 * l ≤ storeEnd → storeBase ≤ descDst d → descDst d + 4 * l ≤ storeEnd →
      (descSrc d + 4 * l ≤ descDst d ∨ descDst d + 4 * l ≤ descSrc d) → s.ecc = [] → s.fld Fld.CST_ECC_INJ_MODE = 0 →
      (∀ w < l, s.judge (s.chan n).req (descSrc d + 4 * w) false = stOk ∧ s.judge (s.chan n).req (descDst d + 4 * w) true = stOk) →
      ∃ t, exec (.dmaBurst ch []) s = .next t ∧ t.storeBytes (descDst d) (4 * l) = s.storeBytes (descSrc d) (4 * l) ∧
        (∀ a, a < descDst d ∨ descDst d + 4 * l ≤ a → t.storeByte a = s.storeByte a) ∧
        t.fld (Fld.DMA_CHn_REMAIN_WORDS n) = 0 ∧ (∀ m, t.chan m = s.chan m) ∧
        t = { s with regs := t.regs, store := t.store, dma := t.dma } ∧
        s.regsBut t [Reg.DMA_CHn_REMAIN n, Reg.DMA_CHn_SRC n, Reg.DMA_CHn_DST n]) ∧
    (∀ d : List Byte, (s.chan n).desc = d → d ≠ [] → (s.chan n).fetch = none → s.fld (Fld.DMA_CHn_REMAIN_WORDS n) = 0 → descLen d ≠ 0 →
      descHopClr d = false → descPause d = false →
      (descChain d = false →
        ∃ t, exec (.descriptorComplete ch) s = .next t ∧ t.dmaState n = dmaIdle ∧ t.on (Fld.DMA_CHn_STATUS_DONE n) = true ∧
          t.rd (Reg.DMA_CHn_TAG n) = BitVec.ofNat 32 (descTag d) ∧
          t.raise = s.raise ++ (if descEvt d then [s.occurrence 0x44 (n + 256 * (descTag d % 2 ^ 24))] else []) ∧
          (∀ m, m ≠ n → t.chan m = s.chan m) ∧ t = { s with regs := t.regs, raise := t.raise, dma := t.dma } ∧
          s.regsBut t [Reg.DMA_CHn_TAG n, Reg.DMA_CHn_CTRL n, Reg.DMA_CHn_STATUS n, Reg.DMA_ACTIVE, Reg.DMA_HALTED]) ∧
      (descChain d = true → s.fld (Fld.DMA_CHn_HOPCNT_COUNT n) < s.fld (Fld.DMA_CHn_HOPS_LIMIT n) →
        ∃ t, exec (.descriptorComplete ch) s = .next t ∧ t.dmaState n = dmaActive ∧ (t.chan n).fetch = some (descNext d) ∧
          t.fld (Fld.DMA_CHn_HOPCNT_COUNT n) = s.fld (Fld.DMA_CHn_HOPCNT_COUNT n) + 1 ∧ t.store = s.store)) ∧
    (∀ e : Bool, (s.chan n).fetch = none → (s.chan n).held = none → s.fld (Fld.DMA_CHn_REMAIN_WORDS n) ≠ 0 →
      (s.chan n).burst ≠ 0 ∨ descPreq (s.chan n).desc = false →
      ∀ a, a = descWord (s.chan n).desc (descLen (s.chan n).desc - s.fld (Fld.DMA_CHn_REMAIN_WORDS n)) →
      (dmaReach a.1 = false →
        ∃ t, exec (.dmaBusError ch e) s = .next t ∧ t.dmaState n = dmaHalted ∧ t.fld (Fld.DMA_CHn_STATUS_ERR n) = dmaErrAddr ∧
          t.rd (Reg.DMA_CHn_ERRADDR n) = BitVec.ofNat 32 a.1 ∧ t.raise = s.raise ++ [s.occurrence 0x45 (n + 256 * dmaErrAddr)] ∧
          (∀ m, m ≠ n → t.chan m = s.chan m) ∧ t = { s with regs := t.regs, raise := t.raise, dma := t.dma } ∧
          s.regsBut t [Reg.DMA_CHn_ERRADDR n, Reg.DMA_CHn_STATUS n, Reg.DMA_ACTIVE, Reg.DMA_HALTED]) ∧
      (∃ t, exec (.dmaResponseTimeout ch false) s = .next t ∧ t.dmaState n = dmaHalted ∧
        t.fld (Fld.DMA_CHn_STATUS_ERR n) = dmaErrTimeout ∧ t.on (Fld.DMA_CHn_STATUS_ERR_DIR n) = false ∧
        t.rd (Reg.DMA_CHn_ERRADDR n) = BitVec.ofNat 32 a.1 ∧
        t.raise = s.raise ++ [s.occurrence 0x45 (n + 256 * dmaErrTimeout)] ∧ (∀ m, m ≠ n → t.chan m = s.chan m) ∧
        t = { s with regs := t.regs, raise := t.raise, dma := t.dma } ∧
        s.regsBut t [Reg.DMA_CHn_ERRADDR n, Reg.DMA_CHn_STATUS n, Reg.DMA_ACTIVE, Reg.DMA_HALTED]) ∧
      (storeBase ≤ a.1 → a.1 < storeEnd → s.dmaStatus n a.1 false 0 = stOk → s.ecc = [] →
        ∃ t, exec (.dmaResponseTimeout ch true) s = .next t ∧ t.dmaState n = dmaHalted ∧
          t.fld (Fld.DMA_CHn_STATUS_ERR n) = dmaErrTimeout ∧ t.on (Fld.DMA_CHn_STATUS_ERR_DIR n) = true ∧
          t.rd (Reg.DMA_CHn_ERRADDR n) = BitVec.ofNat 32 a.2 ∧
          (t.chan n).held = some (BitVec.ofNat 32 (leNat (s.storeBytes a.1 4))) ∧
          t = { s with regs := t.regs, raise := t.raise, dma := t.dma }))

/-- Of packets that pass the receive checks: a DLD, a SEC with one good section or a WGT whose symbol or slot lies within
the arrival window is held in its queue with its air time, in blocks of the region that stores its queue, and the
section is held with it; one that comes after the window closes is dropped, counted LATE and raised as event 0x53;
every other queue stays, and of the link only the turn of the block choice changes. No packet of its bundle is being
discarded. A TIM with SRC MOMENT and time gives the synchronisation one observation, and its credits return. Part of
R191, R193, R199, R207, R208 and R212. (spec/05_link_packets_queues.md, spec/07_air_timing_timetable_beams.md) -/
def Obligations.DataPacketsAreHeldForTheirSymbol : Prop :=
  ∀ (k : Fin 2) (bs : List Byte) (s : State), (∀ n < 12, k.val ∉ (s.queue n).doomed) →
    (∀ p, p = typed tyDld bs → ∀ u, u = (s.receive k.val false false p).1 → ∀ n, n = pktQueue p →
      (s.receive k.val false false p).2 = true → u.time.everLocked = true → ∀ a, (u.locate [false] n p).2 = some a →
      (a - u.tEarly ≤ u.air → u.air ≤ a - u.tLate →
        ∃ t, exec (.dldReceive k false false bs) s = .next t ∧
          (t.queue n).pkts = (u.queue n).pkts ++ [⟨bytesAt p 0 (16 + pktLen p), false, a.toNat, u.sect.serial, (u.storePacket n (bytesAt p 0 (16 + pktLen p)) reqLinkIn).2, []⟩] ∧
          (∀ m, m ≠ n → t.queue m = u.queue m) ∧
          t.sect = { u.sect with serial := u.sect.serial + 1 } ∧ t.link = { u.link with turn := t.link.turn } ∧
          t = { u with regs := t.regs, queues := t.queues, sect := t.sect, raise := t.raise, store := t.store, ecc := t.ecc, link := t.link }) ∧
      (a - u.tEarly ≤ u.air → a - u.tLate < u.air → u.raiseRoom 2 →
        ∃ t, exec (.dldReceive k false false bs) s = .next t ∧
          t.fld (Fld.ATM_ARRq_LATE n) = min 65535 (u.fld (Fld.ATM_ARRq_LATE n) + 1) ∧ (t.queue n).pkts = (u.queue n).pkts ∧
          u.occurrence 0x53 (n + 65536 * ticksToUs (u.air - (a - u.tLate))) ∈ t.raise ∧ t.sect = u.sect)) ∧
    (∀ p, p = typed tySec bs → ∀ u, u = (s.receive k.val false false p).1 → (s.receive k.val false false p).2 = true →
      u.time.everLocked = true → ∀ c, c = pktCarrier p → ∀ l, l = u.locate [false, true] c p → ∀ b, b = pktPayload p →
      pktLen p = 20 → fieldAt b 2 2 = 1 → fieldAt b 0 1 ≤ 1 → fieldAt b 1 1 = 0 → pktSymbol p ≤ 13 → ∀ a : Nat, l.2 = some (a : Int) →
      (a : Int) - u.tEarly ≤ u.air → (u.air : Int) ≤ a - u.tLate → airOf l.1 (frameOf a) (symbolOf l.1 a) = a →
      ∀ cfg, cfg = u.carrierAt (bitOf (fieldAt b 4 2) 11) c a → ∀ h, h = readSection b 0 c u.sect.serial cfg →
      u.sectionReason b 0 h cfg = 0 → u.heldReason { h with air := a } = 0 →
      ∃ t, exec (.secReceive k false false bs) s = .next t ∧
        (t.queue 8).pkts = (u.queue 8).pkts ++ [⟨bytesAt p 0 (16 + pktLen p), false, a, u.sect.serial, (u.storePacket 8 (bytesAt p 0 (16 + pktLen p)) reqLinkIn).2, []⟩] ∧
        t.sect.held = u.sect.held ++ [{ h with air := a }] ∧ (∀ m, m ≠ 8 → t.queue m = u.queue m) ∧
        t.link = { u.link with turn := t.link.turn } ∧
        t = { u with regs := t.regs, queues := t.queues, sect := t.sect, raise := t.raise, store := t.store, ecc := t.ecc, link := t.link }) ∧
    (∀ p, p = typed tyWgt bs → ∀ u, u = (s.receive k.val false false p).1 → (s.receive k.val false false p).2 = true →
      u.time.everLocked = true → pktSlot p < slotsPerFrame u.time.scs → wgtBad (pktPayload p) (pktLen p) = false →
      ∀ a, a = resolveAir u.time.scs (pktSfn p) (pktSlot p) 0 u.air → a - u.tEarly ≤ u.air → u.air ≤ a - u.tLate →
      ∃ t, exec (.wgtReceive k false false bs) s = .next t ∧
        (t.queue 9).pkts = (u.queue 9).pkts ++ [⟨bytesAt p 0 (16 + pktLen p), false, a.toNat, u.sect.serial, (u.storePacket 9 (bytesAt p 0 (16 + pktLen p)) reqLinkIn).2, []⟩] ∧
        (∀ m, m ≠ 9 → t.queue m = u.queue m) ∧
        t.sect = { u.sect with serial := u.sect.serial + 1 } ∧ t.link = { u.link with turn := t.link.turn } ∧
          t = { u with regs := t.regs, queues := t.queues, sect := t.sect, raise := t.raise, store := t.store, ecc := t.ecc, link := t.link }) ∧
    (∀ p, p = typed tyTim bs → ∀ (u : State), u = (s.receive k.val false false p).1 → (s.receive k.val false false p).2 = true →
      pktLen p = 16 → u.fld Fld.ATM_SYNC_CTRL_SRC = 1 → bitOf (fieldAt p 24 4) 0 = false →
      u.syncState = syncLocked → ∀ ph : Fin 5, ∀ e : Int, e = (fieldAt p 16 8 : Int) - (u.air + ((ph.val : Int) - 2)) →
      e.natAbs ≤ u.fld Fld.ATM_SYNC_CTRL_TOL →
      ∃ t, exec (.timReceive k false false bs ph) s = .next t ∧ t.air = u.air ∧ t.syncState = syncLocked ∧ t.time.outliers = [] ∧
        t.rd Reg.ATM_SYNC_ERR = BitVec.ofInt 32 e ∧ (∀ m, m ≠ 11 → t.queue m = u.queue m))

/-- An ALIGN edge sooner than 0.9 frames after the last is an outlier and nothing else; an accepted one shows its phase,
and where it is an observation loads AIR_COUNT by its error and acquires from UNSYNCED. Without an observation for
LOSS_MS a LOCKED device holds over, event 0x51. SET in FREE loads AIR_COUNT and locks with event 0x50, or in LOCKED
decides a step. A change to another source in LOCKED holds over. A decided step, applied, moves AIR_COUNT modulo 2^64,
drops what is held by time, mutes every path for a frame and raises 0x52. ALIGN_OUT rises for 8 ticks at the frames
AO_DIV selects. Part of R191 to R196. (spec/07_air_timing_timetable_beams.md) -/
def Obligations.AirTimeFollowsItsSource : Prop :=
  ∀ (s : State),
    (∀ ph : Fin 16,
      (∀ e, s.time.edge = some e → (s.air : Int) + 1 - e < 1105920 →
        ∃ t, exec (.alignEdge ph) s = .next t ∧
          t.fld Fld.ATM_SYNC_STATUS_OUTLIERS = min 255 (s.fld Fld.ATM_SYNC_STATUS_OUTLIERS + 1) ∧ s.onlyRegs t [Reg.ATM_SYNC_STATUS]) ∧
      (s.time.edge = none → s.fld Fld.ATM_SYNC_CTRL_SRC < 2 → (s.fld Fld.ATM_SYNC_CTRL_SRC = 0 ∨ s.time.tim = none) →
        ∃ t, exec (.alignEdge ph) s = .next t ∧ t.fld Fld.ATM_ALIGN_PHASE_PHASE = ph.val ∧ t.on Fld.ATM_ALIGN_PHASE_VALID = true ∧
          t = { s with regs := t.regs, time := { s.time with edge := some (s.air + 1) } } ∧ s.regsBut t [Reg.ATM_ALIGN_PHASE]) ∧
      (s.time.edge = none → s.syncState = syncUnsynced → ∀ d, s.edgeError (s.fld Fld.ATM_SYNC_CTRL_SRC) (s.air + 1) = some d → (-2 ^ 31 ≤ d ∧ d < 2 ^ 31) →
        ∃ t, exec (.alignEdge ph) s = .next t ∧ (t.air : Int) = (s.air + d) % (2 ^ 64 : Nat) ∧ t.syncState = syncAcquiring ∧
          t.rd Reg.ATM_SYNC_ERR = BitVec.ofInt 32 d ∧ t.time.tim = none ∧ t.raise = s.raise ∧ t.store = s.store ∧
          t.queues = s.queues ∧ s.regsBut t [Reg.ATM_ALIGN_PHASE, Reg.ATM_SYNC_ERR, Reg.ATM_SYNC_STATUS])) ∧
    (s.syncState = syncLocked → s.on Fld.ATM_SYNC_CTRL_LOSS_MS = true → s.raiseRoom 1 →
      ∃ t, exec .syncLossTimeout s = .next t ∧ t.syncState = syncHoldover ∧
        t.raise = s.raise ++ [s.occurrence 0x51 (s.fld Fld.ATM_SYNC_CTRL_SRC)] ∧
        t = { s with regs := t.regs, raise := t.raise } ∧ s.regsBut t [Reg.ATM_SYNC_STATUS]) ∧
    (∀ (q : Requester) (w : Word), s.passes q Reg.ATM_CTRL true → s.fld Fld.ATM_SYNC_CTRL_SRC = 0 →
      (s.syncState = syncUnsynced → s.raiseRoom 1 →
        ∃ t, exec (.atmSet q w) s = .next t ∧ t.air = s.atmSet ∧ t.syncState = syncLocked ∧ t.time.everLocked = true ∧
          t.raise = s.raise ++ [t.occurrence 0x50 0] ∧ t.store = s.store ∧ t.queues = s.queues ∧
          s.regsBut t [Reg.ATM_CTRL, Reg.ATM_SYNC_STATUS]) ∧
      (s.syncState = syncLocked → s.cal.lop0 = none →
        ∃ t, exec (.atmSet q w) s = .next t ∧ t.on Fld.ATM_CTRL_SET = true ∧ t.on Fld.ATM_SYNC_STATUS_STEP_PENDING = true ∧
          t = { s with regs := t.regs, time := { s.time with step := some ((s.atmSet : Int) - s.air), outliers := [] } } ∧
          s.regsBut t [Reg.ATM_CTRL, Reg.ATM_SYNC_STATUS])) ∧
    (∀ (q : Requester) (w : Word), s.passes q Reg.ATM_SYNC_CTRL true →
      (Fld.ATM_SYNC_CTRL_SRC.of w = s.fld Fld.ATM_SYNC_CTRL_SRC →
        ∃ t, exec (.atmSrcWrite q w) s = .next t ∧
          t.rd Reg.ATM_SYNC_CTRL = writeWord Reg.ATM_SYNC_CTRL w (s.rd Reg.ATM_SYNC_CTRL) ∧ s.onlyRegs t [Reg.ATM_SYNC_CTRL]) ∧
      (Fld.ATM_SYNC_CTRL_SRC.of w ≠ s.fld Fld.ATM_SYNC_CTRL_SRC → Fld.ATM_SYNC_CTRL_SRC.of w ≠ 0 → s.syncState = syncLocked →
        s.raiseRoom 1 →
        ∃ t, exec (.atmSrcWrite q w) s = .next t ∧ t.syncState = syncHoldover ∧
          t.raise = s.raise ++ [s.occurrence 0x51 (Fld.ATM_SYNC_CTRL_SRC.of w)] ∧ t = { s with regs := t.regs, raise := t.raise } ∧
          s.regsBut t [Reg.ATM_SYNC_CTRL, Reg.ATM_SYNC_STATUS])) ∧
    (∀ d, s.time.step = some d → s.queues = [] → s.raiseRoom 1 →
      ∃ t, exec .timeStepApply s = .next t ∧ (t.air : Int) = (s.air + d) % (2 ^ 64 : Nat) ∧ t.time.step = none ∧
        t.time.muteEnd = t.air + frameTicks ∧ (∀ p < 64, ⟨p, t.air, t.air + frameTicks⟩ ∈ t.smp.mutes) ∧ t.sect.held = [] ∧ t.on Fld.ATM_SYNC_STATUS_STEP_PENDING = false ∧
        t.fld Fld.ATM_SYNC_STATUS_STEPS = min 65535 (s.fld Fld.ATM_SYNC_STATUS_STEPS + 1) ∧ t.on Fld.ATM_CTRL_SET = false ∧
        t.raise = s.raise ++ [t.occurrence 0x52 (toCode 32 d)] ∧ t.store = s.store) ∧
    (s.on Fld.ATM_CTRL_AO_EN = true → frameOf s.air % 2 ^ s.fld Fld.ATM_CTRL_AO_DIV = 0 →
      exec .alignOutPulse s = .next { s with time := { s.time with alignOut := 8 } })

/-- A grid symbol that begins takes the directions of the rows in force for its groups, and no register but those of its
effects; before the first lock and in Detention it does nothing. A swap request is noted; the swap exchanges the banks,
takes PERIOD and SCS, and counts bad and shadowed rows, and no row of either bank changes. A peer word is loaded, and
one that is valid and disagrees with the map sets MISMATCH with event 0x5A; at a frame boundary JOINT_OK takes what
R217 says, and where it falls a joint LOP0 ends (ERR 8 as R351 has it; assumption 100). Part of R195, R202, R206 and
R217. (spec/07_air_timing_timetable_beams.md) -/
def Obligations.TheTimetableAndTheArrayTakeTheirSettings : Prop :=
  ∀ (q : Requester) (w : Word) (adc : List (List (BitVec 28))) (s : State),
    (s.time.everLocked = false ∨ s.detained = true → exec (.timetableSymbol adc) s = .next s) ∧
    (s.time.everLocked = true → s.domOn pdCtl = true → s.detained = false → ∀ a, a = symStart s.time.scs s.air →
      ∀ u, u = s.takeSettings → ∃ t, exec (.timetableSymbol adc) s = .next t ∧ t.rf.start = a ∧ t.rf.stop = s.nextBoundary s.air ∧
        (∀ g < 8, t.rf.dirs.getD g dirF = if s.ttOn g then u.actsAs g a else dirF) ∧ t.air = s.air ∧ t.time.period = s.time.period ∧
        t.fuses = s.fuses ∧ t.flash = s.flash ∧ t.link = s.link) ∧
    (s.passes q Reg.ATM_TT_CTRL true →
      ∃ t, exec (.ttSwapRequest q w) s = .next t ∧ t.on Fld.ATM_TT_CTRL_SWAP = true ∧
        t.fld Fld.ATM_TT_CTRL_BANK = s.fld Fld.ATM_TT_CTRL_BANK ∧ t.fld Fld.ATM_TT_CTRL_SCS = Fld.ATM_TT_CTRL_SCS.of w ∧
        (periodOk (Fld.ATM_TT_CTRL_SCS.of w) (Fld.ATM_TT_CTRL_PERIOD.of w) = true →
          t.fld Fld.ATM_TT_CTRL_PERIOD = Fld.ATM_TT_CTRL_PERIOD.of w) ∧ s.onlyRegs t [Reg.ATM_TT_CTRL]) ∧
    (s.on Fld.ATM_TT_CTRL_SWAP = true → s.detained = false → ∀ b, b = 1 - s.fld Fld.ATM_TT_CTRL_BANK → ∀ n, n = s.fld Fld.ATM_TT_CTRL_PERIOD →
      ∃ t, exec .ttSwap s = .next t ∧ t.fld Fld.ATM_TT_CTRL_BANK = b ∧ t.on Fld.ATM_TT_CTRL_SWAP = false ∧
        t.fld Fld.ATM_TT_STATUS_BAD_ROWS = min 255 ((s.ttRows b).filter (fun r => !r.valid n)).length ∧
        t.fld Fld.ATM_TT_STATUS_OVERLAPS = min 255 (shadowed n [] (s.ttRows b)) ∧
        t = { s with regs := t.regs, time := { s.time with period := n, scs := s.fld Fld.ATM_TT_CTRL_SCS } } ∧
        s.regsBut t [Reg.ATM_TT_CTRL, Reg.ATM_TT_STATUS]) ∧
    (∀ (i : Fin 4) (k : Fin 3), s.passes q (Reg.ATM_PEERk_W0 i.val + 4 * k.val) true →
      (k.val ≠ 2 ∨ s.time.map = [] →
        ∃ t, exec (.atmPeerWrite i k q w) s = .next t ∧
          t.rd (Reg.ATM_PEERk_W0 i.val + 4 * k.val) =
            writeWord (Reg.ATM_PEERk_W0 i.val + 4 * k.val) w (s.rd (Reg.ATM_PEERk_W0 i.val + 4 * k.val)) ∧
          s.onlyRegs t [Reg.ATM_PEERk_W0 i.val + 4 * k.val]) ∧
      (k.val = 2 → ∀ e, (mapEntries s.time.map).find? (fun e => e.2.1 == i.val) = some e → w.getLsbD 31 = true →
        s.peerSerial i.val ≠ e.1 → s.raiseRoom 1 →
        ∃ t, exec (.atmPeerWrite i k q w) s = .next t ∧ bitOf (t.fld Fld.ATM_ARRAY_STATUS_MISMATCH) i.val = true ∧
          t.raise = s.raise ++ [s.occurrence 0x5A (i.val + 65536 * (w.toNat % 65536))] ∧
          t = { s with regs := t.regs, raise := t.raise } ∧ s.regsBut t [Reg.ATM_PEERk_W2 i.val, Reg.ATM_ARRAY_STATUS])) ∧
    (∃ t, exec .jointOkChange s = .next t ∧ t.on Fld.ATM_ARRAY_STATUS_JOINT_OK = s.jointOk ∧
      (s.jointOk = true ∨ s.cal.lop0 = none → s.onlyRegs t [Reg.ATM_ARRAY_STATUS]) ∧
      (s.jointOk = false → ∀ c, s.cal.lop0 = some c → c.joint = true →
        t.cal.lop0 = none ∧ t.lopState 0 = lopFailed ∧ t.fld (Fld.LOP_STATn_ERR 0) = 8))

/-- A GO while an update runs sets OVERRUN alone; one in IDLE with COUNT not 0 is accepted and begins the prefetch for its
boundary. The end of the prefetch of error-free records puts them in the shadow buffer and arms the update; its
boundary begins the write-back, whose end leaves the weights of a single record in the region and its classes in its
tag, counts the update DONE, returns to IDLE and raises event 0x57; after the first lock. Part of R213, R214 and R215. (spec/07_air_timing_timetable_beams.md, spec/15_housekeeping_events.md) -/
def Obligations.ABeamBookUpdateRunsItsSteps : Prop :=
  ∀ (q : Requester) (w : Word) (s : State),
    (s.passes q Reg.BMB_UPD_CTRL true →
      (s.fld Fld.BMB_UPD_STATUS_STATE ≠ 0 →
        ∃ t, exec (.bmbUpdGo q w) s = .next t ∧ t.on Fld.BMB_UPD_CTRL_OVERRUN = true ∧ s.onlyRegs t [Reg.BMB_UPD_CTRL]) ∧
      (s.fld Fld.BMB_UPD_STATUS_STATE = 0 → Fld.BMB_UPD_CTRL_COUNT.of w ≠ 0 → Fld.BMB_UPD_CTRL_COUNT.of w ≤ 256 →
        ∃ t, exec (.bmbUpdGo q w) s = .next t ∧ t.fld Fld.BMB_UPD_STATUS_STATE = 1 ∧ t.on Fld.BMB_UPD_CTRL_GO = true ∧
          t.fld Fld.BMB_UPD_CTRL_COUNT = Fld.BMB_UPD_CTRL_COUNT.of w ∧
          t = { s with regs := t.regs, bmb := ⟨[],
            boundaryAfter s.time.scs (s.fld Fld.BMB_UPD_TARGET_SFN) (s.fld Fld.BMB_UPD_TARGET_SLOT) s.air⟩ } ∧
          s.regsBut t [Reg.BMB_UPD_CTRL, Reg.BMB_UPD_STATUS])) ∧
    (∀ n, n = 260 * s.fld Fld.BMB_UPD_CTRL_COUNT → s.time.everLocked = true → s.fld Fld.BMB_UPD_STATUS_STATE = 1 → s.domOn pdCst = true → s.ecc = [] →
      storeBase ≤ s.fld Fld.BMB_UPD_ADDR_ADDR → s.fld Fld.BMB_UPD_ADDR_ADDR + n ≤ storeEnd → s.air ≤ s.bmb.boundary - s.tLate →
      ∃ t, exec .bmbPrefetchEnd s = .next t ∧ t.fld Fld.BMB_UPD_STATUS_STATE = 2 ∧
        t = { s with regs := t.regs, bmb := ⟨s.storeBytes (s.fld Fld.BMB_UPD_ADDR_ADDR) n, s.bmb.boundary⟩ } ∧
        s.regsBut t [Reg.BMB_UPD_STATUS]) ∧
    (s.time.everLocked = true → s.fld Fld.BMB_UPD_STATUS_STATE = 2 →
      ∃ t, exec .bmbUpdateBoundary s = .next t ∧ t.fld Fld.BMB_UPD_STATUS_STATE = 3 ∧ s.onlyRegs t [Reg.BMB_UPD_STATUS]) ∧
    (s.time.everLocked = true → s.fld Fld.BMB_UPD_STATUS_STATE = 3 → ∀ k, k = recordIndex s.bmb.shadow → ∀ a, a = s.beamBase + 256 * k → s.bmb.shadow.length = 260 →
      s.ecc = [] → s.fld Fld.CST_ECC_INJ_MODE = 0 → s.raiseRoom 1 →
      ∃ t, exec .bmbWritebackEnd s = .next t ∧ t.storeBytes a 256 = s.bmb.shadow.drop 4 ∧
        (∀ b, b < a ∨ a + 256 ≤ b → t.storeByte b = s.storeByte b) ∧
        t.fld (Fld.BMB_TAGk_PD_CLASS k) = fieldAt s.bmb.shadow 2 1 % 4 ∧ t.fld (Fld.BMB_TAGk_SFD_CLASS k) = fieldAt s.bmb.shadow 3 1 % 16 ∧
        t.fld Fld.BMB_UPD_STATUS_STATE = 0 ∧ t.on Fld.BMB_UPD_CTRL_GO = false ∧
        t.fld Fld.BMB_UPD_STATUS_DONE = min 65535 (s.fld Fld.BMB_UPD_STATUS_DONE + 1) ∧
        t.raise = s.raise ++ [s.occurrence 0x57 (s.fld Fld.BMB_UPD_CTRL_COUNT + 65536 * s.fld Fld.BMB_UPD_STATUS_LATE +
          131072 * s.fld Fld.BMB_UPD_STATUS_ERR)] ∧
        t = { s with regs := t.regs, store := t.store, raise := t.raise, bmb := ⟨[], 0⟩ } ∧
        s.regsBut t [Reg.BMB_TAGk k, Reg.BMB_UPD_CTRL, Reg.BMB_UPD_STATUS])

/-- For either direction: a COMMIT while one is pending sets OVERRUN alone; one whose carriers break a condition loads
CFG_ERR and raises 0x64 or 0x69 with reason and carrier, and changes no configuration; a valid one is pending for the
first frame boundary at least T_EARLY ahead. In force, the copy replaces the old one, is valid and no longer pending,
and drops the sections, and of the downlink the DLDs, held from before the commit for symbols from the boundary on. An
IQ_SWAP is noted, and at its boundary the other bank is in use, in the grid symbol that begins there too. CNT_CLR
clears the chain's counters alone. Part of R223, R224, R245, R252 and R255. (spec/08_downlink_chain.md, spec/09_uplink_chain.md) -/
def Obligations.CarrierConfigurationsAreCommitted : Prop :=
  ∀ (q : Requester) (w : Word) (s : State) (up : Bool),
    (∀ c : Instr, (c = .dlcCommit q w ∧ up = false) ∨ (c = .ulcCommit q w ∧ up = true) →
      s.passes q (fCommit up).addr true →
      (s.on (fCommitPending up) = true →
        ∃ t, exec c s = .next t ∧ t.on (fOverrun up) = true ∧ s.onlyRegs t [(fOverrun up).addr]) ∧
      (∀ r k, (if up then Fld.ULC_CTRL_CNT_CLR else Fld.DLC_CTRL_CNT_CLR).of w = 0 → (fIqSwap up).of w = 0 →
        s.on (fCommitPending up) = false → copyError (s.carrierRegs up) up = some (r, k) → s.raiseRoom 1 →
        ∃ t, exec c s = .next t ∧ t.fld (fCfgErr up) = r ∧ t.on (fCommit up) = false ∧
          t.raise = s.raise ++ [s.occurrence (if up then 0x69 else 0x64) (r + 16 * k)] ∧
          t = { s with regs := t.regs, raise := t.raise } ∧ s.regsBut t [(fCommit up).addr, (fCfgErr up).addr]) ∧
      ((if up then Fld.ULC_CTRL_CNT_CLR else Fld.DLC_CTRL_CNT_CLR).of w = 0 → (fIqSwap up).of w = 0 →
        s.on (fCommitPending up) = false → copyError (s.carrierRegs up) up = none →
        ∃ t, exec c s = .next t ∧ t.on (fCommitPending up) = true ∧ t.on (fCommit up) = true ∧ t.fld (fCfgErr up) = 0 ∧
          t.carriers up = { s.carriers up with
            next := s.carrierRegs up, boundary := frameBoundaryFrom s.air s.tEarly, before := s.sect.serial } ∧
          t.carriers (!up) = s.carriers (!up) ∧ t = { s with regs := t.regs, dlc := t.dlc, ulc := t.ulc } ∧
          s.regsBut t [(fCommit up).addr, (fCfgErr up).addr])) ∧
    (∀ c : Instr, (c = .dlcCommitInForce ∧ up = false) ∨ (c = .ulcCommitInForce ∧ up = true) →
      (s.carriers up).next ≠ [] → s.sfd.plan = [] →
      ∃ t, exec c s = .next t ∧ (t.carriers up).inForce = (s.carriers up).next ∧ (t.carriers up).next = [] ∧
        t.carriers (!up) = s.carriers (!up) ∧ t.on (fCommitPending up) = false ∧ t.on (fCommit up) = false ∧
        t.on (fCfgValid up) = true ∧
        t.sect.held = s.sect.held.filter (fun h =>
          !(h.up == up && decide ((s.carriers up).boundary ≤ h.air) && decide (h.serial < (s.carriers up).before))) ∧
        (up = false → ∀ n < 8, (t.queue n).pkts = (s.queue n).pkts.filter (fun p =>
          !(decide ((s.carriers up).boundary ≤ p.air) && decide (p.serial < (s.carriers up).before)))) ∧
        t = { s with regs := t.regs, raise := t.raise, queues := t.queues, sect := t.sect, dlc := t.dlc, ulc := t.ulc, smp := t.smp }) ∧
    (∀ c : Instr, (c = .dlcIqSwap q w ∧ up = false) ∨ (c = .ulcIqSwap q w ∧ up = true) →
      s.passes q (fIqSwap up).addr true → (fCommit up).of w = 0 →
      (if up then Fld.ULC_CTRL_CNT_CLR else Fld.DLC_CTRL_CNT_CLR).of w = 0 →
      ∃ t, exec c s = .next t ∧ t.on (fIqSwap up) = true ∧ t.fld (fIqBank up) = s.fld (fIqBank up) ∧ s.onlyRegs t [(fIqSwap up).addr]) ∧
    (∀ c : Instr, (c = .dlcIqBankSwap ∧ up = false) ∨ (c = .ulcIqBankSwap ∧ up = true) → s.on (fIqSwap up) = true →
      ∃ t, exec c s = .next t ∧ t.fld (fIqBank up) = 1 - s.fld (fIqBank up) ∧ t.on (fIqSwap up) = false ∧
        t.rf = { s.rf with log := t.rf.log } ∧ t.rf.log.tail = s.rf.log.tail ∧
        (∀ l, s.rf.log.head? = some l → l.air = symStart s.time.scs s.air → t.rf.log.head? = some (t.withSettings l)) ∧
        t = { s with regs := t.regs, rf := t.rf } ∧ s.regsBut t [(fIqSwap up).addr, (fIqBank up).addr]) ∧
    (s.passes q Reg.DLC_CTRL true → (fCommit false).of w = 0 → (fIqSwap false).of w = 0 →
      ∃ t, exec (.dlcCntClr q w) s = .next t ∧
        (∀ a ∈ [Reg.DLC_LOAD, Reg.DLC_DROPA, Reg.DLC_DROPB, Reg.DLC_DLD_DISC], t.rd a = 0) ∧
        (∀ p < 64, t.rd (Reg.DLC_PATHp_SATA p) = 0 ∧ t.rd (Reg.DLC_PATHp_SATB p) = 0) ∧
        s.onlyRegs t ([Reg.DLC_LOAD, Reg.DLC_DROPA, Reg.DLC_DROPB, Reg.DLC_DLD_DISC] ++ (List.range 64).map Reg.DLC_PATHp_SATA ++
          (List.range 64).map Reg.DLC_PATHp_SATB)) ∧
    (s.passes q Reg.ULC_CTRL true → (fCommit true).of w = 0 → (fIqSwap true).of w = 0 →
      ∃ t, exec (.ulcCntClr q w) s = .next t ∧
        (∀ a ∈ [Reg.ULC_LOAD, Reg.ULC_DROPA, Reg.ULC_DROPB, Reg.ULC_DROPC, Reg.ULC_DROPD, Reg.ULC_SATL], t.rd a = 0) ∧
        (∀ p < 64, t.rd (Reg.ULC_PATHp_SAT p) = 0) ∧
        (∀ e < 4, t.fld (Fld.ULC_PRAe_STATUS_OCC e) = 0 ∧ t.fld (Fld.ULC_PRAe_STATUS_SKIP e) = 0 ∧
          t.fld (Fld.ULC_PRAe_STATUS_LAST_SKIP e) = s.fld (Fld.ULC_PRAe_STATUS_LAST_SKIP e)) ∧
        s.onlyRegs t ([Reg.ULC_LOAD, Reg.ULC_DROPA, Reg.ULC_DROPB, Reg.ULC_DROPC, Reg.ULC_DROPD, Reg.ULC_SATL] ++
          (List.range 64).map Reg.ULC_PATHp_SAT ++ (List.range 4).map Reg.ULC_PRAe_STATUS))

/-- A filter SWAP is taken with its write, and one while another waits sets OVERRUN alone; when its instant has come the
other bank, and its coefficients from that instant on, are in force. A write of RSSI_CFG discards the window in
progress, and with EN 0 leaves both states. A window that has counted its 2^WIN_LOG2 samples gives their energy modulo
2^48, its level, and a new SEQ, and the next begins after them; a level at or below UPPER that was not HIGH sets HIGH
with event 0x6C. Nothing else changes. Part of R256, R257 and R262. (spec/09_uplink_chain.md) -/
def Obligations.FilterBanksAndRssiWindows : Prop :=
  ∀ (q : Requester) (w : Word) (s : State),
    (∀ (c : Fin 8) (a : Nat), a = Reg.ULC_CARc_FIR_CTRL c.val → s.passes q a true →
      (s.on (Fld.ULC_CARc_FIR_CTRL_SWAP c.val) = true →
        ∃ t, exec (.firSwapRequest c q w) s = .next t ∧ t.on Fld.ULC_STATUS_OVERRUN = true ∧ s.onlyRegs t [Reg.ULC_STATUS]) ∧
      (s.on (Fld.ULC_CARc_FIR_CTRL_SWAP c.val) = false →
        ∃ t, exec (.firSwapRequest c q w) s = .next t ∧ t.on (Fld.ULC_CARc_FIR_CTRL_SWAP c.val) = true ∧
          t.fld (Fld.ULC_CARc_FIR_CTRL_BANK c.val) = s.fld (Fld.ULC_CARc_FIR_CTRL_BANK c.val) ∧
          (t.fld (Fld.ULC_CARc_FIR_CTRL_USER c.val) = s.fld (Fld.ULC_CARc_FIR_CTRL_USER c.val) → t.smp = s.smp) ∧
          t.smp = { s.smp with users := t.smp.users } ∧ t = { s with regs := t.regs, smp := t.smp } ∧ s.regsBut t [a])) ∧
    (∀ c : Fin 8, s.on (Fld.ULC_CARc_FIR_CTRL_SWAP c.val) = true → s.firDue c.val = true → ∀ b, b = s.fld (Fld.ULC_CARc_FIR_CTRL_BANK c.val) →
      ∃ t, exec (.firBankSwap c) s = .next t ∧
        t.fld (Fld.ULC_CARc_FIR_CTRL_BANK c.val) = 1 - s.fld (Fld.ULC_CARc_FIR_CTRL_BANK c.val) ∧
        t.on (Fld.ULC_CARc_FIR_CTRL_SWAP c.val) = false ∧
        SMap.get [] t.smp.taps c.val = histPush (SMap.get [] s.smp.taps c.val) (s.firBank c.val b) s.air (s.firBank c.val (1 - b)) ∧
        t.smp = { s.smp with taps := t.smp.taps } ∧ t = { s with regs := t.regs, smp := t.smp } ∧
        s.regsBut t [Reg.ULC_CARc_FIR_CTRL c.val]) ∧
    (∀ (p : Fin 64) (a : Nat), a = Reg.ULC_PATHp_RSSI_CFG p.val → s.passes q a true →
      ∃ t, exec (.rssiCfgWrite p q w) s = .next t ∧ t.rd a = writeWord a w (s.rd a) ∧ SMap.get 0 t.rssi p.val = s.air ∧
        (t.on (Fld.ULC_PATHp_RSSI_CFG_EN p.val) = false →
          t.on (Fld.ULC_PATHp_RSSI_HIGH p.val) = false ∧ t.on (Fld.ULC_PATHp_RSSI_LOW p.val) = false) ∧
        t = { s with regs := t.regs, rssi := t.rssi } ∧ s.regsBut t [a, Reg.ULC_PATHp_RSSI p.val]) ∧
    (∀ (p : Fin 64), s.on (Fld.ULC_PATHp_RSSI_CFG_EN p.val) = true → s.time.everLocked = true → s.domOn pdLin = true →
      ∀ w, w = s.fld (Fld.ULC_PATHp_RSSI_CFG_WIN_LOG2 p.val) → ∀ ns, ns = s.rssiWindow p.val → ns.length = 2 ^ w →
      ∀ e, e = (if s.rxSilent p.val then 0 else s.rssiEnergy p.val ns) → ∀ l, l = dbCode e (2 ^ (26 + w)) →
      s.on (Fld.ULC_PATHp_RSSI_LOW p.val) = true →
      l + s.fld (Fld.ULC_PATHp_RSSI_THR_HYST p.val) ≥ s.fld (Fld.ULC_PATHp_RSSI_THR_LOWER p.val) → s.raiseRoom 1 →
      ∃ t, exec (.rssiWindowClose p) s = .next t ∧ t.rd (Reg.ULC_PATHp_ENERGY_LO p.val) = BitVec.ofNat 32 e ∧
        t.fld (Fld.ULC_PATHp_ENERGY_HI_E p.val) = e / 2 ^ 32 ∧ t.fld (Fld.ULC_PATHp_RSSI_LEVEL p.val) = l ∧
        t.fld (Fld.ULC_PATHp_RSSI_SEQ p.val) = (s.fld (Fld.ULC_PATHp_RSSI_SEQ p.val) + 1) % 16 ∧
        t.on (Fld.ULC_PATHp_RSSI_LOW p.val) = true ∧ SMap.get 0 t.rssi p.val = ((ns.getLastD 0 + 1) / 8).toNat ∧
        (s.on (Fld.ULC_PATHp_RSSI_HIGH p.val) = false → l ≤ s.fld (Fld.ULC_PATHp_RSSI_THR_UPPER p.val) →
          t.on (Fld.ULC_PATHp_RSSI_HIGH p.val) = true ∧ t.raise = s.raise ++ [s.occurrence 0x6C (p.val + 65536 * l)]) ∧
        (s.on (Fld.ULC_PATHp_RSSI_HIGH p.val) = true → t.raise = s.raise ∧
          t.on (Fld.ULC_PATHp_RSSI_HIGH p.val) =
            decide (l ≤ s.fld (Fld.ULC_PATHp_RSSI_THR_UPPER p.val) + s.fld (Fld.ULC_PATHp_RSSI_THR_HYST p.val))) ∧
        t = { s with regs := t.regs, raise := t.raise, rssi := t.rssi } ∧
        s.regsBut t [Reg.ULC_PATHp_RSSI p.val, Reg.ULC_PATHp_ENERGY_LO p.val, Reg.ULC_PATHp_ENERGY_HI p.val])

/-- At the fetch of a carrier symbol: one complete section, whose weights can be had and whose units fit the budget, is
admitted, and every path of the carrier takes the rounded sum of its samples times its effective weight on the groups
that transmit, whose inverse transform stage 3 takes; a section that no DLD completes is counted LATE with event 0x60
and reason 1; without sections every path carries zero. No carrier below has a symbol of that instant to fetch, the
symbol was not fetched before, and no store word holds an error. The symbol's packets and sections are consumed and all
others stay. Part of R225, R229, R230, R232, R233 and R234. (spec/08_downlink_chain.md) -/
def Obligations.DownlinkSymbolsAreFormed : Prop :=
  ∀ (k : Fin 8) (s : State), ∀ c, c = k.val → ∀ car, car = (s.fetchSymbol false c).1 →
    ∀ a, a = (s.fetchSymbol false c).2 → s.chainRuns = true → s.domOn pdCst = true → s.forcedSlot a = 0 → s.light = false →
    s.ecc = [] → SMap.get 0 s.dlc.fetched c ≠ a + 1 →
    (∀ j < c, (s.fetchSymbol false j).2 = a → s.heldFor false j a = [] ∧ (s.queue j).pkts.any (fun p => p.air == a) = false) →
    (s.heldFor false c a = [] → (s.queue c).pkts.filter (fun p => p.air == a) = [] →
      ∃ t, exec (.downlinkFetch k [] []) s = .next t ∧
        SMap.get [] t.dlc.out c = List.replicate 64 (List.replicate (12 * car.nprb) 0) ∧ (t.queue c).pkts = (s.queue c).pkts ∧
        t.sect.held = s.sect.held ∧ (∀ n, n ≠ c → n ≠ 8 → t.queue n = s.queue n) ∧
        SMap.get 0 t.dlc.fetched c = a + 1 ∧ t.dlc = { s.dlc with out := t.dlc.out, fetched := t.dlc.fetched } ∧
        t = { s with regs := t.regs, raise := t.raise, queues := t.queues, dlc := t.dlc } ∧ s.regsBut t (queueRegs c ++ queueRegs 8)) ∧
    (∀ h : HeldSec, s.heldFor false c a = [h] → (s.queue c).pkts.filter (fun p => p.air == a) = [] → 0 < h.count → s.raiseRoom 1 →
      ∃ t, exec (.downlinkFetch k [] []) s = .next t ∧
        t.fld Fld.ATM_SECT_DROP_LATE = min 65535 (s.fld Fld.ATM_SECT_DROP_LATE + 1) ∧
        s.occurrence 0x60 (1 + 16 * h.carrier + 65536 * h.id) ∈ t.raise ∧ h ∉ t.sect.held ∧
        SMap.get [] t.dlc.out c = List.replicate 64 (List.replicate (12 * car.nprb) 0) ∧ t.store = s.store) ∧
    (∀ (h : HeldSec) (p : StoredPkt) (ws : List (Int × Int)), s.heldFor false c a = [h] →
      (s.queue c).pkts.filter (fun p => p.air == a) = [p] → ∀ d, d = s.pktNow p → pktSub d = h.id →
      dldReason ⟨h, [], false⟩ d = 0 → (dldBlocks h.mant d).length = h.count → s.sectionWeights h reqDownlink = (s, .ok ws) →
      SMap.get 0 s.dlc.load (h.air / 61440) + 12 * h.count ≤ unitBudget →
      ∀ ad, ad = (⟨h, (dldBlocks h.mant d).map (fun x => (x.1, decompress h.mant x.2)),
        effWeights h.gain (s.corrections false a) ws⟩ : Admitted) →
      ∀ ys, ys = (List.range 64).map (fun x =>
          (pathOut [ad] car.nprb ((s.dlGroups car a).getD (x / 8) false) (s.zeroBand c (x / 8) a) x).1) →
      ∃ t, exec (.downlinkFetch k [] []) s = .next t ∧ SMap.get [] t.dlc.out c = ys ∧
        t.smp = { s.smp with syms := txSymbol c a car ys ++ s.smp.syms } ∧
        SMap.get 0 t.dlc.load (h.air / 61440) = SMap.get 0 s.dlc.load (h.air / 61440) + 12 * h.count ∧
        (t.queue c).pkts = (s.queue c).pkts.filter (fun p => p.air != a) ∧
        t.sect.held = s.sect.held.filter (fun x => !(x.up == false && x.carrier == c && x.air == a)) ∧
        (∀ n, n ≠ c → n ≠ 8 → t.queue n = s.queue n) ∧
        t = { s with regs := t.regs, raise := t.raise, queues := t.queues, sect := t.sect, dlc := t.dlc, rf := t.rf, seen := t.seen, smp := t.smp })

/-- At its fetch, one uplink section whose weights can be had and whose units fit is admitted to a job for its symbol. The
job's packet, outside SB symbols and where no stage saturates, combines the samples of stage 8, with zero for every
path that did not receive; where its queue is in use with room it enters its queue; without a queue it is counted. A
head packet past its age leaves and is counted AGED. A PRACH occasion that nothing prevents takes its window and its
NCO, and one that something prevents is counted with its reason and event 0x6F; the end of a window queues its packet
in the uplink region and counts the occasion. Part of R253, R265 to R273 and R275 to R277. (spec/09_uplink_chain.md) -/
def Obligations.UplinkSymbolsBecomePackets : Prop :=
  ∀ (s : State), s.chainRuns = true → s.domOn pdCst = true → s.light = false → s.fld Fld.CST_ECC_INJ_MODE = 0 →
    (∀ (k : Fin 8) (h : HeldSec) (ws : List (Int × Int)), ∀ c, c = k.val → ∀ car, car = (s.fetchSymbol true c).1 →
      ∀ a, a = (s.fetchSymbol true c).2 → s.heldFor true c a = [h] → s.forcedSlot a = 0 → s.ecc = [] →
      SMap.get 0 s.ulc.fetched c ≠ a + 1 → (∀ j < c, (s.fetchSymbol true j).2 = a → s.heldFor true j a = []) → s.sectionWeights h reqUplink = (s, .ok ws) →
      SMap.get 0 s.ulc.load (h.air / 61440) + ulUnits h car.pgMask ≤ unitBudget →
      ∃ t, exec (.uplinkFetch k []) s = .next t ∧
        t.ul.jobs = s.ul.jobs ++ [⟨c, a, symStop car.scs a, car.scs, car.nprb, ((s.copyAt true a).drop (3 * c)).take 3, car.pgMask,
          s.groupsActing dirRx a &&& car.pgMask, [⟨h, effWeights h.gain (s.corrections true a) ws⟩]⟩] ∧ t.ul.pra = s.ul.pra ∧
        t.sect.held = s.sect.held.filter (fun x => !(x.up == true && x.carrier == c && x.air == a)) ∧
        (∀ n, n ≠ 8 → t.queue n = s.queue n) ∧
        t = { s with regs := t.regs, raise := t.raise, queues := t.queues, sect := t.sect, ulc := t.ulc, ul := t.ul, rf := t.rf } ∧
        s.regsBut t (Reg.ULC_LOAD :: queueRegs 8)) ∧
    (∀ (k : Fin 8) (j : UlJob) (u : UlSection), s.ul.jobs = [j] → j.carrier = k.val → j.secs = [u] →
      ∀ ls, ls = s.logsIn j.air j.stop → ∀ v, v = s.jobSymbol j → v.2.1 = 0 → (∀ p < 64, s.jobSats j p = 0) →
      ∀ st, st = sectionStreams j u (fun p i => if bitOf v.1 (p / 8) && !zeroAll ls p then s.jobSample j p i else 0) false →
      ∀ ps, ps = markLast (s.sectionPackets j none u st (fun _ => logFlags ls) (zeroPg v.1 ls)) → streamSats u.sec st = 0 →
      (s.linkIs lnkActive = false →
        ∃ t, exec (.uplinkPacketBuild k [] []) s = .next t ∧
          t.fld Fld.ULC_DROPD_NOQUEUE = min (2 ^ Fld.ULC_DROPD_NOQUEUE.width - 1) (s.fld Fld.ULC_DROPD_NOQUEUE + ps.length) ∧
          t = { s with regs := t.regs, ul := { s.ul with jobs := [] } } ∧ s.regsBut t [Reg.ULC_DROPD]) ∧
      (∀ pk, ps = [pk] → s.linkIs lnkActive = true → (s.queue pk.queue).use = true →
        s.uplinkOccupancy + creditsOf (pktLen pk.bytes) ≤ s.uplinkCredits →
        ∃ t, exec (.uplinkPacketBuild k [] []) s = .next t ∧
          (t.queue pk.queue).pkts = (s.queue pk.queue).pkts ++ [⟨pk.bytes, false, pk.air, 0, (s.storePacket pk.queue pk.bytes reqUplink).2, []⟩] ∧
          (∀ n, n ≠ pk.queue → t.queue n = s.queue n) ∧ t.ul = { s.ul with jobs := [] } ∧ t.link = { s.link with turn := t.link.turn } ∧
          t = { s with regs := t.regs, raise := t.raise, queues := t.queues, ul := t.ul, link := t.link, store := t.store, ecc := t.ecc } ∧
          s.regsBut t (queueRegs pk.queue))) ∧
    (∀ (k : Fin 32) (p : StoredPkt) (ps : List StoredPkt), (s.queue k.val).pkts = p :: ps → 16 ≤ k.val → k.val < 26 →
      s.fld Fld.ULC_AGE_MS ≠ 0 → p.air + 122880 * s.fld Fld.ULC_AGE_MS < s.air →
      ∃ t, exec (.packetAgeDiscard k) s = .next t ∧ (t.queue k.val).pkts = ps ∧
        t.fld Fld.ULC_DROPC_AGED = min (2 ^ Fld.ULC_DROPC_AGED.width - 1) (s.fld Fld.ULC_DROPC_AGED + 1) ∧
        (∀ n, n ≠ k.val → t.queue n = s.queue n) ∧ t = { s with regs := t.regs, raise := t.raise, queues := t.queues } ∧
        s.regsBut t (Reg.ULC_DROPC :: queueRegs k.val)) ∧
    (∀ (e : Fin 4) (a : Nat), a = s.praSlot e.val s.air → s.praMatches e.val s.air = true →
      (s.praReason e.val a = 0 →
        ∃ t, exec (.prachOccasion e) s = .next t ∧ SMap.find t.ul.pra e.val = some (s.praRun e.val a) ∧ t.ul.jobs = s.ul.jobs ∧
          SMap.get 0 t.ul.praFreq e.val = (s.praRun e.val a).freq ∧ t = { s with ul := t.ul, smp := t.smp }) ∧
      (∀ r, s.praReason e.val a = r → r ≠ 0 → s.raiseRoom 1 →
        ∃ t, exec (.prachOccasion e) s = .next t ∧ t.fld (Fld.ULC_PRAe_STATUS_LAST_SKIP e.val) = r ∧
          t.fld (Fld.ULC_PRAe_STATUS_SKIP e.val) = min 255 (s.fld (Fld.ULC_PRAe_STATUS_SKIP e.val) + 1) ∧
          t.raise = s.raise ++ [s.occurrence 0x6F (e.val + 16 * r)] ∧ t = { s with regs := t.regs, raise := t.raise } ∧
          s.regsBut t [Reg.ULC_PRAe_STATUS e.val])) ∧
    (∀ (e : Fin 4) (r : PraRun) (b base size : Nat), s.ul.pra = [(e.val, r)] → r.beams = [b] → praReps r.cfg = 1 →
      s.ecc = [] → s.regionOfKind 2 = some (base, size) → storeBase ≤ base → base % 256 = 0 → size % 256 = 0 →
      s.linkIs lnkActive = true → (s.queue 24).use = true → s.uplinkOccupancy + 3 ≤ s.uplinkCredits →
      ∃ t, exec (.prachWindowEnd e false) s = .next t ∧ t.ul.pra = [] ∧
        t.fld (Fld.ULC_PRAe_STATUS_OCC e.val) = min 65535 (s.fld (Fld.ULC_PRAe_STATUS_OCC e.val) + 1) ∧
        (t.queue 24).pkts.length = (s.queue 24).pkts.length + 1 ∧ (t.queue 24).pkts.take (s.queue 24).pkts.length = (s.queue 24).pkts ∧
        ((t.queue 24).pkts.drop (s.queue 24).pkts.length).all (fun p =>
          pktType p.bytes == tyPra && pktLen p.bytes == 564 && pktSub p.bytes == e.val) = true ∧
        (∀ n, n ≠ 24 → t.queue n = s.queue n) ∧ (∀ x, x < base ∨ base + size ≤ x → t.storeByte x = s.storeByte x))

/-- A load GO while the group's engine is busy sets OVERRUN alone; otherwise, with its block in a powered store and no swap
waiting for its path and class, it runs. At the end a WRITE of an error-free block fills the shadow bank and no other
bank, a READ puts the chosen bank's words into the store and leaves every other byte, and LOADS rises with ERR 0. A
swap request waits; at its boundary the active bank of each of its paths and its class flips, no other does, in the
grid symbol that begins there too, and event 0x80 is raised. Part of R284, R285 and R286. (spec/10_linearisation_power.md) -/
def Obligations.PreDistortionBanksLoadAndSwap : Prop :=
  ∀ (gr : Fin 8) (q : Requester) (w : Word) (s : State), ∀ g, g = gr.val →
    (∀ (c : Instr) (wr : Bool), (c = .pdLoadWrite gr q w ∧ wr = true) ∨ (c = .pdLoadRead gr q w ∧ wr = false) →
      s.passes q (Reg.LIN_PGg_LOAD_CTRL g) true → s.disturbLop2 g (Reg.LIN_PGg_LOAD_CTRL g) q = s →
      (s.on (Fld.LIN_PGg_LOAD_STATUS_STATE g) = true →
        ∃ t, exec c s = .next t ∧ t.on (Fld.LIN_PGg_LOAD_CTRL_OVERRUN g) = true ∧ s.onlyRegs t [Reg.LIN_PGg_LOAD_CTRL g]) ∧
      (s.on (Fld.LIN_PGg_LOAD_STATUS_STATE g) = false → s.storeRange (s.fld (Fld.LIN_PGg_LOAD_ADDR_ADDR g)) pdBlockLen = true →
        (s.lg g).swap = none →
        ∃ t, exec c s = .next t ∧ t.on (Fld.LIN_PGg_LOAD_STATUS_STATE g) = true ∧ t.on (Fld.LIN_PGg_LOAD_CTRL_GO g) = true ∧
          t.on (Fld.LIN_PGg_LOAD_CTRL_OP g) = !wr ∧
          t.lg g = { s.lg g with load := some ⟨wr, (Fld.LIN_PGg_LOAD_CTRL_PATH g).of w, (Fld.LIN_PGg_LOAD_CTRL_CLASS g).of w,
            (Fld.LIN_PGg_LOAD_CTRL_SEL g).of w ≠ 0, s.fld (Fld.LIN_PGg_LOAD_ADDR_ADDR g)⟩ } ∧
          (∀ h, h ≠ g → t.lg h = s.lg h) ∧ t = { s with regs := t.regs, lin := { s.lin with groups := t.lin.groups } } ∧
          s.regsBut t [Reg.LIN_PGg_LOAD_CTRL g, Reg.LIN_PGg_LOAD_STATUS g])) ∧
    (∀ l : PdLoad, (s.lg g).load = some l → s.storeRange l.addr pdBlockLen = true → s.ecc = [] → s.fld Fld.CST_ECC_INJ_MODE = 0 →
      l.path < 8 → l.cls < 4 →
      ∃ t, exec (.pdLoadEnd gr) s = .next t ∧ t.on (Fld.LIN_PGg_LOAD_STATUS_STATE g) = false ∧
        t.fld (Fld.LIN_PGg_LOAD_STATUS_ERR g) = 0 ∧ t.on (Fld.LIN_PGg_LOAD_CTRL_GO g) = false ∧
        t.lg g = { s.lg g with load := none } ∧ (∀ h, h ≠ g → t.lg h = s.lg h) ∧
        (l.write = true →
          t.pdBank (8 * g + l.path) l.cls (1 - s.activeBank g l.path l.cls) =
            (bytesToWords (s.storeBytes l.addr pdBlockLen)).map (· &&& 0x3FFFF#32) ∧
          (∀ p c b, c < 4 → b < 2 → (p, c, b) ≠ (8 * g + l.path, l.cls, 1 - s.activeBank g l.path l.cls) →
            t.pdBank p c b = s.pdBank p c b) ∧ t.store = s.store) ∧
        (l.write = false → ∀ b, b = (if l.shadow then 1 - s.activeBank g l.path l.cls else s.activeBank g l.path l.cls) →
          (s.pdBank (8 * g + l.path) l.cls b).length = 2560 →
          t.storeBytes l.addr pdBlockLen = wordsToBytes (s.pdBank (8 * g + l.path) l.cls b) ∧
          (∀ a, a < l.addr ∨ l.addr + pdBlockLen ≤ a → t.storeByte a = s.storeByte a) ∧ t.lin.banks = s.lin.banks) ∧
        t = { s with regs := t.regs, store := t.store, lin := t.lin } ∧
        s.regsBut t [Reg.LIN_PGg_LOAD_CTRL g, Reg.LIN_PGg_LOAD_STATUS g, Reg.CORE_IRQ g]) ∧
    (s.passes q (Reg.LIN_PGg_SWAP_CTRL g) true → s.disturbLop2 g (Reg.LIN_PGg_SWAP_CTRL g) q = s →
      (s.on (Fld.LIN_PGg_SWAP_CTRL_GO g) = true →
        ∃ t, exec (.pdSwapRequest gr q w) s = .next t ∧ t.on (Fld.LIN_PGg_SWAP_CTRL_OVERRUN g) = true ∧
          s.onlyRegs t [Reg.LIN_PGg_SWAP_CTRL g]) ∧
      (s.on (Fld.LIN_PGg_SWAP_CTRL_GO g) = false →
        ∃ t, exec (.pdSwapRequest gr q w) s = .next t ∧ t.on (Fld.LIN_PGg_SWAP_CTRL_GO g) = true ∧
          t.lg g = { s.lg g with swap := some ((Fld.LIN_PGg_SWAP_CTRL_CLASS g).of w, (Fld.LIN_PGg_SWAP_CTRL_PATHS g).of w) } ∧
          (∀ h, h ≠ g → t.lg h = s.lg h) ∧ t = { s with regs := t.regs, lin := { s.lin with groups := t.lin.groups } } ∧
          s.regsBut t [Reg.LIN_PGg_SWAP_CTRL g])) ∧
    (∀ c m, (s.lg g).swap = some (c, m) → (s.lg g).load = none → (s.lg g).window = none → s.raiseRoom 1 →
      ∃ t, exec (.pdBankSwap gr) s = .next t ∧ (t.lg g).swap = none ∧ t.on (Fld.LIN_PGg_SWAP_CTRL_GO g) = false ∧
        (∀ i d, i < 8 → d < 4 →
          t.activeBank g i d = if d = c ∧ bitOf m i then 1 - s.activeBank g i d else s.activeBank g i d) ∧
        t.raise = s.raise ++ [s.occurrence 0x80 (m + 256 * c + 4096 * g)] ∧ t.lin.banks = s.lin.banks ∧
        t.rf = { s.rf with log := t.rf.log } ∧ t.rf.log.tail = s.rf.log.tail ∧
        (∀ l, s.rf.log.head? = some l → l.air = symStart s.time.scs s.air → t.rf.log.head? = some (t.withSettings l)) ∧
        t = { s with regs := t.regs, raise := t.raise, lin := t.lin, rf := t.rf } ∧
        s.regsBut t [Reg.LIN_PGg_SWAP_CTRL g, Reg.LIN_PGg_PD_ACTIVE g])

/-- A write of SEQ_CTRL takes its mode; in OFF no path is next. A capture whose conditions hold begins its window for the
sequencer's path; its end gives energies and clip count of the ORX samples and of the reference that REF_SRC and REFDLY
choose, counts the capture, raises 0x82, and with DRAIN_EN holds the record. INTERVAL that elapses in AUTO while the
buffer is held counts a skip. A read of the port takes one word of the record, and the last one releases the buffer.
The correlator's end writes its result, from the basis functions over the captured samples, into the store, leaves
every other byte, and raises 0x83. Part of R287 to R292. (spec/10_linearisation_power.md) -/
def Obligations.ObservationCapturesAreTakenAndHeld : Prop :=
  ∀ (gr : Fin 8) (q : Requester) (w : Word) (s : State), ∀ g, g = gr.val →
    (∀ (c : Instr) (m : Nat), (c = .seqModeOff gr q w ∧ m = seqOff) ∨ (c = .seqModeAuto gr q w ∧ m = seqAuto) ∨
        (c = .seqModeSingle gr q w ∧ m = seqSingle) → s.passes q (Reg.LIN_PGg_SEQ_CTRL g) true → s.disturbLop2 g (Reg.LIN_PGg_SEQ_CTRL g) q = s →
      ∃ t, exec c s = .next t ∧ t.seqMode g = m ∧
        t.rd (Reg.LIN_PGg_SEQ_CTRL g) =
          writeWord (Reg.LIN_PGg_SEQ_CTRL g) ((Fld.LIN_PGg_SEQ_CTRL_MODE g).put m w) (s.rd (Reg.LIN_PGg_SEQ_CTRL g)) ∧
        (m = seqOff → t.nextPath g = none ∧ (t.lg g).sel = (s.lg g).sel) ∧ (t.lg g).window = (s.lg g).window ∧
        (∀ h, h ≠ g → t.lg h = s.lg h) ∧ t = { s with regs := t.regs, lin := { s.lin with groups := t.lin.groups } } ∧
        s.regsBut t [Reg.LIN_PGg_SEQ_CTRL g, Reg.LIN_PGg_CAP_STATUS g]) ∧
    (∀ u, u = s.selectPath g → ∀ i, u.nextPath g = some i → u.mayCapture g i = true → ∀ c, c = s.time.pdClass →
      ∃ t, exec (.orxCaptureStart gr) s = .next t ∧
        t.lg g = { u.lg g with
          window := some ⟨i, c, s.fld (Fld.LIN_PGg_SEQ_CFG_REF_SRC g), s.activeBank g i c, false, s.air,
            s.fld (Fld.LIN_PATHp_REFDLY_DLY (8 * g + i)), 0, s.fld (Fld.RFE_PGg_ORX_OGAIN g),
              s.seqMode g == seqSingle⟩, started := some s.air, last := i } ∧
        t.on (Fld.LIN_PGg_CAP_STATUS_BUSY g) = true ∧ (∀ h, h ≠ g → t.lg h = s.lg h) ∧
        t = { s with regs := t.regs, lin := { s.lin with groups := t.lin.groups } } ∧ s.regsBut t [Reg.LIN_PGg_CAP_STATUS g]) ∧
    (∀ (v : Capture) (orx : List (BitVec 24)), (s.lg g).window = some v → v.path < 8 → v.cls < 4 →
      orx.length = capLen → s.on (Fld.LIN_PATHp_LOOP_CFG_LOOP_EN (8 * g + v.path)) = false →
      s.on (Fld.LIN_PGg_SEQ_CTRL_DRAIN_EN g) = true → s.on (Fld.LIN_PGg_SEQ_CTRL_COR_EN g) = false → s.raiseRoom 1 →
      ∀ e, e = (orx.map orxEnergy).sum → ∀ v', v' = { v with clip := (orx.map orxClip).sum } →
      ∀ ref, ref = s.captureRef (8 * g + v.path) v → ∀ ex, ex = s.captureEx (8 * g + v.path) v →
      ∃ t, exec (.orxCaptureEnd gr orx) s = .next t ∧ (t.lg g).window = none ∧
        (t.lg g).record = captureRecord v' e ex orx ref ∧ (t.lg g).samples = (orx.map orxWord).zip ref ∧ t.on (Fld.LIN_PGg_CAP_STATUS_HELD g) = true ∧
        t.on (Fld.LIN_PGg_CAP_STATUS_BUSY g) = false ∧
        (t.rd (Reg.LIN_PGg_CAP_EORX_LO g)).toNat + 2 ^ 32 * (t.rd (Reg.LIN_PGg_CAP_EORX_HI g)).toNat = e ∧
        (t.rd (Reg.LIN_PGg_CAP_EX_LO g)).toNat + 2 ^ 32 * (t.rd (Reg.LIN_PGg_CAP_EX_HI g)).toNat = ex ∧
        t.raise = s.raise ++ [s.occurrence 0x82 (v.path + 16 * g + 256 * v.cls + 4096 * bit v.mixed + 65536 * v'.clip)] ∧
        (∀ h, h ≠ g → t.lg h = s.lg h) ∧ t = { s with regs := t.regs, raise := t.raise, lin := { s.lin with groups := t.lin.groups } } ∧
        s.regsBut t [Reg.LIN_PGg_CAP_STATUS g, Reg.LIN_PGg_CAP_INFO g, Reg.LIN_PGg_CAP_EORX_LO g, Reg.LIN_PGg_CAP_EORX_HI g,
          Reg.LIN_PGg_CAP_EX_LO g, Reg.LIN_PGg_CAP_EX_HI g, Reg.LIN_PGg_SEQ_CTRL g, Reg.CORE_IRQ g]) ∧
    (s.seqMode g = seqAuto → s.fld (Fld.LIN_PGg_SEQ_CTRL_INTERVAL g) ≠ 0 → s.on (Fld.LIN_PGg_CAP_STATUS_HELD g) = true →
      ∃ t, exec (.intervalSkip gr) s = .next t ∧ t.fld (Fld.LIN_PGg_CAP_STATUS_SKIPS g) =
          min (2 ^ (Fld.LIN_PGg_CAP_STATUS_SKIPS g).width - 1) (s.fld (Fld.LIN_PGg_CAP_STATUS_SKIPS g) + 1) ∧
        s.onlyRegs t [Reg.LIN_PGg_CAP_STATUS g]) ∧
    (∀ x xs, s.passes q (Reg.LIN_PGg_PORT g) false → (s.lg g).record = x :: xs → s.on (Fld.LIN_PGg_SEQ_CTRL_DRAIN_EN g) = true →
      s.on (Fld.LIN_PGg_SEQ_CTRL_COR_EN g) = false →
      ∃ t, exec (.capturePortRead gr q) s = .next t ∧ t.lg g = { s.lg g with record := xs, samples := if xs = [] then [] else (s.lg g).samples } ∧
        t.on (Fld.LIN_PGg_CAP_STATUS_HELD g) = (s.on (Fld.LIN_PGg_CAP_STATUS_HELD g) && xs != []) ∧ (∀ h, h ≠ g → t.lg h = s.lg h) ∧
        t = { s with regs := t.regs, lin := { s.lin with groups := t.lin.groups } } ∧ s.regsBut t [Reg.LIN_PGg_CAP_STATUS g]) ∧
    (∀ (v : Capture), ∀ n, n = s.fld (Fld.LIN_PGg_COR_CTRL_NBASIS g) → ∀ a, a = s.fld (Fld.LIN_PGg_COR_DEST_ADDR g) →
      ∀ k, k = 32 + 8 * (n * (n + 1) / 2 + n) → (s.lg g).run = some v → n ≠ 0 → s.storeRange a k = true → s.basisBad g n = false →
      s.ecc = [] → s.fld Fld.CST_ECC_INJ_MODE = 0 → s.raiseRoom 1 →
      ∃ t, exec (.correlatorEnd gr false) s = .next t ∧ t.storeBytes a k = corResult v n (s.corSums g) false ∧
        (∀ b, b < a ∨ a + k ≤ b → t.storeByte b = s.storeByte b) ∧ (t.lg g).run = none ∧
        t.on (Fld.LIN_PGg_COR_STATUS_BUSY g) = false ∧ t.fld (Fld.LIN_PGg_COR_STATUS_ERR g) = 0 ∧
        t.fld (Fld.LIN_PGg_COR_STATUS_DONE g) =
          (s.fld (Fld.LIN_PGg_COR_STATUS_DONE g) + 1) % 2 ^ (Fld.LIN_PGg_COR_STATUS_DONE g).width ∧
        t.raise = s.raise ++ [s.occurrence 0x83 (16 * g)] ∧ (∀ h, h ≠ g → t.lg h = s.lg h) ∧
        t = { s with regs := t.regs, store := t.store, raise := t.raise, lin := { s.lin with groups := t.lin.groups } } ∧
        s.regsBut t [Reg.LIN_PGg_COR_STATUS g, Reg.LIN_PGg_CAP_STATUS g, Reg.CORE_IRQ g])

/-- LOP2 sets OVERRUN alone while it runs, runs with one unit per path and class, writes a 16-byte record for each unit
that ends (with ITER cycles where it ends OK, else at most as many) and no other byte, is DONE after the last with
LOP_END, and ABORTED with ERR 4 on ABORT. A kernel swap is noted and, at a boundary, the other bank is in use. CORR_CLR
returns a path's correction to 0; a stale source sets STALE with event 0x87; CNT_CLR clears the LIN counters but
COR_STATUS.DONE. Part of R295, R296, R299, R302, R303 and R447. (spec/10_linearisation_power.md, spec/15_housekeeping_events.md) -/
def Obligations.PreDistortionCampaignsAndSettings : Prop :=
  ∀ (q : Requester) (w : Word) (s : State),
    (s.passes q Reg.LIN_LOP2_CTRL true →
      (s.lopBusy 2 = true → ∃ t, exec (.lop2PdCampaign q w) s = .next t ∧ t.on Fld.LIN_LOP2_CTRL_OVERRUN = true ∧
        s.onlyRegs t [Reg.LIN_LOP2_CTRL]) ∧
      (∀ us, us = s.lop2Paths.flatMap (fun p => ((List.range 4).filter (bitOf (Fld.LIN_LOP2_CTRL_CLASSES.of w))).map (4 * p + ·)) →
        ∀ a, a = s.fld Fld.LIN_LOP2_DEST_ADDR → s.lopBusy 2 = false → us.any (fun u => s.on (Fld.RFE_PGg_CFG_FITTED (u / 32))) = true →
        s.domOn pdDsp = true → storeBase ≤ a → a + 16 * us.length ≤ storeEnd →
        ∃ t, exec (.lop2PdCampaign q w) s = .next t ∧ t.lopState 2 = lopRunning ∧ t.fld (Fld.LOP_STATn_UNITS_DONE 2) = 0 ∧
          t.fld (Fld.LOP_STATn_UNITS_TOTAL 2) = us.length ∧ t.lopRes 2 = BitVec.ofNat 32 a ∧
          t = { s with regs := t.regs, lin := { s.lin with lop2 := some ⟨us, 0, a⟩ } } ∧
          s.regsBut t [Reg.LIN_LOP2_CTRL, Reg.LOP_STATn 2]) ∧
      (s.lopBusy 2 = true → s.raiseRoom 1 →
        ∃ t, exec (.lop2Abort q w) s = .next t ∧ t.lopState 2 = lopAborted ∧ t.fld (Fld.LOP_STATn_ERR 2) = 4 ∧
          t.raise = s.raise ++ [s.occurrence 0x06 (2 + 16 * lopAborted + 256 * 4)] ∧ t.on Fld.LIN_LOP2_CTRL_GO = false ∧
          t = { s with regs := t.regs, raise := t.raise, lin := { s.lin with lop2 := none } } ∧
          s.regsBut t [Reg.LIN_LOP2_CTRL, Reg.LOP_STATn 2])) ∧
    (∀ (r : Fin 3) (i : Byte) (x y : BitVec 16) (k : Nat) (ks : List Nat) (n a : Nat), s.lin.lop2 = some ⟨k :: ks, n, a⟩ → n < 4095 →
      k < 256 → s.boot.loaded.contains (k / 32) = false → s.ecc = [] → s.fld Fld.CST_ECC_INJ_MODE = 0 → s.raiseRoom 1 →
      ∃ t, exec (.lop2UnitEnd r i x y) s = .next t ∧
        t.storeBytes (a + 16 * n) 16 = leBytes 1 (k / 4) ++ leBytes 1 (k % 4) ++ leBytes 1 (lop2Result r) ++
          leBytes 1 (if r = 0 then max 1 (s.fld Fld.LIN_LOP2_CTRL_ITER) else min (max 1 (s.fld Fld.LIN_LOP2_CTRL_ITER)) i.toNat) ++
          leBytes 2 x.toNat ++ leBytes 2 y.toNat ++ leBytes 4 s.air ++ leBytes 4 0 ∧
        (∀ b, b < a + 16 * n ∨ a + 16 * n + 16 ≤ b → t.storeByte b = s.storeByte b) ∧
        t.fld (Fld.LOP_STATn_UNITS_DONE 2) = n + 1 ∧
        (ks ≠ [] → t.lin.lop2 = some ⟨ks, n + 1, a⟩ ∧ t.raise = s.raise ∧ t.lopState 2 = s.lopState 2) ∧
        (ks = [] → t.lin.lop2 = none ∧ t.lopState 2 = lopDone ∧ t.raise = s.raise ++ [s.occurrence 0x06 (2 + 16 * lopDone)]) ∧
        t = { s with regs := t.regs, store := t.store, raise := t.raise, lin := { s.lin with lop2 := t.lin.lop2 } } ∧
        s.regsBut t [Reg.LIN_LOP2_CTRL, Reg.LOP_STATn 2]) ∧
    (s.passes q Reg.LIN_CTRL true →
      (Fld.LIN_CTRL_CNT_CLR.of w = 0 →
        ∃ t, exec (.kernelSwapRequest q w) s = .next t ∧ t.on Fld.LIN_CTRL_KSWAP = true ∧ s.onlyRegs t [Reg.LIN_CTRL]) ∧
      (∃ t, exec (.linCntClr q w) s = .next t ∧
        (∀ g < 8, t.fld (Fld.LIN_PGg_CAP_STATUS_CAPTURES g) = 0 ∧ t.fld (Fld.LIN_PGg_CAP_STATUS_SKIPS g) = 0 ∧
          t.fld (Fld.LIN_PGg_LOAD_STATUS_LOADS g) = 0 ∧ t.rd (Reg.LIN_PGg_COR_STATUS g) = s.rd (Reg.LIN_PGg_COR_STATUS g)) ∧
        (∀ p < 64, t.rd (Reg.LIN_PATHp_SAT p) = 0 ∧ t.rd (Reg.LIN_PATHp_CFR_COUNT p) = 0 ∧ t.rd (Reg.LIN_PATHp_LOOP_COUNT p) = 0) ∧
        s.onlyRegs t (Reg.LIN_CTRL :: (List.range 8).map Reg.LIN_PGg_CAP_STATUS ++ (List.range 8).map Reg.LIN_PGg_LOAD_STATUS ++
          (List.range 64).map Reg.LIN_PATHp_SAT ++ (List.range 64).map Reg.LIN_PATHp_CFR_COUNT ++
          (List.range 64).map Reg.LIN_PATHp_LOOP_COUNT))) ∧
    (s.on Fld.LIN_CTRL_KSWAP = true →
      ∃ t, exec .kernelBankSwap s = .next t ∧ t.fld Fld.LIN_STATUS_KBANK = 1 - s.fld Fld.LIN_STATUS_KBANK ∧
        t.on Fld.LIN_CTRL_KSWAP = false ∧ t.rf = { s.rf with log := t.rf.log } ∧ t.rf.log.tail = s.rf.log.tail ∧
        (∀ l, s.rf.log.head? = some l → l.air = symStart s.time.scs s.air → t.rf.log.head? = some (t.withSettings l)) ∧
        t = { s with regs := t.regs, rf := t.rf } ∧ s.regsBut t [Reg.LIN_CTRL, Reg.LIN_STATUS]) ∧
    (∀ p : Fin 64, s.passes q (Reg.LIN_PATHp_LOOP_CFG p.val) true → ∀ v, v = writeWord (Reg.LIN_PATHp_LOOP_CFG p.val)
        ((Fld.LIN_PATHp_LOOP_CFG_CORR_CLR p.val).put 0 w) (s.rd (Reg.LIN_PATHp_LOOP_CFG p.val)) → (Fld.LIN_PATHp_LOOP_CFG_LIMIT p.val).of v ≠ 0 →
      ∃ t, exec (.corrClr p q w) s = .next t ∧ t.fld (Fld.LIN_PATHp_LOOP_STATUS_CORR p.val) = 0 ∧
        t.on (Fld.LIN_PATHp_LOOP_STATUS_AT_LIMIT p.val) = false ∧
        t.rd (Reg.LIN_PATHp_LOOP_CFG p.val) = v ∧
        s.onlyRegs t [Reg.LIN_PATHp_LOOP_CFG p.val, Reg.LIN_PATHp_LOOP_STATUS p.val]) ∧
    (∀ g : Fin 8, s.domOn pdLin = true → s.on (Fld.LIN_PGg_COMP_STATUS_STALE g.val) = false → s.raiseRoom 1 →
      ∃ t, exec (.compStaleTimeout g) s = .next t ∧ t.on (Fld.LIN_PGg_COMP_STATUS_STALE g.val) = true ∧
        t.raise = s.raise ++ [s.occurrence 0x87 g.val] ∧ t = { s with regs := t.regs, raise := t.raise } ∧
        s.regsBut t [Reg.LIN_PGg_COMP_STATUS g.val])

/-- For an LO that is not the ready one in use, or a group that is off: a GO for a usable channel of the group's band
begins a retune from stored codes or a VCO calibration; one for an unusable channel raises 0xA3 and changes nothing
else; one that meets a Timetable pre-tune of the same instant sets OVERRUN alone; PWRDN leaves OFF. Lock, a lock that
times out, and the end of a calibration, which writes the record of the channel table, move the state. A phase step is
taken in pieces of at most 4,096. Part of R327 to R330 and R333. (spec/12_rf_and_synthesis.md) -/
def Obligations.LosRetuneCalibrateAndLock : Prop :=
  ∀ (gr : Fin 8) (xr : Fin 2) (q : Requester) (w : Word) (s : State), ∀ g, g = gr.val → ∀ x, x = xr.val →
    s.groupOn g = false ∨ (s.loReady g = true ∧ s.loInUse g ≠ x) →
    (s.passes q (Reg.RFE_PGg_LOx_CTRL g x) true →
      ((s.synth g x).pretuned = some s.air →
        ∃ t, exec (.loRetuneGo gr xr q w) s = .next t ∧ t.on (Fld.RFE_PGg_LOx_CTRL_OVERRUN g x) = true ∧
          s.onlyRegs t [Reg.RFE_PGg_LOx_CTRL g x]) ∧
      (∀ c, c = (Fld.RFE_PGg_LOx_CTRL_CHAN g x).of w → (s.synth g x).pretuned ≠ some s.air →
        (Fld.RFE_PGg_LOx_CTRL_PWRDN g x).of w = 0 → ¬(s.loState g x = loLocked ∧ s.loChan g x = c) →
        (entryUsable (s.chanEntry c) = true → entryBand (s.chanEntry c) = s.fld (Fld.RFE_PGg_CFG_BAND g) →
          ∃ t, exec (.loRetuneGo gr xr q w) s = .next t ∧ t.loChan g x = c ∧
            (t.loState g x = loRetune ∨ t.loState g x = loVcoCal) ∧
            (bitOf (fieldAt (s.chanBytes c (32 + 8 * (2 * g + x)) 8) 4 1) 7 = false → t.loState g x = loVcoCal) ∧
            (t.synth g x).entry = s.chanEntry c ∧ (t.synth g x).record = s.chanBytes c (32 + 8 * (2 * g + x)) 8 ∧
            (t.synth g x).phaseLeft = 0 ∧ t = { s with regs := t.regs, rf := { s.rf with synths := t.rf.synths } } ∧
            s.regsBut t [Reg.RFE_PGg_LOx_CTRL g x, Reg.RFE_PGg_LOx_STATUS g x, Reg.RFE_PGg_LOx_PHASE g x]) ∧
        (entryUsable (s.chanEntry c) = false → s.raiseRoom 1 →
          ∃ t, exec (.loRetuneGo gr xr q w) s = .next t ∧ t.raise = s.raise ++ [s.occurrence 0xA3 (loInfo g x c + 256)] ∧
            t = { s with regs := t.regs, raise := t.raise } ∧ s.regsBut t [Reg.RFE_PGg_LOx_CTRL g x])) ∧
      (∃ t, exec (.loPwrdn gr xr q w) s = .next t ∧ t.loState g x = loOff ∧ (t.synth g x).phaseLeft = 0 ∧
        t = { s with regs := t.regs, rf := { s.rf with synths := t.rf.synths } } ∧
        s.regsBut t [Reg.RFE_PGg_LOx_CTRL g x, Reg.RFE_PGg_LOx_STATUS g x, Reg.RFE_PGg_LOx_PHASE g x])) ∧
    (s.loState g x = loRetune →
      (∃ t, exec (.loFastLock gr xr) s = .next t ∧ t.loState g x = loLocked ∧ (t.synth g x).lockedAt = s.air ∧
        t.loChan g x = s.loChan g x ∧ t = { s with regs := t.regs, rf := { s.rf with synths := t.rf.synths } } ∧
        s.regsBut t [Reg.RFE_PGg_LOx_STATUS g x]) ∧
      (∃ t, exec (.loFastLockTimeout gr xr) s = .next t ∧ t.loState g x = loVcoCal ∧ t.loChan g x = s.loChan g x ∧
        s.onlyRegs t [Reg.RFE_PGg_LOx_STATUS g x])) ∧
    (∀ codes : BitVec 48, ∀ c, c = s.loChan g x → ∀ k, k = 32 + 8 * (2 * g + x) → s.loState g x = loVcoCal → s.raiseRoom 1 →
      (∃ t, exec (.vcoCalEnd gr xr codes) s = .next t ∧ t.loState g x = loLocked ∧
        t.chanBytes c k 8 = calRecord codes (s.groupTemp g) ∧ (t.synth g x).record = calRecord codes (s.groupTemp g) ∧
        (t.synth g x).lockedAt = s.air ∧ t.raise = s.raise ++ [s.occurrence 0xA2 (loInfo g x c)] ∧
        t = { s with regs := t.regs, raise := t.raise, rf := { s.rf with synths := t.rf.synths } } ∧
        s.regsBut t [Reg.SYT_CHAN (64 * c + k / 4), Reg.SYT_CHAN (64 * c + k / 4 + 1), Reg.RFE_PGg_LOCNT g,
          Reg.RFE_PGg_LOx_STATUS g x]) ∧
      (∃ t, exec (.vcoCalLockTimeout gr xr) s = .next t ∧ t.loState g x = loFail ∧
        t.raise = s.raise ++ [s.occurrence 0xA1 (loInfo g x c)] ∧
        t.fld (Fld.RFE_PGg_LOCNT_FAIL g) = min (2 ^ (Fld.RFE_PGg_LOCNT_FAIL g).width - 1) (s.fld (Fld.RFE_PGg_LOCNT_FAIL g) + 1) ∧
        t = { s with regs := t.regs, raise := t.raise } ∧ s.regsBut t [Reg.RFE_PGg_LOCNT g, Reg.RFE_PGg_LOx_STATUS g x])) ∧
    (s.passes q (Reg.RFE_PGg_LOx_PHASE g x) true →
      (s.on (Fld.RFE_PGg_LOx_PHASE_BUSY g x) = true →
        ∃ t, exec (.loPhaseGo gr xr q w) s = .next t ∧ t.on (Fld.RFE_PGg_LOx_PHASE_OVERRUN g x) = true ∧
          s.onlyRegs t [Reg.RFE_PGg_LOx_PHASE g x]) ∧
      (∀ k, k = sext 16 ((Fld.RFE_PGg_LOx_PHASE_STEP g x).of w) → s.on (Fld.RFE_PGg_LOx_PHASE_BUSY g x) = false → k ≠ 0 →
        ∃ t, exec (.loPhaseGo gr xr q w) s = .next t ∧ t.on (Fld.RFE_PGg_LOx_PHASE_BUSY g x) = true ∧
          t.synth g x = { s.synth g x with phaseLeft := k } ∧
          t = { s with regs := t.regs, rf := { s.rf with synths := t.rf.synths } } ∧ s.regsBut t [Reg.RFE_PGg_LOx_PHASE g x])) ∧
    (∀ l, l = (s.synth g x).phaseLeft → ∀ p, p = max (-4096) (min 4096 l) → s.loState g x = loLocked → l ≠ 0 →
      ∃ t, exec (.loPhasePiece gr xr) s = .next t ∧ (t.synth g x).phaseLeft = l - p ∧
        t.fld (Fld.RFE_PGg_LOx_PHPOS_POS g x) = toCode 16 (s.fld (Fld.RFE_PGg_LOx_PHPOS_POS g x) + p) ∧
        (l = p → t.on (Fld.RFE_PGg_LOx_PHASE_BUSY g x) = false) ∧
        t = { s with regs := t.regs, rf := { s.rf with synths := t.rf.synths } } ∧
        s.regsBut t [Reg.RFE_PGg_LOx_PHPOS g x, Reg.RFE_PGg_LOx_PHASE g x])

/-- A write of a group's band or LO selection loads its register; the selection waits for a boundary. A root that loses
lock is reported, counted, raised as 0xA0 and takes the link down; when it locks again every LO that was LOCKED or in
RETUNE retunes to its usable channel. An RFFE GO clears the entries' results and begins entry 0; a GO while busy sets
OVERRUN alone; a timed entry begins when its time has come, late with event 0xA7; an entry that ends is DONE, a read
stores its bytes, and after the last the list ends; ABORT ends a list whose entry waits. Part of R321, R326, R332, R340
and R341. (spec/12_rf_and_synthesis.md) -/
def Obligations.BandsTheRootAndRffeLists : Prop :=
  ∀ (gr : Fin 8) (q : Requester) (w : Word) (s : State), ∀ g, g = gr.val →
    (s.passes q (Reg.RFE_PGg_CFG g) true →
      ∃ t, exec (.bandWrite gr q w) s = .next t ∧
        t.rd (Reg.RFE_PGg_CFG g) = writeWord (Reg.RFE_PGg_CFG g) w (s.rd (Reg.RFE_PGg_CFG g)) ∧ s.onlyRegs t [Reg.RFE_PGg_CFG g]) ∧
    (s.passes q (Reg.RFE_PGg_LOSEL g) true →
      ∃ t, exec (.loselWrite gr q w) s = .next t ∧
        t.rd (Reg.RFE_PGg_LOSEL g) = writeWord (Reg.RFE_PGg_LOSEL g) w (s.rd (Reg.RFE_PGg_LOSEL g)) ∧
        t.loInUse g = s.loInUse g ∧ bitOf t.rf.selWaits g = true ∧
        t = { s with regs := t.regs, rf := { s.rf with selWaits := t.rf.selWaits } } ∧ s.regsBut t [Reg.RFE_PGg_LOSEL g]) ∧
    (s.on Fld.CLK_STATUS_ROOT_LOCK = true → s.raiseRoom 4 →
      ∃ t, exec .rootLockLoss s = .next t ∧ t.on Fld.CLK_STATUS_ROOT_LOCK = false ∧ t.on Fld.CLK_STATUS_ROOT_UNLOCKED = true ∧
        s.occurrence 0xA0 0 ∈ t.raise ∧ (∀ h, t.loReady h = false) ∧
        (s.linkIs lnkActive = true → t.linkIs lnkActive = false) ∧ t.store = s.store ∧ t.flash = s.flash ∧ t.fuses = s.fuses) ∧
    (s.domOn pdSyn = true → s.on Fld.CLK_STATUS_FABRIC_ON_ROOT = true → s.on Fld.CLK_STATUS_ROOT_LOCK = false →
      ∃ t, exec .rootRelock s = .next t ∧ t.on Fld.CLK_STATUS_ROOT_LOCK = true ∧
        (∀ h x, h < 8 → x < 2 → t.loChan h x = s.loChan h x ∧
          (s.domOn (pdPg h) = true → s.loState h x = loLocked ∨ s.loState h x = loRetune →
            entryUsable (s.chanEntry (s.loChan h x)) = true → entryBand (s.chanEntry (s.loChan h x)) = s.fld (Fld.RFE_PGg_CFG_BAND h) →
            t.loState h x = loRetune ∨ t.loState h x = loVcoCal) ∧
          (s.loState h x ≠ loLocked → s.loState h x ≠ loRetune → t.loState h x = s.loState h x)) ∧
        t.store = s.store ∧ t.link = s.link ∧ t.fuses = s.fuses) ∧
    (s.passes q (Reg.RFE_PGg_RFFE_CTRL g) true →
      (s.on (Fld.RFE_PGg_RFFE_CTRL_BUSY g) = true →
        ∃ t, exec (.rffeGo gr q w) s = .next t ∧ t.on (Fld.RFE_PGg_RFFE_CTRL_OVERRUN g) = true ∧
          s.onlyRegs t [Reg.RFE_PGg_RFFE_CTRL g]) ∧
      (∀ n, n = (Fld.RFE_PGg_RFFE_CTRL_COUNT g).of (writeWord (Reg.RFE_PGg_RFFE_CTRL g)
          ((Fld.RFE_PGg_RFFE_CTRL_ABORT g).put 0 ((Fld.RFE_PGg_RFFE_CTRL_GO g).put 0 w)) (s.rd (Reg.RFE_PGg_RFFE_CTRL g))) →
        s.on (Fld.RFE_PGg_RFFE_CTRL_BUSY g) = false → s.on (Fld.RFE_PGg_RFFE_CTRL_ABORT g) = false → 0 < n →
        s.on (Fld.RFE_PGg_RFFE_ENTj_W0_TIMED g 0) = false →
        ∃ t, exec (.rffeGo gr q w) s = .next t ∧ t.rffe g = some ⟨0, n, true⟩ ∧ t.on (Fld.RFE_PGg_RFFE_CTRL_BUSY g) = true ∧
          t.on (Fld.RFE_PGg_RFFE_CTRL_GO g) = true ∧ (∀ j < 16, t.rd (Reg.RFE_PGg_RFFE_ENTj_W3 g j) = 0) ∧
          t = { s with regs := t.regs, rf := { s.rf with rffe := t.rf.rffe } } ∧
          s.regsBut t (Reg.RFE_PGg_RFFE_CTRL g :: (List.range 16).map (Reg.RFE_PGg_RFFE_ENTj_W3 g))) ∧
      (∀ r : RffeRun, s.on (Fld.RFE_PGg_RFFE_CTRL_BUSY g) = true → s.rffe g = some r → r.begun = false →
        ∃ t, exec (.rffeAbort gr q w) s = .next t ∧ t.rffe g = none ∧ t.on (Fld.RFE_PGg_RFFE_CTRL_BUSY g) = false ∧
          t.on (Fld.RFE_PGg_RFFE_CTRL_GO g) = false ∧ t = { s with regs := t.regs, rf := { s.rf with rffe := t.rf.rffe } } ∧
          s.regsBut t [Reg.RFE_PGg_RFFE_CTRL g]) ∧
      (∀ r : RffeRun, s.on (Fld.RFE_PGg_RFFE_CTRL_BUSY g) = true → s.rffe g = some r → r.begun = true →
        ∃ t, exec (.rffeAbort gr q w) s = .next t ∧ t.rffe g = some r ∧ t.on (Fld.RFE_PGg_RFFE_CTRL_ABORT g) = true ∧
          s.onlyRegs t [Reg.RFE_PGg_RFFE_CTRL g])) ∧
    (∀ r : RffeRun, s.rffe g = some r → r.begun = false → r.entry < r.count → s.on (Fld.RFE_PGg_RFFE_CTRL_ABORT g) = false →
      s.on (Fld.RFE_PGg_RFFE_ENTj_W0_TIMED g r.entry) = true →
      aheadOf 32 (s.fld (Fld.RFE_PGg_RFFE_ENTj_W2_ATIME g r.entry)) (s.air % 2 ^ 32) = false → s.raiseRoom 1 →
      ∃ t, exec (.rffeEntryStart gr) s = .next t ∧ t.rffe g = some ⟨r.entry, r.count, true⟩ ∧
        (s.fld (Fld.RFE_PGg_RFFE_ENTj_W2_ATIME g r.entry) = s.air % 2 ^ 32 → t.raise = s.raise ∧ t.regs = s.regs) ∧
        (s.fld (Fld.RFE_PGg_RFFE_ENTj_W2_ATIME g r.entry) ≠ s.air % 2 ^ 32 →
          t.on (Fld.RFE_PGg_RFFE_ENTj_W3_LATE g r.entry) = true ∧ t.raise = s.raise ++ [s.occurrence 0xA7 (g + 256 * r.entry)]) ∧
        t = { s with regs := t.regs, raise := t.raise, rf := { s.rf with rffe := t.rf.rffe } } ∧
        s.regsBut t [Reg.RFE_PGg_RFFE_ENTj_W3 g r.entry]) ∧
    (∀ (r : RffeRun) (v : Word), s.rffe g = some r → r.begun = true → r.count = r.entry + 1 →
      ∃ t, exec (.rffeEntryEnd gr v false) s = .next t ∧ t.on (Fld.RFE_PGg_RFFE_ENTj_W3_DONE g r.entry) = true ∧ t.rffe g = none ∧
        t.on (Fld.RFE_PGg_RFFE_CTRL_BUSY g) = false ∧
        (s.on (Fld.RFE_PGg_RFFE_ENTj_W0_OP g r.entry) = true → t.rd (Reg.RFE_PGg_RFFE_ENTj_W1 g r.entry) =
          BitVec.ofNat 32 (v.toNat % 2 ^ (8 * (s.fld (Fld.RFE_PGg_RFFE_ENTj_W0_BC g r.entry) + 1)))) ∧
        (s.on (Fld.RFE_PGg_RFFE_ENTj_W0_OP g r.entry) = false →
          t.rd (Reg.RFE_PGg_RFFE_ENTj_W1 g r.entry) = s.rd (Reg.RFE_PGg_RFFE_ENTj_W1 g r.entry)) ∧
        t = { s with regs := t.regs, rf := { s.rf with rffe := t.rf.rffe } } ∧
        s.regsBut t [Reg.RFE_PGg_RFFE_ENTj_W1 g r.entry, Reg.RFE_PGg_RFFE_ENTj_W3 g r.entry, Reg.RFE_PGg_RFFE_CTRL g])

/-- A COMMIT while one is pending sets OVERRUN alone; a plan that breaks a condition loads CFG_ERR with event 0x97; a valid
one waits for its frame boundary, at which it is in force and valid. A load GO runs the engine where its block lies in
the powered store; a WRITE of a good block without error fills the free set, which its class takes at a boundary with
event 0x93; a READ copies the class's set into the store and leaves every other byte. CNT_CLR clears the SFD counters.
Part of R305, R308, R311 and R313. (spec/11_full_duplex.md) -/
def Obligations.DuplexPlansAndCoefficientSets : Prop :=
  ∀ (q : Requester) (w : Word) (s : State),
    (s.passes q Reg.SFD_CTRL true →
      (s.on Fld.SFD_STATUS_COMMIT_PENDING = true →
        ∃ t, exec (.sfdCommit q w) s = .next t ∧ t.on Fld.SFD_STATUS_OVERRUN = true ∧ s.onlyRegs t [Reg.SFD_STATUS]) ∧
      (∀ ws, ws = [s.rd Reg.SFD_CFG0, s.rd Reg.SFD_CFG1, s.rd Reg.SFD_CFG2] → ∀ b, b = frameBoundaryFrom s.air s.tEarly →
        ∀ r, r = (planOf ws).reason (s.carrierAt false (planOf ws).carrier b) (s.carrierAt true (planOf ws).carrier b) →
        s.on Fld.SFD_STATUS_COMMIT_PENDING = false → Fld.SFD_CTRL_CNT_CLR.of w = 0 →
        (r ≠ 0 → s.raiseRoom 1 →
          ∃ t, exec (.sfdCommit q w) s = .next t ∧ t.fld Fld.SFD_STATUS_CFG_ERR = r ∧ t.on Fld.SFD_CTRL_COMMIT = false ∧
            t.raise = s.raise ++ [s.occurrence 0x97 r] ∧ t = { s with regs := t.regs, raise := t.raise } ∧
            s.regsBut t [Reg.SFD_CTRL, Reg.SFD_STATUS]) ∧
        (r = 0 →
          ∃ t, exec (.sfdCommit q w) s = .next t ∧ t.on Fld.SFD_STATUS_COMMIT_PENDING = true ∧ t.on Fld.SFD_CTRL_COMMIT = true ∧
            t.fld Fld.SFD_CTRL_EN = Fld.SFD_CTRL_EN.of w ∧ t = { s with regs := t.regs, sfd := { s.sfd with next := ws, boundary := b } } ∧
            s.regsBut t [Reg.SFD_CTRL, Reg.SFD_STATUS])) ∧
      (Fld.SFD_CTRL_COMMIT.of w = 0 →
        ∃ t, exec (.sfdCntClr q w) s = .next t ∧ t.fld Fld.SFD_LOAD_STATUS_LOADS = 0 ∧ t.fld Fld.SFD_CAP_STATUS_CAPTURES = 0 ∧
          (∀ g < 8, t.fld (Fld.SFD_PGg_STATUS_LIMITS g) = 0 ∧ t.on (Fld.SFD_PGg_STATUS_DEMOTED g) = s.on (Fld.SFD_PGg_STATUS_DEMOTED g)) ∧
          (∀ p < 64, t.rd (Reg.SFD_PATHp_COUNT p) = 0) ∧
          s.onlyRegs t ([Reg.SFD_CTRL, Reg.SFD_LOAD_STATUS, Reg.SFD_CAP_STATUS] ++ (List.range 8).map Reg.SFD_PGg_STATUS ++
            (List.range 64).map Reg.SFD_PATHp_COUNT))) ∧
    (∀ p, p = planOf s.sfd.next → s.sfd.next ≠ [] →
      ∃ t, exec .sfdCommitInForce s = .next t ∧ t.on Fld.SFD_STATUS_COMMIT_PENDING = false ∧ t.on Fld.SFD_STATUS_CFG_VALID = true ∧
        t.on Fld.SFD_CTRL_COMMIT = false ∧
        t.rd Reg.SFD_NCO = BitVec.ofInt 32 (p.nco (s.carrierAt false p.carrier s.sfd.boundary)) ∧
        t = { s with regs := t.regs, sfd := { s.sfd with plan := s.sfd.next, next := [] }, smp := t.smp } ∧
        t.smp = { s.smp with past := t.smp.past } ∧ s.regsBut t [Reg.SFD_CTRL, Reg.SFD_STATUS, Reg.SFD_NCO]) ∧
    (∀ (c : Instr) (wr : Bool), (c = .sfdLoadWrite q w ∧ wr = true) ∨ (c = .sfdLoadRead q w ∧ wr = false) →
      s.passes q Reg.SFD_LOAD_CTRL true → s.sfd.lop3 = none →
      (s.on Fld.SFD_LOAD_CTRL_GO = true →
        ∃ t, exec c s = .next t ∧ t.on Fld.SFD_LOAD_CTRL_OVERRUN = true ∧ s.onlyRegs t [Reg.SFD_LOAD_CTRL]) ∧
      (s.on Fld.SFD_LOAD_CTRL_GO = false → s.storeRange (s.fld Fld.SFD_LOAD_ADDR_ADDR) sfdBlockLen = true →
        ∃ t, exec c s = .next t ∧ t.on Fld.SFD_LOAD_CTRL_GO = true ∧ t.fld Fld.SFD_LOAD_STATUS_STATE = 1 ∧
          t = { s with regs := t.regs, sfd := { s.sfd with
            load := some ⟨wr, Fld.SFD_LOAD_CTRL_CLASS.of w, s.fld Fld.SFD_LOAD_ADDR_ADDR, none⟩ } } ∧
          s.regsBut t [Reg.SFD_LOAD_CTRL, Reg.SFD_LOAD_STATUS])) ∧
    (∀ l : SfdLoad, s.sfd.load = some l → l.set = none → s.storeRange l.addr sfdBlockLen = true → s.ecc = [] →
      s.fld Fld.CST_ECC_INJ_MODE = 0 →
      (l.write = true → sfdBlockOk (s.storeBytes l.addr sfdBlockLen) = true →
        ∃ t, exec .sfdLoadCopyEnd s = .next t ∧ t.fld Fld.SFD_LOAD_STATUS_STATE = 2 ∧
          t.sfdSet s.freeSet = trimBlock (s.storeBytes l.addr sfdBlockLen) ∧ (∀ k, k ≠ s.freeSet → t.sfdSet k = s.sfdSet k) ∧
          t = { s with regs := t.regs, sfd := { s.sfd with sets := t.sfd.sets, load := some { l with set := some s.freeSet } } } ∧
          s.regsBut t [Reg.SFD_LOAD_STATUS]) ∧
      (l.write = false → (s.sfdSet (s.classSet l.cls)).length = sfdBlockLen → s.raiseRoom 1 →
        ∃ t, exec .sfdLoadCopyEnd s = .next t ∧ t.storeBytes l.addr sfdBlockLen = s.sfdSet (s.classSet l.cls) ∧
          (∀ a, a < l.addr ∨ l.addr + sfdBlockLen ≤ a → t.storeByte a = s.storeByte a) ∧
          t.fld Fld.SFD_LOAD_STATUS_STATE = 0 ∧ t.on Fld.SFD_LOAD_CTRL_GO = false ∧
          t.raise = s.raise ++ [s.occurrence 0x93 (l.cls + 256 + 1024 * s.classSet l.cls)] ∧
          t = { s with regs := t.regs, store := t.store, raise := t.raise, sfd := { s.sfd with load := none } } ∧
          s.regsBut t [Reg.SFD_LOAD_CTRL, Reg.SFD_LOAD_STATUS])) ∧
    (∀ (l : SfdLoad) (k : Nat), s.sfd.load = some l → l.set = some k → k < 32 → s.time.sfdClass ≠ l.cls → s.raiseRoom 1 →
      ∃ t, exec .sfdLoadBoundary s = .next t ∧ t.classSet l.cls = k ∧ t.fld (Fld.SFD_CLASSc_NREF l.cls) = blockNref (s.sfdSet k) ∧
        t.fld Fld.SFD_LOAD_STATUS_STATE = 0 ∧ t.on Fld.SFD_LOAD_CTRL_GO = false ∧
        t.raise = s.raise ++ [s.occurrence 0x93 (l.cls + 1024 * k)] ∧
        t = { s with regs := t.regs, raise := t.raise, sfd := { s.sfd with load := none } } ∧
        s.regsBut t [Reg.SFD_CLASSc l.cls, Reg.SFD_LOAD_CTRL, Reg.SFD_LOAD_STATUS])

/-- A capture GO while one is armed sets OVERRUN alone, else arms it where its record lies in the powered store; at a
boundary at which every group of the carrier is SB its window begins; its record's end writes the record of the
references and the canceller inputs, raises 0x95 and line 8. LOP3 runs one unit per class, writes a 16-byte record per
unit and no other byte, is DONE after the last, and ABORTED on ABORT. At an SB symbol's end its paths show their levels
and SEQ counts; a path over the limit counts LIMITS with event 0x90. A residue failure is counted with event 0x96 and
stops its path's subtraction to the end of the symbol. A write of DEMOTED clears it. Part of R310, R314 to R318. (spec/11_full_duplex.md, spec/15_housekeeping_events.md) -/
def Obligations.DuplexCapturesTrainingAndMonitor : Prop :=
  ∀ (q : Requester) (w : Word) (s : State),
    (s.passes q Reg.SFD_CAP_CTRL true → s.sfd.lop3 = none →
      (s.on Fld.SFD_CAP_CTRL_GO = true →
        ∃ t, exec (.sfdCapGo q w) s = .next t ∧ t.on Fld.SFD_CAP_CTRL_OVERRUN = true ∧ s.onlyRegs t [Reg.SFD_CAP_CTRL]) ∧
      (s.on Fld.SFD_CAP_CTRL_GO = false → s.storeRange (s.fld Fld.SFD_CAP_DEST_ADDR) sfdRecordLen = true →
        ∃ t, exec (.sfdCapGo q w) s = .next t ∧ t.on Fld.SFD_CAP_CTRL_GO = true ∧
          t.fld Fld.SFD_CAP_CTRL_CLASS = Fld.SFD_CAP_CTRL_CLASS.of w ∧ s.onlyRegs t [Reg.SFD_CAP_CTRL])) ∧
    (∀ c, c = s.time.sfdClass → s.on Fld.SFD_CAP_CTRL_GO = true → s.sfd.window = none → s.sbForAll = true →
      s.on Fld.SFD_CAP_CTRL_CLASS_ANY = true ∨ s.fld Fld.SFD_CAP_CTRL_CLASS = c →
      ∃ t, exec .sfdCaptureStart s = .next t ∧ t.on Fld.SFD_CAP_STATUS_BUSY = true ∧
        t = { s with regs := t.regs, sfd := { s.sfd with window := some ⟨c, s.fld (Fld.SFD_CLASSc_NREF c), (planOf s.sfd.plan).rate,
          s.fdGroups, s.air, s.fld Fld.SFD_CAP_DEST_ADDR, false⟩ } } ∧ s.regsBut t [Reg.SFD_CAP_STATUS]) ∧
    (∀ (v : SfdWindow), s.sfd.window = some v → s.storeRange v.dest sfdRecordLen = true → s.ecc = [] → s.fld Fld.CST_ECC_INJ_MODE = 0 → s.raiseRoom 1 →
      ∃ t, exec .sfdCaptureRecordEnd s = .next t ∧ t.storeBytes v.dest sfdRecordLen = sfdRecord v (s.sfdStream v) ∧
        (∀ a, a < v.dest ∨ v.dest + sfdRecordLen ≤ a → t.storeByte a = s.storeByte a) ∧
        t.on Fld.SFD_CAP_STATUS_BUSY = false ∧ t.fld Fld.SFD_CAP_STATUS_ERR = 0 ∧ t.on Fld.SFD_CAP_CTRL_GO = false ∧
        t.raise = s.raise ++ [s.occurrence 0x95 (256 * v.cls + 4096 * bit v.mixed)] ∧
        t = { s with regs := t.regs, store := t.store, raise := t.raise, sfd := { s.sfd with window := none, line8 := true } } ∧
        s.regsBut t [Reg.SFD_CAP_CTRL, Reg.SFD_CAP_STATUS]) ∧
    (s.passes q Reg.SFD_LOP3_CTRL true →
      (s.lopBusy 3 = true → ∃ t, exec (.lop3SfdTraining q w) s = .next t ∧ t.on Fld.SFD_LOP3_CTRL_OVERRUN = true ∧
        s.onlyRegs t [Reg.SFD_LOP3_CTRL]) ∧
      (∀ us, us = (List.range 16).filter (bitOf (Fld.SFD_LOP3_CTRL_CLASSES.of w)) → ∀ a, a = s.fld Fld.SFD_LOP3_DEST_ADDR →
        s.lopBusy 3 = false → us ≠ [] → s.planOn = true → s.on Fld.SFD_CTRL_EN = true → s.domOn pdDsp = true →
        storeBase ≤ a → a + 16 * us.length ≤ storeEnd →
        ∃ t, exec (.lop3SfdTraining q w) s = .next t ∧ t.lopState 3 = lopRunning ∧ t.fld (Fld.LOP_STATn_UNITS_DONE 3) = 0 ∧
          t.fld (Fld.LOP_STATn_UNITS_TOTAL 3) = us.length ∧ t.lopRes 3 = BitVec.ofNat 32 a ∧
          t = { s with regs := t.regs, sfd := { s.sfd with lop3 := some ⟨us, 0, a⟩ } } ∧
          s.regsBut t [Reg.SFD_LOP3_CTRL, Reg.LOP_STATn 3]) ∧
      (s.lopBusy 3 = true → s.raiseRoom 1 →
        ∃ t, exec (.lop3Abort q w) s = .next t ∧ t.lopState 3 = lopAborted ∧
          t.raise = s.raise ++ [s.occurrence 0x06 (3 + 16 * lopAborted + 256 * 4)] ∧
          t = { s with regs := t.regs, raise := t.raise, sfd := { s.sfd with lop3 := none } } ∧
          s.regsBut t [Reg.SFD_LOP3_CTRL, Reg.LOP_STATn 3])) ∧
    (∀ (r : Fin 3) (i : Byte) (x y : BitVec 16) (c : Nat) (cs : List Nat) (n a : Nat), s.sfd.lop3 = some ⟨c :: cs, n, a⟩ → n < 4095 →
      c < 256 → s.ecc = [] → s.fld Fld.CST_ECC_INJ_MODE = 0 → s.raiseRoom 1 →
      ∃ t, exec (.lop3UnitEnd r i x y) s = .next t ∧
        t.storeBytes (a + 16 * n) 16 = leBytes 1 c ++ leBytes 1 (trainResult r) ++
          leBytes 1 (if r = 1 then min (max 1 (s.fld Fld.SFD_LOP3_CTRL_ITER) - 1) i.toNat else max 1 (s.fld Fld.SFD_LOP3_CTRL_ITER)) ++ leBytes 1 0 ++
          leBytes 2 x.toNat ++ leBytes 2 y.toNat ++ leBytes 4 s.air ++ leBytes 4 0 ∧
        (∀ b, b < a + 16 * n ∨ a + 16 * n + 16 ≤ b → t.storeByte b = s.storeByte b) ∧ t.fld (Fld.LOP_STATn_UNITS_DONE 3) = n + 1 ∧
        (cs ≠ [] → t.sfd.lop3 = some ⟨cs, n + 1, a⟩ ∧ t.raise = s.raise) ∧
        (cs = [] → t.sfd.lop3 = none ∧ t.lopState 3 = lopDone ∧ t.raise = s.raise ++ [s.occurrence 0x06 (3 + 16 * lopDone)]) ∧
        t = { s with regs := t.regs, store := t.store, raise := t.raise, sfd := { s.sfd with lop3 := t.sfd.lop3 } } ∧
        s.regsBut t [Reg.SFD_LOP3_CTRL, Reg.LOP_STATn 3]) ∧
    (∀ (g : Nat), g < 8 → s.rf.dirs = (List.range 8).map (fun k => if k = g then dirSb else dirF) →
      ∀ lv, lv = s.sbLevels → (∀ p < 64, (lv p).post ≥ s.fld (Fld.SFD_PGg_RES_RES_MAX g)) →
      ((∀ p < 64, s.overLimit p (lv p) = false) →
        ∃ t, exec (.sbSymbolEnd [] none) s = .next t ∧
          (∀ i < 8, t.fld (Fld.SFD_PATHp_MON_PRE (8 * g + i)) = (lv (8 * g + i)).pre ∧
            t.fld (Fld.SFD_PATHp_MON_POST (8 * g + i)) = (lv (8 * g + i)).post ∧
            t.fld (Fld.SFD_PATHp_MON_SEQ (8 * g + i)) = (s.fld (Fld.SFD_PATHp_MON_SEQ (8 * g + i)) + 1) %
              2 ^ (Fld.SFD_PATHp_MON_SEQ (8 * g + i)).width) ∧
          t.on (Fld.SFD_PGg_STATUS_RES_HIGH g) = false ∧ t.raise = s.raise ∧
          t = { s with regs := t.regs, sfd := { s.sfd with limitRun := t.sfd.limitRun, resRun := t.sfd.resRun } } ∧
          s.regsBut t (Reg.SFD_PGg_STATUS g :: (List.range 8).map (fun i => Reg.SFD_PATHp_MON (8 * g + i)))) ∧
      (s.overLimit (8 * g) (lv (8 * g)) = true → (∀ i, 1 ≤ i → i < 8 → s.overLimit (8 * g + i) (lv (8 * g + i)) = false) →
        SMap.get 0 s.seen (65536 * 0x90 + g) ≠ frameOf s.air + 1 → s.on (Fld.SFD_PGg_LIMIT_ACTION g) = false → s.raiseRoom 1 →
        ∃ t, exec (.sbSymbolEnd [] none) s = .next t ∧
          t.fld (Fld.SFD_PGg_STATUS_LIMITS g) =
            min (2 ^ (Fld.SFD_PGg_STATUS_LIMITS g).width - 1) (s.fld (Fld.SFD_PGg_STATUS_LIMITS g) + 1) ∧
          t.raise = s.raise ++ [s.occurrence 0x90 (g + 256 * (8 * g) + 65536 * (lv (8 * g)).input)] ∧ t.store = s.store)) ∧
    (∀ (p : Fin 64) (k : Nat), s.raiseRoom 26 →
      ∃ t, exec (.sbSymbolEnd [(p, k)] none) s = .next t ∧ ⟨p.val, s.rf.start + k, s.rf.stop⟩ ∈ t.smp.stops ∧
        t.fld (Fld.SFD_PATHp_COUNT_RESIDUE p.val) =
          min (2 ^ (Fld.SFD_PATHp_COUNT_RESIDUE p.val).width - 1) (s.fld (Fld.SFD_PATHp_COUNT_RESIDUE p.val) + 1) ∧
        (∀ j : Fin 64, j ≠ p → t.fld (Fld.SFD_PATHp_COUNT_RESIDUE j.val) = s.fld (Fld.SFD_PATHp_COUNT_RESIDUE j.val)) ∧
        s.occurrence 0x96 p.val ∈ t.raise) ∧
    (∀ g : Fin 8, s.passes q (Reg.SFD_PGg_STATUS g.val) true →
      ∃ t, exec (.demotedClear g q w) s = .next t ∧ t.on (Fld.SFD_PGg_STATUS_DEMOTED g.val) = false ∧
        t.fld (Fld.SFD_PGg_STATUS_LIMITS g.val) = s.fld (Fld.SFD_PGg_STATUS_LIMITS g.val) ∧ s.onlyRegs t [Reg.SFD_PGg_STATUS g.val])

/-- A GO while LOP0 is busy sets OVERRUN alone; a GO that R348 allows makes it RUNNING on the fixed measured set, with
UNITS_TOTAL of R349 and LOC calibrating; in forced mode it announces the slots with 0xC0. LOC's end locks it or fails
it. A forced slot runs its sequences, whose probe chips the measured groups send or receive; after the last one 0xC1 is
raised. A completed sequence goes into the store and asserts line 9. The end writes the 1,536-byte result of the
measured values, counts the calibration and raises 0x06 and 0xC2; APPLY keeps the block for its point. ABORT ends it
ABORTED 0x06, and 60 s without completion FAILED 0x07. Part of R348 to R352, R359 and R360. (spec/13_calibration.md, spec/15_housekeeping_events.md) -/
def Obligations.ArrayCalibrationMeasures : Prop :=
  ∀ (q : Requester) (w : Word) (s : State),
    (s.passes q Reg.CAL_ARR_CTRL true → s.lopBusy 0 = true →
      ∃ t, exec (.calArrGo q w) s = .next t ∧ t.on Fld.CAL_ARR_CTRL_OVERRUN = true ∧ s.onlyRegs t [Reg.CAL_ARR_CTRL]) ∧
    (∀ v, v = writeWord Reg.CAL_ARR_CTRL (Fld.CAL_ARR_CTRL_ABORT.put 0 (Fld.CAL_ARR_CTRL_GO.put 0 w)) (s.rd Reg.CAL_ARR_CTRL) →
      ∀ c, c = s.fld Fld.CAL_ARR_CHAN_CHAN → ∀ set, set = s.measuredSet c → ∀ rep, rep = max 1 (s.fld Fld.CAL_ARR_CFG_REP) →
      ∀ dir, dir = Fld.CAL_ARR_CTRL_DIR.of v → ∀ a, a = boundaryAfter s.time.scs (s.fld Fld.CAL_FORCE_AT_SFN) (s.fld Fld.CAL_FORCE_AT_SLOT) s.air →
      ∀ total, total = 64 * rep * (if dir = 0 then 2 else 1) → ∀ n, n = ((forcedSlots s.time.scs dir a).map (fun x => slotSequences s.time.scs x.1 false)).sum * 64 →
      s.passes q Reg.CAL_ARR_CTRL true → s.lopBusy 0 = false → set ≠ 0 → entryUsable (s.chanEntry c) = true →
      bitOf set (s.fld Fld.CAL_ARR_CFG_REF_PATH / 8) = true → s.domOn pdDsp = true → s.domOn pdCst = true → s.detained = false →
      s.storeRange (s.fld Fld.CAL_ARR_DEST_ADDR) 1536 = true → s.on Fld.CAL_ARR_CFG_JOINT = false →
      (Fld.CAL_ARR_CTRL_MODE.of v = 0 → total ≤ 4095 →
        ∃ t, exec (.calArrGo q w) s = .next t ∧ t.lopState 0 = lopRunning ∧ t.fld (Fld.LOP_STATn_UNITS_DONE 0) = 0 ∧
          t.fld (Fld.LOP_STATn_UNITS_TOTAL 0) = total ∧ t.on Fld.CAL_ARR_CTRL_GO = true ∧
          (t.lopRes 0).toNat = s.fld Fld.CAL_ARR_DEST_ADDR ∧ t.fld Fld.RFE_CAL_STATUS_CHAN = c ∧
          t.fld Fld.RFE_CAL_STATUS_STATE = loVcoCal ∧
          t = { s with regs := t.regs, cal := { s.cal with lop0 := some ⟨set, dir, false, false, c, Fld.CAL_ARR_CTRL_POINT.of v,
            Fld.CAL_ARR_CTRL_APPLY.of v == 1, s.fld Fld.CAL_ARR_CFG_REF_PATH, rep, s.fld Fld.CAL_ARR_DEST_ADDR, s.fld Fld.CAL_ARR_CFG_SPAN,
            s.fld Fld.CAL_ARR_CHAN_LEVEL, 0, 0, total⟩ } } ∧
          s.regsBut t [Reg.CAL_ARR_CTRL, Reg.LOP_STATn 0, Reg.RFE_CAL_STATUS]) ∧
      (Fld.CAL_ARR_CTRL_MODE.of v = 1 → n ≤ 4095 → s.air + s.tEarly ≤ a → s.air + 122880 ≤ a → s.raiseRoom 1 →
        ∃ t, exec (.calArrGo q w) s = .next t ∧ t.lopState 0 = lopRunning ∧ t.fld (Fld.LOP_STATn_UNITS_TOTAL 0) = n ∧
          t.cal.slots = forcedSlots s.time.scs dir a ∧ t.cal.slotGroups = set ∧ t.fld Fld.RFE_CAL_STATUS_STATE = loVcoCal ∧
          t.raise = s.raise ++ [s.occurrence 0xC0 (s.fld Fld.CAL_FORCE_AT_SFN + 1024 * s.fld Fld.CAL_FORCE_AT_SLOT + 2 ^ 17 * dir)] ∧
          t = { s with regs := t.regs, raise := t.raise, cal := { s.cal with slots := t.cal.slots, lop0 := t.cal.lop0, slotGroups := set } } ∧
          s.regsBut t [Reg.CAL_ARR_CTRL, Reg.LOP_STATn 0, Reg.RFE_CAL_STATUS])) ∧
    (∀ b : Bool, s.fld Fld.RFE_CAL_STATUS_STATE = loVcoCal →
      ∃ t, exec (.locLockEnd b) s = .next t ∧ t.fld Fld.RFE_CAL_STATUS_STATE = (if b then loLocked else loFail) ∧
        s.onlyRegs t [Reg.RFE_CAL_STATUS]) ∧
    (∀ (o : Nat) (xs : List Byte) (c : Lop0), s.cal.lop0 = some c → c.joint = false → (c.sequences + 1) * 64 ≤ c.chips →
      s.storeRange (c.dest + o) xs.length = true → s.ecc = [] → s.fld Fld.CST_ECC_INJ_MODE = 0 →
      ∃ t, exec (.calSequenceEnd o xs) s = .next t ∧ t.storeBytes (c.dest + o) xs.length = xs ∧
        (∀ b, b < c.dest + o ∨ c.dest + o + xs.length ≤ b → t.storeByte b = s.storeByte b) ∧
        t = { s with store := t.store, cal := { s.cal with lop0 := some { c with sequences := c.sequences + 1 }, line9 := true } }) ∧
    (∀ (a x : Nat) (rest : List (Nat × Nat)), s.cal.slots = (a, x) :: rest →
      (∀ (c : Lop0) (n : Nat), s.cal.lop0 = some c → n = min c.total (c.chips + slotSequences s.time.scs a false * 64) → c.forced = true →
        c.joint = false → c.total ≤ 4095 → s.fld Fld.RFE_CAL_STATUS_STATE = loLocked →
        ∃ t, exec .calForcedSlot s = .next t ∧ t.fld (Fld.LOP_STATn_UNITS_DONE 0) = n ∧
          t.cal.lop0 = some { c with chips := n } ∧
          t.cal.probes = ⟨a, c.chips, n - c.chips, c.rxFrom, c.groups, c.span, c.level, 64, 0⟩ :: s.cal.probes ∧
          t = { s with regs := t.regs, cal := { s.cal with lop0 := t.cal.lop0, probes := t.cal.probes } } ∧ s.regsBut t [Reg.LOP_STATn 0]) ∧
      (rest ≠ [] → ∃ t, exec .calForcedSlotEnd s = .next t ∧ t = { s with cal := { s.cal with slots := rest } }) ∧
      (rest = [] → s.raiseRoom 1 →
        ∃ t, exec .calForcedSlotEnd s = .next t ∧
          t.raise = s.raise ++ [s.occurrence 0xC1 (frameOf a % 1024 + 1024 * (symbolOf s.time.scs a / 14) +
            2 ^ 20 * (if s.lopState 0 = lopFailed ∨ s.lopState 0 = lopAborted then 1 else 0))] ∧
          t = { s with raise := t.raise, cal := { s.cal with slots := [] } })) ∧
    (∀ c : Lop0, s.cal.lop0 = some c →
      (c.forced = false → c.chips < c.total → s.raiseRoom 1 →
        ∃ t, exec .backgroundCalTimeout s = .next t ∧ t.lopState 0 = lopFailed ∧ t.fld (Fld.LOP_STATn_ERR 0) = 7 ∧
          t.on Fld.CAL_ARR_CTRL_GO = false ∧ t.raise = s.raise ++ [s.occurrence 0x06 (16 * lopFailed + 256 * 7)] ∧
          t = { s with regs := t.regs, raise := t.raise, cal := { s.cal with lop0 := none } } ∧
          s.regsBut t [Reg.CAL_ARR_CTRL, Reg.LOP_STATn 0, Reg.RFE_CAL_STATUS]) ∧
      (s.passes q Reg.CAL_ARR_CTRL true → s.lopBusy 0 = true → s.raiseRoom 1 →
        ∃ t, exec (.calArrAbort q w) s = .next t ∧ t.lopState 0 = lopAborted ∧ t.fld (Fld.LOP_STATn_ERR 0) = 6 ∧
          t.on Fld.CAL_ARR_CTRL_GO = false ∧ t.raise = s.raise ++ [s.occurrence 0x06 (16 * lopAborted + 256 * 6)] ∧
          t = { s with regs := t.regs, raise := t.raise, cal := { s.cal with lop0 := none } } ∧
          s.regsBut t [Reg.CAL_ARR_CTRL, Reg.LOP_STATn 0, Reg.RFE_CAL_STATUS]) ∧
      (∀ ms : List PathCal, c.total ≤ c.chips → ms.length = 64 → (∀ p < 64, ∀ m, ms[p]? = some m → c.txOut p m = false ∧ c.rxOut p m = false) →
        s.storeRange c.dest 1536 = true → s.ecc = [] → s.fld Fld.CST_ECC_INJ_MODE = 0 → s.raiseRoom 2 →
        ∃ t, exec (.lop0End ms) s = .next t ∧ t.lopState 0 = lopDone ∧ t.fld (Fld.LOP_STATn_ERR 0) = 0 ∧
          t.on Fld.CAL_ARR_CTRL_GO = false ∧ t.fld Fld.CAL_COUNT_COUNT = min (2 ^ Fld.CAL_COUNT_COUNT.width - 1) (s.fld Fld.CAL_COUNT_COUNT + 1) ∧
          (t.rd Reg.CAL_LAST_ATIME_LO).toNat = s.air % 2 ^ 32 ∧
          t.raise = s.raise ++ [s.occurrence 0x06 (16 * lopDone),
            s.occurrence 0xC2 (c.groups + 256 * c.dir + 1024 * c.point + 65536 * (if c.apply then 1 else 0))] ∧
          (∀ b, b < c.dest ∨ c.dest + 1536 ≤ b → t.storeByte b = s.storeByte b) ∧
          (∀ b, b = t.storeBytes c.dest 1536 →
            fieldAt b 0 4 = (2 ^ 31 + 65536 * entryBand (s.chanEntry c.chan) + c.chan) % 2 ^ 32 ∧
            fieldAt b 8 4 = s.air % 2 ^ 32 ∧
            t.cal.applies = (if c.apply then s.cal.applies ++ [(c.point, b.take 1280)] else s.cal.applies) ∧
            (∀ p < 64, (∀ m, ms[p]? = some m →
              fieldAt b (1280 + 4 * p) 1 = m.txSnr.toNat ∧ fieldAt b (1281 + 4 * p) 1 = m.rxSnr.toNat ∧
              (bitOf c.groups (p / 8) = true → c.dir = 0 → p ≠ c.refPath →
                fieldAt b (256 + 16 * p) 4 = (corrCode m.txRe m.txIm).toNat ∧ fieldAt b (260 + 16 * p) 4 = (corrCode m.rxRe m.rxIm).toNat ∧
                fieldAt b (264 + 16 * p) 2 = toCode 10 (delayCode m.txTau) ∧ fieldAt b (266 + 16 * p) 2 = toCode 10 (delayCode m.rxTau))) ∧
              (bitOf c.groups (p / 8) = false → fieldAt b (256 + 16 * p) 4 = 0x4000 ∧ fieldAt b (260 + 16 * p) 4 = 0x4000 ∧
                fieldAt b (264 + 16 * p) 4 = 0))) ∧
          t = { s with regs := t.regs, store := t.store, raise := t.raise, cal := { s.cal with lop0 := none, applies := t.cal.applies } } ∧
          s.regsBut t [Reg.CAL_ARR_CTRL, Reg.LOP_STATn 0, Reg.RFE_CAL_STATUS, Reg.CAL_COUNT, Reg.CAL_LAST_ATIME_LO, Reg.CAL_LAST_ATIME_HI]))

/-- A load GO while one is under way sets OVERRUN alone, else it takes point and address. Its copy's end holds the block,
or ends in error with the point unchanged; at the boundary the point's registers hold the block, LOADS counts and 0xC3
is raised. LOP1 runs one unit per fitted group, which is silent from its start; a unit's end writes the group's
selections and the inactive I/Q banks, and the last one ends DONE, requests both swaps and raises 0xC5. A save is a
flash operation; its end programs the half that does not hold the copy loaded, leaves the other half, makes the new
copy the loaded one and raises 0xC6. Part of R345, R353, R355 and R358. (spec/13_calibration.md, spec/15_housekeeping_events.md) -/
def Obligations.PointLoadsConvertersAndSaves : Prop :=
  ∀ (q : Requester) (w : Word) (s : State),
    (s.passes q Reg.CAL_LOAD_CTRL true →
      (s.on Fld.CAL_LOAD_CTRL_GO = true →
        ∃ t, exec (.calLoadGo q w) s = .next t ∧ t.on Fld.CAL_LOAD_CTRL_OVERRUN = true ∧ s.onlyRegs t [Reg.CAL_LOAD_CTRL]) ∧
      (s.on Fld.CAL_LOAD_CTRL_GO = false → s.storeRange (s.fld Fld.CAL_LOAD_ADDR_ADDR) 1280 = true →
        ∃ t, exec (.calLoadGo q w) s = .next t ∧ t.on Fld.CAL_LOAD_CTRL_GO = true ∧
          t.fld Fld.CAL_LOAD_CTRL_POINT = Fld.CAL_LOAD_CTRL_POINT.of w ∧
          t = { s with regs := t.regs, cal := { s.cal with
            load := some (Fld.CAL_LOAD_CTRL_POINT.of w, s.fld Fld.CAL_LOAD_ADDR_ADDR)
            block := [] } } ∧
          s.regsBut t [Reg.CAL_LOAD_CTRL])) ∧
    (∀ k a : Nat, s.cal.load = some (k, a) →
      (∀ b, b = s.storeBytes a 1280 → s.cal.block = [] → s.storeRange a 1280 = true → s.ecc = [] →
        (pointBlockOk b = true → ∃ t, exec .calLoadCopyEnd s = .next t ∧ t = { s with cal := { s.cal with block := b } }) ∧
        (pointBlockOk b = false → s.raiseRoom 1 → ∃ t, exec .calLoadCopyEnd s = .next t ∧ t.fld Fld.CAL_LOAD_CTRL_ERR = 3 ∧
          t.on Fld.CAL_LOAD_CTRL_GO = false ∧ t.raise = s.raise ++ [s.occurrence 0xC4 (k + 256 * 3)] ∧
          t = { s with regs := t.regs, raise := t.raise, cal := { s.cal with load := none, block := [] } } ∧
          s.regsBut t [Reg.CAL_LOAD_CTRL])) ∧
      (s.cal.block.length = 1280 → s.cal.applies = [] → k < 64 → s.raiseRoom 1 →
        ∃ t, exec .calPointReplace s = .next t ∧
          (∀ r ∈ pointRegs k, (t.rd r.2).toNat = fieldAt s.cal.block r.1 4) ∧ (∀ r ∈ pointRegs k, t.pointWord r.2 t.air = t.rd r.2) ∧
          t.on Fld.CAL_LOAD_CTRL_GO = false ∧ t.fld Fld.CAL_LOAD_CTRL_ERR = 0 ∧
          t.fld Fld.CAL_LOAD_CTRL_LOADS = min (2 ^ Fld.CAL_LOAD_CTRL_LOADS.width - 1) (s.fld Fld.CAL_LOAD_CTRL_LOADS + 1) ∧
          t.raise = s.raise ++ [s.occurrence 0xC3 k] ∧
          t = { s with regs := t.regs, raise := t.raise, cal := { s.cal with old := t.cal.old, load := none, block := [] } } ∧
          s.regsBut t (Reg.CAL_LOAD_CTRL :: (pointRegs k).map (fun r => r.2)))) ∧
    (s.passes q Reg.CAL_CONV_CTRL true →
      (s.lopBusy 1 = true → ∃ t, exec (.calConvGo q w) s = .next t ∧ t.on Fld.CAL_CONV_CTRL_OVERRUN = true ∧
        s.onlyRegs t [Reg.CAL_CONV_CTRL]) ∧
      (∀ us, us = (List.range 8).filter (fun g => bitOf (Fld.CAL_CONV_CTRL_PG_MASK.of w) g && s.on (Fld.RFE_PGg_CFG_FITTED g)) →
        s.lopBusy 1 = false → us ≠ [] → s.domOn pdDsp = true → s.detained = false →
        ∃ t, exec (.calConvGo q w) s = .next t ∧ t.lopState 1 = lopRunning ∧ t.fld (Fld.LOP_STATn_UNITS_DONE 1) = 0 ∧
          t.fld (Fld.LOP_STATn_UNITS_TOTAL 1) = us.length ∧ t.on Fld.CAL_CONV_CTRL_GO = true ∧
          (∀ g, us.head? = some g → ∀ p < 8, (∀ l < 4, SMap.get 0 t.rf.fec (4 * (8 * g + p) + l) = 0) ∧
              ⟨8 * g + p, s.air, s.rf.stop⟩ ∈ t.smp.mutes) ∧
          t = { s with regs := t.regs, rf := { s.rf with edges := t.rf.edges, levels := t.rf.levels, fec := t.rf.fec, log := t.rf.log }, smp := { s.smp with mutes := t.smp.mutes }, cal := { s.cal with lop1 := some ⟨us, 0, 0⟩ } } ∧
          s.regsBut t [Reg.CAL_CONV_CTRL, Reg.LOP_STATn 1])) ∧
    (∀ (conv iq : List Word) (g : Nat) (rest : List Nat) (n d : Nat), s.cal.lop1 = some ⟨g :: rest, n, d⟩ → g < 8 → conv.length = 35 →
      iq.length = 144 → s.raiseRoom 2 → n + 1 ≤ s.fld (Fld.LOP_STATn_UNITS_TOTAL 1) →
      ∃ t, exec (.lop1UnitEnd conv iq) s = .next t ∧
        (∀ i < 8, ∀ p, p = 8 * g + i → t.rd (Reg.CAL_CONV_Pp_W2 p) = conv.getD (4 * i + 2) 0 ∧ t.rd (Reg.CAL_CONV_Pp_W3 p) = conv.getD (4 * i + 3) 0 ∧
          t.iqBankWords false p (1 - s.fld Fld.DLC_STATUS_IQ_BANK) = (iq.drop (9 * i)).take 9 ∧
          t.iqBankWords true p (1 - s.fld Fld.ULC_STATUS_IQ_BANK) = (iq.drop (9 * (8 + i))).take 9) ∧
        t.rd (Reg.CAL_CONV_ORXg g) = conv.getD 32 0 ∧ t.fld (Fld.LOP_STATn_UNITS_DONE 1) = n + 1 ∧
        (rest ≠ [] → t.cal.lop1 = some ⟨rest, n + 1, setBitOf d g true⟩ ∧ t.raise = s.raise) ∧
        (rest = [] → t.cal.lop1 = none ∧ t.lopState 1 = lopDone ∧ t.on Fld.CAL_CONV_CTRL_GO = false ∧ t.on Fld.DLC_CTRL_IQ_SWAP = true ∧
          t.on Fld.ULC_CTRL_IQ_SWAP = true ∧
          (∀ p < 64, bitOf (setBitOf d g true) (p / 8) = false → t.iqBankWords false p (1 - s.fld Fld.DLC_STATUS_IQ_BANK) =
            s.iqBankWords false p (s.fld Fld.DLC_STATUS_IQ_BANK)) ∧
          t.fld Fld.CAL_COUNT_COUNT = min (2 ^ Fld.CAL_COUNT_COUNT.width - 1) (s.fld Fld.CAL_COUNT_COUNT + 1) ∧
          t.raise = s.raise ++ [s.occurrence 0x06 (1 + 16 * lopDone), s.occurrence 0xC5 (setBitOf d g true)]) ∧
        t = { s with regs := t.regs, raise := t.raise, rf := { s.rf with edges := t.rf.edges, levels := t.rf.levels, fec := t.rf.fec, log := t.rf.log }, smp := { s.smp with mutes := t.smp.mutes }, cal := { s.cal with lop1 := t.cal.lop1 } } ∧
        (∀ us, us = (if rest = [] then List.range 64 else (List.range 8).map (8 * g + ·)) →
          s.regsBut t ([Reg.CAL_CONV_ORXg g, Reg.CAL_CONV_LOs (2 * g), Reg.CAL_CONV_LOs (2 * g + 1), Reg.LOP_STATn 1] ++
            (List.range 8).flatMap (fun i => [Reg.CAL_CONV_Pp_W0 (8 * g + i), Reg.CAL_CONV_Pp_W1 (8 * g + i),
              Reg.CAL_CONV_Pp_W2 (8 * g + i), Reg.CAL_CONV_Pp_W3 (8 * g + i)]) ++
            us.flatMap (fun p => (List.range 9).flatMap (fun i => [
              Reg.DLC_IQp_TAP p (1 - s.fld Fld.DLC_STATUS_IQ_BANK) 0 + 4 * i,
              Reg.ULC_IQp_TAP p (1 - s.fld Fld.ULC_STATUS_IQ_BANK) 0 + 4 * i])) ++
            (if rest = [] then [Reg.DLC_CTRL, Reg.ULC_CTRL, Reg.CAL_CONV_CTRL, Reg.CAL_COUNT, Reg.CAL_LAST_ATIME_LO,
              Reg.CAL_LAST_ATIME_HI] else [])))) ∧
    (s.passes q Reg.CAL_SAVE_CTRL true →
      (s.on Fld.CAL_SAVE_CTRL_GO = true → ∃ t, exec (.calSaveGo q w) s = .next t ∧ t.on Fld.CAL_SAVE_CTRL_OVERRUN = true ∧
        s.onlyRegs t [Reg.CAL_SAVE_CTRL]) ∧
      (s.on Fld.CAL_SAVE_CTRL_GO = false → s.flashOps = [] →
        ∃ t, exec (.calSaveGo q w) s = .next t ∧ t.on Fld.CAL_SAVE_CTRL_GO = true ∧
          t = { s with regs := t.regs, flashOps := [.save (s.fld Fld.CAL_SAVE_ADDR_ADDR) (s.fld Fld.CAL_SAVE_LEN_LEN)] } ∧
          s.regsBut t [Reg.CAL_SAVE_CTRL])) ∧
    (∀ (a n k : Nat) (d : Directory) (p : Partition), s.flashOps = [.save a n] → s.boot.dir = some d → p = d.calrec →
      k = (if s.fld Fld.CAL_STATUS_REC_COPY = 1 then 1 else 0) → ∀ b, b = s.storeBytes a n →
      s.fld Fld.CAL_STATUS_REC_COPY ≠ 0 → ∀ e, e = sealCopy b ((s.copySeq p (s.fld Fld.CAL_STATUS_REC_COPY - 1) + 1) % 2 ^ 32) →
      (0 < n ∧ 0 < p.half ∧ s.storeRange a n = true ∧ s.ecc = [] ∧ copyPasses e p.half = true ∧
      fieldAt e 16 8 = s.serial ∧ n ≤ p.half ∧ fieldAt e 12 4 ≤ n ∧ s.lopState 6 ≠ lopQueued ∧ s.raiseRoom 1) →
      ∃ t, exec (.calSaveEnd .done) s = .next t ∧ t.flashBytes (p.offset + k * p.half) n = e ∧
        (∀ x < p.half, n ≤ x → SMap.get 0xFF#8 t.flash (p.offset + k * p.half + x) = 0xFF#8) ∧
        (∀ x, x < p.offset + k * p.half ∨ p.offset + k * p.half + p.half ≤ x → SMap.get 0xFF#8 t.flash x = SMap.get 0xFF#8 s.flash x) ∧
        t.fld Fld.CAL_SAVE_STATUS_ERR = 0 ∧ t.on Fld.CAL_SAVE_CTRL_GO = false ∧ t.fld Fld.CAL_STATUS_REC_COPY = k + 1 ∧
        t.on Fld.CAL_STATUS_REC_LOADED = true ∧ t.raise = s.raise ++ [s.occurrence 0xC6 (256 * k)] ∧
        t = { s with regs := t.regs, flash := t.flash, raise := t.raise, flashOps := [] } ∧
        s.regsBut t [Reg.CAL_SAVE_CTRL, Reg.CAL_SAVE_STATUS, Reg.CAL_STATUS])

/-- On a core that is ready, each control, branch, loop and repeat instruction has the effect of R384 on the core and its
cycle count and changes nothing else: HALT stops it in HALTED, WAIT waits until a source pends, BSET and BCLR change SR
by their mask, a branch whose condition holds goes to its target, CALL pushes PC, RET and RTI pop, LOOP opens a level
or skips, RPT repeats or skips. TRAP, an ILLEGAL word, a fetch beyond program memory, a full or empty stack, a fifth
LOOP and a transfer at a body's end trap with their cause. Passing on, looping and repeating follow R375 to R377. Part
of R363, R376, R377, R379, R380, R382, R383 and R384. (spec/14_dsp_cluster.md) -/
def Obligations.ProcessorControlFlow : Prop :=
  ∀ (k : Fin 13) (n : Nat) (w : Word) (s : State), ∀ c, c = k.val → s.coreReady c w →
    ∀ x, x = { s.core c with srMoved := false } → ∀ op, op = decodeCore (isDean c) w →
    ((op = some .nop → ∃ t, exec (.nop k n .clean) s = .next t ∧ s.coreRuns t c n (x.advance c w) []) ∧
     (op = some .debug → ∃ t, exec (.debug k n .clean) s = .next t ∧ s.coreRuns t c n (x.advance c w) []) ∧
     (op = some .halt → x.rpt = none →
      ∃ t, exec (.halt k n .clean) s = .next t ∧ t.coreState c = coreHalted ∧ s.coreRuns t c n (x.advance c w) [Reg.CORE_STATUS c]) ∧
     (op = some .wait →
      ∃ t, exec (.wait k n .clean) s = .next t ∧ t.coreState c = (if s.coreAwake c then coreRun else coreWait) ∧
        s.coreRuns t c n (x.advance c w) [Reg.CORE_STATUS c]) ∧
     (op = some .isync → x.loops = [] →
      ∃ t, exec (.isync k n .clean) s = .next t ∧ s.coreRuns t c n ({ x with queue := [] }.advance c w) []) ∧
     (∀ m, op = some (.bset m) →
      ∃ t, exec (.bset k n .clean) s = .next t ∧ s.coreRuns t c n ({ x with sr := x.sr ||| m % 2 ^ 14 }.advance c w) []) ∧
     (∀ m, op = some (.bclr m) →
      ∃ t, exec (.bclr k n .clean) s = .next t ∧ s.coreRuns t c n ({ x with sr := x.sr - (x.sr &&& m % 2 ^ 14) }.advance c w) [])) ∧
    (x.atBodyEnd = false →
      (∀ d a, op = some (.bra d a) → ∃ t, exec (.bra k n .clean) s = .next t ∧
        s.coreRuns t c n (if x.holds d then x.jumps c w a else x.advance c w) []) ∧
      (∀ d a, op = some (.braAn d a) → ∃ t, exec (.braAn k n .clean) s = .next t ∧
        s.coreRuns t c n (if x.holds d then x.jumps c w (x.r (0x20 + a)) else x.advance c w) []) ∧
      (∀ d a, op = some (.call d a) →
        (x.holds d = false → ∃ t, exec (.call k n .clean) s = .next t ∧ s.coreRuns t c n (x.advance c w) []) ∧
        (x.holds d = true → x.stack.length < stackSize c → ∃ t, exec (.call k n .clean) s = .next t ∧
          s.coreRuns t c n ({ x with stack := (x.pc + 1, none) :: x.stack }.jumps c w a) [])) ∧
      (∀ d, op = some (.ret d) →
        (x.holds d = false → ∃ t, exec (.ret k n .clean) s = .next t ∧ s.coreRuns t c n (x.advance c w) []) ∧
        (∀ a r st, x.holds d = true → x.stack = (a, r) :: st → ∃ t, exec (.ret k n .clean) s = .next t ∧
          s.coreRuns t c n ({ x with stack := st }.jumps c w a) []) ∧
        (x.holds d = true → x.stack = [] → x.flag srTl = false → s.raiseRoom 1 → ∃ t, exec (.ret k n .clean) s = .next t ∧
          s.coreTraps t c n trapStack 0 (s.occurrence 0xD4 (c + 256 * trapStack + 65536 * (x.pc % 65536))) [])) ∧
      (∀ d, op = some (.rti d) →
        (x.holds d = false → ∃ t, exec (.rti k n .clean) s = .next t ∧ s.coreRuns t c n (x.advance c w) []) ∧
        (∀ a r st, x.holds d = true → x.stack = (a, some r) :: st → ∃ t, exec (.rti k n .clean) s = .next t ∧
          s.coreRuns t c n ({ x with stack := st, sr := r }.jumps c w a) [])) ∧
      (∀ m l, op = some (.loopImm m l) →
        (m = 0 → ∃ t, exec (.loopImm k n .clean) s = .next t ∧ s.coreRuns t c n (((x.record w).recordSkipped (x.pc + 1 + l)).pass c (x.pc + 1 + l)) []) ∧
        (m ≠ 0 → x.loops.length < 4 → ∃ t, exec (.loopImm k n .clean) s = .next t ∧
          s.coreRuns t c n ({ x with loops := ⟨x.pc + 1, x.pc + 1 + l, m, x.stack.length, [], false⟩ :: x.loops }.advance c w) []) ∧
        (m ≠ 0 → x.loops.length = 4 → x.stack.length < stackSize c → x.flag srTl = false → s.raiseRoom 1 →
          ∃ t, exec (.loopImm k n .clean) s = .next t ∧
            s.coreTraps t c n trapLoop 0 (s.occurrence 0xD4 (c + 256 * trapLoop + 65536 * (x.pc % 65536))) [])) ∧
      (∀ r l, op = some (.loopReg r l) → ∀ v, v = x.readReg r →
        (v.2 % 65536 = 0 → ∃ t, exec (.loopReg k n .clean) s = .next t ∧
          s.coreRuns t c n (((v.1.record w).recordSkipped (x.pc + 1 + l)).pass c (x.pc + 1 + l)) []) ∧
        (v.2 % 65536 ≠ 0 → x.loops.length < 4 → ∃ t, exec (.loopReg k n .clean) s = .next t ∧
          s.coreRuns t c n ({ v.1 with
            loops := ⟨x.pc + 1, x.pc + 1 + l, v.2 % 65536, x.stack.length, [], false⟩ :: x.loops }.advance c w) [])) ∧
      (∀ m, op = some (.rptImm m) → x.rpt = none → ∃ t, exec (.rptImm k n .clean) s = .next t ∧
        s.coreRuns t c n (if m = 0 then ((x.record w).recordSkipped (x.pc + 1)).pass c (x.pc + 1)
          else { (x.record w).pass c x.pc with rpt := some (m, none) }) []) ∧
      (∀ r, op = some (.rptReg r) → ∀ v, v = x.readReg r → x.rpt = none → ∃ t, exec (.rptReg k n .clean) s = .next t ∧
        s.coreRuns t c n (if v.2 % 65536 = 0 then ((v.1.record w).recordSkipped (x.pc + 1)).pass c (x.pc + 1)
          else { (v.1.record w).pass c x.pc with rpt := some (v.2 % 65536, none) }) [])) ∧
    (x.flag srTl = false → x.stack.length < stackSize c → s.raiseRoom 1 →
      (∀ m, op = some (.trap m) → ∃ t, exec (.trapSw k n .clean) s = .next t ∧
        s.coreTraps t c n trapSoftware (m % 256) (s.occurrence 0xD4 (c + 256 * trapSoftware + 65536 * (x.pc % 65536))) []) ∧
      (op = none → ∀ i : Instr, i = .nop k n .clean ∨ i = .mac k n .clean ∨ i = .systemLoad k n .clean →
        ∃ t, exec i s = .next t ∧
          s.coreTraps t c n trapIllegal 0 (s.occurrence 0xD4 (c + 256 * trapIllegal + 65536 * (x.pc % 65536))) []) ∧
      (∀ d a, op = some (.bra d a) → x.atBodyEnd = true → ∃ t, exec (.bra k n .clean) s = .next t ∧
        s.coreTraps t c n trapLoop 0 (s.occurrence 0xD4 (c + 256 * trapLoop + 65536 * (x.pc % 65536))) [])) ∧
    (x.rpt = none →
      (∀ q, q = x.queue.drop 1 → x.loops = [] →
        x.advance c w = { x with pc := x.pc + 1, queue := q ++
          (((List.range (3 - q.length)).map (x.pc + 1 + q.length + ·)).filter (· < progWords c)).map x.progWord }) ∧
      (∀ f fs, x.loops = f :: fs → f.depth = x.stack.length → f.last = x.pc →
        (1 < f.count → (x.advance c w).pc = f.first ∧ ((x.advance c w).loops.map (·.count)) = (f.count - 1) :: fs.map (·.count)) ∧
        (f.count ≤ 1 → fs = [] → (x.advance c w).pc = x.pc + 1 ∧ (x.advance c w).loops = []))) ∧
    (∀ m, x.rpt.map (·.1) = some m → 1 < m → x.advance c w = { x with rpt := some (m - 1, some w) })

/-- On a core that is ready, each ALU instruction leaves in ACCD the result that R385 gives it, modulo 2^56 or clamped with
SAT 1 (R370), with V, Z and N from it and the carry of ADD and ADDR; CMP changes flags alone, ASL wraps whatever SAT
is, AND, OR and XOR act on H. The carry of the others, and NEG and ABS of the least value with SAT 0, are left open
(log entry 43). ADDA, SUBA and ADDI step An in its buffer of Mn words. MOVI and MOVE write the register named. Nothing
else changes but the core going on. Part of R368 to R370, R373, R384 and R385. (spec/14_dsp_cluster.md) -/
def Obligations.ProcessorArithmeticAndMoves : Prop :=
  ∀ (k : Fin 13) (n : Nat) (w : Word) (s : State), ∀ c, c = k.val → s.coreReady c w →
    ∀ x, x = { s.core c with srMoved := false } → ∀ op, op = decodeCore (isDean c) w →
    (∀ d r h, ∀ a, a = x.accVal d → ∀ v, v = x.accVal r → ∀ p, p = x.readReg h →
      ∀ hd, hd = x.accCode d / 2 ^ 24 % 2 ^ 24 → ∀ hr, hr = x.accCode r / 2 ^ 24 % 2 ^ 24 →
      (∀ e : Instr × Nat × Int × CoreState, e ∈ [
        (.clr k n .clean, 0x00, 0, x), (.mova k n .clean, 0x01, v, x), (.addAcc k n .clean, 0x02, a + v, x),
        (.subAcc k n .clean, 0x03, a - v, x), (.negAcc k n .clean, 0x04, -v, x), (.absAcc k n .clean, 0x05, v.natAbs, x),
        (.rnd k n .clean, 0x07, roundHalfEven a 24 * 2 ^ 24, x),
        (.sata k n .clean, 0x08, max (-2 ^ 47) (min (2 ^ 47 - 1) a),
          x.setFlag srCl (x.flag srCl || decide (a < -2 ^ 47 ∨ 2 ^ 47 ≤ a))),
        (.asr k n .clean, 0x0A, v / 2 ^ h, x), (.addr k n .clean, 0x0B, a + sext 24 p.2 * 2 ^ 24, p.1),
        (.subr k n .clean, 0x0C, a - sext 24 p.2 * 2 ^ 24, p.1),
        (.andAcc k n .clean, 0x0D, sext 56 (patch (x.accCode d) 24 24 (hd &&& hr)), x),
        (.orAcc k n .clean, 0x0E, sext 56 (patch (x.accCode d) 24 24 (hd ||| hr)), x),
        (.xorAcc k n .clean, 0x0F, sext 56 (patch (x.accCode d) 24 24 (hd ^^^ hr)), x),
        (.norm k n .clean, 0x10, signBits v * 2 ^ 24, x)] →
        op = some (.alu e.2.1 d r h) → (e.2.1 = 0x04 ∨ e.2.1 = 0x05 → v ≠ -2 ^ 55 ∨ x.flag srSat = true) →
        ∃ t, exec e.1 s = .next t ∧ ∃ b : Bool, (s.coreRuns t c n ((e.2.2.2.takes d e.2.2.1 b).advance c w) [] ∧
          (e.2.1 = 0x02 → b = decide (2 ^ 56 ≤ toCode 56 a + toCode 56 v)))) ∧
      (op = some (.alu 0x04 d r h) → v = -2 ^ 55 → x.flag srSat = false → ∃ t, exec (.negAcc k n .clean) s = .next t ∧ ∃ (b : Bool) (z : Int),
        s.coreRuns t c n ((x.takes d z b).advance c w) []) ∧
      (op = some (.alu 0x05 d r h) → v = -2 ^ 55 → x.flag srSat = false → ∃ t, exec (.absAcc k n .clean) s = .next t ∧ ∃ (b : Bool) (z : Int),
        s.coreRuns t c n ((x.takes d z b).advance c w) []) ∧
      (op = some (.alu 0x06 d r h) → ∃ t, exec (.cmpAcc k n .clean) s = .next t ∧ ∃ b : Bool,
        s.coreRuns t c n ((x.setFlags (toCode 56 (a - v)) b).advance c w) []) ∧
      (op = some (.alu 0x09 d r h) → ∃ t, exec (.asl k n .clean) s = .next t ∧ ∃ b : Bool,
        s.coreRuns t c n (((x.setAcc d (toCode 56 (v * 2 ^ h))).setFlags (toCode 56 (v * 2 ^ h)) b).advance c w) [])) ∧
    (∀ an o : Nat, ∀ e : Instr × CoreOp × Int, e ∈ [(.adda k n .clean, .adda an o, sext 24 (x.r (0x30 + o))),
        (.suba k n .clean, .suba an o, -sext 24 (x.r (0x30 + o))), (.addi k n .clean, .addi an o, sext 16 o)] →
      op = some e.2.1 → ∃ t, exec e.1 s = .next t ∧
        s.coreRuns t c n ((x.setR (0x20 + an) (modular (x.r (0x20 + an)) (x.r (0x40 + an)) e.2.2)).advance c w) []) ∧
    (∀ r p m, op = some (.movi r p m) → ∃ t, exec (.moveImmediate k n .clean) s = .next t ∧
      s.coreRuns t c n ((x.writeReg r (if p = 0 then toCode 24 (sext 16 m) else
        x.peek r % 2 ^ 16 + 2 ^ 16 * (m % 256))).advance c w) []) ∧
    (∀ d r, op = some (.move d r) → ∃ t, exec (.registerMove k n .clean) s = .next t ∧
      s.coreRuns t c n (((x.readReg r).1.writeReg d (x.readReg r).2).advance c w) []) ∧
    (∀ (a : Nat) (d : Int), modular a 0 d = ((a + d) % 2 ^ 24).toNat ∧
      (∀ b : Nat, modular (a - a % 2 ^ b) (2 ^ b) d = a - a % 2 ^ b + (d % 2 ^ b).toNat))

/-- On a core that is ready, MAC, MSU and MPY form the product of two K registers, doubled with IM 0, and add, subtract or
place it; with DUAL both units do, by PAIR, and the flags are then open (log entry 43). The complex forms do so on a
pair. The parallel loads then put their memory words into their K registers and step their An; the multiplies use the K
registers as they stood before. A single load writes the register named, a single store the data word named, and An
steps as the mode asks (R372, R373); a load into the An that its own mode updates leaves an open value there (log entry
44). Nothing else changes but the core going on. Part of R363, R370, R372, R373, R375 and R384. (spec/14_dsp_cluster.md) -/
def Obligations.ProcessorMultipliesAndMemory : Prop :=
  ∀ (k : Fin 13) (n : Nat) (w : Word) (s : State), ∀ c, c = k.val → s.coreReady c w →
    ∀ x, x = { s.core c with srMoved := false } → ∀ op, op = decodeCore (isDean c) w →
    ∀ g, g = (if x.flag srIm then (1 : Int) else 2) → ∀ kr, kr = (fun i => sext 24 (x.r i)) →
    (∀ e : Instr × MulOp, e ∈ [(.mac k n .clean, .mac), (.msu k n .clean, .msu), (.mpy k n .clean, .mpy)] →
      ∀ (dual : Bool) (a b p : Nat) (lx ly : ParLoad) (m : Nat), op = some (.mul e.2 dual a b p lx ly m) →
      ∀ p1, p1 = g * kr 0 * kr (if p = 1 then 3 else 2) →
      ∀ p2, p2 = g * kr (if p = 2 then 0 else 1) * kr (if p = 0 ∨ p = 2 then 3 else 2) →
      ∀ f, f = (fun (v q : Int) => match e.2 with | .mac => v + q | .msu => v - q | .mpy => q) →
      ∃ t, exec e.1 s = .next t ∧
        (dual = false → ∃ i : Bool, (s.coreRuns t c n ((((x.takes a (f (x.accVal a) p1) i).parLoad c lx 0).parLoad c ly m).advance c w) [] ∧
          (e.2 = .mac → i = decide (2 ^ 56 ≤ toCode 56 (x.accVal a) + toCode 56 p1)))) ∧
        (dual = true → ∃ i < 16, ∀ y, y = (x.takes a (f (x.accVal a) p1) true).takes b (f (x.accVal b) p2) true →
          s.coreRuns t c n ((({ y with sr := y.sr - y.sr % 16 + i }.parLoad c lx 0).parLoad c ly m).advance c w) [])) ∧
    (∀ e : Instr × MulOp, e ∈ [(.cmac k n .clean, .mac), (.cmsu k n .clean, .msu), (.cmpy k n .clean, .mpy)] →
      ∀ (p j : Bool) (lx ly lz : ParLoad), op = some (.cmul e.2 p j lx ly lz) →
      ∀ a, a = (if p then 2 else 0) → ∀ u, u = (if j then (-1 : Int) else 1) →
      ∀ f, f = (fun (v q : Int) => match e.2 with | .mac => v + q | .msu => v - q | .mpy => q) →
      ∀ y, y = (x.takes a (f (x.accVal a) (g * (kr 0 * kr 2 - u * (kr 1 * kr 3)))) true).takes (a + 1)
          (f (x.accVal (a + 1)) (g * (u * (kr 0 * kr 3) + kr 1 * kr 2))) true →
      ∃ t, exec e.1 s = .next t ∧ ∃ i < 16,
        s.coreRuns t c n (((({ y with sr := y.sr - y.sr % 16 + i }.parLoad c lx 0).parLoad c ly 1).parLoad c lz 2).advance c w) []) ∧
    (∀ (lx ly : ParLoad) (m : Nat), op = some (.loads lx ly m) → ∃ t, exec (.parallelLoads k n .clean) s = .next t ∧
      s.coreRuns t c n (((x.parLoad c lx 0).parLoad c ly m).advance c w) []) ∧
    (∀ (l : ParLoad) (m : Nat), ∀ a, a = x.address l.an l.mode 0 1 → l.an < 16 → l.dst < 4 →
      x.parLoad c l m = (if l.en then (x.setR l.dst (x.readData m (a.1 % dataWords c))).setR (0x20 + l.an) a.2 else x)) ∧
    (∀ m an mode r d, op = some (.load m an mode r d) → ∀ a, a = x.address an mode d 1 →
      (a.2 = x.r (0x20 + an) ∨ r ≠ 0x20 + an → ∃ t, exec (.singleMoveLoad k n .clean) s = .next t ∧
        s.coreRuns t c n (((x.setR (0x20 + an) a.2).writeReg r (x.readData m (a.1 % dataWords c))).advance c w) []) ∧
      (a.2 ≠ x.r (0x20 + an) → r = 0x20 + an → ∃ t, exec (.singleMoveLoad k n .clean) s = .next t ∧
        ∃ v : Nat, s.coreRuns t c n ((x.setR r (v % 2 ^ 24)).advance c w) [])) ∧
    (∀ m an mode r d, op = some (.store m an mode r d) → ∀ a, a = x.address an mode d 1 →
      ∃ t, exec (.singleMoveStore k n .clean) s = .next t ∧
        s.coreRuns t c n ((((x.readReg r).1.writeData m (a.1 % dataWords c) (x.peek r)).setR (0x20 + an) a.2).advance c w) []) ∧
    (∀ an d u : Nat, ∀ a, a = x.r (0x20 + an) → ∀ o, o = sext 24 (x.r (0x30 + an)) → ∀ l, l = x.r (0x40 + an) →
      x.address an 0 d u = (a, a) ∧ x.address an 1 d u = (a, modular a l u) ∧ x.address an 2 d u = (a, modular a l (-u)) ∧
      x.address an 3 d u = (a, modular a l o) ∧ x.address an 4 d u = (a, modular a l (-o)) ∧
      x.address an 5 d u = (((a + o) % 2 ^ 24).toNat, a) ∧ x.address an 6 d u = (a, bitRevStep a (x.r (0x30 + an))) ∧
      x.address an 7 d u = (((a + sext 11 d) % 2 ^ 24).toNat, a))

/-- A system load or store stalls the core with its access, or traps SYS_ERR where the address is not a multiple of 4. Its
end writes the accumulator of a load, sign-extended, and An; a status other than OK traps SYS_ERR, and 2,048 cycles
without response SYS_TIMEOUT, with the address recorded. MBXRD pops, MBXWR pushes, RING and a write add to the
doorbell, saturating at 255. Writes and reads of the mailboxes push and pop, and a push to a full one is dropped with
0xD5. An interrupt pushes PC and SR, sets ILVL and jumps to 0x000C + 4k. CORE_CTRL holds the core in RESET, releases it
at 0x0000, halts and resumes it. Part of R368, R374, R379, R380, R382, R386, R387 and R390. (spec/14_dsp_cluster.md) -/
def Obligations.ProcessorSystemSide : Prop :=
  ∀ (k : Fin 13) (n : Nat) (q : Requester) (w : Word) (s : State), ∀ c, c = k.val →
    ∀ x, x = { s.core c with srMoved := false } → ∀ op, op = decodeCore (isDean c) w →
    (∀ e : Instr × Bool, e ∈ [(.systemLoad k n .clean, false), (.systemStore k n .clean, true)] → s.coreReady c w → ∀ an mode g d,
      op = some (if e.2 then .sysStore an mode g d else .sysLoad an mode g d) →
      ∀ a, a = x.address an mode d 4 → ∀ m, m = x.r 0x17 * 2 ^ 24 + a.1 →
      (m % 4 = 0 → ∃ t, exec e.1 s = .next t ∧
        s.coreRuns t c n { x with sys := some ⟨e.2, m, BitVec.ofNat 32 (x.accCode g), g, an, a.2, w⟩ } []) ∧
      (m % 4 ≠ 0 → x.flag srTl = false → x.stack.length < stackSize c → s.raiseRoom 1 → ∃ t, exec e.1 s = .next t ∧
        s.coreTraps t c n trapSysErr 0 (s.occurrence 0xD4 (c + 256 * trapSysErr + 65536 * (x.pc % 65536))) [Reg.CORE_TRAP_ADDR c] ∧
        (t.rd (Reg.CORE_TRAP_ADDR c)).toNat = m % 2 ^ 32)) ∧
    (∀ (env : BusEnv) (a : SysAccess), (s.core c).sys = some a →
      (∀ r, r = (if a.write then ((s.addCycles c n).busWrite (coreRequester k) env false a.addr a.data).1
          else ((s.addCycles c n).busRead (coreRequester k) env a.addr).1) → (r.core c).sys = some a →
        ∀ st, st = (if a.write then ((s.addCycles c n).busWrite (coreRequester k) env false a.addr a.data).2
          else ((s.addCycles c n).busRead (coreRequester k) env a.addr).2.1) →
        ∀ y, y = { r.core c with sys := none, regs := SMap.set 0 (r.core c).regs (0x20 + a.an) (a.next % 2 ^ 24) } →
        (st = stOk → r.on (Fld.CORE_CTRL_HALT_REQ c) = false → ∃ t, exec (.systemAccessComplete k n env) s = .next t ∧
          t.core c = (if a.write then y else
            y.setAcc a.acc (toCode 56 (sext 32 ((s.addCycles c n).busRead (coreRequester k) env a.addr).2.2.toNat))).advance c a.instr ∧
          (∀ d, d ≠ c → t.core d = r.core d) ∧ t = { r with cores := t.cores }) ∧
        (st ≠ stOk → st < 256 → (r.core c).flag srTl = false → (r.core c).stack.length < stackSize c → r.raiseRoom 1 →
          r.on (Fld.CORE_CTRL_HALT_REQ c) = false → (r.core c).pc = x.pc →
          ∃ t, exec (.systemAccessComplete k n env) s = .next t ∧
            r.coreTraps t c 0 trapSysErr st (r.occurrence 0xD4 (c + 256 * trapSysErr + 65536 * (x.pc % 65536))) [Reg.CORE_TRAP_ADDR c] ∧
            (t.rd (Reg.CORE_TRAP_ADDR c)).toNat = a.addr % 2 ^ 32)) ∧
      (x.flag srTl = false → x.stack.length < stackSize c → s.raiseRoom 1 → s.on (Fld.CORE_CTRL_HALT_REQ c) = false →
        ∃ t, exec (.systemAccessTimeout k) s = .next t ∧
          s.coreTraps t c 2048 trapSysTimeout 0 (s.occurrence 0xD4 (c + 256 * trapSysTimeout + 65536 * (x.pc % 65536)))
            [Reg.CORE_TRAP_ADDR c] ∧ (t.rd (Reg.CORE_TRAP_ADDR c)).toNat = a.addr % 2 ^ 32)) ∧
    (s.coreReady c w →
      (∀ a, op = some (.mbxrd a) →
        (∀ v vs, x.mbxIn = v :: vs → ∃ t, exec (.mbxrd k n .clean) s = .next t ∧
          s.coreRuns t c n (({ x with mbxIn := vs }.setAcc a (toCode 56 (sext 32 v.toNat))).advance c w) []) ∧
        (x.mbxIn = [] → ∃ t, exec (.mbxrd k n .clean) s = .next t ∧ t.on (Fld.MBX_STATUS_IN_UNDER c) = true ∧
          s.coreRuns t c n ((x.setAcc a 0).advance c w) [Reg.MBX_STATUS c])) ∧
      (∀ a, op = some (.mbxwr a) →
        (x.mbxOut.length < (if c = 12 then 16 else 8) → ∃ t, exec (.mbxwr k n .clean) s = .next t ∧
          s.coreRuns t c n ({ x with mbxOut := x.mbxOut ++ [BitVec.ofNat 32 (x.accCode a)] }.advance c w) []) ∧
        (x.mbxOut.length = (if c = 12 then 16 else 8) → s.raiseRoom 1 → ∃ t, exec (.mbxwr k n .clean) s = .next t ∧
          t.core c = x.advance c w ∧ t.on (Fld.MBX_STATUS_OUT_OVF c) = true ∧ t.raise = s.raise ++ [s.occurrence 0xD5 (c + 16)])) ∧
      (∀ m, op = some (.ring m) → ∃ t, exec (.ring k n .clean) s = .next t ∧
        t.fld (Fld.CORE_DOORBELL_COUNT c) = min 255 (s.fld (Fld.CORE_DOORBELL_COUNT c) + m) ∧
        (255 < s.fld (Fld.CORE_DOORBELL_COUNT c) + m → t.on (Fld.CORE_DOORBELL_OVF c) = true) ∧
        s.coreRuns t c n (x.advance c w) [Reg.CORE_DOORBELL c])) ∧
    (∀ i, (i < 16 ∧ i < x.ilvl ∧ bitOf (s.corePending c &&& s.fld (Fld.CORE_IRQ_EN c)) i = true ∧
        (∀ j < 16, bitOf (s.corePending c &&& s.fld (Fld.CORE_IRQ_EN c)) j = true → i ≤ j)) →
      (x.flag srIe = true ∧ x.rpt = none ∧ (s.core c).srMoved = false ∧ x.sys = none ∧ s.domOn pdDsp = true ∧
        s.coreStopped c = false ∧ s.coreState c = coreRun ∧ s.on (Fld.CORE_CTRL_HALT_REQ c) = false) →
      x.stack.length < (if c = 12 then 32 else 16) →
      ∃ t, exec (.interruptTaken k) s = .next t ∧
        t.core c = ({ x with stack := (x.pc, some x.sr) :: x.stack }.setIlvl i).goTo c (0x000C + 4 * i) ∧
        (∀ d, d ≠ c → t.core d = s.core d) ∧ t = { s with regs := t.regs, cores := t.cores } ∧ s.regsBut t []) ∧
    (s.on (Fld.CORE_TIMER_PERIOD c) = true → s.domOn pdDsp = true →
      ∃ t, exec (.coreTimerExpiry k) s = .next t ∧ t.rd (Reg.CORE_IRQ c) = (s.rd (Reg.CORE_IRQ c) ||| 0x00800000#32) ∧
        s.onlyRegs t [Reg.CORE_IRQ c]) ∧
    (s.passes q (Reg.CORE_CTRL c) true →
      ((Fld.CORE_CTRL_RST c).of w = 1 → ∃ t, exec (.coreRstWrite k q w) s = .next t ∧ t.coreState c = coreReset ∧
        t.on (Fld.CORE_CTRL_RST c) = true ∧ t.rd (Reg.CORE_TRAP c) = 0 ∧
        t.core c = { CoreState.idle with prog := x.prog, x := x.x, y := x.y, z := x.z, mbxIn := x.mbxIn, mbxOut := x.mbxOut } ∧
        (∀ d, d ≠ c → t.core d = s.core d) ∧ t = { s with regs := t.regs, cores := t.cores } ∧
        s.regsBut t [Reg.CORE_CTRL c, Reg.CORE_STATUS c, Reg.CORE_TRAP c]) ∧
      ((Fld.CORE_CTRL_RST c).of w = 0 → s.on (Fld.CORE_CTRL_RST c) = true → ∃ t, exec (.coreRstWrite k q w) s = .next t ∧
        t.coreState c = coreRun ∧ t.on (Fld.CORE_CTRL_RST c) = false ∧ (t.core c).pc = 0 ∧ (t.core c).sr = 0x1000 ∧
        (t.core c).stack = [] ∧ (t.core c).loops = [] ∧ (t.core c).regs = [] ∧ (t.core c).acc = [] ∧ (t.core c).prog = x.prog ∧
        (t.core c).x = x.x ∧ (t.core c).y = x.y ∧ (∀ d, d ≠ c → t.core d = s.core d) ∧
        t = { s with regs := t.regs, cores := t.cores } ∧
        s.regsBut t [Reg.CORE_CTRL c, Reg.CORE_STATUS c, Reg.CORE_TRAP c, Reg.CORE_CYCLES_LO c, Reg.CORE_CYCLES_HI c]) ∧
      ((Fld.CORE_CTRL_RST c).of w = 0 → s.on (Fld.CORE_CTRL_RST c) = false →
        ((Fld.CORE_CTRL_RESUME c).of w = 0 → s.coreState c = coreRun → x.rpt = none → x.sys = none →
          ∃ t, exec (.coreHaltReq k q w) s = .next t ∧ t.coreState c = coreHalted ∧ t.on (Fld.CORE_CTRL_HALT_REQ c) = false ∧
            s.onlyRegs t [Reg.CORE_CTRL c, Reg.CORE_STATUS c]) ∧
        ((Fld.CORE_CTRL_HALT_REQ c).of w = 0 → s.on (Fld.CORE_CTRL_HALT_REQ c) = false → s.coreState c = coreHalted → x.loops = [] →
          ∃ t, exec (.coreResume k q w) s = .next t ∧ t.coreState c = coreRun ∧ t.core c = (s.core c).goTo c x.pc ∧
            (∀ d, d ≠ c → t.core d = s.core d) ∧ t = { s with regs := t.regs, cores := t.cores } ∧
            s.regsBut t [Reg.CORE_CTRL c, Reg.CORE_STATUS c]))) ∧
    (s.passes q (Reg.MBX_IN c) true → q = .mspi ∨ q = .mgq →
      ((s.core c).mbxIn.length < (if c = 12 then 16 else 8) → ∃ t, exec (.mbxInWrite k q w) s = .next t ∧
        t.core c = { s.core c with mbxIn := (s.core c).mbxIn ++ [w] } ∧ (∀ d, d ≠ c → t.core d = s.core d) ∧
        t = { s with cores := t.cores }) ∧
      ((s.core c).mbxIn.length = (if c = 12 then 16 else 8) → s.raiseRoom 1 → ∃ t, exec (.mbxInWrite k q w) s = .next t ∧
        t.on (Fld.MBX_STATUS_IN_OVF c) = true ∧ t.raise = s.raise ++ [s.occurrence 0xD5 c] ∧
        t = { s with regs := t.regs, raise := t.raise } ∧ s.regsBut t [Reg.MBX_STATUS c])) ∧
    (s.passes q (Reg.MBX_OUT c) false → q = .mspi ∨ q = .mgq →
      (∀ v vs, (s.core c).mbxOut = v :: vs → ∃ t, exec (.mbxOutRead k q) s = .next t ∧
        t.core c = { s.core c with mbxOut := vs } ∧ (∀ d, d ≠ c → t.core d = s.core d) ∧ t = { s with cores := t.cores }) ∧
      ((s.core c).mbxOut = [] → ∃ t, exec (.mbxOutRead k q) s = .next t ∧ t.on (Fld.MBX_STATUS_OUT_UNDER c) = true ∧
        s.onlyRegs t [Reg.MBX_STATUS c])) ∧
    (s.passes q (Reg.CORE_DOORBELL c) true → ∀ v, v = s.fld (Fld.CORE_DOORBELL_COUNT c) + (Fld.CORE_DOORBELL_ADD c).of w →
      ∃ t, exec (.doorbellAdd k q w) s = .next t ∧ t.fld (Fld.CORE_DOORBELL_COUNT c) = min 255 v ∧
        (255 < v → t.on (Fld.CORE_DOORBELL_OVF c) = true) ∧ s.onlyRegs t [Reg.CORE_DOORBELL c])

/-- A due triggered entry starts at once on an idle converter, aborts a continuous conversion, and waits for any other; an
urgent request is taken at once or dropped; a list write restarts the walk; a guard conversion waits its turn. A
conversion's end writes the raw and the scaled value with SEQ one on, feeds the port, and with nothing else to do
idles; a thermal channel at WARN sets its bit with 0xE0 and at +125 °C trips the device with 0xE3. LOP4 starts with its
accumulator, and the sixteenth zero conversion stores the mean. The unit records an enabled occurrence in STAT, count
and INFO, discards one whose EN is 0, and CNT_CLR clears the counts. Part of R393 to R406 and R447. (spec/15_housekeeping_events.md) -/
def Obligations.HousekeepingConvertsAndCalibrates : Prop :=
  ∀ (q : Requester) (w : Word) (s : State),
    (∀ (e : Fin 64) (d : Nat), SMap.find s.hk.armed e.val = some d → s.hk.due = [] → s.air ≤ d + 64 →
      ∀ h, h = { s.hk with armed := SMap.erase s.hk.armed e.val } →
      ∀ r : HkRun, r = ⟨1, s.fld (Fld.HK_LISTn_CH e.val), s.fld (Fld.HK_LISTn_WIN e.val), e.val, false⟩ →
      (s.hk.running = none → ∃ t, exec (.triggeredEntryDue e) s = .next t ∧ t.on Fld.HK_STATUS_BUSY = true ∧
        t.fld Fld.HK_STATUS_KIND = 1 ∧ t.fld Fld.HK_STATUS_CH = r.ch ∧
        t = { s with regs := t.regs, hk := { h with running := some r } } ∧ s.regsBut t [Reg.HK_STATUS]) ∧
      (∀ c : HkRun, s.hk.running = some c →
        (c.kind = 0 → ∃ t, exec (.triggeredEntryDue e) s = .next t ∧
          t.fld Fld.HK_ABORT_ABORTS = min (2 ^ Fld.HK_ABORT_ABORTS.width - 1) (s.fld Fld.HK_ABORT_ABORTS + 1) ∧
          t = { s with regs := t.regs, hk := { h with running := some r } } ∧ s.regsBut t [Reg.HK_STATUS, Reg.HK_ABORT]) ∧
        (c.kind ≠ 0 → ∃ t, exec (.triggeredEntryDue e) s = .next t ∧ t = { s with hk := { h with due := [(e.val, d)] } }))) ∧
    (∀ c : Fin 10, s.domOn pdCtl = true → s.hk.guards = [] →
      (s.hk.running = none → s.hk.due = [] → s.hk.lop4 = none → ∃ t, exec (.guardConversionDue c) s = .next t ∧
        t = { s with regs := t.regs, hk := { s.hk with running := some ⟨3, c.val, 5, 0, false⟩ } } ∧ s.regsBut t [Reg.HK_STATUS]) ∧
      (s.hk.running ≠ none → ∃ t, exec (.guardConversionDue c) s = .next t ∧ t = { s with hk := { s.hk with guards := [c.val] } })) ∧
    (s.passes q Reg.HK_URG true →
      (s.hk.running = none → ∃ t, exec (.hkUrgentRequest q w) s = .next t ∧ t.on Fld.HK_URG_GO = false ∧
        t = { s with regs := t.regs, hk := { s.hk with running := some ⟨2, t.fld Fld.HK_URG_CH, t.fld Fld.HK_URG_WIN, 0, false⟩ } } ∧
        s.regsBut t [Reg.HK_URG, Reg.HK_STATUS]) ∧
      (s.hk.running ≠ none → ∃ t, exec (.hkUrgentRequest q w) s = .next t ∧ t.on Fld.HK_URG_GO = false ∧
        t.fld Fld.HK_URG_DROP_COUNT = min (2 ^ Fld.HK_URG_DROP_COUNT.width - 1) (s.fld Fld.HK_URG_DROP_COUNT + 1) ∧
        s.onlyRegs t [Reg.HK_URG, Reg.HK_URG_DROP])) ∧
    (∀ (n : Option (Fin 64)) (a : Nat), a = (match n with | some e => Reg.HK_LISTn e.val | none => Reg.HK_CTRL) →
      s.passes q a true → s.hk.running ≠ none →
      ∃ t, exec (.hkListWrite n q w) s = .next t ∧ t.rd a = writeWord a w (s.rd a) ∧
        t = { s with regs := t.regs, hk := { s.hk with restart := true } } ∧ s.regsBut t [a]) ∧
    (s.passes q Reg.HK_PORT false →
      ∃ t, exec (.hkPortRead q) s = .next t ∧ t = { s with hk := { s.hk with fifo := s.hk.fifo.drop 1 } }) ∧
    (∀ (raw scaled : BitVec 24) (off : Bool) (r : HkRun), s.hk.running = some r →
      ∀ o, o = (if r.ch < 8 then !s.domOn (pdPg r.ch) else decide (r.ch < 20) && off) →
      ∀ v, v = (if o then 0x800000 else if 20 ≤ r.ch then toCode 24 (s.hkScale (r.ch - 20) raw.toNat) else scaled.toNat) →
      (r.lop4 = false ∧ r.ch < 32 ∧ s.hk.due = [] ∧ s.hk.lop4 = none ∧ s.hk.guards = [] ∧ s.fld Fld.HK_CTRL_LEN = 0 ∧
        (∀ g < 8, s.fld (Fld.LIN_PGg_COMP_SRC_TSRC g) ≠ r.ch ∧ s.fld (Fld.LIN_PGg_COMP_SRC_VSRC g) ≠ r.ch) ∧
        (s.on Fld.HK_CTRL_PORT_EN = false ∨ s.hk.fifo.length < 32)) →
      (10 ≤ r.ch ∨ o = true →
        ∃ t, exec (.hkConversionEnd raw scaled off) s = .next t ∧ t.on Fld.HK_STATUS_BUSY = false ∧
          t.fld (Fld.HK_RAWc_VALUE r.ch) = raw.toNat ∧ t.fld (Fld.HK_RESc_VALUE r.ch) = v ∧ t.on (Fld.HK_RESc_FLAG_OFF r.ch) = o ∧
          t.fld (Fld.HK_RESc_SEQ r.ch) = (s.fld (Fld.HK_RESc_SEQ r.ch) + 1) % 16 ∧ t.fld (Fld.HK_RAWc_SEQ r.ch) = t.fld (Fld.HK_RESc_SEQ r.ch) ∧
          t.hk.fifo = s.hk.fifo ++ (if s.on Fld.HK_CTRL_PORT_EN then [BitVec.ofNat 32 (2 ^ 24 * r.ch + v)] else []) ∧
          t = { s with regs := t.regs, hk := { s.hk with running := none, restart := false, fifo := t.hk.fifo } } ∧
          s.regsBut t [Reg.HK_STATUS, Reg.HK_RAWc r.ch, Reg.HK_RESc r.ch]) ∧
      (r.ch < 10 → o = false → ∀ z, z = sext 24 scaled.toNat → s.raiseRoom 1 →
        (16 * sext 8 (s.fld Fld.HK_THERM_CFG_WARN) ≤ z → z < 16 * sext 8 (s.fld Fld.HK_THERM_CFG_HOT) → z < 2000 →
          bitOf (s.fld Fld.HK_THERM_STATUS_WARN) r.ch = false → bitOf (s.fld Fld.HK_THERM_STATUS_HOT) r.ch = false →
          ∃ t, exec (.hkConversionEnd raw scaled off) s = .next t ∧ bitOf (t.fld Fld.HK_THERM_STATUS_WARN) r.ch = true ∧
            t.fld (Fld.HK_RESc_VALUE r.ch) = scaled.toNat ∧ t.raise = s.raise ++ [s.occurrence 0xE0 (r.ch + 256 * scaled.toNat)] ∧
            t = { s with regs := t.regs, raise := t.raise, hk := { s.hk with running := none, restart := false, fifo := t.hk.fifo } } ∧
            s.regsBut t [Reg.HK_STATUS, Reg.HK_RAWc r.ch, Reg.HK_RESc r.ch, Reg.HK_THERM_STATUS]) ∧
        (2000 ≤ z → s.pwr.tripped = false → ∃ t, exec (.hkConversionEnd raw scaled off) s = .next t ∧
          t.on Fld.HK_THERM_STATUS_TRIP = true ∧ t.domains = [pdAon, pdCtl, pdSyn] ∧ t.rf.fec = [] ∧ t.pwr.tripped = true ∧
          (∃ e ∈ t.raise, e.code = 0xE3 ∧ e.info = BitVec.ofNat 32 (r.ch + 256 * scaled.toNat))))) ∧
    (s.rd (Reg.HK_SCALEi 3) = 0x14140A3D#32 → s.fld (Fld.HK_CALi_W0_OFFSET 3) = 0 → s.fld (Fld.HK_CALi_W1_GAIN 3) = 2 ^ 22 →
      s.hkScale 3 0xC00000 = 2000) ∧
    (s.passes q Reg.HK_SYSCAL_CTRL true →
      (s.lopBusy 4 = true → ∃ t, exec (.lop4Syscal q w) s = .next t ∧ t.on Fld.HK_SYSCAL_CTRL_OVERRUN = true ∧
        s.onlyRegs t [Reg.HK_SYSCAL_CTRL]) ∧
      (∀ i v, i = Fld.HK_SYSCAL_CTRL_IDX.of w → v = Fld.HK_SYSCAL_CTRL_WIN.of w → s.lopBusy 4 = false → i ≤ 11 → v < 6 →
        Fld.HK_SYSCAL_CTRL_STEP.of w = 0 → s.hk.running = none → s.hk.due = [] →
        ∃ t, exec (.lop4Syscal q w) s = .next t ∧ t.lopState 4 = lopRunning ∧ t.fld (Fld.LOP_STATn_UNITS_TOTAL 4) = 16 ∧
          t.rd (Reg.LOP_RESn 4) = 0x6003C#32 ∧ t.on Fld.HK_SYSCAL_CTRL_GO = true ∧
          t = { s with regs := t.regs, hk := { s.hk with running := some ⟨3, 20 + i, v, 0, true⟩, lop4 := some ⟨i, false, v, []⟩ } } ∧
          s.regsBut t [Reg.HK_SYSCAL_CTRL, Reg.HK_SYSCAL_ACC, Reg.HK_STATUS, Reg.LOP_STATn 4, Reg.LOP_RESn 4])) ∧
    (∀ (raw scaled : BitVec 24) (r : HkRun) (c : SysCal), s.hk.running = some r → r.lop4 = true → 20 ≤ r.ch → s.hk.lop4 = some c →
      c.full = false → c.codes.length = 15 → (∀ x ∈ c.codes, x < 2 ^ 24) → s.raiseRoom 1 →
      s.on Fld.HK_CTRL_PORT_EN = false ∨ s.hk.fifo.length < 32 → c.idx < 12 →
      ∃ t, exec (.hkConversionEnd raw scaled false) s = .next t ∧ t.lopState 4 = lopDone ∧ t.on Fld.HK_SYSCAL_ZERO_VALID = true ∧
        t.fld Fld.HK_SYSCAL_ZERO_IDX = c.idx ∧ t.hk.lop4 = none ∧ t.fld (Fld.LOP_STATn_UNITS_DONE 4) = 16 ∧
        (c.codes.sum + raw.toNat) / 16 ≤ t.fld Fld.HK_SYSCAL_ZERO_CODE ∧
        t.fld Fld.HK_SYSCAL_ZERO_CODE * 16 < c.codes.sum + raw.toNat + 16 ∧
        t.raise = s.raise ++ [s.occurrence 0x06 (4 + 16 * lopDone)] ∧
        t = { s with regs := t.regs, hk := t.hk, lin := t.lin, raise := t.raise, fresh := t.fresh }) ∧
    (∀ (e : EventRec) (es : List EventRec), s.raise = e :: es → e.code < 256 →
      (s.codeBit Reg.EVT_ENk e.code = false → ∃ t, exec .eventRecord s = .next t ∧ t = { s with raise := es }) ∧
      (s.codeBit Reg.EVT_ENk e.code = true → s.codeBit Reg.EVT_RT_PKTk e.code = false ∨ s.linkIs lnkActive = false →
        ∃ t, exec .eventRecord s = .next t ∧ t.codeBit Reg.EVT_STATk e.code = true ∧ t.rd (Reg.EVT_INFOc e.code) = e.info ∧
          t.fld (Fld.EVT_CNTc_COUNT e.code) = min 65535 (s.fld (Fld.EVT_CNTc_COUNT e.code) + 1) ∧
          (s.codeBit Reg.EVT_RT_PKTk e.code = true →
            t.fld Fld.EVT_DROP_NOLINK = min (2 ^ Fld.EVT_DROP_NOLINK.width - 1) (s.fld Fld.EVT_DROP_NOLINK + 1)) ∧
          t.pins.irqN = !(s.pwr.ping || (s.domOn pdCtl && s.on Fld.EVT_CTRL_IRQ_EN && t.statRouted Reg.EVT_RT_IRQk)) ∧
          t = { s with regs := t.regs, raise := es, pins := { s.pins with irqN := t.pins.irqN } } ∧
          s.regsBut t [Reg.EVT_STATk (e.code / 32), Reg.EVT_CNTc e.code, Reg.EVT_INFOc e.code, Reg.EVT_DROP])) ∧
    (s.passes q Reg.EVT_CTRL true →
      ∃ t, exec (.evtCntClr q w) s = .next t ∧ (∀ c < 256, t.fld (Fld.EVT_CNTc_COUNT c) = 0) ∧ t.rd Reg.EVT_DROP = 0 ∧
        t = { s with regs := t.regs, pins := { s.pins with irqN := t.pins.irqN } } ∧
        s.regsBut t ([Reg.EVT_CTRL, Reg.EVT_DROP] ++ (List.range 256).map Reg.EVT_CNTc)) ∧
    (∃ t, exec .pingIrqPulseEnd s = .next t ∧ t.pwr.ping = false ∧
      t.pins.irqN = !(s.domOn pdCtl && s.on Fld.EVT_CTRL_IRQ_EN && s.statRouted Reg.EVT_RT_IRQk) ∧
      t = { s with pins := { s.pins with irqN := t.pins.irqN }, pwr := { s.pwr with ping := false } })

/-- A request for the state in force completes at once. Another one that passes the checks starts its transition: a sleep
or a switch-off waits for the entry instant, DEEP SLEEP and BELL WATCH raise 0xF0, and groups to power begin to wake.
One that a check refuses is counted, recorded and raises 0xF1. One that meets a transition takes the single slot, and
the one it replaces is refused 0x0B. At the entry instant groups go off, LIGHT SLEEP begins, or a deep sleep leaves
PD_AON, PD_CTL and PD_SYN. A transition's end shows the new state with 0xF0 where it changed, or leaves PD_AON alone.
Marked rows request LIGHT SLEEP and ACTIVE. Only Dean writes PWR_VETO. Part of R409 to R412, R417 to R422, R425, R430,
R431, R435 and R436. (spec/16_power_states.md, spec/15_housekeeping_events.md) -/
def Obligations.PowerRequestsAndEntries : Prop :=
  ∀ (q : Requester) (w : Word) (so : Fin 8) (s : State), ∀ u, u = s.setSources so.val →
    (∀ e : Instr × Nat, e ∈ [(.requestActive q w so, 0), (.requestNap q w so, 1), (.requestLightSleep q w so, 2),
        (.requestDeepSleep q w so, 3), (.requestBellWatch q w so, 4)] →
      ∀ off, off = (if e.2 = 1 then Fld.PWR_REQ_PG_OFF.of w &&& s.fitted else 0) →
      ∀ tg, tg = (if e.2 = 1 ∧ off = 0 then 0 else e.2) → ∀ rc, rc = (requesterPower q).getD 15 →
      ∀ r : PwrRequest, r = ⟨tg, rc, off⟩ →
      (s.passes q Reg.PWR_REQ true ∧ rc ≠ 15 ∧ s.detained = false ∧ s.pwr.tripped = false) →
      (s.pwr.trans = none → (s.pwr.base = some 0 ∧ tg ≤ 1 ∧ off = without s.fitted s.groupsOn) ∨ (s.pwr.base = some tg ∧ 2 ≤ tg) →
        ∃ t, exec e.1 s = .next t ∧ t.on Fld.PWR_REQ_GO = false ∧ t = { u with regs := t.regs } ∧ s.regsBut t [Reg.PWR_REQ]) ∧
      (s.pwr.trans = none → s.pwr.base = some 0 → ¬(tg ≤ 1 ∧ off = without s.fitted s.groupsOn) →
        (u.powerCheck r = none →
          (2 ≤ tg ∨ (off &&& s.groupsOn) ≠ 0 → s.raiseRoom 1 →
            ∃ t, exec e.1 s = .next t ∧ t.on Fld.PWR_REQ_GO = false ∧ t.fld Fld.PWR_STATUS_STATE = 7 ∧ t.fld Fld.PWR_STATUS_TARGET = tg ∧
              t.fld Fld.PWR_STATUS_STAGE = 6 ∧
              t.raise = s.raise ++ (if 3 ≤ tg then [s.occurrence 0xF0 (tg + 16 * s.powerCode + 128 + 256 * rc)] else []) ∧
              t = { u with regs := t.regs, raise := t.raise, pwr := { u.pwr with
                trans := some ⟨r, s.powerCode, 6, true, none, false, s.fld Fld.PWR_PG_STATUS_REQ_OFF, 0, s.aonTicks⟩ } } ∧
              s.regsBut t [Reg.PWR_REQ, Reg.PWR_STATUS, Reg.PWR_PG_STATUS]) ∧
          (∀ up, up = without (without s.fitted off) s.groupsOn → tg ≤ 1 → (off &&& s.groupsOn) = 0 → up ≠ 0 →
            ∃ t, exec e.1 s = .next t ∧ t.on Fld.PWR_REQ_GO = false ∧ t.fld Fld.PWR_STATUS_STATE = 7 ∧
              t.fld Fld.PWR_PG_STATUS_REQ_OFF = off ∧ (∀ g < 8, bitOf up g = true → SMap.get 0 t.pwr.wakes g = 1) ∧
              (∀ k < 4, bitOf s.pwr.dies k = false → (up &&& dieGroups k) ≠ 0 → s.pwr.ops = [] → RegOp.dieOn k false ∈ t.pwr.ops) ∧
              t = { u with regs := t.regs, pwr := { u.pwr with trans := t.pwr.trans, ops := t.pwr.ops, wakes := t.pwr.wakes, failed := t.pwr.failed } } ∧
              s.regsBut t [Reg.PWR_REQ, Reg.PWR_STATUS, Reg.PWR_PG_STATUS])) ∧
        (∀ c, u.powerCheck r = some c → s.raiseRoom 1 →
          ∃ t, exec e.1 s = .next t ∧ t.on Fld.PWR_REQ_GO = false ∧ t.fld Fld.PWR_REFUSE_LAST_REFUSER = c ∧
            t.fld Fld.PWR_REFUSE_LAST_STATE = tg ∧ t.fld Fld.PWR_REFUSE_LAST_REQUESTER = rc ∧ t.fld Fld.PWR_REFUSE_LAST_PG_OFF = off ∧
            t.raise = s.raise ++ [s.occurrence 0xF1 (c + 256 * tg + 4096 * rc + 65536 * off)] ∧
            t = { u with regs := t.regs, raise := t.raise } ∧
            s.regsBut t [Reg.PWR_REQ, Reg.PWR_REFUSE_LAST, Reg.PWR_REFUSE_CNTk ((c - 1) / 2)])) ∧
      (∀ x, s.pwr.trans = some x → x.req.target ≠ tg ∨ x.req.off ≠ off → s.raiseRoom 1 →
        ∃ t, exec e.1 s = .next t ∧ t.on Fld.PWR_REQ_GO = false ∧ t.pwr.slot = some r ∧ t.on Fld.PWR_STATUS_PEND_VALID = true ∧
          t.fld Fld.PWR_STATUS_PEND_STATE = tg ∧ t.fld Fld.PWR_STATUS_PEND_REQ = rc ∧
          (∀ o, s.pwr.slot = some o → t.fld Fld.PWR_REFUSE_LAST_REFUSER = 0x0B ∧
            t.raise = s.raise ++ [s.occurrence 0xF1 (0x0B + 256 * o.target + 4096 * o.requester + 65536 * o.off)]) ∧
          (s.pwr.slot = none → t.raise = s.raise) ∧
          t = { u with regs := t.regs, raise := t.raise, pwr := { u.pwr with slot := some r } } ∧
          s.regsBut t [Reg.PWR_REQ, Reg.PWR_STATUS, Reg.PWR_PG_STATUS, Reg.PWR_REFUSE_LAST, Reg.PWR_REFUSE_CNTk 5]) ∧
      (tg ≠ 0 → rc ≠ 2 → s.on Fld.PWR_VETO_HOLD = true → u.powerCheck r ≠ none) ∧
      (3 ≤ tg → s.rd Reg.DMA_ACTIVE ≠ 0 ∨ s.lopBusy 0 = true ∨ s.lopBusy 1 = true ∨ s.lopBusy 5 = true ∨ s.lopBusy 6 = true →
        u.powerCheck r ≠ none) ∧
      (2 ≤ tg → bitOf so.val 0 = true → s.on Fld.PWR_WAKE_CFG_WAKEN_EN = true → u.powerCheck r ≠ none)) ∧
    (∀ x, s.pwr.trans = some x → x.waits = true →
      (x.req.target = 2 → ∃ t, exec (.entryInstant false) s = .next t ∧
        t = { s with regs := t.regs, pwr := { s.pwr with base := some 2, trans := some { x with waits := false, stage := 0 } } } ∧
        s.regsBut t [Reg.PWR_STATUS, Reg.PWR_PG_STATUS]) ∧
      (3 ≤ x.req.target → ∃ t, exec (.entryInstant false) s = .next t ∧ t.pwr.base = some x.req.target ∧ t.groupsOn = 0 ∧
        t.domains = [pdAon, pdCtl, pdSyn] ∧ t.rf = RfState.idle ∧ t.linkIs lnkDown = true ∧ t.queues = [] ∧ t.dma = [] ∧
        t.pwr.was = s.groupsOn &&& s.fitted ∧ (x.req.target = 4 → t.store = [] ∧ t.cores = []) ∧ t.fuses = s.fuses ∧
        t.flash = s.flash ∧ t.air = s.air ∧ t.pending = s.pending) ∧
      (x.req.target ≤ 1 → (x.req.off &&& s.groupsOn) ≠ 0 → without (without s.fitted x.req.off) s.groupsOn = 0 →
        ∃ t, exec (.entryInstant false) s = .next t ∧ t.groupsOn = without s.groupsOn x.req.off ∧
          (∀ d, d < 9 → t.domOn d = s.domOn d) ∧ t.fld Fld.PWR_PG_STATUS_REQ_OFF = x.req.off ∧
          (∀ p < 64, bitOf x.req.off (p / 8) = true → ∀ l < 4, SMap.get 0 t.rf.fec (4 * p + l) = 0) ∧ t.store = s.store ∧
          t.queues = s.queues ∧ t.raise = s.raise)) ∧
    (s.pwr.hotWaits ≠ 0 → s.pwr.trans ≠ none → ∃ t, exec (.entryInstant true) s = .next t ∧ t.pwr.hotWaits = 0 ∧
      t.groupsOn = without s.groupsOn s.pwr.hotWaits ∧ t.raise = s.raise ∧ t.store = s.store) ∧
    (∀ x, s.pwr.trans = some x → s.pwr.slot = none → s.boot.warmWaits = false → x.waits = false → s.pwr.wakes = [] → s.pwr.quiet = true →
      x.stage = 0 →
      (s.pwr.base = some 0 ∨ s.pwr.base = some 2 → s.raiseRoom 1 →
        ∃ t, exec .transitionEnd s = .next t ∧ t.fld Fld.PWR_STATUS_STATE = s.powerCode ∧
          t.raise = s.raise ++ (if s.powerCode = x.left then [] else
            [s.occurrence 0xF0 (s.powerCode + 16 * x.left + 256 * x.req.requester + 65536 * s.groupsOn)]) ∧
          t = { s with regs := t.regs, raise := t.raise, pwr := { s.pwr with trans := none } } ∧
          s.regsBut t [Reg.PWR_STATUS, Reg.PWR_PG_STATUS]) ∧
      (s.pwr.base = some 3 ∨ s.pwr.base = some 4 → s.detained = false →
        ∃ t, exec .transitionEnd s = .next t ∧ t.domains = [pdAon] ∧ t.raise = [] ∧ t.hk = HkState.idle ∧ t.cal = CalState.idle ∧
          t.pwr = { s.pwr with trans := none } ∧ t.store = s.store ∧ t.fuses = s.fuses ∧ t.flash = s.flash ∧
          s.regsBut t [Reg.PWR_STATUS, Reg.PWR_PG_STATUS])) ∧
    (∀ n : BitVec 8, ∀ r, r = s.ttRow (s.fld Fld.ATM_TT_CTRL_BANK) n.toNat → ∀ a, a = gridFrom s.time.scs (s.air + s.tLate) →
      (s.time.everLocked = true ∧ s.detained = false ∧ s.pwr.tripped = false ∧ s.pwr.trans = none) →
      (s.pwr.base = some 0 → s.lightRow r a = true → ∀ v, v = { u with pwr := { u.pwr with
          plannedWake := s.rowEnd r a - s.fld Fld.PWR_POLICY_LIGHT_LEAD * 12288 / 100 } } → v.powerCheck ⟨2, 3, 0⟩ = none →
        ∃ t, exec (.ttLightMark n false so) s = .next t ∧
          t = { v with regs := t.regs, pwr := { v.pwr with
            trans := some ⟨⟨2, 3, 0⟩, s.powerCode, 6, true, none, false, s.fld Fld.PWR_PG_STATUS_REQ_OFF, 0, s.aonTicks⟩ } } ∧
          s.regsBut t [Reg.PWR_STATUS, Reg.PWR_PG_STATUS]) ∧
      (s.pwr.base = some 2 → s.lightRow r (symbolsBefore s.time.scs r.count
          (gridFrom s.time.scs (s.air + s.fld Fld.PWR_POLICY_LIGHT_LEAD * 12288 / 100))) = true → u.powerCheck ⟨0, 3, 0⟩ = none →
        ∃ t, exec (.ttLightMark n true so) s = .next t ∧
          t = { u with regs := t.regs, pwr := { u.pwr with
            trans := some ⟨⟨0, 3, 0⟩, s.powerCode, 4, false, some 2, false, s.fld Fld.PWR_PG_STATUS_REQ_OFF, 0, s.aonTicks⟩ } } ∧
          s.regsBut t [Reg.PWR_STATUS, Reg.PWR_PG_STATUS])) ∧
    (s.passes q Reg.PWR_VETO true →
      (q = .dean → ∃ t, exec (.pwrVetoWrite q w) s = .next t ∧ t.on Fld.PWR_VETO_HOLD = (Fld.PWR_VETO_HOLD.of w == 1) ∧
        s.onlyRegs t [Reg.PWR_VETO]) ∧
      (q ≠ .dean → ∃ t, exec (.pwrVetoWrite q w) s = .next t ∧ t = s))

/-- A device wake goes stage by stage: after the rails PD_CTL and PD_SYN come on with PWR_WAKE_INFO, or a cold restore
begins with 0xF5; then ROOT_LOCK and every data domain; after the groups the logic stage, whose end leaves the new
state. A stage that does not end raises 0xF2 and restarts or restores. A group wake goes through its four stages; stage
3 or 4 that does not end switches the group off with FAIL and 0xF3. An enabled source starts a wake from a sleep. A
bell word that does not match counts REJECT; a ping drives IRQ_N. Power-good lost switches the die's groups off with
0xF3. Regulator transactions are written, acknowledged, and fail with 0xF4. Part of R413 to R416, R420, R423, R424,
R427 to R429, R433, R434 and R436. (spec/16_power_states.md, spec/15_housekeeping_events.md) -/
def Obligations.WakesAndSupplies : Prop :=
  ∀ (q : Requester) (w : Word) (s : State),
    (∀ x b, s.pwr.trans = some x → x.waking = some b → x.aborted = false →
      (x.stage = 1 → s.pwr.quiet = true → b = 3 → s.pwr.bell = none → s.fld Fld.PWR_BELL_COUNT_REJECT = s.pwr.rejects → s.trimOk = true →
        ∃ t, exec .wakeStageEnd s = .next t ∧ t.domOn pdCtl = true ∧ t.domOn pdSyn = true ∧ t.air = 0 ∧
          t.fld Fld.PWR_STATUS_STAGE = 2 ∧ t.fld Fld.PWR_WAKE_INFO_FROM = 3 ∧ t.fld Fld.PWR_WAKE_INFO_SOURCE = x.req.requester % 16 ∧
          t.pwr.trans = some { x with stage := 2 } ∧ t.store = s.store ∧ t.fuses = s.fuses ∧ t.flash = s.flash) ∧
      (x.stage = 1 → s.pwr.quiet = true → b = 4 →
        ∃ t, exec .wakeStageEnd s = .next t ∧ t.domains = [pdAon, pdCtl] ∧ t.fld Fld.BOOT_STATUS_STEP = 2 ∧ t.store = [] ∧ t.pwr.cold = 1 ∧
          (∃ e ∈ t.raise, e.code = 0xF5 ∧ e.info = 1#32) ∧ t.fuses = s.fuses ∧ t.flash = s.flash) ∧
      (x.stage = 2 → ∃ t, exec .wakeStageEnd s = .next t ∧ t.on Fld.CLK_STATUS_ROOT_LOCK = true ∧ t.on Fld.CLK_STATUS_FABRIC_ON_ROOT = true ∧
        (∀ d ∈ dataDomains, t.domOn d = true) ∧ t.banksOff = [] ∧ t.pwr.trans = some { x with stage := 3 } ∧ t.store = s.store ∧
        t.fuses = s.fuses ∧ t.flash = s.flash) ∧
      (x.stage = 4 → s.pwr.wakes = [] → s.pwr.quiet = true → ∃ t, exec .wakeStageEnd s = .next t ∧ t.fld Fld.PWR_STATUS_STAGE = 5 ∧
        t = { s with regs := t.regs, pwr := { s.pwr with trans := some { x with stage := 5 } } } ∧
        s.regsBut t [Reg.PWR_STATUS, Reg.PWR_PG_STATUS]) ∧
      (x.stage = 5 → b = 2 → x.req.target ≠ 1 → ∃ t, exec .wakeStageEnd s = .next t ∧
        t = { s with regs := t.regs, pwr := { s.pwr with base := some 0, trans := some { x with stage := 0, waking := none } } } ∧
        s.regsBut t [Reg.PWR_STATUS, Reg.PWR_PG_STATUS]) ∧
      (x.stage = 2 ∨ x.stage = 5 → s.pins.detain = 0 → s.pins.refclk = true →
        ∃ t, exec .wakeStageTimerExpiry s = .next t ∧ t.fld Fld.BOOT_STATUS_STEP = 2 ∧
        t.store = [] ∧ t.pwr.trans = none ∧ t.fuses = s.fuses) ∧
      (x.stage = 3 → ∃ t, exec .wakeStageTimerExpiry s = .next t ∧ t.fld Fld.BOOT_STATUS_STEP = 2 ∧ t.store = [] ∧ t.pwr.cold = 2 ∧
        (∃ e ∈ t.raise, e.code = 0xF5 ∧ e.info = 2#32) ∧ t.fuses = s.fuses)) ∧
    (∀ (gr : Fin 8), ∀ g, g = gr.val → ∀ k, k = SMap.get 0 s.pwr.wakes g →
      (k = 1 → s.pwr.ops = [] → s.pwr.trans ≠ none → ∃ t, exec (.groupWakeStageEnd gr) s = .next t ∧ t.domOn (pdPg g) = true ∧
        SMap.get 0 t.pwr.wakes g = 2 ∧ t.loInUse g = t.fld (Fld.RFE_PGg_LOSEL_SEL g) ∧
        (∀ h < 8, h ≠ g → t.domOn (pdPg h) = s.domOn (pdPg h) ∧ SMap.get 0 t.pwr.wakes h = SMap.get 0 s.pwr.wakes h) ∧
        t.store = s.store ∧ t.queues = s.queues) ∧
      (k = 2 → s.loState g 0 = loLocked ∨ s.loState g 0 = loFail → s.loState g 1 = loLocked ∨ s.loState g 1 = loFail →
        ∃ t, exec (.groupWakeStageEnd gr) s = .next t ∧ t = { s with regs := t.regs, pwr := { s.pwr with wakes := SMap.set 0 s.pwr.wakes g 3 } } ∧
          s.regsBut t [Reg.PWR_STATUS, Reg.PWR_PG_STATUS]) ∧
      (k = 3 → ∃ t, exec (.groupWakeStageEnd gr) s = .next t ∧
        t = { s with regs := t.regs, pwr := { s.pwr with wakes := SMap.set 0 s.pwr.wakes g 4 } } ∧
        s.regsBut t [Reg.PWR_STATUS, Reg.PWR_PG_STATUS]) ∧
      (k = 4 → s.pwr.base ≠ none → ∃ t, exec (.groupWakeStageEnd gr) s = .next t ∧
        t = { s with regs := t.regs, pwr := { s.pwr with wakes := SMap.erase s.pwr.wakes g } } ∧
        s.regsBut t [Reg.PWR_STATUS, Reg.PWR_PG_STATUS]) ∧
      (k = 2 → s.raiseRoom 1 → ∃ t, exec (.groupWakeTimeout gr) s = .next t ∧
        t.raise = s.raise ++ [s.occurrence 0xF2 (2 + 16 + 256 * g)] ∧
        t = { s with regs := t.regs, raise := t.raise, pwr := { s.pwr with wakes := SMap.set 0 s.pwr.wakes g 3 } } ∧
        s.regsBut t [Reg.PWR_STATUS, Reg.PWR_PG_STATUS]) ∧
      (k = 3 ∨ k = 4 → s.pwr.base ≠ none → s.raiseRoom 2 → ∃ t, exec (.groupWakeTimeout gr) s = .next t ∧ t.domOn (pdPg g) = false ∧
        bitOf (t.fld Fld.PWR_PG_STATUS_FAIL) g = true ∧ SMap.get 0 t.pwr.wakes g = 0 ∧
        t.raise = s.raise ++ [s.occurrence 0xF2 (k + 16 + 256 * g), s.occurrence 0xF3 (2 ^ g + 256 * (g / 2) + 4096 * 3)] ∧
        (∀ h < 8, h ≠ g → t.domOn (pdPg h) = s.domOn (pdPg h)) ∧ t.store = s.store ∧ t.queues = s.queues)) ∧
    (∀ e : Instr × Nat × Nat × Nat, e ∈ [
        (.wakeNAssert, 5, (if s.on Fld.PWR_WAKE_CFG_WAKEN_EN then 1 else 0), (if s.on Fld.PWR_WAKE_CFG_WAKEN_TGT then 2 else 0)),
        (.qb0ClockWake, 6, (if s.on Fld.PWR_WAKE_CFG_QB0_EN then 1 else 0), (if s.on Fld.PWR_WAKE_CFG_QB0_TGT then 2 else 0)),
        (.aonTimerExpiry, 7, (if s.on Fld.PWR_WAKE_CFG_TMR_EN ∧ s.rd Reg.PWR_AON_TMR ≠ 0 then 1 else 0),
          (if s.on Fld.PWR_WAKE_CFG_TMR_TGT then 2 else 0)),
        (.mspiCsWake, 8, (if s.on Fld.PWR_WAKE_CFG_CS_EN then 1 else 0), (if s.on Fld.PWR_WAKE_CFG_CS_TGT then 2 else 0))] →
      (∀ b, s.pwr.base = some b → b = 3 ∨ b = 4 → (s.detained = false ∧ s.pwr.tripped = false ∧ s.pwr.trans = none) → e.2.2.1 = 1 →
        ∃ t, exec e.1 s = .next t ∧ t.fld Fld.PWR_STATUS_STATE = 7 ∧ t.fld Fld.PWR_STATUS_STAGE = 1 ∧ t.on Fld.PWR_VCORE_BUSY = true ∧
          t.pwr.trans = some ⟨⟨0, e.2.1, 0⟩, b, 1, false, some b, false, s.fld Fld.PWR_PG_STATUS_REQ_OFF, 0, s.aonTicks⟩ ∧
          t.pwr.slot = (if e.2.2.2 = 2 then some ⟨2, e.2.1, 0⟩ else none) ∧
          RegOp.avs (s.fld Fld.PWR_VCORE_TARGET_MV) false ∈ t.pwr.ops ∧ (∀ n < 5, n ∈ s.pwr.railsOff → RegOp.rail n true ∈ t.pwr.ops) ∧
          t = { s with regs := t.regs, pwr := { s.pwr with
            trans := t.pwr.trans, slot := t.pwr.slot, ops := t.pwr.ops, sources := t.pwr.sources } } ∧ s.regsBut t [Reg.PWR_STATUS, Reg.PWR_PG_STATUS, Reg.PWR_VCORE]) ∧
      (s.pwr.base = some 0 ∨ e.2.2.1 = 0 → ∃ t, exec e.1 s = .next t ∧
        t = { s with pwr := { s.pwr with sources := t.pwr.sources } })) ∧
    (∀ bs : List Byte, bs.length = 5 →
      (s.bellListens = false → ∃ t, exec (.bellWord bs) s = .next t ∧ t = s) ∧
      (s.bellListens = true →
        (fieldAt bs 4 1 ≠ crc8 (bytesAt bs 0 4) ∨ fieldAt bs 3 1 = 0 ∨ 3 < fieldAt bs 3 1 ∨
            (256 * fieldAt bs 0 1 + fieldAt bs 1 1 ≠ s.fld Fld.PWR_BELL_ADDR_ADDR ∧ 256 * fieldAt bs 0 1 + fieldAt bs 1 1 ≠ 0xFFFF) →
          ∃ t, exec (.bellWord bs) s = .next t ∧
            t.fld Fld.PWR_BELL_COUNT_REJECT = min (2 ^ Fld.PWR_BELL_COUNT_REJECT.width - 1) (s.fld Fld.PWR_BELL_COUNT_REJECT + 1) ∧
            s.onlyRegs t [Reg.PWR_BELL_COUNT]) ∧
        (fieldAt bs 4 1 = crc8 (bytesAt bs 0 4) → 256 * fieldAt bs 0 1 + fieldAt bs 1 1 = s.fld Fld.PWR_BELL_ADDR_ADDR →
          fieldAt bs 3 1 = 1 → s.on Fld.PWR_BELL_CFG_PING_IRQ = true →
          ∃ t, exec (.bellWord bs) s = .next t ∧ t.pins.irqN = false ∧
            t.fld Fld.PWR_BELL_COUNT_MATCH = min (2 ^ Fld.PWR_BELL_COUNT_MATCH.width - 1) (s.fld Fld.PWR_BELL_COUNT_MATCH + 1) ∧
            t.fld Fld.PWR_BELL_LAST_CMD = 1 ∧ t.fld Fld.PWR_BELL_LAST_ADDR = s.fld Fld.PWR_BELL_ADDR_ADDR ∧
            t = { s with regs := t.regs, pins := { s.pins with irqN := false }, pwr := { s.pwr with ping := true } } ∧
            s.regsBut t [Reg.PWR_BELL_COUNT, Reg.PWR_BELL_LAST]))) ∧
    (∀ (vs : List (BitVec 16)) (as : List Nat), as = s.pmbAddrs → s.raiseRoom as.length →
      ∃ t, exec (.pmbAlert vs) s = .next t ∧ t = { s with raise := t.raise } ∧
        t.raise = s.raise ++ as.zipIdx.map (fun a => s.occurrence 0xF4 (1 + 256 * a.1 + 2 ^ 15 + 65536 * (vs.getD a.2 0).toNat))) ∧
    (∀ (d : Fin 4) (m : Nat), m = s.groupsOn &&& dieGroups d.val → s.raiseRoom 1 →
      (m = 0 → ∃ t, exec (.powerGoodLoss d) s = .next t ∧ t = s) ∧
      (m ≠ 0 → s.pwr.base ≠ none → ∃ t, exec (.powerGoodLoss d) s = .next t ∧ t.groupsOn = without s.groupsOn m ∧
        t.fld Fld.PWR_PG_STATUS_FAIL = s.fld Fld.PWR_PG_STATUS_FAIL ||| m ∧ bitOf t.pwr.dies d.val = false ∧
        t.pwr.failed = s.pwr.failed ||| m ∧ t.raise = s.raise ++ [s.occurrence 0xF3 (m + 256 * d.val + 4096 * 2)] ∧
        (∀ p < 64, bitOf m (p / 8) = true → ∀ l < 4, SMap.get 0 t.rf.fec (4 * p + l) = 0) ∧ t.store = s.store ∧ t.queues = s.queues)) ∧
    (s.passes q Reg.PWR_VCORE true → ∀ mv, mv = Fld.PWR_VCORE_TARGET_MV.of w →
      (620 ≤ mv ∧ mv ≤ 820 ∧ s.pwr.trans = none ∧ s.pwr.base = some 0) →
      (s.on Fld.PWR_VCORE_BUSY = false → ∃ t, exec (.vcoreTargetWrite q w) s = .next t ∧ t.on Fld.PWR_VCORE_BUSY = true ∧
        t.fld Fld.PWR_VCORE_TARGET_MV = mv ∧
        t = { s with regs := t.regs, pwr := { s.pwr with ops := s.pwr.ops ++ [.avs mv false] } } ∧ s.regsBut t [Reg.PWR_VCORE]) ∧
      (s.on Fld.PWR_VCORE_BUSY = true → ∃ t, exec (.vcoreTargetWrite q w) s = .next t ∧ t.fld Fld.PWR_VCORE_TARGET_MV = mv ∧
        t = { s with regs := t.regs, pwr := { s.pwr with again := true } } ∧ s.regsBut t [Reg.PWR_VCORE])) ∧
    (∀ (mv : Nat) (v : BitVec 16), s.pwr.again = false →
      (s.pwr.ops = [.avs mv false] → ∃ t, exec (.avsbusTransactionEnd true true v) s = .next t ∧ t.on Fld.PWR_VCORE_BUSY = false ∧
        t = { s with regs := t.regs, pwr := { s.pwr with ops := [.avs mv true] } } ∧
        s.regsBut t [Reg.PWR_VCORE, Reg.PWR_STATUS, Reg.PWR_PG_STATUS]) ∧
      (s.pwr.ops = [.avs mv false] → s.pwr.trans = none → s.fld Fld.BOOT_STATUS_STEP ≠ 9 → s.raiseRoom 1 →
        ∃ t, exec (.avsbusTransactionEnd true false v) s = .next t ∧ t.on Fld.PWR_VCORE_BUSY = false ∧
          t.raise = s.raise ++ [s.occurrence 0xF4 (256 * (fieldAt s.boot.profile 10 1 % 16) + 65536 * v.toNat)] ∧
          t = { s with regs := t.regs, raise := t.raise, pwr := { s.pwr with ops := [] } } ∧
          s.regsBut t [Reg.PWR_VCORE, Reg.PWR_STATUS, Reg.PWR_PG_STATUS]) ∧
      (s.pwr.ops = [.avs mv true] → s.pwr.trans = none → s.fld Fld.BOOT_STATUS_STEP ≠ 9 → s.raiseRoom 1 →
        ∃ t, exec (.regulatorTimeout none v) s = .next t ∧
          t.raise = s.raise ++ [s.occurrence 0xF4 (256 * (fieldAt s.boot.profile 10 1 % 16) + 2 ^ 15 + 65536 * v.toNat)] ∧
          t = { s with regs := t.regs, raise := t.raise, pwr := { s.pwr with ops := [] } } ∧
          s.regsBut t [Reg.PWR_VCORE, Reg.PWR_STATUS, Reg.PWR_PG_STATUS])) ∧
    (s.passes q Reg.PWR_REG_CFG true → ∀ m, m = Fld.PWR_REG_CFG_MARGIN.of w → (∀ k < 4, m / 4 ^ k % 4 ≠ 3) →
      ∃ t, exec (.marginWrite q w) s = .next t ∧ t.fld Fld.PWR_REG_CFG_MARGIN = m ∧
        t.pwr.ops = s.pwr.ops ++ ((List.range 4).filter (fun k => m / 4 ^ k % 4 != s.marginOf k && bitOf s.pwr.dies k)).map
          (fun k => .margin k (m / 4 ^ k % 4)) ∧
        t = { s with regs := t.regs, pwr := { s.pwr with ops := t.pwr.ops } } ∧ s.regsBut t [Reg.PWR_REG_CFG])

/-- Whatever command is in front, and on an empty queue too: a step that goes on leaves store, flash and fuse array in
their canonical form when it found them so (the form is the model's own way of holding a memory, log entry 4), clears
no fuse bit that was blown (what R83 says of POLICY, and what programming a fuse is for every other command, a reset
amid one included), and takes from the queue of waiting commands its front alone, first in, first out (the model's own
queue, log entry 5). For every state, not only those that a run reaches. (spec/03_security.md, spec/06_store_and_dma.md) -/
def Obligations.EveryStepKeepsTheMemoriesAndTheBlownFuses : Prop :=
  ∀ s t : State, Machine.step s = .next t →
    (s.memoriesCanonical = true → t.memoriesCanonical = true) ∧
    (∀ w i, (s.fuse w).getLsbD i = true → (t.fuse w).getLsbD i = true) ∧
    t.pending = s.pending.tail

/-- State.reset is in start step 2 after a POR with PD_AON and PD_CTL on, AIR_COUNT 0, an empty raise FIFO, the link DOWN,
no command waiting, every memory in canonical form and the store reading 0 everywhere (the model's choice, log entry
4). A step with no command waiting is one period of the HK clock (the model's choice, log entry 5): the always-on clock
counts 3,750 of them to one of its ticks, with the HK clock running AIR_COUNT rises by 1 modulo 2^64 (R187) and a high
ALIGN_OUT has one tick less to go, each packet being sent has eight fabric cycles less to go, and beside these, while
no packet ends and no checker runs, only the NCO phases and the state of the front-end control lines and supplies may
change; in TEST with CHK_EN the checkers count 192 UI more (R94, R118). (spec/17_resets_and_limits.md, spec/01_device_organisation.md, spec/07_air_timing_timetable_beams.md) -/
def Obligations.TheResetStateAndAnIdleStep : Prop :=
  State.reset.memoriesCanonical = true ∧ State.reset.pending = [] ∧ State.reset.fld Fld.BOOT_STATUS_STEP = 2 ∧
  State.reset.boot.kind = .por ∧ State.reset.domains = [pdAon, pdCtl] ∧ State.reset.air = 0 ∧ State.reset.raise = [] ∧
  State.reset.linkIs lnkDown = true ∧ (∀ a, State.reset.storeByte a = 0) ∧
  (∀ s : State, s.pending = [] →
    ∃ t, Machine.step s = .next t ∧
      (s.hkSub + 1 < 3750 → t.hkSub = s.hkSub + 1 ∧ t.aonTicks = s.aonTicks) ∧
      (3750 ≤ s.hkSub + 1 → t.hkSub = 0 ∧ t.aonTicks = s.aonTicks + 1) ∧
      (s.hkRuns = false → t = { s with hkSub := t.hkSub, aonTicks := t.aonTicks }) ∧
      (s.hkRuns = true → (∀ f ∈ s.link.flight, 8 < f.left) →
        (s.linkIs lnkTest = false ∨ s.on Fld.LNK_TEST_CHK_EN = false → t = { s with
          hkSub := t.hkSub, aonTicks := t.aonTicks, air := (s.air + 1) % 2 ^ 64,
          time := { s.time with alignOut := s.time.alignOut - 1 }, nco := t.nco, rf := t.rf,
          link := { s.link with flight := s.link.flight.map (fun f : Flight => { f with left := f.left - 8 }) } }) ∧
        (s.linkIs lnkTest = true → s.on Fld.LNK_TEST_CHK_EN = true →
          (∀ l e : Nat, e = 22 + l → l < 22 → l % 11 ≠ 10 → s.fld (Fld.LNK_PRBS_ERRe_ERR e) ≤ t.fld (Fld.LNK_PRBS_ERRe_ERR e) ∧
            t.fld (Fld.LNK_PRBS_ERRe_ERR e) ≤ s.fld (Fld.LNK_PRBS_ERRe_ERR e) + 192) ∧
          (t.rd Reg.LNK_PRBS_UI_LO).toNat + 2 ^ 32 * (t.rd Reg.LNK_PRBS_UI_HI).toNat =
            ((s.rd Reg.LNK_PRBS_UI_LO).toNat + 2 ^ 32 * (s.rd Reg.LNK_PRBS_UI_HI).toNat + 192) % 2 ^ 64 ∧
          t.link = { s.link with flight := s.link.flight.map (fun f : Flight => { f with left := f.left - 8 }) } ∧
          s.regsBut t ([Reg.LNK_PRBS_UI_LO, Reg.LNK_PRBS_UI_HI] ++ (List.range 22).map (fun l => Reg.LNK_PRBS_ERRe (22 + l))))))
end

