-- ==== Sys2Proof/Laws/Access.lean ====
section
/-!
SUPPORT. What an access of a register does: its effect alone when nothing stands before it and the fabric judges it OK, the record of
R38 alone when it is turned away.
-/

namespace Sys2Proof.Machine

/-- Where nothing stands before an access, its turn adds nothing. -/
theorem State.turn_inTurn (s : State) (q : Requester) (env : BusEnv) (f : State → State) (h : s.inTurn q) : s.turn q env f = f s := by
  unfold State.turn
  split
  · rename_i hq
    obtain ⟨up, op, held, posted, after⟩ := h hq
    have e : s.emptyHeld env = s := by
      have : s.finishHeld env = s := by simp [State.finishHeld, held]
      rw [State.emptyHeld, this, State.setHeld, ← held]
    simp [State.mspiTurn, e, State.drainPosted, up, op, posted, after]
  · rfl

/-- A requester other than the MSPI slave never waits. -/
theorem State.inTurn_of_ne (s : State) {q : Requester} (h : q ≠ .mspi) : s.inTurn q := fun e => absurd e h

theorem State.judged_ok (s : State) (q : Requester) (a : Nat) (w : Bool) (f : State → State) (h : s.judge q a w = stOk) :
    s.judged q a w f = f s := if_pos h

theorem State.judged_refused (s : State) (q : Requester) (a : Nat) (w : Bool) (f : State → State) (h : s.judge q a w ≠ stOk) :
    s.judged q a w f = s.merr q a w false (s.judge q a w) := if_neg h

/-- A write that passes has its effect. -/
theorem State.access_passes (s : State) (q : Requester) (a : Nat) (f : State → State) (h : s.passes q a true) : s.access q a f = f s := by
  unfold State.access
  rw [s.turn_inTurn q _ _ h.1, s.judged_ok q a true f h.2]

/-- A write that the fabric turns away changes DEV_MERR alone (R38). -/
theorem State.access_refused (s : State) (q : Requester) (a : Nat) (f : State → State) (h : s.inTurn q) (hj : s.judge q a true ≠ stOk) :
    s.access q a f = s.merr q a true false (s.judge q a true) := by
  unfold State.access
  rw [s.turn_inTurn q _ _ h, s.judged_refused q a true f hj]

/-- A read that passes has its effect. -/
theorem State.accessRead_passes (s : State) (q : Requester) (a : Nat) (f : State → State) (h : s.passes q a false) :
    s.accessRead q a f = f s := by
  unfold State.accessRead
  rw [s.turn_inTurn q _ _ h.1, s.judged_ok q a false f h.2]

/-- A read that the fabric turns away changes DEV_MERR alone (R38). -/
theorem State.accessRead_refused (s : State) (q : Requester) (a : Nat) (f : State → State) (h : s.inTurn q)
    (hj : s.judge q a false ≠ stOk) : s.accessRead q a f = s.merr q a false false (s.judge q a false) := by
  unfold State.accessRead
  rw [s.turn_inTurn q _ _ h, s.judged_refused q a false f hj]

end Sys2Proof.Machine
end

