-- ==== Sys2Proof/Laws/SMap.lean ====
section
/-!
SUPPORT. What the operations on sparse maps do: reads after writes, and the canonical form.
-/

namespace Sys2Proof.Machine

variable {α : Type}

/-! ### Reads after writes -/

theorem SMap.find_erase_same (m : SMap α) (k : Nat) : SMap.find (SMap.erase m k) k = none := by
  induction m with
  | nil => rfl
  | cons p m ih =>
    obtain ⟨a, v⟩ := p
    by_cases h : a = k
    · simp [SMap.erase, h, ih]
    · simp [SMap.erase, SMap.find, h, ih]

theorem SMap.find_erase_ne (m : SMap α) {k j : Nat} (h : j ≠ k) : SMap.find (SMap.erase m k) j = SMap.find m j := by
  induction m with
  | nil => rfl
  | cons p m ih =>
    obtain ⟨a, v⟩ := p
    by_cases hk : a = k
    · simp [SMap.erase, SMap.find, hk, ih, Ne.symm h]
    · simp [SMap.erase, SMap.find, hk, ih]

theorem SMap.find_insert_same (m : SMap α) (k : Nat) (v : α) (h : SMap.find m k = none) :
    SMap.find (SMap.insert k v m) k = some v := by
  induction m with
  | nil => simp [SMap.insert, SMap.find]
  | cons p m ih =>
    obtain ⟨a, w⟩ := p
    by_cases hk : a = k
    · simp [SMap.find, hk] at h
    · simp only [SMap.find, hk, if_false] at h
      by_cases hl : k < a
      · simp [SMap.insert, SMap.find, hl]
      · simp [SMap.insert, SMap.find, hl, hk, ih h]

theorem SMap.find_insert_ne (m : SMap α) {k j : Nat} (v : α) (h : j ≠ k) :
    SMap.find (SMap.insert k v m) j = SMap.find m j := by
  induction m with
  | nil => simp [SMap.insert, SMap.find, Ne.symm h]
  | cons p m ih =>
    obtain ⟨a, w⟩ := p
    by_cases hl : k < a
    · simp [SMap.insert, SMap.find, hl, Ne.symm h]
    · simp [SMap.insert, SMap.find, hl, ih]

variable [DecidableEq α]

/-- A read after a write to the same key gives the value written. -/
@[simp] theorem SMap.get_set_same (d : α) (m : SMap α) (k : Nat) (v : α) : SMap.get d (SMap.set d m k v) k = v := by
  unfold SMap.get SMap.set
  by_cases h : v = d
  · simp [h, SMap.find_erase_same]
  · simp [h, SMap.find_insert_same _ _ _ (SMap.find_erase_same m k)]

/-- A write leaves every other key alone. -/
theorem SMap.get_set_ne (d : α) (m : SMap α) {k j : Nat} (v : α) (h : j ≠ k) :
    SMap.get d (SMap.set d m k v) j = SMap.get d m j := by
  unfold SMap.get SMap.set
  by_cases hv : v = d
  · simp [hv, SMap.find_erase_ne m h]
  · simp [hv, SMap.find_insert_ne _ _ h, SMap.find_erase_ne m h]

theorem SMap.get_set (d : α) (m : SMap α) (k j : Nat) (v : α) :
    SMap.get d (SMap.set d m k v) j = if j = k then v else SMap.get d m j := by
  by_cases h : j = k
  · subst h; simp
  · simp [h, SMap.get_set_ne d m v h]

/-- A write of a list leaves every key outside it alone. -/
theorem SMap.get_setRange_out (d : α) (vs : List α) (m : SMap α) {k j : Nat} (h : j < k ∨ k + vs.length ≤ j) :
    SMap.get d (SMap.setRange d m k vs) j = SMap.get d m j := by
  induction vs generalizing m k with
  | nil => rfl
  | cons v vs ih =>
    simp only [List.length_cons] at h
    rw [SMap.setRange, ih _ (by omega), SMap.get_set_ne d m v (by omega)]

/-! ### The canonical form -/

omit [DecidableEq α] in
/-- A range read in two parts. -/
theorem SMap.getRange_add (d : α) (m : SMap α) (k a b : Nat) :
    SMap.getRange d m k (a + b) = SMap.getRange d m k a ++ SMap.getRange d m (k + a) b := by
  induction a generalizing k with
  | zero => simp [SMap.getRange]
  | succ a ih => rw [Nat.succ_add, SMap.getRange, SMap.getRange, ih, Nat.add_right_comm]; rfl

omit [DecidableEq α] in
theorem SMap.find_absent (m : SMap α) (k : Nat) (h : ∀ p ∈ m, p.1 ≠ k) : SMap.find m k = none := by
  induction m with
  | nil => rfl
  | cons p m ih =>
    rw [SMap.find, if_neg (h p (List.mem_cons_self ..))]
    exact ih (fun q hq => h q (List.mem_cons_of_mem _ hq))

omit [DecidableEq α] in
/-- A range in which nothing is listed reads as the default. -/
theorem SMap.getRange_default (d : α) (m : SMap α) (k n : Nat) (h : ∀ p ∈ m, p.1 < k ∨ k + n ≤ p.1) :
    SMap.getRange d m k n = List.replicate n d := by
  induction n generalizing k with
  | zero => rfl
  | succ n ih =>
    have f : SMap.find m k = none := SMap.find_absent m k (fun p hp => by have := h p hp; omega)
    rw [SMap.getRange, ih (k + 1) (fun p hp => by have := h p hp; omega), List.replicate_succ, SMap.get, f]
    rfl

/-- A range that has been written reads as what was written. -/
theorem SMap.getRange_setRange (d : α) (vs : List α) (m : SMap α) (k : Nat) :
    SMap.getRange d (SMap.setRange d m k vs) k vs.length = vs := by
  induction vs generalizing m k with
  | nil => rfl
  | cons v vs ih =>
    simp only [List.length_cons, SMap.getRange, SMap.setRange, ih]
    rw [SMap.get_setRange_out d vs _ (Or.inl (Nat.lt_succ_self k)), SMap.get_set_same]

/-- A lower bound of the keys of a canonical map may be lowered. -/
theorem SMap.wfFrom_mono (d : α) (m : SMap α) {l l' : Nat} (h : l' ≤ l) (hm : SMap.wfFrom d (some l) m = true) :
    SMap.wfFrom d (some l') m = true := by
  cases m with
  | nil => rfl
  | cons p m =>
    obtain ⟨a, v⟩ := p
    simp only [SMap.wfFrom, Bool.and_eq_true, decide_eq_true_eq] at hm ⊢
    exact ⟨⟨by omega, hm.1.2⟩, hm.2⟩

theorem SMap.wfFrom_none (d : α) (m : SMap α) {l : Nat} (hm : SMap.wfFrom d (some l) m = true) :
    SMap.wfFrom d none m = true := by
  cases m with
  | nil => rfl
  | cons p m =>
    obtain ⟨a, v⟩ := p
    simp only [SMap.wfFrom, Bool.and_eq_true] at hm ⊢
    exact ⟨⟨trivial, hm.1.2⟩, hm.2⟩

theorem SMap.wfFrom_erase (d : α) (m : SMap α) (k : Nat) (l : Option Nat) (hm : SMap.wfFrom d l m = true) :
    SMap.wfFrom d l (SMap.erase m k) = true := by
  induction m generalizing l with
  | nil => rfl
  | cons p m ih =>
    obtain ⟨a, v⟩ := p
    simp only [SMap.wfFrom, Bool.and_eq_true] at hm
    by_cases h : a = k
    · simp only [SMap.erase, h, if_true]
      refine ih l ?_
      cases l with
      | none => exact SMap.wfFrom_none d m hm.2
      | some l =>
        have := hm.1.1
        simp only [decide_eq_true_eq] at this
        exact SMap.wfFrom_mono d m (by omega) hm.2
    · simp only [SMap.erase, h, if_false, SMap.wfFrom, Bool.and_eq_true]
      exact ⟨hm.1, ih _ hm.2⟩

theorem SMap.wfFrom_insert (d : α) (m : SMap α) (k : Nat) (v : α) (hv : v ≠ d) (hk : SMap.find m k = none) (l : Option Nat)
    (hl : ∀ x, l = some x → x < k) (hm : SMap.wfFrom d l m = true) : SMap.wfFrom d l (SMap.insert k v m) = true := by
  induction m generalizing l with
  | nil =>
    cases l with
    | none => simp [SMap.insert, SMap.wfFrom, hv]
    | some x => simp [SMap.insert, SMap.wfFrom, hv, hl x rfl]
  | cons p m ih =>
    obtain ⟨a, w⟩ := p
    have hm' := hm
    simp only [SMap.wfFrom, Bool.and_eq_true] at hm
    by_cases h : k < a
    · simp only [SMap.insert, h, if_true, SMap.wfFrom, Bool.and_eq_true, decide_eq_true_eq]
      refine ⟨⟨?_, by simpa using hv⟩, ⟨⟨trivial, hm.1.2⟩, hm.2⟩⟩
      cases l with
      | none => rfl
      | some x => simpa using hl x rfl
    · have ha : a ≠ k := by
        intro e
        simp [SMap.find, e] at hk
      simp only [SMap.find, ha, if_false] at hk
      simp only [SMap.insert, h, if_false, SMap.wfFrom, Bool.and_eq_true]
      refine ⟨hm.1, ih hk (some a) ?_ hm.2⟩
      intro x hx
      have : x = a := by simpa using hx.symm
      omega

/-- A write keeps the canonical form. -/
theorem SMap.wf_set (d : α) (m : SMap α) (k : Nat) (v : α) (hm : SMap.wf d m = true) : SMap.wf d (SMap.set d m k v) = true := by
  unfold SMap.set SMap.wf at *
  by_cases h : v = d
  · simpa [h] using SMap.wfFrom_erase d m k none hm
  · simpa [h] using SMap.wfFrom_insert d _ k v h (SMap.find_erase_same m k) none (by simp) (SMap.wfFrom_erase d m k none hm)

/-- A write of a list keeps the canonical form. -/
theorem SMap.wf_setRange (d : α) (vs : List α) (m : SMap α) (k : Nat) (hm : SMap.wf d m = true) :
    SMap.wf d (SMap.setRange d m k vs) = true := by
  induction vs generalizing m k with
  | nil => exact hm
  | cons v vs ih => exact ih _ _ (SMap.wf_set d m k v hm)

theorem SMap.wfFrom_filter (d : α) (c : Nat × α → Bool) (m : SMap α) (l : Option Nat) (hm : SMap.wfFrom d l m = true) :
    SMap.wfFrom d l (m.filter c) = true := by
  induction m generalizing l with
  | nil => rfl
  | cons p m ih =>
    obtain ⟨a, v⟩ := p
    simp only [SMap.wfFrom, Bool.and_eq_true] at hm
    by_cases h : c (a, v) = true
    · simp only [List.filter_cons, h, if_true, SMap.wfFrom, Bool.and_eq_true]
      exact ⟨hm.1, ih _ hm.2⟩
    · simp only [List.filter_cons, h]
      refine ih l ?_
      cases l with
      | none => exact SMap.wfFrom_none d m hm.2
      | some x =>
        have := hm.1.1
        simp only [decide_eq_true_eq] at this
        exact SMap.wfFrom_mono d m (by omega) hm.2

/-- A selection keeps the canonical form. -/
theorem SMap.wf_filter (d : α) (c : Nat × α → Bool) (m : SMap α) (hm : SMap.wf d m = true) :
    SMap.wf d (m.filter c) = true := SMap.wfFrom_filter d c m none hm

theorem SMap.wfFrom_mapVal (d : α) (f : α → α) (m : SMap α) (l : Option Nat) (hm : SMap.wfFrom d l m = true) :
    SMap.wfFrom d l (SMap.mapVal d f m) = true := by
  induction m generalizing l with
  | nil => rfl
  | cons p m ih =>
    obtain ⟨a, v⟩ := p
    simp only [SMap.wfFrom, Bool.and_eq_true] at hm
    by_cases h : f v = d
    · simp only [SMap.mapVal, h, if_true]
      refine ih l ?_
      cases l with
      | none => exact SMap.wfFrom_none d m hm.2
      | some x =>
        have := hm.1.1
        simp only [decide_eq_true_eq] at this
        exact SMap.wfFrom_mono d m (by omega) hm.2
    · simp only [SMap.mapVal, h, if_false, SMap.wfFrom, Bool.and_eq_true]
      exact ⟨⟨hm.1.1, by simp⟩, ih _ hm.2⟩

/-- A change of every value keeps the canonical form. -/
theorem SMap.wf_mapVal (d : α) (f : α → α) (m : SMap α) (hm : SMap.wf d m = true) : SMap.wf d (SMap.mapVal d f m) = true :=
  SMap.wfFrom_mapVal d f m none hm

end Sys2Proof.Machine
end

