-- ==== Sys2Proof/Laws/Fields.lean ====
section
/-!
SUPPORT. Reading a register or a field after it, or another one, has been loaded.
-/

namespace Sys2Proof

/-- Bit `i` of a field's value. -/
theorem testBit_getField (hi lo i : Nat) (w : Word) :
    (getField hi lo w).testBit i = (decide (i < hi + 1 - lo) && w.getLsbD (lo + i)) := by
  simp [getField, Nat.testBit_mod_two_pow, Nat.testBit_shiftRight, BitVec.getLsbD]

theorem getLsbD_fieldMask (hi lo i : Nat) (h : hi < 32) :
    (fieldMask hi lo).getLsbD i = (decide (lo ≤ i) && decide (i ≤ hi)) := by
  by_cases hl : lo ≤ i
  · by_cases hi' : i ≤ hi
    · simp only [fieldMask, BitVec.getLsbD_shiftLeft, BitVec.getLsbD_ofNat, Nat.testBit_two_pow_sub_one]
      simp [hl, hi', show i < 32 by omega, show i - lo < 32 by omega, show i - lo < hi + 1 - lo by omega]
    · simp only [fieldMask, BitVec.getLsbD_shiftLeft, BitVec.getLsbD_ofNat, Nat.testBit_two_pow_sub_one]
      simp [hi', show ¬ i - lo < hi + 1 - lo by omega]
  · simp only [fieldMask, BitVec.getLsbD_shiftLeft]
    simp [hl, show i < lo by omega]

theorem getLsbD_placeField (hi lo v i : Nat) (h : hi < 32) :
    (placeField hi lo v).getLsbD i = (decide (lo ≤ i) && decide (i ≤ hi) && v.testBit (i - lo)) := by
  by_cases hl : lo ≤ i
  · by_cases hi' : i ≤ hi
    · simp only [placeField, BitVec.getLsbD_shiftLeft, BitVec.getLsbD_ofNat, Nat.testBit_mod_two_pow]
      simp [hl, hi', show i < 32 by omega, show i - lo < 32 by omega, show i - lo < hi + 1 - lo by omega]
    · simp only [placeField, BitVec.getLsbD_shiftLeft, BitVec.getLsbD_ofNat, Nat.testBit_mod_two_pow]
      simp [hi', show ¬ i - lo < hi + 1 - lo by omega]
  · simp only [placeField, BitVec.getLsbD_shiftLeft]
    simp [hl, show i < lo by omega]

theorem getLsbD_putField (hi lo v i : Nat) (w : Word) (h : hi < 32) :
    (putField hi lo v w).getLsbD i =
      (if lo ≤ i ∧ i ≤ hi then v.testBit (i - lo) else w.getLsbD i) := by
  simp only [putField, BitVec.getLsbD_or, BitVec.getLsbD_and, BitVec.getLsbD_not, getLsbD_fieldMask hi lo i h,
    getLsbD_placeField hi lo v i h]
  by_cases c : lo ≤ i ∧ i ≤ hi
  · simp [c]
  · rw [if_neg c]
    by_cases c1 : lo ≤ i
    · have c2 : ¬ i ≤ hi := fun x => c ⟨c1, x⟩
      simp only [c1, c2]
      by_cases hb : i < 32
      · simp [hb]
      · simp [hb, BitVec.getLsbD_of_ge w i (by omega)]
    · simp only [c1]
      by_cases hb : i < 32
      · simp [hb]
      · simp [hb, BitVec.getLsbD_of_ge w i (by omega)]

/-- A field reads as what was put into it. -/
theorem getField_putField_same (hi lo v : Nat) (w : Word) (h : hi < 32) (hv : v < 2 ^ (hi + 1 - lo)) :
    getField hi lo (putField hi lo v w) = v := by
  apply Nat.eq_of_testBit_eq
  intro i
  rw [testBit_getField, getLsbD_putField _ _ _ _ _ h]
  by_cases c : i < hi + 1 - lo
  · simp [c, show lo + i ≤ hi by omega]
  · simp only [c, decide_false, Bool.false_and]
    exact (Nat.testBit_lt_two_pow (lt_of_lt_of_le hv (Nat.pow_le_pow_right (by decide) (by omega)))).symm

/-- A field reads what the low bits of the value put into it hold. -/
theorem getField_putField_mod (hi lo v : Nat) (w : Word) (h : hi < 32) :
    getField hi lo (putField hi lo v w) = v % 2 ^ (hi + 1 - lo) := by
  apply Nat.eq_of_testBit_eq
  intro i
  rw [testBit_getField, getLsbD_putField _ _ _ _ _ h, Nat.testBit_mod_two_pow]
  by_cases c : i < hi + 1 - lo
  · simp [c, show lo + i ≤ hi by omega]
  · simp [c]

/-- A field of other bits keeps its value. -/
theorem getField_putField_ne (hi lo hi' lo' v : Nat) (w : Word) (h : hi < 32) (hd : hi' < lo ∨ hi < lo') :
    getField hi' lo' (putField hi lo v w) = getField hi' lo' w := by
  apply Nat.eq_of_testBit_eq
  intro i
  rw [testBit_getField, testBit_getField, getLsbD_putField _ _ _ _ _ h]
  by_cases c : i < hi' + 1 - lo'
  · rw [if_neg (by omega)]
  · simp [c]

/-- A field's value fits its bits. -/
theorem getField_lt (hi lo : Nat) (w : Word) : getField hi lo w < 2 ^ (hi + 1 - lo) := Nat.mod_lt _ (Nat.two_pow_pos _)

namespace Machine

/-- A register reads what it was loaded with. -/
@[simp] theorem State.rd_wr_same (s : State) (a : Nat) (w : Word) : (s.wr a w).rd a = w := by
  simp [State.rd, State.wr]

/-- Every other register keeps its word. -/
theorem State.rd_wr_ne (s : State) {a b : Nat} (w : Word) (h : b ≠ a) : (s.wr a w).rd b = s.rd b := by
  simp only [State.rd, State.wr, SMap.get, SMap.set]
  by_cases hw : w = resetWord a
  · simp [hw, SMap.find_erase_ne _ h]
  · simp [hw, SMap.find_insert_ne _ _ h, SMap.find_erase_ne _ h]

theorem State.rd_setFld_ne (s : State) (f : Fld) (v : Nat) {b : Nat} (h : b ≠ f.addr) : (s.setFld f v).rd b = s.rd b :=
  State.rd_wr_ne s _ h

/-- A field reads what it was loaded with. -/
theorem State.fld_setFld_same (s : State) (f : Fld) (v : Nat) (h : f.hi < 32) (hv : v < 2 ^ (f.hi + 1 - f.lo)) :
    (s.setFld f v).fld f = v := by
  simp only [State.fld, State.setFld, State.rd_wr_same]
  exact getField_putField_same _ _ _ _ h hv

theorem State.fld_setFld_mod (s : State) (f : Fld) (v : Nat) (h : f.hi < 32) :
    (s.setFld f v).fld f = v % 2 ^ (f.hi + 1 - f.lo) := by
  simp only [State.fld, State.setFld, State.rd_wr_same]
  exact getField_putField_mod _ _ _ _ h

/-- A field of another register, or of other bits of the same one, keeps its value. -/
theorem State.fld_setFld_ne (s : State) (f f' : Fld) (v : Nat) (h : f.hi < 32)
    (hd : f'.addr ≠ f.addr ∨ f'.hi < f.lo ∨ f.hi < f'.lo) : (s.setFld f v).fld f' = s.fld f' := by
  by_cases ha : f'.addr = f.addr
  · have hd' : f'.hi < f.lo ∨ f.hi < f'.lo := by
      rcases hd with hd | hd
      · exact absurd ha hd
      · exact hd
    simp only [State.fld, State.setFld, ha, State.rd_wr_same]
    exact getField_putField_ne _ _ _ _ _ _ h hd'
  · simp only [State.fld, State.rd_setFld_ne s f v ha]

/-- A register load leaves the fields of every other register. -/
theorem State.fld_wr_ne (s : State) (a : Nat) (w : Word) (f : Fld) (h : f.addr ≠ a) : (s.wr a w).fld f = s.fld f := by
  simp only [State.fld, State.rd_wr_ne s w h]

@[simp] theorem State.fld_wr_same (s : State) (f : Fld) (w : Word) : (s.wr f.addr w).fld f = getField f.hi f.lo w := by
  simp [State.fld]

/-- A field's value fits its width. -/
theorem State.fld_lt (s : State) (f : Fld) : s.fld f < 2 ^ (f.hi + 1 - f.lo) := getField_lt _ _ _

/-- `on` says that the field is not 0. -/
theorem State.on_iff (s : State) (f : Fld) : s.on f = true ↔ s.fld f ≠ 0 := by simp [State.on]

theorem State.on_setFld_same (s : State) (f : Fld) (v : Nat) (h : f.hi < 32) (hv : v < 2 ^ (f.hi + 1 - f.lo)) :
    (s.setFld f v).on f = decide (v ≠ 0) := by
  simp only [State.on, State.fld_setFld_same s f v h hv]

/-- A count rises by `n` and stops at all ones. -/
theorem State.fld_count_same (s : State) (f : Fld) (n : Nat) (h : f.hi < 32) :
    (s.count f n).fld f = min (2 ^ (f.hi + 1 - f.lo) - 1) (s.fld f + n) := by
  have hp : 0 < 2 ^ (f.hi + 1 - f.lo) := Nat.two_pow_pos _
  rw [State.count, State.fld_setFld_same _ _ _ h]
  · rfl
  · simp only [satAdd, Fld.width]
    omega

theorem State.fld_count_ne (s : State) (f f' : Fld) (n : Nat) (h : f.hi < 32)
    (hd : f'.addr ≠ f.addr ∨ f'.hi < f.lo ∨ f.hi < f'.lo) : (s.count f n).fld f' = s.fld f' :=
  State.fld_setFld_ne s f f' _ h hd

theorem State.rd_count_ne (s : State) (f : Fld) (n : Nat) {b : Nat} (h : b ≠ f.addr) : (s.count f n).rd b = s.rd b :=
  State.rd_setFld_ne s f _ h

/-- An event raised with PD_CTL on and room in the raise FIFO is its newest occurrence; nothing else changes (R405). -/
theorem State.event_room (s : State) (code info : Nat) (hd : s.domOn pdCtl = true) (hr : s.raise.length < 64) :
    s.event code info = { s with raise := s.raise ++ [⟨code, BitVec.ofNat 32 info, s.air⟩] } := by
  simp [State.event, hd, hr]

/-- An event with PD_CTL off changes nothing. -/
theorem State.event_off (s : State) (code info : Nat) (hd : s.domOn pdCtl = false) : s.event code info = s := by
  simp [State.event, hd]

/-- An event that finds the raise FIFO full is counted as lost. -/
theorem State.event_full (s : State) (code info : Nat) (hd : s.domOn pdCtl = true) (hr : 64 ≤ s.raise.length) :
    s.event code info = s.count Fld.EVT_DROP_LOST 1 := by
  simp [State.event, hd, show ¬ s.raise.length < 64 by omega]

/-- An event leaves every register but EVT_DROP. -/
theorem State.rd_event (s : State) (code info : Nat) {a : Nat} (h : a ≠ Fld.EVT_DROP_LOST.addr) :
    (s.event code info).rd a = s.rd a := by
  unfold State.event
  split
  · rfl
  · split
    · rfl
    · exact State.rd_count_ne s _ _ h

end Machine

end Sys2Proof
end

