-- ==== Sys2Proof/Laws/Memory.lean ====
section
/-!
SUPPORT. The operations on the store, the flash and the fuse array: each keeps the canonical form, changes its own range alone, and a
read of that range gives what was put there.
-/

namespace Sys2Proof.Machine

theorem State.memoriesCanonical_iff (s : State) :
    s.memoriesCanonical = true ↔ SMap.wf 0 s.store = true ∧ SMap.wf 0xFF#8 s.flash = true ∧ SMap.wf 0 s.fuses = true := by
  simp [State.memoriesCanonical, and_assoc]

/-- An operation that leaves the three memories as they are keeps their form. -/
theorem State.memoriesCanonical_congr (s t : State) (hs : t.store = s.store) (hf : t.flash = s.flash) (hu : t.fuses = s.fuses) :
    t.memoriesCanonical = s.memoriesCanonical := by
  simp [State.memoriesCanonical, hs, hf, hu]

/-! ### Every operation keeps the canonical form -/

theorem State.putStore_canonical (s : State) (a : Nat) (bs : List Byte) (h : s.memoriesCanonical = true) :
    (s.putStore a bs).memoriesCanonical = true := by
  rw [State.memoriesCanonical_iff] at h ⊢
  exact ⟨SMap.wf_setRange 0 bs s.store a h.1, h.2⟩

theorem State.putFlash_canonical (s : State) (a : Nat) (bs : List Byte) (h : s.memoriesCanonical = true) :
    (s.putFlash a bs).memoriesCanonical = true := by
  rw [State.memoriesCanonical_iff] at h ⊢
  exact ⟨h.1, SMap.wf_setRange 0xFF#8 bs s.flash a h.2.1, h.2.2⟩

theorem State.eraseFlash_canonical (s : State) (a n : Nat) (h : s.memoriesCanonical = true) :
    (s.eraseFlash a n).memoriesCanonical = true := by
  rw [State.memoriesCanonical_iff] at h ⊢
  exact ⟨h.1, SMap.wf_filter 0xFF#8 _ s.flash h.2.1, h.2.2⟩

theorem State.blow_canonical (s : State) (w : Nat) (v : Word) (h : s.memoriesCanonical = true) :
    (s.blow w v).memoriesCanonical = true := by
  rw [State.memoriesCanonical_iff] at h ⊢
  exact ⟨h.1, h.2.1, SMap.wf_set 0 s.fuses w _ h.2.2⟩

theorem State.dropBanks_canonical (s : State) (k : Nat → Bool) (h : s.memoriesCanonical = true) :
    (s.dropBanks k).memoriesCanonical = true := by
  rw [State.memoriesCanonical_iff] at h ⊢
  exact ⟨SMap.wf_filter 0 _ s.store h.1, h.2⟩

theorem State.eccInitBank_canonical (s : State) (k : Nat) (h : s.memoriesCanonical = true) :
    (s.eccInitBank k).memoriesCanonical = true := by
  rw [State.memoriesCanonical_iff] at h ⊢
  exact ⟨SMap.wf_filter 0 _ s.store h.1, h.2⟩

/-! ### Frames and reads -/

theorem State.flashByte_putFlash_out (s : State) (a : Nat) (bs : List Byte) {b : Nat} (h : b < a ∨ a + bs.length ≤ b) :
    SMap.get 0xFF#8 (s.putFlash a bs).flash b = SMap.get 0xFF#8 s.flash b := SMap.get_setRange_out 0xFF#8 bs s.flash h

theorem State.storeBytes_putStore (s : State) (a : Nat) (bs : List Byte) : (s.putStore a bs).storeBytes a bs.length = bs :=
  SMap.getRange_setRange 0 bs s.store a

theorem State.flashBytes_putFlash (s : State) (a : Nat) (bs : List Byte) : (s.putFlash a bs).flashBytes a bs.length = bs :=
  SMap.getRange_setRange 0xFF#8 bs s.flash a

/-- A blown fuse stays blown, and a fuse that is not named stays as it is (R83). -/
theorem State.fuse_blow (s : State) (w j : Nat) (v : Word) : (s.blow w v).fuse j = if j = w then s.fuse w ||| v else s.fuse j := by
  unfold State.blow State.fuse
  exact SMap.get_set 0 s.fuses w j _

end Sys2Proof.Machine
end

