-- ==== Sys2Proof/Laws/State.lean ====
section
/-!
SUPPORT. What each plain update of the state leaves as it was, field by field, and what it gives the field that it changes.
-/

namespace Sys2Proof.Machine

/-! ### State.wr -/

@[simp] theorem State.wr_regs (s : State) (a : Nat) (w : Word) : (s.wr a w).regs = SMap.set (resetWord a) s.regs a w := rfl
@[simp] theorem State.wr_store (s : State) (a : Nat) (w : Word) : (s.wr a w).store = s.store := rfl
@[simp] theorem State.wr_flash (s : State) (a : Nat) (w : Word) : (s.wr a w).flash = s.flash := rfl
@[simp] theorem State.wr_fuses (s : State) (a : Nat) (w : Word) : (s.wr a w).fuses = s.fuses := rfl
@[simp] theorem State.wr_domains (s : State) (a : Nat) (w : Word) : (s.wr a w).domains = s.domains := rfl
@[simp] theorem State.wr_air (s : State) (a : Nat) (w : Word) : (s.wr a w).air = s.air := rfl
@[simp] theorem State.wr_aonTicks (s : State) (a : Nat) (w : Word) : (s.wr a w).aonTicks = s.aonTicks := rfl
@[simp] theorem State.wr_hkSub (s : State) (a : Nat) (w : Word) : (s.wr a w).hkSub = s.hkSub := rfl
@[simp] theorem State.wr_pins (s : State) (a : Nat) (w : Word) : (s.wr a w).pins = s.pins := rfl
@[simp] theorem State.wr_boot (s : State) (a : Nat) (w : Word) : (s.wr a w).boot = s.boot := rfl
@[simp] theorem State.wr_flashOps (s : State) (a : Nat) (w : Word) : (s.wr a w).flashOps = s.flashOps := rfl
@[simp] theorem State.wr_sec (s : State) (a : Nat) (w : Word) : (s.wr a w).sec = s.sec := rfl
@[simp] theorem State.wr_clk (s : State) (a : Nat) (w : Word) : (s.wr a w).clk = s.clk := rfl
@[simp] theorem State.wr_mspi (s : State) (a : Nat) (w : Word) : (s.wr a w).mspi = s.mspi := rfl
@[simp] theorem State.wr_raise (s : State) (a : Nat) (w : Word) : (s.wr a w).raise = s.raise := rfl
@[simp] theorem State.wr_shadows (s : State) (a : Nat) (w : Word) : (s.wr a w).shadows = s.shadows := rfl
@[simp] theorem State.wr_banksOff (s : State) (a : Nat) (w : Word) : (s.wr a w).banksOff = s.banksOff := rfl
@[simp] theorem State.wr_link (s : State) (a : Nat) (w : Word) : (s.wr a w).link = s.link := rfl
@[simp] theorem State.wr_queues (s : State) (a : Nat) (w : Word) : (s.wr a w).queues = s.queues := rfl
@[simp] theorem State.wr_ecc (s : State) (a : Nat) (w : Word) : (s.wr a w).ecc = s.ecc := rfl
@[simp] theorem State.wr_scrubUnc (s : State) (a : Nat) (w : Word) : (s.wr a w).scrubUnc = s.scrubUnc := rfl
@[simp] theorem State.wr_dma (s : State) (a : Nat) (w : Word) : (s.wr a w).dma = s.dma := rfl
@[simp] theorem State.wr_time (s : State) (a : Nat) (w : Word) : (s.wr a w).time = s.time := rfl
@[simp] theorem State.wr_bmb (s : State) (a : Nat) (w : Word) : (s.wr a w).bmb = s.bmb := rfl
@[simp] theorem State.wr_dlc (s : State) (a : Nat) (w : Word) : (s.wr a w).dlc = s.dlc := rfl
@[simp] theorem State.wr_ulc (s : State) (a : Nat) (w : Word) : (s.wr a w).ulc = s.ulc := rfl
@[simp] theorem State.wr_ul (s : State) (a : Nat) (w : Word) : (s.wr a w).ul = s.ul := rfl
@[simp] theorem State.wr_smp (s : State) (a : Nat) (w : Word) : (s.wr a w).smp = s.smp := rfl
@[simp] theorem State.wr_nco (s : State) (a : Nat) (w : Word) : (s.wr a w).nco = s.nco := rfl
@[simp] theorem State.wr_sect (s : State) (a : Nat) (w : Word) : (s.wr a w).sect = s.sect := rfl
@[simp] theorem State.wr_rssi (s : State) (a : Nat) (w : Word) : (s.wr a w).rssi = s.rssi := rfl
@[simp] theorem State.wr_rf (s : State) (a : Nat) (w : Word) : (s.wr a w).rf = s.rf := rfl
@[simp] theorem State.wr_lin (s : State) (a : Nat) (w : Word) : (s.wr a w).lin = s.lin := rfl
@[simp] theorem State.wr_sfd (s : State) (a : Nat) (w : Word) : (s.wr a w).sfd = s.sfd := rfl
@[simp] theorem State.wr_cal (s : State) (a : Nat) (w : Word) : (s.wr a w).cal = s.cal := rfl
@[simp] theorem State.wr_seen (s : State) (a : Nat) (w : Word) : (s.wr a w).seen = s.seen := rfl
@[simp] theorem State.wr_cores (s : State) (a : Nat) (w : Word) : (s.wr a w).cores = s.cores := rfl
@[simp] theorem State.wr_hk (s : State) (a : Nat) (w : Word) : (s.wr a w).hk = s.hk := rfl
@[simp] theorem State.wr_pwr (s : State) (a : Nat) (w : Word) : (s.wr a w).pwr = s.pwr := rfl
@[simp] theorem State.wr_fresh (s : State) (a : Nat) (w : Word) : (s.wr a w).fresh = s.fresh := rfl
@[simp] theorem State.wr_pending (s : State) (a : Nat) (w : Word) : (s.wr a w).pending = s.pending := rfl

/-! ### State.setFld -/

@[simp] theorem State.setFld_store (s : State) (f : Fld) (v : Nat) : (s.setFld f v).store = s.store := rfl
@[simp] theorem State.setFld_flash (s : State) (f : Fld) (v : Nat) : (s.setFld f v).flash = s.flash := rfl
@[simp] theorem State.setFld_fuses (s : State) (f : Fld) (v : Nat) : (s.setFld f v).fuses = s.fuses := rfl
@[simp] theorem State.setFld_domains (s : State) (f : Fld) (v : Nat) : (s.setFld f v).domains = s.domains := rfl
@[simp] theorem State.setFld_air (s : State) (f : Fld) (v : Nat) : (s.setFld f v).air = s.air := rfl
@[simp] theorem State.setFld_aonTicks (s : State) (f : Fld) (v : Nat) : (s.setFld f v).aonTicks = s.aonTicks := rfl
@[simp] theorem State.setFld_hkSub (s : State) (f : Fld) (v : Nat) : (s.setFld f v).hkSub = s.hkSub := rfl
@[simp] theorem State.setFld_pins (s : State) (f : Fld) (v : Nat) : (s.setFld f v).pins = s.pins := rfl
@[simp] theorem State.setFld_boot (s : State) (f : Fld) (v : Nat) : (s.setFld f v).boot = s.boot := rfl
@[simp] theorem State.setFld_flashOps (s : State) (f : Fld) (v : Nat) : (s.setFld f v).flashOps = s.flashOps := rfl
@[simp] theorem State.setFld_sec (s : State) (f : Fld) (v : Nat) : (s.setFld f v).sec = s.sec := rfl
@[simp] theorem State.setFld_clk (s : State) (f : Fld) (v : Nat) : (s.setFld f v).clk = s.clk := rfl
@[simp] theorem State.setFld_mspi (s : State) (f : Fld) (v : Nat) : (s.setFld f v).mspi = s.mspi := rfl
@[simp] theorem State.setFld_raise (s : State) (f : Fld) (v : Nat) : (s.setFld f v).raise = s.raise := rfl
@[simp] theorem State.setFld_shadows (s : State) (f : Fld) (v : Nat) : (s.setFld f v).shadows = s.shadows := rfl
@[simp] theorem State.setFld_banksOff (s : State) (f : Fld) (v : Nat) : (s.setFld f v).banksOff = s.banksOff := rfl
@[simp] theorem State.setFld_link (s : State) (f : Fld) (v : Nat) : (s.setFld f v).link = s.link := rfl
@[simp] theorem State.setFld_queues (s : State) (f : Fld) (v : Nat) : (s.setFld f v).queues = s.queues := rfl
@[simp] theorem State.setFld_ecc (s : State) (f : Fld) (v : Nat) : (s.setFld f v).ecc = s.ecc := rfl
@[simp] theorem State.setFld_scrubUnc (s : State) (f : Fld) (v : Nat) : (s.setFld f v).scrubUnc = s.scrubUnc := rfl
@[simp] theorem State.setFld_dma (s : State) (f : Fld) (v : Nat) : (s.setFld f v).dma = s.dma := rfl
@[simp] theorem State.setFld_time (s : State) (f : Fld) (v : Nat) : (s.setFld f v).time = s.time := rfl
@[simp] theorem State.setFld_bmb (s : State) (f : Fld) (v : Nat) : (s.setFld f v).bmb = s.bmb := rfl
@[simp] theorem State.setFld_dlc (s : State) (f : Fld) (v : Nat) : (s.setFld f v).dlc = s.dlc := rfl
@[simp] theorem State.setFld_ulc (s : State) (f : Fld) (v : Nat) : (s.setFld f v).ulc = s.ulc := rfl
@[simp] theorem State.setFld_ul (s : State) (f : Fld) (v : Nat) : (s.setFld f v).ul = s.ul := rfl
@[simp] theorem State.setFld_smp (s : State) (f : Fld) (v : Nat) : (s.setFld f v).smp = s.smp := rfl
@[simp] theorem State.setFld_nco (s : State) (f : Fld) (v : Nat) : (s.setFld f v).nco = s.nco := rfl
@[simp] theorem State.setFld_sect (s : State) (f : Fld) (v : Nat) : (s.setFld f v).sect = s.sect := rfl
@[simp] theorem State.setFld_rssi (s : State) (f : Fld) (v : Nat) : (s.setFld f v).rssi = s.rssi := rfl
@[simp] theorem State.setFld_rf (s : State) (f : Fld) (v : Nat) : (s.setFld f v).rf = s.rf := rfl
@[simp] theorem State.setFld_lin (s : State) (f : Fld) (v : Nat) : (s.setFld f v).lin = s.lin := rfl
@[simp] theorem State.setFld_sfd (s : State) (f : Fld) (v : Nat) : (s.setFld f v).sfd = s.sfd := rfl
@[simp] theorem State.setFld_cal (s : State) (f : Fld) (v : Nat) : (s.setFld f v).cal = s.cal := rfl
@[simp] theorem State.setFld_seen (s : State) (f : Fld) (v : Nat) : (s.setFld f v).seen = s.seen := rfl
@[simp] theorem State.setFld_cores (s : State) (f : Fld) (v : Nat) : (s.setFld f v).cores = s.cores := rfl
@[simp] theorem State.setFld_hk (s : State) (f : Fld) (v : Nat) : (s.setFld f v).hk = s.hk := rfl
@[simp] theorem State.setFld_pwr (s : State) (f : Fld) (v : Nat) : (s.setFld f v).pwr = s.pwr := rfl
@[simp] theorem State.setFld_fresh (s : State) (f : Fld) (v : Nat) : (s.setFld f v).fresh = s.fresh := rfl
@[simp] theorem State.setFld_pending (s : State) (f : Fld) (v : Nat) : (s.setFld f v).pending = s.pending := rfl

/-! ### State.count -/

@[simp] theorem State.count_store (s : State) (f : Fld) (n : Nat) : (s.count f n).store = s.store := rfl
@[simp] theorem State.count_flash (s : State) (f : Fld) (n : Nat) : (s.count f n).flash = s.flash := rfl
@[simp] theorem State.count_fuses (s : State) (f : Fld) (n : Nat) : (s.count f n).fuses = s.fuses := rfl
@[simp] theorem State.count_domains (s : State) (f : Fld) (n : Nat) : (s.count f n).domains = s.domains := rfl
@[simp] theorem State.count_air (s : State) (f : Fld) (n : Nat) : (s.count f n).air = s.air := rfl
@[simp] theorem State.count_aonTicks (s : State) (f : Fld) (n : Nat) : (s.count f n).aonTicks = s.aonTicks := rfl
@[simp] theorem State.count_hkSub (s : State) (f : Fld) (n : Nat) : (s.count f n).hkSub = s.hkSub := rfl
@[simp] theorem State.count_pins (s : State) (f : Fld) (n : Nat) : (s.count f n).pins = s.pins := rfl
@[simp] theorem State.count_boot (s : State) (f : Fld) (n : Nat) : (s.count f n).boot = s.boot := rfl
@[simp] theorem State.count_flashOps (s : State) (f : Fld) (n : Nat) : (s.count f n).flashOps = s.flashOps := rfl
@[simp] theorem State.count_sec (s : State) (f : Fld) (n : Nat) : (s.count f n).sec = s.sec := rfl
@[simp] theorem State.count_clk (s : State) (f : Fld) (n : Nat) : (s.count f n).clk = s.clk := rfl
@[simp] theorem State.count_mspi (s : State) (f : Fld) (n : Nat) : (s.count f n).mspi = s.mspi := rfl
@[simp] theorem State.count_raise (s : State) (f : Fld) (n : Nat) : (s.count f n).raise = s.raise := rfl
@[simp] theorem State.count_shadows (s : State) (f : Fld) (n : Nat) : (s.count f n).shadows = s.shadows := rfl
@[simp] theorem State.count_banksOff (s : State) (f : Fld) (n : Nat) : (s.count f n).banksOff = s.banksOff := rfl
@[simp] theorem State.count_link (s : State) (f : Fld) (n : Nat) : (s.count f n).link = s.link := rfl
@[simp] theorem State.count_queues (s : State) (f : Fld) (n : Nat) : (s.count f n).queues = s.queues := rfl
@[simp] theorem State.count_ecc (s : State) (f : Fld) (n : Nat) : (s.count f n).ecc = s.ecc := rfl
@[simp] theorem State.count_scrubUnc (s : State) (f : Fld) (n : Nat) : (s.count f n).scrubUnc = s.scrubUnc := rfl
@[simp] theorem State.count_dma (s : State) (f : Fld) (n : Nat) : (s.count f n).dma = s.dma := rfl
@[simp] theorem State.count_time (s : State) (f : Fld) (n : Nat) : (s.count f n).time = s.time := rfl
@[simp] theorem State.count_bmb (s : State) (f : Fld) (n : Nat) : (s.count f n).bmb = s.bmb := rfl
@[simp] theorem State.count_dlc (s : State) (f : Fld) (n : Nat) : (s.count f n).dlc = s.dlc := rfl
@[simp] theorem State.count_ulc (s : State) (f : Fld) (n : Nat) : (s.count f n).ulc = s.ulc := rfl
@[simp] theorem State.count_ul (s : State) (f : Fld) (n : Nat) : (s.count f n).ul = s.ul := rfl
@[simp] theorem State.count_smp (s : State) (f : Fld) (n : Nat) : (s.count f n).smp = s.smp := rfl
@[simp] theorem State.count_nco (s : State) (f : Fld) (n : Nat) : (s.count f n).nco = s.nco := rfl
@[simp] theorem State.count_sect (s : State) (f : Fld) (n : Nat) : (s.count f n).sect = s.sect := rfl
@[simp] theorem State.count_rssi (s : State) (f : Fld) (n : Nat) : (s.count f n).rssi = s.rssi := rfl
@[simp] theorem State.count_rf (s : State) (f : Fld) (n : Nat) : (s.count f n).rf = s.rf := rfl
@[simp] theorem State.count_lin (s : State) (f : Fld) (n : Nat) : (s.count f n).lin = s.lin := rfl
@[simp] theorem State.count_sfd (s : State) (f : Fld) (n : Nat) : (s.count f n).sfd = s.sfd := rfl
@[simp] theorem State.count_cal (s : State) (f : Fld) (n : Nat) : (s.count f n).cal = s.cal := rfl
@[simp] theorem State.count_seen (s : State) (f : Fld) (n : Nat) : (s.count f n).seen = s.seen := rfl
@[simp] theorem State.count_cores (s : State) (f : Fld) (n : Nat) : (s.count f n).cores = s.cores := rfl
@[simp] theorem State.count_hk (s : State) (f : Fld) (n : Nat) : (s.count f n).hk = s.hk := rfl
@[simp] theorem State.count_pwr (s : State) (f : Fld) (n : Nat) : (s.count f n).pwr = s.pwr := rfl
@[simp] theorem State.count_fresh (s : State) (f : Fld) (n : Nat) : (s.count f n).fresh = s.fresh := rfl
@[simp] theorem State.count_pending (s : State) (f : Fld) (n : Nat) : (s.count f n).pending = s.pending := rfl

/-! ### State.countWrap -/

@[simp] theorem State.countWrap_store (s : State) (f : Fld) (n : Nat) : (s.countWrap f n).store = s.store := rfl
@[simp] theorem State.countWrap_flash (s : State) (f : Fld) (n : Nat) : (s.countWrap f n).flash = s.flash := rfl
@[simp] theorem State.countWrap_fuses (s : State) (f : Fld) (n : Nat) : (s.countWrap f n).fuses = s.fuses := rfl
@[simp] theorem State.countWrap_domains (s : State) (f : Fld) (n : Nat) : (s.countWrap f n).domains = s.domains := rfl
@[simp] theorem State.countWrap_air (s : State) (f : Fld) (n : Nat) : (s.countWrap f n).air = s.air := rfl
@[simp] theorem State.countWrap_aonTicks (s : State) (f : Fld) (n : Nat) : (s.countWrap f n).aonTicks = s.aonTicks := rfl
@[simp] theorem State.countWrap_hkSub (s : State) (f : Fld) (n : Nat) : (s.countWrap f n).hkSub = s.hkSub := rfl
@[simp] theorem State.countWrap_pins (s : State) (f : Fld) (n : Nat) : (s.countWrap f n).pins = s.pins := rfl
@[simp] theorem State.countWrap_boot (s : State) (f : Fld) (n : Nat) : (s.countWrap f n).boot = s.boot := rfl
@[simp] theorem State.countWrap_flashOps (s : State) (f : Fld) (n : Nat) : (s.countWrap f n).flashOps = s.flashOps := rfl
@[simp] theorem State.countWrap_sec (s : State) (f : Fld) (n : Nat) : (s.countWrap f n).sec = s.sec := rfl
@[simp] theorem State.countWrap_clk (s : State) (f : Fld) (n : Nat) : (s.countWrap f n).clk = s.clk := rfl
@[simp] theorem State.countWrap_mspi (s : State) (f : Fld) (n : Nat) : (s.countWrap f n).mspi = s.mspi := rfl
@[simp] theorem State.countWrap_raise (s : State) (f : Fld) (n : Nat) : (s.countWrap f n).raise = s.raise := rfl
@[simp] theorem State.countWrap_shadows (s : State) (f : Fld) (n : Nat) : (s.countWrap f n).shadows = s.shadows := rfl
@[simp] theorem State.countWrap_banksOff (s : State) (f : Fld) (n : Nat) : (s.countWrap f n).banksOff = s.banksOff := rfl
@[simp] theorem State.countWrap_link (s : State) (f : Fld) (n : Nat) : (s.countWrap f n).link = s.link := rfl
@[simp] theorem State.countWrap_queues (s : State) (f : Fld) (n : Nat) : (s.countWrap f n).queues = s.queues := rfl
@[simp] theorem State.countWrap_ecc (s : State) (f : Fld) (n : Nat) : (s.countWrap f n).ecc = s.ecc := rfl
@[simp] theorem State.countWrap_scrubUnc (s : State) (f : Fld) (n : Nat) : (s.countWrap f n).scrubUnc = s.scrubUnc := rfl
@[simp] theorem State.countWrap_dma (s : State) (f : Fld) (n : Nat) : (s.countWrap f n).dma = s.dma := rfl
@[simp] theorem State.countWrap_time (s : State) (f : Fld) (n : Nat) : (s.countWrap f n).time = s.time := rfl
@[simp] theorem State.countWrap_bmb (s : State) (f : Fld) (n : Nat) : (s.countWrap f n).bmb = s.bmb := rfl
@[simp] theorem State.countWrap_dlc (s : State) (f : Fld) (n : Nat) : (s.countWrap f n).dlc = s.dlc := rfl
@[simp] theorem State.countWrap_ulc (s : State) (f : Fld) (n : Nat) : (s.countWrap f n).ulc = s.ulc := rfl
@[simp] theorem State.countWrap_ul (s : State) (f : Fld) (n : Nat) : (s.countWrap f n).ul = s.ul := rfl
@[simp] theorem State.countWrap_smp (s : State) (f : Fld) (n : Nat) : (s.countWrap f n).smp = s.smp := rfl
@[simp] theorem State.countWrap_nco (s : State) (f : Fld) (n : Nat) : (s.countWrap f n).nco = s.nco := rfl
@[simp] theorem State.countWrap_sect (s : State) (f : Fld) (n : Nat) : (s.countWrap f n).sect = s.sect := rfl
@[simp] theorem State.countWrap_rssi (s : State) (f : Fld) (n : Nat) : (s.countWrap f n).rssi = s.rssi := rfl
@[simp] theorem State.countWrap_rf (s : State) (f : Fld) (n : Nat) : (s.countWrap f n).rf = s.rf := rfl
@[simp] theorem State.countWrap_lin (s : State) (f : Fld) (n : Nat) : (s.countWrap f n).lin = s.lin := rfl
@[simp] theorem State.countWrap_sfd (s : State) (f : Fld) (n : Nat) : (s.countWrap f n).sfd = s.sfd := rfl
@[simp] theorem State.countWrap_cal (s : State) (f : Fld) (n : Nat) : (s.countWrap f n).cal = s.cal := rfl
@[simp] theorem State.countWrap_seen (s : State) (f : Fld) (n : Nat) : (s.countWrap f n).seen = s.seen := rfl
@[simp] theorem State.countWrap_cores (s : State) (f : Fld) (n : Nat) : (s.countWrap f n).cores = s.cores := rfl
@[simp] theorem State.countWrap_hk (s : State) (f : Fld) (n : Nat) : (s.countWrap f n).hk = s.hk := rfl
@[simp] theorem State.countWrap_pwr (s : State) (f : Fld) (n : Nat) : (s.countWrap f n).pwr = s.pwr := rfl
@[simp] theorem State.countWrap_fresh (s : State) (f : Fld) (n : Nat) : (s.countWrap f n).fresh = s.fresh := rfl
@[simp] theorem State.countWrap_pending (s : State) (f : Fld) (n : Nat) : (s.countWrap f n).pending = s.pending := rfl

/-! ### State.plainWrite -/

@[simp] theorem State.plainWrite_store (s : State) (a : Nat) (d : Word) : (s.plainWrite a d).store = s.store := rfl
@[simp] theorem State.plainWrite_flash (s : State) (a : Nat) (d : Word) : (s.plainWrite a d).flash = s.flash := rfl
@[simp] theorem State.plainWrite_fuses (s : State) (a : Nat) (d : Word) : (s.plainWrite a d).fuses = s.fuses := rfl
@[simp] theorem State.plainWrite_domains (s : State) (a : Nat) (d : Word) : (s.plainWrite a d).domains = s.domains := rfl
@[simp] theorem State.plainWrite_air (s : State) (a : Nat) (d : Word) : (s.plainWrite a d).air = s.air := rfl
@[simp] theorem State.plainWrite_aonTicks (s : State) (a : Nat) (d : Word) : (s.plainWrite a d).aonTicks = s.aonTicks := rfl
@[simp] theorem State.plainWrite_hkSub (s : State) (a : Nat) (d : Word) : (s.plainWrite a d).hkSub = s.hkSub := rfl
@[simp] theorem State.plainWrite_pins (s : State) (a : Nat) (d : Word) : (s.plainWrite a d).pins = s.pins := rfl
@[simp] theorem State.plainWrite_boot (s : State) (a : Nat) (d : Word) : (s.plainWrite a d).boot = s.boot := rfl
@[simp] theorem State.plainWrite_flashOps (s : State) (a : Nat) (d : Word) : (s.plainWrite a d).flashOps = s.flashOps := rfl
@[simp] theorem State.plainWrite_sec (s : State) (a : Nat) (d : Word) : (s.plainWrite a d).sec = s.sec := rfl
@[simp] theorem State.plainWrite_clk (s : State) (a : Nat) (d : Word) : (s.plainWrite a d).clk = s.clk := rfl
@[simp] theorem State.plainWrite_mspi (s : State) (a : Nat) (d : Word) : (s.plainWrite a d).mspi = s.mspi := rfl
@[simp] theorem State.plainWrite_raise (s : State) (a : Nat) (d : Word) : (s.plainWrite a d).raise = s.raise := rfl
@[simp] theorem State.plainWrite_shadows (s : State) (a : Nat) (d : Word) : (s.plainWrite a d).shadows = s.shadows := rfl
@[simp] theorem State.plainWrite_banksOff (s : State) (a : Nat) (d : Word) : (s.plainWrite a d).banksOff = s.banksOff := rfl
@[simp] theorem State.plainWrite_link (s : State) (a : Nat) (d : Word) : (s.plainWrite a d).link = s.link := rfl
@[simp] theorem State.plainWrite_queues (s : State) (a : Nat) (d : Word) : (s.plainWrite a d).queues = s.queues := rfl
@[simp] theorem State.plainWrite_ecc (s : State) (a : Nat) (d : Word) : (s.plainWrite a d).ecc = s.ecc := rfl
@[simp] theorem State.plainWrite_scrubUnc (s : State) (a : Nat) (d : Word) : (s.plainWrite a d).scrubUnc = s.scrubUnc := rfl
@[simp] theorem State.plainWrite_dma (s : State) (a : Nat) (d : Word) : (s.plainWrite a d).dma = s.dma := rfl
@[simp] theorem State.plainWrite_time (s : State) (a : Nat) (d : Word) : (s.plainWrite a d).time = s.time := rfl
@[simp] theorem State.plainWrite_bmb (s : State) (a : Nat) (d : Word) : (s.plainWrite a d).bmb = s.bmb := rfl
@[simp] theorem State.plainWrite_dlc (s : State) (a : Nat) (d : Word) : (s.plainWrite a d).dlc = s.dlc := rfl
@[simp] theorem State.plainWrite_ulc (s : State) (a : Nat) (d : Word) : (s.plainWrite a d).ulc = s.ulc := rfl
@[simp] theorem State.plainWrite_ul (s : State) (a : Nat) (d : Word) : (s.plainWrite a d).ul = s.ul := rfl
@[simp] theorem State.plainWrite_smp (s : State) (a : Nat) (d : Word) : (s.plainWrite a d).smp = s.smp := rfl
@[simp] theorem State.plainWrite_nco (s : State) (a : Nat) (d : Word) : (s.plainWrite a d).nco = s.nco := rfl
@[simp] theorem State.plainWrite_sect (s : State) (a : Nat) (d : Word) : (s.plainWrite a d).sect = s.sect := rfl
@[simp] theorem State.plainWrite_rssi (s : State) (a : Nat) (d : Word) : (s.plainWrite a d).rssi = s.rssi := rfl
@[simp] theorem State.plainWrite_rf (s : State) (a : Nat) (d : Word) : (s.plainWrite a d).rf = s.rf := rfl
@[simp] theorem State.plainWrite_lin (s : State) (a : Nat) (d : Word) : (s.plainWrite a d).lin = s.lin := rfl
@[simp] theorem State.plainWrite_sfd (s : State) (a : Nat) (d : Word) : (s.plainWrite a d).sfd = s.sfd := rfl
@[simp] theorem State.plainWrite_cal (s : State) (a : Nat) (d : Word) : (s.plainWrite a d).cal = s.cal := rfl
@[simp] theorem State.plainWrite_seen (s : State) (a : Nat) (d : Word) : (s.plainWrite a d).seen = s.seen := rfl
@[simp] theorem State.plainWrite_cores (s : State) (a : Nat) (d : Word) : (s.plainWrite a d).cores = s.cores := rfl
@[simp] theorem State.plainWrite_hk (s : State) (a : Nat) (d : Word) : (s.plainWrite a d).hk = s.hk := rfl
@[simp] theorem State.plainWrite_pwr (s : State) (a : Nat) (d : Word) : (s.plainWrite a d).pwr = s.pwr := rfl
@[simp] theorem State.plainWrite_fresh (s : State) (a : Nat) (d : Word) : (s.plainWrite a d).fresh = s.fresh := rfl
@[simp] theorem State.plainWrite_pending (s : State) (a : Nat) (d : Word) : (s.plainWrite a d).pending = s.pending := rfl

/-! ### State.useFresh -/

@[simp] theorem State.useFresh_regs (s : State) : (s.useFresh).regs = s.regs := rfl
@[simp] theorem State.useFresh_store (s : State) : (s.useFresh).store = s.store := rfl
@[simp] theorem State.useFresh_flash (s : State) : (s.useFresh).flash = s.flash := rfl
@[simp] theorem State.useFresh_fuses (s : State) : (s.useFresh).fuses = s.fuses := rfl
@[simp] theorem State.useFresh_domains (s : State) : (s.useFresh).domains = s.domains := rfl
@[simp] theorem State.useFresh_air (s : State) : (s.useFresh).air = s.air := rfl
@[simp] theorem State.useFresh_aonTicks (s : State) : (s.useFresh).aonTicks = s.aonTicks := rfl
@[simp] theorem State.useFresh_hkSub (s : State) : (s.useFresh).hkSub = s.hkSub := rfl
@[simp] theorem State.useFresh_pins (s : State) : (s.useFresh).pins = s.pins := rfl
@[simp] theorem State.useFresh_boot (s : State) : (s.useFresh).boot = s.boot := rfl
@[simp] theorem State.useFresh_flashOps (s : State) : (s.useFresh).flashOps = s.flashOps := rfl
@[simp] theorem State.useFresh_sec (s : State) : (s.useFresh).sec = s.sec := rfl
@[simp] theorem State.useFresh_clk (s : State) : (s.useFresh).clk = s.clk := rfl
@[simp] theorem State.useFresh_mspi (s : State) : (s.useFresh).mspi = s.mspi := rfl
@[simp] theorem State.useFresh_raise (s : State) : (s.useFresh).raise = s.raise := rfl
@[simp] theorem State.useFresh_shadows (s : State) : (s.useFresh).shadows = s.shadows := rfl
@[simp] theorem State.useFresh_banksOff (s : State) : (s.useFresh).banksOff = s.banksOff := rfl
@[simp] theorem State.useFresh_link (s : State) : (s.useFresh).link = s.link := rfl
@[simp] theorem State.useFresh_queues (s : State) : (s.useFresh).queues = s.queues := rfl
@[simp] theorem State.useFresh_ecc (s : State) : (s.useFresh).ecc = s.ecc := rfl
@[simp] theorem State.useFresh_scrubUnc (s : State) : (s.useFresh).scrubUnc = s.scrubUnc := rfl
@[simp] theorem State.useFresh_dma (s : State) : (s.useFresh).dma = s.dma := rfl
@[simp] theorem State.useFresh_time (s : State) : (s.useFresh).time = s.time := rfl
@[simp] theorem State.useFresh_bmb (s : State) : (s.useFresh).bmb = s.bmb := rfl
@[simp] theorem State.useFresh_dlc (s : State) : (s.useFresh).dlc = s.dlc := rfl
@[simp] theorem State.useFresh_ulc (s : State) : (s.useFresh).ulc = s.ulc := rfl
@[simp] theorem State.useFresh_ul (s : State) : (s.useFresh).ul = s.ul := rfl
@[simp] theorem State.useFresh_smp (s : State) : (s.useFresh).smp = s.smp := rfl
@[simp] theorem State.useFresh_nco (s : State) : (s.useFresh).nco = s.nco := rfl
@[simp] theorem State.useFresh_sect (s : State) : (s.useFresh).sect = s.sect := rfl
@[simp] theorem State.useFresh_rssi (s : State) : (s.useFresh).rssi = s.rssi := rfl
@[simp] theorem State.useFresh_rf (s : State) : (s.useFresh).rf = s.rf := rfl
@[simp] theorem State.useFresh_lin (s : State) : (s.useFresh).lin = s.lin := rfl
@[simp] theorem State.useFresh_sfd (s : State) : (s.useFresh).sfd = s.sfd := rfl
@[simp] theorem State.useFresh_cal (s : State) : (s.useFresh).cal = s.cal := rfl
@[simp] theorem State.useFresh_seen (s : State) : (s.useFresh).seen = s.seen := rfl
@[simp] theorem State.useFresh_cores (s : State) : (s.useFresh).cores = s.cores := rfl
@[simp] theorem State.useFresh_hk (s : State) : (s.useFresh).hk = s.hk := rfl
@[simp] theorem State.useFresh_pwr (s : State) : (s.useFresh).pwr = s.pwr := rfl
@[simp] theorem State.useFresh_fresh (s : State) : (s.useFresh).fresh = s.fresh + 1 := rfl
@[simp] theorem State.useFresh_pending (s : State) : (s.useFresh).pending = s.pending := rfl

/-! ### State.switchOn -/

@[simp] theorem State.switchOn_regs (s : State) (k : Nat) : (s.switchOn k).regs = s.regs := rfl
@[simp] theorem State.switchOn_store (s : State) (k : Nat) : (s.switchOn k).store = s.store := rfl
@[simp] theorem State.switchOn_flash (s : State) (k : Nat) : (s.switchOn k).flash = s.flash := rfl
@[simp] theorem State.switchOn_fuses (s : State) (k : Nat) : (s.switchOn k).fuses = s.fuses := rfl
@[simp] theorem State.switchOn_air (s : State) (k : Nat) : (s.switchOn k).air = s.air := rfl
@[simp] theorem State.switchOn_aonTicks (s : State) (k : Nat) : (s.switchOn k).aonTicks = s.aonTicks := rfl
@[simp] theorem State.switchOn_hkSub (s : State) (k : Nat) : (s.switchOn k).hkSub = s.hkSub := rfl
@[simp] theorem State.switchOn_pins (s : State) (k : Nat) : (s.switchOn k).pins = s.pins := rfl
@[simp] theorem State.switchOn_boot (s : State) (k : Nat) : (s.switchOn k).boot = s.boot := rfl
@[simp] theorem State.switchOn_flashOps (s : State) (k : Nat) : (s.switchOn k).flashOps = s.flashOps := rfl
@[simp] theorem State.switchOn_sec (s : State) (k : Nat) : (s.switchOn k).sec = s.sec := rfl
@[simp] theorem State.switchOn_clk (s : State) (k : Nat) : (s.switchOn k).clk = s.clk := rfl
@[simp] theorem State.switchOn_mspi (s : State) (k : Nat) : (s.switchOn k).mspi = s.mspi := rfl
@[simp] theorem State.switchOn_raise (s : State) (k : Nat) : (s.switchOn k).raise = s.raise := rfl
@[simp] theorem State.switchOn_shadows (s : State) (k : Nat) : (s.switchOn k).shadows = s.shadows := rfl
@[simp] theorem State.switchOn_banksOff (s : State) (k : Nat) : (s.switchOn k).banksOff = s.banksOff := rfl
@[simp] theorem State.switchOn_link (s : State) (k : Nat) : (s.switchOn k).link = s.link := rfl
@[simp] theorem State.switchOn_queues (s : State) (k : Nat) : (s.switchOn k).queues = s.queues := rfl
@[simp] theorem State.switchOn_ecc (s : State) (k : Nat) : (s.switchOn k).ecc = s.ecc := rfl
@[simp] theorem State.switchOn_scrubUnc (s : State) (k : Nat) : (s.switchOn k).scrubUnc = s.scrubUnc := rfl
@[simp] theorem State.switchOn_dma (s : State) (k : Nat) : (s.switchOn k).dma = s.dma := rfl
@[simp] theorem State.switchOn_time (s : State) (k : Nat) : (s.switchOn k).time = s.time := rfl
@[simp] theorem State.switchOn_bmb (s : State) (k : Nat) : (s.switchOn k).bmb = s.bmb := rfl
@[simp] theorem State.switchOn_dlc (s : State) (k : Nat) : (s.switchOn k).dlc = s.dlc := rfl
@[simp] theorem State.switchOn_ulc (s : State) (k : Nat) : (s.switchOn k).ulc = s.ulc := rfl
@[simp] theorem State.switchOn_ul (s : State) (k : Nat) : (s.switchOn k).ul = s.ul := rfl
@[simp] theorem State.switchOn_smp (s : State) (k : Nat) : (s.switchOn k).smp = s.smp := rfl
@[simp] theorem State.switchOn_nco (s : State) (k : Nat) : (s.switchOn k).nco = s.nco := rfl
@[simp] theorem State.switchOn_sect (s : State) (k : Nat) : (s.switchOn k).sect = s.sect := rfl
@[simp] theorem State.switchOn_rssi (s : State) (k : Nat) : (s.switchOn k).rssi = s.rssi := rfl
@[simp] theorem State.switchOn_rf (s : State) (k : Nat) : (s.switchOn k).rf = s.rf := rfl
@[simp] theorem State.switchOn_lin (s : State) (k : Nat) : (s.switchOn k).lin = s.lin := rfl
@[simp] theorem State.switchOn_sfd (s : State) (k : Nat) : (s.switchOn k).sfd = s.sfd := rfl
@[simp] theorem State.switchOn_cal (s : State) (k : Nat) : (s.switchOn k).cal = s.cal := rfl
@[simp] theorem State.switchOn_seen (s : State) (k : Nat) : (s.switchOn k).seen = s.seen := rfl
@[simp] theorem State.switchOn_cores (s : State) (k : Nat) : (s.switchOn k).cores = s.cores := rfl
@[simp] theorem State.switchOn_hk (s : State) (k : Nat) : (s.switchOn k).hk = s.hk := rfl
@[simp] theorem State.switchOn_pwr (s : State) (k : Nat) : (s.switchOn k).pwr = s.pwr := rfl
@[simp] theorem State.switchOn_fresh (s : State) (k : Nat) : (s.switchOn k).fresh = s.fresh := rfl
@[simp] theorem State.switchOn_pending (s : State) (k : Nat) : (s.switchOn k).pending = s.pending := rfl

/-! ### State.switchOff -/

@[simp] theorem State.switchOff_regs (s : State) (k : Nat) : (s.switchOff k).regs = s.regs := rfl
@[simp] theorem State.switchOff_store (s : State) (k : Nat) : (s.switchOff k).store = s.store := rfl
@[simp] theorem State.switchOff_flash (s : State) (k : Nat) : (s.switchOff k).flash = s.flash := rfl
@[simp] theorem State.switchOff_fuses (s : State) (k : Nat) : (s.switchOff k).fuses = s.fuses := rfl
@[simp] theorem State.switchOff_domains (s : State) (k : Nat) : (s.switchOff k).domains = s.domains.filter (· != k) := rfl
@[simp] theorem State.switchOff_air (s : State) (k : Nat) : (s.switchOff k).air = s.air := rfl
@[simp] theorem State.switchOff_aonTicks (s : State) (k : Nat) : (s.switchOff k).aonTicks = s.aonTicks := rfl
@[simp] theorem State.switchOff_hkSub (s : State) (k : Nat) : (s.switchOff k).hkSub = s.hkSub := rfl
@[simp] theorem State.switchOff_pins (s : State) (k : Nat) : (s.switchOff k).pins = s.pins := rfl
@[simp] theorem State.switchOff_boot (s : State) (k : Nat) : (s.switchOff k).boot = s.boot := rfl
@[simp] theorem State.switchOff_flashOps (s : State) (k : Nat) : (s.switchOff k).flashOps = s.flashOps := rfl
@[simp] theorem State.switchOff_sec (s : State) (k : Nat) : (s.switchOff k).sec = s.sec := rfl
@[simp] theorem State.switchOff_clk (s : State) (k : Nat) : (s.switchOff k).clk = s.clk := rfl
@[simp] theorem State.switchOff_mspi (s : State) (k : Nat) : (s.switchOff k).mspi = s.mspi := rfl
@[simp] theorem State.switchOff_raise (s : State) (k : Nat) : (s.switchOff k).raise = s.raise := rfl
@[simp] theorem State.switchOff_shadows (s : State) (k : Nat) : (s.switchOff k).shadows = s.shadows := rfl
@[simp] theorem State.switchOff_banksOff (s : State) (k : Nat) : (s.switchOff k).banksOff = s.banksOff := rfl
@[simp] theorem State.switchOff_link (s : State) (k : Nat) : (s.switchOff k).link = s.link := rfl
@[simp] theorem State.switchOff_queues (s : State) (k : Nat) : (s.switchOff k).queues = s.queues := rfl
@[simp] theorem State.switchOff_ecc (s : State) (k : Nat) : (s.switchOff k).ecc = s.ecc := rfl
@[simp] theorem State.switchOff_scrubUnc (s : State) (k : Nat) : (s.switchOff k).scrubUnc = s.scrubUnc := rfl
@[simp] theorem State.switchOff_dma (s : State) (k : Nat) : (s.switchOff k).dma = s.dma := rfl
@[simp] theorem State.switchOff_time (s : State) (k : Nat) : (s.switchOff k).time = s.time := rfl
@[simp] theorem State.switchOff_bmb (s : State) (k : Nat) : (s.switchOff k).bmb = s.bmb := rfl
@[simp] theorem State.switchOff_dlc (s : State) (k : Nat) : (s.switchOff k).dlc = s.dlc := rfl
@[simp] theorem State.switchOff_ulc (s : State) (k : Nat) : (s.switchOff k).ulc = s.ulc := rfl
@[simp] theorem State.switchOff_ul (s : State) (k : Nat) : (s.switchOff k).ul = s.ul := rfl
@[simp] theorem State.switchOff_smp (s : State) (k : Nat) : (s.switchOff k).smp = s.smp := rfl
@[simp] theorem State.switchOff_nco (s : State) (k : Nat) : (s.switchOff k).nco = s.nco := rfl
@[simp] theorem State.switchOff_sect (s : State) (k : Nat) : (s.switchOff k).sect = s.sect := rfl
@[simp] theorem State.switchOff_rssi (s : State) (k : Nat) : (s.switchOff k).rssi = s.rssi := rfl
@[simp] theorem State.switchOff_rf (s : State) (k : Nat) : (s.switchOff k).rf = s.rf := rfl
@[simp] theorem State.switchOff_lin (s : State) (k : Nat) : (s.switchOff k).lin = s.lin := rfl
@[simp] theorem State.switchOff_sfd (s : State) (k : Nat) : (s.switchOff k).sfd = s.sfd := rfl
@[simp] theorem State.switchOff_cal (s : State) (k : Nat) : (s.switchOff k).cal = s.cal := rfl
@[simp] theorem State.switchOff_seen (s : State) (k : Nat) : (s.switchOff k).seen = s.seen := rfl
@[simp] theorem State.switchOff_cores (s : State) (k : Nat) : (s.switchOff k).cores = s.cores := rfl
@[simp] theorem State.switchOff_hk (s : State) (k : Nat) : (s.switchOff k).hk = s.hk := rfl
@[simp] theorem State.switchOff_pwr (s : State) (k : Nat) : (s.switchOff k).pwr = s.pwr := rfl
@[simp] theorem State.switchOff_fresh (s : State) (k : Nat) : (s.switchOff k).fresh = s.fresh := rfl
@[simp] theorem State.switchOff_pending (s : State) (k : Nat) : (s.switchOff k).pending = s.pending := rfl

/-! ### State.putStore -/

@[simp] theorem State.putStore_regs (s : State) (a : Nat) (bs : List Byte) : (s.putStore a bs).regs = s.regs := rfl
@[simp] theorem State.putStore_store (s : State) (a : Nat) (bs : List Byte) : (s.putStore a bs).store = SMap.setRange 0 s.store a bs := rfl
@[simp] theorem State.putStore_flash (s : State) (a : Nat) (bs : List Byte) : (s.putStore a bs).flash = s.flash := rfl
@[simp] theorem State.putStore_fuses (s : State) (a : Nat) (bs : List Byte) : (s.putStore a bs).fuses = s.fuses := rfl
@[simp] theorem State.putStore_domains (s : State) (a : Nat) (bs : List Byte) : (s.putStore a bs).domains = s.domains := rfl
@[simp] theorem State.putStore_air (s : State) (a : Nat) (bs : List Byte) : (s.putStore a bs).air = s.air := rfl
@[simp] theorem State.putStore_aonTicks (s : State) (a : Nat) (bs : List Byte) : (s.putStore a bs).aonTicks = s.aonTicks := rfl
@[simp] theorem State.putStore_hkSub (s : State) (a : Nat) (bs : List Byte) : (s.putStore a bs).hkSub = s.hkSub := rfl
@[simp] theorem State.putStore_pins (s : State) (a : Nat) (bs : List Byte) : (s.putStore a bs).pins = s.pins := rfl
@[simp] theorem State.putStore_boot (s : State) (a : Nat) (bs : List Byte) : (s.putStore a bs).boot = s.boot := rfl
@[simp] theorem State.putStore_flashOps (s : State) (a : Nat) (bs : List Byte) : (s.putStore a bs).flashOps = s.flashOps := rfl
@[simp] theorem State.putStore_sec (s : State) (a : Nat) (bs : List Byte) : (s.putStore a bs).sec = s.sec := rfl
@[simp] theorem State.putStore_clk (s : State) (a : Nat) (bs : List Byte) : (s.putStore a bs).clk = s.clk := rfl
@[simp] theorem State.putStore_mspi (s : State) (a : Nat) (bs : List Byte) : (s.putStore a bs).mspi = s.mspi := rfl
@[simp] theorem State.putStore_raise (s : State) (a : Nat) (bs : List Byte) : (s.putStore a bs).raise = s.raise := rfl
@[simp] theorem State.putStore_shadows (s : State) (a : Nat) (bs : List Byte) : (s.putStore a bs).shadows = s.shadows := rfl
@[simp] theorem State.putStore_banksOff (s : State) (a : Nat) (bs : List Byte) : (s.putStore a bs).banksOff = s.banksOff := rfl
@[simp] theorem State.putStore_link (s : State) (a : Nat) (bs : List Byte) : (s.putStore a bs).link = s.link := rfl
@[simp] theorem State.putStore_queues (s : State) (a : Nat) (bs : List Byte) : (s.putStore a bs).queues = s.queues := rfl
@[simp] theorem State.putStore_ecc (s : State) (a : Nat) (bs : List Byte) : (s.putStore a bs).ecc = s.ecc := rfl
@[simp] theorem State.putStore_scrubUnc (s : State) (a : Nat) (bs : List Byte) : (s.putStore a bs).scrubUnc = s.scrubUnc := rfl
@[simp] theorem State.putStore_dma (s : State) (a : Nat) (bs : List Byte) : (s.putStore a bs).dma = s.dma := rfl
@[simp] theorem State.putStore_time (s : State) (a : Nat) (bs : List Byte) : (s.putStore a bs).time = s.time := rfl
@[simp] theorem State.putStore_bmb (s : State) (a : Nat) (bs : List Byte) : (s.putStore a bs).bmb = s.bmb := rfl
@[simp] theorem State.putStore_dlc (s : State) (a : Nat) (bs : List Byte) : (s.putStore a bs).dlc = s.dlc := rfl
@[simp] theorem State.putStore_ulc (s : State) (a : Nat) (bs : List Byte) : (s.putStore a bs).ulc = s.ulc := rfl
@[simp] theorem State.putStore_ul (s : State) (a : Nat) (bs : List Byte) : (s.putStore a bs).ul = s.ul := rfl
@[simp] theorem State.putStore_smp (s : State) (a : Nat) (bs : List Byte) : (s.putStore a bs).smp = s.smp := rfl
@[simp] theorem State.putStore_nco (s : State) (a : Nat) (bs : List Byte) : (s.putStore a bs).nco = s.nco := rfl
@[simp] theorem State.putStore_sect (s : State) (a : Nat) (bs : List Byte) : (s.putStore a bs).sect = s.sect := rfl
@[simp] theorem State.putStore_rssi (s : State) (a : Nat) (bs : List Byte) : (s.putStore a bs).rssi = s.rssi := rfl
@[simp] theorem State.putStore_rf (s : State) (a : Nat) (bs : List Byte) : (s.putStore a bs).rf = s.rf := rfl
@[simp] theorem State.putStore_lin (s : State) (a : Nat) (bs : List Byte) : (s.putStore a bs).lin = s.lin := rfl
@[simp] theorem State.putStore_sfd (s : State) (a : Nat) (bs : List Byte) : (s.putStore a bs).sfd = s.sfd := rfl
@[simp] theorem State.putStore_cal (s : State) (a : Nat) (bs : List Byte) : (s.putStore a bs).cal = s.cal := rfl
@[simp] theorem State.putStore_seen (s : State) (a : Nat) (bs : List Byte) : (s.putStore a bs).seen = s.seen := rfl
@[simp] theorem State.putStore_cores (s : State) (a : Nat) (bs : List Byte) : (s.putStore a bs).cores = s.cores := rfl
@[simp] theorem State.putStore_hk (s : State) (a : Nat) (bs : List Byte) : (s.putStore a bs).hk = s.hk := rfl
@[simp] theorem State.putStore_pwr (s : State) (a : Nat) (bs : List Byte) : (s.putStore a bs).pwr = s.pwr := rfl
@[simp] theorem State.putStore_fresh (s : State) (a : Nat) (bs : List Byte) : (s.putStore a bs).fresh = s.fresh := rfl
@[simp] theorem State.putStore_pending (s : State) (a : Nat) (bs : List Byte) : (s.putStore a bs).pending = s.pending := rfl

/-! ### State.putFlash -/

@[simp] theorem State.putFlash_regs (s : State) (a : Nat) (bs : List Byte) : (s.putFlash a bs).regs = s.regs := rfl
@[simp] theorem State.putFlash_store (s : State) (a : Nat) (bs : List Byte) : (s.putFlash a bs).store = s.store := rfl
@[simp] theorem State.putFlash_flash (s : State) (a : Nat) (bs : List Byte) : (s.putFlash a bs).flash = SMap.setRange 0xFF#8 s.flash a bs := rfl
@[simp] theorem State.putFlash_fuses (s : State) (a : Nat) (bs : List Byte) : (s.putFlash a bs).fuses = s.fuses := rfl
@[simp] theorem State.putFlash_domains (s : State) (a : Nat) (bs : List Byte) : (s.putFlash a bs).domains = s.domains := rfl
@[simp] theorem State.putFlash_air (s : State) (a : Nat) (bs : List Byte) : (s.putFlash a bs).air = s.air := rfl
@[simp] theorem State.putFlash_aonTicks (s : State) (a : Nat) (bs : List Byte) : (s.putFlash a bs).aonTicks = s.aonTicks := rfl
@[simp] theorem State.putFlash_hkSub (s : State) (a : Nat) (bs : List Byte) : (s.putFlash a bs).hkSub = s.hkSub := rfl
@[simp] theorem State.putFlash_pins (s : State) (a : Nat) (bs : List Byte) : (s.putFlash a bs).pins = s.pins := rfl
@[simp] theorem State.putFlash_boot (s : State) (a : Nat) (bs : List Byte) : (s.putFlash a bs).boot = s.boot := rfl
@[simp] theorem State.putFlash_flashOps (s : State) (a : Nat) (bs : List Byte) : (s.putFlash a bs).flashOps = s.flashOps := rfl
@[simp] theorem State.putFlash_sec (s : State) (a : Nat) (bs : List Byte) : (s.putFlash a bs).sec = s.sec := rfl
@[simp] theorem State.putFlash_clk (s : State) (a : Nat) (bs : List Byte) : (s.putFlash a bs).clk = s.clk := rfl
@[simp] theorem State.putFlash_mspi (s : State) (a : Nat) (bs : List Byte) : (s.putFlash a bs).mspi = s.mspi := rfl
@[simp] theorem State.putFlash_raise (s : State) (a : Nat) (bs : List Byte) : (s.putFlash a bs).raise = s.raise := rfl
@[simp] theorem State.putFlash_shadows (s : State) (a : Nat) (bs : List Byte) : (s.putFlash a bs).shadows = s.shadows := rfl
@[simp] theorem State.putFlash_banksOff (s : State) (a : Nat) (bs : List Byte) : (s.putFlash a bs).banksOff = s.banksOff := rfl
@[simp] theorem State.putFlash_link (s : State) (a : Nat) (bs : List Byte) : (s.putFlash a bs).link = s.link := rfl
@[simp] theorem State.putFlash_queues (s : State) (a : Nat) (bs : List Byte) : (s.putFlash a bs).queues = s.queues := rfl
@[simp] theorem State.putFlash_ecc (s : State) (a : Nat) (bs : List Byte) : (s.putFlash a bs).ecc = s.ecc := rfl
@[simp] theorem State.putFlash_scrubUnc (s : State) (a : Nat) (bs : List Byte) : (s.putFlash a bs).scrubUnc = s.scrubUnc := rfl
@[simp] theorem State.putFlash_dma (s : State) (a : Nat) (bs : List Byte) : (s.putFlash a bs).dma = s.dma := rfl
@[simp] theorem State.putFlash_time (s : State) (a : Nat) (bs : List Byte) : (s.putFlash a bs).time = s.time := rfl
@[simp] theorem State.putFlash_bmb (s : State) (a : Nat) (bs : List Byte) : (s.putFlash a bs).bmb = s.bmb := rfl
@[simp] theorem State.putFlash_dlc (s : State) (a : Nat) (bs : List Byte) : (s.putFlash a bs).dlc = s.dlc := rfl
@[simp] theorem State.putFlash_ulc (s : State) (a : Nat) (bs : List Byte) : (s.putFlash a bs).ulc = s.ulc := rfl
@[simp] theorem State.putFlash_ul (s : State) (a : Nat) (bs : List Byte) : (s.putFlash a bs).ul = s.ul := rfl
@[simp] theorem State.putFlash_smp (s : State) (a : Nat) (bs : List Byte) : (s.putFlash a bs).smp = s.smp := rfl
@[simp] theorem State.putFlash_nco (s : State) (a : Nat) (bs : List Byte) : (s.putFlash a bs).nco = s.nco := rfl
@[simp] theorem State.putFlash_sect (s : State) (a : Nat) (bs : List Byte) : (s.putFlash a bs).sect = s.sect := rfl
@[simp] theorem State.putFlash_rssi (s : State) (a : Nat) (bs : List Byte) : (s.putFlash a bs).rssi = s.rssi := rfl
@[simp] theorem State.putFlash_rf (s : State) (a : Nat) (bs : List Byte) : (s.putFlash a bs).rf = s.rf := rfl
@[simp] theorem State.putFlash_lin (s : State) (a : Nat) (bs : List Byte) : (s.putFlash a bs).lin = s.lin := rfl
@[simp] theorem State.putFlash_sfd (s : State) (a : Nat) (bs : List Byte) : (s.putFlash a bs).sfd = s.sfd := rfl
@[simp] theorem State.putFlash_cal (s : State) (a : Nat) (bs : List Byte) : (s.putFlash a bs).cal = s.cal := rfl
@[simp] theorem State.putFlash_seen (s : State) (a : Nat) (bs : List Byte) : (s.putFlash a bs).seen = s.seen := rfl
@[simp] theorem State.putFlash_cores (s : State) (a : Nat) (bs : List Byte) : (s.putFlash a bs).cores = s.cores := rfl
@[simp] theorem State.putFlash_hk (s : State) (a : Nat) (bs : List Byte) : (s.putFlash a bs).hk = s.hk := rfl
@[simp] theorem State.putFlash_pwr (s : State) (a : Nat) (bs : List Byte) : (s.putFlash a bs).pwr = s.pwr := rfl
@[simp] theorem State.putFlash_fresh (s : State) (a : Nat) (bs : List Byte) : (s.putFlash a bs).fresh = s.fresh := rfl
@[simp] theorem State.putFlash_pending (s : State) (a : Nat) (bs : List Byte) : (s.putFlash a bs).pending = s.pending := rfl

/-! ### State.eraseFlash -/

@[simp] theorem State.eraseFlash_regs (s : State) (a n : Nat) : (s.eraseFlash a n).regs = s.regs := rfl
@[simp] theorem State.eraseFlash_store (s : State) (a n : Nat) : (s.eraseFlash a n).store = s.store := rfl
@[simp] theorem State.eraseFlash_fuses (s : State) (a n : Nat) : (s.eraseFlash a n).fuses = s.fuses := rfl
@[simp] theorem State.eraseFlash_domains (s : State) (a n : Nat) : (s.eraseFlash a n).domains = s.domains := rfl
@[simp] theorem State.eraseFlash_air (s : State) (a n : Nat) : (s.eraseFlash a n).air = s.air := rfl
@[simp] theorem State.eraseFlash_aonTicks (s : State) (a n : Nat) : (s.eraseFlash a n).aonTicks = s.aonTicks := rfl
@[simp] theorem State.eraseFlash_hkSub (s : State) (a n : Nat) : (s.eraseFlash a n).hkSub = s.hkSub := rfl
@[simp] theorem State.eraseFlash_pins (s : State) (a n : Nat) : (s.eraseFlash a n).pins = s.pins := rfl
@[simp] theorem State.eraseFlash_boot (s : State) (a n : Nat) : (s.eraseFlash a n).boot = s.boot := rfl
@[simp] theorem State.eraseFlash_flashOps (s : State) (a n : Nat) : (s.eraseFlash a n).flashOps = s.flashOps := rfl
@[simp] theorem State.eraseFlash_sec (s : State) (a n : Nat) : (s.eraseFlash a n).sec = s.sec := rfl
@[simp] theorem State.eraseFlash_clk (s : State) (a n : Nat) : (s.eraseFlash a n).clk = s.clk := rfl
@[simp] theorem State.eraseFlash_mspi (s : State) (a n : Nat) : (s.eraseFlash a n).mspi = s.mspi := rfl
@[simp] theorem State.eraseFlash_raise (s : State) (a n : Nat) : (s.eraseFlash a n).raise = s.raise := rfl
@[simp] theorem State.eraseFlash_shadows (s : State) (a n : Nat) : (s.eraseFlash a n).shadows = s.shadows := rfl
@[simp] theorem State.eraseFlash_banksOff (s : State) (a n : Nat) : (s.eraseFlash a n).banksOff = s.banksOff := rfl
@[simp] theorem State.eraseFlash_link (s : State) (a n : Nat) : (s.eraseFlash a n).link = s.link := rfl
@[simp] theorem State.eraseFlash_queues (s : State) (a n : Nat) : (s.eraseFlash a n).queues = s.queues := rfl
@[simp] theorem State.eraseFlash_ecc (s : State) (a n : Nat) : (s.eraseFlash a n).ecc = s.ecc := rfl
@[simp] theorem State.eraseFlash_scrubUnc (s : State) (a n : Nat) : (s.eraseFlash a n).scrubUnc = s.scrubUnc := rfl
@[simp] theorem State.eraseFlash_dma (s : State) (a n : Nat) : (s.eraseFlash a n).dma = s.dma := rfl
@[simp] theorem State.eraseFlash_time (s : State) (a n : Nat) : (s.eraseFlash a n).time = s.time := rfl
@[simp] theorem State.eraseFlash_bmb (s : State) (a n : Nat) : (s.eraseFlash a n).bmb = s.bmb := rfl
@[simp] theorem State.eraseFlash_dlc (s : State) (a n : Nat) : (s.eraseFlash a n).dlc = s.dlc := rfl
@[simp] theorem State.eraseFlash_ulc (s : State) (a n : Nat) : (s.eraseFlash a n).ulc = s.ulc := rfl
@[simp] theorem State.eraseFlash_ul (s : State) (a n : Nat) : (s.eraseFlash a n).ul = s.ul := rfl
@[simp] theorem State.eraseFlash_smp (s : State) (a n : Nat) : (s.eraseFlash a n).smp = s.smp := rfl
@[simp] theorem State.eraseFlash_nco (s : State) (a n : Nat) : (s.eraseFlash a n).nco = s.nco := rfl
@[simp] theorem State.eraseFlash_sect (s : State) (a n : Nat) : (s.eraseFlash a n).sect = s.sect := rfl
@[simp] theorem State.eraseFlash_rssi (s : State) (a n : Nat) : (s.eraseFlash a n).rssi = s.rssi := rfl
@[simp] theorem State.eraseFlash_rf (s : State) (a n : Nat) : (s.eraseFlash a n).rf = s.rf := rfl
@[simp] theorem State.eraseFlash_lin (s : State) (a n : Nat) : (s.eraseFlash a n).lin = s.lin := rfl
@[simp] theorem State.eraseFlash_sfd (s : State) (a n : Nat) : (s.eraseFlash a n).sfd = s.sfd := rfl
@[simp] theorem State.eraseFlash_cal (s : State) (a n : Nat) : (s.eraseFlash a n).cal = s.cal := rfl
@[simp] theorem State.eraseFlash_seen (s : State) (a n : Nat) : (s.eraseFlash a n).seen = s.seen := rfl
@[simp] theorem State.eraseFlash_cores (s : State) (a n : Nat) : (s.eraseFlash a n).cores = s.cores := rfl
@[simp] theorem State.eraseFlash_hk (s : State) (a n : Nat) : (s.eraseFlash a n).hk = s.hk := rfl
@[simp] theorem State.eraseFlash_pwr (s : State) (a n : Nat) : (s.eraseFlash a n).pwr = s.pwr := rfl
@[simp] theorem State.eraseFlash_fresh (s : State) (a n : Nat) : (s.eraseFlash a n).fresh = s.fresh := rfl
@[simp] theorem State.eraseFlash_pending (s : State) (a n : Nat) : (s.eraseFlash a n).pending = s.pending := rfl

/-! ### State.blow -/

@[simp] theorem State.blow_regs (s : State) (w : Nat) (v : Word) : (s.blow w v).regs = s.regs := rfl
@[simp] theorem State.blow_store (s : State) (w : Nat) (v : Word) : (s.blow w v).store = s.store := rfl
@[simp] theorem State.blow_flash (s : State) (w : Nat) (v : Word) : (s.blow w v).flash = s.flash := rfl
@[simp] theorem State.blow_fuses (s : State) (w : Nat) (v : Word) : (s.blow w v).fuses = SMap.set 0 s.fuses w (s.fuse w ||| v) := rfl
@[simp] theorem State.blow_domains (s : State) (w : Nat) (v : Word) : (s.blow w v).domains = s.domains := rfl
@[simp] theorem State.blow_air (s : State) (w : Nat) (v : Word) : (s.blow w v).air = s.air := rfl
@[simp] theorem State.blow_aonTicks (s : State) (w : Nat) (v : Word) : (s.blow w v).aonTicks = s.aonTicks := rfl
@[simp] theorem State.blow_hkSub (s : State) (w : Nat) (v : Word) : (s.blow w v).hkSub = s.hkSub := rfl
@[simp] theorem State.blow_pins (s : State) (w : Nat) (v : Word) : (s.blow w v).pins = s.pins := rfl
@[simp] theorem State.blow_boot (s : State) (w : Nat) (v : Word) : (s.blow w v).boot = s.boot := rfl
@[simp] theorem State.blow_flashOps (s : State) (w : Nat) (v : Word) : (s.blow w v).flashOps = s.flashOps := rfl
@[simp] theorem State.blow_sec (s : State) (w : Nat) (v : Word) : (s.blow w v).sec = s.sec := rfl
@[simp] theorem State.blow_clk (s : State) (w : Nat) (v : Word) : (s.blow w v).clk = s.clk := rfl
@[simp] theorem State.blow_mspi (s : State) (w : Nat) (v : Word) : (s.blow w v).mspi = s.mspi := rfl
@[simp] theorem State.blow_raise (s : State) (w : Nat) (v : Word) : (s.blow w v).raise = s.raise := rfl
@[simp] theorem State.blow_shadows (s : State) (w : Nat) (v : Word) : (s.blow w v).shadows = s.shadows := rfl
@[simp] theorem State.blow_banksOff (s : State) (w : Nat) (v : Word) : (s.blow w v).banksOff = s.banksOff := rfl
@[simp] theorem State.blow_link (s : State) (w : Nat) (v : Word) : (s.blow w v).link = s.link := rfl
@[simp] theorem State.blow_queues (s : State) (w : Nat) (v : Word) : (s.blow w v).queues = s.queues := rfl
@[simp] theorem State.blow_ecc (s : State) (w : Nat) (v : Word) : (s.blow w v).ecc = s.ecc := rfl
@[simp] theorem State.blow_scrubUnc (s : State) (w : Nat) (v : Word) : (s.blow w v).scrubUnc = s.scrubUnc := rfl
@[simp] theorem State.blow_dma (s : State) (w : Nat) (v : Word) : (s.blow w v).dma = s.dma := rfl
@[simp] theorem State.blow_time (s : State) (w : Nat) (v : Word) : (s.blow w v).time = s.time := rfl
@[simp] theorem State.blow_bmb (s : State) (w : Nat) (v : Word) : (s.blow w v).bmb = s.bmb := rfl
@[simp] theorem State.blow_dlc (s : State) (w : Nat) (v : Word) : (s.blow w v).dlc = s.dlc := rfl
@[simp] theorem State.blow_ulc (s : State) (w : Nat) (v : Word) : (s.blow w v).ulc = s.ulc := rfl
@[simp] theorem State.blow_ul (s : State) (w : Nat) (v : Word) : (s.blow w v).ul = s.ul := rfl
@[simp] theorem State.blow_smp (s : State) (w : Nat) (v : Word) : (s.blow w v).smp = s.smp := rfl
@[simp] theorem State.blow_nco (s : State) (w : Nat) (v : Word) : (s.blow w v).nco = s.nco := rfl
@[simp] theorem State.blow_sect (s : State) (w : Nat) (v : Word) : (s.blow w v).sect = s.sect := rfl
@[simp] theorem State.blow_rssi (s : State) (w : Nat) (v : Word) : (s.blow w v).rssi = s.rssi := rfl
@[simp] theorem State.blow_rf (s : State) (w : Nat) (v : Word) : (s.blow w v).rf = s.rf := rfl
@[simp] theorem State.blow_lin (s : State) (w : Nat) (v : Word) : (s.blow w v).lin = s.lin := rfl
@[simp] theorem State.blow_sfd (s : State) (w : Nat) (v : Word) : (s.blow w v).sfd = s.sfd := rfl
@[simp] theorem State.blow_cal (s : State) (w : Nat) (v : Word) : (s.blow w v).cal = s.cal := rfl
@[simp] theorem State.blow_seen (s : State) (w : Nat) (v : Word) : (s.blow w v).seen = s.seen := rfl
@[simp] theorem State.blow_cores (s : State) (w : Nat) (v : Word) : (s.blow w v).cores = s.cores := rfl
@[simp] theorem State.blow_hk (s : State) (w : Nat) (v : Word) : (s.blow w v).hk = s.hk := rfl
@[simp] theorem State.blow_pwr (s : State) (w : Nat) (v : Word) : (s.blow w v).pwr = s.pwr := rfl
@[simp] theorem State.blow_fresh (s : State) (w : Nat) (v : Word) : (s.blow w v).fresh = s.fresh := rfl
@[simp] theorem State.blow_pending (s : State) (w : Nat) (v : Word) : (s.blow w v).pending = s.pending := rfl

/-! ### State.setEcc -/

@[simp] theorem State.setEcc_regs (s : State) (w v : Nat) : (s.setEcc w v).regs = s.regs := rfl
@[simp] theorem State.setEcc_store (s : State) (w v : Nat) : (s.setEcc w v).store = s.store := rfl
@[simp] theorem State.setEcc_flash (s : State) (w v : Nat) : (s.setEcc w v).flash = s.flash := rfl
@[simp] theorem State.setEcc_fuses (s : State) (w v : Nat) : (s.setEcc w v).fuses = s.fuses := rfl
@[simp] theorem State.setEcc_domains (s : State) (w v : Nat) : (s.setEcc w v).domains = s.domains := rfl
@[simp] theorem State.setEcc_air (s : State) (w v : Nat) : (s.setEcc w v).air = s.air := rfl
@[simp] theorem State.setEcc_aonTicks (s : State) (w v : Nat) : (s.setEcc w v).aonTicks = s.aonTicks := rfl
@[simp] theorem State.setEcc_hkSub (s : State) (w v : Nat) : (s.setEcc w v).hkSub = s.hkSub := rfl
@[simp] theorem State.setEcc_pins (s : State) (w v : Nat) : (s.setEcc w v).pins = s.pins := rfl
@[simp] theorem State.setEcc_boot (s : State) (w v : Nat) : (s.setEcc w v).boot = s.boot := rfl
@[simp] theorem State.setEcc_flashOps (s : State) (w v : Nat) : (s.setEcc w v).flashOps = s.flashOps := rfl
@[simp] theorem State.setEcc_sec (s : State) (w v : Nat) : (s.setEcc w v).sec = s.sec := rfl
@[simp] theorem State.setEcc_clk (s : State) (w v : Nat) : (s.setEcc w v).clk = s.clk := rfl
@[simp] theorem State.setEcc_mspi (s : State) (w v : Nat) : (s.setEcc w v).mspi = s.mspi := rfl
@[simp] theorem State.setEcc_raise (s : State) (w v : Nat) : (s.setEcc w v).raise = s.raise := rfl
@[simp] theorem State.setEcc_shadows (s : State) (w v : Nat) : (s.setEcc w v).shadows = s.shadows := rfl
@[simp] theorem State.setEcc_banksOff (s : State) (w v : Nat) : (s.setEcc w v).banksOff = s.banksOff := rfl
@[simp] theorem State.setEcc_link (s : State) (w v : Nat) : (s.setEcc w v).link = s.link := rfl
@[simp] theorem State.setEcc_queues (s : State) (w v : Nat) : (s.setEcc w v).queues = s.queues := rfl
@[simp] theorem State.setEcc_ecc (s : State) (w v : Nat) : (s.setEcc w v).ecc = SMap.set 0 s.ecc w v := rfl
@[simp] theorem State.setEcc_scrubUnc (s : State) (w v : Nat) : (s.setEcc w v).scrubUnc = s.scrubUnc := rfl
@[simp] theorem State.setEcc_dma (s : State) (w v : Nat) : (s.setEcc w v).dma = s.dma := rfl
@[simp] theorem State.setEcc_time (s : State) (w v : Nat) : (s.setEcc w v).time = s.time := rfl
@[simp] theorem State.setEcc_bmb (s : State) (w v : Nat) : (s.setEcc w v).bmb = s.bmb := rfl
@[simp] theorem State.setEcc_dlc (s : State) (w v : Nat) : (s.setEcc w v).dlc = s.dlc := rfl
@[simp] theorem State.setEcc_ulc (s : State) (w v : Nat) : (s.setEcc w v).ulc = s.ulc := rfl
@[simp] theorem State.setEcc_ul (s : State) (w v : Nat) : (s.setEcc w v).ul = s.ul := rfl
@[simp] theorem State.setEcc_smp (s : State) (w v : Nat) : (s.setEcc w v).smp = s.smp := rfl
@[simp] theorem State.setEcc_nco (s : State) (w v : Nat) : (s.setEcc w v).nco = s.nco := rfl
@[simp] theorem State.setEcc_sect (s : State) (w v : Nat) : (s.setEcc w v).sect = s.sect := rfl
@[simp] theorem State.setEcc_rssi (s : State) (w v : Nat) : (s.setEcc w v).rssi = s.rssi := rfl
@[simp] theorem State.setEcc_rf (s : State) (w v : Nat) : (s.setEcc w v).rf = s.rf := rfl
@[simp] theorem State.setEcc_lin (s : State) (w v : Nat) : (s.setEcc w v).lin = s.lin := rfl
@[simp] theorem State.setEcc_sfd (s : State) (w v : Nat) : (s.setEcc w v).sfd = s.sfd := rfl
@[simp] theorem State.setEcc_cal (s : State) (w v : Nat) : (s.setEcc w v).cal = s.cal := rfl
@[simp] theorem State.setEcc_seen (s : State) (w v : Nat) : (s.setEcc w v).seen = s.seen := rfl
@[simp] theorem State.setEcc_cores (s : State) (w v : Nat) : (s.setEcc w v).cores = s.cores := rfl
@[simp] theorem State.setEcc_hk (s : State) (w v : Nat) : (s.setEcc w v).hk = s.hk := rfl
@[simp] theorem State.setEcc_pwr (s : State) (w v : Nat) : (s.setEcc w v).pwr = s.pwr := rfl
@[simp] theorem State.setEcc_fresh (s : State) (w v : Nat) : (s.setEcc w v).fresh = s.fresh := rfl
@[simp] theorem State.setEcc_pending (s : State) (w v : Nat) : (s.setEcc w v).pending = s.pending := rfl

/-! ### State.setQueue -/

@[simp] theorem State.setQueue_regs (s : State) (n : Nat) (q : QueueState) : (s.setQueue n q).regs = s.regs := rfl
@[simp] theorem State.setQueue_store (s : State) (n : Nat) (q : QueueState) : (s.setQueue n q).store = s.store := rfl
@[simp] theorem State.setQueue_flash (s : State) (n : Nat) (q : QueueState) : (s.setQueue n q).flash = s.flash := rfl
@[simp] theorem State.setQueue_fuses (s : State) (n : Nat) (q : QueueState) : (s.setQueue n q).fuses = s.fuses := rfl
@[simp] theorem State.setQueue_domains (s : State) (n : Nat) (q : QueueState) : (s.setQueue n q).domains = s.domains := rfl
@[simp] theorem State.setQueue_air (s : State) (n : Nat) (q : QueueState) : (s.setQueue n q).air = s.air := rfl
@[simp] theorem State.setQueue_aonTicks (s : State) (n : Nat) (q : QueueState) : (s.setQueue n q).aonTicks = s.aonTicks := rfl
@[simp] theorem State.setQueue_hkSub (s : State) (n : Nat) (q : QueueState) : (s.setQueue n q).hkSub = s.hkSub := rfl
@[simp] theorem State.setQueue_pins (s : State) (n : Nat) (q : QueueState) : (s.setQueue n q).pins = s.pins := rfl
@[simp] theorem State.setQueue_boot (s : State) (n : Nat) (q : QueueState) : (s.setQueue n q).boot = s.boot := rfl
@[simp] theorem State.setQueue_flashOps (s : State) (n : Nat) (q : QueueState) : (s.setQueue n q).flashOps = s.flashOps := rfl
@[simp] theorem State.setQueue_sec (s : State) (n : Nat) (q : QueueState) : (s.setQueue n q).sec = s.sec := rfl
@[simp] theorem State.setQueue_clk (s : State) (n : Nat) (q : QueueState) : (s.setQueue n q).clk = s.clk := rfl
@[simp] theorem State.setQueue_mspi (s : State) (n : Nat) (q : QueueState) : (s.setQueue n q).mspi = s.mspi := rfl
@[simp] theorem State.setQueue_raise (s : State) (n : Nat) (q : QueueState) : (s.setQueue n q).raise = s.raise := rfl
@[simp] theorem State.setQueue_shadows (s : State) (n : Nat) (q : QueueState) : (s.setQueue n q).shadows = s.shadows := rfl
@[simp] theorem State.setQueue_banksOff (s : State) (n : Nat) (q : QueueState) : (s.setQueue n q).banksOff = s.banksOff := rfl
@[simp] theorem State.setQueue_link (s : State) (n : Nat) (q : QueueState) : (s.setQueue n q).link = s.link := rfl
@[simp] theorem State.setQueue_queues (s : State) (n : Nat) (q : QueueState) : (s.setQueue n q).queues = SMap.set QueueState.empty s.queues n q := rfl
@[simp] theorem State.setQueue_ecc (s : State) (n : Nat) (q : QueueState) : (s.setQueue n q).ecc = s.ecc := rfl
@[simp] theorem State.setQueue_scrubUnc (s : State) (n : Nat) (q : QueueState) : (s.setQueue n q).scrubUnc = s.scrubUnc := rfl
@[simp] theorem State.setQueue_dma (s : State) (n : Nat) (q : QueueState) : (s.setQueue n q).dma = s.dma := rfl
@[simp] theorem State.setQueue_time (s : State) (n : Nat) (q : QueueState) : (s.setQueue n q).time = s.time := rfl
@[simp] theorem State.setQueue_bmb (s : State) (n : Nat) (q : QueueState) : (s.setQueue n q).bmb = s.bmb := rfl
@[simp] theorem State.setQueue_dlc (s : State) (n : Nat) (q : QueueState) : (s.setQueue n q).dlc = s.dlc := rfl
@[simp] theorem State.setQueue_ulc (s : State) (n : Nat) (q : QueueState) : (s.setQueue n q).ulc = s.ulc := rfl
@[simp] theorem State.setQueue_ul (s : State) (n : Nat) (q : QueueState) : (s.setQueue n q).ul = s.ul := rfl
@[simp] theorem State.setQueue_smp (s : State) (n : Nat) (q : QueueState) : (s.setQueue n q).smp = s.smp := rfl
@[simp] theorem State.setQueue_nco (s : State) (n : Nat) (q : QueueState) : (s.setQueue n q).nco = s.nco := rfl
@[simp] theorem State.setQueue_sect (s : State) (n : Nat) (q : QueueState) : (s.setQueue n q).sect = s.sect := rfl
@[simp] theorem State.setQueue_rssi (s : State) (n : Nat) (q : QueueState) : (s.setQueue n q).rssi = s.rssi := rfl
@[simp] theorem State.setQueue_rf (s : State) (n : Nat) (q : QueueState) : (s.setQueue n q).rf = s.rf := rfl
@[simp] theorem State.setQueue_lin (s : State) (n : Nat) (q : QueueState) : (s.setQueue n q).lin = s.lin := rfl
@[simp] theorem State.setQueue_sfd (s : State) (n : Nat) (q : QueueState) : (s.setQueue n q).sfd = s.sfd := rfl
@[simp] theorem State.setQueue_cal (s : State) (n : Nat) (q : QueueState) : (s.setQueue n q).cal = s.cal := rfl
@[simp] theorem State.setQueue_seen (s : State) (n : Nat) (q : QueueState) : (s.setQueue n q).seen = s.seen := rfl
@[simp] theorem State.setQueue_cores (s : State) (n : Nat) (q : QueueState) : (s.setQueue n q).cores = s.cores := rfl
@[simp] theorem State.setQueue_hk (s : State) (n : Nat) (q : QueueState) : (s.setQueue n q).hk = s.hk := rfl
@[simp] theorem State.setQueue_pwr (s : State) (n : Nat) (q : QueueState) : (s.setQueue n q).pwr = s.pwr := rfl
@[simp] theorem State.setQueue_fresh (s : State) (n : Nat) (q : QueueState) : (s.setQueue n q).fresh = s.fresh := rfl
@[simp] theorem State.setQueue_pending (s : State) (n : Nat) (q : QueueState) : (s.setQueue n q).pending = s.pending := rfl

/-! ### State.setChan -/

@[simp] theorem State.setChan_regs (s : State) (n : Nat) (c : DmaState) : (s.setChan n c).regs = s.regs := rfl
@[simp] theorem State.setChan_store (s : State) (n : Nat) (c : DmaState) : (s.setChan n c).store = s.store := rfl
@[simp] theorem State.setChan_flash (s : State) (n : Nat) (c : DmaState) : (s.setChan n c).flash = s.flash := rfl
@[simp] theorem State.setChan_fuses (s : State) (n : Nat) (c : DmaState) : (s.setChan n c).fuses = s.fuses := rfl
@[simp] theorem State.setChan_domains (s : State) (n : Nat) (c : DmaState) : (s.setChan n c).domains = s.domains := rfl
@[simp] theorem State.setChan_air (s : State) (n : Nat) (c : DmaState) : (s.setChan n c).air = s.air := rfl
@[simp] theorem State.setChan_aonTicks (s : State) (n : Nat) (c : DmaState) : (s.setChan n c).aonTicks = s.aonTicks := rfl
@[simp] theorem State.setChan_hkSub (s : State) (n : Nat) (c : DmaState) : (s.setChan n c).hkSub = s.hkSub := rfl
@[simp] theorem State.setChan_pins (s : State) (n : Nat) (c : DmaState) : (s.setChan n c).pins = s.pins := rfl
@[simp] theorem State.setChan_boot (s : State) (n : Nat) (c : DmaState) : (s.setChan n c).boot = s.boot := rfl
@[simp] theorem State.setChan_flashOps (s : State) (n : Nat) (c : DmaState) : (s.setChan n c).flashOps = s.flashOps := rfl
@[simp] theorem State.setChan_sec (s : State) (n : Nat) (c : DmaState) : (s.setChan n c).sec = s.sec := rfl
@[simp] theorem State.setChan_clk (s : State) (n : Nat) (c : DmaState) : (s.setChan n c).clk = s.clk := rfl
@[simp] theorem State.setChan_mspi (s : State) (n : Nat) (c : DmaState) : (s.setChan n c).mspi = s.mspi := rfl
@[simp] theorem State.setChan_raise (s : State) (n : Nat) (c : DmaState) : (s.setChan n c).raise = s.raise := rfl
@[simp] theorem State.setChan_shadows (s : State) (n : Nat) (c : DmaState) : (s.setChan n c).shadows = s.shadows := rfl
@[simp] theorem State.setChan_banksOff (s : State) (n : Nat) (c : DmaState) : (s.setChan n c).banksOff = s.banksOff := rfl
@[simp] theorem State.setChan_link (s : State) (n : Nat) (c : DmaState) : (s.setChan n c).link = s.link := rfl
@[simp] theorem State.setChan_queues (s : State) (n : Nat) (c : DmaState) : (s.setChan n c).queues = s.queues := rfl
@[simp] theorem State.setChan_ecc (s : State) (n : Nat) (c : DmaState) : (s.setChan n c).ecc = s.ecc := rfl
@[simp] theorem State.setChan_scrubUnc (s : State) (n : Nat) (c : DmaState) : (s.setChan n c).scrubUnc = s.scrubUnc := rfl
@[simp] theorem State.setChan_dma (s : State) (n : Nat) (c : DmaState) : (s.setChan n c).dma = SMap.set DmaState.idle s.dma n c := rfl
@[simp] theorem State.setChan_time (s : State) (n : Nat) (c : DmaState) : (s.setChan n c).time = s.time := rfl
@[simp] theorem State.setChan_bmb (s : State) (n : Nat) (c : DmaState) : (s.setChan n c).bmb = s.bmb := rfl
@[simp] theorem State.setChan_dlc (s : State) (n : Nat) (c : DmaState) : (s.setChan n c).dlc = s.dlc := rfl
@[simp] theorem State.setChan_ulc (s : State) (n : Nat) (c : DmaState) : (s.setChan n c).ulc = s.ulc := rfl
@[simp] theorem State.setChan_ul (s : State) (n : Nat) (c : DmaState) : (s.setChan n c).ul = s.ul := rfl
@[simp] theorem State.setChan_smp (s : State) (n : Nat) (c : DmaState) : (s.setChan n c).smp = s.smp := rfl
@[simp] theorem State.setChan_nco (s : State) (n : Nat) (c : DmaState) : (s.setChan n c).nco = s.nco := rfl
@[simp] theorem State.setChan_sect (s : State) (n : Nat) (c : DmaState) : (s.setChan n c).sect = s.sect := rfl
@[simp] theorem State.setChan_rssi (s : State) (n : Nat) (c : DmaState) : (s.setChan n c).rssi = s.rssi := rfl
@[simp] theorem State.setChan_rf (s : State) (n : Nat) (c : DmaState) : (s.setChan n c).rf = s.rf := rfl
@[simp] theorem State.setChan_lin (s : State) (n : Nat) (c : DmaState) : (s.setChan n c).lin = s.lin := rfl
@[simp] theorem State.setChan_sfd (s : State) (n : Nat) (c : DmaState) : (s.setChan n c).sfd = s.sfd := rfl
@[simp] theorem State.setChan_cal (s : State) (n : Nat) (c : DmaState) : (s.setChan n c).cal = s.cal := rfl
@[simp] theorem State.setChan_seen (s : State) (n : Nat) (c : DmaState) : (s.setChan n c).seen = s.seen := rfl
@[simp] theorem State.setChan_cores (s : State) (n : Nat) (c : DmaState) : (s.setChan n c).cores = s.cores := rfl
@[simp] theorem State.setChan_hk (s : State) (n : Nat) (c : DmaState) : (s.setChan n c).hk = s.hk := rfl
@[simp] theorem State.setChan_pwr (s : State) (n : Nat) (c : DmaState) : (s.setChan n c).pwr = s.pwr := rfl
@[simp] theorem State.setChan_fresh (s : State) (n : Nat) (c : DmaState) : (s.setChan n c).fresh = s.fresh := rfl
@[simp] theorem State.setChan_pending (s : State) (n : Nat) (c : DmaState) : (s.setChan n c).pending = s.pending := rfl

/-! ### State.setSynth -/

@[simp] theorem State.setSynth_regs (s : State) (g x : Nat) (y : Synth) : (s.setSynth g x y).regs = s.regs := rfl
@[simp] theorem State.setSynth_store (s : State) (g x : Nat) (y : Synth) : (s.setSynth g x y).store = s.store := rfl
@[simp] theorem State.setSynth_flash (s : State) (g x : Nat) (y : Synth) : (s.setSynth g x y).flash = s.flash := rfl
@[simp] theorem State.setSynth_fuses (s : State) (g x : Nat) (y : Synth) : (s.setSynth g x y).fuses = s.fuses := rfl
@[simp] theorem State.setSynth_domains (s : State) (g x : Nat) (y : Synth) : (s.setSynth g x y).domains = s.domains := rfl
@[simp] theorem State.setSynth_air (s : State) (g x : Nat) (y : Synth) : (s.setSynth g x y).air = s.air := rfl
@[simp] theorem State.setSynth_aonTicks (s : State) (g x : Nat) (y : Synth) : (s.setSynth g x y).aonTicks = s.aonTicks := rfl
@[simp] theorem State.setSynth_hkSub (s : State) (g x : Nat) (y : Synth) : (s.setSynth g x y).hkSub = s.hkSub := rfl
@[simp] theorem State.setSynth_pins (s : State) (g x : Nat) (y : Synth) : (s.setSynth g x y).pins = s.pins := rfl
@[simp] theorem State.setSynth_boot (s : State) (g x : Nat) (y : Synth) : (s.setSynth g x y).boot = s.boot := rfl
@[simp] theorem State.setSynth_flashOps (s : State) (g x : Nat) (y : Synth) : (s.setSynth g x y).flashOps = s.flashOps := rfl
@[simp] theorem State.setSynth_sec (s : State) (g x : Nat) (y : Synth) : (s.setSynth g x y).sec = s.sec := rfl
@[simp] theorem State.setSynth_clk (s : State) (g x : Nat) (y : Synth) : (s.setSynth g x y).clk = s.clk := rfl
@[simp] theorem State.setSynth_mspi (s : State) (g x : Nat) (y : Synth) : (s.setSynth g x y).mspi = s.mspi := rfl
@[simp] theorem State.setSynth_raise (s : State) (g x : Nat) (y : Synth) : (s.setSynth g x y).raise = s.raise := rfl
@[simp] theorem State.setSynth_shadows (s : State) (g x : Nat) (y : Synth) : (s.setSynth g x y).shadows = s.shadows := rfl
@[simp] theorem State.setSynth_banksOff (s : State) (g x : Nat) (y : Synth) : (s.setSynth g x y).banksOff = s.banksOff := rfl
@[simp] theorem State.setSynth_link (s : State) (g x : Nat) (y : Synth) : (s.setSynth g x y).link = s.link := rfl
@[simp] theorem State.setSynth_queues (s : State) (g x : Nat) (y : Synth) : (s.setSynth g x y).queues = s.queues := rfl
@[simp] theorem State.setSynth_ecc (s : State) (g x : Nat) (y : Synth) : (s.setSynth g x y).ecc = s.ecc := rfl
@[simp] theorem State.setSynth_scrubUnc (s : State) (g x : Nat) (y : Synth) : (s.setSynth g x y).scrubUnc = s.scrubUnc := rfl
@[simp] theorem State.setSynth_dma (s : State) (g x : Nat) (y : Synth) : (s.setSynth g x y).dma = s.dma := rfl
@[simp] theorem State.setSynth_time (s : State) (g x : Nat) (y : Synth) : (s.setSynth g x y).time = s.time := rfl
@[simp] theorem State.setSynth_bmb (s : State) (g x : Nat) (y : Synth) : (s.setSynth g x y).bmb = s.bmb := rfl
@[simp] theorem State.setSynth_dlc (s : State) (g x : Nat) (y : Synth) : (s.setSynth g x y).dlc = s.dlc := rfl
@[simp] theorem State.setSynth_ulc (s : State) (g x : Nat) (y : Synth) : (s.setSynth g x y).ulc = s.ulc := rfl
@[simp] theorem State.setSynth_ul (s : State) (g x : Nat) (y : Synth) : (s.setSynth g x y).ul = s.ul := rfl
@[simp] theorem State.setSynth_smp (s : State) (g x : Nat) (y : Synth) : (s.setSynth g x y).smp = s.smp := rfl
@[simp] theorem State.setSynth_nco (s : State) (g x : Nat) (y : Synth) : (s.setSynth g x y).nco = s.nco := rfl
@[simp] theorem State.setSynth_sect (s : State) (g x : Nat) (y : Synth) : (s.setSynth g x y).sect = s.sect := rfl
@[simp] theorem State.setSynth_rssi (s : State) (g x : Nat) (y : Synth) : (s.setSynth g x y).rssi = s.rssi := rfl
@[simp] theorem State.setSynth_lin (s : State) (g x : Nat) (y : Synth) : (s.setSynth g x y).lin = s.lin := rfl
@[simp] theorem State.setSynth_sfd (s : State) (g x : Nat) (y : Synth) : (s.setSynth g x y).sfd = s.sfd := rfl
@[simp] theorem State.setSynth_cal (s : State) (g x : Nat) (y : Synth) : (s.setSynth g x y).cal = s.cal := rfl
@[simp] theorem State.setSynth_seen (s : State) (g x : Nat) (y : Synth) : (s.setSynth g x y).seen = s.seen := rfl
@[simp] theorem State.setSynth_cores (s : State) (g x : Nat) (y : Synth) : (s.setSynth g x y).cores = s.cores := rfl
@[simp] theorem State.setSynth_hk (s : State) (g x : Nat) (y : Synth) : (s.setSynth g x y).hk = s.hk := rfl
@[simp] theorem State.setSynth_pwr (s : State) (g x : Nat) (y : Synth) : (s.setSynth g x y).pwr = s.pwr := rfl
@[simp] theorem State.setSynth_fresh (s : State) (g x : Nat) (y : Synth) : (s.setSynth g x y).fresh = s.fresh := rfl
@[simp] theorem State.setSynth_pending (s : State) (g x : Nat) (y : Synth) : (s.setSynth g x y).pending = s.pending := rfl

/-! ### State.setLg -/

@[simp] theorem State.setLg_regs (s : State) (g : Nat) (x : LinGroup) : (s.setLg g x).regs = s.regs := rfl
@[simp] theorem State.setLg_store (s : State) (g : Nat) (x : LinGroup) : (s.setLg g x).store = s.store := rfl
@[simp] theorem State.setLg_flash (s : State) (g : Nat) (x : LinGroup) : (s.setLg g x).flash = s.flash := rfl
@[simp] theorem State.setLg_fuses (s : State) (g : Nat) (x : LinGroup) : (s.setLg g x).fuses = s.fuses := rfl
@[simp] theorem State.setLg_domains (s : State) (g : Nat) (x : LinGroup) : (s.setLg g x).domains = s.domains := rfl
@[simp] theorem State.setLg_air (s : State) (g : Nat) (x : LinGroup) : (s.setLg g x).air = s.air := rfl
@[simp] theorem State.setLg_aonTicks (s : State) (g : Nat) (x : LinGroup) : (s.setLg g x).aonTicks = s.aonTicks := rfl
@[simp] theorem State.setLg_hkSub (s : State) (g : Nat) (x : LinGroup) : (s.setLg g x).hkSub = s.hkSub := rfl
@[simp] theorem State.setLg_pins (s : State) (g : Nat) (x : LinGroup) : (s.setLg g x).pins = s.pins := rfl
@[simp] theorem State.setLg_boot (s : State) (g : Nat) (x : LinGroup) : (s.setLg g x).boot = s.boot := rfl
@[simp] theorem State.setLg_flashOps (s : State) (g : Nat) (x : LinGroup) : (s.setLg g x).flashOps = s.flashOps := rfl
@[simp] theorem State.setLg_sec (s : State) (g : Nat) (x : LinGroup) : (s.setLg g x).sec = s.sec := rfl
@[simp] theorem State.setLg_clk (s : State) (g : Nat) (x : LinGroup) : (s.setLg g x).clk = s.clk := rfl
@[simp] theorem State.setLg_mspi (s : State) (g : Nat) (x : LinGroup) : (s.setLg g x).mspi = s.mspi := rfl
@[simp] theorem State.setLg_raise (s : State) (g : Nat) (x : LinGroup) : (s.setLg g x).raise = s.raise := rfl
@[simp] theorem State.setLg_shadows (s : State) (g : Nat) (x : LinGroup) : (s.setLg g x).shadows = s.shadows := rfl
@[simp] theorem State.setLg_banksOff (s : State) (g : Nat) (x : LinGroup) : (s.setLg g x).banksOff = s.banksOff := rfl
@[simp] theorem State.setLg_link (s : State) (g : Nat) (x : LinGroup) : (s.setLg g x).link = s.link := rfl
@[simp] theorem State.setLg_queues (s : State) (g : Nat) (x : LinGroup) : (s.setLg g x).queues = s.queues := rfl
@[simp] theorem State.setLg_ecc (s : State) (g : Nat) (x : LinGroup) : (s.setLg g x).ecc = s.ecc := rfl
@[simp] theorem State.setLg_scrubUnc (s : State) (g : Nat) (x : LinGroup) : (s.setLg g x).scrubUnc = s.scrubUnc := rfl
@[simp] theorem State.setLg_dma (s : State) (g : Nat) (x : LinGroup) : (s.setLg g x).dma = s.dma := rfl
@[simp] theorem State.setLg_time (s : State) (g : Nat) (x : LinGroup) : (s.setLg g x).time = s.time := rfl
@[simp] theorem State.setLg_bmb (s : State) (g : Nat) (x : LinGroup) : (s.setLg g x).bmb = s.bmb := rfl
@[simp] theorem State.setLg_dlc (s : State) (g : Nat) (x : LinGroup) : (s.setLg g x).dlc = s.dlc := rfl
@[simp] theorem State.setLg_ulc (s : State) (g : Nat) (x : LinGroup) : (s.setLg g x).ulc = s.ulc := rfl
@[simp] theorem State.setLg_ul (s : State) (g : Nat) (x : LinGroup) : (s.setLg g x).ul = s.ul := rfl
@[simp] theorem State.setLg_smp (s : State) (g : Nat) (x : LinGroup) : (s.setLg g x).smp = s.smp := rfl
@[simp] theorem State.setLg_nco (s : State) (g : Nat) (x : LinGroup) : (s.setLg g x).nco = s.nco := rfl
@[simp] theorem State.setLg_sect (s : State) (g : Nat) (x : LinGroup) : (s.setLg g x).sect = s.sect := rfl
@[simp] theorem State.setLg_rssi (s : State) (g : Nat) (x : LinGroup) : (s.setLg g x).rssi = s.rssi := rfl
@[simp] theorem State.setLg_rf (s : State) (g : Nat) (x : LinGroup) : (s.setLg g x).rf = s.rf := rfl
@[simp] theorem State.setLg_sfd (s : State) (g : Nat) (x : LinGroup) : (s.setLg g x).sfd = s.sfd := rfl
@[simp] theorem State.setLg_cal (s : State) (g : Nat) (x : LinGroup) : (s.setLg g x).cal = s.cal := rfl
@[simp] theorem State.setLg_seen (s : State) (g : Nat) (x : LinGroup) : (s.setLg g x).seen = s.seen := rfl
@[simp] theorem State.setLg_cores (s : State) (g : Nat) (x : LinGroup) : (s.setLg g x).cores = s.cores := rfl
@[simp] theorem State.setLg_hk (s : State) (g : Nat) (x : LinGroup) : (s.setLg g x).hk = s.hk := rfl
@[simp] theorem State.setLg_pwr (s : State) (g : Nat) (x : LinGroup) : (s.setLg g x).pwr = s.pwr := rfl
@[simp] theorem State.setLg_fresh (s : State) (g : Nat) (x : LinGroup) : (s.setLg g x).fresh = s.fresh := rfl
@[simp] theorem State.setLg_pending (s : State) (g : Nat) (x : LinGroup) : (s.setLg g x).pending = s.pending := rfl

/-! ### State.setCore -/

@[simp] theorem State.setCore_regs (s : State) (c : Nat) (x : CoreState) : (s.setCore c x).regs = s.regs := rfl
@[simp] theorem State.setCore_store (s : State) (c : Nat) (x : CoreState) : (s.setCore c x).store = s.store := rfl
@[simp] theorem State.setCore_flash (s : State) (c : Nat) (x : CoreState) : (s.setCore c x).flash = s.flash := rfl
@[simp] theorem State.setCore_fuses (s : State) (c : Nat) (x : CoreState) : (s.setCore c x).fuses = s.fuses := rfl
@[simp] theorem State.setCore_domains (s : State) (c : Nat) (x : CoreState) : (s.setCore c x).domains = s.domains := rfl
@[simp] theorem State.setCore_air (s : State) (c : Nat) (x : CoreState) : (s.setCore c x).air = s.air := rfl
@[simp] theorem State.setCore_aonTicks (s : State) (c : Nat) (x : CoreState) : (s.setCore c x).aonTicks = s.aonTicks := rfl
@[simp] theorem State.setCore_hkSub (s : State) (c : Nat) (x : CoreState) : (s.setCore c x).hkSub = s.hkSub := rfl
@[simp] theorem State.setCore_pins (s : State) (c : Nat) (x : CoreState) : (s.setCore c x).pins = s.pins := rfl
@[simp] theorem State.setCore_boot (s : State) (c : Nat) (x : CoreState) : (s.setCore c x).boot = s.boot := rfl
@[simp] theorem State.setCore_flashOps (s : State) (c : Nat) (x : CoreState) : (s.setCore c x).flashOps = s.flashOps := rfl
@[simp] theorem State.setCore_sec (s : State) (c : Nat) (x : CoreState) : (s.setCore c x).sec = s.sec := rfl
@[simp] theorem State.setCore_clk (s : State) (c : Nat) (x : CoreState) : (s.setCore c x).clk = s.clk := rfl
@[simp] theorem State.setCore_mspi (s : State) (c : Nat) (x : CoreState) : (s.setCore c x).mspi = s.mspi := rfl
@[simp] theorem State.setCore_raise (s : State) (c : Nat) (x : CoreState) : (s.setCore c x).raise = s.raise := rfl
@[simp] theorem State.setCore_shadows (s : State) (c : Nat) (x : CoreState) : (s.setCore c x).shadows = s.shadows := rfl
@[simp] theorem State.setCore_banksOff (s : State) (c : Nat) (x : CoreState) : (s.setCore c x).banksOff = s.banksOff := rfl
@[simp] theorem State.setCore_link (s : State) (c : Nat) (x : CoreState) : (s.setCore c x).link = s.link := rfl
@[simp] theorem State.setCore_queues (s : State) (c : Nat) (x : CoreState) : (s.setCore c x).queues = s.queues := rfl
@[simp] theorem State.setCore_ecc (s : State) (c : Nat) (x : CoreState) : (s.setCore c x).ecc = s.ecc := rfl
@[simp] theorem State.setCore_scrubUnc (s : State) (c : Nat) (x : CoreState) : (s.setCore c x).scrubUnc = s.scrubUnc := rfl
@[simp] theorem State.setCore_dma (s : State) (c : Nat) (x : CoreState) : (s.setCore c x).dma = s.dma := rfl
@[simp] theorem State.setCore_time (s : State) (c : Nat) (x : CoreState) : (s.setCore c x).time = s.time := rfl
@[simp] theorem State.setCore_bmb (s : State) (c : Nat) (x : CoreState) : (s.setCore c x).bmb = s.bmb := rfl
@[simp] theorem State.setCore_dlc (s : State) (c : Nat) (x : CoreState) : (s.setCore c x).dlc = s.dlc := rfl
@[simp] theorem State.setCore_ulc (s : State) (c : Nat) (x : CoreState) : (s.setCore c x).ulc = s.ulc := rfl
@[simp] theorem State.setCore_ul (s : State) (c : Nat) (x : CoreState) : (s.setCore c x).ul = s.ul := rfl
@[simp] theorem State.setCore_smp (s : State) (c : Nat) (x : CoreState) : (s.setCore c x).smp = s.smp := rfl
@[simp] theorem State.setCore_nco (s : State) (c : Nat) (x : CoreState) : (s.setCore c x).nco = s.nco := rfl
@[simp] theorem State.setCore_sect (s : State) (c : Nat) (x : CoreState) : (s.setCore c x).sect = s.sect := rfl
@[simp] theorem State.setCore_rssi (s : State) (c : Nat) (x : CoreState) : (s.setCore c x).rssi = s.rssi := rfl
@[simp] theorem State.setCore_rf (s : State) (c : Nat) (x : CoreState) : (s.setCore c x).rf = s.rf := rfl
@[simp] theorem State.setCore_lin (s : State) (c : Nat) (x : CoreState) : (s.setCore c x).lin = s.lin := rfl
@[simp] theorem State.setCore_sfd (s : State) (c : Nat) (x : CoreState) : (s.setCore c x).sfd = s.sfd := rfl
@[simp] theorem State.setCore_cal (s : State) (c : Nat) (x : CoreState) : (s.setCore c x).cal = s.cal := rfl
@[simp] theorem State.setCore_seen (s : State) (c : Nat) (x : CoreState) : (s.setCore c x).seen = s.seen := rfl
@[simp] theorem State.setCore_cores (s : State) (c : Nat) (x : CoreState) : (s.setCore c x).cores = SMap.set CoreState.idle s.cores c x := rfl
@[simp] theorem State.setCore_hk (s : State) (c : Nat) (x : CoreState) : (s.setCore c x).hk = s.hk := rfl
@[simp] theorem State.setCore_pwr (s : State) (c : Nat) (x : CoreState) : (s.setCore c x).pwr = s.pwr := rfl
@[simp] theorem State.setCore_fresh (s : State) (c : Nat) (x : CoreState) : (s.setCore c x).fresh = s.fresh := rfl
@[simp] theorem State.setCore_pending (s : State) (c : Nat) (x : CoreState) : (s.setCore c x).pending = s.pending := rfl

/-! ### State.setShadow -/

@[simp] theorem State.setShadow_regs (s : State) (low key : Nat) (h : Shadow) : (s.setShadow low key h).regs = s.regs := rfl
@[simp] theorem State.setShadow_store (s : State) (low key : Nat) (h : Shadow) : (s.setShadow low key h).store = s.store := rfl
@[simp] theorem State.setShadow_flash (s : State) (low key : Nat) (h : Shadow) : (s.setShadow low key h).flash = s.flash := rfl
@[simp] theorem State.setShadow_fuses (s : State) (low key : Nat) (h : Shadow) : (s.setShadow low key h).fuses = s.fuses := rfl
@[simp] theorem State.setShadow_domains (s : State) (low key : Nat) (h : Shadow) : (s.setShadow low key h).domains = s.domains := rfl
@[simp] theorem State.setShadow_air (s : State) (low key : Nat) (h : Shadow) : (s.setShadow low key h).air = s.air := rfl
@[simp] theorem State.setShadow_aonTicks (s : State) (low key : Nat) (h : Shadow) : (s.setShadow low key h).aonTicks = s.aonTicks := rfl
@[simp] theorem State.setShadow_hkSub (s : State) (low key : Nat) (h : Shadow) : (s.setShadow low key h).hkSub = s.hkSub := rfl
@[simp] theorem State.setShadow_pins (s : State) (low key : Nat) (h : Shadow) : (s.setShadow low key h).pins = s.pins := rfl
@[simp] theorem State.setShadow_boot (s : State) (low key : Nat) (h : Shadow) : (s.setShadow low key h).boot = s.boot := rfl
@[simp] theorem State.setShadow_flashOps (s : State) (low key : Nat) (h : Shadow) : (s.setShadow low key h).flashOps = s.flashOps := rfl
@[simp] theorem State.setShadow_sec (s : State) (low key : Nat) (h : Shadow) : (s.setShadow low key h).sec = s.sec := rfl
@[simp] theorem State.setShadow_clk (s : State) (low key : Nat) (h : Shadow) : (s.setShadow low key h).clk = s.clk := rfl
@[simp] theorem State.setShadow_mspi (s : State) (low key : Nat) (h : Shadow) : (s.setShadow low key h).mspi = s.mspi := rfl
@[simp] theorem State.setShadow_raise (s : State) (low key : Nat) (h : Shadow) : (s.setShadow low key h).raise = s.raise := rfl
@[simp] theorem State.setShadow_banksOff (s : State) (low key : Nat) (h : Shadow) : (s.setShadow low key h).banksOff = s.banksOff := rfl
@[simp] theorem State.setShadow_link (s : State) (low key : Nat) (h : Shadow) : (s.setShadow low key h).link = s.link := rfl
@[simp] theorem State.setShadow_queues (s : State) (low key : Nat) (h : Shadow) : (s.setShadow low key h).queues = s.queues := rfl
@[simp] theorem State.setShadow_ecc (s : State) (low key : Nat) (h : Shadow) : (s.setShadow low key h).ecc = s.ecc := rfl
@[simp] theorem State.setShadow_scrubUnc (s : State) (low key : Nat) (h : Shadow) : (s.setShadow low key h).scrubUnc = s.scrubUnc := rfl
@[simp] theorem State.setShadow_dma (s : State) (low key : Nat) (h : Shadow) : (s.setShadow low key h).dma = s.dma := rfl
@[simp] theorem State.setShadow_time (s : State) (low key : Nat) (h : Shadow) : (s.setShadow low key h).time = s.time := rfl
@[simp] theorem State.setShadow_bmb (s : State) (low key : Nat) (h : Shadow) : (s.setShadow low key h).bmb = s.bmb := rfl
@[simp] theorem State.setShadow_dlc (s : State) (low key : Nat) (h : Shadow) : (s.setShadow low key h).dlc = s.dlc := rfl
@[simp] theorem State.setShadow_ulc (s : State) (low key : Nat) (h : Shadow) : (s.setShadow low key h).ulc = s.ulc := rfl
@[simp] theorem State.setShadow_ul (s : State) (low key : Nat) (h : Shadow) : (s.setShadow low key h).ul = s.ul := rfl
@[simp] theorem State.setShadow_smp (s : State) (low key : Nat) (h : Shadow) : (s.setShadow low key h).smp = s.smp := rfl
@[simp] theorem State.setShadow_nco (s : State) (low key : Nat) (h : Shadow) : (s.setShadow low key h).nco = s.nco := rfl
@[simp] theorem State.setShadow_sect (s : State) (low key : Nat) (h : Shadow) : (s.setShadow low key h).sect = s.sect := rfl
@[simp] theorem State.setShadow_rssi (s : State) (low key : Nat) (h : Shadow) : (s.setShadow low key h).rssi = s.rssi := rfl
@[simp] theorem State.setShadow_rf (s : State) (low key : Nat) (h : Shadow) : (s.setShadow low key h).rf = s.rf := rfl
@[simp] theorem State.setShadow_lin (s : State) (low key : Nat) (h : Shadow) : (s.setShadow low key h).lin = s.lin := rfl
@[simp] theorem State.setShadow_sfd (s : State) (low key : Nat) (h : Shadow) : (s.setShadow low key h).sfd = s.sfd := rfl
@[simp] theorem State.setShadow_cal (s : State) (low key : Nat) (h : Shadow) : (s.setShadow low key h).cal = s.cal := rfl
@[simp] theorem State.setShadow_seen (s : State) (low key : Nat) (h : Shadow) : (s.setShadow low key h).seen = s.seen := rfl
@[simp] theorem State.setShadow_cores (s : State) (low key : Nat) (h : Shadow) : (s.setShadow low key h).cores = s.cores := rfl
@[simp] theorem State.setShadow_hk (s : State) (low key : Nat) (h : Shadow) : (s.setShadow low key h).hk = s.hk := rfl
@[simp] theorem State.setShadow_pwr (s : State) (low key : Nat) (h : Shadow) : (s.setShadow low key h).pwr = s.pwr := rfl
@[simp] theorem State.setShadow_fresh (s : State) (low key : Nat) (h : Shadow) : (s.setShadow low key h).fresh = s.fresh := rfl
@[simp] theorem State.setShadow_pending (s : State) (low key : Nat) (h : Shadow) : (s.setShadow low key h).pending = s.pending := rfl

/-! ### State.setMiso -/

@[simp] theorem State.setMiso_regs (s : State) (bs : List Byte) : (s.setMiso bs).regs = s.regs := rfl
@[simp] theorem State.setMiso_store (s : State) (bs : List Byte) : (s.setMiso bs).store = s.store := rfl
@[simp] theorem State.setMiso_flash (s : State) (bs : List Byte) : (s.setMiso bs).flash = s.flash := rfl
@[simp] theorem State.setMiso_fuses (s : State) (bs : List Byte) : (s.setMiso bs).fuses = s.fuses := rfl
@[simp] theorem State.setMiso_domains (s : State) (bs : List Byte) : (s.setMiso bs).domains = s.domains := rfl
@[simp] theorem State.setMiso_air (s : State) (bs : List Byte) : (s.setMiso bs).air = s.air := rfl
@[simp] theorem State.setMiso_aonTicks (s : State) (bs : List Byte) : (s.setMiso bs).aonTicks = s.aonTicks := rfl
@[simp] theorem State.setMiso_hkSub (s : State) (bs : List Byte) : (s.setMiso bs).hkSub = s.hkSub := rfl
@[simp] theorem State.setMiso_pins (s : State) (bs : List Byte) : (s.setMiso bs).pins = s.pins := rfl
@[simp] theorem State.setMiso_boot (s : State) (bs : List Byte) : (s.setMiso bs).boot = s.boot := rfl
@[simp] theorem State.setMiso_flashOps (s : State) (bs : List Byte) : (s.setMiso bs).flashOps = s.flashOps := rfl
@[simp] theorem State.setMiso_sec (s : State) (bs : List Byte) : (s.setMiso bs).sec = s.sec := rfl
@[simp] theorem State.setMiso_clk (s : State) (bs : List Byte) : (s.setMiso bs).clk = s.clk := rfl
@[simp] theorem State.setMiso_raise (s : State) (bs : List Byte) : (s.setMiso bs).raise = s.raise := rfl
@[simp] theorem State.setMiso_shadows (s : State) (bs : List Byte) : (s.setMiso bs).shadows = s.shadows := rfl
@[simp] theorem State.setMiso_banksOff (s : State) (bs : List Byte) : (s.setMiso bs).banksOff = s.banksOff := rfl
@[simp] theorem State.setMiso_link (s : State) (bs : List Byte) : (s.setMiso bs).link = s.link := rfl
@[simp] theorem State.setMiso_queues (s : State) (bs : List Byte) : (s.setMiso bs).queues = s.queues := rfl
@[simp] theorem State.setMiso_ecc (s : State) (bs : List Byte) : (s.setMiso bs).ecc = s.ecc := rfl
@[simp] theorem State.setMiso_scrubUnc (s : State) (bs : List Byte) : (s.setMiso bs).scrubUnc = s.scrubUnc := rfl
@[simp] theorem State.setMiso_dma (s : State) (bs : List Byte) : (s.setMiso bs).dma = s.dma := rfl
@[simp] theorem State.setMiso_time (s : State) (bs : List Byte) : (s.setMiso bs).time = s.time := rfl
@[simp] theorem State.setMiso_bmb (s : State) (bs : List Byte) : (s.setMiso bs).bmb = s.bmb := rfl
@[simp] theorem State.setMiso_dlc (s : State) (bs : List Byte) : (s.setMiso bs).dlc = s.dlc := rfl
@[simp] theorem State.setMiso_ulc (s : State) (bs : List Byte) : (s.setMiso bs).ulc = s.ulc := rfl
@[simp] theorem State.setMiso_ul (s : State) (bs : List Byte) : (s.setMiso bs).ul = s.ul := rfl
@[simp] theorem State.setMiso_smp (s : State) (bs : List Byte) : (s.setMiso bs).smp = s.smp := rfl
@[simp] theorem State.setMiso_nco (s : State) (bs : List Byte) : (s.setMiso bs).nco = s.nco := rfl
@[simp] theorem State.setMiso_sect (s : State) (bs : List Byte) : (s.setMiso bs).sect = s.sect := rfl
@[simp] theorem State.setMiso_rssi (s : State) (bs : List Byte) : (s.setMiso bs).rssi = s.rssi := rfl
@[simp] theorem State.setMiso_rf (s : State) (bs : List Byte) : (s.setMiso bs).rf = s.rf := rfl
@[simp] theorem State.setMiso_lin (s : State) (bs : List Byte) : (s.setMiso bs).lin = s.lin := rfl
@[simp] theorem State.setMiso_sfd (s : State) (bs : List Byte) : (s.setMiso bs).sfd = s.sfd := rfl
@[simp] theorem State.setMiso_cal (s : State) (bs : List Byte) : (s.setMiso bs).cal = s.cal := rfl
@[simp] theorem State.setMiso_seen (s : State) (bs : List Byte) : (s.setMiso bs).seen = s.seen := rfl
@[simp] theorem State.setMiso_cores (s : State) (bs : List Byte) : (s.setMiso bs).cores = s.cores := rfl
@[simp] theorem State.setMiso_hk (s : State) (bs : List Byte) : (s.setMiso bs).hk = s.hk := rfl
@[simp] theorem State.setMiso_pwr (s : State) (bs : List Byte) : (s.setMiso bs).pwr = s.pwr := rfl
@[simp] theorem State.setMiso_fresh (s : State) (bs : List Byte) : (s.setMiso bs).fresh = s.fresh := rfl
@[simp] theorem State.setMiso_pending (s : State) (bs : List Byte) : (s.setMiso bs).pending = s.pending := rfl

/-! ### State.setHeld -/

@[simp] theorem State.setHeld_regs (s : State) (h : Option MspiHeld) : (s.setHeld h).regs = s.regs := rfl
@[simp] theorem State.setHeld_store (s : State) (h : Option MspiHeld) : (s.setHeld h).store = s.store := rfl
@[simp] theorem State.setHeld_flash (s : State) (h : Option MspiHeld) : (s.setHeld h).flash = s.flash := rfl
@[simp] theorem State.setHeld_fuses (s : State) (h : Option MspiHeld) : (s.setHeld h).fuses = s.fuses := rfl
@[simp] theorem State.setHeld_domains (s : State) (h : Option MspiHeld) : (s.setHeld h).domains = s.domains := rfl
@[simp] theorem State.setHeld_air (s : State) (h : Option MspiHeld) : (s.setHeld h).air = s.air := rfl
@[simp] theorem State.setHeld_aonTicks (s : State) (h : Option MspiHeld) : (s.setHeld h).aonTicks = s.aonTicks := rfl
@[simp] theorem State.setHeld_hkSub (s : State) (h : Option MspiHeld) : (s.setHeld h).hkSub = s.hkSub := rfl
@[simp] theorem State.setHeld_pins (s : State) (h : Option MspiHeld) : (s.setHeld h).pins = s.pins := rfl
@[simp] theorem State.setHeld_boot (s : State) (h : Option MspiHeld) : (s.setHeld h).boot = s.boot := rfl
@[simp] theorem State.setHeld_flashOps (s : State) (h : Option MspiHeld) : (s.setHeld h).flashOps = s.flashOps := rfl
@[simp] theorem State.setHeld_sec (s : State) (h : Option MspiHeld) : (s.setHeld h).sec = s.sec := rfl
@[simp] theorem State.setHeld_clk (s : State) (h : Option MspiHeld) : (s.setHeld h).clk = s.clk := rfl
@[simp] theorem State.setHeld_raise (s : State) (h : Option MspiHeld) : (s.setHeld h).raise = s.raise := rfl
@[simp] theorem State.setHeld_shadows (s : State) (h : Option MspiHeld) : (s.setHeld h).shadows = s.shadows := rfl
@[simp] theorem State.setHeld_banksOff (s : State) (h : Option MspiHeld) : (s.setHeld h).banksOff = s.banksOff := rfl
@[simp] theorem State.setHeld_link (s : State) (h : Option MspiHeld) : (s.setHeld h).link = s.link := rfl
@[simp] theorem State.setHeld_queues (s : State) (h : Option MspiHeld) : (s.setHeld h).queues = s.queues := rfl
@[simp] theorem State.setHeld_ecc (s : State) (h : Option MspiHeld) : (s.setHeld h).ecc = s.ecc := rfl
@[simp] theorem State.setHeld_scrubUnc (s : State) (h : Option MspiHeld) : (s.setHeld h).scrubUnc = s.scrubUnc := rfl
@[simp] theorem State.setHeld_dma (s : State) (h : Option MspiHeld) : (s.setHeld h).dma = s.dma := rfl
@[simp] theorem State.setHeld_time (s : State) (h : Option MspiHeld) : (s.setHeld h).time = s.time := rfl
@[simp] theorem State.setHeld_bmb (s : State) (h : Option MspiHeld) : (s.setHeld h).bmb = s.bmb := rfl
@[simp] theorem State.setHeld_dlc (s : State) (h : Option MspiHeld) : (s.setHeld h).dlc = s.dlc := rfl
@[simp] theorem State.setHeld_ulc (s : State) (h : Option MspiHeld) : (s.setHeld h).ulc = s.ulc := rfl
@[simp] theorem State.setHeld_ul (s : State) (h : Option MspiHeld) : (s.setHeld h).ul = s.ul := rfl
@[simp] theorem State.setHeld_smp (s : State) (h : Option MspiHeld) : (s.setHeld h).smp = s.smp := rfl
@[simp] theorem State.setHeld_nco (s : State) (h : Option MspiHeld) : (s.setHeld h).nco = s.nco := rfl
@[simp] theorem State.setHeld_sect (s : State) (h : Option MspiHeld) : (s.setHeld h).sect = s.sect := rfl
@[simp] theorem State.setHeld_rssi (s : State) (h : Option MspiHeld) : (s.setHeld h).rssi = s.rssi := rfl
@[simp] theorem State.setHeld_rf (s : State) (h : Option MspiHeld) : (s.setHeld h).rf = s.rf := rfl
@[simp] theorem State.setHeld_lin (s : State) (h : Option MspiHeld) : (s.setHeld h).lin = s.lin := rfl
@[simp] theorem State.setHeld_sfd (s : State) (h : Option MspiHeld) : (s.setHeld h).sfd = s.sfd := rfl
@[simp] theorem State.setHeld_cal (s : State) (h : Option MspiHeld) : (s.setHeld h).cal = s.cal := rfl
@[simp] theorem State.setHeld_seen (s : State) (h : Option MspiHeld) : (s.setHeld h).seen = s.seen := rfl
@[simp] theorem State.setHeld_cores (s : State) (h : Option MspiHeld) : (s.setHeld h).cores = s.cores := rfl
@[simp] theorem State.setHeld_hk (s : State) (h : Option MspiHeld) : (s.setHeld h).hk = s.hk := rfl
@[simp] theorem State.setHeld_pwr (s : State) (h : Option MspiHeld) : (s.setHeld h).pwr = s.pwr := rfl
@[simp] theorem State.setHeld_fresh (s : State) (h : Option MspiHeld) : (s.setHeld h).fresh = s.fresh := rfl
@[simp] theorem State.setHeld_pending (s : State) (h : Option MspiHeld) : (s.setHeld h).pending = s.pending := rfl

/-! ### State.rssiStart -/

@[simp] theorem State.rssiStart_regs (s : State) (p : Nat) : (s.rssiStart p).regs = s.regs := rfl
@[simp] theorem State.rssiStart_store (s : State) (p : Nat) : (s.rssiStart p).store = s.store := rfl
@[simp] theorem State.rssiStart_flash (s : State) (p : Nat) : (s.rssiStart p).flash = s.flash := rfl
@[simp] theorem State.rssiStart_fuses (s : State) (p : Nat) : (s.rssiStart p).fuses = s.fuses := rfl
@[simp] theorem State.rssiStart_domains (s : State) (p : Nat) : (s.rssiStart p).domains = s.domains := rfl
@[simp] theorem State.rssiStart_air (s : State) (p : Nat) : (s.rssiStart p).air = s.air := rfl
@[simp] theorem State.rssiStart_aonTicks (s : State) (p : Nat) : (s.rssiStart p).aonTicks = s.aonTicks := rfl
@[simp] theorem State.rssiStart_hkSub (s : State) (p : Nat) : (s.rssiStart p).hkSub = s.hkSub := rfl
@[simp] theorem State.rssiStart_pins (s : State) (p : Nat) : (s.rssiStart p).pins = s.pins := rfl
@[simp] theorem State.rssiStart_boot (s : State) (p : Nat) : (s.rssiStart p).boot = s.boot := rfl
@[simp] theorem State.rssiStart_flashOps (s : State) (p : Nat) : (s.rssiStart p).flashOps = s.flashOps := rfl
@[simp] theorem State.rssiStart_sec (s : State) (p : Nat) : (s.rssiStart p).sec = s.sec := rfl
@[simp] theorem State.rssiStart_clk (s : State) (p : Nat) : (s.rssiStart p).clk = s.clk := rfl
@[simp] theorem State.rssiStart_mspi (s : State) (p : Nat) : (s.rssiStart p).mspi = s.mspi := rfl
@[simp] theorem State.rssiStart_raise (s : State) (p : Nat) : (s.rssiStart p).raise = s.raise := rfl
@[simp] theorem State.rssiStart_shadows (s : State) (p : Nat) : (s.rssiStart p).shadows = s.shadows := rfl
@[simp] theorem State.rssiStart_banksOff (s : State) (p : Nat) : (s.rssiStart p).banksOff = s.banksOff := rfl
@[simp] theorem State.rssiStart_link (s : State) (p : Nat) : (s.rssiStart p).link = s.link := rfl
@[simp] theorem State.rssiStart_queues (s : State) (p : Nat) : (s.rssiStart p).queues = s.queues := rfl
@[simp] theorem State.rssiStart_ecc (s : State) (p : Nat) : (s.rssiStart p).ecc = s.ecc := rfl
@[simp] theorem State.rssiStart_scrubUnc (s : State) (p : Nat) : (s.rssiStart p).scrubUnc = s.scrubUnc := rfl
@[simp] theorem State.rssiStart_dma (s : State) (p : Nat) : (s.rssiStart p).dma = s.dma := rfl
@[simp] theorem State.rssiStart_time (s : State) (p : Nat) : (s.rssiStart p).time = s.time := rfl
@[simp] theorem State.rssiStart_bmb (s : State) (p : Nat) : (s.rssiStart p).bmb = s.bmb := rfl
@[simp] theorem State.rssiStart_dlc (s : State) (p : Nat) : (s.rssiStart p).dlc = s.dlc := rfl
@[simp] theorem State.rssiStart_ulc (s : State) (p : Nat) : (s.rssiStart p).ulc = s.ulc := rfl
@[simp] theorem State.rssiStart_ul (s : State) (p : Nat) : (s.rssiStart p).ul = s.ul := rfl
@[simp] theorem State.rssiStart_smp (s : State) (p : Nat) : (s.rssiStart p).smp = s.smp := rfl
@[simp] theorem State.rssiStart_nco (s : State) (p : Nat) : (s.rssiStart p).nco = s.nco := rfl
@[simp] theorem State.rssiStart_sect (s : State) (p : Nat) : (s.rssiStart p).sect = s.sect := rfl
@[simp] theorem State.rssiStart_rssi (s : State) (p : Nat) : (s.rssiStart p).rssi = SMap.set 0 s.rssi p s.air := rfl
@[simp] theorem State.rssiStart_rf (s : State) (p : Nat) : (s.rssiStart p).rf = s.rf := rfl
@[simp] theorem State.rssiStart_lin (s : State) (p : Nat) : (s.rssiStart p).lin = s.lin := rfl
@[simp] theorem State.rssiStart_sfd (s : State) (p : Nat) : (s.rssiStart p).sfd = s.sfd := rfl
@[simp] theorem State.rssiStart_cal (s : State) (p : Nat) : (s.rssiStart p).cal = s.cal := rfl
@[simp] theorem State.rssiStart_seen (s : State) (p : Nat) : (s.rssiStart p).seen = s.seen := rfl
@[simp] theorem State.rssiStart_cores (s : State) (p : Nat) : (s.rssiStart p).cores = s.cores := rfl
@[simp] theorem State.rssiStart_hk (s : State) (p : Nat) : (s.rssiStart p).hk = s.hk := rfl
@[simp] theorem State.rssiStart_pwr (s : State) (p : Nat) : (s.rssiStart p).pwr = s.pwr := rfl
@[simp] theorem State.rssiStart_fresh (s : State) (p : Nat) : (s.rssiStart p).fresh = s.fresh := rfl
@[simp] theorem State.rssiStart_pending (s : State) (p : Nat) : (s.rssiStart p).pending = s.pending := rfl

/-! ### State.dropHeld -/

@[simp] theorem State.dropHeld_regs (s : State) (c : HeldSec → Bool) : (s.dropHeld c).regs = s.regs := rfl
@[simp] theorem State.dropHeld_store (s : State) (c : HeldSec → Bool) : (s.dropHeld c).store = s.store := rfl
@[simp] theorem State.dropHeld_flash (s : State) (c : HeldSec → Bool) : (s.dropHeld c).flash = s.flash := rfl
@[simp] theorem State.dropHeld_fuses (s : State) (c : HeldSec → Bool) : (s.dropHeld c).fuses = s.fuses := rfl
@[simp] theorem State.dropHeld_domains (s : State) (c : HeldSec → Bool) : (s.dropHeld c).domains = s.domains := rfl
@[simp] theorem State.dropHeld_air (s : State) (c : HeldSec → Bool) : (s.dropHeld c).air = s.air := rfl
@[simp] theorem State.dropHeld_aonTicks (s : State) (c : HeldSec → Bool) : (s.dropHeld c).aonTicks = s.aonTicks := rfl
@[simp] theorem State.dropHeld_hkSub (s : State) (c : HeldSec → Bool) : (s.dropHeld c).hkSub = s.hkSub := rfl
@[simp] theorem State.dropHeld_pins (s : State) (c : HeldSec → Bool) : (s.dropHeld c).pins = s.pins := rfl
@[simp] theorem State.dropHeld_boot (s : State) (c : HeldSec → Bool) : (s.dropHeld c).boot = s.boot := rfl
@[simp] theorem State.dropHeld_flashOps (s : State) (c : HeldSec → Bool) : (s.dropHeld c).flashOps = s.flashOps := rfl
@[simp] theorem State.dropHeld_sec (s : State) (c : HeldSec → Bool) : (s.dropHeld c).sec = s.sec := rfl
@[simp] theorem State.dropHeld_clk (s : State) (c : HeldSec → Bool) : (s.dropHeld c).clk = s.clk := rfl
@[simp] theorem State.dropHeld_mspi (s : State) (c : HeldSec → Bool) : (s.dropHeld c).mspi = s.mspi := rfl
@[simp] theorem State.dropHeld_raise (s : State) (c : HeldSec → Bool) : (s.dropHeld c).raise = s.raise := rfl
@[simp] theorem State.dropHeld_shadows (s : State) (c : HeldSec → Bool) : (s.dropHeld c).shadows = s.shadows := rfl
@[simp] theorem State.dropHeld_banksOff (s : State) (c : HeldSec → Bool) : (s.dropHeld c).banksOff = s.banksOff := rfl
@[simp] theorem State.dropHeld_link (s : State) (c : HeldSec → Bool) : (s.dropHeld c).link = s.link := rfl
@[simp] theorem State.dropHeld_queues (s : State) (c : HeldSec → Bool) : (s.dropHeld c).queues = s.queues := rfl
@[simp] theorem State.dropHeld_ecc (s : State) (c : HeldSec → Bool) : (s.dropHeld c).ecc = s.ecc := rfl
@[simp] theorem State.dropHeld_scrubUnc (s : State) (c : HeldSec → Bool) : (s.dropHeld c).scrubUnc = s.scrubUnc := rfl
@[simp] theorem State.dropHeld_dma (s : State) (c : HeldSec → Bool) : (s.dropHeld c).dma = s.dma := rfl
@[simp] theorem State.dropHeld_time (s : State) (c : HeldSec → Bool) : (s.dropHeld c).time = s.time := rfl
@[simp] theorem State.dropHeld_bmb (s : State) (c : HeldSec → Bool) : (s.dropHeld c).bmb = s.bmb := rfl
@[simp] theorem State.dropHeld_dlc (s : State) (c : HeldSec → Bool) : (s.dropHeld c).dlc = s.dlc := rfl
@[simp] theorem State.dropHeld_ulc (s : State) (c : HeldSec → Bool) : (s.dropHeld c).ulc = s.ulc := rfl
@[simp] theorem State.dropHeld_ul (s : State) (c : HeldSec → Bool) : (s.dropHeld c).ul = s.ul := rfl
@[simp] theorem State.dropHeld_smp (s : State) (c : HeldSec → Bool) : (s.dropHeld c).smp = s.smp := rfl
@[simp] theorem State.dropHeld_nco (s : State) (c : HeldSec → Bool) : (s.dropHeld c).nco = s.nco := rfl
@[simp] theorem State.dropHeld_rssi (s : State) (c : HeldSec → Bool) : (s.dropHeld c).rssi = s.rssi := rfl
@[simp] theorem State.dropHeld_rf (s : State) (c : HeldSec → Bool) : (s.dropHeld c).rf = s.rf := rfl
@[simp] theorem State.dropHeld_lin (s : State) (c : HeldSec → Bool) : (s.dropHeld c).lin = s.lin := rfl
@[simp] theorem State.dropHeld_sfd (s : State) (c : HeldSec → Bool) : (s.dropHeld c).sfd = s.sfd := rfl
@[simp] theorem State.dropHeld_cal (s : State) (c : HeldSec → Bool) : (s.dropHeld c).cal = s.cal := rfl
@[simp] theorem State.dropHeld_seen (s : State) (c : HeldSec → Bool) : (s.dropHeld c).seen = s.seen := rfl
@[simp] theorem State.dropHeld_cores (s : State) (c : HeldSec → Bool) : (s.dropHeld c).cores = s.cores := rfl
@[simp] theorem State.dropHeld_hk (s : State) (c : HeldSec → Bool) : (s.dropHeld c).hk = s.hk := rfl
@[simp] theorem State.dropHeld_pwr (s : State) (c : HeldSec → Bool) : (s.dropHeld c).pwr = s.pwr := rfl
@[simp] theorem State.dropHeld_fresh (s : State) (c : HeldSec → Bool) : (s.dropHeld c).fresh = s.fresh := rfl
@[simp] theorem State.dropHeld_pending (s : State) (c : HeldSec → Bool) : (s.dropHeld c).pending = s.pending := rfl

/-! ### State.setCarriers -/

@[simp] theorem State.setCarriers_regs (s : State) (up : Bool) (c : CarrierState) : (s.setCarriers up c).regs = s.regs := by
  cases up <;> rfl
@[simp] theorem State.setCarriers_store (s : State) (up : Bool) (c : CarrierState) : (s.setCarriers up c).store = s.store := by
  cases up <;> rfl
@[simp] theorem State.setCarriers_flash (s : State) (up : Bool) (c : CarrierState) : (s.setCarriers up c).flash = s.flash := by
  cases up <;> rfl
@[simp] theorem State.setCarriers_fuses (s : State) (up : Bool) (c : CarrierState) : (s.setCarriers up c).fuses = s.fuses := by
  cases up <;> rfl
@[simp] theorem State.setCarriers_domains (s : State) (up : Bool) (c : CarrierState) : (s.setCarriers up c).domains = s.domains := by
  cases up <;> rfl
@[simp] theorem State.setCarriers_air (s : State) (up : Bool) (c : CarrierState) : (s.setCarriers up c).air = s.air := by
  cases up <;> rfl
@[simp] theorem State.setCarriers_aonTicks (s : State) (up : Bool) (c : CarrierState) : (s.setCarriers up c).aonTicks = s.aonTicks := by
  cases up <;> rfl
@[simp] theorem State.setCarriers_hkSub (s : State) (up : Bool) (c : CarrierState) : (s.setCarriers up c).hkSub = s.hkSub := by
  cases up <;> rfl
@[simp] theorem State.setCarriers_pins (s : State) (up : Bool) (c : CarrierState) : (s.setCarriers up c).pins = s.pins := by
  cases up <;> rfl
@[simp] theorem State.setCarriers_boot (s : State) (up : Bool) (c : CarrierState) : (s.setCarriers up c).boot = s.boot := by
  cases up <;> rfl
@[simp] theorem State.setCarriers_flashOps (s : State) (up : Bool) (c : CarrierState) : (s.setCarriers up c).flashOps = s.flashOps := by
  cases up <;> rfl
@[simp] theorem State.setCarriers_sec (s : State) (up : Bool) (c : CarrierState) : (s.setCarriers up c).sec = s.sec := by
  cases up <;> rfl
@[simp] theorem State.setCarriers_clk (s : State) (up : Bool) (c : CarrierState) : (s.setCarriers up c).clk = s.clk := by
  cases up <;> rfl
@[simp] theorem State.setCarriers_mspi (s : State) (up : Bool) (c : CarrierState) : (s.setCarriers up c).mspi = s.mspi := by
  cases up <;> rfl
@[simp] theorem State.setCarriers_raise (s : State) (up : Bool) (c : CarrierState) : (s.setCarriers up c).raise = s.raise := by
  cases up <;> rfl
@[simp] theorem State.setCarriers_shadows (s : State) (up : Bool) (c : CarrierState) : (s.setCarriers up c).shadows = s.shadows := by
  cases up <;> rfl
@[simp] theorem State.setCarriers_banksOff (s : State) (up : Bool) (c : CarrierState) : (s.setCarriers up c).banksOff = s.banksOff := by
  cases up <;> rfl
@[simp] theorem State.setCarriers_link (s : State) (up : Bool) (c : CarrierState) : (s.setCarriers up c).link = s.link := by
  cases up <;> rfl
@[simp] theorem State.setCarriers_queues (s : State) (up : Bool) (c : CarrierState) : (s.setCarriers up c).queues = s.queues := by
  cases up <;> rfl
@[simp] theorem State.setCarriers_ecc (s : State) (up : Bool) (c : CarrierState) : (s.setCarriers up c).ecc = s.ecc := by
  cases up <;> rfl
@[simp] theorem State.setCarriers_scrubUnc (s : State) (up : Bool) (c : CarrierState) : (s.setCarriers up c).scrubUnc = s.scrubUnc := by
  cases up <;> rfl
@[simp] theorem State.setCarriers_dma (s : State) (up : Bool) (c : CarrierState) : (s.setCarriers up c).dma = s.dma := by
  cases up <;> rfl
@[simp] theorem State.setCarriers_time (s : State) (up : Bool) (c : CarrierState) : (s.setCarriers up c).time = s.time := by
  cases up <;> rfl
@[simp] theorem State.setCarriers_bmb (s : State) (up : Bool) (c : CarrierState) : (s.setCarriers up c).bmb = s.bmb := by
  cases up <;> rfl
@[simp] theorem State.setCarriers_ul (s : State) (up : Bool) (c : CarrierState) : (s.setCarriers up c).ul = s.ul := by
  cases up <;> rfl
@[simp] theorem State.setCarriers_smp (s : State) (up : Bool) (c : CarrierState) : (s.setCarriers up c).smp = s.smp := by
  cases up <;> rfl
@[simp] theorem State.setCarriers_nco (s : State) (up : Bool) (c : CarrierState) : (s.setCarriers up c).nco = s.nco := by
  cases up <;> rfl
@[simp] theorem State.setCarriers_sect (s : State) (up : Bool) (c : CarrierState) : (s.setCarriers up c).sect = s.sect := by
  cases up <;> rfl
@[simp] theorem State.setCarriers_rssi (s : State) (up : Bool) (c : CarrierState) : (s.setCarriers up c).rssi = s.rssi := by
  cases up <;> rfl
@[simp] theorem State.setCarriers_rf (s : State) (up : Bool) (c : CarrierState) : (s.setCarriers up c).rf = s.rf := by
  cases up <;> rfl
@[simp] theorem State.setCarriers_lin (s : State) (up : Bool) (c : CarrierState) : (s.setCarriers up c).lin = s.lin := by
  cases up <;> rfl
@[simp] theorem State.setCarriers_sfd (s : State) (up : Bool) (c : CarrierState) : (s.setCarriers up c).sfd = s.sfd := by
  cases up <;> rfl
@[simp] theorem State.setCarriers_cal (s : State) (up : Bool) (c : CarrierState) : (s.setCarriers up c).cal = s.cal := by
  cases up <;> rfl
@[simp] theorem State.setCarriers_seen (s : State) (up : Bool) (c : CarrierState) : (s.setCarriers up c).seen = s.seen := by
  cases up <;> rfl
@[simp] theorem State.setCarriers_cores (s : State) (up : Bool) (c : CarrierState) : (s.setCarriers up c).cores = s.cores := by
  cases up <;> rfl
@[simp] theorem State.setCarriers_hk (s : State) (up : Bool) (c : CarrierState) : (s.setCarriers up c).hk = s.hk := by
  cases up <;> rfl
@[simp] theorem State.setCarriers_pwr (s : State) (up : Bool) (c : CarrierState) : (s.setCarriers up c).pwr = s.pwr := by
  cases up <;> rfl
@[simp] theorem State.setCarriers_fresh (s : State) (up : Bool) (c : CarrierState) : (s.setCarriers up c).fresh = s.fresh := by
  cases up <;> rfl
@[simp] theorem State.setCarriers_pending (s : State) (up : Bool) (c : CarrierState) : (s.setCarriers up c).pending = s.pending := by
  cases up <;> rfl
@[simp] theorem State.setCarriers_dlc (s : State) (c : CarrierState) : (s.setCarriers false c).dlc = c := rfl
@[simp] theorem State.setCarriers_ulc (s : State) (c : CarrierState) : (s.setCarriers true c).ulc = c := rfl
@[simp] theorem State.carriers_setCarriers (s : State) (up : Bool) (c : CarrierState) : (s.setCarriers up c).carriers up = c := by
  cases up <;> rfl

/-! ### State.event: it changes the raise FIFO, or counts a lost occurrence (R405) -/

@[simp] theorem State.event_store (s : State) (code info : Nat) : (s.event code info).store = s.store := by
  unfold State.event; split
  · rfl
  · split <;> rfl
@[simp] theorem State.event_flash (s : State) (code info : Nat) : (s.event code info).flash = s.flash := by
  unfold State.event; split
  · rfl
  · split <;> rfl
@[simp] theorem State.event_fuses (s : State) (code info : Nat) : (s.event code info).fuses = s.fuses := by
  unfold State.event; split
  · rfl
  · split <;> rfl
@[simp] theorem State.event_domains (s : State) (code info : Nat) : (s.event code info).domains = s.domains := by
  unfold State.event; split
  · rfl
  · split <;> rfl
@[simp] theorem State.event_air (s : State) (code info : Nat) : (s.event code info).air = s.air := by
  unfold State.event; split
  · rfl
  · split <;> rfl
@[simp] theorem State.event_aonTicks (s : State) (code info : Nat) : (s.event code info).aonTicks = s.aonTicks := by
  unfold State.event; split
  · rfl
  · split <;> rfl
@[simp] theorem State.event_hkSub (s : State) (code info : Nat) : (s.event code info).hkSub = s.hkSub := by
  unfold State.event; split
  · rfl
  · split <;> rfl
@[simp] theorem State.event_pins (s : State) (code info : Nat) : (s.event code info).pins = s.pins := by
  unfold State.event; split
  · rfl
  · split <;> rfl
@[simp] theorem State.event_boot (s : State) (code info : Nat) : (s.event code info).boot = s.boot := by
  unfold State.event; split
  · rfl
  · split <;> rfl
@[simp] theorem State.event_flashOps (s : State) (code info : Nat) : (s.event code info).flashOps = s.flashOps := by
  unfold State.event; split
  · rfl
  · split <;> rfl
@[simp] theorem State.event_sec (s : State) (code info : Nat) : (s.event code info).sec = s.sec := by
  unfold State.event; split
  · rfl
  · split <;> rfl
@[simp] theorem State.event_clk (s : State) (code info : Nat) : (s.event code info).clk = s.clk := by
  unfold State.event; split
  · rfl
  · split <;> rfl
@[simp] theorem State.event_mspi (s : State) (code info : Nat) : (s.event code info).mspi = s.mspi := by
  unfold State.event; split
  · rfl
  · split <;> rfl
@[simp] theorem State.event_shadows (s : State) (code info : Nat) : (s.event code info).shadows = s.shadows := by
  unfold State.event; split
  · rfl
  · split <;> rfl
@[simp] theorem State.event_banksOff (s : State) (code info : Nat) : (s.event code info).banksOff = s.banksOff := by
  unfold State.event; split
  · rfl
  · split <;> rfl
@[simp] theorem State.event_link (s : State) (code info : Nat) : (s.event code info).link = s.link := by
  unfold State.event; split
  · rfl
  · split <;> rfl
@[simp] theorem State.event_queues (s : State) (code info : Nat) : (s.event code info).queues = s.queues := by
  unfold State.event; split
  · rfl
  · split <;> rfl
@[simp] theorem State.event_ecc (s : State) (code info : Nat) : (s.event code info).ecc = s.ecc := by
  unfold State.event; split
  · rfl
  · split <;> rfl
@[simp] theorem State.event_scrubUnc (s : State) (code info : Nat) : (s.event code info).scrubUnc = s.scrubUnc := by
  unfold State.event; split
  · rfl
  · split <;> rfl
@[simp] theorem State.event_dma (s : State) (code info : Nat) : (s.event code info).dma = s.dma := by
  unfold State.event; split
  · rfl
  · split <;> rfl
@[simp] theorem State.event_time (s : State) (code info : Nat) : (s.event code info).time = s.time := by
  unfold State.event; split
  · rfl
  · split <;> rfl
@[simp] theorem State.event_bmb (s : State) (code info : Nat) : (s.event code info).bmb = s.bmb := by
  unfold State.event; split
  · rfl
  · split <;> rfl
@[simp] theorem State.event_dlc (s : State) (code info : Nat) : (s.event code info).dlc = s.dlc := by
  unfold State.event; split
  · rfl
  · split <;> rfl
@[simp] theorem State.event_ulc (s : State) (code info : Nat) : (s.event code info).ulc = s.ulc := by
  unfold State.event; split
  · rfl
  · split <;> rfl
@[simp] theorem State.event_ul (s : State) (code info : Nat) : (s.event code info).ul = s.ul := by
  unfold State.event; split
  · rfl
  · split <;> rfl
@[simp] theorem State.event_smp (s : State) (code info : Nat) : (s.event code info).smp = s.smp := by
  unfold State.event; split
  · rfl
  · split <;> rfl
@[simp] theorem State.event_nco (s : State) (code info : Nat) : (s.event code info).nco = s.nco := by
  unfold State.event; split
  · rfl
  · split <;> rfl
@[simp] theorem State.event_sect (s : State) (code info : Nat) : (s.event code info).sect = s.sect := by
  unfold State.event; split
  · rfl
  · split <;> rfl
@[simp] theorem State.event_rssi (s : State) (code info : Nat) : (s.event code info).rssi = s.rssi := by
  unfold State.event; split
  · rfl
  · split <;> rfl
@[simp] theorem State.event_rf (s : State) (code info : Nat) : (s.event code info).rf = s.rf := by
  unfold State.event; split
  · rfl
  · split <;> rfl
@[simp] theorem State.event_lin (s : State) (code info : Nat) : (s.event code info).lin = s.lin := by
  unfold State.event; split
  · rfl
  · split <;> rfl
@[simp] theorem State.event_sfd (s : State) (code info : Nat) : (s.event code info).sfd = s.sfd := by
  unfold State.event; split
  · rfl
  · split <;> rfl
@[simp] theorem State.event_cal (s : State) (code info : Nat) : (s.event code info).cal = s.cal := by
  unfold State.event; split
  · rfl
  · split <;> rfl
@[simp] theorem State.event_seen (s : State) (code info : Nat) : (s.event code info).seen = s.seen := by
  unfold State.event; split
  · rfl
  · split <;> rfl
@[simp] theorem State.event_cores (s : State) (code info : Nat) : (s.event code info).cores = s.cores := by
  unfold State.event; split
  · rfl
  · split <;> rfl
@[simp] theorem State.event_hk (s : State) (code info : Nat) : (s.event code info).hk = s.hk := by
  unfold State.event; split
  · rfl
  · split <;> rfl
@[simp] theorem State.event_pwr (s : State) (code info : Nat) : (s.event code info).pwr = s.pwr := by
  unfold State.event; split
  · rfl
  · split <;> rfl
@[simp] theorem State.event_fresh (s : State) (code info : Nat) : (s.event code info).fresh = s.fresh := by
  unfold State.event; split
  · rfl
  · split <;> rfl
@[simp] theorem State.event_pending (s : State) (code info : Nat) : (s.event code info).pending = s.pending := by
  unfold State.event; split
  · rfl
  · split <;> rfl

/-! ### Reads of keyed records -/

@[simp] theorem State.queue_setQueue_same (s : State) (n : Nat) (q : QueueState) : (s.setQueue n q).queue n = q := by
  simp [State.queue]

theorem State.queue_setQueue_ne (s : State) {n k : Nat} (q : QueueState) (h : k ≠ n) : (s.setQueue n q).queue k = s.queue k := by
  simp [State.queue, SMap.get_set_ne _ _ _ h]

@[simp] theorem State.chan_setChan_same (s : State) (n : Nat) (c : DmaState) : (s.setChan n c).chan n = c := by
  simp [State.chan]

theorem State.chan_setChan_ne (s : State) {n k : Nat} (c : DmaState) (h : k ≠ n) : (s.setChan n c).chan k = s.chan k := by
  simp [State.chan, SMap.get_set_ne _ _ _ h]

@[simp] theorem State.core_setCore_same (s : State) (n : Nat) (x : CoreState) : (s.setCore n x).core n = x := by
  simp [State.core]

theorem State.core_setCore_ne (s : State) {n k : Nat} (x : CoreState) (h : k ≠ n) : (s.setCore n x).core k = s.core k := by
  simp [State.core, SMap.get_set_ne _ _ _ h]

@[simp] theorem State.lg_setLg_same (s : State) (g : Nat) (x : LinGroup) : (s.setLg g x).lg g = x := by
  simp [State.lg, State.setLg]

theorem State.lg_setLg_ne (s : State) {g k : Nat} (x : LinGroup) (h : k ≠ g) : (s.setLg g x).lg k = s.lg k := by
  simp [State.lg, State.setLg, SMap.get_set_ne _ _ _ h]

@[simp] theorem State.synth_setSynth_same (s : State) (g x : Nat) (y : Synth) : (s.setSynth g x y).synth g x = y := by
  simp [State.synth, State.setSynth]

theorem State.synth_setSynth_ne (s : State) {g x g' x' : Nat} (y : Synth) (h : 2 * g' + x' ≠ 2 * g + x) :
    (s.setSynth g x y).synth g' x' = s.synth g' x' := by
  simp [State.synth, State.setSynth, SMap.get_set_ne _ _ _ h]

theorem State.eccAt_setEcc (s : State) (w v k : Nat) : (s.setEcc w v).eccAt k = if k = w then v else s.eccAt k := by
  simp [State.eccAt, State.setEcc, SMap.get_set]

/-- A byte of the store outside the bytes written reads as before. -/
theorem State.storeByte_putStore_out (s : State) (a k : Nat) (bs : List Byte) (h : k < a ∨ a + bs.length ≤ k) :
    (s.putStore a bs).storeByte k = s.storeByte k := SMap.get_setRange_out 0 bs s.store h

/-- `iff` with a true condition has its effect; with a false one it changes nothing. -/
@[simp] theorem State.iff_true (s : State) (f : State → State) : s.iff true f = f s := rfl
@[simp] theorem State.iff_false (s : State) (f : State → State) : s.iff false f = s := rfl

/-- A change over a list that leaves what `g` reads leaves it over the whole list. -/
theorem foldl_keeps {β γ : Type} (g : State → γ) (f : State → β → State) (h : ∀ s b, g (f s b) = g s) (l : List β) (s : State) :
    g (l.foldl f s) = g s := by
  induction l generalizing s with
  | nil => rfl
  | cons b l ih => rw [List.foldl_cons, ih, h]

theorem State.forEach_keeps {γ : Type} (g : State → γ) (f : State → Nat → State) (h : ∀ s b, g (f s b) = g s) (n : Nat) (s : State) :
    g (s.forEach n f) = g s := foldl_keeps g f h _ s

theorem State.iff_keeps {γ : Type} (g : State → γ) (f : State → State) (h : ∀ s, g (f s) = g s) (c : Bool) (s : State) :
    g (s.iff c f) = g s := by
  cases c
  · rfl
  · exact h s

end Sys2Proof.Machine
end

