-- ==== Sys2Proof/WellFormed.lean ====
section
/-!
DEFINITION. The commands whose lists have the lengths that the spec gives what they stand for.
-/

namespace Sys2Proof

/-- A journal record that is read back has 64 bytes (R57). -/
def recordOk : Option (List Byte) → Bool
  | some r => r.length == 64
  | none => true

/-- At most one entry per path. -/
def onePerPath (ps : List (Fin 64)) : Bool := decide ps.Nodup

/-- A command is well-formed: a packet has its header, and a list of results has one element per lane, path or sample. -/
def Instr.wellFormed : Instr → Bool
  | .powerOnReset _ _ _ _ => true
  | .pinReset _ _ _ _ => true
  | .vddIoUndervoltage _ _ _ _ => true
  | .devCtrlSoft _ _ => true
  | .devCtrlWarm _ _ => true
  | .devCtrlErrClr _ _ => true
  | .watchdogExpiry => true
  | .detainNAssert _ => true
  | .startFlashProbe _ _ _ => true
  | .flashIdRetry _ _ => true
  | .journalRecordReadback read => recordOk read
  | .rootLockReached _ => true
  | .rootLockStartTimeout => true
  | .startThermalPoll _ _ _ => true
  | .startSectionLoad _ => true
  | .coreStartTimeout => true
  | .linkTimeout => true
  | .heartbeatGap => true
  | .startCompletion => true
  | .bootHeartbeatWrite _ _ => true
  | .bootCtrlClrAttempts _ _ => true
  | .bootCtrlForceEn _ _ => true
  | .lop7Erase _ _ => true
  | .lop7Program _ _ => true
  | .lop7Read _ _ => true
  | .lop7UnitEnd _ => true
  | .lop8Verify _ _ => true
  | .lop8UnitEnd => true
  | .applyProv _ _ => true
  | .advanceRb _ _ => true
  | .dbgChallenge _ _ => true
  | .dbgSubmit _ _ => true
  | .dbgLock _ _ => true
  | .procCmdEnd _ => true
  | .challengeLapse => true
  | .lop6Attest _ _ _ => true
  | .lop6UnitEnd => true
  | .clkPhaseGo _ _ => true
  | .clkPhaseStepTick => true
  | .aonOscTimeout => true
  | .clkSysoutWrite _ _ => true
  | .rootLockLoss => true
  | .rootRelock => true
  | .mspiRead _ _ _ _ _ => true
  | .mspiWrite _ _ _ _ _ => true
  | .mspiFrameAbort sent _ _ => decide (sent.length ≤ 15)
  | .mspiDeferredAccessEnd _ => true
  | .postedStoreWrite => true
  | .registerWrite _ _ _ _ => true
  | .linkDownExit => true
  | .detectionTry _ _ _ _ _ => true
  | .trainSettleEnd => true
  | .laneLock _ _ _ _ _ => true
  | .rxLockedSet => true
  | .deskewBlockRx _ _ => true
  | .bringupTimeout => true
  | .rollCallConclude => true
  | .switchBlockRx _ _ => true
  | .clkLoss _ => true
  | .blockLockLoss _ _ => true
  | .ebufSlip _ _ => true
  | .ebufWander _ _ => true
  | .lnkCtrlEnable _ _ => true
  | .lnkCtrlRestart _ _ => true
  | .lnkTestGo _ _ => true
  | .testEnd _ errors _ => errors.length == 22
  | .lnkTestChkEn _ _ => true
  | .lop9MarginScan _ _ => true
  | .lop9UnitEnd counts => counts.length == 64
  | .dldReceive _ _ _ bytes => decide (16 ≤ bytes.length)
  | .secReceive _ _ _ bytes => decide (16 ≤ bytes.length)
  | .wgtReceive _ _ _ bytes => decide (16 ≤ bytes.length)
  | .timReceive _ _ _ bytes _ => decide (16 ≤ bytes.length)
  | .mgqReceive _ _ _ bytes => decide (16 ≤ bytes.length)
  | .mgqRead _ => true
  | .mgqWrite _ => true
  | .mgqModify _ => true
  | .mgqStartDeferred => true
  | .crdReceive _ _ _ bytes => decide (16 ≤ bytes.length)
  | .crdReconcile _ => true
  | .capReceive _ _ _ bytes => decide (16 ≤ bytes.length)
  | .lbkReceive _ _ _ bytes => decide (16 ≤ bytes.length)
  | .lbkEcho => true
  | .crdSend _ => true
  | .capSend _ => true
  | .evtSend => true
  | .evtKeepalive => true
  | .outboundPacketSend _ _ _ => true
  | .queFlush _ _ _ _ => true
  | .queuePointerMismatch _ _ _ => true
  | .queCntClr _ _ => true
  | .scrubRowRead => true
  | .cstEccInjWrite _ _ => true
  | .lop5Scrub _ _ => true
  | .lop5End => true
  | .dmaGo _ _ _ => true
  | .descriptorFetch _ => true
  | .dmaBurst _ _ => true
  | .descriptorComplete _ => true
  | .dmaPause _ _ _ => true
  | .dmaAbort _ _ _ => true
  | .dmaResume _ _ _ => true
  | .dmaBusError _ _ => true
  | .dmaResponseTimeout _ _ => true
  | .alignEdge _ => true
  | .syncLossTimeout => true
  | .atmSet _ _ => true
  | .atmSrcWrite _ _ => true
  | .timeStepApply => true
  | .alignOutPulse => true
  | .timetableSymbol adc => adc.length == 64 && adc.all (fun a => decide (a.length ≤ 141312))
  | .ttSwapRequest _ _ => true
  | .ttSwap => true
  | .downlinkFetch _ _ marks => onePerPath (marks.map (fun m => m.path))
  | .bmbUpdGo _ _ => true
  | .bmbPrefetchEnd => true
  | .bmbUpdateBoundary => true
  | .bmbWritebackEnd => true
  | .atmPeerWrite _ _ _ _ => true
  | .jointOkChange => true
  | .dlcCommit _ _ => true
  | .dlcCommitInForce => true
  | .dlcIqSwap _ _ => true
  | .dlcIqBankSwap => true
  | .dlcCntClr _ _ => true
  | .ulcCommit _ _ => true
  | .ulcCommitInForce => true
  | .ulcIqSwap _ _ => true
  | .ulcIqBankSwap => true
  | .ulcCntClr _ _ => true
  | .firSwapRequest _ _ _ => true
  | .firBankSwap _ => true
  | .rssiWindowClose _ => true
  | .rssiCfgWrite _ _ _ => true
  | .uplinkFetch _ _ => true
  | .uplinkPacketBuild _ paths secs => onePerPath paths && decide secs.Nodup
  | .packetAgeDiscard _ => true
  | .prachOccasion _ => true
  | .prachWindowEnd _ _ => true
  | .pdLoadWrite _ _ _ => true
  | .pdLoadRead _ _ _ => true
  | .pdLoadEnd _ => true
  | .pdSwapRequest _ _ _ => true
  | .pdBankSwap _ => true
  | .seqModeOff _ _ _ => true
  | .seqModeAuto _ _ _ => true
  | .seqModeSingle _ _ _ => true
  | .orxCaptureStart _ => true
  | .orxCaptureEnd _ orx => orx.length == 16384
  | .intervalSkip _ => true
  | .capturePortRead _ _ => true
  | .correlatorEnd _ _ => true
  | .lop2PdCampaign _ _ => true
  | .lop2UnitEnd _ _ _ _ => true
  | .lop2Abort _ _ => true
  | .kernelSwapRequest _ _ => true
  | .kernelBankSwap => true
  | .corrClr _ _ _ => true
  | .compStaleTimeout _ => true
  | .linCntClr _ _ => true
  | .sfdCommit _ _ => true
  | .sfdCommitInForce => true
  | .sfdLoadWrite _ _ => true
  | .sfdLoadRead _ _ => true
  | .sfdLoadCopyEnd => true
  | .sfdLoadBoundary => true
  | .sfdCapGo _ _ => true
  | .sfdCaptureStart => true
  | .sfdCaptureRecordEnd => true
  | .lop3SfdTraining _ _ => true
  | .lop3UnitEnd _ _ _ _ => true
  | .lop3Abort _ _ => true
  | .sbSymbolEnd residue _ => onePerPath (residue.map (fun r => r.1))
  | .demotedClear _ _ _ => true
  | .sfdCntClr _ _ => true
  | .bandWrite _ _ _ => true
  | .loRetuneGo _ _ _ _ => true
  | .loFastLock _ _ => true
  | .loFastLockTimeout _ _ => true
  | .vcoCalEnd _ _ _ => true
  | .vcoCalLockTimeout _ _ => true
  | .loPwrdn _ _ _ _ => true
  | .loselWrite _ _ _ => true
  | .loPhaseGo _ _ _ _ => true
  | .loPhasePiece _ _ => true
  | .rffeGo _ _ _ => true
  | .rffeEntryStart _ => true
  | .rffeEntryEnd _ _ _ => true
  | .rffeAbort _ _ _ => true
  | .calArrGo _ _ => true
  | .locLockEnd _ => true
  | .calSequenceEnd _ _ => true
  | .calForcedSlot => true
  | .calForcedSlotEnd => true
  | .backgroundCalTimeout => true
  | .lop0End paths => paths.length == 64
  | .calArrAbort _ _ => true
  | .calLoadGo _ _ => true
  | .calLoadCopyEnd => true
  | .calPointReplace => true
  | .calConvGo _ _ => true
  | .lop1UnitEnd conv iq => conv.length == 35 && iq.length == 144
  | .calSaveGo _ _ => true
  | .calSaveEnd _ => true
  | .halt _ _ _ => true
  | .nop _ _ _ => true
  | .wait _ _ _ => true
  | .trapSw _ _ _ => true
  | .isync _ _ _ => true
  | .bset _ _ _ => true
  | .bclr _ _ _ => true
  | .debug _ _ _ => true
  | .bra _ _ _ => true
  | .call _ _ _ => true
  | .ret _ _ _ => true
  | .rti _ _ _ => true
  | .braAn _ _ _ => true
  | .loopImm _ _ _ => true
  | .loopReg _ _ _ => true
  | .rptImm _ _ _ => true
  | .rptReg _ _ _ => true
  | .moveImmediate _ _ _ => true
  | .registerMove _ _ _ => true
  | .clr _ _ _ => true
  | .mova _ _ _ => true
  | .addAcc _ _ _ => true
  | .subAcc _ _ _ => true
  | .negAcc _ _ _ => true
  | .absAcc _ _ _ => true
  | .cmpAcc _ _ _ => true
  | .rnd _ _ _ => true
  | .sata _ _ _ => true
  | .asl _ _ _ => true
  | .asr _ _ _ => true
  | .addr _ _ _ => true
  | .subr _ _ _ => true
  | .andAcc _ _ _ => true
  | .orAcc _ _ _ => true
  | .xorAcc _ _ _ => true
  | .norm _ _ _ => true
  | .adda _ _ _ => true
  | .suba _ _ _ => true
  | .addi _ _ _ => true
  | .parallelLoads _ _ _ => true
  | .mac _ _ _ => true
  | .msu _ _ _ => true
  | .mpy _ _ _ => true
  | .singleMoveLoad _ _ _ => true
  | .singleMoveStore _ _ _ => true
  | .systemLoad _ _ _ => true
  | .systemStore _ _ _ => true
  | .systemAccessComplete _ _ _ => true
  | .systemAccessTimeout _ => true
  | .mbxrd _ _ _ => true
  | .mbxwr _ _ _ => true
  | .ring _ _ _ => true
  | .cmac _ _ _ => true
  | .cmsu _ _ _ => true
  | .cmpy _ _ _ => true
  | .interruptTaken _ => true
  | .coreTimerExpiry _ => true
  | .coreRstWrite _ _ _ => true
  | .coreHaltReq _ _ _ => true
  | .coreResume _ _ _ => true
  | .mbxInWrite _ _ _ => true
  | .mbxOutRead _ _ => true
  | .doorbellAdd _ _ _ => true
  | .hkConversionEnd _ _ _ => true
  | .triggeredEntryDue _ => true
  | .guardConversionDue _ => true
  | .hkUrgentRequest _ _ => true
  | .hkListWrite _ _ _ => true
  | .hkPortRead _ => true
  | .lop4Syscal _ _ => true
  | .eventRecord => true
  | .evtCntClr _ _ => true
  | .requestActive _ _ _ => true
  | .requestNap _ _ _ => true
  | .requestLightSleep _ _ _ => true
  | .requestDeepSleep _ _ _ => true
  | .requestBellWatch _ _ _ => true
  | .entryInstant _ => true
  | .transitionEnd => true
  | .wakeStageEnd => true
  | .wakeStageTimerExpiry => true
  | .groupWakeStageEnd _ => true
  | .groupWakeTimeout _ => true
  | .wakeNAssert => true
  | .qb0ClockWake => true
  | .aonTimerExpiry => true
  | .mspiCsWake => true
  | .bellWord word => word.length == 5
  | .ttLightMark _ _ _ => true
  | .pmbAlert _ => true
  | .powerGoodLoss _ => true
  | .vcoreTargetWrite _ _ => true
  | .avsbusTransactionEnd _ _ _ => true
  | .regulatorTimeout _ _ => true
  | .marginWrite _ _ => true
  | .pwrVetoWrite _ _ => true
  | .pingIrqPulseEnd => true
  | .journalSectorEraseEnd => true

end Sys2Proof
end

