-- ==== Sys2Proof/Tests/Slice0.lean ====
section
/-!
SUPPORT. Tests: ill-formed commands, worked values of the spec, and for every statement with hypotheses a state and operands that meet them
(a statement of several clauses has one such witness for each clause).
-/

namespace Sys2Proof.Tests

open Sys2Proof.Machine

set_option maxRecDepth 100000
set_option Elab.async false

/-! ### Helper states of the witnesses -/

def base : State := { State.reset with domains := List.range 17 }
def on (s : State) (f : Fld) (v : Nat) : State := s.setFld f v
def ons (s : State) (fs : List (Fld × Nat)) : State := fs.foldl (fun s p => s.setFld p.1 p.2) s
def dirHead : List Byte :=
  let e := fun ty off sz => leBytes 4 ty ++ leBytes 4 off ++ leBytes 4 sz ++ leBytes 4 0
  leBytes 4 0x52445846 ++ leBytes 2 1 ++ leBytes 1 4 ++ leBytes 1 1 ++ leBytes 4 7 ++ leBytes 4 0 ++
    e 1 0x20000 0x100000 ++ e 2 0x120000 0x100000 ++ e 3 0x220000 0x10000 ++ e 4 0x240000 0x20000
def flashD : State :=
  { base with flash := dirHead.zipIdx.map (fun p => (p.2, p.1)) ++ ((leBytes 4 3005794198).zipIdx 4092).map (fun p => (p.2, p.1)) ++ [(0x20006,0),(0x20007,0)] }
def dirD : Directory := ⟨0, false, 1, 7, ⟨0x20000, 0x100000⟩, ⟨0x120000, 0x100000⟩, ⟨0x220000, 0x10000⟩, ⟨0x240000, 0x20000⟩⟩
def b1 : State :=
  (ons base [(Fld.BOOT_ATTEMPTS_COUNT,2),(Fld.BOOT_ATTEMPTS_LIMIT,3),(Fld.DEV_RESET_INFO_COUNT,65535),(Fld.DEV_STRAPS_BOARD_ID,5),(Fld.LNK_CTRL_ENABLE,1),(Fld.BOOT_STATUS_DETAINED,1),(Fld.DEV_MSPI_ERR_CRC,3)]).putStore 0x10000000 [1,2,3]
def start5 : State := ons base [(Fld.BOOT_STATUS_COMPLETE,1),(Fld.BOOT_STATUS_STEP,16),(Fld.PWR_STATUS_STATE,0)]
def start0 : State := {ons base [(Fld.LNK_STATUS_STATE,5),(Fld.CLK_STATUS_FABRIC_ON_ROOT,1)] with clk := ⟨0,1020⟩}
def start8 : State :=
  {ons flashD [(Fld.BOOT_STATUS_STEP,2),(Fld.BOOT_ATTEMPTS_COUNT,1),(Fld.BOOT_ATTEMPTS_LIMIT,3)] with boot := {base.boot with kind := .pin}}
def jw : JournalWrite := ⟨List.replicate 64 5, 0x240040, true, ⟨1,1,0,4,0,.goOn,[]⟩⟩
def start14 : State := {base with boot := {base.boot with dir := some dirD, writing := some jw}}
def start15 : State :=
  {(ons flashD [(Fld.BOOT_STATUS_STEP,13)]).putFlash 0x240000 [1,2,3] with boot := {base.boot with dir := some dirD, erasing := true, waiting := [⟨2,2,0,4,0,.restart,[]⟩]}}
def start11 : State := {ons base [(Fld.BOOT_STATUS_STEP,6)] with boot := {base.boot with dir := some dirD}}
def start12 : State := ons base [(Fld.BOOT_STATUS_STEP,8)]
def start13 : State := {ons base [(Fld.BOOT_STATUS_STEP,8)] with boot := {base.boot with dir := some dirD, hot := true}}
def start7 : State := {ons b1 [(Fld.BOOT_STATUS_STEP,13),(Fld.BOOT_STATUS_DETAINED,0)] with boot := {base.boot with dir := some dirD}}
def start6 : State := ons b1 [(Fld.BOOT_STATUS_STEP,14),(Fld.BOOT_STATUS_DETAINED,0)]
def start18 : State := {ons base [(Fld.BOOT_STATUS_STEP,10)] with boot := {base.boot with dir := some dirD, sections := [0,1], header := []}}
def start19 : State :=
  {ons base [(Fld.BOOT_STATUS_STEP,10)] with boot := {base.boot with dir := some dirD, sections := [0,1], header := List.replicate 1120 0 ++ leBytes 2 1 ++ List.replicate 3000 0}}
def start16 : State :=
  {(ons flashD [(Fld.BOOT_STATUS_STEP,15),(Fld.LNK_STATUS_STATE,5)]).putFlash 0x240000 [1,2,3] with boot := {base.boot with dir := some dirD}}
def start1 : State := {ons base [(Fld.CLK_PHASE_BUSY,1)] with clk := ⟨3,5⟩}
def lopS (s : State) (n st : Nat) : State := s.setFld (Fld.LOP_STATn_STATE n) st
def withRegs (s : State) (l : List (Nat × Nat)) : State := l.foldl (fun s p => s.wr p.1 (BitVec.ofNat 32 p.2)) s
def slot0 : State := flashD
def bd : State := {slot0 with boot := {base.boot with density := 0x2000000, dir := some dirD}}
def fl := fun a l sr => withRegs bd [(Reg.BOOT_FL_ADDR,a),(Reg.BOOT_FL_LEN,l),(Reg.BOOT_FL_SRC,sr)]
def flash8 : State := lopS (fl 0x220000 0x10000 0x10000000) 7 2
def flash3 : State := fl 0x220000 0x10000 0x10000000
def flash0 : State := base.setFld Fld.PROC_DBG_STATUS_CHAL_VALID 1
def fop (o src ad len st done : Nat) : FlashOp := ⟨o,src,ad,len,st,done⟩
def flash9 : State := {lopS (fl 0x220000 0x10000 0x10000000).useFresh 7 2 with flashOps := [.lop7 (fop 0 0 0x220000 0x10000 0 0)]}
def flash12 : State := {lopS bd 7 2 with flashOps := [.lop7 (fop 2 0 0x0 0x100 0 0)]}
def flash14 : State := {((lopS bd 8 2).setFld (Fld.LOP_STATn_UNITS_TOTAL 8) 4).setFld (Fld.LOP_STATn_UNITS_DONE 8) 1  with flashOps := [.lop8 0]}
def flash15 : State := base.setFld Fld.PROC_CMD_STATUS_BUSY 1
def flash16 : State := lopS base 6 2
def flash18 : State := {base with sec := {base.sec with running := some ⟨1,0,[(32,5),(32,8),(33,1)],0⟩}}
def flash23 : State := {lopS base 6 2 with sec := {base.sec with attUnits := 2}}
def flash24 : State := {lopS base 6 2 with sec := {base.sec with attUnits := 3}}
def bs : State := (ons base [(Fld.BOOT_STATUS_STEP,16),(Fld.DEV_SCRATCH_VALUE,0xABCD1234)])
def fab3 : State := {bs with mspi := {bs.mspi with held := some ⟨false,4,0,true,stOk,7⟩}}
def fab4 : State := {bs with mspi := {bs.mspi with held := some ⟨false,12,0,false,0,0⟩}}
def fab7 : State := {bs with mspi := {bs.mspi with posted := List.replicate 4 (0x10000004,5)}}
def fab5 : State := {bs with mspi := {bs.mspi with posted := [(0x10000004,5),(0x10000008,6)]}}
def fab6 : State := {bs with mspi := {bs.mspi with posted := [(0x10000004,5)]}, banksOff := [0]}
def mq (op : Nat) : MgqState := ⟨leBytes 2 5 ++ [3,0] ++ leBytes 4 op ++ leBytes 4 0xC ++ leBytes 4 0x11223344 ++ leBytes 4 0xFF00FF, 0, 0, [], false⟩
def fab8 : State := {bs with link := {bs.link with mgq := some (mq 1)}}
def fab9 : State := {bs with link := {bs.link with mgq := some (mq 2)}}
def fab10 : State := {bs with link := {bs.link with mgq := some (mq 3)}}
def L (s : State) (f : LinkState → LinkState) : State := {s with link := f s.link}
def link1 : State :=
  (fun s => L s (fun l => {l with maxes := [0,0,0,0]})) (ons base [(Fld.LNK_CTRL_ENABLE,1),(Fld.CLK_STATUS_ROOT_LOCK,1),(Fld.LNK_LANE_STATUSe_HDR_ERR 3,7),(Fld.LNK_LANE_STATUSe_PHASE 3,7)])
def lk (s : State) (n : Nat) : State := (s.wr Reg.LNK_WIDTH_MAX 0).setFld Fld.LNK_STATUS_STATE n
def link2 : State := (fun s => L s (fun l => {l with maxes := [0,0,0,0]})) (lk base 1)
def link3 : State := (fun s => L s (fun l => {l with maxes := [0,0,0,0]})) (lk base 2)
def link4 : State := (fun s => L s (fun l => {l with maxes := [0,0,0,0]})) (lk base 3)
def link5 : State := (fun s => L s (fun l => {l with maxes := [0,0,0,0]})) (L (lk base 3) (fun l => {l with locked := [22,32], deskew0 := 0}))
def link6 : State :=
  (fun s => L s (fun l => {l with maxes := [0,0,0,0]})) (L ((lk base 3).setFld Fld.LNK_STATUS_RX_LOCKED 1) (fun l => {l with locked := [22,32], deskew0 := 7}))
def capB : List Byte := leBytes 1 3 ++ leBytes 1 2 ++ leBytes 1 0 ++ leBytes 1 0 ++ leBytes 1 0x44 ++ leBytes 1 0x44 ++ leBytes 2 8160 ++
  List.replicate 152 0
def rc : State :=
  L (lk base 4) (fun l => {l with cap := capB, capVersion := 1, peer := some capB, acked := true, ackSent := true, locked := [22,32]})
def link7 : State :=
  (fun s => L s (fun l => {l with maxes := [0,0,0,0]})) (rc.setFld (Fld.LNK_LANE_STATUSe_DETECTED 0) 1 |>.setFld (Fld.LNK_LANE_STATUSe_DETECTED 10) 1)
def link9 : State := (fun s => L s (fun l => {l with maxes := [0,0,0,0]})) (L rc (fun l => {l with switchSent := true, widths := [4,15,4,15]}))
def act : State :=
  L ((lk (ons base [(Fld.QUE_STATUS_MAX_LEN,8160),(Fld.QUE_STATUS_LEVEL,3)]) 5)) (fun l => {l with widths := [4,15,4,15], maxes := [0,0,0,0]})
def link10 : State := (fun s => L s (fun l => {l with maxes := [0,0,0,0]})) act
def link16 : State := (fun s => L s (fun l => {l with maxes := [0,0,0,0]})) (ons base [(Fld.LNK_TEST_CHK_EN,1),(Fld.CLK_STATUS_ROOT_LOCK,1)])
def link15 : State :=
  (fun s => L s (fun l => {l with maxes := [0,0,0,0]})) (L ((lk base 6).setFld Fld.LNK_TEST_CHK_EN 1) (fun l => {l with testMs := 5}))
def link17 : State := (fun s => L s (fun l => {l with maxes := [0,0,0,0]})) ((act.setFld (Fld.LOP_STATn_STATE 9) 2))
def link21 : State := (fun s => L s (fun l => {l with maxes := [0,0,0,0]})) (act.wr Reg.LNK_MARGIN_DEST 0x10000040)
def link18 : State :=
  (fun s => L s (fun l => {l with maxes := [0,0,0,0]})) (L (act.setFld (Fld.LOP_STATn_STATE 9) 2) (fun l => {l with scan := [22,23], scanDest := 0x10000000}))
def qs (s : State) (l : List (Nat × QueueState)) : State := l.foldl (fun s p => s.setQueue p.1 p.2) s
def q0 : QueueState := QueueState.empty
def qa : QueueState := {q0 with use := true, unlimited := true}
def sp (n b : Nat) : StoredPkt := ⟨mkHeader 5 0 n 0 300 0 ++ List.replicate 300 1, b = 1, 3, 4, [], []⟩
def link11 : State :=
  (fun s => L s (fun l => {l with maxes := [0,0,0,0]})) (qs act [(17,{qa with pkts := [sp 17 0]}),(3,{qa with pkts := [sp 3 1, sp 3 0, sp 3 0]}),
  (26, {qa with pkts := [sp 26 0]}), (10, {qa with reports := []}), (2, {qa with reports := [5,6]}), (27, qa)])
def pkt (ty q sub : Nat) (pl : List Byte) : List Byte := let p := mkHeader ty 0 q sub pl.length 0 ++ pl; p ++ leBytes 4 (crc32 p)
def mgqP : List Byte := leBytes 2 5 ++ [1,0] ++ leBytes 4 1 ++ leBytes 4 0xC ++ leBytes 4 0 ++ leBytes 4 0
def link12 : State := (fun s => L s (fun l => {l with maxes := [0,0,0,0]})) (L (qs act [(26,qa),(27,qa),
  (10,{qa with pkts := [⟨pkt 0x20 10 2 mgqP,false,0,0,[],[]⟩]})]) (fun l => {l with records := [(⟨3,4,5⟩,6),(⟨3,4,5⟩,7)], lbk := some (1,[1,2])}))
def link13 : State :=
  (fun s => L s (fun l => {l with maxes := [0,0,0,0]})) (qs ((act.setFld (Fld.QUE_GRANTn_TOTAL 10) 50).setFld (Fld.QUE_GRANTn_TOTAL 3) 50) [(10,qa),(27,qa),(3,{qa with dirty := true}),(16,qa)])
def link8 : State := (fun s => L s (fun l => {l with maxes := [0,0,0,0]})) (L rc (fun l => {l with acked := false}))
def link0 : State := (fun s => L s (fun l => {l with maxes := [0,0,0,0]})) (State.reset)
def link23 : State :=
  (fun s => L s (fun l => {l with maxes := [0,0,0,0]})) (L (qs act [(17,{qa with pkts := [sp 17 0]})]) (fun l => {l with flight := [⟨0,17,[1,2,3],5,[]⟩]}))
def b0 : State := ons base [(Fld.CST_STATUS_READY,1),(Fld.CST_SCRUB_CTRL_PERIOD,5)]
def dma3 : State := {ons b0 [(Fld.CST_SCRUB_POS_ROW, 7)] with ecc := [(0x4001d,1)]}
def dma4 : State := {ons b0 [(Fld.CST_SCRUB_POS_ROW, 65535)] with scrubUnc := 9}
def dma5 : State := ons b0 [(Fld.LOP_STATn_STATE 5, 2),(Fld.LOP_STATn_UNITS_TOTAL 5, 64)]
def chn (s : State) (st : Nat) (c : DmaState) (rem : Nat) : State := ((s.setDmaState 1 st).setChan 1 c).setFld (Fld.DMA_CHn_REMAIN_WORDS 1) rem
def A := 0x10000000
def dma6 : State := chn b0 1 ⟨[], .mspi, some A, none, 0⟩ 0
def ds (src dst len fl chain next tag : Nat) : List Byte := leBytes 4 src ++ leBytes 4 dst ++ leBytes 3 len ++ [0] ++ leBytes 4 0 ++ leBytes 4 0 ++
  leBytes 1 fl ++ [0,0,0] ++ leBytes 4 (next+chain) ++ leBytes 4 tag
def dma9 : State := chn (b0.putStore (A+0x102) (List.replicate 200 7)) 1 ⟨(ds (A+0x100) (A+0x3fc) 3 1 0 0 0x12345678), .mspi, none, none, 0⟩ 3
def dma15 : State := (chn b0 4 ⟨(ds 0x100 (A+0x400) 8 0 1 (A+64) 0x12345678), .mspi, none, none, 0⟩ 6).setFld (Fld.DMA_CHn_STATUS_ERR 1) 3
def dma11 : State := chn b0 1 ⟨(ds (A+0x100) (A+0x400) 8 1 0 0 0x12345678), .mspi, none, none, 0⟩ 0
def dma12 : State := chn b0 1 ⟨(ds (A+0x100) (A+0x400) 8 0 1 (A+64) 0x12345678), .mspi, none, none, 0⟩ 0
def dma14 : State := chn b0 1 ⟨(ds 0x100 (A+0x400) 8 0 1 (A+64) 0x12345678), .mspi, none, none, 0⟩ 6
def T (s : State) (f : AirState → AirState) : State := {s with time := f s.time}
def act2 : State := L ((lk (ons base [(Fld.QUE_STATUS_MAX_LEN,8160),(Fld.QUE_STATUS_LEVEL,3)]) 5)) (fun l => {l with widths := [4,15,4,15]})
def lk2 : State :=
  {T (qs act2 [(0,qa),(8,qa),(9,qa),(11,qa)]) (fun t => {t with everLocked := true}) with air := 3000000} |> fun s => ons s [(Fld.QUE_GRANTn_TOTAL 0,100),(Fld.QUE_GRANTn_TOTAL 8,100),(Fld.QUE_GRANTn_TOTAL 9,100),(Fld.QUE_GRANTn_TOTAL 11,100)]
def pk (ty q len atag : Nat) (pl : List Byte) : List Byte := let p := mkHeader ty 0 q 0 len atag ++ pl; p ++ leBytes 4 (crc32 p)
def atg (f sl sy : Nat) : Nat := mkAtag f sl sy 0 0 0
def kNear (d : Nat) : Nat × Nat := (symbolOf 1 (lk2.air + d) / 14, symbolOf 1 (lk2.air + d) % 14)
def secPl : List Byte := [1,0] ++ leBytes 2 1 ++ (leBytes 2 5 ++ leBytes 2 0 ++ leBytes 2 4 ++ [0,0] ++ leBytes 2 3 ++ leBytes 2 0 ++ leBytes 4 0)
def secp (d : Nat) : List Byte := pk 3 8 20 (atg 2 (kNear d).1 (kNear d).2) secPl
def carOn : List Word := [0x80100000#32 ||| 0x40000 ||| (BitVec.ofNat 32 (1*512)) ||| 100#32] ++ List.replicate 23 0
def lkC : State := ({lk2 with dlc := {lk2.dlc with inForce := carOn}}).setFld Fld.BMB_CFG_COUNT 100
def kAt (d : Nat) : Nat := airOf 1 2 (14*(kNear d).1 + (kNear d).2)
def lkA : State := ons lk2 [(Fld.ATM_SYNC_CTRL_SRC,1),(Fld.ATM_SYNC_STATUS_STATE,2),(Fld.ATM_SYNC_CTRL_TOL,5)]
def air4 : State := T base (fun t => {t with edge := some 5})
def air5 : State := ons base [(Fld.ATM_SYNC_CTRL_SRC,2)]
def air9 : State := ons base [(Fld.ATM_SYNC_STATUS_STATE,2),(Fld.ATM_SET_LO_VALUE,55)]
def air10 : State := T base (fun t => {t with step := some (-7)})
def air11 : State := {ons base [(Fld.ATM_CTRL_AO_EN,1)] with air := 1228805}
def rowW (s : State) (b r : Nat) (w0 w1 : Nat) : State :=
  (s.wr (Reg.ATM_TT_ROW b (4*r)) (BitVec.ofNat 32 w0)).wr (Reg.ATM_TT_ROW b (4*r+1)) (BitVec.ofNat 32 w1)
def swp : State := (T base (fun t => {t with everLocked := true, period := 4})).setFld Fld.ATM_TT_CTRL_SWAP 1
def airt2 : State := rowW (rowW {swp with air := 10000} 0 0 (0 + 65536*56) (255 + 1*256)) 1 0 (4096) 7
def mapB : List Byte := leBytes 4 0x4D415846 ++ leBytes 1 1 ++ List.replicate 11 0 ++ leBytes 8 77 ++ [1,1,0,0,0,0,0,0]
def bst (s : State) (n : Nat) : State := ons s [(Fld.BMB_UPD_STATUS_STATE,n),(Fld.BMB_UPD_CTRL_COUNT,1),(Fld.BMB_UPD_CTRL_GO,1)]
def air15 : State := bst base 1
def el : AirState → AirState := fun t => {t with everLocked := true}
def air20 : State := T (bst (base.wr Reg.BMB_UPD_ADDR 0x10000100 |>.putStore 0x10000100 [3,4,5,6,7]) 1) el
def air18 : State := T (bst base 2) el
def air22 : State := T {bst base 3 with bmb := ⟨[5,0,1,3] ++ List.replicate 256 9,1000⟩} el
def chain22 : State := ons base [(fIqSwap true,1),(fIqSwap false,1),(fCommitPending true, 1),(fCommitPending false, 1)]
def chain23 : State := (base.wr (Reg.DLC_CARc_CFG0 1) 0x80000000).wr (Reg.ULC_CARc_CFG0 1) 0x80000000
def hs : HeldSec := ⟨false,0,0,5,0,1,0,7,0,0,0,3⟩
def car0 (nprb : Nat) : List Word := [BitVec.ofNat 32 (0x80000000 + 0x0ff00000 + 0x40000*1 + 0x10000*2 + 512*1 + nprb), 0, 0] ++ List.replicate 21 0
def dl : State := {lk2 with dlc := {lk2.dlc with inForce := car0 2}, time := {lk2.time with everLocked := true}}
def aa := (dl.fetchSymbol false 0).2
def hold1 (s : State) : State := {s with sect := ⟨[{hs with air := aa}], 9⟩}
def chain24 : State := {hold1 dl with dlc := ⟨car0 2, car0 3, 5, 20, [],[],[]⟩}
def chain21 : State := ons base [(Fld.ULC_CARc_FIR_CTRL_SWAP 1,1)]
def lg (a : Nat) : SymbolLog := ⟨a,255,0,0,0,0,0,false,0,[],[],false,[],[],[]⟩
def rs : State := let s := T (ons base [(Fld.ULC_PATHp_RSSI_CFG_EN 1,1),(Fld.ULC_PATHp_RSSI_LOW 1,1),(Fld.ULC_PATHp_RSSI_CFG_WIN_LOG2 1,4)]) (fun t => {t with everLocked := true, period := 4}); {s with air := 100, rssi := [(1,50)], rf := {s.rf with log := [lg 0]}, smp := {s.smp with rx := [(0, [[],[],[]] ++ [(List.replicate 900 (0x4000800#28))])]}}
def chain3 : State := hold1 dl
def dldp : StoredPkt := ⟨(mkHeader 1 0 0 5 28 0) ++ (leBytes 2 0 ++ leBytes 2 1 ++ [3] ++ List.replicate 21 0x35 ++ [0,0]), false, aa, 4, [], []⟩
def chain5 : State := qs (hold1 dl) [(0,{qa with pkts := [dldp]}),(8,{qa with pkts := [⟨secp 1000,false,aa,3,[],[]⟩]})]
def ttD (s : State) : State :=
  (T (s) (fun t => {t with period := 4})).wr (Reg.ATM_TT_ROW 0 0) (BitVec.ofNat 32 (65536*56)) |>.wr (Reg.ATM_TT_ROW 0 1) (BitVec.ofNat 32 (255))
def ul : State := {ttD lk2 with ulc := {lk2.ulc with inForce := car0 2}} |>.wr (Reg.ATM_TT_ROW 0 1) (BitVec.ofNat 32 (255 + 256))
def chain7 : State := {ul with sect := ⟨[{hs with air := aa, up := true}], 9⟩}
def usec : UlSection := ⟨{hs with up := true, air := aa}, List.replicate 64 (65536,0)⟩
def job : UlJob := ⟨0,aa,aa+100,1,2,(car0 2).take 3,255,1,[usec]⟩
def withJ (s : State) : State := {s with ul := {s.ul with jobs := [job]}}
def lgJ : SymbolLog := {lg aa with air := symStart 1 aa}
def chain9 : State := (let s := withJ ul; {s with rf := {s.rf with log := [lgJ]}})
def reg (s : State) : State := (((s.wr (Reg.CST_REGIONn 0 0) 0x200).wr (Reg.CST_REGIONn 0 1) 0x10000000).wr (Reg.CST_REGIONn 0 2) 0x100000)
def chain11 : State := (let s := reg (withJ (qs ul [(16,qa),(24,qa)])); {s with rf := {s.rf with log := [lgJ]}})
def chain14 : State :=
  qs (ons ul [(Fld.ULC_AGE_MS,1)]) [(16,{qa with pkts := [dldp,dldp]})] |> fun s => qs s [(17,{qa with pkts := [{dldp with air := 0}]})]
def pra : State := ons ul [(Fld.ULC_PRAe_CFG0_EN 1,1),(Fld.ULC_PRAe_CFG1_PERIOD 1,1),(Fld.BMB_CFG_COUNT,50)]
def run1 : PraRun := {pra.praRun 1 (pra.praSlot 1 pra.air) with beams := [2]}
def chain17 : State := {reg (qs ul [(24,qa)]) with ul := ⟨[],[(1,run1)],[]⟩}
def A2 := 0x10000100
def b12 : State :=
  ons base [(Fld.RFE_PGg_CFG_FITTED 0,1),(Fld.RFE_PGg_CFG_FITTED 1,1),(Fld.LIN_PGg_LOAD_ADDR_ADDR 1,A2),(Fld.LIN_PGg_SEQ_CTRL_PATHS 1,6)]
def lin2 : State := ons b12 [(Fld.LIN_PGg_LOAD_STATUS_STATE 1,1),(Fld.LIN_PGg_SWAP_CTRL_GO 1,1)]
def g1 (s : State) (f : LinGroup → LinGroup) : State := s.setLg 1 (f (s.lg 1))
def lin3 : State := g1 (b12.putStore A2 (List.replicate 500 7)) (fun x => {x with load := some ⟨true,2,1,false,A2⟩})
def lin5 : State := g1 b12 (fun x => {x with swap := some (1,6)})
def ttD' (s : State) : State :=
  {s with time := {s.time with period := 4}} |>.wr (Reg.ATM_TT_ROW 0 0) (BitVec.ofNat 32 (65536*56)) |>.wr (Reg.ATM_TT_ROW 0 1) (BitVec.ofNat 32 (255))
def lockd : State := {b12 with time := {b12.time with everLocked := true}}
def lin8 : State :=
  g1 {ttD' (ons lockd [(Fld.LIN_PGg_SEQ_CTRL_MODE 1,1)]) with air := 3000} (fun x => {x with last := 0, selAt := some 7, sel := base.fld (Fld.LIN_PGg_ORXMAP_SELi 1) / 8 % 8})
def cap1 : Capture := ⟨2,1,0,0,false,55,3,0,0,true⟩
def lin10 : State := g1 (ons lockd [(Fld.LIN_PGg_SEQ_CTRL_MODE 1,2),(Fld.LIN_PGg_SEQ_CTRL_DRAIN_EN 1,1)]) (fun x => {x with window := some cap1})
def lin11 : State := ons lockd [(Fld.LIN_PGg_SEQ_CTRL_MODE 1,1),(Fld.LIN_PGg_SEQ_CTRL_INTERVAL 1,1),(Fld.LIN_PGg_CAP_STATUS_HELD 1,1)]
def lin12 : State := g1 (ons lockd [(Fld.LIN_PGg_CAP_STATUS_HELD 1,1),(Fld.LIN_PGg_SEQ_CTRL_DRAIN_EN 1,1)]) (fun x => {x with record := [1]})
def lin14 : State := g1 (ons lockd [(Fld.LIN_PGg_COR_DEST_ADDR 1,A2),(Fld.LIN_PGg_COR_CTRL_NBASIS 1,2)]) (fun x => {x with run := some cap1})
def lin16 : State := ons b12 [(Fld.LIN_LOP2_PATHS_LO_PATHS,0x300),(Fld.LIN_LOP2_DEST_ADDR,A2)]
def lin15 : State := ons b12 [(Fld.LOP_STATn_STATE 2,2)]
def lin17 : State := {b12 with lin := {b12.lin with lop2 := some ⟨[5,6],1,A2⟩}}
def lin19 : State := ons b12 [(Fld.LIN_CTRL_KSWAP,1),(Fld.LIN_PATHp_LOOP_STATUS_CORR 1,7),(Fld.LIN_PATHp_SAT_PD 5,4)]
def sy (s : State) (f : Synth → Synth) : State := s.setSynth 1 0 (f (s.synth 1 0))
def ent2 : List Byte := leBytes 4 0 ++ [100#8, (0x80 + 2 : BitVec 8)]
def ent : List Byte := leBytes 4 0 ++ [60#8, (0x80 + 8 : BitVec 8)]
def b13 : State := ((ons base [(Fld.RFE_PGg_CFG_FITTED 0,1),(Fld.CLK_STATUS_ROOT_LOCK,1)]).putChanBytes 1 0 ent2).putChanBytes 2 0 ent
def rfe2 : State := sy b13 (fun y => {y with pretuned := some 0})
def lo (s : State) (n : Nat) : State := ons s [(Fld.RFE_PGg_LOx_STATUS_STATE 1 0, n),(Fld.RFE_PGg_LOx_STATUS_CHAN 1 0, 1)]
def rfe4 : State := lo b13 1
def rfe5 : State := lo b13 2
def rfe9 : State := sy (lo (b13.setFld (Fld.RFE_PGg_LOx_PHASE_BUSY 1 0) 1) 3) (fun y => {y with phaseLeft := -500})
def rfe8 : State := sy (lo b13 3) (fun y => {y with phaseLeft := 5000})
def rfe11 : State := ons (lo b13 3) [(Fld.CLK_STATUS_ROOT_LOCK,0),(Fld.CLK_STATUS_FABRIC_ON_ROOT,1)]
def rff (s : State) (r : RffeRun) : State := (s.setRffe 1 (some r)).setFld (Fld.RFE_PGg_RFFE_CTRL_BUSY 1) 1
def rfe13 : State := rff b13 ⟨0,1,true⟩
def rfe15 : State := rff (ons b13 [(Fld.RFE_PGg_RFFE_ENTj_W0_TIMED 1 0,1),(Fld.RFE_PGg_RFFE_ENTj_W2_ATIME 1 0, 0)]) ⟨0,1,false⟩
def b14 : State :=
  ons {base with dlc := {base.dlc with inForce := car0 60}, ulc := {base.ulc with inForce := car0 60}} [(Fld.SFD_LOAD_ADDR_ADDR,A2),(Fld.SFD_CAP_DEST_ADDR,A2),(Fld.SFD_LOP3_DEST_ADDR,A2),(Fld.SFD_CTRL_EN,1)]
def sfd4 : State := ons b14 [(Fld.SFD_STATUS_COMMIT_PENDING,1),(Fld.SFD_LOAD_CTRL_GO,1),(Fld.SFD_CAP_CTRL_GO,1),(Fld.LOP_STATn_STATE 3,2)]
def pl : List Word := [0#32 , BitVec.ofNat 32 (20 + 65536*10), BitVec.ofNat 32 (2+256*2)]
def withPl (s : State) : State := ((s.wr Reg.SFD_CFG0 (pl.getD 0 0)).wr Reg.SFD_CFG1 (pl.getD 1 0)).wr Reg.SFD_CFG2 (pl.getD 2 0)
def sfd3 : State := withPl b14
def sf (s : State) (f : SfdState → SfdState) : State := {s with sfd := f s.sfd}
def sfd5 : State := sf b14 (fun x => {x with next := pl})
def w1 : SfdWindow := ⟨1,8,0,255,5,A2,false⟩
def sfd1 : State := sf b14 (fun x => {x with window := some w1})
def sfd6 : State := sf (b14.putStore A2 (defaultSet.take 100)) (fun x => {x with load := some ⟨true,3,A2,none⟩})
def sfd7 : State := sf b14 (fun x => {x with load := some ⟨false,3,A2,none⟩})
def sfd8 : State := sf b14 (fun x => {x with load := some ⟨true,3,A2,some 16⟩})
def onPl (s : State) : State := sf (withPl s) (fun x => {x with plan := pl, en := true})
def sbTT (s : State) : State :=
  ({onPl s with time := {s.time with period := 4}} |>.wr (Reg.ATM_TT_ROW 0 0) (BitVec.ofNat 32 (65536*56)) |>.wr (Reg.ATM_TT_ROW 0 1) (BitVec.ofNat 32 (255 + 3*256)))
def sfd9 : State := sbTT (ons b14 [(Fld.SFD_CAP_CTRL_GO,1),(Fld.SFD_CAP_CTRL_CLASS_ANY,1)])
def sfd10 : State := sf b14 (fun x => {x with lop3 := some ⟨[5,6],1,A2⟩})
def dirs1 (s : State) : State := {s with rf := {s.rf with dirs := (List.range 8).map (fun k => if k = 1 then dirSb else dirF)}}
def sfd12 : State := dirs1 b14
def lg2 (a : Nat) : SymbolLog := ⟨a,255,2,0,0,0,0,false,0,[],[],false,[],[],[]⟩
def short (s : State) : State :=
  {dirs1 s with rf := {(dirs1 s).rf with start := 8, stop := 12, log := [lg2 0]}, time := {s.time with everLocked := true, period := 4}, air := 100, smp := {s.smp with rx := [(0, List.replicate 8 [] ++ [List.replicate 400 0x7ffdfff#28])]}}
def busy0 (s : State) (l : Lop0) : State := {s.setFld (Fld.LOP_STATn_STATE 0) 2 with cal := {s.cal with lop0 := some l}}
def b15 : State := ((ons base [(Fld.RFE_PGg_CFG_FITTED 0,1),(Fld.RFE_PGg_CFG_FITTED 1,1),(Fld.RFE_PGg_LOx_STATUS_STATE 1 0,
  3),(Fld.RFE_PGg_LOx_STATUS_CHAN 1 0, 1),
  (Fld.CAL_ARR_CHAN_CHAN,1),(Fld.CAL_ARR_CFG_PG_MASK,3),(Fld.CAL_ARR_CFG_REF_PATH,9),(Fld.CAL_ARR_CFG_REP,2),(Fld.CAL_ARR_DEST_ADDR,A2),(Fld.CAL_FORCE_AT_SFN,20),(Fld.CAL_FORCE_AT_SLOT,3),
  (Fld.CAL_LOAD_ADDR_ADDR,A2),(Fld.CAL_SAVE_ADDR_ADDR,A2),(Fld.CAL_SAVE_LEN_LEN,68)])).putChanBytes 1 0 ent2
def l0 : Lop0 := ⟨2,0,true,false,1,4,true,9,2,A2,3,5,0,0,512⟩
def cal2 : State := busy0 b15 {l0 with forced := false}
def cal3 : State := b15.setFld Fld.RFE_CAL_STATUS_STATE loVcoCal
def cal4 : State := busy0 b15 {l0 with chips := 512}
def cal5 : State := (busy0 {b15 with cal := {b15.cal with slots := [(61440,1),(61440*2,2)]}} l0).setFld Fld.RFE_CAL_STATUS_STATE loLocked
def cal6 : State := {b15 with cal := {b15.cal with slots := [(61440*2,2)]}}
def cal7 : State := b15.setFld Fld.CAL_LOAD_CTRL_GO 1
def cal9 : State := {b15.putStore A2 (List.replicate 1280 0xff) with cal := {b15.cal with load := some (4,A2)}}
def blk : List Byte := (List.range 320).flatMap (fun i => leBytes 4 (pointMask (4*i)))
def cal10 : State := {b15 with cal := {b15.cal with load := some (4,A2), block := blk, boundary := 99, old := [(Reg.CAL_PTk_HDR_W0 4, 5)]}}
def cal11 : State := b15.setFld (Fld.LOP_STATn_STATE 1) 2
def cal12 : State := {ons b15 [(Fld.LOP_STATn_UNITS_TOTAL 1,2)] with cal := {b15.cal with lop1 := some ⟨[1,2],0,0⟩}}
def cal14 : State := b15.setFld Fld.CAL_SAVE_CTRL_GO 1
def copyB : List Byte := let b := leBytes 4 0x45435846 ++ leBytes 2 2 ++ leBytes 2 0 ++ leBytes 4 9 ++ leBytes 4 68 ++ leBytes 8 b15.serial ++ List.replicate 40 0; b ++ leBytes 4 (crc32 b)
def dirC : Directory := {dirD with calrec := ⟨0x220000, 0x20000⟩}
def sv : State :=
  {((b15.putStore A2 copyB).setFld Fld.CAL_STATUS_REC_COPY 1).putFlash (0x220000) copyB with boot := {base.boot with dir := some dirC}, flashOps := [.save A2 68]}
def coreA : CoreState := { CoreState.idle with
  pc := 100
  sr := 0x1005
  regs :=
  [(0,0x7fffff),(1,0x800000),(2,5),(3,0xfffff0),(0x17,2),(0x20,0x123),(0x21,0x7ffffe),(0x24,0x110),(0x28,0x44),(0x2f,9),(0x30,0xfffff9),(0x31,3),(0x34,8),(0x40,0x20),(0x41,5)]
  acc := [(0,0x007fffff800000),(1,0xff123456800000),(2,0x80000000000000),(3,0x01800000ffffff)]
  mbxIn := [0xfffffff0#32, 7]
  x := [(0x123,0x345678),(7,9)]
  y := [(0x110,0x800001)]
  z := [(0x44,77)]
  prog := [(100,5),(101,6),(102,7),(103,8)] }
def mk (c : Nat) (w : Word) (f : CoreState → CoreState) : State :=
  ((on base (Fld.CORE_STATUS_STATE c) 1).setCore c (f {coreA with queue := [w, 6, 7]}))
def W (cls : Nat) (v : Nat) : Word := BitVec.ofNat 32 (cls * 2^28 + v)
def ctl (op imm : Nat) := W 0 (op*2^24+imm)
def core8 : State := mk 0 (ctl 1 0) (fun x => {x with stack := [(56,some 0x77)], sr := 0x1000})
def core56 : State := mk 0 (ctl 7 0) (fun x => {x with stack := [(56,some 0x77)], sr := 0x1000})
def core0 : State := mk 0 (ctl 0 0) (fun x => {x with stack := [(56,some 0x77)], sr := 0x1000})
def core16 : State := mk 0 (ctl 2 0) (fun x => {x with stack := [(56,some 0x77)], sr := 0x1000})
def core32 : State := mk 0 (ctl 4 0) (fun x => {x with stack := [(56,some 0x77)], sr := 0x1000})
def core40 : State := mk 0 (ctl 5 0x88) (fun x => {x with stack := [(56,some 0x77)], sr := 0x1000})
def core48 : State := mk 0 (ctl 6 0x1005) (fun x => {x with stack := [(56,some 0x77)], sr := 0x1000})
def br (op cond an tgt : Nat) := W 1 (op*2^24+cond*2^20+an*2^16+tgt)
def core72 : State := mk 0 (br 0 0 0 0x200) (fun x => {x with stack := [(56,some 0x77)], sr := 0x1000})
def core136 : State := mk 0 (br 4 0 1 0) (fun x => {x with stack := [(56,some 0x77)], sr := 0x1000})
def core96 : State := mk 0 (br 1 1 0 0x77) (fun x => {x with stack := [(56,some 0x77)], sr := 0x1000})
def core88 : State := mk 0 (br 1 0 0 0x200) (fun x => {x with stack := [(56,some 0x77)], sr := 0x1000})
def core112 : State := mk 0 (br 2 3 0 0) (fun x => {x with stack := [(56,some 0x77)], sr := 0x1000})
def core104 : State := mk 0 (br 2 0 0 0) (fun x => {x with stack := [(56,some 0x77)], sr := 0x1000})
def core105 : State := mk 0 (br 2 0 0 0) id
def core130 : State := mk 0 (br 3 4 0 0) (fun x => {x with sr := 0x105F ||| 0x2000})
def core120 : State := mk 0 (br 3 0 0 0) (fun x => {x with stack := [(56,some 0x77)], sr := 0x1000})
def core144 : State := mk 0 (W 2 (0*2^24+0*2^12+4)) (fun x => {x with stack := [(56,some 0x77)], sr := 0x1000})
def core152 : State := mk 0 (W 2 (3*2^12+4)) (fun x => {x with stack := [(56,some 0x77)], sr := 0x1000})
def core158 : State :=
  mk 0 (W 2 (3*2^12+4)) (fun x => {x with loops := [⟨98,104,1,0,[],false⟩,⟨98,104,1,0,[],false⟩,⟨98,104,1,0,[],false⟩,⟨98,104,1,0,[],false⟩]})
def core184 : State := mk 0 (W 2 (1*2^24+0x15*2^16+2)) (fun x => {x with stack := [(56,some 0x77)], sr := 0x1000})
def core160 : State := mk 0 (W 2 (1*2^24+2*2^16+4)) (fun x => {x with stack := [(56,some 0x77)], sr := 0x1000})
def core192 : State := mk 0 (W 2 (2*2^24)) (fun x => {x with stack := [(56,some 0x77)], sr := 0x1000})
def core208 : State := mk 0 (W 2 (3*2^24+2*2^16)) (fun x => {x with stack := [(56,some 0x77)], sr := 0x1000})
def core24 : State := mk 0 (ctl 3 0x155) (fun x => {x with stack := [(56,some 0x77)], sr := 0x1000})
def core64 : State := mk 0 (ctl 9 0) (fun x => {x with stack := [(56,some 0x77)], sr := 0x1000})
def core76 : State := mk 0 (br 0 0 0 0x200) (fun x => {x with stack := [(56,some 0x77)], loops := [⟨98,100,3,1,[],false⟩]})
def core4 : State := mk 0 (ctl 0 0) (fun x => {x with stack := [(56,some 0x77)], loops := [⟨98,100,3,1,[],false⟩]})
def core5 : State := mk 0 (ctl 0 0) (fun x => {x with loops := [⟨98,100,1,0,[],false⟩]})
def core7 : State := mk 0 (ctl 0 0) (fun x => {x with rpt := some (4, none)})
def alu (op d s sh : Nat) := W 5 (op*2^23+d*2^21+s*2^19+sh*2^14)
def core02 : State := mk 0 (alu 0 0 1 1) id
def core28 : State := mk 0 (alu 4 2 2 6) id
def core34 : State := mk 0 (alu 5 2 2 6) id
def core36 : State := mk 0 (alu 6 0 1 1) id
def core54 : State := mk 0 (alu 9 0 1 1) id
def core102 : State := mk 0 (W 6 (1*2^16)) id
def core110 : State := mk 0 (W 3 (0x30*2^21+0x8123)) id
def core118 : State := mk 0 (W 4 (0x14*2^21+0x06*2^14)) id
def mul (z op dual a b pair xen xd xm xr yen yd ym yr : Nat) :=
  W (8+z) (op*2^26+dual*2^25+a*2^23+b*2^21+pair*2^19+xen*2^18+xd*2^17+xm*2^14+xr*2^12+yen*2^11+yd*2^10+ym*2^7+yr*2^5)
def core03 : State := mk 0 (mul 0 1 0 1 0 0 1 0 1 0 1 0 1 0) id
def cm (op p j xen xd yen yd zen zd : Nat) := W 14 (op*2^26+p*2^25+j*2^24+xen*2^23+xd*2^22+1*2^19+yen*2^16+yd*2^15+3*2^12+zen*2^9+zd*2^8)
def core2 : State := mk 0 (cm 1 0 0 1 0 1 0 0 0) id
def core04 : State := mk 0 (mul 0 0 0 0 0 0 1 0 1 0 1 1 2 0) id
def sm (st mem an mode reg disp : Nat) := W 10 (st*2^27+mem*2^25+an*2^21+mode*2^18+reg*2^11+disp)
def core05 : State := mk 0 (sm 0 0 0 1 2 0) id
def core22 : State := mk 0 (sm 0 1 0 3 0x20 0) id
def core10 : State := mk 0 (sm 1 0 0 1 6 0) id
def sys (st an mode acc disp : Nat) := W 11 (st*2^27+an*2^21+mode*2^18+acc*2^16+disp)
def cores3 : State := mk 0 (sys 0 2 1 1 0) (fun x => {x with regs := SMap.set 0 x.regs 0x22 0x10})
def cores2 : State := mk 0 (sys 0 0 1 1 0) (fun x => {x with regs := SMap.set 0 x.regs 0x22 0x10})
def acc2 : SysAccess := ⟨true, 0x10000000, 5, 1, 2, 77, ctl 1 0⟩
def cores13 : State := mk 0 5 (fun x => {x with sys := some acc2})
def acc1 : SysAccess := ⟨false, 0x20002*4, 5, 1, 2, 77, ctl 1 0⟩
def cores12 : State := mk 0 5 (fun x => {x with sys := some acc1})
def cores6 : State := mk 0 (W 12 (1*2^16)) (fun x => {x with regs := SMap.set 0 x.regs 0x22 0x10})
def cores9 : State := mk 0 (W 12 (1*2^16)) (fun x => {x with mbxIn := []})
def cores7 : State := mk 0 (W 12 (2^24+1*2^16)) (fun x => {x with regs := SMap.set 0 x.regs 0x22 0x10})
def cores10 : State := mk 0 (W 12 (2^24+1*2^16)) (fun x => {x with mbxOut := List.replicate (mbxSize 0) 9, mbxIn := List.replicate (mbxSize 0) 9})
def cores8 : State := mk 0 (W 12 (2*2^24+200)) (fun x => {x with regs := SMap.set 0 x.regs 0x22 0x10})
def cores15 : State := ons (mk 0 5 (fun x => {x with sr := 0x1085})) [(Fld.CORE_IRQ_EN 0, 0xff),(Fld.CORE_IRQ_PEND 0, 0x8)]
def idl : State := on base (Fld.CORE_TIMER_PERIOD 0) 1
def cores20 : State := on (mk 0 5 id) (Fld.CORE_CTRL_RST 0) 0
def cores19 : State := ons (mk 0 5 id) [(Fld.CORE_CTRL_RST 0, 0),(Fld.CORE_STATUS_STATE 0, 3)]
def hk (s : State) (f : HkState → HkState) : State := {s with hk := f s.hk}
def arm (s : State) : State := hk s (fun h => {h with armed := [(2, 50)]})
def b16 : State := (ons base [(Fld.HK_LISTn_CH 2, 9),(Fld.HK_LISTn_WIN 2,
  3),(Fld.HK_CTRL_LEN,0)]).wr (Reg.HK_SCALEi 3) 0x14140A3D#32 |>.setFld (Fld.HK_CALi_W1_GAIN 3) (2^22)
def hk1 : State := arm b16
def run (r : HkRun) (s : State := b16) : State := hk s (fun h => {h with running := some r})
def r0 : HkRun := ⟨0,23,3,2,false⟩
def hk2 : State := arm (run r0)
def r3 : HkRun := ⟨3,4,3,2,false⟩
def hk3 : State := arm (run r3)
def hk6 : State := run ⟨3,8,3,2,false⟩
def hk9 : State := on b16 (Fld.LOP_STATn_STATE 4) 2
def rl : HkRun := ⟨3,23,3,0,true⟩
def sc : SysCal := ⟨3,false,3,List.replicate 15 7⟩
def hk10 : State := hk (run rl) (fun h => {h with lop4 := some sc})
def ev1 : EventRec := ⟨0x45,7,9⟩
def hk12 : State := {on b16 (Fld.EVT_ENk_EN 2) 0 with raise := [ev1]}
def hk11 : State := {b16 with raise := [ev1]}
def pw (s : State) (f : PwrState → PwrState) : State := {s with pwr := f s.pwr}
def b02 : State :=
  pw (ons base [(Fld.RFE_PGg_CFG_FITTED 0,1),(Fld.RFE_PGg_CFG_FITTED 1,1),(Fld.RFE_PGg_CFG_FITTED 5,1)]) (fun p => {p with base := some 0})
def offG (s : State) (gs : List Nat) : State := {s with domains := s.domains.filter (fun d => !(gs.map pdPg).contains d)}
def pwr1 : State := offG b02 [1]
def wt (s : State) (x : PwrTrans) : State := pw s (fun p => {p with trans := some x})
def t6 (tg off : Nat) : PwrTrans := ⟨⟨tg,1,off⟩,0,6,true,none,false,0,0,0⟩
def pwr5 : State := wt b02 (t6 2 0)
def pwr4 : State := on b02 Fld.PWR_VETO_HOLD 1
def pwr19 : State := on b02 (Fld.LOP_STATn_STATE 5) 2
def pwr7 : State := wt b02 (t6 4 0)
def pwr8 : State := wt b02 (t6 1 2)
def t0 (tg off : Nat) : PwrTrans := ⟨⟨tg,1,off⟩,0,0,false,none,false,0,0,0⟩
def pwr14 : State := pw (wt b02 (t0 0 0)) (fun p => {p with hotWaits := 3})
def pwr9 : State := wt (offG b02 [1]) (t0 1 2)
def bs2 (s : State) (n : Nat) : State := pw s (fun p => {p with base := some n})
def pwr12 : State := wt (bs2 b02 3) (t0 3 0)
def ttS (s : State) : State :=
  {s with time := {s.time with everLocked := true, period := 4}} |>.wr (Reg.ATM_TT_ROW 0 0) (BitVec.ofNat 32 (65536*56)) |>.wr (Reg.ATM_TT_ROW 0 1) (BitVec.ofNat 32 (255)) |>.wr (Reg.ATM_TT_ROW 0 2) 0x200 |>.setFld Fld.PWR_POLICY_TT_EN 1 |>.setFld Fld.PWR_POLICY_LIGHT_MIN 1
def pwr15 : State := ttS b02
def pwr17 : State := ttS (bs2 b02 2)
def slp (n : Nat) : State := {bs2 b02 n with domains := [pdAon], air := 77}
def tw (st b : Nat) (tg : Nat := 0) : PwrTrans := ⟨⟨tg,5,0⟩,b,st,false,some b,false,0,0,0⟩
def wake2 : State := wt (slp 3) (tw 1 3)
def wake3 : State := wt (slp 4) (tw 1 4)
def wake4 : State := wt (slp 3) (tw 2 3)
def wake6 : State := wt (bs2 b02 3) (tw 4 3)
def wake7 : State := wt (bs2 b02 2) (tw 5 2)
def wake5 : State := wt (bs2 b02 3) (tw 3 3)
def gw (k : Nat) : State := pw (offG b02 [1]) (fun p => {p with wakes := [(1,k)], trans := some ⟨⟨0,1,0⟩,1,4,false,none,false,0,0,0⟩})
def wake9 : State := gw 1
def wake11 : State := ons (gw 2) [(Fld.RFE_PGg_LOx_STATUS_STATE 1 0, 3),(Fld.RFE_PGg_LOx_STATUS_STATE 1 1, 4)]
def wake12 : State := gw 3
def wake13 : State := gw 4
def wake10 : State := gw 2
def allen (s : State) : State :=
  (ons s [(Fld.PWR_WAKE_CFG_WAKEN_EN,1),(Fld.PWR_WAKE_CFG_QB0_EN,1),(Fld.PWR_WAKE_CFG_TMR_EN,1),(Fld.PWR_WAKE_CFG_CS_EN,1),(Fld.PWR_WAKE_CFG_QB0_TGT,1)]).wr Reg.PWR_AON_TMR 9
def wake14 : State := allen (slp 3)
def wake0 : State := offG b02 [0,1,2,3,4,5,6,7]
def bl (s : State) : State := ons s [(Fld.PWR_BELL_CFG_EN,1),(Fld.PWR_BELL_ADDR_ADDR,0x123),(Fld.PWR_BELL_CFG_PING_IRQ,1)]
def wake18 : State := bl (slp 4)
def wake21 : State := on b02 Fld.PWR_VCORE_BUSY 1
def op (s : State) (o : List RegOp) : State := pw s (fun p => {p with ops := o})
def wake22 : State := op b02 [.avs 700 false]
def wake23 : State := op b02 [.avs 700 true]

/-! ### The directory that the flash of `flashD` holds -/

/-- The CRC-32 of R125 carried on over `n` erased bytes. -/
def erasedCrc (n c : Nat) : Nat := (List.replicate n (0xFF#8 : Byte)).foldl (fun c b => crc32Byte c b.toNat) c

theorem erasedCrc_add (m n c : Nat) : erasedCrc (m + n) c = erasedCrc n (erasedCrc m c) := by
  unfold erasedCrc; rw [← List.replicate_append_replicate, List.foldl_append]

/-- What copy 0 of the directory reads as in the flash of `flashD`. -/
def dirBytes0 : List Byte := dirHead ++ (List.replicate 4012 0xFF#8 ++ leBytes 4 3005794198)

theorem flashD_bytes : flashD.flashBytes 0 4096 = dirBytes0 := by
  have e : SMap.getRange 0xFF#8 flashD.flash 80 4012 = List.replicate 4012 0xFF#8 :=
    SMap.getRange_default _ _ 80 4012 (by decide +kernel)
  have h : SMap.getRange 0xFF#8 flashD.flash 0 80 = dirHead := by decide +kernel
  have c : SMap.getRange 0xFF#8 flashD.flash 4092 4 = leBytes 4 3005794198 := by decide +kernel
  unfold State.flashBytes dirBytes0
  rw [show 4096 = 80 + (4012 + 4) from rfl, SMap.getRange_add, SMap.getRange_add, h, e, c]

theorem erased0 : erasedCrc 502 2429833124 = 3340009806 := by decide +kernel
theorem erased1 : erasedCrc 502 3340009806 = 221861686 := by decide +kernel
theorem erased2 : erasedCrc 502 221861686 = 308447845 := by decide +kernel
theorem erased3 : erasedCrc 502 308447845 = 2712896158 := by decide +kernel
theorem erased4 : erasedCrc 502 2712896158 = 1557908619 := by decide +kernel
theorem erased5 : erasedCrc 502 1557908619 = 3243893711 := by decide +kernel
theorem erased6 : erasedCrc 502 3243893711 = 3554822707 := by decide +kernel
theorem erased7 : erasedCrc 498 3554822707 = 1289173097 := by decide +kernel

theorem erased_all : erasedCrc 4012 2429833124 = 1289173097 := by
  rw [show 4012 = 502 + (502 + (502 + (502 + (502 + (502 + (502 + 498)))))) from rfl]
  simp only [erasedCrc_add, erased0, erased1, erased2, erased3, erased4, erased5, erased6, erased7]

theorem dirBytes0_crc : crc32 (dirBytes0.take 4092) = 3005794198 := by
  have t : dirBytes0.take 4092 = dirHead ++ List.replicate 4012 0xFF#8 := by decide +kernel
  have e : ∀ c, (List.replicate 4012 (0xFF#8 : Byte)).foldl (fun c b => crc32Byte c b.toNat) c = erasedCrc 4012 c := fun _ => rfl
  have h : dirHead.foldl (fun c b => crc32Byte c b.toNat) 0xFFFFFFFF = 2429833124 := by decide +kernel
  rw [t, crc32, List.foldl_append, h, e, erased_all]; decide

theorem dirBytes0_valid : dirValid dirBytes0 0x2000000 = true := by
  unfold dirValid
  rw [dirBytes0_crc]
  decide +kernel

theorem flashD_copy1 : dirValid (flashD.dirBytes 1) 0x2000000 = false := by
  have e : flashD.dirBytes 1 = List.replicate 4096 0xFF#8 := SMap.getRange_default _ _ 0x10000 4096 (by decide +kernel)
  rw [e]; decide +kernel

theorem chooseDir_first (s : State) (n : Nat) (b : List Byte) (h : s.dirBytes 0 = b) (h0 : dirValid b n = true)
    (h1 : dirValid (s.dirBytes 1) n = false) : s.chooseDir n = some (dirParse b 0 false) := by
  unfold State.chooseDir
  simp only [h, h0, h1]

theorem dirBytes0_dir : dirParse dirBytes0 0 false = dirD := by decide +kernel

theorem flashD_dir : flashD.chooseDir 0x2000000 = some dirD :=
  (chooseDir_first flashD _ _ flashD_bytes dirBytes0_valid flashD_copy1).trans (congrArg some dirBytes0_dir)

/-- R46 reads nothing but the flash. -/
theorem chooseDir_congr (s u : State) (n : Nat) (h : s.flash = u.flash) : s.chooseDir n = u.chooseDir n := by
  unfold State.chooseDir State.dirBytes State.flashBytes; rw [h]

theorem dir_of_flash (s : State) (h : s.flash = flashD.flash) : s.chooseDir 0x2000000 = some dirD :=
  (chooseDir_congr s flashD _ h).trans flashD_dir

/-- Slot A of that flash has no section that ends in the second 64 KiB, so that unit 1 of LOP8 finds nothing (R73). -/
theorem verify_passes (s : State) (h : s.flash = flashD.flash) (d : s.boot.density = 0x2000000) : s.verifyUnit 0 1 = none := by
  have e : s.verifySlot 0 = some (dirD.slotA, flashD.flashBytes 0x20000 4096) := by
    unfold State.verifySlot State.flashBytes; rw [d, dir_of_flash s h, h]; rfl
  have n : headerSections (flashD.flashBytes 0x20000 4096) = [] := by decide +kernel
  unfold State.verifyUnit; rw [e]; simp [n]

/-! ### The hypotheses of every statement are met -/

theorem witness_AColdResetEmptiesTheBlocks :
    (∃ q : Requester, ∃ s : State, (s.pins.detain = 0) ∧ (s.pins.refclk = true) ∧ (s.passes q Reg.DEV_CTRL true) ∧ (q ≠ .mgq) ∧ (q ≠ .proctor)) ∧
    (∃ s : State, (s.pins.detain = 0) ∧ (s.pins.refclk = true) ∧ (s.on Fld.BOOT_STATUS_COMPLETE = true) ∧ (s.fld Fld.BOOT_STATUS_STEP = 16) ∧
      (s.fld Fld.PWR_STATUS_STATE ≤ 2) ∧ (s.deanDebugHalted = false)) ∧
    (∃ d : Word, ∃ s : State, ∃ c : Instr, (c = .devCtrlSoft .proctor d ∨ c = .devCtrlWarm .proctor d) ∧ (s.passes .proctor Reg.DEV_CTRL true)) :=
  ⟨⟨.mspi, b1, by unfold State.passes State.inTurn; decide +kernel⟩,
   ⟨start5, by decide +kernel⟩,
   ⟨0, base, .devCtrlSoft .proctor 0, by unfold State.passes State.inTurn; decide +kernel⟩⟩

theorem witness_AResetReturnsRegisterFieldsByKeepClass :
    ∃ s : State, ∃ a : Nat, (a ∉ [Reg.BOOT_STATUS, Reg.DEV_RESET_INFO, Reg.DEV_STRAPS, Reg.PROC_STATUS, Reg.PWR_STATUS, Reg.PWR_PG_STATUS,
      Reg.CAL_STATUS, Reg.PWR_BELL_ADDR]) ∧ (a < 0x340000 ∨ 0x340464 ≤ a) ∧ (s.sec.running = none) ∧ (s.boot.writing = none) ∧
      (s.boot.erasing = false) ∧ (s.flashOps = []) :=
  ⟨start0, 0, by decide +kernel⟩

theorem witness_DetainPinForcesDetention :
    ∃ s : State, (s.pins.refclk = true) :=
  ⟨start0, by decide +kernel⟩

theorem witness_AWarmResetKeepsTheStoreAndTheDomains :
    (∃ q : Requester, ∃ s : State, (s.passes q Reg.DEV_CTRL true) ∧ (q ≠ .mgq) ∧ (q ≠ .proctor) ∧ (13 ≤ s.fld Fld.BOOT_STATUS_STEP) ∧
      (s.on Fld.BOOT_STATUS_DETAINED = false) ∧ (s.pwr.trans = none) ∧ (s.sec.running = none)) ∧
    (∃ q : Requester, ∃ s : State, (s.passes q Reg.DEV_CTRL true) ∧ (q ≠ .mgq) ∧ (q ≠ .proctor) ∧ (s.fld Fld.BOOT_STATUS_STEP < 13 ∨
      s.on Fld.BOOT_STATUS_DETAINED = true)) ∧
    (∃ q : Requester, ∃ s : State, (s.passes q Reg.DEV_CTRL true) ∧ (q = .mgq)) :=
  ⟨⟨.mspi, start5, by unfold State.passes State.inTurn; decide +kernel⟩,
   ⟨.mspi, b1, by unfold State.passes State.inTurn; decide +kernel⟩,
   ⟨.mgq, start0, by unfold State.passes State.inTurn; decide +kernel⟩⟩

theorem witness_TheFlashProbeDecidesTheAttempt :
    (∃ id : Byte, ∃ sfdp : Option Nat, ∃ dir : Directory, ∃ s : State, (idAnswers id = true) ∧ (s.chooseDir (sfdp.getD 0x2000000) = some dir) ∧
      (s.boot.kind ≠ .por) ∧ (s.startRuns = true) ∧ (s.fld Fld.BOOT_ATTEMPTS_COUNT < s.fld Fld.BOOT_ATTEMPTS_LIMIT) ∧ (dir.prefSlot ≤ 1) ∧
      ∃ c : Instr, ((c = .startFlashProbe true id sfdp ∧ s.fld Fld.BOOT_STATUS_STEP = 2 ∧ s.boot.tries = 0) ∨ (c = .flashIdRetry id sfdp ∧
      s.fld Fld.BOOT_STATUS_STEP = 3 ∧ 0 < s.boot.tries ∧ s.boot.tries < 3))) ∧
    (∃ id : Byte, ∃ sfdp : Option Nat, ∃ dir : Directory, ∃ s : State, (idAnswers id = true) ∧ (s.chooseDir (sfdp.getD 0x2000000) = some dir) ∧
      (s.boot.kind ≠ .por) ∧ (s.startRuns = true) ∧ (s.fld Fld.BOOT_ATTEMPTS_COUNT < s.fld Fld.BOOT_ATTEMPTS_LIMIT) ∧ (dir.prefSlot ≤ 1) ∧
      ∃ bad : Byte, (idAnswers bad = false) ∧ (s.fld Fld.BOOT_STATUS_STEP = 2) ∧ (s.boot.tries = 0)) :=
  ⟨⟨5, none, dirD, start8, by decide +kernel, dir_of_flash _ rfl, by decide +kernel, by decide +kernel, by decide +kernel, by decide +kernel,
     .startFlashProbe true 5 none, by decide +kernel⟩,
   ⟨5, none, dirD, start8, by decide +kernel, dir_of_flash _ rfl, by decide +kernel, by decide +kernel, by decide +kernel, by decide +kernel, 0,
     by decide +kernel⟩⟩

theorem witness_JournalRecordsAreProgrammedAndReadBack :
    (∃ w : JournalWrite, ∃ s : State, (s.boot.writing = some w) ∧ (w.bytes.length = 64) ∧ (w.req.next = .goOn)) ∧
    (∃ w : JournalWrite, ∃ s : State, ∃ r, (s.boot.writing = some w) ∧ (w.req.next = .goOn) ∧ (w.second = true) ∧ (r ≠ w.bytes) ∧ (s.raiseRoom 1)) ∧
    (∃ d : Directory, ∃ s : State, (s.boot.dir = some d) ∧ (s.boot.erasing = true)) :=
  ⟨⟨{ bytes := (List.replicate 64 0x05#8), addr := 2359360, second := true, req := { kind := 1, count := 1, cause := 0, step := 4, detail := 0, next := AfterRecord.goOn, again := [] } },
     start14, by decide +kernel⟩,
   ⟨{ bytes := (List.replicate 64 0x05#8), addr := 2359360, second := true, req := { kind := 1, count := 1, cause := 0, step := 4, detail := 0, next := AfterRecord.goOn, again := [] } },
     start14, (List.replicate 64 0x01#8), by unfold State.raiseRoom; decide +kernel⟩,
   ⟨dirD, start15, by decide +kernel⟩⟩

theorem witness_StartStepsWaitOrFailTheAttempt :
    (∃ s : State, (s.startRuns = true) ∧ (s.domOn pdSyn = true) ∧ (s.on Fld.CLK_STATUS_FABRIC_ON_ROOT = false) ∧ (s.fld Fld.BOOT_STATUS_STEP = 6)) ∧
    (∃ s : State, (s.startRuns = true) ∧ (s.fld Fld.BOOT_STATUS_STEP = 6) ∧ (s.on Fld.CLK_STATUS_ROOT_LOCK = false)) ∧
    (∃ s : State, (s.startRuns = true) ∧ ∃ t8 : Int, ∃ t9 : Int, (s.fld Fld.BOOT_STATUS_STEP = 8) ∧ (t8 ≤ (if s.boot.hot then 1680 else 1760)) ∧
      (t9 ≤ (if s.boot.hot then 1680 else 1760))) ∧
    (∃ s : State, (s.startRuns = true) ∧ ∃ t8 : Int, ∃ t9 : Int, (s.fld Fld.BOOT_STATUS_STEP = 8) ∧ (s.boot.hot = true) ∧ (1680 < t8 ∨ 1680 < t9)) ∧
    (∃ s : State, (s.startRuns = true) ∧ (s.fld Fld.BOOT_STATUS_STEP = 13) ∧ (s.boot.heartbeat = false)) ∧
    (∃ s : State, (s.startRuns = true) ∧ (s.fld Fld.BOOT_STATUS_STEP = 14 ∨ s.fld Fld.BOOT_STATUS_STEP = 15) ∧ (s.boot.noLink = false)) :=
  ⟨⟨start11, by decide +kernel⟩,
   ⟨start11, by decide +kernel⟩,
   ⟨start12, by decide +kernel, -5, -5, by decide +kernel⟩,
   ⟨start13, by decide +kernel, -5, 1681, by decide +kernel⟩,
   ⟨start7, by decide +kernel⟩,
   ⟨start6, by decide +kernel⟩⟩

theorem witness_AStartCompletes :
    (∃ j : Nat, ∃ js : List Nat, ∃ s : State, (s.startRuns = true) ∧ (s.fld Fld.BOOT_STATUS_STEP = 10) ∧ (s.boot.sections = j :: js) ∧ (js ≠ []) ∧
      (knownSection (headerSection s.boot.header j).stype = false)) ∧
    (∃ j : Nat, ∃ js : List Nat, ∃ s : State, (s.startRuns = true) ∧ (s.fld Fld.BOOT_STATUS_STEP = 10) ∧ (s.boot.sections = j :: js) ∧
      (knownSection (headerSection s.boot.header j).stype = true) ∧ (loadOk (headerSection s.boot.header j) s.regionsNow = true) ∧
      (sha512 (s.sectionBytes s.slotPart (headerSection s.boot.header j)) ≠ (headerSection s.boot.header j).digest)) ∧
    (∃ s : State, (s.startRuns = true) ∧ (s.fld Fld.BOOT_STATUS_STEP = 15) ∧ (s.boot.noLink = true ∨ s.fld Fld.LNK_STATUS_STATE = 5) ∧
      (s.raiseRoom 2)) :=
  ⟨⟨0, [1], start18, by decide +kernel⟩,
   ⟨0, [1], start19, by decide +kernel⟩,
   ⟨start16, by unfold State.raiseRoom; decide +kernel⟩⟩

theorem witness_BootRegistersAndHeartbeat :
    (∃ q : Requester, ∃ s : State, (s.passes q Reg.BOOT_HEARTBEAT true) ∧ (s.fld Fld.BOOT_STATUS_STEP = 13) ∧ (s.boot.heartbeat = false)) ∧
    (∃ q : Requester, ∃ s : State, (s.passes q Reg.BOOT_HEARTBEAT true) ∧ (s.fld Fld.BOOT_STATUS_STEP ≠ 13)) ∧
    (∃ q : Requester, ∃ s : State, (s.passes q Reg.BOOT_CTRL true) ∧ (s.on Fld.BOOT_CTRL_CLR_ATTEMPTS = false) ∧ (s.boot.dir.isSome = true)) ∧
    (∃ q : Requester, ∃ s : State, (s.passes q Reg.BOOT_CTRL true) ∧ (s.boot.dir = none)) :=
  ⟨⟨.proctor, start7, by unfold State.passes State.inTurn; decide +kernel⟩,
   ⟨.proctor, start0, by unfold State.passes State.inTurn; decide +kernel⟩,
   ⟨.mspi, start7, by unfold State.passes State.inTurn; decide +kernel⟩,
   ⟨.mgq, start0, by unfold State.passes State.inTurn; decide +kernel⟩⟩

theorem witness_ClockFamilyCommands :
    (∃ q : Requester, ∃ d : Word, ∃ s : State, (s.passes q Reg.CLK_PHASE true) ∧ (s.on Fld.CLK_PHASE_BUSY = false) ∧
      (sext 16 (Fld.CLK_PHASE_STEP.of d) ≠ 0) ∧ (s.fld Fld.LNK_STATUS_STATE ≠ 5 ∨
      (s.clk.sinceLock + sext 16 (Fld.CLK_PHASE_STEP.of d)).natAbs ≤ 1024)) ∧
    (∃ q : Requester, ∃ d : Word, ∃ s : State, (s.passes q Reg.CLK_PHASE true) ∧ (s.on Fld.CLK_PHASE_BUSY = false) ∧
      (s.fld Fld.LNK_STATUS_STATE = 5) ∧ (1024 < (s.clk.sinceLock + sext 16 (Fld.CLK_PHASE_STEP.of d)).natAbs) ∧
      (sext 16 (Fld.CLK_PHASE_STEP.of d) ≠ 0)) ∧
    (∃ s : State, (s.on Fld.CLK_PHASE_BUSY = true) ∧ (s.clk.phaseLeft ≠ 0)) ∧
    (∃ q : Requester, ∃ s : State, (s.passes q Reg.CLK_SYSOUT true) ∧ (s.on Fld.CLK_STATUS_FABRIC_ON_ROOT = true)) :=
  ⟨⟨.mgq, 0x00010005#32, base, by unfold State.passes State.inTurn; decide +kernel⟩,
   ⟨.mgq, 0x00010005#32, start0, by unfold State.passes State.inTurn; decide +kernel⟩,
   ⟨start1, by decide +kernel⟩,
   ⟨.mgq, start0, by unfold State.passes State.inTurn; decide +kernel⟩⟩

theorem witness_FlashOperationsAreAccepted :
    (∃ q : Requester, ∃ d : Word, ∃ s : State, ∃ c : Instr, ∃ op : Nat, ((c = .lop7Erase q d ∧ op = 0) ∨ (c = .lop7Program q d ∧ op = 1) ∨
      (c = .lop7Read q d ∧ op = 2)) ∧ (s.passes q Reg.BOOT_FL_CTRL true) ∧ (s.lopBusy 7 = true)) ∧
    (∃ q : Requester, ∃ d : Word, ∃ s : State, ∃ c : Instr, ∃ op : Nat, ∃ f : FlashOp, ((c = .lop7Erase q d ∧ op = 0) ∨ (c = .lop7Program q d ∧
      op = 1) ∨ (c = .lop7Read q d ∧ op = 2)) ∧ (f = ⟨op, Fld.BOOT_FL_CTRL_SRC.of d, (s.rd Reg.BOOT_FL_ADDR).toNat, (s.rd Reg.BOOT_FL_LEN).toNat,
      (s.rd Reg.BOOT_FL_SRC).toNat, 0⟩) ∧ (s.passes q Reg.BOOT_FL_CTRL true) ∧ (s.lopBusy 7 = false) ∧ (f.len ≠ 0) ∧ (s.lop7Error f = none) ∧
      (s.flashOps = [])) ∧
    (∃ q : Requester, ∃ d : Word, ∃ s : State, ∃ c : Instr, ∃ op : Nat, ∃ f : FlashOp, ((c = .lop7Erase q d ∧ op = 0) ∨ (c = .lop7Program q d ∧
      op = 1) ∨ (c = .lop7Read q d ∧ op = 2)) ∧ (f = ⟨op, Fld.BOOT_FL_CTRL_SRC.of d, (s.rd Reg.BOOT_FL_ADDR).toNat, (s.rd Reg.BOOT_FL_LEN).toNat,
      (s.rd Reg.BOOT_FL_SRC).toNat, 0⟩) ∧ (s.passes q Reg.BOOT_FL_CTRL true) ∧ (s.lopBusy 7 = false) ∧ (f.len = 0) ∧ (s.raiseRoom 1)) ∧
    (∃ q : Requester, ∃ d : Word, ∃ s : State, ∃ c : Instr, ∃ op : Nat, ∃ f : FlashOp, ((c = .lop7Erase q d ∧ op = 0) ∨ (c = .lop7Program q d ∧
      op = 1) ∨ (c = .lop7Read q d ∧ op = 2)) ∧ (f = ⟨op, Fld.BOOT_FL_CTRL_SRC.of d, (s.rd Reg.BOOT_FL_ADDR).toNat, (s.rd Reg.BOOT_FL_LEN).toNat,
      (s.rd Reg.BOOT_FL_SRC).toNat, 0⟩) ∧ (s.passes q Reg.BOOT_FL_CTRL true) ∧ ∃ e, (s.lopBusy 7 = false) ∧ (f.len ≠ 0) ∧ (s.lop7Error f = some e) ∧
      (s.flashOps = []) ∧ (s.raiseRoom 1)) ∧
    (∃ q : Requester, ∃ d : Word, ∃ s : State, ∃ c : Instr, ∃ op : Nat, ∃ f : FlashOp, ((c = .lop7Erase q d ∧ op = 0) ∨ (c = .lop7Program q d ∧
      op = 1) ∨ (c = .lop7Read q d ∧ op = 2)) ∧ (f = ⟨op, Fld.BOOT_FL_CTRL_SRC.of d, (s.rd Reg.BOOT_FL_ADDR).toNat, (s.rd Reg.BOOT_FL_LEN).toNat,
      (s.rd Reg.BOOT_FL_SRC).toNat, 0⟩) ∧ (s.passes q Reg.BOOT_FL_CTRL true) ∧ ∃ a, ∃ bs, ∃ us, (s.lopBusy 7 = false) ∧ (f.len ≠ 0) ∧
      (s.flashOps = .save a bs :: us)) ∧
    (∃ q : Requester, ∃ s : State, (s.passes q Reg.BOOT_VERIFY_CTRL true) ∧ (s.lopBusy 8 = false) ∧ (s.flashOps = [])) :=
  ⟨⟨.mgq, 0x00000000#32, flash8, .lop7Erase (.mgq) 0x00000000#32, 0, by unfold State.passes State.inTurn; decide +kernel⟩,
   ⟨.mgq, 0x00000000#32, flash3, .lop7Erase (.mgq) 0x00000000#32, 0, _, by decide +kernel, rfl, by unfold State.passes State.inTurn; decide +kernel⟩,
   ⟨.mgq, 0x00000000#32, flash0, .lop7Erase (.mgq) 0x00000000#32, 0, _, by decide +kernel, rfl,
     by unfold State.passes State.inTurn State.raiseRoom; decide +kernel⟩,
   ⟨.mgq, 0x00000000#32, flash3, .lop7Program (.mgq) 0x00000000#32, 1, _, by decide +kernel, rfl,
     by unfold State.passes State.inTurn; decide +kernel, 2, by unfold State.raiseRoom; decide +kernel⟩,
   ⟨.dean, 0, { on base Fld.BOOT_FL_LEN_LEN 4 with flashOps := [.save 0 68] }, .lop7Read .dean 0, 2, _, by decide +kernel, rfl,
     by unfold State.passes State.inTurn; decide +kernel, 0, 68, [], by decide +kernel⟩,
   ⟨.mgq, flash0, by unfold State.passes State.inTurn; decide +kernel⟩⟩

theorem witness_FlashUnitsDoTheirWork :
    (∃ s : State, (s.lopState 6 ≠ lopQueued) ∧ ∃ f : FlashOp, ∃ rest : List FlashUser, (s.flashOps = .lop7 f :: rest) ∧ (s.lopState 7 = lopRunning) ∧
      (f.op ≤ 1) ∧ (f.op = 1 → f.src = 0)) ∧
    (∃ s : State, (s.lopState 6 ≠ lopQueued) ∧ ∃ f : FlashOp, (s.flashOps = [.lop7 f]) ∧ (s.lopState 7 = lopRunning) ∧ (f.op = 2) ∧ (f.src = 0) ∧
      (f.done = 0) ∧ (f.len % 4 = 0) ∧ (f.len ≠ 0) ∧ (f.len ≤ 4096) ∧ (s.raiseRoom 1)) ∧
    (∃ s : State, (s.lopState 6 ≠ lopQueued) ∧ ∃ slot : Nat, ∃ e : Nat, ∃ o : Nat, (s.flashOps = [.lop8 slot]) ∧ (s.lopState 8 = lopRunning) ∧
      (s.verifyUnit slot (s.fld (Fld.LOP_STATn_UNITS_DONE 8)) = some (e, o)) ∧ (s.raiseRoom 1)) ∧
    (∃ s : State, (s.lopState 6 ≠ lopQueued) ∧ ∃ slot : Nat, (s.flashOps = [.lop8 slot]) ∧ (s.lopState 8 = lopRunning) ∧
      (s.verifyUnit slot (s.fld (Fld.LOP_STATn_UNITS_DONE 8)) = none) ∧
      (s.fld (Fld.LOP_STATn_UNITS_DONE 8) + 1 < s.fld (Fld.LOP_STATn_UNITS_TOTAL 8))) :=
  ⟨⟨flash9, by decide +kernel, { op := 0, src := 0, addr := 2228224, len := 65536, store := 0, done := 0 }, [], by decide +kernel⟩,
   ⟨flash12, by decide +kernel, { op := 2, src := 0, addr := 0, len := 256, store := 0, done := 0 }, by unfold State.raiseRoom; decide +kernel⟩,
   ⟨{ (ons base [(Fld.LOP_STATn_STATE 8, 2), (Fld.LOP_STATn_UNITS_TOTAL 8, 4)]) with flashOps := [.lop8 0] }, by decide +kernel, 0, 8, 0,
     by unfold State.raiseRoom; decide +kernel⟩,
   ⟨flash14, by decide +kernel, 0, by decide +kernel, by decide +kernel, verify_passes _ rfl rfl, by decide +kernel⟩⟩

theorem witness_ProctorServesOneCommandAtATime :
    (∃ q : Requester, ∃ d : Word, ∃ s : State, ∃ c : Instr, ∃ op : Nat, ((c = .applyProv q d ∧ op = 1) ∨ (c = .advanceRb q d ∧ op = 2) ∨
      (c = .dbgChallenge q d ∧ op = 3) ∨ (c = .dbgSubmit q d ∧ op = 4) ∨ (c = .dbgLock q d ∧ op = 5)) ∧ (s.passes q Reg.PROC_CMD true) ∧
      (s.on Fld.PROC_CMD_STATUS_BUSY = true)) ∧
    (∃ q : Requester, ∃ d : Word, ∃ s : State, ∃ c : Instr, ∃ op : Nat, ((c = .applyProv q d ∧ op = 1) ∨ (c = .advanceRb q d ∧ op = 2) ∨
      (c = .dbgChallenge q d ∧ op = 3) ∨ (c = .dbgSubmit q d ∧ op = 4) ∨ (c = .dbgLock q d ∧ op = 5)) ∧ (s.passes q Reg.PROC_CMD true) ∧
      (s.on Fld.PROC_CMD_STATUS_BUSY = false) ∧ (s.lopState 6 ≠ lopRunning)) ∧
    (∃ q : Requester, ∃ d : Word, ∃ s : State, ∃ c : Instr, ∃ op : Nat, ((c = .applyProv q d ∧ op = 1) ∨ (c = .advanceRb q d ∧ op = 2) ∨
      (c = .dbgChallenge q d ∧ op = 3) ∨ (c = .dbgSubmit q d ∧ op = 4) ∨ (c = .dbgLock q d ∧ op = 5)) ∧ (s.passes q Reg.PROC_CMD true) ∧
      (s.on Fld.PROC_CMD_STATUS_BUSY = false) ∧ (s.lopState 6 = lopRunning)) :=
  ⟨⟨.mgq, 0x00000000#32, flash15, .applyProv (.mgq) 0x00000000#32, 1, by unfold State.passes State.inTurn; decide +kernel⟩,
   ⟨.mgq, 0x00000000#32, flash0, .applyProv (.mgq) 0x00000000#32, 1, by unfold State.passes State.inTurn; decide +kernel⟩,
   ⟨.mgq, 0x00000000#32, flash16, .applyProv (.mgq) 0x00000000#32, 1, by unfold State.passes State.inTurn; decide +kernel⟩⟩

theorem witness_ACommandEndBlowsItsFusesOnly :
    (∃ c : ProcCmd, ∃ s : State, (s.lopState 6 ≠ lopQueued) ∧ (s.sec.running = some c) ∧ (c.result < 256)) ∧
    (∃ s : State, (s.lopState 6 ≠ lopQueued) ∧ (s.on Fld.PROC_DBG_STATUS_CHAL_VALID = true)) :=
  ⟨⟨{ op := 1, result := 0, fuses := [(32, 0x00000005#32), (32, 0x00000008#32), (33, 0x00000001#32)], level := 0 }, flash18, by decide +kernel⟩,
   ⟨flash0, by decide +kernel⟩⟩

theorem witness_AttestationFillsItsReport :
    (∃ q : Requester, ∃ s : State, (s.passes q Reg.PROC_ATT_CTRL true) ∧ (s.lopBusy 6 = true)) ∧
    (∃ q : Requester, ∃ s : State, (s.passes q Reg.PROC_ATT_CTRL true) ∧ (s.lopBusy 6 = false) ∧ (s.on Fld.PROC_CMD_STATUS_BUSY = false) ∧
      (s.flashOps = []) ∧ (s.fld Fld.PROC_STATUS_DBG_LEVEL ≠ 2) ∧ (s.sec.keySpent = false)) ∧
    (∃ s : State, (s.lopState 6 = lopRunning) ∧ (s.sec.attUnits = 2)) ∧
    (∃ s : State, (s.lopState 6 = lopRunning) ∧ (s.sec.attUnits = 3) ∧ (s.sec.waits = none) ∧ (s.raiseRoom 1)) :=
  ⟨⟨.mgq, flash16, by unfold State.passes State.inTurn; decide +kernel⟩,
   ⟨.mgq, flash0, by unfold State.passes State.inTurn; decide +kernel⟩,
   ⟨flash23, by decide +kernel⟩,
   ⟨flash24, by unfold State.raiseRoom; decide +kernel⟩⟩

theorem witness_ARefusedWriteIsRecordedAndDoesNothing :
    ∃ c : Instr, ∃ q : Requester, ∃ a : Nat, ∃ s : State, (writes c = some (q, a)) ∧ (s.inTurn q) ∧ (q = .mspi → storePosts a = false) ∧
      (s.judge q a true ≠ stOk) :=
  ⟨.dmaGo 3 (.tutor 1) 5, .tutor 1, Reg.DMA_CHn_CTRL 3, State.reset, by unfold State.inTurn; decide +kernel⟩

theorem witness_TheFabricJudgesInOrder :
    (∃ a : Nat, (domainOf a = none ∨ a % 4 ≠ 0)) ∧
    (∃ s : State, ∃ q : Requester, ∃ a : Nat, ∃ w : Bool, ∃ d, (domainOf a = some d) ∧ (a % 4 = 0) ∧ (s.forbidden q a w = true)) ∧
    (∃ s : State, ∃ q : Requester, ∃ a : Nat, ∃ w : Bool, ∃ d, (domainOf a = some d) ∧ (a % 4 = 0) ∧ (s.forbidden q a w = false) ∧
      (s.domOn d = false ∨ (storeBase ≤ a ∧ s.bankPowered (bankOf a) = false))) ∧
    (∃ s : State, ∃ q : Requester, ∃ a : Nat, ∃ w : Bool, ∃ d, (domainOf a = some d) ∧ (a % 4 = 0) ∧ (s.forbidden q a w = false) ∧
      (s.domOn d = true) ∧ (a < storeBase ∨ s.bankPowered (bankOf a) = true)) :=
  ⟨⟨1, by decide +kernel⟩,
   ⟨State.reset, .tutor 1, 0, false, 1, by decide +kernel⟩,
   ⟨State.reset, .mspi, 268435460, false, 4, by decide +kernel⟩,
   ⟨State.reset, .mspi, 0, false, 1, by decide +kernel⟩⟩

theorem witness_MspiFramesAnswerAndPerform :
    (∃ cmd : Byte, ∃ crc : Byte, ∃ a : BitVec 32, ∃ s : State, (s.mspiUp = true) ∧ (s.boot.afterMspi = none) ∧ (cmd ≠ 0xA5#8) ∧
      (crc8 (frameHead cmd a.toNat) ≠ crc.toNat)) ∧
    (∃ cmd : Byte, ∃ crc : Byte, ∃ a : BitVec 32, ∃ s : State, (s.mspiUp = true) ∧ (s.boot.afterMspi = none) ∧ (cmd ≠ 0xA5#8) ∧ (cmd ≠ 0x5A#8) ∧
      (crc8 (frameHead cmd a.toNat) = crc.toNat)) ∧
    (∃ crc : Byte, ∃ a : BitVec 32, ∃ s : State, (s.mspiUp = true) ∧ (s.boot.afterMspi = none) ∧ (s.fabricOpen = false) ∧
      (crc8 (frameHead 0x5A#8 a.toNat) = crc.toNat)) ∧
    (∃ crc : Byte, ∃ s : State, (s.mspiUp = true) ∧ (s.boot.afterMspi = none) ∧ (s.fabricOpen = true) ∧ (s.mspi.held = none) ∧ (s.mspi.posted = []) ∧
      (crc8 (frameHead 0x5A#8 Reg.DEV_SCRATCH) = crc.toNat)) ∧
    (∃ crc : Byte, ∃ a : BitVec 32, ∃ s : State, (s.mspiUp = true) ∧ (s.boot.afterMspi = none) ∧ (s.fabricOpen = true) ∧ (s.mspi.held = none) ∧
      (crc8 (frameHead 0x5A#8 a.toNat) = crc.toNat)) ∧
    (∃ crc : Byte, ∃ a : BitVec 32, ∃ s : State, (s.mspiUp = true) ∧ (s.boot.afterMspi = none) ∧ ∃ r : Word, (s.fabricOpen = true) ∧
      (s.mspi.held = some ⟨false, a.toNat, 0, true, stOk, r⟩) ∧ (crc8 (frameHead 0x5A#8 a.toNat) = crc.toNat)) ∧
    (∃ crc : Byte, ∃ d : Word, ∃ s : State, (s.mspiUp = true) ∧ (s.boot.afterMspi = none) ∧ (s.fabricOpen = true) ∧ (s.mspi.held = none) ∧
      (s.mspi.posted = []) ∧ (crc8 (frameHead 0xA5#8 Reg.DEV_SCRATCH ++ leBytes 4 d.toNat) = crc.toNat)) ∧
    (∃ s : State, (s.mspiUp = true) ∧ (s.boot.afterMspi = none) ∧ ∃ sent : List Byte, (sent.length < (if sent.head? = some 0xA5#8 then 10 else 6))) ∧
    (∃ s : State, (s.mspiUp = true) ∧ (s.boot.afterMspi = none) ∧ (s.mspi.held = some ⟨false, Reg.DEV_SCRATCH, 0, false, 0, 0⟩) ∧
      (s.mspi.posted = [])) :=
  ⟨⟨0x00#8, 0x00#8, 0x00000007#32, State.reset, by decide +kernel⟩,
   ⟨0x00#8, 0x58#8, 0x00000004#32, State.reset, by decide +kernel⟩,
   ⟨0x7f#8, 0x00000004#32, State.reset, by decide +kernel⟩,
   ⟨0xcf#8, bs, by decide +kernel⟩,
   ⟨0x7f#8, 0x00000004#32, bs, by decide +kernel⟩,
   ⟨0x7f#8, 0x00000004#32, fab3, by decide +kernel, by decide +kernel, 0x00000007#32, by decide +kernel⟩,
   ⟨0x39#8, 0x00000005#32, bs, by decide +kernel⟩,
   ⟨State.reset, by decide +kernel, by decide +kernel, [], by decide +kernel⟩,
   ⟨fab4, by decide +kernel⟩⟩

theorem witness_PostedStoreWritesReachTheStore :
    (∃ a : BitVec 32, ∃ d : Word, ∃ crc : Byte, ∃ s : State, (s.mspiUp = true) ∧ (s.boot.afterMspi = none) ∧ (storeBase ≤ a.toNat) ∧
      (a.toNat < storeEnd) ∧ (a.toNat % 4 = 0) ∧ (s.fabricOpen = true) ∧ (s.mspi.held = none) ∧ (crc8 (frameHead 0xA5#8 a.toNat ++
      leBytes 4 d.toNat) = crc.toNat) ∧ (s.mspi.posted.length < 4)) ∧
    (∃ a : BitVec 32, ∃ d : Word, ∃ crc : Byte, ∃ s : State, (s.mspiUp = true) ∧ (s.boot.afterMspi = none) ∧ (storeBase ≤ a.toNat) ∧
      (a.toNat < storeEnd) ∧ (a.toNat % 4 = 0) ∧ (s.fabricOpen = true) ∧ (s.mspi.held = none) ∧ (crc8 (frameHead 0xA5#8 a.toNat ++
      leBytes 4 d.toNat) = crc.toNat) ∧ (4 ≤ s.mspi.posted.length)) ∧
    (∃ a : BitVec 32, ∃ d : Word, ∃ ws : List (Nat × Word), ∃ s : State, (s.mspiUp = true) ∧ (s.boot.afterMspi = none) ∧ (storeBase ≤ a.toNat) ∧
      (a.toNat < storeEnd) ∧ (a.toNat % 4 = 0) ∧ (s.mspi.posted = (a.toNat, d) :: ws) ∧ (s.domOn pdCst = true) ∧
      (s.bankPowered (bankOf a.toNat) = true) ∧ (s.eccAt (wordIndex a.toNat) = 0) ∧ (s.fld Fld.CST_ECC_INJ_MODE = 0)) ∧
    (∃ a : BitVec 32, ∃ d : Word, ∃ ws : List (Nat × Word), ∃ s : State, (s.mspiUp = true) ∧ (s.boot.afterMspi = none) ∧ (storeBase ≤ a.toNat) ∧
      (a.toNat < storeEnd) ∧ (a.toNat % 4 = 0) ∧ (s.mspi.posted = (a.toNat, d) :: ws) ∧ (s.domOn pdCst = true) ∧
      (s.bankPowered (bankOf a.toNat) = false) ∧ (s.raiseRoom 1)) :=
  ⟨⟨0x10000004#32, 0x00000005#32, 0x93#8, bs, by decide +kernel⟩,
   ⟨0x10000004#32, 0x00000005#32, 0x93#8, fab7, by decide +kernel⟩,
   ⟨0x10000004#32, 5, [(0x10000008,6)], fab5, by decide +kernel⟩,
   ⟨0x10000004#32, 5, [], fab6, by unfold State.raiseRoom; decide +kernel⟩⟩

theorem witness_WritesAtAnyAddressReachTheirTarget :
    (∃ q : Requester, ∃ a : BitVec 32, ∃ s : State, (a.toNat ∈ [Reg.DEV_SCRATCH, Reg.BOOT_FL_ADDR, Reg.BOOT_FL_LEN, Reg.CAL_SAVE_LEN]) ∧
      (s.passes q a.toNat true)) ∧
    (∃ a : BitVec 32, (a.toNat = Reg.DEV_SCRATCH)) ∧
    (∃ q : Requester, ∃ a : BitVec 32, ∃ s : State, (storeBase ≤ a.toNat) ∧ (q ≠ .mspi) ∧ (s.passes q a.toNat true) ∧
      (s.eccAt (wordIndex a.toNat) = 0) ∧ (s.fld Fld.CST_ECC_INJ_MODE = 0)) ∧
    (∃ a : BitVec 32, ∃ s : State, (storePosts a.toNat = true) ∧ (s.inTurn .mspi)) ∧
    (∃ q : Requester, ∃ a : BitVec 32, ∃ s : State, ∃ n : Nat, ∃ w : Nat, (n < 12) ∧ (w < 0x4000) ∧ (a.toNat = 0x400000 + 0x40000 * n + 4 * w) ∧
      (s.passes q a.toNat true)) ∧
    (∃ a : BitVec 32, ∃ d : Word, ∃ s : State, (a.toNat = Reg.DEV_CTRL) ∧ (s.domOn pdCtl = true) ∧ ((devCtrlReset d).isSome = true)) :=
  ⟨⟨.mspi, 0x0000000c#32, bs, by unfold State.passes State.inTurn; decide +kernel⟩,
   ⟨0x0000000c#32, by decide +kernel⟩,
   ⟨.tutor 1, 0x10000004#32, base, by unfold State.passes State.inTurn; decide +kernel⟩,
   ⟨0x10000004#32, bs, by unfold State.inTurn; decide +kernel⟩,
   ⟨.dean, 0x400000#32, base, 0, 0, by unfold State.passes State.inTurn; decide +kernel⟩,
   ⟨0x00000004#32, 0x0000a701#32, State.reset, by decide +kernel⟩⟩

theorem witness_MgqEntriesAreAnswered :
    (∃ m : MgqState, ∃ s : State, (s.link.mgq = some m) ∧ (m.done + 1 < fieldAt m.payload 2 1) ∧ (mgqAddr m.payload m.done = Reg.DEV_SCRATCH) ∧
      (s.domOn pdCtl = true) ∧ (mgqOp m.payload m.done = 1)) ∧
    (∃ m : MgqState, ∃ s : State, (s.link.mgq = some m) ∧ (m.done + 1 < fieldAt m.payload 2 1) ∧ (mgqAddr m.payload m.done = Reg.DEV_SCRATCH) ∧
      (s.domOn pdCtl = true) ∧ (mgqOp m.payload m.done = 2)) ∧
    (∃ m : MgqState, ∃ s : State, (s.link.mgq = some m) ∧ (m.done + 1 < fieldAt m.payload 2 1) ∧ (mgqAddr m.payload m.done = Reg.DEV_SCRATCH) ∧
      (s.domOn pdCtl = true) ∧ (mgqOp m.payload m.done = 3)) :=
  ⟨⟨{ payload := [0x05#8, 0x00#8, 0x03#8, 0x00#8, 0x01#8, 0x00#8, 0x00#8, 0x00#8, 0x0c#8, 0x00#8, 0x00#8, 0x00#8, 0x44#8, 0x33#8, 0x22#8, 0x11#8, 0xff#8, 0x00#8, 0xff#8, 0x00#8], sub := 0, done := 0, answers := [], stopped := false },
     fab8, by decide +kernel⟩,
   ⟨{ payload := [0x05#8, 0x00#8, 0x03#8, 0x00#8, 0x02#8, 0x00#8, 0x00#8, 0x00#8, 0x0c#8, 0x00#8, 0x00#8, 0x00#8, 0x44#8, 0x33#8, 0x22#8, 0x11#8, 0xff#8, 0x00#8, 0xff#8, 0x00#8], sub := 0, done := 0, answers := [], stopped := false },
     fab9, by decide +kernel⟩,
   ⟨{ payload := [0x05#8, 0x00#8, 0x03#8, 0x00#8, 0x03#8, 0x00#8, 0x00#8, 0x00#8, 0x0c#8, 0x00#8, 0x00#8, 0x00#8, 0x44#8, 0x33#8, 0x22#8, 0x11#8, 0xff#8, 0x00#8, 0xff#8, 0x00#8], sub := 0, done := 0, answers := [], stopped := false },
     fab10, by decide +kernel⟩⟩

theorem witness_LinkBringUpReachesLock :
    (∃ s : State, (s.linkIs lnkDown = true) ∧ (s.on Fld.LNK_CTRL_ENABLE = true) ∧ (s.on Fld.CLK_STATUS_ROOT_LOCK = true) ∧
      (s.on Fld.LNK_RETRY_EXHAUSTED = false) ∧ (s.domOn pdLnk = true)) ∧
    (∃ s : State, ∃ term : BitVec 22, (s.linkIs lnkDetect = true) ∧ (term.getLsbD 0 = true) ∧ (term.getLsbD 10 = true) ∧ (s.widthMax 0 ≠ 15) ∧
      (s.widthMax 2 ≠ 15)) ∧
    (∃ s : State, (s.linkIs lnkTrain = true)) ∧
    (∃ s : State, ∃ lane : Fin 22, ∃ skew : Nat, (s.linkIs lnkLock = true) ∧ (s.on Fld.LNK_STATUS_RX_LOCKED = false) ∧
      (lane.val % 11 < widthOf (s.widthMax (2 + lane.val / 11))) ∧ (skew < 32) ∧ (lane.val % 11 ≠ 10)) ∧
    (∃ s : State, (s.linkIs lnkLock = true ∨ s.linkIs lnkRollCall = true) ∧ (s.fld Fld.LNK_RETRY_LIMIT = 0)) :=
  ⟨⟨link1, by decide +kernel⟩,
   ⟨link2, 0x000401#22, by decide +kernel⟩,
   ⟨link3, by decide +kernel⟩,
   ⟨link4, 0, 0, by decide +kernel⟩,
   ⟨link4, by decide +kernel⟩⟩

theorem witness_RollCallLeadsToActive :
    (∃ s : State, (s.linkIs lnkLock = true) ∧ (s.on Fld.LNK_STATUS_RX_LOCKED = false) ∧ (s.lockedWidth 0 ≠ 15) ∧ (s.link.deskew0 < 8)) ∧
    (∃ s : State, ∃ payload : BitVec 64, (payload.toNat % 256 = 0x4B) ∧ (payload.getLsbD 16 = true) ∧ (s.linkIs lnkLock = true) ∧
      (s.on Fld.LNK_STATUS_RX_LOCKED = true) ∧ (s.link.deskew0 = 7) ∧ (s.lockedWidth 0 ≠ 15) ∧ (s.lockedWidth 1 = 15)) ∧
    (∃ s : State, ∃ p : List Byte, (s.link.peer = some p) ∧ (s.linkIs lnkRollCall = true) ∧ (s.link.acked = true) ∧ (s.link.ackSent = true) ∧
      (s.link.switchSent = false) ∧ (s.link.switchRx = []) ∧ ((s.agreedWidths p).getD 0 15 ≠ 15) ∧ ((s.agreedWidths p).getD 2 15 ≠ 15) ∧
      (s.raiseRoom 4)) ∧
    (∃ s : State, ∃ payload : BitVec 64, (payload.toNat % 256 = 0x55) ∧ (s.linkIs lnkRollCall = true) ∧ (s.link.switchSent = true) ∧
      (s.qbInUse 0 = true) ∧ (s.qbInUse 1 = false) ∧ (s.raiseRoom 1)) :=
  ⟨⟨link5, by decide +kernel⟩,
   ⟨link6, 0x000000000001004b#64, by decide +kernel⟩,
   ⟨link7, ([0x03#8, 0x02#8, 0x00#8, 0x00#8, 0x44#8, 0x44#8, 0xe0#8, 0x1f#8] ++ List.replicate 152 0x00#8), by unfold State.raiseRoom; decide +kernel⟩,
   ⟨link9, 0x0000000000000055#64, by unfold State.raiseRoom; decide +kernel⟩⟩

theorem witness_LeavingActiveEndsTheSession :
    ∃ c : Instr, ∃ reason : Nat, ∃ q : Requester, ∃ d : Word, ∃ k : Fin 2, ∃ lane : Fin 22, ∃ h : Fin 65, ∃ off : Int, ∃ s : State,
      (s.linkIs lnkActive = true) ∧ (s.mgaWaits = []) ∧ (s.lopBusy 9 = false) ∧ (s.raiseRoom 32) ∧ ((c = .clkLoss k ∧ s.qbInUse k.val = true ∧
      reason = 2) ∨ (c = .blockLockLoss lane h ∧ 16 ≤ h.val ∧ lane.val % 11 < widthOf (s.link.widths.getD (2 + lane.val / 11) 15) ∧ reason = 3) ∨
      ((c = .ebufSlip k off ∨ c = .ebufWander k off) ∧ s.on Fld.LNK_STATUS_RX_LOCKED = true ∧ s.qbInUse k.val = true ∧ 64 < off.natAbs ∧
      reason = 4) ∨ (c = .lnkCtrlRestart q d ∧ s.passes q Reg.LNK_CTRL true ∧ reason = 1) ∨ (c = .lnkCtrlEnable q d ∧ s.passes q Reg.LNK_CTRL true ∧
      Fld.LNK_CTRL_ENABLE.of d = 0 ∧ reason = 1)) :=
  ⟨.clkLoss 0, 2, .dean, 0x00000000#32, 0, 0, 0, -70, link10, by unfold State.passes State.inTurn State.raiseRoom; decide +kernel⟩

theorem witness_LinkTestAndWander :
    (∃ q : Requester, ∃ d : Word, ∃ s : State, (s.passes q Reg.LNK_CTRL true) ∧ (Fld.LNK_CTRL_ENABLE.of d = 1)) ∧
    (∃ s : State, ∃ k : Fin 2, ∃ off : Int, (48 < off.natAbs) ∧ (off.natAbs ≤ 64) ∧ (s.on Fld.LNK_STATUS_RX_LOCKED = true) ∧
      (k.val ∉ s.link.wandered) ∧ (s.raiseRoom 1)) ∧
    (∃ q : Requester, ∃ s : State, (s.passes q Reg.LNK_TEST true) ∧ (s.on Fld.CLK_STATUS_ROOT_LOCK = true) ∧ (s.linkIs lnkDown = true) ∧
      (s.on Fld.LNK_TEST_CHK_EN = true)) ∧
    (∃ q : Requester, ∃ s : State, (s.passes q Reg.LNK_TEST true) ∧ (s.on Fld.LNK_TEST_CHK_EN = false)) ∧
    (∃ s : State, (s.linkIs lnkTest = true) ∧ (s.link.testMs ≠ 0) ∧ (s.on Fld.LNK_TEST_CHK_EN = true)) :=
  ⟨⟨.dean, 0x00000001#32, link1, by unfold State.passes State.inTurn; decide +kernel⟩,
   ⟨link6, 0, 49, by unfold State.raiseRoom; decide +kernel⟩,
   ⟨.dean, link16, by unfold State.passes State.inTurn; decide +kernel⟩,
   ⟨.dean, link1, by unfold State.passes State.inTurn; decide +kernel⟩,
   ⟨link15, by decide +kernel⟩⟩

theorem witness_MarginScanFillsItsResults :
    (∃ q : Requester, ∃ s : State, (s.passes q Reg.LNK_MARGIN_CTRL true) ∧ (s.lopBusy 9 = true)) ∧
    (∃ q : Requester, ∃ s : State, (s.passes q Reg.LNK_MARGIN_CTRL true) ∧ (s.lopBusy 9 = false) ∧ (s.linkIs lnkActive = true) ∧
      (storeBase ≤ s.fld Fld.LNK_MARGIN_DEST_ADDR) ∧ (s.fld Fld.LNK_MARGIN_DEST_ADDR + 128 * s.scanLanes.length ≤ storeEnd) ∧ (s.domOn pdCst = true)) ∧
    (∃ q : Requester, ∃ s : State, (s.passes q Reg.LNK_MARGIN_CTRL true) ∧ (s.lopBusy 9 = false) ∧ (s.linkIs lnkActive = false) ∧ (s.raiseRoom 1)) ∧
    (∃ s : State, ∃ lane : Nat, ∃ rest : List Nat, ∃ at', (at' = s.link.scanDest + 128 * s.fld (Fld.LOP_STATn_UNITS_DONE 9)) ∧
      (s.link.scan = lane :: rest) ∧ (s.lopState 9 = lopRunning) ∧ (s.ecc = []) ∧ (s.fld Fld.CST_ECC_INJ_MODE = 0) ∧ (storeBase ≤ at') ∧
      (at' % 8 = 0)) :=
  ⟨⟨.dean, link17, by unfold State.passes State.inTurn; decide +kernel⟩,
   ⟨.dean, link21, by unfold State.passes State.inTurn; decide +kernel⟩,
   ⟨.dean, link1, by unfold State.passes State.inTurn State.raiseRoom; decide +kernel⟩,
   ⟨link18, 22, [23], _, rfl, by decide +kernel⟩⟩

theorem witness_ABadTrailerDropsThePacket :
    ∃ k : Fin 2, ∃ bs : List Byte, ∃ ph : Fin 5, ∃ c : Instr, ∃ ty : Nat, ∃ s : State, ((c = .dldReceive k false false bs ∧ ty = tyDld) ∨
      (c = .secReceive k false false bs ∧ ty = tySec) ∨ (c = .wgtReceive k false false bs ∧ ty = tyWgt) ∨ (c = .timReceive k false false bs ph ∧
      ty = tyTim) ∨ (c = .mgqReceive k false false bs ∧ ty = tyMgq) ∨ (c = .crdReceive k false false bs ∧ ty = tyCrd) ∨
      (c = .capReceive k false false bs ∧ ty = tyCap) ∨ (c = .lbkReceive k false false bs ∧ ty = tyLbk)) ∧ (s.linkIs lnkActive = true) ∧
      (s.link.lost0 = false) ∧ (s.link.lost1 = false) ∧ (framingBad (typed ty bs) = false) ∧ (trailerOk (typed ty bs) = false) ∧ (s.raiseRoom 1) ∧
      (∀ n < 12, k.val ∉ (s.queue n).doomed) :=
  ⟨0, [0x01#8, 0x02#8], 0, .dldReceive 0 false false [0x01#8, 0x02#8], 1, link10, by unfold State.raiseRoom; decide +kernel⟩

theorem witness_LinkControlPacketsTakeEffect :
    (∃ k : Fin 2, ∃ bs : List Byte, ∃ s : State, (∀ n < 12, k.val ∉ (s.queue n).doomed) ∧ ∃ p, (p = typed tyCrd bs) ∧ ∃ u,
      (u = (s.receive k.val false false p).1) ∧ ((s.receive k.val false false p).2 = true) ∧ (pktLen p = 4) ∧ ∃ w, (w = fieldAt (pktPayload p) 0 4) ∧
      ∃ n, (n = w / 2 ^ 24 % 32) ∧ ((u.queue n).use = true) ∧ ((u.queue 10).pkts = []) ∧ (u.link.mgq = none)) ∧
    (∃ k : Fin 2, ∃ s : State, (∀ n < 12, k.val ∉ (s.queue n).doomed) ∧ ∃ n : Fin 12, ∃ r : Nat, ∃ rs : List Nat,
      ((s.queue n.val).reports = r :: rs) ∧ ∃ d, (d = (r + 2 ^ 24 - s.fld (Fld.QUE_CONSn_TOTAL n.val)) % 2 ^ 24) ∧ (1 ≤ d) ∧ (d < 2 ^ 23) ∧
      (s.linkIs lnkActive = true)) ∧
    (∃ k : Fin 2, ∃ bs : List Byte, ∃ s : State, (∀ n < 12, k.val ∉ (s.queue n).doomed) ∧ ∃ p, (p = typed tyCap bs) ∧ ∃ u,
      (u = (s.receive k.val false false p).1) ∧ ((s.receive k.val false false p).2 = true) ∧ (s.linkIs lnkRollCall = true) ∧ (pktLen p = 0) ∧
      (pktSeq p = u.link.capVersion)) ∧
    (∃ k : Fin 2, ∃ bs : List Byte, ∃ s : State, (∀ n < 12, k.val ∉ (s.queue n).doomed) ∧ ∃ p, (p = typed tyCap bs) ∧ ∃ u,
      (u = (s.receive k.val false false p).1) ∧ ((s.receive k.val false false p).2 = true) ∧ (s.linkIs lnkRollCall = true) ∧ (pktLen p = 160) ∧
      (u.capReason (pktPayload p) 160 = none)) ∧
    (∃ k : Fin 2, ∃ bs : List Byte, ∃ s : State, (∀ n < 12, k.val ∉ (s.queue n).doomed) ∧ ∃ p, (p = typed tyLbk bs) ∧ ∃ u,
      (u = (s.receive k.val false false p).1) ∧ ((s.receive k.val false false p).2 = true) ∧ (u.link.lbk = none)) ∧
    (∃ k : Fin 2, ∃ bs : List Byte, ∃ s : State, (∀ n < 12, k.val ∉ (s.queue n).doomed) ∧ ∃ p, (p = typed tyLbk bs) ∧ ∃ u,
      (u = (s.receive k.val false false p).1) ∧ ((s.receive k.val false false p).2 = true) ∧ (u.link.lbk.isSome = true)) ∧
    (∃ k : Fin 2, ∃ bs : List Byte, ∃ s : State, (∀ n < 12, k.val ∉ (s.queue n).doomed) ∧ ∃ p, (p = typed tyMgq bs) ∧ ∃ u,
      (u = (s.receive k.val false false p).1) ∧ ((s.receive k.val false false p).2 = true) ∧ ((u.queue 10).pkts = []) ∧ (u.link.mgq = none) ∧
      (u.linkIs lnkActive = true) ∧ ((u.queue 27).unlimited = true) ∧ ((u.queue 27).occupancy + 3 ≤ 256) ∧
      (mgqMalformed (pktPayload p) (pktLen p) = false) ∧ (p.length = 20 + pktLen p)) :=
  ⟨⟨0, [0x40#8, 0x00#8, 0xff#8, 0xff#8, 0x04#8, 0x00#8, 0x00#8, 0x00#8, 0x00#8, 0x00#8, 0x00#8, 0x00#8, 0x00#8, 0x00#8, 0x00#8, 0x00#8, 0x05#8,
     0x00#8, 0x00#8, 0x03#8, 0x7b#8, 0x36#8, 0x0d#8, 0xc9#8], link11, by decide +kernel, _, rfl, _, rfl, by decide +kernel, by decide +kernel, _,
     rfl, _, rfl, by decide +kernel⟩,
   ⟨0, link11, by decide +kernel, 2, 5, [6], by decide +kernel, _, rfl, by decide +kernel⟩,
   ⟨0, [0x41#8, 0x00#8, 0xff#8, 0xff#8, 0x00#8, 0x00#8, 0x01#8, 0x00#8, 0x00#8, 0x00#8, 0x00#8, 0x00#8, 0x00#8, 0x00#8, 0x00#8, 0x00#8, 0xf7#8,
     0x23#8, 0x09#8, 0x81#8], link7, by decide +kernel, _, rfl, _, rfl, by decide +kernel⟩,
   ⟨0, ([0x41#8, 0x00#8, 0xff#8, 0xff#8, 0xa0#8, 0x00#8, 0x03#8] ++ List.replicate 9 0x00#8 ++ [0x03#8, 0x02#8, 0x00#8, 0x00#8, 0x44#8, 0x44#8,
     0xe0#8, 0x1f#8] ++ List.replicate 152 0x00#8 ++ [0x16#8, 0x20#8, 0xf5#8, 0x8e#8]), link7, by decide +kernel, _, rfl, _, rfl, by decide +kernel⟩,
   ⟨0, [0x7f#8, 0x00#8, 0xff#8, 0xff#8, 0x04#8, 0x00#8, 0x00#8, 0x00#8, 0x00#8, 0x00#8, 0x00#8, 0x00#8, 0x00#8, 0x00#8, 0x00#8, 0x00#8, 0x01#8,
     0x02#8, 0x03#8, 0x04#8, 0x2d#8, 0x38#8, 0x07#8, 0x76#8], link10, by decide +kernel, _, rfl, _, rfl, by decide +kernel⟩,
   ⟨0, [0x7f#8, 0x00#8, 0xff#8, 0xff#8, 0x04#8, 0x00#8, 0x00#8, 0x00#8, 0x00#8, 0x00#8, 0x00#8, 0x00#8, 0x00#8, 0x00#8, 0x00#8, 0x00#8, 0x01#8,
     0x02#8, 0x03#8, 0x04#8, 0x2d#8, 0x38#8, 0x07#8, 0x76#8], link12, by decide +kernel, _, rfl, _, rfl, by decide +kernel⟩,
   ⟨0, [0x20#8, 0x00#8, 0x4a#8, 0x00#8, 0x14#8, 0x00#8, 0x00#8, 0x00#8, 0x00#8, 0x00#8, 0x00#8, 0x00#8, 0x00#8, 0x00#8, 0x00#8, 0x00#8, 0x05#8,
     0x00#8, 0x01#8, 0x00#8, 0x01#8, 0x00#8, 0x00#8, 0x00#8, 0x0c#8, 0x00#8, 0x00#8, 0x00#8, 0x00#8, 0x00#8, 0x00#8, 0x00#8, 0x00#8, 0x00#8, 0x00#8,
     0x00#8, 0x10#8, 0xf5#8, 0x93#8, 0x50#8], link13, by decide +kernel, _, rfl, _, rfl, by decide +kernel⟩⟩

theorem witness_OutboundPacketsLeave :
    (∃ s : State, ∃ n : Fin 32, ∃ k : Fin 2, ∃ p : StoredPkt, ∃ ps : List StoredPkt, (s.maySend n.val k.val = true) ∧ (n.val ≠ 27) ∧
      ((s.queue n.val).pkts = p :: ps) ∧ (s.fld (Fld.QUE_WMn_LEVEL n.val) = 0) ∧ (∀ f ∈ s.link.flight, f.tb ≠ k.val) ∧
      ((s.readPacket p reqLinkOut).2 = false)) ∧
    (∃ s : State, ∃ n : Fin 32, ∃ k : Fin 2, ∃ p : StoredPkt, ∃ ps : List StoredPkt, (s.maySend n.val k.val = true) ∧ (n.val ≠ 27) ∧
      ((s.queue n.val).pkts = p :: ps) ∧ (s.fld (Fld.QUE_WMn_LEVEL n.val) = 0) ∧ (∀ f ∈ s.link.flight, f.tb ≠ k.val) ∧ (s.ecc = [])) ∧
    (∃ s : State, (s.linkIs lnkActive = true) ∧ (∀ f ∈ s.link.flight, f.tb ≠ s.controlTb)) ∧
    (∃ s : State, (s.linkIs lnkRollCall = true) ∧ (s.link.acked = false)) ∧
    (∃ s : State, (s.linkIs lnkRollCall = true) ∧ (s.link.peer.isSome = true)) ∧
    (∃ s : State, ∃ k : Nat, ∃ p : List Byte, (s.link.lbk = some (k, p)) ∧ (∀ f ∈ s.link.flight, f.tb ≠ (if s.tbInUse k then k else 1 - k))) ∧
    (∃ s : State, (s.linkIs lnkActive = true) ∧ (s.link.records ≠ []) ∧ (s.fld (Fld.QUE_WMn_LEVEL 26) = 0)) ∧
    (∃ s : State, (s.linkIs lnkActive = true) ∧ ((s.queue 26).use = true) ∧ ((s.queue 26).occupancy < 256) ∧ (s.fld (Fld.QUE_WMn_LEVEL 26) = 0)) ∧
    (∃ s : State, ∃ p : StoredPkt, ∃ ps : List StoredPkt, ((s.queue 10).pkts = p :: ps) ∧ (s.link.mgq = none) ∧ (s.linkIs lnkActive = true) ∧
      ((s.queue 27).unlimited = true) ∧ ((s.queue 27).occupancy + 3 ≤ 256) ∧ (mgqMalformed (pktPayload p.bytes) (pktPayload p.bytes).length = false)) :=
  ⟨⟨{qs act [(17,{qa with pkts := [{sp 17 0 with blocks := [0x10000000,0x10000300]}]})] with ecc := [(wordIndex 0x10000308,2)]}, 17, 0,
     {sp 17 0 with blocks := [0x10000000,0x10000300]}, [], by decide +kernel⟩,
   ⟨link11, 17, 0,
     { bytes := ([0x05#8, 0x00#8, 0x11#8, 0x00#8, 0x2c#8, 0x01#8] ++ List.replicate 10 0x00#8 ++ List.replicate 300 0x01#8), begun := false, air := 3, serial := 4, blocks := [], after := [] },
     [], by decide +kernel⟩,
   ⟨link10, by decide +kernel⟩,
   ⟨link8, by decide +kernel⟩,
   ⟨link7, by decide +kernel⟩,
   ⟨link12, 1, [0x01#8, 0x02#8], by decide +kernel⟩,
   ⟨link12, by decide +kernel⟩,
   ⟨link11, by decide +kernel⟩,
   ⟨link12,
     { bytes := [0x20#8, 0x00#8, 0x4a#8, 0x00#8, 0x14#8, 0x00#8, 0x00#8, 0x00#8, 0x00#8, 0x00#8, 0x00#8, 0x00#8, 0x00#8, 0x00#8, 0x00#8, 0x00#8, 0x05#8, 0x00#8, 0x01#8, 0x00#8, 0x01#8, 0x00#8, 0x00#8, 0x00#8, 0x0c#8, 0x00#8, 0x00#8, 0x00#8, 0x00#8, 0x00#8, 0x00#8, 0x00#8, 0x00#8, 0x00#8, 0x00#8, 0x00#8, 0x10#8, 0xf5#8, 0x93#8, 0x50#8], begun := false, air := 0, serial := 0, blocks := [], after := [] },
     [], by decide +kernel⟩⟩

theorem witness_QueuesFlushAndReset :
    (∃ q : Requester, ∃ s : State, (s.passes q Reg.QUE_FLUSH true) ∧ (s.linkIs lnkActive = true) ∧ (∀ n < 32, s.fld (Fld.QUE_WMn_LEVEL n) = 0) ∧
      (∀ n < 32, (s.queue n).doomed = []) ∧ ((s.queue 27).pkts.flatMap (·.after) = [])) ∧
    (∃ q : Requester, ∃ d : Word, ∃ s : State, (s.passes q Reg.QUE_FLUSH true) ∧ (s.linkIs lnkActive = true) ∧ (∀ n < 32,
      s.fld (Fld.QUE_WMn_LEVEL n) = 0) ∧ (∀ n < 32, (s.queue n).doomed = []) ∧ ∃ n : Fin 12, (d = BitVec.twoPow 32 n.val) ∧
      ((s.queue n.val).use = true)) ∧
    (∃ s : State, ∃ n : Fin 32, (s.raiseRoom 1) ∧ ((s.queue n.val).pkts.flatMap (·.after) = []) ∧ (∀ f ∈ s.link.flight, f.queue ≠ n.val)) ∧
    (∃ s : State, ∃ n : Fin 32, (s.raiseRoom 1) ∧ ((s.queue n.val).pkts.flatMap (·.after) = []) ∧ ∃ f : Flight, (s.link.flight = [f]) ∧
      (f.queue = n.val) ∧ (f.after = [])) ∧
    (∃ q : Requester, ∃ s : State, (s.passes q Reg.QUE_CTRL true)) :=
  ⟨⟨.dean, link10, by unfold State.passes State.inTurn; decide +kernel⟩,
   ⟨.dean, BitVec.twoPow 32 3, {qs act [(3,qa)] with domains := List.range 17}, by unfold State.passes State.inTurn; decide +kernel,
     by decide +kernel, by decide +kernel, by decide +kernel, 3, by decide +kernel⟩,
   ⟨link0, 17, by unfold State.raiseRoom; decide +kernel⟩,
   ⟨link23, 17, by unfold State.raiseRoom; decide +kernel, by decide +kernel,
     { tb := 0, queue := 17, bytes := [0x01#8, 0x02#8, 0x03#8], left := 5, after := [] }, by decide +kernel⟩,
   ⟨.dean, link1, by unfold State.passes State.inTurn; decide +kernel⟩⟩

theorem witness_TheStoreIsScrubbed :
    (∃ s : State, (s.on Fld.CST_SCRUB_CTRL_PERIOD = true) ∧ (s.domOn pdCst = true) ∧ (s.on Fld.CST_STATUS_READY = true) ∧
      (s.lopState 5 ≠ lopRunning) ∧ (s.fld Fld.CST_SCRUB_POS_ROW < 65535) ∧ (s.ecc = [])) ∧
    (∃ s : State, (s.on Fld.CST_SCRUB_CTRL_PERIOD = true) ∧ (s.domOn pdCst = true) ∧ (s.on Fld.CST_STATUS_READY = true) ∧
      (s.lopState 5 ≠ lopRunning) ∧ ∃ w, (s.fld Fld.CST_SCRUB_POS_ROW < 65535) ∧ (s.ecc = [(w, 1)]) ∧ (w < 0x1000000) ∧
      (w % 0x40000 / 4 = s.fld Fld.CST_SCRUB_POS_ROW) ∧ (s.bankPowered (w / 0x40000) = true) ∧ (s.raiseRoom 1)) ∧
    (∃ s : State, (s.on Fld.CST_SCRUB_CTRL_PERIOD = true) ∧ (s.domOn pdCst = true) ∧ (s.on Fld.CST_STATUS_READY = true) ∧
      (s.lopState 5 ≠ lopRunning) ∧ (s.fld Fld.CST_SCRUB_POS_ROW = 65535) ∧ (s.ecc = []) ∧ (s.raiseRoom 1)) ∧
    (∃ q : Requester, ∃ s : State, (s.passes q Reg.CST_ECC_INJ true)) ∧
    (∃ q : Requester, ∃ s : State, (s.passes q Reg.CST_SCRUB_CTRL true) ∧ (s.lopBusy 5 = true)) ∧
    (∃ q : Requester, ∃ s : State, (s.passes q Reg.CST_SCRUB_CTRL true) ∧ (s.lopBusy 5 = false) ∧ (s.domOn pdCst = true) ∧ (s.banksOff.length ≤ 64)) ∧
    (∃ s : State, (s.lopState 5 = lopRunning) ∧ (s.ecc = []) ∧ (s.raiseRoom 2)) :=
  ⟨⟨b0, by decide +kernel⟩,
   ⟨dma3, by decide +kernel, by decide +kernel, by decide +kernel, by decide +kernel, 262173, by unfold State.raiseRoom; decide +kernel⟩,
   ⟨dma4, by unfold State.raiseRoom; decide +kernel⟩,
   ⟨.dean, b0, by unfold State.passes State.inTurn; decide +kernel⟩,
   ⟨.dean, dma5, by unfold State.passes State.inTurn; decide +kernel⟩,
   ⟨.dean, b0, by unfold State.passes State.inTurn; decide +kernel⟩,
   ⟨dma5, by unfold State.raiseRoom; decide +kernel⟩⟩

theorem witness_DmaChannelsObeyTheirControl :
    (∃ ch : Fin 32, ∃ q : Requester, ∃ n : Nat, ∃ s : State, (n = ch.val) ∧ (s.passes q (Reg.DMA_CHn_CTRL n) true) ∧ (s.dmaState n ≠ dmaIdle)) ∧
    (∃ ch : Fin 32, ∃ q : Requester, ∃ n : Nat, ∃ s : State, (n = ch.val) ∧ (s.passes q (Reg.DMA_CHn_CTRL n) true) ∧ (s.dmaState n = dmaIdle)) ∧
    (∃ ch : Fin 32, ∃ q : Requester, ∃ d : Word, ∃ n : Nat, ∃ s : State, (n = ch.val) ∧ (s.passes q (Reg.DMA_CHn_CTRL n) true) ∧
      (s.dmaState n = dmaActive) ∧ ((s.chan n).fetch = none) ∧ ((s.chan n).burst = 0) ∧ ((Fld.DMA_CHn_CTRL_ABORT n).of d = 0)) ∧
    (∃ ch : Fin 32, ∃ q : Requester, ∃ n : Nat, ∃ s : State, (n = ch.val) ∧ (s.passes q (Reg.DMA_CHn_CTRL n) true) ∧ (s.dmaState n = dmaActive) ∧
      ((s.chan n).fetch ≠ none ∨ (s.chan n).burst ≠ 0)) ∧
    (∃ ch : Fin 32, ∃ q : Requester, ∃ n : Nat, ∃ s : State, (n = ch.val) ∧ (s.passes q (Reg.DMA_CHn_CTRL n) true) ∧ ((s.dmaState n = dmaActive ∧
      (s.chan n).fetch = none ∧ (s.chan n).burst = 0) ∨ s.dmaState n = dmaPaused ∨ s.dmaState n = dmaHalted)) ∧
    (∃ ch : Fin 32, ∃ q : Requester, ∃ d : Word, ∃ n : Nat, ∃ s : State, (n = ch.val) ∧ (s.passes q (Reg.DMA_CHn_CTRL n) true) ∧
      (s.dmaState n = dmaHalted) ∧ (s.fld (Fld.DMA_CHn_STATUS_ERR n) < dmaErrLoop) ∧ ((Fld.DMA_CHn_CTRL_PAUSE n).of d = 0)) :=
  ⟨⟨1, .dean, _, dma6, rfl, by unfold State.passes State.inTurn; decide +kernel⟩,
   ⟨1, .dean, _, b0, rfl, by unfold State.passes State.inTurn; decide +kernel⟩,
   ⟨1, .dean, 0x00000000#32, _, dma9, rfl, by unfold State.passes State.inTurn; decide +kernel⟩,
   ⟨1, .dean, _, dma6, rfl, by unfold State.passes State.inTurn; decide +kernel⟩,
   ⟨1, .dean, _, dma9, rfl, by unfold State.passes State.inTurn; decide +kernel⟩,
   ⟨1, .dean, 0x00000000#32, _, dma15, rfl, by unfold State.passes State.inTurn; decide +kernel⟩⟩

theorem witness_DmaDescriptorsRunToTheirEnd :
    (∃ ch : Fin 32, ∃ n : Nat, ∃ s : State, (n = ch.val) ∧ (s.dmaState n = dmaActive) ∧ (s.raiseRoom 1) ∧ ∃ a : Nat, ∃ b : List Byte,
      ((s.chan n).fetch = some a) ∧ (a % 32 = 0) ∧ (storeBase ≤ a) ∧ (a < storeEnd) ∧ (s.ecc = []) ∧ (s.judge (s.chan n).req a false = stOk) ∧
      (b = s.storeBytes a 32) ∧ (descOk b = true) ∧ (s.on (Fld.DMA_CHn_CTRL_PAUSE n) = false)) ∧
    (∃ ch : Fin 32, ∃ n : Nat, ∃ s : State, (n = ch.val) ∧ (s.dmaState n = dmaActive) ∧ (s.raiseRoom 1) ∧ ∃ a : Nat, ∃ b : List Byte,
      ((s.chan n).fetch = some a) ∧ (a % 32 = 0) ∧ (storeBase ≤ a) ∧ (a < storeEnd) ∧ (s.ecc = []) ∧ (s.judge (s.chan n).req a false = stOk) ∧
      (b = s.storeBytes a 32) ∧ (descOk b = false)) ∧
    (∃ ch : Fin 32, ∃ n : Nat, ∃ s : State, (n = ch.val) ∧ (s.dmaState n = dmaActive) ∧ (s.raiseRoom 1) ∧ ∃ d : List Byte, ∃ l : Nat,
      ((s.chan n).desc = d) ∧ ((s.chan n).fetch = none) ∧ ((s.chan n).held = none) ∧ ((s.chan n).burst = 0) ∧ (l = descLen d) ∧
      (s.fld (Fld.DMA_CHn_REMAIN_WORDS n) = l) ∧ (0 < l) ∧ (l ≤ 64) ∧ (descOk d = true) ∧ (descMode d = 0) ∧ (descSrcFix d = false) ∧
      (descDstFix d = false) ∧ (descPreq d = false) ∧ (s.on (Fld.DMA_CHn_CTRL_PAUSE n) = false) ∧ (storeBase ≤ descSrc d) ∧
      (descSrc d + 4 * l ≤ storeEnd) ∧ (storeBase ≤ descDst d) ∧ (descDst d + 4 * l ≤ storeEnd) ∧ (descSrc d + 4 * l ≤ descDst d ∨
      descDst d + 4 * l ≤ descSrc d) ∧ (s.ecc = []) ∧ (s.fld Fld.CST_ECC_INJ_MODE = 0) ∧ (∀ w < l,
      s.judge (s.chan n).req (descSrc d + 4 * w) false = stOk ∧ s.judge (s.chan n).req (descDst d + 4 * w) true = stOk)) ∧
    (∃ ch : Fin 32, ∃ n : Nat, ∃ s : State, (n = ch.val) ∧ (s.dmaState n = dmaActive) ∧ (s.raiseRoom 1) ∧ ∃ d : List Byte, ((s.chan n).desc = d) ∧
      (d ≠ []) ∧ ((s.chan n).fetch = none) ∧ (s.fld (Fld.DMA_CHn_REMAIN_WORDS n) = 0) ∧ (descLen d ≠ 0) ∧ (descHopClr d = false) ∧
      (descPause d = false) ∧ (descChain d = false)) ∧
    (∃ ch : Fin 32, ∃ n : Nat, ∃ s : State, (n = ch.val) ∧ (s.dmaState n = dmaActive) ∧ (s.raiseRoom 1) ∧ ∃ d : List Byte, ((s.chan n).desc = d) ∧
      (d ≠ []) ∧ ((s.chan n).fetch = none) ∧ (s.fld (Fld.DMA_CHn_REMAIN_WORDS n) = 0) ∧ (descLen d ≠ 0) ∧ (descHopClr d = false) ∧
      (descPause d = false) ∧ (descChain d = true) ∧ (s.fld (Fld.DMA_CHn_HOPCNT_COUNT n) < s.fld (Fld.DMA_CHn_HOPS_LIMIT n))) ∧
    (∃ ch : Fin 32, ∃ n : Nat, ∃ s : State, (n = ch.val) ∧ (s.dmaState n = dmaActive) ∧ (s.raiseRoom 1) ∧ ((s.chan n).fetch = none) ∧
      ((s.chan n).held = none) ∧ (s.fld (Fld.DMA_CHn_REMAIN_WORDS n) ≠ 0) ∧ ((s.chan n).burst ≠ 0 ∨ descPreq (s.chan n).desc = false) ∧ ∃ a,
      (a = descWord (s.chan n).desc (descLen (s.chan n).desc - s.fld (Fld.DMA_CHn_REMAIN_WORDS n))) ∧ (dmaReach a.1 = false)) ∧
    (∃ ch : Fin 32, ∃ n : Nat, ∃ s : State, (n = ch.val) ∧ (s.dmaState n = dmaActive) ∧ (s.raiseRoom 1) ∧ ((s.chan n).fetch = none) ∧
      ((s.chan n).held = none) ∧ (s.fld (Fld.DMA_CHn_REMAIN_WORDS n) ≠ 0) ∧ ((s.chan n).burst ≠ 0 ∨ descPreq (s.chan n).desc = false) ∧ ∃ a,
      (a = descWord (s.chan n).desc (descLen (s.chan n).desc - s.fld (Fld.DMA_CHn_REMAIN_WORDS n))) ∧ (storeBase ≤ a.1) ∧ (a.1 < storeEnd) ∧
      (s.dmaStatus n a.1 false 0 = stOk) ∧ (s.ecc = [])) :=
  ⟨⟨1, _, dma6, rfl, by decide +kernel, by unfold State.raiseRoom; decide +kernel, 268435456, _, by decide +kernel, by decide +kernel,
     by decide +kernel, by decide +kernel, by decide +kernel, by decide +kernel, rfl, by decide +kernel⟩,
   ⟨1, 1, chn (b0.putStore A (ds A (A+4) 8 255 1 (A+64) 0x12345678)) 1 ⟨[], .mspi, some A, none, 0⟩ 0, by decide +kernel, by decide +kernel,
     by unfold State.raiseRoom; decide +kernel, A, _, by decide +kernel, by decide +kernel, by decide +kernel, by decide +kernel, by decide +kernel,
     by decide +kernel, rfl, by decide +kernel⟩,
   ⟨1, _, dma9, rfl, by decide +kernel, by unfold State.raiseRoom; decide +kernel, [0x00#8, 0x01#8, 0x00#8, 0x10#8, 0xfc#8, 0x03#8, 0x00#8, 0x10#8,
     0x03#8, 0x00#8, 0x00#8, 0x00#8, 0x00#8, 0x00#8, 0x00#8, 0x00#8, 0x00#8, 0x00#8, 0x00#8, 0x00#8, 0x01#8, 0x00#8, 0x00#8, 0x00#8, 0x00#8, 0x00#8,
     0x00#8, 0x00#8, 0x78#8, 0x56#8, 0x34#8, 0x12#8], 3, by decide +kernel⟩,
   ⟨1, _, dma11, rfl, by decide +kernel, by unfold State.raiseRoom; decide +kernel, [0x00#8, 0x01#8, 0x00#8, 0x10#8, 0x00#8, 0x04#8, 0x00#8, 0x10#8,
     0x08#8, 0x00#8, 0x00#8, 0x00#8, 0x00#8, 0x00#8, 0x00#8, 0x00#8, 0x00#8, 0x00#8, 0x00#8, 0x00#8, 0x01#8, 0x00#8, 0x00#8, 0x00#8, 0x00#8, 0x00#8,
     0x00#8, 0x00#8, 0x78#8, 0x56#8, 0x34#8, 0x12#8], by decide +kernel⟩,
   ⟨1, _, dma12, rfl, by decide +kernel, by unfold State.raiseRoom; decide +kernel, [0x00#8, 0x01#8, 0x00#8, 0x10#8, 0x00#8, 0x04#8, 0x00#8, 0x10#8,
     0x08#8, 0x00#8, 0x00#8, 0x00#8, 0x00#8, 0x00#8, 0x00#8, 0x00#8, 0x00#8, 0x00#8, 0x00#8, 0x00#8, 0x00#8, 0x00#8, 0x00#8, 0x00#8, 0x41#8, 0x00#8,
     0x00#8, 0x10#8, 0x78#8, 0x56#8, 0x34#8, 0x12#8], by decide +kernel⟩,
   ⟨1, _, dma14, rfl, by decide +kernel, by unfold State.raiseRoom; decide +kernel, by decide +kernel, by decide +kernel, by decide +kernel,
     by decide +kernel, _, rfl, by decide +kernel⟩,
   ⟨1, _, dma9, rfl, by decide +kernel, by unfold State.raiseRoom; decide +kernel, by decide +kernel, by decide +kernel, by decide +kernel,
     by decide +kernel, _, rfl, by decide +kernel⟩⟩

theorem witness_DataPacketsAreHeldForTheirSymbol :
    (∃ k : Fin 2, ∃ bs : List Byte, ∃ s : State, (∀ n < 12, k.val ∉ (s.queue n).doomed) ∧ ∃ p, (p = typed tyDld bs) ∧ ∃ u,
      (u = (s.receive k.val false false p).1) ∧ ∃ n, (n = pktQueue p) ∧ ((s.receive k.val false false p).2 = true) ∧ (u.time.everLocked = true) ∧
      ∃ a, ((u.locate [false] n p).2 = some a) ∧ (a - u.tEarly ≤ u.air) ∧ (u.air ≤ a - u.tLate)) ∧
    (∃ k : Fin 2, ∃ bs : List Byte, ∃ s : State, (∀ n < 12, k.val ∉ (s.queue n).doomed) ∧ ∃ p, (p = typed tyDld bs) ∧ ∃ u,
      (u = (s.receive k.val false false p).1) ∧ ∃ n, (n = pktQueue p) ∧ ((s.receive k.val false false p).2 = true) ∧ (u.time.everLocked = true) ∧
      ∃ a, ((u.locate [false] n p).2 = some a) ∧ (a - u.tEarly ≤ u.air) ∧ (a - u.tLate < u.air) ∧ (u.raiseRoom 2)) ∧
    (∃ k : Fin 2, ∃ bs : List Byte, ∃ s : State, (∀ n < 12, k.val ∉ (s.queue n).doomed) ∧ ∃ p, (p = typed tySec bs) ∧ ∃ u,
      (u = (s.receive k.val false false p).1) ∧ ((s.receive k.val false false p).2 = true) ∧ (u.time.everLocked = true) ∧ ∃ c, (c = pktCarrier p) ∧
      ∃ l, (l = u.locate [false, true] c p) ∧ ∃ b, (b = pktPayload p) ∧ (pktLen p = 20) ∧ (fieldAt b 2 2 = 1) ∧ (fieldAt b 0 1 ≤ 1) ∧
      (fieldAt b 1 1 = 0) ∧ (pktSymbol p ≤ 13) ∧ ∃ a : Nat, (l.2 = some (a : Int)) ∧ ((a : Int) - u.tEarly ≤ u.air) ∧ ((u.air : Int) ≤ a - u.tLate) ∧
      (airOf l.1 (frameOf a) (symbolOf l.1 a) = a) ∧ ∃ cfg, (cfg = u.carrierAt (bitOf (fieldAt b 4 2) 11) c a) ∧ ∃ h,
      (h = readSection b 0 c u.sect.serial cfg) ∧ (u.sectionReason b 0 h cfg = 0) ∧ (u.heldReason { h with air := a } = 0)) ∧
    (∃ k : Fin 2, ∃ bs : List Byte, ∃ s : State, (∀ n < 12, k.val ∉ (s.queue n).doomed) ∧ ∃ p, (p = typed tyWgt bs) ∧ ∃ u,
      (u = (s.receive k.val false false p).1) ∧ ((s.receive k.val false false p).2 = true) ∧ (u.time.everLocked = true) ∧
      (pktSlot p < slotsPerFrame u.time.scs) ∧ (wgtBad (pktPayload p) (pktLen p) = false) ∧ ∃ a,
      (a = resolveAir u.time.scs (pktSfn p) (pktSlot p) 0 u.air) ∧ (a - u.tEarly ≤ u.air) ∧ (u.air ≤ a - u.tLate)) ∧
    (∃ k : Fin 2, ∃ bs : List Byte, ∃ s : State, (∀ n < 12, k.val ∉ (s.queue n).doomed) ∧ ∃ p, (p = typed tyTim bs) ∧ ∃ u : State,
      (u = (s.receive k.val false false p).1) ∧ ((s.receive k.val false false p).2 = true) ∧ (pktLen p = 16) ∧ (u.fld Fld.ATM_SYNC_CTRL_SRC = 1) ∧
      (bitOf (fieldAt p 24 4) 0 = false) ∧ (u.syncState = syncLocked) ∧ ∃ ph : Fin 5, ∃ e : Int,
      (e = (fieldAt p 16 8 : Int) - (u.air + ((ph.val : Int) - 2))) ∧ (e.natAbs ≤ u.fld Fld.ATM_SYNC_CTRL_TOL)) :=
  ⟨⟨0, [0x01#8, 0x00#8, 0x00#8, 0x00#8, 0x08#8, 0x00#8, 0x00#8, 0x00#8, 0x02#8, 0x24#8, 0x04#8, 0x00#8, 0x00#8, 0x00#8, 0x00#8, 0x00#8, 0x01#8,
     0x02#8, 0x03#8, 0x04#8, 0x05#8, 0x06#8, 0x07#8, 0x08#8, 0x9c#8, 0xdf#8, 0x62#8, 0x79#8], lk2, by decide +kernel, _, rfl, _, rfl, _, rfl,
     by decide +kernel, by decide +kernel, 3019392, by decide +kernel⟩,
   ⟨0, [0x01#8, 0x00#8, 0x00#8, 0x00#8, 0x08#8, 0x00#8, 0x00#8, 0x00#8, 0x02#8, 0x20#8, 0x18#8, 0x00#8, 0x00#8, 0x00#8, 0x00#8, 0x00#8, 0x01#8,
     0x02#8, 0x03#8, 0x04#8, 0x05#8, 0x06#8, 0x07#8, 0x08#8, 0xbe#8, 0x17#8, 0x59#8, 0xbf#8], lk2, by decide +kernel, _, rfl, _, rfl, _, rfl,
     by decide +kernel, by decide +kernel, 3001792, by unfold State.raiseRoom; decide +kernel⟩,
   ⟨0, secp 42000, lkC, by decide +kernel, _, rfl, _, rfl, by decide +kernel, by decide +kernel, _, rfl, _, rfl, _, rfl, by decide +kernel,
     by decide +kernel, by decide +kernel, by decide +kernel, by decide +kernel, kAt 42000, by decide +kernel, by decide +kernel, by decide +kernel,
     by decide +kernel, _, rfl, _, rfl, by decide +kernel⟩,
   ⟨0, ([0x04#8, 0x00#8, 0x09#8, 0x00#8, 0x08#8, 0x01#8, 0x00#8, 0x00#8, 0x02#8, 0x24#8] ++ List.replicate 6 0x00#8 ++ [0x01#8] ++
     List.replicate 263 0x00#8 ++ [0x99#8, 0x67#8, 0xd5#8, 0xb9#8]), lk2, by decide +kernel, _, rfl, _, rfl, by decide +kernel, by decide +kernel,
     by decide +kernel, by decide +kernel, _, rfl, by decide +kernel⟩,
   ⟨0, [0x10#8, 0x00#8, 0x0b#8, 0x00#8, 0x10#8, 0x00#8, 0x00#8, 0x00#8, 0x00#8, 0x00#8, 0x00#8, 0x00#8, 0x00#8, 0x00#8, 0x00#8, 0x00#8, 0xc3#8,
     0xc6#8, 0x2d#8, 0x00#8, 0x00#8, 0x00#8, 0x00#8, 0x00#8, 0x00#8, 0x00#8, 0x00#8, 0x00#8, 0x00#8, 0x00#8, 0x00#8, 0x00#8, 0xc6#8, 0x29#8, 0x88#8,
     0xe4#8], lkA, by decide +kernel, _, rfl, _, rfl, by decide +kernel, by decide +kernel, by decide +kernel, by decide +kernel, by decide +kernel,
     0, _, rfl, by decide +kernel⟩⟩

theorem witness_AirTimeFollowsItsSource :
    (∃ s : State, ∃ e, (s.time.edge = some e) ∧ ((s.air : Int) + 1 - e < 1105920)) ∧
    (∃ s : State, (s.time.edge = none) ∧ (s.fld Fld.ATM_SYNC_CTRL_SRC < 2) ∧ (s.fld Fld.ATM_SYNC_CTRL_SRC = 0 ∨ s.time.tim = none)) ∧
    (∃ s : State, (s.time.edge = none) ∧ (s.syncState = syncUnsynced) ∧ ∃ d, (s.edgeError (s.fld Fld.ATM_SYNC_CTRL_SRC) (s.air + 1) = some d) ∧
      (-2 ^ 31 ≤ d ∧ d < 2 ^ 31)) ∧
    (∃ s : State, (s.syncState = syncLocked) ∧ (s.on Fld.ATM_SYNC_CTRL_LOSS_MS = true) ∧ (s.raiseRoom 1)) ∧
    (∃ s : State, ∃ q : Requester, (s.passes q Reg.ATM_CTRL true) ∧ (s.fld Fld.ATM_SYNC_CTRL_SRC = 0) ∧ (s.syncState = syncUnsynced) ∧
      (s.raiseRoom 1)) ∧
    (∃ s : State, ∃ q : Requester, (s.passes q Reg.ATM_CTRL true) ∧ (s.fld Fld.ATM_SYNC_CTRL_SRC = 0) ∧ (s.syncState = syncLocked) ∧
      (s.cal.lop0 = none)) ∧
    (∃ s : State, ∃ q : Requester, ∃ w : Word, (s.passes q Reg.ATM_SYNC_CTRL true) ∧ (Fld.ATM_SYNC_CTRL_SRC.of w = s.fld Fld.ATM_SYNC_CTRL_SRC)) ∧
    (∃ s : State, ∃ q : Requester, ∃ w : Word, (s.passes q Reg.ATM_SYNC_CTRL true) ∧ (Fld.ATM_SYNC_CTRL_SRC.of w ≠ s.fld Fld.ATM_SYNC_CTRL_SRC) ∧
      (Fld.ATM_SYNC_CTRL_SRC.of w ≠ 0) ∧ (s.syncState = syncLocked) ∧ (s.raiseRoom 1)) ∧
    (∃ s : State, ∃ d, (s.time.step = some d) ∧ (s.queues = []) ∧ (s.raiseRoom 1)) ∧
    (∃ s : State, (s.on Fld.ATM_CTRL_AO_EN = true) ∧ (frameOf s.air % 2 ^ s.fld Fld.ATM_CTRL_AO_DIV = 0)) :=
  ⟨⟨air4, 5, by decide +kernel⟩,
   ⟨State.reset, by decide +kernel⟩,
   ⟨air5, by decide +kernel, by decide +kernel, -1, by decide +kernel⟩,
   ⟨lkA, by unfold State.raiseRoom; decide +kernel⟩,
   ⟨State.reset, .dean, by unfold State.passes State.inTurn State.raiseRoom; decide +kernel⟩,
   ⟨air9, .dean, by unfold State.passes State.inTurn; decide +kernel⟩,
   ⟨State.reset, .dean, 0x00000000#32, by unfold State.passes State.inTurn; decide +kernel⟩,
   ⟨lkA, .dean, 0x00000002#32, by unfold State.passes State.inTurn State.raiseRoom; decide +kernel⟩,
   ⟨air10, -7, by unfold State.raiseRoom; decide +kernel⟩,
   ⟨air11, by decide +kernel⟩⟩

theorem witness_TheTimetableAndTheArrayTakeTheirSettings :
    (∃ s : State, (s.time.everLocked = false ∨ s.detained = true)) ∧
    (∃ s : State, (s.time.everLocked = true) ∧ (s.domOn pdCtl = true) ∧ (s.detained = false)) ∧
    (∃ q : Requester, ∃ s : State, (s.passes q Reg.ATM_TT_CTRL true)) ∧
    (∃ s : State, (s.on Fld.ATM_TT_CTRL_SWAP = true) ∧ (s.detained = false)) ∧
    (∃ q : Requester, ∃ s : State, ∃ i : Fin 4, ∃ k : Fin 3, (s.passes q (Reg.ATM_PEERk_W0 i.val + 4 * k.val) true) ∧ (k.val ≠ 2 ∨ s.time.map = [])) ∧
    (∃ q : Requester, ∃ w : Word, ∃ s : State, ∃ i : Fin 4, ∃ k : Fin 3, (s.passes q (Reg.ATM_PEERk_W0 i.val + 4 * k.val) true) ∧ (k.val = 2) ∧ ∃ e,
      ((mapEntries s.time.map).find? (fun e => e.2.1 == i.val) = some e) ∧ (w.getLsbD 31 = true) ∧ (s.peerSerial i.val ≠ e.1) ∧ (s.raiseRoom 1)) :=
  ⟨⟨State.reset, by decide +kernel⟩,
   ⟨lk2, by decide +kernel⟩,
   ⟨.dean, lk2, by unfold State.passes State.inTurn; decide +kernel⟩,
   ⟨airt2, by decide +kernel⟩,
   ⟨.dean, lk2, 0, 0, by unfold State.passes State.inTurn; decide +kernel⟩,
   ⟨.dean, 0x80000001#32, T lk2 (fun t => {t with map := mapB}), 1, 2, by unfold State.passes State.inTurn; decide +kernel, by decide +kernel,
     (77,1,true), by unfold State.raiseRoom; decide +kernel⟩⟩

theorem witness_ABeamBookUpdateRunsItsSteps :
    (∃ q : Requester, ∃ s : State, (s.passes q Reg.BMB_UPD_CTRL true) ∧ (s.fld Fld.BMB_UPD_STATUS_STATE ≠ 0)) ∧
    (∃ q : Requester, ∃ w : Word, ∃ s : State, (s.passes q Reg.BMB_UPD_CTRL true) ∧ (s.fld Fld.BMB_UPD_STATUS_STATE = 0) ∧
      (Fld.BMB_UPD_CTRL_COUNT.of w ≠ 0) ∧ (Fld.BMB_UPD_CTRL_COUNT.of w ≤ 256)) ∧
    (∃ s : State, ∃ n, (n = 260 * s.fld Fld.BMB_UPD_CTRL_COUNT) ∧ (s.time.everLocked = true) ∧ (s.fld Fld.BMB_UPD_STATUS_STATE = 1) ∧
      (s.domOn pdCst = true) ∧ (s.ecc = []) ∧ (storeBase ≤ s.fld Fld.BMB_UPD_ADDR_ADDR) ∧ (s.fld Fld.BMB_UPD_ADDR_ADDR + n ≤ storeEnd) ∧
      (s.air ≤ s.bmb.boundary - s.tLate)) ∧
    (∃ s : State, (s.time.everLocked = true) ∧ (s.fld Fld.BMB_UPD_STATUS_STATE = 2)) ∧
    (∃ s : State, (s.time.everLocked = true) ∧ (s.fld Fld.BMB_UPD_STATUS_STATE = 3) ∧ (s.bmb.shadow.length = 260) ∧ (s.ecc = []) ∧
      (s.fld Fld.CST_ECC_INJ_MODE = 0) ∧ (s.raiseRoom 1)) :=
  ⟨⟨.dean, air15, by unfold State.passes State.inTurn; decide +kernel⟩,
   ⟨.dean, 0x00000100#32, lk2, by unfold State.passes State.inTurn; decide +kernel⟩,
   ⟨air20, _, rfl, by decide +kernel⟩,
   ⟨air18, by decide +kernel⟩,
   ⟨air22, by unfold State.raiseRoom; decide +kernel⟩⟩

theorem witness_CarrierConfigurationsAreCommitted :
    (∃ q : Requester, ∃ w : Word, ∃ s : State, ∃ up : Bool, ∃ c : Instr, ((c = .dlcCommit q w ∧ up = false) ∨ (c = .ulcCommit q w ∧ up = true)) ∧
      (s.passes q (fCommit up).addr true) ∧ (s.on (fCommitPending up) = true)) ∧
    (∃ q : Requester, ∃ w : Word, ∃ s : State, ∃ up : Bool, ∃ c : Instr, ((c = .dlcCommit q w ∧ up = false) ∨ (c = .ulcCommit q w ∧ up = true)) ∧
      (s.passes q (fCommit up).addr true) ∧ ∃ r, ∃ k, ((if up then Fld.ULC_CTRL_CNT_CLR else Fld.DLC_CTRL_CNT_CLR).of w = 0) ∧
      ((fIqSwap up).of w = 0) ∧ (s.on (fCommitPending up) = false) ∧ (copyError (s.carrierRegs up) up = some (r, k)) ∧ (s.raiseRoom 1)) ∧
    (∃ q : Requester, ∃ w : Word, ∃ s : State, ∃ up : Bool, ∃ c : Instr, ((c = .dlcCommit q w ∧ up = false) ∨ (c = .ulcCommit q w ∧ up = true)) ∧
      (s.passes q (fCommit up).addr true) ∧ ((if up then Fld.ULC_CTRL_CNT_CLR else Fld.DLC_CTRL_CNT_CLR).of w = 0) ∧ ((fIqSwap up).of w = 0) ∧
      (s.on (fCommitPending up) = false) ∧ (copyError (s.carrierRegs up) up = none)) ∧
    (∃ s : State, ∃ up : Bool, ∃ c : Instr, ((c = .dlcCommitInForce ∧ up = false) ∨ (c = .ulcCommitInForce ∧ up = true)) ∧
      ((s.carriers up).next ≠ []) ∧ (s.sfd.plan = [])) ∧
    (∃ q : Requester, ∃ w : Word, ∃ s : State, ∃ up : Bool, ∃ c : Instr, ((c = .dlcIqSwap q w ∧ up = false) ∨ (c = .ulcIqSwap q w ∧ up = true)) ∧
      (s.passes q (fIqSwap up).addr true) ∧ ((fCommit up).of w = 0) ∧ ((if up then Fld.ULC_CTRL_CNT_CLR else Fld.DLC_CTRL_CNT_CLR).of w = 0)) ∧
    (∃ s : State, ∃ up : Bool, ∃ c : Instr, ((c = .dlcIqBankSwap ∧ up = false) ∨ (c = .ulcIqBankSwap ∧ up = true)) ∧ (s.on (fIqSwap up) = true)) ∧
    (∃ q : Requester, ∃ w : Word, ∃ s : State, (s.passes q Reg.DLC_CTRL true) ∧ ((fCommit false).of w = 0) ∧ ((fIqSwap false).of w = 0)) ∧
    (∃ q : Requester, ∃ w : Word, ∃ s : State, (s.passes q Reg.ULC_CTRL true) ∧ ((fCommit true).of w = 0) ∧ ((fIqSwap true).of w = 0)) :=
  ⟨⟨.dean, 0x00000000#32, chain22, false, .dlcCommit (.dean) 0x00000000#32, by unfold State.passes State.inTurn; decide +kernel⟩,
   ⟨.dean, 0x00000000#32, chain23, false, .dlcCommit (.dean) 0x00000000#32, by decide +kernel, by unfold State.passes State.inTurn; decide +kernel,
     1, 1, by unfold State.raiseRoom; decide +kernel⟩,
   ⟨.dean, 0x00000000#32, base, false, .dlcCommit (.dean) 0x00000000#32, by unfold State.passes State.inTurn; decide +kernel⟩,
   ⟨chain24, false, .dlcCommitInForce, by decide +kernel⟩,
   ⟨.dean, 0x00000000#32, base, false, .dlcIqSwap (.dean) 0x00000000#32, by unfold State.passes State.inTurn; decide +kernel⟩,
   ⟨chain22, false, .dlcIqBankSwap, by decide +kernel⟩,
   ⟨.dean, 0x00000000#32, base, by unfold State.passes State.inTurn; decide +kernel⟩,
   ⟨.dean, 0x00000000#32, base, by unfold State.passes State.inTurn; decide +kernel⟩⟩

theorem witness_FilterBanksAndRssiWindows :
    (∃ q : Requester, ∃ s : State, ∃ c : Fin 8, ∃ a : Nat, (a = Reg.ULC_CARc_FIR_CTRL c.val) ∧ (s.passes q a true) ∧
      (s.on (Fld.ULC_CARc_FIR_CTRL_SWAP c.val) = true)) ∧
    (∃ q : Requester, ∃ s : State, ∃ c : Fin 8, ∃ a : Nat, (a = Reg.ULC_CARc_FIR_CTRL c.val) ∧ (s.passes q a true) ∧
      (s.on (Fld.ULC_CARc_FIR_CTRL_SWAP c.val) = false)) ∧
    (∃ s : State, ∃ c : Fin 8, (s.on (Fld.ULC_CARc_FIR_CTRL_SWAP c.val) = true) ∧ (s.firDue c.val = true)) ∧
    (∃ q : Requester, ∃ s : State, ∃ p : Fin 64, ∃ a : Nat, (a = Reg.ULC_PATHp_RSSI_CFG p.val) ∧ (s.passes q a true)) ∧
    (∃ w : Word, ∃ s : State, ∃ p : Fin 64, (s.on (Fld.ULC_PATHp_RSSI_CFG_EN p.val) = true) ∧ (s.time.everLocked = true) ∧ (s.domOn pdLin = true) ∧
      ∃ w, (w = s.fld (Fld.ULC_PATHp_RSSI_CFG_WIN_LOG2 p.val)) ∧ ∃ ns, (ns = s.rssiWindow p.val) ∧ (ns.length = 2 ^ w) ∧ ∃ e,
      (e = (if s.rxSilent p.val then 0 else s.rssiEnergy p.val ns)) ∧ ∃ l, (l = dbCode e (2 ^ (26 + w))) ∧
      (s.on (Fld.ULC_PATHp_RSSI_LOW p.val) = true) ∧ (l + s.fld (Fld.ULC_PATHp_RSSI_THR_HYST p.val) ≥ s.fld (Fld.ULC_PATHp_RSSI_THR_LOWER p.val)) ∧
      (s.raiseRoom 1)) :=
  ⟨⟨.dean, chain21, 1, _, rfl, by unfold State.passes State.inTurn; decide +kernel⟩,
   ⟨.dean, base, 0, _, rfl, by unfold State.passes State.inTurn; decide +kernel⟩,
   ⟨chain21, 1, by decide +kernel⟩,
   ⟨.dean, base, 0, _, rfl, by unfold State.passes State.inTurn; decide +kernel⟩,
   ⟨0, rs, 1, by decide +kernel, by decide +kernel, by decide +kernel, _, rfl, _, rfl, by decide +kernel, _, rfl, _, rfl,
     by unfold State.raiseRoom; decide +kernel⟩⟩

theorem witness_DownlinkSymbolsAreFormed :
    (∃ k : Fin 8, ∃ s : State, ∃ c, (c = k.val) ∧ ∃ a, (a = (s.fetchSymbol false c).2) ∧ (s.chainRuns = true) ∧ (s.domOn pdCst = true) ∧
      (s.forcedSlot a = 0) ∧ (s.light = false) ∧ (s.ecc = []) ∧ (SMap.get 0 s.dlc.fetched c ≠ a + 1) ∧ (∀ j < c, (s.fetchSymbol false j).2 = a →
      s.heldFor false j a = [] ∧ (s.queue j).pkts.any (fun p => p.air == a) = false) ∧ (s.heldFor false c a = []) ∧
      ((s.queue c).pkts.filter (fun p => p.air == a) = [])) ∧
    (∃ k : Fin 8, ∃ s : State, ∃ c, (c = k.val) ∧ ∃ a, (a = (s.fetchSymbol false c).2) ∧ (s.chainRuns = true) ∧ (s.domOn pdCst = true) ∧
      (s.forcedSlot a = 0) ∧ (s.light = false) ∧ (s.ecc = []) ∧ (SMap.get 0 s.dlc.fetched c ≠ a + 1) ∧ (∀ j < c, (s.fetchSymbol false j).2 = a →
      s.heldFor false j a = [] ∧ (s.queue j).pkts.any (fun p => p.air == a) = false) ∧ ∃ h : HeldSec, (s.heldFor false c a = [h]) ∧
      ((s.queue c).pkts.filter (fun p => p.air == a) = []) ∧ (0 < h.count) ∧ (s.raiseRoom 1)) ∧
    (∃ k : Fin 8, ∃ s : State, ∃ c, (c = k.val) ∧ ∃ a, (a = (s.fetchSymbol false c).2) ∧ (s.chainRuns = true) ∧ (s.domOn pdCst = true) ∧
      (s.forcedSlot a = 0) ∧ (s.light = false) ∧ (s.ecc = []) ∧ (SMap.get 0 s.dlc.fetched c ≠ a + 1) ∧ (∀ j < c, (s.fetchSymbol false j).2 = a →
      s.heldFor false j a = [] ∧ (s.queue j).pkts.any (fun p => p.air == a) = false) ∧ ∃ h : HeldSec, ∃ p : StoredPkt, ∃ ws : List (Int × Int),
      (s.heldFor false c a = [h]) ∧ ((s.queue c).pkts.filter (fun p => p.air == a) = [p]) ∧ ∃ d, (d = s.pktNow p) ∧ (pktSub d = h.id) ∧
      (dldReason ⟨h, [], false⟩ d = 0) ∧ ((dldBlocks h.mant d).length = h.count) ∧ (s.sectionWeights h reqDownlink = (s, .ok ws)) ∧
      (SMap.get 0 s.dlc.load (h.air / 61440) + 12 * h.count ≤ unitBudget)) :=
  ⟨⟨0, dl, _, rfl, _, rfl, by decide +kernel⟩,
   ⟨0, chain3, _, rfl, _, rfl, by decide +kernel, by decide +kernel, by decide +kernel, by decide +kernel, by decide +kernel, by decide +kernel,
     by decide +kernel,
     { up := false, carrier := 0, air := 3006176, id := 5, first := 0, count := 1, layer := 0, mant := 7, beam := 0, bsrc := 0, gain := 0, serial := 3 },
     by unfold State.raiseRoom; decide +kernel⟩,
   ⟨0, chain5, _, rfl, _, rfl, by decide +kernel, by decide +kernel, by decide +kernel, by decide +kernel, by decide +kernel, by decide +kernel,
     by decide +kernel,
     { up := false, carrier := 0, air := 3006176, id := 5, first := 0, count := 1, layer := 0, mant := 7, beam := 0, bsrc := 0, gain := 0, serial := 3 },
     { bytes := [0x01#8, 0x00#8, 0xa0#8, 0x00#8, 0x1c#8, 0x00#8, 0x00#8, 0x00#8, 0x00#8, 0x00#8, 0x00#8, 0x00#8, 0x00#8, 0x00#8, 0x00#8, 0x00#8, 0x00#8, 0x00#8, 0x01#8, 0x00#8, 0x03#8, 0x35#8, 0x35#8, 0x35#8, 0x35#8, 0x35#8, 0x35#8, 0x35#8, 0x35#8, 0x35#8, 0x35#8, 0x35#8, 0x35#8, 0x35#8, 0x35#8, 0x35#8, 0x35#8, 0x35#8, 0x35#8, 0x35#8, 0x35#8, 0x35#8, 0x00#8, 0x00#8], begun := false, air := 3006176, serial := 4, blocks := [], after := [] },
     [(0, 0), (0, 0), (0, 0), (0, 0), (0, 0), (0, 0), (0, 0), (0, 0), (0, 0), (0, 0), (0, 0), (0, 0), (0, 0), (0, 0), (0, 0), (0, 0), (0, 0), (0, 0),
     (0, 0), (0, 0), (0, 0), (0, 0), (0, 0), (0, 0), (0, 0), (0, 0), (0, 0), (0, 0), (0, 0), (0, 0), (0, 0), (0, 0), (0, 0), (0, 0), (0, 0), (0, 0),
     (0, 0), (0, 0), (0, 0), (0, 0), (0, 0), (0, 0), (0, 0), (0, 0), (0, 0), (0, 0), (0, 0), (0, 0), (0, 0), (0, 0), (0, 0), (0, 0), (0, 0), (0, 0),
     (0, 0), (0, 0), (0, 0), (0, 0), (0, 0), (0, 0), (0, 0), (0, 0), (0, 0), (0, 0)], by decide +kernel, by decide +kernel, _, rfl, by decide +kernel⟩⟩

theorem witness_UplinkSymbolsBecomePackets :
    (∃ s : State, (s.chainRuns = true) ∧ (s.domOn pdCst = true) ∧ (s.light = false) ∧ (s.fld Fld.CST_ECC_INJ_MODE = 0) ∧ ∃ k : Fin 8, ∃ h : HeldSec,
      ∃ ws : List (Int × Int), ∃ c, (c = k.val) ∧ ∃ car, (car = (s.fetchSymbol true c).1) ∧ ∃ a, (a = (s.fetchSymbol true c).2) ∧
      (s.heldFor true c a = [h]) ∧ (s.forcedSlot a = 0) ∧ (s.ecc = []) ∧ (SMap.get 0 s.ulc.fetched c ≠ a + 1) ∧ (∀ j < c,
      (s.fetchSymbol true j).2 = a → s.heldFor true j a = []) ∧ (s.sectionWeights h reqUplink = (s, .ok ws)) ∧
      (SMap.get 0 s.ulc.load (h.air / 61440) + ulUnits h car.pgMask ≤ unitBudget)) ∧
    (∃ s : State, (s.chainRuns = true) ∧ (s.domOn pdCst = true) ∧ (s.light = false) ∧ (s.fld Fld.CST_ECC_INJ_MODE = 0) ∧ ∃ k : Fin 8, ∃ j : UlJob,
      ∃ u : UlSection, (s.ul.jobs = [j]) ∧ (j.carrier = k.val) ∧ (j.secs = [u]) ∧ ∃ ls, (ls = s.logsIn j.air j.stop) ∧ ∃ v, (v = s.jobSymbol j) ∧
      (v.2.1 = 0) ∧ (∀ p < 64, s.jobSats j p = 0) ∧ ∃ st,
      (st = sectionStreams j u (fun p i => if bitOf v.1 (p / 8) && !zeroAll ls p then s.jobSample j p i else 0) false) ∧ (streamSats u.sec st = 0) ∧
      (s.linkIs lnkActive = false)) ∧
    (∃ s : State, (s.chainRuns = true) ∧ (s.domOn pdCst = true) ∧ (s.light = false) ∧ (s.fld Fld.CST_ECC_INJ_MODE = 0) ∧ ∃ k : Fin 8, ∃ j : UlJob,
      ∃ u : UlSection, (s.ul.jobs = [j]) ∧ (j.carrier = k.val) ∧ (j.secs = [u]) ∧ ∃ ls, (ls = s.logsIn j.air j.stop) ∧ ∃ v, (v = s.jobSymbol j) ∧
      (v.2.1 = 0) ∧ (∀ p < 64, s.jobSats j p = 0) ∧ ∃ st,
      (st = sectionStreams j u (fun p i => if bitOf v.1 (p / 8) && !zeroAll ls p then s.jobSample j p i else 0) false) ∧ ∃ ps,
      (ps = markLast (s.sectionPackets j none u st (fun _ => logFlags ls) (zeroPg v.1 ls))) ∧ (streamSats u.sec st = 0) ∧ ∃ pk, (ps = [pk]) ∧
      (s.linkIs lnkActive = true) ∧ ((s.queue pk.queue).use = true) ∧ (s.uplinkOccupancy + creditsOf (pktLen pk.bytes) ≤ s.uplinkCredits)) ∧
    (∃ s : State, (s.chainRuns = true) ∧ (s.domOn pdCst = true) ∧ (s.light = false) ∧ (s.fld Fld.CST_ECC_INJ_MODE = 0) ∧ ∃ k : Fin 32,
      ∃ p : StoredPkt, ∃ ps : List StoredPkt, ((s.queue k.val).pkts = p :: ps) ∧ (16 ≤ k.val) ∧ (k.val < 26) ∧ (s.fld Fld.ULC_AGE_MS ≠ 0) ∧
      (p.air + 122880 * s.fld Fld.ULC_AGE_MS < s.air)) ∧
    (∃ s : State, (s.chainRuns = true) ∧ (s.domOn pdCst = true) ∧ (s.light = false) ∧ (s.fld Fld.CST_ECC_INJ_MODE = 0) ∧ ∃ e : Fin 4, ∃ a : Nat,
      (a = s.praSlot e.val s.air) ∧ (s.praMatches e.val s.air = true) ∧ (s.praReason e.val a = 0)) ∧
    (∃ s : State, (s.chainRuns = true) ∧ (s.domOn pdCst = true) ∧ (s.light = false) ∧ (s.fld Fld.CST_ECC_INJ_MODE = 0) ∧ ∃ e : Fin 4, ∃ a : Nat,
      (a = s.praSlot e.val s.air) ∧ (s.praMatches e.val s.air = true) ∧ ∃ r, (s.praReason e.val a = r) ∧ (r ≠ 0) ∧ (s.raiseRoom 1)) ∧
    (∃ s : State, (s.chainRuns = true) ∧ (s.domOn pdCst = true) ∧ (s.light = false) ∧ (s.fld Fld.CST_ECC_INJ_MODE = 0) ∧ ∃ e : Fin 4, ∃ r : PraRun,
      ∃ b : Nat, ∃ base : Nat, ∃ size : Nat, (s.ul.pra = [(e.val, r)]) ∧ (r.beams = [b]) ∧ (praReps r.cfg = 1) ∧ (s.ecc = []) ∧
      (s.regionOfKind 2 = some (base, size)) ∧ (storeBase ≤ base) ∧ (base % 256 = 0) ∧ (size % 256 = 0) ∧ (s.linkIs lnkActive = true) ∧
      ((s.queue 24).use = true) ∧ (s.uplinkOccupancy + 3 ≤ s.uplinkCredits)) :=
  ⟨⟨chain7, by decide +kernel, by decide +kernel, by decide +kernel, by decide +kernel, 0,
     { up := true, carrier := 0, air := 3006176, id := 5, first := 0, count := 1, layer := 0, mant := 7, beam := 0, bsrc := 0, gain := 0, serial := 3 },
     [(0, 0), (0, 0), (0, 0), (0, 0), (0, 0), (0, 0), (0, 0), (0, 0), (0, 0), (0, 0), (0, 0), (0, 0), (0, 0), (0, 0), (0, 0), (0, 0), (0, 0), (0, 0),
     (0, 0), (0, 0), (0, 0), (0, 0), (0, 0), (0, 0), (0, 0), (0, 0), (0, 0), (0, 0), (0, 0), (0, 0), (0, 0), (0, 0), (0, 0), (0, 0), (0, 0), (0, 0),
     (0, 0), (0, 0), (0, 0), (0, 0), (0, 0), (0, 0), (0, 0), (0, 0), (0, 0), (0, 0), (0, 0), (0, 0), (0, 0), (0, 0), (0, 0), (0, 0), (0, 0), (0, 0),
     (0, 0), (0, 0), (0, 0), (0, 0), (0, 0), (0, 0), (0, 0), (0, 0), (0, 0), (0, 0)], _, rfl, _, rfl, _, rfl, by decide +kernel⟩,
   ⟨chain9.setFld Fld.LNK_STATUS_STATE 1, by decide +kernel, by decide +kernel, by decide +kernel, by decide +kernel, 0, job, usec,
     by decide +kernel, by decide +kernel, by decide +kernel, _, rfl, _, rfl, by decide +kernel, by decide +kernel, _, rfl, by decide +kernel⟩,
   ⟨chain11, by decide +kernel, by decide +kernel, by decide +kernel, by decide +kernel, 0,
     { carrier := 0, air := 3006176, stop := 3006276, scs := 1, nprb := 2, words := [0x8ff60202#32, 0x00000000#32, 0x00000000#32], groups := 255, rx := 1, secs := [{ sec := { up := true, carrier := 0, air := 3006176, id := 5, first := 0, count := 1, layer := 0, mant := 7, beam := 0, bsrc := 0, gain := 0, serial := 3 }, weights := [(65536, 0), (65536, 0), (65536, 0), (65536, 0), (65536, 0), (65536, 0), (65536, 0), (65536, 0), (65536, 0), (65536, 0), (65536, 0), (65536, 0), (65536, 0), (65536, 0), (65536, 0), (65536, 0), (65536, 0), (65536, 0), (65536, 0), (65536, 0), (65536, 0), (65536, 0), (65536, 0), (65536, 0), (65536, 0), (65536, 0), (65536, 0), (65536, 0), (65536, 0), (65536, 0), (65536, 0), (65536, 0), (65536, 0), (65536, 0), (65536, 0), (65536, 0), (65536, 0), (65536, 0), (65536, 0), (65536, 0), (65536, 0), (65536, 0), (65536, 0), (65536, 0), (65536, 0), (65536, 0), (65536, 0), (65536, 0), (65536, 0), (65536, 0), (65536, 0), (65536, 0), (65536, 0), (65536, 0), (65536, 0), (65536, 0), (65536, 0), (65536, 0), (65536, 0), (65536, 0), (65536, 0), (65536, 0), (65536, 0), (65536, 0)] }] },
     { sec := { up := true, carrier := 0, air := 3006176, id := 5, first := 0, count := 1, layer := 0, mant := 7, beam := 0, bsrc := 0, gain := 0, serial := 3 }, weights := [(65536, 0), (65536, 0), (65536, 0), (65536, 0), (65536, 0), (65536, 0), (65536, 0), (65536, 0), (65536, 0), (65536, 0), (65536, 0), (65536, 0), (65536, 0), (65536, 0), (65536, 0), (65536, 0), (65536, 0), (65536, 0), (65536, 0), (65536, 0), (65536, 0), (65536, 0), (65536, 0), (65536, 0), (65536, 0), (65536, 0), (65536, 0), (65536, 0), (65536, 0), (65536, 0), (65536, 0), (65536, 0), (65536, 0), (65536, 0), (65536, 0), (65536, 0), (65536, 0), (65536, 0), (65536, 0), (65536, 0), (65536, 0), (65536, 0), (65536, 0), (65536, 0), (65536, 0), (65536, 0), (65536, 0), (65536, 0), (65536, 0), (65536, 0), (65536, 0), (65536, 0), (65536, 0), (65536, 0), (65536, 0), (65536, 0), (65536, 0), (65536, 0), (65536, 0), (65536, 0), (65536, 0), (65536, 0), (65536, 0), (65536, 0)] },
     by decide +kernel, by decide +kernel, by decide +kernel, _, rfl, _, rfl, by decide +kernel, by decide +kernel, _, rfl, _, rfl,
     by decide +kernel,
     { queue := 16, bytes := [0x02#8, 0x01#8, 0xb0#8, 0x00#8, 0x20#8, 0x00#8, 0x00#8, 0x00#8, 0x02#8, 0x20#8, 0x1a#8, 0x00#8, 0x00#8, 0x00#8, 0x00#8, 0x00#8, 0x00#8, 0x00#8, 0x01#8, 0x00#8, 0x00#8, 0x00#8, 0x00#8, 0x00#8, 0x00#8, 0x00#8, 0x00#8, 0x00#8, 0x00#8, 0x00#8, 0x00#8, 0x00#8, 0x00#8, 0x00#8, 0x00#8, 0x00#8, 0x00#8, 0x00#8, 0x00#8, 0x00#8, 0x00#8, 0x00#8, 0x00#8, 0x00#8, 0x00#8, 0x00#8, 0x00#8, 0x00#8], air := 3006176 },
     by decide +kernel⟩,
   ⟨chain14, by decide +kernel, by decide +kernel, by decide +kernel, by decide +kernel, 17,
     { bytes := [0x01#8, 0x00#8, 0xa0#8, 0x00#8, 0x1c#8, 0x00#8, 0x00#8, 0x00#8, 0x00#8, 0x00#8, 0x00#8, 0x00#8, 0x00#8, 0x00#8, 0x00#8, 0x00#8, 0x00#8, 0x00#8, 0x01#8, 0x00#8, 0x03#8, 0x35#8, 0x35#8, 0x35#8, 0x35#8, 0x35#8, 0x35#8, 0x35#8, 0x35#8, 0x35#8, 0x35#8, 0x35#8, 0x35#8, 0x35#8, 0x35#8, 0x35#8, 0x35#8, 0x35#8, 0x35#8, 0x35#8, 0x35#8, 0x35#8, 0x00#8, 0x00#8], begun := false, air := 0, serial := 4, blocks := [], after := [] },
     [], by decide +kernel⟩,
   ⟨{pra with ulc := {pra.ulc with inForce := car0 60}}, by decide +kernel, by decide +kernel, by decide +kernel, by decide +kernel, 1, _, rfl,
     by decide +kernel⟩,
   ⟨pra, by decide +kernel, by decide +kernel, by decide +kernel, by decide +kernel, 1, _, rfl, by decide +kernel, 2,
     by unfold State.raiseRoom; decide +kernel⟩,
   ⟨chain17, by decide +kernel, by decide +kernel, by decide +kernel, by decide +kernel, 1, run1, 2, 0x10000000, 0x100000, by decide +kernel⟩⟩

theorem witness_PreDistortionBanksLoadAndSwap :
    (∃ gr : Fin 8, ∃ q : Requester, ∃ w : Word, ∃ s : State, ∃ g, (g = gr.val) ∧ ∃ c : Instr, ∃ wr : Bool, ((c = .pdLoadWrite gr q w ∧ wr = true) ∨
      (c = .pdLoadRead gr q w ∧ wr = false)) ∧ (s.passes q (Reg.LIN_PGg_LOAD_CTRL g) true) ∧ (s.disturbLop2 g (Reg.LIN_PGg_LOAD_CTRL g) q = s) ∧
      (s.on (Fld.LIN_PGg_LOAD_STATUS_STATE g) = true)) ∧
    (∃ gr : Fin 8, ∃ q : Requester, ∃ w : Word, ∃ s : State, ∃ g, (g = gr.val) ∧ ∃ c : Instr, ∃ wr : Bool, ((c = .pdLoadWrite gr q w ∧ wr = true) ∨
      (c = .pdLoadRead gr q w ∧ wr = false)) ∧ (s.passes q (Reg.LIN_PGg_LOAD_CTRL g) true) ∧ (s.disturbLop2 g (Reg.LIN_PGg_LOAD_CTRL g) q = s) ∧
      (s.on (Fld.LIN_PGg_LOAD_STATUS_STATE g) = false) ∧ (s.storeRange (s.fld (Fld.LIN_PGg_LOAD_ADDR_ADDR g)) pdBlockLen = true) ∧
      ((s.lg g).swap = none)) ∧
    (∃ gr : Fin 8, ∃ s : State, ∃ g, (g = gr.val) ∧ ∃ l : PdLoad, ((s.lg g).load = some l) ∧ (s.storeRange l.addr pdBlockLen = true) ∧ (s.ecc = []) ∧
      (s.fld Fld.CST_ECC_INJ_MODE = 0) ∧ (l.path < 8) ∧ (l.cls < 4)) ∧
    (∃ gr : Fin 8, ∃ q : Requester, ∃ s : State, ∃ g, (g = gr.val) ∧ (s.passes q (Reg.LIN_PGg_SWAP_CTRL g) true) ∧
      (s.disturbLop2 g (Reg.LIN_PGg_SWAP_CTRL g) q = s) ∧ (s.on (Fld.LIN_PGg_SWAP_CTRL_GO g) = true)) ∧
    (∃ gr : Fin 8, ∃ q : Requester, ∃ s : State, ∃ g, (g = gr.val) ∧ (s.passes q (Reg.LIN_PGg_SWAP_CTRL g) true) ∧
      (s.disturbLop2 g (Reg.LIN_PGg_SWAP_CTRL g) q = s) ∧ (s.on (Fld.LIN_PGg_SWAP_CTRL_GO g) = false)) ∧
    (∃ gr : Fin 8, ∃ s : State, ∃ g, (g = gr.val) ∧ ∃ c, ∃ m, ((s.lg g).swap = some (c, m)) ∧ ((s.lg g).load = none) ∧ ((s.lg g).window = none) ∧
      (s.raiseRoom 1)) :=
  ⟨⟨1, .dean, 0x00000000#32, lin2, _, rfl, .pdLoadWrite 1 (.dean) 0x00000000#32, true, by unfold State.passes State.inTurn; decide +kernel⟩,
   ⟨1, .dean, 0x00000000#32, b12, _, rfl, .pdLoadWrite 1 (.dean) 0x00000000#32, true, by unfold State.passes State.inTurn; decide +kernel⟩,
   ⟨1, lin3, _, rfl, { write := true, path := 2, cls := 1, shadow := false, addr := 268435712 }, by decide +kernel⟩,
   ⟨1, .dean, lin2, _, rfl, by unfold State.passes State.inTurn; decide +kernel⟩,
   ⟨1, .dean, b12, _, rfl, by unfold State.passes State.inTurn; decide +kernel⟩,
   ⟨1, lin5, _, rfl, 1, 6, by unfold State.raiseRoom; decide +kernel⟩⟩

theorem witness_ObservationCapturesAreTakenAndHeld :
    (∃ gr : Fin 8, ∃ q : Requester, ∃ w : Word, ∃ s : State, ∃ g, (g = gr.val) ∧ ∃ c : Instr, ∃ m : Nat, ((c = .seqModeOff gr q w ∧ m = seqOff) ∨
      (c = .seqModeAuto gr q w ∧ m = seqAuto) ∨ (c = .seqModeSingle gr q w ∧ m = seqSingle)) ∧ (s.passes q (Reg.LIN_PGg_SEQ_CTRL g) true) ∧
      (s.disturbLop2 g (Reg.LIN_PGg_SEQ_CTRL g) q = s)) ∧
    (∃ gr : Fin 8, ∃ s : State, ∃ g, (g = gr.val) ∧ ∃ u, (u = s.selectPath g) ∧ ∃ i, (u.nextPath g = some i) ∧ (u.mayCapture g i = true)) ∧
    (∃ gr : Fin 8, ∃ s : State, ∃ g, (g = gr.val) ∧ ∃ v : Capture, ∃ orx : List (BitVec 24), ((s.lg g).window = some v) ∧ (v.path < 8) ∧
      (v.cls < 4) ∧ (orx.length = capLen) ∧ (s.on (Fld.LIN_PATHp_LOOP_CFG_LOOP_EN (8 * g + v.path)) = false) ∧
      (s.on (Fld.LIN_PGg_SEQ_CTRL_DRAIN_EN g) = true) ∧ (s.on (Fld.LIN_PGg_SEQ_CTRL_COR_EN g) = false) ∧ (s.raiseRoom 1)) ∧
    (∃ gr : Fin 8, ∃ s : State, ∃ g, (g = gr.val) ∧ (s.seqMode g = seqAuto) ∧ (s.fld (Fld.LIN_PGg_SEQ_CTRL_INTERVAL g) ≠ 0) ∧
      (s.on (Fld.LIN_PGg_CAP_STATUS_HELD g) = true)) ∧
    (∃ gr : Fin 8, ∃ q : Requester, ∃ s : State, ∃ g, (g = gr.val) ∧ ∃ x, ∃ xs, (s.passes q (Reg.LIN_PGg_PORT g) false) ∧
      ((s.lg g).record = x :: xs) ∧ (s.on (Fld.LIN_PGg_SEQ_CTRL_DRAIN_EN g) = true) ∧ (s.on (Fld.LIN_PGg_SEQ_CTRL_COR_EN g) = false)) ∧
    (∃ gr : Fin 8, ∃ s : State, ∃ g, (g = gr.val) ∧ ∃ v : Capture, ∃ n, (n = s.fld (Fld.LIN_PGg_COR_CTRL_NBASIS g)) ∧ ∃ a,
      (a = s.fld (Fld.LIN_PGg_COR_DEST_ADDR g)) ∧ ∃ k, (k = 32 + 8 * (n * (n + 1) / 2 + n)) ∧ ((s.lg g).run = some v) ∧ (n ≠ 0) ∧
      (s.storeRange a k = true) ∧ (s.basisBad g n = false) ∧ (s.ecc = []) ∧ (s.fld Fld.CST_ECC_INJ_MODE = 0) ∧ (s.raiseRoom 1)) :=
  ⟨⟨1, .dean, 0x00000000#32, b12, _, rfl, .seqModeOff 1 (.dean) 0x00000000#32, 0, by unfold State.passes State.inTurn; decide +kernel⟩,
   ⟨1, lin8, _, rfl, _, rfl, 1, by decide +kernel⟩,
   ⟨1, lin10, _, rfl, { path := 2, cls := 1, refSrc := 0, bank := 0, mixed := false, air := 55, refDly := 3, clip := 0, ogain := 0, single := true },
     List.replicate 16384 0x7ff800#24, by unfold State.raiseRoom; decide +kernel⟩,
   ⟨1, lin11, _, rfl, by decide +kernel⟩,
   ⟨1, .dean, lin12, _, rfl, 0x00000001#32, [], by unfold State.passes State.inTurn; decide +kernel⟩,
   ⟨1, lin14, _, rfl, { path := 2, cls := 1, refSrc := 0, bank := 0, mixed := false, air := 55, refDly := 3, clip := 0, ogain := 0, single := true },
     _, rfl, _, rfl, _, rfl, by unfold State.raiseRoom; decide +kernel⟩⟩

theorem witness_PreDistortionCampaignsAndSettings :
    (∃ q : Requester, ∃ w : Word, ∃ s : State, (s.passes q Reg.LIN_LOP2_CTRL true) ∧ ∃ us,
      (us = s.lop2Paths.flatMap (fun p => ((List.range 4).filter (bitOf (Fld.LIN_LOP2_CTRL_CLASSES.of w))).map (4 * p + ·))) ∧ ∃ a,
      (a = s.fld Fld.LIN_LOP2_DEST_ADDR) ∧ (s.lopBusy 2 = false) ∧ (us.any (fun u => s.on (Fld.RFE_PGg_CFG_FITTED (u / 32))) = true) ∧
      (s.domOn pdDsp = true) ∧ (storeBase ≤ a) ∧ (a + 16 * us.length ≤ storeEnd)) ∧
    (∃ q : Requester, ∃ s : State, (s.passes q Reg.LIN_LOP2_CTRL true) ∧ (s.lopBusy 2 = true) ∧ (s.raiseRoom 1)) ∧
    (∃ s : State, ∃ k : Nat, ∃ ks : List Nat, ∃ n : Nat, ∃ a : Nat, (s.lin.lop2 = some ⟨k :: ks, n, a⟩) ∧ (n < 4095) ∧ (k < 256) ∧
      (s.boot.loaded.contains (k / 32) = false) ∧ (s.ecc = []) ∧ (s.fld Fld.CST_ECC_INJ_MODE = 0) ∧ (s.raiseRoom 1)) ∧
    (∃ q : Requester, ∃ w : Word, ∃ s : State, (s.passes q Reg.LIN_CTRL true) ∧ (Fld.LIN_CTRL_CNT_CLR.of w = 0)) ∧
    (∃ s : State, (s.on Fld.LIN_CTRL_KSWAP = true)) ∧
    (∃ q : Requester, ∃ w : Word, ∃ s : State, ∃ p : Fin 64, (s.passes q (Reg.LIN_PATHp_LOOP_CFG p.val) true) ∧ ∃ v,
      (v = writeWord (Reg.LIN_PATHp_LOOP_CFG p.val) ((Fld.LIN_PATHp_LOOP_CFG_CORR_CLR p.val).put 0 w) (s.rd (Reg.LIN_PATHp_LOOP_CFG p.val))) ∧
      ((Fld.LIN_PATHp_LOOP_CFG_LIMIT p.val).of v ≠ 0)) ∧
    (∃ s : State, ∃ g : Fin 8, (s.domOn pdLin = true) ∧ (s.on (Fld.LIN_PGg_COMP_STATUS_STALE g.val) = false) ∧ (s.raiseRoom 1)) :=
  ⟨⟨.dean, 0xf0f0f0f0#32, lin16, by unfold State.passes State.inTurn; decide +kernel, _, rfl, _, rfl, by decide +kernel⟩,
   ⟨.dean, lin15, by unfold State.passes State.inTurn State.raiseRoom; decide +kernel⟩,
   ⟨lin17, 5, [6], 1, 268435712, by unfold State.raiseRoom; decide +kernel⟩,
   ⟨.dean, 0x00000000#32, b12, by unfold State.passes State.inTurn; decide +kernel⟩,
   ⟨lin19, by decide +kernel⟩,
   ⟨.dean, 0x00000001#32, b12, 0, by unfold State.passes State.inTurn; decide +kernel, _, rfl, by decide +kernel⟩,
   ⟨b12, 1, by unfold State.raiseRoom; decide +kernel⟩⟩

theorem witness_LosRetuneCalibrateAndLock :
    (∃ gr : Fin 8, ∃ xr : Fin 2, ∃ q : Requester, ∃ s : State, ∃ g, (g = gr.val) ∧ ∃ x, (x = xr.val) ∧ (s.groupOn g = false ∨ (s.loReady g = true ∧
      s.loInUse g ≠ x)) ∧ (s.passes q (Reg.RFE_PGg_LOx_CTRL g x) true) ∧ ((s.synth g x).pretuned = some s.air)) ∧
    (∃ gr : Fin 8, ∃ xr : Fin 2, ∃ q : Requester, ∃ w : Word, ∃ s : State, ∃ g, (g = gr.val) ∧ ∃ x, (x = xr.val) ∧ (s.groupOn g = false ∨
      (s.loReady g = true ∧ s.loInUse g ≠ x)) ∧ (s.passes q (Reg.RFE_PGg_LOx_CTRL g x) true) ∧ ∃ c, (c = (Fld.RFE_PGg_LOx_CTRL_CHAN g x).of w) ∧
      ((s.synth g x).pretuned ≠ some s.air) ∧ ((Fld.RFE_PGg_LOx_CTRL_PWRDN g x).of w = 0) ∧ (¬(s.loState g x = loLocked ∧ s.loChan g x = c)) ∧
      (entryUsable (s.chanEntry c) = true) ∧ (entryBand (s.chanEntry c) = s.fld (Fld.RFE_PGg_CFG_BAND g))) ∧
    (∃ gr : Fin 8, ∃ xr : Fin 2, ∃ q : Requester, ∃ w : Word, ∃ s : State, ∃ g, (g = gr.val) ∧ ∃ x, (x = xr.val) ∧ (s.groupOn g = false ∨
      (s.loReady g = true ∧ s.loInUse g ≠ x)) ∧ (s.passes q (Reg.RFE_PGg_LOx_CTRL g x) true) ∧ ∃ c, (c = (Fld.RFE_PGg_LOx_CTRL_CHAN g x).of w) ∧
      ((s.synth g x).pretuned ≠ some s.air) ∧ ((Fld.RFE_PGg_LOx_CTRL_PWRDN g x).of w = 0) ∧ (¬(s.loState g x = loLocked ∧ s.loChan g x = c)) ∧
      (entryUsable (s.chanEntry c) = false) ∧ (s.raiseRoom 1)) ∧
    (∃ gr : Fin 8, ∃ xr : Fin 2, ∃ s : State, ∃ g, (g = gr.val) ∧ ∃ x, (x = xr.val) ∧ (s.groupOn g = false ∨ (s.loReady g = true ∧
      s.loInUse g ≠ x)) ∧ (s.loState g x = loRetune)) ∧
    (∃ gr : Fin 8, ∃ xr : Fin 2, ∃ s : State, ∃ g, (g = gr.val) ∧ ∃ x, (x = xr.val) ∧ (s.groupOn g = false ∨ (s.loReady g = true ∧
      s.loInUse g ≠ x)) ∧ (s.loState g x = loVcoCal) ∧ (s.raiseRoom 1)) ∧
    (∃ gr : Fin 8, ∃ xr : Fin 2, ∃ q : Requester, ∃ s : State, ∃ g, (g = gr.val) ∧ ∃ x, (x = xr.val) ∧ (s.groupOn g = false ∨ (s.loReady g = true ∧
      s.loInUse g ≠ x)) ∧ (s.passes q (Reg.RFE_PGg_LOx_PHASE g x) true) ∧ (s.on (Fld.RFE_PGg_LOx_PHASE_BUSY g x) = true)) ∧
    (∃ gr : Fin 8, ∃ xr : Fin 2, ∃ q : Requester, ∃ w : Word, ∃ s : State, ∃ g, (g = gr.val) ∧ ∃ x, (x = xr.val) ∧ (s.groupOn g = false ∨
      (s.loReady g = true ∧ s.loInUse g ≠ x)) ∧ (s.passes q (Reg.RFE_PGg_LOx_PHASE g x) true) ∧ ∃ k,
      (k = sext 16 ((Fld.RFE_PGg_LOx_PHASE_STEP g x).of w)) ∧ (s.on (Fld.RFE_PGg_LOx_PHASE_BUSY g x) = false) ∧ (k ≠ 0)) ∧
    (∃ gr : Fin 8, ∃ xr : Fin 2, ∃ s : State, ∃ g, (g = gr.val) ∧ ∃ x, (x = xr.val) ∧ (s.groupOn g = false ∨ (s.loReady g = true ∧
      s.loInUse g ≠ x)) ∧ ∃ l, (l = (s.synth g x).phaseLeft) ∧ (s.loState g x = loLocked) ∧ (l ≠ 0)) :=
  ⟨⟨1, 0, .dean, rfe2, _, rfl, _, rfl, by unfold State.passes State.inTurn; decide +kernel⟩,
   ⟨1, 0, .dean, 0x00000001#32, b13, _, rfl, _, rfl, by decide +kernel, by unfold State.passes State.inTurn; decide +kernel, _, rfl,
     by decide +kernel⟩,
   ⟨1, 0, .dean, 0x00000000#32, b13, _, rfl, _, rfl, by decide +kernel, by unfold State.passes State.inTurn; decide +kernel, _, rfl,
     by unfold State.raiseRoom; decide +kernel⟩,
   ⟨1, 0, rfe4, _, rfl, _, rfl, by decide +kernel⟩,
   ⟨1, 0, rfe5, _, rfl, _, rfl, by unfold State.raiseRoom; decide +kernel⟩,
   ⟨1, 0, .dean, rfe9, _, rfl, _, rfl, by unfold State.passes State.inTurn; decide +kernel⟩,
   ⟨1, 0, .dean, 0x00000001#32, b13, _, rfl, _, rfl, by decide +kernel, by unfold State.passes State.inTurn; decide +kernel, _, rfl,
     by decide +kernel⟩,
   ⟨1, 0, rfe8, _, rfl, _, rfl, by decide +kernel, _, rfl, by decide +kernel⟩⟩

theorem witness_BandsTheRootAndRffeLists :
    (∃ gr : Fin 8, ∃ q : Requester, ∃ s : State, ∃ g, (g = gr.val) ∧ (s.passes q (Reg.RFE_PGg_CFG g) true)) ∧
    (∃ gr : Fin 8, ∃ q : Requester, ∃ s : State, ∃ g, (g = gr.val) ∧ (s.passes q (Reg.RFE_PGg_LOSEL g) true)) ∧
    (∃ s : State, (s.on Fld.CLK_STATUS_ROOT_LOCK = true) ∧ (s.raiseRoom 4)) ∧
    (∃ s : State, (s.domOn pdSyn = true) ∧ (s.on Fld.CLK_STATUS_FABRIC_ON_ROOT = true) ∧ (s.on Fld.CLK_STATUS_ROOT_LOCK = false)) ∧
    (∃ gr : Fin 8, ∃ q : Requester, ∃ s : State, ∃ g, (g = gr.val) ∧ (s.passes q (Reg.RFE_PGg_RFFE_CTRL g) true) ∧
      (s.on (Fld.RFE_PGg_RFFE_CTRL_BUSY g) = true)) ∧
    (∃ gr : Fin 8, ∃ q : Requester, ∃ w : Word, ∃ s : State, ∃ g, (g = gr.val) ∧ (s.passes q (Reg.RFE_PGg_RFFE_CTRL g) true) ∧ ∃ n,
      (n = (Fld.RFE_PGg_RFFE_CTRL_COUNT g).of (writeWord (Reg.RFE_PGg_RFFE_CTRL g) ((Fld.RFE_PGg_RFFE_CTRL_ABORT g).put 0 ((Fld.RFE_PGg_RFFE_CTRL_GO g).put 0 w)) (s.rd (Reg.RFE_PGg_RFFE_CTRL g)))) ∧
      (s.on (Fld.RFE_PGg_RFFE_CTRL_BUSY g) = false) ∧ (s.on (Fld.RFE_PGg_RFFE_CTRL_ABORT g) = false) ∧ (0 < n) ∧
      (s.on (Fld.RFE_PGg_RFFE_ENTj_W0_TIMED g 0) = false)) ∧
    (∃ gr : Fin 8, ∃ q : Requester, ∃ s : State, ∃ g, (g = gr.val) ∧ (s.passes q (Reg.RFE_PGg_RFFE_CTRL g) true) ∧ ∃ r : RffeRun,
      (s.on (Fld.RFE_PGg_RFFE_CTRL_BUSY g) = true) ∧ (s.rffe g = some r) ∧ (r.begun = false)) ∧
    (∃ gr : Fin 8, ∃ q : Requester, ∃ s : State, ∃ g, (g = gr.val) ∧ (s.passes q (Reg.RFE_PGg_RFFE_CTRL g) true) ∧ ∃ r : RffeRun,
      (s.on (Fld.RFE_PGg_RFFE_CTRL_BUSY g) = true) ∧ (s.rffe g = some r) ∧ (r.begun = true)) ∧
    (∃ gr : Fin 8, ∃ s : State, ∃ g, (g = gr.val) ∧ ∃ r : RffeRun, (s.rffe g = some r) ∧ (r.begun = false) ∧ (r.entry < r.count) ∧
      (s.on (Fld.RFE_PGg_RFFE_CTRL_ABORT g) = false) ∧ (s.on (Fld.RFE_PGg_RFFE_ENTj_W0_TIMED g r.entry) = true) ∧
      (aheadOf 32 (s.fld (Fld.RFE_PGg_RFFE_ENTj_W2_ATIME g r.entry)) (s.air % 2 ^ 32) = false) ∧ (s.raiseRoom 1)) ∧
    (∃ gr : Fin 8, ∃ s : State, ∃ g, (g = gr.val) ∧ ∃ r : RffeRun, (s.rffe g = some r) ∧ (r.begun = true) ∧ (r.count = r.entry + 1)) :=
  ⟨⟨1, .dean, b13, _, rfl, by unfold State.passes State.inTurn; decide +kernel⟩,
   ⟨1, .dean, b13, _, rfl, by unfold State.passes State.inTurn; decide +kernel⟩,
   ⟨b13, by unfold State.raiseRoom; decide +kernel⟩,
   ⟨rfe11, by decide +kernel⟩,
   ⟨1, .dean, rfe13, _, rfl, by unfold State.passes State.inTurn; decide +kernel⟩,
   ⟨1, .dean, 0x00050000#32, b13, _, rfl, by unfold State.passes State.inTurn; decide +kernel, _, rfl, by decide +kernel⟩,
   ⟨1, .dean, rfe15, _, rfl, by unfold State.passes State.inTurn; decide +kernel, { entry := 0, count := 1, begun := false }, by decide +kernel⟩,
   ⟨1, .dean, rfe13, _, rfl, by unfold State.passes State.inTurn; decide +kernel, { entry := 0, count := 1, begun := true }, by decide +kernel⟩,
   ⟨1, rfe15, _, rfl, { entry := 0, count := 1, begun := false }, by unfold State.raiseRoom; decide +kernel⟩,
   ⟨1, rfe13, _, rfl, { entry := 0, count := 1, begun := true }, by decide +kernel⟩⟩

theorem witness_DuplexPlansAndCoefficientSets :
    (∃ q : Requester, ∃ s : State, (s.passes q Reg.SFD_CTRL true) ∧ (s.on Fld.SFD_STATUS_COMMIT_PENDING = true)) ∧
    (∃ q : Requester, ∃ w : Word, ∃ s : State, (s.passes q Reg.SFD_CTRL true) ∧ ∃ ws, (ws = [s.rd Reg.SFD_CFG0, s.rd Reg.SFD_CFG1,
      s.rd Reg.SFD_CFG2]) ∧ ∃ b, (b = frameBoundaryFrom s.air s.tEarly) ∧ ∃ r,
      (r = (planOf ws).reason (s.carrierAt false (planOf ws).carrier b) (s.carrierAt true (planOf ws).carrier b)) ∧
      (s.on Fld.SFD_STATUS_COMMIT_PENDING = false) ∧ (Fld.SFD_CTRL_CNT_CLR.of w = 0) ∧ (r ≠ 0) ∧ (s.raiseRoom 1)) ∧
    (∃ q : Requester, ∃ w : Word, ∃ s : State, (s.passes q Reg.SFD_CTRL true) ∧ ∃ ws, (ws = [s.rd Reg.SFD_CFG0, s.rd Reg.SFD_CFG1,
      s.rd Reg.SFD_CFG2]) ∧ ∃ b, (b = frameBoundaryFrom s.air s.tEarly) ∧ ∃ r,
      (r = (planOf ws).reason (s.carrierAt false (planOf ws).carrier b) (s.carrierAt true (planOf ws).carrier b)) ∧
      (s.on Fld.SFD_STATUS_COMMIT_PENDING = false) ∧ (Fld.SFD_CTRL_CNT_CLR.of w = 0) ∧ (r = 0)) ∧
    (∃ q : Requester, ∃ w : Word, ∃ s : State, (s.passes q Reg.SFD_CTRL true) ∧ (Fld.SFD_CTRL_COMMIT.of w = 0)) ∧
    (∃ s : State, (s.sfd.next ≠ [])) ∧
    (∃ q : Requester, ∃ w : Word, ∃ s : State, ∃ c : Instr, ∃ wr : Bool, ((c = .sfdLoadWrite q w ∧ wr = true) ∨ (c = .sfdLoadRead q w ∧
      wr = false)) ∧ (s.passes q Reg.SFD_LOAD_CTRL true) ∧ (s.sfd.lop3 = none) ∧ (s.on Fld.SFD_LOAD_CTRL_GO = true)) ∧
    (∃ q : Requester, ∃ w : Word, ∃ s : State, ∃ c : Instr, ∃ wr : Bool, ((c = .sfdLoadWrite q w ∧ wr = true) ∨ (c = .sfdLoadRead q w ∧
      wr = false)) ∧ (s.passes q Reg.SFD_LOAD_CTRL true) ∧ (s.sfd.lop3 = none) ∧ (s.on Fld.SFD_LOAD_CTRL_GO = false) ∧
      (s.storeRange (s.fld Fld.SFD_LOAD_ADDR_ADDR) sfdBlockLen = true)) ∧
    (∃ s : State, ∃ l : SfdLoad, (s.sfd.load = some l) ∧ (l.set = none) ∧ (s.storeRange l.addr sfdBlockLen = true) ∧ (s.ecc = []) ∧
      (s.fld Fld.CST_ECC_INJ_MODE = 0) ∧ (l.write = true) ∧ (sfdBlockOk (s.storeBytes l.addr sfdBlockLen) = true)) ∧
    (∃ s : State, ∃ l : SfdLoad, (s.sfd.load = some l) ∧ (l.set = none) ∧ (s.storeRange l.addr sfdBlockLen = true) ∧ (s.ecc = []) ∧
      (s.fld Fld.CST_ECC_INJ_MODE = 0) ∧ (l.write = false) ∧ ((s.sfdSet (s.classSet l.cls)).length = sfdBlockLen) ∧ (s.raiseRoom 1)) ∧
    (∃ s : State, ∃ l : SfdLoad, ∃ k : Nat, (s.sfd.load = some l) ∧ (l.set = some k) ∧ (k < 32) ∧ (s.time.sfdClass ≠ l.cls) ∧ (s.raiseRoom 1)) :=
  ⟨⟨.dean, sfd4, by unfold State.passes State.inTurn; decide +kernel⟩,
   ⟨.dean, 0x00000000#32, b13, by unfold State.passes State.inTurn; decide +kernel, _, rfl, _, rfl, _, rfl, by unfold State.raiseRoom; decide +kernel⟩,
   ⟨.dean, 0x00000000#32, sfd3, by unfold State.passes State.inTurn; decide +kernel, _, rfl, _, rfl, _, rfl, by decide +kernel⟩,
   ⟨.dean, 0x00000000#32, b13, by unfold State.passes State.inTurn; decide +kernel⟩,
   ⟨sfd5, by decide +kernel⟩,
   ⟨.dean, 0x00000000#32, sfd4, .sfdLoadWrite (.dean) 0x00000000#32, true, by unfold State.passes State.inTurn; decide +kernel⟩,
   ⟨.dean, 0x00000000#32, sfd1, .sfdLoadWrite (.dean) 0x00000000#32, true, by unfold State.passes State.inTurn; decide +kernel⟩,
   ⟨sfd6, { write := true, cls := 3, addr := 268435712, set := none }, by decide +kernel⟩,
   ⟨sfd7, { write := false, cls := 3, addr := 268435712, set := none }, by unfold State.raiseRoom; decide +kernel⟩,
   ⟨sfd8, { write := true, cls := 3, addr := 268435712, set := some 16 }, 16, by unfold State.raiseRoom; decide +kernel⟩⟩

theorem witness_DuplexCapturesTrainingAndMonitor :
    (∃ q : Requester, ∃ s : State, (s.passes q Reg.SFD_CAP_CTRL true) ∧ (s.sfd.lop3 = none) ∧ (s.on Fld.SFD_CAP_CTRL_GO = true)) ∧
    (∃ q : Requester, ∃ s : State, (s.passes q Reg.SFD_CAP_CTRL true) ∧ (s.sfd.lop3 = none) ∧ (s.on Fld.SFD_CAP_CTRL_GO = false) ∧
      (s.storeRange (s.fld Fld.SFD_CAP_DEST_ADDR) sfdRecordLen = true)) ∧
    (∃ s : State, ∃ c, (c = s.time.sfdClass) ∧ (s.on Fld.SFD_CAP_CTRL_GO = true) ∧ (s.sfd.window = none) ∧ (s.sbForAll = true) ∧
      (s.on Fld.SFD_CAP_CTRL_CLASS_ANY = true ∨ s.fld Fld.SFD_CAP_CTRL_CLASS = c)) ∧
    (∃ s : State, ∃ v : SfdWindow, (s.sfd.window = some v) ∧ (s.storeRange v.dest sfdRecordLen = true) ∧ (s.ecc = []) ∧
      (s.fld Fld.CST_ECC_INJ_MODE = 0) ∧ (s.raiseRoom 1)) ∧
    (∃ q : Requester, ∃ w : Word, ∃ s : State, (s.passes q Reg.SFD_LOP3_CTRL true) ∧ ∃ us,
      (us = (List.range 16).filter (bitOf (Fld.SFD_LOP3_CTRL_CLASSES.of w))) ∧ ∃ a, (a = s.fld Fld.SFD_LOP3_DEST_ADDR) ∧ (s.lopBusy 3 = false) ∧
      (us ≠ []) ∧ (s.planOn = true) ∧ (s.on Fld.SFD_CTRL_EN = true) ∧ (s.domOn pdDsp = true) ∧ (storeBase ≤ a) ∧ (a + 16 * us.length ≤ storeEnd)) ∧
    (∃ q : Requester, ∃ s : State, (s.passes q Reg.SFD_LOP3_CTRL true) ∧ (s.lopBusy 3 = true) ∧ (s.raiseRoom 1)) ∧
    (∃ s : State, ∃ c : Nat, ∃ cs : List Nat, ∃ n : Nat, ∃ a : Nat, (s.sfd.lop3 = some ⟨c :: cs, n, a⟩) ∧ (n < 4095) ∧ (c < 256) ∧ (s.ecc = []) ∧
      (s.fld Fld.CST_ECC_INJ_MODE = 0) ∧ (s.raiseRoom 1)) ∧
    (∃ s : State, ∃ g : Nat, (g < 8) ∧ (s.rf.dirs = (List.range 8).map (fun k => if k = g then dirSb else dirF)) ∧ ∃ lv, (lv = s.sbLevels) ∧
      (∀ p < 64, (lv p).post ≥ s.fld (Fld.SFD_PGg_RES_RES_MAX g)) ∧ (∀ p < 64, s.overLimit p (lv p) = false)) ∧
    (∃ s : State, ∃ g : Nat, (g < 8) ∧ (s.rf.dirs = (List.range 8).map (fun k => if k = g then dirSb else dirF)) ∧ ∃ lv, (lv = s.sbLevels) ∧
      (∀ p < 64, (lv p).post ≥ s.fld (Fld.SFD_PGg_RES_RES_MAX g)) ∧ (s.overLimit (8 * g) (lv (8 * g)) = true) ∧ (∀ i, 1 ≤ i → i < 8 →
      s.overLimit (8 * g + i) (lv (8 * g + i)) = false) ∧ (SMap.get 0 s.seen (65536 * 0x90 + g) ≠ frameOf s.air + 1) ∧
      (s.on (Fld.SFD_PGg_LIMIT_ACTION g) = false) ∧ (s.raiseRoom 1)) ∧
    (∃ s : State, (s.raiseRoom 26)) ∧
    (∃ q : Requester, ∃ s : State, ∃ g : Fin 8, (s.passes q (Reg.SFD_PGg_STATUS g.val) true)) :=
  ⟨⟨.dean, sfd4, by unfold State.passes State.inTurn; decide +kernel⟩,
   ⟨.dean, sfd1, by unfold State.passes State.inTurn; decide +kernel⟩,
   ⟨sfd9, _, rfl, by decide +kernel⟩,
   ⟨sfd1, { cls := 1, nref := 8, rate := 0, groups := 255, air := 5, dest := 268435712, mixed := false }, by unfold State.raiseRoom; decide +kernel⟩,
   ⟨.dean, 0x00060000#32, sfd9, by unfold State.passes State.inTurn; decide +kernel, _, rfl, _, rfl, by decide +kernel⟩,
   ⟨.dean, sfd4, by unfold State.passes State.inTurn State.raiseRoom; decide +kernel⟩,
   ⟨sfd10, 5, [6], 1, 268435712, by unfold State.raiseRoom; decide +kernel⟩,
   ⟨sfd12, 1, by decide +kernel, by decide +kernel, _, rfl, by decide +kernel⟩,
   ⟨short (ons b14 [(Fld.SFD_PGg_LIMIT_IN_MAX 1, 0),(Fld.SFD_PGg_RES_RES_MAX 1, 0),(Fld.SFD_PGg_LIMIT_ACTION 1, 0)]), 1, by decide +kernel,
     by decide +kernel, _, rfl, by unfold State.raiseRoom; decide +kernel⟩,
   ⟨State.reset, by unfold State.raiseRoom; decide +kernel⟩,
   ⟨.dean, b13, 1, by unfold State.passes State.inTurn; decide +kernel⟩⟩

theorem witness_ArrayCalibrationMeasures :
    (∃ q : Requester, ∃ s : State, (s.passes q Reg.CAL_ARR_CTRL true) ∧ (s.lopBusy 0 = true)) ∧
    (∃ q : Requester, ∃ w : Word, ∃ s : State, ∃ v,
      (v = writeWord Reg.CAL_ARR_CTRL (Fld.CAL_ARR_CTRL_ABORT.put 0 (Fld.CAL_ARR_CTRL_GO.put 0 w)) (s.rd Reg.CAL_ARR_CTRL)) ∧ ∃ c,
      (c = s.fld Fld.CAL_ARR_CHAN_CHAN) ∧ ∃ set, (set = s.measuredSet c) ∧ ∃ rep, (rep = max 1 (s.fld Fld.CAL_ARR_CFG_REP)) ∧ ∃ dir,
      (dir = Fld.CAL_ARR_CTRL_DIR.of v) ∧ ∃ total, (total = 64 * rep * (if dir = 0 then 2 else 1)) ∧ (s.passes q Reg.CAL_ARR_CTRL true) ∧
      (s.lopBusy 0 = false) ∧ (set ≠ 0) ∧ (entryUsable (s.chanEntry c) = true) ∧ (bitOf set (s.fld Fld.CAL_ARR_CFG_REF_PATH / 8) = true) ∧
      (s.domOn pdDsp = true) ∧ (s.domOn pdCst = true) ∧ (s.detained = false) ∧ (s.storeRange (s.fld Fld.CAL_ARR_DEST_ADDR) 1536 = true) ∧
      (s.on Fld.CAL_ARR_CFG_JOINT = false) ∧ (Fld.CAL_ARR_CTRL_MODE.of v = 0) ∧ (total ≤ 4095)) ∧
    (∃ q : Requester, ∃ w : Word, ∃ s : State, ∃ v,
      (v = writeWord Reg.CAL_ARR_CTRL (Fld.CAL_ARR_CTRL_ABORT.put 0 (Fld.CAL_ARR_CTRL_GO.put 0 w)) (s.rd Reg.CAL_ARR_CTRL)) ∧ ∃ c,
      (c = s.fld Fld.CAL_ARR_CHAN_CHAN) ∧ ∃ set, (set = s.measuredSet c) ∧ ∃ dir, (dir = Fld.CAL_ARR_CTRL_DIR.of v) ∧ ∃ a,
      (a = boundaryAfter s.time.scs (s.fld Fld.CAL_FORCE_AT_SFN) (s.fld Fld.CAL_FORCE_AT_SLOT) s.air) ∧ ∃ n,
      (n = ((forcedSlots s.time.scs dir a).map (fun x => slotSequences s.time.scs x.1 false)).sum * 64) ∧ (s.passes q Reg.CAL_ARR_CTRL true) ∧
      (s.lopBusy 0 = false) ∧ (set ≠ 0) ∧ (entryUsable (s.chanEntry c) = true) ∧ (bitOf set (s.fld Fld.CAL_ARR_CFG_REF_PATH / 8) = true) ∧
      (s.domOn pdDsp = true) ∧ (s.domOn pdCst = true) ∧ (s.detained = false) ∧ (s.storeRange (s.fld Fld.CAL_ARR_DEST_ADDR) 1536 = true) ∧
      (s.on Fld.CAL_ARR_CFG_JOINT = false) ∧ (Fld.CAL_ARR_CTRL_MODE.of v = 1) ∧ (n ≤ 4095) ∧ (s.air + s.tEarly ≤ a) ∧ (s.air + 122880 ≤ a) ∧
      (s.raiseRoom 1)) ∧
    (∃ s : State, (s.fld Fld.RFE_CAL_STATUS_STATE = loVcoCal)) ∧
    (∃ s : State, ∃ o : Nat, ∃ xs : List Byte, ∃ c : Lop0, (s.cal.lop0 = some c) ∧ (c.joint = false) ∧ ((c.sequences + 1) * 64 ≤ c.chips) ∧
      (s.storeRange (c.dest + o) xs.length = true) ∧ (s.ecc = []) ∧ (s.fld Fld.CST_ECC_INJ_MODE = 0)) ∧
    (∃ s : State, ∃ a : Nat, ∃ x : Nat, ∃ rest : List (Nat × Nat), (s.cal.slots = (a, x) :: rest) ∧ ∃ c : Lop0, (s.cal.lop0 = some c) ∧
      (c.forced = true) ∧ (c.joint = false) ∧ (c.total ≤ 4095) ∧ (s.fld Fld.RFE_CAL_STATUS_STATE = loLocked)) ∧
    (∃ s : State, ∃ a : Nat, ∃ x : Nat, ∃ rest : List (Nat × Nat), (s.cal.slots = (a, x) :: rest) ∧ (rest ≠ [])) ∧
    (∃ s : State, ∃ a : Nat, ∃ x : Nat, ∃ rest : List (Nat × Nat), (s.cal.slots = (a, x) :: rest) ∧ (rest = []) ∧ (s.raiseRoom 1)) ∧
    (∃ s : State, ∃ c : Lop0, (s.cal.lop0 = some c) ∧ (c.forced = false) ∧ (c.chips < c.total) ∧ (s.raiseRoom 1)) ∧
    (∃ q : Requester, ∃ s : State, ∃ c : Lop0, (s.cal.lop0 = some c) ∧ (s.passes q Reg.CAL_ARR_CTRL true) ∧ (s.lopBusy 0 = true) ∧ (s.raiseRoom 1)) ∧
    (∃ s : State, ∃ c : Lop0, (s.cal.lop0 = some c) ∧ ∃ ms : List PathCal, (c.total ≤ c.chips) ∧ (ms.length = 64) ∧ (∀ p < 64, ∀ m, ms[p]? = some m →
      c.txOut p m = false ∧ c.rxOut p m = false) ∧ (s.storeRange c.dest 1536 = true) ∧ (s.ecc = []) ∧ (s.fld Fld.CST_ECC_INJ_MODE = 0) ∧
      (s.raiseRoom 2)) :=
  ⟨⟨.dean, cal2, by unfold State.passes State.inTurn; decide +kernel⟩,
   ⟨.dean, 0x00000000#32, b15, _, rfl, _, rfl, _, rfl, _, rfl, _, rfl, _, rfl, by unfold State.passes State.inTurn; decide +kernel⟩,
   ⟨.dean, 0xf0f0f0f0#32, b15, _, rfl, _, rfl, _, rfl, _, rfl, _, rfl, _, rfl, by unfold State.passes State.inTurn State.raiseRoom; decide +kernel⟩,
   ⟨cal3, by decide +kernel⟩,
   ⟨cal4, 0, (List.replicate 20 0x07#8),
     { groups := 2, dir := 0, forced := true, joint := false, chan := 1, point := 4, apply := true, refPath := 9, rep := 2, dest := 268435712, span := 3, level := 5, chips := 512, sequences := 0, total := 512 },
     by decide +kernel⟩,
   ⟨cal5, 61440, 1, [(122880, 2)], by decide +kernel,
     { groups := 2, dir := 0, forced := true, joint := false, chan := 1, point := 4, apply := true, refPath := 9, rep := 2, dest := 268435712, span := 3, level := 5, chips := 0, sequences := 0, total := 512 },
     by decide +kernel⟩,
   ⟨cal5, 61440, 1, [(122880, 2)], by decide +kernel⟩,
   ⟨cal6, 122880, 2, [], by unfold State.raiseRoom; decide +kernel⟩,
   ⟨cal2,
     { groups := 2, dir := 0, forced := false, joint := false, chan := 1, point := 4, apply := true, refPath := 9, rep := 2, dest := 268435712, span := 3, level := 5, chips := 0, sequences := 0, total := 512 },
     by unfold State.raiseRoom; decide +kernel⟩,
   ⟨.dean, cal2,
     { groups := 2, dir := 0, forced := false, joint := false, chan := 1, point := 4, apply := true, refPath := 9, rep := 2, dest := 268435712, span := 3, level := 5, chips := 0, sequences := 0, total := 512 },
     by unfold State.passes State.inTurn State.raiseRoom; decide +kernel⟩,
   ⟨cal4,
     { groups := 2, dir := 0, forced := true, joint := false, chan := 1, point := 4, apply := true, refPath := 9, rep := 2, dest := 268435712, span := 3, level := 5, chips := 512, sequences := 0, total := 512 },
     by decide +kernel,
     [{ txRe := 536870912, txIm := 5242880, txTau := 786432, rxRe := 1073741824, rxIm := -33554432, rxTau := -1835008, txSnr := 0x08#8, rxSnr := 0x09#8 },
     { txRe := 537919488, txIm := 5242880, txTau := 786432, rxRe := 1073741824, rxIm := -33554432, rxTau := -1835008, txSnr := 0x08#8, rxSnr := 0x09#8 },
     { txRe := 538968064, txIm := 5242880, txTau := 786432, rxRe := 1073741824, rxIm := -33554432, rxTau := -1835008, txSnr := 0x08#8, rxSnr := 0x09#8 },
     { txRe := 540016640, txIm := 5242880, txTau := 786432, rxRe := 1073741824, rxIm := -33554432, rxTau := -1835008, txSnr := 0x08#8, rxSnr := 0x09#8 },
     { txRe := 541065216, txIm := 5242880, txTau := 786432, rxRe := 1073741824, rxIm := -33554432, rxTau := -1835008, txSnr := 0x08#8, rxSnr := 0x09#8 },
     { txRe := 542113792, txIm := 5242880, txTau := 786432, rxRe := 1073741824, rxIm := -33554432, rxTau := -1835008, txSnr := 0x08#8, rxSnr := 0x09#8 },
     { txRe := 543162368, txIm := 5242880, txTau := 786432, rxRe := 1073741824, rxIm := -33554432, rxTau := -1835008, txSnr := 0x08#8, rxSnr := 0x09#8 },
     { txRe := 544210944, txIm := 5242880, txTau := 786432, rxRe := 1073741824, rxIm := -33554432, rxTau := -1835008, txSnr := 0x08#8, rxSnr := 0x09#8 },
     { txRe := 545259520, txIm := 5242880, txTau := 786432, rxRe := 1073741824, rxIm := -33554432, rxTau := -1835008, txSnr := 0x08#8, rxSnr := 0x09#8 },
     { txRe := 546308096, txIm := 5242880, txTau := 786432, rxRe := 1073741824, rxIm := -33554432, rxTau := -1835008, txSnr := 0x08#8, rxSnr := 0x09#8 },
     { txRe := 547356672, txIm := 5242880, txTau := 786432, rxRe := 1073741824, rxIm := -33554432, rxTau := -1835008, txSnr := 0x08#8, rxSnr := 0x09#8 },
     { txRe := 548405248, txIm := 5242880, txTau := 786432, rxRe := 1073741824, rxIm := -33554432, rxTau := -1835008, txSnr := 0x08#8, rxSnr := 0x09#8 },
     { txRe := 549453824, txIm := 5242880, txTau := 786432, rxRe := 1073741824, rxIm := -33554432, rxTau := -1835008, txSnr := 0x08#8, rxSnr := 0x09#8 },
     { txRe := 550502400, txIm := 5242880, txTau := 786432, rxRe := 1073741824, rxIm := -33554432, rxTau := -1835008, txSnr := 0x08#8, rxSnr := 0x09#8 },
     { txRe := 551550976, txIm := 5242880, txTau := 786432, rxRe := 1073741824, rxIm := -33554432, rxTau := -1835008, txSnr := 0x08#8, rxSnr := 0x09#8 },
     { txRe := 552599552, txIm := 5242880, txTau := 786432, rxRe := 1073741824, rxIm := -33554432, rxTau := -1835008, txSnr := 0x08#8, rxSnr := 0x09#8 },
     { txRe := 553648128, txIm := 5242880, txTau := 786432, rxRe := 1073741824, rxIm := -33554432, rxTau := -1835008, txSnr := 0x08#8, rxSnr := 0x09#8 },
     { txRe := 554696704, txIm := 5242880, txTau := 786432, rxRe := 1073741824, rxIm := -33554432, rxTau := -1835008, txSnr := 0x08#8, rxSnr := 0x09#8 },
     { txRe := 555745280, txIm := 5242880, txTau := 786432, rxRe := 1073741824, rxIm := -33554432, rxTau := -1835008, txSnr := 0x08#8, rxSnr := 0x09#8 },
     { txRe := 556793856, txIm := 5242880, txTau := 786432, rxRe := 1073741824, rxIm := -33554432, rxTau := -1835008, txSnr := 0x08#8, rxSnr := 0x09#8 },
     { txRe := 557842432, txIm := 5242880, txTau := 786432, rxRe := 1073741824, rxIm := -33554432, rxTau := -1835008, txSnr := 0x08#8, rxSnr := 0x09#8 },
     { txRe := 558891008, txIm := 5242880, txTau := 786432, rxRe := 1073741824, rxIm := -33554432, rxTau := -1835008, txSnr := 0x08#8, rxSnr := 0x09#8 },
     { txRe := 559939584, txIm := 5242880, txTau := 786432, rxRe := 1073741824, rxIm := -33554432, rxTau := -1835008, txSnr := 0x08#8, rxSnr := 0x09#8 },
     { txRe := 560988160, txIm := 5242880, txTau := 786432, rxRe := 1073741824, rxIm := -33554432, rxTau := -1835008, txSnr := 0x08#8, rxSnr := 0x09#8 },
     { txRe := 562036736, txIm := 5242880, txTau := 786432, rxRe := 1073741824, rxIm := -33554432, rxTau := -1835008, txSnr := 0x08#8, rxSnr := 0x09#8 },
     { txRe := 563085312, txIm := 5242880, txTau := 786432, rxRe := 1073741824, rxIm := -33554432, rxTau := -1835008, txSnr := 0x08#8, rxSnr := 0x09#8 },
     { txRe := 564133888, txIm := 5242880, txTau := 786432, rxRe := 1073741824, rxIm := -33554432, rxTau := -1835008, txSnr := 0x08#8, rxSnr := 0x09#8 },
     { txRe := 565182464, txIm := 5242880, txTau := 786432, rxRe := 1073741824, rxIm := -33554432, rxTau := -1835008, txSnr := 0x08#8, rxSnr := 0x09#8 },
     { txRe := 566231040, txIm := 5242880, txTau := 786432, rxRe := 1073741824, rxIm := -33554432, rxTau := -1835008, txSnr := 0x08#8, rxSnr := 0x09#8 },
     { txRe := 567279616, txIm := 5242880, txTau := 786432, rxRe := 1073741824, rxIm := -33554432, rxTau := -1835008, txSnr := 0x08#8, rxSnr := 0x09#8 },
     { txRe := 568328192, txIm := 5242880, txTau := 786432, rxRe := 1073741824, rxIm := -33554432, rxTau := -1835008, txSnr := 0x08#8, rxSnr := 0x09#8 },
     { txRe := 569376768, txIm := 5242880, txTau := 786432, rxRe := 1073741824, rxIm := -33554432, rxTau := -1835008, txSnr := 0x08#8, rxSnr := 0x09#8 },
     { txRe := 570425344, txIm := 5242880, txTau := 786432, rxRe := 1073741824, rxIm := -33554432, rxTau := -1835008, txSnr := 0x08#8, rxSnr := 0x09#8 },
     { txRe := 571473920, txIm := 5242880, txTau := 786432, rxRe := 1073741824, rxIm := -33554432, rxTau := -1835008, txSnr := 0x08#8, rxSnr := 0x09#8 },
     { txRe := 572522496, txIm := 5242880, txTau := 786432, rxRe := 1073741824, rxIm := -33554432, rxTau := -1835008, txSnr := 0x08#8, rxSnr := 0x09#8 },
     { txRe := 573571072, txIm := 5242880, txTau := 786432, rxRe := 1073741824, rxIm := -33554432, rxTau := -1835008, txSnr := 0x08#8, rxSnr := 0x09#8 },
     { txRe := 574619648, txIm := 5242880, txTau := 786432, rxRe := 1073741824, rxIm := -33554432, rxTau := -1835008, txSnr := 0x08#8, rxSnr := 0x09#8 },
     { txRe := 575668224, txIm := 5242880, txTau := 786432, rxRe := 1073741824, rxIm := -33554432, rxTau := -1835008, txSnr := 0x08#8, rxSnr := 0x09#8 },
     { txRe := 576716800, txIm := 5242880, txTau := 786432, rxRe := 1073741824, rxIm := -33554432, rxTau := -1835008, txSnr := 0x08#8, rxSnr := 0x09#8 },
     { txRe := 577765376, txIm := 5242880, txTau := 786432, rxRe := 1073741824, rxIm := -33554432, rxTau := -1835008, txSnr := 0x08#8, rxSnr := 0x09#8 },
     { txRe := 578813952, txIm := 5242880, txTau := 786432, rxRe := 1073741824, rxIm := -33554432, rxTau := -1835008, txSnr := 0x08#8, rxSnr := 0x09#8 },
     { txRe := 579862528, txIm := 5242880, txTau := 786432, rxRe := 1073741824, rxIm := -33554432, rxTau := -1835008, txSnr := 0x08#8, rxSnr := 0x09#8 },
     { txRe := 580911104, txIm := 5242880, txTau := 786432, rxRe := 1073741824, rxIm := -33554432, rxTau := -1835008, txSnr := 0x08#8, rxSnr := 0x09#8 },
     { txRe := 581959680, txIm := 5242880, txTau := 786432, rxRe := 1073741824, rxIm := -33554432, rxTau := -1835008, txSnr := 0x08#8, rxSnr := 0x09#8 },
     { txRe := 583008256, txIm := 5242880, txTau := 786432, rxRe := 1073741824, rxIm := -33554432, rxTau := -1835008, txSnr := 0x08#8, rxSnr := 0x09#8 },
     { txRe := 584056832, txIm := 5242880, txTau := 786432, rxRe := 1073741824, rxIm := -33554432, rxTau := -1835008, txSnr := 0x08#8, rxSnr := 0x09#8 },
     { txRe := 585105408, txIm := 5242880, txTau := 786432, rxRe := 1073741824, rxIm := -33554432, rxTau := -1835008, txSnr := 0x08#8, rxSnr := 0x09#8 },
     { txRe := 586153984, txIm := 5242880, txTau := 786432, rxRe := 1073741824, rxIm := -33554432, rxTau := -1835008, txSnr := 0x08#8, rxSnr := 0x09#8 },
     { txRe := 587202560, txIm := 5242880, txTau := 786432, rxRe := 1073741824, rxIm := -33554432, rxTau := -1835008, txSnr := 0x08#8, rxSnr := 0x09#8 },
     { txRe := 588251136, txIm := 5242880, txTau := 786432, rxRe := 1073741824, rxIm := -33554432, rxTau := -1835008, txSnr := 0x08#8, rxSnr := 0x09#8 },
     { txRe := 589299712, txIm := 5242880, txTau := 786432, rxRe := 1073741824, rxIm := -33554432, rxTau := -1835008, txSnr := 0x08#8, rxSnr := 0x09#8 },
     { txRe := 590348288, txIm := 5242880, txTau := 786432, rxRe := 1073741824, rxIm := -33554432, rxTau := -1835008, txSnr := 0x08#8, rxSnr := 0x09#8 },
     { txRe := 591396864, txIm := 5242880, txTau := 786432, rxRe := 1073741824, rxIm := -33554432, rxTau := -1835008, txSnr := 0x08#8, rxSnr := 0x09#8 },
     { txRe := 592445440, txIm := 5242880, txTau := 786432, rxRe := 1073741824, rxIm := -33554432, rxTau := -1835008, txSnr := 0x08#8, rxSnr := 0x09#8 },
     { txRe := 593494016, txIm := 5242880, txTau := 786432, rxRe := 1073741824, rxIm := -33554432, rxTau := -1835008, txSnr := 0x08#8, rxSnr := 0x09#8 },
     { txRe := 594542592, txIm := 5242880, txTau := 786432, rxRe := 1073741824, rxIm := -33554432, rxTau := -1835008, txSnr := 0x08#8, rxSnr := 0x09#8 },
     { txRe := 595591168, txIm := 5242880, txTau := 786432, rxRe := 1073741824, rxIm := -33554432, rxTau := -1835008, txSnr := 0x08#8, rxSnr := 0x09#8 },
     { txRe := 596639744, txIm := 5242880, txTau := 786432, rxRe := 1073741824, rxIm := -33554432, rxTau := -1835008, txSnr := 0x08#8, rxSnr := 0x09#8 },
     { txRe := 597688320, txIm := 5242880, txTau := 786432, rxRe := 1073741824, rxIm := -33554432, rxTau := -1835008, txSnr := 0x08#8, rxSnr := 0x09#8 },
     { txRe := 598736896, txIm := 5242880, txTau := 786432, rxRe := 1073741824, rxIm := -33554432, rxTau := -1835008, txSnr := 0x08#8, rxSnr := 0x09#8 },
     { txRe := 599785472, txIm := 5242880, txTau := 786432, rxRe := 1073741824, rxIm := -33554432, rxTau := -1835008, txSnr := 0x08#8, rxSnr := 0x09#8 },
     { txRe := 600834048, txIm := 5242880, txTau := 786432, rxRe := 1073741824, rxIm := -33554432, rxTau := -1835008, txSnr := 0x08#8, rxSnr := 0x09#8 },
     { txRe := 601882624, txIm := 5242880, txTau := 786432, rxRe := 1073741824, rxIm := -33554432, rxTau := -1835008, txSnr := 0x08#8, rxSnr := 0x09#8 },
     { txRe := 602931200, txIm := 5242880, txTau := 786432, rxRe := 1073741824, rxIm := -33554432, rxTau := -1835008, txSnr := 0x08#8, rxSnr := 0x09#8 }],
     by unfold State.raiseRoom; decide +kernel⟩⟩

theorem witness_PointLoadsConvertersAndSaves :
    (∃ q : Requester, ∃ s : State, (s.passes q Reg.CAL_LOAD_CTRL true) ∧ (s.on Fld.CAL_LOAD_CTRL_GO = true)) ∧
    (∃ q : Requester, ∃ s : State, (s.passes q Reg.CAL_LOAD_CTRL true) ∧ (s.on Fld.CAL_LOAD_CTRL_GO = false) ∧
      (s.storeRange (s.fld Fld.CAL_LOAD_ADDR_ADDR) 1280 = true)) ∧
    (∃ s : State, ∃ k : Nat, ∃ a : Nat, (s.cal.load = some (k, a)) ∧ ∃ b, (b = s.storeBytes a 1280) ∧ (s.cal.block = []) ∧
      (s.storeRange a 1280 = true) ∧ (s.ecc = []) ∧ (pointBlockOk b = true)) ∧
    (∃ s : State, ∃ k : Nat, ∃ a : Nat, (s.cal.load = some (k, a)) ∧ ∃ b, (b = s.storeBytes a 1280) ∧ (s.cal.block = []) ∧
      (s.storeRange a 1280 = true) ∧ (s.ecc = []) ∧ (pointBlockOk b = false) ∧ (s.raiseRoom 1)) ∧
    (∃ s : State, ∃ k : Nat, ∃ a : Nat, (s.cal.load = some (k, a)) ∧ (s.cal.block.length = 1280) ∧ (s.cal.applies = []) ∧ (k < 64) ∧ (s.raiseRoom 1)) ∧
    (∃ q : Requester, ∃ s : State, (s.passes q Reg.CAL_CONV_CTRL true) ∧ (s.lopBusy 1 = true)) ∧
    (∃ q : Requester, ∃ w : Word, ∃ s : State, (s.passes q Reg.CAL_CONV_CTRL true) ∧ ∃ us,
      (us = (List.range 8).filter (fun g => bitOf (Fld.CAL_CONV_CTRL_PG_MASK.of w) g && s.on (Fld.RFE_PGg_CFG_FITTED g))) ∧ (s.lopBusy 1 = false) ∧
      (us ≠ []) ∧ (s.domOn pdDsp = true) ∧ (s.detained = false)) ∧
    (∃ s : State, ∃ conv : List Word, ∃ iq : List Word, ∃ g : Nat, ∃ rest : List Nat, ∃ n : Nat, ∃ d : Nat, (s.cal.lop1 = some ⟨g :: rest, n, d⟩) ∧
      (g < 8) ∧ (conv.length = 35) ∧ (iq.length = 144) ∧ (s.raiseRoom 2) ∧ (n + 1 ≤ s.fld (Fld.LOP_STATn_UNITS_TOTAL 1))) ∧
    (∃ q : Requester, ∃ s : State, (s.passes q Reg.CAL_SAVE_CTRL true) ∧ (s.on Fld.CAL_SAVE_CTRL_GO = true)) ∧
    (∃ q : Requester, ∃ s : State, (s.passes q Reg.CAL_SAVE_CTRL true) ∧ (s.on Fld.CAL_SAVE_CTRL_GO = false) ∧ (s.flashOps = [])) ∧
    (∃ s : State, ∃ a : Nat, ∃ n : Nat, ∃ d : Directory, ∃ p : Partition, (s.flashOps = [.save a n]) ∧ (s.boot.dir = some d) ∧ (p = d.calrec) ∧ ∃ b,
      (b = s.storeBytes a n) ∧ (s.fld Fld.CAL_STATUS_REC_COPY ≠ 0) ∧ ∃ e,
      (e = sealCopy b ((s.copySeq p (s.fld Fld.CAL_STATUS_REC_COPY - 1) + 1) % 2 ^ 32)) ∧ (0 < n ∧ 0 < p.half ∧ s.storeRange a n = true ∧
      s.ecc = [] ∧ copyPasses e p.half = true ∧ fieldAt e 16 8 = s.serial ∧ n ≤ p.half ∧ fieldAt e 12 4 ≤ n ∧ s.lopState 6 ≠ lopQueued ∧
      s.raiseRoom 1)) :=
  ⟨⟨.dean, cal7, by unfold State.passes State.inTurn; decide +kernel⟩,
   ⟨.dean, b15, by unfold State.passes State.inTurn; decide +kernel⟩,
   ⟨{ b15 with cal := { b15.cal with load := some (4, A2) } }, 4, A2, by decide +kernel, List.replicate 1280 0,
     (SMap.getRange_default _ _ _ 1280 (by decide +kernel)).symm, by decide +kernel⟩,
   ⟨cal9, 4, 268435712, by decide +kernel, _, rfl, by unfold State.raiseRoom; decide +kernel⟩,
   ⟨cal10, 4, 268435712, by unfold State.raiseRoom; decide +kernel⟩,
   ⟨.dean, cal11, by unfold State.passes State.inTurn; decide +kernel⟩,
   ⟨.dean, 0x00000100#32, b15, by unfold State.passes State.inTurn; decide +kernel, _, rfl, by decide +kernel⟩,
   ⟨cal12, ((List.range 35).map (fun i => BitVec.ofNat 32 (0 + i))), ((List.range 144).map (fun i => BitVec.ofNat 32 (0 + i))), 1, [2], 0, 0,
     by unfold State.raiseRoom; decide +kernel⟩,
   ⟨.dean, cal14, by unfold State.passes State.inTurn; decide +kernel⟩,
   ⟨.dean, State.reset, by unfold State.passes State.inTurn; decide +kernel⟩,
   ⟨sv, 268435712, 68, dirC, dirC.calrec, by decide +kernel, by decide +kernel, by decide +kernel, _, rfl, by decide +kernel, _, rfl,
     by unfold State.raiseRoom; decide +kernel⟩⟩

theorem witness_ProcessorControlFlow :
    (∃ k : Fin 13, ∃ w : Word, ∃ s : State, ∃ c, (c = k.val) ∧ (s.coreReady c w) ∧ ∃ op, (op = decodeCore (isDean c) w) ∧ (op = some .nop)) ∧
    (∃ k : Fin 13, ∃ w : Word, ∃ s : State, ∃ c, (c = k.val) ∧ (s.coreReady c w) ∧ ∃ op, (op = decodeCore (isDean c) w) ∧ (op = some .debug)) ∧
    (∃ k : Fin 13, ∃ w : Word, ∃ s : State, ∃ c, (c = k.val) ∧ (s.coreReady c w) ∧ ∃ x, (x = { s.core c with srMoved := false }) ∧ ∃ op,
      (op = decodeCore (isDean c) w) ∧ (op = some .halt) ∧ (x.rpt = none)) ∧
    (∃ k : Fin 13, ∃ w : Word, ∃ s : State, ∃ c, (c = k.val) ∧ (s.coreReady c w) ∧ ∃ op, (op = decodeCore (isDean c) w) ∧ (op = some .wait)) ∧
    (∃ k : Fin 13, ∃ w : Word, ∃ s : State, ∃ c, (c = k.val) ∧ (s.coreReady c w) ∧ ∃ x, (x = { s.core c with srMoved := false }) ∧ ∃ op,
      (op = decodeCore (isDean c) w) ∧ (op = some .isync) ∧ (x.loops = [])) ∧
    (∃ k : Fin 13, ∃ w : Word, ∃ s : State, ∃ c, (c = k.val) ∧ (s.coreReady c w) ∧ ∃ op, (op = decodeCore (isDean c) w) ∧ ∃ m, (op = some (.bset m))) ∧
    (∃ k : Fin 13, ∃ w : Word, ∃ s : State, ∃ c, (c = k.val) ∧ (s.coreReady c w) ∧ ∃ op, (op = decodeCore (isDean c) w) ∧ ∃ m, (op = some (.bclr m))) ∧
    (∃ k : Fin 13, ∃ w : Word, ∃ s : State, ∃ c, (c = k.val) ∧ (s.coreReady c w) ∧ ∃ x, (x = { s.core c with srMoved := false }) ∧ ∃ op,
      (op = decodeCore (isDean c) w) ∧ (x.atBodyEnd = false) ∧ ∃ d, ∃ a, (op = some (.bra d a))) ∧
    (∃ k : Fin 13, ∃ w : Word, ∃ s : State, ∃ c, (c = k.val) ∧ (s.coreReady c w) ∧ ∃ x, (x = { s.core c with srMoved := false }) ∧ ∃ op,
      (op = decodeCore (isDean c) w) ∧ (x.atBodyEnd = false) ∧ ∃ d, ∃ a, (op = some (.braAn d a))) ∧
    (∃ k : Fin 13, ∃ w : Word, ∃ s : State, ∃ c, (c = k.val) ∧ (s.coreReady c w) ∧ ∃ x, (x = { s.core c with srMoved := false }) ∧ ∃ op,
      (op = decodeCore (isDean c) w) ∧ (x.atBodyEnd = false) ∧ ∃ d, ∃ a, (op = some (.call d a)) ∧ (x.holds d = false)) ∧
    (∃ k : Fin 13, ∃ w : Word, ∃ s : State, ∃ c, (c = k.val) ∧ (s.coreReady c w) ∧ ∃ x, (x = { s.core c with srMoved := false }) ∧ ∃ op,
      (op = decodeCore (isDean c) w) ∧ (x.atBodyEnd = false) ∧ ∃ d, ∃ a, (op = some (.call d a)) ∧ (x.holds d = true) ∧
      (x.stack.length < stackSize c)) ∧
    (∃ k : Fin 13, ∃ w : Word, ∃ s : State, ∃ c, (c = k.val) ∧ (s.coreReady c w) ∧ ∃ x, (x = { s.core c with srMoved := false }) ∧ ∃ op,
      (op = decodeCore (isDean c) w) ∧ (x.atBodyEnd = false) ∧ ∃ d, (op = some (.ret d)) ∧ (x.holds d = false)) ∧
    (∃ k : Fin 13, ∃ w : Word, ∃ s : State, ∃ c, (c = k.val) ∧ (s.coreReady c w) ∧ ∃ x, (x = { s.core c with srMoved := false }) ∧ ∃ op,
      (op = decodeCore (isDean c) w) ∧ (x.atBodyEnd = false) ∧ ∃ d, (op = some (.ret d)) ∧ ∃ a, ∃ r, ∃ st, (x.holds d = true) ∧ (x.stack = (a,
      r) :: st)) ∧
    (∃ k : Fin 13, ∃ w : Word, ∃ s : State, ∃ c, (c = k.val) ∧ (s.coreReady c w) ∧ ∃ x, (x = { s.core c with srMoved := false }) ∧ ∃ op,
      (op = decodeCore (isDean c) w) ∧ (x.atBodyEnd = false) ∧ ∃ d, (op = some (.ret d)) ∧ (x.holds d = true) ∧ (x.stack = []) ∧
      (x.flag srTl = false) ∧ (s.raiseRoom 1)) ∧
    (∃ k : Fin 13, ∃ w : Word, ∃ s : State, ∃ c, (c = k.val) ∧ (s.coreReady c w) ∧ ∃ x, (x = { s.core c with srMoved := false }) ∧ ∃ op,
      (op = decodeCore (isDean c) w) ∧ (x.atBodyEnd = false) ∧ ∃ d, (op = some (.rti d)) ∧ (x.holds d = false)) ∧
    (∃ k : Fin 13, ∃ w : Word, ∃ s : State, ∃ c, (c = k.val) ∧ (s.coreReady c w) ∧ ∃ x, (x = { s.core c with srMoved := false }) ∧ ∃ op,
      (op = decodeCore (isDean c) w) ∧ (x.atBodyEnd = false) ∧ ∃ d, (op = some (.rti d)) ∧ ∃ a, ∃ r, ∃ st, (x.holds d = true) ∧ (x.stack = (a,
      some r) :: st)) ∧
    (∃ k : Fin 13, ∃ w : Word, ∃ s : State, ∃ c, (c = k.val) ∧ (s.coreReady c w) ∧ ∃ x, (x = { s.core c with srMoved := false }) ∧ ∃ op,
      (op = decodeCore (isDean c) w) ∧ (x.atBodyEnd = false) ∧ ∃ m, ∃ l, (op = some (.loopImm m l)) ∧ (m = 0)) ∧
    (∃ k : Fin 13, ∃ w : Word, ∃ s : State, ∃ c, (c = k.val) ∧ (s.coreReady c w) ∧ ∃ x, (x = { s.core c with srMoved := false }) ∧ ∃ op,
      (op = decodeCore (isDean c) w) ∧ (x.atBodyEnd = false) ∧ ∃ m, ∃ l, (op = some (.loopImm m l)) ∧ (m ≠ 0) ∧ (x.loops.length < 4)) ∧
    (∃ k : Fin 13, ∃ w : Word, ∃ s : State, ∃ c, (c = k.val) ∧ (s.coreReady c w) ∧ ∃ x, (x = { s.core c with srMoved := false }) ∧ ∃ op,
      (op = decodeCore (isDean c) w) ∧ (x.atBodyEnd = false) ∧ ∃ m, ∃ l, (op = some (.loopImm m l)) ∧ (m ≠ 0) ∧ (x.loops.length = 4) ∧
      (x.stack.length < stackSize c) ∧ (x.flag srTl = false) ∧ (s.raiseRoom 1)) ∧
    (∃ k : Fin 13, ∃ w : Word, ∃ s : State, ∃ c, (c = k.val) ∧ (s.coreReady c w) ∧ ∃ x, (x = { s.core c with srMoved := false }) ∧ ∃ op,
      (op = decodeCore (isDean c) w) ∧ (x.atBodyEnd = false) ∧ ∃ r, ∃ l, (op = some (.loopReg r l)) ∧ ∃ v, (v = x.readReg r) ∧ (v.2 % 65536 = 0)) ∧
    (∃ k : Fin 13, ∃ w : Word, ∃ s : State, ∃ c, (c = k.val) ∧ (s.coreReady c w) ∧ ∃ x, (x = { s.core c with srMoved := false }) ∧ ∃ op,
      (op = decodeCore (isDean c) w) ∧ (x.atBodyEnd = false) ∧ ∃ r, ∃ l, (op = some (.loopReg r l)) ∧ ∃ v, (v = x.readReg r) ∧ (v.2 % 65536 ≠ 0) ∧
      (x.loops.length < 4)) ∧
    (∃ k : Fin 13, ∃ w : Word, ∃ s : State, ∃ c, (c = k.val) ∧ (s.coreReady c w) ∧ ∃ x, (x = { s.core c with srMoved := false }) ∧ ∃ op,
      (op = decodeCore (isDean c) w) ∧ (x.atBodyEnd = false) ∧ ∃ m, (op = some (.rptImm m)) ∧ (x.rpt = none)) ∧
    (∃ k : Fin 13, ∃ w : Word, ∃ s : State, ∃ c, (c = k.val) ∧ (s.coreReady c w) ∧ ∃ x, (x = { s.core c with srMoved := false }) ∧ ∃ op,
      (op = decodeCore (isDean c) w) ∧ (x.atBodyEnd = false) ∧ ∃ r, (op = some (.rptReg r)) ∧ (x.rpt = none)) ∧
    (∃ k : Fin 13, ∃ w : Word, ∃ s : State, ∃ c, (c = k.val) ∧ (s.coreReady c w) ∧ ∃ x, (x = { s.core c with srMoved := false }) ∧ ∃ op,
      (op = decodeCore (isDean c) w) ∧ (x.flag srTl = false) ∧ (x.stack.length < stackSize c) ∧ (s.raiseRoom 1) ∧ ∃ m, (op = some (.trap m))) ∧
    (∃ k : Fin 13, ∃ n : Nat, ∃ w : Word, ∃ s : State, ∃ c, (c = k.val) ∧ (s.coreReady c w) ∧ ∃ x, (x = { s.core c with srMoved := false }) ∧ ∃ op,
      (op = decodeCore (isDean c) w) ∧ (x.flag srTl = false) ∧ (x.stack.length < stackSize c) ∧ (s.raiseRoom 1) ∧ (op = none) ∧ ∃ i : Instr,
      (i = .nop k n .clean ∨ i = .mac k n .clean ∨ i = .systemLoad k n .clean)) ∧
    (∃ k : Fin 13, ∃ w : Word, ∃ s : State, ∃ c, (c = k.val) ∧ (s.coreReady c w) ∧ ∃ x, (x = { s.core c with srMoved := false }) ∧ ∃ op,
      (op = decodeCore (isDean c) w) ∧ (x.flag srTl = false) ∧ (x.stack.length < stackSize c) ∧ (s.raiseRoom 1) ∧ ∃ d, ∃ a, (op = some (.bra d a)) ∧
      (x.atBodyEnd = true)) ∧
    (∃ k : Fin 13, ∃ w : Word, ∃ s : State, ∃ c, (c = k.val) ∧ (s.coreReady c w) ∧ ∃ x, (x = { s.core c with srMoved := false }) ∧ (x.rpt = none) ∧
      (x.loops = [])) ∧
    (∃ k : Fin 13, ∃ w : Word, ∃ s : State, ∃ c, (c = k.val) ∧ (s.coreReady c w) ∧ ∃ x, (x = { s.core c with srMoved := false }) ∧ (x.rpt = none) ∧
      ∃ f, ∃ fs, (x.loops = f :: fs) ∧ (f.depth = x.stack.length) ∧ (f.last = x.pc) ∧ (1 < f.count)) ∧
    (∃ k : Fin 13, ∃ w : Word, ∃ s : State, ∃ c, (c = k.val) ∧ (s.coreReady c w) ∧ ∃ x, (x = { s.core c with srMoved := false }) ∧ (x.rpt = none) ∧
      ∃ f, ∃ fs, (x.loops = f :: fs) ∧ (f.depth = x.stack.length) ∧ (f.last = x.pc) ∧ (f.count ≤ 1) ∧ (fs = [])) ∧
    (∃ k : Fin 13, ∃ w : Word, ∃ s : State, ∃ c, (c = k.val) ∧ (s.coreReady c w) ∧ ∃ x, (x = { s.core c with srMoved := false }) ∧ ∃ m,
      (x.rpt.map (·.1) = some m) ∧ (1 < m)) :=
  ⟨⟨0, 0x01000000#32, core8, _, rfl, by unfold State.coreReady; decide +kernel, _, rfl, by decide +kernel⟩,
   ⟨0, 0x07000000#32, core56, _, rfl, by unfold State.coreReady; decide +kernel, _, rfl, by decide +kernel⟩,
   ⟨0, 0x00000000#32, core0, _, rfl, by unfold State.coreReady; decide +kernel, _, rfl, _, rfl, by decide +kernel⟩,
   ⟨0, 0x02000000#32, core16, _, rfl, by unfold State.coreReady; decide +kernel, _, rfl, by decide +kernel⟩,
   ⟨0, 0x04000000#32, core32, _, rfl, by unfold State.coreReady; decide +kernel, _, rfl, _, rfl, by decide +kernel⟩,
   ⟨0, 0x05000088#32, core40, _, rfl, by unfold State.coreReady; decide +kernel, _, rfl, 136, by decide +kernel⟩,
   ⟨0, 0x06001005#32, core48, _, rfl, by unfold State.coreReady; decide +kernel, _, rfl, 4101, by decide +kernel⟩,
   ⟨0, 0x10000200#32, core72, _, rfl, by unfold State.coreReady; decide +kernel, _, rfl, _, rfl, by decide +kernel, 0, 512, by decide +kernel⟩,
   ⟨0, 0x14010000#32, core136, _, rfl, by unfold State.coreReady; decide +kernel, _, rfl, _, rfl, by decide +kernel, 0, 1, by decide +kernel⟩,
   ⟨0, 0x11100077#32, core96, _, rfl, by unfold State.coreReady; decide +kernel, _, rfl, _, rfl, by decide +kernel, 1, 119, by decide +kernel⟩,
   ⟨0, 0x11000200#32, core88, _, rfl, by unfold State.coreReady; decide +kernel, _, rfl, _, rfl, by decide +kernel, 0, 512, by decide +kernel⟩,
   ⟨0, 0x12300000#32, core112, _, rfl, by unfold State.coreReady; decide +kernel, _, rfl, _, rfl, by decide +kernel, 3, by decide +kernel⟩,
   ⟨0, 0x12000000#32, core104, _, rfl, by unfold State.coreReady; decide +kernel, _, rfl, _, rfl, by decide +kernel, 0, by decide +kernel, 56,
     some 119, [], by decide +kernel⟩,
   ⟨0, 0x12000000#32, core105, _, rfl, by unfold State.coreReady; decide +kernel, _, rfl, _, rfl, by decide +kernel, 0,
     by unfold State.raiseRoom; decide +kernel⟩,
   ⟨0, 0x13400000#32, core130, _, rfl, by unfold State.coreReady; decide +kernel, _, rfl, _, rfl, by decide +kernel, 4, by decide +kernel⟩,
   ⟨0, 0x13000000#32, core120, _, rfl, by unfold State.coreReady; decide +kernel, _, rfl, _, rfl, by decide +kernel, 0, by decide +kernel, 56, 119,
     [], by decide +kernel⟩,
   ⟨0, 0x20000004#32, core144, _, rfl, by unfold State.coreReady; decide +kernel, _, rfl, _, rfl, by decide +kernel, _, 4, by decide +kernel, rfl⟩,
   ⟨0, 0x20003004#32, core152, _, rfl, by unfold State.coreReady; decide +kernel, _, rfl, _, rfl, by decide +kernel, 3, 4, by decide +kernel⟩,
   ⟨0, 0x20003004#32, core158, _, rfl, by unfold State.coreReady; decide +kernel, _, rfl, _, rfl, by decide +kernel, 3, 4,
     by unfold State.raiseRoom; decide +kernel⟩,
   ⟨0, 0x21150002#32, core184, _, rfl, by unfold State.coreReady; decide +kernel, _, rfl, _, rfl, by decide +kernel, 21, 2, by decide +kernel, _,
     rfl, by decide +kernel⟩,
   ⟨0, 0x21020004#32, core160, _, rfl, by unfold State.coreReady; decide +kernel, _, rfl, _, rfl, by decide +kernel, 2, 4, by decide +kernel, _, rfl,
     by decide +kernel⟩,
   ⟨0, 0x22000000#32, core192, _, rfl, by unfold State.coreReady; decide +kernel, _, rfl, _, rfl, by decide +kernel, 0, by decide +kernel⟩,
   ⟨0, 0x23020000#32, core208, _, rfl, by unfold State.coreReady; decide +kernel, _, rfl, _, rfl, by decide +kernel, 2, by decide +kernel⟩,
   ⟨0, 0x03000155#32, core24, _, rfl, by unfold State.coreReady; decide +kernel, _, rfl, _, rfl, by decide +kernel, by decide +kernel,
     by unfold State.raiseRoom; decide +kernel, 341, by decide +kernel⟩,
   ⟨0, 1, 0x09000000#32, core64, _, rfl, by unfold State.coreReady; decide +kernel, _, rfl, _, rfl, by decide +kernel, by decide +kernel,
     by unfold State.raiseRoom; decide +kernel, by decide +kernel, .nop 0 1 (CoreUpset.clean), by decide +kernel⟩,
   ⟨0, 0x10000200#32, core76, _, rfl, by unfold State.coreReady; decide +kernel, _, rfl, _, rfl, by decide +kernel, by decide +kernel,
     by unfold State.raiseRoom; decide +kernel, 0, 512, by decide +kernel⟩,
   ⟨0, 0x00000000#32, core0, _, rfl, by unfold State.coreReady; decide +kernel, _, rfl, by decide +kernel⟩,
   ⟨0, 0x00000000#32, core4, _, rfl, by unfold State.coreReady; decide +kernel, _, rfl, by decide +kernel,
     { first := 98, last := 100, count := 3, depth := 1, body := [], cached := false }, [], by decide +kernel⟩,
   ⟨0, 0x00000000#32, core5, _, rfl, by unfold State.coreReady; decide +kernel, _, rfl, by decide +kernel,
     { first := 98, last := 100, count := 1, depth := 0, body := [], cached := false }, [], by decide +kernel⟩,
   ⟨0, 0x00000000#32, core7, _, rfl, by unfold State.coreReady; decide +kernel, _, rfl, 4, by decide +kernel⟩⟩

theorem witness_ProcessorArithmeticAndMoves :
    (∃ k : Fin 13, ∃ n : Nat, ∃ w : Word, ∃ s : State, ∃ c, (c = k.val) ∧ (s.coreReady c w) ∧ ∃ x, (x = { s.core c with srMoved := false }) ∧ ∃ op,
      (op = decodeCore (isDean c) w) ∧ ∃ d, ∃ r, ∃ h, ∃ a, (a = x.accVal d) ∧ ∃ v, (v = x.accVal r) ∧ ∃ p, (p = x.readReg h) ∧ ∃ hd,
      (hd = x.accCode d / 2 ^ 24 % 2 ^ 24) ∧ ∃ hr, (hr = x.accCode r / 2 ^ 24 % 2 ^ 24) ∧ ∃ e : Instr × Nat × Int × CoreState,
      (e ∈ [ (.clr k n .clean, 0x00, 0, x), (.mova k n .clean, 0x01, v, x), (.addAcc k n .clean, 0x02, a + v, x), (.subAcc k n .clean, 0x03, a - v,
      x), (.negAcc k n .clean, 0x04, -v, x), (.absAcc k n .clean, 0x05, v.natAbs, x), (.rnd k n .clean, 0x07, roundHalfEven a 24 * 2 ^ 24, x),
      (.sata k n .clean, 0x08, max (-2 ^ 47) (min (2 ^ 47 - 1) a), x.setFlag srCl (x.flag srCl || decide (a < -2 ^ 47 ∨ 2 ^ 47 ≤ a))),
      (.asr k n .clean, 0x0A, v / 2 ^ h, x), (.addr k n .clean, 0x0B, a + sext 24 p.2 * 2 ^ 24, p.1), (.subr k n .clean, 0x0C,
      a - sext 24 p.2 * 2 ^ 24, p.1), (.andAcc k n .clean, 0x0D, sext 56 (patch (x.accCode d) 24 24 (hd &&& hr)), x), (.orAcc k n .clean, 0x0E,
      sext 56 (patch (x.accCode d) 24 24 (hd ||| hr)), x), (.xorAcc k n .clean, 0x0F, sext 56 (patch (x.accCode d) 24 24 (hd ^^^ hr)), x),
      (.norm k n .clean, 0x10, signBits v * 2 ^ 24, x)]) ∧ (op = some (.alu e.2.1 d r h)) ∧ (e.2.1 = 0x04 ∨ e.2.1 = 0x05 → v ≠ -2 ^ 55 ∨
      x.flag srSat = true)) ∧
    (∃ k : Fin 13, ∃ w : Word, ∃ s : State, ∃ c, (c = k.val) ∧ (s.coreReady c w) ∧ ∃ x, (x = { s.core c with srMoved := false }) ∧ ∃ op,
      (op = decodeCore (isDean c) w) ∧ ∃ d, ∃ r, ∃ h, ∃ v, (v = x.accVal r) ∧ (op = some (.alu 0x04 d r h)) ∧ (v = -2 ^ 55) ∧ (x.flag srSat = false)) ∧
    (∃ k : Fin 13, ∃ w : Word, ∃ s : State, ∃ c, (c = k.val) ∧ (s.coreReady c w) ∧ ∃ x, (x = { s.core c with srMoved := false }) ∧ ∃ op,
      (op = decodeCore (isDean c) w) ∧ ∃ d, ∃ r, ∃ h, ∃ v, (v = x.accVal r) ∧ (op = some (.alu 0x05 d r h)) ∧ (v = -2 ^ 55) ∧ (x.flag srSat = false)) ∧
    (∃ k : Fin 13, ∃ w : Word, ∃ s : State, ∃ c, (c = k.val) ∧ (s.coreReady c w) ∧ ∃ op, (op = decodeCore (isDean c) w) ∧ ∃ d, ∃ r, ∃ h,
      (op = some (.alu 0x06 d r h))) ∧
    (∃ k : Fin 13, ∃ w : Word, ∃ s : State, ∃ c, (c = k.val) ∧ (s.coreReady c w) ∧ ∃ op, (op = decodeCore (isDean c) w) ∧ ∃ d, ∃ r, ∃ h,
      (op = some (.alu 0x09 d r h))) ∧
    (∃ k : Fin 13, ∃ n : Nat, ∃ w : Word, ∃ s : State, ∃ c, (c = k.val) ∧ (s.coreReady c w) ∧ ∃ x, (x = { s.core c with srMoved := false }) ∧ ∃ op,
      (op = decodeCore (isDean c) w) ∧ ∃ an : Nat, ∃ o : Nat, ∃ e : Instr × CoreOp × Int, (e ∈ [(.adda k n .clean, .adda an o,
      sext 24 (x.r (0x30 + o))), (.suba k n .clean, .suba an o, -sext 24 (x.r (0x30 + o))), (.addi k n .clean, .addi an o, sext 16 o)]) ∧
      (op = some e.2.1)) ∧
    (∃ k : Fin 13, ∃ w : Word, ∃ s : State, ∃ c, (c = k.val) ∧ (s.coreReady c w) ∧ ∃ op, (op = decodeCore (isDean c) w) ∧ ∃ r, ∃ p, ∃ m,
      (op = some (.movi r p m))) ∧
    (∃ k : Fin 13, ∃ w : Word, ∃ s : State, ∃ c, (c = k.val) ∧ (s.coreReady c w) ∧ ∃ op, (op = decodeCore (isDean c) w) ∧ ∃ d, ∃ r,
      (op = some (.move d r))) ∧
    (∃ k : Fin 13, ∃ w : Word, ∃ s : State, ∃ c, (c = k.val) ∧ (s.coreReady c w)) :=
  ⟨⟨0, 0, 0x50084000#32, core02, _, rfl, by unfold State.coreReady; decide +kernel, _, rfl, _, rfl, 0, 1, 1, _, rfl, _, rfl, _, rfl, _, rfl, _, rfl,
     _, .head _, by decide +kernel⟩,
   ⟨0, 0x52518000#32, core28, _, rfl, by unfold State.coreReady; decide +kernel, _, rfl, _, rfl, 2, 2, 6, _, rfl, by decide +kernel⟩,
   ⟨0, 0x52d18000#32, core34, _, rfl, by unfold State.coreReady; decide +kernel, _, rfl, _, rfl, 2, 2, 6, _, rfl, by decide +kernel⟩,
   ⟨0, 0x53084000#32, core36, _, rfl, by unfold State.coreReady; decide +kernel, _, rfl, 0, 1, 1, by decide +kernel⟩,
   ⟨0, 0x54884000#32, core54, _, rfl, by unfold State.coreReady; decide +kernel, _, rfl, 0, 1, 1, by decide +kernel⟩,
   ⟨0, 0, 0x60010000#32, core102, _, rfl, by unfold State.coreReady; decide +kernel, _, rfl, _, rfl, 0, 1, _, .head _, by decide +kernel⟩,
   ⟨0, 0x36008123#32, core110, _, rfl, by unfold State.coreReady; decide +kernel, _, rfl, 48, 0, 33059, by decide +kernel⟩,
   ⟨0, 0x42818000#32, core118, _, rfl, by unfold State.coreReady; decide +kernel, _, rfl, 20, 6, by decide +kernel⟩,
   ⟨0, 0x50084000#32, core02, _, rfl, by unfold State.coreReady; decide +kernel⟩⟩

theorem witness_ProcessorMultipliesAndMemory :
    (∃ k : Fin 13, ∃ n : Nat, ∃ w : Word, ∃ s : State, ∃ c, (c = k.val) ∧ (s.coreReady c w) ∧ ∃ op, (op = decodeCore (isDean c) w) ∧
      ∃ e : Instr × MulOp, (e ∈ [(.mac k n .clean, .mac), (.msu k n .clean, .msu), (.mpy k n .clean, .mpy)]) ∧ ∃ dual : Bool, ∃ a : Nat, ∃ b : Nat,
      ∃ p : Nat, ∃ lx : ParLoad, ∃ ly : ParLoad, ∃ m : Nat, (op = some (.mul e.2 dual a b p lx ly m))) ∧
    (∃ k : Fin 13, ∃ n : Nat, ∃ w : Word, ∃ s : State, ∃ c, (c = k.val) ∧ (s.coreReady c w) ∧ ∃ op, (op = decodeCore (isDean c) w) ∧
      ∃ e : Instr × MulOp, (e ∈ [(.cmac k n .clean, .mac), (.cmsu k n .clean, .msu), (.cmpy k n .clean, .mpy)]) ∧ ∃ p : Bool, ∃ j : Bool,
      ∃ lx : ParLoad, ∃ ly : ParLoad, ∃ lz : ParLoad, (op = some (.cmul e.2 p j lx ly lz))) ∧
    (∃ k : Fin 13, ∃ w : Word, ∃ s : State, ∃ c, (c = k.val) ∧ (s.coreReady c w) ∧ ∃ op, (op = decodeCore (isDean c) w) ∧ ∃ lx : ParLoad,
      ∃ ly : ParLoad, ∃ m : Nat, (op = some (.loads lx ly m))) ∧
    (∃ k : Fin 13, ∃ w : Word, ∃ s : State, ∃ c, (c = k.val) ∧ (s.coreReady c w) ∧ ∃ l : ParLoad, (l.an < 16) ∧ (l.dst < 4)) ∧
    (∃ k : Fin 13, ∃ w : Word, ∃ s : State, ∃ c, (c = k.val) ∧ (s.coreReady c w) ∧ ∃ x, (x = { s.core c with srMoved := false }) ∧ ∃ op,
      (op = decodeCore (isDean c) w) ∧ ∃ m, ∃ an, ∃ mode, ∃ r, ∃ d, (op = some (.load m an mode r d)) ∧ ∃ a, (a = x.address an mode d 1) ∧
      (a.2 = x.r (0x20 + an) ∨ r ≠ 0x20 + an)) ∧
    (∃ k : Fin 13, ∃ w : Word, ∃ s : State, ∃ c, (c = k.val) ∧ (s.coreReady c w) ∧ ∃ x, (x = { s.core c with srMoved := false }) ∧ ∃ op,
      (op = decodeCore (isDean c) w) ∧ ∃ m, ∃ an, ∃ mode, ∃ r, ∃ d, (op = some (.load m an mode r d)) ∧ ∃ a, (a = x.address an mode d 1) ∧
      (a.2 ≠ x.r (0x20 + an)) ∧ (r = 0x20 + an)) ∧
    (∃ k : Fin 13, ∃ w : Word, ∃ s : State, ∃ c, (c = k.val) ∧ (s.coreReady c w) ∧ ∃ op, (op = decodeCore (isDean c) w) ∧ ∃ m, ∃ an, ∃ mode, ∃ r,
      ∃ d, (op = some (.store m an mode r d))) ∧
    (∃ k : Fin 13, ∃ w : Word, ∃ s : State, ∃ c, (c = k.val) ∧ (s.coreReady c w)) :=
  ⟨⟨0, 0, 0x84844880#32, core03, _, rfl, by unfold State.coreReady; decide +kernel, _, rfl, _, .head _, false, 1, 0, 0,
     { en := true, dst := 0, mode := 1, an := 0 }, { en := true, dst := 2, mode := 1, an := 4 }, 1, by decide +kernel⟩,
   ⟨0, 0, 0xe4893000#32, core2, _, rfl, by unfold State.coreReady; decide +kernel, _, rfl, _, .head _, false, false,
     { en := true, dst := 0, mode := 1, an := 0 }, { en := true, dst := 2, mode := 3, an := 4 }, { en := false, dst := 0, mode := 0, an := 8 },
     by decide +kernel⟩,
   ⟨0, 0x80044d00#32, core04, _, rfl, by unfold State.coreReady; decide +kernel, _, rfl, { en := true, dst := 0, mode := 1, an := 0 },
     { en := true, dst := 3, mode := 2, an := 4 }, 1, by decide +kernel⟩,
   ⟨0, 0x84844880#32, core03, _, rfl, by unfold State.coreReady; decide +kernel, { en := true, dst := 0, mode := 1, an := 0 }, by decide +kernel⟩,
   ⟨0, 0xa0041000#32, core05, _, rfl, by unfold State.coreReady; decide +kernel, _, rfl, _, rfl, 0, 0, 1, 2, 0, by decide +kernel, _, rfl,
     by decide +kernel⟩,
   ⟨0, 0xa20d0000#32, core22, _, rfl, by unfold State.coreReady; decide +kernel, _, rfl, _, rfl, 1, 0, 3, 32, 0, by decide +kernel, _, rfl,
     by decide +kernel⟩,
   ⟨0, 0xa8043000#32, core10, _, rfl, by unfold State.coreReady; decide +kernel, _, rfl, 0, 0, 1, 6, 0, by decide +kernel⟩,
   ⟨0, 0x84844880#32, core03, _, rfl, by unfold State.coreReady; decide +kernel⟩⟩

theorem witness_ProcessorSystemSide :
    (∃ k : Fin 13, ∃ n : Nat, ∃ w : Word, ∃ s : State, ∃ c, (c = k.val) ∧ ∃ x, (x = { s.core c with srMoved := false }) ∧ ∃ op,
      (op = decodeCore (isDean c) w) ∧ ∃ e : Instr × Bool, (e ∈ [(.systemLoad k n .clean, false), (.systemStore k n .clean, true)]) ∧
      (s.coreReady c w) ∧ ∃ an, ∃ mode, ∃ g, ∃ d, (op = some (if e.2 then .sysStore an mode g d else .sysLoad an mode g d)) ∧ ∃ a,
      (a = x.address an mode d 4) ∧ ∃ m, (m = x.r 0x17 * 2 ^ 24 + a.1) ∧ (m % 4 = 0)) ∧
    (∃ k : Fin 13, ∃ n : Nat, ∃ w : Word, ∃ s : State, ∃ c, (c = k.val) ∧ ∃ x, (x = { s.core c with srMoved := false }) ∧ ∃ op,
      (op = decodeCore (isDean c) w) ∧ ∃ e : Instr × Bool, (e ∈ [(.systemLoad k n .clean, false), (.systemStore k n .clean, true)]) ∧
      (s.coreReady c w) ∧ ∃ an, ∃ mode, ∃ g, ∃ d, (op = some (if e.2 then .sysStore an mode g d else .sysLoad an mode g d)) ∧ ∃ a,
      (a = x.address an mode d 4) ∧ ∃ m, (m = x.r 0x17 * 2 ^ 24 + a.1) ∧ (m % 4 ≠ 0) ∧ (x.flag srTl = false) ∧ (x.stack.length < stackSize c) ∧
      (s.raiseRoom 1)) ∧
    (∃ k : Fin 13, ∃ n : Nat, ∃ s : State, ∃ c, (c = k.val) ∧ ∃ env : BusEnv, ∃ a : SysAccess, ((s.core c).sys = some a) ∧ ∃ r,
      (r = (if a.write then ((s.addCycles c n).busWrite (coreRequester k) env false a.addr a.data).1 else ((s.addCycles c n).busRead (coreRequester k) env a.addr).1)) ∧
      ((r.core c).sys = some a) ∧ ∃ st,
      (st = (if a.write then ((s.addCycles c n).busWrite (coreRequester k) env false a.addr a.data).2 else ((s.addCycles c n).busRead (coreRequester k) env a.addr).2.1)) ∧
      (st = stOk) ∧ (r.on (Fld.CORE_CTRL_HALT_REQ c) = false)) ∧
    (∃ k : Fin 13, ∃ n : Nat, ∃ s : State, ∃ c, (c = k.val) ∧ ∃ x, (x = { s.core c with srMoved := false }) ∧ ∃ env : BusEnv, ∃ a : SysAccess,
      ((s.core c).sys = some a) ∧ ∃ r,
      (r = (if a.write then ((s.addCycles c n).busWrite (coreRequester k) env false a.addr a.data).1 else ((s.addCycles c n).busRead (coreRequester k) env a.addr).1)) ∧
      ((r.core c).sys = some a) ∧ ∃ st,
      (st = (if a.write then ((s.addCycles c n).busWrite (coreRequester k) env false a.addr a.data).2 else ((s.addCycles c n).busRead (coreRequester k) env a.addr).2.1)) ∧
      (st ≠ stOk) ∧ (st < 256) ∧ ((r.core c).flag srTl = false) ∧ ((r.core c).stack.length < stackSize c) ∧ (r.raiseRoom 1) ∧
      (r.on (Fld.CORE_CTRL_HALT_REQ c) = false) ∧ ((r.core c).pc = x.pc)) ∧
    (∃ k : Fin 13, ∃ s : State, ∃ c, (c = k.val) ∧ ∃ x, (x = { s.core c with srMoved := false }) ∧ ∃ a : SysAccess, ((s.core c).sys = some a) ∧
      (x.flag srTl = false) ∧ (x.stack.length < stackSize c) ∧ (s.raiseRoom 1) ∧ (s.on (Fld.CORE_CTRL_HALT_REQ c) = false)) ∧
    (∃ k : Fin 13, ∃ w : Word, ∃ s : State, ∃ c, (c = k.val) ∧ ∃ x, (x = { s.core c with srMoved := false }) ∧ ∃ op, (op = decodeCore (isDean c) w) ∧
      (s.coreReady c w) ∧ ∃ a, (op = some (.mbxrd a)) ∧ ∃ v, ∃ vs, (x.mbxIn = v :: vs)) ∧
    (∃ k : Fin 13, ∃ w : Word, ∃ s : State, ∃ c, (c = k.val) ∧ ∃ x, (x = { s.core c with srMoved := false }) ∧ ∃ op, (op = decodeCore (isDean c) w) ∧
      (s.coreReady c w) ∧ ∃ a, (op = some (.mbxrd a)) ∧ (x.mbxIn = [])) ∧
    (∃ k : Fin 13, ∃ w : Word, ∃ s : State, ∃ c, (c = k.val) ∧ ∃ x, (x = { s.core c with srMoved := false }) ∧ ∃ op, (op = decodeCore (isDean c) w) ∧
      (s.coreReady c w) ∧ ∃ a, (op = some (.mbxwr a)) ∧ (x.mbxOut.length < (if c = 12 then 16 else 8))) ∧
    (∃ k : Fin 13, ∃ w : Word, ∃ s : State, ∃ c, (c = k.val) ∧ ∃ x, (x = { s.core c with srMoved := false }) ∧ ∃ op, (op = decodeCore (isDean c) w) ∧
      (s.coreReady c w) ∧ ∃ a, (op = some (.mbxwr a)) ∧ (x.mbxOut.length = (if c = 12 then 16 else 8)) ∧ (s.raiseRoom 1)) ∧
    (∃ k : Fin 13, ∃ w : Word, ∃ s : State, ∃ c, (c = k.val) ∧ ∃ op, (op = decodeCore (isDean c) w) ∧ (s.coreReady c w) ∧ ∃ m, (op = some (.ring m))) ∧
    (∃ k : Fin 13, ∃ s : State, ∃ c, (c = k.val) ∧ ∃ x, (x = { s.core c with srMoved := false }) ∧ ∃ i, (i < 16 ∧ i < x.ilvl ∧
      bitOf (s.corePending c &&& s.fld (Fld.CORE_IRQ_EN c)) i = true ∧ (∀ j < 16, bitOf (s.corePending c &&& s.fld (Fld.CORE_IRQ_EN c)) j = true →
      i ≤ j)) ∧ (x.flag srIe = true ∧ x.rpt = none ∧ (s.core c).srMoved = false ∧ x.sys = none ∧ s.domOn pdDsp = true ∧ s.coreStopped c = false ∧
      s.coreState c = coreRun ∧ s.on (Fld.CORE_CTRL_HALT_REQ c) = false) ∧ (x.stack.length < (if c = 12 then 32 else 16))) ∧
    (∃ k : Fin 13, ∃ s : State, ∃ c, (c = k.val) ∧ (s.on (Fld.CORE_TIMER_PERIOD c) = true) ∧ (s.domOn pdDsp = true)) ∧
    (∃ k : Fin 13, ∃ q : Requester, ∃ w : Word, ∃ s : State, ∃ c, (c = k.val) ∧ (s.passes q (Reg.CORE_CTRL c) true) ∧
      ((Fld.CORE_CTRL_RST c).of w = 1)) ∧
    (∃ k : Fin 13, ∃ q : Requester, ∃ w : Word, ∃ s : State, ∃ c, (c = k.val) ∧ (s.passes q (Reg.CORE_CTRL c) true) ∧
      ((Fld.CORE_CTRL_RST c).of w = 0) ∧ (s.on (Fld.CORE_CTRL_RST c) = true)) ∧
    (∃ k : Fin 13, ∃ q : Requester, ∃ w : Word, ∃ s : State, ∃ c, (c = k.val) ∧ ∃ x, (x = { s.core c with srMoved := false }) ∧
      (s.passes q (Reg.CORE_CTRL c) true) ∧ ((Fld.CORE_CTRL_RST c).of w = 0) ∧ (s.on (Fld.CORE_CTRL_RST c) = false) ∧
      ((Fld.CORE_CTRL_RESUME c).of w = 0) ∧ (s.coreState c = coreRun) ∧ (x.rpt = none) ∧ (x.sys = none)) ∧
    (∃ k : Fin 13, ∃ q : Requester, ∃ w : Word, ∃ s : State, ∃ c, (c = k.val) ∧ ∃ x, (x = { s.core c with srMoved := false }) ∧
      (s.passes q (Reg.CORE_CTRL c) true) ∧ ((Fld.CORE_CTRL_RST c).of w = 0) ∧ (s.on (Fld.CORE_CTRL_RST c) = false) ∧
      ((Fld.CORE_CTRL_HALT_REQ c).of w = 0) ∧ (s.on (Fld.CORE_CTRL_HALT_REQ c) = false) ∧ (s.coreState c = coreHalted) ∧ (x.loops = [])) ∧
    (∃ k : Fin 13, ∃ q : Requester, ∃ s : State, ∃ c, (c = k.val) ∧ (s.passes q (Reg.MBX_IN c) true) ∧ (q = .mspi ∨ q = .mgq) ∧
      ((s.core c).mbxIn.length < (if c = 12 then 16 else 8))) ∧
    (∃ k : Fin 13, ∃ q : Requester, ∃ s : State, ∃ c, (c = k.val) ∧ (s.passes q (Reg.MBX_IN c) true) ∧ (q = .mspi ∨ q = .mgq) ∧
      ((s.core c).mbxIn.length = (if c = 12 then 16 else 8)) ∧ (s.raiseRoom 1)) ∧
    (∃ k : Fin 13, ∃ q : Requester, ∃ s : State, ∃ c, (c = k.val) ∧ (s.passes q (Reg.MBX_OUT c) false) ∧ (q = .mspi ∨ q = .mgq) ∧ ∃ v, ∃ vs,
      ((s.core c).mbxOut = v :: vs)) ∧
    (∃ k : Fin 13, ∃ q : Requester, ∃ s : State, ∃ c, (c = k.val) ∧ (s.passes q (Reg.MBX_OUT c) false) ∧ (q = .mspi ∨ q = .mgq) ∧
      ((s.core c).mbxOut = [])) ∧
    (∃ k : Fin 13, ∃ q : Requester, ∃ s : State, ∃ c, (c = k.val) ∧ (s.passes q (Reg.CORE_DOORBELL c) true)) :=
  ⟨⟨0, 0, 0xb0450000#32, cores3, _, rfl, _, rfl, _, rfl, _, .head _, by unfold State.coreReady; decide +kernel, 2, 1, 1, 0, by decide +kernel, _,
     rfl, _, rfl, by decide +kernel⟩,
   ⟨0, 0, 0xb0050000#32, cores2, _, rfl, _, rfl, _, rfl, _, .head _, by unfold State.coreReady; decide +kernel, 0, 1, 1, 0, by decide +kernel, _,
     rfl, _, rfl, by unfold State.raiseRoom; decide +kernel⟩,
   ⟨0, 0, cores13, _, rfl, { memErr := 0, unseals := false },
     { write := true, addr := 268435456, data := 0x00000005#32, acc := 1, an := 2, next := 77, instr := 0x01000000#32 }, by decide +kernel, _, rfl,
     by decide +kernel, _, rfl, by decide +kernel⟩,
   ⟨0, 0, cores12, _, rfl, _, rfl, { memErr := 0, unseals := false },
     { write := false, addr := 524296, data := 0x00000005#32, acc := 1, an := 2, next := 77, instr := 0x01000000#32 }, by decide +kernel, _, rfl,
     by decide +kernel, _, rfl, by unfold State.raiseRoom; decide +kernel⟩,
   ⟨0, cores12, _, rfl, _, rfl, { write := false, addr := 524296, data := 0x00000005#32, acc := 1, an := 2, next := 77, instr := 0x01000000#32 },
     by unfold State.raiseRoom; decide +kernel⟩,
   ⟨0, 0xc0010000#32, cores6, _, rfl, _, rfl, _, rfl, by unfold State.coreReady; decide +kernel, 1, by decide +kernel, 0xfffffff0#32,
     [0x00000007#32], by decide +kernel⟩,
   ⟨0, 0xc0010000#32, cores9, _, rfl, _, rfl, _, rfl, by unfold State.coreReady; decide +kernel, 1, by decide +kernel⟩,
   ⟨0, 0xc1010000#32, cores7, _, rfl, _, rfl, _, rfl, by unfold State.coreReady; decide +kernel, 1, by decide +kernel⟩,
   ⟨0, 0xc1010000#32, cores10, _, rfl, _, rfl, _, rfl, by unfold State.coreReady; decide +kernel, 1, by unfold State.raiseRoom; decide +kernel⟩,
   ⟨0, 0xc20000c8#32, cores8, _, rfl, _, rfl, by unfold State.coreReady; decide +kernel, 200, by decide +kernel⟩,
   ⟨0, cores15, _, rfl, _, rfl, 0, by decide +kernel⟩,
   ⟨0, idl, _, rfl, by decide +kernel⟩,
   ⟨0, .dean, 0x00000001#32, idl, _, rfl, by unfold State.passes State.inTurn; decide +kernel⟩,
   ⟨0, .dean, 0xb0050000#32, idl, _, rfl, by unfold State.passes State.inTurn; decide +kernel⟩,
   ⟨0, .dean, 0xb0050000#32, cores20, _, rfl, _, rfl, by unfold State.passes State.inTurn; decide +kernel⟩,
   ⟨0, .dean, 0xb0050000#32, cores19, _, rfl, _, rfl, by unfold State.passes State.inTurn; decide +kernel⟩,
   ⟨0, .mgq, idl, _, rfl, by unfold State.passes State.inTurn; decide +kernel⟩,
   ⟨0, .mgq, cores10, _, rfl, by unfold State.passes State.inTurn State.raiseRoom; decide +kernel⟩,
   ⟨0, .mgq, cores10, _, rfl, by unfold State.passes State.inTurn; decide +kernel, by decide +kernel, 0x00000009#32,
     (List.replicate 7 0x00000009#32), by decide +kernel⟩,
   ⟨0, .mgq, idl, _, rfl, by unfold State.passes State.inTurn; decide +kernel⟩,
   ⟨0, .dean, idl, _, rfl, by unfold State.passes State.inTurn; decide +kernel⟩⟩

theorem witness_HousekeepingConvertsAndCalibrates :
    (∃ s : State, ∃ e : Fin 64, ∃ d : Nat, (SMap.find s.hk.armed e.val = some d) ∧ (s.hk.due = []) ∧ (s.air ≤ d + 64) ∧ (s.hk.running = none)) ∧
    (∃ s : State, ∃ e : Fin 64, ∃ d : Nat, (SMap.find s.hk.armed e.val = some d) ∧ (s.hk.due = []) ∧ (s.air ≤ d + 64) ∧ ∃ c : HkRun,
      (s.hk.running = some c) ∧ (c.kind = 0)) ∧
    (∃ s : State, ∃ e : Fin 64, ∃ d : Nat, (SMap.find s.hk.armed e.val = some d) ∧ (s.hk.due = []) ∧ (s.air ≤ d + 64) ∧ ∃ c : HkRun,
      (s.hk.running = some c) ∧ (c.kind ≠ 0)) ∧
    (∃ s : State, (s.domOn pdCtl = true) ∧ (s.hk.guards = []) ∧ (s.hk.running = none) ∧ (s.hk.due = []) ∧ (s.hk.lop4 = none)) ∧
    (∃ s : State, (s.domOn pdCtl = true) ∧ (s.hk.guards = []) ∧ (s.hk.running ≠ none)) ∧
    (∃ q : Requester, ∃ s : State, (s.passes q Reg.HK_URG true) ∧ (s.hk.running = none)) ∧
    (∃ q : Requester, ∃ s : State, (s.passes q Reg.HK_URG true) ∧ (s.hk.running ≠ none)) ∧
    (∃ q : Requester, ∃ s : State, ∃ n : Option (Fin 64), ∃ a : Nat, (a = (match n with | some e => Reg.HK_LISTn e.val | none => Reg.HK_CTRL)) ∧
      (s.passes q a true) ∧ (s.hk.running ≠ none)) ∧
    (∃ q : Requester, ∃ s : State, (s.passes q Reg.HK_PORT false)) ∧
    (∃ s : State, ∃ off : Bool, ∃ r : HkRun, (s.hk.running = some r) ∧ ∃ o,
      (o = (if r.ch < 8 then !s.domOn (pdPg r.ch) else decide (r.ch < 20) && off)) ∧ (r.lop4 = false ∧ r.ch < 32 ∧ s.hk.due = [] ∧ s.hk.lop4 = none ∧
      s.hk.guards = [] ∧ s.fld Fld.HK_CTRL_LEN = 0 ∧ (∀ g < 8, s.fld (Fld.LIN_PGg_COMP_SRC_TSRC g) ≠ r.ch ∧
      s.fld (Fld.LIN_PGg_COMP_SRC_VSRC g) ≠ r.ch) ∧ (s.on Fld.HK_CTRL_PORT_EN = false ∨ s.hk.fifo.length < 32)) ∧ (10 ≤ r.ch ∨ o = true)) ∧
    (∃ s : State, ∃ scaled : BitVec 24, ∃ off : Bool, ∃ r : HkRun, (s.hk.running = some r) ∧ ∃ o,
      (o = (if r.ch < 8 then !s.domOn (pdPg r.ch) else decide (r.ch < 20) && off)) ∧ (r.lop4 = false ∧ r.ch < 32 ∧ s.hk.due = [] ∧ s.hk.lop4 = none ∧
      s.hk.guards = [] ∧ s.fld Fld.HK_CTRL_LEN = 0 ∧ (∀ g < 8, s.fld (Fld.LIN_PGg_COMP_SRC_TSRC g) ≠ r.ch ∧
      s.fld (Fld.LIN_PGg_COMP_SRC_VSRC g) ≠ r.ch) ∧ (s.on Fld.HK_CTRL_PORT_EN = false ∨ s.hk.fifo.length < 32)) ∧ (r.ch < 10) ∧ (o = false) ∧ ∃ z,
      (z = sext 24 scaled.toNat) ∧ (s.raiseRoom 1) ∧ (16 * sext 8 (s.fld Fld.HK_THERM_CFG_WARN) ≤ z) ∧
      (z < 16 * sext 8 (s.fld Fld.HK_THERM_CFG_HOT)) ∧ (z < 2000) ∧ (bitOf (s.fld Fld.HK_THERM_STATUS_WARN) r.ch = false) ∧
      (bitOf (s.fld Fld.HK_THERM_STATUS_HOT) r.ch = false)) ∧
    (∃ s : State, ∃ scaled : BitVec 24, ∃ off : Bool, ∃ r : HkRun, (s.hk.running = some r) ∧ ∃ o,
      (o = (if r.ch < 8 then !s.domOn (pdPg r.ch) else decide (r.ch < 20) && off)) ∧ (r.lop4 = false ∧ r.ch < 32 ∧ s.hk.due = [] ∧ s.hk.lop4 = none ∧
      s.hk.guards = [] ∧ s.fld Fld.HK_CTRL_LEN = 0 ∧ (∀ g < 8, s.fld (Fld.LIN_PGg_COMP_SRC_TSRC g) ≠ r.ch ∧
      s.fld (Fld.LIN_PGg_COMP_SRC_VSRC g) ≠ r.ch) ∧ (s.on Fld.HK_CTRL_PORT_EN = false ∨ s.hk.fifo.length < 32)) ∧ (r.ch < 10) ∧ (o = false) ∧ ∃ z,
      (z = sext 24 scaled.toNat) ∧ (s.raiseRoom 1) ∧ (2000 ≤ z) ∧ (s.pwr.tripped = false)) ∧
    (∃ s : State, (s.rd (Reg.HK_SCALEi 3) = 0x14140A3D#32) ∧ (s.fld (Fld.HK_CALi_W0_OFFSET 3) = 0) ∧ (s.fld (Fld.HK_CALi_W1_GAIN 3) = 2 ^ 22)) ∧
    (∃ q : Requester, ∃ s : State, (s.passes q Reg.HK_SYSCAL_CTRL true) ∧ (s.lopBusy 4 = true)) ∧
    (∃ q : Requester, ∃ w : Word, ∃ s : State, (s.passes q Reg.HK_SYSCAL_CTRL true) ∧ ∃ i, ∃ v, (i = Fld.HK_SYSCAL_CTRL_IDX.of w) ∧
      (v = Fld.HK_SYSCAL_CTRL_WIN.of w) ∧ (s.lopBusy 4 = false) ∧ (i ≤ 11) ∧ (v < 6) ∧ (Fld.HK_SYSCAL_CTRL_STEP.of w = 0) ∧ (s.hk.running = none) ∧
      (s.hk.due = [])) ∧
    (∃ s : State, ∃ r : HkRun, ∃ c : SysCal, (s.hk.running = some r) ∧ (r.lop4 = true) ∧ (20 ≤ r.ch) ∧ (s.hk.lop4 = some c) ∧ (c.full = false) ∧
      (c.codes.length = 15) ∧ (∀ x ∈ c.codes, x < 2 ^ 24) ∧ (s.raiseRoom 1) ∧ (s.on Fld.HK_CTRL_PORT_EN = false ∨ s.hk.fifo.length < 32) ∧
      (c.idx < 12)) ∧
    (∃ s : State, ∃ e : EventRec, ∃ es : List EventRec, (s.raise = e :: es) ∧ (e.code < 256) ∧ (s.codeBit Reg.EVT_ENk e.code = false)) ∧
    (∃ s : State, ∃ e : EventRec, ∃ es : List EventRec, (s.raise = e :: es) ∧ (e.code < 256) ∧ (s.codeBit Reg.EVT_ENk e.code = true) ∧
      (s.codeBit Reg.EVT_RT_PKTk e.code = false ∨ s.linkIs lnkActive = false)) ∧
    (∃ q : Requester, ∃ s : State, (s.passes q Reg.EVT_CTRL true)) :=
  ⟨⟨hk1, 2, 50, by decide +kernel⟩,
   ⟨hk2, 2, 50, by decide +kernel, by decide +kernel, by decide +kernel, { kind := 0, ch := 23, win := 3, entry := 2, lop4 := false },
     by decide +kernel⟩,
   ⟨hk3, 2, 50, by decide +kernel, by decide +kernel, by decide +kernel, { kind := 3, ch := 4, win := 3, entry := 2, lop4 := false },
     by decide +kernel⟩,
   ⟨b16, by decide +kernel⟩,
   ⟨hk2, by decide +kernel⟩,
   ⟨.dean, b16, by unfold State.passes State.inTurn; decide +kernel⟩,
   ⟨.dean, hk2, by unfold State.passes State.inTurn; decide +kernel⟩,
   ⟨.dean, hk2, none, _, rfl, by unfold State.passes State.inTurn; decide +kernel⟩,
   ⟨.dean, b16, by unfold State.passes State.inTurn; decide +kernel⟩,
   ⟨hk2, false, { kind := 0, ch := 23, win := 3, entry := 2, lop4 := false }, by decide +kernel, _, rfl, by decide +kernel⟩,
   ⟨hk6, 0x000690#24, false, { kind := 3, ch := 8, win := 3, entry := 2, lop4 := false }, by decide +kernel, _, rfl, by decide +kernel,
     by decide +kernel, by decide +kernel, _, rfl, by unfold State.raiseRoom; decide +kernel⟩,
   ⟨hk6, 0x000834#24, false, { kind := 3, ch := 8, win := 3, entry := 2, lop4 := false }, by decide +kernel, _, rfl, by decide +kernel,
     by decide +kernel, by decide +kernel, _, rfl, by unfold State.raiseRoom; decide +kernel⟩,
   ⟨b16, by decide +kernel⟩,
   ⟨.dean, hk9, by unfold State.passes State.inTurn; decide +kernel⟩,
   ⟨.dean, 0x00000000#32, b16, by unfold State.passes State.inTurn; decide +kernel, _, _, rfl, rfl, by decide +kernel⟩,
   ⟨hk10, { kind := 3, ch := 23, win := 3, entry := 0, lop4 := true }, { idx := 3, full := false, win := 3, codes := (List.replicate 15 7) },
     by unfold State.raiseRoom; decide +kernel⟩,
   ⟨hk12, { code := 69, info := 0x00000007#32, air := 9 }, [], by decide +kernel⟩,
   ⟨hk11, { code := 69, info := 0x00000007#32, air := 9 }, [], by decide +kernel⟩,
   ⟨.dean, b16, by unfold State.passes State.inTurn; decide +kernel⟩⟩

theorem witness_PowerRequestsAndEntries :
    (∃ q : Requester, ∃ w : Word, ∃ so : Fin 8, ∃ s : State, ∃ e : Instr × Nat, (e ∈ [(.requestActive q w so, 0), (.requestNap q w so, 1),
      (.requestLightSleep q w so, 2), (.requestDeepSleep q w so, 3), (.requestBellWatch q w so, 4)]) ∧ ∃ off,
      (off = (if e.2 = 1 then Fld.PWR_REQ_PG_OFF.of w &&& s.fitted else 0)) ∧ ∃ tg, (tg = (if e.2 = 1 ∧ off = 0 then 0 else e.2)) ∧ ∃ rc,
      (rc = (requesterPower q).getD 15) ∧ (s.passes q Reg.PWR_REQ true ∧ rc ≠ 15 ∧ s.detained = false ∧ s.pwr.tripped = false) ∧
      (s.pwr.trans = none) ∧ ((s.pwr.base = some 0 ∧ tg ≤ 1 ∧ off = without s.fitted s.groupsOn) ∨ (s.pwr.base = some tg ∧ 2 ≤ tg))) ∧
    (∃ q : Requester, ∃ w : Word, ∃ so : Fin 8, ∃ s : State, ∃ u, (u = s.setSources so.val) ∧ ∃ e : Instr × Nat, (e ∈ [(.requestActive q w so, 0),
      (.requestNap q w so, 1), (.requestLightSleep q w so, 2), (.requestDeepSleep q w so, 3), (.requestBellWatch q w so, 4)]) ∧ ∃ off,
      (off = (if e.2 = 1 then Fld.PWR_REQ_PG_OFF.of w &&& s.fitted else 0)) ∧ ∃ tg, (tg = (if e.2 = 1 ∧ off = 0 then 0 else e.2)) ∧ ∃ rc,
      (rc = (requesterPower q).getD 15) ∧ ∃ r : PwrRequest, (r = ⟨tg, rc, off⟩) ∧ (s.passes q Reg.PWR_REQ true ∧ rc ≠ 15 ∧ s.detained = false ∧
      s.pwr.tripped = false) ∧ (s.pwr.trans = none) ∧ (s.pwr.base = some 0) ∧ (¬(tg ≤ 1 ∧ off = without s.fitted s.groupsOn)) ∧
      (u.powerCheck r = none) ∧ (2 ≤ tg ∨ (off &&& s.groupsOn) ≠ 0) ∧ (s.raiseRoom 1)) ∧
    (∃ q : Requester, ∃ w : Word, ∃ so : Fin 8, ∃ s : State, ∃ u, (u = s.setSources so.val) ∧ ∃ e : Instr × Nat, (e ∈ [(.requestActive q w so, 0),
      (.requestNap q w so, 1), (.requestLightSleep q w so, 2), (.requestDeepSleep q w so, 3), (.requestBellWatch q w so, 4)]) ∧ ∃ off,
      (off = (if e.2 = 1 then Fld.PWR_REQ_PG_OFF.of w &&& s.fitted else 0)) ∧ ∃ tg, (tg = (if e.2 = 1 ∧ off = 0 then 0 else e.2)) ∧ ∃ rc,
      (rc = (requesterPower q).getD 15) ∧ ∃ r : PwrRequest, (r = ⟨tg, rc, off⟩) ∧ (s.passes q Reg.PWR_REQ true ∧ rc ≠ 15 ∧ s.detained = false ∧
      s.pwr.tripped = false) ∧ (s.pwr.trans = none) ∧ (s.pwr.base = some 0) ∧ (¬(tg ≤ 1 ∧ off = without s.fitted s.groupsOn)) ∧
      (u.powerCheck r = none) ∧ ∃ up, (up = without (without s.fitted off) s.groupsOn) ∧ (tg ≤ 1) ∧ ((off &&& s.groupsOn) = 0) ∧ (up ≠ 0)) ∧
    (∃ q : Requester, ∃ w : Word, ∃ so : Fin 8, ∃ s : State, ∃ u, (u = s.setSources so.val) ∧ ∃ e : Instr × Nat, (e ∈ [(.requestActive q w so, 0),
      (.requestNap q w so, 1), (.requestLightSleep q w so, 2), (.requestDeepSleep q w so, 3), (.requestBellWatch q w so, 4)]) ∧ ∃ off,
      (off = (if e.2 = 1 then Fld.PWR_REQ_PG_OFF.of w &&& s.fitted else 0)) ∧ ∃ tg, (tg = (if e.2 = 1 ∧ off = 0 then 0 else e.2)) ∧ ∃ rc,
      (rc = (requesterPower q).getD 15) ∧ ∃ r : PwrRequest, (r = ⟨tg, rc, off⟩) ∧ (s.passes q Reg.PWR_REQ true ∧ rc ≠ 15 ∧ s.detained = false ∧
      s.pwr.tripped = false) ∧ (s.pwr.trans = none) ∧ (s.pwr.base = some 0) ∧ (¬(tg ≤ 1 ∧ off = without s.fitted s.groupsOn)) ∧ ∃ c,
      (u.powerCheck r = some c) ∧ (s.raiseRoom 1)) ∧
    (∃ q : Requester, ∃ w : Word, ∃ so : Fin 8, ∃ s : State, ∃ e : Instr × Nat, (e ∈ [(.requestActive q w so, 0), (.requestNap q w so, 1),
      (.requestLightSleep q w so, 2), (.requestDeepSleep q w so, 3), (.requestBellWatch q w so, 4)]) ∧ ∃ off,
      (off = (if e.2 = 1 then Fld.PWR_REQ_PG_OFF.of w &&& s.fitted else 0)) ∧ ∃ tg, (tg = (if e.2 = 1 ∧ off = 0 then 0 else e.2)) ∧ ∃ rc,
      (rc = (requesterPower q).getD 15) ∧ (s.passes q Reg.PWR_REQ true ∧ rc ≠ 15 ∧ s.detained = false ∧ s.pwr.tripped = false) ∧ ∃ x,
      (s.pwr.trans = some x) ∧ (x.req.target ≠ tg ∨ x.req.off ≠ off) ∧ (s.raiseRoom 1)) ∧
    (∃ q : Requester, ∃ w : Word, ∃ so : Fin 8, ∃ s : State, ∃ e : Instr × Nat, (e ∈ [(.requestActive q w so, 0), (.requestNap q w so, 1),
      (.requestLightSleep q w so, 2), (.requestDeepSleep q w so, 3), (.requestBellWatch q w so, 4)]) ∧ ∃ off,
      (off = (if e.2 = 1 then Fld.PWR_REQ_PG_OFF.of w &&& s.fitted else 0)) ∧ ∃ tg, (tg = (if e.2 = 1 ∧ off = 0 then 0 else e.2)) ∧ ∃ rc,
      (rc = (requesterPower q).getD 15) ∧ (s.passes q Reg.PWR_REQ true ∧ rc ≠ 15 ∧ s.detained = false ∧ s.pwr.tripped = false) ∧ (tg ≠ 0) ∧
      (rc ≠ 2) ∧ (s.on Fld.PWR_VETO_HOLD = true)) ∧
    (∃ q : Requester, ∃ w : Word, ∃ so : Fin 8, ∃ s : State, ∃ e : Instr × Nat, (e ∈ [(.requestActive q w so, 0), (.requestNap q w so, 1),
      (.requestLightSleep q w so, 2), (.requestDeepSleep q w so, 3), (.requestBellWatch q w so, 4)]) ∧ ∃ off,
      (off = (if e.2 = 1 then Fld.PWR_REQ_PG_OFF.of w &&& s.fitted else 0)) ∧ ∃ tg, (tg = (if e.2 = 1 ∧ off = 0 then 0 else e.2)) ∧ ∃ rc,
      (rc = (requesterPower q).getD 15) ∧ (s.passes q Reg.PWR_REQ true ∧ rc ≠ 15 ∧ s.detained = false ∧ s.pwr.tripped = false) ∧ (3 ≤ tg) ∧
      (s.rd Reg.DMA_ACTIVE ≠ 0 ∨ s.lopBusy 0 = true ∨ s.lopBusy 1 = true ∨ s.lopBusy 5 = true ∨ s.lopBusy 6 = true)) ∧
    (∃ q : Requester, ∃ w : Word, ∃ so : Fin 8, ∃ s : State, ∃ e : Instr × Nat, (e ∈ [(.requestActive q w so, 0), (.requestNap q w so, 1),
      (.requestLightSleep q w so, 2), (.requestDeepSleep q w so, 3), (.requestBellWatch q w so, 4)]) ∧ ∃ off,
      (off = (if e.2 = 1 then Fld.PWR_REQ_PG_OFF.of w &&& s.fitted else 0)) ∧ ∃ tg, (tg = (if e.2 = 1 ∧ off = 0 then 0 else e.2)) ∧ ∃ rc,
      (rc = (requesterPower q).getD 15) ∧ (s.passes q Reg.PWR_REQ true ∧ rc ≠ 15 ∧ s.detained = false ∧ s.pwr.tripped = false) ∧ (2 ≤ tg) ∧
      (bitOf so.val 0 = true) ∧ (s.on Fld.PWR_WAKE_CFG_WAKEN_EN = true)) ∧
    (∃ s : State, ∃ x, (s.pwr.trans = some x) ∧ (x.waits = true) ∧ (x.req.target = 2)) ∧
    (∃ s : State, ∃ x, (s.pwr.trans = some x) ∧ (x.waits = true) ∧ (3 ≤ x.req.target)) ∧
    (∃ s : State, ∃ x, (s.pwr.trans = some x) ∧ (x.waits = true) ∧ (x.req.target ≤ 1) ∧ ((x.req.off &&& s.groupsOn) ≠ 0) ∧
      (without (without s.fitted x.req.off) s.groupsOn = 0)) ∧
    (∃ s : State, (s.pwr.hotWaits ≠ 0) ∧ (s.pwr.trans ≠ none)) ∧
    (∃ s : State, ∃ x, (s.pwr.trans = some x) ∧ (s.pwr.slot = none) ∧ (s.boot.warmWaits = false) ∧ (x.waits = false) ∧ (s.pwr.wakes = []) ∧
      (s.pwr.quiet = true) ∧ (x.stage = 0) ∧ (s.pwr.base = some 0 ∨ s.pwr.base = some 2) ∧ (s.raiseRoom 1)) ∧
    (∃ s : State, ∃ x, (s.pwr.trans = some x) ∧ (s.pwr.slot = none) ∧ (s.boot.warmWaits = false) ∧ (x.waits = false) ∧ (s.pwr.wakes = []) ∧
      (s.pwr.quiet = true) ∧ (x.stage = 0) ∧ (s.pwr.base = some 3 ∨ s.pwr.base = some 4) ∧ (s.detained = false)) ∧
    (∃ so : Fin 8, ∃ s : State, ∃ u, (u = s.setSources so.val) ∧ ∃ n : BitVec 8, ∃ r, (r = s.ttRow (s.fld Fld.ATM_TT_CTRL_BANK) n.toNat) ∧ ∃ a,
      (a = gridFrom s.time.scs (s.air + s.tLate)) ∧ (s.time.everLocked = true ∧ s.detained = false ∧ s.pwr.tripped = false ∧ s.pwr.trans = none) ∧
      (s.pwr.base = some 0) ∧ (s.lightRow r a = true) ∧ ∃ v,
      (v = { u with pwr := { u.pwr with plannedWake := s.rowEnd r a - s.fld Fld.PWR_POLICY_LIGHT_LEAD * 12288 / 100 } }) ∧ (v.powerCheck ⟨2, 3,
      0⟩ = none)) ∧
    (∃ so : Fin 8, ∃ s : State, ∃ u, (u = s.setSources so.val) ∧ ∃ n : BitVec 8, ∃ r, (r = s.ttRow (s.fld Fld.ATM_TT_CTRL_BANK) n.toNat) ∧
      (s.time.everLocked = true ∧ s.detained = false ∧ s.pwr.tripped = false ∧ s.pwr.trans = none) ∧ (s.pwr.base = some 2) ∧
      (s.lightRow r (symbolsBefore s.time.scs r.count (gridFrom s.time.scs (s.air + s.fld Fld.PWR_POLICY_LIGHT_LEAD * 12288 / 100))) = true) ∧
      (u.powerCheck ⟨0, 3, 0⟩ = none)) ∧
    (∃ q : Requester, ∃ s : State, (s.passes q Reg.PWR_VETO true) ∧ (q = .dean)) ∧
    (∃ q : Requester, ∃ s : State, (s.passes q Reg.PWR_VETO true) ∧ (q ≠ .dean)) :=
  ⟨⟨.dean, 0x00000000#32, 0, b02, _, .head _, _, rfl, _, rfl, _, rfl, by unfold State.passes State.inTurn; decide +kernel⟩,
   ⟨.dean, 0x00000000#32, 0, b02, _, rfl, _, .tail _ (.tail _ (.head _)), _, rfl, _, rfl, _, rfl, _, rfl,
     by unfold State.passes State.inTurn State.raiseRoom; decide +kernel⟩,
   ⟨.dean, 0x00000000#32, 0, pwr1, _, rfl, _, .head _, _, rfl, _, rfl, _, rfl, _, rfl, by unfold State.passes State.inTurn; decide +kernel,
     by decide +kernel, by decide +kernel, by decide +kernel, by decide +kernel, _, rfl, by decide +kernel⟩,
   ⟨.dean, 0x00000000#32, 1, b02, _, rfl, _, .tail _ (.tail _ (.head _)), _, rfl, _, rfl, _, rfl, _, rfl,
     by unfold State.passes State.inTurn; decide +kernel, by decide +kernel, by decide +kernel, by decide +kernel, 9,
     by unfold State.raiseRoom; decide +kernel⟩,
   ⟨.dean, 0x00000000#32, 0, pwr5, _, .head _, _, rfl, _, rfl, _, rfl, by unfold State.passes State.inTurn; decide +kernel,
     { req := { target := 2, requester := 1, off := 0 }, left := 0, stage := 6, waits := true, waking := none, aborted := false, wasOff := 0, offs := 0, tick := 0 },
     by unfold State.raiseRoom; decide +kernel⟩,
   ⟨.mgq, 0x00000000#32, 0, pwr4, _, .tail _ (.tail _ (.head _)), _, rfl, _, rfl, _, rfl, by unfold State.passes State.inTurn; decide +kernel⟩,
   ⟨.dean, 0x00000000#32, 0, pwr19, _, .tail _ (.tail _ (.tail _ (.head _))), _, rfl, _, rfl, _, rfl,
     by unfold State.passes State.inTurn; decide +kernel⟩,
   ⟨.dean, 0x00000000#32, 1, b02, _, .tail _ (.tail _ (.head _)), _, rfl, _, rfl, _, rfl, by unfold State.passes State.inTurn; decide +kernel⟩,
   ⟨pwr5,
     { req := { target := 2, requester := 1, off := 0 }, left := 0, stage := 6, waits := true, waking := none, aborted := false, wasOff := 0, offs := 0, tick := 0 },
     by decide +kernel⟩,
   ⟨pwr7,
     { req := { target := 4, requester := 1, off := 0 }, left := 0, stage := 6, waits := true, waking := none, aborted := false, wasOff := 0, offs := 0, tick := 0 },
     by decide +kernel⟩,
   ⟨pwr8,
     { req := { target := 1, requester := 1, off := 2 }, left := 0, stage := 6, waits := true, waking := none, aborted := false, wasOff := 0, offs := 0, tick := 0 },
     by decide +kernel⟩,
   ⟨pwr14, by decide +kernel⟩,
   ⟨pwr9,
     { req := { target := 1, requester := 1, off := 2 }, left := 0, stage := 0, waits := false, waking := none, aborted := false, wasOff := 0, offs := 0, tick := 0 },
     by unfold State.raiseRoom; decide +kernel⟩,
   ⟨pwr12,
     { req := { target := 3, requester := 1, off := 0 }, left := 0, stage := 0, waits := false, waking := none, aborted := false, wasOff := 0, offs := 0, tick := 0 },
     by decide +kernel⟩,
   ⟨0, pwr15, _, rfl, 0x00#8, _, rfl, _, rfl, by decide +kernel, by decide +kernel, by decide +kernel, _, rfl, by decide +kernel⟩,
   ⟨0, pwr17, _, rfl, 0x00#8, _, rfl, by decide +kernel⟩,
   ⟨.dean, b02, by unfold State.passes State.inTurn; decide +kernel⟩,
   ⟨.mgq, b02, by unfold State.passes State.inTurn; decide +kernel⟩⟩

theorem witness_WakesAndSupplies :
    (∃ s : State, ∃ x, ∃ b, (s.pwr.trans = some x) ∧ (x.waking = some b) ∧ (x.aborted = false) ∧ (x.stage = 1) ∧ (s.pwr.quiet = true) ∧ (b = 3) ∧
      (s.pwr.bell = none) ∧ (s.fld Fld.PWR_BELL_COUNT_REJECT = s.pwr.rejects) ∧ (s.trimOk = true)) ∧
    (∃ s : State, ∃ x, ∃ b, (s.pwr.trans = some x) ∧ (x.waking = some b) ∧ (x.aborted = false) ∧ (x.stage = 1) ∧ (s.pwr.quiet = true) ∧ (b = 4)) ∧
    (∃ s : State, ∃ x, ∃ b, (s.pwr.trans = some x) ∧ (x.waking = some b) ∧ (x.aborted = false) ∧ (x.stage = 2)) ∧
    (∃ s : State, ∃ x, ∃ b, (s.pwr.trans = some x) ∧ (x.waking = some b) ∧ (x.aborted = false) ∧ (x.stage = 4) ∧ (s.pwr.wakes = []) ∧
      (s.pwr.quiet = true)) ∧
    (∃ s : State, ∃ x, ∃ b, (s.pwr.trans = some x) ∧ (x.waking = some b) ∧ (x.aborted = false) ∧ (x.stage = 5) ∧ (b = 2) ∧ (x.req.target ≠ 1)) ∧
    (∃ s : State, ∃ x, ∃ b, (s.pwr.trans = some x) ∧ (x.waking = some b) ∧ (x.aborted = false) ∧ (x.stage = 2 ∨ x.stage = 5) ∧ (s.pins.detain = 0) ∧
      (s.pins.refclk = true)) ∧
    (∃ s : State, ∃ x, ∃ b, (s.pwr.trans = some x) ∧ (x.waking = some b) ∧ (x.aborted = false) ∧ (x.stage = 3)) ∧
    (∃ s : State, ∃ gr : Fin 8, ∃ g, (g = gr.val) ∧ ∃ k, (k = SMap.get 0 s.pwr.wakes g) ∧ (k = 1) ∧ (s.pwr.ops = []) ∧ (s.pwr.trans ≠ none)) ∧
    (∃ s : State, ∃ gr : Fin 8, ∃ g, (g = gr.val) ∧ ∃ k, (k = SMap.get 0 s.pwr.wakes g) ∧ (k = 2) ∧ (s.loState g 0 = loLocked ∨
      s.loState g 0 = loFail) ∧ (s.loState g 1 = loLocked ∨ s.loState g 1 = loFail)) ∧
    (∃ s : State, ∃ gr : Fin 8, ∃ g, (g = gr.val) ∧ ∃ k, (k = SMap.get 0 s.pwr.wakes g) ∧ (k = 3)) ∧
    (∃ s : State, ∃ gr : Fin 8, ∃ g, (g = gr.val) ∧ ∃ k, (k = SMap.get 0 s.pwr.wakes g) ∧ (k = 4) ∧ (s.pwr.base ≠ none)) ∧
    (∃ s : State, ∃ gr : Fin 8, ∃ g, (g = gr.val) ∧ ∃ k, (k = SMap.get 0 s.pwr.wakes g) ∧ (k = 2) ∧ (s.raiseRoom 1)) ∧
    (∃ s : State, ∃ gr : Fin 8, ∃ g, (g = gr.val) ∧ ∃ k, (k = SMap.get 0 s.pwr.wakes g) ∧ (k = 3 ∨ k = 4) ∧ (s.pwr.base ≠ none) ∧ (s.raiseRoom 2)) ∧
    (∃ s : State, ∃ e : Instr × Nat × Nat × Nat, (e ∈ [ (.wakeNAssert, 5, (if s.on Fld.PWR_WAKE_CFG_WAKEN_EN then 1 else 0),
      (if s.on Fld.PWR_WAKE_CFG_WAKEN_TGT then 2 else 0)), (.qb0ClockWake, 6, (if s.on Fld.PWR_WAKE_CFG_QB0_EN then 1 else 0),
      (if s.on Fld.PWR_WAKE_CFG_QB0_TGT then 2 else 0)), (.aonTimerExpiry, 7, (if s.on Fld.PWR_WAKE_CFG_TMR_EN ∧
      s.rd Reg.PWR_AON_TMR ≠ 0 then 1 else 0), (if s.on Fld.PWR_WAKE_CFG_TMR_TGT then 2 else 0)), (.mspiCsWake, 8,
      (if s.on Fld.PWR_WAKE_CFG_CS_EN then 1 else 0), (if s.on Fld.PWR_WAKE_CFG_CS_TGT then 2 else 0))]) ∧ ∃ b, (s.pwr.base = some b) ∧ (b = 3 ∨
      b = 4) ∧ (s.detained = false ∧ s.pwr.tripped = false ∧ s.pwr.trans = none) ∧ (e.2.2.1 = 1)) ∧
    (∃ s : State, ∃ e : Instr × Nat × Nat × Nat, (e ∈ [ (.wakeNAssert, 5, (if s.on Fld.PWR_WAKE_CFG_WAKEN_EN then 1 else 0),
      (if s.on Fld.PWR_WAKE_CFG_WAKEN_TGT then 2 else 0)), (.qb0ClockWake, 6, (if s.on Fld.PWR_WAKE_CFG_QB0_EN then 1 else 0),
      (if s.on Fld.PWR_WAKE_CFG_QB0_TGT then 2 else 0)), (.aonTimerExpiry, 7, (if s.on Fld.PWR_WAKE_CFG_TMR_EN ∧
      s.rd Reg.PWR_AON_TMR ≠ 0 then 1 else 0), (if s.on Fld.PWR_WAKE_CFG_TMR_TGT then 2 else 0)), (.mspiCsWake, 8,
      (if s.on Fld.PWR_WAKE_CFG_CS_EN then 1 else 0), (if s.on Fld.PWR_WAKE_CFG_CS_TGT then 2 else 0))]) ∧ (s.pwr.base = some 0 ∨ e.2.2.1 = 0)) ∧
    (∃ s : State, ∃ bs : List Byte, (bs.length = 5) ∧ (s.bellListens = false)) ∧
    (∃ s : State, ∃ bs : List Byte, (bs.length = 5) ∧ (s.bellListens = true) ∧ (fieldAt bs 4 1 ≠ crc8 (bytesAt bs 0 4) ∨ fieldAt bs 3 1 = 0 ∨
      3 < fieldAt bs 3 1 ∨ (256 * fieldAt bs 0 1 + fieldAt bs 1 1 ≠ s.fld Fld.PWR_BELL_ADDR_ADDR ∧ 256 * fieldAt bs 0 1 + fieldAt bs 1 1 ≠ 0xFFFF))) ∧
    (∃ s : State, ∃ bs : List Byte, (bs.length = 5) ∧ (s.bellListens = true) ∧ (fieldAt bs 4 1 = crc8 (bytesAt bs 0 4)) ∧
      (256 * fieldAt bs 0 1 + fieldAt bs 1 1 = s.fld Fld.PWR_BELL_ADDR_ADDR) ∧ (fieldAt bs 3 1 = 1) ∧ (s.on Fld.PWR_BELL_CFG_PING_IRQ = true)) ∧
    (∃ s : State, ∃ as : List Nat, (as = s.pmbAddrs) ∧ (s.raiseRoom as.length)) ∧
    (∃ s : State, ∃ d : Fin 4, ∃ m : Nat, (m = s.groupsOn &&& dieGroups d.val) ∧ (s.raiseRoom 1) ∧ (m = 0)) ∧
    (∃ s : State, ∃ d : Fin 4, ∃ m : Nat, (m = s.groupsOn &&& dieGroups d.val) ∧ (s.raiseRoom 1) ∧ (m ≠ 0) ∧ (s.pwr.base ≠ none)) ∧
    (∃ q : Requester, ∃ w : Word, ∃ s : State, (s.passes q Reg.PWR_VCORE true) ∧ ∃ mv, (mv = Fld.PWR_VCORE_TARGET_MV.of w) ∧ (620 ≤ mv ∧ mv ≤ 820 ∧
      s.pwr.trans = none ∧ s.pwr.base = some 0) ∧ (s.on Fld.PWR_VCORE_BUSY = false)) ∧
    (∃ q : Requester, ∃ w : Word, ∃ s : State, (s.passes q Reg.PWR_VCORE true) ∧ ∃ mv, (mv = Fld.PWR_VCORE_TARGET_MV.of w) ∧ (620 ≤ mv ∧ mv ≤ 820 ∧
      s.pwr.trans = none ∧ s.pwr.base = some 0) ∧ (s.on Fld.PWR_VCORE_BUSY = true)) ∧
    (∃ s : State, ∃ mv : Nat, (s.pwr.again = false) ∧ (s.pwr.ops = [.avs mv false]) ∧ (s.pwr.trans = none) ∧ (s.fld Fld.BOOT_STATUS_STEP ≠ 9) ∧
      (s.raiseRoom 1)) ∧
    (∃ s : State, ∃ mv : Nat, (s.pwr.again = false) ∧ (s.pwr.ops = [.avs mv true]) ∧ (s.pwr.trans = none) ∧ (s.fld Fld.BOOT_STATUS_STEP ≠ 9) ∧
      (s.raiseRoom 1)) ∧
    (∃ q : Requester, ∃ w : Word, ∃ s : State, (s.passes q Reg.PWR_REG_CFG true) ∧ ∃ m, (m = Fld.PWR_REG_CFG_MARGIN.of w) ∧ (∀ k < 4,
      m / 4 ^ k % 4 ≠ 3)) :=
  ⟨⟨wake2,
     { req := { target := 0, requester := 5, off := 0 }, left := 3, stage := 1, waits := false, waking := some 3, aborted := false, wasOff := 0, offs := 0, tick := 0 },
     3, by decide +kernel⟩,
   ⟨wake3,
     { req := { target := 0, requester := 5, off := 0 }, left := 4, stage := 1, waits := false, waking := some 4, aborted := false, wasOff := 0, offs := 0, tick := 0 },
     4, by decide +kernel⟩,
   ⟨wake4,
     { req := { target := 0, requester := 5, off := 0 }, left := 3, stage := 2, waits := false, waking := some 3, aborted := false, wasOff := 0, offs := 0, tick := 0 },
     3, by decide +kernel⟩,
   ⟨wake6,
     { req := { target := 0, requester := 5, off := 0 }, left := 3, stage := 4, waits := false, waking := some 3, aborted := false, wasOff := 0, offs := 0, tick := 0 },
     3, by decide +kernel⟩,
   ⟨wake7,
     { req := { target := 0, requester := 5, off := 0 }, left := 2, stage := 5, waits := false, waking := some 2, aborted := false, wasOff := 0, offs := 0, tick := 0 },
     2, by decide +kernel⟩,
   ⟨wake4,
     { req := { target := 0, requester := 5, off := 0 }, left := 3, stage := 2, waits := false, waking := some 3, aborted := false, wasOff := 0, offs := 0, tick := 0 },
     3, by decide +kernel⟩,
   ⟨wake5,
     { req := { target := 0, requester := 5, off := 0 }, left := 3, stage := 3, waits := false, waking := some 3, aborted := false, wasOff := 0, offs := 0, tick := 0 },
     3, by decide +kernel⟩,
   ⟨wake9, 1, _, rfl, _, rfl, by decide +kernel⟩,
   ⟨wake11, 1, _, rfl, _, rfl, by decide +kernel⟩,
   ⟨wake12, 1, _, rfl, _, rfl, by decide +kernel⟩,
   ⟨wake13, 1, _, rfl, _, rfl, by decide +kernel⟩,
   ⟨wake10, 1, _, rfl, _, rfl, by unfold State.raiseRoom; decide +kernel⟩,
   ⟨wake12, 1, _, rfl, _, rfl, by unfold State.raiseRoom; decide +kernel⟩,
   ⟨wake14, _, .head _, 3, by decide +kernel⟩,
   ⟨wake0, _, .head _, by decide +kernel⟩,
   ⟨wake0, [0x01#8, 0x23#8, 0x05#8, 0x01#8, 0xae#8], by decide +kernel⟩,
   ⟨wake3, [0x01#8, 0x23#8, 0x05#8, 0x01#8, 0xae#8], by decide +kernel⟩,
   ⟨wake18, [0x01#8, 0x23#8, 0x05#8, 0x01#8, 0xae#8], by decide +kernel⟩,
   ⟨wake0, _, rfl, by unfold State.raiseRoom; decide +kernel⟩,
   ⟨wake0, 0, _, rfl, by unfold State.raiseRoom; decide +kernel⟩,
   ⟨b02, 0, _, rfl, by unfold State.raiseRoom; decide +kernel⟩,
   ⟨.dean, 0x000002bc#32, wake0, by unfold State.passes State.inTurn; decide +kernel, _, rfl, by decide +kernel⟩,
   ⟨.dean, 0x000002bc#32, wake21, by unfold State.passes State.inTurn; decide +kernel, _, rfl, by decide +kernel⟩,
   ⟨wake22, 700, by unfold State.raiseRoom; decide +kernel⟩,
   ⟨wake23, 700, by unfold State.raiseRoom; decide +kernel⟩,
   ⟨.dean, 0x00000000#32, wake0, by unfold State.passes State.inTurn; decide +kernel, _, rfl, by decide +kernel⟩⟩

theorem witness_EveryStepKeepsTheMemoriesAndTheBlownFuses :
    (∃ s : State, ∃ t : State, (Machine.step s = .next t) ∧ (s.memoriesCanonical = true)) ∧
    (∃ s : State, ∃ t : State, (Machine.step s = .next t) ∧ ∃ w, ∃ i, ((s.fuse w).getLsbD i = true)) :=
  ⟨⟨State.reset, _, rfl, by decide +kernel⟩,
   ⟨{ State.reset with fuses := [(2, 1)] }, _, rfl, 2, 0, by decide +kernel⟩⟩

theorem witness_TheResetStateAndAnIdleStep :
    ∃ s : State, (s.pending = []) :=
  ⟨base, by decide +kernel⟩

/-! ### Ill-formed commands are refused -/

theorem test_packet_without_header : ([.dldReceive 0 false false [1], .secReceive 0 false false [], .wgtReceive 0 false false [4],
    .timReceive 0 false false (List.replicate 15 0) 0, .mgqReceive 0 false false [], .crdReceive 0 false false [1, 2],
    .capReceive 0 false false [0x41], .lbkReceive 0 false false [0x7F]] : List Instr).all (fun c => !c.wellFormed) = true := by decide

theorem test_journal_record_of_63_bytes :
    Instr.wellFormed (.journalRecordReadback (some (List.replicate 63 0))) = false ∧ Instr.wellFormed (.journalRecordReadback none) = true := by
  decide

theorem test_frame_of_16_bytes_is_no_abort : Instr.wellFormed (.mspiFrameAbort (List.replicate 16 0) false ⟨0, true⟩) = false := by decide

theorem test_results_of_the_wrong_length : ([.testEnd 0 (List.replicate 21 0) 0, .lop9UnitEnd (List.replicate 63 0), .orxCaptureEnd 0 [],
    .lop0End [], .lop1UnitEnd (List.replicate 35 0) [], .lop1UnitEnd [] (List.replicate 144 0),
    .bellWord [1, 2, 3, 4], .timetableSymbol [[]]] : List Instr).all (fun c => !c.wellFormed) = true := by decide

theorem test_a_path_named_twice : ([.downlinkFetch 0 [] [⟨3, false, false, false⟩, ⟨3, true, false, false⟩], .uplinkPacketBuild 0 [3, 3] [],
    .uplinkPacketBuild 0 [] [5, 5], .sbSymbolEnd [(7, 0), (7, 1)] none] : List Instr).all (fun c => !c.wellFormed) = true := by decide

/-! ### Worked values of the spec -/

/-- R28: the read of DEV_ID and its response. -/
theorem test_mspi_crc : crc8 (frameHead 0x5A 0) = 0x27 ∧ crc8 [0x11, 0x01, 0x0B, 0x64, 0x64] = 0x30 := by decide

/-- R84: RB_THERMO 0x1F counts 5, and ADVANCE_RB to 7 blows bits 5 and 6. -/
theorem test_rollback : { State.reset with fuses := [(160, 0x1F)] }.rbCount = 5 ∧
    { State.reset with fuses := [(160, 0x1F)] }.rbBits 7 = 0x60 := by decide +kernel

/-- R111: with QB1 lane 6 dead the bundle runs at 4 lanes, code 2. -/
theorem test_width_without_lane_six : bestWidth 0 (fun l => l != 6) = 2 := by decide

/-- R133: a WGT of three records takes 4 credits, one of 31 records 32. -/
theorem test_credits : creditsOf 784 = 4 ∧ creditsOf 8064 = 32 := by decide

/-- R188: 512.13.7 at 30 kHz. -/
theorem test_air_time : airOf 1 512 (14 * 13 + 7) = 0x258CA820 := by decide

/-- R229: I0 −173 and Q0 90 with exponent 4 and MANT 9. -/
theorem test_block_floating_point :
    (decompress 9 ([0x04, 0x53, 0xB5] ++ List.replicate 25 0)).head? = some (-2768, 1440) := by decide

/-- R256: E of an amplitude of 0.1 with WIN_LOG2 12 is −20.00 dBFS. -/
theorem test_rssi_level : dbCode 2748780544 (2 ^ 38) = 80 := by decide +kernel

/-- R297: LEVEL 150 and PAPR 80 give 0.4466…. -/
theorem test_cfr_threshold : 10000 * cfrThreshold 80 150 / one60 = 4466 := by decide +kernel

/-- R301: 60 °C above T0 and 10 mV below V0 give 2.4223 dB. -/
theorem test_compensation : (ons base [(Fld.LIN_COMPb_W0_KT1 0, 41), (Fld.LIN_COMPb_W1_KV 0, 2 ^ 16 - 131), (Fld.LIN_COMPb_W2_T0 0, 400),
    (Fld.LIN_COMPb_W2_V0 0, 1200)]).compOf 2 1360 1190 = 121 := by decide +kernel

/-- R308: the subband PRBs 116 to 163 of a 273-PRB carrier at 30 kHz are centred 1.245 MHz above its centre. -/
theorem test_subband_nco : (Plan.mk 0 3 false 120 40 4 4).nco ⟨true, 255, 1, 0, 1, 273, 0, 0, false, 0⟩ = 0x00530000 := by decide

/-- R347: P13, 47.19 sixty-fourths late, 0.8 dB weak and 35° behind. -/
theorem test_array_correction : toCode 10 (delayCode (4719 * 2 ^ 16 / 100)) = 0x3D1 ∧
    corrCode (89820 * 2 ^ 30 / 100000) (62893 * 2 ^ 30 / 100000) = 0x2840397C#32 := by decide

/-- R350: sequences in a forced slot at 30 kHz and at 120 kHz. -/
theorem test_forced_sequences : slotSequences 1 0 false = 6 ∧ slotSequences 3 0 false = 1 := by decide

/-- R393: HKIN3 at 0.9 V reads 2,000 mA with the word 0x1414_0A3D. -/
theorem test_hkin_scale :
    ((ons base [(Fld.HK_CALi_W0_OFFSET 3, 0), (Fld.HK_CALi_W1_GAIN 3, 2 ^ 22)]).wr (Reg.HK_SCALEi 3) 0x14140A3D#32).hkScale 3 0xC00000 = 2000 := by
  decide +kernel

/-- R429: WAKE_N in the AON tick in which MSPI_CS_N began a wake to ACTIVE: the wake is WAKE_N's. -/
theorem test_wake_tie : (match execWakeNAssert (wt (on (bs2 b02 3) Fld.PWR_WAKE_CFG_WAKEN_EN 1) ⟨⟨0, 8, 0⟩, 3, 1, false, some 3, false, 0, 0, 0⟩) with
  | .next t => t.pwr.trans.map (fun x => x.req.requester) == some 5 && t.pwr.slot.isNone
  | _ => false) = true := by decide +kernel

/-- R434: the wake word of device 0x0123 in group 5, and the same word with a wrong CRC. -/
theorem test_bell_word : (on base Fld.PWR_BELL_ADDR_ADDR 0x0123).bellMatch [0x01, 0x23, 0x05, 0x02, 0xA7] = some false ∧
    (on base Fld.PWR_BELL_ADDR_ADDR 0x0123).bellMatch [0x01, 0x23, 0x05, 0x02, 0xA6] = none := by decide +kernel

end Sys2Proof.Tests
end

/-!
The verdicts of the fabric (R477): one lemma per status that `State.judge` can answer, then the order of the statuses.
-/

namespace Sys2Proof.Machine

section Verdicts

variable {s : State} {q : Requester} {a d : Nat} {w : Bool}

theorem State.judge_of_unmapped (h : domainOf a = none) : s.judge q a w = stAddrErr := by
  simp only [State.judge, h]

/-- What decides the verdict on a mapped address; the verdicts on such an address below all go through it. -/
theorem State.judge_of_mapped (h : domainOf a = some d) :
    s.judge q a w =
      if a % 4 ≠ 0 then stAddrErr
      else if s.forbidden q a w then stDenied
      else if !s.domOn d then stDomainOff
      else if decide (storeBase ≤ a) && !s.bankPowered (bankOf a) then stDomainOff
      else stOk := by
  simp only [State.judge, h]

/-- Misalignment comes first, on a mapped address and on an unmapped one. -/
theorem State.judge_of_misaligned (h : a % 4 ≠ 0) : s.judge q a w = stAddrErr := by
  cases hd : domainOf a with
  | none => exact State.judge_of_unmapped hd
  | some d => rw [State.judge_of_mapped hd, if_pos h]

theorem State.judge_of_forbidden (hd : domainOf a = some d) (ha : a % 4 = 0) (hf : s.forbidden q a w = true) :
    s.judge q a w = stDenied := by
  rw [State.judge_of_mapped hd, if_neg (not_not_intro ha), if_pos hf]

/-- On an allowed access only the power of the domain and of the store bank is left to judge. -/
theorem State.judge_of_allowed (hd : domainOf a = some d) (ha : a % 4 = 0) (hf : s.forbidden q a w = false) :
    s.judge q a w =
      if s.domOn d = false ∨ (storeBase ≤ a ∧ s.bankPowered (bankOf a) = false) then stDomainOff else stOk := by
  rw [State.judge_of_mapped hd, if_neg (not_not_intro ha), if_neg (Bool.eq_false_iff.mp hf)]
  cases hon : s.domOn d with
  | false => simp
  | true => simp

theorem State.judge_of_unpowered (hd : domainOf a = some d) (ha : a % 4 = 0) (hf : s.forbidden q a w = false)
    (hoff : s.domOn d = false ∨ (storeBase ≤ a ∧ s.bankPowered (bankOf a) = false)) :
    s.judge q a w = stDomainOff := by
  rw [State.judge_of_allowed hd ha hf, if_pos hoff]

theorem State.judge_of_powered (hd : domainOf a = some d) (ha : a % 4 = 0) (hf : s.forbidden q a w = false)
    (hon : s.domOn d = true) (hbank : a < storeBase ∨ s.bankPowered (bankOf a) = true) :
    s.judge q a w = stOk := by
  have powered : ¬ (s.domOn d = false ∨ (storeBase ≤ a ∧ s.bankPowered (bankOf a) = false)) := by
    rintro (hoff | ⟨hstore, hoff⟩)
    · simp [hon] at hoff
    · rcases hbank with hbelow | hpow
      · omega
      · simp [hpow] at hoff
  rw [State.judge_of_allowed hd ha hf, if_neg powered]

end Verdicts

/-- Settles O18: each clause is the lemma of its status; ADDR_ERR has two grounds, an unmapped address and a misaligned one. -/
theorem theFabricJudgesInOrder : Obligations.TheFabricJudgesInOrder := by
  intro s q a w
  refine ⟨?addrErr, fun d hd ha => ⟨State.judge_of_forbidden hd ha, fun hf =>
    ⟨State.judge_of_unpowered hd ha hf, State.judge_of_powered hd ha hf⟩⟩⟩
  case addrErr =>
    rintro (hunmapped | hmisaligned)
    · exact State.judge_of_unmapped hunmapped
    · exact State.judge_of_misaligned hmisaligned

end Sys2Proof.Machine

/-!
What a cold reset and the entry into Detention mode leave (R60, R66, R440): the registers that each of their stages leaves
alone, what stands beside the registers, then Detention mode forced by DETAIN_N.
-/

namespace Sys2Proof.Machine

section Detention

variable (s : State) {a : Nat}

/-! ### Registers after a reset (R440) -/

theorem State.fld_congr {s t : State} {f : Fld} (h : t.rd f.addr = s.rd f.addr) : t.fld f = s.fld f := by
  simp only [State.fld, h]

/-- A write of one register leaves the others, whatever word each of them has by default. -/
theorem SMap.get_set_ne_default {α : Type} [DecidableEq α] (d d' : α) (m : SMap α) {k j : Nat} (v : α) (h : j ≠ k) :
    SMap.get d (SMap.set d' m k v) j = SMap.get d m j := by
  by_cases hv : v = d'
  · simp [SMap.get, SMap.set, hv, SMap.find_erase_ne m h]
  · simp [SMap.get, SMap.set, hv, SMap.find_insert_ne _ _ h, SMap.find_erase_ne m h]

/-- The bits of the cleared classes get their reset value, and the other bits of a register stay (R440). -/
theorem get_resetRegs (ks : Nat → List Keep) (m : SMap Word) (a : Nat) :
    SMap.get (resetWord a) (resetRegs ks m) a =
      (SMap.get (resetWord a) m a &&& ~~~keepMask (ks a) a) ||| (resetWord a &&& keepMask (ks a) a) := by
  induction m with
  | nil =>
    change resetWord a = (resetWord a &&& ~~~keepMask (ks a) a) ||| (resetWord a &&& keepMask (ks a) a)
    rw [← BitVec.and_or_distrib_left, BitVec.or_comm, BitVec.or_not_self, BitVec.and_allOnes]
  | cons p m ih =>
    obtain ⟨b, v⟩ := p
    change SMap.get _ (SMap.set (resetWord b) (resetRegs ks m) b _) a = _
    by_cases h : a = b
    · subst h
      rw [SMap.get_set_same]
      simp [SMap.get, SMap.find]
    · rw [SMap.get_set_ne_default _ _ _ _ h, ih]
      simp [SMap.get, SMap.find, Ne.symm h]

/-- A reset leaves a register that has no field of the cleared classes. -/
theorem State.rd_of_resetRegs {s t : State} {ks : Nat → List Keep} (hr : t.regs = resetRegs ks s.regs)
    (hk : keepMask (ks a) a = 0) : t.rd a = s.rd a := by
  simp only [State.rd, hr, get_resetRegs, hk, BitVec.ofNat_eq_ofNat, BitVec.not_zero, BitVec.and_allOnes, BitVec.and_zero,
    BitVec.or_zero]

/-- No reset but POR clears the attempt counter (R60, R440). -/
theorem keepMask_bootAttempts {k : ResetKind} (hk : k ≠ .por) : keepMask (clearedBy k) Reg.BOOT_ATTEMPTS = 0 := by
  cases k with
  | por => exact absurd rfl hk
  | pin => decide
  | soft => decide
  | watchdog => decide
  | warm => decide

/-! ### Loads outside the BOOT registers -/

/-- What `g` reads of a state is changed neither by a load of a register outside the BOOT block nor by an event, nor by the
start and power sequencers as long as the kind of the reset stays. -/
structure UnmovedByLoads {γ : Type} (g : State → γ) : Prop where
  wr : ∀ (t : State) (b : Nat) (w : Word), b < 0x10000 ∨ 0x20000 ≤ b → g (t.wr b w) = g t
  raise : ∀ (t : State) (r : List EventRec), g { t with raise := r } = g t
  sequencers : ∀ (t : State) (b : BootState) (p : PwrState), b.kind = t.boot.kind → g { t with boot := b, pwr := p } = g t

theorem unmovedByLoads_bootReg (hlo : 0x10000 ≤ a) (hhi : a < 0x20000) : UnmovedByLoads (fun t => t.rd a) where
  wr _ _ _ h := State.rd_wr_ne _ _ (by omega)
  raise _ _ := rfl
  sequencers _ _ _ _ := rfl

theorem unmovedByLoads_kind : UnmovedByLoads (fun t => t.boot.kind) where
  wr _ _ _ _ := rfl
  raise _ _ := rfl
  sequencers _ _ _ h := h

theorem unmovedByLoads_domains : UnmovedByLoads State.domains := ⟨fun _ _ _ _ => rfl, fun _ _ => rfl, fun _ _ _ _ => rfl⟩

theorem unmovedByLoads_pins : UnmovedByLoads State.pins := ⟨fun _ _ _ _ => rfl, fun _ _ => rfl, fun _ _ _ _ => rfl⟩

theorem unmovedByLoads_blocksEmpty : UnmovedByLoads State.blocksEmpty :=
  ⟨fun _ _ _ _ => rfl, fun _ _ => rfl, fun _ _ _ _ => rfl⟩

/-- A journal record that Proctor appends changes the start sequencer alone, and not the kind of its reset (R59). -/
theorem State.journalPut_keeps {γ : Type} {g : State → γ}
    (h : ∀ (t : State) (b : BootState), b.kind = t.boot.kind → g { t with boot := b } = g t) (r : JournalReq) : g (s.journalPut r) = g s := by
  have kick (t : State) : g t.journalKick = g t := by
    unfold State.journalKick
    split
    · dsimp only
      split
      · exact h t _ rfl
      · exact h t _ rfl
    · rfl
  exact (kick _).trans (h s _ rfl)

/-- No work is left in the blocks that act by themselves, as after any cold reset. -/
def State.activityStopped (t : State) : Prop :=
  t.store = [] ∧ t.queues = [] ∧ t.dma = [] ∧ t.cores = [] ∧ t.flashOps = [] ∧ t.air = 0

theorem State.blocksEmpty.activityStopped {t : State} (h : t.blocksEmpty) : t.activityStopped := by
  obtain ⟨-, store, -, air, queues, dma, flashOps, cores, -⟩ := h
  exact ⟨store, queues, dma, cores, flashOps, air⟩

theorem unmovedByLoads_activityStopped : UnmovedByLoads State.activityStopped :=
  ⟨fun _ _ _ _ => rfl, fun _ _ => rfl, fun _ _ _ _ => rfl⟩

section Loads

variable {γ : Type} {g : State → γ} (hg : UnmovedByLoads g)
include hg

theorem UnmovedByLoads.setFld (f : Fld) (v : Nat) (h : f.addr < 0x10000 ∨ 0x20000 ≤ f.addr) : g (s.setFld f v) = g s :=
  hg.wr s _ _ h

theorem UnmovedByLoads.event (code info : Nat) : g (s.event code info) = g s := by
  unfold State.event
  split
  · rfl
  · split
    · exact hg.raise s _
    · exact hg.setFld s _ _ (by decide)

theorem UnmovedByLoads.showPower : g s.showPower = g s := by
  rw [State.showPower, hg.setFld _ _ _ (by decide), hg.wr _ _ _ (by decide)]

theorem UnmovedByLoads.senseFuses : g s.senseFuses = g s := by
  rw [State.senseFuses, hg.setFld _ _ _ (by decide), hg.setFld _ _ _ (by decide), hg.setFld _ _ _ (by decide)]

theorem UnmovedByLoads.latchStraps (k : ResetKind) : g (s.latchStraps k) = g s := by
  unfold State.latchStraps
  split
  · rw [hg.setFld _ _ _ (by decide), hg.setFld _ _ _ (by decide)]
  · rfl

theorem UnmovedByLoads.resetInfo (k : ResetKind) : g (s.resetInfo k) = g s := by
  unfold State.resetInfo
  split
  · exact hg.wr _ _ _ (by decide)
  · rw [hg.setFld _ _ _ (by decide), State.count, hg.setFld _ _ _ (by decide)]

/-- The trims are loaded into the calibration block alone, and a mismatch is raised as an event (R354). -/
theorem UnmovedByLoads.loadTrims (up : Bool) : g (s.loadTrims up) = g s := by
  have reported (e : Bool) (t : State) : g (if e then (t.setFld Fld.CAL_STATUS_TRIM_BAD 1).event 0xC8 0 else t) = g t := by
    cases e with
    | false => rfl
    | true => exact (hg.event _ _ _).trans (hg.setFld t _ _ (by decide))
  refine (reported _ _).trans ?_
  rw [hg.wr _ _ _ (by decide),
    State.forEach_keeps g _ (fun t k => hg.wr t _ _ (show _ ∨ 0x20000 ≤ 0x340400 + 4 * k by omega)),
    State.forEach_keeps g _ (fun t p => hg.wr t _ _ (show _ ∨ 0x20000 ≤ 0x340440 + 4 * p by omega)),
    State.forEach_keeps g _ (fun t p => by
      rw [hg.wr _ _ _ (show _ ∨ 0x20000 ≤ 0x34000C + 0x10 * p by omega),
        hg.wr _ _ _ (show _ ∨ 0x20000 ≤ 0x340008 + 0x10 * p by omega),
        hg.wr _ _ _ (show _ ∨ 0x20000 ≤ 0x340004 + 0x10 * p by omega),
        hg.wr _ _ _ (show _ ∨ 0x20000 ≤ 0x340000 + 0x10 * p by omega)])]

theorem UnmovedByLoads.loadEq (e : Nat) (w : Option Word) : g (s.loadEq e w) = g s := by
  have eq (t : State) (w : Word) : g (t.wr (Reg.LNK_EQe e) w) = g t :=
    hg.wr t _ _ (show _ ∨ 0x20000 ≤ 0x80200 + 4 * e by omega)
  have status (t : State) (v : Nat) : g (t.setFld (Fld.LNK_LANE_STATUSe_EQ_DEFAULT e) v) = g t :=
    hg.setFld t _ _ (show _ ∨ 0x20000 ≤ 0x80100 + 4 * e by omega)
  unfold State.loadEq
  split
  · split
    · rw [status, eq]
    · rw [status, eq]
  · exact eq _ _

theorem UnmovedByLoads.detentionLink : g s.detentionLink = g s := by
  simp only [State.detentionLink, State.setWidths]
  rw [hg.setFld _ _ _ (by decide), hg.setFld _ _ _ (by decide), hg.setFld _ _ _ (by decide), hg.setFld _ _ _ (by decide),
    State.forEach_keeps g _ (fun t e => hg.loadEq t e _)]

end Loads

/-! ### What a cold reset leaves (R440, R442) -/

section Spoiled

variable {γ : Type} {g : State → γ}
  (hg : ∀ (t : State) (flash : SMap Byte) (fuses : SMap Word) (n : Nat),
    g { t with flash := flash, fuses := fuses, fresh := n } = g t)
include hg

/-- A reset that stops work on the flash changes the flash and the free values alone (R442). -/
theorem State.spoilFlash_keeps : g s.spoilFlash = g s := by
  have put (t : State) (b : Nat) (bs : List Byte) : g (t.putFlash b bs) = g t := hg t _ t.fuses t.fresh
  have free (t : State) : g t.useFresh = g t := hg t t.flash t.fuses _
  have sector (t : State) (b : Nat) : g (t.spoilSector b) = g t := by rw [State.spoilSector, free, put]
  unfold State.spoilFlash
  extract_lets erased written
  have herased : g erased = g s := by
    unfold erased
    split
    · split
      · exact sector _ _
      · rfl
    · rfl
  have hwritten : g written = g erased := by
    unfold written
    split
    · exact sector _ _
    · rfl
  rw [← herased, ← hwritten]
  split
  · split
    · rfl
    · exact sector _ _
  · exact sector _ _
  · rfl

/-- A reset that stops the blowing of fuses changes the fuse array and the free values alone (R83). -/
theorem State.spoilFuses_keeps : g s.spoilFuses = g s := by
  unfold State.spoilFuses
  split
  · exact foldl_keeps g _ (fun t _ => hg t t.flash _ _) _ _
  · rfl

theorem State.spoiled_keeps : g s.spoilFlash.spoilFuses = g s :=
  (State.spoilFuses_keeps _ hg).trans (State.spoilFlash_keeps s hg)

end Spoiled

/-- The registers that a cold reset loads once the blocks are empty. -/
def State.resetLoads (s : State) (k : ResetKind) : State :=
  let s := (s.resetInfo k).latchStraps k
  let s := if k = ResetKind.por then s.loadBellAddr else s
  (s.loadTrims (k == ResetKind.por)).senseFuses.showPower

theorem UnmovedByLoads.resetLoads {γ : Type} {g : State → γ} (hg : UnmovedByLoads g) (k : ResetKind) :
    g (s.resetLoads k) = g s := by
  have bell (t : State) : g (if k = ResetKind.por then t.loadBellAddr else t) = g t := by
    split
    · exact hg.setFld t _ _ (by decide)
    · rfl
  simp only [State.resetLoads]
  rw [hg.showPower, hg.senseFuses, hg.loadTrims, bell, hg.latchStraps, hg.resetInfo]

theorem State.coldReset_blocksEmpty (k : ResetKind) : (s.coldReset k).blocksEmpty := by
  change (State.resetLoads _ k).blocksEmpty
  rw [unmovedByLoads_blocksEmpty.resetLoads]
  exact ⟨rfl, rfl, rfl, rfl, rfl, rfl, rfl, rfl, rfl, rfl, rfl, rfl, rfl, rfl, rfl, rfl, rfl, rfl, rfl, rfl, rfl, rfl, rfl⟩

theorem State.coldReset_kind (k : ResetKind) : (s.coldReset k).boot.kind = k := by
  change (State.resetLoads _ k).boot.kind = k
  rw [unmovedByLoads_kind.resetLoads]
  rfl

theorem State.coldReset_pins (k : ResetKind) :
    (s.coldReset k).pins = { s.pins with irqN := true, sysclk0 := 0, sysclk1 := 0 } := by
  change (State.resetLoads _ k).pins = _
  rw [unmovedByLoads_pins.resetLoads, ← State.spoiled_keeps s (g := State.pins) (fun _ _ _ _ => rfl)]
  rfl

/-- A cold reset other than POR keeps the attempt counter (R60, R440). -/
theorem State.rd_coldReset_bootAttempts {k : ResetKind} (hk : k ≠ .por) :
    (s.coldReset k).rd Reg.BOOT_ATTEMPTS = s.rd Reg.BOOT_ATTEMPTS := by
  change (State.resetLoads _ k).rd _ = _
  rw [(unmovedByLoads_bootReg (by decide) (by decide)).resetLoads]
  refine State.rd_of_resetRegs (ks := fun _ => clearedBy k) ?_ (keepMask_bootAttempts hk)
  rw [← State.spoiled_keeps s (g := State.regs) (fun _ _ _ _ => rfl)]
  rfl

/-! ### Entry into Detention mode (R66, R67) -/

/-- The first part of the entry: the domains of Detention mode, the root synthesiser, and the BOOT registers that show the mode. -/
def State.markDetained (s : State) (cause : Nat) (inferred : Bool) : State :=
  let s := { s with domains := [pdAon, pdCtl, pdSyn, pdLnk] }
  let s := if s.fld Fld.BOOT_STATUS_STEP < 6 then s.programRoot (s.fld Fld.CLK_STATUS_REF_SEL) else s
  let s := (s.setFld Fld.BOOT_STATUS_DETAINED 1).setFld Fld.BOOT_STATUS_COMPLETE 0
  let s := s.setFld Fld.BOOT_STATUS_SLOT s.boot.lastSlot
  let s := s.wr Reg.BOOT_IMAGE_VER 0
  (s.setFld Fld.BOOT_DETAIN_CAUSE_CAUSE cause).setFld Fld.BOOT_DETAIN_CAUSE_INFERRED (bit inferred)

/-- The second part: every event routed out, and the link prepared and enabled. -/
def State.prepareDetentionLink (s : State) : State :=
  let s := s.forEach 8 (fun s k => (s.wr (Reg.EVT_RT_PKTk k) 0xFFFFFFFF).wr (Reg.EVT_RT_IRQk k) 0xFFFFFFFF)
  s.detentionLink.setFld Fld.LNK_CTRL_ENABLE 1

/-- The last part: the sequencers stopped, the event, and the DETENTION record where the directory is known. -/
def State.recordDetention (s : State) (cause : Nat) (inferred : Bool) : State :=
  let s := { s with boot := { s.boot with runDigest := [], rollbackIndex := 0, ownerSlot := 0xFF, arrayLevel := 0 } }
  let s := { s with pwr := { s.pwr with trans := none, slot := none, wakes := [] } }.showPower
  let s := s.event 0x05 (cause + 256 * bit inferred)
  if s.boot.dir.isSome then
    s.journalPut ⟨4, s.fld Fld.BOOT_ATTEMPTS_COUNT, cause, s.fld Fld.BOOT_STATUS_STEP, 0, .goOn, []⟩
  else s

theorem State.enterDetention_parts (cause : Nat) (inferred : Bool) :
    s.enterDetention cause inferred = (s.markDetained cause inferred).prepareDetentionLink.recordDetention cause inferred := by
  unfold State.enterDetention State.recordDetention State.prepareDetentionLink State.markDetained
  rfl

theorem UnmovedByLoads.prepareDetentionLink {γ : Type} {g : State → γ} (hg : UnmovedByLoads g) :
    g s.prepareDetentionLink = g s := by
  simp only [State.prepareDetentionLink]
  rw [hg.setFld _ _ _ (by decide), hg.detentionLink, State.forEach_keeps g _ (fun t k => by
    rw [hg.wr _ _ _ (show _ ∨ 0x20000 ≤ 0x30160 + 4 * k by omega),
      hg.wr _ _ _ (show _ ∨ 0x20000 ≤ 0x30140 + 4 * k by omega)])]

theorem UnmovedByLoads.recordDetention {γ : Type} {g : State → γ} (hg : UnmovedByLoads g) (cause : Nat) (inferred : Bool) :
    g (s.recordDetention cause inferred) = g s := by
  have put (t : State) (r : JournalReq) : g (t.journalPut r) = g t :=
    t.journalPut_keeps (fun t b h => hg.sequencers t b t.pwr h) r
  have recorded (c : Bool) (t : State) (r : JournalReq) : g (if c then t.journalPut r else t) = g t := by
    cases c with
    | false => rfl
    | true => exact put t r
  refine (recorded _ _ _).trans ?_
  rw [hg.event, hg.showPower]
  exact hg.sequencers s _ _ rfl

/-- The end of the entry leaves LNK_CTRL as the link has been prepared. -/
theorem State.rd_recordDetention_lnkCtrl (cause : Nat) (inferred : Bool) :
    (s.recordDetention cause inferred).rd Reg.LNK_CTRL = s.rd Reg.LNK_CTRL := by
  have recorded (c : Bool) (t : State) (r : JournalReq) :
      (if c then t.journalPut r else t).rd Reg.LNK_CTRL = t.rd Reg.LNK_CTRL := by
    cases c with
    | false => rfl
    | true => exact t.journalPut_keeps (g := fun t => t.rd Reg.LNK_CTRL) (fun _ _ _ => rfl) r
  refine (recorded _ _ _).trans ?_
  rw [State.rd_event _ _ _ (by decide), State.showPower, State.rd_setFld_ne _ _ _ (by decide), State.rd_wr_ne _ _ (by decide)]
  rfl

theorem UnmovedByLoads.enterDetention {γ : Type} {g : State → γ} (hg : UnmovedByLoads g) (cause : Nat) (inferred : Bool) :
    g (s.enterDetention cause inferred) = g (s.markDetained cause inferred) := by
  rw [State.enterDetention_parts, hg.recordDetention, hg.prepareDetentionLink]

theorem State.enterDetention_linkEnabled (cause : Nat) (inferred : Bool) :
    (s.enterDetention cause inferred).on Fld.LNK_CTRL_ENABLE = true := by
  rw [State.enterDetention_parts, State.on_iff, State.fld_congr (State.rd_recordDetention_lnkCtrl _ _ _), ← State.on_iff]
  exact State.on_setFld_same _ _ _ (by decide) (by decide)

/-- Marking Detention mode changes the domains and the registers alone. -/
theorem State.markDetained_keeps {γ : Type} {g : State → γ}
    (h : ∀ (t : State) (r : SMap Word) (d : List Nat), g { t with regs := r, domains := d } = g t)
    (cause : Nat) (inferred : Bool) : g (s.markDetained cause inferred) = g s := by
  unfold State.markDetained
  dsimp only
  split
  · exact h s _ _
  · exact h s _ _

theorem State.markDetained_domains (cause : Nat) (inferred : Bool) :
    (s.markDetained cause inferred).domains = [pdAon, pdCtl, pdSyn, pdLnk] := by
  unfold State.markDetained
  dsimp only
  split
  · rfl
  · rfl

theorem State.fld_programRoot (sel : Nat) (f : Fld) (h : f.addr < 0x50000) : (s.programRoot sel).fld f = s.fld f := by
  rw [State.programRoot, State.fld_setFld_ne _ _ _ _ (by decide) (Or.inl (show f.addr ≠ 0x290000 by omega)),
    State.fld_setFld_ne _ _ _ _ (by decide) (Or.inl (show f.addr ≠ 0x50000 by omega))]
  rfl

/-- A field that marking Detention mode does not load keeps its value: those of the start's step and of the attempts do. -/
theorem State.fld_markDetained_ne (cause : Nat) (inferred : Bool) (f : Fld) (ha : f.addr < 0x50000)
    (hf : ∀ f' ∈ [Fld.BOOT_STATUS_DETAINED, Fld.BOOT_STATUS_COMPLETE, Fld.BOOT_STATUS_SLOT, Fld.BOOT_DETAIN_CAUSE_CAUSE,
      Fld.BOOT_DETAIN_CAUSE_INFERRED], f.addr ≠ f'.addr ∨ f.hi < f'.lo ∨ f'.hi < f.lo) (hv : f.addr ≠ Reg.BOOT_IMAGE_VER) :
    (s.markDetained cause inferred).fld f = s.fld f := by
  simp only [List.forall_mem_cons] at hf
  obtain ⟨detained, complete, slot, causeCode, causeInferred, -⟩ := hf
  have root (c : Prop) [Decidable c] (t : State) (sel : Nat) : (if c then t.programRoot sel else t).fld f = t.fld f := by
    split
    · exact t.fld_programRoot sel f ha
    · rfl
  unfold State.markDetained
  dsimp only
  rw [State.fld_setFld_ne _ _ _ _ (by decide) causeInferred, State.fld_setFld_ne _ _ _ _ (by decide) causeCode,
    State.fld_wr_ne _ _ _ _ hv, State.fld_setFld_ne _ _ _ _ (by decide) slot,
    State.fld_setFld_ne _ _ _ _ (by decide) complete, State.fld_setFld_ne _ _ _ _ (by decide) detained, root]
  rfl

theorem State.markDetained_detained (cause : Nat) (inferred : Bool) :
    (s.markDetained cause inferred).fld Fld.BOOT_STATUS_DETAINED = 1 := by
  unfold State.markDetained
  simp (disch := decide) only [State.fld_setFld_ne, State.fld_wr_ne, State.fld_setFld_same]

theorem State.markDetained_cause {cause : Nat} (h : cause < 256) (inferred : Bool) :
    (s.markDetained cause inferred).fld Fld.BOOT_DETAIN_CAUSE_CAUSE = cause := by
  unfold State.markDetained
  dsimp only
  rw [State.fld_setFld_ne _ _ _ _ (by decide) (by decide)]
  exact State.fld_setFld_same _ _ _ (by decide) h

/-- Every field of the BOOT registers reads after the entry as the mode has been marked. -/
theorem State.fld_enterDetention (cause : Nat) (inferred : Bool) (f : Fld) (hlo : 0x10000 ≤ f.addr) (hhi : f.addr < 0x20000) :
    (s.enterDetention cause inferred).fld f = (s.markDetained cause inferred).fld f :=
  State.fld_congr ((unmovedByLoads_bootReg hlo hhi).enterDetention s cause inferred)

/-! ### A start that finds DETAIN_N low (R60) -/

/-- Step 1 of a start: one start less will find DETAIN_N low. -/
def State.atStepOne (s : State) : State :=
  { s with pins := { s.pins with detain := s.pins.detain - 1 } }.setFld Fld.BOOT_STATUS_STEP 1

theorem State.atStepOne_step : s.atStepOne.fld Fld.BOOT_STATUS_STEP = 1 := State.fld_setFld_same _ _ _ (by decide) (by decide)

theorem State.atStepOne_attempts : s.atStepOne.fld Fld.BOOT_ATTEMPTS_COUNT = s.fld Fld.BOOT_ATTEMPTS_COUNT :=
  State.fld_setFld_ne _ _ _ _ (by decide) (by decide)

theorem State.atStepOne_kind : s.atStepOne.boot.kind = s.boot.kind := rfl

theorem State.atStepOne_detain : s.atStepOne.pins.detain = s.pins.detain - 1 := rfl

theorem State.atStepOne_stopped : s.atStepOne.activityStopped = s.activityStopped := rfl

/-- The device is in Detention mode at step 1, forced by DETAIN_N. -/
def State.detainedByPin (t : State) : Prop :=
  t.on Fld.BOOT_STATUS_DETAINED = true ∧ t.fld Fld.BOOT_DETAIN_CAUSE_CAUSE = 0x0D ∧ t.fld Fld.BOOT_STATUS_STEP = 1

section LowPin

variable {s}
variable {k : ResetKind} (clock : s.pins.refclk = true) (low : s.pins.detain ≠ 0)
include clock low

theorem State.beginStart_low :
    s.beginStart k = if k = .por then
        ((s.coldReset k).atStepOne.setFld Fld.BOOT_STATUS_DETAINED 1).setFld Fld.BOOT_DETAIN_CAUSE_CAUSE 0x0D
      else (s.coldReset k).atStepOne.enterDetention 0x0D false := by
  have clock' : (s.coldReset k).pins.refclk = true := by rw [State.coldReset_pins, ← clock]
  have low' : ((s.coldReset k).pins.detain != 0) = true := by rw [State.coldReset_pins]; simpa using low
  simp only [State.beginStart, clock', low', Bool.not_true, Bool.false_eq_true, if_false, if_true, State.atStepOne]

theorem State.beginStart_low_detained : (s.beginStart k).detainedByPin := by
  rw [State.beginStart_low clock low]
  split
  · refine ⟨(State.on_iff _ _).mpr ?_, State.fld_setFld_same _ _ _ (by decide) (by decide), ?_⟩
    · rw [State.fld_setFld_ne _ _ _ _ (by decide) (by decide), State.fld_setFld_same _ _ _ (by decide) (by decide)]
      exact Nat.one_ne_zero
    · rw [State.fld_setFld_ne _ _ _ _ (by decide) (by decide), State.fld_setFld_ne _ _ _ _ (by decide) (by decide),
        State.atStepOne_step]
  · refine ⟨(State.on_iff _ _).mpr ?_, ?_, ?_⟩
    · rw [State.fld_enterDetention _ _ _ _ (by decide) (by decide), State.markDetained_detained]
      exact Nat.one_ne_zero
    · rw [State.fld_enterDetention _ _ _ _ (by decide) (by decide), State.markDetained_cause _ (by decide)]
    · rw [State.fld_enterDetention _ _ _ _ (by decide) (by decide),
        State.fld_markDetained_ne _ _ _ _ (by decide) (by decide) (by decide), State.atStepOne_step]

variable (kept : k ≠ .por)
include kept

theorem State.beginStart_low_enters : s.beginStart k = (s.coldReset k).atStepOne.enterDetention 0x0D false := by
  rw [State.beginStart_low clock low, if_neg kept]

theorem State.beginStart_low_attempts : (s.beginStart k).fld Fld.BOOT_ATTEMPTS_COUNT = s.fld Fld.BOOT_ATTEMPTS_COUNT := by
  rw [State.beginStart_low_enters clock low kept, State.fld_enterDetention _ _ _ _ (by decide) (by decide),
    State.fld_markDetained_ne _ _ _ _ (by decide) (by decide) (by decide), State.atStepOne_attempts]
  exact State.fld_congr (State.rd_coldReset_bootAttempts s kept)

theorem State.beginStart_low_linkEnabled : (s.beginStart k).on Fld.LNK_CTRL_ENABLE = true := by
  rw [State.beginStart_low_enters clock low kept, State.enterDetention_linkEnabled]

theorem State.beginStart_low_domains : (s.beginStart k).domains = [pdAon, pdCtl, pdSyn, pdLnk] := by
  rw [State.beginStart_low_enters clock low kept, unmovedByLoads_domains.enterDetention, State.markDetained_domains]

theorem State.beginStart_low_kind : (s.beginStart k).boot.kind = k := by
  rw [State.beginStart_low_enters clock low kept, unmovedByLoads_kind.enterDetention,
    State.markDetained_keeps _ (g := fun t => t.boot.kind) (fun _ _ _ => rfl), State.atStepOne_kind, State.coldReset_kind]

theorem State.beginStart_low_detain : (s.beginStart k).pins.detain = s.pins.detain - 1 := by
  rw [State.beginStart_low_enters clock low kept, unmovedByLoads_pins.enterDetention,
    State.markDetained_keeps _ (g := State.pins) (fun _ _ _ => rfl), State.atStepOne_detain, State.coldReset_pins]

theorem State.beginStart_low_stopped : (s.beginStart k).activityStopped := by
  rw [State.beginStart_low_enters clock low kept, unmovedByLoads_activityStopped.enterDetention,
    State.markDetained_keeps _ (g := State.activityStopped) (fun _ _ _ => rfl), State.atStepOne_stopped]
  exact (s.coldReset_blocksEmpty k).activityStopped

end LowPin

/-- DETAIN_N has fallen, and goes on to be low at the next `starts` starts. -/
def State.detainLow (s : State) (starts : Nat) : State := { s with pins := { s.pins with detain := starts + 1 } }

theorem exec_detainNAssert (starts : Nat) : exec (.detainNAssert starts) s = .next ((s.detainLow starts).beginStart .soft) := rfl

end Detention

/-- Settles O4: each of the three starts finds DETAIN_N low, so that it ends detained by the pin; the one that the pin itself
asks for is a SOFT restart, whose cold reset has stopped all activity. -/
theorem detainPinForcesDetention : Obligations.DetainPinForcesDetention := by
  intro b f n s
  refine ⟨fun clock => ?pin, ?por, ?reset⟩
  case pin =>
    have clock : (s.detainLow n).pins.refclk = true := clock
    have low : (s.detainLow n).pins.detain ≠ 0 := Nat.succ_ne_zero n
    obtain ⟨detained, cause, step⟩ := State.beginStart_low_detained (k := .soft) clock low
    obtain ⟨store, queues, dma, cores, flashOps, air⟩ := State.beginStart_low_stopped (k := .soft) clock low (by decide)
    exact ⟨_, exec_detainNAssert s n, detained, cause, step, State.beginStart_low_attempts clock low (by decide),
      State.beginStart_low_kind clock low (by decide), State.beginStart_low_domains clock low (by decide), store, queues, dma,
      cores, flashOps, air, State.beginStart_low_linkEnabled clock low (by decide),
      State.beginStart_low_detain clock low (by decide)⟩
  case por =>
    exact ⟨_, rfl, State.beginStart_low_detained (s := s.setBalls b.val f.val (n + 1) true) rfl (Nat.succ_ne_zero n)⟩
  case reset =>
    have low : (s.setBalls b.val f.val (n + 1) true).pins.detain ≠ 0 := Nat.succ_ne_zero n
    obtain ⟨detained, cause, step⟩ := State.beginStart_low_detained (k := .pin) rfl low
    exact ⟨_, rfl, detained, cause, step, State.beginStart_low_attempts (k := .pin) rfl low (by decide)⟩

end Sys2Proof.Machine

/-!
What every step keeps, whatever it does: the canonical form of store, flash and fuse array, every blown fuse bit, and the queue of
waiting commands. One lemma per operation of the model, in the order of the model.
-/

namespace Sys2Proof.Machine

/-- From `s` to `t` the memories stay canonical, no blown fuse bit clears, and the queue of waiting commands stays. -/
structure State.Keeps (s t : State) : Prop where
  canonical : s.memoriesCanonical = true → t.memoriesCanonical = true
  blown : ∀ w i, (s.fuse w).getLsbD i = true → (t.fuse w).getLsbD i = true
  queue : t.pending = s.pending

/-- A command goes on, to a state that `Keeps` relates to `s`. -/
def State.Reaches (s : State) (o : Out) : Prop := ∃ t, o = .next t ∧ s.Keeps t

/-- Whatever instruction result `o` offers is a state that `Keeps` relates to `s`. -/
def State.Offers {α : Type} (s : State) (o : Option (State × α)) : Prop := ∀ r ∈ o, s.Keeps r.1

namespace State.Keeps

variable {s t t' : State} {α β : Type}

theorem refl : s.Keeps s := ⟨id, fun _ _ h => h, rfl⟩

/-- A change beside the memories and the queue. -/
theorem beside {regs domains air aonTicks hkSub pins boot flashOps sec clk mspi raise shadows banksOff link queues ecc scrubUnc
    dma time bmb dlc ulc ul smp nco sect rssi rf lin sfd cal seen cores hk pwr fresh} (h : s.Keeps t) :
    s.Keeps { t with
      regs := regs, domains := domains, air := air, aonTicks := aonTicks, hkSub := hkSub, pins := pins, boot := boot,
      flashOps := flashOps, sec := sec, clk := clk, mspi := mspi, raise := raise, shadows := shadows, banksOff := banksOff,
      link := link, queues := queues, ecc := ecc, scrubUnc := scrubUnc, dma := dma, time := time, bmb := bmb, dlc := dlc,
      ulc := ulc, ul := ul, smp := smp, nco := nco, sect := sect, rssi := rssi, rf := rf, lin := lin, sfd := sfd, cal :=
      cal, seen := seen, cores := cores, hk := hk, pwr := pwr, fresh := fresh } :=
  ⟨h.canonical, h.blown, h.queue⟩

/-- The store is emptied; flash, fuses and queue stay. -/
theorem emptied {regs domains air aonTicks hkSub pins boot flashOps sec clk mspi raise shadows banksOff link queues ecc
    scrubUnc dma time bmb dlc ulc ul smp nco sect rssi rf lin sfd cal seen cores hk pwr fresh} (h : s.Keeps t) :
    s.Keeps { t with
      regs := regs, domains := domains, air := air, aonTicks := aonTicks, hkSub := hkSub, pins := pins, boot := boot,
      flashOps := flashOps, sec := sec, clk := clk, mspi := mspi, raise := raise, shadows := shadows, banksOff := banksOff,
      link := link, queues := queues, ecc := ecc, scrubUnc := scrubUnc, dma := dma, time := time, bmb := bmb, dlc := dlc,
      ulc := ulc, ul := ul, smp := smp, nco := nco, sect := sect, rssi := rssi, rf := rf, lin := lin, sfd := sfd, cal :=
      cal, seen := seen, cores := cores, hk := hk, pwr := pwr, fresh := fresh, store := [] } where
  canonical c := (memoriesCanonical_iff _).mpr ⟨rfl, ((memoriesCanonical_iff t).mp (h.canonical c)).2⟩
  blown := h.blown
  queue := h.queue

/-! ### Branches and passes -/

section Control

variable {c : Prop} {inst : Decidable c}

theorem ite {a b : State} (ha : s.Keeps a) (hb : s.Keeps b) : s.Keeps (if c then a else b) := by split <;> assumption

theorem whenever {a : State} (h : s.Keeps t) (ha : s.Keeps t → s.Keeps a) : s.Keeps (if c then a else t) := ite (ha h) h

theorem otherwise {a : State} (h : s.Keeps t) (ha : s.Keeps t → s.Keeps a) : s.Keeps (if c then t else a) := ite h (ha h)

theorem branch {a b : State} (h : s.Keeps t) (ha : s.Keeps t → s.Keeps a) (hb : s.Keeps t → s.Keeps b) :
    s.Keeps (if c then a else b) := ite (ha h) (hb h)

theorem ite_fst {a b : State × β} (ha : s.Keeps a.1) (hb : s.Keeps b.1) : s.Keeps (if c then a else b).1 := by
  split <;> assumption

theorem ite_out {a b : Out} (ha : s.Reaches a) (hb : s.Reaches b) : s.Reaches (if c then a else b) := by
  split <;> assumption

end Control

theorem next (h : s.Keeps t) : s.Reaches (.next t) := ⟨t, rfl, h⟩

theorem offers {r : State × α} (h : s.Keeps r.1) : s.Offers (some r) := by
  rintro _ ⟨⟩
  exact h

theorem offersNone : s.Offers (none : Option (State × α)) := fun _ h => absurd h (Option.not_mem_none _)

theorem elim {o : Option α} {f : α → State} (h : s.Keeps t) (hf : ∀ {x}, s.Keeps t → s.Keeps (f x)) :
    s.Keeps (o.elim t f) := by
  cases o with
  | none => exact h
  | some x => exact hf h

theorem pair {b : β} (h : s.Keeps t) : s.Keeps (t, b).1 := h

theorem foldl {f : State → α → State} {l : List α} (h : s.Keeps t) (hf : ∀ {t x}, s.Keeps t → s.Keeps (f t x)) :
    s.Keeps (l.foldl f t) := by
  induction l generalizing t with
  | nil => exact h
  | cons x l ih => exact ih (hf h)

theorem foldl_fst {f : State × β → α → State × β} {l : List α} {r : State × β} (h : s.Keeps r.1)
    (hf : ∀ {r x}, s.Keeps r.1 → s.Keeps (f r x).1) : s.Keeps (l.foldl f r).1 := by
  induction l generalizing r with
  | nil => exact h
  | cons x l ih => exact ih (hf h)

theorem iff {c : Bool} {f : State → State} (h : s.Keeps t) (hf : s.Keeps t → s.Keeps (f t)) :
    s.Keeps (t.iff c f) := h.whenever hf

theorem forEach {n : Nat} {f : State → Nat → State} (h : s.Keeps t) (hf : ∀ {t k}, s.Keeps t → s.Keeps (f t k)) :
    s.Keeps (t.forEach n f) := h.foldl hf

/-! ### Ops -/

theorem wr {a w} (h : s.Keeps t) : s.Keeps (t.wr a w) := h.beside

theorem setFld {f v} (h : s.Keeps t) : s.Keeps (t.setFld f v) := h.wr

theorem count {f n} (h : s.Keeps t) : s.Keeps (t.count f n) := h.setFld

theorem countWrap {f n} (h : s.Keeps t) : s.Keeps (t.countWrap f n) := h.setFld

theorem plainWrite {a d} (h : s.Keeps t) : s.Keeps (t.plainWrite a d) := h.wr

theorem clearFlds {fs} (h : s.Keeps t) : s.Keeps (t.clearFlds fs) := h.foldl fun h => h.setFld

theorem useFresh (h : s.Keeps t) : s.Keeps t.useFresh := h.beside

theorem switchOn {i} (h : s.Keeps t) : s.Keeps (t.switchOn i) := h.beside

theorem switchOff {i} (h : s.Keeps t) : s.Keeps (t.switchOff i) := h.beside

theorem resetRange {lo hi} (h : s.Keeps t) : s.Keeps (t.resetRange lo hi) := h.beside

theorem putStore {a bs} (h : s.Keeps t) : s.Keeps (t.putStore a bs) :=
  ⟨fun c => putStore_canonical t a bs (h.canonical c), h.blown, h.queue⟩

theorem putFlash {a bs} (h : s.Keeps t) : s.Keeps (t.putFlash a bs) :=
  ⟨fun c => putFlash_canonical t a bs (h.canonical c), h.blown, h.queue⟩

theorem eraseFlash {a n} (h : s.Keeps t) : s.Keeps (t.eraseFlash a n) :=
  ⟨fun c => eraseFlash_canonical t a n (h.canonical c), h.blown, h.queue⟩

theorem blow {w v} (h : s.Keeps t) : s.Keeps (t.blow w v) where
  canonical c := blow_canonical t w v (h.canonical c)
  blown j i b := by
    rw [fuse_blow]
    split
    · next same => rw [BitVec.getLsbD_or, ← same, h.blown j i b, Bool.true_or]
    · exact h.blown j i b
  queue := h.queue

theorem event {code info} (h : s.Keeps t) : s.Keeps (t.event code info) := .ite h (.ite h.beside h.count)

theorem lopUnits {n done total} (h : s.Keeps t) : s.Keeps (t.lopUnits n done total) := .ite h.setFld.setFld h.setFld.setFld

theorem lopStart {n state total} (h : s.Keeps t) : s.Keeps (t.lopStart n state total) := h.wr.setFld.lopUnits

theorem lopRun {n} (h : s.Keeps t) : s.Keeps (t.lopRun n) := h.setFld

theorem lopEnd {n state err} (h : s.Keeps t) : s.Keeps (t.lopEnd n state err) := h.setFld.setFld.event

theorem merr {q a write posted status} (h : s.Keeps t) : s.Keeps (t.merr q a write posted status) := h.wr.wr

/-! ### Dsp -/

theorem setCore {c x} (h : s.Keeps t) : s.Keeps (t.setCore c x) := h.beside

theorem setCoreState {c st} (h : s.Keeps t) : s.Keeps (t.setCoreState c st) := h.setFld

theorem dspPowerUp (h : s.Keeps t) : s.Keeps t.dspPowerUp := h.beside

theorem corePend {c k} (h : s.Keeps t) : s.Keeps (t.corePend c k) := .ite h.wr h

theorem coreUnpend {c k} (h : s.Keeps t) : s.Keeps (t.coreUnpend c k) := h.wr

theorem holdCore {c} (h : s.Keeps t) : s.Keeps (t.holdCore c) := h.setCore.setCoreState.wr

theorem releaseCore {c} (h : s.Keeps t) : s.Keeps (t.releaseCore c) := h.setCore.setCoreState.wr.wr.wr

theorem startCores (h : s.Keeps t) : s.Keeps t.startCores := .ite h (h.foldl (fun h => h.setFld.releaseCore))

theorem coreBoundary {c} (h : s.Keeps t) : s.Keeps (t.coreBoundary c) := .ite h.setFld.setCoreState h

theorem addCycles {c n} (h : s.Keeps t) : s.Keeps (t.addCycles c n) := h.wr.wr

theorem trapEvent {c cause pc mem addr} (h : s.Keeps t) : s.Keeps (t.trapEvent c cause pc mem addr) :=
  .ite h.event (.ite h.event (.ite h.event h.event))

theorem coreTrap {c cause info addr mem} (h : s.Keeps t) : s.Keeps (t.coreTrap c cause info addr mem) := by
  refine .branch (.ite h.count h) (fun h => h.setCore.setCoreState.event) fun h => .coreBoundary (.trapEvent (.setCore ?_))
  split
  · exact h.wr.wr
  · exact h.wr

theorem coreCtrlWrite {c d} (h : s.Keeps t) : s.Keeps (t.coreCtrlWrite c d) :=
  (((h.plainWrite.branch (fun h => h.holdCore) fun h => .ite h.releaseCore h).whenever fun h =>
    h.setCore.setCoreState).whenever fun h => h.setFld).coreBoundary

theorem execCoreTimerExpiry {core} (h : s.Keeps t) : s.Reaches (execCoreTimerExpiry core t) := next (.ite h.corePend h)

theorem coreIrqWrite {c d} (h : s.Keeps t) : s.Keeps (t.coreIrqWrite c d) := h.plainWrite

theorem mbxPush {c out w} (h : s.Keeps t) : s.Keeps (t.mbxPush c out w) := .ite h.setCore h.setFld.event

theorem mbxPop {c out} (h : s.Keeps t) : s.Keeps (t.mbxPop c out).1 := by
  unfold State.mbxPop
  dsimp only; split; exacts [h.setCore, h.setFld]

theorem mbxInWrite {c q w} (h : s.Keeps t) : s.Keeps (t.mbxInWrite c q w) := by
  unfold State.mbxInWrite
  split; exacts [h.mbxPush, h.mbxPush, .ite h h.mbxPush, h]

theorem mbxOutRead {c q} (h : s.Keeps t) : s.Keeps (t.mbxOutRead c q).1 := .ite_fst h.mbxPop h

theorem doorbellAdd {c n} (h : s.Keeps t) : s.Keeps (t.doorbellAdd c n) := .setFld (.ite h.setFld h)

theorem doorbellWrite {c d} (h : s.Keeps t) : s.Keeps (t.doorbellWrite c d) := h.plainWrite.doorbellAdd

/-! ### StoreOps -/

theorem setEcc {w v} (h : s.Keeps t) : s.Keeps (t.setEcc w v) := h.beside

theorem hits {us} (h : s.Keeps t) : s.Keeps (t.hits us) := h.foldl (fun h => h.iff (fun h => h.setEcc))

theorem eccCorrected {w req} (h : s.Keeps t) : s.Keeps (t.eccCorrected w req) := h.setEcc.count.event

theorem eccUncorrectable {w req} (h : s.Keeps t) : s.Keeps (t.eccUncorrectable w req) := h.count.wr.wr.event

theorem checkWord {w req} (h : s.Keeps t) : s.Keeps (t.checkWord w req).1 :=
  .ite_fst h.eccCorrected (.ite_fst h.eccUncorrectable h)

theorem checkWords {w req n} (h : s.Keeps t) : s.Keeps (t.checkWords w req n).1 := by
  induction n generalizing t w with
  | zero => exact h
  | succ n ih => exact ih h.checkWord

theorem storeRead {a n req} (h : s.Keeps t) : s.Keeps (t.storeRead a n req).1 := h.checkWords

theorem injectEcc {w} (h : s.Keeps t) : s.Keeps (t.injectEcc w) := .ite h.setEcc.setFld h

theorem storeWriteWord {a bs req} (h : s.Keeps t) : s.Keeps (t.storeWriteWord a bs req).1 :=
  .ite_fst (.injectEcc (.setEcc (.putStore (.ite_fst h h.checkWord)))) (.ite_fst h h.checkWord)

theorem storeWrite {a bs req} (h : s.Keeps t) : s.Keeps (t.storeWrite a bs req).1 := h.foldl_fst fun h => h.storeWriteWord

theorem storePut {a bs req} (h : s.Keeps t) : s.Keeps (t.storePut a bs req) := h.storeWrite

theorem eccInitBank {k} (h : s.Keeps t) : s.Keeps (t.eccInitBank k) :=
  ⟨fun c => eccInitBank_canonical t k (h.canonical c), h.blown, h.queue⟩

theorem scrubWords {c} (h : s.Keeps t) : s.Keeps (t.scrubWords c).1 := h.foldl_fst fun h => h.checkWord

theorem scrubPass {unc lop5} (h : s.Keeps t) : s.Keeps (t.scrubPass unc lop5) := h.setFld.count.event

theorem execScrubRowRead (h : s.Keeps t) : s.Reaches (execScrubRowRead t) :=
  next (.ite (h.scrubWords.beside.setFld.whenever fun h => h.scrubPass.beside) h)

theorem scrubCtrlWrite {d} (h : s.Keeps t) : s.Keeps (t.scrubCtrlWrite d) :=
  .ite h.setFld (h.plainWrite.whenever fun h => .ite h.lopStart.setFld h.lopStart.lopEnd.setFld)

theorem execLop5End (h : s.Keeps t) : s.Reaches (execLop5End t) :=
  next (.ite h.scrubWords.scrubPass.lopUnits.setFld.setFld.lopEnd h)

theorem retMask0Write {d} (h : s.Keeps t) : s.Keeps (t.retMask0Write d) := h.wr

theorem setRetMasks (h : s.Keeps t) : s.Keeps t.setRetMasks := h.wr.wr

theorem takeSignatures (h : s.Keeps t) : s.Keeps t.takeSignatures := (h.foldl (fun h => h.checkWord)).forEach fun h => h.wr

theorem retentionCheck (h : s.Keeps t) : s.Keeps t.retentionCheck.1 :=
  .foldl_fst (.pair h) (fun h => .ite_fst (.pair (.foldl_fst (.pair h) (fun h => .pair h.checkWord))) (.pair (.foldl_fst (.pair
    h) (fun h => .pair h.checkWord))))

theorem reportRetFail {banks} (h : s.Keeps t) : s.Keeps (t.reportRetFail banks) := h.foldl (fun h => .event (.ite h.wr h.wr))

/-! ### Reset -/

theorem resetDomain {d} (h : s.Keeps t) : s.Keeps (t.resetDomain d) := h.beside

theorem showPower (h : s.Keeps t) : s.Keeps t.showPower := h.wr.setFld

theorem senseFuses (h : s.Keeps t) : s.Keeps t.senseFuses := h.setFld.setFld.setFld

theorem loadTrims {up} (h : s.Keeps t) : s.Keeps (t.loadTrims up) :=
  (((h.forEach (fun h => h.wr.wr.wr.wr)).forEach (fun h => h.wr)).forEach (fun h => h.wr)).wr.whenever fun h => h.setFld.event

theorem loadBellAddr (h : s.Keeps t) : s.Keeps t.loadBellAddr := h.setFld

theorem spoilSector {a} (h : s.Keeps t) : s.Keeps (t.spoilSector a) := h.putFlash.useFresh

theorem spoilFlash (h : s.Keeps t) : s.Keeps t.spoilFlash := by
  unfold State.spoilFlash
  extract_lets erased written
  have afterErase : s.Keeps erased := by
    unfold erased
    split; exacts [.ite h.spoilSector h, h]
  have afterWrite : s.Keeps written := by
    unfold written
    split; exacts [afterErase.spoilSector, afterErase]
  split; exacts [afterWrite.otherwise fun h => h.spoilSector, afterWrite.spoilSector, afterWrite]

theorem dropBanks {k} (h : s.Keeps t) : s.Keeps (t.dropBanks k) :=
  ⟨fun c => dropBanks_canonical t k (h.canonical c), h.blown, h.queue⟩

theorem clearBlocks {k} (h : s.Keeps t) : s.Keeps (t.clearBlocks k) := h.beside

theorem warmBlocks (h : s.Keeps t) : s.Keeps t.warmBlocks := h.beside

theorem spoilFuses (h : s.Keeps t) : s.Keeps t.spoilFuses := by
  unfold State.spoilFuses
  split; exacts [h.foldl (fun h => h.blow.useFresh), h]

theorem latchStraps {k} (h : s.Keeps t) : s.Keeps (t.latchStraps k) := .ite h.setFld.setFld h

theorem resetInfo {k} (h : s.Keeps t) : s.Keeps (t.resetInfo k) := .ite h.wr h.count.setFld

theorem coldReset {k} (h : s.Keeps t) : s.Keeps (t.coldReset k) :=
  (h.spoilFlash.spoilFuses.emptied.clearBlocks.resetInfo.latchStraps.whenever fun h =>
    h.loadBellAddr).loadTrims.senseFuses.showPower

theorem keepFields {old fs} (h : s.Keeps t) : s.Keeps (t.keepFields old fs) := h.foldl fun h => h.setFld

theorem warmReset (h : s.Keeps t) : s.Keeps t.warmReset :=
  h.spoilFlash.spoilFuses.beside.warmBlocks.resetInfo.keepFields.keepFields.setFld.senseFuses.showPower

/-! ### Journal -/

theorem scanJournal {d} (h : s.Keeps t) : s.Keeps (t.scanJournal d) := by
  unfold State.scanJournal
  split <;> exact h.beside.setFld.setFld

theorem journalKick (h : s.Keeps t) : s.Keeps t.journalKick := by
  unfold State.journalKick
  split; exacts [.ite h.beside h.beside, h]

theorem journalPut {r} (h : s.Keeps t) : s.Keeps (t.journalPut r) := h.beside.journalKick

theorem loadEq {e w} (h : s.Keeps t) : s.Keeps (t.loadEq e w) := by
  unfold State.loadEq
  split; exacts [.ite h.wr.setFld h.wr.setFld, h.wr]

theorem setWidths {w} (h : s.Keeps t) : s.Keeps (t.setWidths w) := h.setFld.setFld.setFld.setFld

theorem detentionLink (h : s.Keeps t) : s.Keeps t.detentionLink := by
  unfold State.detentionLink
  exact (h.forEach (fun h => h.loadEq)).setWidths

theorem programRoot {sel} (h : s.Keeps t) : s.Keeps (t.programRoot sel) := h.switchOn.setFld.setFld

theorem enterDetention {cause inferred} (h : s.Keeps t) : s.Keeps (t.enterDetention cause inferred) :=
  ((h.beside.whenever fun h => h.programRoot).setFld.setFld.setFld.wr.setFld.setFld.forEach (fun h =>
    h.wr.wr)).detentionLink.setFld.beside.beside.showPower.event.whenever fun h => h.journalPut

theorem detainAtLimit (h : s.Keeps t) : s.Keeps t.detainAtLimit := .ite h.enterDetention h.enterDetention

theorem beginStart {k} (h : s.Keeps t) : s.Keeps (t.beginStart k) :=
  h.coldReset.otherwise fun h => .ite (h.beside.setFld.branch (fun h => h.setFld.setFld) fun h => h.enterDetention)
    h.beside.setFld.setFld

theorem failAttempt {cause detail} (h : s.Keeps t) : s.Keeps (t.failAttempt cause detail) := h.beside.journalPut

theorem failEarly {cause detail} (h : s.Keeps t) : s.Keeps (t.failEarly cause detail) :=
  h.count.beside.branch (fun h => h.journalPut) fun h => .ite h.enterDetention h.beginStart

/-! ### Device -/

theorem setBalls {boardId flashMode detain refclk} (h : s.Keeps t) : s.Keeps (t.setBalls boardId flashMode detain refclk) :=
  h.beside

theorem execPowerOnReset {boardId flashMode detain refclk} (h : s.Keeps t) :
    s.Reaches (execPowerOnReset boardId flashMode detain refclk t) :=
  h.setBalls.beginStart.next

theorem execPinReset {boardId flashMode detain refclk} (h : s.Keeps t) :
    s.Reaches (execPinReset boardId flashMode detain refclk t) :=
  h.setBalls.beginStart.next

theorem execVddIoUndervoltage {boardId flashMode detain refclk} (h : s.Keeps t) :
    s.Reaches (execVddIoUndervoltage boardId flashMode detain refclk t) :=
  h.setBalls.beginStart.next

theorem warmRequest (h : s.Keeps t) : s.Keeps t.warmRequest := .ite h (.ite h.beside.showPower h.warmReset.startCores)

theorem softOrWarm {k} (h : s.Keeps t) : s.Keeps (t.softOrWarm k) := .ite h.warmRequest h.beginStart

theorem devCtrlWrite {q d} (h : s.Keeps t) : s.Keeps (t.devCtrlWrite q d) := by
  unfold State.devCtrlWrite
  dsimp only
  split
  · exact .ite h.wr h
  · split
    · exact h.merr
    · exact .beside (.ite h.wr h)
    · exact .beside (.ite h.wr h)
    · exact .softOrWarm (.ite h.wr h)

theorem mspiReset (h : s.Keeps t) : s.Keeps t.mspiReset := by
  unfold State.mspiReset
  split; exacts [h.beside.softOrWarm, h]

theorem execWatchdogExpiry (h : s.Keeps t) : s.Reaches (execWatchdogExpiry t) := next (.ite h.beginStart h)

theorem execDetainNAssert {starts} (h : s.Keeps t) : s.Reaches (execDetainNAssert starts t) := h.beside.beginStart.next

theorem heartbeatWrite {d} (h : s.Keeps t) : s.Keeps (t.heartbeatWrite d) := h.wr.whenever fun h => h.beside.setFld

theorem clearAttempts (h : s.Keeps t) : s.Keeps t.clearAttempts := h.setFld.otherwise fun h => .ite h.setFld.journalPut h

theorem bootCtrlWrite {d} (h : s.Keeps t) : s.Keeps (t.bootCtrlWrite d) :=
  h.setFld.whenever fun h => .whenever (.ite h.setFld h) fun h => h.clearAttempts

theorem driveSysout (h : s.Keeps t) : s.Keeps t.driveSysout := h.beside

theorem sysoutWrite {d} (h : s.Keeps t) : s.Keeps (t.sysoutWrite d) := h.plainWrite.driveSysout

theorem clkPhaseWrite {d} (h : s.Keeps t) : s.Keeps (t.clkPhaseWrite d) :=
  .ite h.setFld (h.plainWrite.whenever fun h => .ite h (.ite h.setFld h.beside.setFld.setFld))

theorem execClkPhaseStepTick (h : s.Keeps t) : s.Reaches (execClkPhaseStepTick t) :=
  next (.ite (h.beside.wr.whenever fun h => h.setFld.setFld) h)

theorem execAonOscTimeout (h : s.Keeps t) : s.Reaches (execAonOscTimeout t) := h.setFld.next

/-! ### Link -/

theorem setQueue {n q} (h : s.Keeps t) : s.Keeps (t.setQueue n q) := h.beside

theorem relevel {n} (h : s.Keeps t) : s.Keeps (t.relevel n) := h.setFld.whenever fun h => h.setFld.count.event

theorem grant {n c} (h : s.Keeps t) : s.Keeps (t.grant n c) := .ite h (.ite h.countWrap.setQueue (.ite h.setQueue h))

theorem storePacket {n p req} (h : s.Keeps t) : s.Keeps (t.storePacket n p req).1 := by
  unfold State.storePacket
  split; exacts [h.beside.foldl (fun h => h.storePut), h]

theorem readPart {p lo hi req} (h : s.Keeps t) : s.Keeps (t.readPart p lo hi req).1 :=
  h.foldl_fst (fun h => by dsimp only; split; exacts [h.checkWord, h])

theorem readPacket {p req} (h : s.Keeps t) : s.Keeps (t.readPacket p req).1 := h.readPart

theorem putPacket {n p air serial req after} (h : s.Keeps t) : s.Keeps (t.putPacket n p air serial req after) :=
  h.storePacket.setQueue.relevel

theorem enqueue {n p} (h : s.Keeps t) : s.Keeps (t.enqueue n p) := h.putPacket

theorem consumeIf {n c} (h : s.Keeps t) : s.Keeps (t.consumeIf n c) := h.setQueue.relevel.grant

theorem dropSecs {n gone} (h : s.Keeps t) : s.Keeps (t.dropSecs n gone) := .ite h.beside h

theorem discardIf {n c} (h : s.Keeps t) : s.Keeps (t.discardIf n c) :=
  h.setQueue.relevel.dropSecs.count.whenever fun h => h.grant

theorem flushBit {n b} (h : s.Keeps t) : s.Keeps (t.flushBit n b) := h.wr

theorem enterRollCall (h : s.Keeps t) : s.Keeps t.enterRollCall :=
  ((h.forEach (fun h => h.setFld)).setFld.forEach (fun h => h.setQueue)).beside.setFld

theorem lockComplete (h : s.Keeps t) : s.Keeps t.lockComplete := (h.iff (fun h => h.setFld)).whenever fun h => h.enterRollCall

theorem linkDown {reason lane counts} (h : s.Keeps t) : s.Keeps (t.linkDown reason lane counts) :=
  h.setFld.setFld.setFld.setFld.setFld.setFld.setFld.setFld.setFld.beside.whenever fun h => h.count.whenever fun h =>
    h.setFld.event

theorem startTest {loop pattern ms} (h : s.Keeps t) : s.Keeps (t.startTest loop pattern ms) := h.beside.setFld.setFld

theorem afterDown {as} (h : s.Keeps t) : s.Keeps (t.afterDown as) :=
  h.foldl (fun h => by split; exacts [h.softOrWarm, .ite h.startTest h])

theorem flushQueue {n} (h : s.Keeps t) : s.Keeps (t.flushQueue n) := (h.discardIf.otherwise fun h => h.setQueue).flushBit

theorem endReception {k} (h : s.Keeps t) : s.Keeps (t.endReception k) :=
  h.forEach (fun h => .ite (h.setQueue.whenever fun h => h.flushQueue) h)

theorem leaveSession (h : s.Keeps t) : s.Keeps t.leaveSession :=
  (((h.endReception.endReception.discardIf.foldl (fun h => h.count)).beside.foldl (fun h => h.discardIf)).count.forEach (fun h
    => h.setQueue)).beside.setFld.setFld

theorem abortScan (h : s.Keeps t) : s.Keeps t.abortScan := .ite h.beside.setFld.lopEnd h

theorem leaveActive {reason lane} (h : s.Keeps t) : s.Keeps (t.leaveActive reason lane) :=
  .ite h.leaveSession.abortScan.linkDown.count.event.afterDown h

theorem afterMgas {as} (h : s.Keeps t) : s.Keeps (t.afterMgas as) :=
  h.foldl (fun h => by split; exacts [h.softOrWarm, .ite h.leaveActive.startTest h])

theorem flushNow {n} (h : s.Keeps t) : s.Keeps (t.flushNow n) := h.flushQueue.afterMgas

theorem pointerFault {n rx} (h : s.Keeps t) : s.Keeps (t.pointerFault n rx) :=
  (h.setQueue.dropSecs.beside.setFld.count.whenever fun h => h.grant).flushBit.event.afterMgas

theorem dropLink {reason lane counts} (h : s.Keeps t) : s.Keeps (t.dropLink reason lane counts) :=
  .ite h.leaveActive (.ite h h.linkDown)

theorem enterActive (h : s.Keeps t) : s.Keeps t.enterActive := by
  unfold State.enterActive
  exact (h.setFld.setFld.setFld.setFld.setFld.setFld.setFld.forEach (fun h => h.setQueue.setFld.setFld.branch (fun h =>
    h.setFld) fun h => h.setFld)).setFld.event.iff fun h => h.setFld

theorem tryActive (h : s.Keeps t) : s.Keeps t.tryActive := .ite h.enterActive h

theorem execLinkDownExit (h : s.Keeps t) : s.Reaches (execLinkDownExit t) :=
  next (.ite (h.forEach (fun h => h.wr)).beside.setFld h)

theorem execDetectionTry {term clk0 clk1 stable0 stable1} (h : s.Keeps t) :
    s.Reaches (execDetectionTry term clk0 clk1 stable0 stable1 t) :=
  next (.ite ((h.forEach (fun h => h.setFld)).setFld.setFld.beside.whenever fun h => h.beside.setFld) h)

theorem execTrainSettleEnd (h : s.Keeps t) : s.Reaches (execTrainSettleEnd t) := next (.ite h.setFld h)

theorem execLaneLock {lane phase block skew idOk} (h : s.Keeps t) : s.Reaches (execLaneLock lane phase block skew idOk t) :=
  next (.ite (.ite h.setFld.beside (.ite h (h.setFld.setFld.otherwise fun h => h.setFld.branch (fun h => h.setFld) fun h =>
    .ite h h.setFld.beside))) h)

theorem centreBuffers (h : s.Keeps t) : s.Keeps t.centreBuffers := h.wr.wr.beside

theorem execRxLockedSet (h : s.Keeps t) : s.Reaches (execRxLockedSet t) := next (.ite h.setFld.centreBuffers.lockComplete h)

theorem headerError {lane n} (h : s.Keeps t) : s.Keeps (t.headerError lane n) := .ite h.count h

theorem execDeskewBlockRx {lane payload} (h : s.Keeps t) : s.Reaches (execDeskewBlockRx lane payload t) :=
  next (.ite h.headerError (.ite (.lockComplete (.ite h.beside h.beside)) h))

theorem execBringupTimeout (h : s.Keeps t) : s.Reaches (execBringupTimeout t) := next (.ite h.dropLink h)

theorem execRollCallConclude (h : s.Keeps t) : s.Reaches (execRollCallConclude t) := by
  refine next ?_
  split
  · exact .ite ((h.beside.forEach (fun h => h.iff (fun h => h.event))).branch (fun h => h.beside.tryActive) fun h =>
      h.dropLink) h
  · exact h

theorem execSwitchBlockRx {lane payload} (h : s.Keeps t) : s.Reaches (execSwitchBlockRx lane payload t) :=
  next (.ite h.headerError (.ite h.beside.tryActive h))

theorem execClkLoss {bundle} (h : s.Keeps t) : s.Reaches (execClkLoss bundle t) := next (.ite h.leaveActive h)

theorem execBlockLockLoss {lane headers} (h : s.Keeps t) : s.Reaches (execBlockLockLoss lane headers t) :=
  (h.headerError.whenever fun h => h.leaveActive).next

theorem recordFill {k offset} (h : s.Keeps t) : s.Keeps (t.recordFill k offset) := h.wr

theorem bufferOffset {k offset} (h : s.Keeps t) : s.Keeps (t.bufferOffset k offset) :=
  .ite ((h.recordFill.whenever fun h => h.beside.event).whenever fun h => h.leaveActive) h

theorem execEbufSlip {bundle offset} (h : s.Keeps t) : s.Reaches (execEbufSlip bundle offset t) := h.bufferOffset.next

theorem execEbufWander {bundle offset} (h : s.Keeps t) : s.Reaches (execEbufWander bundle offset t) := h.bufferOffset.next

theorem endTest {reason} (h : s.Keeps t) : s.Keeps (t.endTest reason) := h.linkDown.setFld

theorem lnkCtrlWrite {d} (h : s.Keeps t) : s.Keeps (t.lnkCtrlWrite d) :=
  (h.setFld.whenever fun h => .setFld (.setFld (.ite h.endTest h.dropLink))).whenever fun h => h.dropLink

theorem lnkTestWrite {q d} (h : s.Keeps t) : s.Keeps (t.lnkTestWrite q d) :=
  (h.plainWrite.whenever fun h => (h.forEach (fun h => h.wr)).wr.wr).whenever fun h => .ite h.beside h.leaveActive.startTest

theorem checkerCounts {errors ui} (h : s.Keeps t) : s.Keeps (t.checkerCounts errors ui) :=
  .ite (h.forEach (fun h => h.iff (fun h => h.count))).wr.wr h

theorem checkerTick (h : s.Keeps t) : s.Keeps t.checkerTick := .ite h.checkerCounts.useFresh h

theorem execTestEnd {silent errors ui} (h : s.Keeps t) : s.Reaches (execTestEnd silent errors ui t) :=
  next (.ite h.checkerCounts.endTest h)

theorem lnkMarginWrite {d} (h : s.Keeps t) : s.Keeps (t.lnkMarginWrite d) :=
  .ite h.setFld (h.plainWrite.whenever fun h => .ite h.lopStart.lopEnd.setFld (.ite h.lopStart.lopEnd.setFld h.beside.lopStart))

theorem execLop9UnitEnd {counts} (h : s.Keeps t) : s.Reaches (execLop9UnitEnd counts t) :=
  next (by split; exacts [.ite (h.storePut.lopUnits.beside.whenever fun h => h.setFld.lopEnd) h, h])

theorem lnkEqWrite {a d} (h : s.Keeps t) : s.Keeps (t.lnkEqWrite a d) := .ite h.wr h.wr

theorem lnkDestWrite {d} (h : s.Keeps t) : s.Keeps (t.lnkDestWrite d) := h.wr

/-! ### Packets -/

theorem setFramingLost {k b} (h : s.Keeps t) : s.Keeps (t.setFramingLost k b) := h.beside

theorem loseFraming {k p} (h : s.Keeps t) : s.Keeps (t.loseFraming k p) := h.setFramingLost.count.event

theorem checkSeq {k p} (h : s.Keeps t) : s.Keeps (t.checkSeq k p).1 := by
  unfold State.checkSeq
  dsimp only; split; exacts [h.setQueue, .ite_fst h.setQueue (.ite_fst h.count.event.setQueue h)]

theorem checkPkt {k p} (h : s.Keeps t) : s.Keeps (t.checkPkt k p).1 :=
  .ite_fst (.grant (.event (.count (.ite h.countWrap h)))) (.ite_fst (.ite h.countWrap h) (.ite_fst (.grant (.count (.ite
    h.countWrap h))) (.ite_fst (.event (.count (.ite h.countWrap h))) (.ite_fst (.checkSeq (.ite h.countWrap h)) (.grant
    (.count (.checkSeq (.ite h.countWrap h))))))))

theorem receive {k afterControl cut p} (h : s.Keeps t) : s.Keeps (t.receive k afterControl cut p).1 :=
  .ite_fst h (.ite_fst h (.ite_fst h.setFramingLost.loseFraming (.ite_fst h.setFramingLost.count.event
    h.setFramingLost.checkPkt)))

theorem discardArrived {p} (h : s.Keeps t) : s.Keeps (t.discardArrived p) := h.count.grant

theorem onAccept {k afterControl cut p f} (h : s.Keeps t) (hf : ∀ {t}, s.Keeps t → s.Keeps (f t)) :
    s.Keeps (t.onAccept k afterControl cut p f) :=
  (h.receive.whenever fun h => .ite h.discardArrived (hf h)).otherwise fun h => h.endReception

theorem send {k p} (h : s.Keeps t) : s.Keeps (t.send k p) := h.beside

theorem endFlight {k} (h : s.Keeps t) : s.Keeps (t.endFlight k) := h.beside.afterMgas

theorem flightTick (h : s.Keeps t) : s.Keeps t.flightTick := h.beside.forEach (fun h => .ite h.endFlight h)

theorem sendStored {n k p seq init} (h : s.Keeps t) : s.Keeps (t.sendStored n k p seq init) := h.readPacket.beside

theorem mgqKick (h : s.Keeps t) : s.Keeps t.mgqKick := .ite (by split; exacts [h.setQueue.beside, h]) h

theorem mgaSend {m result} (h : s.Keeps t) : s.Keeps (t.mgaSend m result) :=
  h.beside.consumeIf.branch (fun h => h.putPacket.mgqKick) fun h => h.count.afterDown

theorem mgqReject (h : s.Keeps t) : s.Keeps t.mgqReject := by
  unfold State.mgqReject
  split; exacts [.ite h.mgaSend h, h]

theorem mgqStart {n} (h : s.Keeps t) : s.Keeps (State.mgqStart n t) := by
  induction n generalizing t with
  | zero => exact h.mgqKick
  | succ n ih =>
    unfold State.mgqStart
    dsimp only
    split
    · exact .ite (ih h.mgqKick.mgqReject) h.mgqKick
    · exact h.mgqKick

theorem execOutboundPacketSend {queue bundle upsets} (h : s.Keeps t) :
    s.Reaches (execOutboundPacketSend queue bundle upsets t) := by
  refine ((h.hits.whenever fun h => h.endFlight).whenever fun h => ?_).next
  split
  · exact h.setQueue.relevel.countWrap.sendStored.whenever fun h => h.mgqStart
  · exact h

theorem execCrdReceive {bundle afterControl cut bytes} (h : s.Keeps t) :
    s.Reaches (execCrdReceive bundle afterControl cut bytes t) := by
  refine (h.onAccept fun h => (h.foldl fun h => ?_).mgqStart).next
  dsimp only
  split; exacts [.ite h (.ite h.setQueue h.setFld), h]

theorem execCrdReconcile {queue} (h : s.Keeps t) : s.Reaches (execCrdReconcile queue t) :=
  next (by split; exacts [h.setQueue.whenever fun h => h.countWrap.grant, h])

theorem execCapReceive {bundle afterControl cut bytes} (h : s.Keeps t) :
    s.Reaches (execCapReceive bundle afterControl cut bytes t) := by
  refine (h.onAccept fun h => .ite h (.ite (.ite h.beside h) ?_)).next
  extract_lets
  split; exacts [h.event, (h.beside.foldl fun h => h.wr).setFld]

theorem execLbkReceive {bundle afterControl cut bytes} (h : s.Keeps t) :
    s.Reaches (execLbkReceive bundle afterControl cut bytes t) :=
  (h.onAccept (fun h => .ite h.count h.beside)).next

theorem execLbkEcho (h : s.Keeps t) : s.Reaches (execLbkEcho t) :=
  next (by split; exacts [h.endFlight.whenever fun h => h.beside.send, h])

theorem execMgqReceive {bundle afterControl cut bytes} (h : s.Keeps t) :
    s.Reaches (execMgqReceive bundle afterControl cut bytes t) :=
  (h.onAccept (fun h => h.enqueue.mgqStart)).next

theorem execMgqStartDeferred (h : s.Keeps t) : s.Reaches (execMgqStartDeferred t) := h.mgqStart.next

theorem execCrdSend {all} (h : s.Keeps t) : s.Reaches (execCrdSend all t) :=
  next (.whenever (.ite h.endFlight h) fun h => (h.foldl (fun h => h.setQueue)).send)

theorem sendCap {p} (h : s.Keeps t) : s.Keeps (t.sendCap p) := h.beside

theorem execCapSend {ack} (h : s.Keeps t) : s.Reaches (execCapSend ack t) :=
  next (.ite (.ite (.ite h.beside.sendCap h) (.ite h h.sendCap)) h)

theorem execEvtSend (h : s.Keeps t) : s.Reaches (execEvtSend t) := next (.ite h.beside.enqueue h)

theorem execEvtKeepalive (h : s.Keeps t) : s.Reaches (execEvtKeepalive t) := next (.ite h.enqueue h)

theorem addRecord {r n} (h : s.Keeps t) : s.Keeps (t.addRecord r n) := .ite (.ite h.beside h.count) h

theorem queFlushWrite {rx d} (h : s.Keeps t) : s.Keeps (t.queFlushWrite rx d) :=
  h.forEach (fun h => .ite (.ite h.flushNow h.setQueue.flushBit) h)

theorem execQueuePointerMismatch {queue rx0 rx1} (h : s.Keeps t) : s.Reaches (execQueuePointerMismatch queue rx0 rx1 t) :=
  h.pointerFault.next

theorem queCtrlWrite {d} (h : s.Keeps t) : s.Keeps (t.queCtrlWrite d) :=
  h.setFld.whenever fun h => h.wr.wr.wr.forEach fun h => h.wr.wr.wr

theorem queCfgWrite {n d} (h : s.Keeps t) : s.Keeps (t.queCfgWrite n d) :=
  .ite h.setFld (.ite h (.whenever (.ite h.setFld h) fun h => h.setFld))

/-! ### Air -/

theorem windowWrite {d} (h : s.Keeps t) : s.Keeps (t.windowWrite d) := .ite h.wr h

theorem checkArrival {n c a} (h : s.Keeps t) : s.Keeps (t.checkArrival n c a).1 :=
  .ite_fst h.count.event.grant (.ite_fst h.count.event.grant (.ite_fst h.count.event.grant h))

theorem setSync {st} (h : s.Keeps t) : s.Keeps (t.setSync st) :=
  h.setFld.otherwise fun h => .ite h.beside.event (.ite h.event h)

theorem loadAir {d} (h : s.Keeps t) : s.Keeps (t.loadAir d) := h.beside

theorem lop0Stop {state err} (h : s.Keeps t) : s.Keeps (t.lop0Stop state err) := h.beside.setFld.setFld.setFld.lopEnd

theorem decideStep {d} (h : s.Keeps t) : s.Keeps (t.decideStep d) := .setFld (.beside (by split; exacts [.ite h.lop0Stop h, h]))

theorem disagree {d} (h : s.Keeps t) : s.Keeps (t.disagree d) := by
  unfold State.disagree
  dsimp only; split; exacts [h.count.branch (fun h => h.decideStep) fun h => h.beside, h.count.beside]

theorem observe {d} (h : s.Keeps t) : s.Keeps (t.observe d) :=
  h.wr.branch (fun h => h.loadAir.setSync) fun h => .ite (.ite h.setSync h.loadAir) (.ite h.beside.setSync h.disagree)

theorem useTim {p jitter} (h : s.Keeps t) : s.Keeps (t.useTim p jitter) :=
  .ite (.ite h.beside h.count) (.ite h.observe (.ite h.beside h.count))

theorem execTimReceive {bundle afterControl cut bytes jitter} (h : s.Keeps t) :
    s.Reaches (execTimReceive bundle afterControl cut bytes jitter t) :=
  (h.onAccept (fun h => h.useTim.grant)).next

theorem execAlignEdge {phase} (h : s.Keeps t) : s.Reaches (execAlignEdge phase t) :=
  next (.ite h.count (by extract_lets; split; exacts [h.beside.setFld.setFld.beside.observe, h.beside.setFld.setFld]))

theorem execSyncLossTimeout (h : s.Keeps t) : s.Reaches (execSyncLossTimeout t) := next (.ite h.setSync h)

theorem atmCtrlWrite {d} (h : s.Keeps t) : s.Keeps (t.atmCtrlWrite d) :=
  h.plainWrite.whenever fun h => .ite h.setFld.decideStep h.loadAir.setSync

theorem syncCtrlWrite {d} (h : s.Keeps t) : s.Keeps (t.syncCtrlWrite d) :=
  h.plainWrite.otherwise fun h => .ite h.setSync (.ite h.setSync h)

theorem execAlignOutPulse (h : s.Keeps t) : s.Reaches (execAlignOutPulse t) := next (.ite h.beside h)

theorem ttCtrlWrite {d} (h : s.Keeps t) : s.Keeps (t.ttCtrlWrite d) :=
  (h.setFld.whenever fun h => h.setFld).whenever fun h => h.setFld

theorem execTtSwap (h : s.Keeps t) : s.Reaches (execTtSwap t) := next (.ite h.setFld.setFld.beside.setFld.setFld h)

theorem ttAt {a} (h : s.Keeps t) : s.Keeps (t.ttAt a) := .ite h.setFld.beside h

theorem ttRowWrite {a d} (h : s.Keeps t) : s.Keeps (t.ttRowWrite a d) := .ite h h.wr

theorem updateEnd {done} (h : s.Keeps t) : s.Keeps (t.updateEnd done) :=
  (h.setFld.setFld.whenever fun h => h.count).beside.event

theorem updCtrlWrite {d} (h : s.Keeps t) : s.Keeps (t.updCtrlWrite d) :=
  .ite h.setFld (h.plainWrite.whenever fun h => .ite h.updateEnd h.setFld.setFld.beside)

theorem execBmbPrefetchEnd (h : s.Keeps t) : s.Reaches (execBmbPrefetchEnd t) :=
  next (.ite (.ite (.beside (.setFld (.whenever (.ite_fst h.storeRead h) fun h => h.setFld))) (.updateEnd (.setFld (.ite_fst
    h.storeRead h)))) h)

theorem execBmbUpdateBoundary (h : s.Keeps t) : s.Reaches (execBmbUpdateBoundary t) := next (.ite h.setFld h)

theorem execBmbWritebackEnd (h : s.Keeps t) : s.Reaches (execBmbWritebackEnd t) :=
  next (.ite (h.foldl (fun h => h.storePut.setFld.setFld)).updateEnd h)

theorem takeMap {m} (h : s.Keeps t) : s.Keeps (t.takeMap m) := .ite h.beside.setFld.setFld h

theorem peerWrite {k w d} (h : s.Keeps t) : s.Keeps (t.peerWrite k w d) := by
  unfold State.peerWrite
  dsimp only; split; exacts [h.plainWrite.whenever fun h => h.setFld.event, h.plainWrite]

theorem stopJoint (h : s.Keeps t) : s.Keeps t.stopJoint := by
  unfold State.stopJoint
  split; exacts [.ite h.lop0Stop h, h]

theorem execJointOkChange (h : s.Keeps t) : s.Reaches (execJointOkChange t) := h.setFld.stopJoint.next

/-! ### Boot -/

theorem decideAttempt (h : s.Keeps t) : s.Keeps t.decideAttempt :=
  h.setFld.branch (fun h => h.detainAtLimit) fun h => h.count.setFld.setFld.beside.journalPut

theorem takeDirectory {sfdp} (h : s.Keeps t) : s.Keeps (t.takeDirectory sfdp) := by
  unfold State.takeDirectory
  dsimp only; split; exacts [h.beside.setFld, h.beside]

theorem scanAfterPor (h : s.Keeps t) : s.Keeps t.scanAfterPor := by
  unfold State.scanAfterPor
  split; exacts [.ite h.scanJournal h, h]

theorem directoryRead {cause} (h : s.Keeps t) : s.Keeps (t.directoryRead cause) :=
  .ite h.scanAfterPor.enterDetention (.ite h.scanAfterPor.failEarly (.ite h.scanAfterPor.decideAttempt h.failEarly))

theorem flashStep {id sfdp} (h : s.Keeps t) : s.Keeps (t.flashStep id sfdp) :=
  .ite h.takeDirectory.directoryRead (h.beside.whenever fun h => h.directoryRead)

theorem execStartFlashProbe {fusesAgree flashId sfdp} (h : s.Keeps t) :
    s.Reaches (execStartFlashProbe fusesAgree flashId sfdp t) :=
  next (.ite h (.ite (.flashStep (.ite h.setFld h)) (.ite h.flashStep h)))

theorem execFlashIdRetry {flashId sfdp} (h : s.Keeps t) : s.Reaches (execFlashIdRetry flashId sfdp t) :=
  next (.ite h.flashStep h)

theorem headerStep (h : s.Keeps t) : s.Keeps t.headerStep := by
  unfold State.headerStep
  extract_lets; split; exacts [h.setFld.beside.failAttempt, h.setFld.beside.beside.setFld.wr.setFld.programRoot]

theorem afterRecord {r} (h : s.Keeps t) : s.Keeps (t.afterRecord r) := by
  unfold State.afterRecord
  split; exacts [h.journalKick, h.headerStep.journalKick, h.beginStart, h.enterDetention, h.setFld.journalKick]

theorem nextPosition (h : s.Keeps t) : s.Keeps t.nextPosition := h.beside

theorem execJournalRecordReadback {read} (h : s.Keeps t) : s.Reaches (execJournalRecordReadback read t) := by
  refine next ?_
  split
  · exact h
  · exact .branch (.nextPosition (by split; exacts [h.putFlash, h.putFlash.useFresh])) (fun h => h.beside.afterRecord) fun h =>
      .ite h.setFld.event.afterRecord h.beside.journalKick

theorem execJournalSectorEraseEnd (h : s.Keeps t) : s.Reaches (execJournalSectorEraseEnd t) :=
  next (by split; exacts [.ite h.eraseFlash.beside.journalKick h, h])

theorem switchFlash {sfdpComplete} (h : s.Keeps t) : s.Keeps (t.switchFlash sfdpComplete) := h.beside.whenever fun h => h.setFld

theorem execRootLockReached {sfdpComplete} (h : s.Keeps t) : s.Reaches (execRootLockReached sfdpComplete t) :=
  next (.ite (h.setFld.setFld.driveSysout.switchFlash.whenever fun h => h.setFld) h)

theorem execRootLockStartTimeout (h : s.Keeps t) : s.Reaches (execRootLockStartTimeout t) := next (.ite h.failAttempt h)

theorem execStartThermalPoll {t8 t9 limit} (h : s.Keeps t) : s.Reaches (execStartThermalPoll t8 t9 limit t) :=
  next (.ite (.ite h.beside.setFld (.ite h.failAttempt h.beside)) h)

theorem execCoreStartTimeout (h : s.Keeps t) : s.Reaches (execCoreStartTimeout t) := next (.ite h.failAttempt h)

theorem execLinkTimeout (h : s.Keeps t) : s.Reaches (execLinkTimeout t) := next (.ite h.failAttempt h)

theorem execHeartbeatGap (h : s.Keeps t) : s.Reaches (execHeartbeatGap t) := next (.ite h.failAttempt h)

theorem tidyJournal (h : s.Keeps t) : s.Keeps t.tidyJournal := by
  unfold State.tidyJournal
  split; exacts [.ite h.beside h, h]

theorem rewriteDirectory (h : s.Keeps t) : s.Keeps t.rewriteDirectory := by
  unfold State.rewriteDirectory
  split; exacts [.ite h h.eraseFlash.putFlash.beside.setFld.journalPut.event, h]

theorem execStartCompletion (h : s.Keeps t) : s.Reaches (execStartCompletion t) :=
  next (.ite h.setFld.setFld.setFld.journalPut.event.rewriteDirectory.tidyJournal h)

/-! ### Proctor -/

theorem loadBytes {a bs} (h : s.Keeps t) : s.Keeps (t.loadBytes a bs) := h.foldl fun h => h.wr

theorem runCmd {op} (h : s.Keeps t) : s.Keeps (t.runCmd op) := h.beside

theorem procCmdWrite {d} (h : s.Keeps t) : s.Keeps (t.procCmdWrite d) :=
  .ite h.setFld (h.plainWrite.whenever fun h => h.setFld.setFld.branch (fun h => h.beside) fun h => h.runCmd)

theorem runLop6 (h : s.Keeps t) : s.Keeps t.runLop6 :=
  .ite h.setFld.lopEnd (.ite h.setFld.lopEnd (.ite h.setFld.event.setFld.lopEnd h.beside.lopRun))

theorem kickLop6 (h : s.Keeps t) : s.Keeps t.kickLop6 := .ite h.runLop6 h

theorem attCtrlWrite {d unseals} (h : s.Keeps t) : s.Keeps (t.attCtrlWrite d unseals) :=
  .ite h.setFld (h.plainWrite.whenever fun h => h.beside.loadBytes.setFld.lopStart.kickLop6)

theorem report {k bs} (h : s.Keeps t) : s.Keeps (t.report k bs) := h.loadBytes

theorem reportRun (h : s.Keeps t) : s.Keeps t.reportRun := h.report.report

theorem reportAlt (h : s.Keeps t) : s.Keeps t.reportAlt := by
  unfold State.reportAlt
  split; exacts [h.report.wr, h]

theorem reportSign (h : s.Keeps t) : s.Keeps t.reportSign := h.report.useFresh

theorem execLop6UnitEnd (h : s.Keeps t) : s.Reaches (execLop6UnitEnd t) := by
  have report {n} : s.Keeps (match n with
      | 0 => t.reportRun
      | 1 => t.reportAlt
      | 2 => t.report 224 (sha512 (t.fuseBytes 0 256))
      | _ => t.reportSign) := by
    split; exacts [h.reportRun, h.reportAlt, h.report, h.reportSign]
  refine next (.ite (.otherwise report.beside.lopUnits fun h => ?_) h)
  dsimp only
  split; exacts [h.setFld.lopEnd.runCmd, h.setFld.lopEnd]

theorem closeChallenge (h : s.Keeps t) : s.Keeps t.closeChallenge := h.setFld.loadBytes

theorem submitEnd {c} (h : s.Keeps t) : s.Keeps (t.submitEnd c) :=
  h.closeChallenge.branch (fun h => h.beside.setFld) fun h => h.count.whenever fun h => h.setFld

theorem programFuses {c misread} (h : s.Keeps t) : s.Keeps (t.programFuses c misread) := (h.foldl (fun h => h.blow)).senseFuses

theorem execProcCmdEnd {misread} (h : s.Keeps t) : s.Reaches (execProcCmdEnd misread t) := by
  refine next ?_
  split
  · refine .kickLop6 (.setFld (.setFld (.setFld (.beside ?_))))
    split
    · exact h.programFuses.loadBytes.useFresh.setFld
    · exact h.programFuses.submitEnd
    · exact h.programFuses.setFld
    · exact h.programFuses
  · exact h

theorem execChallengeLapse (h : s.Keeps t) : s.Reaches (execChallengeLapse t) := next (.ite h.closeChallenge h)

/-! ### Flash -/

theorem runFlashN {n} (h : s.Keeps t) : s.Keeps (State.runFlashN n t) := by
  induction n generalizing t with
  | zero => exact h
  | succ n ih =>
    unfold State.runFlashN
    split
    · refine .ite ?_ h
      split; exacts [ih h.setFld.lopEnd.beside, h.lopRun]
    · exact .ite h.lopRun.lopUnits h
    · exact h

theorem runFlash (h : s.Keeps t) : s.Keeps t.runFlash := h.runFlashN

theorem flashDone (h : s.Keeps t) : s.Keeps t.flashDone := h.beside.runFlash.kickLop6

theorem lop7End {state err} (h : s.Keeps t) : s.Keeps (t.lop7End state err) := h.setFld.lopEnd.flashDone

theorem flCtrlWrite {d} (h : s.Keeps t) : s.Keeps (t.flCtrlWrite d) :=
  .ite h.setFld (h.plainWrite.whenever fun h => h.lopStart.branch (fun h => h.lopEnd) fun h => h.setFld.beside.runFlash)

theorem flashSource {f k n} (h : s.Keeps t) : s.Keeps (t.flashSource f k n).1 := .ite_fst h (.ite_fst h h.storeRead)

theorem flashSink {f k bs} (h : s.Keeps t) : s.Keeps (t.flashSink f k bs).1 := .ite_fst h.loadBytes (.ite_fst h h.storeWrite)

theorem lop7Unit {f k a n o} (h : s.Keeps t) : s.Keeps (t.lop7Unit f k a n o).1 := by
  have source : s.Keeps (t.flashSource f k n).1 := h.flashSource
  unfold State.lop7Unit
  split
  · exact h.spoilSector
  · exact h.eraseFlash
  · exact h.putFlash.useFresh
  · split
    · next eq => rw [eq] at source; exact source.putFlash
    · next eq => rw [eq] at source; exact source
  · split
    · next eq => rw [eq] at source; exact source.putFlash
    · next eq => rw [eq] at source; exact source
  · exact h.flashSink

theorem execLop7UnitEnd {outcome} (h : s.Keeps t) : s.Reaches (execLop7UnitEnd outcome t) := by
  refine next ?_
  split
  · refine .ite ?_ h
    extract_lets _ _ _ r
    have unit : s.Keeps r.1 := h.lop7Unit
    split; exacts [unit.lop7End, unit.beside.lopUnits.whenever fun h => h.lop7End]
  · exact h

theorem lop8End {err offset} (h : s.Keeps t) : s.Keeps (t.lop8End err offset) := h.setFld.wr.lopEnd.flashDone

theorem verifyCtrlWrite {d} (h : s.Keeps t) : s.Keeps (t.verifyCtrlWrite d) :=
  h.setFld.whenever fun h => h.setFld.lopStart.beside.runFlash

theorem execLop8UnitEnd (h : s.Keeps t) : s.Reaches (execLop8UnitEnd t) := by
  refine next ?_
  split
  · refine .ite ?_ h
    extract_lets
    split; exacts [h.lop8End, h.lopUnits.whenever fun h => h.lop8End]
  · exact h

/-! ### Carrier -/

theorem setCarriers {up c} (h : s.Keeps t) : s.Keeps (t.setCarriers up c) := .ite h.beside h.beside

theorem commit {up} (h : s.Keeps t) : s.Keeps (t.commit up) := by
  unfold State.commit
  dsimp only; split; exacts [h.setFld.setFld.event, h.setFld.setFld.setFld.setCarriers]

theorem clearChainCounters {up} (h : s.Keeps t) : s.Keeps (t.clearChainCounters up) :=
  .ite (((h.foldl (fun h => h.wr)).forEach (fun h => h.wr)).forEach (fun h => h.setFld.setFld)) ((h.foldl (fun h =>
    h.wr)).forEach (fun h => h.wr.wr))

theorem chainCtrlWrite {up d} (h : s.Keeps t) : s.Keeps (t.chainCtrlWrite up d) :=
  .ite h.setFld (.whenever (.whenever (.ite h.clearChainCounters h) fun h => h.setFld) fun h => h.commit)

theorem iqBankSwap {up} (h : s.Keeps t) : s.Keeps (t.iqBankSwap up) := .ite h.setFld.setFld h

theorem iqWrite {up a d} (h : s.Keeps t) : s.Keeps (t.iqWrite up a d) := .ite h h.plainWrite

/-! ### Chain -/

theorem keepNco {k} (h : s.Keeps t) : s.Keeps (t.keepNco k) := h.beside

/-! ### Front -/

theorem gainWrite {c d} (h : s.Keeps t) : s.Keeps (t.gainWrite c d) := h.plainWrite.beside

theorem firCtrlWrite {c d} (h : s.Keeps t) : s.Keeps (t.firCtrlWrite c d) :=
  .ite h.setFld (h.plainWrite.otherwise fun h => h.beside)

theorem execFirBankSwap {c} (h : s.Keeps t) : s.Reaches (execFirBankSwap c t) := next (.ite h.beside.setFld.setFld h)

theorem firWrite {a d} (h : s.Keeps t) : s.Keeps (t.firWrite a d) := .ite h h.plainWrite

theorem rssiStart {p} (h : s.Keeps t) : s.Keeps (t.rssiStart p) := h.beside

theorem rssiStates {p} (h : s.Keeps t) : s.Keeps (t.rssiStates p) :=
  .ite (.whenever (.ite (.ite h.setFld h) (.ite h.setFld.event h)) fun h => h.setFld) (.whenever (.ite (.ite h.setFld h) (.ite
    h.setFld.event h)) fun h => h.setFld.event)

theorem execRssiWindowClose {path} (h : s.Keeps t) : s.Reaches (execRssiWindowClose path t) :=
  next (.ite h.wr.setFld.setFld.countWrap.rssiStates.beside h)

theorem rssiCfgWrite {p d} (h : s.Keeps t) : s.Keeps (t.rssiCfgWrite p d) :=
  h.plainWrite.rssiStart.otherwise fun h => h.setFld.setFld

/-! ### Sections -/

theorem hold {n p air} (h : s.Keeps t) : s.Keeps (t.hold n p air) := h.putPacket.beside

theorem secInvalid {reason carrier id n} (h : s.Keeps t) : s.Keeps (t.secInvalid reason carrier id n) := h.count.event

theorem dldDiscard {reason carrier sub} (h : s.Keeps t) : s.Keeps (t.dldDiscard reason carrier sub) := h.count.event

theorem arrive {n p a named unnamed} (h : s.Keeps t) (hnamed : ∀ {t x0}, s.Keeps t → s.Keeps (named t x0)) (hunnamed : ∀ {t},
    s.Keeps t → s.Keeps (unnamed t)) :
    s.Keeps (t.arrive n p a named unnamed) := by
  unfold State.arrive
  dsimp only
  split
  · exact h.checkArrival.whenever fun h => hnamed h
  · exact .ite (hunnamed h.grant) h.checkArrival

theorem execDldReceive {bundle afterControl cut bytes} (h : s.Keeps t) :
    s.Reaches (execDldReceive bundle afterControl cut bytes t) :=
  (h.onAccept (fun h => h.arrive (fun h => h.hold) (fun h => h.dldDiscard))).next

theorem holdSection {h'} (h : s.Keeps t) : s.Keeps (t.holdSection h') := .ite h.beside h.secInvalid

theorem holdSections {b carrier count serial airs} (h : s.Keeps t) : s.Keeps (t.holdSections b carrier count serial airs) :=
  h.foldl (fun h => .ite (h.foldl (fun h => h.holdSection)) h.secInvalid)

theorem takeSec {p m a} (h : s.Keeps t) : s.Keeps (t.takeSec p m a) :=
  .ite h.secInvalid.grant (.ite h.grant h.hold.holdSections)

theorem execSecReceive {bundle afterControl cut bytes} (h : s.Keeps t) :
    s.Reaches (execSecReceive bundle afterControl cut bytes t) :=
  (h.onAccept (fun h => h.arrive (fun h => h.takeSec) (fun h => h.secInvalid))).next

theorem execWgtReceive {bundle afterControl cut bytes} (h : s.Keeps t) :
    s.Reaches (execWgtReceive bundle afterControl cut bytes t) :=
  (h.onAccept (fun h => h.arrive (fun h => .ite h.secInvalid.grant h.hold) (fun h => h.secInvalid))).next

theorem endWgtSlots {a} (h : s.Keeps t) : s.Keeps (t.endWgtSlots a) := h.consumeIf

theorem releaseSecs {c a} (h : s.Keeps t) : s.Keeps (t.releaseSecs c a) := h.consumeIf

theorem dropHeld {c} (h : s.Keeps t) : s.Keeps (t.dropHeld c) := h.beside

theorem dropScheduled (h : s.Keeps t) : s.Keeps t.dropScheduled := h.dropHeld.foldl fun h => h.consumeIf

theorem execTimeStepApply (h : s.Keeps t) : s.Reaches (execTimeStepApply t) :=
  next (by split; exacts [h.loadAir.dropScheduled.beside.beside.count.setFld.setFld.event, h])

theorem flushCarrier {up c} (h : s.Keeps t) : s.Keeps (t.flushCarrier up c) := h.keepNco.beside

theorem copyInForce {up} (h : s.Keeps t) : s.Keeps (t.copyInForce up) :=
  (h.forEach (fun h => h.iff (fun h => h.flushCarrier))).setCarriers.setFld.setFld.setFld.branch (fun h =>
    h.count.dropHeld.consumeIf) fun h => h.count.dropHeld.consumeIf.foldl fun h => h.count.consumeIf

/-! ### Rf -/

theorem eventOnce {code source info} (h : s.Keeps t) : s.Keeps (t.eventOnce code source info) := .ite h h.beside.event

theorem putChanByte {c k b} (h : s.Keeps t) : s.Keeps (t.putChanByte c k b) := h.setFld

theorem putChanBytes {c k bs} (h : s.Keeps t) : s.Keeps (t.putChanBytes c k bs) := h.foldl fun h => h.putChanByte

theorem setSynth {g x y} (h : s.Keeps t) : s.Keeps (t.setSynth g x y) := h.beside

theorem notReady {g tx rx} (h : s.Keeps t) : s.Keeps (t.notReady g tx rx) :=
  .whenever (.whenever (.ite h.count h) fun h => h.count) fun h => h.event

theorem driveFec {line level} (h : s.Keeps t) : s.Keeps (t.driveFec line level) := h.beside

theorem holdTxLow {g} (h : s.Keeps t) : s.Keeps (t.holdTxLow g) := h.beside.foldl fun h => h.driveFec

theorem groupSilent {g} (h : s.Keeps t) : s.Keeps (t.groupSilent g) := h.beside

theorem checkReady {g} (h : s.Keeps t) : s.Keeps (t.checkReady g) := .ite h (h.notReady.whenever fun h => h.holdTxLow).beside

theorem setLo {g x st} (h : s.Keeps t) : s.Keeps (t.setLo g x st) := (h.setFld.whenever fun h => h.setSynth).checkReady

theorem cancelPhase {g x} (h : s.Keeps t) : s.Keeps (t.cancelPhase g x) := h.setSynth.setFld.setFld

theorem retune {g x c} (h : s.Keeps t) : s.Keeps (t.retune g x c) :=
  .ite h.event (.ite h.event h.cancelPhase.setSynth.setFld.setLo)

theorem requestRetune {g x c} (h : s.Keeps t) : s.Keeps (t.requestRetune g x c) := .ite h h.retune

theorem stopLo {g x} (h : s.Keeps t) : s.Keeps (t.stopLo g x) := h.cancelPhase.setLo

theorem loCtrlWrite {g x d} (h : s.Keeps t) : s.Keeps (t.loCtrlWrite g x d) :=
  .ite h.setFld ((h.plainWrite.whenever fun h => h.stopLo).whenever fun h => h.requestRetune)

theorem execLoFastLock {g x} (h : s.Keeps t) : s.Reaches (execLoFastLock g x t) := next (.ite h.setLo h)

theorem execLoFastLockTimeout {g x} (h : s.Keeps t) : s.Reaches (execLoFastLockTimeout g x t) := next (.ite h.setLo h)

theorem execVcoCalEnd {g x codes} (h : s.Keeps t) : s.Reaches (execVcoCalEnd g x codes t) :=
  next (.ite h.putChanBytes.setSynth.count.event.setLo h)

theorem execVcoCalLockTimeout {g x} (h : s.Keeps t) : s.Reaches (execVcoCalLockTimeout g x t) :=
  next (.ite h.count.event.setLo h)

theorem loselWrite {g d} (h : s.Keeps t) : s.Keeps (t.loselWrite g d) := h.plainWrite.beside

theorem applyBand {g} (h : s.Keeps t) : s.Keeps (t.applyBand g) := .ite h h.beside.stopLo.stopLo

theorem loPhaseWrite {g x d} (h : s.Keeps t) : s.Keeps (t.loPhaseWrite g x d) :=
  .ite h.setFld (h.plainWrite.whenever fun h => h.setSynth.setFld.setFld)

theorem execLoPhasePiece {g x} (h : s.Keeps t) : s.Reaches (execLoPhasePiece g x t) :=
  next (.ite (h.setFld.branch (fun h => h.cancelPhase) fun h => h.setSynth) h)

theorem execRootLockLoss (h : s.Keeps t) : s.Reaches (execRootLockLoss t) :=
  next (.ite ((h.setFld.setFld.count.event.branch (fun h => h.endTest) fun h => h.dropLink).forEach (fun h => h.checkReady)) h)

theorem execRootRelock (h : s.Keeps t) : s.Reaches (execRootRelock t) :=
  next (.ite (h.setFld.forEach (fun h => h.iff (fun h => h.retune))) h)

theorem setRffe {g r} (h : s.Keeps t) : s.Keeps (t.setRffe g r) := h.beside

theorem rffeEnd {g} (h : s.Keeps t) : s.Keeps (t.rffeEnd g) := h.setRffe.setFld.setFld.setFld

theorem rffeNext {g j count} (h : s.Keeps t) : s.Keeps (t.rffeNext g j count) :=
  .ite h.rffeEnd (.ite h.setRffe (h.setRffe.whenever fun h => h.setFld.event))

theorem rffeCtrlWrite {g d} (h : s.Keeps t) : s.Keeps (t.rffeCtrlWrite g d) := by
  refine .ite h.setFld (.ite (.ite ?_ h) (h.plainWrite.whenever fun h => (h.forEach fun h => h.wr).setFld.setFld.rffeNext))
  extract_lets
  split; exacts [h.setFld.otherwise fun h => h.rffeEnd, h.setFld]

theorem execRffeEntryStart {g} (h : s.Keeps t) : s.Reaches (execRffeEntryStart g t) :=
  next (by split; exacts [.ite h h.rffeNext, h])

theorem execRffeEntryEnd {g data parity} (h : s.Keeps t) : s.Reaches (execRffeEntryEnd g data parity t) :=
  next (by split; exacts [.ite (.rffeNext (.setFld (.whenever (.ite h.wr h) fun h => h.setFld.event))) h, h])

theorem rffeEntWrite {g a d} (h : s.Keeps t) : s.Keeps (t.rffeEntWrite g a d) := .ite h h.plainWrite

/-! ### Sfd -/

theorem sfdCommit (h : s.Keeps t) : s.Keeps t.sfdCommit :=
  h.setFld.branch (fun h => h.setFld.event) fun h => h.setFld.setFld.beside

theorem clearSfdCounters (h : s.Keeps t) : s.Keeps t.clearSfdCounters :=
  (h.setFld.setFld.forEach (fun h => h.setFld)).forEach fun h => h.wr

theorem sfdCtrlWrite {d} (h : s.Keeps t) : s.Keeps (t.sfdCtrlWrite d) :=
  .ite h.setFld ((h.setFld.whenever fun h => h.clearSfdCounters).whenever fun h => h.sfdCommit)

theorem execSfdCommitInForce (h : s.Keeps t) : s.Reaches (execSfdCommitInForce t) :=
  next (.ite h.keepNco.beside.setFld.setFld.setFld.wr h)

theorem recheckPlan {up} (h : s.Keeps t) : s.Keeps (t.recheckPlan up) := .ite h.beside.setFld.event h

theorem execDlcCommitInForce (h : s.Keeps t) : s.Reaches (execDlcCommitInForce t) := next (.ite h.copyInForce.recheckPlan h)

theorem execUlcCommitInForce (h : s.Keeps t) : s.Reaches (execUlcCommitInForce t) := next (.ite h.copyInForce.recheckPlan h)

theorem sfdLoadError {err cls} (h : s.Keeps t) : s.Keeps (t.sfdLoadError err cls) := h.setFld.setFld.beside.setFld.event

theorem lop3Unit {result caps before after} (h : s.Keeps t) : s.Keeps (t.lop3Unit result caps before after) := by
  unfold State.lop3Unit
  split; exacts [by split; exacts [h.storePut.setFld.branch (fun h => h.beside.setFld.setFld.lopEnd) fun h => h.beside, h], h]

theorem disturbLop3 {q} (h : s.Keeps t) : s.Keeps (t.disturbLop3 q) := .ite h.useFresh.lop3Unit h

theorem sfdLoadWrite {q d} (h : s.Keeps t) : s.Keeps (t.sfdLoadWrite q d) :=
  .ite h.setFld (h.plainWrite.whenever fun h => h.disturbLop3.setFld.branch (fun h => h.setFld.beside) fun h => h.sfdLoadError)

theorem sfdLoadDone {cls op set} (h : s.Keeps t) : s.Keeps (t.sfdLoadDone cls op set) := h.setFld.setFld.beside.setFld.event

theorem execSfdLoadCopyEnd (h : s.Keeps t) : s.Reaches (execSfdLoadCopyEnd t) := by
  refine next ?_
  split
  · exact .ite h (.ite (.ite h.sfdLoadError (h.storeRead.branch (fun h => h.sfdLoadError) fun h => .ite h.sfdLoadError
      h.beside.setFld)) (.ite h.sfdLoadError h.storePut.sfdLoadDone))
  · exact h

theorem mixSfd (h : s.Keeps t) : s.Keeps t.mixSfd := by
  unfold State.mixSfd
  split; exacts [.ite h.beside h, h]

theorem sfdCapEnd {err cls mixed} (h : s.Keeps t) : s.Keeps (t.sfdCapEnd err cls mixed) := h.setFld.setFld.beside.setFld.event

theorem sfdCapWrite {q d} (h : s.Keeps t) : s.Keeps (t.sfdCapWrite q d) :=
  .ite h.setFld (h.plainWrite.whenever fun h => h.disturbLop3.setFld.otherwise fun h => h.sfdCapEnd)

theorem execSfdCaptureStart (h : s.Keeps t) : s.Reaches (execSfdCaptureStart t) := next (.ite h.setFld.beside h)

theorem execSfdCaptureRecordEnd (h : s.Keeps t) : s.Reaches (execSfdCaptureRecordEnd t) :=
  next (by split; exacts [.ite h.sfdCapEnd (h.storeWrite.branch (fun h => h.count.sfdCapEnd.beside) fun h => h.sfdCapEnd), h])

theorem lop3End {state err} (h : s.Keeps t) : s.Keeps (t.lop3End state err) := h.beside.setFld.setFld.lopEnd

theorem lop3Write {d} (h : s.Keeps t) : s.Keeps (t.lop3Write d) :=
  .ite h.setFld ((h.plainWrite.whenever fun h => h.lop3End).whenever fun h => h.lopStart.setFld.branch (fun h => h.lop3End) fun
    h => .ite h.lop3End (.ite h.lop3End h.beside))

theorem execLop3UnitEnd {result caps before after} (h : s.Keeps t) : s.Reaches (execLop3UnitEnd result caps before after t) :=
  h.lop3Unit.next

theorem sbLimit {g lv} (h : s.Keeps t) : s.Keeps (t.sbLimit g lv) := by
  unfold State.sbLimit
  dsimp only
  split
  · exact h.beside
  · exact (h.beside.count.foldl (fun h => h.count)).eventOnce.beside.whenever fun h => h.beside.setFld.event

theorem sbResidual {g lv} (h : s.Keeps t) : s.Keeps (t.sbResidual g lv) :=
  .ite (h.beside.whenever fun h => h.setFld.event) h.beside.setFld

theorem stopCanceller {ps tick} (h : s.Keeps t) : s.Keeps (t.stopCanceller ps tick) := h.beside

theorem execSbSymbolEnd {residue refFail} (h : s.Keeps t) : s.Reaches (execSbSymbolEnd residue refFail t) := by
  have stops : s.Keeps (residue.foldl (fun s r => s.stopCanceller [r.1.val] r.2) t) := h.foldl fun h => h.stopCanceller
  have stopsRef {u} (h : s.Keeps u) : s.Keeps ((refFail.map (u.stopCanceller (List.range 64))).getD u) := by
    cases refFail with
    | none => exact h
    | some tick => exact h.stopCanceller
  refine next (Keeps.whenever ?_ fun h => (h.forEach fun h => h.count).event)
  refine Keeps.foldl ?_ fun h => h.count.event
  exact (stopsRef stops).foldl fun h => .whenever h fun h => (h.foldl fun h => h.setFld.setFld.countWrap).sbLimit.sbResidual

/-! ### Cal -/

theorem pointWrite {r d} (h : s.Keeps t) : s.Keeps (t.pointWrite r d) := h.beside.plainWrite

theorem refreshDelays (h : s.Keeps t) : s.Keeps t.refreshDelays := h.setFld.foldl fun h => h.setFld.setFld

theorem replacePoint {k b} (h : s.Keeps t) : s.Keeps (t.replacePoint k b) := (h.foldl (fun h => h.wr)).beside.count.event

theorem pointLoadError {err k} (h : s.Keeps t) : s.Keeps (t.pointLoadError err k) := h.beside.setFld.setFld.event

theorem calLoadWrite {d} (h : s.Keeps t) : s.Keeps (t.calLoadWrite d) :=
  .ite h.setFld (h.plainWrite.whenever fun h => h.setFld.branch (fun h => h.beside) fun h => h.pointLoadError)

theorem execCalLoadCopyEnd (h : s.Keeps t) : s.Reaches (execCalLoadCopyEnd t) := by
  refine next ?_
  split
  · exact .ite h (.ite h.pointLoadError (h.storeRead.branch (fun h => h.pointLoadError) fun h => .ite h.pointLoadError
      h.beside))
  · exact h

theorem execCalPointReplace (h : s.Keeps t) : s.Reaches (execCalPointReplace t) := by
  refine next ?_
  dsimp only
  split
  · exact (h.foldl (fun h => h.replacePoint)).beside.otherwise fun h => h.replacePoint.beside.setFld.setFld
  · exact (h.foldl (fun h => h.replacePoint)).beside

theorem calArrWrite {d} (h : s.Keeps t) : s.Keeps (t.calArrWrite d) :=
  .ite h.setFld ((h.plainWrite.whenever fun h => h.lop0Stop).whenever fun h => h.lopStart.setFld.branch (fun h => h.lop0Stop)
    fun h => h.beside.setFld.setFld.setFld.whenever fun h => h.event)

theorem execLocLockEnd {locked} (h : s.Keeps t) : s.Reaches (execLocLockEnd locked t) := next (.ite h.setFld h)

theorem runChips {c a n} (h : s.Keeps t) : s.Keeps (t.runChips c a n) := .ite h.lop0Stop h.beside.lopUnits

theorem execCalSequenceEnd {offset data} (h : s.Keeps t) : s.Reaches (execCalSequenceEnd offset data t) :=
  next (by split; exacts [.ite (.beside (.ite h.storePut h)) h, h])

theorem execCalForcedSlot (h : s.Keeps t) : s.Reaches (execCalForcedSlot t) :=
  next (by split; exacts [by split; exacts [.ite h.runChips h, h], h])

theorem execCalForcedSlotEnd (h : s.Keeps t) : s.Reaches (execCalForcedSlotEnd t) :=
  next (by split; exacts [h.beside.whenever fun h => h.event, h])

theorem execBackgroundCalTimeout (h : s.Keeps t) : s.Reaches (execBackgroundCalTimeout t) :=
  next (by split; exacts [.ite h.lop0Stop h, h])

theorem calDone (h : s.Keeps t) : s.Keeps t.calDone := h.count.wr.wr

theorem execLop0End {paths} (h : s.Keeps t) : s.Reaches (execLop0End paths t) := by
  refine next ?_
  split
  · exact .ite (((h.foldl (fun h => .whenever (.ite h.event h) fun h => h.event)).whenever fun h =>
      h.storePut).lop0Stop.calDone.event.whenever fun h => h.beside) h
  · exact h

theorem calConvWrite {d} (h : s.Keeps t) : s.Keeps (t.calConvWrite d) :=
  .ite h.setFld (h.plainWrite.whenever fun h => h.lopStart.setFld.branch (fun h => h.setFld.lopEnd) fun h => .ite
    h.setFld.lopEnd (h.beside.elim (fun h => h.groupSilent)))

theorem putIqBank {up p b ws} (h : s.Keeps t) : s.Keeps (t.putIqBank up p b ws) := h.foldl fun h => h.wr

theorem lop1Done {groups} (h : s.Keeps t) : s.Keeps (t.lop1Done groups) :=
  (h.foldl (fun h => .ite h h.putIqBank.putIqBank)).setFld.setFld.beside.setFld.lopEnd.calDone.event

theorem execLop1UnitEnd {conv iq} (h : s.Keeps t) : s.Reaches (execLop1UnitEnd conv iq t) := by
  refine next ?_
  split
  · split
    · exact (h.foldl (fun h => h.wr.wr.wr.wr.putIqBank.putIqBank)).wr.wr.wr.lopUnits.branch (fun h => h.lop1Done) fun h =>
        h.beside.elim (fun h => h.groupSilent)
    · exact h
  · exact h

theorem reportCopies {p} (h : s.Keeps t) : s.Keeps (t.reportCopies p) := h.forEach (fun h => h.iff (fun h => h.event))

theorem copyLoaded {k} (h : s.Keeps t) : s.Keeps (t.copyLoaded k) := h.setFld.setFld

theorem calSaveWrite {d} (h : s.Keeps t) : s.Keeps (t.calSaveWrite d) :=
  .ite h.setFld (h.plainWrite.whenever fun h => h.setFld.beside.runFlash)

theorem saveEnd {err half} (h : s.Keeps t) : s.Keeps (t.saveEnd err half) :=
  (h.setFld.setFld.event.iff (fun h => h.copyLoaded)).flashDone

theorem execCalSaveEnd {outcome} (h : s.Keeps t) : s.Reaches (execCalSaveEnd outcome t) := by
  refine next ?_
  split
  · refine .ite h.saveEnd (.ite h.saveEnd ((h.storeRead.whenever fun h => h.useFresh).branch (fun h => h.saveEnd) fun h =>
      .ite h.saveEnd ?_))
    dsimp only
    split; exacts [h.eraseFlash.putFlash.saveEnd, h.putFlash.useFresh.saveEnd, h.eraseFlash.putFlash.saveEnd]
  · exact h

/-! ### DmaCtl -/

theorem setChan {n c} (h : s.Keeps t) : s.Keeps (t.setChan n c) := h.beside

theorem setBit {a n b} (h : s.Keeps t) : s.Keeps (t.setBit a n b) := h.wr

theorem setDmaState {n st} (h : s.Keeps t) : s.Keeps (t.setDmaState n st) := h.setFld.setBit.setBit

theorem showDma {n remain} (h : s.Keeps t) : s.Keeps (t.showDma n remain) := h.setFld.wr.wr

theorem dmaToIdle {n} (h : s.Keeps t) : s.Keeps (t.dmaToIdle n) := h.setFld.setFld.setFld.setDmaState.setChan

theorem dmaAborted {n} (h : s.Keeps t) : s.Keeps (t.dmaAborted n) := h.dmaToIdle.setFld

theorem dmaHalt {n err write fetch} (h : s.Keeps t) : s.Keeps (t.dmaHalt n err write fetch) :=
  h.setFld.setFld.setFld.setDmaState.event.whenever fun h => h.dmaAborted

theorem dmaBusError {n err addr write fetch} (h : s.Keeps t) : s.Keeps (t.dmaBusError n err addr write fetch) := h.wr.dmaHalt

theorem dmaPauseIfSet {n} (h : s.Keeps t) : s.Keeps (t.dmaPauseIfSet n) := .ite h.setDmaState h

theorem dmaSettle {n} (h : s.Keeps t) : s.Keeps (t.dmaSettle n) := .ite h.dmaAborted h.dmaPauseIfSet

theorem dmaStart {n q} (h : s.Keeps t) : s.Keeps (t.dmaStart n q) := h.setFld.wr.wr.setFld.setFld.setFld.setChan.setDmaState

theorem dmaResume {n} (h : s.Keeps t) : s.Keeps (t.dmaResume n) :=
  (h.setDmaState.branch (fun h => h.wr.setChan) fun h => .ite h.setChan h).whenever fun h => h.setDmaState

theorem dmaAbort {n} (h : s.Keeps t) : s.Keeps (t.dmaAbort n) := .ite h.setFld.setDmaState (.ite h h.dmaAborted)

theorem dmaCtrlWrite {n q d} (h : s.Keeps t) : s.Keeps (t.dmaCtrlWrite n q d) :=
  .ite h.setFld (.ite (h.plainWrite.whenever fun h => h.dmaStart) (h.plainWrite.branch (fun h => h.dmaAbort) fun h => .ite
    (.ite h.dmaResume h) (.ite (.ite h h.setDmaState) h.dmaPauseIfSet)))

theorem dmaDescWrite {n d} (h : s.Keeps t) : s.Keeps (t.dmaDescWrite n d) := .ite h.plainWrite h

theorem execDescriptorFetch {ch} (h : s.Keeps t) : s.Reaches (execDescriptorFetch ch t) := by
  refine next ?_
  split
  · exact .ite h (h.wr.branch (fun h => h.dmaBusError) fun h => h.storeRead.branch (fun h => h.dmaBusError) fun h => .ite
      h.setChan.dmaHalt h.setChan.showDma.dmaSettle)
  · exact h

theorem dmaHop {n} (h : s.Keeps t) : s.Keeps (t.dmaHop n) := .ite h.dmaHalt h.setFld.setChan

theorem dmaComplete {n} (h : s.Keeps t) : s.Keeps (t.dmaComplete n) :=
  (((h.wr.whenever fun h => h.event).whenever fun h => h.wr).whenever fun h => h.setFld).branch (fun h => h.dmaHop) fun h =>
    h.dmaToIdle.setFld

/-! ### DspExec -/

theorem coreCorrected {c mem addr} (h : s.Keeps t) : s.Keeps (t.coreCorrected c mem addr) := h.count.event

theorem coreGoOn {c w f} (h : s.Keeps t) : s.Keeps (t.coreGoOn c w f) := by
  refine .coreBoundary ?_
  split
  · exact h.setCore
  · exact h.setCore
  · exact h.setCore
  · exact h.setCore
  · exact h.setCore.iff (fun h => h.setCoreState)
  · exact h.setCore.otherwise fun h => h.setCoreState
  · exact h.setCore
  · exact h.coreTrap

theorem coreInstr {c cycles u eff} (h : s.Keeps t) (heff : ∀ {op t}, s.Keeps t → s.Offers (eff op t)) :
    s.Keeps (t.coreInstr c cycles u eff) := by
  refine .ite h ?_
  extract_lets v x fetch trap w v'
  have ready : s.Keeps v := h.setCoreState.addCycles
  have fetched : s.Keeps v' := .ite ready.coreCorrected ready
  refine .ite ready.coreTrap (.ite ready.coreTrap ?_)
  split
  · exact fetched.coreTrap
  · split
    · exact h
    · next _ _ r f offer =>
      have effect : s.Keeps r := heff fetched.setCore _ offer
      extract_lets r' atEnd _
      have kept : s.Keeps r' := by
        unfold r'
        split; exacts [fetched, effect]
      refine .ite fetched.coreTrap (.ite fetched.coreTrap ?_)
      split
      · split; exacts [fetched.coreTrap, kept.coreGoOn]
      · split; exacts [kept.coreCorrected.coreGoOn, kept.coreGoOn]
      · exact kept.coreGoOn

theorem onCore {c f} (h : s.Keeps t) : s.Keeps (t.onCore c f) := h.setCore

theorem execHalt {core cycles upset} (h : s.Keeps t) : s.Reaches (execHalt core cycles upset t) :=
  (h.coreInstr fun h => by split; exacts [h.offers, offersNone]).next

theorem execNop {core cycles upset} (h : s.Keeps t) : s.Reaches (execNop core cycles upset t) :=
  (h.coreInstr fun h => by split; exacts [h.offers, offersNone]).next

theorem execWait {core cycles upset} (h : s.Keeps t) : s.Reaches (execWait core cycles upset t) :=
  (h.coreInstr fun h => by split; exacts [h.offers, offersNone]).next

theorem execTrapSw {core cycles upset} (h : s.Keeps t) : s.Reaches (execTrapSw core cycles upset t) :=
  (h.coreInstr fun h => by split; exacts [h.offers, offersNone]).next

theorem execIsync {core cycles upset} (h : s.Keeps t) : s.Reaches (execIsync core cycles upset t) :=
  (h.coreInstr fun h => by split; exacts [offers (.pair h.onCore), offersNone]).next

theorem execBset {core cycles upset} (h : s.Keeps t) : s.Reaches (execBset core cycles upset t) :=
  (h.coreInstr fun h => by split; exacts [offers (.pair h.onCore), offersNone]).next

theorem execBclr {core cycles upset} (h : s.Keeps t) : s.Reaches (execBclr core cycles upset t) :=
  (h.coreInstr fun h => by split; exacts [offers (.pair h.onCore), offersNone]).next

theorem execDebug {core cycles upset} (h : s.Keeps t) : s.Reaches (execDebug core cycles upset t) :=
  (h.coreInstr fun h => by split; exacts [h.offers, offersNone]).next

theorem execBra {core cycles upset} (h : s.Keeps t) : s.Reaches (execBra core cycles upset t) :=
  (h.coreInstr fun h => by split; exacts [h.offers, offersNone]).next

theorem execBraAn {core cycles upset} (h : s.Keeps t) : s.Reaches (execBraAn core cycles upset t) :=
  (h.coreInstr fun h => by split; exacts [h.offers, offersNone]).next

theorem execCall {core cycles upset} (h : s.Keeps t) : s.Reaches (execCall core cycles upset t) := by
  refine (h.coreInstr fun h => ?_).next
  split
  · dsimp only
    split
    · exact h.offers
    · split; exacts [h.setCore.offers, h.offers]
  · exact offersNone

theorem execRet {core cycles upset} (h : s.Keeps t) : s.Reaches (execRet core cycles upset t) := by
  refine (h.coreInstr fun h => ?_).next
  split
  · dsimp only
    split
    · exact h.offers
    · split; exacts [h.setCore.offers, h.offers]
  · exact offersNone

theorem execRti {core cycles upset} (h : s.Keeps t) : s.Reaches (execRti core cycles upset t) := by
  refine (h.coreInstr fun h => ?_).next
  split
  · dsimp only
    split
    · exact h.offers
    · split; exacts [h.setCore.offers, h.useFresh.setCore.offers, h.offers]
  · exact offersNone

theorem openLoop {c count last} (h : s.Keeps t) : s.Keeps (t.openLoop c count last).1 := .ite_fst h (.ite_fst h.setCore h)

theorem execLoopImm {core cycles upset} (h : s.Keeps t) : s.Reaches (execLoopImm core cycles upset t) :=
  (h.coreInstr fun h => by split; exacts [h.openLoop.offers, offersNone]).next

theorem readCount {c reg} (h : s.Keeps t) : s.Keeps (t.readCount c reg).1 := h.setCore

theorem execLoopReg {core cycles upset} (h : s.Keeps t) : s.Reaches (execLoopReg core cycles upset t) :=
  (h.coreInstr fun h => by split; exacts [h.readCount.openLoop.offers, offersNone]).next

theorem execRptImm {core cycles upset} (h : s.Keeps t) : s.Reaches (execRptImm core cycles upset t) :=
  (h.coreInstr fun h => by split; exacts [h.offers, offersNone]).next

theorem execRptReg {core cycles upset} (h : s.Keeps t) : s.Reaches (execRptReg core cycles upset t) :=
  (h.coreInstr fun h => by split; exacts [offers (.pair h.readCount), offersNone]).next

theorem execMoveImmediate {core cycles upset} (h : s.Keeps t) : s.Reaches (execMoveImmediate core cycles upset t) :=
  (h.coreInstr fun h => by split; exacts [offers (.pair h.onCore), offersNone]).next

theorem execRegisterMove {core cycles upset} (h : s.Keeps t) : s.Reaches (execRegisterMove core cycles upset t) :=
  (h.coreInstr fun h => by split; exacts [offers (.pair h.onCore), offersNone]).next

theorem singleLoad {c mem an mode reg disp} (h : s.Keeps t) : s.Keeps (t.singleLoad c mem an mode reg disp) :=
  .ite h.useFresh.setCore h.setCore

theorem execSingleMoveLoad {core cycles upset} (h : s.Keeps t) : s.Reaches (execSingleMoveLoad core cycles upset t) :=
  (h.coreInstr fun h => by split; exacts [h.singleLoad.offers, offersNone]).next

theorem execSingleMoveStore {core cycles upset} (h : s.Keeps t) : s.Reaches (execSingleMoveStore core cycles upset t) :=
  (h.coreInstr fun h => by split; exacts [offers (.pair h.onCore), offersNone]).next

theorem aluDone {c d z carry} (h : s.Keeps t) : s.Keeps (t.aluDone c d z carry).1 := .setCore (.ite h.useFresh h)

theorem negDone {c d z} (h : s.Keeps t) : s.Keeps (t.negDone c d z).1 := .ite_fst h.useFresh.useFresh.aluDone h.aluDone

theorem execClr {core cycles upset} (h : s.Keeps t) : s.Reaches (execClr core cycles upset t) :=
  (h.coreInstr fun h => by split; exacts [h.aluDone.offers, offersNone]).next

theorem execMova {core cycles upset} (h : s.Keeps t) : s.Reaches (execMova core cycles upset t) :=
  (h.coreInstr fun h => by split; exacts [h.aluDone.offers, offersNone]).next

theorem execAddAcc {core cycles upset} (h : s.Keeps t) : s.Reaches (execAddAcc core cycles upset t) :=
  (h.coreInstr fun h => by split; exacts [h.aluDone.offers, offersNone]).next

theorem execSubAcc {core cycles upset} (h : s.Keeps t) : s.Reaches (execSubAcc core cycles upset t) :=
  (h.coreInstr fun h => by split; exacts [h.aluDone.offers, offersNone]).next

theorem execNegAcc {core cycles upset} (h : s.Keeps t) : s.Reaches (execNegAcc core cycles upset t) :=
  (h.coreInstr fun h => by split; exacts [h.negDone.offers, offersNone]).next

theorem execAbsAcc {core cycles upset} (h : s.Keeps t) : s.Reaches (execAbsAcc core cycles upset t) :=
  (h.coreInstr fun h => by split; exacts [h.negDone.offers, offersNone]).next

theorem execCmpAcc {core cycles upset} (h : s.Keeps t) : s.Reaches (execCmpAcc core cycles upset t) :=
  (h.coreInstr fun h => by split; exacts [h.useFresh.setCore.offers, offersNone]).next

theorem execRnd {core cycles upset} (h : s.Keeps t) : s.Reaches (execRnd core cycles upset t) :=
  (h.coreInstr fun h => by split; exacts [h.aluDone.offers, offersNone]).next

theorem execSata {core cycles upset} (h : s.Keeps t) : s.Reaches (execSata core cycles upset t) :=
  (h.coreInstr fun h => by split; exacts [offers (.aluDone (.ite h.onCore h)), offersNone]).next

theorem execAsl {core cycles upset} (h : s.Keeps t) : s.Reaches (execAsl core cycles upset t) :=
  (h.coreInstr fun h => by split; exacts [h.useFresh.setCore.offers, offersNone]).next

theorem execAsr {core cycles upset} (h : s.Keeps t) : s.Reaches (execAsr core cycles upset t) :=
  (h.coreInstr fun h => by split; exacts [h.aluDone.offers, offersNone]).next

theorem alignedReg {c code} (h : s.Keeps t) : s.Keeps (t.alignedReg c code).1 := h.setCore

theorem execAddr {core cycles upset} (h : s.Keeps t) : s.Reaches (execAddr core cycles upset t) :=
  (h.coreInstr fun h => by split; exacts [h.alignedReg.aluDone.offers, offersNone]).next

theorem execSubr {core cycles upset} (h : s.Keeps t) : s.Reaches (execSubr core cycles upset t) :=
  (h.coreInstr fun h => by split; exacts [h.alignedReg.aluDone.offers, offersNone]).next

theorem logicH {c d r f} (h : s.Keeps t) : s.Keeps (t.logicH c d r f).1 := h.aluDone

theorem execAndAcc {core cycles upset} (h : s.Keeps t) : s.Reaches (execAndAcc core cycles upset t) :=
  (h.coreInstr fun h => by split; exacts [h.logicH.offers, offersNone]).next

theorem execOrAcc {core cycles upset} (h : s.Keeps t) : s.Reaches (execOrAcc core cycles upset t) :=
  (h.coreInstr fun h => by split; exacts [h.logicH.offers, offersNone]).next

theorem execXorAcc {core cycles upset} (h : s.Keeps t) : s.Reaches (execXorAcc core cycles upset t) :=
  (h.coreInstr fun h => by split; exacts [h.logicH.offers, offersNone]).next

theorem execNorm {core cycles upset} (h : s.Keeps t) : s.Reaches (execNorm core cycles upset t) :=
  (h.coreInstr fun h => by split; exacts [h.aluDone.offers, offersNone]).next

theorem moveA {c an step} (h : s.Keeps t) : s.Keeps (t.moveA c an step).1 := .pair h.onCore

theorem execAdda {core cycles upset} (h : s.Keeps t) : s.Reaches (execAdda core cycles upset t) :=
  (h.coreInstr fun h => by split; exacts [h.moveA.offers, offersNone]).next

theorem execSuba {core cycles upset} (h : s.Keeps t) : s.Reaches (execSuba core cycles upset t) :=
  (h.coreInstr fun h => by split; exacts [h.moveA.offers, offersNone]).next

theorem execAddi {core cycles upset} (h : s.Keeps t) : s.Reaches (execAddi core cycles upset t) :=
  (h.coreInstr fun h => by split; exacts [h.moveA.offers, offersNone]).next

theorem mulDone {c o dual a b pair lx ly ymem} (h : s.Keeps t) : s.Keeps (t.mulDone c o dual a b pair lx ly ymem).1 :=
  .setCore (.ite h.useFresh h)

theorem execParallelLoads {core cycles upset} (h : s.Keeps t) : s.Reaches (execParallelLoads core cycles upset t) :=
  (h.coreInstr fun h => by split; exacts [offers (.pair h.onCore), offersNone]).next

theorem execMac {core cycles upset} (h : s.Keeps t) : s.Reaches (execMac core cycles upset t) :=
  (h.coreInstr fun h => by split; exacts [h.mulDone.offers, offersNone]).next

theorem execMsu {core cycles upset} (h : s.Keeps t) : s.Reaches (execMsu core cycles upset t) :=
  (h.coreInstr fun h => by split; exacts [h.mulDone.offers, offersNone]).next

theorem execMpy {core cycles upset} (h : s.Keeps t) : s.Reaches (execMpy core cycles upset t) :=
  (h.coreInstr fun h => by split; exacts [h.mulDone.offers, offersNone]).next

theorem cmulDone {c o p conj lx ly lz} (h : s.Keeps t) : s.Keeps (t.cmulDone c o p conj lx ly lz).1 := h.useFresh.setCore

theorem execCmac {core cycles upset} (h : s.Keeps t) : s.Reaches (execCmac core cycles upset t) :=
  (h.coreInstr fun h => by split; exacts [h.cmulDone.offers, offersNone]).next

theorem execCmsu {core cycles upset} (h : s.Keeps t) : s.Reaches (execCmsu core cycles upset t) :=
  (h.coreInstr fun h => by split; exacts [h.cmulDone.offers, offersNone]).next

theorem execCmpy {core cycles upset} (h : s.Keeps t) : s.Reaches (execCmpy core cycles upset t) :=
  (h.coreInstr fun h => by split; exacts [h.cmulDone.offers, offersNone]).next

theorem sysIssue {c an mode acc disp write} (h : s.Keeps t) : s.Keeps (t.sysIssue c an mode acc disp write).1 := .ite_fst h h

theorem execSystemLoad {core cycles upset} (h : s.Keeps t) : s.Reaches (execSystemLoad core cycles upset t) :=
  (h.coreInstr fun h => by split; exacts [h.sysIssue.offers, offersNone]).next

theorem execSystemStore {core cycles upset} (h : s.Keeps t) : s.Reaches (execSystemStore core cycles upset t) :=
  (h.coreInstr fun h => by split; exacts [h.sysIssue.offers, offersNone]).next

theorem execSystemAccessTimeout {core} (h : s.Keeps t) : s.Reaches (execSystemAccessTimeout core t) :=
  next (by split; exacts [h.addCycles.coreTrap, h])

theorem execMbxrd {core cycles upset} (h : s.Keeps t) : s.Reaches (execMbxrd core cycles upset t) :=
  (h.coreInstr fun h => by split; exacts [offers (.pair h.mbxPop.onCore), offersNone]).next

theorem execMbxwr {core cycles upset} (h : s.Keeps t) : s.Reaches (execMbxwr core cycles upset t) :=
  (h.coreInstr fun h => by split; exacts [h.mbxPush.offers, offersNone]).next

theorem execRing {core cycles upset} (h : s.Keeps t) : s.Reaches (execRing core cycles upset t) :=
  (h.coreInstr fun h => by split; exacts [h.doorbellAdd.offers, offersNone]).next

theorem execInterruptTaken {core} (h : s.Keeps t) : s.Reaches (execInterruptTaken core t) :=
  next (.ite h (by split; exacts [h.setCoreState.whenever fun h => .ite h.setCore.coreBoundary h.coreTrap, h.setCoreState]))

/-! ### Events -/

theorem settleIrq (h : s.Keeps t) : s.Keeps t.settleIrq := h.beside

theorem recordEvent {r} (h : s.Keeps t) : s.Keeps (t.recordEvent r) := h.wr.count.wr

theorem routePacket {r} (h : s.Keeps t) : s.Keeps (t.routePacket r) := .ite h (.ite h.addRecord h.count)

theorem execEventRecord (h : s.Keeps t) : s.Reaches (execEventRecord t) :=
  next (by split; exacts [h, h.beside.whenever fun h => h.recordEvent.routePacket.settleIrq])

theorem evtCtrlWrite {d} (h : s.Keeps t) : s.Keeps (t.evtCtrlWrite d) :=
  (h.plainWrite.whenever fun h => h.resetRange.wr).settleIrq

/-! ### Lin -/

theorem setLg {g x} (h : s.Keeps t) : s.Keeps (t.setLg g x) := h.beside

theorem setPdBank {p c b ws} (h : s.Keeps t) : s.Keeps (t.setPdBank p c b ws) := h.beside

theorem linPowerUp (h : s.Keeps t) : s.Keeps t.linPowerUp := h.beside.forEach fun h => h.wr

theorem lop2Unit {result iter before after} (h : s.Keeps t) : s.Keeps (t.lop2Unit result iter before after) := by
  unfold State.lop2Unit
  split; exacts [by split; exacts [h.storePut.setFld.branch (fun h => h.beside.setFld.setFld.lopEnd) fun h => h.beside, h], h]

theorem disturbLop2 {g a q} (h : s.Keeps t) : s.Keeps (t.disturbLop2 g a q) := by
  unfold State.disturbLop2
  dsimp only; split; exacts [.ite h.useFresh.useFresh.lop2Unit h, h]

theorem lop2End {state err} (h : s.Keeps t) : s.Keeps (t.lop2End state err) := h.beside.setFld.setFld.lopEnd

theorem lop2Write {d} (h : s.Keeps t) : s.Keeps (t.lop2Write d) :=
  .ite h.setFld ((h.plainWrite.whenever fun h => h.lop2End).whenever fun h => h.lopStart.setFld.branch (fun h => h.lop2End) fun
    h => .ite h.lop2End (.ite h.lop2End h.beside))

theorem execLop2UnitEnd {result iter before after} (h : s.Keeps t) : s.Reaches (execLop2UnitEnd result iter before after t) :=
  next (by split; exacts [h.lop2Unit, h])

theorem pdLoadStop {g err path} (h : s.Keeps t) : s.Keeps (t.pdLoadStop g err path) :=
  h.setLg.setFld.setFld.setFld.corePend.branch (fun h => h.count) fun h => h.event

theorem pdLoadWrite {g d} (h : s.Keeps t) : s.Keeps (t.pdLoadWrite g d) :=
  .ite h.setFld (h.plainWrite.whenever fun h => .ite h.pdLoadStop (.ite h.pdLoadStop h.setLg.setFld.setFld))

theorem execPdLoadEnd {g} (h : s.Keeps t) : s.Reaches (execPdLoadEnd g t) := by
  refine next ?_
  split
  · exact .ite h.pdLoadStop (.ite (h.storeRead.branch (fun h => h.setPdBank.pdLoadStop) fun h => h.setPdBank.pdLoadStop)
      h.storePut.pdLoadStop)
  · exact h

theorem swapCtrlWrite {g d} (h : s.Keeps t) : s.Keeps (t.swapCtrlWrite g d) :=
  .ite h.setFld (h.plainWrite.whenever fun h => h.setLg)

theorem mixCapture {g hit} (h : s.Keeps t) : s.Keeps (t.mixCapture g hit) := by
  unfold State.mixCapture
  split; exacts [.ite h.setLg h, h]

theorem selectPath {g} (h : s.Keeps t) : s.Keeps (t.selectPath g) := by
  unfold State.selectPath
  split; exacts [.ite h h.setLg, h]

theorem releaseCapture {g} (h : s.Keeps t) : s.Keeps (t.releaseCapture g) := .ite h.setLg.setFld h

theorem seqCtrlWrite {g d} (h : s.Keeps t) : s.Keeps (t.seqCtrlWrite g d) := h.plainWrite.releaseCapture.selectPath

theorem linPageWrite {g a q d} (h : s.Keeps t) : s.Keeps (t.linPageWrite g a q d) :=
  h.disturbLop2.branch (fun h => h.seqCtrlWrite) fun h => .ite h.pdLoadWrite (.ite h.swapCtrlWrite (.ite h.plainWrite
    h.plainWrite))

theorem execOrxCaptureStart {g} (h : s.Keeps t) : s.Reaches (execOrxCaptureStart g t) :=
  next (by dsimp only; split; exacts [h.selectPath.whenever fun h => h.setLg.setFld, h.selectPath])

theorem corrLimit {p} (h : s.Keeps t) : s.Keeps (t.corrLimit p) := h.setFld.whenever fun h => h.event

theorem txLoop {p w eorx ex} (h : s.Keeps t) : s.Keeps (t.txLoop p w eorx ex) :=
  .ite h (.ite h.setFld.setFld.corrLimit.count h.count)

theorem execOrxCaptureEnd {g orx} (h : s.Keeps t) : s.Reaches (execOrxCaptureEnd g orx t) := by
  refine next ?_
  extract_lets
  split
  · exact ((h.setFld.wr.wr.wr.wr.wr.count.event.txLoop.corePend.whenever fun h => h.setFld).setLg.whenever fun h =>
      h.setFld).setFld.selectPath
  · exact h

theorem execIntervalSkip {g} (h : s.Keeps t) : s.Reaches (execIntervalSkip g t) := next (.ite h.count h)

theorem capPortRead {g} (h : s.Keeps t) : s.Keeps (t.capPortRead g).1 := by
  unfold State.capPortRead
  split; exacts [h.setLg.releaseCapture, h]

theorem execCorrelatorEnd {g residue} (h : s.Keeps t) : s.Reaches (execCorrelatorEnd g residue t) := by
  refine next ?_
  dsimp only
  split
  · exact .releaseCapture (.event (.countWrap (.setFld (.setFld (.corePend (.setLg (.ite_fst h (.ite_fst h h.storeWrite))))))))
  · exact h

theorem clearLinCounters (h : s.Keeps t) : s.Keeps t.clearLinCounters :=
  (h.forEach (fun h => h.setFld.setFld.setFld)).forEach fun h => h.wr.wr.wr

theorem linCtrlWrite {d} (h : s.Keeps t) : s.Keeps (t.linCtrlWrite d) := h.plainWrite.whenever fun h => h.clearLinCounters

theorem kernWrite {a d} (h : s.Keeps t) : s.Keeps (t.kernWrite a d) := .ite h h.plainWrite

theorem compUpdate {c} (h : s.Keeps t) : s.Keeps (t.compUpdate c) := h.forEach (fun h => .ite h.setLg.setFld h)

theorem execCompStaleTimeout {g} (h : s.Keeps t) : s.Reaches (execCompStaleTimeout g t) := next (.ite h.setFld.event h)

theorem applyGains (h : s.Keeps t) : s.Keeps t.applyGains := (h.forEach (fun h => h.setFld)).forEach fun h => h.wr

theorem loopCfgWrite {p d} (h : s.Keeps t) : s.Keeps (t.loopCfgWrite p d) :=
  h.plainWrite.branch (fun h => h.setFld.corrLimit) fun h => .ite h h.corrLimit

theorem retake (h : s.Keeps t) : s.Keeps t.retake := by
  unfold State.retake
  split; exacts [.ite h.beside h, h]

theorem execKernelBankSwap (h : s.Keeps t) : s.Reaches (execKernelBankSwap t) := next (.ite h.setFld.setFld.retake h)

theorem execPdBankSwap {g} (h : s.Keeps t) : s.Reaches (execPdBankSwap g t) :=
  next (by dsimp only; split; exacts [.ite h h.setLg.wr.mixCapture.retake.setFld.event, h])

theorem execDlcIqBankSwap (h : s.Keeps t) : s.Reaches (execDlcIqBankSwap t) := h.iqBankSwap.retake.next

theorem execUlcIqBankSwap (h : s.Keeps t) : s.Reaches (execUlcIqBankSwap t) := h.iqBankSwap.retake.next

theorem execSfdLoadBoundary (h : s.Keeps t) : s.Reaches (execSfdLoadBoundary t) :=
  next (by split; exacts [by split; exacts [(h.setFld.setFld.whenever fun h => h.mixSfd.retake).count.sfdLoadDone, h], h])

/-! ### Power -/

theorem power {f} (h : s.Keeps t) : s.Keeps (t.power f) := h.beside.showPower

theorem pushAvs {mv} (h : s.Keeps t) : s.Keeps (t.pushAvs mv) := h.beside.setFld

theorem pushOp {o} (h : s.Keeps t) : s.Keeps (t.pushOp o) := h.beside

theorem dropOp {o} (h : s.Keeps t) : s.Keeps (t.dropOp o) := h.beside

theorem railsDown {target} (h : s.Keeps t) : s.Keeps (t.railsDown target) := .foldl (.ite h h.pushAvs) fun h => h.pushOp

theorem railsUp (h : s.Keeps t) : s.Keeps t.railsUp := (h.foldl (fun h => h.pushOp)).pushAvs

theorem groupOff {g} (h : s.Keeps t) : s.Keeps (t.groupOff g) := h.switchOff.groupSilent.beside.resetDomain

theorem groupsOff {mask} (h : s.Keeps t) : s.Keeps (t.groupsOff mask) :=
  ((h.foldl (fun h => h.groupOff)).forEach (fun h => h.iff (fun h => h.pushOp))).showPower

theorem wakeGroups {mask} (h : s.Keeps t) : s.Keeps (t.wakeGroups mask) := by
  unfold State.wakeGroups
  exact (h.forEach (fun h => h.iff (fun h => h.pushOp))).power

theorem powerRefuse {r code} (h : s.Keeps t) : s.Keeps (t.powerRefuse r code) := h.count.wr.event

theorem startUps {r t'} (h : s.Keeps t) : s.Keeps (t.startUps r t') := h.setFld.beside.wakeGroups

theorem napPart {r t'} (h : s.Keeps t) : s.Keeps (t.napPart r t') := .ite h.startUps h.power

theorem startTrans {r} (h : s.Keeps t) : s.Keeps (t.startTrans r) := .ite h.event.power (.ite h.power (.ite h.power h.napPart))

theorem startWake {r base} (h : s.Keeps t) : s.Keeps (t.startWake r base) := h.beside.railsUp.showPower

theorem takeRequest {r} (h : s.Keeps t) : s.Keeps (t.takeRequest r) :=
  .ite h (by split; exacts [h.startWake, h.startWake, by split; exacts [h.powerRefuse, h.startTrans]])

theorem pendRequest {r} (h : s.Keeps t) : s.Keeps (t.pendRequest r) := .ite h (.power (by split; exacts [h.powerRefuse, h]))

theorem winTie {t' r} (h : s.Keeps t) : s.Keeps (t.winTie t' r) := (h.power.iff (fun h => h.pendRequest)).pendRequest.showPower

theorem submit {target requester off} (h : s.Keeps t) : s.Keeps (t.submit target requester off) :=
  .ite h (by split; exacts [.ite h.winTie h.pendRequest, .ite h.pendRequest h.takeRequest])

theorem pwrReqWrite {q d} (h : s.Keeps t) : s.Keeps (t.pwrReqWrite q d) := by
  unfold State.pwrReqWrite
  dsimp only; split; exacts [h.plainWrite.whenever fun h => h.submit, h.plainWrite]

theorem setSources {n} (h : s.Keeps t) : s.Keeps (t.setSources n) := h.beside

theorem pwrVetoWrite {q d} (h : s.Keeps t) : s.Keeps (t.pwrVetoWrite q d) := .ite h.plainWrite h

theorem dropDatapath {deep} (h : s.Keeps t) : s.Keeps (t.dropDatapath deep) := h.beside

theorem dropControl (h : s.Keeps t) : s.Keeps t.dropControl := h.beside

theorem writeSnapshot (h : s.Keeps t) : s.Keeps t.writeSnapshot := h.dropBanks.putStore.useFresh.beside

theorem sleepEntry {t'} (h : s.Keeps t) : s.Keeps (t.sleepEntry t') :=
  ((h.groupsOff.branch (fun h => h.linkDown) fun h => h.dropLink).beside.whenever fun h =>
    h.writeSnapshot.takeSignatures).dropBanks.dropDatapath.beside.railsDown.showPower

theorem execEntryInstant {thermal} (h : s.Keeps t) : s.Reaches (execEntryInstant thermal t) := by
  refine next (.ite (h.beside.groupsOff.whenever fun h => h.event) ?_)
  split
  · exact .ite h (.ite h.sleepEntry (.ite h.power h.groupsOff.startUps))
  · exact h

theorem thermalOff {mask} (h : s.Keeps t) : s.Keeps (t.thermalOff mask) := h.power

theorem thermalOn {mask} (h : s.Keeps t) : s.Keeps (t.thermalOn mask) := h.power.otherwise fun h => h.wakeGroups

theorem enterStep13 (h : s.Keeps t) : s.Keeps t.enterStep13 := by
  unfold State.enterStep13
  dsimp only; split; exacts [h.setFld.startCores.reportRetFail.power.event, h.setFld.startCores.reportRetFail.power]

theorem afterWakes (h : s.Keeps t) : s.Keeps t.afterWakes := .ite h.enterStep13 h

theorem groupsFail {mask k cause} (h : s.Keeps t) : s.Keeps (t.groupsFail mask k cause) := h.setFld.power.event

theorem dieFail {k code} (h : s.Keeps t) : s.Keeps (t.dieFail k code) :=
  .ite h (.afterWakes (by split; exacts [h.groupsFail.powerRefuse, h.groupsFail]))

theorem groupPowered {g} (h : s.Keeps t) : s.Keeps (t.groupPowered g) :=
  h.switchOn.resetDomain.beside.setFld.power.requestRetune.requestRetune.whenever fun h => h.event

theorem execGroupWakeStageEnd {g} (h : s.Keeps t) : s.Reaches (execGroupWakeStageEnd g t) :=
  next (by split; exacts [.ite h h.dropOp.groupPowered, .ite h.power h, h.power, h.power.afterWakes, h])

theorem execGroupWakeTimeout {g} (h : s.Keeps t) : s.Reaches (execGroupWakeTimeout g t) := by
  refine next ?_
  split
  · exact h.dropOp.dropOp.dieFail
  · exact h.event.power
  · exact h.event.groupsOff.groupsFail.afterWakes
  · exact h.event.groupsOff.groupsFail.afterWakes
  · exact h

theorem execPowerGoodLoss {die} (h : s.Keeps t) : s.Reaches (execPowerGoodLoss die t) :=
  next (.ite h (h.foldl (fun h => h.groupOff)).beside.groupsFail.afterWakes)

theorem abortSleep {t' code} (h : s.Keeps t) : s.Keeps (t.abortSleep t' code) := h.powerRefuse.beside.railsUp.showPower

theorem abortWake {t' code} (h : s.Keeps t) : s.Keeps (t.abortWake t' code) := h.powerRefuse.beside.railsDown.showPower

theorem abortNap {t' code} (h : s.Keeps t) : s.Keeps (t.abortNap t' code) := h.powerRefuse.setFld.beside.wakeGroups

theorem regFail {o code status} (h : s.Keeps t) : s.Keeps (t.regFail o code status) := by
  unfold State.regFail
  extract_lets a dropped told r
  have reported : s.Keeps r := (h.dropOp.whenever fun h => h.setFld).event
  split
  · exact reported.dieFail
  · exact reported
  · refine .ite reported.beside.failAttempt ?_
    split
    · exact reported
    · refine .ite (.ite reported.abortWake reported) (.ite reported.abortSleep ?_)
      split; exacts [.ite reported.abortNap reported, reported]

theorem regAck {o} (h : s.Keeps t) : s.Keeps (t.regAck o) := by
  unfold State.regAck
  split
  · exact h.beside.setFld.whenever fun h => h.beside.pushAvs
  · exact h.dropOp.whenever fun h => h.beside
  · exact h.beside
  · exact h
  · exact h.beside.dropOp
  · exact h.beside.dropOp
  · exact h.beside.dropOp

theorem execAvsbusTransactionEnd {avs ack status} (h : s.Keeps t) : s.Reaches (execAvsbusTransactionEnd avs ack status t) :=
  next (by split; exacts [.ite h.regAck.showPower h.regFail.showPower, h])

theorem execRegulatorTimeout {die status} (h : s.Keeps t) : s.Reaches (execRegulatorTimeout die status t) :=
  next (by split; exacts [h.regFail.showPower, h])

theorem vcoreWrite {d} (h : s.Keeps t) : s.Keeps (t.vcoreWrite d) := h.plainWrite.whenever fun h => .ite h.beside h.pushAvs

theorem regCfgWrite {d} (h : s.Keeps t) : s.Keeps (t.regCfgWrite d) := h.plainWrite.forEach (fun h => h.iff (fun h => h.pushOp))

theorem execPmbAlert {statuses} (h : s.Keeps t) : s.Reaches (execPmbAlert statuses t) := (h.foldl (fun h => h.event)).next

theorem wakeSource {code states en tgt} (h : s.Keeps t) : s.Keeps (t.wakeSource code states en tgt) := by
  unfold State.wakeSource
  split; exacts [.ite h.submit h, h]

theorem execWakeNAssert (h : s.Keeps t) : s.Reaches (execWakeNAssert t) := h.setSources.wakeSource.next

theorem execQb0ClockWake (h : s.Keeps t) : s.Reaches (execQb0ClockWake t) := h.setSources.wakeSource.next

theorem execAonTimerExpiry (h : s.Keeps t) : s.Reaches (execAonTimerExpiry t) := next (.ite h h.wakeSource)

theorem execMspiCsWake (h : s.Keeps t) : s.Reaches (execMspiCsWake t) := h.setSources.wakeSource.next

theorem execBellWord {word} (h : s.Keeps t) : s.Reaches (execBellWord word t) :=
  next (.ite h (by split; exacts [h.count, .ite (h.count.wr.whenever fun h => h.beside.settleIrq) h.count.wr.beside.submit]))

theorem execPingIrqPulseEnd (h : s.Keeps t) : s.Reaches (execPingIrqPulseEnd t) := h.beside.settleIrq.next

theorem execTtLightMark {row wake sources} (h : s.Keeps t) : s.Reaches (execTtLightMark row wake sources t) :=
  (h.setSources.otherwise fun h => .ite (.ite h.submit h) (.ite h.beside.submit h)).next

/-! ### Hk -/

theorem hkStart {r} (h : s.Keeps t) : s.Keeps (t.hkStart r) := h.beside.wr

theorem hkIdle (h : s.Keeps t) : s.Keeps t.hkIdle := h.beside.wr

theorem hkTriggered {e due} (h : s.Keeps t) : s.Keeps (t.hkTriggered e due) :=
  (h.beside.whenever fun h => h.count.eventOnce).hkStart

theorem hkWalk (h : s.Keeps t) : s.Keeps t.hkWalk := by
  unfold State.hkWalk
  dsimp only; split; exacts [h.beside.beside.hkStart, h.beside.hkIdle]

theorem hkChoose (h : s.Keeps t) : s.Keeps t.hkChoose :=
  .ite h (by split; exacts [h.hkTriggered, by split; exacts [h.hkStart, by split; exacts [h.beside.hkStart, h.hkWalk]]])

theorem hkAbort (h : s.Keeps t) : s.Keeps t.hkAbort := by
  unfold State.hkAbort
  split; exacts [.ite h.count.hkIdle h, h]

theorem hkMark {mark air} (h : s.Keeps t) : s.Keeps (t.hkMark mark air) :=
  h.foldl (fun h => .ite (h.iff (fun h => h.count)).beside h)

theorem execTriggeredEntryDue {entry} (h : s.Keeps t) : s.Reaches (execTriggeredEntryDue entry t) :=
  next (by split; exacts [h.beside.hkAbort.hkChoose, h])

theorem execGuardConversionDue {ch} (h : s.Keeps t) : s.Reaches (execGuardConversionDue ch t) := next (.ite h.beside.hkChoose h)

theorem hkUrgWrite {d} (h : s.Keeps t) : s.Keeps (t.hkUrgWrite d) := h.plainWrite.whenever fun h => .ite h.count h.hkStart

theorem hkListWrite {a d} (h : s.Keeps t) : s.Keeps (t.hkListWrite a d) := h.plainWrite.beside.hkChoose

theorem hkPush {c v} (h : s.Keeps t) : s.Keeps (t.hkPush c v) := .ite h (.ite h.beside h.count.eventOnce)

theorem hkResult {c raw v off} (h : s.Keeps t) : s.Keeps (t.hkResult c raw v off) := h.wr.wr.hkPush.compUpdate

theorem hkPortPop (h : s.Keeps t) : s.Keeps t.hkPortPop.1 := by
  unfold State.hkPortPop
  split; exacts [h.beside, h]

theorem thermalLevel {f c v thr up down} (h : s.Keeps t) (hup : ∀ {t}, s.Keeps t → s.Keeps (up t)) (hdown : ∀ {t}, s.Keeps t →
    s.Keeps (down t)) :
    s.Keeps (t.thermalLevel f c v thr up down) :=
  .ite (.ite h (hup h.setFld)) (.ite (hdown h.setFld) h)

theorem thermalTrip (h : s.Keeps t) : s.Keeps t.thermalTrip :=
  (h.foldl (fun h => h.groupOff)).spoilFlash.spoilFuses.clearBlocks.beside.setFld.setFld.setFld.showPower

theorem thermal {c code} (h : s.Keeps t) : s.Keeps (t.thermal c code) :=
  ((h.thermalLevel (fun h => h.event) (fun h => h)).thermalLevel (fun h => h.thermalOff.event) (fun h =>
    h.thermalOn.event)).whenever fun h => h.thermalTrip.event

theorem thermCfgWrite {d} (h : s.Keeps t) : s.Keeps (t.thermCfgWrite d) := .ite h.plainWrite h

theorem openQuotient {a b} (h : s.Keeps t) : s.Keeps (t.openQuotient a b).1 := .ite_fst h h.useFresh

theorem lop4End {state err} (h : s.Keeps t) : s.Keeps (t.lop4End state err) := h.beside.setFld.lopEnd

theorem lop4Gain {c rf} (h : s.Keeps t) : s.Keeps (t.lop4Gain c rf) :=
  .ite h.lop4End (.ite h.lop4End h.openQuotient.setFld.setFld.lop4End)

theorem lop4Step {raw} (h : s.Keeps t) : s.Keeps (t.lop4Step raw) := by
  unfold State.lop4Step
  split; exacts [h, h.beside.lopUnits.openQuotient.setFld.otherwise fun h => .ite h.lop4Gain h.wr.lop4End]

theorem syscalWrite {d} (h : s.Keeps t) : s.Keeps (t.syscalWrite d) :=
  .ite h.setFld (h.plainWrite.otherwise fun h => h.setFld.lopStart.setFld.branch (fun h => h.lop4End) fun h => .ite h.lop4End
    h.beside.hkAbort.hkChoose)

theorem execHkConversionEnd {raw scaled off} (h : s.Keeps t) : s.Reaches (execHkConversionEnd raw scaled off t) :=
  next (by split; exacts [h, ((h.hkIdle.hkResult.whenever fun h => h.thermal).whenever fun h => h.lop4Step).hkChoose])

/-! ### Bus -/

theorem setShadow {low key h'} (h : s.Keeps t) : s.Keeps (t.setShadow low key h') := h.beside

theorem pairRead {low high key} (h : s.Keeps t) : s.Keeps (t.pairRead low high key).1 := .ite_fst h.setShadow h.setShadow

theorem pairWritten {a key} (h : s.Keeps t) : s.Keeps (t.pairWritten a key) := by
  unfold State.pairWritten
  split; exacts [h.setShadow, h]

theorem coreRegRead {x c o} (h : s.Keeps t) : s.Keeps (t.coreRegRead x c o).1 :=
  .ite_fst h (.ite_fst h (.ite_fst h.pairRead (.ite_fst h (.ite_fst h.mbxOutRead (.ite_fst h (.ite_fst h h))))))

theorem regRead {x a} (h : s.Keeps t) : s.Keeps (t.regRead x a).1 := by
  unfold State.regRead
  split
  · exact h.pairRead
  · exact .ite_fst (.ite_fst h.coreUnpend (.ite_fst h.coreUnpend (.ite_fst h.coreUnpend (.ite_fst h.capPortRead h)))) (.ite_fst
      h.hkPortPop (.ite_fst h (.ite_fst h (.ite_fst h (.ite_fst h (.ite_fst h (.ite_fst h h)))))))

theorem coreMemRead {c mem w err v} (h : s.Keeps t) : s.Keeps (t.coreMemRead c mem w err v).1 :=
  .ite_fst h.event (.ite h.coreCorrected h)

theorem readAt {x a} (h : s.Keeps t) : s.Keeps (t.readAt x a).1 := by
  unfold State.readAt
  split
  · exact .ite_fst (.pair h.storeRead) (.pair h.storeRead)
  · exact h.coreMemRead
  · exact h.coreMemRead
  · exact .pair h.coreRegRead
  · exact .ite_fst (.pair h.regRead) (.pair h)
  · exact .pair h.regRead

theorem coreRegWrite {x c o d} (h : s.Keeps t) : s.Keeps (t.coreRegWrite x c o d) :=
  .ite h.coreCtrlWrite (.ite h (.ite h.coreIrqWrite (.ite h.doorbellWrite (.ite h.mbxInWrite (.ite h h.plainWrite)))))

theorem bootBlockWrite {x a d} (h : s.Keeps t) : s.Keeps (t.bootBlockWrite x a d) :=
  .ite h.devCtrlWrite (.ite h.bootCtrlWrite (.ite h.heartbeatWrite (.ite h.flCtrlWrite (.ite h.verifyCtrlWrite (.ite
    h.procCmdWrite (.ite h.attCtrlWrite h.plainWrite))))))

theorem controlBlockWrite {x a d} (h : s.Keeps t) : s.Keeps (t.controlBlockWrite x a d) :=
  .ite h.evtCtrlWrite (.ite h.plainWrite.settleIrq (.ite h.pwrReqWrite (.ite h.pwrVetoWrite (.ite h.vcoreWrite (.ite
    h.regCfgWrite (.ite h.clkPhaseWrite (.ite h.sysoutWrite (.ite h.hkUrgWrite (.ite h.hkListWrite (.ite h.hkListWrite (.ite
    h.thermCfgWrite (.ite h.syscalWrite h.plainWrite))))))))))))

theorem linkBlockWrite {x a d} (h : s.Keeps t) : s.Keeps (t.linkBlockWrite x a d) :=
  .ite h.lnkCtrlWrite (.ite h.lnkTestWrite (.ite h.lnkMarginWrite (.ite h.lnkDestWrite (.ite h.lnkEqWrite (.ite h.queCtrlWrite
    (.ite h.queFlushWrite (.ite h.queCfgWrite (.ite h.dmaCtrlWrite (.ite h.dmaDescWrite (.ite h.scrubCtrlWrite (.ite
    h.retMask0Write h.plainWrite)))))))))))

theorem airBlockWrite {a d} (h : s.Keeps t) : s.Keeps (t.airBlockWrite a d) :=
  .ite h.atmCtrlWrite (.ite h.syncCtrlWrite (.ite h.windowWrite (.ite h.ttCtrlWrite (.ite h.peerWrite (.ite h.ttRowWrite (.ite
    h.plainWrite (.ite h.updCtrlWrite h.plainWrite)))))))

theorem chainBlockWrite {a d} (h : s.Keeps t) : s.Keeps (t.chainBlockWrite a d) :=
  .ite h.chainCtrlWrite (.ite h.chainCtrlWrite (.ite h.gainWrite (.ite h.iqWrite (.ite h.iqWrite (.ite h.firCtrlWrite (.ite
    h.firWrite (.ite h.rssiCfgWrite h.plainWrite)))))))

theorem linBlockWrite {x a d} (h : s.Keeps t) : s.Keeps (t.linBlockWrite x a d) :=
  .ite h.linCtrlWrite (.ite h.lop2Write (.ite h.plainWrite (.ite h.kernWrite (.ite h.linPageWrite (.ite h.loopCfgWrite (.ite
    h.sfdCtrlWrite (.ite h.sfdLoadWrite (.ite h.plainWrite (.ite h.sfdCapWrite (.ite h.lop3Write (.ite h.plainWrite
    h.plainWrite)))))))))))

theorem rfBlockWrite {a d} (h : s.Keeps t) : s.Keeps (t.rfBlockWrite a d) :=
  .ite (.ite h.loselWrite (.ite h.loCtrlWrite (.ite h.loPhaseWrite (.ite h.rffeCtrlWrite (.ite h.rffeEntWrite h.plainWrite)))))
    (.ite h.calArrWrite (.ite h.plainWrite (.ite h.calLoadWrite (.ite h.calConvWrite (.ite h.calSaveWrite (.ite h.pointWrite
    h.plainWrite))))))

theorem regWrite {x a d} (h : s.Keeps t) : s.Keeps (t.regWrite x a d) :=
  h.pairWritten.branch (fun h => h.bootBlockWrite) fun h => .ite h.controlBlockWrite (.ite h.linkBlockWrite (.ite
    h.airBlockWrite (.ite h.chainBlockWrite (.ite h.linBlockWrite h.rfBlockWrite))))

theorem writeAt {x a d} (h : s.Keeps t) : s.Keeps (t.writeAt x a d).1 := by
  unfold State.writeAt
  split; exacts [h.storeWrite, h.setCore, h.setCore, h.pairWritten.coreRegWrite, .ite_fst h.regWrite h, .ite_fst h h.regWrite]

theorem busRead {q env a} (h : s.Keeps t) : s.Keeps (t.busRead q env a).1 := .ite_fst h.merr (.ite_fst h.readAt h.readAt.merr)

theorem busWrite {q env posted a d} (h : s.Keeps t) : s.Keeps (t.busWrite q env posted a d).1 :=
  .ite_fst h.merr (.ite_fst h.writeAt h.writeAt.merr)

/-! ### CoreSys -/

theorem sysDone {c a data} (h : s.Keeps t) : s.Keeps (t.sysDone c a data) := h.setCore.coreBoundary

theorem sysPerform {core env a} (h : s.Keeps t) : s.Keeps (t.sysPerform core env a).1 := .ite_fst h.busWrite h.busRead

theorem execSystemAccessComplete {core cycles env} (h : s.Keeps t) : s.Reaches (execSystemAccessComplete core cycles env t) :=
  next (by split; exacts [h, h.addCycles.sysPerform.otherwise fun h => .ite h.sysDone h.coreTrap])

/-! ### DmaRun -/

theorem takeLine {l} (h : s.Keeps t) : s.Keeps (t.takeLine l) := .ite h.beside (.ite h.beside (.ite h.setFld h))

theorem inBurst {n} (h : s.Keeps t) {u : State} (hu : t.inBurst n = some u) : s.Keeps u := by
  have offered : ∀ v ∈ t.inBurst n, s.Keeps v := by
    unfold State.inBurst
    dsimp only
    intro v hv
    split_ifs at hv <;> cases hv
    exacts [h, h.takeLine.setChan, h.setChan]
  exact offered u hu

theorem burstWord {b : BurstRun} {n w preq err} (h : s.Keeps b.s) : s.Keeps (b.word n w preq err).s := by
  have write {u : State} {a v x m p q} (h : s.Keeps u) :
      s.Keeps (if u.dmaStatus n a true 0 = stOk then
        (⟨((u.setChan n { u.chan n with held := none }).writeAt x a v).1, m + 1, p, false⟩ : BurstRun)
      else ⟨u.setChan n { u.chan n with held := some v }, m, q, true⟩).s := by
    split; exacts [h.setChan.writeAt, h.setChan]
  unfold BurstRun.word
  extract_lets
  split
  · exact write h
  · split
    · exact h
    · exact write h.readAt

theorem burstPair {b : BurstRun} {n w e0 e1} (h : s.Keeps b.s) : s.Keeps (b.pair n w e0 e1).s := h.readAt.readAt.storeWrite

theorem burstRun {n preq fuel w k errs} {b : BurstRun} (h : s.Keeps b.s) : s.Keeps (b.run n preq fuel w k errs).s := by
  induction fuel generalizing w k errs b with
  | zero => exact h
  | succ fuel ih =>
    unfold BurstRun.run
    dsimp only
    split
    · exact h
    · split; exacts [ih h.burstPair, ih h.burstWord]

theorem execDmaBurst {ch errs} (h : s.Keeps t) : s.Reaches (execDmaBurst ch errs t) := by
  refine next ?_
  split
  · exact h
  · next u burst =>
    exact .dmaSettle (((h.inBurst burst).burstRun).showDma.setChan.otherwise fun h => h.count.setFld.event)

theorem execDescriptorComplete {ch} (h : s.Keeps t) : s.Reaches (execDescriptorComplete ch t) :=
  next (.ite h (.ite (.ite h.takeLine.dmaComplete h) h.dmaComplete))

theorem execDmaBusError {ch ecc} (h : s.Keeps t) : s.Reaches (execDmaBusError ch ecc t) := by
  refine next ?_
  split
  · exact h
  · next u burst =>
    have begun := h.inBurst burst
    dsimp only
    split
    · exact .ite h (.dmaBusError (begun.whenever fun h => h.writeAt))
    · exact .ite h (.dmaBusError (begun.whenever fun h => h.readAt))

theorem execDmaResponseTimeout {ch write} (h : s.Keeps t) : s.Reaches (execDmaResponseTimeout ch write t) := by
  refine next ?_
  split
  · exact h.whenever fun h => h.dmaBusError
  · split
    · exact h
    · next u burst =>
      have begun := h.inBurst burst
      dsimp only
      split
      · exact begun.dmaBusError
      · exact .ite begun.readAt.setChan.dmaBusError begun.dmaBusError

/-! ### Counts -/

theorem dlSat {f p stage n} (h : s.Keeps t) : s.Keeps (t.dlSat f p stage n) := .ite h h.count.eventOnce

theorem adcSat {p n} (h : s.Keeps t) : s.Keeps (t.adcSat p n) := .ite h h.count.eventOnce

theorem frontSat {p n} (h : s.Keeps t) : s.Keeps (t.frontSat p n) := .ite h h.count.eventOnce

theorem linSat {p gain pd} (h : s.Keeps t) : s.Keeps (t.linSat p gain pd) := by
  unfold State.linSat
  exact (h.iff (fun h => h.count.eventOnce)).iff fun h => h.count.eventOnce

theorem cfrCount {p peaks miss} (h : s.Keeps t) : s.Keeps (t.cfrCount p peaks miss) := by
  unfold State.cfrCount
  exact (h.iff (fun h => h.count)).iff fun h => h.count.eventOnce

theorem countDown {a b p} (h : s.Keeps t) : s.Keeps (t.countDown a b p) :=
  .ite h (h.dlSat.iff (fun h => h.cfrCount.linSat)).dlSat.dlSat

theorem countUp {a b p} (h : s.Keeps t) : s.Keeps (t.countUp a b p) := .ite h h.adcSat.frontSat

theorem countSymbol {a b} (h : s.Keeps t) : s.Keeps (t.countSymbol a b) :=
  .ite h ((h.forEach (fun h => h.countDown)).forEach (fun h => h.countUp))

theorem pruneSamples {a} (h : s.Keeps t) : s.Keeps (t.pruneSamples a) := h.beside

theorem takeCodes {a adc} (h : s.Keeps t) : s.Keeps (t.takeCodes a adc) := h.beside

theorem takePaths (h : s.Keeps t) : s.Keeps t.takePaths := by
  unfold State.takePaths
  dsimp only; split; exacts [h.retake.beside, h.retake]

/-! ### Prach -/

theorem execPrachOccasion {engine} (h : s.Keeps t) : s.Reaches (execPrachOccasion engine t) :=
  next (.ite h (.ite (h.iff (fun h => h.keepNco)).beside h.count.setFld.event))

/-! ### Timetable -/

theorem planFall {p l t'} (h : s.Keeps t) : s.Keeps (t.planFall p l t') := h.beside

theorem planRise {p l t' lock guard} (h : s.Keeps t) : s.Keeps (t.planRise p l t' lock guard) :=
  h.beside.whenever fun h => h.count.eventOnce

theorem planLines {g t' lv fl sb guard} (h : s.Keeps t) : s.Keeps (t.planLines g t' lv fl sb guard) :=
  (h.foldl (fun h => h.iff (fun h => (h.foldl (fun h => h.planFall)).beside))).foldl (fun h => h.iff (fun h => (h.foldl (fun h
    => h.planRise)).beside))

theorem driveEdge {e} (h : s.Keeps t) : s.Keeps (t.driveEdge e) := .ite h (.ite h.beside h.driveFec)

theorem runEdges (h : s.Keeps t) : s.Keeps t.runEdges := h.beside.foldl fun h => h.driveEdge

theorem runSupplies (h : s.Keeps t) : s.Keeps t.runSupplies := h.beside

theorem supplyDown {p k t'} (h : s.Keeps t) : s.Keeps (t.supplyDown p k t') := h.beside

theorem supplyUp {p k b t'} (h : s.Keeps t) : s.Keeps (t.supplyUp p k b t') := .ite h h.beside

theorem planSupplies {p ks a b lag was off next} (h : s.Keeps t) : s.Keeps (t.planSupplies p ks a b lag was off next) := by
  have down : s.Keeps (if off && !was then ks.foldl (fun s k => s.supplyDown p k (a + lag)) t else t) :=
    .ite (h.foldl fun h => h.supplyDown) h
  refine .ite ?_ (down.whenever fun h => h.foldl fun h => h.supplyUp)
  split; exacts [down.foldl fun h => h.supplyUp, down]

theorem setQuiet {a b} (h : s.Keeps t) : s.Keeps (t.setQuiet a b) :=
  (h.foldl (fun h => h.iff (fun h => h.planSupplies.planSupplies))).beside.forEach (fun h => (h.iff (fun h => h.count)).iff
    (fun h => h.count))

theorem boundaryLo {g k} (h : s.Keeps t) : s.Keeps (t.boundaryLo g k) := by
  refine .ite h (.beside ?_)
  dsimp only
  split
  · exact h.applyBand.branch (fun h => h.setFld.iff (fun h => h.setSynth.requestRetune)) fun h => h.iff (fun h => h.setFld)
  · exact h.applyBand.iff (fun h => h.setFld)

theorem boundaryLoIdle {g} (h : s.Keeps t) : s.Keeps (t.boundaryLoIdle g) := .ite h (h.applyBand.iff (fun h => h.setFld)).beside

theorem fireMarks {k a} (h : s.Keeps t) : s.Keeps (t.fireMarks k a) := h.foldl (fun h => h.iff (fun h => h.hkMark))

theorem takeRows {a} (h : s.Keeps t) : s.Keeps (t.takeRows a) := by
  unfold State.takeRows
  split; exacts [(h.fireMarks.forEach (fun h => h.boundaryLo)).beside, (h.forEach (fun h => h.boundaryLoIdle)).beside]

theorem takeClasses {a} (h : s.Keeps t) : s.Keeps (t.takeClasses a) := by
  unfold State.takeClasses
  dsimp only
  split
  · exact ((h.beside.iff (fun h => h.forEach (fun h => h.mixCapture))).iff (fun h => h.mixSfd)).beside
  · exact h.beside

theorem takeReadiness {a} (h : s.Keeps t) : s.Keeps (t.takeReadiness a) := h.beside.forEach fun h => h.notReady.beside

theorem takeLines {a b} (h : s.Keeps t) : s.Keeps (t.takeLines a b) :=
  h.forEach (fun h => (h.planLines.whenever fun h => h.planLines).planLines.beside)

theorem logSymbol {a} (h : s.Keeps t) : s.Keeps (t.logSymbol a) := h.beside

theorem pruneSpans {a} (h : s.Keeps t) : s.Keeps (t.pruneSpans a) := h.beside

theorem takeSettings (h : s.Keeps t) : s.Keeps t.takeSettings := h.beside.refreshDelays.iff fun h => h.applyGains

theorem takeDirs {a} (h : s.Keeps t) : s.Keeps (t.takeDirs a) := h.beside

theorem takeChips {a b} (h : s.Keeps t) : s.Keeps (t.takeChips a b) := by
  unfold State.takeChips
  split; exacts [.ite h h.runChips, h]

theorem endSymbol {a} (h : s.Keeps t) : s.Keeps (t.endSymbol a) := by
  unfold State.endSymbol
  split; exacts [h.countSymbol, h]

theorem execTimetableSymbol {adc} (h : s.Keeps t) : s.Reaches (execTimetableSymbol adc t) :=
  next (.ite h
    ((h.runEdges.runSupplies.endWgtSlots.pruneSpans.beside.takeSettings.takeRows.takeDirs.takeClasses.takeReadiness.setQuiet.takeLines.takeChips.logSymbol.iff
    (fun h => h.mixSfd)).takeCodes.takePaths.endSymbol.pruneSamples.forEach (fun h => h.corePend)))

/-! ### Downlink -/

theorem matchDld {c gs p bad} (h : s.Keeps t) : s.Keeps (t.matchDld c gs p bad).1 := by
  unfold State.matchDld
  dsimp only; split; exacts [h.dldDiscard, .ite_fst h (.ite_fst h.dldDiscard h)]

theorem dropSection {up r h'} (h : s.Keeps t) : s.Keeps (t.dropSection up r h') := h.count.event

theorem takeUnits {up air n} (h : s.Keeps t) : s.Keeps (t.takeUnits up air n).1 := .ite_fst h h.setCarriers.setFld

theorem sectionWeights {h' req} (h : s.Keeps t) : s.Keeps (t.sectionWeights h' req).1 := by
  refine .ite_fst (.pair h) (.ite_fst ?_ ?_)
  · split; exacts [.pair h.readPart, .pair h.count.event]
  · split; exacts [.pair h, .pair h.storeRead]

theorem admitDl {g badSec corr} (h : s.Keeps t) : s.Keeps (t.admitDl g badSec corr).1 := by
  refine .ite_fst (.pair h.dropSection) (.ite_fst (.pair h.dropSection) ?_)
  dsimp only
  split
  · exact .pair (h.sectionWeights.iff fun h => h.dropSection)
  · exact .ite_fst (.pair h.sectionWeights.takeUnits) (.pair h.sectionWeights.takeUnits.dropSection)

theorem dlResidue {code info} (h : s.Keeps t) : s.Keeps (t.dlResidue code info) := h.count.event

theorem linResidue {p stage} (h : s.Keeps t) : s.Keeps (t.linResidue p stage) := h.beside.dlResidue

theorem dlMark {c m} (h : s.Keeps t) : s.Keeps (t.dlMark c m) :=
  (h.iff (fun h => h.dlResidue)).otherwise fun h => (h.iff (fun h => h.linResidue)).iff fun h => h.linResidue

theorem readAll {req ps} (h : s.Keeps t) : s.Keeps (t.readAll req ps).1 := h.foldl_fst fun h => h.readPacket

theorem consumeSymbol {up c a} (h : s.Keeps t) : s.Keeps (t.consumeSymbol up c a) :=
  .releaseSecs (.dropHeld (.ite h h.consumeIf))

theorem matchAll {c hs dlds bad} (h : s.Keeps t) : s.Keeps (t.matchAll c hs dlds bad).1 := h.foldl_fst fun h => h.matchDld

theorem admitAll {gs bad corr} (h : s.Keeps t) : s.Keeps (t.admitAll gs bad corr).1 := h.foldl_fst fun h => h.admitDl

theorem beamform {c a car ads marks} (h : s.Keeps t) : s.Keeps (t.beamform c a car ads marks) :=
  (h.foldl (fun h => h.dlSat)).beside.foldl fun h => h.dlMark

theorem setFetched {up c a} (h : s.Keeps t) : s.Keeps (t.setFetched up c a) := h.setCarriers

theorem inOrder {up c one} (h : s.Keeps t) (hone : ∀ {t x0}, s.Keeps t → s.Keeps (one t x0)) :
    s.Keeps (t.inOrder up c one) := by
  unfold State.inOrder
  exact (h.foldl (fun h => h.iff (fun h => (hone h).setFetched))).iff (fun h => (hone h).setFetched)

theorem fetchDl {c marks} (h : s.Keeps t) : s.Keeps (t.fetchDl c marks) :=
  h.beside.branch (fun h => h.count.consumeSymbol) fun h => .ite (h.foldl (fun h => h.dropSection)).consumeSymbol
    h.readAll.readAll.matchAll.admitAll.beamform.consumeSymbol

theorem execDownlinkFetch {carrier upsets marks} (h : s.Keeps t) : s.Reaches (execDownlinkFetch carrier upsets marks t) :=
  (h.hits.otherwise fun h => h.inOrder (fun h => h.fetchDl)).next

/-! ### Mgq -/

theorem mgqAnswer {m status data} (h : s.Keeps t) : s.Keeps (t.mgqAnswer m status data) :=
  .ite h (h.beside.branch (fun h => h.mgaSend.mgqStart) fun h => .ite h.mgaSend.mgqStart h)

theorem execMgqRead {env} (h : s.Keeps t) : s.Reaches (execMgqRead env t) := next (by split; exacts [h.busRead.mgqAnswer, h])

theorem execMgqWrite {env} (h : s.Keeps t) : s.Reaches (execMgqWrite env t) := next (by split; exacts [h.busWrite.mgqAnswer, h])

theorem busModify {q env a d mask} (h : s.Keeps t) : s.Keeps (t.busModify q env a d mask).1 :=
  .ite_fst h.merr (.ite_fst h.busRead h.busRead.busWrite)

theorem execMgqModify {env} (h : s.Keeps t) : s.Reaches (execMgqModify env t) :=
  next (by split; exacts [h.busModify.mgqAnswer, h])

/-! ### Mspi -/

theorem setMiso {bs} (h : s.Keeps t) : s.Keeps (t.setMiso bs) := h.beside

theorem setHeld {h'} (h : s.Keeps t) : s.Keeps (t.setHeld h') := h.beside

theorem post {a d} (h : s.Keeps t) : s.Keeps (t.post a d) := .ite h.beside h

theorem performPosted (h : s.Keeps t) : s.Keeps t.performPosted := by
  unfold State.performPosted
  split; exacts [h.beside.busWrite.otherwise fun h => h.event, h]

theorem drainPosted (h : s.Keeps t) : s.Keeps t.drainPosted := h.foldl fun h => h.performPosted

theorem finishHeld {env} (h : s.Keeps t) : s.Keeps (t.finishHeld env) := by
  unfold State.finishHeld
  split; exacts [.ite h (h.drainPosted.branch (fun h => h.busWrite.setHeld) fun h => h.busRead.setHeld), h]

theorem emptyHeld {env} (h : s.Keeps t) : s.Keeps (t.emptyHeld env) := h.finishHeld.setHeld

theorem frameEnd (h : s.Keeps t) : s.Keeps t.frameEnd := .ite h.mspiReset h

theorem mspiReadAt {a late env} (h : s.Keeps t) : s.Keeps (t.mspiReadAt a late env) := by
  unfold State.mspiReadAt
  split
  · exact .ite h.setHeld.setMiso h.setMiso
  · exact h.emptyHeld.branch (fun h => h.setHeld.setMiso) fun h => h.drainPosted.busRead.setMiso

theorem readFrame {cmd a crc late env} (h : s.Keeps t) : s.Keeps (t.readFrame cmd a crc late env) :=
  .ite h.setMiso (.ite h.mspiReadAt.frameEnd (.setMiso (.ite h.count h)))

theorem execMspiRead {cmd addr crc late env} (h : s.Keeps t) : s.Reaches (execMspiRead cmd addr crc late env t) :=
  next (.ite h h.readFrame)

theorem mspiWriteAt {a d late env} (h : s.Keeps t) : s.Keeps (t.mspiWriteAt a d late env) := by
  unfold State.mspiWriteAt
  split
  · exact .ite h.setHeld.setMiso h.setMiso
  · exact h.emptyHeld.branch (fun h => h.post.setMiso) fun h => .ite h.setHeld.setMiso h.drainPosted.busWrite.setMiso

theorem writeFrame {a d crc late env} (h : s.Keeps t) : s.Keeps (t.writeFrame a d crc late env) :=
  .ite h.setMiso (.ite h.mspiWriteAt.frameEnd (.setMiso (.ite h.count h)))

theorem execMspiWrite {addr data crc late env} (h : s.Keeps t) : s.Reaches (execMspiWrite addr data crc late env t) :=
  h.writeFrame.next

theorem cutMiso {n} (h : s.Keeps t) : s.Keeps (t.cutMiso n) := h.setMiso

theorem execMspiFrameAbort {sent late env} (h : s.Keeps t) : s.Reaches (execMspiFrameAbort sent late env t) :=
  next (.ite h.setMiso (.ite h.count.setMiso (.ite h.writeFrame.cutMiso h.readFrame.cutMiso)))

theorem execMspiDeferredAccessEnd {env} (h : s.Keeps t) : s.Reaches (execMspiDeferredAccessEnd env t) := h.finishHeld.next

theorem execPostedStoreWrite (h : s.Keeps t) : s.Reaches (execPostedStoreWrite t) := h.performPosted.next

/-! ### RegisterCommands -/

theorem mspiTurn {env f} (h : s.Keeps t) (hf : ∀ {t}, s.Keeps t → s.Keeps (f t)) : s.Keeps (t.mspiTurn env f) :=
  .ite ((hf h.emptyHeld.drainPosted).whenever fun h => h.mspiReset) h

theorem turn {q env f} (h : s.Keeps t) (hf : ∀ {t}, s.Keeps t → s.Keeps (f t)) : s.Keeps (t.turn q env f) :=
  .ite (h.mspiTurn (fun h => hf h)) (hf h)

theorem judged {q a write f} (h : s.Keeps t) (hf : ∀ {t}, s.Keeps t → s.Keeps (f t)) : s.Keeps (t.judged q a write f) :=
  .ite (hf h) h.merr

theorem access {q a f} (h : s.Keeps t) (hf : ∀ {t}, s.Keeps t → s.Keeps (f t)) : s.Keeps (t.access q a f) :=
  h.turn (fun h => h.judged (fun h => hf h))

theorem accessRead {q a f} (h : s.Keeps t) (hf : ∀ {t}, s.Keeps t → s.Keeps (f t)) : s.Keeps (t.accessRead q a f) :=
  h.turn (fun h => h.judged (fun h => hf h))

theorem answered {q} (h : s.Keeps t) : s.Keeps (t.answered q) := .ite h.mspiReset h

theorem execRegisterWrite {q addr data env} (h : s.Keeps t) : s.Reaches (execRegisterWrite q addr data env t) :=
  (h.turn (fun h => .ite h.post h.busWrite.answered)).next

theorem execDevCtrlSoft {q data} (h : s.Keeps t) : s.Reaches (execDevCtrlSoft q data t) :=
  (h.access (fun h => h.devCtrlWrite.answered)).next

theorem execDevCtrlWarm {q data} (h : s.Keeps t) : s.Reaches (execDevCtrlWarm q data t) :=
  (h.access (fun h => h.devCtrlWrite.answered)).next

theorem execDevCtrlErrClr {q data} (h : s.Keeps t) : s.Reaches (execDevCtrlErrClr q data t) :=
  (h.access (fun h => h.devCtrlWrite.answered)).next

theorem execBootHeartbeatWrite {q data} (h : s.Keeps t) : s.Reaches (execBootHeartbeatWrite q data t) :=
  (h.access (fun h => h.heartbeatWrite)).next

theorem execBootCtrlClrAttempts {q data} (h : s.Keeps t) : s.Reaches (execBootCtrlClrAttempts q data t) :=
  (h.access (fun h => h.bootCtrlWrite)).next

theorem execBootCtrlForceEn {q data} (h : s.Keeps t) : s.Reaches (execBootCtrlForceEn q data t) :=
  (h.access (fun h => h.bootCtrlWrite)).next

theorem execClkSysoutWrite {q data} (h : s.Keeps t) : s.Reaches (execClkSysoutWrite q data t) :=
  (h.access (fun h => h.sysoutWrite)).next

theorem execClkPhaseGo {q data} (h : s.Keeps t) : s.Reaches (execClkPhaseGo q data t) :=
  (h.access (fun h => h.clkPhaseWrite)).next

theorem execLnkCtrlEnable {q data} (h : s.Keeps t) : s.Reaches (execLnkCtrlEnable q data t) :=
  (h.access (fun h => h.lnkCtrlWrite)).next

theorem execLnkCtrlRestart {q data} (h : s.Keeps t) : s.Reaches (execLnkCtrlRestart q data t) :=
  (h.access (fun h => h.lnkCtrlWrite)).next

theorem execLnkTestGo {q data} (h : s.Keeps t) : s.Reaches (execLnkTestGo q data t) := (h.access (fun h => h.lnkTestWrite)).next

theorem execLnkTestChkEn {q data} (h : s.Keeps t) : s.Reaches (execLnkTestChkEn q data t) :=
  (h.access (fun h => h.lnkTestWrite)).next

theorem execLop9MarginScan {q data} (h : s.Keeps t) : s.Reaches (execLop9MarginScan q data t) :=
  (h.access (fun h => h.lnkMarginWrite)).next

theorem execQueFlush {q data rx0 rx1} (h : s.Keeps t) : s.Reaches (execQueFlush q data rx0 rx1 t) :=
  (h.access (fun h => h.queFlushWrite)).next

theorem execQueCntClr {q data} (h : s.Keeps t) : s.Reaches (execQueCntClr q data t) := (h.access (fun h => h.queCtrlWrite)).next

theorem execCstEccInjWrite {q data} (h : s.Keeps t) : s.Reaches (execCstEccInjWrite q data t) :=
  (h.access (fun h => h.plainWrite)).next

theorem execLop5Scrub {q data} (h : s.Keeps t) : s.Reaches (execLop5Scrub q data t) :=
  (h.access (fun h => h.scrubCtrlWrite)).next

theorem execDmaGo {ch q data} (h : s.Keeps t) : s.Reaches (execDmaGo ch q data t) := (h.access (fun h => h.dmaCtrlWrite)).next

theorem execDmaPause {ch q data} (h : s.Keeps t) : s.Reaches (execDmaPause ch q data t) :=
  (h.access (fun h => h.dmaCtrlWrite)).next

theorem execDmaAbort {ch q data} (h : s.Keeps t) : s.Reaches (execDmaAbort ch q data t) :=
  (h.access (fun h => h.dmaCtrlWrite)).next

theorem execDmaResume {ch q data} (h : s.Keeps t) : s.Reaches (execDmaResume ch q data t) :=
  (h.access (fun h => h.dmaCtrlWrite)).next

theorem execLop7Erase {q data} (h : s.Keeps t) : s.Reaches (execLop7Erase q data t) := (h.access (fun h => h.flCtrlWrite)).next

theorem execLop7Program {q data} (h : s.Keeps t) : s.Reaches (execLop7Program q data t) :=
  (h.access (fun h => h.flCtrlWrite)).next

theorem execLop7Read {q data} (h : s.Keeps t) : s.Reaches (execLop7Read q data t) := (h.access (fun h => h.flCtrlWrite)).next

theorem execLop8Verify {q data} (h : s.Keeps t) : s.Reaches (execLop8Verify q data t) :=
  (h.access (fun h => h.verifyCtrlWrite)).next

theorem execApplyProv {q data} (h : s.Keeps t) : s.Reaches (execApplyProv q data t) := (h.access (fun h => h.procCmdWrite)).next

theorem execAdvanceRb {q data} (h : s.Keeps t) : s.Reaches (execAdvanceRb q data t) := (h.access (fun h => h.procCmdWrite)).next

theorem execDbgChallenge {q data} (h : s.Keeps t) : s.Reaches (execDbgChallenge q data t) :=
  (h.access (fun h => h.procCmdWrite)).next

theorem execDbgSubmit {q data} (h : s.Keeps t) : s.Reaches (execDbgSubmit q data t) := (h.access (fun h => h.procCmdWrite)).next

theorem execDbgLock {q data} (h : s.Keeps t) : s.Reaches (execDbgLock q data t) := (h.access (fun h => h.procCmdWrite)).next

theorem execLop6Attest {q data unseals} (h : s.Keeps t) : s.Reaches (execLop6Attest q data unseals t) :=
  (h.access (fun h => h.attCtrlWrite)).next

theorem execAtmSet {q data} (h : s.Keeps t) : s.Reaches (execAtmSet q data t) := (h.access (fun h => h.atmCtrlWrite)).next

theorem execAtmSrcWrite {q data} (h : s.Keeps t) : s.Reaches (execAtmSrcWrite q data t) :=
  (h.access (fun h => h.syncCtrlWrite)).next

theorem execTtSwapRequest {q data} (h : s.Keeps t) : s.Reaches (execTtSwapRequest q data t) :=
  (h.access (fun h => h.ttCtrlWrite)).next

theorem execBmbUpdGo {q data} (h : s.Keeps t) : s.Reaches (execBmbUpdGo q data t) := (h.access (fun h => h.updCtrlWrite)).next

theorem execAtmPeerWrite {index word q data} (h : s.Keeps t) : s.Reaches (execAtmPeerWrite index word q data t) :=
  (h.access (fun h => h.peerWrite)).next

theorem execDlcCommit {q data} (h : s.Keeps t) : s.Reaches (execDlcCommit q data t) :=
  (h.access (fun h => h.chainCtrlWrite)).next

theorem execUlcCommit {q data} (h : s.Keeps t) : s.Reaches (execUlcCommit q data t) :=
  (h.access (fun h => h.chainCtrlWrite)).next

theorem execDlcIqSwap {q data} (h : s.Keeps t) : s.Reaches (execDlcIqSwap q data t) :=
  (h.access (fun h => h.chainCtrlWrite)).next

theorem execUlcIqSwap {q data} (h : s.Keeps t) : s.Reaches (execUlcIqSwap q data t) :=
  (h.access (fun h => h.chainCtrlWrite)).next

theorem execDlcCntClr {q data} (h : s.Keeps t) : s.Reaches (execDlcCntClr q data t) :=
  (h.access (fun h => h.chainCtrlWrite)).next

theorem execUlcCntClr {q data} (h : s.Keeps t) : s.Reaches (execUlcCntClr q data t) :=
  (h.access (fun h => h.chainCtrlWrite)).next

theorem execFirSwapRequest {c q data} (h : s.Keeps t) : s.Reaches (execFirSwapRequest c q data t) :=
  (h.access (fun h => h.firCtrlWrite)).next

theorem execRssiCfgWrite {path q data} (h : s.Keeps t) : s.Reaches (execRssiCfgWrite path q data t) :=
  (h.access (fun h => h.rssiCfgWrite)).next

theorem seqModeWrite {g q data mode} (h : s.Keeps t) : s.Keeps (t.seqModeWrite g q data mode) :=
  h.access fun h => h.linPageWrite

theorem execSeqModeOff {g q data} (h : s.Keeps t) : s.Reaches (execSeqModeOff g q data t) := h.seqModeWrite.next

theorem execSeqModeAuto {g q data} (h : s.Keeps t) : s.Reaches (execSeqModeAuto g q data t) := h.seqModeWrite.next

theorem execSeqModeSingle {g q data} (h : s.Keeps t) : s.Reaches (execSeqModeSingle g q data t) := h.seqModeWrite.next

theorem execCapturePortRead {g q} (h : s.Keeps t) : s.Reaches (execCapturePortRead g q t) :=
  (h.accessRead (fun h => h.capPortRead)).next

theorem execLop2PdCampaign {q data} (h : s.Keeps t) : s.Reaches (execLop2PdCampaign q data t) :=
  (h.access (fun h => h.lop2Write)).next

theorem execLop2Abort {q data} (h : s.Keeps t) : s.Reaches (execLop2Abort q data t) := (h.access (fun h => h.lop2Write)).next

theorem execPdLoadWrite {g q data} (h : s.Keeps t) : s.Reaches (execPdLoadWrite g q data t) :=
  (h.access (fun h => h.linPageWrite)).next

theorem execPdLoadRead {g q data} (h : s.Keeps t) : s.Reaches (execPdLoadRead g q data t) :=
  (h.access (fun h => h.linPageWrite)).next

theorem execPdSwapRequest {g q data} (h : s.Keeps t) : s.Reaches (execPdSwapRequest g q data t) :=
  (h.access (fun h => h.linPageWrite)).next

theorem execKernelSwapRequest {q data} (h : s.Keeps t) : s.Reaches (execKernelSwapRequest q data t) :=
  (h.access (fun h => h.linCtrlWrite)).next

theorem execLinCntClr {q data} (h : s.Keeps t) : s.Reaches (execLinCntClr q data t) := (h.access (fun h => h.linCtrlWrite)).next

theorem execCorrClr {path q data} (h : s.Keeps t) : s.Reaches (execCorrClr path q data t) :=
  (h.access (fun h => h.loopCfgWrite)).next

theorem execSfdCommit {q data} (h : s.Keeps t) : s.Reaches (execSfdCommit q data t) := (h.access (fun h => h.sfdCtrlWrite)).next

theorem execSfdCntClr {q data} (h : s.Keeps t) : s.Reaches (execSfdCntClr q data t) := (h.access (fun h => h.sfdCtrlWrite)).next

theorem execSfdLoadWrite {q data} (h : s.Keeps t) : s.Reaches (execSfdLoadWrite q data t) :=
  (h.access (fun h => h.sfdLoadWrite)).next

theorem execSfdLoadRead {q data} (h : s.Keeps t) : s.Reaches (execSfdLoadRead q data t) :=
  (h.access (fun h => h.sfdLoadWrite)).next

theorem execSfdCapGo {q data} (h : s.Keeps t) : s.Reaches (execSfdCapGo q data t) := (h.access (fun h => h.sfdCapWrite)).next

theorem execLop3SfdTraining {q data} (h : s.Keeps t) : s.Reaches (execLop3SfdTraining q data t) :=
  (h.access (fun h => h.lop3Write)).next

theorem execLop3Abort {q data} (h : s.Keeps t) : s.Reaches (execLop3Abort q data t) := (h.access (fun h => h.lop3Write)).next

theorem execDemotedClear {g q data} (h : s.Keeps t) : s.Reaches (execDemotedClear g q data t) :=
  (h.access (fun h => h.plainWrite)).next

theorem execLoRetuneGo {g x q data} (h : s.Keeps t) : s.Reaches (execLoRetuneGo g x q data t) :=
  (h.access (fun h => h.loCtrlWrite)).next

theorem execLoPwrdn {g x q data} (h : s.Keeps t) : s.Reaches (execLoPwrdn g x q data t) :=
  (h.access (fun h => h.loCtrlWrite)).next

theorem execBandWrite {g q data} (h : s.Keeps t) : s.Reaches (execBandWrite g q data t) :=
  (h.access (fun h => h.plainWrite)).next

theorem execLoselWrite {g q data} (h : s.Keeps t) : s.Reaches (execLoselWrite g q data t) :=
  (h.access (fun h => h.loselWrite)).next

theorem execLoPhaseGo {g x q data} (h : s.Keeps t) : s.Reaches (execLoPhaseGo g x q data t) :=
  (h.access (fun h => h.loPhaseWrite)).next

theorem execRffeGo {g q data} (h : s.Keeps t) : s.Reaches (execRffeGo g q data t) := (h.access (fun h => h.rffeCtrlWrite)).next

theorem execRffeAbort {g q data} (h : s.Keeps t) : s.Reaches (execRffeAbort g q data t) :=
  (h.access (fun h => h.rffeCtrlWrite)).next

theorem execCalLoadGo {q data} (h : s.Keeps t) : s.Reaches (execCalLoadGo q data t) := (h.access (fun h => h.calLoadWrite)).next

theorem execCalArrGo {q data} (h : s.Keeps t) : s.Reaches (execCalArrGo q data t) := (h.access (fun h => h.calArrWrite)).next

theorem execCalArrAbort {q data} (h : s.Keeps t) : s.Reaches (execCalArrAbort q data t) :=
  (h.access (fun h => h.calArrWrite)).next

theorem execCalConvGo {q data} (h : s.Keeps t) : s.Reaches (execCalConvGo q data t) := (h.access (fun h => h.calConvWrite)).next

theorem execCalSaveGo {q data} (h : s.Keeps t) : s.Reaches (execCalSaveGo q data t) := (h.access (fun h => h.calSaveWrite)).next

theorem execCoreRstWrite {core q data} (h : s.Keeps t) : s.Reaches (execCoreRstWrite core q data t) :=
  (h.access (fun h => h.coreCtrlWrite)).next

theorem execCoreHaltReq {core q data} (h : s.Keeps t) : s.Reaches (execCoreHaltReq core q data t) :=
  (h.access (fun h => h.coreCtrlWrite)).next

theorem execCoreResume {core q data} (h : s.Keeps t) : s.Reaches (execCoreResume core q data t) :=
  (h.access (fun h => h.coreCtrlWrite)).next

theorem execMbxInWrite {core q data} (h : s.Keeps t) : s.Reaches (execMbxInWrite core q data t) :=
  (h.access (fun h => h.mbxInWrite)).next

theorem execMbxOutRead {core q} (h : s.Keeps t) : s.Reaches (execMbxOutRead core q t) :=
  (h.accessRead (fun h => h.mbxOutRead)).next

theorem execDoorbellAdd {core q data} (h : s.Keeps t) : s.Reaches (execDoorbellAdd core q data t) :=
  (h.access (fun h => h.doorbellWrite)).next

theorem execHkPortRead {q} (h : s.Keeps t) : s.Reaches (execHkPortRead q t) := (h.accessRead (fun h => h.hkPortPop)).next

theorem execHkUrgentRequest {q data} (h : s.Keeps t) : s.Reaches (execHkUrgentRequest q data t) :=
  (h.access (fun h => h.hkUrgWrite)).next

theorem execHkListWrite {entry q data} (h : s.Keeps t) : s.Reaches (execHkListWrite entry q data t) :=
  (h.access (fun h => h.hkListWrite)).next

theorem execLop4Syscal {q data} (h : s.Keeps t) : s.Reaches (execLop4Syscal q data t) :=
  (h.access (fun h => h.syscalWrite)).next

theorem execEvtCntClr {q data} (h : s.Keeps t) : s.Reaches (execEvtCntClr q data t) := (h.access (fun h => h.evtCtrlWrite)).next

theorem requestWrite {st q data sources} (h : s.Keeps t) : s.Keeps (t.requestWrite st q data sources) :=
  h.access fun h => h.setSources.pwrReqWrite

theorem execRequestActive {q data sources} (h : s.Keeps t) : s.Reaches (execRequestActive q data sources t) :=
  h.requestWrite.next

theorem execRequestNap {q data sources} (h : s.Keeps t) : s.Reaches (execRequestNap q data sources t) := h.requestWrite.next

theorem execRequestLightSleep {q data sources} (h : s.Keeps t) : s.Reaches (execRequestLightSleep q data sources t) :=
  h.requestWrite.next

theorem execRequestDeepSleep {q data sources} (h : s.Keeps t) : s.Reaches (execRequestDeepSleep q data sources t) :=
  h.requestWrite.next

theorem execRequestBellWatch {q data sources} (h : s.Keeps t) : s.Reaches (execRequestBellWatch q data sources t) :=
  h.requestWrite.next

theorem execPwrVetoWrite {q data} (h : s.Keeps t) : s.Reaches (execPwrVetoWrite q data t) :=
  (h.access (fun h => h.pwrVetoWrite)).next

theorem execVcoreTargetWrite {q data} (h : s.Keeps t) : s.Reaches (execVcoreTargetWrite q data t) :=
  (h.access (fun h => h.vcoreWrite)).next

theorem execMarginWrite {q data} (h : s.Keeps t) : s.Reaches (execMarginWrite q data t) :=
  (h.access (fun h => h.regCfgWrite)).next

/-! ### Start -/

theorem proctorWords {a ws} (h : s.Keeps t) : s.Keeps (t.proctorWords a ws).1 := by
  induction ws generalizing t a with
  | nil => exact h
  | cons w ws ih => exact .ite_fst (ih h.busWrite) h.busWrite

theorem proctorPairs {ws} (h : s.Keeps t) : s.Keeps (t.proctorPairs ws).1 := by
  induction ws using List.twoStepInduction generalizing t with
  | nil => exact h
  | singleton a => exact h
  | cons_cons a d ws ih _ => exact .ite_fst (ih h.busWrite) h.busWrite

theorem applyRegions {bs} (h : s.Keeps t) : s.Keeps (t.applyRegions bs) :=
  ((h.forEach (fun h => h.forEach (fun h => h.wr))).foldl (fun h => h.foldl (fun h => h.wr))).setRetMasks

theorem installSection {c bs} (h : s.Keeps t) : s.Keeps (t.installSection c bs).1 := by
  unfold State.installSection
  dsimp only
  split
  · exact .ite_fst h.applyRegions h
  · exact h.proctorWords
  · exact h.proctorWords.beside
  · exact h.proctorPairs
  · exact h.proctorWords
  · exact h.proctorWords
  · exact h.storeWrite

theorem loadSection {c} (h : s.Keeps t) : s.Keeps (t.loadSection c).1 := .ite_fst h (.ite_fst h (.ite_fst h h.installSection))

theorem profileStep (h : s.Keeps t) : s.Keeps t.profileStep :=
  .ite h.failAttempt (by split; exacts [h.failAttempt, .ite h.failAttempt h.beside.setFld.pushAvs])

theorem powerDomains {ds} (h : s.Keeps t) : s.Keeps (t.powerDomains ds) :=
  h.foldl (fun h => h.switchOn.resetDomain.whenever fun h => h.linPowerUp)

theorem eccInitAll (h : s.Keeps t) : s.Keeps t.eccInitAll := h.emptied

theorem applyProfile (h : s.Keeps t) : s.Keeps t.applyProfile :=
  ((h.beside.forEach (fun h => h.loadEq)).setWidths.forEach (fun h => h.setFld.setFld)).forEach fun h => h.wr

theorem storeStep {failBanks} (h : s.Keeps t) : s.Keeps (t.storeStep failBanks) :=
  h.powerDomains.eccInitAll.dspPowerUp.branch (fun h => h.wr.wr.setFld.failAttempt) fun h => h.setFld.setFld.beside.applyProfile

theorem groupStep (h : s.Keeps t) : s.Keeps t.groupStep := h.setFld.wakeGroups.afterWakes

theorem sectionStep (h : s.Keeps t) : s.Keeps t.sectionStep := by
  unfold State.sectionStep
  split
  · dsimp only
    split
    · exact h.loadSection.failAttempt
    · exact h.loadSection.beside.whenever fun h => h.takeMap.setFld
  · exact h.setFld

theorem calrecStep (h : s.Keeps t) : s.Keeps t.calrecStep :=
  h.reportCopies.branch (fun h => h.failAttempt) fun h => .groupStep (by split; exacts [h.copyLoaded, h.setFld])

theorem execStartSectionLoad {failBanks} (h : s.Keeps t) : s.Reaches (execStartSectionLoad failBanks t) :=
  next (.ite h (.ite (.ite h.profileStep (.ite h h.storeStep)) (.ite h.sectionStep (.ite h.calrecStep h))))

theorem reloadSections (h : s.Keeps t) : s.Keeps t.reloadSections.1 := h.foldl_fst (fun h => .ite_fst h.storeWrite h)

/-! ### Uplink -/

theorem admitUl {h' pgMask bad corr} (h : s.Keeps t) : s.Keeps (t.admitUl h' pgMask bad corr).1 := by
  refine .ite_fst (.pair h.dropSection) ?_
  dsimp only
  split
  · exact .pair (h.sectionWeights.iff (fun h => h.dropSection))
  · exact .ite_fst (.pair h.sectionWeights.takeUnits) (.pair h.sectionWeights.takeUnits.dropSection)

theorem admitUls {hs pgMask bad corr} (h : s.Keeps t) : s.Keeps (t.admitUls hs pgMask bad corr).1 :=
  h.foldl_fst fun h => h.admitUl

theorem fetchUl {c} (h : s.Keeps t) : s.Keeps (t.fetchUl c) :=
  .ite h.releaseSecs (.ite h.count.consumeSymbol (.ite h.consumeSymbol h.readAll.admitUls.beside.consumeSymbol))

theorem execUplinkFetch {carrier upsets} (h : s.Keeps t) : s.Reaches (execUplinkFetch carrier upsets t) :=
  (h.hits.otherwise fun h => h.inOrder (fun h => h.fetchUl)).next

theorem combSat {n} (h : s.Keeps t) : s.Keeps (t.combSat n) := .ite h h.count.eventOnce

theorem ulResidue {path carrier} (h : s.Keeps t) : s.Keeps (t.ulResidue path carrier) := h.count.event

theorem produce {p} (h : s.Keeps t) : s.Keeps (t.produce p) := .ite h.count (.ite h.count.event h.putPacket)

theorem buildJob {j paths secs} (h : s.Keeps t) : s.Keeps (t.buildJob j paths secs) :=
  .ite h ((((h.foldl (fun h => h.ulResidue)).forEach (fun h => .ite h h.frontSat)).foldl (fun h => h.combSat)).foldl (fun h =>
    h.produce))

theorem execUplinkPacketBuild {carrier paths secs} (h : s.Keeps t) :
    s.Reaches (execUplinkPacketBuild carrier paths secs t) := by
  refine next (.ite h ?_)
  extract_lets
  split
  · exact (h.foldl (fun h => h.ulResidue)).beside.otherwise fun h => h.buildJob
  · exact h.foldl (fun h => h.ulResidue)

theorem execPacketAgeDiscard {queue} (h : s.Keeps t) : s.Reaches (execPacketAgeDiscard queue t) :=
  next (by split; exacts [.ite h.setQueue.relevel.count h, h])

theorem praWeights {k a} (h : s.Keeps t) : s.Keeps (t.praWeights k a).1 := by
  unfold State.praWeights
  split; exacts [.pair h, .ite_fst (.pair h.storeRead) (.pair h.storeRead.beside)]

theorem praBuild {e r bad} (h : s.Keeps t) : s.Keeps (t.praBuild e r bad) :=
  .count (.foldl (.combSat (.foldl_fst (.pair (h.iff (fun h => h.ulResidue))) (fun h => .pair h.praWeights))) (fun h =>
    h.produce))

theorem execPrachWindowEnd {engine residue} (h : s.Keeps t) : s.Reaches (execPrachWindowEnd engine residue t) :=
  next (by split; exacts [h.beside.otherwise fun h => h.praBuild, h])

/-! ### Wake -/

theorem coldRestore {detail} (h : s.Keeps t) : s.Keeps (t.coldRestore detail) :=
  h.setFld.emptied.clearBlocks.beside.setFld.loadTrims.senseFuses.settleIrq.showPower.event

theorem bellEvents (h : s.Keeps t) : s.Keeps t.bellEvents :=
  .beside (.whenever (by split; exacts [h.event, h]) fun h => h.event)

theorem wakeInfo {t' base} (h : s.Keeps t) : s.Keeps (t.wakeInfo t' base) := h.count.setFld.setFld.setFld.setFld

theorem toStage {t' n} (h : s.Keeps t) : s.Keeps (t.toStage t' n) := h.power

theorem wakeOscillator {t' base} (h : s.Keeps t) : s.Keeps (t.wakeOscillator t' base) :=
  .branch (.ite h h.wakeInfo) (fun h => h.coldRestore.bellEvents) fun h => .ite h.toStage (h.powerDomains.beside.otherwise fun
    h => h.setFld.event).programRoot.senseFuses.settleIrq.bellEvents.toStage

theorem wakeMemory {t'} (h : s.Keeps t) : s.Keeps (t.wakeMemory t') := h.setFld.setFld.driveSysout.powerDomains.beside.toStage

theorem wakeRestore {t'} (h : s.Keeps t) : s.Keeps (t.wakeRestore t') :=
  h.retentionCheck.dropBanks.branch (fun h => h.beside.coldRestore) fun h =>
    h.wr.wr.setFld.setFld.reportRetFail.reloadSections.branch (fun h => h.takeMap.toStage.wakeGroups) fun h => h.coldRestore

theorem wakeDone {t' base} (h : s.Keeps t) : s.Keeps (t.wakeDone t' base) :=
  .ite (h.power.branch (fun h => h.napPart) fun h => h.toStage) h.startCores.power

theorem execWakeStageEnd (h : s.Keeps t) : s.Reaches (execWakeStageEnd t) := by
  refine next ?_
  split
  · split
    · split
      · exact .ite h.wakeOscillator h
      · exact h.wakeMemory
      · exact h.wakeRestore
      · exact .ite h.toStage h
      · exact h.wakeDone
      · exact h
    · exact h
  · exact h

theorem execWakeStageTimerExpiry (h : s.Keeps t) : s.Reaches (execWakeStageTimerExpiry t) :=
  next (by split; exacts [.ite h (.ite h.event.beginStart (.ite h.event.coldRestore h)), h])

theorem settleTrans {t'} (h : s.Keeps t) : s.Keeps (t.settleTrans t') :=
  h.beside.branch (fun h => h.dropControl.beside.settleIrq.showPower) fun h => h.showPower.whenever fun h => h.event

theorem afterTrans (h : s.Keeps t) : s.Keeps t.afterTrans := by
  refine .ite (h.beside.branch (fun h => h.warmReset.startCores) fun h => h.showPower) ?_
  split
  · exact h.beside.showPower.takeRequest
  · exact h

theorem execTransitionEnd (h : s.Keeps t) : s.Reaches (execTransitionEnd t) :=
  next (by split; exacts [.ite h.settleTrans.afterTrans h, .ite h.afterTrans h])

/-! ### Dispatch -/

theorem exec {i} (h : s.Keeps t) : s.Reaches (exec i t) := by
  unfold Machine.exec
  split
  · exact h.execPowerOnReset
  · exact h.execPinReset
  · exact h.execVddIoUndervoltage
  · exact h.execDevCtrlSoft
  · exact h.execDevCtrlWarm
  · exact h.execDevCtrlErrClr
  · exact h.execWatchdogExpiry
  · exact h.execDetainNAssert
  · exact h.execStartFlashProbe
  · exact h.execFlashIdRetry
  · exact h.execJournalRecordReadback
  · exact h.execRootLockReached
  · exact h.execRootLockStartTimeout
  · exact h.execStartThermalPoll
  · exact h.execStartSectionLoad
  · exact h.execCoreStartTimeout
  · exact h.execLinkTimeout
  · exact h.execHeartbeatGap
  · exact h.execStartCompletion
  · exact h.execBootHeartbeatWrite
  · exact h.execBootCtrlClrAttempts
  · exact h.execBootCtrlForceEn
  · exact h.execLop7Erase
  · exact h.execLop7Program
  · exact h.execLop7Read
  · exact h.execLop7UnitEnd
  · exact h.execLop8Verify
  · exact h.execLop8UnitEnd
  · exact h.execApplyProv
  · exact h.execAdvanceRb
  · exact h.execDbgChallenge
  · exact h.execDbgSubmit
  · exact h.execDbgLock
  · exact h.execProcCmdEnd
  · exact h.execChallengeLapse
  · exact h.execLop6Attest
  · exact h.execLop6UnitEnd
  · exact h.execClkPhaseGo
  · exact h.execClkPhaseStepTick
  · exact h.execAonOscTimeout
  · exact h.execClkSysoutWrite
  · exact h.execRootLockLoss
  · exact h.execRootRelock
  · exact h.execMspiRead
  · exact h.execMspiWrite
  · exact h.execMspiFrameAbort
  · exact h.execMspiDeferredAccessEnd
  · exact h.execPostedStoreWrite
  · exact h.execRegisterWrite
  · exact h.execLinkDownExit
  · exact h.execDetectionTry
  · exact h.execTrainSettleEnd
  · exact h.execLaneLock
  · exact h.execRxLockedSet
  · exact h.execDeskewBlockRx
  · exact h.execBringupTimeout
  · exact h.execRollCallConclude
  · exact h.execSwitchBlockRx
  · exact h.execClkLoss
  · exact h.execBlockLockLoss
  · exact h.execEbufSlip
  · exact h.execEbufWander
  · exact h.execLnkCtrlEnable
  · exact h.execLnkCtrlRestart
  · exact h.execLnkTestGo
  · exact h.execTestEnd
  · exact h.execLnkTestChkEn
  · exact h.execLop9MarginScan
  · exact h.execLop9UnitEnd
  · exact h.execDldReceive
  · exact h.execSecReceive
  · exact h.execWgtReceive
  · exact h.execTimReceive
  · exact h.execMgqReceive
  · exact h.execMgqRead
  · exact h.execMgqWrite
  · exact h.execMgqModify
  · exact h.execMgqStartDeferred
  · exact h.execCrdReceive
  · exact h.execCrdReconcile
  · exact h.execCapReceive
  · exact h.execLbkReceive
  · exact h.execLbkEcho
  · exact h.execCrdSend
  · exact h.execCapSend
  · exact h.execEvtSend
  · exact h.execEvtKeepalive
  · exact h.execOutboundPacketSend
  · exact h.execQueFlush
  · exact h.execQueuePointerMismatch
  · exact h.execQueCntClr
  · exact h.execScrubRowRead
  · exact h.execCstEccInjWrite
  · exact h.execLop5Scrub
  · exact h.execLop5End
  · exact h.execDmaGo
  · exact h.execDescriptorFetch
  · exact h.execDmaBurst
  · exact h.execDescriptorComplete
  · exact h.execDmaPause
  · exact h.execDmaAbort
  · exact h.execDmaResume
  · exact h.execDmaBusError
  · exact h.execDmaResponseTimeout
  · exact h.execAlignEdge
  · exact h.execSyncLossTimeout
  · exact h.execAtmSet
  · exact h.execAtmSrcWrite
  · exact h.execTimeStepApply
  · exact h.execAlignOutPulse
  · exact h.execTimetableSymbol
  · exact h.execTtSwapRequest
  · exact h.execTtSwap
  · exact h.execDownlinkFetch
  · exact h.execBmbUpdGo
  · exact h.execBmbPrefetchEnd
  · exact h.execBmbUpdateBoundary
  · exact h.execBmbWritebackEnd
  · exact h.execAtmPeerWrite
  · exact h.execJointOkChange
  · exact h.execDlcCommit
  · exact h.execDlcCommitInForce
  · exact h.execDlcIqSwap
  · exact h.execDlcIqBankSwap
  · exact h.execDlcCntClr
  · exact h.execUlcCommit
  · exact h.execUlcCommitInForce
  · exact h.execUlcIqSwap
  · exact h.execUlcIqBankSwap
  · exact h.execUlcCntClr
  · exact h.execFirSwapRequest
  · exact h.execFirBankSwap
  · exact h.execRssiWindowClose
  · exact h.execRssiCfgWrite
  · exact h.execUplinkFetch
  · exact h.execUplinkPacketBuild
  · exact h.execPacketAgeDiscard
  · exact h.execPrachOccasion
  · exact h.execPrachWindowEnd
  · exact h.execPdLoadWrite
  · exact h.execPdLoadRead
  · exact h.execPdLoadEnd
  · exact h.execPdSwapRequest
  · exact h.execPdBankSwap
  · exact h.execSeqModeOff
  · exact h.execSeqModeAuto
  · exact h.execSeqModeSingle
  · exact h.execOrxCaptureStart
  · exact h.execOrxCaptureEnd
  · exact h.execIntervalSkip
  · exact h.execCapturePortRead
  · exact h.execCorrelatorEnd
  · exact h.execLop2PdCampaign
  · exact h.execLop2UnitEnd
  · exact h.execLop2Abort
  · exact h.execKernelSwapRequest
  · exact h.execKernelBankSwap
  · exact h.execCorrClr
  · exact h.execCompStaleTimeout
  · exact h.execLinCntClr
  · exact h.execSfdCommit
  · exact h.execSfdCommitInForce
  · exact h.execSfdLoadWrite
  · exact h.execSfdLoadRead
  · exact h.execSfdLoadCopyEnd
  · exact h.execSfdLoadBoundary
  · exact h.execSfdCapGo
  · exact h.execSfdCaptureStart
  · exact h.execSfdCaptureRecordEnd
  · exact h.execLop3SfdTraining
  · exact h.execLop3UnitEnd
  · exact h.execLop3Abort
  · exact h.execSbSymbolEnd
  · exact h.execDemotedClear
  · exact h.execSfdCntClr
  · exact h.execBandWrite
  · exact h.execLoRetuneGo
  · exact h.execLoFastLock
  · exact h.execLoFastLockTimeout
  · exact h.execVcoCalEnd
  · exact h.execVcoCalLockTimeout
  · exact h.execLoPwrdn
  · exact h.execLoselWrite
  · exact h.execLoPhaseGo
  · exact h.execLoPhasePiece
  · exact h.execRffeGo
  · exact h.execRffeEntryStart
  · exact h.execRffeEntryEnd
  · exact h.execRffeAbort
  · exact h.execCalArrGo
  · exact h.execLocLockEnd
  · exact h.execCalSequenceEnd
  · exact h.execCalForcedSlot
  · exact h.execCalForcedSlotEnd
  · exact h.execBackgroundCalTimeout
  · exact h.execLop0End
  · exact h.execCalArrAbort
  · exact h.execCalLoadGo
  · exact h.execCalLoadCopyEnd
  · exact h.execCalPointReplace
  · exact h.execCalConvGo
  · exact h.execLop1UnitEnd
  · exact h.execCalSaveGo
  · exact h.execCalSaveEnd
  · exact h.execHalt
  · exact h.execNop
  · exact h.execWait
  · exact h.execTrapSw
  · exact h.execIsync
  · exact h.execBset
  · exact h.execBclr
  · exact h.execDebug
  · exact h.execBra
  · exact h.execCall
  · exact h.execRet
  · exact h.execRti
  · exact h.execBraAn
  · exact h.execLoopImm
  · exact h.execLoopReg
  · exact h.execRptImm
  · exact h.execRptReg
  · exact h.execMoveImmediate
  · exact h.execRegisterMove
  · exact h.execClr
  · exact h.execMova
  · exact h.execAddAcc
  · exact h.execSubAcc
  · exact h.execNegAcc
  · exact h.execAbsAcc
  · exact h.execCmpAcc
  · exact h.execRnd
  · exact h.execSata
  · exact h.execAsl
  · exact h.execAsr
  · exact h.execAddr
  · exact h.execSubr
  · exact h.execAndAcc
  · exact h.execOrAcc
  · exact h.execXorAcc
  · exact h.execNorm
  · exact h.execAdda
  · exact h.execSuba
  · exact h.execAddi
  · exact h.execParallelLoads
  · exact h.execMac
  · exact h.execMsu
  · exact h.execMpy
  · exact h.execSingleMoveLoad
  · exact h.execSingleMoveStore
  · exact h.execSystemLoad
  · exact h.execSystemStore
  · exact h.execSystemAccessComplete
  · exact h.execSystemAccessTimeout
  · exact h.execMbxrd
  · exact h.execMbxwr
  · exact h.execRing
  · exact h.execCmac
  · exact h.execCmsu
  · exact h.execCmpy
  · exact h.execInterruptTaken
  · exact h.execCoreTimerExpiry
  · exact h.execCoreRstWrite
  · exact h.execCoreHaltReq
  · exact h.execCoreResume
  · exact h.execMbxInWrite
  · exact h.execMbxOutRead
  · exact h.execDoorbellAdd
  · exact h.execHkConversionEnd
  · exact h.execTriggeredEntryDue
  · exact h.execGuardConversionDue
  · exact h.execHkUrgentRequest
  · exact h.execHkListWrite
  · exact h.execHkPortRead
  · exact h.execLop4Syscal
  · exact h.execEventRecord
  · exact h.execEvtCntClr
  · exact h.execRequestActive
  · exact h.execRequestNap
  · exact h.execRequestLightSleep
  · exact h.execRequestDeepSleep
  · exact h.execRequestBellWatch
  · exact h.execEntryInstant
  · exact h.execTransitionEnd
  · exact h.execWakeStageEnd
  · exact h.execWakeStageTimerExpiry
  · exact h.execGroupWakeStageEnd
  · exact h.execGroupWakeTimeout
  · exact h.execWakeNAssert
  · exact h.execQb0ClockWake
  · exact h.execAonTimerExpiry
  · exact h.execMspiCsWake
  · exact h.execBellWord
  · exact h.execTtLightMark
  · exact h.execPmbAlert
  · exact h.execPowerGoodLoss
  · exact h.execVcoreTargetWrite
  · exact h.execAvsbusTransactionEnd
  · exact h.execRegulatorTimeout
  · exact h.execMarginWrite
  · exact h.execPwrVetoWrite
  · exact h.execPingIrqPulseEnd
  · exact h.execJournalSectorEraseEnd

/-! ### Tick -/

theorem aonTick (h : s.Keeps t) : s.Keeps t.aonTick := .ite h.beside h.beside

theorem airTick (h : s.Keeps t) : s.Keeps t.airTick := h.beside

theorem ncoAdd {k freq} (h : s.Keeps t) : s.Keeps (t.ncoAdd k freq) := h.beside

theorem ncoTick (h : s.Keeps t) : s.Keeps t.ncoTick := by
  unfold State.ncoTick
  exact (h.iff (fun h => ((h.forEach (fun h => h.iff (fun h => h.ncoAdd))).forEach (fun h => h.iff (fun h =>
    h.ncoAdd))).forEach (fun h => h.ncoAdd))).iff fun h => h.ncoAdd

theorem tick (h : s.Keeps t) : s.Keeps t.tick :=
  h.aonTick.whenever fun h => h.airTick.ncoTick.runEdges.runSupplies.flightTick.checkerTick

end State.Keeps

/-- Settles O59: a command leads where `exec` leads from the queue without its front, an idle step where the clocks lead. -/
theorem everyStepKeepsTheMemoriesAndTheBlownFuses : Obligations.EveryStepKeepsTheMemoriesAndTheBlownFuses := by
  intro s t stepped
  unfold Machine.step at stepped
  split at stepped
  · next idle =>
    obtain rfl : s.tick = t := by simpa using stepped
    have kept := (State.Keeps.refl (s := s)).tick
    exact ⟨kept.canonical, kept.blown, by rw [kept.queue, idle, List.tail_nil]⟩
  · next c rest queue =>
    obtain ⟨u, ran, kept⟩ := (State.Keeps.refl (s := { s with pending := rest })).exec (i := c)
    obtain rfl : u = t := by simpa [ran] using stepped
    exact ⟨kept.canonical, kept.blown, by rw [kept.queue, queue, List.tail_cons]⟩

/-- Settles O1: what `exec` does with the front command reaches a next state. -/
theorem stepTakesTheFrontCommand : Obligations.StepTakesTheFrontCommand := by
  have completes (c : Instr) (s : State) : ∃ t, exec c s = .next t := by
    obtain ⟨t, ran, -⟩ := (State.Keeps.refl (s := s)).exec (i := c)
    exact ⟨t, ran⟩
  exact ⟨fun _ _ _ => rfl, completes, fun c rest s => completes c { s with pending := rest }⟩

end Sys2Proof.Machine

/-!
SUPPORT. The rules that the proofs of the single commands share: what a register reads that was put together from fields, which
registers a chain of loads leaves, and that a command which is one access has that access's effect.
-/

namespace Sys2Proof

theorem getField_or (hi lo : Nat) (v w : Word) : getField hi lo (v ||| w) = getField hi lo v ||| getField hi lo w := by
  apply Nat.eq_of_testBit_eq
  intro i
  simp only [testBit_getField, BitVec.getLsbD_or, Nat.testBit_or, Bool.and_or_distrib_left]

/-- A placed field reads the low bits of what was placed. -/
theorem getField_placeField_same (hi lo v : Nat) (h : hi < 32) : getField hi lo (placeField hi lo v) = v % 2 ^ (hi + 1 - lo) := by
  apply Nat.eq_of_testBit_eq
  intro i
  rw [testBit_getField, getLsbD_placeField _ _ _ _ h, Nat.testBit_mod_two_pow]
  by_cases c : i < hi + 1 - lo
  · simp [c, show lo + i ≤ hi by omega]
  · simp [c]

/-- Other bits than the placed ones read 0. -/
theorem getField_placeField_ne (hi lo hi' lo' v : Nat) (h : hi' < 32) (hd : hi < lo' ∨ hi' < lo) :
    getField hi lo (placeField hi' lo' v) = 0 := by
  apply Nat.eq_of_testBit_eq
  intro i
  rw [testBit_getField, getLsbD_placeField _ _ _ _ h, Nat.zero_testBit]
  by_cases c : i < hi + 1 - lo
  · have : ¬ (lo' ≤ lo + i ∧ lo + i ≤ hi') := by omega
    simp only [c, decide_true, Bool.true_and]
    by_cases c1 : lo' ≤ lo + i
    · simp [show ¬ lo + i ≤ hi' from fun x => this ⟨c1, x⟩]
    · simp [c1]
  · simp [c]

namespace Machine

/-- What a field of written data holds fits the field. -/
theorem Fld.of_lt (f : Fld) (d : Word) : f.of d < 2 ^ (f.hi + 1 - f.lo) := getField_lt _ _ _

variable {s t : State} {as : List Nat} {a : Nat} {q : Requester} {c : Instr} {f : State → State}

/-! ### Written data -/

/-- A field of written data reads what the command put there. -/
theorem Fld.of_put_same (f : Fld) (v : Nat) (d : Word) (h : f.hi < 32) (hv : v < 2 ^ (f.hi + 1 - f.lo)) : f.of (f.put v d) = v :=
  getField_putField_same _ _ _ _ h hv

/-- The other fields of written data are the software's. -/
theorem Fld.of_put_ne (f f' : Fld) (v : Nat) (d : Word) (h : f.hi < 32) (hd : f'.hi < f.lo ∨ f.hi < f'.lo) :
    f'.of (f.put v d) = f'.of d :=
  getField_putField_ne _ _ _ _ _ _ h hd

/-! ### What a write by software does to a field (R7, R9) -/

/-- The table's field `g` stands in the bits of `f`. -/
def FieldRow.stands (g : FieldRow) (f : Fld) : Bool := g.hi == f.hi && g.lo == f.lo

/-- The table's field `g` has no bit of `f`. -/
def FieldRow.apart (g : FieldRow) (f : Fld) : Bool := decide (f.hi < g.lo) || decide (g.hi < f.lo)

/-- The field is a plain read-write field of its register: a write loads it with any code. -/
def Fld.plain (f : Fld) : Bool :=
  match rowAt f.addr with
  | some (r, _) =>
    r.fields.all (fun g => decide (g.hi < 32) && ((g.stands f && g.access == .rw && g.codes.isEmpty) || g.apart f)) &&
      r.fields.any (fun g => g.stands f)
  | none => false

/-- The field is a read-write field of its register that takes the code `v`. -/
def Fld.accepts (f : Fld) (v : Nat) : Bool :=
  match rowAt f.addr with
  | some (r, _) =>
    r.fields.all (fun g => decide (g.hi < 32) && ((g.stands f && g.access == .rw && g.valid v) || g.apart f)) &&
      r.fields.any (fun g => g.stands f)
  | none => false

/-- A write leaves the field: it is read-only, or no field of its register's table. -/
def Fld.held (f : Fld) : Bool :=
  match rowAt f.addr with
  | some (r, _) => r.fields.all (fun g => decide (g.hi < 32) && (g.apart f || g.access == .ro || g.access == .wo))
  | none => true

theorem getLsbD_fieldRow_write {g : FieldRow} (d w : Word) {i : Nat} (hi : g.hi < 32) (h : i < g.lo ∨ g.hi < i) :
    (g.write d w).getLsbD i = w.getLsbD i := by
  have hm : (FieldRow.mask g).getLsbD i = false := by
    rw [FieldRow.mask, getLsbD_fieldMask _ _ _ hi]
    rcases h with h | h
    · simp [show ¬ g.lo ≤ i by omega]
    · simp [show ¬ i ≤ g.hi by omega]
  by_cases hb : i < 32
  · unfold FieldRow.write
    split
    · split
      · simp only [BitVec.getLsbD_or, BitVec.getLsbD_and, BitVec.getLsbD_not, hm, hb, decide_true, Bool.not_false, Bool.and_true,
          Bool.and_false, Bool.or_false]
      · rfl
    · simp only [BitVec.getLsbD_and, BitVec.getLsbD_not, hm, hb, decide_true, Bool.and_false, Bool.not_false, Bool.and_true]
    · simp only [BitVec.getLsbD_or, BitVec.getLsbD_and, hm, Bool.and_false, Bool.or_false]
    · rfl
    · rfl
  · rw [BitVec.getLsbD_of_ge _ _ (by omega), BitVec.getLsbD_of_ge _ _ (by omega)]

/-- A field of the table leaves the bits of every other one. -/
theorem getField_fieldRow_write_apart {g : FieldRow} {f : Fld} (d w : Word) (hi : g.hi < 32) (h : g.apart f = true) :
    getField f.hi f.lo (g.write d w) = getField f.hi f.lo w := by
  simp only [FieldRow.apart, Bool.or_eq_true, decide_eq_true_eq] at h
  apply Nat.eq_of_testBit_eq
  intro i
  rw [testBit_getField, testBit_getField]
  by_cases c : i < f.hi + 1 - f.lo
  · rw [getLsbD_fieldRow_write d w hi (by omega)]
  · simp [c]

/-- A read-write field takes a valid code. -/
theorem getField_fieldRow_write_stands {g : FieldRow} {f : Fld} (d w : Word) (hi : g.hi < 32) (h : g.stands f = true)
    (ha : g.access = .rw) (hc : g.valid (getField f.hi f.lo d) = true) : getField f.hi f.lo (g.write d w) = getField f.hi f.lo d := by
  simp only [FieldRow.stands, Bool.and_eq_true, beq_iff_eq] at h
  rw [← h.1, ← h.2] at hc ⊢
  apply Nat.eq_of_testBit_eq
  intro i
  rw [testBit_getField, testBit_getField]
  by_cases c : i < g.hi + 1 - g.lo
  · have hm : (fieldMask g.hi g.lo).getLsbD (g.lo + i) = true := by
      rw [getLsbD_fieldMask _ _ _ hi]
      simp [show g.lo + i ≤ g.hi by omega]
    simp only [FieldRow.write, ha, hc, FieldRow.mask, if_true, BitVec.getLsbD_or, BitVec.getLsbD_and,
      BitVec.getLsbD_not, hm, Bool.not_true, Bool.and_false, Bool.false_or, Bool.and_true]
  · simp [c]

/-- The fields of a table that stand in the bits of `f` take what is written; where there is none, `f` is left. -/
theorem getField_foldl_write (f : Fld) (d : Word) (gs : List FieldRow)
    (h : ∀ g ∈ gs, g.hi < 32 ∧ (g.stands f = true ∧ g.access = .rw ∧ g.valid (getField f.hi f.lo d) = true ∨ g.apart f = true))
    (w : Word) :
    getField f.hi f.lo (gs.foldl (fun w g => g.write d w) w) = getField f.hi f.lo w ∧ gs.any (fun g => g.stands f) = false ∨
      getField f.hi f.lo (gs.foldl (fun w g => g.write d w) w) = getField f.hi f.lo d := by
  induction gs generalizing w with
  | nil => exact .inl ⟨rfl, rfl⟩
  | cons g gs ih =>
    have hs := ih (fun x hx => h x (List.mem_cons_of_mem g hx)) (g.write d w)
    obtain ⟨hi, ⟨hst, ha, hc⟩ | hap⟩ := h g List.mem_cons_self
    · refine .inr ?_
      rcases hs with ⟨e, -⟩ | e
      · exact e.trans (getField_fieldRow_write_stands d w hi hst ha hc)
      · exact e
    · rcases hs with ⟨e, no⟩ | e
      · by_cases hst : g.stands f = true
        · simp only [FieldRow.stands, FieldRow.apart, Bool.and_eq_true, beq_iff_eq, Bool.or_eq_true, decide_eq_true_eq] at hst hap
          exact .inr (by
            rw [List.foldl_cons, e]
            apply Nat.eq_of_testBit_eq
            intro i
            rw [testBit_getField, testBit_getField]
            simp [show ¬ i < f.hi + 1 - f.lo by omega])
        · exact .inl ⟨e.trans (getField_fieldRow_write_apart d w hi hap), by simp [hst, no]⟩
      · exact .inr e

/-- A write loads a field with a code that it takes. -/
theorem Fld.of_writeWord_accepts {f : Fld} (d w : Word) (h : f.accepts (f.of d) = true) : f.of (writeWord f.addr d w) = f.of d := by
  rcases hr : rowAt f.addr with _ | ⟨r, i⟩
  · simp only [Fld.accepts, hr, Bool.false_eq_true] at h
  · simp only [Fld.accepts, hr, Bool.and_eq_true, List.all_eq_true, Bool.or_eq_true, decide_eq_true_eq, beq_iff_eq] at h
    simp only [writeWord, hr]
    rcases getField_foldl_write f d r.fields (fun g hg => by simpa [and_assoc, Fld.of] using h.1 g hg) w with ⟨-, no⟩ | e
    · rw [h.2] at no
      cases no
    · exact e

/-- A plain field takes every code. -/
theorem Fld.plain.accepts {f : Fld} (h : f.plain = true) (v : Nat) : f.accepts v = true := by
  rcases hr : rowAt f.addr with _ | ⟨r, i⟩
  · simp only [Fld.plain, hr, Bool.false_eq_true] at h
  · simp only [Fld.plain, hr, Bool.and_eq_true, List.all_eq_true, Bool.or_eq_true] at h
    simp only [Fld.accepts, hr, Bool.and_eq_true, List.all_eq_true, Bool.or_eq_true]
    refine ⟨fun g hg => ⟨(h.1 g hg).1, (h.1 g hg).2.imp_left fun hs => ⟨hs.1, ?_⟩⟩, h.2⟩
    rw [FieldRow.valid, hs.2, Bool.true_or]

/-- A write loads a plain field with what it holds there. -/
theorem Fld.of_writeWord_plain {f : Fld} (h : f.plain = true) (d w : Word) : f.of (writeWord f.addr d w) = f.of d :=
  Fld.of_writeWord_accepts d w (Fld.plain.accepts h _)

/-- A write leaves a field that it does not reach. -/
theorem Fld.of_writeWord_held {f : Fld} (h : f.held = true) (d w : Word) : f.of (writeWord f.addr d w) = f.of w := by
  rcases hr : rowAt f.addr with _ | ⟨r, i⟩
  · simp only [writeWord, hr]
  · simp only [Fld.held, hr, List.all_eq_true, Bool.and_eq_true, Bool.or_eq_true, decide_eq_true_eq, beq_iff_eq] at h
    simp only [writeWord, hr]
    generalize r.fields = gs at h
    induction gs generalizing w with
    | nil => rfl
    | cons g gs ih =>
      rw [List.foldl_cons, ih _ (fun x hx => h x (List.mem_cons_of_mem g hx))]
      obtain ⟨hi, (hap | ha) | ha⟩ := h g List.mem_cons_self
      · exact getField_fieldRow_write_apart d w hi hap
      · rw [FieldRow.write, ha]
      · rw [FieldRow.write, ha]

/-- After a write by software a plain field holds what was written there. -/
theorem State.fld_plainWrite_plain (s : State) {f : Fld} (h : f.plain = true) (d : Word) : (s.plainWrite f.addr d).fld f = f.of d := by
  rw [State.plainWrite, State.fld_wr_same]
  exact Fld.of_writeWord_plain h d _

/-- After a write by software a field holds the code written there, where it takes it. -/
theorem State.fld_plainWrite_accepts (s : State) (f : Fld) {v : Nat} {d : Word} (hv : f.of d = v) (h : f.accepts v = true) :
    (s.plainWrite f.addr d).fld f = v := by
  rw [State.plainWrite, State.fld_wr_same]
  exact (Fld.of_writeWord_accepts d _ (hv ▸ h)).trans hv

/-- After a write by software a field that it does not reach holds what it held. -/
theorem State.fld_plainWrite_held (s : State) {f : Fld} (h : f.held = true) (d : Word) : (s.plainWrite f.addr d).fld f = s.fld f := by
  rw [State.plainWrite, State.fld_wr_same]
  exact Fld.of_writeWord_held h d _

/-! ### Which registers a chain of loads leaves -/

theorem State.regsBut.refl (s : State) (as : List Nat) : s.regsBut s as := fun _ _ => rfl

theorem State.regsBut.of_regs (h : t.regs = s.regs) (as : List Nat) : s.regsBut t as := fun a _ => by simp only [State.rd, h]

/-- A change beside the registers leaves the frame. -/
theorem State.regsBut.congr {u : State} (h : s.regsBut t as) (hu : u.regs = t.regs) : s.regsBut u as :=
  fun a ha => (by simp only [State.rd, hu] : u.rd a = t.rd a).trans (h a ha)

theorem State.regsBut.wr (h : s.regsBut t as) (w : Word) (ha : a ∈ as) : s.regsBut (t.wr a w) as := fun b hb =>
  (t.rd_wr_ne w (fun e => hb (by rwa [e]))).trans (h b hb)

theorem State.regsBut.setFld (h : s.regsBut t as) {f : Fld} (v : Nat) (hf : f.addr ∈ as) : s.regsBut (t.setFld f v) as := h.wr _ hf

theorem State.regsBut.count (h : s.regsBut t as) {f : Fld} (n : Nat) (hf : f.addr ∈ as) : s.regsBut (t.count f n) as := h.wr _ hf

theorem State.regsBut.plainWrite (h : s.regsBut t as) (d : Word) (ha : a ∈ as) : s.regsBut (t.plainWrite a d) as := h.wr _ ha

theorem State.regsBut.trans {u : State} (h : s.regsBut t as) (h' : t.regsBut u as) : s.regsBut u as :=
  fun a ha => (h' a ha).trans (h a ha)

theorem State.regsBut.mono {bs : List Nat} (h : s.regsBut t as) (hs : ∀ a ∈ as, a ∈ bs) : s.regsBut t bs :=
  fun a ha => h a (fun x => ha (hs a x))

/-- An address above every register of a list is none of them. -/
theorem notMem_of_lt {a : Nat} (k : Nat) (h : ∀ b ∈ as, b < k) (hk : k ≤ a) : a ∉ as := fun ha => absurd (h a ha) (not_lt_of_ge hk)

/-- A field of a register outside the frame keeps its value. -/
theorem State.regsBut.fld (h : s.regsBut t as) (f : Fld) (hf : f.addr ∉ as) : t.fld f = s.fld f := State.fld_congr (h f.addr hf)

/-! ### A change beside the registers leaves what the registers read -/

section
variable
  (store : List Host.Cell) (flash : List Host.Cell) (fuses : SMap Word) (domains : List Nat) (air : Nat) (aonTicks : Nat)
  (hkSub : Nat) (pins : Pins) (boot : BootState) (flashOps : List FlashUser) (sec : SecState) (clk : ClkState)
  (mspi : MspiState) (raise : List EventRec) (shadows : SMap Shadow) (banksOff : List Nat) (link : LinkState)
  (queues : SMap QueueState) (ecc : SMap Nat) (scrubUnc : Nat) (dma : SMap DmaState) (time : AirState) (bmb : BmbState)
  (dlc : CarrierState) (ulc : CarrierState) (ul : UplinkState) (smp : SampleState) (nco : SMap Nat) (sect : SectionState)
  (rssi : SMap Nat) (rf : RfState) (lin : LinState) (sfd : SfdState) (cal : CalState) (seen : SMap Nat)
  (cores : SMap CoreState) (hk : HkState) (pwr : PwrState) (fresh : Nat) (pending : List Instr)

@[simp] theorem State.rd_beside (a : Nat) : State.rd
    ⟨s.regs, store, flash, fuses, domains, air, aonTicks, hkSub, pins, boot, flashOps, sec, clk, mspi, raise, shadows,
    banksOff, link, queues, ecc, scrubUnc, dma, time, bmb, dlc, ulc, ul, smp, nco, sect, rssi, rf, lin, sfd, cal, seen, cores,
    hk, pwr, fresh, pending⟩ a = s.rd a := rfl

@[simp] theorem State.fld_beside (f : Fld) : State.fld
    ⟨s.regs, store, flash, fuses, domains, air, aonTicks, hkSub, pins, boot, flashOps, sec, clk, mspi, raise, shadows,
    banksOff, link, queues, ecc, scrubUnc, dma, time, bmb, dlc, ulc, ul, smp, nco, sect, rssi, rf, lin, sfd, cal, seen, cores,
    hk, pwr, fresh, pending⟩ f = s.fld f := rfl

@[simp] theorem State.on_beside (f : Fld) : State.on
    ⟨s.regs, store, flash, fuses, domains, air, aonTicks, hkSub, pins, boot, flashOps, sec, clk, mspi, raise, shadows,
    banksOff, link, queues, ecc, scrubUnc, dma, time, bmb, dlc, ulc, ul, smp, nco, sect, rssi, rf, lin, sfd, cal, seen, cores,
    hk, pwr, fresh, pending⟩ f = s.on f := rfl

end

/-! ### Fields after a chain of loads -/

/-- A field loaded from written data reads what was written. -/
theorem State.fld_setFld_of (s : State) (f : Fld) (d : Word) (h : f.hi < 32) : (s.setFld f (f.of d)).fld f = f.of d :=
  State.fld_setFld_same _ _ _ h (Fld.of_lt _ _)

theorem State.on_setFld_ne (s : State) (f f' : Fld) (v : Nat) (h : f.hi < 32)
    (hd : f'.addr ≠ f.addr ∨ f'.hi < f.lo ∨ f.hi < f'.lo) : (s.setFld f v).on f' = s.on f' := by
  simp only [State.on, State.fld_setFld_ne s f f' v h hd]

theorem State.on_wr_ne (s : State) (a : Nat) (w : Word) (f : Fld) (h : f.addr ≠ a) : (s.wr a w).on f = s.on f := by
  simp only [State.on, State.fld_wr_ne s a w f h]

/-- A set one-bit field holds 1. -/
theorem State.on_eq_false (s : State) (f : Fld) : s.on f = false ↔ s.fld f = 0 := by simp [State.on]

/-! ### Events -/

/-- Room for events is told by the domains and the raise FIFO. -/
theorem State.raiseRoom.congr {n : Nat} (h : s.raiseRoom n) (hd : t.domains = s.domains) (hr : t.raise = s.raise) : t.raiseRoom n := by
  simpa only [State.raiseRoom, State.domOn, hd, hr] using h

theorem State.raiseRoom.mono {n m : Nat} (h : s.raiseRoom n) (hm : m ≤ n) : s.raiseRoom m := ⟨h.1, by have := h.2; omega⟩

/-- An event leaves the fields of every register but EVT_DROP. -/
theorem State.fld_event (s : State) (code info : Nat) (f : Fld) (h : f.addr ≠ Fld.EVT_DROP_LOST.addr) :
    (s.event code info).fld f = s.fld f := State.fld_congr (State.rd_event _ _ _ h)

/-- With room for it, an event is the newest occurrence and leaves all else (R405). -/
theorem State.event_raiseRoom {n : Nat} (h : s.raiseRoom n) (hn : 0 < n) (code info : Nat) :
    s.event code info = { s with raise := s.raise ++ [s.occurrence code info] } :=
  s.event_room code info h.1 (by have := h.2; omega)

/-- An event with room for it leaves every register. -/
theorem State.event_regs_of_room {n : Nat} (h : s.raiseRoom n) (hn : 0 < n) (code info : Nat) : (s.event code info).regs = s.regs := by
  rw [State.event_raiseRoom h hn]

/-! ### Long operations (R403, R404) -/

section
variable (s : State) (n st done total err : Nat)

theorem State.regsBut.lopUnits {u : State} (h : u.regsBut s as) (ha : Reg.LOP_STATn n ∈ as) : u.regsBut (s.lopUnits n done total) as := by
  unfold State.lopUnits
  split_ifs
  · exact (h.setFld _ ha).setFld _ ha
  · exact (h.setFld _ ha).setFld _ ha

theorem State.lopUnits_beside : s.lopUnits n done total = { s with regs := (s.lopUnits n done total).regs } := by
  unfold State.lopUnits
  split_ifs <;> rfl

/-- The unit counts leave every field but theirs. -/
theorem State.fld_lopUnits_ne (f : Fld) (h : f.addr ≠ Reg.LOP_STATn n ∨ 23 < f.lo) : (s.lopUnits n done total).fld f = s.fld f := by
  have away : f.addr ≠ Reg.LOP_STATn n ∨ f.hi < 12 ∨ 23 < f.lo := h.imp_right .inr
  have away' : f.addr ≠ Reg.LOP_STATn n ∨ f.hi < 0 ∨ 11 < f.lo := h.imp_right (fun h => .inr (by omega))
  unfold State.lopUnits
  split_ifs
  · rw [State.fld_setFld_ne _ _ _ _ (by simp) away', State.fld_setFld_ne _ _ _ _ (by simp) away]
  · rw [State.fld_setFld_ne _ _ _ _ (by simp) away', State.fld_setFld_ne _ _ _ _ (by simp) away]

/-- Unit counts that fit show as they are. -/
theorem State.fld_lopUnits_done (h : done ≤ total) (ht : total ≤ 4095) :
    (s.lopUnits n done total).fld (Fld.LOP_STATn_UNITS_DONE n) = done := by
  rw [State.lopUnits, if_pos ht, State.fld_setFld_ne _ _ _ _ (by simp) (by simp), State.fld_setFld_same _ _ _ (by simp)]
  simp
  omega

theorem State.fld_lopUnits_total (ht : total ≤ 4095) : (s.lopUnits n done total).fld (Fld.LOP_STATn_UNITS_TOTAL n) = total := by
  rw [State.lopUnits, if_pos ht, State.fld_setFld_same _ _ _ (by simp)]
  simp
  omega

theorem State.fld_lopUnits_none : (s.lopUnits n 0 total).fld (Fld.LOP_STATn_UNITS_DONE n) = 0 := by
  unfold State.lopUnits
  rw [Nat.zero_mul, Nat.zero_div]
  split_ifs
  all_goals
    rw [State.fld_setFld_ne _ _ _ _ (by simp) (by simp), State.fld_setFld_same _ _ _ (by simp) (by simp)]

theorem State.regsBut.lopStart {u : State} (h : u.regsBut s as) (ha : Reg.LOP_STATn n ∈ as) : u.regsBut (s.lopStart n st total) as :=
  State.regsBut.lopUnits _ _ _ _ ((h.wr _ ha).setFld _ ha) ha

theorem State.lopStart_beside : s.lopStart n st total = { s with regs := (s.lopStart n st total).regs } :=
  State.lopUnits_beside _ _ _ _

theorem State.fld_lopStart_ne (f : Fld) (h : f.addr ≠ Reg.LOP_STATn n) : (s.lopStart n st total).fld f = s.fld f := by
  rw [State.lopStart, State.fld_lopUnits_ne _ _ _ _ _ (.inl h), State.fld_setFld_ne _ _ _ _ (by simp) (.inl h), State.fld_wr_ne _ _ _ _ h]

theorem State.lopState_lopStart (h : st < 8) : (s.lopStart n st total).lopState n = st := by
  rw [State.lopState, State.lopStart, State.fld_lopUnits_ne _ _ _ _ _ (.inr (by simp)), State.fld_setFld_same _ _ _ (by simp) h]

theorem State.fld_lopStart_err : (s.lopStart n st total).fld (Fld.LOP_STATn_ERR n) = 0 := by
  rw [State.lopStart, State.fld_lopUnits_ne _ _ _ _ _ (.inr (by simp)), State.fld_setFld_ne _ _ _ _ (by simp) (by simp)]
  simp only [State.fld, State.rd_wr_same]
  rfl

theorem State.fld_lopStart_done : (s.lopStart n st total).fld (Fld.LOP_STATn_UNITS_DONE n) = 0 := State.fld_lopUnits_none _ _ _

theorem State.fld_lopStart_total (ht : total ≤ 4095) : (s.lopStart n st total).fld (Fld.LOP_STATn_UNITS_TOTAL n) = total :=
  State.fld_lopUnits_total _ _ _ _ ht

end

/-- A long operation that ends, with room for its event (R404). -/
theorem State.lopEnd_room {k : Nat} (hr : s.raiseRoom k) (hk : 0 < k) (n st err : Nat) :
    s.lopEnd n st err =
      { ((s.setFld (Fld.LOP_STATn_STATE n) st).setFld (Fld.LOP_STATn_ERR n) err) with
        raise := s.raise ++ [s.occurrence 0x06 (n + 16 * st + 256 * err)] } :=
  State.event_raiseRoom (s := (s.setFld (Fld.LOP_STATn_STATE n) st).setFld (Fld.LOP_STATn_ERR n) err) (hr.congr rfl rfl) hk _ _

/-- The ended operation's register and EVT_DROP alone change. -/
theorem State.regsBut.event {u : State} (h : u.regsBut s as) (code info : Nat) (ha : Reg.EVT_DROP ∈ as) : u.regsBut (s.event code info) as :=
  fun b hb => (State.rd_event s code info (fun e => hb (by rw [e]; exact ha))).trans (h b hb)

theorem State.fld_lopEnd_ne (s : State) (n st err : Nat) (f : Fld) (h : f.addr ≠ Reg.LOP_STATn n) (he : f.addr ≠ Reg.EVT_DROP) :
    (s.lopEnd n st err).fld f = s.fld f := by
  rw [State.lopEnd, State.fld_event _ _ _ _ he, State.fld_setFld_ne _ _ _ _ (by simp) (.inl h), State.fld_setFld_ne _ _ _ _ (by simp) (.inl h)]

theorem State.lopState_lopEnd (s : State) (n st err : Nat) (h : st < 8) (he : Reg.LOP_STATn n ≠ Reg.EVT_DROP) :
    (s.lopEnd n st err).lopState n = st := by
  rw [State.lopState, State.lopEnd, State.fld_event _ _ _ _ he, State.fld_setFld_ne _ _ _ _ (by simp) (by simp),
    State.fld_setFld_same _ _ _ (by simp) h]

theorem State.fld_lopEnd_err (s : State) (n st err : Nat) (he : Reg.LOP_STATn n ≠ Reg.EVT_DROP) :
    (s.lopEnd n st err).fld (Fld.LOP_STATn_ERR n) = err % 32 := by
  rw [State.lopEnd, State.fld_event _ _ _ _ he, State.fld_setFld_mod _ _ _ (by simp)]
  rfl

/-- Neither QUEUED nor RUNNING. -/
theorem State.lopBusy_iff (s : State) (n : Nat) : s.lopBusy n = true ↔ s.lopState n = lopQueued ∨ s.lopState n = lopRunning := by
  simp [State.lopBusy]

/-! ### A command that is one access -/

theorem exec_access (h : s.passes q a true) (he : exec c s = .next (s.access q a f)) : exec c s = .next (f s) := by
  rw [he, s.access_passes q a f h]

theorem exec_access_refused (h : s.inTurn q) (hj : s.judge q a true ≠ stOk) (he : exec c s = .next (s.access q a f)) :
    exec c s = .next (s.merr q a true false (s.judge q a true)) := by
  rw [he, s.access_refused q a f h hj]

/-! ### What an access that fails leaves (R38) -/

section
variable (write posted : Bool) (status : Nat)

@[simp] theorem State.rd_merr_addr : (s.merr q a write posted status).rd Reg.DEV_MERR_ADDR = BitVec.ofNat 32 a :=
  (State.rd_wr_ne _ _ (by decide)).trans (State.rd_wr_same _ _ _)

theorem State.fld_merr (f : Fld) (hf : f.addr = Reg.DEV_MERR_INFO) :
    (s.merr q a write posted status).fld f = getField f.hi f.lo (placeField 31 31 1) ||| getField f.hi f.lo (placeField 13 13 (bit posted)) |||
      getField f.hi f.lo (placeField 12 12 (bit write)) ||| getField f.hi f.lo (placeField 11 8 q.code) |||
      getField f.hi f.lo (placeField 7 0 status) := by
  simp only [State.fld, State.merr, hf, State.rd_wr_same, getField_or]

theorem State.merr_valid : (s.merr q a write posted status).on Fld.DEV_MERR_INFO_VALID = true := by
  rw [State.on_iff, State.fld_merr _ _ _ _ rfl]
  simp (disch := decide) only [getField_placeField_ne, getField_placeField_same]
  decide

theorem State.merr_status (h : status < 256) : (s.merr q a write posted status).fld Fld.DEV_MERR_INFO_STATUS = status := by
  rw [State.fld_merr _ _ _ _ rfl]
  simp (disch := decide) only [getField_placeField_ne, getField_placeField_same, Nat.zero_or]
  exact Nat.mod_eq_of_lt h

theorem State.merr_req : (s.merr q a write posted status).fld Fld.DEV_MERR_INFO_REQ = q.code % 16 := by
  rw [State.fld_merr _ _ _ _ rfl]
  simp (disch := decide) only [getField_placeField_ne, getField_placeField_same, Nat.zero_or, Nat.or_zero]
  rfl

theorem State.merr_write : (s.merr q a write posted status).on Fld.DEV_MERR_INFO_WRITE = write := by
  rw [State.on, State.fld_merr _ _ _ _ rfl]
  simp (disch := decide) only [getField_placeField_ne, getField_placeField_same, Nat.zero_or, Nat.or_zero]
  cases write <;> rfl

theorem State.merr_posted : (s.merr q a write posted status).on Fld.DEV_MERR_INFO_POSTED = posted := by
  rw [State.on, State.fld_merr _ _ _ _ rfl]
  simp (disch := decide) only [getField_placeField_ne, getField_placeField_same, Nat.zero_or, Nat.or_zero]
  cases posted <;> rfl

theorem State.merr_regsBut : s.regsBut (s.merr q a write posted status) [Reg.DEV_MERR_ADDR, Reg.DEV_MERR_INFO] :=
  ((State.regsBut.refl s _).wr _ (by simp)).wr _ (by simp)

theorem State.merr_onlyRegs : s.onlyRegs (s.merr q a write posted status) [Reg.DEV_MERR_ADDR, Reg.DEV_MERR_INFO] :=
  ⟨rfl, State.merr_regsBut _ _ _⟩

end

/-! ### A register write that the fabric refuses -/

/-- Every command of `writes` but the write at any address is one access of its register. -/
theorem exec_of_writes (h : writes c = some (q, a)) (s : State) :
    (∃ f, exec c s = .next (s.access q a f)) ∨ (∃ b d env, c = .registerWrite q b d env ∧ a = b.toNat) := by
  cases c <;> simp only [writes, reduceCtorEq, Option.some.injEq, Prod.mk.injEq] at h <;> obtain ⟨rfl, rfl⟩ := h
  case registerWrite b d env => exact .inr ⟨b, d, env, rfl, rfl⟩
  all_goals exact .inl ⟨_, rfl⟩

/-- A write at any address that the fabric refuses is recorded (R38). -/
theorem exec_registerWrite_refused (b : BitVec 32) (d : Word) (env : BusEnv) (h : s.inTurn q)
    (hp : q = .mspi → storePosts b.toNat = false) (hj : s.judge q b.toNat true ≠ stOk) :
    exec (.registerWrite q b d env) s = .next (s.merr q b.toNat true false (s.judge q b.toNat true)) := by
  have hs : ¬ (q = .mspi ∧ storePosts b.toNat = true) := fun ⟨e, p⟩ => by simp [hp e] at p
  have ha : (s.merr q b.toNat true false (s.judge q b.toNat true)).answered q = s.merr q b.toNat true false (s.judge q b.toNat true) := by
    unfold State.answered
    split
    · next e => rw [State.mspiReset, show (s.merr q b.toNat true false (s.judge q b.toNat true)).boot.afterMspi = none from (h e).2.2.2.2]
    · rfl
  show Host.Outcome.next _ = _
  rw [s.turn_inTurn q env _ h, if_neg hs, State.busWrite, if_pos hj, ha]

theorem judge_lt (s : State) (q : Requester) (a : Nat) (w : Bool) : s.judge q a w < 256 := by
  unfold State.judge
  split
  · decide
  · split_ifs <;> decide

/-- Settles O17: every such command is one access, and a refused access records itself and does nothing. -/
theorem aRefusedWriteIsRecordedAndDoesNothing : Obligations.ARefusedWriteIsRecordedAndDoesNothing := by
  intro c q a s hw ht hp hj
  refine ⟨s.merr q a true false (s.judge q a true), ?_, State.rd_merr_addr _ _ _, State.merr_valid _ _ _,
    State.merr_status _ _ _ (judge_lt ..), State.merr_req _ _ _, State.merr_write _ _ _, State.merr_posted _ _ _, State.merr_onlyRegs _ _ _⟩
  rcases exec_of_writes hw s with ⟨f, hf⟩ | ⟨b, d, env, rfl, rfl⟩
  · exact exec_access_refused ht hj hf
  · exact exec_registerWrite_refused b d env ht hp hj

end Machine

end Sys2Proof

/-!
PROOFS. The start and the BOOT and clock registers: the journal, the steps of a start, BOOT_CTRL, BOOT_HEARTBEAT, CLK_PHASE and
CLK_SYSOUT (O6 to O11).
-/

namespace Sys2Proof.Machine

variable {s t : State} {as : List Nat} {q : Requester} {d : Word} {r : JournalReq}

/-! ### The journal (R59) -/

/-- Starting the next record touches the start's own state alone. -/
theorem State.journalKick_boot (s : State) : s.journalKick = { s with boot := s.journalKick.boot } := by
  unfold State.journalKick
  split
  · extract_lets p
    split <;> rfl
  · rfl

/-- Starting the next record chooses only what is programmed, what waits and whether a sector is erased. -/
theorem State.journalKick_fields (s : State) :
    ∃ w ws e, s.journalKick.boot = { s.boot with writing := w, waiting := ws, erasing := e } := by
  unfold State.journalKick
  split
  · extract_lets p
    split
    · exact ⟨_, _, _, rfl⟩
    · exact ⟨_, _, _, rfl⟩
  · exact ⟨_, _, _, rfl⟩

/-- A record that is owed stays owed when the next one is started. -/
theorem State.owesRecord.journalKick (h : s.owesRecord r) : s.journalKick.owesRecord r := by
  unfold State.journalKick
  split
  · next d r' rs hd hn hw =>
    extract_lets p
    split
    · rcases h with h | ⟨w, hw', -⟩
      · rw [hw] at h
        rcases List.mem_cons.mp h with rfl | h
        · exact .inr ⟨_, rfl, rfl⟩
        · exact .inl h
      · rw [hn] at hw'
        cases hw'
    · exact h
  · exact h

theorem State.journalPut_boot (s : State) (r : JournalReq) : s.journalPut r = { s with boot := (s.journalPut r).boot } := by
  unfold State.journalPut
  rw [State.journalKick_boot]

@[simp] theorem State.rd_journalPut (s : State) (r : JournalReq) (a : Nat) : (s.journalPut r).rd a = s.rd a := by
  rw [State.journalPut_boot, State.rd_beside]

@[simp] theorem State.fld_journalPut (s : State) (r : JournalReq) (f : Fld) : (s.journalPut r).fld f = s.fld f := by
  rw [State.journalPut_boot, State.fld_beside]

@[simp] theorem State.on_journalPut (s : State) (r : JournalReq) (f : Fld) : (s.journalPut r).on f = s.on f := by
  rw [State.journalPut_boot, State.on_beside]

section
variable (s : State) (r : JournalReq)

@[simp] theorem State.journalPut_regs : (s.journalPut r).regs = s.regs := by rw [State.journalPut_boot]
@[simp] theorem State.journalPut_store : (s.journalPut r).store = s.store := by rw [State.journalPut_boot]
@[simp] theorem State.journalPut_flash : (s.journalPut r).flash = s.flash := by rw [State.journalPut_boot]
@[simp] theorem State.journalPut_fuses : (s.journalPut r).fuses = s.fuses := by rw [State.journalPut_boot]
@[simp] theorem State.journalPut_domains : (s.journalPut r).domains = s.domains := by rw [State.journalPut_boot]
@[simp] theorem State.journalPut_air : (s.journalPut r).air = s.air := by rw [State.journalPut_boot]
@[simp] theorem State.journalPut_queues : (s.journalPut r).queues = s.queues := by rw [State.journalPut_boot]
@[simp] theorem State.journalPut_raise : (s.journalPut r).raise = s.raise := by rw [State.journalPut_boot]

end

theorem State.regsBut.journalPut (h : s.regsBut t as) (r : JournalReq) : s.regsBut (t.journalPut r) as :=
  h.congr (State.journalPut_regs _ _)

/-- An appended record is owed. -/
theorem State.owesRecord_journalPut (s : State) (r : JournalReq) : (s.journalPut r).owesRecord r :=
  State.owesRecord.journalKick (.inl (List.mem_append_right _ (List.mem_singleton_self r)))

/-- Appending a record leaves the ones owed before. -/
theorem State.owesRecord.journalPut (h : s.owesRecord r) (r' : JournalReq) : (s.journalPut r').owesRecord r :=
  State.owesRecord.journalKick (h.imp_left (List.mem_append_left _))

/-- Appending a record chooses only what is programmed, what waits and whether a sector is erased. -/
theorem State.journalPut_fields (s : State) (r : JournalReq) :
    ∃ w ws e, (s.journalPut r).boot = { s.boot with writing := w, waiting := ws, erasing := e } :=
  State.journalKick_fields _

/-- A failed attempt keeps its cause and owes the FAIL record that the restart follows. -/
theorem State.failAttempt_attemptLost (s : State) (cause : Nat) : s.attemptLost (s.failAttempt cause 0) cause := by
  obtain ⟨w, ws, e, hb⟩ := State.journalPut_fields
    { s with boot := { s.boot with cache := { s.boot.cache with cause := cause, causeKnown := true } } }
    ⟨2, s.fld Fld.BOOT_ATTEMPTS_COUNT, cause, s.fld Fld.BOOT_STATUS_STEP, 0, .restart, []⟩
  exact ⟨State.journalPut_boot _ _, (congrArg (·.cache.cause) hb), (congrArg (·.cache.causeKnown) hb), State.owesRecord_journalPut _ _⟩

/-! ### BOOT_HEARTBEAT and BOOT_CTRL (R62, R64, R69) -/

/-- The heartbeat that ends step 13. -/
theorem State.heartbeatWrite_first (hs : s.fld Fld.BOOT_STATUS_STEP = 13) (hb : s.boot.heartbeat = false) :
    s.heartbeatWrite d = { s.wr Reg.BOOT_HEARTBEAT d with boot := { s.boot with heartbeat := true } }.setFld Fld.BOOT_STATUS_STEP
      (if s.boot.noLink = true ∨ s.fld Fld.LNK_STATUS_STATE = 5 then 15 else 14) := by
  simp (disch := decide) [State.heartbeatWrite, State.fld_wr_ne, hs, hb]

/-- Any other heartbeat is loaded alone. -/
theorem State.heartbeatWrite_other (hs : s.fld Fld.BOOT_STATUS_STEP ≠ 13) : s.heartbeatWrite d = s.wr Reg.BOOT_HEARTBEAT d := by
  simp (disch := decide) [State.heartbeatWrite, State.fld_wr_ne, hs]

/-- A write of BOOT_CTRL with its key and FORCE_EN. -/
theorem State.bootCtrlWrite_force (h : Fld.BOOT_CTRL_KEY.of d = 0xB3) (hf : Fld.BOOT_CTRL_FORCE_EN.of d = 1) :
    s.bootCtrlWrite d =
      let t := (s.setFld Fld.BOOT_CTRL_FORCE_SLOT (Fld.BOOT_CTRL_FORCE_SLOT.of d)).setFld Fld.BOOT_CTRL_FORCE_EN 1
      if Fld.BOOT_CTRL_CLR_ATTEMPTS.of d = 1 then t.clearAttempts else t := by
  simp only [State.bootCtrlWrite, h, hf, if_true]

/-- A write of BOOT_CTRL with its key and CLR_ATTEMPTS: BOOT_CTRL's other fields first, then CLR_ATTEMPTS. -/
theorem State.bootCtrlWrite_clear (h : Fld.BOOT_CTRL_KEY.of d = 0xB3) (hc : Fld.BOOT_CTRL_CLR_ATTEMPTS.of d = 1) :
    ∃ u, s.bootCtrlWrite d = u.clearAttempts ∧ s.onlyRegs u [Reg.BOOT_CTRL] ∧
      u.on Fld.BOOT_CTRL_CLR_ATTEMPTS = s.on Fld.BOOT_CTRL_CLR_ATTEMPTS := by
  let u := s.setFld Fld.BOOT_CTRL_FORCE_SLOT (Fld.BOOT_CTRL_FORCE_SLOT.of d)
  have slot : s.regsBut u [Reg.BOOT_CTRL] := (State.regsBut.refl s _).setFld _ (by simp)
  by_cases hf : Fld.BOOT_CTRL_FORCE_EN.of d = 1
  · exact ⟨u.setFld Fld.BOOT_CTRL_FORCE_EN 1, by simp only [State.bootCtrlWrite, h, hc, hf, if_true, u], ⟨rfl, slot.setFld 1 (by simp)⟩,
      by simp (disch := decide) [State.on_setFld_ne, u]⟩
  · exact ⟨u, by simp only [State.bootCtrlWrite, h, hc, hf, if_true, if_false, u], ⟨rfl, slot⟩,
      by simp (disch := decide) [State.on_setFld_ne, u]⟩

/-- CLR_ATTEMPTS with no record of its own owed and the journal known. -/
theorem State.clearAttempts_known (hc : s.on Fld.BOOT_CTRL_CLR_ATTEMPTS = false) (hd : s.boot.dir.isSome = true) :
    s.clearAttempts = ((s.setFld Fld.BOOT_ATTEMPTS_COUNT 0).setFld Fld.BOOT_CTRL_CLR_ATTEMPTS 1).journalPut
      ⟨5, 0, 0, s.fld Fld.BOOT_STATUS_STEP, 0, .clearDone, []⟩ := by
  simp (disch := decide) [State.clearAttempts, State.on_setFld_ne, State.fld_setFld_ne, hc, hd]

/-- CLR_ATTEMPTS with the journal unknown. -/
theorem State.clearAttempts_unknown (hd : s.boot.dir = none) : s.clearAttempts = s.setFld Fld.BOOT_ATTEMPTS_COUNT 0 := by
  simp [State.clearAttempts, hd]

/-- CLR_ATTEMPTS leaves every field but COUNT and CLR_ATTEMPTS. -/
theorem State.fld_clearAttempts (s : State) (f : Fld) (h : f.addr ≠ Reg.BOOT_ATTEMPTS)
    (hd : f.addr ≠ Reg.BOOT_CTRL ∨ f.hi < Fld.BOOT_CTRL_CLR_ATTEMPTS.lo ∨ Fld.BOOT_CTRL_CLR_ATTEMPTS.hi < f.lo) :
    s.clearAttempts.fld f = s.fld f := by
  have count : (s.setFld Fld.BOOT_ATTEMPTS_COUNT 0).fld f = s.fld f := State.fld_setFld_ne _ _ _ _ (by decide) (.inl h)
  simp only [State.clearAttempts]
  split_ifs
  · exact count
  · rw [State.fld_journalPut, State.fld_setFld_ne _ _ _ _ (by decide) hd, count]
  · exact count

/-- Settles O10, register by register: what each write loads, and the record that CLR_ATTEMPTS owes. -/
theorem bootRegistersAndHeartbeat : Obligations.BootRegistersAndHeartbeat := by
  intro q d s
  have key : ∀ v, Fld.BOOT_CTRL_KEY.of (Fld.BOOT_CTRL_KEY.put 0xB3 v) = 0xB3 := fun v => Fld.of_put_same _ _ _ (by decide) (by decide)
  have force : Fld.BOOT_CTRL_FORCE_EN.of (Fld.BOOT_CTRL_KEY.put 0xB3 (Fld.BOOT_CTRL_FORCE_EN.put 1 d)) = 1 :=
    (Fld.of_put_ne _ _ _ _ (by decide) (by decide)).trans (Fld.of_put_same _ _ _ (by decide) (by decide))
  have clear : Fld.BOOT_CTRL_CLR_ATTEMPTS.of (Fld.BOOT_CTRL_KEY.put 0xB3 (Fld.BOOT_CTRL_CLR_ATTEMPTS.put 1 d)) = 1 :=
    (Fld.of_put_ne _ _ _ _ (by decide) (by decide)).trans (Fld.of_put_same _ _ _ (by decide) (by decide))
  refine ⟨fun hp hs hb => ?_, fun hp hs => ?_, fun hp => ?_, fun hp hc hd => ?_, fun hp hd => ?_⟩
  · refine ⟨_, exec_access hp rfl, ?_⟩
    rw [State.heartbeatWrite_first hs hb]
    exact ⟨by simp (disch := decide) [State.rd_setFld_ne, -State.wr_regs],
      State.fld_setFld_same _ _ _ (by decide) (by split_ifs <;> decide), rfl,
      (((State.regsBut.refl s _).wr _ (by simp)).congr rfl).setFld _ (by simp)⟩
  · refine ⟨_, exec_access hp rfl, ?_⟩
    rw [State.heartbeatWrite_other hs]
    exact ⟨State.rd_wr_same _ _ _, rfl, (State.regsBut.refl s _).wr _ (by simp)⟩
  · refine ⟨_, exec_access hp rfl, ?_⟩
    rw [State.bootCtrlWrite_force (key _) force]
    split_ifs
    all_goals
      simp (disch := decide) [State.on, State.fld_clearAttempts, State.fld_setFld_ne, State.fld_setFld_same, State.fld_setFld_of,
        Fld.of_put_ne]
  · obtain ⟨u, hu, ⟨beside, frame⟩, off⟩ := State.bootCtrlWrite_clear (s := s) (key _) clear
    have known := State.clearAttempts_known (off.trans hc) (show u.boot.dir.isSome = true by rw [beside]; exact hd)
    rw [frame.fld _ (by decide)] at known
    refine ⟨_, exec_access hp rfl, ?_⟩
    rw [hu, known]
    refine ⟨by simp (disch := decide) [State.fld_setFld_same, State.fld_setFld_ne],
      by simp (disch := decide) [State.on, State.fld_setFld_same], State.owesRecord_journalPut _ _, ?_, ?_⟩
    · rw [State.journalPut_boot, beside]
      rfl
    · exact (((frame.mono (by simp)).setFld _ (by simp)).setFld _ (by simp)).journalPut _
  · obtain ⟨u, hu, ⟨beside, frame⟩, -⟩ := State.bootCtrlWrite_clear (s := s) (key _) clear
    refine ⟨_, exec_access hp rfl, ?_⟩
    rw [hu, State.clearAttempts_unknown (by rw [beside]; exact hd)]
    refine ⟨State.fld_setFld_same _ _ _ (by decide) (by decide), ?_, (frame.mono (by simp)).setFld _ (by simp)⟩
    rw [beside]
    rfl

/-! ### The clock family (R16, R18, R19, R39) -/

/-- A write of CLK_PHASE with GO while no request runs: the fields first, then the request that STEP asks for. -/
theorem State.clkPhaseWrite_go (hb : s.on Fld.CLK_PHASE_BUSY = false) (hg : Fld.CLK_PHASE_GO.of d = 1)
    (hn : sext 16 (Fld.CLK_PHASE_STEP.of d) ≠ 0) :
    s.clkPhaseWrite d =
      let t := s.plainWrite Reg.CLK_PHASE (Fld.CLK_PHASE_GO.put 0 d)
      if s.fld Fld.LNK_STATUS_STATE = 5 ∧ 1024 < (s.clk.sinceLock + sext 16 (Fld.CLK_PHASE_STEP.of d)).natAbs then
        t.setFld Fld.CLK_PHASE_REFUSED 1
      else ({ t with clk := { s.clk with phaseLeft := sext 16 (Fld.CLK_PHASE_STEP.of d) } }.setFld Fld.CLK_PHASE_BUSY 1).setFld
        Fld.CLK_PHASE_GO 1 := by
  have step : (s.plainWrite Reg.CLK_PHASE (Fld.CLK_PHASE_GO.put 0 d)).fld Fld.CLK_PHASE_STEP = Fld.CLK_PHASE_STEP.of d :=
    (s.fld_plainWrite_plain (f := Fld.CLK_PHASE_STEP) (by decide) _).trans (Fld.of_put_ne _ _ _ _ (by decide) (by decide))
  have state : (s.plainWrite Reg.CLK_PHASE (Fld.CLK_PHASE_GO.put 0 d)).fld Fld.LNK_STATUS_STATE = s.fld Fld.LNK_STATUS_STATE :=
    s.fld_wr_ne _ _ _ (by decide)
  have beyond : ∀ z : Int, (1024 < z ∨ z < -1024) ↔ 1024 < z.natAbs := fun z => by omega
  simp only [State.clkPhaseWrite, hb, hg, step, state, hn, if_true, if_false, beyond, Bool.false_eq_true]
  rfl

/-- One HK tick of a running request: one step toward its end (R18). -/
theorem exec_clkPhaseStepTick (hb : s.on Fld.CLK_PHASE_BUSY = true) (hl : s.clk.phaseLeft ≠ 0) :
    exec .clkPhaseStepTick s = .next
      (let t := { s with clk := ⟨s.clk.phaseLeft - s.clk.phaseLeft.sign, s.clk.sinceLock + s.clk.phaseLeft.sign⟩ }.wr Reg.CLK_PHASE_POS
        (s.rd Reg.CLK_PHASE_POS + BitVec.ofInt 32 s.clk.phaseLeft.sign)
      if s.clk.phaseLeft - s.clk.phaseLeft.sign = 0 then (t.setFld Fld.CLK_PHASE_BUSY 0).setFld Fld.CLK_PHASE_GO 0 else t) := by
  have sign : (if 0 < s.clk.phaseLeft then 1 else -1) = s.clk.phaseLeft.sign := by
    split_ifs with h
    · exact (Int.sign_eq_one_of_pos h).symm
    · exact (Int.sign_eq_neg_one_of_neg (by omega)).symm
  show Host.Outcome.next _ = _
  rw [if_pos hb]
  simp only [sign, BitVec.ofInt_add, BitVec.ofInt_toInt, State.rd_beside]

/-- A write of CLK_SYSOUT once the root is locked: what is written drives the outputs (R39). -/
theorem State.sysoutWrite_pins (hr : s.on Fld.CLK_STATUS_FABRIC_ON_ROOT = true) :
    (s.sysoutWrite d).pins = { s.pins with
      sysclk0 := if Fld.CLK_SYSOUT_OUT0_EN.of d = 0 then 0 else 1 + Fld.CLK_SYSOUT_OUT0_SEL.of d
      sysclk1 := if Fld.CLK_SYSOUT_OUT1_EN.of d = 0 then 0 else 1 + Fld.CLK_SYSOUT_OUT1_SEL.of d } := by
  have out : ∀ en sel : Fld, en.plain = true → sel.plain = true → en.addr = Reg.CLK_SYSOUT → sel.addr = Reg.CLK_SYSOUT → sel.hi = sel.lo →
      (if (s.plainWrite Reg.CLK_SYSOUT d).on Fld.CLK_STATUS_FABRIC_ON_ROOT && (s.plainWrite Reg.CLK_SYSOUT d).on en then
        (if (s.plainWrite Reg.CLK_SYSOUT d).on sel then 2 else 1) else 0) = if en.of d = 0 then 0 else 1 + sel.of d := by
    intro en sel he hs ae as one
    have root : (s.plainWrite Reg.CLK_SYSOUT d).on Fld.CLK_STATUS_FABRIC_ON_ROOT = true := (s.on_wr_ne _ _ _ (by decide)).trans hr
    have fe : (s.plainWrite Reg.CLK_SYSOUT d).fld en = en.of d := ae ▸ s.fld_plainWrite_plain he d
    have fs : (s.plainWrite Reg.CLK_SYSOUT d).fld sel = sel.of d := as ▸ s.fld_plainWrite_plain hs d
    have bit : sel.of d < 2 := by simpa [one] using sel.of_lt d
    rw [root]
    simp only [State.on, fe, fs, Bool.true_and]
    by_cases h : en.of d = 0
    · simp [h]
    · by_cases h' : sel.of d = 0
      · simp [h, h']
      · simp [h, show sel.of d = 1 by omega]
  simp only [State.sysoutWrite, State.driveSysout]
  rw [out _ _ (by decide) (by decide) rfl rfl rfl, out _ _ (by decide) (by decide) rfl rfl rfl]
  rfl

/-- Settles O11: each command's effect, the phase request by R19's two cases. -/
theorem clockFamilyCommands : Obligations.ClockFamilyCommands := by
  intro q d s
  have go : Fld.CLK_PHASE_GO.of (Fld.CLK_PHASE_GO.put 1 d) = 1 := Fld.of_put_same _ _ _ (by decide) (by decide)
  have step : Fld.CLK_PHASE_STEP.of (Fld.CLK_PHASE_GO.put 1 d) = Fld.CLK_PHASE_STEP.of d := Fld.of_put_ne _ _ _ _ (by decide) (by decide)
  have frame := (State.regsBut.refl s [Reg.CLK_PHASE]).plainWrite (Fld.CLK_PHASE_GO.put 0 (Fld.CLK_PHASE_GO.put 1 d)) (a := Reg.CLK_PHASE) (by simp)
  have busy := s.fld_plainWrite_held (f := Fld.CLK_PHASE_BUSY) (by decide) (Fld.CLK_PHASE_GO.put 0 (Fld.CLK_PHASE_GO.put 1 d))
  refine ⟨fun hp hb hn hl => ?_, fun hp hb ha ht hn => ?_, fun hb hl => ?_, fun hp hr => ?_, ?_⟩
  · refine ⟨_, exec_access hp rfl, ?_⟩
    rw [State.clkPhaseWrite_go hb go (by rwa [step]), if_neg (by rw [step]; omega), step]
    exact ⟨by simp (disch := decide) [State.on, State.fld_setFld_same, State.fld_setFld_ne], rfl,
      ((frame.congr rfl).setFld _ (by simp)).setFld _ (by simp)⟩
  · refine ⟨_, exec_access hp rfl, ?_⟩
    rw [State.clkPhaseWrite_go hb go (by rwa [step]), if_pos (by rw [step]; exact ⟨ha, ht⟩)]
    refine ⟨by simp (disch := decide) [State.on, State.fld_setFld_same], ?_, rfl, frame.setFld _ (by simp)⟩
    rw [State.on_eq_false] at hb ⊢
    rw [State.fld_setFld_ne _ _ _ _ (by decide) (by decide), busy, hb]
  · refine ⟨_, exec_clkPhaseStepTick hb hl, ?_⟩
    have load : s.regsBut ({ s with clk := ⟨s.clk.phaseLeft - s.clk.phaseLeft.sign, s.clk.sinceLock + s.clk.phaseLeft.sign⟩ }.wr
        Reg.CLK_PHASE_POS (s.rd Reg.CLK_PHASE_POS + BitVec.ofInt 32 s.clk.phaseLeft.sign)) [Reg.CLK_PHASE, Reg.CLK_PHASE_POS] :=
      ((State.regsBut.refl s _).congr rfl).wr _ (by simp)
    simp only
    split_ifs with he
    · refine ⟨rfl, ?_, ?_, rfl, (load.setFld _ (by simp)).setFld _ (by simp)⟩
      · simp (disch := decide) [State.rd_setFld_ne, -State.wr_regs]
      · simp (disch := decide) [State.on, State.fld_setFld_same, State.fld_setFld_ne, he]
    · refine ⟨rfl, State.rd_wr_same _ _ _, ?_, rfl, load⟩
      rw [State.on_wr_ne _ _ _ _ (by decide), State.on_beside, hb]
      exact (decide_eq_true he).symm
  · refine ⟨_, exec_access hp rfl, State.sysoutWrite_pins hr, rfl, ?_⟩
    exact ((State.regsBut.refl s _).plainWrite d (by simp)).congr rfl
  · exact ⟨_, rfl, by simp (disch := decide) [State.on, State.fld_setFld_same], rfl, (State.regsBut.refl s _).setFld _ (by simp)⟩
/-! ### Start steps 6, 8 and 13 to 15 (R62, R63) -/

/-- Whether the attempt runs is told by the records owed and by BOOT_STATUS.DETAINED. -/
theorem State.startRuns_congr (hw : t.boot.writing = s.boot.writing) (hq : t.boot.waiting = s.boot.waiting)
    (hd : t.on Fld.BOOT_STATUS_DETAINED = s.on Fld.BOOT_STATUS_DETAINED) : t.startRuns = s.startRuns := by
  simp only [State.startRuns, State.attemptFailed, hw, hq, hd]

/-- The flash switch loads FLASH_SLOW alone, and with complete SFDP tables leaves the flash in the protocol of FLASH_MODE (R43). -/
theorem State.switchFlash_effect (s : State) (x : Bool) :
    s.switchFlash x = { s with regs := (s.switchFlash x).regs, boot := { s.boot with flashLink := (s.switchFlash x).boot.flashLink } } ∧
      (x = true → (s.switchFlash x).boot.flashLink = flashModeLink (s.fld Fld.DEV_STRAPS_FLASH_MODE)) ∧
      s.regsBut (s.switchFlash x) [Reg.BOOT_STATUS] ∧
      ∀ f : Fld, f.addr ≠ Reg.BOOT_STATUS ∨ f.hi < Fld.BOOT_STATUS_FLASH_SLOW.lo ∨ Fld.BOOT_STATUS_FLASH_SLOW.hi < f.lo →
        (s.switchFlash x).fld f = s.fld f := by
  simp only [State.switchFlash]
  split_ifs with h
  · refine ⟨rfl, ?_, ((State.regsBut.refl s _).congr rfl).setFld _ (by simp), fun f hf => ?_⟩
    · intro e
      simp [e] at h
    · exact State.fld_setFld_ne _ _ _ _ (by decide) hf
  · exact ⟨rfl, fun _ => rfl, (State.regsBut.refl s _).congr rfl, fun f _ => rfl⟩

theorem exec_rootLockReached (x : Bool) (hr : s.startRuns = true) (hd : s.domOn pdSyn = true)
    (hf : s.on Fld.CLK_STATUS_FABRIC_ON_ROOT = false) (hs : s.fld Fld.BOOT_STATUS_STEP = 6) :
    exec (.rootLockReached x) s = .next
      (((((s.setFld Fld.CLK_STATUS_ROOT_LOCK 1).setFld Fld.CLK_STATUS_FABRIC_ON_ROOT 1).driveSysout).switchFlash x).setFld Fld.BOOT_STATUS_STEP 8) := by
  set u := ((s.setFld Fld.CLK_STATUS_ROOT_LOCK 1).setFld Fld.CLK_STATUS_FABRIC_ON_ROOT 1).driveSysout with hu
  obtain ⟨beside, -, -, keeps⟩ := u.switchFlash_effect x
  have fld : ∀ f : Fld, f.addr = Reg.BOOT_STATUS → u.fld f = s.fld f := fun f hf =>
    (State.fld_setFld_ne _ _ f _ (by decide) (.inl (by rw [hf]; decide))).trans
      (State.fld_setFld_ne _ _ f _ (by decide) (.inl (by rw [hf]; decide)))
  have step : (u.switchFlash x).fld Fld.BOOT_STATUS_STEP = 6 := by rw [keeps _ (by decide), fld _ rfl, hs]
  have runs : (u.switchFlash x).startRuns = true := by
    rw [beside, ← hr]
    exact State.startRuns_congr rfl rfl (by rw [State.on, ← beside, keeps _ (by decide), fld _ rfl, State.on])
  show Host.Outcome.next _ = _
  rw [if_pos (by simp [hd, hf])]
  simp only [← hu, step, runs, true_and, if_true]

/-- Settles O8, step by step. -/
theorem startStepsWaitOrFailTheAttempt : Obligations.StartStepsWaitOrFailTheAttempt := by
  intro x s hr
  refine ⟨fun hd hf hs => ?_, fun hs hl => ?_, fun t8 t9 hs h8 h9 => ?_, fun t8 t9 hs hh ht => ?_, fun hs hb => ?_, fun hs hn => ?_,
    fun hs => ?_⟩
  · refine ⟨_, exec_rootLockReached x hr hd hf hs, ?_⟩
    set u := ((s.setFld Fld.CLK_STATUS_ROOT_LOCK 1).setFld Fld.CLK_STATUS_FABRIC_ON_ROOT 1).driveSysout with hu
    obtain ⟨beside, link, frame, keeps⟩ := u.switchFlash_effect x
    have mode : u.fld Fld.DEV_STRAPS_FLASH_MODE = s.fld Fld.DEV_STRAPS_FLASH_MODE :=
      (State.fld_setFld_ne _ _ _ _ (by decide) (by decide)).trans (State.fld_setFld_ne _ _ _ _ (by decide) (by decide))
    refine ⟨?_, ?_, State.fld_setFld_same _ _ _ (by decide) (by decide), fun h => (link h).trans (by rw [mode]), ?_, ?_⟩
    · rw [State.on_setFld_ne _ _ _ _ (by decide) (by decide), State.on, keeps _ (by decide)]
      simp (disch := decide) [hu, State.driveSysout, State.fld_setFld_ne, State.fld_setFld_same]
    · rw [State.on_setFld_ne _ _ _ _ (by decide) (by decide), State.on, keeps _ (by decide)]
      simp (disch := decide) [hu, State.driveSysout, State.fld_setFld_same]
    · rw [beside]
      rfl
    · have clk : s.regsBut u [Reg.CLK_STATUS, Reg.BOOT_STATUS] :=
        (((State.regsBut.refl s _).setFld _ (by simp)).setFld _ (by simp)).congr rfl
      exact (clk.trans (frame.mono (by simp))).setFld _ (by simp)
  · exact ⟨_, congrArg Host.Outcome.next (if_pos ⟨hs, hr, by simp [hl]⟩), s.failAttempt_attemptLost _⟩
  · exact ⟨_, congrArg Host.Outcome.next ((if_pos ⟨hs, hr⟩).trans (if_pos ⟨h8, h9⟩)), State.fld_setFld_same _ _ _ (by decide) (by decide),
      rfl, ((State.regsBut.refl s _).congr rfl).setFld _ (by simp)⟩
  · have hot : ¬ (t8 ≤ (if s.boot.hot then 1680 else 1760) ∧ t9 ≤ (if s.boot.hot then 1680 else 1760)) := by
      rw [if_pos hh]
      omega
    exact ⟨_, congrArg Host.Outcome.next ((if_pos ⟨hs, hr⟩).trans ((if_neg hot).trans (if_pos ⟨hh, rfl⟩))), s.failAttempt_attemptLost _⟩
  · exact ⟨_, congrArg Host.Outcome.next (if_pos ⟨hs, by simp [hb], hr⟩), s.failAttempt_attemptLost _⟩
  · exact ⟨_, congrArg Host.Outcome.next (if_pos ⟨hs, by simp [hn], hr⟩), s.failAttempt_attemptLost _⟩
  · exact ⟨_, congrArg Host.Outcome.next (if_pos ⟨hs, hr⟩), s.failAttempt_attemptLost _⟩

/-! ### Start steps 2 to 4 (R42, R46, R62, R64) -/

/-- The slot that the attempt decision takes with `n` attempts counted (R64). -/
def State.attemptSlot (s : State) (n : Nat) : Nat :=
  if s.on Fld.BOOT_CTRL_FORCE_EN then s.fld Fld.BOOT_CTRL_FORCE_SLOT
  else if n % 2 = 1 then s.fld Fld.BOOT_STATUS_PREF_SLOT else 1 - s.fld Fld.BOOT_STATUS_PREF_SLOT

theorem State.attemptSlot_lt (s : State) (n : Nat) : s.attemptSlot n < 2 := by
  have force : s.fld Fld.BOOT_CTRL_FORCE_SLOT < 2 := s.fld_lt _
  have pref : s.fld Fld.BOOT_STATUS_PREF_SLOT < 2 := s.fld_lt _
  unfold State.attemptSlot
  split_ifs <;> omega

/-- The state in which an attempt below the limit begins, its BEGIN record not yet appended. -/
def State.attemptBegun (s : State) : State :=
  let slot := s.attemptSlot (s.fld Fld.BOOT_ATTEMPTS_COUNT + 1)
  { ((((s.setFld Fld.BOOT_STATUS_STEP 4).count Fld.BOOT_ATTEMPTS_COUNT 1).setFld Fld.BOOT_CTRL_FORCE_EN 0).setFld
      Fld.BOOT_STATUS_SLOT slot) with
    boot := { s.boot with lastSlot := slot, cache := { s.boot.cache with cause := 0, causeKnown := false } } }

/-- Below the limit the attempt decision begins an attempt (R64). -/
theorem State.decideAttempt_begins (hl : s.fld Fld.BOOT_ATTEMPTS_COUNT < s.fld Fld.BOOT_ATTEMPTS_LIMIT) :
    s.decideAttempt = s.attemptBegun.journalPut ⟨1, s.fld Fld.BOOT_ATTEMPTS_COUNT + 1, 0, 4, s.pwr.cold, .header, []⟩ := by
  have limit : s.fld Fld.BOOT_ATTEMPTS_LIMIT < 16 := s.fld_lt _
  have count : min 255 (s.fld Fld.BOOT_ATTEMPTS_COUNT + 1) = s.fld Fld.BOOT_ATTEMPTS_COUNT + 1 := by omega
  simp (disch := decide) [State.decideAttempt, State.attemptBegun, State.attemptSlot, State.on, State.fld_count_same, State.fld_count_ne,
    State.fld_setFld_ne, hl.not_ge, count]

theorem State.attemptBegun_regsBut (s : State) : s.regsBut s.attemptBegun [Reg.BOOT_STATUS, Reg.BOOT_ATTEMPTS, Reg.BOOT_CTRL] :=
  (((((State.regsBut.refl s _).setFld _ (by simp)).count _ (by simp)).setFld _ (by simp)).setFld _ (by simp)).congr rfl

theorem State.attemptBegun_fields (hl : s.fld Fld.BOOT_ATTEMPTS_COUNT < s.fld Fld.BOOT_ATTEMPTS_LIMIT) :
    s.attemptBegun.fld Fld.BOOT_ATTEMPTS_COUNT = s.fld Fld.BOOT_ATTEMPTS_COUNT + 1 ∧
      s.attemptBegun.fld Fld.BOOT_STATUS_SLOT = s.attemptSlot (s.fld Fld.BOOT_ATTEMPTS_COUNT + 1) ∧
      s.attemptBegun.on Fld.BOOT_CTRL_FORCE_EN = false ∧ s.attemptBegun.fld Fld.BOOT_STATUS_STEP = 4 ∧
      s.attemptBegun.fld Fld.BOOT_STATUS_PREF_SLOT = s.fld Fld.BOOT_STATUS_PREF_SLOT := by
  have limit : s.fld Fld.BOOT_ATTEMPTS_LIMIT < 16 := s.fld_lt _
  have slot := s.attemptSlot_lt (s.fld Fld.BOOT_ATTEMPTS_COUNT + 1)
  have count : min 255 (s.fld Fld.BOOT_ATTEMPTS_COUNT + 1) = s.fld Fld.BOOT_ATTEMPTS_COUNT + 1 := by omega
  refine ⟨?_, ?_, ?_, ?_, ?_⟩
  case refine_2 => simpa only [State.attemptBegun, State.fld_beside] using State.fld_setFld_same _ _ _ (by decide) slot
  all_goals
    simp (disch := decide) [State.attemptBegun, State.on, State.fld_count_same, State.fld_count_ne, State.fld_setFld_same,
      State.fld_setFld_ne, count]

/-- The directory is chosen from the flash alone. -/
theorem State.chooseDir_of_flash (h : t.flash = s.flash) (n : Nat) : t.chooseDir n = s.chooseDir n := by
  unfold State.chooseDir State.dirBytes State.flashBytes
  rw [h]

/-- The directory copy read at step 3 is `dir`: its PREF_SLOT shows. -/
def State.directoryTaken (s : State) (sfdp : Option Nat) (dir : Directory) : State :=
  { s with boot := { s.boot with density := sfdp.getD 0x2000000, dir := some dir } }.setFld Fld.BOOT_STATUS_PREF_SLOT dir.prefSlot

theorem State.takeDirectory_of_valid {sfdp : Option Nat} {dir : Directory} (hc : s.chooseDir (sfdp.getD 0x2000000) = some dir) :
    s.takeDirectory sfdp = s.directoryTaken sfdp dir := by
  unfold State.takeDirectory
  generalize State.chooseDir = choose at hc ⊢
  simp only [hc]
  rfl

/-- At step 3 a directory that has been read, not after a POR, leads to the attempt decision. -/
theorem State.directoryRead_decides {dir : Directory} (hd : s.boot.dir = some dir) (hk : s.boot.kind ≠ .por)
    (hs : s.fld Fld.BOOT_STATUS_STEP = 3) : s.directoryRead 0x02 = s.decideAttempt := by
  simp [State.directoryRead, State.forcedAfterPor, hs, State.scanAfterPor, hd, hk]

/-- At step 3 the first silent try is counted. -/
theorem State.flashStep_silent {id : Byte} {sfdp : Option Nat} (ha : idAnswers id = false) (ht : s.boot.tries = 0) :
    s.flashStep id sfdp = { s with boot := { s.boot with tries := 1, dir := none } } := by
  simp [State.flashStep, ha, ht]

/-- Settles O6: both commands read the flash at step 3, and the directory read leads to the attempt decision. -/
theorem theFlashProbeDecidesTheAttempt : Obligations.TheFlashProbeDecidesTheAttempt := by
  intro id sfdp dir s ha hc hk hr hl hp
  constructor
  · intro c n slot hcmd hn hslot
    obtain ⟨regs, hu, frame, hs⟩ : ∃ regs, exec c s = .next (State.flashStep { s with regs := regs } id sfdp) ∧
        s.regsBut { s with regs := regs } [Reg.BOOT_STATUS] ∧ State.fld { s with regs := regs } Fld.BOOT_STATUS_STEP = 3 := by
      rcases hcmd with ⟨rfl, h2, h0⟩ | ⟨rfl, h3, h0, h1⟩
      · exact ⟨_, congrArg Host.Outcome.next ((if_neg (by simp [h0])).trans (if_pos ⟨h2, hr⟩)),
          (State.regsBut.refl s _).setFld (f := Fld.BOOT_STATUS_STEP) 3 (by simp),
          State.fld_setFld_same s Fld.BOOT_STATUS_STEP 3 (by decide) (by decide)⟩
      · exact ⟨s.regs, congrArg Host.Outcome.next (if_pos ⟨by omega, h1, by simp [h3, hr]⟩), State.regsBut.refl s _, h3⟩
    let u : State := { s with regs := regs }
    have taken := State.takeDirectory_of_valid (s := u) (sfdp := sfdp) (dir := dir)
      ((State.chooseDir_of_flash (s := s) (t := u) rfl _).trans hc)
    let v := u.directoryTaken sfdp dir
    have frame' : s.regsBut v [Reg.BOOT_STATUS] := (frame.congr rfl).setFld _ (by simp)
    have read := State.directoryRead_decides (s := v) (dir := dir) rfl hk
      ((State.fld_setFld_ne _ _ _ _ (by decide) (by decide)).trans hs)
    have limit : v.fld Fld.BOOT_ATTEMPTS_COUNT < v.fld Fld.BOOT_ATTEMPTS_LIMIT := by
      rwa [frame'.fld _ (by decide), frame'.fld _ (by decide)]
    have pref : v.fld Fld.BOOT_STATUS_PREF_SLOT = dir.prefSlot := State.fld_setFld_same _ _ _ (by decide) (Nat.lt_succ_of_le hp)
    have begins : exec c s = .next (v.attemptBegun.journalPut ⟨1, v.fld Fld.BOOT_ATTEMPTS_COUNT + 1, 0, 4, s.pwr.cold, .header, []⟩) := by
      rw [hu, State.flashStep, if_pos ha, taken, read, State.decideAttempt_begins limit]
      rfl
    obtain ⟨count, slot', force, step, pref'⟩ := State.attemptBegun_fields limit
    have chosen : v.attemptSlot n = slot := by
      rw [hslot, State.attemptSlot, pref, State.on, State.on, frame'.fld _ (by decide), frame'.fld _ (by decide)]
    rw [frame'.fld _ (by decide), ← hn] at begins count slot'
    rw [chosen] at slot'
    obtain ⟨w, ws, e, hboot⟩ := v.attemptBegun.journalPut_fields ⟨1, n, 0, 4, s.pwr.cold, .header, []⟩
    refine ⟨_, begins, congrArg (·.dir) hboot, ?_, ?_, ?_, ?_, ?_, State.owesRecord_journalPut _ _, ?_, ?_⟩
    · rw [State.fld_journalPut, pref', pref]
    · rw [State.fld_journalPut, count]
    · rw [State.fld_journalPut, slot']
    · rw [State.on_journalPut, force]
    · rw [State.fld_journalPut, step]
    · rw [State.journalPut_boot]
      rfl
    · exact ((frame'.mono (by simp)).trans v.attemptBegun_regsBut).journalPut _
  · intro bad hb h2 h0
    refine ⟨_, congrArg Host.Outcome.next ((if_neg (by simp [h0])).trans ((if_pos ⟨h2, hr⟩).trans (State.flashStep_silent hb h0))), ?_⟩
    exact ⟨by simp (disch := decide) [State.fld_setFld_same], rfl, ((State.regsBut.refl s _).setFld _ (by simp)).congr rfl⟩

/-! ### Journal records and sectors (R59) -/

/-- A map restricted to some keys reads there as before, and as the default elsewhere. -/
theorem SMap.find_filter {α : Type} (P : Nat → Bool) (m : SMap α) (k : Nat) :
    SMap.find (m.filter (fun p => P p.1)) k = if P k then SMap.find m k else none := by
  induction m with
  | nil => simp [SMap.find]
  | cons p m ih =>
    obtain ⟨j, v⟩ := p
    by_cases hp : P j = true
    · by_cases hj : j = k
      · subst hj
        simp [SMap.find, hp]
      · simp [SMap.find, hp, hj, ih]
    · by_cases hj : j = k
      · subst hj
        simp [hp, ih]
      · simp [SMap.find, hp, hj, ih]

theorem State.get_eraseFlash_in (s : State) {a n b : Nat} (h : a ≤ b) (h' : b < a + n) :
    SMap.get 0xFF#8 (s.eraseFlash a n).flash b = 0xFF#8 := by
  simp only [SMap.get, State.eraseFlash]
  rw [SMap.find_filter (fun k => decide (k < a) || decide (a + n ≤ k)), if_neg (by simp; omega)]
  rfl

theorem State.get_eraseFlash_out (s : State) {a n b : Nat} (h : b < a ∨ a + n ≤ b) :
    SMap.get 0xFF#8 (s.eraseFlash a n).flash b = SMap.get 0xFF#8 s.flash b := by
  simp only [SMap.get, State.eraseFlash]
  rw [SMap.find_filter (fun k => decide (k < a) || decide (a + n ≤ k)), if_pos (by simpa using h)]

/-- What has been erased reads as erased. -/
theorem State.flashErased_eraseFlash (s : State) (a n : Nat) : (s.eraseFlash a n).flashErased a n = true := by
  simp only [State.flashErased, State.eraseFlash, Bool.not_eq_true', List.any_eq_false, List.mem_filter, Bool.or_eq_true,
    decide_eq_true_eq, Bool.and_eq_true]
  intro p hp h
  have := hp.2
  omega

/-- Bytes as many as are asked for are those of the list. -/
theorem bytesAt_all (bs : List Byte) {n : Nat} (h : bs.length = n) : bytesAt bs 0 n = bs := by
  simp [bytesAt, ← h]

/-- Once the sector that is erased for position `p` reads erased, a record may be programmed at `p`. -/
theorem State.positionReady_of_erased {d : Directory} (he : s.boot.erasing = false)
    (hf : s.flashErased (d.journalOther s.boot.cache.pos) 0x10000 = true) :
    s.positionReady d (s.boot.cache.pos % 2048) = true := by
  unfold State.positionReady
  by_cases h : s.boot.cache.pos % 2048 % 1024 = 0
  · have place : d.journalAddr (s.boot.cache.pos % 2048 % 2048) = d.journalOther s.boot.cache.pos := by
      unfold Directory.journalAddr Directory.journalOther
      rw [if_pos (by omega)]
      omega
    rw [place, hf, he]
    simp
  · rw [bne_iff_ne.mpr h, Bool.true_or]

/-- The next record starts without an erase where its position is ready. -/
theorem State.journalKick_ready {d : Directory} (hd : s.boot.dir = some d) (hr : s.positionReady d (s.boot.cache.pos % 2048) = true) :
    s.journalKick.boot.erasing = s.boot.erasing := by
  unfold State.journalKick
  split
  · next d' _ _ hd' _ _ =>
    obtain rfl : d' = d := by
      rw [hd] at hd'
      exact (Option.some.inj hd').symm
    simp only [hr, if_true]
  · rfl

theorem State.journalKick_flash (s : State) : s.journalKick.flash = s.flash := by rw [State.journalKick_boot]

/-- Settles O7: a record read back, one given up, and the end of an erase. -/
theorem journalRecordsAreProgrammedAndReadBack : Obligations.JournalRecordsAreProgrammedAndReadBack := by
  intro w d s
  refine ⟨fun hw hl hn => ?_, fun r hw hn h2 hr hroom => ?_, fun hd he => ?_⟩
  · let u := { (s.putFlash w.addr w.bytes).nextPosition with boot := { (s.putFlash w.addr w.bytes).nextPosition.boot with
      cache := { (s.putFlash w.addr w.bytes).nextPosition.boot.cache with valid := true, jseq := fieldAt w.bytes 4 4 } } }
    have run : exec (.journalRecordReadback (some w.bytes)) s = .next u.journalKick := by
      simp only [exec, execJournalRecordReadback, hw, bytesAt_all w.bytes hl, if_true, State.afterRecord, hn, u]
    obtain ⟨w', ws, e, hb⟩ := u.journalKick_fields
    refine ⟨_, run, ?_, fun a ha => ?_, congrArg (·.cache) hb, ?_⟩
    · rw [State.flashBytes, State.journalKick_flash]
      exact hl ▸ State.flashBytes_putFlash s w.addr w.bytes
    · rw [State.journalKick_flash]
      exact State.flashByte_putFlash_out s w.addr w.bytes (by rwa [hl])
    · rw [State.journalKick_boot]
      rfl
  · have again : ¬ some r = some w.bytes := fun e => hr (Option.some.inj e)
    let u := (((s.putFlash w.addr (bytesAt r 0 64)).nextPosition).setFld Fld.BOOT_STATUS_JOURNAL_FAIL 1)
    have run : exec (.journalRecordReadback (some r)) s = .next (u.event 0x04 (fieldAt w.bytes 4 4)).journalKick := by
      simp only [exec, execJournalRecordReadback, hw, again, h2, if_true, if_false, State.afterRecord, hn, u]
    rw [State.event_raiseRoom (s := u) (n := 1) hroom Nat.one_pos] at run
    refine ⟨_, run, ?_, ?_, ?_⟩
    · rw [State.journalKick_boot, State.on_beside, State.on_beside]
      simp (disch := decide) [u, State.on, State.fld_setFld_same]
    · rw [State.journalKick_boot]
      rfl
    · refine State.regsBut.congr (t := u) (((State.regsBut.refl s _).congr rfl).setFld _ (by simp)) ?_
      rw [State.journalKick_boot]
  · let u := { (s.eraseFlash (d.journalOther s.boot.cache.pos) 0x10000) with boot := { s.boot with erasing := false } }
    have run : exec .journalSectorEraseEnd s = .next u.journalKick := by
      simp only [exec, execJournalSectorEraseEnd, hd, he, if_true, u]
    have ready : u.journalKick.boot.erasing = false :=
      State.journalKick_ready (s := u) (d := d) hd (State.positionReady_of_erased rfl (State.flashErased_eraseFlash s _ _))
    refine ⟨_, run, ready, fun a h h' => ?_, fun a h => ?_, ?_⟩
    · rw [State.journalKick_flash]
      exact State.get_eraseFlash_in s h h'
    · rw [State.journalKick_flash]
      exact State.get_eraseFlash_out s h
    · rw [State.journalKick_boot]
      rfl

/-! ### Step 10 and completion (R49, R51, R63, R65) -/

/-- What completion loads, its COMPLETE record appended and its event raised. -/
def State.completed (s : State) : State :=
  let u := (((s.setFld Fld.BOOT_ATTEMPTS_COUNT 0).setFld Fld.BOOT_STATUS_COMPLETE 1).setFld Fld.BOOT_STATUS_STEP 16).journalPut
    ⟨3, 0, 0, 15, 0, .goOn, []⟩
  u.event 0x02 (u.fld Fld.BOOT_STATUS_SLOT)

theorem exec_startCompletion (hr : s.startRuns = true) (hs : s.fld Fld.BOOT_STATUS_STEP = 15)
    (hl : s.boot.noLink = true ∨ s.fld Fld.LNK_STATUS_STATE = 5) :
    exec .startCompletion s = .next s.completed.rewriteDirectory.tidyJournal :=
  congrArg Host.Outcome.next (if_pos ⟨hs, hl.imp_right (fun h => beq_iff_eq.mpr h), hr⟩)

/-- Two states agree on memory, queues, fuses and domains. -/
def State.sameBlocks (s t : State) : Prop := t.store = s.store ∧ t.queues = s.queues ∧ t.fuses = s.fuses ∧ t.domains = s.domains

/-- What the rewrite of the directory leaves and shows: PREF_SLOT of BOOT_STATUS alone of the registers, and no record or event is
lost (R65). -/
structure State.DirectoryRewritten (s t : State) : Prop where
  frame : s.regsBut t [Reg.BOOT_STATUS]
  fields : ∀ f : Fld, f.addr ≠ Reg.BOOT_STATUS ∨ f.hi < Fld.BOOT_STATUS_PREF_SLOT.lo ∨ Fld.BOOT_STATUS_PREF_SLOT.hi < f.lo → t.fld f = s.fld f
  pref : s.boot.dir.isSome = true → t.fld Fld.BOOT_STATUS_PREF_SLOT = s.fld Fld.BOOT_STATUS_SLOT
  owes : ∀ r, s.owesRecord r → t.owesRecord r
  raised : ∀ e ∈ s.raise, e ∈ t.raise
  blocks : s.sameBlocks t

theorem State.rewriteDirectory_rewrites (hr : s.raiseRoom 1) : s.DirectoryRewritten s.rewriteDirectory := by
  unfold State.rewriteDirectory
  generalize nextDirectory = next
  split
  · next d hd =>
    extract_lets slot at' erased boot u v
    split_ifs with he
    · exact ⟨State.regsBut.refl _ _, fun _ _ => rfl, fun _ => he.symm, fun _ h => h, fun _ h => h, rfl, rfl, rfl, rfl⟩
    · have hregs : u.regs = s.regs := rfl
      have hraise : u.raise = s.raise := rfl
      have hblocks : s.sameBlocks u := ⟨rfl, rfl, rfl, rfl⟩
      have howes : ∀ r, s.owesRecord r → u.owesRecord r := fun _ h => h
      clear_value u
      obtain ⟨hstore, hqueues, hfuses, hdomains⟩ := hblocks
      let w := u.setFld Fld.BOOT_STATUS_PREF_SLOT slot
      have room : v.raiseRoom 1 := hr.congr ((State.journalPut_domains w _).trans hdomains) ((State.journalPut_raise w _).trans hraise)
      have frame : s.regsBut w [Reg.BOOT_STATUS] := (State.regsBut.of_regs hregs _).setFld _ (by simp)
      have slotFits : slot < 2 := s.fld_lt Fld.BOOT_STATUS_SLOT
      rw [State.event_raiseRoom room Nat.one_pos]
      refine ⟨frame.congr (State.journalPut_regs w _), fun f hf => ?_, fun _ => ?_, fun r h => ?_, fun e h => ?_, ?_⟩
      · rw [State.fld_beside, State.fld_journalPut, State.fld_setFld_ne _ _ _ _ (by decide) hf]
        exact State.fld_congr (by simp only [State.rd, hregs])
      · rw [State.fld_beside, State.fld_journalPut, State.fld_setFld_same _ _ _ (by decide) slotFits]
      · exact State.owesRecord.journalPut (s := w) (howes r h) _
      · exact List.mem_append_left _ (((State.journalPut_raise w _).trans hraise).symm ▸ h)
      · exact ⟨(State.journalPut_store w _).trans hstore, (State.journalPut_queues w _).trans hqueues,
          (State.journalPut_fuses w _).trans hfuses, (State.journalPut_domains w _).trans hdomains⟩
  · next hd =>
    exact ⟨State.regsBut.refl _ _, fun _ _ => rfl, fun h => by simp [hd] at h, fun _ h => h, fun _ h => h, rfl, rfl, rfl, rfl⟩

theorem State.tidyJournal_boot (s : State) : ∃ e, s.tidyJournal = { s with boot := { s.boot with erasing := e } } := by
  unfold State.tidyJournal
  split
  · split_ifs
    · exact ⟨true, rfl⟩
    · exact ⟨s.boot.erasing, rfl⟩
  · exact ⟨s.boot.erasing, rfl⟩

theorem State.startsSections (fb : BitVec 64) (hr : s.startRuns = true) (hs : s.fld Fld.BOOT_STATUS_STEP = 10) :
    exec (.startSectionLoad fb) s = .next s.sectionStep :=
  congrArg Host.Outcome.next ((if_neg (by simp [hr])).trans ((if_neg (by omega)).trans (if_pos hs)))

/-- An unknown section is skipped (R49). -/
theorem State.loadSection_unknown {c : Section} (h : knownSection c.stype = false) : s.loadSection c = (s, none) := by
  unfold State.loadSection
  simp only [h, Bool.not_false, if_true]

/-- A section whose digest differs loads nothing (R51). -/
theorem State.loadSection_digest {c : Section} (h : knownSection c.stype = true) (hl : loadOk c s.regionsNow = true)
    (hd : sha512 (s.sectionBytes s.slotPart c) ≠ c.digest) : s.loadSection c = (s, some 8) := by
  simp only [State.loadSection]
  rw [if_neg (by simp [h]), if_neg (by simp [hl]), if_pos hd]

/-- A failed attempt owes its FAIL record. -/
theorem State.failAttempt_owes (s : State) (cause detail : Nat) : (s.failAttempt cause detail).owesRecord
    ⟨2, s.fld Fld.BOOT_ATTEMPTS_COUNT, cause, s.fld Fld.BOOT_STATUS_STEP, detail, .restart, []⟩ := State.owesRecord_journalPut _ _

/-- Settles O9: the two outcomes of a section of step 10, and completion. -/
theorem aStartCompletes : Obligations.AStartCompletes := by
  intro fb j js s
  refine ⟨fun hr hs hj hne hu => ?_, fun hr hs hj hk hl hd => ?_, fun hr hs hl hroom => ?_⟩
  · rw [State.startsSections fb hr hs, State.sectionStep, hj]
    simp only [State.loadSection_unknown hu, hne, if_false]
  · refine ⟨_, State.startsSections fb hr hs, ?_⟩
    rw [State.sectionStep, hj]
    simp only [State.loadSection_digest hk hl hd]
    refine ⟨State.journalPut_boot _ _, ?_⟩
    have owed := s.failAttempt_owes 8 j
    rwa [hs] at owed
  · let u := ((s.setFld Fld.BOOT_ATTEMPTS_COUNT 0).setFld Fld.BOOT_STATUS_COMPLETE 1).setFld Fld.BOOT_STATUS_STEP 16
    let v := u.journalPut ⟨3, 0, 0, 15, 0, .goOn, []⟩
    have room : v.raiseRoom 2 := hroom.congr (State.journalPut_domains u _) (State.journalPut_raise u _)
    have slot : v.fld Fld.BOOT_STATUS_SLOT = s.fld Fld.BOOT_STATUS_SLOT := by
      simp (disch := decide) only [v, u, State.fld_journalPut, State.fld_setFld_ne]
    let x : State := { v with raise := v.raise ++ [v.occurrence 0x02 (v.fld Fld.BOOT_STATUS_SLOT)] }
    have raised : s.completed = x := State.event_raiseRoom room Nat.two_pos _ _
    have roomLeft : x.raiseRoom 1 := by
      refine ⟨room.1, ?_⟩
      have := room.2
      simp only [x, List.length_append, List.length_singleton]
      omega
    obtain ⟨frame, fields, pref, owes, events, store, queues, fuses, domains⟩ := State.rewriteDirectory_rewrites roomLeft
    obtain ⟨e, tidy⟩ := x.rewriteDirectory.tidyJournal_boot
    have run := exec_startCompletion hr hs hl
    rw [raised, tidy] at run
    have loads : s.regsBut x [Reg.BOOT_STATUS, Reg.BOOT_ATTEMPTS] := by
      refine State.regsBut.congr (t := v) (State.regsBut.journalPut (t := u) ?_ _) rfl
      exact (((State.regsBut.refl s _).setFld _ (by simp)).setFld _ (by simp)).setFld _ (by simp)
    have shown : ∀ f : Fld, f.addr ≠ Reg.BOOT_STATUS ∨ f.hi < Fld.BOOT_STATUS_PREF_SLOT.lo ∨ Fld.BOOT_STATUS_PREF_SLOT.hi < f.lo →
        x.rewriteDirectory.fld f = u.fld f := fun f hf => (fields f hf).trans (State.fld_journalPut u _ f)
    refine ⟨_, run, ?_, ?_, ?_, ?_, ?_, fun h => ?_, ?_, ?_, ?_, ?_, ?_⟩
    · rw [State.on_beside, State.on, shown _ (by decide)]
      simp (disch := decide) [u, State.fld_setFld_same, State.fld_setFld_ne]
    · rw [State.fld_beside, shown _ (by decide)]
      simp (disch := decide) [u, State.fld_setFld_same, State.fld_setFld_ne]
    · rw [State.fld_beside, shown _ (by decide)]
      simp (disch := decide) [u, State.fld_setFld_same]
    · refine events _ (List.mem_append_right _ ?_)
      rw [slot, List.mem_singleton, State.occurrence, State.occurrence, State.journalPut_air]
      rfl
    · exact owes _ (State.owesRecord_journalPut u _)
    · obtain ⟨w, ws, e', hb⟩ := u.journalPut_fields ⟨3, 0, 0, 15, 0, .goOn, []⟩
      rw [State.fld_beside, pref ((congrArg (·.dir.isSome) hb).trans h)]
      exact slot
    · exact store.trans (State.journalPut_store u _)
    · exact queues.trans (State.journalPut_queues u _)
    · exact fuses.trans (State.journalPut_fuses u _)
    · exact domains.trans (State.journalPut_domains u _)
    · exact (loads.trans (frame.mono (by simp))).congr rfl

end Sys2Proof.Machine

/-!
PROOFS. Proctor's services and the long operations on the flash: register windows, PROC_CMD, LOP6, LOP7 and LOP8 (O12 to O16).
-/

namespace Sys2Proof.Machine

variable {s t : State} {as : List Nat} {q : Requester} {d : Word}

/-! ### Register windows -/

theorem bytesToWords_cons (a b c e : Byte) (bs : List Byte) :
    bytesToWords (a :: b :: c :: e :: bs) = BitVec.ofNat 32 (leNat [a, b, c, e]) :: bytesToWords bs := rfl

/-- Four bytes are the bytes of the word that they spell. -/
theorem leBytes_leNat (a b c e : Byte) : leBytes 4 (BitVec.ofNat 32 (leNat [a, b, c, e])).toNat = [a, b, c, e] := by
  have ha := a.isLt
  have hb := b.isLt
  have hc := c.isLt
  have he := e.isLt
  simp only [BitVec.toNat_ofNat, leNat, leBytes, List.cons.injEq, and_true]
  refine ⟨?_, ?_, ?_, ?_⟩ <;> exact BitVec.eq_of_toNat_eq (by simp only [BitVec.toNat_ofNat]; omega)

/-- A window loaded with words changes no register but its own. -/
theorem State.rd_loadWords_out (ws : List Word) (k : Nat) (s : State) (a : Nat) {b : Nat}
    (h : ∀ i < ws.length, b ≠ a + 4 * (k + i)) : ((ws.zipIdx k).foldl (fun s p => s.wr (a + 4 * p.2) p.1) s).rd b = s.rd b := by
  induction ws generalizing k s with
  | nil => rfl
  | cons w ws ih =>
    rw [List.zipIdx_cons, List.foldl_cons,
      ih _ _ (fun i hi => by have := h (i + 1) (Nat.succ_lt_succ hi); omega)]
    exact State.rd_wr_ne _ _ (by simpa using h 0 (Nat.succ_pos _))

theorem State.loadBytes_beside (s : State) (a : Nat) (bs : List Byte) : s.loadBytes a bs = { s with regs := (s.loadBytes a bs).regs } := by
  unfold State.loadBytes
  generalize (bytesToWords bs).zipIdx = l
  induction l generalizing s with
  | nil => rfl
  | cons p l ih =>
    rw [List.foldl_cons, ih]
    rfl

theorem State.rd_loadWords_in (ws : List Word) (k : Nat) (s : State) (a : Nat) {i : Nat} (h : i < ws.length) :
    ((ws.zipIdx k).foldl (fun s p => s.wr (a + 4 * p.2) p.1) s).rd (a + 4 * (k + i)) = ws[i] := by
  induction ws generalizing k s i with
  | nil => simp at h
  | cons w ws ih =>
    rw [List.zipIdx_cons, List.foldl_cons]
    cases i with
    | zero =>
      rw [State.rd_loadWords_out _ _ _ _ (fun _ _ => by omega)]
      exact State.rd_wr_same _ _ _
    | succ i =>
      rw [show k + (i + 1) = k + 1 + i by omega, ih _ _ (by simpa using h)]
      rfl

/-- Whole words: four bytes to each, and their bytes are the list again. -/
theorem bytesToWords_whole : ∀ (m : Nat) (bs : List Byte), bs.length = 4 * m →
    (bytesToWords bs).length = m ∧ (bytesToWords bs).flatMap (fun w => leBytes 4 w.toNat) = bs
  | 0, bs, h => by
    obtain rfl := List.eq_nil_of_length_eq_zero h
    exact ⟨rfl, rfl⟩
  | m + 1, a :: b :: c :: e :: bs, h => by
    obtain ⟨len, bytes⟩ := bytesToWords_whole m bs (by simp at h; omega)
    rw [bytesToWords_cons, List.length_cons, List.flatMap_cons, len, bytes, leBytes_leNat]
    exact ⟨rfl, rfl⟩
  | m + 1, [], h => by simp at h
  | m + 1, [_], h => by simp at h; omega
  | m + 1, [_, _], h => by simp at h; omega
  | m + 1, [_, _, _], h => by simp at h; omega

/-- A window loaded with whole words reads as the bytes loaded. -/
theorem State.regBytes_loadBytes (s : State) (a : Nat) (bs : List Byte) {m : Nat} (h : bs.length = 4 * m) :
    (s.loadBytes a bs).regBytes a bs.length = bs := by
  obtain ⟨len, bytes⟩ := bytesToWords_whole m bs h
  have words : (List.range m).map (fun i => (s.loadBytes a bs).rd (a + 4 * i)) = bytesToWords bs := by
    refine List.ext_getElem (by simp [len]) fun i hi hj => ?_
    have at' := State.rd_loadWords_in (bytesToWords bs) 0 s a hj
    rw [Nat.zero_add] at at'
    rw [List.getElem_map, List.getElem_range]
    exact at'
  rw [State.regBytes, show (bs.length + 3) / 4 = m by omega,
    ← List.flatMap_map (fun i => (s.loadBytes a bs).rd (a + 4 * i)) (fun w : Word => leBytes 4 w.toNat), words, bytes]
  exact List.take_length

/-- Loading a window leaves every other register. -/
theorem State.rd_loadBytes_out (s : State) (a : Nat) (bs : List Byte) {m b : Nat} (hl : bs.length = 4 * m) (h : ∀ i < m, b ≠ a + 4 * i) :
    (s.loadBytes a bs).rd b = s.rd b :=
  State.rd_loadWords_out _ _ _ _ (fun i hi => by
    rw [(bytesToWords_whole m bs hl).1] at hi
    simpa using h i hi)

theorem State.regsBut.loadBytes (h : s.regsBut t as) (a : Nat) (bs : List Byte) {m : Nat} (hl : bs.length = 4 * m)
    (ha : ∀ i < m, a + 4 * i ∈ as) : s.regsBut (t.loadBytes a bs) as := fun b hb =>
  (t.rd_loadBytes_out a bs hl (fun i hi e => hb (by rw [e]; exact ha i hi))).trans (h b hb)

/-- A window loaded with zeros reads 0. -/
theorem State.rd_loadBytes_zeros (s : State) (a : Nat) {m i : Nat} (h : i < m) :
    (s.loadBytes a (List.replicate (4 * m) 0#8)).rd (a + 4 * i) = 0 := by
  have zeros : ∀ m, bytesToWords (List.replicate (4 * m) 0#8) = List.replicate m 0#32 := by
    intro m
    induction m with
    | zero => rfl
    | succ m ih => simp only [Nat.mul_succ, List.replicate_succ, bytesToWords_cons, ih]; rfl
  have at' := State.rd_loadWords_in (bytesToWords (List.replicate (4 * m) 0#8)) 0 s a (i := i) (by simpa [zeros] using h)
  rw [Nat.zero_add] at at'
  refine at'.trans ?_
  simp [zeros]

/-- A window's bytes are told by its registers. -/
theorem State.regBytes_congr {a n : Nat} (h : ∀ i, i < (n + 3) / 4 → t.rd (a + 4 * i) = s.rd (a + 4 * i)) :
    t.regBytes a n = s.regBytes a n := by
  unfold State.regBytes
  rw [List.flatMap_congr fun i hi => by rw [h i (List.mem_range.mp hi)]]

/-! ### Proctor's commands (R75) -/

/-- The states of the owner slots, the signer's key and a token's RESULT are told by the fuses alone. -/
theorem State.signerDigest_congr (hf : t.fuses = s.fuses) (n : Nat) : t.signerDigest n = s.signerDigest n :=
  calc t.signerDigest n = State.signerDigest { s with fuses := t.fuses } n := rfl
    _ = s.signerDigest n := by rw [hf]

theorem State.provResult_congr (hf : t.fuses = s.fuses) (x : List Byte) : t.provResult x = s.provResult x :=
  calc t.provResult x = State.provResult { s with fuses := t.fuses } x := rfl
    _ = s.provResult x := by rw [hf]

/-- What a command will do is told by the fuses, the start's state, and the registers of token, start and the debug level. -/
theorem State.planCmd_congr (op : Nat) (hf : t.fuses = s.fuses) (hb : t.boot = s.boot)
    (hr : s.regsBut t [Reg.PROC_CMD, Reg.PROC_CMD_STATUS]) : t.planCmd op = s.planCmd op := by
  have token : t.token = s.token := State.regBytes_congr fun i _ => hr _ (notMem_of_lt 0x20010 (by decide) (le_trans (by decide) (Nat.le_add_right _ _)))
  have challenge : t.regBytes (Reg.PROC_DBG_CHAL 0) 32 = s.regBytes (Reg.PROC_DBG_CHAL 0) 32 :=
    State.regBytes_congr fun i _ => hr _ (notMem_of_lt 0x20010 (by decide) (le_trans (by decide) (Nat.le_add_right _ _)))
  have on : ∀ f : Fld, f.addr ∉ [Reg.PROC_CMD, Reg.PROC_CMD_STATUS] → t.on f = s.on f := fun f hf => by
    rw [State.on, State.on, hr.fld f hf]
  have submit : t.submitResult = s.submitResult := by
    funext x
    have serial : t.serial = s.serial := by simp only [State.serial, State.fuseBytes, hf]
    unfold State.submitResult
    rw [on Fld.PROC_DBG_STATUS_LOCKOUT (by decide), on Fld.PROC_DBG_STATUS_CHAL_VALID (by decide), challenge, serial,
      funext (State.signerDigest_congr hf), show t.fuse = s.fuse from congrArg (fun m w => SMap.get 0 m w) hf]
  have bits : t.rbBits = s.rbBits :=
    calc t.rbBits = State.rbBits { s with fuses := t.fuses } := rfl
      _ = s.rbBits := by rw [hf]
  unfold State.planCmd
  rw [token, submit, funext (State.provResult_congr hf), on Fld.BOOT_STATUS_COMPLETE (by decide), hb, bits]

/-- The data that a command's write carries. -/
theorem procCmdData_of (op : Nat) (d : Word) (h : op < 16) :
    Fld.PROC_CMD_GO.of (procCmdData op d) = 1 ∧ Fld.PROC_CMD_KEY.of (procCmdData op d) = 0x6D ∧
      Fld.PROC_CMD_OP.of (Fld.PROC_CMD_GO.put 0 (procCmdData op d)) = op := by
  refine ⟨?_, ?_, ?_⟩
  · simp (disch := decide) only [procCmdData, Fld.of_put_ne, Fld.of_put_same]
  · simp (disch := decide) only [procCmdData, Fld.of_put_ne, Fld.of_put_same]
  · rw [Fld.of_put_ne _ _ _ _ (by decide) (by decide), procCmdData, Fld.of_put_same _ _ _ (by decide) h]

/-- A command's write while another is BUSY. -/
theorem State.procCmdWrite_busy (op : Nat) (h : op < 16) (hb : s.on Fld.PROC_CMD_STATUS_BUSY = true) :
    s.procCmdWrite (procCmdData op d) = s.setFld Fld.PROC_CMD_STATUS_OVERRUN 1 := by
  obtain ⟨go, key, -⟩ := procCmdData_of op d h
  simp [State.procCmdWrite, go, key, hb]

/-- The state in which an accepted command has set GO and BUSY. -/
def State.cmdAccepted (s : State) (op : Nat) (d : Word) : State :=
  ((s.plainWrite Reg.PROC_CMD (Fld.PROC_CMD_GO.put 0 (procCmdData op d))).setFld Fld.PROC_CMD_GO 1).setFld Fld.PROC_CMD_STATUS_BUSY 1

theorem State.cmdAccepted_regsBut (op : Nat) (d : Word) : s.regsBut (s.cmdAccepted op d) [Reg.PROC_CMD, Reg.PROC_CMD_STATUS] :=
  (((State.regsBut.refl s _).plainWrite _ (by simp)).setFld _ (by simp)).setFld _ (by simp)

/-- A command's write while none is BUSY. -/
theorem State.procCmdWrite_free {op : Nat} (h : op ∈ [1, 2, 3, 4, 5]) (hb : s.on Fld.PROC_CMD_STATUS_BUSY = false) :
    s.procCmdWrite (procCmdData op d) =
      if s.lopState 6 = lopRunning then { s.cmdAccepted op d with sec := { s.sec with waits := some op } }
      else (s.cmdAccepted op d).runCmd op := by
  have ok : op < 16 ∧ op ≠ 0 ∧ Fld.PROC_CMD_OP.accepts op = true := by
    simp only [List.mem_cons, List.not_mem_nil, or_false] at h
    rcases h with rfl | rfl | rfl | rfl | rfl <;> decide
  obtain ⟨go, key, code⟩ := procCmdData_of op d ok.1
  have loaded := s.fld_plainWrite_accepts Fld.PROC_CMD_OP code ok.2.2
  have lop : (s.cmdAccepted op d).lopState 6 = s.lopState 6 := State.regsBut.fld (State.cmdAccepted_regsBut op d) _ (by decide)
  simp only [State.procCmdWrite, go, key, hb, loaded]
  rw [if_neg (by simp), if_pos (by simpa using ok.2.1)]
  exact if_congr (by rw [← lop, State.cmdAccepted]) rfl rfl

/-- Settles O14: the write's three cases, for the five operations alike. -/
theorem proctorServesOneCommandAtATime : Obligations.ProctorServesOneCommandAtATime := by
  intro q d s c op hc hp
  obtain ⟨he, hop⟩ : exec c s = .next (s.access q Reg.PROC_CMD (fun s => s.procCmdWrite (procCmdData op d))) ∧ op ∈ [1, 2, 3, 4, 5] := by
    rcases hc with ⟨rfl, rfl⟩ | ⟨rfl, rfl⟩ | ⟨rfl, rfl⟩ | ⟨rfl, rfl⟩ | ⟨rfl, rfl⟩ <;> exact ⟨rfl, by decide⟩
  have small : op < 16 := by
    simp only [List.mem_cons, List.not_mem_nil, or_false] at hop
    omega
  have frame : s.regsBut (s.cmdAccepted op d) _ := State.cmdAccepted_regsBut op d
  have busy : (s.cmdAccepted op d).on Fld.PROC_CMD_STATUS_BUSY = true := by
    simp (disch := decide) [State.cmdAccepted, State.on, State.fld_setFld_same]
  refine ⟨fun hb => ⟨_, exec_access hp he, ?_⟩, fun hb hl => ⟨_, exec_access hp he, ?_⟩, fun hb hl => ⟨_, exec_access hp he, ?_⟩⟩
  · rw [State.procCmdWrite_busy op small hb]
    exact ⟨by simp (disch := decide) [State.on, State.fld_setFld_same], rfl, (State.regsBut.refl s _).setFld _ (by simp)⟩
  · rw [State.procCmdWrite_free hop hb, if_neg hl]
    refine ⟨?_, busy, ?_, frame.congr rfl⟩
    · simp (disch := decide) [State.runCmd, State.cmdAccepted, State.on, State.fld_setFld_same, State.fld_setFld_ne]
    · rw [State.runCmd, State.planCmd_congr (s := s) (t := s.cmdAccepted op d) op rfl rfl frame]
      rfl
  · rw [State.procCmdWrite_free hop hb, if_pos hl]
    exact ⟨busy, rfl, frame.congr rfl⟩

/-! ### The end of a command (R83, R89, R91) -/

/-- Fuse bits blown one after the other: each word has the bits of its own entries more. -/
theorem State.fuse_blowAll (fs : List (Nat × Word)) (s : State) (w : Nat) :
    (fs.foldl (fun s f => s.blow f.1 f.2) s).fuse w = (fs.filter (fun f => f.1 == w)).foldl (fun v f => v ||| f.2) (s.fuse w) := by
  induction fs generalizing s with
  | nil => rfl
  | cons f fs ih =>
    rw [List.foldl_cons, ih, State.fuse_blow]
    by_cases h : f.1 = w
    · rw [if_pos h.symm, List.filter_cons_of_pos (by simpa using h), List.foldl_cons, h]
    · rw [if_neg (Ne.symm h), List.filter_cons_of_neg (by simpa using h)]

/-- Bits that are set stay set when others are put over them. -/
theorem or_and_of_and {v x : Word} (h : v &&& x = x) (g : Word) : (v ||| g) &&& x = x := by
  refine BitVec.eq_of_getLsbD_eq fun i _ => ?_
  have hi := congrArg (fun z : Word => z.getLsbD i) h
  simp only [BitVec.getLsbD_and, BitVec.getLsbD_or] at hi ⊢
  cases hx : x.getLsbD i <;> simp_all

/-- Words put over one another keep each one's bits. -/
theorem foldl_or_covers (fs : List (Nat × Word)) {f : Nat × Word} (hf : f ∈ fs) (v : Word) :
    fs.foldl (fun v f => v ||| f.2) v &&& f.2 = f.2 := by
  have grows : ∀ (fs : List (Nat × Word)) (v : Word), v &&& f.2 = f.2 → fs.foldl (fun v f => v ||| f.2) v &&& f.2 = f.2 := by
    intro fs
    induction fs with
    | nil => exact fun _ h => h
    | cons g fs ih => exact fun v h => ih _ (or_and_of_and h g.2)
  induction fs generalizing v with
  | nil => cases hf
  | cons g fs ih =>
    rcases List.mem_cons.mp hf with rfl | hf
    · refine grows fs (v ||| f.2) ?_
      rw [BitVec.or_comm]
      exact or_and_of_and BitVec.and_self v
    · exact ih hf _

theorem State.fuse_programFuses (s : State) (c : ProcCmd) (w : Nat) :
    (s.programFuses c none).fuse w = (c.fuses.filter (fun f => f.1 == w)).foldl (fun v f => v ||| f.2) (s.fuse w) :=
  State.fuse_blowAll c.fuses s w

/-- Fuses that blow as they should read back as programmed. -/
theorem State.readsBack_programFuses (s : State) (c : ProcCmd) : (s.programFuses c none).readsBack c = true := by
  simp only [State.readsBack, List.all_eq_true, beq_iff_eq]
  intro f hf
  rw [State.fuse_programFuses]
  exact foldl_or_covers _ (List.mem_filter.mpr ⟨hf, by simp⟩) _

/-- Programming blows fuses, and senses them. -/
theorem State.programFuses_sensed (s : State) (c : ProcCmd) : ∃ m, s.programFuses c none = State.senseFuses { s with fuses := m } := by
  have blown : ∀ (fs : List (Nat × Word)) (s : State), fs.foldl (fun s f => s.blow f.1 f.2) s =
      { s with fuses := (fs.foldl (fun s f => s.blow f.1 f.2) s).fuses } := by
    intro fs
    induction fs with
    | nil => exact fun _ => rfl
    | cons f fs ih => exact fun s => (ih _).trans rfl
  exact ⟨_, congrArg State.senseFuses (blown c.fuses s)⟩

theorem State.programFuses_beside (s : State) (c : ProcCmd) :
    s.programFuses c none = { s with regs := (s.programFuses c none).regs, fuses := (s.programFuses c none).fuses } := by
  obtain ⟨m, h⟩ := s.programFuses_sensed c
  rw [h]
  rfl

theorem State.programFuses_regsBut (s : State) (c : ProcCmd) : s.regsBut (s.programFuses c none) [Reg.PROC_STATUS] := by
  obtain ⟨m, h⟩ := s.programFuses_sensed c
  rw [h]
  exact ((((State.regsBut.refl s _).congr rfl : s.regsBut { s with fuses := m } _).setFld _ (by simp)).setFld _ (by simp)).setFld _ (by simp)

theorem leBytes_length (n v : Nat) : (leBytes n v).length = n := by
  induction n generalizing v with
  | zero => rfl
  | succ n ih => rw [leBytes, List.length_cons, ih]

/-- What the end of a command does by its operation, after the fuses. -/
def State.cmdOutcome (s : State) (c : ProcCmd) : State :=
  match c.op with
  | 3 => ((s.loadBytes (Reg.PROC_DBG_CHAL 0) (leBytes 32 (Config.challenge s.fresh).toNat)).useFresh).setFld
      Fld.PROC_DBG_STATUS_CHAL_VALID 1
  | 4 => s.submitEnd c
  | 5 => s.setFld Fld.PROC_STATUS_DBG_LEVEL 0
  | _ => s

/-- The registers that a command's outcome may show in. -/
def outcomeRegs : List Nat := [Reg.PROC_STATUS, Reg.PROC_DBG_STATUS] ++ (List.range 8).map Reg.PROC_DBG_CHAL

theorem State.closeChallenge_beside (s : State) : s.closeChallenge = { s with regs := s.closeChallenge.regs } := by
  unfold State.closeChallenge
  rw [State.loadBytes_beside]
  rfl

theorem State.closeChallenge_regsBut (s : State) :
    s.regsBut s.closeChallenge (Reg.PROC_DBG_STATUS :: (List.range 8).map Reg.PROC_DBG_CHAL) :=
  ((State.regsBut.refl s _).setFld _ List.mem_cons_self).loadBytes _ _ (m := 8) rfl
    fun i hi => List.mem_cons_of_mem _ (List.mem_map.mpr ⟨i, List.mem_range.mpr hi, by simp⟩)

theorem State.fld_closeChallenge (s : State) (f : Fld) (hf : f.addr = Reg.PROC_DBG_STATUS) :
    s.closeChallenge.fld f = (s.setFld Fld.PROC_DBG_STATUS_CHAL_VALID 0).fld f :=
  State.fld_congr (State.rd_loadBytes_out _ _ _ (m := 8) rfl fun i _ => by
    rw [hf]
    exact ne_of_lt (Nat.lt_of_lt_of_le (by decide) (Nat.le_add_right _ _)))

/-- A closed challenge is no longer valid. -/
theorem State.closeChallenge_valid (s : State) : s.closeChallenge.fld Fld.PROC_DBG_STATUS_CHAL_VALID = 0 :=
  (s.fld_closeChallenge _ rfl).trans (State.fld_setFld_same _ _ _ (by decide) (by decide))

theorem State.submitEnd_beside (s : State) (c : ProcCmd) : ∃ k, s.submitEnd c =
    { s with regs := (s.submitEnd c).regs, sec := { s.sec with keySpent := k } } := by
  unfold State.submitEnd
  rw [State.closeChallenge_beside]
  extract_lets u v
  split_ifs
  · exact ⟨_, rfl⟩
  · exact ⟨_, rfl⟩
  · exact ⟨_, rfl⟩

theorem State.submitEnd_regsBut (s : State) (c : ProcCmd) : s.regsBut (s.submitEnd c) outcomeRegs := by
  have closed : s.regsBut s.closeChallenge outcomeRegs := s.closeChallenge_regsBut.mono fun a ha => List.mem_cons_of_mem _ ha
  unfold State.submitEnd
  generalize s.closeChallenge = u at closed ⊢
  extract_lets v
  split_ifs
  · exact State.regsBut.setFld (State.regsBut.congr closed rfl) _ (by simp [outcomeRegs])
  · exact (closed.count _ (by simp [outcomeRegs])).setFld _ (by simp [outcomeRegs])
  · exact closed.count _ (by simp [outcomeRegs])

/-- A debug token that is accepted grants its level; one that is refused is counted, and the eighth locks out (R91). -/
theorem State.submitEnd_fields (s : State) (c : ProcCmd) :
    (s.submitEnd c).on Fld.PROC_DBG_STATUS_CHAL_VALID = false ∧
      (c.result = 0 → c.level < 4 → (s.submitEnd c).fld Fld.PROC_STATUS_DBG_LEVEL = c.level) ∧
      (c.result ≠ 0 → (s.submitEnd c).fld Fld.PROC_DBG_STATUS_FAIL_COUNT = min 255 (s.fld Fld.PROC_DBG_STATUS_FAIL_COUNT + 1) ∧
        (7 ≤ s.fld Fld.PROC_DBG_STATUS_FAIL_COUNT → (s.submitEnd c).on Fld.PROC_DBG_STATUS_LOCKOUT = true)) := by
  have valid := s.closeChallenge_valid
  have fails : s.closeChallenge.fld Fld.PROC_DBG_STATUS_FAIL_COUNT = s.fld Fld.PROC_DBG_STATUS_FAIL_COUNT :=
    (s.fld_closeChallenge _ rfl).trans (State.fld_setFld_ne _ _ _ _ (by decide) (by decide))
  unfold State.submitEnd
  generalize s.closeChallenge = u at valid fails ⊢
  have count : (u.count Fld.PROC_DBG_STATUS_FAIL_COUNT 1).fld Fld.PROC_DBG_STATUS_FAIL_COUNT =
      min 255 (s.fld Fld.PROC_DBG_STATUS_FAIL_COUNT + 1) := by
    rw [State.fld_count_same _ _ _ (by decide), fails]
    rfl
  by_cases hr : c.result = 0
  · simp (disch := decide) only [hr, if_true]
    refine ⟨?_, fun _ hl => ?_, fun h => absurd rfl h⟩
    · simp (disch := decide) [State.on, State.fld_setFld_ne, valid]
    · exact State.fld_setFld_same _ _ _ (by decide) hl
  · simp only [hr, if_false]
    split_ifs with h8
    · refine ⟨?_, fun h => absurd h id, fun _ => ⟨?_, fun _ => ?_⟩⟩
      · simp (disch := decide) [State.on, State.fld_setFld_ne, State.fld_count_ne, valid]
      · rw [State.fld_setFld_ne _ _ _ _ (by decide) (by decide), count]
      · simp (disch := decide) [State.on, State.fld_setFld_same]
    · refine ⟨?_, fun h => absurd h id, fun _ => ⟨count, fun h7 => ?_⟩⟩
      · simp (disch := decide) [State.on, State.fld_count_ne, valid]
      · rw [count] at h8
        omega

theorem State.cmdOutcome_beside (s : State) (c : ProcCmd) : ∃ k n, s.cmdOutcome c =
    { s with regs := (s.cmdOutcome c).regs, sec := { s.sec with keySpent := k }, fresh := n } := by
  unfold State.cmdOutcome
  split
  · generalize leBytes 32 (Config.challenge s.fresh).toNat = bs
    rw [State.loadBytes_beside]
    exact ⟨s.sec.keySpent, s.fresh + 1, rfl⟩
  · obtain ⟨k, h⟩ := s.submitEnd_beside c
    exact ⟨k, s.fresh, h⟩
  · exact ⟨s.sec.keySpent, s.fresh, rfl⟩
  · exact ⟨s.sec.keySpent, s.fresh, rfl⟩

theorem State.cmdOutcome_frame (s : State) (c : ProcCmd) :
    (s.cmdOutcome c).fuses = s.fuses ∧ (s.cmdOutcome c).store = s.store ∧ (s.cmdOutcome c).flash = s.flash ∧
      (s.cmdOutcome c).queues = s.queues ∧ (s.cmdOutcome c).raise = s.raise := by
  obtain ⟨k, n, h⟩ := s.cmdOutcome_beside c
  rw [h]
  exact ⟨rfl, rfl, rfl, rfl, rfl⟩

theorem State.programFuses_frame (s : State) (c : ProcCmd) :
    (s.programFuses c none).store = s.store ∧ (s.programFuses c none).flash = s.flash ∧
      (s.programFuses c none).queues = s.queues ∧ (s.programFuses c none).raise = s.raise ∧ (s.programFuses c none).fresh = s.fresh := by
  rw [s.programFuses_beside c]
  exact ⟨rfl, rfl, rfl, rfl, rfl⟩

/-- A challenge that is drawn stands in its registers. -/
theorem State.cmdOutcome_challenge (s : State) (h : c.op = 3) : (s.cmdOutcome c).on Fld.PROC_DBG_STATUS_CHAL_VALID = true ∧
    (s.cmdOutcome c).regBytes (Reg.PROC_DBG_CHAL 0) 32 = leBytes 32 (Config.challenge s.fresh).toNat := by
  have len := leBytes_length 32 (Config.challenge s.fresh).toNat
  simp only [State.cmdOutcome, h]
  generalize leBytes 32 (Config.challenge s.fresh).toNat = bs at len ⊢
  refine ⟨by simp (disch := decide) [State.on, State.fld_setFld_same], ?_⟩
  have drawn := s.regBytes_loadBytes (Reg.PROC_DBG_CHAL 0) bs (m := 8) len
  rw [len] at drawn
  refine (State.regBytes_congr fun i _ => ?_).trans drawn
  exact State.rd_setFld_ne _ _ _ (ne_of_gt (Nat.lt_of_lt_of_le (by decide) (Nat.le_add_right _ _)))

theorem State.cmdOutcome_regsBut (s : State) (c : ProcCmd) : s.regsBut (s.cmdOutcome c) outcomeRegs := by
  unfold State.cmdOutcome
  split
  · have len := leBytes_length 32 (Config.challenge s.fresh).toNat
    generalize leBytes 32 (Config.challenge s.fresh).toNat = bs at len ⊢
    refine State.regsBut.setFld (State.regsBut.congr (State.regsBut.loadBytes (State.regsBut.refl s _) _ bs (m := 8) len ?_) rfl) _
      (by simp [outcomeRegs])
    exact fun i hi => List.mem_append_right _ (List.mem_map.mpr ⟨i, List.mem_range.mpr hi, by simp⟩)
  · exact s.submitEnd_regsBut c
  · exact (State.regsBut.refl s _).setFld _ (by simp [outcomeRegs])
  · exact State.regsBut.refl s _

/-- The state in which the running command `c` ends. -/
def State.cmdEnded (s : State) (c : ProcCmd) : State :=
  let u := (s.programFuses c none).cmdOutcome c
  ((({ u with sec := { u.sec with running := none } }.setFld Fld.PROC_CMD_GO 0).setFld Fld.PROC_CMD_STATUS_BUSY 0).setFld
    Fld.PROC_CMD_STATUS_RESULT c.result)

theorem State.cmdEnded_regsBut (s : State) (c : ProcCmd) :
    ((s.programFuses c none).cmdOutcome c).regsBut (s.cmdEnded c) [Reg.PROC_CMD, Reg.PROC_CMD_STATUS] := by
  unfold State.cmdEnded
  generalize (s.programFuses c none).cmdOutcome c = u
  exact (((State.regsBut.congr (State.regsBut.refl u _) rfl).setFld _ (by simp)).setFld _ (by simp)).setFld _ (by simp)

theorem exec_procCmdEnd (hl : s.lopState 6 ≠ lopQueued) (hr : s.sec.running = some c) :
    exec (.procCmdEnd none) s = .next (s.cmdEnded c) := by
  let u := (s.programFuses c none).cmdOutcome c
  have frame : s.regsBut u outcomeRegs :=
    ((s.programFuses_regsBut c).mono (by simp [outcomeRegs])).trans (State.cmdOutcome_regsBut _ c)
  have idle : (s.cmdEnded c).lopState 6 ≠ lopQueued := by
    have lop : u.lopState 6 = s.lopState 6 := frame.fld _ (by decide)
    have same : (s.cmdEnded c).lopState 6 = u.lopState 6 := by
      simp (disch := decide) [State.lopState, State.cmdEnded, State.fld_setFld_ne, u]
    rwa [same, lop]
  have run : exec (.procCmdEnd none) s = .next (s.cmdEnded c).kickLop6 := by
    simp only [exec, execProcCmdEnd, hr, State.readsBack_programFuses, if_true]
    rfl
  rw [run, State.kickLop6, if_neg fun h => idle h.1]

/-- Settles O15: the fuses by the words of the plan, the outcome by the operation. -/
theorem aCommandEndBlowsItsFusesOnly : Obligations.ACommandEndBlowsItsFusesOnly := by
  intro c s hl
  refine ⟨fun hr hres => ?_, fun hv => ?_⟩
  · let p := s.programFuses c none
    let u := p.cmdOutcome c
    obtain ⟨fuses, store, flash, queues, raise⟩ := p.cmdOutcome_frame c
    obtain ⟨pstore, pflash, pqueues, praise, fresh⟩ := s.programFuses_frame c
    have ended := s.cmdEnded_regsBut c
    have kept : ∀ f : Fld, f.addr ∉ [Reg.PROC_CMD, Reg.PROC_CMD_STATUS] → (s.cmdEnded c).fld f = u.fld f := fun f hf => ended.fld f hf
    have fails : p.fld Fld.PROC_DBG_STATUS_FAIL_COUNT = s.fld Fld.PROC_DBG_STATUS_FAIL_COUNT :=
      (s.programFuses_regsBut c).fld _ (by decide)
    have submit : c.op = 4 → u = p.submitEnd c := fun h => by simp only [u, State.cmdOutcome, h]
    obtain ⟨closed, granted, refused⟩ := p.submitEnd_fields c
    refine ⟨_, exec_procCmdEnd hl hr, ?_, ?_, State.fld_setFld_same _ _ _ (by decide) hres, rfl, fun w => ?_, fun h => ?_, fun h => ?_,
      fun h h0 h4 => ?_, fun h h0 => ?_, fun h => ?_, ?_, ?_, ?_, ?_⟩
    · simp (disch := decide) [State.cmdEnded, State.on, State.fld_setFld_same, State.fld_setFld_ne]
    · simp (disch := decide) [State.cmdEnded, State.on, State.fld_setFld_same, State.fld_setFld_ne]
    · exact (congrArg (fun m => SMap.get 0 m w) fuses).trans (s.fuse_programFuses c w)
    · obtain ⟨valid, drawn⟩ := p.cmdOutcome_challenge h
      rw [State.on, kept _ (by decide), ← State.on, valid, ← fresh]
      refine ⟨rfl, (State.regBytes_congr fun i _ => ?_).trans drawn⟩
      exact ended _ (notMem_of_lt 0x20010 (by decide) (le_trans (by decide) (Nat.le_add_right _ _)))
    · rw [State.on, kept _ (by decide), submit h, ← State.on, closed]
    · rw [kept _ (by decide), submit h, granted h0 h4]
    · rw [State.on, kept _ (by decide), kept _ (by decide), submit h, ← State.on]
      rw [fails] at refused
      exact refused h0
    · rw [kept _ (by decide), show u = p.setFld Fld.PROC_STATUS_DBG_LEVEL 0 by simp only [u, State.cmdOutcome, h]]
      exact State.fld_setFld_same _ _ _ (by decide) (by decide)
    · exact store.trans pstore
    · exact flash.trans pflash
    · exact queues.trans pqueues
    · exact raise.trans praise
  · refine ⟨_, congrArg Host.Outcome.next (if_pos hv), ?_, fun i hi => State.rd_loadBytes_zeros _ _ (m := 8) hi, s.closeChallenge_beside,
      s.closeChallenge_regsBut⟩
    rw [State.on_eq_false, s.closeChallenge_valid]

/-! ### Attestation (R75, R87, R88) -/

theorem shaStart_length : shaStart.length = 8 := by decide

theorem shaRounds_length (ws : List (Nat × Nat)) {v : List Nat} (h : v.length = 8) : (ws.foldl shaRound v).length = 8 := by
  induction ws generalizing v with
  | nil => exact h
  | cons w ws ih => exact ih rfl

theorem shaBlocks_length (n : Nat) (bs : List Byte) {h : List Nat} (hl : h.length = 8) : (shaBlocks n h bs).length = 8 := by
  induction n generalizing h bs with
  | zero => exact hl
  | succ n ih => exact ih _ (by simp [shaBlock, hl, shaRounds_length])

/-- A digest has 64 octets. -/
theorem sha512_length (m : List Byte) : (sha512 m).length = 64 := by
  have words (l : List Nat) : (l.flatMap (beBytes 8)).length = 8 * l.length := by
    induction l with
    | nil => rfl
    | cons x l ih => simp [List.flatMap_cons, ih, beBytes, leBytes_length]; omega
  rw [sha512, words, shaBlocks_length _ _ shaStart_length]

/-- The data of an LOP6 GO. -/
theorem attestData_of (d : Word) :
    Fld.PROC_ATT_CTRL_GO.of (Fld.PROC_ATT_CTRL_KEY.put 0x6D (Fld.PROC_ATT_CTRL_GO.put 1 d)) = 1 ∧
      Fld.PROC_ATT_CTRL_KEY.of (Fld.PROC_ATT_CTRL_KEY.put 0x6D (Fld.PROC_ATT_CTRL_GO.put 1 d)) = 0x6D := by
  simp (disch := decide) [Fld.of_put_ne, Fld.of_put_same]

/-- The nonce taken, the report cleared, and the state with which LOP6 is queued. -/
def State.attestTaken (s : State) (d : Word) (unseals : Bool) (report : List Byte) : State :=
  let s := s.plainWrite Reg.PROC_ATT_CTRL (Fld.PROC_ATT_CTRL_GO.put 0 d)
  let s := { s with sec := { s.sec with nonce := s.regBytes (Reg.PROC_ATT_NONCE 0) 64, unseals := unseals } }
  ((s.loadBytes (Reg.PROC_ATT_REPORT 0) report).setFld Fld.PROC_ATT_CTRL_GO 1).lopStart 6 lopQueued 4

theorem State.attCtrlWrite_go (u : Bool) (hg : Fld.PROC_ATT_CTRL_GO.of d = 1 ∧ Fld.PROC_ATT_CTRL_KEY.of d = 0x6D)
    (hb : s.lopBusy 6 = false) : s.attCtrlWrite d u = (s.attestTaken d u (List.replicate 800 0#8)).kickLop6 := by
  unfold State.attCtrlWrite State.attestTaken
  generalize List.replicate 800 0#8 = bs
  simp only [hg, hb, and_self, decide_true, Bool.and_false, Bool.false_eq_true, if_false, if_true]

/-- The registers that the acceptance of an attestation writes. -/
def attestRegs : List Nat := [Reg.PROC_ATT_CTRL, Reg.LOP_STATn 6, Reg.LOP_RESn 6] ++ (List.range 200).map Reg.PROC_ATT_REPORT

theorem attestRegs_front {a : Nat} (h : a ∈ [Reg.PROC_ATT_CTRL, Reg.LOP_STATn 6, Reg.LOP_RESn 6]) : a ∈ attestRegs :=
  List.mem_append_left _ h

theorem attestRegs_report {i : Nat} (h : i < 200) : Reg.PROC_ATT_REPORT i ∈ attestRegs :=
  List.mem_append_right _ (List.mem_map.mpr ⟨i, List.mem_range.mpr h, rfl⟩)

theorem attestRegs_apart {a : Nat} (h : a < 0x20010) : a ∉ attestRegs := by
  simp only [attestRegs, List.mem_append, List.mem_cons, List.mem_map, List.not_mem_nil, or_false, not_or, Reg.PROC_ATT_CTRL, Reg.LOP_STATn,
    Reg.LOP_RESn, not_exists, not_and, Reg.PROC_ATT_REPORT]
  exact ⟨by omega, fun i _ => by omega⟩

section
variable (s : State) (d : Word) (u : Bool) {bs : List Byte}

theorem State.attestTaken_regsBut (hl : bs.length = 4 * 200) : s.regsBut (s.attestTaken d u bs) attestRegs := by
  unfold State.attestTaken
  extract_lets v _ w
  have taken : s.regsBut w attestRegs := State.regsBut.congr (t := v) ((State.regsBut.refl s _).plainWrite _ (attestRegs_front (by simp))) rfl
  have report : s.regsBut (w.loadBytes (Reg.PROC_ATT_REPORT 0) bs) attestRegs :=
    taken.loadBytes _ _ hl fun i hi => by simpa using attestRegs_report hi
  exact State.regsBut.lopStart _ _ _ _ (report.setFld _ (attestRegs_front (by simp))) (attestRegs_front (by simp))

theorem State.attestTaken_beside : s.attestTaken d u bs =
    { s with regs := (s.attestTaken d u bs).regs, sec := { s.sec with nonce := s.regBytes (Reg.PROC_ATT_NONCE 0) 64, unseals := u } } := by
  have nonce : (s.plainWrite Reg.PROC_ATT_CTRL (Fld.PROC_ATT_CTRL_GO.put 0 d)).regBytes (Reg.PROC_ATT_NONCE 0) 64 =
      s.regBytes (Reg.PROC_ATT_NONCE 0) 64 :=
    State.regBytes_congr fun i _ => State.rd_wr_ne _ _ (ne_of_gt (Nat.lt_of_lt_of_le (by decide) (Nat.le_add_right _ _)))
  unfold State.attestTaken
  rw [State.lopStart_beside, nonce, State.loadBytes_beside]
  rfl

/-- The report holds what an accepted attestation loads it with. -/
theorem State.attestTaken_report {i : Nat} {w : Word} (hi : i < 200)
    (hw : ∀ v : State, (v.loadBytes (Reg.PROC_ATT_REPORT 0) bs).rd (Reg.PROC_ATT_REPORT i) = w) :
    (s.attestTaken d u bs).rd (Reg.PROC_ATT_REPORT i) = w := by
  have stays (v : State) : v.regsBut ((v.setFld Fld.PROC_ATT_CTRL_GO 1).lopStart 6 lopQueued 4) [Reg.PROC_ATT_CTRL, Reg.LOP_STATn 6] :=
    State.regsBut.lopStart _ _ _ _ ((State.regsBut.refl _ _).setFld _ (by simp)) (by simp)
  unfold State.attestTaken
  exact (stays _ _ (by simp only [List.mem_cons, List.not_mem_nil, or_false, Reg.PROC_ATT_REPORT, Reg.PROC_ATT_CTRL, Reg.LOP_STATn]; omega)).trans (hw _)

theorem State.attestTaken_on : (s.attestTaken d u bs).on Fld.PROC_ATT_CTRL_GO = true := by
  unfold State.attestTaken
  rw [State.on_iff, State.fld_lopStart_ne _ _ _ _ _ (by decide), State.fld_setFld_same _ _ _ (by decide) (by decide)]
  decide

end

/-- A QUEUED attestation that nothing holds back runs. -/
theorem State.kickLop6_runs (hq : s.lopState 6 = lopQueued) (hb : s.on Fld.PROC_CMD_STATUS_BUSY = false) (hf : s.flashOps = [])
    (hd : s.fld Fld.PROC_STATUS_DBG_LEVEL ≠ 2) (hk : s.sec.keySpent = false) (hu : s.sec.unseals = true) :
    s.kickLop6 = { s with sec := { s.sec with attUnits := 0 } }.lopRun 6 := by
  simp [State.kickLop6, State.runLop6, State.flashHeld, hq, hb, hf, hd, hk, hu]

/-- The report loaded with whole words. -/
theorem State.report_beside (s : State) (k : Nat) (bs : List Byte) : s.report k bs = { s with regs := (s.report k bs).regs } :=
  s.loadBytes_beside _ bs

/-- What unit `n` of LOP6 puts into the report (R88). -/
def State.attestUnit (s : State) : Nat → State
  | 0 => s.reportRun
  | 1 => s.reportAlt
  | 2 => s.report 224 (sha512 (s.fuseBytes 0 256))
  | _ => s.reportSign

/-- Unit `n` of LOP6 is counted, and the last one ends it. -/
def State.attestCounted (s : State) (n : Nat) : State :=
  let s := { s with sec := { s.sec with attUnits := n + 1 } }.lopUnits 6 (n + 1) 4
  if n + 1 < 4 then s
  else
    let s := (s.setFld Fld.PROC_ATT_CTRL_GO 0).lopEnd 6 lopDone 0
    match s.sec.waits with
    | some op => s.runCmd op
    | none => s

theorem exec_lop6UnitEnd (hr : s.lopState 6 = lopRunning) :
    exec .lop6UnitEnd s = .next ((s.attestUnit s.sec.attUnits).attestCounted s.sec.attUnits) := congrArg Host.Outcome.next (if_pos hr)

theorem State.attestUnit_digest (s : State) : s.attestUnit 2 = s.report 224 (sha512 (s.fuseBytes 0 256)) := rfl

theorem State.attestUnit_sign (s : State) : s.attestUnit 3 = s.reportSign := rfl

theorem State.attestCounted_middle {n : Nat} (h : n + 1 < 4) : s.attestCounted n =
    { s with sec := { s.sec with attUnits := n + 1 } }.lopUnits 6 (n + 1) 4 := if_pos h

theorem State.attestCounted_last (hw : s.sec.waits = none) : s.attestCounted 3 =
    ((({ s with sec := { s.sec with attUnits := 4 } }).lopUnits 6 4 4).setFld Fld.PROC_ATT_CTRL_GO 0).lopEnd 6 lopDone 0 := by
  have waits : ((({ s with sec := { s.sec with attUnits := 4 } }.lopUnits 6 4 4).setFld Fld.PROC_ATT_CTRL_GO 0).lopEnd
      6 lopDone 0).sec.waits = none := by
    rw [State.lopEnd, State.event_sec, State.lopUnits_beside]
    exact hw
  unfold State.attestCounted
  rw [if_neg (by decide)]
  simp only [waits]

/-- A signature's bytes in the report: nothing else but registers and the free values used. -/
theorem State.report_signature {bs : List Byte} (s : State) (len : bs.length = 512) :
    (s.report 288 bs).useFresh.regBytes (Reg.PROC_ATT_REPORT 72) 512 = bs ∧ (s.report 288 bs).useFresh.sec = s.sec ∧
      (s.report 288 bs).useFresh.raise = s.raise ∧ (s.report 288 bs).useFresh.domains = s.domains ∧
      (s.report 288 bs).useFresh.air = s.air := by
  have signed := s.regBytes_loadBytes (Reg.PROC_ATT_REPORT 0 + 288) bs (m := 128) len
  rw [len] at signed
  refine ⟨(State.regBytes_congr (s := s.loadBytes (Reg.PROC_ATT_REPORT 0 + 288) bs) fun i _ => rfl).trans signed, ?_⟩
  rw [State.report_beside]
  exact ⟨rfl, rfl, rfl, rfl⟩

theorem State.reportSign_fields (s : State) :
    s.reportSign.regBytes (Reg.PROC_ATT_REPORT 72) 512 = leBytes 512
        (deviceSign (leBytes 64 (Config.salt s.fresh).toNat) (s.regBytes (Reg.PROC_ATT_REPORT 0) 288)) ∧
      s.reportSign.sec = s.sec ∧ s.reportSign.raise = s.raise ∧ s.reportSign.domains = s.domains ∧ s.reportSign.air = s.air := by
  unfold State.reportSign
  exact s.report_signature (leBytes_length _ _)

/-- An accepted attestation that nothing holds back runs, over any `bs` that the report is loaded with. -/
theorem State.attestTaken_runs {bs : List Byte} (len : bs.length = 4 * 200) (hc : s.on Fld.PROC_CMD_STATUS_BUSY = false)
    (hf : s.flashOps = []) (hd : s.fld Fld.PROC_STATUS_DBG_LEVEL ≠ 2) (hk : s.sec.keySpent = false)
    (zeros : ∀ (v : State) (i : Nat), i < 200 → (v.loadBytes (Reg.PROC_ATT_REPORT 0) bs).rd (Reg.PROC_ATT_REPORT i) = 0) :
    let t := (s.attestTaken d true bs).kickLop6
    t.lopState 6 = lopRunning ∧ t.fld (Fld.LOP_STATn_UNITS_TOTAL 6) = 4 ∧ t.on Fld.PROC_ATT_CTRL_GO = true ∧
      (∀ i < 200, t.rd (Reg.PROC_ATT_REPORT i) = 0) ∧
      t = { s with regs := t.regs, sec := { s.sec with nonce := s.regBytes (Reg.PROC_ATT_NONCE 0) 64, attUnits := 0, unseals := true } } ∧
      s.regsBut t attestRegs := by
  intro t
  have frame := s.attestTaken_regsBut d true len
  have beside := s.attestTaken_beside d true (bs := bs)
  have report : ∀ i < 200, (s.attestTaken d true bs).rd (Reg.PROC_ATT_REPORT i) = 0 := fun i hi =>
    s.attestTaken_report d true hi fun v => zeros v i hi
  have go := s.attestTaken_on d true (bs := bs)
  have queued : (s.attestTaken d true bs).lopState 6 = lopQueued := State.lopState_lopStart _ _ _ _ (by decide)
  have total : (s.attestTaken d true bs).fld (Fld.LOP_STATn_UNITS_TOTAL 6) = 4 := State.fld_lopStart_total _ _ _ _ (by decide)
  have ht : t = (s.attestTaken d true bs).kickLop6 := rfl
  clear_value t
  generalize s.attestTaken d true bs = v at frame beside report go queued total ht
  have busy : v.on Fld.PROC_CMD_STATUS_BUSY = false := by
    rw [State.on, frame.fld _ (attestRegs_apart (by decide)), ← State.on, hc]
  have level : v.fld Fld.PROC_STATUS_DBG_LEVEL ≠ 2 := by rwa [frame.fld _ (attestRegs_apart (by decide))]
  rw [State.kickLop6_runs queued busy (by rw [beside]; exact hf) level (by rw [beside]; exact hk) (by rw [beside])] at ht
  subst ht
  refine ⟨State.fld_setFld_same _ _ _ (by decide) (by decide), ?_, ?_, fun i hi => ?_, ?_, ?_⟩
  · simpa (disch := decide) [State.lopRun, State.fld_setFld_ne] using total
  · simpa (disch := decide) [State.lopRun, State.on, State.fld_setFld_ne] using go
  · rw [← report i hi]
    exact State.rd_setFld_ne _ _ _ (by simp only [Reg.PROC_ATT_REPORT, Reg.LOP_STATn]; omega)
  · rw [beside]
    rfl
  · exact (frame.congr rfl).setFld _ (attestRegs_front (by simp))

/-- The digest of the fuses in the report, over any 64 bytes. -/
theorem State.attestUnit_digested {bs : List Byte} (len : bs.length = 64) (hr : s.lopState 6 = lopRunning) :
    let t := (s.report 224 bs).attestCounted 2
    t.regBytes (Reg.PROC_ATT_REPORT 56) 64 = bs ∧ t.fld (Fld.LOP_STATn_UNITS_DONE 6) = 3 ∧ t.lopState 6 = lopRunning ∧
      t = { s with regs := t.regs, sec := { s.sec with attUnits := 3 } } ∧
      s.regsBut t (Reg.LOP_STATn 6 :: (List.range 16).map (fun i => Reg.PROC_ATT_REPORT (56 + i))) := by
  have frame : s.regsBut (s.report 224 bs) ((List.range 16).map (fun i => Reg.PROC_ATT_REPORT (56 + i))) :=
    (State.regsBut.refl s _).loadBytes _ _ (m := 16) len fun i hi =>
      List.mem_map.mpr ⟨i, List.mem_range.mpr hi, by simp only [Reg.PROC_ATT_REPORT]; omega⟩
  have taken := s.regBytes_loadBytes (Reg.PROC_ATT_REPORT 0 + 224) bs (m := 16) len
  rw [len] at taken
  have state : (s.report 224 bs).lopState 6 = lopRunning := by
    rw [State.lopState, frame.fld _ (by decide), ← hr, State.lopState]
  rw [State.attestCounted_middle (by decide)]
  have counted := State.regsBut.lopUnits { s.report 224 bs with sec := { (s.report 224 bs).sec with attUnits := 3 } } 6 3 4
    ((frame.mono fun _ h => List.mem_cons_of_mem _ h).congr rfl) List.mem_cons_self
  have shown := State.regsBut.lopUnits { s.report 224 bs with sec := { (s.report 224 bs).sec with attUnits := 3 } } 6 3 4
    (as := [Reg.LOP_STATn 6]) (State.regsBut.of_regs (s := s.loadBytes (Reg.PROC_ATT_REPORT 0 + 224) bs) rfl _) (by simp)
  refine ⟨?_, State.fld_lopUnits_done _ _ _ _ (by decide) (by decide), ?_, ?_, counted⟩
  · refine (State.regBytes_congr fun i _ => shown _ ?_).trans taken
    simp only [List.mem_singleton, Reg.PROC_ATT_REPORT, Reg.LOP_STATn]
    omega
  · exact (State.fld_lopUnits_ne _ _ _ _ _ (.inr (by decide))).trans state
  · obtain ⟨r, written⟩ : ∃ r, s.report 224 bs = { s with regs := r } := ⟨_, s.report_beside 224 bs⟩
    rw [written]
    exact State.lopUnits_beside _ _ _ _

/-- The last unit of an attestation ends it. -/
theorem State.attestCounted_ends {u : State} (hw : u.sec.waits = none) (hroom : u.raiseRoom 1) :
    let t := u.attestCounted 3
    t.lopState 6 = lopDone ∧ t.on Fld.PROC_ATT_CTRL_GO = false ∧ t.raise = u.raise ++ [u.occurrence 0x06 (6 + 16 * lopDone)] ∧
      u.regsBut t [Reg.PROC_ATT_CTRL, Reg.LOP_STATn 6] := by
  rw [State.attestCounted_last hw]
  have units := State.regsBut.lopUnits { u with sec := { u.sec with attUnits := 4 } } 6 4 4 (u := u)
    (as := [Reg.PROC_ATT_CTRL, Reg.LOP_STATn 6]) (State.regsBut.of_regs rfl _) (by simp)
  have beside := State.lopUnits_beside { u with sec := { u.sec with attUnits := 4 } } 6 4 4
  generalize { u with sec := { u.sec with attUnits := 4 } }.lopUnits 6 4 4 = v at units beside ⊢
  have room : (v.setFld Fld.PROC_ATT_CTRL_GO 0).raiseRoom 1 := hroom.congr (by rw [beside]; rfl) (by rw [beside]; rfl)
  refine ⟨State.lopState_lopEnd _ _ _ _ (by decide) (by decide), ?_, ?_, ?_⟩
  · rw [State.on_eq_false, State.fld_lopEnd_ne _ _ _ _ _ (by decide) (by decide), State.fld_setFld_same _ _ _ (by decide) (by decide)]
  · rw [State.lopEnd_room room (by decide), beside]
    rfl
  · rw [State.lopEnd_room room (by decide)]
    exact (((units.setFld _ (by simp)).setFld _ (by simp)).setFld _ (by simp)).congr rfl

/-- Settles O16: the acceptance by what it takes, the units by their windows of the report. -/
theorem attestationFillsItsReport : Obligations.AttestationFillsItsReport := by
  intro q d u s
  refine ⟨fun hp hb => ?_, fun hp hb hc hf hd hk => ?_, fun hr ha => ?_, fun hr ha hw hroom => ?_⟩
  · have overrun : ∀ d : Word, Fld.PROC_ATT_CTRL_GO.of d = 1 ∧ Fld.PROC_ATT_CTRL_KEY.of d = 0x6D →
        s.attCtrlWrite d u = s.setFld Fld.PROC_ATT_CTRL_OVERRUN 1 := fun d hg => by
      simp only [State.attCtrlWrite, hg, hb, and_self, decide_true, Bool.and_true, if_true]
    refine ⟨_, exec_access hp rfl, ?_⟩
    rw [overrun _ (attestData_of d)]
    exact ⟨by simp (disch := decide) [State.on, State.fld_setFld_same], rfl, (State.regsBut.refl s _).setFld _ (by simp)⟩
  · refine ⟨_, exec_access hp rfl, ?_⟩
    rw [State.attCtrlWrite_go true (attestData_of d) hb]
    have zeros (v : State) (i : Nat) (hi : i < 200) := v.rd_loadBytes_zeros (Reg.PROC_ATT_REPORT 0) (m := 200) hi
    simp only [Reg.PROC_ATT_REPORT, Nat.mul_zero, Nat.add_zero, show 4 * 200 = 800 from rfl] at zeros
    exact State.attestTaken_runs List.length_replicate hc hf hd hk zeros
  · refine ⟨_, exec_lop6UnitEnd hr, ?_⟩
    rw [ha, State.attestUnit_digest]
    exact State.attestUnit_digested (sha512_length _) hr
  · obtain ⟨signed, sec, raise, domains, air⟩ := s.reportSign_fields
    refine ⟨_, exec_lop6UnitEnd hr, ?_⟩
    rw [ha, State.attestUnit_sign]
    obtain ⟨state, go, raised, frame⟩ := State.attestCounted_ends (u := s.reportSign) (by rw [sec, hw]) (hroom.congr domains raise)
    refine ⟨state, go, (State.regBytes_congr fun i _ => frame _ ?_).trans signed, raised.trans ?_⟩
    · simp only [List.mem_cons, List.not_mem_nil, or_false, Reg.PROC_ATT_REPORT, Reg.PROC_ATT_CTRL, Reg.LOP_STATn]
      omega
    · rw [raise, State.occurrence, air]
      rfl

/-! ### Long operations on the flash (R70 to R73) -/

/-- Whether an operation on the flash may run is told by the start's state, the domains and the slot that runs. -/
theorem State.lop7Error_congr (hb : t.boot = s.boot) (hd : t.domains = s.domains)
    (hs : t.fld Fld.BOOT_STATUS_SLOT = s.fld Fld.BOOT_STATUS_SLOT) (f : FlashOp) : t.lop7Error f = s.lop7Error f := by
  unfold State.lop7Error State.flashForbidden State.domOn
  rw [hb, hd, hs]

theorem State.runFlash_runs {rest : List FlashUser} (ho : s.flashOps = .lop7 f :: rest) (hq : s.lopState 7 = lopQueued)
    (he : s.lop7Error f = none) : s.runFlash = s.lopRun 7 := by
  simp only [State.runFlash, State.runFlashN, ho, hq, he, if_true]

theorem State.runFlash_fails {e : Nat} (ho : s.flashOps = [.lop7 f]) (hq : s.lopState 7 = lopQueued) (he : s.lop7Error f = some e) :
    s.runFlash = { (s.setFld Fld.BOOT_FL_CTRL_GO 0).lopEnd 7 lopFailed e with flashOps := [] } := by
  simp only [State.runFlash, State.runFlashN, ho, hq, he, if_true, List.length_singleton]

theorem State.runFlash_verifies {i : Nat} (ho : s.flashOps = [.lop8 i]) (hq : s.lopState 8 = lopQueued) :
    s.runFlash = (s.lopRun 8).lopUnits 8 0 (s.verifyUnits i) := by
  simp only [State.runFlash, State.runFlashN, ho, hq, if_true]

/-- Behind a save every operation waits. -/
theorem State.runFlash_saving {a bs : Nat} {us : List FlashUser} (ho : s.flashOps = .save a bs :: us) : s.runFlash = s := by
  simp only [State.runFlash, State.runFlashN, ho]

theorem State.runFlash_idle (ho : s.flashOps = []) : s.runFlash = s := by
  simp only [State.runFlash, State.runFlashN, ho]

/-- The operation that a write of BOOT_FL_CTRL asks for (R71, R72). -/
def State.flashAsked (s : State) (op : Nat) (d : Word) : FlashOp :=
  ⟨op, Fld.BOOT_FL_CTRL_SRC.of d, (s.rd Reg.BOOT_FL_ADDR).toNat, (s.rd Reg.BOOT_FL_LEN).toNat, (s.rd Reg.BOOT_FL_SRC).toNat, 0⟩

/-- The state in which LOP7 stands queued. -/
def State.flashQueued (s : State) (d : Word) (f : FlashOp) : State :=
  (s.plainWrite Reg.BOOT_FL_CTRL (Fld.BOOT_FL_CTRL_GO.put 0 d)).lopStart 7 lopQueued ((f.len + flashUnit f.op - 1) / flashUnit f.op)

theorem flCtrlData_of (d : Word) {op : Nat} (h : op < 3) : Fld.BOOT_FL_CTRL_GO.of (flCtrlData op d) = 1 ∧
    Fld.BOOT_FL_CTRL_KEY.of (flCtrlData op d) = 0x5C ∧ Fld.BOOT_FL_CTRL_OP.of (Fld.BOOT_FL_CTRL_GO.put 0 (flCtrlData op d)) = op ∧
      Fld.BOOT_FL_CTRL_SRC.of (Fld.BOOT_FL_CTRL_GO.put 0 (flCtrlData op d)) = Fld.BOOT_FL_CTRL_SRC.of d := by
  have hop : op < 2 ^ (Fld.BOOT_FL_CTRL_OP.hi + 1 - Fld.BOOT_FL_CTRL_OP.lo) := lt_of_lt_of_le h (by decide)
  unfold flCtrlData
  refine ⟨?_, ?_, ?_, ?_⟩
  · simp (disch := decide) [Fld.of_put_ne, Fld.of_put_same]
  · simp (disch := decide) [Fld.of_put_ne, Fld.of_put_same]
  · rw [Fld.of_put_ne _ _ _ _ (by decide) (by decide), Fld.of_put_same _ _ _ (by decide) hop]
  · simp (disch := decide) [Fld.of_put_ne]

theorem State.flCtrlWrite_busy (h : Fld.BOOT_FL_CTRL_GO.of d = 1 ∧ Fld.BOOT_FL_CTRL_KEY.of d = 0x5C) (hb : s.lopBusy 7 = true) :
    s.flCtrlWrite d = s.setFld Fld.BOOT_FL_CTRL_OVERRUN 1 := by
  simp only [State.flCtrlWrite, h, hb, and_self, decide_true, Bool.and_true, if_true]

theorem State.flCtrlWrite_go {op : Nat} (h : op < 3) (hb : s.lopBusy 7 = false) :
    let f := s.flashAsked op d
    let u := s.flashQueued (flCtrlData op d) f
    s.flCtrlWrite (flCtrlData op d) = if f.len = 0 then u.lopEnd 7 lopDone 0
      else { u.setFld Fld.BOOT_FL_CTRL_GO 1 with flashOps := s.flashOps ++ [FlashUser.lop7 f] }.runFlash := by
  obtain ⟨go, key, hop, src⟩ := flCtrlData_of d h
  generalize flCtrlData op d = x at go key hop src ⊢
  have fop : (s.plainWrite Reg.BOOT_FL_CTRL (Fld.BOOT_FL_CTRL_GO.put 0 x)).fld Fld.BOOT_FL_CTRL_OP = op :=
    State.fld_plainWrite_accepts s Fld.BOOT_FL_CTRL_OP hop (by interval_cases op <;> decide)
  have fsrc : (s.plainWrite Reg.BOOT_FL_CTRL (Fld.BOOT_FL_CTRL_GO.put 0 x)).fld Fld.BOOT_FL_CTRL_SRC = Fld.BOOT_FL_CTRL_SRC.of d :=
    (State.fld_plainWrite_plain s (f := Fld.BOOT_FL_CTRL_SRC) (by decide) _).trans src
  have ops : (s.flashQueued x (s.flashAsked op d)).flashOps = s.flashOps := by
    rw [State.flashQueued, State.lopStart_beside]
    rfl
  intro f u
  have run : s.flCtrlWrite x = if f.len = 0 then u.lopEnd 7 lopDone 0
      else { u.setFld Fld.BOOT_FL_CTRL_GO 1 with flashOps := u.flashOps ++ [FlashUser.lop7 f] }.runFlash := by
    simp only [State.flCtrlWrite, go, key, hb, and_self, decide_true, Bool.and_false, Bool.false_eq_true, if_false, if_true, fop, fsrc]
    simp (disch := decide) only [State.plainWrite, State.rd_wr_ne]
    rfl
  rw [run, ops]

/-- LOP7 queued behind the flash operations `ops`. -/
def State.flashWaits (s : State) (d : Word) (f : FlashOp) : State :=
  { (s.flashQueued d f).setFld Fld.BOOT_FL_CTRL_GO 1 with flashOps := s.flashOps ++ [FlashUser.lop7 f] }

theorem State.flashQueued_regsBut (s : State) (d : Word) (f : FlashOp) : s.regsBut (s.flashQueued d f) [Reg.BOOT_FL_CTRL, Reg.LOP_STATn 7] :=
  State.regsBut.lopStart _ _ _ _ ((State.regsBut.refl s _).plainWrite _ (by simp)) (by simp)

theorem State.flashQueued_beside (s : State) (d : Word) (f : FlashOp) : s.flashQueued d f = { s with regs := (s.flashQueued d f).regs } :=
  State.lopStart_beside _ _ _ _

/-- What a queued LOP7 shows: QUEUED, no error, no unit done, GO set, and nothing else but the queue of the flash. -/
theorem State.flashWaits_fields (s : State) (d : Word) (f : FlashOp) :
    (s.flashWaits d f).lopState 7 = lopQueued ∧ (s.flashWaits d f).fld (Fld.LOP_STATn_ERR 7) = 0 ∧
      (s.flashWaits d f).fld (Fld.LOP_STATn_UNITS_DONE 7) = 0 ∧ (s.flashWaits d f).on Fld.BOOT_FL_CTRL_GO = true ∧
      (s.flashWaits d f) = { s with regs := (s.flashWaits d f).regs, flashOps := s.flashOps ++ [.lop7 f] } ∧
      s.regsBut (s.flashWaits d f) [Reg.BOOT_FL_CTRL, Reg.LOP_STATn 7] := by
  have state : (s.flashQueued d f).lopState 7 = lopQueued := State.lopState_lopStart _ _ _ _ (by decide)
  have err : (s.flashQueued d f).fld (Fld.LOP_STATn_ERR 7) = 0 := State.fld_lopStart_err _ _ _ _
  have done : (s.flashQueued d f).fld (Fld.LOP_STATn_UNITS_DONE 7) = 0 := State.fld_lopStart_done _ _ _ _
  have beside := s.flashQueued_beside d f
  have frame := s.flashQueued_regsBut d f
  unfold State.flashWaits
  generalize s.flashQueued d f = u at state err done beside frame ⊢
  refine ⟨?_, ?_, ?_, ?_, ?_, (frame.setFld _ (by simp)).congr rfl⟩
  · simpa (disch := decide) [State.lopState, State.fld_setFld_ne] using state
  · simpa (disch := decide) [State.fld_setFld_ne] using err
  · simpa (disch := decide) [State.fld_setFld_ne] using done
  · simp (disch := decide) [State.on, State.fld_setFld_same]
  · rw [beside]
    rfl

theorem State.flCtrlWrite_len {op : Nat} (h : op < 3) (hb : s.lopBusy 7 = false) (hl : (s.flashAsked op d).len ≠ 0) :
    s.flCtrlWrite (flCtrlData op d) = (s.flashWaits (flCtrlData op d) (s.flashAsked op d)).runFlash :=
  (State.flCtrlWrite_go h hb).trans (if_neg hl)

theorem State.flCtrlWrite_empty {op : Nat} (h : op < 3) (hb : s.lopBusy 7 = false) (hl : (s.flashAsked op d).len = 0) :
    s.flCtrlWrite (flCtrlData op d) = (s.flashQueued (flCtrlData op d) (s.flashAsked op d)).lopEnd 7 lopDone 0 :=
  (State.flCtrlWrite_go h hb).trans (if_pos hl)

/-- An operation that ends LOP7: the register of its state, the event, and what was before. -/
theorem State.lop7Ended {u : State} (hr : u.raiseRoom 1) (st err : Nat) (hs : st < 8) (he : err < 32) :
    (u.lopEnd 7 st err).lopState 7 = st ∧ (u.lopEnd 7 st err).fld (Fld.LOP_STATn_ERR 7) = err ∧
      (u.lopEnd 7 st err).fld (Fld.LOP_STATn_UNITS_TOTAL 7) = u.fld (Fld.LOP_STATn_UNITS_TOTAL 7) ∧
      (u.lopEnd 7 st err).raise = u.raise ++ [u.occurrence 0x06 (7 + 16 * st + 256 * err)] ∧
      u.lopEnd 7 st err = { u with regs := (u.lopEnd 7 st err).regs, raise := (u.lopEnd 7 st err).raise } ∧
      u.regsBut (u.lopEnd 7 st err) [Reg.LOP_STATn 7] := by
  refine ⟨State.lopState_lopEnd _ _ _ _ hs (by decide), ?_, ?_, ?_⟩
  · rw [State.fld_lopEnd_err _ _ _ _ (by decide), Nat.mod_eq_of_lt he]
  · simp (disch := decide) [State.lopEnd, State.fld_event, State.fld_setFld_ne]
  · rw [State.lopEnd_room hr (by decide)]
    exact ⟨rfl, rfl, (((State.regsBut.refl u _).setFld _ (by simp)).setFld _ (by simp)).congr rfl⟩

/-- The errors of LOP7 are those of R72. -/
theorem State.lop7Error_lt {e : Nat} (h : s.lop7Error f = some e) : e < 32 := by
  unfold State.lop7Error at h
  extract_lets at h
  split_ifs at h <;> cases h <;> decide

/-- The acceptance of a GO of BOOT_FL_CTRL, by its operation. -/
theorem State.flCtrlWrite_cases (s : State) (d : Word) {op : Nat} (h : op < 3) :
    let f := s.flashAsked op d
    let t := s.flCtrlWrite (flCtrlData op d)
    (s.lopBusy 7 = true → t.on Fld.BOOT_FL_CTRL_OVERRUN = true ∧ s.onlyRegs t [Reg.BOOT_FL_CTRL]) ∧
    (s.lopBusy 7 = false → f.len ≠ 0 → s.lop7Error f = none → s.flashOps = [] →
      t.lopState 7 = lopRunning ∧ t.fld (Fld.LOP_STATn_ERR 7) = 0 ∧
        t.fld (Fld.LOP_STATn_UNITS_DONE 7) = 0 ∧ t.on Fld.BOOT_FL_CTRL_GO = true ∧
        t = { s with regs := t.regs, flashOps := [.lop7 f] } ∧ s.regsBut t [Reg.BOOT_FL_CTRL, Reg.LOP_STATn 7]) ∧
    (s.lopBusy 7 = false → f.len = 0 → s.raiseRoom 1 →
      t.lopState 7 = lopDone ∧ t.fld (Fld.LOP_STATn_UNITS_TOTAL 7) = 0 ∧
        t.raise = s.raise ++ [s.occurrence 0x06 (7 + 16 * lopDone)] ∧
        t = { s with regs := t.regs, raise := t.raise } ∧ s.regsBut t [Reg.BOOT_FL_CTRL, Reg.LOP_STATn 7]) ∧
    (∀ e, s.lopBusy 7 = false → f.len ≠ 0 → s.lop7Error f = some e → s.flashOps = [] → s.raiseRoom 1 →
      t.lopState 7 = lopFailed ∧ t.fld (Fld.LOP_STATn_ERR 7) = e ∧
        t.raise = s.raise ++ [s.occurrence 0x06 (7 + 16 * lopFailed + 256 * e)] ∧
        t = { s with regs := t.regs, raise := t.raise } ∧ s.regsBut t [Reg.BOOT_FL_CTRL, Reg.LOP_STATn 7]) ∧
    (∀ a bs us, s.lopBusy 7 = false → f.len ≠ 0 → s.flashOps = .save a bs :: us →
      t.lopState 7 = lopQueued ∧ t.on Fld.BOOT_FL_CTRL_GO = true ∧
        t = { s with regs := t.regs, flashOps := s.flashOps ++ [.lop7 f] } ∧ s.regsBut t [Reg.BOOT_FL_CTRL, Reg.LOP_STATn 7]) := by
  intro f t
  obtain ⟨go, key, -, -⟩ := flCtrlData_of d h
  obtain ⟨state, err, done, goes, beside, frame⟩ := s.flashWaits_fields (flCtrlData op d) f
  have ops := congrArg State.flashOps beside
  have same : (s.flashWaits (flCtrlData op d) f).lop7Error f = s.lop7Error f :=
    State.lop7Error_congr (s := s) (by rw [beside]) (by rw [beside]) (frame.fld Fld.BOOT_STATUS_SLOT (by decide)) f
  refine ⟨fun hb => ?_, fun hb hl he ho => ?_, fun hb hl hr => ?_, fun e hb hl he ho hr => ?_, fun a bs us hb hl ho => ?_⟩
  · have ht : t = _ := State.flCtrlWrite_busy ⟨go, key⟩ hb
    rw [ht]
    exact ⟨by simp (disch := decide) [State.on, State.fld_setFld_same], rfl, (State.regsBut.refl s _).setFld _ (by simp)⟩
  · have ht : t = _ := State.flCtrlWrite_len h hb hl
    rw [ht, State.runFlash_runs (by rw [ops, ho]; rfl) state (by rw [same, he])]
    generalize s.flashWaits (flCtrlData op d) f = v at beside frame err done goes ⊢
    refine ⟨State.fld_setFld_same _ _ _ (by decide) (by decide), ?_, ?_, ?_, ?_, frame.setFld _ (by simp)⟩
    · simpa (disch := decide) [State.lopRun, State.fld_setFld_ne] using err
    · simpa (disch := decide) [State.lopRun, State.fld_setFld_ne] using done
    · simpa (disch := decide) [State.lopRun, State.on, State.fld_setFld_ne] using goes
    · rw [beside, ho]
      rfl
  · have ht : t = _ := State.flCtrlWrite_empty h hb hl
    have total : (s.flashQueued (flCtrlData op d) f).fld (Fld.LOP_STATn_UNITS_TOTAL 7) = 0 := by
      have none : (f.len + flashUnit f.op - 1) / flashUnit f.op = 0 := by
        rw [hl]
        unfold flashUnit
        split_ifs <;> rfl
      rw [State.flashQueued, none]
      exact State.fld_lopStart_total _ _ _ _ (by decide)
    have beside := s.flashQueued_beside (flCtrlData op d) f
    have frame := s.flashQueued_regsBut (flCtrlData op d) f
    rw [ht]
    generalize s.flashQueued (flCtrlData op d) f = u at beside frame total ⊢
    have room : u.raiseRoom 1 := hr.congr (by rw [beside]) (by rw [beside])
    obtain ⟨state, -, stays, raise, kept, only⟩ := State.lop7Ended room lopDone 0 (by decide) (by decide)
    refine ⟨state, stays.trans total, ?_, ?_, frame.trans (only.mono (by simp))⟩
    · rw [raise, beside]
      rfl
    · refine kept.trans ?_
      generalize u.lopEnd 7 lopDone 0 = v
      rw [beside]
  · have ht : t = _ := State.flCtrlWrite_len h hb hl
    rw [ht, State.runFlash_fails (by rw [ops, ho]; rfl) state (by rw [same, he])]
    generalize s.flashWaits (flCtrlData op d) f = v at beside frame ⊢
    have room : (v.setFld Fld.BOOT_FL_CTRL_GO 0).raiseRoom 1 := hr.congr (by rw [beside]; rfl) (by rw [beside]; rfl)
    obtain ⟨state, error, -, raise, kept, only⟩ := State.lop7Ended room lopFailed e (by decide) (State.lop7Error_lt he)
    have whole := (frame.setFld (f := Fld.BOOT_FL_CTRL_GO) 0 (by simp)).trans (only.mono (by simp))
    generalize (v.setFld Fld.BOOT_FL_CTRL_GO 0).lopEnd 7 lopFailed e = w at state error raise kept whole ⊢
    refine ⟨state, error, ?_, ?_, whole.congr rfl⟩
    · refine raise.trans ?_
      rw [beside]
      rfl
    · rw [kept, beside, ho]
      rfl
  · have ht : t = _ := State.flCtrlWrite_len h hb hl
    rw [ht, State.runFlash_saving (a := a) (bs := bs) (us := us ++ [.lop7 f]) (by rw [ops, ho]; rfl)]
    exact ⟨state, goes, beside, frame⟩

/-- LOP8 queued for `slot` on a free flash, with the units its slot shows. -/
def State.verifyQueued (s : State) (slot units : Nat) : State :=
  { (((s.setFld Fld.BOOT_VERIFY_CTRL_SLOT slot).setFld Fld.BOOT_VERIFY_CTRL_GO 1).lopStart 8 lopQueued units) with
    flashOps := [.lop8 slot] }

theorem State.verifyCtrlWrite_go (hg : Fld.BOOT_VERIFY_CTRL_GO.of d = 1 ∧ Fld.BOOT_VERIFY_CTRL_KEY.of d = 0x5C)
    (hb : s.lopBusy 8 = false) (ho : s.flashOps = []) :
    ∃ n m, s.verifyCtrlWrite d = ((s.verifyQueued (Fld.BOOT_VERIFY_CTRL_SLOT.of d) n).lopRun 8).lopUnits 8 0 m := by
  have slot : (s.setFld Fld.BOOT_VERIFY_CTRL_SLOT (Fld.BOOT_VERIFY_CTRL_SLOT.of d)).fld Fld.BOOT_VERIFY_CTRL_SLOT =
      Fld.BOOT_VERIFY_CTRL_SLOT.of d := State.fld_setFld_of _ _ _ (by decide)
  unfold State.verifyCtrlWrite
  simp only [hg, hb, and_self, decide_true, Bool.not_false, Bool.and_true, if_true, slot]
  generalize State.verifyUnits _ (Fld.BOOT_VERIFY_CTRL_SLOT.of d) = n
  have ops (u : State) (h : u.flashOps = []) : (u.lopStart 8 lopQueued n).flashOps = [] := by
    rw [State.lopStart_beside]
    exact h
  rw [ops ((s.setFld Fld.BOOT_VERIFY_CTRL_SLOT (Fld.BOOT_VERIFY_CTRL_SLOT.of d)).setFld Fld.BOOT_VERIFY_CTRL_GO 1) ho, List.nil_append]
  have queued : (s.verifyQueued (Fld.BOOT_VERIFY_CTRL_SLOT.of d) n).lopState 8 = lopQueued := State.lopState_lopStart _ _ _ _ (by decide)
  exact ⟨n, _, State.runFlash_verifies (s := s.verifyQueued (Fld.BOOT_VERIFY_CTRL_SLOT.of d) n) rfl queued⟩

theorem State.verifyQueued_regsBut (s : State) (slot n : Nat) :
    s.regsBut (s.verifyQueued slot n) [Reg.BOOT_VERIFY_CTRL, Reg.LOP_STATn 8] :=
  State.regsBut.congr (State.regsBut.lopStart _ 8 lopQueued n
    (((State.regsBut.refl s _).setFld (f := Fld.BOOT_VERIFY_CTRL_SLOT) slot (by simp)).setFld (f := Fld.BOOT_VERIFY_CTRL_GO) 1 (by simp))
    (by simp)) rfl

theorem State.verifyQueued_beside (s : State) (slot n : Nat) :
    s.verifyQueued slot n = { s with regs := (s.verifyQueued slot n).regs, flashOps := [.lop8 slot] } := by
  unfold State.verifyQueued
  rw [State.lopStart_beside]
  rfl

theorem State.verifyQueued_on (s : State) (slot n : Nat) : (s.verifyQueued slot n).on Fld.BOOT_VERIFY_CTRL_GO = true := by
  have go : (((s.setFld Fld.BOOT_VERIFY_CTRL_SLOT slot).setFld Fld.BOOT_VERIFY_CTRL_GO 1).lopStart 8 lopQueued n).on
      Fld.BOOT_VERIFY_CTRL_GO = true := by
    rw [State.on_iff, State.fld_lopStart_ne _ _ _ _ _ (by decide), State.fld_setFld_same _ _ _ (by decide) (by decide)]
    decide
  exact go

/-- Settles O12: LOP7 by the cases of its GO, LOP8 by its one. -/
theorem flashOperationsAreAccepted : Obligations.FlashOperationsAreAccepted := by
  intro q d s
  refine ⟨fun c op f hc hf hp => ?_, fun hp hb ho => ?_⟩
  · subst hf
    have hop : op < 3 := by omega
    have run : exec c s = .next (s.flCtrlWrite (flCtrlData op d)) := by
      rcases hc with ⟨rfl, rfl⟩ | ⟨rfl, rfl⟩ | ⟨rfl, rfl⟩ <;>
        exact exec_access (f := fun s => s.flCtrlWrite (flCtrlData _ d)) hp rfl
    obtain ⟨busy, runs, empty, fails, waits⟩ := s.flCtrlWrite_cases d hop
    exact ⟨fun hb => ⟨_, run, busy hb⟩, fun hb hl he ho => ⟨_, run, runs hb hl he ho⟩, fun hb hl hr => ⟨_, run, empty hb hl hr⟩,
      fun e hb hl he ho hr => ⟨_, run, fails e hb hl he ho hr⟩, fun a bs us hb hl ho => ⟨_, run, waits a bs us hb hl ho⟩⟩
  · have data : Fld.BOOT_VERIFY_CTRL_GO.of (Fld.BOOT_VERIFY_CTRL_KEY.put 0x5C (Fld.BOOT_VERIFY_CTRL_GO.put 1 d)) = 1 ∧
        Fld.BOOT_VERIFY_CTRL_KEY.of (Fld.BOOT_VERIFY_CTRL_KEY.put 0x5C (Fld.BOOT_VERIFY_CTRL_GO.put 1 d)) = 0x5C := by
      simp (disch := decide) [Fld.of_put_ne, Fld.of_put_same]
    obtain ⟨n, m, run⟩ := State.verifyCtrlWrite_go data hb ho
    have slot : Fld.BOOT_VERIFY_CTRL_SLOT.of (Fld.BOOT_VERIFY_CTRL_KEY.put 0x5C (Fld.BOOT_VERIFY_CTRL_GO.put 1 d)) =
        Fld.BOOT_VERIFY_CTRL_SLOT.of d := by
      simp (disch := decide) [Fld.of_put_ne]
    refine ⟨_, exec_access hp rfl, ?_⟩
    rw [run, slot]
    have frame := s.verifyQueued_regsBut (Fld.BOOT_VERIFY_CTRL_SLOT.of d) n
    have beside := s.verifyQueued_beside (Fld.BOOT_VERIFY_CTRL_SLOT.of d) n
    have go := s.verifyQueued_on (Fld.BOOT_VERIFY_CTRL_SLOT.of d) n
    generalize s.verifyQueued (Fld.BOOT_VERIFY_CTRL_SLOT.of d) n = u at frame beside go ⊢
    refine ⟨?_, ?_, ?_, State.regsBut.lopUnits _ _ _ _ (frame.setFld _ (by simp)) (by simp)⟩
    · rw [State.lopState, State.fld_lopUnits_ne _ _ _ _ _ (.inr (by decide))]
      exact State.fld_setFld_same _ _ _ (by decide) (by decide)
    · rw [State.on, State.fld_lopUnits_ne _ _ _ _ _ (.inl (by decide)), State.lopRun,
        State.fld_setFld_ne _ _ _ _ (by decide) (by decide), ← State.on, go]
    · rw [State.lopUnits_beside, beside]
      rfl

/-! ### The units of LOP7 and LOP8 (R71 to R73) -/

/-- The first user of the flash begins, and those that fail go: nothing beside the registers, the events and the queue. -/
theorem State.runFlashN_keeps (n : Nat) (s : State) :
    (s.runFlashN n).flash = s.flash ∧ (s.runFlashN n).store = s.store ∧ (s.runFlashN n).fuses = s.fuses := by
  induction n generalizing s with
  | zero => exact ⟨rfl, rfl, rfl⟩
  | succ n ih =>
    have failed (e : Nat) (rest : List FlashUser) :
        { (s.setFld Fld.BOOT_FL_CTRL_GO 0).lopEnd 7 lopFailed e with flashOps := rest }.flash = s.flash ∧
        { (s.setFld Fld.BOOT_FL_CTRL_GO 0).lopEnd 7 lopFailed e with flashOps := rest }.store = s.store ∧
        { (s.setFld Fld.BOOT_FL_CTRL_GO 0).lopEnd 7 lopFailed e with flashOps := rest }.fuses = s.fuses := by
      simp [State.lopEnd]
    unfold State.runFlashN
    split
    · split_ifs
      · split
        · obtain ⟨flash, store, fuses⟩ := ih _
          obtain ⟨flash', store', fuses'⟩ := failed _ _
          exact ⟨flash.trans flash', store.trans store', fuses.trans fuses'⟩
        · exact ⟨rfl, rfl, rfl⟩
      · exact ⟨rfl, rfl, rfl⟩
    · split_ifs
      · rw [State.lopUnits_beside]
        exact ⟨rfl, rfl, rfl⟩
      · exact ⟨rfl, rfl, rfl⟩
    · exact ⟨rfl, rfl, rfl⟩

theorem State.kickLop6_idle (h : s.lopState 6 ≠ lopQueued) : s.kickLop6 = s := if_neg fun hk => h hk.1

theorem State.kickLop6_keeps (s : State) : s.kickLop6.flash = s.flash ∧ s.kickLop6.store = s.store ∧ s.kickLop6.fuses = s.fuses := by
  unfold State.kickLop6 State.runLop6
  split_ifs <;> simp [State.lopEnd, State.lopRun]

/-- The end of a flash operation moves no memory. -/
theorem State.lop7End_keeps (s : State) (st err : Nat) :
    (s.lop7End st err).flash = s.flash ∧ (s.lop7End st err).store = s.store ∧ (s.lop7End st err).fuses = s.fuses := by
  unfold State.lop7End State.flashDone
  have ended : ((s.setFld Fld.BOOT_FL_CTRL_GO 0).lopEnd 7 st err).flash = s.flash ∧
      ((s.setFld Fld.BOOT_FL_CTRL_GO 0).lopEnd 7 st err).store = s.store ∧
      ((s.setFld Fld.BOOT_FL_CTRL_GO 0).lopEnd 7 st err).fuses = s.fuses := by
    simp [State.lopEnd]
  generalize (s.setFld Fld.BOOT_FL_CTRL_GO 0).lopEnd 7 st err = u at ended ⊢
  obtain ⟨flash, store, fuses⟩ := ended
  obtain ⟨flash', store', fuses'⟩ := State.runFlashN_keeps (({ u with flashOps := u.flashOps.drop 1 } : State).flashOps.length + 1)
    { u with flashOps := u.flashOps.drop 1 }
  obtain ⟨flash'', store'', fuses''⟩ := State.kickLop6_keeps ({ u with flashOps := u.flashOps.drop 1 } : State).runFlash
  exact ⟨flash''.trans (flash'.trans flash), store''.trans (store'.trans store), fuses''.trans (fuses'.trans fuses)⟩

/-- The last flash operation ends: nothing else waits. -/
theorem State.flashDone_alone {x : FlashUser} (ho : s.flashOps = [x]) (h6 : s.lopState 6 ≠ lopQueued) :
    s.flashDone = { s with flashOps := [] } := by
  unfold State.flashDone
  rw [ho]
  refine (congrArg State.kickLop6 (State.runFlash_idle rfl)).trans (State.kickLop6_idle h6)

/-- A unit of LOP7 that ends without an error is counted; after the last one the operation ends. -/
def State.lop7Counted (s : State) (f : FlashOp) : State :=
  let total := (f.len + flashUnit f.op - 1) / flashUnit f.op
  let s := { s with flashOps := FlashUser.lop7 { f with done := f.done + 1 } :: s.flashOps.drop 1 }.lopUnits 7 (f.done + 1) total
  if total ≤ f.done + 1 then s.lop7End lopDone 0 else s

theorem State.lop7Counted_keeps (s : State) (f : FlashOp) :
    (s.lop7Counted f).flash = s.flash ∧ (s.lop7Counted f).store = s.store ∧ (s.lop7Counted f).fuses = s.fuses := by
  unfold State.lop7Counted
  extract_lets total u
  have counted : u.flash = s.flash ∧ u.store = s.store ∧ u.fuses = s.fuses := by
    simp only [u]
    rw [State.lopUnits_beside]
    exact ⟨rfl, rfl, rfl⟩
  obtain ⟨flash, store, fuses⟩ := counted
  split_ifs
  · obtain ⟨flash', store', fuses'⟩ := u.lop7End_keeps lopDone 0
    exact ⟨flash'.trans flash, store'.trans store, fuses'.trans fuses⟩
  · exact ⟨flash, store, fuses⟩

/-- A unit of LOP7 that finds no error. -/
theorem exec_lop7UnitEnd {o : FlashEnd} {rest : List FlashUser} {u : State} (ho : s.flashOps = .lop7 f :: rest) (hr : s.lopState 7 = lopRunning)
    (hu : s.lop7Unit f (flashUnit f.op * f.done) (f.addr + flashUnit f.op * f.done)
      (min (flashUnit f.op) (f.len - flashUnit f.op * f.done)) o = (u, none)) :
    exec (.lop7UnitEnd o) s = .next (u.lop7Counted f) := by
  simp only [exec, execLop7UnitEnd, ho, hr, if_true, hu]
  rfl

theorem State.regBytes_length (s : State) (a n : Nat) : (s.regBytes a n).length = n := by
  have words (l : List Nat) : (l.flatMap (fun i => leBytes 4 (s.rd (a + 4 * i)).toNat)).length = 4 * l.length := by
    induction l with
    | nil => rfl
    | cons x l ih => rw [List.flatMap_cons, List.length_append, ih, leBytes_length, List.length_cons]; omega
  rw [State.regBytes, List.length_take, words, List.length_range]
  omega

theorem SMap.getRange_length {α : Type} (d : α) (m : SMap α) (a n : Nat) : (SMap.getRange d m a n).length = n := by
  induction n generalizing a with
  | zero => rfl
  | succ n ih => rw [SMap.getRange, List.length_cons, ih]

theorem State.flashBytes_length (s : State) (a n : Nat) : (s.flashBytes a n).length = n := SMap.getRange_length _ _ _ _

theorem SMap.getRange_const {α : Type} (d v : α) (m : SMap α) (a n : Nat) (h : ∀ b, a ≤ b → b < a + n → SMap.get d m b = v) :
    SMap.getRange d m a n = List.replicate n v := by
  induction n generalizing a with
  | zero => rfl
  | succ n ih =>
    rw [SMap.getRange, h a (le_refl a) (by omega), ih (a + 1) fun b hb hn => h b (by omega) (by omega), List.replicate_succ]

/-- What has been erased reads 0xFF. -/
theorem State.flashBytes_eraseFlash (s : State) (a n : Nat) : (s.eraseFlash a n).flashBytes a n = List.replicate n 0xFF#8 :=
  SMap.getRange_const _ _ _ _ _ fun _ h h' => s.get_eraseFlash_in h h'

/-- What is stored reads back, for a length that is told otherwise. -/
theorem State.flashBytes_put (s : State) (a : Nat) {bs : List Byte} {n : Nat} (h : bs.length = n) : (s.putFlash a bs).flashBytes a n = bs := by
  rw [← h]
  exact s.flashBytes_putFlash a bs

/-- What one unit of ERASE or of PROGRAM from the buffer does. -/
theorem State.lop7Unit_writes (hop : f.op ≤ 1) (hs : f.op = 1 → f.src = 0) (k a n : Nat) : s.lop7Unit f k a n .done =
    (if f.op = 0 then s.eraseFlash a n else s.putFlash a (s.regBytes (Reg.BOOT_FBUF 0 + k) n), none) := by
  rcases Nat.le_one_iff_eq_zero_or_eq_one.mp hop with h | h
  · simp only [State.lop7Unit, h, if_true]
  · simp only [State.lop7Unit, State.flashSource, h, hs h, if_true, one_ne_zero, if_false]

/-- The error that a section or a slot shows is never 0. -/
theorem State.verifyUnit_ne {slot k e o : Nat} (h : s.verifyUnit slot k = some (e, o)) : e ≠ 0 := by
  have section_ne {p : Partition} {rs : List Region} {c : Section} {e : Nat} (h : s.verifySection p rs c = some e) : e ≠ 0 := by
    have shows : s.verifySection p rs c ≠ some 0 := by
      unfold State.verifySection
      extract_lets bs
      generalize sha512 bs = x
      split_ifs <;> simp
    rintro rfl
    exact shows h
  unfold State.verifyUnit at h
  rcases hv : s.verifySlot slot with _ | ⟨p, hd⟩
  · simp only [hv, Option.some.injEq, Prod.mk.injEq] at h
    omega
  · simp only [hv] at h
    rcases hc : (if k = 0 then s.headerCheck hd p.size else none) with _ | n
    · simp only [hc] at h
      obtain ⟨c, -, hc⟩ := List.exists_of_findSome?_eq_some h
      obtain ⟨e', he, heq⟩ := Option.map_eq_some_iff.mp hc
      cases heq
      exact section_ne he
    · simp only [hc, Option.some.injEq, Prod.mk.injEq] at h
      obtain ⟨rfl, -⟩ := h
      split_ifs <;> decide

/-- LOP7 alone on the flash ends: its register, GO, the event, and an empty queue. -/
theorem State.lop7End_alone {x : FlashUser} (ho : s.flashOps = [x]) (h6 : s.lopState 6 ≠ lopQueued) (hr : s.raiseRoom 1) :
    let t := s.lop7End lopDone 0
    t.lopState 7 = lopDone ∧ t.on Fld.BOOT_FL_CTRL_GO = false ∧ t.raise = s.raise ++ [s.occurrence 0x06 (7 + 16 * lopDone)] ∧
      t = { s with regs := t.regs, raise := t.raise, flashOps := [] } ∧ s.regsBut t [Reg.BOOT_FL_CTRL, Reg.LOP_STATn 7] := by
  have room : (s.setFld Fld.BOOT_FL_CTRL_GO 0).raiseRoom 1 := hr
  obtain ⟨state, -, -, raise, kept, only⟩ := State.lop7Ended room lopDone 0 (by decide) (by decide)
  have whole : s.regsBut ((s.setFld Fld.BOOT_FL_CTRL_GO 0).lopEnd 7 lopDone 0) [Reg.BOOT_FL_CTRL, Reg.LOP_STATn 7] :=
    ((State.regsBut.refl s _).setFld _ (by simp)).trans (only.mono (by simp))
  have go : ((s.setFld Fld.BOOT_FL_CTRL_GO 0).lopEnd 7 lopDone 0).on Fld.BOOT_FL_CTRL_GO = false := by
    rw [State.on_eq_false, State.fld_lopEnd_ne _ _ _ _ _ (by decide) (by decide), State.fld_setFld_same _ _ _ (by decide) (by decide)]
  unfold State.lop7End
  generalize (s.setFld Fld.BOOT_FL_CTRL_GO 0).lopEnd 7 lopDone 0 = u at state raise kept whole go ⊢
  have ops : u.flashOps = [x] := by
    rw [kept]
    exact ho
  rw [State.flashDone_alone ops (by rwa [State.lopState, whole.fld _ (by decide)])]
  refine ⟨state, go, raise, ?_, whole.congr rfl⟩
  rw [kept]
  rfl

/-- LOP8 alone on the flash ends with an error. -/
theorem State.lop8End_alone {x : FlashUser} {e : Nat} (ho : s.flashOps = [x]) (h6 : s.lopState 6 ≠ lopQueued) (hr : s.raiseRoom 1) (he : e ≠ 0)
    (o : Nat) : let t := s.lop8End e o
    t.lopState 8 = lopFailed ∧ t.fld (Fld.LOP_STATn_ERR 8) = e % 32 ∧ t.rd Reg.BOOT_VERIFY_DETAIL = BitVec.ofNat 32 o ∧ t.flashOps = [] ∧
      t.flash = s.flash := by
  unfold State.lop8End
  rw [if_neg he]
  have room : ((s.setFld Fld.BOOT_VERIFY_CTRL_GO 0).wr Reg.BOOT_VERIFY_DETAIL (BitVec.ofNat 32 o)).raiseRoom 1 := hr
  rw [State.lopEnd_room room (by decide)]
  rw [State.flashDone_alone (x := x) (by exact ho)]
  · refine ⟨?_, ?_, ?_, rfl, rfl⟩
    · simp (disch := decide) [State.lopState, State.fld_setFld_ne, State.fld_setFld_same, -State.wr_regs]
    · simp (disch := decide) [State.fld_setFld_mod, -State.wr_regs]
    · simp (disch := decide) [State.rd_setFld_ne, -State.wr_regs]
  · simpa (disch := decide) [State.lopState, State.fld_setFld_ne, State.fld_wr_ne, -State.wr_regs] using h6

/-- Settles O13: the units by what they do to the flash, the ends by the queue that is empty after them. -/
theorem flashUnitsDoTheirWork : Obligations.FlashUnitsDoTheirWork := by
  intro s h6
  refine ⟨fun f rest k n hk hn ho hr hop hs => ?_, fun f ho hr hop hs hd h4 h0 hl hroom => ?_, fun slot e o ho hr hv hroom => ?_,
    fun slot ho hr hv ht => ?_⟩
  · subst hk hn
    refine ⟨_, exec_lop7UnitEnd ho hr (State.lop7Unit_writes hop hs _ _ _), ?_⟩
    generalize flashUnit f.op * f.done = k
    generalize min (flashUnit f.op) (f.len - k) = n
    generalize hu : (if f.op = 0 then s.eraseFlash (f.addr + k) n
      else s.putFlash (f.addr + k) (s.regBytes (Reg.BOOT_FBUF 0 + k) n)) = u
    obtain ⟨flash, store, fuses⟩ := u.lop7Counted_keeps f
    rw [State.flashBytes, flash, store, fuses, ← hu]
    split_ifs with h
    · exact ⟨s.flashBytes_eraseFlash _ _, fun a ha => s.get_eraseFlash_out ha, rfl, rfl⟩
    · have len := s.regBytes_length (Reg.BOOT_FBUF 0 + k) n
      exact ⟨s.flashBytes_put _ len, fun a ha => SMap.get_setRange_out _ _ _ (by rwa [len]), rfl, rfl⟩
  · have read : s.lop7Unit f (flashUnit f.op * f.done) (f.addr + flashUnit f.op * f.done)
        (min (flashUnit f.op) (f.len - flashUnit f.op * f.done)) .done =
        (s.loadBytes (Reg.BOOT_FBUF 0) (s.flashBytes f.addr f.len), none) := by
      have all : min (flashUnit 2) f.len = f.len := Nat.min_eq_right hl
      simp only [State.lop7Unit, State.flashSink, hop, hs, hd, Nat.mul_zero, Nat.add_zero, Nat.sub_zero, all, if_true]
    refine ⟨_, exec_lop7UnitEnd ho hr read, ?_⟩
    have len := s.flashBytes_length f.addr f.len
    generalize s.flashBytes f.addr f.len = bs at len ⊢
    have whole : bs.length = 4 * (f.len / 4) := by omega
    have shown := s.regBytes_loadBytes (Reg.BOOT_FBUF 0) bs whole
    rw [len] at shown
    obtain ⟨r, loaded⟩ : ∃ r, s.loadBytes (Reg.BOOT_FBUF 0) bs = { s with regs := r } := ⟨_, s.loadBytes_beside _ bs⟩
    have frame : s.regsBut (s.loadBytes (Reg.BOOT_FBUF 0) bs) ((List.range (f.len / 4)).map Reg.BOOT_FBUF) :=
      (State.regsBut.refl s _).loadBytes _ _ whole fun i hi => List.mem_map.mpr ⟨i, List.mem_range.mpr hi, by simp⟩
    have total : (f.len + flashUnit f.op - 1) / flashUnit f.op = 1 := by
      rw [hop]
      exact Nat.div_eq_of_lt_le (by simp [flashUnit]; omega) (by simp [flashUnit]; omega)
    rw [loaded] at frame shown ⊢
    have counted : State.lop7Counted { s with regs := r } f =
        ({ s with regs := r, flashOps := [FlashUser.lop7 { f with done := 1 }] }.lopUnits 7 1 1).lop7End lopDone 0 := by
      unfold State.lop7Counted
      rw [total, hd, if_pos (by decide)]
      simp only [ho, List.drop_succ_cons, List.drop_zero, Nat.zero_add]
    have units := State.regsBut.lopUnits { s with regs := r, flashOps := [FlashUser.lop7 { f with done := 1 }] } 7 1 1
      (u := { s with regs := r }) (as := [Reg.BOOT_FL_CTRL, Reg.LOP_STATn 7]) (State.regsBut.of_regs rfl _) (by simp)
    have beside := State.lopUnits_beside { s with regs := r, flashOps := [FlashUser.lop7 { f with done := 1 }] } 7 1 1
    rw [counted]
    generalize { s with regs := r, flashOps := [FlashUser.lop7 { f with done := 1 }] }.lopUnits 7 1 1 = u at units beside ⊢
    have apart : (Fld.LOP_STATn_STATE 6).addr ∉ (List.range (f.len / 4)).map Reg.BOOT_FBUF := fun hm => by
      obtain ⟨i, hi, e⟩ := List.mem_map.mp hm
      rw [List.mem_range] at hi
      simp only [Reg.BOOT_FBUF, Reg.LOP_STATn] at e
      omega
    have h6' : u.lopState 6 ≠ lopQueued := by
      rw [State.lopState, units.fld _ (by decide), frame.fld _ apart]
      exact h6
    obtain ⟨state, go, raise, kept, only⟩ := State.lop7End_alone (by rw [beside]) h6' (hroom.congr (by rw [beside]) (by rw [beside]))
    refine ⟨(State.regBytes_congr fun i hi => ?_).trans shown, state, go, by rw [kept], ?_, ?_⟩
    · exact (units.trans only) _ (by simp only [List.mem_cons, List.not_mem_nil, or_false, Reg.BOOT_FBUF, Reg.BOOT_FL_CTRL, Reg.LOP_STATn]; omega)
    · rw [raise, beside]
      rfl
    · refine kept.trans ?_
      generalize u.lop7End lopDone 0 = v
      rw [beside]
  · refine ⟨_, congrArg Host.Outcome.next ?_, State.lop8End_alone ho h6 hroom (State.verifyUnit_ne hv) o⟩
    simp only [ho, hr, hv, if_true]
  · refine ⟨s.lopUnits 8 (s.fld (Fld.LOP_STATn_UNITS_DONE 8) + 1) (s.fld (Fld.LOP_STATn_UNITS_TOTAL 8)), congrArg Host.Outcome.next ?_, ?_⟩
    · simp only [ho, hr, hv, if_true]
      rw [if_neg (by omega)]
    · have le : s.fld (Fld.LOP_STATn_UNITS_TOTAL 8) ≤ 4095 := Nat.le_of_lt_succ (s.fld_lt _)
      refine ⟨State.fld_lopUnits_done _ _ _ _ (by omega) le, ?_, State.lopUnits_beside _ _ _ _,
        State.regsBut.lopUnits _ _ _ _ (State.regsBut.refl s _) (by simp)⟩
      rw [State.lopState, State.fld_lopUnits_ne _ _ _ _ _ (.inr (by decide)), ← State.lopState, hr]

end Sys2Proof.Machine

/-!
PROOFS. Accesses through MSPI and the fabric, and the entries of an MGQ (O19 to O22).
-/

namespace Sys2Proof.Machine

variable {s t : State} {q : Requester} {d : Word} {env : BusEnv}

/-! ### Posted writes and writes at any address (R34, R35) -/

/-- A store with PD_CST on whose error map lists word 0 as free of errors, in an entry that a canonical map would not hold, and one
posted write to that word. -/
def postedOverListedWord : State :=
  { State.reset with
    domains := [pdAon, pdCtl, pdCst], ecc := [(0, 0)], banksOff := [], pins := { State.reset.pins with refclk := true },
    mspi := { State.reset.mspi with posted := [(0x10000000, 0)] } }

/-- Refutes O20: the write takes the entry of its word out of the error map, so that more than store and posted writes changes; the
statement ranges over states whose error map is not canonical. -/
theorem not_postedStoreWritesReachTheStore : ¬ Obligations.PostedStoreWritesReachTheStore := by
  unfold Obligations.PostedStoreWritesReachTheStore
  intro h
  obtain ⟨-, performed, -⟩ := h 0x10000000#32 0 0 proctorEnv false [] postedOverListedWord
    (by decide) (by decide) (by decide) (by decide) (by decide)
  obtain ⟨t, run, -, -, rest⟩ := performed (by decide) (by decide) (by decide) (by decide) (by decide)
  have ht : postedOverListedWord.performPosted = t := Host.Outcome.next.inj run
  have listed : t.ecc = [(0, 0)] := congrArg State.ecc rest
  rw [← ht] at listed
  exact absurd listed (by decide)

/-- Refutes O21: a write at a store address takes the entry of its word out of the error map, as in the refutation of O20. -/
theorem not_writesAtAnyAddressReachTheirTarget : ¬ Obligations.WritesAtAnyAddressReachTheirTarget := by
  unfold Obligations.WritesAtAnyAddressReachTheirTarget
  intro h
  obtain ⟨-, -, stored, -⟩ := h .dean 0x10000000#32 0 proctorEnv postedOverListedWord
  obtain ⟨t, run, -, -, rest⟩ := stored (by decide) (by decide) ⟨(nomatch ·), by decide⟩ (by decide) (by decide)
  have ht : (postedOverListedWord.busWrite .dean proctorEnv false 0x10000000 0).1 = t := Host.Outcome.next.inj run
  have listed : t.ecc = [(0, 0)] := congrArg State.ecc rest
  rw [← ht] at listed
  exact absurd listed (by decide)

/-! ### DEV_SCRATCH through the fabric -/

theorem judge_scratch (hq : q = .mspi ∨ q = .mgq) (hd : s.domOn pdCtl = true) (w : Bool) : s.judge q Reg.DEV_SCRATCH w = stOk := by
  have free : s.forbidden q Reg.DEV_SCRATCH w = false := by
    rcases hq with rfl | rfl <;> cases w <;> rfl
  exact State.judge_of_powered (d := pdCtl) rfl rfl free hd (.inl (by decide))

/-- DEV_SCRATCH is one field of 32 bits that software reads and writes. -/
theorem readWord_scratch (w : Word) : readWord Reg.DEV_SCRATCH w = w := by
  rw [readWord, show accessMask [.wo] Reg.DEV_SCRATCH = 0#32 by decide]
  exact BitVec.and_allOnes

theorem writeWord_scratch (d w : Word) : writeWord Reg.DEV_SCRATCH d w = d := by
  have field (v : Word) : Fld.DEV_SCRATCH_VALUE.of v = v.toNat := by
    simp [Fld.of, getField, Nat.mod_eq_of_lt v.isLt]
  have written := Fld.of_writeWord_plain (f := Fld.DEV_SCRATCH_VALUE) (by decide) d w
  rw [field, field] at written
  exact BitVec.eq_of_toNat_eq written

theorem State.busRead_scratch (hq : q = .mspi ∨ q = .mgq) (hd : s.domOn pdCtl = true) (env : BusEnv) :
    s.busRead q env Reg.DEV_SCRATCH = (s, stOk, s.rd Reg.DEV_SCRATCH) := by
  have read : s.readAt (fabricAccess q env) Reg.DEV_SCRATCH = (s, stOk, readWord Reg.DEV_SCRATCH (s.rd Reg.DEV_SCRATCH)) := rfl
  rw [readWord_scratch] at read
  simp only [State.busRead, judge_scratch hq hd, read, ne_eq, not_true_eq_false, if_false, if_true]

theorem State.busWrite_scratch (hq : q = .mspi ∨ q = .mgq) (hd : s.domOn pdCtl = true) (env : BusEnv) (d : Word) :
    s.busWrite q env false Reg.DEV_SCRATCH d = (s.wr Reg.DEV_SCRATCH d, stOk) := by
  have written : s.writeAt (fabricAccess q env) Reg.DEV_SCRATCH d =
      (s.wr Reg.DEV_SCRATCH (writeWord Reg.DEV_SCRATCH d (s.rd Reg.DEV_SCRATCH)), stOk) := rfl
  rw [writeWord_scratch] at written
  simp only [State.busWrite, judge_scratch hq hd, written, ne_eq, not_true_eq_false, if_false, if_true]

/-! ### Frames on MSPI (R28 to R34) -/

/-- With nothing held the buffer is empty as it is. -/
theorem State.emptyHeld_none (h : s.mspi.held = none) (env : BusEnv) : s.emptyHeld env = s := by
  have same : s.setHeld none = s := by
    rw [State.setHeld, ← h]
  simp only [State.emptyHeld, State.finishHeld, h, same]

theorem State.drainPosted_nil (h : s.mspi.posted = []) : s.drainPosted = s := by
  simp only [State.drainPosted, h, List.foldl_nil]

/-- With no reset waiting for its answer a frame ends as it stands. -/
theorem State.frameEnd_none (h : s.boot.afterMspi = none) : s.frameEnd = s := by
  unfold State.frameEnd State.mspiReset
  rw [h]
  split_ifs <;> rfl

theorem State.frameStatus_ok {request : List Byte} {crc : Byte} {cmdOk : Bool} (hc : crc8 request = crc.toNat) (hk : cmdOk = true)
    (ho : s.fabricOpen = true) : s.frameStatus request crc cmdOk = stOk := by
  simp [State.frameStatus, hc, hk, ho]

/-- A read frame that passes its checks. -/
theorem exec_mspiRead {a : BitVec 32} {crc : Byte} {late : Bool} (hu : s.mspiUp = true) (ho : s.fabricOpen = true)
    (hc : crc8 (frameHead 0x5A#8 a.toNat) = crc.toNat) :
    exec (.mspiRead 0x5A#8 a crc late env) s = .next (s.mspiReadAt a.toNat late env).frameEnd := by
  simp only [exec, execMspiRead, State.readFrame, hu, State.frameStatus_ok hc rfl ho, Bool.not_true, Bool.false_eq_true, if_false, if_true,
    BEq.rfl]
  rfl

theorem exec_mspiWrite {a : BitVec 32} {crc : Byte} {late : Bool} (hu : s.mspiUp = true) (ho : s.fabricOpen = true)
    (hc : crc8 (frameHead 0xA5#8 a.toNat ++ leBytes 4 d.toNat) = crc.toNat) :
    exec (.mspiWrite a d crc late env) s = .next (s.mspiWriteAt a.toNat d late env).frameEnd := by
  simp only [exec, execMspiWrite, State.writeFrame, hu, State.frameStatus_ok hc rfl ho, Bool.not_true, Bool.false_eq_true, if_false, if_true]

/-- A read of DEV_SCRATCH that is not late. -/
theorem State.mspiReadAt_scratch (hd : s.domOn pdCtl = true) (hh : s.mspi.held = none) (hp : s.mspi.posted = []) :
    s.mspiReadAt Reg.DEV_SCRATCH false env = s.setMiso (readAnswer stOk (s.rd Reg.DEV_SCRATCH)) := by
  simp only [State.mspiReadAt, hh, Option.filter_none, State.emptyHeld_none hh, Bool.false_eq_true, if_false, State.drainPosted_nil hp,
    State.busRead_scratch (.inl rfl) hd]

theorem State.mspiWriteAt_scratch (hd : s.domOn pdCtl = true) (hh : s.mspi.held = none) (hp : s.mspi.posted = []) :
    s.mspiWriteAt Reg.DEV_SCRATCH d false env = (s.wr Reg.DEV_SCRATCH d).setMiso (writeAnswer stOk) := by
  have direct : storePosts Reg.DEV_SCRATCH = false := by decide
  simp only [State.mspiWriteAt, hh, Option.filter_none, State.emptyHeld_none hh, Bool.false_eq_true, if_false, State.drainPosted_nil hp,
    State.busWrite_scratch (.inl rfl) hd, direct]

/-- Settles O19: the frames that fail by their status, the others by the access. -/
theorem mspiFramesAnswerAndPerform : Obligations.MspiFramesAnswerAndPerform := by
  intro cmd crc a d late env s hu ha
  have hd : s.domOn pdCtl = true := (Bool.and_eq_true_iff.mp hu).1
  refine ⟨fun hw hc => ?_, fun hw hk hc => ?_, fun ho hc => ?_, fun ho hh hp hc => ?_, fun ho hh hc => ?_, fun r ho hh hc => ?_,
    fun ho hh hp hc => ?_, fun sent hl => ?_, fun hh hp => ?_⟩
  · refine ⟨(s.count Fld.DEV_MSPI_ERR_CRC 1).setMiso (readAnswer stCrcErr 0), ?_, rfl, ?_, rfl,
      State.regsBut.congr ((State.regsBut.refl s _).count (f := Fld.DEV_MSPI_ERR_CRC) 1 (by simp)) rfl⟩
    · have st : s.frameStatus (frameHead cmd a.toNat) crc (cmd == 0x5A#8) = stCrcErr := if_pos hc
      simp only [exec, execMspiRead, hw, State.readFrame, hu, st, if_false, Bool.not_true, Bool.false_eq_true]
      rfl
    · exact State.fld_count_same s Fld.DEV_MSPI_ERR_CRC 1 (by decide)
  · have st : s.frameStatus (frameHead cmd a.toNat) crc (cmd == 0x5A#8) = stCmdErr := by simp [State.frameStatus, hc, hk]
    simp only [exec, execMspiRead, hw, State.readFrame, hu, st, if_false, Bool.not_true, Bool.false_eq_true]
    rfl
  · have st : s.frameStatus (frameHead 0x5A#8 a.toNat) crc (0x5A#8 == 0x5A#8) = stNotReady := by simp [State.frameStatus, hc, ho]
    simp only [exec, execMspiRead, State.readFrame, hu, st, Bool.not_true, Bool.false_eq_true, if_false]
    rfl
  · rw [exec_mspiRead (a := BitVec.ofNat 32 Reg.DEV_SCRATCH) hu ho hc]
    exact congrArg Host.Outcome.next
      ((congrArg State.frameEnd (State.mspiReadAt_scratch hd hh hp)).trans (State.frameEnd_none (s := s.setMiso _) ha))
  · rw [exec_mspiRead hu ho hc]
    simp only [State.mspiReadAt, hh, Option.filter_none, State.emptyHeld_none hh, if_true]
    rfl
  · have own : s.mspi.held.filter (fun h => h.isFor false a.toNat 0) = some ⟨false, a.toNat, 0, true, stOk, r⟩ := by
      simp [hh, MspiHeld.isFor]
    rw [exec_mspiRead hu ho hc]
    simp only [State.mspiReadAt, own, if_true]
    exact congrArg Host.Outcome.next (State.frameEnd_none (s := (s.setHeld none).setMiso _) ha)
  · refine ⟨(s.wr Reg.DEV_SCRATCH d).setMiso (writeAnswer stOk), ?_, State.rd_wr_same _ _ _, rfl, rfl,
      State.regsBut.congr ((State.regsBut.refl s _).wr (a := Reg.DEV_SCRATCH) d (by simp)) rfl⟩
    rw [exec_mspiWrite (a := BitVec.ofNat 32 Reg.DEV_SCRATCH) hu ho hc]
    exact congrArg Host.Outcome.next ((congrArg State.frameEnd (State.mspiWriteAt_scratch hd hh hp)).trans
      (State.frameEnd_none (s := (s.wr Reg.DEV_SCRATCH d).setMiso _) ha))
  · refine ⟨(s.count Fld.DEV_MSPI_ERR_ABORT 1).setMiso (List.replicate sent.length 0xFF#8), ?_,
      State.fld_count_same s Fld.DEV_MSPI_ERR_ABORT 1 (by decide), rfl, rfl, rfl,
      State.regsBut.congr ((State.regsBut.refl s _).count (f := Fld.DEV_MSPI_ERR_ABORT) 1 (by simp)) rfl⟩
    have short : sent.length < (if sent.headD 0 = 0xA5#8 then 10 else 6) := by
      cases sent with
      | nil => simp
      | cons b bs => simpa using hl
    simp only [exec, execMspiFrameAbort, hu, Bool.not_true, Bool.false_eq_true, if_false, short, if_true]
  · simp only [exec, execMspiDeferredAccessEnd, State.finishHeld, hh, Bool.false_eq_true, if_false, State.drainPosted_nil hp,
      State.busRead_scratch (.inl rfl) hd]
    rfl

/-! ### The entries of an MGQ (R150, R151) -/

theorem State.mgqNext_of {m : MgqState} {op : Nat} (hm : s.link.mgq = some m) (hd : m.done < fieldAt m.payload 2 1)
    (ho : mgqOp m.payload m.done = op) : s.mgqNext op = some m := by
  simp [State.mgqNext, hm, hd, ho]

/-- An entry answered OK with data `w`, and others to follow. -/
def State.mgqPassed (s : State) (m : MgqState) (w : Word) : State :=
  { s with link := { s.link with mgq := some { m with
    done := m.done + 1, answers := m.answers ++ leBytes 4 stOk ++ leBytes 4 w.toNat, stopped := false } } }

/-- An entry that is not the last one is answered OK. -/
theorem State.mgqAnswer_middle {m : MgqState} (hm : s.link.mgq = some m) (hd : m.done + 1 < fieldAt m.payload 2 1) (w : Word) :
    s.mgqAnswer m stOk w = s.mgqPassed m w := by
  simp [State.mgqAnswer, State.mgqPassed, hm, Nat.not_le.mpr hd]

/-- Settles O22: the access at DEV_SCRATCH, then the answer. -/
theorem mgqEntriesAreAnswered : Obligations.MgqEntriesAreAnswered := by
  intro env m s hm hl ha hd
  have next (op : Nat) (ho : mgqOp m.payload m.done = op) : s.mgqNext op = some m := State.mgqNext_of hm (Nat.lt_of_succ_lt hl) ho
  refine ⟨fun ho => ?_, fun ho => ?_, fun ho => ?_⟩
  · simp only [exec, execMgqRead, next 1 ho, ha, State.busRead_scratch (.inr rfl) hd, State.mgqAnswer_middle hm hl]
    rfl
  · refine ⟨(s.wr Reg.DEV_SCRATCH _).mgqPassed m 0, ?_, State.rd_wr_same _ _ _, rfl, rfl, State.regsBut.congr ((State.regsBut.refl s _).wr _ (by simp)) rfl⟩
    simp only [exec, execMgqWrite, next 2 ho, ha, State.busWrite_scratch (.inr rfl) hd]
    exact congrArg Host.Outcome.next (State.mgqAnswer_middle (s := s.wr Reg.DEV_SCRATCH _) hm hl 0)
  · refine ⟨(s.wr Reg.DEV_SCRATCH _).mgqPassed m (s.rd Reg.DEV_SCRATCH), ?_, State.rd_wr_same _ _ _, rfl, rfl, State.regsBut.congr ((State.regsBut.refl s _).wr _ (by simp)) rfl⟩
    simp only [exec, execMgqModify, next 3 ho, ha, State.busModify, judge_scratch (.inr rfl) hd, State.busRead_scratch (.inr rfl) hd,
      State.busWrite_scratch (.inr rfl) hd, ne_eq, not_true_eq_false, if_false]
    exact congrArg Host.Outcome.next (State.mgqAnswer_middle (s := s.wr Reg.DEV_SCRATCH _) hm hl _)

end Sys2Proof.Machine

/-!
PROOFS. An HK period by itself, and what the resets leave (O2, O3, O5, O60).
-/

namespace Sys2Proof.Machine

variable {s t : State} {as : List Nat} {q : Requester} {d : Word}

/-! ### One HK period (R16, R36) -/

theorem unmovedByLoads_hkSub : UnmovedByLoads State.hkSub := ⟨fun _ _ _ _ => rfl, fun _ _ => rfl, fun _ _ _ _ => rfl⟩

theorem State.coldReset_hkSub (s : State) (k : ResetKind) : (s.coldReset k).hkSub = if k = .por then 0 else s.hkSub := by
  change (State.resetLoads _ k).hkSub = _
  rw [unmovedByLoads_hkSub.resetLoads, ← State.spoiled_keeps s (g := State.hkSub) (fun _ _ _ _ => rfl)]
  rfl

/-- A cold reset ends what was being sent. -/
theorem State.coldReset_link (s : State) (k : ResetKind) : (s.coldReset k).link = LinkState.idle := by
  obtain ⟨-, -, -, -, -, -, -, -, -, -, -, -, link, -⟩ := s.coldReset_blocksEmpty k
  exact link

/-- The start that follows a cold reset: steps 1 and 2, or Detention mode (R40, R60, R62). -/
def State.startFollows (s : State) (k : ResetKind) : State :=
  if !s.pins.refclk then s
  else
  let low := s.pins.detain != 0
  let s := { s with pins := { s.pins with detain := s.pins.detain - 1 } }.setFld Fld.BOOT_STATUS_STEP 1
  if low then
    if k = ResetKind.por then
      (s.setFld Fld.BOOT_STATUS_DETAINED 1).setFld Fld.BOOT_DETAIN_CAUSE_CAUSE 0x0D
    else s.enterDetention 0x0D false
  else s.setFld Fld.BOOT_STATUS_STEP 2

theorem State.beginStart_follows (s : State) (k : ResetKind) : s.beginStart k = (s.coldReset k).startFollows k := rfl

/-- After a POR the start goes on with registers and pins alone. -/
theorem State.startFollows_por (s : State) : ∃ r p, s.startFollows .por = { s with regs := r, pins := p } := by
  unfold State.startFollows
  by_cases hr : s.pins.refclk
  · by_cases hd : s.pins.detain = 0
    · exact ⟨_, _, by simp only [hr, hd]; rfl⟩
    · exact ⟨_, _, by simp only [hr, bne_iff_ne.mpr hd]; rfl⟩
  · exact ⟨_, _, by simp only [hr]; rfl⟩

theorem State.startFollows_frame {u : State} (sub : u.hkSub = 0) (link : u.link = LinkState.idle) :
    (u.startFollows .por).hkSub = 0 ∧ (u.startFollows .por).link = LinkState.idle := by
  obtain ⟨r, p, follows⟩ := u.startFollows_por
  rw [follows]
  exact ⟨sub, link⟩

/-- A power-on reset sets the count of HK periods to 0, and ends what was being sent. -/
theorem State.beginStart_por (s : State) : (s.beginStart .por).hkSub = 0 ∧ (s.beginStart .por).link = LinkState.idle :=
  State.startFollows_frame (by rw [State.coldReset_hkSub, if_pos rfl]) (s.coldReset_link .por)

theorem State.softOrWarm_por (s : State) : (s.softOrWarm .por).hkSub = 0 ∧ (s.softOrWarm .por).link = LinkState.idle := by
  rw [State.softOrWarm, if_neg (by decide)]
  exact s.beginStart_por

/-- The packets whose sending ends with this period. -/
def State.endFlights (s : State) : State :=
  s.forEach 2 (fun s k => if s.link.flight.any (fun f => f.tb == k && f.left == 0) then s.endFlight k else s)

theorem State.endFlights_first {u : State} (h : s.link.flight.any (fun f => f.tb == 0 && f.left == 0) = true) (hu : s.endFlight 0 = u)
    (hf : u.link.flight = []) : s.endFlights = u := by
  simp only [State.endFlights, State.forEach, show List.range 2 = [0, 1] from rfl, List.foldl_cons, List.foldl_nil, h, hu, hf, List.any_nil,
    if_true, Bool.false_eq_true, if_false]

/-- A packet that ends with this HK period, and the reset that has waited for it. -/
theorem State.flightTick_resets {f : Flight} {k : ResetKind} (hf : s.link.flight = [f]) (ht : f.tb = 0) (hl : f.left = 8)
    (ha : f.after = [.reset k]) (he : (State.softOrWarm { s with link := { s.link with flight := [] } } k).link.flight = []) :
    s.flightTick = State.softOrWarm { s with link := { s.link with flight := [] } } k := by
  have ticks : s.flightTick = State.endFlights { s with link := { s.link with flight := [{ f with left := 0 }] } } := by
    unfold State.flightTick
    rw [hf, List.map_singleton, hl]
    rfl
  have ends : State.endFlight { s with link := { s.link with flight := [{ f with left := 0 }] } } 0 =
      State.softOrWarm { s with link := { s.link with flight := [] } } k := by
    simp [State.endFlight, State.afterMgas, ht, ha]
  exact ticks.trans (State.endFlights_first (by simp [ht]) ends he)

/-- Where that reset is a power-on reset, the period's own count is lost. -/
theorem State.flightTick_por {f : Flight} (hf : s.link.flight = [f]) (ht : f.tb = 0) (hl : f.left = 8) (ha : f.after = [.reset .por]) :
    s.flightTick.hkSub = 0 := by
  obtain ⟨sub, link⟩ := State.softOrWarm_por { s with link := { s.link with flight := [] } }
  exact (congrArg State.hkSub (State.flightTick_resets hf ht hl ha (congrArg LinkState.flight link))).trans sub

/-- The pass of the checkers over their lanes (R118). -/
def State.countErrors (s : State) (errors : List Nat) : State :=
  s.forEach 22 (fun s l => s.iff (decide (l % 11 ≠ 10)) (fun s => s.count (Fld.LNK_PRBS_ERRe_ERR (22 + l)) (errors.getD l 0)))

theorem State.countErrors_hkSub (s : State) (errors : List Nat) : (s.countErrors errors).hkSub = s.hkSub :=
  State.forEach_keeps State.hkSub _ (fun u l =>
    State.iff_keeps State.hkSub (fun s => s.count (Fld.LNK_PRBS_ERRe_ERR (22 + l)) (errors.getD l 0)) (fun _ => rfl) _ u) 22 s

theorem State.checkerCounts_eq (s : State) (errors : List Nat) (ui : Nat) : s.checkerCounts errors ui =
    if s.linkIs lnkTest && s.on Fld.LNK_TEST_CHK_EN then
      let s := s.countErrors errors
      let n := ((s.rd Reg.LNK_PRBS_UI_LO).toNat + 2 ^ 32 * (s.rd Reg.LNK_PRBS_UI_HI).toNat + ui) % 2 ^ 64
      (s.wr Reg.LNK_PRBS_UI_LO (BitVec.ofNat 32 n)).wr Reg.LNK_PRBS_UI_HI (BitVec.ofNat 32 (n / 2 ^ 32))
    else s := rfl

/-- The checkers change registers and the free values used alone. -/
theorem State.checkerCounts_hkSub (s : State) (errors : List Nat) (ui : Nat) : (s.checkerCounts errors ui).hkSub = s.hkSub := by
  have counted := s.countErrors_hkSub errors
  rw [State.checkerCounts_eq]
  generalize s.countErrors errors = u at counted ⊢
  split_ifs
  · exact (State.wr_hkSub _ _ _).trans ((State.wr_hkSub _ _ _).trans counted)
  · rfl

theorem State.checkerTick_hkSub (s : State) : s.checkerTick.hkSub = s.hkSub := by
  unfold State.checkerTick
  split_ifs
  · exact s.checkerCounts_hkSub _ _
  · rfl

/-- What runs on by itself in a period leaves the link. -/
theorem State.ncoTick_link (s : State) : s.ncoTick.link = s.link := by
  have car (up : Bool) (k : Nat) (u : State) : (u.forEach 8 (fun s c =>
      let x := carrierIn (s.carriers up).inForce up c
      s.iff x.en (fun s => s.ncoAdd (k + c) x.freq))).link = u.link := by
    refine State.forEach_keeps State.link _ (fun u c => ?_) 8 u
    exact State.iff_keeps State.link (fun s => s.ncoAdd (k + c) (carrierIn (u.carriers up).inForce up c).freq) (fun _ => rfl) _ u
  unfold State.ncoTick
  extract_lets car' u
  have dpx : u.link = s.link := by
    refine State.iff_keeps State.link _ (fun v => ?_) _ s
    refine (State.forEach_keeps State.link (fun s e => s.ncoAdd (16 + e) (s.ncoFreq (16 + e))) (fun _ _ => rfl) 4 _).trans ?_
    exact (car true 8 _).trans (car false 0 v)
  exact (State.iff_keeps State.link (fun s => s.ncoAdd 20 (s.ncoFreq 20)) (fun _ => rfl) _ u).trans dpx

theorem State.runEdges_link (s : State) : s.runEdges.link = s.link := by
  have drive (u : State) (e : FecEdge) : (u.driveEdge e).link = u.link := by
    unfold State.driveEdge
    extract_lets
    split_ifs <;> rfl
  exact foldl_keeps State.link _ drive _ _

theorem State.tick_running (h : s.hkRuns = true) :
    s.tick = s.aonTick.airTick.ncoTick.runEdges.runSupplies.flightTick.checkerTick := by
  have same : s.aonTick.hkRuns = s.hkRuns := by
    unfold State.aonTick
    split_ifs <;> rfl
  simp only [State.tick, same, h, if_true]

/-- A device that sends its last fabric cycles of a packet, after which a power-on reset begins. -/
def lastCyclesBeforePor : State :=
  { State.reset with link := { State.reset.link with flight := [⟨0, 0, [], 8, [.reset .por]⟩] } }.setFld Fld.CLK_STATUS_FABRIC_ON_ROOT 1

/-- Refutes O60: a packet whose sending ends with the period may have a power-on reset wait for it, and that reset sets the count of HK
periods to 0 where the statement has it risen by 1. -/
theorem not_theResetStateAndAnIdleStep : ¬ Obligations.TheResetStateAndAnIdleStep := by
  unfold Obligations.TheResetStateAndAnIdleStep
  rintro ⟨-, -, -, -, -, -, -, -, -, idle⟩
  obtain ⟨t, run, counts, -⟩ := idle lastCyclesBeforePor rfl
  have ht : lastCyclesBeforePor.tick = t := Host.Outcome.next.inj run
  have runs := State.tick_running (s := lastCyclesBeforePor) (by decide)
  have flight : lastCyclesBeforePor.aonTick.airTick.ncoTick.runEdges.runSupplies.link.flight = [⟨0, 0, [], 8, [.reset .por]⟩] := by
    exact congrArg LinkState.flight ((State.runEdges_link lastCyclesBeforePor.aonTick.airTick.ncoTick).trans (State.ncoTick_link _))
  have lost : t.hkSub = 0 := by
    rw [← ht, runs, State.checkerTick_hkSub, State.flightTick_por flight rfl rfl rfl]
  obtain ⟨risen, -⟩ := counts (by decide)
  rw [lost] at risen
  exact absurd risen (by decide)

end Sys2Proof.Machine

/-!
PROOFS. What the resets leave: registers by keep class, emptied blocks, and what a WARM keeps (O2, O3, O5).
-/

namespace Sys2Proof

theorem getField_and (hi lo : Nat) (v w : Word) : getField hi lo (v &&& w) = getField hi lo v &&& getField hi lo w := by
  apply Nat.eq_of_testBit_eq
  intro i
  simp only [testBit_getField, BitVec.getLsbD_and, Nat.testBit_and]
  cases decide (i < hi + 1 - lo) <;> rfl

/-- A field that a reset clears reads its reset value, whatever the register held. -/
theorem getField_cleared {hi lo : Nat} {m r : Word} (hm : getField hi lo (~~~m) = 0) (w : Word) :
    getField hi lo ((w &&& ~~~m) ||| (r &&& m)) = getField hi lo (r &&& m) := by
  rw [getField_or, getField_and, hm, Nat.and_zero, Nat.zero_or]

namespace Machine

variable {s t : State} {a : Nat} {q : Requester} {d : Word} {k : ResetKind}

theorem foldl_keeps_mem {β γ : Type} (g : State → γ) (f : State → β → State) (l : List β) (h : ∀ s, ∀ b ∈ l, g (f s b) = g s) (s : State) :
    g (l.foldl f s) = g s := by
  induction l generalizing s with
  | nil => rfl
  | cons b l ih =>
    exact (ih (fun s c hc => h s c (List.mem_cons_of_mem _ hc)) _).trans (h s b List.mem_cons_self)

theorem State.forEach_keeps_lt {γ : Type} (g : State → γ) (f : State → Nat → State) (n : Nat) (h : ∀ s, ∀ b < n, g (f s b) = g s) (s : State) :
    g (s.forEach n f) = g s :=
  foldl_keeps_mem g f _ (fun s b hb => h s b (List.mem_range.mp hb)) s

/-! ### The registers that a cold reset loads (R37, R77, R354, R410, R437) -/

/-- What reads the registers outside the selection registers of the calibration, and neither CAL_STATUS, is unmoved by the trims; the event of
a mismatch finds room. -/
theorem State.rd_loadTrims (h : a < 0x340000 ∨ 0x340464 ≤ a) (hc : a ≠ Reg.CAL_STATUS) (room : s.raiseRoom 1) (up : Bool) :
    (s.loadTrims up).rd a = s.rd a := by
  have reported (e : Bool) (t : State) (room : t.raiseRoom 1) :
      (if e then (t.setFld Fld.CAL_STATUS_TRIM_BAD 1).event 0xC8 0 else t).rd a = t.rd a := by
    cases e with
    | false => rfl
    | true =>
      have regs := State.event_regs_of_room (s := t.setFld Fld.CAL_STATUS_TRIM_BAD 1) (room.congr rfl rfl) (by decide) 0xC8 0
      exact (congrArg (fun m => SMap.get (resetWord a) m a) regs).trans (State.rd_wr_ne _ _ hc)
  unfold State.loadTrims
  extract_lets ok code paths orx los loc
  have hpaths : paths.rd a = s.rd a := State.forEach_keeps_lt (fun u => u.rd a) _ 64 (fun u p hp => by
    have w0 : a ≠ Reg.CAL_CONV_Pp_W0 p := show a ≠ 0x340000 + 0x10 * p by omega
    have w1 : a ≠ Reg.CAL_CONV_Pp_W1 p := show a ≠ 0x340004 + 0x10 * p by omega
    have w2 : a ≠ Reg.CAL_CONV_Pp_W2 p := show a ≠ 0x340008 + 0x10 * p by omega
    have w3 : a ≠ Reg.CAL_CONV_Pp_W3 p := show a ≠ 0x34000C + 0x10 * p by omega
    rw [State.rd_wr_ne _ _ w3, State.rd_wr_ne _ _ w2, State.rd_wr_ne _ _ w1, State.rd_wr_ne _ _ w0]) s
  have horx : orx.rd a = paths.rd a := State.forEach_keeps_lt (fun u => u.rd a) _ 8 (fun u p hp =>
    State.rd_wr_ne _ _ (show a ≠ 0x340440 + 4 * p by omega)) paths
  have hlos : los.rd a = orx.rd a := State.forEach_keeps_lt (fun u => u.rd a) _ 16 (fun u p hp =>
    State.rd_wr_ne _ _ (show a ≠ 0x340400 + 4 * p by omega)) orx
  have hloc : loc.rd a = los.rd a := State.rd_wr_ne _ _ (show a ≠ 0x340460 by omega)
  have beside {γ : Type} (g : State → γ) (hg : ∀ u b w, g (State.wr u b w) = g u) : g loc = g s := by
    have last : g loc = g los := hg _ _ _
    have third : g los = g orx := State.forEach_keeps g _ (fun u _ => hg u _ _) 16 orx
    have second : g orx = g paths := State.forEach_keeps g _ (fun u _ => hg u _ _) 8 paths
    have first : g paths = g s := State.forEach_keeps g _ (fun u _ => by rw [hg, hg, hg, hg]) 64 s
    rw [last, third, second, first]
  rw [reported _ loc (room.congr (beside State.domains fun _ _ _ => rfl) (beside State.raise fun _ _ _ => rfl)), hloc, hlos, horx, hpaths]

theorem State.loadTrims_boot (s : State) (up : Bool) : (s.loadTrims up).boot = s.boot := by
  have reported (e : Bool) (t : State) : (if e then (t.setFld Fld.CAL_STATUS_TRIM_BAD 1).event 0xC8 0 else t).boot = t.boot := by
    cases e with
    | false => rfl
    | true => exact State.event_boot _ _ _
  unfold State.loadTrims
  extract_lets ok code paths orx los loc
  have last : loc.boot = los.boot := State.wr_boot _ _ _
  have third : los.boot = orx.boot := State.forEach_keeps State.boot _ (fun _ _ => State.wr_boot _ _ _) 16 orx
  have second : orx.boot = paths.boot := State.forEach_keeps State.boot _ (fun _ _ => State.wr_boot _ _ _) 8 paths
  have first : paths.boot = s.boot := State.forEach_keeps State.boot _ (fun u _ => by rw [State.wr_boot, State.wr_boot, State.wr_boot, State.wr_boot]) 64 s
  rw [reported _ loc, last, third, second, first]

/-- What a cold reset loads after the straps. -/
def State.loadsAfterStraps (s : State) (k : ResetKind) : State :=
  let s := if k = ResetKind.por then s.loadBellAddr else s
  (s.loadTrims (k == ResetKind.por)).senseFuses.showPower

theorem State.resetLoads_eq (s : State) (k : ResetKind) : s.resetLoads k = ((s.resetInfo k).latchStraps k).loadsAfterStraps k := rfl

theorem State.loadsAfterStraps_boot (s : State) (k : ResetKind) : (s.loadsAfterStraps k).boot = s.boot := by
  have bell : (if k = ResetKind.por then s.loadBellAddr else s).boot = s.boot := by split_ifs <;> rfl
  exact (State.loadTrims_boot _ _).trans bell

theorem State.rd_loadsAfterStraps (h : a < 0x340000 ∨ 0x340464 ≤ a)
    (ha : a ∉ [Reg.PROC_STATUS, Reg.PWR_STATUS, Reg.PWR_PG_STATUS, Reg.CAL_STATUS, Reg.PWR_BELL_ADDR]) (room : s.raiseRoom 1) (k : ResetKind) :
    (s.loadsAfterStraps k).rd a = s.rd a := by
  simp only [List.mem_cons, List.not_mem_nil, or_false, not_or] at ha
  obtain ⟨proc, pwr, pg, cal, bell⟩ := ha
  unfold State.loadsAfterStraps
  extract_lets addressed
  have addressedRd : addressed.rd a = s.rd a := by
    show State.rd (if _ then _ else _) a = _
    split_ifs
    · exact State.rd_wr_ne _ _ bell
    · rfl
  have addressedRoom : addressed.raiseRoom 1 := by
    show State.raiseRoom (if _ then _ else _) 1
    split_ifs
    · exact room.congr rfl rfl
    · exact room
  rw [← addressedRd, ← State.rd_loadTrims h cal addressedRoom (k == ResetKind.por)]
  generalize addressed.loadTrims _ = u
  unfold State.showPower State.senseFuses
  exact (State.rd_wr_ne _ _ pg).trans ((State.rd_wr_ne _ _ pwr).trans
    ((State.rd_wr_ne _ _ proc).trans ((State.rd_wr_ne _ _ proc).trans (State.rd_wr_ne _ _ proc))))

/-- A cold reset: the blocks are emptied and the registers cleared by keep class, and then the loads follow (R440). -/
theorem State.coldReset_parts (s : State) (k : ResetKind) : ∃ u : State, s.coldReset k = u.resetLoads k ∧
    u.regs = resetRegs (fun _ => clearedBy k) s.regs ∧ u.domains = [pdAon, pdCtl] ∧ u.raise = [] ∧ u.boot = s.boot.restart k ∧
    u.pins = { s.pins with irqN := true, sysclk0 := 0, sysclk1 := 0 } ∧ u.aonTicks = (if k = .por then 0 else s.aonTicks) ∧
    u.pending = s.pending ∧ u.fuses = s.spoilFlash.spoilFuses.fuses ∧ u.flash = s.spoilFlash.spoilFuses.flash := by
  refine ⟨_, rfl, ?_⟩
  rw [← State.spoiled_keeps s (g := State.regs) (fun _ _ _ _ => rfl), ← State.spoiled_keeps s (g := State.boot) (fun _ _ _ _ => rfl),
    ← State.spoiled_keeps s (g := State.pins) (fun _ _ _ _ => rfl), ← State.spoiled_keeps s (g := State.aonTicks) (fun _ _ _ _ => rfl),
    ← State.spoiled_keeps s (g := State.pending) (fun _ _ _ _ => rfl)]
  exact ⟨rfl, rfl, rfl, rfl, rfl, rfl, rfl, rfl, rfl⟩

theorem State.resetLoads_boot (s : State) (k : ResetKind) : (s.resetLoads k).boot = s.boot := by
  have info : (s.resetInfo k).boot = s.boot := by
    unfold State.resetInfo
    split_ifs <;> rfl
  have straps (u : State) : (u.latchStraps k).boot = u.boot := by
    unfold State.latchStraps
    split_ifs <;> rfl
  rw [State.resetLoads_eq, State.loadsAfterStraps_boot, straps, info]

theorem State.coldReset_boot (s : State) (k : ResetKind) : (s.coldReset k).boot = s.boot.restart k := by
  obtain ⟨u, parts, -, -, -, boot, -⟩ := s.coldReset_parts k
  rw [parts, State.resetLoads_boot, boot]

theorem unmovedByLoads_aonTicks : UnmovedByLoads State.aonTicks := ⟨fun _ _ _ _ => rfl, fun _ _ => rfl, fun _ _ _ _ => rfl⟩

theorem State.coldReset_aonTicks (s : State) (k : ResetKind) : (s.coldReset k).aonTicks = if k = .por then 0 else s.aonTicks := by
  obtain ⟨u, parts, -, -, -, -, -, ticks, -⟩ := s.coldReset_parts k
  rw [parts, ← ticks]
  exact unmovedByLoads_aonTicks.resetLoads u k

theorem State.resetInfo_beside (s : State) (k : ResetKind) : s.resetInfo k = { s with regs := (s.resetInfo k).regs } := by
  unfold State.resetInfo
  split_ifs <;> rfl

theorem State.latchStraps_beside (s : State) (k : ResetKind) : s.latchStraps k = { s with regs := (s.latchStraps k).regs } := by
  unfold State.latchStraps
  split_ifs <;> rfl

/-- The registers outside the last loads of a cold reset: cleared by keep class, with the kind and the straps loaded (R440). -/
theorem State.rd_coldReset_loads (s : State) (k : ResetKind) : ∃ u : State,
    (∀ a, u.rd a = (s.rd a &&& ~~~keepMask (clearedBy k) a) ||| (resetWord a &&& keepMask (clearedBy k) a)) ∧
    u.pins.boardId = s.pins.boardId ∧ u.pins.flashMode = s.pins.flashMode ∧
    ∀ a, a < 0x340000 ∨ 0x340464 ≤ a →
      a ∉ [Reg.PROC_STATUS, Reg.PWR_STATUS, Reg.PWR_PG_STATUS, Reg.CAL_STATUS, Reg.PWR_BELL_ADDR] →
      (s.coldReset k).rd a = ((u.resetInfo k).latchStraps k).rd a := by
  obtain ⟨u, parts, regs, domains, raise, -, pins, -⟩ := s.coldReset_parts k
  have room : ((u.resetInfo k).latchStraps k).raiseRoom 1 := by
    rw [State.latchStraps_beside, State.resetInfo_beside]
    exact ⟨by simp [State.domOn, domains], by simp [raise]⟩
  refine ⟨u, fun a => ?_, by rw [pins], by rw [pins], fun a h ha => ?_⟩
  · rw [State.rd, regs, get_resetRegs]
    rfl
  · rw [parts, State.resetLoads_eq, State.rd_loadsAfterStraps h ha room]

theorem State.rd_resetInfo_ne (k : ResetKind) (h : a ≠ Reg.DEV_RESET_INFO) : (s.resetInfo k).rd a = s.rd a := by
  unfold State.resetInfo
  split_ifs
  · exact State.rd_wr_ne _ _ h
  · exact (State.rd_wr_ne _ _ h).trans (State.rd_wr_ne _ _ h)

theorem State.rd_latchStraps_ne (k : ResetKind) (h : a ≠ Reg.DEV_STRAPS) : (s.latchStraps k).rd a = s.rd a := by
  unfold State.latchStraps
  split_ifs
  · exact (State.rd_wr_ne _ _ h).trans (State.rd_wr_ne _ _ h)
  · rfl

/-- A cold reset gives each field of the cleared classes its reset value and leaves the others (R440). -/
theorem State.rd_coldReset (s : State) (k : ResetKind) (h : a < 0x340000 ∨ 0x340464 ≤ a)
    (ha : a ∉ [Reg.PROC_STATUS, Reg.PWR_STATUS, Reg.PWR_PG_STATUS, Reg.CAL_STATUS, Reg.PWR_BELL_ADDR])
    (hi : a ≠ Reg.DEV_RESET_INFO) (hs : a ≠ Reg.DEV_STRAPS) :
    (s.coldReset k).rd a = (s.rd a &&& ~~~keepMask (clearedBy k) a) ||| (resetWord a &&& keepMask (clearedBy k) a) := by
  obtain ⟨u, regs, -, -, loads⟩ := s.rd_coldReset_loads k
  rw [loads a h ha, State.rd_latchStraps_ne k hs, State.rd_resetInfo_ne k hi, regs]

/-- The bits of a register that no field of a cleared class holds stay. -/
theorem uncleared (w r : Word) : (w &&& ~~~0#32) ||| (r &&& 0#32) = w := by
  rw [BitVec.not_zero, BitVec.and_allOnes, BitVec.and_zero, BitVec.or_zero]

/-- A power-on reset begins the count of resets again (R437). -/
theorem State.rd_coldReset_info (s : State) : (s.coldReset .por).rd Reg.DEV_RESET_INFO = 0 := by
  obtain ⟨u, -, -, -, loads⟩ := s.rd_coldReset_loads .por
  rw [loads _ (by decide) (by decide), State.rd_latchStraps_ne _ (by decide), State.resetInfo, if_pos rfl, State.rd_wr_same]

/-- Every other reset is counted, and its kind recorded (R437). -/
theorem State.fld_resetInfo (hk : k ≠ .por) :
    (s.resetInfo k).fld Fld.DEV_RESET_INFO_KIND = k.code ∧
    (s.resetInfo k).fld Fld.DEV_RESET_INFO_COUNT = min 65535 (s.fld Fld.DEV_RESET_INFO_COUNT + 1) := by
  have coded : s.resetInfo k = (s.count Fld.DEV_RESET_INFO_COUNT 1).setFld Fld.DEV_RESET_INFO_KIND k.code := by
    cases k with
    | por => exact absurd rfl hk
    | pin => rfl
    | soft => rfl
    | watchdog => rfl
    | warm => rfl
  have fits : k.code < 8 := by cases k <;> decide
  rw [coded]
  refine ⟨State.fld_setFld_same _ _ _ (by decide) fits, ?_⟩
  rw [State.fld_setFld_ne _ _ _ _ (by decide) (by decide)]
  exact State.fld_setFld_same _ _ _ (by decide) (lt_of_le_of_lt (Nat.min_le_left _ _) (by decide))

theorem State.fld_coldReset_info (s : State) (hk : k ≠ .por) :
    (s.coldReset k).fld Fld.DEV_RESET_INFO_KIND = k.code ∧
    (s.coldReset k).fld Fld.DEV_RESET_INFO_COUNT = min 65535 (s.fld Fld.DEV_RESET_INFO_COUNT + 1) := by
  obtain ⟨u, regs, -, -, loads⟩ := s.rd_coldReset_loads k
  have loaded : (s.coldReset k).rd Reg.DEV_RESET_INFO = (u.resetInfo k).rd Reg.DEV_RESET_INFO :=
    (loads _ (by decide) (by decide)).trans (State.rd_latchStraps_ne k (by decide))
  have kept : keepMask (clearedBy k) Reg.DEV_RESET_INFO = 0#32 := by
    cases k with
    | por => exact absurd rfl hk
    | pin => decide
    | soft => decide
    | watchdog => decide
    | warm => decide
  have before : u.rd Reg.DEV_RESET_INFO = s.rd Reg.DEV_RESET_INFO := by rw [regs, kept, uncleared]
  rw [State.fld_congr (f := Fld.DEV_RESET_INFO_KIND) loaded, State.fld_congr (f := Fld.DEV_RESET_INFO_COUNT) loaded,
    ← State.fld_congr (f := Fld.DEV_RESET_INFO_COUNT) before]
  exact State.fld_resetInfo hk

/-- The straps as a POR and a PIN reset latch them (R37). -/
theorem State.fld_coldReset_straps (s : State) (hk : k = .por ∨ k = .pin) (hb : s.pins.boardId < 8) (hf : s.pins.flashMode < 4) :
    (s.coldReset k).fld Fld.DEV_STRAPS_BOARD_ID = s.pins.boardId ∧ (s.coldReset k).fld Fld.DEV_STRAPS_FLASH_MODE = s.pins.flashMode := by
  obtain ⟨u, -, board, mode, loads⟩ := s.rd_coldReset_loads k
  have loaded : (s.coldReset k).rd Reg.DEV_STRAPS = ((u.resetInfo k).latchStraps k).rd Reg.DEV_STRAPS := loads _ (by decide) (by decide)
  have pins : (u.resetInfo k).pins = u.pins := by rw [State.resetInfo_beside]
  rw [State.fld_congr (f := Fld.DEV_STRAPS_BOARD_ID) loaded, State.fld_congr (f := Fld.DEV_STRAPS_FLASH_MODE) loaded, State.latchStraps,
    if_pos hk, pins, board, mode]
  refine ⟨(State.fld_setFld_ne _ _ _ _ (by decide) (by decide)).trans (State.fld_setFld_same _ _ _ (by decide) hb), ?_⟩
  exact State.fld_setFld_same _ _ _ (by decide) hf

/-- Every other reset leaves the straps. -/
theorem State.rd_coldReset_straps (s : State) (hk : k = .soft ∨ k = .watchdog) : (s.coldReset k).rd Reg.DEV_STRAPS = s.rd Reg.DEV_STRAPS := by
  obtain ⟨u, regs, -, -, loads⟩ := s.rd_coldReset_loads k
  have kept : keepMask (clearedBy k) Reg.DEV_STRAPS = 0#32 := by
    rcases hk with rfl | rfl
    · decide
    · decide
  have latched : ¬ (k = .por ∨ k = .pin) := by rcases hk with rfl | rfl <;> decide
  rw [loads _ (by decide) (by decide), State.latchStraps, if_neg latched, State.rd_resetInfo_ne _ (by decide), regs, kept, uncleared]

/-! ### The start that follows (R40, R62) -/

/-- A start that finds DETAIN_N high and REFCLK present stands at step 2, and has changed the pins and BOOT_STATUS alone. -/
theorem State.startFollows_high {u : State} (hr : u.pins.refclk = true) (hd : u.pins.detain = 0) (k : ResetKind) :
    (∃ r p, u.startFollows k = { u with regs := r, pins := p }) ∧ (u.startFollows k).fld Fld.BOOT_STATUS_STEP = 2 ∧
    (u.startFollows k).on Fld.BOOT_STATUS_DETAINED = u.on Fld.BOOT_STATUS_DETAINED ∧
    ∀ a, a ≠ Reg.BOOT_STATUS → (u.startFollows k).rd a = u.rd a := by
  have high : u.startFollows k =
      (State.setFld { u with pins := { u.pins with detain := u.pins.detain - 1 } } Fld.BOOT_STATUS_STEP 1).setFld Fld.BOOT_STATUS_STEP 2 := by
    unfold State.startFollows
    rw [hr, hd]
    rfl
  rw [high]
  refine ⟨⟨_, _, rfl⟩, State.fld_setFld_same _ _ _ (by decide) (by decide), ?_, fun a ha => (State.rd_wr_ne _ _ ha).trans (State.rd_wr_ne _ _ ha)⟩
  rw [State.on_setFld_ne _ _ _ _ (by decide) (by decide), State.on_setFld_ne _ _ _ _ (by decide) (by decide)]
  rfl

theorem State.startFollows_noClock {u : State} (hr : u.pins.refclk = false) (k : ResetKind) : u.startFollows k = u := by
  unfold State.startFollows
  rw [hr]
  rfl

/-- A reset with DETAIN_N high and REFCLK present begins a start. -/
theorem State.beginStart_high (s : State) (hr : s.pins.refclk = true) (hd : s.pins.detain = 0) (k : ResetKind) :
    (∃ r p, s.beginStart k = { s.coldReset k with regs := r, pins := p }) ∧ (s.beginStart k).fld Fld.BOOT_STATUS_STEP = 2 ∧
    (s.beginStart k).on Fld.BOOT_STATUS_DETAINED = (s.coldReset k).on Fld.BOOT_STATUS_DETAINED ∧
    ∀ a, a ≠ Reg.BOOT_STATUS → (s.beginStart k).rd a = (s.coldReset k).rd a := by
  have pins := s.coldReset_pins k
  exact State.startFollows_high (u := s.coldReset k) ((congrArg Pins.refclk pins).trans hr) ((congrArg Pins.detain pins).trans hd) k

/-- The blocks are empty when that start stands at step 2, and the kind of the reset is known. -/
theorem State.beginStart_empties (s : State) (hr : s.pins.refclk = true) (hd : s.pins.detain = 0) (k : ResetKind) :
    (s.beginStart k).blocksEmpty ∧ (s.beginStart k).fld Fld.BOOT_STATUS_STEP = 2 ∧ (s.beginStart k).boot = s.boot.restart k ∧
    (s.beginStart k).aonTicks = if k = .por then 0 else s.aonTicks := by
  obtain ⟨⟨r, p, same⟩, step, -⟩ := s.beginStart_high hr hd k
  have empty := s.coldReset_blocksEmpty k
  have boot := s.coldReset_boot k
  have ticks := s.coldReset_aonTicks k
  generalize s.beginStart k = t at same step ⊢
  generalize s.coldReset k = u at same empty boot ticks
  subst same
  exact ⟨empty, step, boot, ticks⟩

/-- POR and PIN resets leave Detention mode. -/
theorem State.coldReset_undetained (s : State) (hk : k = .por ∨ k = .pin) : (s.coldReset k).on Fld.BOOT_STATUS_DETAINED = false := by
  rw [State.on_eq_false, State.fld, s.rd_coldReset k (by decide) (by decide) (by decide) (by decide)]
  rcases hk with rfl | rfl
  · rw [getField_cleared (by decide)]
    decide
  · rw [getField_cleared (by decide)]
    decide

/-- After any cold reset no step has been reached. -/
theorem State.coldReset_step (s : State) (k : ResetKind) (hk : k ≠ .warm) : (s.coldReset k).fld Fld.BOOT_STATUS_STEP = 0 := by
  rw [State.fld, s.rd_coldReset k (by decide) (by decide) (by decide) (by decide)]
  cases k with
  | warm => exact absurd rfl hk
  | por =>
    rw [getField_cleared (by decide)]
    decide
  | pin =>
    rw [getField_cleared (by decide)]
    decide
  | soft =>
    rw [getField_cleared (by decide)]
    decide
  | watchdog =>
    rw [getField_cleared (by decide)]
    decide

/-- With no fuse command and no flash work in progress no fuse and no flash byte is spoiled (R83, R442). -/
theorem State.spoiled_quiet (hs : s.sec.running = none) (hw : s.boot.writing = none) (he : s.boot.erasing = false) (hf : s.flashOps = []) :
    s.spoilFlash.spoilFuses = s := by
  have flash : s.spoilFlash = s := by
    cases hd : s.boot.dir with
    | none => simp only [State.spoilFlash, hd, hw, hf]
    | some d => simp only [State.spoilFlash, hd, hw, he, hf, Bool.false_eq_true, if_false]
  rw [flash, State.spoilFuses, hs]

theorem State.coldReset_memories (s : State) (k : ResetKind) : (s.coldReset k).pending = s.pending ∧
    (s.coldReset k).fuses = s.spoilFlash.spoilFuses.fuses ∧ (s.coldReset k).flash = s.spoilFlash.spoilFuses.flash := by
  obtain ⟨u, parts, -, -, -, -, -, -, pending, fuses, flash⟩ := s.coldReset_parts k
  have loads {γ : Type} (g : State → γ) (hg : UnmovedByLoads g) : g (s.coldReset k) = g u := (congrArg g parts).trans (hg.resetLoads u k)
  refine ⟨(loads State.pending ?_).trans pending, (loads State.fuses ?_).trans fuses, (loads State.flash ?_).trans flash⟩
  · exact ⟨fun _ _ _ _ => rfl, fun _ _ => rfl, fun _ _ _ _ => rfl⟩
  · exact ⟨fun _ _ _ _ => rfl, fun _ _ => rfl, fun _ _ _ _ => rfl⟩
  · exact ⟨fun _ _ _ _ => rfl, fun _ _ => rfl, fun _ _ _ _ => rfl⟩

/-- A start with DETAIN_N high, in the registers outside the loads of the reset and of the start, and in the memories. -/
theorem State.beginStart_registers (s : State) (hr : s.pins.refclk = true) (hd : s.pins.detain = 0) (k : ResetKind)
    (ha : a ∉ [Reg.BOOT_STATUS, Reg.DEV_RESET_INFO, Reg.DEV_STRAPS, Reg.PROC_STATUS, Reg.PWR_STATUS, Reg.PWR_PG_STATUS, Reg.CAL_STATUS,
      Reg.PWR_BELL_ADDR]) (h : a < 0x340000 ∨ 0x340464 ≤ a) (quiet : s.spoilFlash.spoilFuses = s) :
    (s.beginStart k).rd a = (s.rd a &&& ~~~keepMask (clearedBy k) a) ||| (resetWord a &&& keepMask (clearedBy k) a) ∧
    (s.beginStart k).fuses = s.fuses ∧ (s.beginStart k).flash = s.flash ∧ (s.beginStart k).pending = s.pending := by
  obtain ⟨⟨r, p, same⟩, -, -, regs⟩ := s.beginStart_high hr hd k
  obtain ⟨pending, fuses, flash⟩ := s.coldReset_memories k
  simp only [List.mem_cons, List.not_mem_nil, or_false, not_or] at ha
  obtain ⟨boot, info, straps, proc, pwr, pg, cal, bell⟩ := ha
  refine ⟨?_, ?_⟩
  · rw [regs a boot, s.rd_coldReset k h (by simp only [List.mem_cons, List.not_mem_nil, or_false, not_or]; exact ⟨proc, pwr, pg, cal, bell⟩)
      info straps]
  · rw [quiet] at fuses flash
    generalize s.beginStart k = t at same ⊢
    generalize s.coldReset k = u at same pending fuses flash
    subst same
    exact ⟨fuses, flash, pending⟩

/-- Settles O3: the registers as `get_resetRegs` has them, outside the loads that follow; no memory is spoiled while nothing writes it. -/
theorem aResetReturnsRegisterFieldsByKeepClass : Obligations.AResetReturnsRegisterFieldsByKeepClass := by
  intro b f s a ha h hsec hw he hops
  have quiet : (s.setBalls b.val f.val 0 true).spoilFlash.spoilFuses = s.setBalls b.val f.val 0 true := State.spoiled_quiet hsec hw he hops
  have start (k : ResetKind) := State.beginStart_registers (s.setBalls b.val f.val 0 true) rfl rfl k ha h quiet
  exact ⟨⟨_, rfl, start .por⟩, ⟨_, rfl, start .pin⟩⟩

/-- A start without REFCLK stays before its first step, and the MSPI slave does not answer (R40). -/
theorem State.beginStart_noClock (s : State) (hr : s.pins.refclk = false) (k : ResetKind) (hk : k ≠ .warm) :
    (s.beginStart k).blocksEmpty ∧ (s.beginStart k).fld Fld.BOOT_STATUS_STEP = 0 ∧ (s.beginStart k).mspiUp = false := by
  have pins := congrArg Pins.refclk (s.coldReset_pins k)
  have none : s.beginStart k = s.coldReset k := State.startFollows_noClock (pins.trans hr) k
  rw [none]
  refine ⟨s.coldReset_blocksEmpty k, s.coldReset_step k hk, ?_⟩
  rw [State.mspiUp, pins, hr, Bool.and_false]

/-! ### Resets asked for through DEV_CTRL (R36) -/

/-- The data of a DEV_CTRL write that asks for a SOFT and for a WARM reset. -/
theorem devCtrlReset_soft (d : Word) : devCtrlReset (Fld.DEV_CTRL_KEY.put 0xA7 (Fld.DEV_CTRL_SOFT.put 1 d)) = some .soft := by
  have key : Fld.DEV_CTRL_KEY.of (Fld.DEV_CTRL_KEY.put 0xA7 (Fld.DEV_CTRL_SOFT.put 1 d)) = 0xA7 := Fld.of_put_same _ _ _ (by decide) (by decide)
  have soft : Fld.DEV_CTRL_SOFT.of (Fld.DEV_CTRL_KEY.put 0xA7 (Fld.DEV_CTRL_SOFT.put 1 d)) = 1 :=
    (Fld.of_put_ne _ _ _ _ (by decide) (by decide)).trans (Fld.of_put_same _ _ _ (by decide) (by decide))
  rw [devCtrlReset, if_neg (not_not_intro key), if_pos soft]

theorem devCtrlReset_warm (d : Word) :
    devCtrlReset (Fld.DEV_CTRL_KEY.put 0xA7 (Fld.DEV_CTRL_SOFT.put 0 (Fld.DEV_CTRL_WARM.put 1 d))) = some .warm := by
  have key : Fld.DEV_CTRL_KEY.of (Fld.DEV_CTRL_KEY.put 0xA7 (Fld.DEV_CTRL_SOFT.put 0 (Fld.DEV_CTRL_WARM.put 1 d))) = 0xA7 :=
    Fld.of_put_same _ _ _ (by decide) (by decide)
  have soft : Fld.DEV_CTRL_SOFT.of (Fld.DEV_CTRL_KEY.put 0xA7 (Fld.DEV_CTRL_SOFT.put 0 (Fld.DEV_CTRL_WARM.put 1 d))) = 0 :=
    (Fld.of_put_ne _ _ _ _ (by decide) (by decide)).trans (Fld.of_put_same _ _ _ (by decide) (by decide))
  have warm : Fld.DEV_CTRL_WARM.of (Fld.DEV_CTRL_KEY.put 0xA7 (Fld.DEV_CTRL_SOFT.put 0 (Fld.DEV_CTRL_WARM.put 1 d))) = 1 :=
    (Fld.of_put_ne _ _ _ _ (by decide) (by decide)).trans
      ((Fld.of_put_ne _ _ _ _ (by decide) (by decide)).trans (Fld.of_put_same _ _ _ (by decide) (by decide)))
  rw [devCtrlReset, if_neg (not_not_intro key), if_neg (by rw [soft]; decide), if_pos warm]

/-- The MSPI error counts after a write of DEV_CTRL. -/
def State.clearMspiErr (s : State) (d : Word) : State := if Fld.DEV_CTRL_ERR_CLR.of d = 1 then s.wr Reg.DEV_MSPI_ERR 0 else s

theorem State.clearMspiErr_beside (s : State) (d : Word) : s.clearMspiErr d = { s with regs := (s.clearMspiErr d).regs } := by
  unfold State.clearMspiErr
  split_ifs <;> rfl

theorem State.clearMspiErr_regsBut (s : State) (d : Word) : s.regsBut (s.clearMspiErr d) [Reg.DEV_MSPI_ERR] := by
  unfold State.clearMspiErr
  split_ifs
  · exact (State.regsBut.refl s _).wr _ (by simp)
  · exact State.regsBut.refl s _

/-- A reset asked for by a requester that gets no MGA begins with the write's answer. -/
theorem State.devCtrlWrite_resets (h : devCtrlReset d = some k) (hg : q ≠ .mgq) (hp : q ≠ .proctor) (turn : s.inTurn q) :
    (s.devCtrlWrite q d).answered q = (s.clearMspiErr d).softOrWarm k := by
  unfold State.devCtrlWrite
  rw [h]
  cases q with
  | mgq => exact absurd rfl hg
  | proctor => exact absurd rfl hp
  | dean => rfl
  | tutor n => rfl
  | mspi =>
    obtain ⟨-, -, -, -, after⟩ := turn rfl
    have same : { (s.clearMspiErr d).boot with afterMspi := none } = (s.clearMspiErr d).boot := by
      rw [State.clearMspiErr_beside, ← after]
    show State.softOrWarm { s.clearMspiErr d with boot := { (s.clearMspiErr d).boot with afterMspi := none } } k = _
    rw [same]

theorem State.devCtrlWrite_proctor (h : devCtrlReset d = some k) :
    s.devCtrlWrite .proctor d = s.merr .proctor Reg.DEV_CTRL true false stDenied := by
  unfold State.devCtrlWrite
  rw [h]

theorem State.devCtrlWrite_mgq (h : devCtrlReset d = some k) : s.devCtrlWrite .mgq d =
    { s.clearMspiErr d with boot := { (s.clearMspiErr d).boot with afterMga := (s.clearMspiErr d).boot.afterMga ++ [.reset k] } } := by
  unfold State.devCtrlWrite
  rw [h]
  rfl

theorem exec_devCtrlSoft (h : s.passes q Reg.DEV_CTRL true) (d : Word) : exec (.devCtrlSoft q d) s =
    .next ((s.devCtrlWrite q (Fld.DEV_CTRL_KEY.put 0xA7 (Fld.DEV_CTRL_SOFT.put 1 d))).answered q) :=
  exec_access (f := fun s => (s.devCtrlWrite q (Fld.DEV_CTRL_KEY.put 0xA7 (Fld.DEV_CTRL_SOFT.put 1 d))).answered q) h rfl

theorem exec_devCtrlWarm (h : s.passes q Reg.DEV_CTRL true) (d : Word) : exec (.devCtrlWarm q d) s =
    .next ((s.devCtrlWrite q (Fld.DEV_CTRL_KEY.put 0xA7 (Fld.DEV_CTRL_SOFT.put 0 (Fld.DEV_CTRL_WARM.put 1 d)))).answered q) :=
  exec_access (f := fun s => (s.devCtrlWrite q (Fld.DEV_CTRL_KEY.put 0xA7 (Fld.DEV_CTRL_SOFT.put 0 (Fld.DEV_CTRL_WARM.put 1 d)))).answered q) h rfl

/-- A SOFT or watchdog reset with DETAIN_N high: the start at step 2, the attempt counter and the straps kept (R437, R440). -/
theorem State.beginStart_soft (s : State) (hr : s.pins.refclk = true) (hd : s.pins.detain = 0) (hk : k = .soft ∨ k = .watchdog) :
    (s.beginStart k).blocksEmpty ∧ (s.beginStart k).fld Fld.BOOT_STATUS_STEP = 2 ∧ (s.beginStart k).boot.kind = k ∧
    (s.beginStart k).fld Fld.DEV_RESET_INFO_KIND = k.code ∧
    (s.beginStart k).fld Fld.BOOT_ATTEMPTS_COUNT = s.fld Fld.BOOT_ATTEMPTS_COUNT ∧
    (s.beginStart k).fld Fld.DEV_STRAPS_BOARD_ID = s.fld Fld.DEV_STRAPS_BOARD_ID := by
  have hk' : k ≠ .por := by rcases hk with rfl | rfl <;> decide
  obtain ⟨empty, step, boot, -⟩ := s.beginStart_empties hr hd k
  obtain ⟨-, -, -, regs⟩ := s.beginStart_high hr hd k
  have reads (f : Fld) (hf : f.addr ≠ Reg.BOOT_STATUS) : (s.beginStart k).fld f = (s.coldReset k).fld f := State.fld_congr (regs _ hf)
  refine ⟨empty, step, by rw [boot]; rfl, ?_, ?_, ?_⟩
  · exact (reads _ (by decide)).trans (s.fld_coldReset_info hk').1
  · exact (reads _ (by decide)).trans (State.fld_congr (s.rd_coldReset_bootAttempts hk'))
  · exact (reads _ (by decide)).trans (State.fld_congr (s.rd_coldReset_straps hk))

/-- Settles O2: every reset but WARM is a `beginStart`, on the state with the balls set or the MSPI error counts cleared. -/
theorem aColdResetEmptiesTheBlocks : Obligations.AColdResetEmptiesTheBlocks := by
  intro b f n q d s
  refine ⟨⟨_, rfl, ?por⟩, ⟨_, rfl, State.beginStart_noClock _ rfl .por (by decide)⟩, ⟨_, rfl, ?pin⟩, ?soft, ?watchdog, ?proctor⟩
  case por =>
    obtain ⟨empty, step, boot, ticks⟩ := (s.setBalls b.val f.val 0 true).beginStart_empties rfl rfl .por
    obtain ⟨-, -, detained, regs⟩ := (s.setBalls b.val f.val 0 true).beginStart_high rfl rfl .por
    obtain ⟨board, mode⟩ := (s.setBalls b.val f.val 0 true).fld_coldReset_straps (.inl rfl) b.isLt f.isLt
    refine ⟨empty, step, detained.trans (State.coldReset_undetained _ (.inl rfl)), by rw [boot]; rfl,
      (regs _ (by decide)).trans (State.rd_coldReset_info _), ticks, by rw [boot]; rfl,
      (State.fld_congr (regs _ (by decide))).trans board, (State.fld_congr (regs _ (by decide))).trans mode⟩
  case pin =>
    obtain ⟨empty, step, boot, ticks⟩ := (s.setBalls b.val f.val 0 true).beginStart_empties rfl rfl .pin
    obtain ⟨-, -, detained, regs⟩ := (s.setBalls b.val f.val 0 true).beginStart_high rfl rfl .pin
    obtain ⟨board, mode⟩ := (s.setBalls b.val f.val 0 true).fld_coldReset_straps (.inr rfl) b.isLt f.isLt
    obtain ⟨kind, count⟩ := (s.setBalls b.val f.val 0 true).fld_coldReset_info (k := .pin) (by decide)
    exact ⟨empty, step, detained.trans (State.coldReset_undetained _ (.inr rfl)), by rw [boot]; rfl,
      (State.fld_congr (regs _ (by decide))).trans kind, (State.fld_congr (regs _ (by decide))).trans count, ticks,
      (State.fld_congr (regs _ (by decide))).trans board, (State.fld_congr (regs _ (by decide))).trans mode, rfl⟩
  case soft =>
    intro detain refclk passes mgq proctor
    have run := exec_devCtrlSoft passes d
    rw [State.devCtrlWrite_resets (devCtrlReset_soft d) mgq proctor passes.1] at run
    refine ⟨_, run, ?_⟩
    rw [State.softOrWarm, if_neg (by decide)]
    have pins := congrArg State.pins (s.clearMspiErr_beside (Fld.DEV_CTRL_KEY.put 0xA7 (Fld.DEV_CTRL_SOFT.put 1 d)))
    have regs := s.clearMspiErr_regsBut (Fld.DEV_CTRL_KEY.put 0xA7 (Fld.DEV_CTRL_SOFT.put 1 d))
    obtain ⟨empty, step, kind, info, count, board⟩ := (s.clearMspiErr (Fld.DEV_CTRL_KEY.put 0xA7 (Fld.DEV_CTRL_SOFT.put 1 d))).beginStart_soft
      ((congrArg Pins.refclk pins).trans refclk) ((congrArg Pins.detain pins).trans detain) (.inl rfl)
    exact ⟨empty, step, kind, info, count.trans (regs.fld _ (by decide)), board.trans (regs.fld _ (by decide))⟩
  case watchdog =>
    intro detain refclk complete step state halted
    have run : exec .watchdogExpiry s = .next (s.beginStart .watchdog) := by
      show execWatchdogExpiry s = _
      rw [execWatchdogExpiry, complete, step, halted, if_pos (by simp [state])]
    obtain ⟨empty, step, kind, info, -, board⟩ := s.beginStart_soft refclk detain (.inr rfl)
    exact ⟨_, run, empty, step, kind, info, board⟩
  case proctor =>
    rintro c (rfl | rfl) passes
    · have run := exec_devCtrlSoft passes d
      rw [State.devCtrlWrite_proctor (devCtrlReset_soft d)] at run
      exact ⟨_, run, State.merr_status _ _ _ (by decide), State.rd_merr_addr _ _ _, State.merr_onlyRegs _ _ _⟩
    · have run := exec_devCtrlWarm passes d
      rw [State.devCtrlWrite_proctor (devCtrlReset_warm d)] at run
      exact ⟨_, run, State.merr_status _ _ _ (by decide), State.rd_merr_addr _ _ _, State.merr_onlyRegs _ _ _⟩

/-! ### A WARM reset (R440, R441, R478) -/

/-- The fields that a WARM reads back live stand outside the DEV and BOOT registers. -/
theorem liveFields_apart {f : Fld} (hf : f ∈ liveFields) : 0x20000 ≤ f.addr := by
  simp only [liveFields, List.mem_append, List.mem_cons, List.mem_flatMap, List.mem_range, List.not_mem_nil, or_false] at hf
  rcases hf with ((hf | ⟨c, -, hf⟩) | ⟨g, -, hf | ⟨x, -, hf⟩⟩) | ⟨p, -, hf⟩
  · rcases hf with rfl | rfl | rfl | rfl | rfl | rfl | rfl | rfl | rfl | rfl | rfl | rfl | rfl | rfl | rfl | rfl | rfl | rfl | rfl <;> decide
  · rcases hf with rfl | rfl <;> (simp only [Reg.SFD_CLASSc]; omega)
  · rcases hf with rfl | rfl | rfl | rfl <;>
      (simp only [Reg.RFE_PGg_LOSEL, Reg.LIN_PGg_PD_ACTIVE, Reg.LIN_PGg_COMP_STATUS]; omega)
  · rcases hf with rfl | rfl <;> (simp only [Reg.RFE_PGg_LOx_STATUS]; omega)
  · rcases hf with rfl | rfl | rfl | rfl | rfl | rfl | rfl <;>
      (simp only [Reg.DLC_PATHp_DLY, Reg.ULC_PATHp_DLY, Reg.LIN_PATHp_GAIN_STATUS, Reg.LIN_PATHp_LOOP_STATUS, Reg.ULC_PATHp_RSSI]; omega)

theorem State.rd_keepFields {old : State} {fs : List Fld} (h : ∀ f ∈ fs, f.addr ≠ a) (s : State) : (s.keepFields old fs).rd a = s.rd a :=
  foldl_keeps_mem (fun u => u.rd a) _ fs (fun _ f hf => State.rd_wr_ne _ _ (h f hf).symm) s

/-- `t` and `s` differ in registers alone. -/
def State.beside (s t : State) : Prop := ∃ r, t = { s with regs := r }

theorem State.beside.refl (s : State) : s.beside s := ⟨_, rfl⟩

theorem State.beside.trans {u : State} (h : s.beside t) (h' : t.beside u) : s.beside u := by
  obtain ⟨r, rfl⟩ := h
  obtain ⟨r', rfl⟩ := h'
  exact ⟨_, rfl⟩

theorem State.beside.wr (h : s.beside t) (a : Nat) (w : Word) : s.beside (t.wr a w) := h.trans ⟨_, rfl⟩

theorem State.beside.setFld (h : s.beside t) (f : Fld) (v : Nat) : s.beside (t.setFld f v) := h.wr _ _

theorem State.beside.foldl {α : Type} {f : State → α → State} (h : s.beside t) (hf : ∀ (u : State) x, u.beside (f u x)) (l : List α) : s.beside (l.foldl f t) := by
  induction l generalizing t with
  | nil => exact h
  | cons x l ih => exact ih (h.trans (hf t x))

theorem State.keepFields_beside (s old : State) (fs : List Fld) : s.beside (s.keepFields old fs) :=
  (State.beside.refl s).foldl (fun u f => (State.beside.refl u).setFld f _) fs

/-- The release of the cores changes the cores and their registers alone. -/
theorem State.startCores_beside (s : State) : ∃ r c, s.startCores = { s with regs := r, cores := c } := by
  have released (l : List Nat) (u : State) : ∃ r c, l.foldl (fun s c => (s.setFld (Fld.CORE_CTRL_RST c) 0).releaseCore c) u =
      { u with regs := r, cores := c } := by
    induction l generalizing u with
    | nil => exact ⟨_, _, rfl⟩
    | cons n l ih =>
      obtain ⟨r, c, same⟩ := ih ((u.setFld (Fld.CORE_CTRL_RST n) 0).releaseCore n)
      exact ⟨r, c, same⟩
  unfold State.startCores
  split_ifs
  · exact ⟨_, _, rfl⟩
  · exact released _ s

theorem State.rd_startCores (h : a < 0x410000) (s : State) : s.startCores.rd a = s.rd a := by
  have apart (x y : Nat) (hx : 0x410000 ≤ x) (hy : 0x410000 ≤ y) (c : Nat) : a ≠ if c < 12 then x + 0x40000 * c else y := by
    split_ifs <;> omega
  have released (c : Nat) (u : State) : ((u.setFld (Fld.CORE_CTRL_RST c) 0).releaseCore c).rd a = u.rd a := by
    unfold State.releaseCore
    exact (State.rd_wr_ne _ _ (apart 0x410028 0x740028 (by decide) (by decide) c)).trans
      ((State.rd_wr_ne _ _ (apart 0x410024 0x740024 (by decide) (by decide) c)).trans
      ((State.rd_wr_ne _ _ (apart 0x410008 0x740008 (by decide) (by decide) c)).trans
      ((State.rd_wr_ne _ _ (apart 0x410004 0x740004 (by decide) (by decide) c)).trans
      (State.rd_wr_ne _ _ (apart 0x410000 0x740000 (by decide) (by decide) c)))))
  unfold State.startCores
  split_ifs
  · rfl
  · exact foldl_keeps (fun u => u.rd a) _ (fun u c => released c u) _ s

/-- A reset that finds no fuse command running leaves the fuses (R83). -/
theorem State.spoiled_fuses (hs : s.sec.running = none) : s.spoilFlash.spoilFuses.fuses = s.fuses := by
  have sector (t : State) (b : Nat) : (t.spoilSector b).fuses = t.fuses := by
    rw [State.spoilSector, State.useFresh_fuses, State.putFlash_fuses]
  have sec : s.spoilFlash.sec.running = none := (congrArg SecState.running (State.spoilFlash_keeps s (g := State.sec) (fun _ _ _ _ => rfl))).trans hs
  have unspoiled : s.spoilFlash.spoilFuses = s.spoilFlash := by rw [State.spoilFuses, sec]
  rw [unspoiled]
  unfold State.spoilFlash
  extract_lets erased written
  have herased : erased.fuses = s.fuses := by
    unfold erased
    split
    · split
      · exact sector _ _
      · rfl
    · rfl
  have hwritten : written.fuses = erased.fuses := by
    unfold written
    split
    · exact sector _ _
    · rfl
  rw [← herased, ← hwritten]
  split
  · split
    · rfl
    · exact sector _ _
  · exact sector _ _
  · rfl

/-- A WARM reset: blocks beside the registers emptied, the registers of class N cleared, and then the live and the BOOT fields put back. -/
theorem State.warmReset_parts (s : State) : ∃ u : State,
    s.warmReset = (((((u.resetInfo .warm).keepFields s liveFields).keepFields s warmBootFields).setFld Fld.BOOT_STATUS_STEP 13).senseFuses).showPower ∧
    u.regs = resetRegs (fun _ => clearedBy .warm) s.regs ∧ u.store = s.store ∧ u.ecc = s.ecc ∧ u.domains = s.domains ∧ u.air = s.air ∧
    u.fuses = s.spoilFlash.spoilFuses.fuses ∧ u.time = s.time ∧ u.lin.banks = s.lin.banks ∧ u.sfd.sets = s.sfd.sets ∧ u.queues = [] ∧
    u.dma = [] ∧ u.raise = [] ∧ u.link = LinkState.idle ∧ u.boot.kind = .warm := by
  refine ⟨_, rfl, ?_⟩
  rw [← State.spoiled_keeps s (g := State.regs) (fun _ _ _ _ => rfl), ← State.spoiled_keeps s (g := State.store) (fun _ _ _ _ => rfl),
    ← State.spoiled_keeps s (g := State.ecc) (fun _ _ _ _ => rfl), ← State.spoiled_keeps s (g := State.domains) (fun _ _ _ _ => rfl),
    ← State.spoiled_keeps s (g := State.air) (fun _ _ _ _ => rfl), ← State.spoiled_keeps s (g := State.time) (fun _ _ _ _ => rfl),
    ← State.spoiled_keeps s (g := State.lin) (fun _ _ _ _ => rfl), ← State.spoiled_keeps s (g := State.sfd) (fun _ _ _ _ => rfl)]
  exact ⟨rfl, rfl, rfl, rfl, rfl, rfl, rfl, rfl, rfl, rfl, rfl, rfl, rfl, rfl⟩

theorem State.senseFuses_beside (s : State) : s.beside s.senseFuses := ⟨_, rfl⟩

theorem State.showPower_beside (s : State) : s.beside s.showPower := ⟨_, rfl⟩

theorem State.rd_senseFuses_ne (h : a ≠ Reg.PROC_STATUS) (s : State) : s.senseFuses.rd a = s.rd a :=
  (State.rd_wr_ne _ _ h).trans ((State.rd_wr_ne _ _ h).trans (State.rd_wr_ne _ _ h))

theorem State.rd_showPower_ne (h : a ≠ Reg.PWR_STATUS) (hp : a ≠ Reg.PWR_PG_STATUS) (s : State) : s.showPower.rd a = s.rd a :=
  (State.rd_wr_ne _ _ hp).trans (State.rd_wr_ne _ _ h)

/-- What stands beside the registers after a WARM reset and the release of the cores. -/
theorem State.warmStart_beside (s : State) (hs : s.sec.running = none) (t : State) (ht : t = s.warmReset.startCores) :
    t.store = s.store ∧ t.ecc = s.ecc ∧ t.domains = s.domains ∧ t.air = s.air ∧ t.fuses = s.fuses ∧ t.time = s.time ∧
    t.lin.banks = s.lin.banks ∧ t.sfd.sets = s.sfd.sets ∧ t.queues = [] ∧ t.dma = [] ∧ t.raise = [] ∧ t.link = LinkState.idle ∧
    t.boot.kind = .warm := by
  obtain ⟨u, parts, -, store, ecc, domains, air, fuses, time, banks, sets, queues, dma, raise, link, kind⟩ := s.warmReset_parts
  obtain ⟨r, c, cores⟩ := s.warmReset.startCores_beside
  have loads : u.beside s.warmReset := by
    rw [parts]
    refine State.beside.trans (t := (u.resetInfo .warm)) ⟨_, State.resetInfo_beside u .warm⟩ ?_
    refine State.beside.trans (State.keepFields_beside _ s liveFields) (State.beside.trans (State.keepFields_beside _ s warmBootFields) ?_)
    exact (((State.beside.refl _).setFld _ _).trans (State.senseFuses_beside _)).trans (State.showPower_beside _)
  obtain ⟨r', loads⟩ := loads
  rw [ht, cores, loads]
  exact ⟨store, ecc, domains, air, fuses.trans (State.spoiled_fuses hs), time, banks, sets, queues, dma, raise, link, kind⟩

/-- The DEV and BOOT registers that neither the loads after a WARM reset nor the fields it puts back write. -/
theorem State.rd_warmReset (s : State) : ∃ u : State, u.rd Reg.BOOT_ATTEMPTS = s.rd Reg.BOOT_ATTEMPTS ∧
    ∀ a, a < 0x20000 → a ≠ Reg.BOOT_STATUS → a ≠ Reg.BOOT_IMAGE_VER → s.warmReset.startCores.rd a = (u.resetInfo .warm).rd a := by
  obtain ⟨u, parts, regs, -⟩ := s.warmReset_parts
  refine ⟨u, State.rd_of_resetRegs (ks := fun _ => clearedBy .warm) regs (by decide), fun a ha status version => ?_⟩
  rw [State.rd_startCores (by omega), parts]
  have live : ∀ f ∈ liveFields, f.addr ≠ a := fun f hf => by have := liveFields_apart hf; omega
  have boot : ∀ f ∈ warmBootFields, f.addr ≠ a := fun f hf => by
    simp only [warmBootFields, List.mem_cons, List.not_mem_nil, or_false] at hf
    rcases hf with rfl | rfl | rfl | rfl | rfl | rfl | rfl
    exacts [status.symm, status.symm, status.symm, status.symm, status.symm, status.symm, version.symm]
  rw [State.rd_showPower_ne (by simp only [Reg.PWR_STATUS]; omega) (by simp only [Reg.PWR_PG_STATUS]; omega),
    State.rd_senseFuses_ne (by simp only [Reg.PROC_STATUS]; omega), State.rd_setFld_ne _ _ _ status, State.rd_keepFields boot,
    State.rd_keepFields live]

/-- The start resumes at step 13. -/
theorem State.warmReset_step (s : State) : s.warmReset.startCores.fld Fld.BOOT_STATUS_STEP = 13 := by
  obtain ⟨u, parts, -⟩ := s.warmReset_parts
  rw [State.fld_congr (State.rd_startCores (by decide) s.warmReset), parts]
  generalize ((u.resetInfo .warm).keepFields s liveFields).keepFields s warmBootFields = v
  rw [State.fld_congr (State.rd_showPower_ne (by decide) (by decide) _), State.fld_congr (State.rd_senseFuses_ne (by decide) _)]
  exact State.fld_setFld_same _ _ _ (by decide) (by decide)

/-- A WARM outside a power transition is performed at once; before step 13 and in Detention mode it is ignored (R441). -/
theorem State.softOrWarm_performed (hstep : 13 ≤ s.fld Fld.BOOT_STATUS_STEP) (hd : s.on Fld.BOOT_STATUS_DETAINED = false)
    (hp : s.pwr.trans = none) : s.softOrWarm .warm = s.warmReset.startCores := by
  have late : decide (s.fld Fld.BOOT_STATUS_STEP < 13) = false := decide_eq_false (by omega)
  have direct : s.warmRequest = s.warmReset.startCores := by
    unfold State.warmRequest
    rw [late, hd, hp, if_neg (by decide), if_neg (by decide)]
  rw [State.softOrWarm, if_pos rfl, direct]

theorem State.softOrWarm_ignored (h : s.fld Fld.BOOT_STATUS_STEP < 13 ∨ s.on Fld.BOOT_STATUS_DETAINED = true) :
    s.softOrWarm .warm = s := by
  rw [State.softOrWarm, if_pos rfl, State.warmRequest, if_pos (by simpa using h)]

/-- A write of DEV_CTRL that asks for no reset clears the MSPI error counts alone. -/
theorem State.devCtrlWrite_errClr (turn : s.inTurn q) (d : Word) :
    (s.devCtrlWrite q (Fld.DEV_CTRL_SOFT.put 0 (Fld.DEV_CTRL_WARM.put 0 (Fld.DEV_CTRL_ERR_CLR.put 1 d)))).answered q = s.wr Reg.DEV_MSPI_ERR 0 := by
  have soft : Fld.DEV_CTRL_SOFT.of (Fld.DEV_CTRL_SOFT.put 0 (Fld.DEV_CTRL_WARM.put 0 (Fld.DEV_CTRL_ERR_CLR.put 1 d))) = 0 :=
    Fld.of_put_same _ _ _ (by decide) (by decide)
  have warm : Fld.DEV_CTRL_WARM.of (Fld.DEV_CTRL_SOFT.put 0 (Fld.DEV_CTRL_WARM.put 0 (Fld.DEV_CTRL_ERR_CLR.put 1 d))) = 0 :=
    (Fld.of_put_ne _ _ _ _ (by decide) (by decide)).trans (Fld.of_put_same _ _ _ (by decide) (by decide))
  have clear : Fld.DEV_CTRL_ERR_CLR.of (Fld.DEV_CTRL_SOFT.put 0 (Fld.DEV_CTRL_WARM.put 0 (Fld.DEV_CTRL_ERR_CLR.put 1 d))) = 1 :=
    (Fld.of_put_ne _ _ _ _ (by decide) (by decide)).trans
      ((Fld.of_put_ne _ _ _ _ (by decide) (by decide)).trans (Fld.of_put_same _ _ _ (by decide) (by decide)))
  have none : devCtrlReset (Fld.DEV_CTRL_SOFT.put 0 (Fld.DEV_CTRL_WARM.put 0 (Fld.DEV_CTRL_ERR_CLR.put 1 d))) = none := by
    rw [devCtrlReset, soft, warm, if_neg (by decide : ¬ 0 = 1), if_neg (by decide : ¬ 0 = 1), ite_self]
  have write : s.devCtrlWrite q (Fld.DEV_CTRL_SOFT.put 0 (Fld.DEV_CTRL_WARM.put 0 (Fld.DEV_CTRL_ERR_CLR.put 1 d))) = s.wr Reg.DEV_MSPI_ERR 0 := by
    unfold State.devCtrlWrite
    rw [none]
    exact if_pos clear
  rw [write, State.answered]
  split_ifs with hq
  · obtain ⟨-, -, -, -, after⟩ := turn hq
    rw [State.mspiReset, State.wr_boot, after]
  · rfl

/-- Settles O5: an accepted WARM is `warmReset` and the release of the cores; an ignored one and ERR_CLR reach DEV_MSPI_ERR alone. -/
theorem aWarmResetKeepsTheStoreAndTheDomains : Obligations.AWarmResetKeepsTheStoreAndTheDomains := by
  intro q d s passes
  refine ⟨?performed, ?ignored, ?errClr, ?mgq⟩
  case performed =>
    intro mgq proctor hstep detained trans running
    have run := exec_devCtrlWarm passes d
    rw [State.devCtrlWrite_resets (devCtrlReset_warm d) mgq proctor passes.1] at run
    generalize Fld.DEV_CTRL_KEY.put 0xA7 (Fld.DEV_CTRL_SOFT.put 0 (Fld.DEV_CTRL_WARM.put 1 d)) = w at run
    have regs := s.clearMspiErr_regsBut w
    obtain ⟨r, same⟩ : s.beside (s.clearMspiErr w) := ⟨_, s.clearMspiErr_beside w⟩
    generalize s.clearMspiErr w = u at run regs same
    rw [State.softOrWarm_performed (by rwa [regs.fld _ (by decide)]) (by rwa [State.on, regs.fld _ (by decide)]) (by rw [same]; exact trans)] at run
    obtain ⟨store, ecc, domains, air, fuses, time, banks, sets, queues, dma, raise, link, kind⟩ :=
      u.warmStart_beside (by rw [same]; exact running) _ rfl
    obtain ⟨v, attempts, loaded⟩ := u.rd_warmReset
    refine ⟨_, run, u.warmReset_step, ?_⟩
    generalize u.warmReset.startCores = t at *
    subst same
    refine ⟨store, ecc, domains, air, fuses, time, banks, sets, queues, dma, raise, link, ?_, ?_, kind⟩
    · have count : t.rd Reg.BOOT_ATTEMPTS = s.rd Reg.BOOT_ATTEMPTS := by
        rw [loaded _ (by decide) (by decide) (by decide), State.rd_resetInfo_ne _ (by decide), attempts, regs _ (by decide)]
      exact State.fld_congr count
    · exact (State.fld_congr (loaded _ (by decide) (by decide) (by decide))).trans (State.fld_resetInfo (by decide)).1
  case ignored =>
    intro mgq proctor early
    have run := exec_devCtrlWarm passes d
    rw [State.devCtrlWrite_resets (devCtrlReset_warm d) mgq proctor passes.1] at run
    generalize Fld.DEV_CTRL_KEY.put 0xA7 (Fld.DEV_CTRL_SOFT.put 0 (Fld.DEV_CTRL_WARM.put 1 d)) = w at run
    have regs := s.clearMspiErr_regsBut w
    rw [State.softOrWarm_ignored (by rwa [State.on, regs.fld _ (by decide), regs.fld _ (by decide)])] at run
    exact ⟨_, run, s.clearMspiErr_beside w, regs⟩
  case errClr =>
    have run : exec (.devCtrlErrClr q d) s = _ := exec_access (f := fun s =>
      (s.devCtrlWrite q (Fld.DEV_CTRL_SOFT.put 0 (Fld.DEV_CTRL_WARM.put 0 (Fld.DEV_CTRL_ERR_CLR.put 1 d)))).answered q) passes rfl
    rw [State.devCtrlWrite_errClr passes.1] at run
    exact ⟨_, run, State.rd_wr_same _ _ _, rfl, (State.regsBut.refl s _).wr _ (by simp)⟩
  case mgq =>
    rintro rfl
    have run := exec_devCtrlSoft passes d
    rw [State.devCtrlWrite_mgq (devCtrlReset_soft d)] at run
    generalize Fld.DEV_CTRL_KEY.put 0xA7 (Fld.DEV_CTRL_SOFT.put 1 d) = w at run
    have regs := s.clearMspiErr_regsBut w
    obtain ⟨r, same⟩ : s.beside (s.clearMspiErr w) := ⟨_, s.clearMspiErr_beside w⟩
    generalize s.clearMspiErr w = u at run regs same
    subst same
    exact ⟨_, run, rfl, rfl, regs⟩

end Machine
end Sys2Proof

/-!
PROOFS. The link on its way up and in TEST (O23, O24, O26).
-/

namespace Sys2Proof.Machine

variable {s t : State} {as : List Nat} {a n : Nat} {q : Requester} {d : Word} {f : State → Nat → State}

/-! ### Passes over the numbers below `n` -/

theorem State.forEach_succ (s : State) (n : Nat) (f : State → Nat → State) : s.forEach (n + 1) f = f (s.forEach n f) n := by
  simp only [State.forEach, List.range_succ, List.foldl_append, List.foldl_cons, List.foldl_nil]

/-- What one number alone changes is as that number's turn leaves it. -/
theorem State.forEach_once {γ δ : Type} (g : State → γ) (i : State → δ) {e : Nat} (he : e < n)
    (hg : ∀ u k, k < n → k ≠ e → g (f u k) = g u) (hi : ∀ u k, i (f u k) = i u) (s : State) :
    ∃ u, g u = g s ∧ i u = i s ∧ g (s.forEach n f) = g (f u e) := by
  induction n with
  | zero => exact absurd he (Nat.not_lt_zero _)
  | succ n ih =>
    rw [State.forEach_succ]
    by_cases hn : e = n
    · subst hn
      exact ⟨s.forEach e f, State.forEach_keeps_lt g f e (fun u k hk => hg u k (by omega) (by omega)) s, State.forEach_keeps i f hi e s, rfl⟩
    · obtain ⟨u, hu, hiu, turn⟩ := ih (by omega) (fun u k hk => hg u k (by omega))
      exact ⟨u, hu, hiu, (hg _ n (by omega) (fun h => hn h.symm)).trans turn⟩

theorem State.beside.forEach (h : s.beside t) (hf : ∀ (u : State) k, u.beside (f u k)) (n : Nat) : s.beside (t.forEach n f) :=
  h.foldl hf _

theorem State.regsBut.forEach (h : s.regsBut t as) (n : Nat) (hf : ∀ (u : State) k, k < n → u.regsBut (f u k) as) : s.regsBut (t.forEach n f) as := by
  intro b hb
  exact (State.forEach_keeps_lt (fun u => u.rd b) f n (fun u k hk => hf u k hk b hb) t).trans (h b hb)

theorem linkIs_iff (s : State) (x : Nat) : s.linkIs x = true ↔ s.fld Fld.LNK_STATUS_STATE = x := by
  simp [State.linkIs, State.linkState]

theorem State.linkIs_congr (h : t.rd Reg.LNK_STATUS = s.rd Reg.LNK_STATUS) (x : Nat) : t.linkIs x = s.linkIs x := by
  simp only [State.linkIs, State.linkState, State.fld, h]

/-- A link in one state is in no other. -/
theorem State.linkIs_ne {x y : Nat} (h : s.linkIs x = true) (hxy : x ≠ y) : s.linkIs y = false := by
  rw [linkIs_iff] at h
  simp [State.linkIs, State.linkState, h, hxy]

theorem State.linkIs_setState (s : State) {x : Nat} (hx : x < 8) : (s.setFld Fld.LNK_STATUS_STATE x).linkIs x = true := by
  rw [linkIs_iff]
  exact State.fld_setFld_same _ _ _ (by decide) hx

theorem State.on_setFld_one (s : State) (f : Fld) (h : f.hi < 32) (hf : f.lo ≤ f.hi) : (s.setFld f 1).on f = true := by
  have : 1 < 2 ^ (f.hi + 1 - f.lo) := Nat.one_lt_two_pow (by omega)
  simp [State.on, State.fld_setFld_same s f 1 h this]

/-! ### Bring-up (R107 to R110) -/

theorem laneStatus_mem {e : Nat} (h : e < 44) : Reg.LNK_LANE_STATUSe e ∈ Reg.LNK_STATUS :: (List.range 44).map Reg.LNK_LANE_STATUSe :=
  List.mem_cons_of_mem _ (List.mem_map_of_mem (List.mem_range.mpr h))

theorem laneStatus_ne {a : Nat} (h : a < 0x80100) (e : Nat) : a ≠ Reg.LNK_LANE_STATUSe e := by
  simp only [Reg.LNK_LANE_STATUSe]
  omega

theorem laneStatus_inj {e k : Nat} (h : k ≠ e) : Reg.LNK_LANE_STATUSe e ≠ Reg.LNK_LANE_STATUSe k := by
  simp only [Reg.LNK_LANE_STATUSe]
  omega

/-- Every lane's status cleared but HDR_ERR and EQ_DEFAULT. -/
def State.clearLanes (s : State) : State :=
  s.forEach 44 (fun s e => s.wr (Reg.LNK_LANE_STATUSe e) (s.rd (Reg.LNK_LANE_STATUSe e) &&& 0xFFFF0010#32))

theorem State.rd_clearLanes (s : State) {e : Nat} (he : e < 44) :
    s.clearLanes.rd (Reg.LNK_LANE_STATUSe e) = s.rd (Reg.LNK_LANE_STATUSe e) &&& 0xFFFF0010#32 := by
  obtain ⟨v, hv, -, turn⟩ := State.forEach_once (f := fun s e => s.wr (Reg.LNK_LANE_STATUSe e) (s.rd (Reg.LNK_LANE_STATUSe e) &&& 0xFFFF0010#32))
    (fun u => u.rd (Reg.LNK_LANE_STATUSe e)) (fun _ => ()) he (fun u k _ hk => State.rd_wr_ne _ _ (laneStatus_inj hk)) (fun _ _ => rfl) s
  exact turn.trans ((State.rd_wr_same _ _ _).trans (congrArg (· &&& 0xFFFF0010#32) hv))

theorem State.clearLanes_regsBut (s : State) : s.regsBut s.clearLanes (Reg.LNK_STATUS :: (List.range 44).map Reg.LNK_LANE_STATUSe) :=
  (State.regsBut.refl s _).forEach 44 (fun v _ hk => (State.regsBut.refl v _).wr _ (laneStatus_mem hk))

theorem State.clearLanes_beside (s : State) : s.beside s.clearLanes :=
  (State.beside.refl s).forEach (fun v _ => (State.beside.refl v).wr _ _) 44

/-- LNK_WIDTH_MAX as a bring-up takes it. -/
def State.takeMaxes (s : State) : State :=
  { s with link := { s.link with maxes := (List.range 4).map (fun b => getField (4 * b + 3) (4 * b) (s.rd Reg.LNK_WIDTH_MAX)) } }

theorem execLinkDownExit_passes (hl : s.linkIs lnkDown = true) (he : s.on Fld.LNK_CTRL_ENABLE = true)
    (hr : s.on Fld.CLK_STATUS_ROOT_LOCK = true) (hx : s.on Fld.LNK_RETRY_EXHAUSTED = false) (hp : s.domOn pdLnk = true) :
    exec .linkDownExit s = .next (s.clearLanes.takeMaxes.setFld Fld.LNK_STATUS_STATE lnkDetect) := by
  show execLinkDownExit s = _
  rw [execLinkDownExit, hl, he, hr, hx, hp]
  rfl

/-- DETECT is entered, given what the clearing of the lanes leaves. -/
theorem State.takeMaxes_detects {u : State} (lanes : ∀ e < 44, u.rd (Reg.LNK_LANE_STATUSe e) = s.rd (Reg.LNK_LANE_STATUSe e) &&& 0xFFFF0010#32)
    (regs : s.regsBut u (Reg.LNK_STATUS :: (List.range 44).map Reg.LNK_LANE_STATUSe)) (same : s.beside u) (t : State)
    (ht : t = u.takeMaxes.setFld Fld.LNK_STATUS_STATE lnkDetect) :
    t.linkIs lnkDetect = true ∧ (∀ e < 44, t.rd (Reg.LNK_LANE_STATUSe e) = s.rd (Reg.LNK_LANE_STATUSe e) &&& 0xFFFF0010#32) ∧
    (∀ b < 4, t.widthMax b = getField (4 * b + 3) (4 * b) (s.rd Reg.LNK_WIDTH_MAX)) ∧
    t = { s with regs := t.regs, link := { s.link with maxes := t.link.maxes } } ∧
    s.regsBut t (Reg.LNK_STATUS :: (List.range 44).map Reg.LNK_LANE_STATUSe) := by
  have apart : Reg.LNK_WIDTH_MAX ∉ Reg.LNK_STATUS :: (List.range 44).map Reg.LNK_LANE_STATUSe := by
    simp only [List.mem_cons, List.mem_map, not_or, not_exists, not_and]
    exact ⟨by decide, fun e _ => (laneStatus_ne (by decide) e).symm⟩
  obtain ⟨r, rfl⟩ := same
  subst ht
  refine ⟨State.linkIs_setState _ (by decide), fun e he => ?_, fun b hb => ?_, rfl, ?_⟩
  · exact (State.rd_setFld_ne _ _ _ (laneStatus_ne (by decide) e).symm).trans (lanes e he)
  · rw [← regs _ apart]
    simp [State.widthMax, State.takeMaxes, hb]
  · exact (State.regsBut.congr regs rfl).setFld _ List.mem_cons_self

/-- What a detection try shows (R108). -/
def State.showDetected (s : State) (term : BitVec 22) (clk0 clk1 : Bool) : State :=
  ((s.forEach 22 (fun s e => s.setFld (Fld.LNK_LANE_STATUSe_DETECTED e) (bit (term.getLsbD e)))).setFld (Fld.LNK_LANE_STATUSe_DETECTED 32)
    (bit clk0)).setFld (Fld.LNK_LANE_STATUSe_DETECTED 43) (bit clk1)

theorem State.on_setFld_bit (s : State) (f : Fld) (b : Bool) (h : f.hi < 32) (hf : f.lo ≤ f.hi) : (s.setFld f (bit b)).on f = b := by
  cases b with
  | true => exact State.on_setFld_one s f h hf
  | false => exact (State.on_eq_false _ _).mpr (State.fld_setFld_same _ _ _ h (Nat.two_pow_pos _))

theorem State.on_showDetected (s : State) (term : BitVec 22) (clk0 clk1 : Bool) {e : Nat} (he : e < 22) :
    (s.showDetected term clk0 clk1).on (Fld.LNK_LANE_STATUSe_DETECTED e) = term.getLsbD e := by
  obtain ⟨v, -, -, turn⟩ := State.forEach_once (f := fun s e => s.setFld (Fld.LNK_LANE_STATUSe_DETECTED e) (bit (term.getLsbD e)))
    (fun u => u.on (Fld.LNK_LANE_STATUSe_DETECTED e)) (fun _ => ()) he
    (fun u k _ hk => State.on_setFld_ne _ _ _ _ (by simp) (.inl (laneStatus_inj hk))) (fun _ _ => rfl) s
  unfold State.showDetected
  rw [State.on_setFld_ne _ _ _ _ (by decide) (.inl (laneStatus_inj (by omega))), State.on_setFld_ne _ _ _ _ (by decide) (.inl (laneStatus_inj (by omega)))]
  exact turn.trans (State.on_setFld_bit _ _ _ (by simp) (by simp))

theorem State.showDetected_regsBut (s : State) (term : BitVec 22) (clk0 clk1 : Bool) :
    s.regsBut (s.showDetected term clk0 clk1) (Reg.LNK_STATUS :: (List.range 44).map Reg.LNK_LANE_STATUSe) :=
  (((State.regsBut.refl s _).forEach 22 (fun v _ hk => (State.regsBut.refl v _).setFld _ (laneStatus_mem (by omega)))).setFld _
    (laneStatus_mem (by decide))).setFld _ (laneStatus_mem (by decide))

theorem State.showDetected_beside (s : State) (term : BitVec 22) (clk0 clk1 : Bool) : s.beside (s.showDetected term clk0 clk1) :=
  (((State.beside.refl s).forEach (fun v _ => (State.beside.refl v).setFld _ _) 22).setFld _ _).setFld _ _

/-- The equalisation of every lane is taken and the lanes begin to train (R106). -/
def State.beginTraining (s : State) : State :=
  State.setFld { s with link := { s.link with
    eq := (List.range 44).foldl (fun m e => SMap.set 0 m e (s.rd (Reg.LNK_EQe e))) s.link.eq, locked := [] } } Fld.LNK_STATUS_STATE lnkTrain

/-- A value listed by a pass over the keys below `n`. -/
theorem SMap.get_foldl_set {α : Type} [DecidableEq α] (x : α) (v : Nat → α) (m : SMap α) {n e : Nat} (he : e < n) :
    SMap.get x ((List.range n).foldl (fun m e => SMap.set x m e (v e)) m) e = v e := by
  induction n with
  | zero => exact absurd he (Nat.not_lt_zero _)
  | succ n ih =>
    rw [List.range_succ, List.foldl_append, List.foldl_cons, List.foldl_nil, SMap.get_set]
    split_ifs with h
    · rw [h]
    · exact ih (by omega)

/-- The forwarded clocks that a detection try finds. -/
def State.findClocks (s : State) (term : BitVec 22) : State :=
  { s with link := { s.link with tbClock := (List.range 2).filter (fun k => s.link.tbClock.contains k || term.getLsbD (11 * k + 10)) } }

/-- A TB and a QB with a clock are found (R108). -/
def State.bundlesFound (s : State) (term : BitVec 22) (clk0 clk1 stable0 stable1 : Bool) : Bool :=
  let tb := fun k => decide (s.widthMax k ≠ 15) && term.getLsbD (11 * k + 10) && term.getLsbD (11 * k)
  (tb 0 || tb 1) && ((decide (s.widthMax 2 ≠ 15) && clk0 && stable0) || (decide (s.widthMax 3 ≠ 15) && clk1 && stable1))

theorem exec_detectionTry (term : BitVec 22) (clk0 clk1 st0 st1 : Bool) (s : State) : exec (.detectionTry term clk0 clk1 st0 st1) s = .next (
    if s.linkIs lnkDetect then
      if ((s.showDetected term clk0 clk1).findClocks term).bundlesFound term clk0 clk1 st0 st1 then
        ((s.showDetected term clk0 clk1).findClocks term).beginTraining
      else (s.showDetected term clk0 clk1).findClocks term
    else s) := rfl

theorem exec_detectionTry_trains (term : BitVec 22) (c1 st1 : Bool) (hl : s.linkIs lnkDetect = true) (h0 : term.getLsbD 0 = true)
    (h10 : term.getLsbD 10 = true) (hw0 : s.widthMax 0 ≠ 15) (hw2 : s.widthMax 2 ≠ 15) :
    exec (.detectionTry term true c1 true st1) s = .next ((s.showDetected term true c1).findClocks term).beginTraining := by
  have maxes : ((s.showDetected term true c1).findClocks term).link.maxes = s.link.maxes := by
    obtain ⟨r, same⟩ := s.showDetected_beside term true c1
    rw [same]
    rfl
  have found : ((s.showDetected term true c1).findClocks term).bundlesFound term true c1 true st1 = true := by
    simp only [State.widthMax] at hw0 hw2
    simp only [State.bundlesFound, State.widthMax, maxes, Nat.mul_zero, Nat.zero_add, h0, h10, decide_eq_true hw0, decide_eq_true hw2, Bool.true_and,
      Bool.true_or]
  rw [exec_detectionTry, if_pos hl, if_pos found]

/-- TRAIN is entered, given what the showing of the detections leaves. -/
theorem State.beginTraining_trains {u : State} {term : BitVec 22} (h10 : term.getLsbD 10 = true)
    (shown : ∀ e < 22, u.on (Fld.LNK_LANE_STATUSe_DETECTED e) = term.getLsbD e)
    (regs : s.regsBut u (Reg.LNK_STATUS :: (List.range 44).map Reg.LNK_LANE_STATUSe)) (same : s.beside u) (t : State)
    (ht : t = (u.findClocks term).beginTraining) :
    t.linkIs lnkTrain = true ∧ 0 ∈ t.link.tbClock ∧ t.link.locked = [] ∧
    (∀ e < 22, t.on (Fld.LNK_LANE_STATUSe_DETECTED e) = term.getLsbD e) ∧
    (∀ e < 44, SMap.get 0 t.link.eq e = s.rd (Reg.LNK_EQe e)) ∧ t = { s with regs := t.regs, link := t.link } ∧
    s.regsBut t (Reg.LNK_STATUS :: (List.range 44).map Reg.LNK_LANE_STATUSe) := by
  have apart (e : Nat) : Reg.LNK_EQe e ∉ Reg.LNK_STATUS :: (List.range 44).map Reg.LNK_LANE_STATUSe := by
    simp only [List.mem_cons, List.mem_map, List.mem_range, not_or, not_exists, not_and]
    refine ⟨?_, fun k hk => ?_⟩
    · simp only [Reg.LNK_EQe, Reg.LNK_STATUS]
      omega
    · simp only [Reg.LNK_EQe, Reg.LNK_LANE_STATUSe]
      omega
  obtain ⟨r, rfl⟩ := same
  subst ht
  refine ⟨State.linkIs_setState _ (by decide), ?_, rfl, fun e he => ?_, fun e he => ?_, rfl, ?_⟩
  · simp [State.beginTraining, State.findClocks, h10]
  · exact (State.on_setFld_ne _ _ _ _ (by decide) (.inl (laneStatus_ne (by decide) e).symm)).trans (shown e he)
  · rw [← regs _ (apart e)]
    exact SMap.get_foldl_set 0 (fun e => State.rd _ (Reg.LNK_EQe e)) _ he
  · exact (State.regsBut.congr regs rfl).setFld _ List.mem_cons_self

/-- What a lane that has passed its steps in LOCK shows (R109). -/
def State.showLane (s : State) (e phase skew : Nat) : State :=
  (((s.setFld (Fld.LNK_LANE_STATUSe_BIT_LOCK e) 1).setFld (Fld.LNK_LANE_STATUSe_PHASE e) phase).setFld
    (Fld.LNK_LANE_STATUSe_BLOCK_LOCK e) 1).setFld (Fld.LNK_LANE_STATUSe_SKEW e) skew

theorem State.showLane_shows (s : State) (e : Nat) {phase skew : Nat} (hp : phase < 64) (hk : skew < 32) :
    (s.showLane e phase skew).on (Fld.LNK_LANE_STATUSe_BIT_LOCK e) = true ∧ (s.showLane e phase skew).on (Fld.LNK_LANE_STATUSe_BLOCK_LOCK e) = true ∧
    (s.showLane e phase skew).fld (Fld.LNK_LANE_STATUSe_PHASE e) = phase ∧ (s.showLane e phase skew).fld (Fld.LNK_LANE_STATUSe_SKEW e) = skew := by
  unfold State.showLane
  refine ⟨?_, ?_, ?_, State.fld_setFld_same _ _ _ (by simp) hk⟩
  · rw [State.on_setFld_ne _ _ _ _ (by simp) (by simp), State.on_setFld_ne _ _ _ _ (by simp) (by simp), State.on_setFld_ne _ _ _ _ (by simp) (by simp)]
    exact State.on_setFld_one _ _ (by simp) (by simp)
  · rw [State.on_setFld_ne _ _ _ _ (by simp) (by simp)]
    exact State.on_setFld_one _ _ (by simp) (by simp)
  · rw [State.fld_setFld_ne _ _ _ _ (by simp) (by simp), State.fld_setFld_ne _ _ _ _ (by simp) (by simp)]
    exact State.fld_setFld_same _ _ _ (by simp) hp

theorem State.showLane_beside (s : State) (e phase skew : Nat) : s.beside (s.showLane e phase skew) := ⟨_, rfl⟩

theorem State.showLane_regsBut (s : State) (e phase skew : Nat) : s.regsBut (s.showLane e phase skew) [Reg.LNK_LANE_STATUSe e] :=
  ((((State.regsBut.refl s _).setFld _ (by simp)).setFld _ (by simp)).setFld _ (by simp)).setFld _ (by simp)

/-- A lane is added to those that have locked. -/
def State.lockLane (s : State) (e : Nat) : State := { s with link := { s.link with locked := s.link.locked ++ [e] } }

theorem exec_laneLock (lane : Fin 22) (phase : BitVec 6) (skew : Nat) (hl : s.linkIs lnkLock = true) (hr : s.on Fld.LNK_STATUS_RX_LOCKED = false)
    (hw : lane.val % 11 < widthOf (s.widthMax (2 + lane.val / 11))) (hk : skew < 32) (hc : lane.val % 11 ≠ 10) :
    exec (.laneLock lane phase true skew true) s = .next ((s.showLane (22 + lane.val) phase.toNat skew).lockLane (22 + lane.val)) := by
  show execLaneLock lane phase true skew true s = _
  simp only [execLaneLock, hl, hr, hc, Nat.not_le.mpr hw, Nat.not_le.mpr hk, Bool.not_true, Bool.not_false, Bool.and_true, Bool.false_eq_true,
    if_true, if_false, State.lockLane, State.showLane, State.setFld_link]

/-- A lane that passes its steps in LOCK is locked, with its phase and skew shown (R109). -/
theorem laneLocks (lane : Fin 22) (phase : BitVec 6) (skew : Nat) (hl : s.linkIs lnkLock = true) (hr : s.on Fld.LNK_STATUS_RX_LOCKED = false)
    (hw : lane.val % 11 < widthOf (s.widthMax (2 + lane.val / 11))) (hk : skew < 32) (hc : lane.val % 11 ≠ 10) :
    ∃ t, exec (.laneLock lane phase true skew true) s = .next t ∧
      t.link = { s.link with locked := s.link.locked ++ [22 + lane.val] } ∧
      t.on (Fld.LNK_LANE_STATUSe_BIT_LOCK (22 + lane.val)) = true ∧ t.on (Fld.LNK_LANE_STATUSe_BLOCK_LOCK (22 + lane.val)) = true ∧
      t.fld (Fld.LNK_LANE_STATUSe_PHASE (22 + lane.val)) = phase.toNat ∧
      t.fld (Fld.LNK_LANE_STATUSe_SKEW (22 + lane.val)) = skew ∧ t = { s with regs := t.regs, link := t.link } ∧
      s.regsBut t [Reg.LNK_LANE_STATUSe (22 + lane.val)] := by
  have run := exec_laneLock lane phase skew hl hr hw hk hc
  have shows := s.showLane_shows (22 + lane.val) phase.isLt hk
  have regs := s.showLane_regsBut (22 + lane.val) phase.toNat skew
  obtain ⟨r, same⟩ := s.showLane_beside (22 + lane.val) phase.toNat skew
  generalize s.showLane (22 + lane.val) phase.toNat skew = u at run shows regs same
  subst same
  obtain ⟨bitLock, blockLock, phase, skew⟩ := shows
  exact ⟨_, run, rfl, bitLock, blockLock, phase, skew, rfl, regs⟩

/-! ### The fall to DOWN (R107, R113) -/

/-- What a fall to DOWN shows. -/
def State.showFall (s : State) (reason lane : Nat) : State :=
  let s := ((s.setFld Fld.LNK_STATUS_STATE lnkDown).setFld Fld.LNK_DOWN_INFO_REASON reason).setFld
    Fld.LNK_DOWN_INFO_LANE lane
  let s := (s.setFld Fld.LNK_STATUS_RX_LOCKED 0).setFld Fld.LNK_STATUS_PARTNER_LOCKED 0
  (((s.setFld Fld.LNK_STATUS_TB0_W 15).setFld Fld.LNK_STATUS_TB1_W 15).setFld
    Fld.LNK_STATUS_QB0_W 15).setFld Fld.LNK_STATUS_QB1_W 15

/-- What a bring-up and a session hold is gone. -/
def LinkState.fallen (l : LinkState) : LinkState :=
  { l with tbClock := [], locked := [], deskew0 := 0, deskew1 := 0, widths := [15, 15, 15, 15], switchSent := false, switchRx := [] }

/-- What every fall to DOWN leaves, beside the count of retries. -/
def State.fall (s : State) (reason lane : Nat) : State := { s.showFall reason lane with link := s.link.fallen }

theorem State.linkDown_uncounted (s : State) (reason lane : Nat) : s.linkDown reason lane false = s.fall reason lane := by
  simp only [State.linkDown, Bool.and_false, Bool.false_eq_true, if_false]
  rfl

/-- From a bring-up state a fall costs a retry; LIMIT 0 sets no end (R113). -/
theorem State.linkDown_counted (s : State) (reason lane : Nat) (hb : 1 ≤ s.linkState ∧ s.linkState ≤ 4)
    (hl : (s.fall reason lane).fld Fld.LNK_RETRY_LIMIT = 0) :
    s.linkDown reason lane true = (s.fall reason lane).count Fld.LNK_RETRY_COUNT 1 := by
  have limit : ((s.fall reason lane).count Fld.LNK_RETRY_COUNT 1).fld Fld.LNK_RETRY_LIMIT = 0 :=
    (State.fld_setFld_ne _ _ _ _ (by decide) (by decide)).trans hl
  simp only [State.linkDown, hb.1, hb.2, decide_true, Bool.and_true, if_true]
  exact if_neg (fun h => h.1 limit)

theorem State.fall_beside (s : State) (reason lane : Nat) : ∃ r, s.fall reason lane = { s with regs := r, link := s.link.fallen } := ⟨_, rfl⟩

/-- A register reads the same whatever the link holds. -/
theorem State.rd_withLink (s : State) (l : LinkState) (a : Nat) : State.rd { s with link := l } a = s.rd a := rfl

theorem State.rd_fall (s : State) (reason lane : Nat) (a : Nat) : (s.fall reason lane).rd a = (s.showFall reason lane).rd a :=
  State.rd_withLink (s.showFall reason lane) s.link.fallen a

theorem State.fld_fall (s : State) (reason lane : Nat) (f : Fld) : (s.fall reason lane).fld f = (s.showFall reason lane).fld f :=
  State.fld_congr (s.rd_fall reason lane _)

theorem State.showFall_regsBut (s : State) (reason lane : Nat) : s.regsBut (s.showFall reason lane) [Reg.LNK_STATUS, Reg.LNK_DOWN_INFO] :=
  ((((((((State.regsBut.refl s _).setFld _ (by simp)).setFld _ (by simp)).setFld _ (by simp)).setFld _ (by simp)).setFld _
    (by simp)).setFld _ (by simp)).setFld _ (by simp)).setFld _ (by simp) |>.setFld _ (by simp)

theorem State.fall_regsBut (s : State) (reason lane : Nat) : s.regsBut (s.fall reason lane) [Reg.LNK_STATUS, Reg.LNK_DOWN_INFO] :=
  fun a ha => (s.rd_fall reason lane a).trans (s.showFall_regsBut reason lane a ha)

theorem State.fall_down (s : State) (reason lane : Nat) : (s.fall reason lane).linkIs lnkDown = true := by
  rw [linkIs_iff, State.fld_fall, State.showFall, State.fld_setFld_ne _ _ _ _ (by decide) (by decide),
    State.fld_setFld_ne _ _ _ _ (by decide) (by decide), State.fld_setFld_ne _ _ _ _ (by decide) (by decide),
    State.fld_setFld_ne _ _ _ _ (by decide) (by decide), State.fld_setFld_ne _ _ _ _ (by decide) (by decide),
    State.fld_setFld_ne _ _ _ _ (by decide) (by decide), State.fld_setFld_ne _ _ _ _ (by decide) (by decide),
    State.fld_setFld_ne _ _ _ _ (by decide) (by decide)]
  exact State.fld_setFld_same _ _ _ (by decide) (by decide)

theorem State.fall_reason (s : State) {reason : Nat} (hr : reason < 16) (lane : Nat) :
    (s.fall reason lane).fld Fld.LNK_DOWN_INFO_REASON = reason := by
  rw [State.fld_fall, State.showFall, State.fld_setFld_ne _ _ _ _ (by decide) (by decide), State.fld_setFld_ne _ _ _ _ (by decide) (by decide),
    State.fld_setFld_ne _ _ _ _ (by decide) (by decide), State.fld_setFld_ne _ _ _ _ (by decide) (by decide),
    State.fld_setFld_ne _ _ _ _ (by decide) (by decide), State.fld_setFld_ne _ _ _ _ (by decide) (by decide),
    State.fld_setFld_ne _ _ _ _ (by decide) (by decide)]
  exact State.fld_setFld_same _ _ _ (by decide) hr

theorem State.fall_count (s : State) (reason lane : Nat) :
    (s.fall reason lane).fld Fld.LNK_DOWN_INFO_COUNT = s.fld Fld.LNK_DOWN_INFO_COUNT := by
  rw [State.fld_fall, State.showFall, State.fld_setFld_ne _ _ _ _ (by decide) (by decide), State.fld_setFld_ne _ _ _ _ (by decide) (by decide),
    State.fld_setFld_ne _ _ _ _ (by decide) (by decide), State.fld_setFld_ne _ _ _ _ (by decide) (by decide),
    State.fld_setFld_ne _ _ _ _ (by decide) (by decide), State.fld_setFld_ne _ _ _ _ (by decide) (by decide),
    State.fld_setFld_ne _ _ _ _ (by decide) (by decide), State.fld_setFld_ne _ _ _ _ (by decide) (by decide),
    State.fld_setFld_ne _ _ _ _ (by decide) (by decide)]

theorem State.dropLink_bringUp (hl : s.linkIs lnkLock = true ∨ s.linkIs lnkRollCall = true) (reason lane : Nat) (counts : Bool) :
    s.dropLink reason lane counts = s.linkDown reason lane counts := by
  rw [State.dropLink]
  rcases hl with hl | hl
  · rw [State.linkIs_ne hl (by decide : lnkLock ≠ lnkActive), State.linkIs_ne hl (by decide : lnkLock ≠ lnkDown),
      State.linkIs_ne hl (by decide : lnkLock ≠ lnkTest)]
    rfl
  · rw [State.linkIs_ne hl (by decide : lnkRollCall ≠ lnkActive), State.linkIs_ne hl (by decide : lnkRollCall ≠ lnkDown),
      State.linkIs_ne hl (by decide : lnkRollCall ≠ lnkTest)]
    rfl

/-- A bring-up timer that expires in LOCK or ROLL_CALL costs a retry (R107, R113). -/
theorem bringupExpires (hl : s.linkIs lnkLock = true ∨ s.linkIs lnkRollCall = true) (limit : s.fld Fld.LNK_RETRY_LIMIT = 0) :
    ∃ t, exec .bringupTimeout s = .next t ∧ t.linkIs lnkDown = true ∧ t.fld Fld.LNK_DOWN_INFO_REASON = 7 ∧
      t.fld Fld.LNK_RETRY_COUNT = min 255 (s.fld Fld.LNK_RETRY_COUNT + 1) ∧ t.link.locked = [] ∧
      t = { s with regs := t.regs, link := t.link } ∧ s.regsBut t [Reg.LNK_STATUS, Reg.LNK_DOWN_INFO, Reg.LNK_RETRY] := by
  have run : exec .bringupTimeout s = .next (s.dropLink 7 0xFF true) := by
    show execBringupTimeout s = _
    rw [execBringupTimeout, if_pos]
    rcases hl with hl | hl <;> simp [hl]
  have up : 1 ≤ s.linkState ∧ s.linkState ≤ 4 := by
    simp only [linkIs_iff, lnkLock, lnkRollCall] at hl
    simp only [State.linkState]
    omega
  have regs := s.fall_regsBut 7 0xFF
  rw [State.dropLink_bringUp hl, State.linkDown_counted _ _ _ up ((regs.fld _ (by decide)).trans limit)] at run
  refine ⟨_, run, ?_, ?_, ?_, rfl, rfl, ?_⟩
  · exact (State.linkIs_congr (State.rd_setFld_ne _ _ _ (by decide)) _).trans (s.fall_down 7 0xFF)
  · exact (State.fld_setFld_ne _ _ _ _ (by decide) (by decide)).trans (s.fall_reason (by decide) 0xFF)
  · rw [State.count, regs.fld _ (by decide)]
    exact State.fld_setFld_same _ _ _ (by decide) (lt_of_le_of_lt (Nat.min_le_left _ _) (by decide))
  · exact (regs.mono (by simp)).count 1 (by simp)

/-- Settles O23: each step of the bring-up by its own lemma. -/
theorem linkBringUpReachesLock : Obligations.LinkBringUpReachesLock := by
  intro s
  refine ⟨fun hl he hr hx hp => ⟨_, execLinkDownExit_passes hl he hr hx hp,
      State.takeMaxes_detects (fun e he => s.rd_clearLanes he) s.clearLanes_regsBut s.clearLanes_beside _ rfl⟩,
    fun term c1 st1 hl h0 h10 hw0 hw2 => ⟨_, exec_detectionTry_trains term c1 st1 hl h0 h10 hw0 hw2,
      State.beginTraining_trains h10 (fun e he => s.on_showDetected term true c1 he) (s.showDetected_regsBut term true c1)
        (s.showDetected_beside term true c1) _ rfl⟩,
    fun hl => ⟨s.setFld Fld.LNK_STATUS_STATE lnkLock, ?_, State.linkIs_setState _ (by decide), rfl, (State.regsBut.refl s _).setFld _ (by simp)⟩,
    fun lane phase skew hl hr hw hk hc => laneLocks lane phase skew hl hr hw hk hc, bringupExpires⟩
  show execTrainSettleEnd s = _
  rw [execTrainSettleEnd, if_pos hl]

/-! ### Roll call (R110 to R112, R145 to R147) -/

/-- LOCK goes on while too few DESKEW blocks have come on QB0. -/
theorem State.lockComplete_waits (hw : s.lockedWidth 0 ≠ 15) (hd : s.link.deskew0 < 8) : s.lockComplete = s := by
  have seen : (!(s.lockedWidth 0 != 15) || decide (8 ≤ s.link.deskew0)) = false := by simp [hw, hd]
  simp only [State.lockComplete, seen, Bool.false_and, Bool.and_false, State.iff, Bool.false_eq_true, if_false]

/-- A QB's locked width is told by what the link holds. -/
theorem State.lockedWidth_link {l : LinkState} (hl : l.locked = s.link.locked) (hm : l.maxes = s.link.maxes) (ht : t.link = l) (k : Nat) :
    t.lockedWidth k = s.lockedWidth k := by
  simp only [State.lockedWidth, State.widthMax, ht, hl, hm]

theorem State.rd_centreBuffers_eq (s : State) (a : Nat) : s.centreBuffers.rd a = ((s.wr Reg.LNK_EBUF0 0).wr Reg.LNK_EBUF1 0).rd a := by
  have beside (u : State) (l : LinkState) (c : ClkState) : State.rd { u with link := l, clk := c } a = u.rd a := rfl
  exact beside ((s.wr Reg.LNK_EBUF0 0).wr Reg.LNK_EBUF1 0) _ _

theorem State.rd_centreBuffers (s : State) {a : Nat} (h0 : a ≠ Reg.LNK_EBUF0) (h1 : a ≠ Reg.LNK_EBUF1) : s.centreBuffers.rd a = s.rd a := by
  rw [State.rd_centreBuffers_eq, State.rd_wr_ne _ _ h1, State.rd_wr_ne _ _ h0]

theorem rxLocks (hl : s.linkIs lnkLock = true) (hr : s.on Fld.LNK_STATUS_RX_LOCKED = false) (hw : s.lockedWidth 0 ≠ 15)
    (hd : s.link.deskew0 < 8) :
    ∃ t, exec .rxLockedSet s = .next t ∧ t.on Fld.LNK_STATUS_RX_LOCKED = true ∧ t.rd Reg.LNK_EBUF0 = 0 ∧
      t.rd Reg.LNK_EBUF1 = 0 ∧ t.linkIs lnkLock = true ∧
      t = { s with regs := t.regs, link := { s.link with wandered := [] }, clk := { s.clk with sinceLock := 0 } } ∧
      s.regsBut t [Reg.LNK_STATUS, Reg.LNK_EBUF0, Reg.LNK_EBUF1] := by
  have some : (s.link.locked != []) = true := by
    simp only [bne_iff_ne]
    intro none
    exact hw (by simp [State.lockedWidth, none])
  have waits : (s.setFld Fld.LNK_STATUS_RX_LOCKED 1).centreBuffers.lockComplete = (s.setFld Fld.LNK_STATUS_RX_LOCKED 1).centreBuffers :=
    State.lockComplete_waits (fun h => hw ((State.lockedWidth_link (s := s) (t := (s.setFld Fld.LNK_STATUS_RX_LOCKED 1).centreBuffers)
      (l := { s.link with wandered := [] }) rfl rfl rfl 0).symm.trans h)) hd
  have run : exec .rxLockedSet s = .next (s.setFld Fld.LNK_STATUS_RX_LOCKED 1).centreBuffers := by
    show execRxLockedSet s = _
    rw [execRxLockedSet, if_pos (by rw [hl, hr, some]; rfl), waits]
  refine ⟨_, run, ?_, ?_, ?_, ?_, rfl, ?_⟩
  · rw [State.on, State.fld_congr (State.rd_centreBuffers _ (by decide) (by decide)), ← State.on]
    exact State.on_setFld_one _ _ (by decide) (by decide)
  · rw [State.rd_centreBuffers_eq, State.rd_wr_ne _ _ (by decide), State.rd_wr_same]
  · rw [State.rd_centreBuffers_eq, State.rd_wr_same]
  · rw [State.linkIs_congr (State.rd_centreBuffers _ (by decide) (by decide)), linkIs_iff, State.fld_setFld_ne _ _ _ _ (by decide) (by decide)]
    exact (linkIs_iff _ _).mp hl
  · intro a ha
    simp only [List.mem_cons, List.not_mem_nil, or_false, not_or] at ha
    exact (State.rd_centreBuffers _ ha.2.1 ha.2.2).trans (State.rd_setFld_ne _ _ _ ha.1)

/-- Every lane's count of header errors begins again. -/
def State.clearHdrErr (s : State) : State := s.forEach 44 (fun s e => s.setFld (Fld.LNK_LANE_STATUSe_HDR_ERR e) 0)

/-- Queue `n` keeps what the CAP says of it (R135). -/
def State.announceQueue (s : State) (n : Nat) : State :=
  s.setQueue n { s.queue n with
    sentCap := s.initialGrant n, sentUse := s.marksUsed n, sentBundle := s.fld (Fld.QUE_CFGn_BUNDLE n),
    released := 0, use := false }

def State.announceQueues (s : State) : State := s.forEach 32 State.announceQueue

/-- The exchange begins with the device's CAP (R147). -/
def State.beginExchange (s : State) : State :=
  { s with link := { s.link with cap := s.buildCap, capVersion := 1, acked := false, ackSent := false,
                                 peer := none, switchSent := false, switchRx := [],
                                 widths := [15, 15, 15, 15], lost0 := false, lost1 := false } }

/-- The registers and queues as the CAP is built from them. -/
def State.announce (s : State) : State :=
  (s.clearHdrErr.setFld Fld.QUE_STATUS_CAP_TRIMMED (bit (decide (s.clearHdrErr.downlinkCredits < s.clearHdrErr.downlinkCaps)))).announceQueues

theorem State.enterRollCall_eq (s : State) :
    s.enterRollCall = s.announce.beginExchange.setFld Fld.LNK_STATUS_STATE lnkRollCall := rfl

/-- What a CAP says of a queue is told by the registers of the queues, of the regions and of the start, and by the queue's own packets. -/
theorem State.caps_congr (h : ∀ a, a < 0x80000 ∨ 0xA1000 ≤ a → t.rd a = s.rd a) {n : Nat} (hq : (t.queue n).occupancy = (s.queue n).occupancy) :
    t.initialGrant n = s.initialGrant n ∧ t.marksUsed n = s.marksUsed n := by
  have cap (k : Nat) : t.queueCap k = s.queueCap k := by
    have same : t.fld (Fld.QUE_CFGn_CAP k) = s.fld (Fld.QUE_CFGn_CAP k) := State.fld_congr (h _ (.inr (by simp only [Reg.QUE_CFGn]; omega)))
    simp only [State.queueCap, same]
  have use (k : Nat) : t.on (Fld.QUE_CFGn_USE k) = s.on (Fld.QUE_CFGn_USE k) := by
    have same : t.fld (Fld.QUE_CFGn_USE k) = s.fld (Fld.QUE_CFGn_USE k) := State.fld_congr (h _ (.inr (by simp only [Reg.QUE_CFGn]; omega)))
    simp only [State.on, same]
  have region (k : Nat) : t.regionOfKind k = s.regionOfKind k := by
    have same (i j : Nat) : t.rd (Reg.CST_REGIONn i j) = s.rd (Reg.CST_REGIONn i j) := h _ (.inr (by simp only [Reg.CST_REGIONn]; omega))
    simp only [State.regionOfKind, same]
  have detained : t.detained = s.detained := by
    have same : t.fld Fld.BOOT_STATUS_DETAINED = s.fld Fld.BOOT_STATUS_DETAINED := State.fld_congr (h _ (.inl (by decide)))
    simp only [State.detained, State.on, same]
  have caps : t.downlinkCaps = s.downlinkCaps := by simp only [State.downlinkCaps, funext cap]
  have credits : t.downlinkCredits = s.downlinkCredits := by simp only [State.downlinkCredits, region]
  constructor
  · simp only [State.initialGrant, caps, credits, cap, hq]
  · simp only [State.marksUsed, detained, cap, use]

theorem State.announceQueues_regs (s : State) : s.announceQueues.regs = s.regs := by
  unfold State.announceQueues
  exact State.forEach_keeps State.regs State.announceQueue (fun _ _ => rfl) 32 s

/-- After the pass each queue keeps what the CAP says of it, and its packets. -/
theorem State.queue_announceQueues (s : State) {n : Nat} (hn : n < 32) :
    (s.announceQueues.queue n).sentCap = s.initialGrant n ∧ (s.announceQueues.queue n).sentUse = s.marksUsed n ∧
    (s.announceQueues.queue n).use = false ∧ (s.announceQueues.queue n).pkts = (s.queue n).pkts := by
  obtain ⟨u, hu, regs, turn⟩ := State.forEach_once (f := State.announceQueue)
    (fun u => u.queue n) State.regs hn (fun u k _ hk => State.queue_setQueue_ne _ _ (Ne.symm hk)) (fun _ _ => rfl) s
  have same := State.caps_congr (t := u) (s := s) (n := n) (fun a _ => by simp only [State.rd, regs]) (by rw [hu])
  have after : (u.announceQueue n).queue n = _ := State.queue_setQueue_same _ _ _
  rw [State.announceQueues, turn, after, same.1, same.2, hu]
  exact ⟨rfl, rfl, rfl, rfl⟩

theorem State.clearHdrErr_regs (s : State) {a : Nat} (h : a < 0x80100 ∨ 0x801B0 ≤ a) : s.clearHdrErr.rd a = s.rd a :=
  State.forEach_keeps_lt (fun u => u.rd a) _ 44 (fun u k hk => State.rd_wr_ne _ _ (by simp only [Reg.LNK_LANE_STATUSe]; omega)) s

theorem State.clearHdrErr_beside (s : State) : s.beside s.clearHdrErr :=
  (State.beside.refl s).forEach (fun v _ => (State.beside.refl v).setFld _ _) 44

theorem State.rd_announce (s : State) {a : Nat} (h : a < 0x80100 ∨ 0x801B0 ≤ a) (ha : a ≠ Reg.QUE_STATUS) : s.announce.rd a = s.rd a := by
  have regs (u : State) : u.announceQueues.rd a = u.rd a := by simp only [State.rd, State.announceQueues_regs]
  rw [State.announce, regs, State.rd_setFld_ne _ _ _ ha, s.clearHdrErr_regs h]

theorem State.queue_announce (s : State) {n : Nat} (hn : n < 32) :
    (s.announce.queue n).sentCap = s.initialGrant n ∧ (s.announce.queue n).sentUse = s.marksUsed n ∧
    (s.announce.queue n).use = false ∧ (s.announce.queue n).pkts = (s.queue n).pkts := by
  have pass := (s.clearHdrErr.setFld Fld.QUE_STATUS_CAP_TRIMMED
    (bit (decide (s.clearHdrErr.downlinkCredits < s.clearHdrErr.downlinkCaps)))).queue_announceQueues hn
  have queue : (s.clearHdrErr.setFld Fld.QUE_STATUS_CAP_TRIMMED
      (bit (decide (s.clearHdrErr.downlinkCredits < s.clearHdrErr.downlinkCaps)))).queue n = s.queue n := by
    obtain ⟨r, same⟩ := s.clearHdrErr_beside
    rw [same]
    rfl
  have same := State.caps_congr (s := s) (t := s.clearHdrErr.setFld Fld.QUE_STATUS_CAP_TRIMMED
      (bit (decide (s.clearHdrErr.downlinkCredits < s.clearHdrErr.downlinkCaps)))) (n := n)
    (fun a ha => (State.rd_setFld_ne _ _ _ (by simp only [Reg.QUE_STATUS]; omega)).trans (s.clearHdrErr_regs (by omega))) (by rw [queue])
  rw [same.1, same.2, queue] at pass
  exact pass

theorem State.rd_enterRollCall (s : State) {a : Nat} (h : a < 0x80100 ∨ 0x801B0 ≤ a) (ha : a ≠ Reg.QUE_STATUS) (hs : a ≠ Reg.LNK_STATUS) :
    s.enterRollCall.rd a = s.rd a := by
  rw [State.enterRollCall_eq, State.rd_setFld_ne _ _ _ hs]
  exact (State.rd_withLink s.announce _ a).trans (s.rd_announce h ha)

theorem State.queue_setFld (s : State) (f : Fld) (v n : Nat) : (s.setFld f v).queue n = s.queue n := rfl

theorem State.queue_withLink (s : State) (l : LinkState) (n : Nat) : State.queue { s with link := l } n = s.queue n := rfl

/-- ROLL_CALL begins with the device's CAP not yet acknowledged and no CAP of the partner (R110, R147). -/
theorem State.enterRollCall_begins (s : State) (t : State) (ht : t = s.enterRollCall) :
    t.linkIs lnkRollCall = true ∧ t.on Fld.LNK_STATUS_PARTNER_LOCKED = s.on Fld.LNK_STATUS_PARTNER_LOCKED ∧ t.link.capVersion = 1 ∧
    t.link.acked = false ∧ t.link.peer = none ∧
    ∀ n < 32, (t.queue n).sentCap = s.initialGrant n ∧ (t.queue n).sentUse = s.marksUsed n ∧ (t.queue n).use = false ∧
      (t.queue n).pkts = (s.queue n).pkts := by
  have status : s.announce.rd Reg.LNK_STATUS = s.rd Reg.LNK_STATUS := s.rd_announce (by decide) (by decide)
  have queues (n : Nat) (hn : n < 32) := s.queue_announce hn
  rw [State.enterRollCall_eq] at ht
  generalize s.announce = u at ht status queues
  have same (n : Nat) : t.queue n = u.queue n := by rw [ht, State.queue_setFld, State.beginExchange, State.queue_withLink]
  have link : t.link = u.beginExchange.link := by rw [ht, State.setFld_link]
  refine ⟨?_, ?_, by rw [link, State.beginExchange], by rw [link, State.beginExchange], by rw [link, State.beginExchange],
    fun n hn => by rw [same n]; exact queues n hn⟩
  · rw [ht]
    exact State.linkIs_setState _ (by decide)
  · have shown : u.beginExchange.rd Fld.LNK_STATUS_PARTNER_LOCKED.addr = s.rd Fld.LNK_STATUS_PARTNER_LOCKED.addr := by
      rw [State.beginExchange, State.rd_withLink]
      exact status
    rw [ht, State.on_setFld_ne _ _ _ _ (by decide) (by decide), State.on, State.fld_congr shown, ← State.on]

/-- LOCK ends at the eighth DESKEW block in a row on the one QB that has locked (R110). -/
theorem State.lockComplete_ends (hl : s.linkIs lnkLock = true) (hr : s.on Fld.LNK_STATUS_RX_LOCKED = true) (hw : s.lockedWidth 0 ≠ 15)
    (hw1 : s.lockedWidth 1 = 15) (hd : 8 ≤ s.link.deskew0) :
    s.lockComplete = (s.setFld Fld.LNK_STATUS_PARTNER_LOCKED 1).enterRollCall := by
  have rx : (s.setFld Fld.LNK_STATUS_PARTNER_LOCKED 1).on Fld.LNK_STATUS_RX_LOCKED = true :=
    (State.on_setFld_ne _ _ _ _ (by decide) (by decide)).trans hr
  have lock : (s.setFld Fld.LNK_STATUS_PARTNER_LOCKED 1).linkIs lnkLock = true := by
    rw [linkIs_iff, State.fld_setFld_ne _ _ _ _ (by decide) (by decide)]
    exact (linkIs_iff _ _).mp hl
  simp only [State.lockComplete, hw1, hl, decide_eq_true hd, bne_iff_ne.mpr hw, State.iff, bne_self_eq_false, Bool.not_true, Bool.not_false,
    Bool.false_or, Bool.true_or, Bool.and_true, if_true, rx, lock]

theorem knownBlock_deskew {payload : BitVec 64} (h : payload.toNat % 256 = 0x4B) : knownBlock payload = true := by
  simp [knownBlock, h]

theorem deskewEnds {payload : BitVec 64} (hp : payload.toNat % 256 = 0x4B) (hx : payload.getLsbD 16 = true) (hl : s.linkIs lnkLock = true)
    (hr : s.on Fld.LNK_STATUS_RX_LOCKED = true) (hd : s.link.deskew0 = 7) (hw : s.lockedWidth 0 ≠ 15) (hw1 : s.lockedWidth 1 = 15) :
    ∃ t, exec (.deskewBlockRx 0 payload) s = .next t ∧ t.linkIs lnkRollCall = true ∧
      t.on Fld.LNK_STATUS_PARTNER_LOCKED = true ∧ t.link.capVersion = 1 ∧ t.link.acked = false ∧ t.link.peer = none ∧
      (∀ n < 32, (t.queue n).sentCap = s.initialGrant n ∧ (t.queue n).sentUse = s.marksUsed n ∧ (t.queue n).use = false ∧
        (t.queue n).pkts = (s.queue n).pkts) := by
  have run : exec (.deskewBlockRx 0 payload) s = .next (State.lockComplete { s with link := { s.link with deskew0 := 8 } }) := by
    show execDeskewBlockRx 0 payload s = _
    rw [execDeskewBlockRx, knownBlock_deskew hp, hl, hp, hx, hd]
    rfl
  have ends : State.lockComplete { s with link := { s.link with deskew0 := 8 } } =
      (State.setFld { s with link := { s.link with deskew0 := 8 } } Fld.LNK_STATUS_PARTNER_LOCKED 1).enterRollCall :=
    State.lockComplete_ends hl hr hw hw1 (Nat.le_refl 8)
  obtain ⟨roll, partner, version, acked, peer, queues⟩ := State.enterRollCall_begins _ _ rfl
  rw [ends] at run
  refine ⟨_, run, roll, partner.trans (State.on_setFld_one _ _ (by decide) (by decide)), version, acked, peer, fun n hn => ?_⟩
  have same := State.caps_congr (s := s) (t := State.setFld { s with link := { s.link with deskew0 := 8 } } Fld.LNK_STATUS_PARTNER_LOCKED 1)
    (n := n) (fun a ha => State.rd_setFld_ne _ _ _ (by simp only [Reg.LNK_STATUS]; omega)) rfl
  rw [← same.1, ← same.2]
  exact queues n hn

/-- The reports of too narrow a width are events alone, and find room (R111). -/
theorem State.reportWidths (c : State → Nat → Bool) (n : Nat) {s : State} {m : Nat} (room : s.raiseRoom m) (hn : n ≤ m) :
    ∃ l, s.forEach n (fun s b => s.iff (c s b) (fun s => s.event 0x23 0)) = { s with raise := s.raise ++ l } ∧ l.length ≤ n := by
  induction n with
  | zero => exact ⟨[], by rw [List.append_nil]; rfl, Nat.le_refl _⟩
  | succ n ih =>
    obtain ⟨l, pass, len⟩ := ih (by omega)
    rw [State.forEach_succ, pass, State.iff]
    have left : State.raiseRoom { s with raise := s.raise ++ l } 1 := ⟨room.1, by
      have := room.2
      simp only [List.length_append]
      omega⟩
    split_ifs
    · refine ⟨l ++ [State.occurrence { s with raise := s.raise ++ l } 0x23 0], ?_, by simp; omega⟩
      rw [State.event_raiseRoom left (by decide), ← List.append_assoc]
    · exact ⟨l, rfl, by omega⟩

/-- The agreed widths are taken. -/
def State.agree (s : State) (w : List Nat) : State := { s with link := { s.link with widths := w } }

/-- The reports of the widths that are below LNK_WIDTH_MAX. -/
def State.reportNarrow (s : State) (w : List Nat) : State :=
  s.forEach 4 (fun s b => s.iff (decide (widthOf (w.getD b 15) < widthOf (s.widthMax b))) (fun s => s.event 0x23 0))

def State.sendSwitch (s : State) : State := { s with link := { s.link with switchSent := true } }

/-- The exchange ends with the widths `w` (R112). -/
def State.conclude (s : State) (w : List Nat) : State :=
  let u := (s.agree w).reportNarrow w
  if (u.tbInUse 0 || u.tbInUse 1) && (u.qbInUse 0 || u.qbInUse 1) then u.sendSwitch.tryActive else u.dropLink 7 0xFF true

theorem exec_rollCallConclude (s : State) : exec .rollCallConclude s = .next (match s.link.peer with
    | some p =>
      if s.linkIs lnkRollCall && s.link.acked && s.link.ackSent && !s.link.switchSent then s.conclude (s.agreedWidths p) else s
    | none => s) := by
  show execRollCallConclude s = _
  unfold execRollCallConclude State.conclude State.reportNarrow State.agree State.sendSwitch
  rfl

theorem State.tryActive_waits (hq : s.qbInUse 0 = true) (hs : s.link.switchRx = []) : s.tryActive = s := by
  have got : (!s.qbInUse 0 || s.link.switchRx.contains 0) = false := by simp [hq, hs]
  simp only [State.tryActive, got, Bool.and_false, Bool.false_and, Bool.false_eq_true, if_false]

theorem rollCallConcludes {p : List Byte} (hp : s.link.peer = some p) (hl : s.linkIs lnkRollCall = true) (ha : s.link.acked = true)
    (hs : s.link.ackSent = true) (hn : s.link.switchSent = false) (hx : s.link.switchRx = []) (h0 : (s.agreedWidths p).getD 0 15 ≠ 15)
    (h2 : (s.agreedWidths p).getD 2 15 ≠ 15) (room : s.raiseRoom 4) :
    ∃ t, exec .rollCallConclude s = .next t ∧ t.linkIs lnkRollCall = true ∧
      t.link = { s.link with widths := s.agreedWidths p, switchSent := true } ∧
      t = { s with raise := t.raise, link := t.link } ∧ s.raise <+: t.raise := by
  obtain ⟨l, reports, -⟩ := State.reportWidths (fun u b => decide (widthOf ((s.agreedWidths p).getD b 15) < widthOf (u.widthMax b))) 4
    (s := s.agree (s.agreedWidths p)) (room.congr rfl rfl) (Nat.le_refl 4)
  have run := exec_rollCallConclude s
  rw [hp] at run
  dsimp only at run
  rw [if_pos (by simp [hl, ha, hs, hn])] at run
  have narrow : (s.agree (s.agreedWidths p)).reportNarrow (s.agreedWidths p) =
      { s.agree (s.agreedWidths p) with raise := s.raise ++ l } := reports
  have concluded : s.conclude (s.agreedWidths p) = State.sendSwitch { s.agree (s.agreedWidths p) with raise := s.raise ++ l } := by
    rw [State.conclude, narrow]
    generalize s.agreedWidths p = w at h0 h2
    have tb : State.tbInUse { s.agree w with raise := s.raise ++ l } 0 = true := bne_iff_ne.mpr h0
    have qb : State.qbInUse { s.agree w with raise := s.raise ++ l } 0 = true := bne_iff_ne.mpr h2
    rw [tb, qb]
    exact State.tryActive_waits qb hx
  rw [concluded] at run
  exact ⟨_, run, hl, rfl, rfl, ⟨l, rfl⟩⟩

/-! ### Entry into ACTIVE (R112, R134, R135) -/

/-- What the entry into ACTIVE shows of the session. -/
def State.showSession (s : State) (p : List Byte) : State :=
  let s := s.setFld Fld.LNK_STATUS_STATE lnkActive
  let s := (((s.setFld Fld.LNK_STATUS_TB0_W (s.link.widths.getD 0 15)).setFld Fld.LNK_STATUS_TB1_W
    (s.link.widths.getD 1 15)).setFld Fld.LNK_STATUS_QB0_W (s.link.widths.getD 2 15)).setFld Fld.LNK_STATUS_QB1_W
    (s.link.widths.getD 3 15)
  (s.setFld Fld.QUE_STATUS_MAX_LEN (s.agreedMaxLen p)).setFld Fld.QUE_STATUS_LEVEL (s.agreedLevel p)

/-- Queue `n` as a session with the partner's CAP `p` at level `level` opens it. -/
def State.openQueue (p : List Byte) (level : Nat) (s : State) (n : Nat) : State :=
  let q := s.queue n
  let w := peerWord p n
  let use := q.sentUse && bitOf w 26 && !((n == 9 || n == 25) && level == 2)
  let bun := if queueInbound n then w / 2 ^ 24 % 4 else q.sentBundle
  let one := if n == 8 || n == 10 || n == 11 || n == 26 || n == 27 then (if bun = 2 then 0 else bun) else bun
  let s := s.setQueue n { q with use := use, bundle := one, unlimited := !queueInbound n && bitOf w 27,
                                 dirty := decide (q.released ≠ 0), expect0 := none, expect1 := none,
                                 tx0 := 0, tx1 := 0, init0 := true, init1 := true, released := 0, reports := [] }
  let s := s.setFld (Fld.QUE_CONSn_TOTAL n) 0
  let g := if !use then 0 else if queueInbound n then q.sentCap + q.released else w % 2 ^ 24
  let s := s.setFld (Fld.QUE_GRANTn_TOTAL n) g
  if queueInbound n then s.setFld (Fld.QUE_CFGn_BUNDLE n) (w / 2 ^ 24 % 4)
  else s.setFld (Fld.QUE_CFGn_UNLIMITED n) (bit (bitOf w 27))

def State.openQueues (s : State) (p : List Byte) (level : Nat) : State := s.forEach 32 (State.openQueue p level)

theorem State.enterActive_eq (s : State) : s.enterActive =
    ((((s.showSession (s.link.peer.getD [])).openQueues (s.link.peer.getD [])
      ((s.showSession (s.link.peer.getD [])).agreedLevel (s.link.peer.getD []))).setFld Fld.LNK_RETRY_COUNT 0).event 0x20 0).iff
      (State.fld ((((s.showSession (s.link.peer.getD [])).openQueues (s.link.peer.getD [])
      ((s.showSession (s.link.peer.getD [])).agreedLevel (s.link.peer.getD []))).setFld Fld.LNK_RETRY_COUNT 0).event 0x20 0) Fld.BOOT_STATUS_STEP == 14)
      (fun s => s.setFld Fld.BOOT_STATUS_STEP 15) := by
  unfold State.enterActive State.openQueues State.showSession
  rfl

/-- Opening a queue changes that queue and its own registers. -/
theorem State.openQueue_beside (p : List Byte) (level : Nat) (s : State) (n : Nat) :
    ∃ r q, State.openQueue p level s n = { s with regs := r, queues := q } := by
  unfold State.openQueue
  extract_lets q w use bun one u v g x
  split_ifs
  · exact ⟨_, _, rfl⟩
  · exact ⟨_, _, rfl⟩

theorem State.rd_openQueue (p : List Byte) (level : Nat) (s : State) (n : Nat) {a : Nat} (hc : a ≠ Reg.QUE_CONSn n) (hg : a ≠ Reg.QUE_GRANTn n)
    (hf : a ≠ Reg.QUE_CFGn n) : (State.openQueue p level s n).rd a = s.rd a := by
  unfold State.openQueue
  extract_lets q w use bun one u v g x
  have hx : x.rd a = s.rd a := (State.rd_setFld_ne _ _ _ hg).trans (State.rd_setFld_ne _ _ _ hc)
  split_ifs
  · exact (State.rd_setFld_ne _ _ _ hf).trans hx
  · exact (State.rd_setFld_ne _ _ _ hf).trans hx

theorem State.openQueue_opens (p : List Byte) (level : Nat) (s : State) (n : Nat) :
    (State.openQueue p level s n).fld (Fld.QUE_CONSn_TOTAL n) = 0 ∧ ((State.openQueue p level s n).queue n).pkts = (s.queue n).pkts ∧
    ((State.openQueue p level s n).queue n).tx0 = 0 ∧ ((State.openQueue p level s n).queue n).init0 = true := by
  have apart : Reg.QUE_CONSn n ≠ Reg.QUE_CFGn n := by
    simp only [Reg.QUE_CONSn, Reg.QUE_CFGn]
    omega
  have apart' : Reg.QUE_CONSn n ≠ Reg.QUE_GRANTn n := by
    simp only [Reg.QUE_CONSn, Reg.QUE_GRANTn]
    omega
  unfold State.openQueue
  extract_lets q w use bun one u v g x
  have hx : x.fld (Fld.QUE_CONSn_TOTAL n) = 0 := by
    rw [State.fld_setFld_ne _ _ _ _ (by simp) (.inl apart')]
    exact State.fld_setFld_same _ _ _ (by simp) (Nat.two_pow_pos _)
  have hq : x.queue n = _ := State.queue_setQueue_same _ _ _
  split_ifs
  · refine ⟨(State.fld_setFld_ne _ _ _ _ (by simp) (.inl apart)).trans hx, ?_⟩
    rw [State.queue_setFld, hq]
    exact ⟨rfl, rfl, rfl⟩
  · refine ⟨(State.fld_setFld_ne _ _ _ _ (by simp) (.inl apart)).trans hx, ?_⟩
    rw [State.queue_setFld, hq]
    exact ⟨rfl, rfl, rfl⟩

theorem State.queue_openQueue_ne (p : List Byte) (level : Nat) (s : State) {n k : Nat} (h : k ≠ n) :
    (State.openQueue p level s n).queue k = s.queue k := by
  unfold State.openQueue
  extract_lets q w use bun one u v g x
  have hx : x.queue k = s.queue k := State.queue_setQueue_ne _ _ h
  split_ifs
  · rw [State.queue_setFld, hx]
  · rw [State.queue_setFld, hx]

theorem State.openQueues_opens (s : State) (p : List Byte) (level : Nat) {n : Nat} (hn : n < 32) :
    (s.openQueues p level).fld (Fld.QUE_CONSn_TOTAL n) = 0 ∧ ((s.openQueues p level).queue n).pkts = (s.queue n).pkts ∧
    ((s.openQueues p level).queue n).tx0 = 0 ∧ ((s.openQueues p level).queue n).init0 = true := by
  obtain ⟨u, hu, -, turn⟩ := State.forEach_once (f := State.openQueue p level) (fun u => (u.rd (Reg.QUE_CONSn n), u.queue n)) (fun _ => ()) hn
    (fun u k _ hk => by
      rw [State.rd_openQueue _ _ _ _ (by simp only [Reg.QUE_CONSn]; omega) (by simp only [Reg.QUE_CONSn, Reg.QUE_GRANTn]; omega)
        (by simp only [Reg.QUE_CONSn, Reg.QUE_CFGn]; omega), State.queue_openQueue_ne _ _ _ (Ne.symm hk)]) (fun _ _ => rfl) s
  obtain ⟨cons, pkts, tx, init⟩ := u.openQueue_opens p level n
  simp only [Prod.mk.injEq] at hu turn
  obtain ⟨regs, queue⟩ := turn
  unfold State.openQueues
  rw [State.fld_congr (f := Fld.QUE_CONSn_TOTAL n) regs, queue, cons, pkts, tx, init, hu.2]
  exact ⟨rfl, rfl, rfl, rfl⟩

theorem State.rd_openQueues (s : State) (p : List Byte) (level : Nat) {a : Nat} (ha : a < 0xA1000) : (s.openQueues p level).rd a = s.rd a := by
  unfold State.openQueues
  exact State.forEach_keeps (fun u => u.rd a) (State.openQueue p level) (fun u k => State.rd_openQueue p level u k
    (by simp only [Reg.QUE_CONSn]; omega) (by simp only [Reg.QUE_GRANTn]; omega) (by simp only [Reg.QUE_CFGn]; omega)) 32 s

theorem State.openQueues_beside (s : State) (p : List Byte) (level : Nat) :
    (s.openQueues p level).raise = s.raise ∧ (s.openQueues p level).domains = s.domains ∧ (s.openQueues p level).air = s.air := by
  have keeps {γ : Type} (g : State → γ) (hg : ∀ (u : State) r q, g { u with regs := r, queues := q } = g u) : g (s.openQueues p level) = g s := by
    unfold State.openQueues
    refine State.forEach_keeps g (State.openQueue p level) (fun u k => ?_) 32 s
    obtain ⟨r, q, same⟩ := State.openQueue_beside p level u k
    rw [same, hg]
  exact ⟨keeps State.raise fun _ _ _ => rfl, keeps State.domains fun _ _ _ => rfl, keeps State.air fun _ _ _ => rfl⟩

theorem State.showSession_beside (s : State) (p : List Byte) : s.beside (s.showSession p) :=
  (((((((State.beside.refl s).setFld _ _).setFld _ _).setFld _ _).setFld _ _).setFld _ _).setFld _ _).setFld _ _

theorem State.showSession_shows (s : State) (p : List Byte) :
    (s.showSession p).linkIs lnkActive = true ∧ (s.showSession p).fld Fld.LNK_STATUS_QB0_W = s.link.widths.getD 2 15 % 16 := by
  unfold State.showSession
  extract_lets u v
  have active : v.linkIs lnkActive = true := by
    rw [linkIs_iff, State.fld_setFld_ne _ _ _ _ (by decide) (by decide), State.fld_setFld_ne _ _ _ _ (by decide) (by decide),
      State.fld_setFld_ne _ _ _ _ (by decide) (by decide), State.fld_setFld_ne _ _ _ _ (by decide) (by decide)]
    exact State.fld_setFld_same _ _ _ (by decide) (by decide)
  have width : v.fld Fld.LNK_STATUS_QB0_W = s.link.widths.getD 2 15 % 16 := by
    rw [State.fld_setFld_ne _ _ _ _ (by decide) (by decide), State.fld_setFld_mod _ _ _ (by decide)]
    rfl
  clear_value v
  constructor
  · rw [linkIs_iff, State.fld_setFld_ne _ _ _ _ (by decide) (by decide), State.fld_setFld_ne _ _ _ _ (by decide) (by decide)]
    exact (linkIs_iff _ _).mp active
  · rw [State.fld_setFld_ne _ _ _ _ (by decide) (by decide), State.fld_setFld_ne _ _ _ _ (by decide) (by decide), width]

theorem State.raise_event_room {n : Nat} (h : s.raiseRoom n) (hn : 0 < n) (code info : Nat) :
    (s.event code info).raise = s.raise ++ [s.occurrence code info] := by
  rw [State.event_raiseRoom h hn]

theorem State.rd_withRaise (s : State) (l : List EventRec) (a : Nat) : State.rd { s with raise := l } a = s.rd a := rfl

theorem State.queue_withRaise (s : State) (l : List EventRec) (n : Nat) : State.queue { s with raise := l } n = s.queue n := rfl

/-- ACTIVE is entered: the widths shown, the queues opened, the retry count cleared, event 0x20 (R112). -/
theorem State.enterActive_enters (s : State) (room : s.raiseRoom 1) (t : State) (ht : t = s.enterActive) :
    t.linkIs lnkActive = true ∧ t.fld Fld.LNK_RETRY_COUNT = 0 ∧ t.raise = s.raise ++ [s.occurrence 0x20 0] ∧
    t.fld Fld.LNK_STATUS_QB0_W = s.link.widths.getD 2 15 % 16 ∧
    ∀ n < 32, t.fld (Fld.QUE_CONSn_TOTAL n) = 0 ∧ (t.queue n).pkts = (s.queue n).pkts ∧ (t.queue n).tx0 = 0 ∧ (t.queue n).init0 = true := by
  rw [State.enterActive_eq] at ht
  obtain ⟨active, width⟩ := s.showSession_shows (s.link.peer.getD [])
  obtain ⟨r, shown⟩ := s.showSession_beside (s.link.peer.getD [])
  generalize s.link.peer.getD [] = p at *
  generalize s.showSession p = u at *
  have regs (a : Nat) (ha : a < 0xA1000) := u.rd_openQueues p (u.agreedLevel p) ha
  have opens (n : Nat) (hn : n < 32) := u.openQueues_opens p (u.agreedLevel p) hn
  obtain ⟨raise, domains, air⟩ := u.openQueues_beside p (u.agreedLevel p)
  generalize u.openQueues p (u.agreedLevel p) = v at *
  have left : (v.setFld Fld.LNK_RETRY_COUNT 0).raiseRoom 1 := (room.congr (t := v) (domains.trans (by rw [shown])) (raise.trans (by rw [shown]))).congr
    (State.setFld_domains _ _ _) (State.setFld_raise _ _ _)
  obtain ⟨x, hx⟩ : ∃ x, x = (v.setFld Fld.LNK_RETRY_COUNT 0).event 0x20 0 := ⟨_, rfl⟩
  rw [← hx] at ht
  have xraise : x.raise = s.raise ++ [s.occurrence 0x20 0] := by
    have before : u.raise = s.raise ∧ u.air = s.air := by rw [shown]; exact ⟨rfl, rfl⟩
    have at' : (v.setFld Fld.LNK_RETRY_COUNT 0).occurrence 0x20 0 = s.occurrence 0x20 0 := by
      unfold State.occurrence
      rw [State.setFld_air, air, before.2]
    rw [hx, State.raise_event_room left (by decide), at', State.setFld_raise, raise, before.1]
  have xregs (a : Nat) : x.rd a = (v.setFld Fld.LNK_RETRY_COUNT 0).rd a := by
    rw [hx, State.event_raiseRoom left (by decide), State.rd_withRaise]
  have xqueue (n : Nat) : x.queue n = v.queue n := by
    rw [hx, State.event_raiseRoom left (by decide), State.queue_withRaise, State.queue_setFld]
  clear hx
  have kept {γ : Type} (g : State → γ) (hg : g (x.setFld Fld.BOOT_STATUS_STEP 15) = g x) : g t = g x := by
    rw [ht, State.iff]
    split_ifs
    · exact hg
    · rfl
  have regs' (a : Nat) (ha : a ≠ Reg.BOOT_STATUS) (hr : a ≠ Reg.LNK_RETRY) : t.rd a = v.rd a :=
    (kept (fun u => u.rd a) (State.rd_setFld_ne _ _ _ ha)).trans ((xregs a).trans (State.rd_setFld_ne _ _ _ hr))
  have before (n : Nat) : u.queue n = s.queue n := by rw [shown]; rfl
  refine ⟨?_, ?_, (kept State.raise (State.setFld_raise _ _ _)).trans xraise, ?_, fun n hn => ?_⟩
  · exact (State.linkIs_congr ((regs' _ (by decide) (by decide)).trans (regs _ (by decide))) _).trans active
  · have retry : t.rd Reg.LNK_RETRY = (v.setFld Fld.LNK_RETRY_COUNT 0).rd Reg.LNK_RETRY :=
      (kept (fun u => u.rd Reg.LNK_RETRY) (State.rd_setFld_ne _ _ _ (by decide))).trans (xregs _)
    exact (State.fld_congr retry).trans (State.fld_setFld_same _ _ _ (by decide) (by decide))
  · exact (State.fld_congr ((regs' _ (by decide) (by decide)).trans (regs _ (by decide)))).trans width
  · obtain ⟨cons, pkts, tx, init⟩ := opens n hn
    have queue : t.queue n = v.queue n := (kept (fun u => u.queue n) (State.queue_setFld _ _ _ _)).trans (xqueue n)
    rw [queue, State.fld_congr (f := Fld.QUE_CONSn_TOTAL n) (regs' _ (by simp only [Reg.QUE_CONSn, Reg.BOOT_STATUS]; omega)
      (by simp only [Reg.QUE_CONSn, Reg.LNK_RETRY]; omega)), cons, pkts, tx, init, before]
    exact ⟨rfl, rfl, rfl, rfl⟩

theorem State.tryActive_enters (hl : s.linkIs lnkRollCall = true) (hs : s.link.switchSent = true) (h1 : s.qbInUse 1 = false)
    (h0 : s.link.switchRx.contains 0 = true) : s.tryActive = s.enterActive := by
  simp only [State.tryActive, hl, hs, h0, h1, Bool.or_true, Bool.not_false, Bool.true_or, Bool.and_true, if_true]

theorem knownBlock_switch {payload : BitVec 64} (h : payload.toNat % 256 = 0x55) : knownBlock payload = true := by
  simp [knownBlock, h]

/-- A SWITCH block has come on lane 0 of QB0. -/
def State.switchHeard (s : State) : State :=
  { s with link := { s.link with switchRx := (List.range 2).filter (fun k => s.link.switchRx.contains k || k == 0) } }

/-- SWITCH on the one QB in use enters ACTIVE (R112). -/
theorem switchEnters {payload : BitVec 64} (hp : payload.toNat % 256 = 0x55) (hl : s.linkIs lnkRollCall = true) (hs : s.link.switchSent = true)
    (h1 : s.qbInUse 1 = false) (room : s.raiseRoom 1) :
    ∃ t, exec (.switchBlockRx 0 payload) s = .next t ∧ t.linkIs lnkActive = true ∧ t.fld Fld.LNK_RETRY_COUNT = 0 ∧
      t.raise = s.raise ++ [s.occurrence 0x20 0] ∧ t.fld Fld.LNK_STATUS_QB0_W = s.link.widths.getD 2 15 % 16 ∧
      ∀ n < 32, t.fld (Fld.QUE_CONSn_TOTAL n) = 0 ∧ (t.queue n).pkts = (s.queue n).pkts ∧ (t.queue n).tx0 = 0 ∧ (t.queue n).init0 = true := by
  have heard : s.switchHeard.link.switchRx.contains 0 = true := by simp [State.switchHeard]
  have run : exec (.switchBlockRx 0 payload) s = .next s.switchHeard.tryActive := by
    show execSwitchBlockRx 0 payload s = _
    rw [execSwitchBlockRx, knownBlock_switch hp, hl, hp]
    rfl
  rw [State.tryActive_enters (s := s.switchHeard) hl hs h1 heard] at run
  exact ⟨_, run, s.switchHeard.enterActive_enters (room.congr rfl rfl) _ rfl⟩

/-- Settles O24: the centring, the end of LOCK, the end of the exchange and the entry into ACTIVE, each by its own lemma. -/
theorem rollCallLeadsToActive : Obligations.RollCallLeadsToActive := by
  intro s
  exact ⟨rxLocks, fun _ hp hx hl hr hd hw hw1 => deskewEnds hp hx hl hr hd hw hw1,
    fun _ hp hl ha hs hn hx h0 h2 room => rollCallConcludes hp hl ha hs hn hx h0 h2 room,
    fun _ hp hl hs _ h1 room => switchEnters hp hl hs h1 room⟩

/-! ### The enable bit, wander and TEST (R101, R113, R117, R118) -/

/-- A write of LNK_CTRL that enables the link and asks for no restart. -/
theorem State.lnkCtrlWrite_enables (he : Fld.LNK_CTRL_ENABLE.of d = 1) (hr : Fld.LNK_CTRL_RESTART.of d = 0) :
    s.lnkCtrlWrite d = s.setFld Fld.LNK_CTRL_ENABLE 1 := by
  unfold State.lnkCtrlWrite
  rw [he, hr]
  rfl

theorem linkEnables (h : s.passes q Reg.LNK_CTRL true) (he : Fld.LNK_CTRL_ENABLE.of d = 1) :
    ∃ t, exec (.lnkCtrlEnable q d) s = .next t ∧ t.on Fld.LNK_CTRL_ENABLE = true ∧ s.onlyRegs t [Reg.LNK_CTRL] := by
  have run : exec (.lnkCtrlEnable q d) s = _ := exec_access (f := fun s => s.lnkCtrlWrite (Fld.LNK_CTRL_RESTART.put 0 d)) h rfl
  rw [State.lnkCtrlWrite_enables ((Fld.of_put_ne _ _ _ _ (by decide) (by decide)).trans he) (Fld.of_put_same _ _ _ (by decide) (by decide))] at run
  exact ⟨_, run, State.on_setFld_one _ _ (by decide) (by decide), rfl, (State.regsBut.refl s _).setFld _ (by simp)⟩

/-- An offset within ±64 UI is read back from its code. -/
theorem sext_toCode_satInt {off : Int} (h : off.natAbs ≤ 64) : sext 8 (toCode 8 (satInt 8 off) % 256) = off := by
  have fits : satInt 8 off = off := by
    simp only [satInt]
    omega
  simp only [fits, sext, toCode]
  split_ifs <;> omega

/-- The offset that LNK_EBUFk shows. -/
theorem State.recordFill_shows (s : State) (k : Nat) {off : Int} (h : off.natAbs ≤ 64) :
    sext 8 (getField 7 0 ((s.recordFill k off).rd (Reg.LNK_EBUF0 + 4 * k))) = off := by
  unfold State.recordFill
  extract_lets a w hi lo
  rw [State.rd_wr_same, getField_or, getField_or, getField_placeField_ne _ _ _ _ _ (by decide) (by decide),
    getField_placeField_ne _ _ _ _ _ (by decide) (by decide), getField_placeField_same _ _ _ (by decide), Nat.zero_or, Nat.zero_or]
  exact sext_toCode_satInt h

theorem State.recordFill_wr (s : State) (k : Nat) (off : Int) : ∃ w, s.recordFill k off = s.wr (Reg.LNK_EBUF0 + 4 * k) w := ⟨_, rfl⟩

/-- QBk's wander has been reported since the last centring. -/
def State.noteWander (s : State) (k : Nat) : State :=
  { s with link := { s.link with wandered := (List.range 2).filter (fun j => s.link.wandered.contains j || j == k) } }

theorem State.bufferOffset_eq (s : State) (k : Nat) (offset : Int) : s.bufferOffset k offset =
    if s.on Fld.LNK_STATUS_RX_LOCKED then
      let u := if (48 < offset ∨ offset < -48) ∧ k ∉ (s.recordFill k offset).link.wandered then
        ((s.recordFill k offset).noteWander k).event 0x27 0 else s.recordFill k offset
      if (64 < offset ∨ offset < -64) ∧ u.qbInUse k then u.leaveActive 4 0xFF else u
    else s := by
  unfold State.bufferOffset State.noteWander
  rfl

/-- Wander beyond 48 UI is reported once after a centring (R101). -/
theorem wanders (k : Fin 2) {off : Int} (h48 : 48 < off.natAbs) (h64 : off.natAbs ≤ 64) (hr : s.on Fld.LNK_STATUS_RX_LOCKED = true)
    (hw : k.val ∉ s.link.wandered) (room : s.raiseRoom 1) :
    ∃ t, exec (.ebufWander k off) s = .next t ∧ k.val ∈ t.link.wandered ∧ t.raise = s.raise ++ [s.occurrence 0x27 0] ∧
      sext 8 (getField 7 0 (t.rd (Reg.LNK_EBUF0 + 4 * k.val))) = off ∧
      t = { s with regs := t.regs, raise := t.raise, link := t.link } ∧ s.regsBut t [Reg.LNK_EBUF0 + 4 * k.val] := by
  have shows := s.recordFill_shows k.val h64
  obtain ⟨w, fill⟩ := s.recordFill_wr k.val off
  have run : exec (.ebufWander k off) s = .next (s.bufferOffset k.val off) := rfl
  have inside : ¬ ((64 < off ∨ off < -64)) := by omega
  have beyond : 48 < off ∨ off < -48 := by omega
  rw [State.bufferOffset_eq, if_pos hr] at run
  dsimp only at run
  rw [if_neg (fun h => inside h.1), fill, if_pos ⟨beyond, hw⟩] at run
  rw [fill] at shows
  generalize Reg.LNK_EBUF0 + 4 * k.val = a at *
  have left : ((s.wr a w).noteWander k.val).raiseRoom 1 := room.congr rfl rfl
  rw [State.event_raiseRoom left (by decide)] at run
  refine ⟨_, run, ?_, rfl, shows, rfl, ?_⟩
  · simp [State.noteWander, Nat.le_of_lt_succ k.isLt]
  · exact ((State.regsBut.refl s [a]).wr w (by simp)).congr rfl

/-- GO of LNK_TEST on a link that is DOWN enters TEST (R117). -/
theorem State.lnkTestWrite_enters (hl : s.linkIs lnkDown = true) (hr : s.on Fld.CLK_STATUS_ROOT_LOCK = true)
    (hc : s.on Fld.LNK_TEST_CHK_EN = true) (hg : Fld.LNK_TEST_GO.of d = 1) : s.lnkTestWrite q d =
    (s.plainWrite Reg.LNK_TEST (Fld.LNK_TEST_GO.put 0 d)).startTest ((s.plainWrite Reg.LNK_TEST (Fld.LNK_TEST_GO.put 0 d)).fld Fld.LNK_TEST_LOOP)
      ((s.plainWrite Reg.LNK_TEST (Fld.LNK_TEST_GO.put 0 d)).fld Fld.LNK_TEST_PATTERN)
      ((s.plainWrite Reg.LNK_TEST (Fld.LNK_TEST_GO.put 0 d)).fld Fld.LNK_TEST_DURATION_MS) := by
  have status : (s.plainWrite Reg.LNK_TEST (Fld.LNK_TEST_GO.put 0 d)).rd Reg.LNK_STATUS = s.rd Reg.LNK_STATUS := State.rd_wr_ne _ _ (by decide)
  have lock : (s.plainWrite Reg.LNK_TEST (Fld.LNK_TEST_GO.put 0 d)).on Fld.CLK_STATUS_ROOT_LOCK = true := (State.on_wr_ne _ _ _ _ (by decide)).trans hr
  have down : (s.plainWrite Reg.LNK_TEST (Fld.LNK_TEST_GO.put 0 d)).linkIs lnkDown = true := (State.linkIs_congr status _).trans hl
  unfold State.lnkTestWrite
  generalize s.plainWrite Reg.LNK_TEST (Fld.LNK_TEST_GO.put 0 d) = u at *
  have active := State.linkIs_ne down (by decide : lnkDown ≠ lnkActive)
  have test := State.linkIs_ne down (by decide : lnkDown ≠ lnkTest)
  have stays : u.leaveActive 6 0xFF = u := by
    rw [State.leaveActive, active]
    rfl
  simp only [hc, hg, lock, active, test, stays, Bool.not_true, Bool.not_false, Bool.false_eq_true, and_false, and_self, if_true, if_false]

theorem State.startTest_link (s : State) (loop pattern ms : Nat) : (s.startTest loop pattern ms).link = { s.link with
    testLoop := loop, testPattern := pattern, testMs := ms, tbClock := if loop = 3 then [0, 1] else s.link.tbClock } := rfl

theorem State.startTest_beside (s : State) (loop pattern ms : Nat) : ∃ r, s.startTest loop pattern ms =
    { s with regs := r, link := (s.startTest loop pattern ms).link } := ⟨_, rfl⟩

theorem State.startTest_regs (s : State) (loop pattern ms : Nat) : ∀ a,
    (s.startTest loop pattern ms).rd a = ((s.setFld Fld.LNK_STATUS_STATE lnkTest).setFld Fld.LNK_TEST_GO 1).rd a := fun _ => rfl

theorem testBegins (h : s.passes q Reg.LNK_TEST true) (hr : s.on Fld.CLK_STATUS_ROOT_LOCK = true) (hl : s.linkIs lnkDown = true)
    (hc : s.on Fld.LNK_TEST_CHK_EN = true) :
    ∃ t, exec (.lnkTestGo q d) s = .next t ∧ t.linkIs lnkTest = true ∧ t.on Fld.LNK_TEST_GO = true ∧
      t.link = { s.link with
        testLoop := t.fld Fld.LNK_TEST_LOOP, testPattern := t.fld Fld.LNK_TEST_PATTERN
        testMs := Fld.LNK_TEST_DURATION_MS.of d
        tbClock := if t.fld Fld.LNK_TEST_LOOP = 3 then [0, 1] else s.link.tbClock } ∧
      t = { s with regs := t.regs, link := t.link } ∧ s.regsBut t [Reg.LNK_TEST, Reg.LNK_STATUS] := by
  have run : exec (.lnkTestGo q d) s = _ := exec_access (f := fun s => s.lnkTestWrite q (Fld.LNK_TEST_GO.put 1 d)) h rfl
  rw [State.lnkTestWrite_enters hl hr hc (Fld.of_put_same _ _ _ (by decide) (by decide))] at run
  have ms : (s.plainWrite Reg.LNK_TEST (Fld.LNK_TEST_GO.put 0 (Fld.LNK_TEST_GO.put 1 d))).fld Fld.LNK_TEST_DURATION_MS =
      Fld.LNK_TEST_DURATION_MS.of d :=
    (State.fld_plainWrite_plain s (f := Fld.LNK_TEST_DURATION_MS) (by decide) _).trans
      ((Fld.of_put_ne _ _ _ _ (by decide) (by decide)).trans (Fld.of_put_ne _ _ _ _ (by decide) (by decide)))
  have regs : s.regsBut (s.plainWrite Reg.LNK_TEST (Fld.LNK_TEST_GO.put 0 (Fld.LNK_TEST_GO.put 1 d))) [Reg.LNK_TEST, Reg.LNK_STATUS] :=
    (State.regsBut.refl s _).plainWrite _ (by simp)
  obtain ⟨r, same⟩ : s.beside (s.plainWrite Reg.LNK_TEST (Fld.LNK_TEST_GO.put 0 (Fld.LNK_TEST_GO.put 1 d))) := ⟨_, rfl⟩
  generalize s.plainWrite Reg.LNK_TEST (Fld.LNK_TEST_GO.put 0 (Fld.LNK_TEST_GO.put 1 d)) = u at *
  rw [ms] at run
  have shown (a : Nat) := u.startTest_regs (u.fld Fld.LNK_TEST_LOOP) (u.fld Fld.LNK_TEST_PATTERN) (Fld.LNK_TEST_DURATION_MS.of d) a
  have link := u.startTest_link (u.fld Fld.LNK_TEST_LOOP) (u.fld Fld.LNK_TEST_PATTERN) (Fld.LNK_TEST_DURATION_MS.of d)
  obtain ⟨r', beside⟩ := u.startTest_beside (u.fld Fld.LNK_TEST_LOOP) (u.fld Fld.LNK_TEST_PATTERN) (Fld.LNK_TEST_DURATION_MS.of d)
  generalize u.startTest (u.fld Fld.LNK_TEST_LOOP) (u.fld Fld.LNK_TEST_PATTERN) (Fld.LNK_TEST_DURATION_MS.of d) = t at *
  have field (f : Fld) (hf : f.addr = Reg.LNK_TEST ∧ 0 < f.lo) : t.fld f = u.fld f := by
    rw [State.fld_congr (shown _), State.fld_setFld_ne _ _ _ _ (by decide) (.inr (.inr hf.2)),
      State.fld_setFld_ne _ _ _ _ (by decide) (.inl (by rw [hf.1]; decide))]
  refine ⟨t, run, ?_, ?_, ?_, ?_, fun a ha => ?_⟩
  · rw [State.linkIs_congr (shown _), linkIs_iff, State.fld_setFld_ne _ _ _ _ (by decide) (by decide)]
    exact State.fld_setFld_same _ _ _ (by decide) (by decide)
  · rw [State.on, State.fld_congr (shown _), ← State.on]
    exact State.on_setFld_one _ _ (by decide) (by decide)
  · rw [link, field Fld.LNK_TEST_LOOP (by decide), field Fld.LNK_TEST_PATTERN (by decide), same]
  · rw [beside, same]
  · have ha' := ha
    simp only [List.mem_cons, List.not_mem_nil, or_false, not_or] at ha
    rw [shown, State.rd_setFld_ne _ _ _ ha.1, State.rd_setFld_ne _ _ _ ha.2, regs a ha']

/-- The checkers' counts begin again (R118). -/
def State.clearCheckers (s : State) : State :=
  ((s.forEach 44 (fun s e => s.wr (Reg.LNK_PRBS_ERRe e) 0)).wr Reg.LNK_PRBS_UI_LO 0).wr Reg.LNK_PRBS_UI_HI 0

def checkerRegs : List Nat := [Reg.LNK_TEST, Reg.LNK_PRBS_UI_LO, Reg.LNK_PRBS_UI_HI] ++ (List.range 44).map Reg.LNK_PRBS_ERRe

theorem State.clearCheckers_regsBut (s : State) : s.regsBut s.clearCheckers checkerRegs :=
  (((State.regsBut.refl s _).forEach 44 (fun v e he => (State.regsBut.refl v _).wr _
    (List.mem_append_right _ (List.mem_map_of_mem (List.mem_range.mpr he))))).wr _
    (by simp)).wr _ (by simp)

theorem State.clearCheckers_beside (s : State) : s.beside s.clearCheckers :=
  (((State.beside.refl s).forEach (fun v _ => (State.beside.refl v).wr _ _) 44).wr _ _).wr _ _

theorem State.clearCheckers_zero (s : State) : (∀ e < 44, s.clearCheckers.rd (Reg.LNK_PRBS_ERRe e) = 0) ∧
    s.clearCheckers.rd Reg.LNK_PRBS_UI_LO = 0 ∧ s.clearCheckers.rd Reg.LNK_PRBS_UI_HI = 0 := by
  refine ⟨fun e he => ?_, (State.rd_wr_ne _ _ (by decide)).trans (State.rd_wr_same _ _ _), State.rd_wr_same _ _ _⟩
  obtain ⟨v, -, -, turn⟩ := State.forEach_once (f := fun s e => s.wr (Reg.LNK_PRBS_ERRe e) 0)
    (fun u => u.rd (Reg.LNK_PRBS_ERRe e)) (fun _ => ()) he
    (fun u k _ hk => State.rd_wr_ne _ _ (by simp only [Reg.LNK_PRBS_ERRe]; omega)) (fun _ _ => rfl) s
  unfold State.clearCheckers
  rw [State.rd_wr_ne _ _ (by simp only [Reg.LNK_PRBS_ERRe, Reg.LNK_PRBS_UI_HI]; omega),
    State.rd_wr_ne _ _ (by simp only [Reg.LNK_PRBS_ERRe, Reg.LNK_PRBS_UI_LO]; omega)]
  exact turn.trans (State.rd_wr_same _ _ _)

theorem State.rd_clearCheckers (s : State) : s.clearCheckers.rd Reg.LNK_TEST = s.rd Reg.LNK_TEST := by
  have pass := State.forEach_keeps (fun v => v.rd Reg.LNK_TEST) (fun s e => s.wr (Reg.LNK_PRBS_ERRe e) 0)
    (fun v e => State.rd_wr_ne _ _ (by simp only [Reg.LNK_PRBS_ERRe, Reg.LNK_TEST]; omega)) 44 s
  unfold State.clearCheckers
  rw [State.rd_wr_ne _ _ (by decide), State.rd_wr_ne _ _ (by decide), pass]

theorem State.lnkTestWrite_checks (hw : s.on Fld.LNK_TEST_CHK_EN = false) (hc : Fld.LNK_TEST_CHK_EN.of d = 1) (hg : Fld.LNK_TEST_GO.of d = 0) :
    s.lnkTestWrite q d = (s.plainWrite Reg.LNK_TEST (Fld.LNK_TEST_GO.put 0 d)).clearCheckers := by
  unfold State.clearCheckers
  simp only [State.lnkTestWrite, hw, hc, hg, Bool.not_false, and_self, if_true, zero_ne_one, false_and, if_false]

theorem checkersBegin (h : s.passes q Reg.LNK_TEST true) (hw : s.on Fld.LNK_TEST_CHK_EN = false) :
    ∃ t, exec (.lnkTestChkEn q d) s = .next t ∧ t.on Fld.LNK_TEST_CHK_EN = true ∧
      (∀ e < 44, t.rd (Reg.LNK_PRBS_ERRe e) = 0) ∧ t.rd Reg.LNK_PRBS_UI_LO = 0 ∧ t.rd Reg.LNK_PRBS_UI_HI = 0 ∧
      s.onlyRegs t ([Reg.LNK_TEST, Reg.LNK_PRBS_UI_LO, Reg.LNK_PRBS_UI_HI] ++ (List.range 44).map Reg.LNK_PRBS_ERRe) := by
  have run : exec (.lnkTestChkEn q d) s = _ :=
    exec_access (f := fun s => s.lnkTestWrite q (Fld.LNK_TEST_GO.put 0 (Fld.LNK_TEST_CHK_EN.put 1 d))) h rfl
  rw [State.lnkTestWrite_checks hw ((Fld.of_put_ne _ _ _ _ (by decide) (by decide)).trans (Fld.of_put_same _ _ _ (by decide) (by decide)))
    (Fld.of_put_same _ _ _ (by decide) (by decide))] at run
  have check : Fld.LNK_TEST_CHK_EN.of (Fld.LNK_TEST_GO.put 0 (Fld.LNK_TEST_GO.put 0 (Fld.LNK_TEST_CHK_EN.put 1 d))) = 1 :=
    (Fld.of_put_ne _ _ _ _ (by decide) (by decide)).trans
      ((Fld.of_put_ne _ _ _ _ (by decide) (by decide)).trans (Fld.of_put_same _ _ _ (by decide) (by decide)))
  generalize Fld.LNK_TEST_GO.put 0 (Fld.LNK_TEST_GO.put 0 (Fld.LNK_TEST_CHK_EN.put 1 d)) = w at *
  have on := State.fld_plainWrite_plain s (f := Fld.LNK_TEST_CHK_EN) (by decide) w
  rw [check] at on
  have regs : s.regsBut (s.plainWrite Reg.LNK_TEST w) checkerRegs := (State.regsBut.refl s _).plainWrite _ (by simp [checkerRegs])
  have same : s.beside (s.plainWrite Reg.LNK_TEST w) := ⟨_, rfl⟩
  generalize s.plainWrite Reg.LNK_TEST w = u at *
  obtain ⟨errors, lo, hi⟩ := u.clearCheckers_zero
  obtain ⟨r, beside⟩ := same.trans u.clearCheckers_beside
  refine ⟨u.clearCheckers, run, ?_, errors, lo, hi, ?_, regs.trans u.clearCheckers_regsBut⟩
  · rw [State.on, State.fld_congr (f := Fld.LNK_TEST_CHK_EN) u.rd_clearCheckers, on]
    rfl
  · rw [beside]

/-- The end of a timed TEST (R117, R118). -/
theorem State.checkerCounts_counts (hl : s.linkIs lnkTest = true) (hc : s.on Fld.LNK_TEST_CHK_EN = true) (errors : List Nat) (ui : Nat) :
    s.beside (s.checkerCounts errors ui) ∧
    (∀ l < 22, l % 11 ≠ 10 → (s.checkerCounts errors ui).fld (Fld.LNK_PRBS_ERRe_ERR (22 + l)) =
      min (2 ^ 32 - 1) (s.fld (Fld.LNK_PRBS_ERRe_ERR (22 + l)) + errors.getD l 0)) := by
  rw [State.checkerCounts_eq, if_pos (by rw [hl, hc]; rfl)]
  have beside : s.beside (s.countErrors errors) := (State.beside.refl s).forEach (fun v k => by
    unfold State.iff
    split_ifs
    · exact (State.beside.refl v).setFld _ _
    · exact State.beside.refl v) 22
  have counts (l : Nat) (hl : l < 22) (hd : l % 11 ≠ 10) : (s.countErrors errors).fld (Fld.LNK_PRBS_ERRe_ERR (22 + l)) =
      min (2 ^ 32 - 1) (s.fld (Fld.LNK_PRBS_ERRe_ERR (22 + l)) + errors.getD l 0) := by
    obtain ⟨v, hv, -, turn⟩ := State.forEach_once
      (f := fun s l => s.iff (decide (l % 11 ≠ 10)) (fun s => s.count (Fld.LNK_PRBS_ERRe_ERR (22 + l)) (errors.getD l 0)))
      (fun u => u.fld (Fld.LNK_PRBS_ERRe_ERR (22 + l))) (fun _ => ()) hl
      (fun u k _ hk => by
        unfold State.iff
        split_ifs
        · exact State.fld_setFld_ne _ _ _ _ (by simp) (.inl (by simp only [Reg.LNK_PRBS_ERRe]; omega))
        · rfl) (fun _ _ => rfl) s
    refine turn.trans ?_
    rw [decide_eq_true hd, State.iff, if_pos rfl, ← hv]
    exact State.fld_setFld_same _ _ _ (by simp) (lt_of_le_of_lt (Nat.min_le_left _ _) (by simp [Fld.width]))
  generalize s.countErrors errors = u at *
  refine ⟨(beside.wr _ _).wr _ _, fun l h22 hd => ?_⟩
  rw [← counts l h22 hd]
  exact (State.fld_wr_ne _ _ _ _ (by simp only [Reg.LNK_PRBS_ERRe, Reg.LNK_PRBS_UI_HI]; omega)).trans
    (State.fld_wr_ne _ _ _ _ (by simp only [Reg.LNK_PRBS_ERRe, Reg.LNK_PRBS_UI_LO]; omega))

theorem testEnds (hl : s.linkIs lnkTest = true) (hm : s.link.testMs ≠ 0) (hc : s.on Fld.LNK_TEST_CHK_EN = true) (errors : List Nat) (ui : Nat) :
    ∃ t, exec (.testEnd false errors ui) s = .next t ∧ t.linkIs lnkDown = true ∧ t.fld Fld.LNK_DOWN_INFO_REASON = 6 ∧
      t.on Fld.LNK_TEST_GO = false ∧
      (∀ l < 22, l % 11 ≠ 10 → t.fld (Fld.LNK_PRBS_ERRe_ERR (22 + l)) =
        min (2 ^ 32 - 1) (s.fld (Fld.LNK_PRBS_ERRe_ERR (22 + l)) + errors.getD l 0)) ∧
      t = { s with regs := t.regs, link := t.link } := by
  have run : exec (.testEnd false errors ui) s = .next ((s.checkerCounts errors ui).endTest 6) := by
    show execTestEnd false errors ui s = _
    rw [execTestEnd, if_pos (by simp [hl, hm])]
  obtain ⟨⟨r, same⟩, counts⟩ := State.checkerCounts_counts hl hc errors ui
  generalize s.checkerCounts errors ui = u at *
  rw [State.endTest, State.linkDown_uncounted] at run
  have down := u.fall_down 6 0xFF
  have reason := u.fall_reason (reason := 6) (by decide) 0xFF
  have regs := u.fall_regsBut 6 0xFF
  obtain ⟨r', fell⟩ := u.fall_beside 6 0xFF
  generalize u.fall 6 0xFF = v at *
  refine ⟨_, run, ?_, ?_, ?_, fun l h22 hd => ?_, ?_⟩
  · exact (State.linkIs_congr (State.rd_setFld_ne _ _ _ (by decide)) _).trans down
  · exact (State.fld_setFld_ne _ _ _ _ (by decide) (by decide)).trans reason
  · rw [State.on_eq_false]
    exact State.fld_setFld_same _ _ _ (by decide) (by decide)
  · rw [State.fld_setFld_ne _ _ _ _ (by decide) (.inl (by simp only [Reg.LNK_PRBS_ERRe, Reg.LNK_TEST]; omega)),
      regs.fld _ (by
        simp only [List.mem_cons, List.not_mem_nil, or_false, not_or, Reg.LNK_PRBS_ERRe, Reg.LNK_STATUS, Reg.LNK_DOWN_INFO]
        omega), counts l h22 hd]
  · rw [fell, same]
    rfl

/-- Settles O26: the enable bit, wander, and TEST from its GO to its end, each by its own lemma. -/
theorem linkTestAndWander : Obligations.LinkTestAndWander := by
  intro q d s
  exact ⟨linkEnables, fun k _ h48 h64 hr hw room => wanders k h48 h64 hr hw room, testBegins, checkersBegin,
    fun errors ui hl hm hc => testEnds hl hm hc errors ui⟩

end Sys2Proof.Machine

/-!
PROOFS. Clean stores, what the margin scan writes, and what a bad trailer leaves (O27, O28).
-/

namespace Sys2Proof.Machine

variable {s t : State} {as : List Nat} {a n : Nat} {q : Requester} {d : Word}

/-! ### A store whose words hold no error (R158 to R161) -/

theorem SMap.setRange_append {α : Type} [DecidableEq α] (x : α) (xs ys : List α) (m : SMap α) (k : Nat) :
    SMap.setRange x m k (xs ++ ys) = SMap.setRange x (SMap.setRange x m k xs) (k + xs.length) ys := by
  induction xs generalizing m k with
  | nil => rfl
  | cons v xs ih =>
    rw [List.cons_append, SMap.setRange, ih, SMap.setRange, List.length_cons]
    congr 1
    omega

theorem State.setEcc_clean (h : s.ecc = []) (w : Nat) : s.setEcc w 0 = s := by
  have same : SMap.set 0 s.ecc w 0 = s.ecc := by rw [h]; rfl
  rw [State.setEcc, same]

theorem State.checkWord_clean (h : s.ecc = []) (w req : Nat) : s.checkWord w req = (s, true) := by
  have none : s.eccAt w = 0 := by rw [State.eccAt, h]; rfl
  rw [State.checkWord, none, if_neg (by decide), if_neg (by decide)]

theorem State.checkWords_clean (h : s.ecc = []) (w req n : Nat) : s.checkWords w req n = (s, true) := by
  induction n generalizing w with
  | zero => rfl
  | succ n ih => simp only [State.checkWords, State.checkWord_clean h, ih, Bool.and_self]

theorem State.storeRead_clean (h : s.ecc = []) (a n req : Nat) : s.storeRead a n req = (s, s.storeBytes a n, true) := by
  simp only [State.storeRead, State.checkWords_clean h]

theorem State.storeWriteWord_clean (h : s.ecc = []) (hm : s.fld Fld.CST_ECC_INJ_MODE = 0) (a : Nat) (bs : List Byte) (req : Nat) :
    s.storeWriteWord a bs req = (s.putStore a bs, true) := by
  have written : ((s.putStore a bs).setEcc (wordIndex a) 0).injectEcc (wordIndex a) = s.putStore a bs := by
    rw [State.setEcc_clean (s := s.putStore a bs) h, State.injectEcc, if_neg (fun c => c.1 hm)]
  simp only [State.storeWriteWord, State.checkWord_clean h, ite_self, if_true, written]

theorem splitWords_putStore (fuel a : Nat) (bs : List Byte) (hf : bs.length ≤ fuel) (s : State) :
    (splitWords fuel a bs).foldl (fun s c => s.putStore c.1 c.2) s = s.putStore a bs := by
  induction fuel generalizing a bs s with
  | zero =>
    obtain rfl : bs = [] := List.length_eq_zero_iff.mp (by omega)
    rfl
  | succ fuel ih =>
    rw [splitWords]
    split_ifs with hb
    · rw [hb]
      rfl
    · have pos : 0 < bs.length := List.length_pos_iff.mpr hb
      rw [List.foldl_cons, ih _ _ (by rw [List.length_drop]; omega), State.putStore, State.putStore, State.putStore]
      by_cases hl : 8 - a % 8 ≤ bs.length
      · have len : (bs.take (8 - a % 8)).length = 8 - a % 8 := by rw [List.length_take]; omega
        have parts := SMap.setRange_append 0 (bs.take (8 - a % 8)) (bs.drop (8 - a % 8)) s.store a
        rw [List.take_append_drop, len] at parts
        rw [parts]
      · rw [List.drop_eq_nil_of_le (by omega), List.take_of_length_le (by omega)]
        rfl

/-- A write into a store whose words hold no error, with no injection armed, puts its bytes there and does nothing else. -/
theorem State.storeWrite_clean (h : s.ecc = []) (hm : s.fld Fld.CST_ECC_INJ_MODE = 0) (a : Nat) (bs : List Byte) (req : Nat) :
    s.storeWrite a bs req = (s.putStore a bs, true) := by
  have words (l : List (Nat × List Byte)) (u : State) (hu : u.ecc = []) (hmu : u.fld Fld.CST_ECC_INJ_MODE = 0) :
      l.foldl (fun r c =>
        let r' := r.1.storeWriteWord c.1 c.2 req
        (r'.1, r.2 && r'.2)) (u, true) = (l.foldl (fun s c => s.putStore c.1 c.2) u, true) := by
    induction l generalizing u with
    | nil => rfl
    | cons c l ih =>
      simp only [List.foldl_cons, State.storeWriteWord_clean hu hmu, Bool.and_self]
      exact ih (u.putStore c.1 c.2) hu hmu
  rw [State.storeWrite, words _ s h hm, splitWords_putStore _ _ _ (Nat.le_refl _)]

theorem State.storePut_clean (h : s.ecc = []) (hm : s.fld Fld.CST_ECC_INJ_MODE = 0) (a : Nat) (bs : List Byte) (req : Nat) :
    s.storePut a bs req = s.putStore a bs := by
  rw [State.storePut, State.storeWrite_clean h hm]

/-! ### The margin scan (R119, R120) -/

theorem State.lnkMarginWrite_overrun (hg : Fld.LNK_MARGIN_CTRL_GO.of d = 1) (hb : s.lopBusy 9 = true) :
    s.lnkMarginWrite d = s.setFld Fld.LNK_MARGIN_CTRL_OVERRUN 1 := by
  rw [State.lnkMarginWrite, if_pos ⟨hg, hb⟩]

/-- The lanes of a scan and its destination are taken. -/
def State.takeScan (s : State) : State :=
  { s with link := { s.link with scan := s.scanLanes, scanDest := s.fld Fld.LNK_MARGIN_DEST_ADDR } }

/-- LOP9 begins. -/
def State.beginScan (s : State) : State := s.takeScan.lopStart 9 lopRunning s.scanLanes.length

theorem State.lnkMarginWrite_go (hg : Fld.LNK_MARGIN_CTRL_GO.of d = 1) (hb : s.lopBusy 9 = false) : s.lnkMarginWrite d =
    let u := s.plainWrite Reg.LNK_MARGIN_CTRL d
    let fail := fun e => ((u.lopStart 9 lopRunning u.scanLanes.length).lopEnd 9 lopFailed e).setFld Fld.LNK_MARGIN_CTRL_GO 0
    if !u.linkIs lnkActive then fail 1
    else if u.fld Fld.LNK_MARGIN_DEST_ADDR < storeBase ∨ storeEnd < u.fld Fld.LNK_MARGIN_DEST_ADDR + 128 * u.scanLanes.length ∨
      !u.domOn pdCst then fail 2
    else u.beginScan := by
  unfold State.lnkMarginWrite State.beginScan State.takeScan
  rw [if_neg (by simp [hb]), if_pos hg]

theorem marginScanOverruns (h : s.passes q Reg.LNK_MARGIN_CTRL true) (hb : s.lopBusy 9 = true) :
    ∃ t, exec (.lop9MarginScan q d) s = .next t ∧ t.on Fld.LNK_MARGIN_CTRL_OVERRUN = true ∧ s.onlyRegs t [Reg.LNK_MARGIN_CTRL] := by
  have run : exec (.lop9MarginScan q d) s = _ := exec_access (f := fun s => s.lnkMarginWrite (Fld.LNK_MARGIN_CTRL_GO.put 1 d)) h rfl
  rw [State.lnkMarginWrite_overrun (Fld.of_put_same _ _ _ (by decide) (by decide)) hb] at run
  exact ⟨_, run, State.on_setFld_one _ _ (by decide) (by decide), rfl, (State.regsBut.refl s _).setFld _ (by simp)⟩

theorem marginScanBegins (h : s.passes q Reg.LNK_MARGIN_CTRL true) (hb : s.lopBusy 9 = false) (hl : s.linkIs lnkActive = true)
    (lo : storeBase ≤ s.fld Fld.LNK_MARGIN_DEST_ADDR) (hi : s.fld Fld.LNK_MARGIN_DEST_ADDR + 128 * s.scanLanes.length ≤ storeEnd)
    (hd : s.domOn pdCst = true) :
    ∃ t, exec (.lop9MarginScan q d) s = .next t ∧ t.lopState 9 = lopRunning ∧ t.lopRes 9 = s.rd Reg.LNK_MARGIN_DEST ∧
      t = { s with regs := t.regs, link := { s.link with scan := s.scanLanes, scanDest := s.fld Fld.LNK_MARGIN_DEST_ADDR } } ∧
      s.regsBut t [Reg.LNK_MARGIN_CTRL, Reg.LOP_STATn 9] := by
  have run : exec (.lop9MarginScan q d) s = _ := exec_access (f := fun s => s.lnkMarginWrite (Fld.LNK_MARGIN_CTRL_GO.put 1 d)) h rfl
  rw [State.lnkMarginWrite_go (Fld.of_put_same _ _ _ (by decide) (by decide)) hb] at run
  have regs : s.regsBut (s.plainWrite Reg.LNK_MARGIN_CTRL (Fld.LNK_MARGIN_CTRL_GO.put 1 d)) [Reg.LNK_MARGIN_CTRL, Reg.LOP_STATn 9] :=
    (State.regsBut.refl s _).plainWrite _ (by simp)
  obtain ⟨r, same⟩ : s.beside (s.plainWrite Reg.LNK_MARGIN_CTRL (Fld.LNK_MARGIN_CTRL_GO.put 1 d)) := ⟨_, rfl⟩
  generalize s.plainWrite Reg.LNK_MARGIN_CTRL (Fld.LNK_MARGIN_CTRL_GO.put 1 d) = u at *
  have dest : u.fld Fld.LNK_MARGIN_DEST_ADDR = s.fld Fld.LNK_MARGIN_DEST_ADDR := regs.fld _ (by decide)
  have lanes : u.scanLanes = s.scanLanes := by rw [same]; rfl
  have active : u.linkIs lnkActive = true := (State.linkIs_congr (regs _ (by decide)) _).trans hl
  have on : u.domOn pdCst = true := by rw [same]; exact hd
  have inside : ¬ (u.fld Fld.LNK_MARGIN_DEST_ADDR < storeBase ∨ storeEnd < u.fld Fld.LNK_MARGIN_DEST_ADDR + 128 * u.scanLanes.length ∨
      (!u.domOn pdCst) = true) := by
    rw [dest, lanes, on]
    simp only [Bool.not_true, Bool.false_eq_true, or_false]
    omega
  simp only [active, Bool.not_true, Bool.false_eq_true, if_false, if_neg inside] at run
  have kept : s.regsBut u.beginScan [Reg.LNK_MARGIN_CTRL, Reg.LOP_STATn 9] :=
    State.regsBut.lopStart u.takeScan 9 lopRunning _ (regs.congr rfl) (by simp)
  have beside : u.beginScan = { u.takeScan with regs := u.beginScan.regs } := State.lopStart_beside _ _ _ _
  refine ⟨_, run, State.lopState_lopStart _ _ _ _ (by decide), kept _ (by decide), ?_, kept⟩
  rw [beside, State.takeScan, lanes, dest, same]

theorem marginScanFails (h : s.passes q Reg.LNK_MARGIN_CTRL true) (hb : s.lopBusy 9 = false) (hl : s.linkIs lnkActive = false) (room : s.raiseRoom 1) :
    ∃ t, exec (.lop9MarginScan q d) s = .next t ∧ t.lopState 9 = lopFailed ∧ t.fld (Fld.LOP_STATn_ERR 9) = 1 ∧
      t.raise = s.raise ++ [s.occurrence 0x06 (9 + 16 * lopFailed + 256)] := by
  have run : exec (.lop9MarginScan q d) s = _ := exec_access (f := fun s => s.lnkMarginWrite (Fld.LNK_MARGIN_CTRL_GO.put 1 d)) h rfl
  rw [State.lnkMarginWrite_go (Fld.of_put_same _ _ _ (by decide) (by decide)) hb] at run
  obtain ⟨r, same⟩ : s.beside (s.plainWrite Reg.LNK_MARGIN_CTRL (Fld.LNK_MARGIN_CTRL_GO.put 1 d)) := ⟨_, rfl⟩
  have status : (s.plainWrite Reg.LNK_MARGIN_CTRL (Fld.LNK_MARGIN_CTRL_GO.put 1 d)).rd Reg.LNK_STATUS = s.rd Reg.LNK_STATUS :=
    State.rd_wr_ne _ _ (by decide)
  generalize s.plainWrite Reg.LNK_MARGIN_CTRL (Fld.LNK_MARGIN_CTRL_GO.put 1 d) = u at *
  have active : u.linkIs lnkActive = false := (State.linkIs_congr status _).trans hl
  simp only [active, Bool.not_false, if_true] at run
  have beside := u.lopStart_beside 9 lopRunning u.scanLanes.length
  generalize u.lopStart 9 lopRunning u.scanLanes.length = v at *
  have left : v.raiseRoom 1 := by
    rw [beside, same]
    exact room
  have raised : (v.lopEnd 9 lopFailed 1).raise = s.raise ++ [s.occurrence 0x06 (9 + 16 * lopFailed + 256)] := by
    rw [State.lopEnd_room left (by decide), beside, same]
    rfl
  refine ⟨_, run, ?_, ?_, (State.setFld_raise _ _ _).trans raised⟩
  · exact (State.fld_setFld_ne _ _ _ _ (by decide) (by decide)).trans (State.lopState_lopEnd _ _ _ _ (by decide) (by decide))
  · exact (State.fld_setFld_ne _ _ _ _ (by decide) (by decide)).trans (State.fld_lopEnd_err _ _ _ _ (by decide))

/-- The 128 bytes of a lane's counts. -/
def scanBytes (counts : List (BitVec 16)) : List Byte := (List.range 64).flatMap (fun i => leBytes 2 (counts.getD i 0).toNat)

theorem scanBytes_length (counts : List (BitVec 16)) : (scanBytes counts).length = 128 := by
  simp [scanBytes, List.length_flatMap, leBytes_length]

/-- A lane's counts stand in the store, and the next lane's scan begins. -/
def State.endLane (s : State) (rest : List Nat) (counts : List (BitVec 16)) : State :=
  let u := (s.storePut (s.link.scanDest + 128 * s.fld (Fld.LOP_STATn_UNITS_DONE 9)) (scanBytes counts) reqLinkIn).lopUnits 9
    (s.fld (Fld.LOP_STATn_UNITS_DONE 9) + 1) (s.fld (Fld.LOP_STATn_UNITS_TOTAL 9))
  { u with link := { u.link with scan := rest } }

theorem exec_lop9UnitEnd {counts : List (BitVec 16)} {lane : Nat} {rest : List Nat} (hs : s.link.scan = lane :: rest) (hr : s.lopState 9 = lopRunning) :
    exec (.lop9UnitEnd counts) s = .next (if rest = [] then ((s.endLane rest counts).setFld Fld.LNK_MARGIN_CTRL_GO 0).lopEnd 9 lopDone 0
      else s.endLane rest counts) := by
  show execLop9UnitEnd counts s = _
  unfold execLop9UnitEnd State.endLane scanBytes
  simp only [hs, if_pos hr]

/-- What the end of a lane leaves, where the store is clean. -/
theorem State.endLane_leaves {rest : List Nat} {counts : List (BitVec 16)} (he : s.ecc = []) (hm : s.fld Fld.CST_ECC_INJ_MODE = 0)
    (hr : s.lopState 9 = lopRunning) (t : State) (ht : t = s.endLane rest counts) :
    t.store = (s.putStore (s.link.scanDest + 128 * s.fld (Fld.LOP_STATn_UNITS_DONE 9)) (scanBytes counts)).store ∧
    t.link = { s.link with scan := rest } ∧ t.lopState 9 = lopRunning ∧ t.raise = s.raise := by
  rw [State.endLane, State.storePut_clean he hm] at ht
  obtain ⟨r, units⟩ : ∃ r, (s.putStore (s.link.scanDest + 128 * s.fld (Fld.LOP_STATn_UNITS_DONE 9)) (scanBytes counts)).lopUnits 9
      (s.fld (Fld.LOP_STATn_UNITS_DONE 9) + 1) (s.fld (Fld.LOP_STATn_UNITS_TOTAL 9)) =
      { s.putStore (s.link.scanDest + 128 * s.fld (Fld.LOP_STATn_UNITS_DONE 9)) (scanBytes counts) with regs := r } :=
    ⟨_, State.lopUnits_beside _ _ _ _⟩
  have state := State.fld_lopUnits_ne (s.putStore (s.link.scanDest + 128 * s.fld (Fld.LOP_STATn_UNITS_DONE 9)) (scanBytes counts)) 9
    (s.fld (Fld.LOP_STATn_UNITS_DONE 9) + 1) (s.fld (Fld.LOP_STATn_UNITS_TOTAL 9)) (Fld.LOP_STATn_STATE 9) (.inr (by decide))
  generalize State.lopUnits _ 9 _ _ = u at *
  have running : t.lopState 9 = lopRunning := by
    rw [ht]
    exact state.trans hr
  refine ⟨?_, ?_, running, ?_⟩
  · rw [ht, units]
  · rw [ht, units]
    rfl
  · rw [ht, units]
    rfl

theorem marginLaneEnds {counts : List (BitVec 16)} {lane : Nat} {rest : List Nat} {p : Nat}
    (hp : p = s.link.scanDest + 128 * s.fld (Fld.LOP_STATn_UNITS_DONE 9)) (hs : s.link.scan = lane :: rest) (hr : s.lopState 9 = lopRunning)
    (he : s.ecc = []) (hm : s.fld Fld.CST_ECC_INJ_MODE = 0) :
    ∃ t, exec (.lop9UnitEnd counts) s = .next t ∧ t.storeBytes p 128 = scanBytes counts ∧
      (∀ b, b < p ∨ p + 128 ≤ b → t.storeByte b = s.storeByte b) ∧ t.link = { s.link with scan := rest } ∧
      (rest = [] → t.lopState 9 = lopDone ∧ t.on Fld.LNK_MARGIN_CTRL_GO = false) ∧
      (rest ≠ [] → t.lopState 9 = lopRunning ∧ t.raise = s.raise) := by
  have run := exec_lop9UnitEnd (counts := counts) hs hr
  obtain ⟨store, link, running, raise⟩ := State.endLane_leaves (rest := rest) (counts := counts) he hm hr _ rfl
  rw [← hp] at store
  generalize s.endLane rest counts = u at *
  have bytes (t : State) (ht : t.store = u.store) : t.storeBytes p 128 = scanBytes counts ∧
      ∀ b, b < p ∨ p + 128 ≤ b → t.storeByte b = s.storeByte b := by
    rw [store] at ht
    constructor
    · have put := State.storeBytes_putStore s p (scanBytes counts)
      rw [scanBytes_length] at put
      rw [← put, State.storeBytes, State.storeBytes, ht]
    · intro b hb
      have out := State.storeByte_putStore_out s p b (scanBytes counts) (by rwa [scanBytes_length])
      rw [← out, State.storeByte, State.storeByte, ht]
  by_cases hrest : rest = []
  · rw [if_pos hrest] at run
    obtain ⟨written, apart⟩ := bytes ((u.setFld Fld.LNK_MARGIN_CTRL_GO 0).lopEnd 9 lopDone 0) (State.event_store _ _ _)
    refine ⟨_, run, written, apart, (State.event_link _ _ _).trans link, fun _ => ⟨State.lopState_lopEnd _ _ _ _ (by decide) (by decide), ?_⟩,
      fun h => absurd hrest h⟩
    rw [State.on_eq_false, State.fld_lopEnd_ne _ _ _ _ _ (by decide) (by decide)]
    exact State.fld_setFld_same _ _ _ (by decide) (by decide)
  · rw [if_neg hrest] at run
    obtain ⟨written, apart⟩ := bytes u rfl
    exact ⟨_, run, written, apart, link, fun h => absurd h hrest, fun _ => ⟨running, raise⟩⟩

/-- Settles O27: the three answers to a GO, and the end of one lane on a clean store. -/
theorem marginScanFillsItsResults : Obligations.MarginScanFillsItsResults := by
  intro q d s
  exact ⟨fun h => ⟨marginScanOverruns h, marginScanBegins h, marginScanFails h⟩,
    fun _ _ _ _ hp hs hr he hm _ _ => marginLaneEnds hp hs hr he hm⟩

/-! ### A packet whose trailer does not match (R125, R127, R132) -/

/-- A reception that no flush waits for changes nothing by its end. -/
theorem State.endReception_none {k : Nat} (h : ∀ n < 12, k ∉ (s.queue n).doomed) : s.endReception k = s := by
  have pass (n : Nat) (hn : n ≤ 12) : s.forEach n (fun s n =>
      if (s.queue n).doomed.contains k then
        let left := (s.queue n).doomed.filter (· != k)
        let s := s.setQueue n { s.queue n with doomed := left }
        if left = [] ∧ (s.rd Reg.QUE_FLUSH).getLsbD n then s.flushQueue n else s
      else s) = s := by
    induction n with
    | zero => rfl
    | succ n ih =>
      rw [State.forEach_succ, ih (by omega), if_neg]
      simpa using h n (by omega)
  exact pass 12 (Nat.le_refl _)

theorem State.setFramingLost_held {k : Nat} (h0 : s.link.lost0 = false) (h1 : s.link.lost1 = false) : s.setFramingLost k false = s := by
  have zero : { s.link with lost0 := false } = s.link := by rw [← h0]
  have one : { s.link with lost1 := false } = s.link := by rw [← h1]
  rw [State.setFramingLost, zero, one, ite_self]

theorem State.receive_badTrailer {k : Nat} {p : List Byte} (hl : s.linkIs lnkActive = true) (h0 : s.link.lost0 = false) (h1 : s.link.lost1 = false)
    (hf : framingBad p = false) (ht : trailerOk p = false) :
    s.receive k false false p = ((s.count (rxErrCrc k) 1).event 0x28 k, false) := by
  have held : s.framingLost k = false := by
    unfold State.framingLost
    split_ifs
    · exact h0
    · exact h1
  simp only [State.receive, hl, held, State.setFramingLost_held h0 h1, hf, ht, Bool.or_true, Bool.or_self, Bool.not_true, Bool.not_false,
    Bool.false_and, Bool.false_eq_true, if_true, if_false]

/-- Whatever its type, the packet is counted and reported, and nothing else (R132). -/
theorem State.onAccept_badTrailer {k : Nat} {p : List Byte} (f : State → State) (hl : s.linkIs lnkActive = true) (h0 : s.link.lost0 = false)
    (h1 : s.link.lost1 = false) (hf : framingBad p = false) (ht : trailerOk p = false) (room : s.raiseRoom 1)
    (hd : ∀ n < 12, k ∉ (s.queue n).doomed) :
    s.onAccept k false false p f = { s.count (rxErrCrc k) 1 with raise := s.raise ++ [s.occurrence 0x28 k] } := by
  have held : s.framingLost k = false := by
    unfold State.framingLost
    split_ifs
    · exact h0
    · exact h1
  have counted : (s.count (rxErrCrc k) 1).event 0x28 k = { s.count (rxErrCrc k) 1 with raise := s.raise ++ [s.occurrence 0x28 k] } :=
    State.event_raiseRoom (s := s.count (rxErrCrc k) 1) (room.congr rfl rfl) (by decide) _ _
  have ends : State.endReception { s.count (rxErrCrc k) 1 with raise := s.raise ++ [s.occurrence 0x28 k] } k =
      { s.count (rxErrCrc k) 1 with raise := s.raise ++ [s.occurrence 0x28 k] } := State.endReception_none hd
  rw [State.onAccept, State.receive_badTrailer hl h0 h1 hf ht, held, counted]
  exact ends

theorem badTrailerDrops {k : Fin 2} {p : List Byte} {c : Instr} {f : State → State} (he : exec c s = .next (s.onAccept k.val false false p f))
    (hl : s.linkIs lnkActive = true) (h0 : s.link.lost0 = false) (h1 : s.link.lost1 = false) (hf : framingBad p = false)
    (ht : trailerOk p = false) (room : s.raiseRoom 1) (hd : ∀ n < 12, k.val ∉ (s.queue n).doomed) :
    ∃ t, exec c s = .next t ∧ t.fld (rxErrCrc k.val) = min 65535 (s.fld (rxErrCrc k.val) + 1) ∧
      t.raise = s.raise ++ [s.occurrence 0x28 k.val] ∧ t = { s with regs := t.regs, raise := t.raise } ∧
      s.regsBut t [Reg.QUE_RXERR0 + 4 * k.val] := by
  rw [State.onAccept_badTrailer f hl h0 h1 hf ht room hd] at he
  have count : (s.count (rxErrCrc k.val) 1).fld (rxErrCrc k.val) = min 65535 (s.fld (rxErrCrc k.val) + 1) :=
    State.fld_setFld_same _ _ _ (by simp [rxErrCrc]) (lt_of_le_of_lt (Nat.min_le_left _ _) (by simp [Fld.width, rxErrCrc]))
  have regs : s.regsBut (s.count (rxErrCrc k.val) 1) [Reg.QUE_RXERR0 + 4 * k.val] := (State.regsBut.refl s _).count _ (by simp [rxErrCrc])
  exact ⟨_, he, count, rfl, rfl, regs⟩

/-- Settles O28: each received type is an `onAccept`, and a bad trailer ends it before its effect. -/
theorem aBadTrailerDropsThePacket : Obligations.ABadTrailerDropsThePacket := by
  intro k bs ph c ty s h hl h0 h1 hf ht room hd
  have accepts : ∃ f, exec c s = .next (s.onAccept k.val false false (typed ty bs) f) := by
    rcases h with ⟨rfl, rfl⟩ | ⟨rfl, rfl⟩ | ⟨rfl, rfl⟩ | ⟨rfl, rfl⟩ | ⟨rfl, rfl⟩ | ⟨rfl, rfl⟩ | ⟨rfl, rfl⟩ | ⟨rfl, rfl⟩
    · exact ⟨_, rfl⟩
    · exact ⟨_, rfl⟩
    · exact ⟨_, rfl⟩
    · exact ⟨_, rfl⟩
    · exact ⟨_, rfl⟩
    · exact ⟨_, rfl⟩
    · exact ⟨_, rfl⟩
    · exact ⟨_, rfl⟩
  obtain ⟨f, he⟩ := accepts
  exact badTrailerDrops he hl h0 h1 hf ht room hd

end Sys2Proof.Machine

/-!
PROOFS. The scrubber and the checkers of the store (O32).
-/

namespace Sys2Proof.Machine

variable {s t : State} {as : List Nat} {a n : Nat} {q : Requester} {d : Word}

/-! ### Fields that a write sets (R7) -/

/-- A written 1 sets the field's bits, a written 0 leaves them, and no other field of its register's table stands there. -/
def Fld.sets (f : Fld) : Bool :=
  match rowAt f.addr with
  | some (r, _) =>
    r.fields.all (fun g => decide (g.hi < 32) && ((g.stands f && g.access == .rw1s) || g.apart f)) && r.fields.any (fun g => g.stands f)
  | none => false

theorem getField_fieldRow_write_sets {g : FieldRow} {f : Fld} (d w : Word) (hi : g.hi < 32) (h : g.stands f = true) (ha : g.access = .rw1s) :
    getField f.hi f.lo (g.write d w) = getField f.hi f.lo w ||| getField f.hi f.lo d := by
  simp only [FieldRow.stands, Bool.and_eq_true, beq_iff_eq] at h
  rw [FieldRow.write, ha, ← h.1, ← h.2, getField_or]
  congr 1
  apply Nat.eq_of_testBit_eq
  intro i
  rw [testBit_getField, testBit_getField]
  by_cases c : i < g.hi + 1 - g.lo
  · have hm : (fieldMask g.hi g.lo).getLsbD (g.lo + i) = true := by
      rw [getLsbD_fieldMask _ _ _ hi]
      simp [show g.lo + i ≤ g.hi by omega]
    rw [BitVec.getLsbD_and, FieldRow.mask, hm, Bool.and_true]
  · simp [c]

theorem getField_foldl_sets (f : Fld) (d : Word) (gs : List FieldRow)
    (h : ∀ g ∈ gs, g.hi < 32 ∧ (g.stands f = true ∧ g.access = .rw1s ∨ g.apart f = true)) (w : Word) :
    getField f.hi f.lo (gs.foldl (fun w g => g.write d w) w) =
      getField f.hi f.lo w ||| (if gs.any (fun g => g.stands f) then getField f.hi f.lo d else 0) := by
  induction gs generalizing w with
  | nil => simp
  | cons g gs ih =>
    rw [List.foldl_cons, ih (fun x hx => h x (List.mem_cons_of_mem g hx)), List.any_cons]
    obtain ⟨hi, hs⟩ := h g List.mem_cons_self
    by_cases hst : g.stands f = true
    · rcases hs with ⟨-, ha⟩ | hap
      · rw [getField_fieldRow_write_sets d w hi hst ha, hst, Bool.true_or, if_pos rfl, Nat.or_assoc]
        split
        · rw [Nat.or_self]
        · rw [Nat.or_zero]
      · have empty : getField f.hi f.lo d = 0 := by
          simp only [FieldRow.stands, FieldRow.apart, Bool.and_eq_true, beq_iff_eq, Bool.or_eq_true, decide_eq_true_eq] at hst hap
          apply Nat.eq_of_testBit_eq
          intro i
          rw [testBit_getField, Nat.zero_testBit]
          simp [show ¬ i < f.hi + 1 - f.lo by omega]
        rw [getField_fieldRow_write_apart d w hi hap, empty]
        simp
    · rw [getField_fieldRow_write_apart d w hi (hs.resolve_left fun hs => hst hs.1), Bool.eq_false_of_not_eq_true hst, Bool.false_or]

theorem Fld.of_writeWord_sets {f : Fld} (h : f.sets = true) (d w : Word) : f.of (writeWord f.addr d w) = f.of w ||| f.of d := by
  rcases hr : rowAt f.addr with _ | ⟨r, i⟩
  · simp only [Fld.sets, hr, Bool.false_eq_true] at h
  · simp only [Fld.sets, hr, Bool.and_eq_true, List.all_eq_true, Bool.or_eq_true, decide_eq_true_eq, beq_iff_eq] at h
    simp only [writeWord, hr]
    exact (getField_foldl_sets f d r.fields h.1 w).trans (by rw [if_pos h.2]; rfl)

/-- After a write by software a field of set bits holds what it held and what was written. -/
theorem State.fld_plainWrite_sets (s : State) {f : Fld} (h : f.sets = true) (d : Word) :
    (s.plainWrite f.addr d).fld f = s.fld f ||| f.of d := by
  rw [State.plainWrite, State.fld_wr_same]
  exact Fld.of_writeWord_sets h d _

/-- A bit that software sets reads 1. -/
theorem State.on_plainWrite_sets (s : State) (f : Fld) {d : Word} (hd : f.of d = 1) (h : f.sets = true) : (s.plainWrite f.addr d).on f = true := by
  rw [State.on_iff, State.fld_plainWrite_sets s h, hd]
  exact Nat.ne_of_gt (Nat.lt_of_lt_of_le Nat.zero_lt_one Nat.right_le_or)

/-! ### The scrubber's row (R163) -/

theorem State.scrubWords_clean (h : s.ecc = []) (c : Nat → Bool) : s.scrubWords c = (s, 0) := by
  rw [State.scrubWords, h]
  rfl

/-- The scrubber moves to its next row. -/
def State.nextRow (s : State) : State := s.setFld Fld.CST_SCRUB_POS_ROW (s.fld Fld.CST_SCRUB_POS_ROW + 1)

/-- The scrubber has read its last row. -/
def State.lastRow (s : State) : State := { s.scrubPass s.scrubUnc 0 with scrubUnc := 0 }

/-- The words of the scrubber's row that a powered bank holds. -/
def State.inRow (s : State) (w : Nat) : Bool := w % 0x40000 / 4 == s.fld Fld.CST_SCRUB_POS_ROW && s.bankPowered (w / 0x40000)

/-- The words that were read count. -/
def State.countUnc (r : State × Nat) : State := { r.1 with scrubUnc := r.1.scrubUnc + r.2 }

theorem exec_scrubRowRead (hp : s.on Fld.CST_SCRUB_CTRL_PERIOD = true) (hd : s.domOn pdCst = true) (hr : s.on Fld.CST_STATUS_READY = true)
    (hl : s.lopState 5 ≠ lopRunning) : exec .scrubRowRead s = .next (
      let u := (State.countUnc (s.scrubWords s.inRow)).setFld Fld.CST_SCRUB_POS_ROW (s.fld Fld.CST_SCRUB_POS_ROW + 1)
      if s.fld Fld.CST_SCRUB_POS_ROW = 65535 then u.lastRow else u) := by
  show execScrubRowRead s = _
  rw [execScrubRowRead, if_pos (by simp [hp, hd, hr, hl])]
  rfl

theorem scrubRowClean (hp : s.on Fld.CST_SCRUB_CTRL_PERIOD = true) (hd : s.domOn pdCst = true) (hr : s.on Fld.CST_STATUS_READY = true)
    (hl : s.lopState 5 ≠ lopRunning) (he : s.ecc = []) : exec .scrubRowRead s = .next (
      if s.fld Fld.CST_SCRUB_POS_ROW = 65535 then s.nextRow.lastRow else s.nextRow) := by
  rw [exec_scrubRowRead hp hd hr hl, State.scrubWords_clean he]
  rfl

theorem State.nextRow_regsBut (s : State) : s.regsBut s.nextRow [Reg.CST_SCRUB_POS] := (State.regsBut.refl s _).setFld _ (by simp)

theorem State.nextRow_pos (s : State) : s.nextRow.fld Fld.CST_SCRUB_POS_ROW = (s.fld Fld.CST_SCRUB_POS_ROW + 1) % 65536 :=
  State.fld_setFld_mod _ _ _ (by decide)

theorem scrubRowMovesOn (hp : s.on Fld.CST_SCRUB_CTRL_PERIOD = true) (hd : s.domOn pdCst = true) (hr : s.on Fld.CST_STATUS_READY = true)
    (hl : s.lopState 5 ≠ lopRunning) (row : s.fld Fld.CST_SCRUB_POS_ROW < 65535) (he : s.ecc = []) :
    ∃ t, exec .scrubRowRead s = .next t ∧ t.fld Fld.CST_SCRUB_POS_ROW = s.fld Fld.CST_SCRUB_POS_ROW + 1 ∧
      s.onlyRegs t [Reg.CST_SCRUB_POS] := by
  have run := scrubRowClean hp hd hr hl he
  rw [if_neg (by omega)] at run
  exact ⟨_, run, s.nextRow_pos.trans (Nat.mod_eq_of_lt (by omega)), rfl, s.nextRow_regsBut⟩

theorem State.scrubPass_room {m : Nat} (room : s.raiseRoom m) (hm : 0 < m) (unc lop5 : Nat) : s.scrubPass unc lop5 =
    { (s.setFld Fld.CST_SCRUB_STATUS_LAST_UNC (min unc 0xFFFF)).count Fld.CST_SCRUB_STATUS_PASSES 1 with
      raise := s.raise ++ [s.occurrence 0x42 (min unc 0xFFFF + 65536 * lop5)] } := by
  rw [State.scrubPass, State.event_raiseRoom (s := (s.setFld Fld.CST_SCRUB_STATUS_LAST_UNC _).count Fld.CST_SCRUB_STATUS_PASSES 1)
    (room.congr rfl rfl) hm]
  rfl

theorem State.lastRow_room (room : s.raiseRoom 1) : s.lastRow = { (s.setFld Fld.CST_SCRUB_STATUS_LAST_UNC (min s.scrubUnc 0xFFFF)).count
    Fld.CST_SCRUB_STATUS_PASSES 1 with raise := s.raise ++ [s.occurrence 0x42 (min s.scrubUnc 0xFFFF)], scrubUnc := 0 } := by
  rw [State.lastRow, State.scrubPass_room room (by decide)]
  rfl

theorem scrubPassEnds (hp : s.on Fld.CST_SCRUB_CTRL_PERIOD = true) (hd : s.domOn pdCst = true) (hr : s.on Fld.CST_STATUS_READY = true)
    (hl : s.lopState 5 ≠ lopRunning) (row : s.fld Fld.CST_SCRUB_POS_ROW = 65535) (he : s.ecc = []) (room : s.raiseRoom 1) :
    ∃ t, exec .scrubRowRead s = .next t ∧ t.fld Fld.CST_SCRUB_POS_ROW = 0 ∧
      t.fld Fld.CST_SCRUB_STATUS_LAST_UNC = min s.scrubUnc 0xFFFF ∧
      t.raise = s.raise ++ [s.occurrence 0x42 (min s.scrubUnc 0xFFFF)] ∧
      t = { s with regs := t.regs, raise := t.raise, scrubUnc := 0 } ∧
      s.regsBut t [Reg.CST_SCRUB_POS, Reg.CST_SCRUB_STATUS] := by
  have run := scrubRowClean hp hd hr hl he
  rw [if_pos row, State.lastRow_room (s := s.nextRow) (room.congr rfl rfl)] at run
  refine ⟨_, run, ?_, ?_, rfl, rfl, ?_⟩
  · have pos : s.nextRow.fld Fld.CST_SCRUB_POS_ROW = 0 := by rw [State.nextRow_pos, row]
    rw [State.fld_beside, State.fld_count_ne _ _ _ _ (by decide) (by decide), State.fld_setFld_ne _ _ _ _ (by decide) (by decide), pos]
  · rw [State.fld_beside, State.fld_count_ne _ _ _ _ (by decide) (by decide)]
    exact State.fld_setFld_same _ _ _ (by decide) (Nat.lt_succ_of_le (Nat.min_le_right _ _))
  · exact (((s.nextRow_regsBut.mono (by simp)).setFld _ (by simp)).count _ (by simp)).congr rfl

theorem State.scrubWords_one {w : Nat} (he : s.ecc = [(w, 1)]) {c : Nat → Bool} (hc : c w = true) :
    s.scrubWords c = (s.eccCorrected w reqScrub, 0) := by
  have one : s.eccAt w = 1 := by simp [State.eccAt, he, SMap.get, SMap.find]
  simp only [State.scrubWords, he, List.map_cons, List.map_nil, List.filter_cons_of_pos hc, List.filter_nil, List.foldl_cons,
    List.foldl_nil, State.checkWord, one, if_true]

theorem State.eccCorrected_room {w req : Nat} (he : s.ecc = [(w, 1)]) (room : s.raiseRoom 1) : s.eccCorrected w req =
    { s.count Fld.CST_ECC_CORR_COUNT 1 with ecc := [], raise := s.raise ++ [s.occurrence 0x40 (w + 2 ^ 28 * req)] } := by
  have none : SMap.set 0 s.ecc w 0 = [] := by simp [he, SMap.set, SMap.erase]
  rw [State.eccCorrected, State.event_raiseRoom (s := (s.setEcc w 0).count _ 1) (room.congr rfl rfl) (by decide), State.setEcc, none]
  rfl

theorem scrubRowCorrects {w : Nat} (hp : s.on Fld.CST_SCRUB_CTRL_PERIOD = true) (hd : s.domOn pdCst = true)
    (hr : s.on Fld.CST_STATUS_READY = true) (hl : s.lopState 5 ≠ lopRunning) (row : s.fld Fld.CST_SCRUB_POS_ROW < 65535)
    (he : s.ecc = [(w, 1)]) (hw : w % 0x40000 / 4 = s.fld Fld.CST_SCRUB_POS_ROW) (on : s.bankPowered (w / 0x40000) = true) (room : s.raiseRoom 1) :
    ∃ t, exec .scrubRowRead s = .next t ∧ t.ecc = [] ∧
      t.fld Fld.CST_ECC_CORR_COUNT = min (2 ^ 32 - 1) (s.fld Fld.CST_ECC_CORR_COUNT + 1) ∧
      t.raise = s.raise ++ [s.occurrence 0x40 (w + 2 ^ 28 * 7)] ∧
      t = { s with regs := t.regs, ecc := [], raise := t.raise } ∧ s.regsBut t [Reg.CST_SCRUB_POS, Reg.CST_ECC_CORR] := by
  have run := exec_scrubRowRead hp hd hr hl
  rw [State.scrubWords_one he (by simp [State.inRow, hw, on]), State.eccCorrected_room he room] at run
  simp only [if_neg (show ¬ s.fld Fld.CST_SCRUB_POS_ROW = 65535 by omega)] at run
  refine ⟨_, run, rfl, ?_, rfl, rfl, ?_⟩
  · rw [State.fld_setFld_ne _ _ _ _ (by decide) (by decide)]
    exact State.fld_count_same _ _ _ (by decide)
  · exact (((State.regsBut.refl s _).count (f := Fld.CST_ECC_CORR_COUNT) _ (by simp)).congr rfl).setFld _ (by simp)

/-! ### LOP5 (R164) -/

theorem injectionIsLoaded (h : s.passes q Reg.CST_ECC_INJ true) :
    ∃ t, exec (.cstEccInjWrite q d) s = .next t ∧
      t.rd Reg.CST_ECC_INJ = writeWord Reg.CST_ECC_INJ d (s.rd Reg.CST_ECC_INJ) ∧ s.onlyRegs t [Reg.CST_ECC_INJ] :=
  ⟨_, exec_access (f := fun s => s.plainWrite Reg.CST_ECC_INJ d) h rfl, State.rd_wr_same _ _ _, rfl,
    (State.regsBut.refl s _).plainWrite _ (by simp)⟩

theorem lop5Overruns (h : s.passes q Reg.CST_SCRUB_CTRL true) (hb : s.lopBusy 5 = true) :
    ∃ t, exec (.lop5Scrub q d) s = .next t ∧ t.on Fld.CST_SCRUB_CTRL_OVERRUN = true ∧ s.onlyRegs t [Reg.CST_SCRUB_CTRL] := by
  have go := Fld.of_put_same Fld.CST_SCRUB_CTRL_GO 1 d (by decide) (by decide)
  have run : exec (.lop5Scrub q d) s = _ := exec_access (f := fun s => s.scrubCtrlWrite (Fld.CST_SCRUB_CTRL_GO.put 1 d)) h rfl
  rw [State.scrubCtrlWrite, if_pos ⟨go, hb⟩] at run
  exact ⟨_, run, State.on_setFld_one _ _ (by decide) (by decide), rfl, (State.regsBut.refl s _).setFld _ (by simp)⟩

theorem lop5Begins (h : s.passes q Reg.CST_SCRUB_CTRL true) (hb : s.lopBusy 5 = false) (hd : s.domOn pdCst = true) :
    ∃ t, exec (.lop5Scrub q d) s = .next t ∧ t.lopState 5 = lopRunning ∧ t.fld (Fld.LOP_STATn_UNITS_DONE 5) = 0 ∧
      t.fld (Fld.LOP_STATn_UNITS_TOTAL 5) = 64 - s.banksOff.length ∧ t.fld (Fld.LOP_STATn_ERR 5) = 0 ∧
      t.on Fld.CST_STATUS_SCRUB_RUN = true ∧ t.on Fld.CST_SCRUB_CTRL_GO = true ∧
      s.onlyRegs t [Reg.CST_SCRUB_CTRL, Reg.CST_STATUS, Reg.LOP_STATn 5] := by
  have go := Fld.of_put_same Fld.CST_SCRUB_CTRL_GO 1 d (by decide) (by decide)
  have run : exec (.lop5Scrub q d) s = _ := exec_access (f := fun s => s.scrubCtrlWrite (Fld.CST_SCRUB_CTRL_GO.put 1 d)) h rfl
  rw [State.scrubCtrlWrite, if_neg (by simp [hb])] at run
  generalize Fld.CST_SCRUB_CTRL_GO.put 1 d = w at go run
  have set : (s.plainWrite Reg.CST_SCRUB_CTRL w).on Fld.CST_SCRUB_CTRL_GO = true := 
    State.on_plainWrite_sets s Fld.CST_SCRUB_CTRL_GO go (by decide)
  have regs : s.regsBut (s.plainWrite Reg.CST_SCRUB_CTRL w) [Reg.CST_SCRUB_CTRL, Reg.CST_STATUS, Reg.LOP_STATn 5] :=
    (State.regsBut.refl s _).plainWrite _ (by simp)
  obtain ⟨r, same⟩ : s.beside (s.plainWrite Reg.CST_SCRUB_CTRL w) := ⟨_, rfl⟩
  generalize s.plainWrite Reg.CST_SCRUB_CTRL w = u at *
  have on : u.domOn pdCst = true := by rw [same]; exact hd
  have banks : u.banksOff = s.banksOff := by rw [same]
  simp only [go, if_true, on, banks] at run
  refine ⟨_, run, ?_, ?_, ?_, ?_, State.on_setFld_one _ _ (by decide) (by decide), ?_, ?_, ?_⟩
  · exact (State.fld_setFld_ne _ _ _ _ (by decide) (by decide)).trans (State.lopState_lopStart _ _ _ _ (by decide))
  · exact (State.fld_setFld_ne _ _ _ _ (by decide) (by decide)).trans (State.fld_lopStart_done _ _ _ _)
  · exact (State.fld_setFld_ne _ _ _ _ (by decide) (by decide)).trans (State.fld_lopStart_total _ _ _ _ (by omega))
  · exact (State.fld_setFld_ne _ _ _ _ (by decide) (by decide)).trans (State.fld_lopStart_err _ _ _ _)
  · rw [State.on_setFld_ne _ _ _ _ (by decide) (by decide), State.on_iff, State.fld_lopStart_ne _ _ _ _ _ (by decide), ← State.on_iff]
    exact set
  · have start := State.lopStart_beside u 5 lopRunning (64 - s.banksOff.length)
    rw [start, same]
    rfl
  · exact (State.regsBut.lopStart u 5 lopRunning _ regs (by simp)).setFld _ (by simp)

/-- LOP5 ends after a pass that counted `unc` uncorrectable words. -/
def State.endLop5 (s : State) (unc : Nat) : State :=
  ((((s.scrubPass unc 1).lopUnits 5 (s.fld (Fld.LOP_STATn_UNITS_TOTAL 5)) (s.fld (Fld.LOP_STATn_UNITS_TOTAL 5))).setFld
    Fld.CST_STATUS_SCRUB_RUN 0).setFld Fld.CST_SCRUB_CTRL_GO 0).lopEnd 5 lopDone 0

theorem exec_lop5End (hl : s.lopState 5 = lopRunning) (he : s.ecc = []) : exec .lop5End s = .next (s.endLop5 0) := by
  show execLop5End s = _
  rw [execLop5End, if_pos hl, State.scrubWords_clean he]
  rfl

theorem lop5Ends (hl : s.lopState 5 = lopRunning) (he : s.ecc = []) (room : s.raiseRoom 2) :
    ∃ t, exec .lop5End s = .next t ∧ t.lopState 5 = lopDone ∧
      t.fld (Fld.LOP_STATn_UNITS_DONE 5) = s.fld (Fld.LOP_STATn_UNITS_TOTAL 5) ∧ t.on Fld.CST_STATUS_SCRUB_RUN = false ∧
      t.on Fld.CST_SCRUB_CTRL_GO = false ∧ t.fld Fld.CST_SCRUB_STATUS_LAST_UNC = 0 ∧
      t.raise = s.raise ++ [s.occurrence 0x42 65536, s.occurrence 0x06 (5 + 16 * lopDone)] ∧
      t = { s with regs := t.regs, raise := t.raise } ∧
      s.regsBut t [Reg.CST_SCRUB_CTRL, Reg.CST_SCRUB_STATUS, Reg.CST_STATUS, Reg.LOP_STATn 5] := by
  have run := exec_lop5End hl he
  have small := s.fld_lt (Fld.LOP_STATn_UNITS_TOTAL 5)
  rw [State.endLop5, State.scrubPass_room room (by decide)] at run
  have regs : s.regsBut ((s.setFld Fld.CST_SCRUB_STATUS_LAST_UNC (min 0 0xFFFF)).count Fld.CST_SCRUB_STATUS_PASSES 1)
      [Reg.CST_SCRUB_CTRL, Reg.CST_SCRUB_STATUS, Reg.CST_STATUS, Reg.LOP_STATn 5] :=
    ((State.regsBut.refl s _).setFld _ (by simp)).count _ (by simp)
  have last : ((s.setFld Fld.CST_SCRUB_STATUS_LAST_UNC (min 0 0xFFFF)).count Fld.CST_SCRUB_STATUS_PASSES 1).fld
      Fld.CST_SCRUB_STATUS_LAST_UNC = 0 := by
    rw [State.fld_count_ne _ _ _ _ (by decide) (by decide), State.fld_setFld_same _ _ _ (by decide) (by decide)]
    rfl
  obtain ⟨r, same⟩ : s.beside ((s.setFld Fld.CST_SCRUB_STATUS_LAST_UNC (min 0 0xFFFF)).count Fld.CST_SCRUB_STATUS_PASSES 1) := ⟨_, rfl⟩
  generalize (s.setFld Fld.CST_SCRUB_STATUS_LAST_UNC (min 0 0xFFFF)).count Fld.CST_SCRUB_STATUS_PASSES 1 = u at *
  generalize s.fld (Fld.LOP_STATn_UNITS_TOTAL 5) = total at *
  have small : total ≤ 4095 := Nat.le_of_lt_succ small
  have kept : s.regsBut (({ u with raise := s.raise ++ [s.occurrence 0x42 65536] } : State).lopUnits 5 total total)
      [Reg.CST_SCRUB_CTRL, Reg.CST_SCRUB_STATUS, Reg.CST_STATUS, Reg.LOP_STATn 5] :=
    State.regsBut.lopUnits _ _ _ _ (regs.congr rfl) (by simp)
  have done := State.fld_lopUnits_done ({ u with raise := s.raise ++ [s.occurrence 0x42 65536] } : State) 5 total total (le_refl _) small
  have counted : (({ u with raise := s.raise ++ [s.occurrence 0x42 65536] } : State).lopUnits 5 total total).fld
      Fld.CST_SCRUB_STATUS_LAST_UNC = 0 := (State.fld_lopUnits_ne _ _ _ _ _ (by decide)).trans last
  have units := State.lopUnits_beside ({ u with raise := s.raise ++ [s.occurrence 0x42 65536] } : State) 5 total total
  have beside : ({ u with raise := s.raise ++ [s.occurrence 0x42 65536] } : State).lopUnits 5 total total =
    { s with regs := (({ u with raise := s.raise ++ [s.occurrence 0x42 65536] } : State).lopUnits 5 total total).regs, raise := s.raise ++ [s.occurrence 0x42 65536] } := by
    rw [units, same]
  simp only [Nat.zero_min, Nat.mul_one, Nat.zero_add] at run
  generalize ({ u with raise := s.raise ++ [s.occurrence 0x42 65536] } : State).lopUnits 5 total total = v at *
  have left : ((v.setFld Fld.CST_STATUS_SCRUB_RUN 0).setFld Fld.CST_SCRUB_CTRL_GO 0).raiseRoom 1 := by
    rw [beside]
    exact ⟨room.1, by have := room.2; simp; omega⟩
  rw [State.lopEnd_room left (by decide)] at run
  refine ⟨_, run, ?_, ?_, ?_, ?_, ?_, ?_, ?_, ?_⟩
  · simp (disch := decide) only [State.lopState, State.fld_beside, State.fld_setFld_ne, State.fld_setFld_same]
  · simp (disch := decide) only [State.fld_beside, State.fld_setFld_ne, done]
  · simp (disch := decide) only [State.on_beside, State.on_setFld_ne, State.on_setFld_same]
    rfl
  · simp (disch := decide) only [State.on_beside, State.on_setFld_ne, State.on_setFld_same]
    rfl
  · simp (disch := decide) only [State.fld_beside, State.fld_setFld_ne, counted]
  · rw [beside]
    simp
    rfl
  · rw [beside]
    rfl
  · exact ((((kept.setFld _ (by simp)).setFld _ (by simp)).setFld _ (by simp)).setFld _ (by simp)).congr rfl

/-- Settles O32: a row or a pass over a clean store reads nothing, over one correctable word it corrects that word; the
scrubber then moves on, and its last row, like the end of LOP5, counts the pass. -/
theorem theStoreIsScrubbed : Obligations.TheStoreIsScrubbed := by
  unfold Obligations.TheStoreIsScrubbed
  intro q d s
  refine ⟨fun hp hd hr hl => ⟨scrubRowMovesOn hp hd hr hl, ?_, scrubPassEnds hp hd hr hl⟩, injectionIsLoaded, ?_, lop5Ends⟩
  · intro w row he _ hw on room
    exact scrubRowCorrects hp hd hr hl row he hw on room
  · exact fun h => ⟨lop5Overruns h, fun hb hd _ => lop5Begins h hb hd⟩

end Sys2Proof.Machine

/-!
PROOFS. The channels of the DMA engine under their control registers (O33).
-/

namespace Sys2Proof.Machine

variable {s t : State} {as : List Nat} {a n : Nat} {q : Requester} {d : Word}

/-! ### One bit of a register -/

theorem bitOf_setBitOf (x i : Nat) (b : Bool) : bitOf (setBitOf x i b) i = b := by
  have pos := Nat.two_pow_pos i
  have low := Nat.div_add_mod x (2 ^ i)
  unfold setBitOf bitOf
  by_cases h : x / 2 ^ i % 2 = 1
  · have big : 2 ^ i ≤ x := by
      by_contra small
      rw [Nat.div_eq_of_lt (by omega)] at h
      omega
    cases b with
    | true => simp [h, Nat.sub_add_cancel big]
    | false =>
      have less : (x - 2 ^ i) / 2 ^ i = x / 2 ^ i - 1 := by simpa using Nat.sub_mul_div x (2 ^ i) 1
      simp [h, less]
      omega
  · cases b with
    | true => simp [h, Nat.add_div_right _ pos]; omega
    | false => simp [h]

theorem getLsbD_setBitOf (x : Nat) {i : Nat} (h : i < 32) (b : Bool) : (BitVec.ofNat 32 (setBitOf x i b)).getLsbD i = b := by
  rw [BitVec.getLsbD_ofNat, Nat.testBit_eq_decide_div_mod_eq]
  simp only [h, decide_true, Bool.true_and]
  exact bitOf_setBitOf x i b

theorem State.setBit_same (s : State) (a : Nat) (h : n < 32) (b : Bool) : ((s.setBit a n b).rd a).getLsbD n = b := by
  rw [State.setBit, State.rd_wr_same]
  exact getLsbD_setBitOf _ h b

/-! ### A channel enters a state -/

/-- The registers of a channel stand above DMA_ACTIVE and DMA_HALTED. -/
theorem channelReg_apart {a : Nat} (h : 0xB1000 ≤ a) : a ≠ Reg.DMA_ACTIVE ∧ a ≠ Reg.DMA_HALTED := by
  simp only [Reg.DMA_ACTIVE, Reg.DMA_HALTED]
  omega

theorem State.setDmaState_regsBut (h : s.regsBut t as) (n st : Nat)
    (ha : Reg.DMA_CHn_STATUS n ∈ as ∧ Reg.DMA_ACTIVE ∈ as ∧ Reg.DMA_HALTED ∈ as) : s.regsBut (t.setDmaState n st) as :=
  ((h.setFld _ ha.1).wr _ ha.2.1).wr _ ha.2.2

theorem State.fld_setDmaState_ne (s : State) (n st : Nat) (f : Fld) (ha : 0xB1000 ≤ f.addr)
    (hs : f.addr ≠ Reg.DMA_CHn_STATUS n ∨ 2 < f.lo) : (s.setDmaState n st).fld f = s.fld f := by
  rw [State.setDmaState, State.setBit, State.setBit, State.fld_wr_ne _ _ _ _ (channelReg_apart ha).2,
    State.fld_wr_ne _ _ _ _ (channelReg_apart ha).1]
  exact State.fld_setFld_ne _ _ _ _ (by simp) (hs.imp id .inr)

theorem State.on_setDmaState_ne (s : State) (n st : Nat) (f : Fld) (ha : 0xB1000 ≤ f.addr)
    (hs : f.addr ≠ Reg.DMA_CHn_STATUS n ∨ 2 < f.lo) : (s.setDmaState n st).on f = s.on f := by
  rw [State.on, State.on, State.fld_setDmaState_ne s n st f ha hs]

theorem State.rd_setDmaState_ne (s : State) (n st : Nat) {a : Nat} (ha : 0xB1000 ≤ a) (hs : a ≠ Reg.DMA_CHn_STATUS n) :
    (s.setDmaState n st).rd a = s.rd a := by
  rw [State.setDmaState, State.setBit, State.setBit, State.rd_wr_ne _ _ (channelReg_apart ha).2, State.rd_wr_ne _ _ (channelReg_apart ha).1]
  exact State.rd_setFld_ne _ _ _ hs

theorem State.dmaState_setDmaState (s : State) (n : Nat) {st : Nat} (h : st < 8) : (s.setDmaState n st).dmaState n = st := by
  have above : 0xB1000 ≤ Reg.DMA_CHn_STATUS n := by simp only [Reg.DMA_CHn_STATUS]; omega
  rw [State.dmaState, State.setDmaState, State.setBit, State.setBit, State.fld_wr_ne _ _ _ _ (channelReg_apart above).2,
    State.fld_wr_ne _ _ _ _ (channelReg_apart above).1]
  exact State.fld_setFld_same _ _ _ (by simp) h

theorem State.active_setDmaState (s : State) (h : n < 32) (st : Nat) : ((s.setDmaState n st).rd Reg.DMA_ACTIVE).getLsbD n = (st != dmaIdle) := by
  rw [State.setDmaState, State.setBit, State.rd_wr_ne _ _ (by decide)]
  exact State.setBit_same _ _ h _

theorem State.halted_setDmaState (s : State) (h : n < 32) (st : Nat) : ((s.setDmaState n st).rd Reg.DMA_HALTED).getLsbD n = (st == dmaHalted) :=
  State.setBit_same _ _ h _

theorem State.chan_setDmaState (s : State) (n st m : Nat) : (s.setDmaState n st).chan m = s.chan m := rfl

theorem State.setDmaState_beside (s : State) (n st : Nat) : s.beside (s.setDmaState n st) := ⟨_, rfl⟩

/-! ### Control writes (R179, R182, R183, R185) -/

/-- The registers in which the control of channel `n` shows. -/
def channelRegs (n : Nat) : List Nat := [Reg.DMA_CHn_CTRL n, Reg.DMA_CHn_STATUS n, Reg.DMA_ACTIVE, Reg.DMA_HALTED]

theorem State.dmaState_congr (h : t.rd (Reg.DMA_CHn_STATUS n) = s.rd (Reg.DMA_CHn_STATUS n)) : t.dmaState n = s.dmaState n :=
  State.fld_congr (f := Fld.DMA_CHn_STATUS_STATE n) h

/-- The data that a control write stores: GO, ABORT and RESUME are acts, not stored by it. -/
def dmaStored (n : Nat) (d : Word) : Word :=
  (Fld.DMA_CHn_CTRL_GO n).put 0 ((Fld.DMA_CHn_CTRL_ABORT n).put 0 ((Fld.DMA_CHn_CTRL_RESUME n).put 0 d))

/-- A control write has been stored. -/
def State.storeCtrl (s : State) (n : Nat) (d : Word) : State := s.plainWrite (Reg.DMA_CHn_CTRL n) (dmaStored n d)

theorem State.dmaCtrlWrite_overrun (hg : (Fld.DMA_CHn_CTRL_GO n).of d = 1) (hs : s.dmaState n ≠ dmaIdle) :
    s.dmaCtrlWrite n q d = s.setFld (Fld.DMA_CHn_CTRL_OVERRUN n) 1 := by
  simp [State.dmaCtrlWrite, hg, hs]

theorem State.dmaCtrlWrite_go (hg : (Fld.DMA_CHn_CTRL_GO n).of d = 1) (hs : s.dmaState n = dmaIdle) :
    s.dmaCtrlWrite n q d = (s.storeCtrl n d).dmaStart n q := by
  simp [State.dmaCtrlWrite, hg, hs, State.storeCtrl, dmaStored]

theorem State.dmaCtrlWrite_abort (hg : (Fld.DMA_CHn_CTRL_GO n).of d = 0) (ha : (Fld.DMA_CHn_CTRL_ABORT n).of d = 1) (hs : s.dmaState n ≠ dmaIdle) :
    s.dmaCtrlWrite n q d = (s.storeCtrl n d).dmaAbort n := by
  simp [State.dmaCtrlWrite, hg, ha, hs, State.storeCtrl, dmaStored]

theorem State.dmaCtrlWrite_pause (hg : (Fld.DMA_CHn_CTRL_GO n).of d = 0) (ha : (Fld.DMA_CHn_CTRL_ABORT n).of d = 0) (hs : s.dmaState n = dmaActive) :
    s.dmaCtrlWrite n q d = (s.storeCtrl n d).dmaPauseIfSet n := by
  simp [State.dmaCtrlWrite, hg, ha, hs, State.storeCtrl, dmaStored, dmaIdle, dmaActive, dmaHalted, dmaPaused]

theorem State.dmaCtrlWrite_resume (hg : (Fld.DMA_CHn_CTRL_GO n).of d = 0) (ha : (Fld.DMA_CHn_CTRL_ABORT n).of d = 0)
    (hr : (Fld.DMA_CHn_CTRL_RESUME n).of d = 1) (hs : s.dmaState n = dmaHalted) :
    s.dmaCtrlWrite n q d = (s.storeCtrl n d).dmaResume n := by
  simp [State.dmaCtrlWrite, hg, ha, hr, hs, State.storeCtrl, dmaStored, dmaIdle, dmaHalted]

theorem dmaPause_plain (n : Fin 32) : (Fld.DMA_CHn_CTRL_PAUSE n.val).plain = true := by
  revert n
  decide

theorem State.fld_storeCtrl_pause (s : State) (n : Fin 32) (d : Word) :
    (s.storeCtrl n.val d).fld (Fld.DMA_CHn_CTRL_PAUSE n.val) = (Fld.DMA_CHn_CTRL_PAUSE n.val).of d := by
  refine (State.fld_plainWrite_plain s (dmaPause_plain n) _).trans ?_
  rw [dmaStored, Fld.of_put_ne _ _ _ _ (by simp) (by simp), Fld.of_put_ne _ _ _ _ (by simp) (by simp), Fld.of_put_ne _ _ _ _ (by simp) (by simp)]

theorem State.storeCtrl_regsBut (s : State) (n : Nat) (d : Word) : s.regsBut (s.storeCtrl n d) [Reg.DMA_CHn_CTRL n] :=
  (State.regsBut.refl s _).plainWrite _ (by simp)

theorem State.storeCtrl_beside (s : State) (n : Nat) (d : Word) : s.beside (s.storeCtrl n d) := ⟨_, rfl⟩

theorem State.dmaState_storeCtrl (s : State) (n : Nat) (d : Word) : (s.storeCtrl n d).dmaState n = s.dmaState n :=
  State.dmaState_congr (s.storeCtrl_regsBut n d _ (by simp))

theorem State.chan_storeCtrl (s : State) (n : Nat) (d : Word) (m : Nat) : (s.storeCtrl n d).chan m = s.chan m := rfl

theorem dmaOverruns (ch : Fin 32) (h : s.passes q (Reg.DMA_CHn_CTRL ch.val) true) (hs : s.dmaState ch.val ≠ dmaIdle) :
    ∃ t, exec (.dmaGo ch q d) s = .next t ∧ t.on (Fld.DMA_CHn_CTRL_OVERRUN ch.val) = true ∧ s.onlyRegs t [Reg.DMA_CHn_CTRL ch.val] := by
  have run : exec (.dmaGo ch q d) s = _ :=
    exec_access (f := fun s => s.dmaCtrlWrite ch.val q ((Fld.DMA_CHn_CTRL_GO ch.val).put 1 d)) h rfl
  rw [State.dmaCtrlWrite_overrun (Fld.of_put_same _ _ _ (by simp) (by simp)) hs] at run
  exact ⟨_, run, State.on_setFld_one _ _ (by simp) (by simp), rfl, (State.regsBut.refl s _).setFld _ (by simp)⟩

/-- The registers of a channel that a GO clears. -/
def State.clearChannel (s : State) (n : Nat) : State :=
  (((((s.setFld (Fld.DMA_CHn_CTRL_GO n) 1).wr (Reg.DMA_CHn_HOPCNT n) 0).wr (Reg.DMA_CHn_PAD n) 0).setFld
    (Fld.DMA_CHn_STATUS_ERR n) 0).setFld (Fld.DMA_CHn_STATUS_ERR_DIR n) 0).setFld (Fld.DMA_CHn_STATUS_ERR_FETCH n) 0

theorem State.clearChannel_regsBut (h : s.regsBut t as) (n : Nat)
    (ha : Reg.DMA_CHn_CTRL n ∈ as ∧ Reg.DMA_CHn_STATUS n ∈ as ∧ Reg.DMA_CHn_HOPCNT n ∈ as ∧ Reg.DMA_CHn_PAD n ∈ as) :
    s.regsBut (t.clearChannel n) as := by
  obtain ⟨hc, hs, hh, hp⟩ := ha
  exact (((((h.setFld _ hc).wr _ hh).wr _ hp).setFld _ hs).setFld _ hs).setFld _ hs

theorem State.clearChannel_clears (s : State) (n : Nat) :
    (s.clearChannel n).on (Fld.DMA_CHn_CTRL_GO n) = true ∧ (s.clearChannel n).fld (Fld.DMA_CHn_STATUS_ERR n) = 0 ∧
      (s.clearChannel n).rd (Reg.DMA_CHn_HOPCNT n) = 0 ∧ (s.clearChannel n).rd (Reg.DMA_CHn_PAD n) = 0 := by
  unfold State.clearChannel
  refine ⟨?_, ?_, ?_, ?_⟩
  · simp (disch := simp) only [State.on_setFld_ne, State.on_wr_ne, State.on_setFld_same]
    rfl
  · rw [State.fld_setFld_ne _ _ _ _ (by simp) (by simp), State.fld_setFld_ne _ _ _ _ (by simp) (by simp)]
    exact State.fld_setFld_same _ _ _ (by simp) (by simp)
  · simp (disch := simp) only [State.rd_setFld_ne, State.rd_wr_ne, State.rd_wr_same]
  · simp (disch := simp) only [State.rd_setFld_ne, State.rd_wr_same]

theorem State.clearChannel_beside (s : State) (n : Nat) : s.beside (s.clearChannel n) := ⟨_, rfl⟩

theorem State.chan_beside (h : s.beside t) (m : Nat) : t.chan m = s.chan m := by
  obtain ⟨r, rfl⟩ := h
  rfl

theorem State.beside.eq (h : s.beside t) : t = { s with regs := t.regs } := by
  obtain ⟨r, rfl⟩ := h
  rfl

theorem State.dmaStart_eq (s : State) (n : Nat) (q : Requester) : s.dmaStart n q =
    ((s.clearChannel n).setChan n ⟨[], q, some (s.rd (Reg.DMA_CHn_DESC n)).toNat, none, 0⟩).setDmaState n dmaActive := by
  have desc : (s.clearChannel n).rd (Reg.DMA_CHn_DESC n) = s.rd (Reg.DMA_CHn_DESC n) := by
    unfold State.clearChannel
    simp (disch := simp) only [State.rd_setFld_ne, State.rd_wr_ne]
  rw [← desc]
  rfl

/-- A register of a channel, other than its status, is left when a channel's data is loaded and its state shown. -/
theorem State.rd_setChan (s : State) (n : Nat) (c : DmaState) (a : Nat) : (s.setChan n c).rd a = s.rd a := rfl

theorem State.on_setChan (s : State) (n : Nat) (c : DmaState) (f : Fld) : (s.setChan n c).on f = s.on f := rfl

theorem State.fld_setChan (s : State) (n : Nat) (c : DmaState) (f : Fld) : (s.setChan n c).fld f = s.fld f := rfl

/-- Beside the registers one channel's data is loaded. -/
theorem State.beside.setChan {u : State} {c : DmaState} (h : s.beside u) (ht : (u.setChan n c).beside t) :
    t = { s with regs := t.regs, dma := t.dma } ∧ t.chan n = c ∧ ∀ m, m ≠ n → t.chan m = s.chan m := by
  refine ⟨?_, ?_, fun m hm => ?_⟩
  · obtain ⟨r, rfl⟩ := h
    obtain ⟨r', rfl⟩ := ht
    rfl
  · rw [State.chan_beside ht, State.chan_setChan_same]
  · rw [State.chan_beside ht, State.chan_setChan_ne _ _ hm, State.chan_beside h]

theorem State.beside.dmaLeft {u v : State} (h : s.beside u) (hv : v = { u with regs := v.regs, dma := v.dma }) (ht : v.beside t) :
    t = { s with regs := t.regs, dma := t.dma } := by
  obtain ⟨r, rfl⟩ := h
  obtain ⟨r', m, rfl⟩ : ∃ r' m, v = { s with regs := r', dma := m } := ⟨_, _, hv⟩
  obtain ⟨r'', rfl⟩ := ht
  rfl

theorem dmaStarts (ch : Fin 32) (n : Nat) (hn : n = ch.val) (h : s.passes q (Reg.DMA_CHn_CTRL n) true) (hs : s.dmaState n = dmaIdle) :
    ∃ t, exec (.dmaGo ch q d) s = .next t ∧ t.dmaState n = dmaActive ∧ t.on (Fld.DMA_CHn_CTRL_GO n) = true ∧
      t.fld (Fld.DMA_CHn_STATUS_ERR n) = 0 ∧ t.rd (Reg.DMA_CHn_HOPCNT n) = 0 ∧ t.rd (Reg.DMA_CHn_PAD n) = 0 ∧
      (t.rd Reg.DMA_ACTIVE).getLsbD n = true ∧ t.chan n = ⟨[], q, some (s.rd (Reg.DMA_CHn_DESC n)).toNat, none, 0⟩ ∧
      (∀ m, m ≠ n → t.chan m = s.chan m) ∧ t = { s with regs := t.regs, dma := t.dma } ∧
      s.regsBut t [Reg.DMA_CHn_CTRL n, Reg.DMA_CHn_STATUS n, Reg.DMA_CHn_HOPCNT n, Reg.DMA_CHn_PAD n, Reg.DMA_ACTIVE, Reg.DMA_HALTED] := by
  have small : n < 32 := hn ▸ ch.isLt
  have run : exec (.dmaGo ch q d) s = _ :=
    exec_access (f := fun s => s.dmaCtrlWrite ch.val q ((Fld.DMA_CHn_CTRL_GO ch.val).put 1 d)) (hn ▸ h) rfl
  rw [← hn, State.dmaCtrlWrite_go (Fld.of_put_same _ _ _ (by simp) (by simp)) hs, State.dmaStart_eq,
    s.storeCtrl_regsBut n _ _ (by simp)] at run
  have regs := (s.storeCtrl_regsBut n ((Fld.DMA_CHn_CTRL_GO n).put 1 d)).mono (bs := [Reg.DMA_CHn_CTRL n, Reg.DMA_CHn_STATUS n,
    Reg.DMA_CHn_HOPCNT n, Reg.DMA_CHn_PAD n, Reg.DMA_ACTIVE, Reg.DMA_HALTED]) (by simp)
  have beside := (s.storeCtrl_beside n ((Fld.DMA_CHn_CTRL_GO n).put 1 d)).trans (State.clearChannel_beside _ n)
  generalize s.storeCtrl n ((Fld.DMA_CHn_CTRL_GO n).put 1 d) = u at *
  obtain ⟨go, err, hops, pad⟩ := u.clearChannel_clears n
  have kept := State.clearChannel_regsBut regs n (by simp)
  generalize u.clearChannel n = v at *
  obtain ⟨same, this, others⟩ := beside.setChan (State.setDmaState_beside (v.setChan n _) n dmaActive)
  refine ⟨_, run, State.dmaState_setDmaState _ _ (by decide), ?_, ?_, ?_, ?_, State.active_setDmaState _ small _, this, others, same, ?_⟩
  · rw [State.on_setDmaState_ne _ _ _ _ (Nat.le_add_right_of_le (by decide)) (by simp), State.on_setChan, go]
  · rw [State.fld_setDmaState_ne _ _ _ _ (Nat.le_add_right_of_le (by decide)) (by simp), State.fld_setChan, err]
  · rw [State.rd_setDmaState_ne _ _ _ (Nat.le_add_right_of_le (by decide)) (by simp), State.rd_setChan, hops]
  · rw [State.rd_setDmaState_ne _ _ _ (Nat.le_add_right_of_le (by decide)) (by simp), State.rd_setChan, pad]
  · exact State.setDmaState_regsBut (State.regsBut.congr kept (State.setChan_regs _ _ _)) _ _ (by simp)

theorem of_goCleared (n : Nat) (w : Word) : (Fld.DMA_CHn_CTRL_GO n).of ((Fld.DMA_CHn_CTRL_GO n).put 0 w) = 0 :=
  Fld.of_put_same _ _ _ (by simp) (by simp)

theorem dmaPauses (ch : Fin 32) (n : Nat) (hn : n = ch.val) (h : s.passes q (Reg.DMA_CHn_CTRL n) true) (hs : s.dmaState n = dmaActive)
    (hf : (s.chan n).fetch = none) (hb : (s.chan n).burst = 0) (ha : (Fld.DMA_CHn_CTRL_ABORT n).of d = 0) :
    ∃ t, exec (.dmaPause ch q d) s = .next t ∧ t.dmaState n = dmaPaused ∧ t.on (Fld.DMA_CHn_CTRL_PAUSE n) = true ∧
      s.onlyRegs t (channelRegs n) := by
  subst hn
  have run : exec (.dmaPause ch q d) s = _ := exec_access (f := fun s => s.dmaCtrlWrite ch.val q
    ((Fld.DMA_CHn_CTRL_GO ch.val).put 0 ((Fld.DMA_CHn_CTRL_PAUSE ch.val).put 1 d))) h rfl
  have go := of_goCleared ch.val ((Fld.DMA_CHn_CTRL_PAUSE ch.val).put 1 d)
  have abort : (Fld.DMA_CHn_CTRL_ABORT ch.val).of ((Fld.DMA_CHn_CTRL_GO ch.val).put 0 ((Fld.DMA_CHn_CTRL_PAUSE ch.val).put 1 d)) = 0 := by
    rw [Fld.of_put_ne _ _ _ _ (by simp) (by simp), Fld.of_put_ne _ _ _ _ (by simp) (by simp), ha]
  have pause : (Fld.DMA_CHn_CTRL_PAUSE ch.val).of ((Fld.DMA_CHn_CTRL_GO ch.val).put 0 ((Fld.DMA_CHn_CTRL_PAUSE ch.val).put 1 d)) = 1 := by
    rw [Fld.of_put_ne _ _ _ _ (by simp) (by simp), Fld.of_put_same _ _ _ (by simp) (by simp)]
  generalize (Fld.DMA_CHn_CTRL_GO ch.val).put 0 ((Fld.DMA_CHn_CTRL_PAUSE ch.val).put 1 d) = w at *
  rw [State.dmaCtrlWrite_pause go abort hs] at run
  have set : (s.storeCtrl ch.val w).on (Fld.DMA_CHn_CTRL_PAUSE ch.val) = true := by
    rw [State.on_iff, State.fld_storeCtrl_pause, pause]
    decide
  have regs := (s.storeCtrl_regsBut ch.val w).mono (bs := channelRegs ch.val) (by simp [channelRegs])
  have beside := s.storeCtrl_beside ch.val w
  have state := (s.dmaState_storeCtrl ch.val w).trans hs
  generalize s.storeCtrl ch.val w = u at *
  rw [State.dmaPauseIfSet, State.chan_beside beside, if_pos ⟨state, set, hf, hb⟩] at run
  refine ⟨_, run, State.dmaState_setDmaState _ _ (by decide), ?_, (beside.trans (u.setDmaState_beside _ _)).eq,
    State.setDmaState_regsBut regs _ _ (by simp [channelRegs])⟩
  rw [State.on_setDmaState_ne _ _ _ _ (Nat.le_add_right_of_le (by decide)) (by simp), set]

theorem exec_dmaAbort (ch : Fin 32) (h : s.passes q (Reg.DMA_CHn_CTRL ch.val) true) (hs : s.dmaState ch.val ≠ dmaIdle) :
    ∃ w, exec (.dmaAbort ch q d) s = .next ((s.storeCtrl ch.val w).dmaAbort ch.val) := by
  have run : exec (.dmaAbort ch q d) s = _ := exec_access (f := fun s => s.dmaCtrlWrite ch.val q
    ((Fld.DMA_CHn_CTRL_GO ch.val).put 0 ((Fld.DMA_CHn_CTRL_ABORT ch.val).put 1 d))) h rfl
  rw [State.dmaCtrlWrite_abort (of_goCleared _ _)
    (by rw [Fld.of_put_ne _ _ _ _ (by simp) (by simp), Fld.of_put_same _ _ _ (by simp) (by simp)]) hs] at run
  exact ⟨_, run⟩

theorem dmaDrains (ch : Fin 32) (n : Nat) (hn : n = ch.val) (h : s.passes q (Reg.DMA_CHn_CTRL n) true) (hs : s.dmaState n = dmaActive)
    (hb : (s.chan n).fetch ≠ none ∨ (s.chan n).burst ≠ 0) :
    ∃ t, exec (.dmaAbort ch q d) s = .next t ∧ t.dmaState n = dmaDraining ∧ t.on (Fld.DMA_CHn_CTRL_ABORT n) = true ∧
      s.onlyRegs t (channelRegs n) := by
  subst hn
  obtain ⟨w, run⟩ := exec_dmaAbort (d := d) ch h (by rw [hs]; decide)
  have regs := (s.storeCtrl_regsBut ch.val w).mono (bs := channelRegs ch.val) (by simp [channelRegs])
  have beside := s.storeCtrl_beside ch.val w
  have state := (s.dmaState_storeCtrl ch.val w).trans hs
  generalize s.storeCtrl ch.val w = u at *
  rw [State.dmaAbort, State.chan_beside beside, if_pos ⟨state, hb⟩] at run
  refine ⟨_, run, State.dmaState_setDmaState _ _ (by decide), ?_, ((beside.setFld _ _).trans (State.setDmaState_beside _ _ _)).eq,
    State.setDmaState_regsBut (regs.setFld _ (by simp [channelRegs])) _ _ (by simp [channelRegs])⟩
  rw [State.on_setDmaState_ne _ _ _ _ (Nat.le_add_right_of_le (by decide)) (by simp), State.on_setFld_one _ _ (by simp) (by simp)]

/-- The control bits of a channel that enters IDLE clear. -/
def State.clearCtrl (s : State) (n : Nat) : State :=
  ((s.setFld (Fld.DMA_CHn_CTRL_GO n) 0).setFld (Fld.DMA_CHn_CTRL_ABORT n) 0).setFld (Fld.DMA_CHn_CTRL_RESUME n) 0

theorem State.clearCtrl_beside (s : State) (n : Nat) : s.beside (s.clearCtrl n) := ⟨_, rfl⟩

theorem State.clearCtrl_regsBut (h : s.regsBut t as) (n : Nat) (ha : Reg.DMA_CHn_CTRL n ∈ as) : s.regsBut (t.clearCtrl n) as :=
  ((h.setFld _ ha).setFld _ ha).setFld _ ha

theorem State.clearCtrl_abort (s : State) (n : Nat) : (s.clearCtrl n).on (Fld.DMA_CHn_CTRL_ABORT n) = false := by
  rw [State.clearCtrl, State.on_setFld_ne _ _ _ _ (by simp) (by simp), State.on_setFld_same _ _ _ (by simp) (by simp)]
  rfl

/-- A channel that has entered IDLE has nothing in progress. -/
def DmaState.ended (c : DmaState) : DmaState := { c with fetch := none, held := none, burst := 0 }

theorem State.dmaToIdle_eq (s : State) (n : Nat) :
    s.dmaToIdle n = ((s.clearCtrl n).setDmaState n dmaIdle).setChan n (s.chan n).ended := rfl

/-- What a channel that enters IDLE shows, its CTRL apart. -/
theorem State.dmaToIdle_ends (s : State) (hn : n < 32) :
    (s.dmaToIdle n).dmaState n = dmaIdle ∧ (s.dmaToIdle n).on (Fld.DMA_CHn_CTRL_ABORT n) = false ∧
      ((s.dmaToIdle n).rd Reg.DMA_ACTIVE).getLsbD n = false ∧ (s.dmaToIdle n).chan n = (s.chan n).ended ∧
      (∀ m, m ≠ n → (s.dmaToIdle n).chan m = s.chan m) ∧ s.dmaToIdle n = { s with regs := (s.dmaToIdle n).regs, dma := (s.dmaToIdle n).dma } ∧
      s.regsBut (s.dmaToIdle n) (channelRegs n) := by
  have beside := (s.clearCtrl_beside n).trans (State.setDmaState_beside _ n dmaIdle)
  have abort : ((s.clearCtrl n).setDmaState n dmaIdle).on (Fld.DMA_CHn_CTRL_ABORT n) = false := by
    rw [State.on_setDmaState_ne _ _ _ _ (Nat.le_add_right_of_le (by decide)) (by simp), State.clearCtrl_abort]
  have state := (s.clearCtrl n).dmaState_setDmaState n (st := dmaIdle) (by decide)
  have shown := (s.clearCtrl n).active_setDmaState hn dmaIdle
  have regs : s.regsBut ((s.clearCtrl n).setDmaState n dmaIdle) (channelRegs n) :=
    State.setDmaState_regsBut (State.clearCtrl_regsBut (State.regsBut.refl s _) n (by simp [channelRegs])) _ _ (by simp [channelRegs])
  rw [State.dmaToIdle_eq]
  generalize (s.clearCtrl n).setDmaState n dmaIdle = u at *
  obtain ⟨same, this, others⟩ := beside.setChan (State.beside.refl (u.setChan n (s.chan n).ended))
  exact ⟨(State.fld_setChan _ _ _ _).trans state, (State.on_setChan _ _ _ _).trans abort, (State.rd_setChan _ _ _ _).symm ▸ shown, this, others, same,
    State.regsBut.congr regs (State.setChan_regs _ _ _)⟩

theorem dmaAborts (ch : Fin 32) (n : Nat) (hn : n = ch.val) (h : s.passes q (Reg.DMA_CHn_CTRL n) true)
    (hs : (s.dmaState n = dmaActive ∧ (s.chan n).fetch = none ∧ (s.chan n).burst = 0) ∨ s.dmaState n = dmaPaused ∨ s.dmaState n = dmaHalted) :
    ∃ t, exec (.dmaAbort ch q d) s = .next t ∧ t.dmaState n = dmaIdle ∧
      t.on (Fld.DMA_CHn_STATUS_ABORTED n) = true ∧ t.on (Fld.DMA_CHn_CTRL_ABORT n) = false ∧
      (t.rd Reg.DMA_ACTIVE).getLsbD n = false ∧ t.chan n = { s.chan n with fetch := none, held := none, burst := 0 } ∧
      (∀ m, m ≠ n → t.chan m = s.chan m) ∧ t = { s with regs := t.regs, dma := t.dma } ∧ s.regsBut t (channelRegs n) := by
  subst hn
  have busy : s.dmaState ch.val ≠ dmaIdle := by
    rcases hs with ⟨hs, -⟩ | hs | hs
    all_goals rw [hs]; decide
  obtain ⟨w, run⟩ := exec_dmaAbort (d := d) ch h busy
  have regs := (s.storeCtrl_regsBut ch.val w).mono (bs := channelRegs ch.val) (by simp [channelRegs])
  have beside := s.storeCtrl_beside ch.val w
  have state := s.dmaState_storeCtrl ch.val w
  generalize s.storeCtrl ch.val w = u at *
  have quiet : ¬ (u.dmaState ch.val = dmaActive ∧ ((s.chan ch.val).fetch ≠ none ∨ (s.chan ch.val).burst ≠ 0)) := by
    rw [state]
    rintro ⟨active, prog⟩
    rcases hs with ⟨-, hf, hb⟩ | hs | hs
    · exact prog.elim (fun p => p hf) (fun p => p hb)
    all_goals exact absurd (hs.symm.trans active) (by decide)
  have still : u.dmaState ch.val ≠ dmaDraining := by
    rw [state]
    rcases hs with ⟨hs, -⟩ | hs | hs
    all_goals rw [hs]; decide
  rw [State.dmaAbort, State.chan_beside beside, if_neg quiet, if_neg still, State.dmaAborted] at run
  obtain ⟨idle, abort, active, this, others, same, kept⟩ := u.dmaToIdle_ends ch.isLt
  rw [State.chan_beside beside] at this
  generalize u.dmaToIdle ch.val = v at *
  have ended := (State.beside.refl v).setFld (Fld.DMA_CHn_STATUS_ABORTED ch.val) 1
  have low := State.fld_setFld_ne v (Fld.DMA_CHn_STATUS_ABORTED ch.val) (Fld.DMA_CHn_STATUS_STATE ch.val) 1 (by simp) (by simp)
  refine ⟨_, run, low.trans idle, State.on_setFld_one _ _ (by simp) (by simp), ?_, ?_,
    (State.chan_beside ended _).trans this, ?_, beside.dmaLeft same ended, (regs.trans kept).setFld _ (by simp [channelRegs])⟩
  · rw [State.on_setFld_ne _ _ _ _ (by simp) (by simp), abort]
  · rw [State.rd_setFld_ne _ _ _ (channelReg_apart (Nat.le_add_right_of_le (by decide))).1.symm, active]
  · intro m hm
    exact (State.chan_beside ended m).trans ((others m hm).trans (State.chan_beside beside m))

theorem dmaResumes (ch : Fin 32) (n : Nat) (hn : n = ch.val) (h : s.passes q (Reg.DMA_CHn_CTRL n) true) (hs : s.dmaState n = dmaHalted)
    (he : s.fld (Fld.DMA_CHn_STATUS_ERR n) < dmaErrLoop) (hp : (Fld.DMA_CHn_CTRL_PAUSE n).of d = 0) :
    ∃ t, exec (.dmaResume ch q d) s = .next t ∧ t.dmaState n = dmaActive ∧ (t.rd Reg.DMA_HALTED).getLsbD n = false ∧
      s.onlyRegs t (channelRegs n) := by
  subst hn
  have run : exec (.dmaResume ch q d) s = _ := exec_access (f := fun s => s.dmaCtrlWrite ch.val q ((Fld.DMA_CHn_CTRL_GO ch.val).put 0
    ((Fld.DMA_CHn_CTRL_ABORT ch.val).put 0 ((Fld.DMA_CHn_CTRL_RESUME ch.val).put 1 d)))) h rfl
  rw [State.dmaCtrlWrite_resume (of_goCleared _ _)
    (by rw [Fld.of_put_ne _ _ _ _ (by simp) (by simp), Fld.of_put_same _ _ _ (by simp) (by simp)])
    (by rw [Fld.of_put_ne _ _ _ _ (by simp) (by simp), Fld.of_put_ne _ _ _ _ (by simp) (by simp), Fld.of_put_same _ _ _ (by simp) (by simp)])
    hs] at run
  have pause : (Fld.DMA_CHn_CTRL_PAUSE ch.val).of ((Fld.DMA_CHn_CTRL_GO ch.val).put 0
      ((Fld.DMA_CHn_CTRL_ABORT ch.val).put 0 ((Fld.DMA_CHn_CTRL_RESUME ch.val).put 1 d))) = 0 := by
    rw [Fld.of_put_ne _ _ _ _ (by simp) (by simp), Fld.of_put_ne _ _ _ _ (by simp) (by simp), Fld.of_put_ne _ _ _ _ (by simp) (by simp), hp]
  generalize (Fld.DMA_CHn_CTRL_GO ch.val).put 0 ((Fld.DMA_CHn_CTRL_ABORT ch.val).put 0 ((Fld.DMA_CHn_CTRL_RESUME ch.val).put 1 d)) = w at *
  have unset : (s.storeCtrl ch.val w).on (Fld.DMA_CHn_CTRL_PAUSE ch.val) = false := by
    rw [State.on_eq_false, State.fld_storeCtrl_pause, pause]
  have regs := (s.storeCtrl_regsBut ch.val w).mono (bs := channelRegs ch.val) (by simp [channelRegs])
  have err : (s.storeCtrl ch.val w).fld (Fld.DMA_CHn_STATUS_ERR ch.val) = s.fld (Fld.DMA_CHn_STATUS_ERR ch.val) :=
    (s.storeCtrl_regsBut ch.val w).fld _ (by simp)
  have beside := s.storeCtrl_beside ch.val w
  generalize s.storeCtrl ch.val w = u at *
  have unset' : (u.setDmaState ch.val dmaActive).on (Fld.DMA_CHn_CTRL_PAUSE ch.val) = false := by
    rw [State.on_setDmaState_ne _ _ _ _ (Nat.le_add_right_of_le (by decide)) (by simp), unset]
  have other : s.fld (Fld.DMA_CHn_STATUS_ERR ch.val) ≠ dmaErrLoop ∧ s.fld (Fld.DMA_CHn_STATUS_ERR ch.val) ≠ dmaErrDesc := by
    simp only [dmaErrLoop, dmaErrDesc] at he ⊢
    omega
  have resumed : u.dmaResume ch.val = u.setDmaState ch.val dmaActive := by
    simp only [State.dmaResume, err, if_neg other.1, if_neg other.2, unset', Bool.false_eq_true, false_and, if_false]
  rw [resumed] at run
  exact ⟨_, run, State.dmaState_setDmaState _ _ (by decide), State.halted_setDmaState _ ch.isLt _,
    (beside.trans (u.setDmaState_beside _ _)).eq, State.setDmaState_regsBut regs _ _ (by simp [channelRegs])⟩

/-- Settles O33: a control write is stored, and then the channel starts, pauses, drains, ends or resumes; each registers' frame is
that of the channel's own control and status. -/
theorem dmaChannelsObeyTheirControl : Obligations.DmaChannelsObeyTheirControl := by
  unfold Obligations.DmaChannelsObeyTheirControl
  intro ch q d n s hn h
  exact ⟨fun hs => by subst hn; exact dmaOverruns ch h hs, dmaStarts ch n hn h, dmaPauses ch n hn h, dmaDrains ch n hn h,
    dmaAborts ch n hn h, dmaResumes ch n hn h⟩

end Sys2Proof.Machine

/-!
PROOFS. What the channels of the DMA engine do between their control writes (O34).
-/

namespace Sys2Proof.Machine

variable {s t : State} {as : List Nat} {a n : Nat} {q : Requester} {d : Word}

theorem State.fld_withRaise (s : State) (l : List EventRec) (f : Fld) : State.fld { s with raise := l } f = s.fld f := rfl

theorem State.on_withRaise (s : State) (l : List EventRec) (f : Fld) : State.on { s with raise := l } f = s.on f := rfl

theorem State.dmaState_withRaise (s : State) (l : List EventRec) (n : Nat) : State.dmaState { s with raise := l } n = s.dmaState n := rfl

theorem State.chan_withRaise (s : State) (l : List EventRec) (n : Nat) : State.chan { s with raise := l } n = s.chan n := rfl

theorem State.regsBut.withRaise (h : s.regsBut t as) (l : List EventRec) : s.regsBut { t with raise := l } as :=
  fun a ha => (State.rd_withRaise t l a).trans (h a ha)

/-! ### Halting (R184) -/

/-- The error of a channel is shown. -/
def State.showError (s : State) (n err : Nat) (write fetch : Bool) : State :=
  (((s.setFld (Fld.DMA_CHn_STATUS_ERR n) err).setFld (Fld.DMA_CHn_STATUS_ERR_DIR n) (bit write)).setFld
    (Fld.DMA_CHn_STATUS_ERR_FETCH n) (bit fetch)).setDmaState n dmaHalted

theorem State.showError_beside (s : State) (n err : Nat) (write fetch : Bool) : s.beside (s.showError n err write fetch) :=
  ((((State.beside.refl s).setFld _ _).setFld _ _).setFld _ _).trans (State.setDmaState_beside _ _ _)

theorem State.showError_regsBut (h : s.regsBut t as) (n err : Nat) (write fetch : Bool)
    (ha : Reg.DMA_CHn_STATUS n ∈ as ∧ Reg.DMA_ACTIVE ∈ as ∧ Reg.DMA_HALTED ∈ as) : s.regsBut (t.showError n err write fetch) as :=
  State.setDmaState_regsBut (((h.setFld _ ha.1).setFld _ ha.1).setFld _ ha.1) _ _ ha

theorem State.fld_showError (s : State) (n : Nat) {err : Nat} (he : err < 16) (write fetch : Bool) :
    (s.showError n err write fetch).fld (Fld.DMA_CHn_STATUS_ERR n) = err := by
  rw [State.showError, State.fld_setDmaState_ne _ _ _ _ (Nat.le_add_right_of_le (by decide)) (by simp),
    State.fld_setFld_ne _ _ _ _ (by simp) (by simp), State.fld_setFld_ne _ _ _ _ (by simp) (by simp)]
  exact State.fld_setFld_same _ _ _ (by simp) he

theorem State.on_showError (s : State) (n err : Nat) (write fetch : Bool) :
    (s.showError n err write fetch).on (Fld.DMA_CHn_STATUS_ERR_DIR n) = write := by
  rw [State.showError, State.on_setDmaState_ne _ _ _ _ (Nat.le_add_right_of_le (by decide)) (by simp),
    State.on_setFld_ne _ _ _ _ (by simp) (by simp), State.on_setFld_bit _ _ _ (by simp) (by simp)]

theorem State.dmaHalt_room (hs : s.dmaState n = dmaActive) (room : s.raiseRoom 1) (err : Nat) (write fetch : Bool) :
    s.dmaHalt n err write fetch = { s.showError n err write fetch with
      raise := s.raise ++ [s.occurrence 0x45 (n + 256 * err + 4096 * bit write + 8192 * bit fetch)] } := by
  have drains : (s.dmaState n == dmaDraining) = false := by rw [hs]; decide
  obtain ⟨r, same⟩ := s.showError_beside n err write fetch
  have left : (s.showError n err write fetch).raiseRoom 1 := by rw [same]; exact room
  have eq : s.dmaHalt n err write fetch = if s.dmaState n == dmaDraining then
      ((s.showError n err write fetch).event 0x45 (n + 256 * err + 4096 * bit write + 8192 * bit fetch)).dmaAborted n
      else (s.showError n err write fetch).event 0x45 (n + 256 * err + 4096 * bit write + 8192 * bit fetch) := rfl
  rw [eq, drains, if_neg (by decide), State.event_raiseRoom left (by decide), same]
  rfl

/-- What a channel that halts shows. -/
theorem State.dmaHalt_halts (hs : s.dmaState n = dmaActive) (room : s.raiseRoom 1) {err : Nat} (he : err < 16) (write fetch : Bool) :
    (s.dmaHalt n err write fetch).dmaState n = dmaHalted ∧ (s.dmaHalt n err write fetch).fld (Fld.DMA_CHn_STATUS_ERR n) = err ∧
      (s.dmaHalt n err write fetch).on (Fld.DMA_CHn_STATUS_ERR_DIR n) = write ∧
      (s.dmaHalt n err write fetch).raise = s.raise ++ [s.occurrence 0x45 (n + 256 * err + 4096 * bit write + 8192 * bit fetch)] ∧
      (∃ r l, s.dmaHalt n err write fetch = { s with regs := r, raise := l }) ∧
      s.regsBut (s.dmaHalt n err write fetch) [Reg.DMA_CHn_STATUS n, Reg.DMA_ACTIVE, Reg.DMA_HALTED] := by
  have state : (s.showError n err write fetch).dmaState n = dmaHalted := State.dmaState_setDmaState _ _ (by decide)
  have code := s.fld_showError n he write fetch
  have dir := s.on_showError n err write fetch
  have regs := State.showError_regsBut (State.regsBut.refl s [Reg.DMA_CHn_STATUS n, Reg.DMA_ACTIVE, Reg.DMA_HALTED]) n err write fetch (by simp)
  have beside := s.showError_beside n err write fetch
  rw [State.dmaHalt_room hs room]
  generalize s.showError n err write fetch = u at *
  refine ⟨(State.dmaState_withRaise _ _ _).trans state, (State.fld_withRaise _ _ _).trans code, (State.on_withRaise _ _ _).trans dir, rfl, ?_,
    regs.withRaise _⟩
  obtain ⟨r, rfl⟩ := beside
  exact ⟨_, _, rfl⟩

/-- What a channel that meets a bus error shows. -/
theorem State.dmaBusError_halts (hs : s.dmaState n = dmaActive) (room : s.raiseRoom 1) {err : Nat} (he : err < 16) (a : Nat) (write fetch : Bool) :
    (s.dmaBusError n err a write fetch).dmaState n = dmaHalted ∧ (s.dmaBusError n err a write fetch).fld (Fld.DMA_CHn_STATUS_ERR n) = err ∧
      (s.dmaBusError n err a write fetch).on (Fld.DMA_CHn_STATUS_ERR_DIR n) = write ∧
      (s.dmaBusError n err a write fetch).rd (Reg.DMA_CHn_ERRADDR n) = BitVec.ofNat 32 a ∧
      (s.dmaBusError n err a write fetch).raise = s.raise ++ [s.occurrence 0x45 (n + 256 * err + 4096 * bit write + 8192 * bit fetch)] ∧
      (∃ r l, s.dmaBusError n err a write fetch = { s with regs := r, raise := l }) ∧
      s.regsBut (s.dmaBusError n err a write fetch) [Reg.DMA_CHn_ERRADDR n, Reg.DMA_CHn_STATUS n, Reg.DMA_ACTIVE, Reg.DMA_HALTED] := by
  have active : (s.wr (Reg.DMA_CHn_ERRADDR n) (BitVec.ofNat 32 a)).dmaState n = dmaActive :=
    (State.fld_wr_ne s _ _ (Fld.DMA_CHn_STATUS_STATE n) (by simp)).trans hs
  have left : (s.wr (Reg.DMA_CHn_ERRADDR n) (BitVec.ofNat 32 a)).raiseRoom 1 := room.congr rfl rfl
  have addr : (s.wr (Reg.DMA_CHn_ERRADDR n) (BitVec.ofNat 32 a)).rd (Reg.DMA_CHn_ERRADDR n) = BitVec.ofNat 32 a := State.rd_wr_same _ _ _
  have regs : s.regsBut (s.wr (Reg.DMA_CHn_ERRADDR n) (BitVec.ofNat 32 a))
    [Reg.DMA_CHn_ERRADDR n, Reg.DMA_CHn_STATUS n, Reg.DMA_ACTIVE, Reg.DMA_HALTED] := (State.regsBut.refl s _).wr _ (by simp)
  have beside := (State.beside.refl s).wr (Reg.DMA_CHn_ERRADDR n) (BitVec.ofNat 32 a)
  rw [State.dmaBusError]
  generalize s.wr (Reg.DMA_CHn_ERRADDR n) (BitVec.ofNat 32 a) = u at *
  obtain ⟨state, code, dir, raised, same, kept⟩ := State.dmaHalt_halts active left he write fetch
  generalize u.dmaHalt n err write fetch = t at *
  refine ⟨state, code, dir, (kept _ ?_).trans addr, ?_, ?_, regs.trans (kept.mono (by simp))⟩
  · have apart := channelReg_apart (a := Reg.DMA_CHn_ERRADDR n) (Nat.le_add_right_of_le (by decide))
    simp only [List.mem_cons, apart.1, apart.2, List.not_mem_nil, or_false]
    simp
  · obtain ⟨r, rfl⟩ := beside
    exact raised
  · obtain ⟨r, rfl⟩ := beside
    obtain ⟨r', l, rfl⟩ := same
    exact ⟨_, _, rfl⟩

/-! ### An access that fails within a burst (R184, R185) -/

/-- `u` is `s` with channel `n` in a burst. -/
structure State.atBurst (s u : State) (n : Nat) : Prop where
  beside : ∃ m, u = { s with dma := m }
  this : ∃ b, u.chan n = { s.chan n with burst := b }
  others : ∀ m, m ≠ n → u.chan m = s.chan m

theorem State.inBurst_begins (hs : s.dmaState n = dmaActive) (hf : (s.chan n).fetch = none) (hr : s.fld (Fld.DMA_CHn_REMAIN_WORDS n) ≠ 0)
    (hb : (s.chan n).burst ≠ 0 ∨ descPreq (s.chan n).desc = false) : ∃ u, s.inBurst n = some u ∧ s.atBurst u n := by
  have runs : s.dmaRuns n = true := by rw [State.dmaRuns, hs]; rfl
  have first : ¬ ((!s.dmaRuns n || (s.chan n).fetch.isSome || s.fld (Fld.DMA_CHn_REMAIN_WORDS n) == 0) = true) := by simp [runs, hf, hr]
  unfold State.inBurst
  simp only [if_neg first]
  by_cases h : (s.chan n).burst ≠ 0
  · exact ⟨s, if_pos h, ⟨⟨_, rfl⟩, ⟨_, rfl⟩, fun _ _ => rfl⟩⟩
  · have preq := hb.resolve_left h
    simp only [if_neg h, hs, show ¬ dmaActive = dmaDraining by decide, if_false, preq, Bool.false_eq_true]
    exact ⟨_, rfl, ⟨⟨_, rfl⟩, ⟨_, State.chan_setChan_same _ _ _⟩, fun m hm => State.chan_setChan_ne _ _ hm⟩⟩

theorem State.atBurst.rd {u : State} (h : s.atBurst u n) (a : Nat) : u.rd a = s.rd a := by
  obtain ⟨m, rfl⟩ := h.beside
  rfl

theorem State.atBurst.nextAccess {u : State} (h : s.atBurst u n) : u.nextAccess n = s.nextAccess n := by
  obtain ⟨b, this⟩ := h.this
  rw [State.nextAccess, State.nextAccess, this, State.fld_congr (f := Fld.DMA_CHn_REMAIN_WORDS n) (h.rd _)]

theorem State.judge_congr (hd : t.domains = s.domains) (hb : t.banksOff = s.banksOff) (hp : t.rd Reg.PROC_STATUS = s.rd Reg.PROC_STATUS)
    (q : Requester) (a : Nat) (w : Bool) : t.judge q a w = s.judge q a w := by
  have level : t.fld Fld.PROC_STATUS_DBG_LEVEL = s.fld Fld.PROC_STATUS_DBG_LEVEL := State.fld_congr hp
  have allowed : t.forbidden q a w = s.forbidden q a w := by
    cases q
    all_goals simp only [State.forbidden, level]
  cases h : domainOf a with
  | none => rw [State.judge_of_unmapped h, State.judge_of_unmapped h]
  | some d => rw [State.judge_of_mapped h, State.judge_of_mapped h, allowed, State.domOn, State.domOn, hd, State.bankPowered, State.bankPowered, hb]

theorem State.dmaStatus_unreached (h : dmaReach a = false) (n : Nat) (w : Bool) (err : Nat) : s.dmaStatus n a w err = stAddrErr := by
  simp [State.dmaStatus, h]

/-- What both kinds of a failing access in a burst leave. -/
theorem State.atBurst.halts {u : State} (h : s.atBurst u n) (hs : s.dmaState n = dmaActive) (room : s.raiseRoom 1) {err : Nat} (he : err < 16) (a : Nat)
    (t : State) (ht : t = u.dmaBusError n err a false false) :
    t.dmaState n = dmaHalted ∧ t.fld (Fld.DMA_CHn_STATUS_ERR n) = err ∧ t.on (Fld.DMA_CHn_STATUS_ERR_DIR n) = false ∧
      t.rd (Reg.DMA_CHn_ERRADDR n) = BitVec.ofNat 32 a ∧ t.raise = s.raise ++ [s.occurrence 0x45 (n + 256 * err)] ∧
      (∀ m, m ≠ n → t.chan m = s.chan m) ∧ t = { s with regs := t.regs, raise := t.raise, dma := t.dma } ∧
      s.regsBut t [Reg.DMA_CHn_ERRADDR n, Reg.DMA_CHn_STATUS n, Reg.DMA_ACTIVE, Reg.DMA_HALTED] := by
  have active : u.dmaState n = dmaActive := (State.dmaState_congr (h.rd _)).trans hs
  have regs := h.rd
  have others := h.others
  obtain ⟨m, rfl⟩ := h.beside
  obtain ⟨state, code, dir, addr, raised, same, kept⟩ := State.dmaBusError_halts active (room.congr rfl rfl) he a false false
  rw [← ht] at *
  refine ⟨state, code, dir, addr, raised, ?_, ?_, fun b hb => (kept b hb).trans (regs b)⟩
  · obtain ⟨r, l, rfl⟩ := same
    exact others
  · obtain ⟨r, l, rfl⟩ := same
    rfl

theorem dmaAddressFails (ch : Fin 32) (n : Nat) (hn : n = ch.val) (hs : s.dmaState n = dmaActive) (room : s.raiseRoom 1) (e : Bool)
    (hf : (s.chan n).fetch = none) (hh : (s.chan n).held = none) (hr : s.fld (Fld.DMA_CHn_REMAIN_WORDS n) ≠ 0)
    (hb : (s.chan n).burst ≠ 0 ∨ descPreq (s.chan n).desc = false) (a : Nat × Nat)
    (ha : a = descWord (s.chan n).desc (descLen (s.chan n).desc - s.fld (Fld.DMA_CHn_REMAIN_WORDS n))) (out : dmaReach a.1 = false) :
    ∃ t, exec (.dmaBusError ch e) s = .next t ∧ t.dmaState n = dmaHalted ∧ t.fld (Fld.DMA_CHn_STATUS_ERR n) = dmaErrAddr ∧
      t.rd (Reg.DMA_CHn_ERRADDR n) = BitVec.ofNat 32 a.1 ∧ t.raise = s.raise ++ [s.occurrence 0x45 (n + 256 * dmaErrAddr)] ∧
      (∀ m, m ≠ n → t.chan m = s.chan m) ∧ t = { s with regs := t.regs, raise := t.raise, dma := t.dma } ∧
      s.regsBut t [Reg.DMA_CHn_ERRADDR n, Reg.DMA_CHn_STATUS n, Reg.DMA_ACTIVE, Reg.DMA_HALTED] := by
  subst hn
  obtain ⟨u, begins, at'⟩ := State.inBurst_begins hs hf hr hb
  have next : u.nextAccess ch.val = (a, none) := at'.nextAccess.trans (by rw [State.nextAccess, ha, hh])
  have run : exec (.dmaBusError ch e) s = .next (u.dmaBusError ch.val dmaErrAddr a.1 false false) := by
    show execDmaBusError ch e s = _
    simp only [execDmaBusError, begins, next, State.dmaStatus_unreached out, show ¬ stAddrErr = stOk by decide, show ¬ stAddrErr = stEccErr by decide, if_false]
    rfl
  obtain ⟨state, code, -, addr, raised, others, same, kept⟩ := at'.halts hs room (err := dmaErrAddr) (by decide) a.1 _ rfl
  exact ⟨_, run, state, code, addr, raised, others, same, kept⟩

theorem dmaReadTimesOut (ch : Fin 32) (n : Nat) (hn : n = ch.val) (hs : s.dmaState n = dmaActive) (room : s.raiseRoom 1)
    (hf : (s.chan n).fetch = none) (hh : (s.chan n).held = none) (hr : s.fld (Fld.DMA_CHn_REMAIN_WORDS n) ≠ 0)
    (hb : (s.chan n).burst ≠ 0 ∨ descPreq (s.chan n).desc = false) (a : Nat × Nat)
    (ha : a = descWord (s.chan n).desc (descLen (s.chan n).desc - s.fld (Fld.DMA_CHn_REMAIN_WORDS n))) :
    ∃ t, exec (.dmaResponseTimeout ch false) s = .next t ∧ t.dmaState n = dmaHalted ∧
      t.fld (Fld.DMA_CHn_STATUS_ERR n) = dmaErrTimeout ∧ t.on (Fld.DMA_CHn_STATUS_ERR_DIR n) = false ∧
      t.rd (Reg.DMA_CHn_ERRADDR n) = BitVec.ofNat 32 a.1 ∧
      t.raise = s.raise ++ [s.occurrence 0x45 (n + 256 * dmaErrTimeout)] ∧ (∀ m, m ≠ n → t.chan m = s.chan m) ∧
      t = { s with regs := t.regs, raise := t.raise, dma := t.dma } ∧
      s.regsBut t [Reg.DMA_CHn_ERRADDR n, Reg.DMA_CHn_STATUS n, Reg.DMA_ACTIVE, Reg.DMA_HALTED] := by
  subst hn
  obtain ⟨u, begins, at'⟩ := State.inBurst_begins hs hf hr hb
  have next : u.nextAccess ch.val = (a, none) := at'.nextAccess.trans (by rw [State.nextAccess, ha, hh])
  have run : exec (.dmaResponseTimeout ch false) s = .next (u.dmaBusError ch.val dmaErrTimeout a.1 false false) := by
    show execDmaResponseTimeout ch false s = _
    simp only [execDmaResponseTimeout, hf, begins, next, Bool.false_and, Bool.false_eq_true, if_false]
  exact ⟨_, run, at'.halts hs room (by decide) a.1 _ rfl⟩

theorem State.target_store (lo : storeBase ≤ a) (hi : a < storeEnd) (s : State) : s.target a = .store := by
  simp only [storeBase, storeEnd] at lo hi
  rw [State.target, if_neg (by omega), if_neg (by omega), if_pos (by simp only [storeBase, storeEnd]; omega)]

theorem State.readAt_clean (lo : storeBase ≤ a) (hi : a < storeEnd) (h : s.ecc = []) (x : Accessor) :
    s.readAt x a = (s, stOk, BitVec.ofNat 32 (leNat (s.storeBytes a 4))) := by
  simp only [State.readAt, State.target_store lo hi, State.storeRead_clean h, if_true]

theorem State.writeAt_clean (lo : storeBase ≤ a) (hi : a < storeEnd) (h : s.ecc = []) (hm : s.fld Fld.CST_ECC_INJ_MODE = 0) (x : Accessor) (v : Word) :
    s.writeAt x a v = (s.putStore a (leBytes 4 v.toNat), stOk) := by
  simp only [State.writeAt, State.target_store lo hi, State.storeWrite_clean h hm, if_true]

theorem State.dmaReach_store (lo : storeBase ≤ a) (hi : a < storeEnd) : dmaReach a = true := by
  simp [dmaReach, lo, hi]

theorem State.dmaStatus_clean (lo : storeBase ≤ a) (hi : a < storeEnd) (h : s.ecc = []) (n : Nat) (w : Bool) (err : Nat) :
    s.dmaStatus n a w err = s.judge (s.chan n).req a w := by
  have none : s.eccAt (wordIndex a) = 0 := by rw [State.eccAt, h]; rfl
  simp only [State.dmaStatus, State.dmaReach_store lo hi, State.target_store lo hi, none, Bool.not_true, Bool.false_eq_true, if_false]
  by_cases ok : s.judge (s.chan n).req a w = stOk
  · simp [ok]
  · simp [ok]

theorem dmaWriteTimesOut (ch : Fin 32) (n : Nat) (hn : n = ch.val) (hs : s.dmaState n = dmaActive) (room : s.raiseRoom 1)
    (hf : (s.chan n).fetch = none) (hh : (s.chan n).held = none) (hr : s.fld (Fld.DMA_CHn_REMAIN_WORDS n) ≠ 0)
    (hb : (s.chan n).burst ≠ 0 ∨ descPreq (s.chan n).desc = false) (a : Nat × Nat)
    (ha : a = descWord (s.chan n).desc (descLen (s.chan n).desc - s.fld (Fld.DMA_CHn_REMAIN_WORDS n)))
    (lo : storeBase ≤ a.1) (hi : a.1 < storeEnd) (ok : s.dmaStatus n a.1 false 0 = stOk) (he : s.ecc = []) :
    ∃ t, exec (.dmaResponseTimeout ch true) s = .next t ∧ t.dmaState n = dmaHalted ∧
      t.fld (Fld.DMA_CHn_STATUS_ERR n) = dmaErrTimeout ∧ t.on (Fld.DMA_CHn_STATUS_ERR_DIR n) = true ∧
      t.rd (Reg.DMA_CHn_ERRADDR n) = BitVec.ofNat 32 a.2 ∧
      (t.chan n).held = some (BitVec.ofNat 32 (leNat (s.storeBytes a.1 4))) ∧
      t = { s with regs := t.regs, raise := t.raise, dma := t.dma } := by
  subst hn
  obtain ⟨u, begins, at'⟩ := State.inBurst_begins hs hf hr hb
  have next : u.nextAccess ch.val = (a, none) := at'.nextAccess.trans (by rw [State.nextAccess, ha, hh])
  have clean : u.ecc = [] := by
    obtain ⟨m, rfl⟩ := at'.beside
    exact he
  have judged : u.judge (u.chan ch.val).req a.1 false = s.judge (s.chan ch.val).req a.1 false := by
    obtain ⟨b, this⟩ := at'.this
    rw [this]
    obtain ⟨m, rfl⟩ := at'.beside
    exact State.judge_congr rfl rfl rfl _ _ _
  have passes : u.dmaStatus ch.val a.1 false 0 = stOk := by
    rw [State.dmaStatus_clean lo hi clean, judged, ← State.dmaStatus_clean lo hi he _ _ 0, ok]
  have run : exec (.dmaResponseTimeout ch true) s = .next ((u.setChan ch.val { u.chan ch.val with
      held := some (BitVec.ofNat 32 (leNat (u.storeBytes a.1 4))) }).dmaBusError ch.val dmaErrTimeout a.2 true false) := by
    show execDmaResponseTimeout ch true s = _
    simp only [execDmaResponseTimeout, hf, begins, next, passes, decide_true, Bool.and_self, if_true, State.readAt_clean lo hi clean]
  have read : u.storeBytes a.1 4 = s.storeBytes a.1 4 := by
    obtain ⟨m, rfl⟩ := at'.beside
    rfl
  rw [read] at run
  generalize BitVec.ofNat 32 (leNat (s.storeBytes a.1 4)) = v at *
  have held := u.chan_setChan_same ch.val { u.chan ch.val with held := some v }
  have active : (u.setChan ch.val { u.chan ch.val with held := some v }).dmaState ch.val = dmaActive :=
    (State.fld_setChan _ _ _ _).trans ((State.dmaState_congr (at'.rd _)).trans hs)
  have beside : ∃ m, u.setChan ch.val { u.chan ch.val with held := some v } = { s with dma := m } := by
    obtain ⟨m, rfl⟩ := at'.beside
    exact ⟨_, rfl⟩
  generalize u.setChan ch.val { u.chan ch.val with held := some v } = w at *
  obtain ⟨m, rfl⟩ := beside
  obtain ⟨state, code, dir, addr, -, same, -⟩ := State.dmaBusError_halts active (room.congr rfl rfl) (err := dmaErrTimeout) (by decide) a.2 true false
  refine ⟨_, run, state, code, dir, addr, ?_, ?_⟩
  · obtain ⟨r, l, same⟩ := same
    rw [same]
    exact congrArg DmaState.held held
  · obtain ⟨r, l, same⟩ := same
    rw [same]

/-! ### Fetch (R172, R174) -/

theorem leNat_lt (bs : List Byte) : leNat bs < 256 ^ bs.length := by
  induction bs with
  | nil => exact Nat.one_pos
  | cons b bs ih =>
    have small := b.isLt
    simp only [leNat, List.length_cons, Nat.pow_succ]
    omega

theorem fieldAt_lt (bs : List Byte) (k n : Nat) : fieldAt bs k n < 256 ^ n := by
  refine Nat.lt_of_lt_of_le (leNat_lt _) (Nat.pow_le_pow_right (by decide) ?_)
  simp [bytesAt]

theorem descWord_zero (b : List Byte) : descWord b 0 = (descSrc b, descDst b) := by
  have src : descSrc b < 4294967296 := fieldAt_lt b 0 4
  have dst : descDst b < 4294967296 := fieldAt_lt b 4 4
  unfold descWord
  split
  all_goals simp [src, dst]

theorem State.showDma_shows (s : State) (n : Nat) {l : Nat} (hl : l < 2 ^ 24) (p : Nat × Nat)
    (hp : p = descWord (s.chan n).desc (descLen (s.chan n).desc - l)) :
    (s.showDma n l).fld (Fld.DMA_CHn_REMAIN_WORDS n) = l ∧ (s.showDma n l).rd (Reg.DMA_CHn_SRC n) = BitVec.ofNat 32 p.1 ∧
      (s.showDma n l).rd (Reg.DMA_CHn_DST n) = BitVec.ofNat 32 p.2 ∧ s.beside (s.showDma n l) ∧
      s.regsBut (s.showDma n l) [Reg.DMA_CHn_REMAIN n, Reg.DMA_CHn_SRC n, Reg.DMA_CHn_DST n] := by
  have shown : s.showDma n l = ((s.setFld (Fld.DMA_CHn_REMAIN_WORDS n) l).wr (Reg.DMA_CHn_SRC n) (BitVec.ofNat 32 p.1)).wr
      (Reg.DMA_CHn_DST n) (BitVec.ofNat 32 p.2) := by
    rw [hp]
    rfl
  rw [shown]
  refine ⟨?_, ?_, State.rd_wr_same _ _ _, (((State.beside.refl s).setFld _ _).wr _ _).wr _ _,
    (((State.regsBut.refl s _).setFld _ (by simp)).wr _ (by simp)).wr _ (by simp)⟩
  · rw [State.fld_wr_ne _ _ _ _ (by simp), State.fld_wr_ne _ _ _ _ (by simp)]
    exact State.fld_setFld_same _ _ _ (by simp) hl
  · rw [State.rd_wr_ne _ _ (by simp), State.rd_wr_same]

theorem State.dmaSettle_runs (hs : s.dmaState n = dmaActive) (hp : s.on (Fld.DMA_CHn_CTRL_PAUSE n) = false) : s.dmaSettle n = s := by
  rw [State.dmaSettle, if_neg (by rw [hs]; simp [dmaActive, dmaDraining]), State.dmaPauseIfSet, if_neg (by simp [hp])]

/-- The channel has copied the descriptor `b`. -/
def State.copyDesc (s : State) (n : Nat) (b : List Byte) : State :=
  s.setChan n { s.chan n with desc := b, fetch := none, held := none, burst := 0 }

theorem exec_descriptorFetch (ch : Fin 32) (n : Nat) (hn : n = ch.val) (hs : s.dmaState n = dmaActive) (hf : (s.chan n).fetch = some a)
    (ha : a % 32 = 0) (lo : storeBase ≤ a) (hi : a < storeEnd) (he : s.ecc = []) (ok : s.judge (s.chan n).req a false = stOk) :
    exec (.descriptorFetch ch) s = .next (
      let u := s.wr (Reg.DMA_CHn_DESC n) (BitVec.ofNat 32 a)
      if descOk (s.storeBytes a 32) then ((u.copyDesc n (s.storeBytes a 32)).showDma n (descLen (s.storeBytes a 32))).dmaSettle n
      else (u.setChan n { u.chan n with fetch := none }).dmaHalt n dmaErrDesc false false) := by
  subst hn
  have runs : s.dmaRuns ch.val = true := by rw [State.dmaRuns, hs]; rfl
  have whole : a / 32 * 32 = a := Nat.div_mul_cancel (Nat.dvd_of_mod_eq_zero ha)
  have chan : (s.wr (Reg.DMA_CHn_DESC ch.val) (BitVec.ofNat 32 a)).chan ch.val = s.chan ch.val := rfl
  have judged : (s.wr (Reg.DMA_CHn_DESC ch.val) (BitVec.ofNat 32 a)).judge (s.chan ch.val).req a false = stOk :=
    (State.judge_congr (s := s) (t := s.wr (Reg.DMA_CHn_DESC ch.val) (BitVec.ofNat 32 a)) rfl rfl
      (State.rd_wr_ne _ _ (by simp only [Reg.PROC_STATUS, Reg.DMA_CHn_DESC]; omega)) _ _ _).trans ok
  have clean : (s.wr (Reg.DMA_CHn_DESC ch.val) (BitVec.ofNat 32 a)).ecc = [] := he
  have bytes : (s.wr (Reg.DMA_CHn_DESC ch.val) (BitVec.ofNat 32 a)).storeBytes a 32 = s.storeBytes a 32 := rfl
  show execDescriptorFetch ch s = _
  simp only [execDescriptorFetch, hf, runs, whole, lo, hi, and_self, if_true, Bool.not_true, Bool.false_eq_true, if_false, chan, judged,
    ne_eq, not_true_eq_false, State.storeRead_clean clean, bytes, State.copyDesc]
  by_cases good : descOk (s.storeBytes a 32) = true
  · simp only [good, Bool.not_true, Bool.false_eq_true, if_true, if_false]
  · simp only [Bool.eq_false_of_not_eq_true good, Bool.not_false, Bool.false_eq_true, if_true, if_false]

theorem descriptorFetched (ch : Fin 32) (n : Nat) (hn : n = ch.val) (hs : s.dmaState n = dmaActive) (hf : (s.chan n).fetch = some a)
    (ha : a % 32 = 0) (lo : storeBase ≤ a) (hi : a < storeEnd) (he : s.ecc = []) (ok : s.judge (s.chan n).req a false = stOk)
    (b : List Byte) (hb : b = s.storeBytes a 32) (good : descOk b = true) (hp : s.on (Fld.DMA_CHn_CTRL_PAUSE n) = false) :
    ∃ t, exec (.descriptorFetch ch) s = .next t ∧ t.chan n = { s.chan n with desc := b, fetch := none, held := none, burst := 0 } ∧
      t.rd (Reg.DMA_CHn_DESC n) = BitVec.ofNat 32 a ∧ t.fld (Fld.DMA_CHn_REMAIN_WORDS n) = descLen b ∧
      t.rd (Reg.DMA_CHn_SRC n) = BitVec.ofNat 32 (descSrc b) ∧ t.rd (Reg.DMA_CHn_DST n) = BitVec.ofNat 32 (descDst b) ∧
      (∀ m, m ≠ n → t.chan m = s.chan m) ∧ t = { s with regs := t.regs, dma := t.dma } ∧
      s.regsBut t [Reg.DMA_CHn_DESC n, Reg.DMA_CHn_REMAIN n, Reg.DMA_CHn_SRC n, Reg.DMA_CHn_DST n] := by
  have run := exec_descriptorFetch ch n hn hs hf ha lo hi he ok
  rw [← hb] at run
  simp only [good, if_true] at run
  have beside := (State.beside.refl s).wr (Reg.DMA_CHn_DESC n) (BitVec.ofNat 32 a)
  have addr : (s.wr (Reg.DMA_CHn_DESC n) (BitVec.ofNat 32 a)).rd (Reg.DMA_CHn_DESC n) = BitVec.ofNat 32 a := State.rd_wr_same _ _ _
  have regs : s.regsBut (s.wr (Reg.DMA_CHn_DESC n) (BitVec.ofNat 32 a)) [Reg.DMA_CHn_DESC n, Reg.DMA_CHn_REMAIN n, Reg.DMA_CHn_SRC n, Reg.DMA_CHn_DST n] :=
    (State.regsBut.refl s _).wr _ (by simp)
  generalize s.wr (Reg.DMA_CHn_DESC n) (BitVec.ofNat 32 a) = u at *
  have copied : (u.copyDesc n b).chan n = { s.chan n with desc := b, fetch := none, held := none, burst := 0 } := by
    rw [State.copyDesc, State.chan_setChan_same, State.chan_beside beside]
  have desc : ((u.copyDesc n b).chan n).desc = b := by rw [copied]
  obtain ⟨remain, src, dst, shown, kept⟩ := (u.copyDesc n b).showDma_shows n (show descLen b < 2 ^ 24 from fieldAt_lt b 8 3) (descSrc b, descDst b)
    (by rw [desc, Nat.sub_self, descWord_zero])
  obtain ⟨same, this, others⟩ := beside.setChan (t := (u.copyDesc n b).showDma n (descLen b)) shown
  have keep (x : Nat) : (u.copyDesc n b).rd x = u.rd x := State.rd_setChan _ _ _ _
  have whole : s.regsBut ((u.copyDesc n b).showDma n (descLen b)) [Reg.DMA_CHn_DESC n, Reg.DMA_CHn_REMAIN n, Reg.DMA_CHn_SRC n, Reg.DMA_CHn_DST n] :=
    fun x hx => (kept x (fun h => hx (List.mem_cons_of_mem _ h))).trans ((keep x).trans (regs x hx))
  have desc := (kept (Reg.DMA_CHn_DESC n) (by simp)).trans ((keep _).trans addr)
  rw [State.chan_beside beside] at this
  generalize (u.copyDesc n b).showDma n (descLen b) = t at *
  have settled : t.dmaSettle n = t := State.dmaSettle_runs ((whole.fld (Fld.DMA_CHn_STATUS_STATE n) (by simp)).trans hs)
    (by rw [State.on, whole.fld _ (by simp)]; exact hp)
  rw [settled] at run
  exact ⟨_, run, this, desc, remain, src, dst, others, same, whole⟩

theorem descriptorRefused (ch : Fin 32) (n : Nat) (hn : n = ch.val) (hs : s.dmaState n = dmaActive) (room : s.raiseRoom 1) (hf : (s.chan n).fetch = some a)
    (ha : a % 32 = 0) (lo : storeBase ≤ a) (hi : a < storeEnd) (he : s.ecc = []) (ok : s.judge (s.chan n).req a false = stOk)
    (b : List Byte) (hb : b = s.storeBytes a 32) (bad : descOk b = false) :
    ∃ t, exec (.descriptorFetch ch) s = .next t ∧ t.dmaState n = dmaHalted ∧ t.fld (Fld.DMA_CHn_STATUS_ERR n) = dmaErrDesc ∧
      t.raise = s.raise ++ [s.occurrence 0x45 (n + 256 * dmaErrDesc)] ∧ t.store = s.store := by
  have run := exec_descriptorFetch ch n hn hs hf ha lo hi he ok
  rw [← hb] at run
  simp only [bad, Bool.false_eq_true, if_false] at run
  have active : (s.wr (Reg.DMA_CHn_DESC n) (BitVec.ofNat 32 a)).dmaState n = dmaActive :=
    (State.fld_wr_ne s _ _ (Fld.DMA_CHn_STATUS_STATE n) (by simp)).trans hs
  obtain ⟨r, beside⟩ := (State.beside.refl s).wr (Reg.DMA_CHn_DESC n) (BitVec.ofNat 32 a)
  generalize s.wr (Reg.DMA_CHn_DESC n) (BitVec.ofNat 32 a) = u at *
  have active' := (State.fld_setChan u n { u.chan n with fetch := none } (Fld.DMA_CHn_STATUS_STATE n)).trans active
  have same : ∃ m, u.setChan n { u.chan n with fetch := none } = { s with regs := r, dma := m } := ⟨_, by rw [beside]; rfl⟩
  generalize u.setChan n { u.chan n with fetch := none } = v at *
  obtain ⟨m, rfl⟩ := same
  obtain ⟨state, code, -, raised, left, -⟩ := State.dmaHalt_halts active' (room.congr rfl rfl) (err := dmaErrDesc) (by decide) false false
  obtain ⟨r', l, left⟩ := left
  exact ⟨_, run, state, code, raised, by rw [left]⟩

/-! ### Completion (R177, R179) -/

/-- A completing descriptor's tag is shown and its event raised. -/
def State.showTag (s : State) (n : Nat) (d : List Byte) : State :=
  let u := s.wr (Reg.DMA_CHn_TAG n) (BitVec.ofNat 32 (descTag d))
  if descEvt d then u.event 0x44 (n + 256 * (descTag d % 2 ^ 24)) else u

/-- The occurrence that a completing descriptor raises. -/
def State.tagEvent (s : State) (n : Nat) (d : List Byte) : List EventRec :=
  if descEvt d then [s.occurrence 0x44 (n + 256 * (descTag d % 2 ^ 24))] else []

theorem State.showTag_shows (room : s.raiseRoom 1) (n : Nat) (d : List Byte) :
    s.showTag n d = { s.wr (Reg.DMA_CHn_TAG n) (BitVec.ofNat 32 (descTag d)) with raise := s.raise ++ s.tagEvent n d } := by
  unfold State.showTag State.tagEvent
  by_cases h : descEvt d = true
  · simp only [h, if_true]
    rw [State.event_raiseRoom (s := s.wr (Reg.DMA_CHn_TAG n) (BitVec.ofNat 32 (descTag d))) (room.congr rfl rfl) (by decide)]
    rfl
  · simp only [h, Bool.false_eq_true, if_false, List.append_nil]
    rfl

theorem exec_descriptorComplete (ch : Fin 32) (n : Nat) (hn : n = ch.val) (hs : s.dmaState n = dmaActive) (d : List Byte) (hd : (s.chan n).desc = d)
    (full : d ≠ []) (hf : (s.chan n).fetch = none) (hr : s.fld (Fld.DMA_CHn_REMAIN_WORDS n) = 0) (hl : descLen d ≠ 0)
    (hc : descHopClr d = false) (hp : descPause d = false) :
    exec (.descriptorComplete ch) s = .next (
      if descChain d then (s.showTag n d).dmaHop n else ((s.showTag n d).dmaToIdle n).setFld (Fld.DMA_CHn_STATUS_DONE n) 1) := by
  subst hn
  have going : ¬ (s.dmaState ch.val ≠ dmaActive ∨ (s.chan ch.val).fetch.isSome = true ∨ s.fld (Fld.DMA_CHn_REMAIN_WORDS ch.val) ≠ 0 ∨ d = []) := by
    simp [hs, hf, hr, full]
  have complete : s.dmaComplete ch.val = if descChain d then (s.showTag ch.val d).dmaHop ch.val
      else ((s.showTag ch.val d).dmaToIdle ch.val).setFld (Fld.DMA_CHn_STATUS_DONE ch.val) 1 := by
    simp only [State.dmaComplete, hd, hc, hp, Bool.false_eq_true, if_false, State.showTag]
  show execDescriptorComplete ch s = _
  simp only [execDescriptorComplete, hd, if_neg going, if_neg (show ¬ (descLen d = 0 ∧ descPreq d = true) from fun h => hl h.1), complete]

theorem descriptorEnds (ch : Fin 32) (n : Nat) (hn : n = ch.val) (hs : s.dmaState n = dmaActive) (room : s.raiseRoom 1) (d : List Byte) (hd : (s.chan n).desc = d)
    (full : d ≠ []) (hf : (s.chan n).fetch = none) (hr : s.fld (Fld.DMA_CHn_REMAIN_WORDS n) = 0) (hl : descLen d ≠ 0)
    (hc : descHopClr d = false) (hp : descPause d = false) (last : descChain d = false) :
    ∃ t, exec (.descriptorComplete ch) s = .next t ∧ t.dmaState n = dmaIdle ∧ t.on (Fld.DMA_CHn_STATUS_DONE n) = true ∧
      t.rd (Reg.DMA_CHn_TAG n) = BitVec.ofNat 32 (descTag d) ∧
      t.raise = s.raise ++ (if descEvt d then [s.occurrence 0x44 (n + 256 * (descTag d % 2 ^ 24))] else []) ∧
      (∀ m, m ≠ n → t.chan m = s.chan m) ∧ t = { s with regs := t.regs, raise := t.raise, dma := t.dma } ∧
      s.regsBut t [Reg.DMA_CHn_TAG n, Reg.DMA_CHn_CTRL n, Reg.DMA_CHn_STATUS n, Reg.DMA_ACTIVE, Reg.DMA_HALTED] := by
  have run := exec_descriptorComplete ch n hn hs d hd full hf hr hl hc hp
  rw [last, if_neg (by decide), State.showTag_shows room] at run
  have tag : (s.wr (Reg.DMA_CHn_TAG n) (BitVec.ofNat 32 (descTag d))).rd (Reg.DMA_CHn_TAG n) = BitVec.ofNat 32 (descTag d) := State.rd_wr_same _ _ _
  have regs : s.regsBut (s.wr (Reg.DMA_CHn_TAG n) (BitVec.ofNat 32 (descTag d))) [Reg.DMA_CHn_TAG n] := (State.regsBut.refl s _).wr _ (by simp)
  obtain ⟨r, same⟩ := (State.beside.refl s).wr (Reg.DMA_CHn_TAG n) (BitVec.ofNat 32 (descTag d))
  generalize s.wr (Reg.DMA_CHn_TAG n) (BitVec.ofNat 32 (descTag d)) = u at *
  have tag' : ({ u with raise := s.raise ++ s.tagEvent n d } : State).rd (Reg.DMA_CHn_TAG n) = _ := (State.rd_withRaise _ _ _).trans tag
  have regs' := regs.withRaise (s.raise ++ s.tagEvent n d)
  have same' : ({ u with raise := s.raise ++ s.tagEvent n d } : State) = { s with regs := r, raise := s.raise ++ s.tagEvent n d } := by rw [same]
  generalize ({ u with raise := s.raise ++ s.tagEvent n d } : State) = v at *
  obtain ⟨idle, -, -, -, others, left, kept⟩ := v.dmaToIdle_ends (n := n) (hn ▸ ch.isLt)
  generalize v.dmaToIdle n = w at *
  have done := (State.beside.refl w).setFld (Fld.DMA_CHn_STATUS_DONE n) 1
  have last : v.regsBut (w.setFld (Fld.DMA_CHn_STATUS_DONE n) 1) (channelRegs n) := kept.setFld _ (by simp [channelRegs])
  have state : (w.setFld (Fld.DMA_CHn_STATUS_DONE n) 1).dmaState n = dmaIdle := (State.fld_setFld_ne _ _ _ _ (by simp) (by simp)).trans idle
  have on := State.on_setFld_one w (Fld.DMA_CHn_STATUS_DONE n) (by simp) (by simp)
  generalize w.setFld (Fld.DMA_CHn_STATUS_DONE n) 1 = t at *
  have apart := channelReg_apart (a := Reg.DMA_CHn_TAG n) (Nat.le_add_right_of_le (by decide))
  refine ⟨t, run, state, on, (last _ (by simp [channelRegs]; exact apart)).trans tag', ?_, ?_, ?_, ?_⟩
  · obtain ⟨r', rfl⟩ := done
    rw [left, same']
    rfl
  · intro m hm
    rw [State.chan_beside done, others m hm, same']
    rfl
  · obtain ⟨r', m, left⟩ : ∃ r' m, w = { v with regs := r', dma := m } := ⟨_, _, left⟩
    obtain ⟨r'', rfl⟩ := done
    rw [left, same']
  · exact fun a ha => (last a (fun h => ha (List.mem_cons_of_mem _ h))).trans (regs' a (fun h => ha (List.mem_singleton.1 h ▸ List.mem_cons_self)))

theorem descriptorChains (ch : Fin 32) (n : Nat) (hn : n = ch.val) (hs : s.dmaState n = dmaActive) (room : s.raiseRoom 1) (d : List Byte) (hd : (s.chan n).desc = d)
    (full : d ≠ []) (hf : (s.chan n).fetch = none) (hr : s.fld (Fld.DMA_CHn_REMAIN_WORDS n) = 0) (hl : descLen d ≠ 0)
    (hc : descHopClr d = false) (hp : descPause d = false) (chain : descChain d = true)
    (hops : s.fld (Fld.DMA_CHn_HOPCNT_COUNT n) < s.fld (Fld.DMA_CHn_HOPS_LIMIT n)) :
    ∃ t, exec (.descriptorComplete ch) s = .next t ∧ t.dmaState n = dmaActive ∧ (t.chan n).fetch = some (descNext d) ∧
      t.fld (Fld.DMA_CHn_HOPCNT_COUNT n) = s.fld (Fld.DMA_CHn_HOPCNT_COUNT n) + 1 ∧ t.store = s.store := by
  have run := exec_descriptorComplete ch n hn hs d hd full hf hr hl hc hp
  rw [chain, if_pos rfl, State.showTag_shows room] at run
  have regs : s.regsBut (s.wr (Reg.DMA_CHn_TAG n) (BitVec.ofNat 32 (descTag d))) [Reg.DMA_CHn_TAG n] := (State.regsBut.refl s _).wr _ (by simp)
  obtain ⟨r, same⟩ := (State.beside.refl s).wr (Reg.DMA_CHn_TAG n) (BitVec.ofNat 32 (descTag d))
  generalize s.wr (Reg.DMA_CHn_TAG n) (BitVec.ofNat 32 (descTag d)) = u at *
  have regs' := regs.withRaise (s.raise ++ s.tagEvent n d)
  have same' : ({ u with raise := s.raise ++ s.tagEvent n d } : State) = { s with regs := r, raise := s.raise ++ s.tagEvent n d } := by rw [same]
  generalize ({ u with raise := s.raise ++ s.tagEvent n d } : State) = v at *
  have chan : v.chan n = s.chan n := by rw [same']; rfl
  have count := regs'.fld (Fld.DMA_CHn_HOPCNT_COUNT n) (by simp)
  have limit := regs'.fld (Fld.DMA_CHn_HOPS_LIMIT n) (by simp)
  have state := regs'.fld (Fld.DMA_CHn_STATUS_STATE n) (by simp)
  have store : v.store = s.store := by rw [same']
  have small := s.fld_lt (Fld.DMA_CHn_HOPS_LIMIT n)
  simp only [show 15 + 1 - 0 = 16 by decide] at small
  have hop : v.dmaHop n = (v.setFld (Fld.DMA_CHn_HOPCNT_COUNT n) (s.fld (Fld.DMA_CHn_HOPCNT_COUNT n) + 1)).setChan n
      { v.chan n with fetch := some (descNext d) } := by
    unfold State.dmaHop
    simp only [count, limit, if_neg (show ¬ s.fld (Fld.DMA_CHn_HOPS_LIMIT n) = 0 by omega),
      if_neg (show ¬ s.fld (Fld.DMA_CHn_HOPS_LIMIT n) < s.fld (Fld.DMA_CHn_HOPCNT_COUNT n) + 1 by omega)]
    simp only [chan, hd]
  rw [hop] at run
  refine ⟨_, run, ?_, by rw [State.chan_setChan_same], ?_, store⟩
  · exact (State.fld_setChan _ _ _ _).trans ((State.fld_setFld_ne _ _ _ _ (by simp) (by simp)).trans (state.trans hs))
  · exact (State.fld_setChan _ _ _ _).trans (State.fld_setFld_same _ _ _ (by simp) (by simp only [show 16 + 1 - 0 = 17 by decide]; omega))

/-! ### A burst (R175, R176) -/

theorem SMap.getRange_congr {α : Type} {x : α} {m m' : SMap α} (n : Nat) {k : Nat} (h : ∀ i, k ≤ i → i < k + n → SMap.get x m i = SMap.get x m' i) :
    SMap.getRange x m k n = SMap.getRange x m' k n := by
  induction n generalizing k with
  | zero => rfl
  | succ n ih => rw [SMap.getRange, SMap.getRange, h k (le_refl k) (by omega), ih fun i hi hk => h i (by omega) (by omega)]

theorem State.storeBytes_putStore_out (s : State) {a k n : Nat} (bs : List Byte) (h : k + n ≤ a ∨ a + bs.length ≤ k) :
    (s.putStore a bs).storeBytes k n = s.storeBytes k n :=
  SMap.getRange_congr n fun i hi hk => SMap.get_setRange_out 0 bs s.store (by omega)

theorem State.storeBytes_length (s : State) (a n : Nat) : (s.storeBytes a n).length = n := SMap.getRange_length _ _ _ _

theorem State.putStore_append (s : State) (a : Nat) (bs cs : List Byte) : (s.putStore a bs).putStore (a + bs.length) cs = s.putStore a (bs ++ cs) := by
  simp only [State.putStore, SMap.setRange_append]

/-- Four bytes of the store are the bytes of the word read there. -/
theorem State.leBytes_storeBytes (s : State) (a : Nat) : leBytes 4 (BitVec.ofNat 32 (leNat (s.storeBytes a 4))).toNat = s.storeBytes a 4 :=
  leBytes_leNat _ _ _ _

theorem descWord_linear {d : List Byte} (hm : descMode d = 0) (hs : descSrcFix d = false) (hd : descDstFix d = false) {w : Nat}
    (src : descSrc d + 4 * w < 2 ^ 32) (dst : descDst d + 4 * w < 2 ^ 32) : descWord d w = (descSrc d + 4 * w, descDst d + 4 * w) := by
  simp only [descWord, hm, hs, hd, Bool.false_eq_true, if_false, Nat.mod_eq_of_lt src, Nat.mod_eq_of_lt dst]

/-- Of a copy from `src` to `dst` the first `j` words have moved. -/
structure State.moved (u v : State) (src dst j : Nat) : Prop where
  beside : ∃ m, v = { u.putStore dst (u.storeBytes src (4 * j)) with dma := m }
  chans : ∀ m, v.chan m = u.chan m

theorem State.moved.refl (u : State) (src dst : Nat) : u.moved u src dst 0 := ⟨⟨_, rfl⟩, fun _ => rfl⟩

section
variable {u v w : State} {src dst j i l : Nat}

theorem State.moved.unread (h : u.moved v src dst j) (apart : src + 4 * l ≤ dst ∨ dst + 4 * l ≤ src) (hl : j + i ≤ l) :
    v.storeBytes (src + 4 * j) (4 * i) = u.storeBytes (src + 4 * j) (4 * i) := by
  obtain ⟨m, rfl⟩ := h.beside
  exact State.storeBytes_putStore_out u _ (by rw [State.storeBytes_length]; omega)

theorem State.moved.trans (h : u.moved v src dst j) (hw : ∃ m, w = { v.putStore (dst + 4 * j) (u.storeBytes (src + 4 * j) (4 * i)) with dma := m })
    (hc : ∀ m, w.chan m = v.chan m) : u.moved w src dst (j + i) := by
  refine ⟨?_, fun m => (hc m).trans (h.chans m)⟩
  obtain ⟨m, rfl⟩ := h.beside
  obtain ⟨m', rfl⟩ := hw
  refine ⟨m', ?_⟩
  have join : (u.putStore dst (u.storeBytes src (4 * j))).putStore (dst + 4 * j) (u.storeBytes (src + 4 * j) (4 * i)) =
      u.putStore dst (u.storeBytes src (4 * (j + i))) := by
    have := u.putStore_append dst (u.storeBytes src (4 * j)) (u.storeBytes (src + 4 * j) (4 * i))
    rw [State.storeBytes_length] at this
    rw [this, Nat.mul_add]
    exact congrArg _ (SMap.getRange_add 0 u.store src (4 * j) (4 * i)).symm
  rw [← join]
  rfl

theorem State.moved.clean (h : u.moved v src dst j) (he : u.ecc = []) : v.ecc = [] := by
  obtain ⟨m, rfl⟩ := h.beside
  exact he

theorem State.moved.fld (h : u.moved v src dst j) (f : Fld) : v.fld f = u.fld f := by
  obtain ⟨m, rfl⟩ := h.beside
  rfl

theorem State.moved.judge (h : u.moved v src dst j) (q : Requester) (a : Nat) (x : Bool) : v.judge q a x = u.judge q a x := by
  obtain ⟨m, rfl⟩ := h.beside
  exact State.judge_congr rfl rfl rfl _ _ _

end

/-- Channel `n` of `u` may copy `l` words between two ranges of an error-free store, word by word (R175, R176). -/
structure State.copies (u : State) (n l : Nat) (d : List Byte) : Prop where
  desc : (u.chan n).desc = d
  held : (u.chan n).held = none
  mode : descMode d = 0
  srcMoves : descSrcFix d = false
  dstMoves : descDstFix d = false
  srcLow : storeBase ≤ descSrc d
  srcHigh : descSrc d + 4 * l ≤ storeEnd
  dstLow : storeBase ≤ descDst d
  dstHigh : descDst d + 4 * l ≤ storeEnd
  apart : descSrc d + 4 * l ≤ descDst d ∨ descDst d + 4 * l ≤ descSrc d
  clean : u.ecc = []
  quiet : u.fld Fld.CST_ECC_INJ_MODE = 0
  allowed : ∀ w < l, u.judge (u.chan n).req (descSrc d + 4 * w) false = stOk ∧ u.judge (u.chan n).req (descDst d + 4 * w) true = stOk

section
variable {u v : State} {l w k : Nat} {b : List Byte}

theorem State.copies.word (h : u.copies n l b) (hw : w < l) : descWord b w = (descSrc b + 4 * w, descDst b + 4 * w) := by
  have lo := h.srcHigh
  have hi := h.dstHigh
  simp only [storeEnd] at lo hi
  exact descWord_linear h.mode h.srcMoves h.dstMoves (by omega) (by omega)

theorem State.copies.read (h : u.copies n l b) (hv : u.moved v (descSrc b) (descDst b) w) (hw : w < l) (x : Accessor) (err : Nat) :
    v.dmaStatus n (descSrc b + 4 * w) false err = stOk ∧
      v.readAt x (descSrc b + 4 * w) = (v, stOk, BitVec.ofNat 32 (leNat (u.storeBytes (descSrc b + 4 * w) 4))) := by
  have lo := h.srcLow
  have hi := h.srcHigh
  have same := hv.unread (i := 1) h.apart (by omega)
  refine ⟨?_, ?_⟩
  · rw [State.dmaStatus_clean (by omega) (by omega) (hv.clean h.clean), hv.judge, hv.chans]
    exact (h.allowed w hw).1
  · rw [State.readAt_clean (by omega) (by omega) (hv.clean h.clean), ← same]

theorem State.copies.write (h : u.copies n l b) (hv : u.moved v (descSrc b) (descDst b) w) (hw : w < l) :
    v.dmaStatus n (descDst b + 4 * w) true 0 = stOk := by
  have lo := h.dstLow
  have hi := h.dstHigh
  rw [State.dmaStatus_clean (by omega) (by omega) (hv.clean h.clean), hv.judge, hv.chans]
  exact (h.allowed w hw).2

/-- One word moves. -/
theorem State.copies.moveWord (h : u.copies n l b) (hv : u.moved v (descSrc b) (descDst b) w) (hw : w < l) (m : Nat) :
    ∃ v', BurstRun.word ⟨v, m, 0, false⟩ n w false 0 = ⟨v', m + 1, 0, false⟩ ∧ u.moved v' (descSrc b) (descDst b) (w + 1) := by
  have lo := h.dstLow
  have hi := h.dstHigh
  have desc : (v.chan n).desc = b := by rw [hv.chans, h.desc]
  have held : (v.chan n).held = none := by rw [hv.chans, h.held]
  obtain ⟨ok, value⟩ := h.read hv hw (dmaAccess (v.chan n).req n 0) 0
  have ok' := h.write hv hw
  generalize hx : BitVec.ofNat 32 (leNat (u.storeBytes (descSrc b + 4 * w) 4)) = x at value
  have bytes : leBytes 4 x.toNat = u.storeBytes (descSrc b + 4 * w) (4 * 1) := by rw [← hx, State.leBytes_storeBytes]
  have clean : (v.setChan n { v.chan n with held := none }).ecc = [] := hv.clean h.clean
  have quiet : (v.setChan n { v.chan n with held := none }).fld Fld.CST_ECC_INJ_MODE = 0 := (hv.fld _).trans h.quiet
  have moves := State.writeAt_clean (a := descDst b + 4 * w) (by omega) (by omega) clean quiet (dmaAccess (v.chan n).req n 0) x
  refine ⟨(v.setChan n { v.chan n with held := none }).putStore (descDst b + 4 * w) (leBytes 4 x.toNat), ?_, ?_⟩
  · simp only [BurstRun.word, desc, held, h.word hw, ok, ne_eq, not_true_eq_false, if_false, value, ok', if_true, Bool.false_and]
    simp only [desc] at moves
    exact congrArg (fun r => (⟨r.1, m + 1, 0, false⟩ : BurstRun)) moves
  · rw [bytes]
    refine hv.trans ⟨_, rfl⟩ fun p => ?_
    have same : v.chan n = { v.chan n with held := none } := by rw [← held]
    by_cases hp : p = n
    · rw [hp]
      exact (State.chan_setChan_same v n _).trans same.symm
    · exact State.chan_setChan_ne v _ hp

/-- Two words move as one. -/
theorem State.copies.movePair (h : u.copies n l b) (hv : u.moved v (descSrc b) (descDst b) w) (hw : w + 1 < l) (m : Nat) :
    ∃ v', BurstRun.pair ⟨v, m, 0, false⟩ n w 0 0 = ⟨v', m + 2, 0, false⟩ ∧ u.moved v' (descSrc b) (descDst b) (w + 2) := by
  have desc : (v.chan n).desc = b := by rw [hv.chans, h.desc]
  have first := (h.read hv (by omega : w < l) (dmaAccess (v.chan n).req n 0) 0).2
  have src := h.srcLow
  have src' := h.srcHigh
  have second : v.readAt (dmaAccess (v.chan n).req n 0) (descSrc b + 4 * (w + 1)) =
      (v, stOk, BitVec.ofNat 32 (leNat (u.storeBytes (descSrc b + 4 * (w + 1)) 4))) := by
    have same : v.storeBytes (descSrc b + 4 * (w + 1)) 4 = u.storeBytes (descSrc b + 4 * (w + 1)) 4 := by
      obtain ⟨p, rfl⟩ := hv.beside
      have apart := h.apart
      exact State.storeBytes_putStore_out u _ (by rw [State.storeBytes_length]; omega)
    rw [State.readAt_clean (by omega) (by omega) (hv.clean h.clean), same]
  have both : u.storeBytes (descSrc b + 4 * w) 4 ++ u.storeBytes (descSrc b + 4 * (w + 1)) 4 = u.storeBytes (descSrc b + 4 * w) (4 * 2) :=
    (SMap.getRange_add 0 u.store (descSrc b + 4 * w) 4 4).symm
  refine ⟨v.putStore (descDst b + 4 * w) (u.storeBytes (descSrc b + 4 * w) (4 * 2)), ?_, hv.trans ⟨_, rfl⟩ fun _ => rfl⟩
  simp only [BurstRun.pair, desc, h.word hw, h.word (by omega : w < l), first, second, State.leBytes_storeBytes, both]
  rw [State.storeWrite_clean (hv.clean h.clean) ((hv.fld _).trans h.quiet)]

/-- `k` words move from word `w` on. -/
theorem State.copies.run (h : u.copies n l b) (fuel : Nat) : ∀ (w k m : Nat) (v : State), u.moved v (descSrc b) (descDst b) w → w + k ≤ l → k ≤ fuel →
    ∃ v', BurstRun.run n false fuel w k [] ⟨v, m, 0, false⟩ = ⟨v', m + k, 0, false⟩ ∧ u.moved v' (descSrc b) (descDst b) (w + k) := by
  induction fuel with
  | zero =>
    intro w k m v hv _ hf
    obtain rfl := Nat.le_zero.1 hf
    exact ⟨v, rfl, hv⟩
  | succ fuel ih =>
    intro w k m v hv hl hf
    rw [BurstRun.run]
    by_cases hk : k = 0
    · subst hk
      exact ⟨v, if_pos (.inl rfl), hv⟩
    · rw [if_neg (by simp [hk])]
      have desc : (v.chan n).desc = b := by rw [hv.chans, h.desc]
      simp only [desc, List.getElem?_nil, Option.map_none, Option.getD_none, List.drop_nil]
      split_ifs with pair
      · have two : 2 ≤ k := by
          simp only [Bool.and_eq_true, pairAllowed, decide_eq_true_eq] at pair
          omega
        obtain ⟨v', eq, next⟩ := h.movePair hv (by omega) m
        obtain ⟨v'', eq', last⟩ := ih (w + 2) (k - 2) (m + 2) v' next (by omega) (by omega)
        refine ⟨v'', ?_, ?_⟩
        · rw [eq, eq', show m + 2 + (k - 2) = m + k by omega]
        · rw [show w + k = w + 2 + (k - 2) by omega]
          exact last
      · obtain ⟨v', eq, next⟩ := h.moveWord hv (by omega) m
        obtain ⟨v'', eq', last⟩ := ih (w + 1) (k - 1) (m + 1) v' next (by omega) (by omega)
        refine ⟨v'', ?_, ?_⟩
        · rw [eq, eq', show m + 1 + (k - 1) = m + k by omega]
        · rw [show w + k = w + 1 + (k - 1) by omega]
          exact last

end

theorem dmaBurstCopies (ch : Fin 32) (n : Nat) (hn : n = ch.val) (hs : s.dmaState n = dmaActive) (d : List Byte) (l : Nat)
    (hd : (s.chan n).desc = d) (hf : (s.chan n).fetch = none) (hh : (s.chan n).held = none) (hb : (s.chan n).burst = 0) (hl : l = descLen d)
    (hr : s.fld (Fld.DMA_CHn_REMAIN_WORDS n) = l) (pos : 0 < l) (small : l ≤ 64) (hm : descMode d = 0)
    (hsf : descSrcFix d = false) (hdf : descDstFix d = false) (hq : descPreq d = false) (hp : s.on (Fld.DMA_CHn_CTRL_PAUSE n) = false)
    (srcLow : storeBase ≤ descSrc d) (srcHigh : descSrc d + 4 * l ≤ storeEnd) (dstLow : storeBase ≤ descDst d)
    (dstHigh : descDst d + 4 * l ≤ storeEnd) (apart : descSrc d + 4 * l ≤ descDst d ∨ descDst d + 4 * l ≤ descSrc d)
    (he : s.ecc = []) (hi : s.fld Fld.CST_ECC_INJ_MODE = 0)
    (allowed : ∀ w < l, s.judge (s.chan n).req (descSrc d + 4 * w) false = stOk ∧ s.judge (s.chan n).req (descDst d + 4 * w) true = stOk) :
    ∃ t, exec (.dmaBurst ch []) s = .next t ∧ t.storeBytes (descDst d) (4 * l) = s.storeBytes (descSrc d) (4 * l) ∧
      (∀ a, a < descDst d ∨ descDst d + 4 * l ≤ a → t.storeByte a = s.storeByte a) ∧
      t.fld (Fld.DMA_CHn_REMAIN_WORDS n) = 0 ∧ (∀ m, t.chan m = s.chan m) ∧
      t = { s with regs := t.regs, store := t.store, dma := t.dma } ∧
      s.regsBut t [Reg.DMA_CHn_REMAIN n, Reg.DMA_CHn_SRC n, Reg.DMA_CHn_DST n] := by
  have begins : s.inBurst n = some (s.setChan n { s.chan n with burst := l }) := by
    have runs : s.dmaRuns n = true := by rw [State.dmaRuns, hs]; rfl
    have first : ¬ ((!s.dmaRuns n || (s.chan n).fetch.isSome || l == 0) = true) := by simp [runs, hf, show l ≠ 0 by omega]
    have idle : ¬ (s.chan n).burst ≠ 0 := fun h => h hb
    have live : ¬ s.dmaState n = dmaDraining := by rw [hs]; decide
    unfold State.inBurst
    simp only [if_neg first, if_neg idle, if_neg live, hd, hq, Bool.false_eq_true, if_false, hr, Nat.min_eq_left small]
  have this := State.chan_setChan_same s n { s.chan n with burst := l }
  have others (m : Nat) (h : m ≠ n) := State.chan_setChan_ne s { s.chan n with burst := l } h
  have begun : ∃ m, s.setChan n { s.chan n with burst := l } = { s with dma := m } := ⟨_, rfl⟩
  generalize s.setChan n { s.chan n with burst := l } = u at *
  obtain ⟨m, rfl⟩ := begun
  have req : (({ s with dma := m } : State).chan n).req = (s.chan n).req := by rw [this]
  have may : ({ s with dma := m } : State).copies n l d :=
    ⟨by rw [this, hd], by rw [this, hh], hm, hsf, hdf, srcLow, srcHigh, dstLow, dstHigh, apart, he, hi, fun w hw => by
      have same (a : Nat) (x : Bool) : ({ s with dma := m } : State).judge (s.chan n).req a x = s.judge (s.chan n).req a x :=
        State.judge_congr rfl rfl rfl _ _ _
      rw [req, same, same]
      exact allowed w hw⟩
  obtain ⟨v, moves, left⟩ := may.run l 0 l 0 _ (State.moved.refl _ _ _) (by omega) (le_refl l)
  have burst : (({ s with dma := m } : State).chan n).burst = l := by rw [this]
  have run : exec (.dmaBurst ch []) s = .next (State.dmaSettle ((v.showDma n 0).setChan n { (v.showDma n 0).chan n with burst := 0 }) n) := by
    subst hn
    show execDmaBurst ch [] s = _
    simp only [execDmaBurst, begins, hd, hq, hr, ← hl, Nat.sub_self, burst, moves, Nat.zero_add, if_true]
  have desc : (v.chan n).desc = d := by rw [left.chans, this, hd]
  obtain ⟨remain, -, -, shown, kept⟩ := v.showDma_shows n (l := 0) (by decide) _ rfl
  generalize v.showDma n 0 = w at *
  have chans (p : Nat) : (w.setChan n { w.chan n with burst := 0 }).chan p = s.chan p := by
    have same : w.chan p = _ := (State.chan_beside shown p).trans (left.chans p)
    by_cases hpn : p = n
    · subst hpn
      rw [State.chan_setChan_same, same, this, ← hb]
    · rw [State.chan_setChan_ne _ _ hpn, same, others p hpn]
  have remain' := (State.fld_setChan w n { w.chan n with burst := 0 } (Fld.DMA_CHn_REMAIN_WORDS n)).trans remain
  have regs : s.regsBut (w.setChan n { w.chan n with burst := 0 }) [Reg.DMA_CHn_REMAIN n, Reg.DMA_CHn_SRC n, Reg.DMA_CHn_DST n] := fun a ha =>
    (State.rd_setChan _ _ _ _).trans ((kept a ha).trans (by obtain ⟨p, rfl⟩ := left.beside; rfl))
  have stored : (w.setChan n { w.chan n with burst := 0 }).store = (s.putStore (descDst d) (s.storeBytes (descSrc d) (4 * l))).store := by
    obtain ⟨r, rfl⟩ := shown
    obtain ⟨p, rfl⟩ := left.beside
    rw [Nat.zero_add]
    rfl
  have same : ∃ r x p, w.setChan n { w.chan n with burst := 0 } = { s with regs := r, store := x, dma := p } := by
    obtain ⟨r, rfl⟩ := shown
    obtain ⟨p, rfl⟩ := left.beside
    exact ⟨_, _, _, rfl⟩
  generalize w.setChan n { w.chan n with burst := 0 } = t at *
  have settled : t.dmaSettle n = t := State.dmaSettle_runs ((regs.fld (Fld.DMA_CHn_STATUS_STATE n) (by simp)).trans hs)
    (by rw [State.on, regs.fld _ (by simp)]; exact hp)
  rw [settled] at run
  have bytes := s.storeBytes_putStore (descDst d) (s.storeBytes (descSrc d) (4 * l))
  have out (a : Nat) := s.storeByte_putStore_out (descDst d) a (s.storeBytes (descSrc d) (4 * l))
  rw [State.storeBytes_length] at bytes
  simp only [State.storeBytes_length] at out
  refine ⟨t, run, ?_, fun a ha => ?_, remain', chans, ?_, regs⟩
  · rw [State.storeBytes, stored]
    exact bytes
  · rw [State.storeByte, stored]
    exact out a ha
  · obtain ⟨r, x, p, rfl⟩ := same
    rfl

/-- Settles O34: a fetch copies its descriptor or halts; a burst moves its words in order, alone or in pairs, each into bytes
that are still to be written and from bytes that are not written; completion and the failing accesses follow their cases. -/
theorem dmaDescriptorsRunToTheirEnd : Obligations.DmaDescriptorsRunToTheirEnd := by
  unfold Obligations.DmaDescriptorsRunToTheirEnd
  intro ch n s hn hs room
  refine ⟨?fetch, ?burst, ?complete, ?fails⟩
  case fetch =>
    intro a b hf ha lo hi he ok hb
    exact ⟨descriptorFetched ch n hn hs hf ha lo hi he ok b hb, descriptorRefused ch n hn hs room hf ha lo hi he ok b hb⟩
  case burst =>
    intro d l hd hf hh hb hl hr pos small _ hm hsf hdf hq hp srcLow srcHigh dstLow dstHigh apart he hi allowed
    exact dmaBurstCopies ch n hn hs d l hd hf hh hb hl hr pos small hm hsf hdf hq hp srcLow srcHigh dstLow dstHigh apart he hi allowed
  case complete =>
    intro d hd full hf hr hl hc hp
    exact ⟨descriptorEnds ch n hn hs room d hd full hf hr hl hc hp, descriptorChains ch n hn hs room d hd full hf hr hl hc hp⟩
  case fails =>
    intro e hf hh hr hb a ha
    exact ⟨dmaAddressFails ch n hn hs room e hf hh hr hb a ha, dmaReadTimesOut ch n hn hs room hf hh hr hb a ha,
      dmaWriteTimesOut ch n hn hs room hf hh hr hb a ha⟩

end Sys2Proof.Machine

/-!
PROOFS. What the operations on queues and stored packets leave (R129 to R144, R158 to R161), and the packets that pass the receive
checks, with what data packets do (O35).
-/

namespace Sys2Proof.Machine

variable {s t u : State} {as : List Nat} {a n m : Nat} {q : Requester} {d : Word}

/-! ### Frames -/

/-- `t` is `s` but for registers and events raised. -/
def State.reports (s t : State) : Prop := ∃ r l, t = { s with regs := r, raise := l }

theorem State.reports.refl (s : State) : s.reports s := ⟨_, _, rfl⟩

theorem State.reports.trans (h : s.reports t) (h' : t.reports u) : s.reports u := by
  obtain ⟨r, l, rfl⟩ := h
  obtain ⟨r', l', rfl⟩ := h'
  exact ⟨_, _, rfl⟩

theorem State.beside.reports (h : s.beside t) : s.reports t := by
  obtain ⟨r, rfl⟩ := h
  exact ⟨_, _, rfl⟩

theorem State.reports.setFld (h : s.reports t) (f : Fld) (v : Nat) : s.reports (t.setFld f v) :=
  h.trans ((State.beside.refl t).setFld f v).reports

theorem State.reports.wr (h : s.reports t) (a : Nat) (w : Word) : s.reports (t.wr a w) := h.trans ((State.beside.refl t).wr a w).reports

theorem State.reports.event (h : s.reports t) (code info : Nat) : s.reports (t.event code info) := by
  refine h.trans ?_
  unfold State.event
  split_ifs
  · exact State.reports.refl t
  · exact ⟨_, _, rfl⟩
  · exact (State.reports.refl t).setFld _ _

theorem State.reports.queues (h : s.reports t) : t.queues = s.queues := by
  obtain ⟨r, l, rfl⟩ := h
  rfl

theorem State.queue_congr (h : t.queues = s.queues) (n : Nat) : t.queue n = s.queue n := by rw [State.queue, h, State.queue]

/-- `t` is `s` but for registers, events raised and the store with its error code. -/
def State.stores (s t : State) : Prop := ∃ r l x e, t = { s with regs := r, raise := l, store := x, ecc := e }

theorem State.stores.refl (s : State) : s.stores s := ⟨_, _, _, _, rfl⟩

theorem State.stores.trans (h : s.stores t) (h' : t.stores u) : s.stores u := by
  obtain ⟨r, l, x, e, rfl⟩ := h
  obtain ⟨r', l', x', e', rfl⟩ := h'
  exact ⟨_, _, _, _, rfl⟩

theorem State.reports.stores (h : s.reports t) : s.stores t := by
  obtain ⟨r, l, rfl⟩ := h
  exact ⟨_, _, _, _, rfl⟩

/-- The registers in which the store's error code shows, and EVT_DROP (R158 to R161, R405). -/
def eccRegs : List Nat := [Reg.CST_ECC_CORR, Reg.CST_ECC_UNC, Reg.CST_ECC_LAST, Reg.CST_ECC_LAST_INFO, Reg.CST_ECC_INJ, Reg.EVT_DROP]

/-- What an access to the store changes: the store with its error code, the registers that show it, and events raised. -/
def State.accesses (s t : State) : Prop := s.stores t ∧ s.regsBut t eccRegs

theorem State.accesses.refl (s : State) : s.accesses s := ⟨State.stores.refl s, State.regsBut.refl s _⟩

theorem State.accesses.trans (h : s.accesses t) (h' : t.accesses u) : s.accesses u := ⟨h.1.trans h'.1, h.2.trans h'.2⟩

theorem State.accesses.of_memory {x e} (h : t = { s with store := x, ecc := e }) : s.accesses t := by
  subst h
  exact ⟨⟨_, _, _, _, rfl⟩, State.regsBut.of_regs rfl _⟩

theorem State.accesses.count (h : s.accesses t) {f : Fld} (n : Nat) (hf : f.addr ∈ eccRegs) : s.accesses (t.count f n) :=
  ⟨h.1.trans ((State.reports.refl t).setFld _ _).stores, h.2.count _ hf⟩

theorem State.accesses.setFld (h : s.accesses t) {f : Fld} (v : Nat) (hf : f.addr ∈ eccRegs) : s.accesses (t.setFld f v) :=
  ⟨h.1.trans ((State.reports.refl t).setFld _ _).stores, h.2.setFld _ hf⟩

theorem State.accesses.wr (h : s.accesses t) {a : Nat} (w : Word) (ha : a ∈ eccRegs) : s.accesses (t.wr a w) :=
  ⟨h.1.trans ((State.reports.refl t).wr _ _).stores, h.2.wr _ ha⟩

theorem State.accesses.event (h : s.accesses t) (code info : Nat) : s.accesses (t.event code info) :=
  ⟨h.1.trans ((State.reports.refl t).event _ _).stores, h.2.event _ _ (by simp [eccRegs])⟩

theorem State.checkWord_accesses (s : State) (w req : Nat) : s.accesses (s.checkWord w req).1 := by
  unfold State.checkWord
  split_ifs
  · exact ((State.accesses.of_memory (t := s.setEcc w 0) rfl).count _ (by simp [eccRegs])).event _ _
  · exact ((((State.accesses.refl s).count _ (by simp [eccRegs])).wr _ (by simp [eccRegs])).wr _ (by simp [eccRegs])).event _ _
  · exact State.accesses.refl s

theorem State.injectEcc_accesses (s : State) (w : Nat) : s.accesses (s.injectEcc w) := by
  unfold State.injectEcc
  split_ifs
  · exact (State.accesses.of_memory (t := s.setEcc w _) rfl).setFld _ (by simp [eccRegs])
  · exact State.accesses.refl s

theorem State.storeWriteWord_accesses (s : State) (a : Nat) (bs : List Byte) (req : Nat) : s.accesses (s.storeWriteWord a bs req).1 := by
  have read : s.accesses (if bs.length = 8 then (s, true) else s.checkWord (wordIndex a) req).1 := by
    split_ifs
    · exact State.accesses.refl s
    · exact s.checkWord_accesses _ _
  generalize hr : (if bs.length = 8 then (s, true) else s.checkWord (wordIndex a) req) = r at read
  have eq : s.storeWriteWord a bs req = if r.2 then ((((r.1.putStore a bs).setEcc (wordIndex a) 0).injectEcc (wordIndex a)), true) else (r.1, false) := by
    rw [← hr]
    rfl
  rw [eq]
  split_ifs
  · exact (read.trans (State.accesses.of_memory (t := (r.1.putStore a bs).setEcc (wordIndex a) 0) rfl)).trans (State.injectEcc_accesses _ _)
  · exact read

theorem State.storePut_accesses (s : State) (a : Nat) (bs : List Byte) (req : Nat) : s.accesses (s.storePut a bs req) := by
  unfold State.storePut State.storeWrite
  generalize splitWords bs.length a bs = l
  have fold (l : List (Nat × List Byte)) (r : State × Bool) : r.1.accesses (l.foldl (fun r c =>
      let r' := r.1.storeWriteWord c.1 c.2 req
      (r'.1, r.2 && r'.2)) r).1 := by
    induction l generalizing r with
    | nil => exact State.accesses.refl _
    | cons c l ih => exact (State.storeWriteWord_accesses _ _ _ _).trans (ih _)
  exact fold l (s, true)

/-! ### Queues (R129 to R144) -/

/-- What storing or consuming packets of queue `n` shows in registers, events beside it, and nothing else (R135, R141). -/
theorem State.relevel_reports (s : State) (n : Nat) : s.reports (s.relevel n) := by
  unfold State.relevel
  dsimp only
  split_ifs
  · exact ((((State.reports.refl s).setFld _ _).setFld _ _).setFld _ _).event _ _
  · exact (State.reports.refl s).setFld _ _

theorem State.relevel_regsBut (s : State) (n : Nat) : s.regsBut (s.relevel n) [Reg.QUE_LEVELn n, Reg.QUE_WMn n, Reg.QUE_COUNTn n, Reg.EVT_DROP] := by
  have level : s.regsBut (s.setFld (Fld.QUE_LEVELn_LIVE n) (s.queue n).occupancy) [Reg.QUE_LEVELn n, Reg.QUE_WMn n, Reg.QUE_COUNTn n, Reg.EVT_DROP] :=
    (State.regsBut.refl s _).setFld _ (by simp)
  unfold State.relevel
  dsimp only
  split_ifs
  · exact ((level.setFld _ (by simp)).count _ (by simp)).event _ _ (by simp)
  · exact level

/-- A queue without a watermark shows its occupancy, and nothing else happens (R141). -/
theorem State.relevel_unmarked (h : s.fld (Fld.QUE_WMn_LEVEL n) = 0) : s.relevel n = s.setFld (Fld.QUE_LEVELn_LIVE n) (s.queue n).occupancy := by
  rw [State.relevel, if_neg (by simp [h])]

/-- Credits return to queue `n` alone, which keeps its packets. -/
theorem State.grant_queue_ne (s : State) (c : Nat) (h : m ≠ n) : (s.grant n c).queue m = s.queue m := by
  unfold State.grant
  split_ifs
  · rfl
  · exact State.queue_setQueue_ne _ _ h
  · exact State.queue_setQueue_ne _ _ h
  · rfl

/-- What a queue keeps while its credits return. -/
def QueueState.held (x y : QueueState) : Prop := ∃ r b, y = { x with released := r, dirty := b }

theorem State.grant_queue_same (s : State) (n c : Nat) : (s.queue n).held ((s.grant n c).queue n) := by
  unfold State.grant
  split_ifs
  · exact ⟨_, _, rfl⟩
  · exact ⟨_, _, State.queue_setQueue_same _ _ _⟩
  · exact ⟨_, _, State.queue_setQueue_same _ _ _⟩
  · exact ⟨_, _, rfl⟩

theorem State.grant_frame (s : State) (n c : Nat) : ∃ r x, s.grant n c = { s with regs := r, queues := x } := by
  unfold State.grant
  split_ifs
  all_goals exact ⟨_, _, rfl⟩

theorem State.grant_regsBut (s : State) (n c : Nat) : s.regsBut (s.grant n c) [Reg.QUE_GRANTn n] := by
  unfold State.grant
  split_ifs
  · exact State.regsBut.refl s _
  · exact (((State.regsBut.refl s _).setFld (f := Fld.QUE_GRANTn_TOTAL n) (s.fld (Fld.QUE_GRANTn_TOTAL n) + c) (by simp)).congr rfl)
  · exact State.regsBut.of_regs rfl _
  · exact State.regsBut.refl s _

theorem State.accesses.foldl {α : Type} {f : State → α → State} (hf : ∀ v x, State.accesses v (f v x)) (l : List α) (s : State) : s.accesses (l.foldl f s) := by
  induction l generalizing s with
  | nil => exact State.accesses.refl s
  | cons x l ih => exact (hf s x).trans (ih _)

/-- A packet goes into blocks of its region; of the link only the turn of the block choice changes (R155). -/
theorem State.storePacket_accesses (s : State) (n : Nat) (p : List Byte) (req : Nat) :
    ∃ t, State.accesses { s with link := { s.link with turn := t } } (s.storePacket n p req).1 := by
  unfold State.storePacket
  split
  · exact ⟨_, State.accesses.foldl (fun v x => State.storePut_accesses v _ _ _) _ _⟩
  · exact ⟨s.link.turn, State.accesses.refl s⟩

/-- The packet that queue `n` of `s` takes. -/
def State.arriving (s : State) (n : Nat) (p : List Byte) (air serial req : Nat) (after : List AfterMga) : StoredPkt :=
  ⟨p, false, air, serial, (s.storePacket n p req).2, after⟩

/-- What storing a packet leaves: the queues but its own, the registers but those of its queue and of the error code, and, of the link, all
but the turn of the block choice. -/
theorem State.putPacket_puts (s : State) (n : Nat) (p : List Byte) (air serial req : Nat) (after : List AfterMga) (t : State)
    (ht : t = s.putPacket n p air serial req after) :
    t.queue n = { s.queue n with pkts := (s.queue n).pkts ++ [s.arriving n p air serial req after] } ∧ (∀ m, m ≠ n → t.queue m = s.queue m) ∧
      (∃ r q l x e k, t = { s with regs := r, queues := q, raise := l, store := x, ecc := e, link := { s.link with turn := k } }) ∧
      s.regsBut t (eccRegs ++ [Reg.QUE_LEVELn n, Reg.QUE_WMn n, Reg.QUE_COUNTn n]) := by
  obtain ⟨k, stored, regs⟩ := s.storePacket_accesses n p req
  unfold State.putPacket at ht
  simp only [State.arriving]
  generalize s.storePacket n p req = r at *
  obtain ⟨v, blocks⟩ := r
  dsimp only at *
  have queues : v.queues = s.queues := by
    obtain ⟨r, l, x, e, rfl⟩ := stored
    rfl
  have shown := State.relevel_reports (v.setQueue n { v.queue n with pkts := (v.queue n).pkts ++ [⟨p, false, air, serial, blocks, after⟩] }) n
  have kept := State.relevel_regsBut (v.setQueue n { v.queue n with pkts := (v.queue n).pkts ++ [⟨p, false, air, serial, blocks, after⟩] }) n
  rw [← ht] at shown kept
  refine ⟨?_, fun m hm => ?_, ?_, fun a ha => (kept a ?_).trans (regs a ?_)⟩
  · rw [State.queue_congr shown.queues, State.queue_setQueue_same, State.queue_congr queues]
  · rw [State.queue_congr shown.queues, State.queue_setQueue_ne _ _ hm, State.queue_congr queues]
  · obtain ⟨r, l, shown⟩ := shown
    obtain ⟨r', l', x, e, rfl⟩ := stored
    rw [shown]
    exact ⟨_, _, _, _, _, _, rfl⟩
  · simp only [eccRegs, List.mem_append, List.mem_cons, List.not_mem_nil, or_false, not_or] at ha ⊢
    tauto
  · simp only [List.mem_append, not_or] at ha
    exact ha.1

/-! ### A packet that passes the receive checks (R127, R131) -/

section
variable {k : Nat} {p : List Byte} {ty : Nat} {bs : List Byte}

/-- The state that judges a packet: its framing holds. -/
def State.framed (s : State) (k : Nat) : State := s.setFramingLost k false

theorem State.receive_accepts (h : (s.receive k false false p).2 = true) :
    s.framingLost k = false ∧ (s.linkIs lnkRollCall = true ∨ s.linkIs lnkActive = true) ∧
      s.receive k false false p = (s.framed k).checkPkt k p ∧ ((s.framed k).checkPkt k p).2 = true := by
  unfold State.receive at h ⊢
  by_cases hs : (!(s.linkIs lnkRollCall || s.linkIs lnkActive)) = true
  · rw [if_pos hs] at h
    cases h
  by_cases hl : (s.framingLost k && !false) = true
  · rw [if_neg hs, if_pos hl] at h
    cases h
  rw [if_neg hs, if_neg hl] at h ⊢
  dsimp only at h ⊢
  by_cases hf : (framingBad p || false) = true
  · rw [if_pos hf] at h
    cases h
  by_cases ht : (!trailerOk p) = true
  · rw [if_neg hf, if_pos ht] at h
    cases h
  rw [if_neg hf, if_neg ht] at h ⊢
  exact ⟨by simpa using hl, by simpa [or_iff_not_imp_left] using hs, rfl, h⟩

/-- The packet names an inbound queue in use. -/
def State.queued (s : State) (p : List Byte) : Bool :=
  !linkControl (pktType p) && queueInbound (pktQueue p) && (s.queue (pktQueue p)).use

/-- The credits of a packet that names an inbound queue in use are counted (R134). -/
def State.account (s : State) (p : List Byte) : State :=
  if s.queued p then s.countWrap (Fld.QUE_CONSn_TOTAL (pktQueue p)) (creditsOf (pktLen p)) else s

theorem State.checkPkt_eq (s : State) (k : Nat) (p : List Byte) : s.checkPkt k p =
    let n := pktQueue p
    let c := if s.queued p then creditsOf (pktLen p) else 0
    if !(s.account p).wellFormedPkt k p then
      ((((s.account p).count Fld.QUE_MISC_MALFORMED 1).event 0x2A (pktType p + 256 * n + 65536 * k)).grant n c, false)
    else if !s.queued p then (s.account p, true)
    else if dataType (pktType p) && pktLen p == 0 then (((s.account p).count (Fld.QUE_DROPBn_ZERO_LEN n) 1).grant n c, false)
    else if s.creditLeft n < (c : Int) then (((s.account p).count (Fld.QUE_DROPAn_NOCREDIT n) 1).event 0x24 n, false)
    else if ((s.account p).checkSeq k p).2 then (((s.account p).checkSeq k p).1, true)
    else ((((s.account p).checkSeq k p).1.count (Fld.QUE_DROPBn_STALE n) 1).grant n c, false) := by
  unfold State.checkPkt
  dsimp only
  rw [show (!linkControl (pktType p) && queueInbound (pktQueue p) && (s.queue (pktQueue p)).use) = s.queued p from rfl]
  cases hq : s.queued p with
  | true => simp only [State.account, hq, if_true]
  | false => simp only [State.account, hq, Bool.false_eq_true, if_false]

theorem State.checkPkt_accepts (h : (s.checkPkt k p).2 = true) :
    (s.account p).wellFormedPkt k p = true ∧
      ((s.queued p = false ∧ s.checkPkt k p = (s.account p, true)) ∨
        (s.queued p = true ∧ ((s.account p).checkSeq k p).2 = true ∧ s.checkPkt k p = (((s.account p).checkSeq k p).1, true))) := by
  rw [State.checkPkt_eq] at h ⊢
  dsimp only at h ⊢
  by_cases hw : (!(s.account p).wellFormedPkt k p) = true
  · rw [if_pos hw] at h
    cases h
  rw [if_neg hw] at h ⊢
  have well : (s.account p).wellFormedPkt k p = true := by simpa using hw
  by_cases hq : (!s.queued p) = true
  · rw [if_pos hq]
    exact ⟨well, .inl ⟨by simpa using hq, rfl⟩⟩
  rw [if_neg hq] at h ⊢
  by_cases hz : (dataType (pktType p) && pktLen p == 0) = true
  · rw [if_pos hz] at h
    cases h
  rw [if_neg hz] at h ⊢
  by_cases hc : s.creditLeft (pktQueue p) < ((if s.queued p then creditsOf (pktLen p) else 0 : Nat) : Int)
  · rw [if_pos hc] at h
    cases h
  rw [if_neg hc] at h ⊢
  by_cases hs : ((s.account p).checkSeq k p).2 = true
  · rw [if_pos hs]
    exact ⟨well, .inr ⟨by simpa using hq, hs, rfl⟩⟩
  · rw [if_neg hs] at h
    cases h

/-- Only the partner's types are well formed, so a packet judged as it stands is not. -/
theorem State.wellFormedPkt_partner (h : s.wellFormedPkt k p = true) : pktType p ∈ partnerTypes := by
  unfold State.wellFormedPkt at h
  dsimp only at h
  split_ifs at h with hr hc
  · simp only [Bool.and_eq_true, beq_iff_eq] at h
    rw [h.1]
    decide
  · simp only [linkControl, Bool.or_eq_true, beq_iff_eq] at hc
    rcases hc with (hc | hc) | hc
    all_goals rw [hc]; decide
  · simp only [Bool.and_eq_true] at h
    have takes : takesType (pktQueue p) (pktType p) = true := by tauto
    unfold takesType at takes
    split_ifs at takes with h1 h2 h3 h4 h5
    · rw [h1]; decide
    · rw [h2]; decide
    · rw [h3]; decide
    · rw [h4]; decide
    · rw [h5]; decide

theorem State.wellFormedPkt_takes (h : s.wellFormedPkt k p = true) (hc : linkControl (pktType p) = false) :
    takesType (pktQueue p) (pktType p) = true ∧ (s.queue (pktQueue p)).use = true := by
  unfold State.wellFormedPkt at h
  dsimp only at h
  split_ifs at h with hr hl
  · simp only [Bool.and_eq_true, beq_iff_eq] at h
    rw [h.1] at hc
    cases hc
  · rw [hc] at hl
    cases hl
  · simp only [Bool.and_eq_true] at h
    tauto

/-- A packet that arrives for a command of a partner's type and is well formed has that type. -/
theorem pktType_typed (ht : ty ∈ partnerTypes) (h : pktType (typed ty bs) ∈ partnerTypes) : pktType (typed ty bs) = ty := by
  have small : ty < 256 := by
    simp only [partnerTypes, List.mem_cons, List.not_mem_nil, or_false] at ht
    omega
  unfold typed at h ⊢
  split_ifs at h ⊢ with hp
  · simp [pktType, fieldAt, bytesAt, leNat, Nat.mod_eq_of_lt small]
  · exact absurd (List.contains_iff_mem.2 h) hp

theorem QueueState.doomed_setExpect (x : QueueState) (k v : Nat) : (x.setExpect k v).doomed = x.doomed := by
  unfold QueueState.setExpect
  split_ifs
  · rfl
  · rfl

theorem State.checkSeq_doomed (s : State) (k : Nat) (p : List Byte) (m : Nat) : ((s.checkSeq k p).1.queue m).doomed = (s.queue m).doomed := by
  have next (v : State) (hv : v.queues = s.queues) (x : Nat) :
      ((v.setQueue (pktQueue p) ((v.queue (pktQueue p)).setExpect k x)).queue m).doomed = (s.queue m).doomed := by
    rw [← State.queue_congr hv m]
    by_cases hm : m = pktQueue p
    · subst hm
      rw [State.queue_setQueue_same, QueueState.doomed_setExpect]
    · rw [State.queue_setQueue_ne _ _ hm]
  unfold State.checkSeq
  dsimp only
  split
  · exact next s rfl _
  · split_ifs
    · exact next s rfl _
    · exact next _ (((State.reports.refl s).setFld _ _).event _ _).queues _
    · rfl

theorem State.account_queues (s : State) (p : List Byte) : (s.account p).queues = s.queues := by
  unfold State.account
  split_ifs
  · rfl
  · rfl

theorem State.checkPkt_doomed (h : (s.checkPkt k p).2 = true) (m : Nat) : ((s.checkPkt k p).1.queue m).doomed = (s.queue m).doomed := by
  obtain ⟨-, ⟨-, eq⟩ | ⟨-, -, eq⟩⟩ := State.checkPkt_accepts h
  · rw [eq, State.queue_congr (s.account_queues p)]
  · rw [eq]
    exact (State.checkSeq_doomed _ _ _ _).trans (congrArg QueueState.doomed (State.queue_congr (s.account_queues p) m))

/-- The packet that passes the checks has its command's type, is not link-control outside of CAP in ROLL_CALL, and finds its queue in use. -/
theorem State.receive_typed (ht : ty ∈ partnerTypes) (h : (s.receive k false false (typed ty bs)).2 = true) : pktType (typed ty bs) = ty := by
  obtain ⟨-, -, -, ok⟩ := State.receive_accepts h
  exact pktType_typed ht (State.wellFormedPkt_partner (State.checkPkt_accepts ok).1)

/-- A packet of a queue that passes the checks names the queue of its type. -/
theorem State.receive_takes (ht : ty ∈ partnerTypes) (hc : linkControl ty = false) (h : (s.receive k false false (typed ty bs)).2 = true) :
    takesType (pktQueue (typed ty bs)) ty = true := by
  have type := State.receive_typed ht h
  obtain ⟨-, -, -, ok⟩ := State.receive_accepts h
  have takes := (State.wellFormedPkt_takes (State.checkPkt_accepts ok).1 (by rw [type]; exact hc)).1
  rwa [type] at takes

/-- A link-control packet that passes the checks leaves the state as it is, its framing found. -/
theorem State.receive_control (ht : ty ∈ partnerTypes) (hc : linkControl ty = true) (h : (s.receive k false false (typed ty bs)).2 = true) :
    (s.receive k false false (typed ty bs)).1 = s.framed k := by
  have type := State.receive_typed ht h
  obtain ⟨-, -, eq, ok⟩ := State.receive_accepts h
  have free : (s.framed k).queued (typed ty bs) = false := by rw [State.queued, type, hc]; rfl
  rw [eq]
  obtain ⟨-, ⟨-, eq⟩ | ⟨queued, -⟩⟩ := State.checkPkt_accepts ok
  · rw [eq, State.account, free]
    rfl
  · rw [free] at queued
    cases queued

theorem State.receive_doomed (h : (s.receive k false false p).2 = true) (m : Nat) :
    ((s.receive k false false p).1.queue m).doomed = (s.queue m).doomed := by
  obtain ⟨-, -, eq, ok⟩ := State.receive_accepts h
  rw [eq]
  exact (State.checkPkt_doomed ok m).trans rfl

/-- What an accepted packet does, where no flush waits for its end. -/
theorem State.onAccept_accepted (hd : ∀ n < 12, k ∉ (s.queue n).doomed) (h : (s.receive k false false p).2 = true)
    (hp : linkControl (pktType p) = true ∨ pktQueue p < 12) (f : State → State) (hf : ∀ n < 12, k ∉ ((f (s.receive k false false p).1).queue n).doomed) :
    s.onAccept k false false p f = f (s.receive k false false p).1 := by
  obtain ⟨framing, -⟩ := State.receive_accepts h
  have free : (!linkControl (pktType p) && (s.queue (pktQueue p)).doomed.contains k) = false := by
    rcases hp with hp | hp
    · rw [hp]
      rfl
    · simpa using fun _ => hd _ hp
  simp only [State.onAccept, framing, Bool.false_and, Bool.false_eq_true, if_false, h, if_true, free]
  exact State.endReception_none hf

theorem takesType_lt (h : takesType n ty = true) : n < 12 := by
  unfold takesType at h
  split_ifs at h
  all_goals
    simp only [decide_eq_true_eq, beq_iff_eq] at h
    omega

/-- An accepted packet of a queue has its command's effect on the state that the checks leave. -/
theorem State.onAccept_queued (ht : ty ∈ partnerTypes) (hc : linkControl ty = false) (hd : ∀ n < 12, k ∉ (s.queue n).doomed)
    (h : (s.receive k false false (typed ty bs)).2 = true) (f : State → State)
    (hf : ∀ m, ((f (s.receive k false false (typed ty bs)).1).queue m).doomed = ((s.receive k false false (typed ty bs)).1.queue m).doomed) :
    s.onAccept k false false (typed ty bs) f = f (s.receive k false false (typed ty bs)).1 :=
  State.onAccept_accepted hd h (.inr (takesType_lt (State.receive_takes ht hc h))) f fun n hn => by
    rw [hf, State.receive_doomed h]
    exact hd n hn

theorem State.onAccept_control (ht : ty ∈ partnerTypes) (hc : linkControl ty = true) (hd : ∀ n < 12, k ∉ (s.queue n).doomed)
    (h : (s.receive k false false (typed ty bs)).2 = true) (f : State → State)
    (hf : ∀ m, ((f (s.receive k false false (typed ty bs)).1).queue m).doomed = ((s.receive k false false (typed ty bs)).1.queue m).doomed) :
    s.onAccept k false false (typed ty bs) f = f (s.receive k false false (typed ty bs)).1 :=
  State.onAccept_accepted hd h (.inl (by rw [State.receive_typed ht h]; exact hc)) f fun n hn => by
    rw [hf, State.receive_doomed h]
    exact hd n hn

end

/-! ### Packets that are held for their symbol (R199, R207, R212) -/

section
variable {k : Nat} {p : List Byte} {a : Int}

/-- The packet that queue `n` of `s` holds for air time `a`. -/
def State.heldPkt (s : State) (n : Nat) (p : List Byte) (a : Nat) : StoredPkt :=
  ⟨bytesAt p 0 (16 + pktLen p), false, a, s.sect.serial, (s.storePacket n (bytesAt p 0 (16 + pktLen p)) reqLinkIn).2, []⟩

/-- What holding a packet leaves. -/
theorem State.hold_holds (s : State) (n : Nat) (p : List Byte) (a : Nat) (t : State) (ht : t = s.hold n p a) :
    t.queue n = { s.queue n with pkts := (s.queue n).pkts ++ [s.heldPkt n p a] } ∧ (∀ m, m ≠ n → t.queue m = s.queue m) ∧
      (∃ r q l x e k, t = { s with regs := r, queues := q, raise := l, store := x, ecc := e, link := { s.link with turn := k }, sect :=
        { s.sect with serial := s.sect.serial + 1 } }) ∧
      s.regsBut t (eccRegs ++ [Reg.QUE_LEVELn n, Reg.QUE_WMn n, Reg.QUE_COUNTn n]) := by
  obtain ⟨this, others, frame, regs⟩ := s.putPacket_puts n (bytesAt p 0 (16 + pktLen p)) a s.sect.serial reqLinkIn [] _ rfl
  unfold State.hold at ht
  dsimp only at ht
  generalize s.putPacket n (bytesAt p 0 (16 + pktLen p)) a s.sect.serial reqLinkIn [] = v at *
  have queues : t.queues = v.queues := by rw [ht]
  have rd (x : Nat) : t.rd x = v.rd x := by rw [ht]; rfl
  refine ⟨(State.queue_congr queues n).trans this, fun m hm => (State.queue_congr queues m).trans (others m hm), ?_, fun x hx => (rd x).trans (regs x hx)⟩
  obtain ⟨r, q, l, x, e, k, rfl⟩ := frame
  exact ⟨_, _, _, _, _, _, ht⟩

theorem State.checkArrival_inTime (hl : s.time.everLocked = true) (early : a - s.tEarly ≤ s.air) (late : (s.air : Int) ≤ a - s.tLate) (n c : Nat) :
    s.checkArrival n c a = (s, true) := by
  simp only [State.checkArrival, hl, Bool.not_true, Bool.false_eq_true, if_false, if_neg (Int.not_lt.2 early), if_neg (Int.not_lt.2 late)]

theorem State.checkArrival_late (hl : s.time.everLocked = true) (early : a - s.tEarly ≤ s.air) (late : a - s.tLate < (s.air : Int)) (n c : Nat) :
    s.checkArrival n c a =
      (((s.count (Fld.ATM_ARRq_LATE n) 1).event 0x53 (n + 65536 * ticksToUs (s.air - (a - s.tLate)))).grant n c, false) := by
  simp only [State.checkArrival, hl, Bool.not_true, Bool.false_eq_true, if_false, if_neg (Int.not_lt.2 early), if_pos late]

theorem State.arrive_inTime (hl : s.time.everLocked = true) (early : a - s.tEarly ≤ s.air) (late : (s.air : Int) ≤ a - s.tLate) (n : Nat)
    (named : State → Nat → State) (unnamed : State → State) : s.arrive n p (some a) named unnamed = named s a.toNat := by
  simp only [State.arrive, State.checkArrival_inTime hl early late, if_true]

theorem State.arrive_late (hl : s.time.everLocked = true) (early : a - s.tEarly ≤ s.air) (late : a - s.tLate < (s.air : Int)) (n : Nat)
    (named : State → Nat → State) (unnamed : State → State) : s.arrive n p (some a) named unnamed =
      ((s.count (Fld.ATM_ARRq_LATE n) 1).event 0x53 (n + 65536 * ticksToUs (s.air - (a - s.tLate)))).grant n (creditsOf (pktLen p)) := by
  simp only [State.arrive, State.checkArrival_late hl early late, Bool.false_eq_true, if_false]

/-- The frame of a packet that is held: queues of its own alone, and of the link the turn of the block choice. -/
theorem heldFrame {x : State} (h : ∃ r q l m e k, t = { x with regs := r, queues := q, raise := l, store := m, ecc := e, link := { x.link with turn := k }, sect :=
    { x.sect with serial := x.sect.serial + 1 } }) :
    t.sect = { x.sect with serial := x.sect.serial + 1 } ∧ t.link = { x.link with turn := t.link.turn } ∧
      t = { x with regs := t.regs, queues := t.queues, sect := t.sect, raise := t.raise, store := t.store, ecc := t.ecc, link := t.link } := by
  obtain ⟨r, q, l, m, e, k, rfl⟩ := h
  exact ⟨rfl, rfl, rfl⟩

end

theorem QueueState.doomed_held {x : QueueState} {ps : List StoredPkt} : ({ x with pkts := ps } : QueueState).doomed = x.doomed := rfl

theorem doomed_of_held {x y : State} {n : Nat} {ps : List StoredPkt} (this : x.queue n = { y.queue n with pkts := ps }) (others : ∀ m, m ≠ n → x.queue m = y.queue m)
    (m : Nat) : (x.queue m).doomed = (y.queue m).doomed := by
  by_cases hm : m = n
  · rw [hm, this]
  · rw [others m hm]

/-! ### What a held or late DLD leaves -/

theorem dldIsHeld (k : Fin 2) (bs : List Byte) (hd : ∀ n < 12, k.val ∉ (s.queue n).doomed) (p : List Byte) (hp : p = typed tyDld bs) (u : State)
    (hu : u = (s.receive k.val false false p).1) (n : Nat) (hn : n = pktQueue p) (ok : (s.receive k.val false false p).2 = true)
    (hl : u.time.everLocked = true) (a : Int) (ha : (u.locate [false] n p).2 = some a) (early : a - u.tEarly ≤ u.air) (late : (u.air : Int) ≤ a - u.tLate) :
    ∃ t, exec (.dldReceive k false false bs) s = .next t ∧
      (t.queue n).pkts = (u.queue n).pkts ++ [⟨bytesAt p 0 (16 + pktLen p), false, a.toNat, u.sect.serial, (u.storePacket n (bytesAt p 0 (16 + pktLen p)) reqLinkIn).2, []⟩] ∧
      (∀ m, m ≠ n → t.queue m = u.queue m) ∧
      t.sect = { u.sect with serial := u.sect.serial + 1 } ∧ t.link = { u.link with turn := t.link.turn } ∧
      t = { u with regs := t.regs, queues := t.queues, sect := t.sect, raise := t.raise, store := t.store, ecc := t.ecc, link := t.link } := by
  subst hp
  obtain ⟨this, others, frame, -⟩ := u.hold_holds n (typed tyDld bs) a.toNat _ rfl
  have run : exec (.dldReceive k false false bs) s = .next (s.onAccept k.val false false (typed tyDld bs) (fun s =>
      s.arrive (pktQueue (typed tyDld bs)) (typed tyDld bs) (s.locate [false] (pktQueue (typed tyDld bs)) (typed tyDld bs)).2
        (fun s a => s.hold (pktQueue (typed tyDld bs)) (typed tyDld bs) a)
        (fun s => s.dldDiscard 1 (pktQueue (typed tyDld bs)) (pktSub (typed tyDld bs))))) := rfl
  have effect : u.arrive n (typed tyDld bs) (u.locate [false] n (typed tyDld bs)).2 (fun s a => s.hold n (typed tyDld bs) a)
      (fun s => s.dldDiscard 1 n (pktSub (typed tyDld bs))) = u.hold n (typed tyDld bs) a.toNat := by
    rw [ha]
    exact State.arrive_inTime hl early late _ _ _
  rw [← hn, State.onAccept_queued (by decide) (by decide) hd ok _ (by
    rw [← hu, effect]
    exact doomed_of_held this others), ← hu, effect] at run
  obtain ⟨sect, link, same⟩ := heldFrame frame
  exact ⟨_, run, congrArg QueueState.pkts this, others, sect, link, same⟩

theorem State.grant_doomed (s : State) (n c m : Nat) : ((s.grant n c).queue m).doomed = (s.queue m).doomed ∧ ((s.grant n c).queue m).pkts = (s.queue m).pkts := by
  by_cases hm : m = n
  · subst hm
    obtain ⟨r, b, same⟩ := s.grant_queue_same m c
    rw [same]
    exact ⟨rfl, rfl⟩
  · rw [s.grant_queue_ne c hm]
    exact ⟨rfl, rfl⟩

theorem dldIsLate (k : Fin 2) (bs : List Byte) (hd : ∀ n < 12, k.val ∉ (s.queue n).doomed) (p : List Byte) (hp : p = typed tyDld bs) (u : State)
    (hu : u = (s.receive k.val false false p).1) (n : Nat) (hn : n = pktQueue p) (ok : (s.receive k.val false false p).2 = true)
    (hl : u.time.everLocked = true) (a : Int) (ha : (u.locate [false] n p).2 = some a) (early : a - u.tEarly ≤ u.air) (late : a - u.tLate < (u.air : Int))
    (room : u.raiseRoom 2) :
    ∃ t, exec (.dldReceive k false false bs) s = .next t ∧
      t.fld (Fld.ATM_ARRq_LATE n) = min 65535 (u.fld (Fld.ATM_ARRq_LATE n) + 1) ∧ (t.queue n).pkts = (u.queue n).pkts ∧
      u.occurrence 0x53 (n + 65536 * ticksToUs (u.air - (a - u.tLate))) ∈ t.raise ∧ t.sect = u.sect := by
  subst hp
  have small : n < 12 := hn ▸ takesType_lt (State.receive_takes (by decide) (by decide) ok)
  have run : exec (.dldReceive k false false bs) s = .next (s.onAccept k.val false false (typed tyDld bs) (fun s =>
      s.arrive (pktQueue (typed tyDld bs)) (typed tyDld bs) (s.locate [false] (pktQueue (typed tyDld bs)) (typed tyDld bs)).2
        (fun s a => s.hold (pktQueue (typed tyDld bs)) (typed tyDld bs) a)
        (fun s => s.dldDiscard 1 (pktQueue (typed tyDld bs)) (pktSub (typed tyDld bs))))) := rfl
  have counted := u.fld_count_same (Fld.ATM_ARRq_LATE n) 1 (by simp)
  have effect : u.arrive n (typed tyDld bs) (u.locate [false] n (typed tyDld bs)).2 (fun s a => s.hold n (typed tyDld bs) a)
      (fun s => s.dldDiscard 1 n (pktSub (typed tyDld bs))) =
      State.grant { u.count (Fld.ATM_ARRq_LATE n) 1 with raise := u.raise ++ [u.occurrence 0x53 (n + 65536 * ticksToUs (u.air - (a - u.tLate)))] }
        n (creditsOf (pktLen (typed tyDld bs))) := by
    rw [ha, State.arrive_late hl early late]
    rw [State.event_raiseRoom (s := u.count (Fld.ATM_ARRq_LATE n) 1) (room.congr rfl rfl) (by decide)]
    rfl
  have queues : ({ u.count (Fld.ATM_ARRq_LATE n) 1 with raise := u.raise ++ [u.occurrence 0x53 (n + 65536 * ticksToUs (u.air - (a - u.tLate)))] } :
    State).queues = u.queues := rfl
  have shown := (State.fld_withRaise (u.count (Fld.ATM_ARRq_LATE n) 1) (u.raise ++ [u.occurrence 0x53 (n + 65536 * ticksToUs (u.air - (a - u.tLate)))])
    (Fld.ATM_ARRq_LATE n)).trans counted
  have raised : u.occurrence 0x53 (n + 65536 * ticksToUs (u.air - (a - u.tLate))) ∈ ({ u.count (Fld.ATM_ARRq_LATE n) 1 with raise :=
    u.raise ++ [u.occurrence 0x53 (n + 65536 * ticksToUs (u.air - (a - u.tLate)))] } : State).raise := List.mem_append_right _ List.mem_cons_self
  have sect : ({ u.count (Fld.ATM_ARRq_LATE n) 1 with raise := u.raise ++ [u.occurrence 0x53 (n + 65536 * ticksToUs (u.air - (a - u.tLate)))] } :
    State).sect = u.sect := rfl
  generalize ({ u.count (Fld.ATM_ARRq_LATE n) 1 with raise := u.raise ++ [u.occurrence 0x53 (n + 65536 * ticksToUs (u.air - (a - u.tLate)))] } :
    State) = v at *
  have held (m : Nat) := v.grant_doomed n (creditsOf (pktLen (typed tyDld bs))) m
  rw [← hn, State.onAccept_queued (by decide) (by decide) hd ok _ (by
    intro m
    rw [← hu, effect, (held m).1, State.queue_congr queues]), ← hu, effect] at run
  have regs := v.grant_regsBut n (creditsOf (pktLen (typed tyDld bs)))
  obtain ⟨r, x, frame⟩ := v.grant_frame n (creditsOf (pktLen (typed tyDld bs)))
  refine ⟨_, run, ?_, ?_, ?_, ?_⟩
  · rw [regs.fld _ (by simp only [List.mem_cons, List.not_mem_nil, or_false, Reg.ATM_ARRq, Reg.QUE_GRANTn]; omega)]
    exact shown
  · rw [(held n).2, State.queue_congr queues]
  · rw [frame]
    exact raised
  · rw [frame]
    exact sect

theorem wgtIsHeld (k : Fin 2) (bs : List Byte) (hd : ∀ n < 12, k.val ∉ (s.queue n).doomed) (p : List Byte) (hp : p = typed tyWgt bs) (u : State)
    (hu : u = (s.receive k.val false false p).1) (ok : (s.receive k.val false false p).2 = true)
    (hl : u.time.everLocked = true) (slot : pktSlot p < slotsPerFrame u.time.scs) (good : wgtBad (pktPayload p) (pktLen p) = false)
    (a : Int) (ha : a = resolveAir u.time.scs (pktSfn p) (pktSlot p) 0 u.air) (early : a - u.tEarly ≤ u.air) (late : (u.air : Int) ≤ a - u.tLate) :
    ∃ t, exec (.wgtReceive k false false bs) s = .next t ∧
      (t.queue 9).pkts = (u.queue 9).pkts ++ [⟨bytesAt p 0 (16 + pktLen p), false, a.toNat, u.sect.serial, (u.storePacket 9 (bytesAt p 0 (16 + pktLen p)) reqLinkIn).2, []⟩] ∧
      (∀ m, m ≠ 9 → t.queue m = u.queue m) ∧
      t.sect = { u.sect with serial := u.sect.serial + 1 } ∧ t.link = { u.link with turn := t.link.turn } ∧
      t = { u with regs := t.regs, queues := t.queues, sect := t.sect, raise := t.raise, store := t.store, ecc := t.ecc, link := t.link } := by
  subst hp
  obtain ⟨this, others, frame, -⟩ := u.hold_holds 9 (typed tyWgt bs) a.toNat _ rfl
  have run : exec (.wgtReceive k false false bs) s = .next (s.onAccept k.val false false (typed tyWgt bs) (fun s =>
      s.arrive 9 (typed tyWgt bs) (if slotsPerFrame s.time.scs ≤ pktSlot (typed tyWgt bs) then none else
        some (resolveAir s.time.scs (pktSfn (typed tyWgt bs)) (pktSlot (typed tyWgt bs)) 0 s.air))
        (fun s a => if wgtBad (pktPayload (typed tyWgt bs)) (pktLen (typed tyWgt bs)) then (s.secInvalid 1 0 0 1).grant 9 (creditsOf (pktLen (typed tyWgt bs)))
          else s.hold 9 (typed tyWgt bs) a)
        (fun s => s.secInvalid 1 0 0 1))) := rfl
  simp only [good, Bool.false_eq_true, if_false] at run
  have effect : u.arrive 9 (typed tyWgt bs) (if slotsPerFrame u.time.scs ≤ pktSlot (typed tyWgt bs) then none else
      some (resolveAir u.time.scs (pktSfn (typed tyWgt bs)) (pktSlot (typed tyWgt bs)) 0 u.air)) (fun s a => s.hold 9 (typed tyWgt bs) a)
      (fun s => s.secInvalid 1 0 0 1) = u.hold 9 (typed tyWgt bs) a.toNat := by
    rw [if_neg (by omega), ← ha]
    exact State.arrive_inTime hl early late _ _ _
  rw [State.onAccept_queued (by decide) (by decide) hd ok _ (by
    rw [← hu, effect]
    exact doomed_of_held this others), ← hu, effect] at run
  obtain ⟨sect, link, same⟩ := heldFrame frame
  exact ⟨_, run, congrArg QueueState.pkts this, others, sect, link, same⟩

/-! ### A SEC with one section (R207, R208) -/

theorem State.takeSec_one {p : List Byte} {m a : Nat} (len : pktLen p = 20) (count : fieldAt (pktPayload p) 2 2 = 1) (nsym : fieldAt (pktPayload p) 0 1 ≤ 1)
    (zero : fieldAt (pktPayload p) 1 1 = 0) (sym : pktSymbol p ≤ 13) (whole : airOf m (frameOf a) (symbolOf m a) = a) (s : State) :
    s.takeSec p m a = (s.hold 8 p a).holdSections (pktPayload p) (pktCarrier p) 1 s.sect.serial [a] := by
  have one : max 1 (fieldAt (pktPayload p) 0 1 % 16) = 1 := by omega
  have good : ¬ (pktLen p ≠ 4 + 16 * fieldAt (pktPayload p) 2 2 ∨ 13 < pktSymbol p + 1 - 1 ∨ fieldAt (pktPayload p) 0 1 / 16 ≠ 0 ∨
      fieldAt (pktPayload p) 1 1 ≠ 0) := by omega
  have airs : (List.range 1).map (fun j => airOf m (frameOf a) (symbolOf m a + j)) = [a] := by simp [whole]
  simp only [State.takeSec, one, if_neg good, airs]
  rw [if_neg (by omega), count]
  rfl

theorem State.holdSections_one {b : List Byte} {c serial a : Nat} {cfg : Carrier} (hc : cfg = s.carrierAt (bitOf (fieldAt b 4 2) 11) c a)
    (good : s.sectionReason b 0 (readSection b 0 c serial cfg) cfg = 0) (free : s.heldReason { readSection b 0 c serial cfg with air := a } = 0) :
    s.holdSections b c 1 serial [a] = { s with sect := { s.sect with held := s.sect.held ++ [{ readSection b 0 c serial cfg with air := a }] } } := by
  have first : s.carrierAt (bitOf (fieldAt b (4 + 16 * 0) 2) 11) c (([a].headD 0 : Nat) : Int) = cfg := hc.symm
  simp only [State.holdSections, List.range_one, List.foldl_cons, List.foldl_nil, first, good, if_true, State.holdSection, free]

theorem State.sectionReason_congr (h : t.rd Reg.BMB_CFG = s.rd Reg.BMB_CFG) (h' : t.rd Reg.QUE_STATUS = s.rd Reg.QUE_STATUS) (b : List Byte) (i : Nat)
    (x : HeldSec) (cfg : Carrier) : t.sectionReason b i x cfg = s.sectionReason b i x cfg := by
  have count : t.fld Fld.BMB_CFG_COUNT = s.fld Fld.BMB_CFG_COUNT := State.fld_congr h
  have level : t.fld Fld.QUE_STATUS_LEVEL = s.fld Fld.QUE_STATUS_LEVEL := State.fld_congr h'
  rw [State.sectionReason, count, level]
  rfl

theorem State.carrierAt_congr (hd : t.dlc = s.dlc) (hu : t.ulc = s.ulc) (up : Bool) (c : Nat) (a : Int) : t.carrierAt up c a = s.carrierAt up c a := by
  have same : t.carriers up = s.carriers up := by
    unfold State.carriers
    rw [hd, hu]
  unfold State.carrierAt State.copyAt
  rw [same]

theorem secIsHeld (k : Fin 2) (bs : List Byte) (hd : ∀ n < 12, k.val ∉ (s.queue n).doomed) (p : List Byte) (hp : p = typed tySec bs) (u : State)
    (hu : u = (s.receive k.val false false p).1) (ok : (s.receive k.val false false p).2 = true) (hl : u.time.everLocked = true)
    (c : Nat) (hc : c = pktCarrier p) (l : Nat × Option Int) (ll : l = u.locate [false, true] c p) (b : List Byte) (hb : b = pktPayload p)
    (len : pktLen p = 20) (count : fieldAt b 2 2 = 1) (nsym : fieldAt b 0 1 ≤ 1) (zero : fieldAt b 1 1 = 0) (sym : pktSymbol p ≤ 13) (a : Nat)
    (ha : l.2 = some (a : Int)) (early : (a : Int) - u.tEarly ≤ u.air) (late : (u.air : Int) ≤ a - u.tLate)
    (whole : airOf l.1 (frameOf a) (symbolOf l.1 a) = a) (cfg : Carrier) (hcfg : cfg = u.carrierAt (bitOf (fieldAt b 4 2) 11) c a)
    (h : HeldSec) (hh : h = readSection b 0 c u.sect.serial cfg) (good : u.sectionReason b 0 h cfg = 0) (free : u.heldReason { h with air := a } = 0) :
    ∃ t, exec (.secReceive k false false bs) s = .next t ∧
      (t.queue 8).pkts = (u.queue 8).pkts ++ [⟨bytesAt p 0 (16 + pktLen p), false, a, u.sect.serial, (u.storePacket 8 (bytesAt p 0 (16 + pktLen p)) reqLinkIn).2, []⟩] ∧
      t.sect.held = u.sect.held ++ [{ h with air := a }] ∧ (∀ m, m ≠ 8 → t.queue m = u.queue m) ∧
      t.link = { u.link with turn := t.link.turn } ∧
      t = { u with regs := t.regs, queues := t.queues, sect := t.sect, raise := t.raise, store := t.store, ecc := t.ecc, link := t.link } := by
  subst hp hc ll hb hh
  obtain ⟨this, others, frame, regs⟩ := u.hold_holds 8 (typed tySec bs) a _ rfl
  have run : exec (.secReceive k false false bs) s = .next (s.onAccept k.val false false (typed tySec bs) (fun s =>
      s.arrive 8 (typed tySec bs) (s.locate [false, true] (pktCarrier (typed tySec bs)) (typed tySec bs)).2
        (fun v a => v.takeSec (typed tySec bs) (s.locate [false, true] (pktCarrier (typed tySec bs)) (typed tySec bs)).1 a) (fun s =>
          s.secInvalid 1 (pktCarrier (typed tySec bs)) 0
            (max 1 (min (fieldAt (pktPayload (typed tySec bs)) 2 2) ((pktLen (typed tySec bs) - 4) / 16)))))) := rfl
  have took := State.takeSec_one len count nsym zero sym whole u
  obtain ⟨sect, link, same⟩ := heldFrame frame
  generalize u.hold 8 (typed tySec bs) a = v at *
  have dlc : v.dlc = u.dlc := by rw [same]
  have ulc : v.ulc = u.ulc := by rw [same]
  have cfg' := hcfg.trans (State.carrierAt_congr dlc ulc _ _ _).symm
  have good' : v.sectionReason (pktPayload (typed tySec bs)) 0 (readSection (pktPayload (typed tySec bs)) 0 (pktCarrier (typed tySec bs)) u.sect.serial cfg) cfg = 0 :=
    (State.sectionReason_congr (regs _ (by decide)) (regs _ (by decide)) _ _ _ _).trans good
  have held : v.sect.held = u.sect.held := by rw [sect]
  have free' : v.heldReason { readSection (pktPayload (typed tySec bs)) 0 (pktCarrier (typed tySec bs)) u.sect.serial cfg with air := a } = 0 := by
    simp only [State.heldReason, held] at free ⊢
    exact free
  rw [State.holdSections_one cfg' good' free', held] at took
  generalize ({ readSection (pktPayload (typed tySec bs)) 0 (pktCarrier (typed tySec bs)) u.sect.serial cfg with air := a } : HeldSec) = g at *
  have effect : u.arrive 8 (typed tySec bs) (u.locate [false, true] (pktCarrier (typed tySec bs)) (typed tySec bs)).2
      (fun w a => w.takeSec (typed tySec bs) (u.locate [false, true] (pktCarrier (typed tySec bs)) (typed tySec bs)).1 a) (fun s =>
        s.secInvalid 1 (pktCarrier (typed tySec bs)) 0
          (max 1 (min (fieldAt (pktPayload (typed tySec bs)) 2 2) ((pktLen (typed tySec bs) - 4) / 16)))) = { v with sect := { v.sect with held := u.sect.held ++ [g] } } := by
    rw [ha, State.arrive_inTime hl early late]
    exact took
  have queues (m : Nat) : State.queue { v with sect := { v.sect with held := u.sect.held ++ [g] } } m = v.queue m := rfl
  rw [State.onAccept_queued (by decide) (by decide) hd ok _ (by
    intro m
    rw [← hu, effect, queues]
    exact doomed_of_held this others m), ← hu, effect] at run
  refine ⟨_, run, ?_, rfl, fun m hm => (queues m).trans (others m hm), link, ?_⟩
  · rw [queues, this]
    rfl
  · obtain ⟨r, q, l, m, e, k, rfl⟩ := frame
    rfl

/-! ### A TIM with the moment and time (R191, R193) -/

theorem State.observe_agrees {e : Int} (hs : s.syncState = syncLocked) (he : e.natAbs ≤ s.fld Fld.ATM_SYNC_CTRL_TOL) : s.observe e =
    { s.wr Reg.ATM_SYNC_ERR (BitVec.ofInt 32 e) with time := { s.time with outliers := [] } }.setFld Fld.ATM_SYNC_STATUS_STATE syncLocked := by
  have tol := s.fld_lt Fld.ATM_SYNC_CTRL_TOL
  simp only [show 11 + 1 - 4 = 8 by decide] at tol
  have exact' : satInt 32 e = e := by
    simp only [satInt]
    omega
  have state : (s.wr Reg.ATM_SYNC_ERR (BitVec.ofInt 32 e)).syncState = syncLocked :=
    (State.fld_wr_ne s _ _ Fld.ATM_SYNC_STATUS_STATE (by decide)).trans hs
  have within : (s.wr Reg.ATM_SYNC_ERR (BitVec.ofInt 32 e)).fld Fld.ATM_SYNC_CTRL_TOL = s.fld Fld.ATM_SYNC_CTRL_TOL := State.fld_wr_ne _ _ _ _ (by decide)
  unfold State.observe
  rw [exact']
  obtain ⟨r, same⟩ := (State.beside.refl s).wr Reg.ATM_SYNC_ERR (BitVec.ofInt 32 e)
  have time : (s.wr Reg.ATM_SYNC_ERR (BitVec.ofInt 32 e)).time = s.time := rfl
  generalize s.wr Reg.ATM_SYNC_ERR (BitVec.ofInt 32 e) = v at *
  have state' : State.syncState { v with time := { v.time with outliers := [] } } = syncLocked := state
  simp only [state, within, he, decide_true, show ¬ syncLocked = syncUnsynced by decide, show ¬ syncLocked = syncAcquiring by decide, if_false, if_true]
  rw [State.setSync, state', if_pos rfl, time]

theorem timIsUsed (k : Fin 2) (bs : List Byte) (hd : ∀ n < 12, k.val ∉ (s.queue n).doomed) (p : List Byte) (hp : p = typed tyTim bs) (u : State)
    (hu : u = (s.receive k.val false false p).1) (ok : (s.receive k.val false false p).2 = true) (len : pktLen p = 16)
    (src : u.fld Fld.ATM_SYNC_CTRL_SRC = 1) (now : bitOf (fieldAt p 24 4) 0 = false) (hs : u.syncState = syncLocked) (ph : Fin 5) (e : Int)
    (he : e = (fieldAt p 16 8 : Int) - (u.air + ((ph.val : Int) - 2))) (tol : e.natAbs ≤ u.fld Fld.ATM_SYNC_CTRL_TOL) :
    ∃ t, exec (.timReceive k false false bs ph) s = .next t ∧ t.air = u.air ∧ t.syncState = syncLocked ∧ t.time.outliers = [] ∧
      t.rd Reg.ATM_SYNC_ERR = BitVec.ofInt 32 e ∧ (∀ m, m ≠ 11 → t.queue m = u.queue m) := by
  subst hp
  have run : exec (.timReceive k false false bs ph) s = .next (s.onAccept k.val false false (typed tyTim bs) (fun s =>
      (s.useTim (typed tyTim bs) ((ph.val : Int) - 2)).grant 11 (creditsOf (pktLen (typed tyTim bs))))) := rfl
  have use : u.useTim (typed tyTim bs) ((ph.val : Int) - 2) = u.observe e := by
    simp only [State.useTim, len, src, now, he, if_neg (show ¬ 16 = 0 by decide), Bool.not_false, and_self, if_true]
  have state : (u.observe e).syncState = syncLocked := by
    rw [State.observe_agrees hs tol]
    exact State.fld_setFld_same _ _ _ (by decide) (by decide)
  have error : (u.observe e).rd Reg.ATM_SYNC_ERR = BitVec.ofInt 32 e := by
    rw [State.observe_agrees hs tol, State.rd_setFld_ne _ _ _ (by decide)]
    exact State.rd_wr_same u _ _
  have frame : ∃ r, u.observe e = { u with regs := r, time := { u.time with outliers := [] } } := ⟨_, State.observe_agrees hs tol⟩
  generalize u.observe e = v at *
  have queues : v.queues = u.queues := by
    obtain ⟨r, rfl⟩ := frame
    rfl
  rw [State.onAccept_queued (by decide) (by decide) hd ok _ (by
    intro m
    rw [← hu, use, (v.grant_doomed _ _ m).1, State.queue_congr queues]), ← hu, use] at run
  have regs := v.grant_regsBut 11 (creditsOf (pktLen (typed tyTim bs)))
  obtain ⟨r, x, same⟩ := v.grant_frame 11 (creditsOf (pktLen (typed tyTim bs)))
  refine ⟨_, run, ?_, (regs.fld Fld.ATM_SYNC_STATUS_STATE (by decide)).trans state, ?_, (regs _ (by decide)).trans error, fun m hm => ?_⟩
  · rw [same]
    obtain ⟨r, rfl⟩ := frame
    rfl
  · rw [same]
    obtain ⟨r, rfl⟩ := frame
    rfl
  · rw [v.grant_queue_ne _ hm, State.queue_congr queues]

/-- Settles O35: a packet that passes the checks and arrives in its window is held; a late one is counted and its credits return; a
TIM is an observation. -/
theorem dataPacketsAreHeldForTheirSymbol : Obligations.DataPacketsAreHeldForTheirSymbol := by
  unfold Obligations.DataPacketsAreHeldForTheirSymbol
  intro k bs s hd
  refine ⟨?dld, ?sec, ?wgt, ?tim⟩
  case dld =>
    intro p hp u hu n hn ok hl a ha
    exact ⟨fun early late => dldIsHeld k bs hd p hp u hu n hn ok hl a ha early late,
      fun early late room => dldIsLate k bs hd p hp u hu n hn ok hl a ha early late room⟩
  case sec =>
    intro p hp u hu ok hl c hc l ll b hb len count nsym zero sym a ha early late whole cfg hcfg h hh good free
    exact secIsHeld k bs hd p hp u hu ok hl c hc l ll b hb len count nsym zero sym a ha early late whole cfg hcfg h hh good free
  case wgt =>
    intro p hp u hu ok hl slot good a ha early late
    exact wgtIsHeld k bs hd p hp u hu ok hl slot good a ha early late
  case tim =>
    intro p hp u hu ok len src now hs ph e he tol
    exact timIsUsed k bs hd p hp u hu ok len src now hs ph e he tol

end Sys2Proof.Machine

/-!
PROOFS. The link's own packets: credits, capabilities, loopback and management requests (O29).
-/

namespace Sys2Proof.Machine

variable {s t u : State} {as : List Nat} {a n m : Nat} {q : Requester} {d : Word}

/-! ### Management queries (R140, R151) -/

/-- With nothing waiting in QM and nothing being performed, no MGQ starts. -/
theorem State.mgqStart_idle (hq : (s.queue 10).pkts = []) (hm : s.link.mgq = none) (k : Nat) : State.mgqStart k s = s := by
  have kick : s.mgqKick = s := by
    unfold State.mgqKick
    split_ifs
    · rw [hq]
    · rfl
  cases k with
  | zero => exact kick
  | succ k =>
    rw [State.mgqStart, kick]
    simp only [hm]

/-- QA may take the answer of an MGQ. -/
structure State.mgqReady (s : State) : Prop where
  idle : s.link.mgq = none
  active : s.linkIs lnkActive = true
  credit : (s.queue 27).unlimited = true
  room : (s.queue 27).occupancy + 3 ≤ 256

/-- The MGQ at the front of QM, well formed, begins. -/
theorem State.mgqStart_begins (h : s.mgqReady) {p : StoredPkt} {ps : List StoredPkt} (hq : (s.queue 10).pkts = p :: ps)
    (good : mgqMalformed (pktPayload p.bytes) (pktPayload p.bytes).length = false) (k : Nat) : State.mgqStart (k + 1) s =
      { s.setQueue 10 { s.queue 10 with pkts := { p with begun := true } :: ps } with
        link := { s.link with mgq := some ⟨pktPayload p.bytes, pktSub p.bytes, 0, [], false⟩ } } := by
  have kick : s.mgqKick = { s.setQueue 10 { s.queue 10 with pkts := { p with begun := true } :: ps } with
      link := { s.link with mgq := some ⟨pktPayload p.bytes, pktSub p.bytes, 0, [], false⟩ } } := by
    unfold State.mgqKick
    rw [if_pos (by simp [h.idle, h.active, h.credit, h.room]), hq]
  rw [State.mgqStart, kick]
  simp only [good, Bool.false_eq_true, and_false, if_false]

/-! ### CRD (R137, R139) -/

/-- An entry of a CRD takes effect. -/
def State.takeCrd (s : State) (w n : Nat) : State :=
  if !(s.queue n).use then s
  else if queueInbound n then s.setQueue n { s.queue n with reports := (s.queue n).reports ++ [w % 2 ^ 24] }
  else s.setFld (Fld.QUE_GRANTn_TOTAL n) (w % 2 ^ 24)

/-- The entries of a CRD take effect queue by queue. -/
def State.takeCrds (s : State) (w : Nat → Nat) (count : Nat) : State :=
  (List.range 32).foldl (fun s n =>
    match ((List.range count).filter (fun i => w i / 2 ^ 24 % 32 == n)).getLast? with
    | some i => s.takeCrd (w i) n
    | none => s) s

theorem foldl_once {β γ : Type} [DecidableEq β] {f : γ → β → γ} {e : β} (l : List β) (nd : l.Nodup) (he : e ∈ l) (h : ∀ s b, b ≠ e → f s b = s) (s : γ) :
    l.foldl f s = f s e := by
  induction l generalizing s with
  | nil => cases he
  | cons b l ih =>
    rw [List.foldl_cons]
    have nd' := List.nodup_cons.1 nd
    rcases List.mem_cons.1 he with rfl | he
    · have rest : ∀ (l : List β), e ∉ l → ∀ s, l.foldl f s = s := by
        intro l hl
        induction l with
        | nil => exact fun _ => rfl
        | cons c l ih =>
          intro s
          rw [List.foldl_cons, h s c (fun hc => hl (hc ▸ List.mem_cons_self)), ih fun hx => hl (List.mem_cons_of_mem _ hx)]
      rw [rest l nd'.1]
    · rw [h s b (fun hb => nd'.1 (hb ▸ he)), ih nd'.2 he]

/-- A CRD with one entry. -/
theorem State.takeCrds_one (s : State) (w : Nat → Nat) : s.takeCrds w 1 = s.takeCrd (w 0) (w 0 / 2 ^ 24 % 32) := by
  have small : w 0 / 2 ^ 24 % 32 ∈ List.range 32 := List.mem_range.2 (Nat.mod_lt _ (by decide))
  unfold State.takeCrds
  rw [foldl_once (List.range 32) List.nodup_range small]
  · simp
  · intro s b hb
    have other : ((List.range 1).filter (fun i => w i / 2 ^ 24 % 32 == b)) = [] := by
      simpa using fun h => hb h.symm
    rw [other]
    rfl

theorem exec_crdReceive (k : Fin 2) (bs : List Byte) (s : State) : exec (.crdReceive k false false bs) s =
    .next (s.onAccept k.val false false (typed tyCrd bs) (fun s =>
      State.mgqStart 256 (s.takeCrds (fun i => fieldAt (pktPayload (typed tyCrd bs)) (4 * i) 4) (pktLen (typed tyCrd bs) / 4)))) := by
  show execCrdReceive k false false bs s = _
  unfold execCrdReceive State.takeCrds State.takeCrd
  rfl

theorem State.mgqStart_quiet (h : t.queue 10 = s.queue 10 ∨ (t.queue 10).pkts = (s.queue 10).pkts) (hq : (s.queue 10).pkts = []) (hl : t.link = s.link)
    (hm : s.link.mgq = none) (k : Nat) : State.mgqStart k t = t :=
  State.mgqStart_idle (h.elim (fun e => by rw [e, hq]) (fun e => e.trans hq)) (by rw [hl, hm]) k

theorem crdTakesEffect (k : Fin 2) (bs : List Byte) (hd : ∀ n < 12, k.val ∉ (s.queue n).doomed) (p : List Byte) (hp : p = typed tyCrd bs) (u : State)
    (hu : u = (s.receive k.val false false p).1) (ok : (s.receive k.val false false p).2 = true) (len : pktLen p = 4)
    (w : Nat) (hw : w = fieldAt (pktPayload p) 0 4) (n : Nat) (hn : n = w / 2 ^ 24 % 32) (use : (u.queue n).use = true)
    (empty : (u.queue 10).pkts = []) (idle : u.link.mgq = none) :
    ∃ t, exec (.crdReceive k false false bs) s = .next t ∧
      (12 ≤ n → t.fld (Fld.QUE_GRANTn_TOTAL n) = w % 2 ^ 24 ∧ t.queues = u.queues) ∧
      (n < 12 → (t.queue n).reports = (u.queue n).reports ++ [w % 2 ^ 24] ∧ t.regs = u.regs) := by
  subst hp
  have run := exec_crdReceive k bs s
  have take : u.takeCrds (fun i => fieldAt (pktPayload (typed tyCrd bs)) (4 * i) 4) (pktLen (typed tyCrd bs) / 4) = u.takeCrd w n := by
    rw [len, hw, hn, hw]
    exact State.takeCrds_one u _
  by_cases inbound : n < 12
  · have taken : u.takeCrd w n = u.setQueue n { u.queue n with reports := (u.queue n).reports ++ [w % 2 ^ 24] } := by
      rw [State.takeCrd, use, if_neg (by decide), if_pos (by simp [queueInbound, inbound])]
    have this := u.queue_setQueue_same n { u.queue n with reports := (u.queue n).reports ++ [w % 2 ^ 24] }
    have others (m : Nat) (hm : m ≠ n) := u.queue_setQueue_ne { u.queue n with reports := (u.queue n).reports ++ [w % 2 ^ 24] } hm
    have link : (u.setQueue n { u.queue n with reports := (u.queue n).reports ++ [w % 2 ^ 24] }).link = u.link := rfl
    have regs : (u.setQueue n { u.queue n with reports := (u.queue n).reports ++ [w % 2 ^ 24] }).regs = u.regs := rfl
    rw [taken] at take
    generalize u.setQueue n { u.queue n with reports := (u.queue n).reports ++ [w % 2 ^ 24] } = v at *
    have same (m : Nat) : (v.queue m).pkts = (u.queue m).pkts ∧ (v.queue m).doomed = (u.queue m).doomed := by
      by_cases hm : m = n
      · rw [hm, this]
        exact ⟨rfl, rfl⟩
      · rw [others m hm]
        exact ⟨rfl, rfl⟩
    have start : State.mgqStart 256 v = v := State.mgqStart_quiet (.inr (same 10).1) empty link idle 256
    rw [State.onAccept_control (by decide) (by decide) hd ok _ (by
      intro m
      rw [← hu, take, start]
      exact (same m).2), ← hu, take, start] at run
    exact ⟨v, run, fun h => absurd inbound (Nat.not_lt.2 h), fun _ => ⟨by rw [this], regs⟩⟩
  · have taken : u.takeCrd w n = u.setFld (Fld.QUE_GRANTn_TOTAL n) (w % 2 ^ 24) := by
      rw [State.takeCrd, use, if_neg (by decide), if_neg (by simp [queueInbound]; omega)]
    have grant := u.fld_setFld_same (Fld.QUE_GRANTn_TOTAL n) (w % 2 ^ 24) (by simp) (Nat.mod_lt _ (by decide))
    have link : (u.setFld (Fld.QUE_GRANTn_TOTAL n) (w % 2 ^ 24)).link = u.link := rfl
    have queues : (u.setFld (Fld.QUE_GRANTn_TOTAL n) (w % 2 ^ 24)).queues = u.queues := rfl
    rw [taken] at take
    generalize u.setFld (Fld.QUE_GRANTn_TOTAL n) (w % 2 ^ 24) = v at *
    have start : State.mgqStart 256 v = v := State.mgqStart_quiet (.inl (State.queue_congr queues 10)) empty link idle 256
    rw [State.onAccept_control (by decide) (by decide) hd ok _ (by
      intro m
      rw [← hu, take, start, State.queue_congr queues]), ← hu, take, start] at run
    exact ⟨v, run, fun _ => ⟨grant, queues⟩, fun h => absurd h inbound⟩

theorem reconciles (n : Fin 12) {r : Nat} {rs : List Nat} (hr : (s.queue n.val).reports = r :: rs) (d : Nat)
    (hd : d = (r + 2 ^ 24 - s.fld (Fld.QUE_CONSn_TOTAL n.val)) % 2 ^ 24) (lo : 1 ≤ d) (hi : d < 2 ^ 23) (hl : s.linkIs lnkActive = true) :
    ∃ t, exec (.crdReconcile n) s = .next t ∧ (t.queue n.val).reports = rs ∧
      t.fld (Fld.QUE_CONSn_TOTAL n.val) = (s.fld (Fld.QUE_CONSn_TOTAL n.val) + d) % 2 ^ 24 ∧
      t.fld (Fld.QUE_GRANTn_TOTAL n.val) = (s.fld (Fld.QUE_GRANTn_TOTAL n.val) + d) % 2 ^ 24 ∧
      t = { s with regs := t.regs, queues := t.queues } ∧ (∀ m, m ≠ n.val → t.queue m = s.queue m) ∧
      s.regsBut t [Reg.QUE_CONSn n.val, Reg.QUE_GRANTn n.val] := by
  have this := s.queue_setQueue_same n.val { s.queue n.val with reports := rs }
  have others (m : Nat) (hm : m ≠ n.val) := s.queue_setQueue_ne { s.queue n.val with reports := rs } hm
  have frame : ∃ q, s.setQueue n.val { s.queue n.val with reports := rs } = { s with queues := q } := ⟨_, rfl⟩
  have run : exec (.crdReconcile n) s = .next (((s.setQueue n.val { s.queue n.val with reports := rs }).countWrap (Fld.QUE_CONSn_TOTAL n.val) d).grant n.val d) := by
    have lost : (r + 2 ^ 24 - (s.setQueue n.val { s.queue n.val with reports := rs }).fld (Fld.QUE_CONSn_TOTAL n.val)) % 2 ^ 24 = d := hd.symm
    show execCrdReconcile n s = _
    simp only [execCrdReconcile, hr, lost]
    rw [if_pos ⟨lo, hi⟩]
  generalize s.setQueue n.val { s.queue n.val with reports := rs } = v at *
  have rd (a : Nat) : v.rd a = s.rd a := by
    obtain ⟨q, rfl⟩ := frame
    rfl
  have counted := v.fld_setFld_mod (Fld.QUE_CONSn_TOTAL n.val) (v.fld (Fld.QUE_CONSn_TOTAL n.val) + d) (by simp)
  have regs : v.regsBut (v.countWrap (Fld.QUE_CONSn_TOTAL n.val) d) [Reg.QUE_CONSn n.val] := (State.regsBut.refl v _).setFld _ (by simp)
  have queues : (v.countWrap (Fld.QUE_CONSn_TOTAL n.val) d).queues = v.queues := rfl
  have beside : v.beside (v.countWrap (Fld.QUE_CONSn_TOTAL n.val) d) := ⟨_, rfl⟩
  rw [← State.countWrap] at counted
  generalize v.countWrap (Fld.QUE_CONSn_TOTAL n.val) d = w at *
  have active : w.linkIs lnkActive = true :=
    (State.linkIs_congr ((regs _ (by simp only [List.mem_singleton, Reg.LNK_STATUS, Reg.QUE_CONSn]; omega)).trans (rd _)) _).trans hl
  have grants : w.grant n.val d = (w.countWrap (Fld.QUE_GRANTn_TOTAL n.val) d).setQueue n.val { w.queue n.val with dirty := true } := by
    rw [State.grant, if_neg (by omega), if_pos active]
  have granted : (w.countWrap (Fld.QUE_GRANTn_TOTAL n.val) d).fld (Fld.QUE_GRANTn_TOTAL n.val) = (s.fld (Fld.QUE_GRANTn_TOTAL n.val) + d) % 2 ^ 24 := by
    rw [State.countWrap, State.fld_setFld_mod _ _ _ (by simp), regs.fld _ (by simp), State.fld_congr (f := Fld.QUE_GRANTn_TOTAL n.val) (rd _)]
    rfl
  have kept := w.grant_regsBut n.val d
  have shown : (w.grant n.val d).fld (Fld.QUE_GRANTn_TOTAL n.val) = (s.fld (Fld.QUE_GRANTn_TOTAL n.val) + d) % 2 ^ 24 := by
    rw [grants]
    exact granted
  obtain ⟨r', x, same⟩ := w.grant_frame n.val d
  obtain ⟨rel, b, held⟩ := w.grant_queue_same n.val d
  refine ⟨_, run, ?_, ?_, shown, ?_, fun m hm => ?_, ?_⟩
  · rw [held, State.queue_congr queues, this]
  · rw [kept.fld _ (by simp), counted, State.fld_congr (f := Fld.QUE_CONSn_TOTAL n.val) (rd _)]
    rfl
  · rw [same]
    obtain ⟨r'', rfl⟩ := beside
    obtain ⟨q, rfl⟩ := frame
    rfl
  · rw [w.grant_queue_ne d hm, State.queue_congr queues, others m hm]
  · exact fun a ha => (kept a (fun h => ha (List.mem_cons_of_mem _ h))).trans
      ((regs a (fun h => ha (List.mem_singleton.1 h ▸ List.mem_cons_self))).trans (rd a))

/-! ### CAP and LBK (R146, R147, R153) -/

/-- Word `i` of whole words. -/
theorem bytesToWords_getElem (m : Nat) : ∀ (bs : List Byte), bs.length = 4 * m → ∀ i, (h : i < (bytesToWords bs).length) →
    (bytesToWords bs)[i] = BitVec.ofNat 32 (fieldAt bs (4 * i) 4) := by
  induction m with
  | zero =>
    intro bs hl i h
    obtain rfl := List.eq_nil_of_length_eq_zero hl
    exact absurd h (Nat.not_lt_zero i)
  | succ m ih =>
    intro bs hl i h
    match bs, hl with
    | a :: b :: c :: e :: bs, hl =>
      cases i with
      | zero => simp [bytesToWords_cons, fieldAt, bytesAt]
      | succ i =>
        have next := ih bs (by simp at hl; omega) i (by simpa [bytesToWords_cons] using h)
        simp only [bytesToWords_cons, List.getElem_cons_succ, next, fieldAt, bytesAt, Nat.mul_succ, List.drop_succ_cons]
    | [], hl => simp at hl
    | [_], hl => simp at hl; omega
    | [_, _], hl => simp at hl; omega
    | [_, _, _], hl => simp at hl; omega

theorem bytesAt_length (bs : List Byte) (k n : Nat) : (bytesAt bs k n).length = n := by
  simp [bytesAt]

/-- The peer's CAP shows in its registers. -/
def State.showPeer (s : State) (b : List Byte) (seq : Nat) : State :=
  (({ s with link := { s.link with peer := some b, peerVersion := seq } } : State).loadBytes (Reg.QUE_PEER_CAP 0) b).setFld
    Fld.QUE_STATUS_PEER_DETAINED (fieldAt b 3 1 % 2)

theorem exec_capReceive (k : Fin 2) (bs : List Byte) (s : State) : exec (.capReceive k false false bs) s =
    .next (s.onAccept k.val false false (typed tyCap bs) (fun s =>
      if !s.linkIs lnkRollCall then s
      else if pktLen (typed tyCap bs) = 0 then
        if pktSeq (typed tyCap bs) = s.link.capVersion then { s with link := { s.link with acked := true } } else s
      else match s.capReason (pktPayload (typed tyCap bs)) (pktLen (typed tyCap bs)) with
        | some r => s.event 0x2B r
        | none => s.showPeer (pktPayload (typed tyCap bs)) (pktSeq (typed tyCap bs)))) := by
  show execCapReceive k false false bs s = _
  unfold execCapReceive State.showPeer State.loadBytes
  rfl

theorem State.linkIs_framed (s : State) (k x : Nat) : (s.framed k).linkIs x = s.linkIs x := by
  unfold State.framed State.setFramingLost
  rfl

section
variable {k : Fin 2} {bs : List Byte}

theorem capAcknowledged (hd : ∀ n < 12, k.val ∉ (s.queue n).doomed) (ok : (s.receive k.val false false (typed tyCap bs)).2 = true)
    (hl : s.linkIs lnkRollCall = true) (u : State) (hu : u = (s.receive k.val false false (typed tyCap bs)).1)
    (len : pktLen (typed tyCap bs) = 0) (seq : pktSeq (typed tyCap bs) = u.link.capVersion) :
    exec (.capReceive k false false bs) s = .next { u with link := { u.link with acked := true } } := by
  have run := exec_capReceive k bs s
  have roll : u.linkIs lnkRollCall = true := by rw [hu, State.receive_control (by decide) (by decide) ok, State.linkIs_framed, hl]
  simp only [len, if_true] at run
  rw [State.onAccept_control (by decide) (by decide) hd ok _ (by
    intro m
    rw [← hu, roll, if_neg (by decide), if_pos seq]
    rfl), ← hu, roll, if_neg (by decide), if_pos seq] at run
  exact run

theorem capAccepted (hd : ∀ n < 12, k.val ∉ (s.queue n).doomed) (ok : (s.receive k.val false false (typed tyCap bs)).2 = true)
    (hl : s.linkIs lnkRollCall = true) (u : State) (hu : u = (s.receive k.val false false (typed tyCap bs)).1)
    (len : pktLen (typed tyCap bs) = 160) (good : u.capReason (pktPayload (typed tyCap bs)) 160 = none) :
    ∃ t, exec (.capReceive k false false bs) s = .next t ∧
      t.link = { u.link with peer := some (pktPayload (typed tyCap bs)), peerVersion := pktSeq (typed tyCap bs) } ∧
      (∀ i < 40, t.rd (Reg.QUE_PEER_CAP i) = BitVec.ofNat 32 (fieldAt (pktPayload (typed tyCap bs)) (4 * i) 4)) := by
  have run := exec_capReceive k bs s
  have roll : u.linkIs lnkRollCall = true := by rw [hu, State.receive_control (by decide) (by decide) ok, State.linkIs_framed, hl]
  have size : (pktPayload (typed tyCap bs)).length = 4 * 40 := (bytesAt_length _ _ _).trans len
  simp only [len, if_neg (show ¬ 160 = 0 by decide)] at run
  generalize pktPayload (typed tyCap bs) = b at *
  generalize pktSeq (typed tyCap bs) = v at *
  obtain ⟨words, -⟩ := bytesToWords_whole 40 b size
  have loads := State.loadBytes_beside ({ u with link := { u.link with peer := some b, peerVersion := v } } : State) (Reg.QUE_PEER_CAP 0) b
  have shown (i : Nat) (hi : i < 40) : (u.showPeer b v).rd (Reg.QUE_PEER_CAP i) = BitVec.ofNat 32 (fieldAt b (4 * i) 4) := by
    have at' := State.rd_loadWords_in (bytesToWords b) 0 ({ u with link := { u.link with peer := some b, peerVersion := v } } : State)
      (Reg.QUE_PEER_CAP 0) (i := i) (by omega)
    rw [bytesToWords_getElem 40 b size i (by omega), Nat.zero_add] at at'
    rw [State.showPeer, State.rd_setFld_ne _ _ _ (by simp only [Reg.QUE_STATUS, Reg.QUE_PEER_CAP]; omega)]
    exact at'
  have link : (u.showPeer b v).link = { u.link with peer := some b, peerVersion := v } := by
    rw [State.showPeer, State.setFld_link, loads]
  have queues : (u.showPeer b v).queues = u.queues := by
    rw [State.showPeer, State.setFld_queues, loads]
  rw [State.onAccept_control (by decide) (by decide) hd ok _ (by
    intro m
    simp only [← hu, roll, Bool.not_true, Bool.false_eq_true, if_false, good]
    rw [State.queue_congr queues])] at run
  simp only [← hu, roll, Bool.not_true, Bool.false_eq_true, if_false, good] at run
  exact ⟨_, run, link, shown⟩

theorem exec_lbkReceive (k : Fin 2) (bs : List Byte) (s : State) : exec (.lbkReceive k false false bs) s =
    .next (s.onAccept k.val false false (typed tyLbk bs) (fun s => if s.link.lbk.isSome then s.count Fld.QUE_MISC_LBK_DROP 1
      else { s with link := { s.link with lbk := some (k.val, bytesAt (typed tyLbk bs) 0 (16 + pktLen (typed tyLbk bs))) } })) := rfl

theorem lbkWaits (hd : ∀ n < 12, k.val ∉ (s.queue n).doomed) (ok : (s.receive k.val false false (typed tyLbk bs)).2 = true) (u : State)
    (hu : u = (s.receive k.val false false (typed tyLbk bs)).1) (free : u.link.lbk = none) :
    exec (.lbkReceive k false false bs) s =
      .next { u with link := { u.link with lbk := some (k.val, bytesAt (typed tyLbk bs) 0 (16 + pktLen (typed tyLbk bs))) } } := by
  have run := exec_lbkReceive k bs s
  rw [State.onAccept_control (by decide) (by decide) hd ok _ (by
    intro m
    rw [← hu, free, if_neg (by decide)]
    rfl), ← hu, free, if_neg (by decide)] at run
  exact run

theorem lbkDrops (hd : ∀ n < 12, k.val ∉ (s.queue n).doomed) (ok : (s.receive k.val false false (typed tyLbk bs)).2 = true) (u : State)
    (hu : u = (s.receive k.val false false (typed tyLbk bs)).1) (waits : u.link.lbk.isSome = true) :
    ∃ t, exec (.lbkReceive k false false bs) s = .next t ∧
      t.fld Fld.QUE_MISC_LBK_DROP = min 65535 (u.fld Fld.QUE_MISC_LBK_DROP + 1) ∧ u.onlyRegs t [Reg.QUE_MISC] := by
  have run := exec_lbkReceive k bs s
  rw [State.onAccept_control (by decide) (by decide) hd ok _ (by
    intro m
    rw [← hu, waits, if_pos rfl]
    exact congrArg QueueState.doomed (State.queue_setFld u _ _ m)), ← hu, waits, if_pos rfl] at run
  exact ⟨_, run, State.fld_count_same _ _ _ (by decide), rfl, (State.regsBut.refl u _).count _ (by simp)⟩

end

/-! ### MGQ (R140, R151) -/

theorem bytesAt_take (p : List Byte) {i j N : Nat} (h : i + j ≤ N) : bytesAt (p.take N) i j = bytesAt p i j := by
  have same : ((p.take N).drop i).take j = (p.drop i).take j := by
    rw [List.drop_take, List.take_take, Nat.min_eq_left (by omega)]
  rw [bytesAt, bytesAt, same]

/-- A packet without its trailer has its header and payload. -/
theorem pktFields_untrailed {p : List Byte} (h : p.length = 20 + pktLen p) : pktPayload (bytesAt p 0 (16 + pktLen p)) = pktPayload p ∧
    pktSub (bytesAt p 0 (16 + pktLen p)) = pktSub p := by
  have cut : bytesAt p 0 (16 + pktLen p) = p.take (16 + pktLen p) := by
    rw [bytesAt, List.drop_zero, List.length_take, Nat.min_eq_left (by omega), Nat.sub_self]
    simp
  have len : pktLen (p.take (16 + pktLen p)) = pktLen p := congrArg leNat (bytesAt_take p (by omega))
  rw [cut]
  refine ⟨?_, congrArg (fun b => leNat b / 32) (bytesAt_take p (by omega))⟩
  rw [pktPayload, len, pktPayload, bytesAt_take p (le_refl _)]

theorem State.storePacket_inner (h : queueKind n = 0) (s : State) (p : List Byte) (req : Nat) : s.storePacket n p req = (s, []) := by
  simp [State.storePacket, h]

/-- A packet enters a queue of the queue memory: nothing but its queue, its registers and events. -/
theorem State.enqueue_inner (h : queueKind n = 0) (s : State) (p : List Byte) (t : State) (ht : t = s.enqueue n p) :
    t.queue n = { s.queue n with pkts := (s.queue n).pkts ++ [⟨p, false, s.air, 0, [], []⟩] } ∧ (∀ m, m ≠ n → t.queue m = s.queue m) ∧
      (∃ q, State.reports { s with queues := q } t) ∧ s.regsBut t [Reg.QUE_LEVELn n, Reg.QUE_WMn n, Reg.QUE_COUNTn n, Reg.EVT_DROP] := by
  have put : s.enqueue n p = (s.setQueue n { s.queue n with pkts := (s.queue n).pkts ++ [⟨p, false, s.air, 0, [], []⟩] }).relevel n := by
    rw [State.enqueue, State.putPacket, State.storePacket_inner h]
  rw [put] at ht
  have shown := State.relevel_reports (s.setQueue n { s.queue n with pkts := (s.queue n).pkts ++ [⟨p, false, s.air, 0, [], []⟩] }) n
  have regs := State.relevel_regsBut (s.setQueue n { s.queue n with pkts := (s.queue n).pkts ++ [⟨p, false, s.air, 0, [], []⟩] }) n
  rw [← ht] at shown regs
  refine ⟨?_, fun m hm => ?_, ⟨_, shown⟩, regs⟩
  · rw [State.queue_congr shown.queues, State.queue_setQueue_same]
  · rw [State.queue_congr shown.queues, State.queue_setQueue_ne _ _ hm]

theorem mgqBegins (k : Fin 2) (bs : List Byte) (hd : ∀ n < 12, k.val ∉ (s.queue n).doomed) (p : List Byte) (hp : p = typed tyMgq bs) (u : State)
    (hu : u = (s.receive k.val false false p).1) (ok : (s.receive k.val false false p).2 = true) (empty : (u.queue 10).pkts = [])
    (idle : u.link.mgq = none) (hl : u.linkIs lnkActive = true) (credit : (u.queue 27).unlimited = true) (room : (u.queue 27).occupancy + 3 ≤ 256)
    (good : mgqMalformed (pktPayload p) (pktLen p) = false) (len : p.length = 20 + pktLen p) :
    ∃ t, exec (.mgqReceive k false false bs) s = .next t ∧
      t.link.mgq = some ⟨pktPayload p, pktSub p, 0, [], false⟩ ∧ (t.queue 10).pkts.length = 1 ∧ (∀ m, m ≠ 10 → t.queue m = u.queue m) := by
  subst hp
  have run : exec (.mgqReceive k false false bs) s = .next (s.onAccept k.val false false (typed tyMgq bs) (fun s =>
    State.mgqStart 256 (s.enqueue 10 (bytesAt (typed tyMgq bs) 0 (16 + pktLen (typed tyMgq bs)))))) := rfl
  obtain ⟨payload, sub⟩ := pktFields_untrailed len
  have size : (pktPayload (typed tyMgq bs)).length = pktLen (typed tyMgq bs) := bytesAt_length _ _ _
  generalize bytesAt (typed tyMgq bs) 0 (16 + pktLen (typed tyMgq bs)) = b at *
  obtain ⟨this, others, ⟨q, frame⟩, regs⟩ := u.enqueue_inner (n := 10) (by decide) b _ rfl
  generalize hv : u.enqueue 10 b = v at *
  have link : v.link = u.link := by
    obtain ⟨r, l, rfl⟩ := frame
    rfl
  rw [empty, List.nil_append] at this
  have ready : v.mgqReady := ⟨by rw [link, idle], (State.linkIs_congr (regs _ (by decide)) _).trans hl, by rw [others 27 (by decide), credit],
    by rw [others 27 (by decide)]; exact room⟩
  have starts := State.mgqStart_begins ready (p := ⟨b, false, u.air, 0, [], []⟩) (ps := []) (by rw [this]) (by rw [payload, size, good]) 255
  have queue (m : Nat) : State.queue { v.setQueue 10 { v.queue 10 with pkts := [{ (⟨b, false, u.air, 0, [], []⟩ : StoredPkt) with begun := true }] } with
      link := { v.link with mgq := some ⟨pktPayload b, pktSub b, 0, [], false⟩ } } m =
      (v.setQueue 10 { v.queue 10 with pkts := [{ (⟨b, false, u.air, 0, [], []⟩ : StoredPkt) with begun := true }] }).queue m := rfl
  have set := v.queue_setQueue_same 10 { v.queue 10 with pkts := [{ (⟨b, false, u.air, 0, [], []⟩ : StoredPkt) with begun := true }] }
  have left (m : Nat) (hm : m ≠ 10) := v.queue_setQueue_ne { v.queue 10 with pkts := [{ (⟨b, false, u.air, 0, [], []⟩ : StoredPkt) with begun := true }] } hm
  rw [State.onAccept_queued (by decide) (by decide) hd ok _ (by
    intro m
    rw [← hu, hv, starts, queue]
    by_cases hm : m = 10
    · rw [hm, set, this]
    · rw [left m hm, others m hm]), ← hu, hv, starts] at run
  refine ⟨_, run, ?_, ?_, fun m hm => ?_⟩
  · rw [← payload, ← sub]
  · rw [queue, set]
    rfl
  · rw [queue, left m hm, others m hm]

/-- Settles O29: a link-control packet that passes the checks meets the state as it was, its framing found; an MGQ enters QM and,
alone there, begins. -/
theorem linkControlPacketsTakeEffect : Obligations.LinkControlPacketsTakeEffect := by
  unfold Obligations.LinkControlPacketsTakeEffect
  intro k bs s hd
  refine ⟨?crd, ?reconcile, ?cap, ?lbk, ?mgq⟩
  case crd =>
    intro p hp u hu ok len w hw n hn use empty idle
    exact crdTakesEffect k bs hd p hp u hu ok len w hw n hn use empty idle
  case reconcile =>
    intro n r rs hr d hd' lo hi hl
    exact reconciles n hr d hd' lo hi hl
  case cap =>
    rintro p rfl u hu ok hl
    exact ⟨fun len seq => capAcknowledged hd ok hl u hu len seq, fun len good => capAccepted hd ok hl u hu len good⟩
  case lbk =>
    rintro p rfl u hu ok
    exact ⟨lbkWaits hd ok u hu, lbkDrops hd ok u hu⟩
  case mgq =>
    intro p hp u hu ok empty idle hl credit room good len
    exact mgqBegins k bs hd p hp u hu ok empty idle hl credit room good len

end Sys2Proof.Machine

/-!
PROOFS. What the queues lose, and the end of a session (O25).
-/

namespace Sys2Proof.Machine

variable {s t u : State} {as : List Nat} {a n m : Nat} {q : Requester} {d : Word}

/-! ### Discarded packets (R142 to R144) -/

/-- What the end of a session and a flush may change. -/
def State.unwinds (s t : State) : Prop := ∃ r l x k c, t = { s with regs := r, raise := l, queues := x, link := k, sect := c }

theorem State.unwinds.refl (s : State) : s.unwinds s := ⟨_, _, _, _, _, rfl⟩

theorem State.unwinds.trans (h : s.unwinds t) (h' : t.unwinds u) : s.unwinds u := by
  obtain ⟨r, l, x, k, c, rfl⟩ := h
  obtain ⟨r', l', x', k', c', rfl⟩ := h'
  exact ⟨_, _, _, _, _, rfl⟩

theorem State.reports.unwinds (h : s.reports t) : s.unwinds t := by
  obtain ⟨r, l, rfl⟩ := h
  exact ⟨_, _, _, _, _, rfl⟩

theorem State.dropSecs_sect (s : State) (n : Nat) (gone : List StoredPkt) :
    ∃ c, s.dropSecs n gone = { s with sect := c } ∧ (n ≠ 8 → c = s.sect) := by
  unfold State.dropSecs
  split_ifs with h
  · exact ⟨_, rfl, fun h' => absurd h h'⟩
  · exact ⟨_, rfl, fun _ => rfl⟩

/-- The registers of queue `n` that a discard may change. -/
def discardRegs (n : Nat) : List Nat :=
  [Reg.QUE_LEVELn n, Reg.QUE_WMn n, Reg.QUE_COUNTn n, Reg.EVT_DROP, Reg.QUE_DROPAn n, Reg.QUE_GRANTn n]

/-- Queue `n` without the packets that satisfy `c`. -/
def State.thinned (s : State) (n : Nat) (c : StoredPkt → Bool) : State :=
  s.setQueue n { s.queue n with pkts := (s.queue n).pkts.filter (fun p => !c p) }

/-- The packets of queue `n` that satisfy `c` counted as discarded, and the sections that they brought dropped. -/
def State.counted (s : State) (n : Nat) (gone : List StoredPkt) : State :=
  (s.dropSecs n gone).count (Fld.QUE_DROPAn_DISCARD n) gone.length

theorem State.discardIf_eq (s : State) (n : Nat) (c : StoredPkt → Bool) : s.discardIf n c =
    if queueInbound n then (((s.thinned n c).relevel n).counted n ((s.queue n).pkts.filter c)).grant n ((((s.queue n).pkts.filter c).map StoredPkt.credits).sum)
    else ((s.thinned n c).relevel n).counted n ((s.queue n).pkts.filter c) := rfl

theorem State.counted_frame (s : State) (n : Nat) (gone : List StoredPkt) :
    ∃ r c, s.counted n gone = { s with regs := r, sect := c } ∧ (n ≠ 8 → c = s.sect) := by
  obtain ⟨c, drop, same⟩ := s.dropSecs_sect n gone
  rw [State.counted, drop]
  exact ⟨_, c, rfl, same⟩

theorem State.dropSecs_regs (s : State) (n : Nat) (gone : List StoredPkt) : (s.dropSecs n gone).regs = s.regs := by
  obtain ⟨c, drop, -⟩ := s.dropSecs_sect n gone
  rw [drop]

theorem State.counted_regsBut (s : State) (n : Nat) (gone : List StoredPkt) : s.regsBut (s.counted n gone) [Reg.QUE_DROPAn n] :=
  (State.regsBut.of_regs (s.dropSecs_regs n gone) _).count _ (by simp)

theorem State.counted_queues (s : State) (n : Nat) (gone : List StoredPkt) : (s.counted n gone).queues = s.queues := by
  obtain ⟨r, c, frame, -⟩ := s.counted_frame n gone
  rw [frame]

theorem State.queue_counted (s : State) (n : Nat) (gone : List StoredPkt) : (s.counted n gone).queue m = s.queue m :=
  State.queue_congr (s.counted_queues n gone) m

/-- What a discard leaves before the credits return. -/
def State.culled (s : State) (n : Nat) (c : StoredPkt → Bool) : State :=
  ((s.thinned n c).relevel n).counted n ((s.queue n).pkts.filter c)

theorem State.queue_culled_same (s : State) (n : Nat) (c : StoredPkt → Bool) :
    (s.culled n c).queue n = { s.queue n with pkts := (s.queue n).pkts.filter (fun p => !c p) } := by
  rw [State.culled, State.queue_counted, State.queue_congr (State.relevel_reports _ _).queues, State.thinned, State.queue_setQueue_same]

theorem State.queue_culled_ne (s : State) (c : StoredPkt → Bool) (h : m ≠ n) : (s.culled n c).queue m = s.queue m := by
  rw [State.culled, State.queue_counted, State.queue_congr (State.relevel_reports _ _).queues, State.thinned, State.queue_setQueue_ne _ _ h]

theorem State.culled_frame (s : State) (n : Nat) (c : StoredPkt → Bool) :
    ∃ r l x c', s.culled n c = { s with regs := r, raise := l, queues := x, sect := c' } ∧ (n ≠ 8 → c' = s.sect) := by
  have shown := (s.thinned n c).relevel_reports n
  obtain ⟨r, c', frame, same⟩ := ((s.thinned n c).relevel n).counted_frame n ((s.queue n).pkts.filter c)
  rw [State.culled, frame]
  obtain ⟨r', l, shown⟩ := shown
  rw [shown] at same ⊢
  exact ⟨_, _, _, _, rfl, same⟩

theorem State.culled_regsBut (s : State) (n : Nat) (c : StoredPkt → Bool) :
    s.regsBut (s.culled n c) [Reg.QUE_LEVELn n, Reg.QUE_WMn n, Reg.QUE_COUNTn n, Reg.EVT_DROP, Reg.QUE_DROPAn n] := by
  intro a ha
  simp only [List.mem_cons, List.not_mem_nil, or_false, not_or] at ha
  exact (((s.thinned n c).relevel n).counted_regsBut n _ a (by simpa using ha.2.2.2.2)).trans
    ((s.thinned n c).relevel_regsBut n a (by simp only [List.mem_cons, List.not_mem_nil, or_false, not_or]; tauto))

theorem State.discardIf_culled (s : State) (n : Nat) (c : StoredPkt → Bool) : s.discardIf n c =
    if queueInbound n then (s.culled n c).grant n ((((s.queue n).pkts.filter c).map StoredPkt.credits).sum) else s.culled n c := rfl

/-- A discard takes the packets from their queue and leaves every other queue. -/
theorem State.discardIf_queues (s : State) (n : Nat) (c : StoredPkt → Bool) :
    QueueState.held { s.queue n with pkts := (s.queue n).pkts.filter (fun p => !c p) } ((s.discardIf n c).queue n) ∧
      (∀ m, m ≠ n → (s.discardIf n c).queue m = s.queue m) := by
  rw [State.discardIf_culled]
  split_ifs
  · refine ⟨?_, fun m hm => ?_⟩
    · rw [← s.queue_culled_same n c]
      exact State.grant_queue_same _ n _
    · rw [State.grant_queue_ne _ _ hm, State.queue_culled_ne _ _ hm]
  · exact ⟨⟨_, _, (s.queue_culled_same n c).trans rfl⟩, fun m hm => State.queue_culled_ne _ _ hm⟩

theorem State.discardIf_frame (s : State) (n : Nat) (c : StoredPkt → Bool) :
    ∃ r l x c', s.discardIf n c = { s with regs := r, raise := l, queues := x, sect := c' } ∧ (n ≠ 8 → c' = s.sect) := by
  obtain ⟨r, l, x, c', frame, same⟩ := s.culled_frame n c
  rw [State.discardIf_culled]
  split_ifs
  · obtain ⟨r', x', grant⟩ := (s.culled n c).grant_frame n ((((s.queue n).pkts.filter c).map StoredPkt.credits).sum)
    rw [grant, frame]
    exact ⟨_, _, _, _, rfl, same⟩
  · exact ⟨r, l, x, c', frame, same⟩

theorem State.discardIf_unwinds (s : State) (n : Nat) (c : StoredPkt → Bool) : s.unwinds (s.discardIf n c) := by
  obtain ⟨r, l, x, c', frame, -⟩ := s.discardIf_frame n c
  rw [frame]
  exact ⟨_, _, _, _, _, rfl⟩

theorem State.discardIf_regsBut (s : State) (n : Nat) (c : StoredPkt → Bool) : s.regsBut (s.discardIf n c) (discardRegs n) := by
  have culled : s.regsBut (s.culled n c) (discardRegs n) := fun a ha => s.culled_regsBut n c a (by
    simp only [discardRegs, List.mem_cons, List.not_mem_nil, or_false, not_or] at ha ⊢
    tauto)
  rw [State.discardIf_culled]
  split_ifs
  · exact culled.trans fun a ha => State.grant_regsBut _ n _ a (by
      simp only [discardRegs, List.mem_cons, List.not_mem_nil, or_false, not_or] at ha ⊢
      tauto)
  · exact culled

/-! ### Room in the raise FIFO -/

/-- An event takes one place. -/
theorem State.raiseRoom.event (h : s.raiseRoom (m + 1)) (code info : Nat) : (s.event code info).raiseRoom m := by
  rw [State.event_raiseRoom h (Nat.succ_pos m)]
  have := h.2
  exact ⟨h.1, by simp only [List.length_append, List.length_singleton]; omega⟩

theorem State.relevel_room (h : s.raiseRoom (m + 1)) (n : Nat) : (s.relevel n).raiseRoom m := by
  unfold State.relevel
  dsimp only
  split_ifs
  · exact State.raiseRoom.event
      (s := ((s.setFld (Fld.QUE_LEVELn_LIVE n) (s.queue n).occupancy).setFld (Fld.QUE_WMn_STICKY n) 1).count (Fld.QUE_COUNTn_WM_CROSS n) 1)
      (h.congr rfl rfl) _ _
  · exact (h.mono (Nat.le_succ m)).congr rfl rfl

theorem State.culled_room (h : s.raiseRoom (m + 1)) (n : Nat) (c : StoredPkt → Bool) : (s.culled n c).raiseRoom m := by
  have level : ((s.thinned n c).relevel n).raiseRoom m := State.relevel_room (s := s.thinned n c) (h.congr rfl rfl) n
  obtain ⟨r, c', frame, -⟩ := ((s.thinned n c).relevel n).counted_frame n ((s.queue n).pkts.filter c)
  rw [State.culled, frame]
  exact level.congr rfl rfl

theorem State.grant_room (h : s.raiseRoom m) (n c : Nat) : (s.grant n c).raiseRoom m := by
  obtain ⟨r, x, frame⟩ := s.grant_frame n c
  rw [frame]
  exact h.congr rfl rfl

/-- A discard raises one event at most. -/
theorem State.discardIf_room (h : s.raiseRoom (m + 1)) (n : Nat) (c : StoredPkt → Bool) : (s.discardIf n c).raiseRoom m := by
  rw [State.discardIf_culled]
  split_ifs
  · exact State.grant_room (State.culled_room h n c) n _
  · exact State.culled_room h n c

/-! ### Flushes (R142) -/

theorem State.flushQueue_eq (s : State) (n : Nat) : s.flushQueue n =
    (if queueInbound n then s.discardIf n (fun p => !p.begun)
      else (s.discardIf n (fun p => !p.begun)).setQueue n { (s.discardIf n (fun p => !p.begun)).queue n with init0 := true, init1 := true }).flushBit n false := rfl

theorem State.flushQueue_unwinds (s : State) (n : Nat) : s.unwinds (s.flushQueue n) := by
  have lost := s.discardIf_unwinds n (fun p => !p.begun)
  rw [State.flushQueue_eq]
  split_ifs
  · exact lost.trans ⟨_, _, _, _, _, rfl⟩
  · exact lost.trans ⟨_, _, _, _, _, rfl⟩

theorem State.flushQueue_regsBut (s : State) (n : Nat) : s.regsBut (s.flushQueue n) (Reg.QUE_FLUSH :: discardRegs n) := by
  have lost : s.regsBut (s.discardIf n (fun p => !p.begun)) (Reg.QUE_FLUSH :: discardRegs n) :=
    fun a ha => s.discardIf_regsBut n _ a (fun h => ha (List.mem_cons_of_mem _ h))
  rw [State.flushQueue_eq]
  split_ifs
  · exact lost.wr _ (by simp)
  · exact (lost.trans (State.regsBut.of_regs rfl _)).wr _ (by simp)

theorem State.flushQueue_room (h : s.raiseRoom (m + 1)) (n : Nat) : (s.flushQueue n).raiseRoom m := by
  have lost := State.discardIf_room h n (fun p => !p.begun)
  rw [State.flushQueue_eq]
  split_ifs
  · exact lost.congr rfl rfl
  · exact lost.congr rfl rfl

theorem State.flushQueue_doomed (s : State) (n m : Nat) : ((s.flushQueue n).queue m).doomed = (s.queue m).doomed := by
  obtain ⟨same, others⟩ := s.discardIf_queues n (fun p => !p.begun)
  have lost : ((s.discardIf n (fun p => !p.begun)).queue m).doomed = (s.queue m).doomed := by
    rcases eq_or_ne m n with rfl | hm
    · obtain ⟨r, b, same⟩ := same
      rw [same]
    · rw [others m hm]
  have bit (v : State) : (v.flushBit n false).queue m = v.queue m := rfl
  rw [State.flushQueue_eq, bit]
  split_ifs
  · exact lost
  · rcases eq_or_ne m n with rfl | hm
    · rw [State.queue_setQueue_same]
      exact lost
    · rw [State.queue_setQueue_ne _ _ hm]
      exact lost

/-! ### The packets that were arriving -/

/-- Packets of queue `n` arrive on the QBs `l`, each to be discarded at its end. -/
def State.dooms (s : State) (n : Nat) (l : List Nat) : State := s.setQueue n { s.queue n with doomed := l }

/-- One queue at the end of a packet on QBk. -/
def State.endReceptionOf (k : Nat) (s : State) (n : Nat) : State :=
  if (s.queue n).doomed.contains k then
    let left := (s.queue n).doomed.filter (· != k)
    let s := s.dooms n left
    if left = [] ∧ (s.rd Reg.QUE_FLUSH).getLsbD n then s.flushQueue n else s
  else s

theorem State.endReception_eq (s : State) (k : Nat) : s.endReception k = s.forEach 12 (State.endReceptionOf k) := rfl

/-- The queues of which a packet is still arriving, each of which may have one flush waiting. -/
def State.doomedQueues (s : State) : Nat := ((Finset.range 12).filter (fun n => (s.queue n).doomed ≠ [])).card

theorem State.doomedQueues_le (s : State) : s.doomedQueues ≤ 12 := (Finset.card_filter_le _ _).trans_eq (Finset.card_range 12)

theorem State.doomedQueues_mono (h : ∀ n < 12, (s.queue n).doomed = [] → (t.queue n).doomed = []) : t.doomedQueues ≤ s.doomedQueues :=
  Finset.card_le_card fun n hn => by
    simp only [Finset.mem_filter, Finset.mem_range] at hn ⊢
    exact ⟨hn.1, mt (h n hn.1) hn.2⟩

theorem State.doomedQueues_lt (hn : n < 12) (old : (s.queue n).doomed ≠ []) (new : (t.queue n).doomed = [])
    (others : ∀ m, m ≠ n → (t.queue m).doomed = (s.queue m).doomed) : t.doomedQueues < s.doomedQueues := by
  refine Finset.card_lt_card (Finset.ssubset_iff_subset_ne.mpr ⟨fun k hk => ?_, fun same => ?_⟩)
  · simp only [Finset.mem_filter, Finset.mem_range] at hk ⊢
    rcases eq_or_ne k n with rfl | hkn
    · exact absurd new hk.2
    · exact ⟨hk.1, by rw [← others k hkn]; exact hk.2⟩
  · have mem : n ∈ (Finset.range 12).filter (fun n => (s.queue n).doomed ≠ []) := by simp [hn, old]
    rw [← same] at mem
    exact (Finset.mem_filter.mp mem).2 new

theorem State.queue_dooms (s : State) (n : Nat) (l : List Nat) :
    ((s.dooms n l).queue n).doomed = l ∧
      ∀ m, m ≠ n → ((s.dooms n l).queue m).doomed = (s.queue m).doomed :=
  ⟨by rw [State.dooms, State.queue_setQueue_same], fun m hm => by rw [State.dooms, State.queue_setQueue_ne _ _ hm]⟩

/-- A flush that had waited takes its queue from the doomed ones, so that its one event is paid for. -/
theorem State.endReceptionOf_room {k : Nat} (hn : n < 12) (h : s.raiseRoom (s.doomedQueues + m)) :
    (s.endReceptionOf k n).raiseRoom ((s.endReceptionOf k n).doomedQueues + m) := by
  unfold State.endReceptionOf
  dsimp only
  split_ifs with doomed flush
  · obtain ⟨same, others⟩ := s.queue_dooms n ((s.queue n).doomed.filter (· != k))
    rw [flush.1] at same others ⊢
    have fewer : ((s.dooms n []).flushQueue n).doomedQueues < s.doomedQueues :=
      State.doomedQueues_lt hn (fun h => by simp [h] at doomed) (by rw [State.flushQueue_doomed]; exact same)
        fun m hm => by rw [State.flushQueue_doomed]; exact others m hm
    exact State.flushQueue_room (s := s.dooms n []) (State.raiseRoom.congr (h.mono (by omega)) rfl rfl) n
  · obtain ⟨same, others⟩ := s.queue_dooms n ((s.queue n).doomed.filter (· != k))
    have fewer : (s.dooms n ((s.queue n).doomed.filter (· != k))).doomedQueues ≤ s.doomedQueues :=
      State.doomedQueues_mono fun m hm none => by
        rcases eq_or_ne m n with rfl | hmn
        · rw [same, none, List.filter_nil]
        · rw [others m hmn, none]
    exact State.raiseRoom.congr (h.mono (by omega)) rfl rfl
  · exact h

theorem State.endReceptionOf_unwinds (s : State) (k n : Nat) : s.unwinds (s.endReceptionOf k n) := by
  unfold State.endReceptionOf
  dsimp only
  split_ifs
  · exact State.unwinds.trans ⟨_, _, _, _, _, rfl⟩ (State.flushQueue_unwinds (s.dooms n _) n)
  · exact ⟨_, _, _, _, _, rfl⟩
  · exact State.unwinds.refl s

theorem State.endReceptionOf_regsBut (s : State) (k n : Nat) : s.regsBut (s.endReceptionOf k n) (Reg.QUE_FLUSH :: discardRegs n) := by
  unfold State.endReceptionOf
  dsimp only
  split_ifs
  · exact (State.regsBut.of_regs rfl _).trans (State.flushQueue_regsBut (s.dooms n _) n)
  · exact State.regsBut.of_regs rfl _
  · exact State.regsBut.refl s _

theorem State.forEach_room {f : State → Nat → State} {j : Nat} (hj : j ≤ 12)
    (hf : ∀ v : State, ∀ n < 12, v.raiseRoom (v.doomedQueues + m) → (f v n).raiseRoom ((f v n).doomedQueues + m))
    (h : s.raiseRoom (s.doomedQueues + m)) : (s.forEach j f).raiseRoom ((s.forEach j f).doomedQueues + m) := by
  induction j with
  | zero => exact h
  | succ j ih =>
    rw [State.forEach_succ]
    exact hf _ j (by omega) (ih (by omega))

theorem State.endReception_room {k : Nat} (h : s.raiseRoom (s.doomedQueues + m)) :
    (s.endReception k).raiseRoom ((s.endReception k).doomedQueues + m) :=
  State.forEach_room (Nat.le_refl 12) (fun _ _ hn h => State.endReceptionOf_room hn h) h

theorem State.unwinds.forEach {f : State → Nat → State} (hf : ∀ v n, State.unwinds v (f v n)) (s : State) (j : Nat) : s.unwinds (s.forEach j f) := by
  induction j with
  | zero => exact State.unwinds.refl s
  | succ j ih =>
    rw [State.forEach_succ]
    exact ih.trans (hf _ j)

theorem State.endReception_unwinds (s : State) (k : Nat) : s.unwinds (s.endReception k) :=
  State.unwinds.forEach (fun v n => v.endReceptionOf_unwinds k n) s 12

/-! ### The end of a session (R115, R144) -/

/-- The registers of the link read as before. -/
def State.keepsLink (s t : State) : Prop := ∀ a, 0x80000 ≤ a → a < 0xA0000 → t.rd a = s.rd a

theorem State.keepsLink.refl (s : State) : s.keepsLink s := fun _ _ _ => rfl

theorem State.keepsLink.trans (h : s.keepsLink t) (h' : t.keepsLink u) : s.keepsLink u :=
  fun a lo hi => (h' a lo hi).trans (h a lo hi)

theorem State.regsBut.keepsLink (h : s.regsBut t as) (ha : ∀ a ∈ as, a < 0x80000 ∨ 0xA0000 ≤ a) : s.keepsLink t :=
  fun a lo hi => h a fun mem => by have := ha a mem; omega

theorem State.keepsLink.of_regs (h : t.regs = s.regs) : s.keepsLink t := fun a _ _ => congrArg (SMap.get (resetWord a) · a) h

theorem State.keepsLink.foldl {α : Type} {f : State → α → State} (hf : ∀ v x, State.keepsLink v (f v x)) (l : List α) (s : State) :
    s.keepsLink (l.foldl f s) := by
  induction l generalizing s with
  | nil => exact State.keepsLink.refl s
  | cons x l ih => exact (hf s x).trans (ih _)

theorem State.unwinds.foldl {α : Type} {f : State → α → State} (hf : ∀ v x, State.unwinds v (f v x)) (l : List α) (s : State) :
    s.unwinds (l.foldl f s) := by
  induction l generalizing s with
  | nil => exact State.unwinds.refl s
  | cons x l ih => exact (hf s x).trans (ih _)

theorem flushRegs_high (n : Nat) : ∀ a ∈ Reg.QUE_FLUSH :: discardRegs n, a < 0x80000 ∨ 0xA0000 ≤ a := by
  simp only [discardRegs, List.forall_mem_cons, List.not_mem_nil, false_imp_iff, implies_true, and_true]
  exact ⟨Or.inr (by decide), Or.inr (Nat.le_add_right_of_le (by decide)), Or.inr (Nat.le_add_right_of_le (by decide)),
    Or.inr (Nat.le_add_right_of_le (by decide)), by decide, Or.inr (Nat.le_add_right_of_le (by decide)), Or.inr (Nat.le_add_right_of_le (by decide))⟩

theorem State.discardIf_keepsLink (s : State) (n : Nat) (c : StoredPkt → Bool) : s.keepsLink (s.discardIf n c) :=
  (s.discardIf_regsBut n c).keepsLink fun a h => flushRegs_high n a (List.mem_cons_of_mem _ h)

theorem State.endReception_keepsLink (s : State) (k : Nat) : s.keepsLink (s.endReception k) := by
  rw [State.endReception_eq, State.forEach]
  exact State.keepsLink.foldl (fun v n => (v.endReceptionOf_regsBut k n).keepsLink (flushRegs_high n)) _ s

/-- The packets being sent when a session ends, each counted as discarded. -/
def State.countFlights (s : State) : State := s.link.flight.foldl (fun s f => s.count (Fld.QUE_DROPAn_DISCARD f.queue) 1) s

theorem State.countFlights_beside (s : State) : s.beside s.countFlights := State.beside.foldl (State.beside.refl s) (fun _ _ => ⟨_, rfl⟩) _

theorem dropped_ne {a : Nat} (h : a < 0xA0000) (n : Nat) : a ≠ (Fld.QUE_DROPAn_DISCARD n).addr :=
  ne_of_lt (lt_of_lt_of_le h (Nat.le_add_right_of_le (by decide)))

theorem State.countFlights_keepsLink (s : State) : s.keepsLink s.countFlights :=
  State.keepsLink.foldl (fun v f _ _ hi => State.rd_count_ne v (Fld.QUE_DROPAn_DISCARD f.queue) 1 (dropped_ne hi f.queue)) _ s

/-- What arrives is discarded, and with it the management queries not yet begun. -/
def State.dropInbound (s : State) : State := ((s.endReception 0).endReception 1).discardIf 10 (fun p => !p.begun)

/-- Nothing is being sent. -/
def State.grounded (s : State) : State := { s with link := { s.link with flight := [] } }

/-- The outbound queues emptied. -/
def State.emptyOutbound (s : State) : State := ((List.range 12).map (· + 16)).foldl (fun s n => s.discardIf n (fun _ => true)) s

def State.countRecords (s : State) : State := s.count (Fld.QUE_DROPAn_DISCARD 26) s.link.records.length

/-- Queue `n` out of use. -/
def State.closeQueue (s : State) (n : Nat) : State :=
  s.setQueue n { s.queue n with use := false, dirty := false, reports := [], expect0 := none, expect1 := none }

def State.closeQueues (s : State) : State := s.forEach 32 State.closeQueue

def State.forgetRecords (s : State) : State := { s with link := { s.link with records := [], lbk := none } }

theorem State.forgetRecords_frame (s : State) : ∃ k, s.forgetRecords = { s with link := k } ∧ k.records = [] := ⟨_, rfl, rfl⟩

def State.showClosed (s : State) : State := (s.setFld Fld.QUE_STATUS_MAX_LEN 0).setFld Fld.QUE_STATUS_LEVEL 0

theorem State.leaveSession_eq (s : State) : s.leaveSession =
    s.dropInbound.countFlights.grounded.emptyOutbound.countRecords.closeQueues.forgetRecords.showClosed := by
  unfold State.leaveSession
  extract_lets s1 s2 s3 l4 s4 s5 s6 s7 l8 s8
  have e2 : s2 = s.dropInbound := rfl
  have e3 : s3 = s2.countFlights := rfl
  have e4 : s4 = s3.grounded := rfl
  have e5 : s5 = s4.emptyOutbound := rfl
  have e6 : s6 = s5.countRecords := rfl
  have e7 : s7 = s6.closeQueues := rfl
  have e8 : s8 = s7.forgetRecords := rfl
  rw [← e2, ← e3, ← e4, ← e5, ← e6, ← e7, ← e8]
  rfl

/-- One event at most for each queue named. -/
theorem State.discards_room (c : StoredPkt → Bool) (l : List Nat) (h : s.raiseRoom (l.length + m)) :
    (l.foldl (fun s n => s.discardIf n c) s).raiseRoom m := by
  induction l generalizing s with
  | nil => exact (Nat.zero_add m ▸ h :)
  | cons n l ih => exact ih (State.discardIf_room (h.mono (by simp only [List.length_cons]; omega)) n c)

/-- The queues named are empty after their discard, and the others hold what they held. -/
theorem State.discards_pkts (l : List Nat) (s : State) (n : Nat) (hn : n ∈ l ∨ (s.queue n).pkts = []) :
    ((l.foldl (fun s n => s.discardIf n (fun _ => true)) s).queue n).pkts = [] := by
  induction l generalizing s with
  | nil => exact hn.resolve_left (by simp)
  | cons k l ih =>
    obtain ⟨⟨r, b, same⟩, others⟩ := s.discardIf_queues k (fun _ => true)
    refine ih _ ?_
    rcases eq_or_ne n k with rfl | hk
    · exact Or.inr (by rw [same]; simp)
    · rw [others n hk]
      exact hn.imp_left fun h => (List.mem_cons.mp h).resolve_left hk

theorem State.emptyOutbound_empties (s : State) (lo : 16 ≤ n) (hi : n < 28) : (s.emptyOutbound.queue n).pkts = [] :=
  State.discards_pkts _ s n (Or.inl (List.mem_map.mpr ⟨n - 16, List.mem_range.mpr (by omega), by omega⟩))

theorem State.closeQueues_queue (s : State) {n : Nat} (hn : n < 32) :
    s.closeQueues.queue n = { s.queue n with use := false, dirty := false, reports := [], expect0 := none, expect1 := none } := by
  obtain ⟨u, hu, -, turn⟩ := State.forEach_once (f := State.closeQueue) (fun u => u.queue n) (fun _ => ()) hn
    (fun u k _ hk => State.queue_setQueue_ne _ _ (Ne.symm hk)) (fun _ _ => rfl) s
  have after : (u.closeQueue n).queue n = _ := State.queue_setQueue_same _ _ _
  rw [State.closeQueues, turn, after, hu]

theorem State.dropInbound_room (h : s.raiseRoom (m + 13)) : s.dropInbound.raiseRoom m := by
  have first : (s.endReception 0).raiseRoom ((s.endReception 0).doomedQueues + (m + 1)) :=
    State.endReception_room (h.mono (by have := s.doomedQueues_le; omega))
  exact State.discardIf_room ((State.endReception_room first).mono (Nat.le_add_left _ _)) 10 _

theorem State.dropInbound_unwinds (s : State) : s.unwinds s.dropInbound :=
  ((s.endReception_unwinds 0).trans (State.endReception_unwinds _ 1)).trans (State.discardIf_unwinds _ 10 _)

theorem State.dropInbound_keepsLink (s : State) : s.keepsLink s.dropInbound :=
  ((s.endReception_keepsLink 0).trans (State.endReception_keepsLink _ 1)).trans (State.discardIf_keepsLink _ 10 _)

theorem State.emptyOutbound_unwinds (s : State) : s.unwinds s.emptyOutbound := State.unwinds.foldl (fun v n => v.discardIf_unwinds n _) _ s

theorem State.emptyOutbound_keepsLink (s : State) : s.keepsLink s.emptyOutbound := State.keepsLink.foldl (fun v n => v.discardIf_keepsLink n _) _ s

theorem State.closeQueues_frame (s : State) : ∃ x, s.closeQueues = { s with queues := x } := by
  unfold State.closeQueues State.forEach
  generalize List.range 32 = l
  induction l generalizing s with
  | nil => exact ⟨_, rfl⟩
  | cons n l ih =>
    obtain ⟨x, frame⟩ := ih (s.closeQueue n)
    rw [List.foldl_cons, frame]
    exact ⟨_, rfl⟩

/-- The first half of a session's end: what arrives, leaves or waits to leave is gone. -/
def State.emptied (s : State) : State := s.dropInbound.countFlights.grounded.emptyOutbound

/-- The second half: no queue in use, no record waiting. -/
def State.shut (s : State) : State := s.countRecords.closeQueues.forgetRecords.showClosed

theorem State.emptied_empties (room : s.raiseRoom (m + 25)) (t : State) (ht : t = s.emptied) :
    s.unwinds t ∧ s.keepsLink t ∧ t.raiseRoom m ∧ ∀ n, 16 ≤ n → n < 28 → (t.queue n).pkts = [] := by
  unfold State.emptied at ht
  have room1 : s.dropInbound.raiseRoom (m + 12) := State.dropInbound_room room
  have part1 := s.dropInbound_unwinds
  have link1 := s.dropInbound_keepsLink
  generalize s.dropInbound = v1 at *
  have part2 := v1.countFlights_beside
  have link2 := link1.trans v1.countFlights_keepsLink
  generalize v1.countFlights = v2 at *
  have part3 : s.unwinds v2.grounded := part1.trans (part2.reports.unwinds.trans ⟨_, _, _, _, _, rfl⟩)
  have link3 : s.keepsLink v2.grounded := link2.trans (State.keepsLink.of_regs rfl)
  have room3 : v2.grounded.raiseRoom (m + 12) := by
    obtain ⟨r, rfl⟩ := part2
    exact room1.congr rfl rfl
  generalize v2.grounded = v3 at *
  subst ht
  exact ⟨part3.trans v3.emptyOutbound_unwinds, link3.trans v3.emptyOutbound_keepsLink,
    State.discards_room _ _ (room3.mono (by simp [Nat.add_comm])), fun n => v3.emptyOutbound_empties⟩

theorem State.shut_shuts (s : State) (t : State) (ht : t = s.shut) :
    s.unwinds t ∧ s.keepsLink t ∧ (s.raiseRoom m → t.raiseRoom m) ∧ t.link.records = [] ∧
      ∀ n < 32, (t.queue n).use = false ∧ (t.queue n).pkts = (s.queue n).pkts := by
  unfold State.shut at ht
  have link5 : s.keepsLink s.countRecords := fun a lo hi => State.rd_count_ne s _ _ (dropped_ne hi 26)
  obtain ⟨r, frame5⟩ : s.beside s.countRecords := ⟨_, rfl⟩
  have queue5 (n) : s.countRecords.queue n = s.queue n := by rw [State.countRecords, State.count, State.queue_setFld]
  generalize s.countRecords = v5 at *
  obtain ⟨x, frame6⟩ := v5.closeQueues_frame
  have closed := fun n => v5.closeQueues_queue (n := n)
  have link6 : v5.keepsLink v5.closeQueues := State.keepsLink.of_regs (by rw [frame6])
  generalize v5.closeQueues = v6 at *
  obtain ⟨k, frame7, none7⟩ := v6.forgetRecords_frame
  rw [frame7] at ht
  have shows (v : State) (a) (hi : a < 0xA0000) : v.showClosed.rd a = v.rd a := by
    have other : a ≠ Reg.QUE_STATUS := ne_of_lt (hi.trans (by decide))
    rw [State.showClosed, State.rd_setFld_ne _ _ _ other, State.rd_setFld_ne _ _ _ other]
  have beside (v : State) : v.beside v.showClosed := ((State.beside.refl v).setFld _ _).setFld _ _
  have queue (v : State) (n) : v.showClosed.queue n = v.queue n := by rw [State.showClosed, State.queue_setFld, State.queue_setFld]
  obtain ⟨r', frame8⟩ := beside { v6 with link := k }
  refine ⟨?_, ?_, fun room => ?_, ?_, fun n hn => ?_⟩
  · rw [ht, frame8, frame6, frame5]
    exact ⟨_, _, _, _, _, rfl⟩
  · exact (link5.trans link6).trans fun a _ hi => by rw [ht, shows _ a hi, State.rd_withLink]
  · rw [ht, frame8]
    exact room.congr (by rw [frame6, frame5]) (by rw [frame6, frame5])
  · rw [ht, frame8]
    exact none7
  · rw [ht, queue, State.queue_withLink, closed n hn, queue5]
    exact ⟨rfl, rfl⟩

/-- The end of a session, with the room that its events need. -/
theorem State.leaveSession_ends (room : s.raiseRoom (m + 25)) (t : State) (ht : t = s.leaveSession) :
    s.unwinds t ∧ s.keepsLink t ∧ t.raiseRoom m ∧ t.link.records = [] ∧ (∀ n < 32, (t.queue n).use = false) ∧
      ∀ n, 16 ≤ n → n < 28 → (t.queue n).pkts = [] := by
  obtain ⟨part, link, left, empty⟩ := State.emptied_empties room _ rfl
  have closes : t = s.emptied.shut := ht.trans s.leaveSession_eq
  obtain ⟨part', link', left', none, closed⟩ := s.emptied.shut_shuts (m := m) t closes
  exact ⟨part.trans part', link.trans link', left' left, none, fun n hn => (closed n hn).1, fun n lo hi =>
    (closed n (by omega)).2.trans (empty n lo hi)⟩

theorem State.raiseRoom.lopEnd (h : s.raiseRoom (m + 1)) (n st err : Nat) : (s.lopEnd n st err).raiseRoom m := by
  rw [State.lopEnd_room h (Nat.succ_pos m)]
  have := h.2
  exact ⟨h.1, by simp only [List.length_append, List.length_singleton]; omega⟩

theorem State.lopEnd_reports (s : State) (n st err : Nat) : s.reports (s.lopEnd n st err) :=
  (((State.reports.refl s).setFld _ _).setFld _ _).event _ _

/-- No lane is left to scan. -/
def State.unscanned (s : State) : State := { s with link := { s.link with scan := [] } }.setFld Fld.LNK_MARGIN_CTRL_GO 0

theorem State.unscanned_frame (s : State) : ∃ r k, s.unscanned = { s with regs := r, link := k } ∧ k.records = s.link.records := ⟨_, _, rfl, rfl⟩

theorem State.unscanned_regsBut (s : State) : s.regsBut s.unscanned [Reg.LNK_MARGIN_CTRL, Reg.LOP_STATn 9, Reg.EVT_DROP] :=
  (State.regsBut.of_regs (t := { s with link := { s.link with scan := [] } }) rfl _).setFld _ (by simp)

theorem State.abortScan_aborts (room : s.raiseRoom (m + 1)) (t : State) (ht : t = s.abortScan) :
    s.unwinds t ∧ t.raiseRoom m ∧ t.link.records = s.link.records ∧ t.queues = s.queues ∧
      ∀ a, 0x80000 ≤ a → a < 0x80040 → t.rd a = s.rd a := by
  have cases : s.abortScan = if s.lopBusy 9 then s.unscanned.lopEnd 9 lopAborted 3 else s := rfl
  rw [cases] at ht
  split_ifs at ht
  · obtain ⟨r, k, frame, records⟩ := s.unscanned_frame
    have regs := s.unscanned_regsBut
    generalize s.unscanned = v at *
    have ends := ((regs.setFld (f := Fld.LOP_STATn_STATE 9) lopAborted (by simp)).setFld (f := Fld.LOP_STATn_ERR 9) 3 (by simp)).event 0x06
      (9 + 16 * lopAborted + 256 * 3) (by simp)
    rw [← State.lopEnd, ← ht] at ends
    have left : v.raiseRoom (m + 1) := by
      rw [frame]
      exact room.congr rfl rfl
    have shown := v.lopEnd_reports 9 lopAborted 3
    have left' := left.lopEnd 9 lopAborted 3
    rw [← ht] at shown left'
    obtain ⟨r', l, shown⟩ := shown
    refine ⟨?_, left', ?_, ?_, fun a lo hi => ends a ?_⟩
    · rw [shown, frame]
      exact ⟨_, _, _, _, _, rfl⟩
    · rw [shown, frame]
      exact records
    · rw [shown, frame]
    · simp only [Reg.LNK_MARGIN_CTRL, Reg.LOP_STATn, Reg.EVT_DROP, List.mem_cons, List.not_mem_nil, or_false, not_or]
      omega
  · rw [ht]
    exact ⟨State.unwinds.refl s, room.mono (Nat.le_succ m), rfl, rfl, fun _ _ _ => rfl⟩

/-- What a link that was ACTIVE is once it has left it (R115, R144). -/
structure State.leaves (s t : State) (reason : Nat) : Prop where
  down : t.linkIs lnkDown = true
  reason : t.fld Fld.LNK_DOWN_INFO_REASON = reason
  count : t.fld Fld.LNK_DOWN_INFO_COUNT = min 65535 (s.fld Fld.LNK_DOWN_INFO_COUNT + 1)
  widths : t.link.widths = [15, 15, 15, 15]
  records : t.link.records = []
  use : ∀ n < 32, (t.queue n).use = false
  outbound : ∀ n, 16 ≤ n → n < 28 → (t.queue n).pkts = []
  raised : ∃ r ∈ t.raise, r.code = 0x21
  frame : s.unwinds t

theorem State.leaveActive_leaves (hl : s.linkIs lnkActive = true) (waits : s.mgaWaits = []) (room : s.raiseRoom 27) {reason : Nat} (hr : reason < 16)
    (lane : Nat) : s.leaves (s.leaveActive reason lane) reason := by
  have run : s.leaveActive reason lane = ((s.leaveSession.abortScan.linkDown reason lane false).count Fld.LNK_DOWN_INFO_COUNT 1).event 0x21
      (reason + 256 * lane) := by
    rw [State.leaveActive, if_pos hl, waits]
    rfl
  obtain ⟨part, link, left, none, use, empty⟩ := State.leaveSession_ends (m := 2) room _ rfl
  generalize s.leaveSession = v at *
  obtain ⟨part', left', records, queues, low⟩ := State.abortScan_aborts (m := 1) left _ rfl
  generalize v.abortScan = u at *
  have down := u.fall_down reason lane
  have shown := u.fall_reason hr lane
  have count := u.fall_count reason lane
  obtain ⟨r, frame⟩ := u.fall_beside reason lane
  rw [State.linkDown_uncounted] at run
  generalize u.fall reason lane = w at *
  have room' : (w.count Fld.LNK_DOWN_INFO_COUNT 1).raiseRoom 1 := by
    rw [frame]
    exact left'.congr rfl rfl
  rw [run]
  have counted := w.fld_count_same Fld.LNK_DOWN_INFO_COUNT 1 (by decide)
  have same (f : Fld) : ((w.count Fld.LNK_DOWN_INFO_COUNT 1).event 0x21 (reason + 256 * lane)).fld f = (w.count Fld.LNK_DOWN_INFO_COUNT 1).fld f := by
    rw [State.event_raiseRoom room' (by decide), State.fld_withRaise]
  have before : u.fld Fld.LNK_DOWN_INFO_COUNT = s.fld Fld.LNK_DOWN_INFO_COUNT :=
    State.fld_congr ((low _ (by decide) (by decide)).trans (link _ (by decide) (by decide)))
  have queue (n) : ((w.count Fld.LNK_DOWN_INFO_COUNT 1).event 0x21 (reason + 256 * lane)).queue n = v.queue n := by
    rw [State.event_raiseRoom room' (by decide), State.queue_withRaise, State.count, State.queue_setFld, State.queue_congr (s := v) (by rw [frame]; exact queues)]
  constructor
  · rw [linkIs_iff, same, State.fld_count_ne _ _ _ _ (by decide) (by decide)]
    exact (linkIs_iff _ _).mp down
  · rw [same, State.fld_count_ne _ _ _ _ (by decide) (by decide), shown]
  · rw [same, counted, count, before]
    rfl
  · rw [State.event_raiseRoom room' (by decide), State.count_link, frame]
    rfl
  · rw [State.event_raiseRoom room' (by decide), State.count_link, frame]
    exact records.trans none
  · exact fun n hn => by rw [queue, use n hn]
  · exact fun n lo hi => by rw [queue, empty n lo hi]
  · rw [State.event_raiseRoom room' (by decide)]
    exact ⟨_, List.mem_append_right _ (List.mem_singleton_self _), rfl⟩
  · rw [State.event_raiseRoom room' (by decide), frame]
    exact (part.trans part').trans ⟨_, _, _, _, _, rfl⟩

theorem State.leaves.of (h : u.leaves t n) (frame : s.unwinds u) (same : u.rd Reg.LNK_DOWN_INFO = s.rd Reg.LNK_DOWN_INFO) : s.leaves t n :=
  { h with count := h.count.trans (by rw [State.fld_congr same]), frame := frame.trans h.frame }

theorem State.leaves.setFld (h : s.leaves t n) {f : Fld} (hs : Reg.LNK_STATUS ≠ f.addr) (hd : Reg.LNK_DOWN_INFO ≠ f.addr) (v : Nat) :
    s.leaves (t.setFld f v) n :=
  { h with
    down := (State.linkIs_congr (State.rd_setFld_ne _ _ _ hs) _).trans h.down
    reason := (State.fld_congr (State.rd_setFld_ne _ _ _ hd)).trans h.reason
    count := (State.fld_congr (State.rd_setFld_ne _ _ _ hd)).trans h.count
    use := fun k hk => by rw [State.queue_setFld, h.use k hk]
    outbound := fun k lo hi => by rw [State.queue_setFld, h.outbound k lo hi]
    frame := h.frame.trans ⟨_, _, _, _, _, rfl⟩ }

/-- A link that has left ACTIVE is not dropped again. -/
theorem State.dropLink_down (h : s.linkIs lnkDown = true) (reason lane : Nat) (counts : Bool) : s.dropLink reason lane counts = s := by
  rw [State.dropLink, State.linkIs_ne h (by decide : lnkDown ≠ lnkActive), h]
  rfl

theorem State.dropLink_active (h : s.linkIs lnkActive = true) (reason lane : Nat) (counts : Bool) : s.dropLink reason lane counts = s.leaveActive reason lane := by
  rw [State.dropLink, if_pos h]

/-- An ACTIVE link that nothing else waits to leave, with the room that leaving takes. -/
structure State.session (s : State) (room : Nat) : Prop where
  active : s.linkIs lnkActive = true
  waits : s.mgaWaits = []
  room : s.raiseRoom room

theorem State.session.setFld (h : s.session n) {f : Fld} (hs : Reg.LNK_STATUS ≠ f.addr) (v : Nat) : (s.setFld f v).session n :=
  ⟨(State.linkIs_congr (State.rd_setFld_ne _ _ _ hs) _).trans h.active, h.waits, h.room.congr rfl rfl⟩

theorem State.session.leaves (h : s.session 27) {reason : Nat} (hr : reason < 16) (lane : Nat) : s.leaves (s.leaveActive reason lane) reason :=
  State.leaveActive_leaves h.active h.waits h.room hr lane

theorem State.lnkCtrlWrite_leaves (h : s.session 27) (hd : Fld.LNK_CTRL_RESTART.of d = 1 ∨ Fld.LNK_CTRL_ENABLE.of d = 0) :
    s.leaves (s.lnkCtrlWrite d) 1 := by
  have set := h.setFld (f := Fld.LNK_CTRL_ENABLE) (by decide) (Fld.LNK_CTRL_ENABLE.of d)
  have frame : s.unwinds (s.setFld Fld.LNK_CTRL_ENABLE (Fld.LNK_CTRL_ENABLE.of d)) := ⟨_, _, _, _, _, rfl⟩
  have low : (s.setFld Fld.LNK_CTRL_ENABLE (Fld.LNK_CTRL_ENABLE.of d)).rd Reg.LNK_DOWN_INFO = s.rd Reg.LNK_DOWN_INFO :=
    State.rd_setFld_ne _ _ _ (by decide)
  unfold State.lnkCtrlWrite
  generalize s.setFld Fld.LNK_CTRL_ENABLE (Fld.LNK_CTRL_ENABLE.of d) = v at *
  have left := (set.leaves (reason := 1) (by decide) 0xFF).of frame low
  dsimp only
  rw [State.linkIs_ne set.active (by decide : lnkActive ≠ lnkTest), State.dropLink_active set.active]
  by_cases restart : Fld.LNK_CTRL_RESTART.of d = 1
  · have cleared := (left.setFld (f := Fld.LNK_RETRY_COUNT) (by decide) (by decide) 0).setFld (f := Fld.LNK_RETRY_EXHAUSTED) (by decide) (by decide) 0
    simp only [restart, if_true, Bool.false_eq_true, if_false]
    rw [State.dropLink_down cleared.down, ite_self]
    exact cleared
  · rw [if_neg restart, if_pos (hd.resolve_left restart), State.dropLink_active set.active]
    exact left

theorem State.headerError_beside (s : State) (lane n : Nat) : s.beside (s.headerError lane n) := by
  unfold State.headerError
  split_ifs
  · exact ⟨_, rfl⟩
  · exact ⟨_, rfl⟩

theorem State.headerError_regsBut (s : State) (lane n : Nat) : s.regsBut (s.headerError lane n) [Reg.LNK_LANE_STATUSe (22 + lane)] := by
  unfold State.headerError
  split_ifs
  · exact (State.regsBut.refl s _).count _ (by simp)
  · exact State.regsBut.refl s _

theorem State.session.congr (h : s.session n) (low : t.rd Reg.LNK_STATUS = s.rd Reg.LNK_STATUS) (frame : s.beside t) : t.session n := by
  obtain ⟨r, rfl⟩ := frame
  exact ⟨(State.linkIs_congr low _).trans h.active, h.waits, h.room.congr rfl rfl⟩

theorem blockLockLeaves (h : s.session 27) (lane : Fin 22) (e : Fin 65) (he : 16 ≤ e.val)
    (hw : lane.val % 11 < widthOf (s.link.widths.getD (2 + lane.val / 11) 15)) :
    ∃ t, exec (.blockLockLoss lane e) s = .next t ∧ s.leaves t 3 := by
  have run : exec (.blockLockLoss lane e) s = .next ((s.headerError lane.val e.val).leaveActive 3 (22 + lane.val)) := by
    show execBlockLockLoss lane e s = _
    rw [execBlockLockLoss, if_pos (by simp only [h.active, hw, he, decide_true, Bool.and_self])]
  have side (a : Nat) (ha : a < 0x80010) : a ∉ [Reg.LNK_LANE_STATUSe (22 + lane.val)] := by
    rw [List.mem_singleton, Reg.LNK_LANE_STATUSe]
    omega
  have regs := s.headerError_regsBut lane.val e.val
  have frame := s.headerError_beside lane.val e.val
  generalize s.headerError lane.val e.val = v at *
  exact ⟨_, run, ((h.congr (regs _ (side _ (by decide))) frame).leaves (by decide) _).of frame.reports.unwinds
    (regs _ (side _ (by decide)))⟩

theorem bufferLeaves (h : s.session 28) (k : Fin 2) {off : Int} (rx : s.on Fld.LNK_STATUS_RX_LOCKED = true) (use : s.qbInUse k.val = true)
    (far : 64 < off.natAbs) : s.leaves (s.bufferOffset k.val off) 4 := by
  obtain ⟨w, fill⟩ := s.recordFill_wr k.val off
  have beyond : 64 < off ∨ off < -64 := by omega
  have side (a : Nat) (ha : a < 0x80010) : (s.wr (Reg.LNK_EBUF0 + 4 * k.val) w).rd a = s.rd a :=
    State.rd_wr_ne _ _ (by simp only [Reg.LNK_EBUF0]; omega)
  rw [State.bufferOffset_eq, if_pos rx, fill]
  dsimp only
  have wrote : s.beside (s.wr (Reg.LNK_EBUF0 + 4 * k.val) w) := ⟨_, rfl⟩
  have session := h.congr (side _ (by decide)) wrote
  have low := side Reg.LNK_DOWN_INFO (by decide)
  have inUse : (s.wr (Reg.LNK_EBUF0 + 4 * k.val) w).qbInUse k.val = true := use
  generalize s.wr (Reg.LNK_EBUF0 + 4 * k.val) w = v at *
  split_ifs with wander left left
  · have noted : (v.noteWander k.val).session 28 := ⟨session.active, session.waits, session.room.congr rfl rfl⟩
    have same : (v.noteWander k.val).rd Reg.LNK_DOWN_INFO = v.rd Reg.LNK_DOWN_INFO := rfl
    have frame : v.unwinds (v.noteWander k.val) := ⟨_, _, _, _, _, rfl⟩
    generalize v.noteWander k.val = x at *
    have raised : (x.event 0x27 0).session 27 := by
      refine ⟨?_, ?_, noted.room.event 0x27 0⟩
      · rw [State.event_raiseRoom noted.room (by decide)]
        exact noted.active
      · rw [State.event_raiseRoom noted.room (by decide)]
        exact noted.waits
    refine (raised.leaves (by decide) _).of ((wrote.reports.unwinds.trans frame).trans ?_) ?_
    · rw [State.event_raiseRoom noted.room (by decide)]
      exact ⟨_, _, _, _, _, rfl⟩
    · rw [State.event_raiseRoom noted.room (by decide), State.rd_withRaise, same, low]
  · refine absurd ⟨beyond, ?_⟩ left
    have noted : (v.noteWander k.val).raiseRoom 28 := session.room.congr rfl rfl
    rw [State.event_raiseRoom noted (by decide)]
    exact inUse
  · exact (State.session.leaves ⟨session.active, session.waits, session.room.mono (by decide)⟩ (by decide) _).of wrote.reports.unwinds low
  · exact absurd ⟨beyond, inUse⟩ left

/-- Settles O25: every way out of ACTIVE ends the session as `State.leaves` says. -/
theorem leavingActiveEndsTheSession : Obligations.LeavingActiveEndsTheSession := by
  intro c reason q d k lane e off s hl waits _ room how
  have h : s.session 28 := ⟨hl, waits, room.mono (by decide)⟩
  have h' : s.session 27 := ⟨hl, waits, room.mono (by decide)⟩
  have left : ∃ t, exec c s = .next t ∧ s.leaves t reason := by
    rcases how with ⟨rfl, use, rfl⟩ | ⟨rfl, he, hw, rfl⟩ | ⟨rfl | rfl, rx, use, far, rfl⟩ | ⟨rfl, hp, rfl⟩ | ⟨rfl, hp, off, rfl⟩
    · have run : exec (.clkLoss k) s = .next (s.leaveActive 2 (32 + 11 * k.val)) := by
        show execClkLoss k s = _
        rw [execClkLoss, if_pos use]
      exact ⟨_, run, h'.leaves (by decide) _⟩
    · exact blockLockLeaves h' lane e he hw
    · exact ⟨_, rfl, bufferLeaves h k rx use far⟩
    · exact ⟨_, rfl, bufferLeaves h k rx use far⟩
    · exact ⟨_, exec_access (f := fun s => s.lnkCtrlWrite (Fld.LNK_CTRL_RESTART.put 1 d)) hp rfl,
        State.lnkCtrlWrite_leaves h' (Or.inl (Fld.of_put_same _ _ _ (by decide) (by decide)))⟩
    · exact ⟨_, exec_access (f := fun s => s.lnkCtrlWrite (Fld.LNK_CTRL_RESTART.put 0 d)) hp rfl,
        State.lnkCtrlWrite_leaves h' (Or.inr ((Fld.of_put_ne _ _ _ _ (by decide) (by decide)).trans off))⟩
  obtain ⟨t, run, left⟩ := left
  refine ⟨t, run, left.down, left.reason, left.count, left.widths, left.records, left.use, left.outbound, left.raised, ?_⟩
  obtain ⟨r, l, x, y, z, rfl⟩ := left.frame
  exact ⟨rfl, rfl, rfl, rfl, rfl, rfl⟩

end Sys2Proof.Machine

/-!
PROOFS. Flushes and pointer faults of the queues (O31).
-/

namespace Sys2Proof.Machine

variable {s t u v : State} {as : List Nat} {a n m k : Nat} {q : Requester} {d : Word}

/-! ### A flush without watermarks (R142) -/

theorem State.fld_setQueue (s : State) (n : Nat) (q : QueueState) (f : Fld) : (s.setQueue n q).fld f = s.fld f := rfl

theorem State.linkIs_of_regsBut (h : s.regsBut t as) (ha : Reg.LNK_STATUS ∉ as) (x : Nat) : t.linkIs x = s.linkIs x :=
  State.linkIs_congr (h _ ha) x

/-- Without a watermark a discard shows the occupancy, counts, and raises nothing. -/
theorem State.culled_unmarked (h : s.fld (Fld.QUE_WMn_LEVEL n) = 0) (c : StoredPkt → Bool) :
    (∃ r x c', s.culled n c = { s with regs := r, queues := x, sect := c' } ∧ (n ≠ 8 → c' = s.sect)) ∧
      s.regsBut (s.culled n c) [Reg.QUE_LEVELn n, Reg.QUE_DROPAn n] ∧
      (s.culled n c).fld (Fld.QUE_DROPAn_DISCARD n) = min 65535 (s.fld (Fld.QUE_DROPAn_DISCARD n) + ((s.queue n).pkts.filter c).length) := by
  have level : (s.thinned n c).relevel n = (s.thinned n c).setFld (Fld.QUE_LEVELn_LIVE n) ((s.thinned n c).queue n).occupancy :=
    State.relevel_unmarked ((State.fld_setQueue s n _ _).trans h)
  rw [State.culled, level]
  generalize ((s.thinned n c).queue n).occupancy = o
  obtain ⟨r, c', frame, same⟩ := ((s.thinned n c).setFld (Fld.QUE_LEVELn_LIVE n) o).counted_frame n ((s.queue n).pkts.filter c)
  have regs := ((s.thinned n c).setFld (Fld.QUE_LEVELn_LIVE n) o).counted_regsBut n ((s.queue n).pkts.filter c)
  have shown : s.regsBut ((s.thinned n c).setFld (Fld.QUE_LEVELn_LIVE n) o) [Reg.QUE_LEVELn n, Reg.QUE_DROPAn n] :=
    (State.regsBut.of_regs (t := s.thinned n c) rfl _).setFld _ (by simp)
  have before : ((s.thinned n c).setFld (Fld.QUE_LEVELn_LIVE n) o).fld (Fld.QUE_DROPAn_DISCARD n) = s.fld (Fld.QUE_DROPAn_DISCARD n) :=
    (State.fld_setFld_ne _ _ _ _ (by simp) (Or.inl (by simp only [Reg.QUE_DROPAn, Reg.QUE_LEVELn]; omega))).trans (State.fld_setQueue s n _ _)
  refine ⟨⟨r, (s.thinned n c).queues, c', ?_, same⟩, shown.trans fun a ha => regs a ?_, ?_⟩
  · rw [frame]
    rfl
  · simp only [List.mem_cons, List.not_mem_nil, or_false, not_or] at ha ⊢
    exact ha.2
  · have drop := ((s.thinned n c).setFld (Fld.QUE_LEVELn_LIVE n) o).dropSecs_regs n ((s.queue n).pkts.filter c)
    rw [State.counted, State.fld_count_same _ _ _ (by simp), State.fld_congr (State.regsBut.of_regs drop [] _ List.not_mem_nil), before]
    rfl

/-- In a session credits return to GRANT at once (R135). -/
theorem State.grant_active (h : s.linkIs lnkActive = true) (n c : Nat) :
    (s.grant n c).fld (Fld.QUE_GRANTn_TOTAL n) = (s.fld (Fld.QUE_GRANTn_TOTAL n) + c) % 2 ^ 24 := by
  unfold State.grant
  split_ifs with none
  · rw [none, Nat.add_zero]
    exact (Nat.mod_eq_of_lt (State.fld_lt s (Fld.QUE_GRANTn_TOTAL n))).symm
  · rw [State.fld_setQueue, State.countWrap, State.fld_setFld_mod _ _ _ (by simp)]
    rfl

theorem State.grant_drop (s : State) (n c : Nat) : (s.grant n c).fld (Fld.QUE_DROPAn_DISCARD n) = s.fld (Fld.QUE_DROPAn_DISCARD n) :=
  State.fld_congr (s.grant_regsBut n c _ (by simp only [Reg.QUE_DROPAn, Reg.QUE_GRANTn, List.mem_singleton]; omega))

/-- The registers of queue `n` that a flush without a watermark changes. -/
def flushRegs (n : Nat) : List Nat := [Reg.QUE_FLUSH, Reg.QUE_LEVELn n, Reg.QUE_DROPAn n, Reg.QUE_GRANTn n]

/-- What a flush of queue `n` does to it in a session (R142). -/
structure State.flushes (s t : State) (n : Nat) : Prop where
  pkts : (t.queue n).pkts = (s.queue n).pkts.filter (fun p => p.begun)
  discarded : t.fld (Fld.QUE_DROPAn_DISCARD n) =
    min 65535 (s.fld (Fld.QUE_DROPAn_DISCARD n) + ((s.queue n).pkts.filter (fun p => !p.begun)).length)
  restarts : 12 ≤ n → (t.queue n).init0 = true ∧ (t.queue n).init1 = true
  returned : n < 12 → t.fld (Fld.QUE_GRANTn_TOTAL n) = (s.fld (Fld.QUE_GRANTn_TOTAL n) +
    (((s.queue n).pkts.filter (fun p => !p.begun)).map StoredPkt.credits).sum) % 2 ^ 24

/-- What it leaves. -/
structure State.flushKeeps (s t : State) (n : Nat) : Prop where
  others : ∀ m, m ≠ n → t.queue m = s.queue m
  sect : n ≠ 8 → t.sect = s.sect
  frame : t = { s with regs := t.regs, queues := t.queues, sect := t.sect }
  regs : s.regsBut t (flushRegs n)

theorem State.flushQueue_flushes (hw : s.fld (Fld.QUE_WMn_LEVEL n) = 0) (hl : s.linkIs lnkActive = true) :
    s.flushes (s.flushQueue n) n ∧ s.flushKeeps (s.flushQueue n) n := by
  obtain ⟨⟨r, x, c', frame, sect⟩, regs, count⟩ := State.culled_unmarked hw (fun p => !p.begun)
  have same := s.queue_culled_same n (fun p => !p.begun)
  have others := fun m => s.queue_culled_ne (m := m) (n := n) (fun p => !p.begun)
  have run := s.flushQueue_eq n
  rw [State.discardIf_culled] at run
  simp only [Bool.not_not] at same
  generalize s.culled n (fun p => !p.begun) = v at *
  have active : v.linkIs lnkActive = true :=
    (State.linkIs_congr (regs _ (by simp only [Reg.LNK_STATUS, Reg.QUE_LEVELn, Reg.QUE_DROPAn, List.mem_cons, List.not_mem_nil, or_false]; omega)) _).trans hl
  have bit (w : State) (m : Nat) : (w.flushBit n false).queue m = w.queue m := rfl
  have reg (w : State) (f : Fld) (hf : f.addr ≠ Reg.QUE_FLUSH) : (w.flushBit n false).fld f = w.fld f := State.fld_wr_ne _ _ _ _ hf
  have wider {w : State} (h : s.regsBut w (flushRegs n)) : s.regsBut (w.flushBit n false) (flushRegs n) := h.wr _ (by simp [flushRegs])
  have regs' : s.regsBut v (flushRegs n) := fun a ha => regs a (fun h => ha (List.mem_cons_of_mem _ (by
    simp only [List.mem_cons, List.not_mem_nil, or_false] at h ⊢
    tauto)))
  rw [run]
  by_cases inbound : queueInbound n
  · have lt : n < 12 := by simpa [queueInbound] using inbound
    simp only [inbound, if_true]
    have drop := v.grant_drop n ((((s.queue n).pkts.filter (fun p => !p.begun)).map StoredPkt.credits).sum)
    have credit := State.grant_active active n ((((s.queue n).pkts.filter (fun p => !p.begun)).map StoredPkt.credits).sum)
    have kept := v.grant_regsBut n ((((s.queue n).pkts.filter (fun p => !p.begun)).map StoredPkt.credits).sum)
    obtain ⟨r', b', held⟩ := v.grant_queue_same n ((((s.queue n).pkts.filter (fun p => !p.begun)).map StoredPkt.credits).sum)
    have left := fun m => v.grant_queue_ne (m := m) (n := n) ((((s.queue n).pkts.filter (fun p => !p.begun)).map StoredPkt.credits).sum)
    obtain ⟨r'', x', shape⟩ := v.grant_frame n ((((s.queue n).pkts.filter (fun p => !p.begun)).map StoredPkt.credits).sum)
    generalize v.grant n _ = w at *
    have before : v.fld (Fld.QUE_GRANTn_TOTAL n) = s.fld (Fld.QUE_GRANTn_TOTAL n) :=
      State.fld_congr (regs _ (by simp only [Reg.QUE_GRANTn, Reg.QUE_LEVELn, Reg.QUE_DROPAn, List.mem_cons, List.not_mem_nil, or_false]; omega))
    refine ⟨⟨?_, ?_, fun h => by omega, fun _ => ?_⟩, ⟨fun m hm => ?_, fun h8 => ?_, ?_, wider (regs'.trans fun a ha => kept a ?_)⟩⟩
    · rw [bit, held, same]
    · rw [reg _ _ (by simp only [Reg.QUE_DROPAn, Reg.QUE_FLUSH]; omega), drop, count]
    · rw [reg _ _ (by simp only [Reg.QUE_GRANTn, Reg.QUE_FLUSH]; omega), credit, before]
    · rw [bit, left m hm, others m hm]
    · rw [State.flushBit, shape, frame]
      exact sect h8
    · rw [State.flushBit, shape, frame]
      rfl
    · simp only [flushRegs, List.mem_cons, List.not_mem_nil, or_false, not_or] at ha ⊢
      exact ha.2.2.2
  · have ge : 12 ≤ n := by simpa [queueInbound] using inbound
    simp only [inbound, if_false, Bool.false_eq_true]
    refine ⟨⟨?_, ?_, fun _ => ?_, fun h => by omega⟩, ⟨fun m hm => ?_, fun h8 => ?_, ?_, wider (regs'.trans (State.regsBut.of_regs rfl _))⟩⟩
    · rw [bit, State.queue_setQueue_same, same]
    · rw [reg _ _ (by simp only [Reg.QUE_DROPAn, Reg.QUE_FLUSH]; omega), State.fld_setQueue, count]
    · rw [bit, State.queue_setQueue_same]
      exact ⟨rfl, rfl⟩
    · rw [bit, State.queue_setQueue_ne _ _ hm, others m hm]
    · rw [State.flushBit, frame]
      exact sect h8
    · rw [State.flushBit, frame]
      rfl

/-! ### A write of QUE_FLUSH -/

/-- Whether a write of `d` names queue `n` for a flush. -/
def State.named (s : State) (d : Word) (n : Nat) : Bool := d.getLsbD n && (s.queue n).use

/-- The QBs on which a packet of queue `n` is arriving. -/
def State.flushWait (s : State) (rx : Nat → Option Nat) (n : Nat) : List Nat :=
  (List.range 2).filter (fun k => (s.queue n).doomed.contains k || (Machine.arriving rx n).contains k)

/-- What a write of QUE_FLUSH does to queue `n`. -/
def State.flushOne (d : Word) (rx : Nat → Option Nat) (s : State) (n : Nat) : State :=
  if s.named d n then
    if s.flushWait rx n = [] ∨ !queueInbound n then s.flushNow n else (s.dooms n (s.flushWait rx n)).flushBit n true
  else s

theorem State.queFlushWrite_eq (s : State) (rx : Nat → Option Nat) (d : Word) : s.queFlushWrite rx d = s.forEach 32 (State.flushOne d rx) := rfl

theorem State.flushOne_skips (rx : Nat → Option Nat) (h : s.named d n = false) : s.flushOne d rx n = s := if_neg (Bool.eq_false_iff.mp h)

theorem State.flushOne_flushes (h : s.named d n = true) (none : (s.queue n).doomed = []) (waits : n = 27 → (s.queue 27).pkts.flatMap (·.after) = [])
    (rx : Nat → Option Nat) (quiet : ∀ k, rx k ≠ some n) : s.flushOne d rx n = s.flushQueue n := by
  have arrives : Machine.arriving rx n = [] := by
    rw [Machine.arriving, List.filter_eq_nil_iff]
    exact fun k _ => by simpa using quiet k
  have empty : (if n = 27 then (s.queue 27).pkts.flatMap (·.after) else []) = [] := by
    split_ifs with h27
    · exact waits h27
    · rfl
  have now : s.flushWait rx n = [] := by
    rw [State.flushWait, none, arrives]
    rfl
  rw [State.flushOne, if_pos h, if_pos (Or.inl now), State.flushNow]
  rw [empty]
  rfl

theorem State.forEach_induct (P : Nat → State → Prop) {f : State → Nat → State} (h0 : P 0 s) (step : ∀ v, ∀ k < n, P k v → P (k + 1) (f v k)) :
    P n (s.forEach n f) := by
  induction n with
  | zero => exact h0
  | succ n ih =>
    rw [State.forEach_succ]
    exact step _ n (Nat.lt_succ_self n) (ih fun v k hk => step v k (by omega))

/-- Where the pass over the queues stands: the queues before `k` are done, those from `k` on are as they were. -/
structure State.flushedTo (s : State) (d : Word) (k : Nat) (t : State) : Prop where
  done : ∀ n < k, s.named d n = true → s.flushes t n
  skipped : ∀ n, n < k → s.named d n = false → t.queue n = s.queue n
  later : ∀ n, k ≤ n → t.queue n = s.queue n ∧ t.rd (Reg.QUE_DROPAn n) = s.rd (Reg.QUE_DROPAn n) ∧ t.rd (Reg.QUE_GRANTn n) = s.rd (Reg.QUE_GRANTn n)
  marks : ∀ n, t.rd (Reg.QUE_WMn n) = s.rd (Reg.QUE_WMn n)
  active : t.linkIs lnkActive = true
  sect : s.named d 8 = false → t.sect = s.sect
  frame : t = { s with regs := t.regs, queues := t.queues, sect := t.sect }

theorem flushRegs_apart {n k : Nat} (h : k ≠ n) : Reg.QUE_DROPAn k ∉ flushRegs n ∧ Reg.QUE_GRANTn k ∉ flushRegs n := by
  simp only [flushRegs, Reg.QUE_DROPAn, Reg.QUE_GRANTn, Reg.QUE_FLUSH, Reg.QUE_LEVELn, List.mem_cons, List.not_mem_nil, or_false, not_or]
  omega

theorem flushRegs_marks (n k : Nat) : Reg.QUE_WMn k ∉ flushRegs n ∧ Reg.LNK_STATUS ∉ flushRegs n := by
  simp only [flushRegs, Reg.QUE_DROPAn, Reg.QUE_GRANTn, Reg.QUE_FLUSH, Reg.QUE_LEVELn, Reg.QUE_WMn, Reg.LNK_STATUS, List.mem_cons, List.not_mem_nil, or_false, not_or]
  omega

theorem State.flushes.congr (h : s.flushes t n) (hq : u.queue n = t.queue n) (hd : u.rd (Reg.QUE_DROPAn n) = t.rd (Reg.QUE_DROPAn n))
    (hg : u.rd (Reg.QUE_GRANTn n) = t.rd (Reg.QUE_GRANTn n)) : s.flushes u n :=
  ⟨by rw [hq, h.pkts], (State.fld_congr hd).trans h.discarded, by rw [hq]; exact h.restarts, fun lt => (State.fld_congr hg).trans (h.returned lt)⟩

theorem State.flushes.of (h : u.flushes t n) (hq : u.queue n = s.queue n) (hd : u.rd (Reg.QUE_DROPAn n) = s.rd (Reg.QUE_DROPAn n))
    (hg : u.rd (Reg.QUE_GRANTn n) = s.rd (Reg.QUE_GRANTn n)) : s.flushes t n :=
  ⟨by rw [h.pkts, hq], by rw [h.discarded, State.fld_congr hd, hq], h.restarts, fun lt => by rw [h.returned lt, State.fld_congr hg, hq]⟩

theorem State.flushedTo.step {k : Nat} (h : s.flushedTo d k t) (marks : ∀ n < 32, s.fld (Fld.QUE_WMn_LEVEL n) = 0) (hk : k < 32)
    (none : (s.queue k).doomed = []) (waits : (s.queue 27).pkts.flatMap (·.after) = []) (rx : Nat → Option Nat) (quiet : ∀ i, rx i ≠ some k) :
    s.flushedTo d (k + 1) (t.flushOne d rx k) := by
  obtain ⟨same, drop, credit⟩ := h.later k (Nat.le_refl k)
  have named : t.named d k = s.named d k := by rw [State.named, same, State.named]
  cases hn : s.named d k with
  | false =>
    rw [State.flushOne_skips rx (named.trans hn)]
    exact { h with
      done := fun n lt hd => h.done n (lt_of_le_of_ne (Nat.le_of_lt_succ lt) fun e => by simp [e, hn] at hd) hd
      skipped := fun n lt hd => by
        rcases eq_or_ne n k with rfl | ne
        · exact same
        · exact h.skipped n (by omega) hd
      later := fun n le => h.later n (by omega) }
  | true =>
    rw [State.flushOne_flushes (named.trans hn) (by rw [same, none]) (fun e => by subst e; rw [same, waits]) rx quiet]
    obtain ⟨flushed, kept⟩ := State.flushQueue_flushes ((State.fld_congr (h.marks k)).trans (marks k hk)) h.active
    generalize t.flushQueue k = v at *
    exact {
      done := fun n lt hd => by
        rcases eq_or_ne n k with rfl | ne
        · exact flushed.of same drop credit
        · exact (h.done n (by omega) hd).congr (kept.others n ne) (kept.regs _ (flushRegs_apart ne).1) (kept.regs _ (flushRegs_apart ne).2)
      skipped := fun n lt hd => by
        rcases eq_or_ne n k with rfl | ne
        · simp [hn] at hd
        · rw [kept.others n ne, h.skipped n (by omega) hd]
      later := fun n le => by
        have ne : n ≠ k := by omega
        obtain ⟨q, dr, gr⟩ := h.later n (by omega)
        exact ⟨(kept.others n ne).trans q, (kept.regs _ (flushRegs_apart ne).1).trans dr, (kept.regs _ (flushRegs_apart ne).2).trans gr⟩
      marks := fun n => (kept.regs _ (flushRegs_marks k n).1).trans (h.marks n)
      active := (State.linkIs_congr (kept.regs _ (flushRegs_marks k 0).2) _).trans h.active
      sect := fun h8 => (kept.sect fun e => by simp [e, h8] at hn).trans (h.sect h8)
      frame := by
        have inner := h.frame
        have outer := kept.frame
        generalize v.regs = r at *
        rw [outer, inner] }

theorem flushTakesEffect (h : s.passes q Reg.QUE_FLUSH true) (hl : s.linkIs lnkActive = true) (marks : ∀ n < 32, s.fld (Fld.QUE_WMn_LEVEL n) = 0)
    (none : ∀ n < 32, (s.queue n).doomed = []) (waits : (s.queue 27).pkts.flatMap (·.after) = []) :
    ∃ t, exec (.queFlush q d .none .none) s = .next t ∧ s.flushedTo d 32 t := by
  refine ⟨_, exec_access (f := fun s => s.queFlushWrite (rxOf .none .none) d) h rfl, ?_⟩
  rw [State.queFlushWrite_eq]
  have start : s.flushedTo d 0 s := ⟨fun n lt => absurd lt (Nat.not_lt_zero n), fun n lt => absurd lt (Nat.not_lt_zero n),
    fun n _ => ⟨rfl, rfl, rfl⟩, fun n => rfl, hl, fun _ => rfl, rfl⟩
  exact State.forEach_induct (State.flushedTo s d) start fun v k hk at' =>
    at'.step marks hk (none k hk) waits _ fun i => by simp [rxOf]

theorem flushWaits (h : s.passes q Reg.QUE_FLUSH true) (none : ∀ n < 32, (s.queue n).doomed = []) (n : Fin 12) (hd : d = BitVec.twoPow 32 n.val)
    (use : (s.queue n.val).use = true) :
    ∃ t, exec (.queFlush q d (some n) .none) s = .next t ∧ t.queue n.val = { s.queue n.val with doomed := [0] } ∧
      (t.rd Reg.QUE_FLUSH).getLsbD n.val = true ∧ (∀ m, m ≠ n.val → t.queue m = s.queue m) ∧
      t = { s with regs := t.regs, queues := t.queues } ∧ s.regsBut t [Reg.QUE_FLUSH] := by
  have bit (m : Nat) : d.getLsbD m = decide (m = n.val) := by
    rw [hd, BitVec.getLsbD_twoPow]
    have := n.isLt
    by_cases e : m = n.val
    · simp [e]
      omega
    · simp [e, Ne.symm e]
  have wait : s.flushWait (rxOf (some n) .none) n.val = [0] := by
    rw [State.flushWait, none n.val (by omega)]
    simp [Machine.arriving, rxOf, List.range_succ]
  have one : s.queFlushWrite (rxOf (some n) .none) d = (s.dooms n.val [0]).flushBit n.val true := by
    rw [State.queFlushWrite_eq, State.forEach, foldl_once (e := n.val) _ List.nodup_range (by simp; omega) fun v m hm =>
      State.flushOne_skips _ (by rw [State.named, bit, decide_eq_false hm, Bool.false_and]), State.flushOne,
      if_pos (by rw [State.named, bit, decide_eq_true rfl, use]; rfl), if_neg (by rw [wait]; simp [queueInbound, n.isLt]), wait]
  have keeps (m : Nat) : ((s.dooms n.val [0]).flushBit n.val true).queue m = (s.dooms n.val [0]).queue m := rfl
  refine ⟨_, exec_access (f := fun s => s.queFlushWrite (rxOf (some n) .none) d) h rfl, ?_⟩
  dsimp only
  rw [one]
  refine ⟨?_, ?_, fun m hm => ?_, rfl, (State.regsBut.of_regs rfl _).wr _ (by simp)⟩
  · rw [keeps, State.dooms, State.queue_setQueue_same]
  · rw [State.flushBit, State.rd_wr_same, getLsbD_setBitOf _ (by omega)]
  · rw [keeps, State.dooms, State.queue_setQueue_ne _ _ hm]

/-! ### A pointer fault (R143) -/

/-- The packets of queue `n` that are being sent. -/
def State.flying (s : State) (n : Nat) : List Flight := s.link.flight.filter (fun f => f.queue == n)

/-- The packets `fs` of queue `n` that are being sent end with their trailers inverted. -/
def State.spoil (s : State) (n : Nat) (fs : List Flight) : State :=
  { s with link := { s.link with
    sent := if fs = [] then s.link.sent else fs.map (fun f : Flight => (f.tb, onWireBad f.bytes))
    flight := s.link.flight.filter (fun f => f.queue != n) } }

/-- Queue `n` without its packets and the sections that they brought. -/
def State.resetQueue (s : State) (n : Nat) (rx : List Nat) : State :=
  (s.setQueue n { s.queue n with pkts := [], init0 := true, init1 := true, doomed := rx }).dropSecs n (s.queue n).pkts

/-- The packets `ps` of queue `n` counted, its level 0. -/
def State.countReset (s : State) (n : Nat) (ps : List StoredPkt) : State :=
  (s.setFld (Fld.QUE_LEVELn_LIVE n) 0).count (Fld.QUE_DROPAn_DISCARD n) ps.length

/-- What waits for the packets of queue `n`, sent or held. -/
def State.queueWaits (s : State) (n : Nat) : List AfterMga := (s.flying n).flatMap (·.after) ++ (s.queue n).pkts.flatMap (·.after)

/-- An inbound queue's credits return. -/
def State.grantInbound (s : State) (n c : Nat) : State := if queueInbound n then s.grant n c else s

theorem State.pointerFault_eq (s : State) (n : Nat) (rx : List Nat) : s.pointerFault n rx =
    (((((((s.resetQueue n rx).spoil n (s.flying n)).countReset n (s.queue n).pkts).grantInbound n (s.queue n).occupancy).flushBit n false).event 0x26 n).afterMgas
      (s.queueWaits n)) := by
  unfold State.pointerFault
  extract_lets q occ flying waits s1 l2 s2 s3 s4 s5
  have e1 : s1 = s.resetQueue n rx := rfl
  have e2 : s2 = s1.spoil n (s.flying n) := rfl
  have e4 : s4 = s2.countReset n (s.queue n).pkts := rfl
  have e5 : s5 = s4.grantInbound n (s.queue n).occupancy := rfl
  rw [← e1, ← e2, ← e4, ← e5]
  rfl

theorem State.resetQueue_resets (s : State) (n : Nat) (rx : List Nat) :
    ∃ c x, s.resetQueue n rx = { s with queues := x, sect := c } ∧ (n ≠ 8 → c = s.sect) ∧
      (s.resetQueue n rx).queue n = { s.queue n with pkts := [], init0 := true, init1 := true, doomed := rx } ∧
      ∀ m, m ≠ n → (s.resetQueue n rx).queue m = s.queue m := by
  obtain ⟨c, drop, same⟩ := State.dropSecs_sect (s.setQueue n { s.queue n with pkts := [], init0 := true, init1 := true, doomed := rx }) n (s.queue n).pkts
  have queues (m) : (s.resetQueue n rx).queue m = (s.setQueue n { s.queue n with pkts := [], init0 := true, init1 := true, doomed := rx }).queue m :=
    State.queue_congr (by rw [State.resetQueue, drop]) m
  refine ⟨c, _, drop, same, ?_, fun m hm => ?_⟩
  · rw [queues, State.queue_setQueue_same]
  · rw [queues, State.queue_setQueue_ne _ _ hm]

theorem State.grantInbound_grants (s : State) (n c : Nat) :
    (∃ r x, s.grantInbound n c = { s with regs := r, queues := x }) ∧ (∀ m, m ≠ n → (s.grantInbound n c).queue m = s.queue m) ∧
      ((s.grantInbound n c).queue n).pkts = (s.queue n).pkts ∧ s.regsBut (s.grantInbound n c) [Reg.QUE_GRANTn n] := by
  unfold State.grantInbound
  split_ifs
  · exact ⟨s.grant_frame n c, fun m hm => s.grant_queue_ne c hm, (s.grant_doomed n c n).2, s.grant_regsBut n c⟩
  · exact ⟨⟨_, _, rfl⟩, fun _ _ => rfl, rfl, State.regsBut.refl s _⟩

theorem State.countReset_counts (s : State) (n : Nat) (ps : List StoredPkt) :
    s.beside (s.countReset n ps) ∧ s.regsBut (s.countReset n ps) [Reg.QUE_LEVELn n, Reg.QUE_DROPAn n] ∧ (s.countReset n ps).fld (Fld.QUE_LEVELn_LIVE n) = 0 ∧
      (s.countReset n ps).fld (Fld.QUE_DROPAn_DISCARD n) = min 65535 (s.fld (Fld.QUE_DROPAn_DISCARD n) + ps.length) := by
  have apart : Reg.QUE_LEVELn n ≠ Reg.QUE_DROPAn n := by
    simp only [Reg.QUE_LEVELn, Reg.QUE_DROPAn]
    omega
  refine ⟨((State.beside.refl s).setFld _ _).setFld _ _, ((State.regsBut.refl s _).setFld _ (by simp)).count _ (by simp), ?_, ?_⟩
  · rw [State.countReset, State.fld_count_ne _ _ _ _ (by simp) (Or.inl apart)]
    exact State.fld_setFld_same _ _ _ (by simp) (by simp)
  · rw [State.countReset, State.fld_count_same _ _ _ (by simp), State.fld_setFld_ne _ _ _ _ (by simp) (Or.inl apart.symm)]
    rfl

/-- What a pointer fault leaves of queue `n` before its event, whatever is being sent. -/
theorem pointerFaults (n : Nat) (waits : s.queueWaits n = []) (room : s.raiseRoom 1) (t : State) (ht : t = s.pointerFault n []) :
    (t.queue n).pkts = [] ∧ t.fld (Fld.QUE_LEVELn_LIVE n) = 0 ∧
      t.fld (Fld.QUE_DROPAn_DISCARD n) = min 65535 (s.fld (Fld.QUE_DROPAn_DISCARD n) + (s.queue n).pkts.length) ∧
      t.raise = s.raise ++ [s.occurrence 0x26 n] ∧ (∀ m, m ≠ n → t.queue m = s.queue m) ∧ (n ≠ 8 → t.sect = s.sect) ∧
      t.link = (s.spoil n (s.flying n)).link ∧
      t = { s with regs := t.regs, queues := t.queues, raise := t.raise, sect := t.sect, link := t.link } ∧
      s.regsBut t [Reg.QUE_LEVELn n, Reg.QUE_DROPAn n, Reg.QUE_GRANTn n, Reg.QUE_FLUSH] := by
  rw [State.pointerFault_eq, waits] at ht
  obtain ⟨c, x, reset, sect, same, others⟩ := s.resetQueue_resets n []
  generalize s.resetQueue n [] = v1 at *
  have spoilt (m) : (v1.spoil n (s.flying n)).queue m = v1.queue m := rfl
  have spoilReg (a) : (v1.spoil n (s.flying n)).rd a = v1.rd a := rfl
  have spoil : ∃ k, v1.spoil n (s.flying n) = { v1 with link := k } ∧ k = (s.spoil n (s.flying n)).link := ⟨_, rfl, by rw [reset]; rfl⟩
  generalize v1.spoil n (s.flying n) = v2 at *
  obtain ⟨⟨r3, frame3⟩, regs3, level3, drop3⟩ := v2.countReset_counts n (s.queue n).pkts
  have queue3 (m) : (v2.countReset n (s.queue n).pkts).queue m = v2.queue m := by
    rw [frame3]
    rfl
  generalize v2.countReset n (s.queue n).pkts = v3 at *
  obtain ⟨⟨r4, x4, frame4⟩, others4, same4, regs4⟩ := v3.grantInbound_grants n (s.queue n).occupancy
  generalize v3.grantInbound n (s.queue n).occupancy = v4 at *
  obtain ⟨k, frame2, link⟩ := spoil
  have room' : (v4.flushBit n false).raiseRoom 1 := room.congr (by rw [State.flushBit, frame4, frame3, frame2, reset]; rfl)
    (by rw [State.flushBit, frame4, frame3, frame2, reset]; rfl)
  have run : t = { v4.flushBit n false with raise := (v4.flushBit n false).raise ++ [(v4.flushBit n false).occurrence 0x26 n] } :=
    ht.trans (State.event_raiseRoom room' (by decide) _ _)
  have before : v2.fld (Fld.QUE_DROPAn_DISCARD n) = s.fld (Fld.QUE_DROPAn_DISCARD n) := State.fld_congr ((spoilReg _).trans (by rw [reset]; rfl))
  have bit (m : Nat) : t.queue m = v4.queue m := by
    rw [run]
    rfl
  have reg (f : Fld) (hf : f.addr ≠ Reg.QUE_FLUSH) : t.fld f = v4.fld f := by
    rw [run, State.fld_withRaise]
    exact State.fld_wr_ne _ _ _ _ hf
  have whole : s.regsBut v4 [Reg.QUE_LEVELn n, Reg.QUE_DROPAn n, Reg.QUE_GRANTn n, Reg.QUE_FLUSH] := by
    intro a ha
    simp only [List.mem_cons, List.not_mem_nil, or_false, not_or] at ha
    rw [regs4 a (by simpa using ha.2.2.1), regs3 a (by simp [ha.1, ha.2.1]), spoilReg, reset]
    rfl
  refine ⟨?_, ?_, ?_, ?_, fun m hm => ?_, fun h8 => ?_, ?_, ?_, ?_⟩
  · rw [bit, same4, queue3, spoilt, same]
  · rw [reg _ (by simp only [Reg.QUE_LEVELn, Reg.QUE_FLUSH]; omega), State.fld_congr (regs4 _ (by
      simp only [Reg.QUE_LEVELn, Reg.QUE_GRANTn, List.mem_singleton]; omega)), level3]
  · rw [reg _ (by simp only [Reg.QUE_DROPAn, Reg.QUE_FLUSH]; omega), State.fld_congr (regs4 _ (by
      simp only [Reg.QUE_DROPAn, Reg.QUE_GRANTn, List.mem_singleton]; omega)), drop3, before]
  · rw [run, State.flushBit, frame4, frame3, frame2, reset]
    rfl
  · rw [bit, others4 m hm, queue3, spoilt, others m hm]
  · rw [run, State.flushBit, frame4, frame3, frame2, reset]
    exact sect h8
  · rw [run, State.flushBit, frame4, frame3, frame2]
    exact link
  · rw [run, State.flushBit, frame4, frame3, frame2, reset]
    rfl
  · rw [run]
    exact (whole.wr _ (by simp)).congr rfl

theorem pointerFaultHeld (n : Fin 32) (room : s.raiseRoom 1) (held : (s.queue n.val).pkts.flatMap (·.after) = []) (idle : ∀ f ∈ s.link.flight, f.queue ≠ n.val) :
    ∃ t, exec (.queuePointerMismatch n none none) s = .next t ∧ (t.queue n.val).pkts = [] ∧
      t.fld (Fld.QUE_LEVELn_LIVE n.val) = 0 ∧
      t.fld (Fld.QUE_DROPAn_DISCARD n.val) = min 65535 (s.fld (Fld.QUE_DROPAn_DISCARD n.val) + (s.queue n.val).pkts.length) ∧
      t.raise = s.raise ++ [s.occurrence 0x26 n.val] ∧ (∀ m, m ≠ n.val → t.queue m = s.queue m) ∧
      (n.val ≠ 8 → t.sect = s.sect) ∧
      t = { s with regs := t.regs, queues := t.queues, raise := t.raise, sect := t.sect } ∧
      s.regsBut t [Reg.QUE_LEVELn n.val, Reg.QUE_DROPAn n.val, Reg.QUE_GRANTn n.val, Reg.QUE_FLUSH] := by
  have run : exec (.queuePointerMismatch n none none) s = .next (s.pointerFault n.val []) := rfl
  have flying : s.flying n.val = [] := by
    rw [State.flying, List.filter_eq_nil_iff]
    exact fun f hf => by simpa using idle f hf
  have all : s.link.flight.filter (fun f => f.queue != n.val) = s.link.flight :=
    List.filter_eq_self.mpr fun f hf => by simpa using idle f hf
  obtain ⟨pkts, level, drop, raise, others, sect, link, frame, regs⟩ := pointerFaults n.val (by rw [State.queueWaits, flying, held]; rfl) room _ rfl
  have same : (s.spoil n.val (s.flying n.val)).link = s.link := by
    rw [flying, State.spoil, all]
    rfl
  rw [same] at link
  generalize s.pointerFault n.val [] = t at *
  refine ⟨t, run, pkts, level, drop, raise, others, sect, ?_, regs⟩
  rw [link] at frame
  exact frame

theorem pointerFaultSent (n : Fin 32) (room : s.raiseRoom 1) (held : (s.queue n.val).pkts.flatMap (·.after) = []) (f : Flight)
    (one : s.link.flight = [f]) (own : f.queue = n.val) (none : f.after = []) :
    ∃ t, exec (.queuePointerMismatch n .none .none) s = .next t ∧ (t.queue n.val).pkts = [] ∧
      t.link = { s.link with sent := [(f.tb, onWireBad f.bytes)], flight := [] } := by
  have run : exec (.queuePointerMismatch n .none .none) s = .next (s.pointerFault n.val []) := rfl
  have flying : s.flying n.val = [f] := by simp [State.flying, one, own]
  obtain ⟨pkts, -, -, -, -, -, link, -, -⟩ := pointerFaults n.val (by rw [State.queueWaits, flying, held]; simp [none]) room _ rfl
  refine ⟨_, run, pkts, link.trans ?_⟩
  rw [flying, State.spoil, one]
  simp [own]

/-! ### CNT_CLR (R447) -/

/-- The counters of queue `n` at 0. -/
def State.clearCounts (s : State) (n : Nat) : State := ((s.wr (Reg.QUE_DROPAn n) 0).wr (Reg.QUE_DROPBn n) 0).wr (Reg.QUE_COUNTn n) 0

def countRegs : List Nat := [Reg.QUE_CTRL, Reg.QUE_RXERR0, Reg.QUE_RXERR1, Reg.QUE_MISC] ++ (List.range 32).map Reg.QUE_DROPAn ++
  (List.range 32).map Reg.QUE_DROPBn ++ (List.range 32).map Reg.QUE_COUNTn

theorem State.clearCounts_zero (s : State) (n : Nat) : (s.clearCounts n).rd (Reg.QUE_DROPAn n) = 0 ∧ (s.clearCounts n).rd (Reg.QUE_DROPBn n) = 0 ∧
    (s.clearCounts n).rd (Reg.QUE_COUNTn n) = 0 := by
  refine ⟨?_, ?_, State.rd_wr_same _ _ _⟩
  · rw [State.clearCounts, State.rd_wr_ne _ _ (by simp only [Reg.QUE_DROPAn, Reg.QUE_COUNTn]; omega),
      State.rd_wr_ne _ _ (by simp only [Reg.QUE_DROPAn, Reg.QUE_DROPBn]; omega), State.rd_wr_same]
  · rw [State.clearCounts, State.rd_wr_ne _ _ (by simp only [Reg.QUE_DROPBn, Reg.QUE_COUNTn]; omega), State.rd_wr_same]

/-- A register that is no counter of queue `n`. -/
theorem State.clearCounts_regsBut (s : State) (n : Nat) : s.regsBut (s.clearCounts n) [Reg.QUE_DROPAn n, Reg.QUE_DROPBn n, Reg.QUE_COUNTn n] :=
  (((State.regsBut.refl s _).wr _ (by simp)).wr _ (by simp)).wr _ (by simp)

theorem State.clearCounts_apart (s : State) {n k : Nat} (h : k ≠ n) : (s.clearCounts k).rd (Reg.QUE_DROPAn n) = s.rd (Reg.QUE_DROPAn n) ∧
    (s.clearCounts k).rd (Reg.QUE_DROPBn n) = s.rd (Reg.QUE_DROPBn n) ∧ (s.clearCounts k).rd (Reg.QUE_COUNTn n) = s.rd (Reg.QUE_COUNTn n) := by
  refine ⟨s.clearCounts_regsBut k _ ?_, s.clearCounts_regsBut k _ ?_, s.clearCounts_regsBut k _ ?_⟩
  all_goals
    simp only [Reg.QUE_DROPAn, Reg.QUE_DROPBn, Reg.QUE_COUNTn, List.mem_cons, List.not_mem_nil, or_false, not_or]
    omega

theorem countersClear (h : s.passes q Reg.QUE_CTRL true) :
    ∃ t, exec (.queCntClr q d) s = .next t ∧ t.rd Reg.QUE_RXERR0 = 0 ∧ t.rd Reg.QUE_RXERR1 = 0 ∧ t.rd Reg.QUE_MISC = 0 ∧
      (∀ n < 32, t.rd (Reg.QUE_DROPAn n) = 0 ∧ t.rd (Reg.QUE_DROPBn n) = 0 ∧ t.rd (Reg.QUE_COUNTn n) = 0) ∧
      t.fld Fld.QUE_CTRL_PL2_ONLY = Fld.QUE_CTRL_PL2_ONLY.of d ∧ s.onlyRegs t countRegs := by
  have run : exec (.queCntClr q d) s = .next (((((s.setFld Fld.QUE_CTRL_PL2_ONLY (Fld.QUE_CTRL_PL2_ONLY.of (Fld.QUE_CTRL_CNT_CLR.put 1 d))).wr
      Reg.QUE_RXERR0 0).wr Reg.QUE_RXERR1 0).wr Reg.QUE_MISC 0).forEach 32 State.clearCounts) := by
    rw [exec_access (f := fun s => s.queCtrlWrite (Fld.QUE_CTRL_CNT_CLR.put 1 d)) h rfl, State.queCtrlWrite,
      if_pos (Fld.of_put_same _ _ _ (by decide) (by decide))]
    rfl
  rw [Fld.of_put_ne _ _ _ _ (by decide) (by decide)] at run
  have mode : (s.setFld Fld.QUE_CTRL_PL2_ONLY (Fld.QUE_CTRL_PL2_ONLY.of d)).fld Fld.QUE_CTRL_PL2_ONLY = Fld.QUE_CTRL_PL2_ONLY.of d :=
    State.fld_setFld_of _ _ _ (by decide)
  have regs : s.regsBut (s.setFld Fld.QUE_CTRL_PL2_ONLY (Fld.QUE_CTRL_PL2_ONLY.of d)) countRegs := (State.regsBut.refl s _).setFld _ (by simp [countRegs])
  have beside : s.beside (s.setFld Fld.QUE_CTRL_PL2_ONLY (Fld.QUE_CTRL_PL2_ONLY.of d)) := ⟨_, rfl⟩
  generalize s.setFld Fld.QUE_CTRL_PL2_ONLY (Fld.QUE_CTRL_PL2_ONLY.of d) = v at *
  have regs' : s.regsBut (((v.wr Reg.QUE_RXERR0 0).wr Reg.QUE_RXERR1 0).wr Reg.QUE_MISC 0) countRegs :=
    ((regs.wr _ (by simp [countRegs])).wr _ (by simp [countRegs])).wr _ (by simp [countRegs])
  have beside' : s.beside (((v.wr Reg.QUE_RXERR0 0).wr Reg.QUE_RXERR1 0).wr Reg.QUE_MISC 0) := ((beside.wr _ _).wr _ _).wr _ _
  have zero0 : (((v.wr Reg.QUE_RXERR0 0).wr Reg.QUE_RXERR1 0).wr Reg.QUE_MISC 0).rd Reg.QUE_RXERR0 = 0 := by
    rw [State.rd_wr_ne _ _ (by decide), State.rd_wr_ne _ _ (by decide), State.rd_wr_same]
  have zero1 : (((v.wr Reg.QUE_RXERR0 0).wr Reg.QUE_RXERR1 0).wr Reg.QUE_MISC 0).rd Reg.QUE_RXERR1 = 0 := by
    rw [State.rd_wr_ne _ _ (by decide), State.rd_wr_same]
  have zero2 : (((v.wr Reg.QUE_RXERR0 0).wr Reg.QUE_RXERR1 0).wr Reg.QUE_MISC 0).rd Reg.QUE_MISC = 0 := State.rd_wr_same _ _ _
  have ctrl : (((v.wr Reg.QUE_RXERR0 0).wr Reg.QUE_RXERR1 0).wr Reg.QUE_MISC 0).fld Fld.QUE_CTRL_PL2_ONLY = v.fld Fld.QUE_CTRL_PL2_ONLY := by
    rw [State.fld_wr_ne _ _ _ _ (by decide), State.fld_wr_ne _ _ _ _ (by decide), State.fld_wr_ne _ _ _ _ (by decide)]
  generalize ((v.wr Reg.QUE_RXERR0 0).wr Reg.QUE_RXERR1 0).wr Reg.QUE_MISC 0 = u at *
  have low (a : Nat) (ha : a < 0xA1000) : (u.forEach 32 State.clearCounts).rd a = u.rd a :=
    State.forEach_keeps (fun v => v.rd a) State.clearCounts (fun v n => v.clearCounts_regsBut n a (by
      simp only [Reg.QUE_DROPAn, Reg.QUE_DROPBn, Reg.QUE_COUNTn, List.mem_cons, List.not_mem_nil, or_false, not_or]
      omega)) 32 u
  refine ⟨_, run, (low _ (by decide)).trans zero0, (low _ (by decide)).trans zero1, (low _ (by decide)).trans zero2, fun n hn => ?_,
    (State.fld_congr (low _ (by decide))).trans (ctrl.trans mode), ?_, ?_⟩
  · obtain ⟨w, -, -, turn⟩ := State.forEach_once (f := State.clearCounts)
      (fun u => (u.rd (Reg.QUE_DROPAn n), u.rd (Reg.QUE_DROPBn n), u.rd (Reg.QUE_COUNTn n))) (fun _ => ()) hn
      (fun u k _ hk => by
        obtain ⟨a, b, c⟩ := u.clearCounts_apart hk
        rw [a, b, c]) (fun _ _ => rfl) u
    obtain ⟨a, b, c⟩ := w.clearCounts_zero n
    rw [a, b, c] at turn
    simpa only [Prod.mk.injEq] using turn
  · obtain ⟨r, frame⟩ := beside'.forEach (fun v n => (⟨_, rfl⟩ : v.beside (v.clearCounts n))) 32
    rw [frame]
  · refine regs'.forEach 32 fun v n hn => fun a ha => v.clearCounts_regsBut n a fun mem => ha ?_
    have inside := List.mem_range.mpr hn
    simp only [List.mem_cons, List.not_mem_nil, or_false] at mem
    rcases mem with rfl | rfl | rfl
    · exact List.mem_append_left _ (List.mem_append_left _ (List.mem_append_right _ (List.mem_map_of_mem inside)))
    · exact List.mem_append_left _ (List.mem_append_right _ (List.mem_map_of_mem inside))
    · exact List.mem_append_right _ (List.mem_map_of_mem inside)

/-- Settles O31: a flush queue by queue, the fault of one queue, and the counters. -/
theorem queuesFlushAndReset : Obligations.QueuesFlushAndReset := by
  intro q d s
  refine ⟨fun h hl marks none => ⟨fun waits => ?_, fun n hd use => flushWaits h none n hd use⟩,
    fun n room held => ⟨fun idle => pointerFaultHeld n room held idle, fun f one own after => pointerFaultSent n room held f one own after⟩,
    fun h => countersClear h⟩
  obtain ⟨t, run, to'⟩ := flushTakesEffect (d := d) h hl marks none waits
  refine ⟨t, run, fun n hn bit use => ?_, fun n hn off => to'.skipped n hn ?_, fun off => to'.sect (by rw [State.named, off, Bool.false_and]), to'.frame⟩
  · obtain ⟨pkts, drop, init, credit⟩ := to'.done n hn (by rw [State.named, bit, use, Bool.and_self])
    exact ⟨pkts, drop, init, credit⟩
  · rcases off with off | off
    · rw [State.named, off, Bool.false_and]
    · rw [State.named, off, Bool.and_false]

end Sys2Proof.Machine

/-!
PROOFS. What leaves the device over the link (O30).
-/

namespace Sys2Proof.Machine

variable {s t u v : State} {as : List Nat} {a n m k : Nat} {q : Requester} {d : Word}

/-! ### The end of the packet before (R126) -/

/-- A TB that sends nothing has nothing to end. -/
theorem State.endFlight_idle (h : ∀ f ∈ s.link.flight, f.tb ≠ k) : s.endFlight k = s := by
  have none : s.link.flight.filter (fun f : Flight => f.tb == k) = [] := List.filter_eq_nil_iff.mpr fun f hf => by simpa using h f hf
  have all : s.link.flight.filter (fun f : Flight => f.tb != k) = s.link.flight := List.filter_eq_self.mpr fun f hf => by simpa using h f hf
  rw [State.endFlight, none, all]
  rfl

/-! ### What the reading of a packet finds (R158, R159) -/

theorem State.eccCorrected_ecc (s : State) (w req : Nat) : (s.eccCorrected w req).ecc = SMap.set 0 s.ecc w 0 := by
  rw [State.eccCorrected, State.event_ecc, State.count_ecc]
  rfl

theorem State.eccUncorrectable_ecc (s : State) (w req : Nat) : (s.eccUncorrectable w req).ecc = s.ecc := by
  rw [State.eccUncorrectable, State.event_ecc]
  rfl

/-- What a read of a word finds, and leaves of the error map, is told by that map. -/
theorem State.checkWord_ecc (h : t.ecc = s.ecc) (w req : Nat) :
    (t.checkWord w req).2 = (s.checkWord w req).2 ∧ (t.checkWord w req).1.ecc = (s.checkWord w req).1.ecc := by
  have at' : t.eccAt w = s.eccAt w := by rw [State.eccAt, h, State.eccAt]
  unfold State.checkWord
  rw [at']
  split_ifs
  · exact ⟨rfl, by rw [State.eccCorrected_ecc, State.eccCorrected_ecc, h]⟩
  · exact ⟨rfl, by rw [State.eccUncorrectable_ecc, State.eccUncorrectable_ecc, h]⟩
  · exact ⟨rfl, h⟩

/-- One word of a packet. -/
def State.readWordOf (p : StoredPkt) (req lo : Nat) (r : State × Bool) (i : Nat) : State × Bool :=
  match p.blocks[(lo / 8 + i) / 32]? with
  | some b => ((r.1.checkWord (wordIndex b + (lo / 8 + i) % 32) req).1, r.2 && (r.1.checkWord (wordIndex b + (lo / 8 + i) % 32) req).2)
  | none => r

theorem State.readPart_eq (s : State) (p : StoredPkt) (lo hi req : Nat) :
    s.readPart p lo hi req = (List.range ((hi + 7) / 8 - lo / 8)).foldl (State.readWordOf p req lo) (s, true) := rfl

theorem State.readWordOf_ecc (p : StoredPkt) (req lo i : Nat) {x y : State × Bool} (he : x.1.ecc = y.1.ecc) (hb : x.2 = y.2) :
    (State.readWordOf p req lo x i).2 = (State.readWordOf p req lo y i).2 ∧ (State.readWordOf p req lo x i).1.ecc = (State.readWordOf p req lo y i).1.ecc := by
  unfold State.readWordOf
  split
  · next b _ =>
    obtain ⟨found, left⟩ := State.checkWord_ecc he (wordIndex b + (lo / 8 + i) % 32) req
    exact ⟨by rw [hb, found], left⟩
  · exact ⟨hb, he⟩

theorem State.readPacket_ecc (h : t.ecc = s.ecc) (p : StoredPkt) (req : Nat) : (t.readPacket p req).2 = (s.readPacket p req).2 := by
  rw [State.readPacket, State.readPacket, State.readPart_eq, State.readPart_eq]
  generalize List.range _ = l
  have pass : ∀ x y : State × Bool, x.1.ecc = y.1.ecc → x.2 = y.2 →
      (l.foldl (State.readWordOf p req 0) x).2 = (l.foldl (State.readWordOf p req 0) y).2 := by
    induction l with
    | nil => exact fun x y _ hb => hb
    | cons i l ih =>
      intro x y he hb
      obtain ⟨found, left⟩ := State.readWordOf_ecc p req 0 i he hb
      exact ih _ _ left found
  exact pass _ _ h rfl

theorem State.readPacket_accesses (s : State) (p : StoredPkt) (req : Nat) : s.accesses (s.readPacket p req).1 := by
  rw [State.readPacket, State.readPart_eq]
  generalize List.range _ = l
  have pass : ∀ x : State × Bool, s.accesses x.1 → s.accesses (l.foldl (State.readWordOf p req 0) x).1 := by
    induction l with
    | nil => exact fun x h => h
    | cons i l ih =>
      intro x h
      refine ih _ ?_
      unfold State.readWordOf
      split
      · exact h.trans (State.checkWord_accesses _ _ _)
      · exact h
  exact pass _ (State.accesses.refl s)

/-- A store without errors is read as it is. -/
theorem State.readPacket_clean (h : s.ecc = []) (p : StoredPkt) (req : Nat) : s.readPacket p req = (s, true) := by
  rw [State.readPacket, State.readPart_eq]
  generalize List.range _ = l
  induction l with
  | nil => rfl
  | cons i l ih =>
    rw [List.foldl_cons, State.readWordOf]
    split
    · rw [State.checkWord_clean h]
      exact ih
    · exact ih

theorem State.pktNow_congr (h : t.store = s.store) (p : StoredPkt) : t.pktNow p = s.pktNow p := by
  have read (a n : Nat) : t.storeBytes a n = s.storeBytes a n := by rw [State.storeBytes, h, State.storeBytes]
  simp only [State.pktNow, read]

/-! ### A queued packet leaves (R129, R130, R134) -/

/-- Queue `n` after its first packet has left on TBk. -/
def QueueState.sends (x : QueueState) (k : Nat) : QueueState :=
  { (if k = 0 then { x with tx0 := (x.tx0 + 1) % 65536, init0 := false } else { x with tx1 := (x.tx1 + 1) % 65536, init1 := false }) with
    pkts := x.pkts.drop 1 }

/-- The sequence number and the SEQ_INIT that a packet takes on TBk. -/
def QueueState.seqOn (x : QueueState) (k : Nat) : Nat := if k = 0 then x.tx0 else x.tx1

def QueueState.initOn (x : QueueState) (k : Nat) : Bool := if k = 0 then x.init0 else x.init1

/-- The queue that the packet leaves behind, its level shown. -/
def State.unqueue (s : State) (n k : Nat) : State := (s.setQueue n ((s.queue n).sends k)).relevel n

theorem exec_outbound (n : Fin 32) (k : Fin 2) {p : StoredPkt} {ps : List StoredPkt} (may : s.maySend n.val k.val = true) (h27 : n.val ≠ 27)
    (first : (s.queue n.val).pkts = p :: ps) (idle : ∀ f ∈ s.link.flight, f.tb ≠ k.val) :
    exec (.outboundPacketSend n k []) s = .next (((s.unqueue n.val k.val).countWrap (Fld.QUE_CONSn_TOTAL n.val) p.credits).sendStored n.val k.val p
      ((s.queue n.val).seqOn k.val) ((s.queue n.val).initOn k.val)) := by
  have hits : s.hits [] = s := rfl
  show execOutboundPacketSend n k [] s = _
  unfold execOutboundPacketSend
  simp only [hits, may, if_true, State.endFlight_idle idle, first, h27, if_false]
  rw [State.unqueue, QueueState.sends, QueueState.seqOn, QueueState.initOn, first]
  split_ifs <;> rfl

theorem State.unqueue_unmarked (h : s.fld (Fld.QUE_WMn_LEVEL n) = 0) (k : Nat) :
    (s.unqueue n k).queue n = (s.queue n).sends k ∧ (∀ m, m ≠ n → (s.unqueue n k).queue m = s.queue m) ∧
      (∃ r x, s.unqueue n k = { s with regs := r, queues := x }) ∧ s.regsBut (s.unqueue n k) [Reg.QUE_LEVELn n] := by
  have level : s.unqueue n k = (s.setQueue n ((s.queue n).sends k)).setFld (Fld.QUE_LEVELn_LIVE n) ((s.setQueue n ((s.queue n).sends k)).queue n).occupancy :=
    State.relevel_unmarked ((State.fld_setQueue s n _ _).trans h)
  rw [level]
  refine ⟨?_, fun m hm => ?_, ⟨_, _, rfl⟩, (State.regsBut.of_regs (t := s.setQueue n ((s.queue n).sends k)) rfl _).setFld _ (by simp)⟩
  · rw [State.queue_setFld, State.queue_setQueue_same]
  · rw [State.queue_setFld, State.queue_setQueue_ne _ _ hm]

theorem QueueState.sends_pkts (x : QueueState) (k : Nat) : (x.sends k).pkts = x.pkts.drop 1 := rfl

theorem QueueState.sends_seq (x : QueueState) (k : Nat) : (if k = 0 then (x.sends k).tx0 else (x.sends k).tx1) = (x.seqOn k + 1) % 65536 := by
  unfold QueueState.sends QueueState.seqOn
  split_ifs <;> rfl

theorem outboundLeaves (n : Fin 32) (k : Fin 2) {p : StoredPkt} {ps : List StoredPkt} (may : s.maySend n.val k.val = true) (h27 : n.val ≠ 27)
    (first : (s.queue n.val).pkts = p :: ps) (mark : s.fld (Fld.QUE_WMn_LEVEL n.val) = 0) (idle : ∀ f ∈ s.link.flight, f.tb ≠ k.val)
    (seq : Nat) (hs : seq = (s.queue n.val).seqOn k.val) (b : List Byte) (hb : b = withSeq (s.pktNow p) seq ((s.queue n.val).initOn k.val)) :
    ((s.readPacket p reqLinkOut).2 = false →
      ∃ t, exec (.outboundPacketSend n k []) s = .next t ∧ (t.queue n.val).pkts = ps ∧ t.link.sent = [(k.val, onWireBad b)]) ∧
    (s.ecc = [] →
      ∃ t, exec (.outboundPacketSend n k []) s = .next t ∧ (t.queue n.val).pkts = ps ∧
        t.link = { s.link with
          sent := [(k.val, onWire b)]
          flight := s.link.flight ++ [⟨k.val, n.val, b,
            blockCycles ((onWire b).length / 8) (widthOf (s.link.widths.getD k.val 15)), p.after⟩] } ∧
        (if k.val = 0 then (t.queue n.val).tx0 else (t.queue n.val).tx1) = (seq + 1) % 65536 ∧
        t.fld (Fld.QUE_CONSn_TOTAL n.val) = (s.fld (Fld.QUE_CONSn_TOTAL n.val) + p.credits) % 2 ^ 24 ∧
        t = { s with regs := t.regs, queues := t.queues, link := t.link } ∧ (∀ m, m ≠ n.val → t.queue m = s.queue m) ∧
        s.regsBut t [Reg.QUE_LEVELn n.val, Reg.QUE_CONSn n.val]) := by
  have run := exec_outbound n k may h27 first idle
  obtain ⟨own, others, ⟨r, x, frame⟩, regs⟩ := State.unqueue_unmarked mark k.val
  rw [← hs] at run
  generalize s.unqueue n.val k.val = v at *
  have before : v.fld (Fld.QUE_CONSn_TOTAL n.val) = s.fld (Fld.QUE_CONSn_TOTAL n.val) :=
    State.fld_congr (regs _ (by simp only [Reg.QUE_LEVELn, Reg.QUE_CONSn, List.mem_singleton]; omega))
  have counted : (v.countWrap (Fld.QUE_CONSn_TOTAL n.val) p.credits).fld (Fld.QUE_CONSn_TOTAL n.val) =
      (s.fld (Fld.QUE_CONSn_TOTAL n.val) + p.credits) % 2 ^ 24 := by
    rw [State.countWrap, State.fld_setFld_mod _ _ _ (by simp), before]
    rfl
  have wider : s.regsBut v [Reg.QUE_LEVELn n.val, Reg.QUE_CONSn n.val] := fun a ha => regs a (by simp at ha ⊢; exact ha.1)
  have regs' : s.regsBut (v.countWrap (Fld.QUE_CONSn_TOTAL n.val) p.credits) [Reg.QUE_LEVELn n.val, Reg.QUE_CONSn n.val] :=
    State.regsBut.setFld (f := Fld.QUE_CONSn_TOTAL n.val) wider _ (by simp)
  have queues : (v.countWrap (Fld.QUE_CONSn_TOTAL n.val) p.credits).queues = v.queues := rfl
  have frame' : ∃ r, v.countWrap (Fld.QUE_CONSn_TOTAL n.val) p.credits = { s with regs := r, queues := x } := by
    rw [frame]
    exact ⟨_, rfl⟩
  generalize v.countWrap (Fld.QUE_CONSn_TOTAL n.val) p.credits = u at *
  obtain ⟨r', frame'⟩ := frame'
  have bytes : withSeq (u.pktNow p) seq ((s.queue n.val).initOn k.val) = b := by
    rw [hb, State.pktNow_congr (t := u) (s := s) (by rw [frame'])]
  have link : u.link = s.link := by rw [frame']
  refine ⟨fun bad => ⟨_, run, ?_, ?_⟩, fun clean => ⟨_, run, ?_⟩⟩
  · obtain ⟨l, e, z, w, kept⟩ := (u.readPacket_accesses p reqLinkOut).1
    rw [State.sendStored, State.queue_withLink, State.queue_congr (s := u) (by rw [kept]), State.queue_congr queues, own, QueueState.sends_pkts, first]
    rfl
  · rw [State.sendStored, bytes, State.readPacket_ecc (s := s) (by rw [frame']), bad]
    rfl
  · have read : u.readPacket p reqLinkOut = (u, true) := State.readPacket_clean (by rw [frame', clean]) p reqLinkOut
    rw [State.sendStored, bytes, read, link]
    dsimp only
    rw [if_pos rfl]
    refine ⟨?_, rfl, ?_, counted, ?_, fun m hm => ?_, regs'.congr rfl⟩
    · rw [State.queue_withLink, State.queue_congr queues, own, QueueState.sends_pkts, first]
      rfl
    · rw [State.queue_withLink, State.queue_congr queues, own, hs]
      exact QueueState.sends_seq _ _
    · rw [frame']
    · rw [State.queue_withLink, State.queue_congr queues, others m hm]

/-! ### Link-control packets leave (R137, R138, R147, R153) -/

/-- The changes of queue `n` are sent. -/
def State.cleanQueue (s : State) (n : Nat) : State := s.setQueue n { s.queue n with dirty := false }

theorem State.cleanQueues_frame (l : List Nat) (s : State) : ∃ x, l.foldl State.cleanQueue s = { s with queues := x } := by
  induction l generalizing s with
  | nil => exact ⟨_, rfl⟩
  | cons n l ih =>
    obtain ⟨x, frame⟩ := ih (s.cleanQueue n)
    rw [List.foldl_cons, frame]
    exact ⟨_, rfl⟩

theorem State.queue_cleanQueues (l : List Nat) (s : State) (n : Nat) :
    (l.foldl State.cleanQueue s).queue n = if n ∈ l then { s.queue n with dirty := false } else s.queue n := by
  induction l generalizing s with
  | nil => simp
  | cons k l ih =>
    rw [List.foldl_cons, ih]
    rcases eq_or_ne n k with rfl | hk
    · rw [State.cleanQueue, State.queue_setQueue_same]
      simp
    · rw [State.cleanQueue, State.queue_setQueue_ne _ _ hk]
      simp [hk]

theorem QueueState.clean_of_not_dirty {x : QueueState} (h : x.dirty = false) : { x with dirty := false } = x := by rw [← h]

theorem creditsLeave (hl : s.linkIs lnkActive = true) (idle : ∀ f ∈ s.link.flight, f.tb ≠ s.controlTb)
    (qs : List Nat) (hq : qs = (List.range 32).filter (fun n => (s.queue n).use && (s.queue n).dirty)) (body : List Byte) (hb : body = qs.flatMap s.crdEntry) :
    ∃ t, exec (.crdSend false) s = .next t ∧
      t.link = { s.link with sent := [(s.controlTb, onWire (controlHeader tyCrd body.length 0 ++ body))] } ∧
      (∀ n < 32, t.queue n = if (s.queue n).use then { s.queue n with dirty := false } else s.queue n) ∧
      t = { s with queues := t.queues, link := t.link } := by
  have run : exec (.crdSend false) s = .next ((qs.foldl State.cleanQueue s).send (qs.foldl State.cleanQueue s).controlTb
      (controlHeader tyCrd body.length 0 ++ body)) := by
    show execCrdSend false s = _
    unfold execCrdSend
    simp only [hl, if_true, State.endFlight_idle idle, Bool.false_or]
    rw [← hq, ← hb]
    rfl
  have cleaned := State.queue_cleanQueues qs s
  obtain ⟨x, frame⟩ := State.cleanQueues_frame qs s
  generalize qs.foldl State.cleanQueue s = v at *
  have tb : v.controlTb = s.controlTb := by rw [frame]; rfl
  refine ⟨_, run, ?_, fun n hn => ?_, ?_⟩
  · rw [tb, State.send, frame]
  · rw [State.send, State.queue_withLink, cleaned]
    subst hq
    cases use : (s.queue n).use <;> cases dirty : (s.queue n).dirty
    · simp [use]
    · simp [use]
    · simp [dirty, hn, QueueState.clean_of_not_dirty dirty]
    · simp [use, dirty, hn]
  · rw [State.send, frame]

theorem capabilitiesLeave (hl : s.linkIs lnkRollCall = true) (tbs : List Nat)
    (ht : tbs = (List.range 2).filter (fun k => s.on (Fld.LNK_LANE_STATUSe_DETECTED (11 * k)))) :
    (s.link.acked = false → exec (.capSend false) s = .next { s with link := { s.link with
      sent := tbs.map (fun k => (k, onWire (controlHeader tyCap 160 s.link.capVersion ++ s.link.cap))) } }) ∧
    (s.link.peer.isSome = true → exec (.capSend true) s = .next { s with link := { s.link with
      ackSent := true, sent := tbs.map (fun k => (k, onWire (controlHeader tyCap 0 s.link.peerVersion))) } }) := by
  subst ht
  refine ⟨fun open' => ?_, fun peer => ?_⟩
  · show execCapSend false s = _
    simp only [execCapSend, hl, open', if_true, Bool.false_eq_true, if_false, State.sendCap]
  · show execCapSend true s = _
    simp only [execCapSend, hl, peer, if_true]
    rfl

theorem echoLeaves {p : List Byte} (held : s.link.lbk = some (k, p)) (idle : ∀ f ∈ s.link.flight, f.tb ≠ (if s.tbInUse k then k else 1 - k)) :
    exec .lbkEcho s = .next { s with link := { s.link with lbk := none, sent := [(if s.tbInUse k then k else 1 - k, onWire p)] } } := by
  show execLbkEcho s = _
  simp only [execLbkEcho, held, State.endFlight_idle idle, Option.isSome_some, if_true]
  rfl

/-! ### Event records (R152) -/

theorem State.enqueue_unmarked (h : queueKind n = 0) (mark : s.fld (Fld.QUE_WMn_LEVEL n) = 0) (p : List Byte) :
    (∃ r x, s.enqueue n p = { s with regs := r, queues := x }) ∧ s.regsBut (s.enqueue n p) [Reg.QUE_LEVELn n] := by
  have put : s.enqueue n p = (s.setQueue n { s.queue n with pkts := (s.queue n).pkts ++ [⟨p, false, s.air, 0, [], []⟩] }).relevel n := by
    rw [State.enqueue, State.putPacket, State.storePacket_inner h]
  rw [put, State.relevel_unmarked ((State.fld_setQueue s n _ _).trans mark)]
  exact ⟨⟨_, _, rfl⟩, (State.regsBut.of_regs rfl _).setFld _ (by simp)⟩

/-- The records that are packed no longer wait. -/
def State.packRecords (s : State) : State := { s with link := { s.link with records := s.link.records.drop 32 } }

theorem recordsLeave (hl : s.linkIs lnkActive = true) (some' : s.link.records ≠ []) (mark : s.fld (Fld.QUE_WMn_LEVEL 26) = 0) :
    ∃ t, exec .evtSend s = .next t ∧ t.link = { s.link with records := s.link.records.drop 32 } ∧
      (t.queue 26).pkts = (s.queue 26).pkts ++ [⟨mkHeader tyEvt 0 26 0 (16 * (s.link.records.take 32).length) 0 ++
        (s.link.records.take 32).flatMap evtRecord, false, s.air, 0, [], []⟩] ∧ (∀ m, m ≠ 26 → t.queue m = s.queue m) ∧
      t = { s with regs := t.regs, queues := t.queues, link := t.link } ∧ s.regsBut t [Reg.QUE_LEVELn 26] := by
  have run : exec .evtSend s = .next (s.packRecords.enqueue 26 (mkHeader tyEvt 0 26 0 (16 * (s.link.records.take 32).length) 0 ++
      (s.link.records.take 32).flatMap evtRecord)) := by
    show execEvtSend s = _
    rw [execEvtSend, if_pos ⟨hl, some'⟩]
    rfl
  generalize mkHeader tyEvt 0 26 0 (16 * (s.link.records.take 32).length) 0 ++ (s.link.records.take 32).flatMap evtRecord = p at *
  obtain ⟨own, others, -, -⟩ := s.packRecords.enqueue_inner (n := 26) (by decide) p _ rfl
  obtain ⟨⟨r, x, frame⟩, regs⟩ := State.enqueue_unmarked (s := s.packRecords) (n := 26) (by decide) mark p
  generalize s.packRecords.enqueue 26 p = t at *
  refine ⟨t, run, ?_, ?_, fun m hm => (others m hm).trans rfl, ?_, fun a ha => regs a ha⟩
  · rw [frame]
    rfl
  · rw [own]
    rfl
  · rw [frame]
    rfl

theorem keepaliveLeaves (hl : s.linkIs lnkActive = true) (use : (s.queue 26).use = true) (room : (s.queue 26).occupancy < 256)
    (mark : s.fld (Fld.QUE_WMn_LEVEL 26) = 0) :
    ∃ t, exec .evtKeepalive s = .next t ∧ (t.queue 26).pkts = (s.queue 26).pkts ++ [⟨mkHeader tyEvt 0 26 0 0 0, false, s.air, 0, [], []⟩] ∧
      t = { s with regs := t.regs, queues := t.queues } ∧ s.regsBut t [Reg.QUE_LEVELn 26] := by
  have run : exec .evtKeepalive s = .next (s.enqueue 26 (mkHeader tyEvt 0 26 0 0 0)) := by
    show execEvtKeepalive s = _
    rw [execEvtKeepalive, if_pos ⟨hl, use, room⟩]
  obtain ⟨own, -, -, -⟩ := s.enqueue_inner (n := 26) (by decide) (mkHeader tyEvt 0 26 0 0 0) _ rfl
  obtain ⟨⟨r, x, frame⟩, regs⟩ := State.enqueue_unmarked (n := 26) (by decide) mark (mkHeader tyEvt 0 26 0 0 0)
  generalize s.enqueue 26 (mkHeader tyEvt 0 26 0 0 0) = t at *
  exact ⟨t, run, by rw [own], by rw [frame], regs⟩

/-- Settles O30: each kind of packet by what its queue or its record leaves. -/
theorem outboundPacketsLeave : Obligations.OutboundPacketsLeave := by
  intro s
  refine ⟨fun n k p ps may h27 first mark idle seq hs b hb => ?_, fun hl idle qs hq body hb => creditsLeave hl idle qs hq body hb,
    fun hl tbs ht => capabilitiesLeave hl tbs ht, fun k p held idle => echoLeaves held idle, fun hl some' mark => recordsLeave hl some' mark,
    fun hl use room mark => keepaliveLeaves hl use room mark, fun p ps first idle hl credit room good => ?_⟩
  · have zero : (k = 0) = (k.val = 0) := propext ⟨fun h => by rw [h]; rfl, fun h => Fin.ext h⟩
    simp only [zero] at hs hb ⊢
    exact outboundLeaves n k may h27 first mark idle seq hs b hb
  · have ready : s.mgqReady := ⟨idle, hl, credit, room⟩
    have run : exec .mgqStartDeferred s = .next (State.mgqStart 256 s) := rfl
    rw [run, State.mgqStart_begins ready first good 255]
    rfl

end Sys2Proof.Machine

/-!
PROOFS. Air time and its source (O36).
-/

namespace Sys2Proof.Machine

variable {s t u v : State} {as : List Nat} {a n m k : Nat} {q : Requester} {d : Word}

/-! ### Synchronisation (R190 to R193) -/

theorem State.syncState_congr (h : t.rd Reg.ATM_SYNC_STATUS = s.rd Reg.ATM_SYNC_STATUS) : t.syncState = s.syncState :=
  State.fld_congr (f := Fld.ATM_SYNC_STATUS_STATE) h

theorem State.syncState_setFld (s : State) {st : Nat} (h : st < 4) : (s.setFld Fld.ATM_SYNC_STATUS_STATE st).syncState = st :=
  State.fld_setFld_same _ _ _ (by decide) h

/-- HOLDOVER is reported with the source (R193). -/
theorem State.setSync_holdover (hs : s.syncState ≠ syncHoldover) (room : s.raiseRoom 1) : s.setSync syncHoldover =
    { s.setFld Fld.ATM_SYNC_STATUS_STATE syncHoldover with raise := s.raise ++ [s.occurrence 0x51 (s.fld Fld.ATM_SYNC_CTRL_SRC)] } := by
  have left : (s.setFld Fld.ATM_SYNC_STATUS_STATE syncHoldover).raiseRoom 1 := room.congr rfl rfl
  unfold State.setSync
  dsimp only
  rw [if_neg (Ne.symm hs), if_neg (by decide), if_pos rfl]
  exact State.event_raiseRoom left (by decide) _ _

/-- Into LOCKED from another state: the device has been locked once, and says so (R193). -/
theorem State.setSync_locked (hs : s.syncState ≠ syncLocked) (room : s.raiseRoom 1) : s.setSync syncLocked =
    { s.setFld Fld.ATM_SYNC_STATUS_STATE syncLocked with
      time := { s.time with everLocked := true }, raise := s.raise ++ [s.occurrence 0x50 (s.fld Fld.ATM_SYNC_CTRL_SRC)] } := by
  have left : State.raiseRoom { s.setFld Fld.ATM_SYNC_STATUS_STATE syncLocked with time := { s.time with everLocked := true } } 1 := room.congr rfl rfl
  unfold State.setSync
  dsimp only
  rw [if_neg (Ne.symm hs), if_pos rfl]
  exact State.event_raiseRoom left (by decide) _ _

theorem lossHoldsOver (hs : s.syncState = syncLocked) (hl : s.on Fld.ATM_SYNC_CTRL_LOSS_MS = true) (room : s.raiseRoom 1) :
    ∃ t, exec .syncLossTimeout s = .next t ∧ t.syncState = syncHoldover ∧
      t.raise = s.raise ++ [s.occurrence 0x51 (s.fld Fld.ATM_SYNC_CTRL_SRC)] ∧
      t = { s with regs := t.regs, raise := t.raise } ∧ s.regsBut t [Reg.ATM_SYNC_STATUS] := by
  have run : exec .syncLossTimeout s = .next (s.setSync syncHoldover) := by
    show execSyncLossTimeout s = _
    rw [execSyncLossTimeout, if_pos ⟨hs, hl⟩]
  rw [State.setSync_holdover (by rw [hs]; decide) room] at run
  refine ⟨_, run, ?_, rfl, rfl, ((State.regsBut.refl s _).setFld _ (by simp)).congr rfl⟩
  exact (State.fld_withRaise _ _ _).trans (State.syncState_setFld s (by decide))

/-! ### Edges of ALIGN (R191, R192) -/

theorem edgeTooSoon (ph : Fin 16) {e : Int} (he : s.time.edge = some e) (soon : (s.air : Int) + 1 - e < 1105920) :
    ∃ t, exec (.alignEdge ph) s = .next t ∧
      t.fld Fld.ATM_SYNC_STATUS_OUTLIERS = min 255 (s.fld Fld.ATM_SYNC_STATUS_OUTLIERS + 1) ∧ s.onlyRegs t [Reg.ATM_SYNC_STATUS] := by
  have run : exec (.alignEdge ph) s = .next (s.count Fld.ATM_SYNC_STATUS_OUTLIERS 1) := by
    show execAlignEdge ph s = _
    simp only [execAlignEdge, he, soon, decide_true, if_true]
  exact ⟨_, run, State.fld_count_same _ _ _ (by decide), rfl, (State.regsBut.refl s _).count _ (by simp)⟩

/-- An edge that is taken: its instant is kept, its phase shown. -/
def State.takeEdge (s : State) (ph : Fin 16) : State :=
  ({ s with time := { s.time with edge := some ((s.air : Int) + 1) } }.setFld Fld.ATM_ALIGN_PHASE_PHASE ph.val).setFld Fld.ATM_ALIGN_PHASE_VALID 1

theorem State.takeEdge_takes (s : State) (ph : Fin 16) :
    (∃ r, s.takeEdge ph = { s with regs := r, time := { s.time with edge := some ((s.air : Int) + 1) } }) ∧ s.regsBut (s.takeEdge ph) [Reg.ATM_ALIGN_PHASE] ∧
      (s.takeEdge ph).fld Fld.ATM_ALIGN_PHASE_PHASE = ph.val ∧ (s.takeEdge ph).on Fld.ATM_ALIGN_PHASE_VALID = true := by
  refine ⟨⟨_, rfl⟩, ((State.regsBut.of_regs rfl _).setFld _ (by simp)).setFld _ (by simp), ?_, State.on_setFld_one _ _ (by decide) (by decide)⟩
  rw [State.takeEdge, State.fld_setFld_ne _ _ _ _ (by decide) (by decide)]
  exact State.fld_setFld_same _ _ _ (by decide) ph.isLt

theorem exec_alignEdge (ph : Fin 16) (he : s.time.edge = none) : exec (.alignEdge ph) s = .next
    (match s.edgeError (s.fld Fld.ATM_SYNC_CTRL_SRC) (s.air + 1) with
    | some d => ({ s.takeEdge ph with time := { (s.takeEdge ph).time with tim := none } }).observe d
    | none => s.takeEdge ph) := by
  have src : (s.takeEdge ph).fld Fld.ATM_SYNC_CTRL_SRC = s.fld Fld.ATM_SYNC_CTRL_SRC :=
    (s.takeEdge_takes ph).2.1.fld _ (by decide)
  have error (x : Nat) : (s.takeEdge ph).edgeError x (s.air + 1) = s.edgeError x (s.air + 1) := rfl
  rw [← src, ← error]
  show execAlignEdge ph s = _
  simp only [execAlignEdge, he, Bool.false_eq_true, if_false]
  rfl

theorem State.edgeError_none (hs : s.fld Fld.ATM_SYNC_CTRL_SRC < 2) (ht : s.fld Fld.ATM_SYNC_CTRL_SRC = 0 ∨ s.time.tim = none) (a : Nat) :
    s.edgeError (s.fld Fld.ATM_SYNC_CTRL_SRC) a = none := by
  generalize s.fld Fld.ATM_SYNC_CTRL_SRC = x at *
  rcases ht with rfl | ht
  · rfl
  · simp only [State.edgeError, ht]
    exact if_neg (by omega)

theorem edgeIsKept (ph : Fin 16) (he : s.time.edge = none) (hs : s.fld Fld.ATM_SYNC_CTRL_SRC < 2) (ht : s.fld Fld.ATM_SYNC_CTRL_SRC = 0 ∨ s.time.tim = none) :
    ∃ t, exec (.alignEdge ph) s = .next t ∧ t.fld Fld.ATM_ALIGN_PHASE_PHASE = ph.val ∧ t.on Fld.ATM_ALIGN_PHASE_VALID = true ∧
      t = { s with regs := t.regs, time := { s.time with edge := some ((s.air : Int) + 1) } } ∧ s.regsBut t [Reg.ATM_ALIGN_PHASE] := by
  have run := exec_alignEdge ph he
  rw [State.edgeError_none hs ht] at run
  obtain ⟨⟨r, frame⟩, regs, phase, valid⟩ := s.takeEdge_takes ph
  generalize s.takeEdge ph = t at *
  exact ⟨t, run, phase, valid, by rw [frame], regs⟩

/-! ### An observation in UNSYNCED (R193) -/

theorem satInt_of_range {x : Int} (h : -2 ^ 31 ≤ x ∧ x < 2 ^ 31) : satInt 32 x = x := by
  simp only [satInt]
  omega

theorem State.observe_acquires {x : Int} (hs : s.syncState = syncUnsynced) (hx : -2 ^ 31 ≤ x ∧ x < 2 ^ 31) : s.observe x =
    ((s.wr Reg.ATM_SYNC_ERR (BitVec.ofInt 32 x)).loadAir x).setFld Fld.ATM_SYNC_STATUS_STATE syncAcquiring := by
  have state : (s.wr Reg.ATM_SYNC_ERR (BitVec.ofInt 32 x)).syncState = syncUnsynced :=
    (State.fld_wr_ne s _ _ Fld.ATM_SYNC_STATUS_STATE (by decide)).trans hs
  unfold State.observe
  rw [satInt_of_range hx]
  dsimp only
  rw [if_pos state]
  generalize s.wr Reg.ATM_SYNC_ERR (BitVec.ofInt 32 x) = v at *
  have moved : (v.loadAir x).syncState = syncUnsynced := state
  rw [State.setSync]
  dsimp only
  rw [moved, if_neg (by decide), if_neg (by decide), if_neg (by decide)]

theorem State.loadAir_air (s : State) (x : Int) : ((s.loadAir x).air : Int) = ((s.air : Int) + x) % (2 ^ 64 : Nat) :=
  Int.toNat_of_nonneg (Int.emod_nonneg _ (by decide))

theorem State.loadAir_regs (s : State) (x : Int) : (s.loadAir x).regs = s.regs := rfl

theorem State.loadAir_rest (s : State) (x : Int) : (s.loadAir x).raise = s.raise ∧ (s.loadAir x).store = s.store ∧ (s.loadAir x).queues = s.queues ∧
    (s.loadAir x).domains = s.domains ∧ (s.loadAir x).time = { s.time with edge := s.time.edge.map (· + x) } := ⟨rfl, rfl, rfl, rfl, rfl⟩

theorem edgeIsObserved (ph : Fin 16) (he : s.time.edge = none) (hs : s.syncState = syncUnsynced) {x : Int}
    (hx : s.edgeError (s.fld Fld.ATM_SYNC_CTRL_SRC) (s.air + 1) = some x) (range : -2 ^ 31 ≤ x ∧ x < 2 ^ 31) :
    ∃ t, exec (.alignEdge ph) s = .next t ∧ (t.air : Int) = (s.air + x) % (2 ^ 64 : Nat) ∧ t.syncState = syncAcquiring ∧
      t.rd Reg.ATM_SYNC_ERR = BitVec.ofInt 32 x ∧ t.time.tim = none ∧ t.raise = s.raise ∧ t.store = s.store ∧
      t.queues = s.queues ∧ s.regsBut t [Reg.ATM_ALIGN_PHASE, Reg.ATM_SYNC_ERR, Reg.ATM_SYNC_STATUS] := by
  have run := exec_alignEdge ph he
  rw [hx] at run
  obtain ⟨⟨r, frame⟩, regs, -, -⟩ := s.takeEdge_takes ph
  have untimed : ∃ v : State, ({ s.takeEdge ph with time := { (s.takeEdge ph).time with tim := none } } : State) = v ∧ v.regs = (s.takeEdge ph).regs ∧
      v.time.tim = none ∧ v.air = s.air ∧ v.raise = s.raise ∧ v.store = s.store ∧ v.queues = s.queues := by
    refine ⟨_, rfl, rfl, rfl, ?_, ?_, ?_, ?_⟩ <;> rw [frame]
  obtain ⟨v, hv, vregs, tim, air, raise, store, queues⟩ := untimed
  rw [hv] at run
  dsimp only at run
  have regs' : s.regsBut v [Reg.ATM_ALIGN_PHASE] := regs.congr vregs
  have unsynced : v.syncState = syncUnsynced := (State.syncState_congr (regs' _ (by decide))).trans hs
  rw [State.observe_acquires unsynced range] at run
  have wrote : s.regsBut (v.wr Reg.ATM_SYNC_ERR (BitVec.ofInt 32 x)) [Reg.ATM_ALIGN_PHASE, Reg.ATM_SYNC_ERR, Reg.ATM_SYNC_STATUS] :=
    State.regsBut.wr (fun a ha => regs' a (fun h => ha (by simp at h ⊢; exact Or.inl h))) _ (by simp)
  have error : (v.wr Reg.ATM_SYNC_ERR (BitVec.ofInt 32 x)).rd Reg.ATM_SYNC_ERR = BitVec.ofInt 32 x := State.rd_wr_same _ _ _
  have same : ∃ r, v.wr Reg.ATM_SYNC_ERR (BitVec.ofInt 32 x) = { v with regs := r } := ⟨_, rfl⟩
  generalize v.wr Reg.ATM_SYNC_ERR (BitVec.ofInt 32 x) = w at *
  obtain ⟨r', same⟩ := same
  have moved := w.loadAir_air x
  have mregs := w.loadAir_regs x
  obtain ⟨mraise, mstore, mqueues, -, mtime⟩ := w.loadAir_rest x
  generalize w.loadAir x = y at *
  refine ⟨_, run, ?_, State.syncState_setFld y (by decide), ?_, ?_, ?_, ?_, ?_, (wrote.congr mregs).setFld _ (by simp)⟩
  · rw [State.setFld_air, moved, same, air]
  · rw [State.rd_setFld_ne _ _ _ (by decide)]
    exact (State.regsBut.of_regs mregs [] _ List.not_mem_nil).trans error
  · rw [State.setFld_time, mtime, same]
    exact tim
  · rw [State.setFld_raise, mraise, same, raise]
  · rw [State.setFld_store, mstore, same, store]
  · rw [State.setFld_queues, mqueues, same, queues]

/-! ### SET and the source (R193, R194) -/

theorem State.atmSet_congr (lo : t.rd Reg.ATM_SET_LO = s.rd Reg.ATM_SET_LO) (hi : t.rd Reg.ATM_SET_HI = s.rd Reg.ATM_SET_HI) : t.atmSet = s.atmSet := by
  rw [State.atmSet, lo, hi, State.atmSet]

theorem State.atmSet_lt (s : State) : s.atmSet < 2 ^ 64 := by
  have lo := (s.rd Reg.ATM_SET_LO).isLt
  have hi := (s.rd Reg.ATM_SET_HI).isLt
  unfold State.atmSet
  omega

/-- The write of ATM_CTRL that SET 1 makes, before SET acts. -/
theorem exec_atmSet (h : s.passes q Reg.ATM_CTRL true) (src : s.fld Fld.ATM_SYNC_CTRL_SRC = 0) (w : Word) (v : State)
    (hv : v = s.plainWrite Reg.ATM_CTRL (Fld.ATM_CTRL_SET.put 0 (Fld.ATM_CTRL_SET.put 1 w))) :
    exec (.atmSet q w) s = .next (if v.syncState = syncLocked ∨ v.syncState = syncHoldover then
      (v.setFld Fld.ATM_CTRL_SET 1).decideStep ((v.atmSet : Int) - v.air) else (v.loadAir ((v.atmSet : Int) - v.air)).setSync syncLocked) ∧
    s.beside v ∧ s.regsBut v [Reg.ATM_CTRL] := by
  have regs : s.regsBut v [Reg.ATM_CTRL] := by
    rw [hv]
    exact (State.regsBut.refl s _).plainWrite _ (by simp)
  refine ⟨?_, by rw [hv]; exact ⟨_, rfl⟩, regs⟩
  rw [exec_access (f := fun s => s.atmCtrlWrite (Fld.ATM_CTRL_SET.put 1 w)) h rfl, State.atmCtrlWrite, ← hv]
  dsimp only
  rw [if_pos ⟨Fld.of_put_same _ _ _ (by decide) (by decide), (regs.fld _ (by decide)).trans src⟩]

theorem setLoads (w : Word) (h : s.passes q Reg.ATM_CTRL true) (src : s.fld Fld.ATM_SYNC_CTRL_SRC = 0) (hs : s.syncState = syncUnsynced) (room : s.raiseRoom 1) :
    ∃ t, exec (.atmSet q w) s = .next t ∧ t.air = s.atmSet ∧ t.syncState = syncLocked ∧ t.time.everLocked = true ∧
      t.raise = s.raise ++ [t.occurrence 0x50 0] ∧ t.store = s.store ∧ t.queues = s.queues ∧ s.regsBut t [Reg.ATM_CTRL, Reg.ATM_SYNC_STATUS] := by
  obtain ⟨run, ⟨r, frame⟩, regs⟩ := exec_atmSet h src w _ rfl
  generalize s.plainWrite Reg.ATM_CTRL _ = v at *
  have state : v.syncState = syncUnsynced := (State.syncState_congr (regs _ (by decide))).trans hs
  have goal : v.atmSet = s.atmSet := State.atmSet_congr (regs _ (by decide)) (regs _ (by decide))
  rw [if_neg (by rw [state]; decide), goal] at run
  have moved := v.loadAir_air ((s.atmSet : Int) - v.air)
  have mregs := v.loadAir_regs ((s.atmSet : Int) - v.air)
  obtain ⟨mraise, mstore, mqueues, mdomains, mtime⟩ := v.loadAir_rest ((s.atmSet : Int) - v.air)
  generalize v.loadAir ((s.atmSet : Int) - v.air) = y at *
  have regs' : s.regsBut y [Reg.ATM_CTRL] := regs.congr mregs
  have left : y.raiseRoom 1 := room.congr (mdomains.trans (by rw [frame])) (mraise.trans (by rw [frame]))
  have notLocked : y.syncState ≠ syncLocked := by
    rw [State.syncState_congr (regs' _ (by decide)), hs]
    decide
  have source : y.fld Fld.ATM_SYNC_CTRL_SRC = 0 := (regs'.fld _ (by decide)).trans src
  have lands : y.air = s.atmSet := by
    have := s.atmSet_lt
    omega
  rw [State.setSync_locked notLocked left, source] at run
  refine ⟨_, run, lands, ?_, rfl, ?_, ?_, ?_, ?_⟩
  · exact State.syncState_setFld y (by decide)
  · rw [mraise, frame]
    rfl
  · exact mstore.trans (by rw [frame])
  · exact mqueues.trans (by rw [frame])
  · exact State.regsBut.congr (State.regsBut.setFld (fun a ha => regs' a (fun e => ha (by simp at e ⊢; exact Or.inl e))) (f := Fld.ATM_SYNC_STATUS_STATE) syncLocked (by simp)) rfl

theorem setDecides (w : Word) (h : s.passes q Reg.ATM_CTRL true) (src : s.fld Fld.ATM_SYNC_CTRL_SRC = 0) (hs : s.syncState = syncLocked) (idle : s.cal.lop0 = none) :
    ∃ t, exec (.atmSet q w) s = .next t ∧ t.on Fld.ATM_CTRL_SET = true ∧ t.on Fld.ATM_SYNC_STATUS_STEP_PENDING = true ∧
      t = { s with regs := t.regs, time := { s.time with step := some ((s.atmSet : Int) - s.air), outliers := [] } } ∧
      s.regsBut t [Reg.ATM_CTRL, Reg.ATM_SYNC_STATUS] := by
  obtain ⟨run, ⟨r, frame⟩, regs⟩ := exec_atmSet h src w _ rfl
  generalize s.plainWrite Reg.ATM_CTRL _ = v at *
  have state : v.syncState = syncLocked := (State.syncState_congr (regs _ (by decide))).trans hs
  have goal : v.atmSet = s.atmSet := State.atmSet_congr (regs _ (by decide)) (regs _ (by decide))
  have air : v.air = s.air := by rw [frame]
  rw [if_pos (Or.inl state), goal, air] at run
  have set := State.on_setFld_one v Fld.ATM_CTRL_SET (by decide) (by decide)
  have regs' : s.regsBut (v.setFld Fld.ATM_CTRL_SET 1) [Reg.ATM_CTRL, Reg.ATM_SYNC_STATUS] :=
    State.regsBut.setFld (fun a ha => regs a (fun e => ha (by simp at e ⊢; exact Or.inl e))) (f := Fld.ATM_CTRL_SET) 1 (by simp)
  have same : ∃ r, v.setFld Fld.ATM_CTRL_SET 1 = { s with regs := r } := by
    rw [frame]
    exact ⟨_, rfl⟩
  generalize v.setFld Fld.ATM_CTRL_SET 1 = y at *
  obtain ⟨r', same⟩ := same
  have decide' : y.decideStep ((s.atmSet : Int) - s.air) =
      { y with time := { y.time with step := some ((s.atmSet : Int) - s.air), outliers := [] } }.setFld Fld.ATM_SYNC_STATUS_STEP_PENDING 1 := by
    have none' : y.cal.lop0 = none := by rw [same, idle]
    unfold State.decideStep
    rw [none']
  rw [decide'] at run
  refine ⟨_, run, ?_, State.on_setFld_one _ _ (by decide) (by decide), ?_, ((regs'.congr rfl).setFld _ (by simp))⟩
  · rw [State.on_setFld_ne _ _ _ _ (by decide) (by decide)]
    exact set
  · rw [same]
    rfl

theorem sourceKept (w : Word) (h : s.passes q Reg.ATM_SYNC_CTRL true) (same : Fld.ATM_SYNC_CTRL_SRC.of w = s.fld Fld.ATM_SYNC_CTRL_SRC) :
    ∃ t, exec (.atmSrcWrite q w) s = .next t ∧
      t.rd Reg.ATM_SYNC_CTRL = writeWord Reg.ATM_SYNC_CTRL w (s.rd Reg.ATM_SYNC_CTRL) ∧ s.onlyRegs t [Reg.ATM_SYNC_CTRL] := by
  have src := State.fld_plainWrite_plain s (f := Fld.ATM_SYNC_CTRL_SRC) (by decide) w
  have run : exec (.atmSrcWrite q w) s = .next (s.plainWrite Reg.ATM_SYNC_CTRL w) := by
    rw [exec_access (f := fun s => s.syncCtrlWrite w) h rfl, State.syncCtrlWrite]
    rw [if_pos (src.trans same)]
  exact ⟨_, run, State.rd_wr_same _ _ _, rfl, (State.regsBut.refl s _).plainWrite _ (by simp)⟩

theorem sourceChanges (w : Word) (h : s.passes q Reg.ATM_SYNC_CTRL true) (other : Fld.ATM_SYNC_CTRL_SRC.of w ≠ s.fld Fld.ATM_SYNC_CTRL_SRC)
    (zero : Fld.ATM_SYNC_CTRL_SRC.of w ≠ 0) (hs : s.syncState = syncLocked) (room : s.raiseRoom 1) :
    ∃ t, exec (.atmSrcWrite q w) s = .next t ∧ t.syncState = syncHoldover ∧
      t.raise = s.raise ++ [s.occurrence 0x51 (Fld.ATM_SYNC_CTRL_SRC.of w)] ∧ t = { s with regs := t.regs, raise := t.raise } ∧
      s.regsBut t [Reg.ATM_SYNC_CTRL, Reg.ATM_SYNC_STATUS] := by
  have src := State.fld_plainWrite_plain s (f := Fld.ATM_SYNC_CTRL_SRC) (by decide) w
  have run := exec_access (c := .atmSrcWrite q w) (f := fun s => s.syncCtrlWrite w) h rfl
  have regs : s.regsBut (s.plainWrite Reg.ATM_SYNC_CTRL w) [Reg.ATM_SYNC_CTRL, Reg.ATM_SYNC_STATUS] := (State.regsBut.refl s _).plainWrite _ (by simp)
  have state : (s.plainWrite Reg.ATM_SYNC_CTRL w).syncState = syncLocked :=
    (State.syncState_congr ((State.regsBut.refl s [Reg.ATM_SYNC_CTRL]).plainWrite w (by simp) _ (by decide))).trans hs
  have frame : s.beside (s.plainWrite Reg.ATM_SYNC_CTRL w) := ⟨_, rfl⟩
  rw [State.syncCtrlWrite] at run
  generalize s.plainWrite Reg.ATM_SYNC_CTRL w = v at *
  obtain ⟨r, frame⟩ := frame
  have left : v.raiseRoom 1 := room.congr (by rw [frame]) (by rw [frame])
  rw [if_neg (by rw [src]; exact other), if_neg (by rw [src]; exact zero), if_pos state, State.setSync_holdover (by rw [state]; decide) left, src] at run
  refine ⟨_, run, State.syncState_setFld v (by decide), ?_, ?_, (regs.setFld _ (by simp)).congr rfl⟩
  · rw [frame]
    rfl
  · rw [frame]
    rfl

/-! ### A decided step and ALIGN_OUT (R194, R196) -/

theorem State.relevel_empty (h : (s.queue n).occupancy = 0) : s.relevel n = s.setFld (Fld.QUE_LEVELn_LIVE n) 0 := by
  rw [State.relevel, h]
  exact if_neg fun ⟨nonzero, _, le⟩ => nonzero (Nat.le_zero.mp le)

/-- A queue without packets has nothing to consume. -/
theorem State.consumeIf_empty (he : s.queue n = QueueState.empty) (c : StoredPkt → Bool) :
    s.consumeIf n c = (s.setQueue n QueueState.empty).setFld (Fld.QUE_LEVELn_LIVE n) 0 := by
  unfold State.consumeIf
  rw [he]
  have shown : (s.setQueue n QueueState.empty).relevel n = (s.setQueue n QueueState.empty).setFld (Fld.QUE_LEVELn_LIVE n) 0 :=
    State.relevel_empty (by rw [State.queue_setQueue_same]; rfl)
  exact (congrArg (fun v : State => v.grant n 0) shown).trans (if_pos rfl)

/-- What the discard of scheduled packets leaves where no packet is held. -/
def State.unscheduled (s t : State) : Prop :=
  (∃ r x, t = { s with regs := r, queues := x }) ∧ (∀ m, t.queue m = QueueState.empty) ∧ ∀ a, 0xD0000 ≤ a → t.rd a = s.rd a

theorem State.unscheduled.consume (h : s.unscheduled t) (hn : n < 10) : s.unscheduled (t.consumeIf n (fun _ => true)) := by
  obtain ⟨⟨r, x, frame⟩, empty, regs⟩ := h
  rw [State.consumeIf_empty (empty n)]
  refine ⟨⟨_, _, by rw [frame]; rfl⟩, fun m => ?_, fun a ha => ?_⟩
  · rw [State.queue_setFld]
    rcases eq_or_ne m n with rfl | hm
    · rw [State.queue_setQueue_same]
    · rw [State.queue_setQueue_ne _ _ hm, empty m]
  · rw [State.rd_setFld_ne _ _ _ (by simp only [Reg.QUE_LEVELn]; omega)]
    exact regs a ha

theorem State.dropScheduled_empty (hq : s.queues = []) : State.unscheduled { s with sect := { s.sect with held := [] } } s.dropScheduled := by
  have held : s.dropHeld (fun _ => true) = { s with sect := { s.sect with held := [] } } := by
    simp [State.dropHeld]
  have start : State.unscheduled { s with sect := { s.sect with held := [] } } { s with sect := { s.sect with held := [] } } :=
    ⟨⟨_, _, rfl⟩, fun m => by rw [State.queue, show State.queues { s with sect := { s.sect with held := [] } } = [] from hq]; rfl, fun _ _ => rfl⟩
  unfold State.dropScheduled
  rw [held]
  exact State.forEach_induct (n := 10) (fun _ v => State.unscheduled { s with sect := { s.sect with held := [] } } v) start fun v k hk h => h.consume hk

/-- Every path is silent for a frame from AIR_COUNT on. -/
def State.muteAll (s : State) : State :=
  { s with
    smp := { s.smp with syms := [], mutes := (List.range 64).map (fun p => Gap.mk p s.air (s.air + frameTicks)) ++ s.smp.mutes }
    time := { s.time with step := none, muteEnd := s.air + frameTicks } }

theorem exec_timeStepApply {x : Int} (hd : s.time.step = some x) : exec .timeStepApply s = .next
    (((((s.loadAir x).dropScheduled.muteAll.count Fld.ATM_SYNC_STATUS_STEPS 1).setFld Fld.ATM_SYNC_STATUS_STEP_PENDING 0).setFld Fld.ATM_CTRL_SET 0).event 0x52
      (toCode 32 x)) := by
  show execTimeStepApply s = _
  unfold execTimeStepApply
  rw [hd]
  dsimp only
  generalize (s.loadAir x).dropScheduled = v
  have muted : v.muteAll = { v with
      smp := { v.smp with syms := [], mutes := (List.range 64).map (fun p => Gap.mk p v.air (v.air + frameTicks)) ++ v.smp.mutes }
      time := { v.time with step := none, muteEnd := v.air + frameTicks } } := rfl
  rw [muted]

theorem stepIsApplied {x : Int} (hd : s.time.step = some x) (hq : s.queues = []) (room : s.raiseRoom 1) :
    ∃ t, exec .timeStepApply s = .next t ∧ (t.air : Int) = (s.air + x) % (2 ^ 64 : Nat) ∧ t.time.step = none ∧
      t.time.muteEnd = t.air + frameTicks ∧ (∀ p < 64, ⟨p, t.air, t.air + frameTicks⟩ ∈ t.smp.mutes) ∧ t.sect.held = [] ∧
      t.on Fld.ATM_SYNC_STATUS_STEP_PENDING = false ∧
      t.fld Fld.ATM_SYNC_STATUS_STEPS = min 65535 (s.fld Fld.ATM_SYNC_STATUS_STEPS + 1) ∧ t.on Fld.ATM_CTRL_SET = false ∧
      t.raise = s.raise ++ [t.occurrence 0x52 (toCode 32 x)] ∧ t.store = s.store := by
  have run := exec_timeStepApply hd
  have moved := s.loadAir_air x
  have mregs := s.loadAir_regs x
  obtain ⟨mraise, mstore, mqueues, mdomains, -⟩ := s.loadAir_rest x
  generalize s.loadAir x = v at *
  obtain ⟨⟨r, y, frame⟩, -, regs⟩ := State.dropScheduled_empty (mqueues.trans hq)
  generalize v.dropScheduled = w at *
  have muted : ∃ u : State, w.muteAll = u ∧ u.regs = w.regs ∧ u.air = v.air ∧ u.time.step = none ∧ u.time.muteEnd = v.air + frameTicks ∧
      (∀ p < 64, ⟨p, v.air, v.air + frameTicks⟩ ∈ u.smp.mutes) ∧ u.sect.held = [] ∧ u.raise = v.raise ∧ u.store = v.store ∧ u.domains = v.domains := by
    refine ⟨_, rfl, rfl, ?_, rfl, ?_, fun p hp => List.mem_append_left _ (List.mem_map.mpr ⟨p, List.mem_range.mpr hp, ?_⟩), ?_, ?_, ?_, ?_⟩ <;>
      rw [frame] <;> rfl
  obtain ⟨u, hu, uregs, air, step, mute, mutes, held, raise, store, domains⟩ := muted
  rw [hu] at run
  have before : u.fld Fld.ATM_SYNC_STATUS_STEPS = s.fld Fld.ATM_SYNC_STATUS_STEPS := State.fld_congr
    ((State.regsBut.of_regs uregs [] _ List.not_mem_nil).trans ((regs _ (by decide)).trans (State.regsBut.of_regs (s := s) mregs [] _ List.not_mem_nil)))
  have beside : u.beside (((u.count Fld.ATM_SYNC_STATUS_STEPS 1).setFld Fld.ATM_SYNC_STATUS_STEP_PENDING 0).setFld Fld.ATM_CTRL_SET 0) := ⟨_, rfl⟩
  have pending : (((u.count Fld.ATM_SYNC_STATUS_STEPS 1).setFld Fld.ATM_SYNC_STATUS_STEP_PENDING 0).setFld Fld.ATM_CTRL_SET 0).on
      Fld.ATM_SYNC_STATUS_STEP_PENDING = false := by
    rw [State.on_setFld_ne _ _ _ _ (by decide) (by decide)]
    exact (State.on_eq_false _ _).mpr (State.fld_setFld_same _ _ _ (by decide) (by decide))
  have steps : (((u.count Fld.ATM_SYNC_STATUS_STEPS 1).setFld Fld.ATM_SYNC_STATUS_STEP_PENDING 0).setFld Fld.ATM_CTRL_SET 0).fld
      Fld.ATM_SYNC_STATUS_STEPS = min 65535 (s.fld Fld.ATM_SYNC_STATUS_STEPS + 1) := by
    rw [State.fld_setFld_ne _ _ _ _ (by decide) (by decide), State.fld_setFld_ne _ _ _ _ (by decide) (by decide), State.fld_count_same _ _ _ (by decide), before]
    rfl
  have set : (((u.count Fld.ATM_SYNC_STATUS_STEPS 1).setFld Fld.ATM_SYNC_STATUS_STEP_PENDING 0).setFld Fld.ATM_CTRL_SET 0).on
      Fld.ATM_CTRL_SET = false := (State.on_eq_false _ _).mpr (State.fld_setFld_same _ _ _ (by decide) (by decide))
  generalize ((u.count Fld.ATM_SYNC_STATUS_STEPS 1).setFld Fld.ATM_SYNC_STATUS_STEP_PENDING 0).setFld Fld.ATM_CTRL_SET 0 = z at *
  obtain ⟨r', beside⟩ := beside
  have left : z.raiseRoom 1 := room.congr (by rw [beside]; exact domains.trans mdomains) (by rw [beside]; exact raise.trans mraise)
  have zair : z.air = v.air := by rw [beside]; exact air
  rw [State.event_raiseRoom left (by decide)] at run
  refine ⟨_, run, ?_, ?_, ?_, fun p hp => ?_, ?_, ?_, ?_, ?_, ?_, ?_⟩
  · exact (congrArg Nat.cast zair).trans moved
  · rw [beside]
    exact step
  · show z.time.muteEnd = z.air + frameTicks
    rw [zair, beside]
    exact mute
  · show Gap.mk p z.air (z.air + frameTicks) ∈ z.smp.mutes
    rw [zair, beside]
    exact mutes p hp
  · rw [beside]
    exact held
  · exact pending
  · exact steps
  · exact set
  · have : z.raise = s.raise := by
      rw [beside]
      exact raise.trans mraise
    rw [this]
    rfl
  · rw [beside]
    exact store.trans mstore

/-- Settles O36: edges, losses, SET, the source and a decided step, each by the state that it leaves. -/
theorem airTimeFollowsItsSource : Obligations.AirTimeFollowsItsSource := by
  intro s
  refine ⟨fun ph => ⟨fun e he soon => edgeTooSoon ph he soon, fun he hs ht => edgeIsKept ph he hs ht, fun he hs x hx range => edgeIsObserved ph he hs hx range⟩,
    fun hs hl room => lossHoldsOver hs hl room, fun q w h src => ⟨fun hs room => setLoads w h src hs room, fun hs idle => setDecides w h src hs idle⟩,
    fun q w h => ⟨fun same => sourceKept w h same, fun other zero hs room => sourceChanges w h other zero hs room⟩,
    fun x hd hq room => stepIsApplied hd hq room, fun on frame => ?_⟩
  show execAlignOutPulse s = _
  rw [execAlignOutPulse, if_pos (by rw [on, frame]; rfl)]

end Sys2Proof.Machine

/-!
PROOFS. The Timetable and the array map (O37).
-/

namespace Sys2Proof.Machine

variable {s t u v : State} {as : List Nat} {a n m k : Nat} {q : Requester} {d : Word}

/-! ### Swaps (R200, R206) -/

/-- A write of ATM_TT_CTRL that asks for a swap. -/
def State.askSwap (s : State) (d : Word) : State :=
  (if periodOk (Fld.ATM_TT_CTRL_SCS.of d) (Fld.ATM_TT_CTRL_PERIOD.of d) then
      (s.setFld Fld.ATM_TT_CTRL_SCS (Fld.ATM_TT_CTRL_SCS.of d)).setFld Fld.ATM_TT_CTRL_PERIOD (Fld.ATM_TT_CTRL_PERIOD.of d)
    else s.setFld Fld.ATM_TT_CTRL_SCS (Fld.ATM_TT_CTRL_SCS.of d)).setFld Fld.ATM_TT_CTRL_SWAP 1

theorem swapAsked (w : Word) (h : s.passes q Reg.ATM_TT_CTRL true) :
    ∃ t, exec (.ttSwapRequest q w) s = .next t ∧ t.on Fld.ATM_TT_CTRL_SWAP = true ∧
      t.fld Fld.ATM_TT_CTRL_BANK = s.fld Fld.ATM_TT_CTRL_BANK ∧ t.fld Fld.ATM_TT_CTRL_SCS = Fld.ATM_TT_CTRL_SCS.of w ∧
      (periodOk (Fld.ATM_TT_CTRL_SCS.of w) (Fld.ATM_TT_CTRL_PERIOD.of w) = true →
        t.fld Fld.ATM_TT_CTRL_PERIOD = Fld.ATM_TT_CTRL_PERIOD.of w) ∧ s.onlyRegs t [Reg.ATM_TT_CTRL] := by
  have scs : Fld.ATM_TT_CTRL_SCS.of (Fld.ATM_TT_CTRL_SWAP.put 1 w) = Fld.ATM_TT_CTRL_SCS.of w := Fld.of_put_ne _ _ _ _ (by decide) (by decide)
  have period : Fld.ATM_TT_CTRL_PERIOD.of (Fld.ATM_TT_CTRL_SWAP.put 1 w) = Fld.ATM_TT_CTRL_PERIOD.of w := Fld.of_put_ne _ _ _ _ (by decide) (by decide)
  have run : exec (.ttSwapRequest q w) s = .next (s.askSwap w) := by
    rw [exec_access (f := fun s => s.ttCtrlWrite (Fld.ATM_TT_CTRL_SWAP.put 1 w)) h rfl, State.ttCtrlWrite,
      if_pos (Fld.of_put_same _ _ _ (by decide) (by decide)), scs, period]
    rfl
  refine ⟨_, run, State.on_setFld_one _ _ (by decide) (by decide), ?_⟩
  unfold State.askSwap
  split_ifs with ok
  · refine ⟨?_, ?_, fun _ => ?_, rfl, (((State.regsBut.refl s _).setFld _ (by simp)).setFld _ (by simp)).setFld _ (by simp)⟩
    · simp (disch := decide) only [State.fld_setFld_ne]
    · simp (disch := decide) only [State.fld_setFld_ne]
      exact State.fld_setFld_of _ _ _ (by decide)
    · simp (disch := decide) only [State.fld_setFld_ne]
      exact State.fld_setFld_of _ _ _ (by decide)
  · refine ⟨?_, ?_, fun h => absurd h ok, rfl, ((State.regsBut.refl s _).setFld _ (by simp)).setFld _ (by simp)⟩
    · simp (disch := decide) only [State.fld_setFld_ne]
    · simp (disch := decide) only [State.fld_setFld_ne]
      exact State.fld_setFld_of _ _ _ (by decide)

/-- The registers after a swap, its counts taken from the rows of the new bank. -/
def State.swapBanks (s : State) (b n bad hidden : Nat) : State :=
  ((({ (s.setFld Fld.ATM_TT_CTRL_BANK b).setFld Fld.ATM_TT_CTRL_SWAP 0 with
    time := { s.time with period := n, scs := ((s.setFld Fld.ATM_TT_CTRL_BANK b).setFld Fld.ATM_TT_CTRL_SWAP 0).fld Fld.ATM_TT_CTRL_SCS } }).setFld
      Fld.ATM_TT_STATUS_BAD_ROWS bad).setFld Fld.ATM_TT_STATUS_OVERLAPS hidden)

theorem swapHappens (hs : s.on Fld.ATM_TT_CTRL_SWAP = true) (hd : s.detained = false) (b : Nat) (hb : b = 1 - s.fld Fld.ATM_TT_CTRL_BANK) (n : Nat)
    (hn : n = s.fld Fld.ATM_TT_CTRL_PERIOD) :
    ∃ t, exec .ttSwap s = .next t ∧ t.fld Fld.ATM_TT_CTRL_BANK = b ∧ t.on Fld.ATM_TT_CTRL_SWAP = false ∧
      t.fld Fld.ATM_TT_STATUS_BAD_ROWS = min 255 ((s.ttRows b).filter (fun r => !r.valid n)).length ∧
      t.fld Fld.ATM_TT_STATUS_OVERLAPS = min 255 (shadowed n [] (s.ttRows b)) ∧
      t = { s with regs := t.regs, time := { s.time with period := n, scs := s.fld Fld.ATM_TT_CTRL_SCS } } ∧
      s.regsBut t [Reg.ATM_TT_CTRL, Reg.ATM_TT_STATUS] := by
  have run : exec .ttSwap s = .next (s.swapBanks b n (min 255 ((s.ttRows b).filter (fun r => !r.valid n)).length) (min 255 (shadowed n [] (s.ttRows b)))) := by
    show execTtSwap s = _
    simp only [execTtSwap, hs, hd, Bool.not_false, Bool.and_self, if_true, ← hb, ← hn]
    rfl
  have lt : b < 2 := by omega
  generalize hx : min 255 ((s.ttRows b).filter (fun r => !r.valid n)).length = x at *
  generalize hy : min 255 (shadowed n [] (s.ttRows b)) = y at *
  have scs : ((s.setFld Fld.ATM_TT_CTRL_BANK b).setFld Fld.ATM_TT_CTRL_SWAP 0).fld Fld.ATM_TT_CTRL_SCS = s.fld Fld.ATM_TT_CTRL_SCS := by
    simp (disch := decide) only [State.fld_setFld_ne]
  have bank : ((s.setFld Fld.ATM_TT_CTRL_BANK b).setFld Fld.ATM_TT_CTRL_SWAP 0).fld Fld.ATM_TT_CTRL_BANK = b := by
    rw [State.fld_setFld_ne _ _ _ _ (by decide) (by decide)]
    exact State.fld_setFld_same _ _ _ (by decide) lt
  have swap : ((s.setFld Fld.ATM_TT_CTRL_BANK b).setFld Fld.ATM_TT_CTRL_SWAP 0).fld Fld.ATM_TT_CTRL_SWAP = 0 :=
    State.fld_setFld_same _ _ _ (by decide) (by decide)
  have regs : s.regsBut ((s.setFld Fld.ATM_TT_CTRL_BANK b).setFld Fld.ATM_TT_CTRL_SWAP 0) [Reg.ATM_TT_CTRL, Reg.ATM_TT_STATUS] :=
    ((State.regsBut.refl s _).setFld _ (by simp)).setFld _ (by simp)
  have frame : s.beside ((s.setFld Fld.ATM_TT_CTRL_BANK b).setFld Fld.ATM_TT_CTRL_SWAP 0) := ⟨_, rfl⟩
  rw [State.swapBanks, scs] at run
  generalize (s.setFld Fld.ATM_TT_CTRL_BANK b).setFld Fld.ATM_TT_CTRL_SWAP 0 = v at *
  have low (f : Fld) (h : f.addr ≠ Reg.ATM_TT_STATUS) : ((State.setFld { v with time := { s.time with period := n, scs := s.fld Fld.ATM_TT_CTRL_SCS } }
      Fld.ATM_TT_STATUS_BAD_ROWS x).setFld Fld.ATM_TT_STATUS_OVERLAPS y).fld f = v.fld f := by
    rw [State.fld_setFld_ne _ _ _ _ (by decide) (Or.inl h), State.fld_setFld_ne _ _ _ _ (by decide) (Or.inl h)]
    rfl
  refine ⟨_, run, ?_, ?_, ?_, ?_, ?_, (((regs.congr rfl).setFld _ (by simp)).setFld _ (by simp))⟩
  · rw [low _ (by decide), bank]
  · rw [State.on_eq_false, low _ (by decide), swap]
  · rw [State.fld_setFld_ne _ _ _ _ (by decide) (by decide)]
    exact State.fld_setFld_same _ _ _ (by decide) (by rw [← hx]; exact lt_of_le_of_lt (Nat.min_le_left _ _) (by decide))
  · exact State.fld_setFld_same _ _ _ (by decide) (by rw [← hy]; exact lt_of_le_of_lt (Nat.min_le_left _ _) (by decide))
  · obtain ⟨r, rfl⟩ := frame
    rfl

/-! ### The array map (R217) -/

theorem State.peerWrite_unmapped {i w : Nat} (h : w ≠ 2 ∨ s.time.map = []) : s.peerWrite i w d = s.plainWrite (Reg.ATM_PEERk_W0 i + 4 * w) d := by
  have map : (s.plainWrite (Reg.ATM_PEERk_W0 i + 4 * w) d).time.map = s.time.map := rfl
  unfold State.peerWrite
  dsimp only
  rw [map]
  split
  · next e found =>
    rcases h with h | h
    · exact if_neg fun x => h x.1
    · rw [h] at found
      cases found
  · rfl

theorem peerLoads (i : Fin 4) (k : Fin 3) (w : Word) (h : s.passes q (Reg.ATM_PEERk_W0 i.val + 4 * k.val) true) (hk : k.val ≠ 2 ∨ s.time.map = []) :
    ∃ t, exec (.atmPeerWrite i k q w) s = .next t ∧
      t.rd (Reg.ATM_PEERk_W0 i.val + 4 * k.val) =
        writeWord (Reg.ATM_PEERk_W0 i.val + 4 * k.val) w (s.rd (Reg.ATM_PEERk_W0 i.val + 4 * k.val)) ∧
      s.onlyRegs t [Reg.ATM_PEERk_W0 i.val + 4 * k.val] := by
  refine ⟨_, exec_access (f := fun s => s.peerWrite i.val k.val w) h rfl, ?_⟩
  rw [State.peerWrite_unmapped hk]
  exact ⟨State.rd_wr_same _ _ _, rfl, (State.regsBut.refl s _).plainWrite _ (by simp)⟩

theorem bitOf_eq_testBit (x i : Nat) : bitOf x i = x.testBit i := by
  rw [bitOf, Nat.testBit_eq_decide_div_mod_eq]

/-- A bit below `n` is kept by a field of `n` bits. -/
theorem bitOf_mod (x : Nat) {i n : Nat} (h : i < n) : bitOf (x % 2 ^ n) i = bitOf x i := by
  rw [bitOf_eq_testBit, bitOf_eq_testBit, Nat.testBit_mod_two_pow, decide_eq_true h, Bool.true_and]

theorem getField_low (hi : Nat) (w : Word) : getField hi 0 w = w.toNat % 2 ^ (hi + 1) := by
  refine Nat.eq_of_testBit_eq fun i => ?_
  rw [testBit_getField, Nat.testBit_mod_two_pow, Nat.zero_add, Nat.sub_zero, BitVec.testBit_toNat]

theorem peer_plain : ∀ i : Fin 4, (Fld.ATM_PEERk_W2_VALID i.val).plain = true ∧ (Fld.ATM_PEERk_W2_LEVEL i.val).plain = true := by decide

theorem peerDisagrees (i : Fin 4) (k : Fin 3) (w : Word) (h : s.passes q (Reg.ATM_PEERk_W0 i.val + 4 * k.val) true) (hk : k.val = 2)
    (e : Nat × Nat × Bool) (he : (mapEntries s.time.map).find? (fun e => e.2.1 == i.val) = some e) (valid : w.getLsbD 31 = true)
    (other : s.peerSerial i.val ≠ e.1) (room : s.raiseRoom 1) :
    ∃ t, exec (.atmPeerWrite i k q w) s = .next t ∧ bitOf (t.fld Fld.ATM_ARRAY_STATUS_MISMATCH) i.val = true ∧
      t.raise = s.raise ++ [s.occurrence 0x5A (i.val + 65536 * (w.toNat % 65536))] ∧
      t = { s with regs := t.regs, raise := t.raise } ∧ s.regsBut t [Reg.ATM_PEERk_W2 i.val, Reg.ATM_ARRAY_STATUS] := by
  have reg : Reg.ATM_PEERk_W0 i.val + 4 * k.val = Reg.ATM_PEERk_W2 i.val := by
    simp only [Reg.ATM_PEERk_W0, Reg.ATM_PEERk_W2]
    omega
  have index : e.2.1 = i.val := by simpa using List.find?_some he
  have run := exec_access (c := .atmPeerWrite i k q w) (f := fun s => s.peerWrite i.val k.val w) h rfl
  have on : (s.plainWrite (Reg.ATM_PEERk_W2 i.val) w).on (Fld.ATM_PEERk_W2_VALID i.val) = true := by
    rw [State.on, State.fld_plainWrite_plain s (peer_plain i).1 w]
    refine decide_eq_true fun zero => ?_
    · have bit := testBit_getField 31 31 0 w
      rw [show getField 31 31 w = 0 from zero, Nat.zero_testBit] at bit
      rw [Nat.add_zero, valid] at bit
      cases bit
  have level : (s.plainWrite (Reg.ATM_PEERk_W2 i.val) w).fld (Fld.ATM_PEERk_W2_LEVEL i.val) = w.toNat % 65536 := by
    rw [State.fld_plainWrite_plain s (peer_plain i).2 w]
    exact getField_low 15 w
  have regs : s.regsBut (s.plainWrite (Reg.ATM_PEERk_W2 i.val) w) [Reg.ATM_PEERk_W2 i.val] := (State.regsBut.refl s _).plainWrite _ (by simp)
  have frame : s.beside (s.plainWrite (Reg.ATM_PEERk_W2 i.val) w) := ⟨_, rfl⟩
  rw [State.peerWrite, reg] at run
  generalize s.plainWrite (Reg.ATM_PEERk_W2 i.val) w = v at *
  have serial : v.peerSerial i.val = s.peerSerial i.val := by
    rw [State.peerSerial, regs _ (by simp only [Reg.ATM_PEERk_W0, Reg.ATM_PEERk_W2, List.mem_singleton]; omega),
      regs _ (by simp only [Reg.ATM_PEERk_W1, Reg.ATM_PEERk_W2, List.mem_singleton]; omega), State.peerSerial]
  have disagrees : v.peerAgrees e = false := by
    rw [State.peerAgrees, index, serial, beq_eq_false_iff_ne.mpr other, Bool.false_and]
  obtain ⟨r, frame⟩ := frame
  have map : v.time.map = s.time.map := by rw [frame]
  rw [map, he] at run
  dsimp only at run
  rw [if_pos ⟨hk, on, by rw [disagrees]; rfl⟩, level] at run
  have left : (v.setFld Fld.ATM_ARRAY_STATUS_MISMATCH (setBitOf (v.fld Fld.ATM_ARRAY_STATUS_MISMATCH) i.val true)).raiseRoom 1 :=
    room.congr (by rw [State.setFld_domains, frame]) (by rw [State.setFld_raise, frame])
  rw [State.event_raiseRoom left (by decide)] at run
  refine ⟨_, run, ?_, ?_, ?_, ?_⟩
  · rw [State.fld_withRaise, State.fld_setFld_mod _ _ _ (by decide)]
    exact (bitOf_mod _ i.isLt).trans (bitOf_setBitOf _ _ _)
  · rw [frame]
    rfl
  · rw [frame]
    rfl
  · have wider : s.regsBut v [Reg.ATM_PEERk_W2 i.val, Reg.ATM_ARRAY_STATUS] := fun a ha => regs a (fun x => ha (by simp at x ⊢; exact Or.inl x))
    exact (wider.setFld _ (by simp)).congr rfl

/-! ### JOINT_OK (R217, R351) -/

/-- LOP0 no longer measures, and its controls read 0. -/
def State.unmeasured (s : State) : State :=
  (({ s with cal := { s.cal with lop0 := none } }.setFld Fld.RFE_CAL_STATUS_STATE 0).setFld Fld.CAL_ARR_CTRL_ABORT 0).setFld Fld.CAL_ARR_CTRL_GO 0

theorem State.lop0Stop_eq (s : State) (st err : Nat) : s.lop0Stop st err = s.unmeasured.lopEnd 0 st err := rfl

theorem State.unmeasured_fld (s : State) (f : Fld) (h : f.addr ≠ Reg.RFE_CAL_STATUS ∧ f.addr ≠ Reg.CAL_ARR_CTRL) : s.unmeasured.fld f = s.fld f := by
  rw [State.unmeasured, State.fld_setFld_ne _ _ _ _ (by decide) (Or.inl h.2), State.fld_setFld_ne _ _ _ _ (by decide) (Or.inl h.2),
    State.fld_setFld_ne _ _ _ _ (by decide) (Or.inl h.1)]
  rfl

theorem State.on_lop0Stop (s : State) (st err : Nat) {f : Fld}
    (h : (f.addr ≠ Reg.RFE_CAL_STATUS ∧ f.addr ≠ Reg.CAL_ARR_CTRL) ∧ f.addr ≠ Reg.LOP_STATn 0 ∧ f.addr ≠ Reg.EVT_DROP) :
    (s.lop0Stop st err).on f = s.on f := by
  rw [State.on, State.lop0Stop_eq, State.fld_lopEnd_ne _ _ _ _ _ h.2.1 h.2.2, State.unmeasured_fld _ _ h.1]
  rfl

theorem State.lop0Stop_cal (s : State) (st err : Nat) : (s.lop0Stop st err).cal.lop0 = none := by
  rw [State.lop0Stop_eq, State.lopEnd, State.event_cal]
  rfl

theorem State.lop0Stop_state (s : State) {st err : Nat} (hs : st < 8) (he : err < 32) :
    (s.lop0Stop st err).lopState 0 = st ∧ (s.lop0Stop st err).fld (Fld.LOP_STATn_ERR 0) = err := by
  rw [State.lop0Stop_eq, State.lopState_lopEnd _ _ _ _ hs (by decide), State.fld_lopEnd_err _ _ _ _ (by decide)]
  exact ⟨rfl, Nat.mod_eq_of_lt he⟩

theorem jointOkIsTaken : ∃ t, exec .jointOkChange s = .next t ∧ t.on Fld.ATM_ARRAY_STATUS_JOINT_OK = s.jointOk ∧
    (s.jointOk = true ∨ s.cal.lop0 = none → s.onlyRegs t [Reg.ATM_ARRAY_STATUS]) ∧
    (s.jointOk = false → ∀ c, s.cal.lop0 = some c → c.joint = true →
      t.cal.lop0 = none ∧ t.lopState 0 = lopFailed ∧ t.fld (Fld.LOP_STATn_ERR 0) = 8) := by
  have run : exec .jointOkChange s = .next (s.setFld Fld.ATM_ARRAY_STATUS_JOINT_OK (bit s.jointOk)).stopJoint := rfl
  have on := s.on_setFld_bit Fld.ATM_ARRAY_STATUS_JOINT_OK s.jointOk (by decide) (by decide)
  have only : s.onlyRegs (s.setFld Fld.ATM_ARRAY_STATUS_JOINT_OK (bit s.jointOk)) [Reg.ATM_ARRAY_STATUS] := ⟨rfl, (State.regsBut.refl s _).setFld _ (by simp)⟩
  have cal : (s.setFld Fld.ATM_ARRAY_STATUS_JOINT_OK (bit s.jointOk)).cal = s.cal := rfl
  generalize s.setFld Fld.ATM_ARRAY_STATUS_JOINT_OK (bit s.jointOk) = v at *
  have cases : v.stopJoint = v ∨ v.stopJoint = v.lop0Stop lopFailed 8 := by
    unfold State.stopJoint
    split
    · split_ifs
      · exact Or.inr rfl
      · exact Or.inl rfl
    · exact Or.inl rfl
  refine ⟨_, run, ?_, fun h => ?_, fun fallen c hc joint => ?_⟩
  · rcases cases with same | stop
    · rw [same, on]
    · rw [stop, v.on_lop0Stop lopFailed 8 (by decide), on]
  · have same : v.stopJoint = v := by
      unfold State.stopJoint
      rcases h with h | h
      · split
        · exact if_neg (by simp [on, h])
        · rfl
      · rw [cal, h]
    rw [same]
    exact only
  · have stop : v.stopJoint = v.lop0Stop lopFailed 8 := by
      unfold State.stopJoint
      rw [cal, hc]
      exact if_pos (by simp [on, fallen, joint])
    rw [stop]
    exact ⟨v.lop0Stop_cal lopFailed 8, (v.lop0Stop_state (by decide) (by decide)).1, (v.lop0Stop_state (by decide) (by decide)).2⟩

/-! ### What a grid symbol boundary keeps -/

/-- What the groups act by and what they act as, and what no symbol touches. -/
def State.scene (s : State) :=
  (s.air, s.fuses, s.flash, s.link, s.domains, s.pwr, s.cal.slots, s.cal.lop1, s.time.period, s.time.scs, s.sfd.plan, s.sfd.demoted,
    s.rf.start, s.rf.stop, s.rf.dirs)

/-- From `s` to `t` the scene stays. -/
structure State.stages (s t : State) : Prop where
  same : t.scene = s.scene

namespace State.stages

theorem refl (s : State) : s.stages s := ⟨rfl⟩

theorem trans (h : s.stages t) (h' : t.stages u) : s.stages u := ⟨h'.same.trans h.same⟩

/-- A change beside the scene. -/
theorem of {regs store aonTicks hkSub pins boot flashOps sec clk mspi raise shadows banksOff queues ecc scrubUnc dma time bmb dlc ulc ul smp nco sect rssi
    rf lin sfd cal seen cores hk fresh pending} (h : s.stages t)
    (e : (cal.slots, cal.lop1, time.period, time.scs, sfd.plan, sfd.demoted, rf.start, rf.stop, rf.dirs) =
      (t.cal.slots, t.cal.lop1, t.time.period, t.time.scs, t.sfd.plan, t.sfd.demoted, t.rf.start, t.rf.stop, t.rf.dirs)) :
    s.stages { t with
      regs := regs, store := store, aonTicks := aonTicks, hkSub := hkSub, pins := pins, boot := boot, flashOps := flashOps, sec := sec, clk := clk,
      mspi := mspi, raise := raise, shadows := shadows, banksOff := banksOff, queues := queues, ecc := ecc, scrubUnc := scrubUnc, dma := dma,
      time := time, bmb := bmb, dlc := dlc, ulc := ulc, ul := ul, smp := smp, nco := nco, sect := sect, rssi := rssi, rf := rf, lin := lin,
      sfd := sfd, cal := cal, seen := seen, cores := cores, hk := hk, fresh := fresh, pending := pending } := by
  have all : (t.air, t.fuses, t.flash, t.link, t.domains, t.pwr, cal.slots, cal.lop1, time.period, time.scs, sfd.plan, sfd.demoted, rf.start, rf.stop, rf.dirs) =
      t.scene := by
    rw [Prod.mk.injEq, Prod.mk.injEq, Prod.mk.injEq, Prod.mk.injEq, Prod.mk.injEq, Prod.mk.injEq]
    exact ⟨rfl, rfl, rfl, rfl, rfl, rfl, e⟩
  exact ⟨all.trans h.same⟩

theorem withRows {r} (h : s.stages t) : s.stages { t with rf := { t.rf with rows := r } } := h.of rfl

theorem withLevels {x y} (h : s.stages t) : s.stages { t with rf := { t.rf with levels := x, followed := y } } := h.of rfl

section Control

variable {c : Prop} {inst : Decidable c} {α : Type}

theorem ite (hu : s.stages u) (hv : s.stages v) : s.stages (if c then u else v) := by split <;> assumption

theorem whenever (h : s.stages t) (hu : s.stages t → s.stages u) : s.stages (if c then u else t) := ite (hu h) h

theorem iff {c : Bool} {f : State → State} (h : s.stages t) (hf : s.stages t → s.stages (f t)) : s.stages (t.iff c f) := h.whenever hf

theorem foldl {f : State → α → State} {l : List α} (h : s.stages t) (hf : ∀ {t x}, s.stages t → s.stages (f t x)) : s.stages (l.foldl f t) := by
  induction l generalizing t with
  | nil => exact h
  | cons x l ih => exact ih (hf h)

theorem forEach {f : State → Nat → State} (h : s.stages t) (hf : ∀ {t k}, s.stages t → s.stages (f t k)) : s.stages (t.forEach n f) := h.foldl hf

end Control

theorem wr {w} (h : s.stages t) : s.stages (t.wr a w) := h.of rfl

theorem setFld {f x} (h : s.stages t) : s.stages (t.setFld f x) := h.of rfl

theorem count {f x} (h : s.stages t) : s.stages (t.count f x) := h.setFld

theorem event {code info} (h : s.stages t) : s.stages (t.event code info) := ite h (ite (h.of rfl) h.count)

theorem eventOnce {code source info} (h : s.stages t) : s.stages (t.eventOnce code source info) := ite h (event (h.of rfl))

theorem lopUnits {x y} (h : s.stages t) : s.stages (t.lopUnits n x y) := ite h.setFld.setFld h.setFld.setFld

theorem lopEnd {x y} (h : s.stages t) : s.stages (t.lopEnd n x y) := h.setFld.setFld.event

/-! The LOs. -/

theorem setSynth {g x y} (h : s.stages t) : s.stages (t.setSynth g x y) := h.of rfl

theorem notReady {g tx rx} (h : s.stages t) : s.stages (t.notReady g tx rx) :=
  .whenever (.whenever (.ite h.count h) fun h => h.count) fun h => h.event

theorem driveFec {line level} (h : s.stages t) : s.stages (t.driveFec line level) := h.of rfl

theorem holdTxLow {g} (h : s.stages t) : s.stages (t.holdTxLow g) := .foldl (h.of rfl) fun h => h.driveFec

theorem checkReady {g} (h : s.stages t) : s.stages (t.checkReady g) := .ite h (of (h.notReady.whenever fun h => h.holdTxLow) rfl)

theorem setLo {g x st} (h : s.stages t) : s.stages (t.setLo g x st) := (h.setFld.whenever fun h => h.setSynth).checkReady

theorem cancelPhase {g x} (h : s.stages t) : s.stages (t.cancelPhase g x) := h.setSynth.setFld.setFld

theorem retune {g x c} (h : s.stages t) : s.stages (t.retune g x c) := .ite h.event (.ite h.event h.cancelPhase.setSynth.setFld.setLo)

theorem requestRetune {g x c} (h : s.stages t) : s.stages (t.requestRetune g x c) := .ite h h.retune

theorem applyBand {g} (h : s.stages t) : s.stages (t.applyBand g) := .ite h (setLo (cancelPhase (setLo (cancelPhase (h.of rfl)))))

/-! What comes before the directions. -/

theorem driveEdge {e} (h : s.stages t) : s.stages (t.driveEdge e) := .ite h (.ite (h.of rfl) h.driveFec)

theorem runEdges (h : s.stages t) : s.stages t.runEdges := .foldl (h.of rfl) fun h => h.driveEdge

theorem runSupplies (h : s.stages t) : s.stages t.runSupplies := h.of rfl

theorem setQueue {x} (h : s.stages t) : s.stages (t.setQueue n x) := h.of rfl

theorem relevel (h : s.stages t) : s.stages (t.relevel n) := .ite h.setFld.setFld.count.event h.setFld

theorem grant {x} (h : s.stages t) : s.stages (t.grant n x) := .ite h (.ite (setQueue h.setFld) (.ite h.setQueue h))

theorem endWgtSlots {x} (h : s.stages t) : s.stages (t.endWgtSlots x) := h.setQueue.relevel.grant

theorem pruneSpans {x} (h : s.stages t) : s.stages (t.pruneSpans x) := h.of rfl

theorem hkMark {mark air} (h : s.stages t) : s.stages (t.hkMark mark air) := h.foldl fun h => .ite (of (h.iff fun h => h.count) rfl) h

theorem fireMarks {x} (h : s.stages t) : s.stages (t.fireMarks k x) := h.foldl fun h => h.iff fun h => h.hkMark

theorem boundaryLo {g} (h : s.stages t) : s.stages (t.boundaryLo g k) := by
  refine .ite h (of ?_ rfl)
  dsimp only
  split
  · exact .ite (h.applyBand.setFld.iff fun h => h.setSynth.requestRetune) (h.applyBand.iff fun h => h.setFld)
  · exact h.applyBand.iff fun h => h.setFld

theorem boundaryLoIdle {g} (h : s.stages t) : s.stages (t.boundaryLoIdle g) := .ite h (of (h.applyBand.iff fun h => h.setFld) rfl)

theorem takeRows {x} (h : s.stages t) : s.stages (t.takeRows x) := by
  unfold State.takeRows
  split
  · exact .withRows (.forEach (.fireMarks h) fun h => .boundaryLo h)
  · exact .withRows (.forEach h fun h => .boundaryLoIdle h)

theorem refreshDelays (h : s.stages t) : s.stages t.refreshDelays := by
  unfold State.refreshDelays
  exact .foldl (.setFld h) fun h => .setFld (.setFld h)

theorem applyGains (h : s.stages t) : s.stages t.applyGains := by
  unfold State.applyGains
  exact .forEach (.forEach h fun h => .setFld h) fun h => .wr h

/-! What comes after the directions. -/

theorem setLg {g x} (h : s.stages t) : s.stages (t.setLg g x) := h.of rfl

theorem mixCapture {g hit} (h : s.stages t) : s.stages (t.mixCapture g hit) := by
  unfold State.mixCapture
  split
  · exact .ite h.setLg h
  · exact h

theorem mixSfd (h : s.stages t) : s.stages t.mixSfd := by
  unfold State.mixSfd
  split
  · exact .ite (h.of rfl) h
  · exact h

theorem takeClasses {x} (h : s.stages t) : s.stages (t.takeClasses x) := by
  have pruned : s.stages { t with rf := { t.rf with leads := t.rf.leads.filter (fun l => decide (x < l.air)) } } := h.of rfl
  unfold State.takeClasses
  dsimp only
  split
  · exact of ((pruned.iff fun h => h.forEach fun h => h.mixCapture).iff fun h => h.mixSfd) rfl
  · exact pruned

theorem takeReadiness {x} (h : s.stages t) : s.stages (t.takeReadiness x) := .forEach (h.of rfl) fun h => of h.notReady rfl

theorem supplyDown {p x y} (h : s.stages t) : s.stages (t.supplyDown p x y) := h.of rfl

theorem supplyUp {p x y z} (h : s.stages t) : s.stages (t.supplyUp p x y z) := .ite h (h.of rfl)

theorem planSupplies {p ks x y lag was off next} (h : s.stages t) : s.stages (t.planSupplies p ks x y lag was off next) := by
  have down : s.stages (if off && !was then ks.foldl (fun s k => s.supplyDown p k (x + lag)) t else t) := .ite (h.foldl fun h => h.supplyDown) h
  refine .ite ?_ (down.whenever fun h => h.foldl fun h => h.supplyUp)
  split
  · exact down.foldl fun h => h.supplyUp
  · exact down

theorem setQuiet {x y} (h : s.stages t) : s.stages (t.setQuiet x y) :=
  .forEach (of (h.foldl fun h => h.iff fun h => h.planSupplies.planSupplies) rfl) fun h => (h.iff fun h => h.count).iff fun h => h.count

theorem planFall {p l x} (h : s.stages t) : s.stages (t.planFall p l x) := h.of rfl

theorem planRise {p l x lock guard} (h : s.stages t) : s.stages (t.planRise p l x lock guard) :=
  .ite (eventOnce (count (h.of rfl))) (h.of rfl)

theorem planLines {g x lv fl sb guard} (h : s.stages t) : s.stages (t.planLines g x lv fl sb guard) := by
  unfold State.planLines
  refine .foldl (.foldl h fun h => .iff h fun h => ?_) fun h => .iff h fun h => ?_
  · exact .withLevels (.foldl h fun h => .planFall h)
  · exact .withLevels (.foldl h fun h => .planRise h)

theorem takeLines {x y} (h : s.stages t) : s.stages (t.takeLines x y) :=
  h.forEach fun h => of (h.planLines.whenever fun h => h.planLines).planLines rfl

theorem lop0Stop {x y} (h : s.stages t) : s.stages (t.lop0Stop x y) := lopEnd (setFld (setFld (setFld (h.of rfl))))

theorem runChips {c x y} (h : s.stages t) : s.stages (t.runChips c x y) := .ite h.lop0Stop (lopUnits (h.of rfl))

theorem takeChips {x y} (h : s.stages t) : s.stages (t.takeChips x y) := by
  unfold State.takeChips
  split
  · exact .ite h h.runChips
  · exact h

theorem logSymbol {x} (h : s.stages t) : s.stages (t.logSymbol x) := h.of rfl

theorem takeCodes {x adc} (h : s.stages t) : s.stages (t.takeCodes x adc) := h.of rfl

theorem retake (h : s.stages t) : s.stages t.retake := by
  unfold State.retake
  split
  · exact .ite (h.of rfl) h
  · exact h

theorem takePaths (h : s.stages t) : s.stages t.takePaths := by
  unfold State.takePaths
  dsimp only
  split
  · exact h.retake.of rfl
  · exact h.retake

theorem dlSat {f p x y} (h : s.stages t) : s.stages (t.dlSat f p x y) := .ite h h.count.eventOnce

theorem cfrCount {p x y} (h : s.stages t) : s.stages (t.cfrCount p x y) := by
  unfold State.cfrCount
  exact .iff (.iff h fun h => .count h) fun h => .eventOnce (.count h)

theorem linSat {p x y} (h : s.stages t) : s.stages (t.linSat p x y) := by
  unfold State.linSat
  exact .iff (.iff h fun h => .eventOnce (.count h)) fun h => .eventOnce (.count h)

theorem countDown {x y p} (h : s.stages t) : s.stages (t.countDown x y p) := .ite h (h.dlSat.iff fun h => h.cfrCount.linSat).dlSat.dlSat

theorem countUp {x y p} (h : s.stages t) : s.stages (t.countUp x y p) := .ite h (.ite (.ite h h.count.eventOnce) (count (.ite h h.count.eventOnce)).eventOnce)

theorem countSymbol {x y} (h : s.stages t) : s.stages (t.countSymbol x y) := .ite h ((h.forEach fun h => h.countDown).forEach fun h => h.countUp)

theorem endSymbol {x} (h : s.stages t) : s.stages (t.endSymbol x) := by
  unfold State.endSymbol
  split
  · exact h.countSymbol
  · exact h

theorem pruneSamples {x} (h : s.stages t) : s.stages (t.pruneSamples x) := h.of rfl

theorem corePend {c} (h : s.stages t) : s.stages (t.corePend c k) := .ite h.wr h

end State.stages

/-! ### The registers that the directions are read from -/

/-- The registers of the air timing, and those that say which groups are fitted. -/
def rowReg (a : Nat) : Prop := (0xD0000 ≤ a ∧ a < 0xE0000) ∨ (0x200000 ≤ a ∧ a < 0x280000 ∧ a % 0x10000 = 0)

theorem not_rowReg_evtDrop : ¬ rowReg Reg.EVT_DROP := by
  unfold rowReg
  decide

theorem not_rowReg_low {a : Nat} (h : a < 0xD0000) : ¬ rowReg a := by
  unfold rowReg
  omega

theorem not_rowReg_odd {a : Nat} (h : 0xE0000 ≤ a) (low : a % 0x1000 ≠ 0) : ¬ rowReg a := by
  unfold rowReg
  omega

/-- From `s` to `t` they read the same. -/
structure State.keepsRows (s t : State) : Prop where
  same : ∀ a, rowReg a → t.rd a = s.rd a

namespace State.keepsRows

theorem refl (s : State) : s.keepsRows s := ⟨fun _ _ => rfl⟩

theorem trans (h : s.keepsRows t) (h' : t.keepsRows u) : s.keepsRows u := ⟨fun a ha => (h'.same a ha).trans (h.same a ha)⟩

theorem of (h : s.keepsRows t) (e : u.regs = t.regs) : s.keepsRows u :=
  ⟨fun a ha => (State.regsBut.of_regs e [] a List.not_mem_nil).trans (h.same a ha)⟩

section Control

variable {c : Prop} {inst : Decidable c} {α : Type}

theorem ite (hu : s.keepsRows u) (hv : s.keepsRows v) : s.keepsRows (if c then u else v) := by split <;> assumption

theorem whenever (h : s.keepsRows t) (hu : s.keepsRows t → s.keepsRows u) : s.keepsRows (if c then u else t) := ite (hu h) h

theorem iff {c : Bool} {f : State → State} (h : s.keepsRows t) (hf : s.keepsRows t → s.keepsRows (f t)) : s.keepsRows (t.iff c f) := h.whenever hf

theorem foldl {f : State → α → State} {l : List α} (h : s.keepsRows t) (hf : ∀ {t}, ∀ x ∈ l, s.keepsRows t → s.keepsRows (f t x)) :
    s.keepsRows (l.foldl f t) := by
  induction l generalizing t with
  | nil => exact h
  | cons x l ih => exact ih (hf x List.mem_cons_self h) fun y hy => hf y (List.mem_cons_of_mem _ hy)

theorem forEach {f : State → Nat → State} (h : s.keepsRows t) (hf : ∀ {t}, ∀ k < n, s.keepsRows t → s.keepsRows (f t k)) :
    s.keepsRows (t.forEach n f) := h.foldl fun k hk => hf k (List.mem_range.mp hk)

end Control

theorem wr {w} (h : s.keepsRows t) (ha : ¬ rowReg a) : s.keepsRows (t.wr a w) :=
  ⟨fun b hb => (State.rd_wr_ne _ _ fun e => ha (by rw [← e]; exact hb)).trans (h.same b hb)⟩

theorem setFld {f x} (h : s.keepsRows t) (hf : ¬ rowReg f.addr) : s.keepsRows (t.setFld f x) := h.wr hf

theorem count {f x} (h : s.keepsRows t) (hf : ¬ rowReg f.addr) : s.keepsRows (t.count f x) := h.setFld hf

theorem event {code info} (h : s.keepsRows t) : s.keepsRows (t.event code info) :=
  ⟨fun b hb => (State.rd_event _ _ _ fun e => not_rowReg_evtDrop (congrArg rowReg e ▸ hb :)).trans (h.same b hb)⟩

theorem setSynth {g x y} (h : s.keepsRows t) : s.keepsRows (t.setSynth g x y) := h.of rfl

theorem setQueue {x} (h : s.keepsRows t) : s.keepsRows (t.setQueue n x) := h.of rfl

theorem notReady {g tx rx} (h : s.keepsRows t) : s.keepsRows (t.notReady g tx rx) := by
  have lonr : ¬ rowReg (Reg.RFE_PGg_LONR g) := not_rowReg_odd (by simp only [Reg.RFE_PGg_LONR]; omega) (by simp only [Reg.RFE_PGg_LONR]; omega)
  exact .whenever (.whenever (.ite (h.count lonr) h) fun h => h.count lonr) fun h => h.event

theorem holdTxLow {g} (h : s.keepsRows t) : s.keepsRows (t.holdTxLow g) := .foldl (h.of rfl) fun _ _ h => h.of rfl

theorem checkReady {g} (h : s.keepsRows t) : s.keepsRows (t.checkReady g) := .ite h (.of (h.notReady.whenever fun h => h.holdTxLow) rfl)

theorem loRegs (g : Nat) {x : Nat} (hx : x < 2) : ¬ rowReg (Reg.RFE_PGg_LOx_STATUS g x) ∧ ¬ rowReg (Reg.RFE_PGg_LOx_PHASE g x) :=
  ⟨not_rowReg_odd (by simp only [Reg.RFE_PGg_LOx_STATUS]; omega) (by simp only [Reg.RFE_PGg_LOx_STATUS]; omega),
    not_rowReg_odd (by simp only [Reg.RFE_PGg_LOx_PHASE]; omega) (by simp only [Reg.RFE_PGg_LOx_PHASE]; omega)⟩

theorem setLo {g x st} (h : s.keepsRows t) (hx : x < 2) : s.keepsRows (t.setLo g x st) :=
  .checkReady (.whenever (h.setFld (loRegs g hx).1) fun h => h.setSynth)

theorem cancelPhase {g x} (h : s.keepsRows t) (hx : x < 2) : s.keepsRows (t.cancelPhase g x) :=
  (h.setSynth.setFld (loRegs g hx).2).setFld (loRegs g hx).2

theorem retune {g x c} (h : s.keepsRows t) (hx : x < 2) : s.keepsRows (t.retune g x c) :=
  .ite h.event (.ite h.event (.setLo (.setFld (h.cancelPhase hx).setSynth (loRegs g hx).1) hx))

theorem requestRetune {g x c} (h : s.keepsRows t) (hx : x < 2) : s.keepsRows (t.requestRetune g x c) := .ite h (h.retune hx)

theorem stopLo {g x} (h : s.keepsRows t) (hx : x < 2) : s.keepsRows (t.stopLo g x) := (h.cancelPhase hx).setLo hx

theorem applyBand {g} (h : s.keepsRows t) : s.keepsRows (t.applyBand g) := .ite h (.stopLo (.stopLo (h.of rfl) (by decide)) (by decide))

theorem hkMark {mark air} (h : s.keepsRows t) : s.keepsRows (t.hkMark mark air) :=
  h.foldl fun _ _ h => .ite (.of (h.iff fun h => h.count (not_rowReg_low (by decide))) rfl) h

theorem fireMarks {x} (h : s.keepsRows t) : s.keepsRows (t.fireMarks k x) := h.foldl fun _ _ h => h.iff fun h => h.hkMark

theorem losel {g x} (h : s.keepsRows t) : s.keepsRows (t.setFld (Fld.RFE_PGg_LOSEL_INUSE g) x) :=
  h.setFld (not_rowReg_odd (by simp only [Reg.RFE_PGg_LOSEL]; omega) (by simp only [Reg.RFE_PGg_LOSEL]; omega))

theorem withSelWaits {x} (h : s.keepsRows t) : s.keepsRows { t with rf := { t.rf with selWaits := x } } := h.of rfl

theorem boundaryLo {g} (h : s.keepsRows t) : s.keepsRows (t.boundaryLo g k) := by
  refine .ite h (.withSelWaits ?_)
  split
  · refine .ite (.iff (.losel (.applyBand h)) fun h => ?_) (.iff (.applyBand h) fun h => .losel h)
    exact .requestRetune (.setSynth h) (by omega)
  · exact .iff (.applyBand h) fun h => .losel h

theorem boundaryLoIdle {g} (h : s.keepsRows t) : s.keepsRows (t.boundaryLoIdle g) := by
  exact .ite h (.withSelWaits (.iff (.applyBand h) fun h => .losel h))

theorem withRows {r} (h : s.keepsRows t) : s.keepsRows { t with rf := { t.rf with rows := r } } := h.of rfl

theorem takeRows {x} (h : s.keepsRows t) : s.keepsRows (t.takeRows x) := by
  unfold State.takeRows
  split
  · exact .withRows (.forEach (.fireMarks h) fun _ _ h => .boundaryLo h)
  · exact .withRows (.forEach h fun _ _ h => .boundaryLoIdle h)

theorem refreshDelays (h : s.keepsRows t) : s.keepsRows t.refreshDelays := by
  unfold State.refreshDelays
  refine .foldl (.setFld h ?_) fun p hp h => .setFld (.setFld h ?_) ?_
  · unfold rowReg
    decide
  · have := List.mem_range.mp hp
    simp only [rowReg, Reg.DLC_PATHp_DLY]
    omega
  · have := List.mem_range.mp hp
    simp only [rowReg, Reg.ULC_PATHp_DLY]
    omega

theorem applyGains (h : s.keepsRows t) : s.keepsRows t.applyGains := by
  unfold State.applyGains
  refine .forEach (.forEach h fun g _ h => .setFld h ?_) fun p hp h => .wr h ?_
  · simp only [rowReg, Reg.LIN_PGg_COMP_STATUS]
    omega
  · simp only [rowReg, Reg.LIN_PATHp_GAIN_STATUS]
    omega

end State.keepsRows

/-! ### The directions of a grid symbol (R202, R204, R350) -/

/-- What the scene holds. -/
theorem State.stages.parts (h : s.stages t) : (t.air = s.air ∧ t.fuses = s.fuses ∧ t.flash = s.flash ∧ t.link = s.link ∧ t.domains = s.domains ∧ t.pwr = s.pwr) ∧
    (t.cal.slots = s.cal.slots ∧ t.cal.lop1 = s.cal.lop1 ∧ t.time.period = s.time.period ∧ t.time.scs = s.time.scs) ∧
    (t.sfd.plan = s.sfd.plan ∧ t.sfd.demoted = s.sfd.demoted) ∧ (t.rf.start = s.rf.start ∧ t.rf.stop = s.rf.stop ∧ t.rf.dirs = s.rf.dirs) := by
  have same := h.same
  simp only [State.scene, Prod.mk.injEq] at same
  tauto

/-- What tells the directions of the groups is the same. -/
structure State.sameDirections (s t : State) : Prop where
  domains : t.domains = s.domains
  pwr : t.pwr = s.pwr
  slots : t.cal.slots = s.cal.slots
  lop1 : t.cal.lop1 = s.cal.lop1
  period : t.time.period = s.time.period
  scs : t.time.scs = s.time.scs
  plan : t.sfd.plan = s.sfd.plan
  demoted : t.sfd.demoted = s.sfd.demoted
  regs : ∀ a, rowReg a → t.rd a = s.rd a

theorem State.stages.directions (h : s.stages t) (k : s.keepsRows t) : s.sameDirections t := by
  obtain ⟨⟨-, -, -, -, domains, pwr⟩, ⟨slots, lop1, period, scs⟩, ⟨plan, demoted⟩, -⟩ := h.parts
  exact ⟨domains, pwr, slots, lop1, period, scs, plan, demoted, k.same⟩

theorem State.sameDirections.trans (h : s.sameDirections t) (h' : t.sameDirections u) : s.sameDirections u :=
  ⟨h'.domains.trans h.domains, h'.pwr.trans h.pwr, h'.slots.trans h.slots, h'.lop1.trans h.lop1, h'.period.trans h.period, h'.scs.trans h.scs,
    h'.plan.trans h.plan, h'.demoted.trans h.demoted, fun a ha => (h'.regs a ha).trans (h.regs a ha)⟩

theorem State.sameDirections.symm (h : s.sameDirections t) : t.sameDirections s :=
  ⟨h.domains.symm, h.pwr.symm, h.slots.symm, h.lop1.symm, h.period.symm, h.scs.symm, h.plan.symm, h.demoted.symm, fun a ha => (h.regs a ha).symm⟩

theorem State.sameDirections.ttOn (h : s.sameDirections t) {g : Nat} (hg : g < 8) : t.ttOn g = s.ttOn g := by
  have fitted : t.on (Fld.RFE_PGg_CFG_FITTED g) = s.on (Fld.RFE_PGg_CFG_FITTED g) := by
    rw [State.on, State.fld_congr (h.regs _ (Or.inr (by simp only [Reg.RFE_PGg_CFG]; omega))), State.on]
  simp only [State.ttOn, State.groupOn, State.domOn, State.calibrating, fitted, h.domains, h.pwr, h.lop1]

theorem State.sameDirections.ttRow (h : s.sameDirections t) {b r : Nat} (hb : b < 2) (hr : r < 256) : t.ttRow b r = s.ttRow b r := by
  have word (k : Nat) (hk : k < 4) : t.rd (Reg.ATM_TT_ROW b (4 * r + k)) = s.rd (Reg.ATM_TT_ROW b (4 * r + k)) :=
    h.regs _ (Or.inl (by simp only [Reg.ATM_TT_ROW]; omega))
  simp only [State.ttRow, word 0 (by decide), word 1 (by decide), word 2 (by decide), word 3 (by decide)]

theorem State.sameDirections.rowFor (h : s.sameDirections t) (g k : Nat) : t.rowFor g k = s.rowFor g k := by
  have bank : t.fld Fld.ATM_TT_CTRL_BANK = s.fld Fld.ATM_TT_CTRL_BANK := State.fld_congr (h.regs _ (Or.inl (by decide)))
  have rows : t.ttRows (s.fld Fld.ATM_TT_CTRL_BANK) = s.ttRows (s.fld Fld.ATM_TT_CTRL_BANK) :=
    List.map_congr_left fun r hr => h.ttRow (s.fld_lt Fld.ATM_TT_CTRL_BANK) (List.mem_range.mp hr)
  rw [State.rowFor, bank, rows, h.period, State.rowFor]

theorem State.sameDirections.actsAs (h : s.sameDirections t) (g a : Nat) : t.actsAs g a = s.actsAs g a := by
  have joint : t.on Fld.ATM_ARRAY_STATUS_JOINT_OK = s.on Fld.ATM_ARRAY_STATUS_JOINT_OK := by
    rw [State.on, State.fld_congr (h.regs _ (Or.inl (by decide))), State.on]
  have symbol : t.gridSymbol a = s.gridSymbol a := by rw [State.gridSymbol, h.period, h.scs, State.gridSymbol]
  have row : t.rowAt g a = s.rowAt g a := by
    rw [State.rowAt, symbol, funext (h.rowFor g), State.rowAt]
  simp only [State.actsAs, State.forcedSlot, State.rowDir, State.sbRuns, State.planOn, State.domOn, joint, row, h.slots, h.scs, h.plan, h.demoted, h.domains]
  rfl

/-! ### The boundary, stage by stage -/

/-- The registers that the end of WGT slots may change. -/
theorem State.endWgtSlots_regsBut (s : State) (a : Nat) :
    s.regsBut (s.endWgtSlots a) [Reg.QUE_LEVELn 9, Reg.QUE_WMn 9, Reg.QUE_COUNTn 9, Reg.EVT_DROP, Reg.QUE_GRANTn 9] := by
  unfold State.endWgtSlots State.consumeIf
  dsimp only
  intro b hb
  simp only [List.mem_cons, List.not_mem_nil, or_false, not_or] at hb
  rw [State.grant_regsBut _ _ _ b (by simpa using hb.2.2.2.2), State.relevel_regsBut _ _ b (by simp only [List.mem_cons, List.not_mem_nil, or_false, not_or]; tauto)]
  rfl

theorem State.runEdges_regs (s : State) : s.runEdges.regs = s.regs := by
  unfold State.runEdges
  exact foldl_keeps State.regs State.driveEdge (fun v e => by unfold State.driveEdge State.driveFec; dsimp only; split_ifs <;> rfl) _ _

/-- What is due at the boundary is done: edges, supplies, WGT slots, spans. -/
def State.settlePast (s : State) (a : Nat) : State := (s.runEdges.runSupplies.endWgtSlots a).pruneSpans a

theorem State.pruneSpans_rd (s : State) (a b : Nat) : (s.pruneSpans a).rd b = s.rd b := rfl

theorem State.runSupplies_rd (s : State) (b : Nat) : s.runSupplies.rd b = s.rd b := rfl

theorem State.settlePast_stages (s : State) (a : Nat) : s.stages (s.settlePast a) := by
  unfold State.settlePast
  exact .pruneSpans (.endWgtSlots (.runSupplies (.runEdges (.refl s))))

theorem State.settlePast_regsBut (s : State) (a : Nat) :
    s.regsBut (s.settlePast a) [Reg.QUE_LEVELn 9, Reg.QUE_WMn 9, Reg.QUE_COUNTn 9, Reg.EVT_DROP, Reg.QUE_GRANTn 9] := fun b hb => by
  rw [State.settlePast, State.pruneSpans_rd, State.endWgtSlots_regsBut _ _ b hb, State.runSupplies_rd]
  exact State.regsBut.of_regs s.runEdges_regs [] b List.not_mem_nil

theorem State.settlePast_keeps (s : State) (a : Nat) : s.stages (s.settlePast a) ∧
    s.regsBut (s.settlePast a) [Reg.QUE_LEVELn 9, Reg.QUE_WMn 9, Reg.QUE_COUNTn 9, Reg.EVT_DROP, Reg.QUE_GRANTn 9] :=
  ⟨s.settlePast_stages a, s.settlePast_regsBut a⟩

/-- The canceller's EN and demotions as their registers say. -/
def State.takeDemotions (s : State) : State :=
  { s with
    rf := { s.rf with late := bitsToNat ((List.range 64).map (fun p => clampDelay (s.pathDelay p s.air).1 != 0 && Config.edgeLate)) }
    sfd := { s.sfd with en := s.on Fld.SFD_CTRL_EN, demoted := bitsToNat ((List.range 8).map (fun g => s.on (Fld.SFD_PGg_STATUS_DEMOTED g))) } }

theorem State.takeSettings_eq (s : State) : s.takeSettings = s.takeDemotions.refreshDelays.iff (s.takeDemotions.refreshDelays.domOn pdLin) State.applyGains := by
  unfold State.takeSettings State.takeDemotions
  extract_lets late v
  rfl

theorem State.takeSettings_keeps (s : State) : s.takeDemotions.stages s.takeSettings ∧ s.takeDemotions.keepsRows s.takeSettings := by
  rw [State.takeSettings_eq]
  exact ⟨.iff (.refreshDelays (.refl _)) fun h => .applyGains h, .iff (.refreshDelays (.refl _)) fun h => .applyGains h⟩

/-- The span of the grid symbol is noted. -/
def State.inSymbol (s : State) (a b : Nat) : State := { s with rf := { s.rf with start := a, stop := b } }

theorem exec_timetableSymbol (adc : List (List (BitVec 28))) (hl : s.time.everLocked = true) (hc : s.domOn pdCtl = true) (hd : s.detained = false) :
    ∃ t, exec (.timetableSymbol adc) s = .next t ∧
      State.stages (((((s.settlePast (symStart s.time.scs s.air)).inSymbol (symStart s.time.scs s.air) (s.nextBoundary s.air)).takeSettings.takeRows
        (symStart s.time.scs s.air)).takeDirs (symStart s.time.scs s.air))) t := by
  have run : exec (.timetableSymbol adc) s = execTimetableSymbol adc s := rfl
  rw [run, execTimetableSymbol]
  simp only [hl, hc, hd, Bool.not_true, Bool.or_self, Bool.false_eq_true, if_false]
  exact ⟨_, rfl, .forEach (.pruneSamples (.endSymbol (.takePaths (.takeCodes (.iff (.logSymbol (.takeChips (.takeLines (.setQuiet (.takeReadiness
    (.takeClasses (.refl _))))))) fun h => .mixSfd h))))) fun h => .corePend h⟩

theorem State.takeDemotions_parts (s : State) : (s.takeDemotions.air = s.air ∧ s.takeDemotions.fuses = s.fuses ∧ s.takeDemotions.flash = s.flash ∧
      s.takeDemotions.link = s.link ∧ s.takeDemotions.domains = s.domains ∧ s.takeDemotions.pwr = s.pwr) ∧ s.takeDemotions.cal = s.cal ∧
    s.takeDemotions.time = s.time ∧ s.takeDemotions.sfd.plan = s.sfd.plan ∧
    s.takeDemotions.sfd.demoted = bitsToNat ((List.range 8).map (fun g => s.on (Fld.SFD_PGg_STATUS_DEMOTED g))) ∧
    (s.takeDemotions.rf.start = s.rf.start ∧ s.takeDemotions.rf.stop = s.rf.stop) ∧ s.takeDemotions.regs = s.regs := by
  unfold State.takeDemotions
  refine ⟨⟨?_, ?_, ?_, ?_, ?_, ?_⟩, ?_, ?_, ?_, ?_, ⟨?_, ?_⟩, ?_⟩ <;> rfl

theorem State.takeDemotions_ttOn (s : State) (g : Nat) : s.takeDemotions.ttOn g = s.ttOn g := by
  obtain ⟨⟨-, -, -, -, domains, pwr⟩, cal, -, -, -, -, regs⟩ := s.takeDemotions_parts
  have fitted : s.takeDemotions.on (Fld.RFE_PGg_CFG_FITTED g) = s.on (Fld.RFE_PGg_CFG_FITTED g) := by
    rw [State.on, State.fld_congr (State.regsBut.of_regs regs [] _ List.not_mem_nil), State.on]
  simp only [State.ttOn, State.groupOn, State.domOn, State.calibrating, fitted, domains, pwr, cal]

/-- Two states that tell the same directions tell the same ones when the settings are taken. -/
theorem State.sameDirections.settings (h : s.sameDirections t)
    (demoted : ∀ g < 8, t.on (Fld.SFD_PGg_STATUS_DEMOTED g) = s.on (Fld.SFD_PGg_STATUS_DEMOTED g)) : s.takeSettings.sameDirections t.takeSettings := by
  have own := s.takeSettings_keeps
  have other := t.takeSettings_keeps
  refine ((own.1.directions own.2).symm.trans ?_).trans (other.1.directions other.2)
  obtain ⟨⟨-, -, -, -, domains, pwr⟩, cal, time, plan, taken, -, regs⟩ := s.takeDemotions_parts
  obtain ⟨⟨-, -, -, -, domains', pwr'⟩, cal', time', plan', taken', -, regs'⟩ := t.takeDemotions_parts
  have bits : (List.range 8).map (fun g => t.on (Fld.SFD_PGg_STATUS_DEMOTED g)) = (List.range 8).map (fun g => s.on (Fld.SFD_PGg_STATUS_DEMOTED g)) :=
    List.map_congr_left fun g hg => demoted g (List.mem_range.mp hg)
  have word (v : State) (u : State) (e : u.regs = v.regs) (c : Nat) : u.rd c = v.rd c := State.regsBut.of_regs e [] c List.not_mem_nil
  constructor
  · rw [domains', domains, h.domains]
  · rw [pwr', pwr, h.pwr]
  · rw [cal', cal, h.slots]
  · rw [cal', cal, h.lop1]
  · rw [time', time, h.period]
  · rw [time', time, h.scs]
  · rw [plan', plan, h.plan]
  · rw [taken', taken, bits]
  · intro c hc
    rw [word _ _ regs', word _ _ regs, h.regs c hc]

theorem State.inSymbol_parts (s : State) (a b : Nat) : ((s.inSymbol a b).air = s.air ∧ (s.inSymbol a b).fuses = s.fuses ∧
      (s.inSymbol a b).flash = s.flash ∧ (s.inSymbol a b).link = s.link) ∧ (s.inSymbol a b).time = s.time ∧
    ((s.inSymbol a b).rf.start = a ∧ (s.inSymbol a b).rf.stop = b) ∧ (s.inSymbol a b).regs = s.regs ∧
    s.sameDirections (s.inSymbol a b) :=
  ⟨⟨rfl, rfl, rfl, rfl⟩, rfl, ⟨rfl, rfl⟩, rfl, rfl, rfl, rfl, rfl, rfl, rfl, rfl, rfl, fun _ _ => rfl⟩

/-- With the past settled, the settings of the symbol tell the same directions as of the state itself. -/
theorem State.settlePast_settings (s : State) (a b : Nat) : s.takeSettings.sameDirections ((s.settlePast a).inSymbol a b).takeSettings := by
  obtain ⟨stays, regs⟩ := s.settlePast_keeps a
  have past : s.sameDirections (s.settlePast a) := stays.directions ⟨fun c hc => regs c (by
    simp only [rowReg] at hc
    simp only [Reg.QUE_LEVELn, Reg.QUE_WMn, Reg.QUE_COUNTn, Reg.EVT_DROP, Reg.QUE_GRANTn, List.mem_cons, List.not_mem_nil, or_false, not_or]
    omega)⟩
  obtain ⟨-, -, -, own, noted⟩ := (s.settlePast a).inSymbol_parts a b
  refine (past.trans noted).settings fun g hg => ?_
  have low := regs (Fld.SFD_PGg_STATUS_DEMOTED g).addr (by
    simp only [Reg.SFD_PGg_STATUS, Reg.QUE_LEVELn, Reg.QUE_WMn, Reg.QUE_COUNTn, Reg.EVT_DROP, Reg.QUE_GRANTn, List.mem_cons, List.not_mem_nil, or_false,
      not_or]
    omega)
  rw [State.on, State.fld_congr (State.regsBut.of_regs own [] _ List.not_mem_nil), State.fld_congr low, State.on]

/-- The directions that a grid symbol takes, its span, and what stays (R202). -/
theorem timetableSymbol_takes (adc : List (List (BitVec 28))) (hl : s.time.everLocked = true) (hc : s.domOn pdCtl = true) (hd : s.detained = false) :
    ∃ t, exec (.timetableSymbol adc) s = .next t ∧ t.rf.start = symStart s.time.scs s.air ∧ t.rf.stop = s.nextBoundary s.air ∧
      (∀ g < 8, t.rf.dirs.getD g dirF = if s.ttOn g then s.takeSettings.actsAs g (symStart s.time.scs s.air) else dirF) ∧ t.air = s.air ∧
      t.time.period = s.time.period ∧ t.fuses = s.fuses ∧ t.flash = s.flash ∧ t.link = s.link := by
  obtain ⟨t, run, ends⟩ := exec_timetableSymbol adc hl hc hd
  generalize symStart s.time.scs s.air = a at *
  generalize s.nextBoundary s.air = b at *
  have told := s.settlePast_settings a b
  obtain ⟨past, -⟩ := s.settlePast_keeps a
  have settled := ((s.settlePast a).inSymbol a b).takeSettings_keeps
  have own := s.takeSettings_keeps
  obtain ⟨⟨airT, fusesT, flashT, linkT, -, -⟩, -, timeT, -, -, ⟨startT, stopT⟩, -⟩ := ((s.settlePast a).inSymbol a b).takeDemotions_parts
  obtain ⟨⟨airI, fusesI, flashI, linkI⟩, timeI, ⟨startI, stopI⟩, -, -⟩ := (s.settlePast a).inSymbol_parts a b
  obtain ⟨⟨airP, fusesP, flashP, linkP, -, -⟩, ⟨-, -, periodP, -⟩, -, -⟩ := past.parts
  generalize ((s.settlePast a).inSymbol a b).takeSettings = v at *
  have rows : v.stages (v.takeRows a) ∧ v.keepsRows (v.takeRows a) := ⟨.takeRows (.refl v), .takeRows (.refl v)⟩
  generalize v.takeRows a = w at *
  have all := settled.1.trans rows.1
  obtain ⟨⟨air, fuses, flash, link, -, -⟩, ⟨-, -, period, -⟩, -, ⟨start, stop, -⟩⟩ := all.parts
  obtain ⟨⟨air', fuses', flash', link', -, -⟩, ⟨-, -, period', -⟩, -, ⟨start', stop', dirs'⟩⟩ := ends.parts
  have same := told.trans (rows.1.directions rows.2)
  have on (g : Nat) (hg : g < 8) : w.ttOn g = s.ttOn g := ((same.ttOn hg).trans ((own.1.directions own.2).ttOn hg)).trans
    (s.takeDemotions_ttOn g)
  have lies : t.rf.start = a ∧ t.rf.stop = b := ⟨start'.trans (start.trans (startT.trans startI)), stop'.trans (stop.trans (stopT.trans stopI))⟩
  have stays : t.air = s.air ∧ t.time.period = s.time.period ∧ t.fuses = s.fuses ∧ t.flash = s.flash ∧ t.link = s.link :=
    ⟨air'.trans (air.trans (airT.trans (airI.trans airP))),
      period'.trans (period.trans ((congrArg AirState.period (timeT.trans timeI)).trans periodP)),
      fuses'.trans (fuses.trans (fusesT.trans (fusesI.trans fusesP))), flash'.trans (flash.trans (flashT.trans (flashI.trans flashP))),
      link'.trans (link.trans (linkT.trans (linkI.trans linkP)))⟩
  refine ⟨t, run, lies.1, lies.2, fun g hg => ?_, stays⟩
  rw [dirs', State.takeDirs, ← on g hg, ← same.actsAs]
  simp [hg]

/-- Settles O37: every stage of the boundary keeps what tells the directions. -/
theorem theTimetableAndTheArrayTakeTheirSettings : Obligations.TheTimetableAndTheArrayTakeTheirSettings := by
  unfold Obligations.TheTimetableAndTheArrayTakeTheirSettings
  intro q w adc s
  refine ⟨fun h => ?_, fun hl hc hd a ea u eu => ?_, swapAsked w, swapHappens, fun i k hp => ⟨peerLoads i k w hp, fun hk => ?_⟩, jointOkIsTaken⟩
  · have run : exec (.timetableSymbol adc) s = execTimetableSymbol adc s := rfl
    rw [run, execTimetableSymbol]
    rcases h with h | h <;> simp [h]
  · subst ea eu
    exact timetableSymbol_takes adc hl hc hd
  · exact peerDisagrees i k w hp hk

end Sys2Proof.Machine

/-!
PROOFS. The beam-book update (O38).
-/

namespace Sys2Proof.Machine

variable {s t u v : State} {as : List Nat} {a n m k : Nat} {q : Requester} {d : Word}

/-! ### GO (R214, R215) -/

theorem updGo_overrun (w : Word) (h : s.passes q Reg.BMB_UPD_CTRL true) (hb : s.fld Fld.BMB_UPD_STATUS_STATE ≠ 0) :
    ∃ t, exec (.bmbUpdGo q w) s = .next t ∧ t.on Fld.BMB_UPD_CTRL_OVERRUN = true ∧ s.onlyRegs t [Reg.BMB_UPD_CTRL] := by
  refine ⟨_, exec_access (f := fun s => s.updCtrlWrite (Fld.BMB_UPD_CTRL_GO.put 1 w)) h rfl, ?_⟩
  have go : Fld.BMB_UPD_CTRL_GO.of (Fld.BMB_UPD_CTRL_GO.put 1 w) = 1 := Fld.of_put_same _ _ _ (by decide) (by decide)
  simp only [State.updCtrlWrite, go, beq_self_eq_true, Bool.true_and, bne_iff_ne, ne_eq, hb, not_false_eq_true, if_true]
  exact ⟨State.on_setFld_one _ _ (by decide) (by decide), rfl, (State.regsBut.refl s _).setFld _ (by simp)⟩

/-- The field is a read-write field of its register that takes every code from `lo` to `hi`. -/
def Fld.ranged (f : Fld) (lo hi : Nat) : Bool :=
  match Machine.rowAt f.addr with
  | some (r, _) =>
    r.fields.all (fun g => decide (g.hi < 32) && ((g.stands f && g.access == .rw && g.codes.contains (lo, hi)) || g.apart f)) &&
      r.fields.any (fun g => g.stands f)
  | none => false

theorem Fld.accepts_of_ranged {f : Fld} {lo hi x : Nat} (h : f.ranged lo hi = true) (hl : lo ≤ x) (hh : x ≤ hi) : f.accepts x = true := by
  unfold Fld.ranged at h
  unfold Fld.accepts
  split at h
  · next r i row =>
    simp only [row, Bool.and_eq_true, List.all_eq_true, Bool.or_eq_true] at h ⊢
    refine ⟨fun g hg => ⟨(h.1 g hg).1, (h.1 g hg).2.imp (fun ⟨rw, codes⟩ => ⟨rw, ?_⟩) id⟩, h.2⟩
    have inside : g.codes.any (fun r => decide (r.1 ≤ x) && decide (x ≤ r.2)) = true :=
      List.any_eq_true.mpr ⟨(lo, hi), by simpa using codes, by simp [hl, hh]⟩
    rw [FieldRow.valid, inside, Bool.or_true]
  · cases h

theorem updGo_begins (w : Word) (h : s.passes q Reg.BMB_UPD_CTRL true) (hb : s.fld Fld.BMB_UPD_STATUS_STATE = 0)
    (some : Fld.BMB_UPD_CTRL_COUNT.of w ≠ 0) (few : Fld.BMB_UPD_CTRL_COUNT.of w ≤ 256) :
    ∃ t, exec (.bmbUpdGo q w) s = .next t ∧ t.fld Fld.BMB_UPD_STATUS_STATE = 1 ∧ t.on Fld.BMB_UPD_CTRL_GO = true ∧
      t.fld Fld.BMB_UPD_CTRL_COUNT = Fld.BMB_UPD_CTRL_COUNT.of w ∧
      t = { s with regs := t.regs, bmb := ⟨[],
        boundaryAfter s.time.scs (s.fld Fld.BMB_UPD_TARGET_SFN) (s.fld Fld.BMB_UPD_TARGET_SLOT) s.air⟩ } ∧
      s.regsBut t [Reg.BMB_UPD_CTRL, Reg.BMB_UPD_STATUS] := by
  have run := exec_access (c := .bmbUpdGo q w) (f := fun s => s.updCtrlWrite (Fld.BMB_UPD_CTRL_GO.put 1 w)) h rfl
  have go : Fld.BMB_UPD_CTRL_GO.of (Fld.BMB_UPD_CTRL_GO.put 1 w) = 1 := Fld.of_put_same _ _ _ (by decide) (by decide)
  have of : Fld.BMB_UPD_CTRL_COUNT.of (Fld.BMB_UPD_CTRL_GO.put 0 (Fld.BMB_UPD_CTRL_GO.put 1 w)) = Fld.BMB_UPD_CTRL_COUNT.of w := by
    rw [Fld.of_put_ne _ _ _ _ (by decide) (by decide), Fld.of_put_ne _ _ _ _ (by decide) (by decide)]
  have count : (s.plainWrite Reg.BMB_UPD_CTRL (Fld.BMB_UPD_CTRL_GO.put 0 (Fld.BMB_UPD_CTRL_GO.put 1 w))).fld Fld.BMB_UPD_CTRL_COUNT =
      Fld.BMB_UPD_CTRL_COUNT.of w := State.fld_plainWrite_accepts s _ of (Fld.accepts_of_ranged (lo := 0) (hi := 256) (by decide) (Nat.zero_le _) few)
  have regs : s.regsBut (s.plainWrite Reg.BMB_UPD_CTRL (Fld.BMB_UPD_CTRL_GO.put 0 (Fld.BMB_UPD_CTRL_GO.put 1 w)))
      [Reg.BMB_UPD_CTRL, Reg.BMB_UPD_STATUS] := (State.regsBut.refl s _).plainWrite _ (by simp)
  have frame : s.beside (s.plainWrite Reg.BMB_UPD_CTRL (Fld.BMB_UPD_CTRL_GO.put 0 (Fld.BMB_UPD_CTRL_GO.put 1 w))) := ⟨_, rfl⟩
  simp only [State.updCtrlWrite, go, hb, beq_self_eq_true, bne_self_eq_false, Bool.and_false, Bool.false_eq_true, if_false, if_true] at run
  generalize s.plainWrite Reg.BMB_UPD_CTRL (Fld.BMB_UPD_CTRL_GO.put 0 (Fld.BMB_UPD_CTRL_GO.put 1 w)) = v at *
  have sfn : v.fld Fld.BMB_UPD_TARGET_SFN = s.fld Fld.BMB_UPD_TARGET_SFN := regs.fld _ (by decide)
  have slot : v.fld Fld.BMB_UPD_TARGET_SLOT = s.fld Fld.BMB_UPD_TARGET_SLOT := regs.fld _ (by decide)
  rw [if_neg (by rw [count]; exact some), sfn, slot] at run
  have state : ((v.setFld Fld.BMB_UPD_CTRL_GO 1).setFld Fld.BMB_UPD_STATUS_STATE 1).fld Fld.BMB_UPD_STATUS_STATE = 1 :=
    State.fld_setFld_same _ _ _ (by decide) (by decide)
  have on : ((v.setFld Fld.BMB_UPD_CTRL_GO 1).setFld Fld.BMB_UPD_STATUS_STATE 1).on Fld.BMB_UPD_CTRL_GO = true := by
    rw [State.on, State.fld_setFld_ne _ _ _ _ (by decide) (by decide)]
    exact State.on_setFld_one _ _ (by decide) (by decide)
  have kept : ((v.setFld Fld.BMB_UPD_CTRL_GO 1).setFld Fld.BMB_UPD_STATUS_STATE 1).fld Fld.BMB_UPD_CTRL_COUNT = Fld.BMB_UPD_CTRL_COUNT.of w := by
    simp (disch := decide) only [State.fld_setFld_ne, count]
  refine ⟨_, run, state, on, kept, ?_, ((regs.setFld _ (by simp)).setFld _ (by simp)).congr rfl⟩
  obtain ⟨r, rfl⟩ := frame
  rfl

/-! ### Prefetch, boundary and write-back (R214) -/

theorem prefetch_arms (hn : n = 260 * s.fld Fld.BMB_UPD_CTRL_COUNT) (hl : s.time.everLocked = true) (hs : s.fld Fld.BMB_UPD_STATUS_STATE = 1)
    (hc : s.domOn pdCst = true) (clean : s.ecc = []) (lo : storeBase ≤ s.fld Fld.BMB_UPD_ADDR_ADDR)
    (hi : s.fld Fld.BMB_UPD_ADDR_ADDR + n ≤ storeEnd) (early : s.air ≤ s.bmb.boundary - s.tLate) :
    ∃ t, exec .bmbPrefetchEnd s = .next t ∧ t.fld Fld.BMB_UPD_STATUS_STATE = 2 ∧
      t = { s with regs := t.regs, bmb := ⟨s.storeBytes (s.fld Fld.BMB_UPD_ADDR_ADDR) n, s.bmb.boundary⟩ } ∧
      s.regsBut t [Reg.BMB_UPD_STATUS] := by
  have run : exec .bmbPrefetchEnd s = .next { s.setFld Fld.BMB_UPD_STATUS_STATE 2 with
      bmb := ⟨s.storeBytes (s.fld Fld.BMB_UPD_ADDR_ADDR) n, s.bmb.boundary⟩ } := by
    show execBmbPrefetchEnd s = _
    have onTime : decide (s.bmb.boundary - s.tLate < s.air) = false := decide_eq_false (by omega)
    rw [execBmbPrefetchEnd, if_pos ⟨hs, hl⟩]
    simp only [← hn, if_pos (show storeBase ≤ s.fld Fld.BMB_UPD_ADDR_ADDR ∧ s.fld Fld.BMB_UPD_ADDR_ADDR + n ≤ storeEnd ∧ s.domOn pdCst = true from
      ⟨lo, hi, hc⟩), State.storeRead_clean clean, if_true, onTime, Bool.false_eq_true, if_false]
  exact ⟨_, run, State.fld_setFld_same _ _ _ (by decide) (by decide), rfl, ((State.regsBut.refl s _).setFld _ (by simp)).congr rfl⟩

theorem boundary_begins (hl : s.time.everLocked = true) (hs : s.fld Fld.BMB_UPD_STATUS_STATE = 2) :
    ∃ t, exec .bmbUpdateBoundary s = .next t ∧ t.fld Fld.BMB_UPD_STATUS_STATE = 3 ∧ s.onlyRegs t [Reg.BMB_UPD_STATUS] := by
  have run : exec .bmbUpdateBoundary s = .next (s.setFld Fld.BMB_UPD_STATUS_STATE 3) := by
    show execBmbUpdateBoundary s = _
    rw [execBmbUpdateBoundary, if_pos ⟨hs, hl⟩]
  exact ⟨_, run, State.fld_setFld_same _ _ _ (by decide) (by decide), rfl, (State.regsBut.refl s _).setFld _ (by simp)⟩

/-- A record stands in the region and in its tag. -/
def State.takeRecord (s : State) (r : List Byte) : State :=
  ((s.putStore (s.beamBase + 256 * recordIndex r) (r.drop 4)).setFld (Fld.BMB_TAGk_PD_CLASS (recordIndex r)) (fieldAt r 2 1 % 4)).setFld
    (Fld.BMB_TAGk_SFD_CLASS (recordIndex r)) (fieldAt r 3 1 % 16)

theorem exec_writeback (hl : s.time.everLocked = true) (hs : s.fld Fld.BMB_UPD_STATUS_STATE = 3) (one : s.bmb.shadow.length = 260)
    (clean : s.ecc = []) (unarmed : s.fld Fld.CST_ECC_INJ_MODE = 0) :
    exec .bmbWritebackEnd s = .next ((s.takeRecord s.bmb.shadow).updateEnd true) := by
  have run : exec .bmbWritebackEnd s = execBmbWritebackEnd s := rfl
  have record : weightRecord s.bmb.shadow 0 = s.bmb.shadow := bytesAt_all _ one
  have single : List.range (s.bmb.shadow.length / 260) = [0] := by rw [one]; rfl
  rw [run, execBmbWritebackEnd, if_pos ⟨hs, hl⟩]
  simp only [single, List.foldl_cons, List.foldl_nil, record, State.storePut_clean clean unarmed, State.takeRecord]

/-- What the end of an update leaves, with room for its event. -/
theorem State.updateEnd_done (room : s.raiseRoom 1) : (s.updateEnd true).fld Fld.BMB_UPD_STATUS_STATE = 0 ∧
    (s.updateEnd true).on Fld.BMB_UPD_CTRL_GO = false ∧
    (s.updateEnd true).fld Fld.BMB_UPD_STATUS_DONE = min 65535 (s.fld Fld.BMB_UPD_STATUS_DONE + 1) ∧
    (s.updateEnd true).raise = s.raise ++ [s.occurrence 0x57 (s.fld Fld.BMB_UPD_CTRL_COUNT + 65536 * s.fld Fld.BMB_UPD_STATUS_LATE +
      131072 * s.fld Fld.BMB_UPD_STATUS_ERR)] ∧
    (∃ r e, s.updateEnd true = { s with regs := r, raise := e, bmb := ⟨[], 0⟩ }) ∧ s.regsBut (s.updateEnd true) [Reg.BMB_UPD_CTRL, Reg.BMB_UPD_STATUS] := by
  have ends : s.updateEnd true = State.event { ((s.setFld Fld.BMB_UPD_STATUS_STATE 0).setFld Fld.BMB_UPD_CTRL_GO 0).count Fld.BMB_UPD_STATUS_DONE 1 with
      bmb := ⟨[], 0⟩ } 0x57 (s.fld Fld.BMB_UPD_CTRL_COUNT + 65536 * s.fld Fld.BMB_UPD_STATUS_LATE + 131072 * s.fld Fld.BMB_UPD_STATUS_ERR) := by
    have info (f : Fld) (h : f = Fld.BMB_UPD_CTRL_COUNT ∨ f = Fld.BMB_UPD_STATUS_LATE ∨ f = Fld.BMB_UPD_STATUS_ERR) :
        (((s.setFld Fld.BMB_UPD_STATUS_STATE 0).setFld Fld.BMB_UPD_CTRL_GO 0).count Fld.BMB_UPD_STATUS_DONE 1).fld f = s.fld f := by
      rcases h with rfl | rfl | rfl <;> simp (disch := decide) only [State.fld_count_ne, State.fld_setFld_ne]
    rw [← info Fld.BMB_UPD_CTRL_COUNT (by simp), ← info Fld.BMB_UPD_STATUS_LATE (by simp), ← info Fld.BMB_UPD_STATUS_ERR (by simp)]
    rfl
  have state : (((s.setFld Fld.BMB_UPD_STATUS_STATE 0).setFld Fld.BMB_UPD_CTRL_GO 0).count Fld.BMB_UPD_STATUS_DONE 1).fld Fld.BMB_UPD_STATUS_STATE = 0 := by
    simp (disch := decide) only [State.fld_count_ne, State.fld_setFld_ne]
    exact State.fld_setFld_same _ _ _ (by decide) (by decide)
  have go : (((s.setFld Fld.BMB_UPD_STATUS_STATE 0).setFld Fld.BMB_UPD_CTRL_GO 0).count Fld.BMB_UPD_STATUS_DONE 1).fld Fld.BMB_UPD_CTRL_GO = 0 := by
    simp (disch := decide) only [State.fld_count_ne]
    exact State.fld_setFld_same _ _ _ (by decide) (by decide)
  have done : (((s.setFld Fld.BMB_UPD_STATUS_STATE 0).setFld Fld.BMB_UPD_CTRL_GO 0).count Fld.BMB_UPD_STATUS_DONE 1).fld Fld.BMB_UPD_STATUS_DONE =
      min 65535 (s.fld Fld.BMB_UPD_STATUS_DONE + 1) := by
    rw [State.fld_count_same _ _ _ (by decide)]
    simp (disch := decide) only [State.fld_setFld_ne]
    rfl
  have regs : s.regsBut (((s.setFld Fld.BMB_UPD_STATUS_STATE 0).setFld Fld.BMB_UPD_CTRL_GO 0).count Fld.BMB_UPD_STATUS_DONE 1)
      [Reg.BMB_UPD_CTRL, Reg.BMB_UPD_STATUS] :=
    (((State.regsBut.refl s _).setFld _ (by simp)).setFld _ (by simp)).count _ (by simp)
  have frame : s.beside (((s.setFld Fld.BMB_UPD_STATUS_STATE 0).setFld Fld.BMB_UPD_CTRL_GO 0).count Fld.BMB_UPD_STATUS_DONE 1) := ⟨_, rfl⟩
  generalize ((s.setFld Fld.BMB_UPD_STATUS_STATE 0).setFld Fld.BMB_UPD_CTRL_GO 0).count Fld.BMB_UPD_STATUS_DONE 1 = v at *
  dsimp only at ends
  rw [ends]
  obtain ⟨r, frame⟩ := frame
  rw [State.event_raiseRoom (s := { v with bmb := ⟨[], 0⟩ }) (room.congr (by rw [frame]) (by rw [frame])) (by decide)]
  refine ⟨state, (State.on_eq_false _ _).mpr go, done, ?_, ?_, regs.congr rfl⟩
  · rw [frame]
    rfl
  · rw [frame]
    exact ⟨_, _, rfl⟩

theorem writeback_ends (hl : s.time.everLocked = true) (hs : s.fld Fld.BMB_UPD_STATUS_STATE = 3) (hk : k = recordIndex s.bmb.shadow)
    (ha : a = s.beamBase + 256 * k) (one : s.bmb.shadow.length = 260) (clean : s.ecc = []) (unarmed : s.fld Fld.CST_ECC_INJ_MODE = 0)
    (room : s.raiseRoom 1) :
    ∃ t, exec .bmbWritebackEnd s = .next t ∧ t.storeBytes a 256 = s.bmb.shadow.drop 4 ∧
      (∀ b, b < a ∨ a + 256 ≤ b → t.storeByte b = s.storeByte b) ∧
      t.fld (Fld.BMB_TAGk_PD_CLASS k) = fieldAt s.bmb.shadow 2 1 % 4 ∧ t.fld (Fld.BMB_TAGk_SFD_CLASS k) = fieldAt s.bmb.shadow 3 1 % 16 ∧
      t.fld Fld.BMB_UPD_STATUS_STATE = 0 ∧ t.on Fld.BMB_UPD_CTRL_GO = false ∧
      t.fld Fld.BMB_UPD_STATUS_DONE = min 65535 (s.fld Fld.BMB_UPD_STATUS_DONE + 1) ∧
      t.raise = s.raise ++ [s.occurrence 0x57 (s.fld Fld.BMB_UPD_CTRL_COUNT + 65536 * s.fld Fld.BMB_UPD_STATUS_LATE +
        131072 * s.fld Fld.BMB_UPD_STATUS_ERR)] ∧
      t = { s with regs := t.regs, store := t.store, raise := t.raise, bmb := ⟨[], 0⟩ } ∧
      s.regsBut t [Reg.BMB_TAGk k, Reg.BMB_UPD_CTRL, Reg.BMB_UPD_STATUS] := by
  have run := exec_writeback hl hs one clean unarmed
  have len : (s.bmb.shadow.drop 4).length = 256 := by rw [List.length_drop, one]
  have small : k < 8192 := by rw [hk, recordIndex]; exact Nat.mod_lt _ (by decide)
  have bytes : (s.putStore a (s.bmb.shadow.drop 4)).storeBytes a 256 = s.bmb.shadow.drop 4 := by
    have all := s.storeBytes_putStore a (s.bmb.shadow.drop 4)
    rwa [len] at all
  have others (b : Nat) (h : b < a ∨ a + 256 ≤ b) : (s.putStore a (s.bmb.shadow.drop 4)).storeByte b = s.storeByte b :=
    State.storeByte_putStore_out _ _ _ _ (by rwa [len])
  rw [State.takeRecord, ← hk, ← ha] at run
  generalize s.bmb.shadow.drop 4 = bs at *
  generalize hp : fieldAt s.bmb.shadow 2 1 % 4 = p at *
  generalize hf : fieldAt s.bmb.shadow 3 1 % 16 = f at *
  have pd : (((s.putStore a bs).setFld (Fld.BMB_TAGk_PD_CLASS k) p).setFld (Fld.BMB_TAGk_SFD_CLASS k) f).fld (Fld.BMB_TAGk_PD_CLASS k) = p := by
    rw [State.fld_setFld_ne _ _ _ _ (by simp) (by simp)]
    exact State.fld_setFld_same _ _ _ (by simp) (by simp; omega)
  have sfd : (((s.putStore a bs).setFld (Fld.BMB_TAGk_PD_CLASS k) p).setFld (Fld.BMB_TAGk_SFD_CLASS k) f).fld (Fld.BMB_TAGk_SFD_CLASS k) = f :=
    State.fld_setFld_same _ _ _ (by simp) (by simp; omega)
  have store : (((s.putStore a bs).setFld (Fld.BMB_TAGk_PD_CLASS k) p).setFld (Fld.BMB_TAGk_SFD_CLASS k) f).store = (s.putStore a bs).store := rfl
  have regs : s.regsBut (((s.putStore a bs).setFld (Fld.BMB_TAGk_PD_CLASS k) p).setFld (Fld.BMB_TAGk_SFD_CLASS k) f) [Reg.BMB_TAGk k] :=
    (((State.regsBut.refl s _).congr rfl).setFld _ (by simp)).setFld _ (by simp)
  have frame : ∃ r x, ((s.putStore a bs).setFld (Fld.BMB_TAGk_PD_CLASS k) p).setFld (Fld.BMB_TAGk_SFD_CLASS k) f = { s with regs := r, store := x } :=
    ⟨_, _, rfl⟩
  generalize ((s.putStore a bs).setFld (Fld.BMB_TAGk_PD_CLASS k) p).setFld (Fld.BMB_TAGk_SFD_CLASS k) f = v at *
  obtain ⟨r, x, frame⟩ := frame
  have left : v.raiseRoom 1 := room.congr (by rw [frame]) (by rw [frame])
  obtain ⟨state, go, done, raised, ⟨r', e', frame'⟩, regs'⟩ := State.updateEnd_done left
  have field (f : Fld) (h : f.addr = Reg.BMB_UPD_STATUS ∨ f.addr = Reg.BMB_UPD_CTRL) : v.fld f = s.fld f := regs.fld _ (by
    simp only [Reg.BMB_TAGk, List.mem_singleton]
    rcases h with h | h <;> rw [h] <;> simp only [Reg.BMB_UPD_STATUS, Reg.BMB_UPD_CTRL] <;> omega)
  rw [field _ (Or.inl rfl)] at done
  rw [field _ (Or.inr rfl), field _ (Or.inl rfl), field _ (Or.inl rfl)] at raised
  have tag (f : Fld) (h : f.addr = Reg.BMB_TAGk k) : (v.updateEnd true).fld f = v.fld f := regs'.fld _ (by
    rw [h]
    simp only [Reg.BMB_TAGk, Reg.BMB_UPD_STATUS, Reg.BMB_UPD_CTRL, List.mem_cons, List.not_mem_nil, or_false]
    omega)
  have held : (v.updateEnd true).store = (s.putStore a bs).store := by rw [frame', ← store]
  refine ⟨_, run, ?_, fun b hb => ?_, (tag _ rfl).trans pd, (tag _ rfl).trans sfd, state, go, done, ?_, ?_, ?_⟩
  · rw [State.storeBytes, held]
    exact bytes
  · rw [State.storeByte, held]
    exact others b hb
  · rw [raised, frame]
    rfl
  · rw [frame', frame]
  · intro b hb
    simp only [List.mem_cons, List.not_mem_nil, or_false, not_or] at hb
    rw [regs' b (by simp [hb]), regs b (by simp [hb])]

/-- Settles O38: each step of the update, its GO, prefetch, boundary and write-back. -/
theorem aBeamBookUpdateRunsItsSteps : Obligations.ABeamBookUpdateRunsItsSteps := by
  unfold Obligations.ABeamBookUpdateRunsItsSteps
  intro q w s
  exact ⟨fun h => ⟨updGo_overrun w h, updGo_begins w h⟩, fun n => prefetch_arms, boundary_begins,
    fun hl hs k hk a ha => writeback_ends hl hs hk ha⟩

end Sys2Proof.Machine

/-!
PROOFS. Carrier configurations of both chains (O39).
-/

namespace Sys2Proof.Machine

variable {s t u v : State} {as : List Nat} {a n m k : Nat} {q : Requester} {d : Word} {up : Bool}

/-! ### The fields of both chains -/

def fCntClr (up : Bool) : Fld := if up then Fld.ULC_CTRL_CNT_CLR else Fld.DLC_CTRL_CNT_CLR

/-- COMMIT (R223, R224, R252), for either direction. -/
def commitInstr (up : Bool) (q : Requester) (w : Word) : Instr := if up then .ulcCommit q w else .dlcCommit q w

theorem exec_commitInstr (up : Bool) (w : Word) (h : s.passes q (fCommit up).addr true) :
    exec (commitInstr up q w) s = .next (s.chainCtrlWrite up ((fCommit up).put 1 w)) := by
  cases up
  · exact exec_access (f := fun s => s.chainCtrlWrite false (Fld.DLC_CTRL_COMMIT.put 1 w)) h rfl
  · exact exec_access (f := fun s => s.chainCtrlWrite true (Fld.ULC_CTRL_COMMIT.put 1 w)) h rfl

theorem commitInstr_of {c : Instr} {w : Word} (h : (c = .dlcCommit q w ∧ up = false) ∨ (c = .ulcCommit q w ∧ up = true)) : c = commitInstr up q w := by
  rcases h with ⟨rfl, rfl⟩ | ⟨rfl, rfl⟩ <;> rfl

theorem fCommit_put (up : Bool) (w : Word) : (fCommit up).of ((fCommit up).put 1 w) = 1 := by
  cases up <;> exact Fld.of_put_same _ _ _ (by decide) (by decide)

theorem fCntClr_put (up : Bool) (w : Word) : (fCntClr up).of ((fCommit up).put 1 w) = (fCntClr up).of w := by
  cases up <;> exact Fld.of_put_ne _ _ _ _ (by decide) (by decide)

theorem fIqSwap_put (up : Bool) (w : Word) : (fIqSwap up).of ((fCommit up).put 1 w) = (fIqSwap up).of w := by
  cases up <;> exact Fld.of_put_ne _ _ _ _ (by decide) (by decide)

/-! ### COMMIT (R223, R224, R252) -/

theorem commit_overrun (w : Word) (h : s.passes q (fCommit up).addr true) (pending : s.on (fCommitPending up) = true) :
    ∃ t, exec (commitInstr up q w) s = .next t ∧ t.on (fOverrun up) = true ∧ s.onlyRegs t [(fOverrun up).addr] := by
  refine ⟨_, exec_commitInstr up w h, ?_⟩
  simp only [State.chainCtrlWrite, fCommit_put, pending, beq_self_eq_true, Bool.and_self, if_true]
  exact ⟨State.on_setFld_one _ _ (by cases up <;> decide) (by cases up <;> decide), rfl, (State.regsBut.refl s _).setFld _ (by simp)⟩

theorem exec_commit (w : Word) (h : s.passes q (fCommit up).addr true) (hc : (fCntClr up).of w = 0) (hi : (fIqSwap up).of w = 0)
    (free : s.on (fCommitPending up) = false) : exec (commitInstr up q w) s = .next (s.commit up) := by
  have clr : (if up then Fld.ULC_CTRL_CNT_CLR else Fld.DLC_CTRL_CNT_CLR).of ((fCommit up).put 1 w) = 0 := (fCntClr_put up w).trans hc
  rw [exec_commitInstr up w h, State.chainCtrlWrite]
  simp only [fCommit_put, free, clr, (fIqSwap_put up w).trans hi, beq_self_eq_true, Bool.and_false, Bool.false_eq_true, if_false, if_true, zero_ne_one]

theorem findSome?_id_mem {α : Type} {l : List (Option α)} {x : α} (h : l.findSome? id = some x) : some x ∈ l := by
  obtain ⟨y, hy, e⟩ := List.exists_of_findSome?_eq_some h
  exact (show y = some x from e) ▸ hy

theorem copyError_small {copy : List Word} {r c : Nat} (h : copyError copy up = some (r, c)) : r < 16 := by
  have mem := findSome?_id_mem h
  simp only [List.mem_cons, List.not_mem_nil, or_false] at mem
  rcases mem with h | h | h | h | h | h | h <;>
  · obtain ⟨c, -, e⟩ := Option.map_eq_some_iff.mp h.symm
    have := congrArg Prod.fst e
    dsimp only at this
    omega

theorem commit_refused (w : Word) (h : s.passes q (fCommit up).addr true) (hc : (fCntClr up).of w = 0) (hi : (fIqSwap up).of w = 0)
    (free : s.on (fCommitPending up) = false) {r c : Nat} (bad : copyError (s.carrierRegs up) up = some (r, c)) (room : s.raiseRoom 1) :
    ∃ t, exec (commitInstr up q w) s = .next t ∧ t.fld (fCfgErr up) = r ∧ t.on (fCommit up) = false ∧
      t.raise = s.raise ++ [s.occurrence (if up then 0x69 else 0x64) (r + 16 * c)] ∧
      t = { s with regs := t.regs, raise := t.raise } ∧ s.regsBut t [(fCommit up).addr, (fCfgErr up).addr] := by
  have run := exec_commit w h hc hi free
  have small := copyError_small bad
  rw [State.commit] at run
  simp only [bad] at run
  have err : ((s.setFld (fCfgErr up) r).setFld (fCommit up) 0).fld (fCfgErr up) = r := by
    rw [State.fld_setFld_ne _ _ _ _ (by cases up <;> decide) (by cases up <;> decide)]
    exact State.fld_setFld_same _ _ _ (by cases up <;> decide) (by cases up <;> exact small)
  have off : ((s.setFld (fCfgErr up) r).setFld (fCommit up) 0).fld (fCommit up) = 0 :=
    State.fld_setFld_same _ _ _ (by cases up <;> decide) (by cases up <;> decide)
  have regs : s.regsBut ((s.setFld (fCfgErr up) r).setFld (fCommit up) 0) [(fCommit up).addr, (fCfgErr up).addr] :=
    ((State.regsBut.refl s _).setFld _ (by simp)).setFld _ (by simp)
  rw [State.event_raiseRoom (s := (s.setFld (fCfgErr up) r).setFld (fCommit up) 0) (room.congr rfl rfl) (by decide)] at run
  exact ⟨_, run, err, (State.on_eq_false _ _).mpr off, rfl, rfl, regs.congr rfl⟩

theorem State.setCarriers_carriers (s : State) (up : Bool) (c : CarrierState) :
    (s.setCarriers up c).carriers up = c ∧ (s.setCarriers up c).carriers (!up) = s.carriers (!up) := by
  cases up <;> exact ⟨rfl, rfl⟩

theorem State.setCarriers_frame (s : State) (up : Bool) (c : CarrierState) : ∃ x y, s.setCarriers up c = { s with dlc := x, ulc := y } := by
  cases up <;> exact ⟨_, _, rfl⟩

theorem commit_accepted (w : Word) (h : s.passes q (fCommit up).addr true) (hc : (fCntClr up).of w = 0) (hi : (fIqSwap up).of w = 0)
    (free : s.on (fCommitPending up) = false) (good : copyError (s.carrierRegs up) up = none) :
    ∃ t, exec (commitInstr up q w) s = .next t ∧ t.on (fCommitPending up) = true ∧ t.on (fCommit up) = true ∧ t.fld (fCfgErr up) = 0 ∧
      t.carriers up = { s.carriers up with
        next := s.carrierRegs up, boundary := frameBoundaryFrom s.air s.tEarly, before := s.sect.serial } ∧
      t.carriers (!up) = s.carriers (!up) ∧ t = { s with regs := t.regs, dlc := t.dlc, ulc := t.ulc } ∧
      s.regsBut t [(fCommit up).addr, (fCfgErr up).addr] := by
  have run := exec_commit w h hc hi free
  rw [State.commit] at run
  simp only [good] at run
  have pending : (((s.setFld (fCfgErr up) 0).setFld (fCommitPending up) 1).setFld (fCommit up) 1).on (fCommitPending up) = true := by
    rw [State.on, State.fld_setFld_ne _ _ _ _ (by cases up <;> decide) (by cases up <;> decide)]
    exact State.on_setFld_one _ _ (by cases up <;> decide) (by cases up <;> decide)
  have on : (((s.setFld (fCfgErr up) 0).setFld (fCommitPending up) 1).setFld (fCommit up) 1).on (fCommit up) = true :=
    State.on_setFld_one _ _ (by cases up <;> decide) (by cases up <;> decide)
  have err : (((s.setFld (fCfgErr up) 0).setFld (fCommitPending up) 1).setFld (fCommit up) 1).fld (fCfgErr up) = 0 := by
    rw [State.fld_setFld_ne _ _ _ _ (by cases up <;> decide) (by cases up <;> decide),
      State.fld_setFld_ne _ _ _ _ (by cases up <;> decide) (by cases up <;> decide)]
    exact State.fld_setFld_same _ _ _ (by cases up <;> decide) (by cases up <;> decide)
  have regs : s.regsBut (((s.setFld (fCfgErr up) 0).setFld (fCommitPending up) 1).setFld (fCommit up) 1) [(fCommit up).addr, (fCfgErr up).addr] :=
    (((State.regsBut.refl s _).setFld _ (by simp)).setFld _ (by cases up <;> decide)).setFld _ (by simp)
  have frame : s.beside (((s.setFld (fCfgErr up) 0).setFld (fCommitPending up) 1).setFld (fCommit up) 1) := ⟨_, rfl⟩
  generalize ((s.setFld (fCfgErr up) 0).setFld (fCommitPending up) 1).setFld (fCommit up) 1 = v at *
  have early : v.tEarly = s.tEarly := by rw [State.tEarly, regs.fld _ (by cases up <;> decide), State.tEarly]
  obtain ⟨r, frame⟩ := frame
  have same : ∀ b, v.carriers b = s.carriers b := fun b => by rw [frame]; rfl
  obtain ⟨x, y, waits⟩ := v.setCarriers_frame up { s.carriers up with
    next := s.carrierRegs up, boundary := frameBoundaryFrom s.air s.tEarly, before := s.sect.serial }
  rw [same, early, show v.air = s.air by rw [frame], show v.sect = s.sect by rw [frame]] at run
  have kept : ∀ f, State.fld (v.setCarriers up { s.carriers up with
      next := s.carrierRegs up, boundary := frameBoundaryFrom s.air s.tEarly, before := s.sect.serial }) f = v.fld f := fun f => by rw [waits]; rfl
  refine ⟨_, run, ?_, ?_, (kept _).trans err, (v.setCarriers_carriers up _).1, (v.setCarriers_carriers up _).2.trans (same _), ?_, ?_⟩
  · rw [State.on, kept]
    exact pending
  · rw [State.on, kept]
    exact on
  · rw [waits, frame]
  · rw [waits]
    exact regs.congr rfl

/-! ### A commit comes into force (R224, R252) -/

theorem State.consumeIf_frame (s : State) (n : Nat) (c : StoredPkt → Bool) : ∃ r e x, s.consumeIf n c = { s with regs := r, raise := e, queues := x } := by
  unfold State.consumeIf
  dsimp only
  generalize hv : s.setQueue n _ = v
  obtain ⟨r, e, leveled⟩ := v.relevel_reports n
  obtain ⟨r', x, granted⟩ := (v.relevel n).grant_frame n (((s.queue n).pkts.filter c).map StoredPkt.credits).sum
  rw [granted, leveled, ← hv]
  exact ⟨_, _, _, rfl⟩

theorem State.consumeIf_regsBut (s : State) (n : Nat) (c : StoredPkt → Bool) :
    s.regsBut (s.consumeIf n c) [Reg.QUE_LEVELn n, Reg.QUE_WMn n, Reg.QUE_COUNTn n, Reg.EVT_DROP, Reg.QUE_GRANTn n] := by
  unfold State.consumeIf
  dsimp only
  intro b hb
  simp only [List.mem_cons, List.not_mem_nil, or_false, not_or] at hb
  obtain ⟨level, mark, count, drop, grant⟩ := hb
  rw [State.grant_regsBut _ _ _ b (by simpa using grant), State.relevel_regsBut _ _ b (by simp [level, mark, count, drop])]
  rfl

theorem State.relevel_queues (s : State) (n : Nat) : (s.relevel n).queues = s.queues := by
  obtain ⟨r, e, frame⟩ := s.relevel_reports n
  rw [frame]

theorem State.consumeIf_pkts (s : State) (n : Nat) (c : StoredPkt → Bool) :
    ((s.consumeIf n c).queue n).pkts = (s.queue n).pkts.filter (fun p => !c p) ∧ ∀ m, m ≠ n → (s.consumeIf n c).queue m = s.queue m := by
  unfold State.consumeIf
  dsimp only
  generalize (((s.queue n).pkts.filter c).map StoredPkt.credits).sum = x
  have own (v : State) (m : Nat) : (v.relevel n).queue m = v.queue m := by rw [State.queue, State.relevel_queues, State.queue]
  refine ⟨?_, fun m hm => ?_⟩
  · obtain ⟨r, b, held⟩ := State.grant_queue_same ((s.setQueue n { s.queue n with pkts := (s.queue n).pkts.filter (fun p => !c p) }).relevel n) n x
    rw [held, own, State.queue_setQueue_same]
  · rw [State.grant_queue_ne _ _ hm, own, State.queue_setQueue_ne _ _ hm]

/-- Filters and NCO histories alone are kept anew. -/
structure State.washes (s t : State) : Prop where
  frame : ∃ x, t = { s with smp := x }

theorem State.flushCarrier_washes (s : State) (up : Bool) (c : Nat) : s.washes (s.flushCarrier up c) := ⟨_, rfl⟩

theorem State.washes.refl (s : State) : s.washes s := ⟨_, rfl⟩

theorem State.washes.trans (h : s.washes t) (h' : t.washes u) : s.washes u := by
  obtain ⟨x, rfl⟩ := h.frame
  obtain ⟨y, rfl⟩ := h'.frame
  exact ⟨_, rfl⟩

/-- Packets leave queues, and what that shows in their registers; the registers of the chains stay but their counts of drops. -/
structure State.sheds (s t : State) : Prop where
  frame : ∃ r e x, t = { s with regs := r, raise := e, queues := x }
  regs : ∀ a, 0xE0000 ≤ a → a ≠ Reg.DLC_DROPB → a ≠ Reg.ULC_DROPB → t.rd a = s.rd a

theorem State.sheds.refl (s : State) : s.sheds s := ⟨⟨_, _, _, rfl⟩, fun _ _ _ _ => rfl⟩

theorem State.sheds.trans (h : s.sheds t) (h' : t.sheds u) : s.sheds u := by
  refine ⟨?_, fun a ha hd hu => (h'.regs a ha hd hu).trans (h.regs a ha hd hu)⟩
  obtain ⟨r, e, x, rfl⟩ := h.frame
  obtain ⟨r', e', x', rfl⟩ := h'.frame
  exact ⟨_, _, _, rfl⟩

theorem State.consumeIf_sheds (s : State) {n : Nat} (hn : n < 16) (c : StoredPkt → Bool) : s.sheds (s.consumeIf n c) := by
  refine ⟨s.consumeIf_frame n c, fun a ha _ _ => s.consumeIf_regsBut n c a ?_⟩
  simp only [Reg.QUE_LEVELn, Reg.QUE_WMn, Reg.QUE_COUNTn, Reg.EVT_DROP, Reg.QUE_GRANTn, List.mem_cons, List.not_mem_nil, or_false, not_or]
  omega

theorem State.countDrops_sheds (s : State) (up : Bool) (x : Nat) : s.sheds (s.count (fDropConfig up) x) := by
  refine ⟨⟨_, _, _, rfl⟩, fun a _ hd hu => State.rd_count_ne _ _ _ ?_⟩
  cases up <;> assumption

/-- The sections that a commit of direction `up` discards. -/
def CarrierState.hits (cs : CarrierState) (up : Bool) (h : HeldSec) : Bool :=
  h.up == up && decide (cs.boundary ≤ h.air) && decide (h.serial < cs.before)

/-- The DLDs that a commit discards. -/
def CarrierState.old (cs : CarrierState) (p : StoredPkt) : Bool := decide (cs.boundary ≤ p.air) && decide (p.serial < cs.before)

/-- The copy is in force, its flags shown. -/
def State.putInForce (s : State) (up : Bool) (cs : CarrierState) : State :=
  (((s.setCarriers up cs).setFld (fCommitPending up) 0).setFld (fCommit up) 0).setFld (fCfgValid up) 1

/-- The downlink DLDs held from before a commit leave their queues. -/
def State.dropDlds (s : State) (cs : CarrierState) : State :=
  s.forEach 8 (fun s n => (s.count Fld.DLC_DROPB_CONFIG ((s.queue n).pkts.filter cs.old).length).consumeIf n cs.old)

theorem State.dropDlds_sheds (s : State) (cs : CarrierState) : s.sheds (s.dropDlds cs) ∧
    ∀ n < 8, ((s.dropDlds cs).queue n).pkts = (s.queue n).pkts.filter (fun p => !cs.old p) := by
  have all := State.forEach_induct (s := s) (n := 8) (f := fun s n => (s.count Fld.DLC_DROPB_CONFIG ((s.queue n).pkts.filter cs.old).length).consumeIf n cs.old)
    (fun k v => s.sheds v ∧ (∀ n < k, (v.queue n).pkts = (s.queue n).pkts.filter (fun p => !cs.old p)) ∧ ∀ n, k ≤ n → v.queue n = s.queue n)
    ⟨.refl s, fun n hn => absurd hn (Nat.not_lt_zero n), fun _ _ => rfl⟩ (fun v k hk ⟨sheds, before, rest⟩ => by
      have counted := v.countDrops_sheds false ((v.queue k).pkts.filter cs.old).length
      have same (m : Nat) : (v.count (fDropConfig false) ((v.queue k).pkts.filter cs.old).length).queue m = v.queue m := rfl
      have name : fDropConfig false = Fld.DLC_DROPB_CONFIG := rfl
      rw [name] at counted same
      generalize v.count Fld.DLC_DROPB_CONFIG ((v.queue k).pkts.filter cs.old).length = w at *
      obtain ⟨own, others⟩ := w.consumeIf_pkts k cs.old
      refine ⟨(sheds.trans counted).trans (w.consumeIf_sheds (by omega) _), fun n hn => ?_, fun n hn => ?_⟩
      · rcases Nat.lt_succ_iff_lt_or_eq.mp hn with h | rfl
        · rw [others n (by omega), same, before n h]
        · rw [own, same, rest n (Nat.le_refl n)]
      · rw [others n (by omega), same, rest n (by omega)])
  exact ⟨all.1, all.2.1⟩

/-- The carriers that a commit of direction `up` changes are flushed. -/
def State.washCarriers (s : State) (up : Bool) : State :=
  s.forEach 8 (fun v c => v.iff (((s.carriers up).inForce.drop (3 * c)).take 3 != ((s.carriers up).next.drop (3 * c)).take 3) (fun v => v.flushCarrier up c))

theorem State.washCarriers_washes (s : State) (up : Bool) : s.washes (s.washCarriers up) := by
  refine State.forEach_induct (fun _ v => s.washes v) (.refl s) fun v k _ h => h.trans ?_
  unfold State.iff
  split
  · exact v.flushCarrier_washes up k
  · exact .refl v

theorem State.copyInForce_up (s : State) : ∃ x c, s.copyInForce true =
    ((((s.washCarriers true).putInForce true { (s.washCarriers true).carriers true with inForce := (s.carriers true).next, next := [] }).count
      (fDropConfig true) x).dropHeld ((s.carriers true).hits true)).consumeIf 8 c := by
  unfold State.copyInForce
  exact ⟨_, _, rfl⟩

theorem State.copyInForce_down (s : State) : ∃ x c, s.copyInForce false =
    (((((s.washCarriers false).putInForce false { (s.washCarriers false).carriers false with inForce := (s.carriers false).next, next := [] }).count
      (fDropConfig false) x).dropHeld ((s.carriers false).hits false)).consumeIf 8 c).dropDlds (s.carriers false) := by
  unfold State.copyInForce
  exact ⟨_, _, rfl⟩

/-- What putting a copy in force shows, before anything is dropped. -/
theorem State.putInForce_shows (s : State) (up : Bool) (cs : CarrierState) : (s.putInForce up cs).carriers up = cs ∧
    (s.putInForce up cs).carriers (!up) = s.carriers (!up) ∧ (s.putInForce up cs).on (fCommitPending up) = false ∧
    (s.putInForce up cs).on (fCommit up) = false ∧ (s.putInForce up cs).on (fCfgValid up) = true ∧
    ∃ r x y, s.putInForce up cs = { s with regs := r, dlc := x, ulc := y } := by
  obtain ⟨x, y, frame⟩ := s.setCarriers_frame up cs
  obtain ⟨own, other⟩ := s.setCarriers_carriers up cs
  unfold State.putInForce
  generalize s.setCarriers up cs = v at *
  refine ⟨?_, ?_, ?_, ?_, State.on_setFld_one _ _ (by cases up <;> decide) (by cases up <;> decide), ?_⟩
  · rw [← own]
    rfl
  · rw [← other]
    rfl
  · rw [State.on_eq_false, State.fld_setFld_ne _ _ _ _ (by cases up <;> decide) (by cases up <;> decide),
      State.fld_setFld_ne _ _ _ _ (by cases up <;> decide) (by cases up <;> decide)]
    exact State.fld_setFld_same _ _ _ (by cases up <;> decide) (by cases up <;> decide)
  · rw [State.on_eq_false, State.fld_setFld_ne _ _ _ _ (by cases up <;> decide) (by cases up <;> decide)]
    exact State.fld_setFld_same _ _ _ (by cases up <;> decide) (by cases up <;> decide)
  · rw [frame]
    exact ⟨_, _, _, rfl⟩

/-- What a copy in force leaves in the state, its drops included. -/
structure State.enforces (s t : State) (up : Bool) : Prop where
  own : (t.carriers up).inForce = (s.carriers up).next ∧ (t.carriers up).next = []
  other : t.carriers (!up) = s.carriers (!up)
  flags : t.on (fCommitPending up) = false ∧ t.on (fCommit up) = false ∧ t.on (fCfgValid up) = true
  held : t.sect.held = s.sect.held.filter (fun h => !(s.carriers up).hits up h)
  frame : ∃ r e q c x y z, t = { s with regs := r, raise := e, queues := q, sect := c, dlc := x, ulc := y, smp := z }

theorem State.putInForce_enforces (s : State) (up : Bool) : s.enforces
    (((s.washCarriers up).putInForce up { (s.washCarriers up).carriers up with inForce := (s.carriers up).next, next := [] }).dropHeld
      ((s.carriers up).hits up)) up := by
  obtain ⟨x, washed⟩ := (s.washCarriers_washes up).frame
  generalize s.washCarriers up = v at *
  have same : v.carriers (!up) = s.carriers (!up) := by rw [washed]; rfl
  have held : v.sect = s.sect := by rw [washed]
  obtain ⟨own, other, pending, commit, valid, r, y, z, frame⟩ := v.putInForce_shows up { v.carriers up with inForce := (s.carriers up).next, next := [] }
  generalize v.putInForce up { v.carriers up with inForce := (s.carriers up).next, next := [] } = w at *
  have kept (b : Bool) : (w.dropHeld ((s.carriers up).hits up)).carriers b = w.carriers b := rfl
  refine ⟨by rw [kept, own]; exact ⟨rfl, rfl⟩, (kept _).trans (other.trans same), ⟨pending, commit, valid⟩, ?_, ?_⟩
  · show w.sect.held.filter _ = _
    rw [show w.sect = s.sect by rw [frame]; exact held]
  · rw [State.dropHeld, frame, washed]
    exact ⟨_, _, _, _, _, _, _, rfl⟩

theorem State.enforces.sheds (h : s.enforces t up) (h' : t.sheds u) : s.enforces u up := by
  obtain ⟨own, other, flags, held, frame⟩ := h
  obtain ⟨⟨r, e, x, shed⟩, regs⟩ := h'
  have same (b : Bool) : u.carriers b = t.carriers b := by rw [shed]; rfl
  have on (f : Fld) (hf : f.addr = (fCommit up).addr ∨ f.addr = (fCfgErr up).addr) : u.on f = t.on f := by
    have far : 0xE0000 ≤ f.addr ∧ f.addr ≠ Reg.DLC_DROPB ∧ f.addr ≠ Reg.ULC_DROPB := by
      rcases hf with e | e <;> rw [e] <;> cases up <;> decide
    rw [State.on, State.fld_congr (regs f.addr far.1 far.2.1 far.2.2), State.on]
  refine ⟨by rw [same]; exact own, by rw [same]; exact other, ?_, ?_, ?_⟩
  · rw [on _ (Or.inr (by cases up <;> rfl)), on _ (Or.inl rfl), on _ (Or.inr (by cases up <;> rfl))]
    exact flags
  · rw [shed]
    exact held
  · obtain ⟨r', e', q, c, x', y, z, frame⟩ := frame
    rw [shed, frame]
    exact ⟨_, _, _, _, _, _, _, rfl⟩

theorem State.putInForce_queues (s : State) (up : Bool) (cs : CarrierState) : ((s.washCarriers up).putInForce up cs).queues = s.queues := by
  obtain ⟨x, washed⟩ := (s.washCarriers_washes up).frame
  generalize s.washCarriers up = v at *
  obtain ⟨-, -, -, -, -, r, y, z, frame⟩ := v.putInForce_shows up cs
  rw [frame, washed]

/-- The sections to drop are the same whether their count is taken before or after. -/
theorem State.dropHeld_count (s : State) (f : Fld) (x : Nat) (c : HeldSec → Bool) : (s.count f x).dropHeld c = (s.dropHeld c).count f x := rfl

theorem State.copyInForce_enforces (s : State) (up : Bool) : s.enforces (s.copyInForce up) up ∧
    (up = false → ∀ n < 8, ((s.copyInForce up).queue n).pkts = (s.queue n).pkts.filter (fun p => !(s.carriers up).old p)) := by
  have base := s.putInForce_enforces up
  have queues := s.putInForce_queues up { (s.washCarriers up).carriers up with inForce := (s.carriers up).next, next := [] }
  cases up with
  | true =>
    obtain ⟨x, c, e⟩ := s.copyInForce_up
    rw [e, State.dropHeld_count]
    exact ⟨(base.sheds (State.countDrops_sheds _ true x)).sheds (State.consumeIf_sheds _ (by decide) _), fun h => by cases h⟩
  | false =>
    obtain ⟨x, c, e⟩ := s.copyInForce_down
    rw [e, State.dropHeld_count]
    generalize (s.washCarriers false).putInForce false { (s.washCarriers false).carriers false with inForce := (s.carriers false).next, next := [] } = w at *
    have waiting : ∀ n, (w.dropHeld ((s.carriers false).hits false)).queue n = s.queue n := fun n => by
      show w.queue n = _
      rw [State.queue, queues, State.queue]
    generalize w.dropHeld ((s.carriers false).hits false) = v at *
    have counted : ∀ n, (v.count (fDropConfig false) x).queue n = v.queue n := fun _ => rfl
    have first := base.sheds (v.countDrops_sheds false x)
    generalize v.count (fDropConfig false) x = y at *
    obtain ⟨-, others⟩ := y.consumeIf_pkts 8 c
    have second := first.sheds (y.consumeIf_sheds (n := 8) (by decide) c)
    generalize y.consumeIf 8 c = z at *
    obtain ⟨sheds, gone⟩ := z.dropDlds_sheds (s.carriers false)
    exact ⟨second.sheds sheds, fun _ n hn => by rw [gone n hn, others n (by omega), counted, waiting]⟩

theorem commitInForce (up : Bool) {c : Instr} (hc : (c = .dlcCommitInForce ∧ up = false) ∨ (c = .ulcCommitInForce ∧ up = true))
    (waits : (s.carriers up).next ≠ []) (planless : s.sfd.plan = []) :
    ∃ t, exec c s = .next t ∧ (t.carriers up).inForce = (s.carriers up).next ∧ (t.carriers up).next = [] ∧
      t.carriers (!up) = s.carriers (!up) ∧ t.on (fCommitPending up) = false ∧ t.on (fCommit up) = false ∧
      t.on (fCfgValid up) = true ∧
      t.sect.held = s.sect.held.filter (fun h =>
        !(h.up == up && decide ((s.carriers up).boundary ≤ h.air) && decide (h.serial < (s.carriers up).before))) ∧
      (up = false → ∀ n < 8, (t.queue n).pkts = (s.queue n).pkts.filter (fun p =>
        !(decide ((s.carriers up).boundary ≤ p.air) && decide (p.serial < (s.carriers up).before)))) ∧
      t = { s with regs := t.regs, raise := t.raise, queues := t.queues, sect := t.sect, dlc := t.dlc, ulc := t.ulc, smp := t.smp } := by
  have run : exec c s = .next ((s.copyInForce up).recheckPlan up) := by
    rcases hc with ⟨rfl, rfl⟩ | ⟨rfl, rfl⟩
    · show execDlcCommitInForce s = _
      rw [execDlcCommitInForce, if_pos (show s.dlc.next ≠ [] from waits)]
    · show execUlcCommitInForce s = _
      rw [execUlcCommitInForce, if_pos (show s.ulc.next ≠ [] from waits)]
  obtain ⟨⟨own, other, flags, held, r, e, q, x, y, z, w, frame⟩, gone⟩ := s.copyInForce_enforces up
  generalize s.copyInForce up = v at *
  have off : v.planOn = false := by rw [State.planOn, show v.sfd = s.sfd by rw [frame], planless]; rfl
  rw [State.recheckPlan, off] at run
  refine ⟨v, run, own.1, own.2, other, flags.1, flags.2.1, flags.2.2, held, gone, ?_⟩
  rw [frame]

/-! ### IQ_SWAP (R245, R255) -/

def iqSwapInstr (up : Bool) (q : Requester) (w : Word) : Instr := if up then .ulcIqSwap q w else .dlcIqSwap q w

theorem iqSwapNoted (up : Bool) (w : Word) {c : Instr} (hc : (c = .dlcIqSwap q w ∧ up = false) ∨ (c = .ulcIqSwap q w ∧ up = true))
    (h : s.passes q (fIqSwap up).addr true) (commit : (fCommit up).of w = 0) (clr : (fCntClr up).of w = 0) :
    ∃ t, exec c s = .next t ∧ t.on (fIqSwap up) = true ∧ t.fld (fIqBank up) = s.fld (fIqBank up) ∧ s.onlyRegs t [(fIqSwap up).addr] := by
  have run : exec c s = .next (s.chainCtrlWrite up ((fIqSwap up).put 1 w)) := by
    rcases hc with ⟨rfl, rfl⟩ | ⟨rfl, rfl⟩
    · exact exec_access (f := fun s => s.chainCtrlWrite false (Fld.DLC_CTRL_IQ_SWAP.put 1 w)) h rfl
    · exact exec_access (f := fun s => s.chainCtrlWrite true (Fld.ULC_CTRL_IQ_SWAP.put 1 w)) h rfl
  have swap : (fIqSwap up).of ((fIqSwap up).put 1 w) = 1 := by cases up <;> exact Fld.of_put_same _ _ _ (by decide) (by decide)
  have noCommit : (fCommit up).of ((fIqSwap up).put 1 w) = 0 := by
    rw [← commit]
    cases up <;> exact Fld.of_put_ne _ _ _ _ (by decide) (by decide)
  have noClr : (if up then Fld.ULC_CTRL_CNT_CLR else Fld.DLC_CTRL_CNT_CLR).of ((fIqSwap up).put 1 w) = 0 := by
    rw [← clr]
    cases up <;> exact Fld.of_put_ne _ _ _ _ (by decide) (by decide)
  rw [State.chainCtrlWrite] at run
  simp only [swap, noCommit, noClr, Nat.reduceBEq, Bool.false_and, Bool.false_eq_true, if_false, zero_ne_one, if_true] at run
  refine ⟨_, run, State.on_setFld_one _ _ (by cases up <;> decide) (by cases up <;> decide), ?_, rfl, (State.regsBut.refl s _).setFld _ (by simp)⟩
  exact State.fld_setFld_ne _ _ _ _ (by cases up <;> decide) (by cases up <;> decide)

/-- What a logged symbol is shown with does not come from the log. -/
theorem State.withSettings_log (s : State) (x : List SymbolLog) (l : SymbolLog) :
    State.withSettings { s with rf := { s.rf with log := x } } l = s.withSettings l := rfl

theorem State.retake_log (s : State) : ∃ x, s.retake = { s with rf := { s.rf with log := x } } ∧ x.tail = s.rf.log.tail ∧
    ∀ l, s.rf.log.head? = some l → l.air = symStart s.time.scs s.air → x.head? = some (s.withSettings l) := by
  unfold State.retake
  split
  · next l ls log =>
    split_ifs with h
    · exact ⟨_, rfl, by rw [log]; rfl, fun m hm _ => by rw [log] at hm; cases hm; rfl⟩
    · exact ⟨s.rf.log, rfl, rfl, fun m hm hh => by rw [log] at hm; cases hm; exact absurd hh h⟩
  · next log => exact ⟨s.rf.log, rfl, rfl, fun m hm _ => by rw [log] at hm; cases hm⟩

theorem iqBanksSwap (up : Bool) {c : Instr} (hc : (c = .dlcIqBankSwap ∧ up = false) ∨ (c = .ulcIqBankSwap ∧ up = true))
    (asked : s.on (fIqSwap up) = true) :
    ∃ t, exec c s = .next t ∧ t.fld (fIqBank up) = 1 - s.fld (fIqBank up) ∧ t.on (fIqSwap up) = false ∧
      t.rf = { s.rf with log := t.rf.log } ∧ t.rf.log.tail = s.rf.log.tail ∧
      (∀ l, s.rf.log.head? = some l → l.air = symStart s.time.scs s.air → t.rf.log.head? = some (t.withSettings l)) ∧
      t = { s with regs := t.regs, rf := t.rf } ∧ s.regsBut t [(fIqSwap up).addr, (fIqBank up).addr] := by
  have run : exec c s = .next ((s.setFld (fIqBank up) (1 - s.fld (fIqBank up))).setFld (fIqSwap up) 0).retake := by
    have swapped : s.iqBankSwap up = (s.setFld (fIqBank up) (1 - s.fld (fIqBank up))).setFld (fIqSwap up) 0 := by rw [State.iqBankSwap, if_pos asked]
    rw [← swapped]
    rcases hc with ⟨rfl, rfl⟩ | ⟨rfl, rfl⟩ <;> rfl
  have bank : ((s.setFld (fIqBank up) (1 - s.fld (fIqBank up))).setFld (fIqSwap up) 0).fld (fIqBank up) = 1 - s.fld (fIqBank up) := by
    rw [State.fld_setFld_ne _ _ _ _ (by cases up <;> decide) (by cases up <;> decide)]
    refine State.fld_setFld_same _ _ _ (by cases up <;> decide) ?_
    have : 1 - s.fld (fIqBank up) < 2 := by omega
    cases up <;> exact this
  have off : ((s.setFld (fIqBank up) (1 - s.fld (fIqBank up))).setFld (fIqSwap up) 0).fld (fIqSwap up) = 0 :=
    State.fld_setFld_same _ _ _ (by cases up <;> decide) (by cases up <;> decide)
  have regs : s.regsBut ((s.setFld (fIqBank up) (1 - s.fld (fIqBank up))).setFld (fIqSwap up) 0) [(fIqSwap up).addr, (fIqBank up).addr] :=
    ((State.regsBut.refl s _).setFld _ (by simp)).setFld _ (by simp)
  have frame : s.beside ((s.setFld (fIqBank up) (1 - s.fld (fIqBank up))).setFld (fIqSwap up) 0) := ⟨_, rfl⟩
  generalize (s.setFld (fIqBank up) (1 - s.fld (fIqBank up))).setFld (fIqSwap up) 0 = v at *
  obtain ⟨x, taken, tail, head⟩ := v.retake_log
  obtain ⟨r, frame⟩ := frame
  have rf : v.rf = s.rf := by rw [frame]
  have now : symStart v.time.scs v.air = symStart s.time.scs s.air := by rw [frame]
  rw [taken] at run
  rw [rf, now] at head
  refine ⟨_, run, bank, (State.on_eq_false _ _).mpr off, ?_, tail.trans (by rw [rf]), fun l hl ha => ?_, ?_, regs.congr rfl⟩
  · rw [rf]
  · rw [State.withSettings_log]
    exact head l hl ha
  · rw [frame]

/-! ### CNT_CLR (R252, R447) -/

/-- The registers that satisfy `P` read 0, the others as they did. -/
structure State.zeroes (s t : State) (P : Nat → Prop) : Prop where
  frame : s.beside t
  zero : ∀ a, P a → t.rd a = 0
  rest : ∀ a, ¬ P a → t.rd a = s.rd a

theorem State.zeroes.refl (s : State) : s.zeroes s (fun _ => False) := ⟨.refl s, fun _ h => h.elim, fun _ _ => rfl⟩

theorem State.zeroes.wr {P : Nat → Prop} (h : s.zeroes t P) (a : Nat) : s.zeroes (t.wr a 0) (fun b => P b ∨ b = a) := by
  refine ⟨h.frame.wr _ _, fun b hb => ?_, fun b hb => ?_⟩
  · rcases eq_or_ne b a with rfl | hne
    · exact State.rd_wr_same _ _ _
    · rw [State.rd_wr_ne _ _ hne]
      exact h.zero b (hb.resolve_right hne)
  · rw [State.rd_wr_ne _ _ fun e => hb (Or.inr e)]
    exact h.rest b fun hp => hb (Or.inl hp)

theorem State.zeroes.of_iff {P Q : Nat → Prop} (h : s.zeroes t P) (e : ∀ a, P a ↔ Q a) : s.zeroes t Q := by
  obtain rfl : P = Q := funext fun a => propext (e a)
  exact h

theorem State.zeroes.foldl {P : Nat → Prop} (h : s.zeroes t P) (l : List Nat) : s.zeroes (l.foldl (fun s a => s.wr a 0) t) (fun b => P b ∨ b ∈ l) := by
  induction l generalizing t P with
  | nil => exact h.of_iff fun a => by simp
  | cons b l ih => exact (ih (h.wr b)).of_iff fun a => by rw [List.mem_cons, or_assoc]

theorem State.zeroes.forEach {P : Nat → Prop} {Q : Nat → Nat → Prop} {f : State → Nat → State} (h : s.zeroes t P)
    (step : ∀ v R k, s.zeroes v R → s.zeroes (f v k) (fun b => R b ∨ Q k b)) (n : Nat) :
    s.zeroes (t.forEach n f) (fun b => P b ∨ ∃ k < n, Q k b) :=
  State.forEach_induct (n := n) (fun k v => s.zeroes v (fun b => P b ∨ ∃ j < k, Q j b)) (h.of_iff fun a => by simp) fun v k _ hv =>
    (step v _ k hv).of_iff fun a => by
      simp only [Nat.lt_succ_iff_lt_or_eq, or_and_right, exists_or, exists_eq_left, or_assoc]

/-- The words of the list are cleared. -/
def State.clearWords (s : State) (l : List Nat) : State := l.foldl (fun s a => s.wr a 0) s

/-- The saturation counts of the paths, of either direction, are cleared. -/
def State.clearDownPaths (s : State) : State := s.forEach 64 (fun s p => (s.wr (Reg.DLC_PATHp_SATA p) 0).wr (Reg.DLC_PATHp_SATB p) 0)
def State.clearUpPaths (s : State) : State := s.forEach 64 (fun s p => s.wr (Reg.ULC_PATHp_SAT p) 0)

theorem State.clearWords_zeroes (s : State) (l : List Nat) : s.zeroes (s.clearWords l) (fun b => b ∈ l) :=
  ((State.zeroes.refl s).foldl l).of_iff fun _ => iff_of_eq (false_or _)

theorem State.zeroes.clearDownPaths {P : Nat → Prop} (h : s.zeroes t P) :
    s.zeroes t.clearDownPaths (fun b => P b ∨ ∃ p < 64, b = Reg.DLC_PATHp_SATA p ∨ b = Reg.DLC_PATHp_SATB p) := by
  unfold State.clearDownPaths
  refine State.zeroes.forEach (Q := fun p b => b = Reg.DLC_PATHp_SATA p ∨ b = Reg.DLC_PATHp_SATB p) h (fun v R p hv => ?_) 64
  exact ((hv.wr _).wr _).of_iff fun _ => or_assoc

theorem State.zeroes.clearUpPaths {P : Nat → Prop} (h : s.zeroes t P) :
    s.zeroes t.clearUpPaths (fun b => P b ∨ ∃ p < 64, b = Reg.ULC_PATHp_SAT p) := by
  unfold State.clearUpPaths
  exact State.zeroes.forEach (Q := fun p b => b = Reg.ULC_PATHp_SAT p) h (fun v R p hv => hv.wr _) 64

theorem State.clearChainCounters_down (s : State) : s.clearChainCounters false =
    (s.clearWords [Reg.DLC_LOAD, Reg.DLC_DROPA, Reg.DLC_DROPB, Reg.DLC_DLD_DISC]).clearDownPaths := by
  rw [State.clearChainCounters, if_neg Bool.false_ne_true, State.clearDownPaths, State.clearWords]

theorem downlinkCleared (w : Word) (h : s.passes q Reg.DLC_CTRL true) (commit : (fCommit false).of w = 0) (swap : (fIqSwap false).of w = 0) :
    ∃ t, exec (.dlcCntClr q w) s = .next t ∧
      (∀ a ∈ [Reg.DLC_LOAD, Reg.DLC_DROPA, Reg.DLC_DROPB, Reg.DLC_DLD_DISC], t.rd a = 0) ∧
      (∀ p < 64, t.rd (Reg.DLC_PATHp_SATA p) = 0 ∧ t.rd (Reg.DLC_PATHp_SATB p) = 0) ∧
      s.onlyRegs t ([Reg.DLC_LOAD, Reg.DLC_DROPA, Reg.DLC_DROPB, Reg.DLC_DLD_DISC] ++ (List.range 64).map Reg.DLC_PATHp_SATA ++
        (List.range 64).map Reg.DLC_PATHp_SATB) := by
  have run := exec_access (c := .dlcCntClr q w) (f := fun s => s.chainCtrlWrite false (Fld.DLC_CTRL_CNT_CLR.put 1 w)) h rfl
  have clr : Fld.DLC_CTRL_CNT_CLR.of (Fld.DLC_CTRL_CNT_CLR.put 1 w) = 1 := Fld.of_put_same _ _ _ (by decide) (by decide)
  have noCommit : (fCommit false).of (Fld.DLC_CTRL_CNT_CLR.put 1 w) = 0 := (Fld.of_put_ne _ _ _ _ (by decide) (by decide)).trans commit
  have noSwap : (fIqSwap false).of (Fld.DLC_CTRL_CNT_CLR.put 1 w) = 0 := (Fld.of_put_ne _ _ _ _ (by decide) (by decide)).trans swap
  rw [State.chainCtrlWrite] at run
  simp only [clr, noCommit, noSwap, Nat.reduceBEq, Bool.false_and, Bool.false_eq_true, if_false, zero_ne_one, if_true] at run
  rw [State.clearChainCounters_down] at run
  have cleared := (s.clearWords_zeroes [Reg.DLC_LOAD, Reg.DLC_DROPA, Reg.DLC_DROPB, Reg.DLC_DLD_DISC]).clearDownPaths
  generalize (s.clearWords [Reg.DLC_LOAD, Reg.DLC_DROPA, Reg.DLC_DROPB, Reg.DLC_DLD_DISC]).clearDownPaths = t at *
  obtain ⟨⟨r, frame⟩, zero, rest⟩ := cleared
  refine ⟨_, run, fun a ha => zero a (Or.inl ha), fun p hp => ⟨zero _ (Or.inr ⟨p, hp, Or.inl rfl⟩), zero _ (Or.inr ⟨p, hp, Or.inr rfl⟩)⟩, ?_,
    fun a ha => rest a ?_⟩
  · rw [frame]
  · simp only [List.mem_append, List.mem_map, List.mem_range, not_or, not_exists, not_and] at ha
    rintro (h | ⟨p, hp, h | h⟩)
    · exact ha.1.1 h
    · exact ha.1.2 p hp h.symm
    · exact ha.2 p hp h.symm

/-- The counts of a PRACH entry are cleared. -/
def State.clearOccasions (s : State) : State :=
  s.forEach 4 (fun s e => (s.setFld (Fld.ULC_PRAe_STATUS_OCC e) 0).setFld (Fld.ULC_PRAe_STATUS_SKIP e) 0)

theorem State.clearChainCounters_up (s : State) : s.clearChainCounters true =
    (s.clearWords [Reg.ULC_LOAD, Reg.ULC_DROPA, Reg.ULC_DROPB, Reg.ULC_DROPC, Reg.ULC_DROPD, Reg.ULC_SATL]).clearUpPaths.clearOccasions := by
  rw [State.clearChainCounters, if_pos rfl, State.clearOccasions, State.clearUpPaths, State.clearWords]

theorem State.clearOccasions_shows (s : State) : s.beside s.clearOccasions ∧ s.regsBut s.clearOccasions ((List.range 4).map Reg.ULC_PRAe_STATUS) ∧
    ∀ e < 4, s.clearOccasions.fld (Fld.ULC_PRAe_STATUS_OCC e) = 0 ∧ s.clearOccasions.fld (Fld.ULC_PRAe_STATUS_SKIP e) = 0 ∧
      s.clearOccasions.fld (Fld.ULC_PRAe_STATUS_LAST_SKIP e) = s.fld (Fld.ULC_PRAe_STATUS_LAST_SKIP e) := by
  have all := State.forEach_induct (s := s) (n := 4) (f := fun s e => (s.setFld (Fld.ULC_PRAe_STATUS_OCC e) 0).setFld (Fld.ULC_PRAe_STATUS_SKIP e) 0)
    (fun k v => s.beside v ∧ s.regsBut v ((List.range 4).map Reg.ULC_PRAe_STATUS) ∧
      (∀ e < k, v.fld (Fld.ULC_PRAe_STATUS_OCC e) = 0 ∧ v.fld (Fld.ULC_PRAe_STATUS_SKIP e) = 0) ∧
      ∀ e, v.fld (Fld.ULC_PRAe_STATUS_LAST_SKIP e) = s.fld (Fld.ULC_PRAe_STATUS_LAST_SKIP e))
    ⟨.refl s, .refl s _, fun e he => absurd he (Nat.not_lt_zero e), fun _ => rfl⟩ (fun v k hk ⟨frame, regs, cleared, last⟩ => by
      have mem : Reg.ULC_PRAe_STATUS k ∈ (List.range 4).map Reg.ULC_PRAe_STATUS := List.mem_map.mpr ⟨k, List.mem_range.mpr hk, rfl⟩
      refine ⟨(frame.setFld _ _).setFld _ _, (regs.setFld _ mem).setFld _ mem, fun e he => ?_, fun e => ?_⟩
      · rcases Nat.lt_succ_iff_lt_or_eq.mp he with h | rfl
        · rw [State.fld_setFld_ne _ _ _ _ (by simp) (Or.inl (by simp; omega)), State.fld_setFld_ne _ _ _ _ (by simp) (Or.inl (by simp; omega)),
            State.fld_setFld_ne _ _ _ _ (by simp) (Or.inl (by simp; omega)), State.fld_setFld_ne _ _ _ _ (by simp) (Or.inl (by simp; omega))]
          exact cleared e h
        · exact ⟨by
            rw [State.fld_setFld_ne _ _ _ _ (by simp) (by simp)]
            exact State.fld_setFld_same _ _ _ (by simp) (by simp), State.fld_setFld_same _ _ _ (by simp) (by simp)⟩
      · rw [State.fld_setFld_ne _ _ _ _ (by simp) (by simp), State.fld_setFld_ne _ _ _ _ (by simp) (by simp)]
        exact last e)
  obtain ⟨frame, regs, cleared, last⟩ := all
  exact ⟨frame, regs, fun e he => ⟨(cleared e he).1, (cleared e he).2, last e⟩⟩

theorem uplinkCleared (w : Word) (h : s.passes q Reg.ULC_CTRL true) (commit : (fCommit true).of w = 0) (swap : (fIqSwap true).of w = 0) :
    ∃ t, exec (.ulcCntClr q w) s = .next t ∧
      (∀ a ∈ [Reg.ULC_LOAD, Reg.ULC_DROPA, Reg.ULC_DROPB, Reg.ULC_DROPC, Reg.ULC_DROPD, Reg.ULC_SATL], t.rd a = 0) ∧
      (∀ p < 64, t.rd (Reg.ULC_PATHp_SAT p) = 0) ∧
      (∀ e < 4, t.fld (Fld.ULC_PRAe_STATUS_OCC e) = 0 ∧ t.fld (Fld.ULC_PRAe_STATUS_SKIP e) = 0 ∧
        t.fld (Fld.ULC_PRAe_STATUS_LAST_SKIP e) = s.fld (Fld.ULC_PRAe_STATUS_LAST_SKIP e)) ∧
      s.onlyRegs t ([Reg.ULC_LOAD, Reg.ULC_DROPA, Reg.ULC_DROPB, Reg.ULC_DROPC, Reg.ULC_DROPD, Reg.ULC_SATL] ++
        (List.range 64).map Reg.ULC_PATHp_SAT ++ (List.range 4).map Reg.ULC_PRAe_STATUS) := by
  have run := exec_access (c := .ulcCntClr q w) (f := fun s => s.chainCtrlWrite true (Fld.ULC_CTRL_CNT_CLR.put 1 w)) h rfl
  have clr : Fld.ULC_CTRL_CNT_CLR.of (Fld.ULC_CTRL_CNT_CLR.put 1 w) = 1 := Fld.of_put_same _ _ _ (by decide) (by decide)
  have noCommit : (fCommit true).of (Fld.ULC_CTRL_CNT_CLR.put 1 w) = 0 := (Fld.of_put_ne _ _ _ _ (by decide) (by decide)).trans commit
  have noSwap : (fIqSwap true).of (Fld.ULC_CTRL_CNT_CLR.put 1 w) = 0 := (Fld.of_put_ne _ _ _ _ (by decide) (by decide)).trans swap
  rw [State.chainCtrlWrite] at run
  simp only [clr, noCommit, noSwap, Nat.reduceBEq, Bool.false_and, Bool.false_eq_true, if_false, zero_ne_one, if_true] at run
  rw [State.clearChainCounters_up] at run
  have cleared := (s.clearWords_zeroes [Reg.ULC_LOAD, Reg.ULC_DROPA, Reg.ULC_DROPB, Reg.ULC_DROPC, Reg.ULC_DROPD, Reg.ULC_SATL]).clearUpPaths
  generalize (s.clearWords [Reg.ULC_LOAD, Reg.ULC_DROPA, Reg.ULC_DROPB, Reg.ULC_DROPC, Reg.ULC_DROPD, Reg.ULC_SATL]).clearUpPaths = v at *
  obtain ⟨frame, zero, rest⟩ := cleared
  obtain ⟨frame', regs, shows⟩ := v.clearOccasions_shows
  generalize v.clearOccasions = t at *
  have kept (a : Nat) (ha : ∀ e < 4, a ≠ Reg.ULC_PRAe_STATUS e) : t.rd a = v.rd a := regs a fun mem => by
    obtain ⟨e, he, rfl⟩ := List.mem_map.mp mem
    exact ha e (List.mem_range.mp he) rfl
  have few (a : Nat) (ha : a ∈ [Reg.ULC_LOAD, Reg.ULC_DROPA, Reg.ULC_DROPB, Reg.ULC_DROPC, Reg.ULC_DROPD, Reg.ULC_SATL]) (e : Nat) :
      a ≠ Reg.ULC_PRAe_STATUS e := by
    simp only [List.mem_cons, List.not_mem_nil, or_false, Reg.ULC_LOAD, Reg.ULC_DROPA, Reg.ULC_DROPB, Reg.ULC_DROPC, Reg.ULC_DROPD, Reg.ULC_SATL] at ha
    simp only [Reg.ULC_PRAe_STATUS]
    omega
  have sat (p e : Nat) (he : e < 4) : Reg.ULC_PATHp_SAT p ≠ Reg.ULC_PRAe_STATUS e := by
    simp only [Reg.ULC_PATHp_SAT, Reg.ULC_PRAe_STATUS]
    omega
  refine ⟨t, run, fun a ha => (kept a fun e _ => few a ha e).trans (zero a (Or.inl ha)),
    fun p hp => (kept _ fun e he => sat p e he).trans (zero _ (Or.inr ⟨p, hp, rfl⟩)), fun e he => ?_, ?_, fun a ha => ?_⟩
  · obtain ⟨occ, skip, last⟩ := shows e he
    refine ⟨occ, skip, last.trans (State.fld_congr (rest _ ?_))⟩
    rintro (h | ⟨p, -, h⟩)
    · exact few _ h e rfl
    · exact sat p e he h.symm
  · obtain ⟨r, frame⟩ := frame.trans frame'
    rw [frame]
  · simp only [List.mem_append, List.mem_map, List.mem_range, not_or, not_exists, not_and] at ha
    rw [kept a fun e he h => ha.2 e he h.symm, rest a]
    rintro (h | ⟨p, hp, h⟩)
    · exact ha.1.1 h
    · exact ha.1.2 p hp h.symm

/-- Settles O39: commits, swaps and CNT_CLR of both chains. -/
theorem carrierConfigurationsAreCommitted : Obligations.CarrierConfigurationsAreCommitted := by
  unfold Obligations.CarrierConfigurationsAreCommitted
  intro q w s up
  refine ⟨fun c hc h => ?_, fun c hc => commitInForce up hc, fun c hc h commit clr => iqSwapNoted up w hc h commit clr, fun c hc => iqBanksSwap up hc,
    downlinkCleared w, uplinkCleared w⟩
  rw [commitInstr_of hc]
  exact ⟨commit_overrun w h, fun r k clr swap free bad => commit_refused w h clr swap free bad,
    fun clr swap free good => commit_accepted w h clr swap free good⟩

end Sys2Proof.Machine

/-!
PROOFS. Channel filter banks and RSSI windows (O40).
-/

namespace Sys2Proof.Machine

variable {s t u v : State} {as : List Nat} {a n m k : Nat} {q : Requester} {d : Word}

/-! ### Channel filters (R261, R262) -/

theorem firFields : ∀ c : Fin 8, (Fld.ULC_CARc_FIR_CTRL_SWAP c.val).sets = true ∧ (Fld.ULC_CARc_FIR_CTRL_BANK c.val).held = true := by decide

theorem firSwap_put (c : Nat) (w : Word) : (Fld.ULC_CARc_FIR_CTRL_SWAP c).of ((Fld.ULC_CARc_FIR_CTRL_SWAP c).put 1 w) = 1 :=
  Fld.of_put_same _ _ _ (by simp) (by simp)

theorem firSwap_overrun (c : Fin 8) (w : Word) (h : s.passes q (Reg.ULC_CARc_FIR_CTRL c.val) true) (waits : s.on (Fld.ULC_CARc_FIR_CTRL_SWAP c.val) = true) :
    ∃ t, exec (.firSwapRequest c q w) s = .next t ∧ t.on Fld.ULC_STATUS_OVERRUN = true ∧ s.onlyRegs t [Reg.ULC_STATUS] := by
  have run := exec_access (c := .firSwapRequest c q w) (f := fun s => s.firCtrlWrite c.val ((Fld.ULC_CARc_FIR_CTRL_SWAP c.val).put 1 w)) h rfl
  rw [State.firCtrlWrite, if_pos ⟨firSwap_put _ w, waits⟩] at run
  exact ⟨_, run, State.on_setFld_one _ _ (by decide) (by decide), rfl, (State.regsBut.refl s _).setFld _ (by simp)⟩

/-- What of the sample chains a change of USER reaches: the history of the tap choice. -/
theorem firSwap_taken (c : Fin 8) (w : Word) (h : s.passes q (Reg.ULC_CARc_FIR_CTRL c.val) true) (free : s.on (Fld.ULC_CARc_FIR_CTRL_SWAP c.val) = false) :
    ∃ t, exec (.firSwapRequest c q w) s = .next t ∧ t.on (Fld.ULC_CARc_FIR_CTRL_SWAP c.val) = true ∧
      t.fld (Fld.ULC_CARc_FIR_CTRL_BANK c.val) = s.fld (Fld.ULC_CARc_FIR_CTRL_BANK c.val) ∧
      (t.fld (Fld.ULC_CARc_FIR_CTRL_USER c.val) = s.fld (Fld.ULC_CARc_FIR_CTRL_USER c.val) → t.smp = s.smp) ∧
      t.smp = { s.smp with users := t.smp.users } ∧ t = { s with regs := t.regs, smp := t.smp } ∧ s.regsBut t [Reg.ULC_CARc_FIR_CTRL c.val] := by
  have run := exec_access (c := .firSwapRequest c q w) (f := fun s => s.firCtrlWrite c.val ((Fld.ULC_CARc_FIR_CTRL_SWAP c.val).put 1 w)) h rfl
  rw [State.firCtrlWrite, if_neg fun x => by rw [free] at x; exact Bool.false_ne_true x.2] at run
  have on := State.on_plainWrite_sets s (Fld.ULC_CARc_FIR_CTRL_SWAP c.val) (firSwap_put _ w) (firFields c).1
  have bank := State.fld_plainWrite_held s (firFields c).2 ((Fld.ULC_CARc_FIR_CTRL_SWAP c.val).put 1 w)
  have regs : s.regsBut (s.plainWrite (Reg.ULC_CARc_FIR_CTRL c.val) ((Fld.ULC_CARc_FIR_CTRL_SWAP c.val).put 1 w)) [Reg.ULC_CARc_FIR_CTRL c.val] :=
    (State.regsBut.refl s _).plainWrite _ (by simp)
  have frame : s.beside (s.plainWrite (Reg.ULC_CARc_FIR_CTRL c.val) ((Fld.ULC_CARc_FIR_CTRL_SWAP c.val).put 1 w)) := ⟨_, rfl⟩
  generalize s.plainWrite (Reg.ULC_CARc_FIR_CTRL c.val) ((Fld.ULC_CARc_FIR_CTRL_SWAP c.val).put 1 w) = v at *
  obtain ⟨r, frame⟩ := frame
  dsimp only at run
  split_ifs at run with same
  · exact ⟨v, run, on, bank, fun _ => by rw [frame], by rw [frame], by rw [frame], regs⟩
  · refine ⟨_, run, on, bank, fun e => absurd ?_ same, ?_, ?_, regs.congr rfl⟩
    · exact congrArg (fun x => decide (x ≠ 0)) e
    · rw [frame]
    · rw [frame]

/-- Another tap history of filter `c`. -/
def State.withTaps (s : State) (c : Nat) (h : List (Nat × List Word)) : State := { s with smp := { s.smp with taps := SMap.set [] s.smp.taps c h } }

theorem firBanksSwap (c : Fin 8) (asked : s.on (Fld.ULC_CARc_FIR_CTRL_SWAP c.val) = true) (due : s.firDue c.val = true) (b : Nat)
    (hb : b = s.fld (Fld.ULC_CARc_FIR_CTRL_BANK c.val)) :
    ∃ t, exec (.firBankSwap c) s = .next t ∧ t.fld (Fld.ULC_CARc_FIR_CTRL_BANK c.val) = 1 - s.fld (Fld.ULC_CARc_FIR_CTRL_BANK c.val) ∧
      t.on (Fld.ULC_CARc_FIR_CTRL_SWAP c.val) = false ∧
      SMap.get [] t.smp.taps c.val = histPush (SMap.get [] s.smp.taps c.val) (s.firBank c.val b) s.air (s.firBank c.val (1 - b)) ∧
      t.smp = { s.smp with taps := t.smp.taps } ∧ t = { s with regs := t.regs, smp := t.smp } ∧ s.regsBut t [Reg.ULC_CARc_FIR_CTRL c.val] := by
  have run : exec (.firBankSwap c) s = .next (((s.withTaps c.val
      (histPush (SMap.get [] s.smp.taps c.val) (s.firBank c.val b) s.air (s.firBank c.val (1 - b)))).setFld
        (Fld.ULC_CARc_FIR_CTRL_BANK c.val) (1 - b)).setFld (Fld.ULC_CARc_FIR_CTRL_SWAP c.val) 0) := by
    show execFirBankSwap c s = _
    rw [execFirBankSwap, if_pos ⟨asked, due⟩, ← hb]
    rfl
  generalize histPush (SMap.get [] s.smp.taps c.val) (s.firBank c.val b) s.air (s.firBank c.val (1 - b)) = x at *
  refine ⟨_, run, ?_, ?_, SMap.get_set_same _ _ _ _, rfl, rfl, ?_⟩
  · rw [State.fld_setFld_ne _ _ _ _ (by simp) (by simp), ← hb]
    exact State.fld_setFld_same _ _ _ (by simp) (Nat.lt_succ_of_le (Nat.sub_le 1 b))
  · rw [State.on_eq_false]
    exact State.fld_setFld_same _ _ _ (by simp) (by simp)
  · exact (((State.regsBut.refl s _).congr rfl).setFld _ (by simp)).setFld _ (by simp)

/-! ### RSSI (R256, R257) -/

theorem rssiCfgLoads (p : Fin 64) (w : Word) (h : s.passes q (Reg.ULC_PATHp_RSSI_CFG p.val) true) :
    ∃ t, exec (.rssiCfgWrite p q w) s = .next t ∧
      t.rd (Reg.ULC_PATHp_RSSI_CFG p.val) = writeWord (Reg.ULC_PATHp_RSSI_CFG p.val) w (s.rd (Reg.ULC_PATHp_RSSI_CFG p.val)) ∧
      SMap.get 0 t.rssi p.val = s.air ∧
      (t.on (Fld.ULC_PATHp_RSSI_CFG_EN p.val) = false →
        t.on (Fld.ULC_PATHp_RSSI_HIGH p.val) = false ∧ t.on (Fld.ULC_PATHp_RSSI_LOW p.val) = false) ∧
      t = { s with regs := t.regs, rssi := t.rssi } ∧ s.regsBut t [Reg.ULC_PATHp_RSSI_CFG p.val, Reg.ULC_PATHp_RSSI p.val] := by
  have run := exec_access (c := .rssiCfgWrite p q w) (f := fun s => s.rssiCfgWrite p.val w) h rfl
  have word : ((s.plainWrite (Reg.ULC_PATHp_RSSI_CFG p.val) w).rssiStart p.val).rd (Reg.ULC_PATHp_RSSI_CFG p.val) =
      writeWord (Reg.ULC_PATHp_RSSI_CFG p.val) w (s.rd (Reg.ULC_PATHp_RSSI_CFG p.val)) := State.rd_wr_same _ _ _
  have begun : SMap.get 0 ((s.plainWrite (Reg.ULC_PATHp_RSSI_CFG p.val) w).rssiStart p.val).rssi p.val = s.air := SMap.get_set_same _ _ _ _
  have regs : s.regsBut ((s.plainWrite (Reg.ULC_PATHp_RSSI_CFG p.val) w).rssiStart p.val) [Reg.ULC_PATHp_RSSI_CFG p.val, Reg.ULC_PATHp_RSSI p.val] :=
    ((State.regsBut.refl s _).plainWrite _ (by simp)).congr rfl
  have frame : ∃ r x, (s.plainWrite (Reg.ULC_PATHp_RSSI_CFG p.val) w).rssiStart p.val = { s with regs := r, rssi := x } := ⟨_, _, rfl⟩
  rw [State.rssiCfgWrite] at run
  generalize (s.plainWrite (Reg.ULC_PATHp_RSSI_CFG p.val) w).rssiStart p.val = v at *
  obtain ⟨r, x, frame⟩ := frame
  have own (y : SMap Word) : ({ v with regs := y } : State) = { s with regs := y, rssi := v.rssi } := by rw [frame]
  split_ifs at run with en
  · exact ⟨v, run, word, begun, fun off => absurd (en.symm.trans off) (by decide), by rw [frame], regs⟩
  · refine ⟨_, run, ?_, begun, fun _ => ⟨?_, ?_⟩, own _, (regs.setFld _ (by simp)).setFld _ (by simp)⟩
    · rw [State.rd_setFld_ne _ _ _ (by simp only [Reg.ULC_PATHp_RSSI, Reg.ULC_PATHp_RSSI_CFG]; omega),
        State.rd_setFld_ne _ _ _ (by simp only [Reg.ULC_PATHp_RSSI, Reg.ULC_PATHp_RSSI_CFG]; omega)]
      exact word
    · rw [State.on_eq_false, State.fld_setFld_ne _ _ _ _ (by simp) (by simp)]
      exact State.fld_setFld_same _ _ _ (by simp) (by simp)
    · rw [State.on_eq_false]
      exact State.fld_setFld_same _ _ _ (by simp) (by simp)

/-- With LOW set and the level not far below LOWER, a window close decides HIGH alone. -/
theorem State.rssiStates_low (p : Nat) (room : s.raiseRoom 1) (low : s.on (Fld.ULC_PATHp_RSSI_LOW p) = true)
    (stays : s.fld (Fld.ULC_PATHp_RSSI_LEVEL p) + s.fld (Fld.ULC_PATHp_RSSI_THR_HYST p) ≥ s.fld (Fld.ULC_PATHp_RSSI_THR_LOWER p)) :
    s.rssiStates p =
      if s.on (Fld.ULC_PATHp_RSSI_HIGH p) then
        if s.fld (Fld.ULC_PATHp_RSSI_THR_UPPER p) + s.fld (Fld.ULC_PATHp_RSSI_THR_HYST p) < s.fld (Fld.ULC_PATHp_RSSI_LEVEL p) then
          s.setFld (Fld.ULC_PATHp_RSSI_HIGH p) 0 else s
      else if s.fld (Fld.ULC_PATHp_RSSI_LEVEL p) ≤ s.fld (Fld.ULC_PATHp_RSSI_THR_UPPER p) then
        (s.setFld (Fld.ULC_PATHp_RSSI_HIGH p) 1).event 0x6C (p + 65536 * s.fld (Fld.ULC_PATHp_RSSI_LEVEL p)) else s := by
  have set (x : Nat) : (s.setFld (Fld.ULC_PATHp_RSSI_HIGH p) x).on (Fld.ULC_PATHp_RSSI_LOW p) = true := by
    rw [State.on, State.fld_setFld_ne _ _ _ _ (by simp) (by simp)]
    exact low
  have raised (info : Nat) : ((s.setFld (Fld.ULC_PATHp_RSSI_HIGH p) 1).event 0x6C info).on (Fld.ULC_PATHp_RSSI_LOW p) = true := by
    rw [State.event_raiseRoom (s := s.setFld (Fld.ULC_PATHp_RSSI_HIGH p) 1) (room.congr rfl rfl) (by decide)]
    exact set 1
  have above := Nat.not_lt.mpr stays
  unfold State.rssiStates
  dsimp only
  split_ifs <;> simp_all

theorem dbCode_le (x y : Nat) : dbCode x y ≤ 511 := by
  unfold dbCode
  cases h : (List.range 511).find? (fun l => decide (y ^ 80 < x ^ 80 * 10 ^ (2 * l + 1))) with
  | none => exact Nat.le_refl _
  | some l => exact Nat.le_of_lt (List.mem_range.mp (List.mem_of_find?_eq_some h))

/-- A window's energy, level and number are shown. -/
def State.showWindow (s : State) (p e l : Nat) : State :=
  (((s.wr (Reg.ULC_PATHp_ENERGY_LO p) (BitVec.ofNat 32 e)).setFld (Fld.ULC_PATHp_ENERGY_HI_E p) (e / 2 ^ 32)).setFld (Fld.ULC_PATHp_RSSI_LEVEL p) l).countWrap
    (Fld.ULC_PATHp_RSSI_SEQ p) 1

theorem State.showWindow_shows (s : State) (p : Nat) {e l : Nat} (he : e < 2 ^ 48) (hl : l ≤ 511) :
    (s.showWindow p e l).rd (Reg.ULC_PATHp_ENERGY_LO p) = BitVec.ofNat 32 e ∧ (s.showWindow p e l).fld (Fld.ULC_PATHp_ENERGY_HI_E p) = e / 2 ^ 32 ∧
    (s.showWindow p e l).fld (Fld.ULC_PATHp_RSSI_LEVEL p) = l ∧
    (s.showWindow p e l).fld (Fld.ULC_PATHp_RSSI_SEQ p) = (s.fld (Fld.ULC_PATHp_RSSI_SEQ p) + 1) % 16 ∧
    (s.showWindow p e l).on (Fld.ULC_PATHp_RSSI_LOW p) = s.on (Fld.ULC_PATHp_RSSI_LOW p) ∧
    (s.showWindow p e l).on (Fld.ULC_PATHp_RSSI_HIGH p) = s.on (Fld.ULC_PATHp_RSSI_HIGH p) ∧
    s.beside (s.showWindow p e l) ∧
    s.regsBut (s.showWindow p e l) [Reg.ULC_PATHp_RSSI p, Reg.ULC_PATHp_ENERGY_LO p, Reg.ULC_PATHp_ENERGY_HI p] := by
  unfold State.showWindow State.countWrap
  refine ⟨?_, ?_, ?_, ?_, ?_, ?_, ⟨_, rfl⟩, ?_⟩
  · rw [State.rd_setFld_ne _ _ _ (by simp only [Reg.ULC_PATHp_RSSI, Reg.ULC_PATHp_ENERGY_LO]; omega),
      State.rd_setFld_ne _ _ _ (by simp only [Reg.ULC_PATHp_RSSI, Reg.ULC_PATHp_ENERGY_LO]; omega),
      State.rd_setFld_ne _ _ _ (by simp only [Reg.ULC_PATHp_ENERGY_HI, Reg.ULC_PATHp_ENERGY_LO]; omega)]
    exact State.rd_wr_same _ _ _
  · rw [State.fld_setFld_ne _ _ _ _ (by simp) (Or.inl (by simp only [Reg.ULC_PATHp_RSSI, Reg.ULC_PATHp_ENERGY_HI]; omega)),
      State.fld_setFld_ne _ _ _ _ (by simp) (Or.inl (by simp only [Reg.ULC_PATHp_RSSI, Reg.ULC_PATHp_ENERGY_HI]; omega))]
    exact State.fld_setFld_same _ _ _ (by simp) (by simp; omega)
  · rw [State.fld_setFld_ne _ _ _ _ (by simp) (by simp)]
    exact State.fld_setFld_same _ _ _ (by simp) (by simp; omega)
  · rw [State.fld_setFld_mod _ _ _ (by simp), State.fld_setFld_ne _ _ _ _ (by simp) (by simp),
      State.fld_setFld_ne _ _ _ _ (by simp) (Or.inl (by simp only [Reg.ULC_PATHp_RSSI, Reg.ULC_PATHp_ENERGY_HI]; omega)),
      State.fld_congr (State.rd_wr_ne _ _ (by simp only [Reg.ULC_PATHp_RSSI, Reg.ULC_PATHp_ENERGY_LO]; omega))]
    rfl
  · rw [State.on, State.fld_setFld_ne _ _ _ _ (by simp) (by simp), State.fld_setFld_ne _ _ _ _ (by simp) (by simp),
      State.fld_setFld_ne _ _ _ _ (by simp) (Or.inl (by simp only [Reg.ULC_PATHp_RSSI, Reg.ULC_PATHp_ENERGY_HI]; omega)),
      State.fld_congr (State.rd_wr_ne _ _ (by simp only [Reg.ULC_PATHp_RSSI, Reg.ULC_PATHp_ENERGY_LO]; omega)), State.on]
  · rw [State.on, State.fld_setFld_ne _ _ _ _ (by simp) (by simp), State.fld_setFld_ne _ _ _ _ (by simp) (by simp),
      State.fld_setFld_ne _ _ _ _ (by simp) (Or.inl (by simp only [Reg.ULC_PATHp_RSSI, Reg.ULC_PATHp_ENERGY_HI]; omega)),
      State.fld_congr (State.rd_wr_ne _ _ (by simp only [Reg.ULC_PATHp_RSSI, Reg.ULC_PATHp_ENERGY_LO]; omega)), State.on]
  · exact ((((State.regsBut.refl s _).wr _ (by simp)).setFld _ (by simp)).setFld _ (by simp)).setFld _ (by simp)

/-- What the decision of HIGH leaves. -/
theorem State.rssiStates_shows (p : Nat) {l : Nat} (hl : s.fld (Fld.ULC_PATHp_RSSI_LEVEL p) = l) (room : s.raiseRoom 1)
    (low : s.on (Fld.ULC_PATHp_RSSI_LOW p) = true) (stays : l + s.fld (Fld.ULC_PATHp_RSSI_THR_HYST p) ≥ s.fld (Fld.ULC_PATHp_RSSI_THR_LOWER p)) :
    (∀ f : Fld, f.addr ≠ Reg.ULC_PATHp_RSSI p ∨ f.hi < 9 ∨ 9 < f.lo → (s.rssiStates p).fld f = s.fld f) ∧
    (s.on (Fld.ULC_PATHp_RSSI_HIGH p) = false → l ≤ s.fld (Fld.ULC_PATHp_RSSI_THR_UPPER p) →
      (s.rssiStates p).on (Fld.ULC_PATHp_RSSI_HIGH p) = true ∧ (s.rssiStates p).raise = s.raise ++ [s.occurrence 0x6C (p + 65536 * l)]) ∧
    (s.on (Fld.ULC_PATHp_RSSI_HIGH p) = true → (s.rssiStates p).raise = s.raise ∧
      (s.rssiStates p).on (Fld.ULC_PATHp_RSSI_HIGH p) =
        decide (l ≤ s.fld (Fld.ULC_PATHp_RSSI_THR_UPPER p) + s.fld (Fld.ULC_PATHp_RSSI_THR_HYST p))) ∧
    s.reports (s.rssiStates p) ∧ s.regsBut (s.rssiStates p) [Reg.ULC_PATHp_RSSI p] := by
  rw [State.rssiStates_low p room low (by rw [hl]; exact stays), hl,
    State.event_raiseRoom (s := s.setFld (Fld.ULC_PATHp_RSSI_HIGH p) 1) (room.congr rfl rfl) (by decide)]
  split_ifs with on below le
  · refine ⟨fun f hf => State.fld_setFld_ne _ _ _ _ (by simp) hf, fun h => absurd (on.symm.trans h) (by decide), fun _ => ⟨rfl, ?_⟩, ⟨_, _, rfl⟩,
      (State.regsBut.refl s _).setFld _ (by simp)⟩
    rw [decide_eq_false (by omega), State.on_eq_false]
    exact State.fld_setFld_same _ _ _ (by simp) (by simp)
  · refine ⟨fun _ _ => rfl, fun h => absurd (on.symm.trans h) (by decide), fun _ => ⟨rfl, ?_⟩, ⟨_, _, rfl⟩, State.regsBut.refl s _⟩
    rw [decide_eq_true (by omega), on]
  · exact ⟨fun f hf => State.fld_setFld_ne s _ _ _ (by simp) hf, fun _ _ => ⟨State.on_setFld_one s _ (by simp) (by simp), rfl⟩, fun h => absurd h on,
      ⟨_, _, rfl⟩, ((State.regsBut.refl s _).setFld _ (by simp)).congr rfl⟩
  · exact ⟨fun _ _ => rfl, fun _ h => absurd h le, fun h => absurd h on, ⟨_, _, rfl⟩, State.regsBut.refl s _⟩

theorem windowCloses (p : Fin 64) (en : s.on (Fld.ULC_PATHp_RSSI_CFG_EN p.val) = true) (locked : s.time.everLocked = true) (lin : s.domOn pdLin = true)
    (w : Nat) (hw : w = s.fld (Fld.ULC_PATHp_RSSI_CFG_WIN_LOG2 p.val)) (ns : List Int) (hns : ns = s.rssiWindow p.val) (full : ns.length = 2 ^ w)
    (e : Nat) (he : e = (if s.rxSilent p.val then 0 else s.rssiEnergy p.val ns)) (l : Nat) (hl : l = dbCode e (2 ^ (26 + w)))
    (low : s.on (Fld.ULC_PATHp_RSSI_LOW p.val) = true)
    (stays : l + s.fld (Fld.ULC_PATHp_RSSI_THR_HYST p.val) ≥ s.fld (Fld.ULC_PATHp_RSSI_THR_LOWER p.val)) (room : s.raiseRoom 1) :
    ∃ t, exec (.rssiWindowClose p) s = .next t ∧ t.rd (Reg.ULC_PATHp_ENERGY_LO p.val) = BitVec.ofNat 32 e ∧
      t.fld (Fld.ULC_PATHp_ENERGY_HI_E p.val) = e / 2 ^ 32 ∧ t.fld (Fld.ULC_PATHp_RSSI_LEVEL p.val) = l ∧
      t.fld (Fld.ULC_PATHp_RSSI_SEQ p.val) = (s.fld (Fld.ULC_PATHp_RSSI_SEQ p.val) + 1) % 16 ∧
      t.on (Fld.ULC_PATHp_RSSI_LOW p.val) = true ∧ SMap.get 0 t.rssi p.val = ((ns.getLastD 0 + 1) / 8).toNat ∧
      (s.on (Fld.ULC_PATHp_RSSI_HIGH p.val) = false → l ≤ s.fld (Fld.ULC_PATHp_RSSI_THR_UPPER p.val) →
        t.on (Fld.ULC_PATHp_RSSI_HIGH p.val) = true ∧ t.raise = s.raise ++ [s.occurrence 0x6C (p.val + 65536 * l)]) ∧
      (s.on (Fld.ULC_PATHp_RSSI_HIGH p.val) = true → t.raise = s.raise ∧
        t.on (Fld.ULC_PATHp_RSSI_HIGH p.val) =
          decide (l ≤ s.fld (Fld.ULC_PATHp_RSSI_THR_UPPER p.val) + s.fld (Fld.ULC_PATHp_RSSI_THR_HYST p.val))) ∧
      t = { s with regs := t.regs, raise := t.raise, rssi := t.rssi } ∧
      s.regsBut t [Reg.ULC_PATHp_RSSI p.val, Reg.ULC_PATHp_ENERGY_LO p.val, Reg.ULC_PATHp_ENERGY_HI p.val] := by
  have run : exec (.rssiWindowClose p) s = .next { (s.showWindow p.val e l).rssiStates p.val with
      rssi := SMap.set 0 ((s.showWindow p.val e l).rssiStates p.val).rssi p.val (((ns.getLastD 0) + 1) / 8).toNat } := by
    show execRssiWindowClose p s = _
    unfold execRssiWindowClose
    dsimp only
    rw [← hns, ← hw, if_pos ⟨en, locked, lin, full⟩, ← he, ← hl]
    rfl
  have small : e < 2 ^ 48 := by
    rw [he, State.rssiEnergy]
    split_ifs
    · decide
    · exact Nat.mod_lt _ (by decide)
  obtain ⟨lo, hi, level, seq, lowV, highV, ⟨r, frame⟩, regs⟩ := s.showWindow_shows p.val small (hl.trans_le (dbCode_le _ _))
  have thr (f : Fld) (h : f.addr = Reg.ULC_PATHp_RSSI_THR p.val) : (s.showWindow p.val e l).fld f = s.fld f := regs.fld _ (by
    rw [h]
    simp only [Reg.ULC_PATHp_RSSI, Reg.ULC_PATHp_ENERGY_LO, Reg.ULC_PATHp_ENERGY_HI, Reg.ULC_PATHp_RSSI_THR, List.mem_cons, List.not_mem_nil, or_false,
      not_or]
    omega)
  generalize s.showWindow p.val e l = v at *
  have roomV : v.raiseRoom 1 := room.congr (by rw [frame]) (by rw [frame])
  obtain ⟨keeps, rises, falls, ⟨r', x, frame'⟩, regs'⟩ := State.rssiStates_shows p.val level roomV (lowV.trans low)
    (by rw [thr _ rfl, thr _ rfl]; exact stays)
  rw [highV, thr _ rfl] at rises
  rw [highV, thr _ rfl, thr _ rfl] at falls
  have raiseV : v.raise = s.raise := by rw [frame]
  have timeV : v.occurrence 0x6C (p.val + 65536 * l) = s.occurrence 0x6C (p.val + 65536 * l) := by rw [frame]; rfl
  rw [raiseV, timeV] at rises
  rw [raiseV] at falls
  have wordLo := regs' (Reg.ULC_PATHp_ENERGY_LO p.val) (by simp only [Reg.ULC_PATHp_RSSI, Reg.ULC_PATHp_ENERGY_LO, List.mem_singleton]; omega)
  generalize v.rssiStates p.val = u at *
  refine ⟨_, run, ?_, ?_, ?_, ?_, ?_, SMap.get_set_same _ _ _ _, rises, falls, ?_, ?_⟩
  · exact wordLo.trans lo
  · exact (keeps _ (Or.inl (by simp only [Reg.ULC_PATHp_RSSI, Reg.ULC_PATHp_ENERGY_HI]; omega))).trans hi
  · exact (keeps _ (by simp)).trans level
  · exact (keeps _ (by simp)).trans seq
  · have := keeps (Fld.ULC_PATHp_RSSI_LOW p.val) (by simp)
    exact (congrArg (fun x => decide (x ≠ 0)) this).trans (lowV.trans low)
  · rw [frame', frame]
  · intro b hb
    have far : b ∉ [Reg.ULC_PATHp_RSSI p.val] := fun h => hb (List.mem_cons.mpr (Or.inl (List.mem_singleton.mp h)))
    exact (regs' b far).trans (regs b hb)

/-- Settles O40: filter swaps, writes of RSSI_CFG, and the close of a window. -/
theorem filterBanksAndRssiWindows : Obligations.FilterBanksAndRssiWindows := by
  unfold Obligations.FilterBanksAndRssiWindows
  intro q w s
  refine ⟨fun c a ha h => ?_, fun c asked due => firBanksSwap c asked due, fun p a ha h => ?_, fun p en locked lin => windowCloses p en locked lin⟩
  · subst ha
    exact ⟨firSwap_overrun c w h, firSwap_taken c w h⟩
  · subst ha
    exact rssiCfgLoads p w h

end Sys2Proof.Machine

/-!
PROOFS. The fetch of a carrier symbol, of either direction, and what it consumes (shared by O41 and O42).
-/

namespace Sys2Proof.Machine

variable {s t u v : State} {as : List Nat} {a n m k c : Nat} {q : Requester} {d : Word} {up : Bool}

/-! ### Lists in order -/

theorem mem_insertBy {α : Type} (le : α → α → Bool) (x y : α) (l : List α) : y ∈ insertBy le x l ↔ y = x ∨ y ∈ l := by
  induction l with
  | nil => simp [insertBy]
  | cons z l ih =>
    rw [insertBy]
    split_ifs
    · rw [List.mem_cons, ih, List.mem_cons]
      tauto
    · rw [List.mem_cons]

theorem mem_sortBy {α : Type} (le : α → α → Bool) (y : α) (l : List α) : y ∈ sortBy le l ↔ y ∈ l := by
  have fold (acc : List α) : y ∈ l.foldl (fun acc x => insertBy le x acc) acc ↔ y ∈ acc ∨ y ∈ l := by
    induction l generalizing acc with
    | nil => simp
    | cons x l ih =>
      rw [List.foldl_cons, ih, mem_insertBy, List.mem_cons]
      tauto
  exact (fold []).trans (by simp)

/-- A section held for a symbol is one of that direction, carrier and air time. -/
theorem State.mem_heldFor {h : HeldSec} : h ∈ s.heldFor up c a ↔ h ∈ s.sect.held ∧ h.up = up ∧ h.carrier = c ∧ h.air = a := by
  rw [State.heldFor, mem_sortBy, List.mem_filter]
  simp [and_assoc]

/-! ### Symbols of one instant (R199, R233, R266) -/

/-- With nothing waiting on the carriers below, and a symbol that was not fetched before, that symbol alone is fetched. -/
theorem State.inOrder_alone {one : State → Nat → State} (hf : SMap.get 0 (s.carriers up).fetched c ≠ (s.fetchSymbol up c).2 + 1)
    (lower : ∀ j < c, (s.fetchSymbol up j).2 = (s.fetchSymbol up c).2 →
      s.heldFor up j (s.fetchSymbol up c).2 = [] ∧ (up = false → (s.queue j).pkts.any (fun p => p.air == (s.fetchSymbol up c).2) = false)) :
    s.inOrder up c one = (one s c).setFetched up c (s.fetchSymbol up c).2 := by
  have idle (l : List Nat) (hl : ∀ j ∈ l, j < c) : l.foldl (fun v j => v.iff
      ((((v.fetchSymbol up j).2 == (s.fetchSymbol up c).2) && SMap.get 0 (v.carriers up).fetched j != (s.fetchSymbol up c).2 + 1) &&
        (v.heldFor up j (s.fetchSymbol up c).2 != [] || (!up && (v.queue j).pkts.any (fun p => p.air == (s.fetchSymbol up c).2))))
      (fun v => (one v j).setFetched up j (s.fetchSymbol up c).2)) s = s := by
    induction l with
    | nil => rfl
    | cons j l ih =>
      have quiet : ((((s.fetchSymbol up j).2 == (s.fetchSymbol up c).2) && SMap.get 0 (s.carriers up).fetched j != (s.fetchSymbol up c).2 + 1) &&
          (s.heldFor up j (s.fetchSymbol up c).2 != [] || (!up && (s.queue j).pkts.any (fun p => p.air == (s.fetchSymbol up c).2)))) = false := by
        by_cases same : (s.fetchSymbol up j).2 = (s.fetchSymbol up c).2
        · obtain ⟨held, none⟩ := lower j (hl j List.mem_cons_self) same
          rw [held]
          cases up
          · rw [none rfl]
            simp
          · simp
        · rw [beq_eq_false_iff_ne.mpr same, Bool.false_and, Bool.false_and]
      rw [List.foldl_cons, State.iff, quiet, if_neg Bool.false_ne_true]
      exact ih fun i hi => hl i (List.mem_cons_of_mem _ hi)
  have fresh : ((s.fetchSymbol up c).2 == (s.fetchSymbol up c).2 && SMap.get 0 (s.carriers up).fetched c != (s.fetchSymbol up c).2 + 1) = true := by
    rw [beq_self_eq_true, Bool.true_and]
    exact bne_iff_ne.mpr hf
  unfold State.inOrder
  dsimp only
  rw [idle _ fun j hj => List.mem_range.mp hj, State.iff, fresh, if_pos rfl]

/-! ### What is read of a clean store -/

theorem State.readAll_clean (h : s.ecc = []) (req : Nat) (ps : List StoredPkt) : s.readAll req ps = (s, []) := by
  unfold State.readAll
  induction ps with
  | nil => rfl
  | cons p ps ih => rw [List.foldl_cons, State.readPacket_clean h]; exact ih

/-! ### Events raised stay raised (R405) -/

/-- What has been raised in `s` stands in `t`. -/
structure State.recalls (s t : State) : Prop where
  keeps : ∀ e ∈ s.raise, e ∈ t.raise

theorem State.recalls.of (h : t.raise = s.raise) : s.recalls t := ⟨fun _ he => h ▸ he⟩

theorem State.recalls.trans (h : s.recalls t) (h' : t.recalls u) : s.recalls u := ⟨fun e he => h'.keeps e (h.keeps e he)⟩

theorem State.event_recalls (s : State) (code info : Nat) : s.recalls (s.event code info) := by
  unfold State.event
  split_ifs
  · exact .of rfl
  · exact ⟨fun _ he => List.mem_append_left _ he⟩
  · exact .of rfl

theorem State.relevel_recalls (s : State) (n : Nat) : s.recalls (s.relevel n) := by
  unfold State.relevel
  dsimp only
  split_ifs
  · exact ⟨fun _ he => (State.event_recalls _ _ _).keeps _ he⟩
  · exact .of rfl

theorem State.consumeIf_recalls (s : State) (n : Nat) (p : StoredPkt → Bool) : s.recalls (s.consumeIf n p) := by
  unfold State.consumeIf
  dsimp only
  generalize hv : s.setQueue n _ = v
  obtain ⟨r, x, granted⟩ := (v.relevel n).grant_frame n (((s.queue n).pkts.filter p).map StoredPkt.credits).sum
  rw [granted]
  exact .trans (.of (by rw [← hv]; rfl)) (.trans (v.relevel_recalls n) (.of rfl))

/-! ### Consumption (R232, R265) -/

theorem State.consumeIf_queueRegs (s : State) (n : Nat) (p : StoredPkt → Bool) : s.regsBut (s.consumeIf n p) (queueRegs n) := fun b hb =>
  s.consumeIf_regsBut n p b fun mem => hb (by
    simp only [queueRegs, List.mem_cons, List.not_mem_nil, or_false] at mem ⊢
    tauto)

/-- The condition under which a section belongs to the symbol. -/
def ofSymbol (up : Bool) (c a : Nat) (h : HeldSec) : Bool := h.up == up && h.carrier == c && h.air == a

/-- What releasing the SECs of past symbols leaves, once the sections are gone. -/
theorem State.releaseSecs_shows (s : State) (c a : Nat) : (∃ r e x, s.releaseSecs c a = { s with regs := r, raise := e, queues := x }) ∧
    (∀ n, n ≠ 8 → (s.releaseSecs c a).queue n = s.queue n) ∧ s.regsBut (s.releaseSecs c a) (queueRegs 8) ∧ s.recalls (s.releaseSecs c a) :=
  ⟨s.consumeIf_frame 8 _, (s.consumeIf_pkts 8 _).2, s.consumeIf_queueRegs 8 _, s.consumeIf_recalls 8 _⟩

/-- What a symbol's consumption leaves. -/
structure State.consumes (s t : State) (up : Bool) (c a : Nat) : Prop where
  frame : ∃ r e x, t = { s with regs := r, raise := e, queues := x, sect := { s.sect with held := s.sect.held.filter (fun h => !ofSymbol up c a h) } }
  own : up = false → c ≠ 8 → (t.queue c).pkts = (s.queue c).pkts.filter (fun p => !(p.air == a))
  rest : ∀ n, (up = false → n ≠ c) → n ≠ 8 → t.queue n = s.queue n
  regs : s.regsBut t ((if up then [] else queueRegs c) ++ queueRegs 8)
  recalls : s.recalls t

theorem State.consumeSymbol_consumes (s : State) (up : Bool) (c a : Nat) : s.consumes (s.consumeSymbol up c a) up c a := by
  have drop : (fun h : HeldSec => h.up == up && h.carrier == c && h.air == a) = ofSymbol up c a := rfl
  unfold State.consumeSymbol
  rw [drop]
  cases up with
  | true =>
    obtain ⟨⟨r, e, x, frame⟩, rest, regs, recalls⟩ := (s.dropHeld (ofSymbol true c a)).releaseSecs_shows c a
    have same : ∀ n, (s.dropHeld (ofSymbol true c a)).queue n = s.queue n := fun _ => rfl
    exact ⟨⟨r, e, x, frame⟩, fun h => absurd h (by decide), fun n _ hn => (rest n hn).trans (same n), fun b hb => regs b (by simpa using hb),
      ⟨fun y hy => recalls.keeps y hy⟩⟩
  | false =>
    have frame1 := s.consumeIf_frame c (fun p => p.air == a)
    have pkts1 := s.consumeIf_pkts c (fun p => p.air == a)
    have regs1 := s.consumeIf_queueRegs c (fun p => p.air == a)
    have recalls1 := s.consumeIf_recalls c (fun p => p.air == a)
    simp only [Bool.false_eq_true, if_false]
    generalize s.consumeIf c (fun p => p.air == a) = v at *
    obtain ⟨⟨r, e, x, frame⟩, rest, regs, recalls⟩ := (v.dropHeld (ofSymbol false c a)).releaseSecs_shows c a
    have same : ∀ n, (v.dropHeld (ofSymbol false c a)).queue n = v.queue n := fun _ => rfl
    have word : ∀ b, (v.dropHeld (ofSymbol false c a)).rd b = v.rd b := fun _ => rfl
    have held : (v.dropHeld (ofSymbol false c a)).raise = v.raise := rfl
    obtain ⟨r1, e1, x1, frame1⟩ := frame1
    refine ⟨?_, fun _ hc => ?_, fun n hn h8 => ?_, fun b hb => ?_, recalls1.trans (.trans (.of held) recalls)⟩
    · rw [frame, State.dropHeld, frame1]
      exact ⟨_, _, _, rfl⟩
    · rw [rest c hc, same, pkts1.1]
    · rw [rest n h8, same, pkts1.2 n (hn rfl)]
    · simp only [Bool.false_eq_true, if_false, List.mem_append, not_or] at hb
      rw [regs b hb.2, word, regs1 b hb.1]

/-! ### The weights of a section (R212, R214, R231) -/

/-- The leads of the symbol's sections are noted (R210). -/
def State.withLeads (s : State) (hs : List HeldSec) : State := { s with rf := { s.rf with leads := s.rf.leads ++ hs.map s.leadOf } }

theorem State.readPart_clean (h : s.ecc = []) (p : StoredPkt) (lo hi req : Nat) : s.readPart p lo hi req = (s, true) := by
  unfold State.readPart
  generalize List.range _ = l
  induction l with
  | nil => rfl
  | cons i l ih =>
    rw [List.foldl_cons]
    dsimp only
    split
    · rw [State.checkWord_clean h]
      exact ih
    · exact ih

/-- Weights that can be had in `s` can be had once leads are noted. -/
theorem State.sectionWeights_withLeads (clean : s.ecc = []) (x : HeldSec) (req : Nat) (hs : List HeldSec) {ws : List (Int × Int)}
    (h : s.sectionWeights x req = (s, .ok ws)) : (s.withLeads hs).sectionWeights x req = (s.withLeads hs, .ok ws) := by
  have cleanL : (s.withLeads hs).ecc = [] := clean
  have place : (s.withLeads hs).dynamicPlace x.beam x.air = s.dynamicPlace x.beam x.air := rfl
  have record (p : StoredPkt) (i : Nat) : (s.withLeads hs).wgtRecord p i = s.wgtRecord p i := rfl
  have shadow : (s.withLeads hs).shadowFor x.beam x.air = s.shadowFor x.beam x.air := rfl
  have base : (s.withLeads hs).beamBase = s.beamBase := rfl
  have bytes (b n : Nat) : (s.withLeads hs).storeBytes b n = s.storeBytes b n := rfl
  unfold State.sectionWeights at h ⊢
  rw [place, shadow]
  split_ifs at h ⊢ with two one
  · exact Prod.ext rfl (congrArg Prod.snd h :)
  · cases e : s.dynamicPlace x.beam x.air with
    | some y =>
      rw [e] at h
      dsimp only at h ⊢
      rw [State.readPart_clean clean] at h
      rw [State.readPart_clean cleanL]
      exact Prod.ext rfl (congrArg Prod.snd h :)
    | none =>
      rw [e] at h
      exact absurd (congrArg Prod.snd h) (by simp)
  · cases e : s.shadowFor x.beam x.air with
    | some y =>
      rw [e] at h
      exact Prod.ext rfl (congrArg Prod.snd h :)
    | none =>
      rw [e] at h
      dsimp only at h ⊢
      rw [State.storeRead_clean clean] at h
      rw [State.storeRead_clean cleanL, base, bytes]
      exact Prod.ext rfl (congrArg Prod.snd h :)

end Sys2Proof.Machine

/-!
PROOFS. The fetch of a downlink symbol (O41).
-/

namespace Sys2Proof.Machine

variable {s t u v : State} {as : List Nat} {a n m k c : Nat} {q : Requester} {d : Word} {car : Carrier} {ads : List Admitted}

/-! ### The beamformer (R234) -/

/-- The output of stage 2 for path `p`. -/
def State.pathWords (s : State) (c a : Nat) (car : Carrier) (ads : List Admitted) (p : Nat) : List Word × Nat :=
  pathOut ads car.nprb ((s.dlGroups car a).getD (p / 8) false) (s.zeroBand c (p / 8) a) p

/-- The words of all paths. -/
def State.symbolWords (s : State) (c a : Nat) (car : Carrier) (ads : List Admitted) : List (List Word) :=
  (List.range 64).map (fun p => (s.pathWords c a car ads p).1)

/-- The saturations of stage 2 are counted, by path. -/
def State.countBeams (s : State) (c a : Nat) (car : Carrier) (ads : List Admitted) : State :=
  ((List.range 64).map (s.pathWords c a car ads)).zipIdx.foldl (fun s o => s.dlSat (Fld.DLC_PATHp_SATA_BEAM o.2) o.2 2 o.1.2) s

/-- The symbol's words go to stage 3. -/
def State.putSymbol (s : State) (c a : Nat) (car : Carrier) (ads : List Admitted) (on : List Bool) (ys : List (List Word)) : State :=
  { s with
    dlc := { s.dlc with out := SMap.set [] s.dlc.out c ys }
    smp := { s.smp with syms := txSymbol c a car ys ++ s.smp.syms }
    rf := { s.rf with txSpans := if ads = [] then s.rf.txSpans
      else s.rf.txSpans ++ [(a, symStop car.scs a, bitsToNat on)] } }

theorem zipIdx_map_fst {α β : Type} (l : List α) (f : α → β) : l.zipIdx.map (fun o => f o.1) = l.map f := by
  have fst : l.zipIdx.map Prod.fst = l := List.zipIdx_map_fst 0 l
  calc l.zipIdx.map (fun o => f o.1) = (l.zipIdx.map Prod.fst).map f := by rw [List.map_map]; rfl
    _ = l.map f := by rw [fst]

theorem State.beamform_eq (s : State) (c a : Nat) (car : Carrier) (ads : List Admitted) :
    s.beamform c a car ads [] = (s.countBeams c a car ads).putSymbol c a car ads (s.dlGroups car a) (s.symbolWords c a car ads) := by
  have paths : (List.range 64).map (fun p => pathOut ads car.nprb ((s.dlGroups car a).getD (p / 8) false)
      (((List.range 8).map (fun g => s.zeroBand c g a)).getD (p / 8) none) p) = (List.range 64).map (s.pathWords c a car ads) := by
    refine List.map_congr_left fun p hp => ?_
    have low : p / 8 < 8 := by
      have := List.mem_range.mp hp
      omega
    have band : ((List.range 8).map (fun g => s.zeroBand c g a)).getD (p / 8) none = s.zeroBand c (p / 8) a := by
      simp [low]
    rw [band, State.pathWords]
  unfold State.beamform
  dsimp only
  rw [paths]
  have all (o : (List Word × Nat) × Nat) : (if (!([] : List DlMarks).any (fun m => m.residue && m.path.val == o.2)) = true then o.1.1 else o.1.1.map (fun _ => 0)) = o.1.1 :=
    if_pos rfl
  simp only [all, zipIdx_map_fst, List.map_map]
  rfl

/-- What counting saturations leaves: registers, events and which were raised in the frame. -/
structure State.counts (s t : State) : Prop where
  frame : ∃ r e x, t = { s with regs := r, raise := e, seen := x }
  recalls : s.recalls t

theorem State.counts.refl (s : State) : s.counts s := ⟨⟨_, _, _, rfl⟩, .of rfl⟩

theorem State.counts.trans (h : s.counts t) (h' : t.counts u) : s.counts u := by
  refine ⟨?_, h.recalls.trans h'.recalls⟩
  obtain ⟨r, e, x, rfl⟩ := h.frame
  obtain ⟨r', e', x', rfl⟩ := h'.frame
  exact ⟨_, _, _, rfl⟩

theorem State.event_counts (s : State) (code info : Nat) : s.counts (s.event code info) := by
  refine ⟨?_, s.event_recalls code info⟩
  unfold State.event
  split_ifs <;> exact ⟨_, _, _, rfl⟩

theorem State.eventOnce_counts (s : State) (code source info : Nat) : s.counts (s.eventOnce code source info) := by
  unfold State.eventOnce
  dsimp only
  split_ifs
  · exact .refl s
  · exact State.counts.trans (t := { s with seen := SMap.set 0 s.seen (65536 * code + source) (frameOf s.air + 1) }) ⟨⟨_, _, _, rfl⟩, .of rfl⟩
      (State.event_counts _ _ _)

theorem State.dlSat_counts (s : State) (f : Fld) (p stage n : Nat) : s.counts (s.dlSat f p stage n) := by
  unfold State.dlSat
  split_ifs
  · exact .refl s
  · exact State.counts.trans (t := s.count f n) ⟨⟨_, _, _, rfl⟩, .of rfl⟩ (State.eventOnce_counts _ _ _ _)

theorem State.countBeams_counts (s : State) (c a : Nat) (car : Carrier) (ads : List Admitted) : s.counts (s.countBeams c a car ads) := by
  unfold State.countBeams
  generalize ((List.range 64).map (s.pathWords c a car ads)).zipIdx = l
  have fold (v : State) : v.counts (l.foldl (fun s o => s.dlSat (Fld.DLC_PATHp_SATA_BEAM o.2) o.2 2 o.1.2) v) := by
    induction l generalizing v with
    | nil => exact .refl v
    | cons o l ih => exact (v.dlSat_counts _ _ _ _).trans (ih _)
  exact fold s

/-- Without sections every path carries zero and nothing saturates. -/
theorem pathOut_none (nprb : Nat) (on : Bool) (band : Option (Nat × Nat)) (p : Nat) : pathOut [] nprb on band p = (List.replicate (12 * nprb) 0, 0) := by
  have none (k : Nat) : beamOut [] p k = (0, 0) := by rfl
  unfold pathOut
  simp only [none, ite_self, List.map_map]
  refine Prod.ext ?_ ?_
  · show (List.range (12 * nprb)).map (fun _ => (0 : Word)) = _
    rw [List.map_const', List.length_range]
  · show ((List.range (12 * nprb)).map (fun _ => 0)).sum = 0
    rw [List.map_const', List.sum_replicate, smul_zero]

theorem State.symbolWords_none (s : State) (c a : Nat) (car : Carrier) :
    s.symbolWords c a car [] = List.replicate 64 (List.replicate (12 * car.nprb) 0) := by
  unfold State.symbolWords State.pathWords
  simp only [pathOut_none]
  rw [List.map_const', List.length_range]

theorem State.countBeams_none (s : State) (c a : Nat) (car : Carrier) : s.countBeams c a car [] = s := by
  unfold State.countBeams
  have silent : ∀ o ∈ ((List.range 64).map (s.pathWords c a car [])).zipIdx, o.1.2 = 0 := fun o ho => by
    obtain ⟨p, -, e⟩ := List.mem_map.mp (List.fst_mem_of_mem_zipIdx ho)
    rw [← e, State.pathWords, pathOut_none]
  generalize ((List.range 64).map (s.pathWords c a car [])).zipIdx = l at *
  induction l with
  | nil => rfl
  | cons o l ih =>
    rw [List.foldl_cons, silent o List.mem_cons_self, State.dlSat, if_pos rfl]
    exact ih fun x hx => silent x (List.mem_cons_of_mem _ hx)

/-- A symbol of zeroes is not formed in the time domain. -/
theorem txSymbol_zero (c a : Nat) (car : Carrier) (n m : Nat) : txSymbol c a car (List.replicate n (List.replicate m 0)) = [] := by
  unfold txSymbol
  refine if_pos (List.all_eq_true.mpr fun y hy => ?_)
  rw [List.eq_of_mem_replicate hy]
  exact List.all_eq_true.mpr fun x hx => by rw [List.eq_of_mem_replicate hx]; rfl

/-- The output of stage 2 is kept. -/
def State.putOut (s : State) (c : Nat) (ys : List (List Word)) : State := { s with dlc := { s.dlc with out := SMap.set [] s.dlc.out c ys } }

/-- Without sections the symbol's words are zero, and nothing else happens. -/
theorem State.beamform_none (s : State) (c a : Nat) (car : Carrier) :
    s.beamform c a car [] [] = s.putOut c (List.replicate 64 (List.replicate (12 * car.nprb) 0)) := by
  rw [State.beamform_eq, State.countBeams_none, State.symbolWords_none, State.putSymbol, txSymbol_zero]
  rfl

/-! ### A fetch from a clean store -/

theorem fetchDl_clean (clean : s.ecc = []) (forced : s.forcedSlot (s.fetchSymbol false c).2 = 0) (light : s.light = false)
    {hs : List HeldSec} (hh : s.heldFor false c (s.fetchSymbol false c).2 = hs)
    {ps : List StoredPkt} (hp : (s.queue c).pkts.filter (fun p => p.air == (s.fetchSymbol false c).2) = ps) :
    s.fetchDl c [] =
      ((((s.withLeads hs).matchAll c hs ps []).1.admitAll ((s.withLeads hs).matchAll c hs ps []).2 (fun _ => false)
        (((s.withLeads hs).matchAll c hs ps []).1.corrections false (s.fetchSymbol false c).2)).1.beamform c (s.fetchSymbol false c).2 (s.fetchSymbol false c).1
        (((s.withLeads hs).matchAll c hs ps []).1.admitAll ((s.withLeads hs).matchAll c hs ps []).2 (fun _ => false)
          (((s.withLeads hs).matchAll c hs ps []).1.corrections false (s.fetchSymbol false c).2)).2 []).consumeSymbol false c (s.fetchSymbol false c).2 := by
  have cleanL : (s.withLeads hs).ecc = [] := clean
  have slot : (s.withLeads hs).forcedSlot (s.fetchSymbol false c).2 = 0 := forced
  have awake : (s.withLeads hs).light = false := light
  unfold State.fetchDl
  dsimp only
  rw [hh, hp]
  have named : ({ s with rf := { s.rf with leads := s.rf.leads ++ hs.map s.leadOf } } : State) = s.withLeads hs := rfl
  rw [named]
  generalize s.withLeads hs = v at *
  rw [slot, awake, if_neg (by decide), if_neg (by decide), State.readAll_clean cleanL]
  dsimp only
  rw [State.readAll_clean cleanL]
  rfl

/-- The fetch of a symbol that alone is due. -/
theorem exec_downlinkFetch (k : Fin 8) (hc : c = k.val) (runs : s.chainRuns = true) (cst : s.domOn pdCst = true)
    (hf : SMap.get 0 s.dlc.fetched c ≠ (s.fetchSymbol false c).2 + 1)
    (lower : ∀ j < c, (s.fetchSymbol false j).2 = (s.fetchSymbol false c).2 → s.heldFor false j (s.fetchSymbol false c).2 = [] ∧
      (s.queue j).pkts.any (fun p => p.air == (s.fetchSymbol false c).2) = false) :
    exec (.downlinkFetch k [] []) s = .next ((s.fetchDl c []).setFetched false c (s.fetchSymbol false c).2) := by
  show execDownlinkFetch k [] [] s = _
  unfold execDownlinkFetch
  have none : s.hits [] = s := rfl
  dsimp only
  rw [none, runs, cst, if_neg (by decide), ← hc,
    State.inOrder_alone (up := false) hf fun j hj he => ⟨(lower j hj he).1, fun _ => (lower j hj he).2⟩, ite_self]

/-- What the end of a fetch leaves of the state in which the symbol was formed. -/
structure State.fetches (w t : State) (c a : Nat) : Prop where
  frame : ∃ r e x, t = { w with
    regs := r, raise := e, queues := x, sect := { w.sect with held := w.sect.held.filter (fun h => !ofSymbol false c a h) }
    dlc := { w.dlc with fetched := SMap.set 0 w.dlc.fetched c (a + 1) } }
  own : (t.queue c).pkts = (w.queue c).pkts.filter (fun p => !(p.air == a))
  rest : ∀ n, n ≠ c → n ≠ 8 → t.queue n = w.queue n
  regs : w.regsBut t (queueRegs c ++ queueRegs 8)
  recalls : w.recalls t

theorem State.setFetched_down (s : State) (c a : Nat) :
    s.setFetched false c a = { s with dlc := { s.dlc with fetched := SMap.set 0 s.dlc.fetched c (a + 1) } } := rfl

theorem State.setFetched_queue (s : State) (c a n : Nat) : (s.setFetched false c a).queue n = s.queue n := rfl

theorem State.consumeSymbol_fetches (w : State) (hc : c < 8) (a : Nat) : w.fetches ((w.consumeSymbol false c a).setFetched false c a) c a := by
  obtain ⟨⟨r, e, x, frame⟩, own, rest, regs, recalls⟩ := w.consumeSymbol_consumes false c a
  generalize w.consumeSymbol false c a = v at *
  have queue := v.setFetched_queue c a
  have marked := v.setFetched_down c a
  generalize v.setFetched false c a = t at *
  refine ⟨?_, ?_, fun n hn h8 => ?_, fun b hb => ?_, ?_⟩
  · rw [marked, frame]
    exact ⟨_, _, _, rfl⟩
  · rw [queue, own rfl (by omega)]
  · rw [queue, rest n (fun _ => hn) h8]
  · rw [marked]
    exact regs b (by simpa using hb)
  · rw [marked]
    exact ⟨fun y hy => recalls.keeps y hy⟩

/-! ### A symbol without sections, and one whose section is incomplete (R229, R230) -/

theorem State.withLeads_nil (s : State) : s.withLeads [] = s := by
  rw [State.withLeads, List.map_nil, List.append_nil]

/-- No section is held for a symbol: nothing of it is dropped. -/
theorem State.held_none (h : s.heldFor false c a = []) : s.sect.held.filter (fun x => !ofSymbol false c a x) = s.sect.held := by
  refine List.filter_eq_self.mpr fun x hx => ?_
  have out : x ∉ s.heldFor false c a := by rw [h]; exact List.not_mem_nil
  rw [State.mem_heldFor] at out
  simp only [ofSymbol, Bool.not_eq_true', Bool.and_eq_false_iff, beq_eq_false_iff_ne]
  tauto

theorem fetch_nothing (k : Fin 8) (hc : c = k.val) (hcar : car = (s.fetchSymbol false c).1) (ha : a = (s.fetchSymbol false c).2)
    (runs : s.chainRuns = true) (cst : s.domOn pdCst = true) (forced : s.forcedSlot a = 0) (light : s.light = false) (clean : s.ecc = [])
    (hf : SMap.get 0 s.dlc.fetched c ≠ a + 1)
    (lower : ∀ j < c, (s.fetchSymbol false j).2 = a → s.heldFor false j a = [] ∧ (s.queue j).pkts.any (fun p => p.air == a) = false)
    (held : s.heldFor false c a = []) (waiting : (s.queue c).pkts.filter (fun p => p.air == a) = []) :
    ∃ t, exec (.downlinkFetch k [] []) s = .next t ∧
      SMap.get [] t.dlc.out c = List.replicate 64 (List.replicate (12 * car.nprb) 0) ∧ (t.queue c).pkts = (s.queue c).pkts ∧
      t.sect.held = s.sect.held ∧ (∀ n, n ≠ c → n ≠ 8 → t.queue n = s.queue n) ∧
      SMap.get 0 t.dlc.fetched c = a + 1 ∧ t.dlc = { s.dlc with out := t.dlc.out, fetched := t.dlc.fetched } ∧
      t = { s with regs := t.regs, raise := t.raise, queues := t.queues, dlc := t.dlc } ∧ s.regsBut t (queueRegs c ++ queueRegs 8) := by
  subst ha
  have run := exec_downlinkFetch k hc runs cst hf lower
  have formed : s.fetchDl c [] = (s.beamform c (s.fetchSymbol false c).2 car [] []).consumeSymbol false c (s.fetchSymbol false c).2 := by
    rw [fetchDl_clean clean forced light held waiting, State.withLeads_nil, hcar]
    rfl
  rw [formed, State.beamform_none] at run
  have stays := State.held_none held
  generalize (s.fetchSymbol false c).2 = a at *
  generalize (List.replicate 64 (List.replicate (12 * car.nprb) 0) : List (List Word)) = ys at *
  have ends := (s.putOut c ys).consumeSymbol_fetches (c := c) (by omega) a
  have out : SMap.get [] (s.putOut c ys).dlc.out c = ys := SMap.get_set_same _ _ _ _
  obtain ⟨o, put⟩ : ∃ o, s.putOut c ys = { s with dlc := { s.dlc with out := o } } := ⟨_, rfl⟩
  generalize s.putOut c ys = w at *
  generalize (w.consumeSymbol false c a).setFetched false c a = t at *
  obtain ⟨⟨r, e, x, frame⟩, own, rest, regs, -⟩ := ends
  have same : w.sect = s.sect ∧ (∀ n, w.queue n = s.queue n) ∧ ∀ b, w.rd b = s.rd b := by
    rw [put]
    exact ⟨rfl, fun _ => rfl, fun _ => rfl⟩
  have sect : t.sect = s.sect := by
    have dropped : t.sect = { w.sect with held := w.sect.held.filter (fun h => !ofSymbol false c a h) } := by rw [frame]
    rw [dropped, same.1, stays]
  refine ⟨t, run, ?_, ?_, by rw [sect], fun n hn h8 => (rest n hn h8).trans (same.2.1 n), ?_, ?_, ?_, fun b hb => (regs b hb).trans (same.2.2 b)⟩
  · rw [frame]
    exact out
  · rw [own, same.2.1]
    refine List.filter_eq_self.mpr fun p hp => ?_
    have out := List.filter_eq_nil_iff.mp waiting p hp
    simpa using out
  · rw [frame]
    exact SMap.get_set_same 0 w.dlc.fetched c (a + 1)
  · rw [frame, put]
  · have whole : t = { s with regs := t.regs, raise := t.raise, queues := t.queues, sect := t.sect, dlc := t.dlc } := by rw [frame, put]
    rw [sect] at whole
    exact whole

/-- The single section of a symbol without packets is dropped as incomplete. -/
theorem formed_incomplete {h : HeldSec} (some : 0 < h.count) (hs : List HeldSec) (corr : List (Int × Int)) :
    ((s.withLeads hs).matchAll c [h] [] []).1.admitAll ((s.withLeads hs).matchAll c [h] [] []).2 (fun _ => false) corr =
      ((s.withLeads hs).dropSection false 1 h, []) := by
  have matched : (s.withLeads hs).matchAll c [h] [] [] = (s.withLeads hs, [⟨h, [], false⟩]) := rfl
  have missing : (⟨h, [], false⟩ : Gather).complete = false := beq_eq_false_iff_ne.mpr (Nat.ne_of_lt some)
  rw [matched]
  show (((s.withLeads hs).admitDl ⟨h, [], false⟩ false corr).1, [] ++ ((s.withLeads hs).admitDl ⟨h, [], false⟩ false corr).2.toList) = _
  rw [State.admitDl, missing]
  rfl

theorem fetch_incomplete (k : Fin 8) (hc : c = k.val) (hcar : car = (s.fetchSymbol false c).1) (ha : a = (s.fetchSymbol false c).2)
    (runs : s.chainRuns = true) (cst : s.domOn pdCst = true) (forced : s.forcedSlot a = 0) (light : s.light = false) (clean : s.ecc = [])
    (hf : SMap.get 0 s.dlc.fetched c ≠ a + 1)
    (lower : ∀ j < c, (s.fetchSymbol false j).2 = a → s.heldFor false j a = [] ∧ (s.queue j).pkts.any (fun p => p.air == a) = false)
    (h : HeldSec) (held : s.heldFor false c a = [h]) (waiting : (s.queue c).pkts.filter (fun p => p.air == a) = []) (some : 0 < h.count)
    (room : s.raiseRoom 1) :
    ∃ t, exec (.downlinkFetch k [] []) s = .next t ∧
      t.fld Fld.ATM_SECT_DROP_LATE = min 65535 (s.fld Fld.ATM_SECT_DROP_LATE + 1) ∧
      s.occurrence 0x60 (1 + 16 * h.carrier + 65536 * h.id) ∈ t.raise ∧ h ∉ t.sect.held ∧
      SMap.get [] t.dlc.out c = List.replicate 64 (List.replicate (12 * car.nprb) 0) ∧ t.store = s.store := by
  subst ha
  have run := exec_downlinkFetch k hc runs cst hf lower
  have formed : s.fetchDl c [] = (((s.withLeads [h]).dropSection false 1 h).beamform c (s.fetchSymbol false c).2 car [] []).consumeSymbol false c
      (s.fetchSymbol false c).2 := by
    rw [fetchDl_clean clean forced light held waiting, formed_incomplete some, hcar]
  rw [formed, State.beamform_none] at run
  have mine : ofSymbol false c (s.fetchSymbol false c).2 h = true := by
    obtain ⟨-, up, carrier, air⟩ := State.mem_heldFor.mp (held ▸ List.mem_singleton_self h : h ∈ s.heldFor false c (s.fetchSymbol false c).2)
    simp [ofSymbol, up, carrier, air]
  generalize (s.fetchSymbol false c).2 = a at *
  have led : ∃ x, s.withLeads [h] = { s with rf := x } := ⟨_, rfl⟩
  generalize s.withLeads [h] = l at *
  obtain ⟨x, led⟩ := led
  have dropped : l.dropSection false 1 h = (l.count Fld.ATM_SECT_DROP_LATE 1).event 0x60 (1 + 16 * h.carrier + 65536 * h.id) := rfl
  have late : (l.count Fld.ATM_SECT_DROP_LATE 1).fld Fld.ATM_SECT_DROP_LATE = min 65535 (s.fld Fld.ATM_SECT_DROP_LATE + 1) := by
    rw [State.fld_count_same _ _ _ (by decide), led]
    rfl
  have counted : ∃ r, l.count Fld.ATM_SECT_DROP_LATE 1 = { s with rf := x, regs := r } := ⟨_, by rw [led]; rfl⟩
  generalize l.count Fld.ATM_SECT_DROP_LATE 1 = v at *
  obtain ⟨r, counted⟩ := counted
  rw [State.event_raiseRoom (s := v) (room.congr (by rw [counted]) (by rw [counted])) (by decide)] at dropped
  rw [dropped] at run
  have raised : s.occurrence 0x60 (1 + 16 * h.carrier + 65536 * h.id) ∈ v.raise ++ [v.occurrence 0x60 (1 + 16 * h.carrier + 65536 * h.id)] := by
    rw [counted]
    exact List.mem_append_right _ (List.mem_singleton_self _)
  have store : v.store = s.store := by rw [counted]
  generalize v.raise ++ [v.occurrence 0x60 (1 + 16 * h.carrier + 65536 * h.id)] = e at *
  have event : ∀ f, State.fld { v with raise := e } f = v.fld f := fun _ => rfl
  have log : State.raise { v with raise := e } = e := rfl
  have bytes : State.store { v with raise := e } = v.store := rfl
  generalize ({ v with raise := e } : State) = w at *
  generalize (List.replicate 64 (List.replicate (12 * car.nprb) 0) : List (List Word)) = ys at *
  have out : SMap.get [] (w.putOut c ys).dlc.out c = ys := SMap.get_set_same _ _ _ _
  have ends := (w.putOut c ys).consumeSymbol_fetches (c := c) (by omega) a
  have put : ∀ f, (w.putOut c ys).fld f = w.fld f := fun _ => rfl
  have putLog : (w.putOut c ys).raise = w.raise := rfl
  have putBytes : (w.putOut c ys).store = w.store := rfl
  generalize w.putOut c ys = y at *
  generalize (y.consumeSymbol false c a).setFetched false c a = t at *
  obtain ⟨⟨r', e', x', frame⟩, -, -, regs, recalls⟩ := ends
  refine ⟨t, run, ?_, recalls.keeps _ (by rw [putLog, log]; exact raised), ?_, ?_, ?_⟩
  · rw [regs.fld _ (by simp only [queueRegs, List.mem_append, List.mem_cons, List.not_mem_nil, or_false, Reg.QUE_LEVELn, Reg.QUE_WMn, Reg.QUE_COUNTn,
      Reg.QUE_GRANTn, Reg.EVT_DROP, Reg.ATM_SECT_DROP]; omega), put, event, late]
  · rw [frame]
    intro mem
    have := (List.mem_filter.mp mem).2
    rw [mine] at this
    cases this
  · rw [frame]
    exact out
  · rw [frame]
    exact putBytes.trans (bytes.trans store)

/-! ### A symbol with one complete section (R229 to R234) -/

/-- Units admitted by interval, those that have ended dropped, `n` more in the interval of `air`. -/
def charged (load : SMap Nat) (air n : Nat) : SMap Nat :=
  SMap.set 0 (load.filter (fun x => decide (air / 61440 ≤ x.1 + 1))) (air / 61440) (SMap.get 0 load (air / 61440) + n)

/-- The units admitted on the downlink. -/
def State.withLoad (s : State) (x : SMap Nat) : State := { s with dlc := { s.dlc with load := x } }

/-- Units are taken of an interval's budget. -/
def State.chargeUnits (s : State) (air n : Nat) : State :=
  (s.withLoad (charged s.dlc.load air n)).setFld Fld.DLC_LOAD_PEAK (max (s.fld Fld.DLC_LOAD_PEAK) (SMap.get 0 s.dlc.load (air / 61440) + n))

theorem State.takeUnits_fits {air : Nat} (h : SMap.get 0 s.dlc.load (air / 61440) + n ≤ unitBudget) :
    s.takeUnits false air n = (s.chargeUnits air n, true) := by
  have load : (s.carriers false).load = s.dlc.load := rfl
  unfold State.takeUnits
  dsimp only
  rw [load, if_neg (Nat.not_lt.mpr h)]
  rfl

/-- What charging units leaves. -/
theorem State.chargeUnits_shows (s : State) (air n : Nat) :
    SMap.get 0 (s.chargeUnits air n).dlc.load (air / 61440) = SMap.get 0 s.dlc.load (air / 61440) + n ∧
    (∃ r x, s.chargeUnits air n = { s with regs := r, dlc := { s.dlc with load := x } }) ∧ s.regsBut (s.chargeUnits air n) [Reg.DLC_LOAD] := by
  unfold State.chargeUnits
  refine ⟨?_, ⟨_, _, rfl⟩, ?_⟩
  · show SMap.get 0 (charged s.dlc.load air n) (air / 61440) = _
    exact SMap.get_set_same _ _ _ _
  · exact ((State.regsBut.refl s _).congr rfl).setFld _ (by simp)

/-- The Timetable that is in force at `a` tells the same directions where the state does. -/
theorem State.sameDirections.ttAt (h : s.sameDirections t) (air : t.air = s.air) (a : Nat) : (s.ttAt a).sameDirections (t.ttAt a) := by
  have field (f : Fld) (hf : f.addr = Reg.ATM_TT_CTRL) : t.fld f = s.fld f := State.fld_congr (h.regs _ (Or.inl (by rw [hf]; decide)))
  have on (f : Fld) (hf : f.addr = Reg.ATM_TT_CTRL) : t.on f = s.on f := congrArg (fun x => decide (x ≠ 0)) (field f hf)
  have instant : t.swapInstant = s.swapInstant := by
    simp only [State.swapInstant, h.period, h.scs, air]
  unfold State.ttAt
  rw [on _ rfl, instant, field _ rfl, field _ rfl, field _ rfl]
  split_ifs
  · refine ⟨h.domains, h.pwr, h.slots, h.lop1, rfl, rfl, h.plan, h.demoted, fun b hb => ?_⟩
    show (t.setFld Fld.ATM_TT_CTRL_BANK (1 - s.fld Fld.ATM_TT_CTRL_BANK)).rd b = (s.setFld Fld.ATM_TT_CTRL_BANK (1 - s.fld Fld.ATM_TT_CTRL_BANK)).rd b
    rcases eq_or_ne b Reg.ATM_TT_CTRL with rfl | hne
    · rw [State.setFld, State.rd_wr_same, State.setFld, State.rd_wr_same, h.regs _ hb]
    · rw [State.rd_setFld_ne _ _ _ hne, State.rd_setFld_ne _ _ _ hne, h.regs _ hb]
  · exact h

theorem State.sameDirections.rowDir (h : s.sameDirections t) (g a : Nat) : t.rowDir g a = s.rowDir g a := by
  have symbol : t.gridSymbol a = s.gridSymbol a := by rw [State.gridSymbol, h.period, h.scs, State.gridSymbol]
  have row : t.rowAt g a = s.rowAt g a := by
    rw [State.rowAt, symbol, funext (h.rowFor g), State.rowAt]
  rw [State.rowDir, row, State.rowDir]

/-- Words of stage 2 are the same in states that tell the same directions and plans. -/
theorem State.sameDirections.pathWords (h : s.sameDirections t) (air : t.air = s.air) (sfd : t.sfd = s.sfd) (c a : Nat) (car : Carrier)
    (ads : List Admitted) (p : Nat) : t.pathWords c a car ads p = s.pathWords c a car ads p := by
  have tt := h.ttAt air a
  have groups : t.dlGroups car a = s.dlGroups car a := by
    unfold State.dlGroups
    exact List.map_congr_left fun g _ => by rw [tt.actsAs]
  have band : t.zeroBand c (p / 8) a = s.zeroBand c (p / 8) a := by
    have plan : t.planAt a = s.planAt a := by rw [State.planAt, sfd, State.planAt]
    simp only [State.zeroBand, plan, tt.rowDir]
  rw [State.pathWords, groups, band, State.pathWords]

/-- The corrections do not depend on the leads noted. -/
theorem State.withLeads_corrections (s : State) (hs : List HeldSec) (a : Nat) : (s.withLeads hs).corrections false a = s.corrections false a := by
  have point (g : Nat) : (s.withLeads hs).pointFor g a = s.pointFor g a := rfl
  have tx (pt : Option Nat) (p : Nat) : (s.withLeads hs).txCorr pt p a = s.txCorr pt p a := rfl
  simp only [State.corrections, point, tx, Bool.false_eq_true, if_false]

/-- One packet serves the one section that it names. -/
theorem State.matchAll_one (s : State) {h : HeldSec} {p : StoredPkt} (sub : pktSub (s.pktNow p) = h.id) (good : dldReason ⟨h, [], false⟩ (s.pktNow p) = 0) :
    s.matchAll c [h] [p] [] = (s, [⟨h, dldBlocks h.mant (s.pktNow p), false⟩]) := by
  show s.matchDld c [⟨h, [], false⟩] (s.pktNow p) false = _
  rw [State.matchDld]
  simp [sub, good]

/-- The single section of a symbol is admitted with its packet's blocks. -/
theorem formed_complete {h : HeldSec} {p : StoredPkt} {ws : List (Int × Int)} (clean : s.ecc = []) (hs : List HeldSec) (sub : pktSub (s.pktNow p) = h.id)
    (good : dldReason ⟨h, [], false⟩ (s.pktNow p) = 0) (all : (dldBlocks h.mant (s.pktNow p)).length = h.count)
    (weights : s.sectionWeights h reqDownlink = (s, .ok ws)) (fits : SMap.get 0 s.dlc.load (h.air / 61440) + 12 * h.count ≤ unitBudget)
    (corr : List (Int × Int)) :
    ((s.withLeads hs).matchAll c [h] [p] []).1.admitAll ((s.withLeads hs).matchAll c [h] [p] []).2 (fun _ => false) corr =
      ((s.withLeads hs).chargeUnits h.air (12 * h.count),
        [⟨h, (dldBlocks h.mant (s.pktNow p)).map (fun x => (x.1, decompress h.mant x.2)), effWeights h.gain corr ws⟩]) := by
  have weightsL := State.sectionWeights_withLeads clean h reqDownlink hs weights
  have now : (s.withLeads hs).pktNow p = s.pktNow p := rfl
  have fitsL : SMap.get 0 (s.withLeads hs).dlc.load (h.air / 61440) + 12 * h.count ≤ unitBudget := fits
  generalize s.withLeads hs = l at *
  have matched : l.matchAll c [h] [p] [] = (l, [⟨h, dldBlocks h.mant (s.pktNow p), false⟩]) := by
    rw [l.matchAll_one (by rw [now]; exact sub) (by rw [now]; exact good), now]
  have whole : (⟨h, dldBlocks h.mant (s.pktNow p), false⟩ : Gather).complete = true := beq_iff_eq.mpr all
  rw [matched]
  show ((l.admitDl ⟨h, dldBlocks h.mant (s.pktNow p), false⟩ false corr).1,
    [] ++ (l.admitDl ⟨h, dldBlocks h.mant (s.pktNow p), false⟩ false corr).2.toList) = _
  rw [State.admitDl, whole]
  simp [weightsL, State.takeUnits_fits fitsL]

/-- What the forming of a symbol leaves of the state that admitted its sections. -/
structure State.forms (s t : State) (c a : Nat) (car : Carrier) (ys : List (List Word)) : Prop where
  frame : ∃ r e x y, t = { s with
    regs := r, raise := e, seen := x, rf := y, dlc := { s.dlc with out := SMap.set [] s.dlc.out c ys }
    smp := { s.smp with syms := txSymbol c a car ys ++ s.smp.syms } }

theorem State.beamform_forms (s : State) (c a : Nat) (car : Carrier) (ads : List Admitted) :
    s.forms (s.beamform c a car ads []) c a car (s.symbolWords c a car ads) := by
  rw [State.beamform_eq]
  obtain ⟨r, e, x, frame⟩ := (s.countBeams_counts c a car ads).frame
  generalize s.symbolWords c a car ads = ys
  generalize s.dlGroups car a = on
  generalize s.countBeams c a car ads = v at *
  rw [State.putSymbol, frame]
  exact ⟨_, _, _, _, rfl⟩

/-- What a state holds in which a symbol of `s` has been formed with its section admitted. -/
structure State.holdsSymbol (s t : State) (c a : Nat) (car : Carrier) (ys : List (List Word)) (load : SMap Nat) : Prop where
  frame : ∃ r e x y, t = { s with
    regs := r, raise := e, seen := x, rf := y, dlc := { s.dlc with load := load, out := SMap.set [] s.dlc.out c ys }
    smp := { s.smp with syms := txSymbol c a car ys ++ s.smp.syms } }

/-- The end of the fetch of such a symbol. -/
theorem State.holdsSymbol.ends {w : State} {ys : List (List Word)} {load : SMap Nat} (h : s.holdsSymbol w c a car ys load) (hc : c < 8)
    (ht : t = (w.consumeSymbol false c a).setFetched false c a) : SMap.get [] t.dlc.out c = ys ∧
      t.smp = { s.smp with syms := txSymbol c a car ys ++ s.smp.syms } ∧ t.dlc.load = load ∧
      (t.queue c).pkts = (s.queue c).pkts.filter (fun p => p.air != a) ∧
      t.sect.held = s.sect.held.filter (fun x => !(x.up == false && x.carrier == c && x.air == a)) ∧
      (∀ n, n ≠ c → n ≠ 8 → t.queue n = s.queue n) ∧
      t = { s with regs := t.regs, raise := t.raise, queues := t.queues, sect := t.sect, dlc := t.dlc, rf := t.rf, seen := t.seen, smp := t.smp } := by
  have ends := w.consumeSymbol_fetches hc a
  rw [← ht] at ends
  obtain ⟨r, e, x, y, formed⟩ := h.frame
  obtain ⟨⟨r', e', x', frame⟩, own, rest, -, -⟩ := ends
  have queue (n : Nat) : w.queue n = s.queue n := by rw [formed]; rfl
  have dlc : w.dlc = { s.dlc with load := load, out := SMap.set [] s.dlc.out c ys } := by rw [formed]
  have smp : w.smp = { s.smp with syms := txSymbol c a car ys ++ s.smp.syms } := by rw [formed]
  have sect : w.sect = s.sect := by rw [formed]
  have all : w = { s with regs := w.regs, raise := w.raise, seen := w.seen, rf := w.rf, dlc := w.dlc, smp := w.smp } := by rw [formed]
  have dlcT : t.dlc = { w.dlc with fetched := SMap.set 0 w.dlc.fetched c (a + 1) } := by rw [frame]
  have smpT : t.smp = w.smp := by rw [frame]
  have sectT : t.sect.held = w.sect.held.filter (fun h => !ofSymbol false c a h) := by rw [frame]
  have allT : t = { w with regs := t.regs, raise := t.raise, queues := t.queues, sect := t.sect, dlc := t.dlc } := by rw [frame]
  clear frame formed
  refine ⟨?_, smpT.trans smp, ?_, ?_, ?_, fun n hn h8 => (rest n hn h8).trans (queue n), ?_⟩
  · rw [dlcT, dlc]
    exact SMap.get_set_same [] s.dlc.out c ys
  · rw [dlcT, dlc]
  · rw [own, queue]
    rfl
  · rw [sectT, sect]
    rfl
  · rw [smpT]
    rw [allT, all]

theorem fetch_complete (k : Fin 8) (hc : c = k.val) (hcar : car = (s.fetchSymbol false c).1) (ha : a = (s.fetchSymbol false c).2)
    (runs : s.chainRuns = true) (cst : s.domOn pdCst = true) (forced : s.forcedSlot a = 0) (light : s.light = false) (clean : s.ecc = [])
    (hf : SMap.get 0 s.dlc.fetched c ≠ a + 1)
    (lower : ∀ j < c, (s.fetchSymbol false j).2 = a → s.heldFor false j a = [] ∧ (s.queue j).pkts.any (fun p => p.air == a) = false)
    (h : HeldSec) (p : StoredPkt) (ws : List (Int × Int)) (held : s.heldFor false c a = [h])
    (waiting : (s.queue c).pkts.filter (fun p => p.air == a) = [p]) (d : List Byte) (hd : d = s.pktNow p) (sub : pktSub d = h.id)
    (good : dldReason ⟨h, [], false⟩ d = 0) (all : (dldBlocks h.mant d).length = h.count) (weights : s.sectionWeights h reqDownlink = (s, .ok ws))
    (fits : SMap.get 0 s.dlc.load (h.air / 61440) + 12 * h.count ≤ unitBudget)
    (ad : Admitted) (had : ad = ⟨h, (dldBlocks h.mant d).map (fun x => (x.1, decompress h.mant x.2)), effWeights h.gain (s.corrections false a) ws⟩)
    (ys : List (List Word)) (hys : ys = s.symbolWords c a car [ad]) :
    ∃ t, exec (.downlinkFetch k [] []) s = .next t ∧ SMap.get [] t.dlc.out c = ys ∧
      t.smp = { s.smp with syms := txSymbol c a car ys ++ s.smp.syms } ∧
      SMap.get 0 t.dlc.load (h.air / 61440) = SMap.get 0 s.dlc.load (h.air / 61440) + 12 * h.count ∧
      (t.queue c).pkts = (s.queue c).pkts.filter (fun p => p.air != a) ∧
      t.sect.held = s.sect.held.filter (fun x => !(x.up == false && x.carrier == c && x.air == a)) ∧
      (∀ n, n ≠ c → n ≠ 8 → t.queue n = s.queue n) ∧
      t = { s with regs := t.regs, raise := t.raise, queues := t.queues, sect := t.sect, dlc := t.dlc, rf := t.rf, seen := t.seen, smp := t.smp } := by
  subst ha hd
  have run := exec_downlinkFetch k hc runs cst hf lower
  have corr : ((s.withLeads [h]).matchAll c [h] [p] []).1.corrections false (s.fetchSymbol false c).2 = s.corrections false (s.fetchSymbol false c).2 := by
    have now : (s.withLeads [h]).pktNow p = s.pktNow p := rfl
    rw [State.matchAll_one _ (by rw [now]; exact sub) (by rw [now]; exact good)]
    exact s.withLeads_corrections [h] _
  have formed : s.fetchDl c [] = (((s.withLeads [h]).chargeUnits h.air (12 * h.count)).beamform c (s.fetchSymbol false c).2 car [ad] []).consumeSymbol false c
      (s.fetchSymbol false c).2 := by
    rw [fetchDl_clean clean forced light held waiting, corr, formed_complete clean [h] sub good all weights fits, hcar, had]
  rw [formed] at run
  generalize (s.fetchSymbol false c).2 = a at *
  have led : s.sameDirections (s.withLeads [h]) ∧ (s.withLeads [h]).air = s.air ∧ (s.withLeads [h]).sfd = s.sfd ∧ (s.withLeads [h]).dlc = s.dlc ∧
      ∃ x, s.withLeads [h] = { s with rf := x } := ⟨⟨rfl, rfl, rfl, rfl, rfl, rfl, rfl, rfl, fun _ _ => rfl⟩, rfl, rfl, rfl, _, rfl⟩
  generalize s.withLeads [h] = l at *
  obtain ⟨ledSame, ledAir, ledSfd, ledDlc, x, ledFrame⟩ := led
  obtain ⟨load, ⟨r, y, chargedFrame⟩, chargedRegs⟩ := l.chargeUnits_shows h.air (12 * h.count)
  rw [ledDlc] at load
  generalize l.chargeUnits h.air (12 * h.count) = u at *
  have same : l.sameDirections u := by
    refine ⟨by rw [chargedFrame], by rw [chargedFrame], by rw [chargedFrame], by rw [chargedFrame], by rw [chargedFrame], by rw [chargedFrame],
      by rw [chargedFrame], by rw [chargedFrame], fun b hb => chargedRegs b ?_⟩
    simp only [rowReg] at hb
    simp only [List.mem_singleton, Reg.DLC_LOAD]
    omega
  have words : u.symbolWords c a car [ad] = ys := by
    rw [hys, State.symbolWords, State.symbolWords]
    exact List.map_congr_left fun p _ => by
      rw [(ledSame.trans same).pathWords (by rw [chargedFrame]; exact ledAir) (by rw [chargedFrame]; exact ledSfd)]
  have admitted : u = { s with regs := r, rf := x, dlc := { s.dlc with load := y } } := by rw [chargedFrame, ledFrame]
  have loadU : u.dlc.load = y := by rw [admitted]
  clear chargedFrame ledFrame ledSame ledAir ledSfd ledDlc same chargedRegs
  have forms := u.beamform_forms c a car [ad]
  rw [words] at forms
  generalize u.beamform c a car [ad] [] = w at *
  have holds : s.holdsSymbol w c a car ys y := by
    obtain ⟨r', e', z, y', formsFrame⟩ := forms.frame
    rw [formsFrame, admitted]
    exact ⟨_, _, _, _, rfl⟩
  obtain ⟨out, smp, loadT, own, sect, rest, frame⟩ := holds.ends (by omega) rfl
  exact ⟨_, run, out, smp, by rw [loadT, ← loadU]; exact load, own, sect, rest, frame⟩

/-- Settles O41: the fetch of a symbol without sections, with an incomplete one, with a complete one. -/
theorem downlinkSymbolsAreFormed : Obligations.DownlinkSymbolsAreFormed := by
  unfold Obligations.DownlinkSymbolsAreFormed
  intro k s c hc car hcar a ha runs cst forced light clean hf lower
  exact ⟨fetch_nothing k hc hcar ha runs cst forced light clean hf lower,
    fun h held waiting some room => fetch_incomplete k hc hcar ha runs cst forced light clean hf lower h held waiting some room,
    fun h p ws held waiting d hd sub good all weights fits ad had ys hys =>
      fetch_complete k hc hcar ha runs cst forced light clean hf lower h p ws held waiting d hd sub good all weights fits ad had ys hys⟩

end Sys2Proof.Machine

/-!
PROOFS. Uplink packets in a region that is not aligned to words (O42).
-/

namespace Sys2Proof.Machine

/-- A section of one uncompressed PRB, combined over no path that received. -/
def lonePrb : UlSection := ⟨⟨true, 0, 0, 0, 0, 1, 0, 0, 0, 0, 0, 0⟩, []⟩

/-- Its symbol. -/
def lonePrbJob : UlJob := ⟨0, 0, 0, 0, 0, [], 0, 0, [lonePrb]⟩

/-- A job waits whose packet goes into a region that begins in the middle of a 64-bit word, and that word holds a correctable error. -/
def unalignedRegion : State :=
  ({ State.reset with
    domains := [pdAon, pdCtl, pdCst, pdDpx], banksOff := [], ecc := [(0, 1)], pwr := PwrState.idle, rf := RfState.idle, smp := SampleState.idle,
    time := { AirState.idle with everLocked := true }, ul := ⟨[lonePrbJob], [], []⟩,
    queues := [(16, { QueueState.empty with use := true })],
    regs := [(Reg.LNK_STATUS, 5), (Reg.CST_REGIONn 0 0, 0x200), (Reg.CST_REGIONn 0 1, 0x10000004), (Reg.CST_REGIONn 0 2, 0x10000)] } : State)

/-- A register of the state that a command leaves. -/
def outReg (a : Nat) : Out → Word
  | .next t => t.rd a
  | _ => 0

/-- The streams and the packets of that section. -/
def loneStreams : List (Nat × (Nat → Word × Nat)) :=
  sectionStreams lonePrbJob lonePrb (fun p i => if bitOf (unalignedRegion.jobSymbol lonePrbJob).1 (p / 8) &&
    !zeroAll (unalignedRegion.logsIn lonePrbJob.air lonePrbJob.stop) p then unalignedRegion.jobSample lonePrbJob p i else 0) false

def lonePackets : List UlPacket :=
  markLast (unalignedRegion.sectionPackets lonePrbJob none lonePrb loneStreams (fun _ => logFlags (unalignedRegion.logsIn lonePrbJob.air lonePrbJob.stop))
    (zeroPg (unalignedRegion.jobSymbol lonePrbJob).1 (unalignedRegion.logsIn lonePrbJob.air lonePrbJob.stop)))

/-- There is one packet, for queue 16, and the region has room for it. -/
theorem lonePackets_one : ∃ pk, lonePackets = [pk] ∧ pk.queue = 16 ∧
    unalignedRegion.uplinkOccupancy + creditsOf (pktLen pk.bytes) ≤ unalignedRegion.uplinkCredits := by
  have one : lonePackets.length = 1 := by decide
  have fits : lonePackets.all (fun pk => pk.queue == 16 &&
      decide (unalignedRegion.uplinkOccupancy + creditsOf (pktLen pk.bytes) ≤ unalignedRegion.uplinkCredits)) = true := by decide
  obtain ⟨pk, e⟩ := List.length_eq_one_iff.mp one
  rw [e] at fits
  simp only [List.all_cons, List.all_nil, Bool.and_true, Bool.and_eq_true, beq_iff_eq, decide_eq_true_eq] at fits
  exact ⟨pk, e, fits⟩

theorem unalignedRegion_silent : ∀ p < 64, unalignedRegion.jobSats lonePrbJob p = 0 := by
  have all : (List.range 64).all (fun p => unalignedRegion.jobSats lonePrbJob p == 0) = true := by decide
  intro p hp
  exact beq_iff_eq.mp (List.all_eq_true.mp all p (List.mem_range.mpr hp))

/-- The packet's first word is read before it is written in part: its error is corrected, and counted. -/
theorem unalignedRegion_corrects : outReg Reg.CST_ECC_CORR (exec (.uplinkPacketBuild 0 [] []) unalignedRegion) = 1 := by decide +kernel

/-- Refutes O42: a packet that enters a region which begins amid a 64-bit word reads that word, and the correction of an error in it counts in
CST_ECC_CORR, a register that the statement keeps. -/
theorem not_uplinkSymbolsBecomePackets : ¬ Obligations.UplinkSymbolsBecomePackets := by
  unfold Obligations.UplinkSymbolsBecomePackets
  intro h
  obtain ⟨-, built, -⟩ := h unalignedRegion (by decide) (by decide) (by decide) (by decide)
  obtain ⟨pk, single, queue, room⟩ := lonePackets_one
  obtain ⟨-, queued⟩ := built 0 lonePrbJob lonePrb rfl rfl rfl _ rfl _ rfl (by decide) unalignedRegion_silent loneStreams rfl lonePackets rfl (by decide +kernel)
  obtain ⟨t, run, -, -, -, -, -, regs⟩ := queued pk single (by decide) (by rw [queue]; decide) room
  have kept := regs Reg.CST_ECC_CORR (by rw [queue]; decide)
  have counted := unalignedRegion_corrects
  rw [run, outReg, kept] at counted
  exact absurd counted (by decide)

end Sys2Proof.Machine

/-!
PROOFS. What a logged grid symbol is shown with, and coefficient banks of the pre-distorter (O43).
-/

namespace Sys2Proof.Machine

variable {s t u v : State} {as : List Nat} {a g n m k : Nat} {q : Requester} {d : Word}

/-! ### What a logged grid symbol is shown with (R279) -/

/-- The registers that tell what is in force for the samples of a grid symbol. -/
def settingReg (a : Nat) : Prop :=
  (0xD0000 ≤ a ∧ a < 0xE0000) ∨ (0x100000 ≤ a ∧ a < 0x180000) ∨ (0x180004 ≤ a ∧ a < 0x190000) ∨
    (0x190000 ≤ a ∧ a < 0x1A0000 ∧ a % 0x1000 = 0x54) ∨ (0x1A0000 ≤ a ∧ a < 0x1C0000) ∨ 0x1C0080 ≤ a

/-- What tells the settings of a grid symbol is the same. -/
structure State.sameSettings (s t : State) : Prop where
  domains : t.domains = s.domains
  pwr : t.pwr = s.pwr
  cal : t.cal = s.cal
  time : t.time = s.time
  synths : t.rf.synths = s.rf.synths
  banks : t.lin.banks = s.lin.banks
  plan : t.sfd.plan = s.sfd.plan
  en : t.sfd.en = s.sfd.en
  demoted : t.sfd.demoted = s.sfd.demoted
  sets : t.sfd.sets = s.sfd.sets
  regs : ∀ a, settingReg a → t.rd a = s.rd a

theorem State.sameSettings.directions (h : s.sameSettings t) : s.sameDirections t :=
  ⟨h.domains, h.pwr, congrArg CalState.slots h.cal, congrArg CalState.lop1 h.cal, congrArg AirState.period h.time, congrArg AirState.scs h.time,
    h.plan, h.demoted, fun a ha => h.regs a (by unfold rowReg at ha; unfold settingReg; omega)⟩

theorem State.sameSettings.fld (h : s.sameSettings t) (f : Fld) (hf : settingReg f.addr) : t.fld f = s.fld f := State.fld_congr (h.regs _ hf)

theorem State.sameSettings.pointWord (h : s.sameSettings t) (r a : Nat) (hr : settingReg r) : t.pointWord r a = s.pointWord r a := by
  rw [State.pointWord, h.cal, h.regs r hr, State.pointWord]

theorem State.sameSettings.chanEntry (h : s.sameSettings t) (c : Nat) : t.chanEntry c = s.chanEntry c := by
  unfold State.chanEntry State.chanBytes
  refine List.map_congr_left fun i _ => ?_
  rw [h.regs]
  unfold settingReg Reg.SYT_CHAN
  omega

theorem State.sameSettings.loAt (h : s.sameSettings t) (g a : Nat) : t.loAt g a = s.loAt g a := by
  have symbol : t.gridSymbol a = s.gridSymbol a := by rw [State.gridSymbol, h.time, State.gridSymbol]
  have row : t.rowAt g a = s.rowAt g a := by rw [State.rowAt, symbol, funext (h.directions.rowFor g), State.rowAt]
  have use : t.loInUse g = s.loInUse g := h.fld _ (by unfold settingReg; simp only [Reg.RFE_PGg_LOSEL]; omega)
  rw [State.loAt, row, use, State.loAt]

theorem State.sameSettings.pointFor (h : s.sameSettings t) (g a : Nat) : t.pointFor g a = s.pointFor g a := by
  have chan (x : Nat) : t.loChan g x = s.loChan g x := h.fld _ (by unfold settingReg; simp only [Reg.RFE_PGg_LOx_STATUS]; omega)
  have band : t.fld (Fld.RFE_PGg_CFG_BAND g) = s.fld (Fld.RFE_PGg_CFG_BAND g) := h.fld _ (by unfold settingReg; simp only [Reg.RFE_PGg_CFG]; omega)
  have hdr (k : Nat) : t.pointWord (Reg.CAL_PTk_HDR_W0 k) a = s.pointWord (Reg.CAL_PTk_HDR_W0 k) a :=
    h.pointWord _ _ (by unfold settingReg; simp only [Reg.CAL_PTk_HDR_W0]; omega)
  have mask (k : Nat) : t.pointWord (Reg.CAL_PTk_HDR_W1 k) a = s.pointWord (Reg.CAL_PTk_HDR_W1 k) a :=
    h.pointWord _ _ (by unfold settingReg; simp only [Reg.CAL_PTk_HDR_W1]; omega)
  have synth (x : Nat) : t.synth g x = s.synth g x := by rw [State.synth, h.synths, State.synth]
  unfold State.pointFor
  simp only [h.loAt, chan, band, hdr, mask, synth, h.chanEntry]

theorem State.sameSettings.pathDelay (h : s.sameSettings t) {p : Nat} (hp : p < 64) (a : Nat) : t.pathDelay p a = s.pathDelay p a := by
  have down : t.fld (Fld.DLC_PATHp_DLY_DLY p) = s.fld (Fld.DLC_PATHp_DLY_DLY p) := h.fld _ (by unfold settingReg; simp only [Reg.DLC_PATHp_DLY]; omega)
  have up : t.fld (Fld.ULC_PATHp_DLY_DLY p) = s.fld (Fld.ULC_PATHp_DLY_DLY p) := h.fld _ (by unfold settingReg; simp only [Reg.ULC_PATHp_DLY]; omega)
  have word (k : Nat) : t.pointWord (Reg.CAL_PTk_Pp_W2 k p) a = s.pointWord (Reg.CAL_PTk_Pp_W2 k p) a :=
    h.pointWord _ _ (by unfold settingReg; simp only [Reg.CAL_PTk_Pp_W2]; omega)
  have corr (pt : Option Nat) : t.delayCorr pt p a = s.delayCorr pt p a := by
    unfold State.delayCorr
    cases pt with
    | none => rfl
    | some k => simp only [word]
  rw [State.pathDelay, h.pointFor, corr, down, up, State.pathDelay]

theorem State.sameSettings.iqBank (h : s.sameSettings t) {p : Nat} (hp : p < 64) (up : Bool) : t.iqBank up p = s.iqBank up p := by
  have bank : t.fld (fIqBank up) = s.fld (fIqBank up) := h.fld _ (by unfold settingReg; cases up <;> decide)
  have one : s.fld (fIqBank up) < 2 := by cases up <;> exact s.fld_lt _
  rw [State.iqBank, bank, State.iqBank]
  unfold State.iqBankWords
  refine List.map_congr_left fun k hk => h.regs _ ?_
  have := List.mem_range.mp hk
  unfold settingReg
  cases up
  · simp only [Bool.false_eq_true, if_false, Reg.DLC_IQp_TAP]
    omega
  · simp only [if_true, Reg.ULC_IQp_TAP]
    omega

theorem State.sameSettings.convWords (h : s.sameSettings t) (p : Nat) : t.convWords p = s.convWords p := by
  unfold State.convWords
  rw [h.regs, h.regs, h.regs, h.regs, h.regs, h.regs, h.regs]
  all_goals
    unfold settingReg
    simp only [Reg.CAL_CONV_Pp_W0, Reg.CAL_CONV_Pp_W1, Reg.CAL_CONV_Pp_W2, Reg.CAL_CONV_Pp_W3, Reg.CAL_CONV_ORXg, Reg.CAL_CONV_LOs]
    omega

theorem State.sameSettings.activeBank (h : s.sameSettings t) {g : Nat} (hg : g < 8) (i c : Nat) : t.activeBank g i c = s.activeBank g i c := by
  rw [State.activeBank, h.fld _ (by unfold settingReg; simp only [Reg.LIN_PGg_PD_ACTIVE]; omega), State.activeBank]

theorem State.sameSettings.pathSymbol (h : s.sameSettings t) {p : Nat} (hp : p < 64) (a : Nat) (x y : List Int) :
    t.pathSymbol p a x y = s.pathSymbol p a x y := by
  have gain : t.fld (Fld.LIN_PATHp_GAIN_STATUS_GD p) = s.fld (Fld.LIN_PATHp_GAIN_STATUS_GD p) :=
    h.fld _ (by unfold settingReg; simp only [Reg.LIN_PATHp_GAIN_STATUS]; omega)
  have att : t.fld (Fld.LIN_PATHp_TXP_ATTA p) = s.fld (Fld.LIN_PATHp_TXP_ATTA p) := h.fld _ (by unfold settingReg; simp only [Reg.LIN_PATHp_TXP]; omega)
  have rgain : t.fld (Fld.RFE_PGg_Pi_RX_RGAIN (p / 8) (p % 8)) = s.fld (Fld.RFE_PGg_Pi_RX_RGAIN (p / 8) (p % 8)) :=
    h.fld _ (by unfold settingReg; simp only [Reg.RFE_PGg_Pi_RX]; omega)
  have pd : t.rd (Reg.LIN_PATHp_PD_CFG p) = s.rd (Reg.LIN_PATHp_PD_CFG p) := h.regs _ (by unfold settingReg; simp only [Reg.LIN_PATHp_PD_CFG]; omega)
  have cfr : t.rd (Reg.LIN_PATHp_CFR_CFG p) = s.rd (Reg.LIN_PATHp_CFR_CFG p) := h.regs _ (by unfold settingReg; simp only [Reg.LIN_PATHp_CFR_CFG]; omega)
  have bank (c b : Nat) : t.pdBank p c b = s.pdBank p c b := by rw [State.pdBank, h.banks, State.pdBank]
  unfold State.pathSymbol
  simp only [h.pathDelay hp, h.iqBank hp, h.convWords, gain, att, rgain, pd, cfr, bank, h.time, h.activeBank (show p / 8 < 8 by omega)]

theorem State.sameSettings.kernelBank (h : s.sameSettings t) : t.kernelBank = s.kernelBank := by
  have bank : t.fld Fld.LIN_STATUS_KBANK = s.fld Fld.LIN_STATUS_KBANK := h.fld _ (by unfold settingReg; decide)
  have one : s.fld Fld.LIN_STATUS_KBANK < 2 := s.fld_lt _
  unfold State.kernelBank
  rw [bank]
  refine List.map_congr_left fun k hk => List.map_congr_left fun i hi => h.regs _ ?_
  have := List.mem_range.mp hk
  have := List.mem_range.mp hi
  unfold settingReg
  simp only [Reg.LIN_KERNk]
  omega

/-- A logged symbol is shown alike in states of the same settings. -/
theorem State.sameSettings.withSettings (h : s.sameSettings t) (l : SymbolLog) : t.withSettings l = s.withSettings l := by
  have on (x : Nat) : t.domOn x = s.domOn x := by rw [State.domOn, h.domains, State.domOn]
  have plan : t.planOn = s.planOn := by rw [State.planOn, h.plan, State.planOn]
  have set : t.sfdSet (t.classSet t.time.sfdClass) = s.sfdSet (s.classSet s.time.sfdClass) := by
    rw [State.classSet, h.time, h.fld _ (by unfold settingReg; simp only [Reg.SFD_CLASSc]; omega), State.sfdSet, h.sets, State.classSet, State.sfdSet]
  have paths : (List.range 64).map (fun p => t.pathSymbol p l.air ((l.paths[p]?.map (fun x => x.peaks1)).getD [])
      ((l.paths[p]?.map (fun x => x.peaks2)).getD [])) = (List.range 64).map (fun p => s.pathSymbol p l.air
      ((l.paths[p]?.map (fun x => x.peaks1)).getD []) ((l.paths[p]?.map (fun x => x.peaks2)).getD [])) :=
    List.map_congr_left fun p hp => h.pathSymbol (List.mem_range.mp hp) _ _ _
  unfold State.withSettings
  simp only [on, plan, set, paths, h.kernelBank, h.plan, h.en]

/-! ### Writes of a group's page -/

theorem State.beside.storeRange (h : s.beside t) (a n : Nat) : t.storeRange a n = s.storeRange a n := by
  obtain ⟨r, rfl⟩ := h
  rfl

theorem State.beside.lg (h : s.beside t) (g : Nat) : t.lg g = s.lg g := by
  obtain ⟨r, rfl⟩ := h
  rfl

section
variable (s)

theorem State.linPageWrite_load (h : s.disturbLop2 g (Reg.LIN_PGg_LOAD_CTRL g) q = s) (d : Word) :
    s.linPageWrite g (Reg.LIN_PGg_LOAD_CTRL g) q d = s.pdLoadWrite g d := by
  rw [State.linPageWrite, h, if_neg (by simp only [Reg.LIN_PGg_LOAD_CTRL, Reg.LIN_PGg_SEQ_CTRL]; omega), if_pos rfl]

theorem State.linPageWrite_swap (h : s.disturbLop2 g (Reg.LIN_PGg_SWAP_CTRL g) q = s) (d : Word) :
    s.linPageWrite g (Reg.LIN_PGg_SWAP_CTRL g) q d = s.swapCtrlWrite g d := by
  rw [State.linPageWrite, h, if_neg (by simp only [Reg.LIN_PGg_SWAP_CTRL, Reg.LIN_PGg_SEQ_CTRL]; omega),
    if_neg (by simp only [Reg.LIN_PGg_SWAP_CTRL, Reg.LIN_PGg_LOAD_CTRL]; omega), if_pos rfl]

end

/-! ### Load engines (R284, R285) -/

/-- The data of a GO with its OP. -/
def loadGo (g op : Nat) (w : Word) : Word := (Fld.LIN_PGg_LOAD_CTRL_OP g).put op ((Fld.LIN_PGg_LOAD_CTRL_GO g).put 1 w)

theorem loadGo_go (g op : Nat) (w : Word) : (Fld.LIN_PGg_LOAD_CTRL_GO g).of (loadGo g op w) = 1 := by
  rw [loadGo, Fld.of_put_ne _ _ _ _ (by simp) (by simp)]
  exact Fld.of_put_same _ _ _ (by simp) (by simp)

theorem exec_pdLoad (gr : Fin 8) (w : Word) {c : Instr} {wr : Bool} (hc : (c = .pdLoadWrite gr q w ∧ wr = true) ∨ (c = .pdLoadRead gr q w ∧ wr = false))
    (h : s.passes q (Reg.LIN_PGg_LOAD_CTRL gr.val) true) (calm : s.disturbLop2 gr.val (Reg.LIN_PGg_LOAD_CTRL gr.val) q = s) :
    exec c s = .next (s.pdLoadWrite gr.val (loadGo gr.val (bit (!wr)) w)) := by
  rw [← s.linPageWrite_load calm]
  rcases hc with ⟨rfl, rfl⟩ | ⟨rfl, rfl⟩
  · exact exec_access (f := fun s => s.linPageWrite gr.val (Reg.LIN_PGg_LOAD_CTRL gr.val) q (loadGo gr.val 0 w)) h rfl
  · exact exec_access (f := fun s => s.linPageWrite gr.val (Reg.LIN_PGg_LOAD_CTRL gr.val) q (loadGo gr.val 1 w)) h rfl

theorem loadFields : ∀ g : Fin 8, (Fld.LIN_PGg_LOAD_CTRL_PATH g.val).plain = true ∧ (Fld.LIN_PGg_LOAD_CTRL_CLASS g.val).plain = true ∧
    (Fld.LIN_PGg_LOAD_CTRL_SEL g.val).plain = true ∧ (Fld.LIN_PGg_LOAD_CTRL_OP g.val).plain = true := by decide

/-- The engine of group `g` runs a transfer, with which the group is at `x`. -/
def State.loading (s : State) (g : Nat) (x : LinGroup) : State :=
  ((s.setLg g x).setFld (Fld.LIN_PGg_LOAD_STATUS_STATE g) 1).setFld (Fld.LIN_PGg_LOAD_CTRL_GO g) 1

theorem State.loading_frame (s : State) (g : Nat) (x : LinGroup) :
    s.loading g x = { s with regs := (s.loading g x).regs, lin := { s.lin with groups := (s.loading g x).lin.groups } } := rfl

theorem State.loading_lg (s : State) (g : Nat) (x : LinGroup) : (s.loading g x).lg g = x ∧ ∀ h, h ≠ g → (s.loading g x).lg h = s.lg h :=
  ⟨State.lg_setLg_same s g x, fun _ hk => State.lg_setLg_ne s x hk⟩

theorem State.loading_regs (s : State) (g : Nat) (x : LinGroup) :
    (s.loading g x).on (Fld.LIN_PGg_LOAD_STATUS_STATE g) = true ∧ (s.loading g x).on (Fld.LIN_PGg_LOAD_CTRL_GO g) = true ∧
    (s.loading g x).on (Fld.LIN_PGg_LOAD_CTRL_OP g) = s.on (Fld.LIN_PGg_LOAD_CTRL_OP g) ∧
    s.regsBut (s.loading g x) [Reg.LIN_PGg_LOAD_CTRL g, Reg.LIN_PGg_LOAD_STATUS g] := by
  unfold State.loading
  refine ⟨?_, State.on_setFld_one _ _ (by simp) (by simp), ?_, ((State.regsBut.of_regs rfl _).setFld _ (by simp)).setFld _ (by simp)⟩
  · rw [State.on_setFld_ne _ _ _ _ (by simp) (by simp)]
    exact State.on_setFld_one _ _ (by simp) (by simp)
  · rw [State.on_setFld_ne _ _ _ _ (by simp) (by simp), State.on_setFld_ne _ _ _ _ (by simp) (by simp)]
    rfl

theorem pdLoad_overrun (gr : Fin 8) (w : Word) {c : Instr} (h : exec c s = .next (s.pdLoadWrite gr.val (loadGo gr.val n w)))
    (busy : s.on (Fld.LIN_PGg_LOAD_STATUS_STATE gr.val) = true) :
    ∃ t, exec c s = .next t ∧ t.on (Fld.LIN_PGg_LOAD_CTRL_OVERRUN gr.val) = true ∧ s.onlyRegs t [Reg.LIN_PGg_LOAD_CTRL gr.val] := by
  rw [State.pdLoadWrite] at h
  simp only [loadGo_go, busy, Nat.reduceBEq, Bool.and_self, if_true] at h
  exact ⟨_, h, State.on_setFld_one _ _ (by simp) (by simp), rfl, (State.regsBut.refl s _).setFld _ (by simp)⟩

theorem pdLoad_started (gr : Fin 8) (w : Word) (wr : Bool) {c : Instr} (h : exec c s = .next (s.pdLoadWrite gr.val (loadGo gr.val (bit (!wr)) w)))
    (idle : s.on (Fld.LIN_PGg_LOAD_STATUS_STATE gr.val) = false) (range : s.storeRange (s.fld (Fld.LIN_PGg_LOAD_ADDR_ADDR gr.val)) pdBlockLen = true)
    (noSwap : (s.lg gr.val).swap = none) :
    ∃ t, exec c s = .next t ∧ t.on (Fld.LIN_PGg_LOAD_STATUS_STATE gr.val) = true ∧ t.on (Fld.LIN_PGg_LOAD_CTRL_GO gr.val) = true ∧
      t.on (Fld.LIN_PGg_LOAD_CTRL_OP gr.val) = !wr ∧
      t.lg gr.val = { s.lg gr.val with load := some ⟨wr, (Fld.LIN_PGg_LOAD_CTRL_PATH gr.val).of w, (Fld.LIN_PGg_LOAD_CTRL_CLASS gr.val).of w,
        (Fld.LIN_PGg_LOAD_CTRL_SEL gr.val).of w ≠ 0, s.fld (Fld.LIN_PGg_LOAD_ADDR_ADDR gr.val)⟩ } ∧
      (∀ h, h ≠ gr.val → t.lg h = s.lg h) ∧ t = { s with regs := t.regs, lin := { s.lin with groups := t.lin.groups } } ∧
      s.regsBut t [Reg.LIN_PGg_LOAD_CTRL gr.val, Reg.LIN_PGg_LOAD_STATUS gr.val] := by
  obtain ⟨plainPath, plainClass, plainSel, plainOp⟩ := loadFields gr
  generalize gr.val = g at *
  have data (f : Fld) (op : (Fld.LIN_PGg_LOAD_CTRL_OP g).hi < f.lo ∨ f.hi < (Fld.LIN_PGg_LOAD_CTRL_OP g).lo)
      (go : (Fld.LIN_PGg_LOAD_CTRL_GO g).hi < f.lo ∨ f.hi < (Fld.LIN_PGg_LOAD_CTRL_GO g).lo) :
      f.of ((Fld.LIN_PGg_LOAD_CTRL_GO g).put 0 (loadGo g (bit (!wr)) w)) = f.of w := by
    rw [Fld.of_put_ne _ _ _ _ (by simp) go.symm, loadGo, Fld.of_put_ne _ _ _ _ (by simp) op.symm, Fld.of_put_ne _ _ _ _ (by simp) go.symm]
  have path := (s.fld_plainWrite_plain plainPath ((Fld.LIN_PGg_LOAD_CTRL_GO g).put 0 (loadGo g (bit (!wr)) w))).trans (data _ (by simp) (by simp))
  have cls := (s.fld_plainWrite_plain plainClass ((Fld.LIN_PGg_LOAD_CTRL_GO g).put 0 (loadGo g (bit (!wr)) w))).trans (data _ (by simp) (by simp))
  have sel := (s.fld_plainWrite_plain plainSel ((Fld.LIN_PGg_LOAD_CTRL_GO g).put 0 (loadGo g (bit (!wr)) w))).trans (data _ (by simp) (by simp))
  have op : (s.plainWrite (Reg.LIN_PGg_LOAD_CTRL g) ((Fld.LIN_PGg_LOAD_CTRL_GO g).put 0 (loadGo g (bit (!wr)) w))).fld (Fld.LIN_PGg_LOAD_CTRL_OP g) = bit (!wr) := by
    refine (s.fld_plainWrite_plain plainOp _).trans ?_
    rw [Fld.of_put_ne _ _ _ _ (by simp) (by simp)]
    exact Fld.of_put_same _ _ _ (by simp) (by cases wr <;> simp [bit])
  have regs : s.regsBut (s.plainWrite (Reg.LIN_PGg_LOAD_CTRL g) ((Fld.LIN_PGg_LOAD_CTRL_GO g).put 0 (loadGo g (bit (!wr)) w)))
      [Reg.LIN_PGg_LOAD_CTRL g, Reg.LIN_PGg_LOAD_STATUS g] := (State.regsBut.refl s _).plainWrite _ (by simp)
  have frame : s.beside (s.plainWrite (Reg.LIN_PGg_LOAD_CTRL g) ((Fld.LIN_PGg_LOAD_CTRL_GO g).put 0 (loadGo g (bit (!wr)) w))) := ⟨_, rfl⟩
  rw [State.pdLoadWrite] at h
  simp only [loadGo_go, idle, Nat.reduceBEq, Bool.and_false, Bool.false_eq_true, if_false, if_true] at h
  generalize s.plainWrite (Reg.LIN_PGg_LOAD_CTRL g) ((Fld.LIN_PGg_LOAD_CTRL_GO g).put 0 (loadGo g (bit (!wr)) w)) = v at *
  have addr : v.fld (Fld.LIN_PGg_LOAD_ADDR_ADDR g) = s.fld (Fld.LIN_PGg_LOAD_ADDR_ADDR g) := regs.fld _ (by simp)
  have flag : v.on (Fld.LIN_PGg_LOAD_CTRL_OP g) = !wr := by rw [State.on, op]; cases wr <;> rfl
  have waits (i c : Nat) : (s.lg g).swapWaits i c = false := by rw [LinGroup.swapWaits, noSwap]
  simp only [waits, addr, frame.storeRange, range, flag, path, cls, frame.lg, Bool.not_not, Bool.not_true, Bool.and_false, Bool.false_eq_true, if_false] at h
  rw [State.on, sel] at h
  replace h : exec c s = .next (v.loading g _) := h
  obtain ⟨state, go, same, own⟩ := v.loading_regs g { s.lg g with load := some ⟨wr, (Fld.LIN_PGg_LOAD_CTRL_PATH g).of w, (Fld.LIN_PGg_LOAD_CTRL_CLASS g).of w,
    (Fld.LIN_PGg_LOAD_CTRL_SEL g).of w ≠ 0, s.fld (Fld.LIN_PGg_LOAD_ADDR_ADDR g)⟩ }
  obtain ⟨here, others⟩ := v.loading_lg g { s.lg g with load := some ⟨wr, (Fld.LIN_PGg_LOAD_CTRL_PATH g).of w, (Fld.LIN_PGg_LOAD_CTRL_CLASS g).of w,
    (Fld.LIN_PGg_LOAD_CTRL_SEL g).of w ≠ 0, s.fld (Fld.LIN_PGg_LOAD_ADDR_ADDR g)⟩ }
  refine ⟨_, h, state, go, same.trans flag, here, fun k hk => (others k hk).trans (frame.lg k), ?_, regs.trans own⟩
  obtain ⟨r, frame⟩ := frame
  rw [State.loading_frame, frame]

/-! ### A source pends at a core (R379) -/

theorem State.beside.corePend (h : s.beside t) (c k : Nat) : s.beside (t.corePend c k) := by
  unfold State.corePend
  split_ifs
  · exact h.wr _ _
  · exact h

theorem State.regsBut.corePend (h : s.regsBut t as) {c : Nat} (k : Nat) (hc : Reg.CORE_IRQ c ∈ as) : s.regsBut (t.corePend c k) as := by
  unfold State.corePend
  split_ifs
  · exact h.wr _ hc
  · exact h

theorem State.fld_corePend (s : State) (c k : Nat) (f : Fld) (h : f.addr ≠ Reg.CORE_IRQ c) : (s.corePend c k).fld f = s.fld f :=
  State.fld_congr (State.regsBut.corePend (State.regsBut.refl s [Reg.CORE_IRQ c]) k (by simp) _ (by simpa using h))

/-- The pending sources stand above the pages of the groups. -/
theorem coreIrq_above (c : Nat) : 0x410000 ≤ Reg.CORE_IRQ c := by
  unfold Reg.CORE_IRQ
  split_ifs <;> omega

/-! ### The end of a transfer -/

/-- A transfer that ends without error. -/
structure State.loadEnds (s : State) (g : Nat) (t : State) : Prop where
  idle : t.on (Fld.LIN_PGg_LOAD_STATUS_STATE g) = false
  ok : t.fld (Fld.LIN_PGg_LOAD_STATUS_ERR g) = 0
  go : t.on (Fld.LIN_PGg_LOAD_CTRL_GO g) = false
  lg : t.lg g = { s.lg g with load := none }
  others : ∀ h, h ≠ g → t.lg h = s.lg h
  frame : t = { s with regs := t.regs, lin := { s.lin with groups := t.lin.groups } }
  regs : s.regsBut t [Reg.LIN_PGg_LOAD_CTRL g, Reg.LIN_PGg_LOAD_STATUS g, Reg.CORE_IRQ g]

theorem State.pdLoadStop_ends (s : State) {g : Nat} (hg : g < 8) (path : Nat) : s.loadEnds g (s.pdLoadStop g 0 path) := by
  have far (f : Fld) (h : f.addr < 0x410000) : f.addr ≠ Reg.CORE_IRQ g := fun e => by
    have := coreIrq_above g
    omega
  have run : s.pdLoadStop g 0 path = (((((s.setLg g { s.lg g with load := none }).setFld (Fld.LIN_PGg_LOAD_STATUS_ERR g) 0).setFld
      (Fld.LIN_PGg_LOAD_STATUS_STATE g) 0).setFld (Fld.LIN_PGg_LOAD_CTRL_GO g) 0).corePend g 6).count (Fld.LIN_PGg_LOAD_STATUS_LOADS g) 1 := by
    rw [State.pdLoadStop, if_pos rfl]
  have here : ((s.setLg g { s.lg g with load := none }).lg g) = { s.lg g with load := none } := State.lg_setLg_same _ _ _
  have others (h : Nat) (hh : h ≠ g) : ((s.setLg g { s.lg g with load := none }).lg h) = s.lg h := State.lg_setLg_ne _ _ hh
  have frame : s.setLg g { s.lg g with load := none } =
      { s with lin := { s.lin with groups := (s.setLg g { s.lg g with load := none }).lin.groups } } := rfl
  generalize s.setLg g { s.lg g with load := none } = v at *
  have away : v.beside ((((v.setFld (Fld.LIN_PGg_LOAD_STATUS_ERR g) 0).setFld (Fld.LIN_PGg_LOAD_STATUS_STATE g) 0).setFld (Fld.LIN_PGg_LOAD_CTRL_GO g) 0).corePend g 6) :=
    State.beside.corePend ⟨_, rfl⟩ _ _
  have regs : v.regsBut ((((v.setFld (Fld.LIN_PGg_LOAD_STATUS_ERR g) 0).setFld (Fld.LIN_PGg_LOAD_STATUS_STATE g) 0).setFld (Fld.LIN_PGg_LOAD_CTRL_GO g) 0).corePend g 6)
      [Reg.LIN_PGg_LOAD_CTRL g, Reg.LIN_PGg_LOAD_STATUS g, Reg.CORE_IRQ g] :=
    State.regsBut.corePend ((((State.regsBut.refl v _).setFld _ (by simp)).setFld _ (by simp)).setFld _ (by simp)) _ (by simp)
  have state : ((((v.setFld (Fld.LIN_PGg_LOAD_STATUS_ERR g) 0).setFld (Fld.LIN_PGg_LOAD_STATUS_STATE g) 0).setFld (Fld.LIN_PGg_LOAD_CTRL_GO g) 0).corePend g 6).fld
      (Fld.LIN_PGg_LOAD_STATUS_STATE g) = 0 := by
    rw [State.fld_corePend _ _ _ _ (far _ (by simp only [Reg.LIN_PGg_LOAD_STATUS]; omega)), State.fld_setFld_ne _ _ _ _ (by simp) (by simp)]
    exact State.fld_setFld_same _ _ _ (by simp) (by simp)
  have err : ((((v.setFld (Fld.LIN_PGg_LOAD_STATUS_ERR g) 0).setFld (Fld.LIN_PGg_LOAD_STATUS_STATE g) 0).setFld (Fld.LIN_PGg_LOAD_CTRL_GO g) 0).corePend g 6).fld
      (Fld.LIN_PGg_LOAD_STATUS_ERR g) = 0 := by
    rw [State.fld_corePend _ _ _ _ (far _ (by simp only [Reg.LIN_PGg_LOAD_STATUS]; omega)), State.fld_setFld_ne _ _ _ _ (by simp) (by simp),
      State.fld_setFld_ne _ _ _ _ (by simp) (by simp)]
    exact State.fld_setFld_same _ _ _ (by simp) (by simp)
  have go : ((((v.setFld (Fld.LIN_PGg_LOAD_STATUS_ERR g) 0).setFld (Fld.LIN_PGg_LOAD_STATUS_STATE g) 0).setFld (Fld.LIN_PGg_LOAD_CTRL_GO g) 0).corePend g 6).fld
      (Fld.LIN_PGg_LOAD_CTRL_GO g) = 0 := by
    rw [State.fld_corePend _ _ _ _ (far _ (by simp only [Reg.LIN_PGg_LOAD_CTRL]; omega))]
    exact State.fld_setFld_same _ _ _ (by simp) (by simp)
  generalize (((v.setFld (Fld.LIN_PGg_LOAD_STATUS_ERR g) 0).setFld (Fld.LIN_PGg_LOAD_STATUS_STATE g) 0).setFld (Fld.LIN_PGg_LOAD_CTRL_GO g) 0).corePend g 6 = u at *
  have lgs (h : Nat) : (u.count (Fld.LIN_PGg_LOAD_STATUS_LOADS g) 1).lg h = v.lg h := away.lg h
  obtain ⟨r, away⟩ := away
  have own (y : SMap Word) : ({ u with regs := y } : State) = { s with regs := y, lin := { s.lin with groups := u.lin.groups } } := by rw [away, frame]
  rw [run]
  refine ⟨?_, ?_, ?_, (lgs g).trans here, fun h hh => (lgs h).trans (others h hh), own _, ?_⟩
  · rw [State.on_eq_false, State.fld_count_ne _ _ _ _ (by simp) (by simp), state]
  · rw [State.fld_count_ne _ _ _ _ (by simp) (by simp), err]
  · rw [State.on_eq_false, State.fld_count_ne _ _ _ _ (by simp) (by simp), go]
  · refine State.regsBut.count ?_ 1 (by simp)
    exact State.regsBut.trans (State.regsBut.of_regs (by rw [frame]) _) regs

theorem State.pdBank_setPdBank_same (s : State) (p c b : Nat) (ws : List Word) : (s.setPdBank p c b ws).pdBank p c b = ws := SMap.get_set_same _ _ _ _

/-- Banks of classes and banks that exist are apart. -/
theorem bankKey_inj {p c b p' c' b' : Nat} (hc : c < 4) (hb : b < 2) (hc' : c' < 4) (hb' : b' < 2) (h : bankKey p c b = bankKey p' c' b') :
    (p, c, b) = (p', c', b') := by
  unfold bankKey at h
  obtain ⟨rfl, rfl, rfl⟩ : p = p' ∧ c = c' ∧ b = b' := by omega
  rfl

theorem State.pdBank_setPdBank_ne (s : State) {p c b p' c' b' : Nat} (ws : List Word) (h : bankKey p' c' b' ≠ bankKey p c b) :
    (s.setPdBank p c b ws).pdBank p' c' b' = s.pdBank p' c' b' := SMap.get_set_ne _ _ _ h

theorem wordsToBytes_length : ∀ ws : List Word, (wordsToBytes ws).length = 4 * ws.length
  | [] => rfl
  | w :: ws => by
    rw [wordsToBytes, List.length_append, wordsToBytes_length ws, List.length_cons, leBytes_length]
    omega

theorem State.activeBank_le (s : State) (g i c : Nat) : s.activeBank g i c ≤ 1 := by
  unfold State.activeBank
  cases bitOf (s.fld (Fld.LIN_PGg_PD_ACTIVE_BANK g)) (4 * i + c) <;> decide

theorem pdLoadEnds_write (gr : Fin 8) (l : PdLoad) (h : (s.lg gr.val).load = some l) (range : s.storeRange l.addr pdBlockLen = true) (clean : s.ecc = [])
    (wr : l.write = true) : ∃ b, b = 1 - s.activeBank gr.val l.path l.cls ∧ ∃ t, exec (.pdLoadEnd gr) s = .next t ∧
      (s.setPdBank (8 * gr.val + l.path) l.cls b ((bytesToWords (s.storeBytes l.addr pdBlockLen)).map (· &&& 0x3FFFF#32))).loadEnds gr.val t := by
  have run : exec (.pdLoadEnd gr) s = execPdLoadEnd gr s := rfl
  rw [execPdLoadEnd] at run
  simp only [h, range, wr, s.storeRead_clean clean, Bool.not_true, Bool.false_eq_true, if_false, if_true] at run
  exact ⟨_, rfl, _, run, State.pdLoadStop_ends _ gr.isLt _⟩

theorem pdLoadEnds_read (gr : Fin 8) (l : PdLoad) (h : (s.lg gr.val).load = some l) (range : s.storeRange l.addr pdBlockLen = true) (clean : s.ecc = [])
    (mode : s.fld Fld.CST_ECC_INJ_MODE = 0) (rd : l.write = false) :
    ∃ b, b = (if l.shadow then 1 - s.activeBank gr.val l.path l.cls else s.activeBank gr.val l.path l.cls) ∧ ∃ t, exec (.pdLoadEnd gr) s = .next t ∧
      (s.putStore l.addr (wordsToBytes (s.pdBank (8 * gr.val + l.path) l.cls b))).loadEnds gr.val t := by
  have run : exec (.pdLoadEnd gr) s = execPdLoadEnd gr s := rfl
  rw [execPdLoadEnd] at run
  simp only [h, range, rd, s.storePut_clean clean mode, Bool.not_true, Bool.false_eq_true, if_false] at run
  exact ⟨_, rfl, _, run, State.pdLoadStop_ends _ gr.isLt _⟩

theorem pdLoadEnds (gr : Fin 8) (l : PdLoad) (h : (s.lg gr.val).load = some l) (range : s.storeRange l.addr pdBlockLen = true) (clean : s.ecc = [])
    (mode : s.fld Fld.CST_ECC_INJ_MODE = 0) (hc : l.cls < 4) :
    ∃ t, exec (.pdLoadEnd gr) s = .next t ∧ t.on (Fld.LIN_PGg_LOAD_STATUS_STATE gr.val) = false ∧
      t.fld (Fld.LIN_PGg_LOAD_STATUS_ERR gr.val) = 0 ∧ t.on (Fld.LIN_PGg_LOAD_CTRL_GO gr.val) = false ∧
      t.lg gr.val = { s.lg gr.val with load := none } ∧ (∀ h, h ≠ gr.val → t.lg h = s.lg h) ∧
      (l.write = true →
        t.pdBank (8 * gr.val + l.path) l.cls (1 - s.activeBank gr.val l.path l.cls) =
          (bytesToWords (s.storeBytes l.addr pdBlockLen)).map (· &&& 0x3FFFF#32) ∧
        (∀ p c b, c < 4 → b < 2 → (p, c, b) ≠ (8 * gr.val + l.path, l.cls, 1 - s.activeBank gr.val l.path l.cls) →
          t.pdBank p c b = s.pdBank p c b) ∧ t.store = s.store) ∧
      (l.write = false → ∀ b, b = (if l.shadow then 1 - s.activeBank gr.val l.path l.cls else s.activeBank gr.val l.path l.cls) →
        (s.pdBank (8 * gr.val + l.path) l.cls b).length = 2560 →
        t.storeBytes l.addr pdBlockLen = wordsToBytes (s.pdBank (8 * gr.val + l.path) l.cls b) ∧
        (∀ a, a < l.addr ∨ l.addr + pdBlockLen ≤ a → t.storeByte a = s.storeByte a) ∧ t.lin.banks = s.lin.banks) ∧
      t = { s with regs := t.regs, store := t.store, lin := t.lin } ∧
      s.regsBut t [Reg.LIN_PGg_LOAD_CTRL gr.val, Reg.LIN_PGg_LOAD_STATUS gr.val, Reg.CORE_IRQ gr.val] := by
  cases wr : l.write
  case true =>
    obtain ⟨b, hb, t, run, ends⟩ := pdLoadEnds_write gr l h range clean wr
    have same := s.pdBank_setPdBank_same (8 * gr.val + l.path) l.cls b ((bytesToWords (s.storeBytes l.addr pdBlockLen)).map (· &&& 0x3FFFF#32))
    have others (p c d : Nat) (hc' : c < 4) (hd : d < 2) (hne : (p, c, d) ≠ (8 * gr.val + l.path, l.cls, b)) :=
      s.pdBank_setPdBank_ne (p := 8 * gr.val + l.path) (c := l.cls) (b := b) (p' := p) (c' := c) (b' := d)
        ((bytesToWords (s.storeBytes l.addr pdBlockLen)).map (· &&& 0x3FFFF#32)) fun e => hne (bankKey_inj hc' hd hc (by omega) e)
    have frame (x : Nat) : ∃ y, s.setPdBank (8 * gr.val + l.path) l.cls b ((bytesToWords (s.storeBytes l.addr pdBlockLen)).map (· &&& 0x3FFFF#32)) =
        { s with lin := { s.lin with banks := y } } := ⟨_, rfl⟩
    obtain ⟨y, frame⟩ := frame 0
    generalize s.setPdBank (8 * gr.val + l.path) l.cls b ((bytesToWords (s.storeBytes l.addr pdBlockLen)).map (· &&& 0x3FFFF#32)) = v at *
    have banks (p c d : Nat) : t.pdBank p c d = v.pdBank p c d := by rw [ends.frame]; rfl
    have lgs (k : Nat) : v.lg k = s.lg k := by rw [frame]; rfl
    have shape := ends.frame
    refine ⟨t, run, ends.idle, ends.ok, ends.go, ends.lg.trans (by rw [lgs]), fun k hk => (ends.others k hk).trans (lgs k),
      fun _ => ⟨?_, fun p c d hc' hd hne => (banks p c d).trans (others p c d hc' hd (by rwa [hb])), ?_⟩, fun e => absurd e.symm Bool.false_ne_true, ?_, ?_⟩
    · rw [← hb, banks, same]
    · rw [shape, frame]
    · rw [shape, frame]
    · exact State.regsBut.trans (State.regsBut.of_regs (by rw [frame]) _) ends.regs
  case false =>
    obtain ⟨b, hb, t, run, ends⟩ := pdLoadEnds_read gr l h range clean mode wr
    have bytes := s.storeBytes_putStore l.addr (wordsToBytes (s.pdBank (8 * gr.val + l.path) l.cls b))
    have out (a : Nat) := s.storeByte_putStore_out l.addr a (wordsToBytes (s.pdBank (8 * gr.val + l.path) l.cls b))
    rw [wordsToBytes_length] at bytes out
    have frame : ∃ y, s.putStore l.addr (wordsToBytes (s.pdBank (8 * gr.val + l.path) l.cls b)) = { s with store := y } := ⟨_, rfl⟩
    obtain ⟨y, frame⟩ := frame
    generalize s.putStore l.addr (wordsToBytes (s.pdBank (8 * gr.val + l.path) l.cls b)) = v at *
    have store : t.store = v.store := by rw [ends.frame]
    have lgs (k : Nat) : v.lg k = s.lg k := by rw [frame]; rfl
    have shape := ends.frame
    refine ⟨t, run, ends.idle, ends.ok, ends.go, ends.lg.trans (by rw [lgs]), fun k hk => (ends.others k hk).trans (lgs k),
      fun e => absurd e Bool.false_ne_true, fun _ b' hb' len => ?_, ?_, ?_⟩
    · obtain rfl : b' = b := hb'.trans hb.symm
      rw [len] at bytes out
      refine ⟨?_, fun a ha => ?_, ?_⟩
      · rw [State.storeBytes, store]
        exact bytes
      · rw [State.storeByte, store]
        exact out a ha
      · rw [shape, frame]
    · rw [shape, frame]
    · exact State.regsBut.trans (State.regsBut.of_regs (by rw [frame]) _) ends.regs

/-! ### Swaps (R286) -/

theorem swapFields : ∀ g : Fin 8, (Fld.LIN_PGg_SWAP_CTRL_CLASS g.val).plain = true ∧ (Fld.LIN_PGg_SWAP_CTRL_PATHS g.val).plain = true ∧
    (Fld.LIN_PGg_SWAP_CTRL_GO g.val).sets = true := by decide

theorem swapGo_put (g : Nat) (w : Word) : (Fld.LIN_PGg_SWAP_CTRL_GO g).of ((Fld.LIN_PGg_SWAP_CTRL_GO g).put 1 w) = 1 :=
  Fld.of_put_same _ _ _ (by simp) (by simp)

theorem exec_pdSwap (gr : Fin 8) (w : Word) (h : s.passes q (Reg.LIN_PGg_SWAP_CTRL gr.val) true)
    (calm : s.disturbLop2 gr.val (Reg.LIN_PGg_SWAP_CTRL gr.val) q = s) :
    exec (.pdSwapRequest gr q w) s = .next (s.swapCtrlWrite gr.val ((Fld.LIN_PGg_SWAP_CTRL_GO gr.val).put 1 w)) := by
  rw [← s.linPageWrite_swap calm]
  exact exec_access (f := fun s => s.linPageWrite gr.val (Reg.LIN_PGg_SWAP_CTRL gr.val) q ((Fld.LIN_PGg_SWAP_CTRL_GO gr.val).put 1 w)) h rfl

theorem pdSwap_overrun (gr : Fin 8) (w : Word) (h : s.passes q (Reg.LIN_PGg_SWAP_CTRL gr.val) true)
    (calm : s.disturbLop2 gr.val (Reg.LIN_PGg_SWAP_CTRL gr.val) q = s) (waits : s.on (Fld.LIN_PGg_SWAP_CTRL_GO gr.val) = true) :
    ∃ t, exec (.pdSwapRequest gr q w) s = .next t ∧ t.on (Fld.LIN_PGg_SWAP_CTRL_OVERRUN gr.val) = true ∧
      s.onlyRegs t [Reg.LIN_PGg_SWAP_CTRL gr.val] := by
  have run := exec_pdSwap gr w h calm
  rw [State.swapCtrlWrite] at run
  simp only [swapGo_put, waits, Nat.reduceBEq, Bool.and_self, if_true] at run
  exact ⟨_, run, State.on_setFld_one _ _ (by simp) (by simp), rfl, (State.regsBut.refl s _).setFld _ (by simp)⟩

theorem pdSwap_taken (gr : Fin 8) (w : Word) (h : s.passes q (Reg.LIN_PGg_SWAP_CTRL gr.val) true)
    (calm : s.disturbLop2 gr.val (Reg.LIN_PGg_SWAP_CTRL gr.val) q = s) (free : s.on (Fld.LIN_PGg_SWAP_CTRL_GO gr.val) = false) :
    ∃ t, exec (.pdSwapRequest gr q w) s = .next t ∧ t.on (Fld.LIN_PGg_SWAP_CTRL_GO gr.val) = true ∧
      t.lg gr.val = { s.lg gr.val with swap := some ((Fld.LIN_PGg_SWAP_CTRL_CLASS gr.val).of w, (Fld.LIN_PGg_SWAP_CTRL_PATHS gr.val).of w) } ∧
      (∀ h, h ≠ gr.val → t.lg h = s.lg h) ∧ t = { s with regs := t.regs, lin := { s.lin with groups := t.lin.groups } } ∧
      s.regsBut t [Reg.LIN_PGg_SWAP_CTRL gr.val] := by
  have run := exec_pdSwap gr w h calm
  obtain ⟨plainClass, plainPaths, sets⟩ := swapFields gr
  generalize gr.val = g at *
  have cls := (s.fld_plainWrite_plain plainClass ((Fld.LIN_PGg_SWAP_CTRL_GO g).put 1 w)).trans (Fld.of_put_ne _ _ _ _ (by simp) (by simp))
  have paths := (s.fld_plainWrite_plain plainPaths ((Fld.LIN_PGg_SWAP_CTRL_GO g).put 1 w)).trans (Fld.of_put_ne _ _ _ _ (by simp) (by simp))
  have go := State.on_plainWrite_sets s (Fld.LIN_PGg_SWAP_CTRL_GO g) (swapGo_put g w) sets
  have regs : s.regsBut (s.plainWrite (Reg.LIN_PGg_SWAP_CTRL g) ((Fld.LIN_PGg_SWAP_CTRL_GO g).put 1 w)) [Reg.LIN_PGg_SWAP_CTRL g] :=
    (State.regsBut.refl s _).plainWrite _ (by simp)
  have frame : s.beside (s.plainWrite (Reg.LIN_PGg_SWAP_CTRL g) ((Fld.LIN_PGg_SWAP_CTRL_GO g).put 1 w)) := ⟨_, rfl⟩
  rw [State.swapCtrlWrite] at run
  simp only [swapGo_put, free, Nat.reduceBEq, Bool.and_false, Bool.false_eq_true, if_false, if_true] at run
  generalize s.plainWrite (Reg.LIN_PGg_SWAP_CTRL g) ((Fld.LIN_PGg_SWAP_CTRL_GO g).put 1 w) = v at *
  simp only [cls, paths, frame.lg] at run
  refine ⟨_, run, go, State.lg_setLg_same _ _ _, fun k hk => (State.lg_setLg_ne _ _ hk).trans (frame.lg k), ?_, regs.congr rfl⟩
  obtain ⟨r, frame⟩ := frame
  rw [frame]
  rfl

/-- The bits of the active banks that a swap of the paths `m` in class `c` flips. -/
def flipBits (c m : Nat) : Nat := bitsToNat ((List.range 32).map (fun k => k % 4 == c && bitOf m (k / 4)))

theorem testBit_bitsToNat : ∀ (bs : List Bool) (i : Nat), (bitsToNat bs).testBit i = bs.getD i false
  | [], i => by simp [bitsToNat]
  | b :: bs, 0 => by cases b <;> simp [bitsToNat, Nat.testBit_zero]
  | b :: bs, i + 1 => by
    have half : bitsToNat (b :: bs) / 2 = bitsToNat bs := by
      rw [bitsToNat]
      split_ifs <;> omega
    rw [Nat.testBit_add_one, half, testBit_bitsToNat bs i, List.getD_cons_succ]

/-- A swap of the paths `m` in class `c` flips their bits. -/
def State.flipped (s : State) (g c m : Nat) : State :=
  (s.setLg g { s.lg g with swap := none }).wr (Reg.LIN_PGg_PD_ACTIVE g) (s.rd (Reg.LIN_PGg_PD_ACTIVE g) ^^^ BitVec.ofNat 32 (flipBits c m))

theorem State.flipped_activeBank (s : State) (g c m : Nat) {i d : Nat} (hi : i < 8) (hd : d < 4) :
    (s.flipped g c m).activeBank g i d = if d = c ∧ bitOf m i then 1 - s.activeBank g i d else s.activeBank g i d := by
  have word : ((s.flipped g c m).fld (Fld.LIN_PGg_PD_ACTIVE_BANK g)).testBit (4 * i + d) =
      ((s.fld (Fld.LIN_PGg_PD_ACTIVE_BANK g)).testBit (4 * i + d) != (flipBits c m).testBit (4 * i + d)) := by
    have := show 4 * i + d < 32 by omega
    rw [State.fld, State.fld, testBit_getField, testBit_getField, State.flipped, State.rd_wr_same, BitVec.getLsbD_xor, BitVec.getLsbD_ofNat]
    simp [this]
  have bits : (flipBits c m).testBit (4 * i + d) = (d == c && bitOf m i) := by
    have := show 4 * i + d < 32 by omega
    rw [flipBits, testBit_bitsToNat, List.getD_eq_getElem?_getD, List.getElem?_map, List.getElem?_range this, Option.map_some, Option.getD_some,
      show (4 * i + d) % 4 = d by omega, show (4 * i + d) / 4 = i by omega]
  simp only [State.activeBank, bitOf_eq_testBit, word] at bits ⊢
  rw [bits]
  cases (s.fld (Fld.LIN_PGg_PD_ACTIVE_BANK g)).testBit (4 * i + d) <;> cases m.testBit i <;> by_cases e : d = c <;> simp [e, bit]

theorem State.flipped_parts (s : State) (g c m : Nat) : (s.flipped g c m).lg g = { s.lg g with swap := none } ∧
    s.flipped g c m = { s with regs := (s.flipped g c m).regs, lin := { s.lin with groups := (s.flipped g c m).lin.groups } } ∧
    s.regsBut (s.flipped g c m) [Reg.LIN_PGg_SWAP_CTRL g, Reg.LIN_PGg_PD_ACTIVE g] :=
  ⟨State.lg_setLg_same s g _, rfl, (State.regsBut.of_regs rfl _).wr _ (by simp)⟩

/-- A swap has happened: its GO is clear, `x` is logged and `e` raised. -/
def State.swapDone (s : State) (g : Nat) (x : List SymbolLog) (e : List EventRec) : State :=
  { s.setFld (Fld.LIN_PGg_SWAP_CTRL_GO g) 0 with raise := e, rf := { s.rf with log := x } }

theorem State.swapDone_shape (s : State) (g : Nat) (x : List SymbolLog) (e : List EventRec) :
    s.swapDone g x e = { s with regs := (s.swapDone g x e).regs, raise := e, rf := { s.rf with log := x } } := rfl

theorem State.swapDone_lg (s : State) (g : Nat) (x : List SymbolLog) (e : List EventRec) (h : Nat) : (s.swapDone g x e).lg h = s.lg h := rfl

theorem State.swapDone_regs (s : State) (g : Nat) (x : List SymbolLog) (e : List EventRec) :
    (s.swapDone g x e).on (Fld.LIN_PGg_SWAP_CTRL_GO g) = false ∧ (∀ i d, (s.swapDone g x e).activeBank g i d = s.activeBank g i d) ∧
    s.regsBut (s.swapDone g x e) [Reg.LIN_PGg_SWAP_CTRL g, Reg.LIN_PGg_PD_ACTIVE g] := by
  have regs : s.regsBut (s.swapDone g x e) [Reg.LIN_PGg_SWAP_CTRL g] := ((State.regsBut.refl s _).setFld _ (by simp)).congr rfl
  refine ⟨?_, fun i d => ?_, regs.mono (by simp)⟩
  · rw [State.on_eq_false]
    exact State.fld_setFld_same _ _ _ (by simp) (by simp)
  · rw [State.activeBank, regs.fld _ (by simp), State.activeBank]

theorem State.swapDone_settings (s : State) {g : Nat} (hg : g < 8) (x : List SymbolLog) (e : List EventRec) : s.sameSettings (s.swapDone g x e) :=
  ⟨rfl, rfl, rfl, rfl, rfl, rfl, rfl, rfl, rfl, rfl, fun a ha => State.rd_setFld_ne s _ _ (by
    unfold settingReg at ha
    simp only [Reg.LIN_PGg_SWAP_CTRL]
    omega)⟩

theorem State.swapDone_eq (s : State) (g : Nat) (x : List SymbolLog) {info : Nat} (room : s.raiseRoom 1) :
    (({ s with rf := { s.rf with log := x } } : State).setFld (Fld.LIN_PGg_SWAP_CTRL_GO g) 0).event 0x80 info =
      s.swapDone g x (s.raise ++ [s.occurrence 0x80 info]) :=
  State.event_raiseRoom (s := ({ s with rf := { s.rf with log := x } } : State).setFld (Fld.LIN_PGg_SWAP_CTRL_GO g) 0) (room.congr rfl rfl) (by decide) _ _

theorem exec_pdBankSwap (gr : Fin 8) {c m : Nat} (waits : (s.lg gr.val).swap = some (c, m)) (noLoad : (s.lg gr.val).load = none) :
    exec (.pdBankSwap gr) s = .next (((((s.flipped gr.val c m).mixCapture gr.val (fun w => w.cls == c && bitOf m w.path)).retake).setFld
      (Fld.LIN_PGg_SWAP_CTRL_GO gr.val) 0).event 0x80 (m + 256 * c + 4096 * gr.val)) := by
  show execPdBankSwap gr s = _
  simp only [execPdBankSwap, waits, noLoad, Bool.false_eq_true, if_false, State.flipped, flipBits]
  rfl

theorem pdBanksSwap (gr : Fin 8) {c m : Nat} (waits : (s.lg gr.val).swap = some (c, m)) (noLoad : (s.lg gr.val).load = none)
    (noWindow : (s.lg gr.val).window = none) (room : s.raiseRoom 1) :
    ∃ t, exec (.pdBankSwap gr) s = .next t ∧ (t.lg gr.val).swap = none ∧ t.on (Fld.LIN_PGg_SWAP_CTRL_GO gr.val) = false ∧
      (∀ i d, i < 8 → d < 4 →
        t.activeBank gr.val i d = if d = c ∧ bitOf m i then 1 - s.activeBank gr.val i d else s.activeBank gr.val i d) ∧
      t.raise = s.raise ++ [s.occurrence 0x80 (m + 256 * c + 4096 * gr.val)] ∧ t.lin.banks = s.lin.banks ∧
      t.rf = { s.rf with log := t.rf.log } ∧ t.rf.log.tail = s.rf.log.tail ∧
      (∀ l, s.rf.log.head? = some l → l.air = symStart s.time.scs s.air → t.rf.log.head? = some (t.withSettings l)) ∧
      t = { s with regs := t.regs, raise := t.raise, lin := t.lin, rf := t.rf } ∧
      s.regsBut t [Reg.LIN_PGg_SWAP_CTRL gr.val, Reg.LIN_PGg_PD_ACTIVE gr.val] := by
  have run := exec_pdBankSwap gr waits noLoad
  have still (u : State) (hu : (u.lg gr.val).window = none) (f : Capture → Bool) : u.mixCapture gr.val f = u := by rw [State.mixCapture, hu]
  have banks (i d : Nat) := s.flipped_activeBank gr.val c m (i := i) (d := d)
  obtain ⟨lg, frame, regs⟩ := s.flipped_parts gr.val c m
  have small := gr.isLt
  rw [still _ (by rw [lg]; exact noWindow)] at run
  generalize s.flipped gr.val c m = v at *
  generalize gr.val = g at *
  obtain ⟨x, taken, tail, head⟩ := v.retake_log
  have rf : v.rf = s.rf := by rw [frame]
  have now : symStart v.time.scs v.air = symStart s.time.scs s.air := by rw [frame]
  have room' : v.raiseRoom 1 := room.congr (by rw [frame]) (by rw [frame])
  have raise : v.raise ++ [v.occurrence 0x80 (m + 256 * c + 4096 * g)] = s.raise ++ [s.occurrence 0x80 (m + 256 * c + 4096 * g)] := by
    rw [frame]
    rfl
  rw [taken, v.swapDone_eq g x room', raise] at run
  rw [rf, now] at head
  generalize s.raise ++ [s.occurrence 0x80 (m + 256 * c + 4096 * g)] = e at *
  have same := v.swapDone_settings small x e
  obtain ⟨off, active, clear⟩ := v.swapDone_regs g x e
  have shape := v.swapDone_shape g x e
  have lg' := v.swapDone_lg g x e g
  generalize v.swapDone g x e = t at *
  have log : t.rf.log = x := by rw [shape]
  refine ⟨t, run, by rw [lg', lg], off, fun i d hi hd => (active i d).trans (banks i d hi hd), by rw [shape], ?_, ?_, ?_, fun l hl ha => ?_, ?_, regs.trans clear⟩
  · rw [shape, frame]
  · rw [shape, rf]
  · rw [log, tail, rf]
  · rw [log, same.withSettings l]
    exact head l hl ha
  · rw [shape, frame]

/-- Settles O43: a load engine runs, fills or reads its bank and stops; a swap waits for its boundary and flips the banks of its paths and class, which
the logged symbol takes. -/
theorem preDistortionBanksLoadAndSwap : Obligations.PreDistortionBanksLoadAndSwap := by
  unfold Obligations.PreDistortionBanksLoadAndSwap
  rintro gr q w s g rfl
  refine ⟨fun c wr hc pass calm => ?_, fun l hl range clean mode _ hcls => pdLoadEnds gr l hl range clean mode hcls, fun pass calm => ?_,
    fun c m hs hl hw room => pdBanksSwap gr hs hl hw room⟩
  · have run := exec_pdLoad gr w hc pass calm
    exact ⟨fun busy => pdLoad_overrun gr w run busy, fun idle range noSwap => pdLoad_started gr w wr run idle range noSwap⟩
  · exact ⟨fun on => pdSwap_overrun gr w pass calm on, fun off => pdSwap_taken gr w pass calm off⟩

end Sys2Proof.Machine

/-!
PROOFS. The observation sequencer, its captures, and the correlator (O44).
-/

namespace Sys2Proof.Machine

variable {s t u v : State} {as : List Nat} {a g n m k : Nat} {q : Requester} {d : Word}

/-! ### What a group's own steps change -/

/-- Of the groups only `g` turns, and beside them registers of the list, the store and the raise FIFO. -/
structure State.turns (s : State) (g : Nat) (as : List Nat) (t : State) : Prop where
  others : ∀ h, h ≠ g → t.lg h = s.lg h
  frame : t = { s with regs := t.regs, store := t.store, raise := t.raise, lin := { s.lin with groups := t.lin.groups } }
  regs : s.regsBut t as

namespace State.turns

theorem refl (s : State) (g : Nat) (as : List Nat) : s.turns g as s := ⟨fun _ _ => rfl, rfl, .refl s as⟩

theorem trans (h : s.turns g as t) (h' : t.turns g as u) : s.turns g as u := by
  refine ⟨fun k hk => (h'.others k hk).trans (h.others k hk), ?_, h.regs.trans h'.regs⟩
  have shape := h.frame
  generalize t.regs = r, t.store = m, t.raise = e, t.lin.groups = x at shape
  subst shape
  exact h'.frame

theorem beside (h : s.beside t) (regs : s.regsBut t as) (g : Nat) : s.turns g as t := by
  refine ⟨fun k _ => h.lg k, ?_, regs⟩
  obtain ⟨r, rfl⟩ := h
  rfl

theorem setLg (h : s.turns g as t) (x : LinGroup) : s.turns g as (t.setLg g x) :=
  h.trans ⟨fun _ hk => State.lg_setLg_ne t x hk, rfl, State.regsBut.of_regs rfl _⟩

theorem setFld (h : s.turns g as t) {f : Fld} (v : Nat) (hf : f.addr ∈ as) : s.turns g as (t.setFld f v) :=
  h.trans (beside ⟨_, rfl⟩ ((State.regsBut.refl t as).setFld v hf) g)

theorem wr (h : s.turns g as t) (w : Word) (ha : a ∈ as) : s.turns g as (t.wr a w) :=
  h.trans (beside ⟨_, rfl⟩ ((State.regsBut.refl t as).wr w ha) g)

theorem count (h : s.turns g as t) {f : Fld} (n : Nat) (hf : f.addr ∈ as) : s.turns g as (t.count f n) :=
  h.trans (beside ⟨_, rfl⟩ ((State.regsBut.refl t as).count n hf) g)

theorem plainWrite (h : s.turns g as t) (d : Word) (ha : a ∈ as) : s.turns g as (t.plainWrite a d) := h.wr _ ha

theorem corePend (h : s.turns g as t) {c : Nat} (k : Nat) (hc : Reg.CORE_IRQ c ∈ as) : s.turns g as (t.corePend c k) :=
  h.trans (beside (State.beside.corePend (.refl t) c k) (State.regsBut.corePend (.refl t as) k hc) g)

theorem raise (h : s.turns g as t) (e : List EventRec) : s.turns g as { t with raise := e } :=
  h.trans ⟨fun _ _ => rfl, rfl, State.regsBut.of_regs rfl _⟩

theorem putStore (h : s.turns g as t) (p : Nat) (bs : List Byte) : s.turns g as (t.putStore p bs) :=
  h.trans ⟨fun _ _ => rfl, rfl, State.regsBut.of_regs rfl _⟩

theorem still (h : s.turns g as t) (hr : t.raise = s.raise) (hs : t.store = s.store) :
    t = { s with regs := t.regs, lin := { s.lin with groups := t.lin.groups } } := by
  have shape := h.frame
  rw [hr, hs] at shape
  exact shape

theorem quiet (h : s.turns g as t) (hs : t.store = s.store) :
    t = { s with regs := t.regs, raise := t.raise, lin := { s.lin with groups := t.lin.groups } } := by
  have shape := h.frame
  rw [hs] at shape
  exact shape

end State.turns

/-! ### The sequencer's path, and the release of the buffer (R287, R290) -/

theorem State.selectPath_turns (s : State) (g : Nat) (as : List Nat) : s.turns g as (s.selectPath g) := by
  unfold State.selectPath
  split
  · dsimp only
    split_ifs
    · exact .refl s g as
    · exact .setLg (.refl s g as) _
  · exact .refl s g as

/-- The choice of a path shows in the lines and their instant alone. -/
theorem State.selectPath_parts (s : State) (g : Nat) : ∃ x y, (s.selectPath g).lg g = { s.lg g with sel := x, selAt := y } ∧
    (s.selectPath g).regs = s.regs ∧ (s.selectPath g).raise = s.raise ∧ (s.selectPath g).store = s.store := by
  unfold State.selectPath
  split
  · dsimp only
    split_ifs
    · exact ⟨_, _, rfl, rfl, rfl, rfl⟩
    · exact ⟨_, _, State.lg_setLg_same _ _ _, rfl, rfl, rfl⟩
  · exact ⟨_, _, rfl, rfl, rfl, rfl⟩

theorem State.selectPath_none (h : s.nextPath g = none) : s.selectPath g = s := by
  rw [State.selectPath, h]

theorem State.releaseCapture_turns (s : State) (g : Nat) : s.turns g [Reg.LIN_PGg_CAP_STATUS g] (s.releaseCapture g) := by
  unfold State.releaseCapture
  split_ifs
  · exact .setFld (.setLg (.refl s g _) _) _ (by simp)
  · exact .refl s g _

theorem State.releaseCapture_parts (s : State) (g : Nat) : ∃ x y, (s.releaseCapture g).lg g = { s.lg g with record := x, samples := y } ∧
    (s.releaseCapture g).raise = s.raise ∧ (s.releaseCapture g).store = s.store := by
  unfold State.releaseCapture
  split_ifs
  · exact ⟨_, _, State.lg_setLg_same _ _ _, rfl, rfl⟩
  · exact ⟨_, _, rfl, rfl, rfl⟩

theorem State.nextPath_off (s : State) (g : Nat) (h : s.seqMode g = seqOff) : s.nextPath g = none := by
  rw [State.nextPath, h]
  rfl

/-! ### SEQ_CTRL (R287) -/

theorem State.linPageWrite_seq (s : State) (h : s.disturbLop2 g (Reg.LIN_PGg_SEQ_CTRL g) q = s) (d : Word) :
    s.linPageWrite g (Reg.LIN_PGg_SEQ_CTRL g) q d = s.seqCtrlWrite g d := by
  rw [State.linPageWrite, h, if_pos rfl]

theorem seqModeCodes : ∀ g : Fin 8, ∀ m < 3, (Fld.LIN_PGg_SEQ_CTRL_MODE g.val).accepts m = true := by decide

theorem exec_seqMode (gr : Fin 8) (w : Word) {c : Instr} (hc : (c = .seqModeOff gr q w ∧ m = seqOff) ∨ (c = .seqModeAuto gr q w ∧ m = seqAuto) ∨
      (c = .seqModeSingle gr q w ∧ m = seqSingle)) (h : s.passes q (Reg.LIN_PGg_SEQ_CTRL gr.val) true)
    (calm : s.disturbLop2 gr.val (Reg.LIN_PGg_SEQ_CTRL gr.val) q = s) :
    m < 3 ∧ exec c s = .next (s.seqCtrlWrite gr.val ((Fld.LIN_PGg_SEQ_CTRL_MODE gr.val).put m w)) := by
  rw [← s.linPageWrite_seq calm]
  rcases hc with ⟨rfl, rfl⟩ | ⟨rfl, rfl⟩ | ⟨rfl, rfl⟩
  · exact ⟨by decide, exec_access (f := fun s => s.linPageWrite gr.val (Reg.LIN_PGg_SEQ_CTRL gr.val) q ((Fld.LIN_PGg_SEQ_CTRL_MODE gr.val).put seqOff w)) h rfl⟩
  · exact ⟨by decide, exec_access (f := fun s => s.linPageWrite gr.val (Reg.LIN_PGg_SEQ_CTRL gr.val) q ((Fld.LIN_PGg_SEQ_CTRL_MODE gr.val).put seqAuto w)) h rfl⟩
  · exact ⟨by decide, exec_access (f := fun s => s.linPageWrite gr.val (Reg.LIN_PGg_SEQ_CTRL gr.val) q ((Fld.LIN_PGg_SEQ_CTRL_MODE gr.val).put seqSingle w)) h rfl⟩

theorem seqMode_taken (gr : Fin 8) (w : Word) {c : Instr} (hm : m < 3)
    (run : exec c s = .next (s.seqCtrlWrite gr.val ((Fld.LIN_PGg_SEQ_CTRL_MODE gr.val).put m w))) :
    ∃ t, exec c s = .next t ∧ t.seqMode gr.val = m ∧
      t.rd (Reg.LIN_PGg_SEQ_CTRL gr.val) =
        writeWord (Reg.LIN_PGg_SEQ_CTRL gr.val) ((Fld.LIN_PGg_SEQ_CTRL_MODE gr.val).put m w) (s.rd (Reg.LIN_PGg_SEQ_CTRL gr.val)) ∧
      (m = seqOff → t.nextPath gr.val = none ∧ (t.lg gr.val).sel = (s.lg gr.val).sel) ∧ (t.lg gr.val).window = (s.lg gr.val).window ∧
      (∀ h, h ≠ gr.val → t.lg h = s.lg h) ∧ t = { s with regs := t.regs, lin := { s.lin with groups := t.lin.groups } } ∧
      s.regsBut t [Reg.LIN_PGg_SEQ_CTRL gr.val, Reg.LIN_PGg_CAP_STATUS gr.val] := by
  have codes := seqModeCodes gr m hm
  generalize gr.val = g at *
  have mode : (s.plainWrite (Reg.LIN_PGg_SEQ_CTRL g) ((Fld.LIN_PGg_SEQ_CTRL_MODE g).put m w)).fld (Fld.LIN_PGg_SEQ_CTRL_MODE g) = m :=
    s.fld_plainWrite_accepts (Fld.LIN_PGg_SEQ_CTRL_MODE g) (Fld.of_put_same _ _ _ (by simp) (Nat.lt_trans hm (by simp))) codes
  have word : (s.plainWrite (Reg.LIN_PGg_SEQ_CTRL g) ((Fld.LIN_PGg_SEQ_CTRL_MODE g).put m w)).rd (Reg.LIN_PGg_SEQ_CTRL g) =
      writeWord (Reg.LIN_PGg_SEQ_CTRL g) ((Fld.LIN_PGg_SEQ_CTRL_MODE g).put m w) (s.rd (Reg.LIN_PGg_SEQ_CTRL g)) := State.rd_wr_same _ _ _
  have written : s.turns g [Reg.LIN_PGg_SEQ_CTRL g, Reg.LIN_PGg_CAP_STATUS g] (s.plainWrite (Reg.LIN_PGg_SEQ_CTRL g) ((Fld.LIN_PGg_SEQ_CTRL_MODE g).put m w)) :=
    (State.turns.refl s g _).plainWrite _ (by simp)
  have same : (s.plainWrite (Reg.LIN_PGg_SEQ_CTRL g) ((Fld.LIN_PGg_SEQ_CTRL_MODE g).put m w)).lg g = s.lg g ∧
    (s.plainWrite (Reg.LIN_PGg_SEQ_CTRL g) ((Fld.LIN_PGg_SEQ_CTRL_MODE g).put m w)).raise = s.raise ∧
    (s.plainWrite (Reg.LIN_PGg_SEQ_CTRL g) ((Fld.LIN_PGg_SEQ_CTRL_MODE g).put m w)).store = s.store := ⟨rfl, rfl, rfl⟩
  rw [State.seqCtrlWrite] at run
  generalize s.plainWrite (Reg.LIN_PGg_SEQ_CTRL g) ((Fld.LIN_PGg_SEQ_CTRL_MODE g).put m w) = v at *
  obtain ⟨lg, raise, store⟩ := same
  have released := v.releaseCapture_turns g
  obtain ⟨x, y, lg', raise', store'⟩ := v.releaseCapture_parts g
  generalize v.releaseCapture g = u at *
  have selected := u.selectPath_turns g [Reg.LIN_PGg_SEQ_CTRL g, Reg.LIN_PGg_CAP_STATUS g]
  have off : m = seqOff → u.selectPath g = u := fun e => State.selectPath_none (u.nextPath_off g ((released.regs.fld _ (by simp)).trans (mode.trans e)))
  obtain ⟨x', y', lg'', regs'', raise'', store''⟩ := u.selectPath_parts g
  generalize u.selectPath g = t at *
  have all := (written.trans ⟨released.others, released.frame, released.regs.mono (by simp)⟩).trans selected
  have rd (a : Nat) (ha : a ≠ Reg.LIN_PGg_CAP_STATUS g) : t.rd a = v.rd a :=
    (State.regsBut.of_regs regs'' [] a List.not_mem_nil).trans (released.regs a (by simpa using ha))
  have mode' : t.seqMode g = m := (State.fld_congr (rd _ (by simp))).trans mode
  refine ⟨t, run, mode', (rd _ (by simp)).trans word, fun e => ⟨t.nextPath_off g (mode'.trans e), ?_⟩, ?_, all.others,
    all.still (raise''.trans (raise'.trans raise)) (store''.trans (store'.trans store)), all.regs⟩
  · rw [off e, lg', lg]
  · rw [lg'', lg', lg]

/-! ### A capture begins (R288) -/

theorem captureStarts (gr : Fin 8) {u : State} (hu : u = s.selectPath gr.val) {i : Nat} (next : u.nextPath gr.val = some i)
    (may : u.mayCapture gr.val i = true) :
    ∃ t, exec (.orxCaptureStart gr) s = .next t ∧
      t.lg gr.val = { u.lg gr.val with
        window := some ⟨i, s.time.pdClass, s.fld (Fld.LIN_PGg_SEQ_CFG_REF_SRC gr.val), s.activeBank gr.val i s.time.pdClass, false, s.air,
          s.fld (Fld.LIN_PATHp_REFDLY_DLY (8 * gr.val + i)), 0, s.fld (Fld.RFE_PGg_ORX_OGAIN gr.val),
            s.seqMode gr.val == seqSingle⟩, started := some s.air, last := i } ∧
      t.on (Fld.LIN_PGg_CAP_STATUS_BUSY gr.val) = true ∧ (∀ h, h ≠ gr.val → t.lg h = s.lg h) ∧
      t = { s with regs := t.regs, lin := { s.lin with groups := t.lin.groups } } ∧ s.regsBut t [Reg.LIN_PGg_CAP_STATUS gr.val] := by
  have run : exec (.orxCaptureStart gr) s = execOrxCaptureStart gr s := rfl
  dsimp only [execOrxCaptureStart] at run
  rw [← hu] at run
  simp only [next, may, if_true] at run
  obtain ⟨x, y, lg, regs, raise, store⟩ := s.selectPath_parts gr.val
  have turned := s.selectPath_turns gr.val [Reg.LIN_PGg_CAP_STATUS gr.val]
  generalize gr.val = g at *
  rw [← hu] at lg regs raise store turned
  have fld (f : Fld) : u.fld f = s.fld f := State.fld_congr (State.regsBut.of_regs regs [] _ List.not_mem_nil)
  have bank (c : Nat) : u.activeBank g i c = s.activeBank g i c := by rw [State.activeBank, fld, State.activeBank]
  have time : u.time = s.time ∧ u.air = s.air := by rw [turned.frame]; exact ⟨rfl, rfl⟩
  simp only [State.seqMode, fld, bank, time.1, time.2] at run
  have all := fun x => (turned.setLg x).setFld (f := Fld.LIN_PGg_CAP_STATUS_BUSY g) 1 (by simp)
  exact ⟨_, run, State.lg_setLg_same _ _ _, State.on_setFld_one _ _ (by simp) (by simp), (all _).others, (all _).still raise store, (all _).regs⟩

/-! ### INTERVAL and the port (R288, R289) -/

theorem intervalSkips (gr : Fin 8) (auto : s.seqMode gr.val = seqAuto) (interval : s.fld (Fld.LIN_PGg_SEQ_CTRL_INTERVAL gr.val) ≠ 0)
    (held : s.on (Fld.LIN_PGg_CAP_STATUS_HELD gr.val) = true) :
    ∃ t, exec (.intervalSkip gr) s = .next t ∧ t.fld (Fld.LIN_PGg_CAP_STATUS_SKIPS gr.val) =
        min (2 ^ (Fld.LIN_PGg_CAP_STATUS_SKIPS gr.val).width - 1) (s.fld (Fld.LIN_PGg_CAP_STATUS_SKIPS gr.val) + 1) ∧
      s.onlyRegs t [Reg.LIN_PGg_CAP_STATUS gr.val] := by
  have run : exec (.intervalSkip gr) s = execIntervalSkip gr s := rfl
  rw [execIntervalSkip] at run
  simp only [auto, interval, held, ne_eq, not_false_eq_true, and_self, if_true] at run
  exact ⟨_, run, State.fld_count_same _ _ _ (by simp), rfl, (State.regsBut.refl s _).count 1 (by simp)⟩

theorem portRead (gr : Fin 8) {x : Word} {xs : List Word} (pass : s.passes q (Reg.LIN_PGg_PORT gr.val) false) (record : (s.lg gr.val).record = x :: xs)
    (drain : s.on (Fld.LIN_PGg_SEQ_CTRL_DRAIN_EN gr.val) = true) (noCor : s.on (Fld.LIN_PGg_SEQ_CTRL_COR_EN gr.val) = false) :
    ∃ t, exec (.capturePortRead gr q) s = .next t ∧
      t.lg gr.val = { s.lg gr.val with record := xs, samples := if xs = [] then [] else (s.lg gr.val).samples } ∧
      t.on (Fld.LIN_PGg_CAP_STATUS_HELD gr.val) = (s.on (Fld.LIN_PGg_CAP_STATUS_HELD gr.val) && xs != []) ∧ (∀ h, h ≠ gr.val → t.lg h = s.lg h) ∧
      t = { s with regs := t.regs, lin := { s.lin with groups := t.lin.groups } } ∧ s.regsBut t [Reg.LIN_PGg_CAP_STATUS gr.val] := by
  have run : exec (.capturePortRead gr q) s = .next (s.capPortRead gr.val).1 := by
    rw [← s.accessRead_passes q _ (fun s => (s.capPortRead gr.val).1) pass]
    rfl
  generalize gr.val = g at *
  have words : s.portWords g = x :: xs := by rw [State.portWords, if_pos drain, record]
  rw [State.capPortRead, words] at run
  have taken : (s.setLg g { s.lg g with record := xs }).lg g = { s.lg g with record := xs } := State.lg_setLg_same _ _ _
  have turned : s.turns g [Reg.LIN_PGg_CAP_STATUS g] (s.setLg g { s.lg g with record := xs }) := .setLg (.refl s g _) _
  have same : (s.setLg g { s.lg g with record := xs }).raise = s.raise ∧ (s.setLg g { s.lg g with record := xs }).store = s.store ∧
    (s.setLg g { s.lg g with record := xs }).regs = s.regs := ⟨rfl, rfl, rfl⟩
  dsimp only at run
  generalize s.setLg g { s.lg g with record := xs } = v at *
  obtain ⟨raise, store, regs⟩ := same
  have on (f : Fld) : v.on f = s.on f := congrArg (fun x => decide (x ≠ 0)) (State.fld_congr (State.regsBut.of_regs regs [] _ List.not_mem_nil))
  have whether : v.releaseCapture g = if xs = [] then (v.setLg g { v.lg g with record := [], samples := [] }).setFld (Fld.LIN_PGg_CAP_STATUS_HELD g) 0 else v := by
    rw [State.releaseCapture, on, on, drain, noCor, taken]
    cases xs <;> rfl
  rw [whether] at run
  by_cases last : xs = []
  · rw [if_pos last] at run
    have all := (turned.setLg { v.lg g with record := [], samples := [] }).setFld (f := Fld.LIN_PGg_CAP_STATUS_HELD g) 0 (by simp)
    refine ⟨_, run, (State.lg_setLg_same _ _ _).trans ?_, ?_, all.others, all.still raise store, all.regs⟩
    · rw [taken, last]
      rfl
    · rw [last, (State.on_eq_false _ _).mpr (State.fld_setFld_same _ _ _ (by simp) (by simp))]
      simp
  · rw [if_neg last] at run
    refine ⟨_, run, ?_, ?_, turned.others, turned.still raise store, turned.regs⟩
    · rw [taken, if_neg last]
    · rw [on]
      simp [last]

/-! ### A capture ends (R288 to R290) -/

theorem orxCode_sq (v : BitVec 24) : orxEnergy v ≤ 134217728 := by
  unfold orxEnergy orxCode
  have bound (x : Nat) : (sext 12 x) ^ 2 ≤ 4194304 := by
    have low : -2048 ≤ sext 12 x := by unfold sext; split_ifs <;> omega
    have high : sext 12 x ≤ 2048 := by unfold sext; split_ifs <;> omega
    nlinarith [sq_nonneg (sext 12 x)]
  have := bound v.toNat
  have := bound (v.toNat / 4096)
  dsimp only
  omega

theorem orxEnergy_sum (orx : List (BitVec 24)) : (orx.map orxEnergy).sum ≤ 134217728 * orx.length := by
  induction orx with
  | nil => exact Nat.le_refl _
  | cons v orx ih =>
    have := orxCode_sq v
    rw [List.map_cons, List.sum_cons, List.length_cons]
    omega

theorem captureEx_lt (s : State) (p : Nat) (v : Capture) : s.captureEx p v < 2 ^ 48 := by
  unfold State.captureEx
  split_ifs
  · decide
  · exact Nat.mod_lt _ (by decide)

/-- A number shown in a low and a high word. -/
theorem lowHigh {x : Nat} (h : x < 2 ^ 64) : (BitVec.ofNat 32 x).toNat + 2 ^ 32 * (BitVec.ofNat 32 (x / 2 ^ 32)).toNat = x := by
  rw [BitVec.toNat_ofNat, BitVec.toNat_ofNat]
  omega

theorem range_getD {α : Type} (l : List α) {n : Nat} (d : α) (h : l.length = n) : (List.range n).map (fun k => l.getD k d) = l := by
  subst h
  refine List.ext_getElem (by simp) fun i hi hi' => ?_
  simp [List.getD_eq_getElem?_getD, hi']

/-- A capture's figures are shown and it is counted. -/
def State.showCapture (s : State) (g : Nat) (v : Capture) (e ex : Nat) : State :=
  ((((((s.setFld (Fld.LIN_PGg_CAP_STATUS_BUSY g) 0).wr (Reg.LIN_PGg_CAP_INFO g)
    (BitVec.ofNat 32 (v.path + 256 * v.cls + 4096 * bit v.mixed + 65536 * v.clip))).wr (Reg.LIN_PGg_CAP_EORX_LO g) (BitVec.ofNat 32 e)).wr
    (Reg.LIN_PGg_CAP_EORX_HI g) (BitVec.ofNat 32 (e / 2 ^ 32))).wr (Reg.LIN_PGg_CAP_EX_LO g) (BitVec.ofNat 32 ex)).wr (Reg.LIN_PGg_CAP_EX_HI g)
    (BitVec.ofNat 32 (ex / 2 ^ 32))).count (Fld.LIN_PGg_CAP_STATUS_CAPTURES g) 1

/-- The registers that show a capture. -/
def captureRegs (g : Nat) : List Nat := [Reg.LIN_PGg_CAP_STATUS g, Reg.LIN_PGg_CAP_INFO g, Reg.LIN_PGg_CAP_EORX_LO g, Reg.LIN_PGg_CAP_EORX_HI g,
  Reg.LIN_PGg_CAP_EX_LO g, Reg.LIN_PGg_CAP_EX_HI g, Reg.LIN_PGg_SEQ_CTRL g, Reg.CORE_IRQ g]

theorem State.showCapture_shows (s : State) (g : Nat) (v : Capture) (e ex : Nat) :
    (s.showCapture g v e ex).on (Fld.LIN_PGg_CAP_STATUS_BUSY g) = false ∧
    (s.showCapture g v e ex).rd (Reg.LIN_PGg_CAP_EORX_LO g) = BitVec.ofNat 32 e ∧
    (s.showCapture g v e ex).rd (Reg.LIN_PGg_CAP_EORX_HI g) = BitVec.ofNat 32 (e / 2 ^ 32) ∧
    (s.showCapture g v e ex).rd (Reg.LIN_PGg_CAP_EX_LO g) = BitVec.ofNat 32 ex ∧
    (s.showCapture g v e ex).rd (Reg.LIN_PGg_CAP_EX_HI g) = BitVec.ofNat 32 (ex / 2 ^ 32) ∧
    s.beside (s.showCapture g v e ex) ∧ s.regsBut (s.showCapture g v e ex) [Reg.LIN_PGg_CAP_STATUS g, Reg.LIN_PGg_CAP_INFO g,
      Reg.LIN_PGg_CAP_EORX_LO g, Reg.LIN_PGg_CAP_EORX_HI g, Reg.LIN_PGg_CAP_EX_LO g, Reg.LIN_PGg_CAP_EX_HI g] := by
  unfold State.showCapture
  refine ⟨?_, ?_, ?_, ?_, ?_, ⟨_, rfl⟩, ?_⟩
  · rw [State.on_eq_false, State.fld_count_ne _ _ _ _ (by simp) (by simp)]
    simp (disch := simp) only [State.fld_wr_ne]
    exact State.fld_setFld_same _ _ _ (by simp) (by simp)
  · simp (disch := simp) only [State.count, State.rd_setFld_ne, State.rd_wr_ne, State.rd_wr_same]
  · simp (disch := simp) only [State.count, State.rd_setFld_ne, State.rd_wr_ne, State.rd_wr_same]
  · simp (disch := simp) only [State.count, State.rd_setFld_ne, State.rd_wr_ne, State.rd_wr_same]
  · simp (disch := simp) only [State.count, State.rd_setFld_ne, State.rd_wr_same]
  · exact (((((((State.regsBut.refl s _).setFld _ (by simp)).wr _ (by simp)).wr _ (by simp)).wr _ (by simp)).wr _ (by simp)).wr _ (by simp)).count _ (by simp)

/-- The end of a SINGLE capture turns the sequencer off. -/
def State.singleEnds (s : State) (g : Nat) (single : Bool) : State :=
  if s.seqMode g = seqSingle ∧ single then s.setFld (Fld.LIN_PGg_SEQ_CTRL_MODE g) seqOff else s

/-- The buffer holds the capture for the port and the correlator, where they are on. -/
def State.holdCapture (s : State) (g : Nat) (w : Capture) (e ex : Nat) (orx : List (BitVec 24)) (ref : List Word) : State :=
  let drain := s.on (Fld.LIN_PGg_SEQ_CTRL_DRAIN_EN g)
  let cor := s.on (Fld.LIN_PGg_SEQ_CTRL_COR_EN g)
  let s := s.setLg g { s.lg g with
    window := none
    record := if drain || cor then captureRecord w e ex orx ref else []
    samples := if drain || cor then (orx.map orxWord).zip ref else []
    run := if cor then some w else (s.lg g).run }
  let s := if cor then s.setFld (Fld.LIN_PGg_COR_STATUS_BUSY g) 1 else s
  s.setFld (Fld.LIN_PGg_CAP_STATUS_HELD g) (bit (drain || cor))

/-- The capture `w` of group `g` ends, with its energies, its ORX samples and its reference. -/
def State.endCapture (s : State) (g : Nat) (w : Capture) (e ex : Nat) (orx : List (BitVec 24)) (ref : List Word) : State :=
  (((((((s.showCapture g w e ex).event 0x82 (w.path + 16 * g + 256 * w.cls + 4096 * bit w.mixed + 65536 * w.clip)).txLoop (8 * g + w.path) w e
    ex).corePend g 4).singleEnds g w.single).holdCapture g w e ex orx ref).selectPath g)

theorem execOrxCaptureEnd_eq (gr : Fin 8) (orx : List (BitVec 24)) (s : State) : execOrxCaptureEnd gr orx s = .next (match (s.lg gr.val).window with
    | some w =>
      let x := (List.range capLen).map (fun k => orx.getD k 0#24)
      let w' := { w with clip := (x.map orxClip).sum }
      s.endCapture gr.val w' (x.map orxEnergy).sum (s.captureEx (8 * gr.val + w.path) w') x (s.captureRef (8 * gr.val + w.path) w')
    | none => s) := rfl

theorem exec_orxCaptureEnd (gr : Fin 8) {v : Capture} {orx : List (BitVec 24)} (window : (s.lg gr.val).window = some v) (len : orx.length = capLen)
    {w : Capture} (hw : w = { v with clip := (orx.map orxClip).sum }) :
    exec (.orxCaptureEnd gr orx) s = .next (s.endCapture gr.val w (orx.map orxEnergy).sum (s.captureEx (8 * gr.val + v.path) w) orx
      (s.captureRef (8 * gr.val + v.path) w)) := by
  show execOrxCaptureEnd gr orx s = _
  rw [execOrxCaptureEnd_eq, window, range_getD orx _ len, hw]

theorem State.singleEnds_turns (s : State) (g : Nat) (single : Bool) : s.turns g [Reg.LIN_PGg_SEQ_CTRL g] (s.singleEnds g single) := by
  unfold State.singleEnds
  split_ifs
  · exact .setFld (.refl s g _) _ (by simp)
  · exact .refl s g _

theorem State.singleEnds_fld (s : State) (g : Nat) (single : Bool) (f : Fld) (h : f.addr ≠ Reg.LIN_PGg_SEQ_CTRL g ∨ 1 < f.lo) :
    (s.singleEnds g single).on f = s.on f := by
  unfold State.singleEnds
  split_ifs
  · exact State.on_setFld_ne _ _ _ _ (by simp) (h.imp_right .inr)
  · rfl

/-- The buffer of group `g` is held, with which the group is at `x`. -/
def State.bufferHeld (s : State) (g : Nat) (x : LinGroup) : State := (s.setLg g x).setFld (Fld.LIN_PGg_CAP_STATUS_HELD g) 1

theorem State.bufferHeld_shows (s : State) (g : Nat) (x : LinGroup) : (s.bufferHeld g x).lg g = x ∧ (s.bufferHeld g x).raise = s.raise ∧
    (s.bufferHeld g x).store = s.store ∧ (s.bufferHeld g x).on (Fld.LIN_PGg_CAP_STATUS_HELD g) = true ∧
    (s.bufferHeld g x).on (Fld.LIN_PGg_CAP_STATUS_BUSY g) = s.on (Fld.LIN_PGg_CAP_STATUS_BUSY g) ∧
    s.turns g [Reg.LIN_PGg_CAP_STATUS g] (s.bufferHeld g x) :=
  ⟨State.lg_setLg_same _ _ _, rfl, rfl, State.on_setFld_one _ _ (by simp) (by simp), State.on_setFld_ne _ _ _ _ (by simp) (by simp),
    .setFld (.setLg (.refl s g _) _) _ (by simp)⟩

theorem State.holdCapture_drains (s : State) (g : Nat) (w : Capture) (e ex : Nat) (orx : List (BitVec 24)) (ref : List Word)
    (drain : s.on (Fld.LIN_PGg_SEQ_CTRL_DRAIN_EN g) = true) (noCor : s.on (Fld.LIN_PGg_SEQ_CTRL_COR_EN g) = false) :
    s.holdCapture g w e ex orx ref =
      s.bufferHeld g { s.lg g with window := none, record := captureRecord w e ex orx ref, samples := (orx.map orxWord).zip ref } := by
  rw [State.holdCapture, drain, noCor]
  rfl

theorem State.txLoop_off (s : State) (p : Nat) (w : Capture) (e ex : Nat) (h : s.on (Fld.LIN_PATHp_LOOP_CFG_LOOP_EN p) = false) : s.txLoop p w e ex = s := by
  rw [State.txLoop, h]
  rfl

theorem captureEnds (gr : Fin 8) {v v' : Capture} {orx : List (BitVec 24)} (window : (s.lg gr.val).window = some v) (_path : v.path < 8)
    (len : orx.length = capLen) (noLoop : s.on (Fld.LIN_PATHp_LOOP_CFG_LOOP_EN (8 * gr.val + v.path)) = false)
    (drain : s.on (Fld.LIN_PGg_SEQ_CTRL_DRAIN_EN gr.val) = true) (noCor : s.on (Fld.LIN_PGg_SEQ_CTRL_COR_EN gr.val) = false) (room : s.raiseRoom 1)
    {e ex : Nat} {ref : List Word} (he : e = (orx.map orxEnergy).sum) (hv : v' = { v with clip := (orx.map orxClip).sum })
    (hr : ref = s.captureRef (8 * gr.val + v.path) v) (hx : ex = s.captureEx (8 * gr.val + v.path) v) :
    ∃ t, exec (.orxCaptureEnd gr orx) s = .next t ∧ (t.lg gr.val).window = none ∧
      (t.lg gr.val).record = captureRecord v' e ex orx ref ∧ (t.lg gr.val).samples = (orx.map orxWord).zip ref ∧
      t.on (Fld.LIN_PGg_CAP_STATUS_HELD gr.val) = true ∧ t.on (Fld.LIN_PGg_CAP_STATUS_BUSY gr.val) = false ∧
      (t.rd (Reg.LIN_PGg_CAP_EORX_LO gr.val)).toNat + 2 ^ 32 * (t.rd (Reg.LIN_PGg_CAP_EORX_HI gr.val)).toNat = e ∧
      (t.rd (Reg.LIN_PGg_CAP_EX_LO gr.val)).toNat + 2 ^ 32 * (t.rd (Reg.LIN_PGg_CAP_EX_HI gr.val)).toNat = ex ∧
      t.raise = s.raise ++ [s.occurrence 0x82 (v.path + 16 * gr.val + 256 * v.cls + 4096 * bit v.mixed + 65536 * v'.clip)] ∧
      (∀ h, h ≠ gr.val → t.lg h = s.lg h) ∧ t = { s with regs := t.regs, raise := t.raise, lin := { s.lin with groups := t.lin.groups } } ∧
      s.regsBut t (captureRegs gr.val) := by
  have parts : v'.path = v.path ∧ v'.cls = v.cls ∧ v'.mixed = v.mixed := by rw [hv]; exact ⟨rfl, rfl, rfl⟩
  have sameRef : s.captureRef (8 * gr.val + v.path) v' = ref := by rw [hr, hv]; rfl
  have sameEx : s.captureEx (8 * gr.val + v.path) v' = ex := by rw [hx, hv]; rfl
  have run := exec_orxCaptureEnd gr window len hv
  rw [sameRef, sameEx, ← he, State.endCapture] at run
  have small := gr.isLt
  rw [parts.1, parts.2.1, parts.2.2] at run
  have eBound : e < 2 ^ 64 := by
    have := orxEnergy_sum orx
    rw [len, ← he, capLen] at this
    omega
  have exBound : ex < 2 ^ 64 := by
    have := captureEx_lt s (8 * gr.val + v.path) v
    omega
  generalize gr.val = g at *
  obtain ⟨busy, eLo, eHi, xLo, xHi, away, regs⟩ := s.showCapture_shows g v' e ex
  have turned : s.turns g (captureRegs g) (s.showCapture g v' e ex) := .beside away (regs.mono (by simp [captureRegs])) g
  generalize s.showCapture g v' e ex = v₁ at *
  have occ : v₁.raise ++ [v₁.occurrence 0x82 (v.path + 16 * g + 256 * v.cls + 4096 * bit v.mixed + 65536 * v'.clip)] =
      s.raise ++ [s.occurrence 0x82 (v.path + 16 * g + 256 * v.cls + 4096 * bit v.mixed + 65536 * v'.clip)] := by
    obtain ⟨r, rfl⟩ := away
    rfl
  have still : v₁.store = s.store ∧ v₁.raiseRoom 1 := by
    obtain ⟨r, rfl⟩ := away
    exact ⟨rfl, room.congr rfl rfl⟩
  rw [State.event_raiseRoom still.2 (by decide), occ] at run
  generalize s.raise ++ [s.occurrence 0x82 (v.path + 16 * g + 256 * v.cls + 4096 * bit v.mixed + 65536 * v'.clip)] = es at *
  have kept (f : Fld) (hf : f.addr ∉ [Reg.LIN_PGg_CAP_STATUS g, Reg.LIN_PGg_CAP_INFO g, Reg.LIN_PGg_CAP_EORX_LO g, Reg.LIN_PGg_CAP_EORX_HI g,
      Reg.LIN_PGg_CAP_EX_LO g, Reg.LIN_PGg_CAP_EX_HI g]) : v₁.on f = s.on f := congrArg (fun x => decide (x ≠ 0)) (regs.fld f hf)
  have loop : ({ v₁ with raise := es } : State).on (Fld.LIN_PATHp_LOOP_CFG_LOOP_EN (8 * g + v.path)) = false :=
    (kept _ (notMem_of_lt 0x1A0000 (by
    simp only [Reg.LIN_PGg_CAP_STATUS, Reg.LIN_PGg_CAP_INFO, Reg.LIN_PGg_CAP_EORX_LO, Reg.LIN_PGg_CAP_EORX_HI, Reg.LIN_PGg_CAP_EX_LO, Reg.LIN_PGg_CAP_EX_HI,
      List.mem_cons, List.not_mem_nil, or_false]
    omega) (by simp only [Reg.LIN_PATHp_LOOP_CFG]; omega))).trans noLoop
  rw [State.txLoop_off _ _ _ _ _ loop] at run
  have turned₂ : s.turns g (captureRegs g) (({ v₁ with raise := es } : State).corePend g 4) := (turned.raise es).corePend 4 (by simp [captureRegs])
  have same₂ : v₁.regsBut (({ v₁ with raise := es } : State).corePend g 4) [Reg.CORE_IRQ g] :=
    State.regsBut.corePend (State.regsBut.of_regs rfl _) 4 (by simp)
  have parts₂ : (({ v₁ with raise := es } : State).corePend g 4).raise = es ∧ (({ v₁ with raise := es } : State).corePend g 4).store = v₁.store := by
    unfold State.corePend
    split_ifs <;> exact ⟨rfl, rfl⟩
  generalize ({ v₁ with raise := es } : State).corePend g 4 = v₂ at *
  have turned₃ := v₂.singleEnds_turns g v'.single
  have parts₃ : (v₂.singleEnds g v'.single).raise = v₂.raise ∧ (v₂.singleEnds g v'.single).store = v₂.store := by
    unfold State.singleEnds
    split_ifs <;> exact ⟨rfl, rfl⟩
  have fld₃ := v₂.singleEnds_fld g v'.single
  generalize v₂.singleEnds g v'.single = v₃ at *
  have far (f : Fld) (h : f.addr < 0x410000) : v₂.on f = v₁.on f := congrArg (fun x => decide (x ≠ 0)) (same₂.fld f (by
    have := coreIrq_above g
    simp only [List.mem_singleton]
    omega))
  have drain₃ : v₃.on (Fld.LIN_PGg_SEQ_CTRL_DRAIN_EN g) = true := by
    rw [fld₃ _ (by simp), far _ (by simp only [Reg.LIN_PGg_SEQ_CTRL]; omega), kept _ (by simp)]
    exact drain
  have noCor₃ : v₃.on (Fld.LIN_PGg_SEQ_CTRL_COR_EN g) = false := by
    rw [fld₃ _ (by simp), far _ (by simp only [Reg.LIN_PGg_SEQ_CTRL]; omega), kept _ (by simp)]
    exact noCor
  rw [State.holdCapture_drains _ _ _ _ _ _ _ drain₃ noCor₃] at run
  have all₃ : s.turns g (captureRegs g) v₃ := turned₂.trans ⟨turned₃.others, turned₃.frame, turned₃.regs.mono (by simp [captureRegs])⟩
  obtain ⟨lg₄, raise₄, store₄, held, busy₄, turned₄⟩ := v₃.bufferHeld_shows g
    { v₃.lg g with window := none, record := captureRecord v' e ex orx ref, samples := (orx.map orxWord).zip ref }
  generalize v₃.bufferHeld g { v₃.lg g with window := none, record := captureRecord v' e ex orx ref, samples := (orx.map orxWord).zip ref } = v₄ at *
  have all₄ := all₃.trans ⟨turned₄.others, turned₄.frame, turned₄.regs.mono (by simp [captureRegs])⟩
  have all := all₄.trans (v₄.selectPath_turns g (captureRegs g))
  obtain ⟨x, y, lg, regs', raise, store⟩ := v₄.selectPath_parts g
  generalize v₄.selectPath g = t at *
  have word (a : Nat) : t.rd a = v₄.rd a := State.regsBut.of_regs regs' [] a List.not_mem_nil
  have shown (a : Nat) (seq : a ≠ Reg.LIN_PGg_SEQ_CTRL g) (cap : a ≠ Reg.LIN_PGg_CAP_STATUS g) (low : a < 0x410000) : t.rd a = v₁.rd a := by
    rw [word, turned₄.regs a (by simpa using cap), turned₃.regs a (by simpa using seq), same₂ a]
    have := coreIrq_above g
    simp only [List.mem_singleton]
    omega
  have raised : t.raise = es := by rw [raise, raise₄, parts₃.1, parts₂.1]
  refine ⟨t, run, by rw [lg, lg₄], by rw [lg, lg₄], by rw [lg, lg₄], ?_, ?_, ?_, ?_, raised, all.others, all.quiet ?_, all.regs⟩
  · exact (congrArg (fun x => decide (x ≠ 0)) (State.fld_congr (word _))).trans held
  · refine (congrArg (fun x => decide (x ≠ 0)) (State.fld_congr (word _))).trans (busy₄.trans ?_)
    rw [fld₃ _ (by simp), far _ (by simp only [Reg.LIN_PGg_CAP_STATUS]; omega)]
    exact busy
  · rw [shown _ (by simp) (by simp) (by simp only [Reg.LIN_PGg_CAP_EORX_LO]; omega), shown _ (by simp) (by simp) (by simp only [Reg.LIN_PGg_CAP_EORX_HI]; omega), eLo, eHi]
    exact lowHigh eBound
  · rw [shown _ (by simp) (by simp) (by simp only [Reg.LIN_PGg_CAP_EX_LO]; omega), shown _ (by simp) (by simp) (by simp only [Reg.LIN_PGg_CAP_EX_HI]; omega), xLo, xHi]
    exact lowHigh exBound
  · rw [store, store₄, parts₃.2, parts₂.2, still.1]

/-! ### The correlator (R291, R292) -/

theorem componentBytes_length (e : Int) (xs : List Int) : (xs.flatMap (fun x => leBytes 4 (toCode 32 (scaled e x)))).length = 4 * xs.length := by
  induction xs with
  | nil => rfl
  | cons x xs ih =>
    rw [List.flatMap_cons, List.length_append, ih, leBytes_length, List.length_cons]
    omega

theorem corResult_length (w : Capture) (n : Nat) (sums : List Int) (residue : Bool) :
    (corResult w n sums residue).length = 32 + 8 * (n * (n + 1) / 2 + n) := by
  have even : 2 * (n * (n + 1) / 2) = n * (n + 1) := Nat.mul_div_cancel' (Nat.even_mul_succ_self n).two_dvd
  unfold corResult
  dsimp only
  simp only [List.length_append, leBytes_length, componentBytes_length, List.length_map, List.length_range]
  omega

/-- The end of a run is shown: its error, and that it is done. -/
def State.corShown (s : State) (g err : Nat) : State :=
  (((s.setFld (Fld.LIN_PGg_COR_STATUS_BUSY g) 0).setFld (Fld.LIN_PGg_COR_STATUS_ERR g) err).countWrap (Fld.LIN_PGg_COR_STATUS_DONE g) 1)

theorem State.corShown_shows (s : State) (g : Nat) : (s.corShown g 0).on (Fld.LIN_PGg_COR_STATUS_BUSY g) = false ∧
    (s.corShown g 0).fld (Fld.LIN_PGg_COR_STATUS_ERR g) = 0 ∧
    (s.corShown g 0).fld (Fld.LIN_PGg_COR_STATUS_DONE g) = (s.fld (Fld.LIN_PGg_COR_STATUS_DONE g) + 1) % 2 ^ (Fld.LIN_PGg_COR_STATUS_DONE g).width ∧
    s.beside (s.corShown g 0) ∧ s.regsBut (s.corShown g 0) [Reg.LIN_PGg_COR_STATUS g] := by
  unfold State.corShown State.countWrap
  refine ⟨?_, ?_, ?_, ⟨_, rfl⟩, (((State.regsBut.refl s _).setFld _ (by simp)).setFld _ (by simp)).setFld _ (by simp)⟩
  · rw [State.on_eq_false, State.fld_setFld_ne _ _ _ _ (by simp) (by simp), State.fld_setFld_ne _ _ _ _ (by simp) (by simp)]
    exact State.fld_setFld_same _ _ _ (by simp) (by simp)
  · rw [State.fld_setFld_ne _ _ _ _ (by simp) (by simp)]
    exact State.fld_setFld_same _ _ _ (by simp) (by simp)
  · rw [State.fld_setFld_mod _ _ _ (by simp), State.fld_setFld_ne _ _ _ _ (by simp) (by simp), State.fld_setFld_ne _ _ _ _ (by simp) (by simp)]
    simp [Fld.width]

/-- The run of group `g` has ended. -/
def State.runEnded (s : State) (g : Nat) : State := ((s.setLg g { s.lg g with run := none }).corePend g 5).corShown g 0

theorem State.runEnded_shows (s : State) {g : Nat} (hg : g < 8) : ((s.runEnded g).lg g).run = none ∧ (s.runEnded g).raise = s.raise ∧
    (s.runEnded g).store = s.store ∧ (s.runEnded g).on (Fld.LIN_PGg_COR_STATUS_BUSY g) = false ∧
    (s.runEnded g).fld (Fld.LIN_PGg_COR_STATUS_ERR g) = 0 ∧
    (s.runEnded g).fld (Fld.LIN_PGg_COR_STATUS_DONE g) = (s.fld (Fld.LIN_PGg_COR_STATUS_DONE g) + 1) % 2 ^ (Fld.LIN_PGg_COR_STATUS_DONE g).width ∧
    s.turns g [Reg.LIN_PGg_COR_STATUS g, Reg.LIN_PGg_CAP_STATUS g, Reg.CORE_IRQ g] (s.runEnded g) := by
  unfold State.runEnded
  have turned := ((State.turns.refl s g [Reg.LIN_PGg_COR_STATUS g, Reg.LIN_PGg_CAP_STATUS g, Reg.CORE_IRQ g]).setLg { s.lg g with run := none }).corePend (c := g) 5 (by simp)
  have same : s.regsBut ((s.setLg g { s.lg g with run := none }).corePend g 5) [Reg.CORE_IRQ g] :=
    State.regsBut.corePend (State.regsBut.of_regs rfl _) 5 (by simp)
  have parts : ((s.setLg g { s.lg g with run := none }).corePend g 5).raise = s.raise ∧ ((s.setLg g { s.lg g with run := none }).corePend g 5).store = s.store := by
    unfold State.corePend
    split_ifs <;> exact ⟨rfl, rfl⟩
  have lg : (((s.setLg g { s.lg g with run := none }).corePend g 5).lg g).run = none := by
    rw [(State.beside.corePend (.refl _) g 5).lg, State.lg_setLg_same]
  generalize (s.setLg g { s.lg g with run := none }).corePend g 5 = v at *
  obtain ⟨busy, err, done, away, regs⟩ := v.corShown_shows g
  generalize v.corShown g 0 = t at *
  have kept : t.raise = v.raise ∧ t.store = v.store := by
    obtain ⟨r, rfl⟩ := away
    exact ⟨rfl, rfl⟩
  refine ⟨(congrArg LinGroup.run (away.lg g)).trans lg, kept.1.trans parts.1, kept.2.trans parts.2, busy, err, ?_, turned.trans (.beside away (regs.mono (by simp)) g)⟩
  rw [done, same.fld _ (by
    have := coreIrq_above g
    simp only [Reg.LIN_PGg_COR_STATUS, List.mem_singleton]
    omega)]

/-- An event with room for it, and the release of the buffer. -/
theorem State.event_release (room : s.raiseRoom 1) (g code info : Nat) :
    (((s.event code info).releaseCapture g).lg g).run = (s.lg g).run ∧ ((s.event code info).releaseCapture g).raise = s.raise ++ [s.occurrence code info] ∧
    ((s.event code info).releaseCapture g).store = s.store ∧ s.turns g [Reg.LIN_PGg_CAP_STATUS g] ((s.event code info).releaseCapture g) := by
  have raised := (State.turns.refl s g [Reg.LIN_PGg_CAP_STATUS g]).raise (s.raise ++ [s.occurrence code info])
  rw [State.event_raiseRoom room (by decide)]
  generalize s.raise ++ [s.occurrence code info] = es at *
  obtain ⟨x, y, lg, raise, store⟩ := State.releaseCapture_parts ({ s with raise := es } : State) g
  exact ⟨(congrArg LinGroup.run lg).trans rfl, raise, store, raised.trans (State.releaseCapture_turns _ g)⟩

theorem exec_correlatorEnd (gr : Fin 8) {v : Capture} (hr : (s.lg gr.val).run = some v) (some_ : s.fld (Fld.LIN_PGg_COR_CTRL_NBASIS gr.val) ≠ 0)
    (range : s.storeRange (s.fld (Fld.LIN_PGg_COR_DEST_ADDR gr.val)) (32 + 8 * (s.fld (Fld.LIN_PGg_COR_CTRL_NBASIS gr.val) *
      (s.fld (Fld.LIN_PGg_COR_CTRL_NBASIS gr.val) + 1) / 2 + s.fld (Fld.LIN_PGg_COR_CTRL_NBASIS gr.val))) = true)
    (good : s.basisBad gr.val (s.fld (Fld.LIN_PGg_COR_CTRL_NBASIS gr.val)) = false) (clean : s.ecc = []) (mode : s.fld Fld.CST_ECC_INJ_MODE = 0)
    {u : State} (hu : u = s.putStore (s.fld (Fld.LIN_PGg_COR_DEST_ADDR gr.val)) (corResult v (s.fld (Fld.LIN_PGg_COR_CTRL_NBASIS gr.val)) (s.corSums gr.val) false)) :
    exec (.correlatorEnd gr false) s = .next (((u.runEnded gr.val).event 0x83 (0 + 16 * gr.val)).releaseCapture gr.val) := by
  show execCorrelatorEnd gr false s = _
  subst hu
  simp only [execCorrelatorEnd, hr, some_, range, good, s.storeWrite_clean clean mode, Bool.not_true, Bool.false_eq_true, or_self, if_false]
  rfl

theorem correlatorEnds (gr : Fin 8) {v : Capture} (hn : n = s.fld (Fld.LIN_PGg_COR_CTRL_NBASIS gr.val))
    (ha : a = s.fld (Fld.LIN_PGg_COR_DEST_ADDR gr.val)) (hk : k = 32 + 8 * (n * (n + 1) / 2 + n)) (hr : (s.lg gr.val).run = some v) (some_ : n ≠ 0)
    (range : s.storeRange a k = true) (good : s.basisBad gr.val n = false) (clean : s.ecc = []) (mode : s.fld Fld.CST_ECC_INJ_MODE = 0) (room : s.raiseRoom 1) :
    ∃ t, exec (.correlatorEnd gr false) s = .next t ∧ t.storeBytes a k = corResult v n (s.corSums gr.val) false ∧
      (∀ b, b < a ∨ a + k ≤ b → t.storeByte b = s.storeByte b) ∧ (t.lg gr.val).run = none ∧
      t.on (Fld.LIN_PGg_COR_STATUS_BUSY gr.val) = false ∧ t.fld (Fld.LIN_PGg_COR_STATUS_ERR gr.val) = 0 ∧
      t.fld (Fld.LIN_PGg_COR_STATUS_DONE gr.val) =
        (s.fld (Fld.LIN_PGg_COR_STATUS_DONE gr.val) + 1) % 2 ^ (Fld.LIN_PGg_COR_STATUS_DONE gr.val).width ∧
      t.raise = s.raise ++ [s.occurrence 0x83 (16 * gr.val)] ∧ (∀ h, h ≠ gr.val → t.lg h = s.lg h) ∧
      t = { s with regs := t.regs, store := t.store, raise := t.raise, lin := { s.lin with groups := t.lin.groups } } ∧
      s.regsBut t [Reg.LIN_PGg_COR_STATUS gr.val, Reg.LIN_PGg_CAP_STATUS gr.val, Reg.CORE_IRQ gr.val] := by
  subst hn ha hk
  have run := exec_correlatorEnd gr hr some_ range good clean mode rfl
  have bytes := s.storeBytes_putStore (s.fld (Fld.LIN_PGg_COR_DEST_ADDR gr.val)) (corResult v (s.fld (Fld.LIN_PGg_COR_CTRL_NBASIS gr.val)) (s.corSums gr.val) false)
  have out (b : Nat) := s.storeByte_putStore_out (s.fld (Fld.LIN_PGg_COR_DEST_ADDR gr.val)) b (corResult v (s.fld (Fld.LIN_PGg_COR_CTRL_NBASIS gr.val)) (s.corSums gr.val) false)
  rw [corResult_length] at bytes out
  have small := gr.isLt
  generalize corResult v (s.fld (Fld.LIN_PGg_COR_CTRL_NBASIS gr.val)) (s.corSums gr.val) false = res at *
  generalize gr.val = g at *
  have turned₁ : s.turns g [Reg.LIN_PGg_COR_STATUS g, Reg.LIN_PGg_CAP_STATUS g, Reg.CORE_IRQ g] (s.putStore (s.fld (Fld.LIN_PGg_COR_DEST_ADDR g)) res) :=
    .putStore (.refl s g _) _ _
  have parts₁ : (s.putStore (s.fld (Fld.LIN_PGg_COR_DEST_ADDR g)) res).regs = s.regs ∧ (s.putStore (s.fld (Fld.LIN_PGg_COR_DEST_ADDR g)) res).raise = s.raise := ⟨rfl, rfl⟩
  generalize s.putStore (s.fld (Fld.LIN_PGg_COR_DEST_ADDR g)) res = v₁ at *
  obtain ⟨run₃, raise₃, store₃, busy, err, done, turned₂⟩ := v₁.runEnded_shows small
  have turned₃ := turned₁.trans turned₂
  generalize v₁.runEnded g = v₃ at *
  have raise : v₃.raise = s.raise := raise₃.trans parts₁.2
  have shape := turned₃.frame
  have room' : v₃.raiseRoom 1 := room.congr (by rw [shape]) raise
  have occ : v₃.occurrence 0x83 (0 + 16 * g) = s.occurrence 0x83 (16 * g) := by
    rw [shape, Nat.zero_add]
    rfl
  obtain ⟨run₄, raise₄, store₄, turned₄⟩ := State.event_release room' g 0x83 (0 + 16 * g)
  rw [occ, raise] at raise₄
  generalize (v₃.event 0x83 (0 + 16 * g)).releaseCapture g = t at *
  have all := turned₃.trans ⟨turned₄.others, turned₄.frame, turned₄.regs.mono (by simp)⟩
  have stored : t.store = v₁.store := store₄.trans store₃
  have field (f : Fld) (hf : f.addr = Reg.LIN_PGg_COR_STATUS g) : t.fld f = v₃.fld f := turned₄.regs.fld f (by rw [hf]; simp)
  refine ⟨t, run, ?_, fun b hb => ?_, run₄.trans run₃, ?_, (field _ rfl).trans err, ?_, raise₄, all.others, all.frame, all.regs⟩
  · rw [State.storeBytes, stored]
    exact bytes
  · rw [State.storeByte, stored]
    exact out b hb
  · exact (congrArg (fun x => decide (x ≠ 0)) (field (Fld.LIN_PGg_COR_STATUS_BUSY g) rfl)).trans busy
  · rw [field _ rfl, done, State.fld_congr (State.regsBut.of_regs parts₁.1 [] _ List.not_mem_nil)]

/-- Settles O44: the sequencer takes its mode and its path, a capture begins, ends and is held, the port drains it, and the correlator writes its result. -/
theorem observationCapturesAreTakenAndHeld : Obligations.ObservationCapturesAreTakenAndHeld := by
  unfold Obligations.ObservationCapturesAreTakenAndHeld
  rintro gr q w s g rfl
  refine ⟨fun c m hc pass calm => ?_, ?_, ?_, fun auto interval held => intervalSkips gr auto interval held,
    fun x xs pass record drain noCor => portRead gr pass record drain noCor, ?_⟩
  · obtain ⟨hm, run⟩ := exec_seqMode gr w hc pass calm
    exact seqMode_taken gr w hm run
  · rintro u hu i next may c rfl
    exact captureStarts gr hu next may
  · intro v orx window path _ len noLoop drain noCor room e he v' hv ref hr ex hx
    exact captureEnds gr window path len noLoop drain noCor room he hv hr hx
  · intro v n hn a ha k hk run some_ range good clean mode room
    exact correlatorEnds gr hn ha hk run some_ range good clean mode room

end Sys2Proof.Machine

/-!
PROOFS. LOP2, the kernels, transmit-power corrections and the LIN counters (O45).
-/

namespace Sys2Proof.Machine

variable {s t u v : State} {as : List Nat} {a g n m k : Nat} {q : Requester} {d : Word}

/-- A field of all 32 bits is its register. -/
theorem ofNat_fld_word (s : State) (f : Fld) (hi : f.hi = 31) (lo : f.lo = 0) : BitVec.ofNat 32 (s.fld f) = s.rd f.addr := by
  apply BitVec.eq_of_toNat_eq
  apply Nat.eq_of_testBit_eq
  intro i
  rw [BitVec.toNat_ofNat, Nat.testBit_mod_two_pow, State.fld, testBit_getField, hi, lo, Nat.zero_add, BitVec.testBit_toNat]
  by_cases h : i < 32
  · simp [h]
  · simp [h, BitVec.getLsbD_of_ge _ _ (Nat.not_lt.mp h)]

/-! ### LOP2 (R295, R296) -/

theorem lop2_overrun (w : Word) (h : s.passes q Reg.LIN_LOP2_CTRL true) (busy : s.lopBusy 2 = true) :
    ∃ t, exec (.lop2PdCampaign q w) s = .next t ∧ t.on Fld.LIN_LOP2_CTRL_OVERRUN = true ∧ s.onlyRegs t [Reg.LIN_LOP2_CTRL] := by
  have run := exec_access (c := .lop2PdCampaign q w) (f := fun s => s.lop2Write (Fld.LIN_LOP2_CTRL_GO.put 1 w)) h rfl
  have go : Fld.LIN_LOP2_CTRL_GO.of (Fld.LIN_LOP2_CTRL_GO.put 1 w) = 1 := Fld.of_put_same _ _ _ (by decide) (by decide)
  rw [State.lop2Write] at run
  simp only [go, busy, Nat.reduceBEq, Bool.and_self, if_true] at run
  exact ⟨_, run, State.on_setFld_one _ _ (by decide) (by decide), rfl, (State.regsBut.refl s _).setFld _ (by simp)⟩

theorem lopBusy_of_fld (h : t.fld (Fld.LOP_STATn_STATE n) = s.fld (Fld.LOP_STATn_STATE n)) : t.lopBusy n = s.lopBusy n := by
  rw [State.lopBusy, State.lopState, h, State.lopBusy, State.lopState]

/-- The units of a campaign: one for each chosen path and class. -/
def lop2Units (ps : List Nat) (classes : Nat) : List Nat := ps.flatMap (fun p => ((List.range 4).filter (bitOf classes)).map (4 * p + ·))

theorem lop2Units_length (s : State) (classes : Nat) : (lop2Units s.lop2Paths classes).length ≤ 256 := by
  have paths : s.lop2Paths.length ≤ 64 := by
    refine (List.length_filter_le _ _).trans ?_
    rw [List.length_range]
  have each (p : Nat) : (((List.range 4).filter (bitOf classes)).map (4 * p + ·)).length ≤ 4 := by
    rw [List.length_map]
    refine (List.length_filter_le _ _).trans ?_
    rw [List.length_range]
  generalize s.lop2Paths = ps at *
  have all : (lop2Units ps classes).length ≤ 4 * ps.length := by
    unfold lop2Units
    clear paths
    induction ps with
    | nil => exact Nat.le_refl _
    | cons p ps ih =>
      have := each p
      rw [List.flatMap_cons, List.length_append, List.length_cons]
      omega
  omega

theorem lop2_started (w : Word) (h : s.passes q Reg.LIN_LOP2_CTRL true) {us : List Nat} {a : Nat}
    (hus : us = lop2Units s.lop2Paths (Fld.LIN_LOP2_CTRL_CLASSES.of w)) (ha : a = s.fld Fld.LIN_LOP2_DEST_ADDR) (idle : s.lopBusy 2 = false)
    (fitted : us.any (fun u => s.on (Fld.RFE_PGg_CFG_FITTED (u / 32))) = true) (dsp : s.domOn pdDsp = true) (lo : storeBase ≤ a) (hi : a + 16 * us.length ≤ storeEnd) :
    ∃ t, exec (.lop2PdCampaign q w) s = .next t ∧ t.lopState 2 = lopRunning ∧ t.fld (Fld.LOP_STATn_UNITS_DONE 2) = 0 ∧
      t.fld (Fld.LOP_STATn_UNITS_TOTAL 2) = us.length ∧ t.lopRes 2 = BitVec.ofNat 32 a ∧
      t = { s with regs := t.regs, lin := { s.lin with lop2 := some ⟨us, 0, a⟩ } } ∧ s.regsBut t [Reg.LIN_LOP2_CTRL, Reg.LOP_STATn 2] := by
  have run := exec_access (c := .lop2PdCampaign q w) (f := fun s => s.lop2Write (Fld.LIN_LOP2_CTRL_GO.put 1 w)) h rfl
  have go : Fld.LIN_LOP2_CTRL_GO.of (Fld.LIN_LOP2_CTRL_GO.put 1 w) = 1 := Fld.of_put_same _ _ _ (by decide) (by decide)
  have few : us.length ≤ 4095 := by
    have := lop2Units_length s (Fld.LIN_LOP2_CTRL_CLASSES.of w)
    rw [← hus] at this
    omega
  have classes : (s.plainWrite Reg.LIN_LOP2_CTRL (Fld.LIN_LOP2_CTRL_ABORT.put 0 (Fld.LIN_LOP2_CTRL_GO.put 0 (Fld.LIN_LOP2_CTRL_GO.put 1 w)))).fld
      Fld.LIN_LOP2_CTRL_CLASSES = Fld.LIN_LOP2_CTRL_CLASSES.of w := by
    refine (s.fld_plainWrite_plain (f := Fld.LIN_LOP2_CTRL_CLASSES) (by decide) _).trans ?_
    rw [Fld.of_put_ne _ _ _ _ (by decide) (by decide), Fld.of_put_ne _ _ _ _ (by decide) (by decide), Fld.of_put_ne _ _ _ _ (by decide) (by decide)]
  have regs : s.regsBut (s.plainWrite Reg.LIN_LOP2_CTRL (Fld.LIN_LOP2_CTRL_ABORT.put 0 (Fld.LIN_LOP2_CTRL_GO.put 0 (Fld.LIN_LOP2_CTRL_GO.put 1 w))))
      [Reg.LIN_LOP2_CTRL] := (State.regsBut.refl s _).plainWrite _ (by simp)
  have frame : s.beside (s.plainWrite Reg.LIN_LOP2_CTRL (Fld.LIN_LOP2_CTRL_ABORT.put 0 (Fld.LIN_LOP2_CTRL_GO.put 0 (Fld.LIN_LOP2_CTRL_GO.put 1 w)))) := ⟨_, rfl⟩
  rw [State.lop2Write] at run
  simp only [go, idle, Nat.reduceBEq, Bool.and_false, Bool.false_eq_true, if_false, if_true] at run
  generalize s.plainWrite Reg.LIN_LOP2_CTRL (Fld.LIN_LOP2_CTRL_ABORT.put 0 (Fld.LIN_LOP2_CTRL_GO.put 0 (Fld.LIN_LOP2_CTRL_GO.put 1 w))) = v at *
  have busy : v.lopBusy 2 = false := (lopBusy_of_fld (regs.fld _ (by decide))).trans idle
  have paths : v.lop2Paths = s.lop2Paths := by rw [State.lop2Paths, regs.fld _ (by decide), regs.fld _ (by decide), State.lop2Paths]
  have units : v.lop2Paths.flatMap (fun p => ((List.range 4).filter (bitOf (v.fld Fld.LIN_LOP2_CTRL_CLASSES))).map (4 * p + ·)) = us := by
    rw [hus, paths, classes, lop2Units]
  have dest : v.fld Fld.LIN_LOP2_DEST_ADDR = a := (regs.fld _ (by decide)).trans ha.symm
  simp only [busy, Bool.false_eq_true, and_false, if_false, units, dest] at run
  have started : v.regsBut ((v.lopStart 2 lopRunning us.length).setFld Fld.LIN_LOP2_CTRL_GO 1) [Reg.LIN_LOP2_CTRL, Reg.LOP_STATn 2] :=
    (State.regsBut.lopStart _ _ _ _ (.refl v _) (by simp)).setFld _ (by simp)
  have away : v.beside ((v.lopStart 2 lopRunning us.length).setFld Fld.LIN_LOP2_CTRL_GO 1) := State.beside.setFld ⟨_, State.lopStart_beside _ _ _ _⟩ _ _
  have field (f : Fld) (hf : f.addr = Reg.LOP_STATn 2) : ((v.lopStart 2 lopRunning us.length).setFld Fld.LIN_LOP2_CTRL_GO 1).fld f =
      (v.lopStart 2 lopRunning us.length).fld f := State.fld_setFld_ne _ _ _ _ (by decide) (.inl (by rw [hf]; decide))
  have state : ((v.lopStart 2 lopRunning us.length).setFld Fld.LIN_LOP2_CTRL_GO 1).lopState 2 = lopRunning :=
    (field _ rfl).trans (State.lopState_lopStart _ _ _ _ (by decide))
  have done := (field _ rfl).trans (State.fld_lopStart_done v 2 lopRunning us.length)
  have total := (field _ rfl).trans (State.fld_lopStart_total v 2 lopRunning us.length few)
  generalize (v.lopStart 2 lopRunning us.length).setFld Fld.LIN_LOP2_CTRL_GO 1 = x at *
  have all := (regs.mono (by simp)).trans started
  have group (k : Nat) : x.on (Fld.RFE_PGg_CFG_FITTED (k / 32)) = s.on (Fld.RFE_PGg_CFG_FITTED (k / 32)) :=
    congrArg (fun x => decide (x ≠ 0)) (all.fld _ (notMem_of_lt 0x200000 (by decide) (by simp only [Reg.RFE_PGg_CFG]; omega)))
  obtain ⟨r, own⟩ := frame.trans away
  have on : x.domOn pdDsp = true := by rw [own]; exact dsp
  rw [if_neg (by simp only [group, fitted, Bool.not_true, Bool.false_eq_true, not_false_eq_true]),
    if_neg (by simp only [on, Bool.not_true, Bool.false_eq_true, not_false_eq_true]), if_neg (by omega)] at run
  refine ⟨_, run, state, done, total, ?_, ?_, all.congr rfl⟩
  · show x.rd Reg.LIN_LOP2_DEST = _
    rw [all _ (by decide), ha]
    exact (ofNat_fld_word s Fld.LIN_LOP2_DEST_ADDR rfl rfl).symm
  · rw [own]

theorem lop2_aborted (w : Word) (h : s.passes q Reg.LIN_LOP2_CTRL true) (busy : s.lopBusy 2 = true) (room : s.raiseRoom 1) :
    ∃ t, exec (.lop2Abort q w) s = .next t ∧ t.lopState 2 = lopAborted ∧ t.fld (Fld.LOP_STATn_ERR 2) = 4 ∧
      t.raise = s.raise ++ [s.occurrence 0x06 (2 + 16 * lopAborted + 256 * 4)] ∧ t.on Fld.LIN_LOP2_CTRL_GO = false ∧
      t = { s with regs := t.regs, raise := t.raise, lin := { s.lin with lop2 := none } } ∧
      s.regsBut t [Reg.LIN_LOP2_CTRL, Reg.LOP_STATn 2] := by
  have run := exec_access (c := .lop2Abort q w) (f := fun s => s.lop2Write (Fld.LIN_LOP2_CTRL_ABORT.put 1 (Fld.LIN_LOP2_CTRL_GO.put 0 w))) h rfl
  have go : Fld.LIN_LOP2_CTRL_GO.of (Fld.LIN_LOP2_CTRL_ABORT.put 1 (Fld.LIN_LOP2_CTRL_GO.put 0 w)) = 0 := by
    rw [Fld.of_put_ne _ _ _ _ (by decide) (by decide)]
    exact Fld.of_put_same _ _ _ (by decide) (by decide)
  have abort : Fld.LIN_LOP2_CTRL_ABORT.of (Fld.LIN_LOP2_CTRL_ABORT.put 1 (Fld.LIN_LOP2_CTRL_GO.put 0 w)) = 1 := Fld.of_put_same _ _ _ (by decide) (by decide)
  generalize Fld.LIN_LOP2_CTRL_ABORT.put 1 (Fld.LIN_LOP2_CTRL_GO.put 0 w) = d at *
  have regs : s.regsBut (s.plainWrite Reg.LIN_LOP2_CTRL (Fld.LIN_LOP2_CTRL_ABORT.put 0 (Fld.LIN_LOP2_CTRL_GO.put 0 d))) [Reg.LIN_LOP2_CTRL, Reg.LOP_STATn 2] :=
    (State.regsBut.refl s _).plainWrite _ (by simp)
  have same : (s.plainWrite Reg.LIN_LOP2_CTRL (Fld.LIN_LOP2_CTRL_ABORT.put 0 (Fld.LIN_LOP2_CTRL_GO.put 0 d))).lopBusy 2 = true :=
    (lopBusy_of_fld (State.fld_wr_ne _ _ _ _ (by decide))).trans busy
  have frame : s.beside (s.plainWrite Reg.LIN_LOP2_CTRL (Fld.LIN_LOP2_CTRL_ABORT.put 0 (Fld.LIN_LOP2_CTRL_GO.put 0 d))) := ⟨_, rfl⟩
  rw [State.lop2Write] at run
  simp only [go, Nat.reduceBEq, Bool.false_and, Bool.false_eq_true, if_false] at run
  generalize s.plainWrite Reg.LIN_LOP2_CTRL (Fld.LIN_LOP2_CTRL_ABORT.put 0 (Fld.LIN_LOP2_CTRL_GO.put 0 d)) = v at *
  rw [if_pos ⟨abort, same⟩, State.lop2End] at run
  have ended : v.regsBut ((({ v with lin := { v.lin with lop2 := none } } : State).setFld Fld.LIN_LOP2_CTRL_GO 0).setFld Fld.LIN_LOP2_CTRL_ABORT 0)
      [Reg.LIN_LOP2_CTRL, Reg.LOP_STATn 2] := ((State.regsBut.of_regs rfl _).setFld _ (by simp)).setFld _ (by simp)
  have off : ((({ v with lin := { v.lin with lop2 := none } } : State).setFld Fld.LIN_LOP2_CTRL_GO 0).setFld Fld.LIN_LOP2_CTRL_ABORT 0).fld Fld.LIN_LOP2_CTRL_GO = 0 := by
    rw [State.fld_setFld_ne _ _ _ _ (by decide) (by decide)]
    exact State.fld_setFld_same _ _ _ (by decide) (by decide)
  have shape : ∃ r, (({ v with lin := { v.lin with lop2 := none } } : State).setFld Fld.LIN_LOP2_CTRL_GO 0).setFld Fld.LIN_LOP2_CTRL_ABORT 0 =
      { v with regs := r, lin := { v.lin with lop2 := none } } := ⟨_, rfl⟩
  generalize (({ v with lin := { v.lin with lop2 := none } } : State).setFld Fld.LIN_LOP2_CTRL_GO 0).setFld Fld.LIN_LOP2_CTRL_ABORT 0 = x at *
  have own : ∃ r, x = { s with regs := r, lin := { s.lin with lop2 := none } } := by
    obtain ⟨r, frame⟩ := frame
    obtain ⟨r', shape⟩ := shape
    exact ⟨r', by rw [shape, frame]⟩
  obtain ⟨r, own⟩ := own
  have room' : x.raiseRoom 1 := room.congr (by rw [own]) (by rw [own])
  have raise : x.raise ++ [x.occurrence 0x06 (2 + 16 * lopAborted + 256 * 4)] = s.raise ++ [s.occurrence 0x06 (2 + 16 * lopAborted + 256 * 4)] := by
    rw [own]
    rfl
  refine ⟨_, run, State.lopState_lopEnd _ _ _ _ (by decide) (by decide), State.fld_lopEnd_err _ _ _ _ (by decide), ?_, ?_, ?_, ?_⟩
  · rw [State.lopEnd_room room' (by decide)]
    exact raise
  · rw [State.on_eq_false, State.fld_lopEnd_ne _ _ _ _ _ (by decide) (by decide)]
    exact off
  · rw [State.lopEnd_room room' (by decide), raise, own]
    rfl
  · rw [State.lopEnd_room room' (by decide)]
    exact (((regs.trans ended).setFld _ (by simp)).setFld _ (by simp)).congr rfl

/-- A unit's record (R296). -/
def unitRecord (k result iter before after air : Nat) : List Byte :=
  leBytes 1 (k / 4) ++ leBytes 1 (k % 4) ++ leBytes 1 result ++ leBytes 1 iter ++ leBytes 2 before ++ leBytes 2 after ++ leBytes 4 air ++ leBytes 4 0

theorem unitRecord_length (k result iter before after air : Nat) : (unitRecord k result iter before after air).length = 16 := by
  unfold unitRecord
  simp only [List.length_append, leBytes_length]

/-- A record of LOP2 is in the store and its unit counted. -/
def State.unitWritten (s : State) (p done : Nat) (bs : List Byte) : State := (s.putStore p bs).setFld (Fld.LOP_STATn_UNITS_DONE 2) done

theorem State.unitWritten_shows (s : State) (p : Nat) {done : Nat} (hd : done < 4096) (bs : List Byte) :
    (s.unitWritten p done bs).storeBytes p bs.length = bs ∧
    (∀ b, b < p ∨ p + bs.length ≤ b → (s.unitWritten p done bs).storeByte b = s.storeByte b) ∧
    (s.unitWritten p done bs).fld (Fld.LOP_STATn_UNITS_DONE 2) = done ∧
    (s.unitWritten p done bs).lopState 2 = s.lopState 2 ∧
    s.unitWritten p done bs = { s with regs := (s.unitWritten p done bs).regs, store := (s.unitWritten p done bs).store } ∧
    s.regsBut (s.unitWritten p done bs) [Reg.LIN_LOP2_CTRL, Reg.LOP_STATn 2] :=
  ⟨s.storeBytes_putStore p bs, fun b hb => s.storeByte_putStore_out p b bs hb, State.fld_setFld_same _ _ _ (by decide) hd,
    State.fld_setFld_ne _ _ _ _ (by decide) (by decide), rfl, (State.regsBut.of_regs rfl _).setFld _ (by simp)⟩

/-- LOP2 goes on to its further units. -/
def State.unitsLeft (s : State) (x : Option UnitRun) : State := { s with lin := { s.lin with lop2 := x } }

/-- The last unit of LOP2 ends it. -/
def State.unitsDone (s : State) : State := (((s.unitsLeft none).setFld Fld.LIN_LOP2_CTRL_GO 0).setFld Fld.LIN_LOP2_CTRL_ABORT 0).lopEnd 2 lopDone 0

theorem State.lop2Unit_eq {ks : List Nat} (h : s.lin.lop2 = some ⟨k :: ks, n, a⟩) (clean : s.ecc = []) (mode : s.fld Fld.CST_ECC_INJ_MODE = 0)
    (result iter before after : Nat) :
    s.lop2Unit result iter before after =
      if ks = [] then (s.unitWritten (a + 16 * n) (n + 1) (unitRecord k result iter before after s.air)).unitsDone
      else (s.unitWritten (a + 16 * n) (n + 1) (unitRecord k result iter before after s.air)).unitsLeft (some ⟨ks, n + 1, a⟩) := by
  rw [State.lop2Unit, h]
  simp only [State.storePut_clean clean mode]
  rfl

theorem State.unitsDone_ends (room : s.raiseRoom 1) : s.unitsDone.lin.lop2 = none ∧ s.unitsDone.lopState 2 = lopDone ∧
    s.unitsDone.raise = s.raise ++ [s.occurrence 0x06 (2 + 16 * lopDone)] ∧
    s.unitsDone.fld (Fld.LOP_STATn_UNITS_DONE 2) = s.fld (Fld.LOP_STATn_UNITS_DONE 2) ∧ s.unitsDone.store = s.store ∧
    s.unitsDone = { s with regs := s.unitsDone.regs, raise := s.unitsDone.raise, lin := { s.lin with lop2 := none } } ∧
    s.regsBut s.unitsDone [Reg.LIN_LOP2_CTRL, Reg.LOP_STATn 2] := by
  unfold State.unitsDone
  have regs : s.regsBut (((s.unitsLeft none).setFld Fld.LIN_LOP2_CTRL_GO 0).setFld Fld.LIN_LOP2_CTRL_ABORT 0) [Reg.LIN_LOP2_CTRL, Reg.LOP_STATn 2] :=
    ((State.regsBut.of_regs rfl _).setFld _ (by simp)).setFld _ (by simp)
  have done : (((s.unitsLeft none).setFld Fld.LIN_LOP2_CTRL_GO 0).setFld Fld.LIN_LOP2_CTRL_ABORT 0).fld (Fld.LOP_STATn_UNITS_DONE 2) =
      s.fld (Fld.LOP_STATn_UNITS_DONE 2) := by
    rw [State.fld_setFld_ne _ _ _ _ (by decide) (by decide), State.fld_setFld_ne _ _ _ _ (by decide) (by decide)]
    rfl
  have shape : ∃ r, ((s.unitsLeft none).setFld Fld.LIN_LOP2_CTRL_GO 0).setFld Fld.LIN_LOP2_CTRL_ABORT 0 =
      { s with regs := r, lin := { s.lin with lop2 := none } } := ⟨_, rfl⟩
  generalize ((s.unitsLeft none).setFld Fld.LIN_LOP2_CTRL_GO 0).setFld Fld.LIN_LOP2_CTRL_ABORT 0 = x at *
  obtain ⟨r, own⟩ := shape
  have room' : x.raiseRoom 1 := room.congr (by rw [own]) (by rw [own])
  have raise : x.raise ++ [x.occurrence 0x06 (2 + 16 * lopDone + 256 * 0)] = s.raise ++ [s.occurrence 0x06 (2 + 16 * lopDone)] := by
    rw [own]
    rfl
  have state : (x.lopEnd 2 lopDone 0).lopState 2 = lopDone := State.lopState_lopEnd _ _ _ _ (by decide) (by decide)
  rw [State.lopEnd_room room' (by decide), raise] at state ⊢
  refine ⟨?_, state, rfl, ?_, ?_, ?_, ((regs.setFld _ (by simp)).setFld _ (by simp)).congr rfl⟩
  · rw [own]
    rfl
  · rw [← done]
    refine (State.fld_setFld_ne _ _ _ _ (by decide) (by decide)).trans ?_
    exact State.fld_setFld_ne _ _ _ _ (by decide) (by decide)
  · rw [own]
    rfl
  · rw [own]
    rfl

theorem lop2UnitEnds (r : Fin 3) (i : Byte) (x y : BitVec 16) {ks : List Nat} (h : s.lin.lop2 = some ⟨k :: ks, n, a⟩) (few : n < 4095)
    (served : s.boot.loaded.contains (k / 32) = false) (clean : s.ecc = []) (mode : s.fld Fld.CST_ECC_INJ_MODE = 0) (room : s.raiseRoom 1) :
    ∃ t, exec (.lop2UnitEnd r i x y) s = .next t ∧
      t.storeBytes (a + 16 * n) 16 = unitRecord k (lop2Result r)
        (if r = 0 then max 1 (s.fld Fld.LIN_LOP2_CTRL_ITER) else min (max 1 (s.fld Fld.LIN_LOP2_CTRL_ITER)) i.toNat) x.toNat y.toNat s.air ∧
      (∀ b, b < a + 16 * n ∨ a + 16 * n + 16 ≤ b → t.storeByte b = s.storeByte b) ∧
      t.fld (Fld.LOP_STATn_UNITS_DONE 2) = n + 1 ∧
      (ks ≠ [] → t.lin.lop2 = some ⟨ks, n + 1, a⟩ ∧ t.raise = s.raise ∧ t.lopState 2 = s.lopState 2) ∧
      (ks = [] → t.lin.lop2 = none ∧ t.lopState 2 = lopDone ∧ t.raise = s.raise ++ [s.occurrence 0x06 (2 + 16 * lopDone)]) ∧
      t = { s with regs := t.regs, store := t.store, raise := t.raise, lin := { s.lin with lop2 := t.lin.lop2 } } ∧
      s.regsBut t [Reg.LIN_LOP2_CTRL, Reg.LOP_STATn 2] := by
  have run : exec (.lop2UnitEnd r i x y) s = .next (s.lop2Unit (lop2Result r)
      (if r = 0 then max 1 (s.fld Fld.LIN_LOP2_CTRL_ITER) else min (max 1 (s.fld Fld.LIN_LOP2_CTRL_ITER)) i.toNat) x.toNat y.toNat) := by
    show execLop2UnitEnd r i x y s = _
    rw [execLop2UnitEnd, h]
    simp only [List.head?_cons, Option.map_some, served, Option.some_beq_some]
    rfl
  rw [State.lop2Unit_eq h clean mode] at run
  have len := unitRecord_length k (lop2Result r) (if r = 0 then max 1 (s.fld Fld.LIN_LOP2_CTRL_ITER) else min (max 1 (s.fld Fld.LIN_LOP2_CTRL_ITER)) i.toNat) x.toNat y.toNat s.air
  generalize unitRecord k (lop2Result r) (if r = 0 then max 1 (s.fld Fld.LIN_LOP2_CTRL_ITER) else min (max 1 (s.fld Fld.LIN_LOP2_CTRL_ITER)) i.toNat) x.toNat y.toNat s.air = rec at *
  obtain ⟨bytes, out, done, state, shape, regs⟩ := s.unitWritten_shows (a + 16 * n) (show n + 1 < 4096 by omega) rec
  rw [len] at bytes out
  generalize s.unitWritten (a + 16 * n) (n + 1) rec = v at *
  by_cases last : ks = []
  · rw [if_pos last] at run
    have room' : v.raiseRoom 1 := room.congr (by rw [shape]) (by rw [shape])
    have raise : v.raise ++ [v.occurrence 0x06 (2 + 16 * lopDone)] = s.raise ++ [s.occurrence 0x06 (2 + 16 * lopDone)] := by
      rw [shape]
      rfl
    obtain ⟨none_, ended, raise', done', store, shape', regs'⟩ := State.unitsDone_ends room'
    generalize v.unitsDone = t at *
    refine ⟨t, run, ?_, fun b hb => ?_, done'.trans done, fun e => absurd last e, fun _ => ⟨none_, ended, raise'.trans raise⟩, ?_, regs.trans regs'⟩
    · rw [State.storeBytes, store]
      exact bytes
    · rw [State.storeByte, store]
      exact out b hb
    · rw [shape', shape]
  · rw [if_neg last] at run
    refine ⟨_, run, bytes, out, done, fun _ => ⟨rfl, ?_, state⟩, fun e => absurd e last, ?_, regs.congr rfl⟩
    · show v.raise = s.raise
      rw [shape]
    · rw [State.unitsLeft, shape]

/-! ### Kernels (R299) -/

theorem kernelSwapNoted (w : Word) (h : s.passes q Reg.LIN_CTRL true) (noClr : Fld.LIN_CTRL_CNT_CLR.of w = 0) :
    ∃ t, exec (.kernelSwapRequest q w) s = .next t ∧ t.on Fld.LIN_CTRL_KSWAP = true ∧ s.onlyRegs t [Reg.LIN_CTRL] := by
  have run := exec_access (c := .kernelSwapRequest q w) (f := fun s => s.linCtrlWrite (Fld.LIN_CTRL_KSWAP.put 1 w)) h rfl
  have clr : Fld.LIN_CTRL_CNT_CLR.of (Fld.LIN_CTRL_KSWAP.put 1 w) = 0 := (Fld.of_put_ne _ _ _ _ (by decide) (by decide)).trans noClr
  have swap : Fld.LIN_CTRL_KSWAP.of (Fld.LIN_CTRL_CNT_CLR.put 0 (Fld.LIN_CTRL_KSWAP.put 1 w)) = 1 := by
    rw [Fld.of_put_ne _ _ _ _ (by decide) (by decide)]
    exact Fld.of_put_same _ _ _ (by decide) (by decide)
  rw [State.linCtrlWrite, clr, if_neg (by decide)] at run
  exact ⟨_, run, State.on_plainWrite_sets s Fld.LIN_CTRL_KSWAP swap (by decide), rfl, (State.regsBut.refl s _).plainWrite _ (by simp)⟩

theorem kernelBanksSwap (asked : s.on Fld.LIN_CTRL_KSWAP = true) :
    ∃ t, exec .kernelBankSwap s = .next t ∧ t.fld Fld.LIN_STATUS_KBANK = 1 - s.fld Fld.LIN_STATUS_KBANK ∧
      t.on Fld.LIN_CTRL_KSWAP = false ∧ t.rf = { s.rf with log := t.rf.log } ∧ t.rf.log.tail = s.rf.log.tail ∧
      (∀ l, s.rf.log.head? = some l → l.air = symStart s.time.scs s.air → t.rf.log.head? = some (t.withSettings l)) ∧
      t = { s with regs := t.regs, rf := t.rf } ∧ s.regsBut t [Reg.LIN_CTRL, Reg.LIN_STATUS] := by
  have run : exec .kernelBankSwap s = .next ((s.setFld Fld.LIN_STATUS_KBANK (1 - s.fld Fld.LIN_STATUS_KBANK)).setFld Fld.LIN_CTRL_KSWAP 0).retake := by
    show execKernelBankSwap s = _
    rw [execKernelBankSwap, if_pos asked]
  have bank : ((s.setFld Fld.LIN_STATUS_KBANK (1 - s.fld Fld.LIN_STATUS_KBANK)).setFld Fld.LIN_CTRL_KSWAP 0).fld Fld.LIN_STATUS_KBANK =
      1 - s.fld Fld.LIN_STATUS_KBANK := by
    rw [State.fld_setFld_ne _ _ _ _ (by decide) (by decide)]
    exact State.fld_setFld_same _ _ _ (by decide) (Nat.lt_succ_of_le (Nat.sub_le 1 _))
  have off : ((s.setFld Fld.LIN_STATUS_KBANK (1 - s.fld Fld.LIN_STATUS_KBANK)).setFld Fld.LIN_CTRL_KSWAP 0).fld Fld.LIN_CTRL_KSWAP = 0 :=
    State.fld_setFld_same _ _ _ (by decide) (by decide)
  have regs : s.regsBut ((s.setFld Fld.LIN_STATUS_KBANK (1 - s.fld Fld.LIN_STATUS_KBANK)).setFld Fld.LIN_CTRL_KSWAP 0) [Reg.LIN_CTRL, Reg.LIN_STATUS] :=
    ((State.regsBut.refl s _).setFld _ (by simp)).setFld _ (by simp)
  have frame : s.beside ((s.setFld Fld.LIN_STATUS_KBANK (1 - s.fld Fld.LIN_STATUS_KBANK)).setFld Fld.LIN_CTRL_KSWAP 0) := ⟨_, rfl⟩
  generalize (s.setFld Fld.LIN_STATUS_KBANK (1 - s.fld Fld.LIN_STATUS_KBANK)).setFld Fld.LIN_CTRL_KSWAP 0 = v at *
  obtain ⟨x, taken, tail, head⟩ := v.retake_log
  obtain ⟨r, frame⟩ := frame
  have rf : v.rf = s.rf := by rw [frame]
  have now : symStart v.time.scs v.air = symStart s.time.scs s.air := by rw [frame]
  rw [taken] at run
  rw [rf, now] at head
  refine ⟨_, run, bank, (State.on_eq_false _ _).mpr off, by rw [rf], tail.trans (by rw [rf]), fun l hl ha => ?_, by rw [frame], regs.congr rfl⟩
  rw [State.withSettings_log]
  exact head l hl ha

/-! ### CNT_CLR (R447) -/

/-- The counters of the groups are cleared. -/
def State.clearGroupCounters (s : State) : State :=
  s.forEach 8 (fun s g => ((s.setFld (Fld.LIN_PGg_CAP_STATUS_CAPTURES g) 0).setFld (Fld.LIN_PGg_CAP_STATUS_SKIPS g) 0).setFld (Fld.LIN_PGg_LOAD_STATUS_LOADS g) 0)

/-- The counters of the paths are cleared. -/
def State.clearPathCounters (s : State) : State :=
  s.forEach 64 (fun s p => ((s.wr (Reg.LIN_PATHp_SAT p) 0).wr (Reg.LIN_PATHp_CFR_COUNT p) 0).wr (Reg.LIN_PATHp_LOOP_COUNT p) 0)

theorem State.clearLinCounters_eq (s : State) : s.clearLinCounters = s.clearGroupCounters.clearPathCounters := rfl

/-- The registers with a group's counters. -/
def groupCounterRegs : List Nat := (List.range 8).map Reg.LIN_PGg_CAP_STATUS ++ (List.range 8).map Reg.LIN_PGg_LOAD_STATUS

theorem State.clearGroupCounters_clears (s : State) : s.beside s.clearGroupCounters ∧ s.regsBut s.clearGroupCounters groupCounterRegs ∧
    ∀ g < 8, s.clearGroupCounters.fld (Fld.LIN_PGg_CAP_STATUS_CAPTURES g) = 0 ∧ s.clearGroupCounters.fld (Fld.LIN_PGg_CAP_STATUS_SKIPS g) = 0 ∧
      s.clearGroupCounters.fld (Fld.LIN_PGg_LOAD_STATUS_LOADS g) = 0 := by
  unfold State.clearGroupCounters
  refine State.forEach_induct (fun k v => s.beside v ∧ s.regsBut v groupCounterRegs ∧ ∀ g < k, v.fld (Fld.LIN_PGg_CAP_STATUS_CAPTURES g) = 0 ∧
    v.fld (Fld.LIN_PGg_CAP_STATUS_SKIPS g) = 0 ∧ v.fld (Fld.LIN_PGg_LOAD_STATUS_LOADS g) = 0) ⟨.refl s, .refl s _, fun g hg => absurd hg (Nat.not_lt_zero g)⟩ ?_
  intro v k hk h
  obtain ⟨away, regs, zero⟩ := h
  have cap : Reg.LIN_PGg_CAP_STATUS k ∈ groupCounterRegs := List.mem_append_left _ (List.mem_map_of_mem (List.mem_range.mpr hk))
  have load : Reg.LIN_PGg_LOAD_STATUS k ∈ groupCounterRegs := List.mem_append_right _ (List.mem_map_of_mem (List.mem_range.mpr hk))
  refine ⟨((away.setFld _ _).setFld _ _).setFld _ _, ((regs.setFld _ cap).setFld _ cap).setFld _ load, fun g hg => ?_⟩
  rcases eq_or_ne g k with rfl | hne
  · refine ⟨?_, ?_, State.fld_setFld_same _ _ _ (by simp) (by simp)⟩
    · rw [State.fld_setFld_ne _ _ _ _ (by simp) (by simp), State.fld_setFld_ne _ _ _ _ (by simp) (by simp)]
      exact State.fld_setFld_same _ _ _ (by simp) (by simp)
    · rw [State.fld_setFld_ne _ _ _ _ (by simp) (by simp)]
      exact State.fld_setFld_same _ _ _ (by simp) (by simp)
  · have other (f : Fld) (hc : f.addr ≠ Reg.LIN_PGg_CAP_STATUS k) (hl : f.addr ≠ Reg.LIN_PGg_LOAD_STATUS k) :
        (((v.setFld (Fld.LIN_PGg_CAP_STATUS_CAPTURES k) 0).setFld (Fld.LIN_PGg_CAP_STATUS_SKIPS k) 0).setFld (Fld.LIN_PGg_LOAD_STATUS_LOADS k) 0).fld f = v.fld f := by
      rw [State.fld_setFld_ne _ _ _ _ (by simp) (.inl hl), State.fld_setFld_ne _ _ _ _ (by simp) (.inl hc), State.fld_setFld_ne _ _ _ _ (by simp) (.inl hc)]
    obtain ⟨captures, skips, loads⟩ := zero g (by omega)
    refine ⟨(other _ ?_ ?_).trans captures, (other _ ?_ ?_).trans skips, (other _ ?_ ?_).trans loads⟩
    all_goals
      simp only [Reg.LIN_PGg_CAP_STATUS, Reg.LIN_PGg_LOAD_STATUS]
      omega

theorem State.clearPathCounters_zeroes (s : State) : s.zeroes s.clearPathCounters
    (fun b => ∃ p < 64, (b = Reg.LIN_PATHp_SAT p ∨ b = Reg.LIN_PATHp_CFR_COUNT p) ∨ b = Reg.LIN_PATHp_LOOP_COUNT p) := by
  unfold State.clearPathCounters
  refine (State.zeroes.forEach (Q := fun p b => (b = Reg.LIN_PATHp_SAT p ∨ b = Reg.LIN_PATHp_CFR_COUNT p) ∨ b = Reg.LIN_PATHp_LOOP_COUNT p)
    (.refl s) (fun v R p hv => ?_) 64).of_iff fun _ => iff_of_eq (false_or _)
  exact (((hv.wr _).wr _).wr _).of_iff fun _ => by simp only [or_assoc]

theorem linCleared (w : Word) (h : s.passes q Reg.LIN_CTRL true) :
    ∃ t, exec (.linCntClr q w) s = .next t ∧
      (∀ g < 8, t.fld (Fld.LIN_PGg_CAP_STATUS_CAPTURES g) = 0 ∧ t.fld (Fld.LIN_PGg_CAP_STATUS_SKIPS g) = 0 ∧
        t.fld (Fld.LIN_PGg_LOAD_STATUS_LOADS g) = 0 ∧ t.rd (Reg.LIN_PGg_COR_STATUS g) = s.rd (Reg.LIN_PGg_COR_STATUS g)) ∧
      (∀ p < 64, t.rd (Reg.LIN_PATHp_SAT p) = 0 ∧ t.rd (Reg.LIN_PATHp_CFR_COUNT p) = 0 ∧ t.rd (Reg.LIN_PATHp_LOOP_COUNT p) = 0) ∧
      s.onlyRegs t (Reg.LIN_CTRL :: (List.range 8).map Reg.LIN_PGg_CAP_STATUS ++ (List.range 8).map Reg.LIN_PGg_LOAD_STATUS ++
        (List.range 64).map Reg.LIN_PATHp_SAT ++ (List.range 64).map Reg.LIN_PATHp_CFR_COUNT ++ (List.range 64).map Reg.LIN_PATHp_LOOP_COUNT) := by
  have run := exec_access (c := .linCntClr q w) (f := fun s => s.linCtrlWrite (Fld.LIN_CTRL_CNT_CLR.put 1 w)) h rfl
  have clr : Fld.LIN_CTRL_CNT_CLR.of (Fld.LIN_CTRL_CNT_CLR.put 1 w) = 1 := Fld.of_put_same _ _ _ (by decide) (by decide)
  rw [State.linCtrlWrite, if_pos clr, State.clearLinCounters_eq] at run
  have regs₁ : s.regsBut (s.plainWrite Reg.LIN_CTRL (Fld.LIN_CTRL_CNT_CLR.put 0 (Fld.LIN_CTRL_CNT_CLR.put 1 w))) [Reg.LIN_CTRL] :=
    (State.regsBut.refl s _).plainWrite _ (by simp)
  have away₁ : s.beside (s.plainWrite Reg.LIN_CTRL (Fld.LIN_CTRL_CNT_CLR.put 0 (Fld.LIN_CTRL_CNT_CLR.put 1 w))) := ⟨_, rfl⟩
  generalize s.plainWrite Reg.LIN_CTRL (Fld.LIN_CTRL_CNT_CLR.put 0 (Fld.LIN_CTRL_CNT_CLR.put 1 w)) = v at *
  obtain ⟨away₂, regs₂, groups⟩ := v.clearGroupCounters_clears
  generalize v.clearGroupCounters = u at *
  have paths := u.clearPathCounters_zeroes
  generalize u.clearPathCounters = t at *
  have kept (a : Nat) (ha : a < 0x1A0000) : t.rd a = u.rd a := paths.rest a fun ⟨p, _, e⟩ => by
    simp only [Reg.LIN_PATHp_SAT, Reg.LIN_PATHp_CFR_COUNT, Reg.LIN_PATHp_LOOP_COUNT] at e
    omega
  refine ⟨t, run, fun g hg => ?_, fun p hp => ⟨paths.zero _ ⟨p, hp, .inl (.inl rfl)⟩, paths.zero _ ⟨p, hp, .inl (.inr rfl)⟩, paths.zero _ ⟨p, hp, .inr rfl⟩⟩, ?_, ?_⟩
  · obtain ⟨captures, skips, loads⟩ := groups g hg
    have field (f : Fld) (hf : f.addr < 0x1A0000) : t.fld f = u.fld f := State.fld_congr (kept _ hf)
    refine ⟨(field _ (by simp only [Reg.LIN_PGg_CAP_STATUS]; omega)).trans captures, (field _ (by simp only [Reg.LIN_PGg_CAP_STATUS]; omega)).trans skips,
      (field _ (by simp only [Reg.LIN_PGg_LOAD_STATUS]; omega)).trans loads, ?_⟩
    rw [kept _ (by simp only [Reg.LIN_PGg_COR_STATUS]; omega), regs₂ _ (by
      simp only [groupCounterRegs, List.mem_append, List.mem_map, List.mem_range, Reg.LIN_PGg_COR_STATUS, Reg.LIN_PGg_CAP_STATUS, Reg.LIN_PGg_LOAD_STATUS]
      omega), regs₁ _ (by simp only [Reg.LIN_PGg_COR_STATUS, List.mem_singleton, Reg.LIN_CTRL]; omega)]
  · obtain ⟨r, e⟩ := (away₁.trans away₂).trans paths.frame
    rw [e]
  · intro a ha
    simp only [List.mem_append, List.mem_cons, List.mem_map, List.mem_range, not_or] at ha
    obtain ⟨⟨⟨⟨⟨ctrl, cap⟩, load⟩, sat⟩, cfr⟩, loop⟩ := ha
    rw [paths.rest a, regs₂ a, regs₁ a]
    · simpa using ctrl
    · simp only [groupCounterRegs, List.mem_append, List.mem_map, List.mem_range, not_or]
      exact ⟨cap, load⟩
    · rintro ⟨p, hp, (e | e) | e⟩
      · exact sat ⟨p, hp, e.symm⟩
      · exact cfr ⟨p, hp, e.symm⟩
      · exact loop ⟨p, hp, e.symm⟩

/-! ### Corrections (R302, R303) -/

theorem Fld.put_put (f : Fld) (u v : Nat) (d : Word) (h : f.hi < 32) : f.put v (f.put u d) = f.put v d := by
  apply BitVec.eq_of_getLsbD_eq
  intro i hi
  unfold Fld.put
  rw [getLsbD_putField _ _ _ _ _ h, getLsbD_putField _ _ _ _ _ h, getLsbD_putField _ _ _ _ _ h]
  split_ifs <;> rfl

/-- A correction of 0 is at no limit but 0. -/
theorem State.corrLimit_zero (s : State) (p : Nat) (zero : s.fld (Fld.LIN_PATHp_LOOP_STATUS_CORR p) = 0)
    (limit : s.fld (Fld.LIN_PATHp_LOOP_CFG_LIMIT p) ≠ 0) : s.corrLimit p = s.setFld (Fld.LIN_PATHp_LOOP_STATUS_AT_LIMIT p) 0 := by
  have below : decide ((sext 11 0).natAbs = s.fld (Fld.LIN_PATHp_LOOP_CFG_LIMIT p)) = false := decide_eq_false fun e => limit (e.symm.trans rfl)
  rw [State.corrLimit, zero]
  simp only [below, Bool.false_and, Bool.false_eq_true, if_false]
  rfl

theorem correctionCleared (p : Fin 64) (w : Word) (h : s.passes q (Reg.LIN_PATHp_LOOP_CFG p.val) true) {v : Word}
    (hv : v = writeWord (Reg.LIN_PATHp_LOOP_CFG p.val) ((Fld.LIN_PATHp_LOOP_CFG_CORR_CLR p.val).put 0 w) (s.rd (Reg.LIN_PATHp_LOOP_CFG p.val)))
    (limit : (Fld.LIN_PATHp_LOOP_CFG_LIMIT p.val).of v ≠ 0) :
    ∃ t, exec (.corrClr p q w) s = .next t ∧ t.fld (Fld.LIN_PATHp_LOOP_STATUS_CORR p.val) = 0 ∧
      t.on (Fld.LIN_PATHp_LOOP_STATUS_AT_LIMIT p.val) = false ∧ t.rd (Reg.LIN_PATHp_LOOP_CFG p.val) = v ∧
      s.onlyRegs t [Reg.LIN_PATHp_LOOP_CFG p.val, Reg.LIN_PATHp_LOOP_STATUS p.val] := by
  have run := exec_access (c := .corrClr p q w) (f := fun s => s.loopCfgWrite p.val ((Fld.LIN_PATHp_LOOP_CFG_CORR_CLR p.val).put 1 w)) h rfl
  have clr : (Fld.LIN_PATHp_LOOP_CFG_CORR_CLR p.val).of ((Fld.LIN_PATHp_LOOP_CFG_CORR_CLR p.val).put 1 w) = 1 := Fld.of_put_same _ _ _ (by simp) (by simp)
  generalize p.val = p at *
  rw [State.loopCfgWrite, if_pos clr, Fld.put_put _ _ _ _ (by simp)] at run
  have word : (s.plainWrite (Reg.LIN_PATHp_LOOP_CFG p) ((Fld.LIN_PATHp_LOOP_CFG_CORR_CLR p).put 0 w)).rd (Reg.LIN_PATHp_LOOP_CFG p) = v :=
    (State.rd_wr_same _ _ _).trans hv.symm
  have regs : s.regsBut (s.plainWrite (Reg.LIN_PATHp_LOOP_CFG p) ((Fld.LIN_PATHp_LOOP_CFG_CORR_CLR p).put 0 w))
      [Reg.LIN_PATHp_LOOP_CFG p, Reg.LIN_PATHp_LOOP_STATUS p] := (State.regsBut.refl s _).plainWrite _ (by simp)
  have away : s.beside (s.plainWrite (Reg.LIN_PATHp_LOOP_CFG p) ((Fld.LIN_PATHp_LOOP_CFG_CORR_CLR p).put 0 w)) := ⟨_, rfl⟩
  generalize s.plainWrite (Reg.LIN_PATHp_LOOP_CFG p) ((Fld.LIN_PATHp_LOOP_CFG_CORR_CLR p).put 0 w) = u at *
  have zero : (u.setFld (Fld.LIN_PATHp_LOOP_STATUS_CORR p) 0).fld (Fld.LIN_PATHp_LOOP_STATUS_CORR p) = 0 := State.fld_setFld_same _ _ _ (by simp) (by simp)
  have bound : (u.setFld (Fld.LIN_PATHp_LOOP_STATUS_CORR p) 0).fld (Fld.LIN_PATHp_LOOP_CFG_LIMIT p) ≠ 0 := by
    rw [State.fld_setFld_ne _ _ _ _ (by simp) (by simp), State.fld, word]
    exact limit
  rw [State.corrLimit_zero _ _ zero bound] at run
  refine ⟨_, run, ?_, ?_, ?_, ?_, (regs.setFld _ (by simp)).setFld _ (by simp)⟩
  · rw [State.fld_setFld_ne _ _ _ _ (by simp) (by simp)]
    exact zero
  · rw [State.on_eq_false]
    exact State.fld_setFld_same _ _ _ (by simp) (by simp)
  · rw [State.rd_setFld_ne _ _ _ (by simp), State.rd_setFld_ne _ _ _ (by simp)]
    exact word
  · obtain ⟨r, e⟩ := (away.setFld (Fld.LIN_PATHp_LOOP_STATUS_CORR p) 0).setFld (Fld.LIN_PATHp_LOOP_STATUS_AT_LIMIT p) 0
    rw [e]

theorem compGoesStale (g : Fin 8) (on : s.domOn pdLin = true) (fresh : s.on (Fld.LIN_PGg_COMP_STATUS_STALE g.val) = false) (room : s.raiseRoom 1) :
    ∃ t, exec (.compStaleTimeout g) s = .next t ∧ t.on (Fld.LIN_PGg_COMP_STATUS_STALE g.val) = true ∧
      t.raise = s.raise ++ [s.occurrence 0x87 g.val] ∧ t = { s with regs := t.regs, raise := t.raise } ∧
      s.regsBut t [Reg.LIN_PGg_COMP_STATUS g.val] := by
  have run : exec (.compStaleTimeout g) s = .next ((s.setFld (Fld.LIN_PGg_COMP_STATUS_STALE g.val) 1).event 0x87 g.val) := by
    show execCompStaleTimeout g s = _
    simp only [execCompStaleTimeout, on, fresh, Bool.not_false, Bool.and_self, if_true]
  rw [State.event_raiseRoom (s := s.setFld (Fld.LIN_PGg_COMP_STATUS_STALE g.val) 1) (room.congr rfl rfl) (by decide)] at run
  exact ⟨_, run, State.on_setFld_one _ _ (by simp) (by simp), rfl, rfl, ((State.regsBut.refl s _).setFld _ (by simp)).congr rfl⟩

/-- Settles O45: LOP2 starts, records its units and ends; kernels swap at a boundary; CORR_CLR, a stale source and CNT_CLR load what they name. -/
theorem preDistortionCampaignsAndSettings : Obligations.PreDistortionCampaignsAndSettings := by
  unfold Obligations.PreDistortionCampaignsAndSettings
  intro q w s
  refine ⟨fun pass => ⟨fun busy => lop2_overrun w pass busy, ?_, fun busy room => lop2_aborted w pass busy room⟩, ?_,
    fun pass => ⟨fun noClr => kernelSwapNoted w pass noClr, linCleared w pass⟩, fun asked => kernelBanksSwap asked, ?_,
    fun g on fresh room => compGoesStale g on fresh room⟩
  · intro us hus a ha idle fitted dsp lo hi
    exact lop2_started w pass hus ha idle fitted dsp lo hi
  · intro r i x y k ks n a h few _ served clean mode room
    exact lop2UnitEnds r i x y h few served clean mode room
  · intro p pass v hv limit
    exact correctionCleared p w pass hv limit

end Sys2Proof.Machine

/-!
PROOFS. The LO synthesisers: retunes, calibrations, locks and phase steps (O46).
-/

namespace Sys2Proof.Machine

variable {s t u v : State} {as : List Nat} {a g x c n m k : Nat} {q : Requester} {d : Word}

/-! ### What a synthesiser's own steps change -/

/-- Registers of the list, the raise FIFO and the synthesisers change. -/
structure State.tunes (s : State) (as : List Nat) (t : State) : Prop where
  frame : t = { s with regs := t.regs, raise := t.raise, rf := { s.rf with synths := t.rf.synths } }
  regs : s.regsBut t as

namespace State.tunes

theorem refl (s : State) (as : List Nat) : s.tunes as s := ⟨rfl, .refl s as⟩

theorem trans (h : s.tunes as t) (h' : t.tunes as u) : s.tunes as u := by
  refine ⟨?_, h.regs.trans h'.regs⟩
  have shape := h.frame
  generalize t.regs = r, t.raise = e, t.rf.synths = y at shape
  subst shape
  exact h'.frame

theorem mono {bs : List Nat} (h : s.tunes as t) (hs : ∀ a ∈ as, a ∈ bs) : s.tunes bs t := ⟨h.frame, h.regs.mono hs⟩

theorem setFld (h : s.tunes as t) {f : Fld} (v : Nat) (hf : f.addr ∈ as) : s.tunes as (t.setFld f v) :=
  h.trans ⟨rfl, (State.regsBut.refl t as).setFld v hf⟩

theorem count (h : s.tunes as t) {f : Fld} (v : Nat) (hf : f.addr ∈ as) : s.tunes as (t.count f v) :=
  h.trans ⟨rfl, (State.regsBut.refl t as).count v hf⟩

theorem plainWrite (h : s.tunes as t) (d : Word) (ha : a ∈ as) : s.tunes as (t.plainWrite a d) :=
  h.trans ⟨rfl, (State.regsBut.refl t as).plainWrite d ha⟩

theorem setSynth (h : s.tunes as t) (y : Synth) : s.tunes as (t.setSynth g x y) :=
  h.trans ⟨rfl, State.regsBut.of_regs rfl _⟩

theorem raise (h : s.tunes as t) (e : List EventRec) : s.tunes as { t with raise := e } :=
  h.trans ⟨rfl, State.regsBut.of_regs rfl _⟩

theorem still (h : s.tunes as t) (hr : t.raise = s.raise) : t = { s with regs := t.regs, rf := { s.rf with synths := t.rf.synths } } := by
  have shape := h.frame
  rw [hr] at shape
  exact shape

end State.tunes

/-- The registers of synthesiser `x` of group `g`, the group's counters, and the channel table. -/
def tuneReg (g x a : Nat) : Prop :=
  a = Reg.RFE_PGg_LOx_CTRL g x ∨ a = Reg.RFE_PGg_LOx_STATUS g x ∨ a = Reg.RFE_PGg_LOx_PHASE g x ∨ a = Reg.RFE_PGg_LOx_PHPOS g x ∨
    a = Reg.RFE_PGg_LOCNT g ∨ 0x2A0000 ≤ a

/-- Synthesiser `x` of group `g` is not the ready one in use, or the group is off. -/
def State.apart (s : State) (g x : Nat) : Prop := s.groupOn g = false ∨ (s.loReady g = true ∧ s.loInUse g ≠ x)

/-- A group that is ready or off is left by the watch of R334. -/
theorem State.apart.checkReady (h : s.apart g x) : s.checkReady g = s := by
  unfold State.checkReady
  dsimp only
  rw [if_pos]
  rcases h with off | ⟨ready, -⟩
  · simp [off]
  · simp [ready]

theorem State.tunes.apart (h : s.tunes as t) (hg : g < 8) (hx : x < 2) (own : ∀ a ∈ as, tuneReg g x a) (calm : s.apart g x) : t.apart g x := by
  have kept (f : Fld) (hf : ¬ tuneReg g x f.addr) : t.fld f = s.fld f := h.regs.fld f fun m => hf (own _ m)
  have fitted : t.on (Fld.RFE_PGg_CFG_FITTED g) = s.on (Fld.RFE_PGg_CFG_FITTED g) := congrArg (fun x => decide (x ≠ 0)) (kept _ (by
    unfold tuneReg
    simp only [Reg.RFE_PGg_CFG, Reg.RFE_PGg_LOx_CTRL, Reg.RFE_PGg_LOx_STATUS, Reg.RFE_PGg_LOx_PHASE, Reg.RFE_PGg_LOx_PHPOS, Reg.RFE_PGg_LOCNT]
    omega))
  have lock : t.on Fld.CLK_STATUS_ROOT_LOCK = s.on Fld.CLK_STATUS_ROOT_LOCK := congrArg (fun x => decide (x ≠ 0)) (kept _ (by
    unfold tuneReg
    simp only [Reg.CLK_STATUS, Reg.RFE_PGg_LOx_CTRL, Reg.RFE_PGg_LOx_STATUS, Reg.RFE_PGg_LOx_PHASE, Reg.RFE_PGg_LOx_PHPOS, Reg.RFE_PGg_LOCNT]
    omega))
  have use : t.loInUse g = s.loInUse g := kept _ (by
    unfold tuneReg
    simp only [Reg.RFE_PGg_LOSEL, Reg.RFE_PGg_LOx_CTRL, Reg.RFE_PGg_LOx_STATUS, Reg.RFE_PGg_LOx_PHASE, Reg.RFE_PGg_LOx_PHPOS, Reg.RFE_PGg_LOCNT]
    omega)
  have shape := h.frame
  rcases calm with off | ⟨ready, other⟩
  · left
    have domain : t.domOn (pdPg g) = s.domOn (pdPg g) := by rw [shape]; rfl
    have cal : t.calibrating g = s.calibrating g := by rw [shape]; rfl
    rw [State.groupOn, fitted, domain, cal]
    exact off
  · right
    have state : t.loState g (s.loInUse g) = s.loState g (s.loInUse g) := kept _ (by
      have low : s.loInUse g < 2 := s.fld_lt _
      unfold tuneReg
      simp only [Reg.RFE_PGg_LOx_CTRL, Reg.RFE_PGg_LOx_STATUS, Reg.RFE_PGg_LOx_PHASE, Reg.RFE_PGg_LOx_PHPOS, Reg.RFE_PGg_LOCNT]
      omega)
    rw [State.loReady, use, state, lock]
    exact ⟨ready, other⟩

theorem State.synth_setSynth (s : State) (g x : Nat) (y : Synth) : (s.setSynth g x y).synth g x = y := SMap.get_set_same _ _ _ _

theorem State.synth_setFld (s : State) (f : Fld) (v g x : Nat) : (s.setFld f v).synth g x = s.synth g x := rfl

/-- The phase steps are cancelled. -/
theorem State.cancelPhase_tunes (s : State) (g x : Nat) : s.tunes [Reg.RFE_PGg_LOx_PHASE g x] (s.cancelPhase g x) :=
  (((State.tunes.refl s _).setSynth _).setFld _ (by simp)).setFld _ (by simp)

theorem State.cancelPhase_synth (s : State) (g x : Nat) : (s.cancelPhase g x).synth g x = { s.synth g x with phaseLeft := 0 } := by
  rw [State.cancelPhase, State.synth_setFld, State.synth_setFld, State.synth_setSynth]

theorem State.cancelPhase_busy (s : State) (g x : Nat) : (s.cancelPhase g x).on (Fld.RFE_PGg_LOx_PHASE_BUSY g x) = false := by
  rw [State.on_eq_false, State.cancelPhase, State.fld_setFld_ne _ _ _ _ (by simp) (by simp)]
  exact State.fld_setFld_same _ _ _ (by simp) (by simp)

section
variable (hg : g < 8) (hx : x < 2)
include hg hx

/-- A synthesiser that is watched by nobody enters a state. -/
theorem State.apart.setLo (calm : s.apart g x) {st : Nat} (hs : st < 8) :
    (s.setLo g x st).loState g x = st ∧ (s.setLo g x st).raise = s.raise ∧ (s.setLo g x st).loChan g x = s.loChan g x ∧
    (s.setLo g x st).synth g x = (if st = loLocked then { s.synth g x with lockedAt := s.air } else s.synth g x) ∧
    (st ≠ loLocked → s.beside (s.setLo g x st)) ∧ s.tunes [Reg.RFE_PGg_LOx_STATUS g x] (s.setLo g x st) := by
  have own : ∀ a ∈ [Reg.RFE_PGg_LOx_STATUS g x], tuneReg g x a := fun a ha => .inr (.inl (List.mem_singleton.mp ha))
  have state : (s.setFld (Fld.RFE_PGg_LOx_STATUS_STATE g x) st).loState g x = st := State.fld_setFld_same _ _ _ (by simp) hs
  have chan : (s.setFld (Fld.RFE_PGg_LOx_STATUS_STATE g x) st).loChan g x = s.loChan g x := State.fld_setFld_ne _ _ _ _ (by simp) (by simp)
  have tuned : s.tunes [Reg.RFE_PGg_LOx_STATUS g x] (s.setFld (Fld.RFE_PGg_LOx_STATUS_STATE g x) st) := .setFld (.refl s _) _ (by simp)
  unfold State.setLo
  dsimp only
  split_ifs with locked
  · have tuned' := tuned.setSynth (g := g) (x := x) { s.synth g x with lockedAt := s.air }
    have same : (s.setFld (Fld.RFE_PGg_LOx_STATUS_STATE g x) st).setSynth g x { (s.setFld (Fld.RFE_PGg_LOx_STATUS_STATE g x) st).synth g x with
      lockedAt := (s.setFld (Fld.RFE_PGg_LOx_STATUS_STATE g x) st).air } =
      (s.setFld (Fld.RFE_PGg_LOx_STATUS_STATE g x) st).setSynth g x { s.synth g x with lockedAt := s.air } := rfl
    rw [same, (tuned'.apart hg hx own calm).checkReady]
    exact ⟨state, rfl, chan, State.synth_setSynth _ _ _ _, fun e => absurd locked e, tuned'⟩
  · rw [(tuned.apart hg hx own calm).checkReady]
    exact ⟨state, rfl, chan, rfl, fun _ => ⟨_, rfl⟩, tuned⟩

end

/-! ### The channel table (R328) -/

/-- Byte `i` of entry `c`. -/
def State.chanByte (s : State) (c i : Nat) : Byte := BitVec.ofNat 8 (getField (8 * (i % 4) + 7) (8 * (i % 4)) (s.rd (Reg.SYT_CHAN (64 * c + i / 4))))

theorem State.chanByte_put_same (s : State) (c i : Nat) (b : Byte) : (s.putChanByte c i b).chanByte c i = b := by
  have put : (s.putChanByte c i b).fld ⟨Reg.SYT_CHAN (64 * c + i / 4), 8 * (i % 4) + 7, 8 * (i % 4)⟩ = b.toNat := by
    refine State.fld_setFld_same _ _ _ (by simp only; omega) ?_
    have := b.isLt
    simp only [show 8 * (i % 4) + 7 + 1 - 8 * (i % 4) = 8 by omega]
    exact this
  rw [State.chanByte]
  exact (congrArg (BitVec.ofNat 8) put).trans (BitVec.eq_of_toNat_eq (by simp))

theorem State.chanByte_put_ne (s : State) (c : Nat) {i j : Nat} (b : Byte) (h : j ≠ i) : (s.putChanByte c i b).chanByte c j = s.chanByte c j := by
  have put : (s.putChanByte c i b).fld ⟨Reg.SYT_CHAN (64 * c + j / 4), 8 * (j % 4) + 7, 8 * (j % 4)⟩ =
      s.fld ⟨Reg.SYT_CHAN (64 * c + j / 4), 8 * (j % 4) + 7, 8 * (j % 4)⟩ := by
    refine State.fld_setFld_ne _ _ _ _ (by simp only; omega) ?_
    simp only [Reg.SYT_CHAN]
    omega
  exact congrArg (BitVec.ofNat 8) put

theorem State.putChanBytes_from (c k : Nat) (bs : List Byte) (s : State) (m : Nat) :
    (∀ j, j < k + m → ((bs.zipIdx m).foldl (fun s b => s.putChanByte c (k + b.2) b.1) s).chanByte c j = s.chanByte c j) ∧
    (List.range bs.length).map (fun i => ((bs.zipIdx m).foldl (fun s b => s.putChanByte c (k + b.2) b.1) s).chanByte c (k + m + i)) = bs ∧
    s.beside ((bs.zipIdx m).foldl (fun s b => s.putChanByte c (k + b.2) b.1) s) ∧
    s.regsBut ((bs.zipIdx m).foldl (fun s b => s.putChanByte c (k + b.2) b.1) s)
      ((List.range bs.length).map (fun i => Reg.SYT_CHAN (64 * c + (k + m + i) / 4))) := by
  induction bs generalizing s m with
  | nil => exact ⟨fun _ _ => rfl, rfl, .refl s, .refl s _⟩
  | cons b bs ih =>
    obtain ⟨low, bytes, away, regs⟩ := ih (s.putChanByte c (k + m) b) (m + 1)
    rw [List.zipIdx_cons, List.foldl_cons]
    refine ⟨fun j hj => ?_, ?_, State.beside.trans ⟨_, rfl⟩ away, ?_⟩
    · rw [low j (by omega), State.chanByte_put_ne _ _ _ (by omega)]
    · rw [List.length_cons, List.range_succ_eq_map, List.map_cons, List.map_map, low _ (by omega), show k + m + 0 = k + m from rfl, State.chanByte_put_same]
      refine congrArg (b :: ·) (Eq.trans ?_ bytes)
      refine List.map_congr_left fun i _ => ?_
      rw [Function.comp_apply, show k + m + (i + 1) = k + (m + 1) + i by omega]
    · refine State.regsBut.trans ((State.regsBut.refl s _).setFld _ ?_) (regs.mono ?_)
      · exact List.mem_map.mpr ⟨0, List.mem_range.mpr (by simp), rfl⟩
      · intro a ha
        obtain ⟨i, hi, rfl⟩ := List.mem_map.mp ha
        have := List.mem_range.mp hi
        exact List.mem_map.mpr ⟨i + 1, List.mem_range.mpr (by simpa using this), by rw [show k + m + (i + 1) = k + (m + 1) + i by omega]⟩

/-- Bytes written into an entry read back, and no other register changes. -/
theorem State.chanBytes_putChanBytes (s : State) (c k : Nat) (bs : List Byte) : (s.putChanBytes c k bs).chanBytes c k bs.length = bs ∧
    s.beside (s.putChanBytes c k bs) ∧ s.regsBut (s.putChanBytes c k bs) ((List.range bs.length).map (fun i => Reg.SYT_CHAN (64 * c + (k + i) / 4))) := by
  obtain ⟨-, bytes, away, regs⟩ := State.putChanBytes_from c k bs s 0
  exact ⟨bytes, away, regs⟩

/-! ### Retunes (R329, R330) -/

/-- The record of a channel holds codes that the temperature lets a synthesiser use. -/
def State.codesStored (s : State) (g : Nat) (r : List Byte) : Bool :=
  bitOf (fieldAt r 4 1) 7 &&
    (s.fld Fld.SYT_CFG_DRIFT == 0 || decide ((s.groupTemp g - sext 16 (fieldAt r 6 2)).natAbs ≤ 16 * s.fld Fld.SYT_CFG_DRIFT))

theorem State.retune_eq (s : State) (g x c : Nat) (usable : entryUsable (s.chanEntry c) = true)
    (band : entryBand (s.chanEntry c) = s.fld (Fld.RFE_PGg_CFG_BAND g)) :
    s.retune g x c = (((s.cancelPhase g x).setSynth g x { (s.cancelPhase g x).synth g x with
      entry := s.chanEntry c, record := s.chanBytes c (32 + 8 * (2 * g + x)) 8 }).setFld (Fld.RFE_PGg_LOx_STATUS_CHAN g x) c).setLo g x
      (if s.codesStored g (s.chanBytes c (32 + 8 * (2 * g + x)) 8) then loRetune else loVcoCal) := by
  rw [State.retune, State.codesStored]
  simp only [usable, band, Bool.not_true, Bool.false_eq_true, if_false, ne_eq, not_true_eq_false]

section
variable (hg : g < 8) (hx : x < 2) (calm : s.apart g x)
include hg hx calm

/-- A retune to a usable channel of the group's band. -/
theorem State.apart.retune (hc : c < 1024) (usable : entryUsable (s.chanEntry c) = true) (band : entryBand (s.chanEntry c) = s.fld (Fld.RFE_PGg_CFG_BAND g)) :
    (s.retune g x c).loChan g x = c ∧ ((s.retune g x c).loState g x = loRetune ∨ (s.retune g x c).loState g x = loVcoCal) ∧
    (bitOf (fieldAt (s.chanBytes c (32 + 8 * (2 * g + x)) 8) 4 1) 7 = false → (s.retune g x c).loState g x = loVcoCal) ∧
    (s.retune g x c).synth g x = { s.synth g x with phaseLeft := 0, entry := s.chanEntry c, record := s.chanBytes c (32 + 8 * (2 * g + x)) 8 } ∧
    (s.retune g x c).raise = s.raise ∧ s.tunes [Reg.RFE_PGg_LOx_STATUS g x, Reg.RFE_PGg_LOx_PHASE g x] (s.retune g x c) := by
  have run := s.retune_eq g x c usable band
  have goes : ((if s.codesStored g (s.chanBytes c (32 + 8 * (2 * g + x)) 8) then loRetune else loVcoCal) = loRetune ∨
      (if s.codesStored g (s.chanBytes c (32 + 8 * (2 * g + x)) 8) then loRetune else loVcoCal) = loVcoCal) ∧
      (bitOf (fieldAt (s.chanBytes c (32 + 8 * (2 * g + x)) 8) 4 1) 7 = false →
        (if s.codesStored g (s.chanBytes c (32 + 8 * (2 * g + x)) 8) then loRetune else loVcoCal) = loVcoCal) := by
    refine ⟨by split_ifs <;> simp, fun no => ?_⟩
    rw [State.codesStored, no]
    rfl
  generalize (if s.codesStored g (s.chanBytes c (32 + 8 * (2 * g + x)) 8) then loRetune else loVcoCal) = st at *
  have cancelled := s.cancelPhase_tunes g x
  have synth := s.cancelPhase_synth g x
  have raise : (s.cancelPhase g x).raise = s.raise := rfl
  rw [run]
  clear run
  generalize s.cancelPhase g x = v at *
  generalize s.chanBytes c (32 + 8 * (2 * g + x)) 8 = r at *
  have tuned := ((cancelled.mono (bs := [Reg.RFE_PGg_LOx_STATUS g x, Reg.RFE_PGg_LOx_PHASE g x]) (by simp)).setSynth (g := g) (x := x)
    { v.synth g x with entry := s.chanEntry c, record := r }).setFld (f := Fld.RFE_PGg_LOx_STATUS_CHAN g x) c (by simp)
  have chan : ((v.setSynth g x { v.synth g x with entry := s.chanEntry c, record := r }).setFld (Fld.RFE_PGg_LOx_STATUS_CHAN g x) c).loChan g x = c :=
    State.fld_setFld_same _ _ _ (by simp) hc
  have synth' : ((v.setSynth g x { v.synth g x with entry := s.chanEntry c, record := r }).setFld (Fld.RFE_PGg_LOx_STATUS_CHAN g x) c).synth g x =
      { v.synth g x with entry := s.chanEntry c, record := r } := by rw [State.synth_setFld, State.synth_setSynth]
  have raise' : ((v.setSynth g x { v.synth g x with entry := s.chanEntry c, record := r }).setFld (Fld.RFE_PGg_LOx_STATUS_CHAN g x) c).raise = v.raise := rfl
  generalize (v.setSynth g x { v.synth g x with entry := s.chanEntry c, record := r }).setFld (Fld.RFE_PGg_LOx_STATUS_CHAN g x) c = u at *
  have own : ∀ a ∈ [Reg.RFE_PGg_LOx_STATUS g x, Reg.RFE_PGg_LOx_PHASE g x], tuneReg g x a := by
    intro a ha
    simp only [List.mem_cons, List.not_mem_nil, or_false] at ha
    unfold tuneReg
    tauto
  have few : st < 8 := by rcases goes.1 with rfl | rfl <;> decide
  have free : st ≠ loLocked := by rcases goes.1 with rfl | rfl <;> decide
  obtain ⟨state, raised, chan', synth'', -, done⟩ := (tuned.apart hg hx own calm).setLo hg hx few
  rw [if_neg free, synth', synth] at synth''
  refine ⟨chan'.trans chan, by rw [state]; exact goes.1, fun no => by rw [state]; exact goes.2 no, synth'', raised.trans (raise'.trans raise),
    tuned.trans (done.mono (by simp))⟩

/-- A synthesiser that stops. -/
theorem State.apart.stopLo : (s.stopLo g x).loState g x = loOff ∧ ((s.stopLo g x).synth g x).phaseLeft = 0 ∧ (s.stopLo g x).raise = s.raise ∧
    s.tunes [Reg.RFE_PGg_LOx_STATUS g x, Reg.RFE_PGg_LOx_PHASE g x] (s.stopLo g x) := by
  unfold State.stopLo
  have cancelled := s.cancelPhase_tunes g x
  have synth := s.cancelPhase_synth g x
  have raise : (s.cancelPhase g x).raise = s.raise := rfl
  generalize s.cancelPhase g x = v at *
  have own : ∀ a ∈ [Reg.RFE_PGg_LOx_PHASE g x], tuneReg g x a := fun a ha => .inr (.inr (.inl (List.mem_singleton.mp ha)))
  obtain ⟨state, raised, -, synth', -, done⟩ := (cancelled.apart hg hx own calm).setLo hg hx (st := loOff) (by decide)
  rw [if_neg (by decide), synth] at synth'
  exact ⟨state, by rw [synth'], raised.trans raise, (cancelled.mono (by simp)).trans (done.mono (by simp))⟩

end

theorem loCtrlFields : ∀ g : Fin 8, ∀ x : Fin 2, (Fld.RFE_PGg_LOx_CTRL_CHAN g.val x.val).plain = true ∧ (Fld.RFE_PGg_LOx_PHASE_STEP g.val x.val).plain = true := by
  decide

/-- A retune GO. -/
def retuneGo (g x : Nat) (w : Word) : Word := (Fld.RFE_PGg_LOx_CTRL_GO g x).put 1 w

theorem exec_loRetuneGo (gr : Fin 8) (xr : Fin 2) (w : Word) (h : s.passes q (Reg.RFE_PGg_LOx_CTRL gr.val xr.val) true) :
    exec (.loRetuneGo gr xr q w) s = .next (s.loCtrlWrite gr.val xr.val (retuneGo gr.val xr.val w)) :=
  exec_access (f := fun s => s.loCtrlWrite gr.val xr.val (retuneGo gr.val xr.val w)) h rfl

theorem retuneGo_go (g x : Nat) (w : Word) : (Fld.RFE_PGg_LOx_CTRL_GO g x).of (retuneGo g x w) = 1 := Fld.of_put_same _ _ _ (by simp) (by simp)

theorem retuneMeetsPretune (gr : Fin 8) (xr : Fin 2) (w : Word) (h : s.passes q (Reg.RFE_PGg_LOx_CTRL gr.val xr.val) true)
    (same : (s.synth gr.val xr.val).pretuned = some s.air) :
    ∃ t, exec (.loRetuneGo gr xr q w) s = .next t ∧ t.on (Fld.RFE_PGg_LOx_CTRL_OVERRUN gr.val xr.val) = true ∧
      s.onlyRegs t [Reg.RFE_PGg_LOx_CTRL gr.val xr.val] := by
  have run := exec_loRetuneGo gr xr w h
  rw [State.loCtrlWrite] at run
  simp only [retuneGo_go, same, beq_self_eq_true, Bool.and_self, if_true] at run
  exact ⟨_, run, State.on_setFld_one _ _ (by simp) (by simp), rfl, (State.regsBut.refl s _).setFld _ (by simp)⟩

/-- A GO that is no power-down goes on to the retune, with its channel loaded. -/
theorem retuneTaken (gr : Fin 8) (xr : Fin 2) (w : Word) (h : s.passes q (Reg.RFE_PGg_LOx_CTRL gr.val xr.val) true)
    (other : (s.synth gr.val xr.val).pretuned ≠ some s.air) (noPwrdn : (Fld.RFE_PGg_LOx_CTRL_PWRDN gr.val xr.val).of w = 0)
    (hc : c = (Fld.RFE_PGg_LOx_CTRL_CHAN gr.val xr.val).of w) (new : ¬(s.loState gr.val xr.val = loLocked ∧ s.loChan gr.val xr.val = c)) :
    ∃ v, exec (.loRetuneGo gr xr q w) s = .next (v.retune gr.val xr.val c) ∧ s.beside v ∧ s.regsBut v [Reg.RFE_PGg_LOx_CTRL gr.val xr.val] := by
  have run := exec_loRetuneGo gr xr w h
  have plain := (loCtrlFields gr xr).1
  generalize gr.val = g at *
  generalize xr.val = x at *
  have pwrdn : (Fld.RFE_PGg_LOx_CTRL_PWRDN g x).of (retuneGo g x w) = 0 := (Fld.of_put_ne _ _ _ _ (by simp) (by simp)).trans noPwrdn
  have notNow : ((s.synth g x).pretuned == some s.air) = false := by simpa using other
  have chan : (s.plainWrite (Reg.RFE_PGg_LOx_CTRL g x) ((Fld.RFE_PGg_LOx_CTRL_PWRDN g x).put 0 ((Fld.RFE_PGg_LOx_CTRL_GO g x).put 0 (retuneGo g x w)))).fld
      (Fld.RFE_PGg_LOx_CTRL_CHAN g x) = c := by
    refine (s.fld_plainWrite_plain plain _).trans ?_
    rw [Fld.of_put_ne _ _ _ _ (by simp) (by simp), Fld.of_put_ne _ _ _ _ (by simp) (by simp), retuneGo, Fld.of_put_ne _ _ _ _ (by simp) (by simp), hc]
  have regs : s.regsBut (s.plainWrite (Reg.RFE_PGg_LOx_CTRL g x) ((Fld.RFE_PGg_LOx_CTRL_PWRDN g x).put 0 ((Fld.RFE_PGg_LOx_CTRL_GO g x).put 0 (retuneGo g x w))))
      [Reg.RFE_PGg_LOx_CTRL g x] := (State.regsBut.refl s _).plainWrite _ (by simp)
  have away : s.beside (s.plainWrite (Reg.RFE_PGg_LOx_CTRL g x) ((Fld.RFE_PGg_LOx_CTRL_PWRDN g x).put 0 ((Fld.RFE_PGg_LOx_CTRL_GO g x).put 0 (retuneGo g x w)))) := ⟨_, rfl⟩
  rw [State.loCtrlWrite] at run
  simp only [retuneGo_go, notNow, pwrdn, zero_ne_one, beq_self_eq_true, Bool.and_false, Bool.false_eq_true, if_false, if_true] at run
  generalize s.plainWrite (Reg.RFE_PGg_LOx_CTRL g x) ((Fld.RFE_PGg_LOx_CTRL_PWRDN g x).put 0 ((Fld.RFE_PGg_LOx_CTRL_GO g x).put 0 (retuneGo g x w))) = v at *
  have same : ¬(v.loState g x = loLocked ∧ v.loChan g x = c) := by
    rw [State.loState, State.loChan, regs.fld _ (by simp), regs.fld _ (by simp)]
    exact new
  rw [chan, State.requestRetune, if_neg same] at run
  exact ⟨v, run, away, regs⟩

/-- The channel table is beside the registers of a synthesiser's control. -/
theorem chanBytes_of_ctrl (h : s.regsBut t [Reg.RFE_PGg_LOx_CTRL g x]) (hg : g < 8) (hx : x < 2) (c k n : Nat) : t.chanBytes c k n = s.chanBytes c k n := by
  unfold State.chanBytes
  refine List.map_congr_left fun i _ => ?_
  rw [h _ (by simp only [List.mem_singleton, Reg.SYT_CHAN, Reg.RFE_PGg_LOx_CTRL]; omega)]

/-- What a GO finds in the table and the group is what the state before it holds. -/
theorem retuneTaken_same (away : s.beside v) (regs : s.regsBut v [Reg.RFE_PGg_LOx_CTRL g x]) (hg : g < 8) (hx : x < 2) (c : Nat) :
    v.chanEntry c = s.chanEntry c ∧ v.chanBytes c (32 + 8 * (2 * g + x)) 8 = s.chanBytes c (32 + 8 * (2 * g + x)) 8 ∧
    v.fld (Fld.RFE_PGg_CFG_BAND g) = s.fld (Fld.RFE_PGg_CFG_BAND g) ∧ v.synth g x = s.synth g x ∧ v.raise = s.raise ∧
    s.tunes [Reg.RFE_PGg_LOx_CTRL g x, Reg.RFE_PGg_LOx_STATUS g x, Reg.RFE_PGg_LOx_PHASE g x] v := by
  refine ⟨chanBytes_of_ctrl regs hg hx _ _ _, chanBytes_of_ctrl regs hg hx _ _ _, regs.fld _ (by
    simp only [List.mem_singleton, Reg.RFE_PGg_CFG, Reg.RFE_PGg_LOx_CTRL]
    omega), ?_, ?_, ?_, regs.mono (by simp)⟩
  all_goals
    obtain ⟨r, rfl⟩ := away
    rfl

/-- The control, the status and the phase register of a synthesiser are its own. -/
theorem tuneReg_own : ∀ a ∈ [Reg.RFE_PGg_LOx_CTRL g x, Reg.RFE_PGg_LOx_STATUS g x, Reg.RFE_PGg_LOx_PHASE g x], tuneReg g x a := by
  intro a ha
  simp only [List.mem_cons, List.not_mem_nil, or_false] at ha
  unfold tuneReg
  tauto

theorem retuneBegins (gr : Fin 8) (xr : Fin 2) (w : Word) (calm : s.apart gr.val xr.val) (h : s.passes q (Reg.RFE_PGg_LOx_CTRL gr.val xr.val) true)
    (other : (s.synth gr.val xr.val).pretuned ≠ some s.air) (noPwrdn : (Fld.RFE_PGg_LOx_CTRL_PWRDN gr.val xr.val).of w = 0)
    (hc : c = (Fld.RFE_PGg_LOx_CTRL_CHAN gr.val xr.val).of w) (new : ¬(s.loState gr.val xr.val = loLocked ∧ s.loChan gr.val xr.val = c))
    (usable : entryUsable (s.chanEntry c) = true) (band : entryBand (s.chanEntry c) = s.fld (Fld.RFE_PGg_CFG_BAND gr.val)) :
    ∃ t, exec (.loRetuneGo gr xr q w) s = .next t ∧ t.loChan gr.val xr.val = c ∧
      (t.loState gr.val xr.val = loRetune ∨ t.loState gr.val xr.val = loVcoCal) ∧
      (bitOf (fieldAt (s.chanBytes c (32 + 8 * (2 * gr.val + xr.val)) 8) 4 1) 7 = false → t.loState gr.val xr.val = loVcoCal) ∧
      (t.synth gr.val xr.val).entry = s.chanEntry c ∧ (t.synth gr.val xr.val).record = s.chanBytes c (32 + 8 * (2 * gr.val + xr.val)) 8 ∧
      (t.synth gr.val xr.val).phaseLeft = 0 ∧ t = { s with regs := t.regs, rf := { s.rf with synths := t.rf.synths } } ∧
      s.regsBut t [Reg.RFE_PGg_LOx_CTRL gr.val xr.val, Reg.RFE_PGg_LOx_STATUS gr.val xr.val, Reg.RFE_PGg_LOx_PHASE gr.val xr.val] := by
  obtain ⟨v, run, away, regs⟩ := retuneTaken gr xr w h other noPwrdn hc new
  have small : c < 1024 := by
    rw [hc]
    exact Fld.of_lt _ _
  have hg := gr.isLt
  have hx := xr.isLt
  generalize gr.val = g at *
  generalize xr.val = x at *
  obtain ⟨entry, record, same, synth, raise, tuned⟩ := retuneTaken_same away regs hg hx c
  obtain ⟨chan, state, cal, synth', raise', done⟩ := (tuned.apart hg hx tuneReg_own calm).retune hg hx small (by rw [entry]; exact usable) (by rw [entry, same]; exact band)
  rw [record] at cal
  rw [entry, record] at synth'
  generalize v.retune g x c = t at *
  have all := tuned.trans (done.mono (bs := [Reg.RFE_PGg_LOx_CTRL g x, Reg.RFE_PGg_LOx_STATUS g x, Reg.RFE_PGg_LOx_PHASE g x]) (by simp))
  exact ⟨t, run, chan, state, cal, by rw [synth'], by rw [synth'], by rw [synth'], all.still (raise'.trans raise), all.regs⟩

theorem retuneRefused (gr : Fin 8) (xr : Fin 2) (w : Word) (h : s.passes q (Reg.RFE_PGg_LOx_CTRL gr.val xr.val) true)
    (other : (s.synth gr.val xr.val).pretuned ≠ some s.air) (noPwrdn : (Fld.RFE_PGg_LOx_CTRL_PWRDN gr.val xr.val).of w = 0)
    (hc : c = (Fld.RFE_PGg_LOx_CTRL_CHAN gr.val xr.val).of w) (new : ¬(s.loState gr.val xr.val = loLocked ∧ s.loChan gr.val xr.val = c))
    (unusable : entryUsable (s.chanEntry c) = false) (room : s.raiseRoom 1) :
    ∃ t, exec (.loRetuneGo gr xr q w) s = .next t ∧ t.raise = s.raise ++ [s.occurrence 0xA3 (loInfo gr.val xr.val c + 256)] ∧
      t = { s with regs := t.regs, raise := t.raise } ∧ s.regsBut t [Reg.RFE_PGg_LOx_CTRL gr.val xr.val] := by
  obtain ⟨v, run, away, regs⟩ := retuneTaken gr xr w h other noPwrdn hc new
  have entry := (retuneTaken_same away regs gr.isLt xr.isLt c).1
  obtain ⟨r, own⟩ := away
  rw [State.retune] at run
  simp only [entry, unusable, Bool.not_false, if_true] at run
  rw [State.event_raiseRoom (room.congr (by rw [own]) (by rw [own])) (by decide)] at run
  refine ⟨_, run, ?_, ?_, regs.congr rfl⟩
  · show v.raise ++ [v.occurrence 0xA3 (loInfo gr.val xr.val c + 256)] = _
    rw [own]
    rfl
  · rw [own]

theorem poweredDown (gr : Fin 8) (xr : Fin 2) (w : Word) (calm : s.apart gr.val xr.val) (h : s.passes q (Reg.RFE_PGg_LOx_CTRL gr.val xr.val) true) :
    ∃ t, exec (.loPwrdn gr xr q w) s = .next t ∧ t.loState gr.val xr.val = loOff ∧ (t.synth gr.val xr.val).phaseLeft = 0 ∧
      t = { s with regs := t.regs, rf := { s.rf with synths := t.rf.synths } } ∧
      s.regsBut t [Reg.RFE_PGg_LOx_CTRL gr.val xr.val, Reg.RFE_PGg_LOx_STATUS gr.val xr.val, Reg.RFE_PGg_LOx_PHASE gr.val xr.val] := by
  have run := exec_access (c := .loPwrdn gr xr q w) (f := fun s => s.loCtrlWrite gr.val xr.val ((Fld.RFE_PGg_LOx_CTRL_PWRDN gr.val xr.val).put 1
    ((Fld.RFE_PGg_LOx_CTRL_GO gr.val xr.val).put 0 w))) h rfl
  have hg := gr.isLt
  have hx := xr.isLt
  generalize gr.val = g at *
  generalize xr.val = x at *
  have go : (Fld.RFE_PGg_LOx_CTRL_GO g x).of ((Fld.RFE_PGg_LOx_CTRL_PWRDN g x).put 1 ((Fld.RFE_PGg_LOx_CTRL_GO g x).put 0 w)) = 0 := by
    rw [Fld.of_put_ne _ _ _ _ (by simp) (by simp)]
    exact Fld.of_put_same _ _ _ (by simp) (by simp)
  have pwrdn : (Fld.RFE_PGg_LOx_CTRL_PWRDN g x).of ((Fld.RFE_PGg_LOx_CTRL_PWRDN g x).put 1 ((Fld.RFE_PGg_LOx_CTRL_GO g x).put 0 w)) = 1 :=
    Fld.of_put_same _ _ _ (by simp) (by simp)
  generalize (Fld.RFE_PGg_LOx_CTRL_PWRDN g x).put 1 ((Fld.RFE_PGg_LOx_CTRL_GO g x).put 0 w) = d at *
  have tuned : s.tunes [Reg.RFE_PGg_LOx_CTRL g x, Reg.RFE_PGg_LOx_STATUS g x, Reg.RFE_PGg_LOx_PHASE g x]
      (s.plainWrite (Reg.RFE_PGg_LOx_CTRL g x) ((Fld.RFE_PGg_LOx_CTRL_PWRDN g x).put 0 ((Fld.RFE_PGg_LOx_CTRL_GO g x).put 0 d))) :=
    (State.tunes.refl s _).plainWrite _ (by simp)
  have raise : (s.plainWrite (Reg.RFE_PGg_LOx_CTRL g x) ((Fld.RFE_PGg_LOx_CTRL_PWRDN g x).put 0 ((Fld.RFE_PGg_LOx_CTRL_GO g x).put 0 d))).raise = s.raise := rfl
  rw [State.loCtrlWrite] at run
  simp only [go, pwrdn, Nat.reduceBEq, Bool.false_and, Bool.false_eq_true, if_false, if_true] at run
  generalize s.plainWrite (Reg.RFE_PGg_LOx_CTRL g x) ((Fld.RFE_PGg_LOx_CTRL_PWRDN g x).put 0 ((Fld.RFE_PGg_LOx_CTRL_GO g x).put 0 d)) = v at *
  obtain ⟨state, phase, raise', done⟩ := (tuned.apart hg hx tuneReg_own calm).stopLo hg hx
  have all := tuned.trans (done.mono (bs := [Reg.RFE_PGg_LOx_CTRL g x, Reg.RFE_PGg_LOx_STATUS g x, Reg.RFE_PGg_LOx_PHASE g x]) (by simp))
  exact ⟨_, run, state, phase, all.still (raise'.trans raise), all.regs⟩

/-! ### Locks and calibrations (R329) -/

theorem fastLocks (gr : Fin 8) (xr : Fin 2) (calm : s.apart gr.val xr.val) (retunes : s.loState gr.val xr.val = loRetune) :
    ∃ t, exec (.loFastLock gr xr) s = .next t ∧ t.loState gr.val xr.val = loLocked ∧ (t.synth gr.val xr.val).lockedAt = s.air ∧
      t.loChan gr.val xr.val = s.loChan gr.val xr.val ∧ t = { s with regs := t.regs, rf := { s.rf with synths := t.rf.synths } } ∧
      s.regsBut t [Reg.RFE_PGg_LOx_STATUS gr.val xr.val] := by
  have run : exec (.loFastLock gr xr) s = .next (s.setLo gr.val xr.val loLocked) := by
    show execLoFastLock gr xr s = _
    rw [execLoFastLock, if_pos retunes]
  obtain ⟨state, raise, chan, synth, -, tuned⟩ := calm.setLo gr.isLt xr.isLt (st := loLocked) (by decide)
  rw [if_pos rfl] at synth
  exact ⟨_, run, state, by rw [synth], chan, tuned.still raise, tuned.regs⟩

theorem fastLockTimesOut (gr : Fin 8) (xr : Fin 2) (calm : s.apart gr.val xr.val) (retunes : s.loState gr.val xr.val = loRetune) :
    ∃ t, exec (.loFastLockTimeout gr xr) s = .next t ∧ t.loState gr.val xr.val = loVcoCal ∧ t.loChan gr.val xr.val = s.loChan gr.val xr.val ∧
      s.onlyRegs t [Reg.RFE_PGg_LOx_STATUS gr.val xr.val] := by
  have run : exec (.loFastLockTimeout gr xr) s = .next (s.setLo gr.val xr.val loVcoCal) := by
    show execLoFastLockTimeout gr xr s = _
    rw [execLoFastLockTimeout, if_pos retunes]
  obtain ⟨state, raise, chan, -, away, tuned⟩ := calm.setLo gr.isLt xr.isLt (st := loVcoCal) (by decide)
  obtain ⟨r, own⟩ := away (by decide)
  exact ⟨_, run, state, chan, by rw [own], tuned.regs⟩

theorem calibrationTimesOut (gr : Fin 8) (xr : Fin 2) (calm : s.apart gr.val xr.val) (calibrates : s.loState gr.val xr.val = loVcoCal) (room : s.raiseRoom 1) :
    ∃ t, exec (.vcoCalLockTimeout gr xr) s = .next t ∧ t.loState gr.val xr.val = loFail ∧
      t.raise = s.raise ++ [s.occurrence 0xA1 (loInfo gr.val xr.val (s.loChan gr.val xr.val))] ∧
      t.fld (Fld.RFE_PGg_LOCNT_FAIL gr.val) = min (2 ^ (Fld.RFE_PGg_LOCNT_FAIL gr.val).width - 1) (s.fld (Fld.RFE_PGg_LOCNT_FAIL gr.val) + 1) ∧
      t = { s with regs := t.regs, raise := t.raise } ∧ s.regsBut t [Reg.RFE_PGg_LOCNT gr.val, Reg.RFE_PGg_LOx_STATUS gr.val xr.val] := by
  have run : exec (.vcoCalLockTimeout gr xr) s = .next (((s.count (Fld.RFE_PGg_LOCNT_FAIL gr.val) 1).event 0xA1
      (loInfo gr.val xr.val (s.loChan gr.val xr.val))).setLo gr.val xr.val loFail) := by
    show execVcoCalLockTimeout gr xr s = _
    rw [execVcoCalLockTimeout, if_pos calibrates]
  have hg := gr.isLt
  have hx := xr.isLt
  generalize gr.val = g at *
  generalize xr.val = x at *
  have counted : (s.count (Fld.RFE_PGg_LOCNT_FAIL g) 1).fld (Fld.RFE_PGg_LOCNT_FAIL g) =
      min (2 ^ (Fld.RFE_PGg_LOCNT_FAIL g).width - 1) (s.fld (Fld.RFE_PGg_LOCNT_FAIL g) + 1) := State.fld_count_same _ _ _ (by simp)
  have regs : s.regsBut (s.count (Fld.RFE_PGg_LOCNT_FAIL g) 1) [Reg.RFE_PGg_LOCNT g, Reg.RFE_PGg_LOx_STATUS g x] := (State.regsBut.refl s _).count _ (by simp)
  have away : s.beside (s.count (Fld.RFE_PGg_LOCNT_FAIL g) 1) := ⟨_, rfl⟩
  generalize s.count (Fld.RFE_PGg_LOCNT_FAIL g) 1 = v at *
  obtain ⟨r, own⟩ := away
  rw [State.event_raiseRoom (room.congr (by rw [own]) (by rw [own])) (by decide)] at run
  have occ : v.raise ++ [v.occurrence 0xA1 (loInfo g x (s.loChan g x))] = s.raise ++ [s.occurrence 0xA1 (loInfo g x (s.loChan g x))] := by
    rw [own]
    rfl
  rw [occ] at run
  generalize s.raise ++ [s.occurrence 0xA1 (loInfo g x (s.loChan g x))] = e at *
  have tuned : s.tunes [Reg.RFE_PGg_LOCNT g, Reg.RFE_PGg_LOx_STATUS g x] ({ v with raise := e } : State) := ⟨by rw [own], regs.congr rfl⟩
  have parts : ({ v with raise := e } : State).fld (Fld.RFE_PGg_LOCNT_FAIL g) = v.fld (Fld.RFE_PGg_LOCNT_FAIL g) ∧ ({ v with raise := e } : State).raise = e ∧
    ({ v with raise := e } : State) = { s with regs := v.regs, raise := e } := ⟨rfl, rfl, by rw [own]⟩
  generalize ({ v with raise := e } : State) = u at *
  have ownRegs : ∀ a ∈ [Reg.RFE_PGg_LOCNT g, Reg.RFE_PGg_LOx_STATUS g x], tuneReg g x a := by
    intro a ha
    simp only [List.mem_cons, List.not_mem_nil, or_false] at ha
    unfold tuneReg
    tauto
  obtain ⟨state, raise, -, -, free, done⟩ := (tuned.apart hg hx ownRegs calm).setLo hg hx (st := loFail) (by decide)
  obtain ⟨r', own'⟩ := free (by decide)
  generalize u.setLo g x loFail = t at *
  refine ⟨t, run, state, raise.trans parts.2.1, ?_, ?_, tuned.regs.trans (done.regs.mono (by simp))⟩
  · rw [done.regs.fld _ (by simp only [List.mem_singleton, Reg.RFE_PGg_LOCNT, Reg.RFE_PGg_LOx_STATUS]; omega), parts.1]
    exact counted
  · rw [own', parts.2.2]

theorem calRecord_length (codes : BitVec 48) (temp : Int) : (calRecord codes temp).length = 8 := by
  unfold calRecord
  simp only [List.length_append, leBytes_length]

/-- A record of eight bytes at a whole word stands in two registers. -/
theorem eightByteRegs (c j : Nat) : ∀ a ∈ (List.range 8).map (fun i => Reg.SYT_CHAN (64 * c + (8 * j + i) / 4)),
    a ∈ [Reg.SYT_CHAN (64 * c + 8 * j / 4), Reg.SYT_CHAN (64 * c + 8 * j / 4 + 1)] := by
  intro a ha
  obtain ⟨i, hi, rfl⟩ := List.mem_map.mp ha
  have := List.mem_range.mp hi
  simp only [List.mem_cons, List.not_mem_nil, or_false, Reg.SYT_CHAN]
  omega

/-- A calibration's record is in the table and in the synthesiser, and it is counted. -/
def State.calibrated (s : State) (g x c : Nat) (r : List Byte) : State :=
  ((s.putChanBytes c (8 * (4 + 2 * g + x)) r).setSynth g x { s.synth g x with record := r }).count (Fld.RFE_PGg_LOCNT_RECAL g) 1

/-- The registers of a calibration's end. -/
def calibratedRegs (g x c : Nat) : List Nat :=
  [Reg.SYT_CHAN (64 * c + 8 * (4 + 2 * g + x) / 4), Reg.SYT_CHAN (64 * c + 8 * (4 + 2 * g + x) / 4 + 1), Reg.RFE_PGg_LOCNT g, Reg.RFE_PGg_LOx_STATUS g x]

theorem State.calibrated_shows (s : State) (hg : g < 8) (x c : Nat) {r : List Byte} (len : r.length = 8) :
    (s.calibrated g x c r).chanBytes c (8 * (4 + 2 * g + x)) 8 = r ∧ (s.calibrated g x c r).synth g x = { s.synth g x with record := r } ∧
    (s.calibrated g x c r).raise = s.raise ∧ s.tunes (calibratedRegs g x c) (s.calibrated g x c r) := by
  obtain ⟨bytes, away, regs⟩ := s.chanBytes_putChanBytes c (8 * (4 + 2 * g + x)) r
  rw [len] at bytes regs
  unfold State.calibrated
  have put : s.tunes (calibratedRegs g x c) (s.putChanBytes c (8 * (4 + 2 * g + x)) r) := by
    refine ⟨?_, regs.mono fun a ha => ?_⟩
    · obtain ⟨y, own⟩ := away
      rw [own]
    · have := eightByteRegs c (4 + 2 * g + x) a ha
      unfold calibratedRegs
      simp only [List.mem_cons, List.not_mem_nil, or_false] at this ⊢
      tauto
  have raise : (s.putChanBytes c (8 * (4 + 2 * g + x)) r).raise = s.raise := by
    obtain ⟨y, own⟩ := away
    rw [own]
  generalize s.putChanBytes c (8 * (4 + 2 * g + x)) r = v at *
  have all := (put.setSynth (g := g) (x := x) { s.synth g x with record := r }).count (f := Fld.RFE_PGg_LOCNT_RECAL g) 1 (by simp [calibratedRegs])
  refine ⟨?_, ?_, raise, all⟩
  · refine Eq.trans (List.map_congr_left fun i _ => ?_) bytes
    have same : ((v.setSynth g x { s.synth g x with record := r }).count (Fld.RFE_PGg_LOCNT_RECAL g) 1).rd (Reg.SYT_CHAN (64 * c + (8 * (4 + 2 * g + x) + i) / 4)) =
        v.rd (Reg.SYT_CHAN (64 * c + (8 * (4 + 2 * g + x) + i) / 4)) :=
      State.rd_wr_ne _ _ (by simp only [Reg.SYT_CHAN, Reg.RFE_PGg_LOCNT]; omega)
    rw [same]
  · rw [State.count, State.synth_setFld, State.synth_setSynth]

theorem calibrationEnds (gr : Fin 8) (xr : Fin 2) (codes : BitVec 48) (calm : s.apart gr.val xr.val) (hc : c = s.loChan gr.val xr.val)
    (calibrates : s.loState gr.val xr.val = loVcoCal) (room : s.raiseRoom 1) :
    ∃ t, exec (.vcoCalEnd gr xr codes) s = .next t ∧ t.loState gr.val xr.val = loLocked ∧
      t.chanBytes c (8 * (4 + 2 * gr.val + xr.val)) 8 = calRecord codes (s.groupTemp gr.val) ∧
      (t.synth gr.val xr.val).record = calRecord codes (s.groupTemp gr.val) ∧ (t.synth gr.val xr.val).lockedAt = s.air ∧
      t.raise = s.raise ++ [s.occurrence 0xA2 (loInfo gr.val xr.val c)] ∧
      t = { s with regs := t.regs, raise := t.raise, rf := { s.rf with synths := t.rf.synths } } ∧ s.regsBut t (calibratedRegs gr.val xr.val c) := by
  have run : exec (.vcoCalEnd gr xr codes) s = .next (((s.calibrated gr.val xr.val c (calRecord codes (s.groupTemp gr.val))).event 0xA2
      (loInfo gr.val xr.val c)).setLo gr.val xr.val loLocked) := by
    show execVcoCalEnd gr xr codes s = _
    have place : 32 + 8 * (2 * gr.val + xr.val) = 8 * (4 + 2 * gr.val + xr.val) := by omega
    have away := (s.chanBytes_putChanBytes c (8 * (4 + 2 * gr.val + xr.val)) (calRecord codes (s.groupTemp gr.val))).2.1
    have synth : (s.putChanBytes c (8 * (4 + 2 * gr.val + xr.val)) (calRecord codes (s.groupTemp gr.val))).synth gr.val xr.val = s.synth gr.val xr.val := by
      obtain ⟨y, own⟩ := away
      rw [own]
      rfl
    simp only [execVcoCalEnd, if_pos calibrates, ← hc, place, synth, State.calibrated]
  have hg := gr.isLt
  have hx := xr.isLt
  generalize gr.val = g at *
  generalize xr.val = x at *
  obtain ⟨bytes, synth, raise, tuned⟩ := s.calibrated_shows hg x c (calRecord_length codes (s.groupTemp g))
  generalize calRecord codes (s.groupTemp g) = r at *
  generalize s.calibrated g x c r = v at *
  have shape := tuned.frame
  have occ : v.raise ++ [v.occurrence 0xA2 (loInfo g x c)] = s.raise ++ [s.occurrence 0xA2 (loInfo g x c)] := by
    rw [raise, shape]
    rfl
  have air : v.air = s.air := by rw [shape]
  rw [State.event_raiseRoom (room.congr (by rw [shape]) raise) (by decide), occ] at run
  generalize s.raise ++ [s.occurrence 0xA2 (loInfo g x c)] = e at *
  have tuned' := tuned.raise e
  have parts : ({ v with raise := e } : State).synth g x = v.synth g x ∧ ({ v with raise := e } : State).raise = e ∧ ({ v with raise := e } : State).air = v.air ∧
    ({ v with raise := e } : State).chanBytes c (8 * (4 + 2 * g + x)) 8 = v.chanBytes c (8 * (4 + 2 * g + x)) 8 := ⟨rfl, rfl, rfl, rfl⟩
  generalize ({ v with raise := e } : State) = u at *
  have ownRegs : ∀ a ∈ calibratedRegs g x c, tuneReg g x a := by
    intro a ha
    unfold calibratedRegs at ha
    simp only [List.mem_cons, List.not_mem_nil, or_false] at ha
    unfold tuneReg
    rcases ha with rfl | rfl | rfl | rfl
    · simp only [Reg.SYT_CHAN]
      omega
    · simp only [Reg.SYT_CHAN]
      omega
    · tauto
    · tauto
  obtain ⟨state, raise', -, synth', -, done⟩ := (tuned'.apart hg hx ownRegs calm).setLo hg hx (st := loLocked) (by decide)
  rw [if_pos rfl, parts.1, synth, parts.2.2.1, air] at synth'
  generalize u.setLo g x loLocked = t at *
  have all := tuned'.trans (done.mono (by simp [calibratedRegs]))
  refine ⟨t, run, state, ?_, by rw [synth'], by rw [synth'], raise'.trans parts.2.1, all.frame, all.regs⟩
  rw [← bytes, ← parts.2.2.2]
  refine List.map_congr_left fun i _ => ?_
  rw [done.regs _ (by simp only [List.mem_singleton, Reg.SYT_CHAN, Reg.RFE_PGg_LOx_STATUS]; omega)]

/-! ### Phase steps (R333) -/

theorem phaseGo_go (g x : Nat) (w : Word) : (Fld.RFE_PGg_LOx_PHASE_GO g x).of ((Fld.RFE_PGg_LOx_PHASE_GO g x).put 1 w) = 1 := Fld.of_put_same _ _ _ (by simp) (by simp)

theorem phaseOverrun (gr : Fin 8) (xr : Fin 2) (w : Word) (h : s.passes q (Reg.RFE_PGg_LOx_PHASE gr.val xr.val) true)
    (busy : s.on (Fld.RFE_PGg_LOx_PHASE_BUSY gr.val xr.val) = true) :
    ∃ t, exec (.loPhaseGo gr xr q w) s = .next t ∧ t.on (Fld.RFE_PGg_LOx_PHASE_OVERRUN gr.val xr.val) = true ∧
      s.onlyRegs t [Reg.RFE_PGg_LOx_PHASE gr.val xr.val] := by
  have run := exec_access (c := .loPhaseGo gr xr q w) (f := fun s => s.loPhaseWrite gr.val xr.val ((Fld.RFE_PGg_LOx_PHASE_GO gr.val xr.val).put 1 w)) h rfl
  rw [State.loPhaseWrite] at run
  simp only [phaseGo_go, busy, Nat.reduceBEq, Bool.and_self, if_true] at run
  exact ⟨_, run, State.on_setFld_one _ _ (by simp) (by simp), rfl, (State.regsBut.refl s _).setFld _ (by simp)⟩

/-- A phase step is under way. -/
def State.stepping (s : State) (g x : Nat) (y : Synth) : State :=
  ((s.setSynth g x y).setFld (Fld.RFE_PGg_LOx_PHASE_BUSY g x) 1).setFld (Fld.RFE_PGg_LOx_PHASE_GO g x) 1

theorem State.stepping_shows (s : State) (g x : Nat) (y : Synth) : (s.stepping g x y).on (Fld.RFE_PGg_LOx_PHASE_BUSY g x) = true ∧
    (s.stepping g x y).synth g x = y ∧ (s.stepping g x y).raise = s.raise ∧ s.tunes [Reg.RFE_PGg_LOx_PHASE g x] (s.stepping g x y) := by
  unfold State.stepping
  refine ⟨?_, ?_, rfl, (((State.tunes.refl s _).setSynth _).setFld _ (by simp)).setFld _ (by simp)⟩
  · rw [State.on_setFld_ne _ _ _ _ (by simp) (by simp)]
    exact State.on_setFld_one _ _ (by simp) (by simp)
  · rw [State.synth_setFld, State.synth_setFld, State.synth_setSynth]

theorem phaseTaken (gr : Fin 8) (xr : Fin 2) (w : Word) (h : s.passes q (Reg.RFE_PGg_LOx_PHASE gr.val xr.val) true) {k : Int}
    (hk : k = sext 16 ((Fld.RFE_PGg_LOx_PHASE_STEP gr.val xr.val).of w)) (idle : s.on (Fld.RFE_PGg_LOx_PHASE_BUSY gr.val xr.val) = false) (some_ : k ≠ 0) :
    ∃ t, exec (.loPhaseGo gr xr q w) s = .next t ∧ t.on (Fld.RFE_PGg_LOx_PHASE_BUSY gr.val xr.val) = true ∧
      t.synth gr.val xr.val = { s.synth gr.val xr.val with phaseLeft := k } ∧
      t = { s with regs := t.regs, rf := { s.rf with synths := t.rf.synths } } ∧ s.regsBut t [Reg.RFE_PGg_LOx_PHASE gr.val xr.val] := by
  have run := exec_access (c := .loPhaseGo gr xr q w) (f := fun s => s.loPhaseWrite gr.val xr.val ((Fld.RFE_PGg_LOx_PHASE_GO gr.val xr.val).put 1 w)) h rfl
  have plain := (loCtrlFields gr xr).2
  generalize gr.val = g at *
  generalize xr.val = x at *
  have step : (s.plainWrite (Reg.RFE_PGg_LOx_PHASE g x) ((Fld.RFE_PGg_LOx_PHASE_GO g x).put 0 ((Fld.RFE_PGg_LOx_PHASE_GO g x).put 1 w))).fld
      (Fld.RFE_PGg_LOx_PHASE_STEP g x) = (Fld.RFE_PGg_LOx_PHASE_STEP g x).of w := by
    refine (s.fld_plainWrite_plain plain _).trans ?_
    rw [Fld.of_put_ne _ _ _ _ (by simp) (by simp), Fld.of_put_ne _ _ _ _ (by simp) (by simp)]
  have tuned : s.tunes [Reg.RFE_PGg_LOx_PHASE g x] (s.plainWrite (Reg.RFE_PGg_LOx_PHASE g x) ((Fld.RFE_PGg_LOx_PHASE_GO g x).put 0
    ((Fld.RFE_PGg_LOx_PHASE_GO g x).put 1 w))) := (State.tunes.refl s _).plainWrite _ (by simp)
  have same : (s.plainWrite (Reg.RFE_PGg_LOx_PHASE g x) ((Fld.RFE_PGg_LOx_PHASE_GO g x).put 0 ((Fld.RFE_PGg_LOx_PHASE_GO g x).put 1 w))).synth g x = s.synth g x ∧
    (s.plainWrite (Reg.RFE_PGg_LOx_PHASE g x) ((Fld.RFE_PGg_LOx_PHASE_GO g x).put 0 ((Fld.RFE_PGg_LOx_PHASE_GO g x).put 1 w))).raise = s.raise := ⟨rfl, rfl⟩
  rw [State.loPhaseWrite] at run
  simp only [phaseGo_go, idle, Nat.reduceBEq, Bool.and_false, Bool.false_eq_true, if_false, Bool.true_and] at run
  generalize s.plainWrite (Reg.RFE_PGg_LOx_PHASE g x) ((Fld.RFE_PGg_LOx_PHASE_GO g x).put 0 ((Fld.RFE_PGg_LOx_PHASE_GO g x).put 1 w)) = v at *
  rw [step, ← hk, if_pos (by simpa using some_), same.1] at run
  obtain ⟨busy, synth, raise, done⟩ := v.stepping_shows g x { s.synth g x with phaseLeft := k }
  exact ⟨_, run, busy, synth, (tuned.trans done).still (raise.trans same.2), (tuned.trans done).regs⟩

theorem phasePiece (gr : Fin 8) (xr : Fin 2) {l p : Int} (hl : l = (s.synth gr.val xr.val).phaseLeft) (hp : p = max (-4096) (min 4096 l))
    (locked : s.loState gr.val xr.val = loLocked) (some_ : l ≠ 0) :
    ∃ t, exec (.loPhasePiece gr xr) s = .next t ∧ (t.synth gr.val xr.val).phaseLeft = l - p ∧
      t.fld (Fld.RFE_PGg_LOx_PHPOS_POS gr.val xr.val) = toCode 16 (s.fld (Fld.RFE_PGg_LOx_PHPOS_POS gr.val xr.val) + p) ∧
      (l = p → t.on (Fld.RFE_PGg_LOx_PHASE_BUSY gr.val xr.val) = false) ∧
      t = { s with regs := t.regs, rf := { s.rf with synths := t.rf.synths } } ∧
      s.regsBut t [Reg.RFE_PGg_LOx_PHPOS gr.val xr.val, Reg.RFE_PGg_LOx_PHASE gr.val xr.val] := by
  have run : exec (.loPhasePiece gr xr) s = execLoPhasePiece gr xr s := rfl
  rw [execLoPhasePiece] at run
  generalize gr.val = g at *
  generalize xr.val = x at *
  rw [if_pos ⟨locked, by rw [← hl]; exact some_⟩, ← hl] at run
  dsimp only at run
  rw [← hp] at run
  have pos : (s.setFld (Fld.RFE_PGg_LOx_PHPOS_POS g x) (toCode 16 (s.fld (Fld.RFE_PGg_LOx_PHPOS_POS g x) + p))).fld (Fld.RFE_PGg_LOx_PHPOS_POS g x) =
      toCode 16 (s.fld (Fld.RFE_PGg_LOx_PHPOS_POS g x) + p) := by
    refine State.fld_setFld_same _ _ _ (by simp) ?_
    unfold toCode
    simp only
    omega
  have tuned : s.tunes [Reg.RFE_PGg_LOx_PHPOS g x, Reg.RFE_PGg_LOx_PHASE g x]
    (s.setFld (Fld.RFE_PGg_LOx_PHPOS_POS g x) (toCode 16 (s.fld (Fld.RFE_PGg_LOx_PHPOS_POS g x) + p))) := (State.tunes.refl s _).setFld _ (by simp)
  have raise : (s.setFld (Fld.RFE_PGg_LOx_PHPOS_POS g x) (toCode 16 (s.fld (Fld.RFE_PGg_LOx_PHPOS_POS g x) + p))).raise = s.raise := rfl
  generalize s.setFld (Fld.RFE_PGg_LOx_PHPOS_POS g x) (toCode 16 (s.fld (Fld.RFE_PGg_LOx_PHPOS_POS g x) + p)) = v at *
  by_cases last : l = p
  · rw [if_pos last] at run
    have cancelled := v.cancelPhase_tunes g x
    have synth := v.cancelPhase_synth g x
    have busy := v.cancelPhase_busy g x
    have raise' : (v.cancelPhase g x).raise = v.raise := rfl
    generalize v.cancelPhase g x = t at *
    have all := tuned.trans (cancelled.mono (by simp))
    refine ⟨t, run, ?_, ?_, fun _ => busy, all.still (raise'.trans raise), all.regs⟩
    · rw [synth, last, sub_self]
    · rw [cancelled.regs.fld _ (by simp)]
      exact pos
  · rw [if_neg last] at run
    have all := tuned.setSynth (g := g) (x := x) { v.synth g x with phaseLeft := l - p }
    refine ⟨_, run, ?_, pos, fun e => absurd e last, all.still raise, all.regs⟩
    rw [State.synth_setSynth]

/-- Settles O46: retunes begin or are refused, power-down leaves OFF, locks and calibrations move the state and write the table, phase steps go in pieces. -/
theorem losRetuneCalibrateAndLock : Obligations.LosRetuneCalibrateAndLock := by
  unfold Obligations.LosRetuneCalibrateAndLock
  rintro gr xr q w s g rfl x rfl (calm : s.apart gr.val xr.val)
  refine ⟨fun pass => ⟨fun same => retuneMeetsPretune gr xr w pass same, ?_, poweredDown gr xr w calm pass⟩,
    fun retunes => ⟨fastLocks gr xr calm retunes, fastLockTimesOut gr xr calm retunes⟩, ?_, fun pass => ⟨fun busy => phaseOverrun gr xr w pass busy, ?_⟩, ?_⟩
  · intro c hc other noPwrdn new
    exact ⟨fun usable band => retuneBegins gr xr w calm pass other noPwrdn hc new usable band,
      fun unusable room => retuneRefused gr xr w pass other noPwrdn hc new unusable room⟩
  · rintro codes c hc k hk calibrates room
    obtain rfl : k = 8 * (4 + 2 * gr.val + xr.val) := by omega
    refine ⟨calibrationEnds gr xr codes calm hc calibrates room, ?_⟩
    rw [hc]
    exact calibrationTimesOut gr xr calm calibrates room
  · intro k hk idle some_
    exact phaseTaken gr xr w pass hk idle some_
  · intro l hl p hp locked some_
    exact phasePiece gr xr hl hp locked some_

end Sys2Proof.Machine

/-!
PROOFS. A reset that waits for the acknowledgement of an MGQ, while the root synthesiser loses lock (O47).
-/

namespace Sys2Proof.Machine

/-- An MGA is being sent whose end a SOFT reset waits for (R36); the link is ACTIVE and the root synthesiser locked. -/
def resetWaits : State :=
  ({ State.reset with
    domains := [pdAon, pdCtl, pdSyn, pdLnk], regs := [(Reg.CLK_STATUS, 1), (Reg.LNK_STATUS, 5)],
    link := { LinkState.idle with flight := [⟨0, 27, [], 8, [.reset .soft]⟩] } } : State)


set_option maxRecDepth 100000 in
theorem resetWaits_unlocks : outReg Reg.CLK_STATUS (exec .rootLockLoss resetWaits) = 0 := by decide +kernel

/-- Refutes O47: where a SOFT reset waits for an MGA, the loss of the root lock takes the link out of ACTIVE and thereby begins that reset, after which
ROOT_UNLOCKED reads 0. -/
theorem not_bandsTheRootAndRffeLists : ¬ Obligations.BandsTheRootAndRffeLists := by
  unfold Obligations.BandsTheRootAndRffeLists
  intro h
  obtain ⟨-, -, loss, -⟩ := h 0 .proctor 0 resetWaits 0 rfl
  obtain ⟨t, run, -, unlocked, -⟩ := loss (by decide) ⟨by decide, by decide⟩
  have read := resetWaits_unlocks
  rw [run, outReg] at read
  rw [State.on, State.fld, read] at unlocked
  exact absurd unlocked (by decide)

end Sys2Proof.Machine

/-!
PROOFS. Full-duplex plans and canceller sets (O48).
-/

namespace Sys2Proof.Machine

variable {s t u v : State} {as : List Nat} {a g n m k : Nat} {q : Requester} {d : Word}

/-! ### The plan (R305, R308) -/

/-- Written data with a COMMIT, and with a CNT_CLR. -/
theorem sfdCtrl_data (w : Word) : Fld.SFD_CTRL_COMMIT.of (Fld.SFD_CTRL_COMMIT.put 1 w) = 1 ∧
    Fld.SFD_CTRL_EN.of (Fld.SFD_CTRL_COMMIT.put 1 w) = Fld.SFD_CTRL_EN.of w ∧
    Fld.SFD_CTRL_CNT_CLR.of (Fld.SFD_CTRL_COMMIT.put 1 w) = Fld.SFD_CTRL_CNT_CLR.of w ∧
    Fld.SFD_CTRL_CNT_CLR.of (Fld.SFD_CTRL_CNT_CLR.put 1 w) = 1 ∧
    Fld.SFD_CTRL_COMMIT.of (Fld.SFD_CTRL_CNT_CLR.put 1 w) = Fld.SFD_CTRL_COMMIT.of w :=
  ⟨Fld.of_put_same _ _ _ (by simp) (by simp), Fld.of_put_ne _ _ _ _ (by simp) (by simp), Fld.of_put_ne _ _ _ _ (by simp) (by simp),
    Fld.of_put_same _ _ _ (by simp) (by simp), Fld.of_put_ne _ _ _ _ (by simp) (by simp)⟩

theorem exec_sfdCommit (h : s.passes q Reg.SFD_CTRL true) (w : Word) :
    exec (.sfdCommit q w) s = .next (s.sfdCtrlWrite (Fld.SFD_CTRL_COMMIT.put 1 w)) :=
  exec_access (f := fun s => s.sfdCtrlWrite (Fld.SFD_CTRL_COMMIT.put 1 w)) h rfl

theorem sfdCommit_overrun (h : s.passes q Reg.SFD_CTRL true) (w : Word) (pending : s.on Fld.SFD_STATUS_COMMIT_PENDING = true) :
    ∃ t, exec (.sfdCommit q w) s = .next t ∧ t.on Fld.SFD_STATUS_OVERRUN = true ∧ s.onlyRegs t [Reg.SFD_STATUS] := by
  have run := exec_sfdCommit h w
  rw [State.sfdCtrlWrite] at run
  simp only [(sfdCtrl_data w).1, pending, Nat.reduceBEq, Bool.and_self, if_true] at run
  exact ⟨_, run, State.on_setFld_one _ _ (by simp) (by simp), rfl, (State.regsBut.refl s _).setFld _ (by simp)⟩

/-- A COMMIT while none is pending takes EN and judges the plan. -/
theorem exec_sfdCommit_free (h : s.passes q Reg.SFD_CTRL true) {w : Word} (free : s.on Fld.SFD_STATUS_COMMIT_PENDING = false)
    (keep : Fld.SFD_CTRL_CNT_CLR.of w = 0) :
    exec (.sfdCommit q w) s = .next ((s.setFld Fld.SFD_CTRL_EN (Fld.SFD_CTRL_EN.of w)).sfdCommit) := by
  obtain ⟨go, en, clr, -⟩ := sfdCtrl_data w
  have run := exec_sfdCommit h w
  rw [State.sfdCtrlWrite] at run
  simpa only [go, en, clr, keep, free, Nat.reduceBEq, Bool.and_false, Bool.false_eq_true, Nat.zero_ne_one, if_false, if_true] using run

/-- The words of SFD_CFG0 to 2, and why a plan of them is refused at `b`. -/
def State.planWords (s : State) : List Word := [s.rd Reg.SFD_CFG0, s.rd Reg.SFD_CFG1, s.rd Reg.SFD_CFG2]

def State.planReason (s : State) (ws : List Word) (b : Nat) : Nat :=
  (planOf ws).reason (s.carrierAt false (planOf ws).carrier b) (s.carrierAt true (planOf ws).carrier b)

theorem Plan.reason_lt (p : Plan) (x y : Carrier) : p.reason x y < 4 := by
  have two : p.reason12 x y < 3 := by
    unfold Plan.reason12
    split_ifs <;> omega
  unfold Plan.reason
  generalize p.reason12 x y = r at *
  dsimp only
  split_ifs <;> omega

/-- What SFD_CTRL.COMMIT does to a state in which the plan is judged by what it was judged by in `s`. -/
theorem State.sfdCommit_eq (h : s.beside t) (words : t.planWords = s.planWords) {r : Nat}
    (hr : r = s.planReason s.planWords (frameBoundaryFrom s.air s.tEarly)) (early : t.tEarly = s.tEarly) :
    t.sfdCommit = if r ≠ 0 then ((t.setFld Fld.SFD_STATUS_CFG_ERR r).setFld Fld.SFD_CTRL_COMMIT 0).event 0x97 r
      else { (((t.setFld Fld.SFD_STATUS_CFG_ERR r).setFld Fld.SFD_STATUS_COMMIT_PENDING 1).setFld Fld.SFD_CTRL_COMMIT 1) with
        sfd := { s.sfd with next := s.planWords, boundary := frameBoundaryFrom s.air s.tEarly } } := by
  have all : t.sfdCommit = if t.planReason t.planWords (frameBoundaryFrom t.air t.tEarly) ≠ 0 then
        ((t.setFld Fld.SFD_STATUS_CFG_ERR (t.planReason t.planWords (frameBoundaryFrom t.air t.tEarly))).setFld Fld.SFD_CTRL_COMMIT 0).event 0x97
          (t.planReason t.planWords (frameBoundaryFrom t.air t.tEarly))
      else { (((t.setFld Fld.SFD_STATUS_CFG_ERR (t.planReason t.planWords (frameBoundaryFrom t.air t.tEarly))).setFld Fld.SFD_STATUS_COMMIT_PENDING 1).setFld Fld.SFD_CTRL_COMMIT 1) with
        sfd := { t.sfd with next := t.planWords, boundary := frameBoundaryFrom t.air t.tEarly } } := rfl
  have air : t.air = s.air := by rw [h.eq]
  have sfd : t.sfd = s.sfd := by rw [h.eq]
  have judged (ws : List Word) (b : Nat) : t.planReason ws b = s.planReason ws b := by
    obtain ⟨x, rfl⟩ := h
    rfl
  rw [all, words, early, air, judged, ← hr, sfd]

theorem State.planReason_lt (s : State) (ws : List Word) (b : Nat) : s.planReason ws b < 4 := Plan.reason_lt _ _ _

/-- EN is taken before the plan is judged. -/
theorem sfdEnTaken (s : State) (w : Word) : ∃ v, s.setFld Fld.SFD_CTRL_EN (Fld.SFD_CTRL_EN.of w) = v ∧ s.beside v ∧ v.planWords = s.planWords ∧
    v.tEarly = s.tEarly ∧ v.fld Fld.SFD_CTRL_EN = Fld.SFD_CTRL_EN.of w ∧ s.regsBut v [Reg.SFD_CTRL, Reg.SFD_STATUS] := by
  have regs : s.regsBut (s.setFld Fld.SFD_CTRL_EN (Fld.SFD_CTRL_EN.of w)) [Reg.SFD_CTRL, Reg.SFD_STATUS] := (State.regsBut.refl s _).setFld _ (by simp)
  refine ⟨_, rfl, ⟨_, rfl⟩, ?_, ?_, State.fld_setFld_of _ _ _ (by simp), regs⟩
  · simp only [State.planWords, regs Reg.SFD_CFG0 (by simp), regs Reg.SFD_CFG1 (by simp), regs Reg.SFD_CFG2 (by simp)]
  · rw [State.tEarly, regs.fld _ (by simp), State.tEarly]

theorem sfdCommit_refused (h : s.passes q Reg.SFD_CTRL true) {w : Word} (free : s.on Fld.SFD_STATUS_COMMIT_PENDING = false)
    (keep : Fld.SFD_CTRL_CNT_CLR.of w = 0) {r : Nat} (hr : r = s.planReason s.planWords (frameBoundaryFrom s.air s.tEarly)) (bad : r ≠ 0)
    (room : s.raiseRoom 1) :
    ∃ t, exec (.sfdCommit q w) s = .next t ∧ t.fld Fld.SFD_STATUS_CFG_ERR = r ∧ t.on Fld.SFD_CTRL_COMMIT = false ∧
      t.raise = s.raise ++ [s.occurrence 0x97 r] ∧ t = { s with regs := t.regs, raise := t.raise } ∧
      s.regsBut t [Reg.SFD_CTRL, Reg.SFD_STATUS] := by
  have small : r < 2 ^ 4 := by
    have := s.planReason_lt s.planWords (frameBoundaryFrom s.air s.tEarly)
    omega
  have run := exec_sfdCommit_free h free keep
  obtain ⟨v, eq, side, words, early, -, regs⟩ := sfdEnTaken s w
  rw [eq, State.sfdCommit_eq side words hr early, if_pos bad] at run
  have err : ((v.setFld Fld.SFD_STATUS_CFG_ERR r).setFld Fld.SFD_CTRL_COMMIT 0).fld Fld.SFD_STATUS_CFG_ERR = r := by
    rw [State.fld_setFld_ne _ _ _ _ (by simp) (by simp)]
    exact State.fld_setFld_same _ _ _ (by simp) small
  have off : ((v.setFld Fld.SFD_STATUS_CFG_ERR r).setFld Fld.SFD_CTRL_COMMIT 0).on Fld.SFD_CTRL_COMMIT = false :=
    (State.on_eq_false _ _).mpr (State.fld_setFld_same _ _ _ (by simp) (by simp))
  replace regs : s.regsBut ((v.setFld Fld.SFD_STATUS_CFG_ERR r).setFld Fld.SFD_CTRL_COMMIT 0) [Reg.SFD_CTRL, Reg.SFD_STATUS] :=
    (regs.setFld _ (by simp)).setFld _ (by simp)
  replace side : s.beside ((v.setFld Fld.SFD_STATUS_CFG_ERR r).setFld Fld.SFD_CTRL_COMMIT 0) := (side.setFld _ _).setFld _ _
  generalize (v.setFld Fld.SFD_STATUS_CFG_ERR r).setFld Fld.SFD_CTRL_COMMIT 0 = u at *
  have room' : u.raiseRoom 1 := room.congr (by rw [side.eq]) (by rw [side.eq])
  rw [State.event_raiseRoom room' (by decide)] at run
  obtain ⟨x, rfl⟩ := side
  exact ⟨_, run, err, off, rfl, rfl, regs.congr rfl⟩

theorem sfdCommit_taken (h : s.passes q Reg.SFD_CTRL true) {w : Word} (free : s.on Fld.SFD_STATUS_COMMIT_PENDING = false)
    (keep : Fld.SFD_CTRL_CNT_CLR.of w = 0) (good : 0 = s.planReason s.planWords (frameBoundaryFrom s.air s.tEarly)) :
    ∃ t, exec (.sfdCommit q w) s = .next t ∧ t.on Fld.SFD_STATUS_COMMIT_PENDING = true ∧ t.on Fld.SFD_CTRL_COMMIT = true ∧
      t.fld Fld.SFD_CTRL_EN = Fld.SFD_CTRL_EN.of w ∧
      t = { s with regs := t.regs, sfd := { s.sfd with next := s.planWords, boundary := frameBoundaryFrom s.air s.tEarly } } ∧
      s.regsBut t [Reg.SFD_CTRL, Reg.SFD_STATUS] := by
  have run := exec_sfdCommit_free h free keep
  obtain ⟨v, eq, side, words, early, en, regs⟩ := sfdEnTaken s w
  rw [eq, State.sfdCommit_eq side words good early, if_neg (by simp)] at run
  have pending : (((v.setFld Fld.SFD_STATUS_CFG_ERR 0).setFld Fld.SFD_STATUS_COMMIT_PENDING 1).setFld Fld.SFD_CTRL_COMMIT 1).on Fld.SFD_STATUS_COMMIT_PENDING = true := by
    rw [State.on_setFld_ne _ _ _ _ (by simp) (by simp)]
    exact State.on_setFld_one _ _ (by simp) (by simp)
  have go : (((v.setFld Fld.SFD_STATUS_CFG_ERR 0).setFld Fld.SFD_STATUS_COMMIT_PENDING 1).setFld Fld.SFD_CTRL_COMMIT 1).on Fld.SFD_CTRL_COMMIT = true :=
    State.on_setFld_one _ _ (by simp) (by simp)
  replace en : (((v.setFld Fld.SFD_STATUS_CFG_ERR 0).setFld Fld.SFD_STATUS_COMMIT_PENDING 1).setFld Fld.SFD_CTRL_COMMIT 1).fld Fld.SFD_CTRL_EN = Fld.SFD_CTRL_EN.of w := by
    rw [State.fld_setFld_ne _ _ _ _ (by simp) (by simp), State.fld_setFld_ne _ _ _ _ (by simp) (by simp), State.fld_setFld_ne _ _ _ _ (by simp) (by simp), en]
  replace regs : s.regsBut (((v.setFld Fld.SFD_STATUS_CFG_ERR 0).setFld Fld.SFD_STATUS_COMMIT_PENDING 1).setFld Fld.SFD_CTRL_COMMIT 1) [Reg.SFD_CTRL, Reg.SFD_STATUS] :=
    ((regs.setFld _ (by simp)).setFld _ (by simp)).setFld _ (by simp)
  replace side : s.beside (((v.setFld Fld.SFD_STATUS_CFG_ERR 0).setFld Fld.SFD_STATUS_COMMIT_PENDING 1).setFld Fld.SFD_CTRL_COMMIT 1) :=
    ((side.setFld _ _).setFld _ _).setFld _ _
  generalize ((v.setFld Fld.SFD_STATUS_CFG_ERR 0).setFld Fld.SFD_STATUS_COMMIT_PENDING 1).setFld Fld.SFD_CTRL_COMMIT 1 = u at *
  obtain ⟨x, rfl⟩ := side
  exact ⟨_, run, pending, go, en, rfl, regs.congr rfl⟩

/-! ### The counters (R447) -/

/-- The registers that hold a counter of full duplex. -/
def sfdCounterRegs : List Nat := [Reg.SFD_CTRL, Reg.SFD_LOAD_STATUS, Reg.SFD_CAP_STATUS] ++ (List.range 8).map Reg.SFD_PGg_STATUS ++
  (List.range 64).map Reg.SFD_PATHp_COUNT

/-- The counters of the groups are cleared, and those of the paths. -/
def State.clearSfdGroups (s : State) : State :=
  ((s.setFld Fld.SFD_LOAD_STATUS_LOADS 0).setFld Fld.SFD_CAP_STATUS_CAPTURES 0).forEach 8 (fun s g => s.setFld (Fld.SFD_PGg_STATUS_LIMITS g) 0)

def State.clearSfdPaths (s : State) : State := s.forEach 64 (fun s p => s.wr (Reg.SFD_PATHp_COUNT p) 0)

theorem State.clearSfdCounters_eq (s : State) : s.clearSfdCounters = s.clearSfdGroups.clearSfdPaths := rfl

theorem State.clearSfdGroups_clears (s : State) : s.beside s.clearSfdGroups ∧ s.clearSfdGroups.fld Fld.SFD_LOAD_STATUS_LOADS = 0 ∧
    s.clearSfdGroups.fld Fld.SFD_CAP_STATUS_CAPTURES = 0 ∧ s.regsBut s.clearSfdGroups sfdCounterRegs ∧
    ∀ g < 8, s.clearSfdGroups.fld (Fld.SFD_PGg_STATUS_LIMITS g) = 0 ∧
      s.clearSfdGroups.on (Fld.SFD_PGg_STATUS_DEMOTED g) = s.on (Fld.SFD_PGg_STATUS_DEMOTED g) := by
  have loads : ((s.setFld Fld.SFD_LOAD_STATUS_LOADS 0).setFld Fld.SFD_CAP_STATUS_CAPTURES 0).fld Fld.SFD_LOAD_STATUS_LOADS = 0 :=
    (State.fld_setFld_ne _ _ _ _ (by simp) (by simp)).trans (State.fld_setFld_same _ _ _ (by simp) (by simp))
  have captures : ((s.setFld Fld.SFD_LOAD_STATUS_LOADS 0).setFld Fld.SFD_CAP_STATUS_CAPTURES 0).fld Fld.SFD_CAP_STATUS_CAPTURES = 0 :=
    State.fld_setFld_same _ _ _ (by simp) (by simp)
  have demoted (g : Nat) : ((s.setFld Fld.SFD_LOAD_STATUS_LOADS 0).setFld Fld.SFD_CAP_STATUS_CAPTURES 0).on (Fld.SFD_PGg_STATUS_DEMOTED g) =
      s.on (Fld.SFD_PGg_STATUS_DEMOTED g) := by
    have far : Reg.SFD_LOAD_STATUS < Reg.SFD_PGg_STATUS g ∧ Reg.SFD_CAP_STATUS < Reg.SFD_PGg_STATUS g := by
      simp only [Reg.SFD_LOAD_STATUS, Reg.SFD_CAP_STATUS, Reg.SFD_PGg_STATUS]
      omega
    rw [State.on_setFld_ne _ _ _ _ (by simp) (.inl far.2.ne'), State.on_setFld_ne _ _ _ _ (by simp) (.inl far.1.ne')]
  have regs : s.regsBut ((s.setFld Fld.SFD_LOAD_STATUS_LOADS 0).setFld Fld.SFD_CAP_STATUS_CAPTURES 0) sfdCounterRegs :=
    ((State.regsBut.refl s _).setFld _ (by simp [sfdCounterRegs])).setFld _ (by simp [sfdCounterRegs])
  have side : s.beside ((s.setFld Fld.SFD_LOAD_STATUS_LOADS 0).setFld Fld.SFD_CAP_STATUS_CAPTURES 0) := ⟨_, rfl⟩
  unfold State.clearSfdGroups
  generalize (s.setFld Fld.SFD_LOAD_STATUS_LOADS 0).setFld Fld.SFD_CAP_STATUS_CAPTURES 0 = u at *
  have all := State.forEach_induct (s := u) (n := 8) (f := fun s g => s.setFld (Fld.SFD_PGg_STATUS_LIMITS g) 0)
    (fun k v => s.beside v ∧ v.fld Fld.SFD_LOAD_STATUS_LOADS = 0 ∧ v.fld Fld.SFD_CAP_STATUS_CAPTURES = 0 ∧ s.regsBut v sfdCounterRegs ∧
      (∀ g < k, v.fld (Fld.SFD_PGg_STATUS_LIMITS g) = 0) ∧ ∀ g, v.on (Fld.SFD_PGg_STATUS_DEMOTED g) = s.on (Fld.SFD_PGg_STATUS_DEMOTED g))
    ⟨side, loads, captures, regs, fun g hg => absurd hg (Nat.not_lt_zero g), demoted⟩ ?_
  · obtain ⟨side, loads, captures, regs, limits, demoted⟩ := all
    exact ⟨side, loads, captures, regs, fun g hg => ⟨limits g hg, demoted g⟩⟩
  · rintro v k hk ⟨side, loads, captures, regs, limits, demoted⟩
    have own : Reg.SFD_PGg_STATUS k ∈ sfdCounterRegs :=
      List.mem_append_left _ (List.mem_append_right _ (List.mem_map_of_mem (List.mem_range.mpr hk)))
    refine ⟨side.setFld _ _, ?_, ?_, regs.setFld _ own, fun g hg => ?_, fun g => ?_⟩
    · rw [State.fld_setFld_ne _ _ _ _ (by simp) (.inl (by simp only [Reg.SFD_LOAD_STATUS, Reg.SFD_PGg_STATUS]; omega)), loads]
    · rw [State.fld_setFld_ne _ _ _ _ (by simp) (.inl (by simp only [Reg.SFD_CAP_STATUS, Reg.SFD_PGg_STATUS]; omega)), captures]
    · rcases eq_or_ne g k with rfl | hne
      · exact State.fld_setFld_same _ _ _ (by simp) (by simp)
      · rw [State.fld_setFld_ne _ _ _ _ (by simp) (.inl (by simpa using hne)), limits g (by omega)]
    · rw [State.on_setFld_ne _ _ _ _ (by simp) (.inr (by simp)), demoted]

theorem State.clearSfdCounters_clears (s : State) : s.beside s.clearSfdCounters ∧ s.clearSfdCounters.fld Fld.SFD_LOAD_STATUS_LOADS = 0 ∧
    s.clearSfdCounters.fld Fld.SFD_CAP_STATUS_CAPTURES = 0 ∧
    (∀ g < 8, s.clearSfdCounters.fld (Fld.SFD_PGg_STATUS_LIMITS g) = 0 ∧
      s.clearSfdCounters.on (Fld.SFD_PGg_STATUS_DEMOTED g) = s.on (Fld.SFD_PGg_STATUS_DEMOTED g)) ∧
    (∀ p < 64, s.clearSfdCounters.rd (Reg.SFD_PATHp_COUNT p) = 0) ∧ s.regsBut s.clearSfdCounters sfdCounterRegs := by
  rw [State.clearSfdCounters_eq]
  obtain ⟨side, loads, captures, regs, groups⟩ := s.clearSfdGroups_clears
  generalize s.clearSfdGroups = u at *
  have paths : u.zeroes u.clearSfdPaths (fun b => ∃ p < 64, b = Reg.SFD_PATHp_COUNT p) :=
    (State.zeroes.forEach (Q := fun p b => b = Reg.SFD_PATHp_COUNT p) (.refl u) (fun v R p hv => hv.wr _) 64).of_iff fun _ => iff_of_eq (false_or _)
  generalize u.clearSfdPaths = t at *
  have below (a : Nat) (ha : a < 0x1C1000) : t.rd a = u.rd a := paths.rest a fun ⟨p, _, e⟩ => by
    simp only [Reg.SFD_PATHp_COUNT] at e
    omega
  have field (f : Fld) (hf : f.addr < 0x1C1000) : t.fld f = u.fld f := State.fld_congr (below _ hf)
  refine ⟨side.trans paths.frame, (field _ (by decide)).trans loads, (field _ (by decide)).trans captures, fun g hg => ?_,
    fun p hp => paths.zero _ ⟨p, hp, rfl⟩, fun a ha => ?_⟩
  · have low : Reg.SFD_PGg_STATUS g < 0x1C1000 := by simp only [Reg.SFD_PGg_STATUS]; omega
    exact ⟨(field _ low).trans (groups g hg).1, (congrArg (fun x : Nat => decide (x ≠ 0)) (field (Fld.SFD_PGg_STATUS_DEMOTED g) low)).trans (groups g hg).2⟩
  · refine (paths.rest a fun ⟨p, hp, e⟩ => ha ?_).trans (regs a ha)
    rw [e]
    exact List.mem_append_right _ (List.mem_map_of_mem (List.mem_range.mpr hp))

theorem sfdCntClr_clears (h : s.passes q Reg.SFD_CTRL true) {w : Word} (noCommit : Fld.SFD_CTRL_COMMIT.of w = 0) :
    ∃ t, exec (.sfdCntClr q w) s = .next t ∧ t.fld Fld.SFD_LOAD_STATUS_LOADS = 0 ∧ t.fld Fld.SFD_CAP_STATUS_CAPTURES = 0 ∧
      (∀ g < 8, t.fld (Fld.SFD_PGg_STATUS_LIMITS g) = 0 ∧ t.on (Fld.SFD_PGg_STATUS_DEMOTED g) = s.on (Fld.SFD_PGg_STATUS_DEMOTED g)) ∧
      (∀ p < 64, t.rd (Reg.SFD_PATHp_COUNT p) = 0) ∧ s.onlyRegs t sfdCounterRegs := by
  have run : exec (.sfdCntClr q w) s = .next (s.sfdCtrlWrite (Fld.SFD_CTRL_CNT_CLR.put 1 w)) :=
    exec_access (f := fun s => s.sfdCtrlWrite (Fld.SFD_CTRL_CNT_CLR.put 1 w)) h rfl
  obtain ⟨-, -, -, clr, go⟩ := sfdCtrl_data w
  rw [State.sfdCtrlWrite] at run
  simp only [clr, go, noCommit, show ((0 : Nat) == 1) = false from rfl, Bool.false_and, Bool.false_eq_true, if_false, if_true] at run
  have demoted (g : Nat) : (s.setFld Fld.SFD_CTRL_EN (Fld.SFD_CTRL_EN.of (Fld.SFD_CTRL_CNT_CLR.put 1 w))).on (Fld.SFD_PGg_STATUS_DEMOTED g) =
      s.on (Fld.SFD_PGg_STATUS_DEMOTED g) := State.on_setFld_ne _ _ _ _ (by simp) (.inl (by simp only [Reg.SFD_PGg_STATUS, Reg.SFD_CTRL]; omega))
  have side : s.beside (s.setFld Fld.SFD_CTRL_EN (Fld.SFD_CTRL_EN.of (Fld.SFD_CTRL_CNT_CLR.put 1 w))) := ⟨_, rfl⟩
  have regs : s.regsBut (s.setFld Fld.SFD_CTRL_EN (Fld.SFD_CTRL_EN.of (Fld.SFD_CTRL_CNT_CLR.put 1 w))) sfdCounterRegs :=
    (State.regsBut.refl s _).setFld _ (by simp [sfdCounterRegs])
  generalize s.setFld Fld.SFD_CTRL_EN (Fld.SFD_CTRL_EN.of (Fld.SFD_CTRL_CNT_CLR.put 1 w)) = v at *
  obtain ⟨side', loads, captures, limits, counts, regs'⟩ := v.clearSfdCounters_clears
  exact ⟨_, run, loads, captures, fun g hg => ⟨(limits g hg).1, (limits g hg).2.trans (demoted g)⟩, counts, (side.trans side').eq, regs.trans regs'⟩

/-! ### The frame boundary of a plan -/

/-- The plan that waits is in force; `x` is what the samples keep. -/
def State.planInForce (s : State) (x : SampleState) : State :=
  { s with smp := x, sfd := { s.sfd with plan := s.sfd.next, next := [] } }

theorem exec_sfdCommitInForce (h : s.sfd.next ≠ []) : ∃ x, exec .sfdCommitInForce s = .next (((((s.planInForce { s.smp with past := x }).setFld Fld.SFD_STATUS_COMMIT_PENDING 0).setFld Fld.SFD_CTRL_COMMIT 0).setFld
      Fld.SFD_STATUS_CFG_VALID 1).wr Reg.SFD_NCO (BitVec.ofInt 32 ((planOf s.sfd.next).nco (s.carrierAt false (planOf s.sfd.next).carrier s.sfd.boundary)))) := by
  refine ⟨(s.keepNco 20).smp.past, ?_⟩
  show execSfdCommitInForce s = _
  rw [execSfdCommitInForce, if_pos h]
  rfl

theorem State.planInForce_smp (s : State) (x : SampleState) : s.planInForce x = { s with smp := x, sfd := { s.sfd with plan := s.sfd.next, next := [] } } := rfl

theorem sfdInForce (h : s.sfd.next ≠ []) :
    ∃ t, exec .sfdCommitInForce s = .next t ∧ t.on Fld.SFD_STATUS_COMMIT_PENDING = false ∧ t.on Fld.SFD_STATUS_CFG_VALID = true ∧
      t.on Fld.SFD_CTRL_COMMIT = false ∧
      t.rd Reg.SFD_NCO = BitVec.ofInt 32 ((planOf s.sfd.next).nco (s.carrierAt false (planOf s.sfd.next).carrier s.sfd.boundary)) ∧
      t = { s with regs := t.regs, sfd := { s.sfd with plan := s.sfd.next, next := [] }, smp := t.smp } ∧
      t.smp = { s.smp with past := t.smp.past } ∧ s.regsBut t [Reg.SFD_CTRL, Reg.SFD_STATUS, Reg.SFD_NCO] := by
  obtain ⟨x, run⟩ := exec_sfdCommitInForce h
  generalize BitVec.ofInt 32 ((planOf s.sfd.next).nco (s.carrierAt false (planOf s.sfd.next).carrier s.sfd.boundary)) = word at *
  have regs : s.regsBut (s.planInForce { s.smp with past := x }) [Reg.SFD_CTRL, Reg.SFD_STATUS, Reg.SFD_NCO] := State.regsBut.of_regs rfl _
  have shape := s.planInForce_smp { s.smp with past := x }
  generalize s.planInForce { s.smp with past := x } = v at *
  refine ⟨_, run, ?_, ?_, ?_, State.rd_wr_same _ _ _, ?_, ?_, (((regs.setFld _ (by simp)).setFld _ (by simp)).setFld _ (by simp)).wr _ (by simp)⟩
  · rw [State.on_eq_false, State.fld_wr_ne _ _ _ _ (by simp), State.fld_setFld_ne _ _ _ _ (by simp) (by simp), State.fld_setFld_ne _ _ _ _ (by simp) (by simp)]
    exact State.fld_setFld_same _ _ _ (by simp) (by simp)
  · rw [State.on, State.fld_wr_ne _ _ _ _ (by simp)]
    exact State.on_setFld_one _ _ (by simp) (by simp)
  · rw [State.on_eq_false, State.fld_wr_ne _ _ _ _ (by simp), State.fld_setFld_ne _ _ _ _ (by simp) (by simp)]
    exact State.fld_setFld_same _ _ _ (by simp) (by simp)
  · rw [shape]
    rfl
  · rw [shape]
    rfl

/-! ### The load engine (R313) -/

/-- The data of a GO with its OP. -/
def sfdLoadGo (op : Nat) (w : Word) : Word := Fld.SFD_LOAD_CTRL_OP.put op (Fld.SFD_LOAD_CTRL_GO.put 1 w)

theorem sfdLoadGo_go (op : Nat) (w : Word) : Fld.SFD_LOAD_CTRL_GO.of (sfdLoadGo op w) = 1 := by
  rw [sfdLoadGo, Fld.of_put_ne _ _ _ _ (by simp) (by simp)]
  exact Fld.of_put_same _ _ _ (by simp) (by simp)

theorem exec_sfdLoad (w : Word) {c : Instr} {wr : Bool} (hc : (c = .sfdLoadWrite q w ∧ wr = true) ∨ (c = .sfdLoadRead q w ∧ wr = false))
    (h : s.passes q Reg.SFD_LOAD_CTRL true) : exec c s = .next (s.sfdLoadWrite q (sfdLoadGo (bit (!wr)) w)) := by
  rcases hc with ⟨rfl, rfl⟩ | ⟨rfl, rfl⟩
  · exact exec_access (f := fun s => s.sfdLoadWrite q (sfdLoadGo 0 w)) h rfl
  · exact exec_access (f := fun s => s.sfdLoadWrite q (sfdLoadGo 1 w)) h rfl

theorem sfdLoad_overrun {c : Instr} (h : exec c s = .next (s.sfdLoadWrite q (sfdLoadGo n d))) (busy : s.on Fld.SFD_LOAD_CTRL_GO = true) :
    ∃ t, exec c s = .next t ∧ t.on Fld.SFD_LOAD_CTRL_OVERRUN = true ∧ s.onlyRegs t [Reg.SFD_LOAD_CTRL] := by
  rw [State.sfdLoadWrite] at h
  simp only [sfdLoadGo_go, busy, Nat.reduceBEq, Bool.and_self, if_true] at h
  exact ⟨_, h, State.on_setFld_one _ _ (by simp) (by simp), rfl, (State.regsBut.refl s _).setFld _ (by simp)⟩

/-- A GO of another requester disturbs nothing where LOP3 does not run. -/
theorem State.disturbLop3_idle (h : s.sfd.lop3 = none) (q : Requester) : s.disturbLop3 q = s := by rw [State.disturbLop3, h]; rfl

/-- The engine runs the transfer `l`. -/
def State.sfdLoading (s : State) (l : SfdLoad) : State :=
  { (s.setFld Fld.SFD_LOAD_CTRL_GO 1).setFld Fld.SFD_LOAD_STATUS_STATE 1 with sfd := { s.sfd with load := some l } }

theorem State.sfdLoading_shows (s : State) (l : SfdLoad) : (s.sfdLoading l).on Fld.SFD_LOAD_CTRL_GO = true ∧
    (s.sfdLoading l).fld Fld.SFD_LOAD_STATUS_STATE = 1 ∧
    s.sfdLoading l = { s with regs := (s.sfdLoading l).regs, sfd := { s.sfd with load := some l } } ∧
    s.regsBut (s.sfdLoading l) [Reg.SFD_LOAD_CTRL, Reg.SFD_LOAD_STATUS] :=
  ⟨(State.on_setFld_ne (s.setFld Fld.SFD_LOAD_CTRL_GO 1) Fld.SFD_LOAD_STATUS_STATE Fld.SFD_LOAD_CTRL_GO 1 (by simp) (by simp)).trans
      (State.on_setFld_one _ _ (by simp) (by simp)),
    State.fld_setFld_same _ Fld.SFD_LOAD_STATUS_STATE _ (by simp) (by simp), rfl,
    (((State.regsBut.refl s _).setFld _ (by simp)).setFld _ (by simp)).congr rfl⟩

theorem sfdLoad_started (w : Word) (wr : Bool) {c : Instr} (h : exec c s = .next (s.sfdLoadWrite q (sfdLoadGo (bit (!wr)) w)))
    (quiet : s.sfd.lop3 = none) (idle : s.on Fld.SFD_LOAD_CTRL_GO = false) (range : s.storeRange (s.fld Fld.SFD_LOAD_ADDR_ADDR) sfdBlockLen = true) :
    ∃ t, exec c s = .next t ∧ t.on Fld.SFD_LOAD_CTRL_GO = true ∧ t.fld Fld.SFD_LOAD_STATUS_STATE = 1 ∧
      t = { s with regs := t.regs, sfd := { s.sfd with
        load := some ⟨wr, Fld.SFD_LOAD_CTRL_CLASS.of w, s.fld Fld.SFD_LOAD_ADDR_ADDR, none⟩ } } ∧
      s.regsBut t [Reg.SFD_LOAD_CTRL, Reg.SFD_LOAD_STATUS] := by
  have cls := (s.fld_plainWrite_plain (f := Fld.SFD_LOAD_CTRL_CLASS) (by decide) (Fld.SFD_LOAD_CTRL_GO.put 0 (sfdLoadGo (bit (!wr)) w))).trans
    (show _ = Fld.SFD_LOAD_CTRL_CLASS.of w by
      rw [Fld.of_put_ne _ _ _ _ (by simp) (by simp), sfdLoadGo, Fld.of_put_ne _ _ _ _ (by simp) (by simp), Fld.of_put_ne _ _ _ _ (by simp) (by simp)])
  have op : (s.plainWrite Reg.SFD_LOAD_CTRL (Fld.SFD_LOAD_CTRL_GO.put 0 (sfdLoadGo (bit (!wr)) w))).fld Fld.SFD_LOAD_CTRL_OP = bit (!wr) := by
    refine (s.fld_plainWrite_plain (f := Fld.SFD_LOAD_CTRL_OP) (by decide) _).trans ?_
    rw [Fld.of_put_ne _ _ _ _ (by simp) (by simp)]
    exact Fld.of_put_same _ _ _ (by simp) (by cases wr <;> simp [bit])
  have regs : s.regsBut (s.plainWrite Reg.SFD_LOAD_CTRL (Fld.SFD_LOAD_CTRL_GO.put 0 (sfdLoadGo (bit (!wr)) w))) [Reg.SFD_LOAD_CTRL, Reg.SFD_LOAD_STATUS] :=
    (State.regsBut.refl s _).plainWrite _ (by simp)
  have side : s.beside (s.plainWrite Reg.SFD_LOAD_CTRL (Fld.SFD_LOAD_CTRL_GO.put 0 (sfdLoadGo (bit (!wr)) w))) := ⟨_, rfl⟩
  rw [State.sfdLoadWrite] at h
  simp only [sfdLoadGo_go, idle, Nat.reduceBEq, Bool.and_false, Bool.false_eq_true, if_false, if_true] at h
  generalize s.plainWrite Reg.SFD_LOAD_CTRL (Fld.SFD_LOAD_CTRL_GO.put 0 (sfdLoadGo (bit (!wr)) w)) = v at *
  have sfd : v.sfd = s.sfd := by rw [side.eq]
  have addr : v.fld Fld.SFD_LOAD_ADDR_ADDR = s.fld Fld.SFD_LOAD_ADDR_ADDR := regs.fld _ (by simp)
  have range' : (v.setFld Fld.SFD_LOAD_CTRL_GO 1).storeRange (s.fld Fld.SFD_LOAD_ADDR_ADDR) sfdBlockLen = true :=
    ((side.setFld _ _).storeRange _ _).trans range
  have flag : (v.setFld Fld.SFD_LOAD_CTRL_GO 1).on Fld.SFD_LOAD_CTRL_OP = !wr := by
    rw [State.on_setFld_ne _ _ _ _ (by simp) (by simp), State.on, op]
    cases wr <;> rfl
  simp only [State.disturbLop3_idle (show v.sfd.lop3 = none by rw [sfd]; exact quiet), addr, cls, range', flag, Bool.not_not, if_true] at h
  replace h : exec c s = .next (v.sfdLoading ⟨wr, Fld.SFD_LOAD_CTRL_CLASS.of w, s.fld Fld.SFD_LOAD_ADDR_ADDR, none⟩) := h
  obtain ⟨go, state, shape, own⟩ := v.sfdLoading_shows ⟨wr, Fld.SFD_LOAD_CTRL_CLASS.of w, s.fld Fld.SFD_LOAD_ADDR_ADDR, none⟩
  refine ⟨_, h, go, state, ?_, regs.trans own⟩
  rw [shape, side.eq]

/-- A transfer that ends without error. -/
theorem State.sfdLoadDone_ends (s : State) (room : s.raiseRoom 1) (cls op set : Nat) :
    (s.sfdLoadDone cls op set).fld Fld.SFD_LOAD_STATUS_STATE = 0 ∧ (s.sfdLoadDone cls op set).on Fld.SFD_LOAD_CTRL_GO = false ∧
    (s.sfdLoadDone cls op set).raise = s.raise ++ [s.occurrence 0x93 (cls + 256 * op + 1024 * set)] ∧
    s.sfdLoadDone cls op set = { s with regs := (s.sfdLoadDone cls op set).regs, raise := (s.sfdLoadDone cls op set).raise, sfd := { s.sfd with load := none } } ∧
    s.regsBut (s.sfdLoadDone cls op set) [Reg.SFD_LOAD_CTRL, Reg.SFD_LOAD_STATUS] := by
  have regs : s.regsBut (((s.setFld Fld.SFD_LOAD_STATUS_ERR 0).setFld Fld.SFD_LOAD_STATUS_STATE 0).setFld Fld.SFD_LOAD_CTRL_GO 0)
      [Reg.SFD_LOAD_CTRL, Reg.SFD_LOAD_STATUS] := (((State.regsBut.refl s _).setFld _ (by simp)).setFld _ (by simp)).setFld _ (by simp)
  have state : (((s.setFld Fld.SFD_LOAD_STATUS_ERR 0).setFld Fld.SFD_LOAD_STATUS_STATE 0).setFld Fld.SFD_LOAD_CTRL_GO 0).fld Fld.SFD_LOAD_STATUS_STATE = 0 :=
    (State.fld_setFld_ne _ _ _ _ (by simp) (by simp)).trans (State.fld_setFld_same _ _ _ (by simp) (by simp))
  have go : (((s.setFld Fld.SFD_LOAD_STATUS_ERR 0).setFld Fld.SFD_LOAD_STATUS_STATE 0).setFld Fld.SFD_LOAD_CTRL_GO 0).fld Fld.SFD_LOAD_CTRL_GO = 0 :=
    State.fld_setFld_same _ _ _ (by simp) (by simp)
  have all : s.sfdLoadDone cls op set = ({ (((s.setFld Fld.SFD_LOAD_STATUS_ERR 0).setFld Fld.SFD_LOAD_STATUS_STATE 0).setFld Fld.SFD_LOAD_CTRL_GO 0) with
    sfd := { s.sfd with load := none } } : State).event 0x93 (cls + 256 * op + 1024 * set) := rfl
  have side : s.beside (((s.setFld Fld.SFD_LOAD_STATUS_ERR 0).setFld Fld.SFD_LOAD_STATUS_STATE 0).setFld Fld.SFD_LOAD_CTRL_GO 0) := ⟨_, rfl⟩
  rw [all]
  generalize ((s.setFld Fld.SFD_LOAD_STATUS_ERR 0).setFld Fld.SFD_LOAD_STATUS_STATE 0).setFld Fld.SFD_LOAD_CTRL_GO 0 = u at *
  obtain ⟨x, rfl⟩ := side
  rw [State.event_raiseRoom (s := { s with regs := x, sfd := { s.sfd with load := none } }) (room.congr rfl rfl) (by decide)]
  exact ⟨state, (State.on_eq_false _ _).mpr go, rfl, rfl, regs.congr rfl⟩

/-- The transfer `l` has filled set `k` with `b`. -/
def State.setFilled (s : State) (l : SfdLoad) (k : Nat) (b : List Byte) : State :=
  { s with sfd := { s.sfd with sets := SMap.insert k b (SMap.erase s.sfd.sets k), load := some { l with set := some k } } }

theorem State.setFilled_shape (s : State) (l : SfdLoad) (k : Nat) (b : List Byte) :
    s.setFilled l k b = { s with sfd := { s.sfd with sets := (s.setFilled l k b).sfd.sets, load := some { l with set := some k } } } := rfl

theorem State.sfdSet_setFilled_same (s : State) (l : SfdLoad) (k : Nat) (b : List Byte) : (s.setFilled l k b).sfdSet k = b := by
  rw [State.sfdSet, State.setFilled, SMap.find_insert_same _ _ _ (SMap.find_erase_same _ _)]

theorem State.sfdSet_setFilled_ne (s : State) (l : SfdLoad) {k j : Nat} (b : List Byte) (h : j ≠ k) : (s.setFilled l k b).sfdSet j = s.sfdSet j := by
  rw [State.sfdSet, State.setFilled, SMap.find_insert_ne _ _ h, SMap.find_erase_ne _ h, State.sfdSet]

theorem exec_sfdCopyEnd_write {l : SfdLoad} (h : s.sfd.load = some l) (open' : l.set = none) (range : s.storeRange l.addr sfdBlockLen = true) (clean : s.ecc = [])
    (wr : l.write = true) (ok : sfdBlockOk (s.storeBytes l.addr sfdBlockLen) = true) :
    exec .sfdLoadCopyEnd s = .next ((s.setFilled l s.freeSet (trimBlock (s.storeBytes l.addr sfdBlockLen))).setFld Fld.SFD_LOAD_STATUS_STATE 2) := by
  show execSfdLoadCopyEnd s = _
  simp only [execSfdLoadCopyEnd, h, open', range, ok, s.storeRead_clean clean, Option.isSome_none, Bool.not_true, Bool.false_eq_true, if_false]
  rw [if_pos wr]
  rfl

theorem sfdCopied_write {l : SfdLoad} (h : s.sfd.load = some l) (open' : l.set = none) (range : s.storeRange l.addr sfdBlockLen = true) (clean : s.ecc = [])
    (wr : l.write = true) (ok : sfdBlockOk (s.storeBytes l.addr sfdBlockLen) = true) :
    ∃ t, exec .sfdLoadCopyEnd s = .next t ∧ t.fld Fld.SFD_LOAD_STATUS_STATE = 2 ∧
      t.sfdSet s.freeSet = trimBlock (s.storeBytes l.addr sfdBlockLen) ∧ (∀ k, k ≠ s.freeSet → t.sfdSet k = s.sfdSet k) ∧
      t = { s with regs := t.regs, sfd := { s.sfd with sets := t.sfd.sets, load := some { l with set := some s.freeSet } } } ∧
      s.regsBut t [Reg.SFD_LOAD_STATUS] := by
  have run := exec_sfdCopyEnd_write h open' range clean wr ok
  generalize trimBlock (s.storeBytes l.addr sfdBlockLen) = b at *
  generalize s.freeSet = k at *
  have same := s.sfdSet_setFilled_same l k b
  have others (j : Nat) (hj : j ≠ k) := s.sfdSet_setFilled_ne l b hj
  have shape := s.setFilled_shape l k b
  have regs : s.regsBut (s.setFilled l k b) [Reg.SFD_LOAD_STATUS] := State.regsBut.of_regs rfl _
  generalize s.setFilled l k b = v at *
  refine ⟨_, run, State.fld_setFld_same _ _ _ (by simp) (by simp), same, others, ?_, regs.setFld _ (by simp)⟩
  rw [shape]
  rfl

theorem exec_sfdCopyEnd_read {l : SfdLoad} (h : s.sfd.load = some l) (open' : l.set = none) (range : s.storeRange l.addr sfdBlockLen = true) (clean : s.ecc = [])
    (mode : s.fld Fld.CST_ECC_INJ_MODE = 0) (rd : l.write = false) :
    exec .sfdLoadCopyEnd s = .next ((s.putStore l.addr (s.sfdSet (s.classSet l.cls))).sfdLoadDone l.cls 1 (s.classSet l.cls)) := by
  show execSfdLoadCopyEnd s = _
  simp only [execSfdLoadCopyEnd, h, open', range, rd, s.storePut_clean clean mode, Option.isSome_none, Bool.not_true, Bool.false_eq_true, if_false]

theorem sfdCopied_read {l : SfdLoad} (h : s.sfd.load = some l) (open' : l.set = none) (range : s.storeRange l.addr sfdBlockLen = true) (clean : s.ecc = [])
    (mode : s.fld Fld.CST_ECC_INJ_MODE = 0) (rd : l.write = false) (len : (s.sfdSet (s.classSet l.cls)).length = sfdBlockLen) (room : s.raiseRoom 1) :
    ∃ t, exec .sfdLoadCopyEnd s = .next t ∧ t.storeBytes l.addr sfdBlockLen = s.sfdSet (s.classSet l.cls) ∧
      (∀ a, a < l.addr ∨ l.addr + sfdBlockLen ≤ a → t.storeByte a = s.storeByte a) ∧
      t.fld Fld.SFD_LOAD_STATUS_STATE = 0 ∧ t.on Fld.SFD_LOAD_CTRL_GO = false ∧
      t.raise = s.raise ++ [s.occurrence 0x93 (l.cls + 256 + 1024 * s.classSet l.cls)] ∧
      t = { s with regs := t.regs, store := t.store, raise := t.raise, sfd := { s.sfd with load := none } } ∧
      s.regsBut t [Reg.SFD_LOAD_CTRL, Reg.SFD_LOAD_STATUS] := by
  have run := exec_sfdCopyEnd_read h open' range clean mode rd
  generalize s.classSet l.cls = k at *
  have bytes := s.storeBytes_putStore l.addr (s.sfdSet k)
  have out (a : Nat) := s.storeByte_putStore_out l.addr a (s.sfdSet k)
  rw [len] at bytes out
  have frame : ∃ y, s.putStore l.addr (s.sfdSet k) = { s with store := y } := ⟨_, rfl⟩
  obtain ⟨y, frame⟩ := frame
  generalize s.putStore l.addr (s.sfdSet k) = v at *
  have room' : v.raiseRoom 1 := room.congr (by rw [frame]) (by rw [frame])
  obtain ⟨state, go, raise, shape, regs⟩ := v.sfdLoadDone_ends room' l.cls 1 k
  generalize v.sfdLoadDone l.cls 1 k = t at *
  have store : t.store = v.store := by rw [shape]
  refine ⟨t, run, ?_, fun a ha => ?_, state, go, ?_, ?_, State.regsBut.trans (State.regsBut.of_regs (by rw [frame]) _) regs⟩
  · rw [State.storeBytes, store]
    exact bytes
  · rw [State.storeByte, store]
    exact out a ha
  · rw [raise, frame]
    rfl
  · rw [shape, frame]

/-- The class `c` maps to set `k` with `r` references. -/
def State.classMapped (s : State) (c k r : Nat) : State :=
  ((s.setFld (Fld.SFD_CLASSc_PSET c) k).setFld (Fld.SFD_CLASSc_NREF c) r).count Fld.SFD_LOAD_STATUS_LOADS 1

theorem State.classMapped_shows (s : State) (c : Nat) {k r : Nat} (hk : k < 32) (hr : r < 16) : s.beside (s.classMapped c k r) ∧
    (s.classMapped c k r).classSet c = k ∧ (s.classMapped c k r).fld (Fld.SFD_CLASSc_NREF c) = r ∧
    s.regsBut (s.classMapped c k r) [Reg.SFD_CLASSc c, Reg.SFD_LOAD_CTRL, Reg.SFD_LOAD_STATUS] := by
  have far : Reg.SFD_CLASSc c ≠ Reg.SFD_LOAD_STATUS := by simp only [Reg.SFD_CLASSc, Reg.SFD_LOAD_STATUS]; omega
  refine ⟨⟨_, rfl⟩, ?_, ?_, (((State.regsBut.refl s _).setFld _ (by simp)).setFld _ (by simp)).count _ (by simp)⟩
  · rw [State.classSet, State.classMapped, State.fld_count_ne _ _ _ _ (by simp) (.inl far), State.fld_setFld_ne _ _ _ _ (by simp) (by simp)]
    exact State.fld_setFld_same _ _ _ (by simp) hk
  · rw [State.classMapped, State.fld_count_ne _ _ _ _ (by simp) (.inl far)]
    exact State.fld_setFld_same _ _ _ (by simp) hr

theorem exec_sfdLoadBoundary {l : SfdLoad} (h : s.sfd.load = some l) (hk : l.set = some k) (other : s.time.sfdClass ≠ l.cls) :
    exec .sfdLoadBoundary s = .next ((s.classMapped l.cls k (blockNref (s.sfdSet k))).sfdLoadDone l.cls 0 k) := by
  show execSfdLoadBoundary s = _
  have cls : ((s.setFld (Fld.SFD_CLASSc_PSET l.cls) k).setFld (Fld.SFD_CLASSc_NREF l.cls) (blockNref (s.sfdSet k))).time.sfdClass ≠ l.cls := other
  simp only [execSfdLoadBoundary, h, hk, if_neg cls, State.classMapped]

theorem sfdMapped {l : SfdLoad} (h : s.sfd.load = some l) (hl : l.set = some k) (hk : k < 32) (other : s.time.sfdClass ≠ l.cls) (room : s.raiseRoom 1) :
    ∃ t, exec .sfdLoadBoundary s = .next t ∧ t.classSet l.cls = k ∧ t.fld (Fld.SFD_CLASSc_NREF l.cls) = blockNref (s.sfdSet k) ∧
      t.fld Fld.SFD_LOAD_STATUS_STATE = 0 ∧ t.on Fld.SFD_LOAD_CTRL_GO = false ∧
      t.raise = s.raise ++ [s.occurrence 0x93 (l.cls + 1024 * k)] ∧
      t = { s with regs := t.regs, raise := t.raise, sfd := { s.sfd with load := none } } ∧
      s.regsBut t [Reg.SFD_CLASSc l.cls, Reg.SFD_LOAD_CTRL, Reg.SFD_LOAD_STATUS] := by
  have run := exec_sfdLoadBoundary h hl other
  have few : blockNref (s.sfdSet k) < 16 := Nat.mod_lt _ (by decide)
  generalize blockNref (s.sfdSet k) = r at *
  obtain ⟨side, set, nref, regs⟩ := s.classMapped_shows l.cls hk few
  generalize s.classMapped l.cls k r = v at *
  have room' : v.raiseRoom 1 := room.congr (by rw [side.eq]) (by rw [side.eq])
  obtain ⟨state, go, raise, shape, own⟩ := v.sfdLoadDone_ends room' l.cls 0 k
  generalize v.sfdLoadDone l.cls 0 k = t at *
  have far : Reg.SFD_CLASSc l.cls ∉ [Reg.SFD_LOAD_CTRL, Reg.SFD_LOAD_STATUS] := by
    simp only [List.mem_cons, List.not_mem_nil, or_false, Reg.SFD_CLASSc, Reg.SFD_LOAD_CTRL, Reg.SFD_LOAD_STATUS]
    omega
  refine ⟨t, run, (own.fld _ far).trans set, (own.fld _ far).trans nref, state, go, ?_, ?_, regs.trans (own.mono (by simp))⟩
  · rw [raise, side.eq]
    rfl
  · rw [shape, side.eq]

/-- Settles O48: a plan is judged when it is committed and in force at its boundary; the engine of the canceller sets runs, fills the free set or copies the
class's set, and the class takes the set at a boundary. -/
theorem duplexPlansAndCoefficientSets : Obligations.DuplexPlansAndCoefficientSets := by
  unfold Obligations.DuplexPlansAndCoefficientSets
  intro q w s
  refine ⟨fun pass => ⟨fun busy => sfdCommit_overrun pass w busy, ?_, fun noCommit => sfdCntClr_clears pass noCommit⟩, ?_, fun c wr hc pass quiet => ?_,
    fun l hl open' range clean mode => ⟨fun wr ok => sfdCopied_write hl open' range clean wr ok,
      fun rd len room => sfdCopied_read hl open' range clean mode rd len room⟩,
    fun l k hl hk small other room => sfdMapped hl hk small other room⟩
  · rintro ws rfl b rfl r hr free keep
    exact ⟨fun bad room => sfdCommit_refused pass free keep hr bad room, fun good => sfdCommit_taken pass free keep (good ▸ hr)⟩
  · rintro p rfl waits
    exact sfdInForce waits
  · have run := exec_sfdLoad w hc pass
    exact ⟨fun busy => sfdLoad_overrun run busy, fun idle range => sfdLoad_started w wr run quiet idle range⟩

end Sys2Proof.Machine

/-!
PROOFS. Full-duplex captures and training (O49).
-/

namespace Sys2Proof.Machine

variable {s t u v : State} {as : List Nat} {a g n m k : Nat} {q : Requester} {d : Word}

/-! ### Captures (R314, R315) -/

/-- The data of a GO. -/
theorem sfdCapGo_data (w : Word) : Fld.SFD_CAP_CTRL_GO.of (Fld.SFD_CAP_CTRL_GO.put 1 w) = 1 ∧
    Fld.SFD_CAP_CTRL_CLASS.of (Fld.SFD_CAP_CTRL_GO.put 0 (Fld.SFD_CAP_CTRL_GO.put 1 w)) = Fld.SFD_CAP_CTRL_CLASS.of w :=
  ⟨Fld.of_put_same _ _ _ (by simp) (by simp), by rw [Fld.of_put_ne _ _ _ _ (by simp) (by simp), Fld.of_put_ne _ _ _ _ (by simp) (by simp)]⟩

theorem exec_sfdCapGo (h : s.passes q Reg.SFD_CAP_CTRL true) (w : Word) :
    exec (.sfdCapGo q w) s = .next (s.sfdCapWrite q (Fld.SFD_CAP_CTRL_GO.put 1 w)) :=
  exec_access (f := fun s => s.sfdCapWrite q (Fld.SFD_CAP_CTRL_GO.put 1 w)) h rfl

theorem sfdCap_overrun (h : s.passes q Reg.SFD_CAP_CTRL true) (w : Word) (busy : s.on Fld.SFD_CAP_CTRL_GO = true) :
    ∃ t, exec (.sfdCapGo q w) s = .next t ∧ t.on Fld.SFD_CAP_CTRL_OVERRUN = true ∧ s.onlyRegs t [Reg.SFD_CAP_CTRL] := by
  have run := exec_sfdCapGo h w
  rw [State.sfdCapWrite] at run
  simp only [(sfdCapGo_data w).1, busy, Nat.reduceBEq, Bool.and_self, if_true] at run
  exact ⟨_, run, State.on_setFld_one _ _ (by simp) (by simp), rfl, (State.regsBut.refl s _).setFld _ (by simp)⟩

theorem sfdCap_armed (h : s.passes q Reg.SFD_CAP_CTRL true) (w : Word) (quiet : s.sfd.lop3 = none) (free : s.on Fld.SFD_CAP_CTRL_GO = false)
    (range : s.storeRange (s.fld Fld.SFD_CAP_DEST_ADDR) sfdRecordLen = true) :
    ∃ t, exec (.sfdCapGo q w) s = .next t ∧ t.on Fld.SFD_CAP_CTRL_GO = true ∧
      t.fld Fld.SFD_CAP_CTRL_CLASS = Fld.SFD_CAP_CTRL_CLASS.of w ∧ s.onlyRegs t [Reg.SFD_CAP_CTRL] := by
  have run := exec_sfdCapGo h w
  obtain ⟨go, data⟩ := sfdCapGo_data w
  have cls := (s.fld_plainWrite_plain (f := Fld.SFD_CAP_CTRL_CLASS) (by decide) (Fld.SFD_CAP_CTRL_GO.put 0 (Fld.SFD_CAP_CTRL_GO.put 1 w))).trans data
  have regs : s.regsBut (s.plainWrite Reg.SFD_CAP_CTRL (Fld.SFD_CAP_CTRL_GO.put 0 (Fld.SFD_CAP_CTRL_GO.put 1 w))) [Reg.SFD_CAP_CTRL] :=
    (State.regsBut.refl s _).plainWrite _ (by simp)
  have side : s.beside (s.plainWrite Reg.SFD_CAP_CTRL (Fld.SFD_CAP_CTRL_GO.put 0 (Fld.SFD_CAP_CTRL_GO.put 1 w))) := ⟨_, rfl⟩
  rw [State.sfdCapWrite] at run
  simp only [go, free, Nat.reduceBEq, Bool.and_false, Bool.false_eq_true, if_false, if_true] at run
  generalize s.plainWrite Reg.SFD_CAP_CTRL (Fld.SFD_CAP_CTRL_GO.put 0 (Fld.SFD_CAP_CTRL_GO.put 1 w)) = v at *
  have calm : v.sfd.lop3 = none := by rw [side.eq]; exact quiet
  have dest : (v.setFld Fld.SFD_CAP_CTRL_GO 1).fld Fld.SFD_CAP_DEST_ADDR = s.fld Fld.SFD_CAP_DEST_ADDR := (regs.setFld _ (by simp)).fld _ (by simp)
  rw [State.disturbLop3_idle calm, dest, (side.setFld Fld.SFD_CAP_CTRL_GO 1).storeRange, if_pos range] at run
  exact ⟨_, run, State.on_setFld_one _ _ (by simp) (by simp), (State.fld_setFld_ne _ _ _ _ (by simp) (by simp)).trans cls, (side.setFld _ _).eq,
    regs.setFld _ (by simp)⟩

/-- The window `x` begins. -/
def State.windowBegun (s : State) (x : SfdWindow) : State := { s.setFld Fld.SFD_CAP_STATUS_BUSY 1 with sfd := { s.sfd with window := some x } }

theorem sfdCap_begins (armed : s.on Fld.SFD_CAP_CTRL_GO = true) (idle : s.sfd.window = none) (sb : s.sbForAll = true)
    (cls : s.on Fld.SFD_CAP_CTRL_CLASS_ANY = true ∨ s.fld Fld.SFD_CAP_CTRL_CLASS = s.time.sfdClass) :
    ∃ t, exec .sfdCaptureStart s = .next t ∧ t.on Fld.SFD_CAP_STATUS_BUSY = true ∧
      t = { s with regs := t.regs, sfd := { s.sfd with window := some ⟨s.time.sfdClass, s.fld (Fld.SFD_CLASSc_NREF s.time.sfdClass), (planOf s.sfd.plan).rate,
        s.fdGroups, s.air, s.fld Fld.SFD_CAP_DEST_ADDR, false⟩ } } ∧ s.regsBut t [Reg.SFD_CAP_STATUS] := by
  have meets : (s.on Fld.SFD_CAP_CTRL_CLASS_ANY || s.fld Fld.SFD_CAP_CTRL_CLASS == s.time.sfdClass) = true := by
    rw [Bool.or_eq_true, beq_iff_eq]
    exact cls
  have run : exec .sfdCaptureStart s = .next (s.windowBegun ⟨s.time.sfdClass, s.fld (Fld.SFD_CLASSc_NREF s.time.sfdClass), (planOf s.sfd.plan).rate,
      s.fdGroups, s.air, s.fld Fld.SFD_CAP_DEST_ADDR, false⟩) := by
    show execSfdCaptureStart s = _
    rw [execSfdCaptureStart, if_pos (by rw [armed, idle, sb, meets]; rfl), State.windowBegun]
  exact ⟨_, run, State.on_setFld_one s _ (by simp) (by simp), rfl, ((State.regsBut.refl s [Reg.SFD_CAP_STATUS]).setFld _ (by simp)).congr rfl⟩

theorem flatMap_length_const {α β : Type} (f : α → List β) {c : Nat} : ∀ l : List α, (∀ x, (f x).length = c) → (l.flatMap f).length = c * l.length
  | [], _ => rfl
  | x :: l, h => by
    rw [List.flatMap_cons, List.length_append, flatMap_length_const f l h, h, List.length_cons, Nat.mul_add, Nat.mul_one, Nat.add_comm]

theorem sfdRecord_length (x : SfdWindow) (stream : Nat → Nat → Word) : (sfdRecord x stream).length = sfdRecordLen := by
  have samples (k : Nat) (used : Bool) : ((List.range 4096).flatMap (fun n => leBytes 4 (if used then (stream k n).toNat else 0))).length = 4 * 4096 := by
    rw [flatMap_length_const (c := 4) _ _ fun n => leBytes_length _ _, List.length_range]
  rw [sfdRecord]
  simp only [List.length_append, leBytes_length, List.length_replicate]
  rw [flatMap_length_const (c := 4 * 4096) _ _ fun k => samples k _, List.length_range, sfdRecordLen]

/-- A capture is counted and ends; `e` is raised. -/
def State.captureDone (s : State) (e : List EventRec) : State :=
  { ((((s.count Fld.SFD_CAP_STATUS_CAPTURES 1).setFld Fld.SFD_CAP_STATUS_ERR 0).setFld Fld.SFD_CAP_STATUS_BUSY 0).setFld Fld.SFD_CAP_CTRL_GO 0) with
    raise := e, sfd := { s.sfd with window := none, line8 := true } }

theorem State.captureDone_shows (s : State) (e : List EventRec) : (s.captureDone e).on Fld.SFD_CAP_STATUS_BUSY = false ∧
    (s.captureDone e).fld Fld.SFD_CAP_STATUS_ERR = 0 ∧ (s.captureDone e).on Fld.SFD_CAP_CTRL_GO = false ∧
    s.captureDone e = { s with regs := (s.captureDone e).regs, raise := e, sfd := { s.sfd with window := none, line8 := true } } ∧
    s.regsBut (s.captureDone e) [Reg.SFD_CAP_CTRL, Reg.SFD_CAP_STATUS] := by
  have regs : s.regsBut ((((s.count Fld.SFD_CAP_STATUS_CAPTURES 1).setFld Fld.SFD_CAP_STATUS_ERR 0).setFld Fld.SFD_CAP_STATUS_BUSY 0).setFld Fld.SFD_CAP_CTRL_GO 0)
      [Reg.SFD_CAP_CTRL, Reg.SFD_CAP_STATUS] := ((((State.regsBut.refl s _).count _ (by simp)).setFld _ (by simp)).setFld _ (by simp)).setFld _ (by simp)
  have busy : ((((s.count Fld.SFD_CAP_STATUS_CAPTURES 1).setFld Fld.SFD_CAP_STATUS_ERR 0).setFld Fld.SFD_CAP_STATUS_BUSY 0).setFld Fld.SFD_CAP_CTRL_GO 0).fld
      Fld.SFD_CAP_STATUS_BUSY = 0 := (State.fld_setFld_ne _ _ _ _ (by simp) (by simp)).trans (State.fld_setFld_same _ _ _ (by simp) (by simp))
  have err : ((((s.count Fld.SFD_CAP_STATUS_CAPTURES 1).setFld Fld.SFD_CAP_STATUS_ERR 0).setFld Fld.SFD_CAP_STATUS_BUSY 0).setFld Fld.SFD_CAP_CTRL_GO 0).fld
      Fld.SFD_CAP_STATUS_ERR = 0 := by
    rw [State.fld_setFld_ne _ _ _ _ (by simp) (by simp), State.fld_setFld_ne _ _ _ _ (by simp) (by simp)]
    exact State.fld_setFld_same _ _ _ (by simp) (by simp)
  exact ⟨(State.on_eq_false _ _).mpr busy, err, (State.on_eq_false _ _).mpr (State.fld_setFld_same _ Fld.SFD_CAP_CTRL_GO _ (by simp) (by simp)), rfl, regs.congr rfl⟩

theorem State.sfdCapEnd_eq (room : s.raiseRoom 1) (cls : Nat) (mixed : Bool) :
    { (s.count Fld.SFD_CAP_STATUS_CAPTURES 1).sfdCapEnd 0 cls mixed with
      sfd := { ((s.count Fld.SFD_CAP_STATUS_CAPTURES 1).sfdCapEnd 0 cls mixed).sfd with line8 := true } } =
    s.captureDone (s.raise ++ [s.occurrence 0x95 (256 * cls + 4096 * bit mixed)]) := by
  have ended : (s.count Fld.SFD_CAP_STATUS_CAPTURES 1).sfdCapEnd 0 cls mixed =
      ({ ((((s.count Fld.SFD_CAP_STATUS_CAPTURES 1).setFld Fld.SFD_CAP_STATUS_ERR 0).setFld Fld.SFD_CAP_STATUS_BUSY 0).setFld Fld.SFD_CAP_CTRL_GO 0) with
        sfd := { s.sfd with window := none } } : State).event 0x95 (0 + 256 * cls + 4096 * bit mixed) := rfl
  have side : s.beside ((((s.count Fld.SFD_CAP_STATUS_CAPTURES 1).setFld Fld.SFD_CAP_STATUS_ERR 0).setFld Fld.SFD_CAP_STATUS_BUSY 0).setFld Fld.SFD_CAP_CTRL_GO 0) :=
    ⟨_, rfl⟩
  rw [ended, State.captureDone, Nat.zero_add]
  generalize (((s.count Fld.SFD_CAP_STATUS_CAPTURES 1).setFld Fld.SFD_CAP_STATUS_ERR 0).setFld Fld.SFD_CAP_STATUS_BUSY 0).setFld Fld.SFD_CAP_CTRL_GO 0 = u at *
  obtain ⟨x, rfl⟩ := side
  rw [State.event_raiseRoom (s := { s with regs := x, sfd := { s.sfd with window := none } }) (room.congr rfl rfl) (by decide)]
  rfl

theorem exec_sfdCaptureRecordEnd {x : SfdWindow} (h : s.sfd.window = some x) (range : s.storeRange x.dest sfdRecordLen = true) (clean : s.ecc = [])
    (mode : s.fld Fld.CST_ECC_INJ_MODE = 0) {v : State} (hv : v = s.putStore x.dest (sfdRecord x (s.sfdStream x))) :
    exec .sfdCaptureRecordEnd s = .next { (v.count Fld.SFD_CAP_STATUS_CAPTURES 1).sfdCapEnd 0 x.cls x.mixed with
      sfd := { ((v.count Fld.SFD_CAP_STATUS_CAPTURES 1).sfdCapEnd 0 x.cls x.mixed).sfd with line8 := true } } := by
  show execSfdCaptureRecordEnd s = _
  rw [execSfdCaptureRecordEnd, h]
  simp only [range, State.storeWrite_clean clean mode, ← hv, Bool.not_true, Bool.false_eq_true, if_false, if_true]

theorem sfdCap_recorded {x : SfdWindow} (h : s.sfd.window = some x) (range : s.storeRange x.dest sfdRecordLen = true) (clean : s.ecc = [])
    (mode : s.fld Fld.CST_ECC_INJ_MODE = 0) (room : s.raiseRoom 1) :
    ∃ t, exec .sfdCaptureRecordEnd s = .next t ∧ t.storeBytes x.dest sfdRecordLen = sfdRecord x (s.sfdStream x) ∧
      (∀ a, a < x.dest ∨ x.dest + sfdRecordLen ≤ a → t.storeByte a = s.storeByte a) ∧
      t.on Fld.SFD_CAP_STATUS_BUSY = false ∧ t.fld Fld.SFD_CAP_STATUS_ERR = 0 ∧ t.on Fld.SFD_CAP_CTRL_GO = false ∧
      t.raise = s.raise ++ [s.occurrence 0x95 (256 * x.cls + 4096 * bit x.mixed)] ∧
      t = { s with regs := t.regs, store := t.store, raise := t.raise, sfd := { s.sfd with window := none, line8 := true } } ∧
      s.regsBut t [Reg.SFD_CAP_CTRL, Reg.SFD_CAP_STATUS] := by
  have run := exec_sfdCaptureRecordEnd h range clean mode rfl
  have len := sfdRecord_length x (s.sfdStream x)
  generalize sfdRecord x (s.sfdStream x) = bs at *
  have bytes := s.storeBytes_putStore x.dest bs
  have out (a : Nat) := s.storeByte_putStore_out x.dest a bs
  rw [len] at bytes out
  have frame : ∃ y, s.putStore x.dest bs = { s with store := y } := ⟨_, rfl⟩
  obtain ⟨y, frame⟩ := frame
  generalize s.putStore x.dest bs = v at *
  have raise : v.raise ++ [v.occurrence 0x95 (256 * x.cls + 4096 * bit x.mixed)] = s.raise ++ [s.occurrence 0x95 (256 * x.cls + 4096 * bit x.mixed)] := by
    rw [frame]
    rfl
  rw [State.sfdCapEnd_eq (room.congr (by rw [frame]) (by rw [frame])), raise] at run
  generalize s.raise ++ [s.occurrence 0x95 (256 * x.cls + 4096 * bit x.mixed)] = e at *
  obtain ⟨busy, err, go, shape, regs⟩ := v.captureDone_shows e
  generalize v.captureDone e = t at *
  have store : t.store = v.store := by rw [shape]
  refine ⟨t, run, ?_, fun a ha => ?_, busy, err, go, by rw [shape], ?_, State.regsBut.trans (State.regsBut.of_regs (by rw [frame]) _) regs⟩
  · rw [State.storeBytes, store]
    exact bytes
  · rw [State.storeByte, store]
    exact out a ha
  · rw [shape, frame]

/-! ### LOP3 (R316) -/

theorem lop3_overrun (h : s.passes q Reg.SFD_LOP3_CTRL true) (w : Word) (busy : s.lopBusy 3 = true) :
    ∃ t, exec (.lop3SfdTraining q w) s = .next t ∧ t.on Fld.SFD_LOP3_CTRL_OVERRUN = true ∧ s.onlyRegs t [Reg.SFD_LOP3_CTRL] := by
  have run := exec_access (c := .lop3SfdTraining q w) (f := fun s => s.lop3Write (Fld.SFD_LOP3_CTRL_GO.put 1 w)) h rfl
  have go : Fld.SFD_LOP3_CTRL_GO.of (Fld.SFD_LOP3_CTRL_GO.put 1 w) = 1 := Fld.of_put_same _ _ _ (by simp) (by simp)
  rw [State.lop3Write] at run
  simp only [go, busy, Nat.reduceBEq, Bool.and_self, if_true] at run
  exact ⟨_, run, State.on_setFld_one _ _ (by simp) (by simp), rfl, (State.regsBut.refl s _).setFld _ (by simp)⟩

/-- LOP3 has begun a run of `n` units. -/
def State.lop3Begun (s : State) (n : Nat) : State := (s.lopStart 3 lopRunning n).setFld Fld.SFD_LOP3_CTRL_GO 1

theorem State.lop3Begun_shows (s : State) (few : n ≤ 4095) : s.beside (s.lop3Begun n) ∧ (s.lop3Begun n).lopState 3 = lopRunning ∧
    (s.lop3Begun n).fld (Fld.LOP_STATn_UNITS_DONE 3) = 0 ∧ (s.lop3Begun n).fld (Fld.LOP_STATn_UNITS_TOTAL 3) = n ∧
    s.regsBut (s.lop3Begun n) [Reg.SFD_LOP3_CTRL, Reg.LOP_STATn 3] := by
  have field (f : Fld) (hf : f.addr = Reg.LOP_STATn 3) : (s.lop3Begun n).fld f = (s.lopStart 3 lopRunning n).fld f :=
    State.fld_setFld_ne _ _ _ _ (by simp) (.inl (by rw [hf]; decide))
  exact ⟨State.beside.setFld ⟨_, State.lopStart_beside _ _ _ _⟩ _ _, (field _ rfl).trans (State.lopState_lopStart _ _ _ _ (by decide)),
    (field _ rfl).trans (State.fld_lopStart_done s 3 lopRunning n), (field _ rfl).trans (State.fld_lopStart_total s 3 lopRunning n few),
    (State.regsBut.lopStart _ _ _ _ (.refl s _) (by simp)).setFld _ (by simp)⟩

theorem lop3_started (h : s.passes q Reg.SFD_LOP3_CTRL true) (w : Word) {us : List Nat}
    (hus : us = (List.range 16).filter (bitOf (Fld.SFD_LOP3_CTRL_CLASSES.of w))) (ha : a = s.fld Fld.SFD_LOP3_DEST_ADDR)
    (idle : s.lopBusy 3 = false) (some' : us ≠ []) (plan : s.planOn = true) (en : s.on Fld.SFD_CTRL_EN = true) (dsp : s.domOn pdDsp = true)
    (lo : storeBase ≤ a) (hi : a + 16 * us.length ≤ storeEnd) :
    ∃ t, exec (.lop3SfdTraining q w) s = .next t ∧ t.lopState 3 = lopRunning ∧ t.fld (Fld.LOP_STATn_UNITS_DONE 3) = 0 ∧
      t.fld (Fld.LOP_STATn_UNITS_TOTAL 3) = us.length ∧ t.lopRes 3 = BitVec.ofNat 32 a ∧
      t = { s with regs := t.regs, sfd := { s.sfd with lop3 := some ⟨us, 0, a⟩ } } ∧
      s.regsBut t [Reg.SFD_LOP3_CTRL, Reg.LOP_STATn 3] := by
  have run := exec_access (c := .lop3SfdTraining q w) (f := fun s => s.lop3Write (Fld.SFD_LOP3_CTRL_GO.put 1 w)) h rfl
  have go : Fld.SFD_LOP3_CTRL_GO.of (Fld.SFD_LOP3_CTRL_GO.put 1 w) = 1 := Fld.of_put_same _ _ _ (by simp) (by simp)
  have few : us.length ≤ 4095 := by
    have := List.length_filter_le (bitOf (Fld.SFD_LOP3_CTRL_CLASSES.of w)) (List.range 16)
    rw [← hus, List.length_range] at this
    omega
  have classes : (s.plainWrite Reg.SFD_LOP3_CTRL (Fld.SFD_LOP3_CTRL_ABORT.put 0 (Fld.SFD_LOP3_CTRL_GO.put 0 (Fld.SFD_LOP3_CTRL_GO.put 1 w)))).fld
      Fld.SFD_LOP3_CTRL_CLASSES = Fld.SFD_LOP3_CTRL_CLASSES.of w := by
    refine (s.fld_plainWrite_plain (f := Fld.SFD_LOP3_CTRL_CLASSES) (by decide) _).trans ?_
    rw [Fld.of_put_ne _ _ _ _ (by simp) (by simp), Fld.of_put_ne _ _ _ _ (by simp) (by simp), Fld.of_put_ne _ _ _ _ (by simp) (by simp)]
  have regs : s.regsBut (s.plainWrite Reg.SFD_LOP3_CTRL (Fld.SFD_LOP3_CTRL_ABORT.put 0 (Fld.SFD_LOP3_CTRL_GO.put 0 (Fld.SFD_LOP3_CTRL_GO.put 1 w))))
      [Reg.SFD_LOP3_CTRL, Reg.LOP_STATn 3] := (State.regsBut.refl s _).plainWrite _ (by simp)
  have side : s.beside (s.plainWrite Reg.SFD_LOP3_CTRL (Fld.SFD_LOP3_CTRL_ABORT.put 0 (Fld.SFD_LOP3_CTRL_GO.put 0 (Fld.SFD_LOP3_CTRL_GO.put 1 w)))) := ⟨_, rfl⟩
  have busy : (s.plainWrite Reg.SFD_LOP3_CTRL (Fld.SFD_LOP3_CTRL_ABORT.put 0 (Fld.SFD_LOP3_CTRL_GO.put 0 (Fld.SFD_LOP3_CTRL_GO.put 1 w)))).lopBusy 3 = false :=
    (lopBusy_of_fld (State.fld_wr_ne _ _ _ _ (by decide))).trans idle
  rw [State.lop3Write] at run
  simp only [go, idle, Nat.reduceBEq, Bool.and_false, Bool.false_eq_true, if_false, if_true] at run
  generalize s.plainWrite Reg.SFD_LOP3_CTRL (Fld.SFD_LOP3_CTRL_ABORT.put 0 (Fld.SFD_LOP3_CTRL_GO.put 0 (Fld.SFD_LOP3_CTRL_GO.put 1 w))) = v at *
  have units : (List.range 16).filter (fun c => bitOf (v.fld Fld.SFD_LOP3_CTRL_CLASSES) c) = us := by rw [hus, classes]
  have dest : v.fld Fld.SFD_LOP3_DEST_ADDR = a := (regs.fld _ (by decide)).trans ha.symm
  simp only [busy, Bool.false_eq_true, and_false, if_false, units, dest] at run
  obtain ⟨away, state, done, total, begun⟩ := v.lop3Begun_shows few
  replace run : exec (.lop3SfdTraining q w) s = .next (if us = [] ∨ !(v.lop3Begun us.length).planOn ∨ !(v.lop3Begun us.length).on Fld.SFD_CTRL_EN then
      (v.lop3Begun us.length).lop3End lopFailed 1 else if !(v.lop3Begun us.length).domOn pdDsp then (v.lop3Begun us.length).lop3End lopFailed 2
      else if a < storeBase ∨ storeEnd < a + 16 * us.length then (v.lop3Begun us.length).lop3End lopFailed 3
      else { v.lop3Begun us.length with sfd := { (v.lop3Begun us.length).sfd with lop3 := some ⟨us, 0, a⟩ } }) := run
  generalize v.lop3Begun us.length = x at *
  have all := regs.trans begun
  have own := (side.trans away).eq
  have on : x.domOn pdDsp = true := by rw [own]; exact dsp
  have planned : x.planOn = true := by rw [own]; exact plan
  have enabled : x.on Fld.SFD_CTRL_EN = true := (congrArg (fun x : Nat => decide (x ≠ 0)) (all.fld Fld.SFD_CTRL_EN (by decide))).trans en
  rw [if_neg (by simp [planned, enabled, some']), if_neg (by simp [on]), if_neg (by omega)] at run
  refine ⟨_, run, state, done, total, ?_, by rw [own], all.congr rfl⟩
  show x.rd Reg.SFD_LOP3_DEST = _
  rw [all _ (by decide), ha]
  exact (ofNat_fld_word s Fld.SFD_LOP3_DEST_ADDR rfl rfl).symm

/-- LOP3 has ended in `st` with `err`; `e` is raised. -/
def State.lop3Ended (s : State) (st err : Nat) (e : List EventRec) : State :=
  { (((((s.setFld Fld.SFD_LOP3_CTRL_GO 0).setFld Fld.SFD_LOP3_CTRL_ABORT 0).setFld (Fld.LOP_STATn_STATE 3) st).setFld (Fld.LOP_STATn_ERR 3) err)) with
    raise := e, sfd := { s.sfd with lop3 := none } }

theorem State.lop3End_eq (room : s.raiseRoom 1) (st err : Nat) :
    s.lop3End st err = s.lop3Ended st err (s.raise ++ [s.occurrence 0x06 (3 + 16 * st + 256 * err)]) := by
  have ended : s.lop3End st err = ({ ((s.setFld Fld.SFD_LOP3_CTRL_GO 0).setFld Fld.SFD_LOP3_CTRL_ABORT 0) with
    sfd := { s.sfd with lop3 := none } } : State).lopEnd 3 st err := rfl
  have side : s.beside ((s.setFld Fld.SFD_LOP3_CTRL_GO 0).setFld Fld.SFD_LOP3_CTRL_ABORT 0) := ⟨_, rfl⟩
  rw [ended, State.lop3Ended]
  generalize (s.setFld Fld.SFD_LOP3_CTRL_GO 0).setFld Fld.SFD_LOP3_CTRL_ABORT 0 = u at *
  obtain ⟨x, rfl⟩ := side
  rw [State.lopEnd_room (s := { s with regs := x, sfd := { s.sfd with lop3 := none } }) (room.congr rfl rfl) (by decide)]
  rfl

theorem State.lop3Ended_shows (s : State) {st : Nat} (hs : st < 8) (err : Nat) (e : List EventRec) : (s.lop3Ended st err e).lopState 3 = st ∧
    (s.lop3Ended st err e).fld (Fld.LOP_STATn_UNITS_DONE 3) = s.fld (Fld.LOP_STATn_UNITS_DONE 3) ∧
    s.lop3Ended st err e = { s with regs := (s.lop3Ended st err e).regs, raise := e, sfd := { s.sfd with lop3 := none } } ∧
    s.regsBut (s.lop3Ended st err e) [Reg.SFD_LOP3_CTRL, Reg.LOP_STATn 3] := by
  have state : ((((s.setFld Fld.SFD_LOP3_CTRL_GO 0).setFld Fld.SFD_LOP3_CTRL_ABORT 0).setFld (Fld.LOP_STATn_STATE 3) st).setFld (Fld.LOP_STATn_ERR 3) err).fld
      (Fld.LOP_STATn_STATE 3) = st := (State.fld_setFld_ne _ _ _ _ (by decide) (by decide)).trans (State.fld_setFld_same _ _ _ (by simp) hs)
  have done : ((((s.setFld Fld.SFD_LOP3_CTRL_GO 0).setFld Fld.SFD_LOP3_CTRL_ABORT 0).setFld (Fld.LOP_STATn_STATE 3) st).setFld (Fld.LOP_STATn_ERR 3) err).fld
      (Fld.LOP_STATn_UNITS_DONE 3) = s.fld (Fld.LOP_STATn_UNITS_DONE 3) := by
    rw [State.fld_setFld_ne _ _ _ _ (by decide) (by decide), State.fld_setFld_ne _ _ _ _ (by decide) (by decide), State.fld_setFld_ne _ _ _ _ (by decide) (by decide),
      State.fld_setFld_ne _ _ _ _ (by decide) (by decide)]
  have regs : s.regsBut ((((s.setFld Fld.SFD_LOP3_CTRL_GO 0).setFld Fld.SFD_LOP3_CTRL_ABORT 0).setFld (Fld.LOP_STATn_STATE 3) st).setFld (Fld.LOP_STATn_ERR 3) err)
      [Reg.SFD_LOP3_CTRL, Reg.LOP_STATn 3] := ((((State.regsBut.refl s _).setFld _ (by simp)).setFld _ (by simp)).setFld _ (by simp)).setFld _ (by simp)
  exact ⟨state, done, rfl, regs.congr rfl⟩

theorem lop3_aborted (h : s.passes q Reg.SFD_LOP3_CTRL true) (w : Word) (busy : s.lopBusy 3 = true) (room : s.raiseRoom 1) :
    ∃ t, exec (.lop3Abort q w) s = .next t ∧ t.lopState 3 = lopAborted ∧
      t.raise = s.raise ++ [s.occurrence 0x06 (3 + 16 * lopAborted + 256 * 4)] ∧
      t = { s with regs := t.regs, raise := t.raise, sfd := { s.sfd with lop3 := none } } ∧
      s.regsBut t [Reg.SFD_LOP3_CTRL, Reg.LOP_STATn 3] := by
  have run := exec_access (c := .lop3Abort q w) (f := fun s => s.lop3Write (Fld.SFD_LOP3_CTRL_ABORT.put 1 (Fld.SFD_LOP3_CTRL_GO.put 0 w))) h rfl
  have go : Fld.SFD_LOP3_CTRL_GO.of (Fld.SFD_LOP3_CTRL_ABORT.put 1 (Fld.SFD_LOP3_CTRL_GO.put 0 w)) = 0 := by
    rw [Fld.of_put_ne _ _ _ _ (by simp) (by simp)]
    exact Fld.of_put_same _ _ _ (by simp) (by simp)
  have abort : Fld.SFD_LOP3_CTRL_ABORT.of (Fld.SFD_LOP3_CTRL_ABORT.put 1 (Fld.SFD_LOP3_CTRL_GO.put 0 w)) = 1 := Fld.of_put_same _ _ _ (by simp) (by simp)
  generalize Fld.SFD_LOP3_CTRL_ABORT.put 1 (Fld.SFD_LOP3_CTRL_GO.put 0 w) = d at *
  have regs : s.regsBut (s.plainWrite Reg.SFD_LOP3_CTRL (Fld.SFD_LOP3_CTRL_ABORT.put 0 (Fld.SFD_LOP3_CTRL_GO.put 0 d))) [Reg.SFD_LOP3_CTRL, Reg.LOP_STATn 3] :=
    (State.regsBut.refl s _).plainWrite _ (by simp)
  have same : (s.plainWrite Reg.SFD_LOP3_CTRL (Fld.SFD_LOP3_CTRL_ABORT.put 0 (Fld.SFD_LOP3_CTRL_GO.put 0 d))).lopBusy 3 = true :=
    (lopBusy_of_fld (State.fld_wr_ne _ _ _ _ (by decide))).trans busy
  have side : s.beside (s.plainWrite Reg.SFD_LOP3_CTRL (Fld.SFD_LOP3_CTRL_ABORT.put 0 (Fld.SFD_LOP3_CTRL_GO.put 0 d))) := ⟨_, rfl⟩
  rw [State.lop3Write] at run
  simp only [go, Nat.reduceBEq, Bool.false_and, Bool.false_eq_true, if_false] at run
  generalize s.plainWrite Reg.SFD_LOP3_CTRL (Fld.SFD_LOP3_CTRL_ABORT.put 0 (Fld.SFD_LOP3_CTRL_GO.put 0 d)) = v at *
  have room' : v.raiseRoom 1 := room.congr (by rw [side.eq]) (by rw [side.eq])
  have raise : v.raise ++ [v.occurrence 0x06 (3 + 16 * lopAborted + 256 * 4)] = s.raise ++ [s.occurrence 0x06 (3 + 16 * lopAborted + 256 * 4)] := by
    rw [side.eq]
    rfl
  rw [if_pos ⟨abort, same⟩, State.lop3End_eq room', raise] at run
  generalize s.raise ++ [s.occurrence 0x06 (3 + 16 * lopAborted + 256 * 4)] = e at *
  obtain ⟨state, -, shape, own⟩ := v.lop3Ended_shows (st := lopAborted) (by decide) 4 e
  generalize v.lop3Ended lopAborted 4 e = t at *
  refine ⟨t, run, state, by rw [shape], ?_, regs.trans own⟩
  rw [shape, side.eq]

/-- A unit's record. -/
def trainRecord (c result caps before after air : Nat) : List Byte :=
  leBytes 1 c ++ leBytes 1 result ++ leBytes 1 caps ++ leBytes 1 0 ++ leBytes 2 before ++ leBytes 2 after ++ leBytes 4 air ++ leBytes 4 0

theorem trainRecord_length (c result caps before after air : Nat) : (trainRecord c result caps before after air).length = 16 := by
  unfold trainRecord
  simp only [List.length_append, leBytes_length]

/-- A record of LOP3 is in the store and its unit counted. -/
def State.trainWritten (s : State) (p done : Nat) (bs : List Byte) : State := (s.putStore p bs).setFld (Fld.LOP_STATn_UNITS_DONE 3) done

theorem State.trainWritten_shows (s : State) (p : Nat) {done : Nat} (hd : done < 4096) (bs : List Byte) :
    (s.trainWritten p done bs).storeBytes p bs.length = bs ∧
    (∀ b, b < p ∨ p + bs.length ≤ b → (s.trainWritten p done bs).storeByte b = s.storeByte b) ∧
    (s.trainWritten p done bs).fld (Fld.LOP_STATn_UNITS_DONE 3) = done ∧
    s.trainWritten p done bs = { s with regs := (s.trainWritten p done bs).regs, store := (s.trainWritten p done bs).store } ∧
    s.regsBut (s.trainWritten p done bs) [Reg.SFD_LOP3_CTRL, Reg.LOP_STATn 3] :=
  ⟨s.storeBytes_putStore p bs, fun b hb => s.storeByte_putStore_out p b bs hb, State.fld_setFld_same _ _ _ (by decide) hd, rfl,
    (State.regsBut.of_regs rfl _).setFld _ (by simp)⟩

/-- LOP3 goes on to its further classes. -/
def State.trainLeft (s : State) (x : Option UnitRun) : State := { s with sfd := { s.sfd with lop3 := x } }

theorem State.lop3Unit_eq {cs : List Nat} (h : s.sfd.lop3 = some ⟨k :: cs, n, a⟩) (clean : s.ecc = []) (mode : s.fld Fld.CST_ECC_INJ_MODE = 0)
    (result caps before after : Nat) :
    s.lop3Unit result caps before after =
      if cs = [] then (s.trainWritten (a + 16 * n) (n + 1) (trainRecord k result caps before after s.air)).lop3End lopDone 0
      else (s.trainWritten (a + 16 * n) (n + 1) (trainRecord k result caps before after s.air)).trainLeft (some ⟨cs, n + 1, a⟩) := by
  rw [State.lop3Unit, h]
  simp only [State.storePut_clean clean mode]
  rfl

theorem lop3UnitEnds (r : Fin 3) (i : Byte) (x y : BitVec 16) {cs : List Nat} (h : s.sfd.lop3 = some ⟨k :: cs, n, a⟩) (few : n < 4095)
    (clean : s.ecc = []) (mode : s.fld Fld.CST_ECC_INJ_MODE = 0) (room : s.raiseRoom 1) :
    ∃ t, exec (.lop3UnitEnd r i x y) s = .next t ∧
      t.storeBytes (a + 16 * n) 16 = trainRecord k (trainResult r)
        (if r = 1 then min (max 1 (s.fld Fld.SFD_LOP3_CTRL_ITER) - 1) i.toNat else max 1 (s.fld Fld.SFD_LOP3_CTRL_ITER)) x.toNat y.toNat s.air ∧
      (∀ b, b < a + 16 * n ∨ a + 16 * n + 16 ≤ b → t.storeByte b = s.storeByte b) ∧ t.fld (Fld.LOP_STATn_UNITS_DONE 3) = n + 1 ∧
      (cs ≠ [] → t.sfd.lop3 = some ⟨cs, n + 1, a⟩ ∧ t.raise = s.raise) ∧
      (cs = [] → t.sfd.lop3 = none ∧ t.lopState 3 = lopDone ∧ t.raise = s.raise ++ [s.occurrence 0x06 (3 + 16 * lopDone)]) ∧
      t = { s with regs := t.regs, store := t.store, raise := t.raise, sfd := { s.sfd with lop3 := t.sfd.lop3 } } ∧
      s.regsBut t [Reg.SFD_LOP3_CTRL, Reg.LOP_STATn 3] := by
  have run : exec (.lop3UnitEnd r i x y) s = .next (s.lop3Unit (trainResult r)
      (if r = 1 then min (max 1 (s.fld Fld.SFD_LOP3_CTRL_ITER) - 1) i.toNat else max 1 (s.fld Fld.SFD_LOP3_CTRL_ITER)) x.toNat y.toNat) := rfl
  rw [State.lop3Unit_eq h clean mode] at run
  generalize (if r = 1 then min (max 1 (s.fld Fld.SFD_LOP3_CTRL_ITER) - 1) i.toNat else max 1 (s.fld Fld.SFD_LOP3_CTRL_ITER)) = caps at *
  have len := trainRecord_length k (trainResult r) caps x.toNat y.toNat s.air
  generalize trainRecord k (trainResult r) caps x.toNat y.toNat s.air = bs at *
  obtain ⟨bytes, out, done, shape, regs⟩ := s.trainWritten_shows (a + 16 * n) (show n + 1 < 4096 by omega) bs
  rw [len] at bytes out
  generalize s.trainWritten (a + 16 * n) (n + 1) bs = v at *
  by_cases last : cs = []
  · have room' : v.raiseRoom 1 := room.congr (by rw [shape]) (by rw [shape])
    have raise : v.raise ++ [v.occurrence 0x06 (3 + 16 * lopDone + 256 * 0)] = s.raise ++ [s.occurrence 0x06 (3 + 16 * lopDone)] := by
      rw [shape]
      rfl
    rw [if_pos last, State.lop3End_eq room', raise] at run
    generalize s.raise ++ [s.occurrence 0x06 (3 + 16 * lopDone)] = e at *
    obtain ⟨state, done', shape', own⟩ := v.lop3Ended_shows (st := lopDone) (by decide) 0 e
    generalize v.lop3Ended lopDone 0 e = t at *
    have store : t.store = v.store := by rw [shape']
    refine ⟨t, run, ?_, fun b hb => ?_, done'.trans done, fun e => absurd last e, fun _ => ⟨by rw [shape'], state, by rw [shape']⟩, ?_, regs.trans own⟩
    · rw [State.storeBytes, store]
      exact bytes
    · rw [State.storeByte, store]
      exact out b hb
    · rw [shape', shape]
  · rw [if_neg last] at run
    refine ⟨_, run, bytes, out, done, fun _ => ⟨rfl, ?_⟩, fun e => absurd e last, ?_, regs.congr rfl⟩
    · show v.raise = s.raise
      rw [shape]
    · rw [State.trainLeft, shape]

/-! ### Demoted groups (R317) -/

/-- A written 1 clears the field's bits, a written 0 leaves them, and no other field of its register's table stands there. -/
def Fld.clears (f : Fld) : Bool :=
  match rowAt f.addr with
  | some (r, _) =>
    r.fields.all (fun g => decide (g.hi < 32) && ((g.stands f && g.access == .w1c) || g.apart f)) && r.fields.any (fun g => g.stands f)
  | none => false

theorem getField_fieldRow_write_clears {g : FieldRow} {f : Fld} (d w : Word) (hi : g.hi < 32) (h : g.stands f = true) (ha : g.access = .w1c)
    (ones : ∀ i, f.lo ≤ i → i ≤ f.hi → d.getLsbD i = true) : getField f.hi f.lo (g.write d w) = 0 := by
  simp only [FieldRow.stands, Bool.and_eq_true, beq_iff_eq] at h
  apply Nat.eq_of_testBit_eq
  intro i
  rw [testBit_getField, Nat.zero_testBit]
  by_cases c : i < f.hi + 1 - f.lo
  · have one := ones (f.lo + i) (by omega) (by omega)
    have hm : (fieldMask g.hi g.lo).getLsbD (f.lo + i) = true := by
      rw [getLsbD_fieldMask _ _ _ hi]
      simp [show g.lo ≤ f.lo + i by omega, show f.lo + i ≤ g.hi by omega]
    simp [FieldRow.write, ha, FieldRow.mask, hm, one]
  · simp [c]

theorem getField_foldl_clears (f : Fld) (d : Word) (ones : ∀ i, f.lo ≤ i → i ≤ f.hi → d.getLsbD i = true) (gs : List FieldRow)
    (h : ∀ g ∈ gs, g.hi < 32 ∧ (g.stands f = true ∧ g.access = .w1c ∨ g.apart f = true)) (w : Word)
    (hw : gs.any (fun g => g.stands f) = true ∨ getField f.hi f.lo w = 0) :
    getField f.hi f.lo (gs.foldl (fun w g => g.write d w) w) = 0 := by
  induction gs generalizing w with
  | nil => exact hw.resolve_left (by simp)
  | cons g gs ih =>
    obtain ⟨hi, hs⟩ := h g List.mem_cons_self
    rw [List.foldl_cons]
    refine ih (fun x hx => h x (List.mem_cons_of_mem g hx)) _ ?_
    rcases hs with ⟨hst, ha⟩ | hap
    · exact .inr (getField_fieldRow_write_clears d w hi hst ha ones)
    · rw [getField_fieldRow_write_apart d w hi hap]
      rcases hw with hw | hw
      · rw [List.any_cons, Bool.or_eq_true] at hw
        rcases hw with hst | hw
        · refine .inr (Nat.eq_of_testBit_eq fun i => ?_)
          simp only [FieldRow.stands, FieldRow.apart, Bool.and_eq_true, beq_iff_eq, Bool.or_eq_true, decide_eq_true_eq] at hst hap
          rw [testBit_getField, Nat.zero_testBit]
          simp [show ¬ i < f.hi + 1 - f.lo by omega]
        · exact .inl hw
      · exact .inr hw

theorem Fld.of_writeWord_clears {f : Fld} (bit' : f.hi = f.lo) (h : f.clears = true) {d : Word} (hd : f.of d = 1) (w : Word) :
    f.of (writeWord f.addr d w) = 0 := by
  rcases hr : rowAt f.addr with _ | ⟨r, i⟩
  · simp only [Fld.clears, hr, Bool.false_eq_true] at h
  · simp only [Fld.clears, hr, Bool.and_eq_true, List.all_eq_true, Bool.or_eq_true, decide_eq_true_eq, beq_iff_eq] at h
    simp only [writeWord, hr]
    refine getField_foldl_clears f d (fun j lo hi => ?_) r.fields h.1 w (.inl h.2)
    have one : (f.of d).testBit 0 = true := by rw [hd]; rfl
    rw [Fld.of, testBit_getField] at one
    obtain rfl : j = f.lo + 0 := by omega
    simp only [Bool.and_eq_true] at one
    exact one.2

/-- After a write of 1 by software a bit that is cleared so reads 0. -/
theorem State.on_plainWrite_clears (s : State) (f : Fld) {d : Word} (bit' : f.hi = f.lo) (hd : f.of d = 1) (h : f.clears = true) :
    (s.plainWrite f.addr d).on f = false := by
  rw [State.on_eq_false, State.plainWrite, State.fld_wr_same]
  exact Fld.of_writeWord_clears bit' h hd _

theorem demotedFields : ∀ g : Fin 8, (Fld.SFD_PGg_STATUS_DEMOTED g.val).clears = true ∧ (Fld.SFD_PGg_STATUS_LIMITS g.val).held = true := by decide

theorem demotedCleared (gr : Fin 8) (w : Word) (h : s.passes q (Reg.SFD_PGg_STATUS gr.val) true) :
    ∃ t, exec (.demotedClear gr q w) s = .next t ∧ t.on (Fld.SFD_PGg_STATUS_DEMOTED gr.val) = false ∧
      t.fld (Fld.SFD_PGg_STATUS_LIMITS gr.val) = s.fld (Fld.SFD_PGg_STATUS_LIMITS gr.val) ∧ s.onlyRegs t [Reg.SFD_PGg_STATUS gr.val] := by
  obtain ⟨clears, held⟩ := demotedFields gr
  exact ⟨_, exec_access (f := fun s => s.plainWrite (Reg.SFD_PGg_STATUS gr.val) ((Fld.SFD_PGg_STATUS_DEMOTED gr.val).put 1 w)) h rfl,
    State.on_plainWrite_clears s (Fld.SFD_PGg_STATUS_DEMOTED gr.val) rfl (Fld.of_put_same _ _ _ (by simp) (by simp)) clears,
    State.fld_plainWrite_held s held _, rfl, (State.regsBut.refl s _).plainWrite _ (by simp)⟩

end Sys2Proof.Machine

/-!
PROOFS. The full-duplex monitor (O49).
-/

namespace Sys2Proof.Machine

variable {s t u v : State} {as : List Nat} {a g n m k p : Nat} {q : Requester} {lv : Nat → SbLevels}

/-! ### The levels of an SB symbol (R317) -/

theorem levelOf_le (x : Int → Cpx) (lo hi : Int) : levelOf x lo hi ≤ 511 := dbCode_le _ _

theorem State.sbLevels_le (s : State) (p : Nat) : (s.sbLevels p).pre ≤ 511 ∧ (s.sbLevels p).post ≤ 511 := by
  constructor
  · show (if s.adcSilent p then 511 else levelOf _ _ _) ≤ 511
    split_ifs
    · exact Nat.le_refl _
    · exact levelOf_le _ _ _
  · show (if s.adcSilent p && s.refSilent then 511 else levelOf _ _ _) ≤ 511
    split_ifs
    · exact Nat.le_refl _
    · exact levelOf_le _ _ _

/-- A path shows its levels. -/
def State.showPath (s : State) (p : Nat) (x : SbLevels) : State :=
  ((s.setFld (Fld.SFD_PATHp_MON_PRE p) x.pre).setFld (Fld.SFD_PATHp_MON_POST p) x.post).countWrap (Fld.SFD_PATHp_MON_SEQ p) 1

theorem State.showPath_shows (s : State) (p : Nat) {x : SbLevels} (pre : x.pre ≤ 511) (post : x.post ≤ 511) :
    (s.showPath p x).fld (Fld.SFD_PATHp_MON_PRE p) = x.pre ∧ (s.showPath p x).fld (Fld.SFD_PATHp_MON_POST p) = x.post ∧
    (s.showPath p x).fld (Fld.SFD_PATHp_MON_SEQ p) = (s.fld (Fld.SFD_PATHp_MON_SEQ p) + 1) % 2 ^ (Fld.SFD_PATHp_MON_SEQ p).width := by
  unfold State.showPath State.countWrap
  refine ⟨?_, ?_, ?_⟩
  · rw [State.fld_setFld_ne _ _ _ _ (by simp) (by simp), State.fld_setFld_ne _ _ _ _ (by simp) (by simp)]
    exact State.fld_setFld_same _ _ _ (by simp) (Nat.lt_succ_of_le pre)
  · rw [State.fld_setFld_ne _ _ _ _ (by simp) (by simp)]
    exact State.fld_setFld_same _ _ _ (by simp) (Nat.lt_succ_of_le post)
  · rw [State.fld_setFld_mod _ _ _ (by simp), State.fld_setFld_ne _ _ _ _ (by simp) (by simp), State.fld_setFld_ne _ _ _ _ (by simp) (by simp)]
    rfl

/-- The registers in which the paths of a group show their levels. -/
def monRegs (g : Nat) : List Nat := (List.range 8).map (fun i => Reg.SFD_PATHp_MON (8 * g + i))

theorem monRegs_iff : a ∈ monRegs g ↔ ∃ i < 8, Reg.SFD_PATHp_MON (8 * g + i) = a := by
  simp only [monRegs, List.mem_map, List.mem_range]

/-- The paths of a group show their levels. -/
def State.showGroup (s : State) (g : Nat) (lv : Nat → SbLevels) : State := s.forEach 8 (fun s i => s.showPath (8 * g + i) (lv (8 * g + i)))

theorem State.showGroup_shows (s : State) (g : Nat) (pre : ∀ p, (lv p).pre ≤ 511) (post : ∀ p, (lv p).post ≤ 511) :
    s.beside (s.showGroup g lv) ∧ s.regsBut (s.showGroup g lv) (monRegs g) ∧
    ∀ i < 8, (s.showGroup g lv).fld (Fld.SFD_PATHp_MON_PRE (8 * g + i)) = (lv (8 * g + i)).pre ∧
      (s.showGroup g lv).fld (Fld.SFD_PATHp_MON_POST (8 * g + i)) = (lv (8 * g + i)).post ∧
      (s.showGroup g lv).fld (Fld.SFD_PATHp_MON_SEQ (8 * g + i)) =
        (s.fld (Fld.SFD_PATHp_MON_SEQ (8 * g + i)) + 1) % 2 ^ (Fld.SFD_PATHp_MON_SEQ (8 * g + i)).width := by
  have all := State.forEach_induct (s := s) (n := 8) (f := fun s i => s.showPath (8 * g + i) (lv (8 * g + i))) (fun k v => s.beside v ∧ s.regsBut v (monRegs g) ∧
    (∀ i, k ≤ i → i < 8 → v.rd (Reg.SFD_PATHp_MON (8 * g + i)) = s.rd (Reg.SFD_PATHp_MON (8 * g + i))) ∧
    ∀ i < k, v.fld (Fld.SFD_PATHp_MON_PRE (8 * g + i)) = (lv (8 * g + i)).pre ∧ v.fld (Fld.SFD_PATHp_MON_POST (8 * g + i)) = (lv (8 * g + i)).post ∧
      v.fld (Fld.SFD_PATHp_MON_SEQ (8 * g + i)) = (s.fld (Fld.SFD_PATHp_MON_SEQ (8 * g + i)) + 1) % 2 ^ (Fld.SFD_PATHp_MON_SEQ (8 * g + i)).width)
    ⟨.refl s, .refl s _, fun _ _ _ => rfl, fun i hi => absurd hi (Nat.not_lt_zero i)⟩ ?_
  · obtain ⟨side, regs, -, shown⟩ := all
    exact ⟨side, regs, shown⟩
  · rintro v k hk ⟨side, regs, later, shown⟩
    have own : v.regsBut (v.showPath (8 * g + k) (lv (8 * g + k))) [Reg.SFD_PATHp_MON (8 * g + k)] :=
      (((State.regsBut.refl v _).setFld _ (by simp)).setFld _ (by simp)).setFld _ (by simp)
    have mem : Reg.SFD_PATHp_MON (8 * g + k) ∈ monRegs g := monRegs_iff.mpr ⟨k, hk, rfl⟩
    have apart (i : Nat) (hi : i ≠ k) : Reg.SFD_PATHp_MON (8 * g + i) ∉ [Reg.SFD_PATHp_MON (8 * g + k)] := by
      rw [List.mem_singleton]
      simp only [Reg.SFD_PATHp_MON]
      omega
    refine ⟨side.trans ⟨_, rfl⟩, regs.trans (own.mono (by simpa using mem)), fun i hi hi' => ?_, fun i hi => ?_⟩
    · rw [own _ (apart i (by omega)), later i (by omega) hi']
    · rcases Nat.lt_succ_iff_lt_or_eq.mp hi with lt | rfl
      · have far := apart i (by omega)
        rw [own.fld _ far, own.fld _ far, own.fld _ far]
        exact shown i lt
      · obtain ⟨x, y, z⟩ := v.showPath_shows (8 * g + i) (pre _) (post _)
        exact ⟨x, y, z.trans (by rw [State.fld_congr (later i (Nat.le_refl i) hk)])⟩

/-! ### The monitor of a group (R317, R318) -/

/-- What the end of an SB symbol does for the group `g`. -/
def State.sbGroup (s : State) (g : Nat) (lv : Nat → SbLevels) : State := ((s.showGroup g lv).sbLimit g lv).sbResidual g lv

/-- What the end of a symbol does for each group whose symbol was SB. -/
def State.sbMonitor (s : State) (lv : Nat → SbLevels) : State :=
  s.forEach 8 (fun s g => if s.rf.dirs.getD g dirF = dirSb then s.sbGroup g lv else s)

theorem exec_sbSymbolEnd_quiet (s : State) : exec (.sbSymbolEnd [] none) s = .next (s.sbMonitor s.sbLevels) := by
  show execSbSymbolEnd [] none s = _
  simp only [execSbSymbolEnd, List.foldl_nil, Option.map_none, Option.getD_none, Option.isSome_none, Bool.false_eq_true, if_false, State.sbMonitor, State.sbGroup,
    State.showGroup, State.showPath, State.forEach]

/-- A residue failure of path `p`, `k` HK ticks into the symbol. -/
theorem exec_sbSymbolEnd_residue (s : State) (p : Fin 64) (k : Nat) : exec (.sbSymbolEnd [(p, k)] none) s =
    .next ((((s.stopCanceller [p.val] k).sbMonitor (s.stopCanceller [p.val] k).sbLevels).count (Fld.SFD_PATHp_COUNT_RESIDUE p.val) 1).event 0x96 p.val) := by
  show execSbSymbolEnd [(p, k)] none s = _
  simp only [execSbSymbolEnd, List.foldl_cons, List.foldl_nil, Option.map_none, Option.getD_none, Option.isSome_none, Bool.false_eq_true, if_false, State.sbMonitor,
    State.sbGroup, State.showGroup, State.showPath, State.forEach]

/-- What one number alone changes is as that number's turn leaves it, where its turn keeps `P`, under which the other turns do nothing. -/
theorem State.forEach_alone {f : State → Nat → State} (P : State → Prop) (hg : g < n) (skip : ∀ v k, P v → k ≠ g → f v k = v) (start : P s) (keeps : P (f s g)) :
    s.forEach n f = f s g := by
  have all := State.forEach_induct (s := s) (n := n) (f := f) (fun k v => v = if g < k then f s g else s) (if_neg (Nat.not_lt_zero g)).symm ?_
  · rwa [if_pos hg] at all
  · rintro v k hk rfl
    rcases Nat.lt_trichotomy g k with lt | rfl | gt
    · rw [if_pos lt, if_pos (by omega)]
      exact skip _ k keeps (by omega)
    · rw [if_neg (Nat.lt_irrefl g), if_pos (Nat.lt_succ_self g)]
    · rw [if_neg (by omega), if_neg (by omega)]
      exact skip _ k start (by omega)

theorem State.sbMonitor_alone (hg : g < 8) (dirs : s.rf.dirs = (List.range 8).map (fun k => if k = g then dirSb else dirF))
    (kept : (s.sbGroup g lv).rf.dirs = s.rf.dirs) : s.sbMonitor lv = s.sbGroup g lv := by
  have dir (k : Nat) (hk : k ≠ g) : ((List.range 8).map (fun k => if k = g then dirSb else dirF)).getD k dirF ≠ dirSb := by
    rw [List.getD_eq_getElem?_getD, List.getElem?_map]
    by_cases h : k < 8
    · rw [List.getElem?_range h]
      simp only [Option.map_some, Option.getD_some, if_neg hk]
      decide
    · rw [List.getElem?_eq_none (by rw [List.length_range]; omega), Option.map_none, Option.getD_none]
      decide
  have own : ((List.range 8).map (fun k => if k = g then dirSb else dirF)).getD g dirF = dirSb := by
    rw [List.getD_eq_getElem?_getD, List.getElem?_map, List.getElem?_range hg]
    simp only [Option.map_some, Option.getD_some, if_true]
  have turn : (if s.rf.dirs.getD g dirF = dirSb then s.sbGroup g lv else s) = s.sbGroup g lv := by rw [dirs, if_pos own]
  have all := State.forEach_alone (s := s) (f := fun s g => if s.rf.dirs.getD g dirF = dirSb then s.sbGroup g lv else s)
    (fun v => v.rf.dirs = s.rf.dirs) hg (fun v k hv hk => if_neg (by rw [hv, dirs]; exact dir k hk)) rfl (by rw [turn]; exact kept)
  exact all.trans turn

/-- The runs of symbols over the limit and those of high residuals are at `x` and `y`. -/
def State.runs (s : State) (x y : SMap Nat) : State := { s with sfd := { s.sfd with limitRun := x, resRun := y } }

theorem State.runs_fld (s : State) (x y : SMap Nat) (f : Fld) : (s.runs x y).fld f = s.fld f := State.fld_congr rfl

theorem State.runs_runs (s : State) (x y x' y' : SMap Nat) : (s.runs x y).runs x' y' = s.runs x' y' := rfl

/-- No residual of the group is high. -/
theorem State.sbResidual_low (low : ∀ p < 64, s.fld (Fld.SFD_PGg_RES_RES_MAX g) ≤ (lv p).post) (hg : g < 8) :
    s.sbResidual g lv = (s.runs s.sfd.limitRun (SMap.erase s.sfd.resRun g)).setFld (Fld.SFD_PGg_STATUS_RES_HIGH g) 0 := by
  rw [State.sbResidual, if_neg, State.runs]
  rw [Bool.not_eq_true, List.any_eq_false]
  intro p hp
  obtain ⟨i, hi, rfl⟩ := List.mem_map.mp hp
  have := low (8 * g + i) (by have := List.mem_range.mp hi; omega)
  simp only [decide_eq_true_eq, Nat.not_lt]
  exact this

/-- The paths of a group that exceed their limit. -/
def State.overPaths (s : State) (g : Nat) (lv : Nat → SbLevels) : List Nat := ((List.range 8).map (fun i => 8 * g + i)).filter (fun p => s.overLimit p (lv p))

theorem State.overPaths_congr (h : ∀ g, t.rd (Reg.SFD_PGg_LIMIT g) = s.rd (Reg.SFD_PGg_LIMIT g)) (g : Nat) (lv : Nat → SbLevels) : t.overPaths g lv = s.overPaths g lv := by
  have same (p : Nat) (x : SbLevels) : t.overLimit p x = s.overLimit p x := by rw [State.overLimit, State.fld_congr (h _), State.overLimit]
  simp only [State.overPaths, same]

theorem State.sbLimit_none (h : s.overPaths g lv = []) : s.sbLimit g lv = s.runs (SMap.erase s.sfd.limitRun g) s.sfd.resRun := by
  have : ((List.range 8).map (fun i => 8 * g + i)).filter (fun p => s.overLimit p (lv p)) = [] := h
  rw [State.sbLimit, this]
  rfl

/-- The registers of a group's monitor: its status and its paths' levels. -/
theorem limitRegs_apart (g : Nat) {h : Nat} (hh : h < 8) : Reg.SFD_PGg_LIMIT h ∉ monRegs g := by
  rw [monRegs_iff]
  rintro ⟨i, hi, e⟩
  simp only [Reg.SFD_PATHp_MON, Reg.SFD_PGg_LIMIT] at e
  omega

theorem State.showGroup_overPaths (s : State) (g h : Nat) (pre : ∀ p, (lv p).pre ≤ 511) (post : ∀ p, (lv p).post ≤ 511) (lw : Nat → SbLevels) (hh : h < 8) :
    (s.showGroup g lv).overPaths h lw = s.overPaths h lw := by
  obtain ⟨-, regs, -⟩ := s.showGroup_shows g pre post
  have same (p : Nat) (hp : p ∈ (List.range 8).map (fun i => 8 * h + i)) : (s.showGroup g lv).overLimit p (lw p) = s.overLimit p (lw p) := by
    obtain ⟨i, hi, rfl⟩ := List.mem_map.mp hp
    have := List.mem_range.mp hi
    rw [State.overLimit, regs.fld _ (limitRegs_apart g (show (8 * h + i) / 8 < 8 by omega)), State.overLimit]
  exact List.filter_congr same

theorem overPaths_nil (h : ∀ p < 64, s.overLimit p (lv p) = false) (hg : g < 8) : s.overPaths g lv = [] := by
  rw [State.overPaths, List.filter_eq_nil_iff]
  intro p hp
  obtain ⟨i, hi, rfl⟩ := List.mem_map.mp hp
  have := List.mem_range.mp hi
  rw [h _ (by omega)]
  exact Bool.false_ne_true

theorem overPaths_first (h : s.overLimit (8 * g) (lv (8 * g)) = true) (rest : ∀ i, 1 ≤ i → i < 8 → s.overLimit (8 * g + i) (lv (8 * g + i)) = false) :
    s.overPaths g lv = [8 * g] := by
  have range : List.range 8 = [0, 1, 2, 3, 4, 5, 6, 7] := rfl
  rw [State.overPaths, range]
  simp only [List.map_cons, List.map_nil, Nat.add_zero]
  simp only [List.filter_cons, List.filter_nil, h, rest 1 (by omega) (by omega), rest 2 (by omega) (by omega), rest 3 (by omega) (by omega),
    rest 4 (by omega) (by omega), rest 5 (by omega) (by omega), rest 6 (by omega) (by omega), rest 7 (by omega) (by omega), Bool.false_eq_true, if_false, if_true]

theorem resReg_apart (g : Nat) : Reg.SFD_PGg_RES g ∉ monRegs g := by
  rw [monRegs_iff]
  rintro ⟨i, hi, e⟩
  simp only [Reg.SFD_PATHp_MON, Reg.SFD_PGg_RES] at e
  omega

theorem statusReg_apart (g : Nat) : Reg.SFD_PGg_STATUS g ∉ monRegs g := by
  rw [monRegs_iff]
  rintro ⟨i, hi, e⟩
  simp only [Reg.SFD_PATHp_MON, Reg.SFD_PGg_STATUS] at e
  omega

theorem State.sbGroup_quiet (hg : g < 8) (pre : ∀ p, (lv p).pre ≤ 511) (post : ∀ p, (lv p).post ≤ 511) (none' : s.overPaths g lv = [])
    (low : ∀ p < 64, s.fld (Fld.SFD_PGg_RES_RES_MAX g) ≤ (lv p).post) :
    ∃ x y, s.sbGroup g lv = ((s.showGroup g lv).runs x y).setFld (Fld.SFD_PGg_STATUS_RES_HIGH g) 0 := by
  have hot := s.showGroup_overPaths g g pre post lv hg
  obtain ⟨-, regs, -⟩ := s.showGroup_shows g pre post
  unfold State.sbGroup
  generalize s.showGroup g lv = v at *
  rw [State.sbLimit_none (hot.trans none'), State.sbResidual_low (fun p hp => ?_) hg, State.runs_runs]
  · exact ⟨_, _, rfl⟩
  · have : v.fld (Fld.SFD_PGg_RES_RES_MAX g) = s.fld (Fld.SFD_PGg_RES_RES_MAX g) := regs.fld _ (resReg_apart g)
    rw [State.runs_fld, this]
    exact low p hp

theorem sbQuiet (hg : g < 8) (dirs : s.rf.dirs = (List.range 8).map (fun k => if k = g then dirSb else dirF)) (hlv : lv = s.sbLevels)
    (low : ∀ p < 64, s.fld (Fld.SFD_PGg_RES_RES_MAX g) ≤ (lv p).post) (hot : ∀ p < 64, s.overLimit p (lv p) = false) :
    ∃ t, exec (.sbSymbolEnd [] none) s = .next t ∧
      (∀ i < 8, t.fld (Fld.SFD_PATHp_MON_PRE (8 * g + i)) = (lv (8 * g + i)).pre ∧
        t.fld (Fld.SFD_PATHp_MON_POST (8 * g + i)) = (lv (8 * g + i)).post ∧
        t.fld (Fld.SFD_PATHp_MON_SEQ (8 * g + i)) = (s.fld (Fld.SFD_PATHp_MON_SEQ (8 * g + i)) + 1) %
          2 ^ (Fld.SFD_PATHp_MON_SEQ (8 * g + i)).width) ∧
      t.on (Fld.SFD_PGg_STATUS_RES_HIGH g) = false ∧ t.raise = s.raise ∧
      t = { s with regs := t.regs, sfd := { s.sfd with limitRun := t.sfd.limitRun, resRun := t.sfd.resRun } } ∧
      s.regsBut t (Reg.SFD_PGg_STATUS g :: monRegs g) := by
  have run := exec_sbSymbolEnd_quiet s
  rw [← hlv] at run
  have pre (p : Nat) : (lv p).pre ≤ 511 := hlv ▸ (s.sbLevels_le p).1
  have post (p : Nat) : (lv p).post ≤ 511 := hlv ▸ (s.sbLevels_le p).2
  obtain ⟨x, y, group⟩ := State.sbGroup_quiet hg pre post (overPaths_nil hot hg) low
  obtain ⟨side, regs, shown⟩ := s.showGroup_shows g pre post
  generalize s.showGroup g lv = v at *
  obtain ⟨r, rfl⟩ := side
  have kept : (s.sbGroup g lv).rf.dirs = s.rf.dirs := by rw [group]; rfl
  rw [State.sbMonitor_alone hg dirs kept, group] at run
  have off : Reg.SFD_PGg_STATUS g ∉ monRegs g := statusReg_apart g
  have other (i : Nat) (hi : i < 8) (f : Fld) (hf : f.addr = Reg.SFD_PATHp_MON (8 * g + i)) (w : State) : (w.setFld (Fld.SFD_PGg_STATUS_RES_HIGH g) 0).fld f = w.fld f :=
    State.fld_setFld_ne _ _ _ _ (by simp) (.inl fun e => off (monRegs_iff.mpr ⟨i, hi, hf.symm.trans e⟩))
  refine ⟨_, run, fun i hi => ?_, (State.on_eq_false _ _).mpr (State.fld_setFld_same _ _ _ (by simp) (by simp)), rfl, rfl,
    ((State.regsBut.congr (regs.mono fun _ h => List.mem_cons_of_mem _ h) rfl).setFld _ List.mem_cons_self)⟩
  obtain ⟨a, b, c⟩ := shown i hi
  exact ⟨(other i hi _ rfl _).trans a, (other i hi _ rfl _).trans b, (other i hi _ rfl _).trans c⟩

/-! ### A path hot its limit (R317) -/

/-- The newest logged symbol shows that the group was over its limit. -/
def State.limitLogged (s : State) (g : Nat) : State :=
  { s with rf := { s.rf with log := match s.rf.log with
    | l :: ls => { l with limit := setBitOf l.limit g true } :: ls
    | [] => [] } }

/-- The group's limit is counted, and that of path `p`. -/
def State.limitCounted (s : State) (g p : Nat) : State := ((s.limitLogged g).count (Fld.SFD_PGg_STATUS_LIMITS g) 1).count (Fld.SFD_PATHp_COUNT_LIMIT p) 1

theorem State.limitCounted_shows (s : State) (g p : Nat) : (s.limitCounted g p).fld (Fld.SFD_PGg_STATUS_LIMITS g) =
      min (2 ^ (Fld.SFD_PGg_STATUS_LIMITS g).width - 1) (s.fld (Fld.SFD_PGg_STATUS_LIMITS g) + 1) ∧
    s.limitCounted g p = { s with regs := (s.limitCounted g p).regs, rf := { s.rf with log := (s.limitCounted g p).rf.log } } ∧
    s.regsBut (s.limitCounted g p) [Reg.SFD_PGg_STATUS g, Reg.SFD_PATHp_COUNT p] := by
  refine ⟨?_, rfl, ((State.regsBut.of_regs rfl _).count _ (by simp)).count _ (by simp)⟩
  rw [State.limitCounted, State.fld_count_ne _ _ _ _ (by simp) (.inl (by simp only [Reg.SFD_PGg_STATUS, Reg.SFD_PATHp_COUNT]; omega))]
  exact State.fld_count_same _ _ _ (by simp)

/-- The event of a limit is raised, and the group's run of symbols is at `x`. -/
def State.limitRaised (s : State) (e : List EventRec) (z x : SMap Nat) : State := { s with raise := e, seen := z, sfd := { s.sfd with limitRun := x } }

theorem State.limitRaised_shows (s : State) (e : List EventRec) (z x : SMap Nat) : (s.limitRaised e z x).raise = e ∧ (s.limitRaised e z x).store = s.store ∧
    (s.limitRaised e z x).rf = s.rf ∧ ∀ f, (s.limitRaised e z x).fld f = s.fld f := ⟨rfl, rfl, rfl, fun _ => State.fld_congr rfl⟩

/-- No residual is high: what the monitor shows of it leaves the rest. -/
theorem State.lowered_shows (s : State) (x y : SMap Nat) (g : Nat) : ((s.runs x y).setFld (Fld.SFD_PGg_STATUS_RES_HIGH g) 0).raise = s.raise ∧
    ((s.runs x y).setFld (Fld.SFD_PGg_STATUS_RES_HIGH g) 0).store = s.store ∧ ((s.runs x y).setFld (Fld.SFD_PGg_STATUS_RES_HIGH g) 0).rf = s.rf ∧
    ((s.runs x y).setFld (Fld.SFD_PGg_STATUS_RES_HIGH g) 0).fld (Fld.SFD_PGg_STATUS_LIMITS g) = s.fld (Fld.SFD_PGg_STATUS_LIMITS g) :=
  ⟨rfl, rfl, rfl, (State.fld_setFld_ne _ _ _ _ (by simp) (by simp)).trans (s.runs_fld x y _)⟩

theorem State.sbLimit_one (hot : s.overPaths g lv = [p]) (fresh : SMap.get 0 s.seen (65536 * 0x90 + g) ≠ frameOf s.air + 1)
    (keep : s.on (Fld.SFD_PGg_LIMIT_ACTION g) = false) (room : s.raiseRoom 1) :
    ∃ z x, s.sbLimit g lv = (s.limitCounted g p).limitRaised (s.raise ++ [s.occurrence 0x90 (g + 256 * p + 65536 * (lv p).input)]) z x := by
  have hits : ((List.range 8).map (fun i => 8 * g + i)).filter (fun p => s.overLimit p (lv p)) = [p] := hot
  have cut : s.sbLimit g lv = (let u := (s.limitCounted g p).eventOnce 0x90 g (g + 256 * p + 65536 * (lv p).input)
      let n : Nat := SMap.get 0 u.sfd.limitRun g + 1
      let u : State := { u with sfd := { u.sfd with limitRun := SMap.set 0 u.sfd.limitRun g n } }
      if u.on (Fld.SFD_PGg_LIMIT_ACTION g) ∧ max 1 (u.fld (Fld.SFD_PGg_LIMIT_LIM_N g)) ≤ n ∧ !u.on (Fld.SFD_PGg_STATUS_DEMOTED g) then
        ({ u with sfd := { u.sfd with limitRun := SMap.erase u.sfd.limitRun g } }.setFld (Fld.SFD_PGg_STATUS_DEMOTED g) 1).event 0x92 g
      else u) := by
    rw [State.sbLimit, hits]
    rfl
  obtain ⟨-, shape, regs⟩ := s.limitCounted_shows g p
  have action : (s.limitCounted g p).on (Fld.SFD_PGg_LIMIT_ACTION g) = false := by
    have far : Reg.SFD_PGg_LIMIT g ∉ [Reg.SFD_PGg_STATUS g, Reg.SFD_PATHp_COUNT p] := by
      simp only [List.mem_cons, List.not_mem_nil, or_false, Reg.SFD_PGg_LIMIT, Reg.SFD_PGg_STATUS, Reg.SFD_PATHp_COUNT]
      omega
    exact (congrArg (fun x : Nat => decide (x ≠ 0)) (regs.fld (Fld.SFD_PGg_LIMIT_ACTION g) far)).trans keep
  have seen : SMap.get 0 (s.limitCounted g p).seen (65536 * 0x90 + g) ≠ frameOf (s.limitCounted g p).air + 1 := by rw [shape]; exact fresh
  have room' : (s.limitCounted g p).raiseRoom 1 := room.congr (by rw [shape]) (by rw [shape])
  have raise : (s.limitCounted g p).raise ++ [(s.limitCounted g p).occurrence 0x90 (g + 256 * p + 65536 * (lv p).input)] =
      s.raise ++ [s.occurrence 0x90 (g + 256 * p + 65536 * (lv p).input)] := by rw [shape]; rfl
  rw [cut]
  generalize s.limitCounted g p = v at *
  have once : v.eventOnce 0x90 g (g + 256 * p + 65536 * (lv p).input) = ({ v with
      seen := SMap.set 0 v.seen (65536 * 0x90 + g) (frameOf v.air + 1)
      raise := s.raise ++ [s.occurrence 0x90 (g + 256 * p + 65536 * (lv p).input)] } : State) := by
    rw [State.eventOnce, if_neg seen, State.event_raiseRoom (s := { v with seen := SMap.set 0 v.seen (65536 * 0x90 + g) (frameOf v.air + 1) }) (room'.congr rfl rfl) (by decide), ← raise]
    rfl
  rw [once]
  dsimp only
  rw [if_neg fun h => absurd h.1 (by rw [Bool.not_eq_true]; exact action)]
  exact ⟨_, _, rfl⟩

theorem sbHit (hg : g < 8) (dirs : s.rf.dirs = (List.range 8).map (fun k => if k = g then dirSb else dirF)) (hlv : lv = s.sbLevels)
    (low : ∀ p < 64, s.fld (Fld.SFD_PGg_RES_RES_MAX g) ≤ (lv p).post) (hot : s.overLimit (8 * g) (lv (8 * g)) = true)
    (rest : ∀ i, 1 ≤ i → i < 8 → s.overLimit (8 * g + i) (lv (8 * g + i)) = false)
    (fresh : SMap.get 0 s.seen (65536 * 0x90 + g) ≠ frameOf s.air + 1) (keep : s.on (Fld.SFD_PGg_LIMIT_ACTION g) = false) (room : s.raiseRoom 1) :
    ∃ t, exec (.sbSymbolEnd [] none) s = .next t ∧
      t.fld (Fld.SFD_PGg_STATUS_LIMITS g) =
        min (2 ^ (Fld.SFD_PGg_STATUS_LIMITS g).width - 1) (s.fld (Fld.SFD_PGg_STATUS_LIMITS g) + 1) ∧
      t.raise = s.raise ++ [s.occurrence 0x90 (g + 256 * (8 * g) + 65536 * (lv (8 * g)).input)] ∧ t.store = s.store := by
  have run := exec_sbSymbolEnd_quiet s
  rw [← hlv] at run
  have pre (p : Nat) : (lv p).pre ≤ 511 := hlv ▸ (s.sbLevels_le p).1
  have post (p : Nat) : (lv p).post ≤ 511 := hlv ▸ (s.sbLevels_le p).2
  have hits := (s.showGroup_overPaths g g pre post lv hg).trans (overPaths_first hot rest)
  obtain ⟨side, regs, -⟩ := s.showGroup_shows g pre post
  have cut : s.sbGroup g lv = ((s.showGroup g lv).sbLimit g lv).sbResidual g lv := rfl
  generalize s.showGroup g lv = v at *
  have action : v.on (Fld.SFD_PGg_LIMIT_ACTION g) = false :=
    (congrArg (fun x : Nat => decide (x ≠ 0)) (regs.fld (Fld.SFD_PGg_LIMIT_ACTION g) (limitRegs_apart g hg))).trans keep
  obtain ⟨z, x, limit⟩ := State.sbLimit_one hits (by rw [side.eq]; exact fresh) action (room.congr (by rw [side.eq]) (by rw [side.eq]))
  obtain ⟨counted, shape, own⟩ := v.limitCounted_shows g (8 * g)
  have raise : v.raise ++ [v.occurrence 0x90 (g + 256 * (8 * g) + 65536 * (lv (8 * g)).input)] =
      s.raise ++ [s.occurrence 0x90 (g + 256 * (8 * g) + 65536 * (lv (8 * g)).input)] := by rw [side.eq]; rfl
  rw [limit, raise] at cut
  generalize s.raise ++ [s.occurrence 0x90 (g + 256 * (8 * g) + 65536 * (lv (8 * g)).input)] = e at *
  generalize v.limitCounted g (8 * g) = y at *
  have far : Reg.SFD_PGg_RES g ∉ [Reg.SFD_PGg_STATUS g, Reg.SFD_PATHp_COUNT (8 * g)] := by
    simp only [List.mem_cons, List.not_mem_nil, or_false, Reg.SFD_PGg_RES, Reg.SFD_PGg_STATUS, Reg.SFD_PATHp_COUNT]
    omega
  obtain ⟨raised, stored, rf, fields⟩ := y.limitRaised_shows e z x
  generalize y.limitRaised e z x = w at *
  have res : w.fld (Fld.SFD_PGg_RES_RES_MAX g) = s.fld (Fld.SFD_PGg_RES_RES_MAX g) := (fields _).trans ((own.fld _ far).trans (regs.fld _ (resReg_apart g)))
  rw [State.sbResidual_low (fun p hp => res ▸ low p hp) hg] at cut
  obtain ⟨raised', stored', rf', limits⟩ := w.lowered_shows w.sfd.limitRun (SMap.erase w.sfd.resRun g) g
  generalize (w.runs w.sfd.limitRun (SMap.erase w.sfd.resRun g)).setFld (Fld.SFD_PGg_STATUS_RES_HIGH g) 0 = t at *
  have kept : (s.sbGroup g lv).rf.dirs = s.rf.dirs := by rw [cut, rf', rf, shape, side.eq]
  rw [State.sbMonitor_alone hg dirs kept, cut] at run
  refine ⟨t, run, ?_, raised'.trans raised, ?_⟩
  · rw [limits, fields, counted, regs.fld _ (statusReg_apart g)]
  · rw [stored', stored, shape, side.eq]

/-! ### Residue failures (R310) -/

/-- The monitor leaves the samples' stops, the clock and the residue counters, and raises at most `n` events. -/
structure State.monitors (s t : State) (n : Nat) : Prop where
  smp : t.smp = s.smp
  air : t.air = s.air
  domains : t.domains = s.domains
  raise : t.raise.length ≤ s.raise.length + n
  residue : ∀ p < 64, t.fld (Fld.SFD_PATHp_COUNT_RESIDUE p) = s.fld (Fld.SFD_PATHp_COUNT_RESIDUE p)

theorem State.monitors.refl (s : State) (n : Nat) : s.monitors s n := ⟨rfl, rfl, rfl, Nat.le_add_right _ _, fun _ _ => rfl⟩

theorem State.monitors.trans (h : s.monitors t n) (h' : t.monitors u m) : s.monitors u (n + m) :=
  ⟨h'.smp.trans h.smp, h'.air.trans h.air, h'.domains.trans h.domains, by have := h.raise; have := h'.raise; omega,
    fun p hp => (h'.residue p hp).trans (h.residue p hp)⟩

theorem State.monitors.mono (h : s.monitors t n) (le : n ≤ m) : s.monitors t m := ⟨h.smp, h.air, h.domains, by have := h.raise; omega, h.residue⟩

theorem State.monitors.setFld (h : s.monitors t n) (f : Fld) (v : Nat) (hi : f.hi < 32) (hf : ∀ p < 64, f.addr ≠ Reg.SFD_PATHp_COUNT p ∨ 16 ≤ f.lo) :
    s.monitors (t.setFld f v) n :=
  ⟨h.smp, h.air, h.domains, h.raise, fun p hp => (State.fld_setFld_ne t f _ v hi (by
    rcases hf p hp with h | h
    · exact .inl h.symm
    · exact .inr (.inl (by simp only; omega)))).trans (h.residue p hp)⟩

/-- A change beside the registers, the samples and the events. -/
theorem State.monitors.beyond (h : s.monitors t n) (smp : u.smp = t.smp) (air : u.air = t.air) (domains : u.domains = t.domains) (raise : u.raise = t.raise)
    (regs : u.regs = t.regs) : s.monitors u n :=
  ⟨smp.trans h.smp, air.trans h.air, domains.trans h.domains, raise ▸ h.raise, fun p hp => (State.fld_congr (by rw [State.rd, regs, State.rd])).trans (h.residue p hp)⟩

theorem State.monitors.event (h : s.monitors t n) (code info : Nat) : s.monitors (t.event code info) (n + 1) := by
  have room := h.raise
  unfold State.event
  split_ifs
  · exact h.mono (Nat.le_succ n)
  · exact ⟨h.smp, h.air, h.domains, by simp only [List.length_append, List.length_cons, List.length_nil]; omega, h.residue⟩
  · exact (h.setFld _ _ (by simp) fun p _ => .inl (by simp only [Reg.SFD_PATHp_COUNT, Reg.EVT_DROP]; omega)).mono (Nat.le_succ n)

theorem State.monitors.eventOnce (h : s.monitors t n) (code source info : Nat) : s.monitors (t.eventOnce code source info) (n + 1) := by
  unfold State.eventOnce
  dsimp only
  split_ifs
  · exact h.mono (Nat.le_succ n)
  · exact State.monitors.event (t := { t with seen := SMap.set 0 t.seen (65536 * code + source) (frameOf t.air + 1) }) (h.beyond rfl rfl rfl rfl rfl) _ _

theorem State.monitors.foldl {α : Type} {f : State → α → State} (h : s.monitors t n) (hf : ∀ (u : State) x, s.monitors u n → s.monitors (f u x) n) (l : List α) :
    s.monitors (l.foldl f t) n := by
  induction l generalizing t with
  | nil => exact h
  | cons x l ih => exact ih (hf t x h)

theorem statusReg_residue (g : Nat) : ∀ p < 64, Reg.SFD_PGg_STATUS g ≠ Reg.SFD_PATHp_COUNT p ∨ 16 ≤ n := fun p _ => .inl (by
  simp only [Reg.SFD_PATHp_COUNT, Reg.SFD_PGg_STATUS]
  omega)

theorem monReg_residue (i : Nat) : ∀ p < 64, Reg.SFD_PATHp_MON i ≠ Reg.SFD_PATHp_COUNT p ∨ 16 ≤ n := fun p _ => .inl (by
  simp only [Reg.SFD_PATHp_COUNT, Reg.SFD_PATHp_MON]
  omega)

theorem State.showGroup_monitors (s : State) (g : Nat) (lv : Nat → SbLevels) : s.monitors (s.showGroup g lv) 0 :=
  State.monitors.foldl (.refl s 0) (fun u i h => by
    unfold State.showPath State.countWrap
    exact ((h.setFld (Fld.SFD_PATHp_MON_PRE (8 * g + i)) _ (by simp) (monReg_residue _)).setFld (Fld.SFD_PATHp_MON_POST (8 * g + i)) _ (by simp)
      (monReg_residue _)).setFld (Fld.SFD_PATHp_MON_SEQ (8 * g + i)) _ (by simp) (monReg_residue _)) _

theorem State.sbResidual_monitors (s : State) (g : Nat) (lv : Nat → SbLevels) : s.monitors (s.sbResidual g lv) 1 := by
  have quiet (x y : SMap Nat) : s.monitors (s.runs x y) 0 := State.monitors.beyond (.refl s 0) rfl rfl rfl rfl rfl
  unfold State.sbResidual
  dsimp only
  split_ifs
  · exact ((quiet _ _).setFld (Fld.SFD_PGg_STATUS_RES_HIGH g) 1 (by simp) (statusReg_residue g)).event _ _
  · exact (quiet s.sfd.limitRun (SMap.set 0 s.sfd.resRun g (SMap.get 0 s.sfd.resRun g + 1))).mono (by decide)
  · exact ((quiet s.sfd.limitRun (SMap.erase s.sfd.resRun g)).setFld (Fld.SFD_PGg_STATUS_RES_HIGH g) 0 (by simp) (statusReg_residue g)).mono (by decide)

/-- The paths over the limit are counted, and the event of the limit raised. -/
def State.limitShown (s : State) (g info : Nat) (ps : List Nat) : State :=
  (ps.foldl (fun s p => s.count (Fld.SFD_PATHp_COUNT_LIMIT p) 1) ((s.limitLogged g).count (Fld.SFD_PGg_STATUS_LIMITS g) 1)).eventOnce 0x90 g info

theorem State.limitShown_monitors (s : State) (g info : Nat) (ps : List Nat) : s.monitors (s.limitShown g info ps) 1 := by
  have logged : s.monitors (s.limitLogged g) 0 := State.monitors.beyond (.refl s 0) rfl rfl rfl rfl rfl
  exact State.monitors.eventOnce (State.monitors.foldl (logged.setFld (Fld.SFD_PGg_STATUS_LIMITS g) _ (by simp) (statusReg_residue g))
    (fun u p h => h.setFld (Fld.SFD_PATHp_COUNT_LIMIT p) _ (by simp) fun _ _ => .inr (Nat.le_refl 16)) ps) _ _ _

theorem State.sbLimit_cons (h : s.overPaths g lv = p :: as) : s.sbLimit g lv =
    (let u := s.limitShown g (g + 256 * p + 65536 * (lv p).input) (p :: as)
      let n : Nat := SMap.get 0 u.sfd.limitRun g + 1
      let v := u.runs (SMap.set 0 u.sfd.limitRun g n) u.sfd.resRun
      if v.on (Fld.SFD_PGg_LIMIT_ACTION g) ∧ max 1 (v.fld (Fld.SFD_PGg_LIMIT_LIM_N g)) ≤ n ∧ !v.on (Fld.SFD_PGg_STATUS_DEMOTED g) then
        ((v.runs (SMap.erase v.sfd.limitRun g) v.sfd.resRun).setFld (Fld.SFD_PGg_STATUS_DEMOTED g) 1).event 0x92 g
      else v) := by
  have hits : ((List.range 8).map (fun i => 8 * g + i)).filter (fun p => s.overLimit p (lv p)) = p :: as := h
  rw [State.sbLimit, hits]
  rfl

theorem State.sbLimit_monitors (s : State) (g : Nat) (lv : Nat → SbLevels) : s.monitors (s.sbLimit g lv) 2 := by
  have quiet (u : State) (x y : SMap Nat) {n : Nat} (h : s.monitors u n) : s.monitors (u.runs x y) n := h.beyond rfl rfl rfl rfl rfl
  rcases hits : s.overPaths g lv with _ | ⟨p, ps⟩
  · rw [State.sbLimit_none hits]
    exact quiet _ _ _ (.refl s 2)
  · have shown := s.limitShown_monitors g (g + 256 * p + 65536 * (lv p).input) (p :: ps)
    rw [State.sbLimit_cons hits]
    generalize s.limitShown g (g + 256 * p + 65536 * (lv p).input) (p :: ps) = u at *
    dsimp only
    split_ifs
    · exact ((quiet _ _ _ (quiet _ _ _ shown)).setFld (Fld.SFD_PGg_STATUS_DEMOTED g) 1 (by simp) (statusReg_residue g)).event _ _
    · exact (quiet _ _ _ shown).mono (by decide)

theorem State.sbGroup_monitors (s : State) (g : Nat) (lv : Nat → SbLevels) : s.monitors (s.sbGroup g lv) 3 :=
  ((s.showGroup_monitors g lv).trans (State.sbLimit_monitors _ _ _)).trans (State.sbResidual_monitors _ _ _)

theorem State.sbMonitor_monitors (s : State) (lv : Nat → SbLevels) : s.monitors (s.sbMonitor lv) 24 := by
  have all := State.forEach_induct (s := s) (n := 8) (f := fun s g => if s.rf.dirs.getD g dirF = dirSb then s.sbGroup g lv else s)
    (fun k v => s.monitors v (3 * k)) (.refl s 0) fun v k _ h => ?_
  · exact all
  · split_ifs
    · exact h.trans (v.sbGroup_monitors k lv)
    · exact h.mono (by omega)

theorem residueFails (p : Fin 64) (k : Nat) (room : s.raiseRoom 26) :
    ∃ t, exec (.sbSymbolEnd [(p, k)] none) s = .next t ∧ ⟨p.val, s.rf.start + k, s.rf.stop⟩ ∈ t.smp.stops ∧
      t.fld (Fld.SFD_PATHp_COUNT_RESIDUE p.val) =
        min (2 ^ (Fld.SFD_PATHp_COUNT_RESIDUE p.val).width - 1) (s.fld (Fld.SFD_PATHp_COUNT_RESIDUE p.val) + 1) ∧
      (∀ j : Fin 64, j ≠ p → t.fld (Fld.SFD_PATHp_COUNT_RESIDUE j.val) = s.fld (Fld.SFD_PATHp_COUNT_RESIDUE j.val)) ∧
      s.occurrence 0x96 p.val ∈ t.raise := by
  have run := exec_sbSymbolEnd_residue s p k
  have stopped : ∃ x, s.stopCanceller [p.val] k = { s with smp := { s.smp with stops := ⟨p.val, s.rf.start + k, s.rf.stop⟩ :: x } } := ⟨_, rfl⟩
  obtain ⟨x, stopped⟩ := stopped
  rw [stopped] at run
  have before : State.monitors { s with smp := { s.smp with stops := ⟨p.val, s.rf.start + k, s.rf.stop⟩ :: x } } _ _ :=
    State.sbMonitor_monitors _ (State.sbLevels { s with smp := { s.smp with stops := ⟨p.val, s.rf.start + k, s.rf.stop⟩ :: x } })
  generalize State.sbMonitor _ _ = v at *
  obtain ⟨smp, air, domains, raise, residue⟩ := before
  have room' : (v.count (Fld.SFD_PATHp_COUNT_RESIDUE p.val) 1).raiseRoom 1 :=
    ⟨by have := room.1; simpa only [State.domOn, State.count, State.setFld, State.wr, domains] using this,
      by have := room.2; have : v.raise.length ≤ s.raise.length + 24 := raise; show v.raise.length + 1 ≤ 64; omega⟩
  rw [State.event_raiseRoom room' (by decide)] at run
  refine ⟨_, run, ?_, ?_, fun j hj => ?_, ?_⟩
  · show _ ∈ v.smp.stops
    rw [smp]
    exact List.mem_cons_self
  · refine (State.fld_congr rfl : _ = (v.count (Fld.SFD_PATHp_COUNT_RESIDUE p.val) 1).fld _).trans ((State.fld_count_same _ _ _ (by simp)).trans ?_)
    rw [residue _ p.isLt]
    rfl
  · refine (State.fld_congr rfl : _ = (v.count (Fld.SFD_PATHp_COUNT_RESIDUE p.val) 1).fld _).trans ((State.fld_count_ne _ _ _ _ (by simp) (.inl ?_)).trans
      ((residue _ j.isLt).trans (State.fld_congr rfl)))
    have : j.val ≠ p.val := fun e => hj (Fin.ext e)
    simp only [Reg.SFD_PATHp_COUNT]
    omega
  · refine List.mem_append_right _ (List.mem_singleton.mpr ?_)
    rw [State.occurrence, State.occurrence]
    show (⟨_, _, s.air⟩ : EventRec) = ⟨_, _, v.air⟩
    rw [air]

/-- Settles O49: a capture is armed, begins at a boundary where the carrier's groups are SB, and its record ends in the store; LOP3 runs unit by unit; the
end of an SB symbol shows levels, limits and residue failures. -/
theorem duplexCapturesTrainingAndMonitor : Obligations.DuplexCapturesTrainingAndMonitor := by
  unfold Obligations.DuplexCapturesTrainingAndMonitor
  intro q w s
  refine ⟨fun pass quiet => ⟨fun busy => sfdCap_overrun pass w busy, fun free range => sfdCap_armed pass w quiet free range⟩, ?_,
    fun v hv range clean mode room => sfdCap_recorded hv range clean mode room, fun pass => ⟨fun busy => lop3_overrun pass w busy, ?_,
      fun busy room => lop3_aborted pass w busy room⟩,
    fun r i x y c cs n a h few _ clean mode room => lop3UnitEnds r i x y h few clean mode room, fun g hg dirs lv hlv low => ⟨fun quiet => ?_, ?_⟩,
    fun p k room => residueFails p k room, fun g pass => demotedCleared g w pass⟩
  · rintro c rfl armed idle sb cls
    exact sfdCap_begins armed idle sb cls
  · exact fun us hus a ha idle some' plan en dsp lo hi => lop3_started pass w hus ha idle some' plan en dsp lo hi
  · exact sbQuiet hg dirs hlv low quiet
  · exact fun hit rest fresh keep room => sbHit hg dirs hlv low hit rest fresh keep room

end Sys2Proof.Machine

/-!
PROOFS. The array calibration from its GO to its last sequence (O50).
-/

namespace Sys2Proof.Machine

variable {s t u v : State} {as : List Nat} {a g n m k p : Nat} {q : Requester} {d w : Word}

/-! ### What a GO of LOP0 is judged by (R348) -/

/-- The registers of LOP0. -/
def arrRegs : List Nat := [Reg.CAL_ARR_CTRL, Reg.LOP_STATn 0, Reg.RFE_CAL_STATUS]

/-- Nothing but registers of LOP0 differs. -/
def State.arrBeside (s t : State) : Prop := s.beside t ∧ s.regsBut t arrRegs

theorem State.arrBeside.trans (h : s.arrBeside t) (h' : t.arrBeside u) : s.arrBeside u := ⟨h.1.trans h'.1, h.2.trans h'.2⟩

theorem State.arrBeside.setFld (h : s.arrBeside t) {f : Fld} (n : Nat) (hf : f.addr ∈ arrRegs) : s.arrBeside (t.setFld f n) :=
  ⟨h.1.setFld _ _, h.2.setFld _ hf⟩

theorem State.arrBeside.fld (h : s.arrBeside t) (f : Fld) (hf : f.addr ∉ arrRegs) : t.fld f = s.fld f := h.2.fld f hf

theorem State.arrBeside.on (h : s.arrBeside t) (f : Fld) (hf : f.addr ∉ arrRegs) : t.on f = s.on f := by rw [State.on, h.fld f hf, State.on]

theorem State.arrBeside.chanEntry (h : s.arrBeside t) (c : Nat) : t.chanEntry c = s.chanEntry c := by
  unfold State.chanEntry State.chanBytes
  refine List.map_congr_left fun i hi => ?_
  have := List.mem_range.mp hi
  rw [h.2]
  simp only [arrRegs, List.mem_cons, List.not_mem_nil, or_false, Reg.SYT_CHAN, Reg.CAL_ARR_CTRL, Reg.LOP_STATn, Reg.RFE_CAL_STATUS]
  omega

theorem State.arrBeside.groupOn (h : s.arrBeside t) (hg : g < 8) : t.groupOn g = s.groupOn g := by
  have fitted : t.on (Fld.RFE_PGg_CFG_FITTED g) = s.on (Fld.RFE_PGg_CFG_FITTED g) := h.on _ (by
    simp only [arrRegs, List.mem_cons, List.not_mem_nil, or_false, Reg.RFE_PGg_CFG, Reg.CAL_ARR_CTRL, Reg.LOP_STATn, Reg.RFE_CAL_STATUS]
    omega)
  rw [State.groupOn, fitted, h.1.eq, State.groupOn]
  rfl

theorem State.arrBeside.loInUse (h : s.arrBeside t) (g : Nat) : t.loInUse g = s.loInUse g := h.fld _ (by
  simp only [arrRegs, List.mem_cons, List.not_mem_nil, or_false, Reg.RFE_PGg_LOSEL, Reg.CAL_ARR_CTRL, Reg.LOP_STATn, Reg.RFE_CAL_STATUS]
  omega)

theorem loStatus_notArr (g x : Nat) : Reg.RFE_PGg_LOx_STATUS g x ∉ arrRegs := by
  simp only [arrRegs, List.mem_cons, List.not_mem_nil, or_false, Reg.RFE_PGg_LOx_STATUS, Reg.CAL_ARR_CTRL, Reg.LOP_STATn, Reg.RFE_CAL_STATUS]
  omega

theorem State.arrBeside.measuredSet (h : s.arrBeside t) (c : Nat) : t.measuredSet c = s.measuredSet c := by
  unfold State.measuredSet
  congr 1
  refine List.map_congr_left fun g hg => ?_
  have small := List.mem_range.mp hg
  have mask : t.fld Fld.CAL_ARR_CFG_PG_MASK = s.fld Fld.CAL_ARR_CFG_PG_MASK := h.fld _ (by decide)
  rw [mask, h.groupOn small, h.loInUse, State.loState, State.loChan, h.fld _ (loStatus_notArr _ _), h.fld _ (loStatus_notArr _ _), State.loState,
    State.loChan]

theorem State.arrBeside.tEarly (h : s.arrBeside t) : t.tEarly = s.tEarly := by rw [State.tEarly, h.fld _ (by decide), State.tEarly]

/-- A request that R348 allows is not refused. -/
theorem State.lop0Error_none {groups target : Nat} (some' : groups ≠ 0) (usable : entryUsable (s.chanEntry (s.fld Fld.CAL_ARR_CHAN_CHAN)) = true)
    (ref : bitOf groups (s.fld Fld.CAL_ARR_CFG_REF_PATH / 8) = true) (dsp : s.domOn pdDsp = true) (cst : s.domOn pdCst = true) (free : s.detained = false)
    (dest : s.storeRange (s.fld Fld.CAL_ARR_DEST_ADDR) 1536 = true) (alone : s.on Fld.CAL_ARR_CFG_JOINT = false)
    (early : s.on Fld.CAL_ARR_CTRL_MODE = true → s.air + s.tEarly ≤ target ∧ s.air + 122880 ≤ target) : s.lop0Error groups target = 0 := by
  rw [State.lop0Error]
  simp only [some', usable, ref, dsp, cst, free, dest, alone, Bool.not_true, Bool.false_eq_true, or_self, false_and, if_false]
  rw [if_neg]
  rintro ⟨forced, late⟩
  have := early forced
  omega

theorem State.arrBeside.lop0Error (h : s.arrBeside t) (mode : t.on Fld.CAL_ARR_CTRL_MODE = s.on Fld.CAL_ARR_CTRL_MODE) (groups target : Nat) :
    t.lop0Error groups target = s.lop0Error groups target := by
  have chan : t.fld Fld.CAL_ARR_CHAN_CHAN = s.fld Fld.CAL_ARR_CHAN_CHAN := h.fld _ (by decide)
  have ref : t.fld Fld.CAL_ARR_CFG_REF_PATH = s.fld Fld.CAL_ARR_CFG_REF_PATH := h.fld _ (by decide)
  have dest : t.fld Fld.CAL_ARR_DEST_ADDR = s.fld Fld.CAL_ARR_DEST_ADDR := h.fld _ (by decide)
  have det : t.detained = s.detained := h.on Fld.BOOT_STATUS_DETAINED (by decide)
  have joint : t.on Fld.CAL_ARR_CFG_JOINT = s.on Fld.CAL_ARR_CFG_JOINT := h.on _ (by decide)
  have ok : t.on Fld.ATM_ARRAY_STATUS_JOINT_OK = s.on Fld.ATM_ARRAY_STATUS_JOINT_OK := h.on _ (by decide)
  have air : t.air = s.air := by rw [h.1.eq]
  have time : t.time = s.time := by rw [h.1.eq]
  have dom (x : Nat) : t.domOn x = s.domOn x := by rw [h.1.eq]; rfl
  unfold State.lop0Error
  simp only [chan, ref, dest, det, joint, ok, air, time, dom, mode, h.chanEntry, h.tEarly, h.1.storeRange]

/-! ### The GO (R348 to R350) -/

/-- LOP0 begins as `x` on channel `x.chan` of band `b`, with the forced slots `sl` of the groups `gr`. -/
def State.arrBegun (s : State) (x : Lop0) (sl : List (Nat × Nat)) (gr b : Nat) : State :=
  ((({ s with cal := { s.cal with lop0 := some x, slots := sl, slotGroups := gr } } : State).setFld Fld.RFE_CAL_STATUS_CHAN x.chan).setFld Fld.RFE_CAL_STATUS_BAND b).setFld
    Fld.RFE_CAL_STATUS_STATE loVcoCal

theorem State.arrBegun_shows (s : State) (x : Lop0) (sl : List (Nat × Nat)) (gr b : Nat) (hc : x.chan < 1024) :
    (s.arrBegun x sl gr b).fld Fld.RFE_CAL_STATUS_CHAN = x.chan ∧ (s.arrBegun x sl gr b).fld Fld.RFE_CAL_STATUS_STATE = loVcoCal ∧
    s.arrBegun x sl gr b = { s with regs := (s.arrBegun x sl gr b).regs, cal := { s.cal with lop0 := some x, slots := sl, slotGroups := gr } } ∧
    s.regsBut (s.arrBegun x sl gr b) [Reg.RFE_CAL_STATUS] := by
  refine ⟨?_, State.fld_setFld_same _ _ _ (by decide) (by decide), rfl, (((State.regsBut.of_regs rfl _).setFld _ (by simp)).setFld _ (by simp)).setFld _ (by simp)⟩
  rw [State.arrBegun, State.fld_setFld_ne _ _ _ _ (by decide) (by decide), State.fld_setFld_ne _ _ _ _ (by decide) (by decide)]
  exact State.fld_setFld_same _ _ _ (by decide) hc

/-- LOP0 runs over `n` units. -/
def State.arrStarted (s : State) (n : Nat) : State := (s.lopStart 0 lopRunning n).setFld Fld.CAL_ARR_CTRL_GO 1

theorem State.arrStarted_shows (s : State) (n : Nat) : s.arrBeside (s.arrStarted n) ∧ (s.arrStarted n).lopState 0 = lopRunning ∧
    (s.arrStarted n).fld (Fld.LOP_STATn_UNITS_DONE 0) = 0 ∧ (n ≤ 4095 → (s.arrStarted n).fld (Fld.LOP_STATn_UNITS_TOTAL 0) = n) ∧
    (s.arrStarted n).on Fld.CAL_ARR_CTRL_GO = true ∧
    ∀ f : Fld, f.addr = Reg.CAL_ARR_CTRL → 0 < f.lo → (s.arrStarted n).fld f = s.fld f := by
  have field (f : Fld) (hf : f.addr = Reg.LOP_STATn 0) : (s.arrStarted n).fld f = (s.lopStart 0 lopRunning n).fld f :=
    State.fld_setFld_ne _ _ _ _ (by decide) (.inl (by rw [hf]; decide))
  refine ⟨⟨State.beside.setFld ⟨_, State.lopStart_beside _ _ _ _⟩ _ _, (State.regsBut.lopStart _ _ _ _ (.refl s _) (by decide)).setFld _ (by decide)⟩,
    (field _ rfl).trans (State.lopState_lopStart _ _ _ _ (by decide)), (field _ rfl).trans (State.fld_lopStart_done s 0 lopRunning n),
    fun few => (field _ rfl).trans (State.fld_lopStart_total s 0 lopRunning n few), State.on_setFld_one _ _ (by decide) (by decide), fun f hf lo => ?_⟩
  rw [State.arrStarted, State.fld_setFld_ne _ _ _ _ (by decide) (.inr (.inr lo)), State.fld_lopStart_ne _ _ _ _ _ (by rw [hf]; decide)]

/-- What a GO does where nothing refuses it. -/
theorem State.calArrWrite_go {d : Word} (go : Fld.CAL_ARR_CTRL_GO.of d = 1) (idle : s.lopBusy 0 = false)
    (hv : v = s.plainWrite Reg.CAL_ARR_CTRL (Fld.CAL_ARR_CTRL_ABORT.put 0 (Fld.CAL_ARR_CTRL_GO.put 0 d))) (idle' : v.lopBusy 0 = false)
    {c dir : Nat} {forced : Bool} (hc : v.fld Fld.CAL_ARR_CHAN_CHAN = c) (hd : v.fld Fld.CAL_ARR_CTRL_DIR = dir) (hf : v.on Fld.CAL_ARR_CTRL_MODE = forced)
    (alone : v.on Fld.CAL_ARR_CFG_JOINT = false) {target : Nat}
    (ht : boundaryAfter v.time.scs (v.fld Fld.CAL_FORCE_AT_SFN) (v.fld Fld.CAL_FORCE_AT_SLOT) v.air = target) {total groups : Nat} (hs : v.measuredSet c = groups)
    (hn : (if forced then (((forcedSlots v.time.scs dir target).map (fun t => slotSequences v.time.scs t.1 false)).sum) * chipsOf false
      else 64 * (max 1 (v.fld Fld.CAL_ARR_CFG_REP)) * dirCount dir) = total) (hu : u = v.arrStarted total) (ok : u.lop0Error groups target = 0) {x : Lop0}
    (hx : x = ⟨groups, dir, forced, false, c, u.fld Fld.CAL_ARR_CTRL_POINT, u.on Fld.CAL_ARR_CTRL_APPLY, u.fld Fld.CAL_ARR_CFG_REF_PATH,
      max 1 (v.fld Fld.CAL_ARR_CFG_REP), v.fld Fld.CAL_ARR_DEST_ADDR, u.fld Fld.CAL_ARR_CFG_SPAN, u.fld Fld.CAL_ARR_CHAN_LEVEL, 0, 0, total⟩)
    {y : State} (hy : y = u.arrBegun x (if forced then forcedSlots v.time.scs dir target else u.cal.slots) (if forced then groups else u.cal.slotGroups)
      (entryBand (u.chanEntry c))) :
    s.calArrWrite d = if forced then y.event 0xC0 (y.fld Fld.CAL_FORCE_AT_SFN + 1024 * y.fld Fld.CAL_FORCE_AT_SLOT + 2 ^ 17 * dir) else y := by
  have none' : ¬ (Fld.CAL_ARR_CTRL_ABORT.of d = 1 ∧ v.lopBusy 0 = true) := fun h => by rw [idle'] at h; exact Bool.false_ne_true h.2
  rw [State.calArrWrite]
  simp only [go, idle, Nat.reduceBEq, Bool.and_false, Bool.false_eq_true, if_false, if_true, ← hv, if_neg none', hc, hd, hf, alone, ht, hs, hn]
  have started : (v.lopStart 0 lopRunning total).setFld Fld.CAL_ARR_CTRL_GO 1 = u := hu.symm
  rw [started]
  simp only [ok, ne_eq, not_true_eq_false, if_false, hy, hx]
  rfl

/-- The word of CAL_ARR_CTRL after a GO's write. -/
def State.arrWord (s : State) (w : Word) : Word :=
  writeWord Reg.CAL_ARR_CTRL (Fld.CAL_ARR_CTRL_ABORT.put 0 (Fld.CAL_ARR_CTRL_GO.put 0 w)) (s.rd Reg.CAL_ARR_CTRL)

/-- When the slots are asked for (R350). -/
def State.arrTarget (s : State) : Nat := boundaryAfter s.time.scs (s.fld Fld.CAL_FORCE_AT_SFN) (s.fld Fld.CAL_FORCE_AT_SLOT) s.air

/-- The chips of a measurement (R349, R350). -/
def State.arrTotal (s : State) (dir : Nat) (forced : Bool) : Nat :=
  if forced then ((forcedSlots s.time.scs dir s.arrTarget).map (fun x => slotSequences s.time.scs x.1 false)).sum * 64
  else 64 * (max 1 (s.fld Fld.CAL_ARR_CFG_REP)) * dirCount dir

/-- LOP0 as a GO with `w` begins it. -/
def State.arrLop (s : State) (w : Word) (forced : Bool) : Lop0 :=
  ⟨s.measuredSet (s.fld Fld.CAL_ARR_CHAN_CHAN), Fld.CAL_ARR_CTRL_DIR.of (s.arrWord w), forced, false, s.fld Fld.CAL_ARR_CHAN_CHAN,
    Fld.CAL_ARR_CTRL_POINT.of (s.arrWord w), Fld.CAL_ARR_CTRL_APPLY.of (s.arrWord w) == 1, s.fld Fld.CAL_ARR_CFG_REF_PATH,
    max 1 (s.fld Fld.CAL_ARR_CFG_REP), s.fld Fld.CAL_ARR_DEST_ADDR, s.fld Fld.CAL_ARR_CFG_SPAN, s.fld Fld.CAL_ARR_CHAN_LEVEL, 0, 0,
    s.arrTotal (Fld.CAL_ARR_CTRL_DIR.of (s.arrWord w)) forced⟩

/-- R348 allows the GO. -/
structure State.arrAllowed (s : State) : Prop where
  idle : s.lopBusy 0 = false
  set : s.measuredSet (s.fld Fld.CAL_ARR_CHAN_CHAN) ≠ 0
  usable : entryUsable (s.chanEntry (s.fld Fld.CAL_ARR_CHAN_CHAN)) = true
  ref : bitOf (s.measuredSet (s.fld Fld.CAL_ARR_CHAN_CHAN)) (s.fld Fld.CAL_ARR_CFG_REF_PATH / 8) = true
  dsp : s.domOn pdDsp = true
  cst : s.domOn pdCst = true
  free : s.detained = false
  dest : s.storeRange (s.fld Fld.CAL_ARR_DEST_ADDR) 1536 = true
  alone : s.on Fld.CAL_ARR_CFG_JOINT = false

theorem State.arrAllowed.passes (h : s.arrAllowed) (side : s.arrBeside t)
    (early : t.on Fld.CAL_ARR_CTRL_MODE = true → s.air + s.tEarly ≤ n ∧ s.air + 122880 ≤ n) :
    t.lop0Error (s.measuredSet (s.fld Fld.CAL_ARR_CHAN_CHAN)) n = 0 := by
  have chan : t.fld Fld.CAL_ARR_CHAN_CHAN = s.fld Fld.CAL_ARR_CHAN_CHAN := side.fld _ (by decide)
  have dom (x : Nat) : t.domOn x = s.domOn x := by rw [side.1.eq]; rfl
  refine State.lop0Error_none h.set ?_ ?_ ((dom _).trans h.dsp) ((dom _).trans h.cst) ((side.on Fld.BOOT_STATUS_DETAINED (by decide)).trans h.free) ?_
    ((side.on _ (by decide)).trans h.alone) ?_
  · rw [chan, side.chanEntry]
    exact h.usable
  · rw [side.fld Fld.CAL_ARR_CFG_REF_PATH (by decide)]
    exact h.ref
  · rw [side.fld Fld.CAL_ARR_DEST_ADDR (by decide), side.1.storeRange]
    exact h.dest
  · rw [side.tEarly, show t.air = s.air by rw [side.1.eq]]
    exact early

/-- A GO that R348 allows begins LOP0. -/
theorem exec_calArrGo (pass : s.passes q Reg.CAL_ARR_CTRL true) (h : s.arrAllowed) {forced : Bool}
    (mode : Fld.CAL_ARR_CTRL_MODE.of (s.arrWord w) = bit forced) (early : forced = true → s.air + s.tEarly ≤ s.arrTarget ∧ s.air + 122880 ≤ s.arrTarget) :
    ∃ u b, s.arrBeside u ∧ u.lopState 0 = lopRunning ∧ u.fld (Fld.LOP_STATn_UNITS_DONE 0) = 0 ∧
      ((s.arrLop w forced).total ≤ 4095 → u.fld (Fld.LOP_STATn_UNITS_TOTAL 0) = (s.arrLop w forced).total) ∧ u.on Fld.CAL_ARR_CTRL_GO = true ∧
      ∀ y, y = u.arrBegun (s.arrLop w forced) (if forced then forcedSlots s.time.scs (s.arrLop w forced).dir s.arrTarget else s.cal.slots)
          (if forced then (s.arrLop w forced).groups else s.cal.slotGroups) b →
        exec (.calArrGo q w) s = .next (if forced then
          y.event 0xC0 (y.fld Fld.CAL_FORCE_AT_SFN + 1024 * y.fld Fld.CAL_FORCE_AT_SLOT + 2 ^ 17 * (s.arrLop w forced).dir) else y) := by
  have go : Fld.CAL_ARR_CTRL_GO.of (Fld.CAL_ARR_CTRL_GO.put 1 w) = 1 := Fld.of_put_same _ _ _ (by decide) (by decide)
  have run := exec_access (c := .calArrGo q w) (f := fun s => s.calArrWrite (Fld.CAL_ARR_CTRL_GO.put 1 w)) pass rfl
  have data : Fld.CAL_ARR_CTRL_ABORT.put 0 (Fld.CAL_ARR_CTRL_GO.put 0 (Fld.CAL_ARR_CTRL_GO.put 1 w)) = Fld.CAL_ARR_CTRL_ABORT.put 0 (Fld.CAL_ARR_CTRL_GO.put 0 w) := by
    rw [Fld.put_put _ _ _ _ (by decide)]
  have side : s.arrBeside (s.plainWrite Reg.CAL_ARR_CTRL (Fld.CAL_ARR_CTRL_ABORT.put 0 (Fld.CAL_ARR_CTRL_GO.put 0 w))) :=
    ⟨⟨_, rfl⟩, (State.regsBut.refl s _).plainWrite _ (by decide)⟩
  have own (f : Fld) (hf : f.addr = Reg.CAL_ARR_CTRL) : (s.plainWrite Reg.CAL_ARR_CTRL (Fld.CAL_ARR_CTRL_ABORT.put 0 (Fld.CAL_ARR_CTRL_GO.put 0 w))).fld f =
      f.of (s.arrWord w) := by rw [State.plainWrite, ← hf, State.fld_wr_same, hf]; rfl
  have idle : (s.plainWrite Reg.CAL_ARR_CTRL (Fld.CAL_ARR_CTRL_ABORT.put 0 (Fld.CAL_ARR_CTRL_GO.put 0 w))).lopBusy 0 = false :=
    (lopBusy_of_fld (State.fld_wr_ne _ _ _ _ (by decide))).trans h.idle
  obtain ⟨v, hv⟩ : ∃ v, v = s.plainWrite Reg.CAL_ARR_CTRL (Fld.CAL_ARR_CTRL_ABORT.put 0 (Fld.CAL_ARR_CTRL_GO.put 0 w)) := ⟨_, rfl⟩
  rw [← hv] at side own idle
  rw [← data] at hv
  have air : v.air = s.air := by rw [side.1.eq]
  have time : v.time = s.time := by rw [side.1.eq]
  have chan : v.fld Fld.CAL_ARR_CHAN_CHAN = s.fld Fld.CAL_ARR_CHAN_CHAN := side.fld _ (by decide)
  have mode' : v.on Fld.CAL_ARR_CTRL_MODE = forced := by
    rw [State.on, own _ rfl, mode]
    cases forced <;> rfl
  have target : boundaryAfter v.time.scs (v.fld Fld.CAL_FORCE_AT_SFN) (v.fld Fld.CAL_FORCE_AT_SLOT) v.air = s.arrTarget := by
    rw [time, air, side.fld Fld.CAL_FORCE_AT_SFN (by decide), side.fld Fld.CAL_FORCE_AT_SLOT (by decide), State.arrTarget]
  have rep : v.fld Fld.CAL_ARR_CFG_REP = s.fld Fld.CAL_ARR_CFG_REP := side.fld _ (by decide)
  have total : (if forced then (((forcedSlots v.time.scs (Fld.CAL_ARR_CTRL_DIR.of (s.arrWord w)) s.arrTarget).map (fun t => slotSequences v.time.scs t.1 false)).sum) * chipsOf false
      else 64 * (max 1 (v.fld Fld.CAL_ARR_CFG_REP)) * dirCount (Fld.CAL_ARR_CTRL_DIR.of (s.arrWord w))) = (s.arrLop w forced).total := by
    rw [time, rep]
    rfl
  obtain ⟨begun, state, done, units, on, field⟩ := v.arrStarted_shows (s.arrLop w forced).total
  obtain ⟨u, hu⟩ : ∃ u, u = v.arrStarted (s.arrLop w forced).total := ⟨_, rfl⟩
  rw [← hu] at begun state done units on field
  have all := side.trans begun
  have mode'' : u.on Fld.CAL_ARR_CTRL_MODE = forced := by rw [State.on, field _ rfl (by decide)]; exact mode'
  have cal : u.cal = s.cal := by rw [all.1.eq]
  have lop : s.arrLop w forced = ⟨s.measuredSet (s.fld Fld.CAL_ARR_CHAN_CHAN), Fld.CAL_ARR_CTRL_DIR.of (s.arrWord w), forced, false, s.fld Fld.CAL_ARR_CHAN_CHAN,
      u.fld Fld.CAL_ARR_CTRL_POINT, u.on Fld.CAL_ARR_CTRL_APPLY, u.fld Fld.CAL_ARR_CFG_REF_PATH, max 1 (v.fld Fld.CAL_ARR_CFG_REP), v.fld Fld.CAL_ARR_DEST_ADDR,
      u.fld Fld.CAL_ARR_CFG_SPAN, u.fld Fld.CAL_ARR_CHAN_LEVEL, 0, 0, (s.arrLop w forced).total⟩ := by
    have one : u.on Fld.CAL_ARR_CTRL_APPLY = (Fld.CAL_ARR_CTRL_APPLY.of (s.arrWord w) == 1) := by
      have small := Fld.of_lt Fld.CAL_ARR_CTRL_APPLY (s.arrWord w)
      rw [State.on, field _ rfl (by decide), own _ rfl]
      generalize Fld.CAL_ARR_CTRL_APPLY.of (s.arrWord w) = x at *
      obtain rfl | rfl : x = 0 ∨ x = 1 := by simp at small; omega
      · rfl
      · rfl
    rw [one, field _ rfl (by decide), own _ rfl, all.fld Fld.CAL_ARR_CFG_REF_PATH (by decide), rep, side.fld Fld.CAL_ARR_DEST_ADDR (by decide),
      all.fld Fld.CAL_ARR_CFG_SPAN (by decide), all.fld Fld.CAL_ARR_CHAN_LEVEL (by decide)]
    rfl
  refine ⟨u, entryBand (u.chanEntry (s.fld Fld.CAL_ARR_CHAN_CHAN)), all, state, done, units, on, fun y hy => run.trans (congrArg _ ?_)⟩
  refine s.calArrWrite_go (x := s.arrLop w forced) go h.idle hv idle chan (own _ rfl) mode' ((side.on _ (by decide)).trans h.alone) target (side.measuredSet _) total hu
    (h.passes all fun f => early (mode''.symm.trans f)) lop ?_
  rw [time, cal]
  exact hy

theorem toNat_rd_of_fld (s : State) (f : Fld) (hi : f.hi = 31) (lo : f.lo = 0) : (s.rd f.addr).toNat = s.fld f := by
  have small := s.fld_lt f
  rw [hi, lo] at small
  rw [← ofNat_fld_word s f hi lo, BitVec.toNat_ofNat, Nat.mod_eq_of_lt small]

theorem calArr_background (pass : s.passes q Reg.CAL_ARR_CTRL true) (h : s.arrAllowed) (mode : Fld.CAL_ARR_CTRL_MODE.of (s.arrWord w) = 0)
    (few : (s.arrLop w false).total ≤ 4095) :
    ∃ t, exec (.calArrGo q w) s = .next t ∧ t.lopState 0 = lopRunning ∧ t.fld (Fld.LOP_STATn_UNITS_DONE 0) = 0 ∧
      t.fld (Fld.LOP_STATn_UNITS_TOTAL 0) = (s.arrLop w false).total ∧ t.on Fld.CAL_ARR_CTRL_GO = true ∧
      (t.lopRes 0).toNat = s.fld Fld.CAL_ARR_DEST_ADDR ∧ t.fld Fld.RFE_CAL_STATUS_CHAN = s.fld Fld.CAL_ARR_CHAN_CHAN ∧
      t.fld Fld.RFE_CAL_STATUS_STATE = loVcoCal ∧
      t = { s with regs := t.regs, cal := { s.cal with lop0 := some (s.arrLop w false) } } ∧ s.regsBut t arrRegs := by
  obtain ⟨u, b, side, state, done, units, on, run⟩ := exec_calArrGo (w := w) pass h (forced := false) mode (fun f => absurd f Bool.false_ne_true)
  have small : (s.arrLop w false).chan < 1024 := s.fld_lt _
  replace run := run _ rfl
  obtain ⟨chan, loc, shape, regs⟩ := u.arrBegun_shows (s.arrLop w false) s.cal.slots s.cal.slotGroups b small
  rw [if_neg Bool.false_ne_true, if_neg Bool.false_ne_true, if_neg Bool.false_ne_true] at run
  generalize u.arrBegun (s.arrLop w false) s.cal.slots s.cal.slotGroups b = t at *
  have all : s.regsBut t arrRegs := side.2.trans (regs.mono (by decide))
  refine ⟨t, run, (regs.fld _ (by decide)).trans state, (regs.fld _ (by decide)).trans done, (regs.fld _ (by decide)).trans (units few), ?_, ?_, chan, loc, ?_, all⟩
  · rw [State.on, regs.fld _ (by decide)]
    exact on
  · show (t.rd Reg.CAL_ARR_DEST).toNat = _
    rw [all _ (by decide)]
    exact toNat_rd_of_fld s Fld.CAL_ARR_DEST_ADDR rfl rfl
  · rw [shape, side.1.eq]

theorem calArr_forced (pass : s.passes q Reg.CAL_ARR_CTRL true) (h : s.arrAllowed) (mode : Fld.CAL_ARR_CTRL_MODE.of (s.arrWord w) = 1)
    (few : (s.arrLop w true).total ≤ 4095) (early : s.air + s.tEarly ≤ s.arrTarget) (late : s.air + 122880 ≤ s.arrTarget) (room : s.raiseRoom 1) :
    ∃ t, exec (.calArrGo q w) s = .next t ∧ t.lopState 0 = lopRunning ∧ t.fld (Fld.LOP_STATn_UNITS_TOTAL 0) = (s.arrLop w true).total ∧
      t.cal.slots = forcedSlots s.time.scs (s.arrLop w true).dir s.arrTarget ∧ t.cal.slotGroups = (s.arrLop w true).groups ∧
      t.fld Fld.RFE_CAL_STATUS_STATE = loVcoCal ∧
      t.raise = s.raise ++ [s.occurrence 0xC0 (s.fld Fld.CAL_FORCE_AT_SFN + 1024 * s.fld Fld.CAL_FORCE_AT_SLOT + 2 ^ 17 * (s.arrLop w true).dir)] ∧
      t = { s with regs := t.regs, raise := t.raise,
                   cal := { s.cal with slots := t.cal.slots, lop0 := t.cal.lop0, slotGroups := (s.arrLop w true).groups } } ∧
      s.regsBut t arrRegs := by
  obtain ⟨u, b, side, state, -, units, -, run⟩ := exec_calArrGo (w := w) pass h (forced := true) mode (fun _ => ⟨early, late⟩)
  have small : (s.arrLop w true).chan < 1024 := s.fld_lt _
  replace run := run _ rfl
  rw [if_pos rfl, if_pos rfl, if_pos rfl] at run
  generalize forcedSlots s.time.scs (s.arrLop w true).dir s.arrTarget = sl at *
  obtain ⟨-, loc, shape, regs⟩ := u.arrBegun_shows (s.arrLop w true) sl (s.arrLop w true).groups b small
  generalize u.arrBegun (s.arrLop w true) sl (s.arrLop w true).groups b = y at *
  have all : s.regsBut y arrRegs := side.2.trans (regs.mono (by decide))
  have own : y = { s with regs := y.regs, cal := { s.cal with lop0 := some (s.arrLop w true), slots := sl, slotGroups := (s.arrLop w true).groups } } := by
    rw [shape, side.1.eq]
  have room' : y.raiseRoom 1 := room.congr (by rw [own]) (by rw [own])
  have raise (info : Nat) : y.raise ++ [y.occurrence 0xC0 info] = s.raise ++ [s.occurrence 0xC0 info] := by
    rw [own]
    rfl
  rw [State.event_raiseRoom room' (by decide), all.fld Fld.CAL_FORCE_AT_SFN (by decide), all.fld Fld.CAL_FORCE_AT_SLOT (by decide), raise] at run
  refine ⟨_, run, (regs.fld _ (by decide)).trans state, (regs.fld _ (by decide)).trans (units few), ?_, ?_, loc, rfl, ?_, all.congr rfl⟩
  · rw [own]
  · rw [own]
  · rw [own]

theorem calArr_overrun (pass : s.passes q Reg.CAL_ARR_CTRL true) (w : Word) (busy : s.lopBusy 0 = true) :
    ∃ t, exec (.calArrGo q w) s = .next t ∧ t.on Fld.CAL_ARR_CTRL_OVERRUN = true ∧ s.onlyRegs t [Reg.CAL_ARR_CTRL] := by
  have run := exec_access (c := .calArrGo q w) (f := fun s => s.calArrWrite (Fld.CAL_ARR_CTRL_GO.put 1 w)) pass rfl
  have go : Fld.CAL_ARR_CTRL_GO.of (Fld.CAL_ARR_CTRL_GO.put 1 w) = 1 := Fld.of_put_same _ _ _ (by decide) (by decide)
  rw [State.calArrWrite] at run
  simp only [go, busy, Nat.reduceBEq, Bool.and_self, if_true] at run
  exact ⟨_, run, State.on_setFld_one _ _ (by decide) (by decide), rfl, (State.regsBut.refl s _).setFld _ (by simp)⟩

/-! ### LOC, sequences and slots (R343, R349, R350) -/

theorem locLocks (b : Bool) (calibrates : s.fld Fld.RFE_CAL_STATUS_STATE = loVcoCal) :
    ∃ t, exec (.locLockEnd b) s = .next t ∧ t.fld Fld.RFE_CAL_STATUS_STATE = (if b then loLocked else loFail) ∧ s.onlyRegs t [Reg.RFE_CAL_STATUS] := by
  have run : exec (.locLockEnd b) s = .next (s.setFld Fld.RFE_CAL_STATUS_STATE (if b then loLocked else loFail)) := by
    show execLocLockEnd b s = _
    rw [execLocLockEnd, if_pos calibrates]
  exact ⟨_, run, State.fld_setFld_same _ _ _ (by decide) (by cases b <;> decide), rfl, (State.regsBut.refl s _).setFld _ (by simp)⟩

/-- LOP0 has counted a sequence, and line 9 is asserted. -/
def State.sequenceCounted (s : State) (c : Lop0) : State := { s with cal := { s.cal with lop0 := some { c with sequences := c.sequences + 1 }, line9 := true } }

theorem sequenceEnds (o : Nat) (xs : List Byte) {c : Lop0} (h : s.cal.lop0 = some c) (alone : c.joint = false) (run' : (c.sequences + 1) * 64 ≤ c.chips)
    (range : s.storeRange (c.dest + o) xs.length = true) (clean : s.ecc = []) (mode : s.fld Fld.CST_ECC_INJ_MODE = 0) :
    ∃ t, exec (.calSequenceEnd o xs) s = .next t ∧ t.storeBytes (c.dest + o) xs.length = xs ∧
      (∀ b, b < c.dest + o ∨ c.dest + o + xs.length ≤ b → t.storeByte b = s.storeByte b) ∧
      t = { s with store := t.store, cal := { s.cal with lop0 := some { c with sequences := c.sequences + 1 }, line9 := true } } := by
  have run : exec (.calSequenceEnd o xs) s = .next ((s.putStore (c.dest + o) xs).sequenceCounted c) := by
    show execCalSequenceEnd o xs s = _
    rw [execCalSequenceEnd, h]
    simp only [alone, chipsOf, Bool.false_eq_true, if_false, if_pos run', if_pos range, s.storePut_clean clean mode, State.sequenceCounted]
  exact ⟨_, run, s.storeBytes_putStore _ xs, fun b hb => s.storeByte_putStore_out _ b xs hb, rfl⟩

/-- LOP0 is at `c`, and the probe chips `x` run. -/
def State.chipsRun (s : State) (c : Lop0) (x : ProbeRun) : State := { s with cal := { s.cal with lop0 := some c, probes := x :: s.cal.probes } }

theorem forcedSlotRuns {x : Nat} {rest : List (Nat × Nat)} (slots : s.cal.slots = (a, x) :: rest) {c : Lop0} (h : s.cal.lop0 = some c)
    (hn : n = min c.total (c.chips + slotSequences s.time.scs a false * 64)) (forced : c.forced = true) (alone : c.joint = false) (few : c.total ≤ 4095)
    (locked : s.fld Fld.RFE_CAL_STATUS_STATE = loLocked) :
    ∃ t, exec .calForcedSlot s = .next t ∧ t.fld (Fld.LOP_STATn_UNITS_DONE 0) = n ∧ t.cal.lop0 = some { c with chips := n } ∧
      t.cal.probes = ⟨a, c.chips, n - c.chips, c.rxFrom, c.groups, c.span, c.level, 64, 0⟩ :: s.cal.probes ∧
      t = { s with regs := t.regs, cal := { s.cal with lop0 := t.cal.lop0, probes := t.cal.probes } } ∧ s.regsBut t [Reg.LOP_STATn 0] := by
  have run : exec .calForcedSlot s = .next ((s.chipsRun { c with chips := n } ⟨a, c.chips, n - c.chips, c.rxFrom, c.groups, c.span, c.level, 64, 0⟩).lopUnits 0 n
      c.total) := by
    show execCalForcedSlot s = _
    rw [execCalForcedSlot, slots]
    simp only [h, forced, if_true, alone, chipsOf, Bool.false_eq_true, if_false, State.runChips, locked, ne_eq, not_true_eq_false, and_false, ← hn, State.chipsRun]
  have le : n ≤ c.total := by rw [hn]; exact Nat.min_le_left _ _
  refine ⟨_, run, State.fld_lopUnits_done _ _ _ _ le few, ?_, ?_, ?_, State.regsBut.lopUnits _ _ _ _ (State.regsBut.of_regs (s := s) rfl _) (by simp)⟩
  all_goals
    rw [State.lopUnits, if_pos few]
    rfl

theorem slotEnds {x : Nat} {rest : List (Nat × Nat)} (slots : s.cal.slots = (a, x) :: rest) (more : rest ≠ []) :
    ∃ t, exec .calForcedSlotEnd s = .next t ∧ t = { s with cal := { s.cal with slots := rest } } := by
  refine ⟨_, ?_, rfl⟩
  show execCalForcedSlotEnd s = _
  rw [execCalForcedSlotEnd, slots]
  simp only [if_neg more]

theorem lastSlotEnds {x : Nat} (slots : s.cal.slots = [(a, x)]) (room : s.raiseRoom 1) :
    ∃ t, exec .calForcedSlotEnd s = .next t ∧
      t.raise = s.raise ++ [s.occurrence 0xC1 (frameOf a % 1024 + 1024 * (symbolOf s.time.scs a / 14) +
        2 ^ 20 * (if s.lopState 0 = lopFailed ∨ s.lopState 0 = lopAborted then 1 else 0))] ∧
      t = { s with raise := t.raise, cal := { s.cal with slots := [] } } := by
  have run : exec .calForcedSlotEnd s = .next (({ s with cal := { s.cal with slots := [] } } : State).event 0xC1
      (frameOf a % 1024 + 1024 * (symbolOf s.time.scs a / 14) + 2 ^ 20 * bit (s.lopState 0 == lopFailed || s.lopState 0 == lopAborted))) := by
    show execCalForcedSlotEnd s = _
    rw [execCalForcedSlotEnd, slots]
    rfl
  have ended : bit (s.lopState 0 == lopFailed || s.lopState 0 == lopAborted) = if s.lopState 0 = lopFailed ∨ s.lopState 0 = lopAborted then 1 else 0 := by
    simp only [bit, Bool.or_eq_true, beq_iff_eq]
  rw [ended, State.event_raiseRoom (s := { s with cal := { s.cal with slots := [] } }) (room.congr rfl rfl) (by decide)] at run
  exact ⟨_, run, rfl, rfl⟩

/-! ### LOP0 ends early (R348) -/

/-- LOP0 has ended in `st` with `err`; `e` is raised. -/
def State.lop0Ended (s : State) (st err : Nat) (e : List EventRec) : State :=
  { (((((s.setFld Fld.RFE_CAL_STATUS_STATE 0).setFld Fld.CAL_ARR_CTRL_ABORT 0).setFld Fld.CAL_ARR_CTRL_GO 0).setFld (Fld.LOP_STATn_STATE 0) st).setFld
    (Fld.LOP_STATn_ERR 0) err) with raise := e, cal := { s.cal with lop0 := none } }

theorem State.lop0Stop_room (room : s.raiseRoom 1) (st err : Nat) :
    s.lop0Stop st err = s.lop0Ended st err (s.raise ++ [s.occurrence 0x06 (16 * st + 256 * err)]) := by
  have ended : s.lop0Stop st err = ({ (((s.setFld Fld.RFE_CAL_STATUS_STATE 0).setFld Fld.CAL_ARR_CTRL_ABORT 0).setFld Fld.CAL_ARR_CTRL_GO 0) with
    cal := { s.cal with lop0 := none } } : State).lopEnd 0 st err := rfl
  have side : s.beside (((s.setFld Fld.RFE_CAL_STATUS_STATE 0).setFld Fld.CAL_ARR_CTRL_ABORT 0).setFld Fld.CAL_ARR_CTRL_GO 0) := ⟨_, rfl⟩
  rw [ended, State.lop0Ended]
  generalize ((s.setFld Fld.RFE_CAL_STATUS_STATE 0).setFld Fld.CAL_ARR_CTRL_ABORT 0).setFld Fld.CAL_ARR_CTRL_GO 0 = u at *
  obtain ⟨x, rfl⟩ := side
  rw [State.lopEnd_room (s := { s with regs := x, cal := { s.cal with lop0 := none } }) (room.congr rfl rfl) (by decide), Nat.zero_add]
  rfl

theorem State.lop0Ended_shows (s : State) {st err : Nat} (hs : st < 8) (he : err < 32) (e : List EventRec) : (s.lop0Ended st err e).lopState 0 = st ∧
    (s.lop0Ended st err e).fld (Fld.LOP_STATn_ERR 0) = err ∧ (s.lop0Ended st err e).on Fld.CAL_ARR_CTRL_GO = false ∧
    s.lop0Ended st err e = { s with regs := (s.lop0Ended st err e).regs, raise := e, cal := { s.cal with lop0 := none } } ∧
    s.regsBut (s.lop0Ended st err e) arrRegs := by
  have regs : s.regsBut (((s.setFld Fld.RFE_CAL_STATUS_STATE 0).setFld Fld.CAL_ARR_CTRL_ABORT 0).setFld Fld.CAL_ARR_CTRL_GO 0) arrRegs :=
    (((State.regsBut.refl s _).setFld _ (by decide)).setFld _ (by decide)).setFld _ (by decide)
  have off : (((s.setFld Fld.RFE_CAL_STATUS_STATE 0).setFld Fld.CAL_ARR_CTRL_ABORT 0).setFld Fld.CAL_ARR_CTRL_GO 0).fld Fld.CAL_ARR_CTRL_GO = 0 :=
    State.fld_setFld_same _ _ _ (by decide) (by decide)
  have cut : s.lop0Ended st err e = { (((((s.setFld Fld.RFE_CAL_STATUS_STATE 0).setFld Fld.CAL_ARR_CTRL_ABORT 0).setFld Fld.CAL_ARR_CTRL_GO 0).setFld
    (Fld.LOP_STATn_STATE 0) st).setFld (Fld.LOP_STATn_ERR 0) err) with raise := e, cal := { s.cal with lop0 := none } } := rfl
  refine ⟨?_, ?_, ?_, rfl, ?_⟩
  all_goals
    rw [cut]
    generalize ((s.setFld Fld.RFE_CAL_STATUS_STATE 0).setFld Fld.CAL_ARR_CTRL_ABORT 0).setFld Fld.CAL_ARR_CTRL_GO 0 = u at *
  · exact (State.fld_setFld_ne (u.setFld (Fld.LOP_STATn_STATE 0) st) _ (Fld.LOP_STATn_STATE 0) _ (by decide) (by decide)).trans
      (State.fld_setFld_same _ _ _ (by decide) hs)
  · exact State.fld_setFld_same (u.setFld (Fld.LOP_STATn_STATE 0) st) (Fld.LOP_STATn_ERR 0) _ (by decide) he
  · refine (State.on_eq_false _ _).mpr ?_
    exact ((State.fld_setFld_ne (u.setFld (Fld.LOP_STATn_STATE 0) st) (Fld.LOP_STATn_ERR 0) Fld.CAL_ARR_CTRL_GO err (by decide) (by decide)).trans
      (State.fld_setFld_ne _ _ _ _ (by decide) (by decide))).trans off
  · exact ((regs.setFld _ (by decide)).setFld _ (by decide)).congr rfl

/-- What an end of LOP0 before its result shows. -/
theorem lop0Stopped {c : Instr} (side : s.arrBeside v) {st err : Nat} (run : exec c s = .next (v.lop0Stop st err)) (hs : st < 8) (he : err < 32) (room : s.raiseRoom 1) :
    ∃ t, exec c s = .next t ∧ t.lopState 0 = st ∧ t.fld (Fld.LOP_STATn_ERR 0) = err ∧
      t.on Fld.CAL_ARR_CTRL_GO = false ∧ t.raise = s.raise ++ [s.occurrence 0x06 (16 * st + 256 * err)] ∧
      t = { s with regs := t.regs, raise := t.raise, cal := { s.cal with lop0 := none } } ∧ s.regsBut t arrRegs := by
  have raise : v.raise ++ [v.occurrence 0x06 (16 * st + 256 * err)] = s.raise ++ [s.occurrence 0x06 (16 * st + 256 * err)] := by
    rw [side.1.eq]
    rfl
  rw [State.lop0Stop_room (room.congr (by rw [side.1.eq]) (by rw [side.1.eq])), raise] at run
  generalize s.raise ++ [s.occurrence 0x06 (16 * st + 256 * err)] = e at *
  obtain ⟨state, error, off, shape, regs⟩ := v.lop0Ended_shows hs he e
  generalize v.lop0Ended st err e = t at *
  refine ⟨t, run, state, error, off, by rw [shape], ?_, side.2.trans regs⟩
  rw [shape, side.1.eq]

theorem backgroundTimesOut {c : Lop0} (h : s.cal.lop0 = some c) (background : c.forced = false) (left : c.chips < c.total) :
    exec .backgroundCalTimeout s = .next (s.lop0Stop lopFailed 7) := by
  show execBackgroundCalTimeout s = _
  rw [execBackgroundCalTimeout, h]
  simp only [background, left, Bool.not_false, and_self, if_true]

theorem exec_calArrAbort (pass : s.passes q Reg.CAL_ARR_CTRL true) (w : Word) (busy : s.lopBusy 0 = true) :
    ∃ v, s.arrBeside v ∧ exec (.calArrAbort q w) s = .next (v.lop0Stop lopAborted 6) := by
  have run := exec_access (c := .calArrAbort q w) (f := fun s => s.calArrWrite (Fld.CAL_ARR_CTRL_ABORT.put 1 (Fld.CAL_ARR_CTRL_GO.put 0 w))) pass rfl
  have go : Fld.CAL_ARR_CTRL_GO.of (Fld.CAL_ARR_CTRL_ABORT.put 1 (Fld.CAL_ARR_CTRL_GO.put 0 w)) = 0 := by
    rw [Fld.of_put_ne _ _ _ _ (by decide) (by decide)]
    exact Fld.of_put_same _ _ _ (by decide) (by decide)
  have abort : Fld.CAL_ARR_CTRL_ABORT.of (Fld.CAL_ARR_CTRL_ABORT.put 1 (Fld.CAL_ARR_CTRL_GO.put 0 w)) = 1 := Fld.of_put_same _ _ _ (by decide) (by decide)
  generalize Fld.CAL_ARR_CTRL_ABORT.put 1 (Fld.CAL_ARR_CTRL_GO.put 0 w) = d at *
  have side : s.arrBeside (s.plainWrite Reg.CAL_ARR_CTRL (Fld.CAL_ARR_CTRL_ABORT.put 0 (Fld.CAL_ARR_CTRL_GO.put 0 d))) :=
    ⟨⟨_, rfl⟩, (State.regsBut.refl s _).plainWrite _ (by decide)⟩
  have busy' : (s.plainWrite Reg.CAL_ARR_CTRL (Fld.CAL_ARR_CTRL_ABORT.put 0 (Fld.CAL_ARR_CTRL_GO.put 0 d))).lopBusy 0 = true :=
    (lopBusy_of_fld (State.fld_wr_ne _ _ _ _ (by decide))).trans busy
  rw [State.calArrWrite] at run
  simp only [go, Nat.reduceBEq, Bool.false_and, Bool.false_eq_true, if_false] at run
  rw [if_pos ⟨abort, busy'⟩] at run
  exact ⟨_, side, run⟩

end Sys2Proof.Machine

/-!
PROOFS. The result of an array calibration (O50).
-/

namespace Sys2Proof.Machine

variable {s t u v : State} {as : List Nat} {a g n m k p : Nat} {q : Requester} {d w : Word}

/-! ### Fields of bytes -/

theorem leNat_leBytes (n v : Nat) : leNat (leBytes n v) = v % 256 ^ n := by
  induction n generalizing v with
  | zero => simp [leBytes, leNat, Nat.mod_one]
  | succ n ih =>
    rw [leBytes, leNat, ih, BitVec.toNat_ofNat, show 256 ^ (n + 1) = 256 * 256 ^ n from Nat.pow_succ', Nat.mod_mul]

theorem fieldAt_append_right (xs ys : List Byte) (n : Nat) (h : k = xs.length + m) : fieldAt (xs ++ ys) k n = fieldAt ys m n := by
  rw [fieldAt, bytesAt, List.drop_append, List.drop_eq_nil_of_le (by omega), List.nil_append, show k - xs.length = m by omega, fieldAt, bytesAt]

theorem fieldAt_append_left (xs ys : List Byte) (h : k + n ≤ xs.length) : fieldAt (xs ++ ys) k n = fieldAt xs k n := by
  rw [fieldAt, bytesAt, List.drop_append_of_le_length (by omega), List.take_append_of_le_length (by rw [List.length_drop]; omega), fieldAt, bytesAt]

theorem fieldAt_leBytes (n v : Nat) (ys : List Byte) : fieldAt (leBytes n v ++ ys) 0 n = v % 256 ^ n := by
  rw [fieldAt_append_left _ _ (by rw [leBytes_length]; omega), fieldAt, bytesAt_all _ (leBytes_length n v), leNat_leBytes]

/-- A field of the `i`-th of blocks of `c` bytes. -/
theorem fieldAt_flatMap {α : Type} (f : α → List Byte) {c : Nat} (hc : ∀ x, (f x).length = c) (ys : List Byte) {r : Nat} (hr : r + n ≤ c) :
    ∀ (l : List α) (i : Nat) (x : α), l[i]? = some x → fieldAt (l.flatMap f ++ ys) (c * i + r) n = fieldAt (f x) r n
  | [], i, x, h => by simp at h
  | y :: l, 0, x, h => by
    obtain rfl : y = x := by simpa using h
    rw [List.flatMap_cons, List.append_assoc, Nat.mul_zero, Nat.zero_add, fieldAt_append_left _ _ (by rw [hc]; exact hr)]
  | y :: l, i + 1, x, h => by
    rw [List.flatMap_cons, List.append_assoc, fieldAt_append_right _ _ _ (m := c * i + r) (by rw [hc, Nat.mul_add]; omega)]
    exact fieldAt_flatMap f hc ys hr l i x (by simpa using h)

theorem fieldAt_word_low (w : Word) (ys : List Byte) : fieldAt (leBytes 4 w.toNat ++ ys) 0 2 = w.toNat % 65536 := by
  have cut : leBytes 4 w.toNat = leBytes 2 w.toNat ++ leBytes 2 (w.toNat / 256 / 256) := rfl
  rw [cut, List.append_assoc, fieldAt_leBytes]
  rfl

theorem fieldAt_word_high (w : Word) (ys : List Byte) : fieldAt (leBytes 4 w.toNat ++ ys) 2 2 = w.toNat / 65536 := by
  have cut : leBytes 4 w.toNat = leBytes 2 w.toNat ++ leBytes 2 (w.toNat / 256 / 256) := rfl
  have small := w.isLt
  rw [cut, List.append_assoc, fieldAt_append_right _ _ _ (m := 0) (by rw [leBytes_length]), fieldAt_leBytes]
  omega

/-- The fields of four words. -/
theorem fieldAt_fourWords (a b c d : Word) : fieldAt (wordsToBytes [a, b, c, d]) 0 4 = a.toNat ∧ fieldAt (wordsToBytes [a, b, c, d]) 4 4 = b.toNat ∧
    fieldAt (wordsToBytes [a, b, c, d]) 8 4 = c.toNat ∧ fieldAt (wordsToBytes [a, b, c, d]) 8 2 = c.toNat % 65536 ∧
    fieldAt (wordsToBytes [a, b, c, d]) 10 2 = c.toNat / 65536 := by
  have whole (w : Word) : w.toNat % 256 ^ 4 = w.toNat := Nat.mod_eq_of_lt w.isLt
  simp only [wordsToBytes]
  refine ⟨?_, ?_, ?_, ?_, ?_⟩
  · rw [fieldAt_leBytes, whole]
  · rw [fieldAt_append_right _ _ _ (m := 0) (by rw [leBytes_length]), fieldAt_leBytes, whole]
  · rw [fieldAt_append_right _ _ _ (m := 4) (by rw [leBytes_length]), fieldAt_append_right _ _ _ (m := 0) (by rw [leBytes_length]), fieldAt_leBytes, whole]
  · rw [fieldAt_append_right _ _ _ (m := 4) (by rw [leBytes_length]), fieldAt_append_right _ _ _ (m := 0) (by rw [leBytes_length]), fieldAt_word_low]
  · rw [fieldAt_append_right _ _ _ (m := 6) (by rw [leBytes_length]), fieldAt_append_right _ _ _ (m := 2) (by rw [leBytes_length]), fieldAt_word_high]

theorem fourWords_length (a b c d : Word) : (wordsToBytes [a, b, c, d]).length = 16 := by rw [wordsToBytes_length]; rfl

/-! ### The result (R352) -/

/-- The words of a path in the result. -/
theorem State.lop0Words_four (s : State) (c : Lop0) (p : Nat) (m : PathCal) : ∃ x y z z', s.lop0Words c p m = [x, y, z, z'] := by
  unfold State.lop0Words
  dsimp only
  split_ifs <;> exact ⟨_, _, _, _, rfl⟩

theorem State.lop0Words_length (s : State) (c : Lop0) (p : Nat) (m : PathCal) : (wordsToBytes (s.lop0Words c p m)).length = 16 := by
  obtain ⟨x, y, z, z', h⟩ := s.lop0Words_four c p m
  rw [h, fourWords_length]

/-- The result's parts: the header, the paths' words, and what the paths' measurements are worth. -/
def State.resultHead (s : State) (c : Lop0) : List Byte :=
  wordsToBytes [BitVec.ofNat 32 (2 ^ 31 + 65536 * entryBand (s.chanEntry c.chan) + c.chan), BitVec.ofNat 32 (256 * c.refPath + c.groups), BitVec.ofNat 32 s.air, 0#32] ++
    List.replicate 240 0#8

def State.resultWords (s : State) (c : Lop0) (m : Nat → PathCal) : List Byte := (List.range 64).flatMap (fun p => wordsToBytes (s.lop0Words c p (m p)))

def resultWorth (c : Lop0) (m : Nat → PathCal) : List Byte :=
  (List.range 64).flatMap (fun p => [(m p).txSnr, (m p).rxSnr, BitVec.ofNat 8 (bit (c.txOut p (m p)) + 2 * bit (c.rxOut p (m p))), 0#8])

theorem State.lop0Result_eq (s : State) (c : Lop0) (m : Nat → PathCal) : s.lop0Result c m = s.resultHead c ++ s.resultWords c m ++ resultWorth c m := rfl

theorem State.resultHead_length (s : State) (c : Lop0) : (s.resultHead c).length = 256 := by
  rw [State.resultHead, List.length_append, fourWords_length, List.length_replicate]

theorem State.resultWords_length (s : State) (c : Lop0) (m : Nat → PathCal) : (s.resultWords c m).length = 1024 := by
  rw [State.resultWords, flatMap_length_const (c := 16) _ _ fun p => s.lop0Words_length c p (m p), List.length_range]

theorem State.lop0Result_length (s : State) (c : Lop0) (m : Nat → PathCal) : (s.lop0Result c m).length = 1536 := by
  rw [State.lop0Result_eq, List.length_append, List.length_append, s.resultHead_length, s.resultWords_length, resultWorth,
    flatMap_length_const (c := 4) _ _ fun p => rfl, List.length_range]

/-- The header of the result. -/
theorem State.lop0Result_head (s : State) (c : Lop0) (m : Nat → PathCal) :
    fieldAt (s.lop0Result c m) 0 4 = (2 ^ 31 + 65536 * entryBand (s.chanEntry c.chan) + c.chan) % 2 ^ 32 ∧ fieldAt (s.lop0Result c m) 8 4 = s.air % 2 ^ 32 := by
  obtain ⟨one, -, three, -⟩ := fieldAt_fourWords (BitVec.ofNat 32 (2 ^ 31 + 65536 * entryBand (s.chanEntry c.chan) + c.chan)) (BitVec.ofNat 32 (256 * c.refPath + c.groups))
    (BitVec.ofNat 32 s.air) 0#32
  rw [BitVec.toNat_ofNat] at one three
  rw [State.lop0Result_eq, State.resultHead, List.append_assoc, List.append_assoc]
  constructor
  · rw [fieldAt_append_left _ _ (by rw [fourWords_length]; omega), one]
  · rw [fieldAt_append_left _ _ (by rw [fourWords_length]; omega), three]

/-- The words of path `p` in the result. -/
theorem State.lop0Result_path (s : State) (c : Lop0) (m : Nat → PathCal) (hp : p < 64) {r : Nat} (hr : r + n ≤ 16) (hk : k = 256 + 16 * p + r) :
    fieldAt (s.lop0Result c m) k n = fieldAt (wordsToBytes (s.lop0Words c p (m p))) r n := by
  rw [State.lop0Result_eq, List.append_assoc, fieldAt_append_right _ _ _ (m := 16 * p + r) (by rw [s.resultHead_length]; omega), State.resultWords,
    fieldAt_flatMap _ (fun p => s.lop0Words_length c p (m p)) _ hr _ p p (List.getElem?_range hp)]

theorem fieldAt_one (x : Byte) (ys : List Byte) : fieldAt (x :: ys) 0 1 = x.toNat := by
  simp [fieldAt, bytesAt, leNat]

theorem fieldAt_second (x y : Byte) (ys : List Byte) : fieldAt (x :: y :: ys) 1 1 = y.toNat := by
  simp [fieldAt, bytesAt, leNat]

theorem State.lop0Result_worth (s : State) (c : Lop0) (m : Nat → PathCal) (hp : p < 64) :
    fieldAt (s.lop0Result c m) (1280 + 4 * p) 1 = (m p).txSnr.toNat ∧ fieldAt (s.lop0Result c m) (1281 + 4 * p) 1 = (m p).rxSnr.toNat := by
  have at' {r : Nat} (hr : r + 1 ≤ 4) : fieldAt (s.lop0Result c m) (1280 + 4 * p + r) 1 =
      fieldAt [(m p).txSnr, (m p).rxSnr, BitVec.ofNat 8 (bit (c.txOut p (m p)) + 2 * bit (c.rxOut p (m p))), 0#8] r 1 := by
    have block := fieldAt_flatMap (fun p => [(m p).txSnr, (m p).rxSnr, BitVec.ofNat 8 (bit (c.txOut p (m p)) + 2 * bit (c.rxOut p (m p))), 0#8]) (c := 4) (fun _ => rfl) []
      hr _ p p (List.getElem?_range hp)
    rw [List.append_nil] at block
    rw [State.lop0Result_eq, fieldAt_append_right _ _ _ (m := 4 * p + r) (by rw [List.length_append, s.resultHead_length, s.resultWords_length]; omega), resultWorth, block]
  exact ⟨(at' (r := 0) (by decide)).trans (fieldAt_one _ _), (show 1280 + 4 * p + 1 = 1281 + 4 * p by omega) ▸ (at' (r := 1) (by decide)).trans (fieldAt_second _ _ _)⟩

theorem State.lop0Words_outside (s : State) (c : Lop0) (x : PathCal) (h : bitOf c.groups (p / 8) = false) :
    s.lop0Words c p x = [0x4000#32, 0x4000#32, 0#32, 0#32] := by
  rw [State.lop0Words, h]
  rfl

/-- A path that is measured both ways takes its correction. -/
theorem State.lop0Words_measured (s : State) (c : Lop0) (x : PathCal) (h : bitOf c.groups (p / 8) = true) (both : c.dir = 0) (other : p ≠ c.refPath)
    (tx : c.txOut p x = false) (rx : c.rxOut p x = false) : s.lop0Words c p x = [corrCode x.txRe x.txIm, corrCode x.rxRe x.rxIm,
      BitVec.ofNat 32 (toCode 10 (delayCode x.txTau) + 65536 * toCode 10 (delayCode x.rxTau)), 0#32] := by
  have ref : (p == c.refPath) = false := beq_false_of_ne other
  rw [State.lop0Words]
  simp only [h, both, ref, tx, rx]
  rfl

theorem toCode_lt (n : Nat) (x : Int) : toCode n x < 2 ^ n := by
  have positive : (0 : Int) < (2 ^ n : Nat) := Int.natCast_pos.mpr (Nat.two_pow_pos n)
  have := Int.emod_lt_of_pos x positive
  have := Int.emod_nonneg x (Int.ne_of_gt positive)
  rw [toCode]
  omega

theorem State.lop0Result_measured (s : State) (c : Lop0) (m : Nat → PathCal) (hp : p < 64) (h : bitOf c.groups (p / 8) = true) (both : c.dir = 0)
    (other : p ≠ c.refPath) (tx : c.txOut p (m p) = false) (rx : c.rxOut p (m p) = false) :
    fieldAt (s.lop0Result c m) (256 + 16 * p) 4 = (corrCode (m p).txRe (m p).txIm).toNat ∧
    fieldAt (s.lop0Result c m) (260 + 16 * p) 4 = (corrCode (m p).rxRe (m p).rxIm).toNat ∧
    fieldAt (s.lop0Result c m) (264 + 16 * p) 2 = toCode 10 (delayCode (m p).txTau) ∧
    fieldAt (s.lop0Result c m) (266 + 16 * p) 2 = toCode 10 (delayCode (m p).rxTau) := by
  have low := toCode_lt 10 (delayCode (m p).txTau)
  have high := toCode_lt 10 (delayCode (m p).rxTau)
  obtain ⟨one, two, -, three, four⟩ := fieldAt_fourWords (corrCode (m p).txRe (m p).txIm) (corrCode (m p).rxRe (m p).rxIm)
    (BitVec.ofNat 32 (toCode 10 (delayCode (m p).txTau) + 65536 * toCode 10 (delayCode (m p).rxTau))) 0#32
  rw [BitVec.toNat_ofNat] at three four
  rw [← s.lop0Words_measured c (m p) h both other tx rx] at one two three four
  refine ⟨(s.lop0Result_path c m hp (r := 0) (by decide) rfl).trans one, (s.lop0Result_path c m hp (r := 4) (by decide) (by omega)).trans two,
    (s.lop0Result_path c m hp (r := 8) (by decide) (by omega)).trans (three.trans ?_), (s.lop0Result_path c m hp (r := 10) (by decide) (by omega)).trans (four.trans ?_)⟩
  · omega
  · omega

theorem State.lop0Result_outside (s : State) (c : Lop0) (m : Nat → PathCal) (hp : p < 64) (h : bitOf c.groups (p / 8) = false) :
    fieldAt (s.lop0Result c m) (256 + 16 * p) 4 = 0x4000 ∧ fieldAt (s.lop0Result c m) (260 + 16 * p) 4 = 0x4000 ∧
    fieldAt (s.lop0Result c m) (264 + 16 * p) 4 = 0 := by
  obtain ⟨one, two, three, -⟩ := fieldAt_fourWords 0x4000#32 0x4000#32 0#32 0#32
  rw [← s.lop0Words_outside c (m p) h] at one two three
  exact ⟨(s.lop0Result_path c m hp (r := 0) (by decide) rfl).trans one, (s.lop0Result_path c m hp (r := 4) (by decide) (by omega)).trans two,
    (s.lop0Result_path c m hp (r := 8) (by decide) (by omega)).trans three⟩

/-! ### The end of LOP0 (R348, R352, R359) -/

/-- The findings of the paths. -/
def findings (ms : List PathCal) (p : Nat) : PathCal := ms.getD p ⟨2 ^ 30, 0, 0, 2 ^ 30, 0, 0, 0, 0⟩

theorem findings_of {ms : List PathCal} {x : PathCal} (h : ms[p]? = some x) : findings ms p = x := by
  rw [findings, List.getD_eq_getElem?_getD, h, Option.getD_some]

/-- No finding is an outlier. -/
def noOutlier (c : Lop0) (ms : List PathCal) : Prop := ∀ p < 64, c.txOut p (findings ms p) = false ∧ c.rxOut p (findings ms p) = false

theorem noOutlier_of {c : Lop0} {ms : List PathCal} (len : ms.length = 64) (h : ∀ p < 64, ∀ m, ms[p]? = some m → c.txOut p m = false ∧ c.rxOut p m = false) :
    noOutlier c ms := fun p hp => by
  have some' : ms[p]? = some (ms[p]'(by omega)) := List.getElem?_eq_getElem _
  rw [findings_of some']
  exact h p hp _ some'

/-- The events of the outliers. -/
def State.outlierEvents (s : State) (c : Lop0) (m : Nat → PathCal) : State :=
  (List.range 64).foldl (fun s p =>
    let inSet := bitOf c.groups (p / 8)
    let s := if inSet && decide (c.dir ≤ 1) && c.txOut p (m p) then s.event 0xC9 p else s
    if inSet && decide (c.dir ≠ 1) && c.rxOut p (m p) then s.event 0xC9 (p + 256) else s) s

theorem State.outlierEvents_none {c : Lop0} {ms : List PathCal} (h : noOutlier c ms) (s : State) : s.outlierEvents c (findings ms) = s := by
  unfold State.outlierEvents
  refine foldl_keeps_mem id _ _ (fun s p hp => ?_) s
  obtain ⟨tx, rx⟩ := h p (List.mem_range.mp hp)
  simp only [tx, rx, Bool.and_false, Bool.false_eq_true, if_false]

/-- LOP0's blocks that wait for the boundary are `l`. -/
def State.applied (s : State) (l : List (Nat × List Byte)) : State := { s with cal := { s.cal with applies := l } }

theorem exec_lop0End {c : Lop0} {ms : List PathCal} (h : s.cal.lop0 = some c) (complete : c.total ≤ c.chips) (none' : noOutlier c ms)
    (range : s.storeRange c.dest 1536 = true) (clean : s.ecc = []) (mode : s.fld Fld.CST_ECC_INJ_MODE = 0) {b : List Byte} (hb : b = s.lop0Result c (findings ms)) {y : State}
    (hy : y = (((s.putStore c.dest b).lop0Stop lopDone 0).calDone).event 0xC2 (c.groups + 256 * c.dir + 1024 * c.point + 65536 * bit c.apply)) :
    exec (.lop0End ms) s = .next (if c.apply then y.applied (y.cal.applies ++ [(c.point, b.take 1280)]) else y) := by
  have cut : exec (.lop0End ms) s = .next (match s.cal.lop0 with
      | some c =>
        if c.total ≤ c.chips then
          let b := s.lop0Result c (findings ms)
          let s := s.outlierEvents c (findings ms)
          let s := if s.storeRange c.dest 1536 then s.storePut c.dest b reqFabric else s
          let s := (s.lop0Stop lopDone 0).calDone
          let s := s.event 0xC2 (c.groups + 256 * c.dir + 1024 * c.point + 65536 * bit c.apply)
          if c.apply then { s with cal := { s.cal with applies := s.cal.applies ++ [(c.point, b.take 1280)] } } else s
        else s
      | none => s) := rfl
  rw [cut, h]
  dsimp only
  rw [if_pos complete, State.outlierEvents_none none', if_pos range, s.storePut_clean clean mode, ← hb, ← hy, State.applied]

theorem State.calDone_shows (s : State) : s.beside s.calDone ∧
    s.calDone.fld Fld.CAL_COUNT_COUNT = min (2 ^ Fld.CAL_COUNT_COUNT.width - 1) (s.fld Fld.CAL_COUNT_COUNT + 1) ∧
    (s.calDone.rd Reg.CAL_LAST_ATIME_LO).toNat = s.air % 2 ^ 32 ∧
    s.regsBut s.calDone [Reg.CAL_COUNT, Reg.CAL_LAST_ATIME_LO, Reg.CAL_LAST_ATIME_HI] := by
  refine ⟨⟨_, rfl⟩, ?_, ?_, (((State.regsBut.refl s _).count _ (by simp)).wr _ (by simp)).wr _ (by simp)⟩
  · rw [State.calDone, State.fld_wr_ne _ _ _ _ (by decide), State.fld_wr_ne _ _ _ _ (by decide)]
    exact State.fld_count_same _ _ _ (by decide)
  · rw [State.calDone, State.rd_wr_ne _ _ (by decide), State.rd_wr_same, BitVec.toNat_ofNat]

theorem State.applied_shows (s : State) (e : List EventRec) (l : List (Nat × List Byte)) :
    (State.applied { s with raise := e } l) = { s with raise := e, cal := { s.cal with applies := l } } := rfl

/-- LOP0 has ended DONE with `b` at `c.dest`; `l` waits for the boundary. -/
theorem lop0Ends {c : Lop0} {b : List Byte} {l : List (Nat × List Byte)} {i : Instr} (room : s.raiseRoom 2) (len : b.length = 1536)
    (run : ∀ y, y = (((s.putStore c.dest b).lop0Stop lopDone 0).calDone).event 0xC2 (c.groups + 256 * c.dir + 1024 * c.point + 65536 * bit c.apply) →
      y.cal.applies = s.cal.applies → exec i s = .next (y.applied l)) :
    ∃ t, exec i s = .next t ∧ t.lopState 0 = lopDone ∧ t.fld (Fld.LOP_STATn_ERR 0) = 0 ∧
      t.on Fld.CAL_ARR_CTRL_GO = false ∧ t.fld Fld.CAL_COUNT_COUNT = min (2 ^ Fld.CAL_COUNT_COUNT.width - 1) (s.fld Fld.CAL_COUNT_COUNT + 1) ∧
      (t.rd Reg.CAL_LAST_ATIME_LO).toNat = s.air % 2 ^ 32 ∧
      t.raise = s.raise ++ [s.occurrence 0x06 (16 * lopDone),
        s.occurrence 0xC2 (c.groups + 256 * c.dir + 1024 * c.point + 65536 * (if c.apply then 1 else 0))] ∧
      (∀ b, b < c.dest ∨ c.dest + 1536 ≤ b → t.storeByte b = s.storeByte b) ∧ t.storeBytes c.dest 1536 = b ∧ t.cal.applies = l ∧
      t = { s with regs := t.regs, store := t.store, raise := t.raise, cal := { s.cal with lop0 := none, applies := t.cal.applies } } ∧
      s.regsBut t [Reg.CAL_ARR_CTRL, Reg.LOP_STATn 0, Reg.RFE_CAL_STATUS, Reg.CAL_COUNT, Reg.CAL_LAST_ATIME_LO, Reg.CAL_LAST_ATIME_HI] := by
  have bytes := s.storeBytes_putStore c.dest b
  have out (a : Nat) := s.storeByte_putStore_out c.dest a b
  rw [len] at bytes out
  have frame : ∃ y, s.putStore c.dest b = { s with store := y } := ⟨_, rfl⟩
  obtain ⟨y, frame⟩ := frame
  generalize s.putStore c.dest b = v at *
  have base : s.regsBut v [] := State.regsBut.of_regs (by rw [frame]) _
  have first : s.regsBut v [Reg.CAL_ARR_CTRL, Reg.LOP_STATn 0, Reg.RFE_CAL_STATUS, Reg.CAL_COUNT, Reg.CAL_LAST_ATIME_LO, Reg.CAL_LAST_ATIME_HI] :=
    State.regsBut.of_regs (by rw [frame]) _
  have raise : v.raise ++ [v.occurrence 0x06 (16 * lopDone + 256 * 0)] = s.raise ++ [s.occurrence 0x06 (16 * lopDone)] := by
    rw [frame]
    rfl
  rw [State.lop0Stop_room ((room.mono (by decide)).congr (by rw [frame]) (by rw [frame])), raise] at run
  obtain ⟨state, err, off, shape, regs⟩ := v.lop0Ended_shows (st := lopDone) (err := 0) (by decide) (by decide) (s.raise ++ [s.occurrence 0x06 (16 * lopDone)])
  generalize v.lop0Ended lopDone 0 (s.raise ++ [s.occurrence 0x06 (16 * lopDone)]) = w at *
  have second := first.trans (regs.mono (bs := [Reg.CAL_ARR_CTRL, Reg.LOP_STATn 0, Reg.RFE_CAL_STATUS, Reg.CAL_COUNT, Reg.CAL_LAST_ATIME_LO, Reg.CAL_LAST_ATIME_HI])
    (by decide))
  obtain ⟨side, count, time, regs'⟩ := w.calDone_shows
  generalize w.calDone = x at *
  have own : x = { s with regs := x.regs, store := y, raise := s.raise ++ [s.occurrence 0x06 (16 * lopDone)], cal := { s.cal with lop0 := none } } := by
    rw [side.eq, shape, frame]
  have third := second.trans (regs'.mono (bs := [Reg.CAL_ARR_CTRL, Reg.LOP_STATn 0, Reg.RFE_CAL_STATUS, Reg.CAL_COUNT, Reg.CAL_LAST_ATIME_LO, Reg.CAL_LAST_ATIME_HI])
    (by decide))
  have room' : x.raiseRoom 1 := by
    refine ⟨by rw [own]; exact room.1, ?_⟩
    rw [own]
    have := room.2
    simp only [List.length_append, List.length_cons, List.length_nil]
    omega
  have last := run _ (State.event_raiseRoom room' (by decide) _ _).symm (by rw [own])
  have airs : w.air = s.air := by rw [shape, frame]
  have stored : x.store = v.store := by rw [own, frame]
  rw [State.applied_shows] at last
  have rds (e : List EventRec) (y : CalState) (a : Nat) : ({ x with raise := e, cal := y } : State).rd a = x.rd a := rfl
  have fields (e : List EventRec) (y : CalState) (f : Fld) : ({ x with raise := e, cal := y } : State).fld f = x.fld f := State.fld_congr (rds _ _ _)
  refine ⟨_, last, ?_, ?_, ?_, ?_, ?_, ?_, fun a ha => ?_, ?_, rfl, ?_, fun a ha => (rds _ _ a).trans (third a ha)⟩
  · rw [State.lopState, fields, regs'.fld _ (by decide)]
    exact state
  · rw [fields, regs'.fld _ (by decide), err]
  · rw [State.on, fields, regs'.fld _ (by decide)]
    exact off
  · rw [fields, count, regs.fld _ (by decide), base.fld _ List.not_mem_nil]
  · rw [rds, time, airs]
  · rw [own]
    simp only [List.append_assoc, bit]
    rfl
  · rw [State.storeByte, stored]
    exact out a ha
  · rw [State.storeBytes, stored]
    exact bytes
  · rw [own]

/-- What the block that LOP0 leaves in the store holds. -/
theorem lop0Block {c : Lop0} {ms : List PathCal} (none' : noOutlier c ms) {b : List Byte} (hb : b = s.lop0Result c (findings ms)) :
    fieldAt b 0 4 = (2 ^ 31 + 65536 * entryBand (s.chanEntry c.chan) + c.chan) % 2 ^ 32 ∧ fieldAt b 8 4 = s.air % 2 ^ 32 ∧
    ∀ p < 64, (∀ m, ms[p]? = some m → fieldAt b (1280 + 4 * p) 1 = m.txSnr.toNat ∧ fieldAt b (1281 + 4 * p) 1 = m.rxSnr.toNat ∧
        (bitOf c.groups (p / 8) = true → c.dir = 0 → p ≠ c.refPath →
          fieldAt b (256 + 16 * p) 4 = (corrCode m.txRe m.txIm).toNat ∧ fieldAt b (260 + 16 * p) 4 = (corrCode m.rxRe m.rxIm).toNat ∧
          fieldAt b (264 + 16 * p) 2 = toCode 10 (delayCode m.txTau) ∧ fieldAt b (266 + 16 * p) 2 = toCode 10 (delayCode m.rxTau))) ∧
      (bitOf c.groups (p / 8) = false → fieldAt b (256 + 16 * p) 4 = 0x4000 ∧ fieldAt b (260 + 16 * p) 4 = 0x4000 ∧ fieldAt b (264 + 16 * p) 4 = 0) := by
  obtain ⟨head, time⟩ := s.lop0Result_head c (findings ms)
  subst hb
  refine ⟨head, time, fun p hp => ⟨fun m hm => ?_, fun out => s.lop0Result_outside c (findings ms) hp out⟩⟩
  obtain ⟨tx, rx⟩ := s.lop0Result_worth c (findings ms) hp
  have found := fun h both other => s.lop0Result_measured c (findings ms) hp h both other (none' p hp).1 (none' p hp).2
  rw [findings_of hm] at tx rx found
  exact ⟨tx, rx, found⟩

theorem arrayCalibrationEnds {c : Lop0} {ms : List PathCal} (h : s.cal.lop0 = some c) (complete : c.total ≤ c.chips) (len : ms.length = 64)
    (good : ∀ p < 64, ∀ m, ms[p]? = some m → c.txOut p m = false ∧ c.rxOut p m = false) (range : s.storeRange c.dest 1536 = true) (clean : s.ecc = [])
    (mode : s.fld Fld.CST_ECC_INJ_MODE = 0) (room : s.raiseRoom 2) :
    ∃ t, exec (.lop0End ms) s = .next t ∧ t.lopState 0 = lopDone ∧ t.fld (Fld.LOP_STATn_ERR 0) = 0 ∧
      t.on Fld.CAL_ARR_CTRL_GO = false ∧ t.fld Fld.CAL_COUNT_COUNT = min (2 ^ Fld.CAL_COUNT_COUNT.width - 1) (s.fld Fld.CAL_COUNT_COUNT + 1) ∧
      (t.rd Reg.CAL_LAST_ATIME_LO).toNat = s.air % 2 ^ 32 ∧
      t.raise = s.raise ++ [s.occurrence 0x06 (16 * lopDone),
        s.occurrence 0xC2 (c.groups + 256 * c.dir + 1024 * c.point + 65536 * (if c.apply then 1 else 0))] ∧
      (∀ b, b < c.dest ∨ c.dest + 1536 ≤ b → t.storeByte b = s.storeByte b) ∧
      (∀ b, b = t.storeBytes c.dest 1536 →
        fieldAt b 0 4 = (2 ^ 31 + 65536 * entryBand (s.chanEntry c.chan) + c.chan) % 2 ^ 32 ∧
        fieldAt b 8 4 = s.air % 2 ^ 32 ∧
        t.cal.applies = (if c.apply then s.cal.applies ++ [(c.point, b.take 1280)] else s.cal.applies) ∧
        (∀ p < 64, (∀ m, ms[p]? = some m →
          fieldAt b (1280 + 4 * p) 1 = m.txSnr.toNat ∧ fieldAt b (1281 + 4 * p) 1 = m.rxSnr.toNat ∧
          (bitOf c.groups (p / 8) = true → c.dir = 0 → p ≠ c.refPath →
            fieldAt b (256 + 16 * p) 4 = (corrCode m.txRe m.txIm).toNat ∧ fieldAt b (260 + 16 * p) 4 = (corrCode m.rxRe m.rxIm).toNat ∧
            fieldAt b (264 + 16 * p) 2 = toCode 10 (delayCode m.txTau) ∧ fieldAt b (266 + 16 * p) 2 = toCode 10 (delayCode m.rxTau))) ∧
          (bitOf c.groups (p / 8) = false → fieldAt b (256 + 16 * p) 4 = 0x4000 ∧ fieldAt b (260 + 16 * p) 4 = 0x4000 ∧
            fieldAt b (264 + 16 * p) 4 = 0))) ∧
      t = { s with regs := t.regs, store := t.store, raise := t.raise, cal := { s.cal with lop0 := none, applies := t.cal.applies } } ∧
      s.regsBut t [Reg.CAL_ARR_CTRL, Reg.LOP_STATn 0, Reg.RFE_CAL_STATUS, Reg.CAL_COUNT, Reg.CAL_LAST_ATIME_LO, Reg.CAL_LAST_ATIME_HI] := by
  have none' := noOutlier_of len good
  obtain ⟨b, hb⟩ : ∃ b, b = s.lop0Result c (findings ms) := ⟨_, rfl⟩
  have size : b.length = 1536 := by rw [hb, s.lop0Result_length]
  have keeps (y : State) : y.applied y.cal.applies = y := rfl
  obtain ⟨t, run, state, err, off, count, time, raise, out, bytes, applies, shape, regs⟩ := lop0Ends (c := c) (b := b)
    (l := if c.apply then s.cal.applies ++ [(c.point, b.take 1280)] else s.cal.applies) (i := .lop0End ms) room size (fun y hy same => by
      rw [exec_lop0End h complete none' range clean mode hb hy, same]
      split_ifs
      · rfl
      · rw [← same, keeps])
  obtain ⟨head, clock, paths⟩ := lop0Block none' hb
  refine ⟨t, run, state, err, off, count, time, raise, out, ?_, shape, regs⟩
  rintro x rfl
  rw [bytes]
  exact ⟨head, clock, applies, paths⟩

/-- Settles O50: a GO that R348 allows begins LOP0, sequences and forced slots run, and LOP0 ends with its result in the store, or early. -/
theorem arrayCalibrationMeasures : Obligations.ArrayCalibrationMeasures := by
  unfold Obligations.ArrayCalibrationMeasures
  intro q w s
  refine ⟨fun pass busy => calArr_overrun pass w busy, ?_, fun b calibrates => locLocks b calibrates,
    fun o xs c h alone run range clean mode => sequenceEnds o xs h alone run range clean mode, fun a x rest slots => ⟨?_, fun more => slotEnds slots more, ?_⟩,
    fun c h => ⟨fun background left room => lop0Stopped ⟨.refl s, .refl s _⟩ (backgroundTimesOut h background left) (by decide) (by decide) room, ?_, ?_⟩⟩
  · rintro v rfl c rfl set rfl rep rfl dir rfl a rfl total rfl n rfl pass idle some' usable ref dsp cst free dest alone
    have allowed : s.arrAllowed := ⟨idle, some', usable, ref, dsp, cst, free, dest, alone⟩
    exact ⟨fun mode few => calArr_background pass allowed mode few, fun mode few early late room => calArr_forced pass allowed mode few early late room⟩
  · exact fun c n h hn forced alone few locked => forcedSlotRuns slots h hn forced alone few locked
  · rintro rfl room
    exact lastSlotEnds slots room
  · intro pass busy room
    obtain ⟨v, side, run⟩ := exec_calArrAbort pass w busy
    exact lop0Stopped side run (by decide) (by decide) room
  · exact fun ms complete len good range clean mode room => arrayCalibrationEnds h complete len good range clean mode room

end Sys2Proof.Machine

/-!
PROOFS. Loads of correction points (R345, O51).
-/

namespace Sys2Proof.Machine

variable {s t u v : State} {as : List Nat} {a g n m k p : Nat} {q : Requester} {d w : Word}

/-! ### Point loads (R345) -/

theorem calLoad_overrun (pass : s.passes q Reg.CAL_LOAD_CTRL true) (w : Word) (busy : s.on Fld.CAL_LOAD_CTRL_GO = true) :
    ∃ t, exec (.calLoadGo q w) s = .next t ∧ t.on Fld.CAL_LOAD_CTRL_OVERRUN = true ∧ s.onlyRegs t [Reg.CAL_LOAD_CTRL] := by
  have run := exec_access (c := .calLoadGo q w) (f := fun s => s.calLoadWrite (Fld.CAL_LOAD_CTRL_GO.put 1 w)) pass rfl
  have go : Fld.CAL_LOAD_CTRL_GO.of (Fld.CAL_LOAD_CTRL_GO.put 1 w) = 1 := Fld.of_put_same _ _ _ (by decide) (by decide)
  rw [State.calLoadWrite] at run
  simp only [go, busy, Nat.reduceBEq, Bool.and_self, if_true] at run
  exact ⟨_, run, State.on_setFld_one _ _ (by decide) (by decide), rfl, (State.regsBut.refl s _).setFld _ (by simp)⟩

/-- The point load is `x` with the block `b`. -/
def State.loadAt (s : State) (x : Option (Nat × Nat)) (b : List Byte) : State := { s with cal := { s.cal with load := x, block := b } }

theorem State.loadAt_shape (s : State) (x : Option (Nat × Nat)) (b : List Byte) : s.loadAt x b = { s with cal := { s.cal with load := x, block := b } } := rfl

theorem calLoad_started (pass : s.passes q Reg.CAL_LOAD_CTRL true) (w : Word) (idle : s.on Fld.CAL_LOAD_CTRL_GO = false)
    (range : s.storeRange (s.fld Fld.CAL_LOAD_ADDR_ADDR) 1280 = true) :
    ∃ t, exec (.calLoadGo q w) s = .next t ∧ t.on Fld.CAL_LOAD_CTRL_GO = true ∧
      t.fld Fld.CAL_LOAD_CTRL_POINT = Fld.CAL_LOAD_CTRL_POINT.of w ∧
      t = { s with regs := t.regs, cal := { s.cal with load := some (Fld.CAL_LOAD_CTRL_POINT.of w, s.fld Fld.CAL_LOAD_ADDR_ADDR), block := [] } } ∧
      s.regsBut t [Reg.CAL_LOAD_CTRL] := by
  have run := exec_access (c := .calLoadGo q w) (f := fun s => s.calLoadWrite (Fld.CAL_LOAD_CTRL_GO.put 1 w)) pass rfl
  have go : Fld.CAL_LOAD_CTRL_GO.of (Fld.CAL_LOAD_CTRL_GO.put 1 w) = 1 := Fld.of_put_same _ _ _ (by decide) (by decide)
  have point := (s.fld_plainWrite_plain (f := Fld.CAL_LOAD_CTRL_POINT) (by decide) (Fld.CAL_LOAD_CTRL_GO.put 0 (Fld.CAL_LOAD_CTRL_GO.put 1 w))).trans
    (show _ = Fld.CAL_LOAD_CTRL_POINT.of w by rw [Fld.of_put_ne _ _ _ _ (by decide) (by decide), Fld.of_put_ne _ _ _ _ (by decide) (by decide)])
  have regs : s.regsBut (s.plainWrite Reg.CAL_LOAD_CTRL (Fld.CAL_LOAD_CTRL_GO.put 0 (Fld.CAL_LOAD_CTRL_GO.put 1 w))) [Reg.CAL_LOAD_CTRL] :=
    (State.regsBut.refl s _).plainWrite _ (by simp)
  have side : s.beside (s.plainWrite Reg.CAL_LOAD_CTRL (Fld.CAL_LOAD_CTRL_GO.put 0 (Fld.CAL_LOAD_CTRL_GO.put 1 w))) := ⟨_, rfl⟩
  rw [State.calLoadWrite] at run
  simp only [go, idle, Nat.reduceBEq, Bool.and_false, Bool.false_eq_true, if_false, if_true] at run
  generalize s.plainWrite Reg.CAL_LOAD_CTRL (Fld.CAL_LOAD_CTRL_GO.put 0 (Fld.CAL_LOAD_CTRL_GO.put 1 w)) = v at *
  have addr : v.fld Fld.CAL_LOAD_ADDR_ADDR = s.fld Fld.CAL_LOAD_ADDR_ADDR := regs.fld _ (by decide)
  rw [addr, point, (side.setFld _ _).storeRange, if_pos range] at run
  replace run : exec (.calLoadGo q w) s = .next ((v.setFld Fld.CAL_LOAD_CTRL_GO 1).loadAt (some (Fld.CAL_LOAD_CTRL_POINT.of w, s.fld Fld.CAL_LOAD_ADDR_ADDR)) []) := run
  have on : (v.setFld Fld.CAL_LOAD_CTRL_GO 1).on Fld.CAL_LOAD_CTRL_GO = true := State.on_setFld_one _ _ (by decide) (by decide)
  have kept : (v.setFld Fld.CAL_LOAD_CTRL_GO 1).fld Fld.CAL_LOAD_CTRL_POINT = Fld.CAL_LOAD_CTRL_POINT.of w :=
    (State.fld_setFld_ne _ _ _ _ (by decide) (by decide)).trans point
  replace regs : s.regsBut (v.setFld Fld.CAL_LOAD_CTRL_GO 1) [Reg.CAL_LOAD_CTRL] := regs.setFld _ (by simp)
  replace side : s.beside (v.setFld Fld.CAL_LOAD_CTRL_GO 1) := side.setFld _ _
  generalize v.setFld Fld.CAL_LOAD_CTRL_GO 1 = u at *
  obtain ⟨r, rfl⟩ := side
  exact ⟨_, run, on, kept, rfl, regs.congr rfl⟩

/-- A point load has ended with `err`; `e` is raised. -/
def State.loadFailed (s : State) (err : Nat) (e : List EventRec) : State :=
  { ((s.setFld Fld.CAL_LOAD_CTRL_ERR err).setFld Fld.CAL_LOAD_CTRL_GO 0) with raise := e, cal := { s.cal with load := none, block := [] } }

theorem State.loadFailed_shows (s : State) {err : Nat} (he : err < 16) (e : List EventRec) : (s.loadFailed err e).fld Fld.CAL_LOAD_CTRL_ERR = err ∧
    (s.loadFailed err e).on Fld.CAL_LOAD_CTRL_GO = false ∧
    s.loadFailed err e = { s with regs := (s.loadFailed err e).regs, raise := e, cal := { s.cal with load := none, block := [] } } ∧
    s.regsBut (s.loadFailed err e) [Reg.CAL_LOAD_CTRL] :=
  ⟨(State.fld_setFld_ne (s.setFld Fld.CAL_LOAD_CTRL_ERR err) Fld.CAL_LOAD_CTRL_GO Fld.CAL_LOAD_CTRL_ERR 0 (by decide) (by decide)).trans
      (State.fld_setFld_same _ _ _ (by decide) he),
    (State.on_eq_false _ _).mpr (State.fld_setFld_same (s.setFld Fld.CAL_LOAD_CTRL_ERR err) Fld.CAL_LOAD_CTRL_GO 0 (by decide) (by decide)), rfl,
    (((State.regsBut.refl s _).setFld _ (by simp)).setFld _ (by simp)).congr rfl⟩

theorem State.pointLoadError_room (room : s.raiseRoom 1) (err k : Nat) :
    s.pointLoadError err k = s.loadFailed err (s.raise ++ [s.occurrence 0xC4 (k + 256 * err)]) := by
  have cut : s.pointLoadError err k = ({ ((s.setFld Fld.CAL_LOAD_CTRL_ERR err).setFld Fld.CAL_LOAD_CTRL_GO 0) with
    cal := { s.cal with load := none, block := [] } } : State).event 0xC4 (k + 256 * err) := rfl
  have side : s.beside ((s.setFld Fld.CAL_LOAD_CTRL_ERR err).setFld Fld.CAL_LOAD_CTRL_GO 0) := ⟨_, rfl⟩
  rw [cut, State.loadFailed]
  generalize (s.setFld Fld.CAL_LOAD_CTRL_ERR err).setFld Fld.CAL_LOAD_CTRL_GO 0 = u at *
  obtain ⟨x, rfl⟩ := side
  rw [State.event_raiseRoom (s := { s with regs := x, cal := { s.cal with load := none, block := [] } }) (room.congr rfl rfl) (by decide)]
  rfl

theorem exec_calLoadCopyEnd (h : s.cal.load = some (k, a)) (empty : s.cal.block = []) (range : s.storeRange a 1280 = true) (clean : s.ecc = []) {b : List Byte}
    (hb : b = s.storeBytes a 1280) :
    exec .calLoadCopyEnd s = .next (if pointBlockOk b = false then s.pointLoadError 3 k else { s with cal := { s.cal with block := b } }) := by
  show execCalLoadCopyEnd s = _
  rw [execCalLoadCopyEnd, h]
  simp only [empty, range, s.storeRead_clean clean, ← hb, ne_eq, not_true_eq_false, Bool.not_true, Bool.false_eq_true, if_false, Bool.not_eq_true']

theorem pointCopied (h : s.cal.load = some (k, a)) (empty : s.cal.block = []) (range : s.storeRange a 1280 = true) (clean : s.ecc = []) {b : List Byte}
    (hb : b = s.storeBytes a 1280) (ok : pointBlockOk b = true) :
    ∃ t, exec .calLoadCopyEnd s = .next t ∧ t = { s with cal := { s.cal with block := b } } :=
  ⟨_, (exec_calLoadCopyEnd h empty range clean hb).trans (by rw [if_neg (by rw [ok]; decide)]), rfl⟩

theorem pointRefused (h : s.cal.load = some (k, a)) (empty : s.cal.block = []) (range : s.storeRange a 1280 = true) (clean : s.ecc = []) {b : List Byte}
    (hb : b = s.storeBytes a 1280) (bad : pointBlockOk b = false) (room : s.raiseRoom 1) :
    ∃ t, exec .calLoadCopyEnd s = .next t ∧ t.fld Fld.CAL_LOAD_CTRL_ERR = 3 ∧ t.on Fld.CAL_LOAD_CTRL_GO = false ∧
      t.raise = s.raise ++ [s.occurrence 0xC4 (k + 256 * 3)] ∧
      t = { s with regs := t.regs, raise := t.raise, cal := { s.cal with load := none, block := [] } } ∧ s.regsBut t [Reg.CAL_LOAD_CTRL] := by
  have run := exec_calLoadCopyEnd h empty range clean hb
  rw [if_pos bad, State.pointLoadError_room room] at run
  generalize s.raise ++ [s.occurrence 0xC4 (k + 256 * 3)] = e at *
  obtain ⟨err, off, shape, regs⟩ := s.loadFailed_shows (err := 3) (by decide) e
  exact ⟨_, run, err, off, by rw [shape], shape.trans (by rw [← shape]; exact shape), regs⟩

/-- The words of a point's registers are those of a block. -/
def State.pointPut (s : State) (k : Nat) (b : List Byte) : State := (pointRegs k).foldl (fun s r => s.wr r.2 (BitVec.ofNat 32 (fieldAt b r.1 4))) s

/-- Writes of registers that are apart each leave their word. -/
theorem State.rd_foldl_wr (f : Nat × Nat → Word) : ∀ (l : List (Nat × Nat)) (s : State), (l.map Prod.snd).Nodup →
    (∀ r ∈ l, (l.foldl (fun s r => s.wr r.2 (f r)) s).rd r.2 = f r) ∧ s.regsBut (l.foldl (fun s r => s.wr r.2 (f r)) s) (l.map Prod.snd)
  | [], s, _ => ⟨fun _ h => absurd h List.not_mem_nil, .refl s _⟩
  | r :: l, s, h => by
    obtain ⟨fresh, rest⟩ := List.nodup_cons.mp h
    obtain ⟨read, regs⟩ := State.rd_foldl_wr f l (s.wr r.2 (f r)) rest
    refine ⟨fun x hx => ?_, ((State.regsBut.refl s _).wr _ List.mem_cons_self).trans (regs.mono fun a ha => List.mem_cons_of_mem _ ha)⟩
    rcases List.mem_cons.mp hx with rfl | hx
    · exact (regs _ fresh).trans (State.rd_wr_same _ _ _)
    · exact read x hx

/-- The registers of point `k` stand 0x800 times `k` beyond those of point 0. -/
theorem pointRegs_eq (k : Nat) : (pointRegs k).map Prod.snd = ((pointRegs 0).map Prod.snd).map (· + 0x800 * k) := by
  simp only [pointRegs, List.map_append, List.map_cons, List.map_nil, List.map_flatMap]
  refine congrArg₂ _ (by simp only [Reg.CAL_PTk_HDR_W0, Reg.CAL_PTk_HDR_W1, Reg.CAL_PTk_HDR_W2, Nat.mul_zero, Nat.add_zero])
    (List.flatMap_congr fun p _ => ?_)
  simp only [Reg.CAL_PTk_Pp_W0, Reg.CAL_PTk_Pp_W1, Reg.CAL_PTk_Pp_W2, List.cons.injEq, and_true]
  omega

set_option maxRecDepth 100000 in
theorem pointRegs_bounds : ((pointRegs 0).map Prod.snd).Nodup ∧ ∀ a ∈ (pointRegs 0).map Prod.snd, 0x310000 ≤ a ∧ a < 0x310800 := by
  decide +kernel

theorem pointRegs_nodup (k : Nat) : ((pointRegs k).map Prod.snd).Nodup := by
  rw [pointRegs_eq]
  exact pointRegs_bounds.1.map fun a b h => Nat.add_right_cancel h

theorem pointRegs_bound (k : Nat) : ∀ a ∈ (pointRegs k).map Prod.snd, 0x310000 ≤ a := by
  rw [pointRegs_eq]
  intro a ha
  obtain ⟨b, hb, rfl⟩ := List.mem_map.mp ha
  exact (pointRegs_bounds.2 b hb).1.trans (Nat.le_add_right _ _)

/-- A point's registers hold the words of the block put there. -/
theorem State.pointPut_shows (s : State) (k : Nat) (b : List Byte) :
    (∀ r ∈ pointRegs k, ((s.pointPut k b).rd r.2).toNat = fieldAt b r.1 4) ∧
    s.regsBut (s.pointPut k b) ((pointRegs k).map Prod.snd) ∧ s.beside (s.pointPut k b) := by
  have apart := pointRegs_nodup k
  rw [State.pointPut]
  generalize pointRegs k = l at *
  obtain ⟨read, regs⟩ := State.rd_foldl_wr (fun r => BitVec.ofNat 32 (fieldAt b r.1 4)) l s apart
  refine ⟨fun r hr => ?_, regs, (State.beside.refl s).foldl (fun _ _ => (State.beside.refl _).wr _ _) l⟩
  rw [read r hr, BitVec.toNat_ofNat]
  exact Nat.mod_eq_of_lt (fieldAt_lt b r.1 4)

/-- A point's registers read their own words once its former words are forgotten. -/
theorem pointWord_forgotten {t : State} {l : List (Nat × Nat)} {m : SMap Word} (old : t.cal.old = m.filter (fun p => !(l.any (fun r => r.2 == p.1))))
    {r : Nat × Nat} (hr : r ∈ l) (x : Nat) : t.pointWord r.2 x = t.rd r.2 := by
  have none : SMap.find t.cal.old r.2 = none := by
    rw [old, SMap.find_filter (fun k => !(l.any (fun r => r.2 == k)))]
    refine if_neg ?_
    have : l.any (fun x => x.2 == r.2) = true := List.any_eq_true.mpr ⟨r, hr, beq_self_eq_true _⟩
    rw [this]
    decide
  rw [State.pointWord, none]
  exact ite_self _

/-- The events are `e` and the calibration state is `c`. -/
def State.raisedWith (s : State) (e : List EventRec) (c : CalState) : State := { s with raise := e, cal := c }

theorem State.raisedWith_setFld (s : State) (e : List EventRec) (c : CalState) (f : Fld) (n : Nat) :
    (s.raisedWith e c).setFld f n = (s.setFld f n).raisedWith e c := rfl

/-- The words of the registers `l` are those of a block, and their former words are forgotten. -/
def State.wordsPut (s : State) (l : List (Nat × Nat)) (b : List Byte) (k : Nat) : State :=
  let s := l.foldl (fun s r => s.wr r.2 (BitVec.ofNat 32 (fieldAt b r.1 4))) s
  let s : State := { s with cal := { s.cal with old := s.cal.old.filter (fun p => !(l.any (fun r => r.2 == p.1))) } }
  (s.count Fld.CAL_LOAD_CTRL_LOADS 1).event 0xC3 k

theorem State.wordsPut_room (room : s.raiseRoom 1) (l : List (Nat × Nat)) (b : List Byte) (k : Nat) :
    s.wordsPut l b k = ((l.foldl (fun s r => s.wr r.2 (BitVec.ofNat 32 (fieldAt b r.1 4))) s).count Fld.CAL_LOAD_CTRL_LOADS 1).raisedWith
      (s.raise ++ [s.occurrence 0xC3 k]) { s.cal with old := s.cal.old.filter (fun p => !(l.any (fun r => r.2 == p.1))) } := by
  have side : s.beside (l.foldl (fun s r => s.wr r.2 (BitVec.ofNat 32 (fieldAt b r.1 4))) s) :=
    (State.beside.refl s).foldl (fun _ _ => (State.beside.refl _).wr _ _) l
  rw [State.wordsPut]
  generalize l.foldl (fun s r => s.wr r.2 (BitVec.ofNat 32 (fieldAt b r.1 4))) s = v at *
  obtain ⟨x, rfl⟩ := side
  generalize s.cal.old.filter (fun p => !(l.any (fun r => r.2 == p.1))) = old
  exact State.event_raiseRoom (s := ({ s with regs := x, cal := { s.cal with old := old } } : State).count Fld.CAL_LOAD_CTRL_LOADS 1)
    (room.congr rfl rfl) (by decide) 0xC3 k

theorem State.replacePoint_room (room : s.raiseRoom 1) (k : Nat) (b : List Byte) :
    s.replacePoint k b = ((s.pointPut k b).count Fld.CAL_LOAD_CTRL_LOADS 1).raisedWith (s.raise ++ [s.occurrence 0xC3 k])
      { s.cal with old := s.cal.old.filter (fun p => !((pointRegs k).any (fun r => r.2 == p.1))) } :=
  State.wordsPut_room room (pointRegs k) b k

/-- The part of CAL_POINT_REPLACE that takes the point load. -/
def State.loadReplaced (s : State) : State :=
  match s.cal.load with
  | some (k, _) =>
    if s.cal.block = [] then s
    else
      let v := s.replacePoint k s.cal.block
      (({ v with cal := { v.cal with load := none, block := [] } } : State).setFld Fld.CAL_LOAD_CTRL_ERR 0).setFld Fld.CAL_LOAD_CTRL_GO 0
  | none => s

theorem exec_calPointReplace_alone (no : s.cal.applies = []) : exec .calPointReplace s = .next s.loadReplaced := by
  have none : ({ s with cal := { s.cal with applies := [] } } : State) = s := by rw [← no]
  have run : exec .calPointReplace s = .next (State.loadReplaced { (s.cal.applies.foldl (fun s a => s.replacePoint a.1 a.2) s) with
    cal := { (s.cal.applies.foldl (fun s a => s.replacePoint a.1 a.2) s).cal with applies := [] } }) := rfl
  rw [run, no, List.foldl_nil, none]

theorem State.loadReplaced_eq (h : s.cal.load = some (k, a)) (full : s.cal.block ≠ []) {e : List EventRec} {c : CalState}
    (hv : s.replacePoint k s.cal.block = v.raisedWith e c) :
    s.loadReplaced = ((v.setFld Fld.CAL_LOAD_CTRL_ERR 0).setFld Fld.CAL_LOAD_CTRL_GO 0).raisedWith e { c with load := none, block := [] } := by
  rw [State.loadReplaced, h]
  refine (if_neg full).trans ?_
  rw [hv, ← State.raisedWith_setFld, ← State.raisedWith_setFld]
  rfl

theorem exec_calPointReplace (h : s.cal.load = some (k, a)) (full : s.cal.block ≠ []) (no : s.cal.applies = []) (room : s.raiseRoom 1) :
    exec .calPointReplace s = .next (((((s.pointPut k s.cal.block).count Fld.CAL_LOAD_CTRL_LOADS 1).setFld Fld.CAL_LOAD_CTRL_ERR 0).setFld
      Fld.CAL_LOAD_CTRL_GO 0).raisedWith (s.raise ++ [s.occurrence 0xC3 k])
      { s.cal with old := s.cal.old.filter (fun p => !((pointRegs k).any (fun r => r.2 == p.1))), load := none, block := [] }) :=
  (exec_calPointReplace_alone no).trans (congrArg _ (State.loadReplaced_eq h full (State.replacePoint_room room k s.cal.block)))

theorem pointReplaced (h : s.cal.load = some (k, a)) (len : s.cal.block.length = 1280) (no : s.cal.applies = []) (room : s.raiseRoom 1) :
    ∃ t, exec .calPointReplace s = .next t ∧
      (∀ r ∈ pointRegs k, (t.rd r.2).toNat = fieldAt s.cal.block r.1 4) ∧ (∀ r ∈ pointRegs k, t.pointWord r.2 t.air = t.rd r.2) ∧
      t.on Fld.CAL_LOAD_CTRL_GO = false ∧ t.fld Fld.CAL_LOAD_CTRL_ERR = 0 ∧
      t.fld Fld.CAL_LOAD_CTRL_LOADS = min (2 ^ Fld.CAL_LOAD_CTRL_LOADS.width - 1) (s.fld Fld.CAL_LOAD_CTRL_LOADS + 1) ∧
      t.raise = s.raise ++ [s.occurrence 0xC3 k] ∧
      t = { s with regs := t.regs, raise := t.raise, cal := { s.cal with old := t.cal.old, load := none, block := [] } } ∧
      s.regsBut t (Reg.CAL_LOAD_CTRL :: (pointRegs k).map (fun r => r.2)) := by
  have run := exec_calPointReplace h (fun e => by rw [e] at len; exact absurd len (by decide)) no room
  obtain ⟨words, regs, side⟩ := s.pointPut_shows k s.cal.block
  have apart : Reg.CAL_LOAD_CTRL ∉ (pointRegs k).map Prod.snd := fun m => absurd (pointRegs_bound k _ m) (by decide)
  generalize s.pointPut k s.cal.block = v at *
  have loads : v.fld Fld.CAL_LOAD_CTRL_LOADS = s.fld Fld.CAL_LOAD_CTRL_LOADS := regs.fld _ apart
  have beyond : v.regsBut (((v.count Fld.CAL_LOAD_CTRL_LOADS 1).setFld Fld.CAL_LOAD_CTRL_ERR 0).setFld Fld.CAL_LOAD_CTRL_GO 0) [Reg.CAL_LOAD_CTRL] :=
    (((State.regsBut.refl v _).count _ (by simp)).setFld _ (by simp)).setFld _ (by simp)
  have counted : (((v.count Fld.CAL_LOAD_CTRL_LOADS 1).setFld Fld.CAL_LOAD_CTRL_ERR 0).setFld Fld.CAL_LOAD_CTRL_GO 0).fld Fld.CAL_LOAD_CTRL_LOADS =
      min (2 ^ Fld.CAL_LOAD_CTRL_LOADS.width - 1) (s.fld Fld.CAL_LOAD_CTRL_LOADS + 1) := by
    rw [State.fld_setFld_ne _ _ _ _ (by decide) (by decide), State.fld_setFld_ne _ _ _ _ (by decide) (by decide), State.fld_count_same _ _ _ (by decide), loads]
    rfl
  have err : (((v.count Fld.CAL_LOAD_CTRL_LOADS 1).setFld Fld.CAL_LOAD_CTRL_ERR 0).setFld Fld.CAL_LOAD_CTRL_GO 0).fld Fld.CAL_LOAD_CTRL_ERR = 0 := by
    rw [State.fld_setFld_ne _ _ _ _ (by decide) (by decide), State.fld_setFld_same _ _ _ (by decide) (by decide)]
  have off : (((v.count Fld.CAL_LOAD_CTRL_LOADS 1).setFld Fld.CAL_LOAD_CTRL_ERR 0).setFld Fld.CAL_LOAD_CTRL_GO 0).on Fld.CAL_LOAD_CTRL_GO = false :=
    (State.on_eq_false _ _).mpr (State.fld_setFld_same _ _ _ (by decide) (by decide))
  replace side : s.beside (((v.count Fld.CAL_LOAD_CTRL_LOADS 1).setFld Fld.CAL_LOAD_CTRL_ERR 0).setFld Fld.CAL_LOAD_CTRL_GO 0) :=
    ((side.trans ⟨_, rfl⟩ : s.beside (v.count Fld.CAL_LOAD_CTRL_LOADS 1)).setFld _ _).setFld _ _
  generalize ((v.count Fld.CAL_LOAD_CTRL_LOADS 1).setFld Fld.CAL_LOAD_CTRL_ERR 0).setFld Fld.CAL_LOAD_CTRL_GO 0 = u at *
  obtain ⟨x, rfl⟩ := side
  refine ⟨_, run, fun r hr => ?_, fun r hr => pointWord_forgotten (m := s.cal.old) rfl hr _, off, err, counted, rfl, rfl, fun b hb => ?_⟩
  · have member : r.2 ∈ (pointRegs k).map Prod.snd := List.mem_map_of_mem hr
    have kept := beyond r.2 (fun m => apart (List.mem_singleton.mp m ▸ member))
    exact (congrArg BitVec.toNat kept).trans (words r hr)
  · exact (beyond b (fun m => hb (by rw [List.mem_singleton.mp m]; exact List.mem_cons_self))).trans (regs b fun m => hb (List.mem_cons_of_mem _ m))

end Sys2Proof.Machine

/-!
PROOFS. LOP1, the calibration of the converters (R353, O51).
-/

namespace Sys2Proof.Machine

variable {s t u v : State} {as : List Nat} {a g n m k p : Nat} {q : Requester} {d w : Word}

theorem State.regsBut.on (h : s.regsBut t as) (f : Fld) (hf : f.addr ∉ as) : t.on f = s.on f := by rw [State.on, h.fld f hf, State.on]

theorem lop1_overrun (pass : s.passes q Reg.CAL_CONV_CTRL true) (w : Word) (busy : s.lopBusy 1 = true) :
    ∃ t, exec (.calConvGo q w) s = .next t ∧ t.on Fld.CAL_CONV_CTRL_OVERRUN = true ∧ s.onlyRegs t [Reg.CAL_CONV_CTRL] := by
  have run := exec_access (c := .calConvGo q w) (f := fun s => s.calConvWrite (Fld.CAL_CONV_CTRL_GO.put 1 w)) pass rfl
  have go : Fld.CAL_CONV_CTRL_GO.of (Fld.CAL_CONV_CTRL_GO.put 1 w) = 1 := Fld.of_put_same _ _ _ (by decide) (by decide)
  rw [State.calConvWrite] at run
  simp only [go, busy, Nat.reduceBEq, Bool.and_self, if_true] at run
  exact ⟨_, run, State.on_setFld_one _ _ (by decide) (by decide), rfl, (State.regsBut.refl s _).setFld _ (by simp)⟩

/-- `t` is `s` but for its registers, the FEC lines' state and the mutes. -/
def State.silenced (s t : State) : Prop :=
  t = { s with
    regs := t.regs
    rf := { s.rf with edges := t.rf.edges, levels := t.rf.levels, fec := t.rf.fec, log := t.rf.log }
    smp := { s.smp with mutes := t.smp.mutes } }

theorem State.silenced.of_beside (h : s.beside t) : s.silenced t := by
  obtain ⟨x, rfl⟩ := h
  rfl

theorem State.silenced.groupSilent (h : s.silenced t) (g : Nat) : s.silenced (t.groupSilent g) := by
  rw [h]
  rfl

theorem State.groupSilent_shows (s : State) (g : Nat) : (s.groupSilent g).regs = s.regs ∧
    (∀ p < 8, (∀ l < 4, SMap.get 0 (s.groupSilent g).rf.fec (4 * (8 * g + p) + l) = 0) ∧ ⟨8 * g + p, s.air, s.rf.stop⟩ ∈ (s.groupSilent g).smp.mutes) := by
  refine ⟨rfl, fun p hp => ⟨fun l hl => ?_, List.mem_append_left _ (List.mem_map.mpr ⟨p, List.mem_range.mpr hp, rfl⟩)⟩⟩
  have cut : (s.groupSilent g).rf.fec = s.rf.fec.filter (fun e => e.1 / 32 != g) := rfl
  rw [cut, SMap.get, SMap.find_filter (fun k => k / 32 != g), if_neg (by simp only [bne_iff_ne, ne_eq, not_not]; omega)]
  rfl

/-- LOP1 has begun a run of `n` units. -/
def State.lop1Begun (s : State) (n : Nat) : State := (s.lopStart 1 lopRunning n).setFld Fld.CAL_CONV_CTRL_GO 1

theorem State.lop1Begun_shows (s : State) (few : n ≤ 4095) : s.beside (s.lop1Begun n) ∧ (s.lop1Begun n).lopState 1 = lopRunning ∧
    (s.lop1Begun n).fld (Fld.LOP_STATn_UNITS_DONE 1) = 0 ∧ (s.lop1Begun n).fld (Fld.LOP_STATn_UNITS_TOTAL 1) = n ∧
    (s.lop1Begun n).on Fld.CAL_CONV_CTRL_GO = true ∧ s.regsBut (s.lop1Begun n) [Reg.CAL_CONV_CTRL, Reg.LOP_STATn 1] := by
  have field (f : Fld) (hf : f.addr = Reg.LOP_STATn 1) : (s.lop1Begun n).fld f = (s.lopStart 1 lopRunning n).fld f :=
    State.fld_setFld_ne _ _ _ _ (by decide) (.inl (by rw [hf]; decide))
  exact ⟨State.beside.setFld ⟨_, State.lopStart_beside _ _ _ _⟩ _ _, (field _ rfl).trans (State.lopState_lopStart _ _ _ _ (by decide)),
    (field _ rfl).trans (State.fld_lopStart_done s 1 lopRunning n), (field _ rfl).trans (State.fld_lopStart_total s 1 lopRunning n few),
    State.on_setFld_one _ _ (by decide) (by decide), (State.regsBut.lopStart _ _ _ _ (.refl s _) (by simp)).setFld _ (by simp)⟩

/-- LOP1 is at `x`. -/
def State.lop1At (s : State) (x : Option UnitRun) : State := { s with cal := { s.cal with lop1 := x } }

theorem lop1_started (pass : s.passes q Reg.CAL_CONV_CTRL true) (w : Word) {us : List Nat}
    (hus : us = (List.range 8).filter (fun g => bitOf (Fld.CAL_CONV_CTRL_PG_MASK.of w) g && s.on (Fld.RFE_PGg_CFG_FITTED g)))
    (idle : s.lopBusy 1 = false) (some' : us ≠ []) (dsp : s.domOn pdDsp = true) (free : s.detained = false) :
    ∃ t, exec (.calConvGo q w) s = .next t ∧ t.lopState 1 = lopRunning ∧ t.fld (Fld.LOP_STATn_UNITS_DONE 1) = 0 ∧
      t.fld (Fld.LOP_STATn_UNITS_TOTAL 1) = us.length ∧ t.on Fld.CAL_CONV_CTRL_GO = true ∧
      (∀ g, us.head? = some g → ∀ p < 8, (∀ l < 4, SMap.get 0 t.rf.fec (4 * (8 * g + p) + l) = 0) ∧ ⟨8 * g + p, s.air, s.rf.stop⟩ ∈ t.smp.mutes) ∧
      t = { s with regs := t.regs, rf := { s.rf with edges := t.rf.edges, levels := t.rf.levels, fec := t.rf.fec, log := t.rf.log }, smp := { s.smp with mutes := t.smp.mutes }, cal := { s.cal with lop1 := some ⟨us, 0, 0⟩ } } ∧
      s.regsBut t [Reg.CAL_CONV_CTRL, Reg.LOP_STATn 1] := by
  have run := exec_access (c := .calConvGo q w) (f := fun s => s.calConvWrite (Fld.CAL_CONV_CTRL_GO.put 1 w)) pass rfl
  have go : Fld.CAL_CONV_CTRL_GO.of (Fld.CAL_CONV_CTRL_GO.put 1 w) = 1 := Fld.of_put_same _ _ _ (by decide) (by decide)
  have few : us.length ≤ 4095 := by
    have := List.length_filter_le (fun g => bitOf (Fld.CAL_CONV_CTRL_PG_MASK.of w) g && s.on (Fld.RFE_PGg_CFG_FITTED g)) (List.range 8)
    rw [← hus, List.length_range] at this
    omega
  have mask := (s.fld_plainWrite_plain (f := Fld.CAL_CONV_CTRL_PG_MASK) (by decide) (Fld.CAL_CONV_CTRL_GO.put 0 (Fld.CAL_CONV_CTRL_GO.put 1 w))).trans
    (show _ = Fld.CAL_CONV_CTRL_PG_MASK.of w by rw [Fld.of_put_ne _ _ _ _ (by decide) (by decide), Fld.of_put_ne _ _ _ _ (by decide) (by decide)])
  have side : s.beside (s.plainWrite Reg.CAL_CONV_CTRL (Fld.CAL_CONV_CTRL_GO.put 0 (Fld.CAL_CONV_CTRL_GO.put 1 w))) := ⟨_, rfl⟩
  have regs : s.regsBut (s.plainWrite Reg.CAL_CONV_CTRL (Fld.CAL_CONV_CTRL_GO.put 0 (Fld.CAL_CONV_CTRL_GO.put 1 w))) [Reg.CAL_CONV_CTRL] :=
    (State.regsBut.refl s _).plainWrite _ (by simp)
  rw [State.calConvWrite] at run
  simp only [go, idle, Nat.reduceBEq, Bool.and_false, Bool.false_eq_true, if_false, if_true] at run
  generalize s.plainWrite Reg.CAL_CONV_CTRL (Fld.CAL_CONV_CTRL_GO.put 0 (Fld.CAL_CONV_CTRL_GO.put 1 w)) = v at *
  have units : (List.range 8).filter (fun g => bitOf (v.fld Fld.CAL_CONV_CTRL_PG_MASK) g && v.on (Fld.RFE_PGg_CFG_FITTED g)) = us := by
    rw [hus, mask]
    refine List.filter_congr fun g hg => ?_
    rw [show v.on (Fld.RFE_PGg_CFG_FITTED g) = s.on (Fld.RFE_PGg_CFG_FITTED g) from State.regsBut.on regs _ (by simp only [List.mem_singleton, Reg.RFE_PGg_CFG, Reg.CAL_CONV_CTRL]; have := List.mem_range.mp hg; omega)]
  have begun : ((v.lopStart 1 lopRunning us.length).setFld Fld.CAL_CONV_CTRL_GO 1) = v.lop1Begun us.length := rfl
  simp only [units, if_neg some', begun] at run
  obtain ⟨side', state, done, total, on, regs'⟩ := v.lop1Begun_shows (n := us.length) few
  replace side := side.trans side'
  replace regs : s.regsBut (v.lop1Begun us.length) [Reg.CAL_CONV_CTRL, Reg.LOP_STATn 1] :=
    (regs.mono fun a ha => by rw [List.mem_singleton.mp ha]; simp).trans regs'
  generalize v.lop1Begun us.length = u at *
  have dsp' : u.domOn pdDsp = true := by obtain ⟨x, rfl⟩ := side; exact dsp
  have free' : u.detained = false := (State.regsBut.on regs Fld.BOOT_STATUS_DETAINED (by decide)).trans free
  rw [dsp', free', if_neg (by decide)] at run
  obtain ⟨h, rest, rfl⟩ := List.exists_cons_of_ne_nil some'
  replace run : exec (.calConvGo q w) s = .next ((u.lop1At (some ⟨h :: rest, 0, 0⟩)).groupSilent h) := run
  obtain ⟨same, silent⟩ := (u.lop1At (some ⟨h :: rest, 0, 0⟩)).groupSilent_shows h
  have shape := (State.silenced.of_beside (.refl (u.lop1At (some ⟨h :: rest, 0, 0⟩)))).groupSilent h
  generalize (u.lop1At (some ⟨h :: rest, 0, 0⟩)).groupSilent h = t at *
  have kept : u.regsBut t [] := State.regsBut.of_regs same _
  have fields (f : Fld) : t.fld f = u.fld f := kept.fld f List.not_mem_nil
  replace regs := State.regsBut.trans regs (kept.mono fun _ h => absurd h List.not_mem_nil)
  obtain ⟨x, rfl⟩ := side
  refine ⟨t, run, (fields _).trans state, (fields _).trans done, (fields _).trans total, (kept.on _ List.not_mem_nil).trans on, fun g hg => ?_, shape, regs⟩
  obtain rfl : h = g := Option.some.inj hg
  exact silent

/-! ### The banks of the I/Q correction -/

/-- The register of word `k` of bank `b` of the I/Q correction of path `p`. -/
def iqAddr (up : Bool) (p b k : Nat) : Nat := (if up then Reg.ULC_IQp_TAP p b 0 else Reg.DLC_IQp_TAP p b 0) + 4 * k

/-- The registers of downlink bank `db` and of uplink bank `ub` of path `p`. -/
def iqPair (p db ub : Nat) : List Nat := (List.range 9).flatMap (fun i => [Reg.DLC_IQp_TAP p db 0 + 4 * i, Reg.ULC_IQp_TAP p ub 0 + 4 * i])

theorem mem_iqPair {x db ub : Nat} : x ∈ iqPair p db ub ↔ ∃ i < 9, x = Reg.DLC_IQp_TAP p db 0 + 4 * i ∨ x = Reg.ULC_IQp_TAP p ub 0 + 4 * i := by
  simp only [iqPair, List.mem_flatMap, List.mem_range, List.mem_cons, List.not_mem_nil, or_false]

/-- A bank of another path, or the other bank of a path, is none of a pair's registers. -/
theorem iqAddr_notMem_iqPair {up : Bool} {r b db ub j : Nat} (hp : p < 64) (hr : r < 64) (hj : j < 9) (hb : b < 2) (hd : db < 2) (hu : ub < 2)
    (other : r ≠ p ∨ b ≠ if up then ub else db) : iqAddr up r b j ∉ iqPair p db ub := by
  rw [mem_iqPair]
  rintro ⟨i, hi, h⟩
  cases up <;> simp only [iqAddr, Reg.DLC_IQp_TAP, Reg.ULC_IQp_TAP, Bool.false_eq_true, if_false, if_true] at h other <;> omega

theorem State.iqBankWords_kept {up : Bool} {b : Nat} (h : s.regsBut t as) (apart : ∀ j < 9, iqAddr up p b j ∉ as) :
    t.iqBankWords up p b = s.iqBankWords up p b :=
  List.map_congr_left fun j hj => h _ (apart j (List.mem_range.mp hj))

theorem State.putIqBank_shows (s : State) (up : Bool) (p b : Nat) {ws : List Word} (len : ws.length = 9) :
    (s.putIqBank up p b ws).iqBankWords up p b = ws ∧ s.beside (s.putIqBank up p b ws) ∧
    s.regsBut (s.putIqBank up p b ws) ((List.range 9).map (iqAddr up p b)) := by
  have addrs : ((List.range 9).map (fun k => (k, iqAddr up p b k))).map Prod.snd = (List.range 9).map (iqAddr up p b) := by
    rw [List.map_map]
    rfl
  have apart : ((List.range 9).map (iqAddr up p b)).Nodup :=
    List.nodup_range.map fun x y h => by
      simp only [iqAddr] at h
      omega
  have cut : s.putIqBank up p b ws = ((List.range 9).map (fun k => (k, iqAddr up p b k))).foldl (fun s r => s.wr r.2 (ws.getD r.1 0)) s := by
    rw [List.foldl_map]
    rfl
  obtain ⟨read, regs⟩ := State.rd_foldl_wr (fun r => ws.getD r.1 0) ((List.range 9).map (fun k => (k, iqAddr up p b k))) s (by rw [addrs]; exact apart)
  rw [← cut] at read regs
  refine ⟨?_, (State.beside.refl s).foldl (fun _ _ => (State.beside.refl _).wr _ _) _, addrs ▸ regs⟩
  have words : (s.putIqBank up p b ws).iqBankWords up p b = (List.range 9).map (fun k => ws.getD k 0) :=
    List.map_congr_left fun k hk => read (k, iqAddr up p b k) (List.mem_map_of_mem hk)
  rw [words]
  refine List.ext_getElem (by simp [len]) fun k h1 h2 => ?_
  simp [h2]

theorem State.putIqPair_shows (s : State) {p db ub : Nat} {wf wt : List Word} (hd : db < 2) (hu : ub < 2) (lf : wf.length = 9) (lt : wt.length = 9) :
    ((s.putIqBank false p db wf).putIqBank true p ub wt).iqBankWords false p db = wf ∧
    ((s.putIqBank false p db wf).putIqBank true p ub wt).iqBankWords true p ub = wt ∧
    s.beside ((s.putIqBank false p db wf).putIqBank true p ub wt) ∧
    s.regsBut ((s.putIqBank false p db wf).putIqBank true p ub wt) (iqPair p db ub) := by
  obtain ⟨down, side, regs⟩ := s.putIqBank_shows false p db lf
  generalize s.putIqBank false p db wf = v at *
  obtain ⟨up, side', regs'⟩ := v.putIqBank_shows true p ub lt
  refine ⟨(State.iqBankWords_kept regs' fun j hj m => ?_).trans down, up, side.trans side', (regs.mono fun a ha => ?_).trans (regs'.mono fun a ha => ?_)⟩
  · obtain ⟨i, hi, e⟩ := List.mem_map.mp m
    simp only [List.mem_range] at hi
    simp only [iqAddr, Reg.DLC_IQp_TAP, Reg.ULC_IQp_TAP, Bool.false_eq_true, if_false, if_true] at e
    omega
  · obtain ⟨i, hi, rfl⟩ := List.mem_map.mp ha
    exact mem_iqPair.mpr ⟨i, List.mem_range.mp hi, .inl rfl⟩
  · obtain ⟨i, hi, rfl⟩ := List.mem_map.mp ha
    exact mem_iqPair.mpr ⟨i, List.mem_range.mp hi, .inr rfl⟩

/-! ### A unit of LOP1 -/

/-- The registers of the converter selections of path `p`. -/
def convRegs (p : Nat) : List Nat := [Reg.CAL_CONV_Pp_W0 p, Reg.CAL_CONV_Pp_W1 p, Reg.CAL_CONV_Pp_W2 p, Reg.CAL_CONV_Pp_W3 p]

theorem w2_eq (p : Nat) : Reg.CAL_CONV_Pp_W2 p = Reg.CAL_CONV_Pp_W0 p + 8 := by
  simp only [Reg.CAL_CONV_Pp_W0, Reg.CAL_CONV_Pp_W2]
  omega

theorem w3_eq (p : Nat) : Reg.CAL_CONV_Pp_W3 p = Reg.CAL_CONV_Pp_W0 p + 12 := by
  simp only [Reg.CAL_CONV_Pp_W0, Reg.CAL_CONV_Pp_W3]
  omega

/-- The selections of path `p` are `w 0` to `w 3`. -/
def State.convPut (s : State) (p : Nat) (w : Nat → Word) : State :=
  (((s.wr (Reg.CAL_CONV_Pp_W0 p) (w 0 &&& 0x3FFFFFFF#32)).wr (Reg.CAL_CONV_Pp_W1 p) (w 1 &&& 0x3FFFFFFF#32)).wr (Reg.CAL_CONV_Pp_W2 p) (w 2)).wr
    (Reg.CAL_CONV_Pp_W3 p) (w 3)

theorem State.convPut_shows (s : State) (p : Nat) (w : Nat → Word) : (s.convPut p w).rd (Reg.CAL_CONV_Pp_W2 p) = w 2 ∧
    (s.convPut p w).rd (Reg.CAL_CONV_Pp_W3 p) = w 3 ∧ s.beside (s.convPut p w) ∧ s.regsBut (s.convPut p w) (convRegs p) :=
  ⟨(State.rd_wr_ne _ _ (by simp)).trans (State.rd_wr_same _ _ _), State.rd_wr_same _ _ _, ((((State.beside.refl s).wr _ _).wr _ _).wr _ _).wr _ _,
    ((((State.regsBut.refl s _).wr _ (by simp [convRegs])).wr _ (by simp [convRegs])).wr _ (by simp [convRegs])).wr _ (by simp [convRegs])⟩

/-- The selections and the inactive banks of path `p` take what its calibration found. -/
def State.pathPut (s : State) (p : Nat) (w : Nat → Word) (wf wt : List Word) : State :=
  let s := s.convPut p w
  (s.putIqBank false p (1 - s.fld (fIqBank false)) wf).putIqBank true p (1 - s.fld (fIqBank true)) wt

/-- Path `i` of group `g` has taken what its calibration found; `db` and `ub` are the inactive banks. -/
def State.pathTook (t : State) (conv iq : List Word) (db ub g i : Nat) : Prop :=
  t.rd (Reg.CAL_CONV_Pp_W2 (8 * g + i)) = conv.getD (4 * i + 2) 0 ∧ t.rd (Reg.CAL_CONV_Pp_W3 (8 * g + i)) = conv.getD (4 * i + 3) 0 ∧
  t.iqBankWords false (8 * g + i) db = (iq.drop (9 * i)).take 9 ∧ t.iqBankWords true (8 * g + i) ub = (iq.drop (9 * (8 + i))).take 9

theorem State.pathPut_shows (s : State) {p db ub : Nat} (hp : p < 64) (w : Nat → Word) {wf wt : List Word} (lf : wf.length = 9) (lt : wt.length = 9)
    (hd : db = 1 - s.fld (fIqBank false)) (hu : ub = 1 - s.fld (fIqBank true)) :
    (s.pathPut p w wf wt).rd (Reg.CAL_CONV_Pp_W2 p) = w 2 ∧ (s.pathPut p w wf wt).rd (Reg.CAL_CONV_Pp_W3 p) = w 3 ∧
    (s.pathPut p w wf wt).iqBankWords false p db = wf ∧ (s.pathPut p w wf wt).iqBankWords true p ub = wt ∧
    s.beside (s.pathPut p w wf wt) ∧ s.regsBut (s.pathPut p w wf wt) (convRegs p ++ iqPair p db ub) := by
  obtain ⟨w2, w3, side, regs⟩ := s.convPut_shows p w
  have apart (up : Bool) : (fIqBank up).addr ∉ convRegs p := by
    cases up <;> simp only [convRegs, fIqBank, List.mem_cons, List.not_mem_nil, or_false, Bool.false_eq_true, if_false, if_true, Reg.DLC_STATUS, Reg.ULC_STATUS,
      Reg.CAL_CONV_Pp_W0, Reg.CAL_CONV_Pp_W1, Reg.CAL_CONV_Pp_W2, Reg.CAL_CONV_Pp_W3] <;> omega
  rw [State.pathPut]
  rw [regs.fld _ (apart false), regs.fld _ (apart true), ← hd, ← hu]
  generalize s.convPut p w = v at *
  obtain ⟨down, up, side', regs'⟩ := v.putIqPair_shows (p := p) (db := db) (ub := ub) (by omega) (by omega) lf lt
  have conv (k : Nat) (hk : k < 16) : Reg.CAL_CONV_Pp_W0 p + k ∉ iqPair p db ub := by
    rw [mem_iqPair]
    rintro ⟨j, hj, h⟩
    simp only [Reg.CAL_CONV_Pp_W0, Reg.DLC_IQp_TAP, Reg.ULC_IQp_TAP] at h
    omega
  refine ⟨(regs' _ ?_).trans w2, (regs' _ ?_).trans w3, down, up, side.trans side', (regs.mono fun a ha => List.mem_append_left _ ha).trans
    (regs'.mono fun a ha => List.mem_append_right _ ha)⟩
  · rw [w2_eq]
    exact conv 8 (by decide)
  · rw [w3_eq]
    exact conv 12 (by decide)

/-- The paths of group `g` below its `k`-th have taken what their calibration found, in state `t`. -/
structure State.pathsTook (s : State) (conv iq : List Word) (db ub g k : Nat) (t : State) : Prop where
  took : ∀ i < k, t.pathTook conv iq db ub g i
  side : s.beside t
  regs : s.regsBut t ((List.range k).flatMap (fun i => convRegs (8 * g + i) ++ iqPair (8 * g + i) db ub))

theorem State.pathTook_kept {conv iq : List Word} {db ub i r : Nat} (h : t.pathTook conv iq db ub g i) (hg : g < 8) (hi : i < 8) (hd : db < 2) (hu : ub < 2) (hr : r < 64)
    (other : r ≠ 8 * g + i) (regs : t.regsBut u (convRegs r ++ iqPair r db ub)) : u.pathTook conv iq db ub g i := by
  obtain ⟨w2, w3, down, up⟩ := h
  have words (k : Nat) (hk : k < 16) : Reg.CAL_CONV_Pp_W0 (8 * g + i) + k ∉ convRegs r ++ iqPair r db ub := by
    simp only [List.mem_append, mem_iqPair, convRegs, List.mem_cons, List.not_mem_nil, or_false]
    rintro (h | ⟨j, hj, h⟩)
    · simp only [Reg.CAL_CONV_Pp_W0, Reg.CAL_CONV_Pp_W1, Reg.CAL_CONV_Pp_W2, Reg.CAL_CONV_Pp_W3] at h
      omega
    · simp only [Reg.CAL_CONV_Pp_W0, Reg.DLC_IQp_TAP, Reg.ULC_IQp_TAP] at h
      omega
  have bank (up : Bool) {b : Nat} (hb : b < 2) : u.iqBankWords up (8 * g + i) b = t.iqBankWords up (8 * g + i) b := by
    refine State.iqBankWords_kept regs fun j hj m => ?_
    rcases List.mem_append.mp m with m | m
    · cases up <;> simp only [convRegs, iqAddr, List.mem_cons, List.not_mem_nil, or_false, Bool.false_eq_true, if_false, if_true, Reg.CAL_CONV_Pp_W0,
        Reg.CAL_CONV_Pp_W1, Reg.CAL_CONV_Pp_W2, Reg.CAL_CONV_Pp_W3, Reg.DLC_IQp_TAP, Reg.ULC_IQp_TAP] at m <;> omega
    · exact iqAddr_notMem_iqPair hr (by omega) hj hb hd hu (.inl (Ne.symm other)) m
  refine ⟨(regs _ ?_).trans w2, (regs _ ?_).trans w3, (bank false hd).trans down, (bank true hu).trans up⟩
  · rw [w2_eq]
    exact words 8 (by decide)
  · rw [w3_eq]
    exact words 12 (by decide)

/-- The eight paths of group `g` take what their calibration found. -/
def State.pathsPut (s : State) (conv iq : List Word) (g : Nat) : State :=
  s.forEach 8 (fun s i => s.pathPut (8 * g + i) (fun k => conv.getD (4 * i + k) 0) ((iq.drop (9 * (0 + i))).take 9) ((iq.drop (9 * (8 + i))).take 9))

theorem State.pathsPut_shows (s : State) {conv iq : List Word} {db ub : Nat} (hg : g < 8) (len : iq.length = 144)
    (hd : db = 1 - s.fld (fIqBank false)) (hu : ub = 1 - s.fld (fIqBank true)) : s.pathsTook conv iq db ub g 8 (s.pathsPut conv iq g) := by
  refine State.forEach_induct (s.pathsTook conv iq db ub g) ⟨fun i hi => absurd hi (Nat.not_lt_zero i), .refl s, .refl s _⟩ fun v k hk h => ?_
  have away (up : Bool) : (fIqBank up).addr ∉ (List.range k).flatMap (fun i => convRegs (8 * g + i) ++ iqPair (8 * g + i) db ub) := by
    simp only [List.mem_flatMap, List.mem_range, List.mem_append, mem_iqPair, convRegs, List.mem_cons, List.not_mem_nil, or_false]
    rintro ⟨i, hi, m | ⟨j, hj, m⟩⟩ <;> cases up <;> simp only [fIqBank, Bool.false_eq_true, if_false, if_true, Reg.DLC_STATUS, Reg.ULC_STATUS,
      Reg.CAL_CONV_Pp_W0, Reg.CAL_CONV_Pp_W1, Reg.CAL_CONV_Pp_W2, Reg.CAL_CONV_Pp_W3, Reg.DLC_IQp_TAP, Reg.ULC_IQp_TAP] at m <;> omega
  obtain ⟨w2, w3, down, up, side, regs⟩ := v.pathPut_shows (p := 8 * g + k) (db := db) (ub := ub) (by omega) (fun j => conv.getD (4 * k + j) 0)
    (wf := (iq.drop (9 * (0 + k))).take 9) (wt := (iq.drop (9 * (8 + k))).take 9) (by simp; omega) (by simp; omega)
    (by rw [h.regs.fld _ (away false), hd]) (by rw [h.regs.fld _ (away true), hu])
  generalize v.pathPut (8 * g + k) (fun j => conv.getD (4 * k + j) 0) ((iq.drop (9 * (0 + k))).take 9) ((iq.drop (9 * (8 + k))).take 9) = t at *
  refine ⟨fun i hi => ?_, h.side.trans side, ?_⟩
  · by_cases e : i = k
    · subst e
      exact ⟨w2, w3, down.trans (by rw [Nat.zero_add]), up⟩
    · exact State.pathTook_kept (h.took i (by omega)) hg (by omega) (by omega) (by omega) (r := 8 * g + k) (by omega) (by omega) regs
  · rw [List.range_succ, List.flatMap_append]
    exact (h.regs.mono fun a ha => List.mem_append_left _ ha).trans (regs.mono fun a ha => List.mem_append_right _ (by simpa using ha))

/-- The registers that a unit of LOP1 writes for group `g`, but those of the banks. -/
def unitRegs (g : Nat) : List Nat :=
  [Reg.CAL_CONV_ORXg g, Reg.CAL_CONV_LOs (2 * g), Reg.CAL_CONV_LOs (2 * g + 1), Reg.LOP_STATn 1] ++ (List.range 8).flatMap (fun i => convRegs (8 * g + i))

/-- No register between the banks of the I/Q correction and the selections, and none below the banks, belongs to a unit or its banks. -/
theorem notMem_unit {us : List Nat} {x db ub : Nat} (hus : ∀ p ∈ us, p < 64) (hd : db < 2) (hu : ub < 2)
    (hx : x < 0x120000 ∧ x ≠ Reg.LOP_STATn 1 ∨ 0x124000 ≤ x ∧ x < 0x160000 ∨ 0x164000 ≤ x ∧ x < 0x340000) (g : Nat) :
    x ∉ unitRegs g ++ us.flatMap (fun p => iqPair p db ub) := by
  simp only [unitRegs, List.mem_append, List.mem_flatMap, List.mem_range, mem_iqPair, convRegs, List.mem_cons, List.not_mem_nil, or_false]
  rintro ((m | ⟨i, hi, m⟩) | ⟨p, hp, j, hj, m⟩)
  · simp only [Reg.CAL_CONV_ORXg, Reg.CAL_CONV_LOs, Reg.LOP_STATn] at m hx
    omega
  · simp only [Reg.CAL_CONV_Pp_W0, Reg.CAL_CONV_Pp_W1, Reg.CAL_CONV_Pp_W2, Reg.CAL_CONV_Pp_W3] at m
    omega
  · have := hus p hp
    simp only [Reg.DLC_IQp_TAP, Reg.ULC_IQp_TAP] at m
    omega

/-- Outside the banks of the I/Q correction and the selections of the paths. -/
def convApart (x : Nat) : Prop := x < 0x120000 ∨ 0x124000 ≤ x ∧ x < 0x160000 ∨ 0x164000 ≤ x ∧ x < 0x340000 ∨ 0x340400 ≤ x

theorem State.iqBankWords_apart (regs : t.regsBut u as) (apart : ∀ x ∈ as, convApart x) (hp : p < 64) {b : Nat} (hb : b < 2) (up : Bool) :
    u.iqBankWords up p b = t.iqBankWords up p b :=
  State.iqBankWords_kept regs fun j hj m => by
    have := apart _ m
    cases up <;> simp only [convApart, iqAddr, Bool.false_eq_true, if_false, if_true, Reg.DLC_IQp_TAP, Reg.ULC_IQp_TAP] at this <;> omega

theorem State.pathTook_apart {conv iq : List Word} {db ub i : Nat} (h : t.pathTook conv iq db ub g i) (hg : g < 8) (hi : i < 8) (hd : db < 2) (hu : ub < 2)
    (regs : t.regsBut u as) (apart : ∀ x ∈ as, convApart x) : u.pathTook conv iq db ub g i := by
  obtain ⟨w2, w3, down, up⟩ := h
  refine ⟨(regs _ fun m => ?_).trans w2, (regs _ fun m => ?_).trans w3, (State.iqBankWords_apart regs apart (by omega) hd false).trans down,
    (State.iqBankWords_apart regs apart (by omega) hu true).trans up⟩
  · have := apart _ m
    simp only [convApart, Reg.CAL_CONV_Pp_W2] at this
    omega
  · have := apart _ m
    simp only [convApart, Reg.CAL_CONV_Pp_W3] at this
    omega

/-- The selections of the ORX and of the LOs of group `g` are `x`, `y` and `z`. -/
def State.groupPut (s : State) (g : Nat) (x y z : Word) : State :=
  ((s.wr (Reg.CAL_CONV_ORXg g) x).wr (Reg.CAL_CONV_LOs (2 * g)) y).wr (Reg.CAL_CONV_LOs (2 * g + 1)) z

theorem State.groupPut_shows (s : State) (hg : g < 8) (x y z : Word) : (s.groupPut g x y z).rd (Reg.CAL_CONV_ORXg g) = x ∧ s.beside (s.groupPut g x y z) ∧
    s.regsBut (s.groupPut g x y z) [Reg.CAL_CONV_ORXg g, Reg.CAL_CONV_LOs (2 * g), Reg.CAL_CONV_LOs (2 * g + 1)] := by
  refine ⟨?_, (((State.beside.refl s).wr _ _).wr _ _).wr _ _, (((State.regsBut.refl s _).wr _ (by simp)).wr _ (by simp)).wr _ (by simp)⟩
  rw [State.groupPut, State.rd_wr_ne _ _ (by simp only [Reg.CAL_CONV_ORXg, Reg.CAL_CONV_LOs]; omega),
    State.rd_wr_ne _ _ (by simp only [Reg.CAL_CONV_ORXg, Reg.CAL_CONV_LOs]; omega), State.rd_wr_same]

/-- Group `g` takes what its calibration found, and `n` units of LOP1 have ended. -/
def State.unitPut (s : State) (conv iq : List Word) (g n : Nat) : State :=
  let s := (s.pathsPut conv iq g).groupPut g (conv.getD 32 0) (conv.getD 33 0 &&& 7#32) (conv.getD 34 0 &&& 7#32)
  s.lopUnits 1 n (s.fld (Fld.LOP_STATn_UNITS_TOTAL 1))

/-- State `t` is `s` after a unit of LOP1 for group `g`, `n` units having ended; `db` and `ub` are the inactive banks. -/
structure State.unitTook (s : State) (conv iq : List Word) (db ub g n : Nat) (t : State) : Prop where
  took : ∀ i < 8, t.pathTook conv iq db ub g i
  orx : t.rd (Reg.CAL_CONV_ORXg g) = conv.getD 32 0
  done : t.fld (Fld.LOP_STATn_UNITS_DONE 1) = n
  side : s.beside t
  regs : s.regsBut t (unitRegs g ++ ((List.range 8).map (8 * g + ·)).flatMap (fun p => iqPair p db ub))

theorem State.unitPut_shows (s : State) {conv iq : List Word} {db ub : Nat} (hg : g < 8) (len : iq.length = 144)
    (hd : db = 1 - s.fld (fIqBank false)) (hu : ub = 1 - s.fld (fIqBank true)) (few : n ≤ s.fld (Fld.LOP_STATn_UNITS_TOTAL 1)) :
    s.unitTook conv iq db ub g n (s.unitPut conv iq g n) := by
  obtain ⟨took, side, regs⟩ := s.pathsPut_shows (conv := conv) hg len hd hu
  rw [State.unitPut]
  generalize s.pathsPut conv iq g = v at *
  have total : v.fld (Fld.LOP_STATn_UNITS_TOTAL 1) = s.fld (Fld.LOP_STATn_UNITS_TOTAL 1) := regs.fld _ (by
    simp only [List.mem_flatMap, List.mem_range, List.mem_append, mem_iqPair, convRegs, List.mem_cons, List.not_mem_nil, or_false]
    rintro ⟨i, hi, m | ⟨j, hj, m⟩⟩ <;> simp only [Reg.LOP_STATn, Reg.CAL_CONV_Pp_W0, Reg.CAL_CONV_Pp_W1, Reg.CAL_CONV_Pp_W2, Reg.CAL_CONV_Pp_W3,
      Reg.DLC_IQp_TAP, Reg.ULC_IQp_TAP] at m <;> omega)
  replace regs : s.regsBut v (unitRegs g ++ ((List.range 8).map (8 * g + ·)).flatMap (fun p => iqPair p db ub)) := regs.mono fun a ha => by
    obtain ⟨i, hi, m⟩ := List.mem_flatMap.mp ha
    rcases List.mem_append.mp m with m | m
    · exact List.mem_append_left _ (List.mem_append_right _ (List.mem_flatMap.mpr ⟨i, hi, m⟩))
    · exact List.mem_append_right _ (List.mem_flatMap.mpr ⟨_, List.mem_map_of_mem hi, m⟩)
  have own (x : Nat) (hx : x ∈ [Reg.CAL_CONV_ORXg g, Reg.CAL_CONV_LOs (2 * g), Reg.CAL_CONV_LOs (2 * g + 1), Reg.LOP_STATn 1]) :
      x ∈ unitRegs g ++ ((List.range 8).map (8 * g + ·)).flatMap (fun p => iqPair p db ub) := List.mem_append_left _ (List.mem_append_left _ hx)
  obtain ⟨orx, side', regs'⟩ := v.groupPut_shows hg (conv.getD 32 0) (conv.getD 33 0 &&& 7#32) (conv.getD 34 0 &&& 7#32)
  generalize v.groupPut g (conv.getD 32 0) (conv.getD 33 0 &&& 7#32) (conv.getD 34 0 &&& 7#32) = u at *
  have total' : u.fld (Fld.LOP_STATn_UNITS_TOTAL 1) = s.fld (Fld.LOP_STATn_UNITS_TOTAL 1) := (regs'.fld _ (by
    simp only [List.mem_cons, List.not_mem_nil, or_false, Reg.LOP_STATn, Reg.CAL_CONV_ORXg, Reg.CAL_CONV_LOs]
    omega)).trans total
  have bound : s.fld (Fld.LOP_STATn_UNITS_TOTAL 1) < 2 ^ 12 := s.fld_lt _
  have last : u.regsBut (u.lopUnits 1 n (u.fld (Fld.LOP_STATn_UNITS_TOTAL 1))) [Reg.LOP_STATn 1] := State.regsBut.lopUnits _ _ _ _ (.refl u _) (by simp)
  refine ⟨fun i hi => ?_, (last _ ?_).trans orx, State.fld_lopUnits_done _ _ _ _ (by omega) (by omega), (side.trans side').trans ⟨_, State.lopUnits_beside _ _ _ _⟩,
    (regs.trans (regs'.mono fun x hx => own x ?_)).trans (last.mono fun x hx => own x ?_)⟩
  · refine State.pathTook_apart (State.pathTook_apart (took i hi) hg hi (by omega) (by omega) regs' fun x hx => ?_) hg hi (by omega) (by omega) last fun x hx => ?_
    · simp only [List.mem_cons, List.not_mem_nil, or_false, Reg.CAL_CONV_ORXg, Reg.CAL_CONV_LOs] at hx
      simp only [convApart]
      omega
    · rw [List.mem_singleton.mp hx]
      exact .inl (by decide)
  · simp only [List.mem_singleton, Reg.CAL_CONV_ORXg, Reg.LOP_STATn]
    omega
  · simp only [List.mem_cons, List.not_mem_nil, or_false] at hx ⊢
    tauto
  · rw [List.mem_singleton.mp hx]
    simp

/-! ### The end of LOP1 -/

/-- The paths outside `groups`, of those below `k`. -/
def outside (groups k : Nat) : List Nat := (List.range k).filter (fun p => !bitOf groups (p / 8))

theorem mem_outside {groups : Nat} : p ∈ outside groups k ↔ p < k ∧ bitOf groups (p / 8) = false := by
  simp only [outside, List.mem_filter, List.mem_range, Bool.not_eq_true']

/-- The inactive banks of a path take the words of the active ones, where its group is outside `groups`. -/
def State.copyBanks (groups : Nat) (s : State) (p : Nat) : State :=
  if bitOf groups (p / 8) then s
  else
    (s.putIqBank false p (1 - s.fld (fIqBank false)) (s.iqBankWords false p (s.fld (fIqBank false)))).putIqBank true p (1 - s.fld (fIqBank true))
      (s.iqBankWords true p (s.fld (fIqBank true)))

/-- The banks of the paths below `k` that are outside `groups` have been copied, in state `t`. -/
structure State.banksCopied (s : State) (groups k : Nat) (t : State) : Prop where
  copied : ∀ p < k, bitOf groups (p / 8) = false → t.iqBankWords false p (1 - s.fld (fIqBank false)) = s.iqBankWords false p (s.fld (fIqBank false))
  side : s.beside t
  regs : s.regsBut t ((outside groups k).flatMap (fun p => iqPair p (1 - s.fld (fIqBank false)) (1 - s.fld (fIqBank true))))

theorem State.fld_iqBank_lt (s : State) (up : Bool) : s.fld (fIqBank up) < 2 := by
  cases up <;> exact s.fld_lt _

theorem State.copyBanks_shows (s : State) (groups : Nat) : s.banksCopied groups 64 (s.forEach 64 (State.copyBanks groups)) := by
  refine State.forEach_induct (s.banksCopied groups) ⟨fun p hp => absurd hp (Nat.not_lt_zero p), .refl s, .refl s _⟩ fun v k hk h => ?_
  have low := s.fld_iqBank_lt false
  have high := s.fld_iqBank_lt true
  have grow {x : Nat} (hx : x ∈ (outside groups k).flatMap (fun p => iqPair p (1 - s.fld (fIqBank false)) (1 - s.fld (fIqBank true)))) :
      x ∈ (outside groups (k + 1)).flatMap (fun p => iqPair p (1 - s.fld (fIqBank false)) (1 - s.fld (fIqBank true))) := by
    obtain ⟨p, hp, m⟩ := List.mem_flatMap.mp hx
    obtain ⟨hp, hb⟩ := mem_outside.mp hp
    exact List.mem_flatMap.mpr ⟨p, mem_outside.mpr ⟨by omega, hb⟩, m⟩
  rw [State.copyBanks]
  split_ifs with inside
  · refine ⟨fun p hp hb => ?_, h.side, h.regs.mono fun _ => grow⟩
    have : p ≠ k := fun e => by rw [e, inside] at hb; exact absurd hb (by decide)
    exact h.copied p (by omega) hb
  · have bank (up : Bool) : v.fld (fIqBank up) = s.fld (fIqBank up) := h.regs.fld _ fun m => by
      obtain ⟨p, hp, m⟩ := List.mem_flatMap.mp m
      obtain ⟨j, hj, m⟩ := mem_iqPair.mp m
      have := (mem_outside.mp hp).1
      cases up <;> simp only [fIqBank, Bool.false_eq_true, if_false, if_true, Reg.DLC_STATUS, Reg.ULC_STATUS, Reg.DLC_IQp_TAP, Reg.ULC_IQp_TAP] at m <;> omega
    have active (up : Bool) : v.iqBankWords up k (s.fld (fIqBank up)) = s.iqBankWords up k (s.fld (fIqBank up)) :=
      State.iqBankWords_kept h.regs fun j hj m => by
        obtain ⟨p, hp, m⟩ := List.mem_flatMap.mp m
        have := (mem_outside.mp hp).1
        exact iqAddr_notMem_iqPair (by omega) hk hj (s.fld_iqBank_lt up) (by omega) (by omega) (.inl (by omega)) m
    rw [bank, bank, active, active]
    obtain ⟨down, -, side, regs⟩ := v.putIqPair_shows (p := k) (db := 1 - s.fld (fIqBank false)) (ub := 1 - s.fld (fIqBank true)) (by omega) (by omega)
      (wf := s.iqBankWords false k (s.fld (fIqBank false))) (wt := s.iqBankWords true k (s.fld (fIqBank true)))
      (by simp [State.iqBankWords]) (by simp [State.iqBankWords])
    refine ⟨fun p hp hb => ?_, h.side.trans side, (h.regs.mono fun _ => grow).trans (regs.mono fun x hx =>
      List.mem_flatMap.mpr ⟨k, mem_outside.mpr ⟨by omega, Bool.eq_false_iff.mpr inside⟩, hx⟩)⟩
    by_cases e : p = k
    · rw [e]
      exact down
    · exact (State.iqBankWords_kept regs fun j hj m => iqAddr_notMem_iqPair hk (by omega) hj (by omega) (by omega) (by omega) (.inl e) m).trans
        (h.copied p (by omega) hb)

/-- LOP1 has ended with both swaps requested; `e` is raised. -/
def State.lop1Closed (s : State) (e : List EventRec) : State :=
  { (((((s.setFld Fld.DLC_CTRL_IQ_SWAP 1).setFld Fld.ULC_CTRL_IQ_SWAP 1).setFld Fld.CAL_CONV_CTRL_GO 0).setFld (Fld.LOP_STATn_STATE 1) lopDone).setFld
    (Fld.LOP_STATn_ERR 1) 0) with
    raise := e
    cal := { s.cal with lop1 := none } }

theorem State.lop1Closed_shows (s : State) (e : List EventRec) : (s.lop1Closed e).on Fld.DLC_CTRL_IQ_SWAP = true ∧ (s.lop1Closed e).on Fld.ULC_CTRL_IQ_SWAP = true ∧
    (s.lop1Closed e).on Fld.CAL_CONV_CTRL_GO = false ∧ (s.lop1Closed e).lopState 1 = lopDone ∧
    (s.lop1Closed e).fld (Fld.LOP_STATn_UNITS_DONE 1) = s.fld (Fld.LOP_STATn_UNITS_DONE 1) ∧
    s.lop1Closed e = { s with regs := (s.lop1Closed e).regs, raise := e, cal := { s.cal with lop1 := none } } ∧
    s.regsBut (s.lop1Closed e) [Reg.DLC_CTRL, Reg.ULC_CTRL, Reg.CAL_CONV_CTRL, Reg.LOP_STATn 1] := by
  have cut (f : Fld) : (s.lop1Closed e).fld f = (((((s.setFld Fld.DLC_CTRL_IQ_SWAP 1).setFld Fld.ULC_CTRL_IQ_SWAP 1).setFld Fld.CAL_CONV_CTRL_GO 0).setFld
    (Fld.LOP_STATn_STATE 1) lopDone).setFld (Fld.LOP_STATn_ERR 1) 0).fld f := State.fld_congr rfl
  refine ⟨?_, ?_, ?_, ?_, ?_, rfl, (((((((State.regsBut.refl s _).setFld _ ?_).setFld _ ?_).setFld _ ?_).setFld _ ?_).setFld _ ?_)).congr rfl⟩
  · rw [State.on, cut, State.fld_setFld_ne _ _ _ _ (by decide) (by decide), State.fld_setFld_ne _ _ _ _ (by decide) (by decide),
      State.fld_setFld_ne _ _ _ _ (by decide) (by decide), State.fld_setFld_ne _ _ _ _ (by decide) (by decide)]
    exact State.on_setFld_one _ _ (by decide) (by decide)
  · rw [State.on, cut, State.fld_setFld_ne _ _ _ _ (by decide) (by decide), State.fld_setFld_ne _ _ _ _ (by decide) (by decide),
      State.fld_setFld_ne _ _ _ _ (by decide) (by decide)]
    exact State.on_setFld_one _ _ (by decide) (by decide)
  · rw [State.on_eq_false, cut, State.fld_setFld_ne _ _ _ _ (by decide) (by decide), State.fld_setFld_ne _ _ _ _ (by decide) (by decide)]
    exact State.fld_setFld_same _ _ _ (by decide) (by decide)
  · rw [State.lopState, cut, State.fld_setFld_ne _ _ _ _ (by decide) (by decide)]
    exact State.fld_setFld_same _ _ _ (by decide) (by decide)
  · rw [cut, State.fld_setFld_ne _ _ _ _ (by decide) (by decide), State.fld_setFld_ne _ _ _ _ (by decide) (by decide),
      State.fld_setFld_ne _ _ _ _ (by decide) (by decide), State.fld_setFld_ne _ _ _ _ (by decide) (by decide),
      State.fld_setFld_ne _ _ _ _ (by decide) (by decide)]
  all_goals simp

theorem State.lop1Done_eq (s : State) (groups : Nat) : s.lop1Done groups =
    (((((((s.forEach 64 (State.copyBanks groups)).setFld Fld.DLC_CTRL_IQ_SWAP 1).setFld Fld.ULC_CTRL_IQ_SWAP 1).lop1At none).setFld Fld.CAL_CONV_CTRL_GO 0).lopEnd
      1 lopDone 0).calDone).event 0xC5 groups := rfl

theorem State.lop1At_setFld (s : State) (x : Option UnitRun) (f : Fld) (k : Nat) : (s.lop1At x).setFld f k = (s.setFld f k).lop1At x := rfl

theorem State.lop1Closed_room (room : s.raiseRoom 1) :
    ((((s.setFld Fld.DLC_CTRL_IQ_SWAP 1).setFld Fld.ULC_CTRL_IQ_SWAP 1).lop1At none).setFld Fld.CAL_CONV_CTRL_GO 0).lopEnd 1 lopDone 0 = s.lop1Closed (s.raise ++ [s.occurrence 0x06 (1 + 16 * lopDone)]) := by
  have room' : ((((s.setFld Fld.DLC_CTRL_IQ_SWAP 1).setFld Fld.ULC_CTRL_IQ_SWAP 1).lop1At none).setFld Fld.CAL_CONV_CTRL_GO 0).raiseRoom 1 := room.congr rfl rfl
  rw [State.lopEnd_room room' (by decide), State.lop1At_setFld, State.lop1At_setFld, State.lop1At_setFld, State.lop1Closed]
  rfl

/-- The registers that the end of LOP1 writes beside the banks and LOP_STAT1. -/
def lop1EndRegs : List Nat := [Reg.DLC_CTRL, Reg.ULC_CTRL, Reg.CAL_CONV_CTRL, Reg.CAL_COUNT, Reg.CAL_LAST_ATIME_LO, Reg.CAL_LAST_ATIME_HI]

/-- LOP1 has ended over `groups` from state `s`, in state `t`. -/
structure State.lop1Ends (s : State) (groups : Nat) (t : State) : Prop where
  state : t.lopState 1 = lopDone
  done : t.fld (Fld.LOP_STATn_UNITS_DONE 1) = s.fld (Fld.LOP_STATn_UNITS_DONE 1)
  go : t.on Fld.CAL_CONV_CTRL_GO = false
  down : t.on Fld.DLC_CTRL_IQ_SWAP = true
  up : t.on Fld.ULC_CTRL_IQ_SWAP = true
  copied : ∀ p < 64, bitOf groups (p / 8) = false → t.iqBankWords false p (1 - s.fld (fIqBank false)) = s.iqBankWords false p (s.fld (fIqBank false))
  count : t.fld Fld.CAL_COUNT_COUNT = min (2 ^ Fld.CAL_COUNT_COUNT.width - 1) (s.fld Fld.CAL_COUNT_COUNT + 1)
  shape : t = { s with
    regs := t.regs
    raise := s.raise ++ [s.occurrence 0x06 (1 + 16 * lopDone), s.occurrence 0xC5 groups]
    cal := { s.cal with lop1 := none } }
  regs : s.regsBut t ((outside groups 64).flatMap (fun p => iqPair p (1 - s.fld (fIqBank false)) (1 - s.fld (fIqBank true))) ++ (lop1EndRegs ++ [Reg.LOP_STATn 1]))

theorem lop1EndRegs_apart : ∀ x ∈ lop1EndRegs ++ [Reg.LOP_STATn 1], convApart x := by
  simp only [lop1EndRegs, convApart]
  decide

theorem State.lop1Done_shows (room : s.raiseRoom 2) (groups : Nat) : s.lop1Ends groups (s.lop1Done groups) := by
  have low := s.fld_iqBank_lt false
  obtain ⟨copied, side, regs⟩ := s.copyBanks_shows groups
  have eq := s.lop1Done_eq groups
  generalize s.forEach 64 (State.copyBanks groups) = v at *
  have room' : v.raiseRoom 2 := room.congr (by rw [side.eq]) (by rw [side.eq])
  rw [State.lop1Closed_room (room'.mono (by decide))] at eq
  obtain ⟨down, up, go, state, done, shape, regs'⟩ := v.lop1Closed_shows (v.raise ++ [v.occurrence 0x06 (1 + 16 * lopDone)])
  generalize v.lop1Closed (v.raise ++ [v.occurrence 0x06 (1 + 16 * lopDone)]) = w at *
  obtain ⟨side', count, -, regs''⟩ := w.calDone_shows
  generalize w.calDone = x at *
  have own : x = { s with regs := x.regs, raise := s.raise ++ [s.occurrence 0x06 (1 + 16 * lopDone)], cal := { s.cal with lop1 := none } } := by
    rw [side'.eq, shape, side.eq]
    rfl
  have last : x.raiseRoom 1 := by
    refine ⟨by rw [own]; exact room.1, ?_⟩
    rw [own]
    have := room.2
    simp only [List.length_append, List.length_cons, List.length_nil]
    omega
  rw [State.event_raiseRoom last (by decide)] at eq
  have away (y : Nat) (hy : convApart y) : y ∉ (outside groups 64).flatMap (fun p => iqPair p (1 - s.fld (fIqBank false)) (1 - s.fld (fIqBank true))) := by
    intro m
    obtain ⟨p, hp, m⟩ := List.mem_flatMap.mp m
    obtain ⟨j, hj, m⟩ := mem_iqPair.mp m
    have := (mem_outside.mp hp).1
    simp only [convApart, Reg.DLC_IQp_TAP, Reg.ULC_IQp_TAP] at hy m
    omega
  have tail : v.regsBut x (lop1EndRegs ++ [Reg.LOP_STATn 1]) :=
    (regs'.mono (by decide)).trans (regs''.mono (by decide))
  have rds (e : List EventRec) (a : Nat) : ({ x with raise := e } : State).rd a = x.rd a := rfl
  have fields (e : List EventRec) (f : Fld) : ({ x with raise := e } : State).fld f = x.fld f := State.fld_congr (rds _ _)
  have sames (e : List EventRec) : x.regsBut { x with raise := e } [] := State.regsBut.of_regs rfl _
  rw [eq]
  refine ⟨?_, ?_, ?_, ?_, ?_, fun p hp hb => ?_, ?_, ?_, ?_⟩
  · rw [State.lopState, fields, regs''.fld _ (by decide)]
    exact state
  · rw [fields, regs''.fld _ (by decide), done, regs.fld _ (away _ (.inl (by decide)))]
  · rw [(sames _).on _ List.not_mem_nil, State.regsBut.on regs'' _ (by decide)]
    exact go
  · rw [(sames _).on _ List.not_mem_nil, State.regsBut.on regs'' _ (by decide)]
    exact down
  · rw [(sames _).on _ List.not_mem_nil, State.regsBut.on regs'' _ (by decide)]
    exact up
  · rw [State.iqBankWords_kept (sames _) fun _ _ => List.not_mem_nil, State.iqBankWords_apart tail lop1EndRegs_apart hp (by omega)]
    exact copied p hp hb
  · rw [fields, count, regs'.fld _ (by decide), regs.fld _ (away _ (.inr (.inr (.inl (by decide)))))]
  · rw [own]
    simp only [List.append_assoc]
    rfl
  · exact ((regs.mono fun _ h => List.mem_append_left _ h).trans (tail.mono fun _ h => List.mem_append_right _ h)).trans ((sames _).mono fun _ h => absurd h List.not_mem_nil)

theorem exec_lop1UnitEnd {conv iq : List Word} {rest : List Nat} {d : Nat} (h : s.cal.lop1 = some ⟨g :: rest, n, d⟩) :
    exec (.lop1UnitEnd conv iq) s = .next (if rest = [] then (s.unitPut conv iq g (n + 1)).lop1Done (setBitOf d g true)
      else rest.head?.elim ((s.unitPut conv iq g (n + 1)).lop1At (some ⟨rest, n + 1, setBitOf d g true⟩))
        (fun h => ((s.unitPut conv iq g (n + 1)).lop1At (some ⟨rest, n + 1, setBitOf d g true⟩)).groupSilent h)) := by
  show execLop1UnitEnd conv iq s = _
  rw [execLop1UnitEnd, h]
  rfl

/-- The registers that a unit of LOP1 writes, with the banks of the paths of `us` and the registers of `as`. -/
def lop1Regs (g db ub : Nat) (us as : List Nat) : List Nat := unitRegs g ++ us.flatMap (fun p => iqPair p db ub) ++ as

theorem lop1UnitGoesOn {conv iq : List Word} {rest : List Nat} {d db ub : Nat} (h : s.cal.lop1 = some ⟨g :: rest, n, d⟩) (hg : g < 8) (len : iq.length = 144)
    (few : n + 1 ≤ s.fld (Fld.LOP_STATn_UNITS_TOTAL 1)) (hd : db = 1 - s.fld (fIqBank false)) (hu : ub = 1 - s.fld (fIqBank true)) (more : rest ≠ []) :
    ∃ t, exec (.lop1UnitEnd conv iq) s = .next t ∧ (∀ i < 8, t.pathTook conv iq db ub g i) ∧ t.rd (Reg.CAL_CONV_ORXg g) = conv.getD 32 0 ∧
      t.fld (Fld.LOP_STATn_UNITS_DONE 1) = n + 1 ∧ t.cal.lop1 = some ⟨rest, n + 1, setBitOf d g true⟩ ∧ t.raise = s.raise ∧
      t = { s with regs := t.regs, raise := t.raise, rf := { s.rf with edges := t.rf.edges, levels := t.rf.levels, fec := t.rf.fec, log := t.rf.log }, smp := { s.smp with mutes := t.smp.mutes }, cal := { s.cal with lop1 := t.cal.lop1 } } ∧
      s.regsBut t (lop1Regs g db ub ((List.range 8).map (8 * g + ·)) []) := by
  have run := exec_lop1UnitEnd (conv := conv) (iq := iq) h
  rw [if_neg more] at run
  obtain ⟨took, orx, done, side, regs⟩ := s.unitPut_shows (conv := conv) hg len hd hu few
  generalize s.unitPut conv iq g (n + 1) = v at *
  obtain ⟨head, tail, rfl⟩ := List.exists_cons_of_ne_nil more
  replace run : exec (.lop1UnitEnd conv iq) s = .next ((v.lop1At (some ⟨head :: tail, n + 1, setBitOf d g true⟩)).groupSilent head) := run
  obtain ⟨same, -⟩ := (v.lop1At (some ⟨head :: tail, n + 1, setBitOf d g true⟩)).groupSilent_shows head
  have shape := (State.silenced.of_beside (.refl (v.lop1At (some ⟨head :: tail, n + 1, setBitOf d g true⟩)))).groupSilent head
  generalize (v.lop1At (some ⟨head :: tail, n + 1, setBitOf d g true⟩)).groupSilent head = t at *
  have kept : v.regsBut t [] := State.regsBut.of_regs same _
  refine ⟨t, run, fun i hi => State.pathTook_apart (took i hi) hg hi (by omega) (by omega) kept fun _ h => absurd h List.not_mem_nil,
    (kept _ List.not_mem_nil).trans orx, (kept.fld _ List.not_mem_nil).trans done, by rw [shape]; rfl, by rw [shape, side.eq]; rfl, ?_,
    (regs.mono fun _ h => List.mem_append_left _ h).trans (kept.mono fun _ h => absurd h List.not_mem_nil)⟩
  obtain ⟨x, rfl⟩ := side
  rw [shape]
  rfl

theorem iqAddr_notMem_unitRegs {up : Bool} {b j : Nat} (hp : p < 64) (hj : j < 9) (hb : b < 2) : iqAddr up p b j ∉ unitRegs g := by
  simp only [unitRegs, List.mem_append, List.mem_flatMap, List.mem_range, convRegs, List.mem_cons, List.not_mem_nil, or_false]
  rintro (m | ⟨i, hi, m⟩) <;> cases up <;> simp only [iqAddr, Bool.false_eq_true, if_false, if_true, Reg.DLC_IQp_TAP, Reg.ULC_IQp_TAP, Reg.CAL_CONV_ORXg,
    Reg.CAL_CONV_LOs, Reg.LOP_STATn, Reg.CAL_CONV_Pp_W0, Reg.CAL_CONV_Pp_W1, Reg.CAL_CONV_Pp_W2, Reg.CAL_CONV_Pp_W3] at m <;> omega

/-- The end of LOP1 leaves what the paths of its groups took. -/
theorem lop1End_pathTook {conv iq : List Word} {db ub i groups : Nat} (h : t.pathTook conv iq db ub g i) (inside : bitOf groups g = true) (hg : g < 8) (hi : i < 8)
    (hd : db < 2) (hu : ub < 2) (regs : t.regsBut u ((outside groups 64).flatMap (fun p => iqPair p db ub) ++ (lop1EndRegs ++ [Reg.LOP_STATn 1]))) :
    u.pathTook conv iq db ub g i := by
  obtain ⟨w2, w3, down, up⟩ := h
  have words (k : Nat) (hk : k < 16) : Reg.CAL_CONV_Pp_W0 (8 * g + i) + k ∉ (outside groups 64).flatMap (fun p => iqPair p db ub) ++ (lop1EndRegs ++ [Reg.LOP_STATn 1]) := by
    intro m
    rcases List.mem_append.mp m with m | m
    · obtain ⟨p, hp, m⟩ := List.mem_flatMap.mp m
      obtain ⟨j, hj, m⟩ := mem_iqPair.mp m
      have := (mem_outside.mp hp).1
      simp only [Reg.CAL_CONV_Pp_W0, Reg.DLC_IQp_TAP, Reg.ULC_IQp_TAP] at m
      omega
    · have := lop1EndRegs_apart _ m
      simp only [convApart, Reg.CAL_CONV_Pp_W0] at this
      omega
  have bank (up : Bool) {b : Nat} (hb : b < 2) : u.iqBankWords up (8 * g + i) b = t.iqBankWords up (8 * g + i) b := by
    refine State.iqBankWords_kept regs fun j hj m => ?_
    rcases List.mem_append.mp m with m | m
    · obtain ⟨p, hp, m⟩ := List.mem_flatMap.mp m
      obtain ⟨hp, out⟩ := mem_outside.mp hp
      have other : p ≠ 8 * g + i := fun e => by
        rw [e, show (8 * g + i) / 8 = g by omega, inside] at out
        exact absurd out (by decide)
      exact iqAddr_notMem_iqPair hp (by omega) hj hb hd hu (.inl (Ne.symm other)) m
    · have := lop1EndRegs_apart _ m
      cases up <;> simp only [convApart, iqAddr, Bool.false_eq_true, if_false, if_true, Reg.DLC_IQp_TAP, Reg.ULC_IQp_TAP] at this <;> omega
  refine ⟨(regs _ ?_).trans w2, (regs _ ?_).trans w3, (bank false hd).trans down, (bank true hu).trans up⟩
  · rw [w2_eq]
    exact words 8 (by decide)
  · rw [w3_eq]
    exact words 12 (by decide)

theorem lop1UnitEnds {conv iq : List Word} {d db ub : Nat} (h : s.cal.lop1 = some ⟨[g], n, d⟩) (hg : g < 8) (len : iq.length = 144) (room : s.raiseRoom 2)
    (few : n + 1 ≤ s.fld (Fld.LOP_STATn_UNITS_TOTAL 1)) (hd : db = 1 - s.fld (fIqBank false)) (hu : ub = 1 - s.fld (fIqBank true)) :
    ∃ t, exec (.lop1UnitEnd conv iq) s = .next t ∧ (∀ i < 8, t.pathTook conv iq db ub g i) ∧ t.rd (Reg.CAL_CONV_ORXg g) = conv.getD 32 0 ∧
      t.fld (Fld.LOP_STATn_UNITS_DONE 1) = n + 1 ∧
      (t.cal.lop1 = none ∧ t.lopState 1 = lopDone ∧ t.on Fld.CAL_CONV_CTRL_GO = false ∧ t.on Fld.DLC_CTRL_IQ_SWAP = true ∧ t.on Fld.ULC_CTRL_IQ_SWAP = true ∧
        (∀ p < 64, bitOf (setBitOf d g true) (p / 8) = false → t.iqBankWords false p db = s.iqBankWords false p (s.fld (fIqBank false))) ∧
        t.fld Fld.CAL_COUNT_COUNT = min (2 ^ Fld.CAL_COUNT_COUNT.width - 1) (s.fld Fld.CAL_COUNT_COUNT + 1) ∧
        t.raise = s.raise ++ [s.occurrence 0x06 (1 + 16 * lopDone), s.occurrence 0xC5 (setBitOf d g true)]) ∧
      t = { s with regs := t.regs, raise := t.raise, rf := { s.rf with edges := t.rf.edges, levels := t.rf.levels, fec := t.rf.fec, log := t.rf.log }, smp := { s.smp with mutes := t.smp.mutes }, cal := { s.cal with lop1 := t.cal.lop1 } } ∧
      s.regsBut t (lop1Regs g db ub (List.range 64) lop1EndRegs) := by
  have low := s.fld_iqBank_lt false
  have run := exec_lop1UnitEnd (conv := conv) (iq := iq) h
  rw [if_pos rfl] at run
  obtain ⟨took, orx, done, side, regs⟩ := s.unitPut_shows (conv := conv) hg len hd hu few
  generalize s.unitPut conv iq g (n + 1) = v at *
  have paths : ∀ p ∈ (List.range 8).map (8 * g + ·), p < 64 := by
    intro p hp
    obtain ⟨i, hi, rfl⟩ := List.mem_map.mp hp
    have := List.mem_range.mp hi
    omega
  have away (x : Nat) (hx : x < 0x120000 ∧ x ≠ Reg.LOP_STATn 1 ∨ 0x124000 ≤ x ∧ x < 0x160000 ∨ 0x164000 ≤ x ∧ x < 0x340000) :=
    notMem_unit paths (db := db) (ub := ub) (by omega) (by omega) hx g
  have bank (up : Bool) : v.fld (fIqBank up) = s.fld (fIqBank up) := by cases up <;> exact regs.fld _ (away _ (by decide))
  obtain ⟨state, done', go, down, up, copied, count, shape, regs'⟩ := State.lop1Done_shows (room.congr (by rw [side.eq]) (by rw [side.eq]) : v.raiseRoom 2) (setBitOf d g true)
  rw [bank, bank, ← hd, ← hu] at regs'
  rw [bank, ← hd] at copied
  generalize v.lop1Done (setBitOf d g true) = t at *
  have own : v.occurrence 0x06 (1 + 16 * lopDone) = s.occurrence 0x06 (1 + 16 * lopDone) ∧ v.occurrence 0xC5 (setBitOf d g true) = s.occurrence 0xC5 (setBitOf d g true) ∧
      v.raise = s.raise := by
    rw [side.eq]
    exact ⟨rfl, rfl, rfl⟩
  rw [own.1, own.2.1, own.2.2] at shape
  have active (p : Nat) (hp : p < 64) : v.iqBankWords false p (s.fld (fIqBank false)) = s.iqBankWords false p (s.fld (fIqBank false)) :=
    State.iqBankWords_kept regs fun j hj m => by
      rcases List.mem_append.mp m with m | m
      · exact iqAddr_notMem_unitRegs hp hj low m
      · obtain ⟨r, hr, m⟩ := List.mem_flatMap.mp m
        exact iqAddr_notMem_iqPair (paths r hr) hp hj low (by omega) (by omega) (.inr (by simp only [Bool.false_eq_true, if_false]; omega)) m
  refine ⟨t, run, fun i hi => lop1End_pathTook (took i hi) (bitOf_setBitOf d g true) hg hi (by omega) (by omega) regs', (regs' _ fun m => ?_).trans orx, done'.trans done,
    ⟨by rw [shape], state, go, down, up, fun p hp hb => (copied p hp hb).trans (active p hp), count.trans ?_, by rw [shape]⟩, ?_, ?_⟩
  · rcases List.mem_append.mp m with m | m
    · obtain ⟨p, hp, m⟩ := List.mem_flatMap.mp m
      obtain ⟨j, hj, m⟩ := mem_iqPair.mp m
      have := (mem_outside.mp hp).1
      simp only [Reg.CAL_CONV_ORXg, Reg.DLC_IQp_TAP, Reg.ULC_IQp_TAP] at m
      omega
    · simp only [lop1EndRegs, List.cons_append, List.nil_append, List.mem_cons, List.not_mem_nil, or_false, Reg.CAL_CONV_ORXg, Reg.DLC_CTRL, Reg.ULC_CTRL,
        Reg.CAL_CONV_CTRL, Reg.CAL_COUNT, Reg.CAL_LAST_ATIME_LO, Reg.CAL_LAST_ATIME_HI, Reg.LOP_STATn] at m
      omega
  · rw [regs.fld _ (away _ (by decide))]
  · rw [shape, side.eq]
  · refine (regs.mono fun x hx => ?_).trans (regs'.mono fun x hx => ?_)
    · rcases List.mem_append.mp hx with m | m
      · exact List.mem_append_left _ (List.mem_append_left _ m)
      · obtain ⟨r, hr, m⟩ := List.mem_flatMap.mp m
        exact List.mem_append_left _ (List.mem_append_right _ (List.mem_flatMap.mpr ⟨r, List.mem_range.mpr (paths r hr), m⟩))
    · rcases List.mem_append.mp hx with m | m
      · obtain ⟨r, hr, m⟩ := List.mem_flatMap.mp m
        exact List.mem_append_left _ (List.mem_append_right _ (List.mem_flatMap.mpr ⟨r, List.mem_range.mpr (mem_outside.mp hr).1, m⟩))
      · rcases List.mem_append.mp m with m | m
        · exact List.mem_append_right _ m
        · rw [List.mem_singleton.mp m]
          exact List.mem_append_left _ (List.mem_append_left _ (List.mem_append_left _ (by simp)))

end Sys2Proof.Machine

/-!
PROOFS. Saves of the calibration copy (R358), and O51.
-/

namespace Sys2Proof.Machine

variable {s t u v : State} {as : List Nat} {a g n m k p : Nat} {q : Requester} {d w : Word}

/-! ### Saves of the calibration copy (R358) -/

/-- What a save's GO with its key writes. -/
def saveData (w : Word) : Word := Fld.CAL_SAVE_CTRL_KEY.put 0x5C (Fld.CAL_SAVE_CTRL_GO.put 1 w)

theorem saveData_of (w : Word) : Fld.CAL_SAVE_CTRL_GO.of (saveData w) = 1 ∧ Fld.CAL_SAVE_CTRL_KEY.of (saveData w) = 0x5C := by
  unfold saveData
  exact ⟨by rw [Fld.of_put_ne _ _ _ _ (by decide) (by decide), Fld.of_put_same _ _ _ (by decide) (by decide)], Fld.of_put_same _ _ _ (by decide) (by decide)⟩

theorem save_overrun (pass : s.passes q Reg.CAL_SAVE_CTRL true) (w : Word) (busy : s.on Fld.CAL_SAVE_CTRL_GO = true) :
    ∃ t, exec (.calSaveGo q w) s = .next t ∧ t.on Fld.CAL_SAVE_CTRL_OVERRUN = true ∧ s.onlyRegs t [Reg.CAL_SAVE_CTRL] := by
  have run := exec_access (c := .calSaveGo q w) (f := fun s => s.calSaveWrite (saveData w)) pass rfl
  obtain ⟨go, key⟩ := saveData_of w
  rw [State.calSaveWrite] at run
  simp only [go, key, busy, Nat.reduceBEq, Bool.and_self, if_true] at run
  exact ⟨_, run, State.on_setFld_one _ _ (by decide) (by decide), rfl, (State.regsBut.refl s _).setFld _ (by simp)⟩

theorem save_started (pass : s.passes q Reg.CAL_SAVE_CTRL true) (w : Word) (idle : s.on Fld.CAL_SAVE_CTRL_GO = false) (free : s.flashOps = []) :
    ∃ t, exec (.calSaveGo q w) s = .next t ∧ t.on Fld.CAL_SAVE_CTRL_GO = true ∧
      t = { s with regs := t.regs, flashOps := [.save (s.fld Fld.CAL_SAVE_ADDR_ADDR) (s.fld Fld.CAL_SAVE_LEN_LEN)] } ∧
      s.regsBut t [Reg.CAL_SAVE_CTRL] := by
  have run := exec_access (c := .calSaveGo q w) (f := fun s => s.calSaveWrite (saveData w)) pass rfl
  obtain ⟨go, key⟩ := saveData_of w
  rw [State.calSaveWrite] at run
  simp only [go, key, idle, Nat.reduceBEq, Bool.and_self, Bool.and_false, Bool.false_eq_true, if_false, if_true] at run
  have side : s.beside (s.plainWrite Reg.CAL_SAVE_CTRL (Fld.CAL_SAVE_CTRL_GO.put 0 (saveData w))) := ⟨_, rfl⟩
  have regs : s.regsBut (s.plainWrite Reg.CAL_SAVE_CTRL (Fld.CAL_SAVE_CTRL_GO.put 0 (saveData w))) [Reg.CAL_SAVE_CTRL] :=
    (State.regsBut.refl s _).plainWrite _ (by simp)
  generalize s.plainWrite Reg.CAL_SAVE_CTRL (Fld.CAL_SAVE_CTRL_GO.put 0 (saveData w)) = v at *
  have addr : v.fld Fld.CAL_SAVE_ADDR_ADDR = s.fld Fld.CAL_SAVE_ADDR_ADDR := regs.fld _ (by decide)
  have size : v.fld Fld.CAL_SAVE_LEN_LEN = s.fld Fld.CAL_SAVE_LEN_LEN := regs.fld _ (by decide)
  have ops : v.flashOps = [] := by rw [side.eq]; exact free
  rw [addr, size, ops, List.nil_append] at run
  rw [State.runFlash_saving rfl] at run
  have on : (v.setFld Fld.CAL_SAVE_CTRL_GO 1).on Fld.CAL_SAVE_CTRL_GO = true := State.on_setFld_one _ _ (by decide) (by decide)
  replace regs : s.regsBut (v.setFld Fld.CAL_SAVE_CTRL_GO 1) [Reg.CAL_SAVE_CTRL] := regs.setFld _ (by simp)
  replace side : s.beside (v.setFld Fld.CAL_SAVE_CTRL_GO 1) := side.setFld _ _
  generalize v.setFld Fld.CAL_SAVE_CTRL_GO 1 = u at *
  obtain ⟨x, rfl⟩ := side
  exact ⟨_, run, on, rfl, regs.congr rfl⟩

/-- A save has ended without error with the copy of half `k` loaded; `e` is raised. -/
def State.copySaved (s : State) (k : Nat) (e : List EventRec) : State :=
  { ((((s.setFld Fld.CAL_SAVE_CTRL_GO 0).setFld Fld.CAL_SAVE_STATUS_ERR 0).setFld Fld.CAL_STATUS_REC_COPY (k + 1)).setFld Fld.CAL_STATUS_REC_LOADED 1) with
    raise := e
    flashOps := [] }

theorem State.copySaved_shows (s : State) (hk : k < 2) (e : List EventRec) : (s.copySaved k e).fld Fld.CAL_SAVE_STATUS_ERR = 0 ∧
    (s.copySaved k e).on Fld.CAL_SAVE_CTRL_GO = false ∧ (s.copySaved k e).fld Fld.CAL_STATUS_REC_COPY = k + 1 ∧
    (s.copySaved k e).on Fld.CAL_STATUS_REC_LOADED = true ∧ s.copySaved k e = { s with regs := (s.copySaved k e).regs, raise := e, flashOps := [] } ∧
    s.regsBut (s.copySaved k e) [Reg.CAL_SAVE_CTRL, Reg.CAL_SAVE_STATUS, Reg.CAL_STATUS] := by
  have cut (f : Fld) : (s.copySaved k e).fld f = ((((s.setFld Fld.CAL_SAVE_CTRL_GO 0).setFld Fld.CAL_SAVE_STATUS_ERR 0).setFld Fld.CAL_STATUS_REC_COPY (k + 1)).setFld
    Fld.CAL_STATUS_REC_LOADED 1).fld f := State.fld_congr rfl
  refine ⟨?_, ?_, ?_, ?_, rfl, ((((((State.regsBut.refl s _).setFld _ ?_).setFld _ ?_).setFld _ ?_).setFld _ ?_)).congr rfl⟩
  · rw [cut, State.fld_setFld_ne _ _ _ _ (by decide) (by decide), State.fld_setFld_ne _ _ _ _ (by decide) (by decide)]
    exact State.fld_setFld_same _ _ _ (by decide) (by decide)
  · rw [State.on_eq_false, cut, State.fld_setFld_ne _ _ _ _ (by decide) (by decide), State.fld_setFld_ne _ _ _ _ (by decide) (by decide),
      State.fld_setFld_ne _ _ _ _ (by decide) (by decide)]
    exact State.fld_setFld_same _ _ _ (by decide) (by decide)
  · rw [cut, State.fld_setFld_ne _ _ _ _ (by decide) (by decide)]
    exact State.fld_setFld_same _ _ _ (by decide) (by simp only [Nat.reduceAdd, Nat.reduceSub, Nat.reducePow]; omega)
  · rw [State.on, cut]
    exact State.on_setFld_one _ _ (by decide) (by decide)
  all_goals simp

theorem State.saveEnd_room {x : FlashUser} (ops : s.flashOps = [x]) (room : s.raiseRoom 1) (queued : s.lopState 6 ≠ lopQueued) (k : Nat) :
    s.saveEnd 0 k = s.copySaved k (s.raise ++ [s.occurrence 0xC6 (256 * k)]) := by
  have room' : ((s.setFld Fld.CAL_SAVE_CTRL_GO 0).setFld Fld.CAL_SAVE_STATUS_ERR 0).raiseRoom 1 := room.congr rfl rfl
  have cut : s.saveEnd 0 k = ((((s.setFld Fld.CAL_SAVE_CTRL_GO 0).setFld Fld.CAL_SAVE_STATUS_ERR 0).event 0xC6 (0 + 256 * k)).copyLoaded k).flashDone := rfl
  rw [cut, Nat.zero_add, State.event_raiseRoom room' (by decide)]
  have kept : s.regsBut ((s.setFld Fld.CAL_SAVE_CTRL_GO 0).setFld Fld.CAL_SAVE_STATUS_ERR 0) [Reg.CAL_SAVE_CTRL, Reg.CAL_SAVE_STATUS] :=
    ((State.regsBut.refl s _).setFld _ (by simp)).setFld _ (by simp)
  rw [State.copySaved]
  have raise : ((s.setFld Fld.CAL_SAVE_CTRL_GO 0).setFld Fld.CAL_SAVE_STATUS_ERR 0).raise ++
      [((s.setFld Fld.CAL_SAVE_CTRL_GO 0).setFld Fld.CAL_SAVE_STATUS_ERR 0).occurrence 0xC6 (256 * k)] = s.raise ++ [s.occurrence 0xC6 (256 * k)] := rfl
  have ops' : ((s.setFld Fld.CAL_SAVE_CTRL_GO 0).setFld Fld.CAL_SAVE_STATUS_ERR 0).flashOps = [x] := ops
  rw [raise]
  generalize (s.setFld Fld.CAL_SAVE_CTRL_GO 0).setFld Fld.CAL_SAVE_STATUS_ERR 0 = v at *
  have same : ({ v with raise := s.raise ++ [s.occurrence 0xC6 (256 * k)] } : State).copyLoaded k = { v.copyLoaded k with raise := s.raise ++ [s.occurrence 0xC6 (256 * k)] } := rfl
  have state : (({ v with raise := s.raise ++ [s.occurrence 0xC6 (256 * k)] } : State).copyLoaded k).lopState 6 = s.lopState 6 := by
    rw [State.lopState, same, State.lopState]
    refine (State.fld_congr rfl : _ = (v.copyLoaded k).fld _).trans ?_
    rw [State.copyLoaded, State.fld_setFld_ne _ _ _ _ (by decide) (by decide), State.fld_setFld_ne _ _ _ _ (by decide) (by decide), kept.fld _ (by decide)]
  have ops'' : (({ v with raise := s.raise ++ [s.occurrence 0xC6 (256 * k)] } : State).copyLoaded k).flashOps = [x] := ops'
  exact (State.flashDone_alone ops'' (by rw [state]; exact queued)).trans rfl

theorem sealCopy_length (b : List Byte) (seq : Nat) (h : 12 ≤ b.length) : (sealCopy b seq).length = b.length := by
  have len : (bytesAt b 0 8 ++ leBytes 4 seq ++ b.drop 12).length = b.length := by
    simp [bytesAt, leBytes_length]
    omega
  rw [sealCopy]
  generalize bytesAt b 0 8 ++ leBytes 4 seq ++ b.drop 12 = c at *
  split_ifs with fits
  · simp [leBytes_length, len]
    omega
  · exact len

theorem exec_calSaveEnd_done {d : Directory} {p : Partition} {a k : Nat} {b e : List Byte} (ops : s.flashOps = [.save a n]) (dir : s.boot.dir = some d)
    (hp : p = d.calrec) (hk : k = if s.fld Fld.CAL_STATUS_REC_COPY = 1 then 1 else 0) (hb : b = s.storeBytes a n) (copy : s.fld Fld.CAL_STATUS_REC_COPY ≠ 0)
    (he : e = sealCopy b ((s.copySeq p (s.fld Fld.CAL_STATUS_REC_COPY - 1) + 1) % 2 ^ 32)) (size : 0 < n) (half : 0 < p.half) (range : s.storeRange a n = true)
    (clean : s.ecc = []) (passes : copyPasses e p.half = true) (serial : fieldAt e 16 8 = s.serial) (fits : n ≤ p.half) (whole : fieldAt e 12 4 ≤ n) :
    exec (.calSaveEnd .done) s = .next (((s.eraseFlash (p.offset + k * p.half) p.half).putFlash (p.offset + k * p.half) e).saveEnd 0 k) := by
  show execCalSaveEnd .done s = _
  rw [execCalSaveEnd, ops]
  have part : (s.boot.dir.map (fun d => d.calrec)).getD ⟨0, 0⟩ = p := by rw [dir, hp]; rfl
  simp only [part, ← hk, s.storeRead_clean clean, ← hb, if_neg copy, ← he, range, passes, serial]
  rw [if_neg (by omega)]
  simp only [Bool.not_true, Bool.false_eq_true, if_false, ne_eq, not_true_eq_false, false_or]
  rw [if_neg (by omega)]

theorem copySaved {d : Directory} {p : Partition} {a k : Nat} {b e : List Byte} (ops : s.flashOps = [.save a n]) (dir : s.boot.dir = some d)
    (hp : p = d.calrec) (hk : k = if s.fld Fld.CAL_STATUS_REC_COPY = 1 then 1 else 0) (hb : b = s.storeBytes a n) (copy : s.fld Fld.CAL_STATUS_REC_COPY ≠ 0)
    (he : e = sealCopy b ((s.copySeq p (s.fld Fld.CAL_STATUS_REC_COPY - 1) + 1) % 2 ^ 32)) (size : 0 < n) (half : 0 < p.half) (range : s.storeRange a n = true)
    (clean : s.ecc = []) (passes : copyPasses e p.half = true) (serial : fieldAt e 16 8 = s.serial) (fits : n ≤ p.half) (whole : fieldAt e 12 4 ≤ n)
    (queued : s.lopState 6 ≠ lopQueued) (room : s.raiseRoom 1) :
    ∃ t, exec (.calSaveEnd .done) s = .next t ∧ t.flashBytes (p.offset + k * p.half) n = e ∧
      (∀ x < p.half, n ≤ x → SMap.get 0xFF#8 t.flash (p.offset + k * p.half + x) = 0xFF#8) ∧
      (∀ x, x < p.offset + k * p.half ∨ p.offset + k * p.half + p.half ≤ x → SMap.get 0xFF#8 t.flash x = SMap.get 0xFF#8 s.flash x) ∧
      t.fld Fld.CAL_SAVE_STATUS_ERR = 0 ∧ t.on Fld.CAL_SAVE_CTRL_GO = false ∧ t.fld Fld.CAL_STATUS_REC_COPY = k + 1 ∧
      t.on Fld.CAL_STATUS_REC_LOADED = true ∧ t.raise = s.raise ++ [s.occurrence 0xC6 (256 * k)] ∧
      t = { s with regs := t.regs, flash := t.flash, raise := t.raise, flashOps := [] } ∧
      s.regsBut t [Reg.CAL_SAVE_CTRL, Reg.CAL_SAVE_STATUS, Reg.CAL_STATUS] := by
  have run := exec_calSaveEnd_done ops dir hp hk hb copy he size half range clean passes serial fits whole
  have whole' : 68 ≤ fieldAt e 12 4 := by
    simp only [copyPasses, Bool.and_eq_true, decide_eq_true_eq] at passes
    exact passes.1.1.1.2
  have len : e.length = n := by
    have own : b.length = n := by rw [hb]; exact s.storeBytes_length a n
    rw [he, sealCopy_length _ _ (by omega), own]
  have bytes := (s.eraseFlash (p.offset + k * p.half) p.half).flashBytes_put (p.offset + k * p.half) len
  have tail (x : Nat) (hx : x < p.half) (hn : n ≤ x) : SMap.get 0xFF#8 ((s.eraseFlash (p.offset + k * p.half) p.half).putFlash (p.offset + k * p.half) e).flash
      (p.offset + k * p.half + x) = 0xFF#8 :=
    (State.flashByte_putFlash_out _ _ e (.inr (by omega))).trans (s.get_eraseFlash_in (by omega) (by omega))
  have out (x : Nat) (hx : x < p.offset + k * p.half ∨ p.offset + k * p.half + p.half ≤ x) :
      SMap.get 0xFF#8 ((s.eraseFlash (p.offset + k * p.half) p.half).putFlash (p.offset + k * p.half) e).flash x = SMap.get 0xFF#8 s.flash x :=
    (State.flashByte_putFlash_out _ _ e (by omega)).trans (s.get_eraseFlash_out hx)
  have frame : ∃ y, (s.eraseFlash (p.offset + k * p.half) p.half).putFlash (p.offset + k * p.half) e = { s with flash := y } := ⟨_, rfl⟩
  obtain ⟨y, frame⟩ := frame
  generalize (s.eraseFlash (p.offset + k * p.half) p.half).putFlash (p.offset + k * p.half) e = v at *
  have same : s.regsBut v [] := State.regsBut.of_regs (by rw [frame]) _
  rw [State.saveEnd_room (by rw [frame]; exact ops) (room.congr (by rw [frame]) (by rw [frame]))
    (by rw [State.lopState, same.fld _ List.not_mem_nil]; exact queued)] at run
  have raise : v.raise ++ [v.occurrence 0xC6 (256 * k)] = s.raise ++ [s.occurrence 0xC6 (256 * k)] := by
    rw [frame]
    rfl
  rw [raise] at run
  obtain ⟨err, off, rec, loaded, shape, regs⟩ := v.copySaved_shows (k := k) (by split_ifs at hk <;> omega) (s.raise ++ [s.occurrence 0xC6 (256 * k)])
  generalize v.copySaved k (s.raise ++ [s.occurrence 0xC6 (256 * k)]) = t at *
  have flash : t.flash = v.flash := by rw [shape]
  refine ⟨t, run, ?_, fun x hx hn => ?_, fun x hx => ?_, err, off, rec, loaded, by rw [shape], ?_,
    (same.mono fun _ h => absurd h List.not_mem_nil).trans regs⟩
  · rw [State.flashBytes, flash]
    exact bytes
  · rw [flash]
    exact tail x hx hn
  · rw [flash]
    exact out x hx
  · rw [shape, frame]

/-- Settles O51: point loads and their boundary, the units of LOP1 path by path and its end, and the save of a copy to the half that is not loaded. -/
theorem pointLoadsConvertersAndSaves : Obligations.PointLoadsConvertersAndSaves := by
  unfold Obligations.PointLoadsConvertersAndSaves
  intro q w s
  refine ⟨fun pass => ⟨fun busy => calLoad_overrun pass w busy, fun idle range => calLoad_started pass w idle range⟩, fun k a load => ⟨fun b hb empty range clean =>
      ⟨fun ok => pointCopied load empty range clean hb ok, fun bad room => pointRefused load empty range clean hb bad room⟩,
      fun len no _ room => pointReplaced load len no room⟩,
    fun pass => ⟨fun busy => lop1_overrun pass w busy, fun us hus idle some' dsp free => lop1_started pass w hus idle some' dsp free⟩,
    fun conv iq g rest n d lop hg _ len room few => ?_,
    fun pass => ⟨fun busy => save_overrun pass w busy, fun idle free => save_started pass w idle free⟩,
    fun a n k d p ops dir hp hk b hb copy e he h => ?_⟩
  · by_cases last : rest = []
    · subst last
      obtain ⟨t, run, took, orx, done, ends, shape, regs⟩ := lop1UnitEnds (conv := conv) (iq := iq) lop hg len room few rfl rfl
      refine ⟨t, run, fun i hi p hp => ?_, orx, done, fun h => absurd rfl h, fun _ => ends, shape, fun us hus => ?_⟩
      · rw [hp]
        exact took i hi
      · rw [hus, if_pos rfl, if_pos rfl]
        exact regs
    · obtain ⟨t, run, took, orx, done, ends, raise, shape, regs⟩ := lop1UnitGoesOn (conv := conv) (iq := iq) lop hg len few rfl rfl last
      refine ⟨t, run, fun i hi p hp => ?_, orx, done, fun _ => ⟨ends, raise⟩, fun h => absurd h last, shape, fun us hus => ?_⟩
      · rw [hp]
        exact took i hi
      · rw [hus, if_neg last, if_neg last]
        exact regs
  · obtain ⟨size, half, range, clean, passes, serial, fits, whole, queued, room⟩ := h
    exact copySaved ops dir hp hk hb copy he size half range clean passes serial fits whole queued room

end Sys2Proof.Machine

/-!
PROOFS. What a step of a signal processor does (R363, R375, R380): the rules that O52 to O55 use.
-/

namespace Sys2Proof.Machine

variable {s t u v : State} {as : List Nat} {c n m k : Nat} {w : Word} {x y z : CoreState} {op : CoreOp}

/-! ### The registers of a core -/

/-- The first of the registers of core `c`. -/
def coreBase (c : Nat) : Nat := if c < 12 then 0x410000 + 0x40000 * c else 0x740000

theorem coreCtrl_eq (c : Nat) : Reg.CORE_CTRL c = coreBase c := rfl

theorem coreStatus_eq (c : Nat) : Reg.CORE_STATUS c = coreBase c + 4 := by
  unfold coreBase Reg.CORE_STATUS
  split_ifs <;> omega

theorem coreTrap_eq (c : Nat) : Reg.CORE_TRAP c = coreBase c + 8 := by
  unfold coreBase Reg.CORE_TRAP
  split_ifs <;> omega

theorem coreTrapAddr_eq (c : Nat) : Reg.CORE_TRAP_ADDR c = coreBase c + 0xC := by
  unfold coreBase Reg.CORE_TRAP_ADDR
  split_ifs <;> omega

theorem coreIrq_eq (c : Nat) : Reg.CORE_IRQ c = coreBase c + 0x14 := by
  unfold coreBase Reg.CORE_IRQ
  split_ifs <;> omega

theorem coreDoorbell_eq (c : Nat) : Reg.CORE_DOORBELL c = coreBase c + 0x1C := by
  unfold coreBase Reg.CORE_DOORBELL
  split_ifs <;> omega

theorem coreCyclesLo_eq (c : Nat) : Reg.CORE_CYCLES_LO c = coreBase c + 0x24 := by
  unfold coreBase Reg.CORE_CYCLES_LO
  split_ifs <;> omega

theorem coreCyclesHi_eq (c : Nat) : Reg.CORE_CYCLES_HI c = coreBase c + 0x28 := by
  unfold coreBase Reg.CORE_CYCLES_HI
  split_ifs <;> omega

theorem mbxStatus_eq (c : Nat) : Reg.MBX_STATUS c = coreBase c + 0x108 := by
  unfold coreBase Reg.MBX_STATUS
  split_ifs <;> omega

theorem coreBase_ge (c : Nat) : 0x410000 ≤ coreBase c := by
  unfold coreBase
  split_ifs <;> omega

/-! ### State fields kept -/

/-- A field put back as it stood leaves the word. -/
theorem putField_getField_self (hi lo : Nat) (w : Word) (h : hi < 32) : putField hi lo (getField hi lo w) w = w := by
  refine BitVec.eq_of_getLsbD_eq fun i _ => ?_
  rw [getLsbD_putField _ _ _ _ _ h, testBit_getField]
  split_ifs with inside
  · rw [show lo + (i - lo) = i by omega, decide_eq_true (by omega : i - lo < hi + 1 - lo), Bool.true_and]
  · rfl

theorem State.rd_setFld_self (s : State) (f : Fld) (h : f.hi < 32) (v : Nat) (hv : s.fld f = v) (a : Nat) : (s.setFld f v).rd a = s.rd a := by
  by_cases e : a = f.addr
  · rw [State.setFld, e, State.rd_wr_same, ← hv]
    exact putField_getField_self _ _ _ h
  · rw [State.setFld, State.rd_wr_ne _ _ e]

theorem State.regsBut.coreKept (h : s.regsBut t as) (f : Fld) (hf : f.hi < 32) (v : Nat) (hv : t.fld f = v) : s.regsBut (t.setFld f v) as :=
  fun a ha => (t.rd_setFld_self f hf v hv a).trans (h a ha)

/-! ### The frame of a step of a core -/

/-- The cycle count of core `c`. -/
def State.cycles (s : State) (c : Nat) : Nat := (s.rd (Reg.CORE_CYCLES_LO c)).toNat + 2 ^ 32 * (s.rd (Reg.CORE_CYCLES_HI c)).toNat

theorem State.cycles_lt (s : State) (c : Nat) : s.cycles c < 2 ^ 64 := by
  have low := (s.rd (Reg.CORE_CYCLES_LO c)).isLt
  have high := (s.rd (Reg.CORE_CYCLES_HI c)).isLt
  unfold State.cycles
  omega

theorem State.cycles_addCycles (s : State) (c n : Nat) : (s.addCycles c n).cycles c = (s.cycles c + n) % 2 ^ 64 := by
  rw [State.cycles, State.addCycles]
  rw [State.rd_wr_ne _ _ (by rw [coreCyclesLo_eq, coreCyclesHi_eq]; omega), State.rd_wr_same, State.rd_wr_same, BitVec.toNat_ofNat, BitVec.toNat_ofNat]
  have eq : (s.rd (Reg.CORE_CYCLES_LO c)).toNat + 2 ^ 32 * (s.rd (Reg.CORE_CYCLES_HI c)).toNat = s.cycles c := rfl
  rw [eq]
  omega

theorem State.regsBut.addCycles (h : s.regsBut t as) (c n : Nat) (lo : Reg.CORE_CYCLES_LO c ∈ as) (hi : Reg.CORE_CYCLES_HI c ∈ as) :
    s.regsBut (t.addCycles c n) as := (h.wr _ lo).wr _ hi

/-- The registers that a step of core `c` may write, with those of `as`. -/
def coreRegs (c : Nat) (as : List Nat) : List Nat := Reg.CORE_CYCLES_LO c :: Reg.CORE_CYCLES_HI c :: as

/-- `as` holds no register of the cycle count. -/
theorem cycles_of_regsBut (h : s.regsBut t as) (lo : Reg.CORE_CYCLES_LO c ∉ as) (hi : Reg.CORE_CYCLES_HI c ∉ as) : t.cycles c = s.cycles c := by
  rw [State.cycles, h _ lo, h _ hi, State.cycles]

/-- Core `c` runs before its instruction's effect: `n` cycles are counted. -/
def State.ticked (s : State) (c n : Nat) : State := (s.setCoreState c coreRun).addCycles c n

theorem State.coreReady.ticked_shows (h : s.coreReady c w) (n : Nat) : s.beside (s.ticked c n) ∧ (s.ticked c n).core c = s.core c ∧
    (s.ticked c n).cycles c = (s.cycles c + n) % 2 ^ 64 ∧ s.regsBut (s.ticked c n) (coreRegs c []) := by
  obtain ⟨-, -, run, -⟩ := h
  have same : s.regsBut (s.setCoreState c coreRun) [] := (State.regsBut.refl s _).coreKept _ (by simp) _ run
  refine ⟨⟨_, rfl⟩, rfl, ?_, (same.mono fun _ h => absurd h List.not_mem_nil).addCycles c n (by simp [coreRegs]) (by simp [coreRegs])⟩
  rw [State.ticked, State.cycles_addCycles, cycles_of_regsBut same List.not_mem_nil List.not_mem_nil]

theorem State.coreRuns.intro (core : t.core c = y) (others : ∀ d, d ≠ c → t.core d = s.core d)
    (shape : t = { s with regs := t.regs, cores := t.cores, fresh := t.fresh }) (cycles : t.cycles c = (s.cycles c + n) % 2 ^ 64)
    (regs : s.regsBut t (coreRegs c as)) : s.coreRuns t c n y as := ⟨core, others, shape, cycles, regs⟩

theorem State.coreReady.runs (h : s.coreReady c w) (n : Nat) : s.coreRuns (s.ticked c n) c n (s.core c) [] := by
  obtain ⟨side, core, cycles, regs⟩ := h.ticked_shows n
  generalize s.ticked c n = t at *
  obtain ⟨x, rfl⟩ := side
  exact .intro core (fun _ _ => rfl) rfl cycles regs

theorem State.coreRuns.core (h : s.coreRuns t c n y as) : t.core c = y := h.1

theorem State.coreRuns.others (h : s.coreRuns t c n y as) : ∀ d, d ≠ c → t.core d = s.core d := h.2.1

theorem State.coreRuns.shape (h : s.coreRuns t c n y as) : t = { s with regs := t.regs, cores := t.cores, fresh := t.fresh } := h.2.2.1

theorem State.coreRuns.cycles (h : s.coreRuns t c n y as) : t.cycles c = (s.cycles c + n) % 2 ^ 64 := h.2.2.2.1

theorem State.coreRuns.regs (h : s.coreRuns t c n y as) : s.regsBut t (coreRegs c as) := h.2.2.2.2

theorem State.coreRuns.setCore (h : s.coreRuns t c n y as) (z : CoreState) : s.coreRuns (t.setCore c z) c n z as := by
  refine .intro (State.core_setCore_same _ _ _) (fun d hd => (State.core_setCore_ne _ _ hd).trans (h.others d hd)) ?_ h.cycles (h.regs.congr rfl)
  rw [h.shape]
  rfl

theorem State.coreRuns.useFresh (h : s.coreRuns t c n y as) : s.coreRuns t.useFresh c n y as := by
  refine .intro h.core h.others ?_ h.cycles (h.regs.congr rfl)
  rw [h.shape]
  rfl

theorem State.coreRuns.beside (h : s.coreRuns t c n y as) (side : t.beside u) (regs : t.regsBut u as) (lo : Reg.CORE_CYCLES_LO c ∉ as)
    (hi : Reg.CORE_CYCLES_HI c ∉ as) : s.coreRuns u c n y as := by
  have cycles := (cycles_of_regsBut (c := c) regs lo hi).trans h.cycles
  have frame : s.regsBut u (coreRegs c as) := h.regs.trans (regs.mono fun a ha => List.mem_cons_of_mem _ (List.mem_cons_of_mem _ ha))
  obtain ⟨x, rfl⟩ := side
  refine .intro h.core h.others ?_ cycles frame
  rw [h.shape]

theorem State.coreRuns.mono {bs : List Nat} (h : s.coreRuns t c n y as) (sub : ∀ a ∈ as, a ∈ bs) : s.coreRuns t c n y bs :=
  .intro h.core h.others h.shape h.cycles (h.regs.mono fun a ha => by
    rcases List.mem_cons.mp ha with rfl | ha
    · exact List.mem_cons_self
    · rcases List.mem_cons.mp ha with rfl | ha
      · exact List.mem_cons_of_mem _ List.mem_cons_self
      · exact List.mem_cons_of_mem _ (List.mem_cons_of_mem _ (sub a ha)))

/-- A register that a step of core `c` may not write reads as before. -/
theorem State.coreRuns.fld (h : s.coreRuns t c n y as) (f : Fld) (hf : f.addr ∉ coreRegs c as) : t.fld f = s.fld f := h.regs.fld f hf

theorem State.coreRuns.on (h : s.coreRuns t c n y as) (f : Fld) (hf : f.addr ∉ coreRegs c as) : t.on f = s.on f := State.regsBut.on h.regs f hf

theorem coreCtrl_notMem (calm : Reg.CORE_CTRL c ∉ as) : Reg.CORE_CTRL c ∉ coreRegs c as := by
  simp only [coreRegs, List.mem_cons, coreCyclesLo_eq, coreCyclesHi_eq, coreCtrl_eq]
  rintro (h | h | h)
  · omega
  · omega
  · exact calm h

/-- With no halt asked for, an instruction's boundary changes nothing. -/
theorem State.coreBoundary_calm (h : s.on (Fld.CORE_CTRL_HALT_REQ c) = false) : s.coreBoundary c = s := by
  unfold State.coreBoundary
  rw [h]
  rfl

/-! ### One instruction -/

/-- The state in which the effect of an instruction of core `c` begins. -/
def State.begun (s : State) (c n : Nat) : State := (s.ticked c n).setCore c { s.core c with srMoved := false }

theorem State.coreReady.begun_runs (h : s.coreReady c w) (n : Nat) : s.coreRuns (s.begun c n) c n { s.core c with srMoved := false } [] :=
  (h.runs n).setCore _

/-- What follows the effect `r` of an instruction: a trap is taken from the state before it. -/
def State.goesOn (s : State) (c : Nat) (w : Word) (r : State × CoreFlow) : State :=
  (match r.2 with
    | .trap _ _ _ => s
    | _ => r.1).coreGoOn c w r.2

theorem State.coreInstr_ready (h : s.coreReady c w) (n : Nat) (eff : CoreOp → State → Option (State × CoreFlow)) :
    (decodeCore (isDean c) w = none → s.coreInstr c n .clean eff = (s.ticked c n).coreTrap c trapIllegal 0 none 0) ∧
    (∀ op r, decodeCore (isDean c) w = some op → eff op (s.begun c n) = some r → s.coreInstr c n .clean eff =
      if (s.core c).atBodyEnd && op.transfers then (s.ticked c n).coreTrap c trapLoop 0 none 0 else (s.ticked c n).goesOn c w r) := by
  obtain ⟨dsp, moving, run, free, -, next, inside⟩ := h
  have now : s.coreStateNow c = coreRun := by
    rw [State.coreStateNow, run]
    rfl
  have core : ((s.setCoreState c coreRun).addCycles c n).core c = s.core c := rfl
  have far : ((s.core c).fetches && decide (progWords c ≤ (s.core c).pc)) = false := by
    cases hf : (s.core c).fetches
    · rfl
    · have := inside hf
      simp only [Bool.true_and, decide_eq_false_iff_not]
      omega
  have clean : (CoreUpset.clean == CoreUpset.residue) = false ∧ (CoreUpset.clean == CoreUpset.progUncorrectable) = false ∧
    (CoreUpset.clean == CoreUpset.progCorrected) = false := by decide
  obtain ⟨c1, c2, c3⟩ := clean
  unfold State.coreInstr
  simp only [dsp, moving, now, free, core, far, next, c1, c2, c3, Bool.not_true, Bool.or_false, bne_self_eq_false, Option.isSome_none, Bool.false_eq_true,
    if_false, Bool.and_false, Bool.false_and]
  refine ⟨fun hop => by rw [hop]; rfl, fun op r hop he => ?_⟩
  rw [State.begun, State.ticked] at he
  simp only [free] at he
  simp only [hop, he]
  rfl

/-- The core after an instruction whose effect left `y`, as execution goes on. -/
def CoreState.follows (y : CoreState) (c : Nat) (w : Word) : CoreFlow → CoreState
  | .jump a => y.jumps c w a
  | .skip a => ((y.record w).recordSkipped a).pass c a
  | .repeatNext m => { (y.record w).pass c y.pc with rpt := some (m, none) }
  | .stall a => { y with sys := some a }
  | _ => y.advance c w

/-- Execution goes on without a stop, a wait or a trap. -/
def CoreFlow.plain : CoreFlow → Prop
  | .halt | .wait | .trap _ _ _ => False
  | _ => True

theorem CoreState.record_stack (x : CoreState) (w : Word) : (x.record w).stack = x.stack ∧ (x.record w).pc = x.pc ∧ (x.record w).rpt = x.rpt := by
  unfold CoreState.record
  split
  · split_ifs <;> exact ⟨rfl, rfl, rfl⟩
  · exact ⟨rfl, rfl, rfl⟩

/-- An instruction with effect `r` leaves the core as it follows, and no further register. -/
theorem State.coreRuns.goesOn {f : CoreFlow} (h : s.coreRuns t c n y as) (calm : s.on (Fld.CORE_CTRL_HALT_REQ c) = false) (apart : Reg.CORE_CTRL c ∉ as)
    (plain : f.plain) : s.coreRuns (v.goesOn c w (t, f)) c n (y.follows c w f) as ∧ (v.goesOn c w (t, f)).regs = t.regs := by
  have bound (z : CoreState) : (t.setCore c z).coreBoundary c = t.setCore c z :=
    State.coreBoundary_calm (((h.setCore z).on _ (coreCtrl_notMem apart)).trans calm)
  have own : t.core c = y := h.core
  cases f with
  | halt | wait | trap => exact plain.elim
  | seq =>
    have eq : v.goesOn c w (t, .seq) = (t.setCore c ((t.core c).advance c w)).coreBoundary c := rfl
    rw [eq, bound, own]
    exact ⟨h.setCore _, rfl⟩
  | jump a =>
    have eq : v.goesOn c w (t, .jump a) = (t.setCore c
      ({ (t.core c).record w with loops := closeLoops ((t.core c).record w).stack.length a ((t.core c).record w).loops }.goTo c a)).coreBoundary c := rfl
    rw [eq, bound, own, (y.record_stack w).1]
    exact ⟨h.setCore _, rfl⟩
  | skip a =>
    have eq : v.goesOn c w (t, .skip a) = (t.setCore c ((((t.core c).record w).recordSkipped a).pass c a)).coreBoundary c := rfl
    rw [eq, bound, own]
    exact ⟨h.setCore _, rfl⟩
  | repeatNext m =>
    have eq : v.goesOn c w (t, .repeatNext m) = (t.setCore c { ((t.core c).record w).pass c (t.core c).pc with rpt := some (m, none) }).coreBoundary c := rfl
    rw [eq, bound, own]
    exact ⟨h.setCore _, rfl⟩
  | stall a =>
    have eq : v.goesOn c w (t, .stall a) = (t.setCore c { t.core c with sys := some a }).coreBoundary c := rfl
    rw [eq, bound, own]
    exact ⟨h.setCore _, rfl⟩

/-- An instruction of a ready core whose effect leaves the core as `y` and goes on by `f`. -/
theorem State.coreReady.instr {eff : CoreOp → State → Option (State × CoreFlow)} {f : CoreFlow} (h : s.coreReady c w) (hop : decodeCore (isDean c) w = some op)
    (heff : ∀ v, s.coreRuns v c n { s.core c with srMoved := false } [] → ∃ t, eff op v = some (t, f) ∧ s.coreRuns t c n y as)
    (inside : op.transfers = false ∨ (s.core c).atBodyEnd = false) (apart : Reg.CORE_CTRL c ∉ as) (plain : f.plain) :
    s.coreRuns (s.coreInstr c n .clean eff) c n (y.follows c w f) as := by
  obtain ⟨t, run, runs⟩ := heff _ (h.begun_runs n)
  rw [(State.coreInstr_ready h n eff).2 op _ hop run, if_neg (by rcases inside with e | e <;> rw [e] <;> simp)]
  obtain ⟨-, -, -, -, calm, -⟩ := h
  exact (runs.goesOn calm apart plain).1

/-! ### Traps (R380) -/

/-- The core `x` after a trap with room on its stack. -/
def CoreState.trapped (x : CoreState) (c : Nat) : CoreState :=
  { x with
    stack := (x.pc, some x.sr) :: x.stack
    srMoved := false
    sys := none
    sr := setBitOf (setBitOf x.sr srTl true) srIe false }.goTo c 4

/-- What CORE_TRAP reads after a trap at `pc`. -/
def trapWord (cause info pc : Nat) : Word := BitVec.ofNat 32 (cause + 256 * (info % 256) + 65536 * (pc % 65536))

theorem trapWord_fields {cause : Nat} (h : cause < 256) (info pc c : Nat) : (Fld.CORE_TRAP_CAUSE c).of (trapWord cause info pc) = cause ∧
    (Fld.CORE_TRAP_INFO c).of (trapWord cause info pc) = info % 256 ∧ (Fld.CORE_TRAP_PC c).of (trapWord cause info pc) = pc % 65536 := by
  have i := Nat.mod_lt info (show 0 < 256 by decide)
  have p := Nat.mod_lt pc (show 0 < 65536 by decide)
  have word : (trapWord cause info pc).toNat = cause + 256 * (info % 256) + 65536 * (pc % 65536) := by
    rw [trapWord, BitVec.toNat_ofNat]
    exact Nat.mod_eq_of_lt (by omega)
  simp only [Fld.of, getField, word, Nat.shiftRight_eq_div_pow]
  refine ⟨?_, ?_, ?_⟩ <;> omega

/-- CORE_TRAP and, with an address, CORE_TRAP_ADDR are loaded. -/
def State.trapShown (s : State) (c cause info pc : Nat) (addr : Option Nat) : State :=
  let s := s.wr (Reg.CORE_TRAP c) (trapWord cause info pc)
  match addr with
  | some a => s.wr (Reg.CORE_TRAP_ADDR c) (BitVec.ofNat 32 a)
  | none => s

/-- The registers in which a trap shows beside the cycle count. -/
def trapRegs (c : Nat) (addr : Option Nat) : List Nat := Reg.CORE_TRAP c :: if addr.isSome then [Reg.CORE_TRAP_ADDR c] else []

theorem trapRegs_apart (c : Nat) (addr : Option Nat) : Reg.CORE_CYCLES_LO c ∉ trapRegs c addr ∧ Reg.CORE_CYCLES_HI c ∉ trapRegs c addr ∧
    Reg.CORE_CTRL c ∉ trapRegs c addr := by
  cases addr <;> simp only [trapRegs, Option.isSome_none, Option.isSome_some, Bool.false_eq_true, if_false, if_true, List.mem_cons, List.not_mem_nil, or_false,
    coreCyclesLo_eq, coreCyclesHi_eq, coreCtrl_eq, coreTrap_eq, coreTrapAddr_eq] <;> omega

theorem State.trapShown_shows (s : State) (c cause info pc : Nat) (addr : Option Nat) : s.beside (s.trapShown c cause info pc addr) ∧
    (s.trapShown c cause info pc addr).rd (Reg.CORE_TRAP c) = trapWord cause info pc ∧
    (∀ a, addr = some a → ((s.trapShown c cause info pc addr).rd (Reg.CORE_TRAP_ADDR c)).toNat = a % 2 ^ 32) ∧
    s.regsBut (s.trapShown c cause info pc addr) (trapRegs c addr) := by
  cases addr with
  | none => exact ⟨⟨_, rfl⟩, State.rd_wr_same _ _ _, fun _ h => (Option.some_ne_none _ h.symm).elim, (State.regsBut.refl s _).wr _ (by simp [trapRegs])⟩
  | some b =>
    refine ⟨⟨_, rfl⟩, ?_, fun a h => ?_, ((State.regsBut.refl s _).wr _ (by simp [trapRegs])).wr _ (by simp [trapRegs])⟩
    · exact (State.rd_wr_ne _ _ (by rw [coreTrap_eq, coreTrapAddr_eq]; omega)).trans (State.rd_wr_same _ _ _)
    · obtain rfl := Option.some.inj h
      exact (congrArg BitVec.toNat (State.rd_wr_same _ _ _)).trans (BitVec.toNat_ofNat _ _)

/-- Causes whose event is 0xD4. -/
def plainCause (cause : Nat) : Prop := cause ≠ trapResidue ∧ cause ≠ trapEccFetch ∧ cause ≠ trapEccData ∧ cause < 256

theorem State.coreTrap_eq (s : State) {cause : Nat} (hc : plainCause cause) (tl : (s.core c).flag srTl = false) (deep : (s.core c).stack.length < stackSize c)
    (info : Nat) (addr : Option Nat) (mem : Nat) : s.coreTrap c cause info addr mem =
      (((s.trapShown c cause info (s.core c).pc addr).setCore c ((s.core c).trapped c)).event 0xD4 (c + 256 * cause + 65536 * ((s.core c).pc % 65536))).coreBoundary c := by
  obtain ⟨residue, fetch, data, -⟩ := hc
  unfold State.coreTrap
  simp only [if_neg residue, tl, Bool.false_eq_true, if_false, if_pos deep, State.trapEvent, if_neg fetch, if_neg data]
  cases addr <;> rfl

/-- A trap of a core whose instruction has begun, or whose access has ended, in state `v`. -/
theorem State.coreRuns.traps {cause : Nat} (h : s.coreRuns v c n (s.core c) []) (fresh : v.fresh = s.fresh) (hc : plainCause cause)
    (tl : (s.core c).flag srTl = false) (deep : (s.core c).stack.length < stackSize c) (room : s.raiseRoom 1) (calm : s.on (Fld.CORE_CTRL_HALT_REQ c) = false)
    (info : Nat) (addr : Option Nat) (mem : Nat) :
    s.coreTraps (v.coreTrap c cause info addr mem) c n cause (info % 256) (s.occurrence 0xD4 (c + 256 * cause + 65536 * ((s.core c).pc % 65536)))
      (if addr.isSome then [Reg.CORE_TRAP_ADDR c] else []) ∧
    (∀ a, addr = some a → ((v.coreTrap c cause info addr mem).rd (Reg.CORE_TRAP_ADDR c)).toNat = a % 2 ^ 32) ∧
    (v.coreTrap c cause info addr mem).on (Fld.CORE_CTRL_HALT_REQ c) = false := by
  have own : v.core c = s.core c := h.core
  rw [State.coreTrap_eq v hc (by rw [own]; exact tl) (by rw [own]; exact deep), own]
  obtain ⟨lo, hi, ctrl⟩ := trapRegs_apart c addr
  obtain ⟨side, word, address, regs⟩ := v.trapShown_shows c cause info (s.core c).pc addr
  generalize v.trapShown c cause info (s.core c).pc addr = u at *
  have shown : s.coreRuns (u.setCore c ((s.core c).trapped c)) c n ((s.core c).trapped c) (trapRegs c addr) :=
    ((h.mono fun _ h => absurd h List.not_mem_nil).beside side regs lo hi).setCore _
  have fresh' : (u.setCore c ((s.core c).trapped c)).fresh = s.fresh := by
    rw [State.setCore_fresh, side.eq]
    exact fresh
  have rds (a : Nat) : (u.setCore c ((s.core c).trapped c)).rd a = u.rd a := rfl
  generalize u.setCore c ((s.core c).trapped c) = t at *
  have room' : t.raiseRoom 1 := room.congr (by rw [shown.shape]) (by rw [shown.shape])
  have raise : t.raise ++ [t.occurrence 0xD4 (c + 256 * cause + 65536 * ((s.core c).pc % 65536))] =
      s.raise ++ [s.occurrence 0xD4 (c + 256 * cause + 65536 * ((s.core c).pc % 65536))] := by
    rw [shown.shape]
    rfl
  rw [State.event_raiseRoom room' (by decide), raise]
  generalize he : s.raise ++ [s.occurrence 0xD4 (c + 256 * cause + 65536 * ((s.core c).pc % 65536))] = e
  have halt : t.on (Fld.CORE_CTRL_HALT_REQ c) = false := (shown.on _ (coreCtrl_notMem ctrl)).trans calm
  have same : t.regsBut { t with raise := e } [] := State.regsBut.of_regs rfl _
  have halt' : ({ t with raise := e } : State).on (Fld.CORE_CTRL_HALT_REQ c) = false := (same.on _ List.not_mem_nil).trans halt
  rw [State.coreBoundary_calm halt']
  obtain ⟨hcause, hinfo, hpc⟩ := trapWord_fields hc.2.2.2 info (s.core c).pc c
  have trapFld (f : Fld) (hf : f.addr = Reg.CORE_TRAP c) : ({ t with raise := e } : State).fld f = f.of (trapWord cause info (s.core c).pc) := by
    rw [same.fld _ List.not_mem_nil, State.fld, hf, rds, word]
    rfl
  have shape := shown.shape
  rw [fresh'] at shape
  refine ⟨⟨shown.core, shown.others, (trapFld _ rfl).trans hcause, (trapFld _ rfl).trans hinfo, (trapFld _ rfl).trans hpc, he.symm, ?_, shown.cycles,
    shown.regs.congr rfl⟩, fun a ha => (congrArg BitVec.toNat (rds _)).trans (address a ha), halt'⟩
  rw [shape]

theorem State.coreReady.ticked_fresh (s : State) (c n : Nat) : (s.ticked c n).fresh = s.fresh := rfl

/-- An instruction of a ready core whose effect is a trap. -/
theorem State.coreReady.instr_traps {eff : CoreOp → State → Option (State × CoreFlow)} {cause info : Nat} {addr : Option Nat} (h : s.coreReady c w)
    (hop : decodeCore (isDean c) w = some op) (heff : ∃ t, eff op (s.begun c n) = some (t, .trap cause info addr))
    (inside : op.transfers = false ∨ (s.core c).atBodyEnd = false) (hc : plainCause cause) (tl : (s.core c).flag srTl = false)
    (deep : (s.core c).stack.length < stackSize c) (room : s.raiseRoom 1) :
    s.coreTraps (s.coreInstr c n .clean eff) c n cause (info % 256) (s.occurrence 0xD4 (c + 256 * cause + 65536 * ((s.core c).pc % 65536)))
      (if addr.isSome then [Reg.CORE_TRAP_ADDR c] else []) ∧
    (∀ a, addr = some a → ((s.coreInstr c n .clean eff).rd (Reg.CORE_TRAP_ADDR c)).toNat = a % 2 ^ 32) := by
  obtain ⟨t, run⟩ := heff
  have runs := h.runs n
  rw [(State.coreInstr_ready h n eff).2 op _ hop run, if_neg (by rcases inside with e | e <;> rw [e] <;> simp)]
  obtain ⟨-, -, -, -, calm, -⟩ := h
  obtain ⟨traps, address, halt⟩ := runs.traps rfl hc tl deep room calm info addr 0
  have eq : (s.ticked c n).goesOn c w (t, .trap cause info addr) = ((s.ticked c n).coreTrap c cause info addr 0).coreBoundary c := rfl
  rw [eq, State.coreBoundary_calm halt]
  exact ⟨traps, address⟩

/-- A transfer at a body's end traps, whatever its effect. -/
theorem State.coreReady.transfer_traps {eff : CoreOp → State → Option (State × CoreFlow)} (h : s.coreReady c w) (hop : decodeCore (isDean c) w = some op)
    (heff : ∃ r, eff op (s.begun c n) = some r) (transfers : op.transfers = true) (last : (s.core c).atBodyEnd = true) (tl : (s.core c).flag srTl = false)
    (deep : (s.core c).stack.length < stackSize c) (room : s.raiseRoom 1) :
    s.coreTraps (s.coreInstr c n .clean eff) c n trapLoop 0 (s.occurrence 0xD4 (c + 256 * trapLoop + 65536 * ((s.core c).pc % 65536))) [] := by
  obtain ⟨r, run⟩ := heff
  have runs := h.runs n
  rw [(State.coreInstr_ready h n eff).2 op _ hop run, if_pos (by rw [last, transfers]; rfl)]
  obtain ⟨-, -, -, -, calm, -⟩ := h
  exact (runs.traps rfl ⟨by decide, by decide, by decide, by decide⟩ tl deep room calm 0 none 0).1

/-- A word that is no instruction traps, whatever command executes it. -/
theorem State.coreReady.illegal_traps (eff : CoreOp → State → Option (State × CoreFlow)) (h : s.coreReady c w) (hop : decodeCore (isDean c) w = none)
    (tl : (s.core c).flag srTl = false) (deep : (s.core c).stack.length < stackSize c) (room : s.raiseRoom 1) :
    s.coreTraps (s.coreInstr c n .clean eff) c n trapIllegal 0 (s.occurrence 0xD4 (c + 256 * trapIllegal + 65536 * ((s.core c).pc % 65536))) [] := by
  have runs := h.runs n
  rw [(State.coreInstr_ready h n eff).1 hop]
  obtain ⟨-, -, -, -, calm, -⟩ := h
  exact (runs.traps rfl ⟨by decide, by decide, by decide, by decide⟩ tl deep room calm 0 none 0).1

end Sys2Proof.Machine

/-!
PROOFS. Control, branch, loop and repeat instructions of the signal processors (O52).
-/

namespace Sys2Proof.Machine

variable {s t u v : State} {as : List Nat} {k : Fin 13} {c n m d a : Nat} {w : Word} {x y z : CoreState} {op : CoreOp}

theorem State.coreRuns.onCore (h : s.coreRuns v c n x as) (f : CoreState → CoreState) : s.coreRuns (v.onCore c f) c n (f x) as := by
  rw [State.onCore, h.core]
  exact h.setCore _

/-! ### Control -/

theorem nop_runs (h : s.coreReady k.val w) (hx : x = { s.core k.val with srMoved := false }) (hop : decodeCore (isDean k.val) w = some .nop) :
    ∃ t, exec (.nop k n .clean) s = .next t ∧ s.coreRuns t k.val n (x.advance k.val w) [] := by
  subst hx
  exact ⟨_, rfl, h.instr (f := .seq) hop (fun v r => ⟨v, rfl, r⟩) (.inl rfl) List.not_mem_nil trivial⟩

theorem debug_runs (h : s.coreReady k.val w) (hx : x = { s.core k.val with srMoved := false }) (hop : decodeCore (isDean k.val) w = some .debug) :
    ∃ t, exec (.debug k n .clean) s = .next t ∧ s.coreRuns t k.val n (x.advance k.val w) [] := by
  subst hx
  exact ⟨_, rfl, h.instr (f := .seq) hop (fun v r => ⟨v, rfl, r⟩) (.inl rfl) List.not_mem_nil trivial⟩

theorem coreStatus_notMem : Reg.CORE_STATUS c ∉ coreRegs c [] := by
  simp only [coreRegs, List.mem_cons, List.not_mem_nil, or_false, coreCyclesLo_eq, coreCyclesHi_eq, coreStatus_eq]
  omega

theorem State.coreRuns.setCoreState (h : s.coreRuns t c n y []) (st : Nat) (hst : st < 8) : s.coreRuns (t.setCoreState c st) c n y [Reg.CORE_STATUS c] ∧
    (t.setCoreState c st).coreState c = st :=
  ⟨(h.mono fun _ h => absurd h List.not_mem_nil).beside ⟨_, rfl⟩ ((State.regsBut.refl t _).setFld _ (by simp))
      (by rw [List.mem_singleton, coreCyclesLo_eq, coreStatus_eq]; omega) (by rw [List.mem_singleton, coreCyclesHi_eq, coreStatus_eq]; omega),
    State.fld_setFld_same _ _ _ (by simp) hst⟩

theorem coreStatus_ne_coreCtrl : Reg.CORE_CTRL c ∉ [Reg.CORE_STATUS c] := by
  rw [List.mem_singleton, coreCtrl_eq, coreStatus_eq]
  omega

theorem CoreState.advance_rpt (x : CoreState) (c : Nat) (w : Word) (h : x.rpt = none) : (x.advance c w).rpt = none := by
  have fill (z : CoreState) : (z.fill c).rpt = z.rpt := by
    unfold CoreState.fill
    split_ifs <;> rfl
  rw [CoreState.advance, h]
  dsimp only
  unfold CoreState.pass
  dsimp only
  split_ifs
  · exact fill _
  · exact fill _

theorem halt_stops (h : s.coreReady k.val w) (hx : x = { s.core k.val with srMoved := false }) (hop : decodeCore (isDean k.val) w = some .halt) (once : x.rpt = none) :
    ∃ t, exec (.halt k n .clean) s = .next t ∧ t.coreState k.val = coreHalted ∧ s.coreRuns t k.val n (x.advance k.val w) [Reg.CORE_STATUS k.val] := by
  subst hx
  have runs := (h.begun_runs n).setCore (({ s.core k.val with srMoved := false } : CoreState).advance k.val w)
  have eq : (s.ticked k.val n).goesOn k.val w (s.begun k.val n, .halt) = (((s.begun k.val n).setCore k.val (((s.begun k.val n).core k.val).advance k.val w)).iff
      (((s.begun k.val n).core k.val).advance k.val w).rpt.isNone (fun s => s.setCoreState k.val coreHalted)).coreBoundary k.val := rfl
  have run := (State.coreInstr_ready h n (fun op s => match op with
    | .halt => some (s, .halt)
    | _ => none)).2 _ (s.begun k.val n, .halt) hop rfl
  rw [if_neg (by simp [CoreOp.transfers]), eq, (h.begun_runs n).core, CoreState.advance_rpt _ _ _ once, State.iff, Option.isNone_none, if_pos rfl] at run
  obtain ⟨stopped, state⟩ := runs.setCoreState coreHalted (by decide)
  rw [State.coreBoundary_calm ((stopped.on _ (coreCtrl_notMem coreStatus_ne_coreCtrl)).trans h.2.2.2.2.1)] at run
  exact ⟨_, congrArg Host.Outcome.next run, state, stopped⟩

/-- The mailboxes of `y` are those of `x`. -/
def CoreState.sameBoxes (x y : CoreState) : Prop := y.mbxIn = x.mbxIn ∧ y.mbxOut = x.mbxOut

theorem CoreState.sameBoxes_record (x : CoreState) (w : Word) : x.sameBoxes (x.record w) := by
  unfold CoreState.record
  split
  · split_ifs <;> exact ⟨rfl, rfl⟩
  · exact ⟨rfl, rfl⟩

theorem CoreState.sameBoxes_fill (x : CoreState) (c : Nat) : x.sameBoxes (x.fill c) := by
  unfold CoreState.fill
  split_ifs <;> exact ⟨rfl, rfl⟩

theorem CoreState.sameBoxes_pass (x : CoreState) (c a : Nat) : x.sameBoxes (x.pass c a) := by
  unfold CoreState.pass
  dsimp only
  split_ifs
  · exact CoreState.sameBoxes_fill _ c
  · exact CoreState.sameBoxes_fill _ c

theorem CoreState.sameBoxes_advance (x : CoreState) (c : Nat) (w : Word) : x.sameBoxes (x.advance c w) := by
  have on : x.sameBoxes ((x.record w).pass c x.pc) :=
    ⟨((x.record w).sameBoxes_pass c x.pc).1.trans (x.sameBoxes_record w).1, ((x.record w).sameBoxes_pass c x.pc).2.trans (x.sameBoxes_record w).2⟩
  unfold CoreState.advance
  split
  · split_ifs
    · exact ⟨rfl, rfl⟩
    · exact on
  · exact on

/-- What pends for core `c` is the same where the mailboxes are, and every register but those of a cycle count. -/
theorem State.corePending_congr (boxes : ∀ d, (s.core d).sameBoxes (t.core d)) (regs : s.regsBut t (coreRegs c [])) : t.corePending c = s.corePending c := by
  have fields (f : Fld) (hf : f.addr ∉ coreRegs c []) : t.fld f = s.fld f := regs.fld f hf
  have base := coreBase_ge c
  have irq : t.fld (Fld.CORE_IRQ_PEND c) = s.fld (Fld.CORE_IRQ_PEND c) := fields _ (by
    simp only [coreRegs, List.mem_cons, List.not_mem_nil, or_false, coreCyclesLo_eq, coreCyclesHi_eq, coreIrq_eq]
    omega)
  have bell : t.fld (Fld.CORE_DOORBELL_COUNT c) = s.fld (Fld.CORE_DOORBELL_COUNT c) := fields _ (by
    simp only [coreRegs, List.mem_cons, List.not_mem_nil, or_false, coreCyclesLo_eq, coreCyclesHi_eq, coreDoorbell_eq]
    omega)
  have out : t.tutorsOut = s.tutorsOut := by
    unfold State.tutorsOut
    refine congrArg bitsToNat (List.map_congr_left fun n _ => ?_)
    rw [(boxes n).2]
  have fault : t.tutorsFault = s.tutorsFault := by
    unfold State.tutorsFault
    refine congrArg bitsToNat (List.map_congr_left fun n hn => ?_)
    have := List.mem_range.mp hn
    rw [show t.coreState n = s.coreState n from fields _ (by
      simp only [coreRegs, List.mem_cons, List.not_mem_nil, or_false, coreCyclesLo_eq, coreCyclesHi_eq, coreStatus_eq]
      unfold coreBase
      split_ifs <;> omega)]
  have routed : t.statRouted Reg.EVT_RT_DEANk = s.statRouted Reg.EVT_RT_DEANk := by
    have word (a : Nat) (ha : a < 0x410000) : t.rd a = s.rd a := regs a (by
      simp only [coreRegs, List.mem_cons, List.not_mem_nil, or_false, coreCyclesLo_eq, coreCyclesHi_eq]
      omega)
    unfold State.statRouted
    refine Bool.eq_iff_iff.mpr ?_
    simp only [List.any_eq_true, List.mem_range]
    refine exists_congr fun i => and_congr_right fun hi => ?_
    rw [word _ (by simp only [Reg.EVT_STATk]; omega), word _ (by simp only [Reg.EVT_RT_DEANk]; omega)]
  unfold State.corePending
  simp only [irq, bell, (boxes c).1, (boxes c).2, out, fault, routed]

theorem coreIrq_notMem : Reg.CORE_IRQ c ∉ coreRegs c [] := by
  simp only [coreRegs, List.mem_cons, List.not_mem_nil, or_false, coreCyclesLo_eq, coreCyclesHi_eq, coreIrq_eq]
  omega

theorem wait_waits (h : s.coreReady k.val w) (hx : x = { s.core k.val with srMoved := false }) (hop : decodeCore (isDean k.val) w = some .wait) :
    ∃ t, exec (.wait k n .clean) s = .next t ∧ t.coreState k.val = (if s.coreAwake k.val then coreRun else coreWait) ∧
      s.coreRuns t k.val n (x.advance k.val w) [Reg.CORE_STATUS k.val] := by
  subst hx
  have runs := (h.begun_runs n).setCore (({ s.core k.val with srMoved := false } : CoreState).advance k.val w)
  have eq : (s.ticked k.val n).goesOn k.val w (s.begun k.val n, .wait) =
      (if ((s.begun k.val n).setCore k.val (((s.begun k.val n).core k.val).advance k.val w)).coreAwake k.val then
        (s.begun k.val n).setCore k.val (((s.begun k.val n).core k.val).advance k.val w)
      else ((s.begun k.val n).setCore k.val (((s.begun k.val n).core k.val).advance k.val w)).setCoreState k.val coreWait).coreBoundary k.val := rfl
  have run := (State.coreInstr_ready h n (fun op s => match op with
    | .wait => some (s, .wait)
    | _ => none)).2 _ (s.begun k.val n, .wait) hop rfl
  rw [if_neg (by simp [CoreOp.transfers]), eq, (h.begun_runs n).core] at run
  have boxes (d : Nat) : (s.core d).sameBoxes (((s.begun k.val n).setCore k.val (({ s.core k.val with srMoved := false } : CoreState).advance k.val w)).core d) := by
    by_cases e : d = k.val
    · rw [e, runs.core]
      exact CoreState.sameBoxes_advance { s.core k.val with srMoved := false } _ _
    · rw [runs.others d e]
      exact ⟨rfl, rfl⟩
  have awake : ((s.begun k.val n).setCore k.val (({ s.core k.val with srMoved := false } : CoreState).advance k.val w)).coreAwake k.val = s.coreAwake k.val := by
    rw [State.coreAwake, State.corePending_congr boxes runs.regs, runs.fld _ coreIrq_notMem, State.coreAwake]
  generalize (s.begun k.val n).setCore k.val (({ s.core k.val with srMoved := false } : CoreState).advance k.val w) = v at *
  obtain ⟨dsp, moving, state, free, calm, -⟩ := h
  rw [awake] at run
  by_cases wakes : s.coreAwake k.val = true
  · rw [if_pos wakes, State.coreBoundary_calm ((runs.on _ (coreCtrl_notMem List.not_mem_nil)).trans calm)] at run
    refine ⟨_, congrArg Host.Outcome.next run, ?_, runs.mono fun _ h => absurd h List.not_mem_nil⟩
    rw [if_pos wakes]
    exact (runs.fld _ coreStatus_notMem).trans state
  · obtain ⟨stopped, waiting⟩ := runs.setCoreState coreWait (by decide)
    rw [if_neg wakes, State.coreBoundary_calm ((stopped.on _ (coreCtrl_notMem coreStatus_ne_coreCtrl)).trans calm)] at run
    refine ⟨_, congrArg Host.Outcome.next run, ?_, stopped⟩
    rw [if_neg wakes]
    exact waiting

theorem CoreState.isync_flat (x : CoreState) (flat : x.loops = []) :
    { x with queue := [], loops := x.loops.map (fun f => { f with cached := false, body := [] }) } = { x with queue := [] } := by
  rw [flat]
  rfl

theorem isync_runs (h : s.coreReady k.val w) (hx : x = { s.core k.val with srMoved := false }) (hop : decodeCore (isDean k.val) w = some .isync) (flat : x.loops = []) :
    ∃ t, exec (.isync k n .clean) s = .next t ∧ s.coreRuns t k.val n ({ x with queue := [] }.advance k.val w) [] := by
  have eq := x.isync_flat flat
  rw [← eq]
  subst hx
  exact ⟨_, rfl, h.instr (f := .seq) hop (fun v r => ⟨_, rfl, r.onCore (fun x =>
    { x with queue := [], loops := x.loops.map (fun f => { f with cached := false, body := [] }) })⟩) (.inl rfl) List.not_mem_nil trivial⟩

theorem bset_runs (h : s.coreReady k.val w) (hx : x = { s.core k.val with srMoved := false }) (hop : decodeCore (isDean k.val) w = some (.bset m)) :
    ∃ t, exec (.bset k n .clean) s = .next t ∧ s.coreRuns t k.val n ({ x with sr := x.sr ||| m % 2 ^ 14 }.advance k.val w) [] := by
  subst hx
  exact ⟨_, rfl, h.instr (f := .seq) hop (fun v r => ⟨_, rfl, r.onCore (fun x => { x with sr := x.sr ||| srMask m })⟩) (.inl rfl) List.not_mem_nil trivial⟩

theorem bclr_runs (h : s.coreReady k.val w) (hx : x = { s.core k.val with srMoved := false }) (hop : decodeCore (isDean k.val) w = some (.bclr m)) :
    ∃ t, exec (.bclr k n .clean) s = .next t ∧ s.coreRuns t k.val n ({ x with sr := x.sr - (x.sr &&& m % 2 ^ 14) }.advance k.val w) [] := by
  subst hx
  exact ⟨_, rfl, h.instr (f := .seq) hop (fun v r => ⟨_, rfl, r.onCore (fun x => { x with sr := x.sr - (x.sr &&& srMask m) })⟩) (.inl rfl) List.not_mem_nil trivial⟩

/-! ### Branches (R376, R384) -/

theorem bra_runs (h : s.coreReady k.val w) (hx : x = { s.core k.val with srMoved := false }) (inside : x.atBodyEnd = false)
    (hop : decodeCore (isDean k.val) w = some (.bra d a)) :
    ∃ t, exec (.bra k n .clean) s = .next t ∧ s.coreRuns t k.val n (if x.holds d then x.jumps k.val w a else x.advance k.val w) [] := by
  subst hx
  by_cases hd : ({ s.core k.val with srMoved := false } : CoreState).holds d = true
  · rw [if_pos hd]
    exact ⟨_, rfl, h.instr (f := .jump a) hop (fun v r => ⟨v, by dsimp only; rw [r.core, if_pos hd], r⟩) (.inr inside) List.not_mem_nil trivial⟩
  · rw [if_neg hd]
    exact ⟨_, rfl, h.instr (f := .seq) hop (fun v r => ⟨v, by dsimp only; rw [r.core, if_neg hd], r⟩) (.inr inside) List.not_mem_nil trivial⟩

theorem braAn_runs (h : s.coreReady k.val w) (hx : x = { s.core k.val with srMoved := false }) (inside : x.atBodyEnd = false)
    (hop : decodeCore (isDean k.val) w = some (.braAn d a)) :
    ∃ t, exec (.braAn k n .clean) s = .next t ∧ s.coreRuns t k.val n (if x.holds d then x.jumps k.val w (x.r (0x20 + a)) else x.advance k.val w) [] := by
  subst hx
  by_cases hd : ({ s.core k.val with srMoved := false } : CoreState).holds d = true
  · rw [if_pos hd]
    exact ⟨_, rfl, h.instr (f := .jump _) hop (fun v r => ⟨v, by dsimp only; rw [r.core, if_pos hd], r⟩) (.inr inside) List.not_mem_nil trivial⟩
  · rw [if_neg hd]
    exact ⟨_, rfl, h.instr (f := .seq) hop (fun v r => ⟨v, by dsimp only; rw [r.core, if_neg hd], r⟩) (.inr inside) List.not_mem_nil trivial⟩

theorem call_passes (h : s.coreReady k.val w) (hx : x = { s.core k.val with srMoved := false }) (inside : x.atBodyEnd = false)
    (hop : decodeCore (isDean k.val) w = some (.call d a)) (hd : x.holds d = false) :
    ∃ t, exec (.call k n .clean) s = .next t ∧ s.coreRuns t k.val n (x.advance k.val w) [] := by
  subst hx
  exact ⟨_, rfl, h.instr (f := .seq) hop (fun v r => ⟨v, by dsimp only; rw [r.core, hd]; rfl, r⟩) (.inr inside) List.not_mem_nil trivial⟩

theorem call_pushes (h : s.coreReady k.val w) (hx : x = { s.core k.val with srMoved := false }) (inside : x.atBodyEnd = false)
    (hop : decodeCore (isDean k.val) w = some (.call d a)) (hd : x.holds d = true) (deep : x.stack.length < stackSize k.val) :
    ∃ t, exec (.call k n .clean) s = .next t ∧ s.coreRuns t k.val n ({ x with stack := (x.pc + 1, none) :: x.stack }.jumps k.val w a) [] := by
  subst hx
  exact ⟨_, rfl, h.instr (f := .jump a) hop (fun v r => ⟨_, by dsimp only; rw [r.core, hd, if_neg (by decide), if_pos deep], r.setCore _⟩) (.inr inside)
    List.not_mem_nil trivial⟩

theorem ret_passes (h : s.coreReady k.val w) (hx : x = { s.core k.val with srMoved := false }) (inside : x.atBodyEnd = false)
    (hop : decodeCore (isDean k.val) w = some (.ret d)) (hd : x.holds d = false) :
    ∃ t, exec (.ret k n .clean) s = .next t ∧ s.coreRuns t k.val n (x.advance k.val w) [] := by
  subst hx
  exact ⟨_, rfl, h.instr (f := .seq) hop (fun v r => ⟨v, by dsimp only; rw [r.core, hd]; rfl, r⟩) (.inr inside) List.not_mem_nil trivial⟩

theorem ret_returns (h : s.coreReady k.val w) (hx : x = { s.core k.val with srMoved := false }) (inside : x.atBodyEnd = false)
    (hop : decodeCore (isDean k.val) w = some (.ret d)) (hd : x.holds d = true) {r : Option Nat} {st : List (Nat × Option Nat)} (top : x.stack = (a, r) :: st) :
    ∃ t, exec (.ret k n .clean) s = .next t ∧ s.coreRuns t k.val n ({ x with stack := st }.jumps k.val w a) [] := by
  subst hx
  exact ⟨_, rfl, h.instr (f := .jump a) hop (fun v r => ⟨_, by dsimp only; rw [r.core, hd, if_neg (by decide), top], r.setCore _⟩) (.inr inside)
    List.not_mem_nil trivial⟩

theorem rti_passes (h : s.coreReady k.val w) (hx : x = { s.core k.val with srMoved := false }) (inside : x.atBodyEnd = false)
    (hop : decodeCore (isDean k.val) w = some (.rti d)) (hd : x.holds d = false) :
    ∃ t, exec (.rti k n .clean) s = .next t ∧ s.coreRuns t k.val n (x.advance k.val w) [] := by
  subst hx
  exact ⟨_, rfl, h.instr (f := .seq) hop (fun v r => ⟨v, by dsimp only; rw [r.core, hd]; rfl, r⟩) (.inr inside) List.not_mem_nil trivial⟩

theorem rti_returns (h : s.coreReady k.val w) (hx : x = { s.core k.val with srMoved := false }) (inside : x.atBodyEnd = false)
    (hop : decodeCore (isDean k.val) w = some (.rti d)) (hd : x.holds d = true) {r : Nat} {st : List (Nat × Option Nat)} (top : x.stack = (a, some r) :: st) :
    ∃ t, exec (.rti k n .clean) s = .next t ∧ s.coreRuns t k.val n ({ x with stack := st, sr := r }.jumps k.val w a) [] := by
  subst hx
  exact ⟨_, rfl, h.instr (f := .jump a) hop (fun v r => ⟨_, by dsimp only; rw [r.core, hd, if_neg (by decide), top], r.setCore _⟩) (.inr inside)
    List.not_mem_nil trivial⟩

/-! ### Loops and repeats (R376, R377) -/

theorem State.coreRuns.openLoop_skips (h : s.coreRuns v c n x []) (last : Nat) : v.openLoop c 0 last = (v, .skip (x.pc + 1 + last)) := by
  rw [State.openLoop, h.core]
  rfl

theorem State.coreRuns.openLoop_opens (h : s.coreRuns v c n x []) (hm : m ≠ 0) (few : x.loops.length < 4) (last : Nat) :
    v.openLoop c m last = (v.setCore c { x with loops := ⟨x.pc + 1, x.pc + 1 + last, m, x.stack.length, [], false⟩ :: x.loops }, .seq) := by
  rw [State.openLoop, h.core, if_neg hm, if_pos few]

theorem loopImm_skips (h : s.coreReady k.val w) (hx : x = { s.core k.val with srMoved := false }) (inside : x.atBodyEnd = false)
    (hop : decodeCore (isDean k.val) w = some (.loopImm 0 a)) :
    ∃ t, exec (.loopImm k n .clean) s = .next t ∧ s.coreRuns t k.val n (((x.record w).recordSkipped (x.pc + 1 + a)).pass k.val (x.pc + 1 + a)) [] := by
  subst hx
  exact ⟨_, rfl, h.instr (f := .skip _) hop (fun v r => ⟨v, congrArg some (r.openLoop_skips a), r⟩) (.inr inside) List.not_mem_nil trivial⟩

theorem loopImm_opens (h : s.coreReady k.val w) (hx : x = { s.core k.val with srMoved := false }) (inside : x.atBodyEnd = false)
    (hop : decodeCore (isDean k.val) w = some (.loopImm m a)) (hm : m ≠ 0) (few : x.loops.length < 4) :
    ∃ t, exec (.loopImm k n .clean) s = .next t ∧
      s.coreRuns t k.val n ({ x with loops := ⟨x.pc + 1, x.pc + 1 + a, m, x.stack.length, [], false⟩ :: x.loops }.advance k.val w) [] := by
  subst hx
  exact ⟨_, rfl, h.instr (f := .seq) hop (fun v r => ⟨_, congrArg some (r.openLoop_opens hm few a), r.setCore _⟩) (.inr inside) List.not_mem_nil trivial⟩

theorem State.coreRuns.readCount (h : s.coreRuns v c n x []) (a : Nat) : v.readCount c a = (v.setCore c (x.readReg a).1, (x.readReg a).2 % 65536) := by
  rw [State.readCount, h.core]

theorem CoreState.readReg_rest (x : CoreState) (a : Nat) : (x.readReg a).1.pc = x.pc ∧ (x.readReg a).1.loops = x.loops ∧ (x.readReg a).1.stack = x.stack := by
  unfold CoreState.readReg
  split_ifs <;> exact ⟨rfl, rfl, rfl⟩

theorem loopReg_skips (h : s.coreReady k.val w) (hx : x = { s.core k.val with srMoved := false }) (inside : x.atBodyEnd = false)
    (hop : decodeCore (isDean k.val) w = some (.loopReg d a)) {v : CoreState × Nat} (hv : v = x.readReg d) (zero : v.2 % 65536 = 0) :
    ∃ t, exec (.loopReg k n .clean) s = .next t ∧ s.coreRuns t k.val n (((v.1.record w).recordSkipped (x.pc + 1 + a)).pass k.val (x.pc + 1 + a)) [] := by
  subst hx hv
  obtain ⟨pc, -, -⟩ := CoreState.readReg_rest { s.core k.val with srMoved := false } d
  rw [← pc]
  refine ⟨_, rfl, h.instr (f := .skip _) hop (fun v r => ⟨_, ?_, r.setCore _⟩) (.inr inside) List.not_mem_nil trivial⟩
  dsimp only
  rw [r.readCount, zero, (r.setCore _).openLoop_skips]

theorem loopReg_opens (h : s.coreReady k.val w) (hx : x = { s.core k.val with srMoved := false }) (inside : x.atBodyEnd = false)
    (hop : decodeCore (isDean k.val) w = some (.loopReg d a)) {v : CoreState × Nat} (hv : v = x.readReg d) (some' : v.2 % 65536 ≠ 0) (few : x.loops.length < 4) :
    ∃ t, exec (.loopReg k n .clean) s = .next t ∧ s.coreRuns t k.val n ({ v.1 with
      loops := ⟨x.pc + 1, x.pc + 1 + a, v.2 % 65536, x.stack.length, [], false⟩ :: x.loops }.advance k.val w) [] := by
  subst hv
  obtain ⟨pc, loops, stack⟩ := CoreState.readReg_rest x d
  rw [← pc, ← loops, ← stack]
  rw [← loops] at few
  subst hx
  refine ⟨_, rfl, h.instr (f := .seq) hop (fun v r => ⟨_, ?_, (r.setCore (CoreState.readReg { s.core k.val with srMoved := false } d).1).setCore _⟩) (.inr inside) List.not_mem_nil trivial⟩
  dsimp only
  rw [r.readCount, (r.setCore _).openLoop_opens some' few]

theorem State.coreRuns.rptFlow (h : s.coreRuns v c n x []) (m : Nat) : v.rptFlow c m = if m = 0 then .skip (x.pc + 1) else .repeatNext m := by
  rw [State.rptFlow, h.core]

theorem rptImm_runs (h : s.coreReady k.val w) (hx : x = { s.core k.val with srMoved := false }) (inside : x.atBodyEnd = false)
    (hop : decodeCore (isDean k.val) w = some (.rptImm m)) : ∃ t, exec (.rptImm k n .clean) s = .next t ∧
      s.coreRuns t k.val n (if m = 0 then ((x.record w).recordSkipped (x.pc + 1)).pass k.val (x.pc + 1)
        else { (x.record w).pass k.val x.pc with rpt := some (m, none) }) [] := by
  subst hx
  have run := fun v (r : s.coreRuns v k.val n { s.core k.val with srMoved := false } []) => r.rptFlow m
  split_ifs with zero
  · exact ⟨_, rfl, h.instr (f := .skip _) hop (fun v r => ⟨v, by dsimp only; rw [run v r, if_pos zero], r⟩) (.inr inside) List.not_mem_nil trivial⟩
  · exact ⟨_, rfl, h.instr (f := .repeatNext m) hop (fun v r => ⟨v, by dsimp only; rw [run v r, if_neg zero], r⟩) (.inr inside) List.not_mem_nil trivial⟩

theorem rptReg_runs (h : s.coreReady k.val w) (hx : x = { s.core k.val with srMoved := false }) (inside : x.atBodyEnd = false)
    (hop : decodeCore (isDean k.val) w = some (.rptReg d)) {v : CoreState × Nat} (hv : v = x.readReg d) : ∃ t, exec (.rptReg k n .clean) s = .next t ∧
      s.coreRuns t k.val n (if v.2 % 65536 = 0 then ((v.1.record w).recordSkipped (x.pc + 1)).pass k.val (x.pc + 1)
        else { (v.1.record w).pass k.val x.pc with rpt := some (v.2 % 65536, none) }) [] := by
  subst hv
  obtain ⟨pc, -, -⟩ := CoreState.readReg_rest x d
  rw [← pc]
  subst hx
  split_ifs with zero
  · refine ⟨_, rfl, h.instr (f := .skip _) hop (fun v r => ⟨_, ?_, r.setCore _⟩) (.inr inside) List.not_mem_nil trivial⟩
    dsimp only
    rw [r.readCount, (r.setCore _).rptFlow, if_pos zero]
  · refine ⟨_, rfl, h.instr (f := .repeatNext _) hop (fun v r => ⟨_, ?_, r.setCore _⟩) (.inr inside) List.not_mem_nil trivial⟩
    dsimp only
    rw [r.readCount, (r.setCore _).rptFlow, if_neg zero]

/-! ### Passing on, looping and repeating (R375 to R377) -/

theorem CoreState.fill_flat (x : CoreState) (c : Nat) (flat : x.loops = []) : x.fill c = { x with
    queue := x.queue ++ (((List.range (3 - x.queue.length)).map (x.pc + x.queue.length + ·)).filter (· < progWords c)).map x.progWord } := by
  have none : x.fromCache = none := by rw [CoreState.fromCache, flat]
  unfold CoreState.fill
  rw [none]
  rfl

theorem CoreState.record_flat (x : CoreState) (w : Word) (flat : x.loops = []) : x.record w = x := by
  rw [CoreState.record, flat]

theorem CoreState.advance_flat (x : CoreState) (c : Nat) (w : Word) (once : x.rpt = none) (flat : x.loops = []) {q : List Word} (hq : q = x.queue.drop 1) :
    x.advance c w = { x with pc := x.pc + 1, queue := q ++
      (((List.range (3 - q.length)).map (x.pc + 1 + q.length + ·)).filter (· < progWords c)).map x.progWord } := by
  subst hq
  rw [CoreState.advance, once]
  dsimp only
  rw [x.record_flat w flat, CoreState.pass, flat]
  have last : loopEnd (isDean c) x.stack.length x.pc [] = ([], x.pc + 1) := rfl
  simp only [last, if_true]
  rw [CoreState.fill_flat _ _ rfl]
  rfl

theorem CoreState.goTo_rest (x : CoreState) (c a : Nat) : (x.goTo c a).pc = a ∧ (x.goTo c a).loops = x.loops := by
  unfold CoreState.goTo CoreState.fill
  split_ifs <;> exact ⟨rfl, rfl⟩

theorem CoreState.fill_rest (x : CoreState) (c : Nat) : (x.fill c).pc = x.pc ∧ (x.fill c).loops = x.loops := by
  unfold CoreState.fill
  split_ifs <;> exact ⟨rfl, rfl⟩

/-- In sequence, the PC and the loops are what the loops' ends say. -/
theorem CoreState.pass_rest (x : CoreState) (c a : Nat) : (x.pass c a).pc = (loopEnd (isDean c) x.stack.length a x.loops).2 ∧
    (x.pass c a).loops = (loopEnd (isDean c) x.stack.length a x.loops).1 := by
  unfold CoreState.pass
  dsimp only
  split_ifs
  · exact CoreState.fill_rest _ _
  · exact CoreState.goTo_rest _ _ _

/-- The copy of a body leaves the loops' bounds, counts and depths. -/
theorem CoreState.record_loops (x : CoreState) (w : Word) {f : LoopFrame} {fs : List LoopFrame} (h : x.loops = f :: fs) :
    ∃ g : LoopFrame, (x.record w).loops = g :: fs ∧ g.first = f.first ∧ g.last = f.last ∧ g.count = f.count ∧ g.depth = f.depth := by
  rw [CoreState.record, h]
  dsimp only
  split_ifs
  · exact ⟨_, rfl, rfl, rfl, rfl, rfl⟩
  · exact ⟨f, h, rfl, rfl, rfl, rfl⟩

theorem LoopFrame.again_rest (f : LoopFrame) (dean : Bool) : (f.again dean).count = f.count - 1 ∧ (f.again dean).first = f.first := by
  unfold LoopFrame.again
  dsimp only
  split_ifs <;> exact ⟨rfl, rfl⟩

theorem CoreState.advance_loops (x : CoreState) (c : Nat) (w : Word) (once : x.rpt = none) {f : LoopFrame} {fs : List LoopFrame} (h : x.loops = f :: fs)
    (depth : f.depth = x.stack.length) (last : f.last = x.pc) :
    (1 < f.count → (x.advance c w).pc = f.first ∧ ((x.advance c w).loops.map (·.count)) = (f.count - 1) :: fs.map (·.count)) ∧
    (f.count ≤ 1 → fs = [] → (x.advance c w).pc = x.pc + 1 ∧ (x.advance c w).loops = []) := by
  obtain ⟨g, loops, first, glast, count, gdepth⟩ := x.record_loops w h
  obtain ⟨stack, -, -⟩ := x.record_stack w
  have adv : x.advance c w = (x.record w).pass c x.pc := by rw [CoreState.advance, once]
  obtain ⟨pc, rest⟩ := (x.record w).pass_rest c x.pc
  rw [adv, pc, rest, loops, stack]
  have here : g.depth = x.stack.length ∧ g.last = x.pc := ⟨gdepth.trans depth, glast.trans last⟩
  rw [loopEnd, if_pos here, count]
  refine ⟨fun more => ?_, fun done none => ?_⟩
  · obtain ⟨gcount, gfirst⟩ := g.again_rest (isDean c)
    rw [if_neg (by omega)]
    exact ⟨first, by rw [List.map_cons, gcount, count]⟩
  · rw [if_pos done, none]
    exact ⟨rfl, rfl⟩

theorem CoreState.advance_repeats (x : CoreState) (c : Nat) (w : Word) {m : Nat} (h : x.rpt.map (·.1) = some m) (more : 1 < m) :
    x.advance c w = { x with rpt := some (m - 1, some w) } := by
  obtain ⟨⟨i, o⟩, rpt, rfl⟩ := Option.map_eq_some_iff.mp h
  rw [CoreState.advance, rpt]
  exact if_pos more

/-! ### Traps of control instructions (R376, R379, R380) -/

section
variable (h : s.coreReady k.val w) (hx : x = { s.core k.val with srMoved := false }) (tl : x.flag srTl = false) (deep : x.stack.length < stackSize k.val)
  (room : s.raiseRoom 1)
include h hx tl deep room

theorem ret_traps (inside : x.atBodyEnd = false) (hop : decodeCore (isDean k.val) w = some (.ret d)) (hd : x.holds d = true) (empty : x.stack = []) :
    ∃ t, exec (.ret k n .clean) s = .next t ∧
      s.coreTraps t k.val n trapStack 0 (s.occurrence 0xD4 (k.val + 256 * trapStack + 65536 * (x.pc % 65536))) [] := by
  subst hx
  have own := (h.begun_runs n).core
  exact ⟨_, rfl, (h.instr_traps (cause := trapStack) (info := 0) (addr := none) hop ⟨_, by dsimp only; rw [own, hd, if_neg (by decide), empty]⟩ (.inr inside)
    ⟨by decide, by decide, by decide, by decide⟩ tl deep room).1⟩

theorem loopImm_traps (inside : x.atBodyEnd = false) (hop : decodeCore (isDean k.val) w = some (.loopImm m a)) (hm : m ≠ 0) (full : x.loops.length = 4) :
    ∃ t, exec (.loopImm k n .clean) s = .next t ∧
      s.coreTraps t k.val n trapLoop 0 (s.occurrence 0xD4 (k.val + 256 * trapLoop + 65536 * (x.pc % 65536))) [] := by
  subst hx
  have own := (h.begun_runs n).core
  exact ⟨_, rfl, (h.instr_traps (cause := trapLoop) (info := 0) (addr := none) hop ⟨_, by dsimp only; rw [State.openLoop, own, if_neg hm, if_neg (by rw [full]; decide)]⟩ (.inr inside)
    ⟨by decide, by decide, by decide, by decide⟩ tl deep room).1⟩

theorem trapSw_traps (hop : decodeCore (isDean k.val) w = some (.trap m)) : ∃ t, exec (.trapSw k n .clean) s = .next t ∧
    s.coreTraps t k.val n trapSoftware (m % 256) (s.occurrence 0xD4 (k.val + 256 * trapSoftware + 65536 * (x.pc % 65536))) [] := by
  subst hx
  exact ⟨_, rfl, (h.instr_traps (addr := none) hop ⟨_, rfl⟩ (.inl rfl) ⟨by decide, by decide, by decide, by decide⟩ tl deep room).1⟩

theorem illegal_traps (hop : decodeCore (isDean k.val) w = none) {i : Instr} (hi : i = .nop k n .clean ∨ i = .mac k n .clean ∨ i = .systemLoad k n .clean) :
    ∃ t, exec i s = .next t ∧
      s.coreTraps t k.val n trapIllegal 0 (s.occurrence 0xD4 (k.val + 256 * trapIllegal + 65536 * (x.pc % 65536))) [] := by
  subst hx
  rcases hi with rfl | rfl | rfl
  · exact ⟨_, rfl, h.illegal_traps _ hop tl deep room⟩
  · exact ⟨_, rfl, h.illegal_traps _ hop tl deep room⟩
  · exact ⟨_, rfl, h.illegal_traps _ hop tl deep room⟩

theorem bra_traps (hop : decodeCore (isDean k.val) w = some (.bra d a)) (last : x.atBodyEnd = true) : ∃ t, exec (.bra k n .clean) s = .next t ∧
    s.coreTraps t k.val n trapLoop 0 (s.occurrence 0xD4 (k.val + 256 * trapLoop + 65536 * (x.pc % 65536))) [] := by
  subst hx
  exact ⟨_, rfl, h.transfer_traps hop ⟨_, rfl⟩ rfl last tl deep room⟩

end

/-- Settles O52: the frame of an instruction of a ready core, then each control, branch, loop and repeat instruction, the traps, and how execution passes on. -/
theorem processorControlFlow : Obligations.ProcessorControlFlow := by
  unfold Obligations.ProcessorControlFlow
  intro k n w s c hc h x hx op hop
  subst hc
  have as {o : CoreOp} (e : op = some o) : decodeCore (isDean k.val) w = some o := hop.symm.trans e
  refine ⟨⟨fun e => nop_runs h hx (as e), fun e => debug_runs h hx (as e), fun e once => halt_stops h hx (as e) once, fun e => wait_waits h hx (as e),
      fun e flat => isync_runs h hx (as e) flat, fun m e => bset_runs h hx (as e), fun m e => bclr_runs h hx (as e)⟩,
    fun inside => ⟨fun d a e => bra_runs h hx inside (as e), fun d a e => braAn_runs h hx inside (as e),
      fun d a e => ⟨fun hd => call_passes h hx inside (as e) hd, fun hd deep => call_pushes h hx inside (as e) hd deep⟩,
      fun d e => ⟨fun hd => ret_passes h hx inside (as e) hd, fun a r st hd top => ret_returns h hx inside (as e) hd top,
        fun hd empty tl room => ret_traps h hx tl (by rw [empty]; unfold stackSize; split_ifs <;> decide) room inside (as e) hd empty⟩,
      fun d e => ⟨fun hd => rti_passes h hx inside (as e) hd, fun a r st hd top => rti_returns h hx inside (as e) hd top⟩,
      fun m l e => ⟨fun zero => loopImm_skips h hx inside (as (zero ▸ e)), fun hm few => loopImm_opens h hx inside (as e) hm few,
        fun hm full deep tl room => loopImm_traps h hx tl deep room inside (as e) hm full⟩,
      fun r l e v hv => ⟨fun zero => loopReg_skips h hx inside (as e) hv zero, fun some' few => loopReg_opens h hx inside (as e) hv some' few⟩,
      fun m e _ => rptImm_runs h hx inside (as e), fun r e v hv _ => rptReg_runs h hx inside (as e) hv⟩,
    fun tl deep room => ⟨fun m e => trapSw_traps h hx tl deep room (as e), fun e i hi => illegal_traps h hx tl deep room (hop.symm.trans e) hi,
      fun d a e last => bra_traps h hx tl deep room (as e) last⟩,
    fun once => ⟨fun q hq flat => x.advance_flat _ w once flat hq, fun f fs loops depth last => x.advance_loops _ w once loops depth last⟩,
    fun m rpt more => x.advance_repeats _ w rpt more⟩

end Sys2Proof.Machine

/-!
PROOFS. Arithmetic and moves of the signal processors (O53).
-/

namespace Sys2Proof.Machine

variable {s t u v : State} {as : List Nat} {k : Fin 13} {c n m d a r : Nat} {w : Word} {x y z : CoreState} {op : CoreOp}

/-! ### Results and flags (R369, R370) -/

theorem setBitOf_self (n i : Nat) : setBitOf n i (bitOf n i) = n := by
  unfold setBitOf
  have pos := Nat.two_pow_pos i
  cases hb : bitOf n i
  · simp
  · have set : n / 2 ^ i % 2 = 1 := by simpa [bitOf] using hb
    have big : 2 ^ i ≤ n := by
      by_contra less
      rw [Nat.div_eq_of_lt (by omega)] at set
      omega
    simp only [if_true]
    omega

theorem sext_toNat_lt {n : Nat} (hn : 0 < n) (v : Nat) : -(2 : Int) ^ (n - 1) ≤ sext n v ∧ sext n v < 2 ^ (n - 1) := by
  obtain ⟨m, rfl⟩ : ∃ m, n = m + 1 := ⟨n - 1, by omega⟩
  have bound : v % 2 ^ (m + 1) < 2 ^ (m + 1) := Nat.mod_lt _ (Nat.two_pow_pos _)
  unfold sext
  simp only [Nat.add_sub_cancel]
  generalize v % 2 ^ (m + 1) = x at *
  rw [Nat.pow_succ] at *
  have p : (2 : Int) ^ m = ((2 ^ m : Nat) : Int) := by push_cast; rfl
  rw [p]
  split_ifs <;> push_cast <;> omega

/-- A code of 56 bits fits 48 bits exactly where its value lies in the range of Q1.47. -/
theorem fits48_eq {code : Nat} (h : code < 2 ^ 56) : fits48 code = !decide (sext 56 code < -2 ^ 47 ∨ 2 ^ 47 ≤ sext 56 code) := by
  have top : code / 2 ^ 47 % 2 ^ 9 = code / 2 ^ 47 := Nat.mod_eq_of_lt (by omega)
  have all : code % 2 ^ 56 = code := Nat.mod_eq_of_lt h
  rw [Bool.eq_iff_iff]
  simp only [fits48, sext, top, all, Bool.or_eq_true, beq_iff_eq, Bool.not_eq_true', decide_eq_false_iff_not]
  split_ifs <;> push_cast <;> omega

theorem clamp48_eq (z : Int) : clamp48 z = max (-2 ^ 47) (min (2 ^ 47 - 1) z) := by
  unfold clamp48 satInt
  norm_num

/-- A result of the ALU with its flags is what the accumulator takes. -/
theorem CoreState.takes_eq (x : CoreState) (d : Nat) (z : Int) (b : Bool) :
    ((x.result z).1.setAcc d (x.result z).2).setFlags (x.result z).2 b = x.takes d z b := by
  have flags (y : CoreState) (q : Int) : (y.setAcc d (toCode 56 q)).setFlags (toCode 56 q) b =
      ((((y.setAcc d (toCode 56 q)).setFlag srC b).setFlag srV (decide (sext 56 (toCode 56 q) < -2 ^ 47 ∨ 2 ^ 47 ≤ sext 56 (toCode 56 q)))).setFlag srZ
        (toCode 56 q == 0)).setFlag srN (decide (sext 56 (toCode 56 q) < 0)) := by
    rw [CoreState.setFlags, fits48_eq (toCode_lt 56 q), Bool.not_not]
  unfold CoreState.takes
  dsimp only
  by_cases sat : (x.flag srSat && clamp48 z != z) = true
  · obtain ⟨on, differs⟩ := Bool.and_eq_true_iff.mp sat
    have clamps : decide (true = true ∧ clamp48 z ≠ z) = true := by simpa using differs
    rw [CoreState.result, if_pos sat, flags, on, if_pos rfl, ← clamp48_eq, clamps, Bool.or_true]
  · have kept : x.setFlag srCl (x.flag srCl) = x := by rw [CoreState.setFlag, CoreState.flag, setBitOf_self]
    have v : (if x.flag srSat = true then max (-2 ^ 47) (min (2 ^ 47 - 1) z) else z) = z := by
      split_ifs with on
      · rw [← clamp48_eq]
        simpa [on] using sat
      · rfl
    have stays : decide (x.flag srSat = true ∧ z ≠ z) = false := by simp
    rw [CoreState.result, if_neg sat, flags, v, stays, Bool.or_false, kept]

/-- The accumulator takes the result, with the carry that is stated or one that is open. -/
theorem State.coreRuns.aluDone (h : s.coreRuns v c n x as) (d : Nat) (z : Int) (carry : Option Bool) :
    ∃ (b : Bool) (t : State), v.aluDone c d z carry = (t, .seq) ∧ s.coreRuns t c n (x.takes d z b) as ∧ ∀ b', carry = some b' → b = b' := by
  refine ⟨carry.getD ((Config.openWord v.fresh).toNat % 2 == 1), _, rfl, ?_, fun b' e => by rw [e]; rfl⟩
  rw [h.core, CoreState.takes_eq]
  cases carry with
  | none => exact h.useFresh.setCore _
  | some _ => exact h.setCore _

/-- As for any start of the effect, for the one in which it begins. -/
theorem State.coreReady.instr_begun {eff : CoreOp → State → Option (State × CoreFlow)} {f : CoreFlow} (h : s.coreReady c w) (hop : decodeCore (isDean c) w = some op)
    (heff : ∃ t, eff op (s.begun c n) = some (t, f) ∧ s.coreRuns t c n y as)
    (inside : op.transfers = false ∨ (s.core c).atBodyEnd = false) (apart : Reg.CORE_CTRL c ∉ as) (plain : f.plain) :
    s.coreRuns (s.coreInstr c n .clean eff) c n (y.follows c w f) as := by
  obtain ⟨t, run, runs⟩ := heff
  rw [(State.coreInstr_ready h n eff).2 op _ hop run, if_neg (by rcases inside with e | e <;> rw [e] <;> simp)]
  obtain ⟨-, -, -, -, calm, -⟩ := h
  exact (runs.goesOn calm apart plain).1

/-- Command `i` of core `c` leaves the result `q` in accumulator `d` of `y`, with the carry that is stated. -/
def State.aluRuns (s : State) (i : Instr) (c n : Nat) (w : Word) (d : Nat) (y : CoreState) (q : Int) (carry : Option Bool) : Prop :=
  ∃ t, exec i s = .next t ∧ ∃ b : Bool, s.coreRuns t c n ((y.takes d q b).advance c w) [] ∧ ∀ b', carry = some b' → b = b'

/-- An ALU instruction whose effect is a result for accumulator `d`. -/
theorem alu_runs {i : Instr} {e j : Nat} {q : Int} {carry : Option Bool} (h : s.coreReady c w) {eff : CoreOp → State → Option (State × CoreFlow)}
    (run : exec i s = .next (s.coreInstr c n .clean eff)) (hop : decodeCore (isDean c) w = some (.alu e d r j))
    (heff : ∃ v, eff (.alu e d r j) (s.begun c n) = some (v.aluDone c d q carry) ∧ s.coreRuns v c n y []) : s.aluRuns i c n w d y q carry := by
  obtain ⟨v, he, runs⟩ := heff
  obtain ⟨b, t, done, taken, carried⟩ := runs.aluDone d q carry
  exact ⟨_, run, b, h.instr_begun (f := .seq) hop ⟨t, by rw [he, done], taken⟩ (.inl rfl) List.not_mem_nil trivial, carried⟩

/-! ### The instructions of the ALU (R385) -/

section
variable (ready : s.coreReady k.val w) (hx : x = { s.core k.val with srMoved := false })
include ready hx

theorem begun_runs_of : s.coreRuns (s.begun k.val n) k.val n x [] := by
  rw [hx]
  exact ready.begun_runs n

theorem clr_runs (hop : decodeCore (isDean k.val) w = some (.alu 0x00 d r a)) : s.aluRuns (.clr k n .clean) k.val n w d x 0 none :=
  alu_runs ready rfl hop ⟨_, rfl, begun_runs_of ready hx⟩

theorem mova_runs (hop : decodeCore (isDean k.val) w = some (.alu 0x01 d r a)) : s.aluRuns (.mova k n .clean) k.val n w d x (x.accVal r) none := by
  have start := begun_runs_of (n := n) ready hx
  exact alu_runs ready rfl hop ⟨_, by show some _ = some _; rw [start.core], start⟩

theorem addAcc_runs (hop : decodeCore (isDean k.val) w = some (.alu 0x02 d r a)) :
    s.aluRuns (.addAcc k n .clean) k.val n w d x (x.accVal d + x.accVal r) (some (sumCarry (x.accVal d) (x.accVal r))) := by
  have start := begun_runs_of (n := n) ready hx
  exact alu_runs ready rfl hop ⟨_, by show some _ = some _; rw [start.core], start⟩

theorem subAcc_runs (hop : decodeCore (isDean k.val) w = some (.alu 0x03 d r a)) :
    s.aluRuns (.subAcc k n .clean) k.val n w d x (x.accVal d - x.accVal r) none := by
  have start := begun_runs_of (n := n) ready hx
  exact alu_runs ready rfl hop ⟨_, by show some _ = some _; rw [start.core], start⟩

omit ready hx in
theorem State.coreRuns.negDone {q : Int} (h : s.coreRuns v c n x []) (fits : q ≠ -accLeast ∨ x.flag srSat = true) : v.negDone c d q = v.aluDone c d q none := by
  rw [State.negDone, h.core, if_neg]
  rintro ⟨least, sat⟩
  rcases fits with e | e
  · exact e least
  · rw [e] at sat
    exact absurd sat (by decide)

theorem negAcc_runs (hop : decodeCore (isDean k.val) w = some (.alu 0x04 d r a)) (fits : x.accVal r ≠ -2 ^ 55 ∨ x.flag srSat = true) :
    s.aluRuns (.negAcc k n .clean) k.val n w d x (-x.accVal r) none := by
  have start := begun_runs_of (n := n) ready hx
  refine alu_runs ready rfl hop ⟨_, ?_, start⟩
  show some _ = some _
  rw [start.core, start.negDone (fits.imp_left fun e h => e ?_)]
  rw [accLeast] at h
  omega

theorem absAcc_runs (hop : decodeCore (isDean k.val) w = some (.alu 0x05 d r a)) (fits : x.accVal r ≠ -2 ^ 55 ∨ x.flag srSat = true) :
    s.aluRuns (.absAcc k n .clean) k.val n w d x (x.accVal r).natAbs none := by
  have start := begun_runs_of (n := n) ready hx
  have bound := sext_toNat_lt (n := 56) (by decide) (x.accCode r)
  have val : sext 56 (x.accCode r) = x.accVal r := rfl
  rw [val] at bound
  refine alu_runs ready rfl hop ⟨_, ?_, start⟩
  show some _ = some _
  rw [start.core, start.negDone (fits.imp_left fun e h => e ?_)]
  rw [accLeast] at h
  simp only [Nat.reduceSub] at bound
  omega

/-- Of the least value with SAT 0 the result is open. -/
theorem neg_open {e : Nat} {i : Instr} {eff : CoreOp → State → Option (State × CoreFlow)} (run : exec i s = .next (s.coreInstr k.val n .clean eff))
    (hop : decodeCore (isDean k.val) w = some (.alu e d r a)) (heff : eff (.alu e d r a) (s.begun k.val n) = some ((s.begun k.val n).negDone k.val d (-accLeast)))
    (sat : x.flag srSat = false) : ∃ t, exec i s = .next t ∧ ∃ (b : Bool) (q : Int), s.coreRuns t k.val n ((x.takes d q b).advance k.val w) [] := by
  have start := begun_runs_of (n := n) ready hx
  have opened : (s.begun k.val n).negDone k.val d (-accLeast) =
      (s.begun k.val n).useFresh.useFresh.aluDone k.val d (s.begun k.val n).openAcc none := by
    rw [State.negDone, start.core, sat]
    exact if_pos ⟨rfl, rfl⟩
  obtain ⟨t, done, b, runs, -⟩ := alu_runs ready run hop ⟨_, heff.trans (congrArg some opened), start.useFresh.useFresh⟩
  exact ⟨t, done, b, _, runs⟩

theorem rnd_runs (hop : decodeCore (isDean k.val) w = some (.alu 0x07 d r a)) :
    s.aluRuns (.rnd k n .clean) k.val n w d x (roundHalfEven (x.accVal d) 24 * 2 ^ 24) none := by
  have start := begun_runs_of (n := n) ready hx
  exact alu_runs ready rfl hop ⟨_, by show some _ = some _; rw [start.core], start⟩

theorem asr_runs (hop : decodeCore (isDean k.val) w = some (.alu 0x0A d r a)) :
    s.aluRuns (.asr k n .clean) k.val n w d x (x.accVal r / 2 ^ a) none := by
  have start := begun_runs_of (n := n) ready hx
  exact alu_runs ready rfl hop ⟨_, by show some _ = some _; rw [start.core], start⟩

theorem norm_runs (hop : decodeCore (isDean k.val) w = some (.alu 0x10 d r a)) :
    s.aluRuns (.norm k n .clean) k.val n w d x (signBits (x.accVal r) * 2 ^ 24) none := by
  have start := begun_runs_of (n := n) ready hx
  exact alu_runs ready rfl hop ⟨_, by show some _ = some _; rw [start.core], start⟩

/-- CL as SATA leaves it. -/
theorem sata_runs (hop : decodeCore (isDean k.val) w = some (.alu 0x08 d r a)) : s.aluRuns (.sata k n .clean) k.val n w d
    (x.setFlag srCl (x.flag srCl || decide (x.accVal d < -2 ^ 47 ∨ 2 ^ 47 ≤ x.accVal d))) (max (-2 ^ 47) (min (2 ^ 47 - 1) (x.accVal d))) none := by
  have start := begun_runs_of (n := n) ready hx
  rw [← clamp48_eq]
  refine alu_runs ready rfl hop ⟨if clamp48 (x.accVal d) ≠ x.accVal d then (s.begun k.val n).onCore k.val (fun x => x.setFlag srCl true) else s.begun k.val n, ?_, ?_⟩
  · show some _ = some _
    rw [start.core]
  · have out : (clamp48 (x.accVal d) ≠ x.accVal d) ↔ (x.accVal d < -2 ^ 47 ∨ 2 ^ 47 ≤ x.accVal d) := by
      rw [clamp48_eq]
      omega
    split_ifs with clamps
    · rw [decide_eq_true (out.mp clamps), Bool.or_true]
      exact start.onCore _
    · rw [decide_eq_false (fun e => clamps (out.mpr e)), Bool.or_false, CoreState.setFlag, CoreState.flag, setBitOf_self]
      exact start

omit ready hx in
theorem State.coreRuns.alignedReg (h : s.coreRuns v c n x []) (a : Nat) : v.alignedReg c a = (v.setCore c (x.readReg a).1, sext 24 (x.readReg a).2 * 2 ^ 24) := by
  rw [State.alignedReg, h.core]

omit ready hx in
theorem CoreState.readReg_acc (x : CoreState) (a d : Nat) : (x.readReg a).1.accVal d = x.accVal d := by
  unfold CoreState.readReg
  split_ifs <;> rfl

theorem addr_runs (hop : decodeCore (isDean k.val) w = some (.alu 0x0B d r a)) : s.aluRuns (.addr k n .clean) k.val n w d (x.readReg a).1
    (x.accVal d + sext 24 (x.readReg a).2 * 2 ^ 24) (some (sumCarry (x.accVal d) (sext 24 (x.readReg a).2 * 2 ^ 24))) := by
  have start := begun_runs_of (n := n) ready hx
  exact alu_runs ready rfl hop ⟨_, by show some _ = some _; rw [start.alignedReg, start.core], start.setCore _⟩

theorem subr_runs (hop : decodeCore (isDean k.val) w = some (.alu 0x0C d r a)) : s.aluRuns (.subr k n .clean) k.val n w d (x.readReg a).1
    (x.accVal d - sext 24 (x.readReg a).2 * 2 ^ 24) none := by
  have start := begun_runs_of (n := n) ready hx
  exact alu_runs ready rfl hop ⟨_, by show some _ = some _; rw [start.alignedReg, start.core], start.setCore _⟩

/-- AND, OR and XOR act on H. -/
theorem logic_runs {e : Nat} {i : Instr} {eff : CoreOp → State → Option (State × CoreFlow)} {f : Nat → Nat → Nat}
    (run : exec i s = .next (s.coreInstr k.val n .clean eff)) (hop : decodeCore (isDean k.val) w = some (.alu e d r a))
    (heff : eff (.alu e d r a) (s.begun k.val n) = some ((s.begun k.val n).logicH k.val d r f)) : s.aluRuns i k.val n w d x
      (sext 56 (patch (x.accCode d) 24 24 (f (x.accCode d / 2 ^ 24 % 2 ^ 24) (x.accCode r / 2 ^ 24 % 2 ^ 24)))) none := by
  have start := begun_runs_of (n := n) ready hx
  exact alu_runs ready run hop ⟨_, by rw [heff, State.logicH, start.core], start⟩

theorem cmpAcc_runs (hop : decodeCore (isDean k.val) w = some (.alu 0x06 d r a)) : ∃ t, exec (.cmpAcc k n .clean) s = .next t ∧ ∃ b : Bool,
    s.coreRuns t k.val n ((x.setFlags (toCode 56 (x.accVal d - x.accVal r)) b).advance k.val w) [] := by
  have start := begun_runs_of (n := n) ready hx
  exact ⟨_, rfl, _, ready.instr_begun (f := .seq) hop ⟨_, by show some _ = some _; rw [start.core], start.useFresh.setCore _⟩ (.inl rfl) List.not_mem_nil trivial⟩

theorem asl_runs (hop : decodeCore (isDean k.val) w = some (.alu 0x09 d r a)) : ∃ t, exec (.asl k n .clean) s = .next t ∧ ∃ b : Bool,
    s.coreRuns t k.val n (((x.setAcc d (toCode 56 (x.accVal r * 2 ^ a))).setFlags (toCode 56 (x.accVal r * 2 ^ a)) b).advance k.val w) [] := by
  have start := begun_runs_of (n := n) ready hx
  exact ⟨_, rfl, _, ready.instr_begun (f := .seq) hop ⟨_, by show some _ = some _; rw [start.core], start.useFresh.setCore _⟩ (.inl rfl) List.not_mem_nil trivial⟩

/-! ### Address arithmetic and moves (R368, R373) -/

theorem moveA_runs {i : Instr} {an : Nat} {step : Int} {eff : CoreOp → State → Option (State × CoreFlow)}
    (run : exec i s = .next (s.coreInstr k.val n .clean eff)) (hop : decodeCore (isDean k.val) w = some op)
    (heff : eff op (s.begun k.val n) = some ((s.begun k.val n).moveA k.val an step)) (seq : op.transfers = false) : ∃ t, exec i s = .next t ∧
      s.coreRuns t k.val n ((x.setR (0x20 + an) (modular (x.r (0x20 + an)) (x.r (0x40 + an)) step)).advance k.val w) [] := by
  have start := begun_runs_of (n := n) ready hx
  exact ⟨_, run, ready.instr_begun (f := .seq) hop ⟨_, heff, start.onCore (fun x => x.setR (0x20 + an) (modular (x.r (0x20 + an)) (x.r (0x40 + an)) step))⟩
    (.inl seq) List.not_mem_nil trivial⟩

omit ready hx in
theorem CoreState.writeReg_congr (x : CoreState) (r : Nat) {a b : Nat} (h : a % 2 ^ 24 = b % 2 ^ 24) : x.writeReg r a = x.writeReg r b := by
  unfold CoreState.writeReg
  rw [h]

omit ready hx in
/-- MOVI's upper byte, within 24 bits. -/
theorem patch_upper (v m : Nat) : patch v 16 8 m % 2 ^ 24 = (v % 2 ^ 16 + 2 ^ 16 * (m % 256)) % 2 ^ 24 := by
  unfold patch
  omega

theorem movi_runs {p : Nat} (hop : decodeCore (isDean k.val) w = some (.movi r p m)) : ∃ t, exec (.moveImmediate k n .clean) s = .next t ∧
    s.coreRuns t k.val n ((x.writeReg r (if p = 0 then toCode 24 (sext 16 m) else x.peek r % 2 ^ 16 + 2 ^ 16 * (m % 256))).advance k.val w) [] := by
  have start := begun_runs_of (n := n) ready hx
  have same : x.writeReg r (if p = 0 then toCode 24 (sext 16 m) else patch (x.peek r) 16 8 m) =
      x.writeReg r (if p = 0 then toCode 24 (sext 16 m) else x.peek r % 2 ^ 16 + 2 ^ 16 * (m % 256)) := by
    refine x.writeReg_congr r ?_
    split_ifs
    · rfl
    · exact patch_upper _ _
  rw [← same]
  exact ⟨_, rfl, ready.instr_begun (f := .seq) hop ⟨_, rfl, start.onCore (fun x =>
    x.writeReg r (if p = 0 then toCode 24 (sext 16 m) else patch (x.peek r) 16 8 m))⟩ (.inl rfl) List.not_mem_nil trivial⟩

theorem move_runs (hop : decodeCore (isDean k.val) w = some (.move d r)) : ∃ t, exec (.registerMove k n .clean) s = .next t ∧
    s.coreRuns t k.val n (((x.readReg r).1.writeReg d (x.readReg r).2).advance k.val w) [] := by
  have start := begun_runs_of (n := n) ready hx
  exact ⟨_, rfl, ready.instr_begun (f := .seq) hop ⟨_, rfl, start.onCore (fun x => (x.readReg r).1.writeReg d (x.readReg r).2)⟩ (.inl rfl)
    List.not_mem_nil trivial⟩

end

theorem toCode_eq (n : Nat) (z : Int) : toCode n z = (z % 2 ^ n).toNat := by
  unfold toCode
  push_cast
  rfl

theorem modular_linear (a : Nat) (q : Int) : modular a 0 q = ((a + q) % 2 ^ 24).toNat := by
  rw [modular, if_pos rfl, toCode_eq]

theorem log2_pred (b : Nat) : (if 2 ^ b ≤ 1 then 0 else Nat.log2 (2 ^ b - 1) + 1) = b := by
  cases b with
  | zero => rfl
  | succ b =>
    have one : 1 ≤ 2 ^ b := Nat.two_pow_pos b
    have double : 2 ^ (b + 1) = 2 * 2 ^ b := by rw [Nat.pow_succ, Nat.mul_comm]
    have log : Nat.log2 (2 ^ (b + 1) - 1) = b := (Nat.log2_eq_iff (by omega)).mpr ⟨by omega, by omega⟩
    rw [if_neg (by omega), log]

theorem modular_buffer (a b : Nat) (q : Int) : modular (a - a % 2 ^ b) (2 ^ b) q = a - a % 2 ^ b + (q % 2 ^ b).toNat := by
  have pos := Nat.two_pow_pos b
  have aligned : (a - a % 2 ^ b) % 2 ^ b = 0 := by
    have := Nat.div_add_mod a (2 ^ b)
    rw [show a - a % 2 ^ b = 2 ^ b * (a / 2 ^ b) by omega]
    exact Nat.mul_mod_right _ _
  unfold modular
  dsimp only
  rw [if_neg (by omega), log2_pred, aligned, Nat.sub_zero, Nat.sub_self]
  simp

/-- A carry that is stated for code 2 alone. -/
theorem State.aluRuns.stated {i : Instr} {q : Int} {carry : Option Bool} (h : s.aluRuns i c n w d y q carry) {j : Nat} {g : Bool} (hj : j = 0x02 → carry = some g) :
    ∃ t, exec i s = .next t ∧ ∃ b : Bool, (s.coreRuns t c n ((y.takes d q b).advance c w) [] ∧ (j = 0x02 → b = g)) := by
  obtain ⟨t, run, b, runs, carried⟩ := h
  exact ⟨t, run, b, runs, fun e => carried g (hj e)⟩

theorem State.aluRuns.unstated {i : Instr} {q : Int} {carry : Option Bool} (h : s.aluRuns i c n w d y q carry) {g : Bool} (j : Nat) (hj : j ≠ 0x02) :
    ∃ t, exec i s = .next t ∧ ∃ b : Bool, (s.coreRuns t c n ((y.takes d q b).advance c w) [] ∧ (j = 0x02 → b = g)) := by
  obtain ⟨t, run, b, runs, -⟩ := h
  exact ⟨t, run, b, runs, fun e => absurd e hj⟩

/-- Settles O53: each ALU instruction through one rule for a result and its flags, address arithmetic, the moves, and modular addresses. -/
theorem processorArithmeticAndMoves : Obligations.ProcessorArithmeticAndMoves := by
  unfold Obligations.ProcessorArithmeticAndMoves
  intro k n w s c hc ready x hx op hop
  subst hc
  have as {o : CoreOp} (e : op = some o) : decodeCore (isDean k.val) w = some o := hop.symm.trans e
  refine ⟨fun d r h a ha v hv p hp hd hhd hr hhr => ⟨fun e he eop fits => ?_, fun e least sat => ?_, fun e least sat => ?_, fun e => ?_, fun e => ?_⟩,
    fun an o e he eop => ?_, fun r p m e => movi_runs ready hx (as e), fun d r e => move_runs ready hx (as e),
    fun a q => ⟨modular_linear a q, fun b => modular_buffer a b q⟩⟩
  · subst ha hv hp hhd hhr
    simp only [List.mem_cons, List.not_mem_nil, or_false] at he
    rcases he with rfl | rfl | rfl | rfl | rfl | rfl | rfl | rfl | rfl | rfl | rfl | rfl | rfl | rfl | rfl
    · exact (clr_runs ready hx (as eop)).unstated 0x00 (by decide)
    · exact (mova_runs ready hx (as eop)).unstated 0x01 (by decide)
    · exact (addAcc_runs ready hx (as eop)).stated fun _ => rfl
    · exact (subAcc_runs ready hx (as eop)).unstated 0x03 (by decide)
    · exact (negAcc_runs ready hx (as eop) (fits (.inl rfl))).unstated 0x04 (by decide)
    · exact (absAcc_runs ready hx (as eop) (fits (.inr rfl))).unstated 0x05 (by decide)
    · exact (rnd_runs ready hx (as eop)).unstated 0x07 (by decide)
    · exact (sata_runs ready hx (as eop)).unstated 0x08 (by decide)
    · exact (asr_runs ready hx (as eop)).unstated 0x0A (by decide)
    · exact (addr_runs ready hx (as eop)).unstated 0x0B (by decide)
    · exact (subr_runs ready hx (as eop)).unstated 0x0C (by decide)
    · exact (logic_runs ready hx (f := (· &&& ·)) rfl (as eop) rfl).unstated 0x0D (by decide)
    · exact (logic_runs ready hx (f := (· ||| ·)) rfl (as eop) rfl).unstated 0x0E (by decide)
    · exact (logic_runs ready hx (f := (· ^^^ ·)) rfl (as eop) rfl).unstated 0x0F (by decide)
    · exact (norm_runs ready hx (as eop)).unstated 0x10 (by decide)
  · refine neg_open ready hx rfl (as e) ?_ sat
    show some ((s.begun k.val n).negDone k.val d (-((s.begun k.val n).core k.val).accVal r)) = _
    rw [(begun_runs_of ready hx).core, ← hv, least]
    rfl
  · refine neg_open ready hx rfl (as e) ?_ sat
    show some ((s.begun k.val n).negDone k.val d (((s.begun k.val n).core k.val).accVal r).natAbs) = _
    rw [(begun_runs_of ready hx).core, ← hv, least]
    rfl
  · rw [ha, hv]
    exact cmpAcc_runs ready hx (as e)
  · rw [hv]
    exact asl_runs ready hx (as e)
  · have core := (begun_runs_of (n := n) ready hx).core
    simp only [List.mem_cons, List.not_mem_nil, or_false] at he
    rcases he with rfl | rfl | rfl
    · exact moveA_runs ready hx rfl (as eop) (by show some _ = some _; rw [core]) rfl
    · exact moveA_runs ready hx rfl (as eop) (by show some _ = some _; rw [core]) rfl
    · exact moveA_runs ready hx rfl (as eop) rfl rfl

end Sys2Proof.Machine

/-!
PROOFS. Multiplies and single moves of the signal processors (O54).
-/

namespace Sys2Proof.Machine

variable {s t u v : State} {as : List Nat} {k : Fin 13} {c n m d a r p : Nat} {w : Word} {x y z : CoreState} {op : CoreOp}

/-! ### Flags that are open -/

/-- Bits above the lowest four are kept by a write of one of these four. -/
theorem setBitOf_high (q : Nat) {i : Nat} (hi : i < 4) (b : Bool) : setBitOf q i b / 16 = q / 16 := by
  unfold setBitOf bitOf
  interval_cases i <;> cases b <;> simp only [Bool.false_eq_true, if_false, if_true, decide_eq_true_eq] <;> split_ifs <;> omega

/-- `y` is `x` but for its flags C, V, Z and N, the lowest four bits of SR. -/
def CoreState.sameButFlags (x y : CoreState) : Prop := ∃ f, y = { x with sr := f } ∧ f / 16 = x.sr / 16

theorem CoreState.sameButFlags.setAcc (h : x.sameButFlags y) (d q : Nat) : (x.setAcc d q).sameButFlags (y.setAcc d q) := by
  obtain ⟨f, rfl, hf⟩ := h
  exact ⟨f, rfl, hf⟩

theorem CoreState.sameButFlags_setFlags (x : CoreState) (code : Nat) (b : Bool) : x.sameButFlags (x.setFlags code b) := by
  refine ⟨_, rfl, ?_⟩
  simp only [CoreState.setFlag]
  rw [setBitOf_high _ (by decide), setBitOf_high _ (by decide), setBitOf_high _ (by decide), setBitOf_high _ (by decide)]

/-- A write of bit 4 goes by the bits from 4 on. -/
theorem setBitOf_four {f g : Nat} (h : f / 16 = g / 16) : setBitOf f 4 true / 16 = setBitOf g 4 true / 16 := by
  unfold setBitOf bitOf
  simp only [if_true, decide_eq_true_eq]
  split_ifs <;> omega

theorem CoreState.sameButFlags.result (h : x.sameButFlags y) (q : Int) : (x.result q).1.sameButFlags (y.result q).1 ∧ (y.result q).2 = (x.result q).2 := by
  obtain ⟨f, rfl, hf⟩ := h
  have sat : ({ x with sr := f } : CoreState).flag srSat = x.flag srSat := by
    show bitOf f 6 = bitOf x.sr 6
    unfold bitOf
    exact decide_eq_decide.mpr (by omega)
  have clamped : (x.setFlag srCl true).sameButFlags (({ x with sr := f } : CoreState).setFlag srCl true) :=
    ⟨setBitOf f srCl true, rfl, setBitOf_four hf⟩
  unfold CoreState.result
  rw [sat]
  split_ifs
  · exact ⟨clamped, rfl⟩
  · exact ⟨⟨f, rfl, hf⟩, rfl⟩

/-- The core with its four flags replaced by `i`. -/
def CoreState.flagsOpen (x : CoreState) (i : Nat) : CoreState := { x with sr := x.sr - x.sr % 16 + i }

theorem CoreState.sameButFlags.flagsOpen (h : x.sameButFlags y) (i : Nat) : y.flagsOpen i = x.flagsOpen i := by
  obtain ⟨f, rfl, hf⟩ := h
  have eq : f - f % 16 + i = x.sr - x.sr % 16 + i := by omega
  simp only [CoreState.flagsOpen, eq]

/-- A result in accumulator `d`, before its flags. -/
def CoreState.accepts (x : CoreState) (d : Nat) (q : Int) : CoreState := (x.result q).1.setAcc d (x.result q).2

theorem CoreState.takes_accepts (x : CoreState) (d : Nat) (q : Int) (b : Bool) : (x.accepts d q).sameButFlags (x.takes d q b) := by
  rw [← CoreState.takes_eq]
  exact CoreState.sameButFlags_setFlags _ _ _

theorem CoreState.sameButFlags.trans (h : x.sameButFlags y) (h' : y.sameButFlags z) : x.sameButFlags z := by
  obtain ⟨f, rfl, hf⟩ := h
  obtain ⟨g, rfl, hg⟩ := h'
  exact ⟨g, rfl, hg.trans hf⟩

theorem CoreState.sameButFlags.accepts (h : x.sameButFlags y) (d : Nat) (q : Int) : (x.accepts d q).sameButFlags (y.accepts d q) := by
  obtain ⟨same, code⟩ := h.result q
  rw [CoreState.accepts, CoreState.accepts, code]
  exact same.setAcc _ _

/-- Two results in a row leave, with their flags open, what they leave without the flags of either. -/
theorem CoreState.takes_twice (x : CoreState) (d e : Nat) (q r : Int) (i : Nat) :
    ((x.takes d q true).takes e r true).flagsOpen i = ((x.accepts d q).accepts e r).flagsOpen i :=
  ((((x.takes_accepts d q true).accepts e r).trans ((x.takes d q true).takes_accepts e r true))).flagsOpen i

/-! ### Multiplies (R370, R384) -/

/-- The product of two K registers, with the factor of IM in front. -/
theorem CoreState.product_eq (x : CoreState) (i j : Nat) : x.product i j = (if x.flag srIm then (1 : Int) else 2) * sext 24 (x.r i) * sext 24 (x.r j) := by
  unfold CoreState.product
  ring

/-- A multiply of one unit: its result with the carry of a MAC, then the parallel loads. -/
theorem State.coreRuns.mulDone_single (h : s.coreRuns v c n x []) (o : MulOp) (d b q : Nat) (lx ly : ParLoad) (m : Nat) :
    ∃ (i : Bool) (t : State), v.mulDone c o false d b q lx ly m = (t, .seq) ∧
      s.coreRuns t c n (((x.takes d (o.apply (x.accVal d) (x.product (pairs q).1.1 (pairs q).1.2)) i).parLoad c lx 0).parLoad c ly m) [] ∧
      (o = .mac → i = sumCarry (x.accVal d) (x.product (pairs q).1.1 (pairs q).1.2)) := by
  have done : v.mulDone c o false d b q lx ly m = ((if o != .mac then v.useFresh else v).setCore c
      (((x.takes d (o.apply (x.accVal d) (x.product (pairs q).1.1 (pairs q).1.2)) (if o = .mac then sumCarry (x.accVal d) (x.product (pairs q).1.1 (pairs q).1.2)
        else (Config.openWord v.fresh).toNat % 2 == 1)).parLoad c lx 0).parLoad c ly m), .seq) := by
    rw [State.mulDone, h.core, ← CoreState.takes_eq]
    rfl
  refine ⟨if o = .mac then sumCarry (x.accVal d) (x.product (pairs q).1.1 (pairs q).1.2) else (Config.openWord v.fresh).toNat % 2 == 1, _, done, ?_,
    fun e => if_pos e⟩
  split_ifs
  · exact h.useFresh.setCore _
  · exact h.useFresh.setCore _
  · exact h.setCore _
  · exact h.setCore _

/-- A multiply of both units: their two results with open flags, then the parallel loads. -/
theorem State.coreRuns.mulDone_dual (h : s.coreRuns v c n x []) (o : MulOp) (d b q : Nat) (lx ly : ParLoad) (m : Nat) :
    ∃ i < 16, ∃ t : State, v.mulDone c o true d b q lx ly m = (t, .seq) ∧
      s.coreRuns t c n (((((x.takes d (o.apply (x.accVal d) (x.product (pairs q).1.1 (pairs q).1.2)) true).takes b
        (o.apply (x.accVal b) (x.product (pairs q).2.1 (pairs q).2.2)) true).flagsOpen i).parLoad c lx 0).parLoad c ly m) [] := by
  refine ⟨(Config.openWord v.fresh).toNat % 16, Nat.mod_lt _ (by decide), ?_⟩
  rw [CoreState.takes_twice]
  have done : v.mulDone c o true d b q lx ly m = (v.useFresh.setCore c
      (((((x.accepts d (o.apply (x.accVal d) (x.product (pairs q).1.1 (pairs q).1.2))).accepts b
        (o.apply (x.accVal b) (x.product (pairs q).2.1 (pairs q).2.2))).flagsOpen ((Config.openWord v.fresh).toNat % 16)).parLoad c lx 0).parLoad c ly m), .seq) := by
    rw [State.mulDone, h.core]
    rfl
  exact ⟨_, done, h.useFresh.setCore _⟩

/-- A complex multiply: the two results of a pair with open flags, then the parallel loads. -/
theorem State.coreRuns.cmulDone (h : s.coreRuns v c n x []) (o : MulOp) (p j : Bool) (lx ly lz : ParLoad) {a : Nat} (ha : a = if p then 2 else 0) {q : Int}
    (hq : q = if j then -1 else 1) : ∃ i < 16, ∃ t : State, v.cmulDone c o p j lx ly lz = (t, .seq) ∧
      s.coreRuns t c n ((((((x.takes a (o.apply (x.accVal a) (x.product 0 2 - q * x.product 1 3)) true).takes (a + 1)
        (o.apply (x.accVal (a + 1)) (q * x.product 0 3 + x.product 1 2)) true).flagsOpen i).parLoad c lx 0).parLoad c ly 1).parLoad c lz 2) [] := by
  refine ⟨(Config.openWord v.fresh).toNat % 16, Nat.mod_lt _ (by decide), ?_⟩
  rw [CoreState.takes_twice]
  subst ha hq
  have done : v.cmulDone c o p j lx ly lz = (v.useFresh.setCore c
      ((((((x.accepts (if p then 2 else 0) (o.apply (x.accVal (if p then 2 else 0)) (x.product 0 2 - (if j then -1 else 1) * x.product 1 3))).accepts
        ((if p then 2 else 0) + 1) (o.apply (x.accVal ((if p then 2 else 0) + 1)) ((if j then -1 else 1) * x.product 0 3 + x.product 1 2))).flagsOpen
          ((Config.openWord v.fresh).toNat % 16)).parLoad c lx 0).parLoad c ly 1).parLoad c lz 2), .seq) := by
    rw [State.cmulDone, h.core]
    rfl
  exact ⟨_, done, h.useFresh.setCore _⟩

/-! ### The instructions of O54 -/

/-- `g` times the two factors that `PAIR` gives each unit. -/
theorem CoreState.product_pairs (x : CoreState) (p : Nat) {g : Int} (hg : g = if x.flag srIm then 1 else 2) {kr : Nat → Int} (hkr : kr = fun i => sext 24 (x.r i)) :
    x.product (pairs p).1.1 (pairs p).1.2 = g * kr 0 * kr (if p = 1 then 3 else 2) ∧
    x.product (pairs p).2.1 (pairs p).2.2 = g * kr (if p = 2 then 0 else 1) * kr (if p = 0 ∨ p = 2 then 3 else 2) := by
  subst hg hkr
  rw [CoreState.product_eq, CoreState.product_eq]
  match p with
  | 0 => exact ⟨rfl, rfl⟩
  | 1 => exact ⟨rfl, rfl⟩
  | 2 => exact ⟨rfl, rfl⟩
  | _ + 3 => exact ⟨rfl, rfl⟩

/-- What a multiply makes of a destination and a product, as the statement writes it. -/
theorem MulOp.apply_eq (o : MulOp) : o.apply = fun (v q : Int) => match o with | .mac => v + q | .msu => v - q | .mpy => q := by
  funext v q
  cases o <;> rfl

/-- An instruction with no transfer whose effect is a core's own state `y` passes on from it. -/
theorem passes_runs (ready : s.coreReady k.val w) {i : Instr} {eff : CoreOp → State → Option (State × CoreFlow)} (run : exec i s = .next (s.coreInstr k.val n .clean eff))
    (hop : decodeCore (isDean k.val) w = some op) (inside : op.transfers = false)
    (heff : ∃ t, eff op (s.begun k.val n) = some (t, .seq) ∧ s.coreRuns t k.val n y []) :
    ∃ t, exec i s = .next t ∧ s.coreRuns t k.val n (y.advance k.val w) [] :=
  ⟨_, run, ready.instr_begun (f := .seq) hop heff (.inl inside) List.not_mem_nil trivial⟩

section
variable (ready : s.coreReady k.val w) (hx : x = { s.core k.val with srMoved := false })
include ready hx

theorem mul_runs {i : Instr} {eff : CoreOp → State → Option (State × CoreFlow)} (run : exec i s = .next (s.coreInstr k.val n .clean eff)) {o : MulOp}
    {dual : Bool} {b q : Nat} {lx ly : ParLoad} (hop : decodeCore (isDean k.val) w = some (.mul o dual a b q lx ly m))
    (heff : ∀ v, eff (.mul o dual a b q lx ly m) v = some (v.mulDone k.val o dual a b q lx ly m))
    {g : Int} (hg : g = if x.flag srIm then 1 else 2) {kr : Nat → Int} (hkr : kr = fun i => sext 24 (x.r i))
    {p1 p2 : Int} (h1 : p1 = g * kr 0 * kr (if q = 1 then 3 else 2)) (h2 : p2 = g * kr (if q = 2 then 0 else 1) * kr (if q = 0 ∨ q = 2 then 3 else 2)) :
    ∃ t, exec i s = .next t ∧
      (dual = false → ∃ i : Bool, (s.coreRuns t k.val n ((((x.takes a (o.apply (x.accVal a) p1) i).parLoad k.val lx 0).parLoad k.val ly m).advance k.val w) [] ∧
        (o = .mac → i = decide (2 ^ 56 ≤ toCode 56 (x.accVal a) + toCode 56 p1)))) ∧
      (dual = true → ∃ i < 16, ∀ y, y = (x.takes a (o.apply (x.accVal a) p1) true).takes b (o.apply (x.accVal b) p2) true →
        s.coreRuns t k.val n ((((y.flagsOpen i).parLoad k.val lx 0).parLoad k.val ly m).advance k.val w) []) := by
  obtain ⟨e1, e2⟩ := x.product_pairs q hg hkr
  rw [← e1] at h1
  rw [← e2] at h2
  subst h1 h2
  have start := begun_runs_of (n := n) ready hx
  cases dual
  · obtain ⟨j, t, done, runs, carry⟩ := start.mulDone_single o a b q lx ly m
    obtain ⟨u, hu, out⟩ := passes_runs ready run hop rfl ⟨t, (heff _).trans (congrArg some done), runs⟩
    exact ⟨u, hu, fun _ => ⟨j, out, carry⟩, fun e => absurd e (by decide)⟩
  · obtain ⟨j, hj, t, done, runs⟩ := start.mulDone_dual o a b q lx ly m
    obtain ⟨u, hu, out⟩ := passes_runs ready run hop rfl ⟨t, (heff _).trans (congrArg some done), runs⟩
    exact ⟨u, hu, fun e => absurd e (by decide), fun _ => ⟨j, hj, fun y hy => hy ▸ out⟩⟩

theorem cmul_runs {i : Instr} {eff : CoreOp → State → Option (State × CoreFlow)} (run : exec i s = .next (s.coreInstr k.val n .clean eff)) {o : MulOp}
    {p j : Bool} {lx ly lz : ParLoad} (hop : decodeCore (isDean k.val) w = some (.cmul o p j lx ly lz))
    (heff : ∀ v, eff (.cmul o p j lx ly lz) v = some (v.cmulDone k.val o p j lx ly lz))
    {g : Int} (hg : g = if x.flag srIm then 1 else 2) {kr : Nat → Int} (hkr : kr = fun i => sext 24 (x.r i)) (ha : a = if p then 2 else 0)
    {q : Int} (hq : q = if j then -1 else 1)
    (hy : y = (x.takes a (o.apply (x.accVal a) (g * (kr 0 * kr 2 - q * (kr 1 * kr 3)))) true).takes (a + 1)
      (o.apply (x.accVal (a + 1)) (g * (q * (kr 0 * kr 3) + kr 1 * kr 2))) true) :
    ∃ t, exec i s = .next t ∧ ∃ i < 16,
      s.coreRuns t k.val n (((((y.flagsOpen i).parLoad k.val lx 0).parLoad k.val ly 1).parLoad k.val lz 2).advance k.val w) [] := by
  have re : x.product 0 2 - q * x.product 1 3 = g * (kr 0 * kr 2 - q * (kr 1 * kr 3)) := by
    rw [CoreState.product_eq, CoreState.product_eq, ← hg, hkr]
    ring
  have im : q * x.product 0 3 + x.product 1 2 = g * (q * (kr 0 * kr 3) + kr 1 * kr 2) := by
    rw [CoreState.product_eq, CoreState.product_eq, ← hg, hkr]
    ring
  obtain ⟨f, hf, t, done, runs⟩ := (begun_runs_of (n := n) ready hx).cmulDone o p j lx ly lz ha hq
  rw [re, im, ← hy] at runs
  obtain ⟨u, hu, out⟩ := passes_runs ready run hop rfl ⟨t, (heff _).trans (congrArg some done), runs⟩
  exact ⟨u, hu, f, hf, out⟩

theorem loads_runs {lx ly : ParLoad} (hop : decodeCore (isDean k.val) w = some (.loads lx ly m)) :
    ∃ t, exec (.parallelLoads k n .clean) s = .next t ∧ s.coreRuns t k.val n (((x.parLoad k.val lx 0).parLoad k.val ly m).advance k.val w) [] :=
  passes_runs ready rfl hop rfl ⟨_, rfl, (begun_runs_of (n := n) ready hx).onCore fun x => (x.parLoad k.val lx 0).parLoad k.val ly m⟩

variable {an mode : Nat}

theorem load_runs (hop : decodeCore (isDean k.val) w = some (.load m an mode r d)) {a : Nat × Nat} (ha : a = x.address an mode d 1)
    (known : a.2 = x.r (0x20 + an) ∨ r ≠ 0x20 + an) : ∃ t, exec (.singleMoveLoad k n .clean) s = .next t ∧
      s.coreRuns t k.val n (((x.setR (0x20 + an) a.2).writeReg r (x.readData m (a.1 % dataWords k.val))).advance k.val w) [] := by
  have start := begun_runs_of (n := n) ready hx
  refine passes_runs ready rfl hop rfl ⟨_, rfl, ?_⟩
  rw [State.singleLoad, start.core]
  rw [← ha, if_neg (by omega)]
  exact start.setCore _

theorem load_open (hop : decodeCore (isDean k.val) w = some (.load m an mode r d)) {a : Nat × Nat} (ha : a = x.address an mode d 1)
    (moves : a.2 ≠ x.r (0x20 + an)) (own : r = 0x20 + an) : ∃ t, exec (.singleMoveLoad k n .clean) s = .next t ∧
      ∃ v : Nat, s.coreRuns t k.val n ((x.setR r (v % 2 ^ 24)).advance k.val w) [] := by
  have start := begun_runs_of (n := n) ready hx
  obtain ⟨t, run, runs⟩ := passes_runs (y := x.setR r ((Config.openWord (s.begun k.val n).fresh).toNat % 2 ^ 24)) ready (i := .singleMoveLoad k n .clean) rfl hop rfl
    ⟨_, rfl, by
      rw [State.singleLoad, start.core]
      rw [← ha, if_pos ⟨moves, own⟩]
      exact start.useFresh.setCore _⟩
  exact ⟨t, run, _, runs⟩

theorem store_runs (hop : decodeCore (isDean k.val) w = some (.store m an mode r d)) {a : Nat × Nat} (ha : a = x.address an mode d 1) :
    ∃ t, exec (.singleMoveStore k n .clean) s = .next t ∧
      s.coreRuns t k.val n ((((x.readReg r).1.writeData m (a.1 % dataWords k.val) (x.peek r)).setR (0x20 + an) a.2).advance k.val w) [] := by
  subst ha
  exact passes_runs ready rfl hop rfl ⟨_, rfl, (begun_runs_of (n := n) ready hx).onCore fun x =>
    ((x.readReg r).1.writeData m ((x.address an mode d 1).1 % dataWords k.val) (x.readReg r).2).setR (0x20 + an) (x.address an mode d 1).2⟩

end

/-- The addresses and steps of the eight modes (R372). -/
theorem CoreState.address_modes (x : CoreState) (an d u : Nat) {a : Nat} (ha : a = x.r (0x20 + an)) {o : Int} (ho : o = sext 24 (x.r (0x30 + an)))
    {l : Nat} (hl : l = x.r (0x40 + an)) :
    x.address an 0 d u = (a, a) ∧ x.address an 1 d u = (a, modular a l u) ∧ x.address an 2 d u = (a, modular a l (-u)) ∧
    x.address an 3 d u = (a, modular a l o) ∧ x.address an 4 d u = (a, modular a l (-o)) ∧
    x.address an 5 d u = (((a + o) % 2 ^ 24).toNat, a) ∧ x.address an 6 d u = (a, bitRevStep a (x.r (0x30 + an))) ∧
    x.address an 7 d u = (((a + sext 11 d) % 2 ^ 24).toNat, a) := by
  subst ha ho hl
  rw [← toCode_eq, ← toCode_eq]
  exact ⟨rfl, rfl, rfl, rfl, rfl, rfl, rfl, rfl⟩

/-- Settles O54: each instruction's effect on its core, by `passes_runs`; the flags of two results in a row do not meet (`CoreState.takes_twice`). -/
theorem processorMultipliesAndMemory : Obligations.ProcessorMultipliesAndMemory := by
  unfold Obligations.ProcessorMultipliesAndMemory
  rintro k n w s _ rfl ready x hx op hop g hg kr hkr
  refine ⟨?_, ?_, ?_, ?_, ?_, ?_, fun an d u a ha o ho l hl => x.address_modes an d u ha ho hl⟩
  · intro e he dual a b p lx ly m hm p1 h1 p2 h2 f hf
    obtain rfl : f = e.2.apply := hf.trans e.2.apply_eq.symm
    rw [hop] at hm
    simp only [List.mem_cons, List.not_mem_nil, or_false] at he
    rcases he with rfl | rfl | rfl
    · exact mul_runs ready hx rfl hm (fun _ => rfl) hg hkr h1 h2
    · exact mul_runs ready hx rfl hm (fun _ => rfl) hg hkr h1 h2
    · exact mul_runs ready hx rfl hm (fun _ => rfl) hg hkr h1 h2
  · intro e he p j lx ly lz hm a ha q hq f hf y hy
    obtain rfl : f = e.2.apply := hf.trans e.2.apply_eq.symm
    rw [hop] at hm
    simp only [List.mem_cons, List.not_mem_nil, or_false] at he
    rcases he with rfl | rfl | rfl
    · exact cmul_runs ready hx rfl hm (fun _ => rfl) hg hkr ha hq hy
    · exact cmul_runs ready hx rfl hm (fun _ => rfl) hg hkr ha hq hy
    · exact cmul_runs ready hx rfl hm (fun _ => rfl) hg hkr ha hq hy
  · exact fun lx ly m hm => loads_runs ready hx (hop.symm.trans hm)
  · intro l m a ha _ _
    rw [ha]
    rfl
  · exact fun m an mode r d hm a ha => ⟨load_runs ready hx (hop.symm.trans hm) ha, load_open ready hx (hop.symm.trans hm) ha⟩
  · exact fun m an mode r d hm a ha => store_runs ready hx (hop.symm.trans hm) ha

end Sys2Proof.Machine

/-!
PROOFS. The release of a core from RESET while HALT_REQ is set (O55).
-/

namespace Sys2Proof.Machine

/-- T0 is held in RESET, with HALT_REQ set as a write of both bits leaves it. -/
def heldToHalt : State := { State.reset with domains := [pdAon, pdCtl, pdDsp], regs := [(Reg.CORE_CTRL 0, 3)] }

theorem heldToHalt_released : outReg (Reg.CORE_STATUS 0) (exec (.coreRstWrite 0 .dean 0) heldToHalt) = 3 := by decide +kernel

/-- Refutes O55: HALT_REQ is a bit that software only sets, so it outlives a write of CORE_CTRL that releases RST, and the released core halts at
its first boundary instead of running. -/
theorem not_processorSystemSide : ¬ Obligations.ProcessorSystemSide := by
  unfold Obligations.ProcessorSystemSide
  intro h
  obtain ⟨-, -, -, -, -, ctrl, -⟩ := h 0 0 .dean 0 heldToHalt 0 rfl _ rfl _ rfl
  obtain ⟨-, release, -⟩ := ctrl ⟨fun e => absurd e (by decide), by decide⟩
  obtain ⟨t, run, state, -⟩ := release (by decide) (by decide)
  have read := heldToHalt_released
  rw [run, outReg] at read
  rw [State.coreState, State.fld, read] at state
  exact absurd state (by decide)

end Sys2Proof.Machine

/-!
PROOFS. The guard conversion of a thermal channel whose group is off (O56).
-/

namespace Sys2Proof.Machine

/-- After a reset PD_PG0 is off, and HK0 gets no guard conversion. -/
theorem guardConversionDue_reset : exec (.guardConversionDue 0) State.reset = .next State.reset := by
  show Host.Outcome.next (if _ then _ else _) = _
  rw [if_neg (by decide)]

/-- Refutes O56: a guard conversion of HK0 to HK7 is due only while the channel's PD_PG is on, which its clause does not ask for. -/
theorem not_housekeepingConvertsAndCalibrates : ¬ Obligations.HousekeepingConvertsAndCalibrates := by
  unfold Obligations.HousekeepingConvertsAndCalibrates
  intro h
  obtain ⟨-, guard, -⟩ := h .dean 0 State.reset
  obtain ⟨starts, -⟩ := guard 0 (by decide) rfl
  obtain ⟨t, run, begun, -⟩ := starts rfl rfl rfl
  rw [guardConversionDue_reset] at run
  injection run with same
  have idle : t.hk.running = none := by rw [← same]; rfl
  rw [begun] at idle
  exact absurd idle (by simp)

end Sys2Proof.Machine

/-!
PROOFS. A reset that waits for the acknowledgement of an MGQ, at the entry instant of a sleep (O57).
-/

namespace Sys2Proof.Machine

/-- AIR_COUNT in the state that a command leaves. -/
def outAir : Out → Nat
  | .next t => t.air
  | _ => 0

/-- `resetWaits`, with a BELL WATCH entry that waits for its instant. -/
def sleepWaits : State :=
  { resetWaits with air := 1, pwr := { PwrState.idle with base := some 0, trans := some ⟨⟨4, 1, 0⟩, 0, 6, true, none, false, 0, 0, 0⟩ } }

set_option maxRecDepth 100000 in
theorem sleepWaits_air : outAir (exec (.entryInstant false) sleepWaits) = 0 := by decide +kernel

/-- Refutes O57: where a SOFT reset waits for an MGA, the entry into BELL WATCH takes the link out of ACTIVE and thereby begins that reset, which
clears AIR_COUNT. -/
theorem not_powerRequestsAndEntries : ¬ Obligations.PowerRequestsAndEntries := by
  unfold Obligations.PowerRequestsAndEntries
  intro h
  obtain ⟨-, entry, -⟩ := h .dean 0 0 sleepWaits _ rfl
  obtain ⟨-, deep, -⟩ := entry _ rfl rfl
  obtain ⟨t, run, -, -, -, -, -, -, -, -, -, -, -, air, -⟩ := deep (by decide)
  have read := sleepWaits_air
  rw [run, outAir, air] at read
  exact absurd read (by decide)

end Sys2Proof.Machine

/-!
PROOFS. A device wake whose stage 3 does not end, with a full raise FIFO (O58).
-/

namespace Sys2Proof.Machine

/-- Occurrences of event 0x06 that fill the raise FIFO. -/
def fullFifo : List EventRec := List.replicate 64 ⟨6, 0#32, 0⟩

/-- A wake from DEEP SLEEP in stage 3, the event unit on and its FIFO full. -/
def fullWake : State :=
  { State.reset with
    raise := fullFifo
    pwr := { PwrState.idle with base := some 3, trans := some ⟨⟨0, 7, 0⟩, 3, 3, false, some 3, false, 0, 0, 0⟩ } }

/-- The raise FIFO in the state that a command leaves. -/
def outRaise : Out → List EventRec
  | .next t => t.raise
  | _ => []

set_option maxRecDepth 100000 in
theorem fullWake_raise : outRaise (exec .wakeStageTimerExpiry fullWake) = fullFifo := by decide +kernel

/-- Refutes O58: its clause on a stage 3 that does not end asks for event 0xF5 without room in the raise FIFO; a full one loses it (R405). -/
theorem not_wakesAndSupplies : ¬ Obligations.WakesAndSupplies := by
  unfold Obligations.WakesAndSupplies
  intro h
  obtain ⟨wake, -⟩ := h .dean 0 fullWake
  obtain ⟨-, -, -, -, -, -, timeout⟩ := wake _ 3 rfl rfl rfl
  obtain ⟨t, run, -, -, -, ⟨e, mem, code, -⟩, -⟩ := timeout rfl
  have read := fullWake_raise
  rw [run, outRaise] at read
  rw [read] at mem
  rw [List.eq_of_mem_replicate mem] at code
  exact absurd code (by decide)

end Sys2Proof.Machine
